-- ==== Sys2Proof/Word.lean ====
section
/-!
DEFINITION. The plain words of the machine: a byte, a 32-bit and a 64-bit word (R3, R418).
-/
namespace Sys2Proof

/-- One byte of memory or of a packet. -/
abbrev Byte := BitVec 8

/-- One 32-bit word: a vector lane, an FP32 encoding, a 32-bit register. -/
abbrev Word32 := BitVec 32

/-- One 64-bit word: the value of a control-space slot (R418). -/
abbrev Word64 := BitVec 64

end Sys2Proof
end

