-- ==== Sys2Proof/Syntax.lean ====
section
/-!
DEFINITION. The commands of the device: one constructor per row of the spec's opcode table, in its order.

Operands that return in many rows, with the ranges the spec gives them:
w is who writes the register; v is the value written, as the register's width; n is the number of the register, queue,
partition, channel or port the row's rule indexes; slot is a slot of the operation table (R30); e is a tile engine, a a
matrix array, p a partition, q a queue pair; cyc is the ARRCLK cycle an array event falls in (R78, R81).
An operand whose type is wider than its rule allows is bounded in WellFormed.lean.
-/
namespace Sys2Proof

/-- Who writes a register: the lead control processor, the other one, or an HP queue pair (R5, R131, R420). -/
inductive Writer where
  | lead
  | other
  | qp (q : Fin 2048)
deriving DecidableEq, Repr

/-- NAK kinds of R352 and R358. -/
inductive NakKind where
  | invalidRequest | remoteAccess | remoteOperational | sequence
deriving DecidableEq, Repr

/-- A command: an event on a register, a queue, a port, a pin or one of the device's own engines. -/
inductive Instr where
  /-- WQ_TAIL_WRITE (R20): A write of CTL_WQ_TAIL_n rings the doorbell with a new running tail, or is ignored with an
  event when it overfills or moves backwards. -/
  | wqTailWrite (w : Writer) (n : Fin 64) (v : Word32)
  /-- WQ_BASE_WRITE (R45): A write of CTL_WQ_BASE_n sets the ring base, or is ignored with an event while the queue is
  enabled. -/
  | wqBaseWrite (w : Writer) (n : Fin 64) (v : Word64)
  /-- WQ_ENABLE (R45): A write of CTL_WQ_CFG_n that sets enable starts admission from the queue, or is refused with an
  event when the ring is not wholly owned by the queue's partition. -/
  | wqEnable (w : Writer) (n : Fin 64) (v : Word32)
  /-- WQ_DISABLE (R45): A write that clears CTL_WQ_CFG_n.enable stops admission from the queue while admitted items
  run on. -/
  | wqDisable (w : Writer) (n : Fin 64) (v : Word32)
  /-- CQ_ENABLE (R40): Setting enable on a completion or notice queue restarts its producer index at 0, zeroes its
  head and writes any held records oldest first. -/
  | cqEnable (w : Writer) (n : Fin 69) (v : Word64)
  /-- CQ_DISABLE (R41): Clearing enable on a completion or notice queue makes later records for it be held on chip or,
  for a notice queue, dropped and counted. -/
  | cqDisable (w : Writer) (n : Fin 69) (v : Word64)
  /-- CQ_HEAD_WRITE (R41): The runtime advances CTL_CQ_HEAD_n, which frees room so that held records are written and
  stalled items may issue. -/
  | cqHeadWrite (w : Writer) (n : Fin 64) (v : Word32)
  /-- DEPCTR_WRITE (R29): A software write sets a dependency counter and wins over a same-cycle hardware add. -/
  | depctrWrite (w : Writer) (n : Fin 16384) (v : Word32)
  /-- ABORT_REQ (R33): A write of CTL_ABORT_REQ seeks the oldest in-flight item of the queue with the tag and settles
  it or reports TOO_LATE, NOT_ABORTABLE or NOT_FOUND. -/
  | abortReq (w : Writer) (wq : Fin 64) (tag : Word32) (cq : Fin 64)
  /-- ABORT_SAFE_POINT (R34): An aborted item reaches its safe point, takes state ABORTED and posts its completion
  record with result ABORTED. -/
  | abortSafePoint (slot : Fin 4096)
  /-- ADMIT_ITEM (R23): The partition's admission unit takes the next work item in round-robin order, stamps it with
  the open step and checks it in order. -/
  | admitItem (p : Fin 4) (slot : Fin 4096)
  /-- MATMUL (R88): A MATMUL issues, is cut into units dealt to its eligible arrays and runs its passes. -/
  | matmul (slot : Fin 4096)
  /-- KERNEL (R113): A KERNEL issues, checks its first descriptors and deals its rows or vectors to the named engines.
  -/
  | kernel (slot : Fin 4096)
  /-- MOVE (R214): A STREAM with stack_op MOVE carries bytes between contexts through the stream engines alone. -/
  | move (slot : Fin 4096)
  /-- COPY (R216): A stack-engine COPY copies blocks within one HBM stack, carrying any poison to its destination. -/
  | copy (slot : Fin 4096)
  /-- REDUCE_ADD (R215): A stack-engine REDUCE_ADD adds the source into the destination element by element in the
  stack. -/
  | reduceAdd (slot : Fin 4096)
  /-- TRANSPOSE (R143): A stack-engine TRANSPOSE writes a turned copy through the turn buffers. -/
  | transpose (slot : Fin 4096)
  /-- EXPAND_E2M1 (R218): A stack-engine EXPAND_E2M1 expands E2M1 segments to E4M3 without writing scale planes. -/
  | expandE2m1 (slot : Fin 4096)
  /-- COLMAX (R219): A stack-engine COLMAX forms column maxima, derives scale planes and narrows the source unless
  planes_only is set. -/
  | colmax (slot : Fin 4096)
  /-- APPLY (R222): A stack-engine APPLY updates the shard by its update rule after its STEP fence closes, mirroring
  blocks to the twin when mirror is set. -/
  | apply (slot : Fin 4096)
  /-- TRAFFIC_TEST (R225): A TRAFFIC_TEST writes and checks a pattern over its region and writes the error fields.
  errors, first, pass, actual: what the memory itself answered: the mismatches counted, the place of the first among the
  sectors tested, the pass that met it, and the 8 bytes read there. -/
  | trafficTest (slot : Fin 4096) (errors : Word64) (first : Word64) (pass : Word64) (actual : Word64)
  /-- REDUCE_SCATTER (R266): A REDUCE_SCATTER issues, sends ENTRY upstream and folds the bucket on the ring, keeping
  owned chunks in FP32. -/
  | reduceScatter (slot : Fin 4096)
  /-- ALL_GATHER (R266): An ALL_GATHER issues and distributes owned chunks raw around the live ring. -/
  | allGather (slot : Fin 4096)
  /-- ALL_REDUCE (R266): An ALL_REDUCE issues, folds the bucket and gathers the wire-encoded final values to every
  member. -/
  | allReduce (slot : Fin 4096)
  /-- FENCE_QUEUE (R27): A QUEUE fence retires OK once every earlier item of its queue has retired, releasing the
  items it orders. -/
  | fenceQueue (slot : Fin 4096)
  /-- FENCE_PARTITION (R27): A PARTITION fence retires OK once every item of its partition admitted before it has
  retired. -/
  | fencePartition (slot : Fin 4096)
  /-- FENCE_STEP_CLOSE (R36): A STEP fence stamped s retires OK once every BWD item stamped s has retired, in
  ascending stamp order. -/
  | fenceStepClose (slot : Fin 4096)
  /-- SNAPSHOT (R302): A SNAPSHOT issues once earlier scope writers retire, reads its scope list and begins the stop.
  -/
  | snapshot (slot : Fin 4096)
  /-- SHIP (R310): A SHIP reads a sealed snapshot's records from the log and sends them by RDMA WRITE, re-encrypting
  where the key slot differs. -/
  | ship (slot : Fin 4096)
  /-- MARK (R24): A MARK retires with its payload, optionally also writing an event record and a notice. -/
  | mark (slot : Fin 4096)
  /-- ITEM_RETIRE (R32): The completion path settles an item DONE or FAILED once its side effects are visible and the
  item retires. -/
  | itemRetire (slot : Fin 4096)
  /-- TILE_LOAD_START (R78): The array begins broadcasting the next pass's stationary tile into the shadow registers
  within the permitted window. -/
  | tileLoadStart (a : Fin 4) (cyc : Nat)
  /-- PASS_START (R81): A pass starts at its boundary once its stirrup segment and tile are ready, with the
  shadow-to-active swap travelling diagonally. starved: the start is late for lack of stirrup or staging data; slices:
  the wait was for accumulator slices. -/
  | passStart (a : Fin 4) (cyc : Nat) (starved : Bool) (slices : Bool)
  /-- PASS_RETIRE (R83): A pass retires in the cycle after its last result is presented with no fault recorded, making
  its fold permanent. -/
  | passRetire (a : Fin 4)
  /-- PREEMPTION (R95): A higher-priority MATMUL becoming READY is granted the array, which starts its first pass at
  the current pass boundary. -/
  | preemption (a : Fin 4)
  /-- PASS_FAULT (R96): A detected array fault discards the faulted pass and every later started pass and reloads the
  faulted tile for reissue. idx: which pass in flight; kind 0 to 3 as EV-0x0201 names it, 4 an intake or fold residue
  fault, 5 a corrected single-bit error, 6 a fault localised to a drain-path stage, 7 scale-buffer parity; row and col where
  it was, and the ARRCLK cycle of its detection. -/
  | passFault (a : Fin 4) (idx : Fin 3) (kind : Fin 8) (row : Fin 1024) (col : Fin 512) (cyc : Nat)
  /-- ARY_REPAIR_REQ (R91): A write of ARY_REPAIR_REQ_n requests a field repair of a logical row at the next boundary,
  or is refused with an event. -/
  | aryRepairReq (w : Writer) (a : Fin 4) (v : Word32)
  /-- FIELD_REPAIR (R91): At a pass boundary with no pass in flight the repair map entry and shims change and the next
  tile reloads through the new map. -/
  | fieldRepair (a : Fin 4)
  /-- ARY_INJECT (R426): A write of ARY_INJECT_n injects one error of the chosen kind into the next pass to start,
  detected at its first use. -/
  | aryInject (w : Writer) (a : Fin 4) (v : Word32)
  /-- STIRRUP_WRITE (R142): The stirrup write network writes a run of 64 elements into skewed segment slots, and a
  segment becomes ready when complete. alongM: the run is 64 consecutive m at k0 from m0, else 64 consecutive k at m0
  from k0. -/
  | stirrupWrite (a : Fin 4) (alongM : Bool) (m0 : Nat) (k0 : Nat)
  /-- SKIVER_TILE_CONVERT (R110): When a 128-row tile is final in all sixteen engines, the max tree delivers its
  scales and each engine converts its columns. -/
  | skiverTileConvert (a : Fin 4)
  /-- EPILOGUE_RUN (R109): An epilogue kernel runs on each row's final sums after the last fold and before the skiver.
  v: the vector of the engine's share. -/
  | epilogueRun (e : Fin 64) (v : Nat)
  /-- NOP (R123): Kernel instruction NOP does nothing for one cycle. -/
  | kNop (e : Fin 64)
  /-- LD (R122): Kernel instruction LD loads an input context's elements into a vector register, converting to the
  lane type. -/
  | kLd (e : Fin 64)
  /-- ST (R122): Kernel instruction ST converts a register, or a product, to the output format and writes it, taking
  effect when the vector's last instruction retires. -/
  | kSt (e : Fin 64)
  /-- LDI (R119): Kernel instruction LDI places its immediate in every lane. -/
  | kLdi (e : Fin 64)
  /-- LDP (R123): Kernel instruction LDP loads an operation parameter into every lane. -/
  | kLdp (e : Fin 64)
  /-- LDS (R123): Kernel instruction LDS loads a row scalar into every lane. -/
  | kLds (e : Fin 64)
  /-- IDX (R123): Kernel instruction IDX writes the column or row index, or lane and vector index, as exact FP32. -/
  | kIdx (e : Fin 64)
  /-- LDK (R123): Kernel instruction LDK loads a program constant into every lane. -/
  | kLdk (e : Fin 64)
  /-- ADD (R118): Kernel instruction ADD adds two registers with one rounding. -/
  | kAdd (e : Fin 64)
  /-- SUB (R118): Kernel instruction SUB subtracts two registers with one rounding. -/
  | kSub (e : Fin 64)
  /-- MUL (R118): Kernel instruction MUL multiplies two registers with one rounding. -/
  | kMul (e : Fin 64)
  /-- FMA (R118): Kernel instruction FMA forms a fused multiply-add with one rounding. -/
  | kFma (e : Fin 64)
  /-- MIN (R118): Kernel instruction MIN takes the lane-wise minimum with NaN absorbing. -/
  | kMin (e : Fin 64)
  /-- MAX (R118): Kernel instruction MAX takes the lane-wise maximum with NaN absorbing. -/
  | kMax (e : Fin 64)
  /-- ABS (R123): Kernel instruction ABS takes the magnitude of a register. -/
  | kAbs (e : Fin 64)
  /-- NEG (R123): Kernel instruction NEG negates a register. -/
  | kNeg (e : Fin 64)
  /-- CLT (R118): Kernel instruction CLT writes a less-than compare mask. -/
  | kClt (e : Fin 64)
  /-- CLE (R118): Kernel instruction CLE writes a less-or-equal compare mask. -/
  | kCle (e : Fin 64)
  /-- CEQ (R118): Kernel instruction CEQ writes an equality compare mask. -/
  | kCeq (e : Fin 64)
  /-- CNE (R118): Kernel instruction CNE writes an inequality compare mask, true for NaN. -/
  | kCne (e : Fin 64)
  /-- SEL (R118): Kernel instruction SEL picks a where c is nonzero and b elsewhere. -/
  | kSel (e : Fin 64)
  /-- AND (R123): Kernel instruction AND forms a bitwise and. -/
  | kAnd (e : Fin 64)
  /-- OR (R123): Kernel instruction OR forms a bitwise or. -/
  | kOr (e : Fin 64)
  /-- XOR (R123): Kernel instruction XOR forms a bitwise exclusive or. -/
  | kXor (e : Fin 64)
  /-- FIN (R118): Kernel instruction FIN writes a mask of the finite lanes. -/
  | kFin (e : Fin 64)
  /-- EXP (R120): Kernel instruction EXP returns the correctly rounded exponential through the SFU. -/
  | kExp (e : Fin 64)
  /-- LOG (R120): Kernel instruction LOG returns the correctly rounded natural logarithm through the SFU. -/
  | kLog (e : Fin 64)
  /-- RCP (R120): Kernel instruction RCP returns the correctly rounded reciprocal through the SFU. -/
  | kRcp (e : Fin 64)
  /-- RSQ (R120): Kernel instruction RSQ returns the correctly rounded reciprocal square root through the SFU. -/
  | kRsq (e : Fin 64)
  /-- TANH (R120): Kernel instruction TANH returns the correctly rounded hyperbolic tangent through the SFU. -/
  | kTanh (e : Fin 64)
  /-- RSUM (R121): Kernel instruction RSUM sums active lanes by the fixed tree into a row scalar. -/
  | kRsum (e : Fin 64)
  /-- RMAX (R121): Kernel instruction RMAX reduces active lanes by maximum into a row scalar. -/
  | kRmax (e : Fin 64)
  /-- RMIN (R121): Kernel instruction RMIN reduces active lanes by minimum into a row scalar. -/
  | kRmin (e : Fin 64)
  /-- CVT (R123): Kernel instruction CVT rounds a register to a narrow format held as FP32, optionally stochastically.
  -/
  | kCvt (e : Fin 64)
  /-- VECTOR_FAULT (R126): A vector, SFU or register-file fault ends the current vector, which is re-executed up to
  reexec_limit times. parity: a register-file parity fault, else a residue fault. -/
  | vectorFault (e : Fin 64) (parity : Bool)
  /-- TILE_STORE_ECC_ERROR (R104): A tile-store read corrects a single-bit error or faults the word's owner on an
  uncorrectable error. addr: byte address in the tile store; corrected: a single-bit error; owner 0 the operation of
  slot, 1 a prefetched tile, 2 the awl buffer of tile l of the MATMUL in slot. -/
  | tileStoreEcc (e : Fin 64) (addr : Fin 8388608) (corrected : Bool) (owner : Fin 3) (slot : Fin 4096) (l : Nat)
  /-- TE_SPARE_CTRL (R127): A write of TE_SPARE_CTRL_s with go starts a spare switch-in for the target engine, or is
  ignored when the spare is not IDLE. cs: the compute stack. -/
  | teSpareCtrl (w : Writer) (cs : Fin 4) (v : Word32)
  /-- CE_LIMIT_EXCEEDED (R127): An engine's corrected tile-store errors exceeding ce_limit in one second start a spare
  switch-in. -/
  | ceLimitExceeded (e : Fin 64)
  /-- SPARE_SELF_TEST_DONE (R127): The spare's self-test ends, turning on dual writing and starting the store copy, or
  marking the spare FAILED. ok: the self-test passed. -/
  | spareSelfTestDone (cs : Fin 4) (ok : Bool)
  /-- SPARE_COPY_DONE (R127): The 8 MiB copy to the spare's store completes and the switch-in waits for the next pass
  boundary. -/
  | spareCopyDone (cs : Fin 4)
  /-- SPARE_CUTOVER (R127): When the last pass in flight retires, task state moves to the spare and the drain lanes
  are steered to it. -/
  | spareCutover (cs : Fin 4)
  /-- AWL_RECOMPUTE (R188): An awl recompute task reads the tile's operands again and forms the reference sum and
  absolute sum. l: the local number of the sampled tile, and which of the four engines that own its columns. -/
  | awlRecompute (slot : Fin 4096) (l : Nat × Fin 4)
  /-- STRM_OPEN (R131): A write of STRM_OPEN_CFG with go opens a context or reports POOL_FULL, BUSY, FOREIGN or BAD.
  -/
  | strmOpen (w : Writer) (v : Word64)
  /-- STRM_CLOSE (R131): A write of STRM_CLOSE closes a context and returns its reservation, or reports IN_USE or
  FOREIGN. -/
  | strmClose (w : Writer) (v : Word32)
  /-- STRM_RING_TAIL (R132): A write of STRM_RING_TAIL sets a context's running tail, or is ignored with tail_bad set.
  -/
  | strmRingTail (w : Writer) (v : Word64)
  /-- STRM_RESYNC (R135): A write of STRM_RESYNC returns a STALE context to OPEN with a new head, or sets resync_bad.
  -/
  | strmResync (w : Writer) (v : Word64)
  /-- DESCRIPTOR_BURST_FETCH (R134): The stream engines fetch 16 descriptors into a pool slot and check each one. i:
  the stream context. -/
  | burstFetch (ctx : Fin 65536)
  /-- POOL_SLOT_GRANT (R149): A stream takes a pool slot, reserved or borrowed by class priority, once its destination
  space is reserved. i: the stream context; space: destination space is reserved; kind: the space it waits for
  otherwise. -/
  | slotGrant (i : Fin 65536) (space : Bool) (kind : Fin 3)
  /-- STREAM_WAIT_LIMIT (R150): A stream waiting longer than limit_us records an event, increments STRM_WDOG_STAT and
  sets STRM_ERR.wdog. i: the stream context. -/
  | waitLimit (i : Fin 65536)
  /-- PREFETCH_FILL (R153): Once wait1 is met, the claimed stationary tiles fill the prefetch half's weight area and
  may be copied into staging. -/
  | prefetchFill (a : Fin 4)
  /-- ACCUMULATE_ADD (R165): A stack engine reads old, adds an accumulating MATMUL's final sum once by
  round-to-nearest-even and writes it. -/
  | accumulateAdd (a : Fin 4)
  /-- LADDER_RISE (R195): When a triggered instance's items have ended, the widen list of the next rung is admitted,
  the rung raised and a notice sent. i: the ladder entry; the oldest instance of its layer. -/
  | ladderRise (p : Fin 4) (i : Fin 1024)
  /-- LADDER_INSTANCE_CLOSE (R194): When all items and widen lists of an instance have ended, held adds to layer_ctr
  are released and completion records written. i: the ladder entry; the oldest instance of its layer. -/
  | ladderInstanceClose (p : Fin 4) (i : Fin 1024)
  /-- LADDER_RUNG_WRITE (R197): A runtime write of an entry's rung takes effect only while no instance of the layer is
  open. i: the ladder entry. -/
  | ladderRungWrite (p : Fin 4) (i : Fin 1024) (v : Byte)
  /-- STEP_RECORD_WRITE (R201): Once fence s has closed and every COLLECTIVE stamped s has retired, the step record
  and body are written to the ring. -/
  | stepRecordWrite (p : Fin 4)
  /-- REPLAY_ENABLE (R202): A write of CTL_REPLAY_n with no item in flight puts the partition in replay of a recorded
  step, or is ignored with an event. -/
  | replayEnable (w : Writer) (n : Fin 4) (v : Word64)
  /-- RNG_SEED_WRITE (R205): A write of CTL_RNG_SEED_n takes effect only while no item of the partition is in flight.
  -/
  | rngSeedWrite (w : Writer) (n : Fin 4) (v : Word64)
  /-- PATROL_SCRUB (R211): The patrol scrub reads each sector of a channel once per scrub_hours, correcting or
  poisoning sectors. find: 0 no error, 1 a corrected one, 2 an uncorrectable one, and the sector where a read of an
  operation found it and not the scrub. -/
  | patrolScrub (n : Fin 512) (find : Fin 3 × Option (Fin 75497472))
  /-- UE_LIMIT_EXCEEDED (R227): More than ue_limit poisoned sectors in one hour start a map-out of the channel. -/
  | ueLimitExceeded (n : Fin 512)
  /-- HSM_RETRAIN_REQ (R226): A write of HSM_RETRAIN_REQ requests retraining of a channel. -/
  | hsmRetrainReq (w : Writer) (v : Word32)
  /-- RETRAIN_TRIGGER (R226): A stack temperature move of retrain_delta or 64 interface retries in a second calls for
  retraining of a channel. byTemp: the stack temperature moved by retrain_delta; retries: interface retries in one
  second, and the sector of an access whose fifth attempt failed (R212). -/
  | retrainTrigger (n : Fin 512) (byTemp : Bool) (retries : Nat × Option (Fin 75497472))
  /-- CHANNEL_RETRAIN (R226): A pending retraining starts when no other channel of the stack retrains and no snapshot
  stop runs. -/
  | channelRetrain (n : Fin 512)
  /-- RETRAIN_END (R226): A retraining ends, restoring service or, on failure, previous settings with a retry or a
  map-out after the third failure. ok: training succeeded. -/
  | retrainEnd (n : Fin 512) (ok : Bool)
  /-- HSM_MAPOUT_REQ (R227): A write of HSM_MAPOUT_REQ starts a map-out of a channel. -/
  | hsmMapoutReq (w : Writer) (v : Word32)
  /-- HSM_MAPOUT_ACK (R229): The runtime's acknowledgement makes lost addresses refused and starts migration of the
  channel's rows. -/
  | hsmMapoutAck (w : Writer) (v : Word32)
  /-- MAPOUT_CUTOVER (R229): When migration ends the redirect takes effect in one cycle and the channel is MAPPED_OUT.
  h: the HBM stack. -/
  | mapoutCutover (h : Fin 16)
  /-- HSM_TEST (R225): A lead write of HSM_TEST_n.go runs the traffic generator on an out-of-service channel. -/
  | hsmTest (w : Writer) (n : Fin 512) (v : Word64)
  /-- HSM_TEST_DONE (R225): A channel test completes, writes its error count and clears go. -/
  | hsmTestDone (n : Fin 512) (errors : Word32)
  /-- LANE_BAD (R245): A lane losing lock or exceeding uncorrectable codewords starts a relane of its group, or loses
  the group's lock. l: the lane. -/
  | laneBad (n : Fin 12) (l : Fin 16)
  /-- RELANE_DONE (R245): The good-lane exchange ends and the group runs degraded on six lanes, replaying from ack_seq
  + 1. -/
  | relaneDone (n : Fin 12)
  /-- LOCK_TIMEOUT (R245): A port without lock for 10 µs goes DOWN. -/
  | lockTimeout (n : Fin 12)
  /-- DATA_FLIT (R243): A received DATA flit is accepted when good and in sequence, otherwise discarded with a nak,
  and its ack and credits are read. flit: the 256 bytes received; ue: they held an uncorrectable FEC error. -/
  | dataFlit (n : Fin 12) (flit : List Byte) (ue : Bool)
  /-- IDLE_FLIT (R237): A received IDLE flit is read for its ack, nak and credit fields. flit: the 256 bytes received;
  ue: they held an uncorrectable FEC error. -/
  | idleFlit (n : Fin 12) (flit : List Byte) (ue : Bool)
  /-- LINK_FLIT (R237): A received LINK flit carries relane, rewiden or training messages and its ack and credit
  fields. flit: the 256 bytes received; ue: they held an uncorrectable FEC error. -/
  | linkFlit (n : Fin 12) (flit : List Byte) (ue : Bool)
  /-- REPLAY_TIMEOUT (R243): Unacknowledged flits for 2 µs with no ack progress cause a replay. -/
  | replayTimeout (n : Fin 12)
  /-- ACK_TIMER (R243): The receiver sends ack_seq at least every 64 flits or 100 ns. -/
  | ackTimer (n : Fin 12)
  /-- CREDIT_RETURN (R241): The receiver returns credits for a VC with at least 32 outstanding within 100 ns. vc: the
  virtual channel. -/
  | creditReturn (n : Fin 12) (vc : Fin 8)
  /-- PACKET_START (R242): At a packet boundary the transmitter picks the next packet by VC priority, deficit
  round-robin and age, or sends IDLE. -/
  | packetStart (n : Fin 12)
  /-- LINK_TRAINING_DONE (R251): Training, alignment and deskew complete and the port sends its IDENT packet. lanes:
  the set that locked, by bit. -/
  | linkTrainingDone (n : Fin 12) (lanes : Fin 65536)
  /-- IDENT (R251): A received IDENT is checked against wiring or the reach path table, bringing the port UP or
  MISWIRED. -/
  | ident (n : Fin 12)
  /-- BRINGUP_RETRY (R251): A port not UP retries bring-up every 100 ms. -/
  | bringupRetry (n : Fin 12)
  /-- BRINGUP_DEADLINE (R251): A port not UP at 500 ms causes a notice on NQ4 without holding back READY. -/
  | bringupDeadline (n : Fin 12)
  /-- LNK_FORCE_DOWN (R257): A write of LNK_CTRL_n.force_down takes the port DOWN with full handling. -/
  | lnkForceDown (w : Writer) (n : Fin 12)
  /-- LNK_RESTORE_LEGS (R260): A write of LNK_CTRL_n.restore_legs returns legs to their primaries at each group's next
  bucket boundary. -/
  | lnkRestoreLegs (w : Writer) (n : Fin 12)
  /-- LNK_REWIDEN (R247): A write of LNK_CTRL_n.rewiden retrains the unused lanes of a degraded port. -/
  | lnkRewiden (w : Writer) (n : Fin 12)
  /-- REWIDEN_LOCK (R247): When the retrained lanes lock the port relanes onto full width. -/
  | rewidenLock (n : Fin 12)
  /-- REWIDEN_TIMEOUT (R247): Lanes not locked within 50 ms leave the port as it is with an event. -/
  | rewidenTimeout (n : Fin 12)
  /-- TRANSIT_PACKET (R254): A job packet for another device is forwarded on VC5 by its slot's pair or discarded as
  no_slot or misroute. -/
  | transitPacket (n : Fin 12)
  /-- JOB0_RELAY (R256): A job-0 packet for another device of the board is forwarded on the direct link, or discarded
  when off-board. -/
  | job0Relay (n : Fin 12)
  /-- WRITE (R238): A received WRITE packet writes its data into the receiver's HBM, or is discarded when the address
  is not owned. -/
  | write (n : Fin 12)
  /-- LEG_DOWN_NOTICE (R258): A received leg-down notice is passed back along the job's pairs or treated by the leg's
  member as DOWN. -/
  | legDownNotice (n : Fin 12)
  /-- ADDER_STAGE (R272): A port adder stages chunks of the member's contribution from bucket_addr in ascending chunk
  order. n: the adder. -/
  | adderStage (n : Fin 12)
  /-- ENTRY (R267): A received ENTRY marker lets the upstream member send chunks of the bucket on its leg. -/
  | entry (n : Fin 12)
  /-- FOLD (R271): A received FOLD chunk is decoded, added to the member's contribution and encoded onward, or kept or
  delivered at its final member. -/
  | fold (n : Fin 12)
  /-- GATHER (R266): A received GATHER chunk is written and passed on until every live member holds it. -/
  | gather (n : Fin 12)
  /-- HEADERS (R266): A received header-gather packet gives the member the final block headers of a chunk. -/
  | headers (n : Fin 12)
  /-- DELIVER (R265): A received DELIVER packet writes a completed FP32 chunk at its owner or taker. -/
  | deliver (n : Fin 12)
  /-- REPORT (R284): A received REPORT suspends the bucket and is forwarded, and at the leader leads to RESTART or
  RETIRE. -/
  | report (n : Fin 12)
  /-- RESTART (R284): A received RESTART applies the loss, discards the bucket's partial state and starts it again
  under the new epoch. -/
  | restart (n : Fin 12)
  /-- FIN_MARKER (R268): A received FIN is passed on once the member has written its results, and on returning to the
  leader starts RETIRE. -/
  | finMarker (n : Fin 12)
  /-- RETIRE (R268): A received RETIRE is forwarded and the member writes the divisor and next scale table and retires
  its COLLECTIVE. -/
  | retire (n : Fin 12)
  /-- FATAL (R285): A received FATAL fails the group's active COLLECTIVE with HW_FAULT and is forwarded on route_prev.
  -/
  | fatal (n : Fin 12)
  /-- STRAGGLER_DEADLINE (R282): An upstream waiting longer than straggler_us for ENTRY declares its downstream a
  straggler for the step. gid: the group. -/
  | stragglerDeadline (gid : Fin 65536)
  /-- TWIN_HELLO (R287): A received TWIN_HELLO is checked and makes the device PAIRED or MISMATCH. -/
  | twinHello (n : Fin 12)
  /-- TWIN_HELLO_RETRY (R287): An unsuccessful twin handshake is retried every 100 ms. -/
  | twinHelloRetry
  /-- TWIN_BEAT_SEND (R288): Each device sends TWIN_BEAT every 100 µs by TW or twin_relay. -/
  | twinBeatSend
  /-- TWIN_BEAT (R288): A received TWIN_BEAT restarts the beat-limit watch on the twin. -/
  | twinBeat (n : Fin 12)
  /-- BEAT_LIMIT (R288): No HELLO or BEAT for beat_limit declares the twin failed. -/
  | beatLimit
  /-- TWIN_FAILED (R288): A received TWIN_FAILED declares the twin failed. -/
  | twinFailed (n : Fin 12)
  /-- MIRROR_DATA (R291): A received MIRROR data packet is written into a mirror buffer or refused, changing the
  buffer's FILLING state. -/
  | mirrorData (n : Fin 12)
  /-- MIRROR_COMMIT (R292): A received COMMIT adds its bytes to the buffer's count, committing it or emptying it on
  overcount. -/
  | mirrorCommit (n : Fin 12)
  /-- MIRROR_ACK (R292): A received mirror acknowledgement frees sent blocks, lets the APPLY send COMMIT or signal,
  and advances SNAP_OUT_STEP_n. -/
  | mirrorAck (n : Fin 12)
  /-- MIRROR_ACK_TIMER (R291): The receiver acknowledges mirror packets at least every 64 packets or 2 µs. -/
  | mirrorAckTimer (p : Fin 4)
  /-- HANDBACK_GO (R298): A write of SNAP_HANDBACK_n.go sends HANDBACK_REQ to the twin. -/
  | handbackGo (w : Writer) (n : Fin 4) (v : Word64)
  /-- HANDBACK_REQ (R298): A received HANDBACK_REQ sends the listed ranges as WRITE packets then HANDBACK_DONE, or
  refuses. -/
  | handbackReq (n : Fin 12)
  /-- HANDBACK_DONE (R298): A received HANDBACK_DONE clears go and sets done or refused. -/
  | handbackDone (n : Fin 12)
  /-- MIRROR_RESET (R315): A received MIRROR_RESET sets both mirror buffers of the partition EMPTY. -/
  | mirrorReset (n : Fin 12)
  /-- SNAPSHOT_QUIESCED (R303): With the partition quiesced, the image header and meta sections are captured and the
  channel-aligned copy begins. -/
  | snapshotQuiesced (p : Fin 4)
  /-- SNAPSHOT_SEAL (R303): After the copy the region directory is written, the slot becomes VALID and the stop ends.
  -/
  | snapshotSeal (p : Fin 4)
  /-- DRAIN_COMPLETE (R307): A drain writes END, updates the anchor and sets the slot DRAINED, or fails for space. i:
  4 times the partition, plus the saddlebag slot. -/
  | drainComplete (i : Fin 16)
  /-- SHIP_END (R310): The END record is sent as WRITE-with-immediate, sealing the shipped object. -/
  | shipEnd (slot : Fin 4096)
  /-- RESTORE_SADDLE (R311): SNAP_RESTORE_GO with source SADDLE restores a partition from a saddlebag slot. ctr: the
  dependency counter to signal. -/
  | restoreSaddle (w : Writer) (p : Fin 4) (ctr : Fin 16384)
  /-- RESTORE_FLASH (R311): SNAP_RESTORE_GO with source FLASH restores a partition from a snapshot on the log. ctr:
  the dependency counter to signal. -/
  | restoreFlash (w : Writer) (p : Fin 4) (ctr : Fin 16384)
  /-- RESTORE_REMOTE (R311): SNAP_RESTORE_GO with source REMOTE restores a partition by RDMA READ from the shared
  store. ctr: the dependency counter to signal. -/
  | restoreRemote (w : Writer) (p : Fin 4) (ctr : Fin 16384)
  /-- RESTORE_TWIN (R315): SNAP_RESTORE_GO with source TWIN restores a partition from the twin by handback. ctr: the
  dependency counter to signal. -/
  | restoreTwin (w : Writer) (p : Fin 4) (ctr : Fin 16384)
  /-- RESTORE_PHASE_END (R314): A restore phase completes and the next one starts, ending at FINISH with counters set
  and MIRROR_RESET sent. -/
  | restorePhaseEnd
  /-- SNAP_PIN (R307): A write of SNAP_PIN_CMD with pin set pins a snapshot against trimming. go: the written go bit.
  -/
  | snapPin (w : Writer) (go : Bool)
  /-- SNAP_UNPIN (R307): A write of SNAP_PIN_CMD with pin clear unpins a snapshot. go: the written go bit. -/
  | snapUnpin (w : Writer) (go : Bool)
  /-- SNAP_COUNT_FLOOR_WRITE (R309): A write of SNAP_COUNT_FLOOR_n raises the next snapshot count, ignored when lower
  or while a SNAPSHOT is in flight. -/
  | snapCountFloorWrite (w : Writer) (n : Fin 4) (v : Word32)
  /-- EVALWIN_ENABLE (R318): Setting the evaluation window enable puts it in force, or is refused while an in-flight
  item writes it. -/
  | evalwinEnable (w : Writer) (n : Fin 4)
  /-- EVALWIN_DISABLE (R318): Clearing the evaluation window enable takes effect at once. -/
  | evalwinDisable (w : Writer) (n : Fin 4)
  /-- LEASE_RENEWAL (R319): The lead lease is renewed across the girth bridge every 1 µs. -/
  | leaseRenewal
  /-- LEASE_RENEWAL_MISSED (R319): A half seeing no renewal for 10 µs, or a dual claim, puts both halves in HELD.
  cause 0 both control processors claim, 1 Pommel saw no renewal for 10 µs, 2 Cantle saw none. -/
  | leaseRenewalMissed (cause : Fin 3)
  /-- REIN_TICK (R328): Every 1 µs the rein estimates power and allocates the cap to links, memory and compute duty.
  -/
  | reinTick
  /-- TELEMETRY_WINDOW (R327): At each 50 µs window end the rein sets the excess from measured package power and
  scales energy counters. rails: the readings of the 14 rails in mV, 0.25 A and °C; none where a rail gave no valid
  reading. -/
  | telemetryWindow (rails : List (Option (Nat × Nat × Nat)))
  /-- FREQUENCY_STEP (R330): Once per millisecond the rein raises or lowers the ARRCLK frequency step with matching
  VCORE changes. -/
  | frequencyStep
  /-- REIN_CAP_WRITE (R326): A write of REIN_CAP sets the cap from the next tick. -/
  | reinCapWrite (w : Writer) (v : Word32)
  /-- CINCH_TRIP (R333): A detector trip lengthens the current ARRCLK cycle within 1.2 ns. det: the detector of that
  die. -/
  | cinchTrip (die : Fin 4) (det : Fin 256)
  /-- DROOP_N_ASSERT (R324): DROOP_N low is treated as a tripped detector on every compute die and recorded at most
  once per millisecond. rails: the VCORE rails more than 30 mV below their setpoints, by bit. -/
  | droopNAssert (rails : Fin 16)
  /-- CINCH_ESCALATE (R334): A trip persisting for 32 ARRCLK cycles lengthens cycles to 6 root phases. -/
  | cinchEscalate
  /-- CINCH_CLEAR (R334): When all detectors clear the cinch holds, then relaxes in counted stages and stops. cycles:
  stretched cycles until all detectors cleared. -/
  | cinchClear (cycles : Nat)
  /-- CINCH_TEST (R335): A write of CINCH_TEST injects trips into each detector and adds a guard band to failing dies.
  go: the written go bit; fails: the dies whose detectors or path failed, by bit. -/
  | cinchTest (w : Writer) (go : Bool) (fails : Fin 16)
  /-- CINCH_DISABLE (R335): Writing CINCH_CTRL.enable 0 adds the guard band and stops the cinch once the regulator
  acknowledges. -/
  | cinchDisable (w : Writer) (v : Word32)
  /-- CINCH_ENABLE (R335): Writing CINCH_CTRL.enable 1 resumes the cinch and then removes the guard band. -/
  | cinchEnable (w : Writer) (v : Word32)
  /-- MARGIN_CHECK (R336): Once an hour the lead compares each die's margin and may raise its trim by one step. dies:
  per compute die its least margin in ps, and whether it is short of the fused threshold. -/
  | marginCheck (dies : List (Nat × Bool))
  /-- TEMPERATURE_READ (R337): Die sensors are read every 100 µs and HBM stack temperatures checked. dies: per compute
  stack its hottest compute-die reading, that sensor, and its hottest base-die reading; temps: the temperature of each
  of the 16 HBM stacks. -/
  | temperatureRead (dies : List (Nat × Nat × Nat)) (temps : List Nat)
  /-- THERMAL_CAP_UPDATE (R337): Once per millisecond the thermal cap is lowered or raised by 10 W according to the
  sensors. -/
  | thermalCapUpdate
  /-- THERMAL_TRIP (R339): An analog monitor reaching 115 °C drives THERMTRIP_N, forces g to 0 and starts the save
  with cause thermal. monitor: the monitor; die 0 to 3 a compute die, 4 to 7 a base die. -/
  | thermalTrip (monitor : Fin 256) (die : Fin 8)
  /-- HOLD_WARN_ASSERT (R342): HOLD_WARN_N low for 1 µs in RUN starts the P0 save. -/
  | holdWarnAssert
  /-- HOLD_WARN_GLITCH (R341): A HOLD_WARN_N pulse shorter than 1 µs is ignored and sets glitch. -/
  | holdWarnGlitch
  /-- SAVE_COMMIT (R343): The save record is programmed and its commit page written, putting the device in SAVED. -/
  | saveCommit
  /-- HOLD_LOSS_ASSERT (R345): HOLD_LOSS_N asserting stops further flash programs and puts the device in LOST. -/
  | holdLossAssert
  /-- RESUME (R344): With the save complete and HOLD_WARN_N high for 1 ms, the device leaves self-refresh, marks the
  record and returns to RUN. moved: the HBM stacks whose temperature moved by retrain_delta during the pause. -/
  | resume (moved : List (Fin 16))
  /-- THM_SAVE_TEST (R347): A write of THM_SAVE_TEST runs a test save with cause 2 and resumes. go: the written go
  bit. -/
  | thmSaveTest (w : Writer) (go : Bool)
  /-- LEDGER_WRITE (R343): A ledger entry for a repair, spare switch, map-out or trim is written to the keep area
  within 10 ms. -/
  | ledgerWrite
  /-- SAVE_AREA_ERASE (R343): After each commit the older save areas are erased in the background. -/
  | saveAreaErase
  /-- KEEP_AREA_RESTORE (R348): At start-up the anchors, ledger, migration and recorder tail are restored and the
  latest loss record reported. channels: the flash channels with a populated target, by bit; blockBytes: SLC capacity
  of an erase block; flashBytes: what the rest of the flash holds. -/
  | keepAreaRestore (channels : Fin 256) (blockBytes : Nat) (flashBytes : Nat)
  /-- ARP_REQUEST (R351): HP answers an ARP request for its configured address. fromMac and fromIp: the asker; target:
  the address asked for. -/
  | arpRequest (fromMac : BitVec 48) (fromIp : Word32) (target : Word32)
  /-- NEIGHBOUR_SOLICITATION (R351): HP answers an IPv6 neighbour solicitation for its configured address. fromMac and
  fromIp: the asker; target: the address asked for; IPv6 addresses as 16 bytes. -/
  | neighbourSolicitation (fromMac : BitVec 48) (fromIp : List Byte) (target : List Byte)
  /-- NON_ROCE_FRAME (R351): Any other frame, including PAUSE, is discarded and counted. -/
  | nonRoceFrame
  /-- INCOMING_SEND (R352): A SEND outside recovery mode, or an unsupported opcode, is answered with an
  invalid-request NAK and the QP enters ERROR. q: destination queue pair; ce: the frame was marked
  congestion-experienced. -/
  | incomingSend (q : BitVec 24) (psn : BitVec 24) (ce : Bool)
  /-- INCOMING_RDMA_WRITE (R358): An incoming RDMA WRITE is checked against its memory key and written, or NAKed with
  a remote access error. q: destination queue pair; key: the R_Key; icrc: the invariant CRCs check; ce: marked
  congestion-experienced. -/
  | incomingRdmaWrite (q : BitVec 24) (psn : BitVec 24) (key : Word32) (addr : Word64) (data : List Byte) (icrc : Bool) (ce : Bool)
  /-- INCOMING_RDMA_READ (R358): An incoming RDMA READ is checked and answered, with a NAK at the packet that would
  carry a poisoned sector. q: destination queue pair; key: the R_Key; icrc: the invariant CRC checks; ce: marked
  congestion-experienced. -/
  | incomingRdmaRead (q : BitVec 24) (psn : BitVec 24) (key : Word32) (addr : Word64) (len : Word32) (icrc : Bool) (ce : Bool)
  /-- READ_RESPONSE (R353): An RDMA READ response for an S1-initiated read is written to its destination. data: the
  whole response. -/
  | readResponse (q : BitVec 24) (psn : BitVec 24) (data : List Byte)
  /-- ACKNOWLEDGE (R353): An incoming acknowledgement frees acknowledged PSNs, or a NAK starts go-back-N
  retransmission. nak: none for an ACK. -/
  | acknowledge (q : BitVec 24) (psn : BitVec 24) (nak : Option NakKind)
  /-- RETRANSMIT_TIMEOUT (R353): No progress for the QP's timeout retransmits, and after retry_cnt failures the QP
  enters ERROR. -/
  | retransmitTimeout (q : Fin 2048)
  /-- CNP_RECEIVE (R354): A received congestion notification cuts the QP's send rate and raises alpha. -/
  | cnpReceive (q : BitVec 24)
  /-- RATE_INCREASE (R354): Each 55 µs without a CNP decays alpha and raises the QP's rate. -/
  | rateIncrease (q : Fin 2048)
  /-- QP_TO_READY (R353): A write of HOST_QP_CFG_q moves a queue pair from RESET to READY. -/
  | qpToReady (w : Writer) (q : Fin 2048) (v : Word64)
  /-- QP_TO_RESET (R353): A write of HOST_QP_CFG_q moves a queue pair from any state to RESET. -/
  | qpToReset (w : Writer) (q : Fin 2048) (v : Word64)
  /-- MR_WRITE (R357): A write of a memory entry sets its range and rights and gives it a new random tag. k: the
  memory region; half: its register A or B. -/
  | mrWrite (w : Writer) (k : Fin 256) (half : Fin 2) (v : Word64)
  /-- HP_LANE_LOSS (R350): An HP lane losing lock takes the port DOWN, and it retries bring-up every 100 ms. -/
  | hpLaneLoss
  /-- RESET_ASSERT (R408): RESET_N or PWRGOOD low for 1 µs resets the device at once with no save. resetN: by RESET_N,
  else by PWRGOOD. -/
  | resetAssert (resetN : Bool)
  /-- RESET_RELEASE (R408): A release taken when its conditions hold samples the straps and begins start-up. straps:
  BOOT_STRAPS as sampled; ready: the conditions of R408 hold; claims: the boot ROM of CPP claims the lease. -/
  | resetRelease (straps : Fin 32) (ready : Bool) (claims : Bool)
  /-- REFCLK_STOP (R412): A REFCLK stop of 200 ns is detected and acts as a reset assertion. -/
  | refclkStop
  /-- SDREF_LOSS (R412): Loss of a SerDes reference takes its ports out of lock and DOWN while work continues. cantle:
  the reference of Cantle, else that of Pommel. -/
  | sdrefLoss (cantle : Bool)
  /-- LEASE_GRANT_TIMEOUT (R367): With no CPP claim within 10 ms of release the girth bridge grants the lead lease to
  CPC. -/
  | leaseGrantTimeout
  /-- NOR_READ_DONE (R368): The image is read from NOR and checked, measurements extended and the device section
  applied. -/
  | norReadDone
  /-- HBM_TRAINING_DONE (R369): HBM training ends, mapping out failed channels and withholding partitions with failed
  stacks or arrays. channels: those that failed training three times; arrays: those that failed self-test; dies:
  compute dies whose cinch failed self-test, by bit; other: another self-test failed. -/
  | hbmTrainingDone (channels : List (Fin 512)) (arrays : List (Fin 4)) (dies : Fin 16) (other : Bool)
  /-- STARTUP_READY (R368): Queues, tables and tags are initialised, the device becomes READY and sends its READY
  SEND. -/
  | startupReady
  /-- BOOT_DELTA_GO (R371): A write of BOOT_DELTA_GO verifies a staged delta and programs it to NOR, or refuses it.
  go: the written go bit. -/
  | bootDeltaGo (w : Writer) (go : Bool)
  /-- DELTA_APPLY (R372): When the target partition holds no item in flight the delta's records apply in one cycle and
  admission resumes. -/
  | deltaApply
  /-- TRANSIT_DELTA_APPLY (R373): A transit delta's slot loads each take effect in one NOCCLK cycle without a pause.
  -/
  | transitDeltaApply
  /-- BOOT_UPDATE_GO (R374): A write of BOOT_UPDATE_GO starts a firmware update of the staged image. go: the written
  go bit. -/
  | bootUpdateGo (w : Writer) (go : Bool)
  /-- UPDATE_PHASE_END (R375): An update phase completes, restarting halves, handing over the lease and finally
  extending measurement 1. outcome 0: the phase ended well; 1 or 2: the NOR fault of WRITE, or the half that failed
  its check. -/
  | updatePhaseEnd (outcome : Fin 3)
  /-- RECOVERY_HELLO (R378): A HELLO on QP2 binds the recovery QP and the S1 answers with OFFER. body: the bytes of
  the SEND. -/
  | recoveryHello (body : List Byte)
  /-- RECOVERY_COMMIT (R378): A COMMIT makes the ROM check the image and write it to NOR, answering with DONE. body:
  the bytes of the SEND; norOk: the NOR takes the image. -/
  | recoveryCommit (psn : BitVec 24) (body : List Byte) (norOk : Bool)
  /-- RECOVERY_IDLE (R378): QP2 bound but idle for 10 s unbinds. -/
  | recoveryIdle
  /-- RECOVERY_RESET (R378): 10 ms after a successful DONE the device resets itself. -/
  | recoveryReset
  /-- OWNER_PROGRAM (R384): An OWNER_PROGRAM command blows the hash of a new owner key into a slot when its checks
  pass. off: offset of the staged command; go: the written go bit. -/
  | ownerProgram (w : Writer) (off : Fin 16384) (go : Bool)
  /-- OWNER_REVOKE (R384): An OWNER_REVOKE command revokes an owner slot unless it would leave none valid. off: offset
  of the staged command; go: the written go bit. -/
  | ownerRevoke (w : Writer) (off : Fin 16384) (go : Bool)
  /-- KEY_LOAD (R385): A KEY_LOAD command decrypts an SM4 key under the identity key into a key slot. off: offset of
  the staged command; go: the written go bit. -/
  | keyLoad (w : Writer) (off : Fin 16384) (go : Bool)
  /-- KEY_CLEAR (R383): A KEY_CLEAR command empties an SM4 key slot. off: offset of the staged command; go: the
  written go bit. -/
  | keyClear (w : Writer) (off : Fin 16384) (go : Bool)
  /-- SEC_ATTEST_GO (R381): A write of SEC_ATTEST_GO requests an attestation report and clears valid. go: the written
  go bit. -/
  | secAttestGo (w : Writer) (go : Bool)
  /-- ATTEST_REPORT_READY (R381): The lead writes the signed report into the report words and sets valid. -/
  | attestReportReady
  /-- EVENT_RECORD_WRITE (R398): The write engine takes an event from an intake, applies rate limiting and the
  full-log policy, and writes a record and any notice. bridge: the girth bridge carries Cantle's events. -/
  | eventRecordWrite (bridge : Bool)
  /-- INTAKE_LOST (R389): When a lossy intake falls to 256 entries the engine writes EV-0x0C02 with the count lost.
  cantle: the intake of Cantle, else that of Pommel. -/
  | intakeLost (cantle : Bool)
  /-- SUPPRESSED (R395): When a code's bucket refills after suppressions the engine writes EV-0x0C01. code: the event
  code. -/
  | suppressed (code : Fin 65536)
  /-- EVREC_CLEAR_PINNED (R397): EVREC_CLEAR with pinned empties slots 0–4,095 under SPLIT and records EV-0x0C04. go:
  the written bit. -/
  | evrecClearPinned (w : Writer) (go : Bool)
  /-- EVREC_CLEAR_ALL (R397): EVREC_CLEAR with all empties every slot and records EV-0x0C04. pinned: the pinned bit is
  written too; go: the written all bit. -/
  | evrecClearAll (w : Writer) (pinned : Bool) (go : Bool)
  /-- READ_CLEAR (R5): A read of an RC field returns its value and clears only what it returned. off: offset in
  control space. -/
  | readClear (off : BitVec 24)
  /-- REGISTER_WRITE (R420): A write to a register with no row of its own is checked against its scope and access
  codes and applied or ignored with an event. off: offset in control space. -/
  | registerWrite (w : Writer) (off : BitVec 24) (v : Word64)
  /-- UNASSIGNED_OFFSET_ACCESS (R419): A write to an offset naming no register is ignored with an event, and a read
  returns zero. off: offset in control space; v: the value written, none for a read. -/
  | unassignedAccess (off : BitVec 24) (v : Option Word64)
  /-- VAUX_LOSS (R339): Removal of VAUX releases THERMTRIP_N, ends a save that VAUX loss cuts off and lets a later
  reset release take effect. -/
  | vauxLoss
  /-- HP_BRINGUP_RETRY (R350): Every 100 ms a DOWN host port retries bring-up and returns to UP when its lanes lock,
  including after its SerDes reference returns. lock: the lanes lock. -/
  | hpBringupRetry (lock : Bool)
  /-- TARGET_RAIL_VOLTAGE_ACK (R330): The regulator stage acknowledges a Target Rail Voltage write once settled, after
  which the rein changes the ARRCLK frequency or the cinch stops. -/
  | targetRailVoltageAck (die : Fin 4)
  /-- RESERVED_KIND_PACKET (R238): A received Adepin packet of a reserved kind is discarded, counted in LNK_DROP_n and
  recorded as EV-0x0604 reason 0. -/
  | reservedKindPacket (n : Fin 12)
  /-- DELTA_NOR_WRITTEN (R372): Once a delta's section and directory have been programmed and read back, admission
  from the target partition pauses in state WAITING. fault 0: section and directory are programmed and the section
  reads back right; 1 the section's programming failed, 2 the directory's, 3 the read-back. -/
  | deltaNorWritten (fault : Fin 4)
  /-- JTAG_INSTRUCTION (R415): An instruction loaded through the IEEE 1149.1 test access port takes effect, with
  EXTEST, EXTEST_PULSE and EXTEST_TRAIN acting as BYPASS unless RESET_N is low. i: the instruction loaded. -/
  | jtagInstruction (i : Fin 6)
deriving DecidableEq, Repr

end Sys2Proof
end

