-- ==== Sys2Proof/Decode.lean ====
section
/-!
DEFINITION. The commands that words spell.  No row of the opcode table gives bits, so no word spells a command.
-/
namespace Sys2Proof

/-- The command that the nbits bits of w spell by the opcode table: none for every word. -/
def decodeTableWord (_nbits _w : Nat) : Option Instr := none

end Sys2Proof
end

