-- ==== Sys2Proof/Config.lean ====
section
/-!
DEFINITION. What an implementation fixes and the values the spec leaves open.  Every constant here is opaque: nothing
in Lean can evaluate it or prove a value of it, so a statement holds whatever it is.
-/
namespace Sys2Proof

/-- A fresh free byte: applied to State.fresh, which the step that uses it advances (assumption 5).  It stands for each
byte the spec calls undefined. -/
opaque Config.freeByte : Nat → Byte

/-- A fresh free word: as freeByte, for a 64-bit value the spec leaves open. -/
opaque Config.freeWord : Nat → Word64

/-- A fresh free bit: as freeByte, for a choice between two behaviours that the spec leaves open. -/
opaque Config.freeBit : Nat → Bool

/-- A random value the hardware draws: the 24-bit tag of a memory key (R357), a boot or command nonce (R384). -/
opaque Config.randomWord : Nat → Word64

/-- The SM3 digest (32 bytes) of a byte string: the spec cites the standard and gives no algorithm (assumption 6). -/
opaque Config.sm3 : List Byte → List Byte

/-- SM2 verification of a signature: public key, message, signature (assumption 6). -/
opaque Config.sm2Verify : List Byte → List Byte → List Byte → Bool

/-- SM2 signature of a message under the device's identity key (assumption 6). -/
opaque Config.sm2Sign : List Byte → List Byte

/-- SM2 decryption under the device's identity key: none where the ciphertext does not open (assumption 6). -/
opaque Config.sm2Decrypt : List Byte → Option (List Byte)

/-- SM4-GCM sealing: key, nonce, associated data, plaintext; answers ciphertext followed by the tag (assumption 6). -/
opaque Config.sm4Seal : List Byte → List Byte → List Byte → List Byte → List Byte

/-- SM4-GCM opening: key, nonce, associated data, ciphertext, tag; none where the tag fails (assumption 6). -/
opaque Config.sm4Open : List Byte → List Byte → List Byte → List Byte → List Byte → Option (List Byte)

/-- The result of a special function whose interval evaluation did not settle the rounding: function code and operand
encoding (assumption 7). -/
opaque Config.sfuOpen : Nat → Word32 → Word32

/-- The rein's estimate of power, in milliwatts, from its private counters: class index and tick (R327, assumption 30). -/
opaque Config.reinEstimate : Nat → Nat → Nat

/-- The public key of the Vambiat firmware key, held in the boot ROM (R364). -/
opaque Config.vendorKey : List Byte

/-- The fused voltage-frequency table: VCORE of a die at a frequency step, in 0.5 mV (R330); the spec gives no entries. -/
opaque Config.vfTable : Nat → Nat → Nat

/-- The detected fault kinds or self-test outcomes that the physical part decides: instance and time. -/
opaque Config.selfTest : Nat → Nat → Bool

/-- Columns of 128 in the last 512-column tile of a MATMUL whose descriptors have not been taken yet, by admission
number: R187 counts its tiles, and no rule says how they are known before then (assumption 12). -/
opaque Config.awlCols : Nat → Nat

/-- The first 8 bytes that a traffic test writes at an address: pattern, seed of the channel, address and pass (R225); the spec
gives no bit sequence (assumption 48). -/
opaque Config.testPattern : Nat → Nat → Nat → Nat → Word64

/-- Output tiles that the output buffers of an array hold beside the one being filled (R111): the spec gives their
bytes no number (assumption 24). -/
opaque Config.outBufTiles : Nat

/-- The Philox stream and offset of a stochastic CVT in an epilogue, by the operation's output context and its draw position:
R183 names none (assumption 23). -/
opaque Config.cvtStream : Nat → Nat

opaque Config.cvtBase : Nat → Nat → Nat

/-- The code of the twin's notice that a stack has left service (R230): the table of R288 gives none (assumption 27). -/
opaque Config.memberLossCode : Nat

end Sys2Proof
end

