-- ==== Sys2Proof/Machine/Bytes.lean ====
section
/-!
DEFINITION. Byte order and bit fields: little-endian packing (R3), extraction of fields, CRC-32C, and small list helpers.
-/
namespace Sys2Proof.Machine

/-- The width-bit field at bit lo of a word. -/
def bits (w lo width : Nat) : Nat := w / 2 ^ lo % 2 ^ width

/-- The word with its width-bit field at bit lo replaced. -/
def setBits (w lo width v : Nat) : Nat :=
  w / 2 ^ (lo + width) * 2 ^ (lo + width) + (v % 2 ^ width) * 2 ^ lo + w % 2 ^ lo

/-- Little-endian bytes of a natural, n of them (R3). -/
def toLE : Nat → Nat → List Byte
  | 0, _ => []
  | n + 1, v => BitVec.ofNat 8 v :: toLE n (v / 256)

/-- Big-endian bytes (the exception of R3 for standards' fields). -/
def toBE (n v : Nat) : List Byte := (toLE n v).reverse

/-- The natural that little-endian bytes spell (R3). -/
def ofLE : List Byte → Nat
  | [] => 0
  | b :: bs => b.toNat + 256 * ofLE bs

/-- The natural that big-endian bytes spell. -/
def ofBE (bs : List Byte) : Nat := ofLE bs.reverse

/-- n bytes at offset o of a byte string, as a little-endian number; bytes past the end count as zero. -/
def fieldLE (bs : List Byte) (o n : Nat) : Nat := ofLE ((bs.drop o).take n)

/-- A byte string cut or zero-filled to n bytes. -/
def padTo (n : Nat) (bs : List Byte) : List Byte := bs.take n ++ List.replicate (n - bs.length) 0#8

/-- Whether bytes o to o + n - 1 of a byte string are all zero (reserved bytes, R22). -/
def zeroAt (bs : List Byte) (o n : Nat) : Bool := ((bs.drop o).take n).all (fun b => b == 0#8)

/-- Cut a list into pieces of n; fuel bounds the number of pieces. -/
def chunksFuel {α : Type} (n : Nat) : Nat → List α → List (List α)
  | 0, _ => []
  | f + 1, l => if l.isEmpty then [] else l.take n :: chunksFuel n f (l.drop n)

/-- Cut a list into pieces of n, the last possibly shorter. -/
def chunks {α : Type} (n : Nat) (l : List α) : List (List α) := chunksFuel n (l.length / n + 1) l

/-- Eight steps of the reflected CRC-32C polynomial. -/
def crcBits : Nat → Nat → Nat
  | 0, c => c
  | k + 1, c => crcBits k (if c % 2 = 1 then (c / 2) ^^^ 0x82F63B78 else c / 2)

/-- CRC-32C of a byte string (R390; the Castagnoli polynomial, assumption 8). -/
def crc32c (bs : List Byte) : Nat :=
  (bs.foldl (fun c b => crcBits 8 ((c ^^^ b.toNat) % 2 ^ 32)) 0xFFFFFFFF) ^^^ 0xFFFFFFFF

/-- ceil(a / b). -/
def ceilDiv (a b : Nat) : Nat := (a + b - 1) / b

/-- Saturating counter of width bits. -/
def satAdd (width v k : Nat) : Nat := min (v + k) (2 ^ width - 1)

end Sys2Proof.Machine
end

