-- ==== Sys2Proof/Machine/EventCodes.lean ====
section
/-!
DEFINITION. Severities and notice policy of every event code (R393, R394): the table Event codes of "The Event
Recorder".
-/
namespace Sys2Proof.Machine

/-- The Notice column: none, the partition's queue (NQ4 without one), or always NQ4. -/
inductive NoticeRule where
  | no | yes | nq4
deriving DecidableEq, Repr

/-- The rows of the table that differ from a generic code: code, severity, notice. -/
def evTable : List (Nat × Nat × NoticeRule) := [
  (0x0201, 1, .no),
  (0x0202, 1, .yes),
  (0x0204, 2, .yes),
  (0x0303, 1, .yes),
  (0x0412, 1, .no),
  (0x0503, 2, .nq4),
  (0x0504, 1, .nq4),
  (0x0505, 3, .nq4),
  (0x0601, 2, .nq4),
  (0x0603, 2, .nq4),
  (0x0604, 1, .no),
  (0x0801, 2, .no),
  (0x0802, 1, .yes),
  (0x0803, 2, .yes),
  (0x0804, 2, .yes),
  (0x0805, 1, .yes),
  (0x0901, 1, .yes),
  (0x0902, 0, .no),
  (0x0903, 1, .yes),
  (0x0904, 1, .yes),
  (0x0905, 1, .no),
  (0x0906, 1, .no),
  (0x0907, 1, .yes),
  (0x0908, 1, .yes),
  (0x0909, 2, .yes),
  (0x090A, 3, .yes),
  (0x0A01, 2, .nq4),
  (0x0A02, 2, .yes),
  (0x0A03, 3, .yes),
  (0x0A04, 2, .yes),
  (0x0A05, 1, .no),
  (0x0A06, 3, .nq4),
  (0x0B01, 1, .no),
  (0x0B02, 2, .no),
  (0x0B03, 2, .no),
  (0x0B04, 0, .no),
  (0x0B05, 1, .yes),
  (0x0B06, 0, .no),
  (0x0B07, 3, .nq4),
  (0x0B08, 2, .no),
  (0x0B09, 1, .no),
  (0x0B0A, 1, .yes),
  (0x0B0B, 3, .no),
  (0x0B0C, 1, .no),
  (0x0B0D, 2, .nq4),
  (0x0B0E, 1, .no),
  (0x0C02, 1, .nq4),
  (0x0C03, 0, .nq4),
  (0x0C04, 0, .no)]

/-- Severity and notice rule of a code; generic codes are WARN without a notice (R393). -/
def evInfo (code : Nat) : Nat × NoticeRule :=
  match evTable.find? (fun r => r.1 == code) with
  | some r => r.2
  | none => (1, .no)

/-- Generic code of the block of admission, queues, counters, the operation table (R393). -/
def Blk.ctl : Nat := 0x0100
/-- Generic code of the block of matrix arrays (R393). -/
def Blk.ary : Nat := 0x0200
/-- Generic code of the block of tile engines, spares and skivers (R393). -/
def Blk.te : Nat := 0x0300
/-- Generic code of the block of streams (R393). -/
def Blk.strm : Nat := 0x0400
/-- Generic code of the block of HBM stacks and channels (R393). -/
def Blk.hsm : Nat := 0x0500
/-- Generic code of the block of Adepin ports (R393). -/
def Blk.lnk : Nat := 0x0600
/-- Generic code of the block of stack engines (R393). -/
def Blk.sen : Nat := 0x0700
/-- Generic code of the block of numeric health (R393). -/
def Blk.num : Nat := 0x0800
/-- Generic code of the block of the reduction ring (R393). -/
def Blk.red : Nat := 0x0900
/-- Generic code of the block of twin, mirror, snapshots, restore (R393). -/
def Blk.snap : Nat := 0x0A00
/-- Generic code of the block of power, droop, heat and supply (R393). -/
def Blk.power : Nat := 0x0B00
/-- Generic code of the block of the recorder (R393). -/
def Blk.evrec : Nat := 0x0C00
/-- Generic code of the block of start-up (R393). -/
def Blk.boot : Nat := 0x0D00
/-- Generic code of the block of keys and attestation (R393). -/
def Blk.sec : Nat := 0x0E00
/-- Generic code of the block of the host port (R393). -/
def Blk.host : Nat := 0x0F00

end Sys2Proof.Machine
end

