-- ==== Sys2Proof/Machine/Numerics.lean ====
section
/-!
DEFINITION. Number formats (R46 to R50), exact arithmetic and its single rounding (R51 to R59), scales (R60 to R68).
A value is exact: NaN, an infinity, or a signed quotient of naturals.  Arithmetic is exact and is rounded once by the
format it lands in.
-/
namespace Sys2Proof.Machine

/-- The formats of R46. -/
inductive Fmt where
  | fp32 | bf16 | e4m3 | e5m2 | int8 | e2m1 | int32 | ue5m3 | e8m0
deriving DecidableEq, Repr

/-- The format code table of R46; reserved codes name none. -/
def Fmt.ofCode : Nat → Option Fmt
  | 0 => some .fp32 | 1 => some .bf16 | 2 => some .e4m3 | 3 => some .e5m2 | 4 => some .int8
  | 5 => some .e2m1 | 6 => some .int32 | 8 => some .ue5m3 | 9 => some .e8m0
  | _ => none

/-- Width in bits of one element (E2M1: of the element without its microscale). -/
def Fmt.bits : Fmt → Nat
  | .fp32 => 32 | .bf16 => 16 | .e4m3 => 8 | .e5m2 => 8 | .int8 => 8 | .e2m1 => 4 | .int32 => 32 | .ue5m3 => 8 | .e8m0 => 8

/-- Bytes of one element; an E2M1 element is counted with its segment. -/
def Fmt.bytes (f : Fmt) : Nat := f.bits / 8

/-- A format valid only in a scale plane (R46). -/
def Fmt.planeOnly : Fmt → Bool
  | .ue5m3 => true | .e8m0 => true | _ => false

/-- A narrow format that carries scale planes on output (R48, R61). -/
def Fmt.scaled : Fmt → Bool
  | .e4m3 => true | .e5m2 => true | .int8 => true | _ => false

/-- Mantissa field width of a floating format (R49). -/
def Fmt.man : Fmt → Nat
  | .fp32 => 23 | .bf16 => 7 | .e4m3 => 3 | .e5m2 => 2 | .e2m1 => 1 | .ue5m3 => 3 | _ => 0

/-- Exponent bias (R49). -/
def Fmt.bias : Fmt → Nat
  | .fp32 => 127 | .bf16 => 127 | .e4m3 => 7 | .e5m2 => 15 | .e2m1 => 1 | .ue5m3 => 15 | .e8m0 => 127 | _ => 0

/-- Exponent field width (R49). -/
def Fmt.expBits : Fmt → Nat
  | .fp32 => 8 | .bf16 => 8 | .e4m3 => 4 | .e5m2 => 5 | .e2m1 => 2 | .ue5m3 => 5 | .e8m0 => 8 | _ => 0

/-- Whether the format has a sign bit. -/
def Fmt.signed : Fmt → Bool
  | .ue5m3 => false | .e8m0 => false | _ => true

/-- An exact value: NaN, an infinity, or sign times num / den. -/
inductive Val where
  | nan
  | inf (neg : Bool)
  | fin (neg : Bool) (num den : Nat)
deriving DecidableEq, Repr

/-- m times 2^e with a sign. -/
def Val.dyadic (neg : Bool) (m : Nat) (e : Int) : Val :=
  if 0 ≤ e then .fin neg (m * 2 ^ e.toNat) 1 else .fin neg m (2 ^ (-e).toNat)

/-- A signed zero. -/
def Val.zero (neg : Bool) : Val := .fin neg 0 1

/-- An integer. -/
def Val.ofInt (i : Int) : Val := .fin (decide (i < 0)) i.natAbs 1

def Val.isNan : Val → Bool
  | .nan => true | _ => false

def Val.isFin : Val → Bool
  | .fin _ _ _ => true | _ => false

def Val.isZero : Val → Bool
  | .fin _ n _ => n == 0 | _ => false

def Val.sign : Val → Bool
  | .nan => false | .inf s => s | .fin s _ _ => s

def Val.neg : Val → Val
  | .nan => .nan | .inf s => .inf (!s) | .fin s n d => .fin (!s) n d

def Val.abs : Val → Val
  | .nan => .nan | .inf _ => .inf false | .fin _ n d => .fin false n d

/-- Exact sum; an exact zero takes the sign of R52. -/
def Val.add : Val → Val → Val
  | .nan, _ => .nan
  | _, .nan => .nan
  | .inf s, .inf t => if s = t then .inf s else .nan
  | .inf s, .fin _ _ _ => .inf s
  | .fin _ _ _, .inf t => .inf t
  | .fin s a b, .fin t c d =>
    if s = t then .fin s (a * d + c * b) (b * d)
    else if c * b < a * d then .fin s (a * d - c * b) (b * d)
    else if a * d < c * b then .fin t (c * b - a * d) (b * d)
    else .fin false 0 1

/-- Exact product (R53: formed with unbounded exponent). -/
def Val.mul : Val → Val → Val
  | .nan, _ => .nan
  | _, .nan => .nan
  | .inf s, .inf t => .inf (s != t)
  | .inf s, .fin t c _ => if c = 0 then .nan else .inf (s != t)
  | .fin s a _, .inf t => if a = 0 then .nan else .inf (s != t)
  | .fin s a b, .fin t c d => .fin (s != t) (a * c) (b * d)

/-- Exact quotient; a zero divisor gives NaN for 0 / 0 and an infinity otherwise, as IEEE 754 assigns. -/
def Val.div : Val → Val → Val
  | .nan, _ => .nan
  | _, .nan => .nan
  | .inf _, .inf _ => .nan
  | .inf s, .fin t _ _ => .inf (s != t)
  | .fin s _ _, .inf t => .fin (s != t) 0 1
  | .fin s a b, .fin t c d =>
    if c = 0 then (if a = 0 then .nan else .inf (s != t)) else .fin (s != t) (a * d) (b * c)

/-- Exact difference. -/
def Val.sub (a b : Val) : Val := a.add b.neg

/-- a times b plus c, exactly. -/
def Val.fma (a b c : Val) : Val := (a.mul b).add c

/-- Numeric order on values that are not NaN; the two zeros are equal. -/
def Val.lt : Val → Val → Bool
  | .nan, _ => false
  | _, .nan => false
  | .inf s, .inf t => s && !t
  | .inf s, .fin _ _ _ => s
  | .fin _ _ _, .inf t => !t
  | .fin s a b, .fin t c d =>
    match s, t with
    | false, false => decide (a * d < c * b)
    | true, true => decide (c * b < a * d)
    | true, false => decide (0 < a) || decide (0 < c)
    | false, true => false

def Val.eq (a b : Val) : Bool := !a.isNan && !b.isNan && !a.lt b && !b.lt a

def Val.le (a b : Val) : Bool := a.lt b || a.eq b

/-- Whether the exact magnitude is a subnormal of the format (nonzero and below its smallest normal). -/
def Val.subnormalIn (f : Fmt) : Val → Bool
  | .fin _ n d => decide (0 < n) && decide (n * 2 ^ (f.bias - 1) < d)
  | _ => false

/-- Heritage flush of an input or a result: a subnormal becomes zero of its sign (R178). -/
def Val.flush (h : Bool) (f : Fmt) (v : Val) : Val :=
  if h && v.subnormalIn f then .zero v.sign else v

/-- floor(log2(num / den)) for num, den nonzero. -/
def ilog2 (num den : Nat) : Int :=
  let k : Int := (Nat.log2 num : Int) - (Nat.log2 den : Int)
  if 0 ≤ k then (if num < den * 2 ^ k.toNat then k - 1 else k)
  else (if num * 2 ^ (-k).toNat < den then k - 1 else k)

/-- ceil(log2(num / den)) for num, den nonzero. -/
def ceilLog2 (num den : Nat) : Int :=
  let k := ilog2 num den
  let exact := if 0 ≤ k then decide (num = den * 2 ^ k.toNat) else decide (num * 2 ^ (-k).toNat = den)
  if exact then k else k + 1

/-- The rounding modes: nearest even, stochastic with a 16-bit draw (R58, R59), and the round-up of R61. -/
inductive Rnd where
  | rne
  | stoch (u : Nat)
  | up
deriving DecidableEq, Repr

/-- Round the quotient n / d to a natural. -/
def roundNat (r : Rnd) (n d : Nat) : Nat :=
  let q := n / d
  let m := n % d
  match r with
  | .rne => if d < 2 * m || (2 * m == d && q % 2 == 1) then q + 1 else q
  | .stoch u => if u < 65536 * m / d then q + 1 else q
  | .up => if m = 0 then q else q + 1

/-- Round a magnitude to p significant bits with least quantum 2^(emin - (p - 1)): answers (m, q) for m times 2^q. -/
def roundMag (r : Rnd) (p : Nat) (emin : Int) (num den : Nat) : Nat × Int :=
  if num = 0 then (0, emin - (p - 1 : Nat)) else
    let e := ilog2 num den
    let q : Int := (if e < emin then emin else e) - (p - 1 : Nat)
    let m := if 0 ≤ q then roundNat r num (den * 2 ^ q.toNat) else roundNat r (num * 2 ^ (-q).toNat) den
    if m = 2 ^ p then (2 ^ (p - 1), q + 1) else (m, q)

/-- The largest finite value of a floating format as mantissa and exponent (R49). -/
def Fmt.top : Fmt → Nat × Int
  | .fp32 => (2 ^ 24 - 1, 104)
  | .bf16 => (255, 120)
  | .e4m3 => (14, 5)
  | .e5m2 => (7, 13)
  | .e2m1 => (3, 1)
  | .ue5m3 => (14, 13)
  | .e8m0 => (1, 127)
  | .int8 => (127, 0)
  | .int32 => (2147483647, 0)

/-- The largest finite magnitude as an exact value. -/
def Fmt.topVal (f : Fmt) : Val := .dyadic false f.top.1 f.top.2

/-- Encoding of m times 2^q in a floating format, m within its precision (R49). -/
def Fmt.assemble (f : Fmt) (neg : Bool) (m : Nat) (q : Int) : Nat :=
  let s := if neg && f.signed then 2 ^ (f.bits - 1) else 0
  if m < 2 ^ f.man then s + m
  else s + ((q + (f.man : Int) + (f.bias : Int)).toNat) * 2 ^ f.man + (m - 2 ^ f.man)

/-- The canonical NaN (R51); 0xFF for the scale formats; 0 where the format has none (R56). -/
def Fmt.nanBits : Fmt → Nat
  | .fp32 => 0x7FC00000 | .bf16 => 0x7FC0 | .e5m2 => 0x7F | .e4m3 => 0x7F | .ue5m3 => 0xFF | .e8m0 => 0xFF
  | .int8 => 0 | .int32 => 0 | .e2m1 => 0

/-- Two's-complement encoding of an integer in n bits. -/
def twos (n : Nat) (i : Int) : Nat := (i % (2 ^ n : Int)).toNat

/-- A conversion's result: the encoding, and whether a finite source saturated (R57) or the source was not finite. -/
structure Conv where
  bits : Nat
  sat : Bool
  nonfin : Bool
deriving DecidableEq, Repr

/-- What a magnitude beyond the format's range becomes (R56). -/
def Fmt.overflowBits (f : Fmt) (neg : Bool) : Nat :=
  match f with
  | .fp32 => if neg then 0xFF800000 else 0x7F800000
  | .bf16 => if neg then 0xFF80 else 0x7F80
  | .int8 => if neg then twos 8 (-127) else 127
  | .int32 => if neg then 0x80000000 else 0x7FFFFFFF
  | _ => f.assemble neg f.top.1 f.top.2

/-- What an infinite source becomes (R56). -/
def Fmt.infBits (f : Fmt) (neg : Bool) : Nat :=
  match f with
  | .e4m3 => 0x7F
  | .e5m2 => if neg then 0xFC else 0x7C
  | _ => f.overflowBits neg

/-- Conversion of an exact value to a format (R56): round by the mode, then saturate; non-finite by the table. -/
def Fmt.convert (f : Fmt) (r : Rnd) (v : Val) : Conv :=
  match v with
  | .nan => ⟨f.nanBits, false, true⟩
  | .inf s => ⟨f.infBits s, false, true⟩
  | .fin s n d =>
    match f with
    | .int8 =>
      let m := roundNat r n d
      if 127 < m then ⟨f.overflowBits s, true, false⟩ else ⟨twos 8 (if s then -(m : Int) else m), false, false⟩
    | .int32 =>
      let m := roundNat r n d
      if s then (if 2147483648 < m then ⟨f.overflowBits s, true, false⟩ else ⟨twos 32 (-(m : Int)), false, false⟩)
      else (if 2147483647 < m then ⟨f.overflowBits s, true, false⟩ else ⟨m, false, false⟩)
    | _ =>
      let mq := roundMag r (f.man + 1) (1 - (f.bias : Int)) n d
      if f.topVal.lt (.dyadic false mq.1 mq.2) then ⟨f.overflowBits s, true, false⟩
      else ⟨f.assemble s mq.1 mq.2, false, false⟩

/-- Decoding (R49, R50) of an element's bits. -/
def Fmt.decode (f : Fmt) (b : Nat) : Val :=
  match f with
  | .int8 => .ofInt (if b % 256 < 128 then (b % 256 : Nat) else ((b % 256 : Nat) : Int) - 256)
  | .int32 => .ofInt (if b % 2 ^ 32 < 2 ^ 31 then (b % 2 ^ 32 : Nat) else ((b % 2 ^ 32 : Nat) : Int) - 2 ^ 32)
  | .e8m0 => if b % 256 = 0xFF then .nan else .dyadic false 1 ((b % 256 : Nat) - 127 : Int)
  | _ =>
    let neg := f.signed && (b / 2 ^ (f.bits - 1)) % 2 == 1
    let e := (b / 2 ^ f.man) % 2 ^ f.expBits
    let m := b % 2 ^ f.man
    let special : Option Val :=
      match f with
      | .fp32 => if e = 255 then (if m = 0 then some (.inf neg) else some .nan) else none
      | .bf16 => if e = 255 then (if m = 0 then some (.inf neg) else some .nan) else none
      | .e5m2 => if e = 31 then (if m = 0 then some (.inf neg) else some .nan) else none
      | .e4m3 => if e = 15 && m == 7 then some .nan else none
      | .ue5m3 => if e = 31 && m == 7 then some .nan else none
      | _ => none
    match special with
    | some v => v
    | none =>
      if e = 0 then .dyadic neg m (1 - (f.bias : Int) - (f.man : Int))
      else .dyadic neg (2 ^ f.man + m) ((e : Int) - (f.bias : Int) - (f.man : Int))

/-- FP32 encoding of an exact value, rounded once to nearest even; heritage flushes a subnormal result (R53, R178). -/
def fp32 (h : Bool) (v : Val) : Word32 :=
  let b := (Fmt.fp32.convert .rne v).bits
  if h && (Fmt.fp32.decode b).subnormalIn .fp32 then BitVec.ofNat 32 (if v.sign then 0x80000000 else 0) else BitVec.ofNat 32 b

/-- The exact value of an FP32 word as an operand (flushed in heritage mode). -/
def val32 (h : Bool) (w : Word32) : Val := (Fmt.fp32.decode w.toNat).flush h .fp32

/-- FP32 sum, one rounding. -/
def add32 (h : Bool) (a b : Word32) : Word32 := fp32 h ((val32 h a).add (val32 h b))

/-- FP32 product, one rounding. -/
def mul32 (h : Bool) (a b : Word32) : Word32 := fp32 h ((val32 h a).mul (val32 h b))

/-- FP32 fused multiply-add, one rounding. -/
def fma32 (h : Bool) (a b c : Word32) : Word32 := fp32 h ((val32 h a).fma (val32 h b) (val32 h c))

/-- The cell step of R53: accumulator plus an exact product of two exact inputs, rounded once. -/
def cellStep (h : Bool) (acc : Word32) (a b : Val) : Word32 := fp32 h (Val.fma a b (val32 h acc))

/-- Bits of a square root: greatest r with r * r at most n, built from bit i downward. -/
def isqrtBits : Nat → Nat → Nat → Nat
  | 0, r, n => if (r + 1) * (r + 1) ≤ n then r + 1 else r
  | i + 1, r, n => isqrtBits i (if (r + 2 ^ (i + 1)) * (r + 2 ^ (i + 1)) ≤ n then r + 2 ^ (i + 1) else r) n

/-- Integer square root. -/
def isqrt (n : Nat) : Nat := isqrtBits (Nat.log2 n / 2 + 1) 0 n

/-- Correctly rounded FP32 square root of num / den: the exact root where it is rational, otherwise a 256-bit lower
bound with a half unit added, which no FP32 rounding boundary can lie beneath. -/
def sqrtVal (num den : Nat) : Val :=
  let s := 2 ^ 300
  let r := isqrt (num * s * s / den)
  if r * r * den = num * s * s then .fin false r s else .fin false (2 * r + 1) (2 * s)

/-! ### Scales -/

/-- Largest finite magnitude Q that scales are derived for (R61, R64). -/
def Fmt.scaleQ : Fmt → Nat
  | .e4m3 => 448 | .e5m2 => 57344 | .int8 => 127 | .e2m1 => 384 | _ => 1

/-- Exponent of the tile scale T derived from the maximum A (R61): max(ceil(log2(A / Q)) - 15, -126). -/
def tileExp (q : Nat) (num den : Nat) : Int :=
  let e := ceilLog2 num (den * q) - 15
  if e < -126 then -126 else e

/-- The first-level scale code for a maximum a under Q and tile exponent t (R61); powers of two in heritage (R178). -/
def rowScale (h : Bool) (q : Nat) (t : Int) (num den : Nat) : Nat :=
  if num = 0 then 0 else
    let n := if 0 ≤ t then num else num * 2 ^ (-t).toNat
    let d := if 0 ≤ t then den * q * 2 ^ t.toNat else den * q
    if h then
      -- mantissa 0 throughout: a power of two below the least normal one is a subnormal result, and becomes zero
      let e := ceilLog2 n d
      if e < -14 then 0 else Fmt.ue5m3.assemble false 8 (e - 3)
    else
      let mq := roundMag .up 4 (-14) n d
      Fmt.ue5m3.assemble false mq.1 mq.2

/-- The greatest finite magnitude of a list, as a fraction (0 / 1 if none is finite): R61, R62. -/
def maxMag : List Val → Nat × Nat
  | [] => (0, 1)
  | .fin _ n d :: vs =>
    let r := maxMag vs
    if r.1 * d < n * r.2 then (n, d) else r
  | _ :: vs => maxMag vs

/-- An infinity of an FP32 word. -/
def isInf32 (w : Word32) : Bool := w.toNat % 2 ^ 31 == 0x7F800000

/-- A first-level scale that stands for zero: 0x00, and in heritage mode a subnormal (R60, R178). -/
def scaleZero (h : Bool) (q : Nat) : Bool := ((Fmt.ue5m3.decode q).flush h .ue5m3).isZero

/-- The pass scaling of R60: p is the pass result, qs and qt the two first-level codes, ts and tt the tile scales.
A zero q gives a zero with the sign of p times g, +0 when p or g is NaN. -/
def scalePass (h : Bool) (p : Val) (qs qt : Nat) (ts tt : Word32) : Word32 :=
  let g := mul32 h ts tt
  if scaleZero h qs || scaleZero h qt then
    let neg := if p.isNan || (val32 h g).isNan then false else p.sign != (val32 h g).sign
    if neg then 0x80000000#32 else 0#32
  else
    let f := (Fmt.ue5m3.decode qs).mul (Fmt.ue5m3.decode qt)
    mul32 h (fp32 h (p.mul f)) g

/-- The microscale exponent of a block's largest magnitude (R67): ceil(log2(b / 6)) clamped to -8..6; 0 for b = 0. -/
def microExp (num den : Nat) : Int :=
  if num = 0 then 0 else
    let e := ceilLog2 num (den * 6)
    if e < -8 then -8 else if 6 < e then 6 else e

/-- 2^e as an exact value. -/
def pow2 (e : Int) : Val := .dyadic false 1 e

/-- A stored element's real value under its two scales (R60). -/
def scaledVal (h : Bool) (f : Fmt) (bits q : Nat) (t : Word32) : Val :=
  (((f.decode bits).flush h f).mul (Fmt.ue5m3.decode q)).mul (val32 h t)

end Sys2Proof.Machine
end

