-- ==== Sys2Proof/Machine/RegMap.lean ====
section
/-!
DEFINITION. The map of control space (R418): for every register family of the index its offset, and for every field
of it a reference (offset, low bit, width).  Offsets follow "Control Space Register Index"; bit ranges follow the field
tables of each chapter.
-/
namespace Sys2Proof.Machine

/-- A field of a register: the register's offset in control space, the field's low bit and its width. -/
structure FieldRef where
  off : Nat
  lo : Nat
  width : Nat
deriving DecidableEq, Repr

/-- CTL_CONTRACT_CAPS -/
def Reg.caps : Nat := 0x0
def Fld.caps_version : FieldRef := ⟨Reg.caps, 0, 8⟩
def Fld.caps_work_queues : FieldRef := ⟨Reg.caps, 8, 8⟩
def Fld.caps_max_in_flight : FieldRef := ⟨Reg.caps, 16, 16⟩
def Fld.caps_counters : FieldRef := ⟨Reg.caps, 32, 16⟩
def Fld.caps_contexts_log2 : FieldRef := ⟨Reg.caps, 48, 8⟩
/-- CTL_INVENTORY -/
def Reg.inventory : Nat := 0x8
def Fld.inventory_arrays : FieldRef := ⟨Reg.inventory, 0, 3⟩
def Fld.inventory_array_mask : FieldRef := ⟨Reg.inventory, 3, 4⟩
def Fld.inventory_engines : FieldRef := ⟨Reg.inventory, 7, 7⟩
def Fld.inventory_spares_idle : FieldRef := ⟨Reg.inventory, 14, 4⟩
def Fld.inventory_channels : FieldRef := ⟨Reg.inventory, 18, 10⟩
def Fld.inventory_stacks : FieldRef := ⟨Reg.inventory, 28, 5⟩
/-- CTL_ABORT_REQ -/
def Reg.abortReq : Nat := 0x10
def Fld.abortReq_wq : FieldRef := ⟨Reg.abortReq, 0, 6⟩
def Fld.abortReq_result_cq : FieldRef := ⟨Reg.abortReq, 8, 6⟩
def Fld.abortReq_tag : FieldRef := ⟨Reg.abortReq, 32, 32⟩
/-- CTL_OPTAB_USED -/
def Reg.optabUsed : Nat := 0x18
def Fld.optabUsed_used : FieldRef := ⟨Reg.optabUsed, 0, 13⟩
/-- CTL_OPTAB_HWM -/
def Reg.optabHwm : Nat := 0x20
def Fld.optabHwm_high_water : FieldRef := ⟨Reg.optabHwm, 0, 13⟩
/-- CTL_STEP_n -/
def Reg.stepN (n : Nat) : Nat := 0x100 + 256 * n
def Fld.stepN_open_step (n : Nat) : FieldRef := ⟨Reg.stepN n, 0, 64⟩
/-- CTL_NUMPOL_ -/
def Reg.numpol (n : Nat) : Nat := 0x108 + 256 * n
def Fld.numpol_heritage (n : Nat) : FieldRef := ⟨Reg.numpol n, 0, 1⟩
def Fld.numpol_nan_policy (n : Nat) : FieldRef := ⟨Reg.numpol n, 1, 2⟩
def Fld.numpol_awl_enable (n : Nat) : FieldRef := ⟨Reg.numpol n, 3, 1⟩
def Fld.numpol_awl_widen (n : Nat) : FieldRef := ⟨Reg.numpol n, 4, 1⟩
def Fld.numpol_awl_period_log2 (n : Nat) : FieldRef := ⟨Reg.numpol n, 8, 5⟩
def Fld.numpol_awl_mult (n : Nat) : FieldRef := ⟨Reg.numpol n, 13, 4⟩
def Fld.numpol_ladder_enable (n : Nat) : FieldRef := ⟨Reg.numpol n, 17, 1⟩
/-- CTL_RNG_SEED_n -/
def Reg.rngSeed (n : Nat) : Nat := 0x110 + 256 * n
def Fld.rngSeed_seed (n : Nat) : FieldRef := ⟨Reg.rngSeed n, 0, 64⟩
/-- CTL_DATAPOS_n -/
def Reg.dataPos (n : Nat) : Nat := 0x118 + 256 * n
def Fld.dataPos_data_pos (n : Nat) : FieldRef := ⟨Reg.dataPos n, 0, 64⟩
/-- CTL_LADDER_BASE_ -/
def Reg.ladderBase (n : Nat) : Nat := 0x120 + 256 * n
def Fld.ladderBase_base (n : Nat) : FieldRef := ⟨Reg.ladderBase n, 6, 58⟩
/-- CTL_LADDER_CFG_ -/
def Reg.ladderCfg (n : Nat) : Nat := 0x128 + 256 * n
def Fld.ladderCfg_entries (n : Nat) : FieldRef := ⟨Reg.ladderCfg n, 0, 11⟩
def Fld.ladderCfg_open (n : Nat) : FieldRef := ⟨Reg.ladderCfg n, 16, 1⟩
/-- CTL_LADDER_STAT_ -/
def Reg.ladderStat (n : Nat) : Nat := 0x130 + 256 * n
def Fld.ladderStat_rises (n : Nat) : FieldRef := ⟨Reg.ladderStat n, 0, 32⟩
def Fld.ladderStat_last_ctr (n : Nat) : FieldRef := ⟨Reg.ladderStat n, 32, 16⟩
def Fld.ladderStat_tops (n : Nat) : FieldRef := ⟨Reg.ladderStat n, 48, 8⟩
/-- CTL_AWL_SAMPLES_n -/
def Reg.awlSamples (n : Nat) : Nat := 0x138 + 256 * n
def Fld.awlSamples_sampled (n : Nat) : FieldRef := ⟨Reg.awlSamples n, 0, 64⟩
/-- CTL_AWL_STAT_n -/
def Reg.awlStat (n : Nat) : Nat := 0x140 + 256 * n
def Fld.awlStat_breaches (n : Nat) : FieldRef := ⟨Reg.awlStat n, 0, 16⟩
def Fld.awlStat_last_slot (n : Nat) : FieldRef := ⟨Reg.awlStat n, 16, 12⟩
def Fld.awlStat_last_tile (n : Nat) : FieldRef := ⟨Reg.awlStat n, 32, 32⟩
/-- CTL_STEPREC_BASE_n -/
def Reg.steprecBase (n : Nat) : Nat := 0x148 + 256 * n
def Fld.steprecBase_base (n : Nat) : FieldRef := ⟨Reg.steprecBase n, 8, 56⟩
/-- CTL_STEPREC_CFG_n -/
def Reg.steprecCfg (n : Nat) : Nat := 0x150 + 256 * n
def Fld.steprecCfg_enable (n : Nat) : FieldRef := ⟨Reg.steprecCfg n, 0, 1⟩
def Fld.steprecCfg_size_log2 (n : Nat) : FieldRef := ⟨Reg.steprecCfg n, 4, 5⟩
/-- CTL_STEPREC_HEAD_n -/
def Reg.steprecHead (n : Nat) : Nat := 0x158 + 256 * n
def Fld.steprecHead_written (n : Nat) : FieldRef := ⟨Reg.steprecHead n, 0, 32⟩
/-- CTL_REPLAY_ -/
def Reg.replay (n : Nat) : Nat := 0x160 + 256 * n
def Fld.replay_enable (n : Nat) : FieldRef := ⟨Reg.replay n, 0, 1⟩
def Fld.replay_scope (n : Nat) : FieldRef := ⟨Reg.replay n, 1, 1⟩
def Fld.replay_diverged (n : Nat) : FieldRef := ⟨Reg.replay n, 2, 1⟩
def Fld.replay_rec_addr (n : Nat) : FieldRef := ⟨Reg.replay n, 8, 56⟩
/-- CTL_CTR_RANGE_ -/
def Reg.ctrRange (n : Nat) : Nat := 0x168 + 256 * n
def Fld.ctrRange_first (n : Nat) : FieldRef := ⟨Reg.ctrRange n, 0, 14⟩
def Fld.ctrRange_count (n : Nat) : FieldRef := ⟨Reg.ctrRange n, 16, 15⟩
/-- CTL_NQ_ADDR_ -/
def Reg.nqAddr (n : Nat) : Nat := 0x800 + 32 * n
def Fld.nqAddr_addr (n : Nat) : FieldRef := ⟨Reg.nqAddr n, 6, 58⟩
/-- CTL_NQ_CFG_ -/
def Reg.nqCfg (n : Nat) : Nat := 0x808 + 32 * n
def Fld.nqCfg_qp (n : Nat) : FieldRef := ⟨Reg.nqCfg n, 0, 11⟩
def Fld.nqCfg_size_log2 (n : Nat) : FieldRef := ⟨Reg.nqCfg n, 16, 5⟩
def Fld.nqCfg_enable (n : Nat) : FieldRef := ⟨Reg.nqCfg n, 24, 1⟩
def Fld.nqCfg_held (n : Nat) : FieldRef := ⟨Reg.nqCfg n, 25, 1⟩
def Fld.nqCfg_rkey (n : Nat) : FieldRef := ⟨Reg.nqCfg n, 32, 32⟩
/-- CTL_NQ_HEAD_n -/
def Reg.nqHead (n : Nat) : Nat := 0x810 + 32 * n
def Fld.nqHead_head (n : Nat) : FieldRef := ⟨Reg.nqHead n, 0, 32⟩
/-- CTL_NQ_DROP_n -/
def Reg.nqDrop (n : Nat) : Nat := 0x818 + 32 * n
def Fld.nqDrop_dropped (n : Nat) : FieldRef := ⟨Reg.nqDrop n, 0, 32⟩
/-- CTL_WQ_BASE_ -/
def Reg.wqBase (n : Nat) : Nat := 0x1000 + 64 * n
def Fld.wqBase_base (n : Nat) : FieldRef := ⟨Reg.wqBase n, 12, 52⟩
/-- CTL_WQ_CFG_ -/
def Reg.wqCfg (n : Nat) : Nat := 0x1008 + 64 * n
def Fld.wqCfg_enable (n : Nat) : FieldRef := ⟨Reg.wqCfg n, 0, 1⟩
def Fld.wqCfg_size_log2 (n : Nat) : FieldRef := ⟨Reg.wqCfg n, 4, 5⟩
def Fld.wqCfg_queue_prio (n : Nat) : FieldRef := ⟨Reg.wqCfg n, 12, 2⟩
def Fld.wqCfg_partition (n : Nat) : FieldRef := ⟨Reg.wqCfg n, 16, 2⟩
def Fld.wqCfg_min_slots (n : Nat) : FieldRef := ⟨Reg.wqCfg n, 19, 13⟩
/-- CTL_WQ_TAIL_n -/
def Reg.wqTail (n : Nat) : Nat := 0x1010 + 64 * n
def Fld.wqTail_tail (n : Nat) : FieldRef := ⟨Reg.wqTail n, 0, 32⟩
/-- CTL_WQ_HEAD_n -/
def Reg.wqHead (n : Nat) : Nat := 0x1018 + 64 * n
def Fld.wqHead_head (n : Nat) : FieldRef := ⟨Reg.wqHead n, 0, 32⟩
/-- CTL_WQ_STAT_ -/
def Reg.wqStat (n : Nat) : Nat := 0x1020 + 64 * n
def Fld.wqStat_in_flight (n : Nat) : FieldRef := ⟨Reg.wqStat n, 0, 13⟩
def Fld.wqStat_stall_slots (n : Nat) : FieldRef := ⟨Reg.wqStat n, 16, 1⟩
def Fld.wqStat_stall_cq (n : Nat) : FieldRef := ⟨Reg.wqStat n, 17, 1⟩
def Fld.wqStat_refused (n : Nat) : FieldRef := ⟨Reg.wqStat n, 18, 1⟩
def Fld.wqStat_tail_bad (n : Nat) : FieldRef := ⟨Reg.wqStat n, 19, 1⟩
/-- CTL_CQ_ADDR_ -/
def Reg.cqAddr (n : Nat) : Nat := 0x2000 + 32 * n
def Fld.cqAddr_addr (n : Nat) : FieldRef := ⟨Reg.cqAddr n, 6, 58⟩
/-- CTL_CQ_CFG_ -/
def Reg.cqCfg (n : Nat) : Nat := 0x2008 + 32 * n
def Fld.cqCfg_qp (n : Nat) : FieldRef := ⟨Reg.cqCfg n, 0, 11⟩
def Fld.cqCfg_size_log2 (n : Nat) : FieldRef := ⟨Reg.cqCfg n, 16, 5⟩
def Fld.cqCfg_enable (n : Nat) : FieldRef := ⟨Reg.cqCfg n, 24, 1⟩
def Fld.cqCfg_held (n : Nat) : FieldRef := ⟨Reg.cqCfg n, 25, 1⟩
def Fld.cqCfg_rkey (n : Nat) : FieldRef := ⟨Reg.cqCfg n, 32, 32⟩
/-- CTL_CQ_HEAD_n -/
def Reg.cqHead (n : Nat) : Nat := 0x2010 + 32 * n
def Fld.cqHead_head (n : Nat) : FieldRef := ⟨Reg.cqHead n, 0, 32⟩
/-- CTL_OPSTAT_n -/
def Reg.opstat (n : Nat) : Nat := 0x8000 + 8 * n
def Fld.opstat_status (n : Nat) : FieldRef := ⟨Reg.opstat n, 0, 32⟩
/-- CTL_DEPCTR_n -/
def Reg.depctr (n : Nat) : Nat := 0x10000 + 8 * n
def Fld.depctr_value (n : Nat) : FieldRef := ⟨Reg.depctr n, 0, 32⟩
/-- STRM_OPEN_RING -/
def Reg.strmOpenRing : Nat := 0x30000
def Fld.strmOpenRing_ring_base : FieldRef := ⟨Reg.strmOpenRing, 10, 54⟩
/-- STRM_OPEN_CFG -/
def Reg.strmOpenCfg : Nat := 0x30008
def Fld.strmOpenCfg_ctx : FieldRef := ⟨Reg.strmOpenCfg, 0, 16⟩
def Fld.strmOpenCfg_ring_log2 : FieldRef := ⟨Reg.strmOpenCfg, 16, 5⟩
def Fld.strmOpenCfg_dir : FieldRef := ⟨Reg.strmOpenCfg, 21, 1⟩
def Fld.strmOpenCfg_partition : FieldRef := ⟨Reg.strmOpenCfg, 22, 2⟩
def Fld.strmOpenCfg_min_slots : FieldRef := ⟨Reg.strmOpenCfg, 24, 15⟩
def Fld.strmOpenCfg_max_slots : FieldRef := ⟨Reg.strmOpenCfg, 39, 15⟩
def Fld.strmOpenCfg_go : FieldRef := ⟨Reg.strmOpenCfg, 63, 1⟩
/-- STRM_OPEN_STATUS -/
def Reg.strmOpenStatus : Nat := 0x30010
def Fld.strmOpenStatus_ctx : FieldRef := ⟨Reg.strmOpenStatus, 0, 16⟩
def Fld.strmOpenStatus_result : FieldRef := ⟨Reg.strmOpenStatus, 16, 3⟩
def Fld.strmOpenStatus_was_close : FieldRef := ⟨Reg.strmOpenStatus, 19, 1⟩
def Fld.strmOpenStatus_valid : FieldRef := ⟨Reg.strmOpenStatus, 31, 1⟩
/-- STRM_CLOSE -/
def Reg.strmClose : Nat := 0x30018
def Fld.strmClose_ctx : FieldRef := ⟨Reg.strmClose, 0, 16⟩
def Fld.strmClose_go : FieldRef := ⟨Reg.strmClose, 31, 1⟩
/-- STRM_RING_TAIL -/
def Reg.strmRingTail : Nat := 0x30020
def Fld.strmRingTail_ctx : FieldRef := ⟨Reg.strmRingTail, 0, 16⟩
def Fld.strmRingTail_tail : FieldRef := ⟨Reg.strmRingTail, 32, 32⟩
/-- STRM_RESYNC -/
def Reg.strmResync : Nat := 0x30028
def Fld.strmResync_ctx : FieldRef := ⟨Reg.strmResync, 0, 16⟩
def Fld.strmResync_head : FieldRef := ⟨Reg.strmResync, 32, 32⟩
/-- STRM_CTX_SEL -/
def Reg.strmCtxSel : Nat := 0x30030
def Fld.strmCtxSel_ctx : FieldRef := ⟨Reg.strmCtxSel, 0, 16⟩
/-- STRM_SPLIT -/
def Reg.strmSplit : Nat := 0x30038
def Fld.strmSplit_read_pct : FieldRef := ⟨Reg.strmSplit, 0, 8⟩
def Fld.strmSplit_write_pct : FieldRef := ⟨Reg.strmSplit, 8, 8⟩
def Fld.strmSplit_remote_pct : FieldRef := ⟨Reg.strmSplit, 16, 8⟩
def Fld.strmSplit_fw_slots_kib : FieldRef := ⟨Reg.strmSplit, 24, 8⟩
/-- STRM_WDOG_CFG -/
def Reg.strmWdogCfg : Nat := 0x30040
def Fld.strmWdogCfg_limit_us : FieldRef := ⟨Reg.strmWdogCfg, 0, 16⟩
def Fld.strmWdogCfg_enable : FieldRef := ⟨Reg.strmWdogCfg, 16, 1⟩
/-- STRM_WDOG_STAT -/
def Reg.strmWdogStat : Nat := 0x30048
def Fld.strmWdogStat_waits : FieldRef := ⟨Reg.strmWdogStat, 0, 32⟩
def Fld.strmWdogStat_last_ctx : FieldRef := ⟨Reg.strmWdogStat, 32, 16⟩
def Fld.strmWdogStat_last_kind : FieldRef := ⟨Reg.strmWdogStat, 48, 2⟩
/-- STRM_ERR -/
def Reg.strmErr : Nat := 0x30050
def Fld.strmErr_tail_bad : FieldRef := ⟨Reg.strmErr, 0, 1⟩
def Fld.strmErr_seq_bad : FieldRef := ⟨Reg.strmErr, 1, 1⟩
def Fld.strmErr_desc_bad : FieldRef := ⟨Reg.strmErr, 2, 1⟩
def Fld.strmErr_xpose_span : FieldRef := ⟨Reg.strmErr, 3, 1⟩
def Fld.strmErr_stale : FieldRef := ⟨Reg.strmErr, 4, 1⟩
def Fld.strmErr_wdog : FieldRef := ⟨Reg.strmErr, 5, 1⟩
def Fld.strmErr_resync_bad : FieldRef := ⟨Reg.strmErr, 6, 1⟩
def Fld.strmErr_last_ctx : FieldRef := ⟨Reg.strmErr, 16, 16⟩
/-- STRM_CTX_WORD_i -/
def Reg.strmCtxWord (n : Nat) : Nat := 0x30080 + 8 * n
def Fld.strmCtxWord_word (n : Nat) : FieldRef := ⟨Reg.strmCtxWord n, 0, 64⟩
/-- STRM_POOL_ -/
def Reg.strmPool (n : Nat) : Nat := 0x30100 + 64 * n
def Fld.strmPool_reserved_sum (n : Nat) : FieldRef := ⟨Reg.strmPool n, 0, 16⟩
def Fld.strmPool_in_use (n : Nat) : FieldRef := ⟨Reg.strmPool n, 16, 16⟩
def Fld.strmPool_high_water (n : Nat) : FieldRef := ⟨Reg.strmPool n, 32, 16⟩
def Fld.strmPool_open_ctx (n : Nat) : FieldRef := ⟨Reg.strmPool n, 48, 16⟩
/-- STRM_BYTES_RD_s -/
def Reg.strmBytesRd (n : Nat) : Nat := 0x30108 + 64 * n
def Fld.strmBytesRd_bytes (n : Nat) : FieldRef := ⟨Reg.strmBytesRd n, 0, 64⟩
/-- STRM_BYTES_WR_s -/
def Reg.strmBytesWr (n : Nat) : Nat := 0x30110 + 64 * n
def Fld.strmBytesWr_bytes (n : Nat) : FieldRef := ⟨Reg.strmBytesWr n, 0, 64⟩
/-- STRM_BYTES_RM_s -/
def Reg.strmBytesRm (n : Nat) : Nat := 0x30118 + 64 * n
def Fld.strmBytesRm_bytes (n : Nat) : FieldRef := ⟨Reg.strmBytesRm n, 0, 64⟩
/-- STRM_BURSTS_s -/
def Reg.strmBursts (n : Nat) : Nat := 0x30120 + 64 * n
def Fld.strmBursts_bursts (n : Nat) : FieldRef := ⟨Reg.strmBursts n, 0, 64⟩
/-- STRM_PF_STATUS_ -/
def Reg.strmPfStatus (n : Nat) : Nat := 0x30200 + 8 * n
def Fld.strmPfStatus_state (n : Nat) : FieldRef := ⟨Reg.strmPfStatus n, 0, 2⟩
def Fld.strmPfStatus_tiles (n : Nat) : FieldRef := ⟨Reg.strmPfStatus n, 2, 5⟩
def Fld.strmPfStatus_slot (n : Nat) : FieldRef := ⟨Reg.strmPfStatus n, 7, 12⟩
/-- ARY_CTRL_ -/
def Reg.aryCtrl (n : Nat) : Nat := 0x40000 + 256 * n
def Fld.aryCtrl_hold (n : Nat) : FieldRef := ⟨Reg.aryCtrl n, 0, 1⟩
def Fld.aryCtrl_auto_repair (n : Nat) : FieldRef := ⟨Reg.aryCtrl n, 1, 1⟩
def Fld.aryCtrl_reissue_limit (n : Nat) : FieldRef := ⟨Reg.aryCtrl n, 2, 2⟩
/-- ARY_STATUS_ -/
def Reg.aryStatus (n : Nat) : Nat := 0x40008 + 256 * n
def Fld.aryStatus_state (n : Nat) : FieldRef := ⟨Reg.aryStatus n, 0, 3⟩
def Fld.aryStatus_in_service (n : Nat) : FieldRef := ⟨Reg.aryStatus n, 3, 1⟩
def Fld.aryStatus_repairs (n : Nat) : FieldRef := ⟨Reg.aryStatus n, 4, 4⟩
def Fld.aryStatus_in_flight (n : Nat) : FieldRef := ⟨Reg.aryStatus n, 8, 3⟩
def Fld.aryStatus_load_busy (n : Nat) : FieldRef := ⟨Reg.aryStatus n, 11, 1⟩
def Fld.aryStatus_spares_left (n : Nat) : FieldRef := ⟨Reg.aryStatus n, 12, 4⟩
/-- ARY_REPAIR_ -/
def Reg.aryRepair (n : Nat) : Nat := 0x40010 + 256 * n
def Fld.aryRepair_row0 (n : Nat) : FieldRef := ⟨Reg.aryRepair n, 0, 7⟩
def Fld.aryRepair_valid0 (n : Nat) : FieldRef := ⟨Reg.aryRepair n, 7, 1⟩
def Fld.aryRepair_row1 (n : Nat) : FieldRef := ⟨Reg.aryRepair n, 8, 7⟩
def Fld.aryRepair_valid1 (n : Nat) : FieldRef := ⟨Reg.aryRepair n, 15, 1⟩
def Fld.aryRepair_row2 (n : Nat) : FieldRef := ⟨Reg.aryRepair n, 16, 7⟩
def Fld.aryRepair_valid2 (n : Nat) : FieldRef := ⟨Reg.aryRepair n, 23, 1⟩
def Fld.aryRepair_row3 (n : Nat) : FieldRef := ⟨Reg.aryRepair n, 24, 7⟩
def Fld.aryRepair_valid3 (n : Nat) : FieldRef := ⟨Reg.aryRepair n, 31, 1⟩
def Fld.aryRepair_row4 (n : Nat) : FieldRef := ⟨Reg.aryRepair n, 32, 7⟩
def Fld.aryRepair_valid4 (n : Nat) : FieldRef := ⟨Reg.aryRepair n, 39, 1⟩
def Fld.aryRepair_row5 (n : Nat) : FieldRef := ⟨Reg.aryRepair n, 40, 7⟩
def Fld.aryRepair_valid5 (n : Nat) : FieldRef := ⟨Reg.aryRepair n, 47, 1⟩
def Fld.aryRepair_row6 (n : Nat) : FieldRef := ⟨Reg.aryRepair n, 48, 7⟩
def Fld.aryRepair_valid6 (n : Nat) : FieldRef := ⟨Reg.aryRepair n, 55, 1⟩
def Fld.aryRepair_row7 (n : Nat) : FieldRef := ⟨Reg.aryRepair n, 56, 7⟩
def Fld.aryRepair_valid7 (n : Nat) : FieldRef := ⟨Reg.aryRepair n, 63, 1⟩
/-- ARY_REPAIR_SRC_ -/
def Reg.aryRepairSrc (n : Nat) : Nat := 0x40018 + 256 * n
def Fld.aryRepairSrc_fused (n : Nat) : FieldRef := ⟨Reg.aryRepairSrc n, 0, 8⟩
def Fld.aryRepairSrc_field (n : Nat) : FieldRef := ⟨Reg.aryRepairSrc n, 8, 8⟩
/-- ARY_REPAIR_REQ_ -/
def Reg.aryRepairReq (n : Nat) : Nat := 0x40020 + 256 * n
def Fld.aryRepairReq_logical_row (n : Nat) : FieldRef := ⟨Reg.aryRepairReq n, 0, 10⟩
def Fld.aryRepairReq_go (n : Nat) : FieldRef := ⟨Reg.aryRepairReq n, 31, 1⟩
/-- ARY_FAULT_ -/
def Reg.aryFault (n : Nat) : Nat := 0x40028 + 256 * n
def Fld.aryFault_reg_parity (n : Nat) : FieldRef := ⟨Reg.aryFault n, 0, 1⟩
def Fld.aryFault_stirrup_ecc (n : Nat) : FieldRef := ⟨Reg.aryFault n, 1, 1⟩
def Fld.aryFault_staging_ecc (n : Nat) : FieldRef := ⟨Reg.aryFault n, 2, 1⟩
def Fld.aryFault_drain_parity (n : Nat) : FieldRef := ⟨Reg.aryFault n, 3, 1⟩
def Fld.aryFault_row_failed (n : Nat) : FieldRef := ⟨Reg.aryFault n, 4, 1⟩
def Fld.aryFault_exhausted (n : Nat) : FieldRef := ⟨Reg.aryFault n, 5, 1⟩
def Fld.aryFault_array_failed (n : Nat) : FieldRef := ⟨Reg.aryFault n, 6, 1⟩
def Fld.aryFault_last_row (n : Nat) : FieldRef := ⟨Reg.aryFault n, 8, 10⟩
def Fld.aryFault_last_col (n : Nat) : FieldRef := ⟨Reg.aryFault n, 18, 9⟩
def Fld.aryFault_col_valid (n : Nat) : FieldRef := ⟨Reg.aryFault n, 27, 1⟩
def Fld.aryFault_reissues (n : Nat) : FieldRef := ⟨Reg.aryFault n, 32, 16⟩
def Fld.aryFault_corrected (n : Nat) : FieldRef := ⟨Reg.aryFault n, 48, 16⟩
/-- ARY_FLAGS_ -/
def Reg.aryFlags (n : Nat) : Nat := 0x40030 + 256 * n
def Fld.aryFlags_acc_inf (n : Nat) : FieldRef := ⟨Reg.aryFlags n, 0, 1⟩
def Fld.aryFlags_nonfinite_in (n : Nat) : FieldRef := ⟨Reg.aryFlags n, 1, 1⟩
/-- ARY_INJECT_ -/
def Reg.aryInject (n : Nat) : Nat := 0x40038 + 256 * n
def Fld.aryInject_row (n : Nat) : FieldRef := ⟨Reg.aryInject n, 0, 10⟩
def Fld.aryInject_col (n : Nat) : FieldRef := ⟨Reg.aryInject n, 10, 9⟩
def Fld.aryInject_kind (n : Nat) : FieldRef := ⟨Reg.aryInject n, 19, 2⟩
def Fld.aryInject_go (n : Nat) : FieldRef := ⟨Reg.aryInject n, 31, 1⟩
/-- ARY_PASSES_n -/
def Reg.aryPasses (n : Nat) : Nat := 0x40040 + 256 * n
def Fld.aryPasses_passes (n : Nat) : FieldRef := ⟨Reg.aryPasses n, 0, 64⟩
/-- ARY_BUSY_n -/
def Reg.aryBusy (n : Nat) : Nat := 0x40048 + 256 * n
def Fld.aryBusy_busy (n : Nat) : FieldRef := ⟨Reg.aryBusy n, 0, 64⟩
/-- ARY_WAIT_n -/
def Reg.aryWait (n : Nat) : Nat := 0x40050 + 256 * n
def Fld.aryWait_wait (n : Nat) : FieldRef := ⟨Reg.aryWait n, 0, 64⟩
/-- ARY_GATED_n -/
def Reg.aryGated (n : Nat) : Nat := 0x40058 + 256 * n
def Fld.aryGated_gated (n : Nat) : FieldRef := ⟨Reg.aryGated n, 0, 64⟩
/-- ARY_PREEMPT_n -/
def Reg.aryPreempt (n : Nat) : Nat := 0x40060 + 256 * n
def Fld.aryPreempt_preempts (n : Nat) : FieldRef := ⟨Reg.aryPreempt n, 0, 32⟩
/-- TE_CTRL_ -/
def Reg.teCtrl (n : Nat) : Nat := 0x50000 + 64 * n
def Fld.teCtrl_auto_spare (n : Nat) : FieldRef := ⟨Reg.teCtrl n, 0, 1⟩
def Fld.teCtrl_reexec_limit (n : Nat) : FieldRef := ⟨Reg.teCtrl n, 1, 2⟩
def Fld.teCtrl_ce_limit (n : Nat) : FieldRef := ⟨Reg.teCtrl n, 8, 8⟩
/-- TE_STATUS_ -/
def Reg.teStatus (n : Nat) : Nat := 0x50008 + 64 * n
def Fld.teStatus_state (n : Nat) : FieldRef := ⟨Reg.teStatus n, 0, 3⟩
def Fld.teStatus_on_spare (n : Nat) : FieldRef := ⟨Reg.teStatus n, 3, 1⟩
def Fld.teStatus_tasks (n : Nat) : FieldRef := ⟨Reg.teStatus n, 4, 4⟩
def Fld.teStatus_slices (n : Nat) : FieldRef := ⟨Reg.teStatus n, 8, 9⟩
def Fld.teStatus_dh_present (n : Nat) : FieldRef := ⟨Reg.teStatus n, 17, 1⟩
/-- TE_FAULT_ -/
def Reg.teFault (n : Nat) : Nat := 0x50010 + 64 * n
def Fld.teFault_dp_residue (n : Nat) : FieldRef := ⟨Reg.teFault n, 0, 1⟩
def Fld.teFault_reg_parity (n : Nat) : FieldRef := ⟨Reg.teFault n, 1, 1⟩
def Fld.teFault_store_ue (n : Nat) : FieldRef := ⟨Reg.teFault n, 2, 1⟩
def Fld.teFault_reexec_exhausted (n : Nat) : FieldRef := ⟨Reg.teFault n, 3, 1⟩
def Fld.teFault_failed (n : Nat) : FieldRef := ⟨Reg.teFault n, 4, 1⟩
def Fld.teFault_last_addr (n : Nat) : FieldRef := ⟨Reg.teFault n, 8, 23⟩
def Fld.teFault_reexecs (n : Nat) : FieldRef := ⟨Reg.teFault n, 32, 16⟩
def Fld.teFault_store_ce (n : Nat) : FieldRef := ⟨Reg.teFault n, 48, 16⟩
/-- TE_ISSUE_n -/
def Reg.teIssue (n : Nat) : Nat := 0x50018 + 64 * n
def Fld.teIssue_issued (n : Nat) : FieldRef := ⟨Reg.teIssue n, 0, 64⟩
/-- TE_IDLE_n -/
def Reg.teIdle (n : Nat) : Nat := 0x50020 + 64 * n
def Fld.teIdle_idle (n : Nat) : FieldRef := ⟨Reg.teIdle n, 0, 64⟩
/-- TE_ACC_WAIT_n -/
def Reg.teAccWait (n : Nat) : Nat := 0x50028 + 64 * n
def Fld.teAccWait_acc_wait (n : Nat) : FieldRef := ⟨Reg.teAccWait n, 0, 64⟩
/-- TE_SWITCH_n -/
def Reg.teSwitch (n : Nat) : Nat := 0x50030 + 64 * n
def Fld.teSwitch_switches (n : Nat) : FieldRef := ⟨Reg.teSwitch n, 0, 32⟩
/-- TE_ACC_HWM_n -/
def Reg.teAccHwm (n : Nat) : Nat := 0x50038 + 64 * n
def Fld.teAccHwm_high_water (n : Nat) : FieldRef := ⟨Reg.teAccHwm n, 0, 9⟩
/-- TE_SPARE_CTRL_ -/
def Reg.teSpareCtrl (n : Nat) : Nat := 0x51000 + 16 * n
def Fld.teSpareCtrl_target (n : Nat) : FieldRef := ⟨Reg.teSpareCtrl n, 0, 4⟩
def Fld.teSpareCtrl_go (n : Nat) : FieldRef := ⟨Reg.teSpareCtrl n, 8, 1⟩
/-- TE_SPARE_STATUS_ -/
def Reg.teSpareStatus (n : Nat) : Nat := 0x51008 + 16 * n
def Fld.teSpareStatus_state (n : Nat) : FieldRef := ⟨Reg.teSpareStatus n, 0, 3⟩
def Fld.teSpareStatus_from_keep (n : Nat) : FieldRef := ⟨Reg.teSpareStatus n, 3, 1⟩
def Fld.teSpareStatus_serving (n : Nat) : FieldRef := ⟨Reg.teSpareStatus n, 4, 4⟩
/-- SKV_FLAGS_ -/
def Reg.skvFlags (n : Nat) : Nat := 0x60000 + 32 * n
def Fld.skvFlags_sat (n : Nat) : FieldRef := ⟨Reg.skvFlags n, 0, 1⟩
def Fld.skvFlags_nonfinite (n : Nat) : FieldRef := ⟨Reg.skvFlags n, 1, 1⟩
def Fld.skvFlags_e2m1_span (n : Nat) : FieldRef := ⟨Reg.skvFlags n, 2, 1⟩
/-- SKV_CONV_n -/
def Reg.skvConv (n : Nat) : Nat := 0x60008 + 32 * n
def Fld.skvConv_converted (n : Nat) : FieldRef := ⟨Reg.skvConv n, 0, 64⟩
/-- SKV_SAT_n -/
def Reg.skvSat (n : Nat) : Nat := 0x60010 + 32 * n
def Fld.skvSat_saturated (n : Nat) : FieldRef := ⟨Reg.skvSat n, 0, 32⟩
/-- SKV_NONFIN_n -/
def Reg.skvNonfin (n : Nat) : Nat := 0x60018 + 32 * n
def Fld.skvNonfin_nonfinite (n : Nat) : FieldRef := ⟨Reg.skvNonfin n, 0, 32⟩
/-- HSM_CFG -/
def Reg.hsmCfg : Nat := 0x70000
def Fld.hsmCfg_se_pct : FieldRef := ⟨Reg.hsmCfg, 0, 8⟩
def Fld.hsmCfg_scrub_hours : FieldRef := ⟨Reg.hsmCfg, 8, 8⟩
def Fld.hsmCfg_ue_limit : FieldRef := ⟨Reg.hsmCfg, 16, 8⟩
def Fld.hsmCfg_retrain_delta : FieldRef := ⟨Reg.hsmCfg, 24, 8⟩
/-- HSM_CAPACITY -/
def Reg.hsmCapacity : Nat := 0x70008
def Fld.hsmCapacity_bytes : FieldRef := ⟨Reg.hsmCapacity, 0, 64⟩
/-- HSM_MAPOUT_REQ -/
def Reg.hsmMapoutReq : Nat := 0x70010
def Fld.hsmMapoutReq_stack : FieldRef := ⟨Reg.hsmMapoutReq, 0, 4⟩
def Fld.hsmMapoutReq_channel : FieldRef := ⟨Reg.hsmMapoutReq, 4, 5⟩
def Fld.hsmMapoutReq_go : FieldRef := ⟨Reg.hsmMapoutReq, 31, 1⟩
/-- HSM_MAPOUT_ACK -/
def Reg.hsmMapoutAck : Nat := 0x70018
def Fld.hsmMapoutAck_stack : FieldRef := ⟨Reg.hsmMapoutAck, 0, 4⟩
def Fld.hsmMapoutAck_go : FieldRef := ⟨Reg.hsmMapoutAck, 31, 1⟩
/-- HSM_RETRAIN_REQ -/
def Reg.hsmRetrainReq : Nat := 0x70020
def Fld.hsmRetrainReq_channel : FieldRef := ⟨Reg.hsmRetrainReq, 0, 9⟩
def Fld.hsmRetrainReq_go : FieldRef := ⟨Reg.hsmRetrainReq, 31, 1⟩
/-- HSM_STACK_STATUS_ -/
def Reg.hsmStackStatus (n : Nat) : Nat := 0x70100 + 32 * n
def Fld.hsmStackStatus_state (n : Nat) : FieldRef := ⟨Reg.hsmStackStatus n, 0, 2⟩
def Fld.hsmStackStatus_in_service (n : Nat) : FieldRef := ⟨Reg.hsmStackStatus n, 2, 6⟩
def Fld.hsmStackStatus_mapped_ch (n : Nat) : FieldRef := ⟨Reg.hsmStackStatus n, 8, 5⟩
def Fld.hsmStackStatus_mapped_valid (n : Nat) : FieldRef := ⟨Reg.hsmStackStatus n, 13, 1⟩
def Fld.hsmStackStatus_mapout_phase (n : Nat) : FieldRef := ⟨Reg.hsmStackStatus n, 14, 2⟩
def Fld.hsmStackStatus_temp (n : Nat) : FieldRef := ⟨Reg.hsmStackStatus n, 16, 8⟩
/-- HSM_LIMIT_h -/
def Reg.hsmLimit (n : Nat) : Nat := 0x70108 + 32 * n
def Fld.hsmLimit_limit (n : Nat) : FieldRef := ⟨Reg.hsmLimit n, 0, 64⟩
/-- HSM_KEEP_MASK_h -/
def Reg.hsmKeepMask (n : Nat) : Nat := 0x70110 + 32 * n
def Fld.hsmKeepMask_keep (n : Nat) : FieldRef := ⟨Reg.hsmKeepMask n, 0, 32⟩
/-- HSM_CH_STATUS_ -/
def Reg.hsmChStatus (n : Nat) : Nat := 0x71000 + 32 * n
def Fld.hsmChStatus_state (n : Nat) : FieldRef := ⟨Reg.hsmChStatus n, 0, 3⟩
def Fld.hsmChStatus_keep_path (n : Nat) : FieldRef := ⟨Reg.hsmChStatus n, 3, 1⟩
def Fld.hsmChStatus_retrain_fails (n : Nat) : FieldRef := ⟨Reg.hsmChStatus n, 4, 2⟩
/-- HSM_ECC_ -/
def Reg.hsmEcc (n : Nat) : Nat := 0x71008 + 32 * n
def Fld.hsmEcc_ce (n : Nat) : FieldRef := ⟨Reg.hsmEcc n, 0, 16⟩
def Fld.hsmEcc_ue (n : Nat) : FieldRef := ⟨Reg.hsmEcc n, 16, 16⟩
def Fld.hsmEcc_last_sector (n : Nat) : FieldRef := ⟨Reg.hsmEcc n, 32, 27⟩
/-- HSM_IFERR_ -/
def Reg.hsmIferr (n : Nat) : Nat := 0x71010 + 32 * n
def Fld.hsmIferr_retries (n : Nat) : FieldRef := ⟨Reg.hsmIferr n, 0, 16⟩
def Fld.hsmIferr_retrains (n : Nat) : FieldRef := ⟨Reg.hsmIferr n, 16, 16⟩
/-- HSM_TEST_ -/
def Reg.hsmTest (n : Nat) : Nat := 0x71018 + 32 * n
def Fld.hsmTest_pattern (n : Nat) : FieldRef := ⟨Reg.hsmTest n, 0, 2⟩
def Fld.hsmTest_go (n : Nat) : FieldRef := ⟨Reg.hsmTest n, 2, 1⟩
def Fld.hsmTest_errors (n : Nat) : FieldRef := ⟨Reg.hsmTest n, 32, 32⟩
/-- SEN_FLAGS_ -/
def Reg.senFlags (n : Nat) : Nat := 0x80000 + 64 * n
def Fld.senFlags_sat (n : Nat) : FieldRef := ⟨Reg.senFlags n, 0, 1⟩
def Fld.senFlags_nonfinite (n : Nat) : FieldRef := ⟨Reg.senFlags n, 1, 1⟩
def Fld.senFlags_e2m1_span (n : Nat) : FieldRef := ⟨Reg.senFlags n, 2, 1⟩
def Fld.senFlags_int_wrap (n : Nat) : FieldRef := ⟨Reg.senFlags n, 3, 1⟩
def Fld.senFlags_poison_read (n : Nat) : FieldRef := ⟨Reg.senFlags n, 4, 1⟩
/-- SEN_BYTES_ADD_h -/
def Reg.senBytesAdd (n : Nat) : Nat := 0x80008 + 64 * n
def Fld.senBytesAdd_bytes (n : Nat) : FieldRef := ⟨Reg.senBytesAdd n, 0, 64⟩
/-- SEN_BYTES_COPY_h -/
def Reg.senBytesCopy (n : Nat) : Nat := 0x80010 + 64 * n
def Fld.senBytesCopy_bytes (n : Nat) : FieldRef := ⟨Reg.senBytesCopy n, 0, 64⟩
/-- SEN_BYTES_TURN_h -/
def Reg.senBytesTurn (n : Nat) : Nat := 0x80018 + 64 * n
def Fld.senBytesTurn_bytes (n : Nat) : FieldRef := ⟨Reg.senBytesTurn n, 0, 64⟩
/-- SEN_ELEM_APPLY_h -/
def Reg.senElemApply (n : Nat) : Nat := 0x80020 + 64 * n
def Fld.senElemApply_elements (n : Nat) : FieldRef := ⟨Reg.senElemApply n, 0, 64⟩
/-- SEN_BUSY_h -/
def Reg.senBusy (n : Nat) : Nat := 0x80028 + 64 * n
def Fld.senBusy_busy (n : Nat) : FieldRef := ⟨Reg.senBusy n, 0, 64⟩
/-- LNK_NODE_ID -/
def Reg.lnkNodeId : Nat := 0x90000
def Fld.lnkNodeId_position : FieldRef := ⟨Reg.lnkNodeId, 0, 3⟩
def Fld.lnkNodeId_board : FieldRef := ⟨Reg.lnkNodeId, 3, 29⟩
/-- LNK_CTRL_ -/
def Reg.lnkCtrl (n : Nat) : Nat := 0x90100 + 128 * n
def Fld.lnkCtrl_enable (n : Nat) : FieldRef := ⟨Reg.lnkCtrl n, 0, 1⟩
def Fld.lnkCtrl_force_down (n : Nat) : FieldRef := ⟨Reg.lnkCtrl n, 1, 1⟩
def Fld.lnkCtrl_restore_legs (n : Nat) : FieldRef := ⟨Reg.lnkCtrl n, 2, 1⟩
def Fld.lnkCtrl_rewiden (n : Nat) : FieldRef := ⟨Reg.lnkCtrl n, 3, 1⟩
/-- LNK_CFG_ -/
def Reg.lnkCfg (n : Nat) : Nat := 0x90108 + 128 * n
def Fld.lnkCfg_owner (n : Nat) : FieldRef := ⟨Reg.lnkCfg n, 0, 2⟩
def Fld.lnkCfg_owned (n : Nat) : FieldRef := ⟨Reg.lnkCfg n, 2, 1⟩
def Fld.lnkCfg_split (n : Nat) : FieldRef := ⟨Reg.lnkCfg n, 3, 1⟩
def Fld.lnkCfg_transit_pct (n : Nat) : FieldRef := ⟨Reg.lnkCfg n, 4, 7⟩
def Fld.lnkCfg_spare_route (n : Nat) : FieldRef := ⟨Reg.lnkCfg n, 12, 16⟩
def Fld.lnkCfg_age_10ns (n : Nat) : FieldRef := ⟨Reg.lnkCfg n, 28, 8⟩
def Fld.lnkCfg_twin_relay (n : Nat) : FieldRef := ⟨Reg.lnkCfg n, 36, 3⟩
/-- LNK_STATUS_ -/
def Reg.lnkStatus (n : Nat) : Nat := 0x90110 + 128 * n
def Fld.lnkStatus_state (n : Nat) : FieldRef := ⟨Reg.lnkStatus n, 0, 4⟩
def Fld.lnkStatus_width (n : Nat) : FieldRef := ⟨Reg.lnkStatus n, 4, 5⟩
def Fld.lnkStatus_lane_good (n : Nat) : FieldRef := ⟨Reg.lnkStatus n, 9, 16⟩
def Fld.lnkStatus_degraded (n : Nat) : FieldRef := ⟨Reg.lnkStatus n, 25, 1⟩
def Fld.lnkStatus_on_spare (n : Nat) : FieldRef := ⟨Reg.lnkStatus n, 26, 1⟩
/-- LNK_FAR_ -/
def Reg.lnkFar (n : Nat) : Nat := 0x90118 + 128 * n
def Fld.lnkFar_far_node (n : Nat) : FieldRef := ⟨Reg.lnkFar n, 0, 32⟩
def Fld.lnkFar_far_port (n : Nat) : FieldRef := ⟨Reg.lnkFar n, 32, 4⟩
def Fld.lnkFar_valid (n : Nat) : FieldRef := ⟨Reg.lnkFar n, 36, 1⟩
/-- LNK_CREDIT_ -/
def Reg.lnkCredit (n : Nat) : Nat := 0x90120 + 128 * n
def Fld.lnkCredit_vc1 (n : Nat) : FieldRef := ⟨Reg.lnkCredit n, 0, 13⟩
def Fld.lnkCredit_vc2 (n : Nat) : FieldRef := ⟨Reg.lnkCredit n, 13, 13⟩
def Fld.lnkCredit_vc3 (n : Nat) : FieldRef := ⟨Reg.lnkCredit n, 26, 13⟩
def Fld.lnkCredit_vc5 (n : Nat) : FieldRef := ⟨Reg.lnkCredit n, 39, 13⟩
def Fld.lnkCredit_vc0 (n : Nat) : FieldRef := ⟨Reg.lnkCredit n, 52, 8⟩
/-- LNK_ERR_ -/
def Reg.lnkErr (n : Nat) : Nat := 0x90128 + 128 * n
def Fld.lnkErr_fec_ue (n : Nat) : FieldRef := ⟨Reg.lnkErr n, 0, 16⟩
def Fld.lnkErr_crc_bad (n : Nat) : FieldRef := ⟨Reg.lnkErr n, 16, 16⟩
def Fld.lnkErr_replays (n : Nat) : FieldRef := ⟨Reg.lnkErr n, 32, 16⟩
def Fld.lnkErr_relanes (n : Nat) : FieldRef := ⟨Reg.lnkErr n, 48, 8⟩
def Fld.lnkErr_downs (n : Nat) : FieldRef := ⟨Reg.lnkErr n, 56, 8⟩
/-- LNK_EVENT_ -/
def Reg.lnkEvent (n : Nat) : Nat := 0x90130 + 128 * n
def Fld.lnkEvent_down (n : Nat) : FieldRef := ⟨Reg.lnkEvent n, 0, 1⟩
def Fld.lnkEvent_degraded (n : Nat) : FieldRef := ⟨Reg.lnkEvent n, 1, 1⟩
def Fld.lnkEvent_miswired (n : Nat) : FieldRef := ⟨Reg.lnkEvent n, 2, 1⟩
def Fld.lnkEvent_replay_limit (n : Nat) : FieldRef := ⟨Reg.lnkEvent n, 3, 1⟩
def Fld.lnkEvent_lock_timeout (n : Nat) : FieldRef := ⟨Reg.lnkEvent n, 4, 1⟩
def Fld.lnkEvent_misroute (n : Nat) : FieldRef := ⟨Reg.lnkEvent n, 5, 1⟩
def Fld.lnkEvent_no_slot (n : Nat) : FieldRef := ⟨Reg.lnkEvent n, 6, 1⟩
def Fld.lnkEvent_spare_used (n : Nat) : FieldRef := ⟨Reg.lnkEvent n, 7, 1⟩
/-- LNK_FEC_CE_n -/
def Reg.lnkFecCe (n : Nat) : Nat := 0x90138 + 128 * n
def Fld.lnkFecCe_corrected (n : Nat) : FieldRef := ⟨Reg.lnkFecCe n, 0, 64⟩
/-- LNK_FLITS_TX_n -/
def Reg.lnkFlitsTx (n : Nat) : Nat := 0x90140 + 128 * n
def Fld.lnkFlitsTx_flits (n : Nat) : FieldRef := ⟨Reg.lnkFlitsTx n, 0, 64⟩
/-- LNK_FLITS_RX_n -/
def Reg.lnkFlitsRx (n : Nat) : Nat := 0x90148 + 128 * n
def Fld.lnkFlitsRx_flits (n : Nat) : FieldRef := ⟨Reg.lnkFlitsRx n, 0, 64⟩
/-- LNK_TRANSIT_n -/
def Reg.lnkTransit (n : Nat) : Nat := 0x90150 + 128 * n
def Fld.lnkTransit_flits (n : Nat) : FieldRef := ⟨Reg.lnkTransit n, 0, 64⟩
/-- LNK_DROP_n -/
def Reg.lnkDrop (n : Nat) : Nat := 0x90158 + 128 * n
def Fld.lnkDrop_packets (n : Nat) : FieldRef := ⟨Reg.lnkDrop n, 0, 32⟩
/-- LNK_SLOT_ -/
def Reg.lnkSlot (n : Nat) : Nat := 0x90800 + 8 * n
def Fld.lnkSlot_job_id (n : Nat) : FieldRef := ⟨Reg.lnkSlot n, 0, 16⟩
def Fld.lnkSlot_kind (n : Nat) : FieldRef := ⟨Reg.lnkSlot n, 16, 2⟩
def Fld.lnkSlot_partition (n : Nat) : FieldRef := ⟨Reg.lnkSlot n, 18, 2⟩
def Fld.lnkSlot_in0 (n : Nat) : FieldRef := ⟨Reg.lnkSlot n, 20, 4⟩
def Fld.lnkSlot_out0 (n : Nat) : FieldRef := ⟨Reg.lnkSlot n, 24, 4⟩
def Fld.lnkSlot_in1 (n : Nat) : FieldRef := ⟨Reg.lnkSlot n, 28, 4⟩
def Fld.lnkSlot_out1 (n : Nat) : FieldRef := ⟨Reg.lnkSlot n, 32, 4⟩
def Fld.lnkSlot_pair0_valid (n : Nat) : FieldRef := ⟨Reg.lnkSlot n, 36, 1⟩
def Fld.lnkSlot_pair1_valid (n : Nat) : FieldRef := ⟨Reg.lnkSlot n, 37, 1⟩
/-- LNK_REACH_ -/
def Reg.lnkReach (n : Nat) : Nat := 0x90a00 + 8 * n
def Fld.lnkReach_expected_far (n : Nat) : FieldRef := ⟨Reg.lnkReach n, 0, 32⟩
def Fld.lnkReach_expected_valid (n : Nat) : FieldRef := ⟨Reg.lnkReach n, 32, 1⟩
/-- RED_GROUP_SEL -/
def Reg.redGroupSel : Nat := 0xa0000
def Fld.redGroupSel_group : FieldRef := ⟨Reg.redGroupSel, 0, 16⟩
/-- RED_GROUP_INFO -/
def Reg.redGroupInfo : Nat := 0xa0008
def Fld.redGroupInfo_job_id : FieldRef := ⟨Reg.redGroupInfo, 0, 16⟩
def Fld.redGroupInfo_members : FieldRef := ⟨Reg.redGroupInfo, 16, 12⟩
def Fld.redGroupInfo_self : FieldRef := ⟨Reg.redGroupInfo, 28, 12⟩
def Fld.redGroupInfo_loaded : FieldRef := ⟨Reg.redGroupInfo, 40, 1⟩
def Fld.redGroupInfo_job_lost : FieldRef := ⟨Reg.redGroupInfo, 41, 1⟩
def Fld.redGroupInfo_straggler_us : FieldRef := ⟨Reg.redGroupInfo, 42, 22⟩
/-- RED_EVENT_ -/
def Reg.redEvent (n : Nat) : Nat := 0xa0100 + 32 * n
def Fld.redEvent_redo (n : Nat) : FieldRef := ⟨Reg.redEvent n, 0, 1⟩
def Fld.redEvent_mismatch (n : Nat) : FieldRef := ⟨Reg.redEvent n, 1, 1⟩
def Fld.redEvent_wide (n : Nat) : FieldRef := ⟨Reg.redEvent n, 2, 1⟩
def Fld.redEvent_coarse (n : Nat) : FieldRef := ⟨Reg.redEvent n, 3, 1⟩
def Fld.redEvent_void (n : Nat) : FieldRef := ⟨Reg.redEvent n, 4, 1⟩
def Fld.redEvent_discard (n : Nat) : FieldRef := ⟨Reg.redEvent n, 5, 1⟩
def Fld.redEvent_nonfinite (n : Nat) : FieldRef := ⟨Reg.redEvent n, 6, 1⟩
def Fld.redEvent_straggler (n : Nat) : FieldRef := ⟨Reg.redEvent n, 7, 1⟩
def Fld.redEvent_restart (n : Nat) : FieldRef := ⟨Reg.redEvent n, 8, 1⟩
def Fld.redEvent_fatal (n : Nat) : FieldRef := ⟨Reg.redEvent n, 9, 1⟩
def Fld.redEvent_taint_full (n : Nat) : FieldRef := ⟨Reg.redEvent n, 10, 1⟩
/-- RED_COUNT_ -/
def Reg.redCount (n : Nat) : Nat := 0xa0108 + 32 * n
def Fld.redCount_redos (n : Nat) : FieldRef := ⟨Reg.redCount n, 0, 16⟩
def Fld.redCount_restarts (n : Nat) : FieldRef := ⟨Reg.redCount n, 16, 16⟩
def Fld.redCount_coarse (n : Nat) : FieldRef := ⟨Reg.redCount n, 32, 16⟩
def Fld.redCount_voids (n : Nat) : FieldRef := ⟨Reg.redCount n, 48, 8⟩
def Fld.redCount_stale (n : Nat) : FieldRef := ⟨Reg.redCount n, 56, 8⟩
/-- RED_TAINT_ -/
def Reg.redTaint (n : Nat) : Nat := 0xa0110 + 32 * n
def Fld.redTaint_used (n : Nat) : FieldRef := ⟨Reg.redTaint n, 0, 7⟩
def Fld.redTaint_full (n : Nat) : FieldRef := ⟨Reg.redTaint n, 7, 1⟩
/-- RED_SLOT_ -/
def Reg.redSlot (n : Nat) : Nat := 0xa0200 + 8 * n
def Fld.redSlot_groups (n : Nat) : FieldRef := ⟨Reg.redSlot n, 0, 2⟩
def Fld.redSlot_active (n : Nat) : FieldRef := ⟨Reg.redSlot n, 2, 1⟩
def Fld.redSlot_phase (n : Nat) : FieldRef := ⟨Reg.redSlot n, 3, 4⟩
def Fld.redSlot_suspended (n : Nat) : FieldRef := ⟨Reg.redSlot n, 7, 1⟩
def Fld.redSlot_epoch (n : Nat) : FieldRef := ⟨Reg.redSlot n, 8, 8⟩
def Fld.redSlot_live (n : Nat) : FieldRef := ⟨Reg.redSlot n, 16, 12⟩
def Fld.redSlot_leader (n : Nat) : FieldRef := ⟨Reg.redSlot n, 28, 12⟩
def Fld.redSlot_bseq_low (n : Nat) : FieldRef := ⟨Reg.redSlot n, 40, 24⟩
/-- RED_ADDER_CHUNKS_p -/
def Reg.redAdderChunks (n : Nat) : Nat := 0xa0400 + 32 * n
def Fld.redAdderChunks_chunks (n : Nat) : FieldRef := ⟨Reg.redAdderChunks n, 0, 64⟩
/-- RED_ADDER_BUSY_p -/
def Reg.redAdderBusy (n : Nat) : Nat := 0xa0408 + 32 * n
def Fld.redAdderBusy_busy (n : Nat) : FieldRef := ⟨Reg.redAdderBusy n, 0, 64⟩
/-- RED_ADDER_WAIT_p -/
def Reg.redAdderWait (n : Nat) : Nat := 0xa0410 + 32 * n
def Fld.redAdderWait_wait (n : Nat) : FieldRef := ⟨Reg.redAdderWait n, 0, 64⟩
/-- REIN_CAP -/
def Reg.reinCap : Nat := 0xb0000
def Fld.reinCap_cap_step : FieldRef := ⟨Reg.reinCap, 0, 9⟩
def Fld.reinCap_img_max : FieldRef := ⟨Reg.reinCap, 9, 9⟩
def Fld.reinCap_img_min : FieldRef := ⟨Reg.reinCap, 18, 9⟩
/-- REIN_CFG -/
def Reg.reinCfg : Nat := 0xb0008
def Fld.reinCfg_part_weight : FieldRef := ⟨Reg.reinCfg, 0, 16⟩
def Fld.reinCfg_retrain : FieldRef := ⟨Reg.reinCfg, 16, 1⟩
def Fld.reinCfg_freq_steps : FieldRef := ⟨Reg.reinCfg, 17, 1⟩
/-- REIN_STATUS -/
def Reg.reinStatus : Nat := 0xb0010
def Fld.reinStatus_p_act : FieldRef := ⟨Reg.reinStatus, 0, 11⟩
def Fld.reinStatus_links : FieldRef := ⟨Reg.reinStatus, 11, 11⟩
def Fld.reinStatus_mem : FieldRef := ⟨Reg.reinStatus, 22, 11⟩
def Fld.reinStatus_comp : FieldRef := ⟨Reg.reinStatus, 33, 11⟩
def Fld.reinStatus_reined : FieldRef := ⟨Reg.reinStatus, 44, 4⟩
def Fld.reinStatus_meas_valid : FieldRef := ⟨Reg.reinStatus, 48, 1⟩
def Fld.reinStatus_thermal : FieldRef := ⟨Reg.reinStatus, 49, 1⟩
def Fld.reinStatus_fstep : FieldRef := ⟨Reg.reinStatus, 50, 6⟩
/-- REIN_POWER -/
def Reg.reinPower : Nat := 0xb0018
def Fld.reinPower_p_est : FieldRef := ⟨Reg.reinPower, 0, 11⟩
def Fld.reinPower_p_meas : FieldRef := ⟨Reg.reinPower, 11, 11⟩
def Fld.reinPower_gap_pct : FieldRef := ⟨Reg.reinPower, 32, 8⟩
def Fld.reinPower_gap_run : FieldRef := ⟨Reg.reinPower, 40, 6⟩
def Fld.reinPower_refits : FieldRef := ⟨Reg.reinPower, 48, 16⟩
/-- REIN_TELEM_ERR -/
def Reg.reinTelemErr : Nat := 0xb0020
def Fld.reinTelemErr_failed : FieldRef := ⟨Reg.reinTelemErr, 0, 16⟩
def Fld.reinTelemErr_last_rail : FieldRef := ⟨Reg.reinTelemErr, 16, 4⟩
def Fld.reinTelemErr_invalid : FieldRef := ⟨Reg.reinTelemErr, 20, 1⟩
/-- REIN_ENERGY_DEV -/
def Reg.reinEnergyDev : Nat := 0xb0028
def Fld.reinEnergyDev_mj : FieldRef := ⟨Reg.reinEnergyDev, 0, 64⟩
/-- REIN_ARRAY_ -/
def Reg.reinArray (n : Nat) : Nat := 0xb0040 + 8 * n
def Fld.reinArray_duty (n : Nat) : FieldRef := ⟨Reg.reinArray n, 0, 7⟩
/-- REIN_RAIL_ -/
def Reg.reinRail (n : Nat) : Nat := 0xb0080 + 8 * n
def Fld.reinRail_mv (n : Nat) : FieldRef := ⟨Reg.reinRail n, 0, 16⟩
def Fld.reinRail_current (n : Nat) : FieldRef := ⟨Reg.reinRail n, 16, 16⟩
def Fld.reinRail_temp (n : Nat) : FieldRef := ⟨Reg.reinRail n, 32, 8⟩
def Fld.reinRail_valid (n : Nat) : FieldRef := ⟨Reg.reinRail n, 40, 1⟩
/-- REIN_ENERGY_PART_n -/
def Reg.reinEnergyPart (n : Nat) : Nat := 0xb0100 + 8 * n
def Fld.reinEnergyPart_mj (n : Nat) : FieldRef := ⟨Reg.reinEnergyPart n, 0, 64⟩
/-- REIN_ENERGY_UNATTR_n -/
def Reg.reinEnergyUnattr (n : Nat) : Nat := 0xb0120 + 8 * n
def Fld.reinEnergyUnattr_mj (n : Nat) : FieldRef := ⟨Reg.reinEnergyUnattr n, 0, 64⟩
/-- REIN_ENERGY_WQ_q -/
def Reg.reinEnergyWq (n : Nat) : Nat := 0xb0200 + 8 * n
def Fld.reinEnergyWq_mj (n : Nat) : FieldRef := ⟨Reg.reinEnergyWq n, 0, 64⟩
/-- CINCH_CTRL -/
def Reg.cinchCtrl : Nat := 0xc0000
def Fld.cinchCtrl_enable : FieldRef := ⟨Reg.cinchCtrl, 0, 1⟩
def Fld.cinchCtrl_hold_x8 : FieldRef := ⟨Reg.cinchCtrl, 8, 8⟩
/-- CINCH_STATUS -/
def Reg.cinchStatus : Nat := 0xc0008
def Fld.cinchStatus_active : FieldRef := ⟨Reg.cinchStatus, 0, 1⟩
def Fld.cinchStatus_guard : FieldRef := ⟨Reg.cinchStatus, 1, 4⟩
def Fld.cinchStatus_selftest_fail : FieldRef := ⟨Reg.cinchStatus, 5, 4⟩
/-- CINCH_STRETCHED -/
def Reg.cinchStretched : Nat := 0xc0010
def Fld.cinchStretched_cycles : FieldRef := ⟨Reg.cinchStretched, 0, 64⟩
/-- CINCH_TEST -/
def Reg.cinchTest : Nat := 0xc0018
def Fld.cinchTest_go : FieldRef := ⟨Reg.cinchTest, 31, 1⟩
/-- CINCH_COUNT_s -/
def Reg.cinchCount (n : Nat) : Nat := 0xc0040 + 8 * n
def Fld.cinchCount_trips (n : Nat) : FieldRef := ⟨Reg.cinchCount n, 0, 32⟩
def Fld.cinchCount_last_detector (n : Nat) : FieldRef := ⟨Reg.cinchCount n, 32, 6⟩
/-- CINCH_TRIM_s -/
def Reg.cinchTrim (n : Nat) : Nat := 0xc0060 + 8 * n
def Fld.cinchTrim_steps (n : Nat) : FieldRef := ⟨Reg.cinchTrim n, 0, 5⟩
def Fld.cinchTrim_margin_ps (n : Nat) : FieldRef := ⟨Reg.cinchTrim n, 5, 8⟩
def Fld.cinchTrim_at_limit (n : Nat) : FieldRef := ⟨Reg.cinchTrim n, 13, 1⟩
/-- THM_TEMP_ -/
def Reg.thmTemp (n : Nat) : Nat := 0xd0000 + 8 * n
def Fld.thmTemp_die (n : Nat) : FieldRef := ⟨Reg.thmTemp n, 0, 8⟩
def Fld.thmTemp_sensor (n : Nat) : FieldRef := ⟨Reg.thmTemp n, 8, 4⟩
def Fld.thmTemp_base (n : Nat) : FieldRef := ⟨Reg.thmTemp n, 12, 8⟩
/-- THM_CFG -/
def Reg.thmCfg : Nat := 0xd0020
def Fld.thmCfg_throttle_c : FieldRef := ⟨Reg.thmCfg, 0, 8⟩
def Fld.thmCfg_release_c : FieldRef := ⟨Reg.thmCfg, 8, 8⟩
def Fld.thmCfg_hbm_limit_c : FieldRef := ⟨Reg.thmCfg, 16, 8⟩
/-- THM_STATUS -/
def Reg.thmStatus : Nat := 0xd0028
def Fld.thmStatus_throttling : FieldRef := ⟨Reg.thmStatus, 0, 1⟩
def Fld.thmStatus_hbm_throttle : FieldRef := ⟨Reg.thmStatus, 1, 1⟩
def Fld.thmStatus_trip : FieldRef := ⟨Reg.thmStatus, 2, 1⟩
def Fld.thmStatus_thermal_cap : FieldRef := ⟨Reg.thmStatus, 3, 11⟩
/-- THM_THROTTLE_CNT -/
def Reg.thmThrottleCnt : Nat := 0xd0030
def Fld.thmThrottleCnt_ms : FieldRef := ⟨Reg.thmThrottleCnt, 0, 32⟩
def Fld.thmThrottleCnt_episodes : FieldRef := ⟨Reg.thmThrottleCnt, 32, 32⟩
/-- THM_SAVE_STATUS -/
def Reg.thmSaveStatus : Nat := 0xd0038
def Fld.thmSaveStatus_state : FieldRef := ⟨Reg.thmSaveStatus, 0, 3⟩
def Fld.thmSaveStatus_warn : FieldRef := ⟨Reg.thmSaveStatus, 3, 1⟩
def Fld.thmSaveStatus_loss_seen : FieldRef := ⟨Reg.thmSaveStatus, 4, 1⟩
def Fld.thmSaveStatus_glitch : FieldRef := ⟨Reg.thmSaveStatus, 5, 1⟩
/-- THM_SAVE_COUNT -/
def Reg.thmSaveCount : Nat := 0xd0040
def Fld.thmSaveCount_saves : FieldRef := ⟨Reg.thmSaveCount, 0, 16⟩
def Fld.thmSaveCount_resumes : FieldRef := ⟨Reg.thmSaveCount, 16, 16⟩
/-- THM_SAVE_TEST -/
def Reg.thmSaveTest : Nat := 0xd0048
def Fld.thmSaveTest_go : FieldRef := ⟨Reg.thmSaveTest, 31, 1⟩
/-- THM_SAVE_LAST -/
def Reg.thmSaveLast : Nat := 0xd0050
def Fld.thmSaveLast_save_us : FieldRef := ⟨Reg.thmSaveLast, 0, 16⟩
def Fld.thmSaveLast_pause_us : FieldRef := ⟨Reg.thmSaveLast, 16, 32⟩
def Fld.thmSaveLast_cause : FieldRef := ⟨Reg.thmSaveLast, 48, 2⟩
def Fld.thmSaveLast_precautionary : FieldRef := ⟨Reg.thmSaveLast, 50, 1⟩
def Fld.thmSaveLast_from_startup : FieldRef := ⟨Reg.thmSaveLast, 51, 1⟩
/-- EVREC_CFG -/
def Reg.evrecCfg : Nat := 0xe0000
def Fld.evrecCfg_policy : FieldRef := ⟨Reg.evrecCfg, 0, 1⟩
def Fld.evrecCfg_rate : FieldRef := ⟨Reg.evrecCfg, 8, 8⟩
def Fld.evrecCfg_burst : FieldRef := ⟨Reg.evrecCfg, 16, 8⟩
/-- EVREC_STATUS -/
def Reg.evrecStatus : Nat := 0xe0008
def Fld.evrecStatus_wrapped : FieldRef := ⟨Reg.evrecStatus, 0, 1⟩
def Fld.evrecStatus_pinned_full : FieldRef := ⟨Reg.evrecStatus, 1, 1⟩
def Fld.evrecStatus_held_writer : FieldRef := ⟨Reg.evrecStatus, 2, 1⟩
def Fld.evrecStatus_damaged : FieldRef := ⟨Reg.evrecStatus, 16, 16⟩
/-- EVREC_SEQ_HI -/
def Reg.evrecSeqHi : Nat := 0xe0010
def Fld.evrecSeqHi_seq : FieldRef := ⟨Reg.evrecSeqHi, 0, 64⟩
/-- EVREC_SEQ_LO -/
def Reg.evrecSeqLo : Nat := 0xe0018
def Fld.evrecSeqLo_seq : FieldRef := ⟨Reg.evrecSeqLo, 0, 64⟩
/-- EVREC_SUPPRESSED -/
def Reg.evrecSuppressed : Nat := 0xe0020
def Fld.evrecSuppressed_count : FieldRef := ⟨Reg.evrecSuppressed, 0, 32⟩
/-- EVREC_DROPPED -/
def Reg.evrecDropped : Nat := 0xe0028
def Fld.evrecDropped_count : FieldRef := ⟨Reg.evrecDropped, 0, 32⟩
/-- EVREC_LOST -/
def Reg.evrecLost : Nat := 0xe0030
def Fld.evrecLost_pommel : FieldRef := ⟨Reg.evrecLost, 0, 16⟩
def Fld.evrecLost_cantle : FieldRef := ⟨Reg.evrecLost, 16, 16⟩
/-- EVREC_CLEAR -/
def Reg.evrecClear : Nat := 0xe0038
def Fld.evrecClear_pinned : FieldRef := ⟨Reg.evrecClear, 0, 1⟩
def Fld.evrecClear_all : FieldRef := ⟨Reg.evrecClear, 1, 1⟩
def Fld.evrecClear_go : FieldRef := ⟨Reg.evrecClear, 31, 1⟩
/-- EVREC_RATE_ -/
def Reg.evrecRate (n : Nat) : Nat := 0xe0100 + 8 * n
def Fld.evrecRate_code (n : Nat) : FieldRef := ⟨Reg.evrecRate n, 0, 16⟩
def Fld.evrecRate_rate (n : Nat) : FieldRef := ⟨Reg.evrecRate n, 16, 8⟩
def Fld.evrecRate_burst (n : Nat) : FieldRef := ⟨Reg.evrecRate n, 24, 8⟩
/-- BOOT_STATUS -/
def Reg.bootStatus : Nat := 0xf0000
def Fld.bootStatus_stage : FieldRef := ⟨Reg.bootStatus, 0, 4⟩
def Fld.bootStatus_lead : FieldRef := ⟨Reg.bootStatus, 4, 1⟩
def Fld.bootStatus_part_ok : FieldRef := ⟨Reg.bootStatus, 5, 4⟩
def Fld.bootStatus_diverged : FieldRef := ⟨Reg.bootStatus, 9, 4⟩
def Fld.bootStatus_reset_pending : FieldRef := ⟨Reg.bootStatus, 13, 1⟩
def Fld.bootStatus_ready_ms : FieldRef := ⟨Reg.bootStatus, 32, 16⟩
/-- BOOT_GENERATION -/
def Reg.bootGeneration : Nat := 0xf0008
def Fld.bootGeneration_generation : FieldRef := ⟨Reg.bootGeneration, 0, 64⟩
/-- BOOT_FW_VERSION -/
def Reg.bootFwVersion : Nat := 0xf0010
def Fld.bootFwVersion_version : FieldRef := ⟨Reg.bootFwVersion, 0, 64⟩
/-- BOOT_STAGE_BASE -/
def Reg.bootStageBase : Nat := 0xf0018
def Fld.bootStageBase_base : FieldRef := ⟨Reg.bootStageBase, 0, 64⟩
/-- BOOT_STAGE_BYTES -/
def Reg.bootStageBytes : Nat := 0xf0020
def Fld.bootStageBytes_bytes : FieldRef := ⟨Reg.bootStageBytes, 0, 64⟩
/-- BOOT_DELTA_GO -/
def Reg.bootDeltaGo : Nat := 0xf0028
def Fld.bootDeltaGo_go : FieldRef := ⟨Reg.bootDeltaGo, 31, 1⟩
/-- BOOT_DELTA_STATUS -/
def Reg.bootDeltaStatus : Nat := 0xf0030
def Fld.bootDeltaStatus_state : FieldRef := ⟨Reg.bootDeltaStatus, 0, 3⟩
def Fld.bootDeltaStatus_target : FieldRef := ⟨Reg.bootDeltaStatus, 3, 3⟩
def Fld.bootDeltaStatus_result : FieldRef := ⟨Reg.bootDeltaStatus, 8, 8⟩
/-- BOOT_UPDATE_GO -/
def Reg.bootUpdateGo : Nat := 0xf0038
def Fld.bootUpdateGo_go : FieldRef := ⟨Reg.bootUpdateGo, 31, 1⟩
/-- BOOT_UPDATE_STATUS -/
def Reg.bootUpdateStatus : Nat := 0xf0040
def Fld.bootUpdateStatus_phase : FieldRef := ⟨Reg.bootUpdateStatus, 0, 3⟩
def Fld.bootUpdateStatus_result : FieldRef := ⟨Reg.bootUpdateStatus, 8, 8⟩
def Fld.bootUpdateStatus_written_kib : FieldRef := ⟨Reg.bootUpdateStatus, 32, 32⟩
/-- BOOT_STRAPS -/
def Reg.bootStraps : Nat := 0xf0048
def Fld.bootStraps_position : FieldRef := ⟨Reg.bootStraps, 0, 3⟩
def Fld.bootStraps_recover : FieldRef := ⟨Reg.bootStraps, 3, 1⟩
def Fld.bootStraps_test : FieldRef := ⟨Reg.bootStraps, 4, 1⟩
/-- SEC_STATUS -/
def Reg.secStatus : Nat := 0x100000
def Fld.secStatus_owner_valid : FieldRef := ⟨Reg.secStatus, 0, 4⟩
def Fld.secStatus_owner_revoked : FieldRef := ⟨Reg.secStatus, 4, 4⟩
def Fld.secStatus_signer : FieldRef := ⟨Reg.secStatus, 8, 2⟩
def Fld.secStatus_keys_loaded : FieldRef := ⟨Reg.secStatus, 16, 16⟩
def Fld.secStatus_fused_svn : FieldRef := ⟨Reg.secStatus, 32, 6⟩
/-- SEC_SERIAL -/
def Reg.secSerial : Nat := 0x100008
def Fld.secSerial_serial : FieldRef := ⟨Reg.secSerial, 0, 40⟩
/-- SEC_CMD_NONCE -/
def Reg.secCmdNonce : Nat := 0x100010
def Fld.secCmdNonce_nonce : FieldRef := ⟨Reg.secCmdNonce, 0, 64⟩
/-- SEC_CMD_GO -/
def Reg.secCmdGo : Nat := 0x100018
def Fld.secCmdGo_offset_4k : FieldRef := ⟨Reg.secCmdGo, 0, 14⟩
def Fld.secCmdGo_go : FieldRef := ⟨Reg.secCmdGo, 31, 1⟩
/-- SEC_CMD_STATUS -/
def Reg.secCmdStatus : Nat := 0x100020
def Fld.secCmdStatus_state : FieldRef := ⟨Reg.secCmdStatus, 0, 2⟩
def Fld.secCmdStatus_result : FieldRef := ⟨Reg.secCmdStatus, 8, 8⟩
/-- SEC_ATTEST_GO -/
def Reg.secAttestGo : Nat := 0x100028
def Fld.secAttestGo_go : FieldRef := ⟨Reg.secAttestGo, 31, 1⟩
/-- SEC_ATTEST_STATUS -/
def Reg.secAttestStatus : Nat := 0x100030
def Fld.secAttestStatus_valid : FieldRef := ⟨Reg.secAttestStatus, 0, 1⟩
def Fld.secAttestStatus_busy : FieldRef := ⟨Reg.secAttestStatus, 1, 1⟩
/-- SEC_ID_PUB_i -/
def Reg.secIdPub (n : Nat) : Nat := 0x100040 + 8 * n
def Fld.secIdPub_key (n : Nat) : FieldRef := ⟨Reg.secIdPub n, 0, 64⟩
/-- SEC_ATTEST_NONCE_w -/
def Reg.secAttestNonce (n : Nat) : Nat := 0x100080 + 8 * n
def Fld.secAttestNonce_nonce (n : Nat) : FieldRef := ⟨Reg.secAttestNonce n, 0, 64⟩
/-- SEC_MEAS_m_w -/
def Reg.secMeas (n : Nat) : Nat := 0x100100 + 8 * n
def Fld.secMeas_digest (n : Nat) : FieldRef := ⟨Reg.secMeas n, 0, 64⟩
/-- SEC_REPORT_WORD_j -/
def Reg.secReportWord (n : Nat) : Nat := 0x100200 + 8 * n
def Fld.secReportWord_word (n : Nat) : FieldRef := ⟨Reg.secReportWord n, 0, 64⟩
/-- HOST_CFG -/
def Reg.hostCfg : Nat := 0x110000
def Fld.hostCfg_phy : FieldRef := ⟨Reg.hostCfg, 0, 2⟩
def Fld.hostCfg_ipv6 : FieldRef := ⟨Reg.hostCfg, 2, 1⟩
def Fld.hostCfg_vlan_en : FieldRef := ⟨Reg.hostCfg, 3, 1⟩
def Fld.hostCfg_vlan : FieldRef := ⟨Reg.hostCfg, 4, 12⟩
def Fld.hostCfg_dscp : FieldRef := ⟨Reg.hostCfg, 16, 6⟩
def Fld.hostCfg_path_mtu : FieldRef := ⟨Reg.hostCfg, 22, 2⟩
def Fld.hostCfg_ipv4 : FieldRef := ⟨Reg.hostCfg, 32, 32⟩
/-- HOST_MAC -/
def Reg.hostMac : Nat := 0x110008
def Fld.hostMac_mac : FieldRef := ⟨Reg.hostMac, 0, 48⟩
/-- HOST_CC_CFG -/
def Reg.hostCcCfg : Nat := 0x110010
def Fld.hostCcCfg_cnp_interval_us : FieldRef := ⟨Reg.hostCcCfg, 0, 8⟩
def Fld.hostCcCfg_g_log2 : FieldRef := ⟨Reg.hostCcCfg, 8, 4⟩
def Fld.hostCcCfg_rai : FieldRef := ⟨Reg.hostCcCfg, 16, 16⟩
def Fld.hostCcCfg_min_rate : FieldRef := ⟨Reg.hostCcCfg, 32, 16⟩
/-- HOST_ERR -/
def Reg.hostErr : Nat := 0x110018
def Fld.hostErr_non_roce : FieldRef := ⟨Reg.hostErr, 0, 16⟩
def Fld.hostErr_bad_icrc : FieldRef := ⟨Reg.hostErr, 16, 16⟩
def Fld.hostErr_rkey : FieldRef := ⟨Reg.hostErr, 32, 16⟩
def Fld.hostErr_partial : FieldRef := ⟨Reg.hostErr, 48, 16⟩
/-- HOST_LOCAL_GID_i -/
def Reg.hostLocalGid (n : Nat) : Nat := 0x110020 + 8 * n
def Fld.hostLocalGid_gid (n : Nat) : FieldRef := ⟨Reg.hostLocalGid n, 0, 64⟩
/-- HOST_GID_g_0 -/
def Reg.hostGid0 (n : Nat) : Nat := 0x111000 + 32 * n
def Fld.hostGid0_gid (n : Nat) : FieldRef := ⟨Reg.hostGid0 n, 0, 64⟩
/-- HOST_GID_g_1 -/
def Reg.hostGid1 (n : Nat) : Nat := 0x111008 + 32 * n
def Fld.hostGid1_gid (n : Nat) : FieldRef := ⟨Reg.hostGid1 n, 0, 64⟩
/-- HOST_GID_MAC_g -/
def Reg.hostGidMac (n : Nat) : Nat := 0x111010 + 32 * n
def Fld.hostGidMac_mac (n : Nat) : FieldRef := ⟨Reg.hostGidMac n, 0, 48⟩
/-- HOST_MR_k_0 -/
def Reg.hostMr0 (n : Nat) : Nat := 0x114000 + 32 * n
def Fld.hostMr0_partition (n : Nat) : FieldRef := ⟨Reg.hostMr0 n, 0, 2⟩
def Fld.hostMr0_read (n : Nat) : FieldRef := ⟨Reg.hostMr0 n, 2, 1⟩
def Fld.hostMr0_write (n : Nat) : FieldRef := ⟨Reg.hostMr0 n, 3, 1⟩
def Fld.hostMr0_valid (n : Nat) : FieldRef := ⟨Reg.hostMr0 n, 4, 1⟩
def Fld.hostMr0_base (n : Nat) : FieldRef := ⟨Reg.hostMr0 n, 12, 52⟩
/-- HOST_MR_k_1 -/
def Reg.hostMr1 (n : Nat) : Nat := 0x114008 + 32 * n
def Fld.hostMr1_limit (n : Nat) : FieldRef := ⟨Reg.hostMr1 n, 12, 52⟩
/-- HOST_MR_k_2 -/
def Reg.hostMr2 (n : Nat) : Nat := 0x114010 + 32 * n
def Fld.hostMr2_index (n : Nat) : FieldRef := ⟨Reg.hostMr2 n, 0, 8⟩
def Fld.hostMr2_tag (n : Nat) : FieldRef := ⟨Reg.hostMr2 n, 8, 24⟩
/-- HOST_QP_CFG_ -/
def Reg.hostQpCfg (n : Nat) : Nat := 0x120000 + 32 * n
def Fld.hostQpCfg_state (n : Nat) : FieldRef := ⟨Reg.hostQpCfg n, 0, 2⟩
def Fld.hostQpCfg_control (n : Nat) : FieldRef := ⟨Reg.hostQpCfg n, 2, 1⟩
def Fld.hostQpCfg_device (n : Nat) : FieldRef := ⟨Reg.hostQpCfg n, 3, 1⟩
def Fld.hostQpCfg_partition (n : Nat) : FieldRef := ⟨Reg.hostQpCfg n, 4, 2⟩
def Fld.hostQpCfg_timeout (n : Nat) : FieldRef := ⟨Reg.hostQpCfg n, 6, 4⟩
def Fld.hostQpCfg_retry_cnt (n : Nat) : FieldRef := ⟨Reg.hostQpCfg n, 10, 3⟩
def Fld.hostQpCfg_max_rd (n : Nat) : FieldRef := ⟨Reg.hostQpCfg n, 13, 5⟩
def Fld.hostQpCfg_gid (n : Nat) : FieldRef := ⟨Reg.hostQpCfg n, 18, 8⟩
def Fld.hostQpCfg_remote_qpn (n : Nat) : FieldRef := ⟨Reg.hostQpCfg n, 32, 24⟩
/-- HOST_QP_PSN_q -/
def Reg.hostQpPsn (n : Nat) : Nat := 0x120008 + 32 * n
def Fld.hostQpPsn_send_psn (n : Nat) : FieldRef := ⟨Reg.hostQpPsn n, 0, 24⟩
def Fld.hostQpPsn_recv_psn (n : Nat) : FieldRef := ⟨Reg.hostQpPsn n, 32, 24⟩
/-- HOST_QP_STAT_q -/
def Reg.hostQpStat (n : Nat) : Nat := 0x120010 + 32 * n
def Fld.hostQpStat_retransmits (n : Nat) : FieldRef := ⟨Reg.hostQpStat n, 0, 16⟩
def Fld.hostQpStat_cnps (n : Nat) : FieldRef := ⟨Reg.hostQpStat n, 16, 16⟩
def Fld.hostQpStat_rate (n : Nat) : FieldRef := ⟨Reg.hostQpStat n, 32, 11⟩
def Fld.hostQpStat_error (n : Nat) : FieldRef := ⟨Reg.hostQpStat n, 43, 3⟩
def Fld.hostQpStat_dropped (n : Nat) : FieldRef := ⟨Reg.hostQpStat n, 48, 16⟩
/-- SNAP_FLASH_STATUS -/
def Reg.snapFlashStatus : Nat := 0x130000
def Fld.snapFlashStatus_state : FieldRef := ⟨Reg.snapFlashStatus, 0, 3⟩
def Fld.snapFlashStatus_full : FieldRef := ⟨Reg.snapFlashStatus, 3, 1⟩
def Fld.snapFlashStatus_snapshots : FieldRef := ⟨Reg.snapFlashStatus, 4, 12⟩
/-- SNAP_FLASH_USED -/
def Reg.snapFlashUsed : Nat := 0x130008
def Fld.snapFlashUsed_bytes : FieldRef := ⟨Reg.snapFlashUsed, 0, 64⟩
/-- SNAP_FLASH_CAP -/
def Reg.snapFlashCap : Nat := 0x130010
def Fld.snapFlashCap_bytes : FieldRef := ⟨Reg.snapFlashCap, 0, 64⟩
/-- SNAP_PIN_ID -/
def Reg.snapPinId : Nat := 0x130018
def Fld.snapPinId_snapshot_id : FieldRef := ⟨Reg.snapPinId, 0, 64⟩
/-- SNAP_PIN_CMD -/
def Reg.snapPinCmd : Nat := 0x130020
def Fld.snapPinCmd_pin : FieldRef := ⟨Reg.snapPinCmd, 0, 1⟩
def Fld.snapPinCmd_go : FieldRef := ⟨Reg.snapPinCmd, 31, 1⟩
/-- SNAP_TWIN_STATUS -/
def Reg.snapTwinStatus : Nat := 0x130028
def Fld.snapTwinStatus_state : FieldRef := ⟨Reg.snapTwinStatus, 0, 3⟩
def Fld.snapTwinStatus_via_relay : FieldRef := ⟨Reg.snapTwinStatus, 3, 1⟩
def Fld.snapTwinStatus_cause : FieldRef := ⟨Reg.snapTwinStatus, 8, 2⟩
/-- SNAP_RESTORE_SRC -/
def Reg.snapRestoreSrc : Nat := 0x130030
def Fld.snapRestoreSrc_source : FieldRef := ⟨Reg.snapRestoreSrc, 0, 2⟩
def Fld.snapRestoreSrc_slot : FieldRef := ⟨Reg.snapRestoreSrc, 2, 2⟩
def Fld.snapRestoreSrc_tensors_only : FieldRef := ⟨Reg.snapRestoreSrc, 4, 1⟩
def Fld.snapRestoreSrc_qp : FieldRef := ⟨Reg.snapRestoreSrc, 8, 11⟩
def Fld.snapRestoreSrc_rkey : FieldRef := ⟨Reg.snapRestoreSrc, 32, 32⟩
/-- SNAP_RESTORE_ADDR -/
def Reg.snapRestoreAddr : Nat := 0x130038
def Fld.snapRestoreAddr_addr : FieldRef := ⟨Reg.snapRestoreAddr, 0, 64⟩
/-- SNAP_RESTORE_GO -/
def Reg.snapRestoreGo : Nat := 0x130040
def Fld.snapRestoreGo_partition : FieldRef := ⟨Reg.snapRestoreGo, 0, 2⟩
def Fld.snapRestoreGo_signal_ctr : FieldRef := ⟨Reg.snapRestoreGo, 8, 14⟩
def Fld.snapRestoreGo_go : FieldRef := ⟨Reg.snapRestoreGo, 31, 1⟩
/-- SNAP_RESTORE_STATUS -/
def Reg.snapRestoreStatus : Nat := 0x130048
def Fld.snapRestoreStatus_phase : FieldRef := ⟨Reg.snapRestoreStatus, 0, 3⟩
def Fld.snapRestoreStatus_result : FieldRef := ⟨Reg.snapRestoreStatus, 8, 8⟩
/-- SNAP_HELD -/
def Reg.snapHeld : Nat := 0x130050
def Fld.snapHeld_held : FieldRef := ⟨Reg.snapHeld, 0, 1⟩
def Fld.snapHeld_dual_claim : FieldRef := ⟨Reg.snapHeld, 1, 1⟩
def Fld.snapHeld_lost_pommel : FieldRef := ⟨Reg.snapHeld, 2, 1⟩
def Fld.snapHeld_lost_cantle : FieldRef := ⟨Reg.snapHeld, 3, 1⟩
/-- SNAP_FLASH_CFG -/
def Reg.snapFlashCfg : Nat := 0x130058
def Fld.snapFlashCfg_keep_blocks : FieldRef := ⟨Reg.snapFlashCfg, 0, 16⟩
def Fld.snapFlashCfg_keep_ok : FieldRef := ⟨Reg.snapFlashCfg, 16, 1⟩
/-- SNAP_SADDLE_s -/
def Reg.snapSaddle (n : Nat) : Nat := 0x130080 + 16 * n
def Fld.snapSaddle_base (n : Nat) : FieldRef := ⟨Reg.snapSaddle n, 19, 45⟩
/-- SNAP_SLOT_BYTES_s -/
def Reg.snapSlotBytes (n : Nat) : Nat := 0x130088 + 16 * n
def Fld.snapSlotBytes_bytes (n : Nat) : FieldRef := ⟨Reg.snapSlotBytes n, 0, 64⟩
/-- SNAP_CFG_ -/
def Reg.snapCfg (n : Nat) : Nat := 0x130100 + 128 * n
def Fld.snapCfg_slots (n : Nat) : FieldRef := ⟨Reg.snapCfg n, 0, 3⟩
def Fld.snapCfg_shadow (n : Nat) : FieldRef := ⟨Reg.snapCfg n, 3, 1⟩
def Fld.snapCfg_drain_key_slot (n : Nat) : FieldRef := ⟨Reg.snapCfg n, 4, 4⟩
def Fld.snapCfg_ship_pct (n : Nat) : FieldRef := ⟨Reg.snapCfg n, 8, 7⟩
def Fld.snapCfg_beat_limit (n : Nat) : FieldRef := ⟨Reg.snapCfg n, 16, 8⟩
/-- SNAP_COUNT_FLOOR_ -/
def Reg.snapCountFloor (n : Nat) : Nat := 0x130108 + 128 * n
def Fld.snapCountFloor_floor (n : Nat) : FieldRef := ⟨Reg.snapCountFloor n, 0, 22⟩
/-- SNAP_MIRROR_BASE_n -/
def Reg.snapMirrorBase (n : Nat) : Nat := 0x130110 + 128 * n
def Fld.snapMirrorBase_base (n : Nat) : FieldRef := ⟨Reg.snapMirrorBase n, 12, 52⟩
/-- SNAP_MIRROR_BUF_BYTES_n -/
def Reg.snapMirrorBufBytes (n : Nat) : Nat := 0x130118 + 128 * n
def Fld.snapMirrorBufBytes_bytes (n : Nat) : FieldRef := ⟨Reg.snapMirrorBufBytes n, 0, 64⟩
/-- SNAP_MIRROR_SHARD_BYTES_n -/
def Reg.snapMirrorShardBytes (n : Nat) : Nat := 0x130120 + 128 * n
def Fld.snapMirrorShardBytes_bytes (n : Nat) : FieldRef := ⟨Reg.snapMirrorShardBytes n, 0, 64⟩
/-- SNAP_MIRROR_STEP_n_0 -/
def Reg.snapMirrorStep0 (n : Nat) : Nat := 0x130128 + 128 * n
def Fld.snapMirrorStep0_step (n : Nat) : FieldRef := ⟨Reg.snapMirrorStep0 n, 0, 62⟩
def Fld.snapMirrorStep0_state (n : Nat) : FieldRef := ⟨Reg.snapMirrorStep0 n, 62, 2⟩
/-- SNAP_MIRROR_STEP_n_1 -/
def Reg.snapMirrorStep1 (n : Nat) : Nat := 0x130130 + 128 * n
def Fld.snapMirrorStep1_step (n : Nat) : FieldRef := ⟨Reg.snapMirrorStep1 n, 0, 62⟩
def Fld.snapMirrorStep1_state (n : Nat) : FieldRef := ⟨Reg.snapMirrorStep1 n, 62, 2⟩
/-- SNAP_OUT_STEP_n -/
def Reg.snapOutStep (n : Nat) : Nat := 0x130138 + 128 * n
def Fld.snapOutStep_step (n : Nat) : FieldRef := ⟨Reg.snapOutStep n, 0, 64⟩
/-- SNAP_MODE_n -/
def Reg.snapMode (n : Nat) : Nat := 0x130140 + 128 * n
def Fld.snapMode_mode (n : Nat) : FieldRef := ⟨Reg.snapMode n, 0, 2⟩
def Fld.snapMode_test (n : Nat) : FieldRef := ⟨Reg.snapMode n, 2, 1⟩
/-- SNAP_HANDBACK_ -/
def Reg.snapHandback (n : Nat) : Nat := 0x130148 + 128 * n
def Fld.snapHandback_go (n : Nat) : FieldRef := ⟨Reg.snapHandback n, 0, 1⟩
def Fld.snapHandback_done (n : Nat) : FieldRef := ⟨Reg.snapHandback n, 1, 1⟩
def Fld.snapHandback_refused (n : Nat) : FieldRef := ⟨Reg.snapHandback n, 2, 1⟩
def Fld.snapHandback_list (n : Nat) : FieldRef := ⟨Reg.snapHandback n, 6, 58⟩
/-- SNAP_EVALWIN_BASE_n -/
def Reg.snapEvalwinBase (n : Nat) : Nat := 0x130150 + 128 * n
def Fld.snapEvalwinBase_base (n : Nat) : FieldRef := ⟨Reg.snapEvalwinBase n, 12, 52⟩
/-- SNAP_EVALWIN_LIMIT_n -/
def Reg.snapEvalwinLimit (n : Nat) : Nat := 0x130158 + 128 * n
def Fld.snapEvalwinLimit_limit (n : Nat) : FieldRef := ⟨Reg.snapEvalwinLimit n, 12, 52⟩
/-- SNAP_EVALWIN_CTRL_n -/
def Reg.snapEvalwinCtrl (n : Nat) : Nat := 0x130160 + 128 * n
def Fld.snapEvalwinCtrl_enable (n : Nat) : FieldRef := ⟨Reg.snapEvalwinCtrl n, 0, 1⟩
def Fld.snapEvalwinCtrl_refused (n : Nat) : FieldRef := ⟨Reg.snapEvalwinCtrl n, 1, 1⟩
/-- SNAP_STOP_STAT_n -/
def Reg.snapStopStat (n : Nat) : Nat := 0x130168 + 128 * n
def Fld.snapStopStat_last_stop_us (n : Nat) : FieldRef := ⟨Reg.snapStopStat n, 0, 32⟩
def Fld.snapStopStat_stops (n : Nat) : FieldRef := ⟨Reg.snapStopStat n, 32, 16⟩
/-- SNAP_SLOT_STATE_i -/
def Reg.snapSlotState (n : Nat) : Nat := 0x130400 + 32 * n
def Fld.snapSlotState_state (n : Nat) : FieldRef := ⟨Reg.snapSlotState n, 0, 3⟩
def Fld.snapSlotState_poison (n : Nat) : FieldRef := ⟨Reg.snapSlotState n, 3, 1⟩
def Fld.snapSlotState_step_record (n : Nat) : FieldRef := ⟨Reg.snapSlotState n, 4, 1⟩
/-- SNAP_SLOT_ID_i -/
def Reg.snapSlotId (n : Nat) : Nat := 0x130408 + 32 * n
def Fld.snapSlotId_snapshot_id (n : Nat) : FieldRef := ⟨Reg.snapSlotId n, 0, 64⟩
/-- SNAP_SLOT_STEP_i -/
def Reg.snapSlotStep (n : Nat) : Nat := 0x130410 + 32 * n
def Fld.snapSlotStep_step (n : Nat) : FieldRef := ⟨Reg.snapSlotStep n, 0, 64⟩

end Sys2Proof.Machine
end

