-- ==== Sys2Proof/Machine/RegTable.lean ====
section
/-!
DEFINITION. The field tables of every register (R5 to R8, R418 to R420): access code, reset value, permitted encodings
and write scope, one row per register family.  A field whose Reset column is a dash holds the image default its
description states, or zero (DESIGN CHOICE, assumption 3).
-/
namespace Sys2Proof.Machine

/-- The access codes of R5. -/
inductive Access where
  | ro | rw | wo | w1c | w1s | rc
deriving DecidableEq, Repr

/-- The write scopes of R420. -/
inductive Scope where
  | device | part | shared
deriving DecidableEq, Repr

/-- One field: low bit, width, access code, reset value, and the least and greatest encodings that are not reserved. -/
structure FieldRow where
  lo : Nat
  width : Nat
  acc : Access
  reset : Nat
  least : Nat
  most : Nat
deriving DecidableEq, Repr

/-- One register family: first offset, stride, instances, width in bits, scope and fields.  byIndex says that the low
field resets to the instance's own index (HOST_MR_k_2.index). -/
structure RegRow where
  name : String
  base : Nat
  stride : Nat
  count : Nat
  width : Nat
  scope : Scope
  byIndex : Bool
  fields : List FieldRow
deriving DecidableEq, Repr

/-- The CTL registers. -/
def ctlRows1 : List RegRow := [
  ⟨"CTL_CONTRACT_CAPS", 0x0, 0, 1, 64, .device, false,
    [⟨0, 8, .ro, 1, 0, 255⟩,
     ⟨8, 8, .ro, 64, 0, 255⟩,
     ⟨16, 16, .ro, 4096, 0, 65535⟩,
     ⟨32, 16, .ro, 16384, 0, 65535⟩,
     ⟨48, 8, .ro, 16, 0, 255⟩]⟩,
  ⟨"CTL_INVENTORY", 0x8, 0, 1, 64, .device, false,
    [⟨0, 3, .ro, 0, 0, 7⟩,
     ⟨3, 4, .ro, 0, 0, 15⟩,
     ⟨7, 7, .ro, 0, 0, 127⟩,
     ⟨14, 4, .ro, 0, 0, 15⟩,
     ⟨18, 10, .ro, 0, 0, 1023⟩,
     ⟨28, 5, .ro, 0, 0, 31⟩]⟩,
  ⟨"CTL_ABORT_REQ", 0x10, 0, 1, 64, .shared, false,
    [⟨0, 6, .wo, 0, 0, 63⟩,
     ⟨8, 6, .wo, 0, 0, 63⟩,
     ⟨32, 32, .wo, 0, 0, 4294967295⟩]⟩,
  ⟨"CTL_OPTAB_USED", 0x18, 0, 1, 32, .device, false,
    [⟨0, 13, .ro, 0, 0, 8191⟩]⟩,
  ⟨"CTL_OPTAB_HWM", 0x20, 0, 1, 32, .device, false,
    [⟨0, 13, .rc, 0, 0, 8191⟩]⟩,
  ⟨"CTL_STEP_n", 0x100, 256, 4, 64, .part, false,
    [⟨0, 64, .ro, 0, 0, 18446744073709551615⟩]⟩,
  ⟨"CTL_NUMPOL", 0x108, 256, 4, 64, .part, false,
    [⟨0, 1, .ro, 0, 0, 1⟩,
     ⟨1, 2, .ro, 0, 0, 2⟩,
     ⟨3, 1, .ro, 1, 0, 1⟩,
     ⟨4, 1, .ro, 0, 0, 1⟩,
     ⟨8, 5, .ro, 12, 8, 16⟩,
     ⟨13, 4, .ro, 2, 1, 15⟩,
     ⟨17, 1, .ro, 1, 0, 1⟩]⟩,
  ⟨"CTL_RNG_SEED_n", 0x110, 256, 4, 64, .part, false,
    [⟨0, 64, .rw, 0, 0, 18446744073709551615⟩]⟩,
  ⟨"CTL_DATAPOS_n", 0x118, 256, 4, 64, .part, false,
    [⟨0, 64, .rw, 0, 0, 18446744073709551615⟩]⟩,
  ⟨"CTL_LADDER_BASE", 0x120, 256, 4, 64, .part, false,
    [⟨6, 58, .rw, 0, 0, 288230376151711743⟩]⟩,
  ⟨"CTL_LADDER_CFG", 0x128, 256, 4, 32, .part, false,
    [⟨0, 11, .rw, 0, 0, 1024⟩,
     ⟨16, 1, .ro, 0, 0, 1⟩]⟩,
  ⟨"CTL_LADDER_STAT", 0x130, 256, 4, 64, .part, false,
    [⟨0, 32, .rc, 0, 0, 4294967295⟩,
     ⟨32, 16, .ro, 0, 0, 65535⟩,
     ⟨48, 8, .rc, 0, 0, 255⟩]⟩]

/-- The CTL registers. -/
def ctlRows2 : List RegRow := [
  ⟨"CTL_AWL_SAMPLES_n", 0x138, 256, 4, 64, .part, false,
    [⟨0, 64, .ro, 0, 0, 18446744073709551615⟩]⟩,
  ⟨"CTL_AWL_STAT_n", 0x140, 256, 4, 64, .part, false,
    [⟨0, 16, .rc, 0, 0, 65535⟩,
     ⟨16, 12, .ro, 0, 0, 4095⟩,
     ⟨32, 32, .ro, 0, 0, 4294967295⟩]⟩,
  ⟨"CTL_STEPREC_BASE_n", 0x148, 256, 4, 64, .part, false,
    [⟨8, 56, .rw, 0, 0, 72057594037927935⟩]⟩,
  ⟨"CTL_STEPREC_CFG_n", 0x150, 256, 4, 32, .part, false,
    [⟨0, 1, .rw, 0, 0, 1⟩,
     ⟨4, 5, .rw, 4, 4, 16⟩]⟩,
  ⟨"CTL_STEPREC_HEAD_n", 0x158, 256, 4, 32, .part, false,
    [⟨0, 32, .ro, 0, 0, 4294967295⟩]⟩,
  ⟨"CTL_REPLAY", 0x160, 256, 4, 64, .part, false,
    [⟨0, 1, .rw, 0, 0, 1⟩,
     ⟨1, 1, .rw, 0, 0, 1⟩,
     ⟨2, 1, .w1c, 0, 0, 1⟩,
     ⟨8, 56, .rw, 0, 0, 72057594037927935⟩]⟩,
  ⟨"CTL_CTR_RANGE", 0x168, 256, 4, 32, .part, false,
    [⟨0, 14, .ro, 0, 0, 16383⟩,
     ⟨16, 15, .ro, 0, 0, 32767⟩]⟩,
  ⟨"CTL_NQ_ADDR", 0x800, 32, 5, 64, .part, false,
    [⟨6, 58, .rw, 0, 0, 288230376151711743⟩]⟩,
  ⟨"CTL_NQ_CFG", 0x808, 32, 5, 64, .part, false,
    [⟨0, 11, .rw, 0, 0, 2047⟩,
     ⟨16, 5, .rw, 6, 6, 16⟩,
     ⟨24, 1, .rw, 0, 0, 1⟩,
     ⟨25, 1, .ro, 0, 0, 1⟩,
     ⟨32, 32, .rw, 0, 0, 4294967295⟩]⟩,
  ⟨"CTL_NQ_HEAD_n", 0x810, 32, 5, 32, .part, false,
    [⟨0, 32, .rw, 0, 0, 4294967295⟩]⟩,
  ⟨"CTL_NQ_DROP_n", 0x818, 32, 5, 32, .part, false,
    [⟨0, 32, .rc, 0, 0, 4294967295⟩]⟩,
  ⟨"CTL_WQ_BASE", 0x1000, 64, 64, 64, .part, false,
    [⟨12, 52, .rw, 0, 0, 4503599627370495⟩]⟩]

/-- The CTL registers. -/
def ctlRows3 : List RegRow := [
  ⟨"CTL_WQ_CFG", 0x1008, 64, 64, 32, .part, false,
    [⟨0, 1, .rw, 0, 0, 1⟩,
     ⟨4, 5, .rw, 6, 6, 16⟩,
     ⟨12, 2, .rw, 0, 0, 3⟩,
     ⟨16, 2, .ro, 0, 0, 3⟩,
     ⟨19, 13, .ro, 0, 0, 8191⟩]⟩,
  ⟨"CTL_WQ_TAIL_n", 0x1010, 64, 64, 32, .part, false,
    [⟨0, 32, .rw, 0, 0, 4294967295⟩]⟩,
  ⟨"CTL_WQ_HEAD_n", 0x1018, 64, 64, 32, .part, false,
    [⟨0, 32, .ro, 0, 0, 4294967295⟩]⟩,
  ⟨"CTL_WQ_STAT", 0x1020, 64, 64, 32, .part, false,
    [⟨0, 13, .ro, 0, 0, 8191⟩,
     ⟨16, 1, .ro, 0, 0, 1⟩,
     ⟨17, 1, .ro, 0, 0, 1⟩,
     ⟨18, 1, .w1c, 0, 0, 1⟩,
     ⟨19, 1, .w1c, 0, 0, 1⟩]⟩,
  ⟨"CTL_CQ_ADDR", 0x2000, 32, 64, 64, .part, false,
    [⟨6, 58, .rw, 0, 0, 288230376151711743⟩]⟩,
  ⟨"CTL_CQ_CFG", 0x2008, 32, 64, 64, .part, false,
    [⟨0, 11, .rw, 0, 0, 2047⟩,
     ⟨16, 5, .rw, 6, 6, 16⟩,
     ⟨24, 1, .rw, 0, 0, 1⟩,
     ⟨25, 1, .ro, 0, 0, 1⟩,
     ⟨32, 32, .rw, 0, 0, 4294967295⟩]⟩,
  ⟨"CTL_CQ_HEAD_n", 0x2010, 32, 64, 32, .part, false,
    [⟨0, 32, .rw, 0, 0, 4294967295⟩]⟩,
  ⟨"CTL_OPSTAT_n", 0x8000, 8, 4096, 32, .device, false,
    [⟨0, 32, .ro, 0, 0, 4294967295⟩]⟩,
  ⟨"CTL_DEPCTR_n", 0x10000, 8, 16384, 32, .part, false,
    [⟨0, 32, .rw, 0, 0, 4294967295⟩]⟩]

/-- The STRM registers. -/
def strmRows1 : List RegRow := [
  ⟨"STRM_OPEN_RING", 0x30000, 0, 1, 64, .shared, false,
    [⟨10, 54, .rw, 0, 0, 18014398509481983⟩]⟩,
  ⟨"STRM_OPEN_CFG", 0x30008, 0, 1, 64, .shared, false,
    [⟨0, 16, .wo, 0, 0, 65535⟩,
     ⟨16, 5, .wo, 0, 0, 31⟩,
     ⟨21, 1, .wo, 0, 0, 1⟩,
     ⟨22, 2, .wo, 0, 0, 3⟩,
     ⟨24, 15, .wo, 0, 0, 32767⟩,
     ⟨39, 15, .wo, 0, 0, 32767⟩,
     ⟨63, 1, .wo, 0, 0, 1⟩]⟩,
  ⟨"STRM_OPEN_STATUS", 0x30010, 0, 1, 32, .device, false,
    [⟨0, 16, .ro, 0, 0, 65535⟩,
     ⟨16, 3, .ro, 0, 0, 7⟩,
     ⟨19, 1, .ro, 0, 0, 1⟩,
     ⟨31, 1, .rc, 0, 0, 1⟩]⟩,
  ⟨"STRM_CLOSE", 0x30018, 0, 1, 32, .shared, false,
    [⟨0, 16, .wo, 0, 0, 65535⟩,
     ⟨31, 1, .wo, 0, 0, 1⟩]⟩,
  ⟨"STRM_RING_TAIL", 0x30020, 0, 1, 64, .shared, false,
    [⟨0, 16, .wo, 0, 0, 65535⟩,
     ⟨32, 32, .wo, 0, 0, 4294967295⟩]⟩,
  ⟨"STRM_RESYNC", 0x30028, 0, 1, 64, .shared, false,
    [⟨0, 16, .wo, 0, 0, 65535⟩,
     ⟨32, 32, .wo, 0, 0, 4294967295⟩]⟩,
  ⟨"STRM_CTX_SEL", 0x30030, 0, 1, 32, .shared, false,
    [⟨0, 16, .rw, 0, 0, 65535⟩]⟩,
  ⟨"STRM_SPLIT", 0x30038, 0, 1, 32, .device, false,
    [⟨0, 8, .ro, 55, 5, 90⟩,
     ⟨8, 8, .ro, 30, 5, 90⟩,
     ⟨16, 8, .ro, 15, 5, 90⟩,
     ⟨24, 8, .ro, 16, 0, 255⟩]⟩,
  ⟨"STRM_WDOG_CFG", 0x30040, 0, 1, 32, .device, false,
    [⟨0, 16, .rw, 100, 1, 65535⟩,
     ⟨16, 1, .rw, 1, 0, 1⟩]⟩,
  ⟨"STRM_WDOG_STAT", 0x30048, 0, 1, 64, .device, false,
    [⟨0, 32, .rc, 0, 0, 4294967295⟩,
     ⟨32, 16, .ro, 0, 0, 65535⟩,
     ⟨48, 2, .ro, 0, 0, 3⟩]⟩,
  ⟨"STRM_ERR", 0x30050, 0, 1, 32, .device, false,
    [⟨0, 1, .w1c, 0, 0, 1⟩,
     ⟨1, 1, .w1c, 0, 0, 1⟩,
     ⟨2, 1, .w1c, 0, 0, 1⟩,
     ⟨3, 1, .w1c, 0, 0, 1⟩,
     ⟨4, 1, .w1c, 0, 0, 1⟩,
     ⟨5, 1, .w1c, 0, 0, 1⟩,
     ⟨6, 1, .w1c, 0, 0, 1⟩,
     ⟨16, 16, .ro, 0, 0, 65535⟩]⟩,
  ⟨"STRM_CTX_WORD_i", 0x30080, 8, 8, 64, .device, false,
    [⟨0, 64, .ro, 0, 0, 18446744073709551615⟩]⟩]

/-- The STRM registers. -/
def strmRows2 : List RegRow := [
  ⟨"STRM_POOL", 0x30100, 64, 4, 64, .device, false,
    [⟨0, 16, .ro, 0, 0, 65535⟩,
     ⟨16, 16, .ro, 0, 0, 65535⟩,
     ⟨32, 16, .rc, 0, 0, 65535⟩,
     ⟨48, 16, .ro, 0, 0, 65535⟩]⟩,
  ⟨"STRM_BYTES_RD_s", 0x30108, 64, 4, 64, .device, false,
    [⟨0, 64, .ro, 0, 0, 18446744073709551615⟩]⟩,
  ⟨"STRM_BYTES_WR_s", 0x30110, 64, 4, 64, .device, false,
    [⟨0, 64, .ro, 0, 0, 18446744073709551615⟩]⟩,
  ⟨"STRM_BYTES_RM_s", 0x30118, 64, 4, 64, .device, false,
    [⟨0, 64, .ro, 0, 0, 18446744073709551615⟩]⟩,
  ⟨"STRM_BURSTS_s", 0x30120, 64, 4, 64, .device, false,
    [⟨0, 64, .ro, 0, 0, 18446744073709551615⟩]⟩,
  ⟨"STRM_PF_STATUS", 0x30200, 8, 4, 32, .device, false,
    [⟨0, 2, .ro, 0, 0, 3⟩,
     ⟨2, 5, .ro, 0, 0, 31⟩,
     ⟨7, 12, .ro, 0, 0, 4095⟩]⟩]

/-- The ARY registers. -/
def aryRows1 : List RegRow := [
  ⟨"ARY_CTRL", 0x40000, 256, 4, 32, .part, false,
    [⟨0, 1, .rw, 0, 0, 1⟩,
     ⟨1, 1, .rw, 1, 0, 1⟩,
     ⟨2, 2, .rw, 2, 0, 3⟩]⟩,
  ⟨"ARY_STATUS", 0x40008, 256, 4, 32, .part, false,
    [⟨0, 3, .ro, 0, 0, 7⟩,
     ⟨3, 1, .ro, 0, 0, 1⟩,
     ⟨4, 4, .ro, 0, 0, 15⟩,
     ⟨8, 3, .ro, 0, 0, 7⟩,
     ⟨11, 1, .ro, 0, 0, 1⟩,
     ⟨12, 4, .ro, 0, 0, 15⟩]⟩,
  ⟨"ARY_REPAIR", 0x40010, 256, 4, 64, .part, false,
    [⟨0, 7, .ro, 0, 0, 127⟩,
     ⟨7, 1, .ro, 0, 0, 1⟩,
     ⟨8, 7, .ro, 0, 0, 127⟩,
     ⟨15, 1, .ro, 0, 0, 1⟩,
     ⟨16, 7, .ro, 0, 0, 127⟩,
     ⟨23, 1, .ro, 0, 0, 1⟩,
     ⟨24, 7, .ro, 0, 0, 127⟩,
     ⟨31, 1, .ro, 0, 0, 1⟩,
     ⟨32, 7, .ro, 0, 0, 127⟩,
     ⟨39, 1, .ro, 0, 0, 1⟩,
     ⟨40, 7, .ro, 0, 0, 127⟩,
     ⟨47, 1, .ro, 0, 0, 1⟩,
     ⟨48, 7, .ro, 0, 0, 127⟩,
     ⟨55, 1, .ro, 0, 0, 1⟩,
     ⟨56, 7, .ro, 0, 0, 127⟩,
     ⟨63, 1, .ro, 0, 0, 1⟩]⟩,
  ⟨"ARY_REPAIR_SRC", 0x40018, 256, 4, 32, .part, false,
    [⟨0, 8, .ro, 0, 0, 255⟩,
     ⟨8, 8, .ro, 0, 0, 255⟩]⟩,
  ⟨"ARY_REPAIR_REQ", 0x40020, 256, 4, 32, .part, false,
    [⟨0, 10, .wo, 0, 0, 1023⟩,
     ⟨31, 1, .wo, 0, 0, 1⟩]⟩,
  ⟨"ARY_FAULT", 0x40028, 256, 4, 64, .part, false,
    [⟨0, 1, .w1c, 0, 0, 1⟩,
     ⟨1, 1, .w1c, 0, 0, 1⟩,
     ⟨2, 1, .w1c, 0, 0, 1⟩,
     ⟨3, 1, .w1c, 0, 0, 1⟩,
     ⟨4, 1, .w1c, 0, 0, 1⟩,
     ⟨5, 1, .w1c, 0, 0, 1⟩,
     ⟨6, 1, .w1c, 0, 0, 1⟩,
     ⟨8, 10, .ro, 0, 0, 1023⟩,
     ⟨18, 9, .ro, 0, 0, 511⟩,
     ⟨27, 1, .ro, 0, 0, 1⟩,
     ⟨32, 16, .rc, 0, 0, 65535⟩,
     ⟨48, 16, .rc, 0, 0, 65535⟩]⟩,
  ⟨"ARY_FLAGS", 0x40030, 256, 4, 32, .part, false,
    [⟨0, 1, .w1c, 0, 0, 1⟩,
     ⟨1, 1, .w1c, 0, 0, 1⟩]⟩,
  ⟨"ARY_INJECT", 0x40038, 256, 4, 32, .part, false,
    [⟨0, 10, .wo, 0, 0, 1023⟩,
     ⟨10, 9, .wo, 0, 0, 511⟩,
     ⟨19, 2, .wo, 0, 0, 2⟩,
     ⟨31, 1, .wo, 0, 0, 1⟩]⟩,
  ⟨"ARY_PASSES_n", 0x40040, 256, 4, 64, .part, false,
    [⟨0, 64, .ro, 0, 0, 18446744073709551615⟩]⟩,
  ⟨"ARY_BUSY_n", 0x40048, 256, 4, 64, .part, false,
    [⟨0, 64, .ro, 0, 0, 18446744073709551615⟩]⟩,
  ⟨"ARY_WAIT_n", 0x40050, 256, 4, 64, .part, false,
    [⟨0, 64, .ro, 0, 0, 18446744073709551615⟩]⟩,
  ⟨"ARY_GATED_n", 0x40058, 256, 4, 64, .part, false,
    [⟨0, 64, .ro, 0, 0, 18446744073709551615⟩]⟩]

/-- The ARY registers. -/
def aryRows2 : List RegRow := [
  ⟨"ARY_PREEMPT_n", 0x40060, 256, 4, 32, .part, false,
    [⟨0, 32, .rc, 0, 0, 4294967295⟩]⟩]

/-- The TE registers. -/
def teRows : List RegRow := [
  ⟨"TE_CTRL", 0x50000, 64, 64, 32, .part, false,
    [⟨0, 1, .rw, 1, 0, 1⟩,
     ⟨1, 2, .rw, 2, 0, 3⟩,
     ⟨8, 8, .rw, 0, 0, 255⟩]⟩,
  ⟨"TE_STATUS", 0x50008, 64, 64, 32, .part, false,
    [⟨0, 3, .ro, 0, 0, 7⟩,
     ⟨3, 1, .ro, 0, 0, 1⟩,
     ⟨4, 4, .ro, 0, 0, 15⟩,
     ⟨8, 9, .ro, 0, 0, 511⟩,
     ⟨17, 1, .ro, 0, 0, 1⟩]⟩,
  ⟨"TE_FAULT", 0x50010, 64, 64, 64, .part, false,
    [⟨0, 1, .w1c, 0, 0, 1⟩,
     ⟨1, 1, .w1c, 0, 0, 1⟩,
     ⟨2, 1, .w1c, 0, 0, 1⟩,
     ⟨3, 1, .w1c, 0, 0, 1⟩,
     ⟨4, 1, .w1c, 0, 0, 1⟩,
     ⟨8, 23, .ro, 0, 0, 8388607⟩,
     ⟨32, 16, .rc, 0, 0, 65535⟩,
     ⟨48, 16, .rc, 0, 0, 65535⟩]⟩,
  ⟨"TE_ISSUE_n", 0x50018, 64, 64, 64, .part, false,
    [⟨0, 64, .ro, 0, 0, 18446744073709551615⟩]⟩,
  ⟨"TE_IDLE_n", 0x50020, 64, 64, 64, .part, false,
    [⟨0, 64, .ro, 0, 0, 18446744073709551615⟩]⟩,
  ⟨"TE_ACC_WAIT_n", 0x50028, 64, 64, 64, .part, false,
    [⟨0, 64, .ro, 0, 0, 18446744073709551615⟩]⟩,
  ⟨"TE_SWITCH_n", 0x50030, 64, 64, 32, .part, false,
    [⟨0, 32, .rc, 0, 0, 4294967295⟩]⟩,
  ⟨"TE_ACC_HWM_n", 0x50038, 64, 64, 32, .part, false,
    [⟨0, 9, .rc, 0, 0, 511⟩]⟩,
  ⟨"TE_SPARE_CTRL", 0x51000, 16, 4, 32, .part, false,
    [⟨0, 4, .wo, 0, 0, 15⟩,
     ⟨8, 1, .wo, 0, 0, 1⟩]⟩,
  ⟨"TE_SPARE_STATUS", 0x51008, 16, 4, 32, .part, false,
    [⟨0, 3, .ro, 0, 0, 7⟩,
     ⟨3, 1, .ro, 0, 0, 1⟩,
     ⟨4, 4, .ro, 0, 0, 15⟩]⟩]

/-- The SKV registers. -/
def skvRows : List RegRow := [
  ⟨"SKV_FLAGS", 0x60000, 32, 64, 32, .part, false,
    [⟨0, 1, .w1c, 0, 0, 1⟩,
     ⟨1, 1, .w1c, 0, 0, 1⟩,
     ⟨2, 1, .w1c, 0, 0, 1⟩]⟩,
  ⟨"SKV_CONV_n", 0x60008, 32, 64, 64, .part, false,
    [⟨0, 64, .ro, 0, 0, 18446744073709551615⟩]⟩,
  ⟨"SKV_SAT_n", 0x60010, 32, 64, 32, .part, false,
    [⟨0, 32, .rc, 0, 0, 4294967295⟩]⟩,
  ⟨"SKV_NONFIN_n", 0x60018, 32, 64, 32, .part, false,
    [⟨0, 32, .rc, 0, 0, 4294967295⟩]⟩]

/-- The HSM registers. -/
def hsmRows : List RegRow := [
  ⟨"HSM_CFG", 0x70000, 0, 1, 32, .device, false,
    [⟨0, 8, .ro, 40, 10, 90⟩,
     ⟨8, 8, .ro, 24, 1, 255⟩,
     ⟨16, 8, .ro, 16, 0, 255⟩,
     ⟨24, 8, .ro, 10, 0, 255⟩]⟩,
  ⟨"HSM_CAPACITY", 0x70008, 0, 1, 64, .device, false,
    [⟨0, 64, .ro, 0, 0, 18446744073709551615⟩]⟩,
  ⟨"HSM_MAPOUT_REQ", 0x70010, 0, 1, 32, .device, false,
    [⟨0, 4, .wo, 0, 0, 15⟩,
     ⟨4, 5, .wo, 0, 0, 31⟩,
     ⟨31, 1, .wo, 0, 0, 1⟩]⟩,
  ⟨"HSM_MAPOUT_ACK", 0x70018, 0, 1, 32, .device, false,
    [⟨0, 4, .wo, 0, 0, 15⟩,
     ⟨31, 1, .wo, 0, 0, 1⟩]⟩,
  ⟨"HSM_RETRAIN_REQ", 0x70020, 0, 1, 32, .device, false,
    [⟨0, 9, .wo, 0, 0, 511⟩,
     ⟨31, 1, .wo, 0, 0, 1⟩]⟩,
  ⟨"HSM_STACK_STATUS", 0x70100, 32, 16, 32, .device, false,
    [⟨0, 2, .ro, 0, 0, 3⟩,
     ⟨2, 6, .ro, 0, 0, 63⟩,
     ⟨8, 5, .ro, 0, 0, 31⟩,
     ⟨13, 1, .ro, 0, 0, 1⟩,
     ⟨14, 2, .ro, 0, 0, 3⟩,
     ⟨16, 8, .ro, 0, 0, 255⟩]⟩,
  ⟨"HSM_LIMIT_h", 0x70108, 32, 16, 64, .device, false,
    [⟨0, 64, .ro, 0, 0, 18446744073709551615⟩]⟩,
  ⟨"HSM_KEEP_MASK_h", 0x70110, 32, 16, 32, .device, false,
    [⟨0, 32, .ro, 0, 0, 4294967295⟩]⟩,
  ⟨"HSM_CH_STATUS", 0x71000, 32, 512, 32, .device, false,
    [⟨0, 3, .ro, 0, 0, 7⟩,
     ⟨3, 1, .ro, 0, 0, 1⟩,
     ⟨4, 2, .ro, 0, 0, 3⟩]⟩,
  ⟨"HSM_ECC", 0x71008, 32, 512, 64, .device, false,
    [⟨0, 16, .rc, 0, 0, 65535⟩,
     ⟨16, 16, .rc, 0, 0, 65535⟩,
     ⟨32, 27, .ro, 0, 0, 134217727⟩]⟩,
  ⟨"HSM_IFERR", 0x71010, 32, 512, 32, .device, false,
    [⟨0, 16, .rc, 0, 0, 65535⟩,
     ⟨16, 16, .rc, 0, 0, 65535⟩]⟩,
  ⟨"HSM_TEST", 0x71018, 32, 512, 64, .device, false,
    [⟨0, 2, .rw, 0, 0, 3⟩,
     ⟨2, 1, .w1s, 0, 0, 1⟩,
     ⟨32, 32, .ro, 0, 0, 4294967295⟩]⟩]

/-- The SEN registers. -/
def senRows : List RegRow := [
  ⟨"SEN_FLAGS", 0x80000, 64, 16, 32, .device, false,
    [⟨0, 1, .w1c, 0, 0, 1⟩,
     ⟨1, 1, .w1c, 0, 0, 1⟩,
     ⟨2, 1, .w1c, 0, 0, 1⟩,
     ⟨3, 1, .w1c, 0, 0, 1⟩,
     ⟨4, 1, .w1c, 0, 0, 1⟩]⟩,
  ⟨"SEN_BYTES_ADD_h", 0x80008, 64, 16, 64, .device, false,
    [⟨0, 64, .ro, 0, 0, 18446744073709551615⟩]⟩,
  ⟨"SEN_BYTES_COPY_h", 0x80010, 64, 16, 64, .device, false,
    [⟨0, 64, .ro, 0, 0, 18446744073709551615⟩]⟩,
  ⟨"SEN_BYTES_TURN_h", 0x80018, 64, 16, 64, .device, false,
    [⟨0, 64, .ro, 0, 0, 18446744073709551615⟩]⟩,
  ⟨"SEN_ELEM_APPLY_h", 0x80020, 64, 16, 64, .device, false,
    [⟨0, 64, .ro, 0, 0, 18446744073709551615⟩]⟩,
  ⟨"SEN_BUSY_h", 0x80028, 64, 16, 64, .device, false,
    [⟨0, 64, .ro, 0, 0, 18446744073709551615⟩]⟩]

/-- The LNK registers. -/
def lnkRows1 : List RegRow := [
  ⟨"LNK_NODE_ID", 0x90000, 0, 1, 32, .device, false,
    [⟨0, 3, .ro, 0, 0, 7⟩,
     ⟨3, 29, .ro, 0, 0, 536870911⟩]⟩,
  ⟨"LNK_CTRL", 0x90100, 128, 12, 32, .part, false,
    [⟨0, 1, .ro, 0, 0, 1⟩,
     ⟨1, 1, .w1s, 0, 0, 1⟩,
     ⟨2, 1, .w1s, 0, 0, 1⟩,
     ⟨3, 1, .w1s, 0, 0, 1⟩]⟩,
  ⟨"LNK_CFG", 0x90108, 128, 12, 64, .part, false,
    [⟨0, 2, .ro, 0, 0, 3⟩,
     ⟨2, 1, .ro, 0, 0, 1⟩,
     ⟨3, 1, .ro, 0, 0, 1⟩,
     ⟨4, 7, .ro, 20, 5, 50⟩,
     ⟨12, 16, .ro, 0, 0, 65535⟩,
     ⟨28, 8, .ro, 170, 1, 170⟩,
     ⟨36, 3, .ro, 0, 0, 7⟩]⟩,
  ⟨"LNK_STATUS", 0x90110, 128, 12, 64, .part, false,
    [⟨0, 4, .ro, 0, 0, 15⟩,
     ⟨4, 5, .ro, 0, 0, 31⟩,
     ⟨9, 16, .ro, 0, 0, 65535⟩,
     ⟨25, 1, .ro, 0, 0, 1⟩,
     ⟨26, 1, .ro, 0, 0, 1⟩]⟩,
  ⟨"LNK_FAR", 0x90118, 128, 12, 64, .part, false,
    [⟨0, 32, .ro, 0, 0, 4294967295⟩,
     ⟨32, 4, .ro, 0, 0, 15⟩,
     ⟨36, 1, .ro, 0, 0, 1⟩]⟩,
  ⟨"LNK_CREDIT", 0x90120, 128, 12, 64, .part, false,
    [⟨0, 13, .ro, 0, 0, 8191⟩,
     ⟨13, 13, .ro, 0, 0, 8191⟩,
     ⟨26, 13, .ro, 0, 0, 8191⟩,
     ⟨39, 13, .ro, 0, 0, 8191⟩,
     ⟨52, 8, .ro, 0, 0, 255⟩]⟩,
  ⟨"LNK_ERR", 0x90128, 128, 12, 64, .part, false,
    [⟨0, 16, .rc, 0, 0, 65535⟩,
     ⟨16, 16, .rc, 0, 0, 65535⟩,
     ⟨32, 16, .rc, 0, 0, 65535⟩,
     ⟨48, 8, .rc, 0, 0, 255⟩,
     ⟨56, 8, .rc, 0, 0, 255⟩]⟩,
  ⟨"LNK_EVENT", 0x90130, 128, 12, 32, .part, false,
    [⟨0, 1, .w1c, 0, 0, 1⟩,
     ⟨1, 1, .w1c, 0, 0, 1⟩,
     ⟨2, 1, .w1c, 0, 0, 1⟩,
     ⟨3, 1, .w1c, 0, 0, 1⟩,
     ⟨4, 1, .w1c, 0, 0, 1⟩,
     ⟨5, 1, .w1c, 0, 0, 1⟩,
     ⟨6, 1, .w1c, 0, 0, 1⟩,
     ⟨7, 1, .w1c, 0, 0, 1⟩]⟩,
  ⟨"LNK_FEC_CE_n", 0x90138, 128, 12, 64, .part, false,
    [⟨0, 64, .ro, 0, 0, 18446744073709551615⟩]⟩,
  ⟨"LNK_FLITS_TX_n", 0x90140, 128, 12, 64, .part, false,
    [⟨0, 64, .ro, 0, 0, 18446744073709551615⟩]⟩,
  ⟨"LNK_FLITS_RX_n", 0x90148, 128, 12, 64, .part, false,
    [⟨0, 64, .ro, 0, 0, 18446744073709551615⟩]⟩,
  ⟨"LNK_TRANSIT_n", 0x90150, 128, 12, 64, .part, false,
    [⟨0, 64, .ro, 0, 0, 18446744073709551615⟩]⟩]

/-- The LNK registers. -/
def lnkRows2 : List RegRow := [
  ⟨"LNK_DROP_n", 0x90158, 128, 12, 32, .part, false,
    [⟨0, 32, .rc, 0, 0, 4294967295⟩]⟩,
  ⟨"LNK_SLOT", 0x90800, 8, 64, 64, .device, false,
    [⟨0, 16, .ro, 0, 0, 65535⟩,
     ⟨16, 2, .ro, 0, 0, 3⟩,
     ⟨18, 2, .ro, 0, 0, 3⟩,
     ⟨20, 4, .ro, 0, 0, 15⟩,
     ⟨24, 4, .ro, 0, 0, 15⟩,
     ⟨28, 4, .ro, 0, 0, 15⟩,
     ⟨32, 4, .ro, 0, 0, 15⟩,
     ⟨36, 1, .ro, 0, 0, 1⟩,
     ⟨37, 1, .ro, 0, 0, 1⟩]⟩,
  ⟨"LNK_REACH", 0x90a00, 8, 4, 64, .device, false,
    [⟨0, 32, .ro, 0, 0, 4294967295⟩,
     ⟨32, 1, .ro, 0, 0, 1⟩]⟩]

/-- The RED registers. -/
def redRows : List RegRow := [
  ⟨"RED_GROUP_SEL", 0xa0000, 0, 1, 32, .shared, false,
    [⟨0, 16, .rw, 0, 0, 65535⟩]⟩,
  ⟨"RED_GROUP_INFO", 0xa0008, 0, 1, 64, .device, false,
    [⟨0, 16, .ro, 0, 0, 65535⟩,
     ⟨16, 12, .ro, 0, 0, 4095⟩,
     ⟨28, 12, .ro, 0, 0, 4095⟩,
     ⟨40, 1, .ro, 0, 0, 1⟩,
     ⟨41, 1, .ro, 0, 0, 1⟩,
     ⟨42, 22, .ro, 0, 0, 4194303⟩]⟩,
  ⟨"RED_EVENT", 0xa0100, 32, 4, 32, .part, false,
    [⟨0, 1, .w1c, 0, 0, 1⟩,
     ⟨1, 1, .w1c, 0, 0, 1⟩,
     ⟨2, 1, .w1c, 0, 0, 1⟩,
     ⟨3, 1, .w1c, 0, 0, 1⟩,
     ⟨4, 1, .w1c, 0, 0, 1⟩,
     ⟨5, 1, .w1c, 0, 0, 1⟩,
     ⟨6, 1, .w1c, 0, 0, 1⟩,
     ⟨7, 1, .w1c, 0, 0, 1⟩,
     ⟨8, 1, .w1c, 0, 0, 1⟩,
     ⟨9, 1, .w1c, 0, 0, 1⟩,
     ⟨10, 1, .w1c, 0, 0, 1⟩]⟩,
  ⟨"RED_COUNT", 0xa0108, 32, 4, 64, .part, false,
    [⟨0, 16, .rc, 0, 0, 65535⟩,
     ⟨16, 16, .rc, 0, 0, 65535⟩,
     ⟨32, 16, .rc, 0, 0, 65535⟩,
     ⟨48, 8, .rc, 0, 0, 255⟩,
     ⟨56, 8, .rc, 0, 0, 255⟩]⟩,
  ⟨"RED_TAINT", 0xa0110, 32, 4, 32, .part, false,
    [⟨0, 7, .ro, 0, 0, 127⟩,
     ⟨7, 1, .ro, 0, 0, 1⟩]⟩,
  ⟨"RED_SLOT", 0xa0200, 8, 64, 64, .device, false,
    [⟨0, 2, .ro, 0, 0, 3⟩,
     ⟨2, 1, .ro, 0, 0, 1⟩,
     ⟨3, 4, .ro, 0, 0, 15⟩,
     ⟨7, 1, .ro, 0, 0, 1⟩,
     ⟨8, 8, .ro, 0, 0, 255⟩,
     ⟨16, 12, .ro, 0, 0, 4095⟩,
     ⟨28, 12, .ro, 0, 0, 4095⟩,
     ⟨40, 24, .ro, 0, 0, 16777215⟩]⟩,
  ⟨"RED_ADDER_CHUNKS_p", 0xa0400, 32, 12, 64, .device, false,
    [⟨0, 64, .ro, 0, 0, 18446744073709551615⟩]⟩,
  ⟨"RED_ADDER_BUSY_p", 0xa0408, 32, 12, 64, .device, false,
    [⟨0, 64, .ro, 0, 0, 18446744073709551615⟩]⟩,
  ⟨"RED_ADDER_WAIT_p", 0xa0410, 32, 12, 64, .device, false,
    [⟨0, 64, .ro, 0, 0, 18446744073709551615⟩]⟩]

/-- The REIN registers. -/
def reinRows : List RegRow := [
  ⟨"REIN_CAP", 0xb0000, 0, 1, 32, .device, false,
    [⟨0, 9, .rw, 0, 0, 511⟩,
     ⟨9, 9, .ro, 230, 0, 511⟩,
     ⟨18, 9, .ro, 0, 0, 511⟩]⟩,
  ⟨"REIN_CFG", 0xb0008, 0, 1, 32, .device, false,
    [⟨0, 16, .ro, 4369, 0, 65535⟩,
     ⟨16, 1, .ro, 1, 0, 1⟩,
     ⟨17, 1, .ro, 1, 0, 1⟩]⟩,
  ⟨"REIN_STATUS", 0xb0010, 0, 1, 64, .device, false,
    [⟨0, 11, .ro, 0, 0, 2047⟩,
     ⟨11, 11, .ro, 0, 0, 2047⟩,
     ⟨22, 11, .ro, 0, 0, 2047⟩,
     ⟨33, 11, .ro, 0, 0, 2047⟩,
     ⟨44, 4, .ro, 0, 0, 15⟩,
     ⟨48, 1, .ro, 0, 0, 1⟩,
     ⟨49, 1, .ro, 0, 0, 1⟩,
     ⟨50, 6, .ro, 0, 0, 63⟩]⟩,
  ⟨"REIN_POWER", 0xb0018, 0, 1, 64, .device, false,
    [⟨0, 11, .ro, 0, 0, 2047⟩,
     ⟨11, 11, .ro, 0, 0, 2047⟩,
     ⟨32, 8, .ro, 0, 0, 255⟩,
     ⟨40, 6, .ro, 0, 0, 63⟩,
     ⟨48, 16, .rc, 0, 0, 65535⟩]⟩,
  ⟨"REIN_TELEM_ERR", 0xb0020, 0, 1, 32, .device, false,
    [⟨0, 16, .rc, 0, 0, 65535⟩,
     ⟨16, 4, .ro, 0, 0, 15⟩,
     ⟨20, 1, .w1c, 0, 0, 1⟩]⟩,
  ⟨"REIN_ENERGY_DEV", 0xb0028, 0, 1, 64, .device, false,
    [⟨0, 64, .ro, 0, 0, 18446744073709551615⟩]⟩,
  ⟨"REIN_ARRAY", 0xb0040, 8, 4, 32, .part, false,
    [⟨0, 7, .ro, 64, 0, 127⟩]⟩,
  ⟨"REIN_RAIL", 0xb0080, 8, 14, 64, .device, false,
    [⟨0, 16, .ro, 0, 0, 65535⟩,
     ⟨16, 16, .ro, 0, 0, 65535⟩,
     ⟨32, 8, .ro, 0, 0, 255⟩,
     ⟨40, 1, .ro, 0, 0, 1⟩]⟩,
  ⟨"REIN_ENERGY_PART_n", 0xb0100, 8, 4, 64, .part, false,
    [⟨0, 64, .ro, 0, 0, 18446744073709551615⟩]⟩,
  ⟨"REIN_ENERGY_UNATTR_n", 0xb0120, 8, 4, 64, .part, false,
    [⟨0, 64, .ro, 0, 0, 18446744073709551615⟩]⟩,
  ⟨"REIN_ENERGY_WQ_q", 0xb0200, 8, 64, 64, .part, false,
    [⟨0, 64, .ro, 0, 0, 18446744073709551615⟩]⟩]

/-- The CINCH registers. -/
def cinchRows : List RegRow := [
  ⟨"CINCH_CTRL", 0xc0000, 0, 1, 32, .device, false,
    [⟨0, 1, .rw, 1, 0, 1⟩,
     ⟨8, 8, .rw, 16, 1, 255⟩]⟩,
  ⟨"CINCH_STATUS", 0xc0008, 0, 1, 32, .device, false,
    [⟨0, 1, .ro, 0, 0, 1⟩,
     ⟨1, 4, .ro, 0, 0, 15⟩,
     ⟨5, 4, .ro, 0, 0, 15⟩]⟩,
  ⟨"CINCH_STRETCHED", 0xc0010, 0, 1, 64, .device, false,
    [⟨0, 64, .ro, 0, 0, 18446744073709551615⟩]⟩,
  ⟨"CINCH_TEST", 0xc0018, 0, 1, 32, .device, false,
    [⟨31, 1, .wo, 0, 0, 1⟩]⟩,
  ⟨"CINCH_COUNT_s", 0xc0040, 8, 4, 64, .device, false,
    [⟨0, 32, .rc, 0, 0, 4294967295⟩,
     ⟨32, 6, .ro, 0, 0, 63⟩]⟩,
  ⟨"CINCH_TRIM_s", 0xc0060, 8, 4, 32, .device, false,
    [⟨0, 5, .ro, 0, 0, 31⟩,
     ⟨5, 8, .ro, 0, 0, 255⟩,
     ⟨13, 1, .ro, 0, 0, 1⟩]⟩]

/-- The THM registers. -/
def thmRows : List RegRow := [
  ⟨"THM_TEMP", 0xd0000, 8, 4, 32, .device, false,
    [⟨0, 8, .ro, 0, 0, 255⟩,
     ⟨8, 4, .ro, 0, 0, 15⟩,
     ⟨12, 8, .ro, 0, 0, 255⟩]⟩,
  ⟨"THM_CFG", 0xd0020, 0, 1, 32, .device, false,
    [⟨0, 8, .ro, 100, 85, 105⟩,
     ⟨8, 8, .ro, 97, 0, 255⟩,
     ⟨16, 8, .ro, 95, 85, 105⟩]⟩,
  ⟨"THM_STATUS", 0xd0028, 0, 1, 32, .device, false,
    [⟨0, 1, .ro, 0, 0, 1⟩,
     ⟨1, 1, .ro, 0, 0, 1⟩,
     ⟨2, 1, .ro, 0, 0, 1⟩,
     ⟨3, 11, .ro, 0, 0, 2047⟩]⟩,
  ⟨"THM_THROTTLE_CNT", 0xd0030, 0, 1, 64, .device, false,
    [⟨0, 32, .rc, 0, 0, 4294967295⟩,
     ⟨32, 32, .rc, 0, 0, 4294967295⟩]⟩,
  ⟨"THM_SAVE_STATUS", 0xd0038, 0, 1, 32, .device, false,
    [⟨0, 3, .ro, 5, 0, 7⟩,
     ⟨3, 1, .ro, 0, 0, 1⟩,
     ⟨4, 1, .ro, 0, 0, 1⟩,
     ⟨5, 1, .w1c, 0, 0, 1⟩]⟩,
  ⟨"THM_SAVE_COUNT", 0xd0040, 0, 1, 32, .device, false,
    [⟨0, 16, .rc, 0, 0, 65535⟩,
     ⟨16, 16, .rc, 0, 0, 65535⟩]⟩,
  ⟨"THM_SAVE_TEST", 0xd0048, 0, 1, 32, .device, false,
    [⟨31, 1, .wo, 0, 0, 1⟩]⟩,
  ⟨"THM_SAVE_LAST", 0xd0050, 0, 1, 64, .device, false,
    [⟨0, 16, .ro, 0, 0, 65535⟩,
     ⟨16, 32, .ro, 0, 0, 4294967295⟩,
     ⟨48, 2, .ro, 0, 0, 3⟩,
     ⟨50, 1, .ro, 0, 0, 1⟩,
     ⟨51, 1, .ro, 0, 0, 1⟩]⟩]

/-- The EVREC registers. -/
def evrecRows : List RegRow := [
  ⟨"EVREC_CFG", 0xe0000, 0, 1, 32, .device, false,
    [⟨0, 1, .ro, 0, 0, 1⟩,
     ⟨8, 8, .ro, 16, 1, 255⟩,
     ⟨16, 8, .ro, 16, 1, 255⟩]⟩,
  ⟨"EVREC_STATUS", 0xe0008, 0, 1, 32, .device, false,
    [⟨0, 1, .ro, 0, 0, 1⟩,
     ⟨1, 1, .ro, 0, 0, 1⟩,
     ⟨2, 1, .ro, 0, 0, 1⟩,
     ⟨16, 16, .rc, 0, 0, 65535⟩]⟩,
  ⟨"EVREC_SEQ_HI", 0xe0010, 0, 1, 64, .device, false,
    [⟨0, 64, .ro, 0, 0, 18446744073709551615⟩]⟩,
  ⟨"EVREC_SEQ_LO", 0xe0018, 0, 1, 64, .device, false,
    [⟨0, 64, .ro, 0, 0, 18446744073709551615⟩]⟩,
  ⟨"EVREC_SUPPRESSED", 0xe0020, 0, 1, 32, .device, false,
    [⟨0, 32, .rc, 0, 0, 4294967295⟩]⟩,
  ⟨"EVREC_DROPPED", 0xe0028, 0, 1, 32, .device, false,
    [⟨0, 32, .rc, 0, 0, 4294967295⟩]⟩,
  ⟨"EVREC_LOST", 0xe0030, 0, 1, 32, .device, false,
    [⟨0, 16, .rc, 0, 0, 65535⟩,
     ⟨16, 16, .rc, 0, 0, 65535⟩]⟩,
  ⟨"EVREC_CLEAR", 0xe0038, 0, 1, 32, .device, false,
    [⟨0, 1, .wo, 0, 0, 1⟩,
     ⟨1, 1, .wo, 0, 0, 1⟩,
     ⟨31, 1, .wo, 0, 0, 1⟩]⟩,
  ⟨"EVREC_RATE", 0xe0100, 8, 64, 32, .device, false,
    [⟨0, 16, .rw, 0, 0, 65535⟩,
     ⟨16, 8, .rw, 16, 1, 255⟩,
     ⟨24, 8, .rw, 16, 1, 255⟩]⟩]

/-- The BOOT registers. -/
def bootRows : List RegRow := [
  ⟨"BOOT_STATUS", 0xf0000, 0, 1, 64, .device, false,
    [⟨0, 4, .ro, 0, 0, 15⟩,
     ⟨4, 1, .ro, 0, 0, 1⟩,
     ⟨5, 4, .ro, 0, 0, 15⟩,
     ⟨9, 4, .ro, 0, 0, 15⟩,
     ⟨13, 1, .ro, 0, 0, 1⟩,
     ⟨32, 16, .ro, 0, 0, 65535⟩]⟩,
  ⟨"BOOT_GENERATION", 0xf0008, 0, 1, 64, .device, false,
    [⟨0, 64, .ro, 0, 0, 18446744073709551615⟩]⟩,
  ⟨"BOOT_FW_VERSION", 0xf0010, 0, 1, 64, .device, false,
    [⟨0, 64, .ro, 0, 0, 18446744073709551615⟩]⟩,
  ⟨"BOOT_STAGE_BASE", 0xf0018, 0, 1, 64, .device, false,
    [⟨0, 64, .ro, 0, 0, 18446744073709551615⟩]⟩,
  ⟨"BOOT_STAGE_BYTES", 0xf0020, 0, 1, 64, .device, false,
    [⟨0, 64, .ro, 67108864, 0, 18446744073709551615⟩]⟩,
  ⟨"BOOT_DELTA_GO", 0xf0028, 0, 1, 32, .device, false,
    [⟨31, 1, .wo, 0, 0, 1⟩]⟩,
  ⟨"BOOT_DELTA_STATUS", 0xf0030, 0, 1, 32, .device, false,
    [⟨0, 3, .ro, 0, 0, 7⟩,
     ⟨3, 3, .ro, 0, 0, 7⟩,
     ⟨8, 8, .ro, 0, 0, 255⟩]⟩,
  ⟨"BOOT_UPDATE_GO", 0xf0038, 0, 1, 32, .device, false,
    [⟨31, 1, .wo, 0, 0, 1⟩]⟩,
  ⟨"BOOT_UPDATE_STATUS", 0xf0040, 0, 1, 64, .device, false,
    [⟨0, 3, .ro, 0, 0, 7⟩,
     ⟨8, 8, .ro, 0, 0, 255⟩,
     ⟨32, 32, .ro, 0, 0, 4294967295⟩]⟩,
  ⟨"BOOT_STRAPS", 0xf0048, 0, 1, 32, .device, false,
    [⟨0, 3, .ro, 0, 0, 7⟩,
     ⟨3, 1, .ro, 0, 0, 1⟩,
     ⟨4, 1, .ro, 0, 0, 1⟩]⟩]

/-- The SEC registers. -/
def secRows : List RegRow := [
  ⟨"SEC_STATUS", 0x100000, 0, 1, 64, .device, false,
    [⟨0, 4, .ro, 0, 0, 15⟩,
     ⟨4, 4, .ro, 0, 0, 15⟩,
     ⟨8, 2, .ro, 0, 0, 3⟩,
     ⟨16, 16, .ro, 0, 0, 65535⟩,
     ⟨32, 6, .ro, 0, 0, 63⟩]⟩,
  ⟨"SEC_SERIAL", 0x100008, 0, 1, 64, .device, false,
    [⟨0, 40, .ro, 0, 0, 1099511627775⟩]⟩,
  ⟨"SEC_CMD_NONCE", 0x100010, 0, 1, 64, .device, false,
    [⟨0, 64, .ro, 0, 0, 18446744073709551615⟩]⟩,
  ⟨"SEC_CMD_GO", 0x100018, 0, 1, 32, .device, false,
    [⟨0, 14, .wo, 0, 0, 16383⟩,
     ⟨31, 1, .wo, 0, 0, 1⟩]⟩,
  ⟨"SEC_CMD_STATUS", 0x100020, 0, 1, 32, .device, false,
    [⟨0, 2, .ro, 0, 0, 3⟩,
     ⟨8, 8, .ro, 0, 0, 255⟩]⟩,
  ⟨"SEC_ATTEST_GO", 0x100028, 0, 1, 32, .shared, false,
    [⟨31, 1, .wo, 0, 0, 1⟩]⟩,
  ⟨"SEC_ATTEST_STATUS", 0x100030, 0, 1, 32, .device, false,
    [⟨0, 1, .ro, 0, 0, 1⟩,
     ⟨1, 1, .ro, 0, 0, 1⟩]⟩,
  ⟨"SEC_ID_PUB_i", 0x100040, 8, 8, 64, .device, false,
    [⟨0, 64, .ro, 0, 0, 18446744073709551615⟩]⟩,
  ⟨"SEC_ATTEST_NONCE_w", 0x100080, 8, 4, 64, .shared, false,
    [⟨0, 64, .rw, 0, 0, 18446744073709551615⟩]⟩,
  ⟨"SEC_MEAS_m_w", 0x100100, 8, 32, 64, .device, false,
    [⟨0, 64, .ro, 0, 0, 18446744073709551615⟩]⟩,
  ⟨"SEC_REPORT_WORD_j", 0x100200, 8, 64, 64, .device, false,
    [⟨0, 64, .ro, 0, 0, 18446744073709551615⟩]⟩]

/-- The HOST registers. -/
def hostRows : List RegRow := [
  ⟨"HOST_CFG", 0x110000, 0, 1, 64, .device, false,
    [⟨0, 2, .ro, 0, 0, 2⟩,
     ⟨2, 1, .ro, 0, 0, 1⟩,
     ⟨3, 1, .ro, 0, 0, 1⟩,
     ⟨4, 12, .ro, 0, 0, 4095⟩,
     ⟨16, 6, .ro, 0, 0, 63⟩,
     ⟨22, 2, .ro, 0, 0, 2⟩,
     ⟨32, 32, .ro, 0, 0, 4294967295⟩]⟩,
  ⟨"HOST_MAC", 0x110008, 0, 1, 64, .device, false,
    [⟨0, 48, .ro, 0, 0, 281474976710655⟩]⟩,
  ⟨"HOST_CC_CFG", 0x110010, 0, 1, 64, .device, false,
    [⟨0, 8, .ro, 50, 0, 255⟩,
     ⟨8, 4, .ro, 8, 0, 15⟩,
     ⟨16, 16, .ro, 50, 0, 65535⟩,
     ⟨32, 16, .ro, 10, 0, 65535⟩]⟩,
  ⟨"HOST_ERR", 0x110018, 0, 1, 64, .device, false,
    [⟨0, 16, .rc, 0, 0, 65535⟩,
     ⟨16, 16, .rc, 0, 0, 65535⟩,
     ⟨32, 16, .rc, 0, 0, 65535⟩,
     ⟨48, 16, .rc, 0, 0, 65535⟩]⟩,
  ⟨"HOST_LOCAL_GID_i", 0x110020, 8, 2, 64, .device, false,
    [⟨0, 64, .ro, 0, 0, 18446744073709551615⟩]⟩,
  ⟨"HOST_GID_g_0", 0x111000, 32, 256, 64, .device, false,
    [⟨0, 64, .rw, 0, 0, 18446744073709551615⟩]⟩,
  ⟨"HOST_GID_g_1", 0x111008, 32, 256, 64, .device, false,
    [⟨0, 64, .rw, 0, 0, 18446744073709551615⟩]⟩,
  ⟨"HOST_GID_MAC_g", 0x111010, 32, 256, 64, .device, false,
    [⟨0, 48, .rw, 0, 0, 281474976710655⟩]⟩,
  ⟨"HOST_MR_k_0", 0x114000, 32, 256, 64, .device, false,
    [⟨0, 2, .rw, 0, 0, 3⟩,
     ⟨2, 1, .rw, 0, 0, 1⟩,
     ⟨3, 1, .rw, 0, 0, 1⟩,
     ⟨4, 1, .rw, 0, 0, 1⟩,
     ⟨12, 52, .rw, 0, 0, 4503599627370495⟩]⟩,
  ⟨"HOST_MR_k_1", 0x114008, 32, 256, 64, .device, false,
    [⟨12, 52, .rw, 0, 0, 4503599627370495⟩]⟩,
  ⟨"HOST_MR_k_2", 0x114010, 32, 256, 64, .device, true,
    [⟨0, 8, .ro, 0, 0, 255⟩,
     ⟨8, 24, .ro, 0, 0, 16777215⟩]⟩]

/-- The HOSTQP registers. -/
def hostqpRows : List RegRow := [
  ⟨"HOST_QP_CFG", 0x120000, 32, 2048, 64, .device, false,
    [⟨0, 2, .rw, 0, 0, 2⟩,
     ⟨2, 1, .rw, 0, 0, 1⟩,
     ⟨3, 1, .rw, 0, 0, 1⟩,
     ⟨4, 2, .rw, 0, 0, 3⟩,
     ⟨6, 4, .rw, 14, 0, 15⟩,
     ⟨10, 3, .rw, 7, 0, 7⟩,
     ⟨13, 5, .rw, 16, 1, 16⟩,
     ⟨18, 8, .rw, 0, 0, 255⟩,
     ⟨32, 24, .rw, 0, 0, 16777215⟩]⟩,
  ⟨"HOST_QP_PSN_q", 0x120008, 32, 2048, 64, .device, false,
    [⟨0, 24, .rw, 0, 0, 16777215⟩,
     ⟨32, 24, .rw, 0, 0, 16777215⟩]⟩,
  ⟨"HOST_QP_STAT_q", 0x120010, 32, 2048, 64, .device, false,
    [⟨0, 16, .rc, 0, 0, 65535⟩,
     ⟨16, 16, .rc, 0, 0, 65535⟩,
     ⟨32, 11, .ro, 1600, 0, 2047⟩,
     ⟨43, 3, .ro, 0, 0, 7⟩,
     ⟨48, 16, .rc, 0, 0, 65535⟩]⟩]

/-- The SNAP registers. -/
def snapRows1 : List RegRow := [
  ⟨"SNAP_FLASH_STATUS", 0x130000, 0, 1, 64, .device, false,
    [⟨0, 3, .ro, 0, 0, 7⟩,
     ⟨3, 1, .w1c, 0, 0, 1⟩,
     ⟨4, 12, .ro, 0, 0, 4095⟩]⟩,
  ⟨"SNAP_FLASH_USED", 0x130008, 0, 1, 64, .device, false,
    [⟨0, 64, .ro, 0, 0, 18446744073709551615⟩]⟩,
  ⟨"SNAP_FLASH_CAP", 0x130010, 0, 1, 64, .device, false,
    [⟨0, 64, .ro, 0, 0, 18446744073709551615⟩]⟩,
  ⟨"SNAP_PIN_ID", 0x130018, 0, 1, 64, .shared, false,
    [⟨0, 64, .rw, 0, 0, 18446744073709551615⟩]⟩,
  ⟨"SNAP_PIN_CMD", 0x130020, 0, 1, 32, .shared, false,
    [⟨0, 1, .wo, 0, 0, 1⟩,
     ⟨31, 1, .wo, 0, 0, 1⟩]⟩,
  ⟨"SNAP_TWIN_STATUS", 0x130028, 0, 1, 32, .device, false,
    [⟨0, 3, .ro, 0, 0, 7⟩,
     ⟨3, 1, .ro, 0, 0, 1⟩,
     ⟨8, 2, .ro, 0, 0, 3⟩]⟩,
  ⟨"SNAP_RESTORE_SRC", 0x130030, 0, 1, 64, .shared, false,
    [⟨0, 2, .rw, 0, 0, 3⟩,
     ⟨2, 2, .rw, 0, 0, 3⟩,
     ⟨4, 1, .rw, 0, 0, 1⟩,
     ⟨8, 11, .rw, 0, 0, 2047⟩,
     ⟨32, 32, .rw, 0, 0, 4294967295⟩]⟩,
  ⟨"SNAP_RESTORE_ADDR", 0x130038, 0, 1, 64, .shared, false,
    [⟨0, 64, .rw, 0, 0, 18446744073709551615⟩]⟩,
  ⟨"SNAP_RESTORE_GO", 0x130040, 0, 1, 32, .shared, false,
    [⟨0, 2, .wo, 0, 0, 3⟩,
     ⟨8, 14, .wo, 0, 0, 16383⟩,
     ⟨31, 1, .wo, 0, 0, 1⟩]⟩,
  ⟨"SNAP_RESTORE_STATUS", 0x130048, 0, 1, 32, .device, false,
    [⟨0, 3, .ro, 0, 0, 7⟩,
     ⟨8, 8, .ro, 0, 0, 255⟩]⟩,
  ⟨"SNAP_HELD", 0x130050, 0, 1, 32, .device, false,
    [⟨0, 1, .ro, 0, 0, 1⟩,
     ⟨1, 1, .ro, 0, 0, 1⟩,
     ⟨2, 1, .ro, 0, 0, 1⟩,
     ⟨3, 1, .ro, 0, 0, 1⟩]⟩,
  ⟨"SNAP_FLASH_CFG", 0x130058, 0, 1, 32, .device, false,
    [⟨0, 16, .ro, 0, 0, 65535⟩,
     ⟨16, 1, .ro, 0, 0, 1⟩]⟩]

/-- The SNAP registers. -/
def snapRows2 : List RegRow := [
  ⟨"SNAP_SADDLE_s", 0x130080, 16, 4, 64, .device, false,
    [⟨19, 45, .ro, 0, 0, 35184372088831⟩]⟩,
  ⟨"SNAP_SLOT_BYTES_s", 0x130088, 16, 4, 64, .device, false,
    [⟨0, 64, .ro, 0, 0, 18446744073709551615⟩]⟩,
  ⟨"SNAP_CFG", 0x130100, 128, 4, 32, .part, false,
    [⟨0, 3, .ro, 0, 1, 4⟩,
     ⟨3, 1, .ro, 1, 0, 1⟩,
     ⟨4, 4, .ro, 0, 0, 15⟩,
     ⟨8, 7, .ro, 25, 5, 100⟩,
     ⟨16, 8, .ro, 10, 2, 255⟩]⟩,
  ⟨"SNAP_COUNT_FLOOR", 0x130108, 128, 4, 32, .part, false,
    [⟨0, 22, .rw, 0, 0, 4194303⟩]⟩,
  ⟨"SNAP_MIRROR_BASE_n", 0x130110, 128, 4, 64, .part, false,
    [⟨12, 52, .ro, 0, 0, 4503599627370495⟩]⟩,
  ⟨"SNAP_MIRROR_BUF_BYTES_n", 0x130118, 128, 4, 64, .part, false,
    [⟨0, 64, .ro, 0, 0, 18446744073709551615⟩]⟩,
  ⟨"SNAP_MIRROR_SHARD_BYTES_n", 0x130120, 128, 4, 64, .part, false,
    [⟨0, 64, .ro, 0, 0, 18446744073709551615⟩]⟩,
  ⟨"SNAP_MIRROR_STEP_n_0", 0x130128, 128, 4, 64, .part, false,
    [⟨0, 62, .ro, 0, 0, 4611686018427387903⟩,
     ⟨62, 2, .ro, 0, 0, 3⟩]⟩,
  ⟨"SNAP_MIRROR_STEP_n_1", 0x130130, 128, 4, 64, .part, false,
    [⟨0, 62, .ro, 0, 0, 4611686018427387903⟩,
     ⟨62, 2, .ro, 0, 0, 3⟩]⟩,
  ⟨"SNAP_OUT_STEP_n", 0x130138, 128, 4, 64, .part, false,
    [⟨0, 64, .ro, 0, 0, 18446744073709551615⟩]⟩,
  ⟨"SNAP_MODE_n", 0x130140, 128, 4, 32, .part, false,
    [⟨0, 2, .ro, 1, 0, 3⟩,
     ⟨2, 1, .rw, 0, 0, 1⟩]⟩,
  ⟨"SNAP_HANDBACK", 0x130148, 128, 4, 64, .part, false,
    [⟨0, 1, .w1s, 0, 0, 1⟩,
     ⟨1, 1, .w1c, 0, 0, 1⟩,
     ⟨2, 1, .w1c, 0, 0, 1⟩,
     ⟨6, 58, .rw, 0, 0, 288230376151711743⟩]⟩]

/-- The SNAP registers. -/
def snapRows3 : List RegRow := [
  ⟨"SNAP_EVALWIN_BASE_n", 0x130150, 128, 4, 64, .part, false,
    [⟨12, 52, .rw, 0, 0, 4503599627370495⟩]⟩,
  ⟨"SNAP_EVALWIN_LIMIT_n", 0x130158, 128, 4, 64, .part, false,
    [⟨12, 52, .rw, 0, 0, 4503599627370495⟩]⟩,
  ⟨"SNAP_EVALWIN_CTRL_n", 0x130160, 128, 4, 32, .part, false,
    [⟨0, 1, .rw, 0, 0, 1⟩,
     ⟨1, 1, .w1c, 0, 0, 1⟩]⟩,
  ⟨"SNAP_STOP_STAT_n", 0x130168, 128, 4, 64, .part, false,
    [⟨0, 32, .ro, 0, 0, 4294967295⟩,
     ⟨32, 16, .rc, 0, 0, 65535⟩]⟩,
  ⟨"SNAP_SLOT_STATE_i", 0x130400, 32, 16, 32, .part, false,
    [⟨0, 3, .ro, 0, 0, 7⟩,
     ⟨3, 1, .ro, 0, 0, 1⟩,
     ⟨4, 1, .ro, 0, 0, 1⟩]⟩,
  ⟨"SNAP_SLOT_ID_i", 0x130408, 32, 16, 64, .part, false,
    [⟨0, 64, .ro, 0, 0, 18446744073709551615⟩]⟩,
  ⟨"SNAP_SLOT_STEP_i", 0x130410, 32, 16, 64, .part, false,
    [⟨0, 64, .ro, 0, 0, 18446744073709551615⟩]⟩]

/-- Every register of control space but the event log. -/
def regTable : List RegRow :=
  ctlRows1 ++ ctlRows2 ++ ctlRows3 ++ strmRows1 ++ strmRows2 ++ aryRows1 ++ aryRows2 ++ teRows ++ skvRows ++ hsmRows ++ senRows ++ lnkRows1 ++ lnkRows2 ++ redRows ++ reinRows ++ cinchRows ++ thmRows ++ evrecRows ++ bootRows ++ secRows ++ hostRows ++ hostqpRows ++ snapRows1 ++ snapRows2 ++ snapRows3

/-- Whether the family holds an instance at this offset (R418). -/
def RegRow.holds (r : RegRow) (off : Nat) : Bool :=
  if r.count ≤ 1 then off == r.base
  else decide (r.base ≤ off) && (off - r.base) % r.stride == 0 && decide ((off - r.base) / r.stride < r.count)

/-- The instance index at this offset. -/
def RegRow.index (r : RegRow) (off : Nat) : Nat :=
  if r.count ≤ 1 then 0 else (off - r.base) / r.stride

/-- The register family that the index assigns to this offset, if any (R419). -/
def regAt (off : Nat) : Option RegRow := regTable.find? (fun r => r.holds off)

/-- The reset value of the register at this offset: each field at the value its Reset column gives (R8). -/
def RegRow.resetValue (r : RegRow) (off : Nat) : Nat :=
  r.fields.foldl (fun acc f => acc + f.reset * 2 ^ f.lo) (if r.byIndex then r.index off else 0)

/-- What a register that nothing has changed since reset holds. -/
def regDefault (off : Nat) : Nat :=
  match regAt off with
  | some r => r.resetValue off
  | none => 0

end Sys2Proof.Machine
end

