-- ==== Sys2Proof/Machine/Sparse.lean ====
section
/-!
DEFINITION. Sparse storage by key in one canonical form: keys strictly rising, and no entry equal to what an unlisted
key reads as.  Equal contents are therefore equal lists.  Every indexed piece of the machine's state (registers, HBM
bytes, contexts, slots, queues) is held this way.
-/
namespace Sys2Proof.Machine

/-- What the store holds at key k; d says what an unlisted key reads as. -/
def Sparse.get {α : Type} (d : Nat → α) : List (Nat × α) → Nat → α
  | [], k => d k
  | e :: m, k => if e.1 = k then e.2 else Sparse.get d m k

/-- The store without key k. -/
def Sparse.erase {α : Type} : List (Nat × α) → Nat → List (Nat × α)
  | [], _ => []
  | e :: m, k => if e.1 = k then Sparse.erase m k else e :: Sparse.erase m k

/-- Insert an entry in front of the first larger key. -/
def Sparse.insert {α : Type} : List (Nat × α) → Nat → α → List (Nat × α)
  | [], k, v => [(k, v)]
  | e :: m, k, v => if k < e.1 then (k, v) :: e :: m else e :: Sparse.insert m k v

/-- Write v at key k, keeping the canonical form: writing the default removes the entry. -/
def Sparse.put {α : Type} [DecidableEq α] (d : Nat → α) (m : List (Nat × α)) (k : Nat) (v : α) : List (Nat × α) :=
  if v = d k then Sparse.erase m k else Sparse.insert (Sparse.erase m k) k v

/-- The canonical form. -/
abbrev Sparse.wf {α : Type} [DecidableEq α] (d : Nat → α) (m : List (Nat × α)) : Prop :=
  (m.map Prod.fst).Pairwise (· < ·) ∧ ∀ e ∈ m, e.2 ≠ d e.1

/-- Write a run of values at consecutive keys. -/
def Sparse.putAll {α : Type} [DecidableEq α] (d : Nat → α) (m : List (Nat × α)) (k : Nat) : List α → List (Nat × α)
  | [] => m
  | v :: vs => Sparse.putAll d (Sparse.put d m k v) (k + 1) vs

/-- Read a run of n values at consecutive keys. -/
def Sparse.getAll {α : Type} (d : Nat → α) (m : List (Nat × α)) (k : Nat) : Nat → List α
  | 0 => []
  | n + 1 => Sparse.get d m k :: Sparse.getAll d m (k + 1) n

end Sys2Proof.Machine
end

