-- ==== Sys2Proof/Machine/State.lean ====
section
/-!
DEFINITION. The state of the device: every register of control space, HBM, the tables, queues, buffers, engines, ports
and sequencers the spec gives it, as plain data, and the queue of waiting commands.  A register's one home is regs; a
structure below holds only what no register shows.
-/
namespace Sys2Proof.Machine

/-! ### Descriptors (chapter 6) -/

/-- A data descriptor's fields (R136). -/
structure Desc where
  start : Nat
  strides : List Int
  counts : List Nat
  fmtCode : Nat
  dims : Nat
  skew : Nat
  rCode : Nat
  x8 : Bool
  kind : Nat
  planes : Bool
  xpose : Bool
  pf : Bool
  pfTiles : Nat
  seq : Nat
deriving DecidableEq, Repr

/-- A plane descriptor's fields (R138). -/
structure Plane where
  qBase : Nat
  tBase : Nat
  chunks : Nat
deriving DecidableEq, Repr

/-! ### The contract's state (chapter 2) -/

/-- One occupied slot of the operation table (R30, R31); its status word is CTL_OPSTAT_n. -/
structure Op where
  wq : Nat
  index : Nat                     -- running ring index of the item
  item : List Byte                -- the 128 bytes of the work item
  stamp : Nat                     -- stamped step (R35)
  admitNo : Nat                     -- admission number: the total order of R21
  met0 : Bool                     -- wait 0 met; once met it is not re-examined (R27)
  met1 : Bool
  fences : List Nat               -- admission numbers of the fences that still order it (R27)
  stepFence : Option Nat          -- APPLY: the open STEP fence it waits for (R37)
  tIssue : Nat                    -- 1 + the CTLCLK count at first issue; 0 before it
  done : Option Nat               -- result code once every side effect is made (R32)
  detail : Nat
  flags : Nat                     -- completion-record flags without the phase bit
  layer : Option Nat              -- ladder instance that holds the item (R193, R194)
  listed : Bool                   -- an item of a widen list
  skip : Bool                     -- a queued item of a layer that runs its widen list instead: does no work (R197)
  told : Bool                     -- it has raised its ladder trigger (R192)
  block : List Byte               -- the program or hyperparameter block that admission read (R109, R115, R221)
  used : List Nat                 -- stream contexts it has consumed a descriptor of (R135)
  outs : List (Nat × Nat)         -- output runs it has taken: address and bytes, undefined after an abort (R34)
  got : List (Nat × List (Desc × Option Plane))  -- descriptors a STREAM has taken so far: 0 source, 1 destination (R140)
deriving DecidableEq, Repr

/-- A completion record before its phase bit (R40). -/
structure CplRec where
  tag : Nat
  wq : Nat
  opcode : Nat
  result : Nat
  flags : Nat
  slot : Nat
  step : Nat
  tIssue : Nat
  tRetire : Nat
  detail : Nat
deriving DecidableEq, Repr

/-- A completion queue (0 to 63) or notice queue (64 to 68): producer index and records held on chip (R40, R41). -/
structure CqState where
  prod : Nat
  held : List CplRec
  notices : List (List Byte)      -- notices held while their queue pair is not READY (R353)
deriving DecidableEq, Repr

/-- What replay takes from a step record in place of live state (R202, R203). -/
structure Replay where
  step : Nat
  rngStep : Nat
  seed : Nat
  numpol : Nat
  localScope : Bool
  rungs : List Byte
  log : List (List Byte)          -- logged items not yet admitted, in order
  scaleTable : List Byte          -- the recorded agreed scale tables
  members : List Nat              -- the recorded members in ring order
  ringTables : List Byte          -- the recorded ring tables
deriving DecidableEq, Repr

/-- Bookkeeping of one partition's contract. -/
structure PartState where
  rr : Nat                        -- the queue after which round-robin admission continues (R21)
  lastStepFence : Option Nat      -- admission number of the latest STEP fence since reset or restore (R37)
  closedStep : Option Nat         -- stamp of the latest STEP fence that closed (R36)
  started : Bool                  -- the partition has started (R369)
  paused : Bool                   -- admission paused by a delta in WAITING (R372)
  replay : Option Replay          -- the record being replayed (R202)
deriving DecidableEq, Repr

structure Ctl where
  ops : List (Nat × Option Op)    -- the 4,096 slots; unlisted: unoccupied
  nextAdmit : Nat
  parts : List (Nat × PartState)
  cqs : List (Nat × CqState)
  turns : List (Nat × Nat)        -- queue last granted, by 4 × partition + class (R38)
deriving DecidableEq, Repr

/-! ### The event recorder (chapter 15) -/

/-- One record of the log (R390); its CRC is computed when it is read. -/
structure EvRec where
  seq : Nat
  code : Nat
  severity : Nat
  flags : Nat
  instNo : Nat
  step : Nat
  time : Nat
  payload : List Byte
  sramBad : Bool                  -- the slot reads with an uncorrectable SRAM error (R398)
  counted : Bool                  -- that error has been counted for this record
deriving DecidableEq, Repr

/-- An event on its way to the write engine (R388). -/
structure Ev where
  code : Nat
  part : Option Nat
  cantle : Bool
  instNo : Nat
  payload : List Byte
  time : Nat
  notice : List Nat               -- notice queues the raising rule names, beside the code's Notice column
deriving DecidableEq, Repr

/-- A code's token bucket (R395): level in units of 1/475,000 token at CTLCLK count at, and what it suppressed. -/
structure Bucket where
  level : Nat
  at_ : Nat
  suppressed : Nat
  tFirst : Nat
  tLast : Nat
  maxSev : Nat
  lastFlags : Nat
  lastInst : Nat
  used : Bool                     -- a record or event of the code has touched the bucket since reset
deriving DecidableEq, Repr

structure Recorder where
  slots : List (Nat × Option EvRec)
  nextSeq : Nat
  ring : Nat                      -- next circulating slot under SPLIT, 4,096 to 32,767
  intake0 : List Ev               -- Pommel's intake, oldest first
  intake1 : List Ev               -- Cantle's
  lost0 : Nat                     -- lost since the last EV-0x0C02 of the half
  lost1 : Nat
  buckets : List (Nat × Bucket)
deriving DecidableEq, Repr

/-! ### The host port (chapter 14) -/

/-- What HP puts on the wire. -/
inductive HpMsg where
  | write (qp rkey addr : Nat) (data : List Byte) (imm : Option Nat)
  | readReq (qp rkey addr len : Nat)
  | send (qp : Nat) (imm : Option Nat) (data : List Byte)
  | ack (qp psn : Nat)
  | nak (qp psn : Nat) (kind : NakKind)
  | readResp (qp psn : Nat) (data : List Byte)
  | cnp (qp : Nat)
  | arpReply (toMac toIp : Nat)
  | neighbourAdvert (toMac : Nat) (toIp : List Byte)
deriving DecidableEq, Repr

/-- An unacknowledged request: first PSN, packets, message, and for a READ where its response lands. -/
structure HpReq where
  psn : Nat
  packets : Nat
  msg : HpMsg
  dest : Nat
deriving DecidableEq, Repr

/-- What a queue pair holds beside its registers (R353, R354). -/
structure QpState where
  tx : List HpReq                 -- unacknowledged requests, oldest first
  tries : Nat                     -- failed retransmissions without progress
  alphaNum : Nat                  -- the factor alpha as alphaNum / 2^alphaExp
  alphaExp : Nat
  rateNum : Nat                   -- send rate in 100 Mb/s units as rateNum / rateDen
  rateDen : Nat
  lastCnp : Option Nat            -- CTLCLK count of the last notification sent
  since : Nat                     -- CTLCLK count of the latest progress of its requests (R353)
  rateAt : Nat                    -- CTLCLK count of the latest change of its rate (R354)
deriving DecidableEq, Repr

structure Hp where
  up : Bool
  qps : List (Nat × QpState)
  out : List HpMsg                -- what HP has sent, oldest first
deriving DecidableEq, Repr

/-! ### Start-up, trust and the fuses (chapter 14) -/

/-- One-time fuses and what is fixed in the part. -/
structure Fuses where
  svn : Nat                       -- fused security version, 0 to 63 (R366)
  ownerHash : List (List Byte)    -- four owner-key hashes (R382)
  ownerValid : Nat                -- bit per slot
  ownerRevoked : Nat              -- bit per slot
  serial : Nat
  mac : Nat
  romDigest : List Byte
  idPub : List Byte               -- the identity public key (R379)
  repairs : List (Nat × Nat × Nat)  -- fused array repairs: array, block, physical row (R91)
deriving DecidableEq, Repr

/-- Who holds the shared sequencer of R386. -/
inductive SeqUse where
  | delta | update | command | restore
deriving DecidableEq, Repr

/-- The recovery binding of QP2 (R378). -/
structure RecoveryBind where
  qpn : Nat
  psn : Nat
  nonce : List Byte
  lastUsed : Nat
deriving DecidableEq, Repr

structure Boot where
  nor : List (Nat × Byte)         -- the configuration NOR; unlisted bytes read 0xFF (erased)
  partitions : Nat                -- partitions of the running image, 0 before one runs
  runDir : List Byte              -- the running directory copy
  runCopy : Nat                   -- which NOR copy it came from
  slots : List (Nat × Nat)        -- active section slot per target 0 to 4
  seqUse : Option SeqUse          -- holder of the shared sequencer (R386)
  deltaSection : List Byte        -- the staged section an accepted delta applies
  deltaDir : List Byte
  keptImage : List (Nat × Byte)   -- the running image kept in HBM during an update (R374)
  newDir : List Byte              -- the directory an update wrote
  recovery : Option RecoveryBind
  window : List (Nat × Byte)      -- the recovery window in the tile stores of CS0 (R377)
  windowKey : Nat
  recoveryAt : Option Nat         -- CTLCLK count of a DONE with OK: the device resets itself 10 ms later
  leadClaimed : Bool              -- a control processor holds the lead lease: the renewal watch runs (R319, R367)
  renewedAt : Nat                 -- CTLCLK count of the latest renewal (R319)
  cppRefused : Bool               -- CPP's claims are refused until reset (R367)
  updateStaged : List (Nat × Byte) -- the staged image of an update
deriving DecidableEq, Repr

structure Sec where
  keys : List (Nat × List Byte)   -- SM4 key slots; unlisted: empty (R385)
  reports : Nat                   -- attestation reports since reset (R381)
  attestNonce : List Byte         -- nonce of the report being formed
deriving DecidableEq, Repr

/-! ### Streams and prefetch (chapter 6) -/

/-- A stream context (R130), with what the stream engines hold for it: descriptors fetched into pool slots, the
operations bound to it in admission order, and the step of its latest binding (R183). -/
structure Ctx where
  ringBase : Nat
  ringLog2 : Nat
  state : Nat                     -- 0 CLOSED, 1 OPEN, 2 STALE
  partition : Nat
  dir : Nat                       -- 0 source, 1 destination
  minSlots : Nat
  maxSlots : Nat
  head : Nat
  tail : Nat
  position : Nat
  held : Nat
  boundSlot : Nat                 -- 0xFFFF: none
  waitSince : Nat
  bytes : Nat
  rngPos : Nat
  rngStep : Option Nat
  fetched : List (List (Nat × Option (List Byte)))  -- bursts held, oldest first: their entries not yet consumed; none: poison
  granted : Nat                   -- slots granted for transfers whose data have not arrived (R148)
  queue : List Nat                -- admission numbers of the operations bound and not yet served, oldest first
  waitKind : Nat                  -- kind of space waited for (R150)
  waitTold : Bool                 -- the present wait has been reported
  waitStopped : Option Nat        -- CTLCLK count at which the wait clock stopped, while it is stopped (R150)
  waitPaused : Nat                -- CTLCLK cycles the clock has stood still in the present wait
deriving DecidableEq, Repr

/-- The prefetch half of one array: the claim of R152. -/
structure PfClaim where
  slot : Nat
  admitNo : Nat
  tiles : Nat                     -- stationary tiles to fill
deriving DecidableEq, Repr

structure Strm where
  ctxs : List (Nat × Ctx)
  claims : List (Nat × Option PfClaim)   -- per array
  poolTurns : List (Nat × Nat)    -- context last granted an unreserved slot, by 4 × stack + class (R149)
deriving DecidableEq, Repr

/-! ### Stacked memory (chapter 9) -/

structure Hsm where
  retrainWanted : List (Nat × Bool)    -- channels with a pending retraining (R226)
  retrainSince : List (Nat × Nat)      -- CTLCLK count at which a retraining began
  ueTimes : List (Nat × List Nat)      -- per channel, CTLCLK counts of the sectors poisoned in the last hour (R227)
  trainTemp : List (Nat × Nat)         -- stack temperature at a channel's last training (R226)
  unreadable : List (Nat × Bool)       -- channels that failed outright: their data cannot be read (R229)
  scrubAt : List (Nat × Nat)           -- next sector of the patrol, per channel (R211)
deriving DecidableEq, Repr

/-! ### Matrix arrays and tile engines (chapters 4 and 5) -/

/-- A MATMUL between its issue and its retirement (R88): shape, formats, descriptors, and what has been written. -/
structure MmRun where
  admitNo : Nat
  m : Nat
  kLen : Nat                      -- reduction length K
  n : Nat                         -- output width N
  chunksK : Nat
  tilesN : Nat
  mode : Nat
  wFmt : Nat                      -- stationary format code
  xFmt : Nat                      -- streaming format code
  outFmt : Nat
  stoch : Bool
  accumulate : Bool
  fixed : Bool
  heritage : Bool
  xd : Desc
  xp : Option Plane
  wd : Desc
  wp : Option Plane
  od : Desc
  outp : Option Plane
  outCtx : Nat
  rngBase : Nat
  epi : List Nat                  -- instruction words of the epilogue; empty: none
  epiConsts : List Word32
  eligible : List Nat             -- arrays, ascending, as taken at issue
  written : List Nat              -- 128-row output tiles written: unit × 64 + tile of the unit
  units : Nat
  awlTiles : List Nat             -- sampled local tiles not yet checked (R187)
  awlSums : List (Nat × Word32)   -- captured final sums: local tile × 16,384 + 128 × row + column (R124)
  awlParts : List (Nat × Nat × List Val)  -- shares checked: tile, share, breach ratios (R189, R190)
deriving DecidableEq, Repr

/-- One MATMUL's share on an array: units still to run, the head being the current one, and its next pass. -/
structure ArrRun where
  slot : Nat
  admitNo : Nat
  units : List Nat
  pass : Nat
deriving DecidableEq, Repr

/-- A pass by its MATMUL, unit and number within the unit (R106). -/
structure PassId where
  slot : Nat
  admitNo : Nat
  unit : Nat
  pass : Nat
deriving DecidableEq, Repr

/-- A started pass (R81), with the values that its swap copies from shadow to active registers (R77). -/
structure Flight where
  id : PassId
  start : Nat                     -- ARRCLK cycle S
  rows : Nat
  inject : Option (Nat × Nat × Nat)  -- injected error: kind, row, column (R426)
  cells : List (Nat × BitVec 16)  -- stationary values by 512 × k + n
deriving DecidableEq, Repr

/-- A stirrup segment of one pass (R75) and the scales placed for it (R105, R142): bytes by logical row × 4,096 + slot
byte; the elements written, as row m × 1,024 + k; streaming scales by m and by m div 128; stationary scales by column. -/
structure Seg where
  id : PassId
  bytes : List (Nat × Byte)
  elems : List Nat
  qx : List Nat
  tx : List Word32
  qw : List Nat
  tw : List Word32
deriving DecidableEq, Repr

/-- A stationary tile (R76): element bits by 512 × k + n. -/
structure Staged where
  id : PassId
  cells : List (Nat × Nat)
deriving DecidableEq, Repr

/-- Attempts of a pass that has faulted, with where its latest fault was (R97). -/
structure Attempt where
  id : PassId
  count : Nat
  lastRow : Option Nat
  lastCol : Option Nat
deriving DecidableEq, Repr

/-- An allocated slice of the accumulator area (R103, R107), alike in the sixteen engines of the stack: one 128-row block
of a copy of a column tile's running sums, and the last chunk a retired pass folded into it. -/
structure AccSlice where
  slot : Nat
  admitNo : Nat
  unit : Nat
  tile : Nat                      -- column tile within the unit, 0 or 1
  copy : Nat
  block : Nat
  chunk : Option Nat
deriving DecidableEq, Repr

/-- A converted 128-row tile in the output buffers of the present data half (R111): what its stream has to write. -/
structure OutTile where
  id : PassId                     -- its unit
  tile : Nat
  ctx : Nat
  bytes : Nat                     -- of elements
  elems : Nat
  writes : List (Nat × List Byte)
deriving DecidableEq, Repr

structure ArrState where
  runs : List ArrRun
  cur : Option Nat                -- admission number of the MATMUL granted the array
  turn : Nat                      -- queue of the MATMUL last granted it (R38)
  flight : List Flight            -- at most three, oldest first
  segs : List Seg                 -- at most three
  staged : List Staged            -- at most three
  pf : List Staged                -- tiles in the prefetch half (R151)
  own : List Staged               -- prefetched tiles in the present half after the swap (R154)
  due : List PassId               -- claimed tiles still to fill after the swap (R154)
  shadow : List (Nat × BitVec 16) -- shadow registers by 512 × k + n (R72)
  active : List (Nat × BitVec 16) -- active registers as the latest swap leaves them (R77)
  loading : Option (PassId × Nat) -- the tile load in progress or done for the next pass, and its start cycle L
  nextLoad : Nat                  -- earliest ARRCLK cycle of the next tile load (R78)
  nextStart : Nat                 -- earliest cycle of the next pass start (R81)
  busyEnd : Nat                   -- cycle after the last one counted in ARY_BUSY_n
  slices : List (Nat × Option AccSlice)  -- the 320 slices (R103)
  store : List (Nat × Option Word32)  -- accumulator words by slice × 65,536 + row of the block × 512 + column of the tile
  finals : List PassId            -- units whose last chunk of every tile has folded, by unit
  outBuf : List OutTile           -- oldest first
  attempts : List Attempt
  repair : List (Nat × Nat × Nat) -- pending field repairs, at most one a block: block, physical row, source (R91)
  inject : Option (Nat × Nat × Nat)  -- error to inject into the next pass (R426)
  redo : List PassId              -- abandoned or discarded passes to reissue first, in order (R96, R99)
deriving DecidableEq, Repr

/-- An input or output context of a running KERNEL: the addresses of its elements in iteration order. -/
structure KCtx where
  ctx : Nat
  fmtCode : Nat
  bcast : Bool
  need : Nat                      -- elements its descriptors have to cover
  locs : List Nat                 -- of the descriptors taken so far
  rngBase : Nat
deriving DecidableEq, Repr

/-- A KERNEL between issue and retirement (R113). -/
structure KernRun where
  admitNo : Nat
  words : List Nat
  consts : List Word32
  params : List Word32
  rowLen : Nat
  sweeps : Nat
  width : Nat
  elements : Nat
  heritage : Bool
  begun : Bool                    -- a vector has retired (R115)
  ins : List (Option KCtx)
  outs : List (Option KCtx)
deriving DecidableEq, Repr

/-- A task of an engine (R112): kind 0 an engine's share of a KERNEL, 1 a unit's epilogue, 2 an awl recompute. -/
structure Task where
  kind : Nat
  slot : Nat
  admitNo : Nat
  unit : Nat                      -- the unit of an epilogue, the tile of an awl recompute
  rows : List Nat                 -- rows still to run, the head in progress; vectors of an epilogue; share of a recompute
  sweep : Nat
  vec : Nat                       -- vector slot within the sweep
  pos : Nat                       -- next instruction of the sweep
  regs : List (Nat × List Word32)
  stores : List (Nat × Nat × Nat)
  sums : List (Nat × Nat × Word32)
  sat : Nat
  nonfin : Nat
  conv : Nat
  scalars : List (Nat × Word32)
  attempts : Nat                  -- re-executions of the present vector (R126)
  rowBuf : Option (List (List Nat))  -- row buffer: the row's elements by input, as they arrived (R122)
deriving DecidableEq, Repr

structure Engine where
  tasks : List Task               -- resident, at most 8
  waiting : List Task             -- beyond the eighth
  last : Option (Nat × Nat × Nat) -- the task that ran last: kind, admission number, unit (R112)
  ceTimes : List Nat              -- CTLCLK counts of the corrected errors of the last second (R127)
deriving DecidableEq, Repr

/-- A switch-in in progress or done (R127): target engine within the stack and trigger. -/
structure Spare where
  target : Nat
  trigger : Nat
deriving DecidableEq, Repr

structure Compute where
  mm : List (Nat × Option MmRun)      -- by operation-table slot
  arrays : List (Nat × ArrState)
  kern : List (Nat × Option KernRun)  -- by slot
  engines : List (Nat × Engine)
  spares : List (Nat × Option Spare)
  keepRepairs : List (Nat × Nat × Nat)  -- field repairs the lead records for the next start-up: array, block, row (R92)
  keepSwitches : List (Nat × Nat)       -- spare switches it records: stack, engine within it (R127)
deriving DecidableEq, Repr


/-! ### Numerical health (chapter 8) -/

/-- One open layer instance (R193 to R197), named by the admission number of its first item. -/
structure LadInst where
  part : Nat
  entry : Nat                     -- index in the ladder table
  step : Nat
  wq : Nat                        -- queue of its latest queued item
  count : Nat                     -- queued items admitted
  items : List Nat                -- admission numbers of its queued items
  toAdmit : List Nat              -- addresses of widen-list items not yet admitted, in order
  listItems : List Nat            -- admission numbers of widen-list items
  rung : Nat                      -- rung whose results are being formed
  trig : Bool                     -- a trigger awaits the end of its items
  bad : Bool                      -- an item failed or was aborted: the instance does not rise (R199)
  ended : List Nat                -- admission numbers of items whose own work has ended (R194)
  rose : Bool
deriving DecidableEq, Repr

/-- A MATMUL counted toward the awl's tile numbering (R187): its shape; columns once its descriptors were taken. -/
structure AwlRow where
  part : Nat
  stamp : Nat
  admitNo : Nat
  m : Nat
  nTiles : Nat
  cols : Option Nat
deriving DecidableEq, Repr

/-- What a step gathers for its record (R201). -/
structure StepBook where
  part : Nat
  step : Nat
  log : List (List Byte)          -- admission log entries, in order
  dataPos : Nat
  rungs : List Byte
  rise : Bool
  voids : Nat                     -- buckets reduced with a lowered divisor
  voidSent : Bool
  discarded : Bool
  wideFirst : Bool
  scales : List Byte              -- the agreed scale tables its buckets used, in issue order
  closed : Bool                   -- the fence has closed
deriving DecidableEq, Repr

structure Health where
  insts : List (Nat × Option LadInst)
  awl : List AwlRow
  books : List StepBook
deriving DecidableEq, Repr

/-! ### Ports (chapter 10) -/

/-- A packet (R238). -/
structure Packet where
  job : Nat
  kind : Nat
  kflags : Nat
  dest : Nat
  src : Nat
  kinfo : Nat
  body : List Byte
deriving DecidableEq, Repr

/-- A packet waiting to be sent, or sent and not wholly acknowledged: its VC, when it was queued, the operation that
sent it, which fails when the packet cannot be delivered (R257), and for a forwarded one the port it came in by, whose credits
return when it leaves (R255). -/
structure TxPacket where
  vc : Nat
  pkt : Packet
  since : Nat
  owner : Option Nat
  via : Option Nat
deriving DecidableEq, Repr

/-- What one Adepin port holds beside its registers. -/
structure PortState where
  expSeq : Nat                    -- expected seq of the next DATA flit (R243)
  nakSent : Bool                  -- a nak has been sent for expSeq
  unacked : Nat                   -- flits accepted since ack_seq was last sent
  txSeq : Nat                     -- seq of the next new DATA flit
  retry : List (Nat × Nat × TxPacket)  -- sent packets not wholly acknowledged, oldest first: first unacknowledged seq, flits from it on
  replayFrom : Nat
  replayFails : Nat               -- failed replays from replayFrom (R244)
  owed : List (Nat × Nat)         -- credits to return, per VC (R241)
  queue : List TxPacket
  part : List Byte                -- payloads of the packet being received, so far
  partVc : Nat
  partFlits : Nat
  rx : List (Nat × Packet × Nat)  -- received packets in their buffers: VC, packet, flits; oldest first
  farMask : Nat                   -- far end's good lanes
  inUse : Nat                     -- lanes in use, by bit
  deficitT : Nat                  -- deficits of R242: transit and owned
  deficitO : Nat
  turnO : Bool                    -- the owned side has the turn
  alternate : Bool                -- VC3 goes next between VC2 and VC3
  rewiden : Bool                  -- a rewiden is under way (R247)
deriving DecidableEq, Repr

structure Links where
  ports : List (Nat × PortState)
  out : List (Nat × List Byte)    -- flits the ports have sent, oldest first: port and the 256 bytes (R236)
deriving DecidableEq, Repr

/-! ### The reduction ring (chapter 11) -/

/-- A block header of a chunk (R269). -/
structure BlkHdr where
  scale : Nat
  bflags : Nat
  max : Word32
deriving DecidableEq, Repr

/-- A chunk's final headers as a member holds them. -/
structure FinalHdr where
  chunk : Nat
  flags : Nat
  voids : Nat
  blks : List BlkHdr
deriving DecidableEq, Repr

/-- The active bucket of a group: one COLLECTIVE between issue and retirement (R267, R272). -/
structure RingBucket where
  slot : Nat
  admitNo : Nat
  step : Nat
  kind : Nat                      -- 0 REDUCE_SCATTER, 1 ALL_GATHER, 2 ALL_REDUCE
  addr : Nat
  bytes : Nat
  table : Nat
  result : Nat
  bseq : Nat
  epoch : Nat
  phase : Nat
  bf16 : Bool                     -- BF16 on the wire: wire 1, wide, or the redo
  wide : Bool
  redo : Bool
  wireFmt : Nat                   -- format of the scale table
  scales : List Nat               -- agreed scale per block
  headroom : Nat
  divAddr : Nat
  nextAddr : Nat
  tainted : Bool
  downEntry : Bool                -- the downstream ENTRY has arrived
  waitSince : Nat                 -- when the wait for it began (R282)
  staged : List Nat               -- chunks whose contribution is staged
  started : List Nat              -- chunks this member has started, folded or gathered out
  headers : List FinalHdr
  written : List Nat              -- chunks this member has to keep and has written
  boardSums : List (Nat × Nat × List (Word32 × Bool))  -- heritage stage 1 sums of the board: chunk, hops, sums (R181)
  boardHdrs : List FinalHdr
  finUp : Bool                    -- FIN has arrived from upstream
  finSent : Bool
  retireSent : Bool
  suspended : Bool
  mismatchTold : Bool
  coarseTold : Bool
  reports : List (Nat × Nat)      -- losses reported and not yet answered by a RESTART: position, scope (R284)
deriving DecidableEq, Repr

/-- A loaded group (R263) and what is lost of it (R283). -/
structure Group where
  table : List Byte
  recTable : Option (List Byte)   -- in replay, the recorded table of the group (R202)
  recMembers : Option (List Nat)  -- in replay, the recorded members of the partition's first group (R202)
  nextBseq : Nat
  jobLost : List Nat              -- positions lost for the job
  stepLost : List (Nat × Nat)     -- position, step
  bucketLost : List (Nat × Nat)   -- position, bseq
  onSpare : Bool                  -- the leg to the next position runs on its spare
  restoreAsked : Bool             -- legs return to their primaries at the next bucket boundary (R260)
  fatal : Bool                    -- failed under R285
  earlyEntry : List (Nat × Nat)   -- bseq and epoch of ENTRY markers that arrived ahead of the bucket's epoch
  epochs : List (Nat × Nat)       -- epoch of buckets restarted before this member issued them
  waitHandback : Bool             -- this member was dropped and waits for its handback (R297)
  owed : List (Nat × Nat)         -- reports to make after a P0 save: position and scope (R262, R286)
deriving DecidableEq, Repr

/-- A taint range (R280). -/
structure Taint where
  part : Nat
  step : Nat
  lo : Nat
  hi : Nat
deriving DecidableEq, Repr

structure Red where
  groups : List (Nat × Option Group)
  buckets : List (Nat × Option RingBucket)
  taints : List Taint
  taintFull : List (Nat × Nat)    -- partition and step whose list was full
  discarded : List (Nat × Nat)    -- partition and step marked discarded (R281)
deriving DecidableEq, Repr

/-! ### The twin, snapshots, flash and restore (chapter 12) -/

/-- A mirrored APPLY between its last block and its signal (R291, R292). -/
structure ApplyRun where
  slot : Nat
  admitNo : Nat
  part : Nat
  step : Nat                      -- the fence step
  unacked : List Nat              -- mirror sequence numbers of its data packets not yet acknowledged
  commit : Option Nat             -- that of its COMMIT, once sent
  addr : Nat                      -- mirror_addr
  total : Nat                     -- part bytes sent
deriving DecidableEq, Repr

/-- What the twin said of one of its partitions in its last TWIN_HELLO (R288). -/
structure FarPart where
  buf : Nat
  shard : Nat
  high : Nat                      -- highest committed step of its mirror buffers, from its last HELLO or BEAT
deriving DecidableEq, Repr

structure Twin where
  heard : Nat                     -- CTLCLK count of the last HELLO or BEAT
  far : List FarPart
  mseq : List (Nat × Nat)         -- next mirror sequence number sent, per partition
  applies : List ApplyRun
  rx : List (Nat × Option Nat)    -- last mirror sequence number received without a gap, per partition
  ahead : List (Nat × List Nat)   -- those received beyond a gap
  due : List (Nat × Nat)          -- packets received and not acknowledged, per partition
  counts : List (Nat × Nat)       -- bytes counted for a mirror buffer: 2 × partition + buffer
  committed : List (Nat × Bool)   -- partitions whose shard the twin has committed since reset or restore
  met : Bool                      -- a device in TAKEOVER or ALONE has met its replacement in the handshake (R299)
  resetOwed : List Nat            -- partitions whose MIRROR_RESET waits for a path
deriving DecidableEq, Repr

/-- A snapshot between its issue and its seal (R302, R303). -/
structure StopRun where
  slot : Nat                      -- operation-table slot
  admitNo : Nat
  k : Nat                         -- saddlebag slot
  options : Nat
  regions : List (Nat × Nat)      -- address and bytes
  places : List Nat               -- saddlebag address of each region
  since : Nat
  captured : Bool
  id : Nat
deriving DecidableEq, Repr

/-- A record of the Cithes log (R305); the payload as stored, encrypted. -/
structure LogRec where
  typ : Nat
  flags : Nat
  seq : Nat
  id : Nat
  index : Nat
  off : Nat
  keySlot : Nat
  payload : List Byte
  tag : List Byte
  at_ : Nat                       -- where it lies on the log
deriving DecidableEq, Repr

/-- A SHIP under way (R310). -/
structure ShipRun where
  slot : Nat
  admitNo : Nat
  id : Nat
  qp : Nat
  rkey : Nat
  key : Nat
  at_ : Nat                       -- remote address of the next record
  left : List LogRec              -- records still to send, END last
deriving DecidableEq, Repr

/-- The flash as the drive holds it: log, anchor, pins, and the drains and ships under way. -/
structure Flash where
  log : List LogRec               -- oldest first
  tail : Nat                      -- where the next record goes
  ends : Nat × Nat                -- the log's head and tail as the anchor holds them
  nextSeq : Nat
  next : List (Nat × Nat)         -- next snapshot count, per partition (R309)
  anchor : List (Nat × Nat)       -- that count as the anchor holds it
  pins : List Nat
  draining : List Nat             -- saddlebag slots being drained, 4 × partition + slot
  ships : List ShipRun
deriving DecidableEq, Repr

/-- A restore under way (R311 to R315). -/
structure Restore where
  part : Nat
  source : Nat
  slot : Nat
  tensorsOnly : Bool
  qp : Nat
  rkey : Nat
  addr : Nat
  ctr : Nat
  image : List Byte               -- the image or object as read so far
  bad : Option Nat                -- a result that ends it
  handed : Bool                   -- the handback of a restore from TWIN has ended with OK
deriving DecidableEq, Repr

structure Snap where
  twin : Twin
  stops : List (Nat × Option StopRun)  -- per partition
  flash : Flash
  restore : Option Restore
deriving DecidableEq, Repr

/-! ### Power, heat and supply (chapter 13) -/

structure Power where
  ticks : Nat                     -- rein ticks since reset
  winSum : Nat                    -- sum of P_est over the ticks of the present window, mW
  winTicks : Nat
  winSave : Bool                  -- the present window overlaps a save
  excess : Nat                    -- e, in mW (R327)
  badRun : Nat                    -- consecutive invalid windows (R325)
  goodRun : Nat                   -- consecutive valid windows
  raw : List (Nat × Nat)          -- the window's energy per counter, nJ: 0 to 63 queues, 64 + n partition n unattributed
  carry : List (Nat × Nat)        -- energy below 1 mJ carried forward, nJ, per counter
  msTicks : Nat                   -- ticks of the present millisecond
  msDuty : Nat                    -- sum of g over those ticks and the arrays in service
  msArrays : Nat                  -- arrays counted in msDuty
  msFull : Bool                   -- g was 64 on every tick of the millisecond
  roomy : Bool                    -- at the latest tick comp - p_cstatic was at least 1.05 times d_cdyn
  vcore : List (Nat × Nat)        -- VCORE request per die, acknowledged or on its way, in 0.5 mV
  acks : List Nat                 -- dies whose Target Rail Voltage write is not yet acknowledged
  nextF : Option Nat              -- the frequency step that follows the acknowledgements (R330)
  cinchStop : Bool                -- the cinch stops at the acknowledgements (R335)
  cinchOff : Bool                 -- the cinch has stopped
  tripped : List Nat              -- dies with a tripped detector
  deep : Bool                     -- cycles have 6 root phases (R334)
  droopLow : Bool                 -- DROOP_N is low
  droopTold : Option Nat          -- CTLCLK count of the latest EV-0x0B0C
  trimAt : List (Nat × Option Nat)   -- CTLCLK count of a die's latest trim step (R336)
  limitAt : List (Nat × Option Nat)  -- and of its latest EV-0x0B04 with at_limit
  halved : List Nat               -- stacks whose stream grants are halved (R338)
  throttleMs : Nat                -- milliseconds of the present throttle episode
  tripWire : Bool                 -- THERMTRIP_N is low (R339)
  ramp : Option Nat               -- after a resume, the present bound on g (R344)
deriving DecidableEq, Repr

/-- A ledger entry (R343): kind 1 array repair, 2 spare switch, 3 map-out, 4 trim step, 5 clear. -/
structure LedgerEntry where
  kind : Nat
  target : Nat
  value : Nat
  keepSeq : Nat
  count : Nat
deriving DecidableEq, Repr

/-- A save record in a save area (R343). -/
structure SaveRec where
  keepSeq : Nat
  cause : Nat
  header : List Byte              -- first 128 bytes of the header page
  sections : List (Nat × List Byte)
  committed : Bool                -- its commit page is valid
  marker : Option (Nat × Nat)     -- t_resume and pause_us of its marker page
deriving DecidableEq, Repr

/-- The keep area of the flash, and the save under way. -/
structure Keep where
  ledger : List LedgerEntry       -- oldest first
  owed : List LedgerEntry         -- entries the lead has still to write
  areas : List (Nat × Option SaveRec)  -- save areas A, B and C; none: erased
  seq : Nat                       -- keep_seq of the latest save
  cause : Nat                     -- of the save under way
  tAssert : Nat                   -- CTLCLK count of its assertion
  noResume : Bool                 -- a thermal trip: the device never resumes (R339)
deriving DecidableEq, Repr

/-- Signals at the balls that state depends on (chapter 16). -/
structure Pins where
  inReset : Bool                  -- under an assertion of RESET_N, PWRGOOD or a REFCLK stop (R408, R412)
  resetLow : Bool                 -- RESET_N itself is low (R415)
  refclk : Bool                   -- no REFCLK stop since the latest assertion of RESET_N (R412)
  sdrefP : Bool                   -- the SerDes references run
  sdrefC : Bool
  jtag : Nat                      -- the instruction in effect at the test access port (R415)
deriving DecidableEq, Repr

/-- The whole device. -/
structure State where
  pending : List Instr            -- commands waiting, first in, first out
  now : Nat                       -- the 64-bit CTLCLK counter of the girth bridge (R392)
  fresh : Nat                     -- the model's own: how many free values have been taken (assumption 5)
  regs : List (Nat × Word64)      -- control space by offset, in canonical form over regDefault
  readData : Word64               -- the model's own: what the latest register read by a control processor returned (R5)
  mem : List (Nat × Byte)         -- HBM bytes by physical place, in canonical form over zero (assumption 4)
  poison : List (Nat × Bool)      -- poisoned 32-byte sectors by physical place div 32 (R211)
  ctl : Ctl
  recorder : Recorder
  hp : Hp
  fuses : Fuses
  boot : Boot
  sec : Sec
  strm : Strm
  hsm : Hsm
  comp : Compute
  health : Health
  links : Links
  red : Red
  snap : Snap
  power : Power
  keep : Keep
  pins : Pins
deriving DecidableEq, Repr

/-- Why a run stops in a fault: no meaning of this model faults, so there is no reason to name. -/
inductive Fault where
deriving DecidableEq, Repr

/-- Why the model refuses a command. -/
inductive Refusal where
  /-- Raised by an arm of the dispatch whose meaning has not been written; safe. -/
  | notModelled (mnemonic : String)
deriving DecidableEq, Repr

def Power.reset : Power :=
  ⟨0, 0, 0, false, 0, 0, 0, [], [], 0, 0, 0, true, false, [], [], none, false, false, [], false, false, none, [], [], [], 0, false, none⟩

def Twin.reset : Twin := ⟨0, [], [], [], [], [], [], [], [], false, []⟩

/-- The device right after reset: every register at its reset value, every slot, queue and buffer empty, no image running,
fuses blank, NOR and flash erased, the device held in reset (R8, R43, R408; assumptions 3, 4 and 13). -/
def State.reset : State :=
  { pending := [], now := 0, fresh := 0, regs := [], readData := 0, mem := [], poison := [],
    ctl := ⟨[], 0, [], [], []⟩,
    recorder := ⟨[], 1, 4096, [], [], 0, 0, []⟩,
    hp := ⟨false, [], []⟩,
    fuses := ⟨0, [], 0, 0, 0, 0, [], [], []⟩,
    boot := ⟨[], 0, [], 0, [], none, [], [], [], [], none, [], 0, none, false, 0, false, []⟩,
    sec := ⟨[], 0, []⟩,
    strm := ⟨[], [], []⟩,
    hsm := ⟨[], [], [], [], [], []⟩,
    comp := ⟨[], [], [], [], [], [], []⟩,
    health := ⟨[], [], []⟩,
    links := ⟨[], []⟩,
    red := ⟨[], [], [], [], []⟩,
    snap := ⟨Twin.reset, [], ⟨[], 0, (0, 0), 0, [], [], [], [], []⟩, none⟩,
    power := Power.reset,
    keep := ⟨[], [], [], 0, 0, 0, false⟩,
    pins := ⟨true, true, true, true, true, 1⟩ }

end Sys2Proof.Machine
end

