-- ==== Sys2Proof/Machine/Ops.lean ====
section
/-!
DEFINITION. The named operations over registers, HBM, events and the host port that the meanings are written with.
-/
namespace Sys2Proof.Machine

/-! ### Registers -/

/-- The default of the register file: each register at its reset value (R8). -/
def regD (k : Nat) : Word64 := BitVec.ofNat 64 (regDefault k)

/-- The stored value of the register at an offset. -/
def State.rd (s : State) (off : Nat) : Nat := (Sparse.get regD s.regs off).toNat

/-- Replace the stored value of a register. -/
def State.wr (s : State) (off v : Nat) : State :=
  { s with regs := Sparse.put regD s.regs off (BitVec.ofNat 64 v) }

/-- The value of a field. -/
def State.f (s : State) (r : FieldRef) : Nat := bits (s.rd r.off) r.lo r.width

/-- Whether a one-bit field is set. -/
def State.flag (s : State) (r : FieldRef) : Bool := s.f r != 0

/-- Set a field. -/
def State.put (s : State) (r : FieldRef) (v : Nat) : State := s.wr r.off (setBits (s.rd r.off) r.lo r.width v)

/-- Set a one-bit field. -/
def State.putB (s : State) (r : FieldRef) (b : Bool) : State := s.put r (if b then 1 else 0)

/-- Add to a counter that saturates at its width. -/
def State.bumpSat (s : State) (r : FieldRef) (k : Nat) : State := s.put r (satAdd r.width (s.f r) k)

/-- Add to a counter that wraps at its width. -/
def State.bump (s : State) (r : FieldRef) (k : Nat) : State := s.put r (s.f r + k)

/-- Whether a reference names a field that a set bit index selects. -/
def testBit (v i : Nat) : Bool := (v / 2 ^ i) % 2 == 1

/-- A free byte string of length n, and the state with the counter advanced (assumption 5). -/
def freeBytes (s : State) (n : Nat) : List Byte := (List.range n).map (fun i => Config.freeByte (s.fresh + i))

def State.setNow (s : State) (n : Nat) : State := { s with now := n }
def State.setPins (s : State) (x : Pins) : State := { s with pins := x }
def State.setHp (s : State) (x : Hp) : State := { s with hp := x }
def State.setSec (s : State) (x : Sec) : State := { s with sec := x }
def State.setCtl (s : State) (x : Ctl) : State := { s with ctl := x }
def State.setReadData (s : State) (v : Word64) : State := { s with readData := v }

def State.useFresh (s : State) (n : Nat) : State := { s with fresh := s.fresh + n }

/-! ### Partitions (R9, R15) -/

/-- Compute stacks per partition of the running image. -/
def State.csPerPart (s : State) : Nat := if s.boot.partitions = 0 then 4 else 4 / s.boot.partitions

/-- The partition that owns a compute stack. -/
def State.partOfCs (s : State) (cs : Nat) : Nat := cs / s.csPerPart

/-- The compute stacks of a partition. -/
def State.csOf (s : State) (p : Nat) : List Nat := (List.range 4).filter (fun c => s.partOfCs c == p)

/-- A compute stack lies in the Cantle half (R9). -/
def csCantle (cs : Nat) : Bool := decide (2 ≤ cs)

/-- An Adepin port's lanes lie in the Cantle half (R9): TW.B, BP3 to BP5, XP2 and XP3.  An unsplit TW counts with its first
lanes (assumption 9). -/
def portCantle (n : Nat) : Bool := n == 1 || (decide (5 ≤ n) && decide (n ≤ 7)) || decide (10 ≤ n)

/-- The half that raises a partition's events: that of its first compute stack (assumption 9). -/
def State.partCantle (s : State) (p : Nat) : Bool := csCantle (p * s.csPerPart)

def partD : Nat → PartState := fun _ => ⟨63, none, none, false, false, none⟩

def State.part (s : State) (p : Nat) : PartState := Sparse.get partD s.ctl.parts p

def State.setPart (s : State) (p : Nat) (x : PartState) : State :=
  { s with ctl := { s.ctl with parts := Sparse.put partD s.ctl.parts p x } }

/-- A half's firmware restarts in an update, CPC's in phase CANTLE and CPP's in POMMEL: its services pause (R375). -/
def State.halfRestarts (s : State) (cantle : Bool) : Bool := s.f Fld.bootUpdateStatus_phase == if cantle then 3 else 5

/-- The lowest-numbered partition that has started. -/
def State.firstStarted (s : State) : Option Nat := (List.range 4).find? (fun p => (s.part p).started)

/-! ### Events (R388, R389) -/

/-- The intake a half's events wait in. -/
def State.intake (s : State) (cantle : Bool) : List Ev := if cantle then s.recorder.intake1 else s.recorder.intake0

/-- Order of events that reach an intake in one cycle: ascending block, then instance (R388). -/
def evBefore (a b : Ev) : Bool :=
  a.time == b.time && (decide (a.code / 256 < b.code / 256) || (a.code / 256 == b.code / 256 && decide (a.instNo < b.instNo)))

/-- Put an event at the tail of an intake, ahead of same-cycle events it precedes. -/
def evInsert (e : Ev) : List Ev → List Ev
  | [] => [e]
  | x :: xs => if evBefore e x then e :: x :: xs else x :: evInsert e xs

/-- An event reaches its half's intake; a full intake loses it and counts it (R389). -/
def State.raise (s : State) (e : Ev) : State :=
  if 512 ≤ (s.intake e.cantle).length then
    if e.cantle then
      { s with recorder := { s.recorder with lost1 := s.recorder.lost1 + 1 } }.bumpSat Fld.evrecLost_cantle 1
    else { s with recorder := { s.recorder with lost0 := s.recorder.lost0 + 1 } }.bumpSat Fld.evrecLost_pommel 1
  else if e.cantle then
    { s with recorder := { s.recorder with intake1 := evInsert e s.recorder.intake1 } }
  else { s with recorder := { s.recorder with intake0 := evInsert e s.recorder.intake0 } }

/-- Record an event: code, partition, half, instance and payload bytes. -/
def State.event (s : State) (code : Nat) (part : Option Nat) (cantle : Bool) (inst : Nat) (payload : List Byte) : State :=
  s.raise ⟨code, part, cantle, inst, padTo 28 payload, s.now, []⟩

/-- The generic payload of R393: two 8-byte fields and a result code. -/
def genericPayload (a b r : Nat) : List Byte := toLE 8 a ++ toLE 8 b ++ toLE 1 r

/-- Record the generic event of a block. -/
def State.generic (s : State) (blk : Nat) (part : Option Nat) (a b r : Nat) : State :=
  s.event blk part (match part with | some p => s.partCantle p | none => false) 0 (genericPayload a b r)

/-- As generic, and also sent to a notice queue (R425, R427). -/
def State.genericNotice (s : State) (blk p a b r : Nat) : State :=
  s.raise ⟨blk, some p, s.partCantle p, 0, padTo 28 (genericPayload a b r), s.now, [p]⟩

/-- The generic block of a register by its prefix; the numeric-health registers of CTL carry 0x08 (R393). -/
def blockOfOffset (off : Nat) : Nat :=
  let b := off / 0x10000
  if b = 0 then (if 0x100 ≤ off ∧ off < 0x500 ∧ 0x08 ≤ off % 0x100 ∧ off % 0x100 < 0x68 then Blk.num else Blk.ctl)
  else if b ≤ 2 then Blk.ctl
  else if b = 3 then Blk.strm
  else if b = 4 then Blk.ary
  else if b ≤ 6 then Blk.te
  else if b = 7 then Blk.hsm
  else if b = 8 then Blk.sen
  else if b = 9 then Blk.lnk
  else if b = 0xA then Blk.red
  else if b ≤ 0xD then Blk.power
  else if b = 0xE then Blk.evrec
  else if b = 0xF then Blk.boot
  else if b = 0x10 then Blk.sec
  else if b ≤ 0x12 then Blk.host
  else Blk.snap

/-- The event of an invalid or refused register write: offset and value (R7, R420, R359). -/
def State.badWrite (s : State) (off v : Nat) : State :=
  s.generic (if (regAt off).isSome then blockOfOffset off else Blk.ctl) none off v 0

/-! ### The address map of HBM (R207, R208, R228) -/

/-- Bytes of one channel. -/
def chBytes : Nat := 589824 * 4096

/-- Block rows that survive a map-out: L of R228. -/
def rowLimit : Nat := 571392

/-- A byte's place: stack, channel, and channel-local address. -/
structure Place where
  stack : Nat
  ch : Nat
  loc : Nat
deriving DecidableEq, Repr

/-- Decoding of an address in either view (R207, R208). -/
def placeOf (a : Nat) : Option Place :=
  if a ≤ 0x011FFFFFFFFF then
    let o := a % 0x004800000000
    let b := o / 4096
    let x := b % 128
    some ⟨4 * (a / 0x004800000000) + x / 32, x % 32, b / 128 * 4096 + o % 4096⟩
  else if 0x020000000000 ≤ a ∧ a ≤ 0x031FFFFFFFFF then
    let q := a - 0x020000000000
    let o := q % 0x001200000000
    some ⟨q / 0x001200000000, (o / 4096) % 32, o / 4096 / 32 * 4096 + o % 4096⟩
  else none

/-- A byte lost by a map-out from the acknowledgement on (R228, R229), or with its stack (R230). -/
def State.lost (s : State) (p : Place) : Bool :=
  s.f (Fld.hsmStackStatus_state p.stack) == 3 ||
  (decide (2 ≤ s.f (Fld.hsmStackStatus_mapout_phase p.stack)) && decide (rowLimit ≤ p.loc / 4096))

/-- The physical place of a byte after the redirect of R228, in force once the map-out is DONE. -/
def State.redirect (s : State) (p : Place) : Place :=
  if s.f (Fld.hsmStackStatus_mapout_phase p.stack) = 3 ∧ s.f (Fld.hsmStackStatus_mapped_ch p.stack) = p.ch then
    let ρ := p.loc / 4096
    let r := ρ % 31
    ⟨p.stack, if r < p.ch then r else r + 1, (rowLimit + ρ / 31) * 4096 + p.loc % 4096⟩
  else p

/-- The key of a physical place in State.mem. -/
def Place.key (p : Place) : Nat := (p.stack * 32 + p.ch) * chBytes + p.loc

/-- The key of the byte at an address; none outside both views. -/
def State.keyOf (s : State) (a : Nat) : Option Nat := (placeOf a).map (fun p => (s.redirect p).key)

/-- The stack, after no redirect, that nominally holds an address (R217). -/
def stackOf (a : Nat) : Option Nat := (placeOf a).map Place.stack

/-- Whether a partition owns the byte at an address (R209): its stack belongs to it and the byte is not lost. -/
def State.ownsByte (s : State) (p a : Nat) : Bool :=
  match placeOf a with
  | some pl => s.partOfCs (pl.stack / 4) == p && !s.lost pl
  | none => false

/-- Whether a run of bytes lies in HBM the partition owns: checked at every 4 KiB block the run touches. -/
def State.ownsRange (s : State) (p a n : Nat) : Bool :=
  n == 0 || (s.ownsByte p a && s.ownsByte p (a + n - 1) &&
    (List.range (ceilDiv (a + n) 4096 - a / 4096)).all (fun i => i == 0 || s.ownsByte p ((a / 4096 + i) * 4096)))

/-! ### Memory -/

def memD : Nat → Byte := fun _ => 0#8
def poisonD : Nat → Bool := fun _ => false

/-- The byte at an HBM address; zero outside both views, which no checked access reaches. -/
def State.byte (s : State) (a : Nat) : Byte :=
  match s.keyOf a with
  | some k => Sparse.get memD s.mem k
  | none => 0#8

/-- The n bytes from an address. -/
def State.bytes (s : State) (a n : Nat) : List Byte := (List.range n).map (fun i => s.byte (a + i))

/-- A little-endian field of HBM. -/
def State.word (s : State) (a n : Nat) : Nat := ofLE (s.bytes a n)

/-- Store one byte, leaving the poison marks alone. -/
def State.poke (s : State) (a : Nat) (b : Byte) : State :=
  match s.keyOf a with
  | some k => { s with mem := Sparse.put memD s.mem k b }
  | none => s

/-- Store bytes at consecutive addresses. -/
def State.pokes (s : State) (a : Nat) : List Byte → State
  | [] => s
  | b :: bs => (s.poke a b).pokes (a + 1) bs

/-- Whether the sector holding an address is poisoned (R211). -/
def State.poisonedAt (s : State) (a : Nat) : Bool :=
  match s.keyOf a with
  | some k => Sparse.get poisonD s.poison (k / 32)
  | none => false

/-- Whether any sector that a run of bytes touches is poisoned. -/
def State.poisoned (s : State) (a n : Nat) : Bool :=
  (List.range (ceilDiv (a + n) 32 - a / 32)).any (fun i => s.poisonedAt ((a / 32 + i) * 32))

/-- Mark or clear the sector holding an address. -/
def State.setPoison (s : State) (a : Nat) (b : Bool) : State :=
  match s.keyOf a with
  | some k => { s with poison := Sparse.put poisonD s.poison (k / 32) b }
  | none => s

/-- Clear the poison of the sectors a write of n bytes at a covers whole (R212). -/
def State.clearWhole (s : State) (a n : Nat) : State :=
  (List.range ((a + n) / 32 - ceilDiv a 32)).foldl (fun t i => t.setPoison ((ceilDiv a 32 + i) * 32) false) s

/-- A write of n bytes at consecutive addresses: the bytes, and the poison of whole sectors cleared (R212). -/
def State.store (s : State) (a : Nat) (bs : List Byte) : State := (s.pokes a bs).clearWhole a bs.length

/-- A write of a little-endian field. -/
def State.storeLE (s : State) (a n v : Nat) : State := s.store a (toLE n v)

/-- Fill a run with free bytes: a region whose contents the spec calls undefined (assumption 5). -/
def State.storeFree (s : State) (a n : Nat) : State := (s.store a (freeBytes s n)).useFresh n

/-! ### The host port's outgoing side (R353, R356) -/

def qpD : Nat → QpState := fun _ => ⟨[], 0, 1, 0, 16000, 1, none, 0, 0⟩

def State.qp (s : State) (q : Nat) : QpState := Sparse.get qpD s.hp.qps q

def State.setQp (s : State) (q : Nat) (x : QpState) : State :=
  { s with hp := { s.hp with qps := Sparse.put qpD s.hp.qps q x } }

/-- The path MTU in bytes (R353). -/
def State.mtu (s : State) : Nat := 1024 * 2 ^ s.f Fld.hostCfg_path_mtu

/-- HP can carry a request of the queue pair: the port is UP and the pair READY. -/
def State.qpReady (s : State) (q : Nat) : Bool := s.hp.up && s.f (Fld.hostQpCfg_state q) == 1

/-- Put a frame on the wire. -/
def State.emit (s : State) (m : HpMsg) : State := { s with hp := { s.hp with out := s.hp.out ++ [m] } }

/-- Packets of a message of n bytes. -/
def State.packetsOf (s : State) (n : Nat) : Nat := max 1 (ceilDiv n s.mtu)

/-- Send a request on a queue pair: it takes PSNs and stays until acknowledged. -/
def State.request (s : State) (q : Nat) (m : HpMsg) (len dest : Nat) : State :=
  let n := s.packetsOf len
  let psn := s.f (Fld.hostQpPsn_send_psn q)
  let x := s.qp q
  ((s.setQp q { x with tx := x.tx ++ [⟨psn, n, m, dest⟩], since := if x.tx.isEmpty then s.now else x.since }).put (Fld.hostQpPsn_send_psn q) ((psn + n) % 2 ^ 24)).emit m

/-! ### Operations in flight -/

def State.op (s : State) (slot : Nat) : Option Op := Sparse.get (fun _ => none) s.ctl.ops slot

def State.setOp (s : State) (slot : Nat) (o : Option Op) : State :=
  { s with ctl := { s.ctl with ops := Sparse.put (fun _ => none) s.ctl.ops slot o } }

/-- The occupied slots and their operations. -/
def State.inFlight (s : State) : List (Nat × Op) := s.ctl.ops.filterMap (fun e => e.2.map (fun o => (e.1, o)))

/-- State codes of the status word (R31). -/
def State.opState (s : State) (slot : Nat) : Nat := bits (s.rd (Reg.opstat slot)) 0 4
def State.opSettled (s : State) (slot : Nat) : Bool := bits (s.rd (Reg.opstat slot)) 31 1 == 1
def State.opResult (s : State) (slot : Nat) : Nat := bits (s.rd (Reg.opstat slot)) 8 8

/-- Write a status word: state, result, settled. -/
def State.setStatus (s : State) (slot st result : Nat) (settled : Bool) : State :=
  s.wr (Reg.opstat slot) (st + 256 * result + (if settled then 2 ^ 31 else 0))

/-- Fields of the work-item header (R22). -/
def Op.opcode (o : Op) : Nat := fieldLE o.item 0 1
def Op.hflags (o : Op) : Nat := fieldLE o.item 1 1
def Op.tag (o : Op) : Nat := fieldLE o.item 4 4
def Op.wait0 (o : Op) : Nat := fieldLE o.item 8 2
def Op.wait1 (o : Op) : Nat := fieldLE o.item 10 2
def Op.wait0v (o : Op) : Nat := fieldLE o.item 12 4
def Op.wait1v (o : Op) : Nat := fieldLE o.item 16 4
def Op.signalCtr (o : Op) : Nat := fieldLE o.item 0x14 2
def Op.signalInc (o : Op) : Nat := fieldLE o.item 0x16 2
def Op.cqN (o : Op) : Nat := fieldLE o.item 0x18 1
def Op.isPost (o : Op) : Bool := o.hflags % 2 == 1
def Op.isBarrier (o : Op) : Bool := o.hflags / 2 % 2 == 1
def Op.phase (o : Op) : Nat := o.hflags / 4 % 4
def Op.b (o : Op) (off n : Nat) : Nat := fieldLE o.item off n

/-- The partition of a work queue. -/
def State.wqPart (s : State) (wq : Nat) : Nat := s.f (Fld.wqCfg_partition wq)

def State.opPart (s : State) (o : Op) : Nat := s.wqPart o.wq

/-- The result codes of R42. -/
def Res.ok : Nat := 0
def Res.aborted : Nat := 1
def Res.tooLate : Nat := 2
def Res.notFound : Nat := 3
def Res.notAbortable : Nat := 4
def Res.badVersion : Nat := 0x10
def Res.badOpcode : Nat := 0x11
def Res.badField : Nat := 0x12
def Res.addrForeign : Nat := 0x13
def Res.counterForeign : Nat := 0x14
def Res.cqInvalid : Nat := 0x15
def Res.contextInvalid : Nat := 0x16
def Res.writeProtect : Nat := 0x17
def Res.straggler : Nat := 0x20
def Res.stepDiscarded : Nat := 0x21
def Res.counterMismatch : Nat := 0x22
def Res.hwFault : Nat := 0x30

/-! ### Leaving the operation table (R30) -/

def State.setHealth (s : State) (x : Health) : State := { s with health := x }

/-- The bookkeeping of a step: the entry for (partition, step). -/
def State.book (s : State) (p step : Nat) : Option StepBook := s.health.books.find? (fun b => b.part == p && b.step == step)

def State.mapBook (s : State) (p step : Nat) (f : StepBook → StepBook) : State :=
  { s with health := { s.health with books := s.health.books.map (fun b => if b.part == p && b.step == step then f b else b) } }

/-- Refresh the counts of the operation table. -/
def State.tableShow (s : State) (wq : Nat) : State :=
  let used := s.inFlight.length
  let t := (s.put (Fld.wqStat_in_flight wq) ((s.inFlight.filter (fun e => e.2.wq == wq)).length)).put Fld.optabUsed_used used
  t.put Fld.optabHwm_high_water (max (t.f Fld.optabHwm_high_water) used)

/-- Items no longer wait for a fence that has closed (R27, R37). -/
def Op.unfence (n : Nat) (x : Op) : Op :=
  { x with fences := x.fences.filter (fun a => a != n), stepFence := if x.stepFence = some n then none else x.stepFence }

/-- Open the fences of every item to one that has closed. -/
def State.unfenceAll (s : State) (n : Nat) : State :=
  s.setCtl { s.ctl with ops := s.ctl.ops.map (fun e => (e.1, e.2.map (Op.unfence n))) }

/-- A STEP fence has closed: its partition's closed step, and the book of the step (R36, R201). -/
def State.stepClosed (s : State) (p step : Nat) : State :=
  (s.setPart p { s.part p with closedStep := some step }).mapBook p step (fun b => { b with closed := true })

/-- An item whose state is terminal and whose record, if any, has been written leaves the table: it has retired (R30).  A
fence that retires OK has closed. -/
def State.leave (s : State) (slot : Nat) (o : Op) : State :=
  let p := s.opPart o
  let t := s.setOp slot none
  let t := if o.opcode = 5 ∧ s.opState slot = 8 then
      (if o.b 0x20 1 = 1 then (t.unfenceAll o.admitNo).stepClosed p o.stamp else t.unfenceAll o.admitNo)
    else t
  t.tableShow o.wq

/-- The record of an item has been written: the item in its slot retires.  Records of aborts and of refused items name no
item of the table. -/
def State.recordWritten (s : State) (r : CplRec) : State :=
  match (if r.opcode = 0 then none else s.op r.slot) with
  | some o => if s.opSettled r.slot then s.leave r.slot o else s
  | none => s

/-! ### Notices and completions (R40 to R42, R425) -/

def cqD : Nat → CqState := fun _ => ⟨0, [], []⟩

def State.cq (s : State) (n : Nat) : CqState := Sparse.get cqD s.ctl.cqs n

def State.setCq (s : State) (n : Nat) (x : CqState) : State :=
  { s with ctl := { s.ctl with cqs := Sparse.put cqD s.ctl.cqs n x } }

/-- Registers of a completion queue (0 to 63) or a notice queue (64 to 68). -/
def cqCfgF (n : Nat) (lo w : Nat) : FieldRef := if n < 64 then ⟨Reg.cqCfg n, lo, w⟩ else ⟨Reg.nqCfg (n - 64), lo, w⟩
def cqEnabledF (n : Nat) : FieldRef := cqCfgF n 24 1
def cqSizeF (n : Nat) : FieldRef := cqCfgF n 16 5
def cqQpF (n : Nat) : FieldRef := cqCfgF n 0 11
def cqRkeyF (n : Nat) : FieldRef := cqCfgF n 32 32
def cqHeadF (n : Nat) : FieldRef := if n < 64 then Fld.cqHead_head n else Fld.nqHead_head (n - 64)
def cqAddrOf (s : State) (n : Nat) : Nat := if n < 64 then s.rd (Reg.cqAddr n) else s.rd (Reg.nqAddr (n - 64))

/-- Whether the ring of a queue is full. -/
def State.cqFull (s : State) (n : Nat) : Bool :=
  decide (2 ^ s.f (cqSizeF n) ≤ (2 ^ 32 + (s.cq n).prod - s.f (cqHeadF n)) % 2 ^ 32)

/-- A queue that can take a record now: enabled, not full, and its queue pair can carry it. -/
def State.cqOpen (s : State) (n : Nat) : Bool := s.flag (cqEnabledF n) && !s.cqFull n && s.qpReady (s.f (cqQpF n))

/-- Phase bit of the next record: 1 on the first pass around the ring, inverted on each (R40). -/
def State.cqPhase (s : State) (n : Nat) : Nat := 1 - (s.cq n).prod / 2 ^ s.f (cqSizeF n) % 2

/-- Write one 64-byte record to the ring by RDMA WRITE and advance the producer index; the request keeps the queue's number,
plus 1, so that the record outlives a failure of the queue pair (R353). -/
def State.cqWrite (s : State) (n : Nat) (rec : List Byte) : State :=
  let c := s.cq n
  let a := cqAddrOf s n + 64 * (c.prod % 2 ^ s.f (cqSizeF n))
  let q := s.f (cqQpF n)
  (s.setCq n { c with prod := (c.prod + 1) % 2 ^ 32 }).request q (.write q (s.f (cqRkeyF n)) a rec none) 64 (n + 1)

/-- A completion record's bytes (R40). -/
def CplRec.toBytes (r : CplRec) (phase : Nat) : List Byte :=
  toLE 4 r.tag ++ toLE 1 r.wq ++ toLE 1 r.opcode ++ toLE 1 r.result ++ toLE 1 (r.flags / 2 * 2 + phase) ++ toLE 2 r.slot ++
  toLE 6 0 ++ toLE 8 r.step ++ toLE 8 r.tIssue ++ toLE 8 r.tRetire ++ toLE 8 r.detail ++ toLE 16 0

/-- Post a completion record: written when the queue is open and holds none back, else kept in order (R41).  The first 256
kept are those on chip; a later one, of an item that had already issued, waits in the item's slot (assumption 22). -/
def State.post (s : State) (n : Nat) (r : CplRec) : State :=
  if s.cqOpen n && (s.cq n).held.isEmpty then (s.cqWrite n (r.toBytes (s.cqPhase n))).recordWritten r
  else
    let c := s.cq n
    let t := (s.setCq n { c with held := c.held ++ [r] }).put (cqCfgF n 25 1) 1
    if c.held.length + 1 = 256 then
      t.generic Blk.ctl (some (s.f (Fld.wqCfg_partition n))) (Reg.cqCfg n) 256 0
    else t

/-- Write held records oldest first while the queue is open, each of their items then retiring; fuel is the number held. -/
def State.drainCq : Nat → State → Nat → State
  | 0, s, _ => s
  | k + 1, s, n =>
    match (s.cq n).held with
    | [] => s
    | r :: rs =>
      if s.cqOpen n then
        State.drainCq k ((((s.setCq n { s.cq n with held := rs }).cqWrite n (r.toBytes (s.cqPhase n))).putB (cqCfgF n 25 1) (!rs.isEmpty)).recordWritten r) n
      else s

/-- Put the phase bit into a notice record. -/
def phased (rec : List Byte) (phase : Nat) : List Byte := rec.take 3 ++ toLE 1 phase ++ rec.drop 4

/-- The notices held for a queue leave no room for another. -/
def State.nqFull (s : State) (n : Nat) : Bool :=
  decide (2 ^ s.f (cqSizeF n) ≤ (2 ^ 32 + ((s.cq n).prod + (s.cq n).notices.length) - s.f (cqHeadF n)) % 2 ^ 32)

/-- Send a notice record's 64 bytes, less the phase, to a notice queue: dropped and counted when it is disabled or full
(R42), held while its queue pair is not READY (R353). -/
def State.notice (s : State) (nq : Nat) (mk : Nat → List Byte) : State :=
  let n := 64 + nq
  if !s.flag (cqEnabledF n) || s.nqFull n then s.bumpSat (Fld.nqDrop_dropped nq) 1
  else if s.qpReady (s.f (cqQpF n)) && (s.cq n).notices.isEmpty then s.cqWrite n (mk (s.cqPhase n))
  else s.setCq n { s.cq n with notices := (s.cq n).notices ++ [mk 0] }

/-- Write held notices while the queue is open; fuel is the number held. -/
def State.drainNotices : Nat → State → Nat → State
  | 0, s, _ => s
  | k + 1, s, n =>
    match (s.cq n).notices with
    | [] => s
    | r :: rs => if s.cqOpen n then State.drainNotices k ((s.setCq n { s.cq n with notices := rs }).cqWrite n (phased r (s.cqPhase n))) n else s

/-- Write whatever completion and notice queues hold and can write. -/
def State.flushQueues (s : State) : State :=
  (List.range 69).foldl (fun t n => State.drainNotices (t.cq n).notices.length (State.drainCq (t.cq n).held.length t n) n) s

/-! ### Effects of an operation -/

/-- Mark an operation's effects complete with a result (the completion path of R32 then settles it). -/
def State.finish (s : State) (slot result : Nat) : State :=
  match s.op slot with
  | some o => if o.done.isSome then s else s.setOp slot (some { o with done := some result })
  | none => s

/-- Add to an operation's detail field. -/
def State.addDetail (s : State) (slot k : Nat) : State :=
  match s.op slot with
  | some o => s.setOp slot (some { o with detail := o.detail + k })
  | none => s

/-- Set bits in an operation's completion-record flags. -/
def State.orFlags (s : State) (slot bit : Nat) : State :=
  match s.op slot with
  | some o => if testBit o.flags bit then s else s.setOp slot (some { o with flags := o.flags + 2 ^ bit })
  | none => s

/-- The numeric policy in force: the replayed record's, else CTL_NUMPOL_n (R202). -/
def State.numpol (s : State) (p : Nat) : Nat :=
  match (s.part p).replay with
  | some r => r.numpol
  | none => s.rd (Reg.numpol p)

/-- Heritage mode of a partition (R178). -/
def State.heritage (s : State) (p : Nat) : Bool := bits (s.numpol p) 0 1 == 1

/-- The device is HELD (R320): it issues nothing. -/
def State.isHeld (s : State) : Bool := s.flag Fld.snapHeld_held

/-- Whether the device serves: READY, not HELD, not saving, not in a save pause. -/
def State.serving (s : State) : Bool := s.f Fld.bootStatus_stage == 6 && !s.isHeld && decide (s.f Fld.thmSaveStatus_state = 0)

/-! ### Writers of control space (R420 to R422) -/

/-- Who writes: a control processor or a queue pair; a queue pair of device scope passes as D. -/
def State.writerDevice (s : State) : Writer → Bool
  | .lead => true
  | .other => true
  | .qp q => s.flag (Fld.hostQpCfg_control q) && s.flag (Fld.hostQpCfg_device q)

/-- The partition of a control queue pair that is not of device scope. -/
def State.writerPart (s : State) : Writer → Option Nat
  | .qp q => if s.flag (Fld.hostQpCfg_control q) && !s.flag (Fld.hostQpCfg_device q) then some (s.f (Fld.hostQpCfg_partition q)) else none
  | _ => none

/-- Scope P: device writers, and a control queue pair of the owning partition. -/
def State.mayWriteP (s : State) (w : Writer) (owner : Option Nat) : Bool :=
  s.writerDevice w || (match s.writerPart w, owner with | some p, some o => p == o | _, _ => false)

/-- Scope S: any control writer. -/
def State.mayWriteS (s : State) (w : Writer) : Bool := s.writerDevice w || (s.writerPart w).isSome

/-- A writer that passes a partition check (R422). -/
def State.writerPasses (s : State) (w : Writer) (p : Nat) : Bool := s.writerDevice w || s.writerPart w == some p

/-- The writer is a control processor. -/
def writerIsCp : Writer → Bool
  | .lead => true | .other => true | .qp _ => false

end Sys2Proof.Machine
end

