-- ==== Sys2Proof/Machine/Access.lean ====
section
/-!
DEFINITION. Who may write a register (R420 to R424) and what makes a write invalid (R7): the guard around every register
write.
-/
namespace Sys2Proof.Machine

/-- The partition whose counter range holds a counter (R26). -/
def State.ctrPart (s : State) (k : Nat) : Option Nat :=
  (List.range 4).find? (fun p => decide (s.f (Fld.ctrRange_first p) ≤ k) && decide (k < s.f (Fld.ctrRange_first p) + s.f (Fld.ctrRange_count p)))

/-- The owner of a port (R253). -/
def State.portOwner (s : State) (n : Nat) : Option Nat :=
  if s.flag (Fld.lnkCfg_owned n) then some (s.f (Fld.lnkCfg_owner n)) else none

/-- The partition that owns instance i of the P register family based at b (R421). -/
def State.instOwner (s : State) (b i : Nat) : Option Nat :=
  if b < 0x800 then some i
  else if b < 0x1000 then (if i < 4 then some i else none)
  else if b < 0x8000 then some (s.wqPart i)
  else if b < 0x30000 then s.ctrPart i
  else if b < 0x50000 then some (s.partOfCs i)
  else if b < 0x51000 then some (s.partOfCs (i / 16))
  else if b < 0x60000 then some (s.partOfCs i)
  else if b < 0x70000 then some (s.partOfCs (i / 16))
  else if b < 0xA0000 then s.portOwner i
  else if b < 0xB0000 then some i
  else if b = Reg.reinArray 0 then some (s.partOfCs i)
  else if b < 0xB0200 then some i
  else if b < 0xC0000 then some (s.wqPart i)
  else if b < 0x130400 then some i
  else some (i / 4)

/-- The owner of the register at an offset. -/
def State.ownerOf (s : State) (off : Nat) : Option Nat := (regAt off).bind (fun r => s.instOwner r.base (r.index off))

/-- The register's slot belongs to a partition that has not started (R424). -/
def State.deadSlot (s : State) (off : Nat) : Bool :=
  match regAt off with
  | some r => r.scope == .part && (match s.instOwner r.base (r.index off) with | some p => !(s.part p).started | none => false)
  | none => false

/-- Whether the scope of the register permits the writer (R420, R424). -/
def State.mayWrite (s : State) (w : Writer) (off : Nat) : Bool :=
  match regAt off with
  | none => false
  | some r =>
    match r.scope with
    | .device => s.writerDevice w
    | .part => s.mayWriteP w (s.instOwner r.base (r.index off)) && !s.deadSlot off
    | .shared => s.mayWriteS w

/-- No writable field takes a reserved encoding (R7). -/
def encodingsOk (off v : Nat) : Bool :=
  match regAt off with
  | none => false
  | some r => r.fields.all (fun f => f.acc == .ro || f.acc == .rc ||
      (decide (f.least ≤ bits v f.lo f.width) && decide (bits v f.lo f.width ≤ f.most)))

/-- A register write: refused by its scope or for a reserved encoding with an event, else what the register does with it. -/
def State.regWrite (s : State) (w : Writer) (off v : Nat) (f : State → State) : State :=
  if s.mayWrite w off ∧ encodingsOk off v then f s else s.badWrite off v

end Sys2Proof.Machine
end

