-- ==== Sys2Proof/Machine/Memory.lean ====
section
/-!
DEFINITION. The stacked memory's own events (R211, R212, R225, R226): scrub, poisoning, retraining and channel test; and the
inventory of what is in service.
-/
namespace Sys2Proof.Machine

/-- An engine counts in the inventory unless it is FAILED, or failed and its spare does not serve yet (R12, R423). -/
def State.engineCounts (s : State) (e : Nat) : Bool :=
  let st := s.f (Fld.teStatus_state e)
  st != 3 && !(st == 2 && (match Sparse.get (fun _ => none) s.comp.spares (e / 16) with
    | some (x : Spare) => x.target == e % 16 && x.trigger == 0 | none => false))

/-- The inventory of units in service (R12, R423), from the status registers. -/
def State.inventoryUpdate (s : State) : State :=
  let arrays := (List.range 4).filter (fun a => s.flag (Fld.aryStatus_in_service a))
  let engines := ((List.range 64).filter s.engineCounts).length
  let spares := (List.range 4).filter (fun c => s.f (Fld.teSpareStatus_state c) == 0)
  let channels := ((List.range 16).map (fun h => if s.f (Fld.hsmStackStatus_state h) = 3 then 0
    else s.f (Fld.hsmStackStatus_in_service h))).foldl (· + ·) 0
  let nStacks := ((List.range 16).filter (fun h => s.f (Fld.hsmStackStatus_state h) != 3)).length
  (((((s.put Fld.inventory_arrays arrays.length).put Fld.inventory_array_mask ((arrays.map (2 ^ ·)).foldl (· + ·) 0)).put
    Fld.inventory_engines engines).put Fld.inventory_spares_idle ((spares.map (2 ^ ·)).foldl (· + ·) 0)).put
    Fld.inventory_channels channels).put Fld.inventory_stacks nStacks

/-- Device-wide bytes in service and the stacks' limits (R228): recomputed from the stacks' states. -/
def State.capacityUpdate (s : State) : State :=
  let lim (h : Nat) : Nat :=
    let base := 0x020000000000 + h * 0x001200000000
    if s.f (Fld.hsmStackStatus_state h) = 3 then base
    else if 2 ≤ s.f (Fld.hsmStackStatus_mapout_phase h) then base + rowLimit * 32 * 4096
    else 0x001200000000 + base
  let t := (List.range 16).foldl (fun t h => t.wr (Reg.hsmLimit h) (lim h)) s
  t.wr Reg.hsmCapacity (((List.range 16).map (fun h => lim h - (0x020000000000 + h * 0x001200000000))).foldl (· + ·) 0)

def State.setHsm (s : State) (x : Hsm) : State := { s with hsm := x }

/-- Mark a sector, by its place in the store of marks. -/
def State.markSector (s : State) (k : Nat) : State := { s with poison := Sparse.put poisonD s.poison k true }

/-- Owe the keep area a ledger entry. -/
def State.owe (s : State) (e : LedgerEntry) : State := { s with keep := { s.keep with owed := s.keep.owed ++ [e] } }

/-- CTLCLK counts of an hour. -/
def hourCounts : Nat := 1710000000000

/-- Sectors of a channel poisoned in the hour that ends now (R227). -/
def State.ueCount (s : State) (n : Nat) : Nat :=
  ((Sparse.get (fun _ => []) s.hsm.ueTimes n).filter (fun t => decide (s.now < t + hourCounts))).length

def State.setUeTimes (s : State) (n : Nat) (l : List Nat) : State :=
  s.setHsm { s.hsm with ueTimes := Sparse.put (fun _ => []) s.hsm.ueTimes n l }

/-- Poison a sector of a channel: the mark, the count, the last sector and the event (R211, SECTOR_POISON). -/
def State.poisonSector (s : State) (n sector : Nat) : State :=
  let t := s.markSector ((n * chBytes) / 32 + sector)
  let t := (t.bumpSat (Fld.hsmEcc_ue n) 1).put (Fld.hsmEcc_last_sector n) sector
  let t := t.setUeTimes n ((Sparse.get (fun _ => []) t.hsm.ueTimes n).filter (fun x => decide (t.now < x + hourCounts)) ++ [t.now])
  t.event Blk.hsm none (csCantle (n / 128)) n (genericPayload n (32 * sector) 0)

/-- A channel serves: SERVING, or MIGRATING until its cut-over. -/
def State.chServes (s : State) (n : Nat) : Bool := s.f (Fld.hsmChStatus_state n) == 1 || s.f (Fld.hsmChStatus_state n) == 4

/-- PATROL_SCRUB (R211): a sector of a serving channel is read, the patrol's next or the one an operation reads; the check's
finding is the memory's own.  A corrected error is written back; an uncorrectable one poisons the sector. -/
def patrolScrub (n find : Nat) (demand : Option Nat) (s : State) : State :=
  if s.chServes n = false ∨ s.serving = false then s
  else
    let k := Sparse.get (fun _ => 0) s.hsm.scrubAt n
    let t := if demand.isSome then s
      else s.setHsm { s.hsm with scrubAt := Sparse.put (fun _ => 0) s.hsm.scrubAt n ((k + 1) % (chBytes / 32)) }
    if find = 1 then t.bumpSat (Fld.hsmEcc_ce n) 1
    else if find = 2 then t.poisonSector n (demand.getD k)
    else t

def State.wantRetrain (s : State) (n : Nat) (b : Bool) : State :=
  { s with hsm := { s.hsm with retrainWanted := Sparse.put (fun _ => false) s.hsm.retrainWanted n b } }

def State.retrainWantedAt (s : State) (n : Nat) : Bool := Sparse.get (fun _ => false) s.hsm.retrainWanted n

/-- HSM_RETRAIN_REQ (R226): a request for a channel. -/
def writeRetrainReq (w : Writer) (v : Nat) (s : State) : State :=
  if !s.writerDevice w then s.badWrite Reg.hsmRetrainReq v
  else if bits v 31 1 = 1 then s.wantRetrain (bits v 0 9) true else s

/-- The state of a channel that serves: MIGRATING while its rows migrate, else SERVING (R229). -/
def State.servingCode (s : State) (n : Nat) : Nat :=
  if s.f (Fld.hsmStackStatus_mapout_phase (n / 32)) = 2 ∧ s.f (Fld.hsmStackStatus_mapped_ch (n / 32)) = n % 32 then 4 else 1

/-- The stack temperature at a channel's last training (R226). -/
def State.trainedAt (s : State) (n : Nat) : Nat := Sparse.get (fun _ => 0) s.hsm.trainTemp n

/-- A channel has been trained at its stack's present temperature. -/
def State.markTrained (s : State) (n : Nat) : State :=
  s.setHsm { s.hsm with trainTemp := Sparse.put (fun _ => 0) s.hsm.trainTemp n (s.f (Fld.hsmStackStatus_temp (n / 32))) }

/-- The stack's temperature has moved by retrain_delta since a channel's last training. -/
def State.tempMoved (s : State) (n : Nat) : Bool :=
  let t0 := s.trainedAt n
  let tn := s.f (Fld.hsmStackStatus_temp (n / 32))
  decide (s.f Fld.hsmCfg_retrain_delta ≤ max t0 tn - min t0 tn)

/-- RETRAIN_TRIGGER (R212, R226): a temperature move of retrain_delta since the channel's last training, or 64 interface
retries in one second, asks for a retraining; an access whose fifth attempt failed counts as an uncorrectable error on its
sector. -/
def retrainTrigger (n : Nat) (byTemp : Bool) (retries : Nat) (failed : Option Nat) (s : State) : State :=
  if s.chServes n = false then s
  else if byTemp then (if s.tempMoved n then s.wantRetrain n true else s)
  else
    let t := s.bumpSat (Fld.hsmIferr_retries n) retries
    let t := match failed with | some k => t.poisonSector n k | none => t
    if 64 ≤ retries then t.wantRetrain n true else t

/-- A snapshot stop runs in some partition (R226). -/
def State.anyStop (s : State) : Bool := s.snap.stops.any (fun e => e.2.isSome)

/-- CHANNEL_RETRAIN (R226): a pending retraining starts when no channel of its stack retrains and no stop runs.  In a
resume it takes a channel that is still in self-refresh, before anything issues; a stop that the save broke does not run then
(R231, R304). -/
def channelRetrain (n : Nat) (s : State) : State :=
  let h := n / 32
  let resuming := s.f Fld.bootStatus_stage == 6 && !s.isHeld && s.f Fld.thmSaveStatus_state == 3
  if s.retrainWantedAt n ∧ ((s.chServes n ∧ s.serving ∧ s.anyStop = false) ∨ (s.f (Fld.hsmChStatus_state n) = 3 ∧ resuming)) ∧
      (List.range 32).all (fun c => s.f (Fld.hsmChStatus_state (32 * h + c)) != 2) then
    let t := (s.wantRetrain n false).put (Fld.hsmChStatus_state n) 2
    let t := t.bumpSat (Fld.hsmIferr_retrains n) 1
    t.setHsm { t.hsm with retrainSince := Sparse.put (fun _ => 0) t.hsm.retrainSince n t.now }
  else s

/-- HSM_TEST_n (R225): the pattern field takes the write; go is taken only from the lead, in OFF or MAPPED_OUT. -/
def writeHsmTest (w : Writer) (n v : Nat) (s : State) : State :=
  if !s.writerDevice w then s.badWrite (Reg.hsmTest n) v
  else
    let t := s.put (Fld.hsmTest_pattern n) (bits v 0 2)
    let st := s.f (Fld.hsmChStatus_state n)
    if bits v 2 1 = 0 then t
    else if w = .lead ∧ (st = 0 ∨ st = 5) then t.put (Fld.hsmTest_go n) 1
    else t.badWrite (Reg.hsmTest n) v

/-- HSM_TEST_DONE (R225): the error count is written and go clears. -/
def hsmTestDone (n errors : Nat) (s : State) : State :=
  if s.flag (Fld.hsmTest_go n) then (s.put (Fld.hsmTest_errors n) errors).put (Fld.hsmTest_go n) 0 else s

end Sys2Proof.Machine
end

