-- ==== Sys2Proof/Machine/Ladder.lean ====
section
/-!
DEFINITION. The ladder table and its layer instances (R192 to R200): entries in HBM, triggers, rises, and runtime writes
of a rung.  The close of an instance retires its items and stands with retirement in Contract.lean.
-/
namespace Sys2Proof.Machine

/-! ### Entries (R193) -/

/-- Address of entry i of partition p's table. -/
def State.ladAddr (s : State) (p i : Nat) : Nat := s.rd (Reg.ladderBase p) / 64 * 64 + 64 * i

def State.ladCtr (s : State) (p i : Nat) : Nat := s.word (s.ladAddr p i) 2
def State.ladSpan (s : State) (p i : Nat) : Nat := s.word (s.ladAddr p i + 2) 1
def State.ladBaseRung (s : State) (p i : Nat) : Nat := s.word (s.ladAddr p i + 3) 1
def State.ladSticky (s : State) (p i : Nat) : Bool := s.word (s.ladAddr p i + 5) 1 % 2 == 1
def State.ladItems (s : State) (p i : Nat) : Nat := s.word (s.ladAddr p i + 6) 2
/-- Address and length of the widen list for rung 1 or 2. -/
def State.ladList (s : State) (p i r : Nat) : Nat × Nat :=
  if r = 1 then (s.word (s.ladAddr p i + 8) 8, s.word (s.ladAddr p i + 0x10) 2)
  else if r = 2 then (s.word (s.ladAddr p i + 0x18) 8, s.word (s.ladAddr p i + 0x20) 2)
  else (0, 0)

/-- Whether a list for the rung is present. -/
def State.ladHasList (s : State) (p i r : Nat) : Bool := decide ((s.ladList p i r).1 ≠ 0) && decide ((s.ladList p i r).2 ≠ 0)

/-- Addresses of a widen list's items, in order. -/
def State.ladListAddrs (s : State) (p i r : Nat) : List Nat :=
  let l := s.ladList p i r
  if s.ladHasList p i r then (List.range l.2).map (fun k => l.1 + 128 * k) else []

/-- Current rung of an entry: the replayed record's while replay runs, else the entry's (R202). -/
def State.ladRung (s : State) (p i : Nat) : Nat :=
  match (s.part p).replay with
  | some r => (r.rungs.getD i 0#8).toNat
  | none => s.word (s.ladAddr p i + 4) 1

def State.setLadRung (s : State) (p i v : Nat) : State :=
  match (s.part p).replay with
  | some r => s.setPart p { s.part p with replay := some { r with rungs := r.rungs.set i (BitVec.ofNat 8 v) } }
  | none => s.storeLE (s.ladAddr p i + 4) 1 v

/-- Entries in the table; none while the policy does not honour it (R205). -/
def State.ladEntries (s : State) (p : Nat) : Nat :=
  if bits (s.numpol p) 17 1 = 1 then s.f (Fld.ladderCfg_entries p) else 0

/-- The entry whose counters a signal_ctr lies in (R193). -/
def State.ladEntryOf (s : State) (p ctr : Nat) : Option Nat :=
  if ctr = 0xFFFF then none else
  (List.range (s.ladEntries p)).find? (fun i =>
    s.ladCtr p i != 0xFFFF && decide (s.ladCtr p i ≤ ctr) && decide (ctr < s.ladCtr p i + s.ladSpan p i))

/-! ### Instances -/

def State.inst (s : State) (k : Nat) : Option LadInst := Sparse.get (fun _ => none) s.health.insts k

def State.setInst (s : State) (k : Nat) (x : Option LadInst) : State :=
  { s with health := { s.health with insts := Sparse.put (fun _ => none) s.health.insts k x } }

/-- Open instances with their names. -/
def State.openInsts (s : State) : List (Nat × LadInst) := s.health.insts.filterMap (fun e => e.2.map (fun x => (e.1, x)))

/-- Refresh CTL_LADDER_CFG_n.open. -/
def State.ladOpenUpdate (s : State) (p : Nat) : State :=
  s.putB (Fld.ladderCfg_open p) (s.openInsts.any (fun e => e.2.part == p))

/-- An item's own work has ended: it left the table, or its effects are complete. -/
def State.itemEnded (s : State) (admitNo : Nat) : Bool :=
  match s.inFlight.find? (fun e => e.2.admitNo == admitNo) with
  | some (_, o) => o.done.isSome
  | none => true

/-- All admitted items of the instance, queued and listed, have ended. -/
def State.instIdle (s : State) (x : LadInst) : Bool :=
  x.toAdmit.isEmpty && (x.items ++ x.listItems).all s.itemEnded

/-- An item of the instance failed or was aborted (R199). -/
def State.instBad (s : State) (x : LadInst) : Bool :=
  x.bad || (x.items ++ x.listItems).any (fun n => s.inFlight.any (fun e => e.2.admitNo == n && (match e.2.done with | some r => r != 0 | none => false)))

/-- All its queued items were admitted, and everything it ran has ended (R194). -/
def State.instComplete (s : State) (x : LadInst) : Bool := decide (s.ladItems x.part x.entry ≤ x.count) && s.instIdle x

/-! ### Triggers (R192, R195, R196) -/

/-- A trigger with no rung above: EV-0x0803 and the tops count. -/
def State.ladTop (s : State) (p ctr rung : Nat) : State :=
  (s.bumpSat (Fld.ladderStat_tops p) 1).event 0x0803 (some p) (s.partCantle p) 0 (toLE 2 ctr ++ toLE 1 rung)

/-- A trigger raised by the operation in a slot (R192): it waits for the instance's items to end, or is answered at once
where no repeat can follow. -/
def State.trigger (s : State) (slot : Nat) : State :=
  match s.op slot with
  | none => s
  | some o =>
    if o.told then s else
    let p := s.opPart o
    let s := s.setOp slot (some { o with told := true })
    match (match o.layer with | some k => (s.inst k).map (fun x => (k, x)) | none => none) with
    | none => s.ladTop p 0xFFFF 0xFF
    | some (k, x) =>
      if x.rung < 2 ∧ s.ladHasList p x.entry (x.rung + 1) then s.setInst k (some { x with trig := true })
      else s.ladTop p (s.ladCtr p x.entry) x.rung

/-- LADDER_RISE (R195): once every item of the instance has run to the end of its work. -/
def ladderRise (k : Nat) (s : State) : State :=
  match s.inst k with
  | none => s
  | some x =>
    let p := x.part
    let r := x.rung + 1
    if x.trig = false ∨ s.instBad x ∨ s.instComplete x = false ∨ s.ladHasList p x.entry r = false then s
    else
      let a := s.ladAddr p x.entry
      let t := s.setInst k (some { x with toAdmit := s.ladListAddrs p x.entry r, rung := r, trig := false, rose := true })
      let t := ((t.setLadRung p x.entry r).storeLE (a + 0x28) 8 x.step).storeLE (a + 0x30) 4 (s.word (a + 0x30) 4 + 1)
      let t := (t.bumpSat (Fld.ladderStat_rises p) 1).put (Fld.ladderStat_last_ctr p) (s.ladCtr p x.entry)
      let t := (x.items ++ x.listItems).foldl (fun y n =>
        match y.inFlight.find? (fun e => e.2.admitNo == n) with | some (sl, _) => y.orFlags sl 1 | none => y) t
      (t.mapBook p x.step (fun b => { b with rise := true })).event 0x0802 (some p) (s.partCantle p) 0
        (toLE 2 (s.ladCtr p x.entry) ++ toLE 1 r)

/-- LADDER_RUNG_WRITE (R197): the runtime writes an entry's rung; refused while an instance of the layer is open. -/
def ladderRungWrite (p i v : Nat) (s : State) : State :=
  if s.openInsts.any (fun e => e.2.part == p && e.2.entry == i) then
    s.event Blk.num (some p) (s.partCantle p) 0 (genericPayload (s.ladAddr p i + 4) v 0)
  else s.storeLE (s.ladAddr p i + 4) 1 v

/-- After a write from outside, rungs of layers with an open instance stand as they were, with an event (R197). -/
def State.guardRungs (before after : State) : State :=
  before.openInsts.foldl (fun t e =>
    let a := before.ladAddr e.2.part e.2.entry + 4
    if before.byte a = t.byte a then t
    else (t.poke a (before.byte a)).event Blk.num (some e.2.part) (t.partCantle e.2.part) 0 (genericPayload a (t.byte a).toNat 0)) after

end Sys2Proof.Machine
end

