-- ==== Sys2Proof/Machine/Random.lean ====
section
/-!
DEFINITION. Philox4x32-10 and the draws made from it (R59, R182, R183).  The round constants are those of the published
algorithm the spec names (assumption 11).
-/
namespace Sys2Proof.Machine

/-- The four counter words and two key words. -/
structure PhiloxState where
  c0 : Nat
  c1 : Nat
  c2 : Nat
  c3 : Nat
  k0 : Nat
  k1 : Nat
deriving DecidableEq, Repr

/-- One round, and the key bump after it. -/
def philoxRound (s : PhiloxState) : PhiloxState :=
  let p0 := 0xD2511F53 * s.c0
  let p1 := 0xCD9E8D57 * s.c2
  ⟨(p1 / 2 ^ 32) ^^^ s.c1 ^^^ s.k0, p1 % 2 ^ 32, (p0 / 2 ^ 32) ^^^ s.c3 ^^^ s.k1, p0 % 2 ^ 32,
   (s.k0 + 0x9E3779B9) % 2 ^ 32, (s.k1 + 0xBB67AE85) % 2 ^ 32⟩

def philoxRounds : Nat → PhiloxState → PhiloxState
  | 0, s => s
  | n + 1, s => philoxRounds n (philoxRound s)

/-- The 128-bit result, word 0 in the low bits (R182). -/
def philox (seed rngStep stream offset : Nat) : Nat :=
  let s := philoxRounds 10
    ⟨offset % 2 ^ 32, offset / 2 ^ 32 % 2 ^ 16 + stream % 2 ^ 16 * 2 ^ 16,
     stream / 2 ^ 16 % 2 ^ 16 + rngStep % 2 ^ 16 * 2 ^ 16, rngStep / 2 ^ 16 % 2 ^ 32,
     seed % 2 ^ 32, seed / 2 ^ 32 % 2 ^ 32⟩
  s.c0 + 2 ^ 32 * s.c1 + 2 ^ 64 * s.c2 + 2 ^ 96 * s.c3

/-- The 16-bit draw for element e of an output (R59). -/
def drawElem (seed rngStep stream base e : Nat) : Nat :=
  bits (philox seed rngStep stream (base + e / 8)) (16 * (e % 8)) 16

/-- The rng_step of an operation's stamped step: the recorded one in replay (R186). -/
def State.rngStep (s : State) (p stamp : Nat) : Nat :=
  match (s.part p).replay with
  | some r => r.rngStep
  | none => stamp

/-- The partition's seed: the replayed record's, else CTL_RNG_SEED_n (R202). -/
def State.seed (s : State) (p : Nat) : Nat :=
  match (s.part p).replay with
  | some r => r.seed
  | none => s.rd (Reg.rngSeed p)

end Sys2Proof.Machine
end

