-- ==== Sys2Proof/Machine/Sfu.lean ====
section
/-!
DEFINITION. The special-function unit (R120): correctly rounded FP32 values of exp, log, reciprocal, reciprocal square
root and tanh.  Reciprocal and root are rational; exp, log and tanh are enclosed between a lower and an upper bound in
fixed point with 300 fraction bits, and where both round to one FP32 value that is the result.  Should the bounds not
settle the rounding, the result is the opaque Config.sfuOpen (assumption 7).
-/
namespace Sys2Proof.Machine

/-- Fraction bits of the enclosures. -/
def sfuBits : Nat := 300

/-- An enclosure lo / 2^300 to hi / 2^300 of a positive real. -/
structure Enc where
  lo : Nat
  hi : Nat
deriving DecidableEq, Repr

def encMul (a b : Enc) : Enc := ⟨a.lo * b.lo / 2 ^ sfuBits, a.hi * b.hi / 2 ^ sfuBits + 1⟩

/-- Taylor sum of exp: terms k, k + 1, … of the running term t = y^k / k!, n of them. -/
def expTerms (y : Enc) : Nat → Nat → Enc → Enc → Enc
  | 0, _, _, acc => ⟨acc.lo, acc.hi + 1⟩
  | n + 1, k, t, acc =>
    let m := encMul t y
    let t' : Enc := ⟨m.lo / (k + 1), m.hi / (k + 1) + 1⟩
    expTerms y n (k + 1) t' ⟨acc.lo + t'.lo, acc.hi + t'.hi⟩

def encSquare : Nat → Enc → Enc
  | 0, e => e
  | n + 1, e => encSquare n (encMul e e)

/-- exp of num / den, for 0 ≤ num / den ≤ 256: argument scaled by 2^-10, 60 terms, ten squarings.  The 60-term tail is
below the last unit for an argument of at most 1/4. -/
def encExp (num den : Nat) : Enc :=
  let y : Enc := ⟨num * 2 ^ sfuBits / (den * 1024), num * 2 ^ sfuBits / (den * 1024) + 1⟩
  encSquare 10 (expTerms y 60 0 ⟨2 ^ sfuBits, 2 ^ sfuBits⟩ ⟨2 ^ sfuBits, 2 ^ sfuBits⟩)

/-- atanh series terms z^(2i+1) / (2i+1), n of them. -/
def atanhTerms (z2 : Enc) : Nat → Nat → Enc → Enc → Enc
  | 0, _, _, acc => ⟨acc.lo, acc.hi + 1⟩
  | n + 1, i, t, acc =>
    let acc' : Enc := ⟨acc.lo + t.lo / (2 * i + 1), acc.hi + t.hi / (2 * i + 1) + 1⟩
    atanhTerms z2 n (i + 1) (encMul t z2) acc'

/-- 2 atanh z for z = num / den ≤ 1/3: the logarithm of (1 + z) / (1 - z). -/
def encLog1 (num den : Nat) : Enc :=
  let z : Enc := ⟨num * 2 ^ sfuBits / den, num * 2 ^ sfuBits / den + 1⟩
  let s := atanhTerms (encMul z z) 100 0 z ⟨0, 0⟩
  ⟨2 * s.lo, 2 * s.hi⟩

/-- The FP32 encoding of a real enclosed between two quotients, where both ends round alike. -/
def sfuSettle (code : Nat) (x : Word32) (a b : Val) : Word32 :=
  if fp32 false a = fp32 false b then fp32 false a else Config.sfuOpen code x

def sfuExp (x : Word32) : Word32 :=
  match Fmt.fp32.decode x.toNat with
  | .nan => 0x7FC00000#32
  | .inf s => if s then 0#32 else 0x7F800000#32
  | .fin s n d =>
    if n = 0 then 0x3F800000#32
    else if 256 * d < n then (if s then 0#32 else 0x7F800000#32)
    else
      let e := encExp n d
      if s then sfuSettle 0x20 x (.fin false (2 ^ sfuBits) e.hi) (.fin false (2 ^ sfuBits) e.lo)
      else sfuSettle 0x20 x (.fin false e.lo (2 ^ sfuBits)) (.fin false e.hi (2 ^ sfuBits))

def sfuLog (x : Word32) : Word32 :=
  match Fmt.fp32.decode x.toNat with
  | .nan => 0x7FC00000#32
  | .inf s => if s then 0x7FC00000#32 else 0x7F800000#32
  | .fin s n d =>
    if n = 0 then 0xFF800000#32
    else if s then 0x7FC00000#32
    else
      let k := ilog2 n d
      let m := if 0 ≤ k then n else n * 2 ^ (-k).toNat
      let q := if 0 ≤ k then d * 2 ^ k.toNat else d
      let l := encLog1 (m - q) (m + q)
      let ln2 := encLog1 1 3
      let w : Nat := 2 ^ sfuBits
      if 0 ≤ k then
        if k = 0 ∧ m = q then 0#32
        else sfuSettle 0x21 x (.fin false (k.toNat * ln2.lo + l.lo) w) (.fin false (k.toNat * ln2.hi + l.hi) w)
      else
        let j := (-k).toNat
        sfuSettle 0x21 x (.fin true (j * ln2.lo - l.hi) w) (.fin true (j * ln2.hi - l.lo) w)

def sfuRcp (x : Word32) : Word32 :=
  match Fmt.fp32.decode x.toNat with
  | .nan => 0x7FC00000#32
  | .inf s => if s then 0x80000000#32 else 0#32
  | .fin s n d => if n = 0 then (if s then 0xFF800000#32 else 0x7F800000#32) else fp32 false (.fin s d n)

def sfuRsq (x : Word32) : Word32 :=
  match Fmt.fp32.decode x.toNat with
  | .nan => 0x7FC00000#32
  | .inf s => if s then 0x7FC00000#32 else 0#32
  | .fin s n d =>
    if n = 0 then (if s then 0xFF800000#32 else 0x7F800000#32)
    else if s then 0x7FC00000#32
    else fp32 false (sqrtVal d n)

def sfuTanh (x : Word32) : Word32 :=
  match Fmt.fp32.decode x.toNat with
  | .nan => 0x7FC00000#32
  | .inf s => if s then 0xBF800000#32 else 0x3F800000#32
  | .fin s n d =>
    if n = 0 then x
    else if 64 * d < n then (if s then 0xBF800000#32 else 0x3F800000#32)
    else
      let e := encExp (2 * n) d
      let w : Nat := 2 ^ sfuBits
      sfuSettle 0x24 x (.fin s (e.lo - w) (e.lo + w)) (.fin s (e.hi - w) (e.hi + w))

end Sys2Proof.Machine
end

