-- ==== Sys2Proof/Machine/Kernel.lean ====
section
/-!
DEFINITION. The kernel instruction set of the tile engines as vector arithmetic (R114 to R123): one definition per
instruction over a vector context.  A lane holds bits of the lane type: FP32 in W32, BF16 in W16, E4M3 in W8.
-/
namespace Sys2Proof.Machine

/-- An instruction word (R123). -/
structure KWord where
  op : Nat
  d : Nat
  a : Nat
  b : Nat
  c : Nat
  sweep : Nat
  imm : Nat
deriving DecidableEq, Repr

def KWord.parse (w : Nat) : KWord :=
  ⟨bits w 0 8, bits w 8 5, bits w 13 5, bits w 18 5, bits w 23 5, bits w 28 2, bits w 32 32⟩

/-- One vector's context: lanes by register, uncommitted stores and scalar contributions, and flag counts. -/
structure Vec where
  regs : List (Nat × List Word32)
  stores : List (Nat × Nat × Nat)      -- output, element index, encoding
  sums : List (Nat × Nat × Word32)     -- reduction opcode, scalar, contribution
  sat : Nat                            -- elements whose conversion saturated
  nonfin : Nat
  conv : Nat                           -- elements narrowed by ST
deriving DecidableEq, Repr

def vecEmpty : Vec := ⟨[], [], [], 0, 0, 0⟩

/-- What a vector's instructions see: width code, lanes, per-lane column and row, active lanes, inputs, parameters. -/
structure KEnv where
  width : Nat                          -- 0 W32, 1 W16, 2 W8
  heritage : Bool
  col : List Nat                       -- per lane: IDX with imm[0] = 0
  row : List Nat                       -- per lane: IDX with imm[0] = 1
  elem : List Nat                      -- per lane: element index e of R122
  active : List Bool
  input : List (List Val)              -- per input context: the exact value at each lane
  inBits : List Nat                    -- width of each input context's elements, 0 for the lane type itself
  outFmt : List (Option Fmt)           -- per output context
  params : List Word32
  consts : List Word32
  scalars : List (Nat × Word32)
  draw : Nat → Nat → Nat               -- output context (0, 1, or 2 for CVT), element: the 16-bit draw

/-- The lane type (R119). -/
def KEnv.lane (e : KEnv) : Fmt := if e.width = 0 then .fp32 else if e.width = 1 then .bf16 else .e4m3

/-- Number of lanes. -/
def KEnv.lanes (e : KEnv) : Nat := e.active.length

/-- All ones of the lane type: a true compare (R118). -/
def KEnv.ones (e : KEnv) : Word32 := BitVec.ofNat 32 (2 ^ e.lane.bits - 1)

def Vec.reg (v : Vec) (i : Nat) : List Word32 :=
  match v.regs.find? (fun r => r.1 == i) with | some r => r.2 | none => []

def Vec.setReg (v : Vec) (i : Nat) (x : List Word32) : Vec :=
  { v with regs := (i, x) :: v.regs.filter (fun r => r.1 != i) }

/-- A lane's exact value as an operand. -/
def KEnv.val (e : KEnv) (w : Word32) : Val := (e.lane.decode w.toNat).flush e.heritage e.lane

/-- Round a result into the lane type, with the conversion's flags. -/
def KEnv.into (e : KEnv) (v : Val) : Conv :=
  let c := e.lane.convert .rne v
  if e.heritage && (e.lane.decode c.bits).subnormalIn e.lane then { c with bits := if v.sign then 2 ^ (e.lane.bits - 1) else 0 } else c

/-- Place values in a register, rounded to the lane type.  Only W8 results count saturations and set the flag (R119);
inactive lanes count nothing. -/
def Vec.place (v : Vec) (e : KEnv) (d : Nat) (xs : List Val) : Vec :=
  let cs := xs.map e.into
  let n := if e.width = 2 then ((cs.zip e.active).filter (fun c => c.1.sat && c.2)).length else 0
  { v.setReg d (cs.map (fun c => BitVec.ofNat 32 c.bits)) with sat := v.sat + n }

def laneMap1 (e : KEnv) (f : Val → Val) (v : Vec) (w : KWord) : Vec :=
  v.place e w.d ((v.reg w.a).map (fun x => f (e.val x)))

def laneMap2 (e : KEnv) (f : Val → Val → Val) (v : Vec) (w : KWord) : Vec :=
  v.place e w.d (List.zipWith (fun x y => f (e.val x) (e.val y)) (v.reg w.a) (v.reg w.b))

def laneCmp (e : KEnv) (f : Val → Val → Bool) (v : Vec) (w : KWord) : Vec :=
  v.setReg w.d (List.zipWith (fun x y => if f (e.val x) (e.val y) then e.ones else 0#32) (v.reg w.a) (v.reg w.b))

def laneBits (f : Word32 → Word32 → Word32) (v : Vec) (w : KWord) : Vec :=
  v.setReg w.d (List.zipWith f (v.reg w.a) (v.reg w.b))

/-- Convert values from a wider format into the lane type: saturations and non-finite sources count one per active lane
(R57, R119, R122). -/
def Vec.placeFrom (v : Vec) (e : KEnv) (d : Nat) (xs : List Val) : Vec :=
  let cs := (xs.map e.into).zip e.active
  { v.setReg d (cs.map (fun c => BitVec.ofNat 32 c.1.bits)) with
    sat := v.sat + (cs.filter (fun c => c.1.sat && c.2)).length,
    nonfin := v.nonfin + (cs.filter (fun c => c.1.nonfin && c.2)).length }

/-- Copy one FP32 value into every lane: unchanged bits in W32, rounded to the lane type otherwise (R119). -/
def laneFill (e : KEnv) (x : Word32) (v : Vec) (w : KWord) : Vec :=
  if e.width = 0 then v.setReg w.d (List.replicate e.lanes x)
  else v.placeFrom e w.d (List.replicate e.lanes (val32 e.heritage x))

/-- Lane-wise minimum: NaN absorbs, and -0 is below +0 (R118). -/
def valMin (a b : Val) : Val :=
  if a.isNan || b.isNan then .nan
  else if a.lt b then a else if b.lt a then b else if a.sign then a else b

/-- Lane-wise maximum: NaN absorbs, and +0 is above -0 (R118). -/
def valMax (a b : Val) : Val :=
  if a.isNan || b.isNan then .nan
  else if b.lt a then a else if a.lt b then b else if a.sign then b else a

/-! ### The instructions -/

def kNop (_ : KEnv) (_ : KWord) (v : Vec) : Vec := v

/-- LD: the input context's elements, converted to the lane type: exactly, or rounded from a format that is not narrower (R122). -/
def kLd (e : KEnv) (w : KWord) (v : Vec) : Vec :=
  let i := bits w.imm 0 2
  if e.lane.bits ≤ e.inBits.getD i 0 then v.placeFrom e w.d (e.input.getD i [])
  else v.place e w.d (e.input.getD i [])

/-- ST: convert a, or the exact product a times b, into the output's format; takes effect when the vector retires. -/
def kSt (e : KEnv) (w : KWord) (v : Vec) : Vec :=
  let o := bits w.imm 0 1
  match (e.outFmt.getD o none) with
  | none => v
  | some f =>
    let xs := if bits w.imm 2 1 = 1 then
        List.zipWith (fun x y => (e.val x).mul (e.val y)) (v.reg w.a) (v.reg w.b)
      else (v.reg w.a).map e.val
    let cs := (xs.zip e.elem).map (fun p =>
      let c := f.convert (if bits w.imm 1 1 = 1 then .stoch (e.draw o p.2) else .rne) p.1
      if e.heritage && (f.decode c.bits).subnormalIn f then { c with bits := if p.1.sign then 2 ^ (f.bits - 1) else 0 } else c)
    let live := ((cs.zip e.elem).zip e.active).filter (fun p => p.2)
    { v with
      stores := v.stores ++ live.map (fun p => (o, p.1.2, p.1.1.bits)),
      sat := v.sat + (live.filter (fun p => p.1.1.sat)).length,
      nonfin := v.nonfin + (live.filter (fun p => p.1.1.nonfin)).length,
      conv := v.conv + (if f.scaled || f == .bf16 then live.length else 0) }

def kLdi (e : KEnv) (w : KWord) (v : Vec) : Vec := laneFill e (BitVec.ofNat 32 w.imm) v w

def kLdp (e : KEnv) (w : KWord) (v : Vec) : Vec := laneFill e (e.params.getD (bits w.imm 0 3) 0#32) v w

/-- LDS: a row scalar; +0 while empty (R116). -/
def kLds (e : KEnv) (w : KWord) (v : Vec) : Vec :=
  laneFill e (match e.scalars.find? (fun x => x.1 == bits w.imm 0 3) with | some x => x.2 | none => 0#32) v w

def kIdx (e : KEnv) (w : KWord) (v : Vec) : Vec :=
  let xs := if bits w.imm 0 1 = 1 then e.row else e.col
  v.placeFrom e w.d (xs.map (fun n => .fin false (n % 2 ^ 24) 1))

def kLdk (e : KEnv) (w : KWord) (v : Vec) : Vec := laneFill e (e.consts.getD (bits w.imm 0 3) 0#32) v w

def kAdd (e : KEnv) (w : KWord) (v : Vec) : Vec := laneMap2 e Val.add v w
def kSub (e : KEnv) (w : KWord) (v : Vec) : Vec := laneMap2 e Val.sub v w
def kMul (e : KEnv) (w : KWord) (v : Vec) : Vec := laneMap2 e Val.mul v w

def kFma (e : KEnv) (w : KWord) (v : Vec) : Vec :=
  v.place e w.d (List.zipWith (fun p z => (Val.fma (e.val p.1) (e.val p.2) (e.val z))) ((v.reg w.a).zip (v.reg w.b)) (v.reg w.c))

def kMin (e : KEnv) (w : KWord) (v : Vec) : Vec := laneMap2 e valMin v w
def kMax (e : KEnv) (w : KWord) (v : Vec) : Vec := laneMap2 e valMax v w
def kAbs (e : KEnv) (w : KWord) (v : Vec) : Vec := laneMap1 e Val.abs v w
def kNeg (e : KEnv) (w : KWord) (v : Vec) : Vec := laneMap1 e Val.neg v w
def kClt (e : KEnv) (w : KWord) (v : Vec) : Vec := laneCmp e Val.lt v w
def kCle (e : KEnv) (w : KWord) (v : Vec) : Vec := laneCmp e Val.le v w
def kCeq (e : KEnv) (w : KWord) (v : Vec) : Vec := laneCmp e Val.eq v w
def kCne (e : KEnv) (w : KWord) (v : Vec) : Vec := laneCmp e (fun a b => !a.eq b) v w

/-- SEL: a where c is nonzero as a bit pattern, b elsewhere. -/
def kSel (_ : KEnv) (w : KWord) (v : Vec) : Vec :=
  v.setReg w.d (List.zipWith (fun p z => if z = 0#32 then p.2 else p.1) ((v.reg w.a).zip (v.reg w.b)) (v.reg w.c))

def kAnd (_ : KEnv) (w : KWord) (v : Vec) : Vec := laneBits (fun x y => x &&& y) v w
def kOr (_ : KEnv) (w : KWord) (v : Vec) : Vec := laneBits (fun x y => x ||| y) v w
def kXor (_ : KEnv) (w : KWord) (v : Vec) : Vec := laneBits (fun x y => x ^^^ y) v w

/-- FIN: a mask of the finite lanes. -/
def kFin (e : KEnv) (w : KWord) (v : Vec) : Vec :=
  v.setReg w.d ((v.reg w.a).map (fun x => if (e.val x).isFin then e.ones else 0#32))

/-- An SFU instruction: the FP32 value of the exact function, then the lane type (R120); heritage flushes. -/
def kSfu (f : Word32 → Word32) (e : KEnv) (w : KWord) (v : Vec) : Vec :=
  v.place e w.d ((v.reg w.a).map (fun x => val32 e.heritage (f (fp32 e.heritage (e.val x)))))

def kExp (e : KEnv) (w : KWord) (v : Vec) : Vec := kSfu sfuExp e w v
def kLog (e : KEnv) (w : KWord) (v : Vec) : Vec := kSfu sfuLog e w v
def kRcp (e : KEnv) (w : KWord) (v : Vec) : Vec := kSfu sfuRcp e w v
def kRsq (e : KEnv) (w : KWord) (v : Vec) : Vec := kSfu sfuRsq e w v
def kTanh (e : KEnv) (w : KWord) (v : Vec) : Vec := kSfu sfuTanh e w v

/-- A tree node: an inactive child passes the other unchanged (R121). -/
def treeNode (f : Word32 → Word32 → Word32) : Option Word32 → Option Word32 → Option Word32
  | some a, some b => some (f a b)
  | some a, none => some a
  | none, b => b

/-- One level of the fixed tree: lane i with lane i + half. -/
def treeLevel (f : Word32 → Word32 → Word32) (half : Nat) (xs : List (Option Word32)) : List (Option Word32) :=
  List.zipWith (treeNode f) (xs.take half) (xs.drop half)

/-- The nine levels over 512 lanes. -/
def treeReduce (f : Word32 → Word32 → Word32) (xs : List (Option Word32)) : Option Word32 :=
  (([256, 128, 64, 32, 16, 8, 4, 2, 1].foldl (fun l h => treeLevel f h l) xs).headD none)

/-- The combining operation of a reduction on FP32 words. -/
def redFn (h : Bool) (op : Nat) (a b : Word32) : Word32 :=
  if op = 0x28 then add32 h a b
  else if op = 0x29 then fp32 h (valMax (val32 h a) (val32 h b))
  else fp32 h (valMin (val32 h a) (val32 h b))

/-- A reduction: per 512-lane vector of the slot, in ascending order, one contribution to scalar d. -/
def kReduce (op : Nat) (e : KEnv) (w : KWord) (v : Vec) : Vec :=
  let xs := ((v.reg w.a).zip e.active).map (fun p => if p.2 then some (fp32 e.heritage (e.val p.1)) else none)
  let parts := (chunks 512 xs).filterMap (treeReduce (redFn e.heritage op))
  { v with sums := v.sums ++ parts.map (fun x => (op, w.d, x)) }

def kRsum (e : KEnv) (w : KWord) (v : Vec) : Vec := kReduce 0x28 e w v
def kRmax (e : KEnv) (w : KWord) (v : Vec) : Vec := kReduce 0x29 e w v
def kRmin (e : KEnv) (w : KWord) (v : Vec) : Vec := kReduce 0x2A e w v

/-- CVT: round to a narrow format, held as FP32; its draws are those of R183. -/
def kCvt (e : KEnv) (w : KWord) (v : Vec) : Vec :=
  match Fmt.ofCode (bits w.imm 0 4) with
  | none => v
  | some f =>
    let cs := ((v.reg w.a).zip e.elem).map (fun p =>
      f.convert (if bits w.imm 4 1 = 1 then .stoch (e.draw 2 p.2) else .rne) (e.val p.1))
    let t := v.place e w.d (cs.map (fun c => (f.decode c.bits).flush e.heritage f))
    { t with sat := t.sat + ((cs.zip e.active).filter (fun c => c.1.sat && c.2)).length,
             nonfin := t.nonfin + ((cs.zip e.active).filter (fun c => c.1.nonfin && c.2)).length }

/-- The instruction an opcode names. -/
def kInstr (op : Nat) : KEnv → KWord → Vec → Vec :=
  match op with
  | 0x01 => kLd | 0x02 => kSt | 0x03 => kLdi | 0x04 => kLdp | 0x05 => kLds | 0x06 => kIdx | 0x07 => kLdk
  | 0x08 => kAdd | 0x09 => kSub | 0x0A => kMul | 0x0B => kFma | 0x0C => kMin | 0x0D => kMax | 0x0E => kAbs | 0x0F => kNeg
  | 0x10 => kClt | 0x11 => kCle | 0x12 => kCeq | 0x13 => kCne | 0x14 => kSel | 0x15 => kAnd | 0x16 => kOr | 0x17 => kXor
  | 0x18 => kFin | 0x20 => kExp | 0x21 => kLog | 0x22 => kRcp | 0x23 => kRsq | 0x24 => kTanh
  | 0x28 => kRsum | 0x29 => kRmax | 0x2A => kRmin | 0x30 => kCvt
  | _ => kNop

/-- A straight-line program over one vector. -/
def kRun (e : KEnv) (ws : List KWord) (v : Vec) : Vec := ws.foldl (fun v w => kInstr w.op e w v) v

/-! ### Programs and their checks (R114, R115) -/

structure KProg where
  version : Nat
  count : Nat
  sweeps : Nat
  width : Nat
  modeHi : Nat
  rowLen : Nat
  words : List KWord
  rawOk : Bool                         -- reserved header bytes and instruction bits are zero
  consts : List Word32
deriving DecidableEq, Repr

/-- The bytes of a program in HBM: the header and as many instructions as it counts. -/
def State.programBytes (s : State) (a : Nat) : List Byte := s.bytes a (64 + 8 * s.word (a + 2) 1)

/-- A program from its bytes. -/
def KProg.ofBytes (h : List Byte) : KProg :=
  let n := fieldLE h 2 1
  let raw := (List.range n).map (fun i => fieldLE h (64 + 8 * i) 8)
  { version := fieldLE h 0 2, count := n, sweeps := fieldLE h 3 1 % 4, width := fieldLE h 3 1 / 4 % 4,
    modeHi := fieldLE h 3 1 / 16, rowLen := fieldLE h 4 4, words := raw.map KWord.parse,
    rawOk := zeroAt h 8 24 && raw.all (fun w => bits w 30 2 == 0),
    consts := (List.range 8).map (fun i => BitVec.ofNat 32 (fieldLE h (0x20 + 4 * i) 4)) }

/-- Source registers an instruction reads. -/
def KWord.sources (w : KWord) : List Nat :=
  if w.op = 0x02 then (if bits w.imm 2 1 = 1 then [w.a, w.b] else [w.a])
  else if (0x08 ≤ w.op ∧ w.op ≤ 0x0A) ∨ w.op = 0x0C ∨ w.op = 0x0D ∨ (0x10 ≤ w.op ∧ w.op ≤ 0x13) ∨ (0x15 ≤ w.op ∧ w.op ≤ 0x17)
    then [w.a, w.b]
  else if w.op = 0x0B ∨ w.op = 0x14 then [w.a, w.b, w.c]
  else if w.op = 0x0E ∨ w.op = 0x0F ∨ w.op = 0x18 ∨ (0x20 ≤ w.op ∧ w.op ≤ 0x24) ∨ (0x28 ≤ w.op ∧ w.op ≤ 0x2A) ∨ w.op = 0x30
    then [w.a]
  else []

/-- Whether the instruction writes vector register d. -/
def KWord.writes (w : KWord) : Bool := w.op != 0 && w.op != 2 && !(decide (0x28 ≤ w.op) && decide (w.op ≤ 0x2A))

def KWord.isReduce (w : KWord) : Bool := decide (0x28 ≤ w.op) && decide (w.op ≤ 0x2A)
def KWord.isSfu (w : KWord) : Bool := decide (0x20 ≤ w.op) && decide (w.op ≤ 0x24)

/-- No reserved field: d is 0 for ST and a scalar's index for a reduction, and CVT names one of its formats (R115, R123).
Fields that an instruction does not use are ignored. -/
def KWord.fieldsOk (w : KWord) : Bool :=
  if w.op = 0x02 then w.d == 0
  else if w.isReduce then decide (w.d < 8)
  else if w.op = 0x30 then decide (1 ≤ w.imm % 16) && decide (w.imm % 16 ≤ 4)
  else true

def kOpcodes : List Nat :=
  (List.range 0x19) ++ [0x20, 0x21, 0x22, 0x23, 0x24, 0x28, 0x29, 0x2A, 0x30]

/-- Vector registers are written before they are read within a sweep, starting from a given set (R115). -/
def readsOk : List KWord → List Nat → Bool
  | [], _ => true
  | w :: ws, wr => w.sources.all (fun r => wr.contains r) && readsOk ws (if w.writes then w.d :: wr else wr)

/-- Row scalars are read only in sweeps after the one that reduces into them (R115). -/
def scalarsOk (ws : List KWord) : Bool :=
  ws.all (fun r => r.op != 5 || ws.all (fun x => !x.isReduce || x.d != bits r.imm 0 3 || decide (x.sweep < r.sweep)))

/-- The conditions of R114 and R115 that hold of every program; entry lists the registers that hold values on entry. -/
def KProg.wellFormed (p : KProg) (entry : List Nat) : Bool :=
  p.version == 1 && decide (1 ≤ p.count) && decide (p.count ≤ 64) && decide (1 ≤ p.sweeps) && decide (p.width ≤ 2) &&
  p.modeHi == 0 && decide (p.rowLen ≤ 65536) && p.rawOk &&
  p.words.all (fun w => kOpcodes.contains w.op && w.fieldsOk && decide (w.sweep < p.sweeps) &&
    !(w.isSfu && p.width == 2) && !(w.isReduce && p.rowLen == 0) && !(w.op == 1 && p.rowLen == 0 && bits w.imm 2 1 == 1)) &&
  (List.range 3).all (fun k => readsOk (p.words.filter (fun w => w.sweep == k)) entry) && scalarsOk p.words

/-- The form of an epilogue (R109): one sweep, no rows, W32, no LD, ST, LDP or reduction; v0 holds the sums. -/
def KProg.epilogueOk (p : KProg) : Bool :=
  p.wellFormed [0] && p.sweeps == 1 && p.rowLen == 0 && p.width == 0 &&
  p.words.all (fun w => w.op != 1 && w.op != 2 && w.op != 4 && !w.isReduce)

/-- The form of a USER update program (R223). -/
def KProg.userOk (p : KProg) : Bool :=
  p.wellFormed [0, 1, 2, 3] && p.sweeps == 1 && p.rowLen == 0 && p.width == 0 &&
  p.words.all (fun w => w.op != 1 && w.op != 2 && w.op != 5 && w.op != 6 && !w.isReduce)

end Sys2Proof.Machine
end

