-- ==== Sys2Proof/Machine/Streams.lean ====
section
/-!
DEFINITION. Stream contexts, descriptors and the engines that take them (R129 to R140), and the commands of the stream
table: open, close, doorbell, resync, burst fetch, slot grant and the watchdog.
-/
namespace Sys2Proof.Machine

/-! ### Contexts -/

def ctxD : Nat → Ctx := fun _ =>
  ⟨0, 0, 0, 0, 0, 0, 0, 0, 0, 0, 0, 0xFFFF, 0, 0, 0, none, [], 0, [], 0, false, none, 0⟩

def State.ctx (s : State) (i : Nat) : Ctx := Sparse.get ctxD s.strm.ctxs i

def State.setCtx (s : State) (i : Nat) (c : Ctx) : State :=
  { s with strm := { s.strm with ctxs := Sparse.put ctxD s.strm.ctxs i c } }

/-- The home compute stack of a context (R129). -/
def ctxHome (i : Nat) : Nat := i / 16384

/-- A firmware index: the highest 256 of each stack's quarter (R129). -/
def ctxFirmware (i : Nat) : Bool := decide (0x3F00 ≤ i % 16384)

/-- The 64 bytes of a context as STRM_CTX_WORD_0 to 7 show them (R130). -/
def Ctx.toBytes (c : Ctx) : List Byte :=
  toLE 8 c.ringBase ++ toLE 1 c.ringLog2 ++ toLE 1 c.state ++ toLE 1 c.partition ++ toLE 1 c.dir ++ toLE 2 c.minSlots ++
  toLE 2 c.maxSlots ++ toLE 4 c.head ++ toLE 4 c.tail ++ toLE 8 c.position ++ toLE 2 c.held ++ toLE 2 c.boundSlot ++
  toLE 4 0 ++ toLE 8 c.waitSince ++ toLE 8 c.bytes ++ toLE 8 c.rngPos

/-- Contexts of one home stack that hold a reservation (OPEN or STALE). -/
def State.openCtxs (s : State) (home : Nat) : List Ctx :=
  (s.strm.ctxs.filter (fun e => ctxHome e.1 == home && e.2.state != 0)).map Prod.snd

/-- Firmware slots of a stack's pool (R147). -/
def State.fwSlots (s : State) : Nat := 64 * s.f Fld.strmSplit_fw_slots_kib

/-- Sum of min_slots over a stack's open contexts, plus the firmware reserve (R147). -/
def State.reservedSum (s : State) (home : Nat) : Nat :=
  ((s.openCtxs home).map Ctx.minSlots).foldl (· + ·) s.fwSlots

/-- Refresh STRM_POOL_s from the contexts homed at the stack. -/
def State.poolUpdate (s : State) (home : Nat) : State :=
  let cs := s.openCtxs home
  let use := (cs.map Ctx.held).foldl (· + ·) 0
  let t := ((s.put (Fld.strmPool_reserved_sum home) (s.reservedSum home)).put (Fld.strmPool_in_use home) use).put
    (Fld.strmPool_open_ctx home) (min cs.length 65535)
  t.put (Fld.strmPool_high_water home) (max (t.f (Fld.strmPool_high_water home)) use)

/-- The contexts an item's body names, with whether each is a destination (R24). -/
def itemCtxs (item : List Byte) : List (Nat × Bool) :=
  let c o := fieldLE item o 4
  match fieldLE item 0 1 with
  | 1 => [(c 0x20, false), (c 0x24, false), (c 0x28, true)]
  | 2 => ([(c 0x30, false), (c 0x34, false), (c 0x38, false), (c 0x3C, false), (c 0x40, true), (c 0x44, true)]).filter
      (fun e => e.1 != 0xFFFFFFFF)
  | 3 => ([(c 0x20, false), (c 0x24, true)]).filter (fun e => e.1 != 0xFFFFFFFF)
  | _ => []

/-- Whether an admitted operation names a context. -/
def State.ctxNamed (s : State) (i : Nat) : Bool :=
  s.inFlight.any (fun e => (itemCtxs e.2.item).any (fun c => c.1 == i))

/-! ### Descriptors (R136 to R138) -/

/-- A signed little-endian field of n bytes. -/
def fieldSigned (bs : List Byte) (o n : Nat) : Int :=
  let v := fieldLE bs o n
  if v < 2 ^ (8 * n - 1) then v else (v : Int) - 2 ^ (8 * n)

def Desc.parse (bs : List Byte) : Desc where
  start := fieldLE bs 0 8
  strides := [fieldSigned bs 0x08 6, fieldSigned bs 0x0E 6, fieldSigned bs 0x14 6, fieldSigned bs 0x1A 6, fieldSigned bs 0x20 6]
  counts := [fieldLE bs 0x26 3 + 1, fieldLE bs 0x29 3 + 1, fieldLE bs 0x2C 3 + 1, fieldLE bs 0x2F 3 + 1, fieldLE bs 0x32 3 + 1]
  fmtCode := fieldLE bs 0x35 1
  dims := fieldLE bs 0x36 1
  skew := fieldLE bs 0x37 1 % 4
  rCode := fieldLE bs 0x37 1 / 4 % 4
  x8 := fieldLE bs 0x37 1 / 16 % 2 == 1
  kind := fieldLE bs 0x38 1 % 4
  planes := fieldLE bs 0x38 1 / 4 % 2 == 1
  xpose := fieldLE bs 0x38 1 / 8 % 2 == 1
  pf := fieldLE bs 0x38 1 / 16 % 2 == 1
  pfTiles := fieldLE bs 0x39 1
  seq := fieldLE bs 0x3C 4

def Plane.parse (bs : List Byte) : Plane := ⟨fieldLE bs 0 8, fieldLE bs 8 8, fieldLE bs 0x10 4⟩

def Desc.fmt (d : Desc) : Option Fmt := Fmt.ofCode d.fmtCode

def Desc.isE2m1 (d : Desc) : Bool := d.fmtCode == 5

/-- Bytes of one unit: an element, or the 528-byte segment of E2M1 (R137). -/
def Desc.unit (d : Desc) : Nat := if d.isE2m1 then 528 else match d.fmt with | some f => f.bytes | none => 1

/-- Dimensions as (count, stride) in units; the E2M1 dimension 0 counts segments. -/
def Desc.shape (d : Desc) : List (Nat × Int) :=
  let z := d.counts.zip d.strides
  if d.isE2m1 then
    match z with
    | (c0, _) :: rest => (ceilDiv c0 1024, (528 : Int)) :: rest
    | [] => []
  else z

/-- Byte offsets of the iteration, dimension 0 fastest (R137). -/
def iterOffsets : List (Nat × Int) → List Int
  | [] => [0]
  | (c, st) :: rest => (iterOffsets rest).flatMap (fun b => (List.range c).map (fun i => b + (i : Int) * st))

/-- The delivered shape: xpose exchanges dimensions 0 and 1 (R143); of an E2M1 source moved as it is, whole segments. -/
def Desc.delivered (d : Desc) : List (Nat × Int) :=
  match d.shape with
  | a :: b :: rest => if d.xpose then b :: a :: rest else a :: b :: rest
  | l => l

/-- Unit addresses in delivered order.  A negative one never passes the check of R139. -/
def Desc.addrs (d : Desc) : List Nat := (iterOffsets d.delivered).map (fun o => ((d.start : Int) + o).toNat)

/-- No unit lies below address 0 (R137, R208). -/
def Desc.nonneg (d : Desc) : Bool := (iterOffsets d.shape).all (fun o => decide (0 ≤ (d.start : Int) + o))

/-- Element count. -/
def Desc.elements (d : Desc) : Nat := d.counts.foldl (· * ·) 1

/-- Bytes the descriptor covers. -/
def Desc.bytes (d : Desc) : Nat := d.addrs.length * d.unit

/-- The rate divisor the descriptor's skew field gives (R136, R179). -/
def Desc.r (d : Desc) : Nat := 2 ^ d.rCode * (if d.x8 then 8 else 1)

/-- Reserved encodings of a data descriptor (R136, R137). -/
def dataEncodingOk (bs : List Byte) : Bool :=
  let d := Desc.parse bs
  decide (d.kind ≤ 1) && decide (d.fmtCode < 16) && (match d.fmt with | some f => !f.planeOnly | none => false) &&
  decide (1 ≤ d.dims) && decide (d.dims ≤ 5) && decide (d.skew ≤ 1) && decide (d.rCode ≤ 2) && (!d.x8 || d.skew == 1) &&
  decide (fieldLE bs 0x37 1 < 32) && decide (fieldLE bs 0x38 1 < 32) && zeroAt bs 0x3A 2 &&
  ((d.counts.drop d.dims).all (· == 1)) && ((d.strides.drop d.dims).all (· == 0)) &&
  (!d.isE2m1 || (d.strides.headD 0 == 0 &&
    (d.dims == 1 || (d.strides.getD 1 0) == ((ceilDiv (d.counts.headD 1) 1024 * 528 : Nat) : Int))))

/-- Reserved bytes of a plane descriptor (R138). -/
def planeEncodingOk (bs : List Byte) : Bool :=
  zeroAt bs 0x14 36 && fieldLE bs 0x38 1 == 1 && zeroAt bs 0x39 3 && fieldLE bs 8 8 % 4 == 0

/-- The conditions of R143 on a turned descriptor. -/
def Desc.xposeOk (d : Desc) : Bool :=
  d.counts.headD 1 % 64 == 0 && d.counts.getD 1 1 % 64 == 0 && (d.strides.getD 1 0) % 64 == 0 &&
  (d.isE2m1 || (decide (d.unit = 4 ∨ d.unit = 2 ∨ d.unit = 1) && d.strides.headD 0 == (d.unit : Int)))

/-- Where a turned block must lie whole: a stack in the stack view, a 128 KiB run in the interleaved view (R209). -/
def turnHome (a : Nat) : Option (Nat × Nat) :=
  if a ≤ 0x011FFFFFFFFF then some (0, a / 131072) else (stackOf a).map (fun h => (1, h))

/-- Whether the source runs of each 64 x 64 block lie in one stack (R143, R209): dimension 0 and 1 blocks of 64. -/
def Desc.xposeOneStack (d : Desc) : Bool :=
  let sh := d.shape
  let c0 := (sh.getD 0 (1, 0)).1
  let s0 := (sh.getD 0 (1, 0)).2
  let c1 := (sh.getD 1 (1, 0)).1
  let s1 := (sh.getD 1 (1, 0)).2
  (iterOffsets (sh.drop 2)).all fun base =>
    (List.range (ceilDiv c0 64)).all fun b0 => (List.range (ceilDiv c1 64)).all fun b1 =>
      let a (i j : Nat) : Nat := ((d.start : Int) + base + ((64 * b0 + i : Nat) : Int) * s0 + ((64 * b1 + j : Nat) : Int) * s1).toNat
      let h := turnHome (a 0 0)
      (List.range (min 64 (c0 - 64 * b0))).all fun i => (List.range (min 64 (c1 - 64 * b1))).all fun j =>
        turnHome (a i j) == h && turnHome (a i j + d.unit - 1) == h

/-- The name of a byte in the interleaved view (R207, R208). -/
def interleaved (a : Nat) : Option Nat :=
  (placeOf a).map (fun p => p.stack / 4 * 0x004800000000 + (p.loc / 4096 * 128 + (p.stack % 4) * 32 + p.ch) * 4096 + p.loc % 4096)

/-- A byte run, in either view, meets a region of a scope. -/
def meetsScope (rs : List (Nat × Nat)) (a n : Nat) : Bool :=
  rs.any (fun r => decide (a < r.1 + r.2) && decide (r.1 < a + n)) ||
  (List.range (ceilDiv (a + n) 4096 - a / 4096)).any (fun i =>
    let lo := max a ((a / 4096 + i) * 4096)
    let hi := min (a + n) ((a / 4096 + i + 1) * 4096)
    match interleaved lo with
    | some x => rs.any (fun r => decide (x < r.1 + r.2) && decide (r.1 < x + (hi - lo)))
    | none => false)

/-- The read-only evaluation window of a partition covers a byte of the run, in either view (R317). -/
def State.inWindow (s : State) (p a n : Nat) : Bool :=
  s.flag (Fld.snapEvalwinCtrl_enable p) && (List.range (ceilDiv (a + n) 4096 - a / 4096)).any (fun i =>
    let lo := max a ((a / 4096 + i) * 4096)
    let hi := min (a + n) ((a / 4096 + i + 1) * 4096)
    match interleaved lo with
    | some x => decide (x < s.rd (Reg.snapEvalwinLimit p)) && decide (s.rd (Reg.snapEvalwinBase p) < x + (hi - lo))
    | none => false)

/-- Address faults of a descriptor (R139): ADDR_FOREIGN, WRITE_PROTECT, or none. -/
def State.descAddrFault (s : State) (p : Nat) (dest : Bool) (d : Desc) : Option Nat :=
  if !(d.nonneg && d.addrs.all (fun a => s.ownsRange p a d.unit)) then some Res.addrForeign
  else if dest && d.addrs.any (fun a => s.inWindow p a d.unit) then some Res.writeProtect
  else none

/-- Address faults of a plane descriptor covering n scaled indices (R60, R138). -/
def State.planeAddrFault (s : State) (p : Nat) (dest : Bool) (pl : Plane) (n : Nat) : Option Nat :=
  let qn := n * pl.chunks
  let tn := 4 * ceilDiv n 128 * pl.chunks
  if !(s.ownsRange p pl.qBase qn && s.ownsRange p pl.tBase tn) then some Res.addrForeign
  else if dest && (s.inWindow p pl.qBase qn || s.inWindow p pl.tBase tn) then some Res.writeProtect
  else none

/-- Address of a running ring index (R132). -/
def Ctx.ringAddr (c : Ctx) (i : Nat) : Nat := c.ringBase + 64 * (i % 2 ^ c.ringLog2)

/-- What a burst brings of ring entry i: none where a sector of it is poisoned (R212). -/
def State.ringRead (s : State) (c : Ctx) (i : Nat) : Option (List Byte) :=
  if s.poisoned (c.ringAddr i) 64 then none else some (s.bytes (c.ringAddr i) 64)

/-- The 64 bytes of ring entry i: as fetched in a burst, else from the ring (R134). -/
def State.ringEntry (s : State) (c : Ctx) (i : Nat) : List Byte :=
  match c.fetched.flatten.find? (fun e => e.1 == i) with
  | some e => e.2.getD (List.replicate 64 0#8)
  | none => s.bytes (c.ringAddr i) 64

/-- A descriptor with its plane. -/
abbrev DescP := Desc × Option Plane

/-- What taking descriptors from a context gives: those taken, and the head after them. -/
inductive Take where
  | wait (ds : List DescP) (head : Nat)         -- no further entry can be had yet
  | fail (code : Nat) (seqBad : Bool) (span : Bool) (ds : List DescP) (head : Nat)
    -- a fault of R139, with its STRM_ERR cause, after the descriptors taken
  | ok (ds : List DescP) (head : Nat)
deriving DecidableEq, Repr

/-! ### Buffer pool (R147 to R149) -/

/-- The operation whose turn it is on a context, with its slot: the oldest bound to it whose work has not ended (R133, R199). -/
def State.ctxTurn (s : State) (i : Nat) : Option (Nat × Op) :=
  (s.ctx i).queue.findSome? (fun a => s.inFlight.find? (fun e => e.2.admitNo == a && e.2.done.isNone))

/-- The class of the operation a context serves (R24, R38): 1 to 3. -/
def State.ctxClass (s : State) (i : Nat) : Nat :=
  match s.ctxTurn i with
  | some (_, o) => if o.opcode = 4 then 1 else if o.opcode ≤ 2 then 3 else 2
  | none => 3

/-- Slots a context holds: one a burst, and those granted for transfers (R134, R148). -/
def Ctx.slots (c : Ctx) : Nat := c.fetched.length + c.granted

def Ctx.recount (c : Ctx) : Ctx := { c with held := c.slots }

/-- Slots that no open context of the stack reserves and none has borrowed (R149). -/
def State.freeSlots (s : State) (home : Nat) : Nat :=
  16384 - s.reservedSum home - ((s.openCtxs home).map (fun x => x.held - x.minSlots)).foldl (· + ·) 0

/-- Distance of a context from the one last granted a slot in its stack and class. -/
def State.poolRank (s : State) (i : Nat) : Nat :=
  let last := Sparse.get (fun _ => 65535) s.strm.poolTurns (4 * ctxHome i + s.ctxClass i)
  (65536 + i - last - 1) % 65536

/-- Another stream of the stack waits for a slot and comes before context i: of a better class, or next in turn (R149). -/
def State.poolBehind (s : State) (i : Nat) : Bool :=
  s.strm.ctxs.any (fun e => ctxHome e.1 == ctxHome i && e.1 != i && decide (e.2.waitSince ≠ 0) && e.2.waitKind == 0 &&
    (decide (s.ctxClass e.1 < s.ctxClass i) || (s.ctxClass e.1 == s.ctxClass i && decide (s.poolRank e.1 < s.poolRank i))))

/-- A context can take one more slot and still hold k others beside those it holds: from its reservation, or from the
unreserved slots where it is next for them (R149). -/
def State.slotCan (s : State) (i k : Nat) : Bool :=
  let c := s.ctx i
  decide (c.held + k < c.minSlots) || (decide (c.held + k < c.maxSlots) && decide (0 < s.freeSlots (ctxHome i)) && !s.poolBehind i)

/-- A slot beyond the reservation is granted: the turn passes on. -/
def State.poolTurn (s : State) (i : Nat) : State :=
  if (s.ctx i).held < (s.ctx i).minSlots then s
  else { s with strm := { s.strm with poolTurns := Sparse.put (fun _ => 65535) s.strm.poolTurns (4 * ctxHome i + s.ctxClass i) i } }

/-- Ring entry i as an operation can have it now: fetched already, or, where a slot can be had for a burst, read (R134).  One
slot of the context is left for a transfer (assumption 25). -/
def State.entryAt (s : State) (c : Ctx) (free : Bool) (i : Nat) : Option (Option (List Byte)) :=
  match c.fetched.flatten.find? (fun e => e.1 == i) with
  | some e => some e.2
  | none => if free then some (s.ringRead c i) else none

/-! ### Taking descriptors (R133 to R140) -/

/-- Check one data descriptor at running index i for a role (R139): fault code and STRM_ERR cause. -/
def State.checkData (s : State) (p : Nat) (dest xposeAllowed : Bool) (i : Nat) (bs : List Byte) : Option (Nat × Bool × Bool) :=
  let d := Desc.parse bs
  if d.seq != i % 2 ^ 32 then some (Res.badField, true, false)
  else if !dataEncodingOk bs || d.kind != 0 then some (Res.badField, false, false)
  else if d.xpose && (!xposeAllowed || !d.xposeOk) then some (Res.badField, false, false)
  else if d.xpose && !d.xposeOneStack then some (Res.badField, false, true)
  else if d.isE2m1 && s.heritage p then some (Res.badField, false, false)
  else match s.descAddrFault p dest d with
    | some c => some (c, false, false)
    | none => none

/-- Put a taken descriptor in front. -/
def Take.cons (d : DescP) : Take → Take
  | .wait ds h => .wait (d :: ds) h
  | .fail c a b ds h => .fail c a b (d :: ds) h
  | .ok ds h => .ok (d :: ds) h

/-- Descriptors a take gives. -/
def Take.got : Take → List DescP
  | .ok ds _ => ds
  | .fail _ _ _ ds _ => ds
  | .wait ds _ => ds

/-- The head after them. -/
def Take.head : Take → Nat
  | .ok _ h => h
  | .fail _ _ _ _ h => h
  | .wait _ h => h

/-- Take descriptors of a context from index i until their measure reaches need, exactly where exact; planes follow where
set, and a descriptor and its plane are taken together (R138).  fuel bounds the ring. -/
def State.takeFrom (s : State) (c : Ctx) (free : Bool) (p : Nat) (dest xp exact : Bool) (measure : Desc → Nat) :
    Nat → Nat → Nat → Take
  | 0, _, i => .wait [] i
  | fuel + 1, need, i =>
    if need = 0 then .ok [] i
    else if i = c.tail then .wait [] i
    else
      match s.entryAt c free i with
      | none => .wait [] i
      | some none => .fail Res.hwFault false false [] i
      | some (some bs) =>
        match s.checkData p dest xp i bs with
        | some f => .fail f.1 f.2.1 f.2.2 [] i
        | none =>
          let d := Desc.parse bs
          let m := measure d
          if m = 0 ∨ (exact ∧ need < m) then .fail Res.badField false false [] i
          else if d.planes then
            let j := (i + 1) % 2 ^ 32
            if j = c.tail then .wait [] i
            else
              match s.entryAt c free j with
              | none => .wait [] i
              | some none => .fail Res.hwFault false false [] i
              | some (some ps) =>
                if fieldLE ps 0x3C 4 != j then .fail Res.badField true false [] i
                else if !planeEncodingOk ps then .fail Res.badField false false [] i
                else (s.takeFrom c free p dest xp exact measure fuel (need - m) ((j + 1) % 2 ^ 32)).cons (d, some (Plane.parse ps))
          else (s.takeFrom c free p dest xp exact measure fuel (need - m) ((i + 1) % 2 ^ 32)).cons (d, none)

/-- Take as an operation of partition p does: from a context that is OPEN (R135). -/
def State.take (s : State) (i p : Nat) (dest xp exact : Bool) (measure : Desc → Nat) (need : Nat) : Take :=
  let c := s.ctx i
  if c.state != 1 then .fail Res.contextInvalid false false [] c.head
  else s.takeFrom c (s.slotCan i 1) p dest xp exact measure (2 ^ c.ringLog2 + 1) need c.head

/-- Note output runs of the operation in a slot: address and bytes. -/
def State.noteOut (s : State) (slot : Nat) (rs : List (Nat × Nat)) : State :=
  match s.op slot with
  | some o => s.setOp slot (some { o with outs := o.outs ++ rs })
  | none => s

/-- Join runs that follow one another. -/
def joinRuns : List (Nat × Nat) → List (Nat × Nat)
  | [] => []
  | r :: rs =>
    match joinRuns rs with
    | [] => [r]
    | q :: qs => if r.1 + r.2 = q.1 then (r.1, r.2 + q.2) :: qs else r :: q :: qs

/-- Output runs of descriptors taken. -/
def destRuns (ds : List DescP) : List (Nat × Nat) :=
  ds.flatMap (fun d => joinRuns (d.1.addrs.map (fun x => (x, d.1.unit))))

/-- The draw position an operation of a step starts from on a context: zero for the first of the step (R130, R183). -/
def State.rngBase (s : State) (i stamp : Nat) : Nat := if (s.ctx i).rngStep = some stamp then (s.ctx i).rngPos else 0

/-- Bursts of a context after its head moves to h: consumed entries go, and an entry not fetched before comes in a burst whose
later entries, up to the tail, stay (R134). -/
def State.burstsAfter (s : State) (c : Ctx) (h : Nat) : List (List (Nat × Option (List Byte))) :=
  let n := (2 ^ 32 + h - c.head) % 2 ^ 32
  let taken := (List.range n).map (fun k => (c.head + k) % 2 ^ 32)
  let kept := (c.fetched.map (fun b => b.filter (fun e => !taken.contains e.1))).filter (fun b => !b.isEmpty)
  let rest := (List.range (min ((2 ^ 32 + c.tail - h) % 2 ^ 32) ((16 - h % 16) % 16))).map (fun k => (h + k) % 2 ^ 32)
  if n ≤ c.fetched.flatten.length ∨ rest.isEmpty then kept
  else kept ++ [rest.map (fun k => (k, s.ringRead c k))]

/-- Bursts fetched while the head moves to h: one for each 16-entry group of entries not fetched before. -/
def Ctx.burstsFor (c : Ctx) (h : Nat) : Nat :=
  let n := (2 ^ 32 + h - c.head) % 2 ^ 32
  let have_ := c.fetched.flatten.length
  (((List.range (n - have_)).map (fun k => (c.head + have_ + k) % 2 ^ 32 / 16)).dedup).length

/-- Count bursts of 1 KiB each, in the read class (R134, R145). -/
def State.countBursts (s : State) (home n : Nat) : State :=
  (s.bump (Fld.strmBursts_bursts home) n).bump (Fld.strmBytesRd_bytes home) (1024 * n)

/-- An operation takes descriptors of a context up to a new head: the head, the bursts, the draw position of its step, and the
operation's outputs; with its last descriptor the next one's turn begins (R133, R134, R183). -/
def State.consume (s : State) (slot i h : Nat) (ds : List DescP) (last : Bool) : State :=
  let c := s.ctx i
  let o := s.op slot
  let n := match o with | some o => o.admitNo | none => 0
  let stamp := match o with | some o => o.stamp | none => 0
  let t := (if c.dir = 1 then s.noteOut slot (destRuns ds) else s).setCtx i ({ c with
    head := h, position := 0, boundSlot := if last then 0xFFFF else slot, fetched := s.burstsAfter c h,
    rngPos := s.rngBase i stamp, rngStep := some stamp,
    queue := if last then c.queue.erase n else c.queue } : Ctx).recount
  let t := if c.burstsFor h = 0 then t else t.countBursts (ctxHome i) (c.burstsFor h)
  match t.op slot with
  | some o => (t.setOp slot (some { o with used := if o.used.contains i then o.used else o.used ++ [i] })).poolUpdate (ctxHome i)
  | none => t

/-- A context becomes STALE (R135). -/
def State.makeStale (s : State) (i : Nat) : State :=
  let c := s.ctx i
  if c.state = 1 then (((s.setCtx i { c with state := 2 }).put Fld.strmErr_stale 1).put Fld.strmErr_last_ctx i) else s

/-- A descriptor fault: STRM_ERR, the STRM event, and the operation's failure; the context becomes STALE when any of
its descriptors was fetched or taken (R139, DESCRIPTOR_FAULT). -/
def State.descFault (s : State) (slot i code : Nat) (seqBad span : Bool) : State :=
  let t := if code = Res.contextInvalid then s
    else if seqBad then s.put Fld.strmErr_seq_bad 1
    else if span then s.put Fld.strmErr_xpose_span 1
    else s.put Fld.strmErr_desc_bad 1
  let t := if code = Res.contextInvalid then t else (t.put Fld.strmErr_last_ctx i).makeStale i
  let p := match t.op slot with | some o => some (t.opPart o) | none => none
  let tag := match t.op slot with | some o => o.tag | none => 0
  (t.generic Blk.strm p slot tag code).finish slot code

/-- Whether every context an operation still has to take from serves it next (R133). -/
def State.ctxsServe (s : State) (o : Op) : Bool :=
  (itemCtxs o.item).all (fun e => !(s.ctx e.1).queue.contains o.admitNo ||
    (match s.ctxTurn e.1 with | some (_, x) => x.admitNo == o.admitNo | none => false))

/-- Bind an operation to a context at admission: it joins the order (R133). -/
def State.bindCtx (s : State) (admitNo i : Nat) : State :=
  let c := s.ctx i
  s.setCtx i { c with queue := c.queue ++ [admitNo] }

/-- Take an operation out of a context's order (its end, or a failure before its turn). -/
def State.unbindCtx (s : State) (admitNo i : Nat) : State :=
  let c := s.ctx i
  s.setCtx i { c with queue := c.queue.filter (fun a => a != admitNo),
                      boundSlot := if c.queue.headD 0 = admitNo ∧ c.queue ≠ [] then 0xFFFF else c.boundSlot }

/-- Advance a context's rng_pos by ceil(E / 8) (R183). -/
def State.advanceRng (s : State) (i e : Nat) : State :=
  let c := s.ctx i
  s.setCtx i { c with rngPos := (c.rngPos + ceilDiv e 8) % 2 ^ 64 }

/-- Elements done within the current descriptor move on (R130, assumption 25). -/
def State.advancePos (s : State) (i n : Nat) : State :=
  let c := s.ctx i
  s.setCtx i { c with position := (c.position + n) % 2 ^ 64 }

/-- Count bytes a context moved, in its class register: 0 read, 1 write, 2 remote (R145).  They pass through slots of the
home stack's pool, granted ones first, which come free as the data arrive (R147 to R149). -/
def State.countBytes (s : State) (i cls n : Nat) : State :=
  let c := s.ctx i
  let t := s.setCtx i ({ c with bytes := (c.bytes + n) % 2 ^ 64, granted := c.granted - min c.granted (ceilDiv n 1024) } : Ctx).recount
  let h := ctxHome i
  let t := t.bump (if cls = 0 then Fld.strmBytesRd_bytes h else if cls = 1 then Fld.strmBytesWr_bytes h else Fld.strmBytesRm_bytes h) n
  let use := s.f (Fld.strmPool_in_use h) + (if c.granted = 0 then 1 else 0)
  (if n = 0 then t else t.put (Fld.strmPool_high_water h) (max (t.f (Fld.strmPool_high_water h)) use)).poolUpdate h

/-- Count bytes between HBM at an address and a port: the remote class of the compute stacks that hold them, interleave run by
run (R145). -/
def State.countRemote (s : State) (a n : Nat) : State :=
  (List.range (ceilDiv (a % 131072 + n) 131072)).foldl (fun t i =>
    let lo := max a ((a / 131072 + i) * 131072)
    t.bump (Fld.strmBytesRm_bytes ((stackOf lo).getD 0 / 4)) (min (a + n) ((a / 131072 + i + 1) * 131072) - lo)) s

/-! ### The wait clock (R150) -/

/-- The stop that runs in a partition (R302). -/
def State.stopOf (s : State) (p : Nat) : Option StopRun := Sparse.get (fun _ => none) s.snap.stops p

/-- The wait clocks of a partition's streams stand: HELD, a P0 save, or a snapshot stop (R150). -/
def State.clockStopped (s : State) (p : Nat) : Bool :=
  s.isHeld || decide (s.f Fld.thmSaveStatus_state ≠ 0) || (s.stopOf p).isSome

/-- Stop and start the wait clocks as the device's state now asks. -/
def State.clocks (s : State) : State :=
  { s with strm := { s.strm with ctxs := s.strm.ctxs.map (fun e =>
      let c := e.2
      if c.waitSince = 0 then e
      else
        match s.clockStopped c.partition, c.waitStopped with
        | true, none => (e.1, { c with waitStopped := some s.now })
        | false, some t => (e.1, { c with waitStopped := none, waitPaused := c.waitPaused + (s.now - t) })
        | _, _ => e) } }

def State.setStop (s : State) (p : Nat) (r : Option StopRun) : State :=
  State.clocks { s with snap := { s.snap with stops := Sparse.put (fun _ => none) s.snap.stops p r } }

/-- A stream waits for a slot (kind 0) or for destination space (R150). -/
def State.waitFor (s : State) (i kind : Nat) : State :=
  let c := s.ctx i
  if c.waitSince ≠ 0 then s.setCtx i { c with waitKind := kind }
  else s.setCtx i { c with waitSince := max s.now 1, waitKind := kind, waitTold := false, waitPaused := 0,
                           waitStopped := if s.clockStopped c.partition then some s.now else none }

/-- CTLCLK counts the present wait has lasted. -/
def State.waited (s : State) (c : Ctx) : Nat := c.waitStopped.getD s.now - c.waitSince - c.waitPaused

/-! ### The commands of the stream table -/

/-- Answer a command in STRM_OPEN_STATUS. -/
def State.strmAnswer (s : State) (i res : Nat) (close : Bool) : State :=
  (((s.put Fld.strmOpenStatus_ctx i).put Fld.strmOpenStatus_result res).putB Fld.strmOpenStatus_was_close close).put
    Fld.strmOpenStatus_valid 1

/-- The result of an open command (R131). -/
def State.openResult (s : State) (w : Writer) (v : Nat) : Nat :=
  let i := bits v 0 16
  let n := bits v 16 5
  let p := bits v 22 2
  let mn := bits v 24 15
  let mx := bits v 39 15
  let base := s.rd Reg.strmOpenRing / 1024 * 1024
  if n < 4 ∨ 16 < n ∨ mn < 2 ∨ mx < mn ∨ 16384 < mn ∨ 16384 < mx then 4
  else if s.partOfCs (ctxHome i) != p || !s.writerPasses w p || (ctxFirmware i && !writerIsCp w) || !s.ownsRange p base (64 * 2 ^ n) then 3
  else if (s.ctx i).state != 0 then 2
  else if 16384 < s.reservedSum (ctxHome i) + mn then 1
  else 0

/-- STRM_OPEN_CFG with go (R131). -/
def strmOpen (w : Writer) (v : Nat) (s : State) : State :=
  if bits v 63 1 = 0 then s
  else
    let i := bits v 0 16
    let res := s.openResult w v
    let t := s.strmAnswer i res false
    if res = 0 then
      (t.setCtx i { ctxD i with ringBase := s.rd Reg.strmOpenRing / 1024 * 1024, ringLog2 := bits v 16 5, state := 1,
                                partition := bits v 22 2, dir := bits v 21 1, minSlots := bits v 24 15,
                                maxSlots := bits v 39 15 }).poolUpdate (ctxHome i)
    else t

/-- The result of a close command (R131). -/
def State.closeResult (s : State) (w : Writer) (v : Nat) : Nat :=
  let i := bits v 0 16
  let c := s.ctx i
  if !s.writerPasses w (s.partOfCs (ctxHome i)) || (ctxFirmware i && !writerIsCp w) then 3
  else if c.state != 0 && (s.ctxNamed i || (c.state == 1 && decide (0 < c.held))) then 5
  else 0

/-- STRM_CLOSE with go (R131): a CLOSED context keeps its record's defaults, and its reservation returns. -/
def strmClose (w : Writer) (v : Nat) (s : State) : State :=
  if bits v 31 1 = 0 then s
  else
    let i := bits v 0 16
    let res := s.closeResult w v
    let t := s.strmAnswer i res true
    if res = 0 ∧ (s.ctx i).state ≠ 0 then
      (t.setCtx i { s.ctx i with state := 0, held := 0, fetched := [], granted := 0, waitSince := 0, boundSlot := 0xFFFF }).poolUpdate (ctxHome i)
    else t

/-- STRM_RING_TAIL (R132). -/
def strmRingTail (w : Writer) (v : Nat) (s : State) : State :=
  let i := bits v 0 16
  let tl := bits v 32 32
  let c := s.ctx i
  let used := (2 ^ 32 + tl - c.head) % 2 ^ 32
  let cur := (2 ^ 32 + c.tail - c.head) % 2 ^ 32
  if 2 ^ c.ringLog2 < used ∨ used < cur ∨ c.state = 0 ∨ !s.writerPasses w c.partition then
    ((s.put Fld.strmErr_tail_bad 1).put Fld.strmErr_last_ctx i).badWrite Reg.strmRingTail v
  else s.setCtx i { c with tail := tl }

/-- STRM_RESYNC (R135): honoured only in STALE, for a head that does not pass the tail. -/
def strmResync (w : Writer) (v : Nat) (s : State) : State :=
  let i := bits v 0 16
  let h := bits v 32 32
  let c := s.ctx i
  if c.state = 2 ∧ (2 ^ 32 + c.tail - h) % 2 ^ 32 ≤ 2 ^ c.ringLog2 ∧ s.writerPasses w c.partition then
    (s.setCtx i ({ c with state := 1, head := h, position := 0, fetched := [] } : Ctx).recount).poolUpdate (ctxHome i)
  else ((s.put Fld.strmErr_resync_bad 1).put Fld.strmErr_last_ctx i).badWrite Reg.strmResync v

/-- DESCRIPTOR_BURST_FETCH (R134): for the operation whose turn it is, the entries of the 16-entry group of the first index
not fetched, up to the tail, come into one pool slot.  An entry's faults end the operation that takes it (R139). -/
def State.fetchBurst (s : State) (i : Nat) : State :=
  let c := s.ctx i
  match s.ctxTurn i with
  | none => s
  | some (slot, _) =>
    let first := (c.head + c.fetched.flatten.length) % 2 ^ 32
    let n := min ((2 ^ 32 + c.tail - first) % 2 ^ 32) (16 - first % 16)
    if c.state ≠ 1 ∨ n = 0 ∨ s.serving = false ∨ s.opSettled slot then s
    else if s.slotCan i 1 = false then s.waitFor i 0
    else
      let burst := (List.range n).map (fun k => ((first + k) % 2 ^ 32, s.ringRead c ((first + k) % 2 ^ 32)))
      let t := (s.poolTurn i).setCtx i ({ c with fetched := c.fetched ++ [burst], boundSlot := slot, waitSince := 0, waitTold := false } : Ctx).recount
      (t.countBursts (ctxHome i) 1).poolUpdate (ctxHome i)

/-- STREAM_WAIT_LIMIT (R150): reported once per wait, on the time its clock has run. -/
def waitLimit (i : Nat) (s : State) : State :=
  let c := s.ctx i
  let slot := match s.ctxTurn i with | some e => e.1 | none => 0xFFF
  if c.waitSince ≠ 0 ∧ c.waitTold = false ∧ s.flag Fld.strmWdogCfg_enable ∧ s.f Fld.strmWdogCfg_limit_us * 475 < s.waited c then
    let t := s.setCtx i { c with waitTold := true }
    let t := (((t.bumpSat Fld.strmWdogStat_waits 1).put Fld.strmWdogStat_last_ctx i).put Fld.strmWdogStat_last_kind c.waitKind)
    let t := (t.put Fld.strmErr_wdog 1).put Fld.strmErr_last_ctx i
    t.event 0x0412 (some c.partition) (csCantle (ctxHome i)) i (toLE 2 i ++ toLE 2 slot ++ toLE 1 c.waitKind)
  else s

end Sys2Proof.Machine
end

