-- ==== Sys2Proof/Machine/Ready.lean ====
section
/-!
DEFINITION. When an admitted item becomes READY (R27, R28, R167, R168), what arrays and engines hold, and what a register
write does with the fields of a register (R5).
-/
namespace Sys2Proof.Machine

/-- A write of a register's fields by their access codes: RW fields take the value, W1C and W1S bits clear and set, and
the others stand (R5). -/
def State.writeFields (s : State) (off v : Nat) : State :=
  match regAt off with
  | none => s
  | some r =>
    r.fields.foldl (fun t f =>
      let x := bits v f.lo f.width
      let fr : FieldRef := ⟨off, f.lo, f.width⟩
      match f.acc with
      | .rw => t.put fr x
      | .w1c => t.put fr (t.f fr &&& (2 ^ f.width - 1 - x))
      | .w1s => t.put fr (t.f fr ||| x)
      | .ro => t
      | .wo => t
      | .rc => t) s

/-- A wait on counter c with threshold v is met (R27). -/
def State.waitMet (s : State) (c v : Nat) : Bool :=
  c == 0xFFFF || decide ((2 ^ 32 + s.rd (Reg.depctr c) - v) % 2 ^ 32 < 2 ^ 31)

/-! ### Arrays, engines and claims -/

def arrD : Nat → ArrState := fun _ =>
  ⟨[], none, 63, [], [], [], [], [], [], [], [], none, 0, 0, 0, [], [], [], [], [], [], none, []⟩

def State.setComp (s : State) (x : Compute) : State := { s with comp := x }

def State.arr (s : State) (a : Nat) : ArrState := Sparse.get arrD s.comp.arrays a

def State.setArr (s : State) (a : Nat) (x : ArrState) : State :=
  { s with comp := { s.comp with arrays := Sparse.put arrD s.comp.arrays a x } }

def State.mm (s : State) (slot : Nat) : Option MmRun := Sparse.get (fun _ => none) s.comp.mm slot

def State.setMm (s : State) (slot : Nat) (x : Option MmRun) : State :=
  { s with comp := { s.comp with mm := Sparse.put (fun _ => none) s.comp.mm slot x } }

def State.kern (s : State) (slot : Nat) : Option KernRun := Sparse.get (fun _ => none) s.comp.kern slot

def State.setKern (s : State) (slot : Nat) (x : Option KernRun) : State :=
  { s with comp := { s.comp with kern := Sparse.put (fun _ => none) s.comp.kern slot x } }

def engD : Nat → Engine := fun _ => ⟨[], [], none, []⟩

def State.eng (s : State) (e : Nat) : Engine := Sparse.get engD s.comp.engines e

def State.setEng (s : State) (e : Nat) (x : Engine) : State :=
  { s with comp := { s.comp with engines := Sparse.put engD s.comp.engines e x } }

def State.claim (s : State) (a : Nat) : Option PfClaim := Sparse.get (fun _ => none) s.strm.claims a

/-- An array with work left, or an engine of it with a task: something refers to the present half (R103, R154). -/
def State.arrBusy (s : State) (a : Nat) : Bool :=
  let x := s.arr a
  !(x.runs.isEmpty && x.finals.isEmpty && x.flight.isEmpty && x.redo.isEmpty && x.outBuf.isEmpty) ||
    (List.range 16).any (fun i => !(s.eng (16 * a + i)).tasks.isEmpty)

def State.arrayInService (s : State) (a : Nat) : Bool := s.flag (Fld.aryStatus_in_service a)

/-- The arrays a MATMUL may run on: in service, of the partition, named by the mask or all (R88). -/
def State.eligible (s : State) (p mask : Nat) : List Nat :=
  (s.csOf p).filter (fun a => s.arrayInService a && (mask == 0 || testBit mask a))

/-- Arrays that prefetched for a MATMUL. -/
def State.mmClaimed (s : State) (o : Op) : List Nat :=
  (s.eligible (s.opPart o) (o.b 0x37 1 / 4 % 16)).filter (fun a => match s.claim a with | some c => c.admitNo == o.admitNo | none => false)

/-! ### What operations take of a context (R133, R140) -/

/-- Whether input i is a broadcast input (R122). -/
def bcastInput (ws : List KWord) (i : Nat) : Bool := ws.any (fun w => w.op == 1 && bits w.imm 0 2 == i && bits w.imm 2 1 == 1)

/-- Contexts of a KERNEL: offset in the item, whether an output. -/
def kernCtxOffs : List (Nat × Bool) := [(0x30, false), (0x34, false), (0x38, false), (0x3C, false), (0x40, true), (0x44, true)]

/-- Elements a KERNEL takes from a context: one row of a broadcast input, else all of them (R113, R122). -/
def kernNeed (o : Op) (c : Nat × Bool) : Nat :=
  let prog := KProg.ofBytes o.block
  if !c.2 && bcastInput prog.words ((c.1 - 0x30) / 4) then prog.rowLen else o.b 0x48 8

/-- Descriptors a STREAM has taken of a side. -/
def Op.gotOf (o : Op) (side : Nat) : List DescP := match o.got.find? (fun e => e.1 == side) with | some e => e.2 | none => []

/-- Total of a measure over descriptors. -/
def total (measure : Desc → Nat) (ds : List DescP) : Nat := (ds.map (fun d => measure d.1)).foldl (· + ·) 0

/-- What an operation still takes of a context: a measure of its descriptors, and how much of it; none where that follows from
another context. -/
def State.leftOf (s : State) (slot : Nat) (o : Op) (i : Nat) : Option ((Desc → Nat) × Nat) :=
  if o.opcode = 1 then some (fun _ => 1, 1)
  else if o.opcode = 2 then
    match s.kern slot, kernCtxOffs.find? (fun e => o.b e.1 4 == i) with
    | some k, _ => ((k.ins ++ k.outs).findSome? (fun c => c.bind (fun c => if c.ctx = i then some c else none))).map
        (fun c => (Desc.elements, c.need - c.locs.length))
    | none, some e => some (Desc.elements, kernNeed o e)
    | none, none => none
  else if o.opcode = 3 then
    let dest := o.b 0x24 4 == i
    let n := o.b 0x30 8
    if dest ∧ o.b 0x28 1 = 5 then (if testBit (o.b 0x29 1) 1 then some (fun _ => 1, 1) else none)
    else if dest ∧ o.b 0x28 1 = 4 then some (Desc.elements, n / 528 * 1024 - total Desc.elements (o.gotOf 1))
    else some (Desc.bytes, n - total Desc.bytes (o.gotOf (if dest then 1 else 0)))
  else none

/-- The index after descriptors that cover need from index i on; none where the ring does not hold them yet.  fuel bounds the
ring. -/
def State.skipFrom (s : State) (c : Ctx) (measure : Desc → Nat) : Nat → Nat → Nat → Option Nat
  | 0, _, _ => none
  | fuel + 1, need, i =>
    if need = 0 then some i
    else if i = c.tail then none
    else
      let d := Desc.parse (s.ringEntry c i)
      if measure d = 0 ∨ (d.planes ∧ (i + 1) % 2 ^ 32 = c.tail) then none
      else s.skipFrom c measure fuel (need - measure d) ((i + (if d.planes then 2 else 1)) % 2 ^ 32)

/-- The ring index at which the operation of an admission number will take its first descriptor of a context, where the ring holds
it and what the operations before it take. -/
def State.entryIndexFor (s : State) (i admitNo : Nat) : Option Nat :=
  let c := s.ctx i
  let before := (c.queue.takeWhile (fun a => a != admitNo)).filterMap (fun a =>
    s.inFlight.find? (fun e => e.2.admitNo == a && e.2.done.isNone))
  (before.foldl (fun h e =>
    match h, s.leftOf e.1 e.2 i with
    | some h, some l => s.skipFrom c l.1 (2 ^ c.ringLog2 + 1) l.2 h
    | _, _ => none) (some c.head)).bind (fun h => if h = c.tail then none else some h)

/-- As entryIndexFor, of an operation. -/
def State.entryIndex (s : State) (i : Nat) (o : Op) : Option Nat := s.entryIndexFor i o.admitNo

/-! ### Output regions (R167, R168) -/

/-- The bounding byte range of a descriptor: first byte and length. -/
def Desc.region (d : Desc) : Nat × Nat :=
  let z := d.shape.map (fun e => ((e.1 : Int) - 1) * e.2)
  let lo := (d.start : Int) + (z.filter (· < 0)).foldl (· + ·) 0
  (lo.toNat, ((d.start : Int) + (z.filter (0 < ·)).foldl (· + ·) 0 + d.unit - lo).toNat)

/-- Two byte ranges share a byte, in either view. -/
def regionsMeet (a b : Nat × Nat) : Bool := meetsScope [b] a.1 a.2 || meetsScope [a] b.1 b.2

/-- The range that bounds a list of runs. -/
def boundRuns (rs : List (Nat × Nat)) : Nat × Nat :=
  match rs with
  | [] => (0, 0)
  | r :: _ =>
    let lo := rs.foldl (fun m x => min m x.1) r.1
    (lo, rs.foldl (fun m x => max m (x.1 + x.2)) 0 - lo)

/-- Output region of a MATMUL: from its run, from what it took where its run has ended, else from the ring entry that it is
to take; none where that entry is not known yet. -/
def State.outRegion (s : State) (slot : Nat) (o : Op) : Option (Nat × Nat) :=
  match s.mm slot with
  | some m => some m.od.region
  | none =>
    if o.tIssue ≠ 0 then some (boundRuns o.outs)
    else (s.entryIndex (o.b 0x28 4) o).map (fun i => (Desc.parse (s.ringEntry (s.ctx (o.b 0x28 4)) i)).region)

/-- The waits of R167 and R168 on a region. -/
def State.regionBlocked (s : State) (o : Op) (rg : Nat × Nat) (acc : Bool) : Bool :=
  let p := s.opPart o
  s.inFlight.any (fun e =>
    decide (e.2.admitNo < o.admitNo) && s.opPart e.2 == p &&
    ((acc && e.2.opcode == 1 && e.2.b 0x37 1 % 2 == 1 &&
        (match s.outRegion e.1 e.2 with | some r => regionsMeet r rg | none => true)) ||
     (e.2.opcode == 4 && regionsMeet (e.2.b 0x28 8, e.2.b 0x30 8) rg)))

/-- A MATMUL whose output region is known waits for the region (R167, R168). -/
def State.regionWaits (s : State) (o : Op) : Bool :=
  o.opcode == 1 &&
  (match s.entryIndex (o.b 0x28 4) o with
   | some i => s.regionBlocked o (Desc.parse (s.ringEntry (s.ctx (o.b 0x28 4)) i)).region (o.b 0x37 1 % 2 == 1)
   | none => false)

/-! ### READY -/

/-- Waits met, the barrier open, and no open fence ordering the item (R27): for an APPLY the STEP fence too (R37); a MATMUL
also waits for its output region (R167, R168). -/
def State.readyNow (s : State) (o : Op) : Bool :=
  o.met0 && o.met1 && o.fences.isEmpty && o.stepFence.isNone && !s.regionWaits o &&
  !(o.isBarrier && s.inFlight.any (fun e => e.2.wq == o.wq && decide (e.2.admitNo < o.admitNo)))

/-- Take one WAITING item to READY where it may; a queued item whose layer runs its widen list instead does no work and
has ended once READY (R197). -/
def State.wakeOne (s : State) (slot : Nat) : State :=
  match s.op slot with
  | none => s
  | some o =>
    if s.opState slot ≠ 1 then s
    else
      let o := { o with met0 := o.met0 || s.waitMet o.wait0 o.wait0v, met1 := o.met1 || s.waitMet o.wait1 o.wait1v }
      let t := s.setOp slot (some o)
      if s.readyNow o = false then t
      else if o.skip then
        let t := (itemCtxs o.item).foldl (fun t e => t.unbindCtx o.admitNo e.1) t
        (t.setStatus slot 3 0 false).setOp slot (some { o with done := some Res.ok, tIssue := s.now + 1 })
      else t.setStatus slot 2 0 false

/-- The completion queue of an item has all 256 holding places taken and cannot write: its items do not issue (R41). -/
def State.cqStalled (s : State) (o : Op) : Bool :=
  decide (o.cqN < 64) && decide (256 ≤ (s.cq o.cqN).held.length)

/-- Show which work queues have a READY item held by a full completion queue (R41). -/
def State.stallShow (s : State) : State :=
  (List.range 64).foldl (fun t n =>
    t.putB (Fld.wqStat_stall_cq n) (t.inFlight.any (fun e => e.2.wq == n && t.opState e.1 == 2 && t.cqStalled e.2))) s

/-- Look again at every WAITING item. -/
def State.wake (s : State) : State := (s.inFlight.foldl (fun t e => t.wakeOne e.1) s).stallShow

end Sys2Proof.Machine
end

