-- ==== Sys2Proof/Machine/Taint.lean ====
section
/-!
DEFINITION. Taint of gradient buckets (R280): byte ranges written with a non-finite value, kept per partition with their
steps.
-/
namespace Sys2Proof.Machine

/-- Record a taint range; a full list taints every COLLECTIVE of the step.  Ranges of steps that no item in flight carries
any more are dropped first. -/
def State.taint (s : State) (p step lo hi : Nat) : State :=
  let open_ := s.rd (Reg.stepN p)
  let live : List Taint := s.red.taints.filter (fun t => t.part != p || decide (open_ ≤ t.step) ||
    s.inFlight.any (fun e => s.opPart e.2 == p && e.2.stamp == t.step))
  if 64 ≤ (live.filter (fun t => t.part == p)).length then
    let u : State := { s with red := { s.red with taints := live, taintFull := s.red.taintFull ++ [(p, step)] } }
    ((u.put (Fld.redTaint_full p) 1).put (Fld.redEvent_taint_full p) 1).put (Fld.redTaint_used p) 64
  else
    let u : State := { s with red := { s.red with taints := live ++ [⟨p, step, lo, hi⟩] } }
    u.put (Fld.redTaint_used p) ((live.filter (fun t => t.part == p)).length + 1)

/-- Whether a bucket range of a step is tainted. -/
def State.tainted (s : State) (p step lo hi : Nat) : Bool :=
  s.red.taintFull.contains (p, step) ||
  s.red.taints.any (fun t => t.part == p && t.step == step && decide (t.lo < hi) && decide (lo < t.hi))

/-- Whether FP32 words hold a NaN or an infinity. -/
def nonfinite32 (w : Nat) : Bool := w / 2 ^ 23 % 256 == 255

/-- Taint the range the given 4-byte writes span when one of them is non-finite. -/
def State.taintWrites (s : State) (p step : Nat) (ws : List (Nat × Nat)) : State :=
  if ws.any (fun w => nonfinite32 w.2) then
    let as := ws.map Prod.fst
    s.taint p step (as.foldl min (as.headD 0)) (as.foldl max 0 + 4)
  else s

end Sys2Proof.Machine
end

