-- ==== Sys2Proof/Machine/StackOps.lean ====
section
/-!
DEFINITION. Issue of work items and the stack-engine operations (R213 to R218, R225): copy, add, turn, expand, test;
and MOVE, which the stream engines carry.
-/
namespace Sys2Proof.Machine

/-! ### Issue -/

/-- Whether a COLLECTIVE writes bytes of a scope, or with reads set reads them: its bucket, which it leaves undefined, its result, its
divisor and its next scale table. -/
def State.collectiveScope (s : State) (reads : Bool) (rs : List (Nat × Nat)) (o : Op) : Bool :=
  let t := o.b 0x38 8
  let n := o.b 0x30 8
  meetsScope rs (o.b 0x40 8) n ||
  (if o.b 0x24 1 = 1 then reads && meetsScope rs (o.b 0x28 8) n
   else meetsScope rs (o.b 0x28 8) n || meetsScope rs (s.word (t + 0x18) 8) 4 || meetsScope rs (s.word (t + 0x20) 8) (0x40 + n / 512) ||
     (reads && meetsScope rs t (0x40 + n / 512)))

/-- Whether an operation writes bytes of a scope, or with reads set reads them: by its item's addresses, by the descriptors its rings
hold, and by what it has taken. -/
def State.touchesScope (s : State) (reads : Bool) (rs : List (Nat × Nat)) (o : Op) : Bool :=
  let taken := s.comp.mm.any (fun e => match e.2 with
      | some m => m.admitNo == o.admitNo && ((if reads then [m.od, m.xd, m.wd] else [m.od]).any (fun d => d.addrs.any (fun a => meetsScope rs a d.unit)))
      | none => false) ||
    s.comp.kern.any (fun e => match e.2 with
      | some k => k.admitNo == o.admitNo && (if reads then k.ins ++ k.outs else k.outs).any (fun c => match c with | some c => c.locs.any (fun a => meetsScope rs a 4) | none => false) | none => false)
  let viaRing := (itemCtxs o.item).any (fun e => (e.2 || reads) &&
    (let c := s.ctx e.1
     (List.range ((2 ^ 32 + c.tail - c.head) % 2 ^ 32)).any (fun k =>
       let bs := s.ringEntry c ((c.head + k) % 2 ^ 32)
       if fieldLE bs 0x38 1 % 4 = 1 then
         (let pl := Plane.parse bs
          meetsScope rs pl.qBase 1 || meetsScope rs pl.tBase 1)
       else (Desc.parse bs).addrs.any (fun a => meetsScope rs a (Desc.parse bs).unit))))
  if o.opcode = 4 then s.collectiveScope reads rs o
  else if o.opcode = 3 ∧ o.b 0x28 1 = 6 then
    viaRing || meetsScope rs (fieldLE o.block 8 8) (o.b 0x30 8) || meetsScope rs (fieldLE o.block 0x10 8) (o.b 0x30 8)
  else if o.opcode = 3 ∧ o.b 0x28 1 = 5 then viaRing || meetsScope rs (o.b 0x38 8) 4
  else taken || viaRing || (reads && o.got.any (fun e => e.2.any (fun d => d.1.addrs.any (fun a => meetsScope rs a d.1.unit))))

/-- Whether an operation writes bytes of a scope (R302, R318). -/
def State.writesScope (s : State) (rs : List (Nat × Nat)) (o : Op) : Bool := s.touchesScope false rs o

/-- Its copy has begun: the partition is quiesced. -/
def State.quiet (s : State) (p : Nat) : Bool := match s.stopOf p with | some r => r.captured | none => false

/-- The stop of a snapshot withholds P3 items and items that write its scope (R302). -/
def State.stopBlocks (s : State) (o : Op) : Bool :=
  match s.stopOf (s.opPart o) with
  | some r => o.opcode == 1 || o.opcode == 2 || s.writesScope r.regions o
  | none => false

/-- The class of a work item that competes for a resource (R24, R38); 0 for the others. -/
def Op.klass (o : Op) : Nat := if o.opcode = 4 then 1 else if o.opcode = 3 then 2 else if o.opcode = 1 ∨ o.opcode = 2 then 3 else 0

/-- Issue priority of an item's queue (R38). -/
def State.opPrio (s : State) (o : Op) : Nat := s.f (Fld.wqCfg_queue_prio o.wq)

/-- Turns until a queue comes up again, after the one last granted in its partition and class (R38). -/
def State.turnOf (s : State) (o : Op) : Nat := (64 + o.wq - Sparse.get (fun _ => 63) s.ctl.turns (4 * s.opPart o + o.klass) - 1) % 64

/-- Item a is granted before item b of its partition and class: by queue_prio, then by turns, then by admission (R38). -/
def State.grantedBefore (s : State) (a b : Op) : Bool :=
  decide (s.opPrio b < s.opPrio a) || (s.opPrio a == s.opPrio b && (decide (s.turnOf a < s.turnOf b) ||
    (s.turnOf a == s.turnOf b && decide (a.admitNo < b.admitNo))))

/-- A READY item may issue, apart from the turn of R38: unsettled, its queue not stalled, the STEP fence of an APPLY closed
(R37), its contexts serving it next, and the device serving. -/
def State.mayIssue (s : State) (slot : Nat) (o : Op) : Bool :=
  s.opState slot == 2 && !s.opSettled slot && o.done.isNone && !s.cqStalled o && o.stepFence.isNone && s.ctxsServe o && s.serving &&
    !s.stopBlocks o

/-- A READY item asks for the resource of its class now: a descriptor can be had of each of its contexts, the arrays that
prefetched for a MATMUL have drained, and no bucket of a COLLECTIVE's group is active. -/
def State.contends (s : State) (slot : Nat) (o : Op) : Bool :=
  s.mayIssue slot o && (itemCtxs o.item).all (fun e => (s.ctx e.1).head != (s.ctx e.1).tail) &&
    !(o.opcode == 1 && (s.mmClaimed o).any s.arrBusy) &&
    !(o.opcode == 4 && s.red.buckets.any (fun b => b.1 == o.b 0x22 2 && b.2.isSome))

/-- Another READY item is granted before this one (R38); COLLECTIVEs compete within their group only. -/
def State.outbid (s : State) (slot : Nat) (o : Op) : Bool :=
  o.klass != 0 && s.inFlight.any (fun e => e.1 != slot && s.opPart e.2 == s.opPart o && e.2.klass == o.klass &&
    (o.opcode != 4 || e.2.b 0x22 2 == o.b 0x22 2) && s.grantedBefore e.2 o && s.contends e.1 e.2)

/-- The operation in a slot, when it may issue as this opcode and it is its turn. -/
def State.issuable (s : State) (slot opcode : Nat) : Option Op :=
  match s.op slot with
  | some o => if o.opcode = opcode ∧ s.mayIssue slot o ∧ s.outbid slot o = false then some o else none
  | none => none

/-- A STREAM that has issued and taken some of its descriptors, and waits for the rest (R140). -/
def State.taking (s : State) (slot : Nat) (o : Op) : Bool :=
  s.opState slot == 3 && !s.opSettled slot && o.done.isNone && !o.got.isEmpty && s.ctxsServe o && s.serving

/-- As issuable, for a STREAM of one stack_op; or one that has issued and takes further descriptors. -/
def State.issuableStream (s : State) (slot sop : Nat) : Option Op :=
  match s.op slot with
  | some o =>
    if o.opcode = 3 ∧ o.b 0x28 1 = sop ∧ (s.taking slot o ∨ (s.issuable slot 3).isSome) then some o else none
  | none => none

/-- Issue: state ISSUED, the CTLCLK count of the first issue (R40), and its queue's turn taken (R38). -/
def State.issue (s : State) (slot : Nat) : State :=
  match s.op slot with
  | some o =>
    let t := (s.setStatus slot 3 0 false).setOp slot (some { o with tIssue := if o.tIssue = 0 then s.now + 1 else o.tIssue })
    if o.klass = 0 then t
    else t.setCtl { t.ctl with turns := Sparse.put (fun _ => 63) t.ctl.turns (4 * s.opPart o + o.klass) o.wq }
  | none => s

/-- A run of bytes touches a channel that is RETRAINING: a request to it waits (R226). -/
def State.chanWaits (s : State) (a n : Nat) : Bool :=
  (List.range (ceilDiv (a + n) 4096 - a / 4096)).any (fun i =>
    match placeOf (if i = 0 then a else (a / 4096 + i) * 4096) with
    | some pl => let q := s.redirect pl; s.f (Fld.hsmChStatus_state (32 * q.stack + q.ch)) == 2
    | none => false)

/-! ### Writing units -/

/-- Whether a byte address is among those written. -/
def coveredBy (ws : List (Nat × List Byte)) (a : Nat) : Bool :=
  ws.any (fun w => decide (w.1 ≤ a) && decide (a < w.1 + w.2.length))

/-- The 32-byte sectors a list of writes touches. -/
def sectorsOf (ws : List (Nat × List Byte)) : List Nat :=
  (ws.flatMap (fun w => (List.range (ceilDiv (w.1 + w.2.length) 32 - w.1 / 32)).map (fun i => w.1 / 32 + i))).dedup

/-- Write the units of one operation: bytes in order, later standing; sectors they cover whole lose their poison. -/
def State.writeUnits (s : State) (ws : List (Nat × List Byte)) : State :=
  let t := ws.foldl (fun t w => t.pokes w.1 w.2) s
  (sectorsOf ws).foldl (fun t k =>
    if (List.range 32).all (fun i => coveredBy ws (32 * k + i)) then t.setPoison (32 * k) false else t) t

/-- The 4 KiB blocks of a list that had completed when an operation failed in the middle: a free choice for each, and none
that met the fault itself (R213). -/
def State.keeps (s : State) (blocks bad : List Nat) : List Nat :=
  ((blocks.zipIdx).filter (fun e => !bad.contains e.1 && Config.freeBit (s.fresh + e.2))).map Prod.fst

/-- After a failure in the middle of an operation, blocks of the destination that had completed stay written (R213). -/
def State.writeSome (s : State) (ws : List (Nat × List Byte)) (bad : List Nat) : State :=
  let blocks := (ws.map (fun w => w.1 / 4096)).dedup
  let kept := s.keeps blocks bad
  (s.writeUnits (ws.filter (fun w => kept.contains (w.1 / 4096)))).useFresh blocks.length

/-! ### Stream and stack-engine operations -/

/-- Unit addresses of the taken descriptors, in order. -/
def takenUnits (ds : List DescP) : List Nat := ds.flatMap (fun d => d.1.addrs)

/-- All taken descriptors have one format code. -/
def takenFmt (ds : List DescP) : Option Nat :=
  match ds with
  | [] => none
  | d :: rest => if rest.all (fun e => e.1.fmtCode == d.1.fmtCode) then some d.1.fmtCode else none

def takenUnit (ds : List DescP) : Nat := match ds with | [] => 1 | d :: _ => d.1.unit

/-- Take what a STREAM still needs of a side: nothing where what it has taken covers it. -/
def State.takeSide (s : State) (o : Op) (side : Nat) (xp : Bool) (m : Desc → Nat) (n : Nat) : Take :=
  let i := o.b (0x20 + 4 * side) 4
  if n ≤ total m (o.gotOf side) then .ok [] (s.ctx i).head
  else s.take i (s.opPart o) (side == 1) xp true m (n - total m (o.gotOf side))

/-- Take both sides of a STREAM: need units of each measure. -/
def State.takePair (s : State) (o : Op) (mS mD : Desc → Nat) (nS nD : Nat) : Take × Take :=
  (s.takeSide o 0 true mS nS, s.takeSide o 1 false mD nD)

/-- Consume what a STREAM has taken of a side now; with its last descriptor the context serves the next operation. -/
def State.consumeSide (s : State) (slot : Nat) (o : Op) (side : Nat) (k : Take) : State :=
  let last := match k with | .ok _ _ => true | _ => false
  if k.got.isEmpty then s else s.consume slot (o.b (0x20 + 4 * side) 4) k.head k.got last

/-- A STREAM meets a faulty descriptor after others: what was taken is consumed, and the destinations of the bytes
already moved are undefined (R139). -/
def State.failMidway (s : State) (slot : Nat) (o : Op) (ctxBad code : Nat) (a b : Bool) (ks kd : Take) : State :=
  let ss := o.gotOf 0 ++ ks.got
  let ds := o.gotOf 1 ++ kd.got
  let n := min (total Desc.bytes ss) (total Desc.bytes ds)
  let t := ((s.issue slot).consumeSide slot o 0 ks).consumeSide slot o 1 kd
  let us := (takenUnits ds).take (n / takenUnit ds)
  (us.foldl (fun x u => x.storeFree u (takenUnit ds)) t).descFault slot ctxBad code a b

/-- A STREAM that cannot be covered yet takes the descriptors there are and holds them (R134, R140); with none it waits. -/
def State.takeSome (s : State) (slot : Nat) (o : Op) (ks kd : Take) : State :=
  if ks.got.isEmpty && kd.got.isEmpty then s
  else
    let t := ((s.issue slot).consumeSide slot o 0 ks).consumeSide slot o 1 kd
    match t.op slot with
    | some x => t.setOp slot (some { x with got := [(0, o.gotOf 0 ++ ks.got), (1, o.gotOf 1 ++ kd.got)] })
    | none => t

/-- A unit of either side lies in a channel that is RETRAINING (R226). -/
def State.sidesWait (s : State) (ss ds : List DescP) : Bool :=
  (takenUnits ss).any (fun a => s.chanWaits a (takenUnit ss)) || (takenUnits ds).any (fun a => s.chanWaits a (takenUnit ds))

/-- Run a two-sided STREAM once both sides are covered: issue, take, check, act.  It moves its bytes with its last descriptor
(assumption 25). -/
def State.runStream (s : State) (slot : Nat) (o : Op) (mS mD : Desc → Nat) (nS nD : Nat)
    (check : State → List DescP → List DescP → Option (Nat × Bool))
    (act : State → List DescP → List DescP → State) : State :=
  let k := s.takePair o mS mD nS nD
  match k with
  | (.fail c a b _ _, _) => s.failMidway slot o (o.b 0x20 4) c a b k.1 k.2
  | (_, .fail c a b _ _) => s.failMidway slot o (o.b 0x24 4) c a b k.1 k.2
  | (.ok ss _, .ok ds _) =>
    let ss := o.gotOf 0 ++ ss
    let ds := o.gotOf 1 ++ ds
    if s.sidesWait ss ds then s
    else
      let t := (((s.issue slot).consumeSide slot o 0 k.1).consumeSide slot o 1 k.2).advanceRng (o.b 0x24 4) (total Desc.elements ds)
      match check t ss ds with
      | some (code, span) => t.descFault slot (o.b 0x24 4) code false span
      | none => act t ss ds
  | _ => s.takeSome slot o k.1 k.2

/-- Bytes a STREAM moved: its detail, and its contexts' counts and positions.  Those a stream engine carries count in their
classes too; in-stack traffic is none of these (R130, R145). -/
def State.moved (s : State) (slot src dst n : Nat) (carried : Bool) (ss ds : List DescP) : State :=
  let own (t : State) (i : Nat) : State := t.setCtx i { t.ctx i with bytes := ((t.ctx i).bytes + n) % 2 ^ 64 }
  let t := if carried then (s.countBytes src 0 n).countBytes dst 1 n else own (own s src) dst
  let last (l : List DescP) : Nat := match l.getLast? with | some d => d.1.elements | none => 0
  (((t.advancePos src (last ss)).advancePos dst (last ds)).addDetail slot n)

/-- Same format on both sides, and as many units. -/
def sameShape (ss ds : List DescP) : Bool :=
  (takenFmt ss).isSome && takenFmt ss == takenFmt ds && (takenUnits ss).length == (takenUnits ds).length

/-- Poison met by a run of reads. -/
def State.anyPoison (s : State) (us : List Nat) (n : Nat) : Bool := us.any (fun a => s.poisoned a n)

/-- Destination blocks of pairs of units one of which meets poison. -/
def State.metPoison (s : State) (pairs : List (Nat × Nat)) (n : Nat) (dest : Bool) : List Nat :=
  ((pairs.filter (fun e => s.poisoned e.1 n || (dest && s.poisoned e.2 n))).map (fun e => e.2 / 4096)).dedup

/-- A plain copy of units; a source sector in poison fails the operation (R212). -/
def State.copyUnits (s : State) (slot src dst : Nat) (ss ds : List DescP) : State :=
  let n := takenUnit ss
  let us := takenUnits ss
  let ws := (takenUnits ds).zip (us.map (fun a => s.bytes a n))
  if s.anyPoison us n then (s.writeSome ws (s.metPoison (us.zip (takenUnits ds)) n false)).finish slot Res.hwFault
  else ((s.writeUnits ws).moved slot src dst (n * us.length) true ss ds).finish slot Res.ok

/-- MOVE (R214, R137): bytes between contexts through the stream engines, in iteration order. -/
def opMove (slot : Nat) (s : State) : State :=
  match s.issuableStream slot 0 with
  | none => s
  | some o =>
    let n := o.b 0x30 8
    s.runStream slot o Desc.bytes Desc.bytes n n
      (fun _ ss ds => if sameShape ss ds then none else some (Res.badField, false))
      (fun t ss ds => t.copyUnits slot (o.b 0x20 4) (o.b 0x24 4) ss ds)

/-- Units whose source and destination lie in one stack (R216). -/
def pairsOneStack (ss ds : List DescP) : Bool :=
  let n := takenUnit ss
  ((takenUnits ss).zip (takenUnits ds)).all (fun e =>
    stackOf e.1 == stackOf e.2 && stackOf (e.1 + n - 1) == stackOf (e.2 + n - 1))

/-- Destination sectors that take a byte of a poisoned source sector (R212). -/
def State.poisonedDest (s : State) (ss ds : List DescP) : List Nat :=
  let n := takenUnit ss
  (((takenUnits ss).zip (takenUnits ds)).flatMap (fun e =>
    ((List.range n).filter (fun i => s.poisonedAt (e.1 + i))).map (fun i => (e.2 + i) / 32))).dedup

/-- COPY (R216, R212): within one stack; poison travels, and is counted in SEN_FLAGS.poison_read. -/
def opCopy (slot : Nat) (s : State) : State :=
  match s.issuableStream slot 1 with
  | none => s
  | some o =>
    let n := o.b 0x30 8
    s.runStream slot o Desc.bytes Desc.bytes n n
      (fun _ ss ds => if sameShape ss ds && pairsOneStack ss ds then none else some (Res.badField, false))
      (fun t ss ds =>
        let u := takenUnit ss
        let ws := (takenUnits ds).zip ((takenUnits ss).map (fun a => t.bytes a u))
        let bad := t.poisonedDest ss ds
        let t1 := t.writeUnits ws
        let t2 := bad.foldl (fun x k => x.setPoison (32 * k) true) t1
        let hs := ((takenUnits ds).map (fun a => (stackOf a).getD 0)).dedup
        let t3 := hs.foldl (fun x h => (x.bump (Fld.senBytesCopy_bytes h)
          (u * ((takenUnits ds).filter (fun a => stackOf a == some h)).length))) t2
        let badH := (bad.map (fun k => (stackOf (32 * k)).getD 0)).dedup
        let t4 := badH.foldl (fun x h => x.put (Fld.senFlags_poison_read h) 1) t3
        (t4.moved slot (o.b 0x20 4) (o.b 0x24 4) n false ss ds).finish slot Res.ok)

/-- The sum of one element pair (R215): FP32 rounded once; BF16 widened, summed in FP32 and rounded to BF16
(assumption 10); INT32 wrapping. -/
def addElem (h : Bool) (f : Nat) (old new : Nat) : Nat :=
  match f with
  | 0 => (add32 h (BitVec.ofNat 32 old) (BitVec.ofNat 32 new)).toNat
  | 1 =>
    let v := (Fmt.bf16.decode old).flush h .bf16
    let w := (Fmt.bf16.decode new).flush h .bf16
    let sum := fp32 h (v.add w)
    let b := (Fmt.bf16.convert .rne (val32 h sum)).bits
    if h && (Fmt.bf16.decode b).subnormalIn .bf16 then b / 0x8000 * 0x8000 else b
  | _ => (old + new) % 2 ^ 32

/-- Signed wrap of an n-bit two's-complement sum. -/
def wraps (n a b : Nat) : Bool :=
  let sa := a / 2 ^ (n - 1) % 2
  let sb := b / 2 ^ (n - 1) % 2
  let sr := (a + b) % 2 ^ n / 2 ^ (n - 1)
  sa == sb && sr != sa

/-- A BF16 sum of finite values went beyond its range: the conversion saturated (R57). -/
def addSat (h : Bool) (old new : Nat) : Bool :=
  (Fmt.bf16.convert .rne (val32 h (fp32 h (((Fmt.bf16.decode old).flush h .bf16).add ((Fmt.bf16.decode new).flush h .bf16))))).sat

/-- Add one source element into its destination: read, add and write are indivisible (R215).  An INT32 wrap and a BF16
saturation set the flags of the stack (R57, R215). -/
def State.addInto (s : State) (h : Bool) (f u dst : Nat) (new : Nat) : State :=
  let old := s.word dst u
  let hs := (stackOf dst).getD 0
  let t := s.pokes dst (toLE u (addElem h f old new))
  if f = 6 ∧ wraps (8 * u) old new then t.put (Fld.senFlags_int_wrap hs) 1
  else if f = 1 ∧ addSat h old new then t.put (Fld.senFlags_sat hs) 1
  else t

/-- Add a 64-bit integer into the one whose low and high words lie at two addresses (R215). -/
def State.addWide (s : State) (lo hi new : Nat) : State :=
  let old := s.word lo 4 + 2 ^ 32 * s.word hi 4
  let r := (old + new) % 2 ^ 64
  let y := (s.pokes lo (toLE 4 (r % 2 ^ 32))).pokes hi (toLE 4 (r / 2 ^ 32))
  if wraps 64 old new then y.put (Fld.senFlags_int_wrap ((stackOf lo).getD 0)) 1 else y

/-- Add a list of elements into destinations whose blocks are among those kept; with wide, elements 2i and 2i + 1 form one
little-endian INT64 (R215). -/
def State.addAll (s : State) (h wide : Bool) (f u : Nat) (kept : Nat → Bool) (du news : List Nat) : State :=
  if wide then
    (List.range (du.length / 2)).foldl (fun x i =>
      if kept (du.getD (2 * i) 0 / 4096) && kept (du.getD (2 * i + 1) 0 / 4096) then
        x.addWide (du.getD (2 * i) 0) (du.getD (2 * i + 1) 0) (news.getD (2 * i) 0 + 2 ^ 32 * news.getD (2 * i + 1) 0)
      else x) s
  else (du.zip news).foldl (fun x e => if kept (e.1 / 4096) then x.addInto h f u e.1 e.2 else x) s

/-- The BF16 sums of a list that saturate: a trigger of the ladder (R57, R192). -/
def State.addSats (s : State) (h : Bool) (f u : Nat) (du news : List Nat) : Bool :=
  f == 1 && (du.zip news).any (fun e => addSat h (s.word e.1 u) e.2)

/-- REDUCE_ADD (R214, R215): the source added into the destination element by element in the stack. -/
def opReduceAdd (slot : Nat) (s : State) : State :=
  match s.issuableStream slot 2 with
  | none => s
  | some o =>
    let n := o.b 0x30 8
    let wide := o.b 0x29 1 % 2 == 1
    s.runStream slot o Desc.bytes Desc.bytes n n
      (fun _ ss ds =>
        let f := (takenFmt ss).getD 15
        if sameShape ss ds && (f == 0 || f == 1 || f == 6) && (!wide || (f == 6 &&
            ss.all (fun d => d.1.elements % 2 == 0) && ds.all (fun d => d.1.elements % 2 == 0)))
        then none else some (Res.badField, false))
      (fun t ss ds =>
        let h := t.heritage (t.opPart o)
        let f := (takenFmt ss).getD 0
        let u := takenUnit ss
        let su := takenUnits ss
        let du := takenUnits ds
        let news := su.map (fun a => t.word a u)
        if t.anyPoison su u || t.anyPoison du u then
          let blocks := (du.map (fun a => a / 4096)).dedup
          let kept := t.keeps blocks (t.metPoison (su.zip du) u true)
          ((t.addAll h wide f u (fun b => kept.contains b) du news).useFresh blocks.length).finish slot Res.hwFault
        else
          let t1 := t.addAll h wide f u (fun _ => true) du news
          let t1 := if t.addSats h f u du news then t1.trigger slot else t1
          let hs := (du.map (fun a => (stackOf a).getD 0)).dedup
          let t2 := hs.foldl (fun x k => x.bump (Fld.senBytesAdd_bytes k)
            (u * (du.filter (fun a => stackOf a == some k)).length)) t1
          let t3 := if f = 0 then t2.taintWrites (t2.opPart o) o.stamp (du.map (fun a => (a, t2.word a 4)))
            else if f = 1 then t2.taintWrites (t2.opPart o) o.stamp (du.map (fun a => (a, 65536 * t2.word a 2))) else t2
          (t3.moved slot (o.b 0x20 4) (o.b 0x24 4) n false ss ds).finish slot Res.ok)

/-- TRANSPOSE (R143, R214): a turned copy; the source must set xpose. -/
def opTranspose (slot : Nat) (s : State) : State :=
  match s.issuableStream slot 3 with
  | none => s
  | some o =>
    let n := o.b 0x30 8
    s.runStream slot o Desc.bytes Desc.bytes n n
      (fun _ ss ds =>
        if sameShape ss ds && ss.all (fun d => d.1.xpose && [0, 1, 2, 3, 4].contains d.1.fmtCode) then none
        else some (Res.badField, false))
      (fun t ss ds =>
        let u := takenUnit ss
        let du := takenUnits ds
        let ws := du.zip ((takenUnits ss).map (fun a => t.bytes a u))
        if t.anyPoison (takenUnits ss) u then
          (t.writeSome ws (t.metPoison ((takenUnits ss).zip du) u false)).finish slot Res.hwFault
        else
          let t1 := ((du.map (fun a => (stackOf a).getD 0)).dedup).foldl (fun x k =>
            x.bump (Fld.senBytesTurn_bytes k) (u * (du.filter (fun a => stackOf a == some k)).length)) (t.writeUnits ws)
          (t1.moved slot (o.b 0x20 4) (o.b 0x24 4) (u * (takenUnits ss).length) false ss ds).finish slot Res.ok)

/-- The 1,024 E4M3 encodings a 528-byte E2M1 segment expands to (R65, R66); none for a reserved microscale. -/
def expandSegment (seg : List Byte) : Option (List Nat) :=
  let code (b : Nat) : Nat := (seg.getD (512 + b / 2) 0#8).toNat / 16 ^ (b % 2) % 16
  if (List.range 32).any (fun b => code b == 15) then none
  else some ((List.range 1024).map (fun j =>
    let e := (seg.getD (j / 2) 0#8).toNat / 16 ^ (j % 2) % 16
    (Fmt.e4m3.convert .rne ((Fmt.e2m1.decode e).mul (pow2 ((code (j / 32) : Int) - 8)))).bits))

/-- The segments of an E2M1 source descriptor, dimension 0 fastest. -/
def Desc.segs (d : Desc) : List Nat := (iterOffsets d.shape).map (fun o => ((d.start : Int) + o).toNat)

/-- Elements of a source descriptor in delivered order, each with its segment's place in Desc.segs: in segment order, or with
dimensions 0 and 1 of its elements swapped (R143, R218). -/
def Desc.expandOrder (d : Desc) : List (Nat × Nat) :=
  let ns := (d.shape.getD 0 (1, 0)).1
  let c1 := (d.shape.getD 1 (1, 0)).1
  let n := d.segs.length
  if d.xpose then
    (List.range (n / (ns * c1))).flatMap (fun b => (List.range (1024 * ns)).flatMap (fun k => (List.range c1).map (fun r =>
      (b * ns * c1 + r * ns + k / 1024, k % 1024))))
  else (List.range n).flatMap (fun g => (List.range 1024).map (fun k => (g, k)))

/-- What an EXPAND reads: each element in delivered order, none where its segment has a reserved microscale, and whether the
segment meets poison (R66, R218). -/
def State.expandRead (s : State) (ss : List DescP) : List (Option Nat × Bool) :=
  ss.flatMap (fun d =>
    let segs := d.1.segs.map (fun a => (expandSegment (s.bytes a 528), s.poisoned a 528))
    d.1.expandOrder.map (fun e =>
      match segs.getD e.1 (none, false) with
      | (some l, b) => (some (l.getD e.2 0), b)
      | (none, b) => (none, b)))

/-- EXPAND_E2M1 (R218): each source segment becomes 1,024 E4M3 elements, without scale planes. -/
def opExpand (slot : Nat) (s : State) : State :=
  match s.issuableStream slot 4 with
  | none => s
  | some o =>
    let n := o.b 0x30 8
    s.runStream slot o Desc.bytes (fun d => d.elements) n (n / 528 * 1024)
      (fun _ ss ds =>
        if takenFmt ss == some 5 && takenFmt ds == some 2 && n % 528 == 0 then none else some (Res.badField, false))
      (fun t ss ds =>
        let es := t.expandRead ss
        let du := takenUnits ds
        let ws := du.zip (es.map (fun e => toLE 1 (e.1.getD 0)))
        let bad := (((du.zip es).filter (fun e => e.2.2 || e.2.1.isNone)).map (fun e => e.1 / 4096)).dedup
        if es.any Prod.snd then (t.writeSome ws bad).finish slot Res.hwFault
        else if es.any (fun e => e.1.isNone) then (t.writeSome ws bad).descFault slot (o.b 0x20 4) Res.badField false false
        else ((t.writeUnits ws).moved slot (o.b 0x20 4) (o.b 0x24 4) n false ss ds).finish slot Res.ok)

/-! ### The traffic test (R225) -/

/-- The pattern block is well formed: version, pattern, passes, and reserved bytes of zero. -/
def testBlockOk (b : List Byte) : Bool :=
  fieldLE b 0 2 == 1 && decide (fieldLE b 2 1 ≤ 3) && fieldLE b 3 1 != 0 && zeroAt b 4 4 && zeroAt b 0x30 16

/-- The first 8 bytes that the test expects at an address in a pass: the pattern, the channel's seed, the address and the pass
decide them, and the spec gives no bit sequence (assumption 48). -/
def testExpected (b : List Byte) (a pass : Nat) : Nat :=
  let ch := match placeOf a with | some p => 32 * p.stack + p.ch | none => 0
  (Config.testPattern (fieldLE b 2 1) (fieldLE b 8 8 ^^^ ch) a pass).toNat

/-- The error fields of a test: mismatched sectors, and the address, the expected and the actual bytes of the first; with no
mismatch the last three are free. -/
def State.testFields (s : State) (aux errors first pass actual : Nat) (sectors : List Nat) : List Byte :=
  let b := s.bytes aux 64
  let w (i : Nat) : Nat := (Config.freeWord (s.fresh + i)).toNat
  let a := 32 * sectors.getD (first % sectors.length) 0
  let n := min errors (sectors.length)
  toLE 8 n ++ (if n = 0 then toLE 8 (w 0) ++ toLE 8 (w 1) ++ toLE 8 (w 2)
    else toLE 8 a ++ toLE 8 (testExpected b a (pass % fieldLE b 3 1)) ++ toLE 8 actual)

/-- TRAFFIC_TEST (R225): the region's contents are destroyed, and the error fields are written.  What mismatched is the
memory's own doing and comes with the command: how many sectors, the place of the first among those tested, the pass that met
it, and the bytes read there. -/
def opTrafficTest (slot errors first pass actual : Nat) (s : State) : State :=
  match s.issuableStream slot 7 with
  | none => s
  | some o =>
    let dst := o.b 0x24 4
    let n := o.b 0x30 8
    let aux := o.b 0x38 8
    let k := s.takeSide o 1 false Desc.bytes n
    match k with
    | .wait _ _ => s.takeSome slot o (.ok [] 0) k
    | .fail c a b _ _ => s.failMidway slot o dst c a b (.ok [] 0) k
    | .ok ds _ =>
      let ds := o.gotOf 1 ++ ds
      if (takenUnits ds).any (fun a => s.chanWaits a (takenUnit ds)) || s.chanWaits aux 64 then s
      else
        let t := (((s.issue slot).consumeSide slot o 1 k).advanceRng dst (total Desc.elements ds)).noteOut slot [(aux + 0x10, 32)]
        if t.poisoned aux 64 then t.finish slot Res.hwFault
        else if testBlockOk (t.bytes aux 64) = false then t.finish slot Res.badField
        else
          let fields := t.testFields aux errors first pass actual (sectorsOf ((takenUnits ds).map (fun a => (a, List.replicate (takenUnit ds) 0#8))))
          let t1 := (takenUnits ds).foldl (fun x a => x.storeFree a (takenUnit ds)) (t.useFresh 3)
          ((t1.store (aux + 0x10) fields).addDetail slot n).finish slot Res.ok

end Sys2Proof.Machine
end

