-- ==== Sys2Proof/Machine/Tasks.lean ====
section
/-!
DEFINITION. The tasks of a tile engine (R112): which are resident and which has its turn; what a KERNEL works on (R113, R119),
its row buffers (R122) and the rows whose descriptors are there.
-/
namespace Sys2Proof.Machine

/-- The operation of a slot is executing and unsettled. -/
def State.opRunning (s : State) (slot admitNo : Nat) : Bool :=
  match s.op slot with
  | some o => o.admitNo == admitNo && s.opState slot == 3 && !s.opSettled slot && o.done.isNone
  | none => false

/-- The switch-in of a compute stack's spare (R127). -/
def State.spare (s : State) (cs : Nat) : Option Spare := Sparse.get (fun _ => none) s.comp.spares cs

def State.setSpare (s : State) (cs : Nat) (x : Option Spare) : State :=
  { s with comp := { s.comp with spares := Sparse.put (fun _ => none) s.comp.spares cs x } }

/-! ### What a KERNEL works on -/

/-- Instruction words of a KERNEL. -/
def KernRun.instrs (k : KernRun) : List KWord := k.words.map KWord.parse

/-- Vectors an instruction slot processes (R119). -/
def KernRun.factor (k : KernRun) : Nat := if k.width = 1 then 2 else if k.width = 2 then 4 else 1

def KernRun.lanes (k : KernRun) : Nat := 512 * k.factor

/-- Instructions of a sweep, in program order. -/
def KernRun.sweepInstrs (k : KernRun) (w : Nat) : List KWord := k.instrs.filter (fun i => i.sweep == w)

/-- The first sweep at or after w that has instructions. -/
def KernRun.sweepFrom (k : KernRun) (w : Nat) : Option Nat :=
  (List.range k.sweeps).find? (fun v => decide (w ≤ v) && !(k.sweepInstrs v).isEmpty)

/-- Vector slots of a row. -/
def KernRun.rowSlots (k : KernRun) : Nat := if k.rowLen = 0 then 1 else ceilDiv k.rowLen k.lanes

/-- Rows that a task takes up together: with row_len 0, the vectors that share a slot (R119). -/
def KernRun.group (k : KernRun) (t : Task) : List Nat := t.rows.take (if k.rowLen = 0 then k.factor else 1)

/-- Elements of the rows in hand, by lane of the row: element index of the operation, in row-buffer order. -/
def KernRun.rowElems (k : KernRun) (t : Task) : List Nat :=
  (k.group t).flatMap (fun j => (List.range (if k.rowLen = 0 then 512 else k.rowLen)).map (fun c =>
    (if k.rowLen = 0 then 512 else k.rowLen) * j + c))

/-- Column, row, element index and activity of each lane of a task's vector slot (R113, R117). -/
def KernRun.laneInfo (k : KernRun) (t : Task) : List (Nat × Nat × Nat × Bool) :=
  (List.range k.lanes).map (fun l =>
    if k.rowLen = 0 then
      match t.rows[l / 512]? with
      | some j => (l % 512, j, 512 * j + l % 512, decide (512 * j + l % 512 < k.elements))
      | none => (l % 512, 0, 0, false)
    else
      let c := t.vec * k.lanes + l
      let r := t.rows.headD 0
      (c, r, r * k.rowLen + c, decide (c < k.rowLen)))

/-- Bytes of an element of a context. -/
def KCtx.size (c : KCtx) : Nat := ((Fmt.ofCode c.fmtCode).getD .fp32).bytes

/-- Addresses of an input's elements in a row buffer: of the row, or of the one row of a broadcast input (R122). -/
def KernRun.rowAddrs (k : KernRun) (t : Task) (c : KCtx) : List Nat :=
  if c.bcast then c.locs.take c.need
  else ((k.rowElems t).filter (fun e => decide (e < k.elements))).map (fun e => c.locs.getD e 0)

/-- The descriptors taken so far cover the rows in hand, of every input and output. -/
def KernRun.covered (k : KernRun) (t : Task) : Bool :=
  let top := ((k.rowElems t).foldl max 0) + 1
  (k.ins ++ k.outs).all (fun c => match c with
    | some c => decide (min (if c.bcast then c.need else top) c.need ≤ c.locs.length)
    | none => true)

/-- A byte that the rows in hand read or write lies in a channel that is RETRAINING (R226). -/
def State.rowWaits (s : State) (k : KernRun) (t : Task) : Bool :=
  (k.ins ++ k.outs).any (fun c => match c with
    | some c => (k.rowAddrs t c).any (fun a => s.chanWaits a c.size)
    | none => false)

/-- ARRCLK cycles of an instruction, by the width of its program (R123, R179). -/
def KWord.cycles (w : KWord) (width : Nat) (h : Bool) : Nat := (if w.isSfu then (if width = 1 then 8 else 4) else 1) * (if h then 8 else 1)

def instrCycles (k : KernRun) (w : KWord) : Nat := w.cycles k.width k.heritage

/-! ### Residence and turns (R112) -/

/-- Keep at most eight tasks resident, oldest first, and show them in TE_STATUS_n. -/
def State.engUpdate (s : State) (e : Nat) : State :=
  let x := s.eng e
  let all := x.tasks ++ x.waiting
  let t := (s.setEng e { x with tasks := all.take 8, waiting := all.drop 8 }).put (Fld.teStatus_tasks e) (min 8 all.length)
  if 2 ≤ t.f (Fld.teStatus_state e) then t else t.put (Fld.teStatus_state e) (if all.isEmpty then 0 else 1)

/-- A task joins an engine. -/
def State.addTask (s : State) (e : Nat) (t : Task) : State :=
  (s.setEng e { s.eng e with waiting := (s.eng e).waiting ++ [t] }).engUpdate e

/-- Two names of one task. -/
def Task.same (a b : Task) : Bool := a.kind == b.kind && a.slot == b.slot && a.admitNo == b.admitNo && a.unit == b.unit

/-- Take the tasks that match out of every engine. -/
def State.dropTasksIf (s : State) (p : Nat → Task → Bool) : State :=
  (List.range 64).foldl (fun t e =>
    let x := t.eng e
    if (x.tasks ++ x.waiting).any (p e) then
      (t.setEng e { x with tasks := x.tasks.filter (fun k => !p e k), waiting := x.waiting.filter (fun k => !p e k) }).engUpdate e
    else t) s

/-- Remove an operation's tasks from every engine. -/
def State.dropTasks (s : State) (slot admitNo : Nat) : State :=
  (s.dropTasksIf (fun _ k => k.slot == slot && k.admitNo == admitNo)).setKern slot none

/-- Whether any engine has a task of an operation. -/
def State.hasTask (s : State) (p : Task → Bool) : Bool := (List.range 64).any (fun n => ((s.eng n).tasks ++ (s.eng n).waiting).any p)

/-- A task can run its next vector: the inputs of a KERNEL's row are, or can be, in the row buffer. -/
def State.taskReady (s : State) (t : Task) : Bool :=
  if t.kind = 0 then
    (match s.kern t.slot with
     | some k => k.admitNo == t.admitNo && s.opRunning t.slot t.admitNo && (t.rowBuf.isSome || (k.covered t && !s.rowWaits k t))
     | none => false)
  else s.opRunning t.slot t.admitNo

/-- Order of ready tasks at a vector boundary: epilogues, KERNEL shares, awl recomputes; the oldest admitted first. -/
def Task.before (a b : Task) : Bool :=
  let rank (t : Task) : Nat := if t.kind = 1 then 0 else if t.kind = 0 then 1 else 2
  decide (rank a < rank b) || (rank a == rank b && decide (a.admitNo < b.admitNo))

/-- The task whose turn it is: one in the middle of a vector, else the first ready one in order. -/
def State.currentTask (s : State) (e : Nat) : Option Task :=
  let ts := (s.eng e).tasks
  match ts.find? (fun t => t.pos != 0) with
  | some t => some t
  | none => (ts.filter s.taskReady).foldl (fun b t => match b with | none => some t | some y => if t.before y then some t else some y) none

/-- Replace a task of an engine. -/
def State.putTask (s : State) (e : Nat) (t : Task) : State :=
  let x := s.eng e
  s.setEng e { x with tasks := x.tasks.map (fun y => if y.same t then t else y) }

/-- A task leaves an engine. -/
def State.endTask (s : State) (e : Nat) (t : Task) : State :=
  let x := s.eng e
  (s.setEng e { x with tasks := x.tasks.filter (fun y => !y.same t) }).engUpdate e

/-- A task starts a vector: a switch is counted when another task ran before it. -/
def State.tookTurn (s : State) (e : Nat) (t : Task) : State :=
  let x := s.eng e
  let me := (t.kind, t.admitNo, t.unit)
  let u := s.setEng e { x with last := some me }
  if x.last.isSome && x.last != some me then u.bumpSat (Fld.teSwitch_switches e) 1 else u

/-- An engine can run vectors: not FAILED, and in a switch-in only the vector in progress (R127). -/
def State.engRuns (s : State) (e : Nat) (t : Task) : Bool :=
  s.f (Fld.teStatus_state e) != 3 && !(s.f (Fld.teStatus_state e) == 2 && t.pos == 0)

/-- The vector in progress starts over: its stores and contributions go (R117, R126). -/
def Task.restart (t : Task) : Task := { t with pos := 0, regs := [], stores := [], sums := [], sat := 0, nonfin := 0, conv := 0 }

end Sys2Proof.Machine
end

