-- ==== Sys2Proof/Machine/ArrayOps.lean ====
section
/-!
DEFINITION. What the matrix arrays share: a MATMUL's units and passes (R88, R106), the slices of the running sums (R107),
operand elements and scales, the cell modes (R85 to R87), and an array's leaving service (R93).
-/
namespace Sys2Proof.Machine

/-! ### Prefetch claims -/

/-- STRM_PF_STATUS_n: 0 FREE, 1 CLAIMED, 2 FILLING, 3 FILLED, with the tiles filled and the claiming slot. -/
def State.pfShow (s : State) (a : Nat) : State :=
  match s.claim a with
  | none => s.wr (Reg.strmPfStatus a) 0
  | some c =>
    let k := (s.arr a).pf.length
    ((s.put (Fld.strmPfStatus_state a) (if k = 0 then 1 else if k < c.tiles then 2 else 3)).put (Fld.strmPfStatus_tiles a) k).put
      (Fld.strmPfStatus_slot a) c.slot

def State.setClaim (s : State) (a : Nat) (x : Option PfClaim) : State :=
  State.pfShow { s with strm := { s.strm with claims := Sparse.put (fun _ => none) s.strm.claims a x } } a

/-! ### Units and passes (R79, R88, R106) -/

/-- The rate divisor r of R79, eight times in heritage mode (R179). -/
def rateOf (mode xFmt : Nat) (h : Bool) : Nat := (if xFmt = 1 then 4 else if mode = 0 then 1 else 2) * (if h then 8 else 1)

def MmRun.r (x : MmRun) : Nat := rateOf x.mode x.xFmt x.heritage

/-- Rows of the largest pass: r times it spans 4,096 cycles. -/
def MmRun.mMax (x : MmRun) : Nat := 4096 / x.r

/-- Column groups G. -/
def MmRun.groups (x : MmRun) : Nat := ceilDiv x.tilesN 2

/-- First row, row count, first column tile and tile count of a unit. -/
def MmRun.unitRow (x : MmRun) (u : Nat) : Nat := u / x.groups * x.mMax
def MmRun.unitRows (x : MmRun) (u : Nat) : Nat := min x.mMax (x.m - x.unitRow u)
def MmRun.unitTile (x : MmRun) (u : Nat) : Nat := 2 * (u % x.groups)
def MmRun.unitTiles (x : MmRun) (u : Nat) : Nat := min 2 (x.tilesN - x.unitTile u)
/-- Passes of a unit: chunks of each of its tiles. -/
def MmRun.unitPasses (x : MmRun) (u : Nat) : Nat := x.unitTiles u * x.chunksK
/-- 128-row output tiles of a unit. -/
def MmRun.unitOut (x : MmRun) (u : Nat) : Nat := ceilDiv (x.unitRows u) 128

/-- The chunk and the column tile of a pass. -/
def MmRun.passChunk (x : MmRun) (i : PassId) : Nat := i.pass / x.unitTiles i.unit
def MmRun.passTile (x : MmRun) (i : PassId) : Nat := x.unitTile i.unit + i.pass % x.unitTiles i.unit
/-- Valid rows of a chunk. -/
def MmRun.chunkLen (x : MmRun) (c : Nat) : Nat := min 1024 (x.kLen - 1024 * c)
/-- Valid columns of a tile. -/
def MmRun.tileLen (x : MmRun) (t : Nat) : Nat := min 512 (x.n - 512 * t)

/-- Whether every output tile of a unit has been written. -/
def MmRun.unitWritten (x : MmRun) (u : Nat) : Bool := (List.range (x.unitOut u)).all (fun t => x.written.contains (64 * u + t))

/-- The prefetched tiles that fit the weight area of a half (R151). -/
def pfLimit (xFmt : Nat) : Nat := if xFmt = 1 then 12 else 24

/-- Column tile of a pass within its unit, and the copies that each of the unit's tiles has (R107). -/
def MmRun.passPlace (x : MmRun) (i : PassId) : Nat := i.pass % x.unitTiles i.unit
def MmRun.copies (x : MmRun) (u : Nat) : Nat := if x.unitTiles u = 1 then 3 else 2
/-- The copy that a pass writes. -/
def MmRun.copyOf (x : MmRun) (i : PassId) : Nat := x.passChunk i % x.copies i.unit

/-! ### Slices of the running sums (R103, R107, R108) -/

/-- Occupied slices with what they hold. -/
def ArrState.held (x : ArrState) : List (Nat × AccSlice) := x.slices.filterMap (fun e => e.2.map (fun y => (e.1, y)))

/-- Slices of one block of a unit's column tile, over its copies. -/
def ArrState.blockSlices (x : ArrState) (admitNo unit tile block : Nat) : List (Nat × AccSlice) :=
  x.held.filter (fun e => e.2.admitNo == admitNo && e.2.unit == unit && e.2.tile == tile && e.2.block == block)

/-- The committed slice of such a block: that which the latest retired pass folded into. -/
def ArrState.committed (x : ArrState) (admitNo unit tile block : Nat) : Option Nat :=
  ((x.blockSlices admitNo unit tile block).foldl (fun (b : Option (Nat × Nat)) e =>
    match e.2.chunk, b with
    | none, b => b
    | some c, none => some (e.1, c)
    | some c, some y => if y.2 < c then some (e.1, c) else some y) none).map Prod.fst

/-- Place of the word for row and column of a tile in slice k. -/
def sliceKey (k row col : Nat) : Nat := k * 65536 + row % 128 * 512 + col % 512

/-- The running sum for a row within the unit and a column of the product: its committed copy. -/
def ArrState.sum (x : ArrState) (admitNo unit row col : Nat) : Word32 :=
  match x.committed admitNo unit (col / 512 % 2) (row / 128) with
  | some k => (Sparse.get (fun _ => none) x.store (sliceKey k row col)).getD 0#32
  | none => 0#32

/-- Put a word in the committed copy. -/
def ArrState.setSum (x : ArrState) (admitNo unit row col : Nat) (w : Word32) : ArrState :=
  match x.committed admitNo unit (col / 512 % 2) (row / 128) with
  | some k => { x with store := Sparse.put (fun _ => none) x.store (sliceKey k row col) (some w) }
  | none => x

/-- Free slices. -/
def ArrState.freeSlices (x : ArrState) (ks : List Nat) : ArrState :=
  { x with slices := x.slices.filter (fun e => !ks.contains e.1), store := x.store.filter (fun e => !ks.contains (e.1 / 65536)) }

/-- Blocks of the copy that a pass writes which have no slice yet (R108). -/
def ArrState.blocksWanted (x : ArrState) (m : MmRun) (i : PassId) : List Nat :=
  (List.range (m.unitOut i.unit)).filter (fun b => (x.blockSlices i.admitNo i.unit (m.passPlace i) b).all (fun e => e.2.copy != m.copyOf i))

/-- Slices not allocated, lowest first. -/
def ArrState.spareSlices (x : ArrState) : List Nat := (List.range 320).filter (fun k => (Sparse.get (fun _ => none) x.slices k).isNone)

/-- Allocate the slices that a pass writes. -/
def ArrState.openSlices (x : ArrState) (m : MmRun) (i : PassId) : ArrState :=
  ((x.blocksWanted m i).zip x.spareSlices).foldl (fun y e =>
    { y with slices := Sparse.put (fun _ => none) y.slices e.2 (some ⟨i.slot, i.admitNo, i.unit, m.passPlace i, m.copyOf i, e.1, none⟩) }) x

/-- A MATMUL that the array has left at a boundary keeps only its committed copies once its started passes have retired (R108). -/
def ArrState.shed (x : ArrState) : ArrState :=
  let busy (n : Nat) : Bool := x.cur == some n || x.flight.any (fun f => f.id.admitNo == n) || x.redo.any (fun i => i.admitNo == n) ||
    x.segs.any (fun g => g.id.admitNo == n)
  x.freeSlices ((x.held.filter (fun e => !busy e.2.admitNo &&
    x.committed e.2.admitNo e.2.unit e.2.tile e.2.block != some e.1)).map Prod.fst)

/-- Refresh what ARY_STATUS_n and the engines' slice counts show. -/
def State.arrUpdate (s : State) (a : Nat) : State :=
  let x := s.arr a
  let n := x.held.length
  let t := (s.put (Fld.aryStatus_in_flight a) x.flight.length).putB (Fld.aryStatus_load_busy a) x.loading.isSome
  let t := (List.range 16).foldl (fun t i =>
    let e := 16 * a + i
    let y := t.put (Fld.teStatus_slices e) n
    if y.f (Fld.teAccHwm_high_water e) < n then y.put (Fld.teAccHwm_high_water e) n else y) t
  if t.f (Fld.aryStatus_state a) = 4 ∨ t.f (Fld.aryStatus_state a) = 5 then t
  else t.put (Fld.aryStatus_state a)
    (if !x.repair.isEmpty && x.flight.isEmpty then 3 else if t.flag (Fld.aryCtrl_hold a) then 2
     else if x.flight.isEmpty && x.runs.all (fun r => r.units.isEmpty) then 0 else 1)

/-! ### Operand elements and scales (R60, R66, R137) -/

/-- What an element fetch gives: its value's encoding in the operand's compute format, poison, or a reserved microscale. -/
inductive Elem where
  | val (bits : Nat)
  | poison
  | bad
deriving DecidableEq, Repr

/-- Address and bytes that hold the element at reduction index k and other index i of an operand; kd is the stride index of the
reduction.  An E2M1 element lies in a whole segment. -/
def Desc.elemRun (d : Desc) (kd i k : Nat) : Nat × Nat :=
  let at_ (x : Int) : Nat := ((d.start : Int) + x).toNat
  if d.isE2m1 then (at_ (((k / 1024 * 528 : Nat) : Int) + (i : Int) * d.strides.getD 1 0), 528)
  else (at_ ((k : Int) * d.strides.getD kd 0 + (i : Int) * d.strides.getD (1 - kd) 0), d.unit)

/-- That element.  A reserved microscale anywhere in its segment fails the reader (R66). -/
def State.elemAt (s : State) (d : Desc) (kd i k : Nat) : Elem :=
  let r := d.elemRun kd i k
  if s.poisoned r.1 r.2 then .poison
  else if d.isE2m1 then
    let j := k % 1024
    let e := (s.byte (r.1 + j / 2)).toNat / 16 ^ (j % 2) % 16
    let c := (s.byte (r.1 + 512 + j / 64)).toNat / 16 ^ (j / 32 % 2) % 16
    if (List.range 16).any (fun i => (s.byte (r.1 + 512 + i)).toNat % 16 == 15 || (s.byte (r.1 + 512 + i)).toNat / 16 == 15) then .bad
    else .val ((Fmt.e4m3.convert .rne ((Fmt.e2m1.decode e).mul (pow2 ((c : Int) - 8)))).bits)
  else .val (s.word r.1 r.2)

/-- Bytes that n elements of an operand take in HBM. -/
def Desc.sizeOf (d : Desc) (n : Nat) : Nat := if d.isE2m1 then ceilDiv (528 * n) 1024 else d.unit * n

/-- The stride index of the reduction: dimension 0 of the streaming operand, and of a stationary operand that is turned. -/
def State.xElem (s : State) (x : MmRun) (m k : Nat) : Elem := s.elemAt x.xd 0 m k
def State.wElem (s : State) (x : MmRun) (n k : Nat) : Elem := s.elemAt x.wd (if x.wd.xpose then 0 else 1) n k

/-- First-level scale code and tile scale of scaled index i in chunk c; 1.0 where the operand carries no planes. -/
def State.qScale (s : State) (p : Option Plane) (i c : Nat) : Nat :=
  match p with | some p => s.word (p.qBase + i * p.chunks + c) 1 | none => 0x78
def State.tScale (s : State) (p : Option Plane) (t c : Nat) : Word32 :=
  match p with | some p => BitVec.ofNat 32 (s.word (p.tBase + 4 * (t * p.chunks + c)) 4) | none => 0x3F800000#32

/-- A scale of an index range lies in a channel that is RETRAINING (R226). -/
def State.scalesWait (s : State) (p : Option Plane) (i n c : Nat) : Bool :=
  match p with
  | some p => (List.range n).any (fun j => s.chanWaits (p.qBase + (i + j) * p.chunks + c) 1 ||
      s.chanWaits (p.tBase + 4 * ((i + j) / 128 * p.chunks + c)) 4)
  | none => false

/-- Whether the scales of an index range lie in poisoned sectors. -/
def State.scalesPoisoned (s : State) (p : Option Plane) (i n c : Nat) : Bool :=
  match p with
  | some p => (List.range n).any (fun j => s.poisonedAt (p.qBase + (i + j) * p.chunks + c) ||
      s.poisoned (p.tBase + 4 * ((i + j) / 128 * p.chunks + c)) 4)
  | none => false

/-! ### Cell modes (R74, R85, R87) -/

/-- Round a cell's exact value: FP32 once, or exact in INT32, which has one zero, in an INT8 pass (R55, R85). -/
def cellRound (h int8 : Bool) (v : Val) : Val := if int8 then (if v.isZero then .zero false else v) else val32 h (fp32 h v)

/-- One active row's step; none before the first active row. -/
def cell (h int8 : Bool) (mode : Nat) (acc : Option Val) (a b : Val) : Val :=
  let add (v : Val) : Val :=
    match acc with | none => cellRound h int8 v | some x => cellRound h int8 (x.add v)
  match mode with
  | 0 => (match acc with | none => cellRound h int8 (a.mul b) | some x => cellRound h int8 (Val.fma a b x))
  | 1 => add (a.sub b).abs
  | 2 => add ((a.sub b).mul (a.sub b))
  | 3 => (match acc with | none => cellRound h int8 (a.add b) | some x => valMax x (cellRound h int8 (a.add b)))
  | 4 => (match acc with | none => cellRound h int8 (a.add b) | some x => valMin x (cellRound h int8 (a.add b)))
  | _ => add (if b.lt a then .fin false 1 1 else .fin false 0 1)

/-- A column's sum over its active rows, in ascending logical order (R74). -/
def columnSum (h int8 : Bool) (mode : Nat) (ab : List (Val × Val)) : Val :=
  match ab.foldl (fun acc p => some (cell h int8 mode acc p.1 p.2)) none with
  | some v => v
  | none => .zero false

/-- The mode's combination of an old value with a new one: add, max or min (R85, R106). -/
def modeFold (h : Bool) (mode : Nat) (old new : Word32) : Word32 :=
  if mode = 3 then fp32 h (valMax (val32 h old) (val32 h new))
  else if mode = 4 then fp32 h (valMin (val32 h old) (val32 h new))
  else add32 h old new

/-! ### Failure of a MATMUL and of an array -/

/-- Remove every trace of a MATMUL from the arrays and engines. -/
def State.dropMatmul (s : State) (slot admitNo : Nat) : State :=
  let t := (List.range 4).foldl (fun t a =>
    let x := t.arr a
    let mine (i : PassId) : Bool := i.slot == slot && i.admitNo == admitNo
    let y := { x with
      runs := x.runs.filter (fun r => !(r.slot == slot && r.admitNo == admitNo)),
      cur := if x.cur = some admitNo then none else x.cur,
      flight := x.flight.filter (fun f => !mine f.id), segs := x.segs.filter (fun g => !mine g.id),
      staged := x.staged.filter (fun g => !mine g.id), own := x.own.filter (fun g => !mine g.id),
      pf := x.pf.filter (fun g => !mine g.id), due := x.due.filter (fun i => !mine i),
      loading := match x.loading with | some l => if mine l.1 then none else some l | none => none,
      finals := x.finals.filter (fun i => !mine i), outBuf := x.outBuf.filter (fun o => !mine o.id),
      redo := x.redo.filter (fun i => !mine i), attempts := x.attempts.filter (fun i => !mine i.id) }
    let y := y.freeSlices ((y.held.filter (fun e => e.2.admitNo == admitNo)).map Prod.fst)
    let t := (t.setArr a y).arrUpdate a
    match t.claim a with
    | some c => if c.admitNo = admitNo then t.setClaim a none else t
    | none => t) s
  (t.dropTasksIf (fun _ k => k.slot == slot && k.admitNo == admitNo)).setMm slot none

/-- A MATMUL fails: its work on the arrays ends, and the operation finishes with the code.  After HW_FAULT the output of an
accumulating one is undefined (R169). -/
def State.failMatmul (s : State) (slot code : Nat) : State :=
  match s.op slot with
  | some o =>
    let t := if code == Res.hwFault && (match s.mm slot with | some m => m.accumulate | none => false) then
      o.outs.foldl (fun t r => t.storeFree r.1 r.2) s else s
    (t.dropMatmul slot o.admitNo).finish slot code
  | none => s

/-- Deal units again over the arrays still in service, in ascending order from the lowest (R88). -/
def State.redeal (s : State) (slot admitNo : Nat) (arrays units : List Nat) : State :=
  (units.zipIdx).foldl (fun t e =>
    let a := arrays.getD (e.2 % arrays.length) 0
    let x := t.arr a
    let y := if x.runs.any (fun r => r.slot == slot && r.admitNo == admitNo) then
        { x with runs := x.runs.map (fun r => if r.slot == slot && r.admitNo == admitNo then { r with units := r.units ++ [e.1] } else r) }
      else { x with runs := x.runs ++ [⟨slot, admitNo, [e.1], 0⟩] }
    t.setArr a y) s

/-- Units of a MATMUL that an array was dealt and that it has not retired: to run, in flight, to run again, or final and not all
written. -/
def ArrState.unitsOf (x : ArrState) (slot admitNo : Nat) : List Nat :=
  let ids := x.finals ++ x.flight.map Flight.id ++ x.redo ++ x.outBuf.map OutTile.id
  ((x.runs.filter (fun r => r.slot == slot && r.admitNo == admitNo)).flatMap ArrRun.units ++
    (ids.filter (fun i => i.slot == slot && i.admitNo == admitNo)).map PassId.unit).dedup

/-- An array leaves service (R93, R88, R155): FAILED, event and notice, its units dealt again, its claim void. -/
def State.arrayFail (s : State) (a cause : Nat) : State :=
  if s.f (Fld.aryStatus_state a) = 4 then s
  else
    let x := s.arr a
    let p := s.partOfCs a
    let t := ((s.put (Fld.aryStatus_state a) 4).put (Fld.aryStatus_in_service a) 0).put (Fld.aryFault_array_failed a) 1
    let t := (t.setArr a { arrD a with busyEnd := x.busyEnd }).setClaim a none
    let t := t.inventoryUpdate
    let t := t.event 0x0204 (some p) (csCantle a) a
      (toLE 1 a ++ toLE 2 (t.f (Fld.aryFault_last_row a)) ++ toLE 2 (t.f (Fld.aryFault_last_col a)) ++
       toLE 1 (t.f (Fld.aryFault_col_valid a)) ++ toLE 1 cause)
    let t := t.dropTasksIf (fun e k => e / 16 == a && k.kind == 1)
    let owners := (x.runs.map (fun r => (r.slot, r.admitNo)) ++
      (x.finals ++ x.flight.map Flight.id ++ x.redo ++ x.outBuf.map OutTile.id).map (fun i => (i.slot, i.admitNo))).dedup
    let t := owners.foldl (fun t w =>
      match t.mm w.1 with
      | none => t
      | some m =>
        let left := m.eligible.filter (fun b => t.arrayInService b)
        let units := ((x.unitsOf w.1 w.2).filter (fun u => !m.unitWritten u)).mergeSort (· ≤ ·)
        if m.admitNo ≠ w.2 ∨ units.isEmpty then t
        else if left.isEmpty then t.failMatmul w.1 Res.hwFault
        else t.redeal w.1 w.2 left units) t
    (List.range 4).foldl (fun t b => if b = a then t else t.arrUpdate b) (t.arrUpdate a)

end Sys2Proof.Machine
end

