-- ==== Sys2Proof/Machine/Arrays.lean ====
section
/-!
DEFINITION. The commands of the matrix arrays (chapters 4 to 8): a MATMUL's issue, stirrup writes, tile loads, pass start
and retirement with the fold, epilogues, the skiver and the stream that empties its buffers, the accumulate add, faults,
repairs, pre-emption, prefetch, the awl.
-/
namespace Sys2Proof.Machine

/-! ### Issue of a MATMUL -/

/-- Columns of 128 of a MATMUL that the awl's tile numbering counts (R187): as taken, or as the ring holds its output
descriptor; otherwise its last tile's are free (assumption 12). -/
def State.awlColsOf (s : State) (r : AwlRow) : Nat :=
  let known := (s.inFlight.find? (fun e => e.2.admitNo == r.admitNo)).bind (fun e =>
    (s.entryIndex (e.2.b 0x28 4) e.2).map (fun i => ceilDiv ((Desc.parse (s.ringEntry (s.ctx (e.2.b 0x28 4)) i)).counts.headD 1) 128))
  match r.cols, known with
  | some c, _ => c
  | none, some c => c
  | none, none => 4 * (r.nTiles - 1) + 1 + Config.awlCols r.admitNo % 4

/-- Number of tiles of the MATMULs stamped as this one and admitted before it (R187). -/
def State.awlBase (s : State) (p stamp admitNo : Nat) : Nat :=
  (s.health.awl.filter (fun r => r.part == p && r.stamp == stamp && decide (r.admitNo < admitNo))).foldl (fun n r =>
    n + ceilDiv r.m 128 * s.awlColsOf r) 0

/-- Local tiles sampled by the awl (R187). -/
def State.awlSample (s : State) (p stamp admitNo m n mode : Nat) (h : Bool) : List Nat :=
  let pol := s.numpol p
  if bits pol 3 1 = 0 ∨ mode ≠ 0 ∨ h then []
  else
    let per := 2 ^ bits pol 8 5
    let ph := bits (philox (s.seed p) (s.rngStep p stamp) 0xFFFF0001 0) 0 16 % per
    let base := s.awlBase p stamp admitNo
    (List.range (ceilDiv m 128 * ceilDiv n 128)).filter (fun l => (base + l + ph) % per == 0)

/-- An operand of a comparison mode names scale planes (R86). -/
def compPlanes (o : Op) (x w : DescP) : Bool := o.b 0x34 1 % 8 != 0 && (x.2.isSome || w.2.isSome)

/-- The faults of R139 and R140 on a MATMUL's three descriptors: code, context. -/
def State.mmCheck (s : State) (o : Op) (x w od : DescP) : Option (Nat × Nat) :=
  let p := s.opPart o
  let h := s.heritage p
  let mode := o.b 0x34 1 % 8
  let wF := o.b 0x35 1 % 16
  let xF := o.b 0x35 1 / 16
  let oF := o.b 0x36 1 % 16
  let m := o.b 0x2C 4
  let kc := o.b 0x30 2
  let nt := o.b 0x32 2
  let kx := x.1.counts.getD 0 0
  let n := od.1.counts.getD 0 0
  let wn := w.1.counts.getD (if w.1.xpose then 1 else 0) 0
  let wk := w.1.counts.getD (if w.1.xpose then 0 else 1) 0
  let scaled := mode == 0 && xF != 1
  let planeOk (pl : Option Plane) (need : Bool) (c : Nat) : Bool :=
    match pl with | some q => need && q.chunks == c | none => !need
  let rBase := rateOf mode xF false
  let fmtOk (d : Desc) (f : Nat) : Bool := d.fmtCode == f || (d.fmtCode == 5 && f == 2)
  if !(x.1.dims == 2 && decide (1024 * (kc - 1) < kx) && decide (kx ≤ 1024 * kc) && x.1.counts.getD 1 0 == m && x.1.skew == 1 &&
      2 ^ x.1.rCode == rBase && x.1.x8 == h && !x.1.xpose && fmtOk x.1 xF && planeOk x.2 scaled kc) then some (Res.badField, 0x24)
  else if !(w.1.dims == 2 && wk == kx && wn == n && w.1.skew == 0 && fmtOk w.1 wF && (w.1.fmtCode != 5 || w.1.xpose) &&
      planeOk w.2 scaled kc && !(w.1.pf && decide (pfLimit xF < w.1.pfTiles))) then some (Res.badField, 0x20)
  else if !(od.1.dims == 2 && decide (512 * (nt - 1) < n) && decide (n ≤ 512 * nt) && od.1.counts.getD 1 0 == m && od.1.skew == 0 &&
      !od.1.xpose && od.1.fmtCode == oF && planeOk od.2 (oF == 2 || oF == 3 || oF == 4) (ceilDiv n 1024)) then some (Res.badField, 0x28)
  else
    let pf (pl : Option Plane) (dest : Bool) (i : Nat) : Option Nat :=
      match pl with | some q => s.planeAddrFault p dest q i | none => none
    match pf x.2 false m, pf w.2 false n, pf od.2 (o.b 0x37 1 / 2 % 2 == 0) m with
    | some c, _, _ => some (c, 0x24)
    | _, some c, _ => some (c, 0x20)
    | _, _, some c => some (c, 0x28)
    | _, _, _ => none

/-- The supplied tile scales of a fixed-scale output (R70): none zero, negative, infinite or NaN; heritage mode reads a subnormal
one as zero. -/
def State.fixedOk (s : State) (h : Bool) (pl : Plane) (m groups : Nat) : Bool :=
  (List.range (ceilDiv m 128)).all (fun t => (List.range groups).all (fun c =>
    match val32 h (BitVec.ofNat 32 (s.word (pl.tBase + 4 * (t * pl.chunks + c)) 4)) with
    | .fin sgn n _ => !sgn && n != 0
    | _ => false))

/-- A poisoned sector under the supplied tile scales (R212). -/
def State.fixedPoison (s : State) (pl : Plane) (m : Nat) : Bool := s.poisoned pl.tBase (4 * ceilDiv m 128 * pl.chunks)

/-- The work of a MATMUL whose three descriptors are taken (R88, R106). -/
def State.mmRunOf (s : State) (o : Op) (x w od : DescP) : MmRun :=
  let p := s.opPart o
  let h := s.heritage p
  let m := o.b 0x2C 4
  let n := od.1.counts.getD 0 0
  let mode := o.b 0x34 1 % 8
  let opts := o.b 0x37 1
  let prog := KProg.ofBytes o.block
  { admitNo := o.admitNo, m := m, kLen := x.1.counts.getD 0 0, n := n, chunksK := o.b 0x30 2, tilesN := o.b 0x32 2,
    mode := mode, wFmt := o.b 0x35 1 % 16, xFmt := o.b 0x35 1 / 16, outFmt := o.b 0x36 1 % 16,
    stoch := o.b 0x36 1 / 16 % 2 == 1, accumulate := opts % 2 == 1, fixed := opts / 2 % 2 == 1, heritage := h,
    xd := x.1, xp := x.2, wd := w.1, wp := w.2, od := od.1, outp := od.2, outCtx := o.b 0x28 4,
    rngBase := s.rngBase (o.b 0x28 4) o.stamp,
    epi := if o.b 0x38 8 = 0 then [] else (List.range prog.count).map (fun i => fieldLE o.block (64 + 8 * i) 8),
    epiConsts := if o.b 0x38 8 = 0 then [] else prog.consts, eligible := s.eligible p (opts / 4 % 16), written := [],
    units := ceilDiv m (4096 / rateOf mode (o.b 0x35 1 / 16) h) * ceilDiv (o.b 0x32 2) 2,
    awlTiles := s.awlSample p o.stamp o.admitNo m n mode h, awlSums := [], awlParts := [] }

/-- The state in which a MATMUL has issued and taken its descriptors. -/
def State.mmTaken (s : State) (slot : Nat) (o : Op) (kw kx ko : Take) : State :=
  (((s.issue slot).consume slot (o.b 0x20 4) kw.head kw.got true).consume slot (o.b 0x24 4) kx.head kx.got true).consume
    slot (o.b 0x28 4) ko.head ko.got true

/-- Units of a MATMUL that fall to the array at place z of its eligible ones (R88). -/
def MmRun.share (m : MmRun) (z : Nat) : List Nat := (List.range m.units).filter (fun u => u % m.eligible.length == z)

/-- Deal a MATMUL's units in turn over its arrays (R88). -/
def State.mmDeal (s : State) (slot : Nat) (m : MmRun) : State :=
  (m.eligible.zipIdx).foldl (fun t z =>
    if (m.share z.2).isEmpty then t
    else (t.setArr z.1 { t.arr z.1 with runs := (t.arr z.1).runs ++ [⟨slot, m.admitNo, m.share z.2, 0⟩] }).arrUpdate z.1) s

/-- The passes of a MATMUL on an array, in order (R88, R106). -/
def MmRun.passesOn (m : MmRun) (a slot : Nat) : List PassId :=
  let mine := (List.range (ceilDiv m.m m.mMax * m.groups)).filter (fun u => m.eligible.getD (u % m.eligible.length) 99 == a)
  mine.flatMap (fun u => (List.range (m.unitPasses u)).map (fun q => (⟨slot, m.admitNo, u, q⟩ : PassId)))

/-- The halves of an array swap (R154): the prefetched tiles are in the present half, and what was claimed and not filled yet
is filled there; the claim ends. -/
def State.swapHalves (s : State) (slot : Nat) (m : MmRun) (a : Nat) : State :=
  let y := s.arr a
  let n := match s.claim a with | some c => c.tiles | none => 0
  let due := ((m.passesOn a slot).take n).filter (fun i => y.pf.all (fun g => g.id != i))
  let t := (s.setArr a { y with own := y.pf, pf := [], due := due }).setClaim a none
  (List.range 16).foldl (fun t i => t.put (Fld.teStatus_dh_present (16 * a + i))
    (1 - t.f (Fld.teStatus_dh_present (16 * a + i)))) t

/-- Place a MATMUL on its arrays: its planes are outputs, its tiles enter the awl's count, prefetched weights swap in
(R154), and its units are dealt. -/
def State.mmPlace (s : State) (slot : Nat) (m : MmRun) (claimed : List Nat) : State :=
  let t := s.setMm slot (some m)
  let t := match m.outp with
    | some pl => if m.fixed then t else t.noteOut slot [(pl.qBase, m.m * pl.chunks), (pl.tBase, 4 * ceilDiv m.m 128 * pl.chunks)]
    | none => t
  let t := t.setHealth { t.health with awl := t.health.awl.map (fun y =>
    if y.admitNo == m.admitNo then { y with cols := some (ceilDiv m.n 128) } else y) }
  (claimed.foldl (fun t a => t.swapHalves slot m a) t).mmDeal slot m

/-- The end of a MATMUL's issue, its descriptors taken and fit: no array in service fails it, unfit supplied scales fail it, and
otherwise it is placed on its arrays (R70, R88). -/
def State.mmBegin (t : State) (slot : Nat) (o : Op) (run : MmRun) (claimed : List Nat) : State :=
  if run.eligible.isEmpty then t.finish slot Res.hwFault
  else
    match (if run.fixed then run.outp else none) with
    | some pl =>
      if t.fixedPoison pl run.m then t.finish slot Res.hwFault
      else if t.fixedOk run.heritage pl run.m (ceilDiv run.n 1024) then t.mmPlace slot run claimed
      else t.descFault slot (o.b 0x28 4) Res.badField false false
    | none => t.mmPlace slot run claimed

/-- MATMUL (R86, R88, R139, R140, R154, R167, R168): take the three descriptors, check them, and deal the units.  One whose
output region must wait goes back to WAITING. -/
def opMatmul (slot : Nat) (s : State) : State :=
  match s.issuable slot 1 with
  | none => s
  | some o =>
    let p := s.opPart o
    let one : Desc → Nat := fun _ => 1
    let sx := o.b 0x24 4
    let sw := o.b 0x20 4
    let so := o.b 0x28 4
    let kw := s.take sw p false true true one 1
    let kx := s.take sx p false false true one 1
    let ko := s.take so p true false true one 1
    match kw, kx, ko with
    | .fail c a b _ _, _, _ => (s.issue slot).descFault slot sw c a b
    | _, .fail c a b _ _, _ => (s.issue slot).descFault slot sx c a b
    | _, _, .fail c a b _ _ => (s.issue slot).descFault slot so c a b
    | .ok [w] _, .ok [x] _, .ok [od] _ =>
      if compPlanes o x w then (s.issue slot).finish slot Res.badField
      else
        match s.mmCheck o x w od with
        | some (c, off) => (s.mmTaken slot o kw kx ko).descFault slot (o.b off 4) c false false
        | none =>
          let run := s.mmRunOf o x w od
          if s.regionBlocked o od.1.region run.accumulate then s.setStatus slot 1 0 false
          else if (s.mmClaimed o).any s.arrBusy then s
          else ((s.mmTaken slot o kw kx ko).advanceRng so (run.m * run.n)).mmBegin slot o run (s.mmClaimed o)
    | _, _, _ => s

/-! ### The next pass of an array -/

/-- Priority and queue of a run's operation (R38). -/
def State.runPrio (s : State) (r : ArrRun) : Nat := match s.op r.slot with | some o => s.f (Fld.wqCfg_queue_prio o.wq) | none => 0
def State.runWq (s : State) (r : ArrRun) : Nat := match s.op r.slot with | some o => o.wq | none => 0

/-- Run r is granted an array before run y: by queue_prio, then by turns of the queues, then the earliest admitted (R38). -/
def State.runBefore (s : State) (turn : Nat) (r y : ArrRun) : Bool :=
  let d (z : ArrRun) : Nat := (63 + 64 + s.runWq z - turn) % 64
  decide (s.runPrio y < s.runPrio r) || (s.runPrio y == s.runPrio r && (decide (d r < d y) ||
    (d r == d y && decide (r.admitNo < y.admitNo))))

/-- The run granted the array, else the best waiting one. -/
def State.pickRun (s : State) (a : Nat) : Option ArrRun :=
  let x := s.arr a
  let live := x.runs.filter (fun r => !r.units.isEmpty && s.opRunning r.slot r.admitNo)
  match live.find? (fun r => some r.admitNo == x.cur) with
  | some r => some r
  | none => live.foldl (fun b r => match b with | none => some r | some y => if s.runBefore x.turn r y then some r else some y) none

/-- A waiting run outranks the granted one (R95). -/
def State.outranked (s : State) (a : Nat) : Bool :=
  match s.pickRun a with
  | some y => (s.arr a).runs.any (fun r => !r.units.isEmpty && s.opRunning r.slot r.admitNo && decide (s.runPrio y < s.runPrio r))
  | none => false

/-- The pass that starts next: abandoned or discarded ones first, in order. -/
def State.nextPass (s : State) (a : Nat) : Option PassId :=
  match (s.arr a).redo with
  | i :: _ => some i
  | [] =>
    match s.pickRun a with
    | some r => some ⟨r.slot, r.admitNo, r.units.headD 0, r.pass⟩
    | none => none

/-- The array may work: in service, not stopped, and no snapshot's stop in its partition (R302). -/
def State.arrayLive (s : State) (a : Nat) : Bool :=
  s.arrayInService a && s.f (Fld.aryStatus_state a) != 4 && s.f (Fld.aryStatus_state a) != 5 && s.serving &&
    (s.stopOf (s.partOfCs a)).isNone

/-! ### Stirrups and staging -/

/-- The segment of a pass with its scales placed, and nothing written (R105, R142). -/
def State.newSeg (s : State) (m : MmRun) (i : PassId) : Seg :=
  let c := m.passChunk i
  let r0 := m.unitRow i.unit
  let rows := m.unitRows i.unit
  let n0 := 512 * m.passTile i
  let cols := m.tileLen (m.passTile i)
  { id := i, bytes := [], elems := [],
    qx := (List.range rows).map (fun j => s.qScale m.xp (r0 + j) c),
    tx := (List.range (ceilDiv rows 128)).map (fun j => s.tScale m.xp (r0 / 128 + j) c),
    qw := (List.range cols).map (fun j => s.qScale m.wp (n0 + j) c),
    tw := (List.range (ceilDiv cols 128)).map (fun j => s.tScale m.wp (n0 / 128 + j) c) }

/-- The scales of a pass meet a poisoned sector; a channel of theirs retrains. -/
def State.segPoisoned (s : State) (m : MmRun) (i : PassId) : Bool :=
  s.scalesPoisoned m.xp (m.unitRow i.unit) (m.unitRows i.unit) (m.passChunk i) ||
    s.scalesPoisoned m.wp (512 * m.passTile i) (m.tileLen (m.passTile i)) (m.passChunk i)
def State.segWaits (s : State) (m : MmRun) (i : PassId) : Bool :=
  s.scalesWait m.xp (m.unitRow i.unit) (m.unitRows i.unit) (m.passChunk i) ||
    s.scalesWait m.wp (512 * m.passTile i) (m.tileLen (m.passTile i)) (m.passChunk i)

/-- Bytes of the scale entries that a pass takes: the streaming operand's and the stationary one's. -/
def MmRun.scaleBytes (m : MmRun) (i : PassId) : Nat × Nat :=
  let n (p : Option Plane) (k : Nat) : Nat := if p.isSome then k + 4 * ceilDiv k 128 else 0
  (n m.xp (m.unitRows i.unit), n m.wp (m.tileLen (m.passTile i)))

/-- Write one element into its row's segment at slot r·m + k (R75, R141). -/
def Seg.write (g : Seg) (r unit m k v : Nat) : Seg :=
  let j := r * m + k
  { g with
    bytes := (List.range unit).foldl (fun b i => Sparse.put (fun _ => 0#8) b (k * 4096 + (j + i) % 4096) (BitVec.ofNat 8 (v / 256 ^ i))) g.bytes
    elems := if g.elems.contains (m * 1024 + k) then g.elems else (m * 1024 + k) :: g.elems }

/-- The elements (m, k) of one cycle's run that lie in the pass and are not in the segment yet (R142). -/
def MmRun.stirrupRun (m : MmRun) (i : PassId) (g : Seg) (alongM : Bool) (m0 k0 : Nat) : List (Nat × Nat) :=
  ((List.range 64).map (fun j => if alongM then (m0 + j, k0) else (m0, k0 + j))).filter
    (fun e => decide (e.1 < m.unitRows i.unit) && decide (e.2 < m.chunkLen (m.passChunk i)) && !g.elems.contains (e.1 * 1024 + e.2))

/-- Row and reduction index in the operand of a segment's element. -/
def MmRun.xPlace (m : MmRun) (i : PassId) (e : Nat × Nat) : Nat × Nat := (m.unitRow i.unit + e.1, 1024 * m.passChunk i + e.2)

/-- Those elements with what their fetch gives. -/
def State.stirrupVals (s : State) (m : MmRun) (i : PassId) (els : List (Nat × Nat)) : List ((Nat × Nat) × Elem) :=
  els.map (fun e => (e, s.xElem m (m.xPlace i e).1 (m.xPlace i e).2))

/-- The segment with a run's elements written. -/
def Seg.writeRun (g : Seg) (m : MmRun) (vs : List ((Nat × Nat) × Elem)) : Seg :=
  vs.foldl (fun g v => match v.2 with | .val b => g.write m.r (if m.xFmt = 1 then 2 else 1) v.1.1 v.1.2 b | _ => g) g

/-- The segment of the next pass, or a new one where a segment, the pass's slices (R108) and its scales can be had. -/
def State.segFor (s : State) (a : Nat) (m : MmRun) (i : PassId) : Option (Seg × ArrState) :=
  let x := s.arr a
  match x.segs.find? (fun g => g.id == i) with
  | some g => some (g, x)
  | none =>
    if 3 ≤ x.segs.length ∨ x.spareSlices.length < (x.blocksWanted m i).length ∨ s.segWaits m i then none
    else some (s.newSeg m i, x.openSlices m i)

/-- STIRRUP_WRITE (R141, R142): one cycle's run for the next pass of an array: 64 consecutive k at one m, or 64
consecutive m at one k.  The segment waits for accumulator slices (R108). -/
def stirrupWrite (a : Nat) (alongM : Bool) (m0 k0 : Nat) (s : State) : State :=
  match s.nextPass a with
  | none => s
  | some i =>
    match s.mm i.slot, s.op i.slot with
    | some m, some o =>
      if s.arrayLive a = false then s
      else
        match s.segFor a m i with
        | none => s
        | some (g, x) =>
          let els := m.stirrupRun i g alongM m0 k0
          let fresh := (s.arr a).segs.all (fun y => y.id != i)
          if fresh ∧ s.segPoisoned m i then s.failMatmul i.slot Res.hwFault
          else if g.qx.contains 0xFF || g.qw.contains 0xFF then s.failMatmul i.slot Res.badField
          else if els.any (fun e => let r := m.xd.elemRun 0 (m.xPlace i e).1 (m.xPlace i e).2; s.chanWaits r.1 r.2) then s
          else
            let vs := s.stirrupVals m i els
            if vs.any (fun v => v.2 == .poison) then s.failMatmul i.slot Res.hwFault
            else if vs.any (fun v => v.2 == .bad) then s.failMatmul i.slot Res.badField
            else
              let sb := if fresh then m.scaleBytes i else (0, 0)
              (((s.setArr a { x with segs := x.segs.filter (fun y => y.id != i) ++ [g.writeRun m vs] }).countBytes (o.b 0x24 4) 0
                (m.xd.sizeOf els.length + sb.1)).countBytes (o.b 0x20 4) 0 sb.2).arrUpdate a
    | _, _ => s

/-- Operand indices (n, k) of the tile of a pass: valid rows and columns (R76). -/
def MmRun.tilePlaces (m : MmRun) (i : PassId) : List (Nat × Nat × Nat) :=
  let c := m.passChunk i
  let t := m.passTile i
  (List.range (m.chunkLen c)).flatMap (fun k => (List.range (m.tileLen t)).map (fun n => (512 * k + n, 512 * t + n, 1024 * c + k)))

/-- The stationary tile of a pass, with what was met in reading it. -/
def State.fetchTile (s : State) (m : MmRun) (i : PassId) : List (Nat × Elem) :=
  (m.tilePlaces i).map (fun e => (e.1, s.wElem m e.2.1 e.2.2))

/-- The stride index of the stationary operand's reduction. -/
def MmRun.wDim (m : MmRun) : Nat := if m.wd.xpose then 0 else 1

/-- An element of the tile lies in a channel that is RETRAINING (R226). -/
def State.tileWaits (s : State) (m : MmRun) (i : PassId) : Bool :=
  (m.tilePlaces i).any (fun e => let r := m.wd.elemRun m.wDim e.2.1 e.2.2; s.chanWaits r.1 r.2)

def tileBits (l : List (Nat × Elem)) : List (Nat × Nat) := l.map (fun e => (e.1, match e.2 with | .val b => b | _ => 0))

/-- The registers that a tile's broadcast writes: 16 bits each, zero beyond the valid rows and columns (R72, R76, R140). -/
def Staged.cellBits (g : Staged) : List (Nat × BitVec 16) := g.cells.map (fun c => (c.1, BitVec.ofNat 16 c.2))

/-- A tile load begins: the shadow registers take the tile row by row (R76, R78). -/
def ArrState.load (x : ArrState) (i : PassId) (cyc : Nat) (g : Staged) : ArrState :=
  { x with loading := some (i, cyc), nextLoad := cyc + 1024, shadow := g.cellBits }

/-- TILE_LOAD_START (R76, R78): the next pass's tile goes from staging, from the prefetched weights, or from HBM, into the
shadow registers, from ARRCLK cycle cyc.  A claimed tile still to be filled is waited for (R154). -/
def tileLoadStart (a cyc : Nat) (s : State) : State :=
  match s.nextPass a with
  | none => s
  | some i =>
    match s.mm i.slot, s.op i.slot with
    | some m, some o =>
      let x := s.arr a
      if s.arrayLive a = false ∨ x.loading.isSome ∨ cyc < x.nextLoad ∨ x.repair.isEmpty = false then s
      else
        match x.staged.find? (fun g => g.id == i) with
        | some g => (s.setArr a (x.load i cyc g)).arrUpdate a
        | none =>
          if 3 ≤ x.staged.length ∨ x.due.contains i then s
          else
            match x.own.find? (fun g => g.id == i) with
            | some g => (s.setArr a { x.load i cyc g with staged := x.staged ++ [g], own := x.own.filter (fun z => z.id != i) }).arrUpdate a
            | none =>
              let els := s.fetchTile m i
              if s.tileWaits m i then s
              else if els.any (fun e => e.2 == .poison) then s.failMatmul i.slot Res.hwFault
              else if els.any (fun e => e.2 == .bad) then s.failMatmul i.slot Res.badField
              else
                let g : Staged := ⟨i, tileBits els⟩
                ((s.setArr a { x.load i cyc g with staged := x.staged ++ [g] }).countBytes (o.b 0x20 4) 0 (m.wd.sizeOf els.length)).arrUpdate a
    | _, _ => s

/-! ### Passes -/

/-- A spare switch-in holds the array: throughout for a failed engine, else from cut-over (R127). -/
def State.spareHolds (s : State) (a : Nat) : Bool :=
  let st := s.f (Fld.teSpareStatus_state a)
  st == 3 || ((st == 1 || st == 2) && (match Sparse.get (fun _ => none) s.comp.spares a with | some p => p.trigger == 0 | none => false))

/-- The segment of a pass holds every element of it (R142). -/
def ArrState.segWhole (x : ArrState) (m : MmRun) (i : PassId) : Bool :=
  match x.segs.find? (fun g => g.id == i) with
  | some g => g.elems.length == m.unitRows i.unit * m.chunkLen (m.passChunk i)
  | none => false

/-- What may start in ARRCLK cycle cyc: the pass whose tile load has begun, with its segment whole, at or after the boundary. -/
def State.passReady (s : State) (a cyc : Nat) (i : PassId) (m : MmRun) : Bool :=
  let x := s.arr a
  (match x.loading with | some l => l.1 == i && decide (l.2 < cyc) | none => false) && decide (x.nextStart ≤ cyc) && x.segWhole m i &&
    decide (x.flight.length < 3) && s.arrayLive a && !s.flag (Fld.aryCtrl_hold a) && x.repair.isEmpty && !s.spareHolds a &&
    !(x.redo.isEmpty && s.outranked a) && s.opRunning i.slot i.admitNo

/-- The array with a pass started: shadow values become active, and mode, formats and rate travel with them (R77, R81). -/
def ArrState.started (x : ArrState) (i : PassId) (m : MmRun) (cyc wq : Nat) : ArrState :=
  let rows := m.unitRows i.unit
  let runs := if x.redo.isEmpty then x.runs.map (fun r =>
      if r.slot == i.slot && r.admitNo == i.admitNo then
        (if r.pass + 1 = m.unitPasses i.unit then { r with units := r.units.drop 1, pass := 0 } else { r with pass := r.pass + 1 })
      else r) else x.runs
  { x with runs := runs, cur := some i.admitNo, turn := wq, redo := x.redo.drop 1, loading := none, inject := none, active := x.shadow,
           flight := x.flight ++ [⟨i, cyc, rows, x.inject, x.shadow⟩],
           nextStart := cyc + max (m.r * rows) 1024, nextLoad := max x.nextLoad (cyc + 520) }

/-- PASS_START (R77, R78, R81): in ARRCLK cycle cyc, once the tile load has begun and the segment is whole.  starved: the start
is late for lack of stirrup or staging data; slices: the wait was for accumulator slices. -/
def passStart (a cyc : Nat) (starved slices : Bool) (s : State) : State :=
  match s.nextPass a with
  | none => s
  | some i =>
    match s.mm i.slot, s.op i.slot with
    | some m, some o =>
      let x := s.arr a
      if s.passReady a cyc i m = false then s
      else
        let late := if x.nextStart = 0 then 0 else cyc - x.nextStart
        let t := s.setArr a (x.started i m cyc o.wq)
        let t := if starved || slices then t.bump (Fld.aryWait_wait a) late else t
        let t := if slices then (List.range 16).foldl (fun t e => t.bump (Fld.teAccWait_acc_wait (16 * a + e)) late) t else t
        t.arrUpdate a
    | _, _ => s

/-- The value of streaming element (m, k) as the array reads it from the segment. -/
def Seg.elem (g : Seg) (r unit m k : Nat) : Nat :=
  let j := r * m + k
  ofLE ((List.range unit).map (fun i => Sparse.get (fun _ => 0#8) g.bytes (k * 4096 + (j + i) % 4096)))

/-- A format by code, FP32 where none. -/
def fmtD (c : Nat) : Fmt := (Fmt.ofCode c).getD .fp32

/-- A result of a pass for row m and column n of its tile: the column's sum over the active registers. -/
def passResult (m : MmRun) (g : Seg) (cells : List (Nat × BitVec 16)) (kl row n : Nat) : Val × Bool :=
  let fx := fmtD m.xFmt
  let fw := fmtD m.wFmt
  let ab := (List.range kl).map (fun k =>
    ((fx.decode (g.elem m.r fx.bytes row k)).flush m.heritage fx,
     (fw.decode (Sparse.get (fun _ => 0#16) cells (512 * k + n)).toNat).flush m.heritage fw))
  (columnSum m.heritage (m.xFmt == 4) m.mode ab, ab.any (fun p => !p.1.isFin || !p.2.isFin))

/-- The scaled value folded for row and column of a pass (R60, R105). -/
def passScaled (m : MmRun) (g : Seg) (row n : Nat) (p : Val) : Word32 :=
  if m.mode = 0 then
    scalePass m.heritage p (g.qx.getD row 0x78) (g.qw.getD n 0x78) (g.tx.getD (row / 128) 0x3F800000#32) (g.tw.getD (n / 128) 0x3F800000#32)
  else fp32 m.heritage p

/-- A fault that an injection put into the pass has not been taken yet. -/
def Flight.pending (f : Flight) : Bool := f.inject.isSome

/-- The results of a pass: row, column of its tile, the column's sum, and whether an operand was not finite. -/
def MmRun.passResults (m : MmRun) (f : Flight) (g : Seg) : List (Nat × Nat × (Val × Bool)) :=
  (List.range f.rows).flatMap (fun row => (List.range (m.tileLen (m.passTile f.id))).map (fun n =>
    (row, n, passResult m g f.cells (m.chunkLen (m.passChunk f.id)) row n)))

/-- A pass's new running sums by row and column of its tile: the first chunk sets them, later ones combine (R85, R105, R106). -/
def ArrState.foldVals (x : ArrState) (m : MmRun) (i : PassId) (g : Seg) (res : List (Nat × Nat × (Val × Bool))) : List (Nat × Nat × Word32) :=
  res.map (fun e =>
    let v := passScaled m g e.1 e.2.1 e.2.2.1
    let old := x.sum i.admitNo i.unit e.1 (512 * m.passTile i + e.2.1)
    (e.1, e.2.1, if m.passChunk i = 0 then v else if m.mode = 0 then add32 m.heritage old v else modeFold m.heritage m.mode old v))

/-- The copy that a pass writes takes its sums and becomes the committed copy (R107). -/
def ArrState.foldPass (x : ArrState) (m : MmRun) (i : PassId) (vals : List (Nat × Nat × Word32)) : ArrState :=
  let mine (y : AccSlice) : Bool := y.admitNo == i.admitNo && y.unit == i.unit && y.tile == m.passPlace i && y.copy == m.copyOf i
  let y := vals.foldl (fun (y : ArrState) e =>
    match x.held.find? (fun k => mine k.2 && k.2.block == e.1 / 128) with
    | some k => { y with store := Sparse.put (fun _ => none) y.store (sliceKey k.1 e.1 e.2.1) (some e.2.2) }
    | none => y) x
  { y with slices := y.slices.map (fun e => (e.1, e.2.map (fun k => if mine k then { k with chunk := some (m.passChunk i) } else k))) }

/-- Tiles of a unit that are converted: written, or in an output buffer. -/
def ArrState.converted (x : ArrState) (m : MmRun) (u t : Nat) : Bool :=
  m.written.contains (64 * u + t) || x.outBuf.any (fun o => o.id.admitNo == m.admitNo && o.id.unit == u && o.tile == t)

/-- Once a tile's last chunk has retired only its final copy is kept, of the blocks not converted yet (R107). -/
def ArrState.keepFinal (x : ArrState) (m : MmRun) (i : PassId) : ArrState :=
  if m.passChunk i + 1 ≠ m.chunksK then x
  else x.freeSlices ((x.held.filter (fun e => e.2.admitNo == i.admitNo && e.2.unit == i.unit && e.2.tile == m.passPlace i &&
    (e.2.chunk != some (m.chunksK - 1) || x.converted m i.unit e.2.block))).map Prod.fst)

/-- A running sum reached infinity in the scaling or the fold, from a finite result and a finite sum (R54). -/
def ArrState.foldInf (x : ArrState) (m : MmRun) (i : PassId) (res : List (Nat × Nat × (Val × Bool))) (vals : List (Nat × Nat × Word32)) : Bool :=
  (res.zip vals).any (fun e => isInf32 e.2.2.2 && e.1.2.2.1.isFin &&
    !(m.passChunk i != 0 && isInf32 (x.sum i.admitNo i.unit e.1.1 (512 * m.passTile i + e.1.2.1))))

/-- The final sums of sampled tiles that the awl captures before any epilogue (R124). -/
def MmRun.awlCapture (m : MmRun) (i : PassId) (vals : List (Nat × Nat × Word32)) : List (Nat × Word32) :=
  if m.passChunk i + 1 = m.chunksK then vals.filterMap (fun e =>
    let gm := m.unitRow i.unit + e.1
    let gn := 512 * m.passTile i + e.2.1
    let l := gm / 128 * ceilDiv m.n 128 + gn / 128
    if m.awlTiles.contains l then some (l * 16384 + 128 * (gm % 128) + gn % 128, e.2.2) else none)
  else []

/-- The captured sums of a MATMUL: those of a tile captured again stand in place of the earlier ones. -/
def MmRun.captured (m : MmRun) (cap : List (Nat × Word32)) : MmRun :=
  { m with awlSums := m.awlSums.filter (fun e => cap.all (fun c => c.1 != e.1)) ++ cap }

/-- Columns of the sampled tile l. -/
def MmRun.awlColumns (m : MmRun) (l : Nat) : Nat := min 128 (m.n - 128 * (l % ceilDiv m.n 128))

/-- The four engines that own a captured tile's columns each take up a recompute task (R124); a tile that has its tasks gets no
others. -/
def State.awlTasks (s : State) (a : Nat) (i : PassId) (m : MmRun) (cap : List (Nat × Word32)) : State :=
  ((cap.map (fun e => e.1 / 16384)).dedup).foldl (fun t l =>
    let e0 := 128 * (l % ceilDiv m.n 128) % 512 / 32
    if t.hasTask (fun k => k.kind == 2 && k.slot == i.slot && k.admitNo == i.admitNo && k.unit == l) then t
    else ((List.range 4).filter (fun j => decide (32 * j < m.awlColumns l) &&
        m.awlParts.all (fun q => !(q.1 == l && q.2.1 == j)))).foldl (fun t j =>
      t.addTask (16 * a + e0 + j) ⟨2, i.slot, i.admitNo, l, [j], 0, 0, 0, [], [], [], 0, 0, 0, [], 0, none⟩) t) s

/-! ### Epilogues (R109) -/

/-- An engine's epilogue vectors in a unit: 16 rows of its 32 columns, per tile. -/
def MmRun.epiRows (m : MmRun) (u : Nat) : Nat := ceilDiv (m.unitRows u) 16

/-- Row within the unit and column of the product of lane l of engine e's epilogue vector v. -/
def MmRun.epiLane (m : MmRun) (u e v l : Nat) : Nat × Nat :=
  (v % m.epiRows u * 16 + l / 32, 512 * (m.unitTile u + v / m.epiRows u) + e % 16 * 32 + l % 32)

/-- The lanes of an epilogue vector, with whether each is in the product. -/
def MmRun.epiLanes (m : MmRun) (u e v : Nat) : List ((Nat × Nat) × Bool) :=
  (List.range 512).map (fun l =>
    let p := m.epiLane u e v l
    (p, decide (p.1 < m.unitRows u) && decide (p.2 < m.n)))

/-- The vectors of an engine's share of a unit's epilogue: those with a column in the product, of tiles not written yet. -/
def MmRun.epiVectors (m : MmRun) (u e : Nat) : List Nat :=
  (List.range (m.unitTiles u * m.epiRows u)).filter (fun v => decide ((m.epiLane u e v 0).2 < m.n) &&
    !m.written.contains (64 * u + v % m.epiRows u / 8))

/-- A unit that is final enters the list of those, and each engine takes up its epilogue (R109, R112). -/
def State.unitFinal (s : State) (a : Nat) (i : PassId) (m : MmRun) : State :=
  let x := s.arr a
  let t := s.setArr a { x with finals := x.finals ++ [i] }
  if m.epi.isEmpty then t
  else (List.range 16).foldl (fun t e =>
    if (m.epiVectors i.unit e).isEmpty then t
    else t.addTask (16 * a + e) ⟨1, i.slot, i.admitNo, i.unit, m.epiVectors i.unit e, 0, 0, 0, [], [], [], 0, 0, 0, [], 0, none⟩) t

/-! ### Retirement of a pass -/

/-- The array without the oldest pass in flight, its segment and its tile. -/
def ArrState.popFlight (x : ArrState) (f : Flight) (rest : List Flight) (endC : Nat) : ArrState :=
  { x with flight := rest, segs := x.segs.filter (fun g => g.id != f.id), staged := x.staged.filter (fun g => g.id != f.id),
           attempts := x.attempts.filter (fun y => y.id != f.id), busyEnd := max endC x.busyEnd }

/-- The effects of a retired pass beside its sums: the flags of R84, the ladder triggers, the awl's capture, and a unit's end. -/
def State.passEffects (t : State) (a : Nat) (x : ArrState) (m : MmRun) (i : PassId) (res : List (Nat × Nat × (Val × Bool)))
    (vals : List (Nat × Nat × Word32)) : State :=
  let inf := m.xFmt ≠ 4 ∧ res.any (fun e => match e.2.2.1 with | .inf _ => true | _ => false)
  let t := if res.any (fun e => e.2.2.2) then t.put (Fld.aryFlags_nonfinite_in a) 1 else t
  let t := if inf then (t.put (Fld.aryFlags_acc_inf a) 1).trigger i.slot else t
  let t := if x.foldInf m i res vals then t.trigger i.slot else t
  let cap := m.awlCapture i vals
  let t := if cap.isEmpty then t else (t.setMm i.slot (some (m.captured cap))).awlTasks a i m cap
  if i.pass + 1 = m.unitPasses i.unit then t.unitFinal a i m else t

/-- PASS_RETIRE (R83, R105): the oldest pass in flight retires in the cycle after its last result, and its fold becomes
permanent.  A pass of an operation that has settled is discarded (R34). -/
def passRetire (a : Nat) (s : State) : State :=
  let x := s.arr a
  match x.flight with
  | [] => s
  | f :: rest =>
    if f.pending ∨ s.serving = false then s
    else
      let i := f.id
      match s.mm i.slot with
      | none => (s.setArr a { x with flight := rest }).arrUpdate a
      | some m =>
        let endC := f.start + m.r * (f.rows - 1) + 1536 + s.f (Fld.aryStatus_repairs a) + 1
        let gone := x.popFlight f rest endC
        let t := (s.bump (Fld.aryPasses_passes a) 1).bump (Fld.aryBusy_busy a) (endC - max f.start x.busyEnd)
        match (if s.opRunning i.slot i.admitNo then x.segs.find? (fun g => g.id == i) else none) with
        | some g =>
          let res := m.passResults f g
          let vals := x.foldVals m i g res
          let y := ((gone.foldPass m i vals).keepFinal m i).shed
          (((t.setArr a y).addDetail i.slot 1).passEffects a x m i res vals).arrUpdate a
        | none => (t.setArr a gone.shed).arrUpdate a

/-- Whether the epilogue of 128-row tile t of a final unit has run in every engine. -/
def State.epiOk (s : State) (a : Nat) (m : MmRun) (u t : Nat) : Bool :=
  m.epi.isEmpty ||
  (List.range 16).all (fun e => ((s.eng (16 * a + e)).tasks ++ (s.eng (16 * a + e)).waiting).all (fun k =>
    !(k.kind == 1 && k.admitNo == m.admitNo && k.unit == u && k.rows.any (fun v => v % m.epiRows u / 8 == t))))

/-- What the epilogue program leaves of a vector whose v0 holds the sums (R109, R119).  R183 gives its stochastic CVT no stream;
the draws depend on the operation's context and position and on the element only (R25, assumption 23). -/
def State.epiVec (s : State) (x : ArrState) (m : MmRun) (i : PassId) (e v : Nat) : Vec :=
  let lanes := m.epiLanes i.unit e v
  let p := match s.op i.slot with | some o => s.opPart o | none => 0
  let stamp := match s.op i.slot with | some o => o.stamp | none => 0
  let env : KEnv :=
    { width := 0, heritage := m.heritage, col := lanes.map (fun p => p.1.2), row := lanes.map (fun p => m.unitRow i.unit + p.1.1),
      elem := lanes.map (fun p => (m.unitRow i.unit + p.1.1) * m.n + p.1.2), active := lanes.map Prod.snd, input := [], inBits := [],
      outFmt := [], params := [], consts := m.epiConsts, scalars := [],
      draw := fun _ el => drawElem (s.seed p) (s.rngStep p stamp) (Config.cvtStream m.outCtx) (Config.cvtBase m.outCtx m.rngBase) el }
  kRun env (m.epi.map KWord.parse)
    { vecEmpty with regs := [(0, lanes.map (fun p => if p.2 then x.sum i.admitNo i.unit p.1.1 p.1.2 else 0#32))] }

/-- The running sums with a vector's results in place. -/
def ArrState.epiStore (x : ArrState) (m : MmRun) (i : PassId) (e v : Nat) (vec : Vec) : ArrState :=
  ((m.epiLanes i.unit e v).zip (vec.reg 0)).foldl (fun (y : ArrState) p =>
    if p.1.2 then y.setSum i.admitNo i.unit p.1.1.1 p.1.1.2 p.2 else y) x

/-- Count what a vector's conversions saturated or found non-finite; a saturation raises the ladder trigger (R57, R192). -/
def State.vecFlags (s : State) (e slot : Nat) (vec : Vec) : State :=
  let t := (s.bumpSat (Fld.skvSat_saturated e) vec.sat).bumpSat (Fld.skvNonfin_nonfinite e) vec.nonfin
  let t := if vec.nonfin = 0 then t else t.put (Fld.skvFlags_nonfinite e) 1
  if vec.sat = 0 then t else (t.put (Fld.skvFlags_sat e) 1).trigger slot

/-- A vector's share of a task is done: the task goes on with the rest, or leaves the engine. -/
def State.taskDone (s : State) (e : Nat) (k : Task) (v : Nat) : State :=
  let k2 := { k with rows := k.rows.filter (· != v), attempts := 0 }
  if k2.rows.isEmpty then s.endTask e k else s.putTask e k2

/-- EPILOGUE_RUN (R109, R112): engine e, whose turn is an epilogue's, runs vector v of it. -/
def epilogueRun (e v : Nat) (s : State) : State :=
  let a := e / 16
  let x := s.arr a
  match s.currentTask e with
  | none => s
  | some k =>
    match s.mm k.slot, x.finals.find? (fun i => i.slot == k.slot && i.admitNo == k.admitNo && i.unit == k.unit) with
    | some m, some i =>
      if k.kind ≠ 1 ∨ k.rows.contains v = false ∨ s.serving = false ∨ (s.stopOf (s.partOfCs a)).isSome ∨ s.engRuns e k = false then s
      else
        let vec := s.epiVec x m i e v
        let t := (s.tookTurn e k).bump ⟨Reg.teIssue e, 0, 64⟩ (((m.epi.map KWord.parse).map (fun w => w.cycles 0 m.heritage)).foldl (· + ·) 0)
        ((t.setArr a (x.epiStore m i e v vec)).taskDone e k v).vecFlags e k.slot vec
    | _, _ => s

end Sys2Proof.Machine
end

