-- ==== Sys2Proof/Machine/Skiver.lean ====
section
/-!
DEFINITION. What becomes of final sums: the skiver (R61 to R63, R69, R70, R110), the output buffers and the streams that empty
them (R111, R148), and the accumulate add (R106, R165, R166).
-/
namespace Sys2Proof.Machine

/-! ### Tiles -/

/-- The operation's work has ended when every unit is written and every sampled tile checked (R190). -/
def State.matmulDone (s : State) (slot : Nat) : State :=
  match s.mm slot with
  | some m => if (List.range m.units).all m.unitWritten && m.awlTiles.isEmpty then s.finish slot Res.ok else s
  | none => s

/-- Output tile t of a unit is in memory; the unit ends with its last one. -/
def State.tileWritten (s : State) (a : Nat) (i : PassId) (m : MmRun) (t : Nat) : State :=
  let m2 := { m with written := if m.written.contains (64 * i.unit + t) then m.written else m.written ++ [64 * i.unit + t] }
  let x := s.arr a
  let y := if m2.unitWritten i.unit then { x with finals := x.finals.filter (fun j => !(j.admitNo == i.admitNo && j.unit == i.unit)) } else x
  (((s.setArr a y).setMm i.slot (some m2)).arrUpdate a).matmulDone i.slot

/-- Free the slices of a tile's 128 rows (R110).  While the unit's last pass is in flight, the copy that it reads stays (R107). -/
def ArrState.freeBlock (x : ArrState) (m : MmRun) (i : PassId) (t : Nat) : ArrState :=
  let early := x.flight.any (fun f => f.id == i)
  x.freeSlices ((x.held.filter (fun e => e.2.admitNo == i.admitNo && e.2.unit == i.unit && e.2.block == t &&
    (!early || e.2.tile != m.passPlace i || e.2.copy == m.copyOf i))).map Prod.fst)

/-- The oldest final unit's next tile, where its epilogue has run: units in order of finishing, tiles ascending (R110). -/
def State.finalTile (s : State) (a : Nat) (accumulate : Bool) : Option (PassId × MmRun × Nat) :=
  let x := s.arr a
  x.finals.findSome? (fun i =>
    match s.mm i.slot with
    | some m =>
      if m.accumulate != accumulate ∨ s.opRunning i.slot i.admitNo = false then none
      else
        match (List.range (m.unitOut i.unit)).find? (fun t => !x.converted m i.unit t) with
        | some t => if s.epiOk a m i.unit t then some (i, m, t) else none
        | none => none
    | none => none)

/-- A tile of a unit whose last pass is the oldest in flight: its rows are final before that pass retires (R110).  With it, the
sums as that pass leaves them. -/
def State.earlyTile (s : State) (a : Nat) : Option (PassId × MmRun × Nat × ArrState) :=
  let x := s.arr a
  match x.flight with
  | [] => none
  | f :: _ =>
    match s.mm f.id.slot, x.segs.find? (fun g => g.id == f.id) with
    | some m, some g =>
      if f.pending || f.id.pass + 1 != m.unitPasses f.id.unit || !m.epi.isEmpty || m.accumulate || !s.opRunning f.id.slot f.id.admitNo then none
      else
        match (List.range (m.unitOut f.id.unit - 1)).find? (fun t => !x.converted m f.id.unit t) with
        | some t => some (f.id, m, t, x.foldPass m f.id (x.foldVals m f.id g (m.passResults f g)))
        | none => none
    | _, _ => none

/-- The tile that converts next on an array, with the sums it converts. -/
def State.nextTile (s : State) (a : Nat) : Option (PassId × MmRun × Nat × ArrState) :=
  match s.finalTile a false with
  | some (i, m, t) => some (i, m, t, s.arr a)
  | none => s.earlyTile a

/-! ### The skiver -/

/-- One converted element: address, bytes, and what it counts. -/
structure Skived where
  addr : Nat
  bytes : List Byte
  engine : Nat
  sat : Bool
  nonfin : Bool
deriving DecidableEq, Repr

/-- Address of output element (m, n). -/
def MmRun.outAddr (x : MmRun) (m n : Nat) : Nat :=
  ((x.od.start : Int) + (n : Int) * x.od.strides.getD 0 0 + (m : Int) * x.od.strides.getD 1 0).toNat

/-- Flush a converted subnormal in heritage mode (R178). -/
def flushBits (h : Bool) (f : Fmt) (neg : Bool) (c : Conv) : Conv :=
  if h && (f.decode c.bits).subnormalIn f then { c with bits := if neg then 2 ^ (f.bits - 1) else 0 } else c

/-- Rows within the unit, and columns of the product, of a unit's tile t. -/
def MmRun.tileRows (m : MmRun) (u t : Nat) : List Nat := (List.range (min 128 (m.unitRows u - 128 * t))).map (· + 128 * t)
def MmRun.groupCols (m : MmRun) (u : Nat) : List Nat :=
  (List.range (min (512 * m.unitTiles u) (m.n - 512 * m.unitTile u))).map (· + 512 * m.unitTile u)

/-- Places of a tile's scale entries in the output planes: the row scales', and the tile scale's (R60). -/
def MmRun.outScales (m : MmRun) (pl : Plane) (u t : Nat) : List Nat × Nat :=
  let g := 512 * m.unitTile u / 1024
  ((m.tileRows u t).map (fun r => pl.qBase + (m.unitRow u + r) * pl.chunks + g),
   pl.tBase + 4 * ((m.unitRow u + 128 * t) / 128 * pl.chunks + g))

/-- The rounding of output element (row, column): by nearest even, or by the draw of R59. -/
def State.outRnd (s : State) (m : MmRun) (slot row col : Nat) : Rnd :=
  match s.op slot with
  | some o => if m.stoch then
      .stoch (drawElem (s.seed (s.opPart o)) (s.rngStep (s.opPart o) o.stamp) m.outCtx m.rngBase (row * m.n + col)) else .rne
  | none => .rne

/-- The scales of a tile (R61, R69): T and, per row, q; supplied ones in fixed-scale mode. -/
def State.tileScales (s : State) (m : MmRun) (pl : Plane) (u t : Nat) (rows : List (List Val)) : Word32 × List Nat :=
  let at_ := m.outScales pl u t
  if m.fixed then (BitVec.ofNat 32 (s.word at_.2 4), at_.1.map (fun a => s.word a 1))
  else
    let mags := rows.map maxMag
    let amax := maxMag (mags.map (fun q => .fin false q.1 q.2))
    let te := tileExp (fmtD m.outFmt).scaleQ amax.1 amax.2
    if amax.1 = 0 then (0x3F800000#32, rows.map (fun _ => 0))
    else (fp32 false (pow2 te), mags.map (fun q => rowScale m.heritage (fmtD m.outFmt).scaleQ te q.1 q.2))

/-- An element divided by its scales; a zero q makes a finite one a zero of its sign (R61, R70). -/
def scaledElem (h : Bool) (v : Val) (q : Nat) (t : Word32) : Val :=
  if scaleZero h q then (if v.isFin then .zero v.sign else v) else v.div ((Fmt.ue5m3.decode q).mul (val32 h t))

/-- Convert one 128-row tile of a unit's column group from the sums of x: elements, the scale entries (address, bytes), and
whether a supplied q is invalid (R50, R61, R69, R70). -/
def State.skive (s : State) (a : Nat) (x : ArrState) (m : MmRun) (i : PassId) (t : Nat) : List Skived × List (Nat × List Byte) × Bool :=
  let rows := m.tileRows i.unit t
  let cols := m.groupCols i.unit
  let f := fmtD m.outFmt
  let gm (r : Nat) : Nat := m.unitRow i.unit + r
  let elem (r c : Nat) (v y : Val) (satOk : Bool) : Skived :=
    let k := flushBits m.heritage f v.sign (f.convert (s.outRnd m i.slot (gm r) c) y)
    ⟨m.outAddr (gm r) c, toLE f.bytes k.bits, 16 * a + c % 512 / 32, k.sat && satOk, k.nonfin⟩
  let val (r c : Nat) : Val := val32 m.heritage (x.sum i.admitNo i.unit r c)
  if m.outFmt = 0 then
    (rows.flatMap (fun r => cols.map (fun c =>
      ⟨m.outAddr (gm r) c, toLE 4 (x.sum i.admitNo i.unit r c).toNat, 16 * a + c % 512 / 32, false, false⟩)), [], false)
  else
    match (if f.scaled then m.outp else none) with
    | none => (rows.flatMap (fun r => cols.map (fun c => elem r c (val r c) (val r c) (!m.fixed))), [], false)
    | some pl =>
      let sc := s.tileScales m pl i.unit t (rows.map (fun r => cols.map (val r)))
      let at_ := m.outScales pl i.unit t
      let els := ((rows.zip sc.2).map (fun e => cols.map (fun c =>
        elem e.1 c (val e.1 c) (scaledElem m.heritage (val e.1 c) e.2 sc.1) (!m.fixed)))).flatten
      (els, if m.fixed then [] else (at_.1.zip sc.2).map (fun e => (e.1, toLE 1 e.2)) ++ [(at_.2, toLE 4 sc.1.toNat)],
       m.fixed && sc.2.contains 0xFF)

/-- Count what the skivers of the engines converted (R57, R111). -/
def State.skiveCount (s : State) (els : List Skived) : State :=
  ((els.map Skived.engine).dedup).foldl (fun u e =>
    let mine := els.filter (fun k => k.engine == e)
    let sat := (mine.filter Skived.sat).length
    let nf := (mine.filter Skived.nonfin).length
    let u := ((u.bump (Fld.skvConv_converted e) mine.length).bumpSat (Fld.skvSat_saturated e) sat).bumpSat (Fld.skvNonfin_nonfinite e) nf
    let u := if nf = 0 then u else u.put (Fld.skvFlags_nonfinite e) 1
    if sat = 0 then u else u.put (Fld.skvFlags_sat e) 1) s

/-- A converted tile is in the output buffer: elements and scale entries together (R111).  It is counted; a saturation raises the
ladder trigger (R192), a non-finite FP32 element the taint (R280). -/
def State.tileConverted (s : State) (a : Nat) (i : PassId) (m : MmRun) (t : Nat) (els : List Skived) (planes : List (Nat × List Byte)) : State :=
  let ws := els.map (fun e => (e.addr, e.bytes)) ++ planes
  let y := (s.arr a).freeBlock m i t
  let u := (s.setArr a { y with outBuf := y.outBuf ++ [⟨i, t, m.outCtx, (ws.map (fun e => e.2.length)).foldl (· + ·) 0, els.length, ws⟩] }).arrUpdate a
  let u := if m.outFmt = 0 ∨ m.outFmt = 6 then u else u.skiveCount els
  let u := if els.any Skived.sat then u.trigger i.slot else u
  match u.op i.slot with
  | some o => if m.outFmt = 0 then u.taintWrites (u.opPart o) o.stamp (els.map (fun e => (e.addr, ofLE e.bytes))) else u
  | none => u

/-- The supplied scale entries of a tile: bytes that conversion reads (R69). -/
def MmRun.supplied (m : MmRun) (u t : Nat) : List (Nat × Nat) :=
  match (if m.fixed then m.outp else none) with
  | some pl => ((m.outScales pl u t).1.map (fun a => (a, 1))) ++ [((m.outScales pl u t).2, 4)]
  | none => []

/-- Conversion may run: the device serves, no capture is under way, and the output buffers have room (R111). -/
def State.skiveMay (s : State) (a : Nat) : Bool :=
  s.serving && !s.quiet (s.partOfCs a) && decide ((s.arr a).outBuf.length ≤ Config.outBufTiles)

/-- SKIVER_TILE_CONVERT (R61 to R63, R69, R110, R111): convert the next 128-row tile of an array. -/
def skiverTileConvert (a : Nat) (s : State) : State :=
  match s.nextTile a with
  | none => s
  | some (i, m, t, x) =>
    let sup := m.supplied i.unit t
    if s.skiveMay a = false ∨ sup.any (fun r => s.chanWaits r.1 r.2) then s
    else if sup.any (fun r => s.poisoned r.1 r.2) then s.failMatmul i.slot Res.hwFault
    else
      let r := s.skive a x m i t
      if r.2.2 then s.failMatmul i.slot Res.badField
      else (s.countBytes m.outCtx 0 ((sup.map Prod.snd).foldl (· + ·) 0)).tileConverted a i m t r.1 r.2.1

/-! ### Output streams (R111, R148, R149) -/

/-- The oldest converted tile that a context has to write, with its array. -/
def State.outTile (s : State) (i : Nat) : Option (Nat × OutTile) :=
  (List.range 4).findSome? (fun a => ((s.arr a).outBuf.find? (fun o => o.ctx == i)).map (fun o => (a, o)))

/-- A converted tile goes to HBM: data and scale entries (R63). -/
def State.drainTile (s : State) (a : Nat) (o : OutTile) : State :=
  let x := s.arr a
  let t := (s.setArr a { x with outBuf := x.outBuf.erase o }).writeUnits o.writes
  let t := (t.countBytes o.ctx 1 o.bytes).advancePos o.ctx o.elems
  match t.mm o.id.slot with
  | some m => t.tileWritten a o.id m o.tile
  | none => t

/-- An array that runs a MATMUL of the context has a stirrup segment, or a staging tile, to reserve for it (R148). -/
def State.arraySpace (s : State) (i : Nat) : Bool :=
  let users := (List.range 4).flatMap (fun a => (s.arr a).runs.filterMap (fun r => (s.op r.slot).bind (fun o =>
    if o.admitNo = r.admitNo ∧ (o.b 0x20 4 = i ∨ o.b 0x24 4 = i) then some (a, o.b 0x24 4 == i) else none)))
  users.isEmpty || users.any (fun u => decide ((if u.2 then (s.arr u.1).segs.length else (s.arr u.1).staged.length) < 3))

/-- Space that a stream's next transfer needs: an HBM write's can be had unless its channel retrains (R226). -/
def State.spaceFor (s : State) (i : Nat) : Bool :=
  match s.outTile i with
  | some (_, o) => o.writes.all (fun w => !s.chanWaits w.1 w.2.length)
  | none => s.arraySpace i

/-- POOL_SLOT_GRANT (R148, R149): once destination space is reserved, a stream takes a slot from its reservation or, by class and
turn, from the unreserved slots; an output stream writes its oldest converted tile through it.  Otherwise the stream waits (R150). -/
def slotGrant (i : Nat) (space : Bool) (kind : Nat) (s : State) : State :=
  let c := s.ctx i
  if c.state ≠ 1 ∨ s.ctxNamed i = false then s
  else if !(space && s.spaceFor i) then s.waitFor i kind
  else if s.slotCan i 0 = false then s.waitFor i 0
  else
    let t := ((s.poolTurn i).setCtx i ({ c with granted := c.granted + 1, waitSince := 0, waitTold := false } : Ctx).recount).poolUpdate (ctxHome i)
    match t.outTile i with
    | some (a, o) => if t.serving && !t.quiet c.partition then t.drainTile a o else t
    | none => t

/-! ### The accumulate add -/

/-- Address and final sum of each element of a unit's output tile t. -/
def ArrState.finalWords (x : ArrState) (m : MmRun) (i : PassId) (t : Nat) : List (Nat × Word32) :=
  (m.tileRows i.unit t).flatMap (fun r => (m.groupCols i.unit).map (fun c =>
    (m.outAddr (m.unitRow i.unit + r) c, x.sum i.admitNo i.unit r c)))

/-- What the stack engine writes for an element: the old value and the final sum combined by the mode's fold (R106). -/
def State.accWord (s : State) (m : MmRun) (e : Nat × Word32) : Word32 := modeFold m.heritage m.mode (BitVec.ofNat 32 (s.word e.1 4)) e.2

/-- Add final sums into memory, element by element (R106, R166). -/
def State.accumulate (s : State) (m : MmRun) (els : List (Nat × Word32)) : State :=
  els.foldl (fun u e => u.pokes e.1 (toLE 4 (u.accWord m e).toNat)) s

/-- An add reaches infinity from a finite old value and a finite sum (R54). -/
def State.accInf (s : State) (m : MmRun) (els : List (Nat × Word32)) : Bool :=
  els.any (fun e => isInf32 (s.accWord m e) && !isInf32 e.2 && !isInf32 (BitVec.ofNat 32 (s.word e.1 4)))

/-- Count an accumulated tile, and note what it taints. -/
def State.accumulated (s : State) (i : PassId) (m : MmRun) (els : List (Nat × Word32)) : State :=
  let hs := (els.map (fun e => (stackOf e.1).getD 0)).dedup
  let u := hs.foldl (fun u h => u.bump (Fld.senBytesAdd_bytes h) (4 * (els.filter (fun e => stackOf e.1 == some h)).length)) s
  let u : State := match u.op i.slot with
    | some o => u.taintWrites (u.opPart o) o.stamp (els.map (fun e => (e.1, (u.word e.1 4))))
    | none => u
  (u.countBytes m.outCtx 1 (4 * els.length)).advancePos m.outCtx els.length

/-- ACCUMULATE_ADD (R106, R165, R166): the stack engines add the next 128-row tile's final sums into memory, each element
once.  One that meets poison fails the MATMUL (R212). -/
def accumulateAdd (a : Nat) (s : State) : State :=
  match s.finalTile a true with
  | none => s
  | some (i, m, t) =>
    let els := (s.arr a).finalWords m i t
    if s.serving = false ∨ s.quiet (s.partOfCs a) ∨ els.any (fun e => s.chanWaits e.1 4) then s
    else if els.any (fun e => s.poisoned e.1 4) then s.failMatmul i.slot Res.hwFault
    else
      let u := ((s.accumulate m els).accumulated i m els).setArr a ((s.arr a).freeBlock m i t)
      (if s.accInf m els then u.trigger i.slot else u).tileWritten a i m t

end Sys2Proof.Machine
end

