-- ==== Sys2Proof/Machine/ArrayFaults.lean ====
section
/-!
DEFINITION. What stops a pass (R94): pre-emption (R95), faults and their reissue (R96, R97, R125), injected errors (R426), and
field repairs of the map and its shims (R89 to R92).
-/
namespace Sys2Proof.Machine

/-- PREEMPTION (R38, R95): at a pass boundary the array goes over to a waiting MATMUL of a higher queue_prio.  What was written
ahead for the pre-empted one's next pass goes. -/
def preemption (a : Nat) (s : State) : State :=
  let x := s.arr a
  if s.outranked a ∧ x.redo.isEmpty ∧ s.arrayLive a then
    let best := (s.setArr a { x with cur := none }).pickRun a
    let started (i : PassId) : Bool := x.flight.any (fun f => f.id == i)
    let y : ArrState := { x with cur := best.map ArrRun.admitNo, loading := none, segs := x.segs.filter (fun g => started g.id),
                                 staged := x.staged.filter (fun g => started g.id) }
    ((s.setArr a y.shed).bumpSat (Fld.aryPreempt_preempts a) 1).arrUpdate a
  else s

/-! ### The repair map (R89 to R91) -/

/-- Physical row of block b's entry, and whether the entry is valid (R89). -/
def repairRowF (a b : Nat) : FieldRef := ⟨Reg.aryRepair a, 8 * b, 7⟩
def repairValidF (a b : Nat) : FieldRef := ⟨Reg.aryRepair a, 8 * b + 7, 1⟩

/-- The shim depth of logical row k: valid entries above its position (R90). -/
def State.shimDepth (s : State) (a k : Nat) : Nat :=
  ((List.range 8).filter (fun b => s.flag (repairValidF a b) &&
    (decide (b < k / 128) || (b == k / 128 && decide (s.f (repairRowF a b) ≤ k % 128))))).length

/-- A field repair of the block is pending. -/
def ArrState.repairPending (x : ArrState) (b : Nat) : Bool := x.repair.any (fun r => r.1 == b)

/-- A row is declared failed (R93, R97): the array leaves service when its block has used its spare; else a field repair of the
block is pending. -/
def State.rowFailed (s : State) (a row : Nat) : State :=
  let b := row / 128
  let t := s.put (Fld.aryFault_row_failed a) 1
  if s.flag (repairValidF a b) then t.arrayFail a (if row % 128 = 127 then 1 else 0)
  else if (t.arr a).repairPending b then t
  else t.setArr a { t.arr a with repair := (t.arr a).repair ++ [(b, row % 128, 0)] }

/-- ARY_REPAIR_REQ_n with go (R91): a field repair becomes pending, or the request is refused with an event. -/
def aryRepairReq (a v : Nat) (s : State) : State :=
  if bits v 31 1 = 0 then s
  else
    let k := bits v 0 10
    let b := k / 128
    if s.flag (repairValidF a b) ∨ s.arrayInService a = false ∨ (s.arr a).repairPending b then
      s.event Blk.ary none (csCantle a) a (genericPayload (Reg.aryRepairReq a) v 0)
    else s.setArr a { s.arr a with repair := (s.arr a).repair ++ [(b, k % 128, 1)] }

/-- One map entry takes effect: the counts, the source, the lead's record and the event (R89, R91, R92). -/
def State.mapEntry (s : State) (a : Nat) (e : Nat × Nat × Nat) : State :=
  let t := (s.put (repairRowF a e.1) e.2.1).put (repairValidF a e.1) 1
  let t := t.put (Fld.aryRepairSrc_field a) (t.f (Fld.aryRepairSrc_field a) ||| 2 ^ e.1)
  let t := (t.put (Fld.aryStatus_repairs a) (t.f (Fld.aryStatus_repairs a) + 1)).put (Fld.aryStatus_spares_left a)
    (t.f (Fld.aryStatus_spares_left a) - 1)
  let t := t.setComp { t.comp with keepRepairs := t.comp.keepRepairs ++ [(a, e.1, e.2.1)] }
  t.event 0x0202 (some (t.partOfCs a)) (csCantle a) a (toLE 1 a ++ toLE 1 e.1 ++ toLE 1 e.2.1 ++ toLE 1 e.2.2)

/-- FIELD_REPAIR (R91, R92): with no pass in flight every pending entry takes effect, and the next tile loads through the new map. -/
def fieldRepair (a : Nat) (s : State) : State :=
  let x := s.arr a
  if x.repair.isEmpty ∨ x.flight.isEmpty = false ∨ s.arrayLive a = false then s
  else
    let y := { x with repair := [], loading := none, nextLoad := x.busyEnd + 1, nextStart := max x.nextStart (x.busyEnd + 2) }
    (x.repair.foldl (fun t e => t.mapEntry a e) (s.setArr a y)).arrUpdate a

/-! ### Faults (R96, R97, R125, R426) -/

/-- A fault against a pass: kinds 0 to 3 as EV-0x0201 names them, 4 a fold residue fault, 7 parity of the scale buffer; row, column
and ARRCLK cycle of its detection. -/
structure PassError where
  kind : Nat
  row : Nat
  col : Nat
  cyc : Nat
deriving DecidableEq, Repr

/-- Whether the fault names a logical row; otherwise it names a column or nothing. -/
def PassError.ofRow (e : PassError) : Bool := decide (e.kind ≤ 2)

/-- What an injected error does to the pass that took it, and the cycle of its detection (R426). -/
def State.injected (s : State) (a : Nat) (f : Flight) (j : Nat × Nat × Nat) : PassError :=
  let first := f.start + j.2.1 + s.shimDepth a j.2.1
  if j.1 = 2 then ⟨3, j.2.1, j.2.2, f.start + j.2.2 + 1025 + s.f (Fld.aryStatus_repairs a)⟩
  else if j.1 = 1 then ⟨1, j.2.1, j.2.2, first⟩
  else ⟨0, j.2.1, j.2.2, first + j.2.2⟩

/-- Show a fault in ARY_FAULT_n, or a residue fault in TE_FAULT_n (R96, R125). -/
def State.passMark (s : State) (a : Nat) (e : PassError) : State :=
  let t := if e.kind = 0 then s.put (Fld.aryFault_reg_parity a) 1 else if e.kind = 1 then s.put (Fld.aryFault_stirrup_ecc a) 1
    else if e.kind = 2 then s.put (Fld.aryFault_staging_ecc a) 1 else if e.kind = 3 then s.put (Fld.aryFault_drain_parity a) 1
    else if e.kind = 4 then s.put (Fld.teFault_dp_residue (16 * a + e.col % 512 / 32)) 1 else s
  if e.ofRow then (t.put (Fld.aryFault_last_row a) e.row).put (Fld.aryFault_col_valid a) 0
  else if e.kind = 3 then (t.put (Fld.aryFault_last_col a) e.col).put (Fld.aryFault_col_valid a) 1 else t

/-- EV-0x0201 of a fault: attempt n of the pass, with the input cycles lost; the table of its kinds has none for a fault of the
intake, whose kind is free (assumption 24). -/
def State.passEvent (s : State) (a n : Nat) (e : PassError) (f : Flight) : State :=
  let intake := decide (3 < e.kind)
  let kind := if intake then (Config.freeWord s.fresh).toNat % 4 else e.kind
  (s.event 0x0201 (some (s.partOfCs a)) (csCantle a) a
    (toLE 1 a ++ toLE 1 kind ++ toLE 2 (if e.ofRow then e.row else 0) ++ toLE 2 (if e.kind = 3 then e.col else 0) ++
     toLE 1 (if e.kind = 3 then 1 else 0) ++ toLE 1 n ++ toLE 2 f.id.slot ++ toLE 4 (e.cyc + 2 - f.start))).useFresh (if intake then 1 else 0)

/-- What a repeated fault leads to: the same column twice fails the array, the same row twice fails the row, and more
re-issues than reissue_limit allows fail the MATMUL (R97). -/
def State.passRepeat (s : State) (a : Nat) (e : PassError) (f : Flight) (old : Attempt) : State :=
  if e.kind = 3 ∧ old.lastCol = some e.col then s.arrayFail a 2
  else if e.ofRow ∧ old.lastRow = some e.row ∧ s.flag (Fld.aryCtrl_auto_repair a) then
    (s.setArr a { s.arr a with attempts := (s.arr a).attempts.filter (fun z => z.id != f.id) }).rowFailed a e.row
  else if s.f (Fld.aryCtrl_reissue_limit a) < old.count + 1 then
    (s.put (Fld.aryFault_exhausted a) 1).failMatmul f.id.slot Res.hwFault
  else s

/-- Passes that go again are counted, and their operations' records carry the reissued flag (R97). -/
def State.reissued (s : State) (a : Nat) (back : List PassId) : State :=
  let again := back.filter (fun i => (s.arr a).redo.contains i)
  again.foldl (fun t i => t.orFlags i.slot 7) (s.bumpSat (Fld.aryFault_reissues a) again.length)

/-- The array as a fault leaves it: the faulted pass and every later one go again from what they retain; the load in progress is
aborted; the faulted pass's tile loads in the next cycle (R96).  The cycles spent count as busy. -/
def ArrState.faulted (x : ArrState) (idx : Nat) (e : PassError) (back : List PassId) (att : Attempt) : ArrState :=
  { x with flight := x.flight.take idx, redo := back ++ x.redo, loading := none, nextLoad := e.cyc + 1, nextStart := e.cyc + 2,
           busyEnd := max x.busyEnd (e.cyc + 1), attempts := x.attempts.filter (fun z => z.id != att.id) ++ [att] }

/-- The fault e of the pass idx in flight is handled. -/
def State.faultPass (s : State) (a idx : Nat) (f : Flight) (e : PassError) : State :=
  let x := s.arr a
  let old := (x.attempts.find? (fun y => y.id == f.id)).getD ⟨f.id, 0, none, none⟩
  let att : Attempt := ⟨f.id, old.count + 1, if e.ofRow then some e.row else none, if e.kind = 3 then some e.col else none⟩
  let back := ((x.flight.drop idx).map Flight.id).filter (fun i => s.opRunning i.slot i.admitNo)
  let first := match x.flight with | g :: _ => g.start | [] => 0
  let t := (s.setArr a (x.faulted idx e back att)).bump (Fld.aryBusy_busy a) (e.cyc + 1 - max first x.busyEnd)
  ((((t.passMark a e).passEvent a (old.count + 1) e f).passRepeat a e f old).reissued a back).arrUpdate a

/-- PASS_FAULT (R96, R97, R100, R125, R426): an error against the pass idx of those in flight, detected in ARRCLK cycle cyc.
kind as PassError gives it; 5 is a corrected single-bit error, 6 a fault localised to a drain-path stage (R93).  A pass with an
injected error faults by it. -/
def passFault (a idx kind row col cyc : Nat) (s : State) : State :=
  match (s.arr a).flight[idx]? with
  | none => s
  | some f =>
    if s.arrayInService a = false then s
    else if kind = 5 then s.bumpSat (Fld.aryFault_corrected a) 1
    else
      match f.inject with
      | some j => s.faultPass a idx f (s.injected a f j)
      | none => if kind = 6 then s.arrayFail a 3 else s.faultPass a idx f ⟨kind, row, col, max cyc f.start⟩

/-- ARY_INJECT_n with go (R426): one error goes into the next pass to start. -/
def aryInject (a v : Nat) (s : State) : State :=
  if bits v 31 1 = 0 ∨ bits v 19 2 = 3 then s
  else s.setArr a { s.arr a with inject := some (bits v 19 2, bits v 0 10, bits v 10 9) }

end Sys2Proof.Machine
end

