-- ==== Sys2Proof/Machine/Awl.lean ====
section
/-!
DEFINITION. Weights read ahead into the prefetch half (R151 to R155), and the awl's shadow check (R124, R187 to R191).
-/
namespace Sys2Proof.Machine

/-! ### Prefetch -/

/-- The stationary side of a MATMUL not yet issued, as its tiles are read ahead. -/
def State.pfRun (s : State) (o : Op) (d : Desc) : MmRun :=
  { admitNo := o.admitNo, m := o.b 0x2C 4, kLen := d.counts.getD (if d.xpose then 0 else 1) 0,
    n := d.counts.getD (if d.xpose then 1 else 0) 0, chunksK := o.b 0x30 2, tilesN := o.b 0x32 2, mode := o.b 0x34 1 % 8,
    wFmt := o.b 0x35 1 % 16, xFmt := o.b 0x35 1 / 16, outFmt := 0, stoch := false, accumulate := false, fixed := false,
    heritage := s.heritage (s.opPart o), xd := d, xp := none, wd := d, wp := none, od := d, outp := none, outCtx := 0, rngBase := 0,
    epi := [], epiConsts := [], eligible := s.eligible (s.opPart o) (o.b 0x37 1 / 4 % 16), written := [], units := 0, awlTiles := [],
    awlSums := [], awlParts := [] }

/-- The stationary descriptor of a MATMUL not yet issued, where the ring holds it and it passes its checks (R139, R152). -/
def State.peekStat (s : State) (o : Op) : Option Desc :=
  let c := s.ctx (o.b 0x20 4)
  (s.entryIndex (o.b 0x20 4) o).bind (fun i =>
    if c.state = 1 ∧ (s.checkData (s.opPart o) false true i (s.ringEntry c i)).isNone then some (Desc.parse (s.ringEntry c i)) else none)

/-- A claimed tile goes into the present half after the swap (R154): its poison or reserved microscale fails the MATMUL. -/
def State.fillDue (s : State) (a : Nat) (i : PassId) (rest : List PassId) : State :=
  let x := s.arr a
  match s.mm i.slot, s.op i.slot with
  | some m, some o =>
    if s.tileWaits m i then s
    else
      let els := s.fetchTile m i
      if els.any (fun e => e.2 == .poison) then s.failMatmul i.slot Res.hwFault
      else if els.any (fun e => e.2 == .bad) then s.failMatmul i.slot Res.badField
      else (s.setArr a { x with own := x.own ++ [⟨i, tileBits els⟩], due := rest }).countBytes (o.b 0x20 4) 0 (m.wd.sizeOf els.length)
  | _, _ => s.setArr a { x with due := rest }

/-- The next claimed tile, in pass order, goes into the prefetch half once wait1 is met (R153).  One that cannot be read yet, or
not without a fault, is left to the MATMUL's own fill. -/
def State.fillClaim (s : State) (a : Nat) (c : PfClaim) (o : Op) (d : Desc) : State :=
  let x := s.arr a
  let m := s.pfRun o d
  if o.admitNo ≠ c.admitNo ∨ (o.met1 = false ∧ o.wait1 ≠ 0xFFFF) then s
  else
    match ((m.passesOn a c.slot).take c.tiles).find? (fun i => x.pf.all (fun g => g.id != i)) with
    | none => s
    | some i =>
      let els := s.fetchTile m i
      if s.tileWaits m i ∨ els.any (fun e => e.2 == .poison || e.2 == .bad) then s
      else ((s.setArr a { x with pf := x.pf ++ [⟨i, tileBits els⟩] }).pfShow a).countBytes (o.b 0x20 4) 0 (m.wd.sizeOf els.length)

/-- PREFETCH_FILL (R151, R153, R154): one tile of an array's claim: of the MATMUL that has issued, else of the one that holds the
prefetch half. -/
def prefetchFill (a : Nat) (s : State) : State :=
  if s.serving = false then s
  else
    match (s.arr a).due with
    | i :: rest => s.fillDue a i rest
    | [] =>
      match s.claim a with
      | none => s
      | some c =>
        match s.op c.slot with
        | none => s
        | some o =>
          match s.peekStat o with
          | none => s
          | some d => s.fillClaim a c o d

/-! ### The awl (R187 to R191) -/

/-- A reference operand: element × q × T rounded once to BF16, and whether it was rounded (R188). -/
def awlOperand (f : Fmt) (bits q : Nat) (t : Word32) : Val × Bool :=
  if f = .bf16 then (f.decode bits, false)
  else
    let v := ((f.decode bits).mul (Fmt.ue5m3.decode q)).mul (Fmt.fp32.decode t.toNat)
    let r := Fmt.bf16.decode (Fmt.bf16.convert .rne v).bits
    (r, match v with | .fin _ _ _ => !(r.eq v) | _ => false)

/-- The check of one element: the breach ratio |y - ref| / B as an exact value, none where it passes (R189). -/
def awlCheck (mult kLen : Nat) (rounded : Bool) (y ref sabs : Word32) : Option Val :=
  let yv := Fmt.fp32.decode y.toNat
  let rv := Fmt.fp32.decode ref.toNat
  let u := ((pow2 (-24)).mul (.fin false (kLen + 3) 1)).add (if rounded then pow2 (-8) else .zero false)
  let b := ((Val.fin false mult 1).mul (u.mul (Fmt.fp32.decode sabs.toNat))).add ((Val.fin false kLen 1).mul (pow2 (-149)))
  let diff := (yv.sub rv).abs
  if yv.isFin && rv.isFin then (if b.lt diff then some (diff.div b) else none)
  else if (yv.isNan && rv.isNan) || (!yv.isNan && !rv.isNan && yv == rv) then none
  else some (diff.div b)

/-- Rows of the sampled tile l, and the columns of share j of it: those of one engine (R124). -/
def MmRun.awlRows (m : MmRun) (l : Nat) : List Nat := (List.range (min 128 (m.m - 128 * (l / ceilDiv m.n 128)))).map (· + 128 * (l / ceilDiv m.n 128))
def MmRun.awlShare (m : MmRun) (l j : Nat) : List Nat :=
  (List.range (min 32 (m.awlColumns l - 32 * j))).map (· + 128 * (l % ceilDiv m.n 128) + 32 * j)
/-- Shares that a tile has. -/
def MmRun.awlShares (m : MmRun) (l : Nat) : List Nat := (List.range 4).filter (fun j => decide (32 * j < m.awlColumns l))

/-- Byte runs that a share reads again: elements and scales (R188). -/
def MmRun.awlRuns (m : MmRun) (l j : Nat) : List (Nat × Nat) :=
  let side (d : Desc) (kd : Nat) (p : Option Plane) (is : List Nat) : List (Nat × Nat) :=
    is.flatMap (fun i => (List.range m.kLen).map (fun k => d.elemRun kd i k) ++
      (match p with
       | some p => (List.range m.chunksK).flatMap (fun c => [(p.qBase + i * p.chunks + c, 1), (p.tBase + 4 * (i / 128 * p.chunks + c), 4)])
       | none => []))
  side m.xd 0 m.xp (m.awlRows l) ++ side m.wd m.wDim m.wp (m.awlShare l j)

/-- A row's or a column's reference operands, k ascending. -/
def State.awlX (s : State) (m : MmRun) (i : Nat) : List (Val × Bool) :=
  (List.range m.kLen).map (fun k => awlOperand (fmtD m.xFmt) (match s.xElem m i k with | .val b => b | _ => 0)
    (s.qScale m.xp i (k / 1024)) (s.tScale m.xp (i / 128) (k / 1024)))
def State.awlW (s : State) (m : MmRun) (i : Nat) : List (Val × Bool) :=
  (List.range m.kLen).map (fun k => awlOperand (fmtD m.wFmt) (match s.wElem m i k with | .val b => b | _ => 0)
    (s.qScale m.wp i (k / 1024)) (s.tScale m.wp (i / 128) (k / 1024)))

/-- Whether any reference operand of the tile was rounded. -/
def State.awlRounded (s : State) (m : MmRun) (l : Nat) : Bool :=
  ((m.awlRows l).map (s.awlX m) ++ ((m.awlShares l).flatMap (m.awlShare l)).map (s.awlW m)).any (fun v => v.any Prod.snd)

/-- The breach ratios of a share's elements, none where all pass (R188, R189). -/
def State.awlRatios (s : State) (p : Nat) (m : MmRun) (l j : Nat) : List Val :=
  let xs := (m.awlRows l).map (fun r => (r, s.awlX m r))
  let ws := (m.awlShare l j).map (fun c => (c, s.awlW m c))
  let rounded := s.awlRounded m l
  xs.flatMap (fun x => ws.filterMap (fun w =>
    let acc := (x.2.zip w.2).foldl (fun (z : Word32 × Word32) e =>
      (fp32 false (Val.fma e.1.1 e.2.1 (Fmt.fp32.decode z.1.toNat)),
       fp32 false ((Fmt.fp32.decode z.2.toNat).add (e.1.1.mul e.2.1).abs))) (0#32, 0#32)
    let y := match m.awlSums.find? (fun e => e.1 == l * 16384 + 128 * (x.1 % 128) + w.1 % 128) with | some e => e.2 | none => 0#32
    awlCheck (bits (s.numpol p) 13 4) m.kLen rounded y acc.1 acc.2))

/-- A breach (R190, R191): the flag, the register, the event, and the ladder trigger where the policy asks for it. -/
def State.awlBreach (s : State) (p slot l : Nat) (o : Op) (ratios : List Val) : State :=
  let worst := ratios.foldl (fun b v => if b.isNan then b else if v.isNan then v else if b.lt v then v else b) (.zero false)
  let t := s.orFlags slot 2
  let t := ((t.bumpSat (Fld.awlStat_breaches p) 1).put (Fld.awlStat_last_slot p) slot).put (Fld.awlStat_last_tile p) l
  let t := t.event 0x0801 (some p) (t.partCantle p) 0 (toLE 2 slot ++ toLE 2 0 ++ toLE 4 l ++ toLE 4 (fp32 false worst).toNat)
  if bits (t.numpol p) 4 1 = 1 ∧ o.layer.isSome then t.trigger slot else t

/-- The tile is checked: it leaves the samples still to check, with what was captured and found for it. -/
def MmRun.awlChecked (m : MmRun) (l : Nat) : MmRun :=
  { m with awlTiles := m.awlTiles.filter (· != l), awlSums := m.awlSums.filter (fun e => e.1 / 16384 != l),
           awlParts := m.awlParts.filter (fun q => q.1 != l) }

/-- The recompute of tile l ends: its tasks leave the engines. -/
def State.awlEnd (s : State) (slot l : Nat) (m : MmRun) : State :=
  (s.dropTasksIf (fun _ k => k.kind == 2 && k.slot == slot && k.admitNo == m.admitNo && k.unit == l)).setMm slot (some (m.awlChecked l))

/-- The engine whose turn is the task of a tile's share. -/
def State.awlEngine (s : State) (slot l j : Nat) : Option (Nat × Task) :=
  (List.range 64).findSome? (fun e => match s.currentTask e with
    | some k => if k.kind = 2 ∧ k.slot = slot ∧ k.unit = l ∧ k.rows = [j] ∧ s.engRuns e k then some (e, k) else none
    | none => none)

/-- A share has been checked; with the last one the tile has its verdict (R190). -/
def State.awlVerdict (s : State) (p slot l j : Nat) (o : Op) (m : MmRun) (ratios : List Val) : State :=
  let parts := m.awlParts ++ [(l, j, ratios)]
  if (m.awlShares l).all (fun i => parts.any (fun q => q.1 == l && q.2.1 == i)) then
    let all := (parts.filter (fun q => q.1 == l)).flatMap (fun q => q.2.2)
    let t := (s.awlEnd slot l m).bump (⟨Reg.awlSamples p, 0, 64⟩) 1
    (if all.isEmpty then t else t.awlBreach p slot l o all).matmulDone slot
  else s.setMm slot (some { m with awlParts := parts })

/-- AWL_RECOMPUTE (R124, R188 to R191): share j of the shadow check of a sampled tile, on the engine whose turn it is.  An error
in its operands ends the check of the tile without a verdict. -/
def awlRecompute (slot l j : Nat) (s : State) : State :=
  match s.mm slot, s.op slot, s.awlEngine slot l j with
  | some m, some o, some (e, k) =>
    let p := s.opPart o
    let runs := m.awlRuns l j
    if s.serving = false ∨ (s.stopOf p).isSome ∨ runs.any (fun r => s.chanWaits r.1 r.2) then s
    else
      let t := (s.tookTurn e k).bump (Fld.strmBytesRd_bytes (e / 16)) ((runs.map Prod.snd).foldl (· + ·) 0)
      if runs.any (fun r => s.poisoned r.1 r.2) then ((t.awlEnd slot l m).generic Blk.num (some p) slot o.tag 0).matmulDone slot
      else
        let t := t.bump ⟨Reg.teIssue e, 0, 64⟩ (ceilDiv ((m.awlRows l).length * (m.awlShare l j).length * m.kLen) 512)
        (t.endTask e k).awlVerdict p slot l j o m (s.awlRatios p m l j)
  | _, _, _ => s

end Sys2Proof.Machine
end

