-- ==== Sys2Proof/Machine/Gate.lean ====
section
/-!
DEFINITION. What every meaning shares: its outcome, and the gate of reset.
-/
namespace Sys2Proof.Machine

abbrev Out := Host.Outcome State Fault Refusal

/-- A command of the running device: under an assertion of reset it changes nothing (R408, R412; assumption 17). -/
def State.unlessReset (s : State) (f : State → State) : Out :=
  .next (if s.pins.inReset then s else f s)

end Sys2Proof.Machine
end

