-- ==== Sys2Proof/Machine/ExecArrays.lean ====
section
/-!
DEFINITION. Meanings of the matrix arrays' commands (chapter 4).
-/
namespace Sys2Proof.Machine

/-- TILE_LOAD_START (R78). -/
def execTileLoadStart (a : Fin 4) (cyc : Nat) (s : State) : Out :=
  State.unlessReset s (tileLoadStart a cyc)

/-- PASS_START (R81). starved: the start is late for lack of stirrup or staging data; slices: the wait was for
accumulator slices. -/
def execPassStart (a : Fin 4) (cyc : Nat) (starved : Bool) (slices : Bool) (s : State) : Out :=
  State.unlessReset s (passStart a cyc starved slices)

/-- PASS_RETIRE (R83). -/
def execPassRetire (a : Fin 4) (s : State) : Out :=
  State.unlessReset s (passRetire a)

/-- PREEMPTION (R95). -/
def execPreemption (a : Fin 4) (s : State) : Out :=
  State.unlessReset s (preemption a)

/-- PASS_FAULT (R96). idx: which pass in flight; kind 0 to 3 as EV-0x0201 names it, 4 an intake or fold residue fault,
5 a corrected single-bit error, 6 a fault localised to a drain-path stage, 7 scale-buffer parity; row, col and cyc where and
when it was. -/
def execPassFault (a : Fin 4) (idx : Fin 3) (kind : Fin 8) (row : Fin 1024) (col : Fin 512) (cyc : Nat) (s : State) : Out :=
  State.unlessReset s (passFault a idx kind row col cyc)

/-- ARY_REPAIR_REQ (R91). -/
def execAryRepairReq (w : Writer) (a : Fin 4) (v : Word32) (s : State) : Out :=
  State.unlessReset s fun s => s.regWrite w (Reg.aryRepairReq a) v.toNat (aryRepairReq a v.toNat)

/-- FIELD_REPAIR (R91). -/
def execFieldRepair (a : Fin 4) (s : State) : Out :=
  State.unlessReset s (fieldRepair a)

/-- ARY_INJECT (R426). -/
def execAryInject (w : Writer) (a : Fin 4) (v : Word32) (s : State) : Out :=
  State.unlessReset s fun s => s.regWrite w (Reg.aryInject a) v.toNat (aryInject a v.toNat)

/-- STIRRUP_WRITE (R142). alongM: the run is 64 consecutive m at k0 from m0, else 64 consecutive k at m0 from k0. -/
def execStirrupWrite (a : Fin 4) (alongM : Bool) (m0 : Nat) (k0 : Nat) (s : State) : Out :=
  State.unlessReset s (stirrupWrite a alongM m0 k0)

/-- SKIVER_TILE_CONVERT (R110). -/
def execSkiverTileConvert (a : Fin 4) (s : State) : Out :=
  State.unlessReset s (skiverTileConvert a)

/-- EPILOGUE_RUN (R109). v: the vector of the engine's share. -/
def execEpilogueRun (e : Fin 64) (v : Nat) (s : State) : Out :=
  State.unlessReset s (epilogueRun e v)

/-- AWL_RECOMPUTE (R188). l: the local number of the sampled tile; i: which of the engines that own its columns. -/
def execAwlRecompute (slot : Fin 4096) (l : Nat × Fin 4) (s : State) : Out :=
  State.unlessReset s (awlRecompute slot l.1 l.2)

/-- ACCUMULATE_ADD (R165). -/
def execAccumulateAdd (a : Fin 4) (s : State) : Out :=
  State.unlessReset s (accumulateAdd a)

end Sys2Proof.Machine
end

