-- ==== Sys2Proof/Machine/Ports.lean ====
section
/-!
DEFINITION. The Adepin ports (chapter 10): packets, virtual channels and credits, replay, lanes, routes and job slots: what
the link commands share.
-/
namespace Sys2Proof.Machine

/-! ### Packets (R238) -/

/-- Header bytes and body. -/
def Packet.toBytes (p : Packet) : List Byte :=
  toLE 2 p.job ++ toLE 1 p.kind ++ toLE 1 p.kflags ++ toLE 4 p.dest ++ toLE 4 p.src ++ toLE 2 p.body.length ++ toLE 2 p.kinfo ++ p.body

def Packet.ofBytes (b : List Byte) : Packet :=
  ⟨fieldLE b 0 2, fieldLE b 2 1, fieldLE b 3 1, fieldLE b 4 4, fieldLE b 8 4, fieldLE b 14 2, (b.drop 16).take (fieldLE b 12 2)⟩

/-- Flits of a packet. -/
def Packet.flits (p : Packet) : Nat := ceilDiv (16 + p.body.length) 244

/-- The kinds of the table; others are reserved. -/
def packetKinds : List Nat := [0x01, 0x02, 0x10, 0x20, 0x21]

/-- The VC of a packet sent direct, by kind. -/
def kindVc (k : Nat) : Nat := if k = 0x10 then 1 else if k = 0x20 then 2 else if k = 0x21 then 3 else 0

/-! ### Ports -/

def portD : Nat → PortState := fun _ =>
  ⟨0, false, 0, 0, [], 0, 0, [], [], [], 0, 0, [], 0, 0, 0, 0, false, false, false⟩

def State.port (s : State) (n : Nat) : PortState := Sparse.get portD s.links.ports n

def State.setPort (s : State) (n : Nat) (x : PortState) : State :=
  { s with links := { s.links with ports := Sparse.put portD s.links.ports n x } }

/-! ### Flits (R236) -/

/-- A flit's fields; the payload is 244 bytes. -/
structure Flit where
  typ : Nat                       -- 0 IDLE, 1 DATA, 2 LINK
  vc : Nat
  sop : Bool
  eop : Bool
  seq : Nat
  nak : Bool
  creditVc : Nat
  credits : Nat
  payload : List Byte
deriving DecidableEq, Repr

/-- The flit with the acknowledgement it carries, but for its CRC; and whole. -/
def Flit.body (f : Flit) (ack : Nat) : List Byte :=
  toLE 2 f.seq ++ toLE 2 ack ++ toLE 1 (f.vc + 8 * (if f.sop then 1 else 0) + 16 * (if f.eop then 1 else 0) + 32 * f.typ + 128) ++
  toLE 1 (if f.nak then 1 else 0) ++ toLE 2 (f.creditVc + 8 * f.credits) ++ padTo 244 f.payload
def Flit.toBytes (f : Flit) (ack : Nat) : List Byte := f.body ack ++ toLE 4 (crc32c (f.body ack))

/-- An IDLE flit, and a LINK flit: its message is a kind, 0 relane, 1 rewiden, 2 training, and a lane mask (assumption 28). -/
def Flit.idle : Flit := ⟨0, 0, false, false, 0, false, 0, 0, []⟩
def Flit.link (kind mask : Nat) : Flit := { Flit.idle with typ := 2, payload := toLE 2 mask ++ toLE 1 kind }

/-- DATA flit k of a packet of n flits with first sequence number q. -/
def Flit.data (p : TxPacket) (q n k : Nat) : Flit :=
  { Flit.idle with typ := 1, vc := p.vc, sop := k == 0, eop := k + 1 == n, seq := (q + k) % 65536, payload := (p.pkt.toBytes.drop (244 * k)).take 244 }

/-- Put a flit on a port's lanes.  It carries the last good sequence number (R237, R243). -/
def State.sendFlit (s : State) (n : Nat) (f : Flit) : State :=
  let x := s.port n
  (({ s with links := { s.links with out := s.links.out ++ [(n, f.toBytes ((65535 + x.expSeq) % 65536))] } } : State)).setPort n { x with unacked := 0 }

/-- Send the DATA flits of packet p from its flit k on, the first of its flits having sequence number q. -/
def State.sendData (s : State) (n : Nat) (p : TxPacket) (q k : Nat) : State :=
  ((List.range (p.pkt.flits - k)).map (· + k)).foldl (fun t j => t.sendFlit n (Flit.data p q p.pkt.flits j)) s

/-- This device's node identifier (R250). -/
def State.node (s : State) : Nat := s.rd Reg.lnkNodeId
def State.position (s : State) : Nat := s.node % 8
def State.twinNode (s : State) : Nat := s.node / 8 * 8 + (s.position ^^^ 1)

def State.twSplit (s : State) : Bool := s.flag (Fld.lnkCfg_split 0)

/-- Lanes of a port (R13, R246). -/
def State.fullWidth (s : State) (n : Nat) : Nat := if n = 0 ∧ s.twSplit = false then 16 else 8

def State.fullMask (s : State) (n : Nat) : Nat := 2 ^ s.fullWidth n - 1

/-- Receive buffer of a VC in flits (R240): XP and an unsplit TW have the deep column. -/
def State.vcDepth (s : State) (n vc : Nat) : Nat :=
  let deep := 8 ≤ n ∨ (n = 0 ∧ s.twSplit = false)
  match vc with
  | 0 => if deep then 128 else 64
  | 1 => if deep then 3072 else 1536
  | 2 => if deep then 1536 else 768
  | 3 => if deep then 1536 else 768
  | 5 => if deep then 1920 else 960
  | _ => 0

def State.retryDepth (s : State) (n : Nat) : Nat := if 8 ≤ n ∨ (n = 0 ∧ s.twSplit = false) then 2048 else 1024

/-- LNK_CREDIT_n's field of a VC. -/
def creditF (n vc : Nat) : FieldRef :=
  match vc with
  | 0 => Fld.lnkCredit_vc0 n | 1 => Fld.lnkCredit_vc1 n | 2 => Fld.lnkCredit_vc2 n | 3 => Fld.lnkCredit_vc3 n | _ => Fld.lnkCredit_vc5 n

def State.portState (s : State) (n : Nat) : Nat := s.f (Fld.lnkStatus_state n)

/-- The port carries flits: UP or relaning. -/
def State.portUp (s : State) (n : Nat) : Bool := s.portState n == 5 || s.portState n == 6

/-- The port receives flits: from lock on. -/
def State.portHears (s : State) (n : Nat) : Bool := s.portState n == 4 || s.portUp n

/-- Flits sent and not acknowledged. -/
def PortState.unackedTx (x : PortState) : Nat := (x.retry.map (fun e => e.2.1)).foldl (· + ·) 0

/-- The port index that leads straight to a board position (R250). -/
def State.portTo (s : State) (q : Nat) : Nat := if q = (s.position ^^^ 1) then 0 else s.position ^^^ q

/-- The position at the far end of a TW or BP port. -/
def State.farPosition (s : State) (n : Nat) : Nat := if n ≤ 1 then s.position ^^^ 1 else s.position ^^^ n

/-- The node a port's far end should be (R251): by the wiring rule, or the reach path table's. -/
def State.farNode (s : State) (n : Nat) : Option Nat :=
  if n ≤ 7 then some (s.node / 8 * 8 + s.farPosition n)
  else if s.flag (Fld.lnkReach_expected_valid (n - 8)) then some (s.f (Fld.lnkReach_expected_far (n - 8))) else none

/-- Queue a packet on a port. -/
def State.enqueue (s : State) (n vc : Nat) (p : Packet) (owner : Option Nat) : State :=
  let x := s.port n
  s.setPort n { x with queue := x.queue ++ [⟨vc, p, s.now, owner, none⟩] }

/-- Queue a packet that came in by port m on its way out by port n: on VC5 (R254 to R256). -/
def State.forward (s : State) (m n : Nat) (p : Packet) : State :=
  let x := s.port n
  s.setPort n { x with queue := x.queue ++ [⟨5, p, s.now, none, some m⟩] }

/-- Credits of a VC are owed to the far side of a port (R241). -/
def State.oweCredits (s : State) (n vc k : Nat) : State :=
  let x := s.port n
  let owed := match x.owed.find? (fun e => e.1 == vc) with | some e => e.2 | none => 0
  s.setPort n { x with owed := (vc, owed + k) :: x.owed.filter (fun e => e.1 != vc) }

/-- A forwarded packet has left its in-port's buffer (R255). -/
def State.leftVia (s : State) (p : TxPacket) : State := match p.via with | some m => s.oweCredits m 5 p.pkt.flits | none => s

/-- Queue a packet along a route of R259; a packet for any but the first hop's far end goes on VC5 (R255). -/
def State.sendRoute (s : State) (route : Nat) (p : Packet) (owner : Option Nat) : State :=
  let n := route % 16
  let direct := route / 16 % 2 = 0
  s.enqueue n (if direct then kindVc p.kind else 5) p owner

/-- Queue a job-0 packet to a board position: direct where its port is UP, else by twin_relay (R256, R257). -/
def State.sendBoard (s : State) (q : Nat) (p : Packet) (owner : Option Nat) : State :=
  let n := s.portTo q
  if s.portUp n then s.enqueue n (kindVc p.kind) p owner
  else
    let r := s.f (Fld.lnkCfg_twin_relay 0)
    if r = s.position ∨ r = q then s else s.enqueue (s.portTo r) 5 p owner

/-- A packet of this device. -/
def State.mkPacket (s : State) (job kind dest : Nat) (body : List Byte) : Packet := ⟨job, kind, 0, dest, s.node, 0, body⟩

/-- The busy slot of a job (R254). -/
def State.slotOfJob (s : State) (job : Nat) : Option Nat :=
  (List.range 64).find? (fun j => s.f (Fld.lnkSlot_kind j) != 0 && s.f (Fld.lnkSlot_job_id j) == job)

/-- The MEMBER slot of a job. -/
def State.memberSlot (s : State) (job : Nat) : Option Nat :=
  (List.range 64).find? (fun j => s.f (Fld.lnkSlot_kind j) == 1 && s.f (Fld.lnkSlot_job_id j) == job)

/-- Forwarding pairs of a slot. -/
def State.slotPairs (s : State) (j : Nat) : List (Nat × Nat) :=
  (if s.flag (Fld.lnkSlot_pair0_valid j) then [(s.f (Fld.lnkSlot_in0 j), s.f (Fld.lnkSlot_out0 j))] else []) ++
  (if s.flag (Fld.lnkSlot_pair1_valid j) then [(s.f (Fld.lnkSlot_in1 j), s.f (Fld.lnkSlot_out1 j))] else [])

/-! ### Receiving -/

/-- Take packet i out of a port's buffers: its credits are owed to the far side (R241). -/
def State.consumeRx (s : State) (n i : Nat) : State :=
  let x := s.port n
  match x.rx[i]? with
  | none => s
  | some (vc, _, fl) => (s.setPort n { x with rx := x.rx.eraseIdx i }).oweCredits n vc fl

/-- Packet i of a port's buffers goes on to another port; its flits stay charged until it leaves (R255). -/
def State.moveRx (s : State) (n i out : Nat) (p : Packet) : State :=
  ((s.setPort n { s.port n with rx := (s.port n).rx.eraseIdx i })).forward n out p

/-- The first packet of a port's buffers that a test accepts. -/
def State.findRx (s : State) (n : Nat) (f : Packet → Bool) : Option (Nat × Packet) :=
  let x := s.port n
  match x.rx.findIdx? (fun e => f e.2.1) with
  | some i => match x.rx[i]? with | some e => some (i, e.2.1) | none => none
  | none => none

/-- A discarded packet (R238, R254): counted, with the event of its reason. -/
def State.dropPacket (s : State) (n i : Nat) (p : Packet) (reason : Nat) : State :=
  let t := (s.consumeRx n i).bumpSat (Fld.lnkDrop_packets n) 1
  let t := if reason = 1 then t.put (Fld.lnkEvent_no_slot n) 1 else if reason = 2 then t.put (Fld.lnkEvent_misroute n) 1 else t
  t.event 0x0604 none (portCantle n) n (toLE 1 n ++ toLE 1 p.kind ++ toLE 2 p.job ++ toLE 1 reason)

/-- Why a packet of a job is not for this device: no slot holds the job, or no pair of the slot does (R254). -/
def State.dropReason (s : State) (p : Packet) : Nat := if (s.slotOfJob p.job).isSome then 2 else 1

/-- Free the retry entries that an acknowledgement covers, flit by flit (R243). -/
def ackRetry (ack : Nat) : List (Nat × Nat × TxPacket) → List (Nat × Nat × TxPacket)
  | [] => []
  | (q, n, p) :: es =>
    let k := (65536 + ack % 65536 + 1 - q % 65536) % 65536
    if k = 0 ∨ 32768 ≤ k then (q, n, p) :: es
    else if n ≤ k then ackRetry ack es
    else ((q + k) % 65536, n - k, p) :: es

/-- The oldest flit not acknowledged. -/
def PortState.oldest (x : PortState) : Option Nat := x.retry.head?.map Prod.fst

/-- Read a good flit's acknowledgement (R237). -/
def State.readAck (s : State) (n ack : Nat) : State :=
  let x := s.port n
  let r := ackRetry ack x.retry
  let y : PortState := { x with retry := r }
  s.setPort n (if y.oldest = x.oldest then y else { y with replayFails := 0, replayFrom := 0 })

/-- The VCs that exist (R240). -/
def vcs : List Nat := [0, 1, 2, 3, 5]

/-- Read a good flit's credits (R241): of its own VC only, never above the far buffer's depth. -/
def State.readCredit (s : State) (n vc k : Nat) : State :=
  if k = 0 ∨ vcs.contains vc = false then s else s.put (creditF n vc) (min (s.f (creditF n vc) + k) (s.vcDepth n vc))

/-- Send again every unacknowledged DATA flit in order (R243). -/
def State.resend (s : State) (n : Nat) : State :=
  (s.port n).retry.foldl (fun t e => t.sendData n e.2.2 (65536 + e.1 - (e.2.2.pkt.flits - e.2.1)) (e.2.2.pkt.flits - e.2.1)) s

/-- Start a replay from the oldest unacknowledged flit (R243, R244): counted; another from the same flit is a failure of the last,
unless it resumes after a relane.  Answers the state and whether 16 have failed. -/
def State.startReplay (s : State) (n : Nat) (counted : Bool) : State × Bool :=
  let x := s.port n
  match x.oldest with
  | none => (s, false)
  | some q =>
    let fails := if counted && x.replayFrom == q + 1 then x.replayFails + 1 else if counted then 0 else x.replayFails
    let t := (s.setPort n { x with replayFrom := if counted then q + 1 else x.replayFrom, replayFails := fails }).bumpSat (Fld.lnkErr_replays n) 1
    ((t.bump (Fld.lnkFlitsTx_flits n) x.unackedTx).resend n, decide (16 ≤ fails))

/-- A port comes UP (R251, R241): full credits, sequence numbers from 0, lanes in use. -/
def State.portComesUp (s : State) (n lanes : Nat) : State :=
  let x := s.port n
  let w := ((List.range 16).filter (fun l => testBit lanes l)).length
  let t := s.setPort n { x with expSeq := 0, nakSent := false, unacked := 0, txSeq := 0, retry := [], replayFrom := 0, replayFails := 0,
                                owed := [], part := [], partVc := 0, partFlits := 0, inUse := lanes, rewiden := false }
  let t := vcs.foldl (fun t vc => t.put (creditF n vc) (s.vcDepth n vc)) t
  (((t.put (Fld.lnkStatus_state n) 5).put (Fld.lnkStatus_width n) w).put (Fld.lnkStatus_lane_good n) lanes).putB
    (Fld.lnkStatus_degraded n) (decide (w < s.fullWidth n))

/-- The lanes a port runs on after a relane (R245): per group, all lanes when all are good at both ends, else the lowest
six of at least six. -/
def State.lanesAfter (s : State) (n good : Nat) : Nat :=
  let groups := if s.fullWidth n = 16 then [0, 8] else [0]
  (groups.map (fun b =>
    let g := (List.range 8).filter (fun l => testBit good (b + l))
    if g.length = 8 then 255 * 2 ^ b
    else if 6 ≤ g.length then ((g.take 6).map (fun l => 2 ^ (b + l))).foldl (· + ·) 0
    else 0)).foldl (· + ·) 0

/-- A packet of a port that has gone DOWN takes another way (R257): of TW, through twin_relay; else the port's spare route.
None: it is discarded, and the operation that sent it fails. -/
def State.reroute (s : State) (n : Nat) (p : TxPacket) : Option State :=
  let sp := s.f (Fld.lnkCfg_spare_route n)
  let relay := s.f (Fld.lnkCfg_twin_relay 0)
  if n ≤ 1 ∧ relay ≠ s.position ∧ relay ≠ (s.position ^^^ 1) then some (s.enqueue (s.portTo relay) 5 p.pkt p.owner)
  else if sp ≠ 0xFFFF ∧ s.portUp (sp % 16) then some (s.sendRoute sp p.pkt p.owner)
  else none

/-- The first part of going DOWN (R257): status, cause, count, event and notice, partly received packets and VC1 packets
gone, VC2 and VC3 packets sent again whole by another way or failed.  Legs and the VC5 notice follow in the ring's rules.
Answers the forwarded packets that were discarded. -/
def State.portDownCore (s : State) (n : Nat) : State × List Packet :=
  let x := s.port n
  let all := x.retry.map (fun e => e.2.2) ++ x.queue
  let t := s.setPort n { portD n with rx := x.rx }
  let t := (((t.put (Fld.lnkStatus_state n) 1).put (Fld.lnkStatus_width n) 0).put (Fld.lnkStatus_lane_good n) 0).put (Fld.lnkStatus_degraded n) 0
  let t := ((t.put (Fld.lnkFar_valid n) 0).put (Fld.lnkEvent_down n) 1).bumpSat (Fld.lnkErr_downs n) 1
  let t := t.event 0x0601 none (portCantle n) n (toLE 1 n ++ toLE 3 0 ++ toLE 4 (t.rd (Reg.lnkEvent n) % 2 ^ 32))
  let own := all.filter (fun p => p.vc == 2 || p.vc == 3)
  let t := own.foldl (fun t p =>
    match t.reroute n p with
    | some u => (u.put (Fld.lnkEvent_spare_used n) 1).put (Fld.lnkStatus_on_spare n) 1
    | none => (match p.owner with | some o => t.finish o Res.hwFault | none => t)) t
  let gone := all.filter (fun p => p.vc == 5)
  (gone.foldl (fun t p => if x.queue.contains p then t.leftVia p else t) t, gone.map TxPacket.pkt)

/-! ### Choosing the next packet (R242) -/

/-- During the P0 save received VC1 to VC3 flits stay in their buffers and their credits are not returned (R261). -/
def State.saving (s : State) : Bool := decide (s.f Fld.thmSaveStatus_state ≠ 0)

/-- The ring stands: a P0 save, or HELD (R261, R286). -/
def State.ringStands (s : State) : Bool := s.saving || s.isHeld

/-- During the P0 save and in HELD no packet of the device's own partitions starts (R261). -/
def State.ownHeld (s : State) (p : TxPacket) : Bool :=
  p.pkt.job != 0 && p.via.isNone && p.vc != 0 && s.ringStands

/-- The first packet of a VC that may start, holds its credits and finds room in the retry buffer. -/
def State.readyPacket (s : State) (n vc : Nat) : Option (Nat × TxPacket) :=
  let x := s.port n
  match x.queue.findIdx? (fun p => p.vc == vc && !s.ownHeld p) with
  | none => none
  | some i =>
    match x.queue[i]? with
    | none => none
    | some p => if p.pkt.flits ≤ s.f (creditF n vc) ∧ x.unackedTx + p.pkt.flits ≤ s.retryDepth n then some (i, p) else none

/-- A packet has waited at least age_ns. -/
def State.aged (s : State) (n : Nat) (p : TxPacket) : Bool := decide (475 * 10 * s.f (Fld.lnkCfg_age_10ns n) ≤ 1000 * (s.now - p.since))

/-- The owned packet that goes next among VC1 to VC3. -/
def State.ownedNext (s : State) (n : Nat) : Option (Nat × TxPacket) :=
  let v1 := s.readyPacket n 1
  let v2 := s.readyPacket n 2
  let v3 := s.readyPacket n 3
  let alt := if (s.port n).alternate then (match v3 with | some p => some p | none => v2) else (match v2 with | some p => some p | none => v3)
  let old := ([v2, v3].filterMap id).filter (fun p => s.aged n p.2)
  match old with
  | [p] => some p
  | p :: q :: _ => if q.2.since < p.2.since then some q else some p
  | [] => match v1 with | some p => some p | none => alt

/-- Deficit round-robin between transit and owned packets: each visit adds the side's weight; fuel bounds the visits. -/
def drrPick (wT wO : Nat) (t o : Option Nat) : Nat → Nat → Nat → Bool → Option Bool × Nat × Nat × Bool
  | 0, dT, dO, turn => (none, dT, dO, turn)
  | k + 1, dT, dO, turn =>
    match t, o with
    | none, none => (none, dT, dO, turn)
    | some _, none => (some false, 0, 0, turn)
    | none, some _ => (some true, 0, 0, turn)
    | some a, some b =>
      if turn then (if b ≤ dO then (some true, dT, dO - b, true) else drrPick wT wO t o k (dT + wT) dO false)
      else (if a ≤ dT then (some false, dT - a, dO, false) else drrPick wT wO t o k dT (dO + wO) true)

/-- Send packet i of a port's queue: sequence numbers, credits, the retry buffer. -/
def State.transmit (s : State) (n i : Nat) (p : TxPacket) : State :=
  let x := s.port n
  let f := p.pkt.flits
  let t := s.setPort n { x with queue := x.queue.eraseIdx i, retry := x.retry ++ [(x.txSeq, f, p)], txSeq := (x.txSeq + f) % 65536,
                                alternate := if p.vc = 2 then true else if p.vc = 3 then false else x.alternate }
  let t := ((t.put (creditF n p.vc) (t.f (creditF n p.vc) - f)).bump (Fld.lnkFlitsTx_flits n) f).leftVia p
  (if p.vc = 5 then t.bump (Fld.lnkTransit_flits n) f else t).sendData n p x.txSeq 0

end Sys2Proof.Machine
end

