-- ==== Sys2Proof/Machine/RingOps.lean ====
section
/-!
DEFINITION. The reduction ring (chapter 11): group tables, live members, legs, chunk packets, the arithmetic of one hop, and
the bookkeeping of a bucket, which the ring commands share.
-/
namespace Sys2Proof.Machine

/-! ### Group tables (R263) -/

def State.grp (s : State) (g : Nat) : Option Group := Sparse.get (fun _ => none) s.red.groups g

def State.setGrp (s : State) (g : Nat) (x : Option Group) : State :=
  { s with red := { s.red with groups := Sparse.put (fun _ => none) s.red.groups g x } }

def State.bucket (s : State) (g : Nat) : Option RingBucket := Sparse.get (fun _ => none) s.red.buckets g

def State.setBucket (s : State) (g : Nat) (x : Option RingBucket) : State :=
  { s with red := { s.red with buckets := Sparse.put (fun _ => none) s.red.buckets g x } }

/-- The table in force: the loaded one, in replay the recorded one (R202). -/
def Group.tab (g : Group) : List Byte := g.recTable.getD g.table

def Group.n (g : Group) : Nat := fieldLE g.tab 2 2
def Group.job (g : Group) : Nat := fieldLE g.tab 4 2
def Group.part (g : Group) : Nat := fieldLE g.tab 8 1
def Group.self (g : Group) : Nat := fieldLE g.tab 0xA 2
def Group.stragglerUs (g : Group) : Nat := fieldLE g.tab 0xC 4
/-- A field of the entry of position p. -/
def Group.ent (g : Group) (p off n : Nat) : Nat := fieldLE g.tab (0x40 + 32 * p + off) n
def Group.node (g : Group) (p : Nat) : Nat := g.ent p 0 4
def Group.taker (g : Group) (p : Nat) : Nat := g.ent p 0xE 2
def Group.takeDelta (g : Group) (p : Nat) : Int := fieldSigned (g.tab.drop (0x40 + 32 * p)) 0x10 8

/-- Whether a position is lost for a bucket of a step (R283). -/
def Group.lostAt (g : Group) (step bseq p : Nat) : Bool :=
  g.jobLost.contains p || g.stepLost.contains (p, step) || g.bucketLost.contains (p, bseq)

/-- The live list L of R264, in ring order; in replay only the recorded members (R202). -/
def Group.live (g : Group) (step bseq : Nat) : List Nat :=
  (List.range g.n).filter (fun p => !g.lostAt step bseq p && (match g.recMembers with | some ms => ms.contains (g.node p) | none => true))

def State.live (_ : State) (g : Group) (step bseq : Nat) : List Nat := g.live step bseq

/-- Tables one after the other, each of a 64-byte header and its members' entries. -/
def groupTables : Nat → List Byte → List (List Byte)
  | 0, _ => []
  | k + 1, b =>
    let n := 64 + 32 * fieldLE b 2 2
    if b.length < 64 then [] else b.take n :: groupTables k (b.drop n)

/-- The groups of a partition run on the recorded tables and members (R202, R204); none, on their own again. -/
def State.ringReplay (s : State) (p : Nat) (r : Option Replay) : State :=
  let gs := s.red.groups.filterMap (fun e => match e.2 with | some g => if fieldLE g.table 8 1 = p then some (e.1, g) else none | none => none)
  let ts := match r with | some r => groupTables 4096 ((r.ringTables.drop 16).take (fieldLE r.ringTables 8 8)) | none => []
  gs.foldl (fun t e => t.setGrp e.1 (some { e.2 with
    recTable := ts.find? (fun b => fieldLE b 6 2 == e.1)
    recMembers := if gs.head?.map Prod.fst = some e.1 then r.map Replay.members else none })) s

/-- The members after and before a position in a list taken as a ring. -/
def ringNext (l : List Nat) (p : Nat) : Nat := l.getD ((l.idxOf p + 1) % max 1 l.length) p
def ringPrev (l : List Nat) (p : Nat) : Nat := l.getD ((l.idxOf p + (l.length - 1)) % max 1 l.length) p

/-- A list rotated to start at index i. -/
def rotate (l : List Nat) (i : Nat) : List Nat := l.drop (i % max 1 l.length) ++ l.take (i % max 1 l.length)

/-- Members of one board, rotated to start at place i of the board (R181). -/
def boardPath (l : List Nat) (b i : Nat) : List Nat :=
  let m := l.filter (fun p => p / 8 == b)
  m.filter (fun p => decide (i ≤ p % 8)) ++ m.filter (fun p => decide (p % 8 < i))

/-- The path of chunk c through this member: the members of its first stage in order, and in heritage mode with more than
64 members the holders of the board sums in the order of the second stage (R264, R181). -/
def chunkPath (l : List Nat) (n self : Nat) (heritage : Bool) (c : Nat) : List Nat × Option (List Nat) :=
  if heritage ∧ 64 < n then
    let boards := ((l.map (· / 8)).dedup)
    let nb := ceilDiv n 8
    let first := c / 8 % nb
    let order := boards.filter (fun b => decide (first ≤ b)) ++ boards.filter (fun b => decide (b < first))
    (boardPath l (self / 8) (c % 8), some (order.map (fun b => ((boardPath l b (c % 8)).getLast?).getD self)))
  else (rotate l c, none)

/-- The final member of chunk c. -/
def finalMember (l : List Nat) (n self : Nat) (heritage : Bool) (c : Nat) : Nat :=
  match chunkPath l n self heritage c with
  | (p, none) => (p.getLast?).getD self
  | (_, some h) => (h.getLast?).getD self

/-- Owner of chunk c (R264). -/
def Group.owner (g : Group) (c : Nat) : Nat := (c + g.n - 1) % max 1 g.n

/-- Where chunk c is kept: its owner, or the owner's taker with the offset of its takeover area (R265). -/
def Group.keeper (g : Group) (l : List Nat) (c : Nat) : Option (Nat × Int) :=
  let o := g.owner c
  if l.contains o then some (o, 0)
  else if g.taker o ≠ 0xFFFF ∧ l.contains (g.taker o) then some (g.taker o, g.takeDelta o) else none

/-! ### Legs (R259, R284) -/

/-- The route from this member to its next live member; none when there is no route (R285). -/
def Group.legNext (g : Group) (q : Nat) : Option Nat :=
  let d := (q + g.n - g.self) % max 1 g.n
  let r := if d = 1 then (if g.onSpare then g.ent g.self 6 2 else g.ent g.self 4 2) else if d = 2 then g.ent g.self 8 2 else 0xFFFF
  if r = 0xFFFF then none else some r

/-- The route to its previous live member. -/
def Group.legPrev (g : Group) (q : Nat) : Option Nat :=
  let d := (g.self + g.n - q) % max 1 g.n
  let r := if d = 1 then g.ent g.self 0xA 2 else if d = 2 then g.ent g.self 0xC 2 else 0xFFFF
  if r = 0xFFFF then none else some r

/-- The port by which a route leaves. -/
def routePort (r : Nat) : Nat := r % 16

/-! ### Chunk packets (R269) -/

structure RingHdr where
  group : Nat
  phase : Nat
  wire : Nat
  chunk : Nat
  bseq : Nat
  epoch : Nat
  flags : Nat
  voids : Nat
  hops : Nat
deriving DecidableEq, Repr

def RingHdr.toBytes (h : RingHdr) : List Byte :=
  toLE 2 h.group ++ toLE 1 h.phase ++ toLE 1 h.wire ++ toLE 4 h.chunk ++ toLE 4 h.bseq ++ toLE 1 h.epoch ++ toLE 1 h.flags ++
  toLE 2 h.voids ++ toLE 2 h.hops ++ toLE 6 0

def RingHdr.ofBytes (b : List Byte) : RingHdr :=
  ⟨fieldLE b 0 2, fieldLE b 2 1, fieldLE b 3 1, fieldLE b 4 4, fieldLE b 8 4, fieldLE b 12 1, fieldLE b 13 1, fieldLE b 14 2, fieldLE b 16 2⟩

def BlkHdr.toBytes (b : BlkHdr) : List Byte := toLE 1 b.scale ++ toLE 1 b.bflags ++ toLE 2 0 ++ toLE 4 b.max.toNat

def BlkHdr.ofBytes (b : List Byte) : BlkHdr := ⟨fieldLE b 0 1, fieldLE b 1 1, BitVec.ofNat 32 (fieldLE b 4 4)⟩

/-- Chunk flag bits. -/
def cfEmpty : Nat := 0
def cfDiscard : Nat := 1
def cfReined : Nat := 2
def cfMismatch : Nat := 3
def cfRedo : Nat := 4
def cfWide : Nat := 5

/-- Set a flag bit. -/
def orBit (v i : Nat) (b : Bool) : Nat := if b && !testBit v i then v + 2 ^ i else v
def clearBit (v i : Nat) : Nat := if testBit v i then v - 2 ^ i else v

/-- Bytes of one element of a wire format. -/
def wireBytes (w : Nat) : Nat := if w = 1 then 2 else if w = 0 then 4 else 1

def wireFmtOf (w : Nat) : Fmt := if w = 1 then .bf16 else if w = 3 then .e5m2 else .e4m3

/-- Elements of a body after the 24-byte header and the 32 block headers. -/
def bodyElems (w : Nat) (b : List Byte) : List Nat :=
  (List.range 4096).map (fun i => fieldLE b (280 + wireBytes w * i) (wireBytes w))

def bodyBlks (b : List Byte) : List BlkHdr := (List.range 32).map (fun i => BlkHdr.ofBytes (b.drop (24 + 8 * i)))

/-- A RING packet from this device along a route to a position: VC1 when direct, VC5 when relayed (R255, R269). -/
def State.ringSend (s : State) (g : Group) (route dest : Nat) (body : List Byte) : State :=
  s.sendRoute route (s.mkPacket g.job 0x10 (g.node dest) body) none

/-- A marker's body. -/
def markerBody (grp phase scope chunk bseq epoch : Nat) : List Byte := (RingHdr.mk grp phase scope chunk bseq epoch 0 0 0).toBytes

/-! ### The arithmetic of a hop (R68, R271) -/

/-- A sum under way: its FP32 word, and whether a sum of finite operands rounded to infinity. -/
abbrev Acc := Word32 × Bool

/-- dec: a wire element to FP32 (R68); BF16 exactly. -/
def wireDec (h : Bool) (wire scale bits : Nat) : Word32 :=
  if wire = 1 then fp32 h ((Fmt.bf16.decode bits).flush h .bf16)
  else fp32 h ((((wireFmtOf wire).decode bits).flush h (wireFmtOf wire)).mul (pow2 ((scale : Int) - 127)))

/-- rne_fp32 of a received value and the member's own. -/
def hopAdd (h : Bool) (a v : Word32) : Acc :=
  let x := add32 h a v
  (x, isInf32 x && !nonfinite32 a.toNat && !nonfinite32 v.toNat)

/-- enc: bits, overflow, non-finite.  BF16 carries an infinity and never overflows (R278). -/
def wireEnc (h : Bool) (wire scale : Nat) (x : Acc) : Nat × Bool × Bool :=
  if wire = 1 then
    let b := (Fmt.bf16.convert .rne (val32 h x.1)).bits
    let b := if h && (Fmt.bf16.decode b).subnormalIn .bf16 then (if (Fmt.bf16.decode b).sign then 0x8000 else 0) else b
    (b, false, b / 128 % 256 == 255)
  else
    let f := wireFmtOf wire
    if x.2 then (f.overflowBits (val32 h x.1).sign, true, false)
    else
      let c := f.convert .rne ((val32 h x.1).mul (pow2 (127 - (scale : Int))))
      let b := if h && (f.decode c.bits).subnormalIn f then (if (f.decode c.bits).sign then 0x80 else 0) else c.bits
      (b, c.sat, c.nonfin)

/-- Encode a block: bits, and the block flags with overflow and nonfinite added. -/
def encBlock (h : Bool) (wire scale : Nat) (xs : List Acc) (bflags : Nat) : List Nat × Nat :=
  let r := xs.map (wireEnc h wire scale)
  (r.map Prod.fst, orBit (orBit bflags 0 (r.any (fun e => e.2.1))) 1 (r.any (fun e => e.2.2)))

/-- A chunk under way. -/
structure RChunk where
  wire : Nat
  flags : Nat
  voids : Nat
  hops : Nat
  blks : List BlkHdr
  xs : List Acc
deriving DecidableEq, Repr

/-- Block i of a chunk's sums. -/
def RChunk.blk (c : RChunk) (i : Nat) : List Acc := (c.xs.drop (128 * i)).take 128

/-- Encode a chunk's sums by its block scales: its element bits, and the chunk with the flags the encoding set. -/
def RChunk.enc (c : RChunk) (h : Bool) : List Nat × RChunk :=
  let r := (c.blks.zipIdx).map (fun e => (encBlock h c.wire e.1.scale (c.blk e.2) e.1.bflags, e.1))
  (r.flatMap (fun e => e.1.1), { c with blks := r.map (fun e => { e.2 with bflags := e.1.2 }) })

/-- Largest qw a wire format carries (R276). -/
def wireQ (fmt : Nat) : Nat := if fmt = 3 then 57344 else 448
def wireSmax (fmt : Nat) : Nat := if fmt = 3 then 238 else 245

/-- Final block headers: final_max over the finite final sums before any encoding, and coarse (R271, R279). -/
def RChunk.final (c : RChunk) (h : Bool) : RChunk :=
  { c with blks := (c.blks.zipIdx).map (fun e =>
      let m := maxMag ((c.blk e.2).map (fun x => val32 h x.1))
      let coarse := decide (c.wire ≠ 1) && decide (0 < m.1) &&
        (Val.fin false m.1 m.2).lt ((Val.ofInt (wireQ c.wire)).mul (pow2 ((e.1.scale : Int) - 133)))
      { e.1 with max := fp32 h (.fin false m.1 m.2), bflags := orBit e.1.bflags 2 coarse }) }

/-- The body of a chunk packet. -/
def chunkBody (h : RingHdr) (blks : List BlkHdr) (elems : List Nat) : List Byte :=
  h.toBytes ++ blks.flatMap BlkHdr.toBytes ++ elems.flatMap (fun b => toLE (wireBytes h.wire) b)

/-- The member's own contribution to chunk c. -/
def State.contribution (s : State) (b : RingBucket) (c : Nat) : List Word32 :=
  (List.range 4096).map (fun i => BitVec.ofNat 32 (s.word (b.addr + 16384 * c + 4 * i) 4))

/-! ### Buckets -/

def RingBucket.chunks (b : RingBucket) : Nat := b.bytes / 16384
def RingBucket.wire (b : RingBucket) : Nat := if b.bf16 then 1 else b.wireFmt

def State.bLive (s : State) (g : Group) (b : RingBucket) : List Nat := s.live g b.step b.bseq

/-- The leader: the first live position (R268). -/
def leaderOf (l : List Nat) : Nat := l.foldl min (l.headD 0)

/-- The taker of a chunk whose owner's twin it is keeps a shadow of it (R293). -/
def State.shadowTaker (s : State) (g : Group) (b : RingBucket) (l : List Nat) (c : Nat) : Option (Nat × Int) :=
  let o := g.owner c
  let t := g.taker o
  if b.kind = 0 ∧ s.flag (Fld.snapCfg_shadow g.part) ∧ l.contains o ∧ t ≠ 0xFFFF ∧ l.contains t ∧ g.node t = (g.node o ^^^ 1) then
    some (t, g.takeDelta o) else none

/-- Address at which this member keeps chunk c of a REDUCE_SCATTER; none where it keeps none. -/
def State.keepAddr (s : State) (g : Group) (b : RingBucket) (l : List Nat) (c : Nat) : Option Nat :=
  let at_ := fun (d : Int) => ((b.result : Int) + d + ((16384 * (c / max 1 g.n) : Nat) : Int)).toNat
  match g.keeper l c with
  | some (k, d) =>
    if k = g.self then some (at_ d)
    else match s.shadowTaker g b l c with | some (t, d) => if t = g.self then some (at_ d) else none | none => none
  | none => none

/-- Chunks whose results this member writes. -/
def State.needed (s : State) (g : Group) (b : RingBucket) (l : List Nat) : List Nat :=
  (List.range b.chunks).filter (fun c =>
    if b.kind = 0 then (s.keepAddr g b l c).isSome else if b.kind = 1 then (g.keeper l c).isSome else true)

/-- Refresh RED_SLOT_j of a job (R254, R272). -/
def State.slotUpdate (s : State) (job : Nat) : State :=
  match s.memberSlot job with
  | none => s
  | some j =>
    let act := s.red.buckets.filterMap (fun e =>
      match e.2, s.grp e.1 with | some b, some g => if g.job = job then some (g, b) else none | _, _ => none)
    match act.foldl (fun (m : Option (Group × RingBucket)) e =>
        match m with | some x => if x.2.admitNo < e.2.admitNo then some e else some x | none => some e) none with
    | none => s.put (Fld.redSlot_active j) 0
    | some (g, b) =>
      let l := s.bLive g b
      let t := (((s.put (Fld.redSlot_groups j) (act.length - 1)).put (Fld.redSlot_active j) 1).put (Fld.redSlot_phase j) b.phase).putB
        (Fld.redSlot_suspended j) b.suspended
      (((t.put (Fld.redSlot_epoch j) b.epoch).put (Fld.redSlot_live j) (l.length - 1)).put (Fld.redSlot_leader j) (leaderOf l)).put
        (Fld.redSlot_bseq_low j) b.bseq

/-- Whether the partition is reined in the present tick (R282, R331). -/
def State.reined (s : State) (p : Nat) : Bool := testBit (s.f Fld.reinStatus_reined) p

/-- The item's completion record carries reined once it sends or receives such a chunk (R282). -/
def State.noteReined (s : State) (b : RingBucket) (flags : Nat) : State :=
  if testBit flags cfReined then s.orFlags b.slot 6 else s

/-- An event of the ring with its group number. -/
def State.redEvent (s : State) (g : Group) (code grp : Nat) (rest : List Byte) : State :=
  s.event code (some g.part) (s.partCantle g.part) 0 (toLE 2 grp ++ rest)

/-- Write a chunk that came from a port or goes into a result: port data written into HBM (R145). -/
def State.storeChunk (s : State) (a : Nat) (bs : List Byte) : State := (s.store a bs).countRemote a bs.length

/-- Write FP32 words at an address. -/
def State.storeWords (s : State) (a : Nat) (ws : List Word32) : State := s.storeChunk a (ws.flatMap (fun w => toLE 4 w.toNat))

/-- A COLLECTIVE ends: its detail is the number of members in the ring then (R40, R284). -/
def State.endCollective (s : State) (slot result members : Nat) : State :=
  match s.op slot with
  | some o => if o.done.isSome then s else s.setOp slot (some { o with done := some result, detail := members })
  | none => s

/-- Where this member's results lie: its kept chunks, or the whole bucket (R266). -/
def State.resultRuns (s : State) (g : Group) (b : RingBucket) : List (Nat × Nat) :=
  if b.kind = 0 then ((List.range b.chunks).filterMap (s.keepAddr g b (s.bLive g b))).map (fun a => (a, 16384)) else [(b.result, b.bytes)]

/-! ### Completion of a bucket (R268, R276, R278) -/

/-- The next table's code for a block (R276). -/
def nextScale (fmt headroom : Nat) (bf16 : Bool) (old : Nat) (fmax : Word32) : Nat :=
  match Fmt.fp32.decode fmax.toNat with
  | .fin _ n d =>
    if n = 0 then (if bf16 then 127 else old)
    else
      let e : Int := 127 + ceilLog2 (n * 2 ^ headroom) (d * wireQ fmt)
      (min (max e 0) (wireSmax fmt : Int)).toNat
  | _ => if bf16 then 127 else old

/-- The next scale table. -/
def RingBucket.nextTable (b : RingBucket) : List Byte :=
  let blk := b.headers.foldl (fun (m : List (Nat × List BlkHdr)) h => (h.chunk, h.blks) :: m) []
  let code := fun (i : Nat) =>
    match blk.find? (fun e => e.1 == i / 32) with
    | some e => nextScale b.wireFmt b.headroom b.bf16 (b.scales.getD i 127) ((e.2.getD (i % 32) ⟨127, 0, 0⟩).max)
    | none => 127
  toLE 2 1 ++ toLE 1 (if b.bf16 then 7 else 3) ++ toLE 1 b.wireFmt ++ toLE 1 b.headroom ++ toLE 3 0 ++ toLE 8 (b.step + 1) ++
  toLE 4 (b.bytes / 512) ++ toLE 4 0 ++ toLE 8 b.divAddr ++ toLE 8 b.nextAddr ++ toLE 24 0 ++
  (List.range (b.bytes / 512)).map (fun i => BitVec.ofNat 8 (code i))

/-- A write at an address a table names: only into HBM of the partition; otherwise nothing is written, with an event. -/
def State.tableWrite (s : State) (p a : Nat) (bs : List Byte) : State :=
  if s.ownsRange p a bs.length then s.store a bs else s.generic Blk.red (some p) a bs.length Res.addrForeign

/-- Members that voided the bucket. -/
def RingBucket.voidCount (b : RingBucket) : Nat := (b.headers.map FinalHdr.voids).foldl max 0

/-- COLLECTIVEs of this member that were aborted before they issued keep their places in the bucket order: each is
reported, in turn, as a loss of this member for that bucket (R34, R267, R283).  Fuel is the number of such places. -/
def State.skipAborted : Nat → State → Nat → State
  | 0, s, _ => s
  | k + 1, s, gid =>
    match s.grp gid with
    | none => s
    | some g =>
      if (s.bucket gid).isSome ∨ g.bucketLost.contains (g.self, g.nextBseq) = false then s
      else
        let l := (List.range g.n).filter (fun p => !g.jobLost.contains p && !g.bucketLost.contains (p, g.nextBseq))
        let q := match l.find? (fun p => decide (g.self < p)) with | some q => some q | none => l.head?
        let t := match q.bind g.legNext, q with
          | some r, some q => s.ringSend g r q (markerBody gid 5 0 g.self g.nextBseq 0)
          | _, _ => s
        State.skipAborted k (t.setGrp gid (some { g with nextBseq := g.nextBseq + 1 })) gid

/-- What a member does on RETIRE (R268): the divisor, the next scale table, and the item's retirement with OK; losses
reported too late for this bucket apply from the next (R284). -/
def State.retireBucket (s : State) (gid : Nat) (g : Group) (b : RingBucket) : State :=
  let l := s.bLive g b
  let s := if b.kind = 1 then s else
    (s.tableWrite g.part b.divAddr (toLE 4 (l.length - b.voidCount))).tableWrite g.part b.nextAddr b.nextTable
  let s := if b.kind ≠ 1 ∧ 0 < b.voidCount then s.mapBook g.part b.step (fun k => { k with voids := k.voids + 1 }) else s
  let s := (if b.kind = 1 then s else s.storeFree b.addr b.bytes)
  let g' : Group := { g with
    jobLost := g.jobLost ++ (b.reports.filter (fun r => r.2 == 2)).map Prod.fst
    stepLost := g.stepLost ++ (b.reports.filter (fun r => r.2 == 1)).map (fun r => (r.1, b.step))
    onSpare := g.onSpare && !g.restoreAsked
    restoreAsked := false }
  ((((s.setBucket gid none).setGrp gid (some g')).endCollective b.slot Res.ok l.length).slotUpdate g.job).skipAborted
    g.bucketLost.length gid

/-- Send on the leg to the next live member; the group fails where it has no route (the caller's part). -/
def State.legSend (s : State) (g : Group) (l : List Nat) (body : List Byte) : State :=
  let q := ringNext l g.self
  match g.legNext q with
  | some r => s.ringSend g r q body
  | none => s

/-- Send to the previous live member. -/
def State.backSend (s : State) (g : Group) (l : List Nat) (body : List Byte) : State :=
  let q := ringPrev l g.self
  match g.legPrev q with
  | some r => s.ringSend g r q body
  | none => s

/-- A single live member is its own upstream and downstream. -/
def alone (l : List Nat) : Bool := decide (l.length ≤ 1)

/-- All results are written and no redo is owed. -/
def State.bucketDone (s : State) (g : Group) (b : RingBucket) : Bool :=
  let l := s.bLive g b
  (b.kind == 1 || decide (b.chunks ≤ b.headers.length)) && (s.needed g b l).all (fun c => b.written.contains c)

/-- Send FIN where it is due (R268): the leader once its results are written, any other once FIN has also come from
upstream.  A member alone retires at once. -/
def State.fin (s : State) (gid : Nat) : State :=
  match s.grp gid, s.bucket gid with
  | some g, some b =>
    let l := s.bLive g b
    if b.suspended ∨ b.finSent ∨ s.bucketDone g b = false then s
    else if alone l then s.retireBucket gid g b
    else if leaderOf l = g.self ∨ b.finUp then
      ((s.setBucket gid (some { b with finSent := true, phase := 7 })).legSend g l (markerBody gid 7 0 0 b.bseq b.epoch)).slotUpdate g.job
    else s
  | _, _ => s

/-- Start the bucket's work over in the present epoch: nothing staged, started, gathered or written. -/
def RingBucket.over (b : RingBucket) : RingBucket :=
  { b with staged := [], started := [], headers := [], written := [], boardSums := [], boardHdrs := [] }

/-- With the final headers of every chunk held: discard, the redo of R278, or the counts of R279 and then FIN. -/
def State.headersHeld (s : State) (gid : Nat) : State :=
  match s.grp gid, s.bucket gid with
  | some g, some b =>
    if b.kind = 1 ∨ b.headers.length < b.chunks then s.fin gid
    else
      let p := g.part
      let s := if b.headers.any (fun h => testBit h.flags cfDiscard) ∧ s.red.discarded.contains (p, b.step) = false then
          let u : State := { s with red := { s.red with discarded := s.red.discarded ++ [(p, b.step)] } }
          ((u.put (Fld.redEvent_discard p) 1).redEvent g 0x0904 gid (toLE 6 0 ++ toLE 8 b.step)).mapBook p b.step (fun k => { k with discarded := true })
        else s
      let bad := (b.headers.map (fun h => (h.blks.filter (fun k => testBit k.bflags 0)).length)).foldl (· + ·) 0
      let mism := b.headers.any (fun h => testBit h.flags cfMismatch)
      if b.redo = false ∧ (0 < bad ∨ mism) then
        let t := s.setBucket gid (some { b.over with redo := true, bf16 := true, phase := 0 })
        (((t.put (Fld.redEvent_redo p) 1).bumpSat (Fld.redCount_redos p) 1).orFlags b.slot 3).redEvent g 0x0901 gid
          (toLE 2 0 ++ toLE 4 b.bseq ++ toLE 4 bad)
      else
        let coarse := (b.headers.map (fun h => (h.blks.filter (fun k => testBit k.bflags 2)).length)).foldl (· + ·) 0
        let t := if 0 < coarse ∧ b.coarseTold = false then
            (((((s.setBucket gid (some { b with coarseTold := true })).put (Fld.redEvent_coarse p) 1).bumpSat (Fld.redCount_coarse p) coarse).orFlags
              b.slot 5).redEvent g 0x0902 gid (toLE 2 0 ++ toLE 4 b.bseq ++ toLE 4 coarse))
          else s
        t.fin gid
  | _, _ => s

/-- Keep a chunk's final headers. -/
def State.addHeader (s : State) (gid : Nat) (h : FinalHdr) : State :=
  match s.bucket gid with
  | some b =>
    if b.headers.any (fun e => e.chunk == h.chunk) then s
    else s.setBucket gid (some { b with headers := b.headers ++ [h] })
  | none => s

/-- A result written. -/
def State.addWritten (s : State) (gid c : Nat) : State :=
  match s.bucket gid with
  | some b => if b.written.contains c then s else s.setBucket gid (some { b with written := b.written ++ [c] })
  | none => s

/-- Tell that an element became non-finite on the wire here (R271). -/
def State.tellNonfinite (s : State) (gid : Nat) (g : Group) (b : RingBucket) (c : Nat) (before after : List BlkHdr) : State :=
  if (after.any (fun k => testBit k.bflags 1)) ∧ (before.any (fun k => testBit k.bflags 1)) = false then
    (s.put (Fld.redEvent_nonfinite g.part) 1).redEvent g 0x0905 gid (toLE 2 0 ++ toLE 4 b.bseq ++ toLE 4 c)
  else s

/-- A port's adder has had a chunk: 24 pipeline and 16 element cycles (R273). -/
def State.adderRan (s : State) (n : Nat) : State := (s.bump (Fld.redAdderChunks_chunks n) 1).bump (Fld.redAdderBusy_busy n) 40

/-! ### Completing a chunk at its final member (R265, R266, R293) -/

/-- Send a final chunk's FP32 words to another member: the next or the previous live member by its leg, any other along the
leg with its own node as the destination, which relays forward by their pairs; the twin by TW or twin_relay. -/
def State.deliverTo (s : State) (g : Group) (l : List Nat) (q : Nat) (body : List Byte) : State :=
  if g.node q = s.twinNode then s.sendBoard (s.position ^^^ 1) (s.mkPacket g.job 0x10 (g.node q) body) none
  else if q = ringNext l g.self then s.legSend g l body
  else if q = ringPrev l g.self then s.backSend g l body
  else
    match g.legNext (ringNext l g.self) with
    | some r => s.enqueue (routePort r) 5 (s.mkPacket g.job 0x10 (g.node q) body) none
    | none => s

def State.finishChunk (s : State) (gid : Nat) (g : Group) (b : RingBucket) (c : Nat) (x : RChunk) : State :=
  let h := s.heritage g.part
  let l := s.bLive g b
  let x := x.final h
  let words := x.xs.map Prod.fst
  if b.kind = 0 then
    let s := s.addHeader gid ⟨c, x.flags, x.voids, x.blks⟩
    let hd : RingHdr := ⟨gid, 2, x.wire, c, b.bseq, b.epoch, x.flags, x.voids, x.hops⟩
    let s := if alone l then s else s.legSend g l (hd.toBytes ++ x.blks.flatMap BlkHdr.toBytes)
    let full := chunkBody { hd with phase := 3, wire := 0 } (x.blks.map (fun k => { k with scale := 0x7F })) (words.map BitVec.toNat)
    let s := match g.keeper l c with
      | none => s.redEvent g Blk.red gid (toLE 2 0 ++ toLE 4 b.bseq ++ toLE 4 c)
      | some (k, _) =>
        let s := if k = g.self then
            match s.keepAddr g b l c with | some a => (s.storeWords a words).addWritten gid c | none => s
          else s.deliverTo g l k full
        if k = g.owner c ∧ k = g.self then
          match s.shadowTaker g b l c with | some (t, _) => s.deliverTo g l t full | none => s
        else s
    s.headersHeld gid
  else
    let e := x.enc h
    let s := s.tellNonfinite gid g b c x.blks e.2.blks
    let x := e.2
    let decd := (x.blks.zipIdx).flatMap (fun k => ((e.1.drop (128 * k.2)).take 128).map (wireDec h x.wire k.1.scale))
    let s := ((s.addHeader gid ⟨c, x.flags, x.voids, x.blks⟩).storeWords (b.result + 16384 * c) decd).addWritten gid c
    let flags := orBit x.flags cfReined (s.reined g.part)
    let hd : RingHdr := ⟨gid, 1, x.wire, c, b.bseq, b.epoch, flags, x.voids, x.hops⟩
    let s := if alone l then s else (s.legSend g l (chunkBody hd x.blks e.1)).noteReined b flags
    s.headersHeld gid

/-! ### One hop -/

/-- Scales this member starts chunk c with: the agreed ones, or 0x7F on BF16. -/
def RingBucket.startBlks (b : RingBucket) (c : Nat) : List BlkHdr :=
  (List.range 32).map (fun i => ⟨if b.bf16 then 0x7F else b.scales.getD (32 * c + i) 0x7F, 0, 0#32⟩)

/-- Send a chunk under way to a member, encoded; non-finite elements are told (R271). -/
def State.passOn (s : State) (gid : Nat) (g : Group) (b : RingBucket) (l : List Nat) (c q : Nat) (x : RChunk) : State :=
  let h := s.heritage g.part
  let e := x.enc h
  let x' := e.2
  let s := s.tellNonfinite gid g b c x.blks x'.blks
  let flags := orBit x'.flags cfReined (s.reined g.part)
  let body := chunkBody ⟨gid, 0, x'.wire, c, b.bseq, b.epoch, flags, x'.voids, x'.hops⟩ x'.blks e.1
  let s := s.noteReined b flags
  if q = ringNext l g.self then s.legSend g l body
  else
    match g.legNext (ringNext l g.self) with
    | some r => s.enqueue (routePort r) (if g.node q = (s.farNode (routePort r)).getD 0 then 1 else 5) (s.mkPacket g.job 0x10 (g.node q) body) none
    | none => s

/-- What becomes of a chunk this member has added to: on to the next member of its stage, or into the second stage, or
final. -/
def State.onward (s : State) (gid : Nat) (g : Group) (b : RingBucket) (c : Nat) (second : Bool) (x : RChunk) : State :=
  let l := s.bLive g b
  let pth := chunkPath l g.n g.self (s.heritage g.part) c
  if second then
    match pth.2 with
    | some hs => if hs.getLast? = some g.self then s.finishChunk gid g b c x else s.passOn gid g b l c (ringNext hs g.self) x
    | none => s
  else if pth.1.getLast? ≠ some g.self then s.passOn gid g b l c (ringNext pth.1 g.self) x
  else
    match pth.2 with
    | none => s.finishChunk gid g b c x
    | some hs =>
      if hs.length ≤ 1 then s.finishChunk gid g b c x
      else if hs.head? = some g.self then s.passOn gid g b l c (ringNext hs g.self) x
      else s.setBucket gid (some { b with boardSums := b.boardSums ++ [(c, x.hops, x.xs)],
                                          boardHdrs := b.boardHdrs ++ [⟨c, x.flags, x.voids, x.blks⟩] })

/-- A chunk this member starts (R271, R281): its own contribution, or zeros marked empty when it is tainted. -/
def State.startChunk (s : State) (gid : Nat) (g : Group) (b : RingBucket) (c : Nat) : State :=
  let discard := b.tainted && bits (s.numpol g.part) 1 2 == 1
  let flags := orBit (orBit (orBit (orBit 0 cfEmpty b.tainted) cfDiscard discard) cfRedo b.redo) cfWide b.wide
  let xs : List Acc := if b.tainted then List.replicate 4096 (0#32, false) else (s.contribution b c).map (fun v => (fp32 (s.heritage g.part) (val32 (s.heritage g.part) v), false))
  let b' : RingBucket := { b with staged := b.staged.filter (fun k => k != c), started := b.started ++ [c] }
  let s := match g.legNext (ringNext (s.bLive g b) g.self) with | some r => s.adderRan (routePort r) | none => s
  (s.setBucket gid (some b')).onward gid g b' c false ⟨b.wire, flags, if b.tainted then 1 else 0, 1, b.startBlks c, xs⟩

/-- Raw chunks an ALL_GATHER sends from this member: it also writes them into its own result. -/
def State.startRaw (s : State) (gid : Nat) (g : Group) (b : RingBucket) (c : Nat) (d : Int) : State :=
  let l := s.bLive g b
  let a := ((b.addr : Int) + d + ((16384 * (c / max 1 g.n) : Nat) : Int)).toNat
  let data := s.bytes a 16384
  let flags := orBit 0 cfReined (s.reined g.part)
  let s := s.setBucket gid (some { b with started := b.started ++ [c] })
  let s := (((s.countRemote a 16384).storeChunk (b.result + 16384 * c) data).addWritten gid c).noteReined b flags
  if alone l then s
  else s.legSend g l ((RingHdr.mk gid 1 0xFF c b.bseq b.epoch flags 0 0).toBytes ++ data)

/-- Start every chunk that may go now: downstream's ENTRY has arrived (R267), and its contribution is staged. -/
def State.startAll (s : State) (gid : Nat) : State :=
  match s.grp gid, s.bucket gid with
  | some g, some b =>
    if b.suspended ∨ b.downEntry = false then s
    else
      let l := s.bLive g b
      let h := s.heritage g.part
      let mine := (List.range b.chunks).filter (fun c => !b.started.contains c &&
        (if b.kind = 1 then (match g.keeper l c with | some (k, _) => k == g.self | none => false)
         else (chunkPath l g.n g.self h c).1.head? == some g.self && (b.tainted || b.staged.contains c)))
      let t := mine.foldl (fun t c =>
        match t.bucket gid with
        | some b' =>
          if b'.redo ≠ b.redo then t
          else if b.kind = 1 then (match g.keeper l c with | some (_, d) => t.startRaw gid g b' c d | none => t) else t.startChunk gid g b' c
        | none => t) s
      t.fin gid
  | _, _ => s

end Sys2Proof.Machine
end

