-- ==== Sys2Proof/Machine/Ring.lean ====
section
/-!
DEFINITION. The commands of the reduction ring (chapter 11): issue of a COLLECTIVE, the adders, the chunks and markers that
arrive, losses, restarts and the legs.
-/
namespace Sys2Proof.Machine

/-! ### Losses and restarts (R283 to R285) -/

/-- The group cannot go on (R285): its active COLLECTIVE fails, FATAL goes back, later COLLECTIVEs are refused. -/
def State.ringFatal (s : State) (gid : Nat) : State :=
  match s.grp gid with
  | none => s
  | some g =>
    if g.fatal then s
    else
      let l := match s.bucket gid with | some b => s.bLive g b | none => s.live g (s.rd (Reg.stepN g.part)) g.nextBseq
      let bs := match s.bucket gid with | some b => (b.bseq, b.epoch) | none => (g.nextBseq, 0)
      let t := match s.bucket gid with | some b => (s.setBucket gid none).endCollective b.slot Res.hwFault l.length | none => s
      let t := (t.setGrp gid (some { g with fatal := true })).slotUpdate g.job
      let t := (t.put (Fld.redEvent_fatal g.part) 1).redEvent g 0x090A gid []
      t.backSend g l (markerBody gid 9 0 0xFFFFFFFF bs.1 bs.2)

/-- The step a loss of scope STEP is for, where the member has no bucket under way: that of its oldest waiting COLLECTIVE of
the group, else the open step. -/
def State.ringStep (s : State) (gid : Nat) (g : Group) : Nat :=
  match s.bucket gid with
  | some b => b.step
  | none =>
    match (s.inFlight.filter (fun e => e.2.opcode == 4 && e.2.b 0x22 2 == gid && e.2.done.isNone)).foldl (fun (m : Option Op) e =>
        match m with | some x => if e.2.admitNo < x.admitNo then some e.2 else some x | none => some e.2) none with
    | some o => o.stamp
    | none => s.rd (Reg.stepN g.part)

/-- Apply a loss (R283): the position is out for its scope, with its events. -/
def State.applyLoss (s : State) (gid pos scope step bseq : Nat) : State :=
  match s.grp gid with
  | none => s
  | some g =>
    if pos = 0xFFFFFFFF ∨ scope = 3 then s
    else
      let g' : Group :=
        if scope = 0 then { g with bucketLost := (pos, bseq) :: g.bucketLost.filter (fun e => decide (bseq ≤ e.2)) }
        else if scope = 1 then { g with stepLost := (pos, step) :: g.stepLost.filter (fun e => decide (step ≤ e.2)) }
        else { g with jobLost := if g.jobLost.contains pos then g.jobLost else g.jobLost ++ [pos] }
      (s.setGrp gid (some g')).redEvent g 0x0909 gid (toLE 2 pos ++ toLE 1 scope)

/-- Whether this bucket runs BF16 from the start: forced by the item or wide (R275). -/
def State.startsBf16 (s : State) (b : RingBucket) : Bool :=
  b.wide || (match s.op b.slot with | some o => o.b 0x25 1 == 1 | none => false)

/-- A member's restart (R284): partial state gone, the new epoch, its own ENTRY sent, and what may start started. -/
def State.restart (s : State) (gid pos scope epoch : Nat) : State :=
  match s.bucket gid with
  | none => s
  | some b =>
    let s := s.applyLoss gid pos scope b.step b.bseq
    match s.grp gid with
    | none => s
    | some g =>
      let l := s.bLive g b
      let early := g.earlyEntry.contains (b.bseq, epoch)
      let b' : RingBucket := { b.over with epoch := epoch, phase := 0, bf16 := s.startsBf16 b, redo := false, downEntry := early || alone l, waitSince := s.now,
                                           finUp := false, finSent := false, retireSent := false, suspended := false,
                                           reports := b.reports.filter (fun r => r.1 != pos) }
      let t := s.setBucket gid (some b')
      let t := (t.put (Fld.redEvent_restart g.part) 1).bumpSat (Fld.redCount_restarts g.part) 1
      let t := t.redEvent g 0x0908 gid (toLE 2 (if pos = 0xFFFFFFFF then 0xFFFF else pos) ++ toLE 4 b.bseq ++ toLE 1 epoch)
      let t := if alone l then t else t.backSend g l (markerBody gid 4 0 0 b.bseq epoch)
      (t.slotUpdate g.job).startAll gid

/-- A report at this member (R284): the bucket is suspended and the report goes forward; the leader answers it by a RESTART,
unless its RETIRE is already sent.  pos is 0xFFFFFFFF for no position. -/
def State.report (s : State) (gid pos scope : Nat) : State :=
  match s.grp gid with
  | none => s
  | some g =>
    if g.fatal then s
    else
      let step := s.ringStep gid g
      let bseq := match s.bucket gid with | some b => b.bseq | none => g.nextBseq
      let epoch := match s.bucket gid with | some b => b.epoch | none => 0
      let l := s.live g step bseq
      let l' := l.filter (fun p => p != pos)
      let old := g.jobLost.contains pos
      let lead := leaderOf l' == g.self
      let fwd := fun (t : State) =>
        if alone l' then t
        else if (g.legNext (ringNext l' g.self)).isNone then t.ringFatal gid
        else t.legSend g l' (markerBody gid 5 scope pos bseq epoch)
      match s.bucket gid with
      | none => if old then (if lead then s else fwd s) else
          let t := s.applyLoss gid pos scope step bseq
          if lead then t else fwd t
      | some b =>
        if old then (if lead then s else fwd s)
        else
          let t := s.setBucket gid (some { b with suspended := true, reports := if b.reports.contains (pos, scope) then b.reports else b.reports ++ [(pos, scope)] })
          let t := t.slotUpdate g.job
          let t := if l.contains pos ∧ ringPrev l g.self = pos ∧ alone l' = false then t.backSend g l' (markerBody gid 4 0 0 bseq epoch) else t
          if lead then
            if b.retireSent then t
            else if alone l' = false ∧ (g.legNext (ringNext l' g.self)).isNone then t.ringFatal gid
            else
              let e := (b.epoch + 1) % 256
              let t := if alone l' then t else t.legSend g l' (markerBody gid 6 scope pos b.bseq e)
              t.restart gid pos scope e
          else fwd t

/-- This member was dropped as a straggler for a step (R282, R297). -/
def State.dropSelf (s : State) (gid step : Nat) : State :=
  match s.grp gid with
  | none => s
  | some g =>
    let t := s.setGrp gid (some { g with stepLost := (g.self, step) :: g.stepLost, waitHandback := true })
    let t := match t.bucket gid with
      | some b => if b.step = step then (t.setBucket gid none).endCollective b.slot Res.straggler ((s.bLive g b).filter (fun p => p != g.self)).length else t
      | none => t
    ((t.put (Fld.redEvent_straggler g.part) 1).redEvent g 0x0907 gid (toLE 2 g.self ++ toLE 4 0 ++ toLE 8 step)).slotUpdate g.job

/-- The abort of a member's active COLLECTIVE (R34, R283): lost to itself for the bucket; its results are undefined. -/
def State.ringAbort (s : State) (slot : Nat) : State :=
  match s.red.buckets.find? (fun e => match e.2 with | some b => b.slot == slot | none => false) with
  | some (gid, some b) =>
    match s.grp gid with
    | none => s
    | some g =>
      let l' := (s.bLive g b).filter (fun p => p != g.self)
      let t := s.applyLoss gid g.self 0 b.step b.bseq
      let t := if l'.isEmpty then t
        else
          match l'.find? (fun p => decide (g.self < p)), l'.head? with
          | some q, _ => (match g.legNext q with | some r => t.ringSend g r q (markerBody gid 5 0 g.self b.bseq b.epoch) | none => t.ringFatal gid)
          | none, some q => (match g.legNext q with | some r => t.ringSend g r q (markerBody gid 5 0 g.self b.bseq b.epoch) | none => t.ringFatal gid)
          | none, none => t
      let t := (s.resultRuns g b).foldl (fun t r => t.storeFree r.1 r.2) t
      let t := match t.op slot with | some o => t.setOp slot (some { o with detail := l'.length }) | none => t
      (t.setBucket gid none).slotUpdate g.job
  | _ => s

/-- The abort of a COLLECTIVE that has not issued: its place in the bucket order is lost to this member. -/
def State.ringAbortUnissued (s : State) (admitNo gid : Nat) : State :=
  match s.grp gid with
  | none => s
  | some g =>
    let ahead := (s.inFlight.filter (fun e => e.2.opcode == 4 && e.2.b 0x22 2 == gid && decide (e.2.admitNo < admitNo) && s.opState e.1 < 3)).length
    let free := (List.range (ahead + g.bucketLost.length + 1)).filter (fun k => !g.bucketLost.contains (g.self, g.nextBseq + k))
    let b := g.nextBseq + free.getD ahead 0
    (s.setGrp gid (some { g with bucketLost := (g.self, b) :: g.bucketLost })).skipAborted (g.bucketLost.length + 1) gid

/-! ### Issue of a COLLECTIVE (R267, R274, R275, R280) -/

/-- A valid table (R275). -/
def scaleTableOk (t : List Byte) (step blocks : Nat) : Bool :=
  testBit (fieldLE t 2 1) 0 && fieldLE t 0 2 == 1 && fieldLE t 8 8 == step && fieldLE t 0x10 4 == blocks &&
  (fieldLE t 3 1 == 2 || fieldLE t 3 1 == 3) &&
  ((t.drop 0x40).take blocks).all (fun b => b.toNat != 255 && decide (b.toNat ≤ wireSmax (fieldLE t 3 1)))

/-- The recorded tables, one after the other (R202). -/
def tablesOf : Nat → List Byte → List (List Byte)
  | 0, _ => []
  | k + 1, b =>
    let n := 0x40 + fieldLE b 0x10 4
    if b.length < 0x40 then [] else b.take n :: tablesOf k (b.drop n)

/-- The scale table a COLLECTIVE uses: in replay the recorded one of its blocks and divisor address, and where none was recorded
none is valid (R202, R275); else the one in HBM. -/
def State.scaleTable (s : State) (p a blocks : Nat) : List Byte :=
  let here := s.bytes a (0x40 + blocks)
  match (s.part p).replay with
  | some r => ((tablesOf 4096 r.scaleTable).find? (fun t => fieldLE t 0x10 4 == blocks && fieldLE t 0x18 8 == fieldLE here 0x18 8)).getD (here.set 2 0#8)
  | none => here

/-- The epoch a bucket starts in: that of a RESTART seen before it was issued, else 0. -/
def Group.startEpoch (g : Group) : Nat := match g.epochs.find? (fun e => e.1 == g.nextBseq) with | some e => e.2 | none => 0

/-- A group whose next bucket has been taken (R267). -/
def Group.taken (g : Group) : Group :=
  { g with nextBseq := g.nextBseq + 1, onSpare := g.onSpare && !g.restoreAsked, restoreAsked := false,
           epochs := g.epochs.filter (fun e => decide (g.nextBseq < e.1)), earlyEntry := g.earlyEntry.filter (fun e => decide (g.nextBseq ≤ e.1)) }

/-- The scale table of a COLLECTIVE of a kind; ALL_GATHER uses none. -/
def State.opTable (s : State) (o : Op) (kind : Nat) : List Byte :=
  if kind = 1 then [] else s.scaleTable (s.opPart o) (o.b 0x38 8) (o.b 0x30 8 / 512)

/-- The bucket of a COLLECTIVE that issues on a group (R267, R274, R275, R280). -/
def State.newBucket (s : State) (slot kind : Nat) (o : Op) (g : Group) : RingBucket :=
  let p := s.opPart o
  let bytes := o.b 0x30 8
  let tb := s.opTable o kind
  let wide := kind != 1 && o.b 0x25 1 == 0 && !scaleTableOk tb o.stamp (bytes / 512)
  { slot := slot, admitNo := o.admitNo, step := o.stamp, kind := kind, addr := o.b 0x28 8, bytes := bytes, table := o.b 0x38 8,
    result := o.b 0x40 8, bseq := g.nextBseq, epoch := g.startEpoch, phase := if kind = 1 then 1 else 0, bf16 := wide || o.b 0x25 1 == 1,
    wide := wide, redo := false, wireFmt := fieldLE tb 3 1, scales := ((tb.drop 0x40).map BitVec.toNat), headroom := fieldLE tb 4 1,
    divAddr := fieldLE tb 0x18 8, nextAddr := fieldLE tb 0x20 8,
    tainted := kind != 1 && bits (s.numpol p) 1 2 != 2 && s.tainted p o.stamp (o.b 0x28 8) (o.b 0x28 8 + bytes),
    downEntry := g.earlyEntry.contains (g.nextBseq, g.startEpoch) || alone (s.live g.taken o.stamp g.nextBseq), waitSince := s.now,
    staged := [], started := [], headers := [], written := [], boardSums := [], boardHdrs := [], finUp := false, finSent := false,
    retireSent := false, suspended := false, mismatchTold := false, coarseTold := false, reports := [] }

/-- A bucket enters the ring: its wide start and its void are told, and ENTRY goes to the member before (R267, R275, R280). -/
def State.enterBucket (s : State) (gid : Nat) (o : Op) (g : Group) (b : RingBucket) : State :=
  let p := s.opPart o
  let tb := s.opTable o b.kind
  let t := s.setBucket gid (some b)
  let t := if b.wide then (t.put (Fld.redEvent_wide p) 1).mapBook p o.stamp (fun k => { k with wideFirst := true }) else t
  let t := if scaleTableOk tb o.stamp (b.bytes / 512) then t.mapBook p o.stamp (fun k => { k with scales := k.scales ++ tb }) else t
  let t := if b.tainted then
      ((((t.put (Fld.redEvent_void p) 1).bumpSat (Fld.redCount_voids p) 1).orFlags b.slot 4).redEvent g 0x0903 gid (toLE 2 0 ++ toLE 4 b.bseq)).mapBook
        p o.stamp (fun k => { k with voidSent := true })
    else t
  let l := s.live g o.stamp b.bseq
  if alone l then t else t.backSend g l (markerBody gid 4 0 0 b.bseq b.epoch)

/-- Buckets active in a job's MEMBER slot. -/
def State.slotBuckets (s : State) (job : Nat) : Nat :=
  (s.red.buckets.filter (fun e => e.2.isSome && (match s.grp e.1 with | some g => g.job == job | none => false))).length

/-- A COLLECTIVE of a group waits for the group's bucket and for its COLLECTIVEs admitted before it (R267), and while its job's
slot has four active buckets (R272). -/
def State.ringWaits (s : State) (o : Op) (gid : Nat) : Bool :=
  (s.bucket gid).isSome || (match s.grp gid with | some g => decide (4 ≤ s.slotBuckets g.job) | none => false) || s.inFlight.any (fun e =>
    e.2.opcode == 4 && e.2.b 0x22 2 == gid && decide (e.2.admitNo < o.admitNo) && e.2.done.isNone)

/-- Issue of a COLLECTIVE of a kind. -/
def State.issueCollective (s : State) (slot kind : Nat) : State :=
  match s.issuable slot 4 with
  | none => s
  | some o =>
    let p := s.opPart o
    let gid := o.b 0x22 2
    if o.b 0x24 1 ≠ kind then s
    else
      match s.grp gid with
      | none => (s.issue slot).endCollective slot Res.hwFault 0
      | some g =>
        let n := (g.live o.stamp g.nextBseq).length
        if (match (s.part p).replay with | some r => r.localScope | none => false) then (s.issue slot).endCollective slot Res.ok n
        else if s.ringWaits o gid then s
        else if g.fatal ∨ g.jobLost.contains g.self then (s.issue slot).endCollective slot Res.hwFault n
        else if g.stepLost.contains (g.self, o.stamp) then
          ((s.issue slot).setGrp gid (some { g with nextBseq := g.nextBseq + 1 })).endCollective slot Res.straggler n
        else if g.waitHandback then s
        else
          let t := (s.issue slot).setGrp gid (some g.taken)
          ((t.enterBucket gid o g.taken (t.newBucket slot kind o g)).slotUpdate g.job).startAll gid

def opReduceScatter (slot : Nat) (s : State) : State := s.issueCollective slot 0
def opAllGather (slot : Nat) (s : State) : State := s.issueCollective slot 1
def opAllReduce (slot : Nat) (s : State) : State := s.issueCollective slot 2

/-! ### The adders (R272) -/

/-- The port whose adder adds this member's contribution to chunk c: that of the outgoing leg for a chunk it starts, else
the one the upstream leg arrives on, taken as the port of the route back. -/
def State.adderPort (s : State) (g : Group) (b : RingBucket) (c : Nat) : Option Nat :=
  let l := s.bLive g b
  if (chunkPath l g.n g.self (s.heritage g.part) c).1.head? = some g.self then (g.legNext (ringNext l g.self)).map routePort
  else (g.legPrev (ringPrev l g.self)).map routePort

/-- The buckets under way, with their groups. -/
def State.activeBuckets (s : State) : List (Nat × Group × RingBucket) :=
  s.red.buckets.filterMap (fun e => match e.2, s.grp e.1 with | some b, some g => some (e.1, g, b) | _, _ => none)

/-- Chunks staged in adder n. -/
def State.adderHeld (s : State) (n : Nat) : Nat :=
  (s.activeBuckets.map (fun e => (e.2.2.staged.filter (fun c => s.adderPort e.2.1 e.2.2 c == some n)).length)).foldl (· + ·) 0

/-- The chunk that adder n stages next: group, bucket and chunk (R272). -/
def State.adderPick (s : State) (n : Nat) : Option (Nat × RingBucket × Nat) :=
  if 16 ≤ s.adderHeld n then none else
    s.activeBuckets.findSome? (fun e =>
      if e.2.2.kind = 1 ∨ e.2.2.suspended then none
      else ((List.range e.2.2.chunks).find? (fun c =>
        !e.2.2.staged.contains c && !e.2.2.started.contains c && (s.adderPort e.2.1 e.2.2 c == some n || alone (s.bLive e.2.1 e.2.2)))).map (fun c => (e.1, e.2.2, c)))

/-- ADDER_STAGE: adder n stages the next chunk of the member's contribution, at most 16 of them. -/
def adderStage (n : Nat) (s : State) : State :=
  if s.ringStands then s
  else
    let t : State := match s.adderPick n with
      | some (gid, b, c) => (s.setBucket gid (some { b with staged := b.staged ++ [c] })).countRemote (b.addr + 16384 * c) 16384
      | none => s
    s.activeBuckets.foldl (fun t e => t.startAll e.1) t

/-! ### Arrivals (R270) -/

/-- The RING packets of a port's buffers that are for a member here. -/
def State.ringRx (s : State) (n : Nat) : List (Nat × Packet × RingHdr) :=
  (s.port n).rx.zipIdx.filterMap (fun e =>
    let p := e.1.2.1
    if p.kind = 0x10 ∧ p.dest = s.node ∧ (s.memberSlot p.job).isSome then some (e.2, p, RingHdr.ofBytes p.body) else none)

def RingHdr.marker (h : RingHdr) : Bool := decide (4 ≤ h.phase) && decide (h.phase ≤ 9)

/-- The packet a command of a phase takes: markers of a group in order and ahead of its chunks, chunks in order. -/
def State.ringAt (s : State) (n phase : Nat) : Option (Nat × Packet × RingHdr) :=
  let r := s.ringRx n
  r.find? (fun e => e.2.2.phase == phase &&
    !r.any (fun f => f.2.2.group == e.2.2.group &&
      ((f.2.2.marker == e.2.2.marker && decide (f.1 < e.1)) || (f.2.2.marker && !e.2.2.marker))))

/-- A packet of a group that is not loaded under its job, or has failed, is discarded. -/
def State.groupOf (s : State) (p : Packet) (h : RingHdr) : Option Group :=
  match s.grp h.group with
  | some g => if g.job = p.job ∧ g.fatal = false then some g else none
  | none => none

/-- What to do with a chunk packet: it waits, is stale, or is for the active bucket. -/
inductive ChunkFate where
  | wait | stale | take
deriving DecidableEq, Repr

def State.chunkFate (s : State) (g : Group) (h : RingHdr) : ChunkFate :=
  match s.bucket h.group with
  | some b =>
    if h.bseq = b.bseq then
      (if h.epoch ≠ b.epoch then .stale
       else if b.suspended ∨ (b.kind ≠ 1 ∧ testBit h.flags cfRedo ≠ b.redo) then .wait else .take)
    else if b.bseq < h.bseq then .wait else .stale
  | none => if g.nextBseq ≤ h.bseq then .wait else .stale

/-- A stale chunk is discarded and counted (R270). -/
def State.dropStale (s : State) (n i : Nat) (g : Group) : State := (s.consumeRx n i).bumpSat (Fld.redCount_stale g.part) 1

/-- A RING packet for this device whose job no MEMBER slot holds is discarded (R254). -/
def State.dropForeign (s : State) (n phase : Nat) : State :=
  match s.findRx n (fun p => p.kind == 0x10 && p.dest == s.node && (s.memberSlot p.job).isNone && (RingHdr.ofBytes p.body).phase == phase) with
  | some (i, p) => s.dropPacket n i p (s.dropReason p)
  | none => s

/-- Run a command on the first chunk packet of a phase. -/
def State.onChunk (s : State) (n phase : Nat) (f : Nat → Packet → RingHdr → Group → RingBucket → State) : State :=
  if s.ringStands then s else
  match s.ringAt n phase with
  | none => s.dropForeign n phase
  | some (i, p, h) =>
    match s.groupOf p h with
    | none => s.consumeRx n i
    | some g =>
      match s.chunkFate g h, s.bucket h.group with
      | .stale, _ => s.dropStale n i g
      | .take, some b => f i p h g b
      | _, _ => s

/-- Run a command on the first marker of a phase. -/
def State.onMarker (s : State) (n phase : Nat) (f : State → RingHdr → Group → State) : State :=
  if s.ringStands then s else
  match s.ringAt n phase with
  | none => s.dropForeign n phase
  | some (i, p, h) =>
    match s.groupOf p h with
    | none => s.consumeRx n i
    | some g => f (s.consumeRx n i) h g

/-- ENTRY (R267). -/
def ringEntryMarker (n : Nat) (s : State) : State :=
  s.onMarker n 4 (fun s h g =>
    let early := fun (_ : Unit) => s.setGrp h.group (some { g with earlyEntry := g.earlyEntry ++ [(h.bseq, h.epoch)] })
    match s.bucket h.group with
    | some b =>
      if b.bseq = h.bseq ∧ b.epoch = h.epoch then (s.setBucket h.group (some { b with downEntry := true })).startAll h.group
      else if b.bseq < h.bseq ∨ (b.bseq = h.bseq ∧ b.epoch ≠ h.epoch) then early () else s
    | none => if g.nextBseq ≤ h.bseq then early () else s)

/-- Add this member's contribution, or a board's sum in the second stage of R181, to a received chunk (R271, R277, R281). -/
def State.foldChunk (s : State) (g : Group) (b : RingBucket) (p : Packet) (h : RingHdr) (second : Bool) (mism : Bool) : RChunk :=
  let hm := s.heritage g.part
  let blks := bodyBlks p.body
  let decd := ((bodyElems h.wire p.body).zipIdx).map (fun e => wireDec hm h.wire ((blks.getD (e.2 / 128) ⟨127, 0, 0#32⟩).scale) e.1)
  let recv : List Acc := decd.map (fun x => (x, false))
  let empty := testBit h.flags cfEmpty
  let flags := orBit h.flags cfMismatch mism
  if second then
    match b.boardSums.find? (fun e => e.1 == h.chunk), b.boardHdrs.find? (fun e => e.chunk == h.chunk) with
    | some (_, hops, xs), some fh =>
      let mine := testBit fh.flags cfEmpty
      let flags := orBit (orBit (orBit flags cfDiscard (testBit fh.flags cfDiscard)) cfReined (testBit fh.flags cfReined)) cfMismatch (testBit fh.flags cfMismatch)
      let bl := List.zipWith (fun (x y : BlkHdr) => { x with bflags := x.bflags ||| y.bflags }) blks fh.blks
      let out : List Acc := if mine then recv else if empty then xs else List.zipWith (fun a v => hopAdd hm a v.1) decd xs
      ⟨h.wire, if mine then flags else clearBit flags cfEmpty, h.voids + fh.voids, h.hops + hops, bl, out⟩
    | _, _ => ⟨h.wire, flags, h.voids, h.hops, blks, recv⟩
  else if b.tainted then
    ⟨h.wire, orBit flags cfDiscard (bits (s.numpol g.part) 1 2 == 1), h.voids + 1, h.hops + 1, blks,
     if empty then List.replicate 4096 (0#32, false) else recv⟩
  else
    let v := s.contribution b h.chunk
    let xs : List Acc := if empty then v.map (fun x => (fp32 hm (val32 hm x), false)) else List.zipWith (hopAdd hm) decd v
    ⟨h.wire, clearBit flags cfEmpty, h.voids, h.hops + 1, blks, xs⟩

/-- FOLD (R271): the chunk waits until the member may send on its leg and its contribution is staged. -/
def ringFold (n : Nat) (s : State) : State :=
  s.onChunk n 0 (fun i p h g b =>
    let l := s.bLive g b
    let pth := chunkPath l g.n g.self (s.heritage g.part) h.chunk
    let second := pth.2.isSome && !(pth.1.any (fun q => g.node q == p.src))
    let ready := if second then b.boardSums.any (fun e => e.1 == h.chunk) else b.tainted || b.staged.contains h.chunk
    if b.kind = 1 ∨ b.downEntry = false then s
    else if ready = false then s.bump (Fld.redAdderWait_wait n) 1
    else
      let mism := h.wire != b.wire || (bodyBlks p.body).map BlkHdr.scale != (b.startBlks h.chunk).map BlkHdr.scale
      let x := s.foldChunk g b p h second mism
      let b' : RingBucket := { b with staged := b.staged.filter (fun c => c != h.chunk), started := b.started ++ [h.chunk],
                                      boardSums := if second then b.boardSums.filter (fun e => e.1 != h.chunk) else b.boardSums,
                                      boardHdrs := if second then b.boardHdrs.filter (fun e => e.chunk != h.chunk) else b.boardHdrs,
                                      mismatchTold := b.mismatchTold || mism }
      let t := (((s.consumeRx n i).setBucket h.group (some b')).adderRan n).noteReined b h.flags
      let t := if mism ∧ b.mismatchTold = false then
          (t.put (Fld.redEvent_mismatch g.part) 1).redEvent g 0x0906 h.group (toLE 2 0 ++ toLE 4 b.bseq ++ toLE 4 h.chunk)
        else t
      t.onward h.group g b' h.chunk second x)

/-- GATHER (R266): written here and passed on until it has reached the member before the one it came from. -/
def ringGather (n : Nat) (s : State) : State :=
  s.onChunk n 1 (fun i p h g b =>
    let l := s.bLive g b
    let hm := s.heritage g.part
    let origin := if b.kind = 1 then (match g.keeper l h.chunk with | some (k, _) => k | none => g.self) else finalMember l g.n g.self hm h.chunk
    let more := ringNext l g.self != origin
    if b.kind = 0 ∨ (more ∧ b.downEntry = false) then s
    else
      let flags := orBit h.flags cfReined (more && s.reined g.part)
      let t := ((s.consumeRx n i).noteReined b flags)
      let t := if more then t.legSend g l ({ h with flags := flags }.toBytes ++ p.body.drop 24) else t
      if b.kind = 1 then ((t.storeChunk (b.result + 16384 * h.chunk) ((p.body.drop 24).take 16384)).addWritten h.group h.chunk).fin h.group
      else
        let blks := bodyBlks p.body
        let ws := ((bodyElems h.wire p.body).zipIdx).map (fun e => wireDec hm h.wire ((blks.getD (e.2 / 128) ⟨127, 0, 0#32⟩).scale) e.1)
        (((t.storeWords (b.result + 16384 * h.chunk) ws).addWritten h.group h.chunk).addHeader h.group ⟨h.chunk, h.flags, h.voids, blks⟩).headersHeld h.group)

/-- HEADERS (R266). -/
def ringHeaders (n : Nat) (s : State) : State :=
  s.onChunk n 2 (fun i p h g b =>
    let l := s.bLive g b
    let more := ringNext l g.self != finalMember l g.n g.self (s.heritage g.part) h.chunk
    if b.kind ≠ 0 ∨ (more ∧ b.downEntry = false) then s
    else
      let t := (s.consumeRx n i).noteReined b h.flags
      let t := if more then t.legSend g l p.body else t
      (t.addHeader h.group ⟨h.chunk, h.flags, h.voids, bodyBlks p.body⟩).headersHeld h.group)

/-- DELIVER (R265, R293). -/
def ringDeliver (n : Nat) (s : State) : State :=
  s.onChunk n 3 (fun i p h g b =>
    let l := s.bLive g b
    let t := (s.consumeRx n i).noteReined b h.flags
    match s.keepAddr g b l h.chunk with
    | some a =>
      if b.kind = 0 then ((t.storeWords a ((bodyElems 0 p.body).map (BitVec.ofNat 32))).addWritten h.group h.chunk).fin h.group else t
    | none => t)

/-- REPORT (R284); one naming this member as a straggler drops it (R282). -/
def ringReport (n : Nat) (s : State) : State :=
  s.onMarker n 5 (fun s h g =>
    if h.chunk = g.self ∧ h.wire = 1 then s.dropSelf h.group (s.ringStep h.group g)
    else s.report h.group h.chunk h.wire)

/-- RESTART (R284): forwarded, and the bucket starts again; at the leader its lap ends. -/
def ringRestart (n : Nat) (s : State) : State :=
  s.onMarker n 6 (fun s h g =>
    let fwd := fun (t : State) (l : List Nat) => if alone l then t else t.legSend g l (markerBody h.group 6 h.wire h.chunk h.bseq h.epoch)
    match s.bucket h.group with
    | some b =>
      if b.bseq ≠ h.bseq ∨ b.epoch = h.epoch then s
      else
        let l' := (s.bLive g b).filter (fun p => p != h.chunk)
        if leaderOf l' = g.self then s
        else (fwd s l').restart h.group h.chunk h.wire h.epoch
    | none =>
      if h.bseq < g.nextBseq then s
      else
        let step := s.ringStep h.group g
        let l' := (s.live g step h.bseq).filter (fun p => p != h.chunk)
        if leaderOf l' = g.self then s
        else
          let t := fwd s l'
          let t := t.setGrp h.group (some { g with epochs := (h.bseq, h.epoch) :: g.epochs.filter (fun e => e.1 != h.bseq) })
          t.applyLoss h.group h.chunk h.wire step h.bseq)

/-- FIN (R268): at the leader it has returned, and RETIRE goes round. -/
def ringFin (n : Nat) (s : State) : State :=
  s.onMarker n 7 (fun s h g =>
    match s.bucket h.group with
    | none => s
    | some b =>
      if b.bseq ≠ h.bseq ∨ b.epoch ≠ h.epoch then s
      else
        let l := s.bLive g b
        if leaderOf l = g.self ∧ b.finSent then
          ((s.setBucket h.group (some { b with finUp := true, retireSent := true, phase := 8 })).legSend g l
            (markerBody h.group 8 0 0 b.bseq b.epoch)).slotUpdate g.job
        else (s.setBucket h.group (some { b with finUp := true })).fin h.group)

/-- RETIRE (R268): forwarded, then the member retires its COLLECTIVE; the leader does so when it returns. -/
def ringRetire (n : Nat) (s : State) : State :=
  s.onMarker n 8 (fun s h g =>
    match s.bucket h.group with
    | none => s
    | some b =>
      if b.bseq ≠ h.bseq ∨ b.epoch ≠ h.epoch then s
      else
        let l := s.bLive g b
        let t := if leaderOf l = g.self then s else s.legSend g l (markerBody h.group 8 0 0 b.bseq b.epoch)
        t.retireBucket h.group g b)

/-- FATAL (R285). -/
def ringFatalMarker (n : Nat) (s : State) : State := s.onMarker n 9 (fun s h _ => s.ringFatal h.group)

/-- STRAGGLER_DEADLINE (R282): the upstream has waited longer than straggler_us for its downstream's ENTRY. -/
def stragglerDeadline (gid : Nat) (s : State) : State :=
  match s.grp gid, s.bucket gid with
  | some g, some b =>
    let l := s.bLive g b
    if s.ringStands ∨ g.stragglerUs = 0 ∨ b.downEntry ∨ b.suspended ∨ alone l ∨ s.now - b.waitSince ≤ 475 * g.stragglerUs then s
    else
      let q := ringNext l g.self
      let t := (s.put (Fld.redEvent_straggler g.part) 1).redEvent g 0x0907 gid (toLE 2 q ++ toLE 4 0 ++ toLE 8 b.step)
      let t := t.legSend g l (markerBody gid 5 1 q b.bseq b.epoch)
      t.report gid q 1
  | _, _ => s

/-! ### Legs (R257 to R260) -/

/-- The groups of a job, by number. -/
def State.groupsOf (s : State) (f : Group → Bool) : List (Nat × Group) :=
  s.red.groups.filterMap (fun e => match e.2 with | some g => if f g then some (e.1, g) else none | none => none)

/-- The live list in force for a group now. -/
def State.liveNow (s : State) (gid : Nat) (g : Group) : List Nat :=
  match s.bucket gid with | some b => s.bLive g b | none => s.live g (s.ringStep gid g) g.nextBseq

/-- A report now, or after resume while the ring stands (R262, R286). -/
def State.reportOrOwe (s : State) (gid pos scope : Nat) : State :=
  if s.ringStands then
    match s.grp gid with
    | some g => s.setGrp gid (some { g with owed := g.owed ++ [(pos, scope)] })
    | none => s
  else s.report gid pos scope

/-- After a P0 save: the reports owed are made (R262, R286). -/
def State.ringResume (s : State) : State :=
  s.red.groups.foldl (fun t e =>
    match t.grp e.1 with
    | some g => g.owed.foldl (fun t r => t.report e.1 r.1 r.2) (t.setGrp e.1 (some { g with owed := [] }))
    | none => t) s

/-- The leg of a group is DOWN (R257, R259): to its spare, with a restart of the bucket under way, or the next member is lost. -/
def State.legDown (s : State) (gid : Nat) (g : Group) (n : Nat) : State :=
  let l := s.liveNow gid g
  if alone l then s
  else
    let q := ringNext l g.self
    let adjacent := (q + g.n - g.self) % max 1 g.n = 1
    let sp := g.ent g.self 6 2
    let s := s.setGrp gid (some { g with restoreAsked := false })
    if adjacent ∧ g.onSpare = false ∧ sp ≠ 0xFFFF ∧ s.portUp (routePort sp) then
      let t := s.setGrp gid (some { g with onSpare := true, restoreAsked := false })
      let t := (t.put (Fld.lnkEvent_spare_used n) 1).put (Fld.lnkStatus_on_spare n) 1
      match t.bucket gid with
      | some b => if b.retireSent ∨ b.suspended then t else t.reportOrOwe gid 0xFFFFFFFF 3
      | none => t
    else
      let l' := l.filter (fun p => p != q)
      match g.legNext (ringNext l' g.self) with
      | some r => if alone l' ∨ s.portUp (routePort r) then s.reportOrOwe gid q 2 else s.ringFatal gid
      | none => if alone l' then s.reportOrOwe gid q 2 else s.ringFatal gid

/-- A port goes DOWN with the full handling of R257. -/
def State.portDown (s : State) (n : Nat) : State :=
  let r := s.portDownCore n
  let t := (s.groupsOf (fun g => !g.fatal)).foldl (fun t e =>
    let l := t.liveNow e.1 e.2
    match e.2.legNext (ringNext l e.2.self) with
    | some rt => if routePort rt = n then t.legDown e.1 e.2 n else t
    | none => t) r.1
  ((r.2.map Packet.job).dedup).foldl (fun t j =>
    match t.slotOfJob j with
    | some sl => (t.slotPairs sl).foldl (fun t pr =>
        if pr.2 = n then t.enqueue pr.1 0 (t.mkPacket j 2 ((t.farNode pr.1).getD 0) [0#8]) none else t) t
    | none => t) t

end Sys2Proof.Machine
end

