-- ==== Sys2Proof/Machine/LinkCommands.lean ====
section
/-!
DEFINITION. The commands of the Adepin ports (chapter 10): lanes and lock, flits, replay, credits, packets, bring-up, the port
controls and the packets that are forwarded, written or refused.
-/
namespace Sys2Proof.Machine

/-! ### Lanes and lock (R245 to R247) -/

/-- LANE_BAD (R245): lane l turns bad; its group relanes, or loses its lock. -/
def laneBad (n l : Nat) (s : State) : State :=
  let good := s.f (Fld.lnkStatus_lane_good n)
  if s.portHears n = false ∨ testBit good l = false then s
  else
    let t := s.put (Fld.lnkStatus_lane_good n) (good - 2 ^ l)
    if testBit (s.port n).inUse l = false ∨ s.portState n = 4 then t
    else
      let t := (t.put (Fld.lnkStatus_state n) 6).sendFlit n (Flit.link 0 (good - 2 ^ l))
      if s.lanesAfter n (good - 2 ^ l) ≠ 0 ∧ s.portState n = 5 then t.bumpSat (Fld.lnkErr_relanes n) 1 else t

/-- Run on a set of lanes from now on. -/
def State.useLanes (s : State) (n lanes : Nat) : State :=
  let w := ((List.range 16).filter (fun l => testBit lanes l)).length
  let t := s.setPort n { s.port n with inUse := lanes }
  (t.put (Fld.lnkStatus_width n) w).putB (Fld.lnkStatus_degraded n) (decide (w < s.fullWidth n))

/-- RELANE_DONE (R245): the lanes good at both ends are known; the port is UP on them, degraded if it has fewer, and replays
what is unacknowledged. -/
def relaneDone (n : Nat) (s : State) : State :=
  let both := s.f (Fld.lnkStatus_lane_good n) &&& (s.port n).farMask
  let lanes := s.lanesAfter n both
  if s.portState n ≠ 6 ∨ lanes = 0 then s
  else
    let t := (s.put (Fld.lnkStatus_state n) 5).useLanes n lanes
    let t := if lanes ≠ s.fullMask n then t.put (Fld.lnkEvent_degraded n) 1 else t
    (t.startReplay n false).1

/-- LOCK_TIMEOUT (R245): without lock for 10 µs. -/
def lockTimeout (n : Nat) (s : State) : State :=
  if s.portHears n ∧ s.lanesAfter n (s.f (Fld.lnkStatus_lane_good n)) = 0 then (s.put (Fld.lnkEvent_lock_timeout n) 1).portDown n else s

/-- Start a full-width attempt (R247). -/
def State.startRewiden (s : State) (n : Nat) : State :=
  if s.portState n = 5 ∧ s.flag (Fld.lnkStatus_degraded n) then
    ((s.setPort n { s.port n with rewiden := true }).put (Fld.lnkCtrl_rewiden n) 1).sendFlit n (Flit.link 1 (s.f (Fld.lnkStatus_lane_good n)))
  else s.put (Fld.lnkCtrl_rewiden n) 0

/-- REWIDEN_LOCK (R247): the unused lanes lock, and the port relanes onto all of them. -/
def rewidenLock (n : Nat) (s : State) : State :=
  if (s.port n).rewiden = false ∨ s.portUp n = false then s
  else
    let t := (s.setPort n { s.port n with rewiden := false }).put (Fld.lnkStatus_lane_good n) (s.fullMask n)
    let t := ((t.put (Fld.lnkCtrl_rewiden n) 0).put (Fld.lnkStatus_state n) 6).bumpSat (Fld.lnkErr_relanes n) 1
    t.sendFlit n (Flit.link 0 (s.fullMask n))

/-- REWIDEN_TIMEOUT (R247): no lock within 50 ms; the port stays as it is, with an event. -/
def rewidenTimeout (n : Nat) (s : State) : State :=
  if (s.port n).rewiden then
    ((s.setPort n { s.port n with rewiden := false }).put (Fld.lnkCtrl_rewiden n) 0).event Blk.lnk none (portCantle n) n
      (genericPayload n (s.f (Fld.lnkStatus_lane_good n)) 0)
  else s

/-! ### Flits (R236, R237, R241, R243, R244) -/

/-- A flit that is good: whole, with a matching CRC, over no codeword that FEC could not correct. -/
def flitGood (fl : List Byte) (ue : Bool) : Bool := !ue && fl.length == 256 && crc32c (fl.take 0xFC) == fieldLE fl 0xFC 4

def flitType (fl : List Byte) : Nat := bits (fieldLE fl 4 1) 5 2

/-- A bad flit is counted. -/
def State.badFlit (s : State) (n : Nat) (ue : Bool) : State := if ue then s.bumpSat (Fld.lnkErr_fec_ue n) 1 else s.bumpSat (Fld.lnkErr_crc_bad n) 1

/-- Send nak for the expected flit once (R243). -/
def State.sendNak (s : State) (n : Nat) : State :=
  let x := s.port n
  if x.nakSent then s
  else (s.setPort n { x with nakSent := true }).sendFlit n { Flit.idle with nak := true }

/-- A replay that may be the sixteenth to fail (R244).  During a relane no DATA flit goes: the replay follows it (R245, R262). -/
def State.replayFlits (s : State) (n : Nat) : State :=
  if s.portState n = 6 then s
  else
    let r := s.startReplay n true
    if r.2 then (r.1.put (Fld.lnkEvent_replay_limit n) 1).portDown n else r.1

/-- Read a good flit's acknowledgement, credit and nak fields (R237). -/
def State.readFlit (s : State) (n : Nat) (fl : List Byte) : State :=
  let t := if testBit (fieldLE fl 4 1) 7 then s.readAck n (fieldLE fl 2 2) else s
  let t := t.readCredit n (bits (fieldLE fl 6 2) 0 3) (bits (fieldLE fl 6 2) 3 13)
  if testBit (fieldLE fl 4 1) 7 ∧ testBit (fieldLE fl 5 1) 0 then t.replayFlits n else t

/-- DATA_FLIT (R243): accepted when good and expected; otherwise discarded, with one nak. -/
def dataFlit (n : Nat) (fl : List Byte) (ue : Bool) (s : State) : State :=
  if s.portHears n = false then s
  else if flitGood fl ue = false then (s.badFlit n ue).sendNak n
  else if flitType fl = 3 then s.readFlit n fl
  else if flitType fl ≠ 1 then s
  else
    let t := s.readFlit n fl
    let x := t.port n
    if t.portHears n = false then t
    else if fieldLE fl 0 2 ≠ x.expSeq then t.sendNak n
    else
      let ctl := fieldLE fl 4 1
      let sop := testBit ctl 3
      let pay := (fl.drop 8).take 244
      let part := if sop then pay else x.part ++ pay
      let vc := if sop then bits ctl 0 3 else x.partVc
      let k := if sop then 1 else x.partFlits + 1
      let due := decide (64 ≤ x.unacked + 1)
      let y : PortState := { x with expSeq := (x.expSeq + 1) % 65536, nakSent := false, unacked := if due then 0 else x.unacked + 1,
                                    part := part, partVc := vc, partFlits := k }
      let y : PortState := if testBit ctl 4 then { y with part := [], partFlits := 0, rx := x.rx ++ [(vc, Packet.ofBytes part, k)] } else y
      let t := (t.setPort n y).bump (Fld.lnkFlitsRx_flits n) 1
      if due then t.sendFlit n Flit.idle else t

/-- IDLE_FLIT (R237). -/
def idleFlit (n : Nat) (fl : List Byte) (ue : Bool) (s : State) : State :=
  if s.portHears n = false then s
  else if flitGood fl ue = false then s.badFlit n ue
  else if flitType fl = 0 ∨ flitType fl = 3 then s.readFlit n fl else s

/-- LINK_FLIT (R237, R245): the far end's good lanes; a relane the far end began begins here too.  Payload bytes 0 and 1 hold
the mask and byte 2 the message: 0 relane, 1 rewiden, 2 training. -/
def linkFlit (n : Nat) (fl : List Byte) (ue : Bool) (s : State) : State :=
  if s.portHears n = false then s
  else if flitGood fl ue = false then s.badFlit n ue
  else if flitType fl ≠ 2 then s
  else
    let t := s.readFlit n fl
    if t.portHears n = false then t
    else
      let t := t.setPort n { t.port n with farMask := fieldLE fl 8 2 }
      let k := fieldLE fl 10 1
      if k = 0 ∧ t.portState n = 5 then
        ((t.put (Fld.lnkStatus_state n) 6).bumpSat (Fld.lnkErr_relanes n) 1).sendFlit n (Flit.link 0 (t.f (Fld.lnkStatus_lane_good n)))
      else if k = 1 then t.setPort n { t.port n with rewiden := true }
      else t

/-- REPLAY_TIMEOUT (R243): unacknowledged flits for 2 µs without progress. -/
def replayTimeout (n : Nat) (s : State) : State :=
  if s.portHears n ∧ (s.port n).retry.isEmpty = false then s.replayFlits n else s

/-- ACK_TIMER (R243). -/
def ackTimer (n : Nat) (s : State) : State :=
  let x := s.port n
  if s.portHears n ∧ 0 < x.unacked then
    s.sendFlit n Flit.idle
  else s

/-- CREDIT_RETURN (R241): the credits of a VC with at least 32 outstanding go back. -/
def creditReturn (n vc : Nat) (s : State) : State :=
  let x := s.port n
  match x.owed.find? (fun e => e.1 == vc) with
  | some (_, k) =>
    if s.portUp n = false ∨ k < 32 ∨ (s.saving ∧ (vc = 1 ∨ vc = 2 ∨ vc = 3)) then s
    else (s.setPort n { x with owed := x.owed.filter (fun e => e.1 != vc) }).sendFlit n { Flit.idle with creditVc := vc, credits := k }
  | none => s

/-- PACKET_START (R242): VC0, then transit or owned by deficit round-robin, else IDLE.  No DATA flit goes during a relane. -/
def packetStart (n : Nat) (s : State) : State :=
  if s.portState n ≠ 5 then s
  else
    match s.readyPacket n 0 with
    | some (i, p) => s.transmit n i p
    | none =>
      let tr := s.readyPacket n 5
      let ow := s.ownedNext n
      let x := s.port n
      let wT := s.f (Fld.lnkCfg_transit_pct n)
      let r := drrPick wT (100 - wT) (tr.map (fun p => p.2.pkt.flits)) (ow.map (fun p => p.2.pkt.flits)) 64 x.deficitT x.deficitO x.turnO
      let t := s.setPort n { x with deficitT := r.2.1, deficitO := r.2.2.1, turnO := r.2.2.2 }
      match r.1 with
      | some false => (match tr with | some (i, p) => t.transmit n i p | none => t)
      | some true => (match ow with | some (i, p) => t.transmit n i p | none => t)
      | none => t.sendFlit n Flit.idle

/-! ### Bring-up (R250, R251) -/

/-- Lanes of a port that SDREF_P serves, those of CS0 and CS1 (R9, R411); the rest have SDREF_C. -/
def pommelLanes (n : Nat) : Nat :=
  if n = 0 ∨ n = 2 ∨ n = 3 ∨ n = 4 ∨ n = 8 ∨ n = 9 then 255 else 0

/-- Locked lanes show that their SerDes reference runs (R412). -/
def State.refBack (s : State) (n lanes : Nat) : State :=
  let p := lanes &&& pommelLanes n
  s.setPins { s.pins with sdrefP := s.pins.sdrefP || p != 0, sdrefC := s.pins.sdrefC || lanes - p != 0 }

/-- LINK_TRAINING_DONE (R251): locked on a set of lanes; sequence numbers start, and IDENT is sent. -/
def linkTrainingDone (n lanes : Nat) (s : State) : State :=
  let use := s.lanesAfter n lanes
  if s.flag (Fld.lnkCtrl_enable n) = false ∨ (s.portState n ≠ 2 ∧ s.portState n ≠ 3) ∨ use = 0 then s
  else
    let t := (((s.refBack n lanes).portComesUp n use).put (Fld.lnkStatus_state n) 4).put (Fld.lnkStatus_lane_good n) (lanes &&& s.fullMask n)
    let far := (s.farNode n).getD 0
    t.transmit n (t.port n).queue.length
      ⟨0, s.mkPacket 0 1 far (toLE 4 s.node ++ toLE 1 n ++ toLE 1 (t.f (Fld.lnkStatus_width n))), s.now, none, none⟩

/-- The check of R251. -/
def State.identOk (s : State) (n node port : Nat) : Bool :=
  if n ≤ 7 then s.farNode n == some node && port == n
  else match s.farNode n with | some e => e == node | none => true

/-- IDENT (R251): the far end is what the wiring rule or the reach path table names, and the port is UP; else MISWIRED. -/
def identPacket (n : Nat) (s : State) : State :=
  match s.findRx n (fun p => p.kind == 1 && p.job == 0) with
  | none => s
  | some (i, p) =>
    if s.portState n ≠ 4 then s.consumeRx n i
    else
      let node := fieldLE p.body 0 4
      let port := fieldLE p.body 4 1
      let t := s.setPort n { s.port n with rx := (s.port n).rx.eraseIdx i }
      let t := ((t.put (Fld.lnkFar_far_node n) node).put (Fld.lnkFar_far_port n) port).put (Fld.lnkFar_valid n) 1
      if s.identOk n node port then
        (vcs.foldl (fun t vc => t.put (creditF n vc) (s.vcDepth n vc)) t).put (Fld.lnkStatus_state n) 5
      else
        ((t.put (Fld.lnkStatus_state n) 7).put (Fld.lnkEvent_miswired n) 1).event 0x0603 none (portCantle n) n
          (toLE 1 n ++ toLE 1 port ++ toLE 2 0 ++ toLE 4 node)

/-- Begin bring-up of an enabled port. -/
def State.startTraining (s : State) (n : Nat) : State :=
  if s.flag (Fld.lnkCtrl_enable n) then s.put (Fld.lnkStatus_state n) 2 else s

/-- BRINGUP_RETRY (R251); it waits while the firmware of the port's half restarts (R375). -/
def bringupRetry (n : Nat) (s : State) : State :=
  if s.halfRestarts (portCantle n) = false ∧ s.flag (Fld.lnkCtrl_enable n) ∧ s.portUp n = false ∧ s.portState n ≠ 0 then s.startTraining n else s

/-- BRINGUP_DEADLINE (R251): not UP at 500 ms; a notice on NQ4 gives the port. -/
def bringupDeadline (n : Nat) (s : State) : State :=
  if s.flag (Fld.lnkCtrl_enable n) ∧ s.portUp n = false then
    s.raise ⟨Blk.lnk, none, portCantle n, n, padTo 28 (genericPayload n (s.portState n) 0), s.now, [4]⟩
  else s

/-! ### The port controls -/

/-- Legs of this port asked back to their primaries (R260). -/
def State.askRestore (s : State) (n : Nat) : State :=
  (s.groupsOf (fun g => g.onSpare && routePort (g.ent g.self 4 2) == n)).foldl (fun t e => t.setGrp e.1 (some { e.2 with restoreAsked := true })) s

/-- The effects of a write of LNK_CTRL_n: bit 1 force_down, bit 2 restore_legs, bit 3 rewiden. -/
def State.lnkCtrl (s : State) (n v : Nat) : State :=
  let t := if testBit v 2 then s.askRestore n else s
  let t := if testBit v 3 then t.startRewiden n else t
  if testBit v 1 ∧ t.portState n ≠ 0 ∧ t.portState n ≠ 1 then t.portDown n else t

/-- LNK_FORCE_DOWN (R257). -/
def lnkForceDown (w : Writer) (n : Nat) (s : State) : State := s.regWrite w (Reg.lnkCtrl n) 2 (fun t => t.lnkCtrl n 2)

/-- LNK_RESTORE_LEGS (R260). -/
def lnkRestoreLegs (w : Writer) (n : Nat) (s : State) : State := s.regWrite w (Reg.lnkCtrl n) 4 (fun t => t.lnkCtrl n 4)

/-- LNK_REWIDEN (R247). -/
def lnkRewiden (w : Writer) (n : Nat) (s : State) : State := s.regWrite w (Reg.lnkCtrl n) 8 (fun t => t.lnkCtrl n 8)

/-! ### Packets that are forwarded, written or refused (R238, R254 to R258) -/

/-- Leg-down notices of a job, out of the in-port of each pair whose out-port is n (R258). -/
def State.legNotices (s : State) (j n : Nat) : State :=
  match s.slotOfJob j with
  | some sl => (s.slotPairs sl).foldl (fun t pr =>
      if pr.2 = n then t.enqueue pr.1 0 (t.mkPacket j 2 ((t.farNode pr.1).getD 0) [0#8]) none else t) s
  | none => s

/-- TRANSIT_PACKET (R254): a job's packet for another device goes out by the pair of its arriving port, on VC5; with no slot or
no pair it is discarded; with its out-port DOWN it is discarded and the notice of R258 goes back. -/
def transitPacket (n : Nat) (s : State) : State :=
  match s.findRx n (fun p => p.job != 0 && p.dest != s.node && packetKinds.contains p.kind && p.kind != 2) with
  | none => s
  | some (i, p) =>
    match s.slotOfJob p.job with
    | none => s.dropPacket n i p 1
    | some sl =>
      match (s.slotPairs sl).find? (fun e => e.1 == n) with
      | none => s.dropPacket n i p 2
      | some (_, out) =>
        if s.portUp out then s.moveRx n i out p
        else (s.consumeRx n i).legNotices p.job out

/-- JOB0_RELAY (R256): device traffic for another device of the board goes on by the direct link; off the board it is discarded. -/
def job0Relay (n : Nat) (s : State) : State :=
  match s.findRx n (fun p => p.job == 0 && p.dest != s.node && packetKinds.contains p.kind) with
  | none => s
  | some (i, p) =>
    if p.dest / 8 ≠ s.node / 8 then s.dropPacket n i p 4
    else if s.portUp (s.portTo (p.dest % 8)) then s.moveRx n i (s.portTo (p.dest % 8)) p
    else s.consumeRx n i

/-- The partition a packet is delivered to (R254): that of the MEMBER slot of its job. -/
def State.packetPart (s : State) (p : Packet) : Option Nat := (s.memberSlot p.job).map (fun j => s.f (Fld.lnkSlot_partition j))

/-- EV-0x0A05. -/
def State.evalWinEvent (s : State) (p source num a : Nat) : State :=
  s.event 0x0A05 (some p) (s.partCantle p) 0 (toLE 1 source ++ toLE 1 0 ++ toLE 2 num ++ toLE 4 0 ++ toLE 8 a)

/-- WRITE (R238): a received WRITE stores its data in HBM of the partition of its job; a foreign address is refused. -/
def writePacket (n : Nat) (s : State) : State :=
  match s.findRx n (fun p => p.kind == 0x21 && p.dest == s.node) with
  | none => s
  | some (i, p) =>
    match s.packetPart p with
    | none => s.dropPacket n i p (s.dropReason p)
    | some q =>
      let a := fieldLE p.body 0 8
      let d := p.body.drop 8
      if s.ringStands then s
      else if s.ownsRange q a d.length = false then s.dropPacket n i p 3
      else if s.inWindow q a d.length then (s.consumeRx n i).evalWinEvent q 0 n a
      else State.guardRungs s (((s.consumeRx n i).store a d).countRemote a d.length)

/-- LEG_DOWN_NOTICE (R258): passed back along the job's pairs, or the leg is this member's own and is DOWN. -/
def legDownNotice (n : Nat) (s : State) : State :=
  match s.findRx n (fun p => p.kind == 2 && p.job != 0) with
  | none => s
  | some (i, p) =>
    if (s.slotOfJob p.job).isNone then s.dropPacket n i p 1
    else
    let t := (s.consumeRx n i).legNotices p.job n
    (t.groupsOf (fun g => g.job == p.job && !g.fatal)).foldl (fun t e =>
      match e.2.legNext (ringNext (t.liveNow e.1 e.2) e.2.self) with
      | some rt => if routePort rt = n ∧ testBit rt 4 then t.legDown e.1 e.2 n else t
      | none => t) t

/-- RESERVED_KIND_PACKET (R238): discarded and counted. -/
def reservedKindPacket (n : Nat) (s : State) : State :=
  match s.findRx n (fun p => !packetKinds.contains p.kind) with
  | none => s
  | some (i, p) => s.dropPacket n i p 0

end Sys2Proof.Machine
end

