-- ==== Sys2Proof/Machine/Twin.lean ====
section
/-!
DEFINITION. The twin (chapter 12): pairing, beats, the mirror and its acknowledgements, takeover, handback and the partition
modes.
-/
namespace Sys2Proof.Machine

def State.setSnap (s : State) (x : Snap) : State := { s with snap := x }

def State.setTwin (s : State) (x : Twin) : State := { s with snap := { s.snap with twin := x } }

def State.twinState (s : State) : Nat := s.f Fld.snapTwinStatus_state

def zeroD : Nat → Nat := fun _ => 0

/-! ### Modes (R316) -/

/-- Refresh SNAP_MODE_n.mode. -/
def State.modeUpdate (s : State) (p : Nat) : State :=
  let st := s.twinState
  let last := match (s.part p).closedStep with | some x => x | none => 0
  let m := if s.flag (Fld.snapMode_test p) then 2
    else if st = 4 ∨ st = 5 then 3
    else if Sparse.get (fun _ => false) s.snap.twin.committed p = false then 1
    else if st = 2 ∧ s.flag (Fld.snapCfg_shadow p) ∧ last ≤ s.rd (Reg.snapOutStep p) + 1 then 0 else 3
  s.put (Fld.snapMode_mode p) m

def State.modesUpdate (s : State) : State := (List.range 4).foldl (fun t p => t.modeUpdate p) s

/-! ### Notices to the twin (R288) -/

/-- The job of a partition's first MEMBER slot, which its mirror and handback packets carry. -/
def State.jobOf (s : State) (p : Nat) : Nat :=
  match (List.range 64).find? (fun j => s.f (Fld.lnkSlot_kind j) == 1 && s.f (Fld.lnkSlot_partition j) == p) with
  | some j => s.f (Fld.lnkSlot_job_id j)
  | none => 0

def State.sendNotice (s : State) (body : List Byte) : State :=
  s.sendBoard (s.position ^^^ 1) (s.mkPacket 0 2 s.twinNode body) none

/-- A path to the twin: TW, or twin_relay. -/
def State.twinPath (s : State) : Bool :=
  s.portUp 0 || s.portUp 1 || (let r := s.f (Fld.lnkCfg_twin_relay 0)
    r != s.position && r != (s.position ^^^ 1) && s.portUp (s.portTo r))

def mirrorStateF (p b : Nat) : FieldRef := if b = 0 then Fld.snapMirrorStep0_state p else Fld.snapMirrorStep1_state p
def mirrorStepF (p b : Nat) : FieldRef := if b = 0 then Fld.snapMirrorStep0_step p else Fld.snapMirrorStep1_step p

/-- The step committed in a buffer, none where it holds no commit. -/
def State.bufCommitted (s : State) (p b : Nat) : Option Nat := if s.f (mirrorStateF p b) = 2 then some (s.f (mirrorStepF p b)) else none

/-- The highest committed step of a partition's mirror buffers. -/
def State.highCommitted (s : State) (p : Nat) : Option Nat :=
  match s.bufCommitted p 0, s.bufCommitted p 1 with
  | some a, some b => some (max a b)
  | some a, none => some a
  | none, b => b

def State.helloBody (s : State) : List Byte :=
  toLE 2 0x10 ++ toLE 4 s.node ++ toLE 1 s.twinState ++ toLE 1 s.boot.partitions ++
  (List.range s.boot.partitions).flatMap (fun p =>
    toLE 8 (s.rd (Reg.snapMirrorBufBytes p)) ++ toLE 8 (s.rd (Reg.snapMirrorShardBytes p)) ++
    toLE 8 ((s.bufCommitted p 0).getD 0) ++ toLE 8 ((s.bufCommitted p 1).getD 0))

/-- MIRROR_RESET of a partition, now or at the next HELLO exchange (R315). -/
def State.sendMirrorReset (s : State) (p : Nat) : State :=
  if s.twinPath then s.sendNotice (toLE 2 0x15 ++ toLE 1 p ++ toLE 8 (s.rd (Reg.stepN p)))
  else s.setTwin { s.snap.twin with resetOwed := if s.snap.twin.resetOwed.contains p then s.snap.twin.resetOwed else s.snap.twin.resetOwed ++ [p] }

def State.sendOwedResets (s : State) : State :=
  if s.twinPath then (s.snap.twin.resetOwed).foldl (fun t p => t.sendMirrorReset p) (s.setTwin { s.snap.twin with resetOwed := [] }) else s

/-- Send a TWIN_HELLO; a device that has not been PAIRED is PAIRING from then on. -/
def State.sendHello (s : State) : State :=
  let t := if s.twinState = 0 then s.put Fld.snapTwinStatus_state 1 else s
  (t.putB Fld.snapTwinStatus_via_relay (!(t.portUp 0 || t.portUp 1))).sendNotice t.helloBody

/-- The first notice of the twin with a code in a port's buffers. -/
def State.findNotice (s : State) (n code : Nat) : Option (Nat × Packet) :=
  s.findRx n (fun p => p.kind == 2 && p.job == 0 && p.dest == s.node && fieldLE p.body 0 2 == code)

/-! ### The end of a mirrored APPLY -/

/-- Completion of an APPLY whose mirror is acknowledged, or dropped. -/
def State.applyEnd (s : State) (x : ApplyRun) (result : Nat) : State :=
  let t := s.setTwin { s.snap.twin with applies := s.snap.twin.applies.filter (fun y => y.admitNo != x.admitNo) }
  match t.op x.slot with
  | some o => if o.admitNo = x.admitNo then t.finish x.slot result else t
  | none => t

/-- Every APPLY that awaits the twin signals when its own blocks complete (R295, R321). -/
def State.dropMirrors (s : State) : State := s.snap.twin.applies.foldl (fun t x => t.applyEnd x Res.ok) s

/-! ### Takeover (R294) -/

/-- The twin is declared failed: cause as EV-0x0A03 gives it, 4 for the beat limit. -/
def State.twinFail (s : State) (cause : Nat) : State :=
  if s.twinState = 4 ∨ s.twinState = 5 ∨ s.twinState = 0 then s
  else
    let parts := List.range s.boot.partitions
    let take := parts.any (fun p => s.flag (Fld.snapCfg_shadow p))
    let t := s.raise ⟨0x0A03, none, false, 0, padTo 28 (toLE 4 s.twinNode ++ toLE 1 cause), s.now, 4 :: parts⟩
    let t := (t.put Fld.snapTwinStatus_state (if take then 4 else 5)).put Fld.snapTwinStatus_cause (if cause = 4 then 1 else 0)
    let t := (t.setTwin { t.snap.twin with met := false }).dropMirrors.modesUpdate
    (t.groupsOf (fun g => !g.fatal)).foldl (fun t e =>
      match (List.range e.2.n).find? (fun p => e.2.node p == t.twinNode) with
      | some pos => if pos = e.2.self then t else t.reportOrOwe e.1 pos 2
      | none => t) t

/-! ### Pairing commands (R287, R288) -/

/-- Why a HELLO does not pair (EV-0x0A01): 0 board or position, 1 buffer sizes, 2 partition count. -/
def State.helloFault (s : State) (b : List Byte) : Option Nat :=
  let k := fieldLE b 7 1
  if fieldLE b 2 4 ≠ s.twinNode then some 0
  else if k ≠ s.boot.partitions then some 2
  else if (List.range k).any (fun p =>
      decide (s.rd (Reg.snapMirrorBufBytes p) < fieldLE b (8 + 32 * p + 8) 8) || decide (fieldLE b (8 + 32 * p) 8 < s.rd (Reg.snapMirrorShardBytes p))) then some 1
  else none

/-- TWIN_HELLO (R287): PAIRED, or JOINING a twin in TAKEOVER, or MISMATCH, on which the mirror stops (R295).  A device in TAKEOVER
or ALONE stays so until a delta, and meets its replacement's handshake (R299). -/
def twinHello (n : Nat) (s : State) : State :=
  match s.findNotice n 0x10 with
  | none => s
  | some (i, p) =>
    let t := s.consumeRx n i
    let t := t.setTwin { t.snap.twin with heard := t.now }
    if s.twinState = 4 ∨ s.twinState = 5 then
      (t.setTwin { t.snap.twin with met := (s.helloFault p.body).isNone && [0, 1, 6].contains (fieldLE p.body 6 1) }).sendHello
    else
      match s.helloFault p.body with
      | some c =>
        (((t.put Fld.snapTwinStatus_state 3).put Fld.snapTwinStatus_cause 2).event 0x0A01 none false 0
          (toLE 4 (fieldLE p.body 2 4) ++ toLE 1 c)).dropMirrors.modesUpdate
      | none =>
        let far := (List.range s.boot.partitions).map (fun k => FarPart.mk (fieldLE p.body (8 + 32 * k) 8) (fieldLE p.body (8 + 32 * k + 8) 8)
          (max (fieldLE p.body (8 + 32 * k + 16) 8) (fieldLE p.body (8 + 32 * k + 24) 8)))
        let t := if s.twinState = 0 ∨ s.twinState = 1 then t.sendHello else t
        let t := t.setTwin { t.snap.twin with far := far, rx := [], ahead := [] }
        let t := t.put Fld.snapTwinStatus_state (if fieldLE p.body 6 1 = 4 ∨ fieldLE p.body 6 1 = 5 then 6 else 2)
        (t.sendOwedResets).modesUpdate

/-- TWIN_HELLO_RETRY (R287): every 100 ms until the handshake succeeds. -/
def twinHelloRetry (s : State) : State :=
  if (s.twinState = 0 ∨ s.twinState = 1 ∨ s.twinState = 3) ∧ s.twinPath then s.sendHello else s

/-- TWIN_BEAT_SEND (R288). -/
def twinBeatSend (s : State) : State :=
  if s.twinPath then
    s.sendNotice (toLE 2 0x11 ++ toLE 4 s.node ++ toLE 1 s.twinState ++ toLE 1 (if s.isHeld then 1 else 0) ++
      (List.range s.boot.partitions).flatMap (fun p => toLE 8 ((s.highCommitted p).getD 0)))
  else s

/-- TWIN_BEAT (R288). -/
def twinBeat (n : Nat) (s : State) : State :=
  match s.findNotice n 0x11 with
  | none => s
  | some (i, p) =>
    let t := s.consumeRx n i
    t.setTwin { t.snap.twin with heard := t.now, far := (t.snap.twin.far.zipIdx).map (fun e => { e.1 with high := fieldLE p.body (8 + 8 * e.2) 8 }) }

/-- The least beat_limit of the running partitions, in units of 100 µs. -/
def State.beatLimit (s : State) : Nat :=
  ((List.range s.boot.partitions).map (fun p => s.f (Fld.snapCfg_beat_limit p))).foldl min (s.f (Fld.snapCfg_beat_limit 0))

/-- BEAT_LIMIT (R288): nothing from the twin for beat_limit. -/
def beatLimit (s : State) : State :=
  if (s.twinState = 2 ∨ s.twinState = 6) ∧ 47500 * s.beatLimit ≤ s.now - s.snap.twin.heard then s.twinFail 4 else s

/-- TWIN_FAILED (R288). -/
def twinFailedNotice (n : Nat) (s : State) : State :=
  match s.findNotice n 0x12 with
  | none => s
  | some (i, p) => (s.consumeRx n i).twinFail (min 3 (fieldLE p.body 6 1))

/-- Tell the twin that this device fails (R320, R339). -/
def State.sendTwinFailed (s : State) (cause : Nat) : State := s.sendNotice (toLE 2 0x12 ++ toLE 4 s.node ++ toLE 1 cause)

/-- IDENT (R251), after which a TW that has come UP sends TWIN_HELLO (R287). -/
def identUp (n : Nat) (s : State) : State :=
  let t := identPacket n s
  if n ≤ 1 ∧ s.portState n ≠ 5 ∧ t.portState n = 5 then t.sendHello else t

/-! ### The mirror, sending (R289 to R292) -/

structure MirrorHdr where
  step : Nat
  addr : Nat
  mseq : Nat
  part : Nat
  bytes : Nat
deriving DecidableEq, Repr

def MirrorHdr.toBytes (h : MirrorHdr) : List Byte := toLE 8 h.step ++ toLE 8 h.addr ++ toLE 4 h.mseq ++ toLE 1 h.part ++ toLE 3 0 ++ toLE 8 h.bytes

def MirrorHdr.ofBytes (b : List Byte) : MirrorHdr := ⟨fieldLE b 0 8, fieldLE b 8 8, fieldLE b 0x10 4, fieldLE b 0x14 1, fieldLE b 0x18 8⟩

/-- Send one mirror packet of an APPLY; answers the state and its sequence number. -/
def State.sendMirror (s : State) (p slot step addr part bytes : Nat) (data : List Byte) : State × Nat :=
  let q := Sparse.get zeroD s.snap.twin.mseq p
  let t := s.setTwin { s.snap.twin with mseq := Sparse.put zeroD s.snap.twin.mseq p ((q + 1) % 2 ^ 32) }
  (t.sendBoard (t.position ^^^ 1) (t.mkPacket (t.jobOf p) 0x20 t.twinNode ((MirrorHdr.mk step addr q part bytes).toBytes ++ data)) (some slot), q)

/-- Send COMMIT of every APPLY whose data is all acknowledged (R292). -/
def State.sendCommits (s : State) : State :=
  s.snap.twin.applies.foldl (fun t x =>
    if x.unacked.isEmpty ∧ x.commit.isNone then
      let u := t.sendMirror x.part x.slot x.step x.addr 3 x.total []
      u.1.setTwin { u.1.snap.twin with applies := u.1.snap.twin.applies.map (fun y => if y.admitNo = x.admitNo then { y with commit := some u.2 } else y) }
    else t) s

/-- Sequence number a is covered by an acknowledgement m. -/
def seqCovered (m a : Nat) : Bool := decide ((2 ^ 32 + m - a) % 2 ^ 32 < 2 ^ 31)

/-- MIRROR_ACK (R291, R292). -/
def mirrorAck (n : Nat) (s : State) : State :=
  match s.findRx n (fun p => p.kind == 0x20 && testBit p.kflags 0 && p.dest == s.node) with
  | none => s
  | some (i, pk) =>
    match s.packetPart pk with
    | none => s.dropPacket n i pk (s.dropReason pk)
    | some p =>
      if s.ringStands then s
      else
      let t := s.consumeRx n i
      let m := fieldLE pk.body 0 4
      let fl := fieldLE pk.body 4 1
      let step := fieldLE pk.body 8 8
      if testBit fl 0 then
        match t.snap.twin.applies.find? (fun x => x.part == p && (x.unacked.contains m || x.commit == some m)) with
        | some x => t.applyEnd x Res.badField
        | none => t
      else
        let t := t.setTwin { t.snap.twin with applies := t.snap.twin.applies.map (fun x =>
          if x.part = p then { x with unacked := x.unacked.filter (fun a => !seqCovered m a) } else x) }
        let t := if testBit fl 1 then
            (t.setTwin { t.snap.twin with committed := Sparse.put (fun _ => false) t.snap.twin.committed p true }).wr (Reg.snapOutStep p) step
          else t
        let done := t.snap.twin.applies.filter (fun x => x.part == p && (match x.commit with | some c => seqCovered m c | none => false))
        ((done.foldl (fun t x => t.applyEnd x Res.ok) t).sendCommits).modeUpdate p

/-! ### The mirror, receiving (R291, R292, R317) -/

/-- The mirror buffer of a partition that a run lies in. -/
def State.mirrorBuf (s : State) (p a n : Nat) : Option Nat :=
  let base := s.rd (Reg.snapMirrorBase p) / 4096 * 4096
  let len := s.rd (Reg.snapMirrorBufBytes p)
  (List.range 2).find? (fun b => decide (base + b * len ≤ a) && decide (a + n ≤ base + (b + 1) * len))

/-- Send an acknowledgement: flags bit 0 refuse, bit 1 committed. -/
def State.sendMirrorAck (s : State) (p job m flags step : Nat) : State :=
  let t := s.setTwin { s.snap.twin with due := Sparse.put zeroD s.snap.twin.due p 0 }
  t.sendBoard (t.position ^^^ 1) { t.mkPacket job 0x20 t.twinNode (toLE 4 m ++ toLE 1 flags ++ toLE 3 0 ++ toLE 8 step) with kflags := 1 } none

/-- The buffer takes data or counts of step s: FILLING for it, with the count restarted where it was not. -/
def State.fillBuf (s : State) (p b step : Nat) : State :=
  if s.f (mirrorStateF p b) = 1 ∧ s.f (mirrorStepF p b) = step then s
  else
    let t := (s.put (mirrorStateF p b) 1).put (mirrorStepF p b) step
    t.setTwin { t.snap.twin with counts := Sparse.put zeroD t.snap.twin.counts (2 * p + b) 0 }

/-- The buffer holds the highest committed step of the partition. -/
def State.bufHighest (s : State) (p b : Nat) : Bool :=
  match s.bufCommitted p b, s.highCommitted p with | some x, some y => x == y | _, _ => false

/-- Add bytes to a buffer's count for a step: committed, overfull and emptied, or still filling. -/
def State.countBuf (s : State) (p b step n : Nat) : State × Bool :=
  let t := s.fillBuf p b step
  let c := Sparse.get zeroD t.snap.twin.counts (2 * p + b) + n
  let full := match t.snap.twin.far[p]? with | some f => f.shard | none => 0
  let t := t.setTwin { t.snap.twin with counts := Sparse.put zeroD t.snap.twin.counts (2 * p + b) c }
  if c = full then (t.put (mirrorStateF p b) 2, true)
  else if full < c then
    ((t.put (mirrorStateF p b) 0).event 0x0A02 (some p) (t.partCantle p) 0 (toLE 1 p ++ toLE 7 0 ++ toLE 8 step), false)
  else (t, false)

/-- The last number without a gap after x among those held; fuel bounds the run. -/
def noGap (held : List Nat) : Nat → Nat → Nat
  | 0, x => x
  | k + 1, x => if held.contains ((x + 1) % 2 ^ 32) then noGap held k ((x + 1) % 2 ^ 32) else x

/-- Note a mirror sequence number: the last one received without a gap, one more packet due an acknowledgement. -/
def State.noteMseq (s : State) (p m : Nat) : State :=
  let w := s.snap.twin
  let held := m :: Sparse.get (fun _ => []) w.ahead p
  let last := match Sparse.get (fun _ => none) w.rx p with
    | some x => noGap held held.length x
    | none => m
  s.setTwin { w with rx := Sparse.put (fun _ => none) w.rx p (some last), due := Sparse.put zeroD w.due p (Sparse.get zeroD w.due p + 1)
                     ahead := Sparse.put (fun _ => []) w.ahead p (held.filter (fun a => decide (2 ^ 31 ≤ (2 ^ 32 + last - a) % 2 ^ 32))) }

def State.lastMseq (s : State) (p : Nat) : Nat := (Sparse.get (fun _ => none) s.snap.twin.rx p).getD 0

/-- The first mirror packet of a port: data (commit = false) or COMMIT. -/
def State.findMirror (s : State) (n : Nat) (commit : Bool) : Option (Nat × Packet) :=
  s.findRx n (fun p => p.kind == 0x20 && !testBit p.kflags 0 && p.dest == s.node && ((MirrorHdr.ofBytes p.body).part == 3) == commit)

/-- MIRROR_DATA (R291): written into its buffer, or refused; a run in the evaluation window is discarded (R317). -/
def mirrorData (n : Nat) (s : State) : State :=
  match s.findMirror n false with
  | none => s
  | some (i, pk) =>
    match s.packetPart pk with
    | none => s.dropPacket n i pk (s.dropReason pk)
    | some p =>
      if s.ringStands then s
      else
        let h := MirrorHdr.ofBytes pk.body
        let d := (pk.body.drop 0x20).take h.bytes
        let t := s.consumeRx n i
        if s.inWindow p h.addr d.length then t.evalWinEvent p 0 n h.addr
        else
          match s.mirrorBuf p h.addr d.length with
          | none => t.sendMirrorAck p pk.job h.mseq 1 h.step
          | some b =>
            if s.bufHighest p b then t.sendMirrorAck p pk.job h.mseq 1 h.step
            else
              let t := (((t.fillBuf p b h.step).store h.addr d).countRemote h.addr d.length).noteMseq p h.mseq
              if 64 ≤ Sparse.get zeroD t.snap.twin.due p then t.sendMirrorAck p pk.job (t.lastMseq p) 0 h.step else t

/-- MIRROR_COMMIT (R292). -/
def mirrorCommit (n : Nat) (s : State) : State :=
  match s.findMirror n true with
  | none => s
  | some (i, pk) =>
    match s.packetPart pk with
    | none => s.dropPacket n i pk (s.dropReason pk)
    | some p =>
      if s.ringStands then s
      else
        let h := MirrorHdr.ofBytes pk.body
        let t := s.consumeRx n i
        match s.mirrorBuf p h.addr 1 with
        | none => t.sendMirrorAck p pk.job h.mseq 1 h.step
        | some b =>
          if s.bufHighest p b then t.sendMirrorAck p pk.job h.mseq 1 h.step
          else
            let r := (t.noteMseq p h.mseq).countBuf p b h.step h.bytes
            r.1.sendMirrorAck p pk.job (r.1.lastMseq p) (if r.2 then 2 else 0) h.step

/-- MIRROR_ACK_TIMER (R291): within 2 µs of a packet; a device in HELD acknowledges none (R320). -/
def mirrorAckTimer (p : Nat) (s : State) : State :=
  if s.isHeld ∨ Sparse.get zeroD s.snap.twin.due p = 0 then s
  else
    let b := if s.f (mirrorStateF p 0) = 1 then 0 else 1
    s.sendMirrorAck p (s.jobOf p) (s.lastMseq p) 0 (s.f (mirrorStepF p b))

/-- MIRROR_RESET (R315). -/
def mirrorReset (n : Nat) (s : State) : State :=
  match s.findNotice n 0x15 with
  | none => s
  | some (i, pk) =>
    let p := fieldLE pk.body 2 1
    let t := s.consumeRx n i
    if 4 ≤ p then t
    else
      let t := ((t.put (mirrorStateF p 0) 0).put (mirrorStateF p 1) 0)
      (t.put (mirrorStepF p 0) 0).put (mirrorStepF p 1) 0

/-- A local APPLY of w in a mirror buffer counts toward that buffer when it retires (R292). -/
def State.localCommit (s : State) (p a step n : Nat) : State :=
  match s.mirrorBuf p a 1 with
  | some b => (s.countBuf p b step n).1
  | none => s

/-! ### Handback (R298) -/

/-- Entries of a handback list: source, destination, bytes, kind; none where the list is malformed. -/
def State.handbackList (s : State) (a : Nat) : Option (List (Nat × Nat × Nat × Nat)) :=
  let h := s.bytes a 64
  let n := fieldLE h 2 2
  if fieldLE h 0 2 ≠ 1 ∨ n = 0 ∨ 1024 < n ∨ zeroAt h 4 60 = false then none
  else
    let es := (List.range n).map (fun k =>
      let e := s.bytes (a + 64 + 32 * k) 32
      (fieldLE e 0 8, fieldLE e 8 8, fieldLE e 0x10 8, fieldLE e 0x18 1, zeroAt e 0x19 7))
    if es.all (fun e => e.2.2.2.2 && decide (e.2.2.2.1 ≤ 1) && e.2.2.1 % 4096 == 0) then
      some (es.map (fun e => (e.1, e.2.1, e.2.2.1, e.2.2.2.1)))
    else none

/-- Ask the twin for a handback (R298): a destination outside the partition or inside its window fails it before anything is
sent. -/
def State.askHandback (s : State) (p list : Nat) : Option State :=
  match s.handbackList list with
  | none => none
  | some es =>
    if es.all (fun e => s.ownsRange p e.2.1 e.2.2.1 && !s.inWindow p e.2.1 e.2.2.1) then
      some (s.sendNotice (toLE 2 0x13 ++ toLE 1 p ++ toLE 8 list))
    else none

/-- The effect of setting SNAP_HANDBACK_n.go. -/
def State.handbackGo (s : State) (p : Nat) : State :=
  match s.askHandback p (s.rd (Reg.snapHandback p) / 64 * 64) with
  | some t => t.put (Fld.snapHandback_go p) 1
  | none => (s.put (Fld.snapHandback_go p) 0).put (Fld.snapHandback_refused p) 1

/-- HANDBACK_GO: a write of SNAP_HANDBACK_n with go set: the list address is taken, then the request goes. -/
def handbackGoWrite (w : Writer) (n v : Nat) (s : State) : State :=
  s.regWrite w (Reg.snapHandback n) v (fun t =>
    let t := if testBit v 1 then t.put (Fld.snapHandback_done n) 0 else t
    let t := if testBit v 2 then t.put (Fld.snapHandback_refused n) 0 else t
    let t := t.put (Fld.snapHandback_list n) (bits v 6 58)
    if testBit v 0 ∧ t.flag (Fld.snapHandback_go n) = false then t.handbackGo n else t)

/-- HANDBACK_REQ (R298): the twin sends the ranges and then HANDBACK_DONE, or refuses. -/
def handbackReq (n : Nat) (s : State) : State :=
  match s.findNotice n 0x13 with
  | none => s
  | some (i, pk) =>
    let p := fieldLE pk.body 2 1
    let list := fieldLE pk.body 3 8
    let t := s.consumeRx n i
    if s.isHeld then t
    else
      let done := fun (t : State) (r : Nat) => t.sendNotice (toLE 2 0x14 ++ toLE 1 p ++ toLE 1 r)
      match (if p < s.boot.partitions then s.handbackList list else none) with
      | none => done t Res.badField
      | some es =>
        let ok := es.all (fun e => s.ownsRange p e.1 e.2.2.1 && (e.2.2.2 == 1 || (s.mirrorBuf p e.1 e.2.2.1).isSome) &&
          !(s.inFlight.any (fun o => s.opPart o.2 == p && s.writesScope [(e.1, e.2.2.1)] o.2)))
        if ok then
          done (es.foldl (fun t e => ((chunks 16384 (t.bytes e.1 e.2.2.1)).zipIdx).foldl (fun t c =>
            (t.sendBoard (t.position ^^^ 1) (t.mkPacket (t.jobOf p) 0x21 t.twinNode (toLE 8 (e.2.1 + 16384 * c.2) ++ c.1)) none).countRemote
              (e.1 + 16384 * c.2) c.1.length) t) t) Res.ok
        else done t Res.badField

/-- HANDBACK_DONE (R298, R297): go clears; a dropped member of the partition may issue COLLECTIVEs again. -/
def handbackDone (n : Nat) (s : State) : State :=
  match s.findNotice n 0x14 with
  | none => s
  | some (i, pk) =>
    let p := fieldLE pk.body 2 1
    let r := fieldLE pk.body 3 1
    let t := s.consumeRx n i
    if 4 ≤ p then t
    else
      let t := match t.snap.restore with
        | some x => if x.part = p ∧ x.source = 3 then
            t.setSnap { t.snap with restore := some { x with handed := r == 0, bad := if r = 0 then x.bad else some Res.badField } } else t
        | none => t
      if t.flag (Fld.snapHandback_go p) = false then t
      else
        let t := t.put (Fld.snapHandback_go p) 0
        if r = 0 then
          (t.groupsOf (fun g => g.part == p && g.waitHandback)).foldl (fun t e => t.setGrp e.1 (some { e.2 with waitHandback := false }))
            (t.put (Fld.snapHandback_done p) 1)
        else t.put (Fld.snapHandback_refused p) 1

/-! ### The evaluation window (R318) -/

/-- EVALWIN_ENABLE: refused while an item in flight writes the window. -/
def evalwinEnable (w : Writer) (n : Nat) (s : State) : State :=
  s.regWrite w (Reg.snapEvalwinCtrl n) 1 (fun t =>
    let b := t.rd (Reg.snapEvalwinBase n)
    let l := t.rd (Reg.snapEvalwinLimit n)
    if t.inFlight.any (fun o => t.opPart o.2 == n && t.writesScope [(b, l - b)] o.2) then t.put (Fld.snapEvalwinCtrl_refused n) 1
    else t.put (Fld.snapEvalwinCtrl_enable n) 1)

/-- EVALWIN_DISABLE: at once. -/
def evalwinDisable (w : Writer) (n : Nat) (s : State) : State :=
  s.regWrite w (Reg.snapEvalwinCtrl n) 0 (fun t => t.put (Fld.snapEvalwinCtrl_enable n) 0)

end Sys2Proof.Machine
end

