-- ==== Sys2Proof/Machine/Image.lean ====
section
/-!
DEFINITION. The configuration image (chapter 14): directories, sections and records, the checks of R364 and R365, and how
records are applied to the device.
-/
namespace Sys2Proof.Machine

/-! ### Results (table Boot and security results) -/

def BRes.ok : Nat := 0
def BRes.badFormat : Nat := 1
def BRes.badSignature : Nat := 2
def BRes.keyRevoked : Nat := 3
def BRes.rollback : Nat := 4
def BRes.mismatch : Nat := 5
def BRes.busy : Nat := 6
def BRes.norError : Nat := 7
def BRes.activateFailed : Nat := 8
def BRes.nonce : Nat := 9
def BRes.lastKey : Nat := 10

/-! ### Where an image lies (R361) -/

/-- An unwritten byte of the NOR reads erased. -/
def norD : Nat → Byte := fun _ => 0xFF#8

/-- A reader of n bytes at an offset of the NOR map. -/
abbrev ImgReader := Nat → Nat → List Byte

def State.norRead (s : State) : ImgReader := fun a n => Sparse.getAll norD s.boot.nor a n

def State.stageRead (s : State) : ImgReader := fun a n => s.bytes (s.rd Reg.bootStageBase + a) n

def State.windowRead (s : State) : ImgReader := fun a n => Sparse.getAll (fun _ => 0#8) s.boot.window a n

def State.setBoot (s : State) (b : Boot) : State := { s with boot := b }

def State.norWrite (s : State) (a : Nat) (bs : List Byte) : State := s.setBoot { s.boot with nor := Sparse.putAll norD s.boot.nor a bs }

def fwOffset : Nat := 0x20000
def devOffset : Nat := 0x1800000

/-- Offset of section slot k of target t. -/
def slotOffset (t k : Nat) : Nat := 0x1900000 + 0x200000 * (2 * t + k)

/-- Offset and size limit of a section of a type in a slot. -/
def sectionPlace (typ slot : Nat) : Nat × Nat :=
  if typ = 1 then (fwOffset, 0x17E0000) else if typ = 2 then (devOffset, 0x100000) else (slotOffset (typ - 3) slot, 0x200000)

/-! ### Directories (R362) -/

/-- A directory copy as its first 0x850 bytes. -/
abbrev Dir := List Byte

def dirAt (rd : ImgReader) (copy : Nat) : Dir := rd (0x10000 * copy) 0x850

def Dir.entries (d : Dir) : Nat := fieldLE d 6 2
def Dir.generation (d : Dir) : Nat := fieldLE d 8 8
def Dir.svn (d : Dir) : Nat := fieldLE d 0x10 4
def Dir.clearLedger (d : Dir) : Bool := testBit (fieldLE d 0x14 4) 0
def Dir.commitSvn (d : Dir) : Bool := testBit (fieldLE d 0x14 4) 1
def Dir.fwVersion (d : Dir) : Nat := fieldLE d 0x18 8
def Dir.pub (d : Dir) : List Byte := (d.drop 0x20).take 64
def Dir.partitions (d : Dir) : Nat := fieldLE d 0x60 1
def Dir.sig (d : Dir) : List Byte := (d.drop 0x800).take 64

/-- Entry i: 64 bytes. -/
def Dir.entry (d : Dir) (i : Nat) : List Byte := (d.drop (0x100 + 64 * i)).take 64
def entType (e : List Byte) : Nat := fieldLE e 0 2
def entSlot (e : List Byte) : Nat := fieldLE e 2 1
def entLen (e : List Byte) : Nat := fieldLE e 4 4
def entDigest (e : List Byte) : List Byte := (e.drop 0x10).take 32

def Dir.all (d : Dir) : List (List Byte) := (List.range d.entries).map d.entry

/-- The entry of a section type. -/
def Dir.find (d : Dir) (typ : Nat) : Option (List Byte) := d.all.find? (fun e => entType e == typ)

/-- Magic, version, counts, and entries of known types, each once, within their places. -/
def Dir.formatOk (d : Dir) : Bool :=
  fieldLE d 0 4 == 0x49584256 && fieldLE d 4 2 == 1 && decide (3 ≤ d.entries) && decide (d.entries ≤ 7) &&
  (d.partitions == 1 || d.partitions == 2 || d.partitions == 4) &&
  d.all.all (fun e => decide (1 ≤ entType e) && decide (entType e ≤ 7) && decide (entSlot e ≤ (if entType e ≤ 2 then 0 else 1)) &&
    decide (entLen e ≤ (sectionPlace (entType e) (entSlot e)).2)) &&
  decide (d.all.map entType).Nodup && (d.find 1).isSome && (d.find 2).isSome

/-- The owner slot whose key signs the directory: valid and not revoked (R365 step 2). -/
def Dir.signer (d : Dir) (f : Fuses) : Option Nat :=
  (List.range 4).find? (fun k => testBit f.ownerValid k && !testBit f.ownerRevoked k && f.ownerHash.getD k [] == Config.sm3 d.pub)

/-- R365 steps 1 to 3; none: they hold. -/
def Dir.check (d : Dir) (f : Fuses) : Option Nat :=
  if !d.formatOk then some BRes.badFormat
  else if (d.signer f).isNone then some BRes.keyRevoked
  else if !Config.sm2Verify d.pub (d.take 0x800) d.sig then some BRes.badSignature else none

/-- The valid copy with the higher generation, and its number (R362). -/
def chooseDir (f : Fuses) (rd : ImgReader) : Option (Nat × Dir) :=
  let a := dirAt rd 0
  let b := dirAt rd 1
  match a.check f, b.check f with
  | none, none => if a.generation < b.generation then some (1, b) else some (0, a)
  | none, some _ => some (0, a)
  | some _, none => some (1, b)
  | some _, some _ => none

/-- The bytes of the section an entry names. -/
def sectionOf (rd : ImgReader) (e : List Byte) : List Byte := rd (sectionPlace (entType e) (entSlot e)).1 (entLen e)

/-- The partition sections present are exactly those of the partition count (R365 step 7). -/
def Dir.partsAgree (d : Dir) : Bool := (List.range 4).all (fun p => (d.find (3 + p)).isSome == decide (p < d.partitions))

/-- R365 steps 4 to 7 on the sections of a directory; none: they hold. -/
def Dir.checkSections (d : Dir) (f : Fuses) (rd : ImgReader) : Option Nat :=
  let fw := match d.find 1 with | some e => sectionOf rd e | none => []
  if !Config.sm2Verify Config.vendorKey (fw.take (fw.length - 64)) (fw.drop (fw.length - 64)) then some BRes.badSignature
  else if !d.all.all (fun e => Config.sm3 (sectionOf rd e) == entDigest e) then some BRes.mismatch
  else if d.svn < f.svn then some BRes.rollback
  else if !d.partsAgree then some BRes.mismatch else none

/-- R365 whole. -/
def Dir.checkImage (d : Dir) (f : Fuses) (rd : ImgReader) : Option Nat :=
  match d.check f with
  | some r => some r
  | none => d.checkSections f rd

/-! ### Sections and records (R363) -/

inductive ImgRec where
  | regs (off : Nat) (vals : List Nat)
  | table (code : Nat) (body : List Byte)
deriving DecidableEq, Repr

/-- The records of a section body, n of them; none where they do not parse. -/
def parseRecs : Nat → List Byte → Option (List ImgRec)
  | 0, _ => some []
  | n + 1, b =>
    if b.length < 8 then none
    else if fieldLE b 0 2 = 1 then
      let k := fieldLE b 2 2
      if b.length < 8 + 8 * k then none
      else (parseRecs n (b.drop (8 + 8 * k))).map
        (fun r => .regs (fieldLE b 4 4) ((List.range k).map (fun i => fieldLE b (8 + 8 * i) 8)) :: r)
    else if fieldLE b 0 2 = 2 then
      let len := fieldLE b 4 4
      if b.length < 8 + len then none
      else (parseRecs n (b.drop (8 + len))).map (fun r => .table (fieldLE b 2 2) ((b.drop 8).take len) :: r)
    else none

/-- The records of a section of a type. -/
def sectionRecs (typ : Nat) (b : List Byte) : Option (List ImgRec) :=
  if fieldLE b 0 2 ≠ typ ∨ fieldLE b 2 2 ≠ 1 ∨ b.length < 64 ∨ b.length < fieldLE b 4 4 then none
  else parseRecs (fieldLE b 4 4) (b.drop 64)

/-! ### Applying records (R364, R253) -/

/-- What a section is for: the device, a partition, or transit. -/
inductive Target where
  | device
  | part (p : Nat)
  | transit
deriving DecidableEq, Repr

/-- What a register's fields must hold together: the shares of R145 sum to 100, every partition weight is at least 1 (R327), and
release_c is below throttle_c. -/
def imageFieldsAgree (off v : Nat) : Bool :=
  if off = Reg.strmSplit then decide (bits v 0 8 + bits v 8 8 + bits v 16 8 = 100)
  else if off = Reg.reinCfg then (List.range 4).all (fun p => decide (0 < bits v (4 * p) 4))
  else if off = Reg.thmCfg then decide (bits v 8 8 < bits v 0 8)
  else true

/-- Every field takes a permitted encoding, read-only ones included (R7, R363). -/
def imageEncodingsOk (off v : Nat) : Bool :=
  match regAt off with
  | none => false
  | some r => r.fields.all (fun f => decide (f.least ≤ bits v f.lo f.width) && decide (bits v f.lo f.width ≤ f.most)) && imageFieldsAgree off v

/-- The defined fields of a register taken from a value, the rest zero. -/
def fieldsOf (off v : Nat) : Nat :=
  match regAt off with
  | none => 0
  | some r => r.fields.foldl (fun acc f => acc + bits v f.lo f.width * 2 ^ f.lo) 0

/-- An instance belongs to the target, or to none that has started, so that its section may take it. -/
def State.mayTake (s : State) (p : Nat) (o : Option Nat) : Bool :=
  match o with
  | some q => q == p || !(s.part q).started
  | none => true

/-- One register of a register record. -/
def State.applyReg (s : State) (t : Target) (off v : Nat) : Option State :=
  match regAt off with
  | none => none
  | some r =>
    let x := fieldsOf off v
    let after := s.wr off x
    let allowed := match t with
      | .device => r.scope == .device
      | .part p => r.scope == .part && s.mayTake p (s.instOwner r.base (r.index off)) && after.instOwner r.base (r.index off) == some p
      | .transit => false
    if !allowed || !imageEncodingsOk off v then none
    else if off = Reg.lnkNodeId then some (s.put Fld.lnkNodeId_board (bits x 3 29))
    else some after

def State.applyRegs (s : State) (t : Target) (off : Nat) : List Nat → Option State
  | [] => some s
  | v :: vs => (s.applyReg t off v).bind (fun u => u.applyRegs t (off + 8) vs)

/-- A group as its table loads it. -/
def Group.fresh (b : List Byte) : Group := ⟨b, none, none, 0, [], [], [], false, false, false, [], [], false, []⟩

/-- The primary and spare routes of this device's own leg leave on ports the partition owns (R253). -/
def State.routesOwned (s : State) (p : Nat) (g : Group) : Bool :=
  [g.ent g.self 4 2, g.ent g.self 6 2].all (fun r => r == 0xFFFF || s.portOwner (routePort r) == some p)

/-- A group table (R263). -/
def State.applyGroup (s : State) (p : Nat) (b : List Byte) : Option State :=
  let g := Group.fresh b
  let mine : Bool := match s.grp (fieldLE b 6 2) with | some x => x.part == p | none => true
  if fieldLE b 0 2 = 1 ∧ 1 ≤ g.n ∧ g.n ≤ 4096 ∧ b.length = 64 + 32 * g.n ∧ g.part = p ∧ g.self < g.n ∧ mine
  then some (s.setGrp (fieldLE b 6 2) (some g)) else none

/-- One reach path entry: an XP port of the partition and its expected far node. -/
def State.applyReach (s : State) (p : Nat) (e : List Byte) : Option State :=
  let n := fieldLE e 0 1
  if 8 ≤ n ∧ n ≤ 11 ∧ s.portOwner n = some p then
    some ((s.put (Fld.lnkReach_expected_far (n - 8)) (fieldLE e 4 4)).put (Fld.lnkReach_expected_valid (n - 8)) 1)
  else none

/-- One job slot entry: a MEMBER slot of the partition, or a TRANSIT slot; a FREE entry empties one. -/
def State.applySlot (s : State) (t : Target) (e : List Byte) : Option State :=
  let v := fieldLE e 0 8
  let j := bits v 58 6
  let kind := bits v 16 2
  let now := s.f (Fld.lnkSlot_kind j)
  let ok := match t with
    | .device => false
    | .part p => (kind == 0 || (kind == 1 && bits v 18 2 == p)) && (now == 0 || (now == 1 && s.f (Fld.lnkSlot_partition j) == p))
    | .transit => (kind == 0 || kind == 2) && (now == 0 || now == 2)
  if ok then some (s.wr (Reg.lnkSlot j) (v % 2 ^ 38)) else none

/-- Fold a partial step over a list. -/
def foldOpt {α : Type} (f : State → α → Option State) : List α → State → Option State
  | [], s => some s
  | x :: xs, s => (f s x).bind (foldOpt f xs)

/-- One record of a section. -/
def State.applyRec (t : Target) (s : State) (r : ImgRec) : Option State :=
  match r with
  | .regs off vals => s.applyRegs t off vals
  | .table 1 b => (match t with | .part p => s.applyGroup p b | _ => none)
  | .table 2 b => (match t with
    | .part p => if b.length % 8 = 0 then foldOpt (fun u e => u.applyReach p e) (chunks 8 b) s else none
    | _ => none)
  | .table 3 b => if b.length % 8 = 0 then foldOpt (fun u e => u.applySlot t e) (chunks 8 b) s else none
  | .table _ _ => none

/-- What holds of the device once a section's records are in: R30's sum, and R253 for the partition's groups. -/
def State.sectionHolds (s : State) (t : Target) : Bool :=
  decide (((List.range 64).map (fun q => s.f (Fld.wqCfg_min_slots q))).foldl (· + ·) 0 ≤ 4096) &&
  (match t with
   | .part p => (s.groupsOf (fun g => g.part == p)).all (fun e => s.routesOwned p e.2)
   | _ => true)

/-- Apply records; none where one breaks the limits of R364. -/
def State.applyRecs (s : State) (t : Target) (rs : List ImgRec) : Option State :=
  (foldOpt (State.applyRec t) rs s).bind (fun u => if u.sectionHolds t then some u else none)

/-- Apply the section of a directory entry type; none where it is invalid. -/
def State.applySection (s : State) (t : Target) (typ : Nat) (b : List Byte) : Option State :=
  (sectionRecs typ b).bind (s.applyRecs t)

/-- The target a section type serves. -/
def targetOf (typ : Nat) : Target := if typ = 2 then .device else if typ = 7 then .transit else .part (typ - 3)

/-! ### Measurements (R380) and fuses -/

/-- The 32 bytes of measurement m. -/
def State.measurement (s : State) (m : Nat) : List Byte := (List.range 4).flatMap (fun w => toLE 8 (s.rd (Reg.secMeas (4 * m + w))))

/-- M <- SM3(M, digest). -/
def State.extend (s : State) (m : Nat) (digest : List Byte) : State :=
  let d := Config.sm3 (s.measurement m ++ digest)
  (List.range 4).foldl (fun t w => t.wr (Reg.secMeas (4 * m + w)) (fieldLE d (8 * w) 8)) s

/-- What the SEC registers show of the fuses. -/
def State.showFuses (s : State) : State :=
  let t := (((s.put Fld.secStatus_owner_valid s.fuses.ownerValid).put Fld.secStatus_owner_revoked s.fuses.ownerRevoked).put
    Fld.secStatus_fused_svn s.fuses.svn).put Fld.secSerial_serial s.fuses.serial
  let t := t.put Fld.hostMac_mac s.fuses.mac
  (List.range 8).foldl (fun t i => t.wr (Reg.secIdPub i) (fieldLE s.fuses.idPub (8 * i) 8)) t

/-- Raise the fused security version; it is never lowered (R366). -/
def State.raiseSvn (s : State) (v : Nat) : State :=
  ({ s with fuses := { s.fuses with svn := max s.fuses.svn (min v 63) } }).showFuses

/-- Fresh random value (R357, R384). -/
def State.random (s : State) : State × Nat := (s.useFresh 1, (Config.randomWord s.fresh).toNat)

/-- A partition holds no item in flight. -/
def State.idlePart (s : State) (p : Nat) : Bool := !s.inFlight.any (fun e => s.opPart e.2 == p)

end Sys2Proof.Machine
end

