-- ==== Sys2Proof/Machine/Snapshot.lean ====
section
/-!
DEFINITION. Snapshots, the flash log, shipping, restore, the lead lease and HELD (chapter 12).
-/
namespace Sys2Proof.Machine

def State.setFlash (s : State) (f : Flash) : State := s.setSnap { s.snap with flash := f }

/-- Bytes of the meta area of a slot (R300). -/
def metaBytes : Nat := 0x1000000

/-- Bytes of one compute stack's window of the interleaved view (R207). -/
def csBytes : Nat := 0x004800000000

/-- The lowest compute stack of a partition. -/
def State.lowCs (s : State) (p : Nat) : Nat := p * s.csPerPart

/-- Start and end of slot k's segment in a compute stack (R300). -/
def State.segment (s : State) (cs k : Nat) : Nat × Nat :=
  let n := s.rd (Reg.snapSlotBytes cs)
  let b := s.rd (Reg.snapSaddle cs) / 0x80000 * 0x80000 + k * n
  (b, b + n)

/-! ### The scope list (R301) -/

/-- Entries of a scope list. -/
def scopeEntries (b : List Byte) : List (Nat × Nat) := (chunks 16 b).map (fun e => (fieldLE e 0 8, fieldLE e 8 8))

/-- A region lies in the interleaved view within one compute stack of the partition, aligned to 4 KiB. -/
def State.regionOk (s : State) (p : Nat) (r : Nat × Nat) : Bool :=
  r.1 % 4096 == 0 && r.2 % 4096 == 0 && decide (r.1 + r.2 ≤ 4 * csBytes) && decide (r.1 < 4 * csBytes) &&
  (r.2 == 0 || r.1 / csBytes == (r.1 + r.2 - 1) / csBytes) && s.partOfCs (r.1 / csBytes) == p && s.ownsRange p r.1 r.2

/-- Place the regions, one cursor per compute stack: each at the lowest address at or above the cursor that is congruent to
the region's modulo 512 KiB; none where a segment is too small. -/
def State.placeRegions (s : State) (k : Nat) : List (Nat × Nat) → List (Nat × Nat) → Option (List Nat)
  | [], _ => some []
  | r :: rs, cur =>
    let cs := r.1 / csBytes
    let c := Sparse.get (fun _ => 0) cur cs
    let a := c + (r.1 % 0x80000 + 0x80000 - c % 0x80000) % 0x80000
    if (s.segment cs k).2 < a + r.2 then none
    else (State.placeRegions s k rs (Sparse.put (fun _ => 0) cur cs (a + r.2))).map (fun l => a :: l)

/-- The cursors at the start of a slot. -/
def State.cursors (s : State) (p k : Nat) : List (Nat × Nat) :=
  (s.csOf p).foldl (fun m cs => Sparse.put (fun _ => 0) m cs ((s.segment cs k).1 + (if cs = s.lowCs p then metaBytes else 0))) []

/-- The regions of a list and their places; none where it breaks R301. -/
def State.readScope (s : State) (p k a n : Nat) : Option (List (Nat × Nat) × List Nat) :=
  let rs := scopeEntries (s.bytes a (16 * n))
  if rs.all (s.regionOk p) then (s.placeRegions k rs (s.cursors p k)).map (fun l => (rs, l)) else none

/-! ### SNAPSHOT -/

def slotStateF (i : Nat) : FieldRef := Fld.snapSlotState_state i

/-- SNAPSHOT (R301, R302): issues once every earlier item of its partition that writes its scope has retired and its slot is
not DRAINING; a bad list, or a count that has run out, fails it with no side effects; else the stop begins. -/
def opSnapshot (slot : Nat) (s : State) : State :=
  match s.issuable slot 6 with
  | none => s
  | some o =>
    let p := s.opPart o
    let k := o.b 0x20 1
    let i := 4 * p + k
    let a := o.b 0x28 8
    let n := o.b 0x30 4
    let id := Sparse.get zeroD s.snap.flash.next p
    let scope := scopeEntries (s.bytes a (16 * n))
    if s.f (slotStateF i) = 4 ∨ (s.stopOf p).isSome ∨
        s.inFlight.any (fun e => s.opPart e.2 == p && decide (e.2.admitNo < o.admitNo) && s.writesScope scope e.2) then s
    else if s.poisoned a (16 * n) then (s.issue slot).finish slot Res.hwFault
    else
      match s.readScope p k a n with
      | none => (s.issue slot).finish slot Res.badField
      | some (rs, places) =>
        if 0x3FFFFF < id then (s.issue slot).finish slot Res.badField
        else
          let t := (s.issue slot).put (slotStateF i) 1
          let full := s.fuses.serial % 2 ^ 40 * 2 ^ 24 + p * 2 ^ 22 + id
          t.setStop p (some ⟨slot, o.admitNo, k, o.b 0x21 1, rs, places, s.now, false, full⟩)

/-! ### The image (R306) -/

/-- A meta section. -/
def metaSection (typ : Nat) (b : List Byte) : List Byte := toLE 2 typ ++ toLE 6 0 ++ toLE 8 b.length ++ b

/-- The latest step record of a partition and its body. -/
def State.lastStepRecord (s : State) (p : Nat) : Option (List Byte) :=
  let h := s.rd (Reg.steprecHead p)
  if h = 0 then none
  else
    let a := s.rd (Reg.steprecBase p) / 256 * 256 + 256 * ((h - 1) % 2 ^ s.f (Fld.steprecCfg_size_log2 p))
    let r := s.bytes a 256
    some (r ++ s.bytes (fieldLE r 0x38 8) (fieldLE r 0xC0 8))

/-- Port ownership of a partition: one 8-byte entry per port it owns (assumption 16). -/
def State.ownershipBytes (s : State) (p : Nat) : List Byte :=
  ((List.range 12).filter (fun n => s.portOwner n == some p)).flatMap (fun n => toLE 1 n ++ toLE 7 0)

/-- Reach path entries of its ports, as R363's table code 2. -/
def State.reachBytes (s : State) (p : Nat) : List Byte :=
  ((List.range 4).filter (fun i => s.portOwner (8 + i) == some p && s.flag (Fld.lnkReach_expected_valid i))).flatMap
    (fun i => toLE 1 (8 + i) ++ toLE 3 0 ++ toLE 4 (s.f (Fld.lnkReach_expected_far i)))

/-- Its MEMBER slots, as R363's table code 3. -/
def State.slotBytes (s : State) (p : Nat) : List Byte :=
  ((List.range 64).filter (fun j => s.f (Fld.lnkSlot_kind j) == 1 && s.f (Fld.lnkSlot_partition j) == p)).flatMap
    (fun j => toLE 8 (s.rd (Reg.lnkSlot j) % 2 ^ 38 + j * 2 ^ 58))

/-- The groups of a partition, ascending. -/
def State.groupsOfPart (s : State) (p : Nat) : List (Nat × Group) := s.groupsOf (fun g => g.part == p)

def State.scalars (s : State) (p : Nat) : List Byte :=
  toLE 8 (s.rd (Reg.stepN p)) ++ toLE 8 (s.rd (Reg.rngSeed p)) ++ toLE 8 (s.rd (Reg.dataPos p)) ++ toLE 8 (s.rd (Reg.numpol p))

/-- The meta sections as captured. -/
def State.metaSections (s : State) (p : Nat) (withRecord : Bool) : List Byte :=
  (match (if withRecord then s.lastStepRecord p else none) with | some r => metaSection 1 r | none => []) ++
  metaSection 2 ((s.groupsOfPart p).flatMap (fun e => e.2.table)) ++ metaSection 3 (s.ownershipBytes p) ++
  metaSection 4 (s.reachBytes p) ++ metaSection 5 (s.slotBytes p) ++ metaSection 6 (s.scalars p)

def directoryBytes (rs : List (Nat × Nat)) : List Byte := rs.flatMap (fun r => toLE 8 r.1 ++ toLE 8 r.2)

/-- The image header. -/
def State.imageHeader (s : State) (p : Nat) (r : StopRun) (flags metaLen : Nat) : List Byte :=
  toLE 2 1 ++ toLE 1 flags ++ toLE 1 p ++ toLE 1 (((s.csOf p).map (2 ^ ·)).foldl (· + ·) 0) ++ toLE 1 0 ++ toLE 2 r.regions.length ++
  toLE 8 r.id ++ toLE 8 (s.rd (Reg.stepN p)) ++ toLE 4 s.node ++
  toLE 2 (match s.groupsOfPart p with | e :: _ => e.2.job | [] => 0) ++ toLE 2 0 ++
  toLE 8 metaLen ++ toLE 8 ((r.regions.map Prod.snd).foldl (· + ·) 0) ++ toLE 8 s.now ++ List.replicate 4040 0#8

def State.metaArea (s : State) (p k : Nat) : Nat := (s.segment (s.lowCs p) k).1

/-- Passes of a partition's arrays in flight, or a vector in progress on its engines. -/
def State.partBusy (s : State) (p : Nat) : Bool :=
  (s.csOf p).any (fun a => !(s.arr a).flight.isEmpty) ||
  (s.csOf p).any (fun c => (List.range 16).any (fun e => (s.eng (16 * c + e)).tasks.any (fun t => t.pos != 0)))

/-- SNAPSHOT_QUIESCED (R303): the header and the meta sections are captured into the meta area. -/
def snapshotQuiesced (p : Nat) (s : State) : State :=
  match s.stopOf p with
  | none => s
  | some r =>
    if r.captured ∨ s.partBusy p ∨ s.serving = false then s
    else
      let want := testBit r.options 1
      let has := want && (s.lastStepRecord p).isSome
      let m := s.metaSections p has
      let h := s.imageHeader p r (if has then 1 else 0) (m.length + 16 * r.regions.length)
      let t := s.store (s.metaArea p r.k) (h ++ m)
      let i := 4 * p + r.k
      let t := ((t.putB (Fld.snapSlotState_step_record i) has).wr (Reg.snapSlotStep i) (s.rd (Reg.stepN p))).put (slotStateF i) 1
      t.setStop p (some { r with captured := true })

/-- Copy one region, poison included (R216, R212, R304); answers whether any was carried. -/
def State.copyRegion (s : State) (src dst n : Nat) : State × Bool :=
  let bad := (List.range (n / 32)).filter (fun j => s.poisonedAt (src + 32 * j))
  (bad.foldl (fun t j => t.setPoison (dst + 32 * j) true) (s.store dst (s.bytes src n)), !bad.isEmpty)

/-- Bytes a set of records takes on a log of a capacity: a SKIP takes what is left before the wrap point (R305). -/
def logBytes (cap : Nat) (l : List LogRec) : Nat :=
  (l.map (fun r => if r.typ = 4 then cap - r.at_ else 4096 * ceilDiv (64 + r.payload.length) 4096)).foldl (· + ·) 0

/-- Refresh what the flash registers show. -/
def State.flashShow (s : State) : State :=
  let f := s.snap.flash
  let st := s.f Fld.snapFlashStatus_state
  let used := logBytes (s.rd Reg.snapFlashCap) f.log
  let t := if st = 0 ∨ st = 5 then s else s.put Fld.snapFlashStatus_state
    (match f.draining.isEmpty, f.ships.isEmpty with | true, true => 1 | false, true => 2 | true, false => 3 | false, false => 4)
  (t.put Fld.snapFlashStatus_snapshots (min 0xFFF (f.log.filter (fun r => r.typ == 3)).length)).wr Reg.snapFlashUsed used

/-- The regions copied into the slot, the directory after the meta sections and the flags in the header; whether poison was
carried. -/
def State.sealCopy (s : State) (p : Nat) (r : StopRun) : State × Bool :=
  let u := (r.regions.zip r.places).foldl (fun x e => let y := x.1.copyRegion e.1.1 e.2 e.1.2; (y.1, x.2 || y.2)) (s, false)
  let m := s.metaArea p r.k
  let metaLen := s.word (m + 0x20) 8
  let t := u.1.store (m + 4096 + (metaLen - 16 * r.regions.length)) (directoryBytes r.regions)
  (t.store (m + 2) (toLE 1 (s.word (m + 2) 1 % 2 + (if u.2 then 2 else 0) + 4)), u.2)

/-- The slot is VALID with its identifier, the count moves on, and the stop ends with its time counted. -/
def State.sealSlot (s : State) (p : Nat) (r : StopRun) (poison : Bool) : State :=
  let i := 4 * p + r.k
  let t := ((s.put (slotStateF i) 2).putB (Fld.snapSlotState_poison i) poison).wr (Reg.snapSlotId i) r.id
  let t := t.setFlash { t.snap.flash with next := Sparse.put zeroD t.snap.flash.next p (r.id % 2 ^ 22 + 1) }
  ((t.put (Fld.snapStopStat_last_stop_us p) ((s.now - r.since) / 475)).bumpSat (Fld.snapStopStat_stops p) 1).setStop p none

/-- SNAPSHOT_SEAL (R303): the copy and the directory are written, the slot is VALID with its identifier, the stop ends and
the SNAPSHOT completes with the bytes moved; the drain begins when asked. -/
def snapshotSeal (p : Nat) (s : State) : State :=
  match s.stopOf p with
  | none => s
  | some r =>
    if r.captured = false ∨ s.serving = false then s
    else
      let i := 4 * p + r.k
      let u := s.sealCopy p r
      let t := ((u.1.sealSlot p r u.2).addDetail r.slot ((r.regions.map Prod.snd).foldl (· + ·) 0)).finish r.slot Res.ok
      if testBit r.options 0 then
        ((t.put (slotStateF i) 4).setFlash { t.snap.flash with draining := t.snap.flash.draining ++ [i] }).flashShow
      else t

/-! ### The Cithes log (R305 to R308) -/

/-- Header bytes 0x00 to 0x2F of a record: the additional authenticated data. -/
def LogRec.aad (r : LogRec) (plainLen : Nat) : List Byte :=
  toLE 4 0x43544853 ++ toLE 2 1 ++ toLE 1 r.typ ++ toLE 1 r.flags ++ toLE 8 r.seq ++ toLE 8 r.id ++ toLE 4 r.index ++
  toLE 4 plainLen ++ toLE 8 r.off ++ toLE 1 r.keySlot ++ toLE 7 0

/-- Whole bytes of a record: header and payload, padded to a multiple of 4 KiB. -/
def LogRec.toBytes (r : LogRec) : List Byte :=
  let b := r.aad r.payload.length ++ padTo 16 r.tag ++ r.payload
  padTo (4096 * ceilDiv b.length 4096) b

/-- A record parsed from its bytes; none where the magic or version is wrong. -/
def LogRec.ofBytes (b : List Byte) : Option LogRec :=
  if fieldLE b 0 4 ≠ 0x43544853 ∨ fieldLE b 4 2 ≠ 1 then none
  else some ⟨fieldLE b 6 1, fieldLE b 7 1, fieldLE b 8 8, fieldLE b 0x10 8, fieldLE b 0x18 4, fieldLE b 0x20 8, fieldLE b 0x28 1,
    (b.drop 0x40).take (fieldLE b 0x1C 4), (b.drop 0x30).take 16, 0⟩

/-- The IV of a record. -/
def LogRec.iv (r : LogRec) : List Byte := toLE 8 r.id ++ toLE 4 r.index

/-- Seal a record's plaintext under a key. -/
def LogRec.seal (r : LogRec) (key plain : List Byte) : LogRec :=
  let c := Config.sm4Seal key r.iv (r.aad plain.length) plain
  { r with payload := c.take plain.length, tag := c.drop plain.length }

/-- Open a record under a key. -/
def LogRec.open_ (r : LogRec) (key : List Byte) : Option (List Byte) :=
  Config.sm4Open key r.iv (r.aad r.payload.length) r.payload r.tag

/-- A key slot's key; none where it is empty (R385). -/
def State.key (s : State) (k : Nat) : Option (List Byte) :=
  let b := Sparse.get (fun _ => []) s.sec.keys k
  if b.isEmpty then none else some b

/-- The plaintext records of an image: BEGIN, SEGMENTs of 1 MiB, END. -/
def imageRecords (id keySlot flags : Nat) (img : List Byte) (seq : Nat) : List (LogRec × List Byte) :=
  let segs := (chunks 0x100000 (img.drop 4096)).zipIdx
  let fin := toLE 8 img.length ++ toLE 4 segs.length ++ toLE 20 0 ++ padTo 32 (Config.sm3 img)
  let fl := 1 + (if testBit flags 1 then 2 else 0)
  [(⟨1, fl, seq, id, 0, 0, keySlot, [], [], 0⟩, img.take 4096)] ++
  segs.map (fun e => (⟨2, fl, seq + 1 + e.2, id, 1 + e.2, 4096 + 0x100000 * e.2, keySlot, [], [], 0⟩, e.1)) ++
  [(⟨3, fl, seq + 1 + segs.length, id, 1 + segs.length, img.length, keySlot, [], [], 0⟩, fin)]

/-- Place records on the log from an offset: one that would pass the wrap point is preceded by a SKIP and starts at 0.  Answers them
with their running numbers, and the new tail (R305). -/
def placeLog (cap : Nat) : Nat → Nat → List (LogRec × List Byte) → List (LogRec × List Byte) × Nat
  | t, _, [] => ([], t)
  | t, q, (r, b) :: rs =>
    let n := 4096 * ceilDiv (64 + b.length) 4096
    if cap < t + n then
      let u := placeLog cap n (q + 2) rs
      ((⟨4, 0, q, r.id, 0, 0, r.keySlot, [], [], t⟩, []) :: ({ r with seq := q + 1, at_ := 0 }, b) :: u.1, u.2)
    else
      let u := placeLog cap (t + n) (q + 1) rs
      (({ r with seq := q, at_ := t }, b) :: u.1, u.2)

/-- The image in a saddlebag slot: header, meta sections and directory, region data in list order. -/
def State.saddleImage (s : State) (p k : Nat) : List Byte :=
  let m := s.metaArea p k
  let metaLen := s.word (m + 0x20) 8
  let n := s.word (m + 6) 2
  let rs := scopeEntries (s.bytes (m + 4096 + (metaLen - 16 * n)) (16 * n))
  match s.placeRegions k rs (s.cursors p k) with
  | some ps => s.bytes m (4096 + metaLen) ++ (rs.zip ps).flatMap (fun e => s.bytes e.2 e.1.2)
  | none => []

/-- Trim whole snapshots, oldest first, until the log has room; those pinned or read by a SHIP are kept (R307). -/
def trimLog (need cap : Nat) (keep : Nat → Bool) : Nat → List LogRec → List LogRec
  | 0, l => l
  | n + 1, l =>
    if need + logBytes cap l ≤ cap then l
    else match l.find? (fun r => !keep r.id) with
      | some r => trimLog need cap keep n (l.filter (fun x => x.id != r.id))
      | none => l

/-- DRAIN_COMPLETE (R307): the image is written to the log with END last, the anchor updated and the slot DRAINED; without
room the slot stays VALID and full is set. -/
def drainComplete (i : Nat) (s : State) : State :=
  let f := s.snap.flash
  if f.draining.contains i = false ∨ s.f Fld.thmSaveStatus_state ≠ 0 ∨ s.isHeld then s
  else
    let p := i / 4
    let id := s.rd (Reg.snapSlotId i)
    let ks := s.f (Fld.snapCfg_drain_key_slot p)
    let img := s.saddleImage p (i % 4)
    let out := fun (t : State) => t.setFlash { t.snap.flash with draining := t.snap.flash.draining.filter (· != i) }
    match s.key ks with
    | none => ((out (s.put (slotStateF i) 2)).flashShow).generic Blk.snap (some p) i id Res.badField
    | some key =>
      let cap := s.rd Reg.snapFlashCap
      let pl := placeLog cap f.tail f.nextSeq (imageRecords id ks (fieldLE img 2 1) img f.nextSeq)
      let rs := pl.1.map (fun e => if e.1.typ = 4 then e.1 else e.1.seal key e.2)
      let log := trimLog (logBytes cap rs) cap (fun x => f.pins.contains x || f.ships.any (fun h => h.id == x)) f.log.length f.log
      if logBytes cap rs + logBytes cap log ≤ cap then
        (out ((s.setFlash { f with log := log ++ rs, nextSeq := f.nextSeq + rs.length, tail := pl.2,
                                   ends := ((log ++ rs).head?.elim 0 LogRec.at_, pl.2)
                                   anchor := Sparse.put zeroD f.anchor p (Sparse.get zeroD f.next p) }).put (slotStateF i) 5)).flashShow
      else
        ((out (((s.setFlash { f with log := log }).put (slotStateF i) 2).put Fld.snapFlashStatus_full 1)).flashShow).event
          0x0A04 (some p) (s.partCantle p) 0 (toLE 8 id)

/-- SNAP_PIN (R307, R422): pins the snapshot SNAP_PIN_ID names; a sixty-fifth pin is ignored with an event. -/
def snapPin (w : Writer) (go : Bool) (s : State) : State :=
  let id := s.rd Reg.snapPinId
  let v := if go then 0x80000001 else 1
  if !s.mayWriteS w || !s.writerPasses w (bits id 22 2) then s.badWrite Reg.snapPinCmd v
  else if !go ∨ s.snap.flash.pins.contains id then s
  else if 64 ≤ s.snap.flash.pins.length then s.badWrite Reg.snapPinCmd v
  else s.setFlash { s.snap.flash with pins := s.snap.flash.pins ++ [id] }

/-- SNAP_UNPIN. -/
def snapUnpin (w : Writer) (go : Bool) (s : State) : State :=
  let id := s.rd Reg.snapPinId
  if !s.mayWriteS w || !s.writerPasses w (bits id 22 2) then s.badWrite Reg.snapPinCmd (if go then 0x80000000 else 0)
  else if go then s.setFlash { s.snap.flash with pins := s.snap.flash.pins.filter (· != id) } else s

/-- SNAP_COUNT_FLOOR_WRITE (R309): ignored when lower, or while a SNAPSHOT of the partition is in flight. -/
def snapCountFloorWrite (w : Writer) (n v : Nat) (s : State) : State :=
  s.regWrite w (Reg.snapCountFloor n) v (fun t =>
    let x := bits v 0 22
    if x < t.f (Fld.snapCountFloor_floor n) ∨ t.inFlight.any (fun e => t.opPart e.2 == n && e.2.opcode == 6) then
      t.badWrite (Reg.snapCountFloor n) v
    else
      (t.put (Fld.snapCountFloor_floor n) x).setFlash { t.snap.flash with next := Sparse.put zeroD t.snap.flash.next n (max x (Sparse.get zeroD t.snap.flash.next n)) })

/-! ### Shipping (R310) -/

/-- A record under the SHIP's key: unchanged, or opened and sealed again with its IV; none where its tag fails. -/
def State.reseal (s : State) (r : LogRec) (ks : Nat) : Option LogRec :=
  if r.keySlot = ks then some r
  else match s.key r.keySlot, s.key ks with
    | some a, some b => (r.open_ a).map (fun p => { r with keySlot := ks }.seal b p)
    | _, _ => none

def mapAll {α β : Type} (f : α → Option β) : List α → Option (List β)
  | [] => some []
  | x :: xs => (f x).bind (fun y => (mapAll f xs).map (fun l => y :: l))

/-- The records of a snapshot on the log; empty unless it has its END. -/
def Flash.sealed (f : Flash) (id : Nat) : List LogRec :=
  let l := f.log.filter (fun r => r.id == id && decide (1 ≤ r.typ) && decide (r.typ ≤ 3))
  if l.any (fun r => r.typ == 3) then l else []

/-- A snapshot is still draining. -/
def State.drainingId (s : State) (id : Nat) : Bool := s.snap.flash.draining.any (fun i => s.rd (Reg.snapSlotId i) == id)

/-- SHIP (R310): the records but END go out in log order by RDMA WRITE; a snapshot still draining is waited for. -/
def opShip (slot : Nat) (s : State) : State :=
  match s.issuable slot 7 with
  | none => s
  | some o =>
    let id := o.b 0x20 8
    let q := o.b 0x28 2
    let ks := o.b 0x2B 1
    let rkey := o.b 0x38 4
    let addr := o.b 0x30 8
    let rs := s.snap.flash.sealed id
    if s.drainingId id then s
    else if rs.isEmpty then (s.issue slot).finish slot Res.badField
    else if s.f (Fld.hostQpCfg_state q) = 2 then (s.issue slot).finish slot Res.hwFault
    else if s.qpReady q = false then s
    else
      match mapAll (fun r => s.reseal r ks) rs with
      | none => (s.issue slot).finish slot Res.hwFault
      | some out =>
        let body := out.filter (fun r => r.typ != 3)
        let fin := out.filter (fun r => r.typ == 3)
        let u := body.foldl (fun (x : State × Nat) r =>
          let b := r.toBytes
          (x.1.request q (.write q rkey x.2 b none) b.length 0, x.2 + b.length)) (s.issue slot, addr)
        ((u.1.addDetail slot (u.2 - addr)).setFlash { u.1.snap.flash with
          ships := u.1.snap.flash.ships ++ [⟨slot, o.admitNo, id, q, rkey, ks, u.2, fin⟩] }).flashShow

/-- SHIP_END (R310): END goes out as a WRITE-with-immediate carrying snapshot_id bits [31:0]. -/
def shipEnd (slot : Nat) (s : State) : State :=
  match s.snap.flash.ships.find? (fun h => h.slot == slot) with
  | none => s
  | some h =>
    match h.left with
    | [] => s
    | r :: _ =>
      if s.qpReady h.qp = false ∨ s.f Fld.thmSaveStatus_state ≠ 0 ∨ s.isHeld then s
      else
        let b := r.toBytes
        let t := s.request h.qp (.write h.qp h.rkey h.at_ b (some (h.id % 2 ^ 32))) b.length 0
        let t := t.addDetail slot b.length
        t.setFlash { t.snap.flash with ships := t.snap.flash.ships.map (fun x => if x.slot = slot then { x with left := [] } else x) }

/-- End the SHIPs on a queue pair: with every request acknowledged, or because the queue pair has failed. -/
def State.endShips (s : State) (q result : Nat) (all : Bool) : State :=
  let done := s.snap.flash.ships.filter (fun h => h.qp == q && (all || h.left.isEmpty))
  let t := s.setFlash { s.snap.flash with ships := s.snap.flash.ships.filter (fun h => !(h.qp == q && (all || h.left.isEmpty))) }
  (done.foldl (fun t h => t.finish h.slot result) t).flashShow

/-! ### Restore (R311 to R315) -/

def State.setRestore (s : State) (r : Option Restore) : State := s.setSnap { s.snap with restore := r }

/-- The restore ends with a result, refused or done; the sequencer is free. -/
def State.restoreEnd (s : State) (phase result : Nat) : State :=
  let t := ((s.put Fld.snapRestoreStatus_phase phase).put Fld.snapRestoreStatus_result result).setRestore none
  t.setBoot { t.boot with seqUse := none }

/-- SNAP_RESTORE_GO with go set (R311, R422, R386): accepted while the partition holds no item in flight (R313 excepted),
the sequencer is free and the counter is the partition's. -/
def State.restoreGo (s : State) (w : Writer) (p ctr : Nat) : State :=
  let v := p + 256 * ctr + 2 ^ 31
  if !s.mayWriteS w || !s.writerPasses w p || s.snap.restore.isSome then s.badWrite Reg.snapRestoreGo v
  else
    let tens := s.flag Fld.snapRestoreSrc_tensors_only
    let refuse := fun r => (s.put Fld.snapRestoreStatus_phase 6).put Fld.snapRestoreStatus_result r
    if !(s.part p).started || !s.serving || s.boot.seqUse.isSome || (!tens && !s.idlePart p) then refuse Res.badField
    else if s.ctrPart ctr ≠ some p then refuse Res.counterForeign
    else
      let r : Restore := ⟨p, s.f Fld.snapRestoreSrc_source, s.f Fld.snapRestoreSrc_slot, tens, s.f Fld.snapRestoreSrc_qp,
        s.f Fld.snapRestoreSrc_rkey, s.rd Reg.snapRestoreAddr, ctr, [], none, false⟩
      let t := ((s.put Fld.snapRestoreStatus_phase 1).put Fld.snapRestoreStatus_result 0).setRestore (some r)
      t.setBoot { t.boot with seqUse := some .restore }

/-- The write is the row's when SNAP_RESTORE_SRC names its source. -/
def restoreSaddle (w : Writer) (p ctr : Nat) (s : State) : State :=
  if s.f Fld.snapRestoreSrc_source = 0 then s.restoreGo w p ctr else s

def restoreFlash (w : Writer) (p ctr : Nat) (s : State) : State :=
  if s.f Fld.snapRestoreSrc_source = 1 then s.restoreGo w p ctr else s

/-- Ask the store for n bytes more of the object (R314). -/
def State.askStore (s : State) (r : Restore) (off n : Nat) : State :=
  s.request r.qp (.readReq r.qp r.rkey (r.addr + off) n) n off

/-- RESTORE_REMOTE: reading begins with the BEGIN record. -/
def restoreRemote (w : Writer) (p ctr : Nat) (s : State) : State :=
  if s.f Fld.snapRestoreSrc_source = 2 then
    let t := s.restoreGo w p ctr
    match s.snap.restore, t.snap.restore with
    | none, some r => if t.qpReady r.qp then t.askStore r 0 8192 else t.restoreEnd 6 Res.hwFault
    | _, _ => t
  else s

def restoreTwin (w : Writer) (p ctr : Nat) (s : State) : State :=
  if s.f Fld.snapRestoreSrc_source = 3 then s.restoreGo w p ctr else s

/-- The 1-byte type and body of each meta section. -/
def metaParse : Nat → List Byte → List (Nat × List Byte)
  | 0, _ => []
  | n + 1, b =>
    if b.length < 16 then []
    else let k := fieldLE b 8 8
         (fieldLE b 0 2, (b.drop 16).take k) :: metaParse n (b.drop (16 + k))

/-- What a restore checks and applies, from an image's header, meta sections and directory. -/
structure SnapImage where
  header : List Byte
  metas : List (Nat × List Byte)
  regions : List (Nat × Nat)
deriving DecidableEq, Repr

/-- An image's meta part from its bytes (header, meta sections, directory). -/
def SnapImage.ofBytes (b : List Byte) : SnapImage :=
  let metaLen := fieldLE b 0x20 8
  let n := fieldLE b 6 2
  let body := (b.drop 4096).take metaLen
  ⟨b.take 4096, metaParse 6 (body.take (metaLen - 16 * n)), scopeEntries (body.drop (metaLen - 16 * n))⟩

def SnapImage.section (x : SnapImage) (t : Nat) : List Byte := match x.metas.find? (fun e => e.1 == t) with | some e => e.2 | none => []

/-- The CRC of a step record. -/
def stepRecordOk (b : List Byte) : Bool := fieldLE b 0 2 == 1 && fieldLE b 0xFC 4 == crc32c (b.take 0xFC)

/-- Why VERIFY refuses an image (R312); none: it passes.  Checked in the order R312 lists. -/
def State.verifyImage (s : State) (p : Nat) (tens : Bool) (x : SnapImage) : Option Nat :=
  let rec_ := x.section 1
  let csMask := ((s.csOf p).map (2 ^ ·)).foldl (· + ·) 0
  if fieldLE x.header 0 2 ≠ 1 ∨ fieldLE x.header 3 1 ≠ p ∨ fieldLE x.header 4 1 ≠ csMask ∨ testBit (fieldLE x.header 2 1) 2 = false ∨
      (tens = false ∧ fieldLE (x.section 6) 24 8 ≠ s.rd (Reg.numpol p)) ∨
      (testBit (fieldLE x.header 2 1) 0 ∧ stepRecordOk rec_ = false) ∨
      (tens = false ∧ (chunks 8 (x.section 3)).any (fun e => match s.portOwner (fieldLE e 0 1) with | some o => o != p | none => false)) then
    some Res.badField
  else if testBit (fieldLE x.header 2 1) 0 ∧ fieldLE rec_ 0x20 8 ≠ fieldLE rec_ 8 8 then some Res.counterMismatch
  else if x.regions.any (fun r => !s.ownsRange p r.1 r.2) then some Res.addrForeign
  else if x.regions.any (fun r => s.inWindow p r.1 r.2) then some Res.writeProtect
  else if testBit (fieldLE x.header 2 1) 1 then some Res.hwFault else none

/-- Parse the records of an object as sent. -/
def parseObject : Nat → List Byte → List LogRec
  | 0, _ => []
  | n + 1, b =>
    match LogRec.ofBytes b with
    | some r => r :: parseObject n (b.drop (4096 * ceilDiv (64 + r.payload.length) 4096))
    | none => []

/-- Bytes of an object whose image has metaLen bytes of meta and dataLen of data. -/
def objectBytes (metaLen dataLen : Nat) : Nat :=
  let n := metaLen + dataLen
  8192 + n / 0x100000 * 4096 * 257 + (if n % 0x100000 = 0 then 0 else 4096 * ceilDiv (64 + n % 0x100000) 4096) + 4096

/-- The plaintext image that a set of records holds: every tag checked, then the digest of END; none where one fails. -/
def State.openImage (s : State) (rs : List LogRec) : Option (List Byte) :=
  match mapAll (fun r => (s.key r.keySlot).bind r.open_) (rs.filter (fun r => r.typ != 3)),
        (rs.find? (fun r => r.typ == 3)).bind (fun r => (s.key r.keySlot).bind r.open_) with
  | some ps, some e =>
    let img := ps.flatten
    if fieldLE e 0 8 = img.length ∧ (e.drop 32).take 32 = padTo 32 (Config.sm3 img) then some img else none
  | _, _ => none

/-- The records a restore reads: of the log, or of the object as read so far. -/
def State.restoreRecords (s : State) (r : Restore) : List LogRec :=
  if r.source = 1 then s.snap.flash.sealed r.addr else parseObject (r.image.length / 4096) r.image

/-- Open a record under the key of its slot. -/
def State.openRec (s : State) (r : LogRec) : Option (List Byte) := (s.key r.keySlot).bind r.open_

/-- Whole bytes of the object a restore from REMOTE reads, once its BEGIN record has come and opens. -/
def State.objectNeed (s : State) (r : Restore) : Option Nat :=
  match parseObject 1 r.image with
  | x :: _ => (s.openRec x).map (fun h => objectBytes (fieldLE h 0x20 8) (fieldLE h 0x28 8))
  | [] => none

/-- Take bytes of the object and ask for the next, at most 1 MiB at a time. -/
def State.restoreData (s : State) (data : List Byte) : State :=
  match s.snap.restore with
  | none => s
  | some r =>
    let r := { r with image := r.image ++ data }
    let t := s.setRestore (some r)
    match t.objectNeed r with
    | some n => if r.image.length < n then t.askStore r r.image.length (min (n - r.image.length) 0x100000) else t
    | none => t

/-- The first part of a restore's image, header through region directory, or the result that refuses it: the slot's state, the
seal, the keys, and the tags of the records it lies in (R312, R314, R385). -/
def State.restoreMeta (s : State) (r : Restore) : Except Nat (List Byte) :=
  if r.source = 0 then
    let st := s.f (slotStateF (4 * r.part + r.slot))
    if st = 2 ∨ st = 5 then
      let m := s.metaArea r.part r.slot
      .ok (s.bytes m (4096 + s.word (m + 0x20) 8))
    else .error Res.badField
  else
    let rs := s.restoreRecords r
    if (rs.any (fun x => x.typ == 3)) = false ∨ rs.any (fun x => (s.key x.keySlot).isNone) then .error Res.badField
    else match rs with
      | [] => .error Res.badField
      | b :: segs =>
        match s.openRec b with
        | none => .error Res.hwFault
        | some h =>
          match mapAll s.openRec (segs.take (ceilDiv (fieldLE h 0x20 8) 0x100000)) with
          | some ps => .ok (h ++ ps.flatten)
          | none => .error Res.hwFault

/-- The image flags ports, groups, reach paths and job slots as a delta's records would (R311, R372). -/
def State.applyRouting (s : State) (p : Nat) (x : SnapImage) : Option State :=
  let ports := (chunks 8 (x.section 3)).map (fun e => fieldLE e 0 1)
  let t := (List.range 12).foldl (fun t n =>
    if ports.contains n then (t.put (Fld.lnkCfg_owner n) p).put (Fld.lnkCfg_owned n) 1
    else if t.portOwner n = some p then t.put (Fld.lnkCfg_owned n) 0 else t) s
  let t := (t.groupsOfPart p).foldl (fun t e => t.setGrp e.1 none) t
  let t := (List.range 64).foldl (fun t j => if t.f (Fld.lnkSlot_kind j) = 1 ∧ t.f (Fld.lnkSlot_partition j) = p then t.wr (Reg.lnkSlot j) 0 else t) t
  let rec tables : Nat → List Byte → List ImgRec := fun n b => match n with
    | 0 => []
    | n + 1 => if b.length < 64 then [] else
        let k := 64 + 32 * fieldLE b 2 2
        .table 1 (b.take k) :: tables n (b.drop k)
  t.applyRecs (.part p) (tables 256 (x.section 2) ++ [.table 2 (x.section 4), .table 3 (x.section 5)])

/-- A delta of a partition is in force that NOR does not hold. -/
def State.markDiverged (s : State) (p : Nat) (b : Bool) : State := s.putB ⟨Reg.bootStatus, 9 + p, 1⟩ b

/-- The state words of the active partition section in NOR, for a restore from TWIN (R315). -/
def State.activeSection (s : State) (p : Nat) : Option (List Byte) := (Dir.find s.boot.runDir (3 + p)).map (sectionOf s.norRead)

/-- Write the regions of an image from its data. -/
def State.writeRegions (s : State) (rs : List (Nat × Nat)) (data : List Byte) : State :=
  (rs.foldl (fun (x : State × List Byte) r => (x.1.store r.1 (x.2.take r.2), x.2.drop r.2)) (s, data)).1

/-- The step, seed and data position a restore gives a partition: the image's scalars, or from TWIN the mirror's next step (R315). -/
def State.restoreScalars (s : State) (r : Restore) (x : SnapImage) : State :=
  let p := r.part
  if r.source = 3 then
    let high := match s.snap.twin.far[p]? with | some f => f.high | none => 0
    let u := s.useFresh 2
    ((u.wr (Reg.stepN p) (high + 1)).wr (Reg.rngSeed p) (Config.freeWord s.fresh).toNat).wr (Reg.dataPos p) (Config.freeWord (s.fresh + 1)).toNat
  else
    ((s.wr (Reg.stepN p) (fieldLE x.header 0x10 8)).wr (Reg.rngSeed p) (fieldLE (x.section 6) 8 8)).wr (Reg.dataPos p) (fieldLE (x.section 6) 16 8)

/-- The partition's dependency counters at zero. -/
def State.clearCounters (s : State) (p : Nat) : State :=
  (List.range (s.f (Fld.ctrRange_count p))).foldl (fun u k => u.wr (Reg.depctr (s.f (Fld.ctrRange_first p) + k)) 0) s

/-- The draw positions of the partition's contexts at zero. -/
def State.clearDraws (s : State) (p : Nat) : State :=
  { s with strm := { s.strm with ctxs := s.strm.ctxs.map (fun e => if e.2.partition = p then (e.1, { e.2 with rngPos := 0, rngStep := none }) else e) } }

/-- What earlier steps left is forgotten: books, samples, taints and discards. -/
def State.forgetSteps (s : State) (p : Nat) : State :=
  let h : Health := { s.health with awl := s.health.awl.filter (fun a => a.part != p), books := s.health.books.filter (fun b => b.part != p) }
  let r : Red := { s.red with
    taints := s.red.taints.filter (fun a => a.part != p)
    taintFull := s.red.taintFull.filter (fun a => a.1 != p)
    discarded := s.red.discarded.filter (fun a => a.1 != p) }
  { s with health := h, red := r }

/-- No STEP fence has closed and the twin has committed nothing since the restore. -/
def State.restartFences (s : State) (p : Nat) : State :=
  let u := s.setPart p { s.part p with lastStepFence := none, closedStep := none }
  u.setTwin { u.snap.twin with committed := Sparse.put (fun _ => false) u.snap.twin.committed p false }

/-- FINISH (R311, R315): scalars and counters, the mode, MIRROR_RESET, the signal counter and the notice. -/
def State.restoreFinish (s : State) (r : Restore) (x : SnapImage) : State :=
  let p := r.part
  let t : State := if r.tensorsOnly then s else
    ((((((s.restoreScalars r x).clearCounters p).clearDraws p).forgetSteps p).restartFences p).sendMirrorReset p).modeUpdate p
  let t := (t.wr (Reg.depctr r.ctr) ((t.rd (Reg.depctr r.ctr) + 1) % 2 ^ 32)).wake
  (t.genericNotice Blk.snap p Reg.snapRestoreGo 0 Res.ok).restoreEnd 5 Res.ok

/-- A failure once TENSORS has begun (R312): the scope regions are undefined. -/
def State.tensorsFail (s : State) (x : SnapImage) (result : Nat) : State :=
  (x.regions.foldl (fun (t : State) r => t.storeFree r.1 r.2) s).restoreEnd 6 result

/-- The image a running restore works from. -/
def State.restoreImage (s : State) (r : Restore) : SnapImage :=
  match s.restoreMeta r with | .ok b => SnapImage.ofBytes b | .error _ => ⟨[], [], []⟩

/-- A refusal of R312, with EV-0x0804 where the record's counters disagree (R185). -/
def State.restoreVerifyFail (s : State) (p e : Nat) (x : SnapImage) : State :=
  let b := x.section 1
  let t := if e = Res.counterMismatch then
      s.event 0x0804 (some p) (s.partCantle p) 0 (toLE 8 (fieldLE b 8 8) ++ toLE 8 (fieldLE b 0x20 8)) else s
  t.restoreEnd 6 e

/-- VERIFY ends: refused with its result and no side effects, or ROUTING begins. -/
def State.restoreVerify (s : State) (r : Restore) : State :=
  if r.source = 3 then
    match s.handbackList r.addr with
    | none => s.restoreEnd 6 Res.badField
    | some es =>
      if es.all (fun e => s.ownsRange r.part e.2.1 e.2.2.1) = false then s.restoreEnd 6 Res.addrForeign
      else if es.any (fun e => s.inWindow r.part e.2.1 e.2.2.1) then s.restoreEnd 6 Res.writeProtect
      else s.put Fld.snapRestoreStatus_phase 2
  else if r.source == 2 && (match s.objectNeed r with | some n => decide (r.image.length < n) | none => decide (r.image.length < 8192)) then s
  else
    match s.restoreMeta r with
    | .error e => s.restoreEnd 6 e
    | .ok b =>
      let x := SnapImage.ofBytes b
      match s.verifyImage r.part r.tensorsOnly x with
      | some e => s.restoreVerifyFail r.part e x
      | none =>
        if r.tensorsOnly ∧ s.inFlight.any (fun o => s.opPart o.2 == r.part && s.touchesScope true x.regions o.2) then
          s.restoreEnd 6 Res.badField
        else s.put Fld.snapRestoreStatus_phase 2

/-- Groups, ownership, reach paths and job slots applied as a delta of the partition (R311, R372); from TWIN the active section
of the configuration image (R315). -/
def State.routed (s : State) (r : Restore) : Option State :=
  if r.source = 3 then
    match s.activeSection r.part with
    | some b => s.applySection (.part r.part) (3 + r.part) b
    | none => none
  else s.applyRouting r.part (s.restoreImage r)

/-- TENSORS begins; from TWIN by a handback. -/
def State.beginTensors (s : State) (r : Restore) : State :=
  let t := s.put Fld.snapRestoreStatus_phase 3
  if r.source = 3 then (match t.askHandback r.part r.addr with | some u => u | none => t.restoreEnd 6 Res.badField) else t

/-- ROUTING ends. -/
def State.restoreRouting (s : State) (r : Restore) : State :=
  if r.tensorsOnly then s.beginTensors r
  else if s.idlePart r.part = false then s
  else
    match s.routed r with
    | some t => (t.markDiverged r.part true).beginTensors r
    | none => (s.generic Blk.snap (some r.part) Reg.snapRestoreGo 0 Res.badField).restoreEnd 6 Res.badField

/-- TENSORS ends: the regions are written; a tag or digest that fails leaves them undefined (R312). -/
def State.restoreTensors (s : State) (r : Restore) : State :=
  let x := s.restoreImage r
  if r.source = 3 then
    match r.bad with
    | some e => s.restoreEnd 6 e
    | none => if r.handed then s.put Fld.snapRestoreStatus_phase 4 else s
  else if r.source = 0 then
    match s.placeRegions r.slot x.regions (s.cursors r.part r.slot) with
    | none => s.tensorsFail x Res.hwFault
    | some ps => ((x.regions.zip ps).foldl (fun t e => (t.copyRegion e.2 e.1.1 e.1.2).1) s).put Fld.snapRestoreStatus_phase 4
  else
    match s.openImage (s.restoreRecords r) with
    | some img =>
      let t := s.writeRegions x.regions (img.drop (4096 + fieldLE x.header 0x20 8))
      (if r.source = 2 then x.regions.foldl (fun t e => t.countRemote e.1 e.2) t else t).put Fld.snapRestoreStatus_phase 4
    | none => s.tensorsFail x Res.hwFault

/-- RESTORE_PHASE_END (R314): the present phase completes and the next starts. -/
def restorePhaseEnd (s : State) : State :=
  match s.snap.restore with
  | none => s
  | some r =>
    if s.isHeld ∨ s.f Fld.thmSaveStatus_state ≠ 0 then s
    else
      let ph := s.f Fld.snapRestoreStatus_phase
      if ph = 1 then s.restoreVerify r
      else if ph = 2 then s.restoreRouting r
      else if ph = 3 then s.restoreTensors r
      else if ph = 4 then s.restoreFinish r (s.restoreImage r)
      else s

/-! ### The lead lease and HELD (R319, R320) -/

/-- LEASE_RENEWAL: every 1 µs across the girth bridge. -/
def leaseRenewal (s : State) : State :=
  if s.boot.leadClaimed ∧ s.isHeld = false then s.setBoot { s.boot with renewedAt := s.now } else s

/-- LEASE_RENEWAL_MISSED: cause 0 both control processors claim, 1 Pommel saw no renewal for 10 µs, 2 Cantle saw none.  Before
the first claim or grant nothing can be missed, and a claim by CPP that the bridge refuses is no claim. -/
def leaseRenewalMissed (cause : Nat) (s : State) : State :=
  if s.boot.leadClaimed = false ∨ (cause = 0 ∧ s.boot.cppRefused) ∨ s.isHeld then s
  else
    let t := (s.put Fld.snapHeld_held 1).put
      (if cause = 0 then Fld.snapHeld_dual_claim else if cause = 1 then Fld.snapHeld_lost_pommel else Fld.snapHeld_lost_cantle) 1
    let t := (t.put Fld.evrecStatus_held_writer 1).clocks
    let t := t.event 0x0A06 none (cause == 2) 0 (toLE 4 (t.rd Reg.snapHeld))
    t.sendTwinFailed 0

end Sys2Proof.Machine
end

