-- ==== Sys2Proof/Machine/Update.lean ====
section
/-!
DEFINITION. COLMAX, which derives scales and narrows (R161, R219, R220), and APPLY, the optimizer update with its mirror
(R221 to R224, R290 to R292).
-/
namespace Sys2Proof.Machine

/-! ### COLMAX: what is read -/

/-- An element of a read: its value, its delivered index in the operation, where it lies, and whether its scaled value went
beyond FP32. -/
structure ColElem where
  val : Val
  index : Nat
  src : Nat
  beyond : Bool
deriving DecidableEq, Repr

/-- A column of a read: its K elements in order. -/
abbrev Column := List ColElem

/-- The value of element i of a source descriptor as COLMAX takes it, and whether it overflowed (R60, R161); stored dimension 1 is
the scaled index and stored dimension 0 runs along the K-chunks. -/
def State.colmaxVal (s : State) (h : Bool) (d : Desc) (pl : Option Plane) (i a : Nat) : Val × Bool :=
  match d.fmt with
  | none => (.nan, false)
  | some f =>
    let v := (f.decode (s.word a f.bytes)).flush h f
    match pl with
    | none => (v, false)
    | some q =>
      let c0 := d.counts.headD 1
      let c1 := d.counts.getD 1 1
      let b := i / (c0 * c1)
      let r := i % (c0 * c1)
      let k := if d.xpose then r / c1 else r % c0
      let row := b * c1 + (if d.xpose then r % c1 else r / c0)
      let t := BitVec.ofNat 32 (s.word (q.tBase + 4 * (row / 128 * q.chunks + k / 1024)) 4)
      let code := s.word (q.qBase + row * q.chunks + k / 1024) 1
      if scaleZero h code then (val32 h (scalePass h v code code t 0x3F800000#32), false)
      else
        let x := scaledVal h f (s.word a f.bytes) code t
        (val32 h (fp32 h x), x.isFin && isInf32 (fp32 h x))

/-- Columns of one descriptor: delivered dimension 0 is the column index and dimension 1 the reduction index; further
dimensions give further columns.  base is the delivered index of its first element. -/
def State.colmaxCols (s : State) (h : Bool) (d : DescP) (base : Nat) : List Column :=
  let sh := d.1.delivered
  let nd := (sh.getD 0 (1, 0)).1
  let kd := (sh.getD 1 (1, 0)).1
  let vals : List ColElem := (d.1.addrs.zipIdx).map (fun e =>
    let v := s.colmaxVal h d.1 d.2 e.2 e.1
    ⟨v.1, base + e.2, e.1, v.2⟩)
  (List.range (vals.length / max 1 (nd * kd))).flatMap (fun b =>
    (List.range nd).map (fun n => (List.range kd).map (fun k => vals.getD (b * nd * kd + n + nd * k) ⟨.nan, 0, 0, false⟩)))

def State.colmaxRead (s : State) (h : Bool) : List DescP → Nat → List Column
  | [], _ => []
  | d :: ds, base => s.colmaxCols h d base ++ s.colmaxRead h ds (base + d.1.elements)

/-- A fault of a source descriptor: format, planes, their count and their place. -/
def State.colmaxSource (s : State) (p : Nat) (d : DescP) : Option Nat :=
  let c0 := d.1.counts.headD 1
  let narrow := d.1.fmtCode == 2 || d.1.fmtCode == 3
  if !(d.1.fmtCode == 0 || d.1.fmtCode == 1 || narrow) then some Res.badField
  else
    match d.2 with
    | none => if narrow then some Res.badField else none
    | some q =>
      let rows := d.1.elements / max 1 c0
      if !narrow || q.chunks != ceilDiv c0 1024 then some Res.badField
      else
        match s.planeAddrFault p false q rows with
        | some c => some c
        | none =>
          if s.poisoned q.qBase (rows * q.chunks) || s.poisoned q.tBase (4 * ceilDiv rows 128 * q.chunks) then some Res.hwFault
          else if (s.bytes q.qBase (rows * q.chunks)).any (fun b => b == 0xFF#8) then some Res.badField
          else none

/-! ### COLMAX: scales and narrowing -/

/-- Scales of one K-chunk of a 128-column tile: T as an FP32 word, and q per column (R64). -/
def colScales (h : Bool) (q : Nat) (mags : List (Nat × Nat)) : Word32 × List Nat :=
  let a := maxMag (mags.map (fun m => .fin false m.1 m.2))
  if a.1 = 0 then (0x3F800000#32, mags.map (fun _ => 0))
  else
    let te := tileExp q a.1 a.2
    (fp32 false (pow2 te), mags.map (fun m => rowScale h q te m.1 m.2))

/-- One E2M1 segment of up to 1,024 quotients with their rounding modes (R65, R67): bytes, and whether some block did not fit. -/
def e2m1Segment (ys : List (Val × Rnd)) : List Byte × Bool :=
  let full := ys ++ List.replicate (1024 - ys.length) (Val.zero false, Rnd.rne)
  let blks := (chunks 32 full).map (fun b =>
    let m := maxMag (b.map Prod.fst)
    let u := microExp m.1 m.2
    (u, b.map (fun y => (Fmt.e2m1.convert y.2 (y.1.div (pow2 u))).bits), decide (384 * m.2 < m.1)))
  let els := blks.flatMap (fun b => b.2.1)
  let codes := blks.map (fun b => (b.1 + 8).toNat)
  let pack := fun (l : List Nat) => (chunks 2 l).map (fun p => BitVec.ofNat 8 (p.getD 0 0 + 16 * p.getD 1 0))
  (pack els ++ pack codes, blks.any (fun b => b.2.2))

/-- The plane descriptor alone that a planes_only COLMAX consumes, with the head after it (R219): none while it cannot be had. -/
def State.takePlane (s : State) (i : Nat) : Option (Except (Nat × Bool) (Plane × Nat)) :=
  let c := s.ctx i
  if c.state ≠ 1 then some (.error (Res.contextInvalid, false))
  else if c.head = c.tail then none
  else
    match s.entryAt c (s.slotCan i 1) c.head with
    | none => none
    | some none => some (.error (Res.hwFault, false))
    | some (some bs) =>
      if fieldLE bs 0x3C 4 ≠ c.head then some (.error (Res.badField, true))
      else if planeEncodingOk bs = false then some (.error (Res.badField, false))
      else some (.ok (Plane.parse bs, (c.head + 1) % 2 ^ 32))

/-- Columns of one destination descriptor: the first one's place among all of the operation's, their planes, and, for a
narrowing, the unit addresses and the delivered index of the first element. -/
structure ColGroup where
  first : Nat
  cols : List Column
  plane : Plane
  units : Option (List Nat × Nat)
deriving DecidableEq, Repr

/-- One output of a narrowing: its address and bytes, whether it saturated, and whether a block of it did not fit. -/
structure ColOut where
  addr : Nat
  bytes : List Byte
  sat : Bool
  span : Bool
deriving DecidableEq, Repr

/-- Split the columns among the destination descriptors; none where one does not hold whole columns, or, with elements in the
source's order, the whole of the source's planes of columns. -/
def colGroups (fmt : Nat) : List DescP → List Column → Nat → Nat → Option (List ColGroup)
  | [], [], _, _ => some []
  | [], _, _, _ => none
  | d :: ds, cols, first, base =>
    let kd := (cols.headD []).length
    let n := d.1.elements / max 1 kd
    let mine := cols.take n
    match d.2 with
    | none => none
    | some pl =>
      if n * kd ≠ d.1.elements ∨ mine.length ≠ n ∨ (fmt = 5 ∧ d.1.counts.headD 1 ≠ kd) ∨
          (fmt ≠ 5 ∧ mine.any (fun c => c.any (fun e => decide (e.index < base) || decide (base + d.1.elements ≤ e.index)))) then none
      else
        match colGroups fmt ds (cols.drop n) (first + n) (base + d.1.elements) with
        | some gs => some (⟨first, mine, pl, some (d.1.addrs, base)⟩ :: gs)
        | none => none

/-- K-chunks of a group. -/
def ColGroup.chunks (g : ColGroup) : Nat := ceilDiv (g.cols.headD []).length 1024

/-- Elements of column j in K-chunk c. -/
def ColGroup.chunk (g : ColGroup) (j c : Nat) : List ColElem := ((g.cols.getD j []).drop (1024 * c)).take 1024

/-- The maximum of column j in K-chunk c, over its finite elements. -/
def ColGroup.mag (g : ColGroup) (j c : Nat) : Nat × Nat := maxMag ((g.chunk j c).map ColElem.val)

/-- Stage 1 of a COLMAX: the entry of every column and K-chunk, at aux_addr (R219). -/
def ColGroup.entries (g : ColGroup) (aux : Nat) : List (Nat × List Byte) :=
  (List.range g.cols.length).flatMap (fun j => (List.range g.chunks).map (fun c =>
    (aux + 4 * ((g.first + j) * g.chunks + c), toLE 4 (fp32 false (.fin false (g.mag j c).1 (g.mag j c).2)).toNat)))

/-- Stage 2: T and q of each 128-column tile and K-chunk (R64, R219). -/
def ColGroup.scales (g : ColGroup) (h : Bool) (f : Fmt) : List (List (Word32 × List Nat)) :=
  (List.range (ceilDiv g.cols.length 128)).map (fun t => (List.range g.chunks).map (fun c =>
    colScales h f.scaleQ ((List.range (min 128 (g.cols.length - 128 * t))).map (fun j => g.mag (128 * t + j) c))))

/-- T of column j in K-chunk c. -/
def tScale (sc : List (List (Word32 × List Nat))) (j c : Nat) : Word32 := ((sc.getD (j / 128) []).getD c (0#32, [])).1

/-- q of column j in K-chunk c. -/
def qScale (sc : List (List (Word32 × List Nat))) (j c : Nat) : Nat := (((sc.getD (j / 128) []).getD c (0#32, [])).2).getD (j % 128) 0

/-- The planes that stage 2 writes (R60). -/
def ColGroup.planes (g : ColGroup) (sc : List (List (Word32 × List Nat))) : List (Nat × List Byte) :=
  (List.range g.cols.length).flatMap (fun j => (List.range g.chunks).map (fun c =>
    (g.plane.qBase + j * g.chunks + c, toLE 1 (qScale sc j c)))) ++
  (List.range (ceilDiv g.cols.length 128)).flatMap (fun t => (List.range g.chunks).map (fun c =>
    (g.plane.tBase + 4 * (t * g.chunks + c), toLE 4 (tScale sc (128 * t) c).toNat)))

/-- Stage 3: the elements under their scales; mode is the rounding of each (R56, R67, R219, R220).  An E2M1 segment with an
element that is not finite stays unwritten. -/
def ColGroup.narrow (g : ColGroup) (h : Bool) (fmt : Nat) (sc : List (List (Word32 × List Nat))) (mode : Nat → Rnd) : List ColOut :=
  let f := fmtD fmt
  match g.units with
  | none => []
  | some (us, base) =>
    if fmt = 5 then
      (List.range g.cols.length).flatMap (fun j => (List.range g.chunks).flatMap (fun c =>
        if (g.chunk j c).any (fun e => !e.val.isFin) then []
        else
          let seg := e2m1Segment ((g.chunk j c).map (fun e => (scaledElem h e.val (qScale sc j c) (tScale sc j c), mode e.index)))
          [⟨us.getD (j * g.chunks + c) 0, seg.1, seg.2, seg.2⟩]))
    else
      (g.cols.zipIdx).flatMap (fun e => (e.1.zipIdx).map (fun v =>
        let y := scaledElem h v.1.val (qScale sc e.2 (v.2 / 1024)) (tScale sc e.2 (v.2 / 1024))
        let k := flushBits h f v.1.val.sign (f.convert (mode v.1.index) y)
        ⟨us.getD (v.1.index - base) 0, toLE f.bytes k.bits, k.sat, false⟩))

/-- Set a SEN flag of the stacks of some addresses. -/
def State.senFlag (s : State) (fr : Nat → FieldRef) (as : List Nat) : State :=
  ((as.map (fun a => (stackOf a).getD 0)).dedup).foldl (fun t k => t.put (fr k) 1) s

/-- A COLMAX whose inputs are taken and checked: its writes, flags and end (R219, R220).  Poison met in stage 1 ends it before
anything but entries is written, and those are undefined. -/
def State.colmaxRun (s : State) (slot : Nat) (o : Op) (gs : List ColGroup) (fmt base : Nat) (poison : Bool) (ss ds : List DescP) : State :=
  let p := s.opPart o
  let h := s.heritage p
  let aux := o.b 0x38 8
  let size := 4 * ((gs.map (fun g => g.cols.length * g.chunks)).foldl (· + ·) 0)
  if poison then (s.storeFree aux size).finish slot Res.hwFault
  else
    let mode := fun (e : Nat) => if o.b 0x29 1 % 2 = 1 then Rnd.stoch (drawElem (s.seed p) (s.rngStep p o.stamp) (o.b 0x24 4) base e) else Rnd.rne
    let scs := gs.map (fun g => g.scales h (fmtD fmt))
    let outs := (gs.zip scs).flatMap (fun g => g.1.narrow h fmt g.2 mode)
    let els := (gs.flatMap (fun g => g.cols)).flatten
    let t := (s.writeUnits (gs.flatMap (fun g => g.entries aux) ++ (gs.zip scs).flatMap (fun g => g.1.planes g.2) ++
      outs.map (fun w => (w.addr, w.bytes)))).noteOut slot ((aux, size) :: gs.flatMap (fun g =>
        [(g.plane.qBase, g.cols.length * g.chunks), (g.plane.tBase, 4 * ceilDiv g.cols.length 128 * g.chunks)]))
    let high := els.filter ColElem.beyond
    let t := ((t.senFlag Fld.senFlags_sat (high.map ColElem.src ++ (outs.filter ColOut.sat).map ColOut.addr)).senFlag Fld.senFlags_nonfinite
      ((els.filter (fun e => !e.val.isFin && !e.beyond)).map ColElem.src)).senFlag Fld.senFlags_e2m1_span ((outs.filter ColOut.span).map ColOut.addr)
    let t := if !high.isEmpty || outs.any (fun w => w.sat || w.span) then t.trigger slot else t
    (t.moved slot (o.b 0x20 4) (o.b 0x24 4) (o.b 0x30 8) false ss ds).finish slot Res.ok

/-- A COLMAX whose descriptors are taken, from the check of its sources on; fmt is the code of its outputs, and one is the
plane of a planes_only one. -/
def State.colmaxChecked (t : State) (slot : Nat) (o : Op) (ss ds : List DescP) (one : Option Plane) (base fmt : Nat) : State :=
  let p := t.opPart o
  let src := o.b 0x20 4
  let dst := o.b 0x24 4
  match ss.findSome? (t.colmaxSource p) with
  | some c => if c = Res.hwFault then t.finish slot c else t.descFault slot src c false false
  | none =>
    let cols := t.colmaxRead (t.heritage p) ss 0
    let kd := (cols.headD []).length
    let aux := o.b 0x38 8
    let size := 4 * cols.length * ceilDiv kd 1024
    let groups : Option (List ColGroup) := match one with
      | some pl => some [ColGroup.mk 0 cols pl none]
      | none => colGroups fmt ds cols 0 0
    if cols.any (fun c => c.length != kd) then t.descFault slot src Res.badField false false
    else
      match groups with
      | none => t.descFault slot dst Res.badField false false
      | some gs =>
        if !(fmt == 2 || fmt == 3 || fmt == 4 || fmt == 5) || gs.any (fun g => g.plane.chunks != g.chunks) then
          t.descFault slot dst Res.badField false false
        else
          match gs.findSome? (fun g => t.planeAddrFault p true g.plane g.cols.length) with
          | some c => t.descFault slot dst c false false
          | none =>
            if t.ownsRange p aux size = false then t.descFault slot dst Res.addrForeign false false
            else if t.inWindow p aux size then t.descFault slot dst Res.writeProtect false false
            else t.colmaxRun slot o gs fmt base (ss.any (fun d => t.anyPoison d.1.addrs d.1.unit)) ss ds

/-- The entries and the planes of a COLMAX lie in no channel that is RETRAINING (R226). -/
def State.colmaxWaits (s : State) (aux : Nat) (ss : List DescP) (pls : List (Plane × Nat)) : Bool :=
  let kd (d : DescP) : Nat := (d.1.delivered.getD 1 (1, 0)).1
  s.chanWaits aux (4 * ((ss.map (fun d => d.1.elements / max 1 (kd d) * ceilDiv (kd d) 1024)).foldl (· + ·) 0)) ||
  pls.any (fun e => s.chanWaits e.1.qBase (e.2 * e.1.chunks) || s.chanWaits e.1.tBase (4 * ceilDiv e.2 128 * e.1.chunks))

/-- A COLMAX that names a destination format (R219, R220). -/
def State.colmaxNarrow (s : State) (slot : Nat) (o : Op) (ks : Take) (els : Nat) : State :=
  let dst := o.b 0x24 4
  let ss := o.gotOf 0 ++ ks.got
  let k := s.takeSide o 1 false Desc.elements els
  match k with
  | .wait _ _ => s.takeSome slot o ks k
  | .fail c a b _ _ => (((s.issue slot).consumeSide slot o 0 ks).consumeSide slot o 1 k).descFault slot dst c a b
  | .ok ds _ =>
    let ds := o.gotOf 1 ++ ds
    if s.sidesWait ss ds || s.colmaxWaits (o.b 0x38 8) ss (ds.filterMap (fun d => d.2.map (fun pl => (pl, d.1.elements)))) then s
    else
      let t := (((s.issue slot).consumeSide slot o 0 ks).consumeSide slot o 1 k).advanceRng dst els
      t.colmaxChecked slot o ss ds none (s.rngBase dst o.stamp) ((takenFmt ds).getD 15)

/-- A planes_only COLMAX (R219): no destination descriptor names a format, so which format's scales it derives is free. -/
def State.colmaxPlanes (s : State) (slot : Nat) (o : Op) (ks : Take) (els : Nat) : State :=
  let dst := o.b 0x24 4
  let ss := o.gotOf 0 ++ ks.got
  match s.takePlane dst with
  | none => s.takeSome slot o ks (.wait [] 0)
  | some (.error (c, a)) => ((s.issue slot).consumeSide slot o 0 ks).descFault slot dst c a false
  | some (.ok (pl, hd)) =>
    if s.sidesWait ss [] || s.colmaxWaits (o.b 0x38 8) ss [(pl, els)] then s
    else
      let t := (((s.issue slot).consumeSide slot o 0 ks).consume slot dst hd [] true).useFresh 1
      t.colmaxChecked slot o ss [] (some pl) 0 (2 + (Config.freeWord s.fresh).toNat % 4)

/-- COLMAX (R219, R220). -/
def opColmax (slot : Nat) (s : State) : State :=
  match s.issuableStream slot 5 with
  | none => s
  | some o =>
    let k := s.takeSide o 0 true Desc.bytes (o.b 0x30 8)
    let els := total Desc.elements (o.gotOf 0 ++ k.got)
    match k with
    | .wait _ _ => s.takeSome slot o k (.wait [] 0)
    | .fail c a b _ _ => ((s.issue slot).consumeSide slot o 0 k).descFault slot (o.b 0x20 4) c a b
    | .ok _ _ => if testBit (o.b 0x29 1) 1 then s.colmaxPlanes slot o k els else s.colmaxNarrow slot o k els

/-! ### APPLY (R221 to R224) -/

/-- Fields of the hyperparameter block. -/
def hyperFlags (b : List Byte) : Nat := fieldLE b 2 1
def hyperM (b : List Byte) : Nat := fieldLE b 8 8
def hyperV (b : List Byte) : Nat := fieldLE b 0x10 8
def hyperDiv (b : List Byte) : Nat := fieldLE b 0x18 8
def hyperBucket (b : List Byte) : Nat := fieldLE b 0x20 8
def hyperMirror (b : List Byte) : Nat := fieldLE b 0x28 8
def hyperProg (b : List Byte) : Nat := fieldLE b 0x30 8
/-- Parameter p_i. -/
def hyperP (b : List Byte) (i : Nat) : Word32 := BitVec.ofNat 32 (fieldLE b (0x40 + 4 * i) 4)
def hyperBc1 (b : List Byte) : Word32 := BitVec.ofNat 32 (fieldLE b 0x60 4)
def hyperBc2 (b : List Byte) : Word32 := BitVec.ofNat 32 (fieldLE b 0x64 4)
def hyperGscale (b : List Byte) : Word32 := BitVec.ofNat 32 (fieldLE b 0x68 4)

/-- FP32 quotient, difference and square root, each rounded once. -/
def div32 (h : Bool) (a b : Word32) : Word32 := fp32 h ((val32 h a).div (val32 h b))
def sub32 (h : Bool) (a b : Word32) : Word32 := fp32 h ((val32 h a).sub (val32 h b))
def sqrt32 (h : Bool) (a : Word32) : Word32 :=
  match val32 h a with
  | .fin false n d => fp32 h (sqrtVal n d)
  | .fin true n _ => if n = 0 then a else 0x7FC00000#32
  | .inf false => 0x7F800000#32
  | _ => 0x7FC00000#32

/-- sign: -1, +0 or +1, and NaN for NaN. -/
def sign32 (h : Bool) (a : Word32) : Word32 :=
  match val32 h a with
  | .nan => 0x7FC00000#32
  | v => if v.isZero then 0#32 else if v.sign then 0xBF800000#32 else 0x3F800000#32

/-- The averaged gradient: rne(rne(g / d) × gscale). -/
def avgGrad (h : Bool) (g : Word32) (d : Nat) (gscale : Word32) : Word32 :=
  mul32 h (fp32 h ((val32 h g).div (.fin false d 1))) gscale

/-- w ← rne(w − rne(p0 × rne(u + rne(p1 × w)))). -/
def decayStep (h : Bool) (p : Nat → Word32) (w u : Word32) : Word32 :=
  sub32 h w (mul32 h (p 0) (add32 h u (mul32 h (p 1) w)))

/-- The update rules of R222 on one element: w, m, v, averaged gradient to w, m, v. -/
def ruleSgd (h : Bool) (p : Nat → Word32) (x : Word32 × Word32 × Word32) (g : Word32) : Word32 × Word32 × Word32 :=
  (decayStep h p x.1 g, x.2.1, x.2.2)

def ruleMomentum (h : Bool) (p : Nat → Word32) (x : Word32 × Word32 × Word32) (g : Word32) : Word32 × Word32 × Word32 :=
  let m := add32 h (mul32 h (p 2) x.2.1) g
  (decayStep h p x.1 m, m, x.2.2)

def ruleAdamw (h : Bool) (p : Nat → Word32) (bc1 bc2 : Word32) (x : Word32 × Word32 × Word32) (g : Word32) : Word32 × Word32 × Word32 :=
  let m := add32 h (mul32 h (p 2) x.2.1) (mul32 h (p 3) g)
  let v := add32 h (mul32 h (p 4) x.2.2) (mul32 h (p 5) (mul32 h g g))
  let u := div32 h (mul32 h m bc1) (add32 h (sqrt32 h (mul32 h v bc2)) (p 6))
  (decayStep h p x.1 u, m, v)

def ruleSigned (h : Bool) (p : Nat → Word32) (x : Word32 × Word32 × Word32) (g : Word32) : Word32 × Word32 × Word32 :=
  let u := sign32 h (add32 h (mul32 h (p 2) x.2.1) (mul32 h (p 3) g))
  let m := add32 h (mul32 h (p 4) x.2.1) (mul32 h (p 5) g)
  (decayStep h p x.1 u, m, x.2.2)

/-- What an element becomes: w, m and v, and whether a conversion of a USER program saturated or met a non-finite source. -/
structure Applied where
  w : Word32
  m : Word32
  v : Word32
  sat : Bool
  nonfin : Bool
deriving DecidableEq, Repr

/-- A USER program on one element (R223): v0 to v3 hold w, m, v and the gradient on entry; draw gives the element's stochastic
draw. -/
def userRun (h : Bool) (b prog : List Byte) (e draw : Nat) (x : Word32 × Word32 × Word32) (g : Word32) : Applied :=
  let k := KProg.ofBytes prog
  let env : KEnv :=
    { width := 0, heritage := h, col := [e], row := [e], elem := [e], active := [true], input := [], inBits := [], outFmt := [],
      params := (List.range 8).map (hyperP b), consts := k.consts, scalars := [], draw := fun _ _ => draw }
  let v := kRun env k.words { vecEmpty with regs := [(0, [x.1]), (1, [x.2.1]), (2, [x.2.2]), (3, [g])] }
  ⟨(v.reg 0).headD 0#32, (v.reg 1).headD 0#32, (v.reg 2).headD 0#32, decide (0 < v.sat), decide (0 < v.nonfin)⟩

/-- Which parts a rule keeps and mirrors: m, v (R221, R289). -/
def ruleHasM (r : Nat) : Bool := r == 1 || r == 2 || r == 3 || r == 0x10
def ruleHasV (r : Nat) : Bool := r == 2 || r == 0x10

/-- Parts of an element in all (R289). -/
def ruleParts (r : Nat) : Nat := 1 + (if ruleHasM r then 1 else 0) + (if ruleHasV r then 1 else 0)

/-- An element under a rule (R222, R223). -/
def applyRule (h : Bool) (rule : Nat) (b prog : List Byte) (e draw : Nat) (x : Word32 × Word32 × Word32) (g : Word32) : Applied :=
  if rule = 0x10 then userRun h b prog e draw x g
  else
    let y := if rule = 0 then ruleSgd h (hyperP b) x g
      else if rule = 1 then ruleMomentum h (hyperP b) x g
      else if rule = 2 then ruleAdamw h (hyperP b) (hyperBc1 b) (hyperBc2 b) x g
      else ruleSigned h (hyperP b) x g
    ⟨y.1, y.2.1, y.2.2, false, false⟩

/-- One element of an APPLY: its index, where w, m and v lie, what it becomes, and whether its divisor leaves it unchanged. -/
structure ApplyElem where
  index : Nat
  wAt : Nat
  mAt : Nat
  vAt : Nat
  new : Applied
  kept : Bool
deriving DecidableEq, Repr

/-- The divisor of element i: the member count of its bucket (R221, R222). -/
def State.applyDiv (s : State) (o : Op) (i : Nat) : Nat := s.word (hyperDiv o.block + 4 * (4 * i / max 1 (hyperBucket o.block))) 4

/-- The elements of an APPLY whose sides are taken; base is the draw position of its step (R222, R223, R281).  The draws of a
USER program take dst_ctx's stream (assumption 23). -/
def State.applyElems (s : State) (h : Bool) (o : Op) (base : Nat) (ss ds : List DescP) : List ApplyElem :=
  let b := o.block.take 128
  let rule := o.b 0x29 1
  let p := s.opPart o
  let word := fun (a : Nat) => (BitVec.ofNat 32 (s.word a 4) : Word32)
  (((takenUnits ds).zip (takenUnits ss)).zipIdx).map (fun x =>
    let i := x.2
    let old := (word x.1.1, (if ruleHasM rule then word (hyperM b + 4 * i) else 0#32), (if ruleHasV rule then word (hyperV b + 4 * i) else 0#32))
    let d := s.applyDiv o i
    let new := if d = 0 then ⟨old.1, old.2.1, old.2.2, false, false⟩
      else applyRule h rule b (o.block.drop 128) i (drawElem (s.seed p) (s.rngStep p o.stamp) (o.b 0x24 4) base i) old
        (avgGrad h (word x.1.2) d (hyperGscale b))
    ⟨i, x.1.1, hyperM b + 4 * i, hyperV b + 4 * i, new, d == 0⟩)

/-- What an element writes: w, and what of m and v its rule keeps; nothing where its divisor is zero. -/
def ApplyElem.writes (x : ApplyElem) (rule : Nat) : List (Nat × List Byte) :=
  if x.kept then []
  else [(x.wAt, toLE 4 x.new.w.toNat)] ++ (if ruleHasM rule then [(x.mAt, toLE 4 x.new.m.toNat)] else []) ++
    (if ruleHasV rule then [(x.vAt, toLE 4 x.new.v.toNat)] else [])

/-- Poison under anything an element reads (R212). -/
def State.elemPoison (s : State) (o : Op) (x : ApplyElem) (g : Nat) : Bool :=
  let rule := o.b 0x29 1
  s.poisoned x.wAt 4 || s.poisoned g 4 || (ruleHasM rule && s.poisoned x.mAt 4) || (ruleHasV rule && s.poisoned x.vAt 4) ||
    s.poisoned (hyperDiv o.block + 4 * (4 * x.index / max 1 (hyperBucket o.block))) 4

/-- Join elements of one 4 KiB block (R213): block, offset in the array, address, bytes, and whether all of them completed. -/
def joinBlocks : List (Nat × Nat × Nat × List Byte × Bool) → List (Nat × Nat × Nat × List Byte × Bool)
  | [] => []
  | r :: rs =>
    match joinBlocks rs with
    | [] => [r]
    | q :: qs => if r.1 = q.1 then (r.1, r.2.1, r.2.2.1, r.2.2.2.1 ++ q.2.2.2.1, r.2.2.2.2 && q.2.2.2.2) :: qs else r :: q :: qs

/-- The completed blocks of one part of an APPLY: offset in the array, address, bytes (R224). -/
def partBlocks (xs : List ApplyElem) (place : ApplyElem → Nat) (word : ApplyElem → Word32) (done : ApplyElem → Bool) :
    List (Nat × Nat × List Byte) :=
  ((joinBlocks (xs.map (fun x => (place x / 4096, 4 * x.index, place x, toLE 4 (word x).toNat, done x)))).filter
    (fun r => r.2.2.2.2)).map (fun r => (r.2.1, r.2.2.1, r.2.2.2.1))

/-- Send blocks of one part to its place in the twin, in the remote class (R224, R289, R290). -/
def State.sendBlocks (s : State) (p slot step part at_ : Nat) (bs : List (Nat × Nat × List Byte)) : State × List Nat :=
  bs.foldl (fun r e =>
    let u := r.1.sendMirror p slot step (at_ + e.1) part e.2.2.length e.2.2
    (u.1.countRemote e.2.1 e.2.2.length, r.2 ++ [u.2])) (s, [])

/-- Send an APPLY's completed blocks of w, m and v (R224, R289 to R291); answers their sequence numbers. -/
def State.sendApplyParts (s : State) (slot : Nat) (o : Op) (xs : List ApplyElem) (done : ApplyElem → Bool) : State × List Nat :=
  let p := s.opPart o
  let rule := o.b 0x29 1
  let step := o.stamp - 1
  let a := hyperMirror o.block
  let len := o.b 0x30 8
  let r0 := s.sendBlocks p slot step 0 a (partBlocks xs ApplyElem.wAt (fun x => x.new.w) done)
  let r1 := if ruleHasM rule then r0.1.sendBlocks p slot step 1 (a + len) (partBlocks xs ApplyElem.mAt (fun x => x.new.m) done) else (r0.1, [])
  let r2 := if ruleHasV rule then r1.1.sendBlocks p slot step 2 (a + 2 * len) (partBlocks xs ApplyElem.vAt (fun x => x.new.v) done) else (r1.1, [])
  (r2.1, r0.2 ++ r1.2 ++ r2.2)

/-- A whole mirror is on its way: the APPLY completes when its COMMIT is acknowledged (R224, R292). -/
def State.sendApplyMirror (s : State) (slot : Nat) (o : Op) (xs : List ApplyElem) : State :=
  let r := s.sendApplyParts slot o xs (fun _ => true)
  r.1.setTwin { r.1.snap.twin with applies := r.1.snap.twin.applies ++
    [⟨slot, o.admitNo, s.opPart o, o.stamp - 1, r.2, none, hyperMirror o.block, o.b 0x30 8 * ruleParts (o.b 0x29 1)⟩] }

/-- The flags and triggers that a USER program's conversions raise, at the stack of w (R57, R192). -/
def State.applyFlags (s : State) (slot : Nat) (xs : List ApplyElem) : State :=
  let t := (s.senFlag Fld.senFlags_sat ((xs.filter (fun x => x.new.sat)).map ApplyElem.wAt)).senFlag Fld.senFlags_nonfinite
    ((xs.filter (fun x => x.new.nonfin)).map ApplyElem.wAt)
  if xs.any (fun x => x.new.sat) then t.trigger slot else t

/-- An APPLY whose sides are taken and checked (R221 to R224). -/
def State.applyRun (t : State) (slot : Nat) (o : Op) (base : Nat) (ss ds : List DescP) : State :=
  let rule := o.b 0x29 1
  let n := o.b 0x30 8
  let xs := t.applyElems (t.heritage (t.opPart o)) o base ss ds
  let mirrored := testBit (hyperFlags o.block) 0 && t.twinState == 2
  let bad := (((xs.zip (takenUnits ss)).filter (fun e => t.elemPoison o e.1 e.2)).map (fun e => e.1.wAt / 4096)).dedup
  if !bad.isEmpty then
    let blocks := (xs.map (fun x => x.wAt / 4096)).dedup
    let kept := t.keeps blocks bad
    let done := fun (x : ApplyElem) => kept.contains (x.wAt / 4096)
    let u := ((t.writeUnits ((xs.filter done).flatMap (fun x => x.writes rule))).applyFlags slot (xs.filter done)).useFresh blocks.length
    (if mirrored then (u.sendApplyParts slot o xs done).1 else u).finish slot Res.hwFault
  else
    let u := (t.writeUnits (xs.flatMap (fun x => x.writes rule))).noteOut slot ((if ruleHasM rule then [(hyperM o.block, n)] else []) ++
      (if ruleHasV rule then [(hyperV o.block, n)] else []))
    let hs := (xs.map (fun x => (stackOf x.wAt).getD 0)).dedup
    let u := hs.foldl (fun y k => y.bump (Fld.senElemApply_elements k) ((xs.filter (fun x => stackOf x.wAt == some k)).length)) u
    let u := (u.applyFlags slot xs).moved slot (o.b 0x20 4) (o.b 0x24 4) n false ss ds
    if mirrored then u.sendApplyMirror slot o xs else u.finish slot Res.ok

/-- The moments of an APPLY lie in a channel that is RETRAINING (R226). -/
def State.applyWaits (s : State) (o : Op) : Bool :=
  let n := o.b 0x30 8
  (ruleHasM (o.b 0x29 1) && s.chanWaits (hyperM o.block) n) || (ruleHasV (o.b 0x29 1) && s.chanWaits (hyperV o.block) n)

/-- APPLY (R221 to R224). -/
def opApply (slot : Nat) (s : State) : State :=
  match s.issuableStream slot 6 with
  | none => s
  | some o =>
    let n := o.b 0x30 8
    if s.applyWaits o then s
    else
      s.runStream slot o Desc.bytes Desc.bytes n n
        (fun _ ss ds => if takenFmt ss == some 0 && takenFmt ds == some 0 then none else some (Res.badField, false))
        (fun t ss ds =>
          if t.red.discarded.contains (t.opPart o, o.stamp - 1) then t.finish slot Res.stepDiscarded
          else t.applyRun slot o (s.rngBase (o.b 0x24 4) o.stamp) ss ds)

/-- A local APPLY of w in a mirror buffer counts toward that buffer when it retires OK (R292). -/
def State.applyRetired (s : State) (o : Op) : State :=
  if o.opcode = 3 ∧ o.b 0x28 1 = 6 ∧ o.done = some Res.ok then
    s.localCommit (s.opPart o) ((o.outs.headD (0, 0)).1) (o.stamp - 1) (o.b 0x30 8 * ruleParts (o.b 0x29 1))
  else s

end Sys2Proof.Machine
end

