-- ==== Sys2Proof/Machine/Checks.lean ====
section
/-!
DEFINITION. The checks of a work item at admission (R23, R24), in their order: version, opcode, fields, counters, the
completion queue, contexts, addresses, contents.  The result codes are those of R42; 0 is a pass.
-/
namespace Sys2Proof.Machine

/-- A field of a work item. -/
def itemF (it : List Byte) (off n : Nat) : Nat := fieldLE it off n

/-- The compute stacks of a partition as a mask. -/
def State.csMask (s : State) (p : Nat) : Nat := ((s.csOf p).map (fun c => 2 ^ c)).foldl (· + ·) 0

/-- The engines of a partition as a mask (R113). -/
def State.engineMask (s : State) (p : Nat) : Nat := ((s.csOf p).map (fun c => (2 ^ 16 - 1) * 2 ^ (16 * c))).foldl (· + ·) 0

/-- Every bit of a is a bit of b. -/
def maskWithin (a b : Nat) : Bool := a &&& b == a

/-! ### Step 3: reserved fields and encodings -/

/-- Formats of MATMUL inputs (R47). -/
def pairOk (w x : Nat) : Bool := (decide (2 ≤ w) && decide (w ≤ 3) && decide (2 ≤ x) && decide (x ≤ 3)) || (w == 4 && x == 4) || (w == 1 && x == 1)

/-- Permitted output formats of a cell mode (R48, R85). -/
def outFmtOk (mode f : Nat) : Bool :=
  if mode = 0 then [0, 1, 2, 3, 4].contains f
  else if mode = 5 then f == 0 || f == 6
  else f == 0 || f == 1

/-- A MATMUL's body (R24, R47, R48, R85, R86, R88, R114, R178). -/
def State.matmulFields (s : State) (p : Nat) (it : List Byte) : Bool :=
  let cm := itemF it 0x34 1
  let wF := itemF it 0x35 1 % 16
  let xF := itemF it 0x35 1 / 16
  let oF := itemF it 0x36 1 % 16
  let st := itemF it 0x36 1 / 16
  let opt := itemF it 0x37 1
  zeroAt it 0x40 64 && decide (1 ≤ itemF it 0x2C 4) && decide (itemF it 0x2C 4 ≤ 2 ^ 24) && itemF it 0x30 2 != 0 && itemF it 0x32 2 != 0 &&
  decide (cm ≤ 5) && pairOk wF xF && outFmtOk cm oF && decide (st ≤ 1) && !(st == 1 && (oF == 0 || oF == 6)) &&
  !(st == 1 && s.heritage p) && decide (opt < 64) && !(testBit opt 0 && oF != 0) && !(testBit opt 1 && !([2, 3, 4].contains oF)) &&
  maskWithin (opt / 4 % 16) (s.csMask p) && !(cm != 0 && wF == 1) && !(cm == 5 && decide (16384 < itemF it 0x30 2)) &&
  itemF it 0x38 8 % 64 == 0

/-- A KERNEL's body (R24, R113, R114). -/
def State.kernelFields (s : State) (p : Nat) (it : List Byte) : Bool :=
  zeroAt it 0x70 16 && itemF it 0x20 8 % 64 == 0 && maskWithin (itemF it 0x28 8) (s.engineMask p) && itemF it 0x48 8 != 0

/-- A USER program's address, where the hyperparameter block can be read, is 64-byte aligned (R23 step 3, R114). -/
def State.userAligned (s : State) (p : Nat) (it : List Byte) : Bool :=
  let a := itemF it 0x38 8
  itemF it 0x29 1 != 0x10 || !s.ownsRange p a 128 || s.poisoned a 128 || s.word (a + 0x30) 8 % 64 == 0

/-- A STREAM's body (R24, R37, R178, R214, R219, R222, R225). -/
def State.streamFields (s : State) (p : Nat) (it : List Byte) : Bool :=
  let sop := itemF it 0x28 1
  let rule := itemF it 0x29 1
  let none_ := 0xFFFFFFFF
  decide (sop ≤ 7) && zeroAt it 0x2A 6 && zeroAt it 0x40 64 && itemF it 0x30 8 != 0 &&
  (match sop with
   | 2 => decide (rule ≤ 1)
   | 5 => decide (rule ≤ 3) && !(testBit rule 0 && s.heritage p) && itemF it 0x38 8 % 64 == 0
   | 6 => [0, 1, 2, 3, 0x10].contains rule && itemF it 0x30 8 % 4 == 0 && (s.part p).lastStepFence.isSome && s.userAligned p it
   | _ => rule == 0) &&
  !(sop == 4 && s.heritage p) &&
  (if sop = 7 then itemF it 0x20 4 == none_ else itemF it 0x20 4 != none_) && itemF it 0x24 4 != none_

/-- A COLLECTIVE's operands (R266, R285). -/
def State.collectiveFields (s : State) (p : Nat) (it : List Byte) : Bool :=
  let kind := itemF it 0x24 1
  let wire := itemF it 0x25 1
  let bytes := itemF it 0x30 8
  let a := itemF it 0x28 8
  let r := itemF it 0x40 8
  zeroAt it 0x26 2 && zeroAt it 0x48 56 && decide (kind ≤ 2) && decide (wire ≤ 1) &&
  !(kind == 1 && (wire != 0 || itemF it 0x38 8 != 0)) && bytes % 16384 == 0 && decide (16384 ≤ bytes) && decide (bytes ≤ 2 ^ 32) &&
  !(kind == 2 && decide (a < r + bytes) && decide (r < a + bytes)) &&
  (match s.grp (itemF it 0x22 2) with
   | some g => g.part == p && g.job == itemF it 0x20 2 && !g.fatal
   | none => false)

/-- A SNAPSHOT's body (R24, R300, R385). -/
def State.snapshotFields (s : State) (p : Nat) (it : List Byte) : Bool :=
  zeroAt it 0x22 6 && zeroAt it 0x34 76 && decide (itemF it 0x20 1 < s.f (Fld.snapCfg_slots p)) && decide (itemF it 0x21 1 ≤ 3) &&
  !(testBit (itemF it 0x21 1) 0 && (s.key (s.f (Fld.snapCfg_drain_key_slot p))).isNone)

/-- A SHIP's body (R24, R385). -/
def State.shipFields (s : State) (it : List Byte) : Bool :=
  zeroAt it 0x2C 4 && zeroAt it 0x3C 68 && decide (itemF it 0x28 2 < 2048) && decide (itemF it 0x2A 1 ≤ 100) && decide (itemF it 0x2B 1 < 16) &&
  (s.key (itemF it 0x2B 1)).isSome &&
  (s.snap.flash.log.filter (fun r => r.id == itemF it 0x20 8)).all (fun r => (s.key r.keySlot).isSome)

/-- Step 3 of R23: the header's reserved bits and encodings, and the body.  A widen list holds no STEP fence and does not
name layer_ctr (R193, R195). -/
def State.fieldsOk (s : State) (p : Nat) (it : List Byte) (list : Option Nat) : Bool :=
  let c := fun (o : Nat) => let x := itemF it o 2; decide (x < 16384) || x == 0xFFFF
  let cq := itemF it 0x18 1
  decide (itemF it 1 1 < 16) && zeroAt it 0x19 7 && c 8 && c 10 && c 0x14 && (decide (cq < 64) || cq == 0xFF) &&
  (match list with
   | some ctr => itemF it 0x14 2 != ctr && itemF it 8 2 != ctr && itemF it 10 2 != ctr && !(itemF it 0 1 == 5 && itemF it 0x20 1 == 1)
   | none => true) &&
  (match itemF it 0 1 with
   | 1 => s.matmulFields p it
   | 2 => s.kernelFields p it
   | 3 => s.streamFields p it
   | 4 => s.collectiveFields p it
   | 5 => decide (itemF it 0x20 1 ≤ 2) && zeroAt it 0x21 95
   | 6 => s.snapshotFields p it
   | 7 => s.shipFields it
   | 8 => decide (itemF it 0x28 1 ≤ 3) && zeroAt it 0x29 87
   | _ => false)

/-! ### Steps 4 to 6 -/

/-- A counter index lies in the partition's range (R26). -/
def State.ctrOk (s : State) (p c : Nat) : Bool :=
  c == 0xFFFF || (decide (s.f (Fld.ctrRange_first p) ≤ c) && decide (c < s.f (Fld.ctrRange_first p) + s.f (Fld.ctrRange_count p)))

/-- The completion queue is none, or enabled and of the partition (R42, R421). -/
def State.cqOk (s : State) (p cq : Nat) : Bool := cq == 0xFF || (decide (cq < 64) && s.flag (cqEnabledF cq) && s.wqPart cq == p)

/-- A context is OPEN and of the partition (R42, R135). -/
def State.ctxOk (s : State) (p i : Nat) : Bool := decide (i < 65536) && (s.ctx i).state == 1 && (s.ctx i).partition == p

/-! ### Step 7: addresses -/

/-- Bytes of the program at an address: its header, and as many instructions as the header counts where it can be read. -/
def State.progSpan (s : State) (p a : Nat) : Nat := if s.ownsRange p a 64 then 64 + 8 * s.word (a + 2) 1 else 64

/-- Chunks of a bucket that a member keeps (R265). -/
def Group.ownedBytes (g : Group) (bytes : Nat) : Nat := 16384 * ((List.range (bytes / 16384)).filter (fun c => g.owner c == g.self)).length

/-- What the hyperparameter block of an APPLY names, where the block can be read: the divisors and a USER program that it
reads, and the moments that it writes (R221, R223). -/
def State.hyperRuns (s : State) (p : Nat) (it : List Byte) : List (Nat × Nat) × List (Nat × Nat) :=
  let a := itemF it 0x38 8
  let n := itemF it 0x30 8
  let rule := itemF it 0x29 1
  if !s.ownsRange p a 128 || s.poisoned a 128 then ([], [])
  else
    let b := s.bytes a 128
    ((hyperDiv b, 4 * ceilDiv n (hyperBucket b)) :: (if rule = 0x10 then [(hyperProg b, s.progSpan p (hyperProg b))] else []),
     (if ruleHasM rule then [(hyperM b, n)] else []) ++ (if ruleHasV rule then [(hyperV b, n)] else []))

/-- Address results of an item: runs it reads, and runs it writes. -/
def State.addrRuns (s : State) (p : Nat) (it : List Byte) : List (Nat × Nat) × List (Nat × Nat) :=
  match itemF it 0 1 with
  | 1 => let a := itemF it 0x38 8; (if a = 0 then [] else [(a, s.progSpan p a)], [])
  | 2 => let a := itemF it 0x20 8; ([(a, s.progSpan p a)], [])
  | 3 =>
    let a := itemF it 0x38 8
    (match itemF it 0x28 1 with
     | 5 => ([], [(a, 4)])
     | 6 => ((a, 128) :: (s.hyperRuns p it).1, (s.hyperRuns p it).2)
     | 7 => ([], [(a, 64)])
     | _ => ([], []))
  | 4 =>
    (match s.grp (itemF it 0x22 2) with
     | none => ([], [])
     | some g =>
       let n := itemF it 0x30 8
       let own := g.ownedBytes n
       let kind := itemF it 0x24 1
       ((itemF it 0x28 8, if kind = 1 then own else n) :: (if kind = 1 then [] else [(itemF it 0x38 8, 0x40 + n / 512)]),
        [(itemF it 0x40 8, if kind = 0 then own else n)]))
  | 6 => ([(itemF it 0x28 8, 16 * min 4096 (itemF it 0x30 4))], [])
  | _ => ([], [])

/-- ADDR_FOREIGN, WRITE_PROTECT, or 0 (R16, R317). -/
def State.addrCheck (s : State) (p : Nat) (rs : List (Nat × Nat) × List (Nat × Nat)) : Nat :=
  if (rs.1 ++ rs.2).any (fun r => !s.ownsRange p r.1 r.2) then Res.addrForeign
  else if rs.2.any (fun r => s.inWindow p r.1 r.2) then Res.writeProtect
  else Res.ok

/-! ### Step 8: contents -/

/-- LD and ST name used contexts, and a stochastic CVT has an output context (R115). -/
def kernelCtxsOk (it : List Byte) (g : KProg) : Bool :=
  let used := fun (off : Nat) => itemF it off 4 != 0xFFFFFFFF
  g.words.all (fun w =>
    if w.op = 1 then used (0x30 + 4 * bits w.imm 0 2)
    else if w.op = 2 then used (0x40 + 4 * bits w.imm 0 1)
    else if w.op = 0x30 then !testBit w.imm 4 || used 0x40 || used 0x44
    else true)

/-- A program rounds stochastically, a reserved encoding in heritage mode (R178). -/
def KProg.stochastic (g : KProg) : Bool := g.words.any (fun w => (w.op == 2 && testBit w.imm 1) || (w.op == 0x30 && testBit w.imm 4))

/-- A program's check: HW_FAULT on poison, BAD_FIELD on contents (R114, R115). -/
def State.progCheck (s : State) (p a : Nat) (ok : KProg → Bool) : Nat :=
  let n := s.progSpan p a
  if s.poisoned a n then Res.hwFault
  else
    let g := KProg.ofBytes (s.bytes a n)
    if ok g && !(s.heritage p && g.stochastic) then Res.ok else Res.badField

/-- The contents of the hyperparameter block of an APPLY and of a USER program (R221, R223); their addresses are step 7's. -/
def State.hyperCheck (s : State) (p : Nat) (it : List Byte) : Nat :=
  let a := itemF it 0x38 8
  let rule := itemF it 0x29 1
  if s.poisoned a 128 then Res.hwFault
  else
    let b := s.bytes a 128
    let bb := hyperBucket b
    if fieldLE b 0 2 ≠ 1 ∨ 1 < hyperFlags b ∨ zeroAt b 3 5 = false ∨ zeroAt b 0x38 8 = false ∨ zeroAt b 0x6C 20 = false ∨
        bb = 0 ∨ bb % 16384 ≠ 0 then Res.badField
    else
      if rule = 0x10 then (if hyperProg b % 64 ≠ 0 then Res.badField else s.progCheck p (hyperProg b) KProg.userOk)
      else Res.ok

/-- A comparison-mode MATMUL names scale planes for an operand (R86), as far as the ring already holds the operand's descriptor;
else issue finds it. -/
def State.comparePlanes (s : State) (it : List Byte) : Bool :=
  itemF it 0x34 1 % 8 != 0 && [0x20, 0x24].any (fun off =>
    match s.entryIndexFor (itemF it off 4) s.ctl.nextAdmit with
    | some i => (Desc.parse (s.ringEntry (s.ctx (itemF it off 4)) i)).planes
    | none => false)

/-- Step 8 of R23. -/
def State.contentsCheck (s : State) (p : Nat) (it : List Byte) : Nat :=
  match itemF it 0 1 with
  | 1 =>
    let a := itemF it 0x38 8
    if s.comparePlanes it then Res.badField else if a = 0 then Res.ok else s.progCheck p a KProg.epilogueOk
  | 2 => s.progCheck p (itemF it 0x20 8) (fun g => g.wellFormed [] && kernelCtxsOk it g && (g.rowLen == 0 || itemF it 0x48 8 % g.rowLen == 0))
  | 3 => if itemF it 0x28 1 = 6 then s.hyperCheck p it else Res.ok
  | _ => Res.ok

/-- The bytes admission read for the operation: its program, or the hyperparameter block and a USER program. -/
def State.itemBlock (s : State) (p : Nat) (it : List Byte) : List Byte :=
  match itemF it 0 1 with
  | 1 => let a := itemF it 0x38 8; if a = 0 then [] else s.bytes a (s.progSpan p a)
  | 2 => let a := itemF it 0x20 8; s.bytes a (s.progSpan p a)
  | 3 =>
    if itemF it 0x28 1 = 6 then
      let b := s.bytes (itemF it 0x38 8) 128
      b ++ (if itemF it 0x29 1 = 0x10 then s.bytes (hyperProg b) (s.progSpan p (hyperProg b)) else [])
    else []
  | _ => []

/-- R23: the result of admission's checks, the first failure standing; list is layer_ctr for an item of a widen list. -/
def State.admissionCheck (s : State) (p : Nat) (it : List Byte) (list : Option Nat) : Nat :=
  if itemF it 2 2 ≠ 1 then Res.badVersion
  else if itemF it 0 1 = 0 ∨ 8 < itemF it 0 1 then Res.badOpcode
  else if s.fieldsOk p it list = false then Res.badField
  else if !(s.ctrOk p (itemF it 8 2) && s.ctrOk p (itemF it 10 2) && s.ctrOk p (itemF it 0x14 2)) then Res.counterForeign
  else if s.cqOk p (itemF it 0x18 1) = false then Res.cqInvalid
  else if !((itemCtxs it).all (fun e => s.ctxOk p e.1)) then Res.contextInvalid
  else
    let c := s.addrCheck p (s.addrRuns p it)
    if c ≠ 0 then c else s.contentsCheck p it

end Sys2Proof.Machine
end

