-- ==== Sys2Proof/Machine/Engine.lean ====
section
/-!
DEFINITION. The tile engines (chapter 5): a KERNEL's issue, dealing and further descriptors, the steps of its instructions vector
by vector, faults of the engines, and the spare switch-in.
-/
namespace Sys2Proof.Machine

/-- A KERNEL fails: its tasks end and the operation finishes with the code. -/
def State.failKernel (s : State) (slot code : Nat) : State :=
  match s.op slot with
  | some o => (s.dropTasks slot o.admitNo).finish slot code
  | none => s

/-! ### Issue (R113, R115) -/

/-- Contexts a KERNEL uses: offset in the item, whether an output. -/
def kernCtxs (o : Op) : List (Nat × Bool) := kernCtxOffs.filter (fun c => o.b c.1 4 != 0xFFFFFFFF)

/-- Elements of a row, with 512 a row where there are none (R113). -/
def rowUnit (rowLen : Nat) : Nat := if rowLen = 0 then 512 else rowLen

/-- The first descriptor of each context, context after context, up to one that cannot be had or is at fault (R115). -/
def State.kernFirsts (s : State) (slot : Nat) (o : Op) : List (Nat × Bool) → State × List ((Nat × Bool) × Take)
  | [] => (s, [])
  | c :: cs =>
    match s.take (o.b c.1 4) (s.opPart o) c.2 (!c.2) false Desc.elements 1 with
    | .ok ds h =>
      let r := (s.consume slot (o.b c.1 4) h ds (decide (kernNeed o c ≤ total Desc.elements ds))).kernFirsts slot o cs
      (r.1, (c, .ok ds h) :: r.2)
    | k => (s, [(c, k)])

/-- The descriptors from element n of a context on that a KERNEL may take: of the context's format, without planes, and not ending
inside a row (R115, R122, R140). -/
def kernGood (unit need fmtCode : Nat) : Nat → List DescP → List DescP
  | _, [] => []
  | n, d :: ds =>
    let m := n + d.1.elements
    if d.2.isNone && d.1.fmtCode == fmtCode && !d.1.isE2m1 && (m % unit == 0 || decide (need ≤ m)) then d :: kernGood unit need fmtCode m ds
    else []

/-- A first descriptor that a KERNEL may not take. -/
def kernBad (o : Op) (e : (Nat × Bool) × Take) : Bool :=
  (kernGood (rowUnit (KProg.ofBytes o.block).rowLen) (kernNeed o e.1) ((takenFmt e.2.got).getD 0) 0 e.2.got).length != e.2.got.length

/-- Bytes of one element over all inputs (R115). -/
def kernWidth (takes : List ((Nat × Bool) × Take)) : Nat :=
  ((takes.filter (fun e => !e.1.2)).map (fun e => takenUnit e.2.got)).foldl (· + ·) 0

/-- What a KERNEL works on, from the first descriptors of its contexts. -/
def State.kernRunOf (s : State) (o : Op) (takes : List ((Nat × Bool) × Take)) : KernRun :=
  let prog := KProg.ofBytes o.block
  let kctx (off : Nat) : Option KCtx :=
    (takes.find? (fun e => e.1.1 == off)).map (fun e =>
      ⟨o.b off 4, (takenFmt e.2.got).getD 0, !e.1.2 && bcastInput prog.words ((off - 0x30) / 4), kernNeed o e.1,
       takenUnits e.2.got, s.rngBase (o.b off 4) o.stamp⟩)
  { admitNo := o.admitNo, words := (List.range prog.count).map (fun i => fieldLE o.block (64 + 8 * i) 8), consts := prog.consts,
    params := (List.range 8).map (fun i => BitVec.ofNat 32 (o.b (0x50 + 4 * i) 4)), rowLen := prog.rowLen,
    sweeps := prog.sweeps, width := prog.width, elements := o.b 0x48 8, heritage := s.heritage (s.opPart o), begun := false,
    ins := [kctx 0x30, kctx 0x34, kctx 0x38, kctx 0x3C], outs := [kctx 0x40, kctx 0x44] }

/-- Draw positions of the outputs move on (R183). -/
def State.kernDraws (s : State) (o : Op) : State :=
  (kernCtxs o).foldl (fun t c => if c.2 then t.advanceRng (o.b c.1 4) (o.b 0x48 8) else t) s

/-- The engines a KERNEL is dealt over: of its partition, named by the mask or all, in service (R113). -/
def State.kernEngines (s : State) (o : Op) : List Nat :=
  (List.range 64).filter (fun e => s.partOfCs (e / 16) == s.opPart o && (o.b 0x28 8 == 0 || testBit (o.b 0x28 8) e) &&
    s.f (Fld.teStatus_state e) != 3)

/-- Rows of a KERNEL (R113). -/
def kernRows (o : Op) : Nat :=
  let prog := KProg.ofBytes o.block
  if prog.rowLen = 0 then ceilDiv (o.b 0x48 8) 512 else o.b 0x48 8 / prog.rowLen

/-- Deal the rows in turn over engines, each a task of its engine. -/
def State.kernDeal (s : State) (slot : Nat) (o : Op) (run : KernRun) (engines : List Nat) : State :=
  (engines.zipIdx).foldl (fun t z =>
    let mine := (List.range (kernRows o)).filter (fun r => r % engines.length == z.2)
    if mine.isEmpty then t
    else t.addTask z.1 ⟨0, slot, o.admitNo, 0, mine, (run.sweepFrom 0).getD 0, 0, 0, [], [], [], 0, 0, 0, [], 0, none⟩) s

/-! ### Further descriptors (R115, R139, R140) -/

/-- The context of a KERNEL at an offset of its item, and the run with that context replaced. -/
def KernRun.ctxAt (k : KernRun) (off : Nat) : Option KCtx := (k.ins ++ k.outs).getD ((off - 0x30) / 4) none
def KernRun.withCtx (k : KernRun) (off : Nat) (c : KCtx) : KernRun :=
  if off < 0x40 then { k with ins := k.ins.set ((off - 0x30) / 4) (some c) } else { k with outs := k.outs.set ((off - 0x40) / 4) (some c) }

/-- A KERNEL that has issued fails on a further descriptor of context i: once a vector has retired its outputs are undefined, as
after an abort (R34, R139); before that nothing has been written (R115). -/
def State.failFeed (s : State) (slot i code : Nat) (seqBad span : Bool) : State :=
  match s.op slot, s.kern slot with
  | some o, some k =>
    let t := if k.begun then o.outs.foldl (fun t r => t.storeFree r.1 r.2) s else s
    (t.dropTasks slot o.admitNo).descFault slot i code seqBad span
  | _, _ => s

/-- Take what a context holds of the descriptors a KERNEL still needs. -/
def State.kernFeedCtx (s : State) (slot : Nat) (o : Op) (e : Nat × Bool) : State :=
  match s.kern slot with
  | none => s
  | some k =>
    match k.ctxAt e.1 with
    | none => s
    | some c =>
      if c.need ≤ c.locs.length ∨ (s.ctxTurn c.ctx).map (fun x => x.2.admitNo) ≠ some o.admitNo then s
      else
        let r := s.take c.ctx (s.opPart o) e.2 (!e.2) false Desc.elements (c.need - c.locs.length)
        let ds := kernGood (rowUnit k.rowLen) c.need c.fmtCode c.locs.length r.got
        let h := ((s.ctx c.ctx).head + ds.length) % 2 ^ 32
        let c2 := { c with locs := c.locs ++ takenUnits ds }
        let t := if ds.isEmpty then s
          else (s.consume slot c.ctx h ds (decide (c.need ≤ c2.locs.length))).setKern slot (some (k.withCtx e.1 c2))
        if ds.length < r.got.length then t.failFeed slot c.ctx Res.badField false false
        else match r with
          | .fail code a b _ _ => t.failFeed slot c.ctx code a b
          | _ => t

/-- Take what every context of a running KERNEL holds. -/
def State.kernFeed (s : State) (slot : Nat) (o : Op) : State := (kernCtxs o).foldl (fun t e => t.kernFeedCtx slot o e) s

/-- KERNEL (R113, R115, R139, R140): take the first descriptor of every context, check them, and deal the rows; a row starts once
the descriptors taken cover it. -/
def opKernel (slot : Nat) (s : State) : State :=
  match s.issuable slot 2 with
  | none => s
  | some o =>
    let r := (s.issue slot).kernFirsts slot o (kernCtxs o)
    match r.2.find? (fun e => match e.2 with | .ok _ _ => false | _ => true) with
    | some (c, .fail code a b _ _) => r.1.descFault slot (o.b c.1 4) code a b
    | some _ => s
    | none =>
      match r.2.find? (kernBad o) with
      | some (c, _) => r.1.descFault slot (o.b c.1 4) Res.badField false false
      | none =>
        if 393216 < (KProg.ofBytes o.block).rowLen * kernWidth r.2 then r.1.descFault slot (o.b 0x30 4) Res.badField false false
        else
          let run := s.kernRunOf o r.2
          let t := r.1.kernDraws o
          let engines := t.kernEngines o
          if engines.isEmpty then t.finish slot Res.hwFault
          else ((t.setKern slot (some run)).kernDeal slot o run engines).kernFeed slot o

/-- DESCRIPTOR_BURST_FETCH (R134): the burst, and what a running KERNEL takes of it. -/
def burstFetch (i : Nat) (s : State) : State :=
  let t := s.fetchBurst i
  match t.ctxTurn i with
  | some (slot, o) => if t.serving && t.opRunning slot o.admitNo then t.kernFeed slot o else t
  | none => t

/-! ### Row buffers (R122) -/

/-- The elements of the rows in hand by input, as they arrive. -/
def State.rowFill (s : State) (k : KernRun) (t : Task) : List (List Nat) :=
  k.ins.map (fun c => match c with | some c => (k.rowAddrs t c).map (fun a => s.word a c.size) | none => [])

/-- A poisoned sector among them (R212). -/
def State.rowPoison (s : State) (k : KernRun) (t : Task) : Bool :=
  k.ins.any (fun c => match c with | some c => (k.rowAddrs t c).any (fun a => s.poisoned a c.size) | none => false)

/-- Count what an input context brings for the rows in hand; a broadcast input arrives with row 0. -/
def State.rowCount (s : State) (k : KernRun) (t : Task) : State :=
  k.ins.foldl (fun s c => match c with
    | some c =>
      let n := if c.bcast && !(k.group t).contains 0 then 0 else (k.rowAddrs t c).length
      if n = 0 then s else (s.countBytes c.ctx 0 (n * c.size)).advancePos c.ctx n
    | none => s) s

/-! ### Instructions -/

/-- An input's value at a lane, from the row buffer. -/
def KCtx.laneVal (c : KCtx) (k : KernRun) (buf : List Nat) (lane : Nat) (info : Nat × Nat × Nat × Bool) : Val :=
  let f := fmtD c.fmtCode
  if info.2.2.2 then (f.decode (buf.getD (if k.rowLen = 0 then lane else info.1) 0)).flush k.heritage f else .zero false

/-- The context a vector's instructions see. -/
def State.kernEnv (s : State) (k : KernRun) (t : Task) : KEnv :=
  let info := k.laneInfo t
  let p := match s.op t.slot with | some o => s.opPart o | none => 0
  let stamp := match s.op t.slot with | some o => o.stamp | none => 0
  let buf := t.rowBuf.getD []
  let lane : Nat := if k.width = 0 then 0 else if k.width = 1 then 1 else 2
  { width := k.width, heritage := k.heritage, col := info.map (fun i => i.1), row := info.map (fun i => i.2.1),
    elem := info.map (fun i => i.2.2.1), active := info.map (fun i => i.2.2.2),
    input := (k.ins.zipIdx).map (fun c => match c.1 with
      | some x => (info.zipIdx).map (fun i => x.laneVal k (buf.getD c.2 []) i.2 i.1)
      | none => []),
    inBits := k.ins.map (fun c => match c with | some x => if x.fmtCode = lane then 0 else (fmtD x.fmtCode).bits | none => 0),
    outFmt := k.outs.map (fun c => match c with | some c => Fmt.ofCode c.fmtCode | none => none),
    params := k.params, consts := k.consts, scalars := t.scalars,
    draw := fun i e =>
      let c := if i < 2 then k.outs.getD i none else (match k.outs.getD 0 none with | some c => some c | none => k.outs.getD 1 none)
      match c with
      | some c => drawElem (s.seed p) (s.rngStep p stamp) c.ctx c.rngBase e
      | none => 0 }

/-- Combine a vector's contributions into the row scalars, in order (R121). -/
def combineSums (h : Bool) (sc : List (Nat × Word32)) (sums : List (Nat × Nat × Word32)) : List (Nat × Word32) :=
  sums.foldl (fun sc c =>
    match sc.find? (fun x => x.1 == c.2.1) with
    | none => sc ++ [(c.2.1, c.2.2)]
    | some x => sc.map (fun y => if y.1 == c.2.1 then (y.1, redFn h c.1 x.2 c.2.2) else y)) sc

/-- Where a task stands after a vector: the next vector, sweep or row; none when its rows are done. -/
def Task.next (t : Task) (k : KernRun) : Option Task :=
  let clear : Task := { t.restart with attempts := 0 }
  if t.vec + 1 < k.rowSlots then some { clear with vec := t.vec + 1 }
  else
    match k.sweepFrom (t.sweep + 1) with
    | some w => some { clear with vec := 0, sweep := w }
    | none =>
      let rest := t.rows.drop (k.group t).length
      if rest.isEmpty then none
      else some { clear with vec := 0, sweep := (k.sweepFrom 0).getD 0, rows := rest, scalars := [], rowBuf := none }

/-- The stores of a vector, with their addresses. -/
def KernRun.storeWrites (k : KernRun) (t : Task) : List (Nat × List Byte) :=
  t.stores.filterMap (fun st =>
    match k.outs.getD st.1 none with
    | some c => some (c.locs.getD st.2.1 0, toLE c.size st.2.2)
    | none => none)

/-- Count what a vector stores by output. -/
def State.storeCount (s : State) (k : KernRun) (t : Task) : State :=
  (List.range 2).foldl (fun u i =>
    match k.outs.getD i none with
    | some c =>
      let n := (t.stores.filter (fun st => st.1 == i)).length
      if n = 0 then u else (u.countBytes c.ctx 1 (n * c.size)).advancePos c.ctx n
    | none => u) s

/-- The last instruction of a vector retires: its stores and scalar updates take effect (R117), and its flags are
reported (R122). -/
def State.retireVector (s : State) (e : Nat) (k : KernRun) (t : Task) : State :=
  let u := ((s.writeUnits (k.storeWrites t)).storeCount k t).bump (Fld.skvConv_converted e) t.conv
  let u := u.vecFlags e t.slot ⟨[], [], [], t.sat, t.nonfin, t.conv⟩
  let u := u.setKern t.slot (some { k with begun := true })
  match ({ t with scalars := combineSums k.heritage t.scalars t.sums } : Task).next k with
  | some t3 => u.putTask e t3
  | none =>
    let u := u.endTask e t
    if u.hasTask (fun y => y.slot == t.slot && y.admitNo == t.admitNo) then u else u.finish t.slot Res.ok

/-- One kernel instruction on engine e: done when the next instruction of the KERNEL share whose turn it is has this opcode.  With
a row's first instruction its elements are in the row buffer. -/
def State.kernStep (s : State) (e op : Nat) (f : KEnv → KWord → Vec → Vec) : State :=
  match s.currentTask e with
  | none => s
  | some t0 =>
    match s.kern t0.slot with
    | none => s
    | some k =>
      let ws := k.sweepInstrs t0.sweep
      match ws[t0.pos]? with
      | none => s
      | some w =>
        if t0.kind ≠ 0 ∨ w.op ≠ op ∨ s.serving = false ∨ (t0.pos = 0 ∧ (s.stopOf (s.partOfCs (e / 16))).isSome) ∨ s.engRuns e t0 = false ∨
            k.admitNo ≠ t0.admitNo then s
        else if t0.rowBuf.isNone ∧ s.rowPoison k t0 then s.failKernel t0.slot Res.hwFault
        else
          let t : Task := { t0 with rowBuf := some (t0.rowBuf.getD (s.rowFill k t0)) }
          let u := if t0.pos = 0 then s.tookTurn e t0 else s
          let u := (if t0.rowBuf.isNone then u.rowCount k t0 else u).bump ⟨Reg.teIssue e, 0, 64⟩ (instrCycles k w)
          let v := f (s.kernEnv k t) w ⟨t.regs, t.stores, t.sums, t.sat, t.nonfin, t.conv⟩
          let t2 := { t with regs := v.regs, stores := v.stores, sums := v.sums, sat := v.sat, nonfin := v.nonfin, conv := v.conv, pos := t.pos + 1 }
          if t.pos + 1 < ws.length then u.putTask e t2 else u.retireVector e k t2

def insNop (e : Nat) (s : State) : State := s.kernStep e 0x00 kNop
def insLd (e : Nat) (s : State) : State := s.kernStep e 0x01 kLd
def insSt (e : Nat) (s : State) : State := s.kernStep e 0x02 kSt
def insLdi (e : Nat) (s : State) : State := s.kernStep e 0x03 kLdi
def insLdp (e : Nat) (s : State) : State := s.kernStep e 0x04 kLdp
def insLds (e : Nat) (s : State) : State := s.kernStep e 0x05 kLds
def insIdx (e : Nat) (s : State) : State := s.kernStep e 0x06 kIdx
def insLdk (e : Nat) (s : State) : State := s.kernStep e 0x07 kLdk
def insAdd (e : Nat) (s : State) : State := s.kernStep e 0x08 kAdd
def insSub (e : Nat) (s : State) : State := s.kernStep e 0x09 kSub
def insMul (e : Nat) (s : State) : State := s.kernStep e 0x0A kMul
def insFma (e : Nat) (s : State) : State := s.kernStep e 0x0B kFma
def insMin (e : Nat) (s : State) : State := s.kernStep e 0x0C kMin
def insMax (e : Nat) (s : State) : State := s.kernStep e 0x0D kMax
def insAbs (e : Nat) (s : State) : State := s.kernStep e 0x0E kAbs
def insNeg (e : Nat) (s : State) : State := s.kernStep e 0x0F kNeg
def insClt (e : Nat) (s : State) : State := s.kernStep e 0x10 kClt
def insCle (e : Nat) (s : State) : State := s.kernStep e 0x11 kCle
def insCeq (e : Nat) (s : State) : State := s.kernStep e 0x12 kCeq
def insCne (e : Nat) (s : State) : State := s.kernStep e 0x13 kCne
def insSel (e : Nat) (s : State) : State := s.kernStep e 0x14 kSel
def insAnd (e : Nat) (s : State) : State := s.kernStep e 0x15 kAnd
def insOr (e : Nat) (s : State) : State := s.kernStep e 0x16 kOr
def insXor (e : Nat) (s : State) : State := s.kernStep e 0x17 kXor
def insFin (e : Nat) (s : State) : State := s.kernStep e 0x18 kFin
def insExp (e : Nat) (s : State) : State := s.kernStep e 0x20 kExp
def insLog (e : Nat) (s : State) : State := s.kernStep e 0x21 kLog
def insRcp (e : Nat) (s : State) : State := s.kernStep e 0x22 kRcp
def insRsq (e : Nat) (s : State) : State := s.kernStep e 0x23 kRsq
def insTanh (e : Nat) (s : State) : State := s.kernStep e 0x24 kTanh
def insRsum (e : Nat) (s : State) : State := s.kernStep e 0x28 kRsum
def insRmax (e : Nat) (s : State) : State := s.kernStep e 0x29 kRmax
def insRmin (e : Nat) (s : State) : State := s.kernStep e 0x2A kRmin
def insCvt (e : Nat) (s : State) : State := s.kernStep e 0x30 kCvt

/-! ### Spare engines (R127, R128) -/

/-- Start a switch-in: the spare is tested.  A failed engine runs nothing more, and its vector in progress starts over on the spare;
for any other trigger the target runs until cut-over. -/
def State.startSpare (s : State) (cs target trigger : Nat) : State :=
  let t := (s.setSpare cs (some ⟨target, trigger⟩)).put (Fld.teSpareStatus_state cs) 1
  if trigger = 0 then
    let e := 16 * cs + target
    (t.setEng e { t.eng e with tasks := (t.eng e).tasks.map (fun k => if k.pos = 0 then k else k.restart) }).put (Fld.teStatus_state e) 2 |>.inventoryUpdate
  else t.inventoryUpdate

/-- What an engine without a spare leaves: KERNELs with a share on it fail, and a tile whose check it held ends without a verdict
(assumption 23). -/
def State.engineGone (s : State) (e : Nat) : State :=
  ((s.eng e).tasks ++ (s.eng e).waiting).foldl (fun t k =>
    if k.kind = 0 then t.failKernel k.slot Res.hwFault
    else if k.kind = 2 then (match t.mm k.slot with | some m => (t.awlEnd k.slot k.unit m).matmulDone k.slot | none => t)
    else t) s

/-- An engine is FAILED and no spare can serve it: its stack's array stops for good (R128). -/
def State.engineLost (s : State) (e : Nat) : State :=
  (((s.put (Fld.teStatus_state e) 3).inventoryUpdate).arrayFail (e / 16) 4).engineGone e

/-- An engine is declared failed (R126 to R128): the spare takes over, or the stack's array stops. -/
def State.engineFailed (s : State) (e : Nat) : State :=
  let t := s.put (Fld.teFault_failed e) 1
  if t.f (Fld.teSpareStatus_state (e / 16)) = 0 then t.startSpare (e / 16) (e % 16) 0 else t.engineLost e

/-- An operation fails by its task's fault. -/
def State.failTask (s : State) (k : Task) : State := if k.kind = 0 then s.failKernel k.slot Res.hwFault else s.failMatmul k.slot Res.hwFault

/-- VECTOR_FAULT (R126): the current vector of an engine's task is done again from its start; past the limit its
operation fails, and the engine may be declared failed.  parity: a register-file parity fault, else a residue fault. -/
def vectorFault (e : Nat) (parity : Bool) (s : State) : State :=
  match s.currentTask e with
  | none => s
  | some k =>
    if s.engRuns e k = false then s
    else
      let t := if parity then s.put (Fld.teFault_reg_parity e) 1 else s.put (Fld.teFault_dp_residue e) 1
      if s.f (Fld.teCtrl_reexec_limit e) ≤ k.attempts then
        let u := (t.put (Fld.teFault_reexec_exhausted e) 1).failTask k
        if u.flag (Fld.teCtrl_auto_spare e) then u.engineFailed e else u
      else (t.bumpSat (Fld.teFault_reexecs e) 1).putTask e { k.restart with attempts := k.attempts + 1 }

/-- The weight areas of the data halves (R151). -/
def weightArea (addr : Nat) : Bool := (decide (0x5C0000 ≤ addr) && decide (addr < 0x680000)) || decide (0x740000 ≤ addr)

/-- The owner of a word with an uncorrectable error takes the fault (R104): the MATMUL whose slice holds it; the stream that filled
a prefetch buffer, which refills 4 KiB; else the operation of slot reading the buffer (owner 0) or the awl's buffer of tile l of
its MATMUL, whose check ends without a verdict (owner 2, R191). -/
def State.storeError (s : State) (e addr owner slot l : Nat) : State :=
  if addr < 0x500000 then
    match Sparse.get (fun _ => none) (s.arr (e / 16)).slices (addr / 16384) with
    | some y => s.failMatmul y.slot Res.hwFault
    | none => s
  else if weightArea addr then s.bump (Fld.strmBytesRd_bytes (e / 16)) 4096
  else if owner = 0 then
    (if (s.mm slot).isSome then s.failMatmul slot Res.hwFault else if (s.kern slot).isSome then s.failKernel slot Res.hwFault else s)
  else if owner = 2 then (match s.mm slot with | some m => (s.awlEnd slot l m).matmulDone slot | none => s)
  else s

/-- TILE_STORE_ECC_ERROR (R104, R191): an error in engine e's tile store at a byte address, with an event in every case.  A
corrected one is counted, and kept for a second for ce_limit (R127). -/
def tileStoreEcc (e addr : Nat) (corrected : Bool) (owner slot l : Nat) (s : State) : State :=
  let ev (t : State) : State := t.event Blk.te (some (s.partOfCs (e / 16))) (csCantle (e / 16)) e (genericPayload e addr 0)
  if corrected then
    let x := s.eng e
    ev ((s.bumpSat (Fld.teFault_store_ce e) 1).setEng e { x with ceTimes := x.ceTimes.filter (fun t => decide (s.now - t < 475000000)) ++ [s.now] })
  else (ev ((s.put (Fld.teFault_store_ue e) 1).put (Fld.teFault_last_addr e) addr)).storeError e addr owner slot l

/-- TE_SPARE_CTRL_s with go (R127): ignored, with an event, when the spare is not IDLE. -/
def teSpareCtrl (cs v : Nat) (s : State) : State :=
  if bits v 8 1 = 0 then s
  else if s.f (Fld.teSpareStatus_state cs) ≠ 0 then s.event Blk.te none (csCantle cs) cs (genericPayload (Reg.teSpareCtrl cs) v 0)
  else s.startSpare cs (bits v 0 4) 2

/-- CE_LIMIT_EXCEEDED (R127): an engine's corrected errors of one second pass ce_limit. -/
def ceLimitExceeded (e : Nat) (s : State) : State :=
  let lim := s.f (Fld.teCtrl_ce_limit e)
  if lim ≠ 0 ∧ lim < ((s.eng e).ceTimes.filter (fun t => decide (s.now - t < 475000000))).length then
    let t := s.setEng e { s.eng e with ceTimes := [] }
    if t.f (Fld.teSpareStatus_state (e / 16)) = 0 then t.startSpare (e / 16) (e % 16) 1 else t
  else s

/-- SPARE_SELF_TEST_DONE (R127): passed, dual writing and the copy begin; failed, the spare is FAILED and no switch
happens (and a failed engine then has no spare, R128). -/
def spareSelfTestDone (cs : Nat) (ok : Bool) (s : State) : State :=
  match s.spare cs with
  | none => s
  | some x =>
    if s.f (Fld.teSpareStatus_state cs) ≠ 1 then s
    else if ok then (s.put (Fld.teSpareStatus_state cs) 2).put (Fld.teSpareStatus_serving cs) x.target
    else
      let t := (s.put (Fld.teSpareStatus_state cs) 5).setSpare cs none
      if x.trigger = 0 then t.engineLost (16 * cs + x.target) else t.inventoryUpdate

/-- SPARE_COPY_DONE (R127): the store is copied; the switch waits for the boundary, and the engine's tasks stop at their next
vector boundary. -/
def spareCopyDone (cs : Nat) (s : State) : State :=
  match s.spare cs with
  | some x =>
    if s.f (Fld.teSpareStatus_state cs) = 2 then (s.put (Fld.teSpareStatus_state cs) 3).put (Fld.teStatus_state (16 * cs + x.target)) 2 else s
  | none => s

/-- SPARE_CUTOVER (R127): with no pass in flight and the engine's tasks at a vector boundary, the spare takes over with
the tasks' positions and row scalars; the lead records the switch. -/
def spareCutover (cs : Nat) (s : State) : State :=
  match s.spare cs with
  | none => s
  | some x =>
    let e := 16 * cs + x.target
    if s.f (Fld.teSpareStatus_state cs) ≠ 3 ∨ (s.arr cs).flight.isEmpty = false ∨ (s.eng e).tasks.any (fun t => t.pos != 0) then s
    else
      let t := ((s.put (Fld.teSpareStatus_state cs) 4).put (Fld.teStatus_on_spare e) 1).put (Fld.teStatus_state e) 0
      let t := t.setComp { t.comp with keepSwitches := t.comp.keepSwitches ++ [(cs, x.target)] }
      let y := t.arr cs
      let t := t.setArr cs { y with nextLoad := max y.nextLoad (y.busyEnd + 1), nextStart := max y.nextStart (y.busyEnd + 2) }
      ((t.engUpdate e).event 0x0303 (some (t.partOfCs cs)) (csCantle cs) cs (toLE 1 cs ++ toLE 1 x.target ++ toLE 1 x.trigger)).inventoryUpdate

end Sys2Proof.Machine
end

