-- ==== Sys2Proof/Machine/Recorder.lean ====
section
/-!
DEFINITION. The event recorder (chapter 15): records, rate limiting, the two full-log policies, clears, and the notices that
copy records.
-/
namespace Sys2Proof.Machine

def recD : Nat → Option EvRec := fun _ => none

/-- Whether the policy is SPLIT (R396). -/
def State.split (s : State) : Bool := s.flag Fld.evrecCfg_policy

def State.setRec (s : State) (r : Recorder) : State := { s with recorder := r }

/-- The block byte of a record's source field: its code's, or for EV-0x0C01 the suppressed code's (R390, R395). -/
def EvRec.block (r : EvRec) : Nat := if r.code = 0x0C01 then fieldLE r.payload 1 1 else r.code / 256

/-- The source field. -/
def EvRec.source (r : EvRec) : Nat := r.block + 256 * r.instNo

/-- Bytes 0x00 to 0x3B of a record (R390). -/
def EvRec.body (r : EvRec) : List Byte :=
  toLE 8 r.seq ++ toLE 2 r.code ++ toLE 1 r.severity ++ toLE 1 r.flags ++ toLE 4 r.source ++ toLE 8 r.step ++ toLE 8 r.time ++
  padTo 28 r.payload

/-- The 64 bytes of a record. -/
def EvRec.toBytes (r : EvRec) : List Byte := r.body ++ toLE 4 (crc32c r.body)

/-- A record from its bytes, restored from a save (R400). -/
def EvRec.restored (b : List Byte) : EvRec :=
  ⟨fieldLE b 0 8, fieldLE b 8 2, fieldLE b 0xA 1, setBits (fieldLE b 0xB 1) 3 1 1, fieldLE b 0xD 2, fieldLE b 0x10 8, fieldLE b 0x18 8,
    (b.drop 0x20).take 28, false, false⟩

/-- The records held, in slot order. -/
def State.held (s : State) : List (Nat × EvRec) := s.recorder.slots.filterMap (fun e => e.2.map (fun r => (e.1, r)))

def State.recSlot (s : State) (k : Nat) : Option EvRec := Sparse.get recD s.recorder.slots k

/-- The lowest empty slot from lo up to hi, found as the first gap in the occupied ones. -/
def firstEmpty (occ : List Nat) (lo hi : Nat) : Option Nat :=
  let k := occ.foldl (fun k x => if x = k then k + 1 else k) lo
  if k < hi then some k else none

/-- The slot a new record of a severity takes: none when it is dropped (R396). -/
def State.place (s : State) (sev : Nat) : Option Nat :=
  let occ := s.held.map Prod.fst
  if s.split then
    match firstEmpty occ 0 4096 with
    | some k => some k
    | none => some s.recorder.ring
  else
    match firstEmpty occ 0 32768 with
    | some k => some k
    | none =>
      let c := s.held.filter (fun e => decide (e.2.severity ≤ sev))
      c.foldl (fun best e => match best with
        | none => some e.1
        | some k => (match s.recSlot k with | some r => if e.2.seq < r.seq then some e.1 else some k | none => some e.1)) none

/-- Refresh the status registers of the log. -/
def State.recShow (s : State) : State :=
  let seqs := s.held.map (fun e => e.2.seq)
  let lo := match seqs with | [] => 0 | x :: xs => xs.foldl min x
  (s.wr Reg.evrecSeqLo lo).putB Fld.evrecStatus_pinned_full (s.split && (firstEmpty (s.held.map Prod.fst) 0 4096).isNone)

/-- The notice queues of a record: its code's, and those the raising rule names (R394, R425, R427). -/
def noticeQueues (rule : NoticeRule) (part : Option Nat) (extra : List Nat) : List Nat :=
  ((match rule, part with
    | .no, _ => []
    | .yes, some p => [p]
    | .yes, none => [4]
    | .nq4, _ => [4]) ++ extra).dedup

/-- The 64 bytes of a notice record (R42, R390). -/
def EvRec.notice (r : EvRec) (phase : Nat) : List Byte :=
  toLE 2 r.code ++ toLE 1 r.severity ++ toLE 1 phase ++ toLE 4 r.seq ++ toLE 8 r.step ++ toLE 8 r.time ++ toLE 4 r.source ++
  padTo 28 r.payload ++ toLE 8 0

/-- Write one record: the next sequence number, its slot, and its notices; a record that no slot can take is dropped and
counted (R391, R394, R396). -/
def State.writeRecord (s : State) (code sev flags inst step time : Nat) (payload : List Byte) (queues : List Nat) : State :=
  match s.place sev with
  | none => s.bumpSat Fld.evrecDropped_count 1
  | some k =>
    let r : EvRec := ⟨s.recorder.nextSeq, code, sev, flags, inst, step, time, padTo 28 payload, Config.freeBit s.fresh, false⟩
    let taken := (s.recSlot k).isSome
    let ringed := s.split && decide (4096 ≤ k)
    let t := s.useFresh 1
    let t := t.setRec { t.recorder with slots := Sparse.put recD t.recorder.slots k (some r), nextSeq := r.seq + 1,
                                        ring := if ringed then (if k = 32767 then 4096 else k + 1) else t.recorder.ring }
    let t := (t.wr Reg.evrecSeqHi r.seq).recShow
    let t := if taken then t.put Fld.evrecStatus_wrapped 1 else t
    queues.foldl (fun t q => t.notice q r.notice) t

/-! ### Rate limiting (R395) -/

def bucketD : Nat → Bucket := fun _ => ⟨0, 0, 0, 0, 0, 0, 0, 0, false⟩

def State.bucketOf (s : State) (code : Nat) : Bucket := Sparse.get bucketD s.recorder.buckets code

def State.setBucketOf (s : State) (code : Nat) (b : Bucket) : State := s.setRec { s.recorder with buckets := Sparse.put bucketD s.recorder.buckets code b }

/-- Refill rate and burst of a code: an override's, else the defaults. -/
def State.rateOf (s : State) (code : Nat) : Nat × Nat :=
  match (List.range 64).find? (fun k => decide (code ≠ 0) && s.f (Fld.evrecRate_code k) == code) with
  | some k => (s.f (Fld.evrecRate_rate k), s.f (Fld.evrecRate_burst k))
  | none => (s.f Fld.evrecCfg_rate, s.f Fld.evrecCfg_burst)

/-- Units of a whole token: r units accrue per CTLCLK cycle, so r tokens per millisecond. -/
def tokenUnits : Nat := 475000

/-- The level of a code's bucket now; full until the code is first used. -/
def State.levelOf (s : State) (code : Nat) : Nat :=
  let rb := s.rateOf code
  let b := s.bucketOf code
  if b.used then min (rb.2 * tokenUnits) (b.level + rb.1 * (s.now - b.at_)) else rb.2 * tokenUnits

/-- FATAL events and the recorder's own codes are never suppressed. -/
def neverSuppressed (code sev : Nat) : Bool := sev == 3 || code / 256 == 0x0C

/-! ### The write engine (R388 to R395) -/

/-- Flags of a record. -/
def Ev.flags (e : Ev) : Nat :=
  (match e.part with | some p => 1 + 2 * p | none => 0) + (if e.cantle then 16 else 0)

/-- The step of a record of a partition, or of the device (R392). -/
def State.stepFor (s : State) (part : Option Nat) : Nat :=
  match part with
  | some p => s.rd (Reg.stepN p)
  | none => match s.firstStarted with | some p => s.rd (Reg.stepN p) | none => 0

/-- The bucket of a code is full. -/
def State.bucketFull (s : State) (code : Nat) : Bool := decide ((s.rateOf code).2 * tokenUnits ≤ s.levelOf code)

/-- EV-0x0C01 for what a code's bucket suppressed (R395). -/
def State.writeSuppressed (s : State) (code : Nat) : State :=
  let b := s.bucketOf code
  let part := if testBit b.lastFlags 0 then some (bits b.lastFlags 1 2) else none
  let t := s.setBucketOf code { b with suppressed := 0, maxSev := 0 }
  t.writeRecord 0x0C01 b.maxSev b.lastFlags b.lastInst (t.stepFor part) t.now
    (toLE 2 code ++ toLE 2 0 ++ toLE 4 b.suppressed ++ toLE 8 b.tFirst ++ toLE 8 b.tLast) (noticeQueues (evInfo code).2 part [])

/-- Write, or suppress, the event taken from an intake; one that meets its bucket becoming full after suppressions takes its token
first, and the suppression record is written next (R402). -/
def State.takeEvent (s : State) (e : Ev) : State :=
  let i := evInfo e.code
  let out := fun (t : State) => t.writeRecord e.code i.1 e.flags e.instNo (t.stepFor e.part) e.time e.payload (noticeQueues i.2 e.part e.notice)
  if neverSuppressed e.code i.1 then out s
  else
    let l := s.levelOf e.code
    let b := s.bucketOf e.code
    if tokenUnits ≤ l then
      let t := out (s.setBucketOf e.code { b with level := l - tokenUnits, at_ := s.now, used := true })
      if b.suppressed ≠ 0 ∧ s.bucketFull e.code then t.writeSuppressed e.code else t
    else
      (s.setBucketOf e.code { b with
        level := l, at_ := s.now, used := true, suppressed := b.suppressed + 1,
        tFirst := if b.suppressed = 0 then e.time else b.tFirst, tLast := e.time, maxSev := max b.maxSev i.1,
        lastFlags := e.flags, lastInst := e.instNo }).bumpSat Fld.evrecSuppressed_count 1

/-- Cantle's waiting events are lost while the girth bridge does not carry them in HELD (R401). -/
def State.loseCantle (s : State) : State :=
  let n := s.recorder.intake1.length
  (s.setRec { s.recorder with intake1 := [], lost1 := s.recorder.lost1 + n }).bumpSat Fld.evrecLost_cantle n

/-- The recorder has started: it does so at the keep-area restore, so that its first record follows those restored (R391). -/
def State.recording (s : State) : Bool := s.f Fld.bootStatus_stage == 5 || s.f Fld.bootStatus_stage == 6 || s.f Fld.bootStatus_stage == 8

/-- What the engine can take of a half's waiting events: none while the half's firmware restarts (R375). -/
def State.forwarded (s : State) (cantle : Bool) : List Ev := if s.halfRestarts cantle then [] else s.intake cantle

/-- EVENT_RECORD_WRITE: the engine takes the oldest waiting event, Pommel's before Cantle's of the same cycle.  bridge: the
girth bridge carries Cantle's events. -/
def eventRecordWrite (bridge : Bool) (s : State) : State :=
  let s := if s.isHeld && !bridge then s.loseCantle else s
  if s.recording = false then s else
  match s.forwarded false, s.forwarded true with
  | [], [] => s
  | e :: es, [] => (s.setRec { s.recorder with intake0 := es }).takeEvent e
  | [], e :: es => (s.setRec { s.recorder with intake1 := es }).takeEvent e
  | e :: es, f :: fs =>
    if f.time < e.time then (s.setRec { s.recorder with intake1 := fs }).takeEvent f
    else (s.setRec { s.recorder with intake0 := es }).takeEvent e

/-- INTAKE_LOST (R389): once the intake has fallen to 256 entries, the count lost since the previous such record. -/
def intakeLost (cantle : Bool) (s : State) : State :=
  let n := if cantle then s.recorder.lost1 else s.recorder.lost0
  if n = 0 ∨ 256 < (s.intake cantle).length ∨ s.recording = false then s
  else
    let t := s.setRec (if cantle then { s.recorder with lost1 := 0 } else { s.recorder with lost0 := 0 })
    t.writeRecord 0x0C02 1 (if cantle then 16 else 0) 0 (t.stepFor none) t.now (toLE 1 (if cantle then 1 else 0) ++ toLE 3 0 ++ toLE 4 n) [4]

/-- SUPPRESSED (R395): the bucket is full again after suppressions. -/
def suppressed (code : Nat) (s : State) : State :=
  if (s.bucketOf code).suppressed = 0 ∨ s.bucketFull code = false then s else s.writeSuppressed code

/-! ### Clears (R397) -/

/-- Empty the slots below a bound, with EV-0x0C04 at once. -/
def State.clearLog (s : State) (bound scope : Nat) : State :=
  let gone := s.held.filter (fun e => decide (e.1 < bound))
  let high := (gone.map (fun e => e.2.seq)).foldl max 0
  let t := s.setRec { s.recorder with slots := s.recorder.slots.filter (fun e => decide (bound ≤ e.1)),
                                      ring := if bound = 32768 then 4096 else s.recorder.ring }
  let t := (t.put Fld.evrecStatus_wrapped 0).recShow
  t.writeRecord 0x0C04 0 0 0 (t.stepFor none) t.now (toLE 1 scope ++ toLE 7 0 ++ toLE 8 high) []

/-- Only the lead firmware or a control queue pair of device scope writes EVREC_CLEAR. -/
def State.mayClear (s : State) (w : Writer) : Bool :=
  match w with
  | .lead => true
  | .other => false
  | .qp _ => s.writerDevice w

/-- EVREC_CLEAR_PINNED: the pinned bit alone; under SEVERITY it takes no effect. -/
def evrecClearPinned (w : Writer) (go : Bool) (s : State) : State :=
  if !s.mayClear w then s.badWrite Reg.evrecClear (if go then 0x80000001 else 1)
  else if go && s.split then s.clearLog 4096 1 else s

/-- EVREC_CLEAR_ALL: the all bit, with or without the pinned bit, which takes effect only under SPLIT. -/
def evrecClearAll (w : Writer) (pinned go : Bool) (s : State) : State :=
  if !s.mayClear w then s.badWrite Reg.evrecClear ((if go then 0x80000002 else 2) + (if pinned then 1 else 0))
  else if go then s.clearLog 32768 (if pinned && s.split then 3 else 2) else s

end Sys2Proof.Machine
end

