-- ==== Sys2Proof/Machine/Contract.lean ====
section
/-!
DEFINITION. The execution contract (chapter 2): queues and doorbells, admission, fences, retirement, abort; the close of
layer instances (R194), step records (R201) and replay (R202).
-/
namespace Sys2Proof.Machine

/-! ### Queue registers (R20, R40, R41, R45) -/

/-- WQ_TAIL_WRITE (R20). -/
def wqTailWrite (w : Writer) (n v : Nat) (s : State) : State :=
  s.regWrite w (Reg.wqTail n) v (fun s =>
    let head := s.rd (Reg.wqHead n)
    let d := (2 ^ 32 + v - head) % 2 ^ 32
    if 2 ^ s.f (Fld.wqCfg_size_log2 n) < d ∨ d < (2 ^ 32 + s.rd (Reg.wqTail n) - head) % 2 ^ 32 then
      (s.put (Fld.wqStat_tail_bad n) 1).badWrite (Reg.wqTail n) v
    else s.wr (Reg.wqTail n) (v % 2 ^ 32))

/-- WQ_BASE_WRITE (R45). -/
def wqBaseWrite (w : Writer) (n v : Nat) (s : State) : State :=
  s.regWrite w (Reg.wqBase n) v (fun s =>
    if s.flag (Fld.wqCfg_enable n) then s.badWrite (Reg.wqBase n) v else s.writeFields (Reg.wqBase n) v)

/-- WQ_ENABLE (R45): the ring must lie wholly in HBM that the queue's partition owns. -/
def wqEnable (w : Writer) (n v : Nat) (s : State) : State :=
  let v := v / 2 * 2 + 1
  s.regWrite w (Reg.wqCfg n) v (fun s =>
    if s.flag (Fld.wqCfg_enable n) || !(s.part (s.wqPart n)).started || !s.ownsRange (s.wqPart n) (s.rd (Reg.wqBase n)) (128 * 2 ^ bits v 4 5) then s.badWrite (Reg.wqCfg n) v
    else s.writeFields (Reg.wqCfg n) v)

/-- WQ_DISABLE (R45). -/
def wqDisable (w : Writer) (n v : Nat) (s : State) : State :=
  let v := v / 2 * 2
  s.regWrite w (Reg.wqCfg n) v (fun s => s.writeFields (Reg.wqCfg n) v)

/-- Offset of a completion queue's (0 to 63) or notice queue's (64 to 68) configuration. -/
def cqCfgOff (n : Nat) : Nat := if n < 64 then Reg.cqCfg n else Reg.nqCfg (n - 64)

/-- Items may have retired: look again at what waits for them, and at the partitions' modes. -/
def State.settle (s : State) : State := s.wake.modesUpdate

/-- CQ_ENABLE (R40, R41): the producer index and the head restart at 0, and records held are written oldest first. -/
def cqEnable (w : Writer) (n v : Nat) (s : State) : State :=
  let v := setBits v 24 1 1
  s.regWrite w (cqCfgOff n) v (fun s =>
    if s.flag (cqEnabledF n) then s.badWrite (cqCfgOff n) v
    else
      let t := ((s.writeFields (cqCfgOff n) v).setCq n { s.cq n with prod := 0 }).put (cqHeadF n) 0
      (State.drainNotices (t.cq n).notices.length (State.drainCq (t.cq n).held.length t n) n).settle)

/-- CQ_DISABLE. -/
def cqDisable (w : Writer) (n v : Nat) (s : State) : State :=
  let v := setBits v 24 1 0
  s.regWrite w (cqCfgOff n) v (fun s => s.writeFields (cqCfgOff n) v)

/-- CQ_HEAD_WRITE (R41). -/
def cqHeadWrite (w : Writer) (n v : Nat) (s : State) : State :=
  s.regWrite w (Reg.cqHead n) v (fun s => (State.drainCq (s.cq n).held.length (s.wr (Reg.cqHead n) (v % 2 ^ 32)) n).settle)

/-- DEPCTR_WRITE (R29). -/
def depctrWrite (w : Writer) (n v : Nat) (s : State) : State :=
  s.regWrite w (Reg.depctr n) v (fun s => (s.wr (Reg.depctr n) (v % 2 ^ 32)).wake)

/-! ### Retirement (R28, R30 to R32, R41, R425) -/

/-- An add to a counter (R28). -/
def State.signal (s : State) (ctr inc : Nat) : State :=
  if ctr = 0xFFFF then s else s.wr (Reg.depctr ctr) ((s.rd (Reg.depctr ctr) + inc) % 2 ^ 32)

/-- The completion record of an operation.  The count of a first issue that never came, and the detail of a kind to which
the spec gives none, are free values. -/
def State.cplOf (s : State) (slot : Nat) (o : Op) (result : Nat) : CplRec :=
  { tag := o.tag, wq := o.wq, opcode := o.opcode, result := result, flags := o.flags, slot := slot, step := o.stamp,
    tIssue := if o.tIssue = 0 then (Config.freeWord s.fresh).toNat else o.tIssue - 1, tRetire := s.now,
    detail := if o.opcode = 2 ∨ o.opcode = 5 then (Config.freeWord (s.fresh + 1)).toNat else o.detail }

/-- An ended item's record goes where R425 sends it, and the item leaves the table once the record is written; with no
record to write it leaves at once.  Where no queue can take the record, the generic event and notice go out. -/
def State.report425 (s : State) (slot : Nat) (o : Op) (result : Nat) : State :=
  if result = 0 ∧ o.isPost = false then s.leave slot o
  else if o.cqN < 64 then (s.useFresh 2).post o.cqN (s.cplOf slot o result)
  else if result = 0 then s.leave slot o
  else (s.genericNotice Blk.ctl (s.opPart o) slot o.tag result).leave slot o

/-- An ended item lets go of its contexts, claims, runs and tasks. -/
def State.endWork (s : State) (slot : Nat) (o : Op) : State :=
  let t := (itemCtxs o.item).foldl (fun t e => t.unbindCtx o.admitNo e.1) s
  if o.opcode = 1 then t.dropMatmul slot o.admitNo else if o.opcode = 2 then t.dropTasks slot o.admitNo else t

/-- An operation ends (R28, R30, R32, R425): state, result and settled; the add to its counter when it is OK and still due;
its record; and a context it has consumed from goes STALE when it did not end OK (R135).  It retires once its record is
written. -/
def State.retire (s : State) (slot result : Nat) (add : Bool) : State :=
  match s.op slot with
  | none => s
  | some o =>
    let t := s.setStatus slot (if result = 0 then 8 else if result = Res.aborted then 10 else 9) result true
    let t := if result = 0 then t.applyRetired o else t
    let t := if result = 0 ∧ add then t.signal o.signalCtr o.signalInc else t
    let t := if result = 0 then t else o.used.foldl (fun t i => t.makeStale i) t
    ((t.endWork slot o).report425 slot o result).settle

/-- Note that an item of a layer has ended: an add to an internal counter is made now, one to layer_ctr is held (R194). -/
def State.endInLayer (s : State) (k : Nat) (o : Op) (r : Nat) : State :=
  match s.inst k with
  | none => s
  | some x =>
    if x.ended.contains o.admitNo then s
    else
      let t := s.setInst k (some { x with ended := x.ended ++ [o.admitNo], bad := x.bad || r != 0 })
      if r = 0 ∧ o.signalCtr ≠ s.ladCtr x.part x.entry then (t.signal o.signalCtr o.signalInc).wake else t

/-- ITEM_RETIRE (R32): the completion path settles an item whose side effects are all made.  An item of an open layer
instance stays ISSUED until the instance closes (R194). -/
def itemRetire (slot : Nat) (s : State) : State :=
  match s.op slot with
  | none => s
  | some o =>
    match o.done with
    | none => s
    | some r =>
      if s.opSettled slot ∨ s.serving = false then s
      else
        match o.layer.bind s.inst, o.layer with
        | some _, some k => s.endInLayer k o r
        | _, _ => s.retire slot r true

/-! ### Fences and MARK (R27, R36, R24) -/

/-- The READY fence of a kind in a slot. -/
def State.readyFence (s : State) (slot kind : Nat) : Option Op :=
  match s.op slot with
  | some o => if o.opcode = 5 ∧ o.b 0x20 1 = kind ∧ s.opState slot = 2 ∧ s.serving ∧ s.cqStalled o = false then some o else none
  | none => none

/-- A fence runs: it issues and retires OK. -/
def State.passFence (s : State) (slot : Nat) : State := (s.issue slot).retire slot Res.ok true

/-- A fence in a layer ends like any item of it; another retires. -/
def State.endItem (s : State) (slot : Nat) : State :=
  match s.op slot with
  | some o => if (o.layer.bind s.inst).isSome then (s.issue slot).finish slot Res.ok else s.passFence slot
  | none => s

/-- FENCE_QUEUE (R27). -/
def fenceQueue (slot : Nat) (s : State) : State :=
  match s.readyFence slot 0 with
  | none => s
  | some o => if s.inFlight.any (fun e => e.2.wq == o.wq && decide (e.2.admitNo < o.admitNo)) then s else s.endItem slot

/-- FENCE_PARTITION (R27). -/
def fencePartition (slot : Nat) (s : State) : State :=
  match s.readyFence slot 2 with
  | none => s
  | some o => if s.inFlight.any (fun e => s.opPart e.2 == s.opPart o && decide (e.2.admitNo < o.admitNo)) then s else s.endItem slot

/-- FENCE_STEP_CLOSE (R36). -/
def fenceStepClose (slot : Nat) (s : State) : State :=
  match s.readyFence slot 1 with
  | none => s
  | some o =>
    let p := s.opPart o
    if s.inFlight.any (fun e => s.opPart e.2 == p &&
        ((e.2.phase == 1 && e.2.stamp == o.stamp && e.1 != slot) || (e.2.opcode == 5 && e.2.b 0x20 1 == 1 && decide (e.2.admitNo < o.admitNo)))) then s
    else s.passFence slot

/-- MARK (R24): the payload goes into the record; an event record and a notice where its options ask. -/
def opMark (slot : Nat) (s : State) : State :=
  match s.issuable slot 8 with
  | none => s
  | some o =>
    let opt := o.b 0x28 1
    let p := s.opPart o
    let t := if testBit opt 1 then s.genericNotice Blk.ctl p slot o.tag Res.ok
      else if testBit opt 0 then s.generic Blk.ctl (some p) slot o.tag Res.ok else s
    let t := t.setOp slot (some { o with detail := o.b 0x20 8 })
    t.endItem slot

/-! ### Admission (R21, R23, R30, R35, R195, R197, R203, R427) -/

/-- Slots that remain for items beyond their queues' reservations. -/
def State.unreserved (s : State) : Int :=
  4096 - (((List.range 64).map (fun n => max (s.f (Fld.wqCfg_min_slots n)) (s.f (Fld.wqStat_in_flight n)))).foldl (· + ·) 0 : Nat)

/-- A slot is available to a queue (R30). -/
def State.slotFor (s : State) (n : Nat) : Bool :=
  decide (s.inFlight.length < 4096) && (decide (s.f (Fld.wqStat_in_flight n) < s.f (Fld.wqCfg_min_slots n)) || decide (0 < s.unreserved))

/-- A queue has an item that may enter. -/
def State.hasItem (s : State) (n : Nat) : Bool := s.flag (Fld.wqCfg_enable n) && s.rd (Reg.wqHead n) != s.rd (Reg.wqTail n)

/-- The first open instance of a partition with widen-list items not yet admitted. -/
def State.listPending (s : State) (p : Nat) : Option (Nat × LadInst) := s.openInsts.find? (fun e => e.2.part == p && !e.2.toAdmit.isEmpty)

/-- Queues of a partition in round-robin order from the one after the last served. -/
def State.rrOrder (s : State) (p : Nat) : List Nat :=
  let r := (s.part p).rr
  ((List.range 64).map (fun i => (r + 1 + i) % 64)).filter (fun n => s.wqPart n == p)

/-- An item is the one an entry of the admission log names: tag and opcode (R203). -/
def logMatches (e it : List Byte) : Bool := fieldLE e 8 4 == itemF it 4 4 && fieldLE e 12 1 == itemF it 0 1

/-- The instance whose widen list is admitted next: in replay the one whose next item the log names, else the first with items
to admit (R195, R203). -/
def State.nextList (s : State) (p : Nat) : Option (Nat × LadInst) :=
  match (s.part p).replay with
  | none => s.listPending p
  | some r =>
    match r.log with
    | [] => none
    | e :: _ => s.openInsts.find? (fun x => x.2.part == p && fieldLE e 0 1 == x.2.wq &&
        (match x.2.toAdmit with | a :: _ => logMatches e (s.bytes a 128) | [] => false))

/-- The list that an open instance would run at its next rise holds an item that a log entry names: the item may still come. -/
def State.listAhead (s : State) (p : Nat) (e : List Byte) : Bool :=
  s.openInsts.any (fun x => x.2.part == p && x.2.toAdmit.isEmpty && s.ladHasList p x.2.entry (x.2.rung + 1) &&
    (s.ladListAddrs p x.2.entry (x.2.rung + 1)).any (fun a => logMatches e (s.bytes a 128)))

/-- The queue whose head is admitted next: by turns (R21), in replay the logged item's.  There a head that the log does not name
next waits while a widen list may bring the logged item; else it diverges (R203). -/
def State.nextQueue (s : State) (p : Nat) : Option Nat :=
  match (s.part p).replay with
  | some r =>
    match r.log with
    | e :: _ =>
      let n := fieldLE e 0 1
      let i := s.rd (Reg.wqHead n)
      let head := s.bytes (s.rd (Reg.wqBase n) + 128 * (i % 2 ^ s.f (Fld.wqCfg_size_log2 n))) 128
      if s.wqPart n = p ∧ s.hasItem n ∧ s.slotFor n ∧ (logMatches e head ∨ s.listAhead p e = false) then some n else none
    | [] => none
  | none => (s.rrOrder p).find? (fun n => s.hasItem n && s.slotFor n)

/-- Show which queues of the partition wait for slots. -/
def State.stallSlots (s : State) (p : Nat) : State :=
  (s.rrOrder p).foldl (fun t n => t.putB (Fld.wqStat_stall_slots n) (s.hasItem n && !s.slotFor n)) s

/-- An entry of the admission log (R201). -/
def logEntry (wq index : Nat) (it : List Byte) : List Byte :=
  toLE 1 wq ++ toLE 3 0 ++ toLE 4 index ++ toLE 4 (itemF it 4 4) ++ toLE 1 (itemF it 0 1) ++ toLE 1 (itemF it 1 1 / 4 % 4) ++ toLE 2 0

/-- Open the book of a step at its first admission: the rung of each ladder entry (R201). -/
def State.openBook (s : State) (p step : Nat) : State :=
  if (s.book p step).isSome then s
  else
    let b : StepBook := { part := p, step := step, log := [], dataPos := 0,
                          rungs := (List.range (s.f (Fld.ladderCfg_entries p))).map (fun i => BitVec.ofNat 8 (s.ladRung p i)), rise := false, voids := 0,
                          voidSent := false, discarded := false, wideFirst := false, scales := [], closed := false }
    s.setHealth { s.health with books := s.health.books ++ [b] }

/-- The detail of an item that never ran (R40): no passes, no bytes; a MARK's payload; free for the other kinds. -/
def State.refusedDetail (s : State) (it : List Byte) : Nat :=
  match itemF it 0 1 with
  | 1 => 0
  | 3 => 0
  | 6 => 0
  | 7 => 0
  | 8 => itemF it 0x20 8
  | _ => (Config.freeWord (s.fresh + 1)).toNat

/-- An item that fails admission (R23, R425): an event, and its record; the notice instead where cq names no queue. -/
def State.refuse (s : State) (p wq stamp code : Nat) (it : List Byte) : State :=
  let t := s.put (Fld.wqStat_refused wq) 1
  let cq := itemF it 0x18 1
  let none_ := 2 ^ 64 - 1
  if cq < 64 ∧ code ≠ Res.cqInvalid then
    let r : CplRec := { tag := itemF it 4 4, wq := wq, opcode := itemF it 0 1, result := code, flags := 0, slot := 0xFFFF, step := stamp,
                        tIssue := (Config.freeWord t.fresh).toNat, tRetire := s.now, detail := t.refusedDetail it }
    ((t.generic Blk.ctl (some p) none_ (itemF it 4 4) code).useFresh 2).post cq r
  else t.genericNotice Blk.ctl p none_ (itemF it 4 4) code

/-- The ladder instance an admitted item joins, opening one for the first item of a step (R193, R197). -/
def State.joinLayer (s : State) (p wq admitNo stamp ctr : Nat) : State × Option Nat × Bool :=
  match s.ladEntryOf p ctr with
  | none => (s, none, false)
  | some i =>
    match s.openInsts.find? (fun e => e.2.part == p && e.2.entry == i && e.2.step == stamp) with
    | some (k, x) =>
      (s.setInst k (some { x with count := x.count + 1, items := x.items ++ [admitNo], wq := wq }), some k,
        s.ladSticky p i && decide (s.ladBaseRung p i < x.rung) && s.ladHasList p i x.rung && !x.rose)
    | none =>
      let r := s.ladRung p i
      let sticky := s.ladSticky p i && decide (s.ladBaseRung p i < r) && s.ladHasList p i r
      let x : LadInst := { part := p, entry := i, step := stamp, wq := wq, count := 1, items := [admitNo],
                           toAdmit := if sticky then s.ladListAddrs p i r else [], listItems := [], rung := r, trig := false, bad := false,
                           ended := [], rose := false }
      ((s.setInst admitNo (some x)).ladOpenUpdate p, some admitNo, sticky)

/-- Claim the prefetch halves for a pf MATMUL (R152): tiles of the passes dealt to each free array; pf_tiles 0 asks for as many
as fit (R136, R151). -/
def State.claimPrefetch (s : State) (slot : Nat) (o : Op) : State :=
  match s.peekStat o with
  | none => s
  | some d =>
    let p := s.opPart o
    let xF := o.b 0x35 1 / 16
    let tiles := if d.pfTiles = 0 then pfLimit xF else min d.pfTiles (pfLimit xF)
    let el := s.eligible p (o.b 0x37 1 / 4 % 16)
    let r := Sys2Proof.Machine.rateOf (o.b 0x34 1 % 8) xF (s.heritage p)
    let units := ceilDiv (o.b 0x2C 4) (4096 / r) * ceilDiv (o.b 0x32 2) 2
    if d.pf = false then s
    else el.foldl (fun t a =>
      if (t.claim a).isSome ∨ units ≤ el.idxOf a then t else t.setClaim a (some ⟨slot, o.admitNo, tiles⟩)) s

/-- The next admission number is taken. -/
def State.countAdmit (s : State) : State := { s with ctl := { s.ctl with nextAdmit := s.ctl.nextAdmit + 1 } }

/-- The layer instance an entering item belongs to: its list's, or the one its ladder names (R133). -/
def State.enterLayer (s : State) (p wq n stamp : Nat) (it : List Byte) (list : Option Nat) : State × Option Nat × Bool :=
  match list with
  | some k =>
    match s.inst k with
    | some x => (s.setInst k (some { x with listItems := x.listItems ++ [n] }), some k, false)
    | none => (s, none, false)
  | none => s.joinLayer p wq n stamp (itemF it 0x14 2)

/-- A MATMUL opens its weight-load account. -/
def State.enterAwl (s : State) (p n stamp : Nat) (it : List Byte) : State :=
  if itemF it 0 1 = 1 then
    s.setHealth { s.health with awl := s.health.awl ++ [⟨p, stamp, n, itemF it 0x2C 4, itemF it 0x32 2, none⟩] }
  else s

/-- A scope-STEP fence raises the partition's step, but in replay (R30, R199). -/
def State.enterStep (s : State) (p n stamp : Nat) (it : List Byte) : State :=
  if itemF it 0 1 = 5 ∧ itemF it 0x20 1 = 1 then
    let u := (s.setPart p { s.part p with lastStepFence := some n }).mapBook p stamp (fun b => { b with dataPos := s.rd (Reg.dataPos p) })
    if (u.part p).replay.isSome then u
    else (u.wr (Reg.stepN p) ((u.rd (Reg.stepN p) + 1) % 2 ^ 64)).putB (Fld.redTaint_full p) (u.red.taintFull.contains (p, (u.rd (Reg.stepN p) + 1) % 2 ^ 64))
  else s

/-- The step fence an APPLY waits for. -/
def State.stepFenceOf (s : State) (p : Nat) (it : List Byte) : Option Nat :=
  match (s.part p).lastStepFence with
  | some f => if itemF it 0 1 = 3 && itemF it 0x28 1 == 6 && s.inFlight.any (fun e => e.2.admitNo == f) then some f else none
  | none => none

/-- The operation an item that passed the checks becomes (R27, R30, R35). -/
def State.newOp (s : State) (p wq index stamp : Nat) (it : List Byte) (list : Option Nat) (layer : Option Nat) (skip : Bool) : Op :=
  { wq := wq, index := index, item := it, stamp := stamp, admitNo := s.ctl.nextAdmit, met0 := false, met1 := false,
    fences := (s.inFlight.filter (fun e => e.2.opcode == 5 &&
      ((e.2.b 0x20 1 == 0 && e.2.wq == wq) || (e.2.b 0x20 1 == 2 && s.opPart e.2 == p)))).map (fun e => e.2.admitNo),
    stepFence := s.stepFenceOf p it, tIssue := 0, done := none, detail := 0,
    flags := match list.bind s.inst with | some x => if x.rose then 2 else 0 | none => 0,
    layer := layer, listed := list.isSome, skip := skip, told := false, block := s.itemBlock p it, used := [], outs := [], got := [] }

/-- An item that passed the checks enters the operation table (R27, R30, R35, R133). -/
def State.enter (s : State) (p slot wq index stamp : Nat) (it : List Byte) (list : Option Nat) : State :=
  let n := s.ctl.nextAdmit
  let joined := s.countAdmit.enterLayer p wq n stamp it list
  let o := s.newOp p wq index stamp it list joined.2.1 joined.2.2
  let t := ((joined.1.setOp slot (some o)).setStatus slot 1 0 false).tableShow wq
  let t := (itemCtxs it).foldl (fun t e => t.bindCtx n e.1) t
  let t := t.enterAwl p n stamp it
  let t := if itemF it 0 1 = 1 ∧ joined.2.2 = false then t.claimPrefetch slot o else t
  (t.enterStep p n stamp it).wake

/-- Replay ends (R203). -/
def State.endReplay (s : State) (p : Nat) : State :=
  ((s.setPart p { s.part p with replay := none }).put (Fld.replay_enable p) 0).ringReplay p none

/-- The check of R203 on an item about to be admitted in replay: the state after it, and whether it diverged. -/
def State.replayCheck (s : State) (p wq : Nat) (it : List Byte) : State × Bool :=
  match (s.part p).replay with
  | none => (s, false)
  | some r =>
    match r.log with
    | e :: rest =>
      if fieldLE e 0 1 = wq ∧ logMatches e it then
        (s.setPart p { s.part p with replay := some { r with log := rest } }, false)
      else
        let t := (s.endReplay p).put (Fld.replay_diverged p) 1
        (t.event 0x0805 (some p) (t.partCantle p) 0
          (toLE 1 wq ++ toLE 3 0 ++ toLE 4 (fieldLE e 8 4) ++ toLE 4 (itemF it 4 4) ++ toLE 1 (fieldLE e 12 1) ++ toLE 1 (itemF it 0 1)), true)
    | [] => (s, false)

/-- Take one item through admission.  list names the instance whose widen list it comes from. -/
def State.admitNo (s : State) (p slot wq index addr : Nat) (list : Option Nat) : State :=
  let inst := list.bind s.inst
  let lost := fun (t : State) => match list, inst with
    | some k, some _ => (match t.inst k with | some x => t.setInst k (some { x with bad := true }) | none => t)
    | _, _ => t
  if s.poisoned addr 128 then lost ((s.put (Fld.wqStat_refused wq) 1).genericNotice Blk.ctl p addr index Res.hwFault)
  else
    let it := s.bytes addr 128
    let stamp := match inst, (s.part p).replay with
      | some x, _ => x.step
      | none, some r => r.step
      | none, none => s.rd (Reg.stepN p)
    let rc := s.replayCheck p wq it
    let t := (rc.1.openBook p stamp).mapBook p stamp (fun b => { b with log := b.log ++ [logEntry wq index it] })
    let ctr := match inst with | some x => some (t.ladCtr p x.entry) | none => none
    let code := if rc.2 then Res.badField else t.admissionCheck p it ctr
    if code = 0 then t.enter p slot wq index stamp it list
    else
      let u := t.refuse p wq stamp code it
      match list with
      | some _ => lost u
      | none =>
        let n := u.ctl.nextAdmit
        let u := u.countAdmit
        let j := u.joinLayer p wq n stamp (itemF it 0x14 2)
        match j.2.1 with
        | some k => (match j.1.inst k with | some x => j.1.setInst k (some { x with bad := true }) | none => j.1)
        | none => u

/-- ADMIT_ITEM (R21, R23): the admission unit of partition p takes its next item into a free slot. -/
def admitItem (p slot : Nat) (s : State) : State :=
  if s.serving = false ∨ (s.part p).started = false ∨ (s.part p).paused ∨ (s.op slot).isSome then s
  else
    match s.nextList p with
    | some (k, x) =>
      match x.toAdmit with
      | [] => s
      | a :: rest =>
        if s.slotFor x.wq = false then s
        else
          let t := (s.setInst k (some { x with toAdmit := rest })).useFresh 1
          t.admitNo p slot x.wq ((Config.freeWord s.fresh).toNat % 2 ^ 32) a (some k)
    | none =>
      let s := s.stallSlots p
      match s.nextQueue p with
      | none => s
      | some n =>
        let i := s.rd (Reg.wqHead n)
        let t := (s.wr (Reg.wqHead n) ((i + 1) % 2 ^ 32)).setPart p { s.part p with rr := n }
        t.admitNo p slot n i (s.rd (Reg.wqBase n) + 128 * (i % 2 ^ s.f (Fld.wqCfg_size_log2 n))) none

/-! ### Abort (R33, R34) -/

/-- The abort-result record; what the spec does not state of it is free. -/
def State.abortRecord (s : State) (wq tag cq result : Nat) : State :=
  let w := fun (i : Nat) => (Config.freeWord (s.fresh + i)).toNat
  (s.post cq { tag := tag, wq := wq, opcode := 0, result := result, flags := 0, slot := w 0 % 2 ^ 16, step := w 1, tIssue := w 2,
               tRetire := w 3, detail := w 4 }).useFresh 5

/-- The oldest in-flight item of a queue with a tag. -/
def State.named (s : State) (wq tag : Nat) : Option (Nat × Op) :=
  ((s.inFlight.filter (fun e => e.2.wq == wq && e.2.tag == tag)).foldl (fun best e =>
    match best with
    | some b => if e.2.admitNo < b.2.admitNo then some e else some b
    | none => some e) none)

/-- ABORT_REQ (R33, R422). -/
def abortReq (w : Writer) (wq tag cq : Nat) (s : State) : State :=
  let v := wq + 2 ^ 8 * cq + 2 ^ 32 * tag
  s.regWrite w Reg.abortReq v (fun s =>
    if !(s.writerPasses w (s.wqPart wq) && s.writerPasses w (s.wqPart cq)) || s.isHeld then s.badWrite Reg.abortReq v
    else
      match s.named wq tag with
      | none => s.abortRecord wq tag cq Res.notFound
      | some (slot, o) =>
        if s.opSettled slot then s.abortRecord wq tag cq Res.tooLate
        else if o.opcode = 5 ∧ o.b 0x20 1 = 1 then s.abortRecord wq tag cq Res.notAbortable
        else
          let t := s.setStatus slot 4 Res.aborted true
          let t := match o.layer with
            | some k => (match t.inst k with | some x => t.setInst k (some { x with bad := true }) | none => t)
            | none => t
          t.abortRecord wq tag cq Res.ok)

/-- Whether the operation in a slot has reached its safe point (R34): a MATMUL or KERNEL whose present pass or vector has
ended; the other kinds at once in this model, whose transfers are single steps. -/
def State.atSafePoint (s : State) (slot : Nat) (o : Op) : Bool :=
  if o.opcode = 1 then (List.range 4).all (fun a => (s.arr a).flight.all (fun f => !(f.id.slot == slot && f.id.admitNo == o.admitNo)))
  else if o.opcode = 2 then (List.range 64).all (fun e => (s.eng e).tasks.all (fun t => !(t.slot == slot && t.admitNo == o.admitNo) || t.pos == 0))
  else true

/-- Stop an aborted item's work beside the arrays, engines and contexts. -/
def State.stopWork (s : State) (slot : Nat) (o : Op) : State :=
  let p := s.opPart o
  if o.opcode = 4 then
    if (s.red.buckets.any (fun e => match e.2 with | some b => b.slot == slot && b.admitNo == o.admitNo | none => false)) then s.ringAbort slot
    else if o.tIssue = 0 ∧ (match (s.part p).replay with | some r => r.localScope | none => false) = false then s.ringAbortUnissued o.admitNo (o.b 0x22 2)
    else s
  else if o.opcode = 6 then
    match s.stopOf p with
    | some r =>
      if r.slot = slot ∧ r.admitNo = o.admitNo then
        let t := ((r.regions.zip r.places).foldl (fun t e => t.storeFree e.2 e.1.2) s).setStop p none
        let t := if s.f (slotStateF (4 * p + r.k)) = 1 then t.put (slotStateF (4 * p + r.k)) 3 else t
        t
      else s
    | none => s
  else if o.opcode = 7 then
    (s.setFlash { s.snap.flash with ships := s.snap.flash.ships.filter (fun h => h.slot != slot) }).flashShow
  else if o.opcode = 3 ∧ o.b 0x28 1 = 6 then
    s.setTwin { s.snap.twin with applies := s.snap.twin.applies.filter (fun a => !(a.slot == slot && a.admitNo == o.admitNo)) }
  else s

/-- ABORT_SAFE_POINT (R34): the item stops, its output regions hold undefined bytes, and it retires ABORTED. -/
def abortSafePoint (slot : Nat) (s : State) : State :=
  match s.op slot with
  | none => s
  | some o =>
    if s.opState slot ≠ 4 ∨ s.serving = false ∨ s.atSafePoint slot o = false then s
    else
      let t := s.stopWork slot o
      let t := o.outs.foldl (fun t r => t.storeFree r.1 r.2) t
      t.retire slot Res.aborted false

/-! ### Layer instances (R194, R195, R197) -/

/-- The oldest open instance of a ladder entry. -/
def State.oldestInst (s : State) (p i : Nat) : Option (Nat × LadInst) :=
  (s.openInsts.filter (fun e => e.2.part == p && e.2.entry == i)).foldl (fun best e =>
    match best with
    | some b => if e.1 < b.1 then some e else some b
    | none => some e) none

/-- LADDER_RISE on an entry's oldest instance. -/
def ladderRiseAt (p i : Nat) (s : State) : State :=
  match s.oldestInst p i with
  | some (k, _) => if s.serving then ladderRise k s else s
  | none => s

/-- LADDER_INSTANCE_CLOSE (R194): the held adds, the items' last states and their records; an unsticky rise goes back. -/
def ladderInstanceClose (p i : Nat) (s : State) : State :=
  match s.oldestInst p i with
  | none => s
  | some (k, x) =>
    let rises := x.trig && !s.instBad x
    if s.instComplete x = false ∨ rises ∨ s.serving = false then s
    else
      let all := x.items ++ x.listItems
      let t := s.setInst k none
      let t := all.foldl (fun t n =>
        match t.inFlight.find? (fun e => e.2.admitNo == n) with
        | some (slot, o) => t.retire slot (o.done.getD Res.ok) (!x.ended.contains n || o.signalCtr == s.ladCtr p i)
        | none => t) t
      let t := if x.rose ∧ s.ladSticky p i = false then t.setLadRung p i (s.ladBaseRung p i) else t
      t.ladOpenUpdate p

/-! ### Step records and replay (R201 to R205) -/

/-- The members of a partition's group in ring order: those live for the step, in replay of the recorded ones; without a group,
this device. -/
def State.stepMembers (s : State) (p step : Nat) : Nat × List Nat :=
  match (s.groupsOfPart p).head? with
  | some (_, g) =>
    (g.job, ((List.range g.n).filter (fun q => !g.jobLost.contains q && !g.stepLost.contains (q, step) &&
      (match g.recMembers with | some ms => ms.contains (g.node q) | none => true))).map g.node)
  | none => (0, [s.node])

/-- The ring tables of a step record's body, as the meta sections of R306. -/
def State.ringTables (s : State) (p : Nat) : List Byte :=
  metaSection 2 ((s.groupsOfPart p).flatMap (fun e => e.2.tab)) ++ metaSection 3 (s.ownershipBytes p) ++ metaSection 4 (s.reachBytes p) ++
  metaSection 5 (s.slotBytes p)

/-- Where the next record and its body go: bodies follow the ring of records one after the other, from its end again
whenever the record ring starts over. -/
def State.recordPlace (s : State) (p : Nat) : Nat × Nat :=
  let base := s.rd (Reg.steprecBase p)
  let size := 2 ^ s.f (Fld.steprecCfg_size_log2 p)
  let i := s.rd (Reg.steprecHead p) % size
  let at_ := base + 256 * i
  if i = 0 then (at_, base + 256 * size)
  else
    let prev := at_ - 256
    (at_, ceilDiv (s.word (prev + 0x38) 8 + s.word (prev + 0xC0) 8) 256 * 256)

/-- STEP_RECORD_WRITE (R201): the oldest closed step whose COLLECTIVEs have all retired; without step records its notes
are dropped. -/
def stepRecordWrite (p : Nat) (s : State) : State :=
  match s.health.books.find? (fun b => b.part == p && b.closed) with
  | none => s
  | some b =>
    if s.inFlight.any (fun e => s.opPart e.2 == p && e.2.opcode == 4 && e.2.stamp == b.step) ∨ s.serving = false then s
    else
      let t := s.setHealth { s.health with books := s.health.books.filter (fun x => !(x.part == p && x.step == b.step)) }
      if s.flag (Fld.steprecCfg_enable p) = false then t
      else
        let job := (s.stepMembers p b.step).1
        let ms := (s.stepMembers p b.step).2
        let members := ms.flatMap (fun m => toLE 4 m)
        let tables := s.ringTables p
        let body := members ++ tables ++ b.scales ++ b.rungs ++ b.log.flatten
        let replayed := (s.part p).replay
        let rs := s.rngStep p b.step
        let bit := fun (c : Bool) (k : Nat) => if c then 2 ^ k else 0
        let flags := bit (s.heritage p) 0 + bit replayed.isSome 1 + bit (s.red.discarded.contains (p, b.step)) 2 + bit b.wideFirst 3 + bit b.voidSent 4 +
          bit b.rise 5 + bit (replayed.isSome && rs != b.step) 6
        let place := s.recordPlace p
        let head := toLE 2 1 ++ toLE 1 p ++ toLE 1 flags ++ toLE 2 job ++ toLE 2 ms.length ++ toLE 8 b.step ++ toLE 8 b.dataPos ++
          toLE 8 (s.seed p) ++ toLE 8 (rs % 2 ^ 48) ++ toLE 8 (s.numpol p) ++ toLE 4 b.log.length ++ toLE 4 b.voids ++ toLE 8 place.2 ++
          padTo 32 (Config.sm3 members) ++ padTo 32 (Config.sm3 ((s.groupsOfPart p).flatMap (fun e => e.2.tab))) ++
          padTo 32 (Config.sm3 b.scales) ++ padTo 32 (Config.sm3 b.rungs) ++ toLE 8 body.length ++ toLE 8 s.now ++ List.replicate 44 0#8
        let t := (t.tableWrite p place.1 (head ++ toLE 4 (crc32c head))).tableWrite p place.2 body
        t.wr (Reg.steprecHead p) ((t.rd (Reg.steprecHead p) + 1) % 2 ^ 32)

/-- Read a step record for replay (R202): its fields, or the result that refuses it. -/
def State.readRecord (s : State) (p a : Nat) (localScope : Bool) : Except Nat Replay :=
  if s.ownsRange p a 256 = false then .error Res.addrForeign
  else if s.poisoned a 256 then .error Res.hwFault
  else
    let r := s.bytes a 256
    let body := fieldLE r 0x38 8
    let len := fieldLE r 0xC0 8
    if stepRecordOk r = false then .error Res.badField
    else if s.ownsRange p body len = false then .error Res.addrForeign
    else if s.poisoned body len then .error Res.hwFault
    else
      let b := s.bytes body len
      let n := fieldLE r 6 2
      let entries := s.f (Fld.ladderCfg_entries p)
      let items := fieldLE r 0x30 4
      let afterMembers := b.drop (4 * n)
      let sec := fun (x : List Byte) => 16 + fieldLE x 8 8
      let t1 := sec afterMembers
      let t2 := t1 + sec (afterMembers.drop t1)
      let t3 := t2 + sec (afterMembers.drop t2)
      let t4 := t3 + sec (afterMembers.drop t3)
      let scaleLen := len - 4 * n - t4 - entries - 16 * items
      let rest := afterMembers.drop (t4 + scaleLen)
      .ok { step := fieldLE r 8 8, rngStep := fieldLE r 0x20 8, seed := fieldLE r 0x18 8, numpol := fieldLE r 0x28 8, localScope := localScope,
            rungs := rest.take entries, log := (List.range items).map (fun i => (rest.drop (entries + 16 * i)).take 16),
            scaleTable := (afterMembers.drop t4).take scaleLen, members := (List.range n).map (fun i => fieldLE b (4 * i) 4),
            ringTables := afterMembers.take t4 }

/-- Forget what an earlier run of a step left, before it is run again. -/
def State.freshStep (s : State) (p step : Nat) : State :=
  let h : Health := { s.health with
    awl := s.health.awl.filter (fun a => !(a.part == p && a.stamp == step))
    books := s.health.books.filter (fun b => !(b.part == p && b.step == step)) }
  let r : Red := { s.red with
    taints := s.red.taints.filter (fun t => !(t.part == p && t.step == step))
    taintFull := s.red.taintFull.filter (fun e => e != (p, step)) }
  { s with
    health := h
    red := r
    strm := { s.strm with ctxs := s.strm.ctxs.map (fun e => if e.2.partition = p then (e.1, { e.2 with rngStep := none }) else e) } }

/-- REPLAY_ENABLE (R202): a write of CTL_REPLAY_n. -/
def replayEnable (w : Writer) (n v : Nat) (s : State) : State :=
  s.regWrite w (Reg.replay n) v (fun s =>
    if s.inFlight.any (fun e => s.opPart e.2 == n) then s.badWrite (Reg.replay n) v
    else if bits v 0 1 = 0 then ((s.setPart n { s.part n with replay := none }).ringReplay n none).writeFields (Reg.replay n) v
    else
      match s.readRecord n (v / 256 * 256) (bits v 1 1 == 1) with
      | .error c => s.generic Blk.num (some n) (Reg.replay n) v c
      | .ok r => (((s.freshStep n r.step).setPart n { s.part n with replay := some r }).ringReplay n (some r)).writeFields (Reg.replay n) v)

/-- RNG_SEED_WRITE (R205). -/
def rngSeedWrite (w : Writer) (n v : Nat) (s : State) : State :=
  s.regWrite w (Reg.rngSeed n) v (fun s =>
    if s.inFlight.any (fun e => s.opPart e.2 == n) then s.badWrite (Reg.rngSeed n) v else s.wr (Reg.rngSeed n) v)

end Sys2Proof.Machine
end

