-- ==== Sys2Proof/Machine/Power.lean ====
section
/-!
DEFINITION. Power, droop, heat and supply loss (chapter 13): the rein, its telemetry and frequency steps, the cinch, margin
trim, heat, and the hold-up save with its ledger and save areas.
-/
namespace Sys2Proof.Machine

def State.setPower (s : State) (p : Power) : State := { s with power := p }

def State.setKeep (s : State) (k : Keep) : State := { s with keep := k }

/-- State of the save sequencer (R347): 0 RUN, 1 SAVING, 2 SAVED, 3 RESUMING, 4 LOST, 5 BOOT. -/
def State.saveState (s : State) : Nat := s.f Fld.thmSaveStatus_state

/-! ### The rein (R326 to R331, R340) -/

/-- An estimate of the present tick, in mW (R327): free, since the estimator's coefficients and counters are private; the
bounds of R328 hold for link demand (class 0) and static power (class 2). -/
def State.estimate (s : State) (cls : Nat) : Nat :=
  let e := Config.reinEstimate cls s.power.ticks
  if cls = 0 then min e 140000 else if cls = 2 then min e 210000 else e

/-- REIN_CAP in watts. -/
def State.capW (s : State) : Nat := 700 + 5 * s.f Fld.reinCap_cap_step

/-- The effective cap: the lesser of REIN_CAP and the thermal cap. -/
def State.effCapW (s : State) : Nat :=
  if s.flag Fld.thmStatus_throttling then min s.capW (s.f Fld.thmStatus_thermal_cap) else s.capW

/-- Compute demand of an array at full duty. -/
def State.arrayDemand (s : State) (a : Nat) : Nat := if s.arrayInService a then s.estimate (8 + a) else 0

/-- Divide an allowance among partitions in proportion to their weights, unused shares passing to the others (R329); fuel is
the number of rounds. -/
def shareOut : Nat → Rat → List (Nat × Nat × Nat) → List (Nat × Rat)
  | 0, _, _ => []
  | k + 1, avail, ps =>
    let w : Nat := (ps.map (fun e => e.2.1)).foldl (· + ·) 0
    let share := fun (e : Nat × Nat × Nat) => avail * (e.2.1 : Rat) / (w : Rat)
    let full := ps.filter (fun e => decide ((e.2.2 : Rat) ≤ share e))
    if full.isEmpty then ps.map (fun e => (e.1, share e))
    else
      full.map (fun e => (e.1, (e.2.2 : Rat))) ++
      shareOut k (avail - (((full.map (fun e => e.2.2)).foldl (· + ·) 0 : Nat) : Rat)) (ps.filter (fun e => !decide ((e.2.2 : Rat) ≤ share e)))

/-- The allocation of one tick, in mW: links, memory, compute, and g per array (R328, R329). -/
structure Alloc where
  links : Nat
  mem : Nat
  comp : Nat
  g : List Nat
  roomy : Bool

def State.allocate (s : State) : Alloc :=
  let cap : Int := 1000 * s.effCapW
  let cstatic : Int := s.estimate 2
  let dLinks : Int := s.estimate 0
  let dMem : Int := s.estimate 1
  let dynA := (List.range 4).map s.arrayDemand
  let dyn : Int := (dynA.foldl (· + ·) 0 : Nat)
  let avail := cap - cstatic
  let links := min dLinks (max 120000 (avail - 350000))
  let mem := min dMem (max 350000 (avail - links))
  let comp := cap - links - mem - s.power.excess
  let short := max 0 (cstatic - comp)
  let mem := max 350000 (mem - short)
  let allow : Rat := (max 0 (comp - cstatic) : Int)
  let parts := (List.range s.boot.partitions).map (fun p =>
    (p, max 1 (bits (s.f Fld.reinCfg_part_weight) (4 * p) 4), ((s.csOf p).map s.arrayDemand).foldl (· + ·) 0))
  let shares := shareOut 5 allow parts
  let duty := fun a =>
    let p := s.partOfCs a
    let n := ((s.csOf p).filter s.arrayInService).length
    let share := match shares.find? (fun e => e.1 == p) with | some e => e.2 | none => allow
    let d := dynA.getD a 0
    if d = 0 ∨ n = 0 then 64 else min 64 (64 * (share / (n : Rat)) / (d : Rat)).floor.toNat
  ⟨links.toNat, mem.toNat, comp.toNat, (List.range 4).map duty, decide (20 * (comp - cstatic) ≥ 21 * dyn)⟩

/-- Energy of a tick per counter, nJ (R340): compute to the queue of the item on the unit, streams to their queue, links to
the port's partition, shared units to the partitions by their compute stacks.  Keys 64 + n: partition n, no queue. -/
def State.tickEnergy (s : State) : List (Nat × Nat) :=
  let queueOf := fun (slot : Nat) => (s.op slot).map (fun o => o.wq)
  let unit := fun (cs cls : Nat) (slot : Option Nat) =>
    (match slot.bind queueOf with | some q => q | none => 64 + s.partOfCs cs, s.estimate cls)
  let arrays := (List.range 4).map (fun a => unit a (16 + a) (((s.arr a).flight.head?).map (fun f => f.id.slot)))
  let engines := (List.range 64).map (fun e => unit (e / 16) (32 + e) (((s.eng e).tasks.head?).map (fun t => t.slot)))
  let streams := (s.inFlight.filter (fun e => s.opState e.1 == 3 && (e.2.opcode == 3 || e.2.opcode == 4))).map (fun e => (e.2.wq, s.estimate (192 + e.2.wq)))
  let ports := (List.range 12).filterMap (fun n => (s.portOwner n).map (fun p => (64 + p, s.estimate (128 + n))))
  let shared := s.estimate 3 + (((List.range 12).filter (fun n => (s.portOwner n).isNone)).map (fun n => s.estimate (128 + n))).foldl (· + ·) 0
  let n := max 1 s.boot.partitions
  arrays ++ engines ++ streams ++ ports ++ (List.range n).map (fun p => (64 + p, shared / n + (if p = 0 then shared % n else 0)))

def addEnergy (m es : List (Nat × Nat)) : List (Nat × Nat) := es.foldl (fun m e => Sparse.put zeroD m e.1 (Sparse.get zeroD m e.1 + e.2)) m

/-- Show g on every array, and which partitions are reined (R331). -/
def State.showDuty (s : State) (g : List Nat) : State :=
  let t := (List.range 4).foldl (fun t a => t.put (Fld.reinArray_duty a) (g.getD a 0)) s
  let f := s.f Fld.reinStatus_fstep
  let bitsOf := ((List.range s.boot.partitions).map (fun p =>
    if f ≠ 0 ∨ (s.csOf p).any (fun a => decide (g.getD a 0 < 64)) then 2 ^ p else 0)).foldl (· + ·) 0
  t.put Fld.reinStatus_reined bitsOf

/-- Gated cycles of a tick: (64 − g) of every 64 of the 1,900 × 64 / (64 + f) ARRCLK cycles of 1 µs; where the last frame ends
within the tick is free (R98, R329, R330). -/
def State.countGated (s : State) (g : List Nat) : State :=
  let d := 64 + s.f Fld.reinStatus_fstep
  ((List.range 4).foldl (fun t a =>
    let c := 1900 * (64 - g.getD a 0)
    if t.arrayInService a then t.bump (Fld.aryGated_gated a) (c / d + (if c % d != 0 && Config.freeBit (s.fresh + a) then 1 else 0)) else t) s).useFresh 4

/-- REIN_TICK (R327 to R331, R340): every 1 µs the estimates, the allocation and g; during a save or after a trip g is 0. -/
def reinTick (s : State) : State :=
  let w := s.power
  let s1 := s.setPower { w with ticks := w.ticks + 1 }
  if s.pins.inReset then s
  else if s.saveState = 1 ∨ s.saveState = 2 ∨ s.saveState = 4 ∨ w.tripWire then
    ((s1.setPower { s1.power with winSave := true }).showDuty [0, 0, 0, 0]).countGated [0, 0, 0, 0]
  else
    let a := s.allocate
    let en := s.tickEnergy
    let p := (en.map Prod.snd).foldl (· + ·) 0
    let g := match w.ramp with | some r => a.g.map (min r) | none => a.g
    let ms := a.g.length
    let t := s1.setPower { s1.power with
      winSum := w.winSum + p, winTicks := w.winTicks + 1, raw := addEnergy w.raw en,
      msTicks := w.msTicks + 1,
      msDuty := w.msDuty + (((List.range ms).filter s.arrayInService).map (fun i => g.getD i 0)).foldl (· + ·) 0,
      msArrays := w.msArrays + ((List.range ms).filter s.arrayInService).length,
      msFull := w.msFull && g.all (· == 64), roomy := a.roomy,
      ramp := match w.ramp with | some r => if 64 ≤ r then none else some (r + 1) | none => none }
    let t := (((t.put Fld.reinStatus_p_act ((p + w.excess) / 1000)).put Fld.reinStatus_links (a.links / 1000)).put
      Fld.reinStatus_mem (a.mem / 1000)).put Fld.reinStatus_comp (a.comp / 1000)
    let t := (t.put Fld.reinPower_p_est (p / 1000)).putB Fld.reinStatus_thermal (decide (s.effCapW < s.capW))
    (t.showDuty g).countGated g

/-- REIN_CAP_WRITE (R326): a cap_step outside the image's limits is a reserved encoding; else it is the cap from the next
tick. -/
def reinCapWrite (w : Writer) (v : Nat) (s : State) : State :=
  s.regWrite w Reg.reinCap v (fun t =>
    let x := bits v 0 9
    if x < t.f Fld.reinCap_img_min ∨ t.f Fld.reinCap_img_max < x then t.badWrite Reg.reinCap v else t.put Fld.reinCap_cap_step x)

/-! ### Telemetry (R323, R325, R327, R332) -/

/-- Commit a window's energy, scaled by P_meas over the mean estimate when the window is valid (R340). -/
def State.commitEnergy (s : State) (num den : Nat) : State :=
  let keys := (s.power.raw.map Prod.fst ++ s.power.carry.map Prod.fst).dedup
  let r := keys.foldl (fun (x : State × List (Nat × Nat)) k =>
    let nj := Sparse.get zeroD s.power.carry k + Sparse.get zeroD s.power.raw k * num / max 1 den
    let mj := nj / 1000000
    let p := if k < 64 then x.1.wqPart k else k - 64
    let t := if k < 64 then x.1.bump (Fld.reinEnergyWq_mj k) mj else x.1.bump (Fld.reinEnergyUnattr_mj (k - 64)) mj
    ((t.bump (Fld.reinEnergyPart_mj p) mj).bump Fld.reinEnergyDev_mj mj, Sparse.put zeroD x.2 k (nj % 1000000))) (s, [])
  r.1.setPower { r.1.power with raw := [], carry := r.2 }

/-- Rails that AVS1 reads for Cantle; AVS0 reads the others for Pommel (R323). -/
def railCantle (r : Nat) : Bool := [2, 3, 5, 9, 10, 11].contains r

/-- TELEMETRY_WINDOW: the readings of rails 0 to 13 (mV, 0.25 A, °C), none where a rail gave no valid reading; the
windows of a half go unread while its firmware restarts (R375). -/
def telemetryWindow (rails : List (Option (Nat × Nat × Nat))) (s : State) : State :=
  let w := s.power
  let fresh := fun (t : State) => t.setPower { t.power with winSum := 0, winTicks := 0, winSave := false }
  if w.winSave then (((s.put Fld.reinPower_gap_run 0).commitEnergy 1 1)) |> fresh
  else
    let read := (List.range 14).map (fun r => if s.halfRestarts (railCantle r) then none else rails.getD r none)
    let t := (List.range 14).foldl (fun t r =>
      match read.getD r none with
      | some x => ((((t.put (Fld.reinRail_mv r) x.1).put (Fld.reinRail_current r) x.2.1).put (Fld.reinRail_temp r) x.2.2).put (Fld.reinRail_valid r) 1)
      | none => ((t.put (Fld.reinRail_valid r) 0).bumpSat Fld.reinTelemErr_failed 1).put Fld.reinTelemErr_last_rail r) s
    let mean := w.winSum / max 1 w.winTicks
    if read.all Option.isSome then
      let pm := (read.map (fun x => match x with | some y => y.1 * y.2.1 | none => 0)).foldl (· + ·) 0 / 4
      let diff := max pm mean - min pm mean
      let wide := decide (15 * pm < 100 * diff)
      let run := if wide then min 32 (s.f Fld.reinPower_gap_run + 1) else 0
      let hit := run == 32 && decide (s.f Fld.reinPower_gap_run < 32)
      let refit := s.flag Fld.reinCfg_retrain
      let t := (t.put Fld.reinPower_p_meas (pm / 1000)).put Fld.reinPower_gap_pct (min 255 (100 * diff / max 1 pm))
      let t := t.put Fld.reinPower_gap_run (if hit && refit then 0 else run)
      let t := if hit then
          (if refit then t.bumpSat Fld.reinPower_refits 1 else t).event 0x0B01 none false 0
            (toLE 2 (pm / 1000) ++ toLE 2 (mean / 1000) ++ toLE 1 (if refit then 1 else 0))
        else t
      let t := if 4 ≤ w.goodRun + 1 then t.put Fld.reinStatus_meas_valid 1 else t
      let t := t.setPower { t.power with excess := pm - mean, badRun := 0, goodRun := w.goodRun + 1 }
      fresh (t.commitEnergy pm mean)
    else
      let last := t.f Fld.reinTelemErr_last_rail
      let t := (t.put Fld.reinPower_gap_run 0).setPower { t.power with badRun := w.badRun + 1, goodRun := 0 }
      let t := if w.badRun + 1 = 4 then
          ((t.put Fld.reinStatus_meas_valid 0).put Fld.reinTelemErr_invalid 1).event 0x0B02 none false 0 (toLE 1 last)
        else t
      let t := if 4 ≤ w.badRun + 1 then t.setPower { t.power with excess := 15 * mean / 100 } else t
      fresh (t.commitEnergy 1 1)

/-! ### VCORE requests and frequency (R330, R335, R336) -/

/-- The VCORE request of a die at a frequency step: table, trim and guard band, in 0.5 mV. -/
def State.vcoreRequest (s : State) (die f : Nat) : Nat :=
  Config.vfTable die f + 5 * s.f (Fld.cinchTrim_steps die) + (if testBit (s.f Fld.cinchStatus_guard) die then 60 else 0)

/-- The lowest step at or above f at which every request fits 0.85 V; 32 when none does. -/
def State.fitStep (s : State) (f : Nat) : Nat :=
  match (List.range 33).find? (fun k => decide (f ≤ k) && (List.range 4).all (fun d => decide (s.vcoreRequest d k ≤ 1700))) with
  | some k => k
  | none => 32

/-- Write the requests of every die for step f: a die whose request changes owes an acknowledgement (R323). -/
def State.requestVcore (s : State) (f : Nat) : State :=
  let changed := (List.range 4).filter (fun d => Sparse.get zeroD s.power.vcore d != s.vcoreRequest d f)
  s.setPower { s.power with
    vcore := changed.foldl (fun m d => Sparse.put zeroD m d (s.vcoreRequest d f)) s.power.vcore,
    acks := (s.power.acks ++ changed).dedup }

/-- What waits for the acknowledgements happens: the frequency changes, or the cinch stops. -/
def State.vcoreSettled (s : State) : State :=
  if s.power.acks.isEmpty then
    let t := match s.power.nextF with | some f => s.put Fld.reinStatus_fstep f | none => s
    let t := if s.power.cinchStop then t.put Fld.cinchStatus_active 0 else t
    t.setPower { t.power with nextF := none, cinchStop := false, cinchOff := t.power.cinchOff || s.power.cinchStop }
  else s

/-- New requests at the present step; a step that no longer fits moves up first, frequency before voltage (R336). -/
def State.reviseVcore (s : State) : State :=
  let f := s.f Fld.reinStatus_fstep
  let k := s.fitStep f
  ((if f < k then s.put Fld.reinStatus_fstep k else s).requestVcore k).vcoreSettled

/-- FREQUENCY_STEP (R330): once per millisecond. -/
def frequencyStep (s : State) : State :=
  let w := s.power
  let f := s.f Fld.reinStatus_fstep
  let done := fun (t : State) => t.setPower { t.power with msTicks := 0, msDuty := 0, msArrays := 0, msFull := true }
  if s.saveState ≠ 0 ∨ w.msTicks = 0 then s
  else if s.flag Fld.reinCfg_freq_steps = false ∨ !w.acks.isEmpty then done s
  else if w.msDuty < 48 * w.msArrays then
    done ((s.put Fld.reinStatus_fstep (min 32 (f + 4))).requestVcore (min 32 (f + 4)))
  else if w.msFull && w.roomy && decide (0 < f) then
    let k := s.fitStep (f - 4)
    if k < f then done (((s.setPower { w with nextF := some k }).requestVcore k).vcoreSettled) else done s
  else done s

/-- TARGET_RAIL_VOLTAGE_ACK: the regulator stage acknowledges a die's write once its output has settled. -/
def targetRailVoltageAck (die : Nat) (s : State) : State :=
  if s.power.acks.contains die then (s.setPower { s.power with acks := s.power.acks.filter (· != die) }).vcoreSettled else s

/-! ### The cinch (R324, R333 to R335) -/

/-- Trip a set of dies. -/
def State.tripDies (s : State) (dies : List Nat) : State :=
  if s.power.cinchOff then s
  else (s.setPower { s.power with tripped := (s.power.tripped ++ dies).dedup }).put Fld.cinchStatus_active 1

/-- CINCH_TRIP: detector det of a die trips. -/
def cinchTrip (die det : Nat) (s : State) : State :=
  if s.power.cinchOff then s
  else ((s.bumpSat (Fld.cinchCount_trips die) 1).put (Fld.cinchCount_last_detector die) det).tripDies [die]

/-- DROOP_N_ASSERT (R324): every die counts a trip; rails: those more than 30 mV below their setpoints.  Disabled, it is only
counted. -/
def droopNAssert (rails : Nat) (s : State) : State :=
  let t := (List.range 4).foldl (fun t d => t.bumpSat (Fld.cinchCount_trips d) 1) s
  if s.power.cinchOff then t
  else
    let t := (t.tripDies [0, 1, 2, 3]).setPower { (t.tripDies [0, 1, 2, 3]).power with droopLow := true }
    match s.power.droopTold with
    | some k => if s.now < 475000 + k then t
      else (t.setPower { t.power with droopTold := some s.now }).event 0x0B0C none false 0 (toLE 1 rails)
    | none => (t.setPower { t.power with droopTold := some s.now }).event 0x0B0C none false 0 (toLE 1 rails)

/-- CINCH_ESCALATE: a trip has persisted for 32 consecutive ARRCLK cycles. -/
def cinchEscalate (s : State) : State :=
  if s.power.tripped.isEmpty then s else s.setPower { s.power with deep := true }

/-- CINCH_CLEAR (R334): all detectors clear after so many stretched cycles; the hold and the two relaxing stages run out. -/
def cinchClear (cycles : Nat) (s : State) : State :=
  if s.power.tripped.isEmpty then s
  else
    let t := s.setPower { s.power with tripped := [], deep := false, droopLow := false }
    (t.bump Fld.cinchStretched_cycles (cycles + 8 * s.f Fld.cinchCtrl_hold_x8 + 16 / 2 + 16 / 4)).put Fld.cinchStatus_active 0

/-- Dies fail the self-test: marked, guarded, their requests raised, EV-0x0B03 (R335). -/
def State.selfTestFail (s : State) (mask : Nat) : State :=
  if mask = 0 then s
  else
    let or2 := fun (a : Nat) => (List.range 4).foldl (fun acc d => if testBit a d || testBit mask d then acc + 2 ^ d else acc) 0
    let t := (s.put Fld.cinchStatus_selftest_fail (or2 (s.f Fld.cinchStatus_selftest_fail))).put Fld.cinchStatus_guard (or2 (s.f Fld.cinchStatus_guard))
    (t.event 0x0B03 none false 0 (toLE 1 mask)).reviseVcore

/-- CINCH_TEST (R335): fails is the mask of dies whose detectors or path failed. -/
def cinchTest (w : Writer) (go : Bool) (fails : Nat) (s : State) : State :=
  s.regWrite w Reg.cinchTest (if go then 2 ^ 31 else 0) (fun t => if go then t.selfTestFail fails else t)

/-- CINCH_DISABLE (R335): guard band on all four dies; the cinch stops once the new setpoints are acknowledged. -/
def cinchDisable (w : Writer) (v : Nat) (s : State) : State :=
  s.regWrite w Reg.cinchCtrl (v / 2 * 2) (fun t =>
    let t := (t.put Fld.cinchCtrl_enable 0).put Fld.cinchCtrl_hold_x8 (bits v 8 8)
    ((t.put Fld.cinchStatus_guard 15).setPower { t.power with cinchStop := !t.power.cinchOff }).reviseVcore)

/-- CINCH_ENABLE (R335): the cinch resumes, then the guard band goes, but for dies that failed self-test. -/
def cinchEnable (w : Writer) (v : Nat) (s : State) : State :=
  s.regWrite w Reg.cinchCtrl (v / 2 * 2 + 1) (fun t =>
    let t := (t.put Fld.cinchCtrl_enable 1).put Fld.cinchCtrl_hold_x8 (bits v 8 8)
    let t := t.setPower { t.power with cinchStop := false, cinchOff := false }
    (t.put Fld.cinchStatus_guard (t.f Fld.cinchStatus_selftest_fail)).reviseVcore)

/-! ### Margin trim (R336) -/

/-- CTLCLK cycles in a day. -/
def dayCycles : Nat := 475000000 * 86400

def noneD : Nat → Option Nat := fun _ => none

/-- A moment recorded is at least a day past, or there is none. -/
def State.dayPast (s : State) (x : Option Nat) : Bool := match x with | some t => decide (dayCycles + t ≤ s.now) | none => true

/-- MARGIN_CHECK: each die's least margin in ps, and whether it is short of its fused threshold. -/
def marginCheck (dies : List (Nat × Bool)) (s : State) : State :=
  ((dies.take 4).zipIdx).foldl (fun t e =>
    let d := e.2
    let t := t.put (Fld.cinchTrim_margin_ps d) e.1.1
    let n := t.f (Fld.cinchTrim_steps d)
    if !e.1.2 then t
    else if n < 20 then
      if t.dayPast (Sparse.get noneD t.power.trimAt d) then
        let t := (t.put (Fld.cinchTrim_steps d) (n + 1)).putB (Fld.cinchTrim_at_limit d) (n + 1 == 20)
        let t := t.setPower { t.power with trimAt := Sparse.put noneD t.power.trimAt d (some t.now) }
        let t := t.setKeep { t.keep with owed := t.keep.owed ++ [⟨4, d, n + 1, t.keep.seq, t.now⟩] }
        (t.event 0x0B04 none (csCantle d) 0 (toLE 1 d ++ toLE 1 (n + 1) ++ toLE 1 0)).reviseVcore
      else t
    else if t.dayPast (Sparse.get noneD t.power.limitAt d) then
      (t.setPower { t.power with limitAt := Sparse.put noneD t.power.limitAt d (some t.now) }).event 0x0B04 none (csCantle d) 0
        (toLE 1 d ++ toLE 1 n ++ toLE 1 1)
    else t) s

/-! ### Heat (R337, R338) -/

/-- TEMPERATURE_READ: per compute stack the hottest compute-die reading, its sensor and the hottest base-die reading; and the
temperature of each HBM stack. -/
def temperatureRead (dies : List (Nat × Nat × Nat)) (stackTemps : List Nat) (s : State) : State :=
  let t := ((dies.take 4).zipIdx).foldl (fun t e =>
    ((t.put (Fld.thmTemp_die e.2) e.1.1).put (Fld.thmTemp_sensor e.2) e.1.2.1).put (Fld.thmTemp_base e.2) e.1.2.2) s
  let lim := t.f Fld.thmCfg_hbm_limit_c
  let t := ((stackTemps.take 16).zipIdx).foldl (fun t e =>
    let t := t.put (Fld.hsmStackStatus_temp e.2) e.1
    if t.power.halved.contains e.2 then
      (if e.1 + 3 < lim then t.setPower { t.power with halved := t.power.halved.filter (· != e.2) } else t)
    else if lim ≤ e.1 then
      (t.setPower { t.power with halved := t.power.halved ++ [e.2] }).event 0x0B0E none (csCantle (e.2 / 4)) e.2 (toLE 1 e.2 ++ toLE 1 e.1)
    else t) t
  t.putB Fld.thmStatus_hbm_throttle (!t.power.halved.isEmpty)

/-- THERMAL_CAP_UPDATE (R337): once per millisecond. -/
def thermalCapUpdate (s : State) : State :=
  let hot := (List.range 4).foldl (fun b d => if s.f (Fld.thmTemp_die b) < s.f (Fld.thmTemp_die d) then d else b) 0
  let temp := s.f (Fld.thmTemp_die hot)
  let cool := (List.range 4).all (fun d => decide (s.f (Fld.thmTemp_die d) < s.f Fld.thmCfg_release_c) && decide (s.f (Fld.thmTemp_base d) < s.f Fld.thmCfg_release_c))
  let on := s.flag Fld.thmStatus_throttling
  let cap := s.f Fld.thmStatus_thermal_cap
  let t := if on then (s.bumpSat Fld.thmThrottleCnt_ms 1).setPower { s.power with throttleMs := s.power.throttleMs + 1 } else s
  if s.f Fld.thmCfg_throttle_c ≤ temp then
    if on then t.put Fld.thmStatus_thermal_cap (max 700 (cap - 10))
    else
      let start := s.f Fld.reinStatus_p_act / 5 * 5
      let t := ((t.put Fld.thmStatus_throttling 1).put Fld.thmStatus_thermal_cap (max 700 (start - 10))).bumpSat Fld.thmThrottleCnt_episodes 1
      (t.setPower { t.power with throttleMs := 0 }).event 0x0B05 none (csCantle hot) 0 (toLE 1 hot ++ toLE 1 (s.f (Fld.thmTemp_sensor hot)) ++ toLE 1 temp)
  else if on && cool then
    if s.capW ≤ cap + 10 then
      ((t.put Fld.thmStatus_throttling 0).put Fld.thmStatus_thermal_cap 0).event 0x0B06 none false 0 (toLE 4 t.power.throttleMs)
    else t.put Fld.thmStatus_thermal_cap (cap + 10)
  else t

/-! ### The hold-up save (R341 to R347) -/

/-- Channels enter self-refresh: those of the keep paths, or the others; a retraining under way is abandoned and runs again
after resume (R226, R231). -/
def State.selfRefresh (s : State) (keepPaths : Bool) : State :=
  (List.range 512).foldl (fun t n =>
    if testBit (t.f (Fld.hsmKeepMask_keep (n / 32))) (n % 32) == keepPaths then
      (if t.chServes n then t.put (Fld.hsmChStatus_state n) 3
       else if t.f (Fld.hsmChStatus_state n) = 2 then (t.put (Fld.hsmChStatus_state n) 3).wantRetrain n true else t)
    else t) s

/-- An array with its unretired passes and its tile load abandoned: they come first after the save, in order, and the first starts
one cycle after its tile load begins (R99). -/
def ArrState.abandoned (x : ArrState) : ArrState :=
  match x.flight, x.loading with
  | [], none => x
  | [], some l => { x with loading := none, nextLoad := max l.2 x.busyEnd }
  | f :: _, _ => { x with redo := x.flight.map Flight.id ++ x.redo, flight := [], loading := none,
                          nextLoad := max f.start x.busyEnd, nextStart := max f.start x.busyEnd + 1 }

/-- Every array stops, and those in service show STOPPED (R99, R342). -/
def State.abandonPasses (s : State) : State :=
  (List.range 4).foldl (fun t a =>
    let u := (t.setArr a (t.arr a).abandoned).arrUpdate a
    if u.arrayInService a then u.put (Fld.aryStatus_state a) 5 else u) s

/-- Arrays that a save stopped run again (R99). -/
def State.unstopArrays (s : State) : State :=
  (List.range 4).foldl (fun t a => if t.f (Fld.aryStatus_state a) = 5 then (t.put (Fld.aryStatus_state a) 0).arrUpdate a else t) s

/-- A stop that a save meets ends: its slot is INVALID and the SNAPSHOT will run again from quiesce (R304). -/
def State.breakStops (s : State) : State :=
  (List.range 4).foldl (fun t p => match t.stopOf p with
    | some r => (t.put (slotStateF (4 * p + r.k)) 3).setStop p (some { r with captured := false })
    | none => t) s

/-- The first erased save area. -/
def Keep.erased (k : Keep) : Option Nat := (List.range 3).find? (fun a => (Sparse.get (fun _ => none) k.areas a : Option SaveRec).isNone)

/-- A save is numbered, its cause and moment kept, and the sequencer is SAVING (R342). -/
def State.saveNumber (s : State) (cause : Nat) : State :=
  let t := s.setKeep { s.keep with seq := s.keep.seq + 1, cause := cause, tAssert := s.now }
  ((t.put Fld.thmSaveStatus_state 1).put Fld.thmSaveStatus_loss_seen 0).clocks

/-- g is 0 on every array, and the telemetry window knows of the save. -/
def State.still (s : State) : State := (s.setPower { s.power with winSave := true, ramp := none }).showDuty [0, 0, 0, 0]

/-- What the units do when a save starts: passes end, stops break, the channels whose traffic has drained enter self-refresh,
and g is 0. -/
def State.saveQuiet (s : State) : State :=
  (((s.abandonPasses.breakStops).selfRefresh false).still).put Fld.reinPower_gap_run 0

/-- The P0 save starts (R342): cause 0 HOLD_WARN_N, 1 thermal trip, 2 test. -/
def State.saveStart (s : State) (cause : Nat) : State :=
  ((s.saveNumber cause).saveQuiet).event 0x0B08 none false 0 (toLE 1 cause ++ toLE 7 0 ++ toLE 8 (s.keep.seq + 1))

/-- The device can no longer be held: LOST, left only by reset. -/
def State.goLost (s : State) : State := ((s.selfRefresh false).selfRefresh true).put Fld.thmSaveStatus_state 4

/-- What a trigger does outside and inside RUN (table Save outside RUN). -/
def State.saveTrigger (s : State) (cause : Nat) : State :=
  let st := s.saveState
  if s.pins.inReset ∨ st = 4 then s
  else if s.isHeld ∨ st = 5 then s.abandonPasses.goLost
  else if st = 0 ∨ st = 3 then s.saveStart cause
  else s

/-- HOLD_WARN_ASSERT (R341, R342). -/
def holdWarnAssert (s : State) : State := (s.put Fld.thmSaveStatus_warn 1).saveTrigger 0

/-- HOLD_WARN_GLITCH (R341). -/
def holdWarnGlitch (s : State) : State := s.put Fld.thmSaveStatus_glitch 1

/-- THM_SAVE_TEST (R347): a save with cause 2. -/
def thmSaveTest (w : Writer) (go : Bool) (s : State) : State :=
  s.regWrite w Reg.thmSaveTest (if go then 2 ^ 31 else 0) (fun t => if go then t.saveTrigger 2 else t)

/-- THERMAL_TRIP (R339): monitor and die (0 to 3 compute dies, 4 to 7 base dies). -/
def thermalTrip (monitor die : Nat) (s : State) : State :=
  let t := (s.setPower { s.power with tripWire := true }).put Fld.thmStatus_trip 1
  if s.pins.inReset then t
  else
    let t := t.showDuty [0, 0, 0, 0]
    let t := if t.isHeld ∨ t.f Fld.bootStatus_stage ≠ 6 then t
      else (t.event 0x0B07 none (decide (2 ≤ die % 4)) 0 (toLE 1 monitor ++ toLE 1 die)).sendTwinFailed 1
    let t := t.setKeep { t.keep with noResume := true }
    if t.saveState = 2 then t.put Fld.thmSaveStatus_state 4 else t.saveTrigger 1

/-- Per-partition section 1: 128 bytes at most, 8 per value (R343). -/
def State.saveSection1 (s : State) : List Byte :=
  (List.range s.boot.partitions).flatMap (fun p =>
    s.scalars p ++ toLE 8 (s.rd (Reg.snapMode p)) ++ toLE 8 (s.rd (Reg.snapOutStep p)) ++ toLE 8 (s.rd (Reg.snapMirrorStep0 p)) ++
    toLE 8 (s.rd (Reg.snapMirrorStep1 p)) ++ (List.range (s.f (Fld.snapCfg_slots p))).flatMap (fun k =>
      toLE 8 (s.rd (Reg.snapSlotState (4 * p + k))) ++ toLE 8 (s.rd (Reg.snapSlotId (4 * p + k)))))

/-- Sections of a save record.  Sections 3 and 7, whose layout the spec leaves to the firmware, are free bytes (assumption 5). -/
def State.saveSections (s : State) : List (Nat × List Byte) :=
  [(1, s.saveSection1),
   (2, (List.range s.boot.partitions).flatMap (fun p => match s.lastStepRecord p with | some r => r.take 256 | none => [])),
   (3, freeBytes s 64),
   (4, ((List.range 16).filter (fun h => s.f (Fld.hsmStackStatus_mapout_phase h) == 2)).flatMap (fun h =>
      toLE 1 h ++ toLE 1 (s.f (Fld.hsmStackStatus_mapped_ch h)) ++ toLE 62 0)),
   (5, ((s.held.map Prod.snd).mergeSort (fun a b => decide (a.seq ≤ b.seq))).flatMap EvRec.toBytes),
   (6, toLE 8 (s.rd Reg.reinCap) ++ (List.range 14).flatMap (fun r => toLE 8 (s.rd (Reg.reinRail r))) ++
      (List.range 4).flatMap (fun d => toLE 8 (s.rd (Reg.thmTemp d))) ++ (List.range 4).flatMap (fun d => toLE 8 (s.rd (Reg.cinchTrim d)))),
   (7, freeBytes (s.useFresh 64) 64)]

/-- The save record header. -/
def State.saveHeader (s : State) (secs : List (Nat × List Byte)) : List Byte :=
  let b := toLE 4 0x4B454550 ++ toLE 2 1 ++ toLE 1 s.keep.cause ++ toLE 1 0 ++ toLE 8 s.keep.seq ++ toLE 8 s.keep.tAssert ++ toLE 4 s.node ++
    toLE 4 ((secs.map (fun e => 16 + e.2.length)).foldl (· + ·) 0) ++ toLE 2 secs.length ++ toLE 1 s.boot.partitions ++ toLE 5 0 ++
    padTo 32 (match Dir.find s.boot.runDir 1 with | some e => entDigest e | none => []) ++ toLE 52 0
  b ++ toLE 4 (crc32c b)

/-- SAVE_COMMIT (R342, R343): the record is assembled and programmed and its commit page written. -/
def saveCommit (s : State) : State :=
  if s.saveState ≠ 1 then s
  else
    match s.keep.erased with
    | none => s
    | some a =>
      let secs := s.saveSections
      let r : SaveRec := ⟨s.keep.seq, s.keep.cause, s.saveHeader secs, secs, true, none⟩
      let us := (s.now - s.keep.tAssert) / 475
      let t := ((s.useFresh 128).setKeep { s.keep with areas := Sparse.put (fun _ => none) s.keep.areas a (some r) }).selfRefresh true
      let t := (List.range 16).foldl (fun t h => if t.f (Fld.hsmStackStatus_state h) = 1 then t.put (Fld.hsmStackStatus_state h) 2 else t) t
      let t := (t.wr Reg.thmSaveLast 0).put Fld.thmSaveLast_save_us us
      let t := (t.put Fld.thmSaveLast_cause s.keep.cause).bumpSat Fld.thmSaveCount_saves 1
      let t := t.event 0x0B09 none false 0 (toLE 8 s.keep.seq ++ toLE 4 us)
      t.put Fld.thmSaveStatus_state (if s.keep.noResume ∧ s.keep.cause ≠ 1 then 4 else 2)

/-- HOLD_LOSS_ASSERT (R345): no further page program starts; the device is LOST. -/
def holdLossAssert (s : State) : State :=
  if s.pins.inReset ∨ s.saveState = 4 then s
  else
    let t := if s.saveState = 1 then s.event 0x0B0B none false 0 (toLE 8 s.keep.seq) else s
    let t := if s.saveState = 1 ∨ s.saveState = 2 ∨ s.saveState = 3 then t.put Fld.thmSaveStatus_loss_seen 1 else t
    t.abandonPasses.goLost

/-- Channels leave self-refresh; those of stacks whose temperature moved stay, to be retrained first (R231). -/
def State.leaveRefresh (s : State) (moved : List Nat) : State :=
  (List.range 512).foldl (fun t n =>
    if t.f (Fld.hsmChStatus_state n) = 3 then
      (if moved.contains (n / 32) then t.wantRetrain n true else t.put (Fld.hsmChStatus_state n) (t.servingCode n))
    else t) s

/-- RUN again (R344): stops that the save broke start over, arrays run, held reports and credits go, and g ramps from 0. -/
def State.backToRun (s : State) : State :=
  let t := (List.range 4).foldl (fun t p => match t.stopOf p with
    | some r => (t.put (slotStateF (4 * p + r.k)) 1).setStop p (some { r with since := t.now })
    | none => t) s
  let t := (t.put Fld.thmSaveLast_pause_us ((s.now - s.keep.tAssert) / 475)).put Fld.thmSaveStatus_state 0
  (t.setPower { t.power with ramp := some 0 }).unstopArrays.clocks.ringResume

/-- RESUME (R344, R231, R304): HOLD_WARN_N has been high for 1 ms; moved: stacks whose temperature moved by retrain_delta
during the pause.  From SAVED the device is RESUMING, with channels out of self-refresh, the marker page programmed and
EV-0x0B0A recorded; from RESUMING, with every retraining over, it is in RUN. -/
def resume (moved : List Nat) (s : State) : State :=
  if s.keep.noResume ∨ s.flag Fld.thmSaveStatus_loss_seen then s
  else if s.saveState = 2 then
    let us := (s.now - s.keep.tAssert) / 475
    let t := s.leaveRefresh moved
    let t := (List.range 16).foldl (fun t h => if t.f (Fld.hsmStackStatus_state h) = 2 then t.put (Fld.hsmStackStatus_state h) 1 else t) t
    let t := t.setKeep { t.keep with areas := t.keep.areas.map (fun e => match e.2 with
      | some r => if r.keepSeq = t.keep.seq then (e.1, some { r with marker := some (t.now, us) }) else e
      | none => e) }
    let t := (t.put Fld.thmSaveLast_precautionary 1).bumpSat Fld.thmSaveCount_resumes 1
    let t := t.event 0x0B0A none false 0 (toLE 8 t.keep.seq ++ toLE 4 us)
    (t.put Fld.thmSaveStatus_state 3).put Fld.thmSaveStatus_warn 0
  else if s.saveState = 3 ∧ s.keep.erased.isSome ∧
      (List.range 512).all (fun n => s.f (Fld.hsmChStatus_state n) != 3 && s.f (Fld.hsmChStatus_state n) != 2) then s.backToRun
  else s

/-! ### Ledger and save areas (R343, R347) -/

/-- Entries that fit one half of the ledger. -/
def ledgerHalf : Nat := 255 * 64

/-- Entries no later clear entry cancels. -/
def liveLedger (l : List LedgerEntry) : List LedgerEntry :=
  l.foldl (fun acc e => if e.kind = 5 then [] else acc ++ [e]) []

/-- Write an entry; a full half is compacted first. -/
def Keep.write (k : Keep) (e : LedgerEntry) : Keep :=
  { k with ledger := (if ledgerHalf ≤ k.ledger.length then liveLedger k.ledger else k.ledger) ++ [e] }

/-- LEDGER_WRITE: the next entry the lead owes: a repair, a spare switch, then map-outs and trims in order. -/
def ledgerWrite (s : State) : State :=
  if s.saveState = 1 ∨ s.saveState = 2 ∨ s.saveState = 4 ∨ s.isHeld then s
  else
    match s.comp.keepRepairs, s.comp.keepSwitches, s.keep.owed with
    | (a, b, row) :: rest, _, _ =>
      (s.setComp { s.comp with keepRepairs := rest }).setKeep (s.keep.write ⟨1, a, b + 256 * row, s.keep.seq, s.now⟩)
    | [], (cs, e) :: rest, _ =>
      (s.setComp { s.comp with keepSwitches := rest }).setKeep (s.keep.write ⟨2, cs, e, s.keep.seq, s.now⟩)
    | [], [], e :: rest => s.setKeep { (s.keep.write e) with owed := rest }
    | [], [], [] => s

/-- The newest complete record. -/
def Keep.newest (k : Keep) : Option (Nat × SaveRec) :=
  (k.areas.filterMap (fun e => match e.2 with | some r => if r.committed then some (e.1, r) else none | none => none)).foldl
    (fun best e => match best with
      | some b => if b.2.keepSeq < e.2.keepSeq then some e else some b
      | none => some e) none

/-- Erase every area but the newest record's. -/
def Keep.eraseOld (k : Keep) : Keep :=
  match k.newest with
  | some (a, _) => { k with areas := k.areas.filter (fun e => e.1 == a) }
  | none => { k with areas := [] }

/-- The device enters RUN once the keep-area restore has ended and an erased area exists (R347). -/
def State.enterRun (s : State) : State :=
  if s.saveState = 5 ∧ s.f Fld.bootStatus_stage = 5 ∧ s.flag Fld.snapFlashCfg_keep_ok ∧ s.keep.erased.isSome then s.put Fld.thmSaveStatus_state 0 else s

/-- SAVE_AREA_ERASE (R343). -/
def saveAreaErase (s : State) : State :=
  if s.saveState = 1 ∨ s.saveState = 4 then s else (s.setKeep s.keep.eraseOld).enterRun

/-- VAUX_LOSS (R339): THERMTRIP_N is released; a save under way is cut off. -/
def vauxLoss (s : State) : State :=
  let t := (s.setPower { s.power with tripWire := false }).put Fld.thmStatus_trip 0
  if t.saveState = 1 then t.put Fld.thmSaveStatus_state 4 else t

end Sys2Proof.Machine
end

