-- ==== Sys2Proof/Machine/Host.lean ====
section
/-!
DEFINITION. The host port (R350 to R357): frames it answers, queue pairs, acknowledgement and retransmission, congestion
control and memory entries.  Accesses through memory keys stand in HostAccess.lean.
-/
namespace Sys2Proof.Machine

/-- HP takes frames: it is UP. -/
def State.hpUp (s : State) : Bool := s.hp.up

/-! ### Frames that are not RoCEv2 (R351, R377) -/

/-- NON_ROCE_FRAME. -/
def nonRoceFrame (s : State) : State := if s.hpUp then s.bumpSat Fld.hostErr_non_roce 1 else s

/-- ARP_REQUEST: answered for the configured IPv4 address. -/
def arpRequest (fromMac fromIp target : Nat) (s : State) : State :=
  if s.hpUp = false then s
  else if s.f Fld.hostCfg_ipv6 = 0 ∧ target = s.f Fld.hostCfg_ipv4 ∧ s.f Fld.bootStatus_stage ≠ 7 then s.emit (.arpReply fromMac fromIp)
  else s.bumpSat Fld.hostErr_non_roce 1

/-- The EUI-64 of a MAC address: its universal bit inverted and FF FE put in the middle. -/
def eui64 (mac : Nat) : List Byte :=
  let b := fun (i : Nat) => BitVec.ofNat 8 (mac / 2 ^ (8 * (5 - i)))
  [b 0 ^^^ 2#8, b 1, b 2, 0xFF#8, 0xFE#8, b 3, b 4, b 5]

/-- HP's IPv6 address: the local GID, or in recovery the link-local address of the fused MAC (R377). -/
def State.localGid (s : State) : List Byte :=
  if s.f Fld.bootStatus_stage = 7 then [0xFE#8, 0x80#8] ++ List.replicate 6 0#8 ++ eui64 s.fuses.mac
  else toLE 8 (s.rd (Reg.hostLocalGid 0)) ++ toLE 8 (s.rd (Reg.hostLocalGid 1))

/-- NEIGHBOUR_SOLICITATION: answered for the configured IPv6 address. -/
def neighbourSolicitation (fromMac : Nat) (fromIp target : List Byte) (s : State) : State :=
  if s.hpUp = false then s
  else if (s.f Fld.hostCfg_ipv6 = 1 ∨ s.f Fld.bootStatus_stage = 7) ∧ target = s.localGid then s.emit (.neighbourAdvert fromMac fromIp)
  else s.bumpSat Fld.hostErr_non_roce 1

/-! ### Requests on the way -/

/-- A READ the S1 has asked for. -/
def HpReq.isRead (r : HpReq) : Bool := match r.msg with | .readReq _ _ _ _ => true | _ => false

/-- A completion or notice record on its way. -/
def HpReq.isRecord (r : HpReq) : Bool := r.dest != 0 && (match r.msg with | .write _ _ _ _ _ => true | _ => false)

/-! ### Incoming packets of a queue pair (R352 to R354) -/

/-- How an incoming request stands: dropped, a repeat, ahead of its turn, or next. -/
inductive Turn where
  | dropped | again | ahead | next
deriving DecidableEq, Repr

/-- PSN a follows or equals b. -/
def psnGe (a b : Nat) : Bool := decide ((2 ^ 24 + a - b) % 2 ^ 24 < 2 ^ 23)

/-- The state in which a packet of queue pair q is taken, and its turn: unknown numbers and queue pairs that are not
READY drop it and count it (R353); a congestion mark sends a notification, at most one in each interval (R354). -/
def State.arrive (s : State) (q psn : Nat) (ce : Bool) : State × Turn :=
  if s.hpUp = false then (s, .dropped)
  else if 2047 < q then (s.bumpSat Fld.hostErr_non_roce 1, .dropped)
  else if s.f (Fld.hostQpCfg_state q) ≠ 1 then (s.bumpSat (Fld.hostQpStat_dropped q) 1, .dropped)
  else
    let x := s.qp q
    let due := match x.lastCnp with | some t => decide (475 * s.f Fld.hostCcCfg_cnp_interval_us ≤ s.now - t) | none => true
    let s := if ce && due then (s.setQp q { x with lastCnp := some s.now }).emit (.cnp q) else s
    let e := s.f (Fld.hostQpPsn_recv_psn q)
    (s, if psn = e then .next else if psnGe psn e then .ahead else .again)

/-- Take n request packets: the next PSN expected moves past them. -/
def State.takePsn (s : State) (q n : Nat) : State :=
  s.put (Fld.hostQpPsn_recv_psn q) ((s.f (Fld.hostQpPsn_recv_psn q) + n) % 2 ^ 24)

/-- A queue pair enters ERROR (R352, R353): the event, the end of every transfer the S1 began on it; completion and notice
records on the way are held. -/
def State.qpError (s : State) (q code : Nat) : State :=
  let x := s.qp q
  let keep := x.tx.filter HpReq.isRecord
  let t := ((s.setQp q { x with tx := keep }).put (Fld.hostQpCfg_state q) 2).put (Fld.hostQpStat_error q) code
  let t := (t.generic Blk.host none (Reg.hostQpCfg q) 0 0).endShips q Res.hwFault true
  match t.snap.restore with
  | some r => if r.source = 2 ∧ r.qp = q then t.restoreEnd 6 Res.hwFault else t
  | none => t

/-- INCOMING_SEND (R352): outside recovery mode a SEND, or an unsupported opcode, is refused and the queue pair fails. -/
def incomingSend (q psn : Nat) (ce : Bool) (s : State) : State :=
  if s.f Fld.bootStatus_stage = 7 then s
  else
    let a := s.arrive q psn ce
    match a.2 with
    | .dropped => a.1
    | _ => (a.1.emit (.nak q psn .invalidRequest)).qpError q 2

/-! ### The requester's side (R353) -/

/-- What follows an acknowledgement: SHIPs whose last request it was end. -/
def State.progress (s : State) (q : Nat) : State :=
  if ((s.qp q).tx.filter (fun r => r.dest == 0)).isEmpty then s.endShips q Res.ok false else s

/-- Free the requests wholly acknowledged by a PSN; a READ stays until its response has come. -/
def State.acknowledge (s : State) (q psn : Nat) : State :=
  let x := s.qp q
  let gone := fun (r : HpReq) => psnGe psn (r.psn + r.packets - 1) && !r.isRead
  if x.tx.any gone then (s.setQp q { x with tx := x.tx.filter (fun r => !gone r), tries := 0, since := s.now }).progress q else s

/-- Go-back-N from a PSN: the requests from it on are sent again (R353). -/
def State.goBack (s : State) (q psn : Nat) : State :=
  let x := s.qp q
  let rs := x.tx.filter (fun r => psnGe (r.psn + r.packets - 1) psn)
  if s.f (Fld.hostQpCfg_retry_cnt q) ≤ x.tries then s.qpError q 1
  else
    let t := (s.setQp q { x with tries := x.tries + 1, since := s.now }).bumpSat (Fld.hostQpStat_retransmits q) 1
    rs.foldl (fun t r => t.emit r.msg) t

/-- ACKNOWLEDGE (R353): an ACK frees PSNs; a sequence NAK acknowledges what precedes it and starts go-back-N; a refusal by
the remote end fails the queue pair. -/
def acknowledgeCmd (q psn : Nat) (nak : Option NakKind) (s : State) : State :=
  if s.hpUp = false ∨ 2047 < q then (if 2047 < q ∧ s.hpUp then s.bumpSat Fld.hostErr_non_roce 1 else s)
  else if s.f (Fld.hostQpCfg_state q) ≠ 1 then s.bumpSat (Fld.hostQpStat_dropped q) 1
  else
    match nak with
    | none => s.acknowledge q psn
    | some .sequence => (s.acknowledge q ((2 ^ 24 + psn - 1) % 2 ^ 24)).goBack q psn
    | some .invalidRequest => s.qpError q 2
    | some .remoteAccess => s.qpError q 3
    | some .remoteOperational => (s.qpError q ((Config.freeWord s.fresh).toNat % 4)).useFresh 1

/-- READ_RESPONSE (R353): the whole response to the oldest READ the S1 asked for; it acknowledges what preceded it. -/
def readResponse (q psn : Nat) (data : List Byte) (s : State) : State :=
  if s.hpUp = false ∨ 2047 < q then (if 2047 < q ∧ s.hpUp then s.bumpSat Fld.hostErr_non_roce 1 else s)
  else if s.f (Fld.hostQpCfg_state q) ≠ 1 then s.bumpSat (Fld.hostQpStat_dropped q) 1
  else
    let x := s.qp q
    match x.tx.find? HpReq.isRead with
    | none => s
    | some r =>
      match r.msg with
      | .readReq _ _ _ len =>
        if r.psn ≠ psn ∨ data.length ≠ len then s
        else
          let t := s.setQp q { x with tx := x.tx.filter (fun y => psnGe y.psn r.psn && y.psn != r.psn), tries := 0, since := s.now }
          (match t.snap.restore with
           | some z => if z.source = 2 ∧ z.qp = q ∧ r.dest = z.image.length then t.restoreData data else t
           | none => t).progress q
      | _ => s

/-- RETRANSMIT_TIMEOUT (R353): no progress for 4.096 µs × 2^timeout; go-back-N from the oldest unacknowledged PSN. -/
def retransmitTimeout (q : Nat) (s : State) : State :=
  let x := s.qp q
  match x.tx with
  | [] => s
  | r :: _ =>
    if s.f (Fld.hostQpCfg_state q) = 1 ∧ 19456 * 2 ^ s.f (Fld.hostQpCfg_timeout q) ≤ 10 * (s.now - x.since) then s.goBack q r.psn else s

/-! ### Congestion control (R354) -/

/-- Line rate in units of 100 Mb/s. -/
def lineRate : Nat := 16000

/-- Show a queue pair's send rate in Gb/s. -/
def State.showRate (s : State) (q : Nat) : State :=
  s.put (Fld.hostQpStat_rate q) ((s.qp q).rateNum / (s.qp q).rateDen / 10)

/-- CNP_RECEIVE: rate = max(min_rate, rate × (1 − α/2)); α = α + (1 − α) / 2^k. -/
def cnpReceive (q : Nat) (s : State) : State :=
  if s.hpUp = false ∨ 2047 < q then (if 2047 < q ∧ s.hpUp then s.bumpSat Fld.hostErr_non_roce 1 else s)
  else if s.f (Fld.hostQpCfg_state q) ≠ 1 then s.bumpSat (Fld.hostQpStat_dropped q) 1
  else
    let x := s.qp q
    let k := s.f Fld.hostCcCfg_g_log2
    let m := s.f Fld.hostCcCfg_min_rate
    let num := x.rateNum * (2 ^ (x.alphaExp + 1) - x.alphaNum)
    let den := x.rateDen * 2 ^ (x.alphaExp + 1)
    let y := { x with
      rateNum := if num < m * den then m else num
      rateDen := if num < m * den then 1 else den
      alphaNum := x.alphaNum * 2 ^ k + (2 ^ x.alphaExp - x.alphaNum)
      alphaExp := x.alphaExp + k
      rateAt := s.now }
    ((s.setQp q y).bumpSat (Fld.hostQpStat_cnps q) 1).showRate q

/-- RATE_INCREASE: 55 µs without a notification: α = α × (1 − 2^−k); rate = min(line, rate + rai). -/
def rateIncrease (q : Nat) (s : State) : State :=
  let x := s.qp q
  if s.f (Fld.hostQpCfg_state q) ≠ 1 ∨ s.now - x.rateAt < 26125 then s
  else
    let k := s.f Fld.hostCcCfg_g_log2
    let num := x.rateNum + s.f Fld.hostCcCfg_rai * x.rateDen
    let y := { x with
      rateNum := if lineRate * x.rateDen < num then lineRate else num
      rateDen := if lineRate * x.rateDen < num then 1 else x.rateDen
      alphaNum := x.alphaNum * (2 ^ k - 1)
      alphaExp := x.alphaExp + k
      rateAt := s.now }
    (s.setQp q y).showRate q

/-! ### Queue pairs and memory entries (R353, R355, R357) -/

/-- A queue pair becomes READY afresh: rates at line, and the records held for it sent again on its new PSNs. -/
def State.qpStart (s : State) (q : Nat) : State :=
  let held := (s.qp q).tx
  let t := (s.setQp q { qpD q with since := s.now, rateAt := s.now }).showRate q
  let t := held.foldl (fun t r => t.request q r.msg 64 r.dest) t
  t.flushQueues.settle

/-- QP_TO_READY (R353, R355): a write of HOST_QP_CFG_q from RESET. -/
def qpToReady (w : Writer) (q v : Nat) (s : State) : State :=
  let v := setBits v 0 2 1
  s.regWrite w (Reg.hostQpCfg q) v (fun s =>
    if q = 0 ∨ s.f (Fld.hostQpCfg_state q) ≠ 0 then s.badWrite (Reg.hostQpCfg q) v
    else ((s.writeFields (Reg.hostQpCfg q) v).put (Fld.hostQpStat_error q) 0).qpStart q)

/-- QP_TO_RESET (R353): transfers the S1 began on the queue pair end; records on the way are held. -/
def qpToReset (w : Writer) (q v : Nat) (s : State) : State :=
  let v := setBits v 0 2 0
  s.regWrite w (Reg.hostQpCfg q) v (fun s =>
    if q = 0 then s.badWrite (Reg.hostQpCfg q) v
    else
      let x := s.qp q
      let keep := x.tx.filter HpReq.isRecord
      let t := (s.writeFields (Reg.hostQpCfg q) v).setQp q { x with tx := keep, tries := 0 }
      let t := t.endShips q Res.hwFault true
      match t.snap.restore with
      | some r => if r.source = 2 ∧ r.qp = q then t.restoreEnd 6 Res.hwFault else t
      | none => t)

/-- Give a memory entry a new random tag (R357). -/
def State.newTag (s : State) (k : Nat) : State :=
  (s.put (Fld.hostMr2_tag k) (Config.randomWord s.fresh).toNat).useFresh 1

/-- MR_WRITE (R357): half 0 or 1 of entry k; entries 0 and 1 are read-only. -/
def mrWrite (w : Writer) (k half v : Nat) (s : State) : State :=
  let off := if half = 0 then Reg.hostMr0 k else Reg.hostMr1 k
  s.regWrite w off v (fun s => if k < 2 then s.badWrite off v else (s.writeFields off v).newTag k)

/-- HP_LANE_LOSS (R350, R13): the port goes DOWN. -/
def hpLaneLoss (s : State) : State := s.setHp { s.hp with up := false }

/-- HP_BRINGUP_RETRY (R350, R375): the port comes UP when its lanes lock, which shows that its SerDes reference runs; the queues
write what they hold, and during start-up QP0 is READY from now on (R355). -/
def hpBringupRetry (lock : Bool) (s : State) : State :=
  let stage := s.f Fld.bootStatus_stage
  if s.hp.up ∨ lock = false ∨ s.halfRestarts false ∨ s.pins.inReset ∨ stage < 2 ∨ stage = 8 then s
  else
    let t := (s.setHp { s.hp with up := true }).setPins { s.pins with sdrefP := true }
    let t := if t.f (Fld.hostQpCfg_state 0) = 0 ∧ stage ≠ 7 then (t.put (Fld.hostQpCfg_state 0) 1).qpStart 0 else t
    if t.isHeld then t else t.flushQueues.settle

end Sys2Proof.Machine
end

