-- ==== Sys2Proof/Machine/Mapout.lean ====
section
/-!
DEFINITION. Mapping out a channel, and a stack's leaving service (R227 to R230, R232).
-/
namespace Sys2Proof.Machine

/-! ### In-flight accesses to lost bytes (R229, R230) -/

/-- Runs of HBM that an operation in flight has still to touch: those its item names, those it has taken, and what its work
reads and writes. -/
def State.opTouches (s : State) (slot : Nat) (o : Op) : List (Nat × Nat) :=
  let units (d : Desc) : List (Nat × Nat) := joinRuns (d.addrs.map (fun a => (a, d.unit)))
  let planes (pl : Option Plane) (n : Nat) : List (Nat × Nat) :=
    match pl with | some q => [(q.qBase, n * q.chunks), (q.tBase, 4 * ceilDiv n 128 * q.chunks)] | none => []
  let named := s.addrRuns (s.opPart o) o.item
  let work := match s.mm slot with
    | some m => units m.xd ++ units m.wd ++ units m.od ++ planes m.xp m.m ++ planes m.wp m.n
    | none => []
  let kern := match s.kern slot with
    | some k => (k.ins ++ k.outs).flatMap (fun c => match c with
        | some c => joinRuns (c.locs.map (fun a => (a, ((Fmt.ofCode c.fmtCode).getD .fp32).bytes))) | none => [])
    | none => []
  named.1 ++ named.2 ++ o.outs ++ o.got.flatMap (fun e => e.2.flatMap (fun d => units d.1)) ++ work ++ kern

/-- A run has a byte that is lost. -/
def State.runLost (s : State) (r : Nat × Nat) : Bool :=
  (List.range (ceilDiv (r.1 + r.2) 4096 - r.1 / 4096)).any (fun i =>
    match placeOf (if i = 0 then r.1 else (r.1 / 4096 + i) * 4096) with | some pl => s.lost pl | none => false)

/-- In-flight operations that touch a lost byte fail with HW_FAULT. -/
def State.failLost (s : State) : State :=
  s.inFlight.foldl (fun t e =>
    if t.opSettled e.1 || e.2.done.isSome || !(s.opTouches e.1 e.2).any s.runLost then t
    else if e.2.opcode = 1 then t.failMatmul e.1 Res.hwFault
    else if e.2.opcode = 2 then t.failKernel e.1 Res.hwFault
    else if e.2.opcode = 4 then (t.stopWork e.1 e.2).finish e.1 Res.hwFault
    else t.finish e.1 Res.hwFault) s

/-! ### Map-out (R227 to R230) -/

/-- A stack leaves service (R230): FAILED, every address lost, in-flight operations that touch it fail, event, and notice to host
and twin; the spec gives the twin's notice no code (assumption 27). -/
def State.stackFail (s : State) (h : Nat) : State :=
  let t := ((s.put (Fld.hsmStackStatus_state h) 3).put (Fld.hsmStackStatus_in_service h) 0)
  let t := t.capacityUpdate.inventoryUpdate
  let t := t.event 0x0505 none (csCantle (h / 4)) h (toLE 1 h)
  let t := if t.twinPath then t.sendNotice (toLE 2 (Config.memberLossCode % 65536) ++ toLE 4 t.node ++ toLE 1 h) else t
  t.failLost

/-- A map-out trigger for channel c of stack h (R227, R229, R230). -/
def State.startMapout (s : State) (h c : Nat) : State :=
  if s.f (Fld.hsmStackStatus_state h) = 3 then s
  else if s.flag (Fld.hsmStackStatus_mapped_valid h) then
    if s.f (Fld.hsmStackStatus_mapped_ch h) = c then s else s.stackFail h
  else
    let t := ((s.put (Fld.hsmStackStatus_mapped_ch h) c).put (Fld.hsmStackStatus_mapped_valid h) 1).put
      (Fld.hsmStackStatus_mapout_phase h) 1
    let t := t.owe ⟨3, h, c, t.keep.seq, t.now⟩
    t.event 0x0503 none (csCantle (h / 4)) h (toLE 1 h ++ toLE 1 c ++ toLE 6 0 ++ toLE 8 (s.rd Reg.hsmCapacity - chBytes))

/-- UE_LIMIT_EXCEEDED (R227): more than ue_limit sectors poisoned in one hour. -/
def ueLimit (n : Nat) (s : State) : State :=
  let lim := s.f Fld.hsmCfg_ue_limit
  if lim ≠ 0 ∧ lim < s.ueCount n then
    (s.setUeTimes n []).startMapout (n / 32) (n % 32)
  else s

/-- RETRAIN_END (R226): success restores service; a failure restores the previous settings and is retried twice; the
third starts a map-out. -/
def retrainEnd (n : Nat) (ok : Bool) (s : State) : State :=
  if s.f (Fld.hsmChStatus_state n) ≠ 2 then s
  else
    let t := s.put (Fld.hsmChStatus_state n) (s.servingCode n)
    let h := n / 32
    if ok then
      let t := t.put (Fld.hsmChStatus_retrain_fails n) 0
      t.markTrained n
    else
      let k := t.f (Fld.hsmChStatus_retrain_fails n) + 1
      let t := t.put (Fld.hsmChStatus_retrain_fails n) k
      if 3 ≤ k then t.startMapout h (n % 32) else t.wantRetrain n true

/-- HSM_MAPOUT_REQ (R227). -/
def writeMapoutReq (w : Writer) (v : Nat) (s : State) : State :=
  if !s.writerDevice w then s.badWrite Reg.hsmMapoutReq v
  else if bits v 31 1 = 1 then s.startMapout (bits v 0 4) (bits v 4 5) else s

/-- HSM_MAPOUT_ACK (R229): outside PENDING it is ignored with an event; else lost addresses are refused from now on,
in-flight accesses to lost bytes fail, and the channel's rows migrate. -/
def writeMapoutAck (w : Writer) (v : Nat) (s : State) : State :=
  let h := bits v 0 4
  if !s.writerDevice w then s.badWrite Reg.hsmMapoutAck v
  else if bits v 31 1 = 0 then s
  else if s.f (Fld.hsmStackStatus_mapout_phase h) ≠ 1 then s.badWrite Reg.hsmMapoutAck v
  else
    let t := (s.put (Fld.hsmStackStatus_mapout_phase h) 2).put
      (Fld.hsmChStatus_state (32 * h + s.f (Fld.hsmStackStatus_mapped_ch h))) 4
    t.capacityUpdate.failLost

/-- Move every surviving byte and poison mark of channel x to its redirect (R228, R229). -/
def State.migrate (s : State) (h x : Nat) : State :=
  let base := (h * 32 + x) * chBytes
  let dead := Sparse.get (fun _ => false) s.hsm.unreadable (h * 32 + x)
  let mine (k : Nat) : Bool := decide (base ≤ k) && decide (k < base + rowLimit * 4096)
  let dest (k : Nat) : Nat :=
    let loc := k - base
    let ρ := loc / 4096
    let r := ρ % 31
    (Place.mk h (if r < x then r else r + 1) ((rowLimit + ρ / 31) * 4096 + loc % 4096)).key
  -- the redirect rows held lost bytes until now: drop them, then copy
  let lostRow (k : Nat) : Bool :=
    decide (h * 32 * chBytes ≤ k) && decide (k < (h * 32 + 32) * chBytes) && decide (rowLimit * 4096 ≤ k % chBytes)
  let kept := s.mem.filter (fun e => !lostRow e.1)
  let mem := (s.mem.filter (fun e => mine e.1)).foldl (fun m e => Sparse.put memD m (dest e.1) e.2) kept
  let keptP := s.poison.filter (fun e => !lostRow (32 * e.1))
  -- a poisoned row is written poisoned whole
  let rows := ((s.poison.filter (fun e => mine (32 * e.1) && e.2)).map (fun e => 32 * e.1 / 4096)).dedup
  let poison := rows.foldl (fun m r => (List.range 128).foldl (fun m i => Sparse.put poisonD m (dest (4096 * r + 32 * i) / 32) true) m) keptP
  if dead then
    { s with mem := kept,
             poison := (List.range (rowLimit * 128)).foldl (fun m k => Sparse.put poisonD m (dest (base + 32 * k) / 32) true) keptP }
  else { s with mem := mem, poison := poison }

/-- MAPOUT_CUTOVER (R229): the channel's surviving rows are copied, and in one cycle the redirect takes effect and the channel is
MAPPED_OUT.  During a save the migration stands still (R232). -/
def mapoutCutover (h : Nat) (s : State) : State :=
  if s.f (Fld.hsmStackStatus_mapout_phase h) ≠ 2 ∨ s.f (Fld.hsmStackStatus_state h) = 3 ∨ s.f Fld.thmSaveStatus_state ≠ 0 then s
  else
    let x := s.f (Fld.hsmStackStatus_mapped_ch h)
    let t := ((s.migrate h x).bump (Fld.senBytesCopy_bytes h) (rowLimit * 4096)).put (Fld.hsmStackStatus_mapout_phase h) 3
    let t := (t.put (Fld.hsmChStatus_state (32 * h + x)) 5).put (Fld.hsmStackStatus_in_service h) 31
    t.inventoryUpdate.event 0x0504 none (csCantle (h / 4)) h (toLE 1 h ++ toLE 1 x)

end Sys2Proof.Machine
end

