-- ==== Sys2Proof/Machine/Boot.lean ====
section
/-!
DEFINITION. Reset, start-up, deltas, firmware update and recovery (R361 to R378, R408 to R412).
-/
namespace Sys2Proof.Machine

def State.stage (s : State) : Nat := s.f Fld.bootStatus_stage

def State.setStage (s : State) (n : Nat) : State := s.put Fld.bootStatus_stage n

/-! ### Reset (R408, R412, R415) -/

/-- NOR writes that a reset cuts: of the byte sequence they program, k bytes are new, the next j hold free bytes, and the
rest is as before (R372, R376). -/
def State.cutWrites (s : State) (k j : Nat) : List (Nat × List Byte) → Nat → State
  | [], _ => s
  | (a, bs) :: ws, i =>
    let n := min bs.length (k - i)
    let m := min (bs.length - n) (k + j - (i + n))
    (((s.norWrite a (bs.take n ++ freeBytes s m)).useFresh m)).cutWrites k j ws (i + bs.length)

/-- The sections of a directory, each at its NOR offset. -/
def sectionBytes (rd : ImgReader) (d : Dir) : List (Nat × List Byte) :=
  d.all.map (fun e => ((sectionPlace (entType e) (entSlot e)).1, sectionOf rd e))

/-- What an update's WRITE programs, in its order: sections, then the directory (R375). -/
def State.updateWrites (s : State) : List (Nat × List Byte) :=
  sectionBytes (fun a n => Sparse.getAll norD s.boot.updateStaged a n) s.boot.newDir ++ [(0x10000 * (1 - s.boot.runCopy), s.boot.newDir)]

/-- What an accepted delta programs: the section, then the directory (R372). -/
def State.deltaWrites (s : State) : List (Nat × List Byte) :=
  let tgt := s.f Fld.bootDeltaStatus_target
  let d : Dir := s.boot.deltaDir
  [(slotOffset tgt (match d.find (3 + tgt) with | some e => entSlot e | none => 0), s.boot.deltaSection), (0x10000 * (1 - s.boot.runCopy), d)]

/-- A reset stops the programming under way where it stands; how far it had come is free. -/
def State.cutNor (s : State) : State :=
  let ws := if s.f Fld.bootUpdateStatus_phase = 2 then s.updateWrites
    else if s.f Fld.bootDeltaStatus_state = 2 ∧ s.boot.newDir = [] then s.deltaWrites else []
  if ws.isEmpty then s
  else
    let n := (ws.map (fun w => w.2.length)).foldl (· + ·) 0 + 1
    (s.useFresh 2).cutWrites ((Config.freeWord s.fresh).toNat % n) ((Config.freeWord (s.fresh + 1)).toNat % n) ws 0

/-- The device under reset: everything at its reset value but what outlives a reset: fuses, NOR, the flash's log, anchors
and keep area, the balls, THERMTRIP_N, and what has already left the device. -/
def State.resetDevice (s : State) : State :=
  let s := s.cutNor
  let t := { State.reset with
    pending := s.pending
    fresh := s.fresh
    fuses := s.fuses
    boot := { State.reset.boot with nor := s.boot.nor }
    hp := { State.reset.hp with out := s.hp.out }
    links := { State.reset.links with out := s.links.out }
    snap := { State.reset.snap with
      flash := { State.reset.snap.flash with log := s.snap.flash.log, tail := s.snap.flash.tail, ends := s.snap.flash.ends, nextSeq := s.snap.flash.nextSeq, anchor := s.snap.flash.anchor } }
    power := { State.reset.power with tripWire := s.power.tripWire }
    keep := { State.reset.keep with ledger := s.keep.ledger, areas := s.keep.areas, seq := s.keep.seq }
    pins := { s.pins with inReset := true } }
  t.putB Fld.thmStatus_trip s.power.tripWire

/-- RESET_ASSERT: RESET_N (or PWRGOOD) low for 1 µs; no save starts. -/
def resetAssert (resetN : Bool) (s : State) : State :=
  let t := s.resetDevice
  if resetN then t.setPins { t.pins with resetLow := true, refclk := true } else t

/-- REFCLK_STOP: acts as an assertion until RESET_N is asserted and released with REFCLK running (R412). -/
def refclkStop (s : State) : State :=
  if s.pins.inReset then s
  else
    let t := s.resetDevice
    t.setPins { t.pins with refclk := false }

/-- BYPASS, IDCODE, SAMPLE/PRELOAD, EXTEST, EXTEST_PULSE and EXTEST_TRAIN as 0 to 5; the last three take effect only while
RESET_N is low, and are BYPASS at any other time (R415). -/
def jtagEffect (resetLow : Bool) (i : Nat) : Nat := if 3 ≤ i ∧ resetLow = false then 0 else i

/-- JTAG_INSTRUCTION. -/
def jtagInstruction (i : Nat) (s : State) : State := s.setPins { s.pins with jtag := jtagEffect s.pins.resetLow i }

/-- SDREF_LOSS (R412): the lanes the reference serves lose lock; ports left without lock go DOWN; work continues. -/
def sdrefLoss (cantle : Bool) (s : State) : State :=
  let t := s.setPins { s.pins with sdrefP := s.pins.sdrefP && cantle, sdrefC := s.pins.sdrefC && !cantle }
  let t := if cantle then t else hpLaneLoss t
  (List.range 12).foldl (fun t n =>
    let mine := if cantle then t.fullMask n - (t.fullMask n &&& pommelLanes n) else pommelLanes n
    let lost := (List.range 16).filter (fun l => testBit mine l)
    if lost.isEmpty then t else lockTimeout n (lost.foldl (fun t l => laneBad n l t) t)) t

/-! ### Outputs to the NOR and the flash (R413, R414) -/

/-- XSPI_RESET_N is low: while RESET_N is low (or the device is held in reset) and for 100 µs after release. -/
def State.xspiResetLow (s : State) : Bool := s.pins.resetLow || s.pins.inReset || decide (s.now < 47500)

/-- XSPI_CS_N is high for certain: the S1 drives it so while XSPI_RESET_N is low, and selects the NOR at no such time. -/
def State.xspiCsHigh (s : State) : Bool := s.xspiResetLow

/-- FLc_WP_N is low on every channel: while RESET_N is low, and in the save state LOST, which HOLD_LOSS_N leads to. -/
def State.flashWpLow (s : State) : Bool := s.pins.resetLow || s.saveState == 4

/-! ### Release and the lead lease (R367, R410) -/

/-- The boot ROM enters recovery mode (R377): the link-local address of the fused MAC, no VLAN, a path MTU of 1,024. -/
def State.enterRecovery (s : State) : State :=
  let t := ((s.put Fld.hostCfg_ipv6 1).put Fld.hostCfg_vlan_en 0).put Fld.hostCfg_path_mtu 0
  t.setStage 7

/-- A control processor holds the lease from now on; its boot ROM starts, in recovery where the strap asks for it. -/
def State.leadStarts (s : State) (lead : Nat) : State :=
  let t := (s.put Fld.bootStatus_lead lead).setBoot { s.boot with leadClaimed := true, renewedAt := s.now }
  if s.flag Fld.bootStraps_recover then t.enterRecovery else t

/-- RESET_RELEASE: straps is BOOT_STRAPS as sampled; ready: the conditions of R408 hold; claims: CPP's boot ROM claims the
lease.  After a thermal trip a release has no effect until VAUX has been cycled (R409). -/
def resetRelease (straps : Nat) (ready claims : Bool) (s : State) : State :=
  if s.pins.inReset = false ∨ ready = false ∨ s.power.tripWire ∨ s.pins.refclk = false then s
  else
    let t := (s.setNow 0).setPins { s.pins with inReset := false, resetLow := false, jtag := jtagEffect false s.pins.jtag }
    let t := (t.wr Reg.bootStraps (straps % 32)).put Fld.lnkNodeId_position (straps % 8)
    let t := (t.showFuses).extend 0 s.fuses.romDigest
    let r := t.random
    let t := r.1.wr Reg.secCmdNonce r.2
    if testBit straps 4 then t
    else
      let t := t.setStage 1
      if claims then t.leadStarts 0 else t

/-- LEASE_GRANT_TIMEOUT: no claim by CPP within 10 ms of release; the lease goes to CPC and CPP's claims are refused. -/
def leaseGrantTimeout (s : State) : State :=
  if s.stage ≠ 1 ∨ s.boot.leadClaimed ∨ s.now < 4750000 then s
  else
    let t := s.setBoot { s.boot with cppRefused := true }
    t.leadStarts 1

/-- Start-up stands at a stage: no supply loss has halted it and the lease is held (R347, R320). -/
def State.startingAt (s : State) (n : Nat) : Bool :=
  s.stage == n && s.boot.leadClaimed && s.saveState == 5 && !s.isHeld && !s.pins.inReset

/-- A failure other than that of the checks of R365: stage FAILED and an event (R369). -/
def State.bootFail (s : State) (r : Nat) : State := (s.setStage 8).generic Blk.boot none Reg.bootStatus 0 r

/-! ### The image (R361 to R366) -/

/-- Active section slot of each target. -/
def Dir.slots (d : Dir) : List (Nat × Nat) := (d.all.filter (fun e => decide (3 ≤ entType e))).map (fun e => (entType e - 3, entSlot e))

def Dir.digest (d : Dir) (typ : Nat) : List Byte := match d.find typ with | some e => entDigest e | none => []

/-- The directory of the running image, in copy c, and what registers show of it. -/
def State.runImage (s : State) (c : Nat) (d : Dir) : State :=
  let t := s.setBoot { s.boot with partitions := d.partitions, runDir := d, runCopy := c, slots := d.slots }
  let t := (t.wr Reg.bootGeneration d.generation).wr Reg.bootFwVersion d.fwVersion
  t.put Fld.secStatus_signer ((d.signer s.fuses).getD 0)

/-- Apply a section from NOR of a directory, and extend its measurement; none where it is invalid. -/
def State.bootSection (s : State) (d : Dir) (typ meas : Nat) : Option State :=
  match d.find typ with
  | none => some s
  | some e => (s.applySection (targetOf typ) typ (sectionOf s.norRead e)).map (fun t => t.extend meas (entDigest e))

/-- NOR_READ_DONE (R365, R368, R413): not before the NOR is out of reset.  The image is read and checked; measurements 1 and 2 are extended, the device section is
applied, and HBM training begins. -/
def norReadDone (s : State) : State :=
  if s.startingAt 1 = false ∨ s.xspiCsHigh then s
  else
    match chooseDir s.fuses s.norRead with
    | none => s.enterRecovery
    | some (c, d) =>
      if (d.checkSections s.fuses s.norRead).isSome then s.enterRecovery
      else
        let t := (s.runImage c d).extend 1 (d.digest 1)
        match t.bootSection d 2 2 with
        | none => (t.extend 2 (d.digest 2)).bootFail BRes.badFormat
        | some u => u.setStage 3

/-! ### HBM training and self-tests (R369, R229, R91) -/

/-- A channel leaves service with no migration (R369): the redirect is in force at once.  A second one fails the stack
(R230).  told: the map-out is new, so the lead records it and its events are raised. -/
def State.mapoutNow (s : State) (h c : Nat) (told : Bool) : State :=
  if s.f (Fld.hsmStackStatus_state h) = 3 then s
  else if s.flag (Fld.hsmStackStatus_mapped_valid h) then
    if s.f (Fld.hsmStackStatus_mapped_ch h) = c then s else s.stackFail h
  else
    let t := if told then s.startMapout h c else (s.put (Fld.hsmStackStatus_mapped_ch h) c).put (Fld.hsmStackStatus_mapped_valid h) 1
    let t := ((t.put (Fld.hsmStackStatus_mapout_phase h) 3).put (Fld.hsmChStatus_state (32 * h + c)) 5).put (Fld.hsmStackStatus_in_service h) 31
    let t := t.capacityUpdate.inventoryUpdate
    if told then t.event 0x0504 none (csCantle (h / 4)) h (toLE 1 h ++ toLE 1 c) else t

/-- A repair map entry, from fuses or, with field set, from the keep area; ARY_REPAIR_SRC_n shows which (R91, R92). -/
def State.loadRepair (s : State) (a b row : Nat) (field : Bool) : State :=
  if s.flag ⟨Reg.aryRepair a, 8 * b + 7, 1⟩ ∨ 8 ≤ b then s
  else
    let d := s.f (Fld.aryStatus_repairs a) + 1
    let src := if field then Fld.aryRepairSrc_field a else Fld.aryRepairSrc_fused a
    (((((s.put ⟨Reg.aryRepair a, 8 * b, 7⟩ row).put ⟨Reg.aryRepair a, 8 * b + 7, 1⟩ 1).put (Fld.aryStatus_repairs a) d).put
      (Fld.aryStatus_spares_left a) (8 - d))).put src (s.f src ||| 2 ^ b)

/-- Whether nothing a partition owns keeps it from starting (R369). -/
def State.partHealthy (s : State) (p : Nat) : Bool :=
  (s.csOf p).all (fun c => s.flag (Fld.aryStatus_in_service c) &&
    (List.range 4).all (fun i => s.f (Fld.hsmStackStatus_state (4 * c + i)) != 3))

/-- Partitions that can start have started; BOOT_STATUS.part_ok shows them. -/
def State.startParts (s : State) : State :=
  let ok := fun (p : Nat) => decide (p < s.boot.partitions) && s.partHealthy p
  let t := (List.range 4).foldl (fun t p => t.setPart p { t.part p with started := ok p }) s
  t.put Fld.bootStatus_part_ok (((List.range 4).map (fun p => if ok p then 2 ^ p else 0)).foldl (· + ·) 0)

/-- Every channel but those that failed serves, and every stack. -/
def State.trained (s : State) (failed : List Nat) : State :=
  let t := (List.range 512).foldl (fun t n =>
    let k := if testBit (t.f (Fld.hsmKeepMask_keep (n / 32))) (n % 32) then 1 else 0
    let t := (t.put (Fld.hsmChStatus_keep_path n) k).put (Fld.hsmChStatus_state n) (if failed.contains n then 0 else 1)
    if failed.contains n then t else t.markTrained n) s
  (List.range 16).foldl (fun t h => (t.put (Fld.hsmStackStatus_state h) 1).put (Fld.hsmStackStatus_in_service h) 32) t

/-- Arrays after their self-tests: the fused map, in service or FAILED. -/
def State.arraysTested (s : State) (failed : List Nat) : State :=
  let t := (List.range 4).foldl (fun t a =>
    let t := t.put (Fld.aryStatus_spares_left a) 8
    if failed.contains a then
      (((t.put (Fld.aryStatus_state a) 4).put (Fld.aryStatus_in_service a) 0).put (Fld.aryFault_array_failed a) 1).event Blk.ary none
        (csCantle a) a (genericPayload (Reg.aryStatus a) a 0)
    else t.put (Fld.aryStatus_in_service a) 1) s
  s.fuses.repairs.foldl (fun t r => t.loadRepair r.1 r.2.1 r.2.2 false) t

/-- The partition and transit sections, measurements 3 to 7 (R368). -/
def State.bootSections (s : State) (d : Dir) : Option State :=
  foldOpt (fun t typ => t.bootSection d typ typ) [3, 4, 5, 6, 7] s

/-- HBM_TRAINING_DONE: the channels that failed training three times, the arrays and dies (R335) that failed self-test, and
whether any other self-test failed. -/
def hbmTrainingDone (channels arrays : List Nat) (dies : Nat) (other : Bool) (s : State) : State :=
  if s.startingAt 3 = false then s
  else
    let t := (s.trained channels).arraysTested arrays
    let t := channels.foldl (fun t n => t.mapoutNow (n / 32) (n % 32) true) t
    let t := ((t.selfTestFail dies).capacityUpdate).inventoryUpdate.startParts
    if other then t.bootFail 0
    else
      match t.bootSections s.boot.runDir with
      | none => t.bootFail BRes.badFormat
      | some u =>
        (List.range 12).foldl (fun t n => t.startTraining n) (u.modesUpdate.setStage 4)

/-! ### The keep-area restore (R348, R305, R400) -/

/-- A switch from the keep record is in force (R127). -/
def State.loadSwitch (s : State) (cs e : Nat) : State :=
  if s.f (Fld.teSpareStatus_state cs) ≠ 0 then s
  else
    let t := (((s.put (Fld.teSpareStatus_state cs) 4).put (Fld.teSpareStatus_from_keep cs) 1).put (Fld.teSpareStatus_serving cs) e).put
      (Fld.teStatus_on_spare (16 * cs + e)) 1
    (t.setSpare cs (some ⟨e, 3⟩)).event 0x0303 (some (t.partOfCs cs)) (csCantle cs) cs (toLE 1 cs ++ toLE 1 e ++ toLE 1 3)

/-- Apply one ledger entry. -/
def State.applyLedger (s : State) (e : LedgerEntry) : State :=
  if e.kind = 1 then s.loadRepair e.target (e.value % 256) (e.value / 256) true
  else if e.kind = 2 then s.loadSwitch e.target e.value
  else if e.kind = 3 then s.mapoutNow e.target e.value false
  else if e.kind = 4 then (s.put (Fld.cinchTrim_steps e.target) e.value).putB (Fld.cinchTrim_at_limit e.target) (20 ≤ e.value)
  else s

/-- A section of a save record. -/
def SaveRec.section_ (r : SaveRec) (t : Nat) : List Byte := match r.sections.find? (fun e => e.1 == t) with | some e => e.2 | none => []

/-- A migration under way at the save starts again (R229, R348). -/
def State.restartMigrations (s : State) (b : List Byte) : State :=
  (chunks 64 b).foldl (fun t e =>
    let h := fieldLE e 0 1 % 16
    let c := fieldLE e 1 1 % 32
    if t.flag (Fld.hsmStackStatus_mapped_valid h) ∧ t.f (Fld.hsmStackStatus_mapped_ch h) = c ∧ t.f (Fld.hsmStackStatus_state h) ≠ 3 then
      ((t.put (Fld.hsmStackStatus_mapout_phase h) 2).put (Fld.hsmChStatus_state (32 * h + c)) 4).put (Fld.hsmStackStatus_in_service h) 32
    else t) s

/-- The recorder tail of a save returns to the empty log, and EV-0x0C03 follows (R400). -/
def State.restoreLog (s : State) (r : SaveRec) : State :=
  let rs := (chunks 64 (r.section_ 5)).map EvRec.restored
  let rs := if s.split then rs.drop (rs.length - 28672) else rs
  let lo := if s.split then 4096 else 0
  let high := (rs.map EvRec.seq).foldl max 0
  let slots := (rs.zipIdx).map (fun e => (lo + e.2, some e.1))
  let ring := if s.split then (if rs.length = 28672 then 4096 else 4096 + rs.length) else s.recorder.ring
  let t := s.setRec { s.recorder with slots := slots, nextSeq := high + 1, ring := ring }
  t.recShow.writeRecord 0x0C03 0 0 0 (t.stepFor none) t.now (toLE 8 r.keepSeq ++ toLE 4 rs.length) [4]

/-- The newest record in THM_SAVE_LAST, and EV-0x0B0D for a loss record: one without a marker page (R348). -/
def State.reportLoss (s : State) (r : SaveRec) : State :=
  let t := ((s.put Fld.thmSaveLast_cause r.cause).putB Fld.thmSaveLast_precautionary r.marker.isSome).put Fld.thmSaveLast_from_startup 1
  let n := fieldLE r.header 0x22 1
  let sec := r.section_ 1
  let steps := (List.range 4).flatMap (fun p =>
    let off := ((List.range p).map (fun q => 64 + 16 * s.f (Fld.snapCfg_slots q))).foldl (· + ·) 0
    toLE 4 (if p < n then fieldLE sec off 4 else 0))
  match r.marker with
  | some m => t.put Fld.thmSaveLast_pause_us m.2
  | none => t.event 0x0B0D none false 0 (toLE 8 r.keepSeq ++ toLE 1 r.cause ++ toLE 1 n ++ toLE 2 0 ++ steps)

/-- The next snapshot count of each partition: one above the anchor's, any BEGIN record's and the floor (R309). -/
def State.resumeCounts (s : State) : State :=
  let f := s.snap.flash
  (List.range 4).foldl (fun t p =>
    let begun := ((f.log.filter (fun r => r.typ == 1 && bits r.id 22 2 == p)).map (fun r => r.id % 2 ^ 22)).foldl max 0
    let n := 1 + max (Sparse.get zeroD f.anchor p) (max begun (s.f (Fld.snapCountFloor_floor p)))
    t.setFlash { t.snap.flash with next := Sparse.put zeroD t.snap.flash.next p n }) s

/-- KEEP_AREA_RESTORE: channels is the mask of flash channels with a populated target, blockBytes the SLC capacity of an
erase block, flashBytes what the rest of the flash holds. -/
def keepAreaRestore (channels blockBytes flashBytes : Nat) (s : State) : State :=
  if s.startingAt 4 = false then s
  else
    let t := s.setStage 5
    if channels % 256 ≠ 255 ∨ 8 * s.f Fld.snapFlashCfg_keep_blocks * blockBytes < 20 * 2 ^ 20 then
      (t.put Fld.snapFlashCfg_keep_ok 0).generic Blk.snap none Reg.snapFlashCfg (s.f Fld.snapFlashCfg_keep_blocks) 0
    else
      let t := ((t.put Fld.snapFlashCfg_keep_ok 1).wr Reg.snapFlashCap flashBytes).put Fld.snapFlashStatus_state 1
      let t := t.flashShow.resumeCounts
      let t := (((liveLedger s.keep.ledger).foldl (fun t e => t.applyLedger e) t).reviseVcore).inventoryUpdate.startParts
      let t := match s.keep.newest with
        | some (_, r) => ((t.restartMigrations (r.section_ 4)).restoreLog r).reportLoss r
        | none => t
      (t.setKeep t.keep.eraseOld).enterRun

/-! ### READY (R355, R357, R366, R368) -/

/-- Memory entries 0 and 1 (R357): control space, read and write; the staging region, write-only. -/
def State.openEntries (s : State) : State :=
  let t := ((s.wr (Reg.hostMr0 0) 0x1C).wr (Reg.hostMr1 0) 0x1000000)
  let b := s.rd Reg.bootStageBase
  (t.wr (Reg.hostMr0 1) (b / 4096 * 4096 + 0x18)).wr (Reg.hostMr1 1) (b / 4096 * 4096 + s.rd Reg.bootStageBytes)

/-- STARTUP_READY: the keep-area restore has ended and the device is in RUN. -/
def startupReady (s : State) : State :=
  if s.stage ≠ 5 ∨ s.saveState ≠ 0 ∨ s.isHeld ∨ s.pins.inReset then s
  else
    let ms := s.now / 475000
    let t := (s.setStage 6).put Fld.bootStatus_ready_ms ms
    let t := (t.openEntries.newTag 0).newTag 1
    let t := if Dir.commitSvn s.boot.runDir then t.raiseSvn (Dir.svn s.boot.runDir) else t
    let t := t.modesUpdate
    let body := toLE 8 t.fuses.serial ++ toLE 8 (Dir.generation t.boot.runDir) ++ toLE 8 (Dir.fwVersion t.boot.runDir) ++ toLE 4 ms ++ toLE 36 0
    if t.qpReady 0 then t.request 0 (.send 0 (some t.node) body) 64 0 else t

/-! ### Deltas (R371 to R373) -/

/-- Set the delta's state, target and result. -/
def State.deltaStatus (s : State) (st target r : Nat) : State :=
  ((s.put Fld.bootDeltaStatus_state st).put Fld.bootDeltaStatus_target target).put Fld.bootDeltaStatus_result r

/-- The type of the one section in which two directories differ. -/
def deltaType (old new : Dir) : Option Nat :=
  match ((old.all.zip new.all).filter (fun e => e.1 != e.2)).map (fun e => entType e.2) with
  | [t] => if 3 ≤ t then some t else none
  | _ => none

/-- The checks of R371: the target's entry, or the result that refuses the delta. -/
def State.deltaCheck (s : State) : Except Nat (Nat × List Byte) :=
  let d := dirAt s.stageRead 0
  let run := s.boot.runDir
  match d.check s.fuses with
  | some r => .error r
  | none =>
    if d.generation ≤ Dir.generation run then .error BRes.rollback
    else if d.svn ≠ Dir.svn run ∨ d.partitions ≠ Dir.partitions run ∨ d.entries ≠ Dir.entries run then .error BRes.mismatch
    else
      match deltaType run d with
      | none => .error BRes.mismatch
      | some typ =>
        match d.find typ, Dir.find run typ with
        | some e, some o =>
          if entSlot e = entSlot o ∨ Config.sm3 (sectionOf s.stageRead e) ≠ entDigest e then .error BRes.mismatch
          else if (s.applySection (targetOf typ) typ (sectionOf s.stageRead e)).isNone then .error BRes.badFormat
          else .ok (typ, sectionOf s.stageRead e)
        | _, _ => .error BRes.mismatch

/-- BOOT_DELTA_GO (R371): checked, and taken or refused with its result and no NOR write. -/
def bootDeltaGo (w : Writer) (go : Bool) (s : State) : State :=
  s.regWrite w Reg.bootDeltaGo (if go then 2 ^ 31 else 0) (fun s =>
    if go = false then s
    else if s.serving = false then s.badWrite Reg.bootDeltaGo (2 ^ 31)
    else if s.boot.seqUse = some .delta then s.put Fld.bootDeltaStatus_result BRes.busy
    else if s.boot.seqUse.isSome then s.deltaStatus 5 0 BRes.busy
    else
      match s.deltaCheck with
      | .error r => s.deltaStatus 5 0 r
      | .ok (typ, sec) =>
        (s.deltaStatus 2 (typ - 3) 0).setBoot { s.boot with
          seqUse := some .delta, deltaSection := sec, deltaDir := dirAt s.stageRead 0, newDir := [] })

/-- The delta ends: the sequencer is free. -/
def State.deltaEnd (s : State) (st r : Nat) : State :=
  let t := (s.put Fld.bootDeltaStatus_state st).put Fld.bootDeltaStatus_result r
  t.setBoot { t.boot with seqUse := none, newDir := [] }

/-- DELTA_NOR_WRITTEN (R372): fault 0: section and directory are programmed and the section reads back right; 1: the
section's programming failed, 2: the directory's, 3: the read-back.  What a failed range then holds is free. -/
def deltaNorWritten (fault : Nat) (s : State) : State :=
  if s.f Fld.bootDeltaStatus_state ≠ 2 ∨ s.serving = false ∨ s.boot.newDir ≠ [] then s
  else
    let tgt := s.f Fld.bootDeltaStatus_target
    let d : Dir := s.boot.deltaDir
    let slot := match d.find (3 + tgt) with | some e => entSlot e | none => 0
    let sec := s.boot.deltaSection
    let bad := freeBytes s sec.length
    let badDir := freeBytes s d.length
    let copyAt := 0x10000 * (1 - s.boot.runCopy)
    let t := s.norWrite (slotOffset tgt slot) (if fault = 1 ∨ fault = 3 then bad else sec)
    if fault = 1 then (t.useFresh sec.length).deltaEnd 5 BRes.norError
    else
      let t := t.norWrite copyAt (if fault = 2 then badDir else d)
      if fault = 0 then
        let t := t.setBoot { t.boot with newDir := d }
        if tgt < 4 then (t.setPart tgt { t.part tgt with paused := true }).put Fld.bootDeltaStatus_state 3 else t
      else (t.useFresh (sec.length + d.length)).deltaEnd 5 BRes.norError

/-- The new directory runs. -/
def State.deltaRuns (s : State) (d : Dir) : State := s.runImage (1 - s.boot.runCopy) d

/-- A delta brings a replacement back to its position (R299): JOINING ends in PAIRED, and so does the TAKEOVER (or ALONE) of a
device that has met its replacement, once no group holds the twin's position lost. -/
def State.rejoin (s : State) : State :=
  let back := s.snap.twin.met && (s.groupsOf (fun g =>
    (List.range g.n).any (fun p => g.node p == s.twinNode && g.jobLost.contains p))).isEmpty
  if s.twinState = 6 ∨ (s.twinState = 4 ∨ s.twinState = 5) ∧ back then
    let t := s.put Fld.snapTwinStatus_state 2
    let t := (List.range 4).foldl (fun t p => t.setTwin { t.snap.twin with committed := Sparse.put (fun _ => false) t.snap.twin.committed p false }) t
    t.modesUpdate
  else s

/-- DELTA_APPLY (R372): with no item of the target in flight the records are applied in one cycle, the measurement is extended
and admission resumes. -/
def deltaApply (s : State) : State :=
  let p := s.f Fld.bootDeltaStatus_target
  if s.f Fld.bootDeltaStatus_state ≠ 3 ∨ s.isHeld ∨ s.saveState ≠ 0 ∨ s.idlePart p = false then s
  else
    let d : Dir := s.boot.deltaDir
    let free := fun (t : State) => t.setPart p { t.part p with paused := false }
    match s.applySection (.part p) (3 + p) s.boot.deltaSection with
    | none => ((free s).generic Blk.boot (some p) Reg.bootDeltaStatus p BRes.badFormat).deltaEnd 5 BRes.badFormat
    | some t =>
      let t := (t.extend (3 + p) (d.digest (3 + p))).markDiverged p false
      ((free (t.deltaRuns d)).rejoin).deltaEnd 4 BRes.ok

/-- TRANSIT_DELTA_APPLY (R373): the slot loads of a transit delta, with no pause. -/
def transitDeltaApply (s : State) : State :=
  if s.f Fld.bootDeltaStatus_state ≠ 2 ∨ s.f Fld.bootDeltaStatus_target ≠ 4 ∨ s.boot.newDir = [] ∨ s.isHeld ∨ s.saveState ≠ 0 then s
  else
    let d : Dir := s.boot.deltaDir
    match s.applySection .transit 7 s.boot.deltaSection with
    | none => (s.generic Blk.boot none Reg.bootDeltaStatus 4 BRes.badFormat).deltaEnd 5 BRes.badFormat
    | some t => ((t.extend 7 (d.digest 7)).deltaRuns d).deltaEnd 4 BRes.ok

/-! ### Firmware update (R374 to R376) -/

/-- The update ends in FAILED with a result. -/
def State.updateFail (s : State) (r : Nat) : State :=
  let t := (s.put Fld.bootUpdateStatus_phase 7).put Fld.bootUpdateStatus_result r
  t.setBoot { t.boot with seqUse := none, keptImage := [], updateStaged := [] }

/-- BOOT_UPDATE_GO (R374): VERIFY begins, unless the sequencer is held. -/
def bootUpdateGo (w : Writer) (go : Bool) (s : State) : State :=
  s.regWrite w Reg.bootUpdateGo (if go then 2 ^ 31 else 0) (fun s =>
    if go = false then s
    else if s.serving = false then s.badWrite Reg.bootUpdateGo (2 ^ 31)
    else if s.boot.seqUse = some .update then s.put Fld.bootUpdateStatus_result BRes.busy
    else if s.boot.seqUse.isSome then (s.put Fld.bootUpdateStatus_phase 7).put Fld.bootUpdateStatus_result BRes.busy
    else
      let t := ((s.put Fld.bootUpdateStatus_phase 1).put Fld.bootUpdateStatus_result 0).put Fld.bootUpdateStatus_written_kib 0
      t.setBoot { t.boot with seqUse := some .update })

/-- The staged image's directory, and whether the image passes R365 with a generation above the running one. -/
def State.updateCheck (s : State) : Except Nat Dir :=
  match chooseDir s.fuses s.stageRead with
  | none => .error ((Dir.check (dirAt s.stageRead 0) s.fuses).getD BRes.badFormat)
  | some (_, d) =>
    match d.checkSections s.fuses s.stageRead with
    | some r => .error r
    | none => if d.generation ≤ Dir.generation s.boot.runDir then .error BRes.rollback else .ok d

/-- The bytes of staged sections as they stand, kept for WRITE. -/
def stagedImage (rd : ImgReader) (d : Dir) : List (Nat × Byte) :=
  (sectionBytes rd d).foldl (fun m e => Sparse.putAll norD m e.1 e.2) []

/-- WRITE: sections, then the directory into the lower-generation copy (R375).  fault 0 none, 1 in a section, 2 in the
directory. -/
def State.updateWrite (s : State) (fault : Nat) : State :=
  let d : Dir := s.boot.newDir
  let secs := sectionBytes (fun a n => Sparse.getAll norD s.boot.updateStaged a n) d
  let total := (secs.map (fun e => e.2.length)).foldl (· + ·) 0
  if fault = 1 then
    let t := secs.foldl (fun (t : State) e => (t.norWrite e.1 (freeBytes t e.2.length)).useFresh e.2.length) s
    t.updateFail BRes.norError
  else
    let t := secs.foldl (fun (t : State) e => t.norWrite e.1 e.2) s
    let copyAt := 0x10000 * (1 - s.boot.runCopy)
    if fault = 2 then ((t.norWrite copyAt (freeBytes t d.length)).useFresh d.length).updateFail BRes.norError
    else ((t.norWrite copyAt d).put Fld.bootUpdateStatus_written_kib (ceilDiv (total + d.length) 1024)).put Fld.bootUpdateStatus_phase 3

/-- ACTIVATE_FAILED (R376): the kept image returns to NOR, its directory at the new generation plus 1. -/
def State.updateRevert (s : State) : State :=
  let g := Dir.generation s.boot.newDir + 1
  let d : Dir := s.boot.runDir.take 8 ++ toLE 8 g ++ s.boot.runDir.drop 16
  let t := s.setBoot { s.boot with nor := s.boot.keptImage }
  let t := t.norWrite (0x10000 * (1 - s.boot.runCopy)) d
  ((t.setBoot { t.boot with runDir := d, runCopy := 1 - s.boot.runCopy }).wr Reg.bootGeneration g).updateFail BRes.activateFailed

/-- DONE: measurement 1, the fused version, the clear entry, and what takes effect only at the next reset (R374, R375). -/
def State.updateDone (s : State) : State :=
  let d : Dir := s.boot.newDir
  let old : Dir := s.boot.runDir
  let differs := s.flag Fld.bootStatus_reset_pending || [2, 3, 4, 5, 6].any (fun t => d.digest t != old.digest t)
  let t := s.extend 1 (d.digest 1)
  let t := if d.commitSvn then t.raiseSvn d.svn else t
  let t := if d.clearLedger then t.setKeep (t.keep.write ⟨5, 0, 0, t.keep.seq, t.now⟩) else t
  let n := s.boot.partitions
  let t := (t.runImage (1 - s.boot.runCopy) d).putB Fld.bootStatus_reset_pending differs
  let t := (t.put Fld.bootUpdateStatus_phase 6).put Fld.bootUpdateStatus_result BRes.ok
  t.setBoot { t.boot with partitions := n, seqUse := none, keptImage := [], updateStaged := [], newDir := [] }

/-- UPDATE_PHASE_END (R375): the phase under way ends.  outcome 0: well; else 1 or 2, the NOR fault of WRITE, or a half whose
heartbeat and self-check failed. -/
def updatePhaseEnd (outcome : Nat) (s : State) : State :=
  let ph := s.f Fld.bootUpdateStatus_phase
  if s.boot.seqUse ≠ some .update ∨ s.isHeld ∨ s.saveState ≠ 0 then s
  else if ph = 1 then
    match s.updateCheck with
    | .error r => s.updateFail r
    | .ok d => (s.put Fld.bootUpdateStatus_phase 2).setBoot
        { s.boot with newDir := d, updateStaged := stagedImage s.stageRead d, keptImage := s.boot.nor }
  else if ph = 2 then s.updateWrite outcome
  else if ph = 3 then (if outcome = 0 then s.put Fld.bootUpdateStatus_phase 4 else s.updateRevert)
  else if ph = 4 then
    ((s.put Fld.bootStatus_lead 1).put Fld.bootUpdateStatus_phase 5).setBoot { s.boot with renewedAt := s.now }
  else if ph = 5 then (if outcome = 0 then s.updateDone else s.updateRevert)
  else s

/-! ### Recovery over HP (R377, R378) -/

/-- Send on QP2 of recovery mode. -/
def State.recoverySend (s : State) (imm : Option Nat) (data : List Byte) : State := s.request 2 (.send 2 imm data) data.length 0

/-- RECOVERY_HELLO: a SEND-only to QP2 with PSN 0; body: magic, host QPN, host starting PSN, nonce.  QP2 binds to the source,
and OFFER answers. -/
def recoveryHello (body : List Byte) (s : State) : State :=
  if s.stage ≠ 7 ∨ s.hpUp = false ∨ s.boot.recovery.isSome ∨ body.length ≠ 32 ∨ fieldLE body 0 4 ≠ 0x52435652 then s
  else
    let qpn := fieldLE body 4 4 % 2 ^ 24
    let psn := fieldLE body 8 4 % 2 ^ 24
    let nonce := (body.drop 12).take 8
    let r := s.random
    let key := r.2 % 2 ^ 32
    let t := r.1.setBoot { r.1.boot with recovery := some ⟨qpn, psn, nonce, s.now⟩, windowKey := key }
    let t := ((t.put (Fld.hostQpCfg_state 2) 1).put (Fld.hostQpCfg_remote_qpn 2) qpn).put (Fld.hostQpPsn_recv_psn 2) psn
    let f := s.fuses
    (t.emit (.ack 2 0)).recoverySend none (nonce ++ toLE 8 f.serial ++ toLE 1 f.svn ++ toLE 1 f.ownerValid ++ toLE 1 f.ownerRevoked ++ toLE 1 0 ++
      toLE 4 key ++ toLE 8 0x4000000)

/-- QP2 is bound to nobody. -/
def State.recoveryUnbind (s : State) : State :=
  ((s.setBoot { s.boot with recovery := none }).put (Fld.hostQpCfg_state 2) 0).setQp 2 (qpD 2)

/-- The image in the window, n bytes of it, under the checks of R365: the directory, or the result that refuses it. -/
def State.recoveryCheck (s : State) (n : Nat) : Option Nat :=
  let m := s.boot.window.filter (fun e => decide (e.1 < n))
  let rd : ImgReader := fun a k => Sparse.getAll (fun _ => 0#8) m a k
  match chooseDir s.fuses rd with
  | none => some ((Dir.check (dirAt rd 0) s.fuses).getD BRes.badFormat)
  | some (_, d) => d.checkSections s.fuses rd

/-- The window's first n bytes over the NOR. -/
def State.windowToNor (s : State) (n : Nat) : State :=
  let kept := s.boot.nor.filter (fun e => decide (n ≤ e.1))
  let zeroes := (List.range n).filterMap (fun a =>
    let b := Sparse.get (fun _ => 0#8) s.boot.window a
    if b = 0xFF#8 then none else some (a, b))
  s.setBoot { s.boot with nor := zeroes ++ kept }

/-- A NOR write of n bytes that failed: what they hold is free. -/
def State.norFree (s : State) (n : Nat) : State :=
  let kept := s.boot.nor.filter (fun e => decide (n ≤ e.1))
  let bs := (List.range n).filterMap (fun a => let b := Config.freeByte (s.fresh + a); if b = 0xFF#8 then none else some (a, b))
  (s.setBoot { s.boot with nor := bs ++ kept }).useFresh n

/-- RECOVERY_COMMIT: body nonce and image bytes.  DONE answers with the result; on OK the NOR has been written and the device
resets itself 10 ms later.  norOk: the NOR takes the image. -/
def recoveryCommit (psn : Nat) (body : List Byte) (norOk : Bool) (s : State) : State :=
  match s.boot.recovery with
  | none => s
  | some b =>
    if s.stage ≠ 7 ∨ s.hpUp = false ∨ body.length ≠ 16 ∨ psn ≠ s.f (Fld.hostQpPsn_recv_psn 2) ∨ s.boot.recoveryAt.isSome then s
    else
      let n := min (fieldLE body 8 8) 0x4000000
      let t := ((s.takePsn 2 1).emit (.ack 2 psn)).setBoot { s.boot with recovery := some { b with lastUsed := s.now } }
      if body.take 8 ≠ b.nonce then t.recoverySend (some BRes.nonce) []
      else
        match s.recoveryCheck n with
        | some r => t.recoverySend (some r) []
        | none =>
          if norOk then
            let t := t.windowToNor n
            (t.setBoot { t.boot with recoveryAt := some s.now }).recoverySend (some BRes.ok) []
          else (t.norFree n).recoverySend (some BRes.norError) []

/-- RECOVERY_IDLE: bound and idle for 10 s. -/
def recoveryIdle (s : State) : State :=
  match s.boot.recovery with
  | some b => if s.stage = 7 ∧ 4750000000 + b.lastUsed ≤ s.now then s.recoveryUnbind else s
  | none => s

/-- RECOVERY_RESET: 10 ms after a DONE with OK the device resets itself. -/
def recoveryReset (s : State) : State :=
  match s.boot.recoveryAt with
  | some t => if 4750000 + t ≤ s.now then s.resetDevice else s
  | none => s

end Sys2Proof.Machine
end

