-- ==== Sys2Proof/Machine/Sec.lean ====
section
/-!
DEFINITION. Owner keys, SM4 keys and attestation (R379 to R385).
-/
namespace Sys2Proof.Machine

def State.setFuses (s : State) (f : Fuses) : State := { s with fuses := f }

/-- A command ends (R383, R384): its result, a new nonce whatever it is. -/
def State.secDone (s : State) (r : Nat) : State :=
  let t := (s.put Fld.secCmdStatus_state 2).put Fld.secCmdStatus_result r
  let x := t.random
  x.1.wr Reg.secCmdNonce x.2

/-- The 272 bytes of the block at an offset of the staging region, in units of 4 KiB. -/
def State.secBlock (s : State) (off : Nat) : List Byte := s.stageRead (4096 * off) 272

def blkCommand (b : List Byte) : Nat := fieldLE b 2 1
def blkTarget (b : List Byte) : Nat := fieldLE b 3 1
def blkSigner (b : List Byte) : Nat := fieldLE b 4 1
def blkPayload (b : List Byte) : List Byte := (b.drop 0x18).take 113
def blkPub (b : List Byte) : List Byte := (b.drop 0x90).take 64

/-- Whether owner slot k is valid and not revoked (R382). -/
def Fuses.slotGood (f : Fuses) (k : Nat) : Bool := testBit f.ownerValid k && !testBit f.ownerRevoked k

/-- The refusals common to every command (R384), in its order; none: the block stands. -/
def State.secCheck (s : State) (b : List Byte) : Option Nat :=
  let f := s.fuses
  let k := blkSigner b
  if fieldLE b 0 2 ≠ 1 ∨ (if blkCommand b ≤ 2 then 3 else 15) < blkTarget b then some BRes.badFormat
  else if fieldLE b 8 8 ≠ f.serial ∨ fieldLE b 0x10 8 ≠ s.rd Reg.secCmdNonce then some BRes.nonce
  else if k = 0xFF then
    if blkCommand b ≠ 1 ∨ (List.range 4).any (fun i => testBit f.ownerValid i) then some BRes.keyRevoked
    else if Config.sm2Verify (blkPub b) (b.take 0xD0) (b.drop 0xD0) then none else some BRes.badSignature
  else if 3 < k ∨ Config.sm3 (blkPub b) ≠ f.ownerHash.getD k [] ∨ f.slotGood k = false then some BRes.keyRevoked
  else if Config.sm2Verify (blkPub b) (b.take 0xD0) (b.drop 0xD0) then none else some BRes.badSignature


/-- A fuse word with one more bit blown: a blown bit stays blown. -/
def fuseBit (v i : Nat) : Nat := v ||| 2 ^ i

/-- OWNER_PROGRAM's effect: the hash is blown into an empty slot; a revoked one cannot be programmed again (R382). -/
def State.ownerProgram (s : State) (b : List Byte) : State :=
  let k := blkTarget b
  let f := s.fuses
  if testBit f.ownerRevoked k then s.secDone BRes.keyRevoked
  else if testBit f.ownerValid k then s.secDone BRes.badFormat
  else
    let hashes := (List.range 4).map (fun i => if i = k then (blkPayload b).take 32 else f.ownerHash.getD i [])
    ((s.setFuses { f with ownerHash := hashes, ownerValid := fuseBit f.ownerValid k }).showFuses).secDone BRes.ok

/-- OWNER_REVOKE's effect: refused where it would leave no valid unrevoked slot (R384). -/
def State.ownerRevoke (s : State) (b : List Byte) : State :=
  let k := blkTarget b
  if (List.range 4).all (fun i => i == k || !s.fuses.slotGood i) then s.secDone BRes.lastKey
  else ((s.setFuses { s.fuses with ownerRevoked := fuseBit s.fuses.ownerRevoked k }).showFuses).secDone BRes.ok

/-- Fill or empty an SM4 key slot and show it (R385). -/
def State.setKey (s : State) (k : Nat) (key : List Byte) : State :=
  let t := s.setSec { s.sec with keys := Sparse.put (fun _ => []) s.sec.keys k key }
  t.putB ⟨Reg.secStatus, 16 + k, 1⟩ (!key.isEmpty)

/-- KEY_LOAD's effect: the ciphertext opened under the identity key. -/
def State.keyLoad (s : State) (b : List Byte) : State :=
  match Config.sm2Decrypt (blkPayload b) with
  | some key => if key.length = 16 then (s.setKey (blkTarget b) key).secDone BRes.ok else s.secDone BRes.badFormat
  | none => s.secDone BRes.badFormat

/-- A write of SEC_CMD_GO for a command code and its effect. -/
def State.secGo (s : State) (w : Writer) (off : Nat) (go : Bool) (eff : State → List Byte → State) : State :=
  let v := off % 2 ^ 14 + (if go then 2 ^ 31 else 0)
  s.regWrite w Reg.secCmdGo v (fun s =>
    if go = false then s
    else if s.serving = false then s.badWrite Reg.secCmdGo v
    else if s.boot.seqUse.isSome then s.secDone BRes.busy
    else
      match s.secCheck (s.secBlock (off % 2 ^ 14)) with
      | some r => s.secDone r
      | none => eff s (s.secBlock (off % 2 ^ 14)))

/-- The write is the row's where the staged block names its command. -/
def State.secRow (s : State) (code off : Nat) : Bool := blkCommand (s.secBlock (off % 2 ^ 14)) == code

/-- OWNER_PROGRAM (R384). -/
def ownerProgram (w : Writer) (off : Nat) (go : Bool) (s : State) : State :=
  if s.secRow 1 off then s.secGo w off go State.ownerProgram else s

/-- OWNER_REVOKE (R384). -/
def ownerRevoke (w : Writer) (off : Nat) (go : Bool) (s : State) : State :=
  if s.secRow 2 off then s.secGo w off go State.ownerRevoke else s

/-- KEY_LOAD (R385). -/
def keyLoad (w : Writer) (off : Nat) (go : Bool) (s : State) : State :=
  if s.secRow 3 off then s.secGo w off go State.keyLoad else s

/-- KEY_CLEAR (R383). -/
def keyClear (w : Writer) (off : Nat) (go : Bool) (s : State) : State :=
  if s.secRow 4 off then s.secGo w off go (fun t b => (t.setKey (blkTarget b) []).secDone BRes.ok) else s

/-- A write of SEC_CMD_GO whatever its block's command; a block of no known command is refused for its format. -/
def secCommand (w : Writer) (off : Nat) (go : Bool) (s : State) : State :=
  if s.secRow 1 off then ownerProgram w off go s
  else if s.secRow 2 off then ownerRevoke w off go s
  else if s.secRow 3 off then keyLoad w off go s
  else if s.secRow 4 off then keyClear w off go s
  else s.regWrite w Reg.secCmdGo (off % 2 ^ 14 + (if go then 2 ^ 31 else 0)) (fun s =>
    if go = false then s
    else if s.serving = false then s.badWrite Reg.secCmdGo (off % 2 ^ 14 + 2 ^ 31)
    else s.secDone (if s.boot.seqUse.isSome then BRes.busy else BRes.badFormat))

/-! ### Attestation (R381) -/

/-- SEC_ATTEST_GO: a report is asked for with the nonce as written; valid clears. -/
def secAttestGo (w : Writer) (go : Bool) (s : State) : State :=
  s.regWrite w Reg.secAttestGo (if go then 2 ^ 31 else 0) (fun s =>
    if go then
      let nonce := (List.range 4).flatMap (fun i => toLE 8 (s.rd (Reg.secAttestNonce i)))
      let t := s.setSec { s.sec with attestNonce := nonce }
      (t.put Fld.secAttestStatus_valid 0).put Fld.secAttestStatus_busy 1
    else s)

/-- The report's bytes but the signature. -/
def State.reportBody (s : State) : List Byte :=
  let d : Dir := s.boot.runDir
  let diverged := (List.range 4).any (fun p => s.flag ⟨Reg.bootStatus, 9 + p, 1⟩)
  toLE 2 1 ++ toLE 1 ((if diverged then 1 else 0) + 2 * s.f Fld.bootStatus_reset_pending) ++ toLE 1 s.boot.partitions ++ toLE 1 0xB0 ++
  toLE 1 (s.f Fld.secStatus_signer) ++ toLE 2 0 ++ toLE 8 (s.fuses.serial % 2 ^ 40) ++ toLE 4 s.fuses.svn ++ toLE 4 0 ++
  padTo 32 s.sec.attestNonce ++ (List.range 8).flatMap s.measurement ++ toLE 8 d.generation ++ toLE 8 (s.rd Reg.bootFwVersion) ++
  toLE 8 (s.sec.reports + 1) ++ toLE 112 0

/-- ATTEST_REPORT_READY: the lead writes the signed report and sets valid. -/
def attestReportReady (s : State) : State :=
  if s.flag Fld.secAttestStatus_busy = false ∨ s.isHeld ∨ s.saveState ≠ 0 then s
  else
    let b := s.reportBody
    let r := b ++ padTo 64 (Config.sm2Sign b)
    let t := (List.range 64).foldl (fun t j => t.wr (Reg.secReportWord j) (fieldLE r (8 * j) 8)) s
    let t := t.setSec { t.sec with reports := t.sec.reports + 1 }
    (t.put Fld.secAttestStatus_busy 0).put Fld.secAttestStatus_valid 1

end Sys2Proof.Machine
end

