-- ==== Sys2Proof/Machine/ExecBoot.lean ====
section
/-!
DEFINITION. Meanings of the reset, start-up, delta, update, recovery and trust commands (chapters 14 and 16).
-/
namespace Sys2Proof.Machine

/-- KEEP_AREA_RESTORE (R348). channels: the flash channels with a populated target, by bit; blockBytes: SLC capacity
of an erase block; flashBytes: what the rest of the flash holds. -/
def execKeepAreaRestore (channels : Fin 256) (blockBytes : Nat) (flashBytes : Nat) (s : State) : Out :=
  State.unlessReset s (keepAreaRestore channels blockBytes flashBytes)

/-- RESET_ASSERT (R408). resetN: by RESET_N, else by PWRGOOD. -/
def execResetAssert (resetN : Bool) (s : State) : Out :=
  .next (resetAssert resetN s)

/-- RESET_RELEASE (R408). straps: BOOT_STRAPS as sampled; ready: the conditions of R408 hold; claims: the boot ROM of
CPP claims the lease. -/
def execResetRelease (straps : Fin 32) (ready : Bool) (claims : Bool) (s : State) : Out :=
  .next (resetRelease straps ready claims s)

/-- REFCLK_STOP (R412). -/
def execRefclkStop (s : State) : Out :=
  .next (refclkStop s)

/-- SDREF_LOSS (R412). cantle: the reference of Cantle, else that of Pommel. -/
def execSdrefLoss (cantle : Bool) (s : State) : Out :=
  .next (sdrefLoss cantle s)

/-- LEASE_GRANT_TIMEOUT (R367). -/
def execLeaseGrantTimeout (s : State) : Out :=
  State.unlessReset s (leaseGrantTimeout)

/-- NOR_READ_DONE (R368). -/
def execNorReadDone (s : State) : Out :=
  State.unlessReset s (norReadDone)

/-- HBM_TRAINING_DONE (R369). channels: those that failed training three times; arrays: those that failed self-test;
dies: compute dies whose cinch failed self-test, by bit; other: another self-test failed. -/
def execHbmTrainingDone (channels : List (Fin 512)) (arrays : List (Fin 4)) (dies : Fin 16) (other : Bool) (s : State) : Out :=
  State.unlessReset s (hbmTrainingDone (channels.map Fin.val) (arrays.map Fin.val) dies other)

/-- STARTUP_READY (R368). -/
def execStartupReady (s : State) : Out :=
  State.unlessReset s (startupReady)

/-- BOOT_DELTA_GO (R371). go: the written go bit. -/
def execBootDeltaGo (w : Writer) (go : Bool) (s : State) : Out :=
  State.unlessReset s (bootDeltaGo w go)

/-- DELTA_APPLY (R372). -/
def execDeltaApply (s : State) : Out :=
  State.unlessReset s (deltaApply)

/-- TRANSIT_DELTA_APPLY (R373). -/
def execTransitDeltaApply (s : State) : Out :=
  State.unlessReset s (transitDeltaApply)

/-- BOOT_UPDATE_GO (R374). go: the written go bit. -/
def execBootUpdateGo (w : Writer) (go : Bool) (s : State) : Out :=
  State.unlessReset s (bootUpdateGo w go)

/-- UPDATE_PHASE_END (R375). outcome 0: the phase ended well; 1 or 2: the NOR fault of WRITE, or the half that failed
its check. -/
def execUpdatePhaseEnd (outcome : Fin 3) (s : State) : Out :=
  State.unlessReset s (updatePhaseEnd outcome)

/-- RECOVERY_HELLO (R378). body: the bytes of the SEND. -/
def execRecoveryHello (body : List Byte) (s : State) : Out :=
  State.unlessReset s (recoveryHello body)

/-- RECOVERY_COMMIT (R378). body: the bytes of the SEND; norOk: the NOR takes the image. -/
def execRecoveryCommit (psn : BitVec 24) (body : List Byte) (norOk : Bool) (s : State) : Out :=
  State.unlessReset s (recoveryCommit psn.toNat body norOk)

/-- RECOVERY_IDLE (R378). -/
def execRecoveryIdle (s : State) : Out :=
  State.unlessReset s (recoveryIdle)

/-- RECOVERY_RESET (R378). -/
def execRecoveryReset (s : State) : Out :=
  State.unlessReset s (recoveryReset)

/-- OWNER_PROGRAM (R384). off: offset of the staged command; go: the written go bit. -/
def execOwnerProgram (w : Writer) (off : Fin 16384) (go : Bool) (s : State) : Out :=
  State.unlessReset s (ownerProgram w off go)

/-- OWNER_REVOKE (R384). off: offset of the staged command; go: the written go bit. -/
def execOwnerRevoke (w : Writer) (off : Fin 16384) (go : Bool) (s : State) : Out :=
  State.unlessReset s (ownerRevoke w off go)

/-- KEY_LOAD (R385). off: offset of the staged command; go: the written go bit. -/
def execKeyLoad (w : Writer) (off : Fin 16384) (go : Bool) (s : State) : Out :=
  State.unlessReset s (keyLoad w off go)

/-- KEY_CLEAR (R383). off: offset of the staged command; go: the written go bit. -/
def execKeyClear (w : Writer) (off : Fin 16384) (go : Bool) (s : State) : Out :=
  State.unlessReset s (keyClear w off go)

/-- SEC_ATTEST_GO (R381). go: the written go bit. -/
def execSecAttestGo (w : Writer) (go : Bool) (s : State) : Out :=
  State.unlessReset s (secAttestGo w go)

/-- ATTEST_REPORT_READY (R381). -/
def execAttestReportReady (s : State) : Out :=
  State.unlessReset s (attestReportReady)

/-- DELTA_NOR_WRITTEN (R372). fault 0: section and directory are programmed and the section reads back right; 1 the
section's programming failed, 2 the directory's, 3 the read-back. -/
def execDeltaNorWritten (fault : Fin 4) (s : State) : Out :=
  State.unlessReset s (deltaNorWritten fault)

/-- JTAG_INSTRUCTION (R415). i: the instruction loaded. -/
def execJtagInstruction (i : Fin 6) (s : State) : Out :=
  .next (jtagInstruction i s)

end Sys2Proof.Machine
end

