-- ==== Sys2Proof/Machine/ExecContract.lean ====
section
/-!
DEFINITION. Meanings of the contract's commands: doorbells, queues, admission, retirement, ladder and step records (chapters 2 and 8).
-/
namespace Sys2Proof.Machine

/-- WQ_TAIL_WRITE (R20). -/
def execWqTailWrite (w : Writer) (n : Fin 64) (v : Word32) (s : State) : Out :=
  State.unlessReset s (wqTailWrite w n v.toNat)

/-- WQ_BASE_WRITE (R45). -/
def execWqBaseWrite (w : Writer) (n : Fin 64) (v : Word64) (s : State) : Out :=
  State.unlessReset s (wqBaseWrite w n v.toNat)

/-- WQ_ENABLE (R45). -/
def execWqEnable (w : Writer) (n : Fin 64) (v : Word32) (s : State) : Out :=
  State.unlessReset s (wqEnable w n v.toNat)

/-- WQ_DISABLE (R45). -/
def execWqDisable (w : Writer) (n : Fin 64) (v : Word32) (s : State) : Out :=
  State.unlessReset s (wqDisable w n v.toNat)

/-- CQ_ENABLE (R40). -/
def execCqEnable (w : Writer) (n : Fin 69) (v : Word64) (s : State) : Out :=
  State.unlessReset s (cqEnable w n v.toNat)

/-- CQ_DISABLE (R41). -/
def execCqDisable (w : Writer) (n : Fin 69) (v : Word64) (s : State) : Out :=
  State.unlessReset s (cqDisable w n v.toNat)

/-- CQ_HEAD_WRITE (R41). -/
def execCqHeadWrite (w : Writer) (n : Fin 64) (v : Word32) (s : State) : Out :=
  State.unlessReset s (cqHeadWrite w n v.toNat)

/-- DEPCTR_WRITE (R29). -/
def execDepctrWrite (w : Writer) (n : Fin 16384) (v : Word32) (s : State) : Out :=
  State.unlessReset s (depctrWrite w n v.toNat)

/-- ABORT_REQ (R33). -/
def execAbortReq (w : Writer) (wq : Fin 64) (tag : Word32) (cq : Fin 64) (s : State) : Out :=
  State.unlessReset s (abortReq w wq tag.toNat cq)

/-- ABORT_SAFE_POINT (R34). -/
def execAbortSafePoint (slot : Fin 4096) (s : State) : Out :=
  State.unlessReset s (abortSafePoint slot)

/-- ADMIT_ITEM (R23). -/
def execAdmitItem (p : Fin 4) (slot : Fin 4096) (s : State) : Out :=
  State.unlessReset s (admitItem p slot)

/-- ITEM_RETIRE (R32). -/
def execItemRetire (slot : Fin 4096) (s : State) : Out :=
  State.unlessReset s (itemRetire slot)

/-- LADDER_RISE (R195). i: the ladder entry; the oldest instance of its layer. -/
def execLadderRise (p : Fin 4) (i : Fin 1024) (s : State) : Out :=
  State.unlessReset s (ladderRiseAt p i)

/-- LADDER_INSTANCE_CLOSE (R194). i: the ladder entry; the oldest instance of its layer. -/
def execLadderInstanceClose (p : Fin 4) (i : Fin 1024) (s : State) : Out :=
  State.unlessReset s (ladderInstanceClose p i)

/-- LADDER_RUNG_WRITE (R197). i: the ladder entry. -/
def execLadderRungWrite (p : Fin 4) (i : Fin 1024) (v : Byte) (s : State) : Out :=
  State.unlessReset s (ladderRungWrite p i v.toNat)

/-- STEP_RECORD_WRITE (R201). -/
def execStepRecordWrite (p : Fin 4) (s : State) : Out :=
  State.unlessReset s (stepRecordWrite p)

/-- REPLAY_ENABLE (R202). -/
def execReplayEnable (w : Writer) (n : Fin 4) (v : Word64) (s : State) : Out :=
  State.unlessReset s (replayEnable w n v.toNat)

/-- RNG_SEED_WRITE (R205). -/
def execRngSeedWrite (w : Writer) (n : Fin 4) (v : Word64) (s : State) : Out :=
  State.unlessReset s (rngSeedWrite w n v.toNat)

end Sys2Proof.Machine
end

