-- ==== Sys2Proof/Machine/ExecEngines.lean ====
section
/-!
DEFINITION. Meanings of the tile engines' commands: faults and the spare engine (chapter 5).
-/
namespace Sys2Proof.Machine

/-- VECTOR_FAULT (R126). parity: a register-file parity fault, else a residue fault. -/
def execVectorFault (e : Fin 64) (parity : Bool) (s : State) : Out :=
  State.unlessReset s (vectorFault e parity)

/-- TILE_STORE_ECC_ERROR (R104). addr: byte address in the tile store; corrected: a single-bit error; owner 0 the
operation of slot, 1 a prefetched tile, 2 the awl buffer of tile l of the MATMUL in slot. -/
def execTileStoreEcc (e : Fin 64) (addr : Fin 8388608) (corrected : Bool) (owner : Fin 3) (slot : Fin 4096) (l : Nat) (s : State) : Out :=
  State.unlessReset s (tileStoreEcc e addr corrected owner slot l)

/-- TE_SPARE_CTRL (R127). cs: the compute stack. -/
def execTeSpareCtrl (w : Writer) (cs : Fin 4) (v : Word32) (s : State) : Out :=
  State.unlessReset s fun s => s.regWrite w (Reg.teSpareCtrl cs) v.toNat (teSpareCtrl cs v.toNat)

/-- CE_LIMIT_EXCEEDED (R127). -/
def execCeLimitExceeded (e : Fin 64) (s : State) : Out :=
  State.unlessReset s (ceLimitExceeded e)

/-- SPARE_SELF_TEST_DONE (R127). ok: the self-test passed. -/
def execSpareSelfTestDone (cs : Fin 4) (ok : Bool) (s : State) : Out :=
  State.unlessReset s (spareSelfTestDone cs ok)

/-- SPARE_COPY_DONE (R127). -/
def execSpareCopyDone (cs : Fin 4) (s : State) : Out :=
  State.unlessReset s (spareCopyDone cs)

/-- SPARE_CUTOVER (R127). -/
def execSpareCutover (cs : Fin 4) (s : State) : Out :=
  State.unlessReset s (spareCutover cs)

end Sys2Proof.Machine
end

