-- ==== Sys2Proof/Machine/ControlSpace.lean ====
section
/-!
DEFINITION. Control space as a whole (R5 to R7, R359, R418 to R422): a write of any register, and a read of any register with
what it clears.
-/
namespace Sys2Proof.Machine

/-! ### Writes -/

/-- Offsets of the event log's window: 64 bytes per slot, read-only. -/
def isLog (off : Nat) : Bool := decide (0x400000 ≤ off) && decide (off < 0x600000)

/-- A register whose write is its fields' access codes and nothing else. -/
def State.plainWrite (s : State) (w : Writer) (off v : Nat) : State := s.regWrite w off v (fun t => t.writeFields off v)

/-- A register whose write is taken only while a condition holds. -/
def State.plainWriteIf (s : State) (w : Writer) (off v : Nat) (ok : State → Bool) : State :=
  s.regWrite w off v (fun t => if ok t then t.writeFields off v else t.badWrite off v)

/-- HOST_QP_CFG_q: the moves of R353; any other write of it is ignored with an event. -/
def State.qpCfgWrite (s : State) (w : Writer) (q v : Nat) : State :=
  if bits v 0 2 = 1 then qpToReady w q v s
  else if bits v 0 2 = 0 then qpToReset w q v s
  else s.regWrite w (Reg.hostQpCfg q) v (fun t => t.badWrite (Reg.hostQpCfg q) v)

/-- EVREC_CLEAR: bits go, all and pinned (R397). -/
def State.evrecClearWrite (s : State) (w : Writer) (v : Nat) : State :=
  if testBit v 1 then evrecClearAll w (testBit v 0) (testBit v 31) s
  else if testBit v 0 then evrecClearPinned w (testBit v 31) s
  else if s.mayClear w then s else s.badWrite Reg.evrecClear v

/-- SNAP_RESTORE_GO (R311): by the source in SNAP_RESTORE_SRC. -/
def State.restoreGoWrite (s : State) (w : Writer) (v : Nat) : State :=
  s.regWrite w Reg.snapRestoreGo v (fun t =>
    let p := bits v 0 2
    let c := bits v 8 14
    if testBit v 31 = false then t
    else
      match t.f Fld.snapRestoreSrc_source with
      | 0 => restoreSaddle w p c t
      | 1 => restoreFlash w p c t
      | 2 => restoreRemote w p c t
      | _ => restoreTwin w p c t)

/-- SNAP_EVALWIN_CTRL_n: refused clears by writing one; enable as R318 gives. -/
def State.evalwinWrite (s : State) (w : Writer) (n v : Nat) : State :=
  let t := s.regWrite w (Reg.snapEvalwinCtrl n) v (fun t => if testBit v 1 then t.put (Fld.snapEvalwinCtrl_refused n) 0 else t)
  if s.mayWrite w (Reg.snapEvalwinCtrl n) = false then t
  else if testBit v 0 then evalwinEnable w n t else evalwinDisable w n t

/-- Dies whose detectors or path fail a CINCH_TEST: the part's own outcome. -/
def State.cinchFails (s : State) : Nat := ((List.range 4).map (fun d => if Config.selfTest d s.now then 2 ^ d else 0)).foldl (· + ·) 0

/-- Writes of block 0x00 to 0x02. -/
def State.writeCtl (s : State) (w : Writer) (base i off v : Nat) : State :=
  if base = Reg.abortReq then s.regWrite w off v (fun t => abortReq w (bits v 0 6) (bits v 32 32) (bits v 8 6) t)
  else if base = Reg.rngSeed 0 then rngSeedWrite w i v s
  else if base = Reg.ladderBase 0 then s.plainWriteIf w off v (fun t => t.f (Fld.ladderCfg_open i) == 0)
  else if base = Reg.replay 0 then replayEnable w i v s
  else if base = Reg.nqCfg 0 then (if testBit v 24 then cqEnable w (64 + i) v s else cqDisable w (64 + i) v s)
  else if base = Reg.nqHead 0 then s.regWrite w off v (fun t => (State.drainNotices (t.cq (64 + i)).notices.length (t.writeFields off v) (64 + i)))
  else if base = Reg.wqBase 0 then wqBaseWrite w i v s
  else if base = Reg.wqCfg 0 then (if testBit v 0 then wqEnable w i v s else wqDisable w i v s)
  else if base = Reg.wqTail 0 then wqTailWrite w i v s
  else if base = Reg.cqCfg 0 then (if testBit v 24 then cqEnable w i v s else cqDisable w i v s)
  else if base = Reg.cqHead 0 then cqHeadWrite w i v s
  else if base = Reg.depctr 0 then depctrWrite w i v s
  else s.plainWrite w off v

/-- Writes of blocks 0x03 to 0x06. -/
def State.writeCompute (s : State) (w : Writer) (base i off v : Nat) : State :=
  if base = Reg.strmOpenCfg then (if s.mayWriteS w then strmOpen w v s else s.badWrite off v)
  else if base = Reg.strmClose then (if s.mayWriteS w then strmClose w v s else s.badWrite off v)
  else if base = Reg.strmRingTail then s.regWrite w off v (strmRingTail w v)
  else if base = Reg.strmResync then s.regWrite w off v (strmResync w v)
  else if base = Reg.aryCtrl 0 then s.regWrite w off v (fun t => (t.writeFields off v).arrUpdate i)
  else if base = Reg.aryRepairReq 0 then s.regWrite w off v (aryRepairReq i v)
  else if base = Reg.aryInject 0 then s.regWrite w off v (aryInject i v)
  else if base = Reg.teSpareCtrl 0 then s.regWrite w off v (teSpareCtrl i v)
  else s.plainWrite w off v

/-- Writes of blocks 0x07 to 0x0E. -/
def State.writeMiddle (s : State) (w : Writer) (base i off v : Nat) : State :=
  if base = Reg.hsmMapoutReq then s.regWrite w off v (writeMapoutReq w v)
  else if base = Reg.hsmMapoutAck then s.regWrite w off v (writeMapoutAck w v)
  else if base = Reg.hsmRetrainReq then s.regWrite w off v (writeRetrainReq w v)
  else if base = Reg.hsmTest 0 then s.regWrite w off v (writeHsmTest w i v)
  else if base = Reg.lnkCtrl 0 then s.regWrite w off v (fun t => t.lnkCtrl i v)
  else if base = Reg.reinCap then reinCapWrite w v s
  else if base = Reg.cinchCtrl then (if testBit v 0 then cinchEnable w v s else cinchDisable w v s)
  else if base = Reg.cinchTest then cinchTest w (testBit v 31) s.cinchFails s
  else if base = Reg.thmSaveTest then thmSaveTest w (testBit v 31) s
  else if base = Reg.evrecClear then s.evrecClearWrite w v
  else s.plainWrite w off v

/-- Writes of blocks 0x0F to 0x13. -/
def State.writeLast (s : State) (w : Writer) (base i off v : Nat) : State :=
  if base = Reg.bootDeltaGo then bootDeltaGo w (testBit v 31) s
  else if base = Reg.bootUpdateGo then bootUpdateGo w (testBit v 31) s
  else if base = Reg.secCmdGo then secCommand w (bits v 0 14) (testBit v 31) s
  else if base = Reg.secAttestGo then secAttestGo w (testBit v 31) s
  else if base = Reg.hostMr0 0 then mrWrite w i 0 v s
  else if base = Reg.hostMr1 0 then mrWrite w i 1 v s
  else if base = Reg.hostQpCfg 0 then s.qpCfgWrite w i v
  else if base = Reg.hostQpPsn 0 then s.plainWriteIf w off v (fun t => decide (i ≠ 0) && t.f (Fld.hostQpCfg_state i) == 0)
  else if base = Reg.snapPinCmd then (if testBit v 0 then snapPin w (testBit v 31) s else snapUnpin w (testBit v 31) s)
  else if base = Reg.snapRestoreGo then s.restoreGoWrite w v
  else if base = Reg.snapCountFloor 0 then snapCountFloorWrite w i v s
  else if base = Reg.snapMode 0 then s.regWrite w off v (fun t => (t.writeFields off v).modeUpdate i)
  else if base = Reg.snapHandback 0 then handbackGoWrite w i v s
  else if base = Reg.snapEvalwinBase 0 then s.plainWriteIf w off v (fun t => !t.flag (Fld.snapEvalwinCtrl_enable i))
  else if base = Reg.snapEvalwinLimit 0 then s.plainWriteIf w off v (fun t => !t.flag (Fld.snapEvalwinCtrl_enable i))
  else if base = Reg.snapEvalwinCtrl 0 then s.evalwinWrite w i v
  else s.plainWrite w off v

/-- A write of the whole register at an offset: refused by its scope, for a reserved encoding, or where no register is (R419,
R420), else with its effect. -/
def State.writeReg (s : State) (w : Writer) (off v : Nat) : State :=
  match regAt off with
  | none => if isLog off then (if s.writerDevice w then s else s.badWrite off v) else s.badWrite off v
  | some r =>
    let i := r.index off
    let v := v % 2 ^ r.width
    if off < 0x30000 then s.writeCtl w r.base i off v
    else if off < 0x70000 then s.writeCompute w r.base i off v
    else if off < 0xF0000 then s.writeMiddle w r.base i off v
    else s.writeLast w r.base i off v

/-- REGISTER_WRITE (R420). -/
def registerWrite (w : Writer) (off v : Nat) (s : State) : State := s.writeReg w off v

/-! ### Reads -/

/-- Word j of a log slot as the SRAM returns it; a slot with an uncorrectable error returns free bits past its seq (R398). -/
def State.logWord (s : State) (k j : Nat) : Nat :=
  match s.recSlot k with
  | none => 0
  | some r => if r.sramBad ∧ 1 ≤ j then (Config.freeWord (r.seq * 8 + j)).toNat else fieldLE r.toBytes (8 * j) 8

/-- A slot of a partition that did not start: once start-up is over its reads return reset values and change nothing (R424). -/
def State.deadRead (s : State) (off : Nat) : Bool := s.stage == 6 && s.deadSlot off

/-- The value a read of the register at an offset returns: write-only fields and unassigned offsets read as zero. -/
def State.readValue (s : State) (off : Nat) : Nat :=
  if isLog off then s.logWord ((off - 0x400000) / 64) ((off - 0x400000) / 8 % 8)
  else
    match regAt off with
    | none => 0
    | some r =>
      if r.base = Reg.strmCtxWord 0 then fieldLE (s.ctx (s.f Fld.strmCtxSel_ctx)).toBytes (8 * r.index off) 8
      else if off = Reg.redGroupInfo then
        match s.grp (s.f Fld.redGroupSel_group) with
        | some g => g.job + (g.n - 1) * 2 ^ 16 + g.self * 2 ^ 28 + 2 ^ 40 + (if g.jobLost.isEmpty then 0 else 2 ^ 41) + (g.stragglerUs % 2 ^ 22) * 2 ^ 42
        | none => 0
      else if s.deadRead off then regDefault off
      else s.rd off

/-- What a read changes: RC fields clear (R5); an error of the log's SRAM is counted once for its record (R398). -/
def State.readEffect (s : State) (off : Nat) : State :=
  if isLog off then
    let k := (off - 0x400000) / 64
    match s.recSlot k with
    | some r =>
      if r.sramBad ∧ r.counted = false ∧ 1 ≤ (off - 0x400000) / 8 % 8 then
        (s.setRec { s.recorder with slots := Sparse.put recD s.recorder.slots k (some { r with counted := true }) }).bumpSat Fld.evrecStatus_damaged 1
      else s
    | none => s
  else
    match regAt off with
    | none => s
    | some r => if s.deadRead off then s else r.fields.foldl (fun t f => if f.acc == .rc then t.put ⟨off, f.lo, f.width⟩ 0 else t) s

/-- READ_CLEAR (R5): a read of a register by a control processor returns its value and clears what it returned. -/
def readClear (off : Nat) (s : State) : State :=
  let v := s.readValue off
  let t := s.readEffect off
  t.setReadData (BitVec.ofNat 64 v)

/-- UNASSIGNED_OFFSET_ACCESS (R419): a write is ignored with an event, a read returns zero. -/
def unassignedAccess (off : Nat) (write : Option Nat) (s : State) : State :=
  if (regAt off).isSome || isLog off then s
  else
    match write with
    | some v => s.badWrite off v
    | none => s.setReadData 0

end Sys2Proof.Machine
end

