-- ==== Sys2Proof/Machine/HostAccess.lean ====
section
/-!
DEFINITION. RDMA accesses of the host through memory keys (R357 to R360, R377): control space, the staging region, HBM, and
the recovery window.
-/
namespace Sys2Proof.Machine

/-- The memory entry a key names, where its tag matches and it is valid (R357, R358). -/
def State.entryOf (s : State) (key : Nat) : Option Nat :=
  let k := key % 256
  if s.f (Fld.hostMr2_tag k) = key / 256 ∧ s.flag (Fld.hostMr0_valid k) ∧ s.stage = 6 then some k else none

/-- An access within an entry's range, with the right it needs, by a queue pair that may use it (R358). -/
def State.entryAllows (s : State) (q k addr n : Nat) (write : Bool) : Bool :=
  decide (s.rd (Reg.hostMr0 k) / 4096 * 4096 ≤ addr) && decide (addr + n ≤ s.rd (Reg.hostMr1 k) / 4096 * 4096) &&
  s.flag (if write then Fld.hostMr0_write k else Fld.hostMr0_read k) &&
  (if k < 2 then s.flag (Fld.hostQpCfg_control q)
   else s.flag (Fld.hostQpCfg_device q) || s.f (Fld.hostQpCfg_partition q) == s.f (Fld.hostMr0_partition k))

/-- A refusal of R358: counted, and answered with remote access error. -/
def State.accessNak (s : State) (q psn : Nat) : State := (s.bumpSat Fld.hostErr_rkey 1).emit (.nak q psn .remoteAccess)

/-- A partial access of a register (R359): counted, with an event. -/
def State.partialAccess (s : State) (off : Nat) : State := (s.bumpSat Fld.hostErr_partial 1).generic Blk.host none off 0 0

/-- The 8-byte slots a run of control space touches: slot offset, first byte taken and count. -/
def slotsOf (addr n : Nat) : List (Nat × Nat × Nat) :=
  (List.range (ceilDiv (addr + n) 8 - addr / 8)).map (fun i =>
    let off := (addr / 8 + i) * 8
    let lo := max addr off
    let hi := min (addr + n) (off + 8)
    (off, lo - off, hi - lo))

/-- Bytes of a register's slot that make it up: 4 or 8. -/
def regBytes (off : Nat) : Nat := match regAt off with | some r => r.width / 8 | none => 8

/-- One slot of a control-space write: the register whole, or nothing of it (R359, R418, R419). -/
def State.writeSlot (s : State) (q : Nat) (e : Nat × Nat × Nat) (data : List Byte) : State :=
  let v := ofLE data
  if (regAt e.1).isNone && !isLog e.1 then s.badWrite e.1 v
  else if e.2.1 = 0 ∧ regBytes e.1 ≤ e.2.2 then s.writeReg (.qp (Fin.ofNat 2048 q)) e.1 v
  else if regBytes e.1 = 4 then s
  else s.partialAccess e.1

/-- A control-space write, slot by slot in ascending address order. -/
def State.writeSpace (s : State) (q : Nat) : List (Nat × Nat × Nat) → List Byte → State
  | [], _ => s
  | e :: es, data => (s.writeSlot q e (data.take e.2.2)).writeSpace q es (data.drop e.2.2)

/-- One slot of a control-space read: its bytes; a register read whole clears its RC fields. -/
def State.readSlot (s : State) (e : Nat × Nat × Nat) : State × List Byte :=
  let b := ((toLE 8 (s.readValue e.1)).drop e.2.1).take e.2.2
  if e.2.1 = 0 ∧ regBytes e.1 ≤ e.2.2 then (s.readEffect e.1, b)
  else if (regAt e.1).isNone && !isLog e.1 then (s, b)
  else if regBytes e.1 = 4 then (s, b)
  else (s.partialAccess e.1, b)

/-- A control-space read, slot by slot. -/
def State.readSpace (s : State) : List (Nat × Nat × Nat) → State × List Byte
  | [] => (s, [])
  | e :: es =>
    let r := s.readSlot e
    let u := r.1.readSpace es
    (u.1, r.2 ++ u.2)

/-- HBM the entry's partition owns, neither foreign nor lost (R358). -/
def State.entryOwns (s : State) (k addr n : Nat) : Bool := s.ownsRange (s.f (Fld.hostMr0_partition k)) addr n

/-- The last PSN of a request of n bytes that begins at psn. -/
def State.lastPsn (s : State) (psn n : Nat) : Nat := (psn + s.packetsOf n - 1) % 2 ^ 24

/-- The write itself, once its packets are in turn: none where R358 refuses it; HBM under a save takes no access, so the
request stays unanswered and the sender repeats it. -/
def State.hostWrite (s : State) (q key addr : Nat) (data : List Byte) : Except Bool State :=
  let n := data.length
  if s.stage = 7 then
    if q = 2 ∧ key = s.boot.windowKey ∧ s.boot.recovery.isSome ∧ addr + n ≤ 0x4000000 then
      .ok (s.setBoot { s.boot with window := Sparse.putAll (fun _ => 0#8) s.boot.window addr data,
                                   recovery := s.boot.recovery.map (fun b => { b with lastUsed := s.now }) })
    else .error true
  else
    match s.entryOf key with
    | none => .error true
    | some k =>
      if s.entryAllows q k addr n true = false then .error true
      else if k = 0 then
        if addr % 4 = 0 ∧ n % 4 = 0 then .ok (s.writeSpace q (slotsOf addr n) data) else .error true
      else if s.saveState ≠ 0 then .error false
      else if k = 1 then .ok (State.guardRungs s ((s.store addr data).countRemote addr n))
      else if s.entryOwns k addr n = false then .error true
      else
        let p := s.f (Fld.hostMr0_partition k)
        if s.inWindow p addr n then .error true
        else .ok (State.guardRungs s ((s.store addr data).countRemote addr n))

/-- The refused write fell in the evaluation window, which records EV-0x0A05 (R317). -/
def State.windowHit (s : State) (q key addr n : Nat) : State :=
  match s.entryOf key with
  | some k =>
    let p := s.f (Fld.hostMr0_partition k)
    if 2 ≤ k ∧ s.entryAllows q k addr n true ∧ s.entryOwns k addr n ∧ s.inWindow p addr n then s.evalWinEvent p 1 q addr else s
  | none => s

/-- INCOMING_RDMA_WRITE (R352, R358 to R360): a whole WRITE message; icrc: its ICRCs check; ce: marked congestion-experienced. -/
def incomingRdmaWrite (q psn key addr : Nat) (data : List Byte) (icrc ce : Bool) (s : State) : State :=
  if s.hpUp = false then s
  else if icrc = false then s.bumpSat Fld.hostErr_bad_icrc 1
  else
    let a := s.arrive q psn ce
    let t := a.1
    match a.2 with
    | .dropped => t
    | .ahead => t.emit (.nak q (t.f (Fld.hostQpPsn_recv_psn q)) .sequence)
    | .again => t.emit (.ack q (t.lastPsn psn data.length))
    | .next =>
      if data.isEmpty then (t.takePsn q 1).emit (.ack q psn)
      else
        match t.hostWrite q key addr data with
        | .ok u => (u.takePsn q (t.packetsOf data.length)).emit (.ack q (t.lastPsn psn data.length))
        | .error true => (t.windowHit q key addr data.length).accessNak q psn
        | .error false => t

/-- The answer to a READ of HBM: up to the packet that would carry a byte of a poisoned sector, then remote operational error
at that packet's PSN and the generic HOST event of the sector (R358). -/
def State.readHbm (s : State) (q psn addr n : Nat) : State :=
  match (List.range (ceilDiv (addr + n) 32 - addr / 32)).find? (fun i => s.poisonedAt ((addr / 32 + i) * 32)) with
  | none => (s.emit (.readResp q psn (s.bytes addr n))).countRemote addr n
  | some i =>
    let sector := (addr / 32 + i) * 32
    let k := (max addr sector - addr) / s.mtu
    let t := if k = 0 then s else (s.emit (.readResp q psn (s.bytes addr (k * s.mtu)))).countRemote addr (k * s.mtu)
    (t.emit (.nak q ((psn + k) % 2 ^ 24) .remoteOperational)).generic Blk.host none sector 0 0

/-- The read once in turn, or as a repeat (which reads again and changes no register). -/
def State.hostRead (s : State) (q psn key addr n : Nat) (again : Bool) : Option State :=
  match s.entryOf key with
  | none => none
  | some k =>
    if s.entryAllows q k addr n false = false then none
    else if k = 0 then
      if addr % 4 = 0 ∧ n % 4 = 0 then
        let r := s.readSpace (slotsOf addr n)
        some ((if again then s else r.1).emit (.readResp q psn r.2))
      else none
    else if s.saveState ≠ 0 then some s
    else if s.entryOwns k addr n then some (s.readHbm q psn addr n) else none

/-- INCOMING_RDMA_READ (R352, R358, R359). -/
def incomingRdmaRead (q psn key addr n : Nat) (icrc ce : Bool) (s : State) : State :=
  if s.hpUp = false then s
  else if icrc = false then s.bumpSat Fld.hostErr_bad_icrc 1
  else
    let a := s.arrive q psn ce
    let t := a.1
    let waits : Bool := match t.entryOf key with | some k => decide (1 ≤ k) && decide (t.saveState ≠ 0) | none => false
    match a.2 with
    | .dropped => t
    | .ahead => t.emit (.nak q (t.f (Fld.hostQpPsn_recv_psn q)) .sequence)
    | .again =>
      if n = 0 then t.emit (.readResp q psn [])
      else match t.hostRead q psn key addr n true with | some u => u | none => t.accessNak q psn
    | .next =>
      if n = 0 then (t.takePsn q 1).emit (.readResp q psn [])
      else if waits then t
      else
        match t.hostRead q psn key addr n false with
        | some u => u.takePsn q (t.packetsOf n)
        | none => t.accessNak q psn

end Sys2Proof.Machine
end

