-- ==== Sys2Proof/Machine/ExecHost.lean ====
section
/-!
DEFINITION. Meanings of the host port's commands (chapter 14).
-/
namespace Sys2Proof.Machine

/-- ARP_REQUEST (R351). fromMac and fromIp: the asker; target: the address asked for. -/
def execArpRequest (fromMac : BitVec 48) (fromIp : Word32) (target : Word32) (s : State) : Out :=
  State.unlessReset s (arpRequest fromMac.toNat fromIp.toNat target.toNat)

/-- NEIGHBOUR_SOLICITATION (R351). fromMac and fromIp: the asker; target: the address asked for; IPv6 addresses as 16
bytes. -/
def execNeighbourSolicitation (fromMac : BitVec 48) (fromIp : List Byte) (target : List Byte) (s : State) : Out :=
  State.unlessReset s (neighbourSolicitation fromMac.toNat fromIp target)

/-- NON_ROCE_FRAME (R351). -/
def execNonRoceFrame (s : State) : Out :=
  State.unlessReset s (nonRoceFrame)

/-- INCOMING_SEND (R352). q: destination queue pair; ce: the frame was marked congestion-experienced. -/
def execIncomingSend (q : BitVec 24) (psn : BitVec 24) (ce : Bool) (s : State) : Out :=
  State.unlessReset s (incomingSend q.toNat psn.toNat ce)

/-- INCOMING_RDMA_WRITE (R358). q: destination queue pair; key: the R_Key; icrc: the invariant CRCs check; ce: marked
congestion-experienced. -/
def execIncomingRdmaWrite (q : BitVec 24) (psn : BitVec 24) (key : Word32) (addr : Word64) (data : List Byte) (icrc : Bool) (ce : Bool) (s : State) : Out :=
  State.unlessReset s (incomingRdmaWrite q.toNat psn.toNat key.toNat addr.toNat data icrc ce)

/-- INCOMING_RDMA_READ (R358). q: destination queue pair; key: the R_Key; icrc: the invariant CRC checks; ce: marked
congestion-experienced. -/
def execIncomingRdmaRead (q : BitVec 24) (psn : BitVec 24) (key : Word32) (addr : Word64) (len : Word32) (icrc : Bool) (ce : Bool) (s : State) : Out :=
  State.unlessReset s (incomingRdmaRead q.toNat psn.toNat key.toNat addr.toNat len.toNat icrc ce)

/-- READ_RESPONSE (R353). data: the whole response. -/
def execReadResponse (q : BitVec 24) (psn : BitVec 24) (data : List Byte) (s : State) : Out :=
  State.unlessReset s (readResponse q.toNat psn.toNat data)

/-- ACKNOWLEDGE (R353). nak: none for an ACK. -/
def execAcknowledge (q : BitVec 24) (psn : BitVec 24) (nak : Option NakKind) (s : State) : Out :=
  State.unlessReset s (acknowledgeCmd q.toNat psn.toNat nak)

/-- RETRANSMIT_TIMEOUT (R353). -/
def execRetransmitTimeout (q : Fin 2048) (s : State) : Out :=
  State.unlessReset s (retransmitTimeout q)

/-- CNP_RECEIVE (R354). -/
def execCnpReceive (q : BitVec 24) (s : State) : Out :=
  State.unlessReset s (cnpReceive q.toNat)

/-- RATE_INCREASE (R354). -/
def execRateIncrease (q : Fin 2048) (s : State) : Out :=
  State.unlessReset s (rateIncrease q)

/-- QP_TO_READY (R353). -/
def execQpToReady (w : Writer) (q : Fin 2048) (v : Word64) (s : State) : Out :=
  State.unlessReset s (qpToReady w q v.toNat)

/-- QP_TO_RESET (R353). -/
def execQpToReset (w : Writer) (q : Fin 2048) (v : Word64) (s : State) : Out :=
  State.unlessReset s (qpToReset w q v.toNat)

/-- MR_WRITE (R357). k: the memory region; half: its register A or B. -/
def execMrWrite (w : Writer) (k : Fin 256) (half : Fin 2) (v : Word64) (s : State) : Out :=
  State.unlessReset s (mrWrite w k half v.toNat)

/-- HP_LANE_LOSS (R350). -/
def execHpLaneLoss (s : State) : Out :=
  State.unlessReset s (hpLaneLoss)

/-- HP_BRINGUP_RETRY (R350). lock: the lanes lock. -/
def execHpBringupRetry (lock : Bool) (s : State) : Out :=
  State.unlessReset s (hpBringupRetry lock)

end Sys2Proof.Machine
end

