-- ==== Sys2Proof/Machine/ExecKernel.lean ====
section
/-!
DEFINITION. Meanings of the KERNEL instruction set: the next instruction of the current task of a tile engine (chapter 5).
-/
namespace Sys2Proof.Machine

/-- NOP (R123). -/
def execKNop (e : Fin 64) (s : State) : Out :=
  State.unlessReset s (insNop e)

/-- LD (R122). -/
def execKLd (e : Fin 64) (s : State) : Out :=
  State.unlessReset s (insLd e)

/-- ST (R122). -/
def execKSt (e : Fin 64) (s : State) : Out :=
  State.unlessReset s (insSt e)

/-- LDI (R119). -/
def execKLdi (e : Fin 64) (s : State) : Out :=
  State.unlessReset s (insLdi e)

/-- LDP (R123). -/
def execKLdp (e : Fin 64) (s : State) : Out :=
  State.unlessReset s (insLdp e)

/-- LDS (R123). -/
def execKLds (e : Fin 64) (s : State) : Out :=
  State.unlessReset s (insLds e)

/-- IDX (R123). -/
def execKIdx (e : Fin 64) (s : State) : Out :=
  State.unlessReset s (insIdx e)

/-- LDK (R123). -/
def execKLdk (e : Fin 64) (s : State) : Out :=
  State.unlessReset s (insLdk e)

/-- ADD (R118). -/
def execKAdd (e : Fin 64) (s : State) : Out :=
  State.unlessReset s (insAdd e)

/-- SUB (R118). -/
def execKSub (e : Fin 64) (s : State) : Out :=
  State.unlessReset s (insSub e)

/-- MUL (R118). -/
def execKMul (e : Fin 64) (s : State) : Out :=
  State.unlessReset s (insMul e)

/-- FMA (R118). -/
def execKFma (e : Fin 64) (s : State) : Out :=
  State.unlessReset s (insFma e)

/-- MIN (R118). -/
def execKMin (e : Fin 64) (s : State) : Out :=
  State.unlessReset s (insMin e)

/-- MAX (R118). -/
def execKMax (e : Fin 64) (s : State) : Out :=
  State.unlessReset s (insMax e)

/-- ABS (R123). -/
def execKAbs (e : Fin 64) (s : State) : Out :=
  State.unlessReset s (insAbs e)

/-- NEG (R123). -/
def execKNeg (e : Fin 64) (s : State) : Out :=
  State.unlessReset s (insNeg e)

/-- CLT (R118). -/
def execKClt (e : Fin 64) (s : State) : Out :=
  State.unlessReset s (insClt e)

/-- CLE (R118). -/
def execKCle (e : Fin 64) (s : State) : Out :=
  State.unlessReset s (insCle e)

/-- CEQ (R118). -/
def execKCeq (e : Fin 64) (s : State) : Out :=
  State.unlessReset s (insCeq e)

/-- CNE (R118). -/
def execKCne (e : Fin 64) (s : State) : Out :=
  State.unlessReset s (insCne e)

/-- SEL (R118). -/
def execKSel (e : Fin 64) (s : State) : Out :=
  State.unlessReset s (insSel e)

/-- AND (R123). -/
def execKAnd (e : Fin 64) (s : State) : Out :=
  State.unlessReset s (insAnd e)

/-- OR (R123). -/
def execKOr (e : Fin 64) (s : State) : Out :=
  State.unlessReset s (insOr e)

/-- XOR (R123). -/
def execKXor (e : Fin 64) (s : State) : Out :=
  State.unlessReset s (insXor e)

/-- FIN (R118). -/
def execKFin (e : Fin 64) (s : State) : Out :=
  State.unlessReset s (insFin e)

/-- EXP (R120). -/
def execKExp (e : Fin 64) (s : State) : Out :=
  State.unlessReset s (insExp e)

/-- LOG (R120). -/
def execKLog (e : Fin 64) (s : State) : Out :=
  State.unlessReset s (insLog e)

/-- RCP (R120). -/
def execKRcp (e : Fin 64) (s : State) : Out :=
  State.unlessReset s (insRcp e)

/-- RSQ (R120). -/
def execKRsq (e : Fin 64) (s : State) : Out :=
  State.unlessReset s (insRsq e)

/-- TANH (R120). -/
def execKTanh (e : Fin 64) (s : State) : Out :=
  State.unlessReset s (insTanh e)

/-- RSUM (R121). -/
def execKRsum (e : Fin 64) (s : State) : Out :=
  State.unlessReset s (insRsum e)

/-- RMAX (R121). -/
def execKRmax (e : Fin 64) (s : State) : Out :=
  State.unlessReset s (insRmax e)

/-- RMIN (R121). -/
def execKRmin (e : Fin 64) (s : State) : Out :=
  State.unlessReset s (insRmin e)

/-- CVT (R123). -/
def execKCvt (e : Fin 64) (s : State) : Out :=
  State.unlessReset s (insCvt e)

end Sys2Proof.Machine
end

