-- ==== Sys2Proof/Machine/ExecLinks.lean ====
section
/-!
DEFINITION. Meanings of the Adepin ports' commands (chapter 10).
-/
namespace Sys2Proof.Machine

/-- LANE_BAD (R245). l: the lane. -/
def execLaneBad (n : Fin 12) (l : Fin 16) (s : State) : Out :=
  State.unlessReset s (laneBad n l)

/-- RELANE_DONE (R245). -/
def execRelaneDone (n : Fin 12) (s : State) : Out :=
  State.unlessReset s (relaneDone n)

/-- LOCK_TIMEOUT (R245). -/
def execLockTimeout (n : Fin 12) (s : State) : Out :=
  State.unlessReset s (lockTimeout n)

/-- DATA_FLIT (R243). flit: the 256 bytes received; ue: they held an uncorrectable FEC error. -/
def execDataFlit (n : Fin 12) (flit : List Byte) (ue : Bool) (s : State) : Out :=
  State.unlessReset s (dataFlit n flit ue)

/-- IDLE_FLIT (R237). flit: the 256 bytes received; ue: they held an uncorrectable FEC error. -/
def execIdleFlit (n : Fin 12) (flit : List Byte) (ue : Bool) (s : State) : Out :=
  State.unlessReset s (idleFlit n flit ue)

/-- LINK_FLIT (R237). flit: the 256 bytes received; ue: they held an uncorrectable FEC error. -/
def execLinkFlit (n : Fin 12) (flit : List Byte) (ue : Bool) (s : State) : Out :=
  State.unlessReset s (linkFlit n flit ue)

/-- REPLAY_TIMEOUT (R243). -/
def execReplayTimeout (n : Fin 12) (s : State) : Out :=
  State.unlessReset s (replayTimeout n)

/-- ACK_TIMER (R243). -/
def execAckTimer (n : Fin 12) (s : State) : Out :=
  State.unlessReset s (ackTimer n)

/-- CREDIT_RETURN (R241). vc: the virtual channel. -/
def execCreditReturn (n : Fin 12) (vc : Fin 8) (s : State) : Out :=
  State.unlessReset s (creditReturn n vc)

/-- PACKET_START (R242). -/
def execPacketStart (n : Fin 12) (s : State) : Out :=
  State.unlessReset s (packetStart n)

/-- LINK_TRAINING_DONE (R251). lanes: the set that locked, by bit. -/
def execLinkTrainingDone (n : Fin 12) (lanes : Fin 65536) (s : State) : Out :=
  State.unlessReset s (linkTrainingDone n lanes)

/-- IDENT (R251). -/
def execIdent (n : Fin 12) (s : State) : Out :=
  State.unlessReset s (identUp n)

/-- BRINGUP_RETRY (R251). -/
def execBringupRetry (n : Fin 12) (s : State) : Out :=
  State.unlessReset s (bringupRetry n)

/-- BRINGUP_DEADLINE (R251). -/
def execBringupDeadline (n : Fin 12) (s : State) : Out :=
  State.unlessReset s (bringupDeadline n)

/-- LNK_FORCE_DOWN (R257). -/
def execLnkForceDown (w : Writer) (n : Fin 12) (s : State) : Out :=
  State.unlessReset s (lnkForceDown w n)

/-- LNK_RESTORE_LEGS (R260). -/
def execLnkRestoreLegs (w : Writer) (n : Fin 12) (s : State) : Out :=
  State.unlessReset s (lnkRestoreLegs w n)

/-- LNK_REWIDEN (R247). -/
def execLnkRewiden (w : Writer) (n : Fin 12) (s : State) : Out :=
  State.unlessReset s (lnkRewiden w n)

/-- REWIDEN_LOCK (R247). -/
def execRewidenLock (n : Fin 12) (s : State) : Out :=
  State.unlessReset s (rewidenLock n)

/-- REWIDEN_TIMEOUT (R247). -/
def execRewidenTimeout (n : Fin 12) (s : State) : Out :=
  State.unlessReset s (rewidenTimeout n)

/-- TRANSIT_PACKET (R254). -/
def execTransitPacket (n : Fin 12) (s : State) : Out :=
  State.unlessReset s (transitPacket n)

/-- JOB0_RELAY (R256). -/
def execJob0Relay (n : Fin 12) (s : State) : Out :=
  State.unlessReset s (job0Relay n)

/-- WRITE (R238). -/
def execWrite (n : Fin 12) (s : State) : Out :=
  State.unlessReset s (writePacket n)

/-- LEG_DOWN_NOTICE (R258). -/
def execLegDownNotice (n : Fin 12) (s : State) : Out :=
  State.unlessReset s (legDownNotice n)

/-- RESERVED_KIND_PACKET (R238). -/
def execReservedKindPacket (n : Fin 12) (s : State) : Out :=
  State.unlessReset s (reservedKindPacket n)

end Sys2Proof.Machine
end

