-- ==== Sys2Proof/Machine/ExecMemory.lean ====
section
/-!
DEFINITION. Meanings of the stacked memory's commands (chapter 9).
-/
namespace Sys2Proof.Machine

/-- PATROL_SCRUB (R211). find 0 no error, 1 a corrected one, 2 an uncorrectable one; demand: the sector that an operation read. -/
def execPatrolScrub (n : Fin 512) (find : Fin 3 × Option (Fin 75497472)) (s : State) : Out :=
  State.unlessReset s (patrolScrub n find.1 (find.2.map Fin.val))

/-- UE_LIMIT_EXCEEDED (R227). -/
def execUeLimitExceeded (n : Fin 512) (s : State) : Out :=
  State.unlessReset s (ueLimit n)

/-- HSM_RETRAIN_REQ (R226). -/
def execHsmRetrainReq (w : Writer) (v : Word32) (s : State) : Out :=
  State.unlessReset s fun s => s.regWrite w Reg.hsmRetrainReq v.toNat (writeRetrainReq w v.toNat)

/-- RETRAIN_TRIGGER (R226). byTemp: the stack temperature moved by retrain_delta; retries: interface retries in one
second; failed: the sector of an access whose fifth attempt failed. -/
def execRetrainTrigger (n : Fin 512) (byTemp : Bool) (retries : Nat × Option (Fin 75497472)) (s : State) : Out :=
  State.unlessReset s (retrainTrigger n byTemp retries.1 (retries.2.map Fin.val))

/-- CHANNEL_RETRAIN (R226). -/
def execChannelRetrain (n : Fin 512) (s : State) : Out :=
  State.unlessReset s (channelRetrain n)

/-- RETRAIN_END (R226). ok: training succeeded. -/
def execRetrainEnd (n : Fin 512) (ok : Bool) (s : State) : Out :=
  State.unlessReset s (retrainEnd n ok)

/-- HSM_MAPOUT_REQ (R227). -/
def execHsmMapoutReq (w : Writer) (v : Word32) (s : State) : Out :=
  State.unlessReset s fun s => s.regWrite w Reg.hsmMapoutReq v.toNat (writeMapoutReq w v.toNat)

/-- HSM_MAPOUT_ACK (R229). -/
def execHsmMapoutAck (w : Writer) (v : Word32) (s : State) : Out :=
  State.unlessReset s fun s => s.regWrite w Reg.hsmMapoutAck v.toNat (writeMapoutAck w v.toNat)

/-- MAPOUT_CUTOVER (R229). h: the HBM stack. -/
def execMapoutCutover (h : Fin 16) (s : State) : Out :=
  State.unlessReset s (mapoutCutover h)

/-- HSM_TEST (R225). -/
def execHsmTest (w : Writer) (n : Fin 512) (v : Word64) (s : State) : Out :=
  State.unlessReset s fun s => s.regWrite w (Reg.hsmTest n) v.toNat (writeHsmTest w n v.toNat)

/-- HSM_TEST_DONE (R225). -/
def execHsmTestDone (n : Fin 512) (errors : Word32) (s : State) : Out :=
  State.unlessReset s (hsmTestDone n errors.toNat)

end Sys2Proof.Machine
end

