-- ==== Sys2Proof/Machine/ExecOperations.lean ====
section
/-!
DEFINITION. Meanings of the operations at their issue (chapter 2 and the chapters that describe each operation).
-/
namespace Sys2Proof.Machine

/-- MATMUL (R88). -/
def execMatmul (slot : Fin 4096) (s : State) : Out :=
  State.unlessReset s (opMatmul slot)

/-- KERNEL (R113). -/
def execKernel (slot : Fin 4096) (s : State) : Out :=
  State.unlessReset s (opKernel slot)

/-- MOVE (R214). -/
def execMove (slot : Fin 4096) (s : State) : Out :=
  State.unlessReset s (opMove slot)

/-- COPY (R216). -/
def execCopy (slot : Fin 4096) (s : State) : Out :=
  State.unlessReset s (opCopy slot)

/-- REDUCE_ADD (R215). -/
def execReduceAdd (slot : Fin 4096) (s : State) : Out :=
  State.unlessReset s (opReduceAdd slot)

/-- TRANSPOSE (R143). -/
def execTranspose (slot : Fin 4096) (s : State) : Out :=
  State.unlessReset s (opTranspose slot)

/-- EXPAND_E2M1 (R218). -/
def execExpandE2m1 (slot : Fin 4096) (s : State) : Out :=
  State.unlessReset s (opExpand slot)

/-- COLMAX (R219). -/
def execColmax (slot : Fin 4096) (s : State) : Out :=
  State.unlessReset s (opColmax slot)

/-- APPLY (R222). -/
def execApply (slot : Fin 4096) (s : State) : Out :=
  State.unlessReset s (opApply slot)

/-- TRAFFIC_TEST (R225). errors, first, pass, actual: what the memory itself answered: the mismatches counted, the place of
the first among the sectors tested, the pass that met it, and the 8 bytes read there. -/
def execTrafficTest (slot : Fin 4096) (errors : Word64) (first : Word64) (pass : Word64) (actual : Word64) (s : State) : Out :=
  State.unlessReset s (opTrafficTest slot errors.toNat first.toNat pass.toNat actual.toNat)

/-- REDUCE_SCATTER (R266). -/
def execReduceScatter (slot : Fin 4096) (s : State) : Out :=
  State.unlessReset s (opReduceScatter slot)

/-- ALL_GATHER (R266). -/
def execAllGather (slot : Fin 4096) (s : State) : Out :=
  State.unlessReset s (opAllGather slot)

/-- ALL_REDUCE (R266). -/
def execAllReduce (slot : Fin 4096) (s : State) : Out :=
  State.unlessReset s (opAllReduce slot)

/-- FENCE_QUEUE (R27). -/
def execFenceQueue (slot : Fin 4096) (s : State) : Out :=
  State.unlessReset s (fenceQueue slot)

/-- FENCE_PARTITION (R27). -/
def execFencePartition (slot : Fin 4096) (s : State) : Out :=
  State.unlessReset s (fencePartition slot)

/-- FENCE_STEP_CLOSE (R36). -/
def execFenceStepClose (slot : Fin 4096) (s : State) : Out :=
  State.unlessReset s (fenceStepClose slot)

/-- SNAPSHOT (R302). -/
def execSnapshot (slot : Fin 4096) (s : State) : Out :=
  State.unlessReset s (opSnapshot slot)

/-- SHIP (R310). -/
def execShip (slot : Fin 4096) (s : State) : Out :=
  State.unlessReset s (opShip slot)

/-- MARK (R24). -/
def execMark (slot : Fin 4096) (s : State) : Out :=
  State.unlessReset s (opMark slot)

end Sys2Proof.Machine
end

