-- ==== Sys2Proof/Machine/ExecPower.lean ====
section
/-!
DEFINITION. Meanings of the power, cinch, thermal and save commands (chapter 13).
-/
namespace Sys2Proof.Machine

/-- REIN_TICK (R328). -/
def execReinTick (s : State) : Out :=
  State.unlessReset s (reinTick)

/-- TELEMETRY_WINDOW (R327). rails: the readings of the 14 rails in mV, 0.25 A and °C; none where a rail gave no valid
reading. -/
def execTelemetryWindow (rails : List (Option (Nat × Nat × Nat))) (s : State) : Out :=
  State.unlessReset s (telemetryWindow rails)

/-- FREQUENCY_STEP (R330). -/
def execFrequencyStep (s : State) : Out :=
  State.unlessReset s (frequencyStep)

/-- REIN_CAP_WRITE (R326). -/
def execReinCapWrite (w : Writer) (v : Word32) (s : State) : Out :=
  State.unlessReset s (reinCapWrite w v.toNat)

/-- CINCH_TRIP (R333). det: the detector of that die. -/
def execCinchTrip (die : Fin 4) (det : Fin 256) (s : State) : Out :=
  State.unlessReset s (cinchTrip die det)

/-- DROOP_N_ASSERT (R324). rails: the VCORE rails more than 30 mV below their setpoints, by bit. -/
def execDroopNAssert (rails : Fin 16) (s : State) : Out :=
  State.unlessReset s (droopNAssert rails)

/-- CINCH_ESCALATE (R334). -/
def execCinchEscalate (s : State) : Out :=
  State.unlessReset s (cinchEscalate)

/-- CINCH_CLEAR (R334). cycles: stretched cycles until all detectors cleared. -/
def execCinchClear (cycles : Nat) (s : State) : Out :=
  State.unlessReset s (cinchClear cycles)

/-- CINCH_TEST (R335). go: the written go bit; fails: the dies whose detectors or path failed, by bit. -/
def execCinchTest (w : Writer) (go : Bool) (fails : Fin 16) (s : State) : Out :=
  State.unlessReset s (cinchTest w go fails)

/-- CINCH_DISABLE (R335). -/
def execCinchDisable (w : Writer) (v : Word32) (s : State) : Out :=
  State.unlessReset s (cinchDisable w v.toNat)

/-- CINCH_ENABLE (R335). -/
def execCinchEnable (w : Writer) (v : Word32) (s : State) : Out :=
  State.unlessReset s (cinchEnable w v.toNat)

/-- MARGIN_CHECK (R336). dies: per compute die its least margin in ps, and whether it is short of the fused threshold.
-/
def execMarginCheck (dies : List (Nat × Bool)) (s : State) : Out :=
  State.unlessReset s (marginCheck dies)

/-- TEMPERATURE_READ (R337). dies: per compute stack its hottest compute-die reading, that sensor, and its hottest
base-die reading; temps: the temperature of each of the 16 HBM stacks. -/
def execTemperatureRead (dies : List (Nat × Nat × Nat)) (temps : List Nat) (s : State) : Out :=
  State.unlessReset s (temperatureRead dies temps)

/-- THERMAL_CAP_UPDATE (R337). -/
def execThermalCapUpdate (s : State) : Out :=
  State.unlessReset s (thermalCapUpdate)

/-- THERMAL_TRIP (R339). monitor: the monitor; die 0 to 3 a compute die, 4 to 7 a base die. -/
def execThermalTrip (monitor : Fin 256) (die : Fin 8) (s : State) : Out :=
  .next (thermalTrip monitor die s)

/-- HOLD_WARN_ASSERT (R342). -/
def execHoldWarnAssert (s : State) : Out :=
  .next (holdWarnAssert s)

/-- HOLD_WARN_GLITCH (R341). -/
def execHoldWarnGlitch (s : State) : Out :=
  .next (holdWarnGlitch s)

/-- SAVE_COMMIT (R343). -/
def execSaveCommit (s : State) : Out :=
  State.unlessReset s (saveCommit)

/-- HOLD_LOSS_ASSERT (R345). -/
def execHoldLossAssert (s : State) : Out :=
  .next (holdLossAssert s)

/-- RESUME (R344). moved: the HBM stacks whose temperature moved by retrain_delta during the pause. -/
def execResume (moved : List (Fin 16)) (s : State) : Out :=
  State.unlessReset s (resume (moved.map Fin.val))

/-- THM_SAVE_TEST (R347). go: the written go bit. -/
def execThmSaveTest (w : Writer) (go : Bool) (s : State) : Out :=
  State.unlessReset s (thmSaveTest w go)

/-- LEDGER_WRITE (R343). -/
def execLedgerWrite (s : State) : Out :=
  State.unlessReset s (ledgerWrite)

/-- SAVE_AREA_ERASE (R343). -/
def execSaveAreaErase (s : State) : Out :=
  State.unlessReset s (saveAreaErase)

/-- VAUX_LOSS (R339). -/
def execVauxLoss (s : State) : Out :=
  .next (vauxLoss s)

/-- TARGET_RAIL_VOLTAGE_ACK (R330). -/
def execTargetRailVoltageAck (die : Fin 4) (s : State) : Out :=
  State.unlessReset s (targetRailVoltageAck die)

end Sys2Proof.Machine
end

