-- ==== Sys2Proof/Machine/ExecRegisters.lean ====
section
/-!
DEFINITION. Meanings of the event recorder's commands and of the register accesses no other row names (chapters 15 and 17).
-/
namespace Sys2Proof.Machine

/-- EVENT_RECORD_WRITE (R398). bridge: the girth bridge carries Cantle's events. -/
def execEventRecordWrite (bridge : Bool) (s : State) : Out :=
  State.unlessReset s (eventRecordWrite bridge)

/-- INTAKE_LOST (R389). cantle: the intake of Cantle, else that of Pommel. -/
def execIntakeLost (cantle : Bool) (s : State) : Out :=
  State.unlessReset s (intakeLost cantle)

/-- SUPPRESSED (R395). code: the event code. -/
def execSuppressed (code : Fin 65536) (s : State) : Out :=
  State.unlessReset s (suppressed code)

/-- EVREC_CLEAR_PINNED (R397). go: the written bit. -/
def execEvrecClearPinned (w : Writer) (go : Bool) (s : State) : Out :=
  State.unlessReset s (evrecClearPinned w go)

/-- EVREC_CLEAR_ALL (R397). pinned: the pinned bit is written too; go: the written all bit. -/
def execEvrecClearAll (w : Writer) (pinned : Bool) (go : Bool) (s : State) : Out :=
  State.unlessReset s (evrecClearAll w pinned go)

/-- READ_CLEAR (R5). off: offset in control space. -/
def execReadClear (off : BitVec 24) (s : State) : Out :=
  State.unlessReset s (readClear off.toNat)

/-- REGISTER_WRITE (R420). off: offset in control space. -/
def execRegisterWrite (w : Writer) (off : BitVec 24) (v : Word64) (s : State) : Out :=
  State.unlessReset s (registerWrite w off.toNat v.toNat)

/-- UNASSIGNED_OFFSET_ACCESS (R419). off: offset in control space; v: the value written, none for a read. -/
def execUnassignedAccess (off : BitVec 24) (v : Option Word64) (s : State) : Out :=
  State.unlessReset s (unassignedAccess off.toNat (v.map BitVec.toNat))

end Sys2Proof.Machine
end

