-- ==== Sys2Proof/Machine/ExecRing.lean ====
section
/-!
DEFINITION. Meanings of the reduction ring's commands (chapter 11).
-/
namespace Sys2Proof.Machine

/-- ADDER_STAGE (R272). n: the adder. -/
def execAdderStage (n : Fin 12) (s : State) : Out :=
  State.unlessReset s (adderStage n)

/-- ENTRY (R267). -/
def execEntry (n : Fin 12) (s : State) : Out :=
  State.unlessReset s (ringEntryMarker n)

/-- FOLD (R271). -/
def execFold (n : Fin 12) (s : State) : Out :=
  State.unlessReset s (ringFold n)

/-- GATHER (R266). -/
def execGather (n : Fin 12) (s : State) : Out :=
  State.unlessReset s (ringGather n)

/-- HEADERS (R266). -/
def execHeaders (n : Fin 12) (s : State) : Out :=
  State.unlessReset s (ringHeaders n)

/-- DELIVER (R265). -/
def execDeliver (n : Fin 12) (s : State) : Out :=
  State.unlessReset s (ringDeliver n)

/-- REPORT (R284). -/
def execReport (n : Fin 12) (s : State) : Out :=
  State.unlessReset s (ringReport n)

/-- RESTART (R284). -/
def execRestart (n : Fin 12) (s : State) : Out :=
  State.unlessReset s (ringRestart n)

/-- FIN_MARKER (R268). -/
def execFinMarker (n : Fin 12) (s : State) : Out :=
  State.unlessReset s (ringFin n)

/-- RETIRE (R268). -/
def execRetire (n : Fin 12) (s : State) : Out :=
  State.unlessReset s (ringRetire n)

/-- FATAL (R285). -/
def execFatal (n : Fin 12) (s : State) : Out :=
  State.unlessReset s (ringFatalMarker n)

/-- STRAGGLER_DEADLINE (R282). gid: the group. -/
def execStragglerDeadline (gid : Fin 65536) (s : State) : Out :=
  State.unlessReset s (stragglerDeadline gid)

end Sys2Proof.Machine
end

