-- ==== Sys2Proof/Machine/ExecSnapshot.lean ====
section
/-!
DEFINITION. Meanings of the snapshot, restore, window and lease commands (chapter 12).
-/
namespace Sys2Proof.Machine

/-- SNAPSHOT_QUIESCED (R303). -/
def execSnapshotQuiesced (p : Fin 4) (s : State) : Out :=
  State.unlessReset s (snapshotQuiesced p)

/-- SNAPSHOT_SEAL (R303). -/
def execSnapshotSeal (p : Fin 4) (s : State) : Out :=
  State.unlessReset s (snapshotSeal p)

/-- DRAIN_COMPLETE (R307). i: 4 times the partition, plus the saddlebag slot. -/
def execDrainComplete (i : Fin 16) (s : State) : Out :=
  State.unlessReset s (drainComplete i)

/-- SHIP_END (R310). -/
def execShipEnd (slot : Fin 4096) (s : State) : Out :=
  State.unlessReset s (shipEnd slot)

/-- RESTORE_SADDLE (R311). ctr: the dependency counter to signal. -/
def execRestoreSaddle (w : Writer) (p : Fin 4) (ctr : Fin 16384) (s : State) : Out :=
  State.unlessReset s (restoreSaddle w p ctr)

/-- RESTORE_FLASH (R311). ctr: the dependency counter to signal. -/
def execRestoreFlash (w : Writer) (p : Fin 4) (ctr : Fin 16384) (s : State) : Out :=
  State.unlessReset s (restoreFlash w p ctr)

/-- RESTORE_REMOTE (R311). ctr: the dependency counter to signal. -/
def execRestoreRemote (w : Writer) (p : Fin 4) (ctr : Fin 16384) (s : State) : Out :=
  State.unlessReset s (restoreRemote w p ctr)

/-- RESTORE_TWIN (R315). ctr: the dependency counter to signal. -/
def execRestoreTwin (w : Writer) (p : Fin 4) (ctr : Fin 16384) (s : State) : Out :=
  State.unlessReset s (restoreTwin w p ctr)

/-- RESTORE_PHASE_END (R314). -/
def execRestorePhaseEnd (s : State) : Out :=
  State.unlessReset s (restorePhaseEnd)

/-- SNAP_PIN (R307). go: the written go bit. -/
def execSnapPin (w : Writer) (go : Bool) (s : State) : Out :=
  State.unlessReset s (snapPin w go)

/-- SNAP_UNPIN (R307). go: the written go bit. -/
def execSnapUnpin (w : Writer) (go : Bool) (s : State) : Out :=
  State.unlessReset s (snapUnpin w go)

/-- SNAP_COUNT_FLOOR_WRITE (R309). -/
def execSnapCountFloorWrite (w : Writer) (n : Fin 4) (v : Word32) (s : State) : Out :=
  State.unlessReset s (snapCountFloorWrite w n v.toNat)

/-- EVALWIN_ENABLE (R318). -/
def execEvalwinEnable (w : Writer) (n : Fin 4) (s : State) : Out :=
  State.unlessReset s (evalwinEnable w n)

/-- EVALWIN_DISABLE (R318). -/
def execEvalwinDisable (w : Writer) (n : Fin 4) (s : State) : Out :=
  State.unlessReset s (evalwinDisable w n)

/-- LEASE_RENEWAL (R319). -/
def execLeaseRenewal (s : State) : Out :=
  State.unlessReset s (leaseRenewal)

/-- LEASE_RENEWAL_MISSED (R319). cause 0 both control processors claim, 1 Pommel saw no renewal for 10 µs, 2 Cantle
saw none. -/
def execLeaseRenewalMissed (cause : Fin 3) (s : State) : Out :=
  State.unlessReset s (leaseRenewalMissed cause)

end Sys2Proof.Machine
end

