-- ==== Sys2Proof/Machine/ExecStreams.lean ====
section
/-!
DEFINITION. Meanings of the stream and prefetch commands (chapter 6).
-/
namespace Sys2Proof.Machine

/-- STRM_OPEN (R131). -/
def execStrmOpen (w : Writer) (v : Word64) (s : State) : Out :=
  State.unlessReset s fun s => if s.mayWriteS w then strmOpen w v.toNat s else s.badWrite Reg.strmOpenCfg v.toNat

/-- STRM_CLOSE (R131). -/
def execStrmClose (w : Writer) (v : Word32) (s : State) : Out :=
  State.unlessReset s fun s => if s.mayWriteS w then strmClose w v.toNat s else s.badWrite Reg.strmClose v.toNat

/-- STRM_RING_TAIL (R132). -/
def execStrmRingTail (w : Writer) (v : Word64) (s : State) : Out :=
  State.unlessReset s fun s => s.regWrite w Reg.strmRingTail v.toNat (strmRingTail w v.toNat)

/-- STRM_RESYNC (R135). -/
def execStrmResync (w : Writer) (v : Word64) (s : State) : Out :=
  State.unlessReset s fun s => s.regWrite w Reg.strmResync v.toNat (strmResync w v.toNat)

/-- DESCRIPTOR_BURST_FETCH (R134). i: the stream context. -/
def execBurstFetch (ctx : Fin 65536) (s : State) : Out :=
  State.unlessReset s (burstFetch ctx)

/-- POOL_SLOT_GRANT (R149). i: the stream context; space: destination space is reserved; kind: the space it waits for
otherwise. -/
def execSlotGrant (i : Fin 65536) (space : Bool) (kind : Fin 3) (s : State) : Out :=
  State.unlessReset s (slotGrant i space kind)

/-- STREAM_WAIT_LIMIT (R150). i: the stream context. -/
def execWaitLimit (i : Fin 65536) (s : State) : Out :=
  State.unlessReset s (waitLimit i)

/-- PREFETCH_FILL (R153). -/
def execPrefetchFill (a : Fin 4) (s : State) : Out :=
  State.unlessReset s (prefetchFill a)

end Sys2Proof.Machine
end

