-- ==== Sys2Proof/Machine/ExecTwin.lean ====
section
/-!
DEFINITION. Meanings of the twin's commands (chapter 12).
-/
namespace Sys2Proof.Machine

/-- TWIN_HELLO (R287). -/
def execTwinHello (n : Fin 12) (s : State) : Out :=
  State.unlessReset s (twinHello n)

/-- TWIN_HELLO_RETRY (R287). -/
def execTwinHelloRetry (s : State) : Out :=
  State.unlessReset s (twinHelloRetry)

/-- TWIN_BEAT_SEND (R288). -/
def execTwinBeatSend (s : State) : Out :=
  State.unlessReset s (twinBeatSend)

/-- TWIN_BEAT (R288). -/
def execTwinBeat (n : Fin 12) (s : State) : Out :=
  State.unlessReset s (twinBeat n)

/-- BEAT_LIMIT (R288). -/
def execBeatLimit (s : State) : Out :=
  State.unlessReset s (beatLimit)

/-- TWIN_FAILED (R288). -/
def execTwinFailed (n : Fin 12) (s : State) : Out :=
  State.unlessReset s (twinFailedNotice n)

/-- MIRROR_DATA (R291). -/
def execMirrorData (n : Fin 12) (s : State) : Out :=
  State.unlessReset s (mirrorData n)

/-- MIRROR_COMMIT (R292). -/
def execMirrorCommit (n : Fin 12) (s : State) : Out :=
  State.unlessReset s (mirrorCommit n)

/-- MIRROR_ACK (R292). -/
def execMirrorAck (n : Fin 12) (s : State) : Out :=
  State.unlessReset s (mirrorAck n)

/-- MIRROR_ACK_TIMER (R291). -/
def execMirrorAckTimer (p : Fin 4) (s : State) : Out :=
  State.unlessReset s (mirrorAckTimer p)

/-- HANDBACK_GO (R298). -/
def execHandbackGo (w : Writer) (n : Fin 4) (v : Word64) (s : State) : Out :=
  State.unlessReset s (handbackGoWrite w n v.toNat)

/-- HANDBACK_REQ (R298). -/
def execHandbackReq (n : Fin 12) (s : State) : Out :=
  State.unlessReset s (handbackReq n)

/-- HANDBACK_DONE (R298). -/
def execHandbackDone (n : Fin 12) (s : State) : Out :=
  State.unlessReset s (handbackDone n)

/-- MIRROR_RESET (R315). -/
def execMirrorReset (n : Fin 12) (s : State) : Out :=
  State.unlessReset s (mirrorReset n)

end Sys2Proof.Machine
end

