-- ==== Sys2Proof/Machine/Dispatch.lean ====
section
/-!
DEFINITION. The dispatch: one arm per command, each a direct call of that command's meaning.
-/
namespace Sys2Proof.Machine

/-- The effect of a command on everything but the queue. -/
def exec (i : Instr) (s : State) : Host.Outcome State Fault Refusal :=
  match i with
  | .wqTailWrite w n v => Sys2Proof.Machine.execWqTailWrite w n v s
  | .wqBaseWrite w n v => Sys2Proof.Machine.execWqBaseWrite w n v s
  | .wqEnable w n v => Sys2Proof.Machine.execWqEnable w n v s
  | .wqDisable w n v => Sys2Proof.Machine.execWqDisable w n v s
  | .cqEnable w n v => Sys2Proof.Machine.execCqEnable w n v s
  | .cqDisable w n v => Sys2Proof.Machine.execCqDisable w n v s
  | .cqHeadWrite w n v => Sys2Proof.Machine.execCqHeadWrite w n v s
  | .depctrWrite w n v => Sys2Proof.Machine.execDepctrWrite w n v s
  | .abortReq w wq tag cq => Sys2Proof.Machine.execAbortReq w wq tag cq s
  | .abortSafePoint slot => Sys2Proof.Machine.execAbortSafePoint slot s
  | .admitItem p slot => Sys2Proof.Machine.execAdmitItem p slot s
  | .matmul slot => Sys2Proof.Machine.execMatmul slot s
  | .kernel slot => Sys2Proof.Machine.execKernel slot s
  | .move slot => Sys2Proof.Machine.execMove slot s
  | .copy slot => Sys2Proof.Machine.execCopy slot s
  | .reduceAdd slot => Sys2Proof.Machine.execReduceAdd slot s
  | .transpose slot => Sys2Proof.Machine.execTranspose slot s
  | .expandE2m1 slot => Sys2Proof.Machine.execExpandE2m1 slot s
  | .colmax slot => Sys2Proof.Machine.execColmax slot s
  | .apply slot => Sys2Proof.Machine.execApply slot s
  | .trafficTest slot errors first pass actual => Sys2Proof.Machine.execTrafficTest slot errors first pass actual s
  | .reduceScatter slot => Sys2Proof.Machine.execReduceScatter slot s
  | .allGather slot => Sys2Proof.Machine.execAllGather slot s
  | .allReduce slot => Sys2Proof.Machine.execAllReduce slot s
  | .fenceQueue slot => Sys2Proof.Machine.execFenceQueue slot s
  | .fencePartition slot => Sys2Proof.Machine.execFencePartition slot s
  | .fenceStepClose slot => Sys2Proof.Machine.execFenceStepClose slot s
  | .snapshot slot => Sys2Proof.Machine.execSnapshot slot s
  | .ship slot => Sys2Proof.Machine.execShip slot s
  | .mark slot => Sys2Proof.Machine.execMark slot s
  | .itemRetire slot => Sys2Proof.Machine.execItemRetire slot s
  | .tileLoadStart a cyc => Sys2Proof.Machine.execTileLoadStart a cyc s
  | .passStart a cyc starved slices => Sys2Proof.Machine.execPassStart a cyc starved slices s
  | .passRetire a => Sys2Proof.Machine.execPassRetire a s
  | .preemption a => Sys2Proof.Machine.execPreemption a s
  | .passFault a idx kind row col cyc => Sys2Proof.Machine.execPassFault a idx kind row col cyc s
  | .aryRepairReq w a v => Sys2Proof.Machine.execAryRepairReq w a v s
  | .fieldRepair a => Sys2Proof.Machine.execFieldRepair a s
  | .aryInject w a v => Sys2Proof.Machine.execAryInject w a v s
  | .stirrupWrite a alongM m0 k0 => Sys2Proof.Machine.execStirrupWrite a alongM m0 k0 s
  | .skiverTileConvert a => Sys2Proof.Machine.execSkiverTileConvert a s
  | .epilogueRun e v => Sys2Proof.Machine.execEpilogueRun e v s
  | .kNop e => Sys2Proof.Machine.execKNop e s
  | .kLd e => Sys2Proof.Machine.execKLd e s
  | .kSt e => Sys2Proof.Machine.execKSt e s
  | .kLdi e => Sys2Proof.Machine.execKLdi e s
  | .kLdp e => Sys2Proof.Machine.execKLdp e s
  | .kLds e => Sys2Proof.Machine.execKLds e s
  | .kIdx e => Sys2Proof.Machine.execKIdx e s
  | .kLdk e => Sys2Proof.Machine.execKLdk e s
  | .kAdd e => Sys2Proof.Machine.execKAdd e s
  | .kSub e => Sys2Proof.Machine.execKSub e s
  | .kMul e => Sys2Proof.Machine.execKMul e s
  | .kFma e => Sys2Proof.Machine.execKFma e s
  | .kMin e => Sys2Proof.Machine.execKMin e s
  | .kMax e => Sys2Proof.Machine.execKMax e s
  | .kAbs e => Sys2Proof.Machine.execKAbs e s
  | .kNeg e => Sys2Proof.Machine.execKNeg e s
  | .kClt e => Sys2Proof.Machine.execKClt e s
  | .kCle e => Sys2Proof.Machine.execKCle e s
  | .kCeq e => Sys2Proof.Machine.execKCeq e s
  | .kCne e => Sys2Proof.Machine.execKCne e s
  | .kSel e => Sys2Proof.Machine.execKSel e s
  | .kAnd e => Sys2Proof.Machine.execKAnd e s
  | .kOr e => Sys2Proof.Machine.execKOr e s
  | .kXor e => Sys2Proof.Machine.execKXor e s
  | .kFin e => Sys2Proof.Machine.execKFin e s
  | .kExp e => Sys2Proof.Machine.execKExp e s
  | .kLog e => Sys2Proof.Machine.execKLog e s
  | .kRcp e => Sys2Proof.Machine.execKRcp e s
  | .kRsq e => Sys2Proof.Machine.execKRsq e s
  | .kTanh e => Sys2Proof.Machine.execKTanh e s
  | .kRsum e => Sys2Proof.Machine.execKRsum e s
  | .kRmax e => Sys2Proof.Machine.execKRmax e s
  | .kRmin e => Sys2Proof.Machine.execKRmin e s
  | .kCvt e => Sys2Proof.Machine.execKCvt e s
  | .vectorFault e parity => Sys2Proof.Machine.execVectorFault e parity s
  | .tileStoreEcc e addr corrected owner slot l => Sys2Proof.Machine.execTileStoreEcc e addr corrected owner slot l s
  | .teSpareCtrl w cs v => Sys2Proof.Machine.execTeSpareCtrl w cs v s
  | .ceLimitExceeded e => Sys2Proof.Machine.execCeLimitExceeded e s
  | .spareSelfTestDone cs ok => Sys2Proof.Machine.execSpareSelfTestDone cs ok s
  | .spareCopyDone cs => Sys2Proof.Machine.execSpareCopyDone cs s
  | .spareCutover cs => Sys2Proof.Machine.execSpareCutover cs s
  | .awlRecompute slot l => Sys2Proof.Machine.execAwlRecompute slot l s
  | .strmOpen w v => Sys2Proof.Machine.execStrmOpen w v s
  | .strmClose w v => Sys2Proof.Machine.execStrmClose w v s
  | .strmRingTail w v => Sys2Proof.Machine.execStrmRingTail w v s
  | .strmResync w v => Sys2Proof.Machine.execStrmResync w v s
  | .burstFetch ctx => Sys2Proof.Machine.execBurstFetch ctx s
  | .slotGrant j space kind => Sys2Proof.Machine.execSlotGrant j space kind s
  | .waitLimit j => Sys2Proof.Machine.execWaitLimit j s
  | .prefetchFill a => Sys2Proof.Machine.execPrefetchFill a s
  | .accumulateAdd a => Sys2Proof.Machine.execAccumulateAdd a s
  | .ladderRise p j => Sys2Proof.Machine.execLadderRise p j s
  | .ladderInstanceClose p j => Sys2Proof.Machine.execLadderInstanceClose p j s
  | .ladderRungWrite p j v => Sys2Proof.Machine.execLadderRungWrite p j v s
  | .stepRecordWrite p => Sys2Proof.Machine.execStepRecordWrite p s
  | .replayEnable w n v => Sys2Proof.Machine.execReplayEnable w n v s
  | .rngSeedWrite w n v => Sys2Proof.Machine.execRngSeedWrite w n v s
  | .patrolScrub n find => Sys2Proof.Machine.execPatrolScrub n find s
  | .ueLimitExceeded n => Sys2Proof.Machine.execUeLimitExceeded n s
  | .hsmRetrainReq w v => Sys2Proof.Machine.execHsmRetrainReq w v s
  | .retrainTrigger n byTemp retries => Sys2Proof.Machine.execRetrainTrigger n byTemp retries s
  | .channelRetrain n => Sys2Proof.Machine.execChannelRetrain n s
  | .retrainEnd n ok => Sys2Proof.Machine.execRetrainEnd n ok s
  | .hsmMapoutReq w v => Sys2Proof.Machine.execHsmMapoutReq w v s
  | .hsmMapoutAck w v => Sys2Proof.Machine.execHsmMapoutAck w v s
  | .mapoutCutover h => Sys2Proof.Machine.execMapoutCutover h s
  | .hsmTest w n v => Sys2Proof.Machine.execHsmTest w n v s
  | .hsmTestDone n errors => Sys2Proof.Machine.execHsmTestDone n errors s
  | .laneBad n l => Sys2Proof.Machine.execLaneBad n l s
  | .relaneDone n => Sys2Proof.Machine.execRelaneDone n s
  | .lockTimeout n => Sys2Proof.Machine.execLockTimeout n s
  | .dataFlit n flit ue => Sys2Proof.Machine.execDataFlit n flit ue s
  | .idleFlit n flit ue => Sys2Proof.Machine.execIdleFlit n flit ue s
  | .linkFlit n flit ue => Sys2Proof.Machine.execLinkFlit n flit ue s
  | .replayTimeout n => Sys2Proof.Machine.execReplayTimeout n s
  | .ackTimer n => Sys2Proof.Machine.execAckTimer n s
  | .creditReturn n vc => Sys2Proof.Machine.execCreditReturn n vc s
  | .packetStart n => Sys2Proof.Machine.execPacketStart n s
  | .linkTrainingDone n lanes => Sys2Proof.Machine.execLinkTrainingDone n lanes s
  | .ident n => Sys2Proof.Machine.execIdent n s
  | .bringupRetry n => Sys2Proof.Machine.execBringupRetry n s
  | .bringupDeadline n => Sys2Proof.Machine.execBringupDeadline n s
  | .lnkForceDown w n => Sys2Proof.Machine.execLnkForceDown w n s
  | .lnkRestoreLegs w n => Sys2Proof.Machine.execLnkRestoreLegs w n s
  | .lnkRewiden w n => Sys2Proof.Machine.execLnkRewiden w n s
  | .rewidenLock n => Sys2Proof.Machine.execRewidenLock n s
  | .rewidenTimeout n => Sys2Proof.Machine.execRewidenTimeout n s
  | .transitPacket n => Sys2Proof.Machine.execTransitPacket n s
  | .job0Relay n => Sys2Proof.Machine.execJob0Relay n s
  | .write n => Sys2Proof.Machine.execWrite n s
  | .legDownNotice n => Sys2Proof.Machine.execLegDownNotice n s
  | .adderStage n => Sys2Proof.Machine.execAdderStage n s
  | .entry n => Sys2Proof.Machine.execEntry n s
  | .fold n => Sys2Proof.Machine.execFold n s
  | .gather n => Sys2Proof.Machine.execGather n s
  | .headers n => Sys2Proof.Machine.execHeaders n s
  | .deliver n => Sys2Proof.Machine.execDeliver n s
  | .report n => Sys2Proof.Machine.execReport n s
  | .restart n => Sys2Proof.Machine.execRestart n s
  | .finMarker n => Sys2Proof.Machine.execFinMarker n s
  | .retire n => Sys2Proof.Machine.execRetire n s
  | .fatal n => Sys2Proof.Machine.execFatal n s
  | .stragglerDeadline gid => Sys2Proof.Machine.execStragglerDeadline gid s
  | .twinHello n => Sys2Proof.Machine.execTwinHello n s
  | .twinHelloRetry => Sys2Proof.Machine.execTwinHelloRetry s
  | .twinBeatSend => Sys2Proof.Machine.execTwinBeatSend s
  | .twinBeat n => Sys2Proof.Machine.execTwinBeat n s
  | .beatLimit => Sys2Proof.Machine.execBeatLimit s
  | .twinFailed n => Sys2Proof.Machine.execTwinFailed n s
  | .mirrorData n => Sys2Proof.Machine.execMirrorData n s
  | .mirrorCommit n => Sys2Proof.Machine.execMirrorCommit n s
  | .mirrorAck n => Sys2Proof.Machine.execMirrorAck n s
  | .mirrorAckTimer p => Sys2Proof.Machine.execMirrorAckTimer p s
  | .handbackGo w n v => Sys2Proof.Machine.execHandbackGo w n v s
  | .handbackReq n => Sys2Proof.Machine.execHandbackReq n s
  | .handbackDone n => Sys2Proof.Machine.execHandbackDone n s
  | .mirrorReset n => Sys2Proof.Machine.execMirrorReset n s
  | .snapshotQuiesced p => Sys2Proof.Machine.execSnapshotQuiesced p s
  | .snapshotSeal p => Sys2Proof.Machine.execSnapshotSeal p s
  | .drainComplete j => Sys2Proof.Machine.execDrainComplete j s
  | .shipEnd slot => Sys2Proof.Machine.execShipEnd slot s
  | .restoreSaddle w p ctr => Sys2Proof.Machine.execRestoreSaddle w p ctr s
  | .restoreFlash w p ctr => Sys2Proof.Machine.execRestoreFlash w p ctr s
  | .restoreRemote w p ctr => Sys2Proof.Machine.execRestoreRemote w p ctr s
  | .restoreTwin w p ctr => Sys2Proof.Machine.execRestoreTwin w p ctr s
  | .restorePhaseEnd => Sys2Proof.Machine.execRestorePhaseEnd s
  | .snapPin w go => Sys2Proof.Machine.execSnapPin w go s
  | .snapUnpin w go => Sys2Proof.Machine.execSnapUnpin w go s
  | .snapCountFloorWrite w n v => Sys2Proof.Machine.execSnapCountFloorWrite w n v s
  | .evalwinEnable w n => Sys2Proof.Machine.execEvalwinEnable w n s
  | .evalwinDisable w n => Sys2Proof.Machine.execEvalwinDisable w n s
  | .leaseRenewal => Sys2Proof.Machine.execLeaseRenewal s
  | .leaseRenewalMissed cause => Sys2Proof.Machine.execLeaseRenewalMissed cause s
  | .reinTick => Sys2Proof.Machine.execReinTick s
  | .telemetryWindow rails => Sys2Proof.Machine.execTelemetryWindow rails s
  | .frequencyStep => Sys2Proof.Machine.execFrequencyStep s
  | .reinCapWrite w v => Sys2Proof.Machine.execReinCapWrite w v s
  | .cinchTrip die det => Sys2Proof.Machine.execCinchTrip die det s
  | .droopNAssert rails => Sys2Proof.Machine.execDroopNAssert rails s
  | .cinchEscalate => Sys2Proof.Machine.execCinchEscalate s
  | .cinchClear cycles => Sys2Proof.Machine.execCinchClear cycles s
  | .cinchTest w go fails => Sys2Proof.Machine.execCinchTest w go fails s
  | .cinchDisable w v => Sys2Proof.Machine.execCinchDisable w v s
  | .cinchEnable w v => Sys2Proof.Machine.execCinchEnable w v s
  | .marginCheck dies => Sys2Proof.Machine.execMarginCheck dies s
  | .temperatureRead dies temps => Sys2Proof.Machine.execTemperatureRead dies temps s
  | .thermalCapUpdate => Sys2Proof.Machine.execThermalCapUpdate s
  | .thermalTrip monitor die => Sys2Proof.Machine.execThermalTrip monitor die s
  | .holdWarnAssert => Sys2Proof.Machine.execHoldWarnAssert s
  | .holdWarnGlitch => Sys2Proof.Machine.execHoldWarnGlitch s
  | .saveCommit => Sys2Proof.Machine.execSaveCommit s
  | .holdLossAssert => Sys2Proof.Machine.execHoldLossAssert s
  | .resume moved => Sys2Proof.Machine.execResume moved s
  | .thmSaveTest w go => Sys2Proof.Machine.execThmSaveTest w go s
  | .ledgerWrite => Sys2Proof.Machine.execLedgerWrite s
  | .saveAreaErase => Sys2Proof.Machine.execSaveAreaErase s
  | .keepAreaRestore channels blockBytes flashBytes => Sys2Proof.Machine.execKeepAreaRestore channels blockBytes flashBytes s
  | .arpRequest fromMac fromIp target => Sys2Proof.Machine.execArpRequest fromMac fromIp target s
  | .neighbourSolicitation fromMac fromIp target => Sys2Proof.Machine.execNeighbourSolicitation fromMac fromIp target s
  | .nonRoceFrame => Sys2Proof.Machine.execNonRoceFrame s
  | .incomingSend q psn ce => Sys2Proof.Machine.execIncomingSend q psn ce s
  | .incomingRdmaWrite q psn key addr data icrc ce => Sys2Proof.Machine.execIncomingRdmaWrite q psn key addr data icrc ce s
  | .incomingRdmaRead q psn key addr len icrc ce => Sys2Proof.Machine.execIncomingRdmaRead q psn key addr len icrc ce s
  | .readResponse q psn data => Sys2Proof.Machine.execReadResponse q psn data s
  | .acknowledge q psn nak => Sys2Proof.Machine.execAcknowledge q psn nak s
  | .retransmitTimeout q => Sys2Proof.Machine.execRetransmitTimeout q s
  | .cnpReceive q => Sys2Proof.Machine.execCnpReceive q s
  | .rateIncrease q => Sys2Proof.Machine.execRateIncrease q s
  | .qpToReady w q v => Sys2Proof.Machine.execQpToReady w q v s
  | .qpToReset w q v => Sys2Proof.Machine.execQpToReset w q v s
  | .mrWrite w k half v => Sys2Proof.Machine.execMrWrite w k half v s
  | .hpLaneLoss => Sys2Proof.Machine.execHpLaneLoss s
  | .resetAssert resetN => Sys2Proof.Machine.execResetAssert resetN s
  | .resetRelease straps ready claims => Sys2Proof.Machine.execResetRelease straps ready claims s
  | .refclkStop => Sys2Proof.Machine.execRefclkStop s
  | .sdrefLoss cantle => Sys2Proof.Machine.execSdrefLoss cantle s
  | .leaseGrantTimeout => Sys2Proof.Machine.execLeaseGrantTimeout s
  | .norReadDone => Sys2Proof.Machine.execNorReadDone s
  | .hbmTrainingDone channels arrays dies other => Sys2Proof.Machine.execHbmTrainingDone channels arrays dies other s
  | .startupReady => Sys2Proof.Machine.execStartupReady s
  | .bootDeltaGo w go => Sys2Proof.Machine.execBootDeltaGo w go s
  | .deltaApply => Sys2Proof.Machine.execDeltaApply s
  | .transitDeltaApply => Sys2Proof.Machine.execTransitDeltaApply s
  | .bootUpdateGo w go => Sys2Proof.Machine.execBootUpdateGo w go s
  | .updatePhaseEnd outcome => Sys2Proof.Machine.execUpdatePhaseEnd outcome s
  | .recoveryHello body => Sys2Proof.Machine.execRecoveryHello body s
  | .recoveryCommit psn body norOk => Sys2Proof.Machine.execRecoveryCommit psn body norOk s
  | .recoveryIdle => Sys2Proof.Machine.execRecoveryIdle s
  | .recoveryReset => Sys2Proof.Machine.execRecoveryReset s
  | .ownerProgram w off go => Sys2Proof.Machine.execOwnerProgram w off go s
  | .ownerRevoke w off go => Sys2Proof.Machine.execOwnerRevoke w off go s
  | .keyLoad w off go => Sys2Proof.Machine.execKeyLoad w off go s
  | .keyClear w off go => Sys2Proof.Machine.execKeyClear w off go s
  | .secAttestGo w go => Sys2Proof.Machine.execSecAttestGo w go s
  | .attestReportReady => Sys2Proof.Machine.execAttestReportReady s
  | .eventRecordWrite bridge => Sys2Proof.Machine.execEventRecordWrite bridge s
  | .intakeLost cantle => Sys2Proof.Machine.execIntakeLost cantle s
  | .suppressed code => Sys2Proof.Machine.execSuppressed code s
  | .evrecClearPinned w go => Sys2Proof.Machine.execEvrecClearPinned w go s
  | .evrecClearAll w pinned go => Sys2Proof.Machine.execEvrecClearAll w pinned go s
  | .readClear off => Sys2Proof.Machine.execReadClear off s
  | .registerWrite w off v => Sys2Proof.Machine.execRegisterWrite w off v s
  | .unassignedAccess off v => Sys2Proof.Machine.execUnassignedAccess off v s
  | .vauxLoss => Sys2Proof.Machine.execVauxLoss s
  | .hpBringupRetry lock => Sys2Proof.Machine.execHpBringupRetry lock s
  | .targetRailVoltageAck die => Sys2Proof.Machine.execTargetRailVoltageAck die s
  | .reservedKindPacket n => Sys2Proof.Machine.execReservedKindPacket n s
  | .deltaNorWritten fault => Sys2Proof.Machine.execDeltaNorWritten fault s
  | .jtagInstruction j => Sys2Proof.Machine.execJtagInstruction j s

end Sys2Proof.Machine
end

