-- ==== Sys2Proof/Machine/Step.lean ====
section
/-!
DEFINITION. One step: the command at the front of the queue, or a tick of CTLCLK when none waits.
-/
namespace Sys2Proof.Machine

/-- A tick with no command waiting: the CTLCLK counter of R392 counts, except in reset (assumption 1). -/
def State.tick (s : State) : State := if s.pins.inReset then s else { s with now := s.now + 1 }

/-- Take the command at the front and run it on the rest of the queue. -/
def step (s : State) : Host.Outcome State Fault Refusal :=
  match s.pending with
  | [] => .next s.tick
  | c :: rest => exec c { s with pending := rest }

/-- The opcode table gives no bits, so a word spells no command and the state is unchanged. -/
def State.withFetchWord (s : State) (nbits w : Nat) : State :=
  match decodeTableWord nbits w with
  | none => s
  | some c => { s with pending := c :: s.pending }

end Sys2Proof.Machine
end

