-- ==== Sys2Proof/Safety.lean ====
section
/-!
DEFINITION. The words that statements about the machine use: a device out of reset, canonical stores, and what a command
leaves alone.
-/
namespace Sys2Proof.Machine

/-- The device is out of reset: neither RESET_N, PWRGOOD nor a stopped REFCLK holds it (R408, R412). -/
abbrev State.Live (s : State) : Prop := s.pins.inReset = false

/-- The three sparse stores have their one canonical form. -/
def State.Canon (s : State) : Prop := Sparse.wf regD s.regs ∧ Sparse.wf memD s.mem ∧ Sparse.wf poisonD s.poison

/-- Every byte of HBM and every poison mark reads as before, and maps as before. -/
def State.SameHbm (s t : State) : Prop := t.mem = s.mem ∧ t.poison = s.poison

/-- What only SEC and updates may change: the fuses; and what only resets and start-up change: the pins. -/
def State.SameFixed (s t : State) : Prop := t.fuses = s.fuses ∧ t.pins = s.pins

/-- Registers outside a list read as before. -/
def State.SameRegsBut (s t : State) (l : List Nat) : Prop := ∀ off, off ∉ l → t.rd off = s.rd off

/-- Nothing but registers of a list differs. -/
def State.OnlyRegs (s t : State) (l : List Nat) : Prop := t = { s with regs := t.regs } ∧ s.SameRegsBut t l

/-- The scope of the register at an offset and the encodings of its fields permit the write (R7, R420, R424). -/
abbrev State.Accepts (s : State) (w : Writer) (off v : Nat) : Prop := s.mayWrite w off = true ∧ encodingsOk off v = true

/-- The register families whose write is more than its fields' access codes; the rows of the table say what each does. -/
def rowRegs : List Nat :=
  [Reg.abortReq, Reg.rngSeed 0, Reg.ladderBase 0, Reg.replay 0, Reg.nqCfg 0, Reg.nqHead 0, Reg.wqBase 0, Reg.wqCfg 0, Reg.wqTail 0,
    Reg.cqCfg 0, Reg.cqHead 0, Reg.depctr 0, Reg.strmOpenCfg, Reg.strmClose, Reg.strmRingTail, Reg.strmResync, Reg.aryCtrl 0,
    Reg.aryRepairReq 0, Reg.aryInject 0, Reg.teSpareCtrl 0, Reg.hsmMapoutReq, Reg.hsmMapoutAck, Reg.hsmRetrainReq, Reg.hsmTest 0,
    Reg.lnkCtrl 0, Reg.reinCap, Reg.cinchCtrl, Reg.cinchTest, Reg.thmSaveTest, Reg.evrecClear, Reg.bootDeltaGo, Reg.bootUpdateGo,
    Reg.secCmdGo, Reg.secAttestGo, Reg.hostMr0 0, Reg.hostMr1 0, Reg.hostQpCfg 0, Reg.hostQpPsn 0, Reg.snapPinCmd, Reg.snapRestoreGo,
    Reg.snapCountFloor 0, Reg.snapMode 0, Reg.snapHandback 0, Reg.snapEvalwinBase 0, Reg.snapEvalwinLimit 0, Reg.snapEvalwinCtrl 0]

/-! ### The tile engines -/

/-- The vector a task's instructions work on. -/
def Task.vector (t : Task) : Vec := ⟨t.regs, t.stores, t.sums, t.sat, t.nonfin, t.conv⟩

/-- The task after an instruction that leaves v. -/
def Task.hold (t : Task) (v : Vec) : Task :=
  { t with regs := v.regs, stores := v.stores, sums := v.sums, sat := v.sat, nonfin := v.nonfin, conv := v.conv, pos := t.pos + 1 }

/-- The next instruction of engine e is w, of opcode op, of the KERNEL share t of run k, and the engine may run it (R112, R117, R127). -/
structure State.KernelTurn (s : State) (e op : Nat) (t : Task) (k : KernRun) (w : KWord) : Prop where
  live : s.Live
  serves : s.serving = true
  task : s.currentTask e = some t
  share : t.kind = 0
  run : s.kern t.slot = some k
  same : k.admitNo = t.admitNo
  word : (k.sweepInstrs t.sweep)[t.pos]? = some w
  opcode : w.op = op
  engine : s.engRuns e t = true
  noStop : t.pos ≠ 0 ∨ s.stopOf (s.partOfCs (e / 16)) = none

/-- The task with its rows' elements in the row buffer, where they are read once (R122). -/
def State.filled (s : State) (k : KernRun) (t : Task) : Task := { t with rowBuf := some (t.rowBuf.getD (s.rowFill k t)) }

/-- No poison keeps the rows in hand from the row buffer (R212). -/
def State.RowsClean (s : State) (k : KernRun) (t : Task) : Prop := t.rowBuf = none → s.rowPoison k t = false

/-- The turn is taken, what enters the row buffer counted, and the instruction's cycles counted. -/
def State.turnTaken (s : State) (e : Nat) (t : Task) (k : KernRun) (w : KWord) : State :=
  let u := if t.pos = 0 then s.tookTurn e t else s
  (if t.rowBuf.isNone then u.rowCount k t else u).bump ⟨Reg.teIssue e, 0, 64⟩ (instrCycles k w)

/-- The state in which engine e has run an instruction of task t that leaves v: the turn taken, and the task one further,
or, after the last instruction of a sweep, the vector retired (R117). -/
def State.vectorStep (s : State) (e : Nat) (t : Task) (k : KernRun) (w : KWord) (v : Vec) : State :=
  let u := s.turnTaken e t k w
  if t.pos + 1 < (k.sweepInstrs t.sweep).length then u.putTask e ((s.filled k t).hold v) else u.retireVector e k ((s.filled k t).hold v)

/-- Command c on engine e runs an instruction of opcode op with the effect eff on its vector. -/
def State.KernelDoes (s : State) (c : Instr) (e op : Nat) (eff : KEnv → KWord → Vec → Vec → Prop) : Prop :=
  ∀ t k w, s.KernelTurn e op t k w → s.RowsClean k t →
    ∃ v, eff (s.kernEnv k (s.filled k t)) w t.vector v ∧ exec c s = .next (s.vectorStep e t k w v)

/-- Command c on engine e fails the KERNEL whose rows meet poison as they enter the row buffer (R212). -/
def State.KernelPoisons (s : State) (c : Instr) (e op : Nat) : Prop :=
  ∀ t k w, s.KernelTurn e op t k w → t.rowBuf = none → s.rowPoison k t = true →
    exec c s = .next (s.failKernel t.slot Res.hwFault)

/-- Conversions, lane by lane, that saturated in an active lane. -/
def KEnv.saturated (env : KEnv) (cs : List Conv) : Nat := ((cs.zip env.active).filter (fun c => c.1.sat && c.2)).length

/-- Conversions, lane by lane, of a non-finite value in an active lane. -/
def KEnv.nonfinite (env : KEnv) (cs : List Conv) : Nat := ((cs.zip env.active).filter (fun c => c.1.nonfin && c.2)).length

/-- What ST stores to an output of format f: per active lane the conversion of a, or of the exact product of a and b, and the element
(R122). -/
def KEnv.storing (env : KEnv) (v : Vec) (w : KWord) (f : Fmt) : List (Conv × Nat) :=
  let xs := if bits w.imm 2 1 = 1 then List.zipWith (fun x y => (env.val x).mul (env.val y)) (v.reg w.a) (v.reg w.b)
    else (v.reg w.a).map env.val
  let cs := (xs.zip env.elem).map (fun p =>
    let c := f.convert (if bits w.imm 1 1 = 1 then .stoch (env.draw (bits w.imm 0 1) p.2) else .rne) p.1
    if env.heritage && (f.decode c.bits).subnormalIn f then { c with bits := if p.1.sign then 2 ^ (f.bits - 1) else 0 } else c)
  (((cs.zip env.elem).zip env.active).filter (fun p => p.2)).map Prod.fst

/-- Between two vectors only register d and the flag counts differ. -/
def Vec.OnlyReg (v u : Vec) (d : Nat) : Prop :=
  (∀ i, i ≠ d → u.reg i = v.reg i) ∧ u.stores = v.stores ∧ u.sums = v.sums ∧ u.conv = v.conv

/-- Register d takes exact values, each rounded to the lane type; nothing else changes but, in W8, the count of saturations. -/
def Vec.Takes (env : KEnv) (v u : Vec) (d : Nat) (xs : List Val) : Prop :=
  u.reg d = xs.map (fun x => BitVec.ofNat 32 (env.into x).bits) ∧ v.OnlyReg u d ∧ u.nonfin = v.nonfin ∧
  u.sat = v.sat + if env.width = 2 then env.saturated (xs.map env.into) else 0

/-- Register d takes values converted from a wider format: saturations and non-finite sources count, one per active lane (R57). -/
def Vec.Converts (env : KEnv) (v u : Vec) (d : Nat) (xs : List Val) : Prop :=
  u.reg d = xs.map (fun x => BitVec.ofNat 32 (env.into x).bits) ∧ v.OnlyReg u d ∧
  u.nonfin = v.nonfin + env.nonfinite (xs.map env.into) ∧ u.sat = v.sat + env.saturated (xs.map env.into)

/-- Register d takes bit patterns; nothing else changes. -/
def Vec.TakesBits (v u : Vec) (d : Nat) (xs : List Word32) : Prop := u.reg d = xs ∧ v.OnlyReg u d ∧ u.nonfin = v.nonfin ∧ u.sat = v.sat

/-- Register d takes one FP32 value in every lane: its bits in W32, converted to the lane type otherwise (R119). -/
def Vec.Fills (env : KEnv) (v u : Vec) (d : Nat) (x : Word32) : Prop :=
  if env.width = 0 then v.TakesBits u d (List.replicate env.lanes x)
  else Vec.Converts env v u d (List.replicate env.lanes (val32 env.heritage x))

/-! ### Operations at issue -/

/-- The STREAM in a slot may act as one stack_op: what it has taken and now takes of both its contexts reaches far enough, and
no channel it needs is RETRAINING (R133, R134, R226). -/
structure State.StreamDue (s : State) (slot sop : Nat) (o : Op) (mD : Desc → Nat) (nD : Nat) (ks kd : Take) (ss ds : List DescP) :
    Prop where
  live : s.Live
  item : s.issuableStream slot sop = some o
  taken : s.takePair o Desc.bytes mD (o.b 0x30 8) nD = (ks, kd)
  left : ∃ a h, ks = .ok a h ∧ ss = o.gotOf 0 ++ a
  right : ∃ a h, kd = .ok a h ∧ ds = o.gotOf 1 ++ a
  free : s.sidesWait ss ds = false

/-- The state in which that STREAM has issued, taken both sides and moved its destination's draw position on (R134, R183). -/
def State.streamTaken (s : State) (slot : Nat) (o : Op) (ks kd : Take) (ds : List DescP) : State :=
  (((s.issue slot).consumeSide slot o 0 ks).consumeSide slot o 1 kd).advanceRng (o.b 0x24 4) (total Desc.elements ds)

/-- The writes of a copy: each destination unit takes its source unit's bytes. -/
def State.copyWrites (s : State) (ss ds : List DescP) : List (Nat × List Byte) :=
  (takenUnits ds).zip ((takenUnits ss).map (fun a => s.bytes a (takenUnit ss)))

/-- A MATMUL may issue: its three descriptors are there and pass every check, no region it needs is withheld, the arrays
that prefetched for it have drained, an array is eligible, and scales it is given are fit (R70, R86, R88, R139, R140, R154, R167,
R168).  t is the state in which it has issued and taken them. -/
structure State.MatmulDue (s : State) (slot : Nat) (o : Op) (w x od : DescP) (kw kx ko : Take) (m : MmRun) (t : State) : Prop where
  live : s.Live
  item : s.issuable slot 1 = some o
  weights : s.take (o.b 0x20 4) (s.opPart o) false true true (fun _ => 1) 1 = kw ∧ ∃ h, kw = .ok [w] h
  inputs : s.take (o.b 0x24 4) (s.opPart o) false false true (fun _ => 1) 1 = kx ∧ ∃ h, kx = .ok [x] h
  output : s.take (o.b 0x28 4) (s.opPart o) true false true (fun _ => 1) 1 = ko ∧ ∃ h, ko = .ok [od] h
  planes : compPlanes o x w = false
  checks : s.mmCheck o x w od = none
  work : m = s.mmRunOf o x w od
  free : s.regionBlocked o od.1.region m.accumulate = false
  drained : (s.mmClaimed o).any s.arrBusy = false
  taken : t = (s.mmTaken slot o kw kx ko).advanceRng (o.b 0x28 4) (m.m * m.n)
  arrays : m.eligible ≠ []
  scales : m.fixed = true → ∀ pl, m.outp = some pl → t.fixedPoison pl m.m = false ∧ t.fixedOk m.heritage pl m.m (ceilDiv m.n 1024) = true

/-- A KERNEL may issue: every context it names has its first descriptor, none is at fault or unfit, its rows fit the engines'
buffers, and an engine is in service (R113, R115, R139, R140).  t is the state in which it has issued and taken them. -/
structure State.KernelDue (s : State) (slot : Nat) (o : Op) (takes : List ((Nat × Bool) × Take)) (t : State) : Prop where
  live : s.Live
  item : s.issuable slot 2 = some o
  found : takes = ((s.issue slot).kernFirsts slot o (kernCtxs o)).2
  whole : ∀ e ∈ takes, ∃ ds h, e.2 = Take.ok ds h
  fit : ∀ e ∈ takes, kernBad o e = false
  rows : (KProg.ofBytes o.block).rowLen * kernWidth takes ≤ 393216
  taken : t = ((s.issue slot).kernFirsts slot o (kernCtxs o)).1.kernDraws o
  engines : t.kernEngines o ≠ []

/-! ### The ports -/

/-- The acknowledgement that a flit leaving by port n carries: the last good sequence number (R237). -/
def State.ackOf (s : State) (n : Nat) : Nat := (65535 + (s.port n).expSeq) % 65536

/-- The DATA flits of a packet from flit k on, as bytes, on port n. -/
def dataFlits (n : Nat) (p : TxPacket) (q k ack : Nat) : List (Nat × List Byte) :=
  ((List.range (p.pkt.flits - k)).map (· + k)).map (fun j => (n, (Flit.data p q p.pkt.flits j).toBytes ack))

/-- The DATA flits of a retry buffer, as bytes, on port n. -/
def retryFlits (n ack : Nat) (l : List (Nat × Nat × TxPacket)) : List (Nat × List Byte) :=
  l.flatMap (fun e => dataFlits n e.2.2 (65536 + e.1 - (e.2.2.pkt.flits - e.2.1)) (e.2.2.pkt.flits - e.2.1) ack)

/-! ### The ring -/

/-- Port n has a marker of a phase for a loaded group of this member, next in order (R270). -/
structure State.MarkerDue (s : State) (n phase i : Nat) (p : Packet) (h : RingHdr) (g : Group) : Prop where
  live : s.Live
  runs : s.ringStands = false
  found : s.ringAt n phase = some (i, p, h)
  group : s.groupOf p h = some g

/-- Port n has a chunk packet of a phase for the active bucket b, and it is neither stale nor early (R270). -/
structure State.ChunkDue (s : State) (n phase i : Nat) (p : Packet) (h : RingHdr) (g : Group) (b : RingBucket) : Prop extends
    State.MarkerDue s n phase i p h g where
  bucket : s.bucket h.group = some b
  fate : s.chunkFate g h = ChunkFate.take

end Sys2Proof.Machine
end

