-- ==== Sys2Proof/Certificates/Slice0/Obligations.lean ====
section
/-!
DEFINITION. The statements for the provers: what each command does, by the rules of spec/, and what every step keeps.
-/
open Sys2Proof Sys2Proof.Machine

/-- A step is exec of the command at the front on the rest of the queue; with none waiting it is one CTLCLK tick (the model's
choice). For every command c and state s with c at the front of its queue, step answers exec of c on s with the queue's
rest. On an empty queue the block idles: the count of CTLCLK cycles goes up by one, and in reset nothing changes; that is
the model's own choice (log entry 1; one queue of commands, log entry 46). -/
def Obligations.TheStepRunsTheFrontOfTheQueue : Prop :=
  (∀ (s : State) (c : Instr) (cs : List Instr), s.pending = c :: cs → step s = exec c { s with pending := cs }) ∧
  (∀ s : State, s.pending = [] → s.Live → step s = .next { s with now := s.now + 1 }) ∧
  (∀ s : State, s.pending = [] → s.pins.inReset = true → step s = .next s)

/-- After reset every register reads its Reset column, the stores are canonical, no command waits and the device is under reset.
State.reset has canonical stores, an empty queue, memory and poison with nothing listed, the device under reset, and at
every offset the value of the Reset column (regDefault, read from the register tables); a dash of that column and what HBM
reads are the model's choices (log entries 3, 4 and 13). -/
def Obligations.ResetLeavesTheRegistersAtTheirColumn : Prop :=
  (State.reset.Canon) ∧
  (State.reset.pending = [] ∧ State.reset.pins.inReset = true ∧ State.reset.mem = [] ∧ State.reset.poison = []) ∧
  (∀ off : Nat, State.reset.rd off = regDefault off % 2 ^ 64)

/-- Under reset every command but the ten that pins and supplies carry changes nothing (the model's reading). While the device
is under reset, exec of every command but RESET_ASSERT, RESET_RELEASE, REFCLK_STOP, SDREF_LOSS, JTAG_INSTRUCTION,
THERMAL_TRIP, HOLD_WARN_N, HOLD_LOSS_N and VAUX_LOSS answers the same state. That every other command changes nothing there
is the model's choice (log entry 17). -/
def Obligations.CommandsWaitOutReset : Prop :=
  ∀ (c : Instr) (s : State), s.pins.inReset = true →
    (∀ a0, c ≠ .resetAssert a0) →
    (∀ a0 a1 a2, c ≠ .resetRelease a0 a1 a2) →
    (c ≠ .refclkStop) →
    (∀ a0, c ≠ .sdrefLoss a0) →
    (∀ a0, c ≠ .jtagInstruction a0) →
    (∀ a0 a1, c ≠ .thermalTrip a0 a1) →
    (c ≠ .holdWarnAssert) →
    (c ≠ .holdWarnGlitch) →
    (c ≠ .holdLossAssert) →
    (c ≠ .vauxLoss) →
    exec c s = .next s

/-- Every command completes in every state, and a step takes only the front of the queue. For every command and every state exec
answers a next state with the same queue, and every step answers a next state whose queue is the old one without its front:
no command of the table ends in a fault or a refusal, and none queues or drops another. One sender's queue is the model's
choice (log entry 46). -/
def Obligations.EveryStepAnswersAndTakesOnlyTheFront : Prop :=
  (∀ (c : Instr) (s : State), ∃ t : State, exec c s = .next t ∧ t.pending = s.pending) ∧
  (∀ s : State, ∃ t : State, step s = .next t ∧ t.pending = s.pending.tail)

/-- Every step keeps the three sparse stores (registers, HBM bytes, poison) in their one canonical form. For every state whose
register store, HBM bytes and poison marks are in canonical form (strictly rising, nothing listed at its default), the state
after any step has them so too. The default of an unlisted HBM byte is the model's choice (log entry 4). -/
def Obligations.EveryStepKeepsTheStoresCanonical : Prop :=
  ∀ s t : State, s.Canon → step s = .next t → t.Canon

/-- Fuse counts never fall, revoked owner slots stay revoked, and the thermal-trip latch is left only by a loss of VAUX. For
every step: the fused security version never falls and a revoked owner slot stays revoked; THERMTRIP_N, once latched, stays
latched unless the command is VAUX_LOSS; and the fuses are unchanged unless the command is OWNER_PROGRAM, OWNER_REVOKE,
STARTUP_READY, UPDATE_PHASE_END, or a register write or RDMA write that may carry one of them. -/
def Obligations.WhatIsBlownOrLatchedStays : Prop :=
  (∀ s t : State, step s = .next t → s.fuses.svn ≤ t.fuses.svn ∧
    (∀ k, testBit s.fuses.ownerRevoked k = true → testBit t.fuses.ownerRevoked k = true)) ∧
  (∀ s t : State, step s = .next t → s.power.tripWire = true → s.pending.head? ≠ some .vauxLoss → t.power.tripWire = true) ∧
  (∀ (s t : State), step s = .next t → s.fuses = t.fuses ∨ ∃ c, s.pending.head? = some c ∧
      ((∃ o, c = .updatePhaseEnd o) ∨ c = .startupReady ∨ (∃ w a g, c = .ownerProgram w a g) ∨ (∃ w a g, c = .ownerRevoke w a g) ∨ (∃ w a v, c = .registerWrite w a v) ∨ (∃ a0 a1 a2 a3 a4 a5 a6, c = .incomingRdmaWrite a0 a1 a2 a3 a4 a5 a6)))

/-- ADD, SUB, MUL, FMA, MIN, MAX, ABS and NEG compute exactly, round each lane once, and touch one register. For every engine
whose turn is an instruction of one of these opcodes, the command answers a next state in which that instruction has run:
register d holds, lane by lane, the exact result rounded once to the lane type; no other vector register, store, reduction
or count changes outside W8; and the task is one instruction further, or the vector has retired after the sweep's last
instruction. -/
def Obligations.KernelArithmeticRoundsOnce : Prop :=
  (∀ (s : State) (e : Fin 64), s.KernelDoes (.kAdd e) e 0x08 (fun env w v u =>
    Vec.Takes env v u w.d (List.zipWith (fun x y => Val.add (env.val x) (env.val y)) (v.reg w.a) (v.reg w.b)))) ∧
  (∀ (s : State) (e : Fin 64), s.KernelDoes (.kSub e) e 0x09 (fun env w v u =>
    Vec.Takes env v u w.d (List.zipWith (fun x y => Val.sub (env.val x) (env.val y)) (v.reg w.a) (v.reg w.b)))) ∧
  (∀ (s : State) (e : Fin 64), s.KernelDoes (.kMul e) e 0x0A (fun env w v u =>
    Vec.Takes env v u w.d (List.zipWith (fun x y => Val.mul (env.val x) (env.val y)) (v.reg w.a) (v.reg w.b)))) ∧
  (∀ (s : State) (e : Fin 64), s.KernelDoes (.kFma e) e 0x0B (fun env w v u =>
    Vec.Takes env v u w.d (List.zipWith (fun p z => Val.fma (env.val p.1) (env.val p.2) (env.val z)) ((v.reg w.a).zip (v.reg w.b)) (v.reg w.c)))) ∧
  (∀ (s : State) (e : Fin 64), s.KernelDoes (.kMin e) e 0x0C (fun env w v u =>
    Vec.Takes env v u w.d (List.zipWith (fun x y => valMin (env.val x) (env.val y)) (v.reg w.a) (v.reg w.b)))) ∧
  (∀ (s : State) (e : Fin 64), s.KernelDoes (.kMax e) e 0x0D (fun env w v u =>
    Vec.Takes env v u w.d (List.zipWith (fun x y => valMax (env.val x) (env.val y)) (v.reg w.a) (v.reg w.b)))) ∧
  (∀ (s : State) (e : Fin 64), s.KernelDoes (.kAbs e) e 0x0E (fun env w v u =>
    Vec.Takes env v u w.d ((v.reg w.a).map (fun x => Val.abs (env.val x))))) ∧
  (∀ (s : State) (e : Fin 64), s.KernelDoes (.kNeg e) e 0x0F (fun env w v u =>
    Vec.Takes env v u w.d ((v.reg w.a).map (fun x => Val.neg (env.val x))))) ∧
  (∀ (s : State) (e : Fin 64),
    s.KernelPoisons (.kAdd e) e 0x08 ∧ s.KernelPoisons (.kSub e) e 0x09 ∧ s.KernelPoisons (.kMul e) e 0x0A ∧
    s.KernelPoisons (.kFma e) e 0x0B ∧ s.KernelPoisons (.kMin e) e 0x0C ∧ s.KernelPoisons (.kMax e) e 0x0D ∧
    s.KernelPoisons (.kAbs e) e 0x0E ∧ s.KernelPoisons (.kNeg e) e 0x0F)

/-- CLT, CLE, CEQ, CNE and FIN give all-ones or zero masks; SEL picks by mask; AND, OR and XOR combine bits. For every engine
whose turn is an instruction of one of these opcodes, the command answers a next state in which that instruction has run:
each lane of register d is all ones of the lane type where the comparison (or finiteness) of the operands' exact values
holds and zero elsewhere; SEL takes a where c is not the zero pattern and b elsewhere; AND, OR and XOR act on bits; nothing
else of the vector changes. -/
def Obligations.KernelComparesGiveMasks : Prop :=
  (∀ (s : State) (e : Fin 64), s.KernelDoes (.kClt e) e 0x10 (fun env w v u =>
    Vec.TakesBits v u w.d (List.zipWith (fun x y => if Val.lt (env.val x) (env.val y) then env.ones else 0#32) (v.reg w.a) (v.reg w.b)))) ∧
  (∀ (s : State) (e : Fin 64), s.KernelDoes (.kCle e) e 0x11 (fun env w v u =>
    Vec.TakesBits v u w.d (List.zipWith (fun x y => if Val.le (env.val x) (env.val y) then env.ones else 0#32) (v.reg w.a) (v.reg w.b)))) ∧
  (∀ (s : State) (e : Fin 64), s.KernelDoes (.kCeq e) e 0x12 (fun env w v u =>
    Vec.TakesBits v u w.d (List.zipWith (fun x y => if Val.eq (env.val x) (env.val y) then env.ones else 0#32) (v.reg w.a) (v.reg w.b)))) ∧
  (∀ (s : State) (e : Fin 64), s.KernelDoes (.kCne e) e 0x13 (fun env w v u =>
    Vec.TakesBits v u w.d (List.zipWith (fun x y => if Val.eq (env.val x) (env.val y) then 0#32 else env.ones) (v.reg w.a) (v.reg w.b)))) ∧
  (∀ (s : State) (e : Fin 64), s.KernelDoes (.kSel e) e 0x14 (fun _ w v u =>
    Vec.TakesBits v u w.d (List.zipWith (fun p z => if z = 0#32 then p.2 else p.1) ((v.reg w.a).zip (v.reg w.b)) (v.reg w.c)))) ∧
  (∀ (s : State) (e : Fin 64), s.KernelDoes (.kAnd e) e 0x15 (fun _ w v u =>
    Vec.TakesBits v u w.d (List.zipWith (fun x y => x &&& y) (v.reg w.a) (v.reg w.b)))) ∧
  (∀ (s : State) (e : Fin 64), s.KernelDoes (.kOr e) e 0x16 (fun _ w v u =>
    Vec.TakesBits v u w.d (List.zipWith (fun x y => x ||| y) (v.reg w.a) (v.reg w.b)))) ∧
  (∀ (s : State) (e : Fin 64), s.KernelDoes (.kXor e) e 0x17 (fun _ w v u =>
    Vec.TakesBits v u w.d (List.zipWith (fun x y => x ^^^ y) (v.reg w.a) (v.reg w.b)))) ∧
  (∀ (s : State) (e : Fin 64), s.KernelDoes (.kFin e) e 0x18 (fun env w v u =>
    Vec.TakesBits v u w.d ((v.reg w.a).map (fun x => if (env.val x).isFin then env.ones else 0#32)))) ∧
  (∀ (s : State) (e : Fin 64),
    s.KernelPoisons (.kClt e) e 0x10 ∧ s.KernelPoisons (.kCle e) e 0x11 ∧ s.KernelPoisons (.kCeq e) e 0x12 ∧
    s.KernelPoisons (.kCne e) e 0x13 ∧ s.KernelPoisons (.kSel e) e 0x14 ∧ s.KernelPoisons (.kAnd e) e 0x15 ∧
    s.KernelPoisons (.kOr e) e 0x16 ∧ s.KernelPoisons (.kXor e) e 0x17 ∧ s.KernelPoisons (.kFin e) e 0x18)

/-- NOP and ST change no register; LD, LDI, LDP, LDS, LDK, IDX and CVT write one register, rounded to the lane type. For every
engine whose turn is one of these instructions, the command answers a next state in which it has run. NOP leaves the vector.
LD takes its input's elements from the row buffer, exact from a narrower format and converted from one that is not. LDI,
LDP, LDS and LDK fill every lane with the immediate, parameter, row scalar (+0 while empty) or constant; IDX writes the
column or row. Conversions count saturated and non-finite active lanes; nothing else of the vector changes. Where a row's
elements meet a poisoned sector as they enter the row buffer, the KERNEL fails with HW_FAULT. ST answers a next state whose
vector keeps every register and contribution; CVT one that keeps every other register, the stores and the contributions. -/
def Obligations.KernelMovesFillLanes : Prop :=
  (∀ (s : State) (e : Fin 64), s.KernelDoes (.kNop e) e 0x00 (fun _ _ v u => u = v)) ∧
  (∀ (s : State) (e : Fin 64), s.KernelDoes (.kLd e) e 0x01 (fun env w v u =>
    if env.lane.bits ≤ env.inBits.getD (bits w.imm 0 2) 0 then Vec.Converts env v u w.d (env.input.getD (bits w.imm 0 2) [])
    else Vec.Takes env v u w.d (env.input.getD (bits w.imm 0 2) []))) ∧
  (∀ (s : State) (e : Fin 64), s.KernelDoes (.kLdi e) e 0x03 (fun env w v u => Vec.Fills env v u w.d (BitVec.ofNat 32 w.imm))) ∧
  (∀ (s : State) (e : Fin 64), s.KernelDoes (.kLdp e) e 0x04 (fun env w v u => Vec.Fills env v u w.d (env.params.getD (bits w.imm 0 3) 0#32))) ∧
  (∀ (s : State) (e : Fin 64), s.KernelDoes (.kLds e) e 0x05 (fun env w v u =>
    Vec.Fills env v u w.d (match env.scalars.find? (fun x => x.1 == bits w.imm 0 3) with | some x => x.2 | none => 0#32))) ∧
  (∀ (s : State) (e : Fin 64), s.KernelDoes (.kIdx e) e 0x06 (fun env w v u =>
    Vec.Converts env v u w.d ((if bits w.imm 0 1 = 1 then env.row else env.col).map (fun n => .fin false (n % 2 ^ 24) 1)))) ∧
  (∀ (s : State) (e : Fin 64), s.KernelDoes (.kLdk e) e 0x07 (fun env w v u => Vec.Fills env v u w.d (env.consts.getD (bits w.imm 0 3) 0#32))) ∧
  (∀ (s : State) (e : Fin 64),
    s.KernelPoisons (.kNop e) e 0x00 ∧ s.KernelPoisons (.kLd e) e 0x01 ∧ s.KernelPoisons (.kLdi e) e 0x03 ∧
    s.KernelPoisons (.kLdp e) e 0x04 ∧ s.KernelPoisons (.kLds e) e 0x05 ∧ s.KernelPoisons (.kIdx e) e 0x06 ∧
    s.KernelPoisons (.kLdk e) e 0x07) ∧
  (∀ (s : State) (e : Fin 64), s.KernelDoes (.kSt e) e 0x02 (fun _ _ v u => u.regs = v.regs ∧ u.sums = v.sums)) ∧
  (∀ (s : State) (e : Fin 64), s.KernelDoes (.kCvt e) e 0x30 (fun _ w v u => (∀ i, i ≠ w.d → u.reg i = v.reg i) ∧ u.stores = v.stores ∧ u.sums = v.sums))

/-- EXP, LOG, RCP, RSQ and TANH round the FP32 value of the function; RSUM, RMAX and RMIN contribute one tree result per 512
lanes. For every engine whose turn is one of these instructions, the command answers a next state in which it has run. An
SFU instruction writes register d with the FP32 value of its function (a free value of Config where the spec leaves the
corner open), rounded to the lane type, and nothing else. A reduction leaves every register and store and adds, per 512-lane
vector of the slot with an active lane, one contribution of the fixed tree to scalar d. -/
def Obligations.KernelFunctionsAndReductions : Prop :=
  (∀ (s : State) (e : Fin 64), s.KernelDoes (.kExp e) e 0x20 (fun env w v u =>
    Vec.Takes env v u w.d ((v.reg w.a).map (fun x => val32 env.heritage (sfuExp (fp32 env.heritage (env.val x))))))) ∧
  (∀ (s : State) (e : Fin 64), s.KernelDoes (.kLog e) e 0x21 (fun env w v u =>
    Vec.Takes env v u w.d ((v.reg w.a).map (fun x => val32 env.heritage (sfuLog (fp32 env.heritage (env.val x))))))) ∧
  (∀ (s : State) (e : Fin 64), s.KernelDoes (.kRcp e) e 0x22 (fun env w v u =>
    Vec.Takes env v u w.d ((v.reg w.a).map (fun x => val32 env.heritage (sfuRcp (fp32 env.heritage (env.val x))))))) ∧
  (∀ (s : State) (e : Fin 64), s.KernelDoes (.kRsq e) e 0x23 (fun env w v u =>
    Vec.Takes env v u w.d ((v.reg w.a).map (fun x => val32 env.heritage (sfuRsq (fp32 env.heritage (env.val x))))))) ∧
  (∀ (s : State) (e : Fin 64), s.KernelDoes (.kTanh e) e 0x24 (fun env w v u =>
    Vec.Takes env v u w.d ((v.reg w.a).map (fun x => val32 env.heritage (sfuTanh (fp32 env.heritage (env.val x))))))) ∧
  (∀ (s : State) (e : Fin 64), s.KernelDoes (.kRsum e) e 0x28 (fun env w v u =>
    u = { v with sums := v.sums ++ ((chunks 512 (((v.reg w.a).zip env.active).map (fun p => if p.2 then some (fp32 env.heritage (env.val p.1)) else none))).filterMap
      (treeReduce (redFn env.heritage 0x28))).map (fun x => (0x28, w.d, x)) })) ∧
  (∀ (s : State) (e : Fin 64), s.KernelDoes (.kRmax e) e 0x29 (fun env w v u =>
    u = { v with sums := v.sums ++ ((chunks 512 (((v.reg w.a).zip env.active).map (fun p => if p.2 then some (fp32 env.heritage (env.val p.1)) else none))).filterMap
      (treeReduce (redFn env.heritage 0x29))).map (fun x => (0x29, w.d, x)) })) ∧
  (∀ (s : State) (e : Fin 64), s.KernelDoes (.kRmin e) e 0x2A (fun env w v u =>
    u = { v with sums := v.sums ++ ((chunks 512 (((v.reg w.a).zip env.active).map (fun p => if p.2 then some (fp32 env.heritage (env.val p.1)) else none))).filterMap
      (treeReduce (redFn env.heritage 0x2A))).map (fun x => (0x2A, w.d, x)) })) ∧
  (∀ (s : State) (e : Fin 64),
    s.KernelPoisons (.kExp e) e 0x20 ∧ s.KernelPoisons (.kLog e) e 0x21 ∧ s.KernelPoisons (.kRcp e) e 0x22 ∧
    s.KernelPoisons (.kRsq e) e 0x23 ∧ s.KernelPoisons (.kTanh e) e 0x24 ∧ s.KernelPoisons (.kRsum e) e 0x28 ∧
    s.KernelPoisons (.kRmax e) e 0x29 ∧ s.KernelPoisons (.kRmin e) e 0x2A)

/-- ST queues one converted store per active lane for the vector's retirement; CVT rounds each lane to the named format. For
every engine whose turn is ST or CVT, the command answers a next state in which it has run. ST leaves every register and
scalar, and appends to the output it names one store per active lane: a, or the exact product of a and b, converted to the
output's format by nearest-even or the lane's draw, subnormals flushed in heritage mode; saturated, non-finite and narrowed
elements are counted. CVT writes register d with each lane rounded to the named narrow format and held in the lane type,
counts what saturated or was not finite, and leaves other registers, stores and scalars. A row whose elements are poisoned
fails the KERNEL with HW_FAULT. -/
def Obligations.KernelStoresAndConversions : Prop :=
  (∀ (s : State) (e : Fin 64), s.KernelDoes (.kSt e) e 0x02 (fun env w v u =>
    match env.outFmt.getD (bits w.imm 0 1) none with
    | none => u = v
    | some f =>
      u = { v with stores := v.stores ++ (env.storing v w f).map (fun p => (bits w.imm 0 1, p.2, p.1.bits))
                   sat := v.sat + ((env.storing v w f).filter (fun p => p.1.sat)).length
                   nonfin := v.nonfin + ((env.storing v w f).filter (fun p => p.1.nonfin)).length
                   conv := v.conv + if f.scaled || f == .bf16 then (env.storing v w f).length else 0 })) ∧
  (∀ (s : State) (e : Fin 64), s.KernelDoes (.kCvt e) e 0x30 (fun env w v u =>
    match Fmt.ofCode (bits w.imm 0 4) with
    | none => u = v
    | some f =>
      ∃ cs : List Conv, cs = ((v.reg w.a).zip env.elem).map (fun p =>
          f.convert (if bits w.imm 4 1 = 1 then .stoch (env.draw 2 p.2) else .rne) (env.val p.1)) ∧
        u.reg w.d = cs.map (fun c => BitVec.ofNat 32 (env.into ((f.decode c.bits).flush env.heritage f)).bits) ∧
        (∀ i, i ≠ w.d → u.reg i = v.reg i) ∧ u.stores = v.stores ∧ u.sums = v.sums ∧ u.conv = v.conv ∧
        u.nonfin = v.nonfin + env.nonfinite cs ∧
        u.sat = v.sat + (if env.width = 2 then env.saturated (cs.map (fun c => env.into ((f.decode c.bits).flush env.heritage f))) else 0) +
          env.saturated cs)) ∧
  (∀ (s : State) (e : Fin 64),
    s.KernelPoisons (.kSt e) e 0x02 ∧ s.KernelPoisons (.kCvt e) e 0x30)

/-- A tail write within the ring moves the tail; one outside it is ignored with tail_bad set; head and counter writes take
effect. For every state, writer and value that the register's scope accepts: a tail within the ring's size of the head and
not behind the old tail becomes the tail and nothing else changes; any other tail write leaves the tail, sets tail_bad and
records the event; a completion-queue head is taken and held records are then written; a dependency counter takes the value
and waiting items are looked at again. -/
def Obligations.QueueDoorbells : Prop :=
  (∀ (s : State) (w : Writer) (n : Fin 64) (v : Word32), s.Live → s.Accepts w (Reg.wqTail n) v.toNat →
    (2 ^ 32 + v.toNat - s.rd (Reg.wqHead n)) % 2 ^ 32 ≤ 2 ^ s.f (Fld.wqCfg_size_log2 n) →
    (2 ^ 32 + s.rd (Reg.wqTail n) - s.rd (Reg.wqHead n)) % 2 ^ 32 ≤ (2 ^ 32 + v.toNat - s.rd (Reg.wqHead n)) % 2 ^ 32 →
    ∃ t, exec (.wqTailWrite w n v) s = .next t ∧ t.rd (Reg.wqTail n) = v.toNat ∧ s.OnlyRegs t [Reg.wqTail n]) ∧
  (∀ (s : State) (w : Writer) (n : Fin 64) (v : Word32), s.Live → s.Accepts w (Reg.wqTail n) v.toNat →
    (2 ^ s.f (Fld.wqCfg_size_log2 n) < (2 ^ 32 + v.toNat - s.rd (Reg.wqHead n)) % 2 ^ 32 ∨
      (2 ^ 32 + v.toNat - s.rd (Reg.wqHead n)) % 2 ^ 32 < (2 ^ 32 + s.rd (Reg.wqTail n) - s.rd (Reg.wqHead n)) % 2 ^ 32) →
    ∃ t, exec (.wqTailWrite w n v) s = .next t ∧ t.rd (Reg.wqTail n) = s.rd (Reg.wqTail n) ∧ t.f (Fld.wqStat_tail_bad n) = 1 ∧
      t = (s.put (Fld.wqStat_tail_bad n) 1).badWrite (Reg.wqTail n) v.toNat) ∧
  (∀ (s : State) (w : Writer) (n : Fin 64) (v : Word32), s.Live → s.Accepts w (Reg.cqHead n) v.toNat →
    ∃ t, t.rd (Reg.cqHead n) = v.toNat ∧ s.OnlyRegs t [Reg.cqHead n] ∧
      (t.cq n).held = (s.cq n).held ∧
      exec (.cqHeadWrite w n v) s = .next (State.drainCq (t.cq n).held.length t n).settle) ∧
  (∀ (s : State) (w : Writer) (n : Fin 16384) (v : Word32), s.Live → s.Accepts w (Reg.depctr n) v.toNat →
    ∃ t, t.rd (Reg.depctr n) = v.toNat ∧ s.OnlyRegs t [Reg.depctr n] ∧ exec (.depctrWrite w n v) s = .next t.wake)

/-- Ring base, queue enables and disables, the seed and replay: the writes their guards allow, and the event for those refused.
For every state, writer and value the register's scope accepts: the ring base is written only while its queue is disabled; a
work queue is enabled only from disabled and over a ring its partition owns; disabling writes the fields; enabling a
completion or notice queue restarts its producer index and head at 0 and then writes held records; the seed is written, and
replay enabled with the record read, only with no item of the partition in flight. -/
def Obligations.QueueConfigurationWrites : Prop :=
  (∀ (s : State) (w : Writer) (n : Fin 64) (v : Word64), s.Live → s.Accepts w (Reg.wqBase n) v.toNat →
    exec (.wqBaseWrite w n v) s = .next (if s.flag (Fld.wqCfg_enable n) then s.badWrite (Reg.wqBase n) v.toNat else s.writeFields (Reg.wqBase n) v.toNat)) ∧
  (∀ (s : State) (w : Writer) (n : Fin 64) (v : Word32), s.Live → s.Accepts w (Reg.wqCfg n) (v.toNat / 2 * 2 + 1) →
    exec (.wqEnable w n v) s = .next (if s.flag (Fld.wqCfg_enable n) = false ∧ (s.part (s.wqPart n)).started = true ∧
        s.ownsRange (s.wqPart n) (s.rd (Reg.wqBase n)) (128 * 2 ^ bits (v.toNat / 2 * 2 + 1) 4 5) = true
      then s.writeFields (Reg.wqCfg n) (v.toNat / 2 * 2 + 1) else s.badWrite (Reg.wqCfg n) (v.toNat / 2 * 2 + 1))) ∧
  (∀ (s : State) (w : Writer) (n : Fin 64) (v : Word32), s.Live → s.Accepts w (Reg.wqCfg n) (v.toNat / 2 * 2) →
    exec (.wqDisable w n v) s = .next (s.writeFields (Reg.wqCfg n) (v.toNat / 2 * 2))) ∧
  (∀ (s : State) (w : Writer) (n : Fin 69) (v : Word64), s.Live → s.Accepts w (cqCfgOff n) (setBits v.toNat 24 1 1) →
    s.flag (cqEnabledF n) = false →
    ∃ t, t.f (cqHeadF n) = 0 ∧ (t.cq n).prod = 0 ∧
      (t.cq n).held = ((s.writeFields (cqCfgOff n) (setBits v.toNat 24 1 1)).cq n).held ∧ t.mem = s.mem ∧
      exec (.cqEnable w n v) s = .next ((State.drainNotices (t.cq n).notices.length (State.drainCq (t.cq n).held.length t n) n).settle)) ∧
  (∀ (s : State) (w : Writer) (n : Fin 69) (v : Word64), s.Live → s.Accepts w (cqCfgOff n) (setBits v.toNat 24 1 0) →
    exec (.cqDisable w n v) s = .next (s.writeFields (cqCfgOff n) (setBits v.toNat 24 1 0))) ∧
  (∀ (s : State) (w : Writer) (n : Fin 4) (v : Word64), s.Live → s.Accepts w (Reg.rngSeed n) v.toNat →
    exec (.rngSeedWrite w n v) s = .next (if s.inFlight.any (fun e => s.opPart e.2 == n.val) then s.badWrite (Reg.rngSeed n) v.toNat else s.wr (Reg.rngSeed n) v.toNat)) ∧
  (∀ (s : State) (w : Writer) (n : Fin 4) (v : Word64) (r : Replay), s.Live → s.Accepts w (Reg.replay n) v.toNat →
    s.inFlight.any (fun e => s.opPart e.2 == n.val) = false → bits v.toNat 0 1 = 1 →
      s.readRecord n (v.toNat / 256 * 256) (bits v.toNat 1 1 == 1) = .ok r →
    ∃ t, exec (.replayEnable w n v) s = .next t ∧ (t.part n).replay = some r ∧ t.mem = s.mem ∧ t.ctl.ops = s.ctl.ops ∧
      s.SameFixed t)

/-- ADMIT_ITEM takes the head of the next queue in turn, moves the head on by one, and passes the item to admission. For every
state in which the device serves, the partition has started and is not paused, the slot is free and no widen list waits: the
command answers the admission of the item at the ring slot of the next queue's head, with that head one further modulo 2^32,
the turn with that queue, and HBM and the operation table as before; where an open instance's widen list waits, its next
item goes first, in a slot its queue may use; an item in a poisoned ring slot is refused with HW_FAULT by the generic CTL
notice. -/
def Obligations.AdmissionTakesTheNextItem : Prop :=
  (∀ (s : State) (p : Fin 4) (slot : Fin 4096) (n : Nat), s.Live → s.serving = true → (s.part p).started = true →
    (s.part p).paused = false →
    s.op slot = none → s.nextList p = none → (s.stallSlots p).nextQueue p = some n →
    ∃ t : State, t.rd (Reg.wqHead n) = ((s.stallSlots p).rd (Reg.wqHead n) + 1) % 2 ^ 32 ∧ (t.part p).rr = n ∧ t.mem = s.mem ∧
      t.ctl.ops = s.ctl.ops ∧
      exec (.admitItem p slot) s = .next (t.admitNo p slot n ((s.stallSlots p).rd (Reg.wqHead n))
        ((s.stallSlots p).rd (Reg.wqBase n) + 128 * ((s.stallSlots p).rd (Reg.wqHead n) % 2 ^ (s.stallSlots p).f (Fld.wqCfg_size_log2 n))) none)) ∧
  (∀ (s : State) (p : Fin 4) (slot : Fin 4096) (k a : Nat) (x : LadInst) (rest : List Nat), s.Live → s.serving = true →
    (s.part p).started = true → (s.part p).paused = false →
    s.op slot = none → s.nextList p = some (k, x) → x.toAdmit = a :: rest → s.slotFor x.wq = true →
    exec (.admitItem p slot) s = .next (((s.setInst k (some { x with toAdmit := rest })).useFresh 1).admitNo p slot x.wq ((Config.freeWord s.fresh).toNat % 2 ^ 32) a (some k))) ∧
  (∀ (s : State) (p slot wq index addr : Nat), s.poisoned addr 128 = true →
    s.admitNo p slot wq index addr none = (s.put (Fld.wqStat_refused wq) 1).genericNotice Blk.ctl p addr index Res.hwFault)

/-- An item that passes admission is stamped with the open step of its partition, which CTL_STEP_n reads, a restore sets and its
record holds. For every state and every readable ring slot of a partition not in replay: where the item's checks all pass,
admission leaves an operation in the slot that holds the item's 128 bytes, its queue and index, the partition's open step as
its stamp, and the next admission number; it is no widen-list item. A completion record holds the stamp; a read of
CTL_STEP_n returns the open step and leaves it; a restore sets it to the image's open step, one from the twin to one above
the twin's highest committed step. -/
def Obligations.AdmittedItemCarriesItsStep : Prop :=
  (∀ (s : State) (p slot wq index addr : Nat), s.poisoned addr 128 = false → (s.part p).replay = none →
    ((s.openBook p (s.rd (Reg.stepN p))).mapBook p (s.rd (Reg.stepN p)) (fun b => { b with log := b.log ++ [logEntry wq index (s.bytes addr 128)] })).admissionCheck p
      (s.bytes addr 128) none = 0 →
    ∃ o, (s.admitNo p slot wq index addr none).op slot = some o ∧ o.item = s.bytes addr 128 ∧ o.wq = wq ∧ o.index = index ∧
      o.stamp = s.rd (Reg.stepN p) ∧ o.admitNo = s.ctl.nextAdmit ∧ o.listed = false) ∧
  (∀ (s : State) (slot : Nat) (o : Op) (result : Nat), (s.cplOf slot o result).step = o.stamp) ∧
  (∀ (s : State) (p : Fin 4), s.Live → s.deadRead (Reg.stepN p) = false →
    ∃ t : State, exec (.readClear (BitVec.ofNat 24 (Reg.stepN p))) s = .next t ∧
      t.readData = BitVec.ofNat 64 (s.rd (Reg.stepN p)) ∧ t.rd (Reg.stepN p) = s.rd (Reg.stepN p)) ∧
  (∀ (s : State) (r : Restore) (x : SnapImage), r.part < 4 → r.source ≠ 3 →
    (s.restoreScalars r x).rd (Reg.stepN r.part) = fieldLE x.header 0x10 8 % 2 ^ 64) ∧
  (∀ (s : State) (r : Restore) (x : SnapImage) (f : FarPart), r.part < 4 → r.source = 3 → s.snap.twin.far[r.part]? = some f →
    (s.restoreScalars r x).rd (Reg.stepN r.part) = (f.high + 1) % 2 ^ 64)

/-- ITEM_RETIRE, the fences and MARK: an item whose work is done leaves its slot; one of an open layer is only noted as ended.
For every state in which the item's work is done, it is not settled and the device serves: an item of no layer ends and
settles, its slot is empty at once where no record is to be written, and HBM is unchanged; an item of an open layer instance
stays and is noted as ended. A READY fence runs to its end where nothing earlier it orders is in flight; a step fence
without a record also closes its stamp for the partition. An item whose record has been written leaves its slot, and a step
fence then closes its step. A READY MARK puts its payload into the record's detail and then ends like any item. -/
def Obligations.ItemsRetireAndLeaveTheirSlots : Prop :=
  (∀ (s : State) (slot : Fin 4096) (o : Op) (r : Nat), s.Live → s.serving = true → s.op slot = some o → o.done = some r →
    o.layer = none → s.opSettled slot = false →
    ∃ t, exec (.itemRetire slot) s = .next t ∧ t = s.retire slot r true ∧ ((o.isPost = false ∧ r = 0 ∨ 64 ≤ o.cqN) →
      t.op slot = none) ∧ t.mem = s.mem ∧ t.poison = s.poison) ∧
  (∀ (s : State) (slot : Fin 4096) (o : Op) (r k : Nat) (x : LadInst), s.Live → s.serving = true → s.op slot = some o →
    o.done = some r → o.layer = some k →
    s.inst k = some x → x.ended.contains o.admitNo = false → s.opSettled slot = false →
    ∃ (t : State) (x' : LadInst), exec (.itemRetire slot) s = .next t ∧ t.inst k = some x' ∧ x'.ended = x.ended ++ [o.admitNo] ∧
      (t.op slot).isSome = true ∧ t.mem = s.mem) ∧
  (∀ (s : State) (slot : Fin 4096) (o : Op), s.Live → s.readyFence slot 0 = some o →
    s.inFlight.any (fun e => e.2.wq == o.wq && decide (e.2.admitNo < o.admitNo)) = false →
    exec (.fenceQueue slot) s = .next (s.endItem slot)) ∧
  (∀ (s : State) (slot : Fin 4096) (o : Op), s.Live → s.readyFence slot 2 = some o →
    s.inFlight.any (fun e => s.opPart e.2 == s.opPart o && decide (e.2.admitNo < o.admitNo)) = false →
    exec (.fencePartition slot) s = .next (s.endItem slot)) ∧
  (∀ (s : State) (slot : Fin 4096) (o : Op), s.Live → s.readyFence slot 1 = some o →
    s.inFlight.any (fun e => s.opPart e.2 == s.opPart o && ((e.2.phase == 1 && e.2.stamp == o.stamp && e.1 != slot.val) ||
      (e.2.opcode == 5 && e.2.b 0x20 1 == 1 && decide (e.2.admitNo < o.admitNo)))) = false →
    ∃ t, exec (.fenceStepClose slot) s = .next t ∧ t = s.passFence slot ∧ t.mem = s.mem ∧
      (o.wq < 64 → o.isPost = false → t.op slot = none ∧ (t.part (s.opPart o)).closedStep = some o.stamp)) ∧
  (∀ (s : State) (slot : Fin 4096) (o : Op), s.op slot = some o → (o.layer.bind s.inst).isSome = false → o.isPost = false →
    (s.endItem slot).op slot = none) ∧
  (∀ (s : State) (r : CplRec) (o : Op), r.opcode ≠ 0 → s.op r.slot = some o → s.opSettled r.slot = true →
    (s.recordWritten r).op r.slot = none ∧ (s.recordWritten r).mem = s.mem ∧ (o.opcode = 5 → o.b 0x20 1 = 1 →
      s.opState r.slot = 8 → ((s.recordWritten r).part (s.opPart o)).closedStep = some o.stamp)) ∧
  (∀ (s : State) (slot : Fin 4096) (o : Op), s.Live → s.issuable slot 8 = some o →
    ∃ (t : State) (o' : Op), exec (.mark slot) s = .next (t.endItem slot) ∧ t.op slot = some o' ∧ o'.detail = o.b 0x20 8 ∧
      o'.item = o.item ∧ t.mem = s.mem)

/-- ABORT_REQ answers NOT_FOUND, TOO_LATE or NOT_ABORTABLE, or settles the item as ABORTED; at its safe point the item retires.
For every accepted abort request of a writer that owns both queues, while the device is not HELD: with no in-flight item of
that tag the record says NOT_FOUND, with a settled one TOO_LATE, with a step fence NOT_ABORTABLE; otherwise the item's
status word becomes DRAINING with result ABORTED and settled and the record says OK. A DRAINING item at its safe point stops
its work, its output regions take free bytes, and it ends ABORTED without its add; its slot is empty at once where no record
is to be written. -/
def Obligations.AbortsAnswerByTheItemsState : Prop :=
  (∀ (s : State) (w : Writer) (wq cq : Fin 64) (tag : Word32), s.Live →
    s.Accepts w Reg.abortReq (wq.val + 2 ^ 8 * cq.val + 2 ^ 32 * tag.toNat) →
    (s.writerPasses w (s.wqPart wq) && s.writerPasses w (s.wqPart cq)) = true → s.isHeld = false → s.named wq tag.toNat = none →
    exec (.abortReq w wq tag cq) s = .next (s.abortRecord wq tag.toNat cq Res.notFound)) ∧
  (∀ (s : State) (w : Writer) (wq cq : Fin 64) (tag : Word32) (slot : Nat) (o : Op), s.Live →
    s.Accepts w Reg.abortReq (wq.val + 2 ^ 8 * cq.val + 2 ^ 32 * tag.toNat) →
    (s.writerPasses w (s.wqPart wq) && s.writerPasses w (s.wqPart cq)) = true → s.isHeld = false →
    s.named wq tag.toNat = some (slot, o) → s.opSettled slot = true →
    exec (.abortReq w wq tag cq) s = .next (s.abortRecord wq tag.toNat cq Res.tooLate)) ∧
  (∀ (s : State) (w : Writer) (wq cq : Fin 64) (tag : Word32) (slot : Nat) (o : Op), s.Live →
    s.Accepts w Reg.abortReq (wq.val + 2 ^ 8 * cq.val + 2 ^ 32 * tag.toNat) →
    (s.writerPasses w (s.wqPart wq) && s.writerPasses w (s.wqPart cq)) = true → s.isHeld = false →
    s.named wq tag.toNat = some (slot, o) → s.opSettled slot = false → o.opcode = 5 → o.b 0x20 1 = 1 →
    exec (.abortReq w wq tag cq) s = .next (s.abortRecord wq tag.toNat cq Res.notAbortable)) ∧
  (∀ (s : State) (w : Writer) (wq cq : Fin 64) (tag : Word32) (slot : Nat) (o : Op), s.Live →
    s.Accepts w Reg.abortReq (wq.val + 2 ^ 8 * cq.val + 2 ^ 32 * tag.toNat) →
    (s.writerPasses w (s.wqPart wq) && s.writerPasses w (s.wqPart cq)) = true → s.isHeld = false →
    s.named wq tag.toNat = some (slot, o) → s.opSettled slot = false → ¬ (o.opcode = 5 ∧ o.b 0x20 1 = 1) →
    ∃ t : State, exec (.abortReq w wq tag cq) s = .next (t.abortRecord wq tag.toNat cq Res.ok) ∧
      t.rd (Reg.opstat slot) = 4 + 256 * Res.aborted + 2 ^ 31 ∧ t.ctl = s.ctl ∧ t.mem = s.mem) ∧
  (∀ (s : State) (slot : Fin 4096) (o : Op), s.Live → s.op slot = some o → s.opState slot = 4 → s.serving = true →
    s.atSafePoint slot o = true →
    ∃ t : State, exec (.abortSafePoint slot) s = .next (t.retire slot Res.aborted false) ∧
      (∀ o', t.op slot = some o' → 64 ≤ o'.cqN → (t.retire slot Res.aborted false).op slot = none) ∧
      t = o.outs.foldl (fun t r => t.storeFree r.1 r.2) (s.stopWork slot o))

/-- A layer instance rises one rung with its widen list to run, and closes for good; step records and rung writes keep to
theirs. For every live, serving device: LADDER_RISE on a triggered, complete, good instance whose next list is present moves
it one rung up with that list to admitNo; LADDER_INSTANCE_CLOSE on a complete instance that will not rise removes it; a rung
write changes the entry's byte only while no instance of the layer is open; STEP_RECORD_WRITE drops the closed step's notes,
and without step records changes neither HBM nor registers. -/
def Obligations.LadderInstancesRiseAndClose : Prop :=
  (∀ (s : State) (p : Fin 4) (i : Fin 1024) (k : Nat) (x y : LadInst), s.Live → s.serving = true →
    s.oldestInst p i = some (k, y) → s.inst k = some x →
    x.trig = true → s.instBad x = false → s.instComplete x = true → s.ladHasList x.part x.entry (x.rung + 1) = true →
    ∃ t : State, exec (.ladderRise p i) s = .next t ∧
      t.inst k = some { x with toAdmit := s.ladListAddrs x.part x.entry (x.rung + 1), rung := x.rung + 1, trig := false, rose := true } ∧
        t.fuses = s.fuses ∧ t.links = s.links) ∧
  (∀ (s : State) (p : Fin 4) (i : Fin 1024) (k : Nat) (x : LadInst), s.Live → s.oldestInst p i = some (k, x) →
    s.instComplete x = true →
    ¬ (x.trig = true ∧ s.instBad x = false) → s.serving = true →
    ∃ t : State, exec (.ladderInstanceClose p i) s = .next t ∧ t.inst k = none ∧ t.links = s.links ∧ t.power = s.power) ∧
  (∀ (s : State) (p : Fin 4) (i : Fin 1024) (v : Byte), s.Live →
    s.openInsts.any (fun e => e.2.part == p.val && e.2.entry == i.val) = false →
    exec (.ladderRungWrite p i v) s = .next (s.storeLE (s.ladAddr p i + 4) 1 v.toNat)) ∧
  (∀ (s : State) (p : Fin 4) (i : Fin 1024) (v : Byte), s.Live →
    s.openInsts.any (fun e => e.2.part == p.val && e.2.entry == i.val) = true →
    ∃ t : State, exec (.ladderRungWrite p i v) s = .next t ∧ t.mem = s.mem ∧ t.poison = s.poison ∧ t.ctl = s.ctl ∧
      t.health = s.health) ∧
  (∀ (s : State) (p : Fin 4) (b : StepBook), s.Live → s.health.books.find? (fun b => b.part == p.val && b.closed) = some b →
    s.serving = true →
    s.inFlight.any (fun e => s.opPart e.2 == p.val && e.2.opcode == 4 && e.2.stamp == b.step) = false →
    ∃ t : State, exec (.stepRecordWrite p) s = .next t ∧
      t.health.books = s.health.books.filter (fun x => !(x.part == p.val && x.step == b.step)) ∧
      t.ctl = s.ctl ∧ (s.flag (Fld.steprecCfg_enable p) = false → t.mem = s.mem ∧ t.regs = s.regs))

/-- The patrol scrub moves on, counts corrected errors and poisons on uncorrectable ones; a channel test keeps pattern, go and
error count. The patrol scrub of a channel in service advances its position round the channel's sectors; a corrected error
only counts, to its most; an uncorrectable one poisons the scrubbed sector, or the sector of the demand read that met it
where the command names one, and counts; HSM_TEST takes its pattern, starts only where go is written and the channel is out
of service, and its end writes the errors found and clears go. Log entry 27 names the model's readings. Under each clause's
hypotheses on the state and the operands alone, exec answers the next state written: PATROL_SCRUB, HSM_TEST_DONE, HSM_TEST. -/
def Obligations.ScrubAndTestFindings : Prop :=
  (∀ (s : State) (n : Fin 512), s.Live → s.serving = true → s.chServes n = true →
    ∃ t, exec (.patrolScrub n (0, none)) s = .next t ∧
      Sparse.get (fun _ => 0) t.hsm.scrubAt n = (Sparse.get (fun _ => 0) s.hsm.scrubAt n + 1) % (chBytes / 32) ∧
      t.regs = s.regs ∧ s.SameHbm t) ∧
  (∀ (s : State) (n : Fin 512), s.Live → s.serving = true → s.chServes n = true →
    ∃ t, exec (.patrolScrub n (1, none)) s = .next t ∧ t.f (Fld.hsmEcc_ce n) = min (s.f (Fld.hsmEcc_ce n) + 1) 65535 ∧
      s.SameRegsBut t [Reg.hsmEcc n] ∧ t.f (Fld.hsmEcc_ue n) = s.f (Fld.hsmEcc_ue n) ∧ s.SameHbm t) ∧
  (∀ (s : State) (n : Fin 512), s.Live → s.serving = true → s.chServes n = true →
    ∃ t, exec (.patrolScrub n (2, none)) s = .next t ∧
      t.poison = Sparse.put poisonD s.poison (n * chBytes / 32 + Sparse.get (fun _ => 0) s.hsm.scrubAt n) true ∧
      t.f (Fld.hsmEcc_ue n) = min (s.f (Fld.hsmEcc_ue n) + 1) 65535 ∧ t.mem = s.mem) ∧
  (∀ (s : State) (n : Fin 512) (k : Fin 75497472), s.Live → s.serving = true → s.chServes n = true →
    ∃ t, exec (.patrolScrub n (2, some k)) s = .next t ∧ t.poison = Sparse.put poisonD s.poison (n * chBytes / 32 + k) true ∧
      t.f (Fld.hsmEcc_ue n) = min (s.f (Fld.hsmEcc_ue n) + 1) 65535 ∧ t.mem = s.mem) ∧
  (∀ (s : State) (n : Fin 512) (errors : Word32), s.Live → s.flag (Fld.hsmTest_go n) = true →
    ∃ t, exec (.hsmTestDone n errors) s = .next t ∧ t.f (Fld.hsmTest_errors n) = errors.toNat ∧ t.f (Fld.hsmTest_go n) = 0 ∧
      s.OnlyRegs t [Reg.hsmTest n]) ∧
  (∀ (s : State) (w : Writer) (n : Fin 512) (v : Word64), s.Live → s.Accepts w (Reg.hsmTest n) v.toNat → s.writerDevice w = true →
    bits v.toNat 2 1 = 0 →
    ∃ t, exec (.hsmTest w n v) s = .next t ∧ t.f (Fld.hsmTest_pattern n) = bits v.toNat 0 2 ∧
      t.f (Fld.hsmTest_go n) = s.f (Fld.hsmTest_go n) ∧ s.OnlyRegs t [Reg.hsmTest n]) ∧
  (∀ (s : State) (n : Fin 512) (v : Word64), s.Live → s.Accepts .lead (Reg.hsmTest n) v.toNat → s.writerDevice .lead = true →
    bits v.toNat 2 1 = 1 →
    (s.f (Fld.hsmChStatus_state n) = 0 ∨ s.f (Fld.hsmChStatus_state n) = 5) →
    ∃ t, exec (.hsmTest .lead n v) s = .next t ∧ t.flag (Fld.hsmTest_go n) = true ∧
      t.f (Fld.hsmTest_pattern n) = bits v.toNat 0 2 ∧ s.OnlyRegs t [Reg.hsmTest n])

/-- A retraining is asked for by the lead, by temperature or by interface errors, takes its channel, and ends in service or in a
map-out. HSM_RETRAIN_REQ, a temperature that has moved by the limit, and 64 interface retries each make a channel's
retraining wanted; it starts when no other channel of the stack is retraining and no stop is under way; success returns the
channel to service and records the temperature; the first two failures keep it wanted and the third starts a map-out. Log
entry 27. Under each clause's hypotheses on the state and the operands alone, exec answers the next state written:
HSM_RETRAIN_REQ, RETRAIN_TRIGGER, CHANNEL_RETRAIN, RETRAIN_END. -/
def Obligations.RetrainingStartsAndEnds : Prop :=
  (∀ (s : State) (w : Writer) (v : Word32), s.Live → s.Accepts w Reg.hsmRetrainReq v.toNat → s.writerDevice w = true →
    bits v.toNat 31 1 = 1 →
    ∃ t, exec (.hsmRetrainReq w v) s = .next t ∧ t.retrainWantedAt (bits v.toNat 0 9) = true ∧ t.regs = s.regs ∧ s.SameHbm t) ∧
  (∀ (s : State) (n : Fin 512) (k : Nat), s.Live → s.chServes n = true → s.tempMoved n = true →
    ∃ t, exec (.retrainTrigger n true (k, none)) s = .next t ∧ t.retrainWantedAt n = true ∧ t.regs = s.regs ∧ s.SameHbm t) ∧
  (∀ (s : State) (n : Fin 512) (k : Nat), s.Live → s.chServes n = true → 64 ≤ k →
    ∃ t, exec (.retrainTrigger n false (k, none)) s = .next t ∧ t.retrainWantedAt n = true ∧
      t.f (Fld.hsmIferr_retries n) = min (s.f (Fld.hsmIferr_retries n) + k) 65535 ∧
      s.SameRegsBut t [Reg.hsmIferr n] ∧ s.SameHbm t) ∧
  (∀ (s : State) (n : Fin 512), s.Live → s.serving = true → s.retrainWantedAt n = true → s.chServes n = true → s.anyStop = false →
    (∀ c < 32, s.f (Fld.hsmChStatus_state (32 * (n / 32) + c)) ≠ 2) →
    ∃ t, exec (.channelRetrain n) s = .next t ∧ t.f (Fld.hsmChStatus_state n) = 2 ∧ t.retrainWantedAt n = false ∧
      t.f (Fld.hsmIferr_retrains n) = min (s.f (Fld.hsmIferr_retrains n) + 1) 65535 ∧
        s.SameRegsBut t [Reg.hsmChStatus n, Reg.hsmIferr n] ∧ s.SameHbm t) ∧
  (∀ (s : State) (n : Fin 512), s.Live → s.f (Fld.hsmChStatus_state n) = 2 →
    ∃ t, exec (.retrainEnd n true) s = .next t ∧ t.f (Fld.hsmChStatus_state n) = s.servingCode n ∧
      t.f (Fld.hsmChStatus_retrain_fails n) = 0 ∧
      Sparse.get (fun _ => 0) t.hsm.trainTemp n = s.f (Fld.hsmStackStatus_temp (n / 32)) ∧ s.SameHbm t) ∧
  (∀ (s : State) (n : Fin 512), s.Live → s.f (Fld.hsmChStatus_state n) = 2 → s.f (Fld.hsmChStatus_retrain_fails n) < 2 →
    ∃ t, exec (.retrainEnd n false) s = .next t ∧ t.f (Fld.hsmChStatus_state n) = s.servingCode n ∧
      t.f (Fld.hsmChStatus_retrain_fails n) = s.f (Fld.hsmChStatus_retrain_fails n) + 1 ∧
      t.retrainWantedAt n = true ∧ s.SameHbm t) ∧
  (∀ (s : State) (n : Fin 512), s.Live → s.f (Fld.hsmChStatus_state n) = 2 → s.f (Fld.hsmChStatus_retrain_fails n) = 2 →
    ∃ t, exec (.retrainEnd n false) s = .next (t.startMapout (n / 32) (n % 32)) ∧
      t.f (Fld.hsmChStatus_state n) = s.servingCode n ∧ s.OnlyRegs t [Reg.hsmChStatus n])

/-- A map-out starts once per stack, drains after its acknowledgement, and cuts over with 31 channels in service. Starting a
map-out names its channel, sets its phase, owes the ledger its entry, and touches no byte of HBM; too many uncorrectable
errors start one and restart the count; a written request starts one; an acknowledgement in the first phase moves it to the
second, puts the channel to migrating and fails what touches lost bytes; the cut-over puts the channel out of service with
31 left and HBM as the migration leaves it. Log entry 27. Under each clause's hypotheses on the state and the operands
alone, exec answers the next state written: UE_LIMIT_EXCEEDED, HSM_MAPOUT_REQ, HSM_MAPOUT_ACK, MAPOUT_CUTOVER. -/
def Obligations.MapOutsRunInPhases : Prop :=
  (∀ (s : State) (h c : Nat), h < 16 → c < 32 → s.f (Fld.hsmStackStatus_state h) ≠ 3 →
    s.flag (Fld.hsmStackStatus_mapped_valid h) = false →
    ∃ t : State, s.startMapout h c = t ∧ t.f (Fld.hsmStackStatus_mapped_ch h) = c ∧
      t.flag (Fld.hsmStackStatus_mapped_valid h) = true ∧
      t.f (Fld.hsmStackStatus_mapout_phase h) = 1 ∧ s.SameHbm t ∧
      s.SameRegsBut t [Reg.hsmStackStatus h, Reg.evrecLost] ∧ t.keep.owed = s.keep.owed ++ [⟨3, h, c, s.keep.seq, s.now⟩]) ∧
  (∀ (s : State) (n : Fin 512), s.Live → s.f Fld.hsmCfg_ue_limit ≠ 0 → s.f Fld.hsmCfg_ue_limit < s.ueCount n →
    ∃ t, exec (.ueLimitExceeded n) s = .next (t.startMapout (n / 32) (n % 32)) ∧ t.ueCount n = 0 ∧ t.regs = s.regs ∧
      t.keep = s.keep ∧ s.SameHbm t) ∧
  (∀ (s : State) (w : Writer) (v : Word32), s.Live → s.Accepts w Reg.hsmMapoutReq v.toNat → s.writerDevice w = true →
    bits v.toNat 31 1 = 1 →
    exec (.hsmMapoutReq w v) s = .next (s.startMapout (bits v.toNat 0 4) (bits v.toNat 4 5))) ∧
  (∀ (s : State) (w : Writer) (v : Word32), s.Live → s.Accepts w Reg.hsmMapoutAck v.toNat → s.writerDevice w = true →
    bits v.toNat 31 1 = 1 →
    s.f (Fld.hsmStackStatus_mapout_phase (bits v.toNat 0 4)) = 1 →
    ∃ t, exec (.hsmMapoutAck w v) s = .next t.failLost ∧ t.f (Fld.hsmStackStatus_mapout_phase (bits v.toNat 0 4)) = 2 ∧
      t.f (Fld.hsmChStatus_state (32 * bits v.toNat 0 4 + s.f (Fld.hsmStackStatus_mapped_ch (bits v.toNat 0 4)))) = 4 ∧
        s.SameHbm t) ∧
  (∀ (s : State) (h : Fin 16), s.Live → s.f (Fld.hsmStackStatus_mapout_phase h) = 2 → s.f (Fld.hsmStackStatus_state h) ≠ 3 →
    s.f Fld.thmSaveStatus_state = 0 →
    ∃ t, exec (.mapoutCutover h) s = .next t ∧ t.f (Fld.hsmStackStatus_mapout_phase h) = 3 ∧
      t.f (Fld.hsmChStatus_state (32 * h + s.f (Fld.hsmStackStatus_mapped_ch h))) = 5 ∧
        t.f (Fld.hsmStackStatus_in_service h) = 31 ∧
      t.mem = (s.migrate h (s.f (Fld.hsmStackStatus_mapped_ch h))).mem ∧
        t.poison = (s.migrate h (s.f (Fld.hsmStackStatus_mapped_ch h))).poison)

/-- Opening, closing, tail writes and resync of stream contexts take effect or show the result that refuses them. An accepted
open fills the context, a refused one shows its result and changes only the status register; an accepted close empties it; a
tail within the ring moves the tail; a resync in ERROR makes the context ready at the head given with nothing fetched, and
any other is noted as bad. Log entry 25. Under each clause's hypotheses on the state and the operands alone, exec answers
the next state written: STRM_OPEN, STRM_CLOSE, STRM_RING_TAIL, STRM_RESYNC. -/
def Obligations.StreamsOpenAndClose : Prop :=
  (∀ (s : State) (w : Writer) (v : Word64), s.Live → s.mayWriteS w = true → bits v.toNat 63 1 = 1 → s.openResult w v.toNat = 0 →
    ∃ t, exec (.strmOpen w v) s = .next t ∧
      t.ctx (bits v.toNat 0 16) = { ctxD 0 with ringBase := s.rd Reg.strmOpenRing / 1024 * 1024, ringLog2 := bits v.toNat 16 5, state := 1, partition := bits v.toNat 22 2, dir := bits v.toNat 21 1, minSlots := bits v.toNat 24 15, maxSlots := bits v.toNat 39 15 } ∧
      t.f Fld.strmOpenStatus_result = 0 ∧ t.f Fld.strmOpenStatus_ctx = bits v.toNat 0 16 ∧
        t.flag Fld.strmOpenStatus_valid = true ∧ t.flag Fld.strmOpenStatus_was_close = false ∧ s.SameHbm t ∧ t.ctl = s.ctl) ∧
  (∀ (s : State) (w : Writer) (v : Word64), s.Live → s.mayWriteS w = true → bits v.toNat 63 1 = 1 → s.openResult w v.toNat ≠ 0 →
    ∃ t, exec (.strmOpen w v) s = .next t ∧ t.f Fld.strmOpenStatus_result = s.openResult w v.toNat % 8 ∧
      t.flag Fld.strmOpenStatus_valid = true ∧ s.OnlyRegs t [Reg.strmOpenStatus]) ∧
  (∀ (s : State) (w : Writer) (v : Word32), s.Live → s.mayWriteS w = true → bits v.toNat 31 1 = 1 → s.closeResult w v.toNat = 0 →
    (s.ctx (bits v.toNat 0 16)).state ≠ 0 →
    ∃ t, exec (.strmClose w v) s = .next t ∧ (t.ctx (bits v.toNat 0 16)).state = 0 ∧ (t.ctx (bits v.toNat 0 16)).held = 0 ∧
      t.f Fld.strmOpenStatus_result = 0 ∧
      t.flag Fld.strmOpenStatus_was_close = true ∧ s.SameHbm t ∧ t.ctl = s.ctl) ∧
  (∀ (s : State) (w : Writer) (v : Word64) (c : Ctx), s.Live → s.Accepts w Reg.strmRingTail v.toNat →
    s.ctx (bits v.toNat 0 16) = c → c.state ≠ 0 → s.writerPasses w c.partition = true →
    (2 ^ 32 + bits v.toNat 32 32 - c.head) % 2 ^ 32 ≤ 2 ^ c.ringLog2 →
      (2 ^ 32 + c.tail - c.head) % 2 ^ 32 ≤ (2 ^ 32 + bits v.toNat 32 32 - c.head) % 2 ^ 32 →
    exec (.strmRingTail w v) s = .next (s.setCtx (bits v.toNat 0 16) { c with tail := bits v.toNat 32 32 })) ∧
  (∀ (s : State) (w : Writer) (v : Word64) (c : Ctx), s.Live → s.Accepts w Reg.strmResync v.toNat →
    s.ctx (bits v.toNat 0 16) = c → c.state = 2 → s.writerPasses w c.partition = true →
    (2 ^ 32 + c.tail - bits v.toNat 32 32) % 2 ^ 32 ≤ 2 ^ c.ringLog2 →
    exec (.strmResync w v) s = .next ((s.setCtx (bits v.toNat 0 16)
      { c with state := 1, head := bits v.toNat 32 32, position := 0, fetched := [], held := c.granted }).poolUpdate (ctxHome (bits v.toNat 0 16)))) ∧
  (∀ (s : State) (w : Writer) (v : Word64) (c : Ctx), s.Live → s.Accepts w Reg.strmResync v.toNat →
    s.ctx (bits v.toNat 0 16) = c → c.state ≠ 2 →
    ∃ t, exec (.strmResync w v) s = .next t ∧ t.strm = s.strm ∧ t.flag Fld.strmErr_resync_bad = true ∧
      t.f Fld.strmErr_last_ctx = bits v.toNat 0 16 ∧ s.SameHbm t)

/-- Descriptor bursts, slot grants, the wait limit and tile fetches move a context or an array's weight area on as the rules
give. A burst fetch for the operation whose turn it is takes the entries to the end of their 16-entry block, holds a slot
for them and counts a burst and its 1,024 bytes, or waits for a slot where none may be taken; a grant adds one slot and ends
the wait, and drains the context's oldest output tile to HBM where one waits; without a grant the wait's start is kept; past
the limit the wait is told once; a tile fetch reads a tile the array is due, or else the next one of the standing prefetch
claim. Log entries 24 and 25. Under each clause's hypotheses on the state and the operands alone, exec answers the next
state written: DESCRIPTOR_BURST_FETCH, POOL_SLOT_GRANT, STREAM_WAIT_LIMIT, PREFETCH_FILL. -/
def Obligations.StreamsFetchAndWait : Prop :=
  (∀ (s : State) (i : Fin 65536) (slot : Nat) (o : Op) (c : Ctx) (n : Nat) (burst : List (Nat × Option (List Byte))), s.Live →
    slot < 4096 → s.ctx i = c →
    s.ctxTurn i = some (slot, o) → c.state = 1 → s.serving = true → s.opSettled slot = false → s.slotCan i 1 = true →
    n = min ((2 ^ 32 + c.tail - (c.head + c.fetched.flatten.length) % 2 ^ 32) % 2 ^ 32) (16 - (c.head + c.fetched.flatten.length) % 2 ^ 32 % 16) →
      0 < n →
    burst = (List.range n).map (fun k => ((((c.head + c.fetched.flatten.length) % 2 ^ 32 + k) % 2 ^ 32), if s.poisoned (c.ringAddr (((c.head + c.fetched.flatten.length) % 2 ^ 32 + k) % 2 ^ 32)) 64 then none else some (s.bytes (c.ringAddr (((c.head + c.fetched.flatten.length) % 2 ^ 32 + k) % 2 ^ 32)) 64))) →
    ∃ u : State, exec (.burstFetch i) s = .next (if s.opRunning slot o.admitNo then u.kernFeed slot o else u) ∧
      u.ctx i = { c with fetched := c.fetched ++ [burst], held := c.fetched.length + 1 + c.granted, boundSlot := slot, waitSince := 0, waitTold := false } ∧
      u.f (Fld.strmBursts_bursts (ctxHome i)) = (s.f (Fld.strmBursts_bursts (ctxHome i)) + 1) % 2 ^ 64 ∧
      u.f (Fld.strmBytesRd_bytes (ctxHome i)) = (s.f (Fld.strmBytesRd_bytes (ctxHome i)) + 1024) % 2 ^ 64 ∧ s.SameHbm u ∧
        u.ctl = s.ctl) ∧
  (∀ (s : State) (i : Fin 65536) (slot : Nat) (o : Op) (c : Ctx), s.Live → s.ctx i = c → s.ctxTurn i = some (slot, o) →
    c.state = 1 → s.serving = true →
    s.opSettled slot = false → c.tail ≠ (c.head + c.fetched.flatten.length) % 2 ^ 32 → c.tail < 2 ^ 32 → s.slotCan i 1 = false →
    exec (.burstFetch i) s = .next (let u := s.waitFor i 0; if s.opRunning slot o.admitNo then u.kernFeed slot o else u) ∧
      (s.waitFor i 0).ctx i = (if c.waitSince ≠ 0 then { c with waitKind := 0 } else { c with waitSince := max s.now 1, waitKind := 0, waitTold := false, waitPaused := 0, waitStopped := if s.clockStopped c.partition then some s.now else none })) ∧
  (∀ (s : State) (i : Fin 65536) (c : Ctx) (kind : Fin 3), s.Live → s.ctx i = c → s.ctxNamed i = true → c.state = 1 →
    s.spaceFor i = true → s.slotCan i 0 = true → s.outTile i = none →
    ∃ t : State, exec (.slotGrant i true kind) s = .next t ∧
      t.ctx i = { c with granted := c.granted + 1, held := c.fetched.length + (c.granted + 1), waitSince := 0, waitTold := false } ∧
      s.SameHbm t ∧ t.ctl = s.ctl) ∧
  (∀ (s : State) (i : Fin 65536) (c : Ctx) (kind : Fin 3) (a : Nat) (o : OutTile), s.Live → s.ctx i = c → s.ctxNamed i = true →
    c.state = 1 → s.spaceFor i = true → s.slotCan i 0 = true → s.outTile i = some (a, o) →
    s.serving = true → s.quiet c.partition = false →
    ∃ v t : State, exec (.slotGrant i true kind) s = .next t ∧
      v.ctx i = { c with granted := c.granted + 1, held := c.fetched.length + (c.granted + 1), waitSince := 0, waitTold := false } ∧
      v.comp = s.comp ∧ v.ctl = s.ctl ∧
      s.SameHbm v ∧ t = v.drainTile a o ∧ t.mem = (v.writeUnits o.writes).mem ∧ t.poison = (v.writeUnits o.writes).poison) ∧
  (∀ (s : State) (i : Fin 65536) (kind : Fin 3), s.Live → s.ctxNamed i = true → (s.ctx i).state = 1 →
    exec (.slotGrant i false kind) s = .next (s.waitFor i kind)) ∧
  (∀ (s : State) (i : Fin 65536) (c : Ctx), s.Live → s.ctx i = c → c.waitSince ≠ 0 → c.waitTold = false →
    s.flag Fld.strmWdogCfg_enable = true → s.f Fld.strmWdogCfg_limit_us * 475 < s.waited c →
    ∃ t : State, exec (.waitLimit i) s = .next t ∧
      t.ctx i = { c with waitTold := true } ∧
      t.f Fld.strmWdogStat_waits = min (s.f Fld.strmWdogStat_waits + 1) (2 ^ 32 - 1) ∧
      t.f Fld.strmWdogStat_last_ctx = i ∧
      t.flag Fld.strmErr_wdog = true ∧
      t.f Fld.strmErr_last_ctx = i ∧
      s.SameHbm t ∧ t.ctl = s.ctl) ∧
  (∀ (s : State) (a : Fin 4) (c : PfClaim) (o : Op) (d : Desc) (i : PassId), s.Live → s.serving = true → (s.arr a).due = [] →
    s.claim a = some c → s.op c.slot = some o → o.admitNo = c.admitNo → (o.met1 = true ∨ o.wait1 = 0xFFFF) →
    s.peekStat o = some d →
    (((s.pfRun o d).passesOn a c.slot).take c.tiles).find? (fun i => (s.arr a).pf.all (fun g => g.id != i)) = some i →
    s.tileWaits (s.pfRun o d) i = false → (s.fetchTile (s.pfRun o d) i).any (fun e => e.2 == .poison || e.2 == .bad) = false →
    ∃ t : State, exec (.prefetchFill a) s = .next t ∧
      t.arr a = { s.arr a with pf := (s.arr a).pf ++ [⟨i, tileBits (s.fetchTile (s.pfRun o d) i)⟩] } ∧
      s.SameHbm t ∧ t.ctl = s.ctl) ∧
  (∀ (s : State) (a : Fin 4) (m : MmRun) (o : Op) (i : PassId) (l : List PassId), s.Live → s.serving = true →
    (s.arr a).due = i :: l → s.mm i.slot = some m → s.op i.slot = some o → s.tileWaits m i = false →
    (s.fetchTile m i).any (fun e => e.2 == .poison || e.2 == .bad) = false →
    ∃ t : State, exec (.prefetchFill a) s = .next t ∧
      t.arr a = { s.arr a with own := (s.arr a).own ++ [⟨i, tileBits (s.fetchTile m i)⟩], due := l } ∧
      s.SameHbm t ∧ t.ctl = s.ctl)

/-- MOVE, COPY, TRANSPOSE, EXPAND_E2M1, REDUCE_ADD, APPLY, COLMAX and TRAFFIC_TEST write what their operands and rules give.
With both contexts' descriptors taken, which changes no byte: a move, a copy, a transposition, an E2M1 expansion, an add of
two operands, an apply and a column maximum leave HBM as the write of exactly the units the rules give of the source bytes
leaves it, and end OK; an apply of a discarded step ends STEP_DISCARDED; a traffic test leaves its tested bytes free and
writes what it found into its block. A byte read at a place outside the units written reads as before, and a stored byte
reads back. Rounding of BF16 sums and element order are the model's readings (log entries 10, 25, 27 and 48). Under each
clause's hypotheses on the state and the operands alone, exec answers the next state written: MOVE, COPY, TRANSPOSE,
EXPAND_E2M1, REDUCE_ADD, TRAFFIC_TEST, APPLY, COLMAX. -/
def Obligations.MovesAndCopiesCarryTheBytes : Prop :=
  (∀ (s : State) (slot : Nat) (o : Op) (ks kd : Take) (ds : List DescP), (s.streamTaken slot o ks kd ds).mem = s.mem ∧
    (s.streamTaken slot o ks kd ds).poison = s.poison ∧ (s.streamTaken slot o ks kd ds).fresh = s.fresh) ∧
  (∀ (s : State) (a : Nat) (bs : List Byte) (i : Nat), i < bs.length → (s.keyOf (a + i)).isSome = true →
    (∀ j, j < bs.length → j ≠ i → s.keyOf (a + j) ≠ s.keyOf (a + i)) →
    (s.store a bs).byte (a + i) = bs.getD i 0#8) ∧
  (∀ (s : State) (a b : Nat) (bs : List Byte), (∀ i, i < bs.length → s.keyOf (a + i) ≠ s.keyOf b) →
    (s.store a bs).byte b = s.byte b) ∧
  (∀ (s : State) (ws : List (Nat × List Byte)) (b : Nat), (∀ w ∈ ws, ∀ i, i < w.2.length → s.keyOf (w.1 + i) ≠ s.keyOf b) →
    (s.writeUnits ws).byte b = s.byte b) ∧
  (∀ (s : State) (slot : Fin 4096) (o : Op) (ks kd : Take) (ss ds : List DescP) (u : State), s.StreamDue slot 0 o Desc.bytes (o.b 0x30 8) ks kd ss ds →
    u = s.streamTaken slot o ks kd ds →
    sameShape ss ds = true → u.anyPoison (takenUnits ss) (takenUnit ss) = false →
    ∃ t : State, exec (.move slot) s = .next (t.finish slot Res.ok) ∧
      t.mem = (u.writeUnits (u.copyWrites ss ds)).mem ∧ t.poison = (u.writeUnits (u.copyWrites ss ds)).poison) ∧
  (∀ (s : State) (slot : Fin 4096) (o : Op) (ks kd : Take) (ss ds : List DescP) (u : State), s.StreamDue slot 1 o Desc.bytes (o.b 0x30 8) ks kd ss ds →
    u = s.streamTaken slot o ks kd ds →
    sameShape ss ds = true → pairsOneStack ss ds = true →
    ∃ t : State, exec (.copy slot) s = .next (t.finish slot Res.ok) ∧
      t.mem = (u.writeUnits (u.copyWrites ss ds)).mem ∧
      t.poison = ((u.poisonedDest ss ds).foldl (fun x k => x.setPoison (32 * k) true) (u.writeUnits (u.copyWrites ss ds))).poison) ∧
  (∀ (s : State) (slot : Fin 4096) (o : Op) (ks kd : Take) (ss ds : List DescP) (u : State), s.StreamDue slot 3 o Desc.bytes (o.b 0x30 8) ks kd ss ds →
    u = s.streamTaken slot o ks kd ds →
    sameShape ss ds = true → ss.all (fun d => d.1.xpose && [0, 1, 2, 3, 4].contains d.1.fmtCode) = true →
      u.anyPoison (takenUnits ss) (takenUnit ss) = false →
    ∃ t : State, exec (.transpose slot) s = .next (t.finish slot Res.ok) ∧
      t.mem = (u.writeUnits (u.copyWrites ss ds)).mem ∧ t.poison = (u.writeUnits (u.copyWrites ss ds)).poison) ∧
  (∀ (s : State) (slot : Fin 4096) (o : Op) (ks kd : Take) (ss ds : List DescP) (u : State) (es : List (Option Nat × Bool)), s.StreamDue slot 4 o Desc.elements (o.b 0x30 8 / 528 * 1024) ks kd ss ds →
    u = s.streamTaken slot o ks kd ds →
    takenFmt ss = some 5 → takenFmt ds = some 2 → o.b 0x30 8 % 528 = 0 → es = u.expandRead ss →
      es.all (fun e => e.1.isSome && !e.2) = true →
    ∃ t : State, exec (.expandE2m1 slot) s = .next (t.finish slot Res.ok) ∧
      t.mem = (u.writeUnits ((takenUnits ds).zip (es.map (fun e => toLE 1 (e.1.getD 0))))).mem) ∧
  (∀ (s : State) (slot : Fin 4096) (o : Op) (ks kd : Take) (ss ds : List DescP) (u : State), s.StreamDue slot 2 o Desc.bytes (o.b 0x30 8) ks kd ss ds →
    u = s.streamTaken slot o ks kd ds →
    sameShape ss ds = true → (takenFmt ss = some 0 ∨ takenFmt ss = some 1 ∨ takenFmt ss = some 6) →
    (o.b 0x29 1 % 2 = 1 → takenFmt ss = some 6 ∧ ss.all (fun d => d.1.elements % 2 == 0) = true ∧
      ds.all (fun d => d.1.elements % 2 == 0) = true) →
    u.anyPoison (takenUnits ss) (takenUnit ss) = false → u.anyPoison (takenUnits ds) (takenUnit ss) = false →
    ∃ t : State, exec (.reduceAdd slot) s = .next (t.finish slot Res.ok) ∧
      t.mem = (u.addAll (u.heritage (u.opPart o)) (o.b 0x29 1 % 2 == 1) ((takenFmt ss).getD 0) (takenUnit ss) (fun _ => true) (takenUnits ds)
        ((takenUnits ss).map (fun a => u.word a (takenUnit ss)))).mem) ∧
  (∀ (s : State) (slot : Fin 4096) (o : Op) (k : Take) (as ds : List DescP) (h : Nat) (errors first pass actual : Word64) (u : State), s.Live →
    s.issuableStream slot 7 = some o →
    s.takeSide o 1 false Desc.bytes (o.b 0x30 8) = k → k = .ok as h → ds = o.gotOf 1 ++ as →
    (takenUnits ds).any (fun a => s.chanWaits a (takenUnit ds)) = false → s.chanWaits (o.b 0x38 8) 64 = false →
    u = (((s.issue slot).consumeSide slot o 1 k).advanceRng (o.b 0x24 4) (total Desc.elements ds)).noteOut slot [(o.b 0x38 8 + 0x10, 32)] →
    u.poisoned (o.b 0x38 8) 64 = false → testBlockOk (u.bytes (o.b 0x38 8) 64) = true →
    ∃ t : State, exec (.trafficTest slot errors first pass actual) s = .next (t.finish slot Res.ok) ∧
      t.mem = (((takenUnits ds).foldl (fun x a => x.storeFree a (takenUnit ds)) (u.useFresh 3)).store (o.b 0x38 8 + 0x10)
        (u.testFields (o.b 0x38 8) errors.toNat first.toNat pass.toNat actual.toNat (sectorsOf ((takenUnits ds).map (fun a => (a, List.replicate (takenUnit ds) 0#8)))))).mem) ∧
  (∀ (s : State) (slot : Fin 4096) (o : Op) (ks kd : Take) (ss ds : List DescP) (u : State), s.StreamDue slot 6 o Desc.bytes (o.b 0x30 8) ks kd ss ds →
    u = s.streamTaken slot o ks kd ds → s.applyWaits o = false →
    takenFmt ss = some 0 → takenFmt ds = some 0 → u.red.discarded.contains (u.opPart o, o.stamp - 1) = true →
    exec (.apply slot) s = .next (u.finish slot Res.stepDiscarded)) ∧
  (∀ (s : State) (slot : Fin 4096) (o : Op) (ks kd : Take) (ss ds : List DescP) (u : State) (xs : List ApplyElem), s.StreamDue slot 6 o Desc.bytes (o.b 0x30 8) ks kd ss ds →
    u = s.streamTaken slot o ks kd ds → s.applyWaits o = false →
    takenFmt ss = some 0 → takenFmt ds = some 0 → u.red.discarded.contains (u.opPart o, o.stamp - 1) = false →
    xs = u.applyElems (u.heritage (u.opPart o)) o (s.rngBase (o.b 0x24 4) o.stamp) ss ds →
      ((xs.zip (takenUnits ss)).all (fun e => !u.elemPoison o e.1 e.2)) = true →
    ∃ t : State, exec (.apply slot) s = .next (if testBit (hyperFlags o.block) 0 && u.twinState == 2 then t.sendApplyMirror slot o xs else t.finish slot Res.ok) ∧
      t.mem = (u.writeUnits (xs.flatMap (fun x => x.writes (o.b 0x29 1)))).mem) ∧
  (∀ (s : State) (slot : Fin 4096) (o : Op) (ks kd : Take) (as bs ss ds : List DescP) (hs hd : Nat) (u : State), s.Live →
    s.issuableStream slot 5 = some o → testBit (o.b 0x29 1) 1 = false →
    s.takeSide o 0 true Desc.bytes (o.b 0x30 8) = ks → ks = .ok as hs → ss = o.gotOf 0 ++ as →
    s.takeSide o 1 false Desc.elements (total Desc.elements ss) = kd → kd = .ok bs hd → ds = o.gotOf 1 ++ bs →
      s.sidesWait ss ds = false →
    s.colmaxWaits (o.b 0x38 8) ss (ds.filterMap (fun d => d.2.map (fun pl => (pl, d.1.elements)))) = false →
    u = (((s.issue slot).consumeSide slot o 0 ks).consumeSide slot o 1 kd).advanceRng (o.b 0x24 4) (total Desc.elements ss) →
    exec (.colmax slot) s = .next (u.colmaxChecked slot o ss ds none (s.rngBase (o.b 0x24 4) o.stamp) ((takenFmt ds).getD 15))) ∧
  (∀ (s : State) (slot : Fin 4096) (o : Op) (ks : Take) (as ss : List DescP) (hs hd : Nat) (pl : Plane) (u : State), s.Live →
    s.issuableStream slot 5 = some o → testBit (o.b 0x29 1) 1 = true →
    s.takeSide o 0 true Desc.bytes (o.b 0x30 8) = ks → ks = .ok as hs → ss = o.gotOf 0 ++ as →
    s.takePlane (o.b 0x24 4) = some (.ok (pl, hd)) → s.sidesWait ss [] = false →
      s.colmaxWaits (o.b 0x38 8) ss [(pl, total Desc.elements ss)] = false →
    u = (((s.issue slot).consumeSide slot o 0 ks).consume slot (o.b 0x24 4) hd [] true).useFresh 1 →
    exec (.colmax slot) s = .next (u.colmaxChecked slot o ss [] (some pl) 0 (2 + (Config.freeWord s.fresh).toNat % 4))) ∧
  (∀ (u : State) (slot : Nat) (o : Op) (ss ds : List DescP) (one : Option Plane) (base fmt : Nat) (cols : List Column) (gs : List ColGroup), ss.findSome? (u.colmaxSource (u.opPart o)) = none →
    cols = u.colmaxRead (u.heritage (u.opPart o)) ss 0 → cols.all (fun c => c.length == (cols.headD []).length) = true →
    (match one with | some pl => some [ColGroup.mk 0 cols pl none] | none => colGroups fmt ds cols 0 0) = some gs →
    (fmt = 2 ∨ fmt = 3 ∨ fmt = 4 ∨ fmt = 5) → gs.all (fun g => g.plane.chunks == g.chunks) = true →
      gs.findSome? (fun g => u.planeAddrFault (u.opPart o) true g.plane g.cols.length) = none →
    u.ownsRange (u.opPart o) (o.b 0x38 8) (4 * cols.length * ceilDiv (cols.headD []).length 1024) = true →
    u.inWindow (u.opPart o) (o.b 0x38 8) (4 * cols.length * ceilDiv (cols.headD []).length 1024) = false →
      ss.any (fun d => u.anyPoison d.1.addrs d.1.unit) = false →
    ∃ t : State, u.colmaxChecked slot o ss ds one base fmt = t.finish slot Res.ok ∧
      t.mem = (u.writeUnits (gs.flatMap (fun g => g.entries (o.b 0x38 8)) ++
        gs.flatMap (fun g => g.planes (g.scales (u.heritage (u.opPart o)) (fmtD fmt))) ++
        (gs.flatMap (fun g => g.narrow (u.heritage (u.opPart o)) fmt (g.scales (u.heritage (u.opPart o)) (fmtD fmt)) (fun e =>
          if o.b 0x29 1 % 2 = 1 then Rnd.stoch (drawElem (u.seed (u.opPart o)) (u.rngStep (u.opPart o) o.stamp) (o.b 0x24 4) base e) else Rnd.rne))).map
          (fun w => (w.addr, w.bytes)))).mem)

/-- A vector fault re-executes to the limit and then fails its kernel; tile-store errors are counted or fail their owner. Below
the re-execution limit a vector fault restarts the vector and counts an attempt; at the limit the vector's KERNEL or MATMUL
fails with HW_FAULT, the fault is shown and, with auto_spare, the engine fails; a corrected tile-store error only counts,
with its event; an uncorrectable one shows its address and then fails what owned the bytes. Log entry 23. Under each
clause's hypotheses on the state and the operands alone, exec answers the next state written: VECTOR_FAULT,
TILE_STORE_ECC_ERROR. -/
def Obligations.EngineFaultsAreRetriedThenDeclared : Prop :=
  (∀ (s : State) (e : Fin 64) (parity : Bool) (k : Task), s.Live → s.currentTask e = some k → s.engRuns e k = true →
    k.attempts < s.f (Fld.teCtrl_reexec_limit e) →
    ∃ t : State, exec (.vectorFault e parity) s = .next (t.putTask e { k.restart with attempts := k.attempts + 1 }) ∧
      t.flag (if parity then Fld.teFault_reg_parity e else Fld.teFault_dp_residue e) = true ∧
        t.f (Fld.teFault_reexecs e) = min (s.f (Fld.teFault_reexecs e) + 1) 65535 ∧ s.OnlyRegs t [Reg.teFault e]) ∧
  (∀ (s : State) (e : Fin 64) (parity : Bool) (k : Task), s.Live → s.currentTask e = some k → s.engRuns e k = true →
    s.f (Fld.teCtrl_reexec_limit e) ≤ k.attempts →
    ∃ t u : State, u = (if k.kind = 0 then t.failKernel k.slot Res.hwFault else t.failMatmul k.slot Res.hwFault) ∧
      exec (.vectorFault e parity) s = .next (if u.flag (Fld.teCtrl_auto_spare e) then u.engineFailed e else u) ∧
      t.flag (Fld.teFault_reexec_exhausted e) = true ∧ s.OnlyRegs t [Reg.teFault e]) ∧
  (∀ (s : State) (e : Fin 64) (addr : Fin 8388608) (owner : Fin 3) (slot : Fin 4096) (l : Nat), s.Live →
    ∃ t : State, exec (.tileStoreEcc e addr true owner slot l) s = .next t ∧
      t.f (Fld.teFault_store_ce e) = min (s.f (Fld.teFault_store_ce e) + 1) 65535 ∧
      (t.eng e).ceTimes = (s.eng e).ceTimes.filter (fun k => decide (s.now - k < 475000000)) ++ [s.now] ∧
      s.SameRegsBut t [Reg.teFault e, Reg.evrecLost] ∧
      s.SameHbm t ∧ t.ctl = s.ctl) ∧
  (∀ (s : State) (e : Fin 64) (addr : Fin 8388608) (owner : Fin 3) (slot : Fin 4096) (l : Nat), s.Live →
    ∃ t : State, exec (.tileStoreEcc e addr false owner slot l) s = .next (t.storeError e addr owner slot l) ∧
      t.flag (Fld.teFault_store_ue e) = true ∧ t.f (Fld.teFault_last_addr e) = addr ∧
      s.SameRegsBut t [Reg.teFault e, Reg.evrecLost] ∧ t.ctl = s.ctl ∧ t.comp = s.comp ∧ s.SameHbm t)

/-- A spare engine is asked for, self-tested, loaded and cut in, and the switch is told and kept. A written request, a limit of
corrected errors or a failed engine starts a switch when the stack's spare is free; its self-test, copy and cut-over move
the switch on, the target serving until cut-over unless it failed; the cut-over puts the engine on the spare, owes the keep
ledger its entry and counts; a failed self-test ends the switch. Log entries 23 and 40. Under each clause's hypotheses on
the state and the operands alone, exec answers the next state written: TE_SPARE_CTRL, CE_LIMIT_EXCEEDED,
SPARE_SELF_TEST_DONE, SPARE_COPY_DONE, SPARE_CUTOVER. -/
def Obligations.SpareEnginesSwitchIn : Prop :=
  (∀ (s : State) (w : Writer) (cs : Fin 4) (v : Word32), s.Live → s.Accepts w (Reg.teSpareCtrl cs) v.toNat →
    bits v.toNat 8 1 = 1 → s.f (Fld.teSpareStatus_state cs) = 0 →
    ∃ t : State, exec (.teSpareCtrl w cs v) s = .next t ∧
      t.f (Fld.teSpareStatus_state cs) = 1 ∧
      t.spare cs = some ⟨bits v.toNat 0 4, 2⟩ ∧
      (∀ e : Nat, e < 64 → t.f (Fld.teStatus_state e) = s.f (Fld.teStatus_state e)) ∧
      s.SameHbm t ∧ t.ctl = s.ctl) ∧
  (∀ (s : State) (e : Fin 64), s.Live → s.f (Fld.teCtrl_ce_limit e) ≠ 0 →
    s.f (Fld.teCtrl_ce_limit e) < ((s.eng e).ceTimes.filter (fun k => decide (s.now - k < 475000000))).length →
    s.f (Fld.teSpareStatus_state (e / 16)) = 0 →
    ∃ t : State, exec (.ceLimitExceeded e) s = .next t ∧
      t.f (Fld.teSpareStatus_state (e / 16)) = 1 ∧
      t.f (Fld.teStatus_state e) = s.f (Fld.teStatus_state e) ∧
      t.spare (e / 16) = some ⟨e % 16, 1⟩ ∧
      (t.eng e).ceTimes = [] ∧
      s.SameHbm t ∧ t.ctl = s.ctl) ∧
  (∀ (s : State) (e : Nat), s.f (Fld.teSpareStatus_state (e / 16)) = 0 → e < 64 →
    (s.engineFailed e).flag (Fld.teFault_failed e) = true ∧ (s.engineFailed e).f (Fld.teSpareStatus_state (e / 16)) = 1 ∧
      (s.engineFailed e).f (Fld.teStatus_state e) = 2 ∧ (s.engineFailed e).spare (e / 16) = some ⟨e % 16, 0⟩) ∧
  (∀ (s : State) (cs : Fin 4) (x : Spare), s.Live → s.spare cs = some x → s.f (Fld.teSpareStatus_state cs) = 1 →
    ∃ t : State, exec (.spareSelfTestDone cs true) s = .next t ∧
      t.f (Fld.teSpareStatus_state cs) = 2 ∧
      t.f (Fld.teSpareStatus_serving cs) = x.target % 16 ∧
      s.OnlyRegs t [Reg.teSpareStatus cs]) ∧
  (∀ (s : State) (cs : Fin 4) (x : Spare), s.Live → s.spare cs = some x → s.f (Fld.teSpareStatus_state cs) = 1 → x.trigger ≠ 0 →
    x.target < 16 →
    ∃ t : State, exec (.spareSelfTestDone cs false) s = .next t ∧
      t.f (Fld.teSpareStatus_state cs) = 5 ∧
      t.spare cs = none ∧
      s.SameHbm t ∧ t.ctl = s.ctl) ∧
  (∀ (s : State) (cs : Fin 4) (x : Spare), s.Live → s.spare cs = some x → s.f (Fld.teSpareStatus_state cs) = 2 → x.target < 16 →
    ∃ t : State, exec (.spareCopyDone cs) s = .next t ∧
      t.f (Fld.teSpareStatus_state cs) = 3 ∧
      t.f (Fld.teStatus_state (16 * cs + x.target)) = 2 ∧
      s.OnlyRegs t [Reg.teSpareStatus cs, Reg.teStatus (16 * cs + x.target)]) ∧
  (∀ (s : State) (cs : Fin 4) (x : Spare), s.Live → s.spare cs = some x → x.target < 16 → s.f (Fld.teSpareStatus_state cs) = 3 →
    (s.arr cs).flight = [] → (∀ t ∈ (s.eng (16 * cs + x.target)).tasks, t.pos = 0) →
    ∃ t : State, exec (.spareCutover cs) s = .next t ∧
      t.f (Fld.teSpareStatus_state cs) = 4 ∧
      t.flag (Fld.teStatus_on_spare (16 * cs + x.target)) = true ∧
      t.f (Fld.teStatus_state (16 * cs + x.target)) < 2 ∧
      t.comp.keepSwitches = s.comp.keepSwitches ++ [(cs.val, x.target)] ∧
      s.SameHbm t ∧ t.ctl = s.ctl)

/-- Lane loss, idle and data flits, acknowledgements, replays and credits change a link as the rules give. A lost lane leaves
the lock mask and, with too few left, takes the port down; a relaned link goes on with what is left; flits in and out of
order are taken, repeated or refused with a NAK; acknowledgements free the retry buffer; time-outs replay; credits return to
their channel; a packet starts only with credit. Log entry 28. Under each clause's hypotheses on the state and the operands
alone, exec answers the next state written: LANE_BAD, RELANE_DONE, LOCK_TIMEOUT, DATA_FLIT, IDLE_FLIT, LINK_FLIT,
REPLAY_TIMEOUT, ACK_TIMER, CREDIT_RETURN, PACKET_START. -/
def Obligations.LinksLoseLanesReplayAndReturnCredit : Prop :=
  (∀ (s : State) (n : Fin 12) (l : Fin 16), s.Live → s.portState n = 5 → testBit (s.f (Fld.lnkStatus_lane_good n)) l = true →
    testBit (s.port n).inUse l = true → s.lanesAfter n (s.f (Fld.lnkStatus_lane_good n) - 2 ^ l.val) ≠ 0 →
    ∃ t : State, exec (.laneBad n l) s = .next t ∧
      t.portState n = 6 ∧
      t.f (Fld.lnkStatus_lane_good n) = s.f (Fld.lnkStatus_lane_good n) - 2 ^ l.val ∧
      t.f (Fld.lnkErr_relanes n) = min (s.f (Fld.lnkErr_relanes n) + 1) 255 ∧
      t.links.out = s.links.out ++ [(n.val, (Flit.link 0 (s.f (Fld.lnkStatus_lane_good n) - 2 ^ l.val)).toBytes (s.ackOf n))] ∧
      s.SameHbm t ∧ t.ctl = s.ctl) ∧
  (∀ (s : State) (n : Fin 12) (lanes : Nat), s.Live → s.portState n = 6 →
    lanes = s.lanesAfter n (s.f (Fld.lnkStatus_lane_good n) &&& (s.port n).farMask) → lanes ≠ 0 →
    ∃ t : State, exec (.relaneDone n) s = .next t ∧
      t.portState n = 5 ∧
      (t.port n).inUse = lanes ∧
      s.SameHbm t ∧ t.ctl = s.ctl) ∧
  (∀ (s : State) (n : Fin 12), s.Live → s.portHears n = true → s.lanesAfter n (s.f (Fld.lnkStatus_lane_good n)) = 0 →
    ∃ t : State, exec (.lockTimeout n) s = .next (t.portDown n) ∧ t.flag (Fld.lnkEvent_lock_timeout n) = true ∧
      s.OnlyRegs t [Reg.lnkEvent n]) ∧
  (∀ (s : State) (n : Fin 12) (fl : List Byte) (ue : Bool) (u : State), s.Live → s.portHears n = true → flitGood fl ue = true →
    flitType fl = 1 → u = s.readFlit n fl → u.portHears n = true → fieldLE fl 0 2 = (u.port n).expSeq →
    testBit (fieldLE fl 4 1) 3 = true → testBit (fieldLE fl 4 1) 4 = true →
    ∃ t : State, exec (.dataFlit n fl ue) s = .next t ∧
      (t.port n).expSeq = ((u.port n).expSeq + 1) % 65536 ∧
      (t.port n).rx = (u.port n).rx ++ [(bits (fieldLE fl 4 1) 0 3, Packet.ofBytes ((fl.drop 8).take 244), 1)] ∧
      t.f (Fld.lnkFlitsRx_flits n) = (u.f (Fld.lnkFlitsRx_flits n) + 1) % 2 ^ 64) ∧
  (∀ (s : State) (n : Fin 12) (fl : List Byte), s.Live → s.portHears n = true → flitGood fl false = false →
    (s.port n).nakSent = false →
    ∃ t : State, exec (.dataFlit n fl false) s = .next t ∧
      t.f (Fld.lnkErr_crc_bad n) = min (s.f (Fld.lnkErr_crc_bad n) + 1) 65535 ∧
      (t.port n).nakSent = true ∧
      (t.port n).rx = (s.port n).rx ∧
      t.links.out = s.links.out ++ [(n.val, ({ Flit.idle with nak := true } : Flit).toBytes (s.ackOf n))] ∧
      s.SameHbm t ∧ t.ctl = s.ctl) ∧
  (∀ (s : State) (n : Fin 12) (fl : List Byte) (ue : Bool), s.Live → s.portHears n = true → flitGood fl ue = true →
    (flitType fl = 0 ∨ flitType fl = 3) →
    exec (.idleFlit n fl ue) s = .next (s.readFlit n fl)) ∧
  (∀ (s : State) (n : Fin 12) (fl : List Byte) (ue : Bool) (u : State), s.Live → s.portHears n = true → flitGood fl ue = true →
    flitType fl = 2 → u = s.readFlit n fl → u.portState n = 5 → fieldLE fl 10 1 = 0 →
    ∃ t : State, exec (.linkFlit n fl ue) s = .next t ∧
      t.portState n = 6 ∧
      (t.port n).farMask = fieldLE fl 8 2 ∧
      t.links.out = u.links.out ++ [(n.val, (Flit.link 0 (u.f (Fld.lnkStatus_lane_good n))).toBytes (u.ackOf n))]) ∧
  (∀ (s : State) (n : Fin 12) (q : Nat), s.Live → s.portState n = 5 → (s.port n).oldest = some q → (s.port n).replayFails < 15 →
    ∃ t : State, exec (.replayTimeout n) s = .next t ∧ t.f (Fld.lnkErr_replays n) = min (s.f (Fld.lnkErr_replays n) + 1) 65535 ∧
      t.links.out = s.links.out ++ retryFlits n (s.ackOf n) (s.port n).retry ∧
      t.f (Fld.lnkFlitsTx_flits n) = (s.f (Fld.lnkFlitsTx_flits n) + (s.port n).unackedTx) % 2 ^ 64 ∧
        (t.port n).retry = (s.port n).retry ∧ s.SameHbm t ∧ t.ctl = s.ctl) ∧
  (∀ (s : State) (n : Fin 12), s.Live → s.portHears n = true → 0 < (s.port n).unacked →
    exec (.ackTimer n) s = .next (s.sendFlit n Flit.idle) ∧
      (s.sendFlit n Flit.idle).links.out = s.links.out ++ [(n.val, Flit.idle.toBytes (s.ackOf n))] ∧
      ((s.sendFlit n Flit.idle).port n).unacked = 0) ∧
  (∀ (s : State) (n : Fin 12) (vc : Fin 8) (e : Nat × Nat), s.Live → s.portUp n = true →
    (s.port n).owed.find? (fun e => e.1 == vc.val) = some e → 32 ≤ e.2 → s.saving = false →
    exec (.creditReturn n vc) s = .next ((s.setPort n { s.port n with owed := (s.port n).owed.filter (fun e => e.1 != vc.val) }).sendFlit n { Flit.idle with creditVc := vc, credits := e.2 })) ∧
  (∀ (s : State) (n : Fin 12) (i : Nat) (p : TxPacket), s.Live → s.portState n = 5 → s.readyPacket n 0 = some (i, p) →
    ∃ t : State, exec (.packetStart n) s = .next t ∧ t = s.transmit n i p ∧
      t.links.out = s.links.out ++ dataFlits n p (s.port n).txSeq 0 (s.ackOf n) ∧
      (t.port n).retry = (s.port n).retry ++ [((s.port n).txSeq, p.pkt.flits, p)] ∧
      (t.port n).queue = (s.port n).queue.eraseIdx i ∧ s.SameHbm t ∧ t.ctl = s.ctl) ∧
  (∀ (s : State) (n : Fin 12), s.Live → s.portState n = 5 → s.readyPacket n 0 = none → s.readyPacket n 5 = none →
    s.ownedNext n = none →
    ∃ t : State, exec (.packetStart n) s = .next t ∧ t.links.out = s.links.out ++ [(n.val, Flit.idle.toBytes (s.ackOf n))] ∧
      (t.port n).queue = (s.port n).queue ∧ t.regs = s.regs ∧ s.SameHbm t ∧ t.ctl = s.ctl)

/-- Ports train, time out, are forced down and rewidened, and each kind of packet goes where the rules send it. Training that
ends within its bounds brings the port to IDENT at the width of its lanes and sends the identification; IDENT from the far
end expected makes the port UP, any other FAULT; bring-up is retried and past its deadline told; forced-down ports go down
and restored legs are asked for; rewidening locks or times out; a transit packet goes to its output port or is dropped and
told; job 0 relays; a WRITE packet stores its bytes where its partition owns them and is dropped otherwise; a leg-down
notice is passed on; a packet of a reserved kind is discarded, counted and recorded. Log entry 28. Under each clause's
hypotheses on the state and the operands alone, exec answers the next state written: LINK_TRAINING_DONE, IDENT,
BRINGUP_RETRY, BRINGUP_DEADLINE, LNK_FORCE_DOWN, LNK_RESTORE_LEGS, LNK_REWIDEN, REWIDEN_LOCK, REWIDEN_TIMEOUT,
TRANSIT_PACKET, JOB0_RELAY, WRITE, LEG_DOWN_NOTICE, RESERVED_KIND_PACKET. -/
def Obligations.LinksComeUpAndCarryPackets : Prop :=
  (∀ (s : State) (n : Fin 12) (lanes : Fin 65536) (u : State), s.Live → s.flag (Fld.lnkCtrl_enable n) = true →
    (s.portState n = 2 ∨ s.portState n = 3) → s.lanesAfter n lanes ≠ 0 →
    u = ((((s.refBack n lanes).portComesUp n (s.lanesAfter n lanes)).put (Fld.lnkStatus_state n) 4).put (Fld.lnkStatus_lane_good n) (lanes &&& s.fullMask n)) →
    ∃ t : State, exec (.linkTrainingDone n lanes) s = .next t ∧
      t.portState n = 4 ∧
      (t.port n).expSeq = 0 ∧
      (t.port n).inUse = s.lanesAfter n lanes ∧
      t.links.out = s.links.out ++ dataFlits n ⟨0, s.mkPacket 0 1 ((s.farNode n).getD 0) (toLE 4 s.node ++ toLE 1 n ++ toLE 1 (u.f (Fld.lnkStatus_width n))), s.now, none, none⟩ 0 0 65535 ∧
      s.SameHbm t ∧ t.ctl = s.ctl) ∧
  (∀ (s : State) (n : Fin 12) (i : Nat) (p : Packet), s.Live → s.findRx n (fun p => p.kind == 1 && p.job == 0) = some (i, p) →
    s.portState n = 4 → s.identOk n (fieldLE p.body 0 4) (fieldLE p.body 4 1) = true →
    ∃ u : State, exec (.ident n) s = .next (if n.val ≤ 1 then u.sendHello else u) ∧
      u.portState n = 5 ∧ u.f (Fld.lnkFar_far_node n) = fieldLE p.body 0 4 % 2 ^ 32 ∧ u.flag (Fld.lnkFar_valid n) = true ∧
        (u.port n).rx = (s.port n).rx.eraseIdx i ∧ s.SameHbm u ∧ u.ctl = s.ctl) ∧
  (∀ (s : State) (n : Fin 12) (i : Nat) (p : Packet), s.Live → s.findRx n (fun p => p.kind == 1 && p.job == 0) = some (i, p) →
    s.portState n = 4 → s.identOk n (fieldLE p.body 0 4) (fieldLE p.body 4 1) = false →
    ∃ t : State, exec (.ident n) s = .next t ∧ t.portState n = 7 ∧ t.flag (Fld.lnkEvent_miswired n) = true ∧ s.SameHbm t ∧
      t.ctl = s.ctl) ∧
  (∀ (s : State) (n : Fin 12), s.Live → s.halfRestarts (portCantle n) = false → s.flag (Fld.lnkCtrl_enable n) = true →
    s.portUp n = false → s.portState n ≠ 0 →
    ∃ t : State, exec (.bringupRetry n) s = .next t ∧
      t.portState n = 2 ∧
      s.SameHbm t ∧ t.ctl = s.ctl) ∧
  (∀ (s : State) (n : Fin 12), s.Live → s.flag (Fld.lnkCtrl_enable n) = true → s.portUp n = false →
    exec (.bringupDeadline n) s = .next (s.raise ⟨Blk.lnk, none, portCantle n, n, padTo 28 (genericPayload n (s.portState n) 0), s.now, [4]⟩)) ∧
  (∀ (s : State) (w : Writer) (n : Fin 12), s.Live → s.Accepts w (Reg.lnkCtrl n) 2 → s.portState n ≠ 0 → s.portState n ≠ 1 →
    exec (.lnkForceDown w n) s = .next (s.portDown n)) ∧
  (∀ (s : State) (w : Writer) (n : Fin 12), s.Live → s.Accepts w (Reg.lnkCtrl n) 4 →
    exec (.lnkRestoreLegs w n) s = .next (s.askRestore n)) ∧
  (∀ (s : State) (w : Writer) (n : Fin 12), s.Live → s.Accepts w (Reg.lnkCtrl n) 8 → s.portState n = 5 →
    s.flag (Fld.lnkStatus_degraded n) = true →
    ∃ t : State, exec (.lnkRewiden w n) s = .next t ∧ (t.port n).rewiden = true ∧ t.flag (Fld.lnkCtrl_rewiden n) = true ∧
      t.links.out = s.links.out ++ [(n.val, (Flit.link 1 (s.f (Fld.lnkStatus_lane_good n))).toBytes (s.ackOf n))] ∧ s.SameHbm t ∧
      t.ctl = s.ctl) ∧
  (∀ (s : State) (n : Fin 12), s.Live → (s.port n).rewiden = true → s.portUp n = true →
    ∃ t : State, exec (.rewidenLock n) s = .next t ∧
      t.portState n = 6 ∧
      t.f (Fld.lnkStatus_lane_good n) = s.fullMask n ∧
      (t.port n).rewiden = false ∧
      t.f (Fld.lnkErr_relanes n) = min (s.f (Fld.lnkErr_relanes n) + 1) 255 ∧
      t.links.out = s.links.out ++ [(n.val, (Flit.link 0 (s.fullMask n)).toBytes (s.ackOf n))] ∧
      s.SameHbm t ∧ t.ctl = s.ctl) ∧
  (∀ (s : State) (n : Fin 12), s.Live → (s.port n).rewiden = true →
    ∃ t : State, exec (.rewidenTimeout n) s = .next t ∧
      (t.port n).rewiden = false ∧
      t.f (Fld.lnkCtrl_rewiden n) = 0 ∧
      t.portState n = s.portState n ∧
      s.SameRegsBut t [Reg.lnkCtrl n, Reg.evrecLost] ∧
      s.SameHbm t ∧ t.ctl = s.ctl) ∧
  (∀ (s : State) (n : Fin 12) (i sl out : Nat) (p : Packet) (e : Nat × Nat), s.Live →
    s.findRx n (fun p => p.job != 0 && p.dest != s.node && packetKinds.contains p.kind && p.kind != 2) = some (i, p) →
    s.slotOfJob p.job = some sl →
    (s.slotPairs sl).find? (fun e => e.1 == n.val) = some (e.1, out) → s.portUp out = true →
    ∃ u : State, exec (.transitPacket n) s = .next (u.setPort out { u.port out with queue := (u.port out).queue ++ [⟨5, p, u.now, none, some n.val⟩] }) ∧
      u = s.setPort n { s.port n with rx := (s.port n).rx.eraseIdx i }) ∧
  (∀ (s : State) (n : Fin 12) (i sl out : Nat) (p : Packet) (e : Nat × Nat), s.Live →
    s.findRx n (fun p => p.job != 0 && p.dest != s.node && packetKinds.contains p.kind && p.kind != 2) = some (i, p) →
    s.slotOfJob p.job = some sl →
    (s.slotPairs sl).find? (fun e => e.1 == n.val) = some (e.1, out) → s.portUp out = false →
    exec (.transitPacket n) s = .next ((s.consumeRx n i).legNotices p.job out)) ∧
  (∀ (s : State) (n : Fin 12) (i : Nat) (p : Packet), s.Live →
    s.findRx n (fun p => p.job != 0 && p.dest != s.node && packetKinds.contains p.kind && p.kind != 2) = some (i, p) →
    s.slotOfJob p.job = none →
    ∃ t : State, exec (.transitPacket n) s = .next t ∧
      t.f (Fld.lnkDrop_packets n) = min (s.f (Fld.lnkDrop_packets n) + 1) (2 ^ 32 - 1) ∧ t.flag (Fld.lnkEvent_no_slot n) = true ∧
      s.SameHbm t) ∧
  (∀ (s : State) (n : Fin 12) (i : Nat) (p : Packet), s.Live →
    s.findRx n (fun p => p.job == 0 && p.dest != s.node && packetKinds.contains p.kind) = some (i, p) → p.dest / 8 = s.node / 8 →
    s.portUp (s.portTo (p.dest % 8)) = true →
    exec (.job0Relay n) s = .next (s.moveRx n i (s.portTo (p.dest % 8)) p)) ∧
  (∀ (s : State) (n : Fin 12) (i q : Nat) (p : Packet), s.Live →
    s.findRx n (fun p => p.kind == 0x21 && p.dest == s.node) = some (i, p) → s.packetPart p = some q → s.ringStands = false →
    s.ownsRange q (fieldLE p.body 0 8) (p.body.drop 8).length = true →
      s.inWindow q (fieldLE p.body 0 8) (p.body.drop 8).length = false →
    exec (.write n) s = .next (State.guardRungs s (((s.consumeRx n i).store (fieldLE p.body 0 8) (p.body.drop 8)).countRemote (fieldLE p.body 0 8) (p.body.drop 8).length))) ∧
  (∀ (s : State) (n : Fin 12) (i q : Nat) (p : Packet), s.Live →
    s.findRx n (fun p => p.kind == 0x21 && p.dest == s.node) = some (i, p) → s.packetPart p = some q → s.ringStands = false →
    s.ownsRange q (fieldLE p.body 0 8) (p.body.drop 8).length = false →
    ∃ t : State, exec (.write n) s = .next t ∧ t.f (Fld.lnkDrop_packets n) = min (s.f (Fld.lnkDrop_packets n) + 1) (2 ^ 32 - 1) ∧
      s.SameHbm t) ∧
  (∀ (s : State) (n : Fin 12) (i : Nat) (p : Packet) (t : State), s.Live →
    s.findRx n (fun p => p.kind == 2 && p.job != 0) = some (i, p) → (s.slotOfJob p.job).isSome = true →
    t = (s.consumeRx n i).legNotices p.job n →
    (t.groupsOf (fun g => g.job == p.job && !g.fatal)) = [] → exec (.legDownNotice n) s = .next t) ∧
  (∀ (s : State) (n : Fin 12) (i : Nat) (p : Packet), s.Live → s.findRx n (fun p => !packetKinds.contains p.kind) = some (i, p) →
    ∃ t : State, exec (.reservedKindPacket n) s = .next t ∧
      t.f (Fld.lnkDrop_packets n) = min (s.f (Fld.lnkDrop_packets n) + 1) (2 ^ 32 - 1) ∧ s.SameHbm t)

/-- A MATMUL or KERNEL that is due issues: its passes are dealt to its arrays, its tasks to its engines. A MATMUL whose
descriptors, checks and arrays are in order issues with its work recorded and each eligible array holding its share; a
KERNEL that is due has its rows dealt over its engines, each with a share given one task for it. Dealing order is the
model's reading (log entries 18, 23, 24). Under each clause's hypotheses on the state and the operands alone, exec answers
the next state written: MATMUL, KERNEL. -/
def Obligations.MatmulsAndKernelsAreDealtOut : Prop :=
  (∀ (s : State) (slot : Fin 4096) (o : Op) (w x od : DescP) (kw kx ko : Take) (m : MmRun) (t : State), s.MatmulDue slot o w x od kw kx ko m t →
    ∃ u : State, exec (.matmul slot) s = .next u ∧ u = t.mmPlace slot m (s.mmClaimed o) ∧ u.mm slot = some m ∧
      (∀ k a, m.eligible[k]? = some a → m.share k ≠ [] → (⟨slot, m.admitNo, m.share k, 0⟩ : ArrRun) ∈ (u.arr a).runs) ∧
        s.SameHbm u) ∧
  (∀ (s : State) (slot : Fin 4096) (o : Op) (takes : List ((Nat × Bool) × Take)) (t : State), s.KernelDue slot o takes t →
    ∃ u : State, exec (.kernel slot) s = .next (u.kernFeed slot o) ∧
      u = (t.setKern slot (some (s.kernRunOf o takes))).kernDeal slot o (s.kernRunOf o takes) (t.kernEngines o) ∧
      (∀ k e, (t.kernEngines o)[k]? = some e →
        ((List.range (kernRows o)).filter (fun r => r % (t.kernEngines o).length == k)) ≠ [] →
        (⟨0, slot, o.admitNo, 0, ((List.range (kernRows o)).filter (fun r => r % (t.kernEngines o).length == k)), ((s.kernRunOf o takes).sweepFrom 0).getD 0, 0, 0, [], [], [], 0, 0, 0, [], 0, none⟩ : Task) ∈ (u.eng e).tasks ++ (u.eng e).waiting))

/-- COLLECTIVE, SNAPSHOT and SHIP start with the run their fields name. With their checks passed, REDUCE_SCATTER, ALL_GATHER and
ALL_REDUCE take the group's next bucket number and enter their bucket with step, place and size; SNAPSHOT asks for a stop of
its partition with its regions, slot and the next identity; SHIP takes the sealed snapshot's records, resealed where asked,
for its queue pair. Log entries 29 and 32. Under each clause's hypotheses on the state and the operands alone, exec answers
the next state written: REDUCE_SCATTER, ALL_GATHER, ALL_REDUCE, SNAPSHOT, SHIP. -/
def Obligations.CollectivesSnapshotsAndShipsStart : Prop :=
  (∀ (s : State) (slot : Fin 4096) (o : Op) (g : Group) (t : State) (b : RingBucket), s.Live → s.issuable slot 4 = some o →
    o.b 0x24 1 = 0 → (∀ r, (s.part (s.opPart o)).replay = some r → r.localScope = false) →
      s.grp (o.b 0x22 2) = some g → s.ringWaits o (o.b 0x22 2) = false → g.fatal = false → g.jobLost.contains g.self = false →
        g.stepLost.contains (g.self, o.stamp) = false → g.waitHandback = false →
      t = (s.issue slot).setGrp (o.b 0x22 2) (some g.taken) → b = t.newBucket slot 0 o g →
    exec (.reduceScatter slot) s = .next (((t.enterBucket (o.b 0x22 2) o g.taken b).slotUpdate g.job).startAll (o.b 0x22 2)) ∧
      t.grp (o.b 0x22 2) = some g.taken ∧ g.taken.nextBseq = g.nextBseq + 1 ∧ b.slot = slot ∧ b.kind = 0 ∧ b.bseq = g.nextBseq ∧
        b.step = o.stamp ∧ b.addr = o.b 0x28 8 ∧ b.bytes = o.b 0x30 8 ∧ s.SameHbm t) ∧
  (∀ (s : State) (slot : Fin 4096) (o : Op) (g : Group) (t : State) (b : RingBucket), s.Live → s.issuable slot 4 = some o →
    o.b 0x24 1 = 1 → (∀ r, (s.part (s.opPart o)).replay = some r → r.localScope = false) →
      s.grp (o.b 0x22 2) = some g → s.ringWaits o (o.b 0x22 2) = false → g.fatal = false → g.jobLost.contains g.self = false →
        g.stepLost.contains (g.self, o.stamp) = false → g.waitHandback = false →
      t = (s.issue slot).setGrp (o.b 0x22 2) (some g.taken) → b = t.newBucket slot 1 o g →
    exec (.allGather slot) s = .next (((t.enterBucket (o.b 0x22 2) o g.taken b).slotUpdate g.job).startAll (o.b 0x22 2)) ∧
      t.grp (o.b 0x22 2) = some g.taken ∧ g.taken.nextBseq = g.nextBseq + 1 ∧ b.slot = slot ∧ b.kind = 1 ∧ b.bseq = g.nextBseq ∧
        b.step = o.stamp ∧ b.addr = o.b 0x28 8 ∧ b.bytes = o.b 0x30 8 ∧ s.SameHbm t) ∧
  (∀ (s : State) (slot : Fin 4096) (o : Op) (g : Group) (t : State) (b : RingBucket), s.Live → s.issuable slot 4 = some o →
    o.b 0x24 1 = 2 → (∀ r, (s.part (s.opPart o)).replay = some r → r.localScope = false) →
      s.grp (o.b 0x22 2) = some g → s.ringWaits o (o.b 0x22 2) = false → g.fatal = false → g.jobLost.contains g.self = false →
        g.stepLost.contains (g.self, o.stamp) = false → g.waitHandback = false →
      t = (s.issue slot).setGrp (o.b 0x22 2) (some g.taken) → b = t.newBucket slot 2 o g →
    exec (.allReduce slot) s = .next (((t.enterBucket (o.b 0x22 2) o g.taken b).slotUpdate g.job).startAll (o.b 0x22 2)) ∧
      t.grp (o.b 0x22 2) = some g.taken ∧ g.taken.nextBseq = g.nextBseq + 1 ∧ b.slot = slot ∧ b.kind = 2 ∧ b.bseq = g.nextBseq ∧
        b.step = o.stamp ∧ b.addr = o.b 0x28 8 ∧ b.bytes = o.b 0x30 8 ∧ s.SameHbm t) ∧
  (∀ (s : State) (slot : Fin 4096) (o : Op) (rs : List (Nat × Nat)) (places : List Nat), s.Live → s.issuable slot 6 = some o →
    s.f (Fld.snapSlotState_state (4 * s.opPart o + o.b 0x20 1)) ≠ 4 → s.stopOf (s.opPart o) = none →
    s.inFlight.any (fun e => s.opPart e.2 == s.opPart o && decide (e.2.admitNo < o.admitNo) && s.writesScope (scopeEntries (s.bytes (o.b 0x28 8) (16 * o.b 0x30 4))) e.2) = false →
    s.poisoned (o.b 0x28 8) (16 * o.b 0x30 4) = false →
    s.readScope (s.opPart o) (o.b 0x20 1) (o.b 0x28 8) (o.b 0x30 4) = some (rs, places) →
    Sparse.get zeroD s.snap.flash.next (s.opPart o) ≤ 0x3FFFFF →
    ∃ t : State, exec (.snapshot slot) s = .next t ∧
      t.stopOf (s.opPart o) = some ⟨slot, o.admitNo, o.b 0x20 1, o.b 0x21 1, rs, places, s.now, false, s.fuses.serial % 2 ^ 40 * 2 ^ 24 + s.opPart o * 2 ^ 22 + Sparse.get zeroD s.snap.flash.next (s.opPart o)⟩ ∧
      t.f (Fld.snapSlotState_state (4 * s.opPart o + o.b 0x20 1)) = 1 ∧
      s.SameHbm t) ∧
  (∀ (s : State) (slot : Fin 4096) (o : Op) (out : List LogRec), s.Live → s.issuable slot 7 = some o →
    s.drainingId (o.b 0x20 8) = false → s.snap.flash.sealed (o.b 0x20 8) ≠ [] → s.f (Fld.hostQpCfg_state (o.b 0x28 2)) ≠ 2 →
    s.qpReady (o.b 0x28 2) = true → mapAll (fun r => s.reseal r (o.b 0x2B 1)) (s.snap.flash.sealed (o.b 0x20 8)) = some out →
    ∃ t : State, exec (.ship slot) s = .next t ∧
      t.snap.flash.ships = s.snap.flash.ships ++ [⟨slot, o.admitNo, o.b 0x20 8, o.b 0x28 2, o.b 0x38 4, o.b 0x2B 1, o.b 0x30 8 + ((out.filter (fun r => r.typ != 3)).map (fun r => r.toBytes.length)).sum, out.filter (fun r => r.typ == 3)⟩] ∧
      s.SameHbm t)

/-- A tile load starts within its window and a pass starts at its boundary with its tile staged. A tile load takes the array's
next pass: its staged tile, or the fetched one, or its tile read from HBM, goes into the shadow registers and the load path
is taken for 1,024 cycles; a pass starts when its tile is loaded, its segment is whole and the array may run: it joins the
passes in flight with the tile of the shadow registers, which become the active ones, and sets the next start and load. The
cycle numbers are operands (log entries 15 and 24). Under each clause's hypotheses on the state and the operands alone, exec
answers the next state written: TILE_LOAD_START, PASS_START. -/
def Obligations.TileLoadsAndPassStarts : Prop :=
  (∀ (s : State) (a : Fin 4) (cyc : Nat) (i : PassId) (m : MmRun) (o : Op) (g : Staged), s.Live → s.nextPass a = some i →
    s.mm i.slot = some m → s.op i.slot = some o → s.arrayLive a = true → (s.arr a).loading = none → (s.arr a).nextLoad ≤ cyc →
    (s.arr a).repair = [] → (s.arr a).staged.find? (fun g => g.id == i) = some g →
    ∃ t : State, exec (.tileLoadStart a cyc) s = .next t ∧
      (t.arr a) = { s.arr a with loading := some (i, cyc), nextLoad := cyc + 1024, shadow := g.cellBits } ∧
      s.SameHbm t) ∧
  (∀ (s : State) (a : Fin 4) (cyc : Nat) (i : PassId) (m : MmRun) (o : Op) (g : Staged), s.Live → s.nextPass a = some i →
    s.mm i.slot = some m → s.op i.slot = some o → s.arrayLive a = true → (s.arr a).loading = none → (s.arr a).nextLoad ≤ cyc →
    (s.arr a).repair = [] → (s.arr a).staged.find? (fun g => g.id == i) = none → (s.arr a).staged.length < 3 →
    (s.arr a).due.contains i = false → (s.arr a).own.find? (fun g => g.id == i) = some g →
    ∃ t : State, exec (.tileLoadStart a cyc) s = .next t ∧
      (t.arr a) = { s.arr a with loading := some (i, cyc), nextLoad := cyc + 1024, shadow := g.cellBits, staged := (s.arr a).staged ++ [g], own := (s.arr a).own.filter (fun z => z.id != i) } ∧
      s.SameHbm t) ∧
  (∀ (s : State) (a : Fin 4) (cyc : Nat) (i : PassId) (m : MmRun) (o : Op) (g : Staged), s.Live → s.nextPass a = some i →
    s.mm i.slot = some m → s.op i.slot = some o → s.arrayLive a = true → (s.arr a).loading = none → (s.arr a).nextLoad ≤ cyc →
    (s.arr a).repair = [] → (s.arr a).staged.find? (fun g => g.id == i) = none → (s.arr a).staged.length < 3 →
    (s.arr a).due.contains i = false → (s.arr a).own.find? (fun g => g.id == i) = none → s.tileWaits m i = false →
    (s.fetchTile m i).any (fun e => e.2 == .poison || e.2 == .bad) = false → g = ⟨i, tileBits (s.fetchTile m i)⟩ →
    ∃ t : State, exec (.tileLoadStart a cyc) s = .next t ∧
      (t.arr a) = { s.arr a with loading := some (i, cyc), nextLoad := cyc + 1024, shadow := g.cellBits, staged := (s.arr a).staged ++ [g] } ∧
      s.SameHbm t) ∧
  (∀ (s : State) (a : Fin 4) (cyc lc : Nat) (starved slices : Bool) (i : PassId) (m : MmRun) (o : Op), s.Live →
    s.nextPass a = some i → s.mm i.slot = some m → s.op i.slot = some o → (s.arr a).segWhole m i = true →
    (s.arr a).loading = some (i, lc) → lc < cyc → (s.arr a).nextStart ≤ cyc → (s.arr a).flight.length < 3 → s.arrayLive a = true →
    s.flag (Fld.aryCtrl_hold a) = false → (s.arr a).repair = [] → s.spareHolds a = false →
    ((s.arr a).redo = [] → s.outranked a = false) → s.opRunning i.slot i.admitNo = true →
    ∃ t : State, exec (.passStart a cyc starved slices) s = .next t ∧
      ((t.arr a).flight = (s.arr a).flight ++ [⟨i, cyc, m.unitRows i.unit, (s.arr a).inject, (s.arr a).shadow⟩] ∧
        (t.arr a).active = (s.arr a).shadow) ∧
      ((t.arr a).nextStart = cyc + max (m.r * m.unitRows i.unit) 1024 ∧ (t.arr a).nextLoad = max (s.arr a).nextLoad (cyc + 520)) ∧
      ((t.arr a).loading = none ∧ (t.arr a).inject = none ∧ (t.arr a).cur = some i.admitNo ∧ (t.arr a).turn = o.wq ∧
        (t.arr a).redo = (s.arr a).redo.drop 1) ∧
      s.SameHbm t ∧ t.ctl = s.ctl)

/-- A pass retires into its sums, a fault is marked and reissues the passes or fails the slot, repairs fill the row map, and a
preemption is between passes. The oldest pass retires: its results fold into the sums with its flags, it is counted with its
busy cycles, and a pass whose MATMUL no longer runs leaves nothing; a preemption gives the array to the run that outranks it
and is counted; a corrected fault only counts; a drain-path fault stage takes the array out; any other fault goes to the
reissue rule with its detection cycle or the injected error's; within the limit the pass and those after it are queued again
and counted; a repair request is noted, and a field repair at a boundary writes the map, the ledger's due and nothing else
of HBM; an injection replaces the one armed. Log entries 15 and 24. Under each clause's hypotheses on the state and the
operands alone, exec answers the next state written: PASS_RETIRE, PREEMPTION, PASS_FAULT, ARY_REPAIR_REQ, ARY_INJECT,
FIELD_REPAIR. -/
def Obligations.PassesRetireFaultAndAreRepaired : Prop :=
  (∀ (s : State) (a : Fin 4) (f : Flight) (rest : List Flight) (m : MmRun) (g : Seg) (res : List (Nat × Nat × (Val × Bool))) (vals : List (Nat × Nat × Word32)), s.Live →
    (s.arr a).flight = f :: rest → f.inject = none → s.serving = true → s.mm f.id.slot = some m →
    s.opRunning f.id.slot f.id.admitNo = true →
    (s.arr a).segs.find? (fun g => g.id == f.id) = some g → res = m.passResults f g → vals = (s.arr a).foldVals m f.id g res →
    ∃ u : State, exec (.passRetire a) s = .next ((u.passEffects a (s.arr a) m f.id res vals).arrUpdate a) ∧
      u.arr a = ((ArrState.foldPass { s.arr a with flight := rest, segs := (s.arr a).segs.filter (fun g => g.id != f.id), staged := (s.arr a).staged.filter (fun g => g.id != f.id), attempts := (s.arr a).attempts.filter (fun y => y.id != f.id), busyEnd := max (f.start + m.r * (f.rows - 1) + 1536 + s.f (Fld.aryStatus_repairs a) + 1) (s.arr a).busyEnd } m f.id vals).keepFinal m f.id).shed ∧
        u.f (Fld.aryPasses_passes a) = (s.f (Fld.aryPasses_passes a) + 1) % 2 ^ 64 ∧
      u.f (Fld.aryBusy_busy a) = (s.f (Fld.aryBusy_busy a) + ((f.start + m.r * (f.rows - 1) + 1536 + s.f (Fld.aryStatus_repairs a) + 1) - max f.start (s.arr a).busyEnd)) % 2 ^ 64 ∧
        s.SameHbm u) ∧
  (∀ (s : State) (a : Fin 4) (f : Flight) (rest : List Flight) (m : MmRun), s.Live → (s.arr a).flight = f :: rest →
    f.inject = none → s.serving = true → s.mm f.id.slot = some m → s.opRunning f.id.slot f.id.admitNo = false →
    ∃ t : State, exec (.passRetire a) s = .next t ∧
      t.arr a = ArrState.shed { s.arr a with flight := rest, segs := (s.arr a).segs.filter (fun g => g.id != f.id), staged := (s.arr a).staged.filter (fun g => g.id != f.id), attempts := (s.arr a).attempts.filter (fun y => y.id != f.id), busyEnd := max (f.start + m.r * (f.rows - 1) + 1536 + s.f (Fld.aryStatus_repairs a) + 1) (s.arr a).busyEnd } ∧
      s.SameHbm t ∧ t.ctl = s.ctl) ∧
  (∀ (s : State) (a : Fin 4), s.Live → s.outranked a = true → (s.arr a).redo = [] → s.arrayLive a = true →
    ∃ t : State, exec (.preemption a) s = .next t ∧
      t.arr a = (ArrState.shed { s.arr a with cur := ((s.setArr a { s.arr a with cur := none }).pickRun a).map ArrRun.admitNo, loading := none, segs := (s.arr a).segs.filter (fun g => (s.arr a).flight.any (fun f => f.id == g.id)), staged := (s.arr a).staged.filter (fun g => (s.arr a).flight.any (fun f => f.id == g.id)) }) ∧
      t.f (Fld.aryPreempt_preempts a) = min (s.f (Fld.aryPreempt_preempts a) + 1) 4294967295 ∧
      s.SameHbm t ∧ t.ctl = s.ctl) ∧
  (∀ (s : State) (a : Fin 4) (idx : Fin 3) (row : Fin 1024) (col : Fin 512) (cyc : Nat) (f : Flight), s.Live →
    (s.arr a).flight[idx.val]? = some f → s.arrayInService a = true →
    ∃ t : State, exec (.passFault a idx 5 row col cyc) s = .next t ∧
      t.f (Fld.aryFault_corrected a) = min (s.f (Fld.aryFault_corrected a) + 1) 65535 ∧
      (s.SameRegsBut t [Reg.aryFault a] ∧ t.comp = s.comp) ∧
      s.SameHbm t ∧ t.ctl = s.ctl) ∧
  (∀ (s : State) (a : Fin 4) (idx : Fin 3) (row : Fin 1024) (col : Fin 512) (cyc : Nat) (f : Flight), s.Live →
    (s.arr a).flight[idx.val]? = some f → s.arrayInService a = true → f.inject = none →
    exec (.passFault a idx 6 row col cyc) s = .next (s.arrayFail a 3)) ∧
  (∀ (s : State) (a : Fin 4) (idx : Nat) (f : Flight) (e : PassError), (s.arr a).attempts.find? (fun y => y.id == f.id) = none →
    1 ≤ s.f (Fld.aryCtrl_reissue_limit a) → e.col < 512 →
    (s.faultPass a idx f e).arr a = { s.arr a with flight := (s.arr a).flight.take idx, redo := (((s.arr a).flight.drop idx).map Flight.id).filter (fun i => s.opRunning i.slot i.admitNo) ++ (s.arr a).redo, loading := none, nextLoad := e.cyc + 1, nextStart := e.cyc + 2, busyEnd := max (s.arr a).busyEnd (e.cyc + 1), attempts := (s.arr a).attempts.filter (fun z => z.id != f.id) ++ [⟨f.id, 1, if e.kind ≤ 2 then some e.row else none, if e.kind = 3 then some e.col else none⟩] } ∧
      (s.faultPass a idx f e).f (Fld.aryFault_reissues a) = min (s.f (Fld.aryFault_reissues a) + ((((s.arr a).flight.drop idx).map Flight.id).filter (fun i => s.opRunning i.slot i.admitNo)).length) 65535) ∧
  (∀ (s : State) (a : Fin 4) (idx : Fin 3) (kind : Fin 8) (row : Fin 1024) (col : Fin 512) (cyc : Nat) (f : Flight), s.Live →
    (s.arr a).flight[idx.val]? = some f → s.arrayInService a = true → kind ≠ 5 →
    (f.inject = none → kind ≠ 6 →
      exec (.passFault a idx kind row col cyc) s = .next (s.faultPass a idx f ⟨kind, row, col, max cyc f.start⟩)) ∧
    (∀ j, f.inject = some j → exec (.passFault a idx kind row col cyc) s = .next (s.faultPass a idx f (s.injected a f j)))) ∧
  (∀ (s : State) (a : Fin 4) (w : Writer) (v : Word32), s.Live → s.Accepts w (Reg.aryRepairReq a) v.toNat →
    bits v.toNat 31 1 = 1 → s.flag (repairValidF a (bits v.toNat 0 10 / 128)) = false → s.arrayInService a = true →
    (s.arr a).repairPending (bits v.toNat 0 10 / 128) = false →
    ∃ t : State, exec (.aryRepairReq w a v) s = .next t ∧
      (t.arr a).repair = (s.arr a).repair ++ [(bits v.toNat 0 10 / 128, bits v.toNat 0 10 % 128, 1)] ∧
      t.regs = s.regs ∧
      s.SameHbm t ∧ t.ctl = s.ctl) ∧
  (∀ (s : State) (a : Fin 4) (w : Writer) (v : Word32), s.Live → s.Accepts w (Reg.aryInject a) v.toNat → bits v.toNat 31 1 = 1 →
    bits v.toNat 19 2 ≠ 3 →
    ∃ t : State, exec (.aryInject w a v) s = .next t ∧
      (t.arr a).inject = some (bits v.toNat 19 2, bits v.toNat 0 10, bits v.toNat 10 9) ∧
      t.regs = s.regs ∧
      s.SameHbm t ∧ t.ctl = s.ctl) ∧
  (∀ (s : State) (a : Fin 4) (b row src : Nat), s.Live → (s.arr a).repair = [(b, row, src)] → (s.arr a).flight = [] →
    s.arrayLive a = true → b < 8 → row < 128 →
    ∃ t : State, exec (.fieldRepair a) s = .next t ∧
      (t.flag (repairValidF a b) = true ∧ t.f (repairRowF a b) = row) ∧
      (t.arr a).repair = [] ∧
      t.comp.keepRepairs = s.comp.keepRepairs ++ [(a.val, b, row)] ∧
      s.SameHbm t)

/-- Stirrup writes fill segments, final tiles go to the output buffer or are added, epilogues store their vector, and AWL shares
end in a verdict. A stirrup run writes its operand elements into the pass's segment; the skiver converts the next final tile
into the output buffer, from which a slot drains it; an accumulating MATMUL's final tile is added into HBM once; an
epilogue's vector is stored among the sums; an AWL share is noted until all of its tile's shares are done, and then the tile
is counted with no breach, or its breach is told; a poisoned operand ends the tile without a verdict. Rounding and order are
as log entries 12, 22, 23 and 24 say. Under each clause's hypotheses on the state and the operands alone, exec answers the
next state written: STIRRUP_WRITE, SKIVER_TILE_CONVERT, ACCUMULATE_ADD, EPILOGUE_RUN, AWL_RECOMPUTE. -/
def Obligations.TilesAreConvertedAccumulatedAndChecked : Prop :=
  (∀ (s : State) (a : Fin 4) (alongM : Bool) (m0 k0 : Nat) (i : PassId) (m : MmRun) (o : Op) (g : Seg) (x : ArrState), s.Live →
    s.nextPass a = some i → s.mm i.slot = some m → s.op i.slot = some o → s.arrayLive a = true → s.segFor a m i = some (g, x) →
    (((s.arr a).segs.all (fun y => y.id != i)) = true → s.segPoisoned m i = false) → g.qx.contains 0xFF = false →
    g.qw.contains 0xFF = false →
    (m.stirrupRun i g alongM m0 k0).any (fun e => s.chanWaits (m.xd.elemRun 0 (m.xPlace i e).1 (m.xPlace i e).2).1 (m.xd.elemRun 0 (m.xPlace i e).1 (m.xPlace i e).2).2) = false →
    (s.stirrupVals m i (m.stirrupRun i g alongM m0 k0)).any (fun v => v.2 == .poison) = false →
    (s.stirrupVals m i (m.stirrupRun i g alongM m0 k0)).any (fun v => v.2 == .bad) = false →
    ∃ t : State, exec (.stirrupWrite a alongM m0 k0) s = .next t ∧
      t.arr a = { x with segs := x.segs.filter (fun y => y.id != i) ++ [g.writeRun m (s.stirrupVals m i (m.stirrupRun i g alongM m0 k0))] } ∧
      s.SameHbm t) ∧
  (∀ (s : State) (a : Fin 4) (i : PassId) (m : MmRun) (tl : Nat) (x : ArrState), s.Live → s.nextTile a = some (i, m, tl, x) →
    s.skiveMay a = true → (m.supplied i.unit tl).any (fun r => s.chanWaits r.1 r.2) = false →
    (m.supplied i.unit tl).any (fun r => s.poisoned r.1 r.2) = false → (s.skive a x m i tl).2.2 = false →
    ∃ t : State, exec (.skiverTileConvert a) s = .next t ∧
      (t.arr a).outBuf = (s.arr a).outBuf ++ [(⟨i, tl, m.outCtx, (((s.skive a x m i tl).1.map (fun e => (e.addr, e.bytes)) ++ (s.skive a x m i tl).2.1).map (fun e => e.2.length)).foldl (· + ·) 0, (s.skive a x m i tl).1.length, ((s.skive a x m i tl).1.map (fun e => (e.addr, e.bytes)) ++ (s.skive a x m i tl).2.1)⟩ : OutTile)] ∧
      s.SameHbm t) ∧
  (∀ (s : State) (a : Fin 4) (i : PassId) (m : MmRun) (tl : Nat), s.Live → s.finalTile a true = some (i, m, tl) →
    s.serving = true → s.quiet (s.partOfCs a) = false → ((s.arr a).finalWords m i tl).any (fun e => s.chanWaits e.1 4) = false →
    ((s.arr a).finalWords m i tl).any (fun e => s.poisoned e.1 4) = false →
    ∃ t : State, exec (.accumulateAdd a) s = .next t ∧
      t.mem = (s.accumulate m ((s.arr a).finalWords m i tl)).mem ∧
      t.mm i.slot = some { m with written := if m.written.contains (64 * i.unit + tl) then m.written else m.written ++ [64 * i.unit + tl] }) ∧
  (∀ (s : State) (e : Fin 64) (v : Nat) (k : Task) (i : PassId) (m : MmRun), s.Live → s.currentTask e = some k →
    s.mm k.slot = some m →
    (s.arr (e.val / 16)).finals.find? (fun i => i.slot == k.slot && i.admitNo == k.admitNo && i.unit == k.unit) = some i →
    k.kind = 1 → k.rows.contains v = true → s.serving = true → (s.stopOf (s.partOfCs (e.val / 16))).isSome = false →
    s.engRuns e k = true →
    ∃ t : State, exec (.epilogueRun e v) s = .next t ∧
      t.arr (e.val / 16) = ((s.arr (e.val / 16)).epiStore m i e v (s.epiVec (s.arr (e.val / 16)) m i e v)) ∧
      s.SameHbm t) ∧
  (∀ (s : State) (slot : Fin 4096) (l : Nat) (j : Fin 4) (m : MmRun) (o : Op) (e : Nat) (k : Task), s.Live → s.mm slot = some m →
    s.op slot = some o → s.awlEngine slot l j = some (e, k) → s.serving = true → (s.stopOf (s.opPart o)).isSome = false →
    (m.awlRuns l j).any (fun r => s.chanWaits r.1 r.2) = false → (m.awlRuns l j).any (fun r => s.poisoned r.1 r.2) = false →
    (m.awlShares l).all (fun i => (m.awlParts ++ [(l, j.val, s.awlRatios (s.opPart o) m l j)]).any (fun q => q.1 == l && q.2.1 == i)) = false →
    ∃ t : State, exec (.awlRecompute slot (l, j)) s = .next t ∧
      t.mm slot = some { m with awlParts := (m.awlParts ++ [(l, j.val, s.awlRatios (s.opPart o) m l j)]) } ∧
      s.SameHbm t ∧ t.recorder = s.recorder) ∧
  (∀ (s : State) (slot : Fin 4096) (l : Nat) (j : Fin 4) (m : MmRun) (o : Op) (e : Nat) (k : Task), s.Live → s.mm slot = some m →
    s.op slot = some o → s.awlEngine slot l j = some (e, k) → s.serving = true → (s.stopOf (s.opPart o)).isSome = false →
    (m.awlRuns l j).any (fun r => s.chanWaits r.1 r.2) = false → (m.awlRuns l j).any (fun r => s.poisoned r.1 r.2) = false →
    (m.awlShares l).all (fun i => (m.awlParts ++ [(l, j.val, s.awlRatios (s.opPart o) m l j)]).any (fun q => q.1 == l && q.2.1 == i)) = true →
    (((m.awlParts ++ [(l, j.val, s.awlRatios (s.opPart o) m l j)]).filter (fun q => q.1 == l)).flatMap (fun q => q.2.2)).isEmpty = true →
    ∃ t : State, exec (.awlRecompute slot (l, j)) s = .next t ∧
      t.mm slot = some (m.awlChecked l) ∧
      t.f (Fld.awlSamples_sampled (s.opPart o)) = (s.f (Fld.awlSamples_sampled (s.opPart o)) + 1) % 2 ^ 64 ∧
      s.SameHbm t ∧ t.recorder = s.recorder) ∧
  (∀ (s : State) (slot : Fin 4096) (l : Nat) (j : Fin 4) (m : MmRun) (o : Op) (e : Nat) (k : Task), s.Live → s.mm slot = some m →
    s.op slot = some o → s.awlEngine slot l j = some (e, k) → s.serving = true → (s.stopOf (s.opPart o)).isSome = false →
    (m.awlRuns l j).any (fun r => s.chanWaits r.1 r.2) = false → (m.awlRuns l j).any (fun r => s.poisoned r.1 r.2) = false →
    (m.awlShares l).all (fun i => (m.awlParts ++ [(l, j.val, s.awlRatios (s.opPart o) m l j)]).any (fun q => q.1 == l && q.2.1 == i)) = true →
    (((m.awlParts ++ [(l, j.val, s.awlRatios (s.opPart o) m l j)]).filter (fun q => q.1 == l)).flatMap (fun q => q.2.2)).isEmpty = false →
    ∃ t : State, exec (.awlRecompute slot (l, j)) s = .next t ∧
      t = (((((((s.tookTurn e k).bump (Fld.strmBytesRd_bytes (e / 16)) (((m.awlRuns l j).map Prod.snd).foldl (· + ·) 0)).bump ⟨Reg.teIssue e, 0, 64⟩ (ceilDiv ((m.awlRows l).length * (m.awlShare l j).length * m.kLen) 512)).endTask e k).awlEnd slot l m).bump ⟨Reg.awlSamples (s.opPart o), 0, 64⟩ 1).awlBreach (s.opPart o) slot l o (((m.awlParts ++ [(l, j.val, s.awlRatios (s.opPart o) m l j)]).filter (fun q => q.1 == l)).flatMap (fun q => q.2.2))).matmulDone slot ∧
      s.SameHbm t) ∧
  (∀ (s : State) (slot : Fin 4096) (l : Nat) (j : Fin 4) (m : MmRun) (o : Op) (e : Nat) (k : Task), s.Live → s.mm slot = some m →
    s.op slot = some o → s.awlEngine slot l j = some (e, k) → s.serving = true → (s.stopOf (s.opPart o)).isSome = false →
    (m.awlRuns l j).any (fun r => s.chanWaits r.1 r.2) = false → (m.awlRuns l j).any (fun r => s.poisoned r.1 r.2) = true →
    ∃ t : State, exec (.awlRecompute slot (l, j)) s = .next t ∧
      t = ((((s.tookTurn e k).bump (Fld.strmBytesRd_bytes (e / 16)) (((m.awlRuns l j).map Prod.snd).foldl (· + ·) 0)).awlEnd slot l m).generic Blk.num (some (s.opPart o)) slot o.tag 0).matmulDone slot ∧
      s.SameHbm t)

/-- ENTRY, FIN, RETIRE, RESTART, REPORT and FATAL markers of the ring change the group as the rules give and pass on. A marker
that is due for a loaded group of this member is taken once: an entry marker of the open bucket opens its downstream, one
ahead of it is kept; a report is taken, or drops this member where it names it; a restart is passed on and begins the bucket
again unless this member leads; the final marker and retire end the bucket, retire passed on to the next member; FATAL stops
the group. Log entry 29. Under each clause's hypotheses on the state and the operands alone, exec answers the next state
written: ENTRY, REPORT, RESTART, FIN_MARKER, RETIRE, FATAL. -/
def Obligations.RingMarkersAreObeyed : Prop :=
  (∀ (s : State) (n : Fin 12) (i : Nat) (p : Packet) (h : RingHdr) (g : Group) (b : RingBucket), s.MarkerDue n 4 i p h g →
    s.bucket h.group = some b → b.bseq = h.bseq → b.epoch = h.epoch →
    exec (.entry n) s = .next (((s.consumeRx n i).setBucket h.group (some { b with downEntry := true })).startAll h.group)) ∧
  (∀ (s : State) (n : Fin 12) (i : Nat) (p : Packet) (h : RingHdr) (g : Group) (t : State), s.MarkerDue n 4 i p h g →
    (s.bucket h.group = none ∧ g.nextBseq ≤ h.bseq ∨ ∃ b, s.bucket h.group = some b ∧ (b.bseq < h.bseq ∨ b.bseq = h.bseq ∧ b.epoch ≠ h.epoch)) →
    t = (s.consumeRx n i).setGrp h.group (some { g with earlyEntry := g.earlyEntry ++ [(h.bseq, h.epoch)] }) →
    exec (.entry n) s = .next (t) ∧
      t.bucket h.group = s.bucket h.group ∧
      s.SameHbm t ∧
      t.ctl = s.ctl) ∧
  (∀ (s : State) (n : Fin 12) (i : Nat) (p : Packet) (h : RingHdr) (g : Group), s.MarkerDue n 5 i p h g → h.chunk = g.self →
    h.wire = 1 →
    exec (.report n) s = .next ((s.consumeRx n i).dropSelf h.group ((s.consumeRx n i).ringStep h.group g))) ∧
  (∀ (s : State) (n : Fin 12) (i : Nat) (p : Packet) (h : RingHdr) (g : Group), s.MarkerDue n 5 i p h g →
    (h.chunk ≠ g.self ∨ h.wire ≠ 1) →
    exec (.report n) s = .next ((s.consumeRx n i).report h.group h.chunk h.wire)) ∧
  (∀ (s : State) (n : Fin 12) (i : Nat) (p : Packet) (h : RingHdr) (g : Group) (b : RingBucket), s.MarkerDue n 6 i p h g →
    s.bucket h.group = some b → b.bseq = h.bseq → b.epoch ≠ h.epoch →
    leaderOf ((s.bLive g b).filter (fun p => p != h.chunk)) ≠ g.self →
    exec (.restart n) s = .next ((if alone ((s.bLive g b).filter (fun p => p != h.chunk)) then s.consumeRx n i else (s.consumeRx n i).legSend g ((s.bLive g b).filter (fun p => p != h.chunk)) (markerBody h.group 6 h.wire h.chunk h.bseq h.epoch)).restart h.group h.chunk h.wire h.epoch)) ∧
  (∀ (s : State) (n : Fin 12) (i : Nat) (p : Packet) (h : RingHdr) (g : Group) (b : RingBucket), s.MarkerDue n 6 i p h g →
    s.bucket h.group = some b → b.bseq = h.bseq → b.epoch ≠ h.epoch →
    leaderOf ((s.bLive g b).filter (fun p => p != h.chunk)) = g.self →
    exec (.restart n) s = .next (s.consumeRx n i)) ∧
  (∀ (s : State) (n : Fin 12) (i : Nat) (p : Packet) (h : RingHdr) (g : Group) (b : RingBucket), s.MarkerDue n 7 i p h g →
    s.bucket h.group = some b → b.bseq = h.bseq → b.epoch = h.epoch → leaderOf (s.bLive g b) = g.self → b.finSent = true →
    exec (.finMarker n) s = .next ((((s.consumeRx n i).setBucket h.group (some { b with finUp := true, retireSent := true, phase := 8 })).legSend g (s.bLive g b) (markerBody h.group 8 0 0 b.bseq b.epoch)).slotUpdate g.job)) ∧
  (∀ (s : State) (n : Fin 12) (i : Nat) (p : Packet) (h : RingHdr) (g : Group) (b : RingBucket), s.MarkerDue n 7 i p h g →
    s.bucket h.group = some b → b.bseq = h.bseq → b.epoch = h.epoch → (leaderOf (s.bLive g b) ≠ g.self ∨ b.finSent = false) →
    exec (.finMarker n) s = .next (((s.consumeRx n i).setBucket h.group (some { b with finUp := true })).fin h.group)) ∧
  (∀ (s : State) (n : Fin 12) (i : Nat) (p : Packet) (h : RingHdr) (g : Group) (b : RingBucket), s.MarkerDue n 8 i p h g →
    s.bucket h.group = some b → b.bseq = h.bseq → b.epoch = h.epoch →
    exec (.retire n) s = .next ((if leaderOf (s.bLive g b) = g.self then s.consumeRx n i else (s.consumeRx n i).legSend g (s.bLive g b) (markerBody h.group 8 0 0 b.bseq b.epoch)).retireBucket h.group g b)) ∧
  (∀ (s : State) (n : Fin 12) (i : Nat) (p : Packet) (h : RingHdr) (g : Group) (t : State), s.MarkerDue n 9 i p h g →
    t = (s.consumeRx n i).ringFatal h.group →
    exec (.fatal n) s = .next (t) ∧
      t.bucket h.group = none ∧
      t.grp h.group = some { g with fatal := true })

/-- Chunks are sent, folded in member order, gathered and delivered, and a straggler is told after its deadline. A staged
contribution is fetched for the adder; a chunk that is due is folded with this member's contribution, one rounding a hop, or
counted as waiting, stale or left; a gathered chunk is stored and passed on until its last member; headers and deliveries
finish the bucket; past the deadline a straggler is reported. Order of folding and rounding are log entries 10 and 29. Under
each clause's hypotheses on the state and the operands alone, exec answers the next state written: ADDER_STAGE, FOLD,
GATHER, HEADERS, DELIVER, STRAGGLER_DEADLINE. -/
def Obligations.ChunksAreStagedFoldedAndGathered : Prop :=
  (∀ (s : State) (n : Fin 12) (gid : Nat) (b : RingBucket) (c : Nat), s.Live → s.ringStands = false →
    s.adderPick n = some (gid, b, c) →
    exec (.adderStage n) s = .next (s.activeBuckets.foldl (fun t e => t.startAll e.1) ((s.setBucket gid (some { b with staged := b.staged ++ [c] })).countRemote (b.addr + 16384 * c) 16384))) ∧
  (∀ (s : State) (n : Fin 12) (i : Nat) (p : Packet) (h : RingHdr) (g : Group) (b : RingBucket) (x : RChunk) (b1 : RingBucket), s.ChunkDue n 0 i p h g b →
    b.kind ≠ 1 → b.downEntry = true → (b.tainted = true ∨ b.staged.contains h.chunk = true) →
    ((chunkPath (s.bLive g b) g.n g.self (s.heritage g.part) h.chunk).2.isSome && !((chunkPath (s.bLive g b) g.n g.self (s.heritage g.part) h.chunk).1.any (fun q => g.node q == p.src))) = false →
    (h.wire != b.wire || (bodyBlks p.body).map BlkHdr.scale != (b.startBlks h.chunk).map BlkHdr.scale) = false →
    x = s.foldChunk g b p h false false →
    b1 = { b with staged := b.staged.filter (fun c => c != h.chunk), started := b.started ++ [h.chunk] } →
    exec (.fold n) s = .next (((((s.consumeRx n i).setBucket h.group (some b1)).adderRan n).noteReined b h.flags).onward h.group g b1 h.chunk false x) ∧
      ((b.tainted = false → testBit h.flags cfEmpty = false → x.xs = List.zipWith (hopAdd (s.heritage g.part)) (((bodyElems h.wire p.body).zipIdx).map (fun e => wireDec (s.heritage g.part) h.wire (((bodyBlks p.body).getD (e.2 / 128) ⟨127, 0, 0#32⟩).scale) e.1)) (s.contribution b h.chunk) ∧ x.voids = h.voids)) ∧
      ((b.tainted = true → x.voids = h.voids + 1)) ∧
      x.hops = h.hops + 1 ∧
      x.wire = h.wire) ∧
  (∀ (s : State) (n : Fin 12) (i : Nat) (p : Packet) (h : RingHdr) (g : Group) (b : RingBucket), s.ChunkDue n 0 i p h g b →
    b.kind ≠ 1 → b.downEntry = true → b.tainted = false → b.staged.contains h.chunk = false →
    ((chunkPath (s.bLive g b) g.n g.self (s.heritage g.part) h.chunk).2.isSome && !((chunkPath (s.bLive g b) g.n g.self (s.heritage g.part) h.chunk).1.any (fun q => g.node q == p.src))) = false →

    exec (.fold n) s = .next (s.bump (Fld.redAdderWait_wait n) 1)) ∧
  (∀ (s : State) (n : Fin 12) (i : Nat) (p : Packet) (h : RingHdr) (g : Group), s.MarkerDue n 0 i p h g →
    s.chunkFate g h = ChunkFate.stale →
    exec (.fold n) s = .next ((s.consumeRx n i).bumpSat (Fld.redCount_stale g.part) 1)) ∧
  (∀ (s : State) (n : Fin 12) (i : Nat) (p : Packet) (h : RingHdr) (g : Group), s.MarkerDue n 0 i p h g →
    s.chunkFate g h = ChunkFate.wait →
    exec (.fold n) s = .next (s)) ∧
  (∀ (s : State) (n : Fin 12) (i : Nat) (p : Packet) (h : RingHdr) (g : Group) (b : RingBucket) (more : Bool) (u : State), s.ChunkDue n 1 i p h g b →
    b.kind = 2 → more = (ringNext (s.bLive g b) g.self != (finalMember (s.bLive g b) g.n g.self (s.heritage g.part) h.chunk)) →
    (more = true → b.downEntry = true) →
    u = (if more then ((s.consumeRx n i).noteReined b (orBit h.flags cfReined (more && s.reined g.part))).legSend g (s.bLive g b) (RingHdr.toBytes { h with flags := orBit h.flags cfReined (more && s.reined g.part) } ++ p.body.drop 24) else (s.consumeRx n i).noteReined b (orBit h.flags cfReined (more && s.reined g.part))) →

    exec (.gather n) s = .next ((((u.storeWords (b.result + 16384 * h.chunk) (((bodyElems h.wire p.body).zipIdx).map (fun e => wireDec (s.heritage g.part) h.wire (((bodyBlks p.body).getD (e.2 / 128) ⟨127, 0, 0#32⟩).scale) e.1))).addWritten h.group h.chunk).addHeader h.group ⟨h.chunk, h.flags, h.voids, bodyBlks p.body⟩).headersHeld h.group)) ∧
  (∀ (s : State) (n : Fin 12) (i : Nat) (p : Packet) (h : RingHdr) (g : Group) (b : RingBucket) (more : Bool) (k : Nat) (d : Int) (u : State), s.ChunkDue n 1 i p h g b →
    b.kind = 1 → g.keeper (s.bLive g b) h.chunk = some (k, d) → more = (ringNext (s.bLive g b) g.self != k) →
    (more = true → b.downEntry = true) →
    u = (if more then ((s.consumeRx n i).noteReined b (orBit h.flags cfReined (more && s.reined g.part))).legSend g (s.bLive g b) (RingHdr.toBytes { h with flags := orBit h.flags cfReined (more && s.reined g.part) } ++ p.body.drop 24) else (s.consumeRx n i).noteReined b (orBit h.flags cfReined (more && s.reined g.part))) →

    exec (.gather n) s = .next (((u.storeChunk (b.result + 16384 * h.chunk) ((p.body.drop 24).take 16384)).addWritten h.group h.chunk).fin h.group)) ∧
  (∀ (s : State) (n : Fin 12) (i : Nat) (p : Packet) (h : RingHdr) (g : Group) (b : RingBucket) (more : Bool) (u : State), s.ChunkDue n 2 i p h g b →
    b.kind = 0 → more = (ringNext (s.bLive g b) g.self != (finalMember (s.bLive g b) g.n g.self (s.heritage g.part) h.chunk)) →
    (more = true → b.downEntry = true) →
    u = (if more then ((s.consumeRx n i).noteReined b h.flags).legSend g (s.bLive g b) p.body else (s.consumeRx n i).noteReined b h.flags) →

    exec (.headers n) s = .next ((u.addHeader h.group ⟨h.chunk, h.flags, h.voids, bodyBlks p.body⟩).headersHeld h.group)) ∧
  (∀ (s : State) (n : Fin 12) (i : Nat) (p : Packet) (h : RingHdr) (g : Group) (b : RingBucket) (a : Nat), s.ChunkDue n 3 i p h g b →
    b.kind = 0 → s.keepAddr g b (s.bLive g b) h.chunk = some a →
    exec (.deliver n) s = .next (((((s.consumeRx n i).noteReined b h.flags).storeWords a ((bodyElems 0 p.body).map (BitVec.ofNat 32))).addWritten h.group h.chunk).fin h.group)) ∧
  (∀ (s : State) (gid : Fin 65536) (g : Group) (b : RingBucket), s.Live → s.ringStands = false → s.grp gid = some g →
    s.bucket gid = some b → g.stragglerUs ≠ 0 → b.downEntry = false → b.suspended = false → alone (s.bLive g b) = false →
    475 * g.stragglerUs < s.now - b.waitSince →
    exec (.stragglerDeadline gid) s = .next (((((s.put (Fld.redEvent_straggler g.part) 1).redEvent g 0x0907 gid (toLE 2 (ringNext (s.bLive g b) g.self) ++ toLE 4 0 ++ toLE 8 b.step)).legSend g (s.bLive g b) (markerBody gid 5 1 (ringNext (s.bLive g b) g.self) b.bseq b.epoch)).report gid (ringNext (s.bLive g b) g.self) 1)))

/-- HELLO pairs the twins, beats keep them, and a missed limit or a FAILED report breaks the pair. A HELLO whose fields agree
pairs the twins, one that disagrees makes them MISMATCHED with an event; in TAKEOVER or ALONE it is answered and only noted
(log entry 31); without one it is sent again; beats are sent and taken; at the limit without a beat, or when the twin tells
it fails, the failure is taken with its cause. Log entry 31. Under each clause's hypotheses on the state and the operands
alone, exec answers the next state written: TWIN_HELLO, TWIN_HELLO_RETRY, TWIN_BEAT_SEND, TWIN_BEAT, BEAT_LIMIT,
TWIN_FAILED. -/
def Obligations.TwinsPairBeatAndFail : Prop :=
  (∀ (s : State) (n : Fin 12) (i : Nat) (p : Packet) (c : Nat) (t : State), s.Live → s.findNotice n 0x10 = some (i, p) →
    s.twinState ≠ 4 → s.twinState ≠ 5 → s.helloFault p.body = some c →
    t = ((((((s.consumeRx n i).setTwin { (s.consumeRx n i).snap.twin with heard := (s.consumeRx n i).now }).put Fld.snapTwinStatus_state 3).put Fld.snapTwinStatus_cause 2).event 0x0A01 none false 0 (toLE 4 (fieldLE p.body 2 4) ++ toLE 1 c)).dropMirrors.modesUpdate) →
    exec (.twinHello n) s = .next t ∧
      s.SameHbm t ∧ t.red = s.red) ∧
  (∀ (s : State) (n : Fin 12) (i : Nat) (p : Packet) (u v : State) (t : State), s.Live → s.findNotice n 0x10 = some (i, p) →
    s.twinState ≠ 4 → s.twinState ≠ 5 → s.helloFault p.body = none →
    (u = if s.twinState = 0 ∨ s.twinState = 1 then ((s.consumeRx n i).setTwin { (s.consumeRx n i).snap.twin with heard := (s.consumeRx n i).now }).sendHello else ((s.consumeRx n i).setTwin { (s.consumeRx n i).snap.twin with heard := (s.consumeRx n i).now })) →
    v = u.setTwin { u.snap.twin with far := ((List.range s.boot.partitions).map (fun k => FarPart.mk (fieldLE p.body (8 + 32 * k) 8) (fieldLE p.body (8 + 32 * k + 8) 8) (max (fieldLE p.body (8 + 32 * k + 16) 8) (fieldLE p.body (8 + 32 * k + 24) 8)))), rx := [], ahead := [] } →
    t = (((v.put Fld.snapTwinStatus_state (if fieldLE p.body 6 1 = 4 ∨ fieldLE p.body 6 1 = 5 then 6 else 2)).sendOwedResets.modesUpdate)) →
    exec (.twinHello n) s = .next t ∧
      s.SameHbm t ∧ t.ctl = s.ctl ∧ t.red = s.red) ∧
  (∀ (s : State) (n : Fin 12) (i : Nat) (p : Packet) (t : State), s.Live → s.findNotice n 0x10 = some (i, p) →
    (s.twinState = 4 ∨ s.twinState = 5) →
    t = (((s.consumeRx n i).setTwin { (s.consumeRx n i).snap.twin with heard := (s.consumeRx n i).now }).setTwin { ((s.consumeRx n i).setTwin { (s.consumeRx n i).snap.twin with heard := (s.consumeRx n i).now }).snap.twin with met := (s.helloFault p.body).isNone && [0, 1, 6].contains (fieldLE p.body 6 1) }).sendHello →
    exec (.twinHello n) s = .next t ∧
      s.SameHbm t ∧ t.ctl = s.ctl ∧ t.red = s.red) ∧
  (∀ (s : State) (t : State), s.Live → (s.twinState = 0 ∨ s.twinState = 1 ∨ s.twinState = 3) → s.twinPath = true →
    t = s.sendHello →
    exec (.twinHelloRetry) s = .next t ∧
      s.SameHbm t ∧ t.ctl = s.ctl ∧ t.snap = s.snap) ∧
  (∀ (s : State) (t : State), s.Live → s.twinPath = true →
    t = (s.sendNotice (toLE 2 0x11 ++ toLE 4 s.node ++ toLE 1 s.twinState ++ toLE 1 (if s.isHeld then 1 else 0) ++ (List.range s.boot.partitions).flatMap (fun p => toLE 8 ((s.highCommitted p).getD 0)))) →
    exec (.twinBeatSend) s = .next t ∧
      s.SameHbm t ∧ t.ctl = s.ctl ∧ t.regs = s.regs ∧ t.snap = s.snap) ∧
  (∀ (s : State) (n : Fin 12) (i : Nat) (p : Packet) (t : State), s.Live → s.findNotice n 0x11 = some (i, p) →
    t = (s.consumeRx n i).setTwin { (s.consumeRx n i).snap.twin with heard := (s.consumeRx n i).now, far := ((s.consumeRx n i).snap.twin.far.zipIdx).map (fun e => { e.1 with high := fieldLE p.body (8 + 8 * e.2) 8 }) } →
    exec (.twinBeat n) s = .next t ∧
      t.snap.twin.heard = s.now ∧
      s.SameHbm t ∧ t.ctl = s.ctl ∧ t.regs = s.regs) ∧
  (∀ (s : State) (t : State), s.Live → (s.twinState = 2 ∨ s.twinState = 6) → 47500 * s.beatLimit ≤ s.now - s.snap.twin.heard →
    t = s.twinFail 4 →
    exec (.beatLimit) s = .next t) ∧
  (∀ (s : State) (t : State), s.Live → s.now - s.snap.twin.heard < 47500 * s.beatLimit → t = s →
    exec (.beatLimit) s = .next t) ∧
  (∀ (s : State) (n : Fin 12) (i : Nat) (p : Packet) (t : State), s.Live → s.findNotice n 0x12 = some (i, p) →
    t = (s.consumeRx n i).twinFail (min 3 (fieldLE p.body 6 1)) →
    exec (.twinFailed n) s = .next t)

/-- Mirror data fill the buffer of their step, count, commit and are acknowledged; a reset empties it. Mirror data are stored at
their address with their buffer's step and acknowledged at 64, or refused where no buffer may take them or the evaluation
window holds them; a commit is counted and acknowledged, and commits where its count is whole; the timer acknowledges what
is due; an acknowledgement frees what it covers, ends the APPLYs it completes, or fails one; a reset empties both buffers.
Log entry 31. Under each clause's hypotheses on the state and the operands alone, exec answers the next state written:
MIRROR_DATA, MIRROR_COMMIT, MIRROR_ACK_TIMER, MIRROR_ACK, MIRROR_RESET. -/
def Obligations.TheMirrorTakesCountsAndAcknowledges : Prop :=
  (∀ (s : State) (n : Fin 12) (i : Nat) (pk : Packet) (p : Nat) (h : MirrorHdr) (t : State), s.Live →
    s.findMirror n false = some (i, pk) → s.packetPart pk = some p → s.ringStands = false → h = MirrorHdr.ofBytes pk.body →
    s.inWindow p h.addr ((pk.body.drop 0x20).take h.bytes).length = true → t = (s.consumeRx n i).evalWinEvent p 0 n h.addr →
    exec (.mirrorData n) s = .next t ∧
      s.SameHbm t ∧
      t.ctl = s.ctl ∧ t.red = s.red) ∧
  (∀ (s : State) (n : Fin 12) (i : Nat) (pk : Packet) (p : Nat) (h : MirrorHdr) (t : State), s.Live →
    s.findMirror n false = some (i, pk) → s.packetPart pk = some p → s.ringStands = false → h = MirrorHdr.ofBytes pk.body →
    s.inWindow p h.addr ((pk.body.drop 0x20).take h.bytes).length = false →
    (s.mirrorBuf p h.addr ((pk.body.drop 0x20).take h.bytes).length = none ∨ ∃ b, s.mirrorBuf p h.addr ((pk.body.drop 0x20).take h.bytes).length = some b ∧ s.bufHighest p b = true) →
    t = (s.consumeRx n i).sendMirrorAck p pk.job h.mseq 1 h.step →
    exec (.mirrorData n) s = .next t ∧
      s.SameHbm t ∧
      t.ctl = s.ctl ∧ t.regs = s.regs ∧ t.red = s.red) ∧
  (∀ (s : State) (n : Fin 12) (i : Nat) (pk : Packet) (p : Nat) (h : MirrorHdr) (b : Nat) (u : State) (t : State), s.Live →
    s.findMirror n false = some (i, pk) → s.packetPart pk = some p → s.ringStands = false → h = MirrorHdr.ofBytes pk.body →
    s.inWindow p h.addr ((pk.body.drop 0x20).take h.bytes).length = false →
    s.mirrorBuf p h.addr ((pk.body.drop 0x20).take h.bytes).length = some b → s.bufHighest p b = false →
    u = ((((s.consumeRx n i).fillBuf p b h.step).store h.addr ((pk.body.drop 0x20).take h.bytes)).countRemote h.addr ((pk.body.drop 0x20).take h.bytes).length).noteMseq p h.mseq →
    t = (if 64 ≤ Sparse.get zeroD u.snap.twin.due p then u.sendMirrorAck p pk.job (u.lastMseq p) 0 h.step else u) →
    exec (.mirrorData n) s = .next t ∧
      t.ctl = s.ctl ∧ t.red = s.red) ∧
  (∀ (s : State) (n : Fin 12) (i : Nat) (pk : Packet) (p : Nat) (h : MirrorHdr) (t : State), s.Live →
    s.findMirror n true = some (i, pk) → s.packetPart pk = some p → s.ringStands = false → h = MirrorHdr.ofBytes pk.body →
    (s.mirrorBuf p h.addr 1 = none ∨ ∃ b, s.mirrorBuf p h.addr 1 = some b ∧ s.bufHighest p b = true) →
    t = (s.consumeRx n i).sendMirrorAck p pk.job h.mseq 1 h.step →
    exec (.mirrorCommit n) s = .next t ∧
      t.ctl = s.ctl ∧ t.red = s.red ∧ t.mem = s.mem) ∧
  (∀ (s : State) (n : Fin 12) (i : Nat) (pk : Packet) (p : Nat) (h : MirrorHdr) (b : Nat) (u : State) (full : Bool) (t : State), s.Live →
    s.findMirror n true = some (i, pk) → s.packetPart pk = some p → s.ringStands = false → h = MirrorHdr.ofBytes pk.body →
    s.mirrorBuf p h.addr 1 = some b → s.bufHighest p b = false →
    ((s.consumeRx n i).noteMseq p h.mseq).countBuf p b h.step h.bytes = (u, full) →
    t = (u.sendMirrorAck p pk.job (u.lastMseq p) (if full then 2 else 0) h.step) →
    exec (.mirrorCommit n) s = .next t ∧
      t.ctl = s.ctl ∧ t.red = s.red ∧ t.mem = s.mem) ∧
  (∀ (s : State) (p : Fin 4) (t : State), s.Live → s.isHeld = false → Sparse.get zeroD s.snap.twin.due p.val ≠ 0 →
    t = (s.sendMirrorAck p (s.jobOf p) (s.lastMseq p) 0 (s.f (mirrorStepF p (if s.f (mirrorStateF p 0) = 1 then 0 else 1)))) →
    exec (.mirrorAckTimer p) s = .next t ∧
      Sparse.get zeroD t.snap.twin.due p.val = 0 ∧
      t.ctl = s.ctl ∧ t.red = s.red ∧ t.mem = s.mem ∧ t.regs = s.regs) ∧
  (∀ (s : State) (n : Fin 12) (i : Nat) (pk : Packet) (p : Nat) (x : ApplyRun) (t : State), s.Live →
    s.findRx n (fun p => p.kind == 0x20 && testBit p.kflags 0 && p.dest == s.node) = some (i, pk) → s.packetPart pk = some p →
    s.ringStands = false → testBit (fieldLE pk.body 4 1) 0 = true →
    s.snap.twin.applies.find? (fun x => x.part == p && (x.unacked.contains (fieldLE pk.body 0 4) || x.commit == some (fieldLE pk.body 0 4))) = some x →
    t = (s.consumeRx n i).applyEnd x Res.badField →
    exec (.mirrorAck n) s = .next t ∧
      t.mem = s.mem ∧ t.red = s.red) ∧
  (∀ (s : State) (n : Fin 12) (i : Nat) (pk : Packet) (p : Nat) (r u : State) (t : State), s.Live →
    s.findRx n (fun p => p.kind == 0x20 && testBit p.kflags 0 && p.dest == s.node) = some (i, pk) → s.packetPart pk = some p →
    s.ringStands = false → testBit (fieldLE pk.body 4 1) 0 = false →
    (r = (s.consumeRx n i).setTwin { s.snap.twin with applies := s.snap.twin.applies.map (fun x => if x.part = p then { x with unacked := x.unacked.filter (fun a => !seqCovered (fieldLE pk.body 0 4) a) } else x) }) →
    (u = if testBit (fieldLE pk.body 4 1) 1 then (r.setTwin { r.snap.twin with committed := Sparse.put (fun _ => false) r.snap.twin.committed p true }).wr (Reg.snapOutStep p) (fieldLE pk.body 8 8) else r) →
    t = (((u.snap.twin.applies.filter (fun x => x.part == p && (match x.commit with | some c => seqCovered (fieldLE pk.body 0 4) c | none => false))).foldl (fun t x => t.applyEnd x Res.ok) u).sendCommits).modeUpdate p →
    exec (.mirrorAck n) s = .next t ∧
      t.mem = s.mem ∧ t.red = s.red) ∧
  (∀ (s : State) (n : Fin 12) (i : Nat) (pk : Packet) (p : Fin 4) (t : State), s.Live → s.findNotice n 0x15 = some (i, pk) →
    fieldLE pk.body 2 1 = p.val →
    t = (((((s.consumeRx n i).put (mirrorStateF p 0) 0).put (mirrorStateF p 1) 0).put (mirrorStepF p 0) 0).put (mirrorStepF p 1) 0) →
    exec (.mirrorReset n) s = .next t ∧
      t.bufCommitted p 0 = none ∧
      t.bufCommitted p 1 = none ∧
      t.mem = s.mem ∧ t.ctl = s.ctl ∧ t.red = s.red ∧ t.snap = s.snap)

/-- HANDBACK_GO asks the twin, which sends the listed ranges and DONE or refuses; DONE ends the request. A write of
SNAP_HANDBACK_n takes its list and clears what it clears, and with go asks the twin or shows a refusal; a request for ranges
that are owned and settled is answered with their bytes and DONE, any other with its refusal; DONE sets done and lets
waiting groups go on, or sets refused. Log entry 31. Under each clause's hypotheses on the state and the operands alone,
exec answers the next state written: HANDBACK_REQ, HANDBACK_DONE, HANDBACK_GO. -/
def Obligations.HandbacksAreAskedAndAnswered : Prop :=
  (∀ (s : State) (n : Fin 12) (i : Nat) (pk : Packet) (p : Nat) (t : State), s.Live → s.findNotice n 0x13 = some (i, pk) →
    s.isHeld = false → fieldLE pk.body 2 1 = p → (s.boot.partitions ≤ p ∨ s.handbackList (fieldLE pk.body 3 8) = none) →
    t = (s.consumeRx n i).sendNotice (toLE 2 0x14 ++ toLE 1 p ++ toLE 1 Res.badField) →
    exec (.handbackReq n) s = .next t ∧
      s.SameHbm t ∧ t.regs = s.regs ∧ t.ctl = s.ctl ∧ t.snap = s.snap) ∧
  (∀ (s : State) (n : Fin 12) (i : Nat) (pk : Packet) (p : Nat) (es : List (Nat × Nat × Nat × Nat)) (t : State), s.Live →
    s.findNotice n 0x13 = some (i, pk) → s.isHeld = false → fieldLE pk.body 2 1 = p → p < s.boot.partitions →
    s.handbackList (fieldLE pk.body 3 8) = some es →
    es.all (fun e => s.ownsRange p e.1 e.2.2.1 && (e.2.2.2 == 1 || (s.mirrorBuf p e.1 e.2.2.1).isSome) && !(s.inFlight.any (fun o => s.opPart o.2 == p && s.writesScope [(e.1, e.2.2.1)] o.2))) = true →
    t = (es.foldl (fun t e => ((chunks 16384 (t.bytes e.1 e.2.2.1)).zipIdx).foldl (fun t c => (t.sendBoard (t.position ^^^ 1) (t.mkPacket (t.jobOf p) 0x21 t.twinNode (toLE 8 (e.2.1 + 16384 * c.2) ++ c.1)) none).countRemote (e.1 + 16384 * c.2) c.1.length) t) (s.consumeRx n i)).sendNotice (toLE 2 0x14 ++ toLE 1 p ++ toLE 1 Res.ok) →
    exec (.handbackReq n) s = .next t ∧
      s.SameHbm t ∧ t.ctl = s.ctl ∧ t.snap = s.snap) ∧
  (∀ (s : State) (n : Fin 12) (i : Nat) (pk : Packet) (p : Nat) (es : List (Nat × Nat × Nat × Nat)) (t : State), s.Live →
    s.findNotice n 0x13 = some (i, pk) → s.isHeld = false → fieldLE pk.body 2 1 = p → p < s.boot.partitions →
    s.handbackList (fieldLE pk.body 3 8) = some es →
    es.all (fun e => s.ownsRange p e.1 e.2.2.1 && (e.2.2.2 == 1 || (s.mirrorBuf p e.1 e.2.2.1).isSome) && !(s.inFlight.any (fun o => s.opPart o.2 == p && s.writesScope [(e.1, e.2.2.1)] o.2))) = false →
    t = (s.consumeRx n i).sendNotice (toLE 2 0x14 ++ toLE 1 p ++ toLE 1 Res.badField) →
    exec (.handbackReq n) s = .next t ∧
      s.SameHbm t ∧ t.regs = s.regs ∧ t.ctl = s.ctl ∧ t.snap = s.snap) ∧
  (∀ (s : State) (n : Fin 12) (i : Nat) (pk : Packet) (p : Fin 4) (t : State), s.Live → s.findNotice n 0x14 = some (i, pk) →
    fieldLE pk.body 2 1 = p.val → (∀ x, s.snap.restore = some x → x.part ≠ p.val) → s.flag (Fld.snapHandback_go p) = true →
    fieldLE pk.body 3 1 = 0 →
    t = (((s.consumeRx n i).put (Fld.snapHandback_go p) 0).groupsOf (fun g => g.part == p.val && g.waitHandback)).foldl (fun t e => t.setGrp e.1 (some { e.2 with waitHandback := false })) (((s.consumeRx n i).put (Fld.snapHandback_go p) 0).put (Fld.snapHandback_done p) 1) →
    exec (.handbackDone n) s = .next t ∧
      s.SameHbm t ∧ t.ctl = s.ctl) ∧
  (∀ (s : State) (n : Fin 12) (i : Nat) (pk : Packet) (p : Fin 4) (t : State), s.Live → s.findNotice n 0x14 = some (i, pk) →
    fieldLE pk.body 2 1 = p.val → (∀ x, s.snap.restore = some x → x.part ≠ p.val) → s.flag (Fld.snapHandback_go p) = true →
    fieldLE pk.body 3 1 ≠ 0 → t = ((s.consumeRx n i).put (Fld.snapHandback_go p) 0).put (Fld.snapHandback_refused p) 1 →
    exec (.handbackDone n) s = .next t ∧
      t.red = s.red ∧
      s.SameHbm t ∧ t.ctl = s.ctl) ∧
  (∀ (s : State) (w : Writer) (n : Fin 4) (v : Word64) (u : State) (t : State), s.Live →
    s.Accepts w (Reg.snapHandback n) v.toNat →
    (u = ((if testBit v.toNat 2 then (if testBit v.toNat 1 then s.put (Fld.snapHandback_done n) 0 else s).put (Fld.snapHandback_refused n) 0 else (if testBit v.toNat 1 then s.put (Fld.snapHandback_done n) 0 else s)).put (Fld.snapHandback_list n) (bits v.toNat 6 58))) →
    (testBit v.toNat 0 = false ∨ u.flag (Fld.snapHandback_go n) = true) → t = u →
    exec (.handbackGo w n v) s = .next t ∧
      s.SameHbm t ∧ t.ctl = s.ctl) ∧
  (∀ (s : State) (w : Writer) (n : Fin 4) (v : Word64) (u : State) (x : State) (t : State), s.Live →
    s.Accepts w (Reg.snapHandback n) v.toNat →
    (u = ((if testBit v.toNat 2 then (if testBit v.toNat 1 then s.put (Fld.snapHandback_done n) 0 else s).put (Fld.snapHandback_refused n) 0 else (if testBit v.toNat 1 then s.put (Fld.snapHandback_done n) 0 else s)).put (Fld.snapHandback_list n) (bits v.toNat 6 58))) →
    testBit v.toNat 0 = true → u.flag (Fld.snapHandback_go n) = false →
    u.askHandback n (u.rd (Reg.snapHandback n) / 64 * 64) = some x → t = x.put (Fld.snapHandback_go n) 1 →
    exec (.handbackGo w n v) s = .next t ∧
      s.SameHbm t ∧ t.ctl = s.ctl) ∧
  (∀ (s : State) (w : Writer) (n : Fin 4) (v : Word64) (u : State) (t : State), s.Live →
    s.Accepts w (Reg.snapHandback n) v.toNat →
    (u = ((if testBit v.toNat 2 then (if testBit v.toNat 1 then s.put (Fld.snapHandback_done n) 0 else s).put (Fld.snapHandback_refused n) 0 else (if testBit v.toNat 1 then s.put (Fld.snapHandback_done n) 0 else s)).put (Fld.snapHandback_list n) (bits v.toNat 6 58))) →
    testBit v.toNat 0 = true → u.flag (Fld.snapHandback_go n) = false →
    u.askHandback n (u.rd (Reg.snapHandback n) / 64 * 64) = none →
    t = (u.put (Fld.snapHandback_go n) 0).put (Fld.snapHandback_refused n) 1 →
    exec (.handbackGo w n v) s = .next t ∧
      s.SameHbm t ∧ t.ctl = s.ctl)

/-- A quiesced stop captures its metadata, the seal copies and seals the slot, a drain writes the flash log, and pins and count
floors keep to theirs. A stop with nothing busy writes its metadata and is captured; the seal copies the regions, seals the
slot and ends the item, and queues a drain where asked; a drain with its key writes sealed records over the oldest unpinned
ones, without the key or the room it ends SEALED with an event; the last SHIP record is sent; pins and unpins change one
identity; a count floor only rises, with no SNAPSHOT in flight. Log entry 32. Under each clause's hypotheses on the state
and the operands alone, exec answers the next state written: SNAPSHOT_QUIESCED, SNAPSHOT_SEAL, DRAIN_COMPLETE, SHIP_END,
SNAP_PIN, SNAP_UNPIN, SNAP_COUNT_FLOOR_WRITE. -/
def Obligations.SnapshotsAreCapturedSealedAndDrained : Prop :=
  (∀ (s : State) (p : Fin 4) (r : StopRun) (has : Bool) (t : State), s.Live → s.stopOf p = some r → r.captured = false →
    s.partBusy p = false → s.serving = true → has = (testBit r.options 1 && (s.lastStepRecord p).isSome) →
    t = (((((s.store (s.metaArea p r.k) (s.imageHeader p r (if has then 1 else 0) ((s.metaSections p has).length + 16 * r.regions.length) ++ s.metaSections p has)).putB (Fld.snapSlotState_step_record (4 * p.val + r.k)) has).wr (Reg.snapSlotStep (4 * p.val + r.k)) (s.rd (Reg.stepN p))).put (slotStateF (4 * p.val + r.k)) 1).setStop p (some { r with captured := true })) →
    exec (.snapshotQuiesced p) s = .next t ∧
      t.stopOf p = some { r with captured := true } ∧
      t.ctl = s.ctl ∧ t.comp = s.comp ∧ t.recorder = s.recorder) ∧
  (∀ (s : State) (p : Fin 4) (r : StopRun) (t : State), s.Live → s.stopOf p = some r → r.captured = true → s.serving = true →
    testBit r.options 0 = false →
    t = ((((s.sealCopy p r).1.sealSlot p r (s.sealCopy p r).2).addDetail r.slot ((r.regions.map Prod.snd).foldl (· + ·) 0)).finish r.slot Res.ok) →
    exec (.snapshotSeal p) s = .next t ∧
      t.comp = s.comp ∧ t.recorder = s.recorder ∧ t.pins = s.pins) ∧
  (∀ (s : State) (p : Fin 4) (r : StopRun) (u : State) (t : State), s.Live → s.stopOf p = some r → r.captured = true →
    s.serving = true → testBit r.options 0 = true →
    u = ((((s.sealCopy p r).1.sealSlot p r (s.sealCopy p r).2).addDetail r.slot ((r.regions.map Prod.snd).foldl (· + ·) 0)).finish r.slot Res.ok) →
    t = ((u.put (slotStateF (4 * p.val + r.k)) 4).setFlash { u.snap.flash with draining := u.snap.flash.draining ++ [4 * p.val + r.k] }).flashShow →
    exec (.snapshotSeal p) s = .next t ∧
      t.snap.flash.draining = u.snap.flash.draining ++ [4 * p.val + r.k] ∧
      t.comp = s.comp ∧ t.recorder = s.recorder ∧ t.pins = s.pins) ∧
  (∀ (s : State) (i : Fin 16) (t : State), s.Live → s.snap.flash.draining.contains i.val = true →
    s.f Fld.thmSaveStatus_state = 0 → s.isHeld = false → s.key (s.f (Fld.snapCfg_drain_key_slot (i.val / 4))) = none →
    t = ((s.put (slotStateF i) 2).setFlash { s.snap.flash with draining := s.snap.flash.draining.filter (· != i.val) }).flashShow.generic Blk.snap (some (i.val / 4)) i (s.rd (Reg.snapSlotId i)) Res.badField →
    exec (.drainComplete i) s = .next t ∧
      s.SameHbm t ∧ t.ctl = s.ctl ∧ t.comp = s.comp) ∧
  (∀ (s : State) (i : Fin 16) (key : List Byte) (pl : List (LogRec × List Byte) × Nat) (rs log : List LogRec) (f : Flash) (t : State), s.Live →
    s.snap.flash.draining.contains i.val = true → s.f Fld.thmSaveStatus_state = 0 → s.isHeld = false →
    s.key (s.f (Fld.snapCfg_drain_key_slot (i.val / 4))) = some key →
    pl = placeLog (s.rd Reg.snapFlashCap) s.snap.flash.tail s.snap.flash.nextSeq (imageRecords (s.rd (Reg.snapSlotId i)) (s.f (Fld.snapCfg_drain_key_slot (i.val / 4))) (fieldLE (s.saddleImage (i.val / 4) (i.val % 4)) 2 1) (s.saddleImage (i.val / 4) (i.val % 4)) s.snap.flash.nextSeq) →
    (rs = pl.1.map (fun e => if e.1.typ = 4 then e.1 else e.1.seal key e.2)) →
    log = trimLog (logBytes (s.rd Reg.snapFlashCap) rs) (s.rd Reg.snapFlashCap) (fun x => s.snap.flash.pins.contains x || s.snap.flash.ships.any (fun h => h.id == x)) s.snap.flash.log.length s.snap.flash.log →
    logBytes (s.rd Reg.snapFlashCap) rs + logBytes (s.rd Reg.snapFlashCap) log ≤ s.rd Reg.snapFlashCap →
    f = { s.snap.flash with log := log ++ rs, nextSeq := s.snap.flash.nextSeq + rs.length, tail := pl.2, ends := ((log ++ rs).head?.elim 0 LogRec.at_, pl.2), anchor := Sparse.put zeroD s.snap.flash.anchor (i.val / 4) (Sparse.get zeroD s.snap.flash.next (i.val / 4)) } →
    t = ((((s.setFlash f).put (slotStateF i) 5).setFlash { f with draining := f.draining.filter (· != i.val) }).flashShow) →
    exec (.drainComplete i) s = .next t ∧
      t.snap.flash.log = log ++ rs ∧
      s.SameHbm t ∧ t.ctl = s.ctl ∧ t.comp = s.comp) ∧
  (∀ (s : State) (i : Fin 16) (key : List Byte) (pl : List (LogRec × List Byte) × Nat) (rs log : List LogRec) (t : State), s.Live →
    s.snap.flash.draining.contains i.val = true → s.f Fld.thmSaveStatus_state = 0 → s.isHeld = false →
    s.key (s.f (Fld.snapCfg_drain_key_slot (i.val / 4))) = some key →
    pl = placeLog (s.rd Reg.snapFlashCap) s.snap.flash.tail s.snap.flash.nextSeq (imageRecords (s.rd (Reg.snapSlotId i)) (s.f (Fld.snapCfg_drain_key_slot (i.val / 4))) (fieldLE (s.saddleImage (i.val / 4) (i.val % 4)) 2 1) (s.saddleImage (i.val / 4) (i.val % 4)) s.snap.flash.nextSeq) →
    (rs = pl.1.map (fun e => if e.1.typ = 4 then e.1 else e.1.seal key e.2)) →
    log = trimLog (logBytes (s.rd Reg.snapFlashCap) rs) (s.rd Reg.snapFlashCap) (fun x => s.snap.flash.pins.contains x || s.snap.flash.ships.any (fun h => h.id == x)) s.snap.flash.log.length s.snap.flash.log →
    s.rd Reg.snapFlashCap < logBytes (s.rd Reg.snapFlashCap) rs + logBytes (s.rd Reg.snapFlashCap) log →
    t = ((((s.setFlash { s.snap.flash with log := log }).put (slotStateF i) 2).put Fld.snapFlashStatus_full 1).setFlash { s.snap.flash with log := log, draining := s.snap.flash.draining.filter (· != i.val) }).flashShow.event 0x0A04 (some (i.val / 4)) (s.partCantle (i.val / 4)) 0 (toLE 8 (s.rd (Reg.snapSlotId i))) →
    exec (.drainComplete i) s = .next t ∧
      s.SameHbm t ∧ t.ctl = s.ctl ∧ t.comp = s.comp) ∧
  (∀ (s : State) (slot : Fin 4096) (h : ShipRun) (r : LogRec) (l : List LogRec) (u : State) (t : State), s.Live →
    s.snap.flash.ships.find? (fun h => h.slot == slot.val) = some h → h.left = r :: l → s.qpReady h.qp = true →
    s.f Fld.thmSaveStatus_state = 0 → s.isHeld = false →
    u = (s.request h.qp (.write h.qp h.rkey h.at_ r.toBytes (some (h.id % 2 ^ 32))) r.toBytes.length 0).addDetail slot r.toBytes.length →
    t = (u.setFlash { u.snap.flash with ships := u.snap.flash.ships.map (fun x => if x.slot = slot.val then { x with left := [] } else x) }) →
    exec (.shipEnd slot) s = .next t ∧
      s.SameHbm t ∧ t.comp = s.comp ∧ t.recorder = s.recorder) ∧
  (∀ (s : State) (w : Writer) (t : State), s.Live → s.mayWriteS w = true →
    s.writerPasses w (bits (s.rd Reg.snapPinId) 22 2) = true → s.snap.flash.pins.contains (s.rd Reg.snapPinId) = false →
    s.snap.flash.pins.length < 64 → t = s.setFlash { s.snap.flash with pins := s.snap.flash.pins ++ [s.rd Reg.snapPinId] } →
    exec (.snapPin w true) s = .next t ∧
      s.SameHbm t ∧ t.ctl = s.ctl ∧ t.regs = s.regs) ∧
  (∀ (s : State) (w : Writer) (t : State), s.Live → s.mayWriteS w = true →
    s.writerPasses w (bits (s.rd Reg.snapPinId) 22 2) = true → s.snap.flash.pins.contains (s.rd Reg.snapPinId) = true → t = s →
    exec (.snapPin w true) s = .next t) ∧
  (∀ (s : State) (w : Writer) (t : State), s.Live → s.mayWriteS w = true →
    s.writerPasses w (bits (s.rd Reg.snapPinId) 22 2) = true → s.snap.flash.pins.contains (s.rd Reg.snapPinId) = false →
    64 ≤ s.snap.flash.pins.length → t = s.badWrite Reg.snapPinCmd 0x80000001 →
    exec (.snapPin w true) s = .next t ∧
      t.snap = s.snap) ∧
  (∀ (s : State) (w : Writer) (t : State), s.Live → s.mayWriteS w = true →
    s.writerPasses w (bits (s.rd Reg.snapPinId) 22 2) = true →
    t = s.setFlash { s.snap.flash with pins := s.snap.flash.pins.filter (· != s.rd Reg.snapPinId) } →
    exec (.snapUnpin w true) s = .next t ∧
      s.SameHbm t ∧ t.ctl = s.ctl ∧ t.regs = s.regs) ∧
  (∀ (s : State) (w : Writer) (n : Fin 4) (v : Word32) (t : State), s.Live → s.Accepts w (Reg.snapCountFloor n) v.toNat →
    s.f (Fld.snapCountFloor_floor n) ≤ (bits v.toNat 0 22) →
    s.inFlight.any (fun e => s.opPart e.2 == n.val && e.2.opcode == 6) = false →
    t = (s.put (Fld.snapCountFloor_floor n) (bits v.toNat 0 22)).setFlash { s.snap.flash with next := Sparse.put zeroD s.snap.flash.next n (max (bits v.toNat 0 22) (Sparse.get zeroD s.snap.flash.next n)) } →
    exec (.snapCountFloorWrite w n v) s = .next t ∧
      t.f (Fld.snapCountFloor_floor n) = (bits v.toNat 0 22) ∧
      s.SameHbm t ∧ t.ctl = s.ctl) ∧
  (∀ (s : State) (w : Writer) (n : Fin 4) (v : Word32) (t : State), s.Live → s.Accepts w (Reg.snapCountFloor n) v.toNat →
    ((bits v.toNat 0 22) < s.f (Fld.snapCountFloor_floor n) ∨ s.inFlight.any (fun e => s.opPart e.2 == n.val && e.2.opcode == 6) = true) →
    t = s.badWrite (Reg.snapCountFloor n) v.toNat →
    exec (.snapCountFloorWrite w n v) s = .next t ∧
      s.SameHbm t ∧ t.ctl = s.ctl ∧ t.snap = s.snap)

/-- Restores from saddle, flash, remote and twin start or are refused, and move through their phases to the end. Each source
starts a restore when the sequencer is free and its partition is idle, with the fields of SNAP_RESTORE, or is refused with
BAD_FIELD; each phase end moves it to the next phase's work, and the last finishes it from its image. Log entry 33. Under
each clause's hypotheses on the state and the operands alone, exec answers the next state written: RESTORE_SADDLE,
RESTORE_FLASH, RESTORE_TWIN, RESTORE_REMOTE, RESTORE_PHASE_END. -/
def Obligations.RestoresStartAndMoveThroughTheirPhases : Prop :=
  (∀ (s : State) (w : Writer) (p : Fin 4) (ctr : Fin 16384) (r : Restore) (t : State), s.Live → s.mayWriteS w = true →
    s.writerPasses w p = true → s.snap.restore = none → (s.part p).started = true → s.serving = true → s.boot.seqUse = none →
    (s.flag Fld.snapRestoreSrc_tensors_only = false → s.idlePart p = true) → s.ctrPart ctr = some p.val →
    s.f Fld.snapRestoreSrc_source = 0 →
    r = ⟨p, 0, s.f Fld.snapRestoreSrc_slot, s.flag Fld.snapRestoreSrc_tensors_only, s.f Fld.snapRestoreSrc_qp, s.f Fld.snapRestoreSrc_rkey, s.rd Reg.snapRestoreAddr, ctr, [], none, false⟩ →
    t = ((((s.put Fld.snapRestoreStatus_phase 1).put Fld.snapRestoreStatus_result 0).setRestore (some r)).setBoot { s.boot with seqUse := some .restore }) →
    exec (.restoreSaddle w p ctr) s = .next t ∧
      t.snap.restore = some r ∧
      t.boot.seqUse = some .restore ∧
      t.f Fld.snapRestoreStatus_phase = 1 ∧
      s.SameHbm t ∧ t.ctl = s.ctl ∧ t.red = s.red) ∧
  (∀ (s : State) (w : Writer) (p : Fin 4) (ctr : Fin 16384) (r : Restore) (t : State), s.Live → s.mayWriteS w = true →
    s.writerPasses w p = true → s.snap.restore = none → (s.part p).started = true → s.serving = true → s.boot.seqUse = none →
    (s.flag Fld.snapRestoreSrc_tensors_only = false → s.idlePart p = true) → s.ctrPart ctr = some p.val →
    s.f Fld.snapRestoreSrc_source = 1 →
    r = ⟨p, 1, s.f Fld.snapRestoreSrc_slot, s.flag Fld.snapRestoreSrc_tensors_only, s.f Fld.snapRestoreSrc_qp, s.f Fld.snapRestoreSrc_rkey, s.rd Reg.snapRestoreAddr, ctr, [], none, false⟩ →
    t = ((((s.put Fld.snapRestoreStatus_phase 1).put Fld.snapRestoreStatus_result 0).setRestore (some r)).setBoot { s.boot with seqUse := some .restore }) →
    exec (.restoreFlash w p ctr) s = .next t ∧
      t.snap.restore = some r ∧
      t.boot.seqUse = some .restore ∧
      t.f Fld.snapRestoreStatus_phase = 1 ∧
      s.SameHbm t ∧ t.ctl = s.ctl ∧ t.red = s.red) ∧
  (∀ (s : State) (w : Writer) (p : Fin 4) (ctr : Fin 16384) (r : Restore) (t : State), s.Live → s.mayWriteS w = true →
    s.writerPasses w p = true → s.snap.restore = none → (s.part p).started = true → s.serving = true → s.boot.seqUse = none →
    (s.flag Fld.snapRestoreSrc_tensors_only = false → s.idlePart p = true) → s.ctrPart ctr = some p.val →
    s.f Fld.snapRestoreSrc_source = 3 →
    r = ⟨p, 3, s.f Fld.snapRestoreSrc_slot, s.flag Fld.snapRestoreSrc_tensors_only, s.f Fld.snapRestoreSrc_qp, s.f Fld.snapRestoreSrc_rkey, s.rd Reg.snapRestoreAddr, ctr, [], none, false⟩ →
    t = ((((s.put Fld.snapRestoreStatus_phase 1).put Fld.snapRestoreStatus_result 0).setRestore (some r)).setBoot { s.boot with seqUse := some .restore }) →
    exec (.restoreTwin w p ctr) s = .next t ∧
      t.snap.restore = some r ∧
      t.boot.seqUse = some .restore ∧
      t.f Fld.snapRestoreStatus_phase = 1 ∧
      s.SameHbm t ∧ t.ctl = s.ctl ∧ t.red = s.red) ∧
  (∀ (s : State) (w : Writer) (p : Fin 4) (ctr : Fin 16384) (r : Restore) (t : State), s.Live → s.mayWriteS w = true →
    s.writerPasses w p = true → s.snap.restore = none → (s.part p).started = true → s.serving = true → s.boot.seqUse = none →
    (s.flag Fld.snapRestoreSrc_tensors_only = false → s.idlePart p = true) → s.ctrPart ctr = some p.val →
    s.f Fld.snapRestoreSrc_source = 2 →
    r = ⟨p, 2, s.f Fld.snapRestoreSrc_slot, s.flag Fld.snapRestoreSrc_tensors_only, s.f Fld.snapRestoreSrc_qp, s.f Fld.snapRestoreSrc_rkey, s.rd Reg.snapRestoreAddr, ctr, [], none, false⟩ →
    s.qpReady r.qp = true →
    t = ((((s.put Fld.snapRestoreStatus_phase 1).put Fld.snapRestoreStatus_result 0).setRestore (some r)).setBoot { s.boot with seqUse := some .restore }).askStore r 0 8192 →
    exec (.restoreRemote w p ctr) s = .next t ∧
      s.SameHbm t ∧ t.ctl = s.ctl ∧ t.red = s.red) ∧
  (∀ (s : State) (w : Writer) (p : Fin 4) (ctr : Fin 16384) (t : State), s.Live → s.mayWriteS w = true →
    s.writerPasses w p = true → s.snap.restore = none →
    ((s.part p).started = false ∨ s.serving = false ∨ s.boot.seqUse.isSome = true ∨ (s.flag Fld.snapRestoreSrc_tensors_only = false ∧ s.idlePart p = false)) →
    s.f Fld.snapRestoreSrc_source = 0 → t = (s.put Fld.snapRestoreStatus_phase 6).put Fld.snapRestoreStatus_result Res.badField →
    exec (.restoreSaddle w p ctr) s = .next t ∧
      s.SameHbm t ∧ t.ctl = s.ctl ∧ t.snap = s.snap ∧ t.boot = s.boot) ∧
  (∀ (s : State) (r : Restore) (t : State), s.Live → s.snap.restore = some r → s.isHeld = false →
    s.f Fld.thmSaveStatus_state = 0 → s.f Fld.snapRestoreStatus_phase = 1 → t = s.restoreVerify r →
    exec (.restorePhaseEnd) s = .next t ∧
      s.SameHbm t ∧ t.ctl = s.ctl ∧ t.red = s.red) ∧
  (∀ (s : State) (r : Restore) (t : State), s.Live → s.snap.restore = some r → s.isHeld = false →
    s.f Fld.thmSaveStatus_state = 0 → s.f Fld.snapRestoreStatus_phase = 2 → t = s.restoreRouting r →
    exec (.restorePhaseEnd) s = .next t ∧
      s.SameHbm t ∧ t.ctl = s.ctl) ∧
  (∀ (s : State) (r : Restore) (t : State), s.Live → s.snap.restore = some r → s.isHeld = false →
    s.f Fld.thmSaveStatus_state = 0 → s.f Fld.snapRestoreStatus_phase = 3 → t = s.restoreTensors r →
    exec (.restorePhaseEnd) s = .next t ∧
      t.ctl = s.ctl ∧ t.red = s.red) ∧
  (∀ (s : State) (r : Restore) (t : State), s.Live → s.snap.restore = some r → s.isHeld = false →
    s.f Fld.thmSaveStatus_state = 0 → s.f Fld.snapRestoreStatus_phase = 4 → t = s.restoreFinish r (s.restoreImage r) →
    exec (.restorePhaseEnd) s = .next t ∧
      s.SameHbm t)

/-- The evaluation window opens only with no writer inside and closes, and a missed lease renewal holds the device. An
evaluation window is enabled with no operation in flight that writes inside it and refused otherwise; disabling closes it; a
renewal keeps the lease; a missed one puts the device in HELD with its cause, told to the recorder and to the twin. Log
entries 31, 32 and 36. Under each clause's hypotheses on the state and the operands alone, exec answers the next state
written: EVALWIN_ENABLE, EVALWIN_DISABLE, LEASE_RENEWAL, LEASE_RENEWAL_MISSED. -/
def Obligations.TheWindowAndTheLeaseAreObeyed : Prop :=
  (∀ (s : State) (w : Writer) (n : Fin 4) (t : State), s.Live → s.Accepts w (Reg.snapEvalwinCtrl n) 1 →
    s.inFlight.any (fun o => s.opPart o.2 == n.val && s.writesScope [(s.rd (Reg.snapEvalwinBase n), s.rd (Reg.snapEvalwinLimit n) - s.rd (Reg.snapEvalwinBase n))] o.2) = true →
    t = s.put (Fld.snapEvalwinCtrl_refused n) 1 →
    exec (.evalwinEnable w n) s = .next t ∧
      t.flag (Fld.snapEvalwinCtrl_refused n) = true ∧
      s.SameHbm t ∧ t.ctl = s.ctl ∧ t.snap = s.snap) ∧
  (∀ (s : State) (w : Writer) (n : Fin 4) (t : State), s.Live → s.Accepts w (Reg.snapEvalwinCtrl n) 1 →
    s.inFlight.any (fun o => s.opPart o.2 == n.val && s.writesScope [(s.rd (Reg.snapEvalwinBase n), s.rd (Reg.snapEvalwinLimit n) - s.rd (Reg.snapEvalwinBase n))] o.2) = false →
    t = s.put (Fld.snapEvalwinCtrl_enable n) 1 →
    exec (.evalwinEnable w n) s = .next t ∧
      t.flag (Fld.snapEvalwinCtrl_enable n) = true ∧
      s.SameHbm t ∧ t.ctl = s.ctl ∧ t.snap = s.snap) ∧
  (∀ (s : State) (w : Writer) (n : Fin 4) (t : State), s.Live → s.Accepts w (Reg.snapEvalwinCtrl n) 0 →
    t = s.put (Fld.snapEvalwinCtrl_enable n) 0 →
    exec (.evalwinDisable w n) s = .next t ∧
      t.flag (Fld.snapEvalwinCtrl_enable n) = false ∧
      s.SameHbm t ∧ t.ctl = s.ctl ∧ t.snap = s.snap) ∧
  (∀ (s : State) (t : State), s.Live → s.boot.leadClaimed = true → s.isHeld = false →
    t = s.setBoot { s.boot with renewedAt := s.now } →
    exec (.leaseRenewal) s = .next t ∧
      s.SameHbm t ∧ t.ctl = s.ctl ∧ t.regs = s.regs) ∧
  (∀ (s : State) (cause : Fin 3) (u : State) (t : State), s.Live → s.boot.leadClaimed = true → s.isHeld = false →
    (cause.val = 0 → s.boot.cppRefused = false) →
    (u = (((s.put Fld.snapHeld_held 1).put (if cause.val = 0 then Fld.snapHeld_dual_claim else if cause.val = 1 then Fld.snapHeld_lost_pommel else Fld.snapHeld_lost_cantle) 1).put Fld.evrecStatus_held_writer 1).clocks) →
    t = (u.event 0x0A06 none (cause.val == 2) 0 (toLE 4 (u.rd Reg.snapHeld))).sendTwinFailed 0 →
    exec (.leaseRenewalMissed cause) s = .next t ∧
      t.isHeld = true ∧
      s.SameHbm t ∧ t.ctl = s.ctl ∧ t.comp = s.comp)

/-- A rein tick allocates duty under the cap, telemetry sets the excess, and frequency steps wait for their rail. A tick
estimates, allocates duty to the arrays and grants to streams under the effective cap, shows them and counts gated cycles,
with no duty in a save; a telemetry window sets the excess of measured over estimated power, or after four bad windows the
margin of 15 percent; the cap is taken within its limits; a frequency step down is taken at once, a step up when all its
rails have acknowledged. Fixed-point constants are the model's (log entries 15, 30 and 44). Under each clause's hypotheses
on the state and the operands alone, exec answers the next state written: REIN_TICK, REIN_CAP_WRITE, TELEMETRY_WINDOW,
FREQUENCY_STEP, TARGET_RAIL_VOLTAGE_ACK. -/
def Obligations.TheReinTheTelemetryAndTheFrequencyStep : Prop :=
  (∀ (s : State) (t : State), s.Live → (s.saveState = 1 ∨ s.saveState = 2 ∨ s.saveState = 4 ∨ s.power.tripWire = true) →
    t = ((s.setPower { s.power with ticks := s.power.ticks + 1, winSave := true }).showDuty [0, 0, 0, 0]).countGated [0, 0, 0, 0] →
    exec (.reinTick) s = .next t ∧
      ((∀ a, a < 4 → t.f (Fld.reinArray_duty a) = 0)) ∧
      s.SameHbm t ∧ t.ctl = s.ctl ∧ t.comp = s.comp) ∧
  (∀ (s : State) (g : List Nat) (p : Nat) (t : State), s.Live → s.saveState ≠ 1 → s.saveState ≠ 2 → s.saveState ≠ 4 →
    s.power.tripWire = false → g = (match s.power.ramp with | some r => s.allocate.g.map (min r) | none => s.allocate.g) →
    p = ((s.tickEnergy.map Prod.snd).foldl (· + ·) 0) →
    t = ((((((((((s.setPower { s.power with ticks := s.power.ticks + 1 }).setPower { s.power with ticks := s.power.ticks + 1, winSum := s.power.winSum + p, winTicks := s.power.winTicks + 1, raw := addEnergy s.power.raw s.tickEnergy, msTicks := s.power.msTicks + 1, msDuty := s.power.msDuty + (((List.range s.allocate.g.length).filter s.arrayInService).map (fun i => g.getD i 0)).foldl (· + ·) 0, msArrays := s.power.msArrays + ((List.range s.allocate.g.length).filter s.arrayInService).length, msFull := s.power.msFull && g.all (· == 64), roomy := s.allocate.roomy, ramp := match s.power.ramp with | some r => if 64 ≤ r then none else some (r + 1) | none => none }).put Fld.reinStatus_p_act ((p + s.power.excess) / 1000)).put Fld.reinStatus_links (s.allocate.links / 1000)).put Fld.reinStatus_mem (s.allocate.mem / 1000)).put Fld.reinStatus_comp (s.allocate.comp / 1000)).put Fld.reinPower_p_est (p / 1000)).putB Fld.reinStatus_thermal (decide (s.effCapW < s.capW))).showDuty g).countGated g) →
    exec (.reinTick) s = .next t ∧
      ((∀ a, a < 4 → t.f (Fld.reinArray_duty a) = g.getD a 0 % 128)) ∧
      ((∀ x ∈ s.allocate.g, x ≤ 64)) ∧
      s.SameHbm t ∧ t.ctl = s.ctl ∧ t.comp = s.comp) ∧
  (∀ (s : State) (w : Writer) (v : Word32) (t : State), s.Live → s.Accepts w Reg.reinCap v.toNat →
    s.f Fld.reinCap_img_min ≤ (bits v.toNat 0 9) → (bits v.toNat 0 9) ≤ s.f Fld.reinCap_img_max →
    t = s.put Fld.reinCap_cap_step (bits v.toNat 0 9) →
    exec (.reinCapWrite w v) s = .next t ∧
      t.capW = 700 + 5 * (bits v.toNat 0 9) ∧
      s.SameHbm t ∧ t.ctl = s.ctl ∧ t.power = s.power) ∧
  (∀ (s : State) (w : Writer) (v : Word32) (t : State), s.Live → s.Accepts w Reg.reinCap v.toNat →
    ((bits v.toNat 0 9) < s.f Fld.reinCap_img_min ∨ s.f Fld.reinCap_img_max < (bits v.toNat 0 9)) →
    t = s.badWrite Reg.reinCap v.toNat →
    exec (.reinCapWrite w v) s = .next t ∧
      s.SameHbm t ∧ t.ctl = s.ctl ∧ t.power = s.power) ∧
  (∀ (s : State) (rails : List (Option (Nat × Nat × Nat))) (t : State), s.Live → s.power.winSave = true →
    t = ((s.put Fld.reinPower_gap_run 0).commitEnergy 1 1).setPower { ((s.put Fld.reinPower_gap_run 0).commitEnergy 1 1).power with winSum := 0, winTicks := 0, winSave := false } →
    exec (.telemetryWindow rails) s = .next t ∧
      s.SameHbm t ∧ t.ctl = s.ctl ∧ t.comp = s.comp) ∧
  (∀ (s : State) (rails : List (Option (Nat × Nat × Nat))), s.Live → s.power.winSave = false →
    ((List.range 14).map (fun r => if s.halfRestarts (railCantle r) then none else rails.getD r none)).all Option.isSome = true →
    ∃ t : State, exec (.telemetryWindow rails) s = .next t ∧
      t.power.excess = ((((List.range 14).map (fun r => if s.halfRestarts (railCantle r) then none else rails.getD r none)).map (fun x => match x with | some y => y.1 * y.2.1 | none => 0)).foldl (· + ·) 0 / 4) - (s.power.winSum / max 1 s.power.winTicks) ∧
        t.power.badRun = 0 ∧ t.power.goodRun = s.power.goodRun + 1 ∧ t.power.winSum = 0 ∧ t.power.winTicks = 0 ∧
        t.power.raw = [] ∧
      s.SameHbm t ∧ t.ctl = s.ctl ∧ t.comp = s.comp) ∧
  (∀ (s : State) (rails : List (Option (Nat × Nat × Nat))), s.Live → s.power.winSave = false →
    ((List.range 14).map (fun r => if s.halfRestarts (railCantle r) then none else rails.getD r none)).all Option.isSome = false →
    ∃ t : State, exec (.telemetryWindow rails) s = .next t ∧
      t.power.badRun = s.power.badRun + 1 ∧ t.power.goodRun = 0 ∧ (4 ≤ s.power.badRun + 1 →
        t.power.excess = 15 * (s.power.winSum / max 1 s.power.winTicks) / 100) ∧
      (s.power.badRun + 1 < 4 → t.power.excess = s.power.excess) ∧ s.SameHbm t ∧ t.ctl = s.ctl ∧ t.comp = s.comp) ∧
  (∀ (s : State) (t : State), s.Live → s.saveState = 0 → s.power.msTicks ≠ 0 →
    (s.flag Fld.reinCfg_freq_steps = false ∨ s.power.acks ≠ []) →
    t = s.setPower { s.power with msTicks := 0, msDuty := 0, msArrays := 0, msFull := true } →
    exec (.frequencyStep) s = .next t ∧
      t.regs = s.regs ∧ s.SameHbm t ∧ t.ctl = s.ctl) ∧
  (∀ (s : State) (u : State) (t : State), s.Live → s.saveState = 0 → s.power.msTicks ≠ 0 → s.flag Fld.reinCfg_freq_steps = true →
    s.power.acks = [] → s.power.msDuty < 48 * s.power.msArrays →
    u = (s.put Fld.reinStatus_fstep (min 32 (s.f Fld.reinStatus_fstep + 4))).requestVcore (min 32 (s.f Fld.reinStatus_fstep + 4)) →
    t = u.setPower { u.power with msTicks := 0, msDuty := 0, msArrays := 0, msFull := true } →
    exec (.frequencyStep) s = .next t ∧
      t.f Fld.reinStatus_fstep = min 32 (s.f Fld.reinStatus_fstep + 4) ∧
      s.SameHbm t ∧ t.ctl = s.ctl) ∧
  (∀ (s : State) (u : State) (t : State), s.Live → s.saveState = 0 → s.power.msTicks ≠ 0 → s.flag Fld.reinCfg_freq_steps = true →
    s.power.acks = [] → 48 * s.power.msArrays ≤ s.power.msDuty → s.power.msFull = true → s.power.roomy = true →
    0 < s.f Fld.reinStatus_fstep → (s.fitStep (s.f Fld.reinStatus_fstep - 4)) < s.f Fld.reinStatus_fstep →
    u = ((s.setPower { s.power with nextF := some (s.fitStep (s.f Fld.reinStatus_fstep - 4)) }).requestVcore (s.fitStep (s.f Fld.reinStatus_fstep - 4))).vcoreSettled →
    t = u.setPower { u.power with msTicks := 0, msDuty := 0, msArrays := 0, msFull := true } →
    exec (.frequencyStep) s = .next t ∧
      s.SameHbm t ∧ t.ctl = s.ctl) ∧
  (∀ (s : State) (t : State), s.Live → s.saveState = 0 → s.power.msTicks ≠ 0 → s.flag Fld.reinCfg_freq_steps = true →
    s.power.acks = [] → 48 * s.power.msArrays ≤ s.power.msDuty →
    (s.power.msFull = false ∨ s.power.roomy = false ∨ s.f Fld.reinStatus_fstep = 0) →
    t = s.setPower { s.power with msTicks := 0, msDuty := 0, msArrays := 0, msFull := true } →
    exec (.frequencyStep) s = .next t ∧
      t.regs = s.regs ∧ s.SameHbm t ∧ t.ctl = s.ctl) ∧
  (∀ (s : State) (die : Fin 4) (t : State), s.Live → s.power.acks.contains die.val = true →
    t = (s.setPower { s.power with acks := s.power.acks.filter (· != die.val) }).vcoreSettled →
    exec (.targetRailVoltageAck die) s = .next t ∧
      ((s.power.acks = [die.val] → ∀ f, s.power.nextF = some f → t.f Fld.reinStatus_fstep = f % 64)) ∧
      s.SameHbm t ∧ t.ctl = s.ctl ∧ t.comp = s.comp)

/-- The cinch trips, escalates and clears; its test and enable follow the rules; margins trim the rails. A trip or DROOP_N
stretches at once and is counted, escalates after its cycles and clears in stages; disabled, it only counts; enable is
refused until the test passes; a margin check moves a die's trim one step within its limit. Log entry 40. Under each
clause's hypotheses on the state and the operands alone, exec answers the next state written: CINCH_TRIP, DROOP_N_ASSERT,
CINCH_ESCALATE, CINCH_CLEAR, CINCH_TEST, CINCH_DISABLE, CINCH_ENABLE, MARGIN_CHECK. -/
def Obligations.TheCinchTheSelfTestAndTheTrim : Prop :=
  (∀ (s : State) (die : Fin 4) (det : Fin 256) (t : State), s.Live → s.power.cinchOff = false →
    t = (((s.bumpSat (Fld.cinchCount_trips die) 1).put (Fld.cinchCount_last_detector die) det).setPower { s.power with tripped := (s.power.tripped ++ [die.val]).dedup }).put Fld.cinchStatus_active 1 →
    exec (.cinchTrip die det) s = .next t ∧
      t.flag Fld.cinchStatus_active = true ∧
      t.f (Fld.cinchCount_last_detector die) = det.val % 64 ∧
      s.SameHbm t ∧ t.ctl = s.ctl ∧ t.comp = s.comp) ∧
  (∀ (s : State) (die : Fin 4) (det : Fin 256) (t : State), s.Live → s.power.cinchOff = true → t = s →
    exec (.cinchTrip die det) s = .next t) ∧
  (∀ (s : State) (rails : Fin 16) (t : State), s.Live → s.power.cinchOff = true →
    t = ((List.range 4).foldl (fun t d => t.bumpSat (Fld.cinchCount_trips d) 1) s) →
    exec (.droopNAssert rails) s = .next t ∧
      t.power = s.power ∧
      s.SameHbm t ∧ t.ctl = s.ctl) ∧
  (∀ (s : State) (rails : Fin 16) (u : State) (t : State), s.Live → s.power.cinchOff = false →
    (∀ k, s.power.droopTold = some k → 475000 + k ≤ s.now) →
    u = (((List.range 4).foldl (fun t d => t.bumpSat (Fld.cinchCount_trips d) 1) s).tripDies [0, 1, 2, 3]).setPower { (((List.range 4).foldl (fun t d => t.bumpSat (Fld.cinchCount_trips d) 1) s).tripDies [0, 1, 2, 3]).power with droopLow := true } →
    t = (u.setPower { u.power with droopTold := some s.now }).event 0x0B0C none false 0 (toLE 1 rails) →
    exec (.droopNAssert rails) s = .next t ∧
      t.power.droopTold = some s.now ∧
      s.SameHbm t ∧ t.ctl = s.ctl ∧ t.comp = s.comp) ∧
  (∀ (s : State) (t : State), s.Live → s.power.tripped ≠ [] → t = s.setPower { s.power with deep := true } →
    exec (.cinchEscalate) s = .next t ∧
      t.regs = s.regs ∧ s.SameHbm t ∧ t.ctl = s.ctl) ∧
  (∀ (s : State) (t : State), s.Live → s.power.tripped = [] → t = s →
    exec (.cinchEscalate) s = .next t) ∧
  (∀ (s : State) (cycles : Nat) (t : State), s.Live → s.power.tripped ≠ [] →
    t = ((s.setPower { s.power with tripped := [], deep := false, droopLow := false }).bump Fld.cinchStretched_cycles (cycles + 8 * s.f Fld.cinchCtrl_hold_x8 + 8 + 4)).put Fld.cinchStatus_active 0 →
    exec (.cinchClear cycles) s = .next t ∧
      t.flag Fld.cinchStatus_active = false ∧
      t.power.tripped = [] ∧
      s.SameHbm t ∧ t.ctl = s.ctl) ∧
  (∀ (s : State) (w : Writer) (fails : Fin 16) (t : State), s.Live → s.Accepts w Reg.cinchTest (2 ^ 31) →
    t = s.selfTestFail fails →
    exec (.cinchTest w true fails) s = .next t ∧
      s.SameHbm t ∧ t.ctl = s.ctl) ∧
  (∀ (s : State) (w : Writer) (v : Word32) (t : State), s.Live → s.Accepts w Reg.cinchCtrl (v.toNat / 2 * 2) →
    t = ((((s.put Fld.cinchCtrl_enable 0).put Fld.cinchCtrl_hold_x8 (bits v.toNat 8 8)).put Fld.cinchStatus_guard 15).setPower { s.power with cinchStop := !s.power.cinchOff }).reviseVcore →
    exec (.cinchDisable w v) s = .next t ∧
      s.SameHbm t ∧ t.ctl = s.ctl) ∧
  (∀ (s : State) (w : Writer) (v : Word32) (t : State), s.Live → s.Accepts w Reg.cinchCtrl (v.toNat / 2 * 2 + 1) →
    t = ((((s.put Fld.cinchCtrl_enable 1).put Fld.cinchCtrl_hold_x8 (bits v.toNat 8 8)).setPower { s.power with cinchStop := false, cinchOff := false }).put Fld.cinchStatus_guard ((((s.put Fld.cinchCtrl_enable 1).put Fld.cinchCtrl_hold_x8 (bits v.toNat 8 8)).setPower { s.power with cinchStop := false, cinchOff := false }).f Fld.cinchStatus_selftest_fail)).reviseVcore →
    exec (.cinchEnable w v) s = .next t ∧
      s.SameHbm t ∧ t.ctl = s.ctl) ∧
  (∀ (s : State) (dies : List (Nat × Bool)) (t : State), s.Live → (∀ e, e ∈ dies → e.2 = false) →
    t = ((dies.take 4).zipIdx).foldl (fun t e => t.put (Fld.cinchTrim_margin_ps e.2) e.1.1) s →
    exec (.marginCheck dies) s = .next t ∧
      t.power = s.power ∧
      t.keep = s.keep ∧
      s.SameHbm t ∧ t.ctl = s.ctl) ∧
  (∀ (s : State) (m n : Nat) (u : State) (t : State), s.Live → n = s.f (Fld.cinchTrim_steps 0) → n < 20 →
    s.dayPast (Sparse.get noneD s.power.trimAt 0) = true →
    u = (((s.put (Fld.cinchTrim_margin_ps 0) m).put (Fld.cinchTrim_steps 0) (n + 1)).putB (Fld.cinchTrim_at_limit 0) (n + 1 == 20)).setPower { s.power with trimAt := Sparse.put noneD s.power.trimAt 0 (some s.now) } →
    t = ((u.setKeep { s.keep with owed := s.keep.owed ++ [⟨4, 0, n + 1, s.keep.seq, s.now⟩] }).event 0x0B04 none false 0 (toLE 1 0 ++ toLE 1 (n + 1) ++ toLE 1 0)).reviseVcore →
    exec (.marginCheck [(m, true)]) s = .next t ∧
      s.SameHbm t ∧ t.ctl = s.ctl)

/-- Temperatures are shown, the thermal cap moves each millisecond, a trip latches, and the rein's commands complete. A reading
shows the hottest sensors of the four dies; the cap starts 10 W below the draw, falls by 10 W and rises by 10 W to its end,
with its events and counts; a trip latches THERMTRIP_N, stops the arrays, starts or ends the save and tells the twin. The
tick, telemetry window, frequency step, cap write and rail acknowledgement each complete in the states named. Log entries 30
and 40. Under each clause's hypotheses on the state and the operands alone, exec answers the next state written:
TEMPERATURE_READ, THERMAL_CAP_UPDATE, THERMAL_TRIP, REIN_TICK, TELEMETRY_WINDOW, FREQUENCY_STEP, REIN_CAP_WRITE,
TARGET_RAIL_VOLTAGE_ACK. -/
def Obligations.HeatThrottlesAndTrips : Prop :=
  (∀ (s : State) (a b c d : Nat × Nat × Nat) (temps : List Nat), s.Live →
    ∃ t : State, exec (.temperatureRead [a, b, c, d] temps) s = .next t ∧
      t.f (Fld.thmTemp_die 0) = a.1 % 256 ∧ t.f (Fld.thmTemp_sensor 0) = a.2.1 % 16 ∧ t.f (Fld.thmTemp_base 0) = a.2.2 % 256 ∧
        t.f (Fld.thmTemp_die 1) = b.1 % 256 ∧ t.f (Fld.thmTemp_sensor 1) = b.2.1 % 16 ∧ t.f (Fld.thmTemp_base 1) = b.2.2 % 256 ∧
        t.f (Fld.thmTemp_die 2) = c.1 % 256 ∧ t.f (Fld.thmTemp_sensor 2) = c.2.1 % 16 ∧ t.f (Fld.thmTemp_base 2) = c.2.2 % 256 ∧
        t.f (Fld.thmTemp_die 3) = d.1 % 256 ∧ t.f (Fld.thmTemp_sensor 3) = d.2.1 % 16 ∧ t.f (Fld.thmTemp_base 3) = d.2.2 % 256 ∧
      s.SameHbm t ∧ t.ctl = s.ctl) ∧
  (∀ (s : State) (hot : Nat) (t : State), s.Live →
    (hot = ((List.range 4).foldl (fun b d => if s.f (Fld.thmTemp_die b) < s.f (Fld.thmTemp_die d) then d else b) 0)) →
    s.f Fld.thmCfg_throttle_c ≤ s.f (Fld.thmTemp_die hot) → s.flag Fld.thmStatus_throttling = true →
    t = ((s.bumpSat Fld.thmThrottleCnt_ms 1).setPower { s.power with throttleMs := s.power.throttleMs + 1 }).put Fld.thmStatus_thermal_cap (max 700 (s.f Fld.thmStatus_thermal_cap - 10)) →
    exec (.thermalCapUpdate) s = .next t ∧
      s.SameHbm t ∧ t.ctl = s.ctl) ∧
  (∀ (s : State) (hot : Nat) (t : State), s.Live →
    (hot = ((List.range 4).foldl (fun b d => if s.f (Fld.thmTemp_die b) < s.f (Fld.thmTemp_die d) then d else b) 0)) →
    s.f Fld.thmCfg_throttle_c ≤ s.f (Fld.thmTemp_die hot) → s.flag Fld.thmStatus_throttling = false →
    t = ((((s.put Fld.thmStatus_throttling 1).put Fld.thmStatus_thermal_cap (max 700 ((s.f Fld.reinStatus_p_act / 5 * 5) - 10))).bumpSat Fld.thmThrottleCnt_episodes 1).setPower { s.power with throttleMs := 0 }).event 0x0B05 none (csCantle hot) 0 (toLE 1 hot ++ toLE 1 (s.f (Fld.thmTemp_sensor hot)) ++ toLE 1 (s.f (Fld.thmTemp_die hot))) →
    exec (.thermalCapUpdate) s = .next t ∧
      t.flag Fld.thmStatus_throttling = true ∧
      s.SameHbm t ∧ t.ctl = s.ctl) ∧
  (∀ (s : State) (hot : Nat) (t : State), s.Live →
    (hot = ((List.range 4).foldl (fun b d => if s.f (Fld.thmTemp_die b) < s.f (Fld.thmTemp_die d) then d else b) 0)) →
    s.f (Fld.thmTemp_die hot) < s.f Fld.thmCfg_throttle_c → s.flag Fld.thmStatus_throttling = true →
    (List.range 4).all (fun d => decide (s.f (Fld.thmTemp_die d) < s.f Fld.thmCfg_release_c) && decide (s.f (Fld.thmTemp_base d) < s.f Fld.thmCfg_release_c)) = true →
    s.capW ≤ s.f Fld.thmStatus_thermal_cap + 10 →
    t = ((((s.bumpSat Fld.thmThrottleCnt_ms 1).setPower { s.power with throttleMs := s.power.throttleMs + 1 }).put Fld.thmStatus_throttling 0).put Fld.thmStatus_thermal_cap 0).event 0x0B06 none false 0 (toLE 4 (s.power.throttleMs + 1)) →
    exec (.thermalCapUpdate) s = .next t ∧
      t.flag Fld.thmStatus_throttling = false ∧
      s.SameHbm t ∧ t.ctl = s.ctl) ∧
  (∀ (s : State) (hot : Nat) (t : State), s.Live →
    (hot = ((List.range 4).foldl (fun b d => if s.f (Fld.thmTemp_die b) < s.f (Fld.thmTemp_die d) then d else b) 0)) →
    s.f (Fld.thmTemp_die hot) < s.f Fld.thmCfg_throttle_c → s.flag Fld.thmStatus_throttling = true →
    (List.range 4).all (fun d => decide (s.f (Fld.thmTemp_die d) < s.f Fld.thmCfg_release_c) && decide (s.f (Fld.thmTemp_base d) < s.f Fld.thmCfg_release_c)) = true →
    s.f Fld.thmStatus_thermal_cap + 10 < s.capW →
    t = ((s.bumpSat Fld.thmThrottleCnt_ms 1).setPower { s.power with throttleMs := s.power.throttleMs + 1 }).put Fld.thmStatus_thermal_cap (s.f Fld.thmStatus_thermal_cap + 10) →
    exec (.thermalCapUpdate) s = .next t ∧
      s.SameHbm t ∧ t.ctl = s.ctl) ∧
  (∀ (s : State) (hot : Nat) (t : State), s.Live →
    (hot = ((List.range 4).foldl (fun b d => if s.f (Fld.thmTemp_die b) < s.f (Fld.thmTemp_die d) then d else b) 0)) →
    s.f (Fld.thmTemp_die hot) < s.f Fld.thmCfg_throttle_c → s.flag Fld.thmStatus_throttling = false → t = s →
    exec (.thermalCapUpdate) s = .next t) ∧
  (∀ (s : State) (monitor : Fin 256) (die : Fin 8) (t : State), s.pins.inReset = true →
    t = ((s.setPower { s.power with tripWire := true }).put Fld.thmStatus_trip 1) →
    exec (.thermalTrip monitor die) s = .next t ∧
      t.power.tripWire = true ∧
      s.SameHbm t ∧ t.ctl = s.ctl) ∧
  (∀ (s : State) (monitor : Fin 256) (die : Fin 8) (u v x : State) (t : State), s.pins.inReset = false →
    u = (((s.setPower { s.power with tripWire := true }).put Fld.thmStatus_trip 1).showDuty [0, 0, 0, 0]) →
    (v = (if u.isHeld ∨ u.f Fld.bootStatus_stage ≠ 6 then u else (u.event 0x0B07 none (decide (2 ≤ die.val % 4)) 0 (toLE 1 monitor ++ toLE 1 die)).sendTwinFailed 1)) →
    x = v.setKeep { v.keep with noResume := true } →
    t = (if x.saveState = 2 then x.put Fld.thmSaveStatus_state 4 else x.saveTrigger 1) →
    exec (.thermalTrip monitor die) s = .next t ∧
      t.keep.noResume = true ∧
      t.power.tripWire = true ∧
      s.SameHbm t ∧ t.ctl = s.ctl) ∧
  (∀ (s : State), s.Live → s.saveState = 0 → s.power.tripWire = false →
    ∃ t : State, exec (.reinTick) s = .next t ∧
      t.power.ticks = s.power.ticks + 1 ∧
      t.power.winTicks = s.power.winTicks + 1 ∧
      s.SameHbm t ∧ t.ctl = s.ctl ∧ t.comp = s.comp) ∧
  (∀ (s : State) (rails : List (Option (Nat × Nat × Nat))), s.Live →
    ∃ t : State, exec (.telemetryWindow rails) s = .next t ∧
      (t.power.winSum = 0 ∧ t.power.winTicks = 0 ∧ t.power.winSave = false) ∧
      s.SameHbm t ∧ t.ctl = s.ctl ∧ t.comp = s.comp) ∧
  (∀ (s : State), s.Live → s.saveState = 0 → s.power.msTicks ≠ 0 →
    ∃ t : State, exec (.frequencyStep) s = .next t ∧
      (t.power.msTicks = 0 ∧ t.power.msDuty = 0 ∧ t.power.msArrays = 0 ∧ t.power.msFull = true) ∧
      s.SameHbm t ∧ t.ctl = s.ctl ∧ t.comp = s.comp) ∧
  (∀ (s : State) (w : Writer) (v : Word32) (t : State), s.Live → s.Accepts w Reg.reinCap v.toNat →
    (s.f Fld.reinCap_img_min ≤ bits v.toNat 0 9 ∧ bits v.toNat 0 9 ≤ s.f Fld.reinCap_img_max) →
    t = s.put Fld.reinCap_cap_step (bits v.toNat 0 9) →
    exec (.reinCapWrite w v) s = .next t ∧
      t.f Fld.reinCap_cap_step = bits v.toNat 0 9 ∧
      s.SameHbm t ∧ t.ctl = s.ctl ∧ t.power = s.power) ∧
  (∀ (s : State) (die : Fin 4), s.Live → s.power.acks.contains die.val = true →
    ∃ t : State, exec (.targetRailVoltageAck die) s = .next t ∧
      t.power.acks = s.power.acks.filter (· != die.val) ∧
      s.SameHbm t ∧ t.ctl = s.ctl ∧ t.comp = s.comp)

/-- HOLD_WARN_N starts a save, a commit completes it, a resume undoes it, and HOLD_LOSS_N or a test ends as given. In RUN or
RESUMING a warning numbers and starts a save, in HELD or LOSS-bound states the device goes to LOST; a glitch only counts; a
commit writes the record into its area and the state; resume starts, and ends in RUN with its ramp and the rings resumed
once every moved channel is trained and an area is erased; loss goes to LOST; an erase readies an area; ledger entries are
written in their order; a test saves as precautionary; a VAUX loss releases THERMTRIP_N. Log entries 14 and 40. Under each
clause's hypotheses on the state and the operands alone, exec answers the next state written: HOLD_WARN_ASSERT,
HOLD_WARN_GLITCH, SAVE_COMMIT, HOLD_LOSS_ASSERT, RESUME, THM_SAVE_TEST, LEDGER_WRITE, SAVE_AREA_ERASE, VAUX_LOSS. -/
def Obligations.SavesStartCommitAndResume : Prop :=
  (∀ (s : State) (t : State), s.pins.inReset = false → (s.saveState = 0 ∨ s.saveState = 3) → s.isHeld = false →
    t = (s.put Fld.thmSaveStatus_warn 1).saveStart 0 →
    exec (.holdWarnAssert) s = .next t ∧
      t.saveState = 1 ∧
      t.keep.seq = s.keep.seq + 1 ∧
      t.keep.cause = 0 ∧
      t.keep.tAssert = s.now ∧
      s.SameHbm t ∧ t.ctl = s.ctl) ∧
  (∀ (s : State) (t : State), s.pins.inReset = false → (s.isHeld = true ∨ s.saveState = 5) → s.saveState ≠ 4 →
    t = (s.put Fld.thmSaveStatus_warn 1).abandonPasses.goLost →
    exec (.holdWarnAssert) s = .next t ∧
      t.saveState = 4 ∧
      s.SameHbm t ∧ t.ctl = s.ctl ∧ t.keep = s.keep) ∧
  (∀ (s : State) (t : State), t = s.put Fld.thmSaveStatus_glitch 1 →
    exec (.holdWarnGlitch) s = .next t ∧
      s.SameHbm t ∧ t.ctl = s.ctl ∧ t.keep = s.keep ∧ t.power = s.power) ∧
  (∀ (s : State) (a : Nat), s.Live → s.saveState = 1 → s.keep.erased = some a →
    ∃ t : State, exec .saveCommit s = .next t ∧ t.saveState = (if s.keep.noResume ∧ s.keep.cause ≠ 1 then 4 else 2) ∧
      Sparse.get (fun _ => none) t.keep.areas a = some (⟨s.keep.seq, s.keep.cause, s.saveHeader s.saveSections, s.saveSections, true, none⟩ : SaveRec) ∧
      t.f Fld.thmSaveLast_cause = s.keep.cause % 4 ∧ s.SameHbm t ∧ t.ctl = s.ctl) ∧
  (∀ (s : State) (t : State), s.pins.inReset = false → s.saveState = 1 →
    t = ((s.event 0x0B0B none false 0 (toLE 8 s.keep.seq)).put Fld.thmSaveStatus_loss_seen 1).abandonPasses.goLost →
    exec (.holdLossAssert) s = .next t ∧
      t.saveState = 4 ∧
      s.SameHbm t ∧ t.ctl = s.ctl ∧ t.keep = s.keep) ∧
  (∀ (s : State) (t : State), s.pins.inReset = false → (s.saveState = 2 ∨ s.saveState = 3) →
    t = (s.put Fld.thmSaveStatus_loss_seen 1).abandonPasses.goLost →
    exec (.holdLossAssert) s = .next t ∧
      t.saveState = 4 ∧
      s.SameHbm t ∧ t.ctl = s.ctl ∧ t.keep = s.keep) ∧
  (∀ (s : State) (moved : List (Fin 16)), s.Live → s.keep.noResume = false → s.flag Fld.thmSaveStatus_loss_seen = false →
    s.saveState = 2 →
    ∃ t : State, exec (.resume moved) s = .next t ∧ t.saveState = 3 ∧ t.flag Fld.thmSaveStatus_warn = false ∧ t.power = s.power ∧
      t.mem = s.mem) ∧
  (∀ (s : State) (moved : List (Fin 16)), s.Live → s.keep.noResume = false → s.flag Fld.thmSaveStatus_loss_seen = false →
    s.saveState = 3 → s.keep.erased.isSome = true →
    (∀ n, n < 512 → s.f (Fld.hsmChStatus_state n) ≠ 2 ∧ s.f (Fld.hsmChStatus_state n) ≠ 3) →
    ∃ u t : State, exec (.resume moved) s = .next t ∧ t = u.ringResume ∧ u.saveState = 0 ∧ u.power.ramp = some 0 ∧
      t.power.ramp = some 0 ∧ s.SameHbm u) ∧
  (∀ (s : State) (w : Writer) (t : State), s.Live → s.Accepts w Reg.thmSaveTest (2 ^ 31) → (s.saveState = 0 ∨ s.saveState = 3) →
    s.isHeld = false → t = s.saveStart 2 →
    exec (.thmSaveTest w true) s = .next t ∧
      t.saveState = 1 ∧
      t.keep.cause = 2 ∧
      s.SameHbm t ∧ t.ctl = s.ctl) ∧
  (∀ (s : State) (a b row : Nat) (l : List (Nat × Nat × Nat)) (t : State), s.Live → s.saveState ≠ 1 → s.saveState ≠ 2 →
    s.saveState ≠ 4 → s.isHeld = false → s.comp.keepRepairs = (a, b, row) :: l →
    t = (s.setComp { s.comp with keepRepairs := l }).setKeep (s.keep.write ⟨1, a, b + 256 * row, s.keep.seq, s.now⟩) →
    exec (.ledgerWrite) s = .next t ∧
      s.SameHbm t ∧ t.ctl = s.ctl ∧ t.regs = s.regs) ∧
  (∀ (s : State) (c e : Nat) (l : List (Nat × Nat)) (t : State), s.Live → s.saveState ≠ 1 → s.saveState ≠ 2 → s.saveState ≠ 4 →
    s.isHeld = false → s.comp.keepRepairs = [] → s.comp.keepSwitches = (c, e) :: l →
    t = (s.setComp { s.comp with keepSwitches := l }).setKeep (s.keep.write ⟨2, c, e, s.keep.seq, s.now⟩) →
    exec (.ledgerWrite) s = .next t ∧
      s.SameHbm t ∧ t.ctl = s.ctl ∧ t.regs = s.regs) ∧
  (∀ (s : State) (e : LedgerEntry) (l : List LedgerEntry) (t : State), s.Live → s.saveState ≠ 1 → s.saveState ≠ 2 →
    s.saveState ≠ 4 → s.isHeld = false → s.comp.keepRepairs = [] → s.comp.keepSwitches = [] → s.keep.owed = e :: l →
    t = s.setKeep { (s.keep.write e) with owed := l } →
    exec (.ledgerWrite) s = .next t ∧
      s.SameHbm t ∧ t.ctl = s.ctl ∧ t.regs = s.regs ∧ t.comp = s.comp) ∧
  (∀ (s : State) (t : State), s.Live → s.saveState ≠ 1 → s.saveState ≠ 4 → t = (s.setKeep s.keep.eraseOld).enterRun →
    exec (.saveAreaErase) s = .next t ∧
      s.SameHbm t ∧ t.ctl = s.ctl ∧ t.power = s.power) ∧
  (∀ (s : State) (t : State), t = (if ((s.setPower { s.power with tripWire := false }).put Fld.thmStatus_trip 0).saveState = 1 then ((s.setPower { s.power with tripWire := false }).put Fld.thmStatus_trip 0).put Fld.thmSaveStatus_state 4 else (s.setPower { s.power with tripWire := false }).put Fld.thmStatus_trip 0) →
    exec (.vauxLoss) s = .next t ∧
      t.power.tripWire = false ∧
      t.flag Fld.thmStatus_trip = false ∧
      s.SameHbm t ∧ t.ctl = s.ctl ∧ t.keep = s.keep ∧ t.comp = s.comp)

/-- ARP and neighbour requests are answered, other frames dropped, and acknowledgements, responses and time-outs move the queue
pair on. Requests for the device's own address are answered, frames that are not RoCE are dropped and counted; an
acknowledgement or response completes the requests it covers, a sequence NAK goes back and any other puts the queue pair in
ERROR; a time-out past its limit retries and then puts it in ERROR; an incoming SEND outside recovery is refused. Log
entries 39 and 41. Under each clause's hypotheses on the state and the operands alone, exec answers the next state written:
ARP_REQUEST, NEIGHBOUR_SOLICITATION, NON_ROCE_FRAME, INCOMING_SEND, ACKNOWLEDGE, READ_RESPONSE, RETRANSMIT_TIMEOUT. -/
def Obligations.HostFramesAcknowledgementsAndRetries : Prop :=
  (∀ (s : State) (m : BitVec 48) (ip target : Word32) (t : State), s.Live → s.hpUp = true → s.f Fld.hostCfg_ipv6 = 0 →
    target.toNat = s.f Fld.hostCfg_ipv4 → s.f Fld.bootStatus_stage ≠ 7 → t = s.emit (.arpReply m.toNat ip.toNat) →
    exec (.arpRequest m ip target) s = .next t ∧
      s.SameHbm t ∧ t.ctl = s.ctl ∧ t.comp = s.comp ∧ t.regs = s.regs) ∧
  (∀ (s : State) (m : BitVec 48) (ip target : Word32) (t : State), s.Live → s.hpUp = true →
    (s.f Fld.hostCfg_ipv6 ≠ 0 ∨ target.toNat ≠ s.f Fld.hostCfg_ipv4 ∨ s.f Fld.bootStatus_stage = 7) →
    t = s.bumpSat Fld.hostErr_non_roce 1 →
    exec (.arpRequest m ip target) s = .next t ∧
      s.SameHbm t ∧ t.ctl = s.ctl ∧ t.comp = s.comp ∧ t.hp = s.hp) ∧
  (∀ (s : State) (m : BitVec 48) (ip target : List Byte) (t : State), s.Live → s.hpUp = true →
    (s.f Fld.hostCfg_ipv6 = 1 ∨ s.f Fld.bootStatus_stage = 7) → target = s.localGid → t = s.emit (.neighbourAdvert m.toNat ip) →
    exec (.neighbourSolicitation m ip target) s = .next t ∧
      s.SameHbm t ∧ t.ctl = s.ctl ∧ t.comp = s.comp ∧ t.regs = s.regs) ∧
  (∀ (s : State) (m : BitVec 48) (ip target : List Byte) (t : State), s.Live → s.hpUp = true → target ≠ s.localGid →
    t = s.bumpSat Fld.hostErr_non_roce 1 →
    exec (.neighbourSolicitation m ip target) s = .next t ∧
      s.SameHbm t ∧ t.ctl = s.ctl ∧ t.comp = s.comp ∧ t.hp = s.hp) ∧
  (∀ (s : State) (t : State), s.Live → s.hpUp = true → t = s.bumpSat Fld.hostErr_non_roce 1 →
    exec (.nonRoceFrame) s = .next t ∧
      s.SameHbm t ∧ t.ctl = s.ctl ∧ t.comp = s.comp ∧ t.hp = s.hp) ∧
  (∀ (s : State) (q : BitVec 24) (psn : BitVec 24) (ce : Bool) (u : State) (turn : Turn) (t : State), s.Live →
    s.f Fld.bootStatus_stage ≠ 7 → s.arrive q.toNat psn.toNat ce = (u, turn) → turn ≠ Turn.dropped →
    t = (u.emit (.nak q.toNat psn.toNat .invalidRequest)).qpError q.toNat 2 →
    exec (.incomingSend q psn ce) s = .next t ∧
      s.SameHbm t ∧ t.comp = s.comp) ∧
  (∀ (s : State) (q : BitVec 24) (psn : BitVec 24) (ce : Bool) (u : State) (t : State), s.Live → s.f Fld.bootStatus_stage ≠ 7 →
    s.arrive q.toNat psn.toNat ce = (u, Turn.dropped) → t = u →
    exec (.incomingSend q psn ce) s = .next t ∧
      s.SameHbm t ∧ t.comp = s.comp) ∧
  (∀ (s : State) (q : BitVec 24) (psn : BitVec 24) (t : State), s.Live → s.hpUp = true → q.toNat ≤ 2047 →
    s.f (Fld.hostQpCfg_state q.toNat) = 1 → t = s.acknowledge q.toNat psn.toNat →
    exec (.acknowledge q psn none) s = .next t ∧
      s.SameHbm t ∧ t.comp = s.comp) ∧
  (∀ (s : State) (q : BitVec 24) (psn : BitVec 24) (t : State), s.Live → s.hpUp = true → q.toNat ≤ 2047 →
    s.f (Fld.hostQpCfg_state q.toNat) = 1 →
    t = (s.acknowledge q.toNat ((2 ^ 24 + psn.toNat - 1) % 2 ^ 24)).goBack q.toNat psn.toNat →
    exec (.acknowledge q psn (some .sequence)) s = .next t ∧
      s.SameHbm t ∧ t.comp = s.comp) ∧
  (∀ (s : State) (q : BitVec 24) (psn : BitVec 24) (t : State), s.Live → s.hpUp = true → q.toNat ≤ 2047 →
    s.f (Fld.hostQpCfg_state q.toNat) = 1 → t = s.qpError q.toNat 2 →
    exec (.acknowledge q psn (some .invalidRequest)) s = .next t ∧
      s.SameHbm t ∧ t.comp = s.comp) ∧
  (∀ (s : State) (q : BitVec 24) (psn : BitVec 24) (t : State), s.Live → s.hpUp = true → q.toNat ≤ 2047 →
    s.f (Fld.hostQpCfg_state q.toNat) = 1 → t = s.qpError q.toNat 3 →
    exec (.acknowledge q psn (some .remoteAccess)) s = .next t ∧
      s.SameHbm t ∧ t.comp = s.comp) ∧
  (∀ (s : State) (q : BitVec 24) (psn : BitVec 24) (t : State), s.Live → s.hpUp = true → q.toNat ≤ 2047 →
    s.f (Fld.hostQpCfg_state q.toNat) = 1 → t = (s.qpError q.toNat ((Config.freeWord s.fresh).toNat % 4)).useFresh 1 →
    exec (.acknowledge q psn (some .remoteOperational)) s = .next t ∧
      s.SameHbm t ∧ t.comp = s.comp) ∧
  (∀ (s : State) (q : BitVec 24) (psn : BitVec 24) (nak : Option NakKind) (t : State), s.Live → s.hpUp = true → q.toNat ≤ 2047 →
    s.f (Fld.hostQpCfg_state q.toNat) ≠ 1 → t = s.bumpSat (Fld.hostQpStat_dropped q.toNat) 1 →
    exec (.acknowledge q psn nak) s = .next t ∧
      s.SameHbm t ∧ t.comp = s.comp ∧ t.ctl = s.ctl) ∧
  (∀ (s : State) (q : BitVec 24) (psn : BitVec 24) (data : List Byte) (r : HpReq) (rq rk ra : Nat) (u : State) (t : State), s.Live →
    s.hpUp = true → q.toNat ≤ 2047 → s.f (Fld.hostQpCfg_state q.toNat) = 1 → (s.qp q.toNat).tx.find? HpReq.isRead = some r →
    r.msg = .readReq rq rk ra data.length → r.psn = psn.toNat → s.snap.restore = none →
    u = s.setQp q.toNat { s.qp q.toNat with tx := (s.qp q.toNat).tx.filter (fun y => psnGe y.psn r.psn && y.psn != r.psn), tries := 0, since := s.now } →
    t = u.progress q.toNat →
    exec (.readResponse q psn data) s = .next t ∧
      s.SameHbm t ∧ t.comp = s.comp) ∧
  (∀ (s : State) (q : Fin 2048) (r : HpReq) (l : List HpReq) (t : State), s.Live → (s.qp q).tx = r :: l →
    s.f (Fld.hostQpCfg_state q) = 1 → 19456 * 2 ^ s.f (Fld.hostQpCfg_timeout q) ≤ 10 * (s.now - (s.qp q).since) →
    (s.qp q).tries < s.f (Fld.hostQpCfg_retry_cnt q) →
    t = ((s.qp q).tx.filter (fun x => psnGe (x.psn + x.packets - 1) r.psn)).foldl (fun t x => t.emit x.msg) ((s.setQp q { s.qp q with tries := (s.qp q).tries + 1, since := s.now }).bumpSat (Fld.hostQpStat_retransmits q) 1) →
    exec (.retransmitTimeout q) s = .next t ∧
      s.SameHbm t ∧ t.comp = s.comp) ∧
  (∀ (s : State) (q : Fin 2048) (r : HpReq) (l : List HpReq) (t : State), s.Live → (s.qp q).tx = r :: l →
    s.f (Fld.hostQpCfg_state q) = 1 → 19456 * 2 ^ s.f (Fld.hostQpCfg_timeout q) ≤ 10 * (s.now - (s.qp q).since) →
    s.f (Fld.hostQpCfg_retry_cnt q) ≤ (s.qp q).tries → t = s.qpError q 1 →
    exec (.retransmitTimeout q) s = .next t ∧
      s.SameHbm t ∧ t.comp = s.comp)

/-- Queue pairs move to READY and RESET, memory entries open and close with a new tag, and the port and its rate follow. A queue
pair goes from RESET to READY with its fields and from any state to RESET; a memory entry write keeps its place and draws a
tag on opening; losing lanes takes the host port down and a lock brings it back; a CNP cuts the rate and time raises it. Log
entries 39 and 41. Under each clause's hypotheses on the state and the operands alone, exec answers the next state written:
CNP_RECEIVE, RATE_INCREASE, QP_TO_READY, QP_TO_RESET, MR_WRITE, HP_LANE_LOSS, HP_BRINGUP_RETRY. -/
def Obligations.QueuePairsMemoryEntriesAndThePort : Prop :=
  (∀ (s : State) (q : BitVec 24) (num den : Nat) (t : State), s.Live → s.hpUp = true → q.toNat ≤ 2047 →
    s.f (Fld.hostQpCfg_state q.toNat) = 1 →
    num = ((s.qp q.toNat).rateNum * (2 ^ ((s.qp q.toNat).alphaExp + 1) - (s.qp q.toNat).alphaNum)) →
    den = ((s.qp q.toNat).rateDen * 2 ^ ((s.qp q.toNat).alphaExp + 1)) →
    t = (((s.setQp q.toNat { s.qp q.toNat with rateNum := if num < s.f Fld.hostCcCfg_min_rate * den then s.f Fld.hostCcCfg_min_rate else num, rateDen := if num < s.f Fld.hostCcCfg_min_rate * den then 1 else den, alphaNum := (s.qp q.toNat).alphaNum * 2 ^ s.f Fld.hostCcCfg_g_log2 + (2 ^ (s.qp q.toNat).alphaExp - (s.qp q.toNat).alphaNum), alphaExp := (s.qp q.toNat).alphaExp + s.f Fld.hostCcCfg_g_log2, rateAt := s.now }).bumpSat (Fld.hostQpStat_cnps q.toNat) 1).showRate q.toNat) →
    exec (.cnpReceive q) s = .next t ∧
      s.SameHbm t ∧ t.comp = s.comp ∧ t.ctl = s.ctl) ∧
  (∀ (s : State) (q : Fin 2048) (num : Nat) (t : State), s.Live → s.f (Fld.hostQpCfg_state q) = 1 →
    26125 ≤ s.now - (s.qp q).rateAt → num = (s.qp q).rateNum + s.f Fld.hostCcCfg_rai * (s.qp q).rateDen →
    t = ((s.setQp q { s.qp q with rateNum := if lineRate * (s.qp q).rateDen < num then lineRate else num, rateDen := if lineRate * (s.qp q).rateDen < num then 1 else (s.qp q).rateDen, alphaNum := (s.qp q).alphaNum * (2 ^ s.f Fld.hostCcCfg_g_log2 - 1), alphaExp := (s.qp q).alphaExp + s.f Fld.hostCcCfg_g_log2, rateAt := s.now }).showRate q) →
    exec (.rateIncrease q) s = .next t ∧
      s.SameHbm t ∧ t.comp = s.comp ∧ t.ctl = s.ctl) ∧
  (∀ (s : State) (w : Writer) (q : Fin 2048) (v : Word64) (t : State), s.Live →
    s.Accepts w (Reg.hostQpCfg q) (setBits v.toNat 0 2 1) → q.val ≠ 0 → s.f (Fld.hostQpCfg_state q) = 0 →
    t = ((s.writeFields (Reg.hostQpCfg q) (setBits v.toNat 0 2 1)).put (Fld.hostQpStat_error q) 0).qpStart q →
    exec (.qpToReady w q v) s = .next t ∧
      s.SameHbm t ∧ t.comp = s.comp) ∧
  (∀ (s : State) (w : Writer) (q : Fin 2048) (v : Word64) (t : State), s.Live →
    s.Accepts w (Reg.hostQpCfg q) (setBits v.toNat 0 2 1) → (q.val = 0 ∨ s.f (Fld.hostQpCfg_state q) ≠ 0) →
    t = s.badWrite (Reg.hostQpCfg q) (setBits v.toNat 0 2 1) →
    exec (.qpToReady w q v) s = .next t ∧
      s.SameHbm t ∧ t.comp = s.comp ∧ t.hp = s.hp) ∧
  (∀ (s : State) (w : Writer) (q : Fin 2048) (v : Word64) (t : State), s.Live →
    s.Accepts w (Reg.hostQpCfg q) (setBits v.toNat 0 2 0) → q.val ≠ 0 → s.snap.restore = none →
    t = ((s.writeFields (Reg.hostQpCfg q) (setBits v.toNat 0 2 0)).setQp q { s.qp q with tx := ((s.qp q).tx.filter HpReq.isRecord), tries := 0 }).endShips q Res.hwFault true →
    exec (.qpToReset w q v) s = .next t ∧
      s.SameHbm t ∧ t.comp = s.comp) ∧
  (∀ (s : State) (w : Writer) (k : Fin 256) (v : Word64) (t : State), s.Live → s.Accepts w (Reg.hostMr0 k) v.toNat → 2 ≤ k.val →
    t = ((s.writeFields (Reg.hostMr0 k) v.toNat).put (Fld.hostMr2_tag k) (Config.randomWord s.fresh).toNat).useFresh 1 →
    exec (.mrWrite w k 0 v) s = .next t ∧
      t.f (Fld.hostMr2_tag k) = (Config.randomWord s.fresh).toNat % 16777216 ∧
      s.SameHbm t ∧ t.comp = s.comp ∧ t.ctl = s.ctl) ∧
  (∀ (s : State) (w : Writer) (k : Fin 256) (v : Word64) (t : State), s.Live → s.Accepts w (Reg.hostMr1 k) v.toNat → 2 ≤ k.val →
    t = ((s.writeFields (Reg.hostMr1 k) v.toNat).put (Fld.hostMr2_tag k) (Config.randomWord s.fresh).toNat).useFresh 1 →
    exec (.mrWrite w k 1 v) s = .next t ∧
      t.f (Fld.hostMr2_tag k) = (Config.randomWord s.fresh).toNat % 16777216 ∧
      s.SameHbm t ∧ t.comp = s.comp ∧ t.ctl = s.ctl) ∧
  (∀ (s : State) (w : Writer) (k : Fin 256) (half : Fin 2) (v : Word64) (off : Nat) (t : State), s.Live →
    (off = if half.val = 0 then Reg.hostMr0 k else Reg.hostMr1 k) → s.Accepts w off v.toNat → k.val < 2 →
    t = s.badWrite off v.toNat →
    exec (.mrWrite w k half v) s = .next t ∧
      s.SameHbm t ∧ t.comp = s.comp ∧ t.ctl = s.ctl) ∧
  (∀ (s : State) (t : State), s.Live → t = s.setHp { s.hp with up := false } →
    exec (.hpLaneLoss) s = .next t ∧
      t.hpUp = false ∧
      s.SameHbm t ∧ t.comp = s.comp ∧ t.ctl = s.ctl ∧ t.regs = s.regs) ∧
  (∀ (s : State) (u v : State) (t : State), s.Live → s.hp.up = false → s.halfRestarts false = false →
    2 ≤ s.f Fld.bootStatus_stage → s.f Fld.bootStatus_stage ≠ 8 →
    u = (s.setHp { s.hp with up := true }).setPins { s.pins with sdrefP := true } →
    (v = if u.f (Fld.hostQpCfg_state 0) = 0 ∧ s.f Fld.bootStatus_stage ≠ 7 then (u.put (Fld.hostQpCfg_state 0) 1).qpStart 0 else u) →
    t = (if v.isHeld then v else v.flushQueues.settle) →
    exec (.hpBringupRetry true) s = .next t ∧
      s.SameHbm t ∧ t.comp = s.comp) ∧
  (∀ (s : State) (t : State), s.Live → (s.hp.up = true ∨ s.halfRestarts false = true) → t = s →
    exec (.hpBringupRetry true) s = .next t) ∧
  (∀ (s : State) (t : State), s.Live → t = s →
    exec (.hpBringupRetry false) s = .next t)

/-- An RDMA READ or WRITE with a good key reaches its bytes, and any other is refused with no effect. A WRITE in order under an
entry that permits it stores exactly its bytes and is acknowledged; a READ answers the bytes, up to the first poisoned
sector, where it is refused and told; a bad ICRC is counted; a bad key, range, right or owner is refused with a NAK; a
duplicate is answered again and an early PSN with a sequence NAK. Log entries 39 and 41. Under each clause's hypotheses on
the state and the operands alone, exec answers the next state written: INCOMING_RDMA_WRITE, INCOMING_RDMA_READ. -/
def Obligations.RdmaReachesMemoryThroughEntries : Prop :=
  (∀ (s : State) (q : BitVec 24) (psn : BitVec 24) (key : Word32) (addr : Word64) (data : List Byte) (ce : Bool) (t : State), s.Live →
    s.hpUp = true → t = s.bumpSat Fld.hostErr_bad_icrc 1 →
    exec (.incomingRdmaWrite q psn key addr data false ce) s = .next t ∧
      s.SameHbm t ∧ t.ctl = s.ctl ∧ t.hp = s.hp) ∧
  (∀ (s : State) (q : BitVec 24) (psn : BitVec 24) (key : Word32) (addr : Word64) (data : List Byte) (ce : Bool) (u : State) (t : State), s.Live →
    s.hpUp = true → s.arrive q.toNat psn.toNat ce = (u, Turn.ahead) →
    t = u.emit (.nak q.toNat (u.f (Fld.hostQpPsn_recv_psn q.toNat)) .sequence) →
    exec (.incomingRdmaWrite q psn key addr data true ce) s = .next t) ∧
  (∀ (s : State) (q : BitVec 24) (psn : BitVec 24) (key : Word32) (addr : Word64) (data : List Byte) (ce : Bool) (u : State) (t : State), s.Live →
    s.hpUp = true → s.arrive q.toNat psn.toNat ce = (u, Turn.again) →
    t = u.emit (.ack q.toNat (u.lastPsn psn.toNat data.length)) →
    exec (.incomingRdmaWrite q psn key addr data true ce) s = .next t) ∧
  (∀ (s : State) (q : BitVec 24) (psn : BitVec 24) (key : Word32) (addr : Word64) (data : List Byte) (ce : Bool) (u : State) (t : State), s.Live →
    s.hpUp = true → s.arrive q.toNat psn.toNat ce = (u, Turn.dropped) → t = u →
    exec (.incomingRdmaWrite q psn key addr data true ce) s = .next t) ∧
  (∀ (s : State) (q : BitVec 24) (psn : BitVec 24) (key : Word32) (addr : Word64) (data : List Byte) (ce : Bool) (u v : State) (t : State), s.Live →
    s.hpUp = true → s.arrive q.toNat psn.toNat ce = (u, Turn.next) → data ≠ [] →
    u.hostWrite q.toNat key.toNat addr.toNat data = .ok v →
    t = (v.takePsn q.toNat (u.packetsOf data.length)).emit (.ack q.toNat (u.lastPsn psn.toNat data.length)) →
    exec (.incomingRdmaWrite q psn key addr data true ce) s = .next t) ∧
  (∀ (s : State) (q : BitVec 24) (psn : BitVec 24) (key : Word32) (addr : Word64) (data : List Byte) (ce : Bool) (u : State) (t : State), s.Live →
    s.hpUp = true → s.arrive q.toNat psn.toNat ce = (u, Turn.next) → data ≠ [] →
    u.hostWrite q.toNat key.toNat addr.toNat data = .error true →
    t = (u.windowHit q.toNat key.toNat addr.toNat data.length).accessNak q.toNat psn.toNat →
    exec (.incomingRdmaWrite q psn key addr data true ce) s = .next t) ∧
  (∀ (s : State) (q : BitVec 24) (psn : BitVec 24) (key : Word32) (addr : Word64) (data : List Byte) (ce : Bool) (u : State) (t : State), s.Live →
    s.hpUp = true → s.arrive q.toNat psn.toNat ce = (u, Turn.next) → data ≠ [] →
    u.hostWrite q.toNat key.toNat addr.toNat data = .error false → t = u →
    exec (.incomingRdmaWrite q psn key addr data true ce) s = .next t) ∧
  (∀ (s : State) (q key addr k : Nat) (data : List Byte), s.stage ≠ 7 → s.entryOf key = some k →
    s.entryAllows q k addr data.length true = true → 2 ≤ k → s.saveState = 0 → s.entryOwns k addr data.length = true →
    s.inWindow (s.f (Fld.hostMr0_partition k)) addr data.length = false →
    s.hostWrite q key addr data = .ok (State.guardRungs s ((s.store addr data).countRemote addr data.length))) ∧
  (∀ (s : State) (q key addr : Nat) (data : List Byte), s.stage ≠ 7 →
    (s.entryOf key = none ∨ ∃ k, s.entryOf key = some k ∧ s.entryAllows q k addr data.length true = false) →
    s.hostWrite q key addr data = .error true) ∧
  (∀ (s : State) (q key addr k : Nat) (data : List Byte), s.stage ≠ 7 → s.entryOf key = some k →
    s.entryAllows q k addr data.length true = true → 2 ≤ k → s.saveState = 0 →
    (s.entryOwns k addr data.length = false ∨ s.inWindow (s.f (Fld.hostMr0_partition k)) addr data.length = true) →
    s.hostWrite q key addr data = .error true) ∧
  (∀ (s : State) (q : BitVec 24) (psn : BitVec 24) (key : Word32) (addr : Word64) (n : Word32) (ce : Bool) (t : State), s.Live →
    s.hpUp = true → t = s.bumpSat Fld.hostErr_bad_icrc 1 →
    exec (.incomingRdmaRead q psn key addr n false ce) s = .next t ∧
      s.SameHbm t ∧ t.ctl = s.ctl ∧ t.hp = s.hp) ∧
  (∀ (s : State) (q : BitVec 24) (psn : BitVec 24) (key : Word32) (addr : Word64) (n : Word32) (ce : Bool) (u : State) (t : State), s.Live →
    s.hpUp = true → s.arrive q.toNat psn.toNat ce = (u, Turn.ahead) →
    t = u.emit (.nak q.toNat (u.f (Fld.hostQpPsn_recv_psn q.toNat)) .sequence) →
    exec (.incomingRdmaRead q psn key addr n true ce) s = .next t) ∧
  (∀ (s : State) (q : BitVec 24) (psn : BitVec 24) (key : Word32) (addr : Word64) (n : Word32) (ce : Bool) (u v : State) (t : State), s.Live →
    s.hpUp = true → s.arrive q.toNat psn.toNat ce = (u, Turn.again) → n.toNat ≠ 0 →
    u.hostRead q.toNat psn.toNat key.toNat addr.toNat n.toNat true = some v → t = v →
    exec (.incomingRdmaRead q psn key addr n true ce) s = .next t ∧
      s.SameHbm t) ∧
  (∀ (s : State) (q : BitVec 24) (psn : BitVec 24) (key : Word32) (addr : Word64) (n : Word32) (ce : Bool) (u v : State) (t : State), s.Live →
    s.hpUp = true → s.arrive q.toNat psn.toNat ce = (u, Turn.next) → n.toNat ≠ 0 →
    (∀ k, u.entryOf key.toNat = some k → 1 ≤ k → u.saveState = 0) →
    u.hostRead q.toNat psn.toNat key.toNat addr.toNat n.toNat false = some v → t = v.takePsn q.toNat (u.packetsOf n.toNat) →
    exec (.incomingRdmaRead q psn key addr n true ce) s = .next t ∧
      s.SameHbm t) ∧
  (∀ (s : State) (q : BitVec 24) (psn : BitVec 24) (key : Word32) (addr : Word64) (n : Word32) (ce : Bool) (u : State) (t : State), s.Live →
    s.hpUp = true → s.arrive q.toNat psn.toNat ce = (u, Turn.next) → n.toNat ≠ 0 →
    (∀ k, u.entryOf key.toNat = some k → 1 ≤ k → u.saveState = 0) →
    u.hostRead q.toNat psn.toNat key.toNat addr.toNat n.toNat false = none → t = u.accessNak q.toNat psn.toNat →
    exec (.incomingRdmaRead q psn key addr n true ce) s = .next t ∧
      s.SameHbm t) ∧
  (∀ (s : State) (q psn key addr n k : Nat) (again : Bool), s.entryOf key = some k → s.entryAllows q k addr n false = true →
    1 ≤ k → s.saveState = 0 → s.entryOwns k addr n = true →
    (∀ i, i < ceilDiv (addr + n) 32 - addr / 32 → s.poisonedAt ((addr / 32 + i) * 32) = false) →
      s.hostRead q psn key addr n again = some ((s.emit (.readResp q psn (s.bytes addr n))).countRemote addr n)) ∧
  (∀ (s : State) (q psn key addr n k i j : Nat) (again : Bool), s.entryOf key = some k → s.entryAllows q k addr n false = true →
    1 ≤ k → s.saveState = 0 → s.entryOwns k addr n = true →
    (List.range (ceilDiv (addr + n) 32 - addr / 32)).find? (fun i => s.poisonedAt ((addr / 32 + i) * 32)) = some i →
      j = (max addr ((addr / 32 + i) * 32) - addr) / s.mtu →
      s.hostRead q psn key addr n again = some (((if j = 0 then s else (s.emit (.readResp q psn (s.bytes addr (j * s.mtu)))).countRemote addr (j * s.mtu)).emit (.nak q ((psn + j) % 2 ^ 24) .remoteOperational)).generic Blk.host none ((addr / 32 + i) * 32) 0 0))

/-- Reset keeps only what the rules keep; release samples the straps and starts the lead; clocks, JTAG and the lease follow
their rules. RESET_ASSERT and REFCLK_STOP leave registers, memory and units at reset and keep fuses, NOR, flash log, keep
area, ledger and the trip latch; a release outside its conditions does nothing and otherwise samples the straps, extends the
ROM's measurement and starts the lead that claims; losing a SerDes reference takes its lanes; JTAG test instructions act
only with RESET_N low; an unclaimed lease goes to CPC. What outlives reset and what a release writes between the rules are
the model's (log entries 14, 35 and 45). Under each clause's hypotheses on the state and the operands alone, exec answers
the next state written: RESET_ASSERT, REFCLK_STOP, RESET_RELEASE, SDREF_LOSS, JTAG_INSTRUCTION, LEASE_GRANT_TIMEOUT. -/
def Obligations.ResetReleasePinsAndTheLease : Prop :=
  (∀ (s : State) (t : State), t = s.resetDevice →
    exec (.resetAssert false) s = .next t ∧
      (t.mem = [] ∧ t.poison = [] ∧ t.comp = State.reset.comp ∧ t.ctl = State.reset.ctl ∧ t.strm = State.reset.strm ∧
        t.red = State.reset.red ∧ t.health = State.reset.health ∧ t.recorder = State.reset.recorder ∧ t.sec = State.reset.sec ∧
        t.hsm = State.reset.hsm) ∧
      (t.now = 0 ∧ t.readData = 0) ∧
      ((∀ off, off ≠ Reg.thmStatus → t.rd off = State.reset.rd off)) ∧
      (t.fuses = s.fuses ∧ t.boot.nor = s.cutNor.boot.nor ∧ t.snap.flash.log = s.snap.flash.log ∧ t.keep.areas = s.keep.areas ∧
        t.keep.ledger = s.keep.ledger ∧ t.power.tripWire = s.power.tripWire ∧ t.pins.inReset = true)) ∧
  (∀ (s : State) (t : State), t = s.resetDevice.setPins { s.resetDevice.pins with resetLow := true, refclk := true } →
    exec (.resetAssert true) s = .next t ∧
      (t.mem = [] ∧ t.poison = [] ∧ t.comp = State.reset.comp ∧ t.ctl = State.reset.ctl ∧ t.strm = State.reset.strm ∧
        t.red = State.reset.red ∧ t.health = State.reset.health ∧ t.recorder = State.reset.recorder ∧ t.sec = State.reset.sec ∧
        t.hsm = State.reset.hsm) ∧
      (t.now = 0 ∧ t.readData = 0) ∧
      ((∀ off, off ≠ Reg.thmStatus → t.rd off = State.reset.rd off)) ∧
      (t.fuses = s.fuses ∧ t.boot.nor = s.cutNor.boot.nor ∧ t.snap.flash.log = s.snap.flash.log ∧ t.keep.areas = s.keep.areas ∧
        t.keep.ledger = s.keep.ledger ∧ t.power.tripWire = s.power.tripWire ∧ t.pins.inReset = true) ∧
      t.pins.resetLow = true) ∧
  (∀ (s : State) (t : State), s.pins.inReset = false → t = s.resetDevice.setPins { s.resetDevice.pins with refclk := false } →
    exec (.refclkStop) s = .next t ∧
      (t.mem = [] ∧ t.poison = [] ∧ t.comp = State.reset.comp ∧ t.ctl = State.reset.ctl ∧ t.strm = State.reset.strm ∧
        t.red = State.reset.red ∧ t.health = State.reset.health ∧ t.recorder = State.reset.recorder ∧ t.sec = State.reset.sec ∧
        t.hsm = State.reset.hsm) ∧
      (t.now = 0 ∧ t.readData = 0) ∧
      ((∀ off, off ≠ Reg.thmStatus → t.rd off = State.reset.rd off)) ∧
      (t.fuses = s.fuses ∧ t.boot.nor = s.cutNor.boot.nor ∧ t.snap.flash.log = s.snap.flash.log ∧ t.keep.areas = s.keep.areas ∧
        t.keep.ledger = s.keep.ledger ∧ t.power.tripWire = s.power.tripWire ∧ t.pins.inReset = true) ∧
      t.pins.refclk = false) ∧
  (∀ (s : State) (straps : Fin 32) (claims : Bool) (u : State) (t : State), s.pins.inReset = true → s.power.tripWire = false →
    s.pins.refclk = true →
    u = (((((((s.setNow 0).setPins { s.pins with inReset := false, resetLow := false, jtag := jtagEffect false s.pins.jtag }).wr Reg.bootStraps (straps.val % 32)).put Fld.lnkNodeId_position (straps.val % 8))).showFuses).extend 0 s.fuses.romDigest) →
    testBit straps.val 4 = true → t = (u.random.1.wr Reg.secCmdNonce u.random.2) →
    exec (.resetRelease straps true claims) s = .next t ∧
      t.pins.inReset = false ∧
      s.SameHbm t ∧ t.ctl = s.ctl ∧ t.comp = s.comp) ∧
  (∀ (s : State) (straps : Fin 32) (u : State) (t : State), s.pins.inReset = true → s.power.tripWire = false →
    s.pins.refclk = true →
    u = (((((((s.setNow 0).setPins { s.pins with inReset := false, resetLow := false, jtag := jtagEffect false s.pins.jtag }).wr Reg.bootStraps (straps.val % 32)).put Fld.lnkNodeId_position (straps.val % 8))).showFuses).extend 0 s.fuses.romDigest) →
    testBit straps.val 4 = false → t = (u.random.1.wr Reg.secCmdNonce u.random.2).setStage 1 →
    exec (.resetRelease straps true false) s = .next t ∧
      t.stage = 1 ∧
      t.pins.inReset = false ∧
      s.SameHbm t ∧ t.ctl = s.ctl ∧ t.comp = s.comp) ∧
  (∀ (s : State) (straps : Fin 32) (u : State) (t : State), s.pins.inReset = true → s.power.tripWire = false →
    s.pins.refclk = true →
    u = (((((((s.setNow 0).setPins { s.pins with inReset := false, resetLow := false, jtag := jtagEffect false s.pins.jtag }).wr Reg.bootStraps (straps.val % 32)).put Fld.lnkNodeId_position (straps.val % 8))).showFuses).extend 0 s.fuses.romDigest) →
    testBit straps.val 4 = false → t = ((u.random.1.wr Reg.secCmdNonce u.random.2).setStage 1).leadStarts 0 →
    exec (.resetRelease straps true true) s = .next t ∧
      t.pins.inReset = false ∧
      t.boot.leadClaimed = true ∧
      s.SameHbm t ∧ t.ctl = s.ctl ∧ t.comp = s.comp) ∧
  (∀ (s : State) (straps : Fin 32) (ready claims : Bool) (t : State), (s.pins.inReset = false ∨ ready = false ∨ s.power.tripWire = true ∨ s.pins.refclk = false) →
    t = s →
    exec (.resetRelease straps ready claims) s = .next t) ∧
  (∀ (s : State) (cantle : Bool) (u : State) (t : State), (u = if cantle then s.setPins { s.pins with sdrefP := s.pins.sdrefP && cantle, sdrefC := s.pins.sdrefC && !cantle } else hpLaneLoss (s.setPins { s.pins with sdrefP := s.pins.sdrefP && cantle, sdrefC := s.pins.sdrefC && !cantle })) →
    t = ((List.range 12).foldl (fun t n => if ((List.range 16).filter (fun l => testBit (if cantle then t.fullMask n - (t.fullMask n &&& pommelLanes n) else pommelLanes n) l)).isEmpty then t else lockTimeout n (((List.range 16).filter (fun l => testBit (if cantle then t.fullMask n - (t.fullMask n &&& pommelLanes n) else pommelLanes n) l)).foldl (fun t l => laneBad n l t) t)) u) →
    exec (.sdrefLoss cantle) s = .next t ∧
      t.comp = s.comp) ∧
  (∀ (s : State) (i : Fin 6) (t : State), t = s.setPins { s.pins with jtag := jtagEffect s.pins.resetLow i } →
    exec (.jtagInstruction i) s = .next t ∧
      ((3 ≤ i.val → s.pins.resetLow = false → t.pins.jtag = 0)) ∧
      ((i.val < 3 ∨ s.pins.resetLow = true → t.pins.jtag = i)) ∧
      s.SameHbm t ∧ t.ctl = s.ctl ∧ t.comp = s.comp ∧ t.regs = s.regs) ∧
  (∀ (s : State) (t : State), s.Live → s.stage = 1 → s.boot.leadClaimed = false → 4750000 ≤ s.now →
    t = (s.setBoot { s.boot with cppRefused := true }).leadStarts 1 →
    exec (.leaseGrantTimeout) s = .next t ∧
      s.SameHbm t ∧ t.ctl = s.ctl ∧ t.comp = s.comp)

/-- Start-up reads the image, trains and tests, restores the keep area and reaches READY, or fails to the stage the rules name.
A NOR read with no acceptable image enters recovery; an accepted one is measured, applied and begins training; a failed
section ends in FAILED; training and self-tests put parts in service, start partitions and apply the further sections; the
keep-area restore applies the ledger and the newest record; READY opens entries 0 and 1, raises the fused version where
asked and announces itself. Log entries 34, 35 and 36. Under each clause's hypotheses on the state and the operands alone,
exec answers the next state written: NOR_READ_DONE, HBM_TRAINING_DONE, KEEP_AREA_RESTORE, STARTUP_READY. -/
def Obligations.StartUpRunsStageByStage : Prop :=
  (∀ (s : State) (t : State), s.Live → s.startingAt 1 = true → s.xspiCsHigh = false →
    (chooseDir s.fuses s.norRead = none ∨ ∃ c d, chooseDir s.fuses s.norRead = some (c, d) ∧ (d.checkSections s.fuses s.norRead).isSome = true) →
    t = s.enterRecovery →
    exec (.norReadDone) s = .next t ∧
      t.stage = 7 ∧
      s.SameHbm t ∧ t.ctl = s.ctl ∧ t.comp = s.comp) ∧
  (∀ (s : State) (c : Nat) (d : Dir) (u v : State) (t : State), s.Live → s.startingAt 1 = true → s.xspiCsHigh = false →
    chooseDir s.fuses s.norRead = some (c, d) → d.checkSections s.fuses s.norRead = none →
    u = (s.runImage c d).extend 1 (d.digest 1) → u.bootSection d 2 2 = some v → t = v.setStage 3 →
    exec (.norReadDone) s = .next t ∧
      t.stage = 3 ∧
      s.SameHbm t ∧ t.ctl = s.ctl ∧ t.comp = s.comp) ∧
  (∀ (s : State) (c : Nat) (d : Dir) (u : State) (t : State), s.Live → s.startingAt 1 = true → s.xspiCsHigh = false →
    chooseDir s.fuses s.norRead = some (c, d) → d.checkSections s.fuses s.norRead = none →
    u = (s.runImage c d).extend 1 (d.digest 1) → u.bootSection d 2 2 = none →
    t = (u.extend 2 (d.digest 2)).bootFail BRes.badFormat →
    exec (.norReadDone) s = .next t ∧
      s.SameHbm t ∧ t.ctl = s.ctl ∧ t.comp = s.comp) ∧
  (∀ (s : State) (channels : List (Fin 512)) (arrays : List (Fin 4)) (dies : Fin 16) (u : State) (t : State), s.Live →
    s.startingAt 3 = true →
    u = (((((channels.map Fin.val).foldl (fun t n => t.mapoutNow (n / 32) (n % 32) true) ((s.trained (channels.map Fin.val)).arraysTested (arrays.map Fin.val))).selfTestFail dies).capacityUpdate).inventoryUpdate.startParts) →
    t = u.bootFail 0 →
    exec (.hbmTrainingDone channels arrays dies true) s = .next t) ∧
  (∀ (s : State) (channels : List (Fin 512)) (arrays : List (Fin 4)) (dies : Fin 16) (u v : State) (t : State), s.Live →
    s.startingAt 3 = true →
    u = (((((channels.map Fin.val).foldl (fun t n => t.mapoutNow (n / 32) (n % 32) true) ((s.trained (channels.map Fin.val)).arraysTested (arrays.map Fin.val))).selfTestFail dies).capacityUpdate).inventoryUpdate.startParts) →
    u.bootSections s.boot.runDir = some v → t = (List.range 12).foldl (fun t n => t.startTraining n) (v.modesUpdate.setStage 4) →
    exec (.hbmTrainingDone channels arrays dies false) s = .next t) ∧
  (∀ (s : State) (channels : List (Fin 512)) (arrays : List (Fin 4)) (dies : Fin 16) (u : State) (t : State), s.Live →
    s.startingAt 3 = true →
    u = (((((channels.map Fin.val).foldl (fun t n => t.mapoutNow (n / 32) (n % 32) true) ((s.trained (channels.map Fin.val)).arraysTested (arrays.map Fin.val))).selfTestFail dies).capacityUpdate).inventoryUpdate.startParts) →
    u.bootSections s.boot.runDir = none → t = u.bootFail BRes.badFormat →
    exec (.hbmTrainingDone channels arrays dies false) s = .next t) ∧
  (∀ (s : State) (channels : Fin 256) (blockBytes flashBytes : Nat) (t : State), s.Live → s.startingAt 4 = true →
    (channels.val ≠ 255 ∨ 8 * s.f Fld.snapFlashCfg_keep_blocks * blockBytes < 20 * 2 ^ 20) →
    t = ((s.setStage 5).put Fld.snapFlashCfg_keep_ok 0).generic Blk.snap none Reg.snapFlashCfg (s.f Fld.snapFlashCfg_keep_blocks) 0 →
    exec (.keepAreaRestore channels blockBytes flashBytes) s = .next t ∧
      s.SameHbm t ∧ t.keep = s.keep) ∧
  (∀ (s : State) (channels : Fin 256) (blockBytes flashBytes : Nat) (u : State) (t : State), s.Live → s.startingAt 4 = true →
    channels.val = 255 → 20 * 2 ^ 20 ≤ 8 * s.f Fld.snapFlashCfg_keep_blocks * blockBytes →
    u = (((((liveLedger s.keep.ledger).foldl (fun t e => t.applyLedger e) (((((s.setStage 5).put Fld.snapFlashCfg_keep_ok 1).wr Reg.snapFlashCap flashBytes).put Fld.snapFlashStatus_state 1).flashShow.resumeCounts)).reviseVcore).inventoryUpdate.startParts)) →
    s.keep.newest = none → t = (u.setKeep u.keep.eraseOld).enterRun →
    exec (.keepAreaRestore channels blockBytes flashBytes) s = .next t) ∧
  (∀ (s : State) (channels : Fin 256) (blockBytes flashBytes : Nat) (u v : State) (a : Nat) (r : SaveRec) (t : State), s.Live →
    s.startingAt 4 = true → channels.val = 255 → 20 * 2 ^ 20 ≤ 8 * s.f Fld.snapFlashCfg_keep_blocks * blockBytes →
    u = (((((liveLedger s.keep.ledger).foldl (fun t e => t.applyLedger e) (((((s.setStage 5).put Fld.snapFlashCfg_keep_ok 1).wr Reg.snapFlashCap flashBytes).put Fld.snapFlashStatus_state 1).flashShow.resumeCounts)).reviseVcore).inventoryUpdate.startParts)) →
    s.keep.newest = some (a, r) → v = ((u.restartMigrations (r.section_ 4)).restoreLog r).reportLoss r →
    t = (v.setKeep v.keep.eraseOld).enterRun →
    exec (.keepAreaRestore channels blockBytes flashBytes) s = .next t) ∧
  (∀ (s : State) (u v : State) (t : State), s.Live → s.stage = 5 → s.saveState = 0 → s.isHeld = false →
    u = ((((s.setStage 6).put Fld.bootStatus_ready_ms (s.now / 475000)).openEntries.newTag 0).newTag 1) →
    (v = (if Dir.commitSvn s.boot.runDir then u.raiseSvn (Dir.svn s.boot.runDir) else u).modesUpdate) →
    t = (if v.qpReady 0 then v.request 0 (.send 0 (some v.node) (toLE 8 v.fuses.serial ++ toLE 8 (Dir.generation v.boot.runDir) ++ toLE 8 (Dir.fwVersion v.boot.runDir) ++ toLE 4 (s.now / 475000) ++ toLE 36 0)) 64 0 else v) →
    exec (.startupReady) s = .next t ∧
      s.SameHbm t ∧ t.ctl = s.ctl)

/-- A delta is checked, written to the other slot and directory copy, applied when its target is idle, and ends with its result.
BOOT_DELTA_GO refuses with BUSY or the check's result, or takes the delta; programming writes section and directory in that
order, a failure leaving free bytes and NOR_ERROR; a partition delta pauses admission and is applied with nothing of its
target in flight; a transit delta needs no pause. Log entries 5 and 34. Under each clause's hypotheses on the state and the
operands alone, exec answers the next state written: BOOT_DELTA_GO, DELTA_NOR_WRITTEN, DELTA_APPLY, TRANSIT_DELTA_APPLY. -/
def Obligations.DeltasAreCheckedWrittenAndApplied : Prop :=
  (∀ (s : State) (w : Writer) (r : Nat) (t : State), s.Live → s.Accepts w Reg.bootDeltaGo (2 ^ 31) → s.serving = true →
    s.boot.seqUse = none → s.deltaCheck = .error r → t = s.deltaStatus 5 0 r →
    exec (.bootDeltaGo w true) s = .next t ∧
      t.f Fld.bootDeltaStatus_state = 5 ∧
      s.SameHbm t ∧ t.comp = s.comp ∧ t.boot = s.boot ∧ t.ctl = s.ctl) ∧
  (∀ (s : State) (w : Writer) (typ : Nat) (sec : List Byte) (t : State), s.Live → s.Accepts w Reg.bootDeltaGo (2 ^ 31) →
    s.serving = true → s.boot.seqUse = none → s.deltaCheck = .ok (typ, sec) →
    t = (s.deltaStatus 2 (typ - 3) 0).setBoot { s.boot with seqUse := some .delta, deltaSection := sec, deltaDir := dirAt s.stageRead 0, newDir := [] } →
    exec (.bootDeltaGo w true) s = .next t ∧
      t.f Fld.bootDeltaStatus_state = 2 ∧
      t.boot.nor = s.boot.nor ∧
      s.SameHbm t ∧ t.comp = s.comp ∧ t.ctl = s.ctl) ∧
  (∀ (s : State) (w : Writer) (t : State), s.Live → s.Accepts w Reg.bootDeltaGo (2 ^ 31) → s.serving = true →
    s.boot.seqUse = some .delta → t = s.put Fld.bootDeltaStatus_result BRes.busy →
    exec (.bootDeltaGo w true) s = .next t ∧
      s.SameHbm t ∧ t.comp = s.comp ∧ t.boot = s.boot ∧ t.ctl = s.ctl) ∧
  (∀ (s : State) (w : Writer) (u : SeqUse) (t : State), s.Live → s.Accepts w Reg.bootDeltaGo (2 ^ 31) → s.serving = true →
    s.boot.seqUse = some u → u ≠ .delta → t = s.deltaStatus 5 0 BRes.busy →
    exec (.bootDeltaGo w true) s = .next t ∧
      s.SameHbm t ∧ t.comp = s.comp ∧ t.boot = s.boot ∧ t.ctl = s.ctl) ∧
  (∀ (s : State) (w : Writer) (t : State), s.Live → s.Accepts w Reg.bootDeltaGo (2 ^ 31) → s.serving = false →
    t = s.badWrite Reg.bootDeltaGo (2 ^ 31) →
    exec (.bootDeltaGo w true) s = .next t ∧
      s.SameHbm t ∧ t.comp = s.comp ∧ t.boot = s.boot ∧ t.ctl = s.ctl) ∧
  (∀ (s : State) (e : List Byte) (x : State) (t : State), s.Live → s.f Fld.bootDeltaStatus_state = 2 → s.serving = true →
    s.boot.newDir = [] → Dir.find s.boot.deltaDir (3 + s.f Fld.bootDeltaStatus_target) = some e →
    s.f Fld.bootDeltaStatus_target < 4 →
    x = (s.norWrite (slotOffset (s.f Fld.bootDeltaStatus_target) (entSlot e)) s.boot.deltaSection).norWrite (65536 * (1 - s.boot.runCopy)) s.boot.deltaDir →
    t = ((x.setBoot { x.boot with newDir := s.boot.deltaDir }).setPart (s.f Fld.bootDeltaStatus_target) { (x.part (s.f Fld.bootDeltaStatus_target)) with paused := true }).put Fld.bootDeltaStatus_state 3 →
    exec (.deltaNorWritten 0) s = .next t ∧
      t.f Fld.bootDeltaStatus_state = 3 ∧
      (t.part (s.f Fld.bootDeltaStatus_target)).paused = true ∧
      s.SameHbm t ∧ t.comp = s.comp) ∧
  (∀ (s : State) (e : List Byte) (x : State) (t : State), s.Live → s.f Fld.bootDeltaStatus_state = 2 → s.serving = true →
    s.boot.newDir = [] → Dir.find s.boot.deltaDir (3 + s.f Fld.bootDeltaStatus_target) = some e →
    4 ≤ s.f Fld.bootDeltaStatus_target →
    x = (s.norWrite (slotOffset (s.f Fld.bootDeltaStatus_target) (entSlot e)) s.boot.deltaSection).norWrite (65536 * (1 - s.boot.runCopy)) s.boot.deltaDir →
    t = x.setBoot { x.boot with newDir := s.boot.deltaDir } →
    exec (.deltaNorWritten 0) s = .next t ∧
      t.ctl = s.ctl ∧
      t.regs = s.regs ∧
      s.SameHbm t ∧ t.comp = s.comp) ∧
  (∀ (s : State) (e : List Byte) (t : State), s.Live → s.f Fld.bootDeltaStatus_state = 2 → s.serving = true → s.boot.newDir = [] →
    Dir.find s.boot.deltaDir (3 + s.f Fld.bootDeltaStatus_target) = some e →
    t = ((s.norWrite (slotOffset (s.f Fld.bootDeltaStatus_target) (entSlot e)) (freeBytes s s.boot.deltaSection.length)).useFresh s.boot.deltaSection.length).deltaEnd 5 BRes.norError →
    exec (.deltaNorWritten 1) s = .next t ∧
      t.f Fld.bootDeltaStatus_result = BRes.norError ∧
      t.boot.seqUse = none ∧
      s.SameHbm t ∧ t.comp = s.comp ∧ t.ctl = s.ctl) ∧
  (∀ (s : State) (e : List Byte) (t : State), s.Live → s.f Fld.bootDeltaStatus_state = 2 → s.serving = true → s.boot.newDir = [] →
    Dir.find s.boot.deltaDir (3 + s.f Fld.bootDeltaStatus_target) = some e →
    t = (((s.norWrite (slotOffset (s.f Fld.bootDeltaStatus_target) (entSlot e)) s.boot.deltaSection).norWrite (65536 * (1 - s.boot.runCopy)) (freeBytes s s.boot.deltaDir.length)).useFresh (s.boot.deltaSection.length + s.boot.deltaDir.length)).deltaEnd 5 BRes.norError →
    exec (.deltaNorWritten 2) s = .next t ∧
      t.f Fld.bootDeltaStatus_result = BRes.norError ∧
      t.boot.seqUse = none ∧
      s.SameHbm t ∧ t.comp = s.comp ∧ t.ctl = s.ctl) ∧
  (∀ (s : State) (e : List Byte) (t : State), s.Live → s.f Fld.bootDeltaStatus_state = 2 → s.serving = true → s.boot.newDir = [] →
    Dir.find s.boot.deltaDir (3 + s.f Fld.bootDeltaStatus_target) = some e →
    t = (((s.norWrite (slotOffset (s.f Fld.bootDeltaStatus_target) (entSlot e)) (freeBytes s s.boot.deltaSection.length)).norWrite (65536 * (1 - s.boot.runCopy)) s.boot.deltaDir).useFresh (s.boot.deltaSection.length + s.boot.deltaDir.length)).deltaEnd 5 BRes.norError →
    exec (.deltaNorWritten 3) s = .next t ∧
      t.f Fld.bootDeltaStatus_result = BRes.norError ∧
      t.boot.seqUse = none ∧
      s.SameHbm t ∧ t.comp = s.comp ∧ t.ctl = s.ctl) ∧
  (∀ (s : State) (p : Nat) (t : State), s.Live → s.f Fld.bootDeltaStatus_state = 3 → s.isHeld = false → s.saveState = 0 →
    p = s.f Fld.bootDeltaStatus_target → s.idlePart p = true → s.applySection (.part p) (3 + p) s.boot.deltaSection = none →
    t = ((s.setPart p { (s.part p) with paused := false }).generic Blk.boot (some p) Reg.bootDeltaStatus p BRes.badFormat).deltaEnd 5 BRes.badFormat →
    exec (.deltaApply) s = .next t ∧
      t.f Fld.bootDeltaStatus_result = BRes.badFormat ∧
      t.boot.seqUse = none ∧
      s.SameHbm t ∧ t.comp = s.comp) ∧
  (∀ (s : State) (p : Nat) (u v : State) (t : State), s.Live → s.f Fld.bootDeltaStatus_state = 3 → s.isHeld = false →
    s.saveState = 0 → p = s.f Fld.bootDeltaStatus_target → s.idlePart p = true →
    s.applySection (.part p) (3 + p) s.boot.deltaSection = some u →
    v = (u.extend (3 + p) (Dir.digest s.boot.deltaDir (3 + p))).markDiverged p false →
    t = (((v.deltaRuns s.boot.deltaDir).setPart p { ((v.deltaRuns s.boot.deltaDir).part p) with paused := false }).rejoin).deltaEnd 4 BRes.ok →
    exec (.deltaApply) s = .next t ∧
      t.f Fld.bootDeltaStatus_result = BRes.ok ∧
      t.boot.seqUse = none ∧
      s.SameHbm t) ∧
  (∀ (s : State) (t : State), s.Live → s.f Fld.bootDeltaStatus_state = 2 → s.f Fld.bootDeltaStatus_target = 4 →
    s.boot.newDir ≠ [] → s.isHeld = false → s.saveState = 0 → s.applySection .transit 7 s.boot.deltaSection = none →
    t = (s.generic Blk.boot none Reg.bootDeltaStatus 4 BRes.badFormat).deltaEnd 5 BRes.badFormat →
    exec (.transitDeltaApply) s = .next t ∧
      t.f Fld.bootDeltaStatus_result = BRes.badFormat ∧
      s.SameHbm t) ∧
  (∀ (s : State) (u : State) (t : State), s.Live → s.f Fld.bootDeltaStatus_state = 2 → s.f Fld.bootDeltaStatus_target = 4 →
    s.boot.newDir ≠ [] → s.isHeld = false → s.saveState = 0 → s.applySection .transit 7 s.boot.deltaSection = some u →
    t = ((u.extend 7 (Dir.digest s.boot.deltaDir 7)).deltaRuns s.boot.deltaDir).deltaEnd 4 BRes.ok →
    exec (.transitDeltaApply) s = .next t ∧
      t.f Fld.bootDeltaStatus_result = BRes.ok ∧
      s.SameHbm t)

/-- A firmware update verifies, writes, switches the halves and ends, and reverts to the kept image where activation fails.
BOOT_UPDATE_GO starts VERIFY or shows BUSY; a failed check or write ends in FAILED with its result; a written image moves to
the halves' restarts and the lead's hand-over; DONE runs the new directory and keeps the partition count; a failed half
writes the kept image back with a generation one higher. Log entries 5 and 34. Under each clause's hypotheses on the state
and the operands alone, exec answers the next state written: BOOT_UPDATE_GO, UPDATE_PHASE_END. -/
def Obligations.UpdatesRunPhaseByPhase : Prop :=
  (∀ (s : State) (w : Writer) (t : State), s.Live → s.Accepts w Reg.bootUpdateGo (2 ^ 31) → s.serving = true →
    s.boot.seqUse = none →
    t = (((s.put Fld.bootUpdateStatus_phase 1).put Fld.bootUpdateStatus_result 0).put Fld.bootUpdateStatus_written_kib 0).setBoot { s.boot with seqUse := some .update } →
    exec (.bootUpdateGo w true) s = .next t ∧
      t.f Fld.bootUpdateStatus_phase = 1 ∧
      t.boot.nor = s.boot.nor ∧
      s.SameHbm t ∧ t.comp = s.comp ∧ t.ctl = s.ctl) ∧
  (∀ (s : State) (w : Writer) (t : State), s.Live → s.Accepts w Reg.bootUpdateGo (2 ^ 31) → s.serving = true →
    s.boot.seqUse = some .update → t = s.put Fld.bootUpdateStatus_result BRes.busy →
    exec (.bootUpdateGo w true) s = .next t ∧
      s.SameHbm t ∧ t.comp = s.comp ∧ t.boot = s.boot ∧ t.ctl = s.ctl) ∧
  (∀ (s : State) (w : Writer) (u : SeqUse) (t : State), s.Live → s.Accepts w Reg.bootUpdateGo (2 ^ 31) → s.serving = true →
    s.boot.seqUse = some u → u ≠ .update → t = (s.put Fld.bootUpdateStatus_phase 7).put Fld.bootUpdateStatus_result BRes.busy →
    exec (.bootUpdateGo w true) s = .next t ∧
      s.SameHbm t ∧ t.comp = s.comp ∧ t.boot = s.boot ∧ t.ctl = s.ctl) ∧
  (∀ (s : State) (w : Writer) (t : State), s.Live → s.Accepts w Reg.bootUpdateGo (2 ^ 31) → s.serving = false →
    t = s.badWrite Reg.bootUpdateGo (2 ^ 31) →
    exec (.bootUpdateGo w true) s = .next t ∧
      s.SameHbm t ∧ t.comp = s.comp ∧ t.boot = s.boot ∧ t.ctl = s.ctl) ∧
  (∀ (s : State) (outcome : Fin 3) (r : Nat) (t : State), s.Live → s.boot.seqUse = some .update → s.isHeld = false →
    s.saveState = 0 → s.f Fld.bootUpdateStatus_phase = 1 → s.updateCheck = .error r →
    t = ((s.put Fld.bootUpdateStatus_phase 7).put Fld.bootUpdateStatus_result r).setBoot { s.boot with seqUse := none, keptImage := [], updateStaged := [] } →
    exec (.updatePhaseEnd outcome) s = .next t ∧
      t.boot.nor = s.boot.nor ∧
      s.SameHbm t) ∧
  (∀ (s : State) (outcome : Fin 3) (d : Dir) (t : State), s.Live → s.boot.seqUse = some .update → s.isHeld = false →
    s.saveState = 0 → s.f Fld.bootUpdateStatus_phase = 1 → s.updateCheck = .ok d →
    t = (s.put Fld.bootUpdateStatus_phase 2).setBoot { s.boot with newDir := d, updateStaged := stagedImage s.stageRead d, keptImage := s.boot.nor } →
    exec (.updatePhaseEnd outcome) s = .next t ∧
      t.boot.nor = s.boot.nor ∧
      s.SameHbm t) ∧
  (∀ (s : State) (secs : List (Nat × List Byte)) (x : State) (t : State), s.Live → s.boot.seqUse = some .update →
    s.isHeld = false → s.saveState = 0 → s.f Fld.bootUpdateStatus_phase = 2 →
    secs = sectionBytes (fun a n => Sparse.getAll norD s.boot.updateStaged a n) s.boot.newDir →
    x = secs.foldl (fun t e => t.norWrite e.1 e.2) s →
    t = ((x.norWrite (65536 * (1 - s.boot.runCopy)) s.boot.newDir).put Fld.bootUpdateStatus_written_kib (ceilDiv ((secs.map (fun e => e.2.length)).foldl (· + ·) 0 + s.boot.newDir.length) 1024)).put Fld.bootUpdateStatus_phase 3 →
    exec (.updatePhaseEnd 0) s = .next t ∧
      t.f Fld.bootUpdateStatus_phase = 3 ∧
      s.SameHbm t) ∧
  (∀ (s : State) (secs : List (Nat × List Byte)) (x : State) (t : State), s.Live → s.boot.seqUse = some .update →
    s.isHeld = false → s.saveState = 0 → s.f Fld.bootUpdateStatus_phase = 2 →
    secs = sectionBytes (fun a n => Sparse.getAll norD s.boot.updateStaged a n) s.boot.newDir →
    x = secs.foldl (fun t e => t.norWrite e.1 e.2) s →
    t = ((x.norWrite (65536 * (1 - s.boot.runCopy)) (freeBytes x s.boot.newDir.length)).useFresh s.boot.newDir.length).updateFail BRes.norError →
    exec (.updatePhaseEnd 2) s = .next t ∧
      t.f Fld.bootUpdateStatus_phase = 7 ∧
      t.f Fld.bootUpdateStatus_result = BRes.norError ∧
      s.SameHbm t) ∧
  (∀ (s : State) (secs : List (Nat × List Byte)) (x : State) (t : State), s.Live → s.boot.seqUse = some .update →
    s.isHeld = false → s.saveState = 0 → s.f Fld.bootUpdateStatus_phase = 2 →
    secs = sectionBytes (fun a n => Sparse.getAll norD s.boot.updateStaged a n) s.boot.newDir →
    x = secs.foldl (fun t e => (t.norWrite e.1 (freeBytes t e.2.length)).useFresh e.2.length) s → t = x.updateFail BRes.norError →
    exec (.updatePhaseEnd 1) s = .next t ∧
      t.f Fld.bootUpdateStatus_phase = 7 ∧
      t.f Fld.bootUpdateStatus_result = BRes.norError ∧
      s.SameHbm t) ∧
  (∀ (s : State) (t : State), s.Live → s.boot.seqUse = some .update → s.isHeld = false → s.saveState = 0 →
    s.f Fld.bootUpdateStatus_phase = 3 → t = s.put Fld.bootUpdateStatus_phase 4 →
    exec (.updatePhaseEnd 0) s = .next t ∧
      s.SameHbm t ∧ t.boot = s.boot) ∧
  (∀ (s : State) (t : State), s.Live → s.boot.seqUse = some .update → s.isHeld = false → s.saveState = 0 →
    s.f Fld.bootUpdateStatus_phase = 4 →
    t = ((s.put Fld.bootStatus_lead 1).put Fld.bootUpdateStatus_phase 5).setBoot { s.boot with renewedAt := s.now } →
    exec (.updatePhaseEnd 0) s = .next t ∧
      t.f Fld.bootStatus_lead = 1 ∧
      s.SameHbm t) ∧
  (∀ (s : State) (outcome : Fin 3) (ph : Nat) (t : State), s.Live → s.boot.seqUse = some .update → s.isHeld = false →
    s.saveState = 0 → s.f Fld.bootUpdateStatus_phase = ph → (ph = 3 ∨ ph = 5) → outcome ≠ 0 → t = s.updateRevert →
    exec (.updatePhaseEnd outcome) s = .next t ∧
      t.f Fld.bootUpdateStatus_phase = 7 ∧
      t.f Fld.bootUpdateStatus_result = BRes.activateFailed ∧
      t.boot.nor = Sparse.putAll norD s.boot.keptImage (65536 * (1 - s.boot.runCopy)) (s.boot.runDir.take 8 ++ toLE 8 (Dir.generation s.boot.newDir + 1) ++ s.boot.runDir.drop 16) ∧
      s.SameHbm t) ∧
  (∀ (s : State) (u v : State) (t : State), s.Live → s.boot.seqUse = some .update → s.isHeld = false → s.saveState = 0 →
    s.f Fld.bootUpdateStatus_phase = 5 →
    (u = if Dir.commitSvn s.boot.newDir then (s.extend 1 (Dir.digest s.boot.newDir 1)).raiseSvn (Dir.svn s.boot.newDir) else s.extend 1 (Dir.digest s.boot.newDir 1)) →
    (v = if Dir.clearLedger s.boot.newDir then u.setKeep (u.keep.write ⟨5, 0, 0, u.keep.seq, u.now⟩) else u) → t = s.updateDone →
    exec (.updatePhaseEnd 0) s = .next t ∧
      t.f Fld.bootUpdateStatus_phase = 6 ∧
      t.f Fld.bootUpdateStatus_result = BRes.ok ∧
      (t.boot.seqUse = none ∧ t.boot.runDir = s.boot.newDir ∧ t.boot.partitions = s.boot.partitions) ∧
      t.keep = v.keep ∧
      t.fuses = u.fuses ∧
      s.SameHbm t)

/-- Recovery answers HELLO with OFFER, checks a COMMIT, writes NOR only for a good image, unbinds when idle and then resets. A
HELLO binds QP2 and is answered; a COMMIT with another nonce or a bad image is answered with its result and leaves NOR
alone; a good one writes NOR, or leaves it free where the write fails; ten seconds idle unbind; ten milliseconds after OK
the device resets. Log entries 5 and 36. Under each clause's hypotheses on the state and the operands alone, exec answers
the next state written: RECOVERY_HELLO, RECOVERY_COMMIT, RECOVERY_IDLE, RECOVERY_RESET. -/
def Obligations.RecoveryLoadsAnImageOverHp : Prop :=
  (∀ (s : State) (body : List Byte) (u v : State) (t : State), s.Live → s.stage = 7 → s.hpUp = true → s.boot.recovery = none →
    body.length = 32 → fieldLE body 0 4 = 0x52435652 →
    u = s.random.1.setBoot { s.random.1.boot with recovery := some ⟨fieldLE body 4 4 % 2 ^ 24, fieldLE body 8 4 % 2 ^ 24, (body.drop 12).take 8, s.now⟩, windowKey := s.random.2 % 2 ^ 32 } →
    v = ((u.put (Fld.hostQpCfg_state 2) 1).put (Fld.hostQpCfg_remote_qpn 2) (fieldLE body 4 4 % 2 ^ 24)).put (Fld.hostQpPsn_recv_psn 2) (fieldLE body 8 4 % 2 ^ 24) →
    t = (v.emit (.ack 2 0)).recoverySend none ((body.drop 12).take 8 ++ toLE 8 s.fuses.serial ++ toLE 1 s.fuses.svn ++ toLE 1 s.fuses.ownerValid ++ toLE 1 s.fuses.ownerRevoked ++ toLE 1 0 ++ toLE 4 (s.random.2 % 2 ^ 32) ++ toLE 8 0x4000000) →
    exec (.recoveryHello body) s = .next t ∧
      s.SameHbm t ∧ t.comp = s.comp ∧ t.ctl = s.ctl ∧ t.fuses = s.fuses) ∧
  (∀ (s : State) (psn : BitVec 24) (body : List Byte) (norOk : Bool) (b : RecoveryBind) (u : State) (t : State), s.Live →
    s.boot.recovery = some b → s.stage = 7 → s.hpUp = true → body.length = 16 → psn.toNat = s.f (Fld.hostQpPsn_recv_psn 2) →
    s.boot.recoveryAt = none →
    u = ((s.takePsn 2 1).emit (.ack 2 psn.toNat)).setBoot { s.boot with recovery := some { b with lastUsed := s.now } } →
    body.take 8 ≠ b.nonce → t = u.recoverySend (some BRes.nonce) [] →
    exec (.recoveryCommit psn body norOk) s = .next t ∧
      t.boot.nor = s.boot.nor ∧
      s.SameHbm t ∧ t.comp = s.comp ∧ t.ctl = s.ctl) ∧
  (∀ (s : State) (psn : BitVec 24) (body : List Byte) (norOk : Bool) (b : RecoveryBind) (u : State) (r : Nat) (t : State), s.Live →
    s.boot.recovery = some b → s.stage = 7 → s.hpUp = true → body.length = 16 → psn.toNat = s.f (Fld.hostQpPsn_recv_psn 2) →
    s.boot.recoveryAt = none →
    u = ((s.takePsn 2 1).emit (.ack 2 psn.toNat)).setBoot { s.boot with recovery := some { b with lastUsed := s.now } } →
    body.take 8 = b.nonce → s.recoveryCheck (min (fieldLE body 8 8) 0x4000000) = some r → t = u.recoverySend (some r) [] →
    exec (.recoveryCommit psn body norOk) s = .next t ∧
      t.boot.nor = s.boot.nor ∧
      s.SameHbm t ∧ t.comp = s.comp ∧ t.ctl = s.ctl) ∧
  (∀ (s : State) (psn : BitVec 24) (body : List Byte) (b : RecoveryBind) (u : State) (v : State) (t : State), s.Live →
    s.boot.recovery = some b → s.stage = 7 → s.hpUp = true → body.length = 16 → psn.toNat = s.f (Fld.hostQpPsn_recv_psn 2) →
    s.boot.recoveryAt = none →
    u = ((s.takePsn 2 1).emit (.ack 2 psn.toNat)).setBoot { s.boot with recovery := some { b with lastUsed := s.now } } →
    body.take 8 = b.nonce → s.recoveryCheck (min (fieldLE body 8 8) 0x4000000) = none →
    v = u.windowToNor (min (fieldLE body 8 8) 0x4000000) →
    t = (v.setBoot { v.boot with recoveryAt := some s.now }).recoverySend (some BRes.ok) [] →
    exec (.recoveryCommit psn body true) s = .next t ∧
      s.SameHbm t ∧ t.comp = s.comp ∧ t.ctl = s.ctl) ∧
  (∀ (s : State) (psn : BitVec 24) (body : List Byte) (b : RecoveryBind) (u : State) (t : State), s.Live →
    s.boot.recovery = some b → s.stage = 7 → s.hpUp = true → body.length = 16 → psn.toNat = s.f (Fld.hostQpPsn_recv_psn 2) →
    s.boot.recoveryAt = none →
    u = ((s.takePsn 2 1).emit (.ack 2 psn.toNat)).setBoot { s.boot with recovery := some { b with lastUsed := s.now } } →
    body.take 8 = b.nonce → s.recoveryCheck (min (fieldLE body 8 8) 0x4000000) = none →
    t = (u.norFree (min (fieldLE body 8 8) 0x4000000)).recoverySend (some BRes.norError) [] →
    exec (.recoveryCommit psn body false) s = .next t ∧
      s.SameHbm t ∧ t.comp = s.comp ∧ t.ctl = s.ctl) ∧
  (∀ (s : State) (b : RecoveryBind) (t : State), s.Live → s.boot.recovery = some b → s.stage = 7 →
    4750000000 + b.lastUsed ≤ s.now →
    t = ((s.setBoot { s.boot with recovery := none }).put (Fld.hostQpCfg_state 2) 0).setQp 2 (qpD 2) →
    exec (.recoveryIdle) s = .next t ∧
      t.boot.recovery = none ∧
      s.SameHbm t ∧ t.comp = s.comp ∧ t.ctl = s.ctl) ∧
  (∀ (s : State) (a : Nat) (t : State), s.Live → s.boot.recoveryAt = some a → 4750000 + a ≤ s.now → t = s.resetDevice →
    exec (.recoveryReset) s = .next t ∧
      (t.boot.nor = s.cutNor.boot.nor ∧ t.pins.inReset = true))

/-- Security commands are refused for their block or write one fuse slot or key; each ends with a result; reports are written
whole. OWNER_PROGRAM, OWNER_REVOKE, KEY_LOAD and KEY_CLEAR end BUSY with the sequencer taken, with the check's result where
the block fails (no fuse and no key changed), and otherwise program an empty slot, revoke one slot but the last, or fill or
empty one key slot; an attestation request clears valid, and the ready report stands in all its words with valid set.
Cryptography is uninterpreted (log entries 6 and 37). Under each clause's hypotheses on the state and the operands alone,
exec answers the next state written: OWNER_PROGRAM, OWNER_REVOKE, KEY_LOAD, KEY_CLEAR, SEC_ATTEST_GO, ATTEST_REPORT_READY. -/
def Obligations.SecurityCommandsAndReports : Prop :=
  (∀ (s : State) (w : Writer) (off : Fin 16384) (t : State), s.Live → blkCommand (s.secBlock (off.val % 2 ^ 14)) = 1 →
    s.Accepts w Reg.secCmdGo (off.val % 2 ^ 14 + 2 ^ 31) → s.serving = true → s.boot.seqUse.isSome = true →
    t = s.secDone BRes.busy →
    exec (.ownerProgram w off true) s = .next t ∧
      (t.fuses = s.fuses ∧ t.sec = s.sec) ∧
      t.f Fld.secCmdStatus_state = 2 ∧
      t.f Fld.secCmdStatus_result = BRes.busy) ∧
  (∀ (s : State) (w : Writer) (off : Fin 16384) (t : State), s.Live → blkCommand (s.secBlock (off.val % 2 ^ 14)) = 2 →
    s.Accepts w Reg.secCmdGo (off.val % 2 ^ 14 + 2 ^ 31) → s.serving = true → s.boot.seqUse.isSome = true →
    t = s.secDone BRes.busy →
    exec (.ownerRevoke w off true) s = .next t ∧
      (t.fuses = s.fuses ∧ t.sec = s.sec) ∧
      t.f Fld.secCmdStatus_state = 2 ∧
      t.f Fld.secCmdStatus_result = BRes.busy) ∧
  (∀ (s : State) (w : Writer) (off : Fin 16384) (t : State), s.Live → blkCommand (s.secBlock (off.val % 2 ^ 14)) = 3 →
    s.Accepts w Reg.secCmdGo (off.val % 2 ^ 14 + 2 ^ 31) → s.serving = true → s.boot.seqUse.isSome = true →
    t = s.secDone BRes.busy →
    exec (.keyLoad w off true) s = .next t ∧
      (t.fuses = s.fuses ∧ t.sec = s.sec) ∧
      t.f Fld.secCmdStatus_state = 2 ∧
      t.f Fld.secCmdStatus_result = BRes.busy) ∧
  (∀ (s : State) (w : Writer) (off : Fin 16384) (t : State), s.Live → blkCommand (s.secBlock (off.val % 2 ^ 14)) = 4 →
    s.Accepts w Reg.secCmdGo (off.val % 2 ^ 14 + 2 ^ 31) → s.serving = true → s.boot.seqUse.isSome = true →
    t = s.secDone BRes.busy →
    exec (.keyClear w off true) s = .next t ∧
      (t.fuses = s.fuses ∧ t.sec = s.sec) ∧
      t.f Fld.secCmdStatus_state = 2 ∧
      t.f Fld.secCmdStatus_result = BRes.busy) ∧
  (∀ (s : State) (w : Writer) (off : Fin 16384) (r : Nat) (t : State), s.Live → blkCommand (s.secBlock (off.val % 2 ^ 14)) = 1 →
    s.Accepts w Reg.secCmdGo (off.val % 2 ^ 14 + 2 ^ 31) → s.serving = true → s.boot.seqUse = none →
    s.secCheck (s.secBlock (off.val % 2 ^ 14)) = some r → r < 256 → t = s.secDone r →
    exec (.ownerProgram w off true) s = .next t ∧
      (t.fuses = s.fuses ∧ t.sec = s.sec) ∧
      t.f Fld.secCmdStatus_state = 2 ∧
      t.f Fld.secCmdStatus_result = r) ∧
  (∀ (s : State) (w : Writer) (off : Fin 16384) (r : Nat) (t : State), s.Live → blkCommand (s.secBlock (off.val % 2 ^ 14)) = 2 →
    s.Accepts w Reg.secCmdGo (off.val % 2 ^ 14 + 2 ^ 31) → s.serving = true → s.boot.seqUse = none →
    s.secCheck (s.secBlock (off.val % 2 ^ 14)) = some r → r < 256 → t = s.secDone r →
    exec (.ownerRevoke w off true) s = .next t ∧
      (t.fuses = s.fuses ∧ t.sec = s.sec) ∧
      t.f Fld.secCmdStatus_state = 2 ∧
      t.f Fld.secCmdStatus_result = r) ∧
  (∀ (s : State) (w : Writer) (off : Fin 16384) (r : Nat) (t : State), s.Live → blkCommand (s.secBlock (off.val % 2 ^ 14)) = 3 →
    s.Accepts w Reg.secCmdGo (off.val % 2 ^ 14 + 2 ^ 31) → s.serving = true → s.boot.seqUse = none →
    s.secCheck (s.secBlock (off.val % 2 ^ 14)) = some r → r < 256 → t = s.secDone r →
    exec (.keyLoad w off true) s = .next t ∧
      (t.fuses = s.fuses ∧ t.sec = s.sec) ∧
      t.f Fld.secCmdStatus_state = 2 ∧
      t.f Fld.secCmdStatus_result = r) ∧
  (∀ (s : State) (w : Writer) (off : Fin 16384) (r : Nat) (t : State), s.Live → blkCommand (s.secBlock (off.val % 2 ^ 14)) = 4 →
    s.Accepts w Reg.secCmdGo (off.val % 2 ^ 14 + 2 ^ 31) → s.serving = true → s.boot.seqUse = none →
    s.secCheck (s.secBlock (off.val % 2 ^ 14)) = some r → r < 256 → t = s.secDone r →
    exec (.keyClear w off true) s = .next t ∧
      (t.fuses = s.fuses ∧ t.sec = s.sec) ∧
      t.f Fld.secCmdStatus_state = 2 ∧
      t.f Fld.secCmdStatus_result = r) ∧
  (∀ (s : State) (w : Writer) (off : Fin 16384) (b : List Byte) (k : Nat) (t : State), s.Live →
    b = s.secBlock (off.val % 2 ^ 14) → k = blkTarget b → blkCommand b = 1 →
    s.Accepts w Reg.secCmdGo (off.val % 2 ^ 14 + 2 ^ 31) → s.serving = true → s.boot.seqUse = none → s.secCheck b = none →
    testBit s.fuses.ownerRevoked k = true → t = s.secDone BRes.keyRevoked →
    exec (.ownerProgram w off true) s = .next t ∧
      (t.fuses = s.fuses ∧ t.sec = s.sec) ∧
      t.f Fld.secCmdStatus_state = 2 ∧
      t.f Fld.secCmdStatus_result = BRes.keyRevoked ∧
      s.SameHbm t) ∧
  (∀ (s : State) (w : Writer) (off : Fin 16384) (b : List Byte) (k : Nat) (t : State), s.Live →
    b = s.secBlock (off.val % 2 ^ 14) → k = blkTarget b → blkCommand b = 1 →
    s.Accepts w Reg.secCmdGo (off.val % 2 ^ 14 + 2 ^ 31) → s.serving = true → s.boot.seqUse = none → s.secCheck b = none →
    testBit s.fuses.ownerRevoked k = false → testBit s.fuses.ownerValid k = true → t = s.secDone BRes.badFormat →
    exec (.ownerProgram w off true) s = .next t ∧
      (t.fuses = s.fuses ∧ t.sec = s.sec) ∧
      t.f Fld.secCmdStatus_state = 2 ∧
      t.f Fld.secCmdStatus_result = BRes.badFormat ∧
      s.SameHbm t) ∧
  (∀ (s : State) (w : Writer) (off : Fin 16384) (b : List Byte) (k : Nat) (u : State) (t : State), s.Live →
    b = s.secBlock (off.val % 2 ^ 14) → k = blkTarget b → blkCommand b = 1 →
    s.Accepts w Reg.secCmdGo (off.val % 2 ^ 14 + 2 ^ 31) → s.serving = true → s.boot.seqUse = none → s.secCheck b = none →
    testBit s.fuses.ownerRevoked k = false → testBit s.fuses.ownerValid k = false →
    (u = s.setFuses { s.fuses with ownerHash := (List.range 4).map (fun i => if i = k then (blkPayload b).take 32 else s.fuses.ownerHash.getD i []), ownerValid := fuseBit s.fuses.ownerValid k }) →
    t = u.showFuses.secDone BRes.ok →
    exec (.ownerProgram w off true) s = .next t ∧
      t.sec = s.sec ∧
      t.fuses = u.fuses ∧
      ((k < 4 → t.fuses.ownerHash.getD k [] = (blkPayload b).take 32)) ∧
      t.f Fld.secCmdStatus_result = BRes.ok ∧
      s.SameHbm t) ∧
  (∀ (s : State) (w : Writer) (off : Fin 16384) (b : List Byte) (k : Nat) (t : State), s.Live →
    b = s.secBlock (off.val % 2 ^ 14) → k = blkTarget b → blkCommand b = 2 →
    s.Accepts w Reg.secCmdGo (off.val % 2 ^ 14 + 2 ^ 31) → s.serving = true → s.boot.seqUse = none → s.secCheck b = none →
    (∀ i, i < 4 → i ≠ k → s.fuses.slotGood i = false) → t = s.secDone BRes.lastKey →
    exec (.ownerRevoke w off true) s = .next t ∧
      (t.fuses = s.fuses ∧ t.sec = s.sec) ∧
      t.f Fld.secCmdStatus_state = 2 ∧
      t.f Fld.secCmdStatus_result = BRes.lastKey ∧
      s.SameHbm t) ∧
  (∀ (s : State) (w : Writer) (off : Fin 16384) (b : List Byte) (k : Nat) (i : Nat) (t : State), s.Live →
    b = s.secBlock (off.val % 2 ^ 14) → k = blkTarget b → blkCommand b = 2 →
    s.Accepts w Reg.secCmdGo (off.val % 2 ^ 14 + 2 ^ 31) → s.serving = true → s.boot.seqUse = none → s.secCheck b = none → i < 4 →
    i ≠ k → s.fuses.slotGood i = true →
    t = (s.setFuses { s.fuses with ownerRevoked := fuseBit s.fuses.ownerRevoked k }).showFuses.secDone BRes.ok →
    exec (.ownerRevoke w off true) s = .next t ∧
      t.sec = s.sec ∧
      t.fuses = { s.fuses with ownerRevoked := fuseBit s.fuses.ownerRevoked k } ∧
      t.f Fld.secCmdStatus_result = BRes.ok ∧
      s.SameHbm t) ∧
  (∀ (s : State) (w : Writer) (off : Fin 16384) (b : List Byte) (k : Nat) (key : List Byte) (t : State), s.Live →
    b = s.secBlock (off.val % 2 ^ 14) → k = blkTarget b → blkCommand b = 3 →
    s.Accepts w Reg.secCmdGo (off.val % 2 ^ 14 + 2 ^ 31) → s.serving = true → s.boot.seqUse = none → s.secCheck b = none →
    Config.sm2Decrypt (blkPayload b) = some key → key.length = 16 → t = (s.setKey k key).secDone BRes.ok →
    exec (.keyLoad w off true) s = .next t ∧
      t.fuses = s.fuses ∧
      t.sec.keys = Sparse.put (fun _ => []) s.sec.keys k key ∧
      t.f Fld.secCmdStatus_result = BRes.ok ∧
      s.SameHbm t) ∧
  (∀ (s : State) (w : Writer) (off : Fin 16384) (b : List Byte) (k : Nat) (t : State), s.Live →
    b = s.secBlock (off.val % 2 ^ 14) → k = blkTarget b → blkCommand b = 3 →
    s.Accepts w Reg.secCmdGo (off.val % 2 ^ 14 + 2 ^ 31) → s.serving = true → s.boot.seqUse = none → s.secCheck b = none →
    (∀ key, Config.sm2Decrypt (blkPayload b) = some key → key.length ≠ 16) → t = s.secDone BRes.badFormat →
    exec (.keyLoad w off true) s = .next t ∧
      (t.fuses = s.fuses ∧ t.sec = s.sec) ∧
      t.f Fld.secCmdStatus_state = 2 ∧
      t.f Fld.secCmdStatus_result = BRes.badFormat ∧
      s.SameHbm t) ∧
  (∀ (s : State) (w : Writer) (off : Fin 16384) (b : List Byte) (k : Nat) (t : State), s.Live →
    b = s.secBlock (off.val % 2 ^ 14) → k = blkTarget b → blkCommand b = 4 →
    s.Accepts w Reg.secCmdGo (off.val % 2 ^ 14 + 2 ^ 31) → s.serving = true → s.boot.seqUse = none → s.secCheck b = none →
    t = (s.setKey k []).secDone BRes.ok →
    exec (.keyClear w off true) s = .next t ∧
      t.fuses = s.fuses ∧
      t.sec.keys = Sparse.put (fun _ => []) s.sec.keys k [] ∧
      t.f Fld.secCmdStatus_result = BRes.ok ∧
      s.SameHbm t) ∧
  (∀ (s : State) (w : Writer) (t : State), s.Live → s.Accepts w Reg.secAttestGo (2 ^ 31) →
    t = ((s.setSec { s.sec with attestNonce := (List.range 4).flatMap (fun i => toLE 8 (s.rd (Reg.secAttestNonce i))) }).put Fld.secAttestStatus_valid 0).put Fld.secAttestStatus_busy 1 →
    exec (.secAttestGo w true) s = .next t ∧
      (t.f Fld.secAttestStatus_busy = 1 ∧ t.f Fld.secAttestStatus_valid = 0) ∧
      s.SameHbm t ∧ t.comp = s.comp ∧ t.ctl = s.ctl ∧ t.keep = s.keep) ∧
  (∀ (s : State) (r : List Byte) (u : State) (t : State), s.Live → s.flag Fld.secAttestStatus_busy = true → s.isHeld = false →
    s.saveState = 0 → r = s.reportBody ++ padTo 64 (Config.sm2Sign s.reportBody) →
    u = (List.range 64).foldl (fun t j => t.wr (Reg.secReportWord j) (fieldLE r (8 * j) 8)) s →
    t = ((u.setSec { u.sec with reports := u.sec.reports + 1 }).put Fld.secAttestStatus_busy 0).put Fld.secAttestStatus_valid 1 →
    exec (.attestReportReady) s = .next t ∧
      (t.f Fld.secAttestStatus_busy = 0 ∧ t.f Fld.secAttestStatus_valid = 1) ∧
      ((∀ j, j < 64 → t.rd (Reg.secReportWord j) = fieldLE r (8 * j) 8 % 2 ^ 64)) ∧
      t.sec.reports = s.sec.reports + 1 ∧
      s.SameHbm t ∧ t.comp = s.comp ∧ t.ctl = s.ctl ∧ t.keep = s.keep)

/-- The write engine takes the oldest waiting event, Pommel's first of one cycle, and a refilled bucket reports its
suppressions. EVENT_RECORD_WRITE takes nothing before the recorder has started, else the head of the intake whose event is
earlier; in HELD without the bridge Cantle's events are lost and counted first; SUPPRESSED writes EV-0x0C01 with count and
times and empties the count. Log entry 38. Under each clause's hypotheses on the state and the operands alone, exec answers
the next state written: EVENT_RECORD_WRITE, SUPPRESSED. -/
def Obligations.EventsAreTakenFromTheIntakesInOrder : Prop :=
  (∀ (s : State) (bridge : Bool) (u : State) (t : State), s.Live → (u = if s.isHeld && !bridge then s.loseCantle else s) →
    u.recording = false → t = u →
    exec (.eventRecordWrite bridge) s = .next t ∧
      s.SameHbm t ∧ t.comp = s.comp ∧ t.keep = s.keep ∧ t.strm = s.strm) ∧
  (∀ (s : State) (bridge : Bool) (u : State) (t : State), s.Live → (u = if s.isHeld && !bridge then s.loseCantle else s) →
    u.recording = true → u.forwarded false = [] → u.forwarded true = [] → t = u →
    exec (.eventRecordWrite bridge) s = .next t ∧
      s.SameHbm t ∧ t.comp = s.comp ∧ t.keep = s.keep ∧ t.strm = s.strm) ∧
  (∀ (s : State) (bridge : Bool) (u : State) (e : Ev) (es : List Ev) (t : State), s.Live →
    (u = if s.isHeld && !bridge then s.loseCantle else s) → u.recording = true → u.forwarded false = e :: es →
    u.forwarded true = [] → t = (u.setRec { u.recorder with intake0 := es }).takeEvent e →
    exec (.eventRecordWrite bridge) s = .next t ∧
      s.SameHbm t ∧ t.comp = s.comp ∧ t.keep = s.keep ∧ t.strm = s.strm) ∧
  (∀ (s : State) (bridge : Bool) (u : State) (e : Ev) (es : List Ev) (t : State), s.Live →
    (u = if s.isHeld && !bridge then s.loseCantle else s) → u.recording = true → u.forwarded false = [] →
    u.forwarded true = e :: es → t = (u.setRec { u.recorder with intake1 := es }).takeEvent e →
    exec (.eventRecordWrite bridge) s = .next t ∧
      s.SameHbm t ∧ t.comp = s.comp ∧ t.keep = s.keep ∧ t.strm = s.strm) ∧
  (∀ (s : State) (bridge : Bool) (u : State) (e : Ev) (es : List Ev) (f : Ev) (fs : List Ev) (t : State), s.Live →
    (u = if s.isHeld && !bridge then s.loseCantle else s) → u.recording = true → u.forwarded false = e :: es →
    u.forwarded true = f :: fs → f.time < e.time → t = (u.setRec { u.recorder with intake1 := fs }).takeEvent f →
    exec (.eventRecordWrite bridge) s = .next t ∧
      s.SameHbm t ∧ t.comp = s.comp ∧ t.keep = s.keep ∧ t.strm = s.strm) ∧
  (∀ (s : State) (bridge : Bool) (u : State) (e : Ev) (es : List Ev) (f : Ev) (fs : List Ev) (t : State), s.Live →
    (u = if s.isHeld && !bridge then s.loseCantle else s) → u.recording = true → u.forwarded false = e :: es →
    u.forwarded true = f :: fs → e.time ≤ f.time → t = (u.setRec { u.recorder with intake0 := es }).takeEvent e →
    exec (.eventRecordWrite bridge) s = .next t ∧
      s.SameHbm t ∧ t.comp = s.comp ∧ t.keep = s.keep ∧ t.strm = s.strm) ∧
  (∀ (s : State) (code : Fin 65536) (b : Bucket) (t : State), s.Live → b = s.bucketOf code → 0 < b.suppressed →
    (s.rateOf code).2 * tokenUnits ≤ s.levelOf code →
    t = ((s.setBucketOf code { b with suppressed := 0, maxSev := 0 }).writeRecord 0x0C01 b.maxSev b.lastFlags b.lastInst (s.stepFor (if testBit b.lastFlags 0 then some (bits b.lastFlags 1 2) else none)) s.now (toLE 2 code ++ toLE 2 0 ++ toLE 4 b.suppressed ++ toLE 8 b.tFirst ++ toLE 8 b.tLast) (noticeQueues (evInfo code).2 (if testBit b.lastFlags 0 then some (bits b.lastFlags 1 2) else none) [])) →
    exec (.suppressed code) s = .next t ∧
      s.SameHbm t ∧ t.comp = s.comp ∧ t.keep = s.keep ∧ t.strm = s.strm)

/-- A full intake loses further events of its half, counts them, and reports the count once it has fallen to 256. With 512
events waiting in a half's intake, a further event of that half leaves the intakes as they are and is counted in EVREC_LOST
and in the count since the last report; with the intake at 256 or fewer and a count standing, INTAKE_LOST writes one
EV-0x0C02 record with the half and that count, which starts again at 0. Under each clause's hypotheses on the state and the
operands alone, exec answers the next state written: INTAKE_LOST. -/
def Obligations.AnOverflowingIntakeIsCountedAndReported : Prop :=
  (∀ (s : State) (e : Ev), e.cantle = false → 512 ≤ (s.intake false).length →
    ∃ u : State, s.raise e = u ∧ u.recorder = { s.recorder with lost0 := s.recorder.lost0 + 1 } ∧
      u.f Fld.evrecLost_pommel = satAdd Fld.evrecLost_pommel.width (s.f Fld.evrecLost_pommel) 1) ∧
  (∀ (s : State) (e : Ev), e.cantle = true → 512 ≤ (s.intake true).length →
    ∃ u : State, s.raise e = u ∧ u.recorder = { s.recorder with lost1 := s.recorder.lost1 + 1 } ∧
      u.f Fld.evrecLost_cantle = satAdd Fld.evrecLost_cantle.width (s.f Fld.evrecLost_cantle) 1) ∧
  (∀ (s : State) (t : State), s.Live → 0 < s.recorder.lost0 → (s.intake false).length ≤ 256 → s.recording = true →
    t = (s.setRec { s.recorder with lost0 := 0 }).writeRecord 0x0C02 1 0 0 (s.stepFor none) s.now (toLE 1 0 ++ toLE 3 0 ++ toLE 4 s.recorder.lost0) [4] →
    exec (.intakeLost false) s = .next t ∧
      s.SameHbm t ∧ t.comp = s.comp ∧ t.keep = s.keep ∧ t.strm = s.strm) ∧
  (∀ (s : State) (t : State), s.Live → 0 < s.recorder.lost1 → (s.intake true).length ≤ 256 → s.recording = true →
    t = (s.setRec { s.recorder with lost1 := 0 }).writeRecord 0x0C02 1 16 0 (s.stepFor none) s.now (toLE 1 1 ++ toLE 3 0 ++ toLE 4 s.recorder.lost1) [4] →
    exec (.intakeLost true) s = .next t ∧
      s.SameHbm t ∧ t.comp = s.comp ∧ t.keep = s.keep ∧ t.strm = s.strm)

/-- Records take the next number and the slot of the policy, and a code with an empty bucket is suppressed and counted. A record
with a slot takes the next sequence number, stands whole in that slot, leaves every other slot and the intakes alone and is
noticed to its queues; without one it is dropped and counted; FATAL and recorder codes are never suppressed; others need a
whole token, which is spent; under SPLIT the lowest empty pinned slot is filled first and then the ring, under SEVERITY the
lowest empty slot, and a log of higher severities drops the record. Log entry 38. -/
def Obligations.RecordsAreNumberedPlacedAndLimited : Prop :=
  (∀ (s : State) (code sev flags inst step time : Nat) (payload : List Byte) (queues : List Nat), s.place sev = none →
    s.writeRecord code sev flags inst step time payload queues = s.bumpSat Fld.evrecDropped_count 1) ∧
  (∀ (s : State) (code sev flags inst step time : Nat) (payload : List Byte) (queues : List Nat) (k : Nat), s.place sev = some k →
    ∃ u : State, s.writeRecord code sev flags inst step time payload queues = queues.foldl (fun t q => t.notice q (EvRec.notice ⟨s.recorder.nextSeq, code, sev, flags, inst, step, time, padTo 28 payload, Config.freeBit s.fresh, false⟩)) u ∧
      u.recorder.nextSeq = s.recorder.nextSeq + 1 ∧
      u.recSlot k = some ⟨s.recorder.nextSeq, code, sev, flags, inst, step, time, padTo 28 payload, Config.freeBit s.fresh, false⟩ ∧
      (∀ j, j ≠ k → u.recSlot j = s.recSlot j) ∧ u.rd Reg.evrecSeqHi = s.recorder.nextSeq % 2 ^ 64 ∧
        ((s.recSlot k).isSome = true → u.f Fld.evrecStatus_wrapped = 1) ∧
      u.recorder.intake0 = s.recorder.intake0 ∧ u.recorder.intake1 = s.recorder.intake1) ∧
  (∀ (s : State) (e : Ev), neverSuppressed e.code (evInfo e.code).1 = true →
    s.takeEvent e = s.writeRecord e.code (evInfo e.code).1 e.flags e.instNo (s.stepFor e.part) e.time e.payload (noticeQueues (evInfo e.code).2 e.part e.notice)) ∧
  (∀ (s : State) (e : Ev) (b : Bucket) (l : Nat) (t : State), neverSuppressed e.code (evInfo e.code).1 = false →
    b = s.bucketOf e.code → l = s.levelOf e.code → tokenUnits ≤ l →
    t = (s.setBucketOf e.code { b with level := l - tokenUnits, at_ := s.now, used := true }).writeRecord e.code (evInfo e.code).1 e.flags e.instNo (s.stepFor e.part) e.time e.payload (noticeQueues (evInfo e.code).2 e.part e.notice) →
    s.takeEvent e = if b.suppressed ≠ 0 ∧ s.bucketFull e.code then t.writeSuppressed e.code else t) ∧
  (∀ (s : State) (e : Ev) (b : Bucket) (l : Nat), neverSuppressed e.code (evInfo e.code).1 = false → b = s.bucketOf e.code →
    l = s.levelOf e.code → l < tokenUnits →
    (s.takeEvent e).recorder.slots = s.recorder.slots ∧ (s.takeEvent e).recorder.nextSeq = s.recorder.nextSeq ∧
      ((s.takeEvent e).bucketOf e.code).suppressed = b.suppressed + 1 ∧
      (s.takeEvent e).f Fld.evrecSuppressed_count = satAdd Fld.evrecSuppressed_count.width (s.f Fld.evrecSuppressed_count) 1) ∧
  (∀ (s : State) (code : Nat), (s.bucketOf code).used = false → s.levelOf code = (s.rateOf code).2 * tokenUnits) ∧
  (∀ (s : State) (sev k : Nat), s.split = true → firstEmpty (s.held.map Prod.fst) 0 4096 = some k → s.place sev = some k) ∧
  (∀ (s : State) (sev : Nat), s.split = true → firstEmpty (s.held.map Prod.fst) 0 4096 = none →
    s.place sev = some s.recorder.ring) ∧
  (∀ (s : State) (sev k : Nat), s.split = false → firstEmpty (s.held.map Prod.fst) 0 32768 = some k → s.place sev = some k) ∧
  (∀ (s : State) (sev : Nat), s.split = false → firstEmpty (s.held.map Prod.fst) 0 32768 = none →
    (∀ e ∈ s.held, sev < e.2.severity) → s.place sev = none)

/-- EVREC_CLEAR empties the slots of its bits with EV-0x0C04, and only for the lead or a device control QP. A writer that may
not clear changes no slot and is told with an event; the all bit empties every slot under either policy, the pinned bit the
slots below 4,096 under SPLIT and nothing under SEVERITY; a clear that takes effect is followed by EV-0x0C04 with the bits
that did. Log entry 38. Under each clause's hypotheses on the state and the operands alone, exec answers the next state
written: EVREC_CLEAR_ALL, EVREC_CLEAR_PINNED. -/
def Obligations.OnlyTheDeviceClearsTheLog : Prop :=
  (∀ (s : State) (w : Writer) (p : Bool) (t : State), s.Live → s.mayClear w = false →
    t = (s.badWrite Reg.evrecClear (2147483650 + (if p then 1 else 0))) →
    exec (.evrecClearAll w p true) s = .next t ∧
      t.recorder.slots = s.recorder.slots ∧
      s.SameHbm t ∧ t.comp = s.comp ∧ t.keep = s.keep ∧ t.strm = s.strm) ∧
  (∀ (s : State) (w : Writer) (p : Bool) (v : State) (t : State), s.Live → s.mayClear w = true →
    v = ((s.setRec { s.recorder with slots := s.recorder.slots.filter (fun e => decide (32768 ≤ e.1)), ring := 4096 }).put Fld.evrecStatus_wrapped 0).recShow →
    t = (v.writeRecord 0x0C04 0 0 0 (v.stepFor none) v.now (toLE 1 (if p && s.split then 3 else 2) ++ toLE 7 0 ++ toLE 8 (((s.held.filter (fun e => decide (e.1 < 32768))).map (fun e => e.2.seq)).foldl max 0)) []) →
    exec (.evrecClearAll w p true) s = .next t ∧
      s.SameHbm t ∧ t.comp = s.comp ∧ t.keep = s.keep ∧ t.strm = s.strm) ∧
  (∀ (s : State) (w : Writer) (v : State) (t : State), s.Live → s.mayClear w = true → s.split = true →
    v = ((s.setRec { s.recorder with slots := s.recorder.slots.filter (fun e => decide (4096 ≤ e.1)), ring := s.recorder.ring }).put Fld.evrecStatus_wrapped 0).recShow →
    t = v.writeRecord 0x0C04 0 0 0 (v.stepFor none) v.now (toLE 1 1 ++ toLE 7 0 ++ toLE 8 (((s.held.filter (fun e => decide (e.1 < 4096))).map (fun e => e.2.seq)).foldl max 0)) [] →
    exec (.evrecClearPinned w true) s = .next t ∧
      s.SameHbm t ∧ t.comp = s.comp ∧ t.keep = s.keep ∧ t.strm = s.strm) ∧
  (∀ (s : State) (w : Writer) (t : State), s.Live → s.mayClear w = true → s.split = false → t = s →
    exec (.evrecClearPinned w true) s = .next t ∧
      s.SameHbm t ∧ t.comp = s.comp ∧ t.keep = s.keep ∧ t.strm = s.strm) ∧
  (∀ (s : State) (w : Writer) (t : State), s.Live → s.mayClear w = false → t = s.badWrite Reg.evrecClear 0x80000001 →
    exec (.evrecClearPinned w true) s = .next t ∧
      t.recorder.slots = s.recorder.slots ∧
      s.SameHbm t ∧ t.comp = s.comp ∧ t.keep = s.keep ∧ t.strm = s.strm)

/-- A read returns its register or log word, clears only that register's RC fields, and an unassigned offset reads as zero.
Outside the log a read of a register returns what it holds, leaves its RC fields zero and every other register as it was,
and changes no register where it has none; an unassigned offset and an empty log slot read as zero; a held slot reads its
record's bytes. Log entry 42. Under each clause's hypotheses on the state and the operands alone, exec answers the next
state written: READ_CLEAR. -/
def Obligations.AReadReturnsAndClearsOnlyItsRegister : Prop :=
  (∀ (s : State) (off : BitVec 24) (t : State), s.Live → isLog off.toNat = false → regAt off.toNat = none → t = s.setReadData 0 →
    exec (.readClear off) s = .next t ∧
      s.SameHbm t ∧ t.comp = s.comp ∧ t.ctl = s.ctl ∧ t.fuses = s.fuses ∧ t.regs = s.regs) ∧
  (∀ (s : State) (off : BitVec 24) (r : RegRow) (t : State), s.Live → isLog off.toNat = false → regAt off.toNat = some r →
    r.base ≠ Reg.strmCtxWord 0 → off.toNat ≠ Reg.redGroupInfo → s.deadRead off.toNat = false →
    t = ((r.fields.foldl (fun u f => if f.acc == .rc then u.put ⟨off.toNat, f.lo, f.width⟩ 0 else u) s).setReadData (BitVec.ofNat 64 (s.rd off.toNat))) →
    exec (.readClear off) s = .next t ∧
      ((∀ f ∈ r.fields, f.acc = .rc → t.f ⟨off.toNat, f.lo, f.width⟩ = 0)) ∧
      ((∀ o, o ≠ off.toNat → t.rd o = s.rd o)) ∧
      (((∀ f ∈ r.fields, f.acc ≠ .rc) → t.regs = s.regs)) ∧
      s.SameHbm t ∧ t.comp = s.comp ∧ t.ctl = s.ctl ∧ t.fuses = s.fuses) ∧
  (∀ (s : State) (off : BitVec 24) (r : RegRow) (t : State), s.Live → isLog off.toNat = false → regAt off.toNat = some r →
    r.base ≠ Reg.strmCtxWord 0 → off.toNat ≠ Reg.redGroupInfo → s.deadRead off.toNat = true →
    t = s.setReadData (BitVec.ofNat 64 (regDefault off.toNat)) →
    exec (.readClear off) s = .next t ∧
      s.SameHbm t ∧ t.comp = s.comp ∧ t.ctl = s.ctl ∧ t.fuses = s.fuses ∧ t.regs = s.regs) ∧
  (∀ (s : State) (off : BitVec 24) (k j : Nat) (t : State), s.Live → isLog off.toNat = true → k = (off.toNat - 0x400000) / 64 →
    j = (off.toNat - 0x400000) / 8 % 8 → s.recSlot k = none → t = s.setReadData 0 →
    exec (.readClear off) s = .next t ∧
      s.SameHbm t ∧ t.comp = s.comp ∧ t.ctl = s.ctl ∧ t.fuses = s.fuses ∧ t.regs = s.regs) ∧
  (∀ (s : State) (off : BitVec 24) (k j : Nat) (r : EvRec) (t : State), s.Live → isLog off.toNat = true →
    k = (off.toNat - 0x400000) / 64 → j = (off.toNat - 0x400000) / 8 % 8 → s.recSlot k = some r → r.sramBad = false →
    t = s.setReadData (BitVec.ofNat 64 (fieldLE r.toBytes (8 * j) 8)) →
    exec (.readClear off) s = .next t ∧
      s.SameHbm t ∧ t.comp = s.comp ∧ t.ctl = s.ctl ∧ t.fuses = s.fuses ∧ t.regs = s.regs)

/-- A register write with no row of its own changes its fields by their access codes, or nothing but the event that refuses it.
For every register family that has no row of its own, a write its scope and encodings permit changes that register by its
fields' access codes and nothing else; any other write is ignored with an event; tail, counter, head and delta writes are
their rows; a write of no register is ignored with an event and a read of it is zero. Log entry 42. Under each clause's
hypotheses on the state and the operands alone, exec answers the next state written: REGISTER_WRITE,
UNASSIGNED_OFFSET_ACCESS. -/
def Obligations.ARegisterWriteGoesByScopeAndAccessCode : Prop :=
  (∀ (s : State) (w : Writer) (off : BitVec 24) (v : Word64) (t : State), s.Live → regAt off.toNat = none →
    isLog off.toNat = false → t = s.badWrite off.toNat v.toNat →
    exec (.registerWrite w off v) s = .next t) ∧
  (∀ (s : State) (w : Writer) (off : BitVec 24) (v : Word64) (r : RegRow) (x : Nat) (t : State), s.Live →
    regAt off.toNat = some r → r.base ∉ rowRegs → x = v.toNat % 2 ^ r.width → s.Accepts w off.toNat x →
    t = s.writeFields off.toNat x →
    exec (.registerWrite w off v) s = .next t ∧
      ((∀ o, o ≠ off.toNat → t.rd o = s.rd o)) ∧
      t = { s with regs := t.regs }) ∧
  (∀ (s : State) (w : Writer) (off : BitVec 24) (v : Word64) (r : RegRow) (x : Nat) (t : State), s.Live →
    regAt off.toNat = some r → r.base ∉ rowRegs → x = v.toNat % 2 ^ r.width → ¬ s.Accepts w off.toNat x →
    t = s.badWrite off.toNat x →
    exec (.registerWrite w off v) s = .next t ∧
      ((∀ o, o ≠ Reg.evrecLost → t.rd o = s.rd o))) ∧
  (∀ (s : State) (w : Writer) (off : BitVec 24) (v : Word64) (r : RegRow) (t : State), s.Live → regAt off.toNat = some r →
    r.base = Reg.wqTail 0 → off.toNat < 0x30000 → t = wqTailWrite w (r.index off.toNat) (v.toNat % 2 ^ r.width) s →
    exec (.registerWrite w off v) s = .next t) ∧
  (∀ (s : State) (w : Writer) (off : BitVec 24) (v : Word64) (r : RegRow) (t : State), s.Live → regAt off.toNat = some r →
    r.base = Reg.depctr 0 → off.toNat < 0x30000 → t = depctrWrite w (r.index off.toNat) (v.toNat % 2 ^ r.width) s →
    exec (.registerWrite w off v) s = .next t) ∧
  (∀ (s : State) (w : Writer) (off : BitVec 24) (v : Word64) (r : RegRow) (t : State), s.Live → regAt off.toNat = some r →
    r.base = Reg.cqHead 0 → off.toNat < 0x30000 → t = cqHeadWrite w (r.index off.toNat) (v.toNat % 2 ^ r.width) s →
    exec (.registerWrite w off v) s = .next t) ∧
  (∀ (s : State) (w : Writer) (off : BitVec 24) (v : Word64) (r : RegRow) (t : State), s.Live → regAt off.toNat = some r →
    r.base = Reg.bootDeltaGo → 0xF0000 ≤ off.toNat → t = bootDeltaGo w (testBit (v.toNat % 2 ^ r.width) 31) s →
    exec (.registerWrite w off v) s = .next t) ∧
  (∀ (s : State) (off : BitVec 24) (v : Word64) (t : State), s.Live → regAt off.toNat = none → isLog off.toNat = false →
    t = s.badWrite off.toNat v.toNat →
    exec (.unassignedAccess off (some v)) s = .next t ∧
      s.SameHbm t) ∧
  (∀ (s : State) (off : BitVec 24) (t : State), s.Live → regAt off.toNat = none → isLog off.toNat = false → t = s.setReadData 0 →
    exec (.unassignedAccess off none) s = .next t ∧
      s.SameHbm t ∧ t.regs = s.regs ∧ t.recorder = s.recorder)
end

