-- ==== Sys2Proof/Laws/Access.lean ====
section
/-!
SUPPORT. The gate of reset and the guard of a register write, once each.
-/
namespace Sys2Proof.Machine

theorem State.unlessReset_live {s : State} (f : State → State) (h : s.Live) : State.unlessReset s f = .next (f s) := by
  unfold State.unlessReset
  rw [h]
  rfl

theorem State.unlessReset_held {s : State} (f : State → State) (h : s.pins.inReset = true) : State.unlessReset s f = .next s := by
  unfold State.unlessReset
  rw [h]
  rfl

/-- A gated command always answers a next state. -/
theorem State.unlessReset_next (s : State) (f : State → State) : ∃ t, State.unlessReset s f = .next t ∧ (t = s ∨ t = f s) := by
  unfold State.unlessReset
  split
  · exact ⟨_, rfl, .inl rfl⟩
  · exact ⟨_, rfl, .inr rfl⟩

theorem State.regWrite_ok {s : State} {w : Writer} {off v : Nat} (f : State → State) (h : s.Accepts w off v) :
    s.regWrite w off v f = f s := by
  unfold State.regWrite
  exact if_pos h

theorem State.regWrite_refused {s : State} {w : Writer} {off v : Nat} (f : State → State) (h : ¬ s.Accepts w off v) :
    s.regWrite w off v f = s.badWrite off v := by
  unfold State.regWrite
  exact if_neg h

/-- An accepted register write out of reset does what the register does with it. -/
theorem State.unlessReset_regWrite {s : State} {w : Writer} {off v : Nat} {f : State → State} (hl : s.Live) (h : s.Accepts w off v) :
    State.unlessReset s (fun s => s.regWrite w off v f) = .next (f s) :=
  (State.unlessReset_live _ hl).trans (congrArg _ (State.regWrite_ok f h))

/-- A write that any writer of a shared register may make. -/
theorem State.unlessReset_shared {s : State} {w : Writer} {f g : State → State} (hl : s.Live) (h : s.mayWriteS w = true) :
    State.unlessReset s (fun s => if s.mayWriteS w then f s else g s) = .next (f s) :=
  (State.unlessReset_live _ hl).trans (congrArg _ (if_pos h))

end Sys2Proof.Machine
end

