-- ==== Sys2Proof/Laws/Sparse.lean ====
section
/-!
SUPPORT. Laws of the sparse stores: a read after a write, and that every write keeps the canonical form.
-/
namespace Sys2Proof.Machine

variable {α : Type}

theorem Sparse.get_erase_ne (d : Nat → α) (m : List (Nat × α)) {k j : Nat} (h : j ≠ k) :
    Sparse.get d (Sparse.erase m k) j = Sparse.get d m j := by
  induction m with
  | nil => rfl
  | cons e m ih =>
    by_cases hk : e.1 = k
    · simp only [Sparse.erase, Sparse.get, hk, if_true, ih, if_neg (Ne.symm h)]
    · simp [Sparse.erase, Sparse.get, hk, ih]

theorem Sparse.get_erase_self (d : Nat → α) (m : List (Nat × α)) (k : Nat) :
    Sparse.get d (Sparse.erase m k) k = d k := by
  induction m with
  | nil => rfl
  | cons e m ih => by_cases hk : e.1 = k <;> simp [Sparse.erase, Sparse.get, hk, ih]

theorem Sparse.mem_erase {m : List (Nat × α)} {k : Nat} {e : Nat × α} :
    e ∈ Sparse.erase m k ↔ e ∈ m ∧ e.1 ≠ k := by
  induction m with
  | nil => simp [Sparse.erase]
  | cons f m ih =>
    by_cases hk : f.1 = k
    · simp only [Sparse.erase, hk, if_true, ih, List.mem_cons]
      constructor
      · rintro ⟨h, h'⟩; exact ⟨.inr h, h'⟩
      · rintro ⟨h | h, h'⟩
        · exact absurd (h ▸ hk) h'
        · exact ⟨h, h'⟩
    · simp only [Sparse.erase, hk, if_false, List.mem_cons, ih]
      constructor
      · rintro (h | ⟨h, h'⟩)
        · exact ⟨.inl h, h ▸ hk⟩
        · exact ⟨.inr h, h'⟩
      · rintro ⟨h | h, h'⟩
        · exact .inl h
        · exact .inr ⟨h, h'⟩

theorem Sparse.mem_insert {m : List (Nat × α)} {k : Nat} {v : α} {e : Nat × α} :
    e ∈ Sparse.insert m k v ↔ e = (k, v) ∨ e ∈ m := by
  induction m with
  | nil => simp [Sparse.insert]
  | cons f m ih =>
    by_cases hk : k < f.1
    · simp [Sparse.insert, hk]
    · simp only [Sparse.insert, hk, if_false, List.mem_cons, ih]; tauto

theorem Sparse.erase_sorted {m : List (Nat × α)} (k : Nat) (h : (m.map Prod.fst).Pairwise (· < ·)) :
    ((Sparse.erase m k).map Prod.fst).Pairwise (· < ·) := by
  induction m with
  | nil => exact h
  | cons e m ih =>
    simp only [List.map_cons, List.pairwise_cons] at h
    by_cases hk : e.1 = k
    · simpa [Sparse.erase, hk] using ih h.2
    · simp only [Sparse.erase, hk, if_false, List.map_cons, List.pairwise_cons]
      refine ⟨fun x hx => ?_, ih h.2⟩
      obtain ⟨f, hf, rfl⟩ := List.mem_map.1 hx
      exact h.1 _ (List.mem_map.2 ⟨f, (Sparse.mem_erase.1 hf).1, rfl⟩)

theorem Sparse.insert_sorted {m : List (Nat × α)} {k : Nat} (v : α) (h : (m.map Prod.fst).Pairwise (· < ·))
    (hk : ∀ e ∈ m, e.1 ≠ k) : ((Sparse.insert m k v).map Prod.fst).Pairwise (· < ·) := by
  induction m with
  | nil => simp [Sparse.insert]
  | cons e m ih =>
    simp only [List.map_cons, List.pairwise_cons] at h
    by_cases hlt : k < e.1
    · simp only [Sparse.insert, hlt, if_true, List.map_cons, List.pairwise_cons, List.mem_cons]
      refine ⟨?_, h.1, h.2⟩
      rintro x (rfl | hx)
      · exact hlt
      · exact Nat.lt_trans hlt (h.1 x hx)
    · simp only [Sparse.insert, hlt, if_false, List.map_cons, List.pairwise_cons]
      refine ⟨fun x hx => ?_, ih h.2 fun f hf => hk f (.tail _ hf)⟩
      obtain ⟨f, hf, rfl⟩ := List.mem_map.1 hx
      rcases Sparse.mem_insert.1 hf with rfl | hf
      · have := hk e (.head _); simp only; omega
      · exact h.1 _ (List.mem_map.2 ⟨f, hf, rfl⟩)

/-- A write keeps the canonical form. -/
theorem Sparse.wf_put [DecidableEq α] {d : Nat → α} {m : List (Nat × α)} (k : Nat) (v : α) (h : Sparse.wf d m) :
    Sparse.wf d (Sparse.put d m k v) := by
  have he := Sparse.erase_sorted k h.1
  by_cases hv : v = d k
  · simp only [Sparse.put, hv, if_true]
    exact ⟨he, fun e hm => h.2 e (Sparse.mem_erase.1 hm).1⟩
  · simp only [Sparse.put, hv, if_false]
    refine ⟨Sparse.insert_sorted v he fun e hm => (Sparse.mem_erase.1 hm).2, fun e hm => ?_⟩
    rcases Sparse.mem_insert.1 hm with rfl | hm
    · exact hv
    · exact h.2 e (Sparse.mem_erase.1 hm).1

theorem Sparse.get_insert_self (d : Nat → α) {m : List (Nat × α)} {k : Nat} (v : α) (hk : ∀ e ∈ m, e.1 ≠ k) :
    Sparse.get d (Sparse.insert m k v) k = v := by
  induction m with
  | nil => simp [Sparse.insert, Sparse.get]
  | cons e m ih =>
    by_cases hlt : k < e.1
    · simp [Sparse.insert, Sparse.get, hlt]
    · simp [Sparse.insert, Sparse.get, hlt, hk e (.head _), ih fun f hf => hk f (.tail _ hf)]

theorem Sparse.get_insert_ne (d : Nat → α) (m : List (Nat × α)) {k j : Nat} (v : α) (h : j ≠ k) :
    Sparse.get d (Sparse.insert m k v) j = Sparse.get d m j := by
  induction m with
  | nil => simp [Sparse.insert, Sparse.get, h.symm]
  | cons e m ih => by_cases hlt : k < e.1 <;> simp [Sparse.insert, Sparse.get, hlt, ih, h.symm]

/-- A read after a write of the same key gives the value written. -/
@[simp] theorem Sparse.get_put_self [DecidableEq α] (d : Nat → α) (m : List (Nat × α)) (k : Nat) (v : α) :
    Sparse.get d (Sparse.put d m k v) k = v := by
  by_cases hv : v = d k
  · simp [Sparse.put, hv, Sparse.get_erase_self]
  · simp only [Sparse.put, hv, if_false]
    exact Sparse.get_insert_self d v fun e he => (Sparse.mem_erase.1 he).2

/-- A write leaves every other key alone. -/
theorem Sparse.get_put_ne [DecidableEq α] (d : Nat → α) (m : List (Nat × α)) {k j : Nat} (v : α) (h : j ≠ k) :
    Sparse.get d (Sparse.put d m k v) j = Sparse.get d m j := by
  by_cases hv : v = d k
  · simp [Sparse.put, hv, Sparse.get_erase_ne d m h]
  · simp [Sparse.put, hv, Sparse.get_insert_ne d _ v h, Sparse.get_erase_ne d m h]

/-- A read after a write, in one equation. -/
theorem Sparse.get_put [DecidableEq α] (d : Nat → α) (m : List (Nat × α)) (k j : Nat) (v : α) :
    Sparse.get d (Sparse.put d m k v) j = if j = k then v else Sparse.get d m j := by
  by_cases h : j = k
  · subst h; simp
  · simp [h, Sparse.get_put_ne d m v h]

/-- Dropping entries keeps the canonical form. -/
theorem Sparse.wf_filter [DecidableEq α] {d : Nat → α} {m : List (Nat × α)} (q : Nat × α → Bool) (h : Sparse.wf d m) :
    Sparse.wf d (m.filter q) :=
  ⟨h.1.sublist ((List.filter_sublist (p := q)).map Prod.fst), fun e he => h.2 e (List.mem_of_mem_filter he)⟩

/-- A run of writes keeps the canonical form. -/
theorem Sparse.wf_foldl_put [DecidableEq α] {β : Type} {d : Nat → α} (key : β → Nat) (val : β → α) (l : List β)
    {m : List (Nat × α)} (h : Sparse.wf d m) : Sparse.wf d (l.foldl (fun m e => Sparse.put d m (key e) (val e)) m) := by
  induction l generalizing m with
  | nil => exact h
  | cons x xs ih => exact ih (Sparse.wf_put _ _ h)

theorem Sparse.wf_nil [DecidableEq α] (d : Nat → α) : Sparse.wf d [] := by simp [Sparse.wf]

end Sys2Proof.Machine
end

