-- ==== Sys2Proof/Laws/Ext.lean ====
section
/-!
SUPPORT. What a state change can do, said once: Ext M a b says which components may differ between a and b (the bits of M),
that the queue does not, that the canonical forms survive, and that what is blown or latched stays so.  One lemma per
operation, f_ext, says it of that operation.
-/
namespace Sys2Proof.Machine

/-- Bits of the masks: one per component of State, and bit 22, the release of THERMTRIP_N. -/
structure Ext (M : Nat) (a b : State) : Prop where
  pending : b.pending = a.pending
  now : M.testBit 0 = false → b.now = a.now
  fresh : M.testBit 1 = false → b.fresh = a.fresh
  regs : M.testBit 2 = false → b.regs = a.regs
  readData : M.testBit 3 = false → b.readData = a.readData
  mem : M.testBit 4 = false → b.mem = a.mem
  poison : M.testBit 5 = false → b.poison = a.poison
  ctl : M.testBit 6 = false → b.ctl = a.ctl
  recorder : M.testBit 7 = false → b.recorder = a.recorder
  hp : M.testBit 8 = false → b.hp = a.hp
  fuses : M.testBit 9 = false → b.fuses = a.fuses
  boot : M.testBit 10 = false → b.boot = a.boot
  sec : M.testBit 11 = false → b.sec = a.sec
  strm : M.testBit 12 = false → b.strm = a.strm
  hsm : M.testBit 13 = false → b.hsm = a.hsm
  comp : M.testBit 14 = false → b.comp = a.comp
  health : M.testBit 15 = false → b.health = a.health
  links : M.testBit 16 = false → b.links = a.links
  red : M.testBit 17 = false → b.red = a.red
  snap : M.testBit 18 = false → b.snap = a.snap
  power : M.testBit 19 = false → b.power = a.power
  keep : M.testBit 20 = false → b.keep = a.keep
  pins : M.testBit 21 = false → b.pins = a.pins
  trip : M.testBit 22 = false → a.power.tripWire = true → b.power.tripWire = true
  regsWf : Sparse.wf regD a.regs → Sparse.wf regD b.regs
  memWf : Sparse.wf memD a.mem → Sparse.wf memD b.mem
  poisonWf : Sparse.wf poisonD a.poison → Sparse.wf poisonD b.poison
  svn : a.fuses.svn ≤ b.fuses.svn
  revoked : ∀ k, testBit a.fuses.ownerRevoked k = true → testBit b.fuses.ownerRevoked k = true

theorem Ext.refl (M : Nat) (a : State) : Ext M a a := by
  constructor <;> first | rfl | exact fun _ => rfl | exact fun _ h => h | exact id

theorem Ext.trans {M : Nat} {a b c : State} (h : Ext M a b) (g : Ext M b c) : Ext M a c where
  pending := g.pending.trans h.pending
  now m := (g.now m).trans (h.now m)
  fresh m := (g.fresh m).trans (h.fresh m)
  regs m := (g.regs m).trans (h.regs m)
  readData m := (g.readData m).trans (h.readData m)
  mem m := (g.mem m).trans (h.mem m)
  poison m := (g.poison m).trans (h.poison m)
  ctl m := (g.ctl m).trans (h.ctl m)
  recorder m := (g.recorder m).trans (h.recorder m)
  hp m := (g.hp m).trans (h.hp m)
  fuses m := (g.fuses m).trans (h.fuses m)
  boot m := (g.boot m).trans (h.boot m)
  sec m := (g.sec m).trans (h.sec m)
  strm m := (g.strm m).trans (h.strm m)
  hsm m := (g.hsm m).trans (h.hsm m)
  comp m := (g.comp m).trans (h.comp m)
  health m := (g.health m).trans (h.health m)
  links m := (g.links m).trans (h.links m)
  red m := (g.red m).trans (h.red m)
  snap m := (g.snap m).trans (h.snap m)
  power m := (g.power m).trans (h.power m)
  keep m := (g.keep m).trans (h.keep m)
  pins m := (g.pins m).trans (h.pins m)
  trip m := fun t => g.trip m (h.trip m t)
  regsWf w := g.regsWf (h.regsWf w)
  memWf w := g.memWf (h.memWf w)
  poisonWf w := g.poisonWf (h.poisonWf w)
  svn := Nat.le_trans h.svn g.svn
  revoked k w := g.revoked k (h.revoked k w)

/-- Every component of m is one of M. -/
abbrev Within (m M : Nat) : Prop := m &&& M = m

theorem Within.trans {m n M : Nat} (h : Within m n) (g : Within n M) : Within m M := by
  unfold Within at *
  rw [← h, Nat.and_assoc, g]

theorem Within.bit {m M k : Nat} (h : Within m M) (hk : M.testBit k = false) : m.testBit k = false := by
  have := congrArg (fun x => x.testBit k) h
  simp [Nat.testBit_and, hk] at this
  simpa using this

theorem Ext.mono {m M : Nat} {a b : State} (g : Ext m a b) (h : Within m M) : Ext M a b where
  pending := g.pending
  now k := g.now (h.bit k)
  fresh k := g.fresh (h.bit k)
  regs k := g.regs (h.bit k)
  readData k := g.readData (h.bit k)
  mem k := g.mem (h.bit k)
  poison k := g.poison (h.bit k)
  ctl k := g.ctl (h.bit k)
  recorder k := g.recorder (h.bit k)
  hp k := g.hp (h.bit k)
  fuses k := g.fuses (h.bit k)
  boot k := g.boot (h.bit k)
  sec k := g.sec (h.bit k)
  strm k := g.strm (h.bit k)
  hsm k := g.hsm (h.bit k)
  comp k := g.comp (h.bit k)
  health k := g.health (h.bit k)
  links k := g.links (h.bit k)
  red k := g.red (h.bit k)
  snap k := g.snap (h.bit k)
  power k := g.power (h.bit k)
  keep k := g.keep (h.bit k)
  pins k := g.pins (h.bit k)
  trip k := g.trip (h.bit k)
  regsWf := g.regsWf
  memWf := g.memWf
  poisonWf := g.poisonWf
  svn := g.svn
  revoked := g.revoked

/-- One more operation after what is already known. -/
theorem Ext.step {m M : Nat} {a b c : State} (g : Ext m b c) (hm : Within m M) (h : Ext M a b) : Ext M a c :=
  h.trans (g.mono hm)

theorem Ext.via {m M : Nat} {a b c : State} (hm : Within m M) (h : Ext M a b) (g : Ext m b c) : Ext M a c := h.trans (g.mono hm)

/-- A record update of components in M, in a state b already known: of all but the stores, the fuses and the queue. -/
theorem Ext.upd {M : Nat} {a b : State} {now : Nat} {fresh : Nat} {readData : Word64} {ctl : Ctl} {recorder : Recorder} {hp : Hp} {boot : Boot} {sec : Sec} {strm : Strm} {hsm : Hsm} {comp : Compute} {health : Health} {links : Links} {red : Red} {snap : Snap} {power : Power} {keep : Keep} {pins : Pins}
    (h : Ext M a b)
    (h_now : M.testBit 0 = false → now = b.now)
    (h_fresh : M.testBit 1 = false → fresh = b.fresh)
    (h_readData : M.testBit 3 = false → readData = b.readData)
    (h_ctl : M.testBit 6 = false → ctl = b.ctl)
    (h_recorder : M.testBit 7 = false → recorder = b.recorder)
    (h_hp : M.testBit 8 = false → hp = b.hp)
    (h_boot : M.testBit 10 = false → boot = b.boot)
    (h_sec : M.testBit 11 = false → sec = b.sec)
    (h_strm : M.testBit 12 = false → strm = b.strm)
    (h_hsm : M.testBit 13 = false → hsm = b.hsm)
    (h_comp : M.testBit 14 = false → comp = b.comp)
    (h_health : M.testBit 15 = false → health = b.health)
    (h_links : M.testBit 16 = false → links = b.links)
    (h_red : M.testBit 17 = false → red = b.red)
    (h_snap : M.testBit 18 = false → snap = b.snap)
    (h_power : M.testBit 19 = false → power = b.power)
    (h_keep : M.testBit 20 = false → keep = b.keep)
    (h_pins : M.testBit 21 = false → pins = b.pins)
    (h_trip : power.tripWire = b.power.tripWire) :
    Ext M a (State.mk b.pending now fresh b.regs readData b.mem b.poison ctl recorder hp b.fuses boot sec strm hsm comp health
      links red snap power keep pins) :=
  h.trans
    { pending := rfl, regs := fun _ => rfl, mem := fun _ => rfl, poison := fun _ => rfl, fuses := fun _ => rfl,
      now := h_now, fresh := h_fresh, readData := h_readData, ctl := h_ctl, recorder := h_recorder, hp := h_hp, boot := h_boot, sec := h_sec, strm := h_strm, hsm := h_hsm, comp := h_comp, health := h_health, links := h_links, red := h_red, snap := h_snap, power := h_power, keep := h_keep, pins := h_pins,
      trip := fun _ t => h_trip ▸ t, regsWf := id, memWf := id, poisonWf := id, svn := Nat.le_refl _, revoked := fun _ t => t }

/-- A rewrite of HBM and of the poison marks that keeps their canonical forms. -/
theorem Ext.stores {M : Nat} {a s : State} {m : List (Nat × Byte)} {p : List (Nat × Bool)} (h : Ext M a s) (hm : M.testBit 4 = true)
    (hp : M.testBit 5 = true) (wm : Sparse.wf memD s.mem → Sparse.wf memD m)
    (wp : Sparse.wf poisonD s.poison → Sparse.wf poisonD p) : Ext M a { s with mem := m, poison := p } :=
  h.trans
    { pending := rfl, now := fun _ => rfl, fresh := fun _ => rfl, regs := fun _ => rfl, readData := fun _ => rfl,
      mem := fun k => by simp [hm] at k, poison := fun k => by simp [hp] at k, ctl := fun _ => rfl, recorder := fun _ => rfl,
      hp := fun _ => rfl, fuses := fun _ => rfl, boot := fun _ => rfl, sec := fun _ => rfl, strm := fun _ => rfl,
      hsm := fun _ => rfl, comp := fun _ => rfl, health := fun _ => rfl, links := fun _ => rfl, red := fun _ => rfl,
      snap := fun _ => rfl, power := fun _ => rfl, keep := fun _ => rfl, pins := fun _ => rfl, trip := fun _ t => t,
      regsWf := id, memWf := wm, poisonWf := wp, svn := Nat.le_refl _, revoked := fun _ t => t }

/-- A change of the poison marks alone. -/
theorem Ext.marks {M : Nat} {a s : State} {p : List (Nat × Bool)} (h : Ext M a s) (hp : M.testBit 5 = true)
    (wp : Sparse.wf poisonD s.poison → Sparse.wf poisonD p) : Ext M a { s with poison := p } :=
  h.trans
    { pending := rfl, now := fun _ => rfl, fresh := fun _ => rfl, regs := fun _ => rfl, readData := fun _ => rfl,
      mem := fun _ => rfl, poison := fun k => by simp [hp] at k, ctl := fun _ => rfl, recorder := fun _ => rfl,
      hp := fun _ => rfl, fuses := fun _ => rfl, boot := fun _ => rfl, sec := fun _ => rfl, strm := fun _ => rfl,
      hsm := fun _ => rfl, comp := fun _ => rfl, health := fun _ => rfl, links := fun _ => rfl, red := fun _ => rfl,
      snap := fun _ => rfl, power := fun _ => rfl, keep := fun _ => rfl, pins := fun _ => rfl, trip := fun _ t => t,
      regsWf := id, memWf := id, poisonWf := wp, svn := Nat.le_refl _, revoked := fun _ t => t }

/-- A change of the fuses that only blows them. -/
theorem Ext.blown {M : Nat} {a s : State} {f : Fuses} (h : Ext M a s) (hf : M.testBit 9 = true) (hs : s.fuses.svn ≤ f.svn)
    (hr : ∀ k, testBit s.fuses.ownerRevoked k = true → testBit f.ownerRevoked k = true) : Ext M a { s with fuses := f } :=
  h.trans
    { pending := rfl, now := fun _ => rfl, fresh := fun _ => rfl, regs := fun _ => rfl, readData := fun _ => rfl,
      mem := fun _ => rfl, poison := fun _ => rfl, ctl := fun _ => rfl, recorder := fun _ => rfl,
      hp := fun _ => rfl, fuses := fun k => by simp [hf] at k, boot := fun _ => rfl, sec := fun _ => rfl, strm := fun _ => rfl,
      hsm := fun _ => rfl, comp := fun _ => rfl, health := fun _ => rfl, links := fun _ => rfl, red := fun _ => rfl,
      snap := fun _ => rfl, power := fun _ => rfl, keep := fun _ => rfl, pins := fun _ => rfl, trip := fun _ t => t,
      regsWf := id, memWf := id, poisonWf := id, svn := hs, revoked := hr }

/-- Take what is known of an intermediate state into the context. -/
theorem Ext.cut {M : Nat} {a b : State} {P : Prop} (h : Ext M a b) (g : Ext M a b → P) : P := g h

/-- Likewise of a local function of states. -/
theorem Ext.cutF {M : Nat} {a : State} {F : State → State} {P : Prop} (h : ∀ t, Ext M a t → Ext M a (F t))
    (g : (∀ t, Ext M a t → Ext M a (F t)) → P) : P := g h

theorem Ext.cutG {α : Type} {M : Nat} {a : State} {F : State → α → State} {P : Prop} (h : ∀ t x, Ext M a t → Ext M a (F t x))
    (g : (∀ t x, Ext M a t → Ext M a (F t x)) → P) : P := g h

theorem Ext.cutH {α β : Type} {M : Nat} {a : State} {F : State → α → β → State} {P : Prop}
    (h : ∀ t x y, Ext M a t → Ext M a (F t x y)) (g : (∀ t x y, Ext M a t → Ext M a (F t x y)) → P) : P := g h

/-- What is known of a state that a partial operation answers. -/
def OptExt (M : Nat) (a : State) (o : Option State) : Prop := ∀ u, o = some u → Ext M a u

theorem OptExt.via {m M : Nat} {a b : State} {o : Option State} (hm : Within m M) (h : Ext M a b) (g : OptExt m b o) :
    OptExt M a o := fun u hu => Ext.via hm h (g u hu)

theorem OptExt.out {M : Nat} {a u : State} {o : Option State} (h : OptExt M a o) (hu : o = some u) : Ext M a u := h u hu

theorem OptExt.none {M : Nat} {a : State} : OptExt M a none := fun _ h => by cases h

theorem OptExt.some {M : Nat} {a t : State} (h : Ext M a t) : OptExt M a (some t) := fun u hu => by cases hu; exact h

theorem OptExt.bind {M : Nat} {a : State} {o : Option State} {f : State → Option State} (h : OptExt M a o)
    (hf : ∀ u, Ext M a u → OptExt M a (f u)) : OptExt M a (o.bind f) := fun u hu => by
  cases o with
  | none => cases hu
  | some x => exact hf x (h x rfl) u hu

theorem OptExt.map {M : Nat} {a : State} {o : Option State} {f : State → State} (h : OptExt M a o)
    (hf : ∀ u, Ext M a u → Ext M a (f u)) : OptExt M a (o.map f) := fun u hu => by
  cases o with
  | none => cases hu
  | some x => exact OptExt.some (hf x (h x rfl)) u hu

theorem Ext.ite {M : Nat} {a x y : State} {c : Prop} [Decidable c] (hx : Ext M a x) (hy : Ext M a y) :
    Ext M a (if c then x else y) := by split <;> assumption

theorem Ext.foldl {α : Type} {M : Nat} {a : State} {f : State → α → State} (l : List α) {s : State}
    (hf : ∀ t x, Ext M a t → Ext M a (f t x)) (h : Ext M a s) : Ext M a (l.foldl f s) := by
  induction l generalizing s with
  | nil => exact h
  | cons x xs ih => exact ih (hf s x h)

theorem Ext.foldl_fst {α β : Type} {M : Nat} {a : State} {f : State × β → α → State × β} (l : List α) {s : State × β}
    (hf : ∀ t x, Ext M a t.1 → Ext M a (f t x).1) (h : Ext M a s.1) : Ext M a (l.foldl f s).1 := by
  induction l generalizing s with
  | nil => exact h
  | cons x xs ih => exact ih (hf s x h)

end Sys2Proof.Machine
end

