-- ==== Sys2Proof/Laws/ExtOps.lean ====
section
/-!
SUPPORT. What each operation of Machine/Ops.lean can change: one lemma each.
-/
namespace Sys2Proof.Machine

theorem State.wr_ext {s : State} {off v : Nat} {M₀ : Nat} {a₀ : State} (hM : Within 4 M₀) (h₀ : Ext M₀ a₀ s) : Ext M₀ a₀ (State.wr s off v) := by
  refine Ext.via hM h₀ ?_
  constructor <;> first | rfl | exact fun _ => rfl | exact fun h => absurd h (by decide) | exact fun _ h => h | exact id | exact Nat.le_refl _ | exact Sparse.wf_put _ _

theorem State.put_ext {s : State} {r : FieldRef} {v : Nat} {M₀ : Nat} {a₀ : State} (hM : Within 4 M₀) (h₀ : Ext M₀ a₀ s) :
    Ext M₀ a₀ (State.put s r v) := by
  refine Ext.via hM h₀ ?_
  clear hM h₀ M₀ a₀
  suffices H : ∀ a₀, Ext 4 a₀ s → Ext 4 a₀ (State.put s r v) from H s (Ext.refl _ _)
  intro a₀ h₀
  unfold State.put
  repeat' first
    | with_reducible assumption
    | (with_reducible intro _; intros; try beta_reduce)
    | with_reducible refine State.wr_ext (by decide) ?_
    | split

theorem State.putB_ext {s : State} {r : FieldRef} {b : Bool} {M₀ : Nat} {a₀ : State} (hM : Within 4 M₀) (h₀ : Ext M₀ a₀ s) :
    Ext M₀ a₀ (State.putB s r b) := by
  refine Ext.via hM h₀ ?_
  clear hM h₀ M₀ a₀
  suffices H : ∀ a₀, Ext 4 a₀ s → Ext 4 a₀ (State.putB s r b) from H s (Ext.refl _ _)
  intro a₀ h₀
  unfold State.putB
  repeat' first
    | with_reducible assumption
    | (with_reducible intro _; intros; try beta_reduce)
    | with_reducible refine State.put_ext (by decide) ?_
    | split

theorem State.bumpSat_ext {s : State} {r : FieldRef} {k : Nat} {M₀ : Nat} {a₀ : State} (hM : Within 4 M₀) (h₀ : Ext M₀ a₀ s) :
    Ext M₀ a₀ (State.bumpSat s r k) := by
  refine Ext.via hM h₀ ?_
  clear hM h₀ M₀ a₀
  suffices H : ∀ a₀, Ext 4 a₀ s → Ext 4 a₀ (State.bumpSat s r k) from H s (Ext.refl _ _)
  intro a₀ h₀
  unfold State.bumpSat
  repeat' first
    | with_reducible assumption
    | (with_reducible intro _; intros; try beta_reduce)
    | with_reducible refine State.put_ext (by decide) ?_
    | split

theorem State.bump_ext {s : State} {r : FieldRef} {k : Nat} {M₀ : Nat} {a₀ : State} (hM : Within 4 M₀) (h₀ : Ext M₀ a₀ s) :
    Ext M₀ a₀ (State.bump s r k) := by
  refine Ext.via hM h₀ ?_
  clear hM h₀ M₀ a₀
  suffices H : ∀ a₀, Ext 4 a₀ s → Ext 4 a₀ (State.bump s r k) from H s (Ext.refl _ _)
  intro a₀ h₀
  unfold State.bump
  repeat' first
    | with_reducible assumption
    | (with_reducible intro _; intros; try beta_reduce)
    | with_reducible refine State.put_ext (by decide) ?_
    | split

theorem State.setNow_ext {s : State} {n : Nat} {M₀ : Nat} {a₀ : State} (hM : Within 1 M₀) (h₀ : Ext M₀ a₀ s) :
    Ext M₀ a₀ (State.setNow s n) := by
  refine Ext.via hM h₀ ?_
  clear hM h₀ M₀ a₀
  suffices H : ∀ a₀, Ext 1 a₀ s → Ext 1 a₀ (State.setNow s n) from H s (Ext.refl _ _)
  intro a₀ h₀
  unfold State.setNow
  repeat' first
    | with_reducible assumption
    | (with_reducible intro _; intros; try beta_reduce)
    | split
    | (refine Ext.upd ?_ ?_ ?_ ?_ ?_ ?_ ?_ ?_ ?_ ?_ ?_ ?_ ?_ ?_ ?_ ?_ ?_ ?_ ?_ ?_ <;> first | rfl | exact fun _ => rfl | exact fun h => absurd h (by decide) | skip)

theorem State.setPins_ext {s : State} {x : Pins} {M₀ : Nat} {a₀ : State} (hM : Within 2097152 M₀) (h₀ : Ext M₀ a₀ s) :
    Ext M₀ a₀ (State.setPins s x) := by
  refine Ext.via hM h₀ ?_
  clear hM h₀ M₀ a₀
  suffices H : ∀ a₀, Ext 2097152 a₀ s → Ext 2097152 a₀ (State.setPins s x) from H s (Ext.refl _ _)
  intro a₀ h₀
  unfold State.setPins
  repeat' first
    | with_reducible assumption
    | (with_reducible intro _; intros; try beta_reduce)
    | split
    | (refine Ext.upd ?_ ?_ ?_ ?_ ?_ ?_ ?_ ?_ ?_ ?_ ?_ ?_ ?_ ?_ ?_ ?_ ?_ ?_ ?_ ?_ <;> first | rfl | exact fun _ => rfl | exact fun h => absurd h (by decide) | skip)

theorem State.setHp_ext {s : State} {x : Hp} {M₀ : Nat} {a₀ : State} (hM : Within 256 M₀) (h₀ : Ext M₀ a₀ s) :
    Ext M₀ a₀ (State.setHp s x) := by
  refine Ext.via hM h₀ ?_
  clear hM h₀ M₀ a₀
  suffices H : ∀ a₀, Ext 256 a₀ s → Ext 256 a₀ (State.setHp s x) from H s (Ext.refl _ _)
  intro a₀ h₀
  unfold State.setHp
  repeat' first
    | with_reducible assumption
    | (with_reducible intro _; intros; try beta_reduce)
    | split
    | (refine Ext.upd ?_ ?_ ?_ ?_ ?_ ?_ ?_ ?_ ?_ ?_ ?_ ?_ ?_ ?_ ?_ ?_ ?_ ?_ ?_ ?_ <;> first | rfl | exact fun _ => rfl | exact fun h => absurd h (by decide) | skip)

theorem State.setSec_ext {s : State} {x : Sec} {M₀ : Nat} {a₀ : State} (hM : Within 2048 M₀) (h₀ : Ext M₀ a₀ s) :
    Ext M₀ a₀ (State.setSec s x) := by
  refine Ext.via hM h₀ ?_
  clear hM h₀ M₀ a₀
  suffices H : ∀ a₀, Ext 2048 a₀ s → Ext 2048 a₀ (State.setSec s x) from H s (Ext.refl _ _)
  intro a₀ h₀
  unfold State.setSec
  repeat' first
    | with_reducible assumption
    | (with_reducible intro _; intros; try beta_reduce)
    | split
    | (refine Ext.upd ?_ ?_ ?_ ?_ ?_ ?_ ?_ ?_ ?_ ?_ ?_ ?_ ?_ ?_ ?_ ?_ ?_ ?_ ?_ ?_ <;> first | rfl | exact fun _ => rfl | exact fun h => absurd h (by decide) | skip)

theorem State.setCtl_ext {s : State} {x : Ctl} {M₀ : Nat} {a₀ : State} (hM : Within 64 M₀) (h₀ : Ext M₀ a₀ s) :
    Ext M₀ a₀ (State.setCtl s x) := by
  refine Ext.via hM h₀ ?_
  clear hM h₀ M₀ a₀
  suffices H : ∀ a₀, Ext 64 a₀ s → Ext 64 a₀ (State.setCtl s x) from H s (Ext.refl _ _)
  intro a₀ h₀
  unfold State.setCtl
  repeat' first
    | with_reducible assumption
    | (with_reducible intro _; intros; try beta_reduce)
    | split
    | (refine Ext.upd ?_ ?_ ?_ ?_ ?_ ?_ ?_ ?_ ?_ ?_ ?_ ?_ ?_ ?_ ?_ ?_ ?_ ?_ ?_ ?_ <;> first | rfl | exact fun _ => rfl | exact fun h => absurd h (by decide) | skip)

theorem State.setReadData_ext {s : State} {v : Word64} {M₀ : Nat} {a₀ : State} (hM : Within 8 M₀) (h₀ : Ext M₀ a₀ s) :
    Ext M₀ a₀ (State.setReadData s v) := by
  refine Ext.via hM h₀ ?_
  clear hM h₀ M₀ a₀
  suffices H : ∀ a₀, Ext 8 a₀ s → Ext 8 a₀ (State.setReadData s v) from H s (Ext.refl _ _)
  intro a₀ h₀
  unfold State.setReadData
  repeat' first
    | with_reducible assumption
    | (with_reducible intro _; intros; try beta_reduce)
    | split
    | (refine Ext.upd ?_ ?_ ?_ ?_ ?_ ?_ ?_ ?_ ?_ ?_ ?_ ?_ ?_ ?_ ?_ ?_ ?_ ?_ ?_ ?_ <;> first | rfl | exact fun _ => rfl | exact fun h => absurd h (by decide) | skip)

theorem State.useFresh_ext {s : State} {n : Nat} {M₀ : Nat} {a₀ : State} (hM : Within 2 M₀) (h₀ : Ext M₀ a₀ s) :
    Ext M₀ a₀ (State.useFresh s n) := by
  refine Ext.via hM h₀ ?_
  clear hM h₀ M₀ a₀
  suffices H : ∀ a₀, Ext 2 a₀ s → Ext 2 a₀ (State.useFresh s n) from H s (Ext.refl _ _)
  intro a₀ h₀
  unfold State.useFresh
  repeat' first
    | with_reducible assumption
    | (with_reducible intro _; intros; try beta_reduce)
    | split
    | (refine Ext.upd ?_ ?_ ?_ ?_ ?_ ?_ ?_ ?_ ?_ ?_ ?_ ?_ ?_ ?_ ?_ ?_ ?_ ?_ ?_ ?_ <;> first | rfl | exact fun _ => rfl | exact fun h => absurd h (by decide) | skip)

theorem State.setPart_ext {s : State} {p : Nat} {x : PartState} {M₀ : Nat} {a₀ : State} (hM : Within 64 M₀) (h₀ : Ext M₀ a₀ s) :
    Ext M₀ a₀ (State.setPart s p x) := by
  refine Ext.via hM h₀ ?_
  clear hM h₀ M₀ a₀
  suffices H : ∀ a₀, Ext 64 a₀ s → Ext 64 a₀ (State.setPart s p x) from H s (Ext.refl _ _)
  intro a₀ h₀
  unfold State.setPart
  repeat' first
    | with_reducible assumption
    | (with_reducible intro _; intros; try beta_reduce)
    | split
    | (refine Ext.upd ?_ ?_ ?_ ?_ ?_ ?_ ?_ ?_ ?_ ?_ ?_ ?_ ?_ ?_ ?_ ?_ ?_ ?_ ?_ ?_ <;> first | rfl | exact fun _ => rfl | exact fun h => absurd h (by decide) | skip)

theorem State.raise_ext {s : State} {e : Ev} {M₀ : Nat} {a₀ : State} (hM : Within 132 M₀) (h₀ : Ext M₀ a₀ s) :
    Ext M₀ a₀ (State.raise s e) := by
  refine Ext.via hM h₀ ?_
  clear hM h₀ M₀ a₀
  suffices H : ∀ a₀, Ext 132 a₀ s → Ext 132 a₀ (State.raise s e) from H s (Ext.refl _ _)
  intro a₀ h₀
  unfold State.raise
  repeat' first
    | with_reducible assumption
    | (with_reducible intro _; intros; try beta_reduce)
    | with_reducible refine State.bumpSat_ext (by decide) ?_
    | split
    | (refine Ext.upd ?_ ?_ ?_ ?_ ?_ ?_ ?_ ?_ ?_ ?_ ?_ ?_ ?_ ?_ ?_ ?_ ?_ ?_ ?_ ?_ <;> first | rfl | exact fun _ => rfl | exact fun h => absurd h (by decide) | skip)

theorem State.event_ext {s : State} {code : Nat} {part : Option Nat} {cantle : Bool} {inst : Nat} {payload : List Byte} {M₀ : Nat} {a₀ : State} (hM : Within 132 M₀) (h₀ : Ext M₀ a₀ s) :
    Ext M₀ a₀ (State.event s code part cantle inst payload) := by
  refine Ext.via hM h₀ ?_
  clear hM h₀ M₀ a₀
  suffices H : ∀ a₀, Ext 132 a₀ s → Ext 132 a₀ (State.event s code part cantle inst payload) from H s (Ext.refl _ _)
  intro a₀ h₀
  unfold State.event
  repeat' first
    | with_reducible assumption
    | (with_reducible intro _; intros; try beta_reduce)
    | with_reducible refine State.raise_ext (by decide) ?_
    | split

theorem State.generic_ext {s : State} {blk : Nat} {part : Option Nat} {a b r : Nat} {M₀ : Nat} {a₀ : State} (hM : Within 132 M₀) (h₀ : Ext M₀ a₀ s) :
    Ext M₀ a₀ (State.generic s blk part a b r) := by
  refine Ext.via hM h₀ ?_
  clear hM h₀ M₀ a₀
  suffices H : ∀ a₀, Ext 132 a₀ s → Ext 132 a₀ (State.generic s blk part a b r) from H s (Ext.refl _ _)
  intro a₀ h₀
  unfold State.generic
  repeat' first
    | with_reducible assumption
    | (with_reducible intro _; intros; try beta_reduce)
    | with_reducible refine State.event_ext (by decide) ?_
    | split

theorem State.genericNotice_ext {s : State} {blk p a b r : Nat} {M₀ : Nat} {a₀ : State} (hM : Within 132 M₀) (h₀ : Ext M₀ a₀ s) :
    Ext M₀ a₀ (State.genericNotice s blk p a b r) := by
  refine Ext.via hM h₀ ?_
  clear hM h₀ M₀ a₀
  suffices H : ∀ a₀, Ext 132 a₀ s → Ext 132 a₀ (State.genericNotice s blk p a b r) from H s (Ext.refl _ _)
  intro a₀ h₀
  unfold State.genericNotice
  repeat' first
    | with_reducible assumption
    | (with_reducible intro _; intros; try beta_reduce)
    | with_reducible refine State.raise_ext (by decide) ?_
    | split

theorem State.badWrite_ext {s : State} {off v : Nat} {M₀ : Nat} {a₀ : State} (hM : Within 132 M₀) (h₀ : Ext M₀ a₀ s) :
    Ext M₀ a₀ (State.badWrite s off v) := by
  refine Ext.via hM h₀ ?_
  clear hM h₀ M₀ a₀
  suffices H : ∀ a₀, Ext 132 a₀ s → Ext 132 a₀ (State.badWrite s off v) from H s (Ext.refl _ _)
  intro a₀ h₀
  unfold State.badWrite
  repeat' first
    | with_reducible assumption
    | (with_reducible intro _; intros; try beta_reduce)
    | with_reducible refine State.generic_ext (by decide) ?_
    | split

theorem State.poke_ext {s : State} {a : Nat} {b : Byte} {M₀ : Nat} {a₀ : State} (hM : Within 16 M₀) (h₀ : Ext M₀ a₀ s) : Ext M₀ a₀ (State.poke s a b) := by
  unfold State.poke
  split
  · refine Ext.via hM h₀ ?_
    constructor <;> first | rfl | exact fun _ => rfl | exact fun h => absurd h (by decide) | exact fun _ h => h | exact id | exact Sparse.wf_put _ _
  · exact h₀

theorem State.pokes_ext {s : State} {a : Nat} {bs : List Byte} {M₀ : Nat} {a₀ : State} (hM : Within 16 M₀) (h₀ : Ext M₀ a₀ s) : Ext M₀ a₀ (State.pokes s a bs) := by
  induction bs generalizing s a with
  | nil => exact h₀
  | cons b bs ih => exact ih (State.poke_ext hM h₀)

theorem State.setPoison_ext {s : State} {a : Nat} {b : Bool} {M₀ : Nat} {a₀ : State} (hM : Within 32 M₀) (h₀ : Ext M₀ a₀ s) : Ext M₀ a₀ (State.setPoison s a b) := by
  unfold State.setPoison
  split
  · refine Ext.via hM h₀ ?_
    constructor <;> first | rfl | exact fun _ => rfl | exact fun h => absurd h (by decide) | exact fun _ h => h | exact id | exact Sparse.wf_put _ _
  · exact h₀

theorem State.clearWhole_ext {s : State} {a n : Nat} {M₀ : Nat} {a₀ : State} (hM : Within 32 M₀) (h₀ : Ext M₀ a₀ s) :
    Ext M₀ a₀ (State.clearWhole s a n) := by
  refine Ext.via hM h₀ ?_
  clear hM h₀ M₀ a₀
  suffices H : ∀ a₀, Ext 32 a₀ s → Ext 32 a₀ (State.clearWhole s a n) from H s (Ext.refl _ _)
  intro a₀ h₀
  unfold State.clearWhole
  repeat' first
    | with_reducible assumption
    | (with_reducible intro _; intros; try beta_reduce)
    | with_reducible refine State.setPoison_ext (by decide) ?_
    | (with_reducible refine Ext.foldl _ ?_ ?_)
    | (with_reducible refine Ext.foldl_fst _ ?_ ?_)
    | split

theorem State.store_ext {s : State} {a : Nat} {bs : List Byte} {M₀ : Nat} {a₀ : State} (hM : Within 48 M₀) (h₀ : Ext M₀ a₀ s) :
    Ext M₀ a₀ (State.store s a bs) := by
  refine Ext.via hM h₀ ?_
  clear hM h₀ M₀ a₀
  suffices H : ∀ a₀, Ext 48 a₀ s → Ext 48 a₀ (State.store s a bs) from H s (Ext.refl _ _)
  intro a₀ h₀
  unfold State.store
  repeat' first
    | with_reducible assumption
    | (with_reducible intro _; intros; try beta_reduce)
    | with_reducible refine State.pokes_ext (by decide) ?_
    | with_reducible refine State.clearWhole_ext (by decide) ?_
    | split

theorem State.storeLE_ext {s : State} {a n v : Nat} {M₀ : Nat} {a₀ : State} (hM : Within 48 M₀) (h₀ : Ext M₀ a₀ s) :
    Ext M₀ a₀ (State.storeLE s a n v) := by
  refine Ext.via hM h₀ ?_
  clear hM h₀ M₀ a₀
  suffices H : ∀ a₀, Ext 48 a₀ s → Ext 48 a₀ (State.storeLE s a n v) from H s (Ext.refl _ _)
  intro a₀ h₀
  unfold State.storeLE
  repeat' first
    | with_reducible assumption
    | (with_reducible intro _; intros; try beta_reduce)
    | with_reducible refine State.store_ext (by decide) ?_
    | split

theorem State.storeFree_ext {s : State} {a n : Nat} {M₀ : Nat} {a₀ : State} (hM : Within 50 M₀) (h₀ : Ext M₀ a₀ s) :
    Ext M₀ a₀ (State.storeFree s a n) := by
  refine Ext.via hM h₀ ?_
  clear hM h₀ M₀ a₀
  suffices H : ∀ a₀, Ext 50 a₀ s → Ext 50 a₀ (State.storeFree s a n) from H s (Ext.refl _ _)
  intro a₀ h₀
  unfold State.storeFree
  repeat' first
    | with_reducible assumption
    | (with_reducible intro _; intros; try beta_reduce)
    | with_reducible refine State.store_ext (by decide) ?_
    | with_reducible refine State.useFresh_ext (by decide) ?_
    | split

theorem State.setQp_ext {s : State} {q : Nat} {x : QpState} {M₀ : Nat} {a₀ : State} (hM : Within 256 M₀) (h₀ : Ext M₀ a₀ s) :
    Ext M₀ a₀ (State.setQp s q x) := by
  refine Ext.via hM h₀ ?_
  clear hM h₀ M₀ a₀
  suffices H : ∀ a₀, Ext 256 a₀ s → Ext 256 a₀ (State.setQp s q x) from H s (Ext.refl _ _)
  intro a₀ h₀
  unfold State.setQp
  repeat' first
    | with_reducible assumption
    | (with_reducible intro _; intros; try beta_reduce)
    | split
    | (refine Ext.upd ?_ ?_ ?_ ?_ ?_ ?_ ?_ ?_ ?_ ?_ ?_ ?_ ?_ ?_ ?_ ?_ ?_ ?_ ?_ ?_ <;> first | rfl | exact fun _ => rfl | exact fun h => absurd h (by decide) | skip)

theorem State.emit_ext {s : State} {m : HpMsg} {M₀ : Nat} {a₀ : State} (hM : Within 256 M₀) (h₀ : Ext M₀ a₀ s) :
    Ext M₀ a₀ (State.emit s m) := by
  refine Ext.via hM h₀ ?_
  clear hM h₀ M₀ a₀
  suffices H : ∀ a₀, Ext 256 a₀ s → Ext 256 a₀ (State.emit s m) from H s (Ext.refl _ _)
  intro a₀ h₀
  unfold State.emit
  repeat' first
    | with_reducible assumption
    | (with_reducible intro _; intros; try beta_reduce)
    | split
    | (refine Ext.upd ?_ ?_ ?_ ?_ ?_ ?_ ?_ ?_ ?_ ?_ ?_ ?_ ?_ ?_ ?_ ?_ ?_ ?_ ?_ ?_ <;> first | rfl | exact fun _ => rfl | exact fun h => absurd h (by decide) | skip)

theorem State.request_ext {s : State} {q : Nat} {m : HpMsg} {len dest : Nat} {M₀ : Nat} {a₀ : State} (hM : Within 260 M₀) (h₀ : Ext M₀ a₀ s) :
    Ext M₀ a₀ (State.request s q m len dest) := by
  refine Ext.via hM h₀ ?_
  clear hM h₀ M₀ a₀
  suffices H : ∀ a₀, Ext 260 a₀ s → Ext 260 a₀ (State.request s q m len dest) from H s (Ext.refl _ _)
  intro a₀ h₀
  unfold State.request
  repeat' first
    | with_reducible assumption
    | (with_reducible intro _; intros; try beta_reduce)
    | ((fail_if_no_progress extract_lets +onlyGivenNames t); refine Ext.cut (M := 260) (a := a₀) (b := t) ?_ (fun ht => ?_); rotate_left; clear_value t)
    | ((fail_if_no_progress extract_lets +onlyGivenNames u); have v : Nat := u; clear v; clear_value u)
    | ((fail_if_no_progress extract_lets +onlyGivenNames u); have v : List _ := u; clear v; clear_value u)
    | ((fail_if_no_progress extract_lets +onlyGivenNames u); have v : Option _ := u; clear v; fail_if_success (have v : Option State := u); clear_value u)
    | (fail_if_no_progress extract_lets +onlyGivenNames u)
    | with_reducible refine State.setQp_ext (by decide) ?_
    | with_reducible refine State.put_ext (by decide) ?_
    | with_reducible refine State.emit_ext (by decide) ?_
    | split
    | (clear_value *; split)
    | (unfold t)
    | (unfold u; try beta_reduce)
    | (refine Ext.upd ?_ ?_ ?_ ?_ ?_ ?_ ?_ ?_ ?_ ?_ ?_ ?_ ?_ ?_ ?_ ?_ ?_ ?_ ?_ ?_ <;> first | rfl | exact fun _ => rfl | exact fun h => absurd h (by decide) | skip)

theorem State.setOp_ext {s : State} {slot : Nat} {o : Option Op} {M₀ : Nat} {a₀ : State} (hM : Within 64 M₀) (h₀ : Ext M₀ a₀ s) :
    Ext M₀ a₀ (State.setOp s slot o) := by
  refine Ext.via hM h₀ ?_
  clear hM h₀ M₀ a₀
  suffices H : ∀ a₀, Ext 64 a₀ s → Ext 64 a₀ (State.setOp s slot o) from H s (Ext.refl _ _)
  intro a₀ h₀
  unfold State.setOp
  repeat' first
    | with_reducible assumption
    | (with_reducible intro _; intros; try beta_reduce)
    | split
    | (refine Ext.upd ?_ ?_ ?_ ?_ ?_ ?_ ?_ ?_ ?_ ?_ ?_ ?_ ?_ ?_ ?_ ?_ ?_ ?_ ?_ ?_ <;> first | rfl | exact fun _ => rfl | exact fun h => absurd h (by decide) | skip)

theorem State.setStatus_ext {s : State} {slot st result : Nat} {settled : Bool} {M₀ : Nat} {a₀ : State} (hM : Within 4 M₀) (h₀ : Ext M₀ a₀ s) :
    Ext M₀ a₀ (State.setStatus s slot st result settled) := by
  refine Ext.via hM h₀ ?_
  clear hM h₀ M₀ a₀
  suffices H : ∀ a₀, Ext 4 a₀ s → Ext 4 a₀ (State.setStatus s slot st result settled) from H s (Ext.refl _ _)
  intro a₀ h₀
  unfold State.setStatus
  repeat' first
    | with_reducible assumption
    | (with_reducible intro _; intros; try beta_reduce)
    | with_reducible refine State.wr_ext (by decide) ?_
    | split

theorem State.setHealth_ext {s : State} {x : Health} {M₀ : Nat} {a₀ : State} (hM : Within 32768 M₀) (h₀ : Ext M₀ a₀ s) :
    Ext M₀ a₀ (State.setHealth s x) := by
  refine Ext.via hM h₀ ?_
  clear hM h₀ M₀ a₀
  suffices H : ∀ a₀, Ext 32768 a₀ s → Ext 32768 a₀ (State.setHealth s x) from H s (Ext.refl _ _)
  intro a₀ h₀
  unfold State.setHealth
  repeat' first
    | with_reducible assumption
    | (with_reducible intro _; intros; try beta_reduce)
    | split
    | (refine Ext.upd ?_ ?_ ?_ ?_ ?_ ?_ ?_ ?_ ?_ ?_ ?_ ?_ ?_ ?_ ?_ ?_ ?_ ?_ ?_ ?_ <;> first | rfl | exact fun _ => rfl | exact fun h => absurd h (by decide) | skip)

theorem State.mapBook_ext {s : State} {p step : Nat} {f : StepBook → StepBook} {M₀ : Nat} {a₀ : State} (hM : Within 32768 M₀) (h₀ : Ext M₀ a₀ s) :
    Ext M₀ a₀ (State.mapBook s p step f) := by
  refine Ext.via hM h₀ ?_
  clear hM h₀ M₀ a₀
  suffices H : ∀ a₀, Ext 32768 a₀ s → Ext 32768 a₀ (State.mapBook s p step f) from H s (Ext.refl _ _)
  intro a₀ h₀
  unfold State.mapBook
  repeat' first
    | with_reducible assumption
    | (with_reducible intro _; intros; try beta_reduce)
    | split
    | (refine Ext.upd ?_ ?_ ?_ ?_ ?_ ?_ ?_ ?_ ?_ ?_ ?_ ?_ ?_ ?_ ?_ ?_ ?_ ?_ ?_ ?_ <;> first | rfl | exact fun _ => rfl | exact fun h => absurd h (by decide) | skip)

theorem State.tableShow_ext {s : State} {wq : Nat} {M₀ : Nat} {a₀ : State} (hM : Within 4 M₀) (h₀ : Ext M₀ a₀ s) :
    Ext M₀ a₀ (State.tableShow s wq) := by
  refine Ext.via hM h₀ ?_
  clear hM h₀ M₀ a₀
  suffices H : ∀ a₀, Ext 4 a₀ s → Ext 4 a₀ (State.tableShow s wq) from H s (Ext.refl _ _)
  intro a₀ h₀
  unfold State.tableShow
  repeat' first
    | with_reducible assumption
    | (with_reducible intro _; intros; try beta_reduce)
    | ((fail_if_no_progress extract_lets +onlyGivenNames t); refine Ext.cut (M := 4) (a := a₀) (b := t) ?_ (fun ht => ?_); rotate_left; clear_value t)
    | ((fail_if_no_progress extract_lets +onlyGivenNames u); have v : Nat := u; clear v; clear_value u)
    | ((fail_if_no_progress extract_lets +onlyGivenNames u); have v : List _ := u; clear v; clear_value u)
    | ((fail_if_no_progress extract_lets +onlyGivenNames u); have v : Option _ := u; clear v; fail_if_success (have v : Option State := u); clear_value u)
    | (fail_if_no_progress extract_lets +onlyGivenNames u)
    | with_reducible refine State.put_ext (by decide) ?_
    | split
    | (clear_value *; split)
    | (unfold t)
    | (unfold u; try beta_reduce)

theorem State.unfenceAll_ext {s : State} {n : Nat} {M₀ : Nat} {a₀ : State} (hM : Within 64 M₀) (h₀ : Ext M₀ a₀ s) :
    Ext M₀ a₀ (State.unfenceAll s n) := by
  refine Ext.via hM h₀ ?_
  clear hM h₀ M₀ a₀
  suffices H : ∀ a₀, Ext 64 a₀ s → Ext 64 a₀ (State.unfenceAll s n) from H s (Ext.refl _ _)
  intro a₀ h₀
  unfold State.unfenceAll
  repeat' first
    | with_reducible assumption
    | (with_reducible intro _; intros; try beta_reduce)
    | with_reducible refine State.setCtl_ext (by decide) ?_
    | split
    | (refine Ext.upd ?_ ?_ ?_ ?_ ?_ ?_ ?_ ?_ ?_ ?_ ?_ ?_ ?_ ?_ ?_ ?_ ?_ ?_ ?_ ?_ <;> first | rfl | exact fun _ => rfl | exact fun h => absurd h (by decide) | skip)

theorem State.stepClosed_ext {s : State} {p step : Nat} {M₀ : Nat} {a₀ : State} (hM : Within 32832 M₀) (h₀ : Ext M₀ a₀ s) :
    Ext M₀ a₀ (State.stepClosed s p step) := by
  refine Ext.via hM h₀ ?_
  clear hM h₀ M₀ a₀
  suffices H : ∀ a₀, Ext 32832 a₀ s → Ext 32832 a₀ (State.stepClosed s p step) from H s (Ext.refl _ _)
  intro a₀ h₀
  unfold State.stepClosed
  repeat' first
    | with_reducible assumption
    | (with_reducible intro _; intros; try beta_reduce)
    | with_reducible refine State.setPart_ext (by decide) ?_
    | with_reducible refine State.mapBook_ext (by decide) ?_
    | split
    | (refine Ext.upd ?_ ?_ ?_ ?_ ?_ ?_ ?_ ?_ ?_ ?_ ?_ ?_ ?_ ?_ ?_ ?_ ?_ ?_ ?_ ?_ <;> first | rfl | exact fun _ => rfl | exact fun h => absurd h (by decide) | skip)

theorem State.leave_ext {s : State} {slot : Nat} {o : Op} {M₀ : Nat} {a₀ : State} (hM : Within 32836 M₀) (h₀ : Ext M₀ a₀ s) :
    Ext M₀ a₀ (State.leave s slot o) := by
  refine Ext.via hM h₀ ?_
  clear hM h₀ M₀ a₀
  suffices H : ∀ a₀, Ext 32836 a₀ s → Ext 32836 a₀ (State.leave s slot o) from H s (Ext.refl _ _)
  intro a₀ h₀
  unfold State.leave
  repeat' first
    | with_reducible assumption
    | (with_reducible intro _; intros; try beta_reduce)
    | ((fail_if_no_progress extract_lets +onlyGivenNames t); refine Ext.cut (M := 32836) (a := a₀) (b := t) ?_ (fun ht => ?_); rotate_left; clear_value t)
    | ((fail_if_no_progress extract_lets +onlyGivenNames u); have v : Nat := u; clear v; clear_value u)
    | ((fail_if_no_progress extract_lets +onlyGivenNames u); have v : List _ := u; clear v; clear_value u)
    | ((fail_if_no_progress extract_lets +onlyGivenNames u); have v : Option _ := u; clear v; fail_if_success (have v : Option State := u); clear_value u)
    | (fail_if_no_progress extract_lets +onlyGivenNames u)
    | with_reducible refine State.setOp_ext (by decide) ?_
    | with_reducible refine State.unfenceAll_ext (by decide) ?_
    | with_reducible refine State.stepClosed_ext (by decide) ?_
    | with_reducible refine State.tableShow_ext (by decide) ?_
    | split
    | (clear_value *; split)
    | (unfold t)
    | (unfold u; try beta_reduce)

theorem State.recordWritten_ext {s : State} {r : CplRec} {M₀ : Nat} {a₀ : State} (hM : Within 32836 M₀) (h₀ : Ext M₀ a₀ s) :
    Ext M₀ a₀ (State.recordWritten s r) := by
  refine Ext.via hM h₀ ?_
  clear hM h₀ M₀ a₀
  suffices H : ∀ a₀, Ext 32836 a₀ s → Ext 32836 a₀ (State.recordWritten s r) from H s (Ext.refl _ _)
  intro a₀ h₀
  unfold State.recordWritten
  repeat' first
    | with_reducible assumption
    | (with_reducible intro _; intros; try beta_reduce)
    | with_reducible refine State.leave_ext (by decide) ?_
    | split

theorem State.setCq_ext {s : State} {n : Nat} {x : CqState} {M₀ : Nat} {a₀ : State} (hM : Within 64 M₀) (h₀ : Ext M₀ a₀ s) :
    Ext M₀ a₀ (State.setCq s n x) := by
  refine Ext.via hM h₀ ?_
  clear hM h₀ M₀ a₀
  suffices H : ∀ a₀, Ext 64 a₀ s → Ext 64 a₀ (State.setCq s n x) from H s (Ext.refl _ _)
  intro a₀ h₀
  unfold State.setCq
  repeat' first
    | with_reducible assumption
    | (with_reducible intro _; intros; try beta_reduce)
    | split
    | (refine Ext.upd ?_ ?_ ?_ ?_ ?_ ?_ ?_ ?_ ?_ ?_ ?_ ?_ ?_ ?_ ?_ ?_ ?_ ?_ ?_ ?_ <;> first | rfl | exact fun _ => rfl | exact fun h => absurd h (by decide) | skip)

theorem State.cqWrite_ext {s : State} {n : Nat} {rec : List Byte} {M₀ : Nat} {a₀ : State} (hM : Within 324 M₀) (h₀ : Ext M₀ a₀ s) :
    Ext M₀ a₀ (State.cqWrite s n rec) := by
  refine Ext.via hM h₀ ?_
  clear hM h₀ M₀ a₀
  suffices H : ∀ a₀, Ext 324 a₀ s → Ext 324 a₀ (State.cqWrite s n rec) from H s (Ext.refl _ _)
  intro a₀ h₀
  unfold State.cqWrite
  repeat' first
    | with_reducible assumption
    | (with_reducible intro _; intros; try beta_reduce)
    | ((fail_if_no_progress extract_lets +onlyGivenNames t); refine Ext.cut (M := 324) (a := a₀) (b := t) ?_ (fun ht => ?_); rotate_left; clear_value t)
    | ((fail_if_no_progress extract_lets +onlyGivenNames u); have v : Nat := u; clear v; clear_value u)
    | ((fail_if_no_progress extract_lets +onlyGivenNames u); have v : List _ := u; clear v; clear_value u)
    | ((fail_if_no_progress extract_lets +onlyGivenNames u); have v : Option _ := u; clear v; fail_if_success (have v : Option State := u); clear_value u)
    | (fail_if_no_progress extract_lets +onlyGivenNames u)
    | with_reducible refine State.setCq_ext (by decide) ?_
    | with_reducible refine State.request_ext (by decide) ?_
    | split
    | (clear_value *; split)
    | (unfold t)
    | (unfold u; try beta_reduce)
    | (refine Ext.upd ?_ ?_ ?_ ?_ ?_ ?_ ?_ ?_ ?_ ?_ ?_ ?_ ?_ ?_ ?_ ?_ ?_ ?_ ?_ ?_ <;> first | rfl | exact fun _ => rfl | exact fun h => absurd h (by decide) | skip)

theorem State.post_ext {s : State} {n : Nat} {r : CplRec} {M₀ : Nat} {a₀ : State} (hM : Within 33220 M₀) (h₀ : Ext M₀ a₀ s) :
    Ext M₀ a₀ (State.post s n r) := by
  refine Ext.via hM h₀ ?_
  clear hM h₀ M₀ a₀
  suffices H : ∀ a₀, Ext 33220 a₀ s → Ext 33220 a₀ (State.post s n r) from H s (Ext.refl _ _)
  intro a₀ h₀
  unfold State.post
  repeat' first
    | with_reducible assumption
    | (with_reducible intro _; intros; try beta_reduce)
    | ((fail_if_no_progress extract_lets +onlyGivenNames t); refine Ext.cut (M := 33220) (a := a₀) (b := t) ?_ (fun ht => ?_); rotate_left; clear_value t)
    | ((fail_if_no_progress extract_lets +onlyGivenNames u); have v : Nat := u; clear v; clear_value u)
    | ((fail_if_no_progress extract_lets +onlyGivenNames u); have v : List _ := u; clear v; clear_value u)
    | ((fail_if_no_progress extract_lets +onlyGivenNames u); have v : Option _ := u; clear v; fail_if_success (have v : Option State := u); clear_value u)
    | (fail_if_no_progress extract_lets +onlyGivenNames u)
    | with_reducible refine State.cqWrite_ext (by decide) ?_
    | with_reducible refine State.recordWritten_ext (by decide) ?_
    | with_reducible refine State.setCq_ext (by decide) ?_
    | with_reducible refine State.put_ext (by decide) ?_
    | with_reducible refine State.generic_ext (by decide) ?_
    | split
    | (clear_value *; split)
    | (unfold t)
    | (unfold u; try beta_reduce)
    | (refine Ext.upd ?_ ?_ ?_ ?_ ?_ ?_ ?_ ?_ ?_ ?_ ?_ ?_ ?_ ?_ ?_ ?_ ?_ ?_ ?_ ?_ <;> first | rfl | exact fun _ => rfl | exact fun h => absurd h (by decide) | skip)

theorem State.drainCq_ext {k : Nat} {s : State} {n : Nat} {M₀ : Nat} {a₀ : State} (hM : Within 33092 M₀) (h₀ : Ext M₀ a₀ s) : Ext M₀ a₀ (State.drainCq k s n) := by
  refine Ext.via hM h₀ ?_
  clear hM h₀ M₀ a₀
  suffices H : ∀ a₀, Ext 33092 a₀ s → Ext 33092 a₀ (State.drainCq k s n) from H s (Ext.refl _ _)
  intro a₀ h₀
  induction k generalizing s with
  | zero => exact h₀
  | succ k ih =>
    unfold State.drainCq
    repeat' first
      | with_reducible assumption
      | with_reducible refine ih ?_
      | with_reducible refine State.putB_ext (by decide) ?_
      | with_reducible refine State.recordWritten_ext (by decide) ?_
      | with_reducible refine State.cqWrite_ext (by decide) ?_
      | with_reducible refine State.setCq_ext (by decide) ?_
      | split

theorem State.notice_ext {s : State} {nq : Nat} {mk : Nat → List Byte} {M₀ : Nat} {a₀ : State} (hM : Within 324 M₀) (h₀ : Ext M₀ a₀ s) :
    Ext M₀ a₀ (State.notice s nq mk) := by
  refine Ext.via hM h₀ ?_
  clear hM h₀ M₀ a₀
  suffices H : ∀ a₀, Ext 324 a₀ s → Ext 324 a₀ (State.notice s nq mk) from H s (Ext.refl _ _)
  intro a₀ h₀
  unfold State.notice
  repeat' first
    | with_reducible assumption
    | (with_reducible intro _; intros; try beta_reduce)
    | ((fail_if_no_progress extract_lets +onlyGivenNames t); refine Ext.cut (M := 324) (a := a₀) (b := t) ?_ (fun ht => ?_); rotate_left; clear_value t)
    | ((fail_if_no_progress extract_lets +onlyGivenNames u); have v : Nat := u; clear v; clear_value u)
    | ((fail_if_no_progress extract_lets +onlyGivenNames u); have v : List _ := u; clear v; clear_value u)
    | ((fail_if_no_progress extract_lets +onlyGivenNames u); have v : Option _ := u; clear v; fail_if_success (have v : Option State := u); clear_value u)
    | (fail_if_no_progress extract_lets +onlyGivenNames u)
    | with_reducible refine State.bumpSat_ext (by decide) ?_
    | with_reducible refine State.cqWrite_ext (by decide) ?_
    | with_reducible refine State.setCq_ext (by decide) ?_
    | split
    | (clear_value *; split)
    | (unfold t)
    | (unfold u; try beta_reduce)
    | (refine Ext.upd ?_ ?_ ?_ ?_ ?_ ?_ ?_ ?_ ?_ ?_ ?_ ?_ ?_ ?_ ?_ ?_ ?_ ?_ ?_ ?_ <;> first | rfl | exact fun _ => rfl | exact fun h => absurd h (by decide) | skip)

theorem State.drainNotices_ext {k : Nat} {s : State} {n : Nat} {M₀ : Nat} {a₀ : State} (hM : Within 324 M₀) (h₀ : Ext M₀ a₀ s) : Ext M₀ a₀ (State.drainNotices k s n) := by
  refine Ext.via hM h₀ ?_
  clear hM h₀ M₀ a₀
  suffices H : ∀ a₀, Ext 324 a₀ s → Ext 324 a₀ (State.drainNotices k s n) from H s (Ext.refl _ _)
  intro a₀ h₀
  induction k generalizing s with
  | zero => exact h₀
  | succ k ih =>
    unfold State.drainNotices
    repeat' first
      | with_reducible assumption
      | with_reducible refine ih ?_
      | with_reducible refine State.putB_ext (by decide) ?_
      | with_reducible refine State.recordWritten_ext (by decide) ?_
      | with_reducible refine State.cqWrite_ext (by decide) ?_
      | with_reducible refine State.setCq_ext (by decide) ?_
      | split

theorem State.flushQueues_ext {s : State} {M₀ : Nat} {a₀ : State} (hM : Within 33092 M₀) (h₀ : Ext M₀ a₀ s) :
    Ext M₀ a₀ (State.flushQueues s) := by
  refine Ext.via hM h₀ ?_
  clear hM h₀ M₀ a₀
  suffices H : ∀ a₀, Ext 33092 a₀ s → Ext 33092 a₀ (State.flushQueues s) from H s (Ext.refl _ _)
  intro a₀ h₀
  unfold State.flushQueues
  repeat' first
    | with_reducible assumption
    | (with_reducible intro _; intros; try beta_reduce)
    | with_reducible refine State.drainNotices_ext (by decide) ?_
    | with_reducible refine State.drainCq_ext (by decide) ?_
    | (with_reducible refine Ext.foldl _ ?_ ?_)
    | (with_reducible refine Ext.foldl_fst _ ?_ ?_)
    | split

theorem State.finish_ext {s : State} {slot result : Nat} {M₀ : Nat} {a₀ : State} (hM : Within 64 M₀) (h₀ : Ext M₀ a₀ s) :
    Ext M₀ a₀ (State.finish s slot result) := by
  refine Ext.via hM h₀ ?_
  clear hM h₀ M₀ a₀
  suffices H : ∀ a₀, Ext 64 a₀ s → Ext 64 a₀ (State.finish s slot result) from H s (Ext.refl _ _)
  intro a₀ h₀
  unfold State.finish
  repeat' first
    | with_reducible assumption
    | (with_reducible intro _; intros; try beta_reduce)
    | with_reducible refine State.setOp_ext (by decide) ?_
    | split
    | (refine Ext.upd ?_ ?_ ?_ ?_ ?_ ?_ ?_ ?_ ?_ ?_ ?_ ?_ ?_ ?_ ?_ ?_ ?_ ?_ ?_ ?_ <;> first | rfl | exact fun _ => rfl | exact fun h => absurd h (by decide) | skip)

theorem State.addDetail_ext {s : State} {slot k : Nat} {M₀ : Nat} {a₀ : State} (hM : Within 64 M₀) (h₀ : Ext M₀ a₀ s) :
    Ext M₀ a₀ (State.addDetail s slot k) := by
  refine Ext.via hM h₀ ?_
  clear hM h₀ M₀ a₀
  suffices H : ∀ a₀, Ext 64 a₀ s → Ext 64 a₀ (State.addDetail s slot k) from H s (Ext.refl _ _)
  intro a₀ h₀
  unfold State.addDetail
  repeat' first
    | with_reducible assumption
    | (with_reducible intro _; intros; try beta_reduce)
    | with_reducible refine State.setOp_ext (by decide) ?_
    | split
    | (refine Ext.upd ?_ ?_ ?_ ?_ ?_ ?_ ?_ ?_ ?_ ?_ ?_ ?_ ?_ ?_ ?_ ?_ ?_ ?_ ?_ ?_ <;> first | rfl | exact fun _ => rfl | exact fun h => absurd h (by decide) | skip)

theorem State.orFlags_ext {s : State} {slot bit : Nat} {M₀ : Nat} {a₀ : State} (hM : Within 64 M₀) (h₀ : Ext M₀ a₀ s) :
    Ext M₀ a₀ (State.orFlags s slot bit) := by
  refine Ext.via hM h₀ ?_
  clear hM h₀ M₀ a₀
  suffices H : ∀ a₀, Ext 64 a₀ s → Ext 64 a₀ (State.orFlags s slot bit) from H s (Ext.refl _ _)
  intro a₀ h₀
  unfold State.orFlags
  repeat' first
    | with_reducible assumption
    | (with_reducible intro _; intros; try beta_reduce)
    | with_reducible refine State.setOp_ext (by decide) ?_
    | split
    | (refine Ext.upd ?_ ?_ ?_ ?_ ?_ ?_ ?_ ?_ ?_ ?_ ?_ ?_ ?_ ?_ ?_ ?_ ?_ ?_ ?_ ?_ <;> first | rfl | exact fun _ => rfl | exact fun h => absurd h (by decide) | skip)

end Sys2Proof.Machine
end

