-- ==== Sys2Proof/Laws/ExtAccess.lean ====
section
/-!
SUPPORT. What each operation of Machine/Access.lean can change: one lemma each.
-/
namespace Sys2Proof.Machine

theorem State.regWrite_ext {s : State} {w : Writer} {off v : Nat} {f : State → State} {M₀ : Nat} {a₀ : State} (hM : Within 132 M₀) (h₀ : Ext M₀ a₀ s)
    (hf : ∀ t, Ext M₀ a₀ t → Ext M₀ a₀ (f t)) : Ext M₀ a₀ (s.regWrite w off v f) := by
  unfold State.regWrite
  split
  · exact hf _ h₀
  · exact State.badWrite_ext hM h₀

end Sys2Proof.Machine
end

