-- ==== Sys2Proof/Laws/ExtRecorder.lean ====
section
/-!
SUPPORT. What each operation of Machine/Recorder.lean can change: one lemma each.
-/
namespace Sys2Proof.Machine

theorem State.setRec_ext {s : State} {r : Recorder} {M₀ : Nat} {a₀ : State} (hM : Within 128 M₀) (h₀ : Ext M₀ a₀ s) :
    Ext M₀ a₀ (State.setRec s r) := by
  refine Ext.via hM h₀ ?_
  clear hM h₀ M₀ a₀
  suffices H : ∀ a₀, Ext 128 a₀ s → Ext 128 a₀ (State.setRec s r) from H s (Ext.refl _ _)
  intro a₀ h₀
  unfold State.setRec
  repeat' first
    | with_reducible assumption
    | (with_reducible intro _; intros; try beta_reduce)
    | split
    | (refine Ext.upd ?_ ?_ ?_ ?_ ?_ ?_ ?_ ?_ ?_ ?_ ?_ ?_ ?_ ?_ ?_ ?_ ?_ ?_ ?_ ?_ <;> first | rfl | exact fun _ => rfl | exact fun h => absurd h (by decide) | skip)

theorem State.recShow_ext {s : State} {M₀ : Nat} {a₀ : State} (hM : Within 4 M₀) (h₀ : Ext M₀ a₀ s) :
    Ext M₀ a₀ (State.recShow s) := by
  refine Ext.via hM h₀ ?_
  clear hM h₀ M₀ a₀
  suffices H : ∀ a₀, Ext 4 a₀ s → Ext 4 a₀ (State.recShow s) from H s (Ext.refl _ _)
  intro a₀ h₀
  unfold State.recShow
  repeat' first
    | with_reducible assumption
    | (with_reducible intro _; intros; try beta_reduce)
    | ((fail_if_no_progress extract_lets +onlyGivenNames t); refine Ext.cut (M := 4) (a := a₀) (b := t) ?_ (fun ht => ?_); rotate_left; clear_value t)
    | ((fail_if_no_progress extract_lets +onlyGivenNames u); have v : Nat := u; clear v; clear_value u)
    | ((fail_if_no_progress extract_lets +onlyGivenNames u); have v : List _ := u; clear v; clear_value u)
    | ((fail_if_no_progress extract_lets +onlyGivenNames u); have v : Option _ := u; clear v; fail_if_success (have v : Option State := u); clear_value u)
    | (fail_if_no_progress extract_lets +onlyGivenNames u)
    | with_reducible refine State.wr_ext (by decide) ?_
    | with_reducible refine State.putB_ext (by decide) ?_
    | (with_reducible refine Ext.foldl _ ?_ ?_)
    | (with_reducible refine Ext.foldl_fst _ ?_ ?_)
    | split
    | (clear_value *; split)
    | (unfold t)
    | (unfold u; try beta_reduce)

theorem State.writeRecord_ext {s : State} {code sev flags inst step time : Nat} {payload : List Byte} {queues : List Nat} {M₀ : Nat} {a₀ : State} (hM : Within 454 M₀) (h₀ : Ext M₀ a₀ s) :
    Ext M₀ a₀ (State.writeRecord s code sev flags inst step time payload queues) := by
  refine Ext.via hM h₀ ?_
  clear hM h₀ M₀ a₀
  suffices H : ∀ a₀, Ext 454 a₀ s → Ext 454 a₀ (State.writeRecord s code sev flags inst step time payload queues) from H s (Ext.refl _ _)
  intro a₀ h₀
  unfold State.writeRecord
  repeat' first
    | with_reducible assumption
    | (with_reducible intro _; intros; try beta_reduce)
    | ((fail_if_no_progress extract_lets +onlyGivenNames t); refine Ext.cut (M := 454) (a := a₀) (b := t) ?_ (fun ht => ?_); rotate_left; clear_value t)
    | ((fail_if_no_progress extract_lets +onlyGivenNames u); have v : Nat := u; clear v; clear_value u)
    | ((fail_if_no_progress extract_lets +onlyGivenNames u); have v : List _ := u; clear v; clear_value u)
    | ((fail_if_no_progress extract_lets +onlyGivenNames u); have v : Option _ := u; clear v; fail_if_success (have v : Option State := u); clear_value u)
    | (fail_if_no_progress extract_lets +onlyGivenNames u)
    | with_reducible refine State.bumpSat_ext (by decide) ?_
    | with_reducible refine State.useFresh_ext (by decide) ?_
    | with_reducible refine State.setRec_ext (by decide) ?_
    | with_reducible refine State.wr_ext (by decide) ?_
    | with_reducible refine State.recShow_ext (by decide) ?_
    | with_reducible refine State.put_ext (by decide) ?_
    | with_reducible refine State.notice_ext (by decide) ?_
    | (with_reducible refine Ext.foldl _ ?_ ?_)
    | (with_reducible refine Ext.foldl_fst _ ?_ ?_)
    | split
    | (clear_value *; split)
    | (unfold t)
    | (unfold u; try beta_reduce)
    | (refine Ext.upd ?_ ?_ ?_ ?_ ?_ ?_ ?_ ?_ ?_ ?_ ?_ ?_ ?_ ?_ ?_ ?_ ?_ ?_ ?_ ?_ <;> first | rfl | exact fun _ => rfl | exact fun h => absurd h (by decide) | skip)

theorem State.setBucketOf_ext {s : State} {code : Nat} {b : Bucket} {M₀ : Nat} {a₀ : State} (hM : Within 128 M₀) (h₀ : Ext M₀ a₀ s) :
    Ext M₀ a₀ (State.setBucketOf s code b) := by
  refine Ext.via hM h₀ ?_
  clear hM h₀ M₀ a₀
  suffices H : ∀ a₀, Ext 128 a₀ s → Ext 128 a₀ (State.setBucketOf s code b) from H s (Ext.refl _ _)
  intro a₀ h₀
  unfold State.setBucketOf
  repeat' first
    | with_reducible assumption
    | (with_reducible intro _; intros; try beta_reduce)
    | with_reducible refine State.setRec_ext (by decide) ?_
    | split
    | (refine Ext.upd ?_ ?_ ?_ ?_ ?_ ?_ ?_ ?_ ?_ ?_ ?_ ?_ ?_ ?_ ?_ ?_ ?_ ?_ ?_ ?_ <;> first | rfl | exact fun _ => rfl | exact fun h => absurd h (by decide) | skip)

theorem State.writeSuppressed_ext {s : State} {code : Nat} {M₀ : Nat} {a₀ : State} (hM : Within 454 M₀) (h₀ : Ext M₀ a₀ s) :
    Ext M₀ a₀ (State.writeSuppressed s code) := by
  refine Ext.via hM h₀ ?_
  clear hM h₀ M₀ a₀
  suffices H : ∀ a₀, Ext 454 a₀ s → Ext 454 a₀ (State.writeSuppressed s code) from H s (Ext.refl _ _)
  intro a₀ h₀
  unfold State.writeSuppressed
  repeat' first
    | with_reducible assumption
    | (with_reducible intro _; intros; try beta_reduce)
    | ((fail_if_no_progress extract_lets +onlyGivenNames t); refine Ext.cut (M := 454) (a := a₀) (b := t) ?_ (fun ht => ?_); rotate_left; clear_value t)
    | ((fail_if_no_progress extract_lets +onlyGivenNames u); have v : Nat := u; clear v; clear_value u)
    | ((fail_if_no_progress extract_lets +onlyGivenNames u); have v : List _ := u; clear v; clear_value u)
    | ((fail_if_no_progress extract_lets +onlyGivenNames u); have v : Option _ := u; clear v; fail_if_success (have v : Option State := u); clear_value u)
    | (fail_if_no_progress extract_lets +onlyGivenNames u)
    | with_reducible refine State.setBucketOf_ext (by decide) ?_
    | with_reducible refine State.writeRecord_ext (by decide) ?_
    | split
    | (clear_value *; split)
    | (unfold t)
    | (unfold u; try beta_reduce)
    | (refine Ext.upd ?_ ?_ ?_ ?_ ?_ ?_ ?_ ?_ ?_ ?_ ?_ ?_ ?_ ?_ ?_ ?_ ?_ ?_ ?_ ?_ <;> first | rfl | exact fun _ => rfl | exact fun h => absurd h (by decide) | skip)

theorem State.takeEvent_ext {s : State} {e : Ev} {M₀ : Nat} {a₀ : State} (hM : Within 454 M₀) (h₀ : Ext M₀ a₀ s) :
    Ext M₀ a₀ (State.takeEvent s e) := by
  refine Ext.via hM h₀ ?_
  clear hM h₀ M₀ a₀
  suffices H : ∀ a₀, Ext 454 a₀ s → Ext 454 a₀ (State.takeEvent s e) from H s (Ext.refl _ _)
  intro a₀ h₀
  unfold State.takeEvent
  repeat' first
    | with_reducible assumption
    | (with_reducible intro _; intros; try beta_reduce)
    | ((fail_if_no_progress extract_lets +onlyGivenNames t); refine Ext.cut (M := 454) (a := a₀) (b := t) ?_ (fun ht => ?_); rotate_left; clear_value t)
    | ((fail_if_no_progress extract_lets +onlyGivenNames F); refine Ext.cutF (M := 454) (a := a₀) (F := F) ?_ (fun hF => ?_); rotate_left; clear_value F)
    | with_reducible refine hF _ ?_
    | ((fail_if_no_progress extract_lets +onlyGivenNames G); refine Ext.cutG (M := 454) (a := a₀) (F := G) ?_ (fun hG => ?_); rotate_left; clear_value G)
    | with_reducible refine hG _ _ ?_
    | ((fail_if_no_progress extract_lets +onlyGivenNames H); refine Ext.cutH (M := 454) (a := a₀) (F := H) ?_ (fun hH => ?_); rotate_left; clear_value H)
    | with_reducible refine hH _ _ _ ?_
    | ((fail_if_no_progress extract_lets +onlyGivenNames u); have v : Nat := u; clear v; clear_value u)
    | ((fail_if_no_progress extract_lets +onlyGivenNames u); have v : List _ := u; clear v; clear_value u)
    | ((fail_if_no_progress extract_lets +onlyGivenNames u); have v : Option _ := u; clear v; fail_if_success (have v : Option State := u); clear_value u)
    | (fail_if_no_progress extract_lets +onlyGivenNames u)
    | with_reducible refine State.writeRecord_ext (by decide) ?_
    | with_reducible refine State.notice_ext (by decide) ?_
    | with_reducible refine State.setBucketOf_ext (by decide) ?_
    | with_reducible refine State.writeSuppressed_ext (by decide) ?_
    | with_reducible refine State.bumpSat_ext (by decide) ?_
    | split
    | (clear_value *; split)
    | (unfold t)
    | (unfold u; try beta_reduce)
    | (unfold F; try beta_reduce)
    | (unfold G; try beta_reduce)
    | (unfold H; try beta_reduce)
    | (refine Ext.upd ?_ ?_ ?_ ?_ ?_ ?_ ?_ ?_ ?_ ?_ ?_ ?_ ?_ ?_ ?_ ?_ ?_ ?_ ?_ ?_ <;> first | rfl | exact fun _ => rfl | exact fun h => absurd h (by decide) | skip)

theorem State.loseCantle_ext {s : State} {M₀ : Nat} {a₀ : State} (hM : Within 132 M₀) (h₀ : Ext M₀ a₀ s) :
    Ext M₀ a₀ (State.loseCantle s) := by
  refine Ext.via hM h₀ ?_
  clear hM h₀ M₀ a₀
  suffices H : ∀ a₀, Ext 132 a₀ s → Ext 132 a₀ (State.loseCantle s) from H s (Ext.refl _ _)
  intro a₀ h₀
  unfold State.loseCantle
  repeat' first
    | with_reducible assumption
    | (with_reducible intro _; intros; try beta_reduce)
    | ((fail_if_no_progress extract_lets +onlyGivenNames t); refine Ext.cut (M := 132) (a := a₀) (b := t) ?_ (fun ht => ?_); rotate_left; clear_value t)
    | ((fail_if_no_progress extract_lets +onlyGivenNames u); have v : Nat := u; clear v; clear_value u)
    | ((fail_if_no_progress extract_lets +onlyGivenNames u); have v : List _ := u; clear v; clear_value u)
    | ((fail_if_no_progress extract_lets +onlyGivenNames u); have v : Option _ := u; clear v; fail_if_success (have v : Option State := u); clear_value u)
    | (fail_if_no_progress extract_lets +onlyGivenNames u)
    | with_reducible refine State.setRec_ext (by decide) ?_
    | with_reducible refine State.bumpSat_ext (by decide) ?_
    | split
    | (clear_value *; split)
    | (unfold t)
    | (unfold u; try beta_reduce)
    | (refine Ext.upd ?_ ?_ ?_ ?_ ?_ ?_ ?_ ?_ ?_ ?_ ?_ ?_ ?_ ?_ ?_ ?_ ?_ ?_ ?_ ?_ <;> first | rfl | exact fun _ => rfl | exact fun h => absurd h (by decide) | skip)

theorem eventRecordWrite_ext {bridge : Bool} {s : State} {M₀ : Nat} {a₀ : State} (hM : Within 454 M₀) (h₀ : Ext M₀ a₀ s) :
    Ext M₀ a₀ (eventRecordWrite bridge s) := by
  refine Ext.via hM h₀ ?_
  clear hM h₀ M₀ a₀
  suffices H : ∀ a₀, Ext 454 a₀ s → Ext 454 a₀ (eventRecordWrite bridge s) from H s (Ext.refl _ _)
  intro a₀ h₀
  unfold eventRecordWrite
  repeat' first
    | with_reducible assumption
    | (with_reducible intro _; intros; try beta_reduce)
    | ((fail_if_no_progress extract_lets +onlyGivenNames t); refine Ext.cut (M := 454) (a := a₀) (b := t) ?_ (fun ht => ?_); rotate_left; clear_value t)
    | ((fail_if_no_progress extract_lets +onlyGivenNames u); have v : Nat := u; clear v; clear_value u)
    | ((fail_if_no_progress extract_lets +onlyGivenNames u); have v : List _ := u; clear v; clear_value u)
    | ((fail_if_no_progress extract_lets +onlyGivenNames u); have v : Option _ := u; clear v; fail_if_success (have v : Option State := u); clear_value u)
    | (fail_if_no_progress extract_lets +onlyGivenNames u)
    | with_reducible refine State.loseCantle_ext (by decide) ?_
    | with_reducible refine State.setRec_ext (by decide) ?_
    | with_reducible refine State.takeEvent_ext (by decide) ?_
    | split
    | (clear_value *; split)
    | (unfold t)
    | (unfold u; try beta_reduce)
    | (refine Ext.upd ?_ ?_ ?_ ?_ ?_ ?_ ?_ ?_ ?_ ?_ ?_ ?_ ?_ ?_ ?_ ?_ ?_ ?_ ?_ ?_ <;> first | rfl | exact fun _ => rfl | exact fun h => absurd h (by decide) | skip)

theorem intakeLost_ext {cantle : Bool} {s : State} {M₀ : Nat} {a₀ : State} (hM : Within 454 M₀) (h₀ : Ext M₀ a₀ s) :
    Ext M₀ a₀ (intakeLost cantle s) := by
  refine Ext.via hM h₀ ?_
  clear hM h₀ M₀ a₀
  suffices H : ∀ a₀, Ext 454 a₀ s → Ext 454 a₀ (intakeLost cantle s) from H s (Ext.refl _ _)
  intro a₀ h₀
  unfold intakeLost
  repeat' first
    | with_reducible assumption
    | (with_reducible intro _; intros; try beta_reduce)
    | ((fail_if_no_progress extract_lets +onlyGivenNames t); refine Ext.cut (M := 454) (a := a₀) (b := t) ?_ (fun ht => ?_); rotate_left; clear_value t)
    | ((fail_if_no_progress extract_lets +onlyGivenNames u); have v : Nat := u; clear v; clear_value u)
    | ((fail_if_no_progress extract_lets +onlyGivenNames u); have v : List _ := u; clear v; clear_value u)
    | ((fail_if_no_progress extract_lets +onlyGivenNames u); have v : Option _ := u; clear v; fail_if_success (have v : Option State := u); clear_value u)
    | (fail_if_no_progress extract_lets +onlyGivenNames u)
    | with_reducible refine State.setRec_ext (by decide) ?_
    | with_reducible refine State.writeRecord_ext (by decide) ?_
    | split
    | (clear_value *; split)
    | (unfold t)
    | (unfold u; try beta_reduce)
    | (refine Ext.upd ?_ ?_ ?_ ?_ ?_ ?_ ?_ ?_ ?_ ?_ ?_ ?_ ?_ ?_ ?_ ?_ ?_ ?_ ?_ ?_ <;> first | rfl | exact fun _ => rfl | exact fun h => absurd h (by decide) | skip)

theorem suppressed_ext {code : Nat} {s : State} {M₀ : Nat} {a₀ : State} (hM : Within 454 M₀) (h₀ : Ext M₀ a₀ s) :
    Ext M₀ a₀ (suppressed code s) := by
  refine Ext.via hM h₀ ?_
  clear hM h₀ M₀ a₀
  suffices H : ∀ a₀, Ext 454 a₀ s → Ext 454 a₀ (suppressed code s) from H s (Ext.refl _ _)
  intro a₀ h₀
  unfold suppressed
  repeat' first
    | with_reducible assumption
    | (with_reducible intro _; intros; try beta_reduce)
    | with_reducible refine State.writeSuppressed_ext (by decide) ?_
    | split

theorem State.clearLog_ext {s : State} {bound scope : Nat} {M₀ : Nat} {a₀ : State} (hM : Within 454 M₀) (h₀ : Ext M₀ a₀ s) :
    Ext M₀ a₀ (State.clearLog s bound scope) := by
  refine Ext.via hM h₀ ?_
  clear hM h₀ M₀ a₀
  suffices H : ∀ a₀, Ext 454 a₀ s → Ext 454 a₀ (State.clearLog s bound scope) from H s (Ext.refl _ _)
  intro a₀ h₀
  unfold State.clearLog
  repeat' first
    | with_reducible assumption
    | (with_reducible intro _; intros; try beta_reduce)
    | ((fail_if_no_progress extract_lets +onlyGivenNames t); refine Ext.cut (M := 454) (a := a₀) (b := t) ?_ (fun ht => ?_); rotate_left; clear_value t)
    | ((fail_if_no_progress extract_lets +onlyGivenNames u); have v : Nat := u; clear v; clear_value u)
    | ((fail_if_no_progress extract_lets +onlyGivenNames u); have v : List _ := u; clear v; clear_value u)
    | ((fail_if_no_progress extract_lets +onlyGivenNames u); have v : Option _ := u; clear v; fail_if_success (have v : Option State := u); clear_value u)
    | (fail_if_no_progress extract_lets +onlyGivenNames u)
    | with_reducible refine State.setRec_ext (by decide) ?_
    | with_reducible refine State.put_ext (by decide) ?_
    | with_reducible refine State.recShow_ext (by decide) ?_
    | with_reducible refine State.writeRecord_ext (by decide) ?_
    | (with_reducible refine Ext.foldl _ ?_ ?_)
    | (with_reducible refine Ext.foldl_fst _ ?_ ?_)
    | split
    | (clear_value *; split)
    | (unfold t)
    | (unfold u; try beta_reduce)
    | (refine Ext.upd ?_ ?_ ?_ ?_ ?_ ?_ ?_ ?_ ?_ ?_ ?_ ?_ ?_ ?_ ?_ ?_ ?_ ?_ ?_ ?_ <;> first | rfl | exact fun _ => rfl | exact fun h => absurd h (by decide) | skip)

theorem evrecClearPinned_ext {w : Writer} {go : Bool} {s : State} {M₀ : Nat} {a₀ : State} (hM : Within 454 M₀) (h₀ : Ext M₀ a₀ s) :
    Ext M₀ a₀ (evrecClearPinned w go s) := by
  refine Ext.via hM h₀ ?_
  clear hM h₀ M₀ a₀
  suffices H : ∀ a₀, Ext 454 a₀ s → Ext 454 a₀ (evrecClearPinned w go s) from H s (Ext.refl _ _)
  intro a₀ h₀
  unfold evrecClearPinned
  repeat' first
    | with_reducible assumption
    | (with_reducible intro _; intros; try beta_reduce)
    | with_reducible refine State.badWrite_ext (by decide) ?_
    | with_reducible refine State.clearLog_ext (by decide) ?_
    | split

theorem evrecClearAll_ext {w : Writer} {pinned go : Bool} {s : State} {M₀ : Nat} {a₀ : State} (hM : Within 454 M₀) (h₀ : Ext M₀ a₀ s) :
    Ext M₀ a₀ (evrecClearAll w pinned go s) := by
  refine Ext.via hM h₀ ?_
  clear hM h₀ M₀ a₀
  suffices H : ∀ a₀, Ext 454 a₀ s → Ext 454 a₀ (evrecClearAll w pinned go s) from H s (Ext.refl _ _)
  intro a₀ h₀
  unfold evrecClearAll
  repeat' first
    | with_reducible assumption
    | (with_reducible intro _; intros; try beta_reduce)
    | with_reducible refine State.badWrite_ext (by decide) ?_
    | with_reducible refine State.clearLog_ext (by decide) ?_
    | split

end Sys2Proof.Machine
end

