-- ==== Sys2Proof/Laws/ExtTaint.lean ====
section
/-!
SUPPORT. What each operation of Machine/Taint.lean can change: one lemma each.
-/
namespace Sys2Proof.Machine

theorem State.taint_ext {s : State} {p step lo hi : Nat} {M₀ : Nat} {a₀ : State} (hM : Within 131076 M₀) (h₀ : Ext M₀ a₀ s) :
    Ext M₀ a₀ (State.taint s p step lo hi) := by
  refine Ext.via hM h₀ ?_
  clear hM h₀ M₀ a₀
  suffices H : ∀ a₀, Ext 131076 a₀ s → Ext 131076 a₀ (State.taint s p step lo hi) from H s (Ext.refl _ _)
  intro a₀ h₀
  unfold State.taint
  repeat' first
    | with_reducible assumption
    | (with_reducible intro _; intros; try beta_reduce)
    | ((fail_if_no_progress extract_lets +onlyGivenNames t); refine Ext.cut (M := 131076) (a := a₀) (b := t) ?_ (fun ht => ?_); rotate_left; clear_value t)
    | ((fail_if_no_progress extract_lets +onlyGivenNames u); have v : Nat := u; clear v; clear_value u)
    | ((fail_if_no_progress extract_lets +onlyGivenNames u); have v : List _ := u; clear v; clear_value u)
    | ((fail_if_no_progress extract_lets +onlyGivenNames u); have v : Option _ := u; clear v; fail_if_success (have v : Option State := u); clear_value u)
    | (fail_if_no_progress extract_lets +onlyGivenNames u)
    | with_reducible refine State.put_ext (by decide) ?_
    | split
    | (clear_value *; split)
    | (unfold t)
    | (unfold u; try beta_reduce)
    | (refine Ext.upd ?_ ?_ ?_ ?_ ?_ ?_ ?_ ?_ ?_ ?_ ?_ ?_ ?_ ?_ ?_ ?_ ?_ ?_ ?_ ?_ <;> first | rfl | exact fun _ => rfl | exact fun h => absurd h (by decide) | skip)

theorem State.taintWrites_ext {s : State} {p step : Nat} {ws : List (Nat × Nat)} {M₀ : Nat} {a₀ : State} (hM : Within 131076 M₀) (h₀ : Ext M₀ a₀ s) :
    Ext M₀ a₀ (State.taintWrites s p step ws) := by
  refine Ext.via hM h₀ ?_
  clear hM h₀ M₀ a₀
  suffices H : ∀ a₀, Ext 131076 a₀ s → Ext 131076 a₀ (State.taintWrites s p step ws) from H s (Ext.refl _ _)
  intro a₀ h₀
  unfold State.taintWrites
  repeat' first
    | with_reducible assumption
    | (with_reducible intro _; intros; try beta_reduce)
    | ((fail_if_no_progress extract_lets +onlyGivenNames t); refine Ext.cut (M := 131076) (a := a₀) (b := t) ?_ (fun ht => ?_); rotate_left; clear_value t)
    | ((fail_if_no_progress extract_lets +onlyGivenNames u); have v : Nat := u; clear v; clear_value u)
    | ((fail_if_no_progress extract_lets +onlyGivenNames u); have v : List _ := u; clear v; clear_value u)
    | ((fail_if_no_progress extract_lets +onlyGivenNames u); have v : Option _ := u; clear v; fail_if_success (have v : Option State := u); clear_value u)
    | (fail_if_no_progress extract_lets +onlyGivenNames u)
    | with_reducible refine State.taint_ext (by decide) ?_
    | (with_reducible refine Ext.foldl _ ?_ ?_)
    | (with_reducible refine Ext.foldl_fst _ ?_ ?_)
    | split
    | (clear_value *; split)
    | (unfold t)
    | (unfold u; try beta_reduce)

end Sys2Proof.Machine
end

