-- ==== Sys2Proof/Laws/ExtLadder.lean ====
section
/-!
SUPPORT. What each operation of Machine/Ladder.lean can change: one lemma each.
-/
namespace Sys2Proof.Machine

theorem State.setLadRung_ext {s : State} {p i v : Nat} {M₀ : Nat} {a₀ : State} (hM : Within 112 M₀) (h₀ : Ext M₀ a₀ s) :
    Ext M₀ a₀ (State.setLadRung s p i v) := by
  refine Ext.via hM h₀ ?_
  clear hM h₀ M₀ a₀
  suffices H : ∀ a₀, Ext 112 a₀ s → Ext 112 a₀ (State.setLadRung s p i v) from H s (Ext.refl _ _)
  intro a₀ h₀
  unfold State.setLadRung
  repeat' first
    | with_reducible assumption
    | (with_reducible intro _; intros; try beta_reduce)
    | with_reducible refine State.setPart_ext (by decide) ?_
    | with_reducible refine State.storeLE_ext (by decide) ?_
    | split
    | (refine Ext.upd ?_ ?_ ?_ ?_ ?_ ?_ ?_ ?_ ?_ ?_ ?_ ?_ ?_ ?_ ?_ ?_ ?_ ?_ ?_ ?_ <;> first | rfl | exact fun _ => rfl | exact fun h => absurd h (by decide) | skip)

theorem State.setInst_ext {s : State} {k : Nat} {x : Option LadInst} {M₀ : Nat} {a₀ : State} (hM : Within 32768 M₀) (h₀ : Ext M₀ a₀ s) :
    Ext M₀ a₀ (State.setInst s k x) := by
  refine Ext.via hM h₀ ?_
  clear hM h₀ M₀ a₀
  suffices H : ∀ a₀, Ext 32768 a₀ s → Ext 32768 a₀ (State.setInst s k x) from H s (Ext.refl _ _)
  intro a₀ h₀
  unfold State.setInst
  repeat' first
    | with_reducible assumption
    | (with_reducible intro _; intros; try beta_reduce)
    | split
    | (refine Ext.upd ?_ ?_ ?_ ?_ ?_ ?_ ?_ ?_ ?_ ?_ ?_ ?_ ?_ ?_ ?_ ?_ ?_ ?_ ?_ ?_ <;> first | rfl | exact fun _ => rfl | exact fun h => absurd h (by decide) | skip)

theorem State.ladOpenUpdate_ext {s : State} {p : Nat} {M₀ : Nat} {a₀ : State} (hM : Within 4 M₀) (h₀ : Ext M₀ a₀ s) :
    Ext M₀ a₀ (State.ladOpenUpdate s p) := by
  refine Ext.via hM h₀ ?_
  clear hM h₀ M₀ a₀
  suffices H : ∀ a₀, Ext 4 a₀ s → Ext 4 a₀ (State.ladOpenUpdate s p) from H s (Ext.refl _ _)
  intro a₀ h₀
  unfold State.ladOpenUpdate
  repeat' first
    | with_reducible assumption
    | (with_reducible intro _; intros; try beta_reduce)
    | with_reducible refine State.putB_ext (by decide) ?_
    | split

theorem State.ladTop_ext {s : State} {p ctr rung : Nat} {M₀ : Nat} {a₀ : State} (hM : Within 132 M₀) (h₀ : Ext M₀ a₀ s) :
    Ext M₀ a₀ (State.ladTop s p ctr rung) := by
  refine Ext.via hM h₀ ?_
  clear hM h₀ M₀ a₀
  suffices H : ∀ a₀, Ext 132 a₀ s → Ext 132 a₀ (State.ladTop s p ctr rung) from H s (Ext.refl _ _)
  intro a₀ h₀
  unfold State.ladTop
  repeat' first
    | with_reducible assumption
    | (with_reducible intro _; intros; try beta_reduce)
    | with_reducible refine State.bumpSat_ext (by decide) ?_
    | with_reducible refine State.event_ext (by decide) ?_
    | split

theorem State.trigger_ext {s : State} {slot : Nat} {M₀ : Nat} {a₀ : State} (hM : Within 32964 M₀) (h₀ : Ext M₀ a₀ s) :
    Ext M₀ a₀ (State.trigger s slot) := by
  refine Ext.via hM h₀ ?_
  clear hM h₀ M₀ a₀
  suffices H : ∀ a₀, Ext 32964 a₀ s → Ext 32964 a₀ (State.trigger s slot) from H s (Ext.refl _ _)
  intro a₀ h₀
  unfold State.trigger
  repeat' first
    | with_reducible assumption
    | (with_reducible intro _; intros; try beta_reduce)
    | ((fail_if_no_progress extract_lets +onlyGivenNames t); refine Ext.cut (M := 32964) (a := a₀) (b := t) ?_ (fun ht => ?_); rotate_left; clear_value t)
    | ((fail_if_no_progress extract_lets +onlyGivenNames u); have v : Nat := u; clear v; clear_value u)
    | ((fail_if_no_progress extract_lets +onlyGivenNames u); have v : List _ := u; clear v; clear_value u)
    | ((fail_if_no_progress extract_lets +onlyGivenNames u); have v : Option _ := u; clear v; fail_if_success (have v : Option State := u); clear_value u)
    | (fail_if_no_progress extract_lets +onlyGivenNames u)
    | with_reducible refine State.setOp_ext (by decide) ?_
    | with_reducible refine State.ladTop_ext (by decide) ?_
    | with_reducible refine State.setInst_ext (by decide) ?_
    | split
    | (clear_value *; split)
    | (unfold t)
    | (unfold u; try beta_reduce)
    | (refine Ext.upd ?_ ?_ ?_ ?_ ?_ ?_ ?_ ?_ ?_ ?_ ?_ ?_ ?_ ?_ ?_ ?_ ?_ ?_ ?_ ?_ <;> first | rfl | exact fun _ => rfl | exact fun h => absurd h (by decide) | skip)

theorem ladderRise_ext {k : Nat} {s : State} {M₀ : Nat} {a₀ : State} (hM : Within 33012 M₀) (h₀ : Ext M₀ a₀ s) :
    Ext M₀ a₀ (ladderRise k s) := by
  refine Ext.via hM h₀ ?_
  clear hM h₀ M₀ a₀
  suffices H : ∀ a₀, Ext 33012 a₀ s → Ext 33012 a₀ (ladderRise k s) from H s (Ext.refl _ _)
  intro a₀ h₀
  unfold ladderRise
  repeat' first
    | with_reducible assumption
    | (with_reducible intro _; intros; try beta_reduce)
    | ((fail_if_no_progress extract_lets +onlyGivenNames t); refine Ext.cut (M := 33012) (a := a₀) (b := t) ?_ (fun ht => ?_); rotate_left; clear_value t)
    | ((fail_if_no_progress extract_lets +onlyGivenNames u); have v : Nat := u; clear v; clear_value u)
    | ((fail_if_no_progress extract_lets +onlyGivenNames u); have v : List _ := u; clear v; clear_value u)
    | ((fail_if_no_progress extract_lets +onlyGivenNames u); have v : Option _ := u; clear v; fail_if_success (have v : Option State := u); clear_value u)
    | (fail_if_no_progress extract_lets +onlyGivenNames u)
    | with_reducible refine State.setInst_ext (by decide) ?_
    | with_reducible refine State.setLadRung_ext (by decide) ?_
    | with_reducible refine State.storeLE_ext (by decide) ?_
    | with_reducible refine State.bumpSat_ext (by decide) ?_
    | with_reducible refine State.put_ext (by decide) ?_
    | with_reducible refine State.orFlags_ext (by decide) ?_
    | with_reducible refine State.mapBook_ext (by decide) ?_
    | with_reducible refine State.event_ext (by decide) ?_
    | (with_reducible refine Ext.foldl _ ?_ ?_)
    | (with_reducible refine Ext.foldl_fst _ ?_ ?_)
    | split
    | (clear_value *; split)
    | (unfold t)
    | (unfold u; try beta_reduce)
    | (refine Ext.upd ?_ ?_ ?_ ?_ ?_ ?_ ?_ ?_ ?_ ?_ ?_ ?_ ?_ ?_ ?_ ?_ ?_ ?_ ?_ ?_ <;> first | rfl | exact fun _ => rfl | exact fun h => absurd h (by decide) | skip)

theorem ladderRungWrite_ext {p i v : Nat} {s : State} {M₀ : Nat} {a₀ : State} (hM : Within 180 M₀) (h₀ : Ext M₀ a₀ s) :
    Ext M₀ a₀ (ladderRungWrite p i v s) := by
  refine Ext.via hM h₀ ?_
  clear hM h₀ M₀ a₀
  suffices H : ∀ a₀, Ext 180 a₀ s → Ext 180 a₀ (ladderRungWrite p i v s) from H s (Ext.refl _ _)
  intro a₀ h₀
  unfold ladderRungWrite
  repeat' first
    | with_reducible assumption
    | (with_reducible intro _; intros; try beta_reduce)
    | with_reducible refine State.event_ext (by decide) ?_
    | with_reducible refine State.storeLE_ext (by decide) ?_
    | split

theorem State.guardRungs_ext {before after : State} {M₀ : Nat} {a₀ : State} (hM : Within 148 M₀) (h₀ : Ext M₀ a₀ after) :
    Ext M₀ a₀ (State.guardRungs before after) := by
  refine Ext.via hM h₀ ?_
  clear hM h₀ M₀ a₀
  suffices H : ∀ a₀, Ext 148 a₀ after → Ext 148 a₀ (State.guardRungs before after) from H after (Ext.refl _ _)
  intro a₀ h₀
  unfold State.guardRungs
  repeat' first
    | with_reducible assumption
    | (with_reducible intro _; intros; try beta_reduce)
    | ((fail_if_no_progress extract_lets +onlyGivenNames t); refine Ext.cut (M := 148) (a := a₀) (b := t) ?_ (fun ht => ?_); rotate_left; clear_value t)
    | ((fail_if_no_progress extract_lets +onlyGivenNames u); have v : Nat := u; clear v; clear_value u)
    | ((fail_if_no_progress extract_lets +onlyGivenNames u); have v : List _ := u; clear v; clear_value u)
    | ((fail_if_no_progress extract_lets +onlyGivenNames u); have v : Option _ := u; clear v; fail_if_success (have v : Option State := u); clear_value u)
    | (fail_if_no_progress extract_lets +onlyGivenNames u)
    | with_reducible refine State.poke_ext (by decide) ?_
    | with_reducible refine State.event_ext (by decide) ?_
    | (with_reducible refine Ext.foldl _ ?_ ?_)
    | (with_reducible refine Ext.foldl_fst _ ?_ ?_)
    | split
    | (clear_value *; split)
    | (unfold t)
    | (unfold u; try beta_reduce)

end Sys2Proof.Machine
end

