-- ==== Sys2Proof/Laws/ExtStreams.lean ====
section
/-!
SUPPORT. What each operation of Machine/Streams.lean can change: one lemma each.
-/
namespace Sys2Proof.Machine

theorem State.setCtx_ext {s : State} {i : Nat} {c : Ctx} {M₀ : Nat} {a₀ : State} (hM : Within 4096 M₀) (h₀ : Ext M₀ a₀ s) :
    Ext M₀ a₀ (State.setCtx s i c) := by
  refine Ext.via hM h₀ ?_
  clear hM h₀ M₀ a₀
  suffices H : ∀ a₀, Ext 4096 a₀ s → Ext 4096 a₀ (State.setCtx s i c) from H s (Ext.refl _ _)
  intro a₀ h₀
  unfold State.setCtx
  repeat' first
    | with_reducible assumption
    | (with_reducible intro _; intros; try beta_reduce)
    | split
    | (refine Ext.upd ?_ ?_ ?_ ?_ ?_ ?_ ?_ ?_ ?_ ?_ ?_ ?_ ?_ ?_ ?_ ?_ ?_ ?_ ?_ ?_ <;> first | rfl | exact fun _ => rfl | exact fun h => absurd h (by decide) | skip)

theorem State.poolUpdate_ext {s : State} {home : Nat} {M₀ : Nat} {a₀ : State} (hM : Within 4 M₀) (h₀ : Ext M₀ a₀ s) :
    Ext M₀ a₀ (State.poolUpdate s home) := by
  refine Ext.via hM h₀ ?_
  clear hM h₀ M₀ a₀
  suffices H : ∀ a₀, Ext 4 a₀ s → Ext 4 a₀ (State.poolUpdate s home) from H s (Ext.refl _ _)
  intro a₀ h₀
  unfold State.poolUpdate
  repeat' first
    | with_reducible assumption
    | (with_reducible intro _; intros; try beta_reduce)
    | ((fail_if_no_progress extract_lets +onlyGivenNames t); refine Ext.cut (M := 4) (a := a₀) (b := t) ?_ (fun ht => ?_); rotate_left; clear_value t)
    | ((fail_if_no_progress extract_lets +onlyGivenNames u); have v : Nat := u; clear v; clear_value u)
    | ((fail_if_no_progress extract_lets +onlyGivenNames u); have v : List _ := u; clear v; clear_value u)
    | ((fail_if_no_progress extract_lets +onlyGivenNames u); have v : Option _ := u; clear v; fail_if_success (have v : Option State := u); clear_value u)
    | (fail_if_no_progress extract_lets +onlyGivenNames u)
    | with_reducible refine State.put_ext (by decide) ?_
    | (with_reducible refine Ext.foldl _ ?_ ?_)
    | (with_reducible refine Ext.foldl_fst _ ?_ ?_)
    | split
    | (clear_value *; split)
    | (unfold t)
    | (unfold u; try beta_reduce)

theorem State.poolTurn_ext {s : State} {i : Nat} {M₀ : Nat} {a₀ : State} (hM : Within 4096 M₀) (h₀ : Ext M₀ a₀ s) :
    Ext M₀ a₀ (State.poolTurn s i) := by
  refine Ext.via hM h₀ ?_
  clear hM h₀ M₀ a₀
  suffices H : ∀ a₀, Ext 4096 a₀ s → Ext 4096 a₀ (State.poolTurn s i) from H s (Ext.refl _ _)
  intro a₀ h₀
  unfold State.poolTurn
  repeat' first
    | with_reducible assumption
    | (with_reducible intro _; intros; try beta_reduce)
    | split
    | (refine Ext.upd ?_ ?_ ?_ ?_ ?_ ?_ ?_ ?_ ?_ ?_ ?_ ?_ ?_ ?_ ?_ ?_ ?_ ?_ ?_ ?_ <;> first | rfl | exact fun _ => rfl | exact fun h => absurd h (by decide) | skip)

theorem State.noteOut_ext {s : State} {slot : Nat} {rs : List (Nat × Nat)} {M₀ : Nat} {a₀ : State} (hM : Within 64 M₀) (h₀ : Ext M₀ a₀ s) :
    Ext M₀ a₀ (State.noteOut s slot rs) := by
  refine Ext.via hM h₀ ?_
  clear hM h₀ M₀ a₀
  suffices H : ∀ a₀, Ext 64 a₀ s → Ext 64 a₀ (State.noteOut s slot rs) from H s (Ext.refl _ _)
  intro a₀ h₀
  unfold State.noteOut
  repeat' first
    | with_reducible assumption
    | (with_reducible intro _; intros; try beta_reduce)
    | with_reducible refine State.setOp_ext (by decide) ?_
    | split
    | (refine Ext.upd ?_ ?_ ?_ ?_ ?_ ?_ ?_ ?_ ?_ ?_ ?_ ?_ ?_ ?_ ?_ ?_ ?_ ?_ ?_ ?_ <;> first | rfl | exact fun _ => rfl | exact fun h => absurd h (by decide) | skip)

theorem State.countBursts_ext {s : State} {home n : Nat} {M₀ : Nat} {a₀ : State} (hM : Within 4 M₀) (h₀ : Ext M₀ a₀ s) :
    Ext M₀ a₀ (State.countBursts s home n) := by
  refine Ext.via hM h₀ ?_
  clear hM h₀ M₀ a₀
  suffices H : ∀ a₀, Ext 4 a₀ s → Ext 4 a₀ (State.countBursts s home n) from H s (Ext.refl _ _)
  intro a₀ h₀
  unfold State.countBursts
  repeat' first
    | with_reducible assumption
    | (with_reducible intro _; intros; try beta_reduce)
    | with_reducible refine State.bump_ext (by decide) ?_
    | split

theorem State.consume_ext {s : State} {slot i h : Nat} {ds : List DescP} {last : Bool} {M₀ : Nat} {a₀ : State} (hM : Within 4164 M₀) (h₀ : Ext M₀ a₀ s) :
    Ext M₀ a₀ (State.consume s slot i h ds last) := by
  refine Ext.via hM h₀ ?_
  clear hM h₀ M₀ a₀
  suffices H : ∀ a₀, Ext 4164 a₀ s → Ext 4164 a₀ (State.consume s slot i h ds last) from H s (Ext.refl _ _)
  intro a₀ h₀
  unfold State.consume
  repeat' first
    | with_reducible assumption
    | (with_reducible intro _; intros; try beta_reduce)
    | ((fail_if_no_progress extract_lets +onlyGivenNames t); refine Ext.cut (M := 4164) (a := a₀) (b := t) ?_ (fun ht => ?_); rotate_left; clear_value t)
    | ((fail_if_no_progress extract_lets +onlyGivenNames u); have v : Nat := u; clear v; clear_value u)
    | ((fail_if_no_progress extract_lets +onlyGivenNames u); have v : List _ := u; clear v; clear_value u)
    | ((fail_if_no_progress extract_lets +onlyGivenNames u); have v : Option _ := u; clear v; fail_if_success (have v : Option State := u); clear_value u)
    | (fail_if_no_progress extract_lets +onlyGivenNames u)
    | with_reducible refine State.noteOut_ext (by decide) ?_
    | with_reducible refine State.setCtx_ext (by decide) ?_
    | with_reducible refine State.countBursts_ext (by decide) ?_
    | with_reducible refine State.setOp_ext (by decide) ?_
    | with_reducible refine State.poolUpdate_ext (by decide) ?_
    | split
    | (clear_value *; split)
    | (unfold t)
    | (unfold u; try beta_reduce)
    | (refine Ext.upd ?_ ?_ ?_ ?_ ?_ ?_ ?_ ?_ ?_ ?_ ?_ ?_ ?_ ?_ ?_ ?_ ?_ ?_ ?_ ?_ <;> first | rfl | exact fun _ => rfl | exact fun h => absurd h (by decide) | skip)

theorem State.makeStale_ext {s : State} {i : Nat} {M₀ : Nat} {a₀ : State} (hM : Within 4100 M₀) (h₀ : Ext M₀ a₀ s) :
    Ext M₀ a₀ (State.makeStale s i) := by
  refine Ext.via hM h₀ ?_
  clear hM h₀ M₀ a₀
  suffices H : ∀ a₀, Ext 4100 a₀ s → Ext 4100 a₀ (State.makeStale s i) from H s (Ext.refl _ _)
  intro a₀ h₀
  unfold State.makeStale
  repeat' first
    | with_reducible assumption
    | (with_reducible intro _; intros; try beta_reduce)
    | ((fail_if_no_progress extract_lets +onlyGivenNames t); refine Ext.cut (M := 4100) (a := a₀) (b := t) ?_ (fun ht => ?_); rotate_left; clear_value t)
    | ((fail_if_no_progress extract_lets +onlyGivenNames u); have v : Nat := u; clear v; clear_value u)
    | ((fail_if_no_progress extract_lets +onlyGivenNames u); have v : List _ := u; clear v; clear_value u)
    | ((fail_if_no_progress extract_lets +onlyGivenNames u); have v : Option _ := u; clear v; fail_if_success (have v : Option State := u); clear_value u)
    | (fail_if_no_progress extract_lets +onlyGivenNames u)
    | with_reducible refine State.setCtx_ext (by decide) ?_
    | with_reducible refine State.put_ext (by decide) ?_
    | split
    | (clear_value *; split)
    | (unfold t)
    | (unfold u; try beta_reduce)
    | (refine Ext.upd ?_ ?_ ?_ ?_ ?_ ?_ ?_ ?_ ?_ ?_ ?_ ?_ ?_ ?_ ?_ ?_ ?_ ?_ ?_ ?_ <;> first | rfl | exact fun _ => rfl | exact fun h => absurd h (by decide) | skip)

theorem State.descFault_ext {s : State} {slot i code : Nat} {seqBad span : Bool} {M₀ : Nat} {a₀ : State} (hM : Within 4292 M₀) (h₀ : Ext M₀ a₀ s) :
    Ext M₀ a₀ (State.descFault s slot i code seqBad span) := by
  refine Ext.via hM h₀ ?_
  clear hM h₀ M₀ a₀
  suffices H : ∀ a₀, Ext 4292 a₀ s → Ext 4292 a₀ (State.descFault s slot i code seqBad span) from H s (Ext.refl _ _)
  intro a₀ h₀
  unfold State.descFault
  repeat' first
    | with_reducible assumption
    | (with_reducible intro _; intros; try beta_reduce)
    | ((fail_if_no_progress extract_lets +onlyGivenNames t); refine Ext.cut (M := 4292) (a := a₀) (b := t) ?_ (fun ht => ?_); rotate_left; clear_value t)
    | ((fail_if_no_progress extract_lets +onlyGivenNames u); have v : Nat := u; clear v; clear_value u)
    | ((fail_if_no_progress extract_lets +onlyGivenNames u); have v : List _ := u; clear v; clear_value u)
    | ((fail_if_no_progress extract_lets +onlyGivenNames u); have v : Option _ := u; clear v; fail_if_success (have v : Option State := u); clear_value u)
    | (fail_if_no_progress extract_lets +onlyGivenNames u)
    | with_reducible refine State.put_ext (by decide) ?_
    | with_reducible refine State.makeStale_ext (by decide) ?_
    | with_reducible refine State.generic_ext (by decide) ?_
    | with_reducible refine State.finish_ext (by decide) ?_
    | split
    | (clear_value *; split)
    | (unfold t)
    | (unfold u; try beta_reduce)

theorem State.bindCtx_ext {s : State} {admitNo i : Nat} {M₀ : Nat} {a₀ : State} (hM : Within 4096 M₀) (h₀ : Ext M₀ a₀ s) :
    Ext M₀ a₀ (State.bindCtx s admitNo i) := by
  refine Ext.via hM h₀ ?_
  clear hM h₀ M₀ a₀
  suffices H : ∀ a₀, Ext 4096 a₀ s → Ext 4096 a₀ (State.bindCtx s admitNo i) from H s (Ext.refl _ _)
  intro a₀ h₀
  unfold State.bindCtx
  repeat' first
    | with_reducible assumption
    | (with_reducible intro _; intros; try beta_reduce)
    | ((fail_if_no_progress extract_lets +onlyGivenNames t); refine Ext.cut (M := 4096) (a := a₀) (b := t) ?_ (fun ht => ?_); rotate_left; clear_value t)
    | ((fail_if_no_progress extract_lets +onlyGivenNames u); have v : Nat := u; clear v; clear_value u)
    | ((fail_if_no_progress extract_lets +onlyGivenNames u); have v : List _ := u; clear v; clear_value u)
    | ((fail_if_no_progress extract_lets +onlyGivenNames u); have v : Option _ := u; clear v; fail_if_success (have v : Option State := u); clear_value u)
    | (fail_if_no_progress extract_lets +onlyGivenNames u)
    | with_reducible refine State.setCtx_ext (by decide) ?_
    | split
    | (clear_value *; split)
    | (unfold t)
    | (unfold u; try beta_reduce)
    | (refine Ext.upd ?_ ?_ ?_ ?_ ?_ ?_ ?_ ?_ ?_ ?_ ?_ ?_ ?_ ?_ ?_ ?_ ?_ ?_ ?_ ?_ <;> first | rfl | exact fun _ => rfl | exact fun h => absurd h (by decide) | skip)

theorem State.unbindCtx_ext {s : State} {admitNo i : Nat} {M₀ : Nat} {a₀ : State} (hM : Within 4096 M₀) (h₀ : Ext M₀ a₀ s) :
    Ext M₀ a₀ (State.unbindCtx s admitNo i) := by
  refine Ext.via hM h₀ ?_
  clear hM h₀ M₀ a₀
  suffices H : ∀ a₀, Ext 4096 a₀ s → Ext 4096 a₀ (State.unbindCtx s admitNo i) from H s (Ext.refl _ _)
  intro a₀ h₀
  unfold State.unbindCtx
  repeat' first
    | with_reducible assumption
    | (with_reducible intro _; intros; try beta_reduce)
    | ((fail_if_no_progress extract_lets +onlyGivenNames t); refine Ext.cut (M := 4096) (a := a₀) (b := t) ?_ (fun ht => ?_); rotate_left; clear_value t)
    | ((fail_if_no_progress extract_lets +onlyGivenNames u); have v : Nat := u; clear v; clear_value u)
    | ((fail_if_no_progress extract_lets +onlyGivenNames u); have v : List _ := u; clear v; clear_value u)
    | ((fail_if_no_progress extract_lets +onlyGivenNames u); have v : Option _ := u; clear v; fail_if_success (have v : Option State := u); clear_value u)
    | (fail_if_no_progress extract_lets +onlyGivenNames u)
    | with_reducible refine State.setCtx_ext (by decide) ?_
    | split
    | (clear_value *; split)
    | (unfold t)
    | (unfold u; try beta_reduce)
    | (refine Ext.upd ?_ ?_ ?_ ?_ ?_ ?_ ?_ ?_ ?_ ?_ ?_ ?_ ?_ ?_ ?_ ?_ ?_ ?_ ?_ ?_ <;> first | rfl | exact fun _ => rfl | exact fun h => absurd h (by decide) | skip)

theorem State.advanceRng_ext {s : State} {i e : Nat} {M₀ : Nat} {a₀ : State} (hM : Within 4096 M₀) (h₀ : Ext M₀ a₀ s) :
    Ext M₀ a₀ (State.advanceRng s i e) := by
  refine Ext.via hM h₀ ?_
  clear hM h₀ M₀ a₀
  suffices H : ∀ a₀, Ext 4096 a₀ s → Ext 4096 a₀ (State.advanceRng s i e) from H s (Ext.refl _ _)
  intro a₀ h₀
  unfold State.advanceRng
  repeat' first
    | with_reducible assumption
    | (with_reducible intro _; intros; try beta_reduce)
    | ((fail_if_no_progress extract_lets +onlyGivenNames t); refine Ext.cut (M := 4096) (a := a₀) (b := t) ?_ (fun ht => ?_); rotate_left; clear_value t)
    | ((fail_if_no_progress extract_lets +onlyGivenNames u); have v : Nat := u; clear v; clear_value u)
    | ((fail_if_no_progress extract_lets +onlyGivenNames u); have v : List _ := u; clear v; clear_value u)
    | ((fail_if_no_progress extract_lets +onlyGivenNames u); have v : Option _ := u; clear v; fail_if_success (have v : Option State := u); clear_value u)
    | (fail_if_no_progress extract_lets +onlyGivenNames u)
    | with_reducible refine State.setCtx_ext (by decide) ?_
    | split
    | (clear_value *; split)
    | (unfold t)
    | (unfold u; try beta_reduce)
    | (refine Ext.upd ?_ ?_ ?_ ?_ ?_ ?_ ?_ ?_ ?_ ?_ ?_ ?_ ?_ ?_ ?_ ?_ ?_ ?_ ?_ ?_ <;> first | rfl | exact fun _ => rfl | exact fun h => absurd h (by decide) | skip)

theorem State.advancePos_ext {s : State} {i n : Nat} {M₀ : Nat} {a₀ : State} (hM : Within 4096 M₀) (h₀ : Ext M₀ a₀ s) :
    Ext M₀ a₀ (State.advancePos s i n) := by
  refine Ext.via hM h₀ ?_
  clear hM h₀ M₀ a₀
  suffices H : ∀ a₀, Ext 4096 a₀ s → Ext 4096 a₀ (State.advancePos s i n) from H s (Ext.refl _ _)
  intro a₀ h₀
  unfold State.advancePos
  repeat' first
    | with_reducible assumption
    | (with_reducible intro _; intros; try beta_reduce)
    | ((fail_if_no_progress extract_lets +onlyGivenNames t); refine Ext.cut (M := 4096) (a := a₀) (b := t) ?_ (fun ht => ?_); rotate_left; clear_value t)
    | ((fail_if_no_progress extract_lets +onlyGivenNames u); have v : Nat := u; clear v; clear_value u)
    | ((fail_if_no_progress extract_lets +onlyGivenNames u); have v : List _ := u; clear v; clear_value u)
    | ((fail_if_no_progress extract_lets +onlyGivenNames u); have v : Option _ := u; clear v; fail_if_success (have v : Option State := u); clear_value u)
    | (fail_if_no_progress extract_lets +onlyGivenNames u)
    | with_reducible refine State.setCtx_ext (by decide) ?_
    | split
    | (clear_value *; split)
    | (unfold t)
    | (unfold u; try beta_reduce)
    | (refine Ext.upd ?_ ?_ ?_ ?_ ?_ ?_ ?_ ?_ ?_ ?_ ?_ ?_ ?_ ?_ ?_ ?_ ?_ ?_ ?_ ?_ <;> first | rfl | exact fun _ => rfl | exact fun h => absurd h (by decide) | skip)

theorem State.countBytes_ext {s : State} {i cls n : Nat} {M₀ : Nat} {a₀ : State} (hM : Within 4100 M₀) (h₀ : Ext M₀ a₀ s) :
    Ext M₀ a₀ (State.countBytes s i cls n) := by
  refine Ext.via hM h₀ ?_
  clear hM h₀ M₀ a₀
  suffices H : ∀ a₀, Ext 4100 a₀ s → Ext 4100 a₀ (State.countBytes s i cls n) from H s (Ext.refl _ _)
  intro a₀ h₀
  unfold State.countBytes
  repeat' first
    | with_reducible assumption
    | (with_reducible intro _; intros; try beta_reduce)
    | ((fail_if_no_progress extract_lets +onlyGivenNames t); refine Ext.cut (M := 4100) (a := a₀) (b := t) ?_ (fun ht => ?_); rotate_left; clear_value t)
    | ((fail_if_no_progress extract_lets +onlyGivenNames u); have v : Nat := u; clear v; clear_value u)
    | ((fail_if_no_progress extract_lets +onlyGivenNames u); have v : List _ := u; clear v; clear_value u)
    | ((fail_if_no_progress extract_lets +onlyGivenNames u); have v : Option _ := u; clear v; fail_if_success (have v : Option State := u); clear_value u)
    | (fail_if_no_progress extract_lets +onlyGivenNames u)
    | with_reducible refine State.setCtx_ext (by decide) ?_
    | with_reducible refine State.bump_ext (by decide) ?_
    | with_reducible refine State.put_ext (by decide) ?_
    | with_reducible refine State.poolUpdate_ext (by decide) ?_
    | split
    | (clear_value *; split)
    | (unfold t)
    | (unfold u; try beta_reduce)
    | (refine Ext.upd ?_ ?_ ?_ ?_ ?_ ?_ ?_ ?_ ?_ ?_ ?_ ?_ ?_ ?_ ?_ ?_ ?_ ?_ ?_ ?_ <;> first | rfl | exact fun _ => rfl | exact fun h => absurd h (by decide) | skip)

theorem State.countRemote_ext {s : State} {a n : Nat} {M₀ : Nat} {a₀ : State} (hM : Within 4 M₀) (h₀ : Ext M₀ a₀ s) :
    Ext M₀ a₀ (State.countRemote s a n) := by
  refine Ext.via hM h₀ ?_
  clear hM h₀ M₀ a₀
  suffices H : ∀ a₀, Ext 4 a₀ s → Ext 4 a₀ (State.countRemote s a n) from H s (Ext.refl _ _)
  intro a₀ h₀
  unfold State.countRemote
  repeat' first
    | with_reducible assumption
    | (with_reducible intro _; intros; try beta_reduce)
    | ((fail_if_no_progress extract_lets +onlyGivenNames t); refine Ext.cut (M := 4) (a := a₀) (b := t) ?_ (fun ht => ?_); rotate_left; clear_value t)
    | ((fail_if_no_progress extract_lets +onlyGivenNames u); have v : Nat := u; clear v; clear_value u)
    | ((fail_if_no_progress extract_lets +onlyGivenNames u); have v : List _ := u; clear v; clear_value u)
    | ((fail_if_no_progress extract_lets +onlyGivenNames u); have v : Option _ := u; clear v; fail_if_success (have v : Option State := u); clear_value u)
    | (fail_if_no_progress extract_lets +onlyGivenNames u)
    | with_reducible refine State.bump_ext (by decide) ?_
    | (with_reducible refine Ext.foldl _ ?_ ?_)
    | (with_reducible refine Ext.foldl_fst _ ?_ ?_)
    | split
    | (clear_value *; split)
    | (unfold t)
    | (unfold u; try beta_reduce)

theorem State.clocks_ext {s : State} {M₀ : Nat} {a₀ : State} (hM : Within 4096 M₀) (h₀ : Ext M₀ a₀ s) :
    Ext M₀ a₀ (State.clocks s) := by
  refine Ext.via hM h₀ ?_
  clear hM h₀ M₀ a₀
  suffices H : ∀ a₀, Ext 4096 a₀ s → Ext 4096 a₀ (State.clocks s) from H s (Ext.refl _ _)
  intro a₀ h₀
  unfold State.clocks
  repeat' first
    | with_reducible assumption
    | (with_reducible intro _; intros; try beta_reduce)
    | ((fail_if_no_progress extract_lets +onlyGivenNames t); refine Ext.cut (M := 4096) (a := a₀) (b := t) ?_ (fun ht => ?_); rotate_left; clear_value t)
    | ((fail_if_no_progress extract_lets +onlyGivenNames u); have v : Nat := u; clear v; clear_value u)
    | ((fail_if_no_progress extract_lets +onlyGivenNames u); have v : List _ := u; clear v; clear_value u)
    | ((fail_if_no_progress extract_lets +onlyGivenNames u); have v : Option _ := u; clear v; fail_if_success (have v : Option State := u); clear_value u)
    | (fail_if_no_progress extract_lets +onlyGivenNames u)
    | split
    | (clear_value *; split)
    | (unfold t)
    | (unfold u; try beta_reduce)
    | (refine Ext.upd ?_ ?_ ?_ ?_ ?_ ?_ ?_ ?_ ?_ ?_ ?_ ?_ ?_ ?_ ?_ ?_ ?_ ?_ ?_ ?_ <;> first | rfl | exact fun _ => rfl | exact fun h => absurd h (by decide) | skip)

theorem State.setStop_ext {s : State} {p : Nat} {r : Option StopRun} {M₀ : Nat} {a₀ : State} (hM : Within 266240 M₀) (h₀ : Ext M₀ a₀ s) :
    Ext M₀ a₀ (State.setStop s p r) := by
  refine Ext.via hM h₀ ?_
  clear hM h₀ M₀ a₀
  suffices H : ∀ a₀, Ext 266240 a₀ s → Ext 266240 a₀ (State.setStop s p r) from H s (Ext.refl _ _)
  intro a₀ h₀
  unfold State.setStop
  repeat' first
    | with_reducible assumption
    | (with_reducible intro _; intros; try beta_reduce)
    | with_reducible refine State.clocks_ext (by decide) ?_
    | split
    | (refine Ext.upd ?_ ?_ ?_ ?_ ?_ ?_ ?_ ?_ ?_ ?_ ?_ ?_ ?_ ?_ ?_ ?_ ?_ ?_ ?_ ?_ <;> first | rfl | exact fun _ => rfl | exact fun h => absurd h (by decide) | skip)

theorem State.waitFor_ext {s : State} {i kind : Nat} {M₀ : Nat} {a₀ : State} (hM : Within 4096 M₀) (h₀ : Ext M₀ a₀ s) :
    Ext M₀ a₀ (State.waitFor s i kind) := by
  refine Ext.via hM h₀ ?_
  clear hM h₀ M₀ a₀
  suffices H : ∀ a₀, Ext 4096 a₀ s → Ext 4096 a₀ (State.waitFor s i kind) from H s (Ext.refl _ _)
  intro a₀ h₀
  unfold State.waitFor
  repeat' first
    | with_reducible assumption
    | (with_reducible intro _; intros; try beta_reduce)
    | ((fail_if_no_progress extract_lets +onlyGivenNames t); refine Ext.cut (M := 4096) (a := a₀) (b := t) ?_ (fun ht => ?_); rotate_left; clear_value t)
    | ((fail_if_no_progress extract_lets +onlyGivenNames u); have v : Nat := u; clear v; clear_value u)
    | ((fail_if_no_progress extract_lets +onlyGivenNames u); have v : List _ := u; clear v; clear_value u)
    | ((fail_if_no_progress extract_lets +onlyGivenNames u); have v : Option _ := u; clear v; fail_if_success (have v : Option State := u); clear_value u)
    | (fail_if_no_progress extract_lets +onlyGivenNames u)
    | with_reducible refine State.setCtx_ext (by decide) ?_
    | split
    | (clear_value *; split)
    | (unfold t)
    | (unfold u; try beta_reduce)
    | (refine Ext.upd ?_ ?_ ?_ ?_ ?_ ?_ ?_ ?_ ?_ ?_ ?_ ?_ ?_ ?_ ?_ ?_ ?_ ?_ ?_ ?_ <;> first | rfl | exact fun _ => rfl | exact fun h => absurd h (by decide) | skip)

theorem State.strmAnswer_ext {s : State} {i res : Nat} {close : Bool} {M₀ : Nat} {a₀ : State} (hM : Within 4 M₀) (h₀ : Ext M₀ a₀ s) :
    Ext M₀ a₀ (State.strmAnswer s i res close) := by
  refine Ext.via hM h₀ ?_
  clear hM h₀ M₀ a₀
  suffices H : ∀ a₀, Ext 4 a₀ s → Ext 4 a₀ (State.strmAnswer s i res close) from H s (Ext.refl _ _)
  intro a₀ h₀
  unfold State.strmAnswer
  repeat' first
    | with_reducible assumption
    | (with_reducible intro _; intros; try beta_reduce)
    | with_reducible refine State.put_ext (by decide) ?_
    | with_reducible refine State.putB_ext (by decide) ?_
    | split

theorem strmOpen_ext {w : Writer} {v : Nat} {s : State} {M₀ : Nat} {a₀ : State} (hM : Within 4100 M₀) (h₀ : Ext M₀ a₀ s) :
    Ext M₀ a₀ (strmOpen w v s) := by
  refine Ext.via hM h₀ ?_
  clear hM h₀ M₀ a₀
  suffices H : ∀ a₀, Ext 4100 a₀ s → Ext 4100 a₀ (strmOpen w v s) from H s (Ext.refl _ _)
  intro a₀ h₀
  unfold strmOpen
  repeat' first
    | with_reducible assumption
    | (with_reducible intro _; intros; try beta_reduce)
    | ((fail_if_no_progress extract_lets +onlyGivenNames t); refine Ext.cut (M := 4100) (a := a₀) (b := t) ?_ (fun ht => ?_); rotate_left; clear_value t)
    | ((fail_if_no_progress extract_lets +onlyGivenNames u); have v : Nat := u; clear v; clear_value u)
    | ((fail_if_no_progress extract_lets +onlyGivenNames u); have v : List _ := u; clear v; clear_value u)
    | ((fail_if_no_progress extract_lets +onlyGivenNames u); have v : Option _ := u; clear v; fail_if_success (have v : Option State := u); clear_value u)
    | (fail_if_no_progress extract_lets +onlyGivenNames u)
    | with_reducible refine State.strmAnswer_ext (by decide) ?_
    | with_reducible refine State.setCtx_ext (by decide) ?_
    | with_reducible refine State.poolUpdate_ext (by decide) ?_
    | split
    | (clear_value *; split)
    | (unfold t)
    | (unfold u; try beta_reduce)
    | (refine Ext.upd ?_ ?_ ?_ ?_ ?_ ?_ ?_ ?_ ?_ ?_ ?_ ?_ ?_ ?_ ?_ ?_ ?_ ?_ ?_ ?_ <;> first | rfl | exact fun _ => rfl | exact fun h => absurd h (by decide) | skip)

theorem strmClose_ext {w : Writer} {v : Nat} {s : State} {M₀ : Nat} {a₀ : State} (hM : Within 4100 M₀) (h₀ : Ext M₀ a₀ s) :
    Ext M₀ a₀ (strmClose w v s) := by
  refine Ext.via hM h₀ ?_
  clear hM h₀ M₀ a₀
  suffices H : ∀ a₀, Ext 4100 a₀ s → Ext 4100 a₀ (strmClose w v s) from H s (Ext.refl _ _)
  intro a₀ h₀
  unfold strmClose
  repeat' first
    | with_reducible assumption
    | (with_reducible intro _; intros; try beta_reduce)
    | ((fail_if_no_progress extract_lets +onlyGivenNames t); refine Ext.cut (M := 4100) (a := a₀) (b := t) ?_ (fun ht => ?_); rotate_left; clear_value t)
    | ((fail_if_no_progress extract_lets +onlyGivenNames u); have v : Nat := u; clear v; clear_value u)
    | ((fail_if_no_progress extract_lets +onlyGivenNames u); have v : List _ := u; clear v; clear_value u)
    | ((fail_if_no_progress extract_lets +onlyGivenNames u); have v : Option _ := u; clear v; fail_if_success (have v : Option State := u); clear_value u)
    | (fail_if_no_progress extract_lets +onlyGivenNames u)
    | with_reducible refine State.strmAnswer_ext (by decide) ?_
    | with_reducible refine State.setCtx_ext (by decide) ?_
    | with_reducible refine State.poolUpdate_ext (by decide) ?_
    | split
    | (clear_value *; split)
    | (unfold t)
    | (unfold u; try beta_reduce)
    | (refine Ext.upd ?_ ?_ ?_ ?_ ?_ ?_ ?_ ?_ ?_ ?_ ?_ ?_ ?_ ?_ ?_ ?_ ?_ ?_ ?_ ?_ <;> first | rfl | exact fun _ => rfl | exact fun h => absurd h (by decide) | skip)

theorem strmRingTail_ext {w : Writer} {v : Nat} {s : State} {M₀ : Nat} {a₀ : State} (hM : Within 4228 M₀) (h₀ : Ext M₀ a₀ s) :
    Ext M₀ a₀ (strmRingTail w v s) := by
  refine Ext.via hM h₀ ?_
  clear hM h₀ M₀ a₀
  suffices H : ∀ a₀, Ext 4228 a₀ s → Ext 4228 a₀ (strmRingTail w v s) from H s (Ext.refl _ _)
  intro a₀ h₀
  unfold strmRingTail
  repeat' first
    | with_reducible assumption
    | (with_reducible intro _; intros; try beta_reduce)
    | ((fail_if_no_progress extract_lets +onlyGivenNames t); refine Ext.cut (M := 4228) (a := a₀) (b := t) ?_ (fun ht => ?_); rotate_left; clear_value t)
    | ((fail_if_no_progress extract_lets +onlyGivenNames u); have v : Nat := u; clear v; clear_value u)
    | ((fail_if_no_progress extract_lets +onlyGivenNames u); have v : List _ := u; clear v; clear_value u)
    | ((fail_if_no_progress extract_lets +onlyGivenNames u); have v : Option _ := u; clear v; fail_if_success (have v : Option State := u); clear_value u)
    | (fail_if_no_progress extract_lets +onlyGivenNames u)
    | with_reducible refine State.put_ext (by decide) ?_
    | with_reducible refine State.badWrite_ext (by decide) ?_
    | with_reducible refine State.setCtx_ext (by decide) ?_
    | split
    | (clear_value *; split)
    | (unfold t)
    | (unfold u; try beta_reduce)
    | (refine Ext.upd ?_ ?_ ?_ ?_ ?_ ?_ ?_ ?_ ?_ ?_ ?_ ?_ ?_ ?_ ?_ ?_ ?_ ?_ ?_ ?_ <;> first | rfl | exact fun _ => rfl | exact fun h => absurd h (by decide) | skip)

theorem strmResync_ext {w : Writer} {v : Nat} {s : State} {M₀ : Nat} {a₀ : State} (hM : Within 4228 M₀) (h₀ : Ext M₀ a₀ s) :
    Ext M₀ a₀ (strmResync w v s) := by
  refine Ext.via hM h₀ ?_
  clear hM h₀ M₀ a₀
  suffices H : ∀ a₀, Ext 4228 a₀ s → Ext 4228 a₀ (strmResync w v s) from H s (Ext.refl _ _)
  intro a₀ h₀
  unfold strmResync
  repeat' first
    | with_reducible assumption
    | (with_reducible intro _; intros; try beta_reduce)
    | ((fail_if_no_progress extract_lets +onlyGivenNames t); refine Ext.cut (M := 4228) (a := a₀) (b := t) ?_ (fun ht => ?_); rotate_left; clear_value t)
    | ((fail_if_no_progress extract_lets +onlyGivenNames u); have v : Nat := u; clear v; clear_value u)
    | ((fail_if_no_progress extract_lets +onlyGivenNames u); have v : List _ := u; clear v; clear_value u)
    | ((fail_if_no_progress extract_lets +onlyGivenNames u); have v : Option _ := u; clear v; fail_if_success (have v : Option State := u); clear_value u)
    | (fail_if_no_progress extract_lets +onlyGivenNames u)
    | with_reducible refine State.setCtx_ext (by decide) ?_
    | with_reducible refine State.poolUpdate_ext (by decide) ?_
    | with_reducible refine State.put_ext (by decide) ?_
    | with_reducible refine State.badWrite_ext (by decide) ?_
    | split
    | (clear_value *; split)
    | (unfold t)
    | (unfold u; try beta_reduce)
    | (refine Ext.upd ?_ ?_ ?_ ?_ ?_ ?_ ?_ ?_ ?_ ?_ ?_ ?_ ?_ ?_ ?_ ?_ ?_ ?_ ?_ ?_ <;> first | rfl | exact fun _ => rfl | exact fun h => absurd h (by decide) | skip)

theorem State.fetchBurst_ext {s : State} {i : Nat} {M₀ : Nat} {a₀ : State} (hM : Within 4100 M₀) (h₀ : Ext M₀ a₀ s) :
    Ext M₀ a₀ (State.fetchBurst s i) := by
  refine Ext.via hM h₀ ?_
  clear hM h₀ M₀ a₀
  suffices H : ∀ a₀, Ext 4100 a₀ s → Ext 4100 a₀ (State.fetchBurst s i) from H s (Ext.refl _ _)
  intro a₀ h₀
  unfold State.fetchBurst
  repeat' first
    | with_reducible assumption
    | (with_reducible intro _; intros; try beta_reduce)
    | ((fail_if_no_progress extract_lets +onlyGivenNames t); refine Ext.cut (M := 4100) (a := a₀) (b := t) ?_ (fun ht => ?_); rotate_left; clear_value t)
    | ((fail_if_no_progress extract_lets +onlyGivenNames u); have v : Nat := u; clear v; clear_value u)
    | ((fail_if_no_progress extract_lets +onlyGivenNames u); have v : List _ := u; clear v; clear_value u)
    | ((fail_if_no_progress extract_lets +onlyGivenNames u); have v : Option _ := u; clear v; fail_if_success (have v : Option State := u); clear_value u)
    | (fail_if_no_progress extract_lets +onlyGivenNames u)
    | with_reducible refine State.waitFor_ext (by decide) ?_
    | with_reducible refine State.poolTurn_ext (by decide) ?_
    | with_reducible refine State.setCtx_ext (by decide) ?_
    | with_reducible refine State.countBursts_ext (by decide) ?_
    | with_reducible refine State.poolUpdate_ext (by decide) ?_
    | split
    | (clear_value *; split)
    | (unfold t)
    | (unfold u; try beta_reduce)
    | (refine Ext.upd ?_ ?_ ?_ ?_ ?_ ?_ ?_ ?_ ?_ ?_ ?_ ?_ ?_ ?_ ?_ ?_ ?_ ?_ ?_ ?_ <;> first | rfl | exact fun _ => rfl | exact fun h => absurd h (by decide) | skip)

theorem waitLimit_ext {i : Nat} {s : State} {M₀ : Nat} {a₀ : State} (hM : Within 4228 M₀) (h₀ : Ext M₀ a₀ s) :
    Ext M₀ a₀ (waitLimit i s) := by
  refine Ext.via hM h₀ ?_
  clear hM h₀ M₀ a₀
  suffices H : ∀ a₀, Ext 4228 a₀ s → Ext 4228 a₀ (waitLimit i s) from H s (Ext.refl _ _)
  intro a₀ h₀
  unfold waitLimit
  repeat' first
    | with_reducible assumption
    | (with_reducible intro _; intros; try beta_reduce)
    | ((fail_if_no_progress extract_lets +onlyGivenNames t); refine Ext.cut (M := 4228) (a := a₀) (b := t) ?_ (fun ht => ?_); rotate_left; clear_value t)
    | ((fail_if_no_progress extract_lets +onlyGivenNames u); have v : Nat := u; clear v; clear_value u)
    | ((fail_if_no_progress extract_lets +onlyGivenNames u); have v : List _ := u; clear v; clear_value u)
    | ((fail_if_no_progress extract_lets +onlyGivenNames u); have v : Option _ := u; clear v; fail_if_success (have v : Option State := u); clear_value u)
    | (fail_if_no_progress extract_lets +onlyGivenNames u)
    | with_reducible refine State.setCtx_ext (by decide) ?_
    | with_reducible refine State.bumpSat_ext (by decide) ?_
    | with_reducible refine State.put_ext (by decide) ?_
    | with_reducible refine State.event_ext (by decide) ?_
    | split
    | (clear_value *; split)
    | (unfold t)
    | (unfold u; try beta_reduce)
    | (refine Ext.upd ?_ ?_ ?_ ?_ ?_ ?_ ?_ ?_ ?_ ?_ ?_ ?_ ?_ ?_ ?_ ?_ ?_ ?_ ?_ ?_ <;> first | rfl | exact fun _ => rfl | exact fun h => absurd h (by decide) | skip)

end Sys2Proof.Machine
end

