-- ==== Sys2Proof/Laws/ExtReady.lean ====
section
/-!
SUPPORT. What each operation of Machine/Ready.lean can change: one lemma each.
-/
namespace Sys2Proof.Machine

theorem State.writeFields_ext {s : State} {off v : Nat} {M₀ : Nat} {a₀ : State} (hM : Within 4 M₀) (h₀ : Ext M₀ a₀ s) :
    Ext M₀ a₀ (State.writeFields s off v) := by
  refine Ext.via hM h₀ ?_
  clear hM h₀ M₀ a₀
  suffices H : ∀ a₀, Ext 4 a₀ s → Ext 4 a₀ (State.writeFields s off v) from H s (Ext.refl _ _)
  intro a₀ h₀
  unfold State.writeFields
  repeat' first
    | with_reducible assumption
    | (with_reducible intro _; intros; try beta_reduce)
    | ((fail_if_no_progress extract_lets +onlyGivenNames t); refine Ext.cut (M := 4) (a := a₀) (b := t) ?_ (fun ht => ?_); rotate_left; clear_value t)
    | ((fail_if_no_progress extract_lets +onlyGivenNames u); have v : Nat := u; clear v; clear_value u)
    | ((fail_if_no_progress extract_lets +onlyGivenNames u); have v : List _ := u; clear v; clear_value u)
    | ((fail_if_no_progress extract_lets +onlyGivenNames u); have v : Option _ := u; clear v; fail_if_success (have v : Option State := u); clear_value u)
    | (fail_if_no_progress extract_lets +onlyGivenNames u)
    | with_reducible refine State.put_ext (by decide) ?_
    | (with_reducible refine Ext.foldl _ ?_ ?_)
    | (with_reducible refine Ext.foldl_fst _ ?_ ?_)
    | split
    | (clear_value *; split)
    | (unfold t)
    | (unfold u; try beta_reduce)

theorem State.setComp_ext {s : State} {x : Compute} {M₀ : Nat} {a₀ : State} (hM : Within 16384 M₀) (h₀ : Ext M₀ a₀ s) :
    Ext M₀ a₀ (State.setComp s x) := by
  refine Ext.via hM h₀ ?_
  clear hM h₀ M₀ a₀
  suffices H : ∀ a₀, Ext 16384 a₀ s → Ext 16384 a₀ (State.setComp s x) from H s (Ext.refl _ _)
  intro a₀ h₀
  unfold State.setComp
  repeat' first
    | with_reducible assumption
    | (with_reducible intro _; intros; try beta_reduce)
    | split
    | (refine Ext.upd ?_ ?_ ?_ ?_ ?_ ?_ ?_ ?_ ?_ ?_ ?_ ?_ ?_ ?_ ?_ ?_ ?_ ?_ ?_ ?_ <;> first | rfl | exact fun _ => rfl | exact fun h => absurd h (by decide) | skip)

theorem State.setArr_ext {s : State} {a : Nat} {x : ArrState} {M₀ : Nat} {a₀ : State} (hM : Within 16384 M₀) (h₀ : Ext M₀ a₀ s) :
    Ext M₀ a₀ (State.setArr s a x) := by
  refine Ext.via hM h₀ ?_
  clear hM h₀ M₀ a₀
  suffices H : ∀ a₀, Ext 16384 a₀ s → Ext 16384 a₀ (State.setArr s a x) from H s (Ext.refl _ _)
  intro a₀ h₀
  unfold State.setArr
  repeat' first
    | with_reducible assumption
    | (with_reducible intro _; intros; try beta_reduce)
    | split
    | (refine Ext.upd ?_ ?_ ?_ ?_ ?_ ?_ ?_ ?_ ?_ ?_ ?_ ?_ ?_ ?_ ?_ ?_ ?_ ?_ ?_ ?_ <;> first | rfl | exact fun _ => rfl | exact fun h => absurd h (by decide) | skip)

theorem State.setMm_ext {s : State} {slot : Nat} {x : Option MmRun} {M₀ : Nat} {a₀ : State} (hM : Within 16384 M₀) (h₀ : Ext M₀ a₀ s) :
    Ext M₀ a₀ (State.setMm s slot x) := by
  refine Ext.via hM h₀ ?_
  clear hM h₀ M₀ a₀
  suffices H : ∀ a₀, Ext 16384 a₀ s → Ext 16384 a₀ (State.setMm s slot x) from H s (Ext.refl _ _)
  intro a₀ h₀
  unfold State.setMm
  repeat' first
    | with_reducible assumption
    | (with_reducible intro _; intros; try beta_reduce)
    | split
    | (refine Ext.upd ?_ ?_ ?_ ?_ ?_ ?_ ?_ ?_ ?_ ?_ ?_ ?_ ?_ ?_ ?_ ?_ ?_ ?_ ?_ ?_ <;> first | rfl | exact fun _ => rfl | exact fun h => absurd h (by decide) | skip)

theorem State.setKern_ext {s : State} {slot : Nat} {x : Option KernRun} {M₀ : Nat} {a₀ : State} (hM : Within 16384 M₀) (h₀ : Ext M₀ a₀ s) :
    Ext M₀ a₀ (State.setKern s slot x) := by
  refine Ext.via hM h₀ ?_
  clear hM h₀ M₀ a₀
  suffices H : ∀ a₀, Ext 16384 a₀ s → Ext 16384 a₀ (State.setKern s slot x) from H s (Ext.refl _ _)
  intro a₀ h₀
  unfold State.setKern
  repeat' first
    | with_reducible assumption
    | (with_reducible intro _; intros; try beta_reduce)
    | split
    | (refine Ext.upd ?_ ?_ ?_ ?_ ?_ ?_ ?_ ?_ ?_ ?_ ?_ ?_ ?_ ?_ ?_ ?_ ?_ ?_ ?_ ?_ <;> first | rfl | exact fun _ => rfl | exact fun h => absurd h (by decide) | skip)

theorem State.setEng_ext {s : State} {e : Nat} {x : Engine} {M₀ : Nat} {a₀ : State} (hM : Within 16384 M₀) (h₀ : Ext M₀ a₀ s) :
    Ext M₀ a₀ (State.setEng s e x) := by
  refine Ext.via hM h₀ ?_
  clear hM h₀ M₀ a₀
  suffices H : ∀ a₀, Ext 16384 a₀ s → Ext 16384 a₀ (State.setEng s e x) from H s (Ext.refl _ _)
  intro a₀ h₀
  unfold State.setEng
  repeat' first
    | with_reducible assumption
    | (with_reducible intro _; intros; try beta_reduce)
    | split
    | (refine Ext.upd ?_ ?_ ?_ ?_ ?_ ?_ ?_ ?_ ?_ ?_ ?_ ?_ ?_ ?_ ?_ ?_ ?_ ?_ ?_ ?_ <;> first | rfl | exact fun _ => rfl | exact fun h => absurd h (by decide) | skip)

theorem State.wakeOne_ext {s : State} {slot : Nat} {M₀ : Nat} {a₀ : State} (hM : Within 4164 M₀) (h₀ : Ext M₀ a₀ s) :
    Ext M₀ a₀ (State.wakeOne s slot) := by
  refine Ext.via hM h₀ ?_
  clear hM h₀ M₀ a₀
  suffices H : ∀ a₀, Ext 4164 a₀ s → Ext 4164 a₀ (State.wakeOne s slot) from H s (Ext.refl _ _)
  intro a₀ h₀
  unfold State.wakeOne
  repeat' first
    | with_reducible assumption
    | (with_reducible intro _; intros; try beta_reduce)
    | ((fail_if_no_progress extract_lets +onlyGivenNames t); refine Ext.cut (M := 4164) (a := a₀) (b := t) ?_ (fun ht => ?_); rotate_left; clear_value t)
    | ((fail_if_no_progress extract_lets +onlyGivenNames u); have v : Nat := u; clear v; clear_value u)
    | ((fail_if_no_progress extract_lets +onlyGivenNames u); have v : List _ := u; clear v; clear_value u)
    | ((fail_if_no_progress extract_lets +onlyGivenNames u); have v : Option _ := u; clear v; fail_if_success (have v : Option State := u); clear_value u)
    | (fail_if_no_progress extract_lets +onlyGivenNames u)
    | with_reducible refine State.setOp_ext (by decide) ?_
    | with_reducible refine State.unbindCtx_ext (by decide) ?_
    | with_reducible refine State.setStatus_ext (by decide) ?_
    | (with_reducible refine Ext.foldl _ ?_ ?_)
    | (with_reducible refine Ext.foldl_fst _ ?_ ?_)
    | split
    | (clear_value *; split)
    | (unfold t)
    | (unfold u; try beta_reduce)
    | (refine Ext.upd ?_ ?_ ?_ ?_ ?_ ?_ ?_ ?_ ?_ ?_ ?_ ?_ ?_ ?_ ?_ ?_ ?_ ?_ ?_ ?_ <;> first | rfl | exact fun _ => rfl | exact fun h => absurd h (by decide) | skip)

theorem State.stallShow_ext {s : State} {M₀ : Nat} {a₀ : State} (hM : Within 4 M₀) (h₀ : Ext M₀ a₀ s) :
    Ext M₀ a₀ (State.stallShow s) := by
  refine Ext.via hM h₀ ?_
  clear hM h₀ M₀ a₀
  suffices H : ∀ a₀, Ext 4 a₀ s → Ext 4 a₀ (State.stallShow s) from H s (Ext.refl _ _)
  intro a₀ h₀
  unfold State.stallShow
  repeat' first
    | with_reducible assumption
    | (with_reducible intro _; intros; try beta_reduce)
    | with_reducible refine State.putB_ext (by decide) ?_
    | (with_reducible refine Ext.foldl _ ?_ ?_)
    | (with_reducible refine Ext.foldl_fst _ ?_ ?_)
    | split

theorem State.wake_ext {s : State} {M₀ : Nat} {a₀ : State} (hM : Within 4164 M₀) (h₀ : Ext M₀ a₀ s) :
    Ext M₀ a₀ (State.wake s) := by
  refine Ext.via hM h₀ ?_
  clear hM h₀ M₀ a₀
  suffices H : ∀ a₀, Ext 4164 a₀ s → Ext 4164 a₀ (State.wake s) from H s (Ext.refl _ _)
  intro a₀ h₀
  unfold State.wake
  repeat' first
    | with_reducible assumption
    | (with_reducible intro _; intros; try beta_reduce)
    | with_reducible refine State.wakeOne_ext (by decide) ?_
    | with_reducible refine State.stallShow_ext (by decide) ?_
    | (with_reducible refine Ext.foldl _ ?_ ?_)
    | (with_reducible refine Ext.foldl_fst _ ?_ ?_)
    | split

end Sys2Proof.Machine
end

