-- ==== Sys2Proof/Laws/ExtStackOps.lean ====
section
/-!
SUPPORT. What each operation of Machine/StackOps.lean can change: one lemma each.
-/
namespace Sys2Proof.Machine

theorem State.issue_ext {s : State} {slot : Nat} {M₀ : Nat} {a₀ : State} (hM : Within 68 M₀) (h₀ : Ext M₀ a₀ s) :
    Ext M₀ a₀ (State.issue s slot) := by
  refine Ext.via hM h₀ ?_
  clear hM h₀ M₀ a₀
  suffices H : ∀ a₀, Ext 68 a₀ s → Ext 68 a₀ (State.issue s slot) from H s (Ext.refl _ _)
  intro a₀ h₀
  unfold State.issue
  repeat' first
    | with_reducible assumption
    | (with_reducible intro _; intros; try beta_reduce)
    | ((fail_if_no_progress extract_lets +onlyGivenNames t); refine Ext.cut (M := 68) (a := a₀) (b := t) ?_ (fun ht => ?_); rotate_left; clear_value t)
    | ((fail_if_no_progress extract_lets +onlyGivenNames u); have v : Nat := u; clear v; clear_value u)
    | ((fail_if_no_progress extract_lets +onlyGivenNames u); have v : List _ := u; clear v; clear_value u)
    | ((fail_if_no_progress extract_lets +onlyGivenNames u); have v : Option _ := u; clear v; fail_if_success (have v : Option State := u); clear_value u)
    | (fail_if_no_progress extract_lets +onlyGivenNames u)
    | with_reducible refine State.setStatus_ext (by decide) ?_
    | with_reducible refine State.setOp_ext (by decide) ?_
    | with_reducible refine State.setCtl_ext (by decide) ?_
    | split
    | (clear_value *; split)
    | (unfold t)
    | (unfold u; try beta_reduce)
    | (refine Ext.upd ?_ ?_ ?_ ?_ ?_ ?_ ?_ ?_ ?_ ?_ ?_ ?_ ?_ ?_ ?_ ?_ ?_ ?_ ?_ ?_ <;> first | rfl | exact fun _ => rfl | exact fun h => absurd h (by decide) | skip)

theorem State.writeUnits_ext {s : State} {ws : List (Nat × List Byte)} {M₀ : Nat} {a₀ : State} (hM : Within 48 M₀) (h₀ : Ext M₀ a₀ s) :
    Ext M₀ a₀ (State.writeUnits s ws) := by
  refine Ext.via hM h₀ ?_
  clear hM h₀ M₀ a₀
  suffices H : ∀ a₀, Ext 48 a₀ s → Ext 48 a₀ (State.writeUnits s ws) from H s (Ext.refl _ _)
  intro a₀ h₀
  unfold State.writeUnits
  repeat' first
    | with_reducible assumption
    | (with_reducible intro _; intros; try beta_reduce)
    | ((fail_if_no_progress extract_lets +onlyGivenNames t); refine Ext.cut (M := 48) (a := a₀) (b := t) ?_ (fun ht => ?_); rotate_left; clear_value t)
    | ((fail_if_no_progress extract_lets +onlyGivenNames u); have v : Nat := u; clear v; clear_value u)
    | ((fail_if_no_progress extract_lets +onlyGivenNames u); have v : List _ := u; clear v; clear_value u)
    | ((fail_if_no_progress extract_lets +onlyGivenNames u); have v : Option _ := u; clear v; fail_if_success (have v : Option State := u); clear_value u)
    | (fail_if_no_progress extract_lets +onlyGivenNames u)
    | with_reducible refine State.pokes_ext (by decide) ?_
    | with_reducible refine State.setPoison_ext (by decide) ?_
    | (with_reducible refine Ext.foldl _ ?_ ?_)
    | (with_reducible refine Ext.foldl_fst _ ?_ ?_)
    | split
    | (clear_value *; split)
    | (unfold t)
    | (unfold u; try beta_reduce)

theorem State.writeSome_ext {s : State} {ws : List (Nat × List Byte)} {bad : List Nat} {M₀ : Nat} {a₀ : State} (hM : Within 50 M₀) (h₀ : Ext M₀ a₀ s) :
    Ext M₀ a₀ (State.writeSome s ws bad) := by
  refine Ext.via hM h₀ ?_
  clear hM h₀ M₀ a₀
  suffices H : ∀ a₀, Ext 50 a₀ s → Ext 50 a₀ (State.writeSome s ws bad) from H s (Ext.refl _ _)
  intro a₀ h₀
  unfold State.writeSome
  repeat' first
    | with_reducible assumption
    | (with_reducible intro _; intros; try beta_reduce)
    | ((fail_if_no_progress extract_lets +onlyGivenNames t); refine Ext.cut (M := 50) (a := a₀) (b := t) ?_ (fun ht => ?_); rotate_left; clear_value t)
    | ((fail_if_no_progress extract_lets +onlyGivenNames u); have v : Nat := u; clear v; clear_value u)
    | ((fail_if_no_progress extract_lets +onlyGivenNames u); have v : List _ := u; clear v; clear_value u)
    | ((fail_if_no_progress extract_lets +onlyGivenNames u); have v : Option _ := u; clear v; fail_if_success (have v : Option State := u); clear_value u)
    | (fail_if_no_progress extract_lets +onlyGivenNames u)
    | with_reducible refine State.writeUnits_ext (by decide) ?_
    | with_reducible refine State.useFresh_ext (by decide) ?_
    | split
    | (clear_value *; split)
    | (unfold t)
    | (unfold u; try beta_reduce)

theorem State.consumeSide_ext {s : State} {slot : Nat} {o : Op} {side : Nat} {k : Take} {M₀ : Nat} {a₀ : State} (hM : Within 4164 M₀) (h₀ : Ext M₀ a₀ s) :
    Ext M₀ a₀ (State.consumeSide s slot o side k) := by
  refine Ext.via hM h₀ ?_
  clear hM h₀ M₀ a₀
  suffices H : ∀ a₀, Ext 4164 a₀ s → Ext 4164 a₀ (State.consumeSide s slot o side k) from H s (Ext.refl _ _)
  intro a₀ h₀
  unfold State.consumeSide
  repeat' first
    | with_reducible assumption
    | (with_reducible intro _; intros; try beta_reduce)
    | ((fail_if_no_progress extract_lets +onlyGivenNames t); refine Ext.cut (M := 4164) (a := a₀) (b := t) ?_ (fun ht => ?_); rotate_left; clear_value t)
    | ((fail_if_no_progress extract_lets +onlyGivenNames u); have v : Nat := u; clear v; clear_value u)
    | ((fail_if_no_progress extract_lets +onlyGivenNames u); have v : List _ := u; clear v; clear_value u)
    | ((fail_if_no_progress extract_lets +onlyGivenNames u); have v : Option _ := u; clear v; fail_if_success (have v : Option State := u); clear_value u)
    | (fail_if_no_progress extract_lets +onlyGivenNames u)
    | with_reducible refine State.consume_ext (by decide) ?_
    | split
    | (clear_value *; split)
    | (unfold t)
    | (unfold u; try beta_reduce)

theorem State.failMidway_ext {s : State} {slot : Nat} {o : Op} {ctxBad code : Nat} {a b : Bool} {ks kd : Take} {M₀ : Nat} {a₀ : State} (hM : Within 4342 M₀) (h₀ : Ext M₀ a₀ s) :
    Ext M₀ a₀ (State.failMidway s slot o ctxBad code a b ks kd) := by
  refine Ext.via hM h₀ ?_
  clear hM h₀ M₀ a₀
  suffices H : ∀ a₀, Ext 4342 a₀ s → Ext 4342 a₀ (State.failMidway s slot o ctxBad code a b ks kd) from H s (Ext.refl _ _)
  intro a₀ h₀
  unfold State.failMidway
  repeat' first
    | with_reducible assumption
    | (with_reducible intro _; intros; try beta_reduce)
    | ((fail_if_no_progress extract_lets +onlyGivenNames t); refine Ext.cut (M := 4342) (a := a₀) (b := t) ?_ (fun ht => ?_); rotate_left; clear_value t)
    | ((fail_if_no_progress extract_lets +onlyGivenNames u); have v : Nat := u; clear v; clear_value u)
    | ((fail_if_no_progress extract_lets +onlyGivenNames u); have v : List _ := u; clear v; clear_value u)
    | ((fail_if_no_progress extract_lets +onlyGivenNames u); have v : Option _ := u; clear v; fail_if_success (have v : Option State := u); clear_value u)
    | (fail_if_no_progress extract_lets +onlyGivenNames u)
    | with_reducible refine State.issue_ext (by decide) ?_
    | with_reducible refine State.consumeSide_ext (by decide) ?_
    | with_reducible refine State.storeFree_ext (by decide) ?_
    | with_reducible refine State.descFault_ext (by decide) ?_
    | (with_reducible refine Ext.foldl _ ?_ ?_)
    | (with_reducible refine Ext.foldl_fst _ ?_ ?_)
    | split
    | (clear_value *; split)
    | (unfold t)
    | (unfold u; try beta_reduce)

theorem State.takeSome_ext {s : State} {slot : Nat} {o : Op} {ks kd : Take} {M₀ : Nat} {a₀ : State} (hM : Within 4164 M₀) (h₀ : Ext M₀ a₀ s) :
    Ext M₀ a₀ (State.takeSome s slot o ks kd) := by
  refine Ext.via hM h₀ ?_
  clear hM h₀ M₀ a₀
  suffices H : ∀ a₀, Ext 4164 a₀ s → Ext 4164 a₀ (State.takeSome s slot o ks kd) from H s (Ext.refl _ _)
  intro a₀ h₀
  unfold State.takeSome
  repeat' first
    | with_reducible assumption
    | (with_reducible intro _; intros; try beta_reduce)
    | ((fail_if_no_progress extract_lets +onlyGivenNames t); refine Ext.cut (M := 4164) (a := a₀) (b := t) ?_ (fun ht => ?_); rotate_left; clear_value t)
    | ((fail_if_no_progress extract_lets +onlyGivenNames u); have v : Nat := u; clear v; clear_value u)
    | ((fail_if_no_progress extract_lets +onlyGivenNames u); have v : List _ := u; clear v; clear_value u)
    | ((fail_if_no_progress extract_lets +onlyGivenNames u); have v : Option _ := u; clear v; fail_if_success (have v : Option State := u); clear_value u)
    | (fail_if_no_progress extract_lets +onlyGivenNames u)
    | with_reducible refine State.issue_ext (by decide) ?_
    | with_reducible refine State.consumeSide_ext (by decide) ?_
    | with_reducible refine State.setOp_ext (by decide) ?_
    | split
    | (clear_value *; split)
    | (unfold t)
    | (unfold u; try beta_reduce)
    | (refine Ext.upd ?_ ?_ ?_ ?_ ?_ ?_ ?_ ?_ ?_ ?_ ?_ ?_ ?_ ?_ ?_ ?_ ?_ ?_ ?_ ?_ <;> first | rfl | exact fun _ => rfl | exact fun h => absurd h (by decide) | skip)

theorem State.runStream_ext {s : State} {slot : Nat} {o : Op} {mS mD : Desc → Nat} {nS nD : Nat}
    {check : State → List DescP → List DescP → Option (Nat × Bool)} {act : State → List DescP → List DescP → State} {M₀ : Nat} {a₀ : State} (hM : Within 4342 M₀) (h₀ : Ext M₀ a₀ s)
    (hf : ∀ t a b, Ext M₀ a₀ t → Ext M₀ a₀ (act t a b)) :
    Ext M₀ a₀ (s.runStream slot o mS mD nS nD check act) := by
  have hm : Within 4342 M₀ := Within.trans (by decide) hM
  have hd : Within 4292 M₀ := Within.trans (by decide) hM
  unfold State.runStream
  extract_lets k
  clear_value k
  split
  · exact State.failMidway_ext hm h₀
  · exact State.failMidway_ext hm h₀
  · rename_i a ha b hb heq
    extract_lets +onlyGivenNames ss ds
    split
    · exact h₀
    extract_lets t
    have ht : Ext M₀ a₀ t := State.advanceRng_ext (Within.trans (by decide) hM) (State.consumeSide_ext (Within.trans (by decide) hM)
      (State.consumeSide_ext (Within.trans (by decide) hM) (State.issue_ext (Within.trans (by decide) hM) h₀)))
    clear_value t
    split
    · exact State.descFault_ext hd ht
    · exact hf _ _ _ ht
  · exact State.takeSome_ext (Within.trans (by decide) hM) h₀

theorem State.moved_ext {s : State} {slot src dst n : Nat} {carried : Bool} {ss ds : List DescP} {M₀ : Nat} {a₀ : State} (hM : Within 4164 M₀) (h₀ : Ext M₀ a₀ s) :
    Ext M₀ a₀ (State.moved s slot src dst n carried ss ds) := by
  refine Ext.via hM h₀ ?_
  clear hM h₀ M₀ a₀
  suffices H : ∀ a₀, Ext 4164 a₀ s → Ext 4164 a₀ (State.moved s slot src dst n carried ss ds) from H s (Ext.refl _ _)
  intro a₀ h₀
  unfold State.moved
  repeat' first
    | with_reducible assumption
    | (with_reducible intro _; intros; try beta_reduce)
    | ((fail_if_no_progress extract_lets +onlyGivenNames t); refine Ext.cut (M := 4164) (a := a₀) (b := t) ?_ (fun ht => ?_); rotate_left; clear_value t)
    | ((fail_if_no_progress extract_lets +onlyGivenNames F); refine Ext.cutF (M := 4164) (a := a₀) (F := F) ?_ (fun hF => ?_); rotate_left; clear_value F)
    | with_reducible refine hF _ ?_
    | ((fail_if_no_progress extract_lets +onlyGivenNames G); refine Ext.cutG (M := 4164) (a := a₀) (F := G) ?_ (fun hG => ?_); rotate_left; clear_value G)
    | with_reducible refine hG _ _ ?_
    | ((fail_if_no_progress extract_lets +onlyGivenNames H); refine Ext.cutH (M := 4164) (a := a₀) (F := H) ?_ (fun hH => ?_); rotate_left; clear_value H)
    | with_reducible refine hH _ _ _ ?_
    | ((fail_if_no_progress extract_lets +onlyGivenNames u); have v : Nat := u; clear v; clear_value u)
    | ((fail_if_no_progress extract_lets +onlyGivenNames u); have v : List _ := u; clear v; clear_value u)
    | ((fail_if_no_progress extract_lets +onlyGivenNames u); have v : Option _ := u; clear v; fail_if_success (have v : Option State := u); clear_value u)
    | (fail_if_no_progress extract_lets +onlyGivenNames u)
    | with_reducible refine State.setCtx_ext (by decide) ?_
    | with_reducible refine State.countBytes_ext (by decide) ?_
    | with_reducible refine State.advancePos_ext (by decide) ?_
    | with_reducible refine State.addDetail_ext (by decide) ?_
    | split
    | (clear_value *; split)
    | (unfold t)
    | (unfold u; try beta_reduce)
    | (unfold F; try beta_reduce)
    | (unfold G; try beta_reduce)
    | (unfold H; try beta_reduce)
    | (refine Ext.upd ?_ ?_ ?_ ?_ ?_ ?_ ?_ ?_ ?_ ?_ ?_ ?_ ?_ ?_ ?_ ?_ ?_ ?_ ?_ ?_ <;> first | rfl | exact fun _ => rfl | exact fun h => absurd h (by decide) | skip)

theorem State.copyUnits_ext {s : State} {slot src dst : Nat} {ss ds : List DescP} {M₀ : Nat} {a₀ : State} (hM : Within 4214 M₀) (h₀ : Ext M₀ a₀ s) :
    Ext M₀ a₀ (State.copyUnits s slot src dst ss ds) := by
  refine Ext.via hM h₀ ?_
  clear hM h₀ M₀ a₀
  suffices H : ∀ a₀, Ext 4214 a₀ s → Ext 4214 a₀ (State.copyUnits s slot src dst ss ds) from H s (Ext.refl _ _)
  intro a₀ h₀
  unfold State.copyUnits
  repeat' first
    | with_reducible assumption
    | (with_reducible intro _; intros; try beta_reduce)
    | ((fail_if_no_progress extract_lets +onlyGivenNames t); refine Ext.cut (M := 4214) (a := a₀) (b := t) ?_ (fun ht => ?_); rotate_left; clear_value t)
    | ((fail_if_no_progress extract_lets +onlyGivenNames u); have v : Nat := u; clear v; clear_value u)
    | ((fail_if_no_progress extract_lets +onlyGivenNames u); have v : List _ := u; clear v; clear_value u)
    | ((fail_if_no_progress extract_lets +onlyGivenNames u); have v : Option _ := u; clear v; fail_if_success (have v : Option State := u); clear_value u)
    | (fail_if_no_progress extract_lets +onlyGivenNames u)
    | with_reducible refine State.writeSome_ext (by decide) ?_
    | with_reducible refine State.finish_ext (by decide) ?_
    | with_reducible refine State.writeUnits_ext (by decide) ?_
    | with_reducible refine State.moved_ext (by decide) ?_
    | split
    | (clear_value *; split)
    | (unfold t)
    | (unfold u; try beta_reduce)

theorem opMove_ext {slot : Nat} {s : State} {M₀ : Nat} {a₀ : State} (hM : Within 4342 M₀) (h₀ : Ext M₀ a₀ s) :
    Ext M₀ a₀ (opMove slot s) := by
  refine Ext.via hM h₀ ?_
  clear hM h₀ M₀ a₀
  suffices H : ∀ a₀, Ext 4342 a₀ s → Ext 4342 a₀ (opMove slot s) from H s (Ext.refl _ _)
  intro a₀ h₀
  unfold opMove
  repeat' first
    | with_reducible assumption
    | (with_reducible intro _; intros; try beta_reduce)
    | ((fail_if_no_progress extract_lets +onlyGivenNames t); refine Ext.cut (M := 4342) (a := a₀) (b := t) ?_ (fun ht => ?_); rotate_left; clear_value t)
    | ((fail_if_no_progress extract_lets +onlyGivenNames u); have v : Nat := u; clear v; clear_value u)
    | ((fail_if_no_progress extract_lets +onlyGivenNames u); have v : List _ := u; clear v; clear_value u)
    | ((fail_if_no_progress extract_lets +onlyGivenNames u); have v : Option _ := u; clear v; fail_if_success (have v : Option State := u); clear_value u)
    | (fail_if_no_progress extract_lets +onlyGivenNames u)
    | with_reducible refine State.runStream_ext (by decide) ?_ ?_
    | with_reducible refine State.copyUnits_ext (by decide) ?_
    | split
    | (clear_value *; split)
    | (unfold t)
    | (unfold u; try beta_reduce)

theorem opCopy_ext {slot : Nat} {s : State} {M₀ : Nat} {a₀ : State} (hM : Within 4342 M₀) (h₀ : Ext M₀ a₀ s) :
    Ext M₀ a₀ (opCopy slot s) := by
  refine Ext.via hM h₀ ?_
  clear hM h₀ M₀ a₀
  suffices H : ∀ a₀, Ext 4342 a₀ s → Ext 4342 a₀ (opCopy slot s) from H s (Ext.refl _ _)
  intro a₀ h₀
  unfold opCopy
  repeat' first
    | with_reducible assumption
    | (with_reducible intro _; intros; try beta_reduce)
    | ((fail_if_no_progress extract_lets +onlyGivenNames t); refine Ext.cut (M := 4342) (a := a₀) (b := t) ?_ (fun ht => ?_); rotate_left; clear_value t)
    | ((fail_if_no_progress extract_lets +onlyGivenNames u); have v : Nat := u; clear v; clear_value u)
    | ((fail_if_no_progress extract_lets +onlyGivenNames u); have v : List _ := u; clear v; clear_value u)
    | ((fail_if_no_progress extract_lets +onlyGivenNames u); have v : Option _ := u; clear v; fail_if_success (have v : Option State := u); clear_value u)
    | (fail_if_no_progress extract_lets +onlyGivenNames u)
    | with_reducible refine State.runStream_ext (by decide) ?_ ?_
    | with_reducible refine State.writeUnits_ext (by decide) ?_
    | with_reducible refine State.setPoison_ext (by decide) ?_
    | with_reducible refine State.bump_ext (by decide) ?_
    | with_reducible refine State.put_ext (by decide) ?_
    | with_reducible refine State.moved_ext (by decide) ?_
    | with_reducible refine State.finish_ext (by decide) ?_
    | (with_reducible refine Ext.foldl _ ?_ ?_)
    | (with_reducible refine Ext.foldl_fst _ ?_ ?_)
    | split
    | (clear_value *; split)
    | (unfold t)
    | (unfold u; try beta_reduce)

theorem State.addInto_ext {s : State} {h : Bool} {f u dst : Nat} {new : Nat} {M₀ : Nat} {a₀ : State} (hM : Within 20 M₀) (h₀ : Ext M₀ a₀ s) :
    Ext M₀ a₀ (State.addInto s h f u dst new) := by
  refine Ext.via hM h₀ ?_
  clear hM h₀ M₀ a₀
  suffices H : ∀ a₀, Ext 20 a₀ s → Ext 20 a₀ (State.addInto s h f u dst new) from H s (Ext.refl _ _)
  intro a₀ h₀
  unfold State.addInto
  repeat' first
    | with_reducible assumption
    | (with_reducible intro _; intros; try beta_reduce)
    | ((fail_if_no_progress extract_lets +onlyGivenNames t); refine Ext.cut (M := 20) (a := a₀) (b := t) ?_ (fun ht => ?_); rotate_left; clear_value t)
    | ((fail_if_no_progress extract_lets +onlyGivenNames u); have v : Nat := u; clear v; clear_value u)
    | ((fail_if_no_progress extract_lets +onlyGivenNames u); have v : List _ := u; clear v; clear_value u)
    | ((fail_if_no_progress extract_lets +onlyGivenNames u); have v : Option _ := u; clear v; fail_if_success (have v : Option State := u); clear_value u)
    | (fail_if_no_progress extract_lets +onlyGivenNames u)
    | with_reducible refine State.pokes_ext (by decide) ?_
    | with_reducible refine State.put_ext (by decide) ?_
    | split
    | (clear_value *; split)
    | (unfold t)
    | (unfold u; try beta_reduce)

theorem State.addWide_ext {s : State} {lo hi new : Nat} {M₀ : Nat} {a₀ : State} (hM : Within 20 M₀) (h₀ : Ext M₀ a₀ s) :
    Ext M₀ a₀ (State.addWide s lo hi new) := by
  refine Ext.via hM h₀ ?_
  clear hM h₀ M₀ a₀
  suffices H : ∀ a₀, Ext 20 a₀ s → Ext 20 a₀ (State.addWide s lo hi new) from H s (Ext.refl _ _)
  intro a₀ h₀
  unfold State.addWide
  repeat' first
    | with_reducible assumption
    | (with_reducible intro _; intros; try beta_reduce)
    | ((fail_if_no_progress extract_lets +onlyGivenNames t); refine Ext.cut (M := 20) (a := a₀) (b := t) ?_ (fun ht => ?_); rotate_left; clear_value t)
    | ((fail_if_no_progress extract_lets +onlyGivenNames u); have v : Nat := u; clear v; clear_value u)
    | ((fail_if_no_progress extract_lets +onlyGivenNames u); have v : List _ := u; clear v; clear_value u)
    | ((fail_if_no_progress extract_lets +onlyGivenNames u); have v : Option _ := u; clear v; fail_if_success (have v : Option State := u); clear_value u)
    | (fail_if_no_progress extract_lets +onlyGivenNames u)
    | with_reducible refine State.pokes_ext (by decide) ?_
    | with_reducible refine State.put_ext (by decide) ?_
    | split
    | (clear_value *; split)
    | (unfold t)
    | (unfold u; try beta_reduce)

theorem State.addAll_ext {s : State} {h wide : Bool} {f u : Nat} {kept : Nat → Bool} {du news : List Nat} {M₀ : Nat} {a₀ : State} (hM : Within 20 M₀) (h₀ : Ext M₀ a₀ s) :
    Ext M₀ a₀ (State.addAll s h wide f u kept du news) := by
  refine Ext.via hM h₀ ?_
  clear hM h₀ M₀ a₀
  suffices H : ∀ a₀, Ext 20 a₀ s → Ext 20 a₀ (State.addAll s h wide f u kept du news) from H s (Ext.refl _ _)
  intro a₀ h₀
  unfold State.addAll
  repeat' first
    | with_reducible assumption
    | (with_reducible intro _; intros; try beta_reduce)
    | with_reducible refine State.addWide_ext (by decide) ?_
    | with_reducible refine State.addInto_ext (by decide) ?_
    | (with_reducible refine Ext.foldl _ ?_ ?_)
    | (with_reducible refine Ext.foldl_fst _ ?_ ?_)
    | split

theorem opReduceAdd_ext {slot : Nat} {s : State} {M₀ : Nat} {a₀ : State} (hM : Within 168182 M₀) (h₀ : Ext M₀ a₀ s) :
    Ext M₀ a₀ (opReduceAdd slot s) := by
  refine Ext.via hM h₀ ?_
  clear hM h₀ M₀ a₀
  suffices H : ∀ a₀, Ext 168182 a₀ s → Ext 168182 a₀ (opReduceAdd slot s) from H s (Ext.refl _ _)
  intro a₀ h₀
  unfold opReduceAdd
  repeat' first
    | with_reducible assumption
    | (with_reducible intro _; intros; try beta_reduce)
    | ((fail_if_no_progress extract_lets +onlyGivenNames t); refine Ext.cut (M := 168182) (a := a₀) (b := t) ?_ (fun ht => ?_); rotate_left; clear_value t)
    | ((fail_if_no_progress extract_lets +onlyGivenNames u); have v : Nat := u; clear v; clear_value u)
    | ((fail_if_no_progress extract_lets +onlyGivenNames u); have v : List _ := u; clear v; clear_value u)
    | ((fail_if_no_progress extract_lets +onlyGivenNames u); have v : Option _ := u; clear v; fail_if_success (have v : Option State := u); clear_value u)
    | (fail_if_no_progress extract_lets +onlyGivenNames u)
    | with_reducible refine State.runStream_ext (by decide) ?_ ?_
    | with_reducible refine State.addAll_ext (by decide) ?_
    | with_reducible refine State.useFresh_ext (by decide) ?_
    | with_reducible refine State.finish_ext (by decide) ?_
    | with_reducible refine State.trigger_ext (by decide) ?_
    | with_reducible refine State.bump_ext (by decide) ?_
    | with_reducible refine State.taintWrites_ext (by decide) ?_
    | with_reducible refine State.moved_ext (by decide) ?_
    | (with_reducible refine Ext.foldl _ ?_ ?_)
    | (with_reducible refine Ext.foldl_fst _ ?_ ?_)
    | split
    | (clear_value *; split)
    | (unfold t)
    | (unfold u; try beta_reduce)

theorem opTranspose_ext {slot : Nat} {s : State} {M₀ : Nat} {a₀ : State} (hM : Within 4342 M₀) (h₀ : Ext M₀ a₀ s) :
    Ext M₀ a₀ (opTranspose slot s) := by
  refine Ext.via hM h₀ ?_
  clear hM h₀ M₀ a₀
  suffices H : ∀ a₀, Ext 4342 a₀ s → Ext 4342 a₀ (opTranspose slot s) from H s (Ext.refl _ _)
  intro a₀ h₀
  unfold opTranspose
  repeat' first
    | with_reducible assumption
    | (with_reducible intro _; intros; try beta_reduce)
    | ((fail_if_no_progress extract_lets +onlyGivenNames t); refine Ext.cut (M := 4342) (a := a₀) (b := t) ?_ (fun ht => ?_); rotate_left; clear_value t)
    | ((fail_if_no_progress extract_lets +onlyGivenNames u); have v : Nat := u; clear v; clear_value u)
    | ((fail_if_no_progress extract_lets +onlyGivenNames u); have v : List _ := u; clear v; clear_value u)
    | ((fail_if_no_progress extract_lets +onlyGivenNames u); have v : Option _ := u; clear v; fail_if_success (have v : Option State := u); clear_value u)
    | (fail_if_no_progress extract_lets +onlyGivenNames u)
    | with_reducible refine State.runStream_ext (by decide) ?_ ?_
    | with_reducible refine State.writeSome_ext (by decide) ?_
    | with_reducible refine State.finish_ext (by decide) ?_
    | with_reducible refine State.bump_ext (by decide) ?_
    | with_reducible refine State.writeUnits_ext (by decide) ?_
    | with_reducible refine State.moved_ext (by decide) ?_
    | (with_reducible refine Ext.foldl _ ?_ ?_)
    | (with_reducible refine Ext.foldl_fst _ ?_ ?_)
    | split
    | (clear_value *; split)
    | (unfold t)
    | (unfold u; try beta_reduce)

theorem opExpand_ext {slot : Nat} {s : State} {M₀ : Nat} {a₀ : State} (hM : Within 4342 M₀) (h₀ : Ext M₀ a₀ s) :
    Ext M₀ a₀ (opExpand slot s) := by
  refine Ext.via hM h₀ ?_
  clear hM h₀ M₀ a₀
  suffices H : ∀ a₀, Ext 4342 a₀ s → Ext 4342 a₀ (opExpand slot s) from H s (Ext.refl _ _)
  intro a₀ h₀
  unfold opExpand
  repeat' first
    | with_reducible assumption
    | (with_reducible intro _; intros; try beta_reduce)
    | ((fail_if_no_progress extract_lets +onlyGivenNames t); refine Ext.cut (M := 4342) (a := a₀) (b := t) ?_ (fun ht => ?_); rotate_left; clear_value t)
    | ((fail_if_no_progress extract_lets +onlyGivenNames u); have v : Nat := u; clear v; clear_value u)
    | ((fail_if_no_progress extract_lets +onlyGivenNames u); have v : List _ := u; clear v; clear_value u)
    | ((fail_if_no_progress extract_lets +onlyGivenNames u); have v : Option _ := u; clear v; fail_if_success (have v : Option State := u); clear_value u)
    | (fail_if_no_progress extract_lets +onlyGivenNames u)
    | with_reducible refine State.runStream_ext (by decide) ?_ ?_
    | with_reducible refine State.writeSome_ext (by decide) ?_
    | with_reducible refine State.finish_ext (by decide) ?_
    | with_reducible refine State.descFault_ext (by decide) ?_
    | with_reducible refine State.writeUnits_ext (by decide) ?_
    | with_reducible refine State.moved_ext (by decide) ?_
    | split
    | (clear_value *; split)
    | (unfold t)
    | (unfold u; try beta_reduce)

theorem opTrafficTest_ext {slot errors first pass actual : Nat} {s : State} {M₀ : Nat} {a₀ : State} (hM : Within 4342 M₀) (h₀ : Ext M₀ a₀ s) :
    Ext M₀ a₀ (opTrafficTest slot errors first pass actual s) := by
  refine Ext.via hM h₀ ?_
  clear hM h₀ M₀ a₀
  suffices H : ∀ a₀, Ext 4342 a₀ s → Ext 4342 a₀ (opTrafficTest slot errors first pass actual s) from H s (Ext.refl _ _)
  intro a₀ h₀
  unfold opTrafficTest
  repeat' first
    | with_reducible assumption
    | (with_reducible intro _; intros; try beta_reduce)
    | ((fail_if_no_progress extract_lets +onlyGivenNames t); refine Ext.cut (M := 4342) (a := a₀) (b := t) ?_ (fun ht => ?_); rotate_left; clear_value t)
    | ((fail_if_no_progress extract_lets +onlyGivenNames u); have v : Nat := u; clear v; clear_value u)
    | ((fail_if_no_progress extract_lets +onlyGivenNames u); have v : List _ := u; clear v; clear_value u)
    | ((fail_if_no_progress extract_lets +onlyGivenNames u); have v : Option _ := u; clear v; fail_if_success (have v : Option State := u); clear_value u)
    | (fail_if_no_progress extract_lets +onlyGivenNames u)
    | with_reducible refine State.takeSome_ext (by decide) ?_
    | with_reducible refine State.failMidway_ext (by decide) ?_
    | with_reducible refine State.issue_ext (by decide) ?_
    | with_reducible refine State.consumeSide_ext (by decide) ?_
    | with_reducible refine State.advanceRng_ext (by decide) ?_
    | with_reducible refine State.noteOut_ext (by decide) ?_
    | with_reducible refine State.finish_ext (by decide) ?_
    | with_reducible refine State.storeFree_ext (by decide) ?_
    | with_reducible refine State.useFresh_ext (by decide) ?_
    | with_reducible refine State.store_ext (by decide) ?_
    | with_reducible refine State.addDetail_ext (by decide) ?_
    | (with_reducible refine Ext.foldl _ ?_ ?_)
    | (with_reducible refine Ext.foldl_fst _ ?_ ?_)
    | split
    | (clear_value *; split)
    | (unfold t)
    | (unfold u; try beta_reduce)

end Sys2Proof.Machine
end

