-- ==== Sys2Proof/Laws/ExtTasks.lean ====
section
/-!
SUPPORT. What each operation of Machine/Tasks.lean can change: one lemma each.
-/
namespace Sys2Proof.Machine

theorem State.setSpare_ext {s : State} {cs : Nat} {x : Option Spare} {M₀ : Nat} {a₀ : State} (hM : Within 16384 M₀) (h₀ : Ext M₀ a₀ s) :
    Ext M₀ a₀ (State.setSpare s cs x) := by
  refine Ext.via hM h₀ ?_
  clear hM h₀ M₀ a₀
  suffices H : ∀ a₀, Ext 16384 a₀ s → Ext 16384 a₀ (State.setSpare s cs x) from H s (Ext.refl _ _)
  intro a₀ h₀
  unfold State.setSpare
  repeat' first
    | with_reducible assumption
    | (with_reducible intro _; intros; try beta_reduce)
    | split
    | (refine Ext.upd ?_ ?_ ?_ ?_ ?_ ?_ ?_ ?_ ?_ ?_ ?_ ?_ ?_ ?_ ?_ ?_ ?_ ?_ ?_ ?_ <;> first | rfl | exact fun _ => rfl | exact fun h => absurd h (by decide) | skip)

theorem State.engUpdate_ext {s : State} {e : Nat} {M₀ : Nat} {a₀ : State} (hM : Within 16388 M₀) (h₀ : Ext M₀ a₀ s) :
    Ext M₀ a₀ (State.engUpdate s e) := by
  refine Ext.via hM h₀ ?_
  clear hM h₀ M₀ a₀
  suffices H : ∀ a₀, Ext 16388 a₀ s → Ext 16388 a₀ (State.engUpdate s e) from H s (Ext.refl _ _)
  intro a₀ h₀
  unfold State.engUpdate
  repeat' first
    | with_reducible assumption
    | (with_reducible intro _; intros; try beta_reduce)
    | ((fail_if_no_progress extract_lets +onlyGivenNames t); refine Ext.cut (M := 16388) (a := a₀) (b := t) ?_ (fun ht => ?_); rotate_left; clear_value t)
    | ((fail_if_no_progress extract_lets +onlyGivenNames u); have v : Nat := u; clear v; clear_value u)
    | ((fail_if_no_progress extract_lets +onlyGivenNames u); have v : List _ := u; clear v; clear_value u)
    | ((fail_if_no_progress extract_lets +onlyGivenNames u); have v : Option _ := u; clear v; fail_if_success (have v : Option State := u); clear_value u)
    | (fail_if_no_progress extract_lets +onlyGivenNames u)
    | with_reducible refine State.setEng_ext (by decide) ?_
    | with_reducible refine State.put_ext (by decide) ?_
    | split
    | (clear_value *; split)
    | (unfold t)
    | (unfold u; try beta_reduce)
    | (refine Ext.upd ?_ ?_ ?_ ?_ ?_ ?_ ?_ ?_ ?_ ?_ ?_ ?_ ?_ ?_ ?_ ?_ ?_ ?_ ?_ ?_ <;> first | rfl | exact fun _ => rfl | exact fun h => absurd h (by decide) | skip)

theorem State.addTask_ext {s : State} {e : Nat} {t : Task} {M₀ : Nat} {a₀ : State} (hM : Within 16388 M₀) (h₀ : Ext M₀ a₀ s) :
    Ext M₀ a₀ (State.addTask s e t) := by
  refine Ext.via hM h₀ ?_
  clear hM h₀ M₀ a₀
  suffices H : ∀ a₀, Ext 16388 a₀ s → Ext 16388 a₀ (State.addTask s e t) from H s (Ext.refl _ _)
  intro a₀ h₀
  unfold State.addTask
  repeat' first
    | with_reducible assumption
    | (with_reducible intro _; intros; try beta_reduce)
    | with_reducible refine State.setEng_ext (by decide) ?_
    | with_reducible refine State.engUpdate_ext (by decide) ?_
    | split
    | (refine Ext.upd ?_ ?_ ?_ ?_ ?_ ?_ ?_ ?_ ?_ ?_ ?_ ?_ ?_ ?_ ?_ ?_ ?_ ?_ ?_ ?_ <;> first | rfl | exact fun _ => rfl | exact fun h => absurd h (by decide) | skip)

theorem State.dropTasksIf_ext {s : State} {p : Nat → Task → Bool} {M₀ : Nat} {a₀ : State} (hM : Within 16388 M₀) (h₀ : Ext M₀ a₀ s) :
    Ext M₀ a₀ (State.dropTasksIf s p) := by
  refine Ext.via hM h₀ ?_
  clear hM h₀ M₀ a₀
  suffices H : ∀ a₀, Ext 16388 a₀ s → Ext 16388 a₀ (State.dropTasksIf s p) from H s (Ext.refl _ _)
  intro a₀ h₀
  unfold State.dropTasksIf
  repeat' first
    | with_reducible assumption
    | (with_reducible intro _; intros; try beta_reduce)
    | ((fail_if_no_progress extract_lets +onlyGivenNames t); refine Ext.cut (M := 16388) (a := a₀) (b := t) ?_ (fun ht => ?_); rotate_left; clear_value t)
    | ((fail_if_no_progress extract_lets +onlyGivenNames u); have v : Nat := u; clear v; clear_value u)
    | ((fail_if_no_progress extract_lets +onlyGivenNames u); have v : List _ := u; clear v; clear_value u)
    | ((fail_if_no_progress extract_lets +onlyGivenNames u); have v : Option _ := u; clear v; fail_if_success (have v : Option State := u); clear_value u)
    | (fail_if_no_progress extract_lets +onlyGivenNames u)
    | with_reducible refine State.setEng_ext (by decide) ?_
    | with_reducible refine State.engUpdate_ext (by decide) ?_
    | (with_reducible refine Ext.foldl _ ?_ ?_)
    | (with_reducible refine Ext.foldl_fst _ ?_ ?_)
    | split
    | (clear_value *; split)
    | (unfold t)
    | (unfold u; try beta_reduce)
    | (refine Ext.upd ?_ ?_ ?_ ?_ ?_ ?_ ?_ ?_ ?_ ?_ ?_ ?_ ?_ ?_ ?_ ?_ ?_ ?_ ?_ ?_ <;> first | rfl | exact fun _ => rfl | exact fun h => absurd h (by decide) | skip)

theorem State.dropTasks_ext {s : State} {slot admitNo : Nat} {M₀ : Nat} {a₀ : State} (hM : Within 16388 M₀) (h₀ : Ext M₀ a₀ s) :
    Ext M₀ a₀ (State.dropTasks s slot admitNo) := by
  refine Ext.via hM h₀ ?_
  clear hM h₀ M₀ a₀
  suffices H : ∀ a₀, Ext 16388 a₀ s → Ext 16388 a₀ (State.dropTasks s slot admitNo) from H s (Ext.refl _ _)
  intro a₀ h₀
  unfold State.dropTasks
  repeat' first
    | with_reducible assumption
    | (with_reducible intro _; intros; try beta_reduce)
    | with_reducible refine State.dropTasksIf_ext (by decide) ?_
    | with_reducible refine State.setKern_ext (by decide) ?_
    | split

theorem State.putTask_ext {s : State} {e : Nat} {t : Task} {M₀ : Nat} {a₀ : State} (hM : Within 16384 M₀) (h₀ : Ext M₀ a₀ s) :
    Ext M₀ a₀ (State.putTask s e t) := by
  refine Ext.via hM h₀ ?_
  clear hM h₀ M₀ a₀
  suffices H : ∀ a₀, Ext 16384 a₀ s → Ext 16384 a₀ (State.putTask s e t) from H s (Ext.refl _ _)
  intro a₀ h₀
  unfold State.putTask
  repeat' first
    | with_reducible assumption
    | (with_reducible intro _; intros; try beta_reduce)
    | ((fail_if_no_progress extract_lets +onlyGivenNames t); refine Ext.cut (M := 16384) (a := a₀) (b := t) ?_ (fun ht => ?_); rotate_left; clear_value t)
    | ((fail_if_no_progress extract_lets +onlyGivenNames u); have v : Nat := u; clear v; clear_value u)
    | ((fail_if_no_progress extract_lets +onlyGivenNames u); have v : List _ := u; clear v; clear_value u)
    | ((fail_if_no_progress extract_lets +onlyGivenNames u); have v : Option _ := u; clear v; fail_if_success (have v : Option State := u); clear_value u)
    | (fail_if_no_progress extract_lets +onlyGivenNames u)
    | with_reducible refine State.setEng_ext (by decide) ?_
    | split
    | (clear_value *; split)
    | (unfold t)
    | (unfold u; try beta_reduce)
    | (refine Ext.upd ?_ ?_ ?_ ?_ ?_ ?_ ?_ ?_ ?_ ?_ ?_ ?_ ?_ ?_ ?_ ?_ ?_ ?_ ?_ ?_ <;> first | rfl | exact fun _ => rfl | exact fun h => absurd h (by decide) | skip)

theorem State.endTask_ext {s : State} {e : Nat} {t : Task} {M₀ : Nat} {a₀ : State} (hM : Within 16388 M₀) (h₀ : Ext M₀ a₀ s) :
    Ext M₀ a₀ (State.endTask s e t) := by
  refine Ext.via hM h₀ ?_
  clear hM h₀ M₀ a₀
  suffices H : ∀ a₀, Ext 16388 a₀ s → Ext 16388 a₀ (State.endTask s e t) from H s (Ext.refl _ _)
  intro a₀ h₀
  unfold State.endTask
  repeat' first
    | with_reducible assumption
    | (with_reducible intro _; intros; try beta_reduce)
    | ((fail_if_no_progress extract_lets +onlyGivenNames t); refine Ext.cut (M := 16388) (a := a₀) (b := t) ?_ (fun ht => ?_); rotate_left; clear_value t)
    | ((fail_if_no_progress extract_lets +onlyGivenNames u); have v : Nat := u; clear v; clear_value u)
    | ((fail_if_no_progress extract_lets +onlyGivenNames u); have v : List _ := u; clear v; clear_value u)
    | ((fail_if_no_progress extract_lets +onlyGivenNames u); have v : Option _ := u; clear v; fail_if_success (have v : Option State := u); clear_value u)
    | (fail_if_no_progress extract_lets +onlyGivenNames u)
    | with_reducible refine State.setEng_ext (by decide) ?_
    | with_reducible refine State.engUpdate_ext (by decide) ?_
    | split
    | (clear_value *; split)
    | (unfold t)
    | (unfold u; try beta_reduce)
    | (refine Ext.upd ?_ ?_ ?_ ?_ ?_ ?_ ?_ ?_ ?_ ?_ ?_ ?_ ?_ ?_ ?_ ?_ ?_ ?_ ?_ ?_ <;> first | rfl | exact fun _ => rfl | exact fun h => absurd h (by decide) | skip)

theorem State.tookTurn_ext {s : State} {e : Nat} {t : Task} {M₀ : Nat} {a₀ : State} (hM : Within 16388 M₀) (h₀ : Ext M₀ a₀ s) :
    Ext M₀ a₀ (State.tookTurn s e t) := by
  refine Ext.via hM h₀ ?_
  clear hM h₀ M₀ a₀
  suffices H : ∀ a₀, Ext 16388 a₀ s → Ext 16388 a₀ (State.tookTurn s e t) from H s (Ext.refl _ _)
  intro a₀ h₀
  unfold State.tookTurn
  repeat' first
    | with_reducible assumption
    | (with_reducible intro _; intros; try beta_reduce)
    | ((fail_if_no_progress extract_lets +onlyGivenNames t); refine Ext.cut (M := 16388) (a := a₀) (b := t) ?_ (fun ht => ?_); rotate_left; clear_value t)
    | ((fail_if_no_progress extract_lets +onlyGivenNames u); have v : Nat := u; clear v; clear_value u)
    | ((fail_if_no_progress extract_lets +onlyGivenNames u); have v : List _ := u; clear v; clear_value u)
    | ((fail_if_no_progress extract_lets +onlyGivenNames u); have v : Option _ := u; clear v; fail_if_success (have v : Option State := u); clear_value u)
    | (fail_if_no_progress extract_lets +onlyGivenNames u)
    | with_reducible refine State.setEng_ext (by decide) ?_
    | with_reducible refine State.bumpSat_ext (by decide) ?_
    | split
    | (clear_value *; split)
    | (unfold t)
    | (unfold u; try beta_reduce)
    | (refine Ext.upd ?_ ?_ ?_ ?_ ?_ ?_ ?_ ?_ ?_ ?_ ?_ ?_ ?_ ?_ ?_ ?_ ?_ ?_ ?_ ?_ <;> first | rfl | exact fun _ => rfl | exact fun h => absurd h (by decide) | skip)

end Sys2Proof.Machine
end

