-- ==== Sys2Proof/Laws/ExtMemory.lean ====
section
/-!
SUPPORT. What each operation of Machine/Memory.lean can change: one lemma each.
-/
namespace Sys2Proof.Machine

theorem State.inventoryUpdate_ext {s : State} {M₀ : Nat} {a₀ : State} (hM : Within 4 M₀) (h₀ : Ext M₀ a₀ s) :
    Ext M₀ a₀ (State.inventoryUpdate s) := by
  refine Ext.via hM h₀ ?_
  clear hM h₀ M₀ a₀
  suffices H : ∀ a₀, Ext 4 a₀ s → Ext 4 a₀ (State.inventoryUpdate s) from H s (Ext.refl _ _)
  intro a₀ h₀
  unfold State.inventoryUpdate
  repeat' first
    | with_reducible assumption
    | (with_reducible intro _; intros; try beta_reduce)
    | ((fail_if_no_progress extract_lets +onlyGivenNames t); refine Ext.cut (M := 4) (a := a₀) (b := t) ?_ (fun ht => ?_); rotate_left; clear_value t)
    | ((fail_if_no_progress extract_lets +onlyGivenNames u); have v : Nat := u; clear v; clear_value u)
    | ((fail_if_no_progress extract_lets +onlyGivenNames u); have v : List _ := u; clear v; clear_value u)
    | ((fail_if_no_progress extract_lets +onlyGivenNames u); have v : Option _ := u; clear v; fail_if_success (have v : Option State := u); clear_value u)
    | (fail_if_no_progress extract_lets +onlyGivenNames u)
    | with_reducible refine State.put_ext (by decide) ?_
    | (with_reducible refine Ext.foldl _ ?_ ?_)
    | (with_reducible refine Ext.foldl_fst _ ?_ ?_)
    | split
    | (clear_value *; split)
    | (unfold t)
    | (unfold u; try beta_reduce)

theorem State.capacityUpdate_ext {s : State} {M₀ : Nat} {a₀ : State} (hM : Within 4 M₀) (h₀ : Ext M₀ a₀ s) :
    Ext M₀ a₀ (State.capacityUpdate s) := by
  refine Ext.via hM h₀ ?_
  clear hM h₀ M₀ a₀
  suffices H : ∀ a₀, Ext 4 a₀ s → Ext 4 a₀ (State.capacityUpdate s) from H s (Ext.refl _ _)
  intro a₀ h₀
  unfold State.capacityUpdate
  repeat' first
    | with_reducible assumption
    | (with_reducible intro _; intros; try beta_reduce)
    | ((fail_if_no_progress extract_lets +onlyGivenNames t); refine Ext.cut (M := 4) (a := a₀) (b := t) ?_ (fun ht => ?_); rotate_left; clear_value t)
    | ((fail_if_no_progress extract_lets +onlyGivenNames u); have v : Nat := u; clear v; clear_value u)
    | ((fail_if_no_progress extract_lets +onlyGivenNames u); have v : List _ := u; clear v; clear_value u)
    | ((fail_if_no_progress extract_lets +onlyGivenNames u); have v : Option _ := u; clear v; fail_if_success (have v : Option State := u); clear_value u)
    | (fail_if_no_progress extract_lets +onlyGivenNames u)
    | with_reducible refine State.wr_ext (by decide) ?_
    | (with_reducible refine Ext.foldl _ ?_ ?_)
    | (with_reducible refine Ext.foldl_fst _ ?_ ?_)
    | split
    | (clear_value *; split)
    | (unfold t)
    | (unfold u; try beta_reduce)

theorem State.setHsm_ext {s : State} {x : Hsm} {M₀ : Nat} {a₀ : State} (hM : Within 8192 M₀) (h₀ : Ext M₀ a₀ s) :
    Ext M₀ a₀ (State.setHsm s x) := by
  refine Ext.via hM h₀ ?_
  clear hM h₀ M₀ a₀
  suffices H : ∀ a₀, Ext 8192 a₀ s → Ext 8192 a₀ (State.setHsm s x) from H s (Ext.refl _ _)
  intro a₀ h₀
  unfold State.setHsm
  repeat' first
    | with_reducible assumption
    | (with_reducible intro _; intros; try beta_reduce)
    | split
    | (refine Ext.upd ?_ ?_ ?_ ?_ ?_ ?_ ?_ ?_ ?_ ?_ ?_ ?_ ?_ ?_ ?_ ?_ ?_ ?_ ?_ ?_ <;> first | rfl | exact fun _ => rfl | exact fun h => absurd h (by decide) | skip)

theorem State.markSector_ext {s : State} {k : Nat} {M₀ : Nat} {a₀ : State} (hM : Within 32 M₀) (h₀ : Ext M₀ a₀ s) : Ext M₀ a₀ (s.markSector k) := by
  refine Ext.via hM h₀ ?_
  unfold State.markSector
  exact Ext.marks (Ext.refl _ _) rfl (Sparse.wf_put _ _)

theorem State.owe_ext {s : State} {e : LedgerEntry} {M₀ : Nat} {a₀ : State} (hM : Within 1048576 M₀) (h₀ : Ext M₀ a₀ s) :
    Ext M₀ a₀ (State.owe s e) := by
  refine Ext.via hM h₀ ?_
  clear hM h₀ M₀ a₀
  suffices H : ∀ a₀, Ext 1048576 a₀ s → Ext 1048576 a₀ (State.owe s e) from H s (Ext.refl _ _)
  intro a₀ h₀
  unfold State.owe
  repeat' first
    | with_reducible assumption
    | (with_reducible intro _; intros; try beta_reduce)
    | split
    | (refine Ext.upd ?_ ?_ ?_ ?_ ?_ ?_ ?_ ?_ ?_ ?_ ?_ ?_ ?_ ?_ ?_ ?_ ?_ ?_ ?_ ?_ <;> first | rfl | exact fun _ => rfl | exact fun h => absurd h (by decide) | skip)

theorem State.setUeTimes_ext {s : State} {n : Nat} {l : List Nat} {M₀ : Nat} {a₀ : State} (hM : Within 8192 M₀) (h₀ : Ext M₀ a₀ s) :
    Ext M₀ a₀ (State.setUeTimes s n l) := by
  refine Ext.via hM h₀ ?_
  clear hM h₀ M₀ a₀
  suffices H : ∀ a₀, Ext 8192 a₀ s → Ext 8192 a₀ (State.setUeTimes s n l) from H s (Ext.refl _ _)
  intro a₀ h₀
  unfold State.setUeTimes
  repeat' first
    | with_reducible assumption
    | (with_reducible intro _; intros; try beta_reduce)
    | with_reducible refine State.setHsm_ext (by decide) ?_
    | split
    | (refine Ext.upd ?_ ?_ ?_ ?_ ?_ ?_ ?_ ?_ ?_ ?_ ?_ ?_ ?_ ?_ ?_ ?_ ?_ ?_ ?_ ?_ <;> first | rfl | exact fun _ => rfl | exact fun h => absurd h (by decide) | skip)

theorem State.poisonSector_ext {s : State} {n sector : Nat} {M₀ : Nat} {a₀ : State} (hM : Within 8356 M₀) (h₀ : Ext M₀ a₀ s) :
    Ext M₀ a₀ (State.poisonSector s n sector) := by
  refine Ext.via hM h₀ ?_
  clear hM h₀ M₀ a₀
  suffices H : ∀ a₀, Ext 8356 a₀ s → Ext 8356 a₀ (State.poisonSector s n sector) from H s (Ext.refl _ _)
  intro a₀ h₀
  unfold State.poisonSector
  repeat' first
    | with_reducible assumption
    | (with_reducible intro _; intros; try beta_reduce)
    | ((fail_if_no_progress extract_lets +onlyGivenNames t); refine Ext.cut (M := 8356) (a := a₀) (b := t) ?_ (fun ht => ?_); rotate_left; clear_value t)
    | ((fail_if_no_progress extract_lets +onlyGivenNames u); have v : Nat := u; clear v; clear_value u)
    | ((fail_if_no_progress extract_lets +onlyGivenNames u); have v : List _ := u; clear v; clear_value u)
    | ((fail_if_no_progress extract_lets +onlyGivenNames u); have v : Option _ := u; clear v; fail_if_success (have v : Option State := u); clear_value u)
    | (fail_if_no_progress extract_lets +onlyGivenNames u)
    | with_reducible refine State.markSector_ext (by decide) ?_
    | with_reducible refine State.bumpSat_ext (by decide) ?_
    | with_reducible refine State.put_ext (by decide) ?_
    | with_reducible refine State.setUeTimes_ext (by decide) ?_
    | with_reducible refine State.event_ext (by decide) ?_
    | split
    | (clear_value *; split)
    | (unfold t)
    | (unfold u; try beta_reduce)

theorem patrolScrub_ext {n find : Nat} {demand : Option Nat} {s : State} {M₀ : Nat} {a₀ : State} (hM : Within 8356 M₀) (h₀ : Ext M₀ a₀ s) :
    Ext M₀ a₀ (patrolScrub n find demand s) := by
  refine Ext.via hM h₀ ?_
  clear hM h₀ M₀ a₀
  suffices H : ∀ a₀, Ext 8356 a₀ s → Ext 8356 a₀ (patrolScrub n find demand s) from H s (Ext.refl _ _)
  intro a₀ h₀
  unfold patrolScrub
  repeat' first
    | with_reducible assumption
    | (with_reducible intro _; intros; try beta_reduce)
    | ((fail_if_no_progress extract_lets +onlyGivenNames t); refine Ext.cut (M := 8356) (a := a₀) (b := t) ?_ (fun ht => ?_); rotate_left; clear_value t)
    | ((fail_if_no_progress extract_lets +onlyGivenNames u); have v : Nat := u; clear v; clear_value u)
    | ((fail_if_no_progress extract_lets +onlyGivenNames u); have v : List _ := u; clear v; clear_value u)
    | ((fail_if_no_progress extract_lets +onlyGivenNames u); have v : Option _ := u; clear v; fail_if_success (have v : Option State := u); clear_value u)
    | (fail_if_no_progress extract_lets +onlyGivenNames u)
    | with_reducible refine State.setHsm_ext (by decide) ?_
    | with_reducible refine State.bumpSat_ext (by decide) ?_
    | with_reducible refine State.poisonSector_ext (by decide) ?_
    | split
    | (clear_value *; split)
    | (unfold t)
    | (unfold u; try beta_reduce)
    | (refine Ext.upd ?_ ?_ ?_ ?_ ?_ ?_ ?_ ?_ ?_ ?_ ?_ ?_ ?_ ?_ ?_ ?_ ?_ ?_ ?_ ?_ <;> first | rfl | exact fun _ => rfl | exact fun h => absurd h (by decide) | skip)

theorem State.wantRetrain_ext {s : State} {n : Nat} {b : Bool} {M₀ : Nat} {a₀ : State} (hM : Within 8192 M₀) (h₀ : Ext M₀ a₀ s) :
    Ext M₀ a₀ (State.wantRetrain s n b) := by
  refine Ext.via hM h₀ ?_
  clear hM h₀ M₀ a₀
  suffices H : ∀ a₀, Ext 8192 a₀ s → Ext 8192 a₀ (State.wantRetrain s n b) from H s (Ext.refl _ _)
  intro a₀ h₀
  unfold State.wantRetrain
  repeat' first
    | with_reducible assumption
    | (with_reducible intro _; intros; try beta_reduce)
    | split
    | (refine Ext.upd ?_ ?_ ?_ ?_ ?_ ?_ ?_ ?_ ?_ ?_ ?_ ?_ ?_ ?_ ?_ ?_ ?_ ?_ ?_ ?_ <;> first | rfl | exact fun _ => rfl | exact fun h => absurd h (by decide) | skip)

theorem writeRetrainReq_ext {w : Writer} {v : Nat} {s : State} {M₀ : Nat} {a₀ : State} (hM : Within 8324 M₀) (h₀ : Ext M₀ a₀ s) :
    Ext M₀ a₀ (writeRetrainReq w v s) := by
  refine Ext.via hM h₀ ?_
  clear hM h₀ M₀ a₀
  suffices H : ∀ a₀, Ext 8324 a₀ s → Ext 8324 a₀ (writeRetrainReq w v s) from H s (Ext.refl _ _)
  intro a₀ h₀
  unfold writeRetrainReq
  repeat' first
    | with_reducible assumption
    | (with_reducible intro _; intros; try beta_reduce)
    | with_reducible refine State.badWrite_ext (by decide) ?_
    | with_reducible refine State.wantRetrain_ext (by decide) ?_
    | split

theorem State.markTrained_ext {s : State} {n : Nat} {M₀ : Nat} {a₀ : State} (hM : Within 8192 M₀) (h₀ : Ext M₀ a₀ s) :
    Ext M₀ a₀ (State.markTrained s n) := by
  refine Ext.via hM h₀ ?_
  clear hM h₀ M₀ a₀
  suffices H : ∀ a₀, Ext 8192 a₀ s → Ext 8192 a₀ (State.markTrained s n) from H s (Ext.refl _ _)
  intro a₀ h₀
  unfold State.markTrained
  repeat' first
    | with_reducible assumption
    | (with_reducible intro _; intros; try beta_reduce)
    | with_reducible refine State.setHsm_ext (by decide) ?_
    | split
    | (refine Ext.upd ?_ ?_ ?_ ?_ ?_ ?_ ?_ ?_ ?_ ?_ ?_ ?_ ?_ ?_ ?_ ?_ ?_ ?_ ?_ ?_ <;> first | rfl | exact fun _ => rfl | exact fun h => absurd h (by decide) | skip)

theorem retrainTrigger_ext {n : Nat} {byTemp : Bool} {retries : Nat} {failed : Option Nat} {s : State} {M₀ : Nat} {a₀ : State} (hM : Within 8356 M₀) (h₀ : Ext M₀ a₀ s) :
    Ext M₀ a₀ (retrainTrigger n byTemp retries failed s) := by
  refine Ext.via hM h₀ ?_
  clear hM h₀ M₀ a₀
  suffices H : ∀ a₀, Ext 8356 a₀ s → Ext 8356 a₀ (retrainTrigger n byTemp retries failed s) from H s (Ext.refl _ _)
  intro a₀ h₀
  unfold retrainTrigger
  repeat' first
    | with_reducible assumption
    | (with_reducible intro _; intros; try beta_reduce)
    | ((fail_if_no_progress extract_lets +onlyGivenNames t); refine Ext.cut (M := 8356) (a := a₀) (b := t) ?_ (fun ht => ?_); rotate_left; clear_value t)
    | ((fail_if_no_progress extract_lets +onlyGivenNames u); have v : Nat := u; clear v; clear_value u)
    | ((fail_if_no_progress extract_lets +onlyGivenNames u); have v : List _ := u; clear v; clear_value u)
    | ((fail_if_no_progress extract_lets +onlyGivenNames u); have v : Option _ := u; clear v; fail_if_success (have v : Option State := u); clear_value u)
    | (fail_if_no_progress extract_lets +onlyGivenNames u)
    | with_reducible refine State.wantRetrain_ext (by decide) ?_
    | with_reducible refine State.bumpSat_ext (by decide) ?_
    | with_reducible refine State.poisonSector_ext (by decide) ?_
    | split
    | (clear_value *; split)
    | (unfold t)
    | (unfold u; try beta_reduce)

theorem channelRetrain_ext {n : Nat} {s : State} {M₀ : Nat} {a₀ : State} (hM : Within 8196 M₀) (h₀ : Ext M₀ a₀ s) :
    Ext M₀ a₀ (channelRetrain n s) := by
  refine Ext.via hM h₀ ?_
  clear hM h₀ M₀ a₀
  suffices H : ∀ a₀, Ext 8196 a₀ s → Ext 8196 a₀ (channelRetrain n s) from H s (Ext.refl _ _)
  intro a₀ h₀
  unfold channelRetrain
  repeat' first
    | with_reducible assumption
    | (with_reducible intro _; intros; try beta_reduce)
    | ((fail_if_no_progress extract_lets +onlyGivenNames t); refine Ext.cut (M := 8196) (a := a₀) (b := t) ?_ (fun ht => ?_); rotate_left; clear_value t)
    | ((fail_if_no_progress extract_lets +onlyGivenNames u); have v : Nat := u; clear v; clear_value u)
    | ((fail_if_no_progress extract_lets +onlyGivenNames u); have v : List _ := u; clear v; clear_value u)
    | ((fail_if_no_progress extract_lets +onlyGivenNames u); have v : Option _ := u; clear v; fail_if_success (have v : Option State := u); clear_value u)
    | (fail_if_no_progress extract_lets +onlyGivenNames u)
    | with_reducible refine State.wantRetrain_ext (by decide) ?_
    | with_reducible refine State.put_ext (by decide) ?_
    | with_reducible refine State.bumpSat_ext (by decide) ?_
    | with_reducible refine State.setHsm_ext (by decide) ?_
    | split
    | (clear_value *; split)
    | (unfold t)
    | (unfold u; try beta_reduce)
    | (refine Ext.upd ?_ ?_ ?_ ?_ ?_ ?_ ?_ ?_ ?_ ?_ ?_ ?_ ?_ ?_ ?_ ?_ ?_ ?_ ?_ ?_ <;> first | rfl | exact fun _ => rfl | exact fun h => absurd h (by decide) | skip)

theorem writeHsmTest_ext {w : Writer} {n v : Nat} {s : State} {M₀ : Nat} {a₀ : State} (hM : Within 132 M₀) (h₀ : Ext M₀ a₀ s) :
    Ext M₀ a₀ (writeHsmTest w n v s) := by
  refine Ext.via hM h₀ ?_
  clear hM h₀ M₀ a₀
  suffices H : ∀ a₀, Ext 132 a₀ s → Ext 132 a₀ (writeHsmTest w n v s) from H s (Ext.refl _ _)
  intro a₀ h₀
  unfold writeHsmTest
  repeat' first
    | with_reducible assumption
    | (with_reducible intro _; intros; try beta_reduce)
    | ((fail_if_no_progress extract_lets +onlyGivenNames t); refine Ext.cut (M := 132) (a := a₀) (b := t) ?_ (fun ht => ?_); rotate_left; clear_value t)
    | ((fail_if_no_progress extract_lets +onlyGivenNames u); have v : Nat := u; clear v; clear_value u)
    | ((fail_if_no_progress extract_lets +onlyGivenNames u); have v : List _ := u; clear v; clear_value u)
    | ((fail_if_no_progress extract_lets +onlyGivenNames u); have v : Option _ := u; clear v; fail_if_success (have v : Option State := u); clear_value u)
    | (fail_if_no_progress extract_lets +onlyGivenNames u)
    | with_reducible refine State.badWrite_ext (by decide) ?_
    | with_reducible refine State.put_ext (by decide) ?_
    | split
    | (clear_value *; split)
    | (unfold t)
    | (unfold u; try beta_reduce)

theorem hsmTestDone_ext {n errors : Nat} {s : State} {M₀ : Nat} {a₀ : State} (hM : Within 4 M₀) (h₀ : Ext M₀ a₀ s) :
    Ext M₀ a₀ (hsmTestDone n errors s) := by
  refine Ext.via hM h₀ ?_
  clear hM h₀ M₀ a₀
  suffices H : ∀ a₀, Ext 4 a₀ s → Ext 4 a₀ (hsmTestDone n errors s) from H s (Ext.refl _ _)
  intro a₀ h₀
  unfold hsmTestDone
  repeat' first
    | with_reducible assumption
    | (with_reducible intro _; intros; try beta_reduce)
    | with_reducible refine State.put_ext (by decide) ?_
    | split

end Sys2Proof.Machine
end

