-- ==== Sys2Proof/Laws/ExtArrays.lean ====
section
/-!
SUPPORT. What each operation of Machine/Arrays.lean can change: one lemma each.
-/
namespace Sys2Proof.Machine

theorem State.mmTaken_ext {s : State} {slot : Nat} {o : Op} {kw kx ko : Take} {M₀ : Nat} {a₀ : State} (hM : Within 4164 M₀) (h₀ : Ext M₀ a₀ s) :
    Ext M₀ a₀ (State.mmTaken s slot o kw kx ko) := by
  refine Ext.via hM h₀ ?_
  clear hM h₀ M₀ a₀
  suffices H : ∀ a₀, Ext 4164 a₀ s → Ext 4164 a₀ (State.mmTaken s slot o kw kx ko) from H s (Ext.refl _ _)
  intro a₀ h₀
  unfold State.mmTaken
  repeat' first
    | with_reducible assumption
    | (with_reducible intro _; intros; try beta_reduce)
    | with_reducible refine State.issue_ext (by decide) ?_
    | with_reducible refine State.consume_ext (by decide) ?_
    | split

theorem State.mmDeal_ext {s : State} {slot : Nat} {m : MmRun} {M₀ : Nat} {a₀ : State} (hM : Within 16388 M₀) (h₀ : Ext M₀ a₀ s) :
    Ext M₀ a₀ (State.mmDeal s slot m) := by
  refine Ext.via hM h₀ ?_
  clear hM h₀ M₀ a₀
  suffices H : ∀ a₀, Ext 16388 a₀ s → Ext 16388 a₀ (State.mmDeal s slot m) from H s (Ext.refl _ _)
  intro a₀ h₀
  unfold State.mmDeal
  repeat' first
    | with_reducible assumption
    | (with_reducible intro _; intros; try beta_reduce)
    | with_reducible refine State.setArr_ext (by decide) ?_
    | with_reducible refine State.arrUpdate_ext (by decide) ?_
    | (with_reducible refine Ext.foldl _ ?_ ?_)
    | (with_reducible refine Ext.foldl_fst _ ?_ ?_)
    | split
    | (refine Ext.upd ?_ ?_ ?_ ?_ ?_ ?_ ?_ ?_ ?_ ?_ ?_ ?_ ?_ ?_ ?_ ?_ ?_ ?_ ?_ ?_ <;> first | rfl | exact fun _ => rfl | exact fun h => absurd h (by decide) | skip)

theorem State.swapHalves_ext {s : State} {slot : Nat} {m : MmRun} {a : Nat} {M₀ : Nat} {a₀ : State} (hM : Within 20484 M₀) (h₀ : Ext M₀ a₀ s) :
    Ext M₀ a₀ (State.swapHalves s slot m a) := by
  refine Ext.via hM h₀ ?_
  clear hM h₀ M₀ a₀
  suffices H : ∀ a₀, Ext 20484 a₀ s → Ext 20484 a₀ (State.swapHalves s slot m a) from H s (Ext.refl _ _)
  intro a₀ h₀
  unfold State.swapHalves
  repeat' first
    | with_reducible assumption
    | (with_reducible intro _; intros; try beta_reduce)
    | ((fail_if_no_progress extract_lets +onlyGivenNames t); refine Ext.cut (M := 20484) (a := a₀) (b := t) ?_ (fun ht => ?_); rotate_left; clear_value t)
    | ((fail_if_no_progress extract_lets +onlyGivenNames u); have v : Nat := u; clear v; clear_value u)
    | ((fail_if_no_progress extract_lets +onlyGivenNames u); have v : List _ := u; clear v; clear_value u)
    | ((fail_if_no_progress extract_lets +onlyGivenNames u); have v : Option _ := u; clear v; fail_if_success (have v : Option State := u); clear_value u)
    | (fail_if_no_progress extract_lets +onlyGivenNames u)
    | with_reducible refine State.setArr_ext (by decide) ?_
    | with_reducible refine State.setClaim_ext (by decide) ?_
    | with_reducible refine State.put_ext (by decide) ?_
    | (with_reducible refine Ext.foldl _ ?_ ?_)
    | (with_reducible refine Ext.foldl_fst _ ?_ ?_)
    | split
    | (clear_value *; split)
    | (unfold t)
    | (unfold u; try beta_reduce)
    | (refine Ext.upd ?_ ?_ ?_ ?_ ?_ ?_ ?_ ?_ ?_ ?_ ?_ ?_ ?_ ?_ ?_ ?_ ?_ ?_ ?_ ?_ <;> first | rfl | exact fun _ => rfl | exact fun h => absurd h (by decide) | skip)

theorem State.mmPlace_ext {s : State} {slot : Nat} {m : MmRun} {claimed : List Nat} {M₀ : Nat} {a₀ : State} (hM : Within 53316 M₀) (h₀ : Ext M₀ a₀ s) :
    Ext M₀ a₀ (State.mmPlace s slot m claimed) := by
  refine Ext.via hM h₀ ?_
  clear hM h₀ M₀ a₀
  suffices H : ∀ a₀, Ext 53316 a₀ s → Ext 53316 a₀ (State.mmPlace s slot m claimed) from H s (Ext.refl _ _)
  intro a₀ h₀
  unfold State.mmPlace
  repeat' first
    | with_reducible assumption
    | (with_reducible intro _; intros; try beta_reduce)
    | ((fail_if_no_progress extract_lets +onlyGivenNames t); refine Ext.cut (M := 53316) (a := a₀) (b := t) ?_ (fun ht => ?_); rotate_left; clear_value t)
    | ((fail_if_no_progress extract_lets +onlyGivenNames u); have v : Nat := u; clear v; clear_value u)
    | ((fail_if_no_progress extract_lets +onlyGivenNames u); have v : List _ := u; clear v; clear_value u)
    | ((fail_if_no_progress extract_lets +onlyGivenNames u); have v : Option _ := u; clear v; fail_if_success (have v : Option State := u); clear_value u)
    | (fail_if_no_progress extract_lets +onlyGivenNames u)
    | with_reducible refine State.setMm_ext (by decide) ?_
    | with_reducible refine State.noteOut_ext (by decide) ?_
    | with_reducible refine State.setHealth_ext (by decide) ?_
    | with_reducible refine State.swapHalves_ext (by decide) ?_
    | with_reducible refine State.mmDeal_ext (by decide) ?_
    | (with_reducible refine Ext.foldl _ ?_ ?_)
    | (with_reducible refine Ext.foldl_fst _ ?_ ?_)
    | split
    | (clear_value *; split)
    | (unfold t)
    | (unfold u; try beta_reduce)
    | (refine Ext.upd ?_ ?_ ?_ ?_ ?_ ?_ ?_ ?_ ?_ ?_ ?_ ?_ ?_ ?_ ?_ ?_ ?_ ?_ ?_ ?_ <;> first | rfl | exact fun _ => rfl | exact fun h => absurd h (by decide) | skip)

theorem State.mmBegin_ext {t : State} {slot : Nat} {o : Op} {run : MmRun} {claimed : List Nat} {M₀ : Nat} {a₀ : State} (hM : Within 53444 M₀) (h₀ : Ext M₀ a₀ t) :
    Ext M₀ a₀ (State.mmBegin t slot o run claimed) := by
  refine Ext.via hM h₀ ?_
  clear hM h₀ M₀ a₀
  suffices H : ∀ a₀, Ext 53444 a₀ t → Ext 53444 a₀ (State.mmBegin t slot o run claimed) from H t (Ext.refl _ _)
  intro a₀ h₀
  unfold State.mmBegin
  repeat' first
    | with_reducible assumption
    | (with_reducible intro _; intros; try beta_reduce)
    | with_reducible refine State.finish_ext (by decide) ?_
    | with_reducible refine State.mmPlace_ext (by decide) ?_
    | with_reducible refine State.descFault_ext (by decide) ?_
    | split

theorem opMatmul_ext {slot : Nat} {s : State} {M₀ : Nat} {a₀ : State} (hM : Within 53444 M₀) (h₀ : Ext M₀ a₀ s) :
    Ext M₀ a₀ (opMatmul slot s) := by
  refine Ext.via hM h₀ ?_
  clear hM h₀ M₀ a₀
  suffices H : ∀ a₀, Ext 53444 a₀ s → Ext 53444 a₀ (opMatmul slot s) from H s (Ext.refl _ _)
  intro a₀ h₀
  unfold opMatmul
  repeat' first
    | with_reducible assumption
    | (with_reducible intro _; intros; try beta_reduce)
    | ((fail_if_no_progress extract_lets +onlyGivenNames t); refine Ext.cut (M := 53444) (a := a₀) (b := t) ?_ (fun ht => ?_); rotate_left; clear_value t)
    | ((fail_if_no_progress extract_lets +onlyGivenNames u); have v : Nat := u; clear v; clear_value u)
    | ((fail_if_no_progress extract_lets +onlyGivenNames u); have v : List _ := u; clear v; clear_value u)
    | ((fail_if_no_progress extract_lets +onlyGivenNames u); have v : Option _ := u; clear v; fail_if_success (have v : Option State := u); clear_value u)
    | (fail_if_no_progress extract_lets +onlyGivenNames u)
    | with_reducible refine State.issue_ext (by decide) ?_
    | with_reducible refine State.descFault_ext (by decide) ?_
    | with_reducible refine State.finish_ext (by decide) ?_
    | with_reducible refine State.mmTaken_ext (by decide) ?_
    | with_reducible refine State.setStatus_ext (by decide) ?_
    | with_reducible refine State.advanceRng_ext (by decide) ?_
    | with_reducible refine State.mmBegin_ext (by decide) ?_
    | split
    | (clear_value *; split)
    | (unfold t)
    | (unfold u; try beta_reduce)

theorem stirrupWrite_ext {a : Nat} {alongM : Bool} {m0 k0 : Nat} {s : State} {M₀ : Nat} {a₀ : State} (hM : Within 20598 M₀) (h₀ : Ext M₀ a₀ s) :
    Ext M₀ a₀ (stirrupWrite a alongM m0 k0 s) := by
  refine Ext.via hM h₀ ?_
  clear hM h₀ M₀ a₀
  suffices H : ∀ a₀, Ext 20598 a₀ s → Ext 20598 a₀ (stirrupWrite a alongM m0 k0 s) from H s (Ext.refl _ _)
  intro a₀ h₀
  unfold stirrupWrite
  repeat' first
    | with_reducible assumption
    | (with_reducible intro _; intros; try beta_reduce)
    | ((fail_if_no_progress extract_lets +onlyGivenNames t); refine Ext.cut (M := 20598) (a := a₀) (b := t) ?_ (fun ht => ?_); rotate_left; clear_value t)
    | ((fail_if_no_progress extract_lets +onlyGivenNames u); have v : Nat := u; clear v; clear_value u)
    | ((fail_if_no_progress extract_lets +onlyGivenNames u); have v : List _ := u; clear v; clear_value u)
    | ((fail_if_no_progress extract_lets +onlyGivenNames u); have v : Option _ := u; clear v; fail_if_success (have v : Option State := u); clear_value u)
    | (fail_if_no_progress extract_lets +onlyGivenNames u)
    | with_reducible refine State.failMatmul_ext (by decide) ?_
    | with_reducible refine State.setArr_ext (by decide) ?_
    | with_reducible refine State.countBytes_ext (by decide) ?_
    | with_reducible refine State.arrUpdate_ext (by decide) ?_
    | split
    | (clear_value *; split)
    | (unfold t)
    | (unfold u; try beta_reduce)
    | (refine Ext.upd ?_ ?_ ?_ ?_ ?_ ?_ ?_ ?_ ?_ ?_ ?_ ?_ ?_ ?_ ?_ ?_ ?_ ?_ ?_ ?_ <;> first | rfl | exact fun _ => rfl | exact fun h => absurd h (by decide) | skip)

theorem tileLoadStart_ext {a cyc : Nat} {s : State} {M₀ : Nat} {a₀ : State} (hM : Within 20598 M₀) (h₀ : Ext M₀ a₀ s) :
    Ext M₀ a₀ (tileLoadStart a cyc s) := by
  refine Ext.via hM h₀ ?_
  clear hM h₀ M₀ a₀
  suffices H : ∀ a₀, Ext 20598 a₀ s → Ext 20598 a₀ (tileLoadStart a cyc s) from H s (Ext.refl _ _)
  intro a₀ h₀
  unfold tileLoadStart
  repeat' first
    | with_reducible assumption
    | (with_reducible intro _; intros; try beta_reduce)
    | ((fail_if_no_progress extract_lets +onlyGivenNames t); refine Ext.cut (M := 20598) (a := a₀) (b := t) ?_ (fun ht => ?_); rotate_left; clear_value t)
    | ((fail_if_no_progress extract_lets +onlyGivenNames u); have v : Nat := u; clear v; clear_value u)
    | ((fail_if_no_progress extract_lets +onlyGivenNames u); have v : List _ := u; clear v; clear_value u)
    | ((fail_if_no_progress extract_lets +onlyGivenNames u); have v : Option _ := u; clear v; fail_if_success (have v : Option State := u); clear_value u)
    | (fail_if_no_progress extract_lets +onlyGivenNames u)
    | with_reducible refine State.setArr_ext (by decide) ?_
    | with_reducible refine State.arrUpdate_ext (by decide) ?_
    | with_reducible refine State.failMatmul_ext (by decide) ?_
    | with_reducible refine State.countBytes_ext (by decide) ?_
    | split
    | (clear_value *; split)
    | (unfold t)
    | (unfold u; try beta_reduce)
    | (refine Ext.upd ?_ ?_ ?_ ?_ ?_ ?_ ?_ ?_ ?_ ?_ ?_ ?_ ?_ ?_ ?_ ?_ ?_ ?_ ?_ ?_ <;> first | rfl | exact fun _ => rfl | exact fun h => absurd h (by decide) | skip)

theorem passStart_ext {a cyc : Nat} {starved slices : Bool} {s : State} {M₀ : Nat} {a₀ : State} (hM : Within 16388 M₀) (h₀ : Ext M₀ a₀ s) :
    Ext M₀ a₀ (passStart a cyc starved slices s) := by
  refine Ext.via hM h₀ ?_
  clear hM h₀ M₀ a₀
  suffices H : ∀ a₀, Ext 16388 a₀ s → Ext 16388 a₀ (passStart a cyc starved slices s) from H s (Ext.refl _ _)
  intro a₀ h₀
  unfold passStart
  repeat' first
    | with_reducible assumption
    | (with_reducible intro _; intros; try beta_reduce)
    | ((fail_if_no_progress extract_lets +onlyGivenNames t); refine Ext.cut (M := 16388) (a := a₀) (b := t) ?_ (fun ht => ?_); rotate_left; clear_value t)
    | ((fail_if_no_progress extract_lets +onlyGivenNames u); have v : Nat := u; clear v; clear_value u)
    | ((fail_if_no_progress extract_lets +onlyGivenNames u); have v : List _ := u; clear v; clear_value u)
    | ((fail_if_no_progress extract_lets +onlyGivenNames u); have v : Option _ := u; clear v; fail_if_success (have v : Option State := u); clear_value u)
    | (fail_if_no_progress extract_lets +onlyGivenNames u)
    | with_reducible refine State.setArr_ext (by decide) ?_
    | with_reducible refine State.bump_ext (by decide) ?_
    | with_reducible refine State.arrUpdate_ext (by decide) ?_
    | (with_reducible refine Ext.foldl _ ?_ ?_)
    | (with_reducible refine Ext.foldl_fst _ ?_ ?_)
    | split
    | (clear_value *; split)
    | (unfold t)
    | (unfold u; try beta_reduce)

theorem State.awlTasks_ext {s : State} {a : Nat} {i : PassId} {m : MmRun} {cap : List (Nat × Word32)} {M₀ : Nat} {a₀ : State} (hM : Within 16388 M₀) (h₀ : Ext M₀ a₀ s) :
    Ext M₀ a₀ (State.awlTasks s a i m cap) := by
  refine Ext.via hM h₀ ?_
  clear hM h₀ M₀ a₀
  suffices H : ∀ a₀, Ext 16388 a₀ s → Ext 16388 a₀ (State.awlTasks s a i m cap) from H s (Ext.refl _ _)
  intro a₀ h₀
  unfold State.awlTasks
  repeat' first
    | with_reducible assumption
    | (with_reducible intro _; intros; try beta_reduce)
    | ((fail_if_no_progress extract_lets +onlyGivenNames t); refine Ext.cut (M := 16388) (a := a₀) (b := t) ?_ (fun ht => ?_); rotate_left; clear_value t)
    | ((fail_if_no_progress extract_lets +onlyGivenNames u); have v : Nat := u; clear v; clear_value u)
    | ((fail_if_no_progress extract_lets +onlyGivenNames u); have v : List _ := u; clear v; clear_value u)
    | ((fail_if_no_progress extract_lets +onlyGivenNames u); have v : Option _ := u; clear v; fail_if_success (have v : Option State := u); clear_value u)
    | (fail_if_no_progress extract_lets +onlyGivenNames u)
    | with_reducible refine State.addTask_ext (by decide) ?_
    | (with_reducible refine Ext.foldl _ ?_ ?_)
    | (with_reducible refine Ext.foldl_fst _ ?_ ?_)
    | split
    | (clear_value *; split)
    | (unfold t)
    | (unfold u; try beta_reduce)

theorem State.unitFinal_ext {s : State} {a : Nat} {i : PassId} {m : MmRun} {M₀ : Nat} {a₀ : State} (hM : Within 16388 M₀) (h₀ : Ext M₀ a₀ s) :
    Ext M₀ a₀ (State.unitFinal s a i m) := by
  refine Ext.via hM h₀ ?_
  clear hM h₀ M₀ a₀
  suffices H : ∀ a₀, Ext 16388 a₀ s → Ext 16388 a₀ (State.unitFinal s a i m) from H s (Ext.refl _ _)
  intro a₀ h₀
  unfold State.unitFinal
  repeat' first
    | with_reducible assumption
    | (with_reducible intro _; intros; try beta_reduce)
    | ((fail_if_no_progress extract_lets +onlyGivenNames t); refine Ext.cut (M := 16388) (a := a₀) (b := t) ?_ (fun ht => ?_); rotate_left; clear_value t)
    | ((fail_if_no_progress extract_lets +onlyGivenNames u); have v : Nat := u; clear v; clear_value u)
    | ((fail_if_no_progress extract_lets +onlyGivenNames u); have v : List _ := u; clear v; clear_value u)
    | ((fail_if_no_progress extract_lets +onlyGivenNames u); have v : Option _ := u; clear v; fail_if_success (have v : Option State := u); clear_value u)
    | (fail_if_no_progress extract_lets +onlyGivenNames u)
    | with_reducible refine State.setArr_ext (by decide) ?_
    | with_reducible refine State.addTask_ext (by decide) ?_
    | (with_reducible refine Ext.foldl _ ?_ ?_)
    | (with_reducible refine Ext.foldl_fst _ ?_ ?_)
    | split
    | (clear_value *; split)
    | (unfold t)
    | (unfold u; try beta_reduce)
    | (refine Ext.upd ?_ ?_ ?_ ?_ ?_ ?_ ?_ ?_ ?_ ?_ ?_ ?_ ?_ ?_ ?_ ?_ ?_ ?_ ?_ ?_ <;> first | rfl | exact fun _ => rfl | exact fun h => absurd h (by decide) | skip)

theorem State.passEffects_ext {t : State} {a : Nat} {x : ArrState} {m : MmRun} {i : PassId} {res : List (Nat × Nat × (Val × Bool))} {vals : List (Nat × Nat × Word32)} {M₀ : Nat} {a₀ : State} (hM : Within 49348 M₀) (h₀ : Ext M₀ a₀ t) :
    Ext M₀ a₀ (State.passEffects t a x m i res vals) := by
  refine Ext.via hM h₀ ?_
  clear hM h₀ M₀ a₀
  suffices H : ∀ a₀, Ext 49348 a₀ t → Ext 49348 a₀ (State.passEffects t a x m i res vals) from H t (Ext.refl _ _)
  intro a₀ h₀
  unfold State.passEffects
  repeat' first
    | with_reducible assumption
    | (with_reducible intro _; intros; try beta_reduce)
    | ((fail_if_no_progress extract_lets +onlyGivenNames t); refine Ext.cut (M := 49348) (a := a₀) (b := t) ?_ (fun ht => ?_); rotate_left; clear_value t)
    | ((fail_if_no_progress extract_lets +onlyGivenNames u); have v : Nat := u; clear v; clear_value u)
    | ((fail_if_no_progress extract_lets +onlyGivenNames u); have v : List _ := u; clear v; clear_value u)
    | ((fail_if_no_progress extract_lets +onlyGivenNames u); have v : Option _ := u; clear v; fail_if_success (have v : Option State := u); clear_value u)
    | (fail_if_no_progress extract_lets +onlyGivenNames u)
    | with_reducible refine State.put_ext (by decide) ?_
    | with_reducible refine State.trigger_ext (by decide) ?_
    | with_reducible refine State.setMm_ext (by decide) ?_
    | with_reducible refine State.awlTasks_ext (by decide) ?_
    | with_reducible refine State.unitFinal_ext (by decide) ?_
    | split
    | (clear_value *; split)
    | (unfold t)
    | (unfold u; try beta_reduce)

theorem passRetire_ext {a : Nat} {s : State} {M₀ : Nat} {a₀ : State} (hM : Within 49348 M₀) (h₀ : Ext M₀ a₀ s) :
    Ext M₀ a₀ (passRetire a s) := by
  refine Ext.via hM h₀ ?_
  clear hM h₀ M₀ a₀
  suffices H : ∀ a₀, Ext 49348 a₀ s → Ext 49348 a₀ (passRetire a s) from H s (Ext.refl _ _)
  intro a₀ h₀
  unfold passRetire
  repeat' first
    | with_reducible assumption
    | (with_reducible intro _; intros; try beta_reduce)
    | ((fail_if_no_progress extract_lets +onlyGivenNames t); refine Ext.cut (M := 49348) (a := a₀) (b := t) ?_ (fun ht => ?_); rotate_left; clear_value t)
    | ((fail_if_no_progress extract_lets +onlyGivenNames u); have v : Nat := u; clear v; clear_value u)
    | ((fail_if_no_progress extract_lets +onlyGivenNames u); have v : List _ := u; clear v; clear_value u)
    | ((fail_if_no_progress extract_lets +onlyGivenNames u); have v : Option _ := u; clear v; fail_if_success (have v : Option State := u); clear_value u)
    | (fail_if_no_progress extract_lets +onlyGivenNames u)
    | with_reducible refine State.setArr_ext (by decide) ?_
    | with_reducible refine State.arrUpdate_ext (by decide) ?_
    | with_reducible refine State.bump_ext (by decide) ?_
    | with_reducible refine State.addDetail_ext (by decide) ?_
    | with_reducible refine State.passEffects_ext (by decide) ?_
    | split
    | (clear_value *; split)
    | (unfold t)
    | (unfold u; try beta_reduce)
    | (refine Ext.upd ?_ ?_ ?_ ?_ ?_ ?_ ?_ ?_ ?_ ?_ ?_ ?_ ?_ ?_ ?_ ?_ ?_ ?_ ?_ ?_ <;> first | rfl | exact fun _ => rfl | exact fun h => absurd h (by decide) | skip)

theorem State.vecFlags_ext {s : State} {e slot : Nat} {vec : Vec} {M₀ : Nat} {a₀ : State} (hM : Within 32964 M₀) (h₀ : Ext M₀ a₀ s) :
    Ext M₀ a₀ (State.vecFlags s e slot vec) := by
  refine Ext.via hM h₀ ?_
  clear hM h₀ M₀ a₀
  suffices H : ∀ a₀, Ext 32964 a₀ s → Ext 32964 a₀ (State.vecFlags s e slot vec) from H s (Ext.refl _ _)
  intro a₀ h₀
  unfold State.vecFlags
  repeat' first
    | with_reducible assumption
    | (with_reducible intro _; intros; try beta_reduce)
    | ((fail_if_no_progress extract_lets +onlyGivenNames t); refine Ext.cut (M := 32964) (a := a₀) (b := t) ?_ (fun ht => ?_); rotate_left; clear_value t)
    | ((fail_if_no_progress extract_lets +onlyGivenNames u); have v : Nat := u; clear v; clear_value u)
    | ((fail_if_no_progress extract_lets +onlyGivenNames u); have v : List _ := u; clear v; clear_value u)
    | ((fail_if_no_progress extract_lets +onlyGivenNames u); have v : Option _ := u; clear v; fail_if_success (have v : Option State := u); clear_value u)
    | (fail_if_no_progress extract_lets +onlyGivenNames u)
    | with_reducible refine State.bumpSat_ext (by decide) ?_
    | with_reducible refine State.put_ext (by decide) ?_
    | with_reducible refine State.trigger_ext (by decide) ?_
    | split
    | (clear_value *; split)
    | (unfold t)
    | (unfold u; try beta_reduce)

theorem State.taskDone_ext {s : State} {e : Nat} {k : Task} {v : Nat} {M₀ : Nat} {a₀ : State} (hM : Within 16388 M₀) (h₀ : Ext M₀ a₀ s) :
    Ext M₀ a₀ (State.taskDone s e k v) := by
  refine Ext.via hM h₀ ?_
  clear hM h₀ M₀ a₀
  suffices H : ∀ a₀, Ext 16388 a₀ s → Ext 16388 a₀ (State.taskDone s e k v) from H s (Ext.refl _ _)
  intro a₀ h₀
  unfold State.taskDone
  repeat' first
    | with_reducible assumption
    | (with_reducible intro _; intros; try beta_reduce)
    | ((fail_if_no_progress extract_lets +onlyGivenNames t); refine Ext.cut (M := 16388) (a := a₀) (b := t) ?_ (fun ht => ?_); rotate_left; clear_value t)
    | ((fail_if_no_progress extract_lets +onlyGivenNames u); have v : Nat := u; clear v; clear_value u)
    | ((fail_if_no_progress extract_lets +onlyGivenNames u); have v : List _ := u; clear v; clear_value u)
    | ((fail_if_no_progress extract_lets +onlyGivenNames u); have v : Option _ := u; clear v; fail_if_success (have v : Option State := u); clear_value u)
    | (fail_if_no_progress extract_lets +onlyGivenNames u)
    | with_reducible refine State.endTask_ext (by decide) ?_
    | with_reducible refine State.putTask_ext (by decide) ?_
    | split
    | (clear_value *; split)
    | (unfold t)
    | (unfold u; try beta_reduce)
    | (refine Ext.upd ?_ ?_ ?_ ?_ ?_ ?_ ?_ ?_ ?_ ?_ ?_ ?_ ?_ ?_ ?_ ?_ ?_ ?_ ?_ ?_ <;> first | rfl | exact fun _ => rfl | exact fun h => absurd h (by decide) | skip)

theorem epilogueRun_ext {e v : Nat} {s : State} {M₀ : Nat} {a₀ : State} (hM : Within 49348 M₀) (h₀ : Ext M₀ a₀ s) :
    Ext M₀ a₀ (epilogueRun e v s) := by
  refine Ext.via hM h₀ ?_
  clear hM h₀ M₀ a₀
  suffices H : ∀ a₀, Ext 49348 a₀ s → Ext 49348 a₀ (epilogueRun e v s) from H s (Ext.refl _ _)
  intro a₀ h₀
  unfold epilogueRun
  repeat' first
    | with_reducible assumption
    | (with_reducible intro _; intros; try beta_reduce)
    | ((fail_if_no_progress extract_lets +onlyGivenNames t); refine Ext.cut (M := 49348) (a := a₀) (b := t) ?_ (fun ht => ?_); rotate_left; clear_value t)
    | ((fail_if_no_progress extract_lets +onlyGivenNames u); have v : Nat := u; clear v; clear_value u)
    | ((fail_if_no_progress extract_lets +onlyGivenNames u); have v : List _ := u; clear v; clear_value u)
    | ((fail_if_no_progress extract_lets +onlyGivenNames u); have v : Option _ := u; clear v; fail_if_success (have v : Option State := u); clear_value u)
    | (fail_if_no_progress extract_lets +onlyGivenNames u)
    | with_reducible refine State.tookTurn_ext (by decide) ?_
    | with_reducible refine State.bump_ext (by decide) ?_
    | with_reducible refine State.setArr_ext (by decide) ?_
    | with_reducible refine State.taskDone_ext (by decide) ?_
    | with_reducible refine State.vecFlags_ext (by decide) ?_
    | (with_reducible refine Ext.foldl _ ?_ ?_)
    | (with_reducible refine Ext.foldl_fst _ ?_ ?_)
    | split
    | (clear_value *; split)
    | (unfold t)
    | (unfold u; try beta_reduce)

end Sys2Proof.Machine
end

