-- ==== Sys2Proof/Laws/ExtSkiver.lean ====
section
/-!
SUPPORT. What each operation of Machine/Skiver.lean can change: one lemma each.
-/
namespace Sys2Proof.Machine

theorem State.matmulDone_ext {s : State} {slot : Nat} {M₀ : Nat} {a₀ : State} (hM : Within 64 M₀) (h₀ : Ext M₀ a₀ s) :
    Ext M₀ a₀ (State.matmulDone s slot) := by
  refine Ext.via hM h₀ ?_
  clear hM h₀ M₀ a₀
  suffices H : ∀ a₀, Ext 64 a₀ s → Ext 64 a₀ (State.matmulDone s slot) from H s (Ext.refl _ _)
  intro a₀ h₀
  unfold State.matmulDone
  repeat' first
    | with_reducible assumption
    | (with_reducible intro _; intros; try beta_reduce)
    | with_reducible refine State.finish_ext (by decide) ?_
    | split

theorem State.tileWritten_ext {s : State} {a : Nat} {i : PassId} {m : MmRun} {t : Nat} {M₀ : Nat} {a₀ : State} (hM : Within 16452 M₀) (h₀ : Ext M₀ a₀ s) :
    Ext M₀ a₀ (State.tileWritten s a i m t) := by
  refine Ext.via hM h₀ ?_
  clear hM h₀ M₀ a₀
  suffices H : ∀ a₀, Ext 16452 a₀ s → Ext 16452 a₀ (State.tileWritten s a i m t) from H s (Ext.refl _ _)
  intro a₀ h₀
  unfold State.tileWritten
  repeat' first
    | with_reducible assumption
    | (with_reducible intro _; intros; try beta_reduce)
    | ((fail_if_no_progress extract_lets +onlyGivenNames t); refine Ext.cut (M := 16452) (a := a₀) (b := t) ?_ (fun ht => ?_); rotate_left; clear_value t)
    | ((fail_if_no_progress extract_lets +onlyGivenNames u); have v : Nat := u; clear v; clear_value u)
    | ((fail_if_no_progress extract_lets +onlyGivenNames u); have v : List _ := u; clear v; clear_value u)
    | ((fail_if_no_progress extract_lets +onlyGivenNames u); have v : Option _ := u; clear v; fail_if_success (have v : Option State := u); clear_value u)
    | (fail_if_no_progress extract_lets +onlyGivenNames u)
    | with_reducible refine State.setArr_ext (by decide) ?_
    | with_reducible refine State.setMm_ext (by decide) ?_
    | with_reducible refine State.arrUpdate_ext (by decide) ?_
    | with_reducible refine State.matmulDone_ext (by decide) ?_
    | split
    | (clear_value *; split)
    | (unfold t)
    | (unfold u; try beta_reduce)
    | (refine Ext.upd ?_ ?_ ?_ ?_ ?_ ?_ ?_ ?_ ?_ ?_ ?_ ?_ ?_ ?_ ?_ ?_ ?_ ?_ ?_ ?_ <;> first | rfl | exact fun _ => rfl | exact fun h => absurd h (by decide) | skip)

theorem State.skiveCount_ext {s : State} {els : List Skived} {M₀ : Nat} {a₀ : State} (hM : Within 4 M₀) (h₀ : Ext M₀ a₀ s) :
    Ext M₀ a₀ (State.skiveCount s els) := by
  refine Ext.via hM h₀ ?_
  clear hM h₀ M₀ a₀
  suffices H : ∀ a₀, Ext 4 a₀ s → Ext 4 a₀ (State.skiveCount s els) from H s (Ext.refl _ _)
  intro a₀ h₀
  unfold State.skiveCount
  repeat' first
    | with_reducible assumption
    | (with_reducible intro _; intros; try beta_reduce)
    | ((fail_if_no_progress extract_lets +onlyGivenNames t); refine Ext.cut (M := 4) (a := a₀) (b := t) ?_ (fun ht => ?_); rotate_left; clear_value t)
    | ((fail_if_no_progress extract_lets +onlyGivenNames u); have v : Nat := u; clear v; clear_value u)
    | ((fail_if_no_progress extract_lets +onlyGivenNames u); have v : List _ := u; clear v; clear_value u)
    | ((fail_if_no_progress extract_lets +onlyGivenNames u); have v : Option _ := u; clear v; fail_if_success (have v : Option State := u); clear_value u)
    | (fail_if_no_progress extract_lets +onlyGivenNames u)
    | with_reducible refine State.bump_ext (by decide) ?_
    | with_reducible refine State.bumpSat_ext (by decide) ?_
    | with_reducible refine State.put_ext (by decide) ?_
    | (with_reducible refine Ext.foldl _ ?_ ?_)
    | (with_reducible refine Ext.foldl_fst _ ?_ ?_)
    | split
    | (clear_value *; split)
    | (unfold t)
    | (unfold u; try beta_reduce)

theorem State.tileConverted_ext {s : State} {a : Nat} {i : PassId} {m : MmRun} {t : Nat} {els : List Skived} {planes : List (Nat × List Byte)} {M₀ : Nat} {a₀ : State} (hM : Within 180420 M₀) (h₀ : Ext M₀ a₀ s) :
    Ext M₀ a₀ (State.tileConverted s a i m t els planes) := by
  refine Ext.via hM h₀ ?_
  clear hM h₀ M₀ a₀
  suffices H : ∀ a₀, Ext 180420 a₀ s → Ext 180420 a₀ (State.tileConverted s a i m t els planes) from H s (Ext.refl _ _)
  intro a₀ h₀
  unfold State.tileConverted
  repeat' first
    | with_reducible assumption
    | (with_reducible intro _; intros; try beta_reduce)
    | ((fail_if_no_progress extract_lets +onlyGivenNames t); refine Ext.cut (M := 180420) (a := a₀) (b := t) ?_ (fun ht => ?_); rotate_left; clear_value t)
    | ((fail_if_no_progress extract_lets +onlyGivenNames u); have v : Nat := u; clear v; clear_value u)
    | ((fail_if_no_progress extract_lets +onlyGivenNames u); have v : List _ := u; clear v; clear_value u)
    | ((fail_if_no_progress extract_lets +onlyGivenNames u); have v : Option _ := u; clear v; fail_if_success (have v : Option State := u); clear_value u)
    | (fail_if_no_progress extract_lets +onlyGivenNames u)
    | with_reducible refine State.setArr_ext (by decide) ?_
    | with_reducible refine State.arrUpdate_ext (by decide) ?_
    | with_reducible refine State.skiveCount_ext (by decide) ?_
    | with_reducible refine State.trigger_ext (by decide) ?_
    | with_reducible refine State.taintWrites_ext (by decide) ?_
    | (with_reducible refine Ext.foldl _ ?_ ?_)
    | (with_reducible refine Ext.foldl_fst _ ?_ ?_)
    | split
    | (clear_value *; split)
    | (unfold t)
    | (unfold u; try beta_reduce)
    | (refine Ext.upd ?_ ?_ ?_ ?_ ?_ ?_ ?_ ?_ ?_ ?_ ?_ ?_ ?_ ?_ ?_ ?_ ?_ ?_ ?_ ?_ <;> first | rfl | exact fun _ => rfl | exact fun h => absurd h (by decide) | skip)

theorem skiverTileConvert_ext {a : Nat} {s : State} {M₀ : Nat} {a₀ : State} (hM : Within 184566 M₀) (h₀ : Ext M₀ a₀ s) :
    Ext M₀ a₀ (skiverTileConvert a s) := by
  refine Ext.via hM h₀ ?_
  clear hM h₀ M₀ a₀
  suffices H : ∀ a₀, Ext 184566 a₀ s → Ext 184566 a₀ (skiverTileConvert a s) from H s (Ext.refl _ _)
  intro a₀ h₀
  unfold skiverTileConvert
  repeat' first
    | with_reducible assumption
    | (with_reducible intro _; intros; try beta_reduce)
    | ((fail_if_no_progress extract_lets +onlyGivenNames t); refine Ext.cut (M := 184566) (a := a₀) (b := t) ?_ (fun ht => ?_); rotate_left; clear_value t)
    | ((fail_if_no_progress extract_lets +onlyGivenNames u); have v : Nat := u; clear v; clear_value u)
    | ((fail_if_no_progress extract_lets +onlyGivenNames u); have v : List _ := u; clear v; clear_value u)
    | ((fail_if_no_progress extract_lets +onlyGivenNames u); have v : Option _ := u; clear v; fail_if_success (have v : Option State := u); clear_value u)
    | (fail_if_no_progress extract_lets +onlyGivenNames u)
    | with_reducible refine State.failMatmul_ext (by decide) ?_
    | with_reducible refine State.countBytes_ext (by decide) ?_
    | with_reducible refine State.tileConverted_ext (by decide) ?_
    | (with_reducible refine Ext.foldl _ ?_ ?_)
    | (with_reducible refine Ext.foldl_fst _ ?_ ?_)
    | split
    | (clear_value *; split)
    | (unfold t)
    | (unfold u; try beta_reduce)

theorem State.drainTile_ext {s : State} {a : Nat} {o : OutTile} {M₀ : Nat} {a₀ : State} (hM : Within 20596 M₀) (h₀ : Ext M₀ a₀ s) :
    Ext M₀ a₀ (State.drainTile s a o) := by
  refine Ext.via hM h₀ ?_
  clear hM h₀ M₀ a₀
  suffices H : ∀ a₀, Ext 20596 a₀ s → Ext 20596 a₀ (State.drainTile s a o) from H s (Ext.refl _ _)
  intro a₀ h₀
  unfold State.drainTile
  repeat' first
    | with_reducible assumption
    | (with_reducible intro _; intros; try beta_reduce)
    | ((fail_if_no_progress extract_lets +onlyGivenNames t); refine Ext.cut (M := 20596) (a := a₀) (b := t) ?_ (fun ht => ?_); rotate_left; clear_value t)
    | ((fail_if_no_progress extract_lets +onlyGivenNames u); have v : Nat := u; clear v; clear_value u)
    | ((fail_if_no_progress extract_lets +onlyGivenNames u); have v : List _ := u; clear v; clear_value u)
    | ((fail_if_no_progress extract_lets +onlyGivenNames u); have v : Option _ := u; clear v; fail_if_success (have v : Option State := u); clear_value u)
    | (fail_if_no_progress extract_lets +onlyGivenNames u)
    | with_reducible refine State.setArr_ext (by decide) ?_
    | with_reducible refine State.writeUnits_ext (by decide) ?_
    | with_reducible refine State.countBytes_ext (by decide) ?_
    | with_reducible refine State.advancePos_ext (by decide) ?_
    | with_reducible refine State.tileWritten_ext (by decide) ?_
    | split
    | (clear_value *; split)
    | (unfold t)
    | (unfold u; try beta_reduce)
    | (refine Ext.upd ?_ ?_ ?_ ?_ ?_ ?_ ?_ ?_ ?_ ?_ ?_ ?_ ?_ ?_ ?_ ?_ ?_ ?_ ?_ ?_ <;> first | rfl | exact fun _ => rfl | exact fun h => absurd h (by decide) | skip)

theorem slotGrant_ext {i : Nat} {space : Bool} {kind : Nat} {s : State} {M₀ : Nat} {a₀ : State} (hM : Within 20596 M₀) (h₀ : Ext M₀ a₀ s) :
    Ext M₀ a₀ (slotGrant i space kind s) := by
  refine Ext.via hM h₀ ?_
  clear hM h₀ M₀ a₀
  suffices H : ∀ a₀, Ext 20596 a₀ s → Ext 20596 a₀ (slotGrant i space kind s) from H s (Ext.refl _ _)
  intro a₀ h₀
  unfold slotGrant
  repeat' first
    | with_reducible assumption
    | (with_reducible intro _; intros; try beta_reduce)
    | ((fail_if_no_progress extract_lets +onlyGivenNames t); refine Ext.cut (M := 20596) (a := a₀) (b := t) ?_ (fun ht => ?_); rotate_left; clear_value t)
    | ((fail_if_no_progress extract_lets +onlyGivenNames u); have v : Nat := u; clear v; clear_value u)
    | ((fail_if_no_progress extract_lets +onlyGivenNames u); have v : List _ := u; clear v; clear_value u)
    | ((fail_if_no_progress extract_lets +onlyGivenNames u); have v : Option _ := u; clear v; fail_if_success (have v : Option State := u); clear_value u)
    | (fail_if_no_progress extract_lets +onlyGivenNames u)
    | with_reducible refine State.waitFor_ext (by decide) ?_
    | with_reducible refine State.poolTurn_ext (by decide) ?_
    | with_reducible refine State.setCtx_ext (by decide) ?_
    | with_reducible refine State.poolUpdate_ext (by decide) ?_
    | with_reducible refine State.drainTile_ext (by decide) ?_
    | split
    | (clear_value *; split)
    | (unfold t)
    | (unfold u; try beta_reduce)
    | (refine Ext.upd ?_ ?_ ?_ ?_ ?_ ?_ ?_ ?_ ?_ ?_ ?_ ?_ ?_ ?_ ?_ ?_ ?_ ?_ ?_ ?_ <;> first | rfl | exact fun _ => rfl | exact fun h => absurd h (by decide) | skip)

theorem State.accumulate_ext {s : State} {m : MmRun} {els : List (Nat × Word32)} {M₀ : Nat} {a₀ : State} (hM : Within 16 M₀) (h₀ : Ext M₀ a₀ s) :
    Ext M₀ a₀ (State.accumulate s m els) := by
  refine Ext.via hM h₀ ?_
  clear hM h₀ M₀ a₀
  suffices H : ∀ a₀, Ext 16 a₀ s → Ext 16 a₀ (State.accumulate s m els) from H s (Ext.refl _ _)
  intro a₀ h₀
  unfold State.accumulate
  repeat' first
    | with_reducible assumption
    | (with_reducible intro _; intros; try beta_reduce)
    | with_reducible refine State.pokes_ext (by decide) ?_
    | (with_reducible refine Ext.foldl _ ?_ ?_)
    | (with_reducible refine Ext.foldl_fst _ ?_ ?_)
    | split

theorem State.accumulated_ext {s : State} {i : PassId} {m : MmRun} {els : List (Nat × Word32)} {M₀ : Nat} {a₀ : State} (hM : Within 135172 M₀) (h₀ : Ext M₀ a₀ s) :
    Ext M₀ a₀ (State.accumulated s i m els) := by
  refine Ext.via hM h₀ ?_
  clear hM h₀ M₀ a₀
  suffices H : ∀ a₀, Ext 135172 a₀ s → Ext 135172 a₀ (State.accumulated s i m els) from H s (Ext.refl _ _)
  intro a₀ h₀
  unfold State.accumulated
  repeat' first
    | with_reducible assumption
    | (with_reducible intro _; intros; try beta_reduce)
    | ((fail_if_no_progress extract_lets +onlyGivenNames t); refine Ext.cut (M := 135172) (a := a₀) (b := t) ?_ (fun ht => ?_); rotate_left; clear_value t)
    | ((fail_if_no_progress extract_lets +onlyGivenNames u); have v : Nat := u; clear v; clear_value u)
    | ((fail_if_no_progress extract_lets +onlyGivenNames u); have v : List _ := u; clear v; clear_value u)
    | ((fail_if_no_progress extract_lets +onlyGivenNames u); have v : Option _ := u; clear v; fail_if_success (have v : Option State := u); clear_value u)
    | (fail_if_no_progress extract_lets +onlyGivenNames u)
    | with_reducible refine State.bump_ext (by decide) ?_
    | with_reducible refine State.taintWrites_ext (by decide) ?_
    | with_reducible refine State.countBytes_ext (by decide) ?_
    | with_reducible refine State.advancePos_ext (by decide) ?_
    | (with_reducible refine Ext.foldl _ ?_ ?_)
    | (with_reducible refine Ext.foldl_fst _ ?_ ?_)
    | split
    | (clear_value *; split)
    | (unfold t)
    | (unfold u; try beta_reduce)

theorem accumulateAdd_ext {a : Nat} {s : State} {M₀ : Nat} {a₀ : State} (hM : Within 184566 M₀) (h₀ : Ext M₀ a₀ s) :
    Ext M₀ a₀ (accumulateAdd a s) := by
  refine Ext.via hM h₀ ?_
  clear hM h₀ M₀ a₀
  suffices H : ∀ a₀, Ext 184566 a₀ s → Ext 184566 a₀ (accumulateAdd a s) from H s (Ext.refl _ _)
  intro a₀ h₀
  unfold accumulateAdd
  repeat' first
    | with_reducible assumption
    | (with_reducible intro _; intros; try beta_reduce)
    | ((fail_if_no_progress extract_lets +onlyGivenNames t); refine Ext.cut (M := 184566) (a := a₀) (b := t) ?_ (fun ht => ?_); rotate_left; clear_value t)
    | ((fail_if_no_progress extract_lets +onlyGivenNames u); have v : Nat := u; clear v; clear_value u)
    | ((fail_if_no_progress extract_lets +onlyGivenNames u); have v : List _ := u; clear v; clear_value u)
    | ((fail_if_no_progress extract_lets +onlyGivenNames u); have v : Option _ := u; clear v; fail_if_success (have v : Option State := u); clear_value u)
    | (fail_if_no_progress extract_lets +onlyGivenNames u)
    | with_reducible refine State.failMatmul_ext (by decide) ?_
    | with_reducible refine State.accumulate_ext (by decide) ?_
    | with_reducible refine State.accumulated_ext (by decide) ?_
    | with_reducible refine State.setArr_ext (by decide) ?_
    | with_reducible refine State.trigger_ext (by decide) ?_
    | with_reducible refine State.tileWritten_ext (by decide) ?_
    | split
    | (clear_value *; split)
    | (unfold t)
    | (unfold u; try beta_reduce)

end Sys2Proof.Machine
end

