-- ==== Sys2Proof/Laws/ExtArrayFaults.lean ====
section
/-!
SUPPORT. What each operation of Machine/ArrayFaults.lean can change: one lemma each.
-/
namespace Sys2Proof.Machine

theorem preemption_ext {a : Nat} {s : State} {M₀ : Nat} {a₀ : State} (hM : Within 16388 M₀) (h₀ : Ext M₀ a₀ s) :
    Ext M₀ a₀ (preemption a s) := by
  refine Ext.via hM h₀ ?_
  clear hM h₀ M₀ a₀
  suffices H : ∀ a₀, Ext 16388 a₀ s → Ext 16388 a₀ (preemption a s) from H s (Ext.refl _ _)
  intro a₀ h₀
  unfold preemption
  repeat' first
    | with_reducible assumption
    | (with_reducible intro _; intros; try beta_reduce)
    | ((fail_if_no_progress extract_lets +onlyGivenNames t); refine Ext.cut (M := 16388) (a := a₀) (b := t) ?_ (fun ht => ?_); rotate_left; clear_value t)
    | ((fail_if_no_progress extract_lets +onlyGivenNames u); have v : Nat := u; clear v; clear_value u)
    | ((fail_if_no_progress extract_lets +onlyGivenNames u); have v : List _ := u; clear v; clear_value u)
    | ((fail_if_no_progress extract_lets +onlyGivenNames u); have v : Option _ := u; clear v; fail_if_success (have v : Option State := u); clear_value u)
    | (fail_if_no_progress extract_lets +onlyGivenNames u)
    | with_reducible refine State.setArr_ext (by decide) ?_
    | with_reducible refine State.bumpSat_ext (by decide) ?_
    | with_reducible refine State.arrUpdate_ext (by decide) ?_
    | split
    | (clear_value *; split)
    | (unfold t)
    | (unfold u; try beta_reduce)
    | (refine Ext.upd ?_ ?_ ?_ ?_ ?_ ?_ ?_ ?_ ?_ ?_ ?_ ?_ ?_ ?_ ?_ ?_ ?_ ?_ ?_ ?_ <;> first | rfl | exact fun _ => rfl | exact fun h => absurd h (by decide) | skip)

theorem State.rowFailed_ext {s : State} {a row : Nat} {M₀ : Nat} {a₀ : State} (hM : Within 20726 M₀) (h₀ : Ext M₀ a₀ s) :
    Ext M₀ a₀ (State.rowFailed s a row) := by
  refine Ext.via hM h₀ ?_
  clear hM h₀ M₀ a₀
  suffices H : ∀ a₀, Ext 20726 a₀ s → Ext 20726 a₀ (State.rowFailed s a row) from H s (Ext.refl _ _)
  intro a₀ h₀
  unfold State.rowFailed
  repeat' first
    | with_reducible assumption
    | (with_reducible intro _; intros; try beta_reduce)
    | ((fail_if_no_progress extract_lets +onlyGivenNames t); refine Ext.cut (M := 20726) (a := a₀) (b := t) ?_ (fun ht => ?_); rotate_left; clear_value t)
    | ((fail_if_no_progress extract_lets +onlyGivenNames u); have v : Nat := u; clear v; clear_value u)
    | ((fail_if_no_progress extract_lets +onlyGivenNames u); have v : List _ := u; clear v; clear_value u)
    | ((fail_if_no_progress extract_lets +onlyGivenNames u); have v : Option _ := u; clear v; fail_if_success (have v : Option State := u); clear_value u)
    | (fail_if_no_progress extract_lets +onlyGivenNames u)
    | with_reducible refine State.put_ext (by decide) ?_
    | with_reducible refine State.arrayFail_ext (by decide) ?_
    | with_reducible refine State.setArr_ext (by decide) ?_
    | split
    | (clear_value *; split)
    | (unfold t)
    | (unfold u; try beta_reduce)
    | (refine Ext.upd ?_ ?_ ?_ ?_ ?_ ?_ ?_ ?_ ?_ ?_ ?_ ?_ ?_ ?_ ?_ ?_ ?_ ?_ ?_ ?_ <;> first | rfl | exact fun _ => rfl | exact fun h => absurd h (by decide) | skip)

theorem aryRepairReq_ext {a v : Nat} {s : State} {M₀ : Nat} {a₀ : State} (hM : Within 16516 M₀) (h₀ : Ext M₀ a₀ s) :
    Ext M₀ a₀ (aryRepairReq a v s) := by
  refine Ext.via hM h₀ ?_
  clear hM h₀ M₀ a₀
  suffices H : ∀ a₀, Ext 16516 a₀ s → Ext 16516 a₀ (aryRepairReq a v s) from H s (Ext.refl _ _)
  intro a₀ h₀
  unfold aryRepairReq
  repeat' first
    | with_reducible assumption
    | (with_reducible intro _; intros; try beta_reduce)
    | ((fail_if_no_progress extract_lets +onlyGivenNames t); refine Ext.cut (M := 16516) (a := a₀) (b := t) ?_ (fun ht => ?_); rotate_left; clear_value t)
    | ((fail_if_no_progress extract_lets +onlyGivenNames u); have v : Nat := u; clear v; clear_value u)
    | ((fail_if_no_progress extract_lets +onlyGivenNames u); have v : List _ := u; clear v; clear_value u)
    | ((fail_if_no_progress extract_lets +onlyGivenNames u); have v : Option _ := u; clear v; fail_if_success (have v : Option State := u); clear_value u)
    | (fail_if_no_progress extract_lets +onlyGivenNames u)
    | with_reducible refine State.event_ext (by decide) ?_
    | with_reducible refine State.setArr_ext (by decide) ?_
    | split
    | (clear_value *; split)
    | (unfold t)
    | (unfold u; try beta_reduce)
    | (refine Ext.upd ?_ ?_ ?_ ?_ ?_ ?_ ?_ ?_ ?_ ?_ ?_ ?_ ?_ ?_ ?_ ?_ ?_ ?_ ?_ ?_ <;> first | rfl | exact fun _ => rfl | exact fun h => absurd h (by decide) | skip)

theorem State.mapEntry_ext {s : State} {a : Nat} {e : Nat × Nat × Nat} {M₀ : Nat} {a₀ : State} (hM : Within 16516 M₀) (h₀ : Ext M₀ a₀ s) :
    Ext M₀ a₀ (State.mapEntry s a e) := by
  refine Ext.via hM h₀ ?_
  clear hM h₀ M₀ a₀
  suffices H : ∀ a₀, Ext 16516 a₀ s → Ext 16516 a₀ (State.mapEntry s a e) from H s (Ext.refl _ _)
  intro a₀ h₀
  unfold State.mapEntry
  repeat' first
    | with_reducible assumption
    | (with_reducible intro _; intros; try beta_reduce)
    | ((fail_if_no_progress extract_lets +onlyGivenNames t); refine Ext.cut (M := 16516) (a := a₀) (b := t) ?_ (fun ht => ?_); rotate_left; clear_value t)
    | ((fail_if_no_progress extract_lets +onlyGivenNames u); have v : Nat := u; clear v; clear_value u)
    | ((fail_if_no_progress extract_lets +onlyGivenNames u); have v : List _ := u; clear v; clear_value u)
    | ((fail_if_no_progress extract_lets +onlyGivenNames u); have v : Option _ := u; clear v; fail_if_success (have v : Option State := u); clear_value u)
    | (fail_if_no_progress extract_lets +onlyGivenNames u)
    | with_reducible refine State.put_ext (by decide) ?_
    | with_reducible refine State.setComp_ext (by decide) ?_
    | with_reducible refine State.event_ext (by decide) ?_
    | split
    | (clear_value *; split)
    | (unfold t)
    | (unfold u; try beta_reduce)
    | (refine Ext.upd ?_ ?_ ?_ ?_ ?_ ?_ ?_ ?_ ?_ ?_ ?_ ?_ ?_ ?_ ?_ ?_ ?_ ?_ ?_ ?_ <;> first | rfl | exact fun _ => rfl | exact fun h => absurd h (by decide) | skip)

theorem fieldRepair_ext {a : Nat} {s : State} {M₀ : Nat} {a₀ : State} (hM : Within 16516 M₀) (h₀ : Ext M₀ a₀ s) :
    Ext M₀ a₀ (fieldRepair a s) := by
  refine Ext.via hM h₀ ?_
  clear hM h₀ M₀ a₀
  suffices H : ∀ a₀, Ext 16516 a₀ s → Ext 16516 a₀ (fieldRepair a s) from H s (Ext.refl _ _)
  intro a₀ h₀
  unfold fieldRepair
  repeat' first
    | with_reducible assumption
    | (with_reducible intro _; intros; try beta_reduce)
    | ((fail_if_no_progress extract_lets +onlyGivenNames t); refine Ext.cut (M := 16516) (a := a₀) (b := t) ?_ (fun ht => ?_); rotate_left; clear_value t)
    | ((fail_if_no_progress extract_lets +onlyGivenNames u); have v : Nat := u; clear v; clear_value u)
    | ((fail_if_no_progress extract_lets +onlyGivenNames u); have v : List _ := u; clear v; clear_value u)
    | ((fail_if_no_progress extract_lets +onlyGivenNames u); have v : Option _ := u; clear v; fail_if_success (have v : Option State := u); clear_value u)
    | (fail_if_no_progress extract_lets +onlyGivenNames u)
    | with_reducible refine State.mapEntry_ext (by decide) ?_
    | with_reducible refine State.setArr_ext (by decide) ?_
    | with_reducible refine State.arrUpdate_ext (by decide) ?_
    | (with_reducible refine Ext.foldl _ ?_ ?_)
    | (with_reducible refine Ext.foldl_fst _ ?_ ?_)
    | split
    | (clear_value *; split)
    | (unfold t)
    | (unfold u; try beta_reduce)
    | (refine Ext.upd ?_ ?_ ?_ ?_ ?_ ?_ ?_ ?_ ?_ ?_ ?_ ?_ ?_ ?_ ?_ ?_ ?_ ?_ ?_ ?_ <;> first | rfl | exact fun _ => rfl | exact fun h => absurd h (by decide) | skip)

theorem State.passMark_ext {s : State} {a : Nat} {e : PassError} {M₀ : Nat} {a₀ : State} (hM : Within 4 M₀) (h₀ : Ext M₀ a₀ s) :
    Ext M₀ a₀ (State.passMark s a e) := by
  refine Ext.via hM h₀ ?_
  clear hM h₀ M₀ a₀
  suffices H : ∀ a₀, Ext 4 a₀ s → Ext 4 a₀ (State.passMark s a e) from H s (Ext.refl _ _)
  intro a₀ h₀
  unfold State.passMark
  repeat' first
    | with_reducible assumption
    | (with_reducible intro _; intros; try beta_reduce)
    | ((fail_if_no_progress extract_lets +onlyGivenNames t); refine Ext.cut (M := 4) (a := a₀) (b := t) ?_ (fun ht => ?_); rotate_left; clear_value t)
    | ((fail_if_no_progress extract_lets +onlyGivenNames u); have v : Nat := u; clear v; clear_value u)
    | ((fail_if_no_progress extract_lets +onlyGivenNames u); have v : List _ := u; clear v; clear_value u)
    | ((fail_if_no_progress extract_lets +onlyGivenNames u); have v : Option _ := u; clear v; fail_if_success (have v : Option State := u); clear_value u)
    | (fail_if_no_progress extract_lets +onlyGivenNames u)
    | with_reducible refine State.put_ext (by decide) ?_
    | split
    | (clear_value *; split)
    | (unfold t)
    | (unfold u; try beta_reduce)

theorem State.passEvent_ext {s : State} {a n : Nat} {e : PassError} {f : Flight} {M₀ : Nat} {a₀ : State} (hM : Within 134 M₀) (h₀ : Ext M₀ a₀ s) :
    Ext M₀ a₀ (State.passEvent s a n e f) := by
  refine Ext.via hM h₀ ?_
  clear hM h₀ M₀ a₀
  suffices H : ∀ a₀, Ext 134 a₀ s → Ext 134 a₀ (State.passEvent s a n e f) from H s (Ext.refl _ _)
  intro a₀ h₀
  unfold State.passEvent
  repeat' first
    | with_reducible assumption
    | (with_reducible intro _; intros; try beta_reduce)
    | ((fail_if_no_progress extract_lets +onlyGivenNames t); refine Ext.cut (M := 134) (a := a₀) (b := t) ?_ (fun ht => ?_); rotate_left; clear_value t)
    | ((fail_if_no_progress extract_lets +onlyGivenNames u); have v : Nat := u; clear v; clear_value u)
    | ((fail_if_no_progress extract_lets +onlyGivenNames u); have v : List _ := u; clear v; clear_value u)
    | ((fail_if_no_progress extract_lets +onlyGivenNames u); have v : Option _ := u; clear v; fail_if_success (have v : Option State := u); clear_value u)
    | (fail_if_no_progress extract_lets +onlyGivenNames u)
    | with_reducible refine State.event_ext (by decide) ?_
    | with_reducible refine State.useFresh_ext (by decide) ?_
    | split
    | (clear_value *; split)
    | (unfold t)
    | (unfold u; try beta_reduce)

theorem State.passRepeat_ext {s : State} {a : Nat} {e : PassError} {f : Flight} {old : Attempt} {M₀ : Nat} {a₀ : State} (hM : Within 20726 M₀) (h₀ : Ext M₀ a₀ s) :
    Ext M₀ a₀ (State.passRepeat s a e f old) := by
  refine Ext.via hM h₀ ?_
  clear hM h₀ M₀ a₀
  suffices H : ∀ a₀, Ext 20726 a₀ s → Ext 20726 a₀ (State.passRepeat s a e f old) from H s (Ext.refl _ _)
  intro a₀ h₀
  unfold State.passRepeat
  repeat' first
    | with_reducible assumption
    | (with_reducible intro _; intros; try beta_reduce)
    | with_reducible refine State.arrayFail_ext (by decide) ?_
    | with_reducible refine State.setArr_ext (by decide) ?_
    | with_reducible refine State.rowFailed_ext (by decide) ?_
    | with_reducible refine State.put_ext (by decide) ?_
    | with_reducible refine State.failMatmul_ext (by decide) ?_
    | split
    | (refine Ext.upd ?_ ?_ ?_ ?_ ?_ ?_ ?_ ?_ ?_ ?_ ?_ ?_ ?_ ?_ ?_ ?_ ?_ ?_ ?_ ?_ <;> first | rfl | exact fun _ => rfl | exact fun h => absurd h (by decide) | skip)

theorem State.reissued_ext {s : State} {a : Nat} {back : List PassId} {M₀ : Nat} {a₀ : State} (hM : Within 68 M₀) (h₀ : Ext M₀ a₀ s) :
    Ext M₀ a₀ (State.reissued s a back) := by
  refine Ext.via hM h₀ ?_
  clear hM h₀ M₀ a₀
  suffices H : ∀ a₀, Ext 68 a₀ s → Ext 68 a₀ (State.reissued s a back) from H s (Ext.refl _ _)
  intro a₀ h₀
  unfold State.reissued
  repeat' first
    | with_reducible assumption
    | (with_reducible intro _; intros; try beta_reduce)
    | ((fail_if_no_progress extract_lets +onlyGivenNames t); refine Ext.cut (M := 68) (a := a₀) (b := t) ?_ (fun ht => ?_); rotate_left; clear_value t)
    | ((fail_if_no_progress extract_lets +onlyGivenNames u); have v : Nat := u; clear v; clear_value u)
    | ((fail_if_no_progress extract_lets +onlyGivenNames u); have v : List _ := u; clear v; clear_value u)
    | ((fail_if_no_progress extract_lets +onlyGivenNames u); have v : Option _ := u; clear v; fail_if_success (have v : Option State := u); clear_value u)
    | (fail_if_no_progress extract_lets +onlyGivenNames u)
    | with_reducible refine State.orFlags_ext (by decide) ?_
    | with_reducible refine State.bumpSat_ext (by decide) ?_
    | (with_reducible refine Ext.foldl _ ?_ ?_)
    | (with_reducible refine Ext.foldl_fst _ ?_ ?_)
    | split
    | (clear_value *; split)
    | (unfold t)
    | (unfold u; try beta_reduce)

theorem State.faultPass_ext {s : State} {a idx : Nat} {f : Flight} {e : PassError} {M₀ : Nat} {a₀ : State} (hM : Within 20726 M₀) (h₀ : Ext M₀ a₀ s) :
    Ext M₀ a₀ (State.faultPass s a idx f e) := by
  refine Ext.via hM h₀ ?_
  clear hM h₀ M₀ a₀
  suffices H : ∀ a₀, Ext 20726 a₀ s → Ext 20726 a₀ (State.faultPass s a idx f e) from H s (Ext.refl _ _)
  intro a₀ h₀
  unfold State.faultPass
  repeat' first
    | with_reducible assumption
    | (with_reducible intro _; intros; try beta_reduce)
    | ((fail_if_no_progress extract_lets +onlyGivenNames t); refine Ext.cut (M := 20726) (a := a₀) (b := t) ?_ (fun ht => ?_); rotate_left; clear_value t)
    | ((fail_if_no_progress extract_lets +onlyGivenNames u); have v : Nat := u; clear v; clear_value u)
    | ((fail_if_no_progress extract_lets +onlyGivenNames u); have v : List _ := u; clear v; clear_value u)
    | ((fail_if_no_progress extract_lets +onlyGivenNames u); have v : Option _ := u; clear v; fail_if_success (have v : Option State := u); clear_value u)
    | (fail_if_no_progress extract_lets +onlyGivenNames u)
    | with_reducible refine State.setArr_ext (by decide) ?_
    | with_reducible refine State.bump_ext (by decide) ?_
    | with_reducible refine State.passMark_ext (by decide) ?_
    | with_reducible refine State.passEvent_ext (by decide) ?_
    | with_reducible refine State.passRepeat_ext (by decide) ?_
    | with_reducible refine State.reissued_ext (by decide) ?_
    | with_reducible refine State.arrUpdate_ext (by decide) ?_
    | split
    | (clear_value *; split)
    | (unfold t)
    | (unfold u; try beta_reduce)

theorem passFault_ext {a idx kind row col cyc : Nat} {s : State} {M₀ : Nat} {a₀ : State} (hM : Within 20726 M₀) (h₀ : Ext M₀ a₀ s) :
    Ext M₀ a₀ (passFault a idx kind row col cyc s) := by
  refine Ext.via hM h₀ ?_
  clear hM h₀ M₀ a₀
  suffices H : ∀ a₀, Ext 20726 a₀ s → Ext 20726 a₀ (passFault a idx kind row col cyc s) from H s (Ext.refl _ _)
  intro a₀ h₀
  unfold passFault
  repeat' first
    | with_reducible assumption
    | (with_reducible intro _; intros; try beta_reduce)
    | with_reducible refine State.bumpSat_ext (by decide) ?_
    | with_reducible refine State.faultPass_ext (by decide) ?_
    | with_reducible refine State.arrayFail_ext (by decide) ?_
    | split

theorem aryInject_ext {a v : Nat} {s : State} {M₀ : Nat} {a₀ : State} (hM : Within 16384 M₀) (h₀ : Ext M₀ a₀ s) :
    Ext M₀ a₀ (aryInject a v s) := by
  refine Ext.via hM h₀ ?_
  clear hM h₀ M₀ a₀
  suffices H : ∀ a₀, Ext 16384 a₀ s → Ext 16384 a₀ (aryInject a v s) from H s (Ext.refl _ _)
  intro a₀ h₀
  unfold aryInject
  repeat' first
    | with_reducible assumption
    | (with_reducible intro _; intros; try beta_reduce)
    | with_reducible refine State.setArr_ext (by decide) ?_
    | split
    | (refine Ext.upd ?_ ?_ ?_ ?_ ?_ ?_ ?_ ?_ ?_ ?_ ?_ ?_ ?_ ?_ ?_ ?_ ?_ ?_ ?_ ?_ <;> first | rfl | exact fun _ => rfl | exact fun h => absurd h (by decide) | skip)

end Sys2Proof.Machine
end

