-- ==== Sys2Proof/Laws/ExtAwl.lean ====
section
/-!
SUPPORT. What each operation of Machine/Awl.lean can change: one lemma each.
-/
namespace Sys2Proof.Machine

theorem State.fillDue_ext {s : State} {a : Nat} {i : PassId} {rest : List PassId} {M₀ : Nat} {a₀ : State} (hM : Within 20598 M₀) (h₀ : Ext M₀ a₀ s) :
    Ext M₀ a₀ (State.fillDue s a i rest) := by
  refine Ext.via hM h₀ ?_
  clear hM h₀ M₀ a₀
  suffices H : ∀ a₀, Ext 20598 a₀ s → Ext 20598 a₀ (State.fillDue s a i rest) from H s (Ext.refl _ _)
  intro a₀ h₀
  unfold State.fillDue
  repeat' first
    | with_reducible assumption
    | (with_reducible intro _; intros; try beta_reduce)
    | ((fail_if_no_progress extract_lets +onlyGivenNames t); refine Ext.cut (M := 20598) (a := a₀) (b := t) ?_ (fun ht => ?_); rotate_left; clear_value t)
    | ((fail_if_no_progress extract_lets +onlyGivenNames u); have v : Nat := u; clear v; clear_value u)
    | ((fail_if_no_progress extract_lets +onlyGivenNames u); have v : List _ := u; clear v; clear_value u)
    | ((fail_if_no_progress extract_lets +onlyGivenNames u); have v : Option _ := u; clear v; fail_if_success (have v : Option State := u); clear_value u)
    | (fail_if_no_progress extract_lets +onlyGivenNames u)
    | with_reducible refine State.failMatmul_ext (by decide) ?_
    | with_reducible refine State.setArr_ext (by decide) ?_
    | with_reducible refine State.countBytes_ext (by decide) ?_
    | split
    | (clear_value *; split)
    | (unfold t)
    | (unfold u; try beta_reduce)
    | (refine Ext.upd ?_ ?_ ?_ ?_ ?_ ?_ ?_ ?_ ?_ ?_ ?_ ?_ ?_ ?_ ?_ ?_ ?_ ?_ ?_ ?_ <;> first | rfl | exact fun _ => rfl | exact fun h => absurd h (by decide) | skip)

theorem State.fillClaim_ext {s : State} {a : Nat} {c : PfClaim} {o : Op} {d : Desc} {M₀ : Nat} {a₀ : State} (hM : Within 20484 M₀) (h₀ : Ext M₀ a₀ s) :
    Ext M₀ a₀ (State.fillClaim s a c o d) := by
  refine Ext.via hM h₀ ?_
  clear hM h₀ M₀ a₀
  suffices H : ∀ a₀, Ext 20484 a₀ s → Ext 20484 a₀ (State.fillClaim s a c o d) from H s (Ext.refl _ _)
  intro a₀ h₀
  unfold State.fillClaim
  repeat' first
    | with_reducible assumption
    | (with_reducible intro _; intros; try beta_reduce)
    | ((fail_if_no_progress extract_lets +onlyGivenNames t); refine Ext.cut (M := 20484) (a := a₀) (b := t) ?_ (fun ht => ?_); rotate_left; clear_value t)
    | ((fail_if_no_progress extract_lets +onlyGivenNames u); have v : Nat := u; clear v; clear_value u)
    | ((fail_if_no_progress extract_lets +onlyGivenNames u); have v : List _ := u; clear v; clear_value u)
    | ((fail_if_no_progress extract_lets +onlyGivenNames u); have v : Option _ := u; clear v; fail_if_success (have v : Option State := u); clear_value u)
    | (fail_if_no_progress extract_lets +onlyGivenNames u)
    | with_reducible refine State.setArr_ext (by decide) ?_
    | with_reducible refine State.pfShow_ext (by decide) ?_
    | with_reducible refine State.countBytes_ext (by decide) ?_
    | split
    | (clear_value *; split)
    | (unfold t)
    | (unfold u; try beta_reduce)
    | (refine Ext.upd ?_ ?_ ?_ ?_ ?_ ?_ ?_ ?_ ?_ ?_ ?_ ?_ ?_ ?_ ?_ ?_ ?_ ?_ ?_ ?_ <;> first | rfl | exact fun _ => rfl | exact fun h => absurd h (by decide) | skip)

theorem prefetchFill_ext {a : Nat} {s : State} {M₀ : Nat} {a₀ : State} (hM : Within 20598 M₀) (h₀ : Ext M₀ a₀ s) :
    Ext M₀ a₀ (prefetchFill a s) := by
  refine Ext.via hM h₀ ?_
  clear hM h₀ M₀ a₀
  suffices H : ∀ a₀, Ext 20598 a₀ s → Ext 20598 a₀ (prefetchFill a s) from H s (Ext.refl _ _)
  intro a₀ h₀
  unfold prefetchFill
  repeat' first
    | with_reducible assumption
    | (with_reducible intro _; intros; try beta_reduce)
    | with_reducible refine State.fillDue_ext (by decide) ?_
    | with_reducible refine State.fillClaim_ext (by decide) ?_
    | split

theorem State.awlBreach_ext {s : State} {p slot l : Nat} {o : Op} {ratios : List Val} {M₀ : Nat} {a₀ : State} (hM : Within 32964 M₀) (h₀ : Ext M₀ a₀ s) :
    Ext M₀ a₀ (State.awlBreach s p slot l o ratios) := by
  refine Ext.via hM h₀ ?_
  clear hM h₀ M₀ a₀
  suffices H : ∀ a₀, Ext 32964 a₀ s → Ext 32964 a₀ (State.awlBreach s p slot l o ratios) from H s (Ext.refl _ _)
  intro a₀ h₀
  unfold State.awlBreach
  repeat' first
    | with_reducible assumption
    | (with_reducible intro _; intros; try beta_reduce)
    | ((fail_if_no_progress extract_lets +onlyGivenNames t); refine Ext.cut (M := 32964) (a := a₀) (b := t) ?_ (fun ht => ?_); rotate_left; clear_value t)
    | ((fail_if_no_progress extract_lets +onlyGivenNames u); have v : Nat := u; clear v; clear_value u)
    | ((fail_if_no_progress extract_lets +onlyGivenNames u); have v : List _ := u; clear v; clear_value u)
    | ((fail_if_no_progress extract_lets +onlyGivenNames u); have v : Option _ := u; clear v; fail_if_success (have v : Option State := u); clear_value u)
    | (fail_if_no_progress extract_lets +onlyGivenNames u)
    | with_reducible refine State.orFlags_ext (by decide) ?_
    | with_reducible refine State.bumpSat_ext (by decide) ?_
    | with_reducible refine State.put_ext (by decide) ?_
    | with_reducible refine State.event_ext (by decide) ?_
    | with_reducible refine State.trigger_ext (by decide) ?_
    | (with_reducible refine Ext.foldl _ ?_ ?_)
    | (with_reducible refine Ext.foldl_fst _ ?_ ?_)
    | split
    | (clear_value *; split)
    | (unfold t)
    | (unfold u; try beta_reduce)

theorem State.awlEnd_ext {s : State} {slot l : Nat} {m : MmRun} {M₀ : Nat} {a₀ : State} (hM : Within 16388 M₀) (h₀ : Ext M₀ a₀ s) :
    Ext M₀ a₀ (State.awlEnd s slot l m) := by
  refine Ext.via hM h₀ ?_
  clear hM h₀ M₀ a₀
  suffices H : ∀ a₀, Ext 16388 a₀ s → Ext 16388 a₀ (State.awlEnd s slot l m) from H s (Ext.refl _ _)
  intro a₀ h₀
  unfold State.awlEnd
  repeat' first
    | with_reducible assumption
    | (with_reducible intro _; intros; try beta_reduce)
    | with_reducible refine State.dropTasksIf_ext (by decide) ?_
    | with_reducible refine State.setMm_ext (by decide) ?_
    | split

theorem State.awlVerdict_ext {s : State} {p slot l j : Nat} {o : Op} {m : MmRun} {ratios : List Val} {M₀ : Nat} {a₀ : State} (hM : Within 49348 M₀) (h₀ : Ext M₀ a₀ s) :
    Ext M₀ a₀ (State.awlVerdict s p slot l j o m ratios) := by
  refine Ext.via hM h₀ ?_
  clear hM h₀ M₀ a₀
  suffices H : ∀ a₀, Ext 49348 a₀ s → Ext 49348 a₀ (State.awlVerdict s p slot l j o m ratios) from H s (Ext.refl _ _)
  intro a₀ h₀
  unfold State.awlVerdict
  repeat' first
    | with_reducible assumption
    | (with_reducible intro _; intros; try beta_reduce)
    | ((fail_if_no_progress extract_lets +onlyGivenNames t); refine Ext.cut (M := 49348) (a := a₀) (b := t) ?_ (fun ht => ?_); rotate_left; clear_value t)
    | ((fail_if_no_progress extract_lets +onlyGivenNames u); have v : Nat := u; clear v; clear_value u)
    | ((fail_if_no_progress extract_lets +onlyGivenNames u); have v : List _ := u; clear v; clear_value u)
    | ((fail_if_no_progress extract_lets +onlyGivenNames u); have v : Option _ := u; clear v; fail_if_success (have v : Option State := u); clear_value u)
    | (fail_if_no_progress extract_lets +onlyGivenNames u)
    | with_reducible refine State.awlEnd_ext (by decide) ?_
    | with_reducible refine State.bump_ext (by decide) ?_
    | with_reducible refine State.awlBreach_ext (by decide) ?_
    | with_reducible refine State.matmulDone_ext (by decide) ?_
    | with_reducible refine State.setMm_ext (by decide) ?_
    | split
    | (clear_value *; split)
    | (unfold t)
    | (unfold u; try beta_reduce)
    | (refine Ext.upd ?_ ?_ ?_ ?_ ?_ ?_ ?_ ?_ ?_ ?_ ?_ ?_ ?_ ?_ ?_ ?_ ?_ ?_ ?_ ?_ <;> first | rfl | exact fun _ => rfl | exact fun h => absurd h (by decide) | skip)

theorem awlRecompute_ext {slot l j : Nat} {s : State} {M₀ : Nat} {a₀ : State} (hM : Within 49348 M₀) (h₀ : Ext M₀ a₀ s) :
    Ext M₀ a₀ (awlRecompute slot l j s) := by
  refine Ext.via hM h₀ ?_
  clear hM h₀ M₀ a₀
  suffices H : ∀ a₀, Ext 49348 a₀ s → Ext 49348 a₀ (awlRecompute slot l j s) from H s (Ext.refl _ _)
  intro a₀ h₀
  unfold awlRecompute
  repeat' first
    | with_reducible assumption
    | (with_reducible intro _; intros; try beta_reduce)
    | ((fail_if_no_progress extract_lets +onlyGivenNames t); refine Ext.cut (M := 49348) (a := a₀) (b := t) ?_ (fun ht => ?_); rotate_left; clear_value t)
    | ((fail_if_no_progress extract_lets +onlyGivenNames u); have v : Nat := u; clear v; clear_value u)
    | ((fail_if_no_progress extract_lets +onlyGivenNames u); have v : List _ := u; clear v; clear_value u)
    | ((fail_if_no_progress extract_lets +onlyGivenNames u); have v : Option _ := u; clear v; fail_if_success (have v : Option State := u); clear_value u)
    | (fail_if_no_progress extract_lets +onlyGivenNames u)
    | with_reducible refine State.tookTurn_ext (by decide) ?_
    | with_reducible refine State.bump_ext (by decide) ?_
    | with_reducible refine State.awlEnd_ext (by decide) ?_
    | with_reducible refine State.generic_ext (by decide) ?_
    | with_reducible refine State.matmulDone_ext (by decide) ?_
    | with_reducible refine State.endTask_ext (by decide) ?_
    | with_reducible refine State.awlVerdict_ext (by decide) ?_
    | (with_reducible refine Ext.foldl _ ?_ ?_)
    | (with_reducible refine Ext.foldl_fst _ ?_ ?_)
    | split
    | (clear_value *; split)
    | (unfold t)
    | (unfold u; try beta_reduce)

end Sys2Proof.Machine
end

