-- ==== Sys2Proof/Laws/ExtEngine.lean ====
section
/-!
SUPPORT. What each operation of Machine/Engine.lean can change: one lemma each.
-/
namespace Sys2Proof.Machine

theorem State.failKernel_ext {s : State} {slot code : Nat} {M₀ : Nat} {a₀ : State} (hM : Within 16452 M₀) (h₀ : Ext M₀ a₀ s) :
    Ext M₀ a₀ (State.failKernel s slot code) := by
  refine Ext.via hM h₀ ?_
  clear hM h₀ M₀ a₀
  suffices H : ∀ a₀, Ext 16452 a₀ s → Ext 16452 a₀ (State.failKernel s slot code) from H s (Ext.refl _ _)
  intro a₀ h₀
  unfold State.failKernel
  repeat' first
    | with_reducible assumption
    | (with_reducible intro _; intros; try beta_reduce)
    | with_reducible refine State.dropTasks_ext (by decide) ?_
    | with_reducible refine State.finish_ext (by decide) ?_
    | split

theorem State.kernFirsts_ext {s : State} {slot : Nat} {o : Op} {cs : List (Nat × Bool)} {M₀ : Nat} {a₀ : State} (hM : Within 4164 M₀) (h₀ : Ext M₀ a₀ s) :
    Ext M₀ a₀ (State.kernFirsts s slot o cs).1 := by
  induction cs generalizing s with
  | nil => exact h₀
  | cons c cs ih =>
    unfold State.kernFirsts
    split
    · exact ih (State.consume_ext (Within.trans (by decide) hM) h₀)
    · exact h₀

theorem State.kernDraws_ext {s : State} {o : Op} {M₀ : Nat} {a₀ : State} (hM : Within 4096 M₀) (h₀ : Ext M₀ a₀ s) :
    Ext M₀ a₀ (State.kernDraws s o) := by
  refine Ext.via hM h₀ ?_
  clear hM h₀ M₀ a₀
  suffices H : ∀ a₀, Ext 4096 a₀ s → Ext 4096 a₀ (State.kernDraws s o) from H s (Ext.refl _ _)
  intro a₀ h₀
  unfold State.kernDraws
  repeat' first
    | with_reducible assumption
    | (with_reducible intro _; intros; try beta_reduce)
    | with_reducible refine State.advanceRng_ext (by decide) ?_
    | (with_reducible refine Ext.foldl _ ?_ ?_)
    | (with_reducible refine Ext.foldl_fst _ ?_ ?_)
    | split

theorem State.kernDeal_ext {s : State} {slot : Nat} {o : Op} {run : KernRun} {engines : List Nat} {M₀ : Nat} {a₀ : State} (hM : Within 16388 M₀) (h₀ : Ext M₀ a₀ s) :
    Ext M₀ a₀ (State.kernDeal s slot o run engines) := by
  refine Ext.via hM h₀ ?_
  clear hM h₀ M₀ a₀
  suffices H : ∀ a₀, Ext 16388 a₀ s → Ext 16388 a₀ (State.kernDeal s slot o run engines) from H s (Ext.refl _ _)
  intro a₀ h₀
  unfold State.kernDeal
  repeat' first
    | with_reducible assumption
    | (with_reducible intro _; intros; try beta_reduce)
    | ((fail_if_no_progress extract_lets +onlyGivenNames t); refine Ext.cut (M := 16388) (a := a₀) (b := t) ?_ (fun ht => ?_); rotate_left; clear_value t)
    | ((fail_if_no_progress extract_lets +onlyGivenNames u); have v : Nat := u; clear v; clear_value u)
    | ((fail_if_no_progress extract_lets +onlyGivenNames u); have v : List _ := u; clear v; clear_value u)
    | ((fail_if_no_progress extract_lets +onlyGivenNames u); have v : Option _ := u; clear v; fail_if_success (have v : Option State := u); clear_value u)
    | (fail_if_no_progress extract_lets +onlyGivenNames u)
    | with_reducible refine State.addTask_ext (by decide) ?_
    | (with_reducible refine Ext.foldl _ ?_ ?_)
    | (with_reducible refine Ext.foldl_fst _ ?_ ?_)
    | split
    | (clear_value *; split)
    | (unfold t)
    | (unfold u; try beta_reduce)

theorem State.failFeed_ext {s : State} {slot i code : Nat} {seqBad span : Bool} {M₀ : Nat} {a₀ : State} (hM : Within 20726 M₀) (h₀ : Ext M₀ a₀ s) :
    Ext M₀ a₀ (State.failFeed s slot i code seqBad span) := by
  refine Ext.via hM h₀ ?_
  clear hM h₀ M₀ a₀
  suffices H : ∀ a₀, Ext 20726 a₀ s → Ext 20726 a₀ (State.failFeed s slot i code seqBad span) from H s (Ext.refl _ _)
  intro a₀ h₀
  unfold State.failFeed
  repeat' first
    | with_reducible assumption
    | (with_reducible intro _; intros; try beta_reduce)
    | ((fail_if_no_progress extract_lets +onlyGivenNames t); refine Ext.cut (M := 20726) (a := a₀) (b := t) ?_ (fun ht => ?_); rotate_left; clear_value t)
    | ((fail_if_no_progress extract_lets +onlyGivenNames u); have v : Nat := u; clear v; clear_value u)
    | ((fail_if_no_progress extract_lets +onlyGivenNames u); have v : List _ := u; clear v; clear_value u)
    | ((fail_if_no_progress extract_lets +onlyGivenNames u); have v : Option _ := u; clear v; fail_if_success (have v : Option State := u); clear_value u)
    | (fail_if_no_progress extract_lets +onlyGivenNames u)
    | with_reducible refine State.storeFree_ext (by decide) ?_
    | with_reducible refine State.dropTasks_ext (by decide) ?_
    | with_reducible refine State.descFault_ext (by decide) ?_
    | (with_reducible refine Ext.foldl _ ?_ ?_)
    | (with_reducible refine Ext.foldl_fst _ ?_ ?_)
    | split
    | (clear_value *; split)
    | (unfold t)
    | (unfold u; try beta_reduce)

theorem State.kernFeedCtx_ext {s : State} {slot : Nat} {o : Op} {e : Nat × Bool} {M₀ : Nat} {a₀ : State} (hM : Within 20726 M₀) (h₀ : Ext M₀ a₀ s) :
    Ext M₀ a₀ (State.kernFeedCtx s slot o e) := by
  refine Ext.via hM h₀ ?_
  clear hM h₀ M₀ a₀
  suffices H : ∀ a₀, Ext 20726 a₀ s → Ext 20726 a₀ (State.kernFeedCtx s slot o e) from H s (Ext.refl _ _)
  intro a₀ h₀
  unfold State.kernFeedCtx
  repeat' first
    | with_reducible assumption
    | (with_reducible intro _; intros; try beta_reduce)
    | ((fail_if_no_progress extract_lets +onlyGivenNames t); refine Ext.cut (M := 20726) (a := a₀) (b := t) ?_ (fun ht => ?_); rotate_left; clear_value t)
    | ((fail_if_no_progress extract_lets +onlyGivenNames u); have v : Nat := u; clear v; clear_value u)
    | ((fail_if_no_progress extract_lets +onlyGivenNames u); have v : List _ := u; clear v; clear_value u)
    | ((fail_if_no_progress extract_lets +onlyGivenNames u); have v : Option _ := u; clear v; fail_if_success (have v : Option State := u); clear_value u)
    | (fail_if_no_progress extract_lets +onlyGivenNames u)
    | with_reducible refine State.consume_ext (by decide) ?_
    | with_reducible refine State.setKern_ext (by decide) ?_
    | with_reducible refine State.failFeed_ext (by decide) ?_
    | split
    | (clear_value *; split)
    | (unfold t)
    | (unfold u; try beta_reduce)
    | (refine Ext.upd ?_ ?_ ?_ ?_ ?_ ?_ ?_ ?_ ?_ ?_ ?_ ?_ ?_ ?_ ?_ ?_ ?_ ?_ ?_ ?_ <;> first | rfl | exact fun _ => rfl | exact fun h => absurd h (by decide) | skip)

theorem State.kernFeed_ext {s : State} {slot : Nat} {o : Op} {M₀ : Nat} {a₀ : State} (hM : Within 20726 M₀) (h₀ : Ext M₀ a₀ s) :
    Ext M₀ a₀ (State.kernFeed s slot o) := by
  refine Ext.via hM h₀ ?_
  clear hM h₀ M₀ a₀
  suffices H : ∀ a₀, Ext 20726 a₀ s → Ext 20726 a₀ (State.kernFeed s slot o) from H s (Ext.refl _ _)
  intro a₀ h₀
  unfold State.kernFeed
  repeat' first
    | with_reducible assumption
    | (with_reducible intro _; intros; try beta_reduce)
    | with_reducible refine State.kernFeedCtx_ext (by decide) ?_
    | (with_reducible refine Ext.foldl _ ?_ ?_)
    | (with_reducible refine Ext.foldl_fst _ ?_ ?_)
    | split

theorem opKernel_ext {slot : Nat} {s : State} {M₀ : Nat} {a₀ : State} (hM : Within 20726 M₀) (h₀ : Ext M₀ a₀ s) :
    Ext M₀ a₀ (opKernel slot s) := by
  refine Ext.via hM h₀ ?_
  clear hM h₀ M₀ a₀
  suffices H : ∀ a₀, Ext 20726 a₀ s → Ext 20726 a₀ (opKernel slot s) from H s (Ext.refl _ _)
  intro a₀ h₀
  unfold opKernel
  repeat' first
    | with_reducible assumption
    | (with_reducible intro _; intros; try beta_reduce)
    | ((fail_if_no_progress extract_lets +onlyGivenNames t); refine Ext.cut (M := 20726) (a := a₀) (b := t) ?_ (fun ht => ?_); rotate_left; clear_value t)
    | ((fail_if_no_progress extract_lets +onlyGivenNames u); have v : Nat := u; clear v; clear_value u)
    | ((fail_if_no_progress extract_lets +onlyGivenNames u); have v : List _ := u; clear v; clear_value u)
    | ((fail_if_no_progress extract_lets +onlyGivenNames u); have v : Option _ := u; clear v; fail_if_success (have v : Option State := u); clear_value u)
    | (fail_if_no_progress extract_lets +onlyGivenNames u)
    | with_reducible refine State.issue_ext (by decide) ?_
    | with_reducible refine State.kernFirsts_ext (by decide) ?_
    | with_reducible refine State.descFault_ext (by decide) ?_
    | with_reducible refine State.kernDraws_ext (by decide) ?_
    | with_reducible refine State.finish_ext (by decide) ?_
    | with_reducible refine State.setKern_ext (by decide) ?_
    | with_reducible refine State.kernDeal_ext (by decide) ?_
    | with_reducible refine State.kernFeed_ext (by decide) ?_
    | split
    | (clear_value *; split)
    | (unfold t)
    | (unfold u; try beta_reduce)

theorem burstFetch_ext {i : Nat} {s : State} {M₀ : Nat} {a₀ : State} (hM : Within 20726 M₀) (h₀ : Ext M₀ a₀ s) :
    Ext M₀ a₀ (burstFetch i s) := by
  refine Ext.via hM h₀ ?_
  clear hM h₀ M₀ a₀
  suffices H : ∀ a₀, Ext 20726 a₀ s → Ext 20726 a₀ (burstFetch i s) from H s (Ext.refl _ _)
  intro a₀ h₀
  unfold burstFetch
  repeat' first
    | with_reducible assumption
    | (with_reducible intro _; intros; try beta_reduce)
    | ((fail_if_no_progress extract_lets +onlyGivenNames t); refine Ext.cut (M := 20726) (a := a₀) (b := t) ?_ (fun ht => ?_); rotate_left; clear_value t)
    | ((fail_if_no_progress extract_lets +onlyGivenNames u); have v : Nat := u; clear v; clear_value u)
    | ((fail_if_no_progress extract_lets +onlyGivenNames u); have v : List _ := u; clear v; clear_value u)
    | ((fail_if_no_progress extract_lets +onlyGivenNames u); have v : Option _ := u; clear v; fail_if_success (have v : Option State := u); clear_value u)
    | (fail_if_no_progress extract_lets +onlyGivenNames u)
    | with_reducible refine State.fetchBurst_ext (by decide) ?_
    | with_reducible refine State.kernFeed_ext (by decide) ?_
    | split
    | (clear_value *; split)
    | (unfold t)
    | (unfold u; try beta_reduce)

theorem State.rowCount_ext {s : State} {k : KernRun} {t : Task} {M₀ : Nat} {a₀ : State} (hM : Within 4100 M₀) (h₀ : Ext M₀ a₀ s) :
    Ext M₀ a₀ (State.rowCount s k t) := by
  refine Ext.via hM h₀ ?_
  clear hM h₀ M₀ a₀
  suffices H : ∀ a₀, Ext 4100 a₀ s → Ext 4100 a₀ (State.rowCount s k t) from H s (Ext.refl _ _)
  intro a₀ h₀
  unfold State.rowCount
  repeat' first
    | with_reducible assumption
    | (with_reducible intro _; intros; try beta_reduce)
    | ((fail_if_no_progress extract_lets +onlyGivenNames t); refine Ext.cut (M := 4100) (a := a₀) (b := t) ?_ (fun ht => ?_); rotate_left; clear_value t)
    | ((fail_if_no_progress extract_lets +onlyGivenNames u); have v : Nat := u; clear v; clear_value u)
    | ((fail_if_no_progress extract_lets +onlyGivenNames u); have v : List _ := u; clear v; clear_value u)
    | ((fail_if_no_progress extract_lets +onlyGivenNames u); have v : Option _ := u; clear v; fail_if_success (have v : Option State := u); clear_value u)
    | (fail_if_no_progress extract_lets +onlyGivenNames u)
    | with_reducible refine State.countBytes_ext (by decide) ?_
    | with_reducible refine State.advancePos_ext (by decide) ?_
    | (with_reducible refine Ext.foldl _ ?_ ?_)
    | (with_reducible refine Ext.foldl_fst _ ?_ ?_)
    | split
    | (clear_value *; split)
    | (unfold t)
    | (unfold u; try beta_reduce)

theorem State.storeCount_ext {s : State} {k : KernRun} {t : Task} {M₀ : Nat} {a₀ : State} (hM : Within 4100 M₀) (h₀ : Ext M₀ a₀ s) :
    Ext M₀ a₀ (State.storeCount s k t) := by
  refine Ext.via hM h₀ ?_
  clear hM h₀ M₀ a₀
  suffices H : ∀ a₀, Ext 4100 a₀ s → Ext 4100 a₀ (State.storeCount s k t) from H s (Ext.refl _ _)
  intro a₀ h₀
  unfold State.storeCount
  repeat' first
    | with_reducible assumption
    | (with_reducible intro _; intros; try beta_reduce)
    | ((fail_if_no_progress extract_lets +onlyGivenNames t); refine Ext.cut (M := 4100) (a := a₀) (b := t) ?_ (fun ht => ?_); rotate_left; clear_value t)
    | ((fail_if_no_progress extract_lets +onlyGivenNames u); have v : Nat := u; clear v; clear_value u)
    | ((fail_if_no_progress extract_lets +onlyGivenNames u); have v : List _ := u; clear v; clear_value u)
    | ((fail_if_no_progress extract_lets +onlyGivenNames u); have v : Option _ := u; clear v; fail_if_success (have v : Option State := u); clear_value u)
    | (fail_if_no_progress extract_lets +onlyGivenNames u)
    | with_reducible refine State.countBytes_ext (by decide) ?_
    | with_reducible refine State.advancePos_ext (by decide) ?_
    | (with_reducible refine Ext.foldl _ ?_ ?_)
    | (with_reducible refine Ext.foldl_fst _ ?_ ?_)
    | split
    | (clear_value *; split)
    | (unfold t)
    | (unfold u; try beta_reduce)

theorem State.retireVector_ext {s : State} {e : Nat} {k : KernRun} {t : Task} {M₀ : Nat} {a₀ : State} (hM : Within 53492 M₀) (h₀ : Ext M₀ a₀ s) :
    Ext M₀ a₀ (State.retireVector s e k t) := by
  refine Ext.via hM h₀ ?_
  clear hM h₀ M₀ a₀
  suffices H : ∀ a₀, Ext 53492 a₀ s → Ext 53492 a₀ (State.retireVector s e k t) from H s (Ext.refl _ _)
  intro a₀ h₀
  unfold State.retireVector
  repeat' first
    | with_reducible assumption
    | (with_reducible intro _; intros; try beta_reduce)
    | ((fail_if_no_progress extract_lets +onlyGivenNames t); refine Ext.cut (M := 53492) (a := a₀) (b := t) ?_ (fun ht => ?_); rotate_left; clear_value t)
    | ((fail_if_no_progress extract_lets +onlyGivenNames u); have v : Nat := u; clear v; clear_value u)
    | ((fail_if_no_progress extract_lets +onlyGivenNames u); have v : List _ := u; clear v; clear_value u)
    | ((fail_if_no_progress extract_lets +onlyGivenNames u); have v : Option _ := u; clear v; fail_if_success (have v : Option State := u); clear_value u)
    | (fail_if_no_progress extract_lets +onlyGivenNames u)
    | with_reducible refine State.writeUnits_ext (by decide) ?_
    | with_reducible refine State.storeCount_ext (by decide) ?_
    | with_reducible refine State.bump_ext (by decide) ?_
    | with_reducible refine State.vecFlags_ext (by decide) ?_
    | with_reducible refine State.setKern_ext (by decide) ?_
    | with_reducible refine State.putTask_ext (by decide) ?_
    | with_reducible refine State.endTask_ext (by decide) ?_
    | with_reducible refine State.finish_ext (by decide) ?_
    | split
    | (clear_value *; split)
    | (unfold t)
    | (unfold u; try beta_reduce)
    | (refine Ext.upd ?_ ?_ ?_ ?_ ?_ ?_ ?_ ?_ ?_ ?_ ?_ ?_ ?_ ?_ ?_ ?_ ?_ ?_ ?_ ?_ <;> first | rfl | exact fun _ => rfl | exact fun h => absurd h (by decide) | skip)

theorem State.kernStep_ext {s : State} {e op : Nat} {f : KEnv → KWord → Vec → Vec} {M₀ : Nat} {a₀ : State} (hM : Within 53492 M₀) (h₀ : Ext M₀ a₀ s) :
    Ext M₀ a₀ (State.kernStep s e op f) := by
  refine Ext.via hM h₀ ?_
  clear hM h₀ M₀ a₀
  suffices H : ∀ a₀, Ext 53492 a₀ s → Ext 53492 a₀ (State.kernStep s e op f) from H s (Ext.refl _ _)
  intro a₀ h₀
  unfold State.kernStep
  repeat' first
    | with_reducible assumption
    | (with_reducible intro _; intros; try beta_reduce)
    | ((fail_if_no_progress extract_lets +onlyGivenNames t); refine Ext.cut (M := 53492) (a := a₀) (b := t) ?_ (fun ht => ?_); rotate_left; clear_value t)
    | ((fail_if_no_progress extract_lets +onlyGivenNames u); have v : Nat := u; clear v; clear_value u)
    | ((fail_if_no_progress extract_lets +onlyGivenNames u); have v : List _ := u; clear v; clear_value u)
    | ((fail_if_no_progress extract_lets +onlyGivenNames u); have v : Option _ := u; clear v; fail_if_success (have v : Option State := u); clear_value u)
    | (fail_if_no_progress extract_lets +onlyGivenNames u)
    | with_reducible refine State.failKernel_ext (by decide) ?_
    | with_reducible refine State.tookTurn_ext (by decide) ?_
    | with_reducible refine State.rowCount_ext (by decide) ?_
    | with_reducible refine State.bump_ext (by decide) ?_
    | with_reducible refine State.putTask_ext (by decide) ?_
    | with_reducible refine State.retireVector_ext (by decide) ?_
    | split
    | (clear_value *; split)
    | (unfold t)
    | (unfold u; try beta_reduce)
    | (refine Ext.upd ?_ ?_ ?_ ?_ ?_ ?_ ?_ ?_ ?_ ?_ ?_ ?_ ?_ ?_ ?_ ?_ ?_ ?_ ?_ ?_ <;> first | rfl | exact fun _ => rfl | exact fun h => absurd h (by decide) | skip)

theorem insNop_ext {e : Nat} {s : State} {M₀ : Nat} {a₀ : State} (hM : Within 53492 M₀) (h₀ : Ext M₀ a₀ s) :
    Ext M₀ a₀ (insNop e s) := by
  refine Ext.via hM h₀ ?_
  clear hM h₀ M₀ a₀
  suffices H : ∀ a₀, Ext 53492 a₀ s → Ext 53492 a₀ (insNop e s) from H s (Ext.refl _ _)
  intro a₀ h₀
  unfold insNop
  repeat' first
    | with_reducible assumption
    | (with_reducible intro _; intros; try beta_reduce)
    | with_reducible refine State.kernStep_ext (by decide) ?_
    | split

theorem insLd_ext {e : Nat} {s : State} {M₀ : Nat} {a₀ : State} (hM : Within 53492 M₀) (h₀ : Ext M₀ a₀ s) :
    Ext M₀ a₀ (insLd e s) := by
  refine Ext.via hM h₀ ?_
  clear hM h₀ M₀ a₀
  suffices H : ∀ a₀, Ext 53492 a₀ s → Ext 53492 a₀ (insLd e s) from H s (Ext.refl _ _)
  intro a₀ h₀
  unfold insLd
  repeat' first
    | with_reducible assumption
    | (with_reducible intro _; intros; try beta_reduce)
    | with_reducible refine State.kernStep_ext (by decide) ?_
    | split

theorem insSt_ext {e : Nat} {s : State} {M₀ : Nat} {a₀ : State} (hM : Within 53492 M₀) (h₀ : Ext M₀ a₀ s) :
    Ext M₀ a₀ (insSt e s) := by
  refine Ext.via hM h₀ ?_
  clear hM h₀ M₀ a₀
  suffices H : ∀ a₀, Ext 53492 a₀ s → Ext 53492 a₀ (insSt e s) from H s (Ext.refl _ _)
  intro a₀ h₀
  unfold insSt
  repeat' first
    | with_reducible assumption
    | (with_reducible intro _; intros; try beta_reduce)
    | with_reducible refine State.kernStep_ext (by decide) ?_
    | split

theorem insLdi_ext {e : Nat} {s : State} {M₀ : Nat} {a₀ : State} (hM : Within 53492 M₀) (h₀ : Ext M₀ a₀ s) :
    Ext M₀ a₀ (insLdi e s) := by
  refine Ext.via hM h₀ ?_
  clear hM h₀ M₀ a₀
  suffices H : ∀ a₀, Ext 53492 a₀ s → Ext 53492 a₀ (insLdi e s) from H s (Ext.refl _ _)
  intro a₀ h₀
  unfold insLdi
  repeat' first
    | with_reducible assumption
    | (with_reducible intro _; intros; try beta_reduce)
    | with_reducible refine State.kernStep_ext (by decide) ?_
    | split

theorem insLdp_ext {e : Nat} {s : State} {M₀ : Nat} {a₀ : State} (hM : Within 53492 M₀) (h₀ : Ext M₀ a₀ s) :
    Ext M₀ a₀ (insLdp e s) := by
  refine Ext.via hM h₀ ?_
  clear hM h₀ M₀ a₀
  suffices H : ∀ a₀, Ext 53492 a₀ s → Ext 53492 a₀ (insLdp e s) from H s (Ext.refl _ _)
  intro a₀ h₀
  unfold insLdp
  repeat' first
    | with_reducible assumption
    | (with_reducible intro _; intros; try beta_reduce)
    | with_reducible refine State.kernStep_ext (by decide) ?_
    | split

theorem insLds_ext {e : Nat} {s : State} {M₀ : Nat} {a₀ : State} (hM : Within 53492 M₀) (h₀ : Ext M₀ a₀ s) :
    Ext M₀ a₀ (insLds e s) := by
  refine Ext.via hM h₀ ?_
  clear hM h₀ M₀ a₀
  suffices H : ∀ a₀, Ext 53492 a₀ s → Ext 53492 a₀ (insLds e s) from H s (Ext.refl _ _)
  intro a₀ h₀
  unfold insLds
  repeat' first
    | with_reducible assumption
    | (with_reducible intro _; intros; try beta_reduce)
    | with_reducible refine State.kernStep_ext (by decide) ?_
    | split

theorem insIdx_ext {e : Nat} {s : State} {M₀ : Nat} {a₀ : State} (hM : Within 53492 M₀) (h₀ : Ext M₀ a₀ s) :
    Ext M₀ a₀ (insIdx e s) := by
  refine Ext.via hM h₀ ?_
  clear hM h₀ M₀ a₀
  suffices H : ∀ a₀, Ext 53492 a₀ s → Ext 53492 a₀ (insIdx e s) from H s (Ext.refl _ _)
  intro a₀ h₀
  unfold insIdx
  repeat' first
    | with_reducible assumption
    | (with_reducible intro _; intros; try beta_reduce)
    | with_reducible refine State.kernStep_ext (by decide) ?_
    | split

theorem insLdk_ext {e : Nat} {s : State} {M₀ : Nat} {a₀ : State} (hM : Within 53492 M₀) (h₀ : Ext M₀ a₀ s) :
    Ext M₀ a₀ (insLdk e s) := by
  refine Ext.via hM h₀ ?_
  clear hM h₀ M₀ a₀
  suffices H : ∀ a₀, Ext 53492 a₀ s → Ext 53492 a₀ (insLdk e s) from H s (Ext.refl _ _)
  intro a₀ h₀
  unfold insLdk
  repeat' first
    | with_reducible assumption
    | (with_reducible intro _; intros; try beta_reduce)
    | with_reducible refine State.kernStep_ext (by decide) ?_
    | split

theorem insAdd_ext {e : Nat} {s : State} {M₀ : Nat} {a₀ : State} (hM : Within 53492 M₀) (h₀ : Ext M₀ a₀ s) :
    Ext M₀ a₀ (insAdd e s) := by
  refine Ext.via hM h₀ ?_
  clear hM h₀ M₀ a₀
  suffices H : ∀ a₀, Ext 53492 a₀ s → Ext 53492 a₀ (insAdd e s) from H s (Ext.refl _ _)
  intro a₀ h₀
  unfold insAdd
  repeat' first
    | with_reducible assumption
    | (with_reducible intro _; intros; try beta_reduce)
    | with_reducible refine State.kernStep_ext (by decide) ?_
    | split

theorem insSub_ext {e : Nat} {s : State} {M₀ : Nat} {a₀ : State} (hM : Within 53492 M₀) (h₀ : Ext M₀ a₀ s) :
    Ext M₀ a₀ (insSub e s) := by
  refine Ext.via hM h₀ ?_
  clear hM h₀ M₀ a₀
  suffices H : ∀ a₀, Ext 53492 a₀ s → Ext 53492 a₀ (insSub e s) from H s (Ext.refl _ _)
  intro a₀ h₀
  unfold insSub
  repeat' first
    | with_reducible assumption
    | (with_reducible intro _; intros; try beta_reduce)
    | with_reducible refine State.kernStep_ext (by decide) ?_
    | split

theorem insMul_ext {e : Nat} {s : State} {M₀ : Nat} {a₀ : State} (hM : Within 53492 M₀) (h₀ : Ext M₀ a₀ s) :
    Ext M₀ a₀ (insMul e s) := by
  refine Ext.via hM h₀ ?_
  clear hM h₀ M₀ a₀
  suffices H : ∀ a₀, Ext 53492 a₀ s → Ext 53492 a₀ (insMul e s) from H s (Ext.refl _ _)
  intro a₀ h₀
  unfold insMul
  repeat' first
    | with_reducible assumption
    | (with_reducible intro _; intros; try beta_reduce)
    | with_reducible refine State.kernStep_ext (by decide) ?_
    | split

theorem insFma_ext {e : Nat} {s : State} {M₀ : Nat} {a₀ : State} (hM : Within 53492 M₀) (h₀ : Ext M₀ a₀ s) :
    Ext M₀ a₀ (insFma e s) := by
  refine Ext.via hM h₀ ?_
  clear hM h₀ M₀ a₀
  suffices H : ∀ a₀, Ext 53492 a₀ s → Ext 53492 a₀ (insFma e s) from H s (Ext.refl _ _)
  intro a₀ h₀
  unfold insFma
  repeat' first
    | with_reducible assumption
    | (with_reducible intro _; intros; try beta_reduce)
    | with_reducible refine State.kernStep_ext (by decide) ?_
    | split

theorem insMin_ext {e : Nat} {s : State} {M₀ : Nat} {a₀ : State} (hM : Within 53492 M₀) (h₀ : Ext M₀ a₀ s) :
    Ext M₀ a₀ (insMin e s) := by
  refine Ext.via hM h₀ ?_
  clear hM h₀ M₀ a₀
  suffices H : ∀ a₀, Ext 53492 a₀ s → Ext 53492 a₀ (insMin e s) from H s (Ext.refl _ _)
  intro a₀ h₀
  unfold insMin
  repeat' first
    | with_reducible assumption
    | (with_reducible intro _; intros; try beta_reduce)
    | with_reducible refine State.kernStep_ext (by decide) ?_
    | split

theorem insMax_ext {e : Nat} {s : State} {M₀ : Nat} {a₀ : State} (hM : Within 53492 M₀) (h₀ : Ext M₀ a₀ s) :
    Ext M₀ a₀ (insMax e s) := by
  refine Ext.via hM h₀ ?_
  clear hM h₀ M₀ a₀
  suffices H : ∀ a₀, Ext 53492 a₀ s → Ext 53492 a₀ (insMax e s) from H s (Ext.refl _ _)
  intro a₀ h₀
  unfold insMax
  repeat' first
    | with_reducible assumption
    | (with_reducible intro _; intros; try beta_reduce)
    | with_reducible refine State.kernStep_ext (by decide) ?_
    | split

theorem insAbs_ext {e : Nat} {s : State} {M₀ : Nat} {a₀ : State} (hM : Within 53492 M₀) (h₀ : Ext M₀ a₀ s) :
    Ext M₀ a₀ (insAbs e s) := by
  refine Ext.via hM h₀ ?_
  clear hM h₀ M₀ a₀
  suffices H : ∀ a₀, Ext 53492 a₀ s → Ext 53492 a₀ (insAbs e s) from H s (Ext.refl _ _)
  intro a₀ h₀
  unfold insAbs
  repeat' first
    | with_reducible assumption
    | (with_reducible intro _; intros; try beta_reduce)
    | with_reducible refine State.kernStep_ext (by decide) ?_
    | split

theorem insNeg_ext {e : Nat} {s : State} {M₀ : Nat} {a₀ : State} (hM : Within 53492 M₀) (h₀ : Ext M₀ a₀ s) :
    Ext M₀ a₀ (insNeg e s) := by
  refine Ext.via hM h₀ ?_
  clear hM h₀ M₀ a₀
  suffices H : ∀ a₀, Ext 53492 a₀ s → Ext 53492 a₀ (insNeg e s) from H s (Ext.refl _ _)
  intro a₀ h₀
  unfold insNeg
  repeat' first
    | with_reducible assumption
    | (with_reducible intro _; intros; try beta_reduce)
    | with_reducible refine State.kernStep_ext (by decide) ?_
    | split

theorem insClt_ext {e : Nat} {s : State} {M₀ : Nat} {a₀ : State} (hM : Within 53492 M₀) (h₀ : Ext M₀ a₀ s) :
    Ext M₀ a₀ (insClt e s) := by
  refine Ext.via hM h₀ ?_
  clear hM h₀ M₀ a₀
  suffices H : ∀ a₀, Ext 53492 a₀ s → Ext 53492 a₀ (insClt e s) from H s (Ext.refl _ _)
  intro a₀ h₀
  unfold insClt
  repeat' first
    | with_reducible assumption
    | (with_reducible intro _; intros; try beta_reduce)
    | with_reducible refine State.kernStep_ext (by decide) ?_
    | split

theorem insCle_ext {e : Nat} {s : State} {M₀ : Nat} {a₀ : State} (hM : Within 53492 M₀) (h₀ : Ext M₀ a₀ s) :
    Ext M₀ a₀ (insCle e s) := by
  refine Ext.via hM h₀ ?_
  clear hM h₀ M₀ a₀
  suffices H : ∀ a₀, Ext 53492 a₀ s → Ext 53492 a₀ (insCle e s) from H s (Ext.refl _ _)
  intro a₀ h₀
  unfold insCle
  repeat' first
    | with_reducible assumption
    | (with_reducible intro _; intros; try beta_reduce)
    | with_reducible refine State.kernStep_ext (by decide) ?_
    | split

theorem insCeq_ext {e : Nat} {s : State} {M₀ : Nat} {a₀ : State} (hM : Within 53492 M₀) (h₀ : Ext M₀ a₀ s) :
    Ext M₀ a₀ (insCeq e s) := by
  refine Ext.via hM h₀ ?_
  clear hM h₀ M₀ a₀
  suffices H : ∀ a₀, Ext 53492 a₀ s → Ext 53492 a₀ (insCeq e s) from H s (Ext.refl _ _)
  intro a₀ h₀
  unfold insCeq
  repeat' first
    | with_reducible assumption
    | (with_reducible intro _; intros; try beta_reduce)
    | with_reducible refine State.kernStep_ext (by decide) ?_
    | split

theorem insCne_ext {e : Nat} {s : State} {M₀ : Nat} {a₀ : State} (hM : Within 53492 M₀) (h₀ : Ext M₀ a₀ s) :
    Ext M₀ a₀ (insCne e s) := by
  refine Ext.via hM h₀ ?_
  clear hM h₀ M₀ a₀
  suffices H : ∀ a₀, Ext 53492 a₀ s → Ext 53492 a₀ (insCne e s) from H s (Ext.refl _ _)
  intro a₀ h₀
  unfold insCne
  repeat' first
    | with_reducible assumption
    | (with_reducible intro _; intros; try beta_reduce)
    | with_reducible refine State.kernStep_ext (by decide) ?_
    | split

theorem insSel_ext {e : Nat} {s : State} {M₀ : Nat} {a₀ : State} (hM : Within 53492 M₀) (h₀ : Ext M₀ a₀ s) :
    Ext M₀ a₀ (insSel e s) := by
  refine Ext.via hM h₀ ?_
  clear hM h₀ M₀ a₀
  suffices H : ∀ a₀, Ext 53492 a₀ s → Ext 53492 a₀ (insSel e s) from H s (Ext.refl _ _)
  intro a₀ h₀
  unfold insSel
  repeat' first
    | with_reducible assumption
    | (with_reducible intro _; intros; try beta_reduce)
    | with_reducible refine State.kernStep_ext (by decide) ?_
    | split

theorem insAnd_ext {e : Nat} {s : State} {M₀ : Nat} {a₀ : State} (hM : Within 53492 M₀) (h₀ : Ext M₀ a₀ s) :
    Ext M₀ a₀ (insAnd e s) := by
  refine Ext.via hM h₀ ?_
  clear hM h₀ M₀ a₀
  suffices H : ∀ a₀, Ext 53492 a₀ s → Ext 53492 a₀ (insAnd e s) from H s (Ext.refl _ _)
  intro a₀ h₀
  unfold insAnd
  repeat' first
    | with_reducible assumption
    | (with_reducible intro _; intros; try beta_reduce)
    | with_reducible refine State.kernStep_ext (by decide) ?_
    | split

theorem insOr_ext {e : Nat} {s : State} {M₀ : Nat} {a₀ : State} (hM : Within 53492 M₀) (h₀ : Ext M₀ a₀ s) :
    Ext M₀ a₀ (insOr e s) := by
  refine Ext.via hM h₀ ?_
  clear hM h₀ M₀ a₀
  suffices H : ∀ a₀, Ext 53492 a₀ s → Ext 53492 a₀ (insOr e s) from H s (Ext.refl _ _)
  intro a₀ h₀
  unfold insOr
  repeat' first
    | with_reducible assumption
    | (with_reducible intro _; intros; try beta_reduce)
    | with_reducible refine State.kernStep_ext (by decide) ?_
    | split

theorem insXor_ext {e : Nat} {s : State} {M₀ : Nat} {a₀ : State} (hM : Within 53492 M₀) (h₀ : Ext M₀ a₀ s) :
    Ext M₀ a₀ (insXor e s) := by
  refine Ext.via hM h₀ ?_
  clear hM h₀ M₀ a₀
  suffices H : ∀ a₀, Ext 53492 a₀ s → Ext 53492 a₀ (insXor e s) from H s (Ext.refl _ _)
  intro a₀ h₀
  unfold insXor
  repeat' first
    | with_reducible assumption
    | (with_reducible intro _; intros; try beta_reduce)
    | with_reducible refine State.kernStep_ext (by decide) ?_
    | split

theorem insFin_ext {e : Nat} {s : State} {M₀ : Nat} {a₀ : State} (hM : Within 53492 M₀) (h₀ : Ext M₀ a₀ s) :
    Ext M₀ a₀ (insFin e s) := by
  refine Ext.via hM h₀ ?_
  clear hM h₀ M₀ a₀
  suffices H : ∀ a₀, Ext 53492 a₀ s → Ext 53492 a₀ (insFin e s) from H s (Ext.refl _ _)
  intro a₀ h₀
  unfold insFin
  repeat' first
    | with_reducible assumption
    | (with_reducible intro _; intros; try beta_reduce)
    | with_reducible refine State.kernStep_ext (by decide) ?_
    | split

theorem insExp_ext {e : Nat} {s : State} {M₀ : Nat} {a₀ : State} (hM : Within 53492 M₀) (h₀ : Ext M₀ a₀ s) :
    Ext M₀ a₀ (insExp e s) := by
  refine Ext.via hM h₀ ?_
  clear hM h₀ M₀ a₀
  suffices H : ∀ a₀, Ext 53492 a₀ s → Ext 53492 a₀ (insExp e s) from H s (Ext.refl _ _)
  intro a₀ h₀
  unfold insExp
  repeat' first
    | with_reducible assumption
    | (with_reducible intro _; intros; try beta_reduce)
    | with_reducible refine State.kernStep_ext (by decide) ?_
    | split

theorem insLog_ext {e : Nat} {s : State} {M₀ : Nat} {a₀ : State} (hM : Within 53492 M₀) (h₀ : Ext M₀ a₀ s) :
    Ext M₀ a₀ (insLog e s) := by
  refine Ext.via hM h₀ ?_
  clear hM h₀ M₀ a₀
  suffices H : ∀ a₀, Ext 53492 a₀ s → Ext 53492 a₀ (insLog e s) from H s (Ext.refl _ _)
  intro a₀ h₀
  unfold insLog
  repeat' first
    | with_reducible assumption
    | (with_reducible intro _; intros; try beta_reduce)
    | with_reducible refine State.kernStep_ext (by decide) ?_
    | split

theorem insRcp_ext {e : Nat} {s : State} {M₀ : Nat} {a₀ : State} (hM : Within 53492 M₀) (h₀ : Ext M₀ a₀ s) :
    Ext M₀ a₀ (insRcp e s) := by
  refine Ext.via hM h₀ ?_
  clear hM h₀ M₀ a₀
  suffices H : ∀ a₀, Ext 53492 a₀ s → Ext 53492 a₀ (insRcp e s) from H s (Ext.refl _ _)
  intro a₀ h₀
  unfold insRcp
  repeat' first
    | with_reducible assumption
    | (with_reducible intro _; intros; try beta_reduce)
    | with_reducible refine State.kernStep_ext (by decide) ?_
    | split

theorem insRsq_ext {e : Nat} {s : State} {M₀ : Nat} {a₀ : State} (hM : Within 53492 M₀) (h₀ : Ext M₀ a₀ s) :
    Ext M₀ a₀ (insRsq e s) := by
  refine Ext.via hM h₀ ?_
  clear hM h₀ M₀ a₀
  suffices H : ∀ a₀, Ext 53492 a₀ s → Ext 53492 a₀ (insRsq e s) from H s (Ext.refl _ _)
  intro a₀ h₀
  unfold insRsq
  repeat' first
    | with_reducible assumption
    | (with_reducible intro _; intros; try beta_reduce)
    | with_reducible refine State.kernStep_ext (by decide) ?_
    | split

theorem insTanh_ext {e : Nat} {s : State} {M₀ : Nat} {a₀ : State} (hM : Within 53492 M₀) (h₀ : Ext M₀ a₀ s) :
    Ext M₀ a₀ (insTanh e s) := by
  refine Ext.via hM h₀ ?_
  clear hM h₀ M₀ a₀
  suffices H : ∀ a₀, Ext 53492 a₀ s → Ext 53492 a₀ (insTanh e s) from H s (Ext.refl _ _)
  intro a₀ h₀
  unfold insTanh
  repeat' first
    | with_reducible assumption
    | (with_reducible intro _; intros; try beta_reduce)
    | with_reducible refine State.kernStep_ext (by decide) ?_
    | split

theorem insRsum_ext {e : Nat} {s : State} {M₀ : Nat} {a₀ : State} (hM : Within 53492 M₀) (h₀ : Ext M₀ a₀ s) :
    Ext M₀ a₀ (insRsum e s) := by
  refine Ext.via hM h₀ ?_
  clear hM h₀ M₀ a₀
  suffices H : ∀ a₀, Ext 53492 a₀ s → Ext 53492 a₀ (insRsum e s) from H s (Ext.refl _ _)
  intro a₀ h₀
  unfold insRsum
  repeat' first
    | with_reducible assumption
    | (with_reducible intro _; intros; try beta_reduce)
    | with_reducible refine State.kernStep_ext (by decide) ?_
    | split

theorem insRmax_ext {e : Nat} {s : State} {M₀ : Nat} {a₀ : State} (hM : Within 53492 M₀) (h₀ : Ext M₀ a₀ s) :
    Ext M₀ a₀ (insRmax e s) := by
  refine Ext.via hM h₀ ?_
  clear hM h₀ M₀ a₀
  suffices H : ∀ a₀, Ext 53492 a₀ s → Ext 53492 a₀ (insRmax e s) from H s (Ext.refl _ _)
  intro a₀ h₀
  unfold insRmax
  repeat' first
    | with_reducible assumption
    | (with_reducible intro _; intros; try beta_reduce)
    | with_reducible refine State.kernStep_ext (by decide) ?_
    | split

theorem insRmin_ext {e : Nat} {s : State} {M₀ : Nat} {a₀ : State} (hM : Within 53492 M₀) (h₀ : Ext M₀ a₀ s) :
    Ext M₀ a₀ (insRmin e s) := by
  refine Ext.via hM h₀ ?_
  clear hM h₀ M₀ a₀
  suffices H : ∀ a₀, Ext 53492 a₀ s → Ext 53492 a₀ (insRmin e s) from H s (Ext.refl _ _)
  intro a₀ h₀
  unfold insRmin
  repeat' first
    | with_reducible assumption
    | (with_reducible intro _; intros; try beta_reduce)
    | with_reducible refine State.kernStep_ext (by decide) ?_
    | split

theorem insCvt_ext {e : Nat} {s : State} {M₀ : Nat} {a₀ : State} (hM : Within 53492 M₀) (h₀ : Ext M₀ a₀ s) :
    Ext M₀ a₀ (insCvt e s) := by
  refine Ext.via hM h₀ ?_
  clear hM h₀ M₀ a₀
  suffices H : ∀ a₀, Ext 53492 a₀ s → Ext 53492 a₀ (insCvt e s) from H s (Ext.refl _ _)
  intro a₀ h₀
  unfold insCvt
  repeat' first
    | with_reducible assumption
    | (with_reducible intro _; intros; try beta_reduce)
    | with_reducible refine State.kernStep_ext (by decide) ?_
    | split

theorem State.startSpare_ext {s : State} {cs target trigger : Nat} {M₀ : Nat} {a₀ : State} (hM : Within 49348 M₀) (h₀ : Ext M₀ a₀ s) :
    Ext M₀ a₀ (State.startSpare s cs target trigger) := by
  refine Ext.via hM h₀ ?_
  clear hM h₀ M₀ a₀
  suffices H : ∀ a₀, Ext 49348 a₀ s → Ext 49348 a₀ (State.startSpare s cs target trigger) from H s (Ext.refl _ _)
  intro a₀ h₀
  unfold State.startSpare
  repeat' first
    | with_reducible assumption
    | (with_reducible intro _; intros; try beta_reduce)
    | ((fail_if_no_progress extract_lets +onlyGivenNames t); refine Ext.cut (M := 49348) (a := a₀) (b := t) ?_ (fun ht => ?_); rotate_left; clear_value t)
    | ((fail_if_no_progress extract_lets +onlyGivenNames u); have v : Nat := u; clear v; clear_value u)
    | ((fail_if_no_progress extract_lets +onlyGivenNames u); have v : List _ := u; clear v; clear_value u)
    | ((fail_if_no_progress extract_lets +onlyGivenNames u); have v : Option _ := u; clear v; fail_if_success (have v : Option State := u); clear_value u)
    | (fail_if_no_progress extract_lets +onlyGivenNames u)
    | with_reducible refine State.setSpare_ext (by decide) ?_
    | with_reducible refine State.trigger_ext (by decide) ?_
    | with_reducible refine State.put_ext (by decide) ?_
    | with_reducible refine State.setEng_ext (by decide) ?_
    | with_reducible refine State.inventoryUpdate_ext (by decide) ?_
    | split
    | (clear_value *; split)
    | (unfold t)
    | (unfold u; try beta_reduce)
    | (refine Ext.upd ?_ ?_ ?_ ?_ ?_ ?_ ?_ ?_ ?_ ?_ ?_ ?_ ?_ ?_ ?_ ?_ ?_ ?_ ?_ ?_ <;> first | rfl | exact fun _ => rfl | exact fun h => absurd h (by decide) | skip)

theorem State.engineGone_ext {s : State} {e : Nat} {M₀ : Nat} {a₀ : State} (hM : Within 16452 M₀) (h₀ : Ext M₀ a₀ s) :
    Ext M₀ a₀ (State.engineGone s e) := by
  refine Ext.via hM h₀ ?_
  clear hM h₀ M₀ a₀
  suffices H : ∀ a₀, Ext 16452 a₀ s → Ext 16452 a₀ (State.engineGone s e) from H s (Ext.refl _ _)
  intro a₀ h₀
  unfold State.engineGone
  repeat' first
    | with_reducible assumption
    | (with_reducible intro _; intros; try beta_reduce)
    | with_reducible refine State.failKernel_ext (by decide) ?_
    | with_reducible refine State.awlEnd_ext (by decide) ?_
    | with_reducible refine State.matmulDone_ext (by decide) ?_
    | (with_reducible refine Ext.foldl _ ?_ ?_)
    | (with_reducible refine Ext.foldl_fst _ ?_ ?_)
    | split

theorem State.engineLost_ext {s : State} {e : Nat} {M₀ : Nat} {a₀ : State} (hM : Within 20726 M₀) (h₀ : Ext M₀ a₀ s) :
    Ext M₀ a₀ (State.engineLost s e) := by
  refine Ext.via hM h₀ ?_
  clear hM h₀ M₀ a₀
  suffices H : ∀ a₀, Ext 20726 a₀ s → Ext 20726 a₀ (State.engineLost s e) from H s (Ext.refl _ _)
  intro a₀ h₀
  unfold State.engineLost
  repeat' first
    | with_reducible assumption
    | (with_reducible intro _; intros; try beta_reduce)
    | with_reducible refine State.put_ext (by decide) ?_
    | with_reducible refine State.inventoryUpdate_ext (by decide) ?_
    | with_reducible refine State.arrayFail_ext (by decide) ?_
    | with_reducible refine State.engineGone_ext (by decide) ?_
    | split

theorem State.engineFailed_ext {s : State} {e : Nat} {M₀ : Nat} {a₀ : State} (hM : Within 53494 M₀) (h₀ : Ext M₀ a₀ s) :
    Ext M₀ a₀ (State.engineFailed s e) := by
  refine Ext.via hM h₀ ?_
  clear hM h₀ M₀ a₀
  suffices H : ∀ a₀, Ext 53494 a₀ s → Ext 53494 a₀ (State.engineFailed s e) from H s (Ext.refl _ _)
  intro a₀ h₀
  unfold State.engineFailed
  repeat' first
    | with_reducible assumption
    | (with_reducible intro _; intros; try beta_reduce)
    | ((fail_if_no_progress extract_lets +onlyGivenNames t); refine Ext.cut (M := 53494) (a := a₀) (b := t) ?_ (fun ht => ?_); rotate_left; clear_value t)
    | ((fail_if_no_progress extract_lets +onlyGivenNames u); have v : Nat := u; clear v; clear_value u)
    | ((fail_if_no_progress extract_lets +onlyGivenNames u); have v : List _ := u; clear v; clear_value u)
    | ((fail_if_no_progress extract_lets +onlyGivenNames u); have v : Option _ := u; clear v; fail_if_success (have v : Option State := u); clear_value u)
    | (fail_if_no_progress extract_lets +onlyGivenNames u)
    | with_reducible refine State.put_ext (by decide) ?_
    | with_reducible refine State.startSpare_ext (by decide) ?_
    | with_reducible refine State.engineLost_ext (by decide) ?_
    | split
    | (clear_value *; split)
    | (unfold t)
    | (unfold u; try beta_reduce)

theorem State.failTask_ext {s : State} {k : Task} {M₀ : Nat} {a₀ : State} (hM : Within 20598 M₀) (h₀ : Ext M₀ a₀ s) :
    Ext M₀ a₀ (State.failTask s k) := by
  refine Ext.via hM h₀ ?_
  clear hM h₀ M₀ a₀
  suffices H : ∀ a₀, Ext 20598 a₀ s → Ext 20598 a₀ (State.failTask s k) from H s (Ext.refl _ _)
  intro a₀ h₀
  unfold State.failTask
  repeat' first
    | with_reducible assumption
    | (with_reducible intro _; intros; try beta_reduce)
    | with_reducible refine State.failKernel_ext (by decide) ?_
    | with_reducible refine State.failMatmul_ext (by decide) ?_
    | split

theorem vectorFault_ext {e : Nat} {parity : Bool} {s : State} {M₀ : Nat} {a₀ : State} (hM : Within 53494 M₀) (h₀ : Ext M₀ a₀ s) :
    Ext M₀ a₀ (vectorFault e parity s) := by
  refine Ext.via hM h₀ ?_
  clear hM h₀ M₀ a₀
  suffices H : ∀ a₀, Ext 53494 a₀ s → Ext 53494 a₀ (vectorFault e parity s) from H s (Ext.refl _ _)
  intro a₀ h₀
  unfold vectorFault
  repeat' first
    | with_reducible assumption
    | (with_reducible intro _; intros; try beta_reduce)
    | ((fail_if_no_progress extract_lets +onlyGivenNames t); refine Ext.cut (M := 53494) (a := a₀) (b := t) ?_ (fun ht => ?_); rotate_left; clear_value t)
    | ((fail_if_no_progress extract_lets +onlyGivenNames u); have v : Nat := u; clear v; clear_value u)
    | ((fail_if_no_progress extract_lets +onlyGivenNames u); have v : List _ := u; clear v; clear_value u)
    | ((fail_if_no_progress extract_lets +onlyGivenNames u); have v : Option _ := u; clear v; fail_if_success (have v : Option State := u); clear_value u)
    | (fail_if_no_progress extract_lets +onlyGivenNames u)
    | with_reducible refine State.put_ext (by decide) ?_
    | with_reducible refine State.failTask_ext (by decide) ?_
    | with_reducible refine State.engineFailed_ext (by decide) ?_
    | with_reducible refine State.bumpSat_ext (by decide) ?_
    | with_reducible refine State.putTask_ext (by decide) ?_
    | split
    | (clear_value *; split)
    | (unfold t)
    | (unfold u; try beta_reduce)
    | (refine Ext.upd ?_ ?_ ?_ ?_ ?_ ?_ ?_ ?_ ?_ ?_ ?_ ?_ ?_ ?_ ?_ ?_ ?_ ?_ ?_ ?_ <;> first | rfl | exact fun _ => rfl | exact fun h => absurd h (by decide) | skip)

theorem State.storeError_ext {s : State} {e addr owner slot l : Nat} {M₀ : Nat} {a₀ : State} (hM : Within 20598 M₀) (h₀ : Ext M₀ a₀ s) :
    Ext M₀ a₀ (State.storeError s e addr owner slot l) := by
  refine Ext.via hM h₀ ?_
  clear hM h₀ M₀ a₀
  suffices H : ∀ a₀, Ext 20598 a₀ s → Ext 20598 a₀ (State.storeError s e addr owner slot l) from H s (Ext.refl _ _)
  intro a₀ h₀
  unfold State.storeError
  repeat' first
    | with_reducible assumption
    | (with_reducible intro _; intros; try beta_reduce)
    | with_reducible refine State.failMatmul_ext (by decide) ?_
    | with_reducible refine State.bump_ext (by decide) ?_
    | with_reducible refine State.failKernel_ext (by decide) ?_
    | with_reducible refine State.awlEnd_ext (by decide) ?_
    | with_reducible refine State.matmulDone_ext (by decide) ?_
    | split

theorem tileStoreEcc_ext {e addr : Nat} {corrected : Bool} {owner slot l : Nat} {s : State} {M₀ : Nat} {a₀ : State} (hM : Within 20726 M₀) (h₀ : Ext M₀ a₀ s) :
    Ext M₀ a₀ (tileStoreEcc e addr corrected owner slot l s) := by
  refine Ext.via hM h₀ ?_
  clear hM h₀ M₀ a₀
  suffices H : ∀ a₀, Ext 20726 a₀ s → Ext 20726 a₀ (tileStoreEcc e addr corrected owner slot l s) from H s (Ext.refl _ _)
  intro a₀ h₀
  unfold tileStoreEcc
  repeat' first
    | with_reducible assumption
    | (with_reducible intro _; intros; try beta_reduce)
    | ((fail_if_no_progress extract_lets +onlyGivenNames t); refine Ext.cut (M := 20726) (a := a₀) (b := t) ?_ (fun ht => ?_); rotate_left; clear_value t)
    | ((fail_if_no_progress extract_lets +onlyGivenNames F); refine Ext.cutF (M := 20726) (a := a₀) (F := F) ?_ (fun hF => ?_); rotate_left; clear_value F)
    | with_reducible refine hF _ ?_
    | ((fail_if_no_progress extract_lets +onlyGivenNames G); refine Ext.cutG (M := 20726) (a := a₀) (F := G) ?_ (fun hG => ?_); rotate_left; clear_value G)
    | with_reducible refine hG _ _ ?_
    | ((fail_if_no_progress extract_lets +onlyGivenNames H); refine Ext.cutH (M := 20726) (a := a₀) (F := H) ?_ (fun hH => ?_); rotate_left; clear_value H)
    | with_reducible refine hH _ _ _ ?_
    | ((fail_if_no_progress extract_lets +onlyGivenNames u); have v : Nat := u; clear v; clear_value u)
    | ((fail_if_no_progress extract_lets +onlyGivenNames u); have v : List _ := u; clear v; clear_value u)
    | ((fail_if_no_progress extract_lets +onlyGivenNames u); have v : Option _ := u; clear v; fail_if_success (have v : Option State := u); clear_value u)
    | (fail_if_no_progress extract_lets +onlyGivenNames u)
    | with_reducible refine State.event_ext (by decide) ?_
    | with_reducible refine State.bumpSat_ext (by decide) ?_
    | with_reducible refine State.setEng_ext (by decide) ?_
    | with_reducible refine State.put_ext (by decide) ?_
    | with_reducible refine State.storeError_ext (by decide) ?_
    | split
    | (clear_value *; split)
    | (unfold t)
    | (unfold u; try beta_reduce)
    | (unfold F; try beta_reduce)
    | (unfold G; try beta_reduce)
    | (unfold H; try beta_reduce)
    | (refine Ext.upd ?_ ?_ ?_ ?_ ?_ ?_ ?_ ?_ ?_ ?_ ?_ ?_ ?_ ?_ ?_ ?_ ?_ ?_ ?_ ?_ <;> first | rfl | exact fun _ => rfl | exact fun h => absurd h (by decide) | skip)

theorem teSpareCtrl_ext {cs v : Nat} {s : State} {M₀ : Nat} {a₀ : State} (hM : Within 49348 M₀) (h₀ : Ext M₀ a₀ s) :
    Ext M₀ a₀ (teSpareCtrl cs v s) := by
  refine Ext.via hM h₀ ?_
  clear hM h₀ M₀ a₀
  suffices H : ∀ a₀, Ext 49348 a₀ s → Ext 49348 a₀ (teSpareCtrl cs v s) from H s (Ext.refl _ _)
  intro a₀ h₀
  unfold teSpareCtrl
  repeat' first
    | with_reducible assumption
    | (with_reducible intro _; intros; try beta_reduce)
    | with_reducible refine State.event_ext (by decide) ?_
    | with_reducible refine State.startSpare_ext (by decide) ?_
    | split

theorem ceLimitExceeded_ext {e : Nat} {s : State} {M₀ : Nat} {a₀ : State} (hM : Within 49348 M₀) (h₀ : Ext M₀ a₀ s) :
    Ext M₀ a₀ (ceLimitExceeded e s) := by
  refine Ext.via hM h₀ ?_
  clear hM h₀ M₀ a₀
  suffices H : ∀ a₀, Ext 49348 a₀ s → Ext 49348 a₀ (ceLimitExceeded e s) from H s (Ext.refl _ _)
  intro a₀ h₀
  unfold ceLimitExceeded
  repeat' first
    | with_reducible assumption
    | (with_reducible intro _; intros; try beta_reduce)
    | ((fail_if_no_progress extract_lets +onlyGivenNames t); refine Ext.cut (M := 49348) (a := a₀) (b := t) ?_ (fun ht => ?_); rotate_left; clear_value t)
    | ((fail_if_no_progress extract_lets +onlyGivenNames u); have v : Nat := u; clear v; clear_value u)
    | ((fail_if_no_progress extract_lets +onlyGivenNames u); have v : List _ := u; clear v; clear_value u)
    | ((fail_if_no_progress extract_lets +onlyGivenNames u); have v : Option _ := u; clear v; fail_if_success (have v : Option State := u); clear_value u)
    | (fail_if_no_progress extract_lets +onlyGivenNames u)
    | with_reducible refine State.setEng_ext (by decide) ?_
    | with_reducible refine State.startSpare_ext (by decide) ?_
    | split
    | (clear_value *; split)
    | (unfold t)
    | (unfold u; try beta_reduce)
    | (refine Ext.upd ?_ ?_ ?_ ?_ ?_ ?_ ?_ ?_ ?_ ?_ ?_ ?_ ?_ ?_ ?_ ?_ ?_ ?_ ?_ ?_ <;> first | rfl | exact fun _ => rfl | exact fun h => absurd h (by decide) | skip)

theorem spareSelfTestDone_ext {cs : Nat} {ok : Bool} {s : State} {M₀ : Nat} {a₀ : State} (hM : Within 53494 M₀) (h₀ : Ext M₀ a₀ s) :
    Ext M₀ a₀ (spareSelfTestDone cs ok s) := by
  refine Ext.via hM h₀ ?_
  clear hM h₀ M₀ a₀
  suffices H : ∀ a₀, Ext 53494 a₀ s → Ext 53494 a₀ (spareSelfTestDone cs ok s) from H s (Ext.refl _ _)
  intro a₀ h₀
  unfold spareSelfTestDone
  repeat' first
    | with_reducible assumption
    | (with_reducible intro _; intros; try beta_reduce)
    | ((fail_if_no_progress extract_lets +onlyGivenNames t); refine Ext.cut (M := 53494) (a := a₀) (b := t) ?_ (fun ht => ?_); rotate_left; clear_value t)
    | ((fail_if_no_progress extract_lets +onlyGivenNames u); have v : Nat := u; clear v; clear_value u)
    | ((fail_if_no_progress extract_lets +onlyGivenNames u); have v : List _ := u; clear v; clear_value u)
    | ((fail_if_no_progress extract_lets +onlyGivenNames u); have v : Option _ := u; clear v; fail_if_success (have v : Option State := u); clear_value u)
    | (fail_if_no_progress extract_lets +onlyGivenNames u)
    | with_reducible refine State.put_ext (by decide) ?_
    | with_reducible refine State.setSpare_ext (by decide) ?_
    | with_reducible refine State.trigger_ext (by decide) ?_
    | with_reducible refine State.engineLost_ext (by decide) ?_
    | with_reducible refine State.inventoryUpdate_ext (by decide) ?_
    | split
    | (clear_value *; split)
    | (unfold t)
    | (unfold u; try beta_reduce)

theorem spareCopyDone_ext {cs : Nat} {s : State} {M₀ : Nat} {a₀ : State} (hM : Within 4 M₀) (h₀ : Ext M₀ a₀ s) :
    Ext M₀ a₀ (spareCopyDone cs s) := by
  refine Ext.via hM h₀ ?_
  clear hM h₀ M₀ a₀
  suffices H : ∀ a₀, Ext 4 a₀ s → Ext 4 a₀ (spareCopyDone cs s) from H s (Ext.refl _ _)
  intro a₀ h₀
  unfold spareCopyDone
  repeat' first
    | with_reducible assumption
    | (with_reducible intro _; intros; try beta_reduce)
    | with_reducible refine State.put_ext (by decide) ?_
    | split

theorem spareCutover_ext {cs : Nat} {s : State} {M₀ : Nat} {a₀ : State} (hM : Within 49348 M₀) (h₀ : Ext M₀ a₀ s) :
    Ext M₀ a₀ (spareCutover cs s) := by
  refine Ext.via hM h₀ ?_
  clear hM h₀ M₀ a₀
  suffices H : ∀ a₀, Ext 49348 a₀ s → Ext 49348 a₀ (spareCutover cs s) from H s (Ext.refl _ _)
  intro a₀ h₀
  unfold spareCutover
  repeat' first
    | with_reducible assumption
    | (with_reducible intro _; intros; try beta_reduce)
    | ((fail_if_no_progress extract_lets +onlyGivenNames t); refine Ext.cut (M := 49348) (a := a₀) (b := t) ?_ (fun ht => ?_); rotate_left; clear_value t)
    | ((fail_if_no_progress extract_lets +onlyGivenNames u); have v : Nat := u; clear v; clear_value u)
    | ((fail_if_no_progress extract_lets +onlyGivenNames u); have v : List _ := u; clear v; clear_value u)
    | ((fail_if_no_progress extract_lets +onlyGivenNames u); have v : Option _ := u; clear v; fail_if_success (have v : Option State := u); clear_value u)
    | (fail_if_no_progress extract_lets +onlyGivenNames u)
    | with_reducible refine State.put_ext (by decide) ?_
    | with_reducible refine State.setComp_ext (by decide) ?_
    | with_reducible refine State.setArr_ext (by decide) ?_
    | with_reducible refine State.engUpdate_ext (by decide) ?_
    | with_reducible refine State.event_ext (by decide) ?_
    | with_reducible refine State.trigger_ext (by decide) ?_
    | with_reducible refine State.inventoryUpdate_ext (by decide) ?_
    | split
    | (clear_value *; split)
    | (unfold t)
    | (unfold u; try beta_reduce)
    | (refine Ext.upd ?_ ?_ ?_ ?_ ?_ ?_ ?_ ?_ ?_ ?_ ?_ ?_ ?_ ?_ ?_ ?_ ?_ ?_ ?_ ?_ <;> first | rfl | exact fun _ => rfl | exact fun h => absurd h (by decide) | skip)

end Sys2Proof.Machine
end

