-- ==== Sys2Proof/Laws/ExtRingOps.lean ====
section
/-!
SUPPORT. What each operation of Machine/RingOps.lean can change: one lemma each.
-/
namespace Sys2Proof.Machine

theorem State.setGrp_ext {s : State} {g : Nat} {x : Option Group} {M₀ : Nat} {a₀ : State} (hM : Within 131072 M₀) (h₀ : Ext M₀ a₀ s) :
    Ext M₀ a₀ (State.setGrp s g x) := by
  refine Ext.via hM h₀ ?_
  clear hM h₀ M₀ a₀
  suffices H : ∀ a₀, Ext 131072 a₀ s → Ext 131072 a₀ (State.setGrp s g x) from H s (Ext.refl _ _)
  intro a₀ h₀
  unfold State.setGrp
  repeat' first
    | with_reducible assumption
    | (with_reducible intro _; intros; try beta_reduce)
    | split
    | (refine Ext.upd ?_ ?_ ?_ ?_ ?_ ?_ ?_ ?_ ?_ ?_ ?_ ?_ ?_ ?_ ?_ ?_ ?_ ?_ ?_ ?_ <;> first | rfl | exact fun _ => rfl | exact fun h => absurd h (by decide) | skip)

theorem State.setBucket_ext {s : State} {g : Nat} {x : Option RingBucket} {M₀ : Nat} {a₀ : State} (hM : Within 131072 M₀) (h₀ : Ext M₀ a₀ s) :
    Ext M₀ a₀ (State.setBucket s g x) := by
  refine Ext.via hM h₀ ?_
  clear hM h₀ M₀ a₀
  suffices H : ∀ a₀, Ext 131072 a₀ s → Ext 131072 a₀ (State.setBucket s g x) from H s (Ext.refl _ _)
  intro a₀ h₀
  unfold State.setBucket
  repeat' first
    | with_reducible assumption
    | (with_reducible intro _; intros; try beta_reduce)
    | split
    | (refine Ext.upd ?_ ?_ ?_ ?_ ?_ ?_ ?_ ?_ ?_ ?_ ?_ ?_ ?_ ?_ ?_ ?_ ?_ ?_ ?_ ?_ <;> first | rfl | exact fun _ => rfl | exact fun h => absurd h (by decide) | skip)

theorem State.ringReplay_ext {s : State} {p : Nat} {r : Option Replay} {M₀ : Nat} {a₀ : State} (hM : Within 131072 M₀) (h₀ : Ext M₀ a₀ s) :
    Ext M₀ a₀ (State.ringReplay s p r) := by
  refine Ext.via hM h₀ ?_
  clear hM h₀ M₀ a₀
  suffices H : ∀ a₀, Ext 131072 a₀ s → Ext 131072 a₀ (State.ringReplay s p r) from H s (Ext.refl _ _)
  intro a₀ h₀
  unfold State.ringReplay
  repeat' first
    | with_reducible assumption
    | (with_reducible intro _; intros; try beta_reduce)
    | ((fail_if_no_progress extract_lets +onlyGivenNames t); refine Ext.cut (M := 131072) (a := a₀) (b := t) ?_ (fun ht => ?_); rotate_left; clear_value t)
    | ((fail_if_no_progress extract_lets +onlyGivenNames u); have v : Nat := u; clear v; clear_value u)
    | ((fail_if_no_progress extract_lets +onlyGivenNames u); have v : List _ := u; clear v; clear_value u)
    | ((fail_if_no_progress extract_lets +onlyGivenNames u); have v : Option _ := u; clear v; fail_if_success (have v : Option State := u); clear_value u)
    | (fail_if_no_progress extract_lets +onlyGivenNames u)
    | with_reducible refine State.setGrp_ext (by decide) ?_
    | (with_reducible refine Ext.foldl _ ?_ ?_)
    | (with_reducible refine Ext.foldl_fst _ ?_ ?_)
    | split
    | (clear_value *; split)
    | (unfold t)
    | (unfold u; try beta_reduce)
    | (refine Ext.upd ?_ ?_ ?_ ?_ ?_ ?_ ?_ ?_ ?_ ?_ ?_ ?_ ?_ ?_ ?_ ?_ ?_ ?_ ?_ ?_ <;> first | rfl | exact fun _ => rfl | exact fun h => absurd h (by decide) | skip)

theorem State.ringSend_ext {s : State} {g : Group} {route dest : Nat} {body : List Byte} {M₀ : Nat} {a₀ : State} (hM : Within 65536 M₀) (h₀ : Ext M₀ a₀ s) :
    Ext M₀ a₀ (State.ringSend s g route dest body) := by
  refine Ext.via hM h₀ ?_
  clear hM h₀ M₀ a₀
  suffices H : ∀ a₀, Ext 65536 a₀ s → Ext 65536 a₀ (State.ringSend s g route dest body) from H s (Ext.refl _ _)
  intro a₀ h₀
  unfold State.ringSend
  repeat' first
    | with_reducible assumption
    | (with_reducible intro _; intros; try beta_reduce)
    | with_reducible refine State.sendRoute_ext (by decide) ?_
    | split

theorem State.slotUpdate_ext {s : State} {job : Nat} {M₀ : Nat} {a₀ : State} (hM : Within 4 M₀) (h₀ : Ext M₀ a₀ s) :
    Ext M₀ a₀ (State.slotUpdate s job) := by
  refine Ext.via hM h₀ ?_
  clear hM h₀ M₀ a₀
  suffices H : ∀ a₀, Ext 4 a₀ s → Ext 4 a₀ (State.slotUpdate s job) from H s (Ext.refl _ _)
  intro a₀ h₀
  unfold State.slotUpdate
  repeat' first
    | with_reducible assumption
    | (with_reducible intro _; intros; try beta_reduce)
    | ((fail_if_no_progress extract_lets +onlyGivenNames t); refine Ext.cut (M := 4) (a := a₀) (b := t) ?_ (fun ht => ?_); rotate_left; clear_value t)
    | ((fail_if_no_progress extract_lets +onlyGivenNames u); have v : Nat := u; clear v; clear_value u)
    | ((fail_if_no_progress extract_lets +onlyGivenNames u); have v : List _ := u; clear v; clear_value u)
    | ((fail_if_no_progress extract_lets +onlyGivenNames u); have v : Option _ := u; clear v; fail_if_success (have v : Option State := u); clear_value u)
    | (fail_if_no_progress extract_lets +onlyGivenNames u)
    | with_reducible refine State.put_ext (by decide) ?_
    | with_reducible refine State.putB_ext (by decide) ?_
    | (with_reducible refine Ext.foldl _ ?_ ?_)
    | (with_reducible refine Ext.foldl_fst _ ?_ ?_)
    | split
    | (clear_value *; split)
    | (unfold t)
    | (unfold u; try beta_reduce)

theorem State.noteReined_ext {s : State} {b : RingBucket} {flags : Nat} {M₀ : Nat} {a₀ : State} (hM : Within 64 M₀) (h₀ : Ext M₀ a₀ s) :
    Ext M₀ a₀ (State.noteReined s b flags) := by
  refine Ext.via hM h₀ ?_
  clear hM h₀ M₀ a₀
  suffices H : ∀ a₀, Ext 64 a₀ s → Ext 64 a₀ (State.noteReined s b flags) from H s (Ext.refl _ _)
  intro a₀ h₀
  unfold State.noteReined
  repeat' first
    | with_reducible assumption
    | (with_reducible intro _; intros; try beta_reduce)
    | with_reducible refine State.orFlags_ext (by decide) ?_
    | split

theorem State.redEvent_ext {s : State} {g : Group} {code grp : Nat} {rest : List Byte} {M₀ : Nat} {a₀ : State} (hM : Within 132 M₀) (h₀ : Ext M₀ a₀ s) :
    Ext M₀ a₀ (State.redEvent s g code grp rest) := by
  refine Ext.via hM h₀ ?_
  clear hM h₀ M₀ a₀
  suffices H : ∀ a₀, Ext 132 a₀ s → Ext 132 a₀ (State.redEvent s g code grp rest) from H s (Ext.refl _ _)
  intro a₀ h₀
  unfold State.redEvent
  repeat' first
    | with_reducible assumption
    | (with_reducible intro _; intros; try beta_reduce)
    | with_reducible refine State.event_ext (by decide) ?_
    | split

theorem State.storeChunk_ext {s : State} {a : Nat} {bs : List Byte} {M₀ : Nat} {a₀ : State} (hM : Within 52 M₀) (h₀ : Ext M₀ a₀ s) :
    Ext M₀ a₀ (State.storeChunk s a bs) := by
  refine Ext.via hM h₀ ?_
  clear hM h₀ M₀ a₀
  suffices H : ∀ a₀, Ext 52 a₀ s → Ext 52 a₀ (State.storeChunk s a bs) from H s (Ext.refl _ _)
  intro a₀ h₀
  unfold State.storeChunk
  repeat' first
    | with_reducible assumption
    | (with_reducible intro _; intros; try beta_reduce)
    | with_reducible refine State.store_ext (by decide) ?_
    | with_reducible refine State.countRemote_ext (by decide) ?_
    | split

theorem State.storeWords_ext {s : State} {a : Nat} {ws : List Word32} {M₀ : Nat} {a₀ : State} (hM : Within 52 M₀) (h₀ : Ext M₀ a₀ s) :
    Ext M₀ a₀ (State.storeWords s a ws) := by
  refine Ext.via hM h₀ ?_
  clear hM h₀ M₀ a₀
  suffices H : ∀ a₀, Ext 52 a₀ s → Ext 52 a₀ (State.storeWords s a ws) from H s (Ext.refl _ _)
  intro a₀ h₀
  unfold State.storeWords
  repeat' first
    | with_reducible assumption
    | (with_reducible intro _; intros; try beta_reduce)
    | with_reducible refine State.storeChunk_ext (by decide) ?_
    | split

theorem State.endCollective_ext {s : State} {slot result members : Nat} {M₀ : Nat} {a₀ : State} (hM : Within 64 M₀) (h₀ : Ext M₀ a₀ s) :
    Ext M₀ a₀ (State.endCollective s slot result members) := by
  refine Ext.via hM h₀ ?_
  clear hM h₀ M₀ a₀
  suffices H : ∀ a₀, Ext 64 a₀ s → Ext 64 a₀ (State.endCollective s slot result members) from H s (Ext.refl _ _)
  intro a₀ h₀
  unfold State.endCollective
  repeat' first
    | with_reducible assumption
    | (with_reducible intro _; intros; try beta_reduce)
    | with_reducible refine State.setOp_ext (by decide) ?_
    | split
    | (refine Ext.upd ?_ ?_ ?_ ?_ ?_ ?_ ?_ ?_ ?_ ?_ ?_ ?_ ?_ ?_ ?_ ?_ ?_ ?_ ?_ ?_ <;> first | rfl | exact fun _ => rfl | exact fun h => absurd h (by decide) | skip)

theorem State.tableWrite_ext {s : State} {p a : Nat} {bs : List Byte} {M₀ : Nat} {a₀ : State} (hM : Within 180 M₀) (h₀ : Ext M₀ a₀ s) :
    Ext M₀ a₀ (State.tableWrite s p a bs) := by
  refine Ext.via hM h₀ ?_
  clear hM h₀ M₀ a₀
  suffices H : ∀ a₀, Ext 180 a₀ s → Ext 180 a₀ (State.tableWrite s p a bs) from H s (Ext.refl _ _)
  intro a₀ h₀
  unfold State.tableWrite
  repeat' first
    | with_reducible assumption
    | (with_reducible intro _; intros; try beta_reduce)
    | with_reducible refine State.store_ext (by decide) ?_
    | with_reducible refine State.generic_ext (by decide) ?_
    | split

theorem State.skipAborted_ext {k : Nat} {s : State} {gid : Nat} {M₀ : Nat} {a₀ : State} (hM : Within 196608 M₀) (h₀ : Ext M₀ a₀ s) : Ext M₀ a₀ (State.skipAborted k s gid) := by
  refine Ext.via hM h₀ ?_
  clear hM h₀ M₀ a₀
  suffices H : ∀ a₀, Ext 196608 a₀ s → Ext 196608 a₀ (State.skipAborted k s gid) from H s (Ext.refl _ _)
  intro a₀ h₀
  induction k generalizing s with
  | zero => exact h₀
  | succ k ih =>
    unfold State.skipAborted
    repeat' first
      | with_reducible assumption
      | ((fail_if_no_progress extract_lets +onlyGivenNames t); refine Ext.cut (M := 196608) (a := a₀) (b := t) ?_ (fun ht => ?_); rotate_left; clear_value t)
      | (fail_if_no_progress extract_lets +onlyGivenNames u)
      | with_reducible refine ih ?_
      | with_reducible refine State.setGrp_ext (by decide) ?_
      | with_reducible refine State.ringSend_ext (by decide) ?_
      | split
      | (unfold t)

theorem State.retireBucket_ext {s : State} {gid : Nat} {g : Group} {b : RingBucket} {M₀ : Nat} {a₀ : State} (hM : Within 229622 M₀) (h₀ : Ext M₀ a₀ s) :
    Ext M₀ a₀ (State.retireBucket s gid g b) := by
  refine Ext.via hM h₀ ?_
  clear hM h₀ M₀ a₀
  suffices H : ∀ a₀, Ext 229622 a₀ s → Ext 229622 a₀ (State.retireBucket s gid g b) from H s (Ext.refl _ _)
  intro a₀ h₀
  unfold State.retireBucket
  repeat' first
    | with_reducible assumption
    | (with_reducible intro _; intros; try beta_reduce)
    | ((fail_if_no_progress extract_lets +onlyGivenNames t); refine Ext.cut (M := 229622) (a := a₀) (b := t) ?_ (fun ht => ?_); rotate_left; clear_value t)
    | ((fail_if_no_progress extract_lets +onlyGivenNames u); have v : Nat := u; clear v; clear_value u)
    | ((fail_if_no_progress extract_lets +onlyGivenNames u); have v : List _ := u; clear v; clear_value u)
    | ((fail_if_no_progress extract_lets +onlyGivenNames u); have v : Option _ := u; clear v; fail_if_success (have v : Option State := u); clear_value u)
    | (fail_if_no_progress extract_lets +onlyGivenNames u)
    | with_reducible refine State.tableWrite_ext (by decide) ?_
    | with_reducible refine State.mapBook_ext (by decide) ?_
    | with_reducible refine State.storeFree_ext (by decide) ?_
    | with_reducible refine State.setBucket_ext (by decide) ?_
    | with_reducible refine State.setGrp_ext (by decide) ?_
    | with_reducible refine State.endCollective_ext (by decide) ?_
    | with_reducible refine State.slotUpdate_ext (by decide) ?_
    | with_reducible refine State.skipAborted_ext (by decide) ?_
    | split
    | (clear_value *; split)
    | (unfold t)
    | (unfold u; try beta_reduce)
    | (refine Ext.upd ?_ ?_ ?_ ?_ ?_ ?_ ?_ ?_ ?_ ?_ ?_ ?_ ?_ ?_ ?_ ?_ ?_ ?_ ?_ ?_ <;> first | rfl | exact fun _ => rfl | exact fun h => absurd h (by decide) | skip)

theorem State.legSend_ext {s : State} {g : Group} {l : List Nat} {body : List Byte} {M₀ : Nat} {a₀ : State} (hM : Within 65536 M₀) (h₀ : Ext M₀ a₀ s) :
    Ext M₀ a₀ (State.legSend s g l body) := by
  refine Ext.via hM h₀ ?_
  clear hM h₀ M₀ a₀
  suffices H : ∀ a₀, Ext 65536 a₀ s → Ext 65536 a₀ (State.legSend s g l body) from H s (Ext.refl _ _)
  intro a₀ h₀
  unfold State.legSend
  repeat' first
    | with_reducible assumption
    | (with_reducible intro _; intros; try beta_reduce)
    | ((fail_if_no_progress extract_lets +onlyGivenNames t); refine Ext.cut (M := 65536) (a := a₀) (b := t) ?_ (fun ht => ?_); rotate_left; clear_value t)
    | ((fail_if_no_progress extract_lets +onlyGivenNames u); have v : Nat := u; clear v; clear_value u)
    | ((fail_if_no_progress extract_lets +onlyGivenNames u); have v : List _ := u; clear v; clear_value u)
    | ((fail_if_no_progress extract_lets +onlyGivenNames u); have v : Option _ := u; clear v; fail_if_success (have v : Option State := u); clear_value u)
    | (fail_if_no_progress extract_lets +onlyGivenNames u)
    | with_reducible refine State.ringSend_ext (by decide) ?_
    | split
    | (clear_value *; split)
    | (unfold t)
    | (unfold u; try beta_reduce)

theorem State.backSend_ext {s : State} {g : Group} {l : List Nat} {body : List Byte} {M₀ : Nat} {a₀ : State} (hM : Within 65536 M₀) (h₀ : Ext M₀ a₀ s) :
    Ext M₀ a₀ (State.backSend s g l body) := by
  refine Ext.via hM h₀ ?_
  clear hM h₀ M₀ a₀
  suffices H : ∀ a₀, Ext 65536 a₀ s → Ext 65536 a₀ (State.backSend s g l body) from H s (Ext.refl _ _)
  intro a₀ h₀
  unfold State.backSend
  repeat' first
    | with_reducible assumption
    | (with_reducible intro _; intros; try beta_reduce)
    | ((fail_if_no_progress extract_lets +onlyGivenNames t); refine Ext.cut (M := 65536) (a := a₀) (b := t) ?_ (fun ht => ?_); rotate_left; clear_value t)
    | ((fail_if_no_progress extract_lets +onlyGivenNames u); have v : Nat := u; clear v; clear_value u)
    | ((fail_if_no_progress extract_lets +onlyGivenNames u); have v : List _ := u; clear v; clear_value u)
    | ((fail_if_no_progress extract_lets +onlyGivenNames u); have v : Option _ := u; clear v; fail_if_success (have v : Option State := u); clear_value u)
    | (fail_if_no_progress extract_lets +onlyGivenNames u)
    | with_reducible refine State.ringSend_ext (by decide) ?_
    | split
    | (clear_value *; split)
    | (unfold t)
    | (unfold u; try beta_reduce)

theorem State.fin_ext {s : State} {gid : Nat} {M₀ : Nat} {a₀ : State} (hM : Within 229622 M₀) (h₀ : Ext M₀ a₀ s) :
    Ext M₀ a₀ (State.fin s gid) := by
  refine Ext.via hM h₀ ?_
  clear hM h₀ M₀ a₀
  suffices H : ∀ a₀, Ext 229622 a₀ s → Ext 229622 a₀ (State.fin s gid) from H s (Ext.refl _ _)
  intro a₀ h₀
  unfold State.fin
  repeat' first
    | with_reducible assumption
    | (with_reducible intro _; intros; try beta_reduce)
    | ((fail_if_no_progress extract_lets +onlyGivenNames t); refine Ext.cut (M := 229622) (a := a₀) (b := t) ?_ (fun ht => ?_); rotate_left; clear_value t)
    | ((fail_if_no_progress extract_lets +onlyGivenNames u); have v : Nat := u; clear v; clear_value u)
    | ((fail_if_no_progress extract_lets +onlyGivenNames u); have v : List _ := u; clear v; clear_value u)
    | ((fail_if_no_progress extract_lets +onlyGivenNames u); have v : Option _ := u; clear v; fail_if_success (have v : Option State := u); clear_value u)
    | (fail_if_no_progress extract_lets +onlyGivenNames u)
    | with_reducible refine State.retireBucket_ext (by decide) ?_
    | with_reducible refine State.setBucket_ext (by decide) ?_
    | with_reducible refine State.legSend_ext (by decide) ?_
    | with_reducible refine State.slotUpdate_ext (by decide) ?_
    | split
    | (clear_value *; split)
    | (unfold t)
    | (unfold u; try beta_reduce)
    | (refine Ext.upd ?_ ?_ ?_ ?_ ?_ ?_ ?_ ?_ ?_ ?_ ?_ ?_ ?_ ?_ ?_ ?_ ?_ ?_ ?_ ?_ <;> first | rfl | exact fun _ => rfl | exact fun h => absurd h (by decide) | skip)

theorem State.headersHeld_ext {s : State} {gid : Nat} {M₀ : Nat} {a₀ : State} (hM : Within 229622 M₀) (h₀ : Ext M₀ a₀ s) :
    Ext M₀ a₀ (State.headersHeld s gid) := by
  refine Ext.via hM h₀ ?_
  clear hM h₀ M₀ a₀
  suffices H : ∀ a₀, Ext 229622 a₀ s → Ext 229622 a₀ (State.headersHeld s gid) from H s (Ext.refl _ _)
  intro a₀ h₀
  unfold State.headersHeld
  repeat' first
    | with_reducible assumption
    | (with_reducible intro _; intros; try beta_reduce)
    | ((fail_if_no_progress extract_lets +onlyGivenNames t); refine Ext.cut (M := 229622) (a := a₀) (b := t) ?_ (fun ht => ?_); rotate_left; clear_value t)
    | ((fail_if_no_progress extract_lets +onlyGivenNames u); have v : Nat := u; clear v; clear_value u)
    | ((fail_if_no_progress extract_lets +onlyGivenNames u); have v : List _ := u; clear v; clear_value u)
    | ((fail_if_no_progress extract_lets +onlyGivenNames u); have v : Option _ := u; clear v; fail_if_success (have v : Option State := u); clear_value u)
    | (fail_if_no_progress extract_lets +onlyGivenNames u)
    | with_reducible refine State.fin_ext (by decide) ?_
    | with_reducible refine State.put_ext (by decide) ?_
    | with_reducible refine State.redEvent_ext (by decide) ?_
    | with_reducible refine State.mapBook_ext (by decide) ?_
    | with_reducible refine State.setBucket_ext (by decide) ?_
    | with_reducible refine State.bumpSat_ext (by decide) ?_
    | with_reducible refine State.orFlags_ext (by decide) ?_
    | (with_reducible refine Ext.foldl _ ?_ ?_)
    | (with_reducible refine Ext.foldl_fst _ ?_ ?_)
    | split
    | (clear_value *; split)
    | (unfold t)
    | (unfold u; try beta_reduce)
    | (refine Ext.upd ?_ ?_ ?_ ?_ ?_ ?_ ?_ ?_ ?_ ?_ ?_ ?_ ?_ ?_ ?_ ?_ ?_ ?_ ?_ ?_ <;> first | rfl | exact fun _ => rfl | exact fun h => absurd h (by decide) | skip)

theorem State.addHeader_ext {s : State} {gid : Nat} {h : FinalHdr} {M₀ : Nat} {a₀ : State} (hM : Within 131072 M₀) (h₀ : Ext M₀ a₀ s) :
    Ext M₀ a₀ (State.addHeader s gid h) := by
  refine Ext.via hM h₀ ?_
  clear hM h₀ M₀ a₀
  suffices H : ∀ a₀, Ext 131072 a₀ s → Ext 131072 a₀ (State.addHeader s gid h) from H s (Ext.refl _ _)
  intro a₀ h₀
  unfold State.addHeader
  repeat' first
    | with_reducible assumption
    | (with_reducible intro _; intros; try beta_reduce)
    | with_reducible refine State.setBucket_ext (by decide) ?_
    | split
    | (refine Ext.upd ?_ ?_ ?_ ?_ ?_ ?_ ?_ ?_ ?_ ?_ ?_ ?_ ?_ ?_ ?_ ?_ ?_ ?_ ?_ ?_ <;> first | rfl | exact fun _ => rfl | exact fun h => absurd h (by decide) | skip)

theorem State.addWritten_ext {s : State} {gid c : Nat} {M₀ : Nat} {a₀ : State} (hM : Within 131072 M₀) (h₀ : Ext M₀ a₀ s) :
    Ext M₀ a₀ (State.addWritten s gid c) := by
  refine Ext.via hM h₀ ?_
  clear hM h₀ M₀ a₀
  suffices H : ∀ a₀, Ext 131072 a₀ s → Ext 131072 a₀ (State.addWritten s gid c) from H s (Ext.refl _ _)
  intro a₀ h₀
  unfold State.addWritten
  repeat' first
    | with_reducible assumption
    | (with_reducible intro _; intros; try beta_reduce)
    | with_reducible refine State.setBucket_ext (by decide) ?_
    | split
    | (refine Ext.upd ?_ ?_ ?_ ?_ ?_ ?_ ?_ ?_ ?_ ?_ ?_ ?_ ?_ ?_ ?_ ?_ ?_ ?_ ?_ ?_ <;> first | rfl | exact fun _ => rfl | exact fun h => absurd h (by decide) | skip)

theorem State.tellNonfinite_ext {s : State} {gid : Nat} {g : Group} {b : RingBucket} {c : Nat} {before after : List BlkHdr} {M₀ : Nat} {a₀ : State} (hM : Within 132 M₀) (h₀ : Ext M₀ a₀ s) :
    Ext M₀ a₀ (State.tellNonfinite s gid g b c before after) := by
  refine Ext.via hM h₀ ?_
  clear hM h₀ M₀ a₀
  suffices H : ∀ a₀, Ext 132 a₀ s → Ext 132 a₀ (State.tellNonfinite s gid g b c before after) from H s (Ext.refl _ _)
  intro a₀ h₀
  unfold State.tellNonfinite
  repeat' first
    | with_reducible assumption
    | (with_reducible intro _; intros; try beta_reduce)
    | with_reducible refine State.put_ext (by decide) ?_
    | with_reducible refine State.redEvent_ext (by decide) ?_
    | split

theorem State.adderRan_ext {s : State} {n : Nat} {M₀ : Nat} {a₀ : State} (hM : Within 4 M₀) (h₀ : Ext M₀ a₀ s) :
    Ext M₀ a₀ (State.adderRan s n) := by
  refine Ext.via hM h₀ ?_
  clear hM h₀ M₀ a₀
  suffices H : ∀ a₀, Ext 4 a₀ s → Ext 4 a₀ (State.adderRan s n) from H s (Ext.refl _ _)
  intro a₀ h₀
  unfold State.adderRan
  repeat' first
    | with_reducible assumption
    | (with_reducible intro _; intros; try beta_reduce)
    | with_reducible refine State.bump_ext (by decide) ?_
    | split

theorem State.deliverTo_ext {s : State} {g : Group} {l : List Nat} {q : Nat} {body : List Byte} {M₀ : Nat} {a₀ : State} (hM : Within 65536 M₀) (h₀ : Ext M₀ a₀ s) :
    Ext M₀ a₀ (State.deliverTo s g l q body) := by
  refine Ext.via hM h₀ ?_
  clear hM h₀ M₀ a₀
  suffices H : ∀ a₀, Ext 65536 a₀ s → Ext 65536 a₀ (State.deliverTo s g l q body) from H s (Ext.refl _ _)
  intro a₀ h₀
  unfold State.deliverTo
  repeat' first
    | with_reducible assumption
    | (with_reducible intro _; intros; try beta_reduce)
    | with_reducible refine State.sendBoard_ext (by decide) ?_
    | with_reducible refine State.legSend_ext (by decide) ?_
    | with_reducible refine State.backSend_ext (by decide) ?_
    | with_reducible refine State.enqueue_ext (by decide) ?_
    | split

theorem State.finishChunk_ext {s : State} {gid : Nat} {g : Group} {b : RingBucket} {c : Nat} {x : RChunk} {M₀ : Nat} {a₀ : State} (hM : Within 229622 M₀) (h₀ : Ext M₀ a₀ s) :
    Ext M₀ a₀ (State.finishChunk s gid g b c x) := by
  refine Ext.via hM h₀ ?_
  clear hM h₀ M₀ a₀
  suffices H : ∀ a₀, Ext 229622 a₀ s → Ext 229622 a₀ (State.finishChunk s gid g b c x) from H s (Ext.refl _ _)
  intro a₀ h₀
  unfold State.finishChunk
  repeat' first
    | with_reducible assumption
    | (with_reducible intro _; intros; try beta_reduce)
    | ((fail_if_no_progress extract_lets +onlyGivenNames t); refine Ext.cut (M := 229622) (a := a₀) (b := t) ?_ (fun ht => ?_); rotate_left; clear_value t)
    | ((fail_if_no_progress extract_lets +onlyGivenNames u); have v : Nat := u; clear v; clear_value u)
    | ((fail_if_no_progress extract_lets +onlyGivenNames u); have v : List _ := u; clear v; clear_value u)
    | ((fail_if_no_progress extract_lets +onlyGivenNames u); have v : Option _ := u; clear v; fail_if_success (have v : Option State := u); clear_value u)
    | (fail_if_no_progress extract_lets +onlyGivenNames u)
    | with_reducible refine State.addHeader_ext (by decide) ?_
    | with_reducible refine State.legSend_ext (by decide) ?_
    | with_reducible refine State.redEvent_ext (by decide) ?_
    | with_reducible refine State.storeWords_ext (by decide) ?_
    | with_reducible refine State.addWritten_ext (by decide) ?_
    | with_reducible refine State.deliverTo_ext (by decide) ?_
    | with_reducible refine State.headersHeld_ext (by decide) ?_
    | with_reducible refine State.tellNonfinite_ext (by decide) ?_
    | with_reducible refine State.noteReined_ext (by decide) ?_
    | split
    | (clear_value *; split)
    | (unfold t)
    | (unfold u; try beta_reduce)
    | (refine Ext.upd ?_ ?_ ?_ ?_ ?_ ?_ ?_ ?_ ?_ ?_ ?_ ?_ ?_ ?_ ?_ ?_ ?_ ?_ ?_ ?_ <;> first | rfl | exact fun _ => rfl | exact fun h => absurd h (by decide) | skip)

theorem State.passOn_ext {s : State} {gid : Nat} {g : Group} {b : RingBucket} {l : List Nat} {c q : Nat} {x : RChunk} {M₀ : Nat} {a₀ : State} (hM : Within 65732 M₀) (h₀ : Ext M₀ a₀ s) :
    Ext M₀ a₀ (State.passOn s gid g b l c q x) := by
  refine Ext.via hM h₀ ?_
  clear hM h₀ M₀ a₀
  suffices H : ∀ a₀, Ext 65732 a₀ s → Ext 65732 a₀ (State.passOn s gid g b l c q x) from H s (Ext.refl _ _)
  intro a₀ h₀
  unfold State.passOn
  repeat' first
    | with_reducible assumption
    | (with_reducible intro _; intros; try beta_reduce)
    | ((fail_if_no_progress extract_lets +onlyGivenNames t); refine Ext.cut (M := 65732) (a := a₀) (b := t) ?_ (fun ht => ?_); rotate_left; clear_value t)
    | ((fail_if_no_progress extract_lets +onlyGivenNames u); have v : Nat := u; clear v; clear_value u)
    | ((fail_if_no_progress extract_lets +onlyGivenNames u); have v : List _ := u; clear v; clear_value u)
    | ((fail_if_no_progress extract_lets +onlyGivenNames u); have v : Option _ := u; clear v; fail_if_success (have v : Option State := u); clear_value u)
    | (fail_if_no_progress extract_lets +onlyGivenNames u)
    | with_reducible refine State.tellNonfinite_ext (by decide) ?_
    | with_reducible refine State.noteReined_ext (by decide) ?_
    | with_reducible refine State.legSend_ext (by decide) ?_
    | with_reducible refine State.enqueue_ext (by decide) ?_
    | split
    | (clear_value *; split)
    | (unfold t)
    | (unfold u; try beta_reduce)

theorem State.onward_ext {s : State} {gid : Nat} {g : Group} {b : RingBucket} {c : Nat} {second : Bool} {x : RChunk} {M₀ : Nat} {a₀ : State} (hM : Within 229622 M₀) (h₀ : Ext M₀ a₀ s) :
    Ext M₀ a₀ (State.onward s gid g b c second x) := by
  refine Ext.via hM h₀ ?_
  clear hM h₀ M₀ a₀
  suffices H : ∀ a₀, Ext 229622 a₀ s → Ext 229622 a₀ (State.onward s gid g b c second x) from H s (Ext.refl _ _)
  intro a₀ h₀
  unfold State.onward
  repeat' first
    | with_reducible assumption
    | (with_reducible intro _; intros; try beta_reduce)
    | ((fail_if_no_progress extract_lets +onlyGivenNames t); refine Ext.cut (M := 229622) (a := a₀) (b := t) ?_ (fun ht => ?_); rotate_left; clear_value t)
    | ((fail_if_no_progress extract_lets +onlyGivenNames u); have v : Nat := u; clear v; clear_value u)
    | ((fail_if_no_progress extract_lets +onlyGivenNames u); have v : List _ := u; clear v; clear_value u)
    | ((fail_if_no_progress extract_lets +onlyGivenNames u); have v : Option _ := u; clear v; fail_if_success (have v : Option State := u); clear_value u)
    | (fail_if_no_progress extract_lets +onlyGivenNames u)
    | with_reducible refine State.finishChunk_ext (by decide) ?_
    | with_reducible refine State.passOn_ext (by decide) ?_
    | with_reducible refine State.setBucket_ext (by decide) ?_
    | split
    | (clear_value *; split)
    | (unfold t)
    | (unfold u; try beta_reduce)
    | (refine Ext.upd ?_ ?_ ?_ ?_ ?_ ?_ ?_ ?_ ?_ ?_ ?_ ?_ ?_ ?_ ?_ ?_ ?_ ?_ ?_ ?_ <;> first | rfl | exact fun _ => rfl | exact fun h => absurd h (by decide) | skip)

theorem State.startChunk_ext {s : State} {gid : Nat} {g : Group} {b : RingBucket} {c : Nat} {M₀ : Nat} {a₀ : State} (hM : Within 229622 M₀) (h₀ : Ext M₀ a₀ s) :
    Ext M₀ a₀ (State.startChunk s gid g b c) := by
  refine Ext.via hM h₀ ?_
  clear hM h₀ M₀ a₀
  suffices H : ∀ a₀, Ext 229622 a₀ s → Ext 229622 a₀ (State.startChunk s gid g b c) from H s (Ext.refl _ _)
  intro a₀ h₀
  unfold State.startChunk
  repeat' first
    | with_reducible assumption
    | (with_reducible intro _; intros; try beta_reduce)
    | ((fail_if_no_progress extract_lets +onlyGivenNames t); refine Ext.cut (M := 229622) (a := a₀) (b := t) ?_ (fun ht => ?_); rotate_left; clear_value t)
    | ((fail_if_no_progress extract_lets +onlyGivenNames u); have v : Nat := u; clear v; clear_value u)
    | ((fail_if_no_progress extract_lets +onlyGivenNames u); have v : List _ := u; clear v; clear_value u)
    | ((fail_if_no_progress extract_lets +onlyGivenNames u); have v : Option _ := u; clear v; fail_if_success (have v : Option State := u); clear_value u)
    | (fail_if_no_progress extract_lets +onlyGivenNames u)
    | with_reducible refine State.adderRan_ext (by decide) ?_
    | with_reducible refine State.setBucket_ext (by decide) ?_
    | with_reducible refine State.onward_ext (by decide) ?_
    | split
    | (clear_value *; split)
    | (unfold t)
    | (unfold u; try beta_reduce)
    | (refine Ext.upd ?_ ?_ ?_ ?_ ?_ ?_ ?_ ?_ ?_ ?_ ?_ ?_ ?_ ?_ ?_ ?_ ?_ ?_ ?_ ?_ <;> first | rfl | exact fun _ => rfl | exact fun h => absurd h (by decide) | skip)

theorem State.startRaw_ext {s : State} {gid : Nat} {g : Group} {b : RingBucket} {c : Nat} {d : Int} {M₀ : Nat} {a₀ : State} (hM : Within 196724 M₀) (h₀ : Ext M₀ a₀ s) :
    Ext M₀ a₀ (State.startRaw s gid g b c d) := by
  refine Ext.via hM h₀ ?_
  clear hM h₀ M₀ a₀
  suffices H : ∀ a₀, Ext 196724 a₀ s → Ext 196724 a₀ (State.startRaw s gid g b c d) from H s (Ext.refl _ _)
  intro a₀ h₀
  unfold State.startRaw
  repeat' first
    | with_reducible assumption
    | (with_reducible intro _; intros; try beta_reduce)
    | ((fail_if_no_progress extract_lets +onlyGivenNames t); refine Ext.cut (M := 196724) (a := a₀) (b := t) ?_ (fun ht => ?_); rotate_left; clear_value t)
    | ((fail_if_no_progress extract_lets +onlyGivenNames u); have v : Nat := u; clear v; clear_value u)
    | ((fail_if_no_progress extract_lets +onlyGivenNames u); have v : List _ := u; clear v; clear_value u)
    | ((fail_if_no_progress extract_lets +onlyGivenNames u); have v : Option _ := u; clear v; fail_if_success (have v : Option State := u); clear_value u)
    | (fail_if_no_progress extract_lets +onlyGivenNames u)
    | with_reducible refine State.setBucket_ext (by decide) ?_
    | with_reducible refine State.countRemote_ext (by decide) ?_
    | with_reducible refine State.storeChunk_ext (by decide) ?_
    | with_reducible refine State.addWritten_ext (by decide) ?_
    | with_reducible refine State.noteReined_ext (by decide) ?_
    | with_reducible refine State.legSend_ext (by decide) ?_
    | split
    | (clear_value *; split)
    | (unfold t)
    | (unfold u; try beta_reduce)
    | (refine Ext.upd ?_ ?_ ?_ ?_ ?_ ?_ ?_ ?_ ?_ ?_ ?_ ?_ ?_ ?_ ?_ ?_ ?_ ?_ ?_ ?_ <;> first | rfl | exact fun _ => rfl | exact fun h => absurd h (by decide) | skip)

theorem State.startAll_ext {s : State} {gid : Nat} {M₀ : Nat} {a₀ : State} (hM : Within 229622 M₀) (h₀ : Ext M₀ a₀ s) :
    Ext M₀ a₀ (State.startAll s gid) := by
  refine Ext.via hM h₀ ?_
  clear hM h₀ M₀ a₀
  suffices H : ∀ a₀, Ext 229622 a₀ s → Ext 229622 a₀ (State.startAll s gid) from H s (Ext.refl _ _)
  intro a₀ h₀
  unfold State.startAll
  repeat' first
    | with_reducible assumption
    | (with_reducible intro _; intros; try beta_reduce)
    | ((fail_if_no_progress extract_lets +onlyGivenNames t); refine Ext.cut (M := 229622) (a := a₀) (b := t) ?_ (fun ht => ?_); rotate_left; clear_value t)
    | ((fail_if_no_progress extract_lets +onlyGivenNames u); have v : Nat := u; clear v; clear_value u)
    | ((fail_if_no_progress extract_lets +onlyGivenNames u); have v : List _ := u; clear v; clear_value u)
    | ((fail_if_no_progress extract_lets +onlyGivenNames u); have v : Option _ := u; clear v; fail_if_success (have v : Option State := u); clear_value u)
    | (fail_if_no_progress extract_lets +onlyGivenNames u)
    | with_reducible refine State.startRaw_ext (by decide) ?_
    | with_reducible refine State.startChunk_ext (by decide) ?_
    | with_reducible refine State.fin_ext (by decide) ?_
    | (with_reducible refine Ext.foldl _ ?_ ?_)
    | (with_reducible refine Ext.foldl_fst _ ?_ ?_)
    | split
    | (clear_value *; split)
    | (unfold t)
    | (unfold u; try beta_reduce)

end Sys2Proof.Machine
end

