-- ==== Sys2Proof/Laws/ExtRing.lean ====
section
/-!
SUPPORT. What each operation of Machine/Ring.lean can change: one lemma each.
-/
namespace Sys2Proof.Machine

theorem State.ringFatal_ext {s : State} {gid : Nat} {M₀ : Nat} {a₀ : State} (hM : Within 196804 M₀) (h₀ : Ext M₀ a₀ s) :
    Ext M₀ a₀ (State.ringFatal s gid) := by
  refine Ext.via hM h₀ ?_
  clear hM h₀ M₀ a₀
  suffices H : ∀ a₀, Ext 196804 a₀ s → Ext 196804 a₀ (State.ringFatal s gid) from H s (Ext.refl _ _)
  intro a₀ h₀
  unfold State.ringFatal
  repeat' first
    | with_reducible assumption
    | (with_reducible intro _; intros; try beta_reduce)
    | ((fail_if_no_progress extract_lets +onlyGivenNames t); refine Ext.cut (M := 196804) (a := a₀) (b := t) ?_ (fun ht => ?_); rotate_left; clear_value t)
    | ((fail_if_no_progress extract_lets +onlyGivenNames u); have v : Nat := u; clear v; clear_value u)
    | ((fail_if_no_progress extract_lets +onlyGivenNames u); have v : List _ := u; clear v; clear_value u)
    | ((fail_if_no_progress extract_lets +onlyGivenNames u); have v : Option _ := u; clear v; fail_if_success (have v : Option State := u); clear_value u)
    | (fail_if_no_progress extract_lets +onlyGivenNames u)
    | with_reducible refine State.setBucket_ext (by decide) ?_
    | with_reducible refine State.endCollective_ext (by decide) ?_
    | with_reducible refine State.setGrp_ext (by decide) ?_
    | with_reducible refine State.slotUpdate_ext (by decide) ?_
    | with_reducible refine State.put_ext (by decide) ?_
    | with_reducible refine State.redEvent_ext (by decide) ?_
    | with_reducible refine State.backSend_ext (by decide) ?_
    | split
    | (clear_value *; split)
    | (unfold t)
    | (unfold u; try beta_reduce)
    | (refine Ext.upd ?_ ?_ ?_ ?_ ?_ ?_ ?_ ?_ ?_ ?_ ?_ ?_ ?_ ?_ ?_ ?_ ?_ ?_ ?_ ?_ <;> first | rfl | exact fun _ => rfl | exact fun h => absurd h (by decide) | skip)

theorem State.applyLoss_ext {s : State} {gid pos scope step bseq : Nat} {M₀ : Nat} {a₀ : State} (hM : Within 131204 M₀) (h₀ : Ext M₀ a₀ s) :
    Ext M₀ a₀ (State.applyLoss s gid pos scope step bseq) := by
  refine Ext.via hM h₀ ?_
  clear hM h₀ M₀ a₀
  suffices H : ∀ a₀, Ext 131204 a₀ s → Ext 131204 a₀ (State.applyLoss s gid pos scope step bseq) from H s (Ext.refl _ _)
  intro a₀ h₀
  unfold State.applyLoss
  repeat' first
    | with_reducible assumption
    | (with_reducible intro _; intros; try beta_reduce)
    | ((fail_if_no_progress extract_lets +onlyGivenNames t); refine Ext.cut (M := 131204) (a := a₀) (b := t) ?_ (fun ht => ?_); rotate_left; clear_value t)
    | ((fail_if_no_progress extract_lets +onlyGivenNames u); have v : Nat := u; clear v; clear_value u)
    | ((fail_if_no_progress extract_lets +onlyGivenNames u); have v : List _ := u; clear v; clear_value u)
    | ((fail_if_no_progress extract_lets +onlyGivenNames u); have v : Option _ := u; clear v; fail_if_success (have v : Option State := u); clear_value u)
    | (fail_if_no_progress extract_lets +onlyGivenNames u)
    | with_reducible refine State.setGrp_ext (by decide) ?_
    | with_reducible refine State.redEvent_ext (by decide) ?_
    | split
    | (clear_value *; split)
    | (unfold t)
    | (unfold u; try beta_reduce)
    | (refine Ext.upd ?_ ?_ ?_ ?_ ?_ ?_ ?_ ?_ ?_ ?_ ?_ ?_ ?_ ?_ ?_ ?_ ?_ ?_ ?_ ?_ <;> first | rfl | exact fun _ => rfl | exact fun h => absurd h (by decide) | skip)

theorem State.restart_ext {s : State} {gid pos scope epoch : Nat} {M₀ : Nat} {a₀ : State} (hM : Within 229622 M₀) (h₀ : Ext M₀ a₀ s) :
    Ext M₀ a₀ (State.restart s gid pos scope epoch) := by
  refine Ext.via hM h₀ ?_
  clear hM h₀ M₀ a₀
  suffices H : ∀ a₀, Ext 229622 a₀ s → Ext 229622 a₀ (State.restart s gid pos scope epoch) from H s (Ext.refl _ _)
  intro a₀ h₀
  unfold State.restart
  repeat' first
    | with_reducible assumption
    | (with_reducible intro _; intros; try beta_reduce)
    | ((fail_if_no_progress extract_lets +onlyGivenNames t); refine Ext.cut (M := 229622) (a := a₀) (b := t) ?_ (fun ht => ?_); rotate_left; clear_value t)
    | ((fail_if_no_progress extract_lets +onlyGivenNames u); have v : Nat := u; clear v; clear_value u)
    | ((fail_if_no_progress extract_lets +onlyGivenNames u); have v : List _ := u; clear v; clear_value u)
    | ((fail_if_no_progress extract_lets +onlyGivenNames u); have v : Option _ := u; clear v; fail_if_success (have v : Option State := u); clear_value u)
    | (fail_if_no_progress extract_lets +onlyGivenNames u)
    | with_reducible refine State.applyLoss_ext (by decide) ?_
    | with_reducible refine State.setBucket_ext (by decide) ?_
    | with_reducible refine State.put_ext (by decide) ?_
    | with_reducible refine State.bumpSat_ext (by decide) ?_
    | with_reducible refine State.redEvent_ext (by decide) ?_
    | with_reducible refine State.backSend_ext (by decide) ?_
    | with_reducible refine State.slotUpdate_ext (by decide) ?_
    | with_reducible refine State.startAll_ext (by decide) ?_
    | split
    | (clear_value *; split)
    | (unfold t)
    | (unfold u; try beta_reduce)
    | (refine Ext.upd ?_ ?_ ?_ ?_ ?_ ?_ ?_ ?_ ?_ ?_ ?_ ?_ ?_ ?_ ?_ ?_ ?_ ?_ ?_ ?_ <;> first | rfl | exact fun _ => rfl | exact fun h => absurd h (by decide) | skip)

theorem State.report_ext {s : State} {gid pos scope : Nat} {M₀ : Nat} {a₀ : State} (hM : Within 229622 M₀) (h₀ : Ext M₀ a₀ s) :
    Ext M₀ a₀ (State.report s gid pos scope) := by
  refine Ext.via hM h₀ ?_
  clear hM h₀ M₀ a₀
  suffices H : ∀ a₀, Ext 229622 a₀ s → Ext 229622 a₀ (State.report s gid pos scope) from H s (Ext.refl _ _)
  intro a₀ h₀
  unfold State.report
  repeat' first
    | with_reducible assumption
    | (with_reducible intro _; intros; try beta_reduce)
    | ((fail_if_no_progress extract_lets +onlyGivenNames t); refine Ext.cut (M := 229622) (a := a₀) (b := t) ?_ (fun ht => ?_); rotate_left; clear_value t)
    | ((fail_if_no_progress extract_lets +onlyGivenNames F); refine Ext.cutF (M := 229622) (a := a₀) (F := F) ?_ (fun hF => ?_); rotate_left; clear_value F)
    | with_reducible refine hF _ ?_
    | ((fail_if_no_progress extract_lets +onlyGivenNames G); refine Ext.cutG (M := 229622) (a := a₀) (F := G) ?_ (fun hG => ?_); rotate_left; clear_value G)
    | with_reducible refine hG _ _ ?_
    | ((fail_if_no_progress extract_lets +onlyGivenNames H); refine Ext.cutH (M := 229622) (a := a₀) (F := H) ?_ (fun hH => ?_); rotate_left; clear_value H)
    | with_reducible refine hH _ _ _ ?_
    | ((fail_if_no_progress extract_lets +onlyGivenNames u); have v : Nat := u; clear v; clear_value u)
    | ((fail_if_no_progress extract_lets +onlyGivenNames u); have v : List _ := u; clear v; clear_value u)
    | ((fail_if_no_progress extract_lets +onlyGivenNames u); have v : Option _ := u; clear v; fail_if_success (have v : Option State := u); clear_value u)
    | (fail_if_no_progress extract_lets +onlyGivenNames u)
    | with_reducible refine State.ringFatal_ext (by decide) ?_
    | with_reducible refine State.legSend_ext (by decide) ?_
    | with_reducible refine State.applyLoss_ext (by decide) ?_
    | with_reducible refine State.setBucket_ext (by decide) ?_
    | with_reducible refine State.slotUpdate_ext (by decide) ?_
    | with_reducible refine State.backSend_ext (by decide) ?_
    | with_reducible refine State.restart_ext (by decide) ?_
    | split
    | (clear_value *; split)
    | (unfold t)
    | (unfold u; try beta_reduce)
    | (unfold F; try beta_reduce)
    | (unfold G; try beta_reduce)
    | (unfold H; try beta_reduce)
    | (refine Ext.upd ?_ ?_ ?_ ?_ ?_ ?_ ?_ ?_ ?_ ?_ ?_ ?_ ?_ ?_ ?_ ?_ ?_ ?_ ?_ ?_ <;> first | rfl | exact fun _ => rfl | exact fun h => absurd h (by decide) | skip)

theorem State.dropSelf_ext {s : State} {gid step : Nat} {M₀ : Nat} {a₀ : State} (hM : Within 131268 M₀) (h₀ : Ext M₀ a₀ s) :
    Ext M₀ a₀ (State.dropSelf s gid step) := by
  refine Ext.via hM h₀ ?_
  clear hM h₀ M₀ a₀
  suffices H : ∀ a₀, Ext 131268 a₀ s → Ext 131268 a₀ (State.dropSelf s gid step) from H s (Ext.refl _ _)
  intro a₀ h₀
  unfold State.dropSelf
  repeat' first
    | with_reducible assumption
    | (with_reducible intro _; intros; try beta_reduce)
    | ((fail_if_no_progress extract_lets +onlyGivenNames t); refine Ext.cut (M := 131268) (a := a₀) (b := t) ?_ (fun ht => ?_); rotate_left; clear_value t)
    | ((fail_if_no_progress extract_lets +onlyGivenNames u); have v : Nat := u; clear v; clear_value u)
    | ((fail_if_no_progress extract_lets +onlyGivenNames u); have v : List _ := u; clear v; clear_value u)
    | ((fail_if_no_progress extract_lets +onlyGivenNames u); have v : Option _ := u; clear v; fail_if_success (have v : Option State := u); clear_value u)
    | (fail_if_no_progress extract_lets +onlyGivenNames u)
    | with_reducible refine State.setGrp_ext (by decide) ?_
    | with_reducible refine State.setBucket_ext (by decide) ?_
    | with_reducible refine State.endCollective_ext (by decide) ?_
    | with_reducible refine State.put_ext (by decide) ?_
    | with_reducible refine State.redEvent_ext (by decide) ?_
    | with_reducible refine State.slotUpdate_ext (by decide) ?_
    | split
    | (clear_value *; split)
    | (unfold t)
    | (unfold u; try beta_reduce)
    | (refine Ext.upd ?_ ?_ ?_ ?_ ?_ ?_ ?_ ?_ ?_ ?_ ?_ ?_ ?_ ?_ ?_ ?_ ?_ ?_ ?_ ?_ <;> first | rfl | exact fun _ => rfl | exact fun h => absurd h (by decide) | skip)

theorem State.ringAbort_ext {s : State} {slot : Nat} {M₀ : Nat} {a₀ : State} (hM : Within 196854 M₀) (h₀ : Ext M₀ a₀ s) :
    Ext M₀ a₀ (State.ringAbort s slot) := by
  refine Ext.via hM h₀ ?_
  clear hM h₀ M₀ a₀
  suffices H : ∀ a₀, Ext 196854 a₀ s → Ext 196854 a₀ (State.ringAbort s slot) from H s (Ext.refl _ _)
  intro a₀ h₀
  unfold State.ringAbort
  repeat' first
    | with_reducible assumption
    | (with_reducible intro _; intros; try beta_reduce)
    | ((fail_if_no_progress extract_lets +onlyGivenNames t); refine Ext.cut (M := 196854) (a := a₀) (b := t) ?_ (fun ht => ?_); rotate_left; clear_value t)
    | ((fail_if_no_progress extract_lets +onlyGivenNames u); have v : Nat := u; clear v; clear_value u)
    | ((fail_if_no_progress extract_lets +onlyGivenNames u); have v : List _ := u; clear v; clear_value u)
    | ((fail_if_no_progress extract_lets +onlyGivenNames u); have v : Option _ := u; clear v; fail_if_success (have v : Option State := u); clear_value u)
    | (fail_if_no_progress extract_lets +onlyGivenNames u)
    | with_reducible refine State.applyLoss_ext (by decide) ?_
    | with_reducible refine State.ringSend_ext (by decide) ?_
    | with_reducible refine State.ringFatal_ext (by decide) ?_
    | with_reducible refine State.storeFree_ext (by decide) ?_
    | with_reducible refine State.setOp_ext (by decide) ?_
    | with_reducible refine State.setBucket_ext (by decide) ?_
    | with_reducible refine State.slotUpdate_ext (by decide) ?_
    | (with_reducible refine Ext.foldl _ ?_ ?_)
    | (with_reducible refine Ext.foldl_fst _ ?_ ?_)
    | split
    | (clear_value *; split)
    | (unfold t)
    | (unfold u; try beta_reduce)
    | (refine Ext.upd ?_ ?_ ?_ ?_ ?_ ?_ ?_ ?_ ?_ ?_ ?_ ?_ ?_ ?_ ?_ ?_ ?_ ?_ ?_ ?_ <;> first | rfl | exact fun _ => rfl | exact fun h => absurd h (by decide) | skip)

theorem State.ringAbortUnissued_ext {s : State} {admitNo gid : Nat} {M₀ : Nat} {a₀ : State} (hM : Within 196608 M₀) (h₀ : Ext M₀ a₀ s) :
    Ext M₀ a₀ (State.ringAbortUnissued s admitNo gid) := by
  refine Ext.via hM h₀ ?_
  clear hM h₀ M₀ a₀
  suffices H : ∀ a₀, Ext 196608 a₀ s → Ext 196608 a₀ (State.ringAbortUnissued s admitNo gid) from H s (Ext.refl _ _)
  intro a₀ h₀
  unfold State.ringAbortUnissued
  repeat' first
    | with_reducible assumption
    | (with_reducible intro _; intros; try beta_reduce)
    | ((fail_if_no_progress extract_lets +onlyGivenNames t); refine Ext.cut (M := 196608) (a := a₀) (b := t) ?_ (fun ht => ?_); rotate_left; clear_value t)
    | ((fail_if_no_progress extract_lets +onlyGivenNames u); have v : Nat := u; clear v; clear_value u)
    | ((fail_if_no_progress extract_lets +onlyGivenNames u); have v : List _ := u; clear v; clear_value u)
    | ((fail_if_no_progress extract_lets +onlyGivenNames u); have v : Option _ := u; clear v; fail_if_success (have v : Option State := u); clear_value u)
    | (fail_if_no_progress extract_lets +onlyGivenNames u)
    | with_reducible refine State.setGrp_ext (by decide) ?_
    | with_reducible refine State.skipAborted_ext (by decide) ?_
    | split
    | (clear_value *; split)
    | (unfold t)
    | (unfold u; try beta_reduce)
    | (refine Ext.upd ?_ ?_ ?_ ?_ ?_ ?_ ?_ ?_ ?_ ?_ ?_ ?_ ?_ ?_ ?_ ?_ ?_ ?_ ?_ ?_ <;> first | rfl | exact fun _ => rfl | exact fun h => absurd h (by decide) | skip)

theorem State.enterBucket_ext {s : State} {gid : Nat} {o : Op} {g : Group} {b : RingBucket} {M₀ : Nat} {a₀ : State} (hM : Within 229572 M₀) (h₀ : Ext M₀ a₀ s) :
    Ext M₀ a₀ (State.enterBucket s gid o g b) := by
  refine Ext.via hM h₀ ?_
  clear hM h₀ M₀ a₀
  suffices H : ∀ a₀, Ext 229572 a₀ s → Ext 229572 a₀ (State.enterBucket s gid o g b) from H s (Ext.refl _ _)
  intro a₀ h₀
  unfold State.enterBucket
  repeat' first
    | with_reducible assumption
    | (with_reducible intro _; intros; try beta_reduce)
    | ((fail_if_no_progress extract_lets +onlyGivenNames t); refine Ext.cut (M := 229572) (a := a₀) (b := t) ?_ (fun ht => ?_); rotate_left; clear_value t)
    | ((fail_if_no_progress extract_lets +onlyGivenNames u); have v : Nat := u; clear v; clear_value u)
    | ((fail_if_no_progress extract_lets +onlyGivenNames u); have v : List _ := u; clear v; clear_value u)
    | ((fail_if_no_progress extract_lets +onlyGivenNames u); have v : Option _ := u; clear v; fail_if_success (have v : Option State := u); clear_value u)
    | (fail_if_no_progress extract_lets +onlyGivenNames u)
    | with_reducible refine State.setBucket_ext (by decide) ?_
    | with_reducible refine State.put_ext (by decide) ?_
    | with_reducible refine State.mapBook_ext (by decide) ?_
    | with_reducible refine State.bumpSat_ext (by decide) ?_
    | with_reducible refine State.orFlags_ext (by decide) ?_
    | with_reducible refine State.redEvent_ext (by decide) ?_
    | with_reducible refine State.backSend_ext (by decide) ?_
    | split
    | (clear_value *; split)
    | (unfold t)
    | (unfold u; try beta_reduce)
    | (refine Ext.upd ?_ ?_ ?_ ?_ ?_ ?_ ?_ ?_ ?_ ?_ ?_ ?_ ?_ ?_ ?_ ?_ ?_ ?_ ?_ ?_ <;> first | rfl | exact fun _ => rfl | exact fun h => absurd h (by decide) | skip)

theorem State.issueCollective_ext {s : State} {slot kind : Nat} {M₀ : Nat} {a₀ : State} (hM : Within 229622 M₀) (h₀ : Ext M₀ a₀ s) :
    Ext M₀ a₀ (State.issueCollective s slot kind) := by
  refine Ext.via hM h₀ ?_
  clear hM h₀ M₀ a₀
  suffices H : ∀ a₀, Ext 229622 a₀ s → Ext 229622 a₀ (State.issueCollective s slot kind) from H s (Ext.refl _ _)
  intro a₀ h₀
  unfold State.issueCollective
  repeat' first
    | with_reducible assumption
    | (with_reducible intro _; intros; try beta_reduce)
    | ((fail_if_no_progress extract_lets +onlyGivenNames t); refine Ext.cut (M := 229622) (a := a₀) (b := t) ?_ (fun ht => ?_); rotate_left; clear_value t)
    | ((fail_if_no_progress extract_lets +onlyGivenNames u); have v : Nat := u; clear v; clear_value u)
    | ((fail_if_no_progress extract_lets +onlyGivenNames u); have v : List _ := u; clear v; clear_value u)
    | ((fail_if_no_progress extract_lets +onlyGivenNames u); have v : Option _ := u; clear v; fail_if_success (have v : Option State := u); clear_value u)
    | (fail_if_no_progress extract_lets +onlyGivenNames u)
    | with_reducible refine State.issue_ext (by decide) ?_
    | with_reducible refine State.endCollective_ext (by decide) ?_
    | with_reducible refine State.setGrp_ext (by decide) ?_
    | with_reducible refine State.enterBucket_ext (by decide) ?_
    | with_reducible refine State.slotUpdate_ext (by decide) ?_
    | with_reducible refine State.startAll_ext (by decide) ?_
    | split
    | (clear_value *; split)
    | (unfold t)
    | (unfold u; try beta_reduce)
    | (refine Ext.upd ?_ ?_ ?_ ?_ ?_ ?_ ?_ ?_ ?_ ?_ ?_ ?_ ?_ ?_ ?_ ?_ ?_ ?_ ?_ ?_ <;> first | rfl | exact fun _ => rfl | exact fun h => absurd h (by decide) | skip)

theorem opReduceScatter_ext {slot : Nat} {s : State} {M₀ : Nat} {a₀ : State} (hM : Within 229622 M₀) (h₀ : Ext M₀ a₀ s) :
    Ext M₀ a₀ (opReduceScatter slot s) := by
  refine Ext.via hM h₀ ?_
  clear hM h₀ M₀ a₀
  suffices H : ∀ a₀, Ext 229622 a₀ s → Ext 229622 a₀ (opReduceScatter slot s) from H s (Ext.refl _ _)
  intro a₀ h₀
  unfold opReduceScatter
  repeat' first
    | with_reducible assumption
    | (with_reducible intro _; intros; try beta_reduce)
    | with_reducible refine State.issueCollective_ext (by decide) ?_
    | split

theorem opAllGather_ext {slot : Nat} {s : State} {M₀ : Nat} {a₀ : State} (hM : Within 229622 M₀) (h₀ : Ext M₀ a₀ s) :
    Ext M₀ a₀ (opAllGather slot s) := by
  refine Ext.via hM h₀ ?_
  clear hM h₀ M₀ a₀
  suffices H : ∀ a₀, Ext 229622 a₀ s → Ext 229622 a₀ (opAllGather slot s) from H s (Ext.refl _ _)
  intro a₀ h₀
  unfold opAllGather
  repeat' first
    | with_reducible assumption
    | (with_reducible intro _; intros; try beta_reduce)
    | with_reducible refine State.issueCollective_ext (by decide) ?_
    | split

theorem opAllReduce_ext {slot : Nat} {s : State} {M₀ : Nat} {a₀ : State} (hM : Within 229622 M₀) (h₀ : Ext M₀ a₀ s) :
    Ext M₀ a₀ (opAllReduce slot s) := by
  refine Ext.via hM h₀ ?_
  clear hM h₀ M₀ a₀
  suffices H : ∀ a₀, Ext 229622 a₀ s → Ext 229622 a₀ (opAllReduce slot s) from H s (Ext.refl _ _)
  intro a₀ h₀
  unfold opAllReduce
  repeat' first
    | with_reducible assumption
    | (with_reducible intro _; intros; try beta_reduce)
    | with_reducible refine State.issueCollective_ext (by decide) ?_
    | split

theorem adderStage_ext {n : Nat} {s : State} {M₀ : Nat} {a₀ : State} (hM : Within 229622 M₀) (h₀ : Ext M₀ a₀ s) :
    Ext M₀ a₀ (adderStage n s) := by
  refine Ext.via hM h₀ ?_
  clear hM h₀ M₀ a₀
  suffices H : ∀ a₀, Ext 229622 a₀ s → Ext 229622 a₀ (adderStage n s) from H s (Ext.refl _ _)
  intro a₀ h₀
  unfold adderStage
  repeat' first
    | with_reducible assumption
    | (with_reducible intro _; intros; try beta_reduce)
    | ((fail_if_no_progress extract_lets +onlyGivenNames t); refine Ext.cut (M := 229622) (a := a₀) (b := t) ?_ (fun ht => ?_); rotate_left; clear_value t)
    | ((fail_if_no_progress extract_lets +onlyGivenNames u); have v : Nat := u; clear v; clear_value u)
    | ((fail_if_no_progress extract_lets +onlyGivenNames u); have v : List _ := u; clear v; clear_value u)
    | ((fail_if_no_progress extract_lets +onlyGivenNames u); have v : Option _ := u; clear v; fail_if_success (have v : Option State := u); clear_value u)
    | (fail_if_no_progress extract_lets +onlyGivenNames u)
    | with_reducible refine State.setBucket_ext (by decide) ?_
    | with_reducible refine State.countRemote_ext (by decide) ?_
    | with_reducible refine State.startAll_ext (by decide) ?_
    | (with_reducible refine Ext.foldl _ ?_ ?_)
    | (with_reducible refine Ext.foldl_fst _ ?_ ?_)
    | split
    | (clear_value *; split)
    | (unfold t)
    | (unfold u; try beta_reduce)
    | (refine Ext.upd ?_ ?_ ?_ ?_ ?_ ?_ ?_ ?_ ?_ ?_ ?_ ?_ ?_ ?_ ?_ ?_ ?_ ?_ ?_ ?_ <;> first | rfl | exact fun _ => rfl | exact fun h => absurd h (by decide) | skip)

theorem State.dropStale_ext {s : State} {n i : Nat} {g : Group} {M₀ : Nat} {a₀ : State} (hM : Within 65540 M₀) (h₀ : Ext M₀ a₀ s) :
    Ext M₀ a₀ (State.dropStale s n i g) := by
  refine Ext.via hM h₀ ?_
  clear hM h₀ M₀ a₀
  suffices H : ∀ a₀, Ext 65540 a₀ s → Ext 65540 a₀ (State.dropStale s n i g) from H s (Ext.refl _ _)
  intro a₀ h₀
  unfold State.dropStale
  repeat' first
    | with_reducible assumption
    | (with_reducible intro _; intros; try beta_reduce)
    | with_reducible refine State.consumeRx_ext (by decide) ?_
    | with_reducible refine State.bumpSat_ext (by decide) ?_
    | split

theorem State.dropForeign_ext {s : State} {n phase : Nat} {M₀ : Nat} {a₀ : State} (hM : Within 65668 M₀) (h₀ : Ext M₀ a₀ s) :
    Ext M₀ a₀ (State.dropForeign s n phase) := by
  refine Ext.via hM h₀ ?_
  clear hM h₀ M₀ a₀
  suffices H : ∀ a₀, Ext 65668 a₀ s → Ext 65668 a₀ (State.dropForeign s n phase) from H s (Ext.refl _ _)
  intro a₀ h₀
  unfold State.dropForeign
  repeat' first
    | with_reducible assumption
    | (with_reducible intro _; intros; try beta_reduce)
    | with_reducible refine State.dropPacket_ext (by decide) ?_
    | split

theorem State.onChunk_ext {s : State} {n phase : Nat} {f : Nat → Packet → RingHdr → Group → RingBucket → State} {M₀ : Nat} {a₀ : State} (hM : Within 65668 M₀) (h₀ : Ext M₀ a₀ s)
    (hf : ∀ i p h g b, Ext M₀ a₀ (f i p h g b)) : Ext M₀ a₀ (s.onChunk n phase f) := by
  have hc : Within 65536 M₀ := Within.trans (by decide) hM
  have hd : Within 65540 M₀ := Within.trans (by decide) hM
  unfold State.onChunk
  repeat' first
    | with_reducible assumption
    | exact hf _ _ _ _ _
    | exact State.consumeRx_ext hc h₀
    | exact State.dropStale_ext hd h₀
    | exact State.dropForeign_ext (Within.trans (by decide) hM) h₀
    | split

theorem State.onMarker_ext {s : State} {n phase : Nat} {f : State → RingHdr → Group → State} {M₀ : Nat} {a₀ : State} (hM : Within 65668 M₀) (h₀ : Ext M₀ a₀ s)
    (hf : ∀ t h g, Ext M₀ a₀ t → Ext M₀ a₀ (f t h g)) : Ext M₀ a₀ (s.onMarker n phase f) := by
  have hc : ∀ i, Ext M₀ a₀ (s.consumeRx n i) := fun i => State.consumeRx_ext (Within.trans (by decide) hM) h₀
  unfold State.onMarker
  split
  · exact h₀
  split
  · exact State.dropForeign_ext (Within.trans (by decide) hM) h₀
  · split
    · exact hc _
    · exact hf _ _ _ (hc _)

theorem ringEntryMarker_ext {n : Nat} {s : State} {M₀ : Nat} {a₀ : State} (hM : Within 229622 M₀) (h₀ : Ext M₀ a₀ s) :
    Ext M₀ a₀ (ringEntryMarker n s) := by
  refine Ext.via hM h₀ ?_
  clear hM h₀ M₀ a₀
  suffices H : ∀ a₀, Ext 229622 a₀ s → Ext 229622 a₀ (ringEntryMarker n s) from H s (Ext.refl _ _)
  intro a₀ h₀
  unfold ringEntryMarker
  repeat' first
    | with_reducible assumption
    | (with_reducible intro _; intros; try beta_reduce)
    | ((fail_if_no_progress extract_lets +onlyGivenNames t); refine Ext.cut (M := 229622) (a := a₀) (b := t) ?_ (fun ht => ?_); rotate_left; clear_value t)
    | ((fail_if_no_progress extract_lets +onlyGivenNames u); have v : Nat := u; clear v; clear_value u)
    | ((fail_if_no_progress extract_lets +onlyGivenNames u); have v : List _ := u; clear v; clear_value u)
    | ((fail_if_no_progress extract_lets +onlyGivenNames u); have v : Option _ := u; clear v; fail_if_success (have v : Option State := u); clear_value u)
    | (fail_if_no_progress extract_lets +onlyGivenNames u)
    | with_reducible refine State.onMarker_ext (by decide) ?_ ?_
    | with_reducible refine State.setGrp_ext (by decide) ?_
    | with_reducible refine State.setBucket_ext (by decide) ?_
    | with_reducible refine State.startAll_ext (by decide) ?_
    | split
    | (clear_value *; split)
    | (unfold t)
    | (unfold u; try beta_reduce)
    | (refine Ext.upd ?_ ?_ ?_ ?_ ?_ ?_ ?_ ?_ ?_ ?_ ?_ ?_ ?_ ?_ ?_ ?_ ?_ ?_ ?_ ?_ <;> first | rfl | exact fun _ => rfl | exact fun h => absurd h (by decide) | skip)

theorem ringFold_ext {n : Nat} {s : State} {M₀ : Nat} {a₀ : State} (hM : Within 229622 M₀) (h₀ : Ext M₀ a₀ s) :
    Ext M₀ a₀ (ringFold n s) := by
  refine Ext.via hM h₀ ?_
  clear hM h₀ M₀ a₀
  suffices H : ∀ a₀, Ext 229622 a₀ s → Ext 229622 a₀ (ringFold n s) from H s (Ext.refl _ _)
  intro a₀ h₀
  unfold ringFold
  repeat' first
    | with_reducible assumption
    | (with_reducible intro _; intros; try beta_reduce)
    | ((fail_if_no_progress extract_lets +onlyGivenNames t); refine Ext.cut (M := 229622) (a := a₀) (b := t) ?_ (fun ht => ?_); rotate_left; clear_value t)
    | ((fail_if_no_progress extract_lets +onlyGivenNames u); have v : Nat := u; clear v; clear_value u)
    | ((fail_if_no_progress extract_lets +onlyGivenNames u); have v : List _ := u; clear v; clear_value u)
    | ((fail_if_no_progress extract_lets +onlyGivenNames u); have v : Option _ := u; clear v; fail_if_success (have v : Option State := u); clear_value u)
    | (fail_if_no_progress extract_lets +onlyGivenNames u)
    | with_reducible refine State.onChunk_ext (by decide) ?_ ?_
    | with_reducible refine State.bump_ext (by decide) ?_
    | with_reducible refine State.consumeRx_ext (by decide) ?_
    | with_reducible refine State.setBucket_ext (by decide) ?_
    | with_reducible refine State.adderRan_ext (by decide) ?_
    | with_reducible refine State.noteReined_ext (by decide) ?_
    | with_reducible refine State.put_ext (by decide) ?_
    | with_reducible refine State.redEvent_ext (by decide) ?_
    | with_reducible refine State.onward_ext (by decide) ?_
    | split
    | (clear_value *; split)
    | (unfold t)
    | (unfold u; try beta_reduce)
    | (refine Ext.upd ?_ ?_ ?_ ?_ ?_ ?_ ?_ ?_ ?_ ?_ ?_ ?_ ?_ ?_ ?_ ?_ ?_ ?_ ?_ ?_ <;> first | rfl | exact fun _ => rfl | exact fun h => absurd h (by decide) | skip)

theorem ringGather_ext {n : Nat} {s : State} {M₀ : Nat} {a₀ : State} (hM : Within 229622 M₀) (h₀ : Ext M₀ a₀ s) :
    Ext M₀ a₀ (ringGather n s) := by
  refine Ext.via hM h₀ ?_
  clear hM h₀ M₀ a₀
  suffices H : ∀ a₀, Ext 229622 a₀ s → Ext 229622 a₀ (ringGather n s) from H s (Ext.refl _ _)
  intro a₀ h₀
  unfold ringGather
  repeat' first
    | with_reducible assumption
    | (with_reducible intro _; intros; try beta_reduce)
    | ((fail_if_no_progress extract_lets +onlyGivenNames t); refine Ext.cut (M := 229622) (a := a₀) (b := t) ?_ (fun ht => ?_); rotate_left; clear_value t)
    | ((fail_if_no_progress extract_lets +onlyGivenNames u); have v : Nat := u; clear v; clear_value u)
    | ((fail_if_no_progress extract_lets +onlyGivenNames u); have v : List _ := u; clear v; clear_value u)
    | ((fail_if_no_progress extract_lets +onlyGivenNames u); have v : Option _ := u; clear v; fail_if_success (have v : Option State := u); clear_value u)
    | (fail_if_no_progress extract_lets +onlyGivenNames u)
    | with_reducible refine State.onChunk_ext (by decide) ?_ ?_
    | with_reducible refine State.consumeRx_ext (by decide) ?_
    | with_reducible refine State.noteReined_ext (by decide) ?_
    | with_reducible refine State.legSend_ext (by decide) ?_
    | with_reducible refine State.storeChunk_ext (by decide) ?_
    | with_reducible refine State.addWritten_ext (by decide) ?_
    | with_reducible refine State.fin_ext (by decide) ?_
    | with_reducible refine State.storeWords_ext (by decide) ?_
    | with_reducible refine State.addHeader_ext (by decide) ?_
    | with_reducible refine State.headersHeld_ext (by decide) ?_
    | split
    | (clear_value *; split)
    | (unfold t)
    | (unfold u; try beta_reduce)
    | (refine Ext.upd ?_ ?_ ?_ ?_ ?_ ?_ ?_ ?_ ?_ ?_ ?_ ?_ ?_ ?_ ?_ ?_ ?_ ?_ ?_ ?_ <;> first | rfl | exact fun _ => rfl | exact fun h => absurd h (by decide) | skip)

theorem ringHeaders_ext {n : Nat} {s : State} {M₀ : Nat} {a₀ : State} (hM : Within 229622 M₀) (h₀ : Ext M₀ a₀ s) :
    Ext M₀ a₀ (ringHeaders n s) := by
  refine Ext.via hM h₀ ?_
  clear hM h₀ M₀ a₀
  suffices H : ∀ a₀, Ext 229622 a₀ s → Ext 229622 a₀ (ringHeaders n s) from H s (Ext.refl _ _)
  intro a₀ h₀
  unfold ringHeaders
  repeat' first
    | with_reducible assumption
    | (with_reducible intro _; intros; try beta_reduce)
    | ((fail_if_no_progress extract_lets +onlyGivenNames t); refine Ext.cut (M := 229622) (a := a₀) (b := t) ?_ (fun ht => ?_); rotate_left; clear_value t)
    | ((fail_if_no_progress extract_lets +onlyGivenNames u); have v : Nat := u; clear v; clear_value u)
    | ((fail_if_no_progress extract_lets +onlyGivenNames u); have v : List _ := u; clear v; clear_value u)
    | ((fail_if_no_progress extract_lets +onlyGivenNames u); have v : Option _ := u; clear v; fail_if_success (have v : Option State := u); clear_value u)
    | (fail_if_no_progress extract_lets +onlyGivenNames u)
    | with_reducible refine State.onChunk_ext (by decide) ?_ ?_
    | with_reducible refine State.consumeRx_ext (by decide) ?_
    | with_reducible refine State.noteReined_ext (by decide) ?_
    | with_reducible refine State.legSend_ext (by decide) ?_
    | with_reducible refine State.addHeader_ext (by decide) ?_
    | with_reducible refine State.headersHeld_ext (by decide) ?_
    | split
    | (clear_value *; split)
    | (unfold t)
    | (unfold u; try beta_reduce)

theorem ringDeliver_ext {n : Nat} {s : State} {M₀ : Nat} {a₀ : State} (hM : Within 229622 M₀) (h₀ : Ext M₀ a₀ s) :
    Ext M₀ a₀ (ringDeliver n s) := by
  refine Ext.via hM h₀ ?_
  clear hM h₀ M₀ a₀
  suffices H : ∀ a₀, Ext 229622 a₀ s → Ext 229622 a₀ (ringDeliver n s) from H s (Ext.refl _ _)
  intro a₀ h₀
  unfold ringDeliver
  repeat' first
    | with_reducible assumption
    | (with_reducible intro _; intros; try beta_reduce)
    | ((fail_if_no_progress extract_lets +onlyGivenNames t); refine Ext.cut (M := 229622) (a := a₀) (b := t) ?_ (fun ht => ?_); rotate_left; clear_value t)
    | ((fail_if_no_progress extract_lets +onlyGivenNames u); have v : Nat := u; clear v; clear_value u)
    | ((fail_if_no_progress extract_lets +onlyGivenNames u); have v : List _ := u; clear v; clear_value u)
    | ((fail_if_no_progress extract_lets +onlyGivenNames u); have v : Option _ := u; clear v; fail_if_success (have v : Option State := u); clear_value u)
    | (fail_if_no_progress extract_lets +onlyGivenNames u)
    | with_reducible refine State.onChunk_ext (by decide) ?_ ?_
    | with_reducible refine State.consumeRx_ext (by decide) ?_
    | with_reducible refine State.noteReined_ext (by decide) ?_
    | with_reducible refine State.storeWords_ext (by decide) ?_
    | with_reducible refine State.addWritten_ext (by decide) ?_
    | with_reducible refine State.fin_ext (by decide) ?_
    | split
    | (clear_value *; split)
    | (unfold t)
    | (unfold u; try beta_reduce)

theorem ringReport_ext {n : Nat} {s : State} {M₀ : Nat} {a₀ : State} (hM : Within 229622 M₀) (h₀ : Ext M₀ a₀ s) :
    Ext M₀ a₀ (ringReport n s) := by
  refine Ext.via hM h₀ ?_
  clear hM h₀ M₀ a₀
  suffices H : ∀ a₀, Ext 229622 a₀ s → Ext 229622 a₀ (ringReport n s) from H s (Ext.refl _ _)
  intro a₀ h₀
  unfold ringReport
  repeat' first
    | with_reducible assumption
    | (with_reducible intro _; intros; try beta_reduce)
    | with_reducible refine State.onMarker_ext (by decide) ?_ ?_
    | with_reducible refine State.dropSelf_ext (by decide) ?_
    | with_reducible refine State.report_ext (by decide) ?_
    | split

theorem ringRestart_ext {n : Nat} {s : State} {M₀ : Nat} {a₀ : State} (hM : Within 229622 M₀) (h₀ : Ext M₀ a₀ s) :
    Ext M₀ a₀ (ringRestart n s) := by
  refine Ext.via hM h₀ ?_
  clear hM h₀ M₀ a₀
  suffices H : ∀ a₀, Ext 229622 a₀ s → Ext 229622 a₀ (ringRestart n s) from H s (Ext.refl _ _)
  intro a₀ h₀
  unfold ringRestart
  repeat' first
    | with_reducible assumption
    | (with_reducible intro _; intros; try beta_reduce)
    | ((fail_if_no_progress extract_lets +onlyGivenNames t); refine Ext.cut (M := 229622) (a := a₀) (b := t) ?_ (fun ht => ?_); rotate_left; clear_value t)
    | ((fail_if_no_progress extract_lets +onlyGivenNames F); refine Ext.cutF (M := 229622) (a := a₀) (F := F) ?_ (fun hF => ?_); rotate_left; clear_value F)
    | with_reducible refine hF _ ?_
    | ((fail_if_no_progress extract_lets +onlyGivenNames G); refine Ext.cutG (M := 229622) (a := a₀) (F := G) ?_ (fun hG => ?_); rotate_left; clear_value G)
    | with_reducible refine hG _ _ ?_
    | ((fail_if_no_progress extract_lets +onlyGivenNames H); refine Ext.cutH (M := 229622) (a := a₀) (F := H) ?_ (fun hH => ?_); rotate_left; clear_value H)
    | with_reducible refine hH _ _ _ ?_
    | ((fail_if_no_progress extract_lets +onlyGivenNames u); have v : Nat := u; clear v; clear_value u)
    | ((fail_if_no_progress extract_lets +onlyGivenNames u); have v : List _ := u; clear v; clear_value u)
    | ((fail_if_no_progress extract_lets +onlyGivenNames u); have v : Option _ := u; clear v; fail_if_success (have v : Option State := u); clear_value u)
    | (fail_if_no_progress extract_lets +onlyGivenNames u)
    | with_reducible refine State.onMarker_ext (by decide) ?_ ?_
    | with_reducible refine State.legSend_ext (by decide) ?_
    | with_reducible refine State.restart_ext (by decide) ?_
    | with_reducible refine State.setGrp_ext (by decide) ?_
    | with_reducible refine State.applyLoss_ext (by decide) ?_
    | split
    | (clear_value *; split)
    | (unfold t)
    | (unfold u; try beta_reduce)
    | (unfold F; try beta_reduce)
    | (unfold G; try beta_reduce)
    | (unfold H; try beta_reduce)
    | (refine Ext.upd ?_ ?_ ?_ ?_ ?_ ?_ ?_ ?_ ?_ ?_ ?_ ?_ ?_ ?_ ?_ ?_ ?_ ?_ ?_ ?_ <;> first | rfl | exact fun _ => rfl | exact fun h => absurd h (by decide) | skip)

theorem ringFin_ext {n : Nat} {s : State} {M₀ : Nat} {a₀ : State} (hM : Within 229622 M₀) (h₀ : Ext M₀ a₀ s) :
    Ext M₀ a₀ (ringFin n s) := by
  refine Ext.via hM h₀ ?_
  clear hM h₀ M₀ a₀
  suffices H : ∀ a₀, Ext 229622 a₀ s → Ext 229622 a₀ (ringFin n s) from H s (Ext.refl _ _)
  intro a₀ h₀
  unfold ringFin
  repeat' first
    | with_reducible assumption
    | (with_reducible intro _; intros; try beta_reduce)
    | ((fail_if_no_progress extract_lets +onlyGivenNames t); refine Ext.cut (M := 229622) (a := a₀) (b := t) ?_ (fun ht => ?_); rotate_left; clear_value t)
    | ((fail_if_no_progress extract_lets +onlyGivenNames u); have v : Nat := u; clear v; clear_value u)
    | ((fail_if_no_progress extract_lets +onlyGivenNames u); have v : List _ := u; clear v; clear_value u)
    | ((fail_if_no_progress extract_lets +onlyGivenNames u); have v : Option _ := u; clear v; fail_if_success (have v : Option State := u); clear_value u)
    | (fail_if_no_progress extract_lets +onlyGivenNames u)
    | with_reducible refine State.onMarker_ext (by decide) ?_ ?_
    | with_reducible refine State.setBucket_ext (by decide) ?_
    | with_reducible refine State.legSend_ext (by decide) ?_
    | with_reducible refine State.slotUpdate_ext (by decide) ?_
    | with_reducible refine State.fin_ext (by decide) ?_
    | split
    | (clear_value *; split)
    | (unfold t)
    | (unfold u; try beta_reduce)
    | (refine Ext.upd ?_ ?_ ?_ ?_ ?_ ?_ ?_ ?_ ?_ ?_ ?_ ?_ ?_ ?_ ?_ ?_ ?_ ?_ ?_ ?_ <;> first | rfl | exact fun _ => rfl | exact fun h => absurd h (by decide) | skip)

theorem ringRetire_ext {n : Nat} {s : State} {M₀ : Nat} {a₀ : State} (hM : Within 229622 M₀) (h₀ : Ext M₀ a₀ s) :
    Ext M₀ a₀ (ringRetire n s) := by
  refine Ext.via hM h₀ ?_
  clear hM h₀ M₀ a₀
  suffices H : ∀ a₀, Ext 229622 a₀ s → Ext 229622 a₀ (ringRetire n s) from H s (Ext.refl _ _)
  intro a₀ h₀
  unfold ringRetire
  repeat' first
    | with_reducible assumption
    | (with_reducible intro _; intros; try beta_reduce)
    | ((fail_if_no_progress extract_lets +onlyGivenNames t); refine Ext.cut (M := 229622) (a := a₀) (b := t) ?_ (fun ht => ?_); rotate_left; clear_value t)
    | ((fail_if_no_progress extract_lets +onlyGivenNames u); have v : Nat := u; clear v; clear_value u)
    | ((fail_if_no_progress extract_lets +onlyGivenNames u); have v : List _ := u; clear v; clear_value u)
    | ((fail_if_no_progress extract_lets +onlyGivenNames u); have v : Option _ := u; clear v; fail_if_success (have v : Option State := u); clear_value u)
    | (fail_if_no_progress extract_lets +onlyGivenNames u)
    | with_reducible refine State.onMarker_ext (by decide) ?_ ?_
    | with_reducible refine State.legSend_ext (by decide) ?_
    | with_reducible refine State.retireBucket_ext (by decide) ?_
    | split
    | (clear_value *; split)
    | (unfold t)
    | (unfold u; try beta_reduce)

theorem ringFatalMarker_ext {n : Nat} {s : State} {M₀ : Nat} {a₀ : State} (hM : Within 196804 M₀) (h₀ : Ext M₀ a₀ s) :
    Ext M₀ a₀ (ringFatalMarker n s) := by
  refine Ext.via hM h₀ ?_
  clear hM h₀ M₀ a₀
  suffices H : ∀ a₀, Ext 196804 a₀ s → Ext 196804 a₀ (ringFatalMarker n s) from H s (Ext.refl _ _)
  intro a₀ h₀
  unfold ringFatalMarker
  repeat' first
    | with_reducible assumption
    | (with_reducible intro _; intros; try beta_reduce)
    | with_reducible refine State.onMarker_ext (by decide) ?_ ?_
    | with_reducible refine State.ringFatal_ext (by decide) ?_
    | split

theorem stragglerDeadline_ext {gid : Nat} {s : State} {M₀ : Nat} {a₀ : State} (hM : Within 229622 M₀) (h₀ : Ext M₀ a₀ s) :
    Ext M₀ a₀ (stragglerDeadline gid s) := by
  refine Ext.via hM h₀ ?_
  clear hM h₀ M₀ a₀
  suffices H : ∀ a₀, Ext 229622 a₀ s → Ext 229622 a₀ (stragglerDeadline gid s) from H s (Ext.refl _ _)
  intro a₀ h₀
  unfold stragglerDeadline
  repeat' first
    | with_reducible assumption
    | (with_reducible intro _; intros; try beta_reduce)
    | ((fail_if_no_progress extract_lets +onlyGivenNames t); refine Ext.cut (M := 229622) (a := a₀) (b := t) ?_ (fun ht => ?_); rotate_left; clear_value t)
    | ((fail_if_no_progress extract_lets +onlyGivenNames u); have v : Nat := u; clear v; clear_value u)
    | ((fail_if_no_progress extract_lets +onlyGivenNames u); have v : List _ := u; clear v; clear_value u)
    | ((fail_if_no_progress extract_lets +onlyGivenNames u); have v : Option _ := u; clear v; fail_if_success (have v : Option State := u); clear_value u)
    | (fail_if_no_progress extract_lets +onlyGivenNames u)
    | with_reducible refine State.put_ext (by decide) ?_
    | with_reducible refine State.redEvent_ext (by decide) ?_
    | with_reducible refine State.legSend_ext (by decide) ?_
    | with_reducible refine State.report_ext (by decide) ?_
    | split
    | (clear_value *; split)
    | (unfold t)
    | (unfold u; try beta_reduce)

theorem State.reportOrOwe_ext {s : State} {gid pos scope : Nat} {M₀ : Nat} {a₀ : State} (hM : Within 229622 M₀) (h₀ : Ext M₀ a₀ s) :
    Ext M₀ a₀ (State.reportOrOwe s gid pos scope) := by
  refine Ext.via hM h₀ ?_
  clear hM h₀ M₀ a₀
  suffices H : ∀ a₀, Ext 229622 a₀ s → Ext 229622 a₀ (State.reportOrOwe s gid pos scope) from H s (Ext.refl _ _)
  intro a₀ h₀
  unfold State.reportOrOwe
  repeat' first
    | with_reducible assumption
    | (with_reducible intro _; intros; try beta_reduce)
    | with_reducible refine State.setGrp_ext (by decide) ?_
    | with_reducible refine State.report_ext (by decide) ?_
    | split
    | (refine Ext.upd ?_ ?_ ?_ ?_ ?_ ?_ ?_ ?_ ?_ ?_ ?_ ?_ ?_ ?_ ?_ ?_ ?_ ?_ ?_ ?_ <;> first | rfl | exact fun _ => rfl | exact fun h => absurd h (by decide) | skip)

theorem State.ringResume_ext {s : State} {M₀ : Nat} {a₀ : State} (hM : Within 229622 M₀) (h₀ : Ext M₀ a₀ s) :
    Ext M₀ a₀ (State.ringResume s) := by
  refine Ext.via hM h₀ ?_
  clear hM h₀ M₀ a₀
  suffices H : ∀ a₀, Ext 229622 a₀ s → Ext 229622 a₀ (State.ringResume s) from H s (Ext.refl _ _)
  intro a₀ h₀
  unfold State.ringResume
  repeat' first
    | with_reducible assumption
    | (with_reducible intro _; intros; try beta_reduce)
    | with_reducible refine State.report_ext (by decide) ?_
    | with_reducible refine State.setGrp_ext (by decide) ?_
    | (with_reducible refine Ext.foldl _ ?_ ?_)
    | (with_reducible refine Ext.foldl_fst _ ?_ ?_)
    | split
    | (refine Ext.upd ?_ ?_ ?_ ?_ ?_ ?_ ?_ ?_ ?_ ?_ ?_ ?_ ?_ ?_ ?_ ?_ ?_ ?_ ?_ ?_ <;> first | rfl | exact fun _ => rfl | exact fun h => absurd h (by decide) | skip)

theorem State.legDown_ext {s : State} {gid : Nat} {g : Group} {n : Nat} {M₀ : Nat} {a₀ : State} (hM : Within 229622 M₀) (h₀ : Ext M₀ a₀ s) :
    Ext M₀ a₀ (State.legDown s gid g n) := by
  refine Ext.via hM h₀ ?_
  clear hM h₀ M₀ a₀
  suffices H : ∀ a₀, Ext 229622 a₀ s → Ext 229622 a₀ (State.legDown s gid g n) from H s (Ext.refl _ _)
  intro a₀ h₀
  unfold State.legDown
  repeat' first
    | with_reducible assumption
    | (with_reducible intro _; intros; try beta_reduce)
    | ((fail_if_no_progress extract_lets +onlyGivenNames t); refine Ext.cut (M := 229622) (a := a₀) (b := t) ?_ (fun ht => ?_); rotate_left; clear_value t)
    | ((fail_if_no_progress extract_lets +onlyGivenNames u); have v : Nat := u; clear v; clear_value u)
    | ((fail_if_no_progress extract_lets +onlyGivenNames u); have v : List _ := u; clear v; clear_value u)
    | ((fail_if_no_progress extract_lets +onlyGivenNames u); have v : Option _ := u; clear v; fail_if_success (have v : Option State := u); clear_value u)
    | (fail_if_no_progress extract_lets +onlyGivenNames u)
    | with_reducible refine State.setGrp_ext (by decide) ?_
    | with_reducible refine State.put_ext (by decide) ?_
    | with_reducible refine State.reportOrOwe_ext (by decide) ?_
    | with_reducible refine State.ringFatal_ext (by decide) ?_
    | split
    | (clear_value *; split)
    | (unfold t)
    | (unfold u; try beta_reduce)
    | (refine Ext.upd ?_ ?_ ?_ ?_ ?_ ?_ ?_ ?_ ?_ ?_ ?_ ?_ ?_ ?_ ?_ ?_ ?_ ?_ ?_ ?_ <;> first | rfl | exact fun _ => rfl | exact fun h => absurd h (by decide) | skip)

theorem State.portDown_ext {s : State} {n : Nat} {M₀ : Nat} {a₀ : State} (hM : Within 229622 M₀) (h₀ : Ext M₀ a₀ s) :
    Ext M₀ a₀ (State.portDown s n) := by
  refine Ext.via hM h₀ ?_
  clear hM h₀ M₀ a₀
  suffices H : ∀ a₀, Ext 229622 a₀ s → Ext 229622 a₀ (State.portDown s n) from H s (Ext.refl _ _)
  intro a₀ h₀
  unfold State.portDown
  repeat' first
    | with_reducible assumption
    | (with_reducible intro _; intros; try beta_reduce)
    | ((fail_if_no_progress extract_lets +onlyGivenNames t); refine Ext.cut (M := 229622) (a := a₀) (b := t) ?_ (fun ht => ?_); rotate_left; clear_value t)
    | ((fail_if_no_progress extract_lets +onlyGivenNames u); have v : Nat := u; clear v; clear_value u)
    | ((fail_if_no_progress extract_lets +onlyGivenNames u); have v : List _ := u; clear v; clear_value u)
    | ((fail_if_no_progress extract_lets +onlyGivenNames u); have v : Option _ := u; clear v; fail_if_success (have v : Option State := u); clear_value u)
    | (fail_if_no_progress extract_lets +onlyGivenNames u)
    | with_reducible refine State.portDownCore_ext (by decide) ?_
    | with_reducible refine State.legDown_ext (by decide) ?_
    | with_reducible refine State.enqueue_ext (by decide) ?_
    | (with_reducible refine Ext.foldl _ ?_ ?_)
    | (with_reducible refine Ext.foldl_fst _ ?_ ?_)
    | split
    | (clear_value *; split)
    | (unfold t)
    | (unfold u; try beta_reduce)

end Sys2Proof.Machine
end

