-- ==== Sys2Proof/Laws/ExtLinkCommands.lean ====
section
/-!
SUPPORT. What each operation of Machine/LinkCommands.lean can change: one lemma each.
-/
namespace Sys2Proof.Machine

theorem laneBad_ext {n l : Nat} {s : State} {M₀ : Nat} {a₀ : State} (hM : Within 65540 M₀) (h₀ : Ext M₀ a₀ s) :
    Ext M₀ a₀ (laneBad n l s) := by
  refine Ext.via hM h₀ ?_
  clear hM h₀ M₀ a₀
  suffices H : ∀ a₀, Ext 65540 a₀ s → Ext 65540 a₀ (laneBad n l s) from H s (Ext.refl _ _)
  intro a₀ h₀
  unfold laneBad
  repeat' first
    | with_reducible assumption
    | (with_reducible intro _; intros; try beta_reduce)
    | ((fail_if_no_progress extract_lets +onlyGivenNames t); refine Ext.cut (M := 65540) (a := a₀) (b := t) ?_ (fun ht => ?_); rotate_left; clear_value t)
    | ((fail_if_no_progress extract_lets +onlyGivenNames u); have v : Nat := u; clear v; clear_value u)
    | ((fail_if_no_progress extract_lets +onlyGivenNames u); have v : List _ := u; clear v; clear_value u)
    | ((fail_if_no_progress extract_lets +onlyGivenNames u); have v : Option _ := u; clear v; fail_if_success (have v : Option State := u); clear_value u)
    | (fail_if_no_progress extract_lets +onlyGivenNames u)
    | with_reducible refine State.put_ext (by decide) ?_
    | with_reducible refine State.sendFlit_ext (by decide) ?_
    | with_reducible refine State.bumpSat_ext (by decide) ?_
    | split
    | (clear_value *; split)
    | (unfold t)
    | (unfold u; try beta_reduce)

theorem State.useLanes_ext {s : State} {n lanes : Nat} {M₀ : Nat} {a₀ : State} (hM : Within 65540 M₀) (h₀ : Ext M₀ a₀ s) :
    Ext M₀ a₀ (State.useLanes s n lanes) := by
  refine Ext.via hM h₀ ?_
  clear hM h₀ M₀ a₀
  suffices H : ∀ a₀, Ext 65540 a₀ s → Ext 65540 a₀ (State.useLanes s n lanes) from H s (Ext.refl _ _)
  intro a₀ h₀
  unfold State.useLanes
  repeat' first
    | with_reducible assumption
    | (with_reducible intro _; intros; try beta_reduce)
    | ((fail_if_no_progress extract_lets +onlyGivenNames t); refine Ext.cut (M := 65540) (a := a₀) (b := t) ?_ (fun ht => ?_); rotate_left; clear_value t)
    | ((fail_if_no_progress extract_lets +onlyGivenNames u); have v : Nat := u; clear v; clear_value u)
    | ((fail_if_no_progress extract_lets +onlyGivenNames u); have v : List _ := u; clear v; clear_value u)
    | ((fail_if_no_progress extract_lets +onlyGivenNames u); have v : Option _ := u; clear v; fail_if_success (have v : Option State := u); clear_value u)
    | (fail_if_no_progress extract_lets +onlyGivenNames u)
    | with_reducible refine State.setPort_ext (by decide) ?_
    | with_reducible refine State.put_ext (by decide) ?_
    | with_reducible refine State.putB_ext (by decide) ?_
    | split
    | (clear_value *; split)
    | (unfold t)
    | (unfold u; try beta_reduce)
    | (refine Ext.upd ?_ ?_ ?_ ?_ ?_ ?_ ?_ ?_ ?_ ?_ ?_ ?_ ?_ ?_ ?_ ?_ ?_ ?_ ?_ ?_ <;> first | rfl | exact fun _ => rfl | exact fun h => absurd h (by decide) | skip)

theorem relaneDone_ext {n : Nat} {s : State} {M₀ : Nat} {a₀ : State} (hM : Within 65540 M₀) (h₀ : Ext M₀ a₀ s) :
    Ext M₀ a₀ (relaneDone n s) := by
  refine Ext.via hM h₀ ?_
  clear hM h₀ M₀ a₀
  suffices H : ∀ a₀, Ext 65540 a₀ s → Ext 65540 a₀ (relaneDone n s) from H s (Ext.refl _ _)
  intro a₀ h₀
  unfold relaneDone
  repeat' first
    | with_reducible assumption
    | (with_reducible intro _; intros; try beta_reduce)
    | ((fail_if_no_progress extract_lets +onlyGivenNames t); refine Ext.cut (M := 65540) (a := a₀) (b := t) ?_ (fun ht => ?_); rotate_left; clear_value t)
    | ((fail_if_no_progress extract_lets +onlyGivenNames u); have v : Nat := u; clear v; clear_value u)
    | ((fail_if_no_progress extract_lets +onlyGivenNames u); have v : List _ := u; clear v; clear_value u)
    | ((fail_if_no_progress extract_lets +onlyGivenNames u); have v : Option _ := u; clear v; fail_if_success (have v : Option State := u); clear_value u)
    | (fail_if_no_progress extract_lets +onlyGivenNames u)
    | with_reducible refine State.put_ext (by decide) ?_
    | with_reducible refine State.useLanes_ext (by decide) ?_
    | with_reducible refine State.startReplay_ext (by decide) ?_
    | split
    | (clear_value *; split)
    | (unfold t)
    | (unfold u; try beta_reduce)

theorem lockTimeout_ext {n : Nat} {s : State} {M₀ : Nat} {a₀ : State} (hM : Within 229622 M₀) (h₀ : Ext M₀ a₀ s) :
    Ext M₀ a₀ (lockTimeout n s) := by
  refine Ext.via hM h₀ ?_
  clear hM h₀ M₀ a₀
  suffices H : ∀ a₀, Ext 229622 a₀ s → Ext 229622 a₀ (lockTimeout n s) from H s (Ext.refl _ _)
  intro a₀ h₀
  unfold lockTimeout
  repeat' first
    | with_reducible assumption
    | (with_reducible intro _; intros; try beta_reduce)
    | with_reducible refine State.put_ext (by decide) ?_
    | with_reducible refine State.portDown_ext (by decide) ?_
    | split

theorem State.startRewiden_ext {s : State} {n : Nat} {M₀ : Nat} {a₀ : State} (hM : Within 65540 M₀) (h₀ : Ext M₀ a₀ s) :
    Ext M₀ a₀ (State.startRewiden s n) := by
  refine Ext.via hM h₀ ?_
  clear hM h₀ M₀ a₀
  suffices H : ∀ a₀, Ext 65540 a₀ s → Ext 65540 a₀ (State.startRewiden s n) from H s (Ext.refl _ _)
  intro a₀ h₀
  unfold State.startRewiden
  repeat' first
    | with_reducible assumption
    | (with_reducible intro _; intros; try beta_reduce)
    | with_reducible refine State.setPort_ext (by decide) ?_
    | with_reducible refine State.put_ext (by decide) ?_
    | with_reducible refine State.sendFlit_ext (by decide) ?_
    | split
    | (refine Ext.upd ?_ ?_ ?_ ?_ ?_ ?_ ?_ ?_ ?_ ?_ ?_ ?_ ?_ ?_ ?_ ?_ ?_ ?_ ?_ ?_ <;> first | rfl | exact fun _ => rfl | exact fun h => absurd h (by decide) | skip)

theorem rewidenLock_ext {n : Nat} {s : State} {M₀ : Nat} {a₀ : State} (hM : Within 65540 M₀) (h₀ : Ext M₀ a₀ s) :
    Ext M₀ a₀ (rewidenLock n s) := by
  refine Ext.via hM h₀ ?_
  clear hM h₀ M₀ a₀
  suffices H : ∀ a₀, Ext 65540 a₀ s → Ext 65540 a₀ (rewidenLock n s) from H s (Ext.refl _ _)
  intro a₀ h₀
  unfold rewidenLock
  repeat' first
    | with_reducible assumption
    | (with_reducible intro _; intros; try beta_reduce)
    | ((fail_if_no_progress extract_lets +onlyGivenNames t); refine Ext.cut (M := 65540) (a := a₀) (b := t) ?_ (fun ht => ?_); rotate_left; clear_value t)
    | ((fail_if_no_progress extract_lets +onlyGivenNames u); have v : Nat := u; clear v; clear_value u)
    | ((fail_if_no_progress extract_lets +onlyGivenNames u); have v : List _ := u; clear v; clear_value u)
    | ((fail_if_no_progress extract_lets +onlyGivenNames u); have v : Option _ := u; clear v; fail_if_success (have v : Option State := u); clear_value u)
    | (fail_if_no_progress extract_lets +onlyGivenNames u)
    | with_reducible refine State.setPort_ext (by decide) ?_
    | with_reducible refine State.put_ext (by decide) ?_
    | with_reducible refine State.bumpSat_ext (by decide) ?_
    | with_reducible refine State.sendFlit_ext (by decide) ?_
    | split
    | (clear_value *; split)
    | (unfold t)
    | (unfold u; try beta_reduce)
    | (refine Ext.upd ?_ ?_ ?_ ?_ ?_ ?_ ?_ ?_ ?_ ?_ ?_ ?_ ?_ ?_ ?_ ?_ ?_ ?_ ?_ ?_ <;> first | rfl | exact fun _ => rfl | exact fun h => absurd h (by decide) | skip)

theorem rewidenTimeout_ext {n : Nat} {s : State} {M₀ : Nat} {a₀ : State} (hM : Within 65668 M₀) (h₀ : Ext M₀ a₀ s) :
    Ext M₀ a₀ (rewidenTimeout n s) := by
  refine Ext.via hM h₀ ?_
  clear hM h₀ M₀ a₀
  suffices H : ∀ a₀, Ext 65668 a₀ s → Ext 65668 a₀ (rewidenTimeout n s) from H s (Ext.refl _ _)
  intro a₀ h₀
  unfold rewidenTimeout
  repeat' first
    | with_reducible assumption
    | (with_reducible intro _; intros; try beta_reduce)
    | with_reducible refine State.setPort_ext (by decide) ?_
    | with_reducible refine State.put_ext (by decide) ?_
    | with_reducible refine State.event_ext (by decide) ?_
    | split
    | (refine Ext.upd ?_ ?_ ?_ ?_ ?_ ?_ ?_ ?_ ?_ ?_ ?_ ?_ ?_ ?_ ?_ ?_ ?_ ?_ ?_ ?_ <;> first | rfl | exact fun _ => rfl | exact fun h => absurd h (by decide) | skip)

theorem State.badFlit_ext {s : State} {n : Nat} {ue : Bool} {M₀ : Nat} {a₀ : State} (hM : Within 4 M₀) (h₀ : Ext M₀ a₀ s) :
    Ext M₀ a₀ (State.badFlit s n ue) := by
  refine Ext.via hM h₀ ?_
  clear hM h₀ M₀ a₀
  suffices H : ∀ a₀, Ext 4 a₀ s → Ext 4 a₀ (State.badFlit s n ue) from H s (Ext.refl _ _)
  intro a₀ h₀
  unfold State.badFlit
  repeat' first
    | with_reducible assumption
    | (with_reducible intro _; intros; try beta_reduce)
    | with_reducible refine State.bumpSat_ext (by decide) ?_
    | split

theorem State.sendNak_ext {s : State} {n : Nat} {M₀ : Nat} {a₀ : State} (hM : Within 65536 M₀) (h₀ : Ext M₀ a₀ s) :
    Ext M₀ a₀ (State.sendNak s n) := by
  refine Ext.via hM h₀ ?_
  clear hM h₀ M₀ a₀
  suffices H : ∀ a₀, Ext 65536 a₀ s → Ext 65536 a₀ (State.sendNak s n) from H s (Ext.refl _ _)
  intro a₀ h₀
  unfold State.sendNak
  repeat' first
    | with_reducible assumption
    | (with_reducible intro _; intros; try beta_reduce)
    | ((fail_if_no_progress extract_lets +onlyGivenNames t); refine Ext.cut (M := 65536) (a := a₀) (b := t) ?_ (fun ht => ?_); rotate_left; clear_value t)
    | ((fail_if_no_progress extract_lets +onlyGivenNames u); have v : Nat := u; clear v; clear_value u)
    | ((fail_if_no_progress extract_lets +onlyGivenNames u); have v : List _ := u; clear v; clear_value u)
    | ((fail_if_no_progress extract_lets +onlyGivenNames u); have v : Option _ := u; clear v; fail_if_success (have v : Option State := u); clear_value u)
    | (fail_if_no_progress extract_lets +onlyGivenNames u)
    | with_reducible refine State.setPort_ext (by decide) ?_
    | with_reducible refine State.sendFlit_ext (by decide) ?_
    | split
    | (clear_value *; split)
    | (unfold t)
    | (unfold u; try beta_reduce)
    | (refine Ext.upd ?_ ?_ ?_ ?_ ?_ ?_ ?_ ?_ ?_ ?_ ?_ ?_ ?_ ?_ ?_ ?_ ?_ ?_ ?_ ?_ <;> first | rfl | exact fun _ => rfl | exact fun h => absurd h (by decide) | skip)

theorem State.replayFlits_ext {s : State} {n : Nat} {M₀ : Nat} {a₀ : State} (hM : Within 229622 M₀) (h₀ : Ext M₀ a₀ s) :
    Ext M₀ a₀ (State.replayFlits s n) := by
  refine Ext.via hM h₀ ?_
  clear hM h₀ M₀ a₀
  suffices H : ∀ a₀, Ext 229622 a₀ s → Ext 229622 a₀ (State.replayFlits s n) from H s (Ext.refl _ _)
  intro a₀ h₀
  unfold State.replayFlits
  repeat' first
    | with_reducible assumption
    | (with_reducible intro _; intros; try beta_reduce)
    | ((fail_if_no_progress extract_lets +onlyGivenNames t); refine Ext.cut (M := 229622) (a := a₀) (b := t) ?_ (fun ht => ?_); rotate_left; clear_value t)
    | ((fail_if_no_progress extract_lets +onlyGivenNames u); have v : Nat := u; clear v; clear_value u)
    | ((fail_if_no_progress extract_lets +onlyGivenNames u); have v : List _ := u; clear v; clear_value u)
    | ((fail_if_no_progress extract_lets +onlyGivenNames u); have v : Option _ := u; clear v; fail_if_success (have v : Option State := u); clear_value u)
    | (fail_if_no_progress extract_lets +onlyGivenNames u)
    | with_reducible refine State.startReplay_ext (by decide) ?_
    | with_reducible refine State.put_ext (by decide) ?_
    | with_reducible refine State.portDown_ext (by decide) ?_
    | split
    | (clear_value *; split)
    | (unfold t)
    | (unfold u; try beta_reduce)

theorem State.readFlit_ext {s : State} {n : Nat} {fl : List Byte} {M₀ : Nat} {a₀ : State} (hM : Within 229622 M₀) (h₀ : Ext M₀ a₀ s) :
    Ext M₀ a₀ (State.readFlit s n fl) := by
  refine Ext.via hM h₀ ?_
  clear hM h₀ M₀ a₀
  suffices H : ∀ a₀, Ext 229622 a₀ s → Ext 229622 a₀ (State.readFlit s n fl) from H s (Ext.refl _ _)
  intro a₀ h₀
  unfold State.readFlit
  repeat' first
    | with_reducible assumption
    | (with_reducible intro _; intros; try beta_reduce)
    | ((fail_if_no_progress extract_lets +onlyGivenNames t); refine Ext.cut (M := 229622) (a := a₀) (b := t) ?_ (fun ht => ?_); rotate_left; clear_value t)
    | ((fail_if_no_progress extract_lets +onlyGivenNames u); have v : Nat := u; clear v; clear_value u)
    | ((fail_if_no_progress extract_lets +onlyGivenNames u); have v : List _ := u; clear v; clear_value u)
    | ((fail_if_no_progress extract_lets +onlyGivenNames u); have v : Option _ := u; clear v; fail_if_success (have v : Option State := u); clear_value u)
    | (fail_if_no_progress extract_lets +onlyGivenNames u)
    | with_reducible refine State.readAck_ext (by decide) ?_
    | with_reducible refine State.readCredit_ext (by decide) ?_
    | with_reducible refine State.replayFlits_ext (by decide) ?_
    | split
    | (clear_value *; split)
    | (unfold t)
    | (unfold u; try beta_reduce)

theorem dataFlit_ext {n : Nat} {fl : List Byte} {ue : Bool} {s : State} {M₀ : Nat} {a₀ : State} (hM : Within 229622 M₀) (h₀ : Ext M₀ a₀ s) :
    Ext M₀ a₀ (dataFlit n fl ue s) := by
  refine Ext.via hM h₀ ?_
  clear hM h₀ M₀ a₀
  suffices H : ∀ a₀, Ext 229622 a₀ s → Ext 229622 a₀ (dataFlit n fl ue s) from H s (Ext.refl _ _)
  intro a₀ h₀
  unfold dataFlit
  repeat' first
    | with_reducible assumption
    | (with_reducible intro _; intros; try beta_reduce)
    | ((fail_if_no_progress extract_lets +onlyGivenNames t); refine Ext.cut (M := 229622) (a := a₀) (b := t) ?_ (fun ht => ?_); rotate_left; clear_value t)
    | ((fail_if_no_progress extract_lets +onlyGivenNames u); have v : Nat := u; clear v; clear_value u)
    | ((fail_if_no_progress extract_lets +onlyGivenNames u); have v : List _ := u; clear v; clear_value u)
    | ((fail_if_no_progress extract_lets +onlyGivenNames u); have v : Option _ := u; clear v; fail_if_success (have v : Option State := u); clear_value u)
    | (fail_if_no_progress extract_lets +onlyGivenNames u)
    | with_reducible refine State.badFlit_ext (by decide) ?_
    | with_reducible refine State.sendNak_ext (by decide) ?_
    | with_reducible refine State.readFlit_ext (by decide) ?_
    | with_reducible refine State.setPort_ext (by decide) ?_
    | with_reducible refine State.bump_ext (by decide) ?_
    | with_reducible refine State.sendFlit_ext (by decide) ?_
    | split
    | (clear_value *; split)
    | (unfold t)
    | (unfold u; try beta_reduce)
    | (refine Ext.upd ?_ ?_ ?_ ?_ ?_ ?_ ?_ ?_ ?_ ?_ ?_ ?_ ?_ ?_ ?_ ?_ ?_ ?_ ?_ ?_ <;> first | rfl | exact fun _ => rfl | exact fun h => absurd h (by decide) | skip)

theorem idleFlit_ext {n : Nat} {fl : List Byte} {ue : Bool} {s : State} {M₀ : Nat} {a₀ : State} (hM : Within 229622 M₀) (h₀ : Ext M₀ a₀ s) :
    Ext M₀ a₀ (idleFlit n fl ue s) := by
  refine Ext.via hM h₀ ?_
  clear hM h₀ M₀ a₀
  suffices H : ∀ a₀, Ext 229622 a₀ s → Ext 229622 a₀ (idleFlit n fl ue s) from H s (Ext.refl _ _)
  intro a₀ h₀
  unfold idleFlit
  repeat' first
    | with_reducible assumption
    | (with_reducible intro _; intros; try beta_reduce)
    | with_reducible refine State.badFlit_ext (by decide) ?_
    | with_reducible refine State.readFlit_ext (by decide) ?_
    | split

theorem linkFlit_ext {n : Nat} {fl : List Byte} {ue : Bool} {s : State} {M₀ : Nat} {a₀ : State} (hM : Within 229622 M₀) (h₀ : Ext M₀ a₀ s) :
    Ext M₀ a₀ (linkFlit n fl ue s) := by
  refine Ext.via hM h₀ ?_
  clear hM h₀ M₀ a₀
  suffices H : ∀ a₀, Ext 229622 a₀ s → Ext 229622 a₀ (linkFlit n fl ue s) from H s (Ext.refl _ _)
  intro a₀ h₀
  unfold linkFlit
  repeat' first
    | with_reducible assumption
    | (with_reducible intro _; intros; try beta_reduce)
    | ((fail_if_no_progress extract_lets +onlyGivenNames t); refine Ext.cut (M := 229622) (a := a₀) (b := t) ?_ (fun ht => ?_); rotate_left; clear_value t)
    | ((fail_if_no_progress extract_lets +onlyGivenNames u); have v : Nat := u; clear v; clear_value u)
    | ((fail_if_no_progress extract_lets +onlyGivenNames u); have v : List _ := u; clear v; clear_value u)
    | ((fail_if_no_progress extract_lets +onlyGivenNames u); have v : Option _ := u; clear v; fail_if_success (have v : Option State := u); clear_value u)
    | (fail_if_no_progress extract_lets +onlyGivenNames u)
    | with_reducible refine State.badFlit_ext (by decide) ?_
    | with_reducible refine State.readFlit_ext (by decide) ?_
    | with_reducible refine State.setPort_ext (by decide) ?_
    | with_reducible refine State.put_ext (by decide) ?_
    | with_reducible refine State.bumpSat_ext (by decide) ?_
    | with_reducible refine State.sendFlit_ext (by decide) ?_
    | split
    | (clear_value *; split)
    | (unfold t)
    | (unfold u; try beta_reduce)
    | (refine Ext.upd ?_ ?_ ?_ ?_ ?_ ?_ ?_ ?_ ?_ ?_ ?_ ?_ ?_ ?_ ?_ ?_ ?_ ?_ ?_ ?_ <;> first | rfl | exact fun _ => rfl | exact fun h => absurd h (by decide) | skip)

theorem replayTimeout_ext {n : Nat} {s : State} {M₀ : Nat} {a₀ : State} (hM : Within 229622 M₀) (h₀ : Ext M₀ a₀ s) :
    Ext M₀ a₀ (replayTimeout n s) := by
  refine Ext.via hM h₀ ?_
  clear hM h₀ M₀ a₀
  suffices H : ∀ a₀, Ext 229622 a₀ s → Ext 229622 a₀ (replayTimeout n s) from H s (Ext.refl _ _)
  intro a₀ h₀
  unfold replayTimeout
  repeat' first
    | with_reducible assumption
    | (with_reducible intro _; intros; try beta_reduce)
    | with_reducible refine State.replayFlits_ext (by decide) ?_
    | split

theorem ackTimer_ext {n : Nat} {s : State} {M₀ : Nat} {a₀ : State} (hM : Within 65536 M₀) (h₀ : Ext M₀ a₀ s) :
    Ext M₀ a₀ (ackTimer n s) := by
  refine Ext.via hM h₀ ?_
  clear hM h₀ M₀ a₀
  suffices H : ∀ a₀, Ext 65536 a₀ s → Ext 65536 a₀ (ackTimer n s) from H s (Ext.refl _ _)
  intro a₀ h₀
  unfold ackTimer
  repeat' first
    | with_reducible assumption
    | (with_reducible intro _; intros; try beta_reduce)
    | ((fail_if_no_progress extract_lets +onlyGivenNames t); refine Ext.cut (M := 65536) (a := a₀) (b := t) ?_ (fun ht => ?_); rotate_left; clear_value t)
    | ((fail_if_no_progress extract_lets +onlyGivenNames u); have v : Nat := u; clear v; clear_value u)
    | ((fail_if_no_progress extract_lets +onlyGivenNames u); have v : List _ := u; clear v; clear_value u)
    | ((fail_if_no_progress extract_lets +onlyGivenNames u); have v : Option _ := u; clear v; fail_if_success (have v : Option State := u); clear_value u)
    | (fail_if_no_progress extract_lets +onlyGivenNames u)
    | with_reducible refine State.sendFlit_ext (by decide) ?_
    | split
    | (clear_value *; split)
    | (unfold t)
    | (unfold u; try beta_reduce)

theorem creditReturn_ext {n vc : Nat} {s : State} {M₀ : Nat} {a₀ : State} (hM : Within 65536 M₀) (h₀ : Ext M₀ a₀ s) :
    Ext M₀ a₀ (creditReturn n vc s) := by
  refine Ext.via hM h₀ ?_
  clear hM h₀ M₀ a₀
  suffices H : ∀ a₀, Ext 65536 a₀ s → Ext 65536 a₀ (creditReturn n vc s) from H s (Ext.refl _ _)
  intro a₀ h₀
  unfold creditReturn
  repeat' first
    | with_reducible assumption
    | (with_reducible intro _; intros; try beta_reduce)
    | ((fail_if_no_progress extract_lets +onlyGivenNames t); refine Ext.cut (M := 65536) (a := a₀) (b := t) ?_ (fun ht => ?_); rotate_left; clear_value t)
    | ((fail_if_no_progress extract_lets +onlyGivenNames u); have v : Nat := u; clear v; clear_value u)
    | ((fail_if_no_progress extract_lets +onlyGivenNames u); have v : List _ := u; clear v; clear_value u)
    | ((fail_if_no_progress extract_lets +onlyGivenNames u); have v : Option _ := u; clear v; fail_if_success (have v : Option State := u); clear_value u)
    | (fail_if_no_progress extract_lets +onlyGivenNames u)
    | with_reducible refine State.setPort_ext (by decide) ?_
    | with_reducible refine State.sendFlit_ext (by decide) ?_
    | split
    | (clear_value *; split)
    | (unfold t)
    | (unfold u; try beta_reduce)
    | (refine Ext.upd ?_ ?_ ?_ ?_ ?_ ?_ ?_ ?_ ?_ ?_ ?_ ?_ ?_ ?_ ?_ ?_ ?_ ?_ ?_ ?_ <;> first | rfl | exact fun _ => rfl | exact fun h => absurd h (by decide) | skip)

theorem packetStart_ext {n : Nat} {s : State} {M₀ : Nat} {a₀ : State} (hM : Within 65540 M₀) (h₀ : Ext M₀ a₀ s) :
    Ext M₀ a₀ (packetStart n s) := by
  refine Ext.via hM h₀ ?_
  clear hM h₀ M₀ a₀
  suffices H : ∀ a₀, Ext 65540 a₀ s → Ext 65540 a₀ (packetStart n s) from H s (Ext.refl _ _)
  intro a₀ h₀
  unfold packetStart
  repeat' first
    | with_reducible assumption
    | (with_reducible intro _; intros; try beta_reduce)
    | ((fail_if_no_progress extract_lets +onlyGivenNames t); refine Ext.cut (M := 65540) (a := a₀) (b := t) ?_ (fun ht => ?_); rotate_left; clear_value t)
    | ((fail_if_no_progress extract_lets +onlyGivenNames u); have v : Nat := u; clear v; clear_value u)
    | ((fail_if_no_progress extract_lets +onlyGivenNames u); have v : List _ := u; clear v; clear_value u)
    | ((fail_if_no_progress extract_lets +onlyGivenNames u); have v : Option _ := u; clear v; fail_if_success (have v : Option State := u); clear_value u)
    | (fail_if_no_progress extract_lets +onlyGivenNames u)
    | with_reducible refine State.transmit_ext (by decide) ?_
    | with_reducible refine State.setPort_ext (by decide) ?_
    | with_reducible refine State.sendFlit_ext (by decide) ?_
    | split
    | (clear_value *; split)
    | (unfold t)
    | (unfold u; try beta_reduce)
    | (refine Ext.upd ?_ ?_ ?_ ?_ ?_ ?_ ?_ ?_ ?_ ?_ ?_ ?_ ?_ ?_ ?_ ?_ ?_ ?_ ?_ ?_ <;> first | rfl | exact fun _ => rfl | exact fun h => absurd h (by decide) | skip)

theorem State.refBack_ext {s : State} {n lanes : Nat} {M₀ : Nat} {a₀ : State} (hM : Within 2097152 M₀) (h₀ : Ext M₀ a₀ s) :
    Ext M₀ a₀ (State.refBack s n lanes) := by
  refine Ext.via hM h₀ ?_
  clear hM h₀ M₀ a₀
  suffices H : ∀ a₀, Ext 2097152 a₀ s → Ext 2097152 a₀ (State.refBack s n lanes) from H s (Ext.refl _ _)
  intro a₀ h₀
  unfold State.refBack
  repeat' first
    | with_reducible assumption
    | (with_reducible intro _; intros; try beta_reduce)
    | ((fail_if_no_progress extract_lets +onlyGivenNames t); refine Ext.cut (M := 2097152) (a := a₀) (b := t) ?_ (fun ht => ?_); rotate_left; clear_value t)
    | ((fail_if_no_progress extract_lets +onlyGivenNames u); have v : Nat := u; clear v; clear_value u)
    | ((fail_if_no_progress extract_lets +onlyGivenNames u); have v : List _ := u; clear v; clear_value u)
    | ((fail_if_no_progress extract_lets +onlyGivenNames u); have v : Option _ := u; clear v; fail_if_success (have v : Option State := u); clear_value u)
    | (fail_if_no_progress extract_lets +onlyGivenNames u)
    | with_reducible refine State.setPins_ext (by decide) ?_
    | split
    | (clear_value *; split)
    | (unfold t)
    | (unfold u; try beta_reduce)
    | (refine Ext.upd ?_ ?_ ?_ ?_ ?_ ?_ ?_ ?_ ?_ ?_ ?_ ?_ ?_ ?_ ?_ ?_ ?_ ?_ ?_ ?_ <;> first | rfl | exact fun _ => rfl | exact fun h => absurd h (by decide) | skip)

theorem linkTrainingDone_ext {n lanes : Nat} {s : State} {M₀ : Nat} {a₀ : State} (hM : Within 2162692 M₀) (h₀ : Ext M₀ a₀ s) :
    Ext M₀ a₀ (linkTrainingDone n lanes s) := by
  refine Ext.via hM h₀ ?_
  clear hM h₀ M₀ a₀
  suffices H : ∀ a₀, Ext 2162692 a₀ s → Ext 2162692 a₀ (linkTrainingDone n lanes s) from H s (Ext.refl _ _)
  intro a₀ h₀
  unfold linkTrainingDone
  repeat' first
    | with_reducible assumption
    | (with_reducible intro _; intros; try beta_reduce)
    | ((fail_if_no_progress extract_lets +onlyGivenNames t); refine Ext.cut (M := 2162692) (a := a₀) (b := t) ?_ (fun ht => ?_); rotate_left; clear_value t)
    | ((fail_if_no_progress extract_lets +onlyGivenNames u); have v : Nat := u; clear v; clear_value u)
    | ((fail_if_no_progress extract_lets +onlyGivenNames u); have v : List _ := u; clear v; clear_value u)
    | ((fail_if_no_progress extract_lets +onlyGivenNames u); have v : Option _ := u; clear v; fail_if_success (have v : Option State := u); clear_value u)
    | (fail_if_no_progress extract_lets +onlyGivenNames u)
    | with_reducible refine State.refBack_ext (by decide) ?_
    | with_reducible refine State.portComesUp_ext (by decide) ?_
    | with_reducible refine State.put_ext (by decide) ?_
    | with_reducible refine State.transmit_ext (by decide) ?_
    | split
    | (clear_value *; split)
    | (unfold t)
    | (unfold u; try beta_reduce)

theorem identPacket_ext {n : Nat} {s : State} {M₀ : Nat} {a₀ : State} (hM : Within 65668 M₀) (h₀ : Ext M₀ a₀ s) :
    Ext M₀ a₀ (identPacket n s) := by
  refine Ext.via hM h₀ ?_
  clear hM h₀ M₀ a₀
  suffices H : ∀ a₀, Ext 65668 a₀ s → Ext 65668 a₀ (identPacket n s) from H s (Ext.refl _ _)
  intro a₀ h₀
  unfold identPacket
  repeat' first
    | with_reducible assumption
    | (with_reducible intro _; intros; try beta_reduce)
    | ((fail_if_no_progress extract_lets +onlyGivenNames t); refine Ext.cut (M := 65668) (a := a₀) (b := t) ?_ (fun ht => ?_); rotate_left; clear_value t)
    | ((fail_if_no_progress extract_lets +onlyGivenNames u); have v : Nat := u; clear v; clear_value u)
    | ((fail_if_no_progress extract_lets +onlyGivenNames u); have v : List _ := u; clear v; clear_value u)
    | ((fail_if_no_progress extract_lets +onlyGivenNames u); have v : Option _ := u; clear v; fail_if_success (have v : Option State := u); clear_value u)
    | (fail_if_no_progress extract_lets +onlyGivenNames u)
    | with_reducible refine State.consumeRx_ext (by decide) ?_
    | with_reducible refine State.setPort_ext (by decide) ?_
    | with_reducible refine State.put_ext (by decide) ?_
    | with_reducible refine State.event_ext (by decide) ?_
    | (with_reducible refine Ext.foldl _ ?_ ?_)
    | (with_reducible refine Ext.foldl_fst _ ?_ ?_)
    | split
    | (clear_value *; split)
    | (unfold t)
    | (unfold u; try beta_reduce)
    | (refine Ext.upd ?_ ?_ ?_ ?_ ?_ ?_ ?_ ?_ ?_ ?_ ?_ ?_ ?_ ?_ ?_ ?_ ?_ ?_ ?_ ?_ <;> first | rfl | exact fun _ => rfl | exact fun h => absurd h (by decide) | skip)

theorem State.startTraining_ext {s : State} {n : Nat} {M₀ : Nat} {a₀ : State} (hM : Within 4 M₀) (h₀ : Ext M₀ a₀ s) :
    Ext M₀ a₀ (State.startTraining s n) := by
  refine Ext.via hM h₀ ?_
  clear hM h₀ M₀ a₀
  suffices H : ∀ a₀, Ext 4 a₀ s → Ext 4 a₀ (State.startTraining s n) from H s (Ext.refl _ _)
  intro a₀ h₀
  unfold State.startTraining
  repeat' first
    | with_reducible assumption
    | (with_reducible intro _; intros; try beta_reduce)
    | with_reducible refine State.put_ext (by decide) ?_
    | split

theorem bringupRetry_ext {n : Nat} {s : State} {M₀ : Nat} {a₀ : State} (hM : Within 4 M₀) (h₀ : Ext M₀ a₀ s) :
    Ext M₀ a₀ (bringupRetry n s) := by
  refine Ext.via hM h₀ ?_
  clear hM h₀ M₀ a₀
  suffices H : ∀ a₀, Ext 4 a₀ s → Ext 4 a₀ (bringupRetry n s) from H s (Ext.refl _ _)
  intro a₀ h₀
  unfold bringupRetry
  repeat' first
    | with_reducible assumption
    | (with_reducible intro _; intros; try beta_reduce)
    | with_reducible refine State.startTraining_ext (by decide) ?_
    | split

theorem bringupDeadline_ext {n : Nat} {s : State} {M₀ : Nat} {a₀ : State} (hM : Within 132 M₀) (h₀ : Ext M₀ a₀ s) :
    Ext M₀ a₀ (bringupDeadline n s) := by
  refine Ext.via hM h₀ ?_
  clear hM h₀ M₀ a₀
  suffices H : ∀ a₀, Ext 132 a₀ s → Ext 132 a₀ (bringupDeadline n s) from H s (Ext.refl _ _)
  intro a₀ h₀
  unfold bringupDeadline
  repeat' first
    | with_reducible assumption
    | (with_reducible intro _; intros; try beta_reduce)
    | with_reducible refine State.raise_ext (by decide) ?_
    | split

theorem State.askRestore_ext {s : State} {n : Nat} {M₀ : Nat} {a₀ : State} (hM : Within 131072 M₀) (h₀ : Ext M₀ a₀ s) :
    Ext M₀ a₀ (State.askRestore s n) := by
  refine Ext.via hM h₀ ?_
  clear hM h₀ M₀ a₀
  suffices H : ∀ a₀, Ext 131072 a₀ s → Ext 131072 a₀ (State.askRestore s n) from H s (Ext.refl _ _)
  intro a₀ h₀
  unfold State.askRestore
  repeat' first
    | with_reducible assumption
    | (with_reducible intro _; intros; try beta_reduce)
    | with_reducible refine State.setGrp_ext (by decide) ?_
    | (with_reducible refine Ext.foldl _ ?_ ?_)
    | (with_reducible refine Ext.foldl_fst _ ?_ ?_)
    | split
    | (refine Ext.upd ?_ ?_ ?_ ?_ ?_ ?_ ?_ ?_ ?_ ?_ ?_ ?_ ?_ ?_ ?_ ?_ ?_ ?_ ?_ ?_ <;> first | rfl | exact fun _ => rfl | exact fun h => absurd h (by decide) | skip)

theorem State.lnkCtrl_ext {s : State} {n v : Nat} {M₀ : Nat} {a₀ : State} (hM : Within 229622 M₀) (h₀ : Ext M₀ a₀ s) :
    Ext M₀ a₀ (State.lnkCtrl s n v) := by
  refine Ext.via hM h₀ ?_
  clear hM h₀ M₀ a₀
  suffices H : ∀ a₀, Ext 229622 a₀ s → Ext 229622 a₀ (State.lnkCtrl s n v) from H s (Ext.refl _ _)
  intro a₀ h₀
  unfold State.lnkCtrl
  repeat' first
    | with_reducible assumption
    | (with_reducible intro _; intros; try beta_reduce)
    | ((fail_if_no_progress extract_lets +onlyGivenNames t); refine Ext.cut (M := 229622) (a := a₀) (b := t) ?_ (fun ht => ?_); rotate_left; clear_value t)
    | ((fail_if_no_progress extract_lets +onlyGivenNames u); have v : Nat := u; clear v; clear_value u)
    | ((fail_if_no_progress extract_lets +onlyGivenNames u); have v : List _ := u; clear v; clear_value u)
    | ((fail_if_no_progress extract_lets +onlyGivenNames u); have v : Option _ := u; clear v; fail_if_success (have v : Option State := u); clear_value u)
    | (fail_if_no_progress extract_lets +onlyGivenNames u)
    | with_reducible refine State.askRestore_ext (by decide) ?_
    | with_reducible refine State.startRewiden_ext (by decide) ?_
    | with_reducible refine State.portDown_ext (by decide) ?_
    | split
    | (clear_value *; split)
    | (unfold t)
    | (unfold u; try beta_reduce)

theorem lnkForceDown_ext {w : Writer} {n : Nat} {s : State} {M₀ : Nat} {a₀ : State} (hM : Within 229622 M₀) (h₀ : Ext M₀ a₀ s) :
    Ext M₀ a₀ (lnkForceDown w n s) := by
  refine Ext.via hM h₀ ?_
  clear hM h₀ M₀ a₀
  suffices H : ∀ a₀, Ext 229622 a₀ s → Ext 229622 a₀ (lnkForceDown w n s) from H s (Ext.refl _ _)
  intro a₀ h₀
  unfold lnkForceDown
  repeat' first
    | with_reducible assumption
    | (with_reducible intro _; intros; try beta_reduce)
    | with_reducible refine State.regWrite_ext (by decide) ?_ ?_
    | with_reducible refine State.lnkCtrl_ext (by decide) ?_
    | split

theorem lnkRestoreLegs_ext {w : Writer} {n : Nat} {s : State} {M₀ : Nat} {a₀ : State} (hM : Within 229622 M₀) (h₀ : Ext M₀ a₀ s) :
    Ext M₀ a₀ (lnkRestoreLegs w n s) := by
  refine Ext.via hM h₀ ?_
  clear hM h₀ M₀ a₀
  suffices H : ∀ a₀, Ext 229622 a₀ s → Ext 229622 a₀ (lnkRestoreLegs w n s) from H s (Ext.refl _ _)
  intro a₀ h₀
  unfold lnkRestoreLegs
  repeat' first
    | with_reducible assumption
    | (with_reducible intro _; intros; try beta_reduce)
    | with_reducible refine State.regWrite_ext (by decide) ?_ ?_
    | with_reducible refine State.lnkCtrl_ext (by decide) ?_
    | split

theorem lnkRewiden_ext {w : Writer} {n : Nat} {s : State} {M₀ : Nat} {a₀ : State} (hM : Within 229622 M₀) (h₀ : Ext M₀ a₀ s) :
    Ext M₀ a₀ (lnkRewiden w n s) := by
  refine Ext.via hM h₀ ?_
  clear hM h₀ M₀ a₀
  suffices H : ∀ a₀, Ext 229622 a₀ s → Ext 229622 a₀ (lnkRewiden w n s) from H s (Ext.refl _ _)
  intro a₀ h₀
  unfold lnkRewiden
  repeat' first
    | with_reducible assumption
    | (with_reducible intro _; intros; try beta_reduce)
    | with_reducible refine State.regWrite_ext (by decide) ?_ ?_
    | with_reducible refine State.lnkCtrl_ext (by decide) ?_
    | split

theorem State.legNotices_ext {s : State} {j n : Nat} {M₀ : Nat} {a₀ : State} (hM : Within 65536 M₀) (h₀ : Ext M₀ a₀ s) :
    Ext M₀ a₀ (State.legNotices s j n) := by
  refine Ext.via hM h₀ ?_
  clear hM h₀ M₀ a₀
  suffices H : ∀ a₀, Ext 65536 a₀ s → Ext 65536 a₀ (State.legNotices s j n) from H s (Ext.refl _ _)
  intro a₀ h₀
  unfold State.legNotices
  repeat' first
    | with_reducible assumption
    | (with_reducible intro _; intros; try beta_reduce)
    | with_reducible refine State.enqueue_ext (by decide) ?_
    | (with_reducible refine Ext.foldl _ ?_ ?_)
    | (with_reducible refine Ext.foldl_fst _ ?_ ?_)
    | split

theorem transitPacket_ext {n : Nat} {s : State} {M₀ : Nat} {a₀ : State} (hM : Within 65668 M₀) (h₀ : Ext M₀ a₀ s) :
    Ext M₀ a₀ (transitPacket n s) := by
  refine Ext.via hM h₀ ?_
  clear hM h₀ M₀ a₀
  suffices H : ∀ a₀, Ext 65668 a₀ s → Ext 65668 a₀ (transitPacket n s) from H s (Ext.refl _ _)
  intro a₀ h₀
  unfold transitPacket
  repeat' first
    | with_reducible assumption
    | (with_reducible intro _; intros; try beta_reduce)
    | with_reducible refine State.dropPacket_ext (by decide) ?_
    | with_reducible refine State.moveRx_ext (by decide) ?_
    | with_reducible refine State.consumeRx_ext (by decide) ?_
    | with_reducible refine State.legNotices_ext (by decide) ?_
    | split

theorem job0Relay_ext {n : Nat} {s : State} {M₀ : Nat} {a₀ : State} (hM : Within 65668 M₀) (h₀ : Ext M₀ a₀ s) :
    Ext M₀ a₀ (job0Relay n s) := by
  refine Ext.via hM h₀ ?_
  clear hM h₀ M₀ a₀
  suffices H : ∀ a₀, Ext 65668 a₀ s → Ext 65668 a₀ (job0Relay n s) from H s (Ext.refl _ _)
  intro a₀ h₀
  unfold job0Relay
  repeat' first
    | with_reducible assumption
    | (with_reducible intro _; intros; try beta_reduce)
    | with_reducible refine State.dropPacket_ext (by decide) ?_
    | with_reducible refine State.moveRx_ext (by decide) ?_
    | with_reducible refine State.consumeRx_ext (by decide) ?_
    | split

theorem State.evalWinEvent_ext {s : State} {p source num a : Nat} {M₀ : Nat} {a₀ : State} (hM : Within 132 M₀) (h₀ : Ext M₀ a₀ s) :
    Ext M₀ a₀ (State.evalWinEvent s p source num a) := by
  refine Ext.via hM h₀ ?_
  clear hM h₀ M₀ a₀
  suffices H : ∀ a₀, Ext 132 a₀ s → Ext 132 a₀ (State.evalWinEvent s p source num a) from H s (Ext.refl _ _)
  intro a₀ h₀
  unfold State.evalWinEvent
  repeat' first
    | with_reducible assumption
    | (with_reducible intro _; intros; try beta_reduce)
    | with_reducible refine State.event_ext (by decide) ?_
    | split

theorem writePacket_ext {n : Nat} {s : State} {M₀ : Nat} {a₀ : State} (hM : Within 65716 M₀) (h₀ : Ext M₀ a₀ s) :
    Ext M₀ a₀ (writePacket n s) := by
  refine Ext.via hM h₀ ?_
  clear hM h₀ M₀ a₀
  suffices H : ∀ a₀, Ext 65716 a₀ s → Ext 65716 a₀ (writePacket n s) from H s (Ext.refl _ _)
  intro a₀ h₀
  unfold writePacket
  repeat' first
    | with_reducible assumption
    | (with_reducible intro _; intros; try beta_reduce)
    | ((fail_if_no_progress extract_lets +onlyGivenNames t); refine Ext.cut (M := 65716) (a := a₀) (b := t) ?_ (fun ht => ?_); rotate_left; clear_value t)
    | ((fail_if_no_progress extract_lets +onlyGivenNames u); have v : Nat := u; clear v; clear_value u)
    | ((fail_if_no_progress extract_lets +onlyGivenNames u); have v : List _ := u; clear v; clear_value u)
    | ((fail_if_no_progress extract_lets +onlyGivenNames u); have v : Option _ := u; clear v; fail_if_success (have v : Option State := u); clear_value u)
    | (fail_if_no_progress extract_lets +onlyGivenNames u)
    | with_reducible refine State.dropPacket_ext (by decide) ?_
    | with_reducible refine State.consumeRx_ext (by decide) ?_
    | with_reducible refine State.evalWinEvent_ext (by decide) ?_
    | with_reducible refine State.guardRungs_ext (by decide) ?_
    | with_reducible refine State.store_ext (by decide) ?_
    | with_reducible refine State.countRemote_ext (by decide) ?_
    | split
    | (clear_value *; split)
    | (unfold t)
    | (unfold u; try beta_reduce)

theorem legDownNotice_ext {n : Nat} {s : State} {M₀ : Nat} {a₀ : State} (hM : Within 229622 M₀) (h₀ : Ext M₀ a₀ s) :
    Ext M₀ a₀ (legDownNotice n s) := by
  refine Ext.via hM h₀ ?_
  clear hM h₀ M₀ a₀
  suffices H : ∀ a₀, Ext 229622 a₀ s → Ext 229622 a₀ (legDownNotice n s) from H s (Ext.refl _ _)
  intro a₀ h₀
  unfold legDownNotice
  repeat' first
    | with_reducible assumption
    | (with_reducible intro _; intros; try beta_reduce)
    | ((fail_if_no_progress extract_lets +onlyGivenNames t); refine Ext.cut (M := 229622) (a := a₀) (b := t) ?_ (fun ht => ?_); rotate_left; clear_value t)
    | ((fail_if_no_progress extract_lets +onlyGivenNames u); have v : Nat := u; clear v; clear_value u)
    | ((fail_if_no_progress extract_lets +onlyGivenNames u); have v : List _ := u; clear v; clear_value u)
    | ((fail_if_no_progress extract_lets +onlyGivenNames u); have v : Option _ := u; clear v; fail_if_success (have v : Option State := u); clear_value u)
    | (fail_if_no_progress extract_lets +onlyGivenNames u)
    | with_reducible refine State.dropPacket_ext (by decide) ?_
    | with_reducible refine State.consumeRx_ext (by decide) ?_
    | with_reducible refine State.legNotices_ext (by decide) ?_
    | with_reducible refine State.legDown_ext (by decide) ?_
    | (with_reducible refine Ext.foldl _ ?_ ?_)
    | (with_reducible refine Ext.foldl_fst _ ?_ ?_)
    | split
    | (clear_value *; split)
    | (unfold t)
    | (unfold u; try beta_reduce)

theorem reservedKindPacket_ext {n : Nat} {s : State} {M₀ : Nat} {a₀ : State} (hM : Within 65668 M₀) (h₀ : Ext M₀ a₀ s) :
    Ext M₀ a₀ (reservedKindPacket n s) := by
  refine Ext.via hM h₀ ?_
  clear hM h₀ M₀ a₀
  suffices H : ∀ a₀, Ext 65668 a₀ s → Ext 65668 a₀ (reservedKindPacket n s) from H s (Ext.refl _ _)
  intro a₀ h₀
  unfold reservedKindPacket
  repeat' first
    | with_reducible assumption
    | (with_reducible intro _; intros; try beta_reduce)
    | with_reducible refine State.dropPacket_ext (by decide) ?_
    | split

end Sys2Proof.Machine
end

