-- ==== Sys2Proof/Laws/ExtTwin.lean ====
section
/-!
SUPPORT. What each operation of Machine/Twin.lean can change: one lemma each.
-/
namespace Sys2Proof.Machine

theorem State.setSnap_ext {s : State} {x : Snap} {M₀ : Nat} {a₀ : State} (hM : Within 262144 M₀) (h₀ : Ext M₀ a₀ s) :
    Ext M₀ a₀ (State.setSnap s x) := by
  refine Ext.via hM h₀ ?_
  clear hM h₀ M₀ a₀
  suffices H : ∀ a₀, Ext 262144 a₀ s → Ext 262144 a₀ (State.setSnap s x) from H s (Ext.refl _ _)
  intro a₀ h₀
  unfold State.setSnap
  repeat' first
    | with_reducible assumption
    | (with_reducible intro _; intros; try beta_reduce)
    | split
    | (refine Ext.upd ?_ ?_ ?_ ?_ ?_ ?_ ?_ ?_ ?_ ?_ ?_ ?_ ?_ ?_ ?_ ?_ ?_ ?_ ?_ ?_ <;> first | rfl | exact fun _ => rfl | exact fun h => absurd h (by decide) | skip)

theorem State.setTwin_ext {s : State} {x : Twin} {M₀ : Nat} {a₀ : State} (hM : Within 262144 M₀) (h₀ : Ext M₀ a₀ s) :
    Ext M₀ a₀ (State.setTwin s x) := by
  refine Ext.via hM h₀ ?_
  clear hM h₀ M₀ a₀
  suffices H : ∀ a₀, Ext 262144 a₀ s → Ext 262144 a₀ (State.setTwin s x) from H s (Ext.refl _ _)
  intro a₀ h₀
  unfold State.setTwin
  repeat' first
    | with_reducible assumption
    | (with_reducible intro _; intros; try beta_reduce)
    | split
    | (refine Ext.upd ?_ ?_ ?_ ?_ ?_ ?_ ?_ ?_ ?_ ?_ ?_ ?_ ?_ ?_ ?_ ?_ ?_ ?_ ?_ ?_ <;> first | rfl | exact fun _ => rfl | exact fun h => absurd h (by decide) | skip)

theorem State.modeUpdate_ext {s : State} {p : Nat} {M₀ : Nat} {a₀ : State} (hM : Within 4 M₀) (h₀ : Ext M₀ a₀ s) :
    Ext M₀ a₀ (State.modeUpdate s p) := by
  refine Ext.via hM h₀ ?_
  clear hM h₀ M₀ a₀
  suffices H : ∀ a₀, Ext 4 a₀ s → Ext 4 a₀ (State.modeUpdate s p) from H s (Ext.refl _ _)
  intro a₀ h₀
  unfold State.modeUpdate
  repeat' first
    | with_reducible assumption
    | (with_reducible intro _; intros; try beta_reduce)
    | ((fail_if_no_progress extract_lets +onlyGivenNames t); refine Ext.cut (M := 4) (a := a₀) (b := t) ?_ (fun ht => ?_); rotate_left; clear_value t)
    | ((fail_if_no_progress extract_lets +onlyGivenNames u); have v : Nat := u; clear v; clear_value u)
    | ((fail_if_no_progress extract_lets +onlyGivenNames u); have v : List _ := u; clear v; clear_value u)
    | ((fail_if_no_progress extract_lets +onlyGivenNames u); have v : Option _ := u; clear v; fail_if_success (have v : Option State := u); clear_value u)
    | (fail_if_no_progress extract_lets +onlyGivenNames u)
    | with_reducible refine State.put_ext (by decide) ?_
    | split
    | (clear_value *; split)
    | (unfold t)
    | (unfold u; try beta_reduce)

theorem State.modesUpdate_ext {s : State} {M₀ : Nat} {a₀ : State} (hM : Within 4 M₀) (h₀ : Ext M₀ a₀ s) :
    Ext M₀ a₀ (State.modesUpdate s) := by
  refine Ext.via hM h₀ ?_
  clear hM h₀ M₀ a₀
  suffices H : ∀ a₀, Ext 4 a₀ s → Ext 4 a₀ (State.modesUpdate s) from H s (Ext.refl _ _)
  intro a₀ h₀
  unfold State.modesUpdate
  repeat' first
    | with_reducible assumption
    | (with_reducible intro _; intros; try beta_reduce)
    | with_reducible refine State.modeUpdate_ext (by decide) ?_
    | (with_reducible refine Ext.foldl _ ?_ ?_)
    | (with_reducible refine Ext.foldl_fst _ ?_ ?_)
    | split

theorem State.sendNotice_ext {s : State} {body : List Byte} {M₀ : Nat} {a₀ : State} (hM : Within 65536 M₀) (h₀ : Ext M₀ a₀ s) :
    Ext M₀ a₀ (State.sendNotice s body) := by
  refine Ext.via hM h₀ ?_
  clear hM h₀ M₀ a₀
  suffices H : ∀ a₀, Ext 65536 a₀ s → Ext 65536 a₀ (State.sendNotice s body) from H s (Ext.refl _ _)
  intro a₀ h₀
  unfold State.sendNotice
  repeat' first
    | with_reducible assumption
    | (with_reducible intro _; intros; try beta_reduce)
    | with_reducible refine State.sendBoard_ext (by decide) ?_
    | split

theorem State.sendMirrorReset_ext {s : State} {p : Nat} {M₀ : Nat} {a₀ : State} (hM : Within 327680 M₀) (h₀ : Ext M₀ a₀ s) :
    Ext M₀ a₀ (State.sendMirrorReset s p) := by
  refine Ext.via hM h₀ ?_
  clear hM h₀ M₀ a₀
  suffices H : ∀ a₀, Ext 327680 a₀ s → Ext 327680 a₀ (State.sendMirrorReset s p) from H s (Ext.refl _ _)
  intro a₀ h₀
  unfold State.sendMirrorReset
  repeat' first
    | with_reducible assumption
    | (with_reducible intro _; intros; try beta_reduce)
    | with_reducible refine State.sendNotice_ext (by decide) ?_
    | with_reducible refine State.setTwin_ext (by decide) ?_
    | split
    | (refine Ext.upd ?_ ?_ ?_ ?_ ?_ ?_ ?_ ?_ ?_ ?_ ?_ ?_ ?_ ?_ ?_ ?_ ?_ ?_ ?_ ?_ <;> first | rfl | exact fun _ => rfl | exact fun h => absurd h (by decide) | skip)

theorem State.sendOwedResets_ext {s : State} {M₀ : Nat} {a₀ : State} (hM : Within 327680 M₀) (h₀ : Ext M₀ a₀ s) :
    Ext M₀ a₀ (State.sendOwedResets s) := by
  refine Ext.via hM h₀ ?_
  clear hM h₀ M₀ a₀
  suffices H : ∀ a₀, Ext 327680 a₀ s → Ext 327680 a₀ (State.sendOwedResets s) from H s (Ext.refl _ _)
  intro a₀ h₀
  unfold State.sendOwedResets
  repeat' first
    | with_reducible assumption
    | (with_reducible intro _; intros; try beta_reduce)
    | with_reducible refine State.sendMirrorReset_ext (by decide) ?_
    | with_reducible refine State.setTwin_ext (by decide) ?_
    | (with_reducible refine Ext.foldl _ ?_ ?_)
    | (with_reducible refine Ext.foldl_fst _ ?_ ?_)
    | split
    | (refine Ext.upd ?_ ?_ ?_ ?_ ?_ ?_ ?_ ?_ ?_ ?_ ?_ ?_ ?_ ?_ ?_ ?_ ?_ ?_ ?_ ?_ <;> first | rfl | exact fun _ => rfl | exact fun h => absurd h (by decide) | skip)

theorem State.sendHello_ext {s : State} {M₀ : Nat} {a₀ : State} (hM : Within 65540 M₀) (h₀ : Ext M₀ a₀ s) :
    Ext M₀ a₀ (State.sendHello s) := by
  refine Ext.via hM h₀ ?_
  clear hM h₀ M₀ a₀
  suffices H : ∀ a₀, Ext 65540 a₀ s → Ext 65540 a₀ (State.sendHello s) from H s (Ext.refl _ _)
  intro a₀ h₀
  unfold State.sendHello
  repeat' first
    | with_reducible assumption
    | (with_reducible intro _; intros; try beta_reduce)
    | ((fail_if_no_progress extract_lets +onlyGivenNames t); refine Ext.cut (M := 65540) (a := a₀) (b := t) ?_ (fun ht => ?_); rotate_left; clear_value t)
    | ((fail_if_no_progress extract_lets +onlyGivenNames u); have v : Nat := u; clear v; clear_value u)
    | ((fail_if_no_progress extract_lets +onlyGivenNames u); have v : List _ := u; clear v; clear_value u)
    | ((fail_if_no_progress extract_lets +onlyGivenNames u); have v : Option _ := u; clear v; fail_if_success (have v : Option State := u); clear_value u)
    | (fail_if_no_progress extract_lets +onlyGivenNames u)
    | with_reducible refine State.put_ext (by decide) ?_
    | with_reducible refine State.putB_ext (by decide) ?_
    | with_reducible refine State.sendNotice_ext (by decide) ?_
    | split
    | (clear_value *; split)
    | (unfold t)
    | (unfold u; try beta_reduce)

theorem State.applyEnd_ext {s : State} {x : ApplyRun} {result : Nat} {M₀ : Nat} {a₀ : State} (hM : Within 262208 M₀) (h₀ : Ext M₀ a₀ s) :
    Ext M₀ a₀ (State.applyEnd s x result) := by
  refine Ext.via hM h₀ ?_
  clear hM h₀ M₀ a₀
  suffices H : ∀ a₀, Ext 262208 a₀ s → Ext 262208 a₀ (State.applyEnd s x result) from H s (Ext.refl _ _)
  intro a₀ h₀
  unfold State.applyEnd
  repeat' first
    | with_reducible assumption
    | (with_reducible intro _; intros; try beta_reduce)
    | ((fail_if_no_progress extract_lets +onlyGivenNames t); refine Ext.cut (M := 262208) (a := a₀) (b := t) ?_ (fun ht => ?_); rotate_left; clear_value t)
    | ((fail_if_no_progress extract_lets +onlyGivenNames u); have v : Nat := u; clear v; clear_value u)
    | ((fail_if_no_progress extract_lets +onlyGivenNames u); have v : List _ := u; clear v; clear_value u)
    | ((fail_if_no_progress extract_lets +onlyGivenNames u); have v : Option _ := u; clear v; fail_if_success (have v : Option State := u); clear_value u)
    | (fail_if_no_progress extract_lets +onlyGivenNames u)
    | with_reducible refine State.setTwin_ext (by decide) ?_
    | with_reducible refine State.finish_ext (by decide) ?_
    | split
    | (clear_value *; split)
    | (unfold t)
    | (unfold u; try beta_reduce)
    | (refine Ext.upd ?_ ?_ ?_ ?_ ?_ ?_ ?_ ?_ ?_ ?_ ?_ ?_ ?_ ?_ ?_ ?_ ?_ ?_ ?_ ?_ <;> first | rfl | exact fun _ => rfl | exact fun h => absurd h (by decide) | skip)

theorem State.dropMirrors_ext {s : State} {M₀ : Nat} {a₀ : State} (hM : Within 262208 M₀) (h₀ : Ext M₀ a₀ s) :
    Ext M₀ a₀ (State.dropMirrors s) := by
  refine Ext.via hM h₀ ?_
  clear hM h₀ M₀ a₀
  suffices H : ∀ a₀, Ext 262208 a₀ s → Ext 262208 a₀ (State.dropMirrors s) from H s (Ext.refl _ _)
  intro a₀ h₀
  unfold State.dropMirrors
  repeat' first
    | with_reducible assumption
    | (with_reducible intro _; intros; try beta_reduce)
    | with_reducible refine State.applyEnd_ext (by decide) ?_
    | (with_reducible refine Ext.foldl _ ?_ ?_)
    | (with_reducible refine Ext.foldl_fst _ ?_ ?_)
    | split

theorem State.twinFail_ext {s : State} {cause : Nat} {M₀ : Nat} {a₀ : State} (hM : Within 491766 M₀) (h₀ : Ext M₀ a₀ s) :
    Ext M₀ a₀ (State.twinFail s cause) := by
  refine Ext.via hM h₀ ?_
  clear hM h₀ M₀ a₀
  suffices H : ∀ a₀, Ext 491766 a₀ s → Ext 491766 a₀ (State.twinFail s cause) from H s (Ext.refl _ _)
  intro a₀ h₀
  unfold State.twinFail
  repeat' first
    | with_reducible assumption
    | (with_reducible intro _; intros; try beta_reduce)
    | ((fail_if_no_progress extract_lets +onlyGivenNames t); refine Ext.cut (M := 491766) (a := a₀) (b := t) ?_ (fun ht => ?_); rotate_left; clear_value t)
    | ((fail_if_no_progress extract_lets +onlyGivenNames u); have v : Nat := u; clear v; clear_value u)
    | ((fail_if_no_progress extract_lets +onlyGivenNames u); have v : List _ := u; clear v; clear_value u)
    | ((fail_if_no_progress extract_lets +onlyGivenNames u); have v : Option _ := u; clear v; fail_if_success (have v : Option State := u); clear_value u)
    | (fail_if_no_progress extract_lets +onlyGivenNames u)
    | with_reducible refine State.raise_ext (by decide) ?_
    | with_reducible refine State.put_ext (by decide) ?_
    | with_reducible refine State.setTwin_ext (by decide) ?_
    | with_reducible refine State.dropMirrors_ext (by decide) ?_
    | with_reducible refine State.modesUpdate_ext (by decide) ?_
    | with_reducible refine State.reportOrOwe_ext (by decide) ?_
    | (with_reducible refine Ext.foldl _ ?_ ?_)
    | (with_reducible refine Ext.foldl_fst _ ?_ ?_)
    | split
    | (clear_value *; split)
    | (unfold t)
    | (unfold u; try beta_reduce)
    | (refine Ext.upd ?_ ?_ ?_ ?_ ?_ ?_ ?_ ?_ ?_ ?_ ?_ ?_ ?_ ?_ ?_ ?_ ?_ ?_ ?_ ?_ <;> first | rfl | exact fun _ => rfl | exact fun h => absurd h (by decide) | skip)

theorem twinHello_ext {n : Nat} {s : State} {M₀ : Nat} {a₀ : State} (hM : Within 327876 M₀) (h₀ : Ext M₀ a₀ s) :
    Ext M₀ a₀ (twinHello n s) := by
  refine Ext.via hM h₀ ?_
  clear hM h₀ M₀ a₀
  suffices H : ∀ a₀, Ext 327876 a₀ s → Ext 327876 a₀ (twinHello n s) from H s (Ext.refl _ _)
  intro a₀ h₀
  unfold twinHello
  repeat' first
    | with_reducible assumption
    | (with_reducible intro _; intros; try beta_reduce)
    | ((fail_if_no_progress extract_lets +onlyGivenNames t); refine Ext.cut (M := 327876) (a := a₀) (b := t) ?_ (fun ht => ?_); rotate_left; clear_value t)
    | ((fail_if_no_progress extract_lets +onlyGivenNames u); have v : Nat := u; clear v; clear_value u)
    | ((fail_if_no_progress extract_lets +onlyGivenNames u); have v : List _ := u; clear v; clear_value u)
    | ((fail_if_no_progress extract_lets +onlyGivenNames u); have v : Option _ := u; clear v; fail_if_success (have v : Option State := u); clear_value u)
    | (fail_if_no_progress extract_lets +onlyGivenNames u)
    | with_reducible refine State.consumeRx_ext (by decide) ?_
    | with_reducible refine State.setTwin_ext (by decide) ?_
    | with_reducible refine State.sendHello_ext (by decide) ?_
    | with_reducible refine State.put_ext (by decide) ?_
    | with_reducible refine State.event_ext (by decide) ?_
    | with_reducible refine State.dropMirrors_ext (by decide) ?_
    | with_reducible refine State.modesUpdate_ext (by decide) ?_
    | with_reducible refine State.sendOwedResets_ext (by decide) ?_
    | split
    | (clear_value *; split)
    | (unfold t)
    | (unfold u; try beta_reduce)
    | (refine Ext.upd ?_ ?_ ?_ ?_ ?_ ?_ ?_ ?_ ?_ ?_ ?_ ?_ ?_ ?_ ?_ ?_ ?_ ?_ ?_ ?_ <;> first | rfl | exact fun _ => rfl | exact fun h => absurd h (by decide) | skip)

theorem twinHelloRetry_ext {s : State} {M₀ : Nat} {a₀ : State} (hM : Within 65540 M₀) (h₀ : Ext M₀ a₀ s) :
    Ext M₀ a₀ (twinHelloRetry s) := by
  refine Ext.via hM h₀ ?_
  clear hM h₀ M₀ a₀
  suffices H : ∀ a₀, Ext 65540 a₀ s → Ext 65540 a₀ (twinHelloRetry s) from H s (Ext.refl _ _)
  intro a₀ h₀
  unfold twinHelloRetry
  repeat' first
    | with_reducible assumption
    | (with_reducible intro _; intros; try beta_reduce)
    | with_reducible refine State.sendHello_ext (by decide) ?_
    | split

theorem twinBeatSend_ext {s : State} {M₀ : Nat} {a₀ : State} (hM : Within 65536 M₀) (h₀ : Ext M₀ a₀ s) :
    Ext M₀ a₀ (twinBeatSend s) := by
  refine Ext.via hM h₀ ?_
  clear hM h₀ M₀ a₀
  suffices H : ∀ a₀, Ext 65536 a₀ s → Ext 65536 a₀ (twinBeatSend s) from H s (Ext.refl _ _)
  intro a₀ h₀
  unfold twinBeatSend
  repeat' first
    | with_reducible assumption
    | (with_reducible intro _; intros; try beta_reduce)
    | with_reducible refine State.sendNotice_ext (by decide) ?_
    | split

theorem twinBeat_ext {n : Nat} {s : State} {M₀ : Nat} {a₀ : State} (hM : Within 327680 M₀) (h₀ : Ext M₀ a₀ s) :
    Ext M₀ a₀ (twinBeat n s) := by
  refine Ext.via hM h₀ ?_
  clear hM h₀ M₀ a₀
  suffices H : ∀ a₀, Ext 327680 a₀ s → Ext 327680 a₀ (twinBeat n s) from H s (Ext.refl _ _)
  intro a₀ h₀
  unfold twinBeat
  repeat' first
    | with_reducible assumption
    | (with_reducible intro _; intros; try beta_reduce)
    | ((fail_if_no_progress extract_lets +onlyGivenNames t); refine Ext.cut (M := 327680) (a := a₀) (b := t) ?_ (fun ht => ?_); rotate_left; clear_value t)
    | ((fail_if_no_progress extract_lets +onlyGivenNames u); have v : Nat := u; clear v; clear_value u)
    | ((fail_if_no_progress extract_lets +onlyGivenNames u); have v : List _ := u; clear v; clear_value u)
    | ((fail_if_no_progress extract_lets +onlyGivenNames u); have v : Option _ := u; clear v; fail_if_success (have v : Option State := u); clear_value u)
    | (fail_if_no_progress extract_lets +onlyGivenNames u)
    | with_reducible refine State.consumeRx_ext (by decide) ?_
    | with_reducible refine State.setTwin_ext (by decide) ?_
    | split
    | (clear_value *; split)
    | (unfold t)
    | (unfold u; try beta_reduce)
    | (refine Ext.upd ?_ ?_ ?_ ?_ ?_ ?_ ?_ ?_ ?_ ?_ ?_ ?_ ?_ ?_ ?_ ?_ ?_ ?_ ?_ ?_ <;> first | rfl | exact fun _ => rfl | exact fun h => absurd h (by decide) | skip)

theorem beatLimit_ext {s : State} {M₀ : Nat} {a₀ : State} (hM : Within 491766 M₀) (h₀ : Ext M₀ a₀ s) :
    Ext M₀ a₀ (beatLimit s) := by
  refine Ext.via hM h₀ ?_
  clear hM h₀ M₀ a₀
  suffices H : ∀ a₀, Ext 491766 a₀ s → Ext 491766 a₀ (beatLimit s) from H s (Ext.refl _ _)
  intro a₀ h₀
  unfold beatLimit
  repeat' first
    | with_reducible assumption
    | (with_reducible intro _; intros; try beta_reduce)
    | with_reducible refine State.twinFail_ext (by decide) ?_
    | split

theorem twinFailedNotice_ext {n : Nat} {s : State} {M₀ : Nat} {a₀ : State} (hM : Within 491766 M₀) (h₀ : Ext M₀ a₀ s) :
    Ext M₀ a₀ (twinFailedNotice n s) := by
  refine Ext.via hM h₀ ?_
  clear hM h₀ M₀ a₀
  suffices H : ∀ a₀, Ext 491766 a₀ s → Ext 491766 a₀ (twinFailedNotice n s) from H s (Ext.refl _ _)
  intro a₀ h₀
  unfold twinFailedNotice
  repeat' first
    | with_reducible assumption
    | (with_reducible intro _; intros; try beta_reduce)
    | with_reducible refine State.consumeRx_ext (by decide) ?_
    | with_reducible refine State.twinFail_ext (by decide) ?_
    | split

theorem State.sendTwinFailed_ext {s : State} {cause : Nat} {M₀ : Nat} {a₀ : State} (hM : Within 65536 M₀) (h₀ : Ext M₀ a₀ s) :
    Ext M₀ a₀ (State.sendTwinFailed s cause) := by
  refine Ext.via hM h₀ ?_
  clear hM h₀ M₀ a₀
  suffices H : ∀ a₀, Ext 65536 a₀ s → Ext 65536 a₀ (State.sendTwinFailed s cause) from H s (Ext.refl _ _)
  intro a₀ h₀
  unfold State.sendTwinFailed
  repeat' first
    | with_reducible assumption
    | (with_reducible intro _; intros; try beta_reduce)
    | with_reducible refine State.sendNotice_ext (by decide) ?_
    | split

theorem identUp_ext {n : Nat} {s : State} {M₀ : Nat} {a₀ : State} (hM : Within 65668 M₀) (h₀ : Ext M₀ a₀ s) :
    Ext M₀ a₀ (identUp n s) := by
  refine Ext.via hM h₀ ?_
  clear hM h₀ M₀ a₀
  suffices H : ∀ a₀, Ext 65668 a₀ s → Ext 65668 a₀ (identUp n s) from H s (Ext.refl _ _)
  intro a₀ h₀
  unfold identUp
  repeat' first
    | with_reducible assumption
    | (with_reducible intro _; intros; try beta_reduce)
    | ((fail_if_no_progress extract_lets +onlyGivenNames t); refine Ext.cut (M := 65668) (a := a₀) (b := t) ?_ (fun ht => ?_); rotate_left; clear_value t)
    | ((fail_if_no_progress extract_lets +onlyGivenNames u); have v : Nat := u; clear v; clear_value u)
    | ((fail_if_no_progress extract_lets +onlyGivenNames u); have v : List _ := u; clear v; clear_value u)
    | ((fail_if_no_progress extract_lets +onlyGivenNames u); have v : Option _ := u; clear v; fail_if_success (have v : Option State := u); clear_value u)
    | (fail_if_no_progress extract_lets +onlyGivenNames u)
    | with_reducible refine identPacket_ext (by decide) ?_
    | with_reducible refine State.sendHello_ext (by decide) ?_
    | split
    | (clear_value *; split)
    | (unfold t)
    | (unfold u; try beta_reduce)

theorem State.sendMirror_ext {s : State} {p slot step addr part bytes : Nat} {data : List Byte} {M₀ : Nat} {a₀ : State} (hM : Within 327680 M₀) (h₀ : Ext M₀ a₀ s) :
    Ext M₀ a₀ ((State.sendMirror s p slot step addr part bytes data).1) := by
  refine Ext.via hM h₀ ?_
  clear hM h₀ M₀ a₀
  suffices H : ∀ a₀, Ext 327680 a₀ s → Ext 327680 a₀ ((State.sendMirror s p slot step addr part bytes data).1) from H s (Ext.refl _ _)
  intro a₀ h₀
  unfold State.sendMirror
  repeat' first
    | with_reducible assumption
    | (with_reducible intro _; intros; try beta_reduce)
    | ((fail_if_no_progress extract_lets +onlyGivenNames t); refine Ext.cut (M := 327680) (a := a₀) (b := t) ?_ (fun ht => ?_); rotate_left; clear_value t)
    | ((fail_if_no_progress extract_lets +onlyGivenNames u); have v : Nat := u; clear v; clear_value u)
    | ((fail_if_no_progress extract_lets +onlyGivenNames u); have v : List _ := u; clear v; clear_value u)
    | ((fail_if_no_progress extract_lets +onlyGivenNames u); have v : Option _ := u; clear v; fail_if_success (have v : Option State := u); clear_value u)
    | (fail_if_no_progress extract_lets +onlyGivenNames u)
    | with_reducible refine State.setTwin_ext (by decide) ?_
    | with_reducible refine State.sendBoard_ext (by decide) ?_
    | split
    | (clear_value *; split)
    | (unfold t)
    | (unfold u; try beta_reduce)
    | (refine Ext.upd ?_ ?_ ?_ ?_ ?_ ?_ ?_ ?_ ?_ ?_ ?_ ?_ ?_ ?_ ?_ ?_ ?_ ?_ ?_ ?_ <;> first | rfl | exact fun _ => rfl | exact fun h => absurd h (by decide) | skip)

theorem State.sendCommits_ext {s : State} {M₀ : Nat} {a₀ : State} (hM : Within 327680 M₀) (h₀ : Ext M₀ a₀ s) :
    Ext M₀ a₀ (State.sendCommits s) := by
  refine Ext.via hM h₀ ?_
  clear hM h₀ M₀ a₀
  suffices H : ∀ a₀, Ext 327680 a₀ s → Ext 327680 a₀ (State.sendCommits s) from H s (Ext.refl _ _)
  intro a₀ h₀
  unfold State.sendCommits
  repeat' first
    | with_reducible assumption
    | (with_reducible intro _; intros; try beta_reduce)
    | ((fail_if_no_progress extract_lets +onlyGivenNames t); refine Ext.cut (M := 327680) (a := a₀) (b := t) ?_ (fun ht => ?_); rotate_left; clear_value t)
    | ((fail_if_no_progress extract_lets +onlyGivenNames u); have v : Nat := u; clear v; clear_value u)
    | ((fail_if_no_progress extract_lets +onlyGivenNames u); have v : List _ := u; clear v; clear_value u)
    | ((fail_if_no_progress extract_lets +onlyGivenNames u); have v : Option _ := u; clear v; fail_if_success (have v : Option State := u); clear_value u)
    | (fail_if_no_progress extract_lets +onlyGivenNames u)
    | with_reducible refine State.sendMirror_ext (by decide) ?_
    | with_reducible refine State.setTwin_ext (by decide) ?_
    | (with_reducible refine Ext.foldl _ ?_ ?_)
    | (with_reducible refine Ext.foldl_fst _ ?_ ?_)
    | split
    | (clear_value *; split)
    | (unfold t)
    | (unfold u; try beta_reduce)
    | (refine Ext.upd ?_ ?_ ?_ ?_ ?_ ?_ ?_ ?_ ?_ ?_ ?_ ?_ ?_ ?_ ?_ ?_ ?_ ?_ ?_ ?_ <;> first | rfl | exact fun _ => rfl | exact fun h => absurd h (by decide) | skip)

theorem mirrorAck_ext {n : Nat} {s : State} {M₀ : Nat} {a₀ : State} (hM : Within 327876 M₀) (h₀ : Ext M₀ a₀ s) :
    Ext M₀ a₀ (mirrorAck n s) := by
  refine Ext.via hM h₀ ?_
  clear hM h₀ M₀ a₀
  suffices H : ∀ a₀, Ext 327876 a₀ s → Ext 327876 a₀ (mirrorAck n s) from H s (Ext.refl _ _)
  intro a₀ h₀
  unfold mirrorAck
  repeat' first
    | with_reducible assumption
    | (with_reducible intro _; intros; try beta_reduce)
    | ((fail_if_no_progress extract_lets +onlyGivenNames t); refine Ext.cut (M := 327876) (a := a₀) (b := t) ?_ (fun ht => ?_); rotate_left; clear_value t)
    | ((fail_if_no_progress extract_lets +onlyGivenNames u); have v : Nat := u; clear v; clear_value u)
    | ((fail_if_no_progress extract_lets +onlyGivenNames u); have v : List _ := u; clear v; clear_value u)
    | ((fail_if_no_progress extract_lets +onlyGivenNames u); have v : Option _ := u; clear v; fail_if_success (have v : Option State := u); clear_value u)
    | (fail_if_no_progress extract_lets +onlyGivenNames u)
    | with_reducible refine State.dropPacket_ext (by decide) ?_
    | with_reducible refine State.consumeRx_ext (by decide) ?_
    | with_reducible refine State.applyEnd_ext (by decide) ?_
    | with_reducible refine State.setTwin_ext (by decide) ?_
    | with_reducible refine State.wr_ext (by decide) ?_
    | with_reducible refine State.sendCommits_ext (by decide) ?_
    | with_reducible refine State.modeUpdate_ext (by decide) ?_
    | (with_reducible refine Ext.foldl _ ?_ ?_)
    | (with_reducible refine Ext.foldl_fst _ ?_ ?_)
    | split
    | (clear_value *; split)
    | (unfold t)
    | (unfold u; try beta_reduce)
    | (refine Ext.upd ?_ ?_ ?_ ?_ ?_ ?_ ?_ ?_ ?_ ?_ ?_ ?_ ?_ ?_ ?_ ?_ ?_ ?_ ?_ ?_ <;> first | rfl | exact fun _ => rfl | exact fun h => absurd h (by decide) | skip)

theorem State.sendMirrorAck_ext {s : State} {p job m flags step : Nat} {M₀ : Nat} {a₀ : State} (hM : Within 327680 M₀) (h₀ : Ext M₀ a₀ s) :
    Ext M₀ a₀ (State.sendMirrorAck s p job m flags step) := by
  refine Ext.via hM h₀ ?_
  clear hM h₀ M₀ a₀
  suffices H : ∀ a₀, Ext 327680 a₀ s → Ext 327680 a₀ (State.sendMirrorAck s p job m flags step) from H s (Ext.refl _ _)
  intro a₀ h₀
  unfold State.sendMirrorAck
  repeat' first
    | with_reducible assumption
    | (with_reducible intro _; intros; try beta_reduce)
    | ((fail_if_no_progress extract_lets +onlyGivenNames t); refine Ext.cut (M := 327680) (a := a₀) (b := t) ?_ (fun ht => ?_); rotate_left; clear_value t)
    | ((fail_if_no_progress extract_lets +onlyGivenNames u); have v : Nat := u; clear v; clear_value u)
    | ((fail_if_no_progress extract_lets +onlyGivenNames u); have v : List _ := u; clear v; clear_value u)
    | ((fail_if_no_progress extract_lets +onlyGivenNames u); have v : Option _ := u; clear v; fail_if_success (have v : Option State := u); clear_value u)
    | (fail_if_no_progress extract_lets +onlyGivenNames u)
    | with_reducible refine State.setTwin_ext (by decide) ?_
    | with_reducible refine State.sendBoard_ext (by decide) ?_
    | split
    | (clear_value *; split)
    | (unfold t)
    | (unfold u; try beta_reduce)
    | (refine Ext.upd ?_ ?_ ?_ ?_ ?_ ?_ ?_ ?_ ?_ ?_ ?_ ?_ ?_ ?_ ?_ ?_ ?_ ?_ ?_ ?_ <;> first | rfl | exact fun _ => rfl | exact fun h => absurd h (by decide) | skip)

theorem State.fillBuf_ext {s : State} {p b step : Nat} {M₀ : Nat} {a₀ : State} (hM : Within 262148 M₀) (h₀ : Ext M₀ a₀ s) :
    Ext M₀ a₀ (State.fillBuf s p b step) := by
  refine Ext.via hM h₀ ?_
  clear hM h₀ M₀ a₀
  suffices H : ∀ a₀, Ext 262148 a₀ s → Ext 262148 a₀ (State.fillBuf s p b step) from H s (Ext.refl _ _)
  intro a₀ h₀
  unfold State.fillBuf
  repeat' first
    | with_reducible assumption
    | (with_reducible intro _; intros; try beta_reduce)
    | ((fail_if_no_progress extract_lets +onlyGivenNames t); refine Ext.cut (M := 262148) (a := a₀) (b := t) ?_ (fun ht => ?_); rotate_left; clear_value t)
    | ((fail_if_no_progress extract_lets +onlyGivenNames u); have v : Nat := u; clear v; clear_value u)
    | ((fail_if_no_progress extract_lets +onlyGivenNames u); have v : List _ := u; clear v; clear_value u)
    | ((fail_if_no_progress extract_lets +onlyGivenNames u); have v : Option _ := u; clear v; fail_if_success (have v : Option State := u); clear_value u)
    | (fail_if_no_progress extract_lets +onlyGivenNames u)
    | with_reducible refine State.put_ext (by decide) ?_
    | with_reducible refine State.setTwin_ext (by decide) ?_
    | split
    | (clear_value *; split)
    | (unfold t)
    | (unfold u; try beta_reduce)
    | (refine Ext.upd ?_ ?_ ?_ ?_ ?_ ?_ ?_ ?_ ?_ ?_ ?_ ?_ ?_ ?_ ?_ ?_ ?_ ?_ ?_ ?_ <;> first | rfl | exact fun _ => rfl | exact fun h => absurd h (by decide) | skip)

theorem State.countBuf_ext {s : State} {p b step n : Nat} {M₀ : Nat} {a₀ : State} (hM : Within 262276 M₀) (h₀ : Ext M₀ a₀ s) :
    Ext M₀ a₀ ((State.countBuf s p b step n).1) := by
  refine Ext.via hM h₀ ?_
  clear hM h₀ M₀ a₀
  suffices H : ∀ a₀, Ext 262276 a₀ s → Ext 262276 a₀ ((State.countBuf s p b step n).1) from H s (Ext.refl _ _)
  intro a₀ h₀
  unfold State.countBuf
  repeat' first
    | with_reducible assumption
    | (with_reducible intro _; intros; try beta_reduce)
    | ((fail_if_no_progress extract_lets +onlyGivenNames t); refine Ext.cut (M := 262276) (a := a₀) (b := t) ?_ (fun ht => ?_); rotate_left; clear_value t)
    | ((fail_if_no_progress extract_lets +onlyGivenNames u); have v : Nat := u; clear v; clear_value u)
    | ((fail_if_no_progress extract_lets +onlyGivenNames u); have v : List _ := u; clear v; clear_value u)
    | ((fail_if_no_progress extract_lets +onlyGivenNames u); have v : Option _ := u; clear v; fail_if_success (have v : Option State := u); clear_value u)
    | (fail_if_no_progress extract_lets +onlyGivenNames u)
    | with_reducible refine State.fillBuf_ext (by decide) ?_
    | with_reducible refine State.setTwin_ext (by decide) ?_
    | with_reducible refine State.put_ext (by decide) ?_
    | with_reducible refine State.event_ext (by decide) ?_
    | split
    | (clear_value *; split)
    | (unfold t)
    | (unfold u; try beta_reduce)
    | (refine Ext.upd ?_ ?_ ?_ ?_ ?_ ?_ ?_ ?_ ?_ ?_ ?_ ?_ ?_ ?_ ?_ ?_ ?_ ?_ ?_ ?_ <;> first | rfl | exact fun _ => rfl | exact fun h => absurd h (by decide) | skip)

theorem State.noteMseq_ext {s : State} {p m : Nat} {M₀ : Nat} {a₀ : State} (hM : Within 262144 M₀) (h₀ : Ext M₀ a₀ s) :
    Ext M₀ a₀ (State.noteMseq s p m) := by
  refine Ext.via hM h₀ ?_
  clear hM h₀ M₀ a₀
  suffices H : ∀ a₀, Ext 262144 a₀ s → Ext 262144 a₀ (State.noteMseq s p m) from H s (Ext.refl _ _)
  intro a₀ h₀
  unfold State.noteMseq
  repeat' first
    | with_reducible assumption
    | (with_reducible intro _; intros; try beta_reduce)
    | ((fail_if_no_progress extract_lets +onlyGivenNames t); refine Ext.cut (M := 262144) (a := a₀) (b := t) ?_ (fun ht => ?_); rotate_left; clear_value t)
    | ((fail_if_no_progress extract_lets +onlyGivenNames u); have v : Nat := u; clear v; clear_value u)
    | ((fail_if_no_progress extract_lets +onlyGivenNames u); have v : List _ := u; clear v; clear_value u)
    | ((fail_if_no_progress extract_lets +onlyGivenNames u); have v : Option _ := u; clear v; fail_if_success (have v : Option State := u); clear_value u)
    | (fail_if_no_progress extract_lets +onlyGivenNames u)
    | with_reducible refine State.setTwin_ext (by decide) ?_
    | split
    | (clear_value *; split)
    | (unfold t)
    | (unfold u; try beta_reduce)
    | (refine Ext.upd ?_ ?_ ?_ ?_ ?_ ?_ ?_ ?_ ?_ ?_ ?_ ?_ ?_ ?_ ?_ ?_ ?_ ?_ ?_ ?_ <;> first | rfl | exact fun _ => rfl | exact fun h => absurd h (by decide) | skip)

theorem mirrorData_ext {n : Nat} {s : State} {M₀ : Nat} {a₀ : State} (hM : Within 327860 M₀) (h₀ : Ext M₀ a₀ s) :
    Ext M₀ a₀ (mirrorData n s) := by
  refine Ext.via hM h₀ ?_
  clear hM h₀ M₀ a₀
  suffices H : ∀ a₀, Ext 327860 a₀ s → Ext 327860 a₀ (mirrorData n s) from H s (Ext.refl _ _)
  intro a₀ h₀
  unfold mirrorData
  repeat' first
    | with_reducible assumption
    | (with_reducible intro _; intros; try beta_reduce)
    | ((fail_if_no_progress extract_lets +onlyGivenNames t); refine Ext.cut (M := 327860) (a := a₀) (b := t) ?_ (fun ht => ?_); rotate_left; clear_value t)
    | ((fail_if_no_progress extract_lets +onlyGivenNames u); have v : Nat := u; clear v; clear_value u)
    | ((fail_if_no_progress extract_lets +onlyGivenNames u); have v : List _ := u; clear v; clear_value u)
    | ((fail_if_no_progress extract_lets +onlyGivenNames u); have v : Option _ := u; clear v; fail_if_success (have v : Option State := u); clear_value u)
    | (fail_if_no_progress extract_lets +onlyGivenNames u)
    | with_reducible refine State.dropPacket_ext (by decide) ?_
    | with_reducible refine State.consumeRx_ext (by decide) ?_
    | with_reducible refine State.evalWinEvent_ext (by decide) ?_
    | with_reducible refine State.sendMirrorAck_ext (by decide) ?_
    | with_reducible refine State.fillBuf_ext (by decide) ?_
    | with_reducible refine State.store_ext (by decide) ?_
    | with_reducible refine State.countRemote_ext (by decide) ?_
    | with_reducible refine State.noteMseq_ext (by decide) ?_
    | split
    | (clear_value *; split)
    | (unfold t)
    | (unfold u; try beta_reduce)

theorem mirrorCommit_ext {n : Nat} {s : State} {M₀ : Nat} {a₀ : State} (hM : Within 327812 M₀) (h₀ : Ext M₀ a₀ s) :
    Ext M₀ a₀ (mirrorCommit n s) := by
  refine Ext.via hM h₀ ?_
  clear hM h₀ M₀ a₀
  suffices H : ∀ a₀, Ext 327812 a₀ s → Ext 327812 a₀ (mirrorCommit n s) from H s (Ext.refl _ _)
  intro a₀ h₀
  unfold mirrorCommit
  repeat' first
    | with_reducible assumption
    | (with_reducible intro _; intros; try beta_reduce)
    | ((fail_if_no_progress extract_lets +onlyGivenNames t); refine Ext.cut (M := 327812) (a := a₀) (b := t) ?_ (fun ht => ?_); rotate_left; clear_value t)
    | ((fail_if_no_progress extract_lets +onlyGivenNames u); have v : Nat := u; clear v; clear_value u)
    | ((fail_if_no_progress extract_lets +onlyGivenNames u); have v : List _ := u; clear v; clear_value u)
    | ((fail_if_no_progress extract_lets +onlyGivenNames u); have v : Option _ := u; clear v; fail_if_success (have v : Option State := u); clear_value u)
    | (fail_if_no_progress extract_lets +onlyGivenNames u)
    | with_reducible refine State.dropPacket_ext (by decide) ?_
    | with_reducible refine State.consumeRx_ext (by decide) ?_
    | with_reducible refine State.sendMirrorAck_ext (by decide) ?_
    | with_reducible refine State.noteMseq_ext (by decide) ?_
    | with_reducible refine State.countBuf_ext (by decide) ?_
    | split
    | (clear_value *; split)
    | (unfold t)
    | (unfold u; try beta_reduce)

theorem mirrorAckTimer_ext {p : Nat} {s : State} {M₀ : Nat} {a₀ : State} (hM : Within 327680 M₀) (h₀ : Ext M₀ a₀ s) :
    Ext M₀ a₀ (mirrorAckTimer p s) := by
  refine Ext.via hM h₀ ?_
  clear hM h₀ M₀ a₀
  suffices H : ∀ a₀, Ext 327680 a₀ s → Ext 327680 a₀ (mirrorAckTimer p s) from H s (Ext.refl _ _)
  intro a₀ h₀
  unfold mirrorAckTimer
  repeat' first
    | with_reducible assumption
    | (with_reducible intro _; intros; try beta_reduce)
    | ((fail_if_no_progress extract_lets +onlyGivenNames t); refine Ext.cut (M := 327680) (a := a₀) (b := t) ?_ (fun ht => ?_); rotate_left; clear_value t)
    | ((fail_if_no_progress extract_lets +onlyGivenNames u); have v : Nat := u; clear v; clear_value u)
    | ((fail_if_no_progress extract_lets +onlyGivenNames u); have v : List _ := u; clear v; clear_value u)
    | ((fail_if_no_progress extract_lets +onlyGivenNames u); have v : Option _ := u; clear v; fail_if_success (have v : Option State := u); clear_value u)
    | (fail_if_no_progress extract_lets +onlyGivenNames u)
    | with_reducible refine State.sendMirrorAck_ext (by decide) ?_
    | split
    | (clear_value *; split)
    | (unfold t)
    | (unfold u; try beta_reduce)

theorem mirrorReset_ext {n : Nat} {s : State} {M₀ : Nat} {a₀ : State} (hM : Within 65540 M₀) (h₀ : Ext M₀ a₀ s) :
    Ext M₀ a₀ (mirrorReset n s) := by
  refine Ext.via hM h₀ ?_
  clear hM h₀ M₀ a₀
  suffices H : ∀ a₀, Ext 65540 a₀ s → Ext 65540 a₀ (mirrorReset n s) from H s (Ext.refl _ _)
  intro a₀ h₀
  unfold mirrorReset
  repeat' first
    | with_reducible assumption
    | (with_reducible intro _; intros; try beta_reduce)
    | ((fail_if_no_progress extract_lets +onlyGivenNames t); refine Ext.cut (M := 65540) (a := a₀) (b := t) ?_ (fun ht => ?_); rotate_left; clear_value t)
    | ((fail_if_no_progress extract_lets +onlyGivenNames u); have v : Nat := u; clear v; clear_value u)
    | ((fail_if_no_progress extract_lets +onlyGivenNames u); have v : List _ := u; clear v; clear_value u)
    | ((fail_if_no_progress extract_lets +onlyGivenNames u); have v : Option _ := u; clear v; fail_if_success (have v : Option State := u); clear_value u)
    | (fail_if_no_progress extract_lets +onlyGivenNames u)
    | with_reducible refine State.consumeRx_ext (by decide) ?_
    | with_reducible refine State.put_ext (by decide) ?_
    | split
    | (clear_value *; split)
    | (unfold t)
    | (unfold u; try beta_reduce)

theorem State.localCommit_ext {s : State} {p a step n : Nat} {M₀ : Nat} {a₀ : State} (hM : Within 262276 M₀) (h₀ : Ext M₀ a₀ s) :
    Ext M₀ a₀ (State.localCommit s p a step n) := by
  refine Ext.via hM h₀ ?_
  clear hM h₀ M₀ a₀
  suffices H : ∀ a₀, Ext 262276 a₀ s → Ext 262276 a₀ (State.localCommit s p a step n) from H s (Ext.refl _ _)
  intro a₀ h₀
  unfold State.localCommit
  repeat' first
    | with_reducible assumption
    | (with_reducible intro _; intros; try beta_reduce)
    | with_reducible refine State.countBuf_ext (by decide) ?_
    | split

theorem State.askHandback_ext {s : State} {p list : Nat} {M₀ : Nat} {a₀ : State} (hM : Within 65536 M₀) (h₀ : Ext M₀ a₀ s) :
    OptExt M₀ a₀ (State.askHandback s p list) := by
  refine OptExt.via hM h₀ ?_
  clear hM h₀ M₀ a₀
  suffices H : ∀ a₀, Ext 65536 a₀ s → OptExt 65536 a₀ (State.askHandback s p list) from H s (Ext.refl _ _)
  intro a₀ h₀
  unfold State.askHandback
  repeat' first
    | with_reducible assumption
    | with_reducible exact OptExt.none
    | with_reducible refine OptExt.some ?_
    | with_reducible refine OptExt.bind ?_ ?_
    | (with_reducible intro _; intros; try beta_reduce)
    | with_reducible refine State.sendNotice_ext (by decide) ?_
    | split

theorem State.handbackGo_ext {s : State} {p : Nat} {M₀ : Nat} {a₀ : State} (hM : Within 65540 M₀) (h₀ : Ext M₀ a₀ s) :
    Ext M₀ a₀ (State.handbackGo s p) := by
  refine Ext.via hM h₀ ?_
  clear hM h₀ M₀ a₀
  suffices H : ∀ a₀, Ext 65540 a₀ s → Ext 65540 a₀ (State.handbackGo s p) from H s (Ext.refl _ _)
  intro a₀ h₀
  unfold State.handbackGo
  repeat' first
    | with_reducible assumption
    | (with_reducible intro _; intros; try beta_reduce)
    | with_reducible refine State.put_ext (by decide) ?_
    | with_reducible exact OptExt.out (State.askHandback_ext (M₀ := 65540) (a₀ := a₀) (by decide) (by assumption)) (by assumption)
    | split

theorem handbackGoWrite_ext {w : Writer} {n v : Nat} {s : State} {M₀ : Nat} {a₀ : State} (hM : Within 65668 M₀) (h₀ : Ext M₀ a₀ s) :
    Ext M₀ a₀ (handbackGoWrite w n v s) := by
  refine Ext.via hM h₀ ?_
  clear hM h₀ M₀ a₀
  suffices H : ∀ a₀, Ext 65668 a₀ s → Ext 65668 a₀ (handbackGoWrite w n v s) from H s (Ext.refl _ _)
  intro a₀ h₀
  unfold handbackGoWrite
  repeat' first
    | with_reducible assumption
    | (with_reducible intro _; intros; try beta_reduce)
    | ((fail_if_no_progress extract_lets +onlyGivenNames t); refine Ext.cut (M := 65668) (a := a₀) (b := t) ?_ (fun ht => ?_); rotate_left; clear_value t)
    | ((fail_if_no_progress extract_lets +onlyGivenNames u); have v : Nat := u; clear v; clear_value u)
    | ((fail_if_no_progress extract_lets +onlyGivenNames u); have v : List _ := u; clear v; clear_value u)
    | ((fail_if_no_progress extract_lets +onlyGivenNames u); have v : Option _ := u; clear v; fail_if_success (have v : Option State := u); clear_value u)
    | (fail_if_no_progress extract_lets +onlyGivenNames u)
    | with_reducible refine State.regWrite_ext (by decide) ?_ ?_
    | with_reducible refine State.put_ext (by decide) ?_
    | with_reducible refine State.handbackGo_ext (by decide) ?_
    | split
    | (clear_value *; split)
    | (unfold t)
    | (unfold u; try beta_reduce)

theorem handbackReq_ext {n : Nat} {s : State} {M₀ : Nat} {a₀ : State} (hM : Within 65540 M₀) (h₀ : Ext M₀ a₀ s) :
    Ext M₀ a₀ (handbackReq n s) := by
  refine Ext.via hM h₀ ?_
  clear hM h₀ M₀ a₀
  suffices H : ∀ a₀, Ext 65540 a₀ s → Ext 65540 a₀ (handbackReq n s) from H s (Ext.refl _ _)
  intro a₀ h₀
  unfold handbackReq
  repeat' first
    | with_reducible assumption
    | (with_reducible intro _; intros; try beta_reduce)
    | ((fail_if_no_progress extract_lets +onlyGivenNames t); refine Ext.cut (M := 65540) (a := a₀) (b := t) ?_ (fun ht => ?_); rotate_left; clear_value t)
    | ((fail_if_no_progress extract_lets +onlyGivenNames F); refine Ext.cutF (M := 65540) (a := a₀) (F := F) ?_ (fun hF => ?_); rotate_left; clear_value F)
    | with_reducible refine hF _ ?_
    | ((fail_if_no_progress extract_lets +onlyGivenNames G); refine Ext.cutG (M := 65540) (a := a₀) (F := G) ?_ (fun hG => ?_); rotate_left; clear_value G)
    | with_reducible refine hG _ _ ?_
    | ((fail_if_no_progress extract_lets +onlyGivenNames H); refine Ext.cutH (M := 65540) (a := a₀) (F := H) ?_ (fun hH => ?_); rotate_left; clear_value H)
    | with_reducible refine hH _ _ _ ?_
    | ((fail_if_no_progress extract_lets +onlyGivenNames u); have v : Nat := u; clear v; clear_value u)
    | ((fail_if_no_progress extract_lets +onlyGivenNames u); have v : List _ := u; clear v; clear_value u)
    | ((fail_if_no_progress extract_lets +onlyGivenNames u); have v : Option _ := u; clear v; fail_if_success (have v : Option State := u); clear_value u)
    | (fail_if_no_progress extract_lets +onlyGivenNames u)
    | with_reducible refine State.consumeRx_ext (by decide) ?_
    | with_reducible refine State.sendNotice_ext (by decide) ?_
    | with_reducible refine State.sendBoard_ext (by decide) ?_
    | with_reducible refine State.countRemote_ext (by decide) ?_
    | (with_reducible refine Ext.foldl _ ?_ ?_)
    | (with_reducible refine Ext.foldl_fst _ ?_ ?_)
    | split
    | (clear_value *; split)
    | (unfold t)
    | (unfold u; try beta_reduce)
    | (unfold F; try beta_reduce)
    | (unfold G; try beta_reduce)
    | (unfold H; try beta_reduce)

theorem handbackDone_ext {n : Nat} {s : State} {M₀ : Nat} {a₀ : State} (hM : Within 458756 M₀) (h₀ : Ext M₀ a₀ s) :
    Ext M₀ a₀ (handbackDone n s) := by
  refine Ext.via hM h₀ ?_
  clear hM h₀ M₀ a₀
  suffices H : ∀ a₀, Ext 458756 a₀ s → Ext 458756 a₀ (handbackDone n s) from H s (Ext.refl _ _)
  intro a₀ h₀
  unfold handbackDone
  repeat' first
    | with_reducible assumption
    | (with_reducible intro _; intros; try beta_reduce)
    | ((fail_if_no_progress extract_lets +onlyGivenNames t); refine Ext.cut (M := 458756) (a := a₀) (b := t) ?_ (fun ht => ?_); rotate_left; clear_value t)
    | ((fail_if_no_progress extract_lets +onlyGivenNames u); have v : Nat := u; clear v; clear_value u)
    | ((fail_if_no_progress extract_lets +onlyGivenNames u); have v : List _ := u; clear v; clear_value u)
    | ((fail_if_no_progress extract_lets +onlyGivenNames u); have v : Option _ := u; clear v; fail_if_success (have v : Option State := u); clear_value u)
    | (fail_if_no_progress extract_lets +onlyGivenNames u)
    | with_reducible refine State.consumeRx_ext (by decide) ?_
    | with_reducible refine State.setSnap_ext (by decide) ?_
    | with_reducible refine State.put_ext (by decide) ?_
    | with_reducible refine State.setGrp_ext (by decide) ?_
    | (with_reducible refine Ext.foldl _ ?_ ?_)
    | (with_reducible refine Ext.foldl_fst _ ?_ ?_)
    | split
    | (clear_value *; split)
    | (unfold t)
    | (unfold u; try beta_reduce)
    | (refine Ext.upd ?_ ?_ ?_ ?_ ?_ ?_ ?_ ?_ ?_ ?_ ?_ ?_ ?_ ?_ ?_ ?_ ?_ ?_ ?_ ?_ <;> first | rfl | exact fun _ => rfl | exact fun h => absurd h (by decide) | skip)

theorem evalwinEnable_ext {w : Writer} {n : Nat} {s : State} {M₀ : Nat} {a₀ : State} (hM : Within 132 M₀) (h₀ : Ext M₀ a₀ s) :
    Ext M₀ a₀ (evalwinEnable w n s) := by
  refine Ext.via hM h₀ ?_
  clear hM h₀ M₀ a₀
  suffices H : ∀ a₀, Ext 132 a₀ s → Ext 132 a₀ (evalwinEnable w n s) from H s (Ext.refl _ _)
  intro a₀ h₀
  unfold evalwinEnable
  repeat' first
    | with_reducible assumption
    | (with_reducible intro _; intros; try beta_reduce)
    | ((fail_if_no_progress extract_lets +onlyGivenNames t); refine Ext.cut (M := 132) (a := a₀) (b := t) ?_ (fun ht => ?_); rotate_left; clear_value t)
    | ((fail_if_no_progress extract_lets +onlyGivenNames u); have v : Nat := u; clear v; clear_value u)
    | ((fail_if_no_progress extract_lets +onlyGivenNames u); have v : List _ := u; clear v; clear_value u)
    | ((fail_if_no_progress extract_lets +onlyGivenNames u); have v : Option _ := u; clear v; fail_if_success (have v : Option State := u); clear_value u)
    | (fail_if_no_progress extract_lets +onlyGivenNames u)
    | with_reducible refine State.regWrite_ext (by decide) ?_ ?_
    | with_reducible refine State.put_ext (by decide) ?_
    | split
    | (clear_value *; split)
    | (unfold t)
    | (unfold u; try beta_reduce)

theorem evalwinDisable_ext {w : Writer} {n : Nat} {s : State} {M₀ : Nat} {a₀ : State} (hM : Within 132 M₀) (h₀ : Ext M₀ a₀ s) :
    Ext M₀ a₀ (evalwinDisable w n s) := by
  refine Ext.via hM h₀ ?_
  clear hM h₀ M₀ a₀
  suffices H : ∀ a₀, Ext 132 a₀ s → Ext 132 a₀ (evalwinDisable w n s) from H s (Ext.refl _ _)
  intro a₀ h₀
  unfold evalwinDisable
  repeat' first
    | with_reducible assumption
    | (with_reducible intro _; intros; try beta_reduce)
    | with_reducible refine State.regWrite_ext (by decide) ?_ ?_
    | with_reducible refine State.put_ext (by decide) ?_
    | split

end Sys2Proof.Machine
end

