-- ==== Sys2Proof/Laws/ExtImage.lean ====
section
/-!
SUPPORT. What each operation of Machine/Image.lean can change: one lemma each.
-/
namespace Sys2Proof.Machine

theorem State.setBoot_ext {s : State} {b : Boot} {M₀ : Nat} {a₀ : State} (hM : Within 1024 M₀) (h₀ : Ext M₀ a₀ s) :
    Ext M₀ a₀ (State.setBoot s b) := by
  refine Ext.via hM h₀ ?_
  clear hM h₀ M₀ a₀
  suffices H : ∀ a₀, Ext 1024 a₀ s → Ext 1024 a₀ (State.setBoot s b) from H s (Ext.refl _ _)
  intro a₀ h₀
  unfold State.setBoot
  repeat' first
    | with_reducible assumption
    | (with_reducible intro _; intros; try beta_reduce)
    | split
    | (refine Ext.upd ?_ ?_ ?_ ?_ ?_ ?_ ?_ ?_ ?_ ?_ ?_ ?_ ?_ ?_ ?_ ?_ ?_ ?_ ?_ ?_ <;> first | rfl | exact fun _ => rfl | exact fun h => absurd h (by decide) | skip)

theorem State.norWrite_ext {s : State} {a : Nat} {bs : List Byte} {M₀ : Nat} {a₀ : State} (hM : Within 1024 M₀) (h₀ : Ext M₀ a₀ s) :
    Ext M₀ a₀ (State.norWrite s a bs) := by
  refine Ext.via hM h₀ ?_
  clear hM h₀ M₀ a₀
  suffices H : ∀ a₀, Ext 1024 a₀ s → Ext 1024 a₀ (State.norWrite s a bs) from H s (Ext.refl _ _)
  intro a₀ h₀
  unfold State.norWrite
  repeat' first
    | with_reducible assumption
    | (with_reducible intro _; intros; try beta_reduce)
    | with_reducible refine State.setBoot_ext (by decide) ?_
    | split
    | (refine Ext.upd ?_ ?_ ?_ ?_ ?_ ?_ ?_ ?_ ?_ ?_ ?_ ?_ ?_ ?_ ?_ ?_ ?_ ?_ ?_ ?_ <;> first | rfl | exact fun _ => rfl | exact fun h => absurd h (by decide) | skip)

theorem State.applyReg_ext {s : State} {t : Target} {off v : Nat} {M₀ : Nat} {a₀ : State} (hM : Within 4 M₀) (h₀ : Ext M₀ a₀ s) :
    OptExt M₀ a₀ (State.applyReg s t off v) := by
  refine OptExt.via hM h₀ ?_
  clear hM h₀ M₀ a₀
  suffices H : ∀ a₀, Ext 4 a₀ s → OptExt 4 a₀ (State.applyReg s t off v) from H s (Ext.refl _ _)
  intro a₀ h₀
  unfold State.applyReg
  repeat' first
    | with_reducible assumption
    | with_reducible exact OptExt.none
    | with_reducible refine OptExt.some ?_
    | with_reducible refine OptExt.bind ?_ ?_
    | (with_reducible intro _; intros; try beta_reduce)
    | ((fail_if_no_progress extract_lets +onlyGivenNames t); refine Ext.cut (M := 4) (a := a₀) (b := t) ?_ (fun ht => ?_); rotate_left; clear_value t)
    | ((fail_if_no_progress extract_lets +onlyGivenNames u); have v : Nat := u; clear v; clear_value u)
    | ((fail_if_no_progress extract_lets +onlyGivenNames u); have v : List _ := u; clear v; clear_value u)
    | ((fail_if_no_progress extract_lets +onlyGivenNames u); have v : Option _ := u; clear v; fail_if_success (have v : Option State := u); clear_value u)
    | (fail_if_no_progress extract_lets +onlyGivenNames u)
    | with_reducible refine State.wr_ext (by decide) ?_
    | with_reducible refine State.put_ext (by decide) ?_
    | split
    | (clear_value *; split)
    | (unfold t)
    | (unfold u; try beta_reduce)

theorem State.applyRegs_ext {s : State} {t : Target} {off : Nat} {vs : List Nat} {M₀ : Nat} {a₀ : State} (hM : Within 4 M₀) (h₀ : Ext M₀ a₀ s) : OptExt M₀ a₀ (s.applyRegs t off vs) := by
  induction vs generalizing s off with
  | nil => exact OptExt.some h₀
  | cons v vs ih => exact OptExt.bind (State.applyReg_ext hM h₀) fun u hu => ih hu

theorem State.applyGroup_ext {s : State} {p : Nat} {b : List Byte} {M₀ : Nat} {a₀ : State} (hM : Within 131072 M₀) (h₀ : Ext M₀ a₀ s) :
    OptExt M₀ a₀ (State.applyGroup s p b) := by
  refine OptExt.via hM h₀ ?_
  clear hM h₀ M₀ a₀
  suffices H : ∀ a₀, Ext 131072 a₀ s → OptExt 131072 a₀ (State.applyGroup s p b) from H s (Ext.refl _ _)
  intro a₀ h₀
  unfold State.applyGroup
  repeat' first
    | with_reducible assumption
    | with_reducible exact OptExt.none
    | with_reducible refine OptExt.some ?_
    | with_reducible refine OptExt.bind ?_ ?_
    | (with_reducible intro _; intros; try beta_reduce)
    | ((fail_if_no_progress extract_lets +onlyGivenNames t); refine Ext.cut (M := 131072) (a := a₀) (b := t) ?_ (fun ht => ?_); rotate_left; clear_value t)
    | ((fail_if_no_progress extract_lets +onlyGivenNames u); have v : Nat := u; clear v; clear_value u)
    | ((fail_if_no_progress extract_lets +onlyGivenNames u); have v : List _ := u; clear v; clear_value u)
    | ((fail_if_no_progress extract_lets +onlyGivenNames u); have v : Option _ := u; clear v; fail_if_success (have v : Option State := u); clear_value u)
    | (fail_if_no_progress extract_lets +onlyGivenNames u)
    | with_reducible refine State.setGrp_ext (by decide) ?_
    | split
    | (clear_value *; split)
    | (unfold t)
    | (unfold u; try beta_reduce)

theorem State.applyReach_ext {s : State} {p : Nat} {e : List Byte} {M₀ : Nat} {a₀ : State} (hM : Within 4 M₀) (h₀ : Ext M₀ a₀ s) :
    OptExt M₀ a₀ (State.applyReach s p e) := by
  refine OptExt.via hM h₀ ?_
  clear hM h₀ M₀ a₀
  suffices H : ∀ a₀, Ext 4 a₀ s → OptExt 4 a₀ (State.applyReach s p e) from H s (Ext.refl _ _)
  intro a₀ h₀
  unfold State.applyReach
  repeat' first
    | with_reducible assumption
    | with_reducible exact OptExt.none
    | with_reducible refine OptExt.some ?_
    | with_reducible refine OptExt.bind ?_ ?_
    | (with_reducible intro _; intros; try beta_reduce)
    | ((fail_if_no_progress extract_lets +onlyGivenNames t); refine Ext.cut (M := 4) (a := a₀) (b := t) ?_ (fun ht => ?_); rotate_left; clear_value t)
    | ((fail_if_no_progress extract_lets +onlyGivenNames u); have v : Nat := u; clear v; clear_value u)
    | ((fail_if_no_progress extract_lets +onlyGivenNames u); have v : List _ := u; clear v; clear_value u)
    | ((fail_if_no_progress extract_lets +onlyGivenNames u); have v : Option _ := u; clear v; fail_if_success (have v : Option State := u); clear_value u)
    | (fail_if_no_progress extract_lets +onlyGivenNames u)
    | with_reducible refine State.put_ext (by decide) ?_
    | split
    | (clear_value *; split)
    | (unfold t)
    | (unfold u; try beta_reduce)

theorem State.applySlot_ext {s : State} {t : Target} {e : List Byte} {M₀ : Nat} {a₀ : State} (hM : Within 4 M₀) (h₀ : Ext M₀ a₀ s) :
    OptExt M₀ a₀ (State.applySlot s t e) := by
  refine OptExt.via hM h₀ ?_
  clear hM h₀ M₀ a₀
  suffices H : ∀ a₀, Ext 4 a₀ s → OptExt 4 a₀ (State.applySlot s t e) from H s (Ext.refl _ _)
  intro a₀ h₀
  unfold State.applySlot
  repeat' first
    | with_reducible assumption
    | with_reducible exact OptExt.none
    | with_reducible refine OptExt.some ?_
    | with_reducible refine OptExt.bind ?_ ?_
    | (with_reducible intro _; intros; try beta_reduce)
    | ((fail_if_no_progress extract_lets +onlyGivenNames t); refine Ext.cut (M := 4) (a := a₀) (b := t) ?_ (fun ht => ?_); rotate_left; clear_value t)
    | ((fail_if_no_progress extract_lets +onlyGivenNames u); have v : Nat := u; clear v; clear_value u)
    | ((fail_if_no_progress extract_lets +onlyGivenNames u); have v : List _ := u; clear v; clear_value u)
    | ((fail_if_no_progress extract_lets +onlyGivenNames u); have v : Option _ := u; clear v; fail_if_success (have v : Option State := u); clear_value u)
    | (fail_if_no_progress extract_lets +onlyGivenNames u)
    | with_reducible refine State.wr_ext (by decide) ?_
    | split
    | (clear_value *; split)
    | (unfold t)
    | (unfold u; try beta_reduce)

theorem OptExt.foldOpt {α : Type} {M : Nat} {a : State} {f : State → α → Option State} {l : List α} {s : State}
    (hf : ∀ t x, Ext M a t → OptExt M a (f t x)) (h : Ext M a s) : OptExt M a (foldOpt f l s) := by
  induction l generalizing s with
  | nil => exact OptExt.some h
  | cons x xs ih => exact OptExt.bind (hf s x h) fun u hu => ih hu

theorem State.applyRec_ext {t : Target} {s : State} {r : ImgRec} {M₀ : Nat} {a₀ : State} (hM : Within 131076 M₀) (h₀ : Ext M₀ a₀ s) : OptExt M₀ a₀ (State.applyRec t s r) := by
  unfold State.applyRec
  repeat' first
    | exact OptExt.none
    | exact State.applyRegs_ext (Within.trans (by decide) hM) h₀
    | exact State.applyGroup_ext (Within.trans (by decide) hM) h₀
    | exact OptExt.foldOpt (fun t x ht => State.applyReach_ext (Within.trans (by decide) hM) ht) h₀
    | exact OptExt.foldOpt (fun t x ht => State.applySlot_ext (Within.trans (by decide) hM) ht) h₀
    | split

theorem State.applyRecs_ext {s : State} {t : Target} {rs : List ImgRec} {M₀ : Nat} {a₀ : State} (hM : Within 131076 M₀) (h₀ : Ext M₀ a₀ s) : OptExt M₀ a₀ (s.applyRecs t rs) := by
  unfold State.applyRecs
  refine OptExt.bind (OptExt.foldOpt (fun u x hu => State.applyRec_ext hM hu) h₀) fun u hu => ?_
  split
  · exact OptExt.some hu
  · exact OptExt.none

theorem State.applySection_ext {s : State} {t : Target} {typ : Nat} {b : List Byte} {M₀ : Nat} {a₀ : State} (hM : Within 131076 M₀) (h₀ : Ext M₀ a₀ s) : OptExt M₀ a₀ (s.applySection t typ b) := by
  intro u hu
  obtain ⟨rs, -, h⟩ := Option.bind_eq_some_iff.1 hu
  exact State.applyRecs_ext hM h₀ u h

theorem State.extend_ext {s : State} {m : Nat} {digest : List Byte} {M₀ : Nat} {a₀ : State} (hM : Within 4 M₀) (h₀ : Ext M₀ a₀ s) :
    Ext M₀ a₀ (State.extend s m digest) := by
  refine Ext.via hM h₀ ?_
  clear hM h₀ M₀ a₀
  suffices H : ∀ a₀, Ext 4 a₀ s → Ext 4 a₀ (State.extend s m digest) from H s (Ext.refl _ _)
  intro a₀ h₀
  unfold State.extend
  repeat' first
    | with_reducible assumption
    | (with_reducible intro _; intros; try beta_reduce)
    | ((fail_if_no_progress extract_lets +onlyGivenNames t); refine Ext.cut (M := 4) (a := a₀) (b := t) ?_ (fun ht => ?_); rotate_left; clear_value t)
    | ((fail_if_no_progress extract_lets +onlyGivenNames u); have v : Nat := u; clear v; clear_value u)
    | ((fail_if_no_progress extract_lets +onlyGivenNames u); have v : List _ := u; clear v; clear_value u)
    | ((fail_if_no_progress extract_lets +onlyGivenNames u); have v : Option _ := u; clear v; fail_if_success (have v : Option State := u); clear_value u)
    | (fail_if_no_progress extract_lets +onlyGivenNames u)
    | with_reducible refine State.wr_ext (by decide) ?_
    | (with_reducible refine Ext.foldl _ ?_ ?_)
    | (with_reducible refine Ext.foldl_fst _ ?_ ?_)
    | split
    | (clear_value *; split)
    | (unfold t)
    | (unfold u; try beta_reduce)

theorem State.showFuses_ext {s : State} {M₀ : Nat} {a₀ : State} (hM : Within 4 M₀) (h₀ : Ext M₀ a₀ s) :
    Ext M₀ a₀ (State.showFuses s) := by
  refine Ext.via hM h₀ ?_
  clear hM h₀ M₀ a₀
  suffices H : ∀ a₀, Ext 4 a₀ s → Ext 4 a₀ (State.showFuses s) from H s (Ext.refl _ _)
  intro a₀ h₀
  unfold State.showFuses
  repeat' first
    | with_reducible assumption
    | (with_reducible intro _; intros; try beta_reduce)
    | ((fail_if_no_progress extract_lets +onlyGivenNames t); refine Ext.cut (M := 4) (a := a₀) (b := t) ?_ (fun ht => ?_); rotate_left; clear_value t)
    | ((fail_if_no_progress extract_lets +onlyGivenNames u); have v : Nat := u; clear v; clear_value u)
    | ((fail_if_no_progress extract_lets +onlyGivenNames u); have v : List _ := u; clear v; clear_value u)
    | ((fail_if_no_progress extract_lets +onlyGivenNames u); have v : Option _ := u; clear v; fail_if_success (have v : Option State := u); clear_value u)
    | (fail_if_no_progress extract_lets +onlyGivenNames u)
    | with_reducible refine State.put_ext (by decide) ?_
    | with_reducible refine State.wr_ext (by decide) ?_
    | (with_reducible refine Ext.foldl _ ?_ ?_)
    | (with_reducible refine Ext.foldl_fst _ ?_ ?_)
    | split
    | (clear_value *; split)
    | (unfold t)
    | (unfold u; try beta_reduce)

theorem State.raiseSvn_ext {s : State} {v : Nat} {M₀ : Nat} {a₀ : State} (hM : Within 516 M₀) (h₀ : Ext M₀ a₀ s) : Ext M₀ a₀ (s.raiseSvn v) := by
  refine Ext.via hM h₀ ?_
  clear hM h₀ M₀ a₀
  exact State.showFuses_ext (by decide) (Ext.blown (Ext.refl _ _) rfl (Nat.le_max_left _ _) fun _ h => h)

theorem State.random_ext {s : State} {M₀ : Nat} {a₀ : State} (hM : Within 2 M₀) (h₀ : Ext M₀ a₀ s) :
    Ext M₀ a₀ ((State.random s).1) := by
  refine Ext.via hM h₀ ?_
  clear hM h₀ M₀ a₀
  suffices H : ∀ a₀, Ext 2 a₀ s → Ext 2 a₀ ((State.random s).1) from H s (Ext.refl _ _)
  intro a₀ h₀
  unfold State.random
  repeat' first
    | with_reducible assumption
    | (with_reducible intro _; intros; try beta_reduce)
    | with_reducible refine State.useFresh_ext (by decide) ?_
    | split

end Sys2Proof.Machine
end

