-- ==== Sys2Proof/Laws/ExtSnapshot.lean ====
section
/-!
SUPPORT. What each operation of Machine/Snapshot.lean can change: one lemma each.
-/
namespace Sys2Proof.Machine

theorem State.setFlash_ext {s : State} {f : Flash} {M₀ : Nat} {a₀ : State} (hM : Within 262144 M₀) (h₀ : Ext M₀ a₀ s) :
    Ext M₀ a₀ (State.setFlash s f) := by
  refine Ext.via hM h₀ ?_
  clear hM h₀ M₀ a₀
  suffices H : ∀ a₀, Ext 262144 a₀ s → Ext 262144 a₀ (State.setFlash s f) from H s (Ext.refl _ _)
  intro a₀ h₀
  unfold State.setFlash
  repeat' first
    | with_reducible assumption
    | (with_reducible intro _; intros; try beta_reduce)
    | with_reducible refine State.setSnap_ext (by decide) ?_
    | split
    | (refine Ext.upd ?_ ?_ ?_ ?_ ?_ ?_ ?_ ?_ ?_ ?_ ?_ ?_ ?_ ?_ ?_ ?_ ?_ ?_ ?_ ?_ <;> first | rfl | exact fun _ => rfl | exact fun h => absurd h (by decide) | skip)

theorem opSnapshot_ext {slot : Nat} {s : State} {M₀ : Nat} {a₀ : State} (hM : Within 266308 M₀) (h₀ : Ext M₀ a₀ s) :
    Ext M₀ a₀ (opSnapshot slot s) := by
  refine Ext.via hM h₀ ?_
  clear hM h₀ M₀ a₀
  suffices H : ∀ a₀, Ext 266308 a₀ s → Ext 266308 a₀ (opSnapshot slot s) from H s (Ext.refl _ _)
  intro a₀ h₀
  unfold opSnapshot
  repeat' first
    | with_reducible assumption
    | (with_reducible intro _; intros; try beta_reduce)
    | ((fail_if_no_progress extract_lets +onlyGivenNames t); refine Ext.cut (M := 266308) (a := a₀) (b := t) ?_ (fun ht => ?_); rotate_left; clear_value t)
    | ((fail_if_no_progress extract_lets +onlyGivenNames u); have v : Nat := u; clear v; clear_value u)
    | ((fail_if_no_progress extract_lets +onlyGivenNames u); have v : List _ := u; clear v; clear_value u)
    | ((fail_if_no_progress extract_lets +onlyGivenNames u); have v : Option _ := u; clear v; fail_if_success (have v : Option State := u); clear_value u)
    | (fail_if_no_progress extract_lets +onlyGivenNames u)
    | with_reducible refine State.issue_ext (by decide) ?_
    | with_reducible refine State.finish_ext (by decide) ?_
    | with_reducible refine State.put_ext (by decide) ?_
    | with_reducible refine State.setStop_ext (by decide) ?_
    | split
    | (clear_value *; split)
    | (unfold t)
    | (unfold u; try beta_reduce)

theorem snapshotQuiesced_ext {p : Nat} {s : State} {M₀ : Nat} {a₀ : State} (hM : Within 266292 M₀) (h₀ : Ext M₀ a₀ s) :
    Ext M₀ a₀ (snapshotQuiesced p s) := by
  refine Ext.via hM h₀ ?_
  clear hM h₀ M₀ a₀
  suffices H : ∀ a₀, Ext 266292 a₀ s → Ext 266292 a₀ (snapshotQuiesced p s) from H s (Ext.refl _ _)
  intro a₀ h₀
  unfold snapshotQuiesced
  repeat' first
    | with_reducible assumption
    | (with_reducible intro _; intros; try beta_reduce)
    | ((fail_if_no_progress extract_lets +onlyGivenNames t); refine Ext.cut (M := 266292) (a := a₀) (b := t) ?_ (fun ht => ?_); rotate_left; clear_value t)
    | ((fail_if_no_progress extract_lets +onlyGivenNames u); have v : Nat := u; clear v; clear_value u)
    | ((fail_if_no_progress extract_lets +onlyGivenNames u); have v : List _ := u; clear v; clear_value u)
    | ((fail_if_no_progress extract_lets +onlyGivenNames u); have v : Option _ := u; clear v; fail_if_success (have v : Option State := u); clear_value u)
    | (fail_if_no_progress extract_lets +onlyGivenNames u)
    | with_reducible refine State.store_ext (by decide) ?_
    | with_reducible refine State.putB_ext (by decide) ?_
    | with_reducible refine State.wr_ext (by decide) ?_
    | with_reducible refine State.put_ext (by decide) ?_
    | with_reducible refine State.setStop_ext (by decide) ?_
    | split
    | (clear_value *; split)
    | (unfold t)
    | (unfold u; try beta_reduce)
    | (refine Ext.upd ?_ ?_ ?_ ?_ ?_ ?_ ?_ ?_ ?_ ?_ ?_ ?_ ?_ ?_ ?_ ?_ ?_ ?_ ?_ ?_ <;> first | rfl | exact fun _ => rfl | exact fun h => absurd h (by decide) | skip)

theorem State.copyRegion_ext {s : State} {src dst n : Nat} {M₀ : Nat} {a₀ : State} (hM : Within 48 M₀) (h₀ : Ext M₀ a₀ s) :
    Ext M₀ a₀ ((State.copyRegion s src dst n).1) := by
  refine Ext.via hM h₀ ?_
  clear hM h₀ M₀ a₀
  suffices H : ∀ a₀, Ext 48 a₀ s → Ext 48 a₀ ((State.copyRegion s src dst n).1) from H s (Ext.refl _ _)
  intro a₀ h₀
  unfold State.copyRegion
  repeat' first
    | with_reducible assumption
    | (with_reducible intro _; intros; try beta_reduce)
    | ((fail_if_no_progress extract_lets +onlyGivenNames t); refine Ext.cut (M := 48) (a := a₀) (b := t) ?_ (fun ht => ?_); rotate_left; clear_value t)
    | ((fail_if_no_progress extract_lets +onlyGivenNames u); have v : Nat := u; clear v; clear_value u)
    | ((fail_if_no_progress extract_lets +onlyGivenNames u); have v : List _ := u; clear v; clear_value u)
    | ((fail_if_no_progress extract_lets +onlyGivenNames u); have v : Option _ := u; clear v; fail_if_success (have v : Option State := u); clear_value u)
    | (fail_if_no_progress extract_lets +onlyGivenNames u)
    | with_reducible refine State.setPoison_ext (by decide) ?_
    | with_reducible refine State.store_ext (by decide) ?_
    | (with_reducible refine Ext.foldl _ ?_ ?_)
    | (with_reducible refine Ext.foldl_fst _ ?_ ?_)
    | split
    | (clear_value *; split)
    | (unfold t)
    | (unfold u; try beta_reduce)

theorem State.flashShow_ext {s : State} {M₀ : Nat} {a₀ : State} (hM : Within 4 M₀) (h₀ : Ext M₀ a₀ s) :
    Ext M₀ a₀ (State.flashShow s) := by
  refine Ext.via hM h₀ ?_
  clear hM h₀ M₀ a₀
  suffices H : ∀ a₀, Ext 4 a₀ s → Ext 4 a₀ (State.flashShow s) from H s (Ext.refl _ _)
  intro a₀ h₀
  unfold State.flashShow
  repeat' first
    | with_reducible assumption
    | (with_reducible intro _; intros; try beta_reduce)
    | ((fail_if_no_progress extract_lets +onlyGivenNames t); refine Ext.cut (M := 4) (a := a₀) (b := t) ?_ (fun ht => ?_); rotate_left; clear_value t)
    | ((fail_if_no_progress extract_lets +onlyGivenNames u); have v : Nat := u; clear v; clear_value u)
    | ((fail_if_no_progress extract_lets +onlyGivenNames u); have v : List _ := u; clear v; clear_value u)
    | ((fail_if_no_progress extract_lets +onlyGivenNames u); have v : Option _ := u; clear v; fail_if_success (have v : Option State := u); clear_value u)
    | (fail_if_no_progress extract_lets +onlyGivenNames u)
    | with_reducible refine State.put_ext (by decide) ?_
    | with_reducible refine State.wr_ext (by decide) ?_
    | split
    | (clear_value *; split)
    | (unfold t)
    | (unfold u; try beta_reduce)

theorem State.sealCopy_ext {s : State} {p : Nat} {r : StopRun} {M₀ : Nat} {a₀ : State} (hM : Within 48 M₀) (h₀ : Ext M₀ a₀ s) :
    Ext M₀ a₀ ((State.sealCopy s p r).1) := by
  refine Ext.via hM h₀ ?_
  clear hM h₀ M₀ a₀
  suffices H : ∀ a₀, Ext 48 a₀ s → Ext 48 a₀ ((State.sealCopy s p r).1) from H s (Ext.refl _ _)
  intro a₀ h₀
  unfold State.sealCopy
  repeat' first
    | with_reducible assumption
    | (with_reducible intro _; intros; try beta_reduce)
    | ((fail_if_no_progress extract_lets +onlyGivenNames t); refine Ext.cut (M := 48) (a := a₀) (b := t) ?_ (fun ht => ?_); rotate_left; clear_value t)
    | ((fail_if_no_progress extract_lets +onlyGivenNames u); have v : Nat := u; clear v; clear_value u)
    | ((fail_if_no_progress extract_lets +onlyGivenNames u); have v : List _ := u; clear v; clear_value u)
    | ((fail_if_no_progress extract_lets +onlyGivenNames u); have v : Option _ := u; clear v; fail_if_success (have v : Option State := u); clear_value u)
    | (fail_if_no_progress extract_lets +onlyGivenNames u)
    | with_reducible refine State.copyRegion_ext (by decide) ?_
    | with_reducible refine State.store_ext (by decide) ?_
    | (with_reducible refine Ext.foldl _ ?_ ?_)
    | (with_reducible refine Ext.foldl_fst _ ?_ ?_)
    | split
    | (clear_value *; split)
    | (unfold t)
    | (unfold u; try beta_reduce)

theorem State.sealSlot_ext {s : State} {p : Nat} {r : StopRun} {poison : Bool} {M₀ : Nat} {a₀ : State} (hM : Within 266244 M₀) (h₀ : Ext M₀ a₀ s) :
    Ext M₀ a₀ (State.sealSlot s p r poison) := by
  refine Ext.via hM h₀ ?_
  clear hM h₀ M₀ a₀
  suffices H : ∀ a₀, Ext 266244 a₀ s → Ext 266244 a₀ (State.sealSlot s p r poison) from H s (Ext.refl _ _)
  intro a₀ h₀
  unfold State.sealSlot
  repeat' first
    | with_reducible assumption
    | (with_reducible intro _; intros; try beta_reduce)
    | ((fail_if_no_progress extract_lets +onlyGivenNames t); refine Ext.cut (M := 266244) (a := a₀) (b := t) ?_ (fun ht => ?_); rotate_left; clear_value t)
    | ((fail_if_no_progress extract_lets +onlyGivenNames u); have v : Nat := u; clear v; clear_value u)
    | ((fail_if_no_progress extract_lets +onlyGivenNames u); have v : List _ := u; clear v; clear_value u)
    | ((fail_if_no_progress extract_lets +onlyGivenNames u); have v : Option _ := u; clear v; fail_if_success (have v : Option State := u); clear_value u)
    | (fail_if_no_progress extract_lets +onlyGivenNames u)
    | with_reducible refine State.put_ext (by decide) ?_
    | with_reducible refine State.putB_ext (by decide) ?_
    | with_reducible refine State.wr_ext (by decide) ?_
    | with_reducible refine State.setFlash_ext (by decide) ?_
    | with_reducible refine State.bumpSat_ext (by decide) ?_
    | with_reducible refine State.setStop_ext (by decide) ?_
    | split
    | (clear_value *; split)
    | (unfold t)
    | (unfold u; try beta_reduce)
    | (refine Ext.upd ?_ ?_ ?_ ?_ ?_ ?_ ?_ ?_ ?_ ?_ ?_ ?_ ?_ ?_ ?_ ?_ ?_ ?_ ?_ ?_ <;> first | rfl | exact fun _ => rfl | exact fun h => absurd h (by decide) | skip)

theorem snapshotSeal_ext {p : Nat} {s : State} {M₀ : Nat} {a₀ : State} (hM : Within 266356 M₀) (h₀ : Ext M₀ a₀ s) :
    Ext M₀ a₀ (snapshotSeal p s) := by
  refine Ext.via hM h₀ ?_
  clear hM h₀ M₀ a₀
  suffices H : ∀ a₀, Ext 266356 a₀ s → Ext 266356 a₀ (snapshotSeal p s) from H s (Ext.refl _ _)
  intro a₀ h₀
  unfold snapshotSeal
  repeat' first
    | with_reducible assumption
    | (with_reducible intro _; intros; try beta_reduce)
    | ((fail_if_no_progress extract_lets +onlyGivenNames t); refine Ext.cut (M := 266356) (a := a₀) (b := t) ?_ (fun ht => ?_); rotate_left; clear_value t)
    | ((fail_if_no_progress extract_lets +onlyGivenNames u); have v : Nat := u; clear v; clear_value u)
    | ((fail_if_no_progress extract_lets +onlyGivenNames u); have v : List _ := u; clear v; clear_value u)
    | ((fail_if_no_progress extract_lets +onlyGivenNames u); have v : Option _ := u; clear v; fail_if_success (have v : Option State := u); clear_value u)
    | (fail_if_no_progress extract_lets +onlyGivenNames u)
    | with_reducible refine State.sealCopy_ext (by decide) ?_
    | with_reducible refine State.sealSlot_ext (by decide) ?_
    | with_reducible refine State.addDetail_ext (by decide) ?_
    | with_reducible refine State.finish_ext (by decide) ?_
    | with_reducible refine State.put_ext (by decide) ?_
    | with_reducible refine State.setFlash_ext (by decide) ?_
    | with_reducible refine State.flashShow_ext (by decide) ?_
    | (with_reducible refine Ext.foldl _ ?_ ?_)
    | (with_reducible refine Ext.foldl_fst _ ?_ ?_)
    | split
    | (clear_value *; split)
    | (unfold t)
    | (unfold u; try beta_reduce)
    | (refine Ext.upd ?_ ?_ ?_ ?_ ?_ ?_ ?_ ?_ ?_ ?_ ?_ ?_ ?_ ?_ ?_ ?_ ?_ ?_ ?_ ?_ <;> first | rfl | exact fun _ => rfl | exact fun h => absurd h (by decide) | skip)

theorem drainComplete_ext {i : Nat} {s : State} {M₀ : Nat} {a₀ : State} (hM : Within 262276 M₀) (h₀ : Ext M₀ a₀ s) :
    Ext M₀ a₀ (drainComplete i s) := by
  refine Ext.via hM h₀ ?_
  clear hM h₀ M₀ a₀
  suffices H : ∀ a₀, Ext 262276 a₀ s → Ext 262276 a₀ (drainComplete i s) from H s (Ext.refl _ _)
  intro a₀ h₀
  unfold drainComplete
  repeat' first
    | with_reducible assumption
    | (with_reducible intro _; intros; try beta_reduce)
    | ((fail_if_no_progress extract_lets +onlyGivenNames t); refine Ext.cut (M := 262276) (a := a₀) (b := t) ?_ (fun ht => ?_); rotate_left; clear_value t)
    | ((fail_if_no_progress extract_lets +onlyGivenNames F); refine Ext.cutF (M := 262276) (a := a₀) (F := F) ?_ (fun hF => ?_); rotate_left; clear_value F)
    | with_reducible refine hF _ ?_
    | ((fail_if_no_progress extract_lets +onlyGivenNames G); refine Ext.cutG (M := 262276) (a := a₀) (F := G) ?_ (fun hG => ?_); rotate_left; clear_value G)
    | with_reducible refine hG _ _ ?_
    | ((fail_if_no_progress extract_lets +onlyGivenNames H); refine Ext.cutH (M := 262276) (a := a₀) (F := H) ?_ (fun hH => ?_); rotate_left; clear_value H)
    | with_reducible refine hH _ _ _ ?_
    | ((fail_if_no_progress extract_lets +onlyGivenNames u); have v : Nat := u; clear v; clear_value u)
    | ((fail_if_no_progress extract_lets +onlyGivenNames u); have v : List _ := u; clear v; clear_value u)
    | ((fail_if_no_progress extract_lets +onlyGivenNames u); have v : Option _ := u; clear v; fail_if_success (have v : Option State := u); clear_value u)
    | (fail_if_no_progress extract_lets +onlyGivenNames u)
    | with_reducible refine State.setFlash_ext (by decide) ?_
    | with_reducible refine State.put_ext (by decide) ?_
    | with_reducible refine State.flashShow_ext (by decide) ?_
    | with_reducible refine State.generic_ext (by decide) ?_
    | with_reducible refine State.event_ext (by decide) ?_
    | split
    | (clear_value *; split)
    | (unfold t)
    | (unfold u; try beta_reduce)
    | (unfold F; try beta_reduce)
    | (unfold G; try beta_reduce)
    | (unfold H; try beta_reduce)
    | (refine Ext.upd ?_ ?_ ?_ ?_ ?_ ?_ ?_ ?_ ?_ ?_ ?_ ?_ ?_ ?_ ?_ ?_ ?_ ?_ ?_ ?_ <;> first | rfl | exact fun _ => rfl | exact fun h => absurd h (by decide) | skip)

theorem snapPin_ext {w : Writer} {go : Bool} {s : State} {M₀ : Nat} {a₀ : State} (hM : Within 2359428 M₀) (h₀ : Ext M₀ a₀ s) :
    Ext M₀ a₀ (snapPin w go s) := by
  refine Ext.via hM h₀ ?_
  clear hM h₀ M₀ a₀
  suffices H : ∀ a₀, Ext 2359428 a₀ s → Ext 2359428 a₀ (snapPin w go s) from H s (Ext.refl _ _)
  intro a₀ h₀
  unfold snapPin
  repeat' first
    | with_reducible assumption
    | (with_reducible intro _; intros; try beta_reduce)
    | ((fail_if_no_progress extract_lets +onlyGivenNames t); refine Ext.cut (M := 2359428) (a := a₀) (b := t) ?_ (fun ht => ?_); rotate_left; clear_value t)
    | ((fail_if_no_progress extract_lets +onlyGivenNames u); have v : Nat := u; clear v; clear_value u)
    | ((fail_if_no_progress extract_lets +onlyGivenNames u); have v : List _ := u; clear v; clear_value u)
    | ((fail_if_no_progress extract_lets +onlyGivenNames u); have v : Option _ := u; clear v; fail_if_success (have v : Option State := u); clear_value u)
    | (fail_if_no_progress extract_lets +onlyGivenNames u)
    | with_reducible refine State.badWrite_ext (by decide) ?_
    | with_reducible refine State.setFlash_ext (by decide) ?_
    | split
    | (clear_value *; split)
    | (unfold t)
    | (unfold u; try beta_reduce)
    | (refine Ext.upd ?_ ?_ ?_ ?_ ?_ ?_ ?_ ?_ ?_ ?_ ?_ ?_ ?_ ?_ ?_ ?_ ?_ ?_ ?_ ?_ <;> first | rfl | exact fun _ => rfl | exact fun h => absurd h (by decide) | skip)

theorem snapUnpin_ext {w : Writer} {go : Bool} {s : State} {M₀ : Nat} {a₀ : State} (hM : Within 2359428 M₀) (h₀ : Ext M₀ a₀ s) :
    Ext M₀ a₀ (snapUnpin w go s) := by
  refine Ext.via hM h₀ ?_
  clear hM h₀ M₀ a₀
  suffices H : ∀ a₀, Ext 2359428 a₀ s → Ext 2359428 a₀ (snapUnpin w go s) from H s (Ext.refl _ _)
  intro a₀ h₀
  unfold snapUnpin
  repeat' first
    | with_reducible assumption
    | (with_reducible intro _; intros; try beta_reduce)
    | ((fail_if_no_progress extract_lets +onlyGivenNames t); refine Ext.cut (M := 2359428) (a := a₀) (b := t) ?_ (fun ht => ?_); rotate_left; clear_value t)
    | ((fail_if_no_progress extract_lets +onlyGivenNames u); have v : Nat := u; clear v; clear_value u)
    | ((fail_if_no_progress extract_lets +onlyGivenNames u); have v : List _ := u; clear v; clear_value u)
    | ((fail_if_no_progress extract_lets +onlyGivenNames u); have v : Option _ := u; clear v; fail_if_success (have v : Option State := u); clear_value u)
    | (fail_if_no_progress extract_lets +onlyGivenNames u)
    | with_reducible refine State.badWrite_ext (by decide) ?_
    | with_reducible refine State.setFlash_ext (by decide) ?_
    | split
    | (clear_value *; split)
    | (unfold t)
    | (unfold u; try beta_reduce)
    | (refine Ext.upd ?_ ?_ ?_ ?_ ?_ ?_ ?_ ?_ ?_ ?_ ?_ ?_ ?_ ?_ ?_ ?_ ?_ ?_ ?_ ?_ <;> first | rfl | exact fun _ => rfl | exact fun h => absurd h (by decide) | skip)

theorem snapCountFloorWrite_ext {w : Writer} {n v : Nat} {s : State} {M₀ : Nat} {a₀ : State} (hM : Within 262276 M₀) (h₀ : Ext M₀ a₀ s) :
    Ext M₀ a₀ (snapCountFloorWrite w n v s) := by
  refine Ext.via hM h₀ ?_
  clear hM h₀ M₀ a₀
  suffices H : ∀ a₀, Ext 262276 a₀ s → Ext 262276 a₀ (snapCountFloorWrite w n v s) from H s (Ext.refl _ _)
  intro a₀ h₀
  unfold snapCountFloorWrite
  repeat' first
    | with_reducible assumption
    | (with_reducible intro _; intros; try beta_reduce)
    | ((fail_if_no_progress extract_lets +onlyGivenNames t); refine Ext.cut (M := 262276) (a := a₀) (b := t) ?_ (fun ht => ?_); rotate_left; clear_value t)
    | ((fail_if_no_progress extract_lets +onlyGivenNames u); have v : Nat := u; clear v; clear_value u)
    | ((fail_if_no_progress extract_lets +onlyGivenNames u); have v : List _ := u; clear v; clear_value u)
    | ((fail_if_no_progress extract_lets +onlyGivenNames u); have v : Option _ := u; clear v; fail_if_success (have v : Option State := u); clear_value u)
    | (fail_if_no_progress extract_lets +onlyGivenNames u)
    | with_reducible refine State.regWrite_ext (by decide) ?_ ?_
    | with_reducible refine State.badWrite_ext (by decide) ?_
    | with_reducible refine State.put_ext (by decide) ?_
    | with_reducible refine State.setFlash_ext (by decide) ?_
    | split
    | (clear_value *; split)
    | (unfold t)
    | (unfold u; try beta_reduce)
    | (refine Ext.upd ?_ ?_ ?_ ?_ ?_ ?_ ?_ ?_ ?_ ?_ ?_ ?_ ?_ ?_ ?_ ?_ ?_ ?_ ?_ ?_ <;> first | rfl | exact fun _ => rfl | exact fun h => absurd h (by decide) | skip)

theorem opShip_ext {slot : Nat} {s : State} {M₀ : Nat} {a₀ : State} (hM : Within 492022 M₀) (h₀ : Ext M₀ a₀ s) :
    Ext M₀ a₀ (opShip slot s) := by
  refine Ext.via hM h₀ ?_
  clear hM h₀ M₀ a₀
  suffices H : ∀ a₀, Ext 492022 a₀ s → Ext 492022 a₀ (opShip slot s) from H s (Ext.refl _ _)
  intro a₀ h₀
  unfold opShip
  repeat' first
    | with_reducible assumption
    | (with_reducible intro _; intros; try beta_reduce)
    | ((fail_if_no_progress extract_lets +onlyGivenNames t); refine Ext.cut (M := 492022) (a := a₀) (b := t) ?_ (fun ht => ?_); rotate_left; clear_value t)
    | ((fail_if_no_progress extract_lets +onlyGivenNames u); have v : Nat := u; clear v; clear_value u)
    | ((fail_if_no_progress extract_lets +onlyGivenNames u); have v : List _ := u; clear v; clear_value u)
    | ((fail_if_no_progress extract_lets +onlyGivenNames u); have v : Option _ := u; clear v; fail_if_success (have v : Option State := u); clear_value u)
    | (fail_if_no_progress extract_lets +onlyGivenNames u)
    | with_reducible refine State.issue_ext (by decide) ?_
    | with_reducible refine State.finish_ext (by decide) ?_
    | with_reducible refine State.fin_ext (by decide) ?_
    | with_reducible refine State.request_ext (by decide) ?_
    | with_reducible refine State.addDetail_ext (by decide) ?_
    | with_reducible refine State.setFlash_ext (by decide) ?_
    | with_reducible refine State.flashShow_ext (by decide) ?_
    | (with_reducible refine Ext.foldl _ ?_ ?_)
    | (with_reducible refine Ext.foldl_fst _ ?_ ?_)
    | split
    | (clear_value *; split)
    | (unfold t)
    | (unfold u; try beta_reduce)
    | (refine Ext.upd ?_ ?_ ?_ ?_ ?_ ?_ ?_ ?_ ?_ ?_ ?_ ?_ ?_ ?_ ?_ ?_ ?_ ?_ ?_ ?_ <;> first | rfl | exact fun _ => rfl | exact fun h => absurd h (by decide) | skip)

theorem shipEnd_ext {slot : Nat} {s : State} {M₀ : Nat} {a₀ : State} (hM : Within 262468 M₀) (h₀ : Ext M₀ a₀ s) :
    Ext M₀ a₀ (shipEnd slot s) := by
  refine Ext.via hM h₀ ?_
  clear hM h₀ M₀ a₀
  suffices H : ∀ a₀, Ext 262468 a₀ s → Ext 262468 a₀ (shipEnd slot s) from H s (Ext.refl _ _)
  intro a₀ h₀
  unfold shipEnd
  repeat' first
    | with_reducible assumption
    | (with_reducible intro _; intros; try beta_reduce)
    | ((fail_if_no_progress extract_lets +onlyGivenNames t); refine Ext.cut (M := 262468) (a := a₀) (b := t) ?_ (fun ht => ?_); rotate_left; clear_value t)
    | ((fail_if_no_progress extract_lets +onlyGivenNames u); have v : Nat := u; clear v; clear_value u)
    | ((fail_if_no_progress extract_lets +onlyGivenNames u); have v : List _ := u; clear v; clear_value u)
    | ((fail_if_no_progress extract_lets +onlyGivenNames u); have v : Option _ := u; clear v; fail_if_success (have v : Option State := u); clear_value u)
    | (fail_if_no_progress extract_lets +onlyGivenNames u)
    | with_reducible refine State.request_ext (by decide) ?_
    | with_reducible refine State.addDetail_ext (by decide) ?_
    | with_reducible refine State.setFlash_ext (by decide) ?_
    | split
    | (clear_value *; split)
    | (unfold t)
    | (unfold u; try beta_reduce)
    | (refine Ext.upd ?_ ?_ ?_ ?_ ?_ ?_ ?_ ?_ ?_ ?_ ?_ ?_ ?_ ?_ ?_ ?_ ?_ ?_ ?_ ?_ <;> first | rfl | exact fun _ => rfl | exact fun h => absurd h (by decide) | skip)

theorem State.endShips_ext {s : State} {q result : Nat} {all : Bool} {M₀ : Nat} {a₀ : State} (hM : Within 262212 M₀) (h₀ : Ext M₀ a₀ s) :
    Ext M₀ a₀ (State.endShips s q result all) := by
  refine Ext.via hM h₀ ?_
  clear hM h₀ M₀ a₀
  suffices H : ∀ a₀, Ext 262212 a₀ s → Ext 262212 a₀ (State.endShips s q result all) from H s (Ext.refl _ _)
  intro a₀ h₀
  unfold State.endShips
  repeat' first
    | with_reducible assumption
    | (with_reducible intro _; intros; try beta_reduce)
    | ((fail_if_no_progress extract_lets +onlyGivenNames t); refine Ext.cut (M := 262212) (a := a₀) (b := t) ?_ (fun ht => ?_); rotate_left; clear_value t)
    | ((fail_if_no_progress extract_lets +onlyGivenNames u); have v : Nat := u; clear v; clear_value u)
    | ((fail_if_no_progress extract_lets +onlyGivenNames u); have v : List _ := u; clear v; clear_value u)
    | ((fail_if_no_progress extract_lets +onlyGivenNames u); have v : Option _ := u; clear v; fail_if_success (have v : Option State := u); clear_value u)
    | (fail_if_no_progress extract_lets +onlyGivenNames u)
    | with_reducible refine State.setFlash_ext (by decide) ?_
    | with_reducible refine State.finish_ext (by decide) ?_
    | with_reducible refine State.flashShow_ext (by decide) ?_
    | (with_reducible refine Ext.foldl _ ?_ ?_)
    | (with_reducible refine Ext.foldl_fst _ ?_ ?_)
    | split
    | (clear_value *; split)
    | (unfold t)
    | (unfold u; try beta_reduce)
    | (refine Ext.upd ?_ ?_ ?_ ?_ ?_ ?_ ?_ ?_ ?_ ?_ ?_ ?_ ?_ ?_ ?_ ?_ ?_ ?_ ?_ ?_ <;> first | rfl | exact fun _ => rfl | exact fun h => absurd h (by decide) | skip)

theorem State.setRestore_ext {s : State} {r : Option Restore} {M₀ : Nat} {a₀ : State} (hM : Within 262144 M₀) (h₀ : Ext M₀ a₀ s) :
    Ext M₀ a₀ (State.setRestore s r) := by
  refine Ext.via hM h₀ ?_
  clear hM h₀ M₀ a₀
  suffices H : ∀ a₀, Ext 262144 a₀ s → Ext 262144 a₀ (State.setRestore s r) from H s (Ext.refl _ _)
  intro a₀ h₀
  unfold State.setRestore
  repeat' first
    | with_reducible assumption
    | (with_reducible intro _; intros; try beta_reduce)
    | with_reducible refine State.setSnap_ext (by decide) ?_
    | split
    | (refine Ext.upd ?_ ?_ ?_ ?_ ?_ ?_ ?_ ?_ ?_ ?_ ?_ ?_ ?_ ?_ ?_ ?_ ?_ ?_ ?_ ?_ <;> first | rfl | exact fun _ => rfl | exact fun h => absurd h (by decide) | skip)

theorem State.restoreEnd_ext {s : State} {phase result : Nat} {M₀ : Nat} {a₀ : State} (hM : Within 263172 M₀) (h₀ : Ext M₀ a₀ s) :
    Ext M₀ a₀ (State.restoreEnd s phase result) := by
  refine Ext.via hM h₀ ?_
  clear hM h₀ M₀ a₀
  suffices H : ∀ a₀, Ext 263172 a₀ s → Ext 263172 a₀ (State.restoreEnd s phase result) from H s (Ext.refl _ _)
  intro a₀ h₀
  unfold State.restoreEnd
  repeat' first
    | with_reducible assumption
    | (with_reducible intro _; intros; try beta_reduce)
    | ((fail_if_no_progress extract_lets +onlyGivenNames t); refine Ext.cut (M := 263172) (a := a₀) (b := t) ?_ (fun ht => ?_); rotate_left; clear_value t)
    | ((fail_if_no_progress extract_lets +onlyGivenNames u); have v : Nat := u; clear v; clear_value u)
    | ((fail_if_no_progress extract_lets +onlyGivenNames u); have v : List _ := u; clear v; clear_value u)
    | ((fail_if_no_progress extract_lets +onlyGivenNames u); have v : Option _ := u; clear v; fail_if_success (have v : Option State := u); clear_value u)
    | (fail_if_no_progress extract_lets +onlyGivenNames u)
    | with_reducible refine State.put_ext (by decide) ?_
    | with_reducible refine State.setRestore_ext (by decide) ?_
    | with_reducible refine State.setBoot_ext (by decide) ?_
    | split
    | (clear_value *; split)
    | (unfold t)
    | (unfold u; try beta_reduce)
    | (refine Ext.upd ?_ ?_ ?_ ?_ ?_ ?_ ?_ ?_ ?_ ?_ ?_ ?_ ?_ ?_ ?_ ?_ ?_ ?_ ?_ ?_ <;> first | rfl | exact fun _ => rfl | exact fun h => absurd h (by decide) | skip)

theorem State.restoreGo_ext {s : State} {w : Writer} {p ctr : Nat} {M₀ : Nat} {a₀ : State} (hM : Within 263300 M₀) (h₀ : Ext M₀ a₀ s) :
    Ext M₀ a₀ (State.restoreGo s w p ctr) := by
  refine Ext.via hM h₀ ?_
  clear hM h₀ M₀ a₀
  suffices H : ∀ a₀, Ext 263300 a₀ s → Ext 263300 a₀ (State.restoreGo s w p ctr) from H s (Ext.refl _ _)
  intro a₀ h₀
  unfold State.restoreGo
  repeat' first
    | with_reducible assumption
    | (with_reducible intro _; intros; try beta_reduce)
    | ((fail_if_no_progress extract_lets +onlyGivenNames t); refine Ext.cut (M := 263300) (a := a₀) (b := t) ?_ (fun ht => ?_); rotate_left; clear_value t)
    | ((fail_if_no_progress extract_lets +onlyGivenNames u); have v : Nat := u; clear v; clear_value u)
    | ((fail_if_no_progress extract_lets +onlyGivenNames u); have v : List _ := u; clear v; clear_value u)
    | ((fail_if_no_progress extract_lets +onlyGivenNames u); have v : Option _ := u; clear v; fail_if_success (have v : Option State := u); clear_value u)
    | (fail_if_no_progress extract_lets +onlyGivenNames u)
    | with_reducible refine State.badWrite_ext (by decide) ?_
    | with_reducible refine State.put_ext (by decide) ?_
    | with_reducible refine State.setRestore_ext (by decide) ?_
    | with_reducible refine State.setBoot_ext (by decide) ?_
    | split
    | (clear_value *; split)
    | (unfold t)
    | (unfold u; try beta_reduce)
    | (refine Ext.upd ?_ ?_ ?_ ?_ ?_ ?_ ?_ ?_ ?_ ?_ ?_ ?_ ?_ ?_ ?_ ?_ ?_ ?_ ?_ ?_ <;> first | rfl | exact fun _ => rfl | exact fun h => absurd h (by decide) | skip)

theorem restoreSaddle_ext {w : Writer} {p ctr : Nat} {s : State} {M₀ : Nat} {a₀ : State} (hM : Within 263300 M₀) (h₀ : Ext M₀ a₀ s) :
    Ext M₀ a₀ (restoreSaddle w p ctr s) := by
  refine Ext.via hM h₀ ?_
  clear hM h₀ M₀ a₀
  suffices H : ∀ a₀, Ext 263300 a₀ s → Ext 263300 a₀ (restoreSaddle w p ctr s) from H s (Ext.refl _ _)
  intro a₀ h₀
  unfold restoreSaddle
  repeat' first
    | with_reducible assumption
    | (with_reducible intro _; intros; try beta_reduce)
    | with_reducible refine State.restoreGo_ext (by decide) ?_
    | split

theorem restoreFlash_ext {w : Writer} {p ctr : Nat} {s : State} {M₀ : Nat} {a₀ : State} (hM : Within 263300 M₀) (h₀ : Ext M₀ a₀ s) :
    Ext M₀ a₀ (restoreFlash w p ctr s) := by
  refine Ext.via hM h₀ ?_
  clear hM h₀ M₀ a₀
  suffices H : ∀ a₀, Ext 263300 a₀ s → Ext 263300 a₀ (restoreFlash w p ctr s) from H s (Ext.refl _ _)
  intro a₀ h₀
  unfold restoreFlash
  repeat' first
    | with_reducible assumption
    | (with_reducible intro _; intros; try beta_reduce)
    | with_reducible refine State.restoreGo_ext (by decide) ?_
    | split

theorem State.askStore_ext {s : State} {r : Restore} {off n : Nat} {M₀ : Nat} {a₀ : State} (hM : Within 260 M₀) (h₀ : Ext M₀ a₀ s) :
    Ext M₀ a₀ (State.askStore s r off n) := by
  refine Ext.via hM h₀ ?_
  clear hM h₀ M₀ a₀
  suffices H : ∀ a₀, Ext 260 a₀ s → Ext 260 a₀ (State.askStore s r off n) from H s (Ext.refl _ _)
  intro a₀ h₀
  unfold State.askStore
  repeat' first
    | with_reducible assumption
    | (with_reducible intro _; intros; try beta_reduce)
    | with_reducible refine State.request_ext (by decide) ?_
    | split

theorem restoreRemote_ext {w : Writer} {p ctr : Nat} {s : State} {M₀ : Nat} {a₀ : State} (hM : Within 263556 M₀) (h₀ : Ext M₀ a₀ s) :
    Ext M₀ a₀ (restoreRemote w p ctr s) := by
  refine Ext.via hM h₀ ?_
  clear hM h₀ M₀ a₀
  suffices H : ∀ a₀, Ext 263556 a₀ s → Ext 263556 a₀ (restoreRemote w p ctr s) from H s (Ext.refl _ _)
  intro a₀ h₀
  unfold restoreRemote
  repeat' first
    | with_reducible assumption
    | (with_reducible intro _; intros; try beta_reduce)
    | ((fail_if_no_progress extract_lets +onlyGivenNames t); refine Ext.cut (M := 263556) (a := a₀) (b := t) ?_ (fun ht => ?_); rotate_left; clear_value t)
    | ((fail_if_no_progress extract_lets +onlyGivenNames u); have v : Nat := u; clear v; clear_value u)
    | ((fail_if_no_progress extract_lets +onlyGivenNames u); have v : List _ := u; clear v; clear_value u)
    | ((fail_if_no_progress extract_lets +onlyGivenNames u); have v : Option _ := u; clear v; fail_if_success (have v : Option State := u); clear_value u)
    | (fail_if_no_progress extract_lets +onlyGivenNames u)
    | with_reducible refine State.restoreGo_ext (by decide) ?_
    | with_reducible refine State.askStore_ext (by decide) ?_
    | with_reducible refine State.restoreEnd_ext (by decide) ?_
    | split
    | (clear_value *; split)
    | (unfold t)
    | (unfold u; try beta_reduce)

theorem restoreTwin_ext {w : Writer} {p ctr : Nat} {s : State} {M₀ : Nat} {a₀ : State} (hM : Within 263300 M₀) (h₀ : Ext M₀ a₀ s) :
    Ext M₀ a₀ (restoreTwin w p ctr s) := by
  refine Ext.via hM h₀ ?_
  clear hM h₀ M₀ a₀
  suffices H : ∀ a₀, Ext 263300 a₀ s → Ext 263300 a₀ (restoreTwin w p ctr s) from H s (Ext.refl _ _)
  intro a₀ h₀
  unfold restoreTwin
  repeat' first
    | with_reducible assumption
    | (with_reducible intro _; intros; try beta_reduce)
    | with_reducible refine State.restoreGo_ext (by decide) ?_
    | split

theorem State.restoreData_ext {s : State} {data : List Byte} {M₀ : Nat} {a₀ : State} (hM : Within 262404 M₀) (h₀ : Ext M₀ a₀ s) :
    Ext M₀ a₀ (State.restoreData s data) := by
  refine Ext.via hM h₀ ?_
  clear hM h₀ M₀ a₀
  suffices H : ∀ a₀, Ext 262404 a₀ s → Ext 262404 a₀ (State.restoreData s data) from H s (Ext.refl _ _)
  intro a₀ h₀
  unfold State.restoreData
  repeat' first
    | with_reducible assumption
    | (with_reducible intro _; intros; try beta_reduce)
    | ((fail_if_no_progress extract_lets +onlyGivenNames t); refine Ext.cut (M := 262404) (a := a₀) (b := t) ?_ (fun ht => ?_); rotate_left; clear_value t)
    | ((fail_if_no_progress extract_lets +onlyGivenNames u); have v : Nat := u; clear v; clear_value u)
    | ((fail_if_no_progress extract_lets +onlyGivenNames u); have v : List _ := u; clear v; clear_value u)
    | ((fail_if_no_progress extract_lets +onlyGivenNames u); have v : Option _ := u; clear v; fail_if_success (have v : Option State := u); clear_value u)
    | (fail_if_no_progress extract_lets +onlyGivenNames u)
    | with_reducible refine State.setRestore_ext (by decide) ?_
    | with_reducible refine State.askStore_ext (by decide) ?_
    | split
    | (clear_value *; split)
    | (unfold t)
    | (unfold u; try beta_reduce)
    | (refine Ext.upd ?_ ?_ ?_ ?_ ?_ ?_ ?_ ?_ ?_ ?_ ?_ ?_ ?_ ?_ ?_ ?_ ?_ ?_ ?_ ?_ <;> first | rfl | exact fun _ => rfl | exact fun h => absurd h (by decide) | skip)

theorem State.applyRouting_ext {s : State} {p : Nat} {x : SnapImage} {M₀ : Nat} {a₀ : State} (hM : Within 131076 M₀) (h₀ : Ext M₀ a₀ s) :
    OptExt M₀ a₀ (State.applyRouting s p x) := by
  refine OptExt.via hM h₀ ?_
  clear hM h₀ M₀ a₀
  suffices H : ∀ a₀, Ext 131076 a₀ s → OptExt 131076 a₀ (State.applyRouting s p x) from H s (Ext.refl _ _)
  intro a₀ h₀
  unfold State.applyRouting
  repeat' first
    | with_reducible assumption
    | with_reducible exact OptExt.none
    | with_reducible refine OptExt.some ?_
    | with_reducible refine OptExt.bind ?_ ?_
    | (with_reducible intro _; intros; try beta_reduce)
    | ((fail_if_no_progress extract_lets +onlyGivenNames t); refine Ext.cut (M := 131076) (a := a₀) (b := t) ?_ (fun ht => ?_); rotate_left; clear_value t)
    | ((fail_if_no_progress extract_lets +onlyGivenNames u); have v : Nat := u; clear v; clear_value u)
    | ((fail_if_no_progress extract_lets +onlyGivenNames u); have v : List _ := u; clear v; clear_value u)
    | ((fail_if_no_progress extract_lets +onlyGivenNames u); have v : Option _ := u; clear v; fail_if_success (have v : Option State := u); clear_value u)
    | (fail_if_no_progress extract_lets +onlyGivenNames u)
    | with_reducible refine State.put_ext (by decide) ?_
    | with_reducible refine State.setGrp_ext (by decide) ?_
    | with_reducible refine State.wr_ext (by decide) ?_
    | with_reducible refine State.applyRecs_ext (by decide) ?_
    | (with_reducible refine Ext.foldl _ ?_ ?_)
    | (with_reducible refine Ext.foldl_fst _ ?_ ?_)
    | split
    | (clear_value *; split)
    | (unfold t)
    | (unfold u; try beta_reduce)

theorem State.markDiverged_ext {s : State} {p : Nat} {b : Bool} {M₀ : Nat} {a₀ : State} (hM : Within 4 M₀) (h₀ : Ext M₀ a₀ s) :
    Ext M₀ a₀ (State.markDiverged s p b) := by
  refine Ext.via hM h₀ ?_
  clear hM h₀ M₀ a₀
  suffices H : ∀ a₀, Ext 4 a₀ s → Ext 4 a₀ (State.markDiverged s p b) from H s (Ext.refl _ _)
  intro a₀ h₀
  unfold State.markDiverged
  repeat' first
    | with_reducible assumption
    | (with_reducible intro _; intros; try beta_reduce)
    | with_reducible refine State.putB_ext (by decide) ?_
    | split

theorem State.writeRegions_ext {s : State} {rs : List (Nat × Nat)} {data : List Byte} {M₀ : Nat} {a₀ : State} (hM : Within 48 M₀) (h₀ : Ext M₀ a₀ s) :
    Ext M₀ a₀ (State.writeRegions s rs data) := by
  refine Ext.via hM h₀ ?_
  clear hM h₀ M₀ a₀
  suffices H : ∀ a₀, Ext 48 a₀ s → Ext 48 a₀ (State.writeRegions s rs data) from H s (Ext.refl _ _)
  intro a₀ h₀
  unfold State.writeRegions
  repeat' first
    | with_reducible assumption
    | (with_reducible intro _; intros; try beta_reduce)
    | with_reducible refine State.store_ext (by decide) ?_
    | (with_reducible refine Ext.foldl _ ?_ ?_)
    | (with_reducible refine Ext.foldl_fst _ ?_ ?_)
    | split

theorem State.restoreScalars_ext {s : State} {r : Restore} {x : SnapImage} {M₀ : Nat} {a₀ : State} (hM : Within 6 M₀) (h₀ : Ext M₀ a₀ s) :
    Ext M₀ a₀ (State.restoreScalars s r x) := by
  refine Ext.via hM h₀ ?_
  clear hM h₀ M₀ a₀
  suffices H : ∀ a₀, Ext 6 a₀ s → Ext 6 a₀ (State.restoreScalars s r x) from H s (Ext.refl _ _)
  intro a₀ h₀
  unfold State.restoreScalars
  repeat' first
    | with_reducible assumption
    | (with_reducible intro _; intros; try beta_reduce)
    | ((fail_if_no_progress extract_lets +onlyGivenNames t); refine Ext.cut (M := 6) (a := a₀) (b := t) ?_ (fun ht => ?_); rotate_left; clear_value t)
    | ((fail_if_no_progress extract_lets +onlyGivenNames u); have v : Nat := u; clear v; clear_value u)
    | ((fail_if_no_progress extract_lets +onlyGivenNames u); have v : List _ := u; clear v; clear_value u)
    | ((fail_if_no_progress extract_lets +onlyGivenNames u); have v : Option _ := u; clear v; fail_if_success (have v : Option State := u); clear_value u)
    | (fail_if_no_progress extract_lets +onlyGivenNames u)
    | with_reducible refine State.useFresh_ext (by decide) ?_
    | with_reducible refine State.wr_ext (by decide) ?_
    | split
    | (clear_value *; split)
    | (unfold t)
    | (unfold u; try beta_reduce)

theorem State.clearCounters_ext {s : State} {p : Nat} {M₀ : Nat} {a₀ : State} (hM : Within 4 M₀) (h₀ : Ext M₀ a₀ s) :
    Ext M₀ a₀ (State.clearCounters s p) := by
  refine Ext.via hM h₀ ?_
  clear hM h₀ M₀ a₀
  suffices H : ∀ a₀, Ext 4 a₀ s → Ext 4 a₀ (State.clearCounters s p) from H s (Ext.refl _ _)
  intro a₀ h₀
  unfold State.clearCounters
  repeat' first
    | with_reducible assumption
    | (with_reducible intro _; intros; try beta_reduce)
    | with_reducible refine State.wr_ext (by decide) ?_
    | (with_reducible refine Ext.foldl _ ?_ ?_)
    | (with_reducible refine Ext.foldl_fst _ ?_ ?_)
    | split

theorem State.clearDraws_ext {s : State} {p : Nat} {M₀ : Nat} {a₀ : State} (hM : Within 4096 M₀) (h₀ : Ext M₀ a₀ s) :
    Ext M₀ a₀ (State.clearDraws s p) := by
  refine Ext.via hM h₀ ?_
  clear hM h₀ M₀ a₀
  suffices H : ∀ a₀, Ext 4096 a₀ s → Ext 4096 a₀ (State.clearDraws s p) from H s (Ext.refl _ _)
  intro a₀ h₀
  unfold State.clearDraws
  repeat' first
    | with_reducible assumption
    | (with_reducible intro _; intros; try beta_reduce)
    | split
    | (refine Ext.upd ?_ ?_ ?_ ?_ ?_ ?_ ?_ ?_ ?_ ?_ ?_ ?_ ?_ ?_ ?_ ?_ ?_ ?_ ?_ ?_ <;> first | rfl | exact fun _ => rfl | exact fun h => absurd h (by decide) | skip)

theorem State.forgetSteps_ext {s : State} {p : Nat} {M₀ : Nat} {a₀ : State} (hM : Within 163840 M₀) (h₀ : Ext M₀ a₀ s) :
    Ext M₀ a₀ (State.forgetSteps s p) := by
  refine Ext.via hM h₀ ?_
  clear hM h₀ M₀ a₀
  suffices H : ∀ a₀, Ext 163840 a₀ s → Ext 163840 a₀ (State.forgetSteps s p) from H s (Ext.refl _ _)
  intro a₀ h₀
  unfold State.forgetSteps
  repeat' first
    | with_reducible assumption
    | (with_reducible intro _; intros; try beta_reduce)
    | ((fail_if_no_progress extract_lets +onlyGivenNames t); refine Ext.cut (M := 163840) (a := a₀) (b := t) ?_ (fun ht => ?_); rotate_left; clear_value t)
    | ((fail_if_no_progress extract_lets +onlyGivenNames u); have v : Nat := u; clear v; clear_value u)
    | ((fail_if_no_progress extract_lets +onlyGivenNames u); have v : List _ := u; clear v; clear_value u)
    | ((fail_if_no_progress extract_lets +onlyGivenNames u); have v : Option _ := u; clear v; fail_if_success (have v : Option State := u); clear_value u)
    | (fail_if_no_progress extract_lets +onlyGivenNames u)
    | split
    | (clear_value *; split)
    | (unfold t)
    | (unfold u; try beta_reduce)
    | (refine Ext.upd ?_ ?_ ?_ ?_ ?_ ?_ ?_ ?_ ?_ ?_ ?_ ?_ ?_ ?_ ?_ ?_ ?_ ?_ ?_ ?_ <;> first | rfl | exact fun _ => rfl | exact fun h => absurd h (by decide) | skip)

theorem State.restartFences_ext {s : State} {p : Nat} {M₀ : Nat} {a₀ : State} (hM : Within 262208 M₀) (h₀ : Ext M₀ a₀ s) :
    Ext M₀ a₀ (State.restartFences s p) := by
  refine Ext.via hM h₀ ?_
  clear hM h₀ M₀ a₀
  suffices H : ∀ a₀, Ext 262208 a₀ s → Ext 262208 a₀ (State.restartFences s p) from H s (Ext.refl _ _)
  intro a₀ h₀
  unfold State.restartFences
  repeat' first
    | with_reducible assumption
    | (with_reducible intro _; intros; try beta_reduce)
    | ((fail_if_no_progress extract_lets +onlyGivenNames t); refine Ext.cut (M := 262208) (a := a₀) (b := t) ?_ (fun ht => ?_); rotate_left; clear_value t)
    | ((fail_if_no_progress extract_lets +onlyGivenNames u); have v : Nat := u; clear v; clear_value u)
    | ((fail_if_no_progress extract_lets +onlyGivenNames u); have v : List _ := u; clear v; clear_value u)
    | ((fail_if_no_progress extract_lets +onlyGivenNames u); have v : Option _ := u; clear v; fail_if_success (have v : Option State := u); clear_value u)
    | (fail_if_no_progress extract_lets +onlyGivenNames u)
    | with_reducible refine State.setPart_ext (by decide) ?_
    | with_reducible refine State.setTwin_ext (by decide) ?_
    | split
    | (clear_value *; split)
    | (unfold t)
    | (unfold u; try beta_reduce)
    | (refine Ext.upd ?_ ?_ ?_ ?_ ?_ ?_ ?_ ?_ ?_ ?_ ?_ ?_ ?_ ?_ ?_ ?_ ?_ ?_ ?_ ?_ <;> first | rfl | exact fun _ => rfl | exact fun h => absurd h (by decide) | skip)

theorem State.restoreFinish_ext {s : State} {r : Restore} {x : SnapImage} {M₀ : Nat} {a₀ : State} (hM : Within 496838 M₀) (h₀ : Ext M₀ a₀ s) :
    Ext M₀ a₀ (State.restoreFinish s r x) := by
  refine Ext.via hM h₀ ?_
  clear hM h₀ M₀ a₀
  suffices H : ∀ a₀, Ext 496838 a₀ s → Ext 496838 a₀ (State.restoreFinish s r x) from H s (Ext.refl _ _)
  intro a₀ h₀
  unfold State.restoreFinish
  repeat' first
    | with_reducible assumption
    | (with_reducible intro _; intros; try beta_reduce)
    | ((fail_if_no_progress extract_lets +onlyGivenNames t); refine Ext.cut (M := 496838) (a := a₀) (b := t) ?_ (fun ht => ?_); rotate_left; clear_value t)
    | ((fail_if_no_progress extract_lets +onlyGivenNames u); have v : Nat := u; clear v; clear_value u)
    | ((fail_if_no_progress extract_lets +onlyGivenNames u); have v : List _ := u; clear v; clear_value u)
    | ((fail_if_no_progress extract_lets +onlyGivenNames u); have v : Option _ := u; clear v; fail_if_success (have v : Option State := u); clear_value u)
    | (fail_if_no_progress extract_lets +onlyGivenNames u)
    | with_reducible refine State.restoreScalars_ext (by decide) ?_
    | with_reducible refine State.clearCounters_ext (by decide) ?_
    | with_reducible refine State.clearDraws_ext (by decide) ?_
    | with_reducible refine State.forgetSteps_ext (by decide) ?_
    | with_reducible refine State.restartFences_ext (by decide) ?_
    | with_reducible refine State.sendMirrorReset_ext (by decide) ?_
    | with_reducible refine State.modeUpdate_ext (by decide) ?_
    | with_reducible refine State.wr_ext (by decide) ?_
    | with_reducible refine State.wake_ext (by decide) ?_
    | with_reducible refine State.genericNotice_ext (by decide) ?_
    | with_reducible refine State.restoreEnd_ext (by decide) ?_
    | split
    | (clear_value *; split)
    | (unfold t)
    | (unfold u; try beta_reduce)

theorem State.tensorsFail_ext {s : State} {x : SnapImage} {result : Nat} {M₀ : Nat} {a₀ : State} (hM : Within 263222 M₀) (h₀ : Ext M₀ a₀ s) :
    Ext M₀ a₀ (State.tensorsFail s x result) := by
  refine Ext.via hM h₀ ?_
  clear hM h₀ M₀ a₀
  suffices H : ∀ a₀, Ext 263222 a₀ s → Ext 263222 a₀ (State.tensorsFail s x result) from H s (Ext.refl _ _)
  intro a₀ h₀
  unfold State.tensorsFail
  repeat' first
    | with_reducible assumption
    | (with_reducible intro _; intros; try beta_reduce)
    | with_reducible refine State.storeFree_ext (by decide) ?_
    | with_reducible refine State.restoreEnd_ext (by decide) ?_
    | (with_reducible refine Ext.foldl _ ?_ ?_)
    | (with_reducible refine Ext.foldl_fst _ ?_ ?_)
    | split

theorem State.restoreVerifyFail_ext {s : State} {p e : Nat} {x : SnapImage} {M₀ : Nat} {a₀ : State} (hM : Within 263300 M₀) (h₀ : Ext M₀ a₀ s) :
    Ext M₀ a₀ (State.restoreVerifyFail s p e x) := by
  refine Ext.via hM h₀ ?_
  clear hM h₀ M₀ a₀
  suffices H : ∀ a₀, Ext 263300 a₀ s → Ext 263300 a₀ (State.restoreVerifyFail s p e x) from H s (Ext.refl _ _)
  intro a₀ h₀
  unfold State.restoreVerifyFail
  repeat' first
    | with_reducible assumption
    | (with_reducible intro _; intros; try beta_reduce)
    | ((fail_if_no_progress extract_lets +onlyGivenNames t); refine Ext.cut (M := 263300) (a := a₀) (b := t) ?_ (fun ht => ?_); rotate_left; clear_value t)
    | ((fail_if_no_progress extract_lets +onlyGivenNames u); have v : Nat := u; clear v; clear_value u)
    | ((fail_if_no_progress extract_lets +onlyGivenNames u); have v : List _ := u; clear v; clear_value u)
    | ((fail_if_no_progress extract_lets +onlyGivenNames u); have v : Option _ := u; clear v; fail_if_success (have v : Option State := u); clear_value u)
    | (fail_if_no_progress extract_lets +onlyGivenNames u)
    | with_reducible refine State.event_ext (by decide) ?_
    | with_reducible refine State.restoreEnd_ext (by decide) ?_
    | split
    | (clear_value *; split)
    | (unfold t)
    | (unfold u; try beta_reduce)

theorem State.restoreVerify_ext {s : State} {r : Restore} {M₀ : Nat} {a₀ : State} (hM : Within 263300 M₀) (h₀ : Ext M₀ a₀ s) :
    Ext M₀ a₀ (State.restoreVerify s r) := by
  refine Ext.via hM h₀ ?_
  clear hM h₀ M₀ a₀
  suffices H : ∀ a₀, Ext 263300 a₀ s → Ext 263300 a₀ (State.restoreVerify s r) from H s (Ext.refl _ _)
  intro a₀ h₀
  unfold State.restoreVerify
  repeat' first
    | with_reducible assumption
    | (with_reducible intro _; intros; try beta_reduce)
    | ((fail_if_no_progress extract_lets +onlyGivenNames t); refine Ext.cut (M := 263300) (a := a₀) (b := t) ?_ (fun ht => ?_); rotate_left; clear_value t)
    | ((fail_if_no_progress extract_lets +onlyGivenNames u); have v : Nat := u; clear v; clear_value u)
    | ((fail_if_no_progress extract_lets +onlyGivenNames u); have v : List _ := u; clear v; clear_value u)
    | ((fail_if_no_progress extract_lets +onlyGivenNames u); have v : Option _ := u; clear v; fail_if_success (have v : Option State := u); clear_value u)
    | (fail_if_no_progress extract_lets +onlyGivenNames u)
    | with_reducible refine State.restoreEnd_ext (by decide) ?_
    | with_reducible refine State.put_ext (by decide) ?_
    | with_reducible refine State.restoreVerifyFail_ext (by decide) ?_
    | split
    | (clear_value *; split)
    | (unfold t)
    | (unfold u; try beta_reduce)

theorem State.routed_ext {s : State} {r : Restore} {M₀ : Nat} {a₀ : State} (hM : Within 131076 M₀) (h₀ : Ext M₀ a₀ s) :
    OptExt M₀ a₀ (State.routed s r) := by
  refine OptExt.via hM h₀ ?_
  clear hM h₀ M₀ a₀
  suffices H : ∀ a₀, Ext 131076 a₀ s → OptExt 131076 a₀ (State.routed s r) from H s (Ext.refl _ _)
  intro a₀ h₀
  unfold State.routed
  repeat' first
    | with_reducible assumption
    | with_reducible exact OptExt.none
    | with_reducible refine OptExt.some ?_
    | with_reducible refine OptExt.bind ?_ ?_
    | (with_reducible intro _; intros; try beta_reduce)
    | with_reducible refine State.applySection_ext (by decide) ?_
    | with_reducible refine State.applyRouting_ext (by decide) ?_
    | split

theorem State.beginTensors_ext {s : State} {r : Restore} {M₀ : Nat} {a₀ : State} (hM : Within 328708 M₀) (h₀ : Ext M₀ a₀ s) :
    Ext M₀ a₀ (State.beginTensors s r) := by
  refine Ext.via hM h₀ ?_
  clear hM h₀ M₀ a₀
  suffices H : ∀ a₀, Ext 328708 a₀ s → Ext 328708 a₀ (State.beginTensors s r) from H s (Ext.refl _ _)
  intro a₀ h₀
  unfold State.beginTensors
  repeat' first
    | with_reducible assumption
    | (with_reducible intro _; intros; try beta_reduce)
    | ((fail_if_no_progress extract_lets +onlyGivenNames t); refine Ext.cut (M := 328708) (a := a₀) (b := t) ?_ (fun ht => ?_); rotate_left; clear_value t)
    | ((fail_if_no_progress extract_lets +onlyGivenNames u); have v : Nat := u; clear v; clear_value u)
    | ((fail_if_no_progress extract_lets +onlyGivenNames u); have v : List _ := u; clear v; clear_value u)
    | ((fail_if_no_progress extract_lets +onlyGivenNames u); have v : Option _ := u; clear v; fail_if_success (have v : Option State := u); clear_value u)
    | (fail_if_no_progress extract_lets +onlyGivenNames u)
    | with_reducible refine State.put_ext (by decide) ?_
    | with_reducible refine State.restoreEnd_ext (by decide) ?_
    | split
    | (clear_value *; split)
    | (unfold t)
    | with_reducible exact OptExt.out (State.askHandback_ext (M₀ := 328708) (a₀ := a₀) (by decide) (by assumption)) (by assumption)
    | (unfold u; try beta_reduce)

theorem State.restoreRouting_ext {s : State} {r : Restore} {M₀ : Nat} {a₀ : State} (hM : Within 459908 M₀) (h₀ : Ext M₀ a₀ s) :
    Ext M₀ a₀ (State.restoreRouting s r) := by
  refine Ext.via hM h₀ ?_
  clear hM h₀ M₀ a₀
  suffices H : ∀ a₀, Ext 459908 a₀ s → Ext 459908 a₀ (State.restoreRouting s r) from H s (Ext.refl _ _)
  intro a₀ h₀
  unfold State.restoreRouting
  repeat' first
    | with_reducible assumption
    | (with_reducible intro _; intros; try beta_reduce)
    | with_reducible refine State.beginTensors_ext (by decide) ?_
    | with_reducible refine State.markDiverged_ext (by decide) ?_
    | with_reducible refine State.generic_ext (by decide) ?_
    | with_reducible refine State.restoreEnd_ext (by decide) ?_
    | with_reducible exact OptExt.out (State.routed_ext (M₀ := 459908) (a₀ := a₀) (by decide) (by assumption)) (by assumption)
    | split

theorem State.restoreTensors_ext {s : State} {r : Restore} {M₀ : Nat} {a₀ : State} (hM : Within 263222 M₀) (h₀ : Ext M₀ a₀ s) :
    Ext M₀ a₀ (State.restoreTensors s r) := by
  refine Ext.via hM h₀ ?_
  clear hM h₀ M₀ a₀
  suffices H : ∀ a₀, Ext 263222 a₀ s → Ext 263222 a₀ (State.restoreTensors s r) from H s (Ext.refl _ _)
  intro a₀ h₀
  unfold State.restoreTensors
  repeat' first
    | with_reducible assumption
    | (with_reducible intro _; intros; try beta_reduce)
    | ((fail_if_no_progress extract_lets +onlyGivenNames t); refine Ext.cut (M := 263222) (a := a₀) (b := t) ?_ (fun ht => ?_); rotate_left; clear_value t)
    | ((fail_if_no_progress extract_lets +onlyGivenNames u); have v : Nat := u; clear v; clear_value u)
    | ((fail_if_no_progress extract_lets +onlyGivenNames u); have v : List _ := u; clear v; clear_value u)
    | ((fail_if_no_progress extract_lets +onlyGivenNames u); have v : Option _ := u; clear v; fail_if_success (have v : Option State := u); clear_value u)
    | (fail_if_no_progress extract_lets +onlyGivenNames u)
    | with_reducible refine State.restoreEnd_ext (by decide) ?_
    | with_reducible refine State.put_ext (by decide) ?_
    | with_reducible refine State.tensorsFail_ext (by decide) ?_
    | with_reducible refine State.copyRegion_ext (by decide) ?_
    | with_reducible refine State.writeRegions_ext (by decide) ?_
    | with_reducible refine State.countRemote_ext (by decide) ?_
    | (with_reducible refine Ext.foldl _ ?_ ?_)
    | (with_reducible refine Ext.foldl_fst _ ?_ ?_)
    | split
    | (clear_value *; split)
    | (unfold t)
    | (unfold u; try beta_reduce)

theorem restorePhaseEnd_ext {s : State} {M₀ : Nat} {a₀ : State} (hM : Within 496886 M₀) (h₀ : Ext M₀ a₀ s) :
    Ext M₀ a₀ (restorePhaseEnd s) := by
  refine Ext.via hM h₀ ?_
  clear hM h₀ M₀ a₀
  suffices H : ∀ a₀, Ext 496886 a₀ s → Ext 496886 a₀ (restorePhaseEnd s) from H s (Ext.refl _ _)
  intro a₀ h₀
  unfold restorePhaseEnd
  repeat' first
    | with_reducible assumption
    | (with_reducible intro _; intros; try beta_reduce)
    | ((fail_if_no_progress extract_lets +onlyGivenNames t); refine Ext.cut (M := 496886) (a := a₀) (b := t) ?_ (fun ht => ?_); rotate_left; clear_value t)
    | ((fail_if_no_progress extract_lets +onlyGivenNames u); have v : Nat := u; clear v; clear_value u)
    | ((fail_if_no_progress extract_lets +onlyGivenNames u); have v : List _ := u; clear v; clear_value u)
    | ((fail_if_no_progress extract_lets +onlyGivenNames u); have v : Option _ := u; clear v; fail_if_success (have v : Option State := u); clear_value u)
    | (fail_if_no_progress extract_lets +onlyGivenNames u)
    | with_reducible refine State.restoreVerify_ext (by decide) ?_
    | with_reducible refine State.restoreRouting_ext (by decide) ?_
    | with_reducible refine State.restoreTensors_ext (by decide) ?_
    | with_reducible refine State.restoreFinish_ext (by decide) ?_
    | split
    | (clear_value *; split)
    | (unfold t)
    | (unfold u; try beta_reduce)

theorem leaseRenewal_ext {s : State} {M₀ : Nat} {a₀ : State} (hM : Within 1024 M₀) (h₀ : Ext M₀ a₀ s) :
    Ext M₀ a₀ (leaseRenewal s) := by
  refine Ext.via hM h₀ ?_
  clear hM h₀ M₀ a₀
  suffices H : ∀ a₀, Ext 1024 a₀ s → Ext 1024 a₀ (leaseRenewal s) from H s (Ext.refl _ _)
  intro a₀ h₀
  unfold leaseRenewal
  repeat' first
    | with_reducible assumption
    | (with_reducible intro _; intros; try beta_reduce)
    | with_reducible refine State.setBoot_ext (by decide) ?_
    | split
    | (refine Ext.upd ?_ ?_ ?_ ?_ ?_ ?_ ?_ ?_ ?_ ?_ ?_ ?_ ?_ ?_ ?_ ?_ ?_ ?_ ?_ ?_ <;> first | rfl | exact fun _ => rfl | exact fun h => absurd h (by decide) | skip)

theorem leaseRenewalMissed_ext {cause : Nat} {s : State} {M₀ : Nat} {a₀ : State} (hM : Within 69764 M₀) (h₀ : Ext M₀ a₀ s) :
    Ext M₀ a₀ (leaseRenewalMissed cause s) := by
  refine Ext.via hM h₀ ?_
  clear hM h₀ M₀ a₀
  suffices H : ∀ a₀, Ext 69764 a₀ s → Ext 69764 a₀ (leaseRenewalMissed cause s) from H s (Ext.refl _ _)
  intro a₀ h₀
  unfold leaseRenewalMissed
  repeat' first
    | with_reducible assumption
    | (with_reducible intro _; intros; try beta_reduce)
    | ((fail_if_no_progress extract_lets +onlyGivenNames t); refine Ext.cut (M := 69764) (a := a₀) (b := t) ?_ (fun ht => ?_); rotate_left; clear_value t)
    | ((fail_if_no_progress extract_lets +onlyGivenNames u); have v : Nat := u; clear v; clear_value u)
    | ((fail_if_no_progress extract_lets +onlyGivenNames u); have v : List _ := u; clear v; clear_value u)
    | ((fail_if_no_progress extract_lets +onlyGivenNames u); have v : Option _ := u; clear v; fail_if_success (have v : Option State := u); clear_value u)
    | (fail_if_no_progress extract_lets +onlyGivenNames u)
    | with_reducible refine State.put_ext (by decide) ?_
    | with_reducible refine State.clocks_ext (by decide) ?_
    | with_reducible refine State.event_ext (by decide) ?_
    | with_reducible refine State.sendTwinFailed_ext (by decide) ?_
    | split
    | (clear_value *; split)
    | (unfold t)
    | (unfold u; try beta_reduce)

end Sys2Proof.Machine
end

