-- ==== Sys2Proof/Laws/ExtUpdate.lean ====
section
/-!
SUPPORT. What each operation of Machine/Update.lean can change: one lemma each.
-/
namespace Sys2Proof.Machine

theorem State.senFlag_ext {s : State} {fr : Nat → FieldRef} {as : List Nat} {M₀ : Nat} {a₀ : State} (hM : Within 4 M₀) (h₀ : Ext M₀ a₀ s) :
    Ext M₀ a₀ (State.senFlag s fr as) := by
  refine Ext.via hM h₀ ?_
  clear hM h₀ M₀ a₀
  suffices H : ∀ a₀, Ext 4 a₀ s → Ext 4 a₀ (State.senFlag s fr as) from H s (Ext.refl _ _)
  intro a₀ h₀
  unfold State.senFlag
  repeat' first
    | with_reducible assumption
    | (with_reducible intro _; intros; try beta_reduce)
    | with_reducible refine State.put_ext (by decide) ?_
    | (with_reducible refine Ext.foldl _ ?_ ?_)
    | (with_reducible refine Ext.foldl_fst _ ?_ ?_)
    | split

theorem State.colmaxRun_ext {s : State} {slot : Nat} {o : Op} {gs : List ColGroup} {fmt base : Nat} {poison : Bool} {ss ds : List DescP} {M₀ : Nat} {a₀ : State} (hM : Within 37110 M₀) (h₀ : Ext M₀ a₀ s) :
    Ext M₀ a₀ (State.colmaxRun s slot o gs fmt base poison ss ds) := by
  refine Ext.via hM h₀ ?_
  clear hM h₀ M₀ a₀
  suffices H : ∀ a₀, Ext 37110 a₀ s → Ext 37110 a₀ (State.colmaxRun s slot o gs fmt base poison ss ds) from H s (Ext.refl _ _)
  intro a₀ h₀
  unfold State.colmaxRun
  repeat' first
    | with_reducible assumption
    | (with_reducible intro _; intros; try beta_reduce)
    | ((fail_if_no_progress extract_lets +onlyGivenNames t); refine Ext.cut (M := 37110) (a := a₀) (b := t) ?_ (fun ht => ?_); rotate_left; clear_value t)
    | ((fail_if_no_progress extract_lets +onlyGivenNames u); have v : Nat := u; clear v; clear_value u)
    | ((fail_if_no_progress extract_lets +onlyGivenNames u); have v : List _ := u; clear v; clear_value u)
    | ((fail_if_no_progress extract_lets +onlyGivenNames u); have v : Option _ := u; clear v; fail_if_success (have v : Option State := u); clear_value u)
    | (fail_if_no_progress extract_lets +onlyGivenNames u)
    | with_reducible refine State.storeFree_ext (by decide) ?_
    | with_reducible refine State.finish_ext (by decide) ?_
    | with_reducible refine State.writeUnits_ext (by decide) ?_
    | with_reducible refine State.noteOut_ext (by decide) ?_
    | with_reducible refine State.senFlag_ext (by decide) ?_
    | with_reducible refine State.trigger_ext (by decide) ?_
    | with_reducible refine State.moved_ext (by decide) ?_
    | (with_reducible refine Ext.foldl _ ?_ ?_)
    | (with_reducible refine Ext.foldl_fst _ ?_ ?_)
    | split
    | (clear_value *; split)
    | (unfold t)
    | (unfold u; try beta_reduce)

theorem State.colmaxChecked_ext {t : State} {slot : Nat} {o : Op} {ss ds : List DescP} {one : Option Plane} {base fmt : Nat} {M₀ : Nat} {a₀ : State} (hM : Within 37110 M₀) (h₀ : Ext M₀ a₀ t) :
    Ext M₀ a₀ (State.colmaxChecked t slot o ss ds one base fmt) := by
  refine Ext.via hM h₀ ?_
  clear hM h₀ M₀ a₀
  suffices H : ∀ a₀, Ext 37110 a₀ t → Ext 37110 a₀ (State.colmaxChecked t slot o ss ds one base fmt) from H t (Ext.refl _ _)
  intro a₀ h₀
  unfold State.colmaxChecked
  repeat' first
    | with_reducible assumption
    | (with_reducible intro _; intros; try beta_reduce)
    | ((fail_if_no_progress extract_lets +onlyGivenNames t); refine Ext.cut (M := 37110) (a := a₀) (b := t) ?_ (fun ht => ?_); rotate_left; clear_value t)
    | ((fail_if_no_progress extract_lets +onlyGivenNames u); have v : Nat := u; clear v; clear_value u)
    | ((fail_if_no_progress extract_lets +onlyGivenNames u); have v : List _ := u; clear v; clear_value u)
    | ((fail_if_no_progress extract_lets +onlyGivenNames u); have v : Option _ := u; clear v; fail_if_success (have v : Option State := u); clear_value u)
    | (fail_if_no_progress extract_lets +onlyGivenNames u)
    | with_reducible refine State.finish_ext (by decide) ?_
    | with_reducible refine State.descFault_ext (by decide) ?_
    | with_reducible refine State.colmaxRun_ext (by decide) ?_
    | split
    | (clear_value *; split)
    | (unfold t)
    | (unfold u; try beta_reduce)

theorem State.colmaxNarrow_ext {s : State} {slot : Nat} {o : Op} {ks : Take} {els : Nat} {M₀ : Nat} {a₀ : State} (hM : Within 37110 M₀) (h₀ : Ext M₀ a₀ s) :
    Ext M₀ a₀ (State.colmaxNarrow s slot o ks els) := by
  refine Ext.via hM h₀ ?_
  clear hM h₀ M₀ a₀
  suffices H : ∀ a₀, Ext 37110 a₀ s → Ext 37110 a₀ (State.colmaxNarrow s slot o ks els) from H s (Ext.refl _ _)
  intro a₀ h₀
  unfold State.colmaxNarrow
  repeat' first
    | with_reducible assumption
    | (with_reducible intro _; intros; try beta_reduce)
    | ((fail_if_no_progress extract_lets +onlyGivenNames t); refine Ext.cut (M := 37110) (a := a₀) (b := t) ?_ (fun ht => ?_); rotate_left; clear_value t)
    | ((fail_if_no_progress extract_lets +onlyGivenNames u); have v : Nat := u; clear v; clear_value u)
    | ((fail_if_no_progress extract_lets +onlyGivenNames u); have v : List _ := u; clear v; clear_value u)
    | ((fail_if_no_progress extract_lets +onlyGivenNames u); have v : Option _ := u; clear v; fail_if_success (have v : Option State := u); clear_value u)
    | (fail_if_no_progress extract_lets +onlyGivenNames u)
    | with_reducible refine State.takeSome_ext (by decide) ?_
    | with_reducible refine State.issue_ext (by decide) ?_
    | with_reducible refine State.consumeSide_ext (by decide) ?_
    | with_reducible refine State.descFault_ext (by decide) ?_
    | with_reducible refine State.advanceRng_ext (by decide) ?_
    | with_reducible refine State.colmaxChecked_ext (by decide) ?_
    | split
    | (clear_value *; split)
    | (unfold t)
    | (unfold u; try beta_reduce)

theorem State.colmaxPlanes_ext {s : State} {slot : Nat} {o : Op} {ks : Take} {els : Nat} {M₀ : Nat} {a₀ : State} (hM : Within 37110 M₀) (h₀ : Ext M₀ a₀ s) :
    Ext M₀ a₀ (State.colmaxPlanes s slot o ks els) := by
  refine Ext.via hM h₀ ?_
  clear hM h₀ M₀ a₀
  suffices H : ∀ a₀, Ext 37110 a₀ s → Ext 37110 a₀ (State.colmaxPlanes s slot o ks els) from H s (Ext.refl _ _)
  intro a₀ h₀
  unfold State.colmaxPlanes
  repeat' first
    | with_reducible assumption
    | (with_reducible intro _; intros; try beta_reduce)
    | ((fail_if_no_progress extract_lets +onlyGivenNames t); refine Ext.cut (M := 37110) (a := a₀) (b := t) ?_ (fun ht => ?_); rotate_left; clear_value t)
    | ((fail_if_no_progress extract_lets +onlyGivenNames u); have v : Nat := u; clear v; clear_value u)
    | ((fail_if_no_progress extract_lets +onlyGivenNames u); have v : List _ := u; clear v; clear_value u)
    | ((fail_if_no_progress extract_lets +onlyGivenNames u); have v : Option _ := u; clear v; fail_if_success (have v : Option State := u); clear_value u)
    | (fail_if_no_progress extract_lets +onlyGivenNames u)
    | with_reducible refine State.takeSome_ext (by decide) ?_
    | with_reducible refine State.issue_ext (by decide) ?_
    | with_reducible refine State.consumeSide_ext (by decide) ?_
    | with_reducible refine State.descFault_ext (by decide) ?_
    | with_reducible refine State.consume_ext (by decide) ?_
    | with_reducible refine State.useFresh_ext (by decide) ?_
    | with_reducible refine State.colmaxChecked_ext (by decide) ?_
    | split
    | (clear_value *; split)
    | (unfold t)
    | (unfold u; try beta_reduce)

theorem opColmax_ext {slot : Nat} {s : State} {M₀ : Nat} {a₀ : State} (hM : Within 37110 M₀) (h₀ : Ext M₀ a₀ s) :
    Ext M₀ a₀ (opColmax slot s) := by
  refine Ext.via hM h₀ ?_
  clear hM h₀ M₀ a₀
  suffices H : ∀ a₀, Ext 37110 a₀ s → Ext 37110 a₀ (opColmax slot s) from H s (Ext.refl _ _)
  intro a₀ h₀
  unfold opColmax
  repeat' first
    | with_reducible assumption
    | (with_reducible intro _; intros; try beta_reduce)
    | ((fail_if_no_progress extract_lets +onlyGivenNames t); refine Ext.cut (M := 37110) (a := a₀) (b := t) ?_ (fun ht => ?_); rotate_left; clear_value t)
    | ((fail_if_no_progress extract_lets +onlyGivenNames u); have v : Nat := u; clear v; clear_value u)
    | ((fail_if_no_progress extract_lets +onlyGivenNames u); have v : List _ := u; clear v; clear_value u)
    | ((fail_if_no_progress extract_lets +onlyGivenNames u); have v : Option _ := u; clear v; fail_if_success (have v : Option State := u); clear_value u)
    | (fail_if_no_progress extract_lets +onlyGivenNames u)
    | with_reducible refine State.takeSome_ext (by decide) ?_
    | with_reducible refine State.issue_ext (by decide) ?_
    | with_reducible refine State.consumeSide_ext (by decide) ?_
    | with_reducible refine State.descFault_ext (by decide) ?_
    | with_reducible refine State.colmaxPlanes_ext (by decide) ?_
    | with_reducible refine State.colmaxNarrow_ext (by decide) ?_
    | split
    | (clear_value *; split)
    | (unfold t)
    | (unfold u; try beta_reduce)

theorem State.sendBlocks_ext {s : State} {p slot step part at_ : Nat} {bs : List (Nat × Nat × List Byte)} {M₀ : Nat} {a₀ : State} (hM : Within 327684 M₀) (h₀ : Ext M₀ a₀ s) :
    Ext M₀ a₀ ((State.sendBlocks s p slot step part at_ bs).1) := by
  refine Ext.via hM h₀ ?_
  clear hM h₀ M₀ a₀
  suffices H : ∀ a₀, Ext 327684 a₀ s → Ext 327684 a₀ ((State.sendBlocks s p slot step part at_ bs).1) from H s (Ext.refl _ _)
  intro a₀ h₀
  unfold State.sendBlocks
  repeat' first
    | with_reducible assumption
    | (with_reducible intro _; intros; try beta_reduce)
    | ((fail_if_no_progress extract_lets +onlyGivenNames t); refine Ext.cut (M := 327684) (a := a₀) (b := t) ?_ (fun ht => ?_); rotate_left; clear_value t)
    | ((fail_if_no_progress extract_lets +onlyGivenNames u); have v : Nat := u; clear v; clear_value u)
    | ((fail_if_no_progress extract_lets +onlyGivenNames u); have v : List _ := u; clear v; clear_value u)
    | ((fail_if_no_progress extract_lets +onlyGivenNames u); have v : Option _ := u; clear v; fail_if_success (have v : Option State := u); clear_value u)
    | (fail_if_no_progress extract_lets +onlyGivenNames u)
    | with_reducible refine State.sendMirror_ext (by decide) ?_
    | with_reducible refine State.countRemote_ext (by decide) ?_
    | (with_reducible refine Ext.foldl _ ?_ ?_)
    | (with_reducible refine Ext.foldl_fst _ ?_ ?_)
    | split
    | (clear_value *; split)
    | (unfold t)
    | (unfold u; try beta_reduce)

theorem State.sendApplyParts_ext {s : State} {slot : Nat} {o : Op} {xs : List ApplyElem} {done : ApplyElem → Bool}
    {M₀ : Nat} {a₀ : State} (hM : Within 327684 M₀) (h₀ : Ext M₀ a₀ s) : Ext M₀ a₀ (s.sendApplyParts slot o xs done).1 := by
  refine Ext.via hM h₀ ?_
  clear hM h₀ M₀ a₀
  unfold State.sendApplyParts
  extract_lets p rule step a len r0 r1 r2
  have h0 : Ext 327684 s r0.1 := State.sendBlocks_ext (by decide) (Ext.refl _ _)
  clear_value r0
  have h1 : Ext 327684 s r1.1 := by
    unfold r1
    split
    · exact State.sendBlocks_ext (by decide) h0
    · exact h0
  clear_value r1
  have h2 : Ext 327684 s r2.1 := by
    unfold r2
    split
    · exact State.sendBlocks_ext (by decide) h1
    · exact h1
  exact h2

theorem State.sendApplyMirror_ext {s : State} {slot : Nat} {o : Op} {xs : List ApplyElem} {M₀ : Nat} {a₀ : State} (hM : Within 327684 M₀) (h₀ : Ext M₀ a₀ s) :
    Ext M₀ a₀ (s.sendApplyMirror slot o xs) := by
  refine Ext.via hM h₀ ?_
  clear hM h₀ M₀ a₀
  exact State.setTwin_ext (by decide) (State.sendApplyParts_ext (by decide) (Ext.refl _ _))

theorem State.applyFlags_ext {s : State} {slot : Nat} {xs : List ApplyElem} {M₀ : Nat} {a₀ : State} (hM : Within 32964 M₀) (h₀ : Ext M₀ a₀ s) :
    Ext M₀ a₀ (State.applyFlags s slot xs) := by
  refine Ext.via hM h₀ ?_
  clear hM h₀ M₀ a₀
  suffices H : ∀ a₀, Ext 32964 a₀ s → Ext 32964 a₀ (State.applyFlags s slot xs) from H s (Ext.refl _ _)
  intro a₀ h₀
  unfold State.applyFlags
  repeat' first
    | with_reducible assumption
    | (with_reducible intro _; intros; try beta_reduce)
    | ((fail_if_no_progress extract_lets +onlyGivenNames t); refine Ext.cut (M := 32964) (a := a₀) (b := t) ?_ (fun ht => ?_); rotate_left; clear_value t)
    | ((fail_if_no_progress extract_lets +onlyGivenNames u); have v : Nat := u; clear v; clear_value u)
    | ((fail_if_no_progress extract_lets +onlyGivenNames u); have v : List _ := u; clear v; clear_value u)
    | ((fail_if_no_progress extract_lets +onlyGivenNames u); have v : Option _ := u; clear v; fail_if_success (have v : Option State := u); clear_value u)
    | (fail_if_no_progress extract_lets +onlyGivenNames u)
    | with_reducible refine State.senFlag_ext (by decide) ?_
    | with_reducible refine State.trigger_ext (by decide) ?_
    | split
    | (clear_value *; split)
    | (unfold t)
    | (unfold u; try beta_reduce)

theorem State.applyRun_ext {t : State} {slot : Nat} {o : Op} {base : Nat} {ss ds : List DescP} {M₀ : Nat} {a₀ : State} (hM : Within 364790 M₀) (h₀ : Ext M₀ a₀ t) :
    Ext M₀ a₀ (State.applyRun t slot o base ss ds) := by
  refine Ext.via hM h₀ ?_
  clear hM h₀ M₀ a₀
  suffices H : ∀ a₀, Ext 364790 a₀ t → Ext 364790 a₀ (State.applyRun t slot o base ss ds) from H t (Ext.refl _ _)
  intro a₀ h₀
  unfold State.applyRun
  repeat' first
    | with_reducible assumption
    | (with_reducible intro _; intros; try beta_reduce)
    | ((fail_if_no_progress extract_lets +onlyGivenNames t); refine Ext.cut (M := 364790) (a := a₀) (b := t) ?_ (fun ht => ?_); rotate_left; clear_value t)
    | ((fail_if_no_progress extract_lets +onlyGivenNames u); have v : Nat := u; clear v; clear_value u)
    | ((fail_if_no_progress extract_lets +onlyGivenNames u); have v : List _ := u; clear v; clear_value u)
    | ((fail_if_no_progress extract_lets +onlyGivenNames u); have v : Option _ := u; clear v; fail_if_success (have v : Option State := u); clear_value u)
    | (fail_if_no_progress extract_lets +onlyGivenNames u)
    | with_reducible refine State.writeUnits_ext (by decide) ?_
    | with_reducible refine State.applyFlags_ext (by decide) ?_
    | with_reducible refine State.useFresh_ext (by decide) ?_
    | with_reducible refine State.sendApplyParts_ext (by decide) ?_
    | with_reducible refine State.finish_ext (by decide) ?_
    | with_reducible refine State.noteOut_ext (by decide) ?_
    | with_reducible refine State.bump_ext (by decide) ?_
    | with_reducible refine State.moved_ext (by decide) ?_
    | with_reducible refine State.sendApplyMirror_ext (by decide) ?_
    | (with_reducible refine Ext.foldl _ ?_ ?_)
    | (with_reducible refine Ext.foldl_fst _ ?_ ?_)
    | split
    | (clear_value *; split)
    | (unfold t)
    | (unfold u; try beta_reduce)

theorem opApply_ext {slot : Nat} {s : State} {M₀ : Nat} {a₀ : State} (hM : Within 364790 M₀) (h₀ : Ext M₀ a₀ s) :
    Ext M₀ a₀ (opApply slot s) := by
  refine Ext.via hM h₀ ?_
  clear hM h₀ M₀ a₀
  suffices H : ∀ a₀, Ext 364790 a₀ s → Ext 364790 a₀ (opApply slot s) from H s (Ext.refl _ _)
  intro a₀ h₀
  unfold opApply
  repeat' first
    | with_reducible assumption
    | (with_reducible intro _; intros; try beta_reduce)
    | ((fail_if_no_progress extract_lets +onlyGivenNames t); refine Ext.cut (M := 364790) (a := a₀) (b := t) ?_ (fun ht => ?_); rotate_left; clear_value t)
    | ((fail_if_no_progress extract_lets +onlyGivenNames u); have v : Nat := u; clear v; clear_value u)
    | ((fail_if_no_progress extract_lets +onlyGivenNames u); have v : List _ := u; clear v; clear_value u)
    | ((fail_if_no_progress extract_lets +onlyGivenNames u); have v : Option _ := u; clear v; fail_if_success (have v : Option State := u); clear_value u)
    | (fail_if_no_progress extract_lets +onlyGivenNames u)
    | with_reducible refine State.runStream_ext (by decide) ?_ ?_
    | with_reducible refine State.finish_ext (by decide) ?_
    | with_reducible refine State.applyRun_ext (by decide) ?_
    | split
    | (clear_value *; split)
    | (unfold t)
    | (unfold u; try beta_reduce)

theorem State.applyRetired_ext {s : State} {o : Op} {M₀ : Nat} {a₀ : State} (hM : Within 262276 M₀) (h₀ : Ext M₀ a₀ s) :
    Ext M₀ a₀ (State.applyRetired s o) := by
  refine Ext.via hM h₀ ?_
  clear hM h₀ M₀ a₀
  suffices H : ∀ a₀, Ext 262276 a₀ s → Ext 262276 a₀ (State.applyRetired s o) from H s (Ext.refl _ _)
  intro a₀ h₀
  unfold State.applyRetired
  repeat' first
    | with_reducible assumption
    | (with_reducible intro _; intros; try beta_reduce)
    | with_reducible refine State.localCommit_ext (by decide) ?_
    | split

end Sys2Proof.Machine
end

