-- ==== Sys2Proof/Laws/ExtPower.lean ====
section
/-!
SUPPORT. What each operation of Machine/Power.lean can change: one lemma each.
-/
namespace Sys2Proof.Machine

theorem State.setPower_ext {s : State} {p : Power} {M₀ : Nat} {a₀ : State} (hM : Within 524288 M₀) (h₀ : Ext M₀ a₀ s)
    (ht : s.power.tripWire = true → p.tripWire = true) : Ext M₀ a₀ (s.setPower p) :=
  Ext.via hM h₀
    { pending := rfl, now := fun _ => rfl, fresh := fun _ => rfl, regs := fun _ => rfl, readData := fun _ => rfl,
      mem := fun _ => rfl, poison := fun _ => rfl, ctl := fun _ => rfl, recorder := fun _ => rfl,
      hp := fun _ => rfl, fuses := fun _ => rfl, boot := fun _ => rfl, sec := fun _ => rfl, strm := fun _ => rfl,
      hsm := fun _ => rfl, comp := fun _ => rfl, health := fun _ => rfl, links := fun _ => rfl, red := fun _ => rfl,
      snap := fun _ => rfl, power := fun k => absurd k (by decide), keep := fun _ => rfl, pins := fun _ => rfl, trip := fun _ => ht,
      regsWf := id, memWf := id, poisonWf := id, svn := Nat.le_refl _, revoked := fun _ t => t }

theorem State.setKeep_ext {s : State} {k : Keep} {M₀ : Nat} {a₀ : State} (hM : Within 1048576 M₀) (h₀ : Ext M₀ a₀ s) :
    Ext M₀ a₀ (State.setKeep s k) := by
  refine Ext.via hM h₀ ?_
  clear hM h₀ M₀ a₀
  suffices H : ∀ a₀, Ext 1048576 a₀ s → Ext 1048576 a₀ (State.setKeep s k) from H s (Ext.refl _ _)
  intro a₀ h₀
  unfold State.setKeep
  repeat' first
    | with_reducible assumption
    | (with_reducible intro _; intros; try beta_reduce)
    | split
    | (refine Ext.upd ?_ ?_ ?_ ?_ ?_ ?_ ?_ ?_ ?_ ?_ ?_ ?_ ?_ ?_ ?_ ?_ ?_ ?_ ?_ ?_ <;> first | rfl | exact fun _ => rfl | exact fun h => absurd h (by decide) | skip)

theorem State.showDuty_ext {s : State} {g : List Nat} {M₀ : Nat} {a₀ : State} (hM : Within 4 M₀) (h₀ : Ext M₀ a₀ s) :
    Ext M₀ a₀ (State.showDuty s g) := by
  refine Ext.via hM h₀ ?_
  clear hM h₀ M₀ a₀
  suffices H : ∀ a₀, Ext 4 a₀ s → Ext 4 a₀ (State.showDuty s g) from H s (Ext.refl _ _)
  intro a₀ h₀
  unfold State.showDuty
  repeat' first
    | with_reducible assumption
    | (with_reducible intro _; intros; try beta_reduce)
    | ((fail_if_no_progress extract_lets +onlyGivenNames t); refine Ext.cut (M := 4) (a := a₀) (b := t) ?_ (fun ht => ?_); rotate_left; clear_value t)
    | ((fail_if_no_progress extract_lets +onlyGivenNames u); have v : Nat := u; clear v; clear_value u)
    | ((fail_if_no_progress extract_lets +onlyGivenNames u); have v : List _ := u; clear v; clear_value u)
    | ((fail_if_no_progress extract_lets +onlyGivenNames u); have v : Option _ := u; clear v; fail_if_success (have v : Option State := u); clear_value u)
    | (fail_if_no_progress extract_lets +onlyGivenNames u)
    | with_reducible refine State.put_ext (by decide) ?_
    | (with_reducible refine Ext.foldl _ ?_ ?_)
    | (with_reducible refine Ext.foldl_fst _ ?_ ?_)
    | split
    | (clear_value *; split)
    | (unfold t)
    | (unfold u; try beta_reduce)

theorem State.countGated_ext {s : State} {g : List Nat} {M₀ : Nat} {a₀ : State} (hM : Within 6 M₀) (h₀ : Ext M₀ a₀ s) :
    Ext M₀ a₀ (State.countGated s g) := by
  refine Ext.via hM h₀ ?_
  clear hM h₀ M₀ a₀
  suffices H : ∀ a₀, Ext 6 a₀ s → Ext 6 a₀ (State.countGated s g) from H s (Ext.refl _ _)
  intro a₀ h₀
  unfold State.countGated
  repeat' first
    | with_reducible assumption
    | (with_reducible intro _; intros; try beta_reduce)
    | ((fail_if_no_progress extract_lets +onlyGivenNames t); refine Ext.cut (M := 6) (a := a₀) (b := t) ?_ (fun ht => ?_); rotate_left; clear_value t)
    | ((fail_if_no_progress extract_lets +onlyGivenNames u); have v : Nat := u; clear v; clear_value u)
    | ((fail_if_no_progress extract_lets +onlyGivenNames u); have v : List _ := u; clear v; clear_value u)
    | ((fail_if_no_progress extract_lets +onlyGivenNames u); have v : Option _ := u; clear v; fail_if_success (have v : Option State := u); clear_value u)
    | (fail_if_no_progress extract_lets +onlyGivenNames u)
    | with_reducible refine State.bump_ext (by decide) ?_
    | with_reducible refine State.useFresh_ext (by decide) ?_
    | (with_reducible refine Ext.foldl _ ?_ ?_)
    | (with_reducible refine Ext.foldl_fst _ ?_ ?_)
    | split
    | (clear_value *; split)
    | (unfold t)
    | (unfold u; try beta_reduce)

theorem reinTick_ext {s : State} {M₀ : Nat} {a₀ : State} (hM : Within 524294 M₀) (h₀ : Ext M₀ a₀ s) :
    Ext M₀ a₀ (reinTick s) := by
  refine Ext.via hM h₀ ?_
  clear hM h₀ M₀ a₀
  suffices H : ∀ a₀, Ext 524294 a₀ s → Ext 524294 a₀ (reinTick s) from H s (Ext.refl _ _)
  intro a₀ h₀
  unfold reinTick
  repeat' first
    | with_reducible assumption
    | exact fun h => h
    | exact fun _ => rfl
    | (with_reducible intro _; intros; try beta_reduce)
    | ((fail_if_no_progress extract_lets +onlyGivenNames t); refine Ext.cut (M := 524294) (a := a₀) (b := t) ?_ (fun ht => ?_); rotate_left; clear_value t)
    | ((fail_if_no_progress extract_lets +onlyGivenNames u); have v : Nat := u; clear v; clear_value u)
    | ((fail_if_no_progress extract_lets +onlyGivenNames u); have v : List _ := u; clear v; clear_value u)
    | ((fail_if_no_progress extract_lets +onlyGivenNames u); have v : Option _ := u; clear v; fail_if_success (have v : Option State := u); clear_value u)
    | (fail_if_no_progress extract_lets +onlyGivenNames u)
    | with_reducible refine State.setPower_ext (by decide) ?_ ?_
    | with_reducible refine State.showDuty_ext (by decide) ?_
    | with_reducible refine State.countGated_ext (by decide) ?_
    | with_reducible refine State.put_ext (by decide) ?_
    | with_reducible refine State.putB_ext (by decide) ?_
    | (with_reducible refine Ext.foldl _ ?_ ?_)
    | (with_reducible refine Ext.foldl_fst _ ?_ ?_)
    | split
    | (clear_value *; split)
    | (unfold t)
    | (unfold u; try beta_reduce)
    | (refine Ext.upd ?_ ?_ ?_ ?_ ?_ ?_ ?_ ?_ ?_ ?_ ?_ ?_ ?_ ?_ ?_ ?_ ?_ ?_ ?_ ?_ <;> first | rfl | exact fun _ => rfl | exact fun h => absurd h (by decide) | skip)

theorem reinCapWrite_ext {w : Writer} {v : Nat} {s : State} {M₀ : Nat} {a₀ : State} (hM : Within 132 M₀) (h₀ : Ext M₀ a₀ s) :
    Ext M₀ a₀ (reinCapWrite w v s) := by
  refine Ext.via hM h₀ ?_
  clear hM h₀ M₀ a₀
  suffices H : ∀ a₀, Ext 132 a₀ s → Ext 132 a₀ (reinCapWrite w v s) from H s (Ext.refl _ _)
  intro a₀ h₀
  unfold reinCapWrite
  repeat' first
    | with_reducible assumption
    | (with_reducible intro _; intros; try beta_reduce)
    | ((fail_if_no_progress extract_lets +onlyGivenNames t); refine Ext.cut (M := 132) (a := a₀) (b := t) ?_ (fun ht => ?_); rotate_left; clear_value t)
    | ((fail_if_no_progress extract_lets +onlyGivenNames u); have v : Nat := u; clear v; clear_value u)
    | ((fail_if_no_progress extract_lets +onlyGivenNames u); have v : List _ := u; clear v; clear_value u)
    | ((fail_if_no_progress extract_lets +onlyGivenNames u); have v : Option _ := u; clear v; fail_if_success (have v : Option State := u); clear_value u)
    | (fail_if_no_progress extract_lets +onlyGivenNames u)
    | with_reducible refine State.regWrite_ext (by decide) ?_ ?_
    | with_reducible refine State.badWrite_ext (by decide) ?_
    | with_reducible refine State.put_ext (by decide) ?_
    | split
    | (clear_value *; split)
    | (unfold t)
    | (unfold u; try beta_reduce)

theorem State.commitEnergy_ext {s : State} {num den : Nat} {M₀ : Nat} {a₀ : State} (hM : Within 524292 M₀) (h₀ : Ext M₀ a₀ s) :
    Ext M₀ a₀ (State.commitEnergy s num den) := by
  refine Ext.via hM h₀ ?_
  clear hM h₀ M₀ a₀
  suffices H : ∀ a₀, Ext 524292 a₀ s → Ext 524292 a₀ (State.commitEnergy s num den) from H s (Ext.refl _ _)
  intro a₀ h₀
  unfold State.commitEnergy
  repeat' first
    | with_reducible assumption
    | exact fun h => h
    | exact fun _ => rfl
    | (with_reducible intro _; intros; try beta_reduce)
    | ((fail_if_no_progress extract_lets +onlyGivenNames t); refine Ext.cut (M := 524292) (a := a₀) (b := t) ?_ (fun ht => ?_); rotate_left; clear_value t)
    | ((fail_if_no_progress extract_lets +onlyGivenNames u); have v : Nat := u; clear v; clear_value u)
    | ((fail_if_no_progress extract_lets +onlyGivenNames u); have v : List _ := u; clear v; clear_value u)
    | ((fail_if_no_progress extract_lets +onlyGivenNames u); have v : Option _ := u; clear v; fail_if_success (have v : Option State := u); clear_value u)
    | (fail_if_no_progress extract_lets +onlyGivenNames u)
    | with_reducible refine State.bump_ext (by decide) ?_
    | with_reducible refine State.setPower_ext (by decide) ?_ ?_
    | (with_reducible refine Ext.foldl _ ?_ ?_)
    | (with_reducible refine Ext.foldl_fst _ ?_ ?_)
    | split
    | (clear_value *; split)
    | (unfold t)
    | (unfold u; try beta_reduce)
    | (refine Ext.upd ?_ ?_ ?_ ?_ ?_ ?_ ?_ ?_ ?_ ?_ ?_ ?_ ?_ ?_ ?_ ?_ ?_ ?_ ?_ ?_ <;> first | rfl | exact fun _ => rfl | exact fun h => absurd h (by decide) | skip)

theorem telemetryWindow_ext {rails : List (Option (Nat × Nat × Nat))} {s : State} {M₀ : Nat} {a₀ : State} (hM : Within 524420 M₀) (h₀ : Ext M₀ a₀ s) :
    Ext M₀ a₀ (telemetryWindow rails s) := by
  refine Ext.via hM h₀ ?_
  clear hM h₀ M₀ a₀
  suffices H : ∀ a₀, Ext 524420 a₀ s → Ext 524420 a₀ (telemetryWindow rails s) from H s (Ext.refl _ _)
  intro a₀ h₀
  unfold telemetryWindow
  repeat' first
    | with_reducible assumption
    | exact fun h => h
    | exact fun _ => rfl
    | (with_reducible intro _; intros; try beta_reduce)
    | ((fail_if_no_progress extract_lets +onlyGivenNames t); refine Ext.cut (M := 524420) (a := a₀) (b := t) ?_ (fun ht => ?_); rotate_left; clear_value t)
    | ((fail_if_no_progress extract_lets +onlyGivenNames F); refine Ext.cutF (M := 524420) (a := a₀) (F := F) ?_ (fun hF => ?_); rotate_left; clear_value F)
    | with_reducible refine hF _ ?_
    | ((fail_if_no_progress extract_lets +onlyGivenNames G); refine Ext.cutG (M := 524420) (a := a₀) (F := G) ?_ (fun hG => ?_); rotate_left; clear_value G)
    | with_reducible refine hG _ _ ?_
    | ((fail_if_no_progress extract_lets +onlyGivenNames H); refine Ext.cutH (M := 524420) (a := a₀) (F := H) ?_ (fun hH => ?_); rotate_left; clear_value H)
    | with_reducible refine hH _ _ _ ?_
    | ((fail_if_no_progress extract_lets +onlyGivenNames u); have v : Nat := u; clear v; clear_value u)
    | ((fail_if_no_progress extract_lets +onlyGivenNames u); have v : List _ := u; clear v; clear_value u)
    | ((fail_if_no_progress extract_lets +onlyGivenNames u); have v : Option _ := u; clear v; fail_if_success (have v : Option State := u); clear_value u)
    | (fail_if_no_progress extract_lets +onlyGivenNames u)
    | with_reducible refine State.setPower_ext (by decide) ?_ ?_
    | with_reducible refine State.put_ext (by decide) ?_
    | with_reducible refine State.commitEnergy_ext (by decide) ?_
    | with_reducible refine State.bumpSat_ext (by decide) ?_
    | with_reducible refine State.event_ext (by decide) ?_
    | (with_reducible refine Ext.foldl _ ?_ ?_)
    | (with_reducible refine Ext.foldl_fst _ ?_ ?_)
    | split
    | (clear_value *; split)
    | (unfold t)
    | (unfold u; try beta_reduce)
    | (unfold F; try beta_reduce)
    | (unfold G; try beta_reduce)
    | (unfold H; try beta_reduce)
    | (refine Ext.upd ?_ ?_ ?_ ?_ ?_ ?_ ?_ ?_ ?_ ?_ ?_ ?_ ?_ ?_ ?_ ?_ ?_ ?_ ?_ ?_ <;> first | rfl | exact fun _ => rfl | exact fun h => absurd h (by decide) | skip)

theorem State.requestVcore_ext {s : State} {f : Nat} {M₀ : Nat} {a₀ : State} (hM : Within 524288 M₀) (h₀ : Ext M₀ a₀ s) :
    Ext M₀ a₀ (State.requestVcore s f) := by
  refine Ext.via hM h₀ ?_
  clear hM h₀ M₀ a₀
  suffices H : ∀ a₀, Ext 524288 a₀ s → Ext 524288 a₀ (State.requestVcore s f) from H s (Ext.refl _ _)
  intro a₀ h₀
  unfold State.requestVcore
  repeat' first
    | with_reducible assumption
    | exact fun h => h
    | exact fun _ => rfl
    | (with_reducible intro _; intros; try beta_reduce)
    | ((fail_if_no_progress extract_lets +onlyGivenNames t); refine Ext.cut (M := 524288) (a := a₀) (b := t) ?_ (fun ht => ?_); rotate_left; clear_value t)
    | ((fail_if_no_progress extract_lets +onlyGivenNames u); have v : Nat := u; clear v; clear_value u)
    | ((fail_if_no_progress extract_lets +onlyGivenNames u); have v : List _ := u; clear v; clear_value u)
    | ((fail_if_no_progress extract_lets +onlyGivenNames u); have v : Option _ := u; clear v; fail_if_success (have v : Option State := u); clear_value u)
    | (fail_if_no_progress extract_lets +onlyGivenNames u)
    | with_reducible refine State.setPower_ext (by decide) ?_ ?_
    | (with_reducible refine Ext.foldl _ ?_ ?_)
    | (with_reducible refine Ext.foldl_fst _ ?_ ?_)
    | split
    | (clear_value *; split)
    | (unfold t)
    | (unfold u; try beta_reduce)
    | (refine Ext.upd ?_ ?_ ?_ ?_ ?_ ?_ ?_ ?_ ?_ ?_ ?_ ?_ ?_ ?_ ?_ ?_ ?_ ?_ ?_ ?_ <;> first | rfl | exact fun _ => rfl | exact fun h => absurd h (by decide) | skip)

theorem State.vcoreSettled_ext {s : State} {M₀ : Nat} {a₀ : State} (hM : Within 524292 M₀) (h₀ : Ext M₀ a₀ s) :
    Ext M₀ a₀ (State.vcoreSettled s) := by
  refine Ext.via hM h₀ ?_
  clear hM h₀ M₀ a₀
  suffices H : ∀ a₀, Ext 524292 a₀ s → Ext 524292 a₀ (State.vcoreSettled s) from H s (Ext.refl _ _)
  intro a₀ h₀
  unfold State.vcoreSettled
  repeat' first
    | with_reducible assumption
    | exact fun h => h
    | exact fun _ => rfl
    | (with_reducible intro _; intros; try beta_reduce)
    | ((fail_if_no_progress extract_lets +onlyGivenNames t); refine Ext.cut (M := 524292) (a := a₀) (b := t) ?_ (fun ht => ?_); rotate_left; clear_value t)
    | ((fail_if_no_progress extract_lets +onlyGivenNames u); have v : Nat := u; clear v; clear_value u)
    | ((fail_if_no_progress extract_lets +onlyGivenNames u); have v : List _ := u; clear v; clear_value u)
    | ((fail_if_no_progress extract_lets +onlyGivenNames u); have v : Option _ := u; clear v; fail_if_success (have v : Option State := u); clear_value u)
    | (fail_if_no_progress extract_lets +onlyGivenNames u)
    | with_reducible refine State.put_ext (by decide) ?_
    | with_reducible refine State.setPower_ext (by decide) ?_ ?_
    | split
    | (clear_value *; split)
    | (unfold t)
    | (unfold u; try beta_reduce)
    | (refine Ext.upd ?_ ?_ ?_ ?_ ?_ ?_ ?_ ?_ ?_ ?_ ?_ ?_ ?_ ?_ ?_ ?_ ?_ ?_ ?_ ?_ <;> first | rfl | exact fun _ => rfl | exact fun h => absurd h (by decide) | skip)

theorem State.reviseVcore_ext {s : State} {M₀ : Nat} {a₀ : State} (hM : Within 524292 M₀) (h₀ : Ext M₀ a₀ s) :
    Ext M₀ a₀ (State.reviseVcore s) := by
  refine Ext.via hM h₀ ?_
  clear hM h₀ M₀ a₀
  suffices H : ∀ a₀, Ext 524292 a₀ s → Ext 524292 a₀ (State.reviseVcore s) from H s (Ext.refl _ _)
  intro a₀ h₀
  unfold State.reviseVcore
  repeat' first
    | with_reducible assumption
    | (with_reducible intro _; intros; try beta_reduce)
    | ((fail_if_no_progress extract_lets +onlyGivenNames t); refine Ext.cut (M := 524292) (a := a₀) (b := t) ?_ (fun ht => ?_); rotate_left; clear_value t)
    | ((fail_if_no_progress extract_lets +onlyGivenNames u); have v : Nat := u; clear v; clear_value u)
    | ((fail_if_no_progress extract_lets +onlyGivenNames u); have v : List _ := u; clear v; clear_value u)
    | ((fail_if_no_progress extract_lets +onlyGivenNames u); have v : Option _ := u; clear v; fail_if_success (have v : Option State := u); clear_value u)
    | (fail_if_no_progress extract_lets +onlyGivenNames u)
    | with_reducible refine State.put_ext (by decide) ?_
    | with_reducible refine State.requestVcore_ext (by decide) ?_
    | with_reducible refine State.vcoreSettled_ext (by decide) ?_
    | split
    | (clear_value *; split)
    | (unfold t)
    | (unfold u; try beta_reduce)

theorem frequencyStep_ext {s : State} {M₀ : Nat} {a₀ : State} (hM : Within 524292 M₀) (h₀ : Ext M₀ a₀ s) :
    Ext M₀ a₀ (frequencyStep s) := by
  refine Ext.via hM h₀ ?_
  clear hM h₀ M₀ a₀
  suffices H : ∀ a₀, Ext 524292 a₀ s → Ext 524292 a₀ (frequencyStep s) from H s (Ext.refl _ _)
  intro a₀ h₀
  unfold frequencyStep
  repeat' first
    | with_reducible assumption
    | exact fun h => h
    | exact fun _ => rfl
    | (with_reducible intro _; intros; try beta_reduce)
    | ((fail_if_no_progress extract_lets +onlyGivenNames t); refine Ext.cut (M := 524292) (a := a₀) (b := t) ?_ (fun ht => ?_); rotate_left; clear_value t)
    | ((fail_if_no_progress extract_lets +onlyGivenNames F); refine Ext.cutF (M := 524292) (a := a₀) (F := F) ?_ (fun hF => ?_); rotate_left; clear_value F)
    | with_reducible refine hF _ ?_
    | ((fail_if_no_progress extract_lets +onlyGivenNames G); refine Ext.cutG (M := 524292) (a := a₀) (F := G) ?_ (fun hG => ?_); rotate_left; clear_value G)
    | with_reducible refine hG _ _ ?_
    | ((fail_if_no_progress extract_lets +onlyGivenNames H); refine Ext.cutH (M := 524292) (a := a₀) (F := H) ?_ (fun hH => ?_); rotate_left; clear_value H)
    | with_reducible refine hH _ _ _ ?_
    | ((fail_if_no_progress extract_lets +onlyGivenNames u); have v : Nat := u; clear v; clear_value u)
    | ((fail_if_no_progress extract_lets +onlyGivenNames u); have v : List _ := u; clear v; clear_value u)
    | ((fail_if_no_progress extract_lets +onlyGivenNames u); have v : Option _ := u; clear v; fail_if_success (have v : Option State := u); clear_value u)
    | (fail_if_no_progress extract_lets +onlyGivenNames u)
    | with_reducible refine State.setPower_ext (by decide) ?_ ?_
    | with_reducible refine State.put_ext (by decide) ?_
    | with_reducible refine State.requestVcore_ext (by decide) ?_
    | with_reducible refine State.vcoreSettled_ext (by decide) ?_
    | split
    | (clear_value *; split)
    | (unfold t)
    | (unfold u; try beta_reduce)
    | (unfold F; try beta_reduce)
    | (unfold G; try beta_reduce)
    | (unfold H; try beta_reduce)
    | (refine Ext.upd ?_ ?_ ?_ ?_ ?_ ?_ ?_ ?_ ?_ ?_ ?_ ?_ ?_ ?_ ?_ ?_ ?_ ?_ ?_ ?_ <;> first | rfl | exact fun _ => rfl | exact fun h => absurd h (by decide) | skip)

theorem targetRailVoltageAck_ext {die : Nat} {s : State} {M₀ : Nat} {a₀ : State} (hM : Within 524292 M₀) (h₀ : Ext M₀ a₀ s) :
    Ext M₀ a₀ (targetRailVoltageAck die s) := by
  refine Ext.via hM h₀ ?_
  clear hM h₀ M₀ a₀
  suffices H : ∀ a₀, Ext 524292 a₀ s → Ext 524292 a₀ (targetRailVoltageAck die s) from H s (Ext.refl _ _)
  intro a₀ h₀
  unfold targetRailVoltageAck
  repeat' first
    | with_reducible assumption
    | exact fun h => h
    | exact fun _ => rfl
    | (with_reducible intro _; intros; try beta_reduce)
    | with_reducible refine State.setPower_ext (by decide) ?_ ?_
    | with_reducible refine State.vcoreSettled_ext (by decide) ?_
    | split
    | (refine Ext.upd ?_ ?_ ?_ ?_ ?_ ?_ ?_ ?_ ?_ ?_ ?_ ?_ ?_ ?_ ?_ ?_ ?_ ?_ ?_ ?_ <;> first | rfl | exact fun _ => rfl | exact fun h => absurd h (by decide) | skip)

theorem State.tripDies_ext {s : State} {dies : List Nat} {M₀ : Nat} {a₀ : State} (hM : Within 524292 M₀) (h₀ : Ext M₀ a₀ s) :
    Ext M₀ a₀ (State.tripDies s dies) := by
  refine Ext.via hM h₀ ?_
  clear hM h₀ M₀ a₀
  suffices H : ∀ a₀, Ext 524292 a₀ s → Ext 524292 a₀ (State.tripDies s dies) from H s (Ext.refl _ _)
  intro a₀ h₀
  unfold State.tripDies
  repeat' first
    | with_reducible assumption
    | exact fun h => h
    | exact fun _ => rfl
    | (with_reducible intro _; intros; try beta_reduce)
    | with_reducible refine State.setPower_ext (by decide) ?_ ?_
    | with_reducible refine State.put_ext (by decide) ?_
    | split
    | (refine Ext.upd ?_ ?_ ?_ ?_ ?_ ?_ ?_ ?_ ?_ ?_ ?_ ?_ ?_ ?_ ?_ ?_ ?_ ?_ ?_ ?_ <;> first | rfl | exact fun _ => rfl | exact fun h => absurd h (by decide) | skip)

theorem cinchTrip_ext {die det : Nat} {s : State} {M₀ : Nat} {a₀ : State} (hM : Within 524292 M₀) (h₀ : Ext M₀ a₀ s) :
    Ext M₀ a₀ (cinchTrip die det s) := by
  refine Ext.via hM h₀ ?_
  clear hM h₀ M₀ a₀
  suffices H : ∀ a₀, Ext 524292 a₀ s → Ext 524292 a₀ (cinchTrip die det s) from H s (Ext.refl _ _)
  intro a₀ h₀
  unfold cinchTrip
  repeat' first
    | with_reducible assumption
    | (with_reducible intro _; intros; try beta_reduce)
    | with_reducible refine State.bumpSat_ext (by decide) ?_
    | with_reducible refine State.put_ext (by decide) ?_
    | with_reducible refine State.tripDies_ext (by decide) ?_
    | split

theorem droopNAssert_ext {rails : Nat} {s : State} {M₀ : Nat} {a₀ : State} (hM : Within 524420 M₀) (h₀ : Ext M₀ a₀ s) :
    Ext M₀ a₀ (droopNAssert rails s) := by
  refine Ext.via hM h₀ ?_
  clear hM h₀ M₀ a₀
  suffices H : ∀ a₀, Ext 524420 a₀ s → Ext 524420 a₀ (droopNAssert rails s) from H s (Ext.refl _ _)
  intro a₀ h₀
  unfold droopNAssert
  repeat' first
    | with_reducible assumption
    | exact fun h => h
    | exact fun _ => rfl
    | (with_reducible intro _; intros; try beta_reduce)
    | ((fail_if_no_progress extract_lets +onlyGivenNames t); refine Ext.cut (M := 524420) (a := a₀) (b := t) ?_ (fun ht => ?_); rotate_left; clear_value t)
    | ((fail_if_no_progress extract_lets +onlyGivenNames u); have v : Nat := u; clear v; clear_value u)
    | ((fail_if_no_progress extract_lets +onlyGivenNames u); have v : List _ := u; clear v; clear_value u)
    | ((fail_if_no_progress extract_lets +onlyGivenNames u); have v : Option _ := u; clear v; fail_if_success (have v : Option State := u); clear_value u)
    | (fail_if_no_progress extract_lets +onlyGivenNames u)
    | with_reducible refine State.bumpSat_ext (by decide) ?_
    | with_reducible refine State.tripDies_ext (by decide) ?_
    | with_reducible refine State.setPower_ext (by decide) ?_ ?_
    | with_reducible refine State.event_ext (by decide) ?_
    | (with_reducible refine Ext.foldl _ ?_ ?_)
    | (with_reducible refine Ext.foldl_fst _ ?_ ?_)
    | split
    | (clear_value *; split)
    | (unfold t)
    | (unfold u; try beta_reduce)
    | (refine Ext.upd ?_ ?_ ?_ ?_ ?_ ?_ ?_ ?_ ?_ ?_ ?_ ?_ ?_ ?_ ?_ ?_ ?_ ?_ ?_ ?_ <;> first | rfl | exact fun _ => rfl | exact fun h => absurd h (by decide) | skip)

theorem cinchEscalate_ext {s : State} {M₀ : Nat} {a₀ : State} (hM : Within 524288 M₀) (h₀ : Ext M₀ a₀ s) :
    Ext M₀ a₀ (cinchEscalate s) := by
  refine Ext.via hM h₀ ?_
  clear hM h₀ M₀ a₀
  suffices H : ∀ a₀, Ext 524288 a₀ s → Ext 524288 a₀ (cinchEscalate s) from H s (Ext.refl _ _)
  intro a₀ h₀
  unfold cinchEscalate
  repeat' first
    | with_reducible assumption
    | exact fun h => h
    | exact fun _ => rfl
    | (with_reducible intro _; intros; try beta_reduce)
    | with_reducible refine State.setPower_ext (by decide) ?_ ?_
    | split
    | (refine Ext.upd ?_ ?_ ?_ ?_ ?_ ?_ ?_ ?_ ?_ ?_ ?_ ?_ ?_ ?_ ?_ ?_ ?_ ?_ ?_ ?_ <;> first | rfl | exact fun _ => rfl | exact fun h => absurd h (by decide) | skip)

theorem cinchClear_ext {cycles : Nat} {s : State} {M₀ : Nat} {a₀ : State} (hM : Within 524292 M₀) (h₀ : Ext M₀ a₀ s) :
    Ext M₀ a₀ (cinchClear cycles s) := by
  refine Ext.via hM h₀ ?_
  clear hM h₀ M₀ a₀
  suffices H : ∀ a₀, Ext 524292 a₀ s → Ext 524292 a₀ (cinchClear cycles s) from H s (Ext.refl _ _)
  intro a₀ h₀
  unfold cinchClear
  repeat' first
    | with_reducible assumption
    | exact fun h => h
    | exact fun _ => rfl
    | (with_reducible intro _; intros; try beta_reduce)
    | ((fail_if_no_progress extract_lets +onlyGivenNames t); refine Ext.cut (M := 524292) (a := a₀) (b := t) ?_ (fun ht => ?_); rotate_left; clear_value t)
    | ((fail_if_no_progress extract_lets +onlyGivenNames u); have v : Nat := u; clear v; clear_value u)
    | ((fail_if_no_progress extract_lets +onlyGivenNames u); have v : List _ := u; clear v; clear_value u)
    | ((fail_if_no_progress extract_lets +onlyGivenNames u); have v : Option _ := u; clear v; fail_if_success (have v : Option State := u); clear_value u)
    | (fail_if_no_progress extract_lets +onlyGivenNames u)
    | with_reducible refine State.setPower_ext (by decide) ?_ ?_
    | with_reducible refine State.bump_ext (by decide) ?_
    | with_reducible refine State.put_ext (by decide) ?_
    | split
    | (clear_value *; split)
    | (unfold t)
    | (unfold u; try beta_reduce)
    | (refine Ext.upd ?_ ?_ ?_ ?_ ?_ ?_ ?_ ?_ ?_ ?_ ?_ ?_ ?_ ?_ ?_ ?_ ?_ ?_ ?_ ?_ <;> first | rfl | exact fun _ => rfl | exact fun h => absurd h (by decide) | skip)

theorem State.selfTestFail_ext {s : State} {mask : Nat} {M₀ : Nat} {a₀ : State} (hM : Within 524420 M₀) (h₀ : Ext M₀ a₀ s) :
    Ext M₀ a₀ (State.selfTestFail s mask) := by
  refine Ext.via hM h₀ ?_
  clear hM h₀ M₀ a₀
  suffices H : ∀ a₀, Ext 524420 a₀ s → Ext 524420 a₀ (State.selfTestFail s mask) from H s (Ext.refl _ _)
  intro a₀ h₀
  unfold State.selfTestFail
  repeat' first
    | with_reducible assumption
    | (with_reducible intro _; intros; try beta_reduce)
    | ((fail_if_no_progress extract_lets +onlyGivenNames t); refine Ext.cut (M := 524420) (a := a₀) (b := t) ?_ (fun ht => ?_); rotate_left; clear_value t)
    | ((fail_if_no_progress extract_lets +onlyGivenNames u); have v : Nat := u; clear v; clear_value u)
    | ((fail_if_no_progress extract_lets +onlyGivenNames u); have v : List _ := u; clear v; clear_value u)
    | ((fail_if_no_progress extract_lets +onlyGivenNames u); have v : Option _ := u; clear v; fail_if_success (have v : Option State := u); clear_value u)
    | (fail_if_no_progress extract_lets +onlyGivenNames u)
    | with_reducible refine State.put_ext (by decide) ?_
    | with_reducible refine State.event_ext (by decide) ?_
    | with_reducible refine State.reviseVcore_ext (by decide) ?_
    | (with_reducible refine Ext.foldl _ ?_ ?_)
    | (with_reducible refine Ext.foldl_fst _ ?_ ?_)
    | split
    | (clear_value *; split)
    | (unfold t)
    | (unfold u; try beta_reduce)

theorem cinchTest_ext {w : Writer} {go : Bool} {fails : Nat} {s : State} {M₀ : Nat} {a₀ : State} (hM : Within 524420 M₀) (h₀ : Ext M₀ a₀ s) :
    Ext M₀ a₀ (cinchTest w go fails s) := by
  refine Ext.via hM h₀ ?_
  clear hM h₀ M₀ a₀
  suffices H : ∀ a₀, Ext 524420 a₀ s → Ext 524420 a₀ (cinchTest w go fails s) from H s (Ext.refl _ _)
  intro a₀ h₀
  unfold cinchTest
  repeat' first
    | with_reducible assumption
    | (with_reducible intro _; intros; try beta_reduce)
    | with_reducible refine State.regWrite_ext (by decide) ?_ ?_
    | with_reducible refine State.selfTestFail_ext (by decide) ?_
    | split

theorem cinchDisable_ext {w : Writer} {v : Nat} {s : State} {M₀ : Nat} {a₀ : State} (hM : Within 524420 M₀) (h₀ : Ext M₀ a₀ s) :
    Ext M₀ a₀ (cinchDisable w v s) := by
  refine Ext.via hM h₀ ?_
  clear hM h₀ M₀ a₀
  suffices H : ∀ a₀, Ext 524420 a₀ s → Ext 524420 a₀ (cinchDisable w v s) from H s (Ext.refl _ _)
  intro a₀ h₀
  unfold cinchDisable
  repeat' first
    | with_reducible assumption
    | exact fun h => h
    | exact fun _ => rfl
    | (with_reducible intro _; intros; try beta_reduce)
    | ((fail_if_no_progress extract_lets +onlyGivenNames t); refine Ext.cut (M := 524420) (a := a₀) (b := t) ?_ (fun ht => ?_); rotate_left; clear_value t)
    | ((fail_if_no_progress extract_lets +onlyGivenNames u); have v : Nat := u; clear v; clear_value u)
    | ((fail_if_no_progress extract_lets +onlyGivenNames u); have v : List _ := u; clear v; clear_value u)
    | ((fail_if_no_progress extract_lets +onlyGivenNames u); have v : Option _ := u; clear v; fail_if_success (have v : Option State := u); clear_value u)
    | (fail_if_no_progress extract_lets +onlyGivenNames u)
    | with_reducible refine State.regWrite_ext (by decide) ?_ ?_
    | with_reducible refine State.put_ext (by decide) ?_
    | with_reducible refine State.setPower_ext (by decide) ?_ ?_
    | with_reducible refine State.reviseVcore_ext (by decide) ?_
    | split
    | (clear_value *; split)
    | (unfold t)
    | (unfold u; try beta_reduce)
    | (refine Ext.upd ?_ ?_ ?_ ?_ ?_ ?_ ?_ ?_ ?_ ?_ ?_ ?_ ?_ ?_ ?_ ?_ ?_ ?_ ?_ ?_ <;> first | rfl | exact fun _ => rfl | exact fun h => absurd h (by decide) | skip)

theorem cinchEnable_ext {w : Writer} {v : Nat} {s : State} {M₀ : Nat} {a₀ : State} (hM : Within 524420 M₀) (h₀ : Ext M₀ a₀ s) :
    Ext M₀ a₀ (cinchEnable w v s) := by
  refine Ext.via hM h₀ ?_
  clear hM h₀ M₀ a₀
  suffices H : ∀ a₀, Ext 524420 a₀ s → Ext 524420 a₀ (cinchEnable w v s) from H s (Ext.refl _ _)
  intro a₀ h₀
  unfold cinchEnable
  repeat' first
    | with_reducible assumption
    | exact fun h => h
    | exact fun _ => rfl
    | (with_reducible intro _; intros; try beta_reduce)
    | ((fail_if_no_progress extract_lets +onlyGivenNames t); refine Ext.cut (M := 524420) (a := a₀) (b := t) ?_ (fun ht => ?_); rotate_left; clear_value t)
    | ((fail_if_no_progress extract_lets +onlyGivenNames u); have v : Nat := u; clear v; clear_value u)
    | ((fail_if_no_progress extract_lets +onlyGivenNames u); have v : List _ := u; clear v; clear_value u)
    | ((fail_if_no_progress extract_lets +onlyGivenNames u); have v : Option _ := u; clear v; fail_if_success (have v : Option State := u); clear_value u)
    | (fail_if_no_progress extract_lets +onlyGivenNames u)
    | with_reducible refine State.regWrite_ext (by decide) ?_ ?_
    | with_reducible refine State.put_ext (by decide) ?_
    | with_reducible refine State.setPower_ext (by decide) ?_ ?_
    | with_reducible refine State.reviseVcore_ext (by decide) ?_
    | split
    | (clear_value *; split)
    | (unfold t)
    | (unfold u; try beta_reduce)
    | (refine Ext.upd ?_ ?_ ?_ ?_ ?_ ?_ ?_ ?_ ?_ ?_ ?_ ?_ ?_ ?_ ?_ ?_ ?_ ?_ ?_ ?_ <;> first | rfl | exact fun _ => rfl | exact fun h => absurd h (by decide) | skip)

theorem marginCheck_ext {dies : List (Nat × Bool)} {s : State} {M₀ : Nat} {a₀ : State} (hM : Within 1572996 M₀) (h₀ : Ext M₀ a₀ s) :
    Ext M₀ a₀ (marginCheck dies s) := by
  refine Ext.via hM h₀ ?_
  clear hM h₀ M₀ a₀
  suffices H : ∀ a₀, Ext 1572996 a₀ s → Ext 1572996 a₀ (marginCheck dies s) from H s (Ext.refl _ _)
  intro a₀ h₀
  unfold marginCheck
  repeat' first
    | with_reducible assumption
    | exact fun h => h
    | exact fun _ => rfl
    | (with_reducible intro _; intros; try beta_reduce)
    | ((fail_if_no_progress extract_lets +onlyGivenNames t); refine Ext.cut (M := 1572996) (a := a₀) (b := t) ?_ (fun ht => ?_); rotate_left; clear_value t)
    | ((fail_if_no_progress extract_lets +onlyGivenNames u); have v : Nat := u; clear v; clear_value u)
    | ((fail_if_no_progress extract_lets +onlyGivenNames u); have v : List _ := u; clear v; clear_value u)
    | ((fail_if_no_progress extract_lets +onlyGivenNames u); have v : Option _ := u; clear v; fail_if_success (have v : Option State := u); clear_value u)
    | (fail_if_no_progress extract_lets +onlyGivenNames u)
    | with_reducible refine State.put_ext (by decide) ?_
    | with_reducible refine State.putB_ext (by decide) ?_
    | with_reducible refine State.setPower_ext (by decide) ?_ ?_
    | with_reducible refine State.setKeep_ext (by decide) ?_
    | with_reducible refine State.event_ext (by decide) ?_
    | with_reducible refine State.reviseVcore_ext (by decide) ?_
    | (with_reducible refine Ext.foldl _ ?_ ?_)
    | (with_reducible refine Ext.foldl_fst _ ?_ ?_)
    | split
    | (clear_value *; split)
    | (unfold t)
    | (unfold u; try beta_reduce)
    | (refine Ext.upd ?_ ?_ ?_ ?_ ?_ ?_ ?_ ?_ ?_ ?_ ?_ ?_ ?_ ?_ ?_ ?_ ?_ ?_ ?_ ?_ <;> first | rfl | exact fun _ => rfl | exact fun h => absurd h (by decide) | skip)

theorem temperatureRead_ext {dies : List (Nat × Nat × Nat)} {stackTemps : List Nat} {s : State} {M₀ : Nat} {a₀ : State} (hM : Within 524420 M₀) (h₀ : Ext M₀ a₀ s) :
    Ext M₀ a₀ (temperatureRead dies stackTemps s) := by
  refine Ext.via hM h₀ ?_
  clear hM h₀ M₀ a₀
  suffices H : ∀ a₀, Ext 524420 a₀ s → Ext 524420 a₀ (temperatureRead dies stackTemps s) from H s (Ext.refl _ _)
  intro a₀ h₀
  unfold temperatureRead
  repeat' first
    | with_reducible assumption
    | exact fun h => h
    | exact fun _ => rfl
    | (with_reducible intro _; intros; try beta_reduce)
    | ((fail_if_no_progress extract_lets +onlyGivenNames t); refine Ext.cut (M := 524420) (a := a₀) (b := t) ?_ (fun ht => ?_); rotate_left; clear_value t)
    | ((fail_if_no_progress extract_lets +onlyGivenNames u); have v : Nat := u; clear v; clear_value u)
    | ((fail_if_no_progress extract_lets +onlyGivenNames u); have v : List _ := u; clear v; clear_value u)
    | ((fail_if_no_progress extract_lets +onlyGivenNames u); have v : Option _ := u; clear v; fail_if_success (have v : Option State := u); clear_value u)
    | (fail_if_no_progress extract_lets +onlyGivenNames u)
    | with_reducible refine State.put_ext (by decide) ?_
    | with_reducible refine State.setPower_ext (by decide) ?_ ?_
    | with_reducible refine State.event_ext (by decide) ?_
    | with_reducible refine State.putB_ext (by decide) ?_
    | (with_reducible refine Ext.foldl _ ?_ ?_)
    | (with_reducible refine Ext.foldl_fst _ ?_ ?_)
    | split
    | (clear_value *; split)
    | (unfold t)
    | (unfold u; try beta_reduce)
    | (refine Ext.upd ?_ ?_ ?_ ?_ ?_ ?_ ?_ ?_ ?_ ?_ ?_ ?_ ?_ ?_ ?_ ?_ ?_ ?_ ?_ ?_ <;> first | rfl | exact fun _ => rfl | exact fun h => absurd h (by decide) | skip)

theorem thermalCapUpdate_ext {s : State} {M₀ : Nat} {a₀ : State} (hM : Within 524420 M₀) (h₀ : Ext M₀ a₀ s) :
    Ext M₀ a₀ (thermalCapUpdate s) := by
  refine Ext.via hM h₀ ?_
  clear hM h₀ M₀ a₀
  suffices H : ∀ a₀, Ext 524420 a₀ s → Ext 524420 a₀ (thermalCapUpdate s) from H s (Ext.refl _ _)
  intro a₀ h₀
  unfold thermalCapUpdate
  repeat' first
    | with_reducible assumption
    | exact fun h => h
    | exact fun _ => rfl
    | (with_reducible intro _; intros; try beta_reduce)
    | ((fail_if_no_progress extract_lets +onlyGivenNames t); refine Ext.cut (M := 524420) (a := a₀) (b := t) ?_ (fun ht => ?_); rotate_left; clear_value t)
    | ((fail_if_no_progress extract_lets +onlyGivenNames u); have v : Nat := u; clear v; clear_value u)
    | ((fail_if_no_progress extract_lets +onlyGivenNames u); have v : List _ := u; clear v; clear_value u)
    | ((fail_if_no_progress extract_lets +onlyGivenNames u); have v : Option _ := u; clear v; fail_if_success (have v : Option State := u); clear_value u)
    | (fail_if_no_progress extract_lets +onlyGivenNames u)
    | with_reducible refine State.bumpSat_ext (by decide) ?_
    | with_reducible refine State.setPower_ext (by decide) ?_ ?_
    | with_reducible refine State.put_ext (by decide) ?_
    | with_reducible refine State.event_ext (by decide) ?_
    | (with_reducible refine Ext.foldl _ ?_ ?_)
    | (with_reducible refine Ext.foldl_fst _ ?_ ?_)
    | split
    | (clear_value *; split)
    | (unfold t)
    | (unfold u; try beta_reduce)
    | (refine Ext.upd ?_ ?_ ?_ ?_ ?_ ?_ ?_ ?_ ?_ ?_ ?_ ?_ ?_ ?_ ?_ ?_ ?_ ?_ ?_ ?_ <;> first | rfl | exact fun _ => rfl | exact fun h => absurd h (by decide) | skip)

theorem State.selfRefresh_ext {s : State} {keepPaths : Bool} {M₀ : Nat} {a₀ : State} (hM : Within 8196 M₀) (h₀ : Ext M₀ a₀ s) :
    Ext M₀ a₀ (State.selfRefresh s keepPaths) := by
  refine Ext.via hM h₀ ?_
  clear hM h₀ M₀ a₀
  suffices H : ∀ a₀, Ext 8196 a₀ s → Ext 8196 a₀ (State.selfRefresh s keepPaths) from H s (Ext.refl _ _)
  intro a₀ h₀
  unfold State.selfRefresh
  repeat' first
    | with_reducible assumption
    | (with_reducible intro _; intros; try beta_reduce)
    | with_reducible refine State.put_ext (by decide) ?_
    | with_reducible refine State.wantRetrain_ext (by decide) ?_
    | (with_reducible refine Ext.foldl _ ?_ ?_)
    | (with_reducible refine Ext.foldl_fst _ ?_ ?_)
    | split

theorem State.abandonPasses_ext {s : State} {M₀ : Nat} {a₀ : State} (hM : Within 16388 M₀) (h₀ : Ext M₀ a₀ s) :
    Ext M₀ a₀ (State.abandonPasses s) := by
  refine Ext.via hM h₀ ?_
  clear hM h₀ M₀ a₀
  suffices H : ∀ a₀, Ext 16388 a₀ s → Ext 16388 a₀ (State.abandonPasses s) from H s (Ext.refl _ _)
  intro a₀ h₀
  unfold State.abandonPasses
  repeat' first
    | with_reducible assumption
    | (with_reducible intro _; intros; try beta_reduce)
    | ((fail_if_no_progress extract_lets +onlyGivenNames t); refine Ext.cut (M := 16388) (a := a₀) (b := t) ?_ (fun ht => ?_); rotate_left; clear_value t)
    | ((fail_if_no_progress extract_lets +onlyGivenNames u); have v : Nat := u; clear v; clear_value u)
    | ((fail_if_no_progress extract_lets +onlyGivenNames u); have v : List _ := u; clear v; clear_value u)
    | ((fail_if_no_progress extract_lets +onlyGivenNames u); have v : Option _ := u; clear v; fail_if_success (have v : Option State := u); clear_value u)
    | (fail_if_no_progress extract_lets +onlyGivenNames u)
    | with_reducible refine State.setArr_ext (by decide) ?_
    | with_reducible refine State.arrUpdate_ext (by decide) ?_
    | with_reducible refine State.put_ext (by decide) ?_
    | (with_reducible refine Ext.foldl _ ?_ ?_)
    | (with_reducible refine Ext.foldl_fst _ ?_ ?_)
    | split
    | (clear_value *; split)
    | (unfold t)
    | (unfold u; try beta_reduce)

theorem State.unstopArrays_ext {s : State} {M₀ : Nat} {a₀ : State} (hM : Within 4 M₀) (h₀ : Ext M₀ a₀ s) :
    Ext M₀ a₀ (State.unstopArrays s) := by
  refine Ext.via hM h₀ ?_
  clear hM h₀ M₀ a₀
  suffices H : ∀ a₀, Ext 4 a₀ s → Ext 4 a₀ (State.unstopArrays s) from H s (Ext.refl _ _)
  intro a₀ h₀
  unfold State.unstopArrays
  repeat' first
    | with_reducible assumption
    | (with_reducible intro _; intros; try beta_reduce)
    | with_reducible refine State.put_ext (by decide) ?_
    | with_reducible refine State.arrUpdate_ext (by decide) ?_
    | (with_reducible refine Ext.foldl _ ?_ ?_)
    | (with_reducible refine Ext.foldl_fst _ ?_ ?_)
    | split

theorem State.breakStops_ext {s : State} {M₀ : Nat} {a₀ : State} (hM : Within 266244 M₀) (h₀ : Ext M₀ a₀ s) :
    Ext M₀ a₀ (State.breakStops s) := by
  refine Ext.via hM h₀ ?_
  clear hM h₀ M₀ a₀
  suffices H : ∀ a₀, Ext 266244 a₀ s → Ext 266244 a₀ (State.breakStops s) from H s (Ext.refl _ _)
  intro a₀ h₀
  unfold State.breakStops
  repeat' first
    | with_reducible assumption
    | (with_reducible intro _; intros; try beta_reduce)
    | with_reducible refine State.put_ext (by decide) ?_
    | with_reducible refine State.setStop_ext (by decide) ?_
    | (with_reducible refine Ext.foldl _ ?_ ?_)
    | (with_reducible refine Ext.foldl_fst _ ?_ ?_)
    | split
    | (refine Ext.upd ?_ ?_ ?_ ?_ ?_ ?_ ?_ ?_ ?_ ?_ ?_ ?_ ?_ ?_ ?_ ?_ ?_ ?_ ?_ ?_ <;> first | rfl | exact fun _ => rfl | exact fun h => absurd h (by decide) | skip)

theorem State.saveNumber_ext {s : State} {cause : Nat} {M₀ : Nat} {a₀ : State} (hM : Within 1052676 M₀) (h₀ : Ext M₀ a₀ s) :
    Ext M₀ a₀ (State.saveNumber s cause) := by
  refine Ext.via hM h₀ ?_
  clear hM h₀ M₀ a₀
  suffices H : ∀ a₀, Ext 1052676 a₀ s → Ext 1052676 a₀ (State.saveNumber s cause) from H s (Ext.refl _ _)
  intro a₀ h₀
  unfold State.saveNumber
  repeat' first
    | with_reducible assumption
    | (with_reducible intro _; intros; try beta_reduce)
    | ((fail_if_no_progress extract_lets +onlyGivenNames t); refine Ext.cut (M := 1052676) (a := a₀) (b := t) ?_ (fun ht => ?_); rotate_left; clear_value t)
    | ((fail_if_no_progress extract_lets +onlyGivenNames u); have v : Nat := u; clear v; clear_value u)
    | ((fail_if_no_progress extract_lets +onlyGivenNames u); have v : List _ := u; clear v; clear_value u)
    | ((fail_if_no_progress extract_lets +onlyGivenNames u); have v : Option _ := u; clear v; fail_if_success (have v : Option State := u); clear_value u)
    | (fail_if_no_progress extract_lets +onlyGivenNames u)
    | with_reducible refine State.setKeep_ext (by decide) ?_
    | with_reducible refine State.put_ext (by decide) ?_
    | with_reducible refine State.clocks_ext (by decide) ?_
    | split
    | (clear_value *; split)
    | (unfold t)
    | (unfold u; try beta_reduce)
    | (refine Ext.upd ?_ ?_ ?_ ?_ ?_ ?_ ?_ ?_ ?_ ?_ ?_ ?_ ?_ ?_ ?_ ?_ ?_ ?_ ?_ ?_ <;> first | rfl | exact fun _ => rfl | exact fun h => absurd h (by decide) | skip)

theorem State.still_ext {s : State} {M₀ : Nat} {a₀ : State} (hM : Within 524292 M₀) (h₀ : Ext M₀ a₀ s) :
    Ext M₀ a₀ (State.still s) := by
  refine Ext.via hM h₀ ?_
  clear hM h₀ M₀ a₀
  suffices H : ∀ a₀, Ext 524292 a₀ s → Ext 524292 a₀ (State.still s) from H s (Ext.refl _ _)
  intro a₀ h₀
  unfold State.still
  repeat' first
    | with_reducible assumption
    | exact fun h => h
    | exact fun _ => rfl
    | (with_reducible intro _; intros; try beta_reduce)
    | with_reducible refine State.setPower_ext (by decide) ?_ ?_
    | with_reducible refine State.showDuty_ext (by decide) ?_
    | split
    | (refine Ext.upd ?_ ?_ ?_ ?_ ?_ ?_ ?_ ?_ ?_ ?_ ?_ ?_ ?_ ?_ ?_ ?_ ?_ ?_ ?_ ?_ <;> first | rfl | exact fun _ => rfl | exact fun h => absurd h (by decide) | skip)

theorem State.saveQuiet_ext {s : State} {M₀ : Nat} {a₀ : State} (hM : Within 815108 M₀) (h₀ : Ext M₀ a₀ s) :
    Ext M₀ a₀ (State.saveQuiet s) := by
  refine Ext.via hM h₀ ?_
  clear hM h₀ M₀ a₀
  suffices H : ∀ a₀, Ext 815108 a₀ s → Ext 815108 a₀ (State.saveQuiet s) from H s (Ext.refl _ _)
  intro a₀ h₀
  unfold State.saveQuiet
  repeat' first
    | with_reducible assumption
    | (with_reducible intro _; intros; try beta_reduce)
    | with_reducible refine State.abandonPasses_ext (by decide) ?_
    | with_reducible refine State.breakStops_ext (by decide) ?_
    | with_reducible refine State.selfRefresh_ext (by decide) ?_
    | with_reducible refine State.still_ext (by decide) ?_
    | with_reducible refine State.put_ext (by decide) ?_
    | split

theorem State.saveStart_ext {s : State} {cause : Nat} {M₀ : Nat} {a₀ : State} (hM : Within 1863812 M₀) (h₀ : Ext M₀ a₀ s) :
    Ext M₀ a₀ (State.saveStart s cause) := by
  refine Ext.via hM h₀ ?_
  clear hM h₀ M₀ a₀
  suffices H : ∀ a₀, Ext 1863812 a₀ s → Ext 1863812 a₀ (State.saveStart s cause) from H s (Ext.refl _ _)
  intro a₀ h₀
  unfold State.saveStart
  repeat' first
    | with_reducible assumption
    | (with_reducible intro _; intros; try beta_reduce)
    | with_reducible refine State.saveNumber_ext (by decide) ?_
    | with_reducible refine State.saveQuiet_ext (by decide) ?_
    | with_reducible refine State.event_ext (by decide) ?_
    | split

theorem State.goLost_ext {s : State} {M₀ : Nat} {a₀ : State} (hM : Within 8196 M₀) (h₀ : Ext M₀ a₀ s) :
    Ext M₀ a₀ (State.goLost s) := by
  refine Ext.via hM h₀ ?_
  clear hM h₀ M₀ a₀
  suffices H : ∀ a₀, Ext 8196 a₀ s → Ext 8196 a₀ (State.goLost s) from H s (Ext.refl _ _)
  intro a₀ h₀
  unfold State.goLost
  repeat' first
    | with_reducible assumption
    | (with_reducible intro _; intros; try beta_reduce)
    | with_reducible refine State.selfRefresh_ext (by decide) ?_
    | with_reducible refine State.put_ext (by decide) ?_
    | split

theorem State.saveTrigger_ext {s : State} {cause : Nat} {M₀ : Nat} {a₀ : State} (hM : Within 1863812 M₀) (h₀ : Ext M₀ a₀ s) :
    Ext M₀ a₀ (State.saveTrigger s cause) := by
  refine Ext.via hM h₀ ?_
  clear hM h₀ M₀ a₀
  suffices H : ∀ a₀, Ext 1863812 a₀ s → Ext 1863812 a₀ (State.saveTrigger s cause) from H s (Ext.refl _ _)
  intro a₀ h₀
  unfold State.saveTrigger
  repeat' first
    | with_reducible assumption
    | (with_reducible intro _; intros; try beta_reduce)
    | ((fail_if_no_progress extract_lets +onlyGivenNames t); refine Ext.cut (M := 1863812) (a := a₀) (b := t) ?_ (fun ht => ?_); rotate_left; clear_value t)
    | ((fail_if_no_progress extract_lets +onlyGivenNames u); have v : Nat := u; clear v; clear_value u)
    | ((fail_if_no_progress extract_lets +onlyGivenNames u); have v : List _ := u; clear v; clear_value u)
    | ((fail_if_no_progress extract_lets +onlyGivenNames u); have v : Option _ := u; clear v; fail_if_success (have v : Option State := u); clear_value u)
    | (fail_if_no_progress extract_lets +onlyGivenNames u)
    | with_reducible refine State.abandonPasses_ext (by decide) ?_
    | with_reducible refine State.goLost_ext (by decide) ?_
    | with_reducible refine State.saveStart_ext (by decide) ?_
    | split
    | (clear_value *; split)
    | (unfold t)
    | (unfold u; try beta_reduce)

theorem holdWarnAssert_ext {s : State} {M₀ : Nat} {a₀ : State} (hM : Within 1863812 M₀) (h₀ : Ext M₀ a₀ s) :
    Ext M₀ a₀ (holdWarnAssert s) := by
  refine Ext.via hM h₀ ?_
  clear hM h₀ M₀ a₀
  suffices H : ∀ a₀, Ext 1863812 a₀ s → Ext 1863812 a₀ (holdWarnAssert s) from H s (Ext.refl _ _)
  intro a₀ h₀
  unfold holdWarnAssert
  repeat' first
    | with_reducible assumption
    | (with_reducible intro _; intros; try beta_reduce)
    | with_reducible refine State.put_ext (by decide) ?_
    | with_reducible refine State.saveTrigger_ext (by decide) ?_
    | split

theorem holdWarnGlitch_ext {s : State} {M₀ : Nat} {a₀ : State} (hM : Within 4 M₀) (h₀ : Ext M₀ a₀ s) :
    Ext M₀ a₀ (holdWarnGlitch s) := by
  refine Ext.via hM h₀ ?_
  clear hM h₀ M₀ a₀
  suffices H : ∀ a₀, Ext 4 a₀ s → Ext 4 a₀ (holdWarnGlitch s) from H s (Ext.refl _ _)
  intro a₀ h₀
  unfold holdWarnGlitch
  repeat' first
    | with_reducible assumption
    | (with_reducible intro _; intros; try beta_reduce)
    | with_reducible refine State.put_ext (by decide) ?_
    | split

theorem thmSaveTest_ext {w : Writer} {go : Bool} {s : State} {M₀ : Nat} {a₀ : State} (hM : Within 1863812 M₀) (h₀ : Ext M₀ a₀ s) :
    Ext M₀ a₀ (thmSaveTest w go s) := by
  refine Ext.via hM h₀ ?_
  clear hM h₀ M₀ a₀
  suffices H : ∀ a₀, Ext 1863812 a₀ s → Ext 1863812 a₀ (thmSaveTest w go s) from H s (Ext.refl _ _)
  intro a₀ h₀
  unfold thmSaveTest
  repeat' first
    | with_reducible assumption
    | (with_reducible intro _; intros; try beta_reduce)
    | with_reducible refine State.regWrite_ext (by decide) ?_ ?_
    | with_reducible refine State.saveTrigger_ext (by decide) ?_
    | split

theorem thermalTrip_ext {monitor die : Nat} {s : State} {M₀ : Nat} {a₀ : State} (hM : Within 1929348 M₀) (h₀ : Ext M₀ a₀ s) :
    Ext M₀ a₀ (thermalTrip monitor die s) := by
  refine Ext.via hM h₀ ?_
  clear hM h₀ M₀ a₀
  suffices H : ∀ a₀, Ext 1929348 a₀ s → Ext 1929348 a₀ (thermalTrip monitor die s) from H s (Ext.refl _ _)
  intro a₀ h₀
  unfold thermalTrip
  repeat' first
    | with_reducible assumption
    | exact fun h => h
    | exact fun _ => rfl
    | (with_reducible intro _; intros; try beta_reduce)
    | ((fail_if_no_progress extract_lets +onlyGivenNames t); refine Ext.cut (M := 1929348) (a := a₀) (b := t) ?_ (fun ht => ?_); rotate_left; clear_value t)
    | ((fail_if_no_progress extract_lets +onlyGivenNames u); have v : Nat := u; clear v; clear_value u)
    | ((fail_if_no_progress extract_lets +onlyGivenNames u); have v : List _ := u; clear v; clear_value u)
    | ((fail_if_no_progress extract_lets +onlyGivenNames u); have v : Option _ := u; clear v; fail_if_success (have v : Option State := u); clear_value u)
    | (fail_if_no_progress extract_lets +onlyGivenNames u)
    | with_reducible refine State.setPower_ext (by decide) ?_ ?_
    | with_reducible refine State.put_ext (by decide) ?_
    | with_reducible refine State.showDuty_ext (by decide) ?_
    | with_reducible refine State.event_ext (by decide) ?_
    | with_reducible refine State.sendTwinFailed_ext (by decide) ?_
    | with_reducible refine State.setKeep_ext (by decide) ?_
    | with_reducible refine State.saveTrigger_ext (by decide) ?_
    | split
    | (clear_value *; split)
    | (unfold t)
    | (unfold u; try beta_reduce)
    | (refine Ext.upd ?_ ?_ ?_ ?_ ?_ ?_ ?_ ?_ ?_ ?_ ?_ ?_ ?_ ?_ ?_ ?_ ?_ ?_ ?_ ?_ <;> first | rfl | exact fun _ => rfl | exact fun h => absurd h (by decide) | skip)

theorem saveCommit_ext {s : State} {M₀ : Nat} {a₀ : State} (hM : Within 1056902 M₀) (h₀ : Ext M₀ a₀ s) :
    Ext M₀ a₀ (saveCommit s) := by
  refine Ext.via hM h₀ ?_
  clear hM h₀ M₀ a₀
  suffices H : ∀ a₀, Ext 1056902 a₀ s → Ext 1056902 a₀ (saveCommit s) from H s (Ext.refl _ _)
  intro a₀ h₀
  unfold saveCommit
  repeat' first
    | with_reducible assumption
    | (with_reducible intro _; intros; try beta_reduce)
    | ((fail_if_no_progress extract_lets +onlyGivenNames t); refine Ext.cut (M := 1056902) (a := a₀) (b := t) ?_ (fun ht => ?_); rotate_left; clear_value t)
    | ((fail_if_no_progress extract_lets +onlyGivenNames u); have v : Nat := u; clear v; clear_value u)
    | ((fail_if_no_progress extract_lets +onlyGivenNames u); have v : List _ := u; clear v; clear_value u)
    | ((fail_if_no_progress extract_lets +onlyGivenNames u); have v : Option _ := u; clear v; fail_if_success (have v : Option State := u); clear_value u)
    | (fail_if_no_progress extract_lets +onlyGivenNames u)
    | with_reducible refine State.useFresh_ext (by decide) ?_
    | with_reducible refine State.setKeep_ext (by decide) ?_
    | with_reducible refine State.selfRefresh_ext (by decide) ?_
    | with_reducible refine State.put_ext (by decide) ?_
    | with_reducible refine State.wr_ext (by decide) ?_
    | with_reducible refine State.bumpSat_ext (by decide) ?_
    | with_reducible refine State.event_ext (by decide) ?_
    | (with_reducible refine Ext.foldl _ ?_ ?_)
    | (with_reducible refine Ext.foldl_fst _ ?_ ?_)
    | split
    | (clear_value *; split)
    | (unfold t)
    | (unfold u; try beta_reduce)
    | (refine Ext.upd ?_ ?_ ?_ ?_ ?_ ?_ ?_ ?_ ?_ ?_ ?_ ?_ ?_ ?_ ?_ ?_ ?_ ?_ ?_ ?_ <;> first | rfl | exact fun _ => rfl | exact fun h => absurd h (by decide) | skip)

theorem holdLossAssert_ext {s : State} {M₀ : Nat} {a₀ : State} (hM : Within 24708 M₀) (h₀ : Ext M₀ a₀ s) :
    Ext M₀ a₀ (holdLossAssert s) := by
  refine Ext.via hM h₀ ?_
  clear hM h₀ M₀ a₀
  suffices H : ∀ a₀, Ext 24708 a₀ s → Ext 24708 a₀ (holdLossAssert s) from H s (Ext.refl _ _)
  intro a₀ h₀
  unfold holdLossAssert
  repeat' first
    | with_reducible assumption
    | (with_reducible intro _; intros; try beta_reduce)
    | ((fail_if_no_progress extract_lets +onlyGivenNames t); refine Ext.cut (M := 24708) (a := a₀) (b := t) ?_ (fun ht => ?_); rotate_left; clear_value t)
    | ((fail_if_no_progress extract_lets +onlyGivenNames u); have v : Nat := u; clear v; clear_value u)
    | ((fail_if_no_progress extract_lets +onlyGivenNames u); have v : List _ := u; clear v; clear_value u)
    | ((fail_if_no_progress extract_lets +onlyGivenNames u); have v : Option _ := u; clear v; fail_if_success (have v : Option State := u); clear_value u)
    | (fail_if_no_progress extract_lets +onlyGivenNames u)
    | with_reducible refine State.event_ext (by decide) ?_
    | with_reducible refine State.put_ext (by decide) ?_
    | with_reducible refine State.abandonPasses_ext (by decide) ?_
    | with_reducible refine State.goLost_ext (by decide) ?_
    | split
    | (clear_value *; split)
    | (unfold t)
    | (unfold u; try beta_reduce)

theorem State.leaveRefresh_ext {s : State} {moved : List Nat} {M₀ : Nat} {a₀ : State} (hM : Within 12356 M₀) (h₀ : Ext M₀ a₀ s) :
    Ext M₀ a₀ (State.leaveRefresh s moved) := by
  refine Ext.via hM h₀ ?_
  clear hM h₀ M₀ a₀
  suffices H : ∀ a₀, Ext 12356 a₀ s → Ext 12356 a₀ (State.leaveRefresh s moved) from H s (Ext.refl _ _)
  intro a₀ h₀
  unfold State.leaveRefresh
  repeat' first
    | with_reducible assumption
    | (with_reducible intro _; intros; try beta_reduce)
    | with_reducible refine State.moved_ext (by decide) ?_
    | with_reducible refine State.wantRetrain_ext (by decide) ?_
    | with_reducible refine State.put_ext (by decide) ?_
    | (with_reducible refine Ext.foldl _ ?_ ?_)
    | (with_reducible refine Ext.foldl_fst _ ?_ ?_)
    | split

theorem State.backToRun_ext {s : State} {M₀ : Nat} {a₀ : State} (hM : Within 1020150 M₀) (h₀ : Ext M₀ a₀ s) :
    Ext M₀ a₀ (State.backToRun s) := by
  refine Ext.via hM h₀ ?_
  clear hM h₀ M₀ a₀
  suffices H : ∀ a₀, Ext 1020150 a₀ s → Ext 1020150 a₀ (State.backToRun s) from H s (Ext.refl _ _)
  intro a₀ h₀
  unfold State.backToRun
  repeat' first
    | with_reducible assumption
    | exact fun h => h
    | exact fun _ => rfl
    | (with_reducible intro _; intros; try beta_reduce)
    | ((fail_if_no_progress extract_lets +onlyGivenNames t); refine Ext.cut (M := 1020150) (a := a₀) (b := t) ?_ (fun ht => ?_); rotate_left; clear_value t)
    | ((fail_if_no_progress extract_lets +onlyGivenNames u); have v : Nat := u; clear v; clear_value u)
    | ((fail_if_no_progress extract_lets +onlyGivenNames u); have v : List _ := u; clear v; clear_value u)
    | ((fail_if_no_progress extract_lets +onlyGivenNames u); have v : Option _ := u; clear v; fail_if_success (have v : Option State := u); clear_value u)
    | (fail_if_no_progress extract_lets +onlyGivenNames u)
    | with_reducible refine State.put_ext (by decide) ?_
    | with_reducible refine State.setStop_ext (by decide) ?_
    | with_reducible refine State.setPower_ext (by decide) ?_ ?_
    | with_reducible refine State.unstopArrays_ext (by decide) ?_
    | with_reducible refine State.clocks_ext (by decide) ?_
    | with_reducible refine State.ringResume_ext (by decide) ?_
    | (with_reducible refine Ext.foldl _ ?_ ?_)
    | (with_reducible refine Ext.foldl_fst _ ?_ ?_)
    | split
    | (clear_value *; split)
    | (unfold t)
    | (unfold u; try beta_reduce)
    | (refine Ext.upd ?_ ?_ ?_ ?_ ?_ ?_ ?_ ?_ ?_ ?_ ?_ ?_ ?_ ?_ ?_ ?_ ?_ ?_ ?_ ?_ <;> first | rfl | exact fun _ => rfl | exact fun h => absurd h (by decide) | skip)

theorem resume_ext {moved : List Nat} {s : State} {M₀ : Nat} {a₀ : State} (hM : Within 2076918 M₀) (h₀ : Ext M₀ a₀ s) :
    Ext M₀ a₀ (resume moved s) := by
  refine Ext.via hM h₀ ?_
  clear hM h₀ M₀ a₀
  suffices H : ∀ a₀, Ext 2076918 a₀ s → Ext 2076918 a₀ (resume moved s) from H s (Ext.refl _ _)
  intro a₀ h₀
  unfold resume
  repeat' first
    | with_reducible assumption
    | (with_reducible intro _; intros; try beta_reduce)
    | ((fail_if_no_progress extract_lets +onlyGivenNames t); refine Ext.cut (M := 2076918) (a := a₀) (b := t) ?_ (fun ht => ?_); rotate_left; clear_value t)
    | ((fail_if_no_progress extract_lets +onlyGivenNames u); have v : Nat := u; clear v; clear_value u)
    | ((fail_if_no_progress extract_lets +onlyGivenNames u); have v : List _ := u; clear v; clear_value u)
    | ((fail_if_no_progress extract_lets +onlyGivenNames u); have v : Option _ := u; clear v; fail_if_success (have v : Option State := u); clear_value u)
    | (fail_if_no_progress extract_lets +onlyGivenNames u)
    | with_reducible refine State.leaveRefresh_ext (by decide) ?_
    | with_reducible refine State.moved_ext (by decide) ?_
    | with_reducible refine State.put_ext (by decide) ?_
    | with_reducible refine State.setKeep_ext (by decide) ?_
    | with_reducible refine State.bumpSat_ext (by decide) ?_
    | with_reducible refine State.event_ext (by decide) ?_
    | with_reducible refine State.backToRun_ext (by decide) ?_
    | (with_reducible refine Ext.foldl _ ?_ ?_)
    | (with_reducible refine Ext.foldl_fst _ ?_ ?_)
    | split
    | (clear_value *; split)
    | (unfold t)
    | (unfold u; try beta_reduce)
    | (refine Ext.upd ?_ ?_ ?_ ?_ ?_ ?_ ?_ ?_ ?_ ?_ ?_ ?_ ?_ ?_ ?_ ?_ ?_ ?_ ?_ ?_ <;> first | rfl | exact fun _ => rfl | exact fun h => absurd h (by decide) | skip)

theorem ledgerWrite_ext {s : State} {M₀ : Nat} {a₀ : State} (hM : Within 1064960 M₀) (h₀ : Ext M₀ a₀ s) :
    Ext M₀ a₀ (ledgerWrite s) := by
  refine Ext.via hM h₀ ?_
  clear hM h₀ M₀ a₀
  suffices H : ∀ a₀, Ext 1064960 a₀ s → Ext 1064960 a₀ (ledgerWrite s) from H s (Ext.refl _ _)
  intro a₀ h₀
  unfold ledgerWrite
  repeat' first
    | with_reducible assumption
    | (with_reducible intro _; intros; try beta_reduce)
    | with_reducible refine State.setComp_ext (by decide) ?_
    | with_reducible refine State.setKeep_ext (by decide) ?_
    | split
    | (refine Ext.upd ?_ ?_ ?_ ?_ ?_ ?_ ?_ ?_ ?_ ?_ ?_ ?_ ?_ ?_ ?_ ?_ ?_ ?_ ?_ ?_ <;> first | rfl | exact fun _ => rfl | exact fun h => absurd h (by decide) | skip)

theorem State.enterRun_ext {s : State} {M₀ : Nat} {a₀ : State} (hM : Within 4 M₀) (h₀ : Ext M₀ a₀ s) :
    Ext M₀ a₀ (State.enterRun s) := by
  refine Ext.via hM h₀ ?_
  clear hM h₀ M₀ a₀
  suffices H : ∀ a₀, Ext 4 a₀ s → Ext 4 a₀ (State.enterRun s) from H s (Ext.refl _ _)
  intro a₀ h₀
  unfold State.enterRun
  repeat' first
    | with_reducible assumption
    | (with_reducible intro _; intros; try beta_reduce)
    | with_reducible refine State.put_ext (by decide) ?_
    | split

theorem saveAreaErase_ext {s : State} {M₀ : Nat} {a₀ : State} (hM : Within 1048580 M₀) (h₀ : Ext M₀ a₀ s) :
    Ext M₀ a₀ (saveAreaErase s) := by
  refine Ext.via hM h₀ ?_
  clear hM h₀ M₀ a₀
  suffices H : ∀ a₀, Ext 1048580 a₀ s → Ext 1048580 a₀ (saveAreaErase s) from H s (Ext.refl _ _)
  intro a₀ h₀
  unfold saveAreaErase
  repeat' first
    | with_reducible assumption
    | (with_reducible intro _; intros; try beta_reduce)
    | with_reducible refine State.setKeep_ext (by decide) ?_
    | with_reducible refine State.enterRun_ext (by decide) ?_
    | split

theorem vauxLoss_ext {s : State} {M₀ : Nat} {a₀ : State} (hM : Within 4718596 M₀) (h₀ : Ext M₀ a₀ s) : Ext M₀ a₀ (vauxLoss s) := by
  refine Ext.via hM h₀ ?_
  clear hM h₀ M₀ a₀
  unfold vauxLoss
  extract_lets w t
  have ht : Ext 4718596 s t := by
    refine State.put_ext (by decide) ?_
    constructor <;> first | rfl | exact fun _ => rfl | exact fun h => absurd h (by decide) | exact fun _ h => h | exact id | exact Nat.le_refl _
  clear_value t
  split
  · exact State.put_ext (by decide) ht
  · exact ht

end Sys2Proof.Machine
end

