-- ==== Sys2Proof/Laws/ExtContract.lean ====
section
/-!
SUPPORT. What each operation of Machine/Contract.lean can change: one lemma each.
-/
namespace Sys2Proof.Machine

theorem wqTailWrite_ext {w : Writer} {n v : Nat} {s : State} {M₀ : Nat} {a₀ : State} (hM : Within 132 M₀) (h₀ : Ext M₀ a₀ s) :
    Ext M₀ a₀ (wqTailWrite w n v s) := by
  refine Ext.via hM h₀ ?_
  clear hM h₀ M₀ a₀
  suffices H : ∀ a₀, Ext 132 a₀ s → Ext 132 a₀ (wqTailWrite w n v s) from H s (Ext.refl _ _)
  intro a₀ h₀
  unfold wqTailWrite
  repeat' first
    | with_reducible assumption
    | (with_reducible intro _; intros; try beta_reduce)
    | ((fail_if_no_progress extract_lets +onlyGivenNames t); refine Ext.cut (M := 132) (a := a₀) (b := t) ?_ (fun ht => ?_); rotate_left; clear_value t)
    | ((fail_if_no_progress extract_lets +onlyGivenNames u); have v : Nat := u; clear v; clear_value u)
    | ((fail_if_no_progress extract_lets +onlyGivenNames u); have v : List _ := u; clear v; clear_value u)
    | ((fail_if_no_progress extract_lets +onlyGivenNames u); have v : Option _ := u; clear v; fail_if_success (have v : Option State := u); clear_value u)
    | (fail_if_no_progress extract_lets +onlyGivenNames u)
    | with_reducible refine State.regWrite_ext (by decide) ?_ ?_
    | with_reducible refine State.put_ext (by decide) ?_
    | with_reducible refine State.badWrite_ext (by decide) ?_
    | with_reducible refine State.wr_ext (by decide) ?_
    | split
    | (clear_value *; split)
    | (unfold t)
    | (unfold u; try beta_reduce)

theorem wqBaseWrite_ext {w : Writer} {n v : Nat} {s : State} {M₀ : Nat} {a₀ : State} (hM : Within 132 M₀) (h₀ : Ext M₀ a₀ s) :
    Ext M₀ a₀ (wqBaseWrite w n v s) := by
  refine Ext.via hM h₀ ?_
  clear hM h₀ M₀ a₀
  suffices H : ∀ a₀, Ext 132 a₀ s → Ext 132 a₀ (wqBaseWrite w n v s) from H s (Ext.refl _ _)
  intro a₀ h₀
  unfold wqBaseWrite
  repeat' first
    | with_reducible assumption
    | (with_reducible intro _; intros; try beta_reduce)
    | with_reducible refine State.regWrite_ext (by decide) ?_ ?_
    | with_reducible refine State.badWrite_ext (by decide) ?_
    | with_reducible refine State.writeFields_ext (by decide) ?_
    | split

theorem wqEnable_ext {w : Writer} {n v : Nat} {s : State} {M₀ : Nat} {a₀ : State} (hM : Within 132 M₀) (h₀ : Ext M₀ a₀ s) :
    Ext M₀ a₀ (wqEnable w n v s) := by
  refine Ext.via hM h₀ ?_
  clear hM h₀ M₀ a₀
  suffices H : ∀ a₀, Ext 132 a₀ s → Ext 132 a₀ (wqEnable w n v s) from H s (Ext.refl _ _)
  intro a₀ h₀
  unfold wqEnable
  repeat' first
    | with_reducible assumption
    | (with_reducible intro _; intros; try beta_reduce)
    | ((fail_if_no_progress extract_lets +onlyGivenNames t); refine Ext.cut (M := 132) (a := a₀) (b := t) ?_ (fun ht => ?_); rotate_left; clear_value t)
    | ((fail_if_no_progress extract_lets +onlyGivenNames u); have v : Nat := u; clear v; clear_value u)
    | ((fail_if_no_progress extract_lets +onlyGivenNames u); have v : List _ := u; clear v; clear_value u)
    | ((fail_if_no_progress extract_lets +onlyGivenNames u); have v : Option _ := u; clear v; fail_if_success (have v : Option State := u); clear_value u)
    | (fail_if_no_progress extract_lets +onlyGivenNames u)
    | with_reducible refine State.regWrite_ext (by decide) ?_ ?_
    | with_reducible refine State.badWrite_ext (by decide) ?_
    | with_reducible refine State.writeFields_ext (by decide) ?_
    | split
    | (clear_value *; split)
    | (unfold t)
    | (unfold u; try beta_reduce)

theorem wqDisable_ext {w : Writer} {n v : Nat} {s : State} {M₀ : Nat} {a₀ : State} (hM : Within 132 M₀) (h₀ : Ext M₀ a₀ s) :
    Ext M₀ a₀ (wqDisable w n v s) := by
  refine Ext.via hM h₀ ?_
  clear hM h₀ M₀ a₀
  suffices H : ∀ a₀, Ext 132 a₀ s → Ext 132 a₀ (wqDisable w n v s) from H s (Ext.refl _ _)
  intro a₀ h₀
  unfold wqDisable
  repeat' first
    | with_reducible assumption
    | (with_reducible intro _; intros; try beta_reduce)
    | ((fail_if_no_progress extract_lets +onlyGivenNames t); refine Ext.cut (M := 132) (a := a₀) (b := t) ?_ (fun ht => ?_); rotate_left; clear_value t)
    | ((fail_if_no_progress extract_lets +onlyGivenNames u); have v : Nat := u; clear v; clear_value u)
    | ((fail_if_no_progress extract_lets +onlyGivenNames u); have v : List _ := u; clear v; clear_value u)
    | ((fail_if_no_progress extract_lets +onlyGivenNames u); have v : Option _ := u; clear v; fail_if_success (have v : Option State := u); clear_value u)
    | (fail_if_no_progress extract_lets +onlyGivenNames u)
    | with_reducible refine State.regWrite_ext (by decide) ?_ ?_
    | with_reducible refine State.writeFields_ext (by decide) ?_
    | split
    | (clear_value *; split)
    | (unfold t)
    | (unfold u; try beta_reduce)

theorem State.settle_ext {s : State} {M₀ : Nat} {a₀ : State} (hM : Within 4164 M₀) (h₀ : Ext M₀ a₀ s) :
    Ext M₀ a₀ (State.settle s) := by
  refine Ext.via hM h₀ ?_
  clear hM h₀ M₀ a₀
  suffices H : ∀ a₀, Ext 4164 a₀ s → Ext 4164 a₀ (State.settle s) from H s (Ext.refl _ _)
  intro a₀ h₀
  unfold State.settle
  repeat' first
    | with_reducible assumption
    | (with_reducible intro _; intros; try beta_reduce)
    | with_reducible refine State.wake_ext (by decide) ?_
    | with_reducible refine State.modesUpdate_ext (by decide) ?_
    | split

theorem cqEnable_ext {w : Writer} {n v : Nat} {s : State} {M₀ : Nat} {a₀ : State} (hM : Within 37316 M₀) (h₀ : Ext M₀ a₀ s) :
    Ext M₀ a₀ (cqEnable w n v s) := by
  refine Ext.via hM h₀ ?_
  clear hM h₀ M₀ a₀
  suffices H : ∀ a₀, Ext 37316 a₀ s → Ext 37316 a₀ (cqEnable w n v s) from H s (Ext.refl _ _)
  intro a₀ h₀
  unfold cqEnable
  repeat' first
    | with_reducible assumption
    | (with_reducible intro _; intros; try beta_reduce)
    | ((fail_if_no_progress extract_lets +onlyGivenNames t); refine Ext.cut (M := 37316) (a := a₀) (b := t) ?_ (fun ht => ?_); rotate_left; clear_value t)
    | ((fail_if_no_progress extract_lets +onlyGivenNames u); have v : Nat := u; clear v; clear_value u)
    | ((fail_if_no_progress extract_lets +onlyGivenNames u); have v : List _ := u; clear v; clear_value u)
    | ((fail_if_no_progress extract_lets +onlyGivenNames u); have v : Option _ := u; clear v; fail_if_success (have v : Option State := u); clear_value u)
    | (fail_if_no_progress extract_lets +onlyGivenNames u)
    | with_reducible refine State.regWrite_ext (by decide) ?_ ?_
    | with_reducible refine State.badWrite_ext (by decide) ?_
    | with_reducible refine State.writeFields_ext (by decide) ?_
    | with_reducible refine State.setCq_ext (by decide) ?_
    | with_reducible refine State.put_ext (by decide) ?_
    | with_reducible refine State.drainNotices_ext (by decide) ?_
    | with_reducible refine State.drainCq_ext (by decide) ?_
    | with_reducible refine State.settle_ext (by decide) ?_
    | split
    | (clear_value *; split)
    | (unfold t)
    | (unfold u; try beta_reduce)
    | (refine Ext.upd ?_ ?_ ?_ ?_ ?_ ?_ ?_ ?_ ?_ ?_ ?_ ?_ ?_ ?_ ?_ ?_ ?_ ?_ ?_ ?_ <;> first | rfl | exact fun _ => rfl | exact fun h => absurd h (by decide) | skip)

theorem cqDisable_ext {w : Writer} {n v : Nat} {s : State} {M₀ : Nat} {a₀ : State} (hM : Within 132 M₀) (h₀ : Ext M₀ a₀ s) :
    Ext M₀ a₀ (cqDisable w n v s) := by
  refine Ext.via hM h₀ ?_
  clear hM h₀ M₀ a₀
  suffices H : ∀ a₀, Ext 132 a₀ s → Ext 132 a₀ (cqDisable w n v s) from H s (Ext.refl _ _)
  intro a₀ h₀
  unfold cqDisable
  repeat' first
    | with_reducible assumption
    | (with_reducible intro _; intros; try beta_reduce)
    | ((fail_if_no_progress extract_lets +onlyGivenNames t); refine Ext.cut (M := 132) (a := a₀) (b := t) ?_ (fun ht => ?_); rotate_left; clear_value t)
    | ((fail_if_no_progress extract_lets +onlyGivenNames u); have v : Nat := u; clear v; clear_value u)
    | ((fail_if_no_progress extract_lets +onlyGivenNames u); have v : List _ := u; clear v; clear_value u)
    | ((fail_if_no_progress extract_lets +onlyGivenNames u); have v : Option _ := u; clear v; fail_if_success (have v : Option State := u); clear_value u)
    | (fail_if_no_progress extract_lets +onlyGivenNames u)
    | with_reducible refine State.regWrite_ext (by decide) ?_ ?_
    | with_reducible refine State.writeFields_ext (by decide) ?_
    | split
    | (clear_value *; split)
    | (unfold t)
    | (unfold u; try beta_reduce)

theorem cqHeadWrite_ext {w : Writer} {n v : Nat} {s : State} {M₀ : Nat} {a₀ : State} (hM : Within 37316 M₀) (h₀ : Ext M₀ a₀ s) :
    Ext M₀ a₀ (cqHeadWrite w n v s) := by
  refine Ext.via hM h₀ ?_
  clear hM h₀ M₀ a₀
  suffices H : ∀ a₀, Ext 37316 a₀ s → Ext 37316 a₀ (cqHeadWrite w n v s) from H s (Ext.refl _ _)
  intro a₀ h₀
  unfold cqHeadWrite
  repeat' first
    | with_reducible assumption
    | (with_reducible intro _; intros; try beta_reduce)
    | with_reducible refine State.regWrite_ext (by decide) ?_ ?_
    | with_reducible refine State.drainCq_ext (by decide) ?_
    | with_reducible refine State.wr_ext (by decide) ?_
    | with_reducible refine State.settle_ext (by decide) ?_
    | split

theorem depctrWrite_ext {w : Writer} {n v : Nat} {s : State} {M₀ : Nat} {a₀ : State} (hM : Within 4292 M₀) (h₀ : Ext M₀ a₀ s) :
    Ext M₀ a₀ (depctrWrite w n v s) := by
  refine Ext.via hM h₀ ?_
  clear hM h₀ M₀ a₀
  suffices H : ∀ a₀, Ext 4292 a₀ s → Ext 4292 a₀ (depctrWrite w n v s) from H s (Ext.refl _ _)
  intro a₀ h₀
  unfold depctrWrite
  repeat' first
    | with_reducible assumption
    | (with_reducible intro _; intros; try beta_reduce)
    | with_reducible refine State.regWrite_ext (by decide) ?_ ?_
    | with_reducible refine State.wr_ext (by decide) ?_
    | with_reducible refine State.wake_ext (by decide) ?_
    | split

theorem State.signal_ext {s : State} {ctr inc : Nat} {M₀ : Nat} {a₀ : State} (hM : Within 4 M₀) (h₀ : Ext M₀ a₀ s) :
    Ext M₀ a₀ (State.signal s ctr inc) := by
  refine Ext.via hM h₀ ?_
  clear hM h₀ M₀ a₀
  suffices H : ∀ a₀, Ext 4 a₀ s → Ext 4 a₀ (State.signal s ctr inc) from H s (Ext.refl _ _)
  intro a₀ h₀
  unfold State.signal
  repeat' first
    | with_reducible assumption
    | (with_reducible intro _; intros; try beta_reduce)
    | with_reducible refine State.wr_ext (by decide) ?_
    | split

theorem State.report425_ext {s : State} {slot : Nat} {o : Op} {result : Nat} {M₀ : Nat} {a₀ : State} (hM : Within 33222 M₀) (h₀ : Ext M₀ a₀ s) :
    Ext M₀ a₀ (State.report425 s slot o result) := by
  refine Ext.via hM h₀ ?_
  clear hM h₀ M₀ a₀
  suffices H : ∀ a₀, Ext 33222 a₀ s → Ext 33222 a₀ (State.report425 s slot o result) from H s (Ext.refl _ _)
  intro a₀ h₀
  unfold State.report425
  repeat' first
    | with_reducible assumption
    | (with_reducible intro _; intros; try beta_reduce)
    | with_reducible refine State.leave_ext (by decide) ?_
    | with_reducible refine State.useFresh_ext (by decide) ?_
    | with_reducible refine State.post_ext (by decide) ?_
    | with_reducible refine State.genericNotice_ext (by decide) ?_
    | split

theorem State.endWork_ext {s : State} {slot : Nat} {o : Op} {M₀ : Nat} {a₀ : State} (hM : Within 20484 M₀) (h₀ : Ext M₀ a₀ s) :
    Ext M₀ a₀ (State.endWork s slot o) := by
  refine Ext.via hM h₀ ?_
  clear hM h₀ M₀ a₀
  suffices H : ∀ a₀, Ext 20484 a₀ s → Ext 20484 a₀ (State.endWork s slot o) from H s (Ext.refl _ _)
  intro a₀ h₀
  unfold State.endWork
  repeat' first
    | with_reducible assumption
    | (with_reducible intro _; intros; try beta_reduce)
    | ((fail_if_no_progress extract_lets +onlyGivenNames t); refine Ext.cut (M := 20484) (a := a₀) (b := t) ?_ (fun ht => ?_); rotate_left; clear_value t)
    | ((fail_if_no_progress extract_lets +onlyGivenNames u); have v : Nat := u; clear v; clear_value u)
    | ((fail_if_no_progress extract_lets +onlyGivenNames u); have v : List _ := u; clear v; clear_value u)
    | ((fail_if_no_progress extract_lets +onlyGivenNames u); have v : Option _ := u; clear v; fail_if_success (have v : Option State := u); clear_value u)
    | (fail_if_no_progress extract_lets +onlyGivenNames u)
    | with_reducible refine State.unbindCtx_ext (by decide) ?_
    | with_reducible refine State.dropMatmul_ext (by decide) ?_
    | with_reducible refine State.dropTasks_ext (by decide) ?_
    | (with_reducible refine Ext.foldl _ ?_ ?_)
    | (with_reducible refine Ext.foldl_fst _ ?_ ?_)
    | split
    | (clear_value *; split)
    | (unfold t)
    | (unfold u; try beta_reduce)

theorem State.retire_ext {s : State} {slot result : Nat} {add : Bool} {M₀ : Nat} {a₀ : State} (hM : Within 315846 M₀) (h₀ : Ext M₀ a₀ s) :
    Ext M₀ a₀ (State.retire s slot result add) := by
  refine Ext.via hM h₀ ?_
  clear hM h₀ M₀ a₀
  suffices H : ∀ a₀, Ext 315846 a₀ s → Ext 315846 a₀ (State.retire s slot result add) from H s (Ext.refl _ _)
  intro a₀ h₀
  unfold State.retire
  repeat' first
    | with_reducible assumption
    | (with_reducible intro _; intros; try beta_reduce)
    | ((fail_if_no_progress extract_lets +onlyGivenNames t); refine Ext.cut (M := 315846) (a := a₀) (b := t) ?_ (fun ht => ?_); rotate_left; clear_value t)
    | ((fail_if_no_progress extract_lets +onlyGivenNames u); have v : Nat := u; clear v; clear_value u)
    | ((fail_if_no_progress extract_lets +onlyGivenNames u); have v : List _ := u; clear v; clear_value u)
    | ((fail_if_no_progress extract_lets +onlyGivenNames u); have v : Option _ := u; clear v; fail_if_success (have v : Option State := u); clear_value u)
    | (fail_if_no_progress extract_lets +onlyGivenNames u)
    | with_reducible refine State.setStatus_ext (by decide) ?_
    | with_reducible refine State.applyRetired_ext (by decide) ?_
    | with_reducible refine State.signal_ext (by decide) ?_
    | with_reducible refine State.makeStale_ext (by decide) ?_
    | with_reducible refine State.endWork_ext (by decide) ?_
    | with_reducible refine State.report425_ext (by decide) ?_
    | with_reducible refine State.settle_ext (by decide) ?_
    | (with_reducible refine Ext.foldl _ ?_ ?_)
    | (with_reducible refine Ext.foldl_fst _ ?_ ?_)
    | split
    | (clear_value *; split)
    | (unfold t)
    | (unfold u; try beta_reduce)

theorem State.endInLayer_ext {s : State} {k : Nat} {o : Op} {r : Nat} {M₀ : Nat} {a₀ : State} (hM : Within 36932 M₀) (h₀ : Ext M₀ a₀ s) :
    Ext M₀ a₀ (State.endInLayer s k o r) := by
  refine Ext.via hM h₀ ?_
  clear hM h₀ M₀ a₀
  suffices H : ∀ a₀, Ext 36932 a₀ s → Ext 36932 a₀ (State.endInLayer s k o r) from H s (Ext.refl _ _)
  intro a₀ h₀
  unfold State.endInLayer
  repeat' first
    | with_reducible assumption
    | (with_reducible intro _; intros; try beta_reduce)
    | ((fail_if_no_progress extract_lets +onlyGivenNames t); refine Ext.cut (M := 36932) (a := a₀) (b := t) ?_ (fun ht => ?_); rotate_left; clear_value t)
    | ((fail_if_no_progress extract_lets +onlyGivenNames u); have v : Nat := u; clear v; clear_value u)
    | ((fail_if_no_progress extract_lets +onlyGivenNames u); have v : List _ := u; clear v; clear_value u)
    | ((fail_if_no_progress extract_lets +onlyGivenNames u); have v : Option _ := u; clear v; fail_if_success (have v : Option State := u); clear_value u)
    | (fail_if_no_progress extract_lets +onlyGivenNames u)
    | with_reducible refine State.setInst_ext (by decide) ?_
    | with_reducible refine State.signal_ext (by decide) ?_
    | with_reducible refine State.wake_ext (by decide) ?_
    | split
    | (clear_value *; split)
    | (unfold t)
    | (unfold u; try beta_reduce)
    | (refine Ext.upd ?_ ?_ ?_ ?_ ?_ ?_ ?_ ?_ ?_ ?_ ?_ ?_ ?_ ?_ ?_ ?_ ?_ ?_ ?_ ?_ <;> first | rfl | exact fun _ => rfl | exact fun h => absurd h (by decide) | skip)

theorem itemRetire_ext {slot : Nat} {s : State} {M₀ : Nat} {a₀ : State} (hM : Within 315846 M₀) (h₀ : Ext M₀ a₀ s) :
    Ext M₀ a₀ (itemRetire slot s) := by
  refine Ext.via hM h₀ ?_
  clear hM h₀ M₀ a₀
  suffices H : ∀ a₀, Ext 315846 a₀ s → Ext 315846 a₀ (itemRetire slot s) from H s (Ext.refl _ _)
  intro a₀ h₀
  unfold itemRetire
  repeat' first
    | with_reducible assumption
    | (with_reducible intro _; intros; try beta_reduce)
    | with_reducible refine State.endInLayer_ext (by decide) ?_
    | with_reducible refine State.retire_ext (by decide) ?_
    | split

theorem State.passFence_ext {s : State} {slot : Nat} {M₀ : Nat} {a₀ : State} (hM : Within 315846 M₀) (h₀ : Ext M₀ a₀ s) :
    Ext M₀ a₀ (State.passFence s slot) := by
  refine Ext.via hM h₀ ?_
  clear hM h₀ M₀ a₀
  suffices H : ∀ a₀, Ext 315846 a₀ s → Ext 315846 a₀ (State.passFence s slot) from H s (Ext.refl _ _)
  intro a₀ h₀
  unfold State.passFence
  repeat' first
    | with_reducible assumption
    | (with_reducible intro _; intros; try beta_reduce)
    | with_reducible refine State.issue_ext (by decide) ?_
    | with_reducible refine State.retire_ext (by decide) ?_
    | split

theorem State.endItem_ext {s : State} {slot : Nat} {M₀ : Nat} {a₀ : State} (hM : Within 315846 M₀) (h₀ : Ext M₀ a₀ s) :
    Ext M₀ a₀ (State.endItem s slot) := by
  refine Ext.via hM h₀ ?_
  clear hM h₀ M₀ a₀
  suffices H : ∀ a₀, Ext 315846 a₀ s → Ext 315846 a₀ (State.endItem s slot) from H s (Ext.refl _ _)
  intro a₀ h₀
  unfold State.endItem
  repeat' first
    | with_reducible assumption
    | (with_reducible intro _; intros; try beta_reduce)
    | with_reducible refine State.issue_ext (by decide) ?_
    | with_reducible refine State.finish_ext (by decide) ?_
    | with_reducible refine State.passFence_ext (by decide) ?_
    | split

theorem fenceQueue_ext {slot : Nat} {s : State} {M₀ : Nat} {a₀ : State} (hM : Within 315846 M₀) (h₀ : Ext M₀ a₀ s) :
    Ext M₀ a₀ (fenceQueue slot s) := by
  refine Ext.via hM h₀ ?_
  clear hM h₀ M₀ a₀
  suffices H : ∀ a₀, Ext 315846 a₀ s → Ext 315846 a₀ (fenceQueue slot s) from H s (Ext.refl _ _)
  intro a₀ h₀
  unfold fenceQueue
  repeat' first
    | with_reducible assumption
    | (with_reducible intro _; intros; try beta_reduce)
    | with_reducible refine State.endItem_ext (by decide) ?_
    | split

theorem fencePartition_ext {slot : Nat} {s : State} {M₀ : Nat} {a₀ : State} (hM : Within 315846 M₀) (h₀ : Ext M₀ a₀ s) :
    Ext M₀ a₀ (fencePartition slot s) := by
  refine Ext.via hM h₀ ?_
  clear hM h₀ M₀ a₀
  suffices H : ∀ a₀, Ext 315846 a₀ s → Ext 315846 a₀ (fencePartition slot s) from H s (Ext.refl _ _)
  intro a₀ h₀
  unfold fencePartition
  repeat' first
    | with_reducible assumption
    | (with_reducible intro _; intros; try beta_reduce)
    | with_reducible refine State.endItem_ext (by decide) ?_
    | split

theorem fenceStepClose_ext {slot : Nat} {s : State} {M₀ : Nat} {a₀ : State} (hM : Within 315846 M₀) (h₀ : Ext M₀ a₀ s) :
    Ext M₀ a₀ (fenceStepClose slot s) := by
  refine Ext.via hM h₀ ?_
  clear hM h₀ M₀ a₀
  suffices H : ∀ a₀, Ext 315846 a₀ s → Ext 315846 a₀ (fenceStepClose slot s) from H s (Ext.refl _ _)
  intro a₀ h₀
  unfold fenceStepClose
  repeat' first
    | with_reducible assumption
    | (with_reducible intro _; intros; try beta_reduce)
    | ((fail_if_no_progress extract_lets +onlyGivenNames t); refine Ext.cut (M := 315846) (a := a₀) (b := t) ?_ (fun ht => ?_); rotate_left; clear_value t)
    | ((fail_if_no_progress extract_lets +onlyGivenNames u); have v : Nat := u; clear v; clear_value u)
    | ((fail_if_no_progress extract_lets +onlyGivenNames u); have v : List _ := u; clear v; clear_value u)
    | ((fail_if_no_progress extract_lets +onlyGivenNames u); have v : Option _ := u; clear v; fail_if_success (have v : Option State := u); clear_value u)
    | (fail_if_no_progress extract_lets +onlyGivenNames u)
    | with_reducible refine State.passFence_ext (by decide) ?_
    | split
    | (clear_value *; split)
    | (unfold t)
    | (unfold u; try beta_reduce)

theorem opMark_ext {slot : Nat} {s : State} {M₀ : Nat} {a₀ : State} (hM : Within 315846 M₀) (h₀ : Ext M₀ a₀ s) :
    Ext M₀ a₀ (opMark slot s) := by
  refine Ext.via hM h₀ ?_
  clear hM h₀ M₀ a₀
  suffices H : ∀ a₀, Ext 315846 a₀ s → Ext 315846 a₀ (opMark slot s) from H s (Ext.refl _ _)
  intro a₀ h₀
  unfold opMark
  repeat' first
    | with_reducible assumption
    | (with_reducible intro _; intros; try beta_reduce)
    | ((fail_if_no_progress extract_lets +onlyGivenNames t); refine Ext.cut (M := 315846) (a := a₀) (b := t) ?_ (fun ht => ?_); rotate_left; clear_value t)
    | ((fail_if_no_progress extract_lets +onlyGivenNames u); have v : Nat := u; clear v; clear_value u)
    | ((fail_if_no_progress extract_lets +onlyGivenNames u); have v : List _ := u; clear v; clear_value u)
    | ((fail_if_no_progress extract_lets +onlyGivenNames u); have v : Option _ := u; clear v; fail_if_success (have v : Option State := u); clear_value u)
    | (fail_if_no_progress extract_lets +onlyGivenNames u)
    | with_reducible refine State.genericNotice_ext (by decide) ?_
    | with_reducible refine State.generic_ext (by decide) ?_
    | with_reducible refine State.setOp_ext (by decide) ?_
    | with_reducible refine State.endItem_ext (by decide) ?_
    | split
    | (clear_value *; split)
    | (unfold t)
    | (unfold u; try beta_reduce)
    | (refine Ext.upd ?_ ?_ ?_ ?_ ?_ ?_ ?_ ?_ ?_ ?_ ?_ ?_ ?_ ?_ ?_ ?_ ?_ ?_ ?_ ?_ <;> first | rfl | exact fun _ => rfl | exact fun h => absurd h (by decide) | skip)

theorem State.stallSlots_ext {s : State} {p : Nat} {M₀ : Nat} {a₀ : State} (hM : Within 4 M₀) (h₀ : Ext M₀ a₀ s) :
    Ext M₀ a₀ (State.stallSlots s p) := by
  refine Ext.via hM h₀ ?_
  clear hM h₀ M₀ a₀
  suffices H : ∀ a₀, Ext 4 a₀ s → Ext 4 a₀ (State.stallSlots s p) from H s (Ext.refl _ _)
  intro a₀ h₀
  unfold State.stallSlots
  repeat' first
    | with_reducible assumption
    | (with_reducible intro _; intros; try beta_reduce)
    | with_reducible refine State.putB_ext (by decide) ?_
    | (with_reducible refine Ext.foldl _ ?_ ?_)
    | (with_reducible refine Ext.foldl_fst _ ?_ ?_)
    | split

theorem State.openBook_ext {s : State} {p step : Nat} {M₀ : Nat} {a₀ : State} (hM : Within 32768 M₀) (h₀ : Ext M₀ a₀ s) :
    Ext M₀ a₀ (State.openBook s p step) := by
  refine Ext.via hM h₀ ?_
  clear hM h₀ M₀ a₀
  suffices H : ∀ a₀, Ext 32768 a₀ s → Ext 32768 a₀ (State.openBook s p step) from H s (Ext.refl _ _)
  intro a₀ h₀
  unfold State.openBook
  repeat' first
    | with_reducible assumption
    | (with_reducible intro _; intros; try beta_reduce)
    | ((fail_if_no_progress extract_lets +onlyGivenNames t); refine Ext.cut (M := 32768) (a := a₀) (b := t) ?_ (fun ht => ?_); rotate_left; clear_value t)
    | ((fail_if_no_progress extract_lets +onlyGivenNames u); have v : Nat := u; clear v; clear_value u)
    | ((fail_if_no_progress extract_lets +onlyGivenNames u); have v : List _ := u; clear v; clear_value u)
    | ((fail_if_no_progress extract_lets +onlyGivenNames u); have v : Option _ := u; clear v; fail_if_success (have v : Option State := u); clear_value u)
    | (fail_if_no_progress extract_lets +onlyGivenNames u)
    | with_reducible refine State.setHealth_ext (by decide) ?_
    | split
    | (clear_value *; split)
    | (unfold t)
    | (unfold u; try beta_reduce)
    | (refine Ext.upd ?_ ?_ ?_ ?_ ?_ ?_ ?_ ?_ ?_ ?_ ?_ ?_ ?_ ?_ ?_ ?_ ?_ ?_ ?_ ?_ <;> first | rfl | exact fun _ => rfl | exact fun h => absurd h (by decide) | skip)

theorem State.refuse_ext {s : State} {p wq stamp code : Nat} {it : List Byte} {M₀ : Nat} {a₀ : State} (hM : Within 33222 M₀) (h₀ : Ext M₀ a₀ s) :
    Ext M₀ a₀ (State.refuse s p wq stamp code it) := by
  refine Ext.via hM h₀ ?_
  clear hM h₀ M₀ a₀
  suffices H : ∀ a₀, Ext 33222 a₀ s → Ext 33222 a₀ (State.refuse s p wq stamp code it) from H s (Ext.refl _ _)
  intro a₀ h₀
  unfold State.refuse
  repeat' first
    | with_reducible assumption
    | (with_reducible intro _; intros; try beta_reduce)
    | ((fail_if_no_progress extract_lets +onlyGivenNames t); refine Ext.cut (M := 33222) (a := a₀) (b := t) ?_ (fun ht => ?_); rotate_left; clear_value t)
    | ((fail_if_no_progress extract_lets +onlyGivenNames u); have v : Nat := u; clear v; clear_value u)
    | ((fail_if_no_progress extract_lets +onlyGivenNames u); have v : List _ := u; clear v; clear_value u)
    | ((fail_if_no_progress extract_lets +onlyGivenNames u); have v : Option _ := u; clear v; fail_if_success (have v : Option State := u); clear_value u)
    | (fail_if_no_progress extract_lets +onlyGivenNames u)
    | with_reducible refine State.put_ext (by decide) ?_
    | with_reducible refine State.generic_ext (by decide) ?_
    | with_reducible refine State.useFresh_ext (by decide) ?_
    | with_reducible refine State.post_ext (by decide) ?_
    | with_reducible refine State.genericNotice_ext (by decide) ?_
    | split
    | (clear_value *; split)
    | (unfold t)
    | (unfold u; try beta_reduce)

theorem State.joinLayer_ext {s : State} {p wq admitNo stamp ctr : Nat} {M₀ : Nat} {a₀ : State} (hM : Within 32772 M₀) (h₀ : Ext M₀ a₀ s) :
    Ext M₀ a₀ ((State.joinLayer s p wq admitNo stamp ctr).1) := by
  refine Ext.via hM h₀ ?_
  clear hM h₀ M₀ a₀
  suffices H : ∀ a₀, Ext 32772 a₀ s → Ext 32772 a₀ ((State.joinLayer s p wq admitNo stamp ctr).1) from H s (Ext.refl _ _)
  intro a₀ h₀
  unfold State.joinLayer
  repeat' first
    | with_reducible assumption
    | (with_reducible intro _; intros; try beta_reduce)
    | ((fail_if_no_progress extract_lets +onlyGivenNames t); refine Ext.cut (M := 32772) (a := a₀) (b := t) ?_ (fun ht => ?_); rotate_left; clear_value t)
    | ((fail_if_no_progress extract_lets +onlyGivenNames u); have v : Nat := u; clear v; clear_value u)
    | ((fail_if_no_progress extract_lets +onlyGivenNames u); have v : List _ := u; clear v; clear_value u)
    | ((fail_if_no_progress extract_lets +onlyGivenNames u); have v : Option _ := u; clear v; fail_if_success (have v : Option State := u); clear_value u)
    | (fail_if_no_progress extract_lets +onlyGivenNames u)
    | with_reducible refine State.setInst_ext (by decide) ?_
    | with_reducible refine State.ladOpenUpdate_ext (by decide) ?_
    | split
    | (clear_value *; split)
    | (unfold t)
    | (unfold u; try beta_reduce)
    | (refine Ext.upd ?_ ?_ ?_ ?_ ?_ ?_ ?_ ?_ ?_ ?_ ?_ ?_ ?_ ?_ ?_ ?_ ?_ ?_ ?_ ?_ <;> first | rfl | exact fun _ => rfl | exact fun h => absurd h (by decide) | skip)

theorem State.claimPrefetch_ext {s : State} {slot : Nat} {o : Op} {M₀ : Nat} {a₀ : State} (hM : Within 4100 M₀) (h₀ : Ext M₀ a₀ s) :
    Ext M₀ a₀ (State.claimPrefetch s slot o) := by
  refine Ext.via hM h₀ ?_
  clear hM h₀ M₀ a₀
  suffices H : ∀ a₀, Ext 4100 a₀ s → Ext 4100 a₀ (State.claimPrefetch s slot o) from H s (Ext.refl _ _)
  intro a₀ h₀
  unfold State.claimPrefetch
  repeat' first
    | with_reducible assumption
    | (with_reducible intro _; intros; try beta_reduce)
    | ((fail_if_no_progress extract_lets +onlyGivenNames t); refine Ext.cut (M := 4100) (a := a₀) (b := t) ?_ (fun ht => ?_); rotate_left; clear_value t)
    | ((fail_if_no_progress extract_lets +onlyGivenNames u); have v : Nat := u; clear v; clear_value u)
    | ((fail_if_no_progress extract_lets +onlyGivenNames u); have v : List _ := u; clear v; clear_value u)
    | ((fail_if_no_progress extract_lets +onlyGivenNames u); have v : Option _ := u; clear v; fail_if_success (have v : Option State := u); clear_value u)
    | (fail_if_no_progress extract_lets +onlyGivenNames u)
    | with_reducible refine State.setClaim_ext (by decide) ?_
    | (with_reducible refine Ext.foldl _ ?_ ?_)
    | (with_reducible refine Ext.foldl_fst _ ?_ ?_)
    | split
    | (clear_value *; split)
    | (unfold t)
    | (unfold u; try beta_reduce)

theorem State.countAdmit_ext {s : State} {M₀ : Nat} {a₀ : State} (hM : Within 64 M₀) (h₀ : Ext M₀ a₀ s) :
    Ext M₀ a₀ (State.countAdmit s) := by
  refine Ext.via hM h₀ ?_
  clear hM h₀ M₀ a₀
  suffices H : ∀ a₀, Ext 64 a₀ s → Ext 64 a₀ (State.countAdmit s) from H s (Ext.refl _ _)
  intro a₀ h₀
  unfold State.countAdmit
  repeat' first
    | with_reducible assumption
    | (with_reducible intro _; intros; try beta_reduce)
    | split
    | (refine Ext.upd ?_ ?_ ?_ ?_ ?_ ?_ ?_ ?_ ?_ ?_ ?_ ?_ ?_ ?_ ?_ ?_ ?_ ?_ ?_ ?_ <;> first | rfl | exact fun _ => rfl | exact fun h => absurd h (by decide) | skip)

theorem State.enterLayer_ext {s : State} {p wq n stamp : Nat} {it : List Byte} {list : Option Nat} {M₀ : Nat} {a₀ : State} (hM : Within 32772 M₀) (h₀ : Ext M₀ a₀ s) :
    Ext M₀ a₀ ((State.enterLayer s p wq n stamp it list).1) := by
  refine Ext.via hM h₀ ?_
  clear hM h₀ M₀ a₀
  suffices H : ∀ a₀, Ext 32772 a₀ s → Ext 32772 a₀ ((State.enterLayer s p wq n stamp it list).1) from H s (Ext.refl _ _)
  intro a₀ h₀
  unfold State.enterLayer
  repeat' first
    | with_reducible assumption
    | (with_reducible intro _; intros; try beta_reduce)
    | with_reducible refine State.setInst_ext (by decide) ?_
    | with_reducible refine State.joinLayer_ext (by decide) ?_
    | split
    | (refine Ext.upd ?_ ?_ ?_ ?_ ?_ ?_ ?_ ?_ ?_ ?_ ?_ ?_ ?_ ?_ ?_ ?_ ?_ ?_ ?_ ?_ <;> first | rfl | exact fun _ => rfl | exact fun h => absurd h (by decide) | skip)

theorem State.enterAwl_ext {s : State} {p n stamp : Nat} {it : List Byte} {M₀ : Nat} {a₀ : State} (hM : Within 32768 M₀) (h₀ : Ext M₀ a₀ s) :
    Ext M₀ a₀ (State.enterAwl s p n stamp it) := by
  refine Ext.via hM h₀ ?_
  clear hM h₀ M₀ a₀
  suffices H : ∀ a₀, Ext 32768 a₀ s → Ext 32768 a₀ (State.enterAwl s p n stamp it) from H s (Ext.refl _ _)
  intro a₀ h₀
  unfold State.enterAwl
  repeat' first
    | with_reducible assumption
    | (with_reducible intro _; intros; try beta_reduce)
    | with_reducible refine State.setHealth_ext (by decide) ?_
    | split
    | (refine Ext.upd ?_ ?_ ?_ ?_ ?_ ?_ ?_ ?_ ?_ ?_ ?_ ?_ ?_ ?_ ?_ ?_ ?_ ?_ ?_ ?_ <;> first | rfl | exact fun _ => rfl | exact fun h => absurd h (by decide) | skip)

theorem State.enterStep_ext {s : State} {p n stamp : Nat} {it : List Byte} {M₀ : Nat} {a₀ : State} (hM : Within 32836 M₀) (h₀ : Ext M₀ a₀ s) :
    Ext M₀ a₀ (State.enterStep s p n stamp it) := by
  refine Ext.via hM h₀ ?_
  clear hM h₀ M₀ a₀
  suffices H : ∀ a₀, Ext 32836 a₀ s → Ext 32836 a₀ (State.enterStep s p n stamp it) from H s (Ext.refl _ _)
  intro a₀ h₀
  unfold State.enterStep
  repeat' first
    | with_reducible assumption
    | (with_reducible intro _; intros; try beta_reduce)
    | ((fail_if_no_progress extract_lets +onlyGivenNames t); refine Ext.cut (M := 32836) (a := a₀) (b := t) ?_ (fun ht => ?_); rotate_left; clear_value t)
    | ((fail_if_no_progress extract_lets +onlyGivenNames u); have v : Nat := u; clear v; clear_value u)
    | ((fail_if_no_progress extract_lets +onlyGivenNames u); have v : List _ := u; clear v; clear_value u)
    | ((fail_if_no_progress extract_lets +onlyGivenNames u); have v : Option _ := u; clear v; fail_if_success (have v : Option State := u); clear_value u)
    | (fail_if_no_progress extract_lets +onlyGivenNames u)
    | with_reducible refine State.setPart_ext (by decide) ?_
    | with_reducible refine State.mapBook_ext (by decide) ?_
    | with_reducible refine State.wr_ext (by decide) ?_
    | with_reducible refine State.putB_ext (by decide) ?_
    | split
    | (clear_value *; split)
    | (unfold t)
    | (unfold u; try beta_reduce)
    | (refine Ext.upd ?_ ?_ ?_ ?_ ?_ ?_ ?_ ?_ ?_ ?_ ?_ ?_ ?_ ?_ ?_ ?_ ?_ ?_ ?_ ?_ <;> first | rfl | exact fun _ => rfl | exact fun h => absurd h (by decide) | skip)

theorem State.enter_ext {s : State} {p slot wq index stamp : Nat} {it : List Byte} {list : Option Nat} {M₀ : Nat} {a₀ : State} (hM : Within 36932 M₀) (h₀ : Ext M₀ a₀ s) :
    Ext M₀ a₀ (State.enter s p slot wq index stamp it list) := by
  refine Ext.via hM h₀ ?_
  clear hM h₀ M₀ a₀
  suffices H : ∀ a₀, Ext 36932 a₀ s → Ext 36932 a₀ (State.enter s p slot wq index stamp it list) from H s (Ext.refl _ _)
  intro a₀ h₀
  unfold State.enter
  repeat' first
    | with_reducible assumption
    | (with_reducible intro _; intros; try beta_reduce)
    | ((fail_if_no_progress extract_lets +onlyGivenNames t); refine Ext.cut (M := 36932) (a := a₀) (b := t) ?_ (fun ht => ?_); rotate_left; clear_value t)
    | ((fail_if_no_progress extract_lets +onlyGivenNames u); have v : Nat := u; clear v; clear_value u)
    | ((fail_if_no_progress extract_lets +onlyGivenNames u); have v : List _ := u; clear v; clear_value u)
    | ((fail_if_no_progress extract_lets +onlyGivenNames u); have v : Option _ := u; clear v; fail_if_success (have v : Option State := u); clear_value u)
    | (fail_if_no_progress extract_lets +onlyGivenNames u)
    | with_reducible refine State.countAdmit_ext (by decide) ?_
    | with_reducible refine State.enterLayer_ext (by decide) ?_
    | with_reducible refine State.setOp_ext (by decide) ?_
    | with_reducible refine State.setStatus_ext (by decide) ?_
    | with_reducible refine State.tableShow_ext (by decide) ?_
    | with_reducible refine State.bindCtx_ext (by decide) ?_
    | with_reducible refine State.enterAwl_ext (by decide) ?_
    | with_reducible refine State.claimPrefetch_ext (by decide) ?_
    | with_reducible refine State.enterStep_ext (by decide) ?_
    | with_reducible refine State.wake_ext (by decide) ?_
    | (with_reducible refine Ext.foldl _ ?_ ?_)
    | (with_reducible refine Ext.foldl_fst _ ?_ ?_)
    | split
    | (clear_value *; split)
    | (unfold t)
    | (unfold u; try beta_reduce)

theorem State.endReplay_ext {s : State} {p : Nat} {M₀ : Nat} {a₀ : State} (hM : Within 131140 M₀) (h₀ : Ext M₀ a₀ s) :
    Ext M₀ a₀ (State.endReplay s p) := by
  refine Ext.via hM h₀ ?_
  clear hM h₀ M₀ a₀
  suffices H : ∀ a₀, Ext 131140 a₀ s → Ext 131140 a₀ (State.endReplay s p) from H s (Ext.refl _ _)
  intro a₀ h₀
  unfold State.endReplay
  repeat' first
    | with_reducible assumption
    | (with_reducible intro _; intros; try beta_reduce)
    | with_reducible refine State.setPart_ext (by decide) ?_
    | with_reducible refine State.put_ext (by decide) ?_
    | with_reducible refine State.ringReplay_ext (by decide) ?_
    | split
    | (refine Ext.upd ?_ ?_ ?_ ?_ ?_ ?_ ?_ ?_ ?_ ?_ ?_ ?_ ?_ ?_ ?_ ?_ ?_ ?_ ?_ ?_ <;> first | rfl | exact fun _ => rfl | exact fun h => absurd h (by decide) | skip)

theorem State.replayCheck_ext {s : State} {p wq : Nat} {it : List Byte} {M₀ : Nat} {a₀ : State} (hM : Within 131268 M₀) (h₀ : Ext M₀ a₀ s) :
    Ext M₀ a₀ ((State.replayCheck s p wq it).1) := by
  unfold State.replayCheck
  cases (s.part p).replay with
  | none => exact h₀
  | some r =>
    cases hl : r.log with
    | nil => simpa only [hl] using h₀
    | cons e rest =>
      simp only [hl]
      by_cases hc : fieldLE e 0 1 = wq ∧ logMatches e it
      · simp only [if_pos hc]
        exact State.setPart_ext (Within.trans (by decide) hM) h₀
      · simp only [if_neg hc]
        exact State.event_ext (Within.trans (by decide) hM) (State.put_ext (Within.trans (by decide) hM)
          (State.endReplay_ext (Within.trans (by decide) hM) h₀))

theorem State.admitNo_ext {s : State} {p slot wq index addr : Nat} {list : Option Nat} {M₀ : Nat} {a₀ : State} (hM : Within 168390 M₀) (h₀ : Ext M₀ a₀ s) :
    Ext M₀ a₀ (State.admitNo s p slot wq index addr list) := by
  refine Ext.via hM h₀ ?_
  clear hM h₀ M₀ a₀
  suffices H : ∀ a₀, Ext 168390 a₀ s → Ext 168390 a₀ (State.admitNo s p slot wq index addr list) from H s (Ext.refl _ _)
  intro a₀ h₀
  unfold State.admitNo
  repeat' first
    | with_reducible assumption
    | (with_reducible intro _; intros; try beta_reduce)
    | ((fail_if_no_progress extract_lets +onlyGivenNames t); refine Ext.cut (M := 168390) (a := a₀) (b := t) ?_ (fun ht => ?_); rotate_left; clear_value t)
    | ((fail_if_no_progress extract_lets +onlyGivenNames F); refine Ext.cutF (M := 168390) (a := a₀) (F := F) ?_ (fun hF => ?_); rotate_left; clear_value F)
    | with_reducible refine hF _ ?_
    | ((fail_if_no_progress extract_lets +onlyGivenNames G); refine Ext.cutG (M := 168390) (a := a₀) (F := G) ?_ (fun hG => ?_); rotate_left; clear_value G)
    | with_reducible refine hG _ _ ?_
    | ((fail_if_no_progress extract_lets +onlyGivenNames H); refine Ext.cutH (M := 168390) (a := a₀) (F := H) ?_ (fun hH => ?_); rotate_left; clear_value H)
    | with_reducible refine hH _ _ _ ?_
    | ((fail_if_no_progress extract_lets +onlyGivenNames u); have v : Nat := u; clear v; clear_value u)
    | ((fail_if_no_progress extract_lets +onlyGivenNames u); have v : List _ := u; clear v; clear_value u)
    | ((fail_if_no_progress extract_lets +onlyGivenNames u); have v : Option _ := u; clear v; fail_if_success (have v : Option State := u); clear_value u)
    | (fail_if_no_progress extract_lets +onlyGivenNames u)
    | with_reducible refine State.setInst_ext (by decide) ?_
    | with_reducible refine State.put_ext (by decide) ?_
    | with_reducible refine State.genericNotice_ext (by decide) ?_
    | with_reducible refine State.replayCheck_ext (by decide) ?_
    | with_reducible refine State.openBook_ext (by decide) ?_
    | with_reducible refine State.mapBook_ext (by decide) ?_
    | with_reducible refine State.enter_ext (by decide) ?_
    | with_reducible refine State.refuse_ext (by decide) ?_
    | with_reducible refine State.countAdmit_ext (by decide) ?_
    | with_reducible refine State.joinLayer_ext (by decide) ?_
    | split
    | (clear_value *; split)
    | (unfold t)
    | (unfold u; try beta_reduce)
    | (unfold F; try beta_reduce)
    | (unfold G; try beta_reduce)
    | (unfold H; try beta_reduce)
    | (refine Ext.upd ?_ ?_ ?_ ?_ ?_ ?_ ?_ ?_ ?_ ?_ ?_ ?_ ?_ ?_ ?_ ?_ ?_ ?_ ?_ ?_ <;> first | rfl | exact fun _ => rfl | exact fun h => absurd h (by decide) | skip)

theorem admitItem_ext {p slot : Nat} {s : State} {M₀ : Nat} {a₀ : State} (hM : Within 168390 M₀) (h₀ : Ext M₀ a₀ s) :
    Ext M₀ a₀ (admitItem p slot s) := by
  refine Ext.via hM h₀ ?_
  clear hM h₀ M₀ a₀
  suffices H : ∀ a₀, Ext 168390 a₀ s → Ext 168390 a₀ (admitItem p slot s) from H s (Ext.refl _ _)
  intro a₀ h₀
  unfold admitItem
  repeat' first
    | with_reducible assumption
    | (with_reducible intro _; intros; try beta_reduce)
    | ((fail_if_no_progress extract_lets +onlyGivenNames t); refine Ext.cut (M := 168390) (a := a₀) (b := t) ?_ (fun ht => ?_); rotate_left; clear_value t)
    | ((fail_if_no_progress extract_lets +onlyGivenNames u); have v : Nat := u; clear v; clear_value u)
    | ((fail_if_no_progress extract_lets +onlyGivenNames u); have v : List _ := u; clear v; clear_value u)
    | ((fail_if_no_progress extract_lets +onlyGivenNames u); have v : Option _ := u; clear v; fail_if_success (have v : Option State := u); clear_value u)
    | (fail_if_no_progress extract_lets +onlyGivenNames u)
    | with_reducible refine State.setInst_ext (by decide) ?_
    | with_reducible refine State.useFresh_ext (by decide) ?_
    | with_reducible refine State.admitNo_ext (by decide) ?_
    | with_reducible refine State.stallSlots_ext (by decide) ?_
    | with_reducible refine State.wr_ext (by decide) ?_
    | with_reducible refine State.setPart_ext (by decide) ?_
    | split
    | (clear_value *; split)
    | (unfold t)
    | (unfold u; try beta_reduce)
    | (refine Ext.upd ?_ ?_ ?_ ?_ ?_ ?_ ?_ ?_ ?_ ?_ ?_ ?_ ?_ ?_ ?_ ?_ ?_ ?_ ?_ ?_ <;> first | rfl | exact fun _ => rfl | exact fun h => absurd h (by decide) | skip)

theorem State.abortRecord_ext {s : State} {wq tag cq result : Nat} {M₀ : Nat} {a₀ : State} (hM : Within 33222 M₀) (h₀ : Ext M₀ a₀ s) :
    Ext M₀ a₀ (State.abortRecord s wq tag cq result) := by
  refine Ext.via hM h₀ ?_
  clear hM h₀ M₀ a₀
  suffices H : ∀ a₀, Ext 33222 a₀ s → Ext 33222 a₀ (State.abortRecord s wq tag cq result) from H s (Ext.refl _ _)
  intro a₀ h₀
  unfold State.abortRecord
  repeat' first
    | with_reducible assumption
    | (with_reducible intro _; intros; try beta_reduce)
    | ((fail_if_no_progress extract_lets +onlyGivenNames t); refine Ext.cut (M := 33222) (a := a₀) (b := t) ?_ (fun ht => ?_); rotate_left; clear_value t)
    | ((fail_if_no_progress extract_lets +onlyGivenNames u); have v : Nat := u; clear v; clear_value u)
    | ((fail_if_no_progress extract_lets +onlyGivenNames u); have v : List _ := u; clear v; clear_value u)
    | ((fail_if_no_progress extract_lets +onlyGivenNames u); have v : Option _ := u; clear v; fail_if_success (have v : Option State := u); clear_value u)
    | (fail_if_no_progress extract_lets +onlyGivenNames u)
    | with_reducible refine State.post_ext (by decide) ?_
    | with_reducible refine State.useFresh_ext (by decide) ?_
    | split
    | (clear_value *; split)
    | (unfold t)
    | (unfold u; try beta_reduce)

theorem abortReq_ext {w : Writer} {wq tag cq : Nat} {s : State} {M₀ : Nat} {a₀ : State} (hM : Within 33222 M₀) (h₀ : Ext M₀ a₀ s) :
    Ext M₀ a₀ (abortReq w wq tag cq s) := by
  refine Ext.via hM h₀ ?_
  clear hM h₀ M₀ a₀
  suffices H : ∀ a₀, Ext 33222 a₀ s → Ext 33222 a₀ (abortReq w wq tag cq s) from H s (Ext.refl _ _)
  intro a₀ h₀
  unfold abortReq
  repeat' first
    | with_reducible assumption
    | (with_reducible intro _; intros; try beta_reduce)
    | ((fail_if_no_progress extract_lets +onlyGivenNames t); refine Ext.cut (M := 33222) (a := a₀) (b := t) ?_ (fun ht => ?_); rotate_left; clear_value t)
    | ((fail_if_no_progress extract_lets +onlyGivenNames u); have v : Nat := u; clear v; clear_value u)
    | ((fail_if_no_progress extract_lets +onlyGivenNames u); have v : List _ := u; clear v; clear_value u)
    | ((fail_if_no_progress extract_lets +onlyGivenNames u); have v : Option _ := u; clear v; fail_if_success (have v : Option State := u); clear_value u)
    | (fail_if_no_progress extract_lets +onlyGivenNames u)
    | with_reducible refine State.regWrite_ext (by decide) ?_ ?_
    | with_reducible refine State.badWrite_ext (by decide) ?_
    | with_reducible refine State.abortRecord_ext (by decide) ?_
    | with_reducible refine State.setStatus_ext (by decide) ?_
    | with_reducible refine State.setInst_ext (by decide) ?_
    | split
    | (clear_value *; split)
    | (unfold t)
    | (unfold u; try beta_reduce)
    | (refine Ext.upd ?_ ?_ ?_ ?_ ?_ ?_ ?_ ?_ ?_ ?_ ?_ ?_ ?_ ?_ ?_ ?_ ?_ ?_ ?_ ?_ <;> first | rfl | exact fun _ => rfl | exact fun h => absurd h (by decide) | skip)

theorem State.stopWork_ext {s : State} {slot : Nat} {o : Op} {M₀ : Nat} {a₀ : State} (hM : Within 496118 M₀) (h₀ : Ext M₀ a₀ s) :
    Ext M₀ a₀ (State.stopWork s slot o) := by
  refine Ext.via hM h₀ ?_
  clear hM h₀ M₀ a₀
  suffices H : ∀ a₀, Ext 496118 a₀ s → Ext 496118 a₀ (State.stopWork s slot o) from H s (Ext.refl _ _)
  intro a₀ h₀
  unfold State.stopWork
  repeat' first
    | with_reducible assumption
    | (with_reducible intro _; intros; try beta_reduce)
    | ((fail_if_no_progress extract_lets +onlyGivenNames t); refine Ext.cut (M := 496118) (a := a₀) (b := t) ?_ (fun ht => ?_); rotate_left; clear_value t)
    | ((fail_if_no_progress extract_lets +onlyGivenNames u); have v : Nat := u; clear v; clear_value u)
    | ((fail_if_no_progress extract_lets +onlyGivenNames u); have v : List _ := u; clear v; clear_value u)
    | ((fail_if_no_progress extract_lets +onlyGivenNames u); have v : Option _ := u; clear v; fail_if_success (have v : Option State := u); clear_value u)
    | (fail_if_no_progress extract_lets +onlyGivenNames u)
    | with_reducible refine State.admitNo_ext (by decide) ?_
    | with_reducible refine State.ringAbort_ext (by decide) ?_
    | with_reducible refine State.ringAbortUnissued_ext (by decide) ?_
    | with_reducible refine State.storeFree_ext (by decide) ?_
    | with_reducible refine State.setStop_ext (by decide) ?_
    | with_reducible refine State.put_ext (by decide) ?_
    | with_reducible refine State.setFlash_ext (by decide) ?_
    | with_reducible refine State.flashShow_ext (by decide) ?_
    | with_reducible refine State.setTwin_ext (by decide) ?_
    | (with_reducible refine Ext.foldl _ ?_ ?_)
    | (with_reducible refine Ext.foldl_fst _ ?_ ?_)
    | split
    | (clear_value *; split)
    | (unfold t)
    | (unfold u; try beta_reduce)
    | (refine Ext.upd ?_ ?_ ?_ ?_ ?_ ?_ ?_ ?_ ?_ ?_ ?_ ?_ ?_ ?_ ?_ ?_ ?_ ?_ ?_ ?_ <;> first | rfl | exact fun _ => rfl | exact fun h => absurd h (by decide) | skip)

theorem abortSafePoint_ext {slot : Nat} {s : State} {M₀ : Nat} {a₀ : State} (hM : Within 512502 M₀) (h₀ : Ext M₀ a₀ s) :
    Ext M₀ a₀ (abortSafePoint slot s) := by
  refine Ext.via hM h₀ ?_
  clear hM h₀ M₀ a₀
  suffices H : ∀ a₀, Ext 512502 a₀ s → Ext 512502 a₀ (abortSafePoint slot s) from H s (Ext.refl _ _)
  intro a₀ h₀
  unfold abortSafePoint
  repeat' first
    | with_reducible assumption
    | (with_reducible intro _; intros; try beta_reduce)
    | ((fail_if_no_progress extract_lets +onlyGivenNames t); refine Ext.cut (M := 512502) (a := a₀) (b := t) ?_ (fun ht => ?_); rotate_left; clear_value t)
    | ((fail_if_no_progress extract_lets +onlyGivenNames u); have v : Nat := u; clear v; clear_value u)
    | ((fail_if_no_progress extract_lets +onlyGivenNames u); have v : List _ := u; clear v; clear_value u)
    | ((fail_if_no_progress extract_lets +onlyGivenNames u); have v : Option _ := u; clear v; fail_if_success (have v : Option State := u); clear_value u)
    | (fail_if_no_progress extract_lets +onlyGivenNames u)
    | with_reducible refine State.stopWork_ext (by decide) ?_
    | with_reducible refine State.storeFree_ext (by decide) ?_
    | with_reducible refine State.retire_ext (by decide) ?_
    | (with_reducible refine Ext.foldl _ ?_ ?_)
    | (with_reducible refine Ext.foldl_fst _ ?_ ?_)
    | split
    | (clear_value *; split)
    | (unfold t)
    | (unfold u; try beta_reduce)

theorem ladderRiseAt_ext {p i : Nat} {s : State} {M₀ : Nat} {a₀ : State} (hM : Within 33012 M₀) (h₀ : Ext M₀ a₀ s) :
    Ext M₀ a₀ (ladderRiseAt p i s) := by
  refine Ext.via hM h₀ ?_
  clear hM h₀ M₀ a₀
  suffices H : ∀ a₀, Ext 33012 a₀ s → Ext 33012 a₀ (ladderRiseAt p i s) from H s (Ext.refl _ _)
  intro a₀ h₀
  unfold ladderRiseAt
  repeat' first
    | with_reducible assumption
    | (with_reducible intro _; intros; try beta_reduce)
    | with_reducible refine ladderRise_ext (by decide) ?_
    | split

theorem ladderInstanceClose_ext {p i : Nat} {s : State} {M₀ : Nat} {a₀ : State} (hM : Within 446966 M₀) (h₀ : Ext M₀ a₀ s) :
    Ext M₀ a₀ (ladderInstanceClose p i s) := by
  refine Ext.via hM h₀ ?_
  clear hM h₀ M₀ a₀
  suffices H : ∀ a₀, Ext 446966 a₀ s → Ext 446966 a₀ (ladderInstanceClose p i s) from H s (Ext.refl _ _)
  intro a₀ h₀
  unfold ladderInstanceClose
  repeat' first
    | with_reducible assumption
    | (with_reducible intro _; intros; try beta_reduce)
    | ((fail_if_no_progress extract_lets +onlyGivenNames t); refine Ext.cut (M := 446966) (a := a₀) (b := t) ?_ (fun ht => ?_); rotate_left; clear_value t)
    | ((fail_if_no_progress extract_lets +onlyGivenNames u); have v : Nat := u; clear v; clear_value u)
    | ((fail_if_no_progress extract_lets +onlyGivenNames u); have v : List _ := u; clear v; clear_value u)
    | ((fail_if_no_progress extract_lets +onlyGivenNames u); have v : Option _ := u; clear v; fail_if_success (have v : Option State := u); clear_value u)
    | (fail_if_no_progress extract_lets +onlyGivenNames u)
    | with_reducible refine State.setInst_ext (by decide) ?_
    | with_reducible refine State.admitNo_ext (by decide) ?_
    | with_reducible refine State.retire_ext (by decide) ?_
    | with_reducible refine State.setLadRung_ext (by decide) ?_
    | with_reducible refine State.ladOpenUpdate_ext (by decide) ?_
    | (with_reducible refine Ext.foldl _ ?_ ?_)
    | (with_reducible refine Ext.foldl_fst _ ?_ ?_)
    | split
    | (clear_value *; split)
    | (unfold t)
    | (unfold u; try beta_reduce)

theorem stepRecordWrite_ext {p : Nat} {s : State} {M₀ : Nat} {a₀ : State} (hM : Within 32948 M₀) (h₀ : Ext M₀ a₀ s) :
    Ext M₀ a₀ (stepRecordWrite p s) := by
  refine Ext.via hM h₀ ?_
  clear hM h₀ M₀ a₀
  suffices H : ∀ a₀, Ext 32948 a₀ s → Ext 32948 a₀ (stepRecordWrite p s) from H s (Ext.refl _ _)
  intro a₀ h₀
  unfold stepRecordWrite
  repeat' first
    | with_reducible assumption
    | (with_reducible intro _; intros; try beta_reduce)
    | ((fail_if_no_progress extract_lets +onlyGivenNames t); refine Ext.cut (M := 32948) (a := a₀) (b := t) ?_ (fun ht => ?_); rotate_left; clear_value t)
    | ((fail_if_no_progress extract_lets +onlyGivenNames u); have v : Nat := u; clear v; clear_value u)
    | ((fail_if_no_progress extract_lets +onlyGivenNames u); have v : List _ := u; clear v; clear_value u)
    | ((fail_if_no_progress extract_lets +onlyGivenNames u); have v : Option _ := u; clear v; fail_if_success (have v : Option State := u); clear_value u)
    | (fail_if_no_progress extract_lets +onlyGivenNames u)
    | with_reducible refine State.setHealth_ext (by decide) ?_
    | with_reducible refine State.tableWrite_ext (by decide) ?_
    | with_reducible refine State.wr_ext (by decide) ?_
    | split
    | (clear_value *; split)
    | (unfold t)
    | (unfold u; try beta_reduce)
    | (refine Ext.upd ?_ ?_ ?_ ?_ ?_ ?_ ?_ ?_ ?_ ?_ ?_ ?_ ?_ ?_ ?_ ?_ ?_ ?_ ?_ ?_ <;> first | rfl | exact fun _ => rfl | exact fun h => absurd h (by decide) | skip)

theorem State.freshStep_ext {s : State} {p step : Nat} {M₀ : Nat} {a₀ : State} (hM : Within 167936 M₀) (h₀ : Ext M₀ a₀ s) :
    Ext M₀ a₀ (State.freshStep s p step) := by
  refine Ext.via hM h₀ ?_
  clear hM h₀ M₀ a₀
  suffices H : ∀ a₀, Ext 167936 a₀ s → Ext 167936 a₀ (State.freshStep s p step) from H s (Ext.refl _ _)
  intro a₀ h₀
  unfold State.freshStep
  repeat' first
    | with_reducible assumption
    | (with_reducible intro _; intros; try beta_reduce)
    | ((fail_if_no_progress extract_lets +onlyGivenNames t); refine Ext.cut (M := 167936) (a := a₀) (b := t) ?_ (fun ht => ?_); rotate_left; clear_value t)
    | ((fail_if_no_progress extract_lets +onlyGivenNames u); have v : Nat := u; clear v; clear_value u)
    | ((fail_if_no_progress extract_lets +onlyGivenNames u); have v : List _ := u; clear v; clear_value u)
    | ((fail_if_no_progress extract_lets +onlyGivenNames u); have v : Option _ := u; clear v; fail_if_success (have v : Option State := u); clear_value u)
    | (fail_if_no_progress extract_lets +onlyGivenNames u)
    | split
    | (clear_value *; split)
    | (unfold t)
    | (unfold u; try beta_reduce)
    | (refine Ext.upd ?_ ?_ ?_ ?_ ?_ ?_ ?_ ?_ ?_ ?_ ?_ ?_ ?_ ?_ ?_ ?_ ?_ ?_ ?_ ?_ <;> first | rfl | exact fun _ => rfl | exact fun h => absurd h (by decide) | skip)

theorem replayEnable_ext {w : Writer} {n v : Nat} {s : State} {M₀ : Nat} {a₀ : State} (hM : Within 168132 M₀) (h₀ : Ext M₀ a₀ s) :
    Ext M₀ a₀ (replayEnable w n v s) := by
  refine Ext.via hM h₀ ?_
  clear hM h₀ M₀ a₀
  suffices H : ∀ a₀, Ext 168132 a₀ s → Ext 168132 a₀ (replayEnable w n v s) from H s (Ext.refl _ _)
  intro a₀ h₀
  unfold replayEnable
  repeat' first
    | with_reducible assumption
    | (with_reducible intro _; intros; try beta_reduce)
    | with_reducible refine State.regWrite_ext (by decide) ?_ ?_
    | with_reducible refine State.badWrite_ext (by decide) ?_
    | with_reducible refine State.setPart_ext (by decide) ?_
    | with_reducible refine State.ringReplay_ext (by decide) ?_
    | with_reducible refine State.writeFields_ext (by decide) ?_
    | with_reducible refine State.generic_ext (by decide) ?_
    | with_reducible refine State.freshStep_ext (by decide) ?_
    | split
    | (refine Ext.upd ?_ ?_ ?_ ?_ ?_ ?_ ?_ ?_ ?_ ?_ ?_ ?_ ?_ ?_ ?_ ?_ ?_ ?_ ?_ ?_ <;> first | rfl | exact fun _ => rfl | exact fun h => absurd h (by decide) | skip)

theorem rngSeedWrite_ext {w : Writer} {n v : Nat} {s : State} {M₀ : Nat} {a₀ : State} (hM : Within 132 M₀) (h₀ : Ext M₀ a₀ s) :
    Ext M₀ a₀ (rngSeedWrite w n v s) := by
  refine Ext.via hM h₀ ?_
  clear hM h₀ M₀ a₀
  suffices H : ∀ a₀, Ext 132 a₀ s → Ext 132 a₀ (rngSeedWrite w n v s) from H s (Ext.refl _ _)
  intro a₀ h₀
  unfold rngSeedWrite
  repeat' first
    | with_reducible assumption
    | (with_reducible intro _; intros; try beta_reduce)
    | with_reducible refine State.regWrite_ext (by decide) ?_ ?_
    | with_reducible refine State.badWrite_ext (by decide) ?_
    | with_reducible refine State.wr_ext (by decide) ?_
    | split

end Sys2Proof.Machine
end

