-- ==== Sys2Proof/Laws/ExtMapout.lean ====
section
/-!
SUPPORT. What each operation of Machine/Mapout.lean can change: one lemma each.
-/
namespace Sys2Proof.Machine

theorem State.failLost_ext {s : State} {M₀ : Nat} {a₀ : State} (hM : Within 512502 M₀) (h₀ : Ext M₀ a₀ s) :
    Ext M₀ a₀ (State.failLost s) := by
  refine Ext.via hM h₀ ?_
  clear hM h₀ M₀ a₀
  suffices H : ∀ a₀, Ext 512502 a₀ s → Ext 512502 a₀ (State.failLost s) from H s (Ext.refl _ _)
  intro a₀ h₀
  unfold State.failLost
  repeat' first
    | with_reducible assumption
    | (with_reducible intro _; intros; try beta_reduce)
    | with_reducible refine State.failMatmul_ext (by decide) ?_
    | with_reducible refine State.failKernel_ext (by decide) ?_
    | with_reducible refine State.stopWork_ext (by decide) ?_
    | with_reducible refine State.finish_ext (by decide) ?_
    | (with_reducible refine Ext.foldl _ ?_ ?_)
    | (with_reducible refine Ext.foldl_fst _ ?_ ?_)
    | split

theorem State.stackFail_ext {s : State} {h : Nat} {M₀ : Nat} {a₀ : State} (hM : Within 512502 M₀) (h₀ : Ext M₀ a₀ s) :
    Ext M₀ a₀ (State.stackFail s h) := by
  refine Ext.via hM h₀ ?_
  clear hM h₀ M₀ a₀
  suffices H : ∀ a₀, Ext 512502 a₀ s → Ext 512502 a₀ (State.stackFail s h) from H s (Ext.refl _ _)
  intro a₀ h₀
  unfold State.stackFail
  repeat' first
    | with_reducible assumption
    | (with_reducible intro _; intros; try beta_reduce)
    | ((fail_if_no_progress extract_lets +onlyGivenNames t); refine Ext.cut (M := 512502) (a := a₀) (b := t) ?_ (fun ht => ?_); rotate_left; clear_value t)
    | ((fail_if_no_progress extract_lets +onlyGivenNames u); have v : Nat := u; clear v; clear_value u)
    | ((fail_if_no_progress extract_lets +onlyGivenNames u); have v : List _ := u; clear v; clear_value u)
    | ((fail_if_no_progress extract_lets +onlyGivenNames u); have v : Option _ := u; clear v; fail_if_success (have v : Option State := u); clear_value u)
    | (fail_if_no_progress extract_lets +onlyGivenNames u)
    | with_reducible refine State.put_ext (by decide) ?_
    | with_reducible refine State.capacityUpdate_ext (by decide) ?_
    | with_reducible refine State.inventoryUpdate_ext (by decide) ?_
    | with_reducible refine State.event_ext (by decide) ?_
    | with_reducible refine State.sendNotice_ext (by decide) ?_
    | with_reducible refine State.failLost_ext (by decide) ?_
    | split
    | (clear_value *; split)
    | (unfold t)
    | (unfold u; try beta_reduce)

theorem State.startMapout_ext {s : State} {h c : Nat} {M₀ : Nat} {a₀ : State} (hM : Within 1561078 M₀) (h₀ : Ext M₀ a₀ s) :
    Ext M₀ a₀ (State.startMapout s h c) := by
  refine Ext.via hM h₀ ?_
  clear hM h₀ M₀ a₀
  suffices H : ∀ a₀, Ext 1561078 a₀ s → Ext 1561078 a₀ (State.startMapout s h c) from H s (Ext.refl _ _)
  intro a₀ h₀
  unfold State.startMapout
  repeat' first
    | with_reducible assumption
    | (with_reducible intro _; intros; try beta_reduce)
    | ((fail_if_no_progress extract_lets +onlyGivenNames t); refine Ext.cut (M := 1561078) (a := a₀) (b := t) ?_ (fun ht => ?_); rotate_left; clear_value t)
    | ((fail_if_no_progress extract_lets +onlyGivenNames u); have v : Nat := u; clear v; clear_value u)
    | ((fail_if_no_progress extract_lets +onlyGivenNames u); have v : List _ := u; clear v; clear_value u)
    | ((fail_if_no_progress extract_lets +onlyGivenNames u); have v : Option _ := u; clear v; fail_if_success (have v : Option State := u); clear_value u)
    | (fail_if_no_progress extract_lets +onlyGivenNames u)
    | with_reducible refine State.stackFail_ext (by decide) ?_
    | with_reducible refine State.put_ext (by decide) ?_
    | with_reducible refine State.owe_ext (by decide) ?_
    | with_reducible refine State.event_ext (by decide) ?_
    | split
    | (clear_value *; split)
    | (unfold t)
    | (unfold u; try beta_reduce)

theorem ueLimit_ext {n : Nat} {s : State} {M₀ : Nat} {a₀ : State} (hM : Within 1569270 M₀) (h₀ : Ext M₀ a₀ s) :
    Ext M₀ a₀ (ueLimit n s) := by
  refine Ext.via hM h₀ ?_
  clear hM h₀ M₀ a₀
  suffices H : ∀ a₀, Ext 1569270 a₀ s → Ext 1569270 a₀ (ueLimit n s) from H s (Ext.refl _ _)
  intro a₀ h₀
  unfold ueLimit
  repeat' first
    | with_reducible assumption
    | (with_reducible intro _; intros; try beta_reduce)
    | ((fail_if_no_progress extract_lets +onlyGivenNames t); refine Ext.cut (M := 1569270) (a := a₀) (b := t) ?_ (fun ht => ?_); rotate_left; clear_value t)
    | ((fail_if_no_progress extract_lets +onlyGivenNames u); have v : Nat := u; clear v; clear_value u)
    | ((fail_if_no_progress extract_lets +onlyGivenNames u); have v : List _ := u; clear v; clear_value u)
    | ((fail_if_no_progress extract_lets +onlyGivenNames u); have v : Option _ := u; clear v; fail_if_success (have v : Option State := u); clear_value u)
    | (fail_if_no_progress extract_lets +onlyGivenNames u)
    | with_reducible refine State.setUeTimes_ext (by decide) ?_
    | with_reducible refine State.startMapout_ext (by decide) ?_
    | split
    | (clear_value *; split)
    | (unfold t)
    | (unfold u; try beta_reduce)

theorem retrainEnd_ext {n : Nat} {ok : Bool} {s : State} {M₀ : Nat} {a₀ : State} (hM : Within 1569270 M₀) (h₀ : Ext M₀ a₀ s) :
    Ext M₀ a₀ (retrainEnd n ok s) := by
  refine Ext.via hM h₀ ?_
  clear hM h₀ M₀ a₀
  suffices H : ∀ a₀, Ext 1569270 a₀ s → Ext 1569270 a₀ (retrainEnd n ok s) from H s (Ext.refl _ _)
  intro a₀ h₀
  unfold retrainEnd
  repeat' first
    | with_reducible assumption
    | (with_reducible intro _; intros; try beta_reduce)
    | ((fail_if_no_progress extract_lets +onlyGivenNames t); refine Ext.cut (M := 1569270) (a := a₀) (b := t) ?_ (fun ht => ?_); rotate_left; clear_value t)
    | ((fail_if_no_progress extract_lets +onlyGivenNames u); have v : Nat := u; clear v; clear_value u)
    | ((fail_if_no_progress extract_lets +onlyGivenNames u); have v : List _ := u; clear v; clear_value u)
    | ((fail_if_no_progress extract_lets +onlyGivenNames u); have v : Option _ := u; clear v; fail_if_success (have v : Option State := u); clear_value u)
    | (fail_if_no_progress extract_lets +onlyGivenNames u)
    | with_reducible refine State.put_ext (by decide) ?_
    | with_reducible refine State.markTrained_ext (by decide) ?_
    | with_reducible refine State.startMapout_ext (by decide) ?_
    | with_reducible refine State.wantRetrain_ext (by decide) ?_
    | split
    | (clear_value *; split)
    | (unfold t)
    | (unfold u; try beta_reduce)

theorem writeMapoutReq_ext {w : Writer} {v : Nat} {s : State} {M₀ : Nat} {a₀ : State} (hM : Within 1561078 M₀) (h₀ : Ext M₀ a₀ s) :
    Ext M₀ a₀ (writeMapoutReq w v s) := by
  refine Ext.via hM h₀ ?_
  clear hM h₀ M₀ a₀
  suffices H : ∀ a₀, Ext 1561078 a₀ s → Ext 1561078 a₀ (writeMapoutReq w v s) from H s (Ext.refl _ _)
  intro a₀ h₀
  unfold writeMapoutReq
  repeat' first
    | with_reducible assumption
    | (with_reducible intro _; intros; try beta_reduce)
    | with_reducible refine State.badWrite_ext (by decide) ?_
    | with_reducible refine State.startMapout_ext (by decide) ?_
    | split

theorem writeMapoutAck_ext {w : Writer} {v : Nat} {s : State} {M₀ : Nat} {a₀ : State} (hM : Within 512502 M₀) (h₀ : Ext M₀ a₀ s) :
    Ext M₀ a₀ (writeMapoutAck w v s) := by
  refine Ext.via hM h₀ ?_
  clear hM h₀ M₀ a₀
  suffices H : ∀ a₀, Ext 512502 a₀ s → Ext 512502 a₀ (writeMapoutAck w v s) from H s (Ext.refl _ _)
  intro a₀ h₀
  unfold writeMapoutAck
  repeat' first
    | with_reducible assumption
    | (with_reducible intro _; intros; try beta_reduce)
    | ((fail_if_no_progress extract_lets +onlyGivenNames t); refine Ext.cut (M := 512502) (a := a₀) (b := t) ?_ (fun ht => ?_); rotate_left; clear_value t)
    | ((fail_if_no_progress extract_lets +onlyGivenNames u); have v : Nat := u; clear v; clear_value u)
    | ((fail_if_no_progress extract_lets +onlyGivenNames u); have v : List _ := u; clear v; clear_value u)
    | ((fail_if_no_progress extract_lets +onlyGivenNames u); have v : Option _ := u; clear v; fail_if_success (have v : Option State := u); clear_value u)
    | (fail_if_no_progress extract_lets +onlyGivenNames u)
    | with_reducible refine State.badWrite_ext (by decide) ?_
    | with_reducible refine State.put_ext (by decide) ?_
    | with_reducible refine State.capacityUpdate_ext (by decide) ?_
    | with_reducible refine State.failLost_ext (by decide) ?_
    | split
    | (clear_value *; split)
    | (unfold t)
    | (unfold u; try beta_reduce)

theorem Sparse.wf_foldl_marks {l : List Nat} {f : Nat → Nat → Nat} {n : Nat} {m : List (Nat × Bool)} (w : Sparse.wf poisonD m) :
    Sparse.wf poisonD (l.foldl (fun m r => (List.range n).foldl (fun m i => Sparse.put poisonD m (f r i) true) m) m) := by
  induction l generalizing m with
  | nil => exact w
  | cons r l ih => exact ih (Sparse.wf_foldl_put _ _ _ w)

theorem State.migrate_ext {s : State} {h x : Nat} {M₀ : Nat} {a₀ : State} (hM : Within 48 M₀) (h₀ : Ext M₀ a₀ s) : Ext M₀ a₀ (s.migrate h x) := by
  refine Ext.via hM h₀ ?_
  clear hM h₀ M₀ a₀
  unfold State.migrate
  extract_lets base dead mine dest lostRow kept mem keptP rows poison
  have hk : Sparse.wf memD s.mem → Sparse.wf memD kept := Sparse.wf_filter _
  have hp : Sparse.wf poisonD s.poison → Sparse.wf poisonD keptP := Sparse.wf_filter _
  split
  · exact Ext.stores (Ext.refl _ _) rfl rfl hk fun w => Sparse.wf_foldl_put _ _ _ (hp w)
  · exact Ext.stores (Ext.refl _ _) rfl rfl (fun w => Sparse.wf_foldl_put _ _ _ (hk w)) fun w => Sparse.wf_foldl_marks (hp w)

theorem mapoutCutover_ext {h : Nat} {s : State} {M₀ : Nat} {a₀ : State} (hM : Within 180 M₀) (h₀ : Ext M₀ a₀ s) :
    Ext M₀ a₀ (mapoutCutover h s) := by
  refine Ext.via hM h₀ ?_
  clear hM h₀ M₀ a₀
  suffices H : ∀ a₀, Ext 180 a₀ s → Ext 180 a₀ (mapoutCutover h s) from H s (Ext.refl _ _)
  intro a₀ h₀
  unfold mapoutCutover
  repeat' first
    | with_reducible assumption
    | (with_reducible intro _; intros; try beta_reduce)
    | ((fail_if_no_progress extract_lets +onlyGivenNames t); refine Ext.cut (M := 180) (a := a₀) (b := t) ?_ (fun ht => ?_); rotate_left; clear_value t)
    | ((fail_if_no_progress extract_lets +onlyGivenNames u); have v : Nat := u; clear v; clear_value u)
    | ((fail_if_no_progress extract_lets +onlyGivenNames u); have v : List _ := u; clear v; clear_value u)
    | ((fail_if_no_progress extract_lets +onlyGivenNames u); have v : Option _ := u; clear v; fail_if_success (have v : Option State := u); clear_value u)
    | (fail_if_no_progress extract_lets +onlyGivenNames u)
    | with_reducible refine State.migrate_ext (by decide) ?_
    | with_reducible refine State.bump_ext (by decide) ?_
    | with_reducible refine State.put_ext (by decide) ?_
    | with_reducible refine State.inventoryUpdate_ext (by decide) ?_
    | with_reducible refine State.event_ext (by decide) ?_
    | split
    | (clear_value *; split)
    | (unfold t)
    | (unfold u; try beta_reduce)

end Sys2Proof.Machine
end

