-- ==== Sys2Proof/Laws/ExtHost.lean ====
section
/-!
SUPPORT. What each operation of Machine/Host.lean can change: one lemma each.
-/
namespace Sys2Proof.Machine

theorem nonRoceFrame_ext {s : State} {M₀ : Nat} {a₀ : State} (hM : Within 4 M₀) (h₀ : Ext M₀ a₀ s) :
    Ext M₀ a₀ (nonRoceFrame s) := by
  refine Ext.via hM h₀ ?_
  clear hM h₀ M₀ a₀
  suffices H : ∀ a₀, Ext 4 a₀ s → Ext 4 a₀ (nonRoceFrame s) from H s (Ext.refl _ _)
  intro a₀ h₀
  unfold nonRoceFrame
  repeat' first
    | with_reducible assumption
    | (with_reducible intro _; intros; try beta_reduce)
    | with_reducible refine State.bumpSat_ext (by decide) ?_
    | split

theorem arpRequest_ext {fromMac fromIp target : Nat} {s : State} {M₀ : Nat} {a₀ : State} (hM : Within 260 M₀) (h₀ : Ext M₀ a₀ s) :
    Ext M₀ a₀ (arpRequest fromMac fromIp target s) := by
  refine Ext.via hM h₀ ?_
  clear hM h₀ M₀ a₀
  suffices H : ∀ a₀, Ext 260 a₀ s → Ext 260 a₀ (arpRequest fromMac fromIp target s) from H s (Ext.refl _ _)
  intro a₀ h₀
  unfold arpRequest
  repeat' first
    | with_reducible assumption
    | (with_reducible intro _; intros; try beta_reduce)
    | with_reducible refine State.emit_ext (by decide) ?_
    | with_reducible refine State.bumpSat_ext (by decide) ?_
    | split

theorem neighbourSolicitation_ext {fromMac : Nat} {fromIp target : List Byte} {s : State} {M₀ : Nat} {a₀ : State} (hM : Within 260 M₀) (h₀ : Ext M₀ a₀ s) :
    Ext M₀ a₀ (neighbourSolicitation fromMac fromIp target s) := by
  refine Ext.via hM h₀ ?_
  clear hM h₀ M₀ a₀
  suffices H : ∀ a₀, Ext 260 a₀ s → Ext 260 a₀ (neighbourSolicitation fromMac fromIp target s) from H s (Ext.refl _ _)
  intro a₀ h₀
  unfold neighbourSolicitation
  repeat' first
    | with_reducible assumption
    | (with_reducible intro _; intros; try beta_reduce)
    | with_reducible refine State.emit_ext (by decide) ?_
    | with_reducible refine State.bumpSat_ext (by decide) ?_
    | split

theorem State.arrive_ext {s : State} {q psn : Nat} {ce : Bool} {M₀ : Nat} {a₀ : State} (hM : Within 260 M₀) (h₀ : Ext M₀ a₀ s) :
    Ext M₀ a₀ ((State.arrive s q psn ce).1) := by
  refine Ext.via hM h₀ ?_
  clear hM h₀ M₀ a₀
  suffices H : ∀ a₀, Ext 260 a₀ s → Ext 260 a₀ ((State.arrive s q psn ce).1) from H s (Ext.refl _ _)
  intro a₀ h₀
  unfold State.arrive
  repeat' first
    | with_reducible assumption
    | (with_reducible intro _; intros; try beta_reduce)
    | ((fail_if_no_progress extract_lets +onlyGivenNames t); refine Ext.cut (M := 260) (a := a₀) (b := t) ?_ (fun ht => ?_); rotate_left; clear_value t)
    | ((fail_if_no_progress extract_lets +onlyGivenNames u); have v : Nat := u; clear v; clear_value u)
    | ((fail_if_no_progress extract_lets +onlyGivenNames u); have v : List _ := u; clear v; clear_value u)
    | ((fail_if_no_progress extract_lets +onlyGivenNames u); have v : Option _ := u; clear v; fail_if_success (have v : Option State := u); clear_value u)
    | (fail_if_no_progress extract_lets +onlyGivenNames u)
    | with_reducible refine State.bumpSat_ext (by decide) ?_
    | with_reducible refine State.setQp_ext (by decide) ?_
    | with_reducible refine State.emit_ext (by decide) ?_
    | split
    | (clear_value *; split)
    | (unfold t)
    | (unfold u; try beta_reduce)
    | (refine Ext.upd ?_ ?_ ?_ ?_ ?_ ?_ ?_ ?_ ?_ ?_ ?_ ?_ ?_ ?_ ?_ ?_ ?_ ?_ ?_ ?_ <;> first | rfl | exact fun _ => rfl | exact fun h => absurd h (by decide) | skip)

theorem State.takePsn_ext {s : State} {q n : Nat} {M₀ : Nat} {a₀ : State} (hM : Within 4 M₀) (h₀ : Ext M₀ a₀ s) :
    Ext M₀ a₀ (State.takePsn s q n) := by
  refine Ext.via hM h₀ ?_
  clear hM h₀ M₀ a₀
  suffices H : ∀ a₀, Ext 4 a₀ s → Ext 4 a₀ (State.takePsn s q n) from H s (Ext.refl _ _)
  intro a₀ h₀
  unfold State.takePsn
  repeat' first
    | with_reducible assumption
    | (with_reducible intro _; intros; try beta_reduce)
    | with_reducible refine State.put_ext (by decide) ?_
    | split

theorem State.qpError_ext {s : State} {q code : Nat} {M₀ : Nat} {a₀ : State} (hM : Within 263620 M₀) (h₀ : Ext M₀ a₀ s) :
    Ext M₀ a₀ (State.qpError s q code) := by
  refine Ext.via hM h₀ ?_
  clear hM h₀ M₀ a₀
  suffices H : ∀ a₀, Ext 263620 a₀ s → Ext 263620 a₀ (State.qpError s q code) from H s (Ext.refl _ _)
  intro a₀ h₀
  unfold State.qpError
  repeat' first
    | with_reducible assumption
    | (with_reducible intro _; intros; try beta_reduce)
    | ((fail_if_no_progress extract_lets +onlyGivenNames t); refine Ext.cut (M := 263620) (a := a₀) (b := t) ?_ (fun ht => ?_); rotate_left; clear_value t)
    | ((fail_if_no_progress extract_lets +onlyGivenNames u); have v : Nat := u; clear v; clear_value u)
    | ((fail_if_no_progress extract_lets +onlyGivenNames u); have v : List _ := u; clear v; clear_value u)
    | ((fail_if_no_progress extract_lets +onlyGivenNames u); have v : Option _ := u; clear v; fail_if_success (have v : Option State := u); clear_value u)
    | (fail_if_no_progress extract_lets +onlyGivenNames u)
    | with_reducible refine State.setQp_ext (by decide) ?_
    | with_reducible refine State.put_ext (by decide) ?_
    | with_reducible refine State.generic_ext (by decide) ?_
    | with_reducible refine State.endShips_ext (by decide) ?_
    | with_reducible refine State.restoreEnd_ext (by decide) ?_
    | split
    | (clear_value *; split)
    | (unfold t)
    | (unfold u; try beta_reduce)
    | (refine Ext.upd ?_ ?_ ?_ ?_ ?_ ?_ ?_ ?_ ?_ ?_ ?_ ?_ ?_ ?_ ?_ ?_ ?_ ?_ ?_ ?_ <;> first | rfl | exact fun _ => rfl | exact fun h => absurd h (by decide) | skip)

theorem incomingSend_ext {q psn : Nat} {ce : Bool} {s : State} {M₀ : Nat} {a₀ : State} (hM : Within 263620 M₀) (h₀ : Ext M₀ a₀ s) :
    Ext M₀ a₀ (incomingSend q psn ce s) := by
  refine Ext.via hM h₀ ?_
  clear hM h₀ M₀ a₀
  suffices H : ∀ a₀, Ext 263620 a₀ s → Ext 263620 a₀ (incomingSend q psn ce s) from H s (Ext.refl _ _)
  intro a₀ h₀
  unfold incomingSend
  repeat' first
    | with_reducible assumption
    | (with_reducible intro _; intros; try beta_reduce)
    | ((fail_if_no_progress extract_lets +onlyGivenNames t); refine Ext.cut (M := 263620) (a := a₀) (b := t) ?_ (fun ht => ?_); rotate_left; clear_value t)
    | ((fail_if_no_progress extract_lets +onlyGivenNames u); have v : Nat := u; clear v; clear_value u)
    | ((fail_if_no_progress extract_lets +onlyGivenNames u); have v : List _ := u; clear v; clear_value u)
    | ((fail_if_no_progress extract_lets +onlyGivenNames u); have v : Option _ := u; clear v; fail_if_success (have v : Option State := u); clear_value u)
    | (fail_if_no_progress extract_lets +onlyGivenNames u)
    | with_reducible refine State.arrive_ext (by decide) ?_
    | with_reducible refine State.emit_ext (by decide) ?_
    | with_reducible refine State.qpError_ext (by decide) ?_
    | split
    | (clear_value *; split)
    | (unfold t)
    | (unfold u; try beta_reduce)

theorem State.progress_ext {s : State} {q : Nat} {M₀ : Nat} {a₀ : State} (hM : Within 262212 M₀) (h₀ : Ext M₀ a₀ s) :
    Ext M₀ a₀ (State.progress s q) := by
  refine Ext.via hM h₀ ?_
  clear hM h₀ M₀ a₀
  suffices H : ∀ a₀, Ext 262212 a₀ s → Ext 262212 a₀ (State.progress s q) from H s (Ext.refl _ _)
  intro a₀ h₀
  unfold State.progress
  repeat' first
    | with_reducible assumption
    | (with_reducible intro _; intros; try beta_reduce)
    | with_reducible refine State.endShips_ext (by decide) ?_
    | split

theorem State.acknowledge_ext {s : State} {q psn : Nat} {M₀ : Nat} {a₀ : State} (hM : Within 262468 M₀) (h₀ : Ext M₀ a₀ s) :
    Ext M₀ a₀ (State.acknowledge s q psn) := by
  refine Ext.via hM h₀ ?_
  clear hM h₀ M₀ a₀
  suffices H : ∀ a₀, Ext 262468 a₀ s → Ext 262468 a₀ (State.acknowledge s q psn) from H s (Ext.refl _ _)
  intro a₀ h₀
  unfold State.acknowledge
  repeat' first
    | with_reducible assumption
    | (with_reducible intro _; intros; try beta_reduce)
    | ((fail_if_no_progress extract_lets +onlyGivenNames t); refine Ext.cut (M := 262468) (a := a₀) (b := t) ?_ (fun ht => ?_); rotate_left; clear_value t)
    | ((fail_if_no_progress extract_lets +onlyGivenNames u); have v : Nat := u; clear v; clear_value u)
    | ((fail_if_no_progress extract_lets +onlyGivenNames u); have v : List _ := u; clear v; clear_value u)
    | ((fail_if_no_progress extract_lets +onlyGivenNames u); have v : Option _ := u; clear v; fail_if_success (have v : Option State := u); clear_value u)
    | (fail_if_no_progress extract_lets +onlyGivenNames u)
    | with_reducible refine State.setQp_ext (by decide) ?_
    | with_reducible refine State.progress_ext (by decide) ?_
    | split
    | (clear_value *; split)
    | (unfold t)
    | (unfold u; try beta_reduce)
    | (refine Ext.upd ?_ ?_ ?_ ?_ ?_ ?_ ?_ ?_ ?_ ?_ ?_ ?_ ?_ ?_ ?_ ?_ ?_ ?_ ?_ ?_ <;> first | rfl | exact fun _ => rfl | exact fun h => absurd h (by decide) | skip)

theorem State.goBack_ext {s : State} {q psn : Nat} {M₀ : Nat} {a₀ : State} (hM : Within 263620 M₀) (h₀ : Ext M₀ a₀ s) :
    Ext M₀ a₀ (State.goBack s q psn) := by
  refine Ext.via hM h₀ ?_
  clear hM h₀ M₀ a₀
  suffices H : ∀ a₀, Ext 263620 a₀ s → Ext 263620 a₀ (State.goBack s q psn) from H s (Ext.refl _ _)
  intro a₀ h₀
  unfold State.goBack
  repeat' first
    | with_reducible assumption
    | (with_reducible intro _; intros; try beta_reduce)
    | ((fail_if_no_progress extract_lets +onlyGivenNames t); refine Ext.cut (M := 263620) (a := a₀) (b := t) ?_ (fun ht => ?_); rotate_left; clear_value t)
    | ((fail_if_no_progress extract_lets +onlyGivenNames u); have v : Nat := u; clear v; clear_value u)
    | ((fail_if_no_progress extract_lets +onlyGivenNames u); have v : List _ := u; clear v; clear_value u)
    | ((fail_if_no_progress extract_lets +onlyGivenNames u); have v : Option _ := u; clear v; fail_if_success (have v : Option State := u); clear_value u)
    | (fail_if_no_progress extract_lets +onlyGivenNames u)
    | with_reducible refine State.qpError_ext (by decide) ?_
    | with_reducible refine State.setQp_ext (by decide) ?_
    | with_reducible refine State.bumpSat_ext (by decide) ?_
    | with_reducible refine State.emit_ext (by decide) ?_
    | (with_reducible refine Ext.foldl _ ?_ ?_)
    | (with_reducible refine Ext.foldl_fst _ ?_ ?_)
    | split
    | (clear_value *; split)
    | (unfold t)
    | (unfold u; try beta_reduce)
    | (refine Ext.upd ?_ ?_ ?_ ?_ ?_ ?_ ?_ ?_ ?_ ?_ ?_ ?_ ?_ ?_ ?_ ?_ ?_ ?_ ?_ ?_ <;> first | rfl | exact fun _ => rfl | exact fun h => absurd h (by decide) | skip)

theorem acknowledgeCmd_ext {q psn : Nat} {nak : Option NakKind} {s : State} {M₀ : Nat} {a₀ : State} (hM : Within 263622 M₀) (h₀ : Ext M₀ a₀ s) :
    Ext M₀ a₀ (acknowledgeCmd q psn nak s) := by
  refine Ext.via hM h₀ ?_
  clear hM h₀ M₀ a₀
  suffices H : ∀ a₀, Ext 263622 a₀ s → Ext 263622 a₀ (acknowledgeCmd q psn nak s) from H s (Ext.refl _ _)
  intro a₀ h₀
  unfold acknowledgeCmd
  repeat' first
    | with_reducible assumption
    | (with_reducible intro _; intros; try beta_reduce)
    | with_reducible refine State.bumpSat_ext (by decide) ?_
    | with_reducible refine State.acknowledge_ext (by decide) ?_
    | with_reducible refine State.goBack_ext (by decide) ?_
    | with_reducible refine State.qpError_ext (by decide) ?_
    | with_reducible refine State.useFresh_ext (by decide) ?_
    | split

theorem readResponse_ext {q psn : Nat} {data : List Byte} {s : State} {M₀ : Nat} {a₀ : State} (hM : Within 262468 M₀) (h₀ : Ext M₀ a₀ s) :
    Ext M₀ a₀ (readResponse q psn data s) := by
  refine Ext.via hM h₀ ?_
  clear hM h₀ M₀ a₀
  suffices H : ∀ a₀, Ext 262468 a₀ s → Ext 262468 a₀ (readResponse q psn data s) from H s (Ext.refl _ _)
  intro a₀ h₀
  unfold readResponse
  repeat' first
    | with_reducible assumption
    | (with_reducible intro _; intros; try beta_reduce)
    | ((fail_if_no_progress extract_lets +onlyGivenNames t); refine Ext.cut (M := 262468) (a := a₀) (b := t) ?_ (fun ht => ?_); rotate_left; clear_value t)
    | ((fail_if_no_progress extract_lets +onlyGivenNames u); have v : Nat := u; clear v; clear_value u)
    | ((fail_if_no_progress extract_lets +onlyGivenNames u); have v : List _ := u; clear v; clear_value u)
    | ((fail_if_no_progress extract_lets +onlyGivenNames u); have v : Option _ := u; clear v; fail_if_success (have v : Option State := u); clear_value u)
    | (fail_if_no_progress extract_lets +onlyGivenNames u)
    | with_reducible refine State.bumpSat_ext (by decide) ?_
    | with_reducible refine State.setQp_ext (by decide) ?_
    | with_reducible refine State.restoreData_ext (by decide) ?_
    | with_reducible refine State.progress_ext (by decide) ?_
    | split
    | (clear_value *; split)
    | (unfold t)
    | (unfold u; try beta_reduce)
    | (refine Ext.upd ?_ ?_ ?_ ?_ ?_ ?_ ?_ ?_ ?_ ?_ ?_ ?_ ?_ ?_ ?_ ?_ ?_ ?_ ?_ ?_ <;> first | rfl | exact fun _ => rfl | exact fun h => absurd h (by decide) | skip)

theorem retransmitTimeout_ext {q : Nat} {s : State} {M₀ : Nat} {a₀ : State} (hM : Within 263620 M₀) (h₀ : Ext M₀ a₀ s) :
    Ext M₀ a₀ (retransmitTimeout q s) := by
  refine Ext.via hM h₀ ?_
  clear hM h₀ M₀ a₀
  suffices H : ∀ a₀, Ext 263620 a₀ s → Ext 263620 a₀ (retransmitTimeout q s) from H s (Ext.refl _ _)
  intro a₀ h₀
  unfold retransmitTimeout
  repeat' first
    | with_reducible assumption
    | (with_reducible intro _; intros; try beta_reduce)
    | ((fail_if_no_progress extract_lets +onlyGivenNames t); refine Ext.cut (M := 263620) (a := a₀) (b := t) ?_ (fun ht => ?_); rotate_left; clear_value t)
    | ((fail_if_no_progress extract_lets +onlyGivenNames u); have v : Nat := u; clear v; clear_value u)
    | ((fail_if_no_progress extract_lets +onlyGivenNames u); have v : List _ := u; clear v; clear_value u)
    | ((fail_if_no_progress extract_lets +onlyGivenNames u); have v : Option _ := u; clear v; fail_if_success (have v : Option State := u); clear_value u)
    | (fail_if_no_progress extract_lets +onlyGivenNames u)
    | with_reducible refine State.goBack_ext (by decide) ?_
    | split
    | (clear_value *; split)
    | (unfold t)
    | (unfold u; try beta_reduce)

theorem State.showRate_ext {s : State} {q : Nat} {M₀ : Nat} {a₀ : State} (hM : Within 4 M₀) (h₀ : Ext M₀ a₀ s) :
    Ext M₀ a₀ (State.showRate s q) := by
  refine Ext.via hM h₀ ?_
  clear hM h₀ M₀ a₀
  suffices H : ∀ a₀, Ext 4 a₀ s → Ext 4 a₀ (State.showRate s q) from H s (Ext.refl _ _)
  intro a₀ h₀
  unfold State.showRate
  repeat' first
    | with_reducible assumption
    | (with_reducible intro _; intros; try beta_reduce)
    | with_reducible refine State.put_ext (by decide) ?_
    | split

theorem cnpReceive_ext {q : Nat} {s : State} {M₀ : Nat} {a₀ : State} (hM : Within 260 M₀) (h₀ : Ext M₀ a₀ s) :
    Ext M₀ a₀ (cnpReceive q s) := by
  refine Ext.via hM h₀ ?_
  clear hM h₀ M₀ a₀
  suffices H : ∀ a₀, Ext 260 a₀ s → Ext 260 a₀ (cnpReceive q s) from H s (Ext.refl _ _)
  intro a₀ h₀
  unfold cnpReceive
  repeat' first
    | with_reducible assumption
    | (with_reducible intro _; intros; try beta_reduce)
    | ((fail_if_no_progress extract_lets +onlyGivenNames t); refine Ext.cut (M := 260) (a := a₀) (b := t) ?_ (fun ht => ?_); rotate_left; clear_value t)
    | ((fail_if_no_progress extract_lets +onlyGivenNames u); have v : Nat := u; clear v; clear_value u)
    | ((fail_if_no_progress extract_lets +onlyGivenNames u); have v : List _ := u; clear v; clear_value u)
    | ((fail_if_no_progress extract_lets +onlyGivenNames u); have v : Option _ := u; clear v; fail_if_success (have v : Option State := u); clear_value u)
    | (fail_if_no_progress extract_lets +onlyGivenNames u)
    | with_reducible refine State.bumpSat_ext (by decide) ?_
    | with_reducible refine State.setQp_ext (by decide) ?_
    | with_reducible refine State.showRate_ext (by decide) ?_
    | split
    | (clear_value *; split)
    | (unfold t)
    | (unfold u; try beta_reduce)
    | (refine Ext.upd ?_ ?_ ?_ ?_ ?_ ?_ ?_ ?_ ?_ ?_ ?_ ?_ ?_ ?_ ?_ ?_ ?_ ?_ ?_ ?_ <;> first | rfl | exact fun _ => rfl | exact fun h => absurd h (by decide) | skip)

theorem rateIncrease_ext {q : Nat} {s : State} {M₀ : Nat} {a₀ : State} (hM : Within 260 M₀) (h₀ : Ext M₀ a₀ s) :
    Ext M₀ a₀ (rateIncrease q s) := by
  refine Ext.via hM h₀ ?_
  clear hM h₀ M₀ a₀
  suffices H : ∀ a₀, Ext 260 a₀ s → Ext 260 a₀ (rateIncrease q s) from H s (Ext.refl _ _)
  intro a₀ h₀
  unfold rateIncrease
  repeat' first
    | with_reducible assumption
    | (with_reducible intro _; intros; try beta_reduce)
    | ((fail_if_no_progress extract_lets +onlyGivenNames t); refine Ext.cut (M := 260) (a := a₀) (b := t) ?_ (fun ht => ?_); rotate_left; clear_value t)
    | ((fail_if_no_progress extract_lets +onlyGivenNames u); have v : Nat := u; clear v; clear_value u)
    | ((fail_if_no_progress extract_lets +onlyGivenNames u); have v : List _ := u; clear v; clear_value u)
    | ((fail_if_no_progress extract_lets +onlyGivenNames u); have v : Option _ := u; clear v; fail_if_success (have v : Option State := u); clear_value u)
    | (fail_if_no_progress extract_lets +onlyGivenNames u)
    | with_reducible refine State.setQp_ext (by decide) ?_
    | with_reducible refine State.showRate_ext (by decide) ?_
    | split
    | (clear_value *; split)
    | (unfold t)
    | (unfold u; try beta_reduce)
    | (refine Ext.upd ?_ ?_ ?_ ?_ ?_ ?_ ?_ ?_ ?_ ?_ ?_ ?_ ?_ ?_ ?_ ?_ ?_ ?_ ?_ ?_ <;> first | rfl | exact fun _ => rfl | exact fun h => absurd h (by decide) | skip)

theorem State.qpStart_ext {s : State} {q : Nat} {M₀ : Nat} {a₀ : State} (hM : Within 37188 M₀) (h₀ : Ext M₀ a₀ s) :
    Ext M₀ a₀ (State.qpStart s q) := by
  refine Ext.via hM h₀ ?_
  clear hM h₀ M₀ a₀
  suffices H : ∀ a₀, Ext 37188 a₀ s → Ext 37188 a₀ (State.qpStart s q) from H s (Ext.refl _ _)
  intro a₀ h₀
  unfold State.qpStart
  repeat' first
    | with_reducible assumption
    | (with_reducible intro _; intros; try beta_reduce)
    | ((fail_if_no_progress extract_lets +onlyGivenNames t); refine Ext.cut (M := 37188) (a := a₀) (b := t) ?_ (fun ht => ?_); rotate_left; clear_value t)
    | ((fail_if_no_progress extract_lets +onlyGivenNames u); have v : Nat := u; clear v; clear_value u)
    | ((fail_if_no_progress extract_lets +onlyGivenNames u); have v : List _ := u; clear v; clear_value u)
    | ((fail_if_no_progress extract_lets +onlyGivenNames u); have v : Option _ := u; clear v; fail_if_success (have v : Option State := u); clear_value u)
    | (fail_if_no_progress extract_lets +onlyGivenNames u)
    | with_reducible refine State.setQp_ext (by decide) ?_
    | with_reducible refine State.showRate_ext (by decide) ?_
    | with_reducible refine State.request_ext (by decide) ?_
    | with_reducible refine State.flushQueues_ext (by decide) ?_
    | with_reducible refine State.settle_ext (by decide) ?_
    | (with_reducible refine Ext.foldl _ ?_ ?_)
    | (with_reducible refine Ext.foldl_fst _ ?_ ?_)
    | split
    | (clear_value *; split)
    | (unfold t)
    | (unfold u; try beta_reduce)
    | (refine Ext.upd ?_ ?_ ?_ ?_ ?_ ?_ ?_ ?_ ?_ ?_ ?_ ?_ ?_ ?_ ?_ ?_ ?_ ?_ ?_ ?_ <;> first | rfl | exact fun _ => rfl | exact fun h => absurd h (by decide) | skip)

theorem qpToReady_ext {w : Writer} {q v : Nat} {s : State} {M₀ : Nat} {a₀ : State} (hM : Within 37316 M₀) (h₀ : Ext M₀ a₀ s) :
    Ext M₀ a₀ (qpToReady w q v s) := by
  refine Ext.via hM h₀ ?_
  clear hM h₀ M₀ a₀
  suffices H : ∀ a₀, Ext 37316 a₀ s → Ext 37316 a₀ (qpToReady w q v s) from H s (Ext.refl _ _)
  intro a₀ h₀
  unfold qpToReady
  repeat' first
    | with_reducible assumption
    | (with_reducible intro _; intros; try beta_reduce)
    | ((fail_if_no_progress extract_lets +onlyGivenNames t); refine Ext.cut (M := 37316) (a := a₀) (b := t) ?_ (fun ht => ?_); rotate_left; clear_value t)
    | ((fail_if_no_progress extract_lets +onlyGivenNames u); have v : Nat := u; clear v; clear_value u)
    | ((fail_if_no_progress extract_lets +onlyGivenNames u); have v : List _ := u; clear v; clear_value u)
    | ((fail_if_no_progress extract_lets +onlyGivenNames u); have v : Option _ := u; clear v; fail_if_success (have v : Option State := u); clear_value u)
    | (fail_if_no_progress extract_lets +onlyGivenNames u)
    | with_reducible refine State.regWrite_ext (by decide) ?_ ?_
    | with_reducible refine State.badWrite_ext (by decide) ?_
    | with_reducible refine State.writeFields_ext (by decide) ?_
    | with_reducible refine State.put_ext (by decide) ?_
    | with_reducible refine State.qpStart_ext (by decide) ?_
    | split
    | (clear_value *; split)
    | (unfold t)
    | (unfold u; try beta_reduce)

theorem qpToReset_ext {w : Writer} {q v : Nat} {s : State} {M₀ : Nat} {a₀ : State} (hM : Within 263620 M₀) (h₀ : Ext M₀ a₀ s) :
    Ext M₀ a₀ (qpToReset w q v s) := by
  refine Ext.via hM h₀ ?_
  clear hM h₀ M₀ a₀
  suffices H : ∀ a₀, Ext 263620 a₀ s → Ext 263620 a₀ (qpToReset w q v s) from H s (Ext.refl _ _)
  intro a₀ h₀
  unfold qpToReset
  repeat' first
    | with_reducible assumption
    | (with_reducible intro _; intros; try beta_reduce)
    | ((fail_if_no_progress extract_lets +onlyGivenNames t); refine Ext.cut (M := 263620) (a := a₀) (b := t) ?_ (fun ht => ?_); rotate_left; clear_value t)
    | ((fail_if_no_progress extract_lets +onlyGivenNames u); have v : Nat := u; clear v; clear_value u)
    | ((fail_if_no_progress extract_lets +onlyGivenNames u); have v : List _ := u; clear v; clear_value u)
    | ((fail_if_no_progress extract_lets +onlyGivenNames u); have v : Option _ := u; clear v; fail_if_success (have v : Option State := u); clear_value u)
    | (fail_if_no_progress extract_lets +onlyGivenNames u)
    | with_reducible refine State.regWrite_ext (by decide) ?_ ?_
    | with_reducible refine State.badWrite_ext (by decide) ?_
    | with_reducible refine State.writeFields_ext (by decide) ?_
    | with_reducible refine State.setQp_ext (by decide) ?_
    | with_reducible refine State.endShips_ext (by decide) ?_
    | with_reducible refine State.restoreEnd_ext (by decide) ?_
    | split
    | (clear_value *; split)
    | (unfold t)
    | (unfold u; try beta_reduce)
    | (refine Ext.upd ?_ ?_ ?_ ?_ ?_ ?_ ?_ ?_ ?_ ?_ ?_ ?_ ?_ ?_ ?_ ?_ ?_ ?_ ?_ ?_ <;> first | rfl | exact fun _ => rfl | exact fun h => absurd h (by decide) | skip)

theorem State.newTag_ext {s : State} {k : Nat} {M₀ : Nat} {a₀ : State} (hM : Within 6 M₀) (h₀ : Ext M₀ a₀ s) :
    Ext M₀ a₀ (State.newTag s k) := by
  refine Ext.via hM h₀ ?_
  clear hM h₀ M₀ a₀
  suffices H : ∀ a₀, Ext 6 a₀ s → Ext 6 a₀ (State.newTag s k) from H s (Ext.refl _ _)
  intro a₀ h₀
  unfold State.newTag
  repeat' first
    | with_reducible assumption
    | (with_reducible intro _; intros; try beta_reduce)
    | with_reducible refine State.put_ext (by decide) ?_
    | with_reducible refine State.useFresh_ext (by decide) ?_
    | split

theorem mrWrite_ext {w : Writer} {k half v : Nat} {s : State} {M₀ : Nat} {a₀ : State} (hM : Within 134 M₀) (h₀ : Ext M₀ a₀ s) :
    Ext M₀ a₀ (mrWrite w k half v s) := by
  refine Ext.via hM h₀ ?_
  clear hM h₀ M₀ a₀
  suffices H : ∀ a₀, Ext 134 a₀ s → Ext 134 a₀ (mrWrite w k half v s) from H s (Ext.refl _ _)
  intro a₀ h₀
  unfold mrWrite
  repeat' first
    | with_reducible assumption
    | (with_reducible intro _; intros; try beta_reduce)
    | ((fail_if_no_progress extract_lets +onlyGivenNames t); refine Ext.cut (M := 134) (a := a₀) (b := t) ?_ (fun ht => ?_); rotate_left; clear_value t)
    | ((fail_if_no_progress extract_lets +onlyGivenNames u); have v : Nat := u; clear v; clear_value u)
    | ((fail_if_no_progress extract_lets +onlyGivenNames u); have v : List _ := u; clear v; clear_value u)
    | ((fail_if_no_progress extract_lets +onlyGivenNames u); have v : Option _ := u; clear v; fail_if_success (have v : Option State := u); clear_value u)
    | (fail_if_no_progress extract_lets +onlyGivenNames u)
    | with_reducible refine State.regWrite_ext (by decide) ?_ ?_
    | with_reducible refine State.badWrite_ext (by decide) ?_
    | with_reducible refine State.writeFields_ext (by decide) ?_
    | with_reducible refine State.newTag_ext (by decide) ?_
    | split
    | (clear_value *; split)
    | (unfold t)
    | (unfold u; try beta_reduce)

theorem hpLaneLoss_ext {s : State} {M₀ : Nat} {a₀ : State} (hM : Within 256 M₀) (h₀ : Ext M₀ a₀ s) :
    Ext M₀ a₀ (hpLaneLoss s) := by
  refine Ext.via hM h₀ ?_
  clear hM h₀ M₀ a₀
  suffices H : ∀ a₀, Ext 256 a₀ s → Ext 256 a₀ (hpLaneLoss s) from H s (Ext.refl _ _)
  intro a₀ h₀
  unfold hpLaneLoss
  repeat' first
    | with_reducible assumption
    | (with_reducible intro _; intros; try beta_reduce)
    | with_reducible refine State.setHp_ext (by decide) ?_
    | split
    | (refine Ext.upd ?_ ?_ ?_ ?_ ?_ ?_ ?_ ?_ ?_ ?_ ?_ ?_ ?_ ?_ ?_ ?_ ?_ ?_ ?_ ?_ <;> first | rfl | exact fun _ => rfl | exact fun h => absurd h (by decide) | skip)

theorem hpBringupRetry_ext {lock : Bool} {s : State} {M₀ : Nat} {a₀ : State} (hM : Within 2134340 M₀) (h₀ : Ext M₀ a₀ s) :
    Ext M₀ a₀ (hpBringupRetry lock s) := by
  refine Ext.via hM h₀ ?_
  clear hM h₀ M₀ a₀
  suffices H : ∀ a₀, Ext 2134340 a₀ s → Ext 2134340 a₀ (hpBringupRetry lock s) from H s (Ext.refl _ _)
  intro a₀ h₀
  unfold hpBringupRetry
  repeat' first
    | with_reducible assumption
    | (with_reducible intro _; intros; try beta_reduce)
    | ((fail_if_no_progress extract_lets +onlyGivenNames t); refine Ext.cut (M := 2134340) (a := a₀) (b := t) ?_ (fun ht => ?_); rotate_left; clear_value t)
    | ((fail_if_no_progress extract_lets +onlyGivenNames u); have v : Nat := u; clear v; clear_value u)
    | ((fail_if_no_progress extract_lets +onlyGivenNames u); have v : List _ := u; clear v; clear_value u)
    | ((fail_if_no_progress extract_lets +onlyGivenNames u); have v : Option _ := u; clear v; fail_if_success (have v : Option State := u); clear_value u)
    | (fail_if_no_progress extract_lets +onlyGivenNames u)
    | with_reducible refine State.setHp_ext (by decide) ?_
    | with_reducible refine State.setPins_ext (by decide) ?_
    | with_reducible refine State.put_ext (by decide) ?_
    | with_reducible refine State.qpStart_ext (by decide) ?_
    | with_reducible refine State.flushQueues_ext (by decide) ?_
    | with_reducible refine State.settle_ext (by decide) ?_
    | split
    | (clear_value *; split)
    | (unfold t)
    | (unfold u; try beta_reduce)
    | (refine Ext.upd ?_ ?_ ?_ ?_ ?_ ?_ ?_ ?_ ?_ ?_ ?_ ?_ ?_ ?_ ?_ ?_ ?_ ?_ ?_ ?_ <;> first | rfl | exact fun _ => rfl | exact fun h => absurd h (by decide) | skip)

end Sys2Proof.Machine
end

