-- ==== Sys2Proof/Laws/ExtBoot.lean ====
section
/-!
SUPPORT. What each operation of Machine/Boot.lean can change: one lemma each.
-/
namespace Sys2Proof.Machine

theorem State.setStage_ext {s : State} {n : Nat} {M₀ : Nat} {a₀ : State} (hM : Within 4 M₀) (h₀ : Ext M₀ a₀ s) :
    Ext M₀ a₀ (State.setStage s n) := by
  refine Ext.via hM h₀ ?_
  clear hM h₀ M₀ a₀
  suffices H : ∀ a₀, Ext 4 a₀ s → Ext 4 a₀ (State.setStage s n) from H s (Ext.refl _ _)
  intro a₀ h₀
  unfold State.setStage
  repeat' first
    | with_reducible assumption
    | (with_reducible intro _; intros; try beta_reduce)
    | with_reducible refine State.put_ext (by decide) ?_
    | split

theorem State.cutWrites_ext {s : State} {k j : Nat} {ws : List (Nat × List Byte)} {i : Nat} {M₀ : Nat} {a₀ : State} (hM : Within 1026 M₀) (h₀ : Ext M₀ a₀ s) :
    Ext M₀ a₀ (State.cutWrites s k j ws i) := by
  induction ws generalizing s i with
  | nil => exact h₀
  | cons w ws ih =>
    unfold State.cutWrites
    extract_lets n m
    exact ih (State.useFresh_ext (Within.trans (by decide) hM) (State.norWrite_ext (Within.trans (by decide) hM) h₀))

theorem State.cutNor_ext {s : State} {M₀ : Nat} {a₀ : State} (hM : Within 1026 M₀) (h₀ : Ext M₀ a₀ s) :
    Ext M₀ a₀ (State.cutNor s) := by
  refine Ext.via hM h₀ ?_
  clear hM h₀ M₀ a₀
  suffices H : ∀ a₀, Ext 1026 a₀ s → Ext 1026 a₀ (State.cutNor s) from H s (Ext.refl _ _)
  intro a₀ h₀
  unfold State.cutNor
  repeat' first
    | with_reducible assumption
    | (with_reducible intro _; intros; try beta_reduce)
    | ((fail_if_no_progress extract_lets +onlyGivenNames t); refine Ext.cut (M := 1026) (a := a₀) (b := t) ?_ (fun ht => ?_); rotate_left; clear_value t)
    | ((fail_if_no_progress extract_lets +onlyGivenNames u); have v : Nat := u; clear v; clear_value u)
    | ((fail_if_no_progress extract_lets +onlyGivenNames u); have v : List _ := u; clear v; clear_value u)
    | ((fail_if_no_progress extract_lets +onlyGivenNames u); have v : Option _ := u; clear v; fail_if_success (have v : Option State := u); clear_value u)
    | (fail_if_no_progress extract_lets +onlyGivenNames u)
    | with_reducible refine State.useFresh_ext (by decide) ?_
    | with_reducible refine State.cutWrites_ext (by decide) ?_
    | (with_reducible refine Ext.foldl _ ?_ ?_)
    | (with_reducible refine Ext.foldl_fst _ ?_ ?_)
    | split
    | (clear_value *; split)
    | (unfold t)
    | (unfold u; try beta_reduce)

theorem State.resetDevice_ext {s : State} {M₀ : Nat} {a₀ : State} (hM : Within 4194303 M₀) (h₀ : Ext M₀ a₀ s) : Ext M₀ a₀ (State.resetDevice s) := by
  have hc : Ext M₀ a₀ s.cutNor := State.cutNor_ext (Within.trans (by decide) hM) h₀
  refine Ext.via hM hc ?_
  unfold State.resetDevice
  extract_lets u t
  show Ext 4194303 u _
  clear_value u
  refine State.putB_ext (by decide) ?_
  constructor <;> first
    | rfl
    | exact fun h => absurd h (by decide)
    | exact fun _ h => h
    | exact Nat.le_refl _
    | exact fun _ => Sparse.wf_nil _

theorem resetAssert_ext {resetN : Bool} {s : State} {M₀ : Nat} {a₀ : State} (hM : Within 4194303 M₀) (h₀ : Ext M₀ a₀ s) :
    Ext M₀ a₀ (resetAssert resetN s) := by
  refine Ext.via hM h₀ ?_
  clear hM h₀ M₀ a₀
  suffices H : ∀ a₀, Ext 4194303 a₀ s → Ext 4194303 a₀ (resetAssert resetN s) from H s (Ext.refl _ _)
  intro a₀ h₀
  unfold resetAssert
  repeat' first
    | with_reducible assumption
    | (with_reducible intro _; intros; try beta_reduce)
    | ((fail_if_no_progress extract_lets +onlyGivenNames t); refine Ext.cut (M := 4194303) (a := a₀) (b := t) ?_ (fun ht => ?_); rotate_left; clear_value t)
    | ((fail_if_no_progress extract_lets +onlyGivenNames u); have v : Nat := u; clear v; clear_value u)
    | ((fail_if_no_progress extract_lets +onlyGivenNames u); have v : List _ := u; clear v; clear_value u)
    | ((fail_if_no_progress extract_lets +onlyGivenNames u); have v : Option _ := u; clear v; fail_if_success (have v : Option State := u); clear_value u)
    | (fail_if_no_progress extract_lets +onlyGivenNames u)
    | with_reducible refine State.resetDevice_ext (by decide) ?_
    | with_reducible refine State.setPins_ext (by decide) ?_
    | split
    | (clear_value *; split)
    | (unfold t)
    | (unfold u; try beta_reduce)
    | (refine Ext.upd ?_ ?_ ?_ ?_ ?_ ?_ ?_ ?_ ?_ ?_ ?_ ?_ ?_ ?_ ?_ ?_ ?_ ?_ ?_ ?_ <;> first | rfl | exact fun _ => rfl | exact fun h => absurd h (by decide) | skip)

theorem refclkStop_ext {s : State} {M₀ : Nat} {a₀ : State} (hM : Within 4194303 M₀) (h₀ : Ext M₀ a₀ s) :
    Ext M₀ a₀ (refclkStop s) := by
  refine Ext.via hM h₀ ?_
  clear hM h₀ M₀ a₀
  suffices H : ∀ a₀, Ext 4194303 a₀ s → Ext 4194303 a₀ (refclkStop s) from H s (Ext.refl _ _)
  intro a₀ h₀
  unfold refclkStop
  repeat' first
    | with_reducible assumption
    | (with_reducible intro _; intros; try beta_reduce)
    | ((fail_if_no_progress extract_lets +onlyGivenNames t); refine Ext.cut (M := 4194303) (a := a₀) (b := t) ?_ (fun ht => ?_); rotate_left; clear_value t)
    | ((fail_if_no_progress extract_lets +onlyGivenNames u); have v : Nat := u; clear v; clear_value u)
    | ((fail_if_no_progress extract_lets +onlyGivenNames u); have v : List _ := u; clear v; clear_value u)
    | ((fail_if_no_progress extract_lets +onlyGivenNames u); have v : Option _ := u; clear v; fail_if_success (have v : Option State := u); clear_value u)
    | (fail_if_no_progress extract_lets +onlyGivenNames u)
    | with_reducible refine State.resetDevice_ext (by decide) ?_
    | with_reducible refine State.setPins_ext (by decide) ?_
    | split
    | (clear_value *; split)
    | (unfold t)
    | (unfold u; try beta_reduce)
    | (refine Ext.upd ?_ ?_ ?_ ?_ ?_ ?_ ?_ ?_ ?_ ?_ ?_ ?_ ?_ ?_ ?_ ?_ ?_ ?_ ?_ ?_ <;> first | rfl | exact fun _ => rfl | exact fun h => absurd h (by decide) | skip)

theorem jtagInstruction_ext {i : Nat} {s : State} {M₀ : Nat} {a₀ : State} (hM : Within 2097152 M₀) (h₀ : Ext M₀ a₀ s) :
    Ext M₀ a₀ (jtagInstruction i s) := by
  refine Ext.via hM h₀ ?_
  clear hM h₀ M₀ a₀
  suffices H : ∀ a₀, Ext 2097152 a₀ s → Ext 2097152 a₀ (jtagInstruction i s) from H s (Ext.refl _ _)
  intro a₀ h₀
  unfold jtagInstruction
  repeat' first
    | with_reducible assumption
    | (with_reducible intro _; intros; try beta_reduce)
    | with_reducible refine State.setPins_ext (by decide) ?_
    | split
    | (refine Ext.upd ?_ ?_ ?_ ?_ ?_ ?_ ?_ ?_ ?_ ?_ ?_ ?_ ?_ ?_ ?_ ?_ ?_ ?_ ?_ ?_ <;> first | rfl | exact fun _ => rfl | exact fun h => absurd h (by decide) | skip)

theorem sdrefLoss_ext {cantle : Bool} {s : State} {M₀ : Nat} {a₀ : State} (hM : Within 2327030 M₀) (h₀ : Ext M₀ a₀ s) :
    Ext M₀ a₀ (sdrefLoss cantle s) := by
  refine Ext.via hM h₀ ?_
  clear hM h₀ M₀ a₀
  suffices H : ∀ a₀, Ext 2327030 a₀ s → Ext 2327030 a₀ (sdrefLoss cantle s) from H s (Ext.refl _ _)
  intro a₀ h₀
  unfold sdrefLoss
  repeat' first
    | with_reducible assumption
    | (with_reducible intro _; intros; try beta_reduce)
    | ((fail_if_no_progress extract_lets +onlyGivenNames t); refine Ext.cut (M := 2327030) (a := a₀) (b := t) ?_ (fun ht => ?_); rotate_left; clear_value t)
    | ((fail_if_no_progress extract_lets +onlyGivenNames u); have v : Nat := u; clear v; clear_value u)
    | ((fail_if_no_progress extract_lets +onlyGivenNames u); have v : List _ := u; clear v; clear_value u)
    | ((fail_if_no_progress extract_lets +onlyGivenNames u); have v : Option _ := u; clear v; fail_if_success (have v : Option State := u); clear_value u)
    | (fail_if_no_progress extract_lets +onlyGivenNames u)
    | with_reducible refine State.setPins_ext (by decide) ?_
    | with_reducible refine hpLaneLoss_ext (by decide) ?_
    | with_reducible refine lockTimeout_ext (by decide) ?_
    | with_reducible refine laneBad_ext (by decide) ?_
    | (with_reducible refine Ext.foldl _ ?_ ?_)
    | (with_reducible refine Ext.foldl_fst _ ?_ ?_)
    | split
    | (clear_value *; split)
    | (unfold t)
    | (unfold u; try beta_reduce)
    | (refine Ext.upd ?_ ?_ ?_ ?_ ?_ ?_ ?_ ?_ ?_ ?_ ?_ ?_ ?_ ?_ ?_ ?_ ?_ ?_ ?_ ?_ <;> first | rfl | exact fun _ => rfl | exact fun h => absurd h (by decide) | skip)

theorem State.enterRecovery_ext {s : State} {M₀ : Nat} {a₀ : State} (hM : Within 4 M₀) (h₀ : Ext M₀ a₀ s) :
    Ext M₀ a₀ (State.enterRecovery s) := by
  refine Ext.via hM h₀ ?_
  clear hM h₀ M₀ a₀
  suffices H : ∀ a₀, Ext 4 a₀ s → Ext 4 a₀ (State.enterRecovery s) from H s (Ext.refl _ _)
  intro a₀ h₀
  unfold State.enterRecovery
  repeat' first
    | with_reducible assumption
    | (with_reducible intro _; intros; try beta_reduce)
    | ((fail_if_no_progress extract_lets +onlyGivenNames t); refine Ext.cut (M := 4) (a := a₀) (b := t) ?_ (fun ht => ?_); rotate_left; clear_value t)
    | ((fail_if_no_progress extract_lets +onlyGivenNames u); have v : Nat := u; clear v; clear_value u)
    | ((fail_if_no_progress extract_lets +onlyGivenNames u); have v : List _ := u; clear v; clear_value u)
    | ((fail_if_no_progress extract_lets +onlyGivenNames u); have v : Option _ := u; clear v; fail_if_success (have v : Option State := u); clear_value u)
    | (fail_if_no_progress extract_lets +onlyGivenNames u)
    | with_reducible refine State.put_ext (by decide) ?_
    | with_reducible refine State.setStage_ext (by decide) ?_
    | split
    | (clear_value *; split)
    | (unfold t)
    | (unfold u; try beta_reduce)

theorem State.leadStarts_ext {s : State} {lead : Nat} {M₀ : Nat} {a₀ : State} (hM : Within 1028 M₀) (h₀ : Ext M₀ a₀ s) :
    Ext M₀ a₀ (State.leadStarts s lead) := by
  refine Ext.via hM h₀ ?_
  clear hM h₀ M₀ a₀
  suffices H : ∀ a₀, Ext 1028 a₀ s → Ext 1028 a₀ (State.leadStarts s lead) from H s (Ext.refl _ _)
  intro a₀ h₀
  unfold State.leadStarts
  repeat' first
    | with_reducible assumption
    | (with_reducible intro _; intros; try beta_reduce)
    | ((fail_if_no_progress extract_lets +onlyGivenNames t); refine Ext.cut (M := 1028) (a := a₀) (b := t) ?_ (fun ht => ?_); rotate_left; clear_value t)
    | ((fail_if_no_progress extract_lets +onlyGivenNames u); have v : Nat := u; clear v; clear_value u)
    | ((fail_if_no_progress extract_lets +onlyGivenNames u); have v : List _ := u; clear v; clear_value u)
    | ((fail_if_no_progress extract_lets +onlyGivenNames u); have v : Option _ := u; clear v; fail_if_success (have v : Option State := u); clear_value u)
    | (fail_if_no_progress extract_lets +onlyGivenNames u)
    | with_reducible refine State.put_ext (by decide) ?_
    | with_reducible refine State.setBoot_ext (by decide) ?_
    | with_reducible refine State.enterRecovery_ext (by decide) ?_
    | split
    | (clear_value *; split)
    | (unfold t)
    | (unfold u; try beta_reduce)
    | (refine Ext.upd ?_ ?_ ?_ ?_ ?_ ?_ ?_ ?_ ?_ ?_ ?_ ?_ ?_ ?_ ?_ ?_ ?_ ?_ ?_ ?_ <;> first | rfl | exact fun _ => rfl | exact fun h => absurd h (by decide) | skip)

theorem resetRelease_ext {straps : Nat} {ready claims : Bool} {s : State} {M₀ : Nat} {a₀ : State} (hM : Within 2098183 M₀) (h₀ : Ext M₀ a₀ s) :
    Ext M₀ a₀ (resetRelease straps ready claims s) := by
  refine Ext.via hM h₀ ?_
  clear hM h₀ M₀ a₀
  suffices H : ∀ a₀, Ext 2098183 a₀ s → Ext 2098183 a₀ (resetRelease straps ready claims s) from H s (Ext.refl _ _)
  intro a₀ h₀
  unfold resetRelease
  repeat' first
    | with_reducible assumption
    | (with_reducible intro _; intros; try beta_reduce)
    | ((fail_if_no_progress extract_lets +onlyGivenNames t); refine Ext.cut (M := 2098183) (a := a₀) (b := t) ?_ (fun ht => ?_); rotate_left; clear_value t)
    | ((fail_if_no_progress extract_lets +onlyGivenNames u); have v : Nat := u; clear v; clear_value u)
    | ((fail_if_no_progress extract_lets +onlyGivenNames u); have v : List _ := u; clear v; clear_value u)
    | ((fail_if_no_progress extract_lets +onlyGivenNames u); have v : Option _ := u; clear v; fail_if_success (have v : Option State := u); clear_value u)
    | (fail_if_no_progress extract_lets +onlyGivenNames u)
    | with_reducible refine State.setNow_ext (by decide) ?_
    | with_reducible refine State.setPins_ext (by decide) ?_
    | with_reducible refine State.wr_ext (by decide) ?_
    | with_reducible refine State.put_ext (by decide) ?_
    | with_reducible refine State.showFuses_ext (by decide) ?_
    | with_reducible refine State.extend_ext (by decide) ?_
    | with_reducible refine State.random_ext (by decide) ?_
    | with_reducible refine State.setStage_ext (by decide) ?_
    | with_reducible refine State.leadStarts_ext (by decide) ?_
    | split
    | (clear_value *; split)
    | (unfold t)
    | (unfold u; try beta_reduce)
    | (refine Ext.upd ?_ ?_ ?_ ?_ ?_ ?_ ?_ ?_ ?_ ?_ ?_ ?_ ?_ ?_ ?_ ?_ ?_ ?_ ?_ ?_ <;> first | rfl | exact fun _ => rfl | exact fun h => absurd h (by decide) | skip)

theorem leaseGrantTimeout_ext {s : State} {M₀ : Nat} {a₀ : State} (hM : Within 1028 M₀) (h₀ : Ext M₀ a₀ s) :
    Ext M₀ a₀ (leaseGrantTimeout s) := by
  refine Ext.via hM h₀ ?_
  clear hM h₀ M₀ a₀
  suffices H : ∀ a₀, Ext 1028 a₀ s → Ext 1028 a₀ (leaseGrantTimeout s) from H s (Ext.refl _ _)
  intro a₀ h₀
  unfold leaseGrantTimeout
  repeat' first
    | with_reducible assumption
    | (with_reducible intro _; intros; try beta_reduce)
    | ((fail_if_no_progress extract_lets +onlyGivenNames t); refine Ext.cut (M := 1028) (a := a₀) (b := t) ?_ (fun ht => ?_); rotate_left; clear_value t)
    | ((fail_if_no_progress extract_lets +onlyGivenNames u); have v : Nat := u; clear v; clear_value u)
    | ((fail_if_no_progress extract_lets +onlyGivenNames u); have v : List _ := u; clear v; clear_value u)
    | ((fail_if_no_progress extract_lets +onlyGivenNames u); have v : Option _ := u; clear v; fail_if_success (have v : Option State := u); clear_value u)
    | (fail_if_no_progress extract_lets +onlyGivenNames u)
    | with_reducible refine State.setBoot_ext (by decide) ?_
    | with_reducible refine State.leadStarts_ext (by decide) ?_
    | split
    | (clear_value *; split)
    | (unfold t)
    | (unfold u; try beta_reduce)
    | (refine Ext.upd ?_ ?_ ?_ ?_ ?_ ?_ ?_ ?_ ?_ ?_ ?_ ?_ ?_ ?_ ?_ ?_ ?_ ?_ ?_ ?_ <;> first | rfl | exact fun _ => rfl | exact fun h => absurd h (by decide) | skip)

theorem State.bootFail_ext {s : State} {r : Nat} {M₀ : Nat} {a₀ : State} (hM : Within 132 M₀) (h₀ : Ext M₀ a₀ s) :
    Ext M₀ a₀ (State.bootFail s r) := by
  refine Ext.via hM h₀ ?_
  clear hM h₀ M₀ a₀
  suffices H : ∀ a₀, Ext 132 a₀ s → Ext 132 a₀ (State.bootFail s r) from H s (Ext.refl _ _)
  intro a₀ h₀
  unfold State.bootFail
  repeat' first
    | with_reducible assumption
    | (with_reducible intro _; intros; try beta_reduce)
    | with_reducible refine State.setStage_ext (by decide) ?_
    | with_reducible refine State.generic_ext (by decide) ?_
    | split

theorem State.runImage_ext {s : State} {c : Nat} {d : Dir} {M₀ : Nat} {a₀ : State} (hM : Within 1028 M₀) (h₀ : Ext M₀ a₀ s) :
    Ext M₀ a₀ (State.runImage s c d) := by
  refine Ext.via hM h₀ ?_
  clear hM h₀ M₀ a₀
  suffices H : ∀ a₀, Ext 1028 a₀ s → Ext 1028 a₀ (State.runImage s c d) from H s (Ext.refl _ _)
  intro a₀ h₀
  unfold State.runImage
  repeat' first
    | with_reducible assumption
    | (with_reducible intro _; intros; try beta_reduce)
    | ((fail_if_no_progress extract_lets +onlyGivenNames t); refine Ext.cut (M := 1028) (a := a₀) (b := t) ?_ (fun ht => ?_); rotate_left; clear_value t)
    | ((fail_if_no_progress extract_lets +onlyGivenNames u); have v : Nat := u; clear v; clear_value u)
    | ((fail_if_no_progress extract_lets +onlyGivenNames u); have v : List _ := u; clear v; clear_value u)
    | ((fail_if_no_progress extract_lets +onlyGivenNames u); have v : Option _ := u; clear v; fail_if_success (have v : Option State := u); clear_value u)
    | (fail_if_no_progress extract_lets +onlyGivenNames u)
    | with_reducible refine State.setBoot_ext (by decide) ?_
    | with_reducible refine State.wr_ext (by decide) ?_
    | with_reducible refine State.put_ext (by decide) ?_
    | split
    | (clear_value *; split)
    | (unfold t)
    | (unfold u; try beta_reduce)
    | (refine Ext.upd ?_ ?_ ?_ ?_ ?_ ?_ ?_ ?_ ?_ ?_ ?_ ?_ ?_ ?_ ?_ ?_ ?_ ?_ ?_ ?_ <;> first | rfl | exact fun _ => rfl | exact fun h => absurd h (by decide) | skip)

theorem State.bootSection_ext {s : State} {d : Dir} {typ meas : Nat} {M₀ : Nat} {a₀ : State} (hM : Within 131076 M₀) (h₀ : Ext M₀ a₀ s) : OptExt M₀ a₀ (State.bootSection s d typ meas) := by
  unfold State.bootSection
  split
  · exact OptExt.some h₀
  · exact OptExt.map (State.applySection_ext (Within.trans (by decide) hM) h₀) fun u hu =>
      State.extend_ext (Within.trans (by decide) hM) hu

theorem norReadDone_ext {s : State} {M₀ : Nat} {a₀ : State} (hM : Within 132228 M₀) (h₀ : Ext M₀ a₀ s) :
    Ext M₀ a₀ (norReadDone s) := by
  refine Ext.via hM h₀ ?_
  clear hM h₀ M₀ a₀
  suffices H : ∀ a₀, Ext 132228 a₀ s → Ext 132228 a₀ (norReadDone s) from H s (Ext.refl _ _)
  intro a₀ h₀
  unfold norReadDone
  repeat' first
    | with_reducible assumption
    | (with_reducible intro _; intros; try beta_reduce)
    | ((fail_if_no_progress extract_lets +onlyGivenNames t); refine Ext.cut (M := 132228) (a := a₀) (b := t) ?_ (fun ht => ?_); rotate_left; clear_value t)
    | ((fail_if_no_progress extract_lets +onlyGivenNames u); have v : Nat := u; clear v; clear_value u)
    | ((fail_if_no_progress extract_lets +onlyGivenNames u); have v : List _ := u; clear v; clear_value u)
    | ((fail_if_no_progress extract_lets +onlyGivenNames u); have v : Option _ := u; clear v; fail_if_success (have v : Option State := u); clear_value u)
    | (fail_if_no_progress extract_lets +onlyGivenNames u)
    | with_reducible refine State.enterRecovery_ext (by decide) ?_
    | with_reducible refine State.runImage_ext (by decide) ?_
    | with_reducible refine State.extend_ext (by decide) ?_
    | with_reducible refine State.bootFail_ext (by decide) ?_
    | with_reducible refine State.setStage_ext (by decide) ?_
    | split
    | (clear_value *; split)
    | (unfold t)
    | with_reducible exact OptExt.out (State.bootSection_ext (M₀ := 132228) (a₀ := a₀) (by decide) (by assumption)) (by assumption)
    | (unfold u; try beta_reduce)

theorem State.mapoutNow_ext {s : State} {h c : Nat} {told : Bool} {M₀ : Nat} {a₀ : State} (hM : Within 1561078 M₀) (h₀ : Ext M₀ a₀ s) :
    Ext M₀ a₀ (State.mapoutNow s h c told) := by
  refine Ext.via hM h₀ ?_
  clear hM h₀ M₀ a₀
  suffices H : ∀ a₀, Ext 1561078 a₀ s → Ext 1561078 a₀ (State.mapoutNow s h c told) from H s (Ext.refl _ _)
  intro a₀ h₀
  unfold State.mapoutNow
  repeat' first
    | with_reducible assumption
    | (with_reducible intro _; intros; try beta_reduce)
    | ((fail_if_no_progress extract_lets +onlyGivenNames t); refine Ext.cut (M := 1561078) (a := a₀) (b := t) ?_ (fun ht => ?_); rotate_left; clear_value t)
    | ((fail_if_no_progress extract_lets +onlyGivenNames u); have v : Nat := u; clear v; clear_value u)
    | ((fail_if_no_progress extract_lets +onlyGivenNames u); have v : List _ := u; clear v; clear_value u)
    | ((fail_if_no_progress extract_lets +onlyGivenNames u); have v : Option _ := u; clear v; fail_if_success (have v : Option State := u); clear_value u)
    | (fail_if_no_progress extract_lets +onlyGivenNames u)
    | with_reducible refine State.stackFail_ext (by decide) ?_
    | with_reducible refine State.startMapout_ext (by decide) ?_
    | with_reducible refine State.put_ext (by decide) ?_
    | with_reducible refine State.capacityUpdate_ext (by decide) ?_
    | with_reducible refine State.inventoryUpdate_ext (by decide) ?_
    | with_reducible refine State.event_ext (by decide) ?_
    | split
    | (clear_value *; split)
    | (unfold t)
    | (unfold u; try beta_reduce)

theorem State.loadRepair_ext {s : State} {a b row : Nat} {field : Bool} {M₀ : Nat} {a₀ : State} (hM : Within 4 M₀) (h₀ : Ext M₀ a₀ s) :
    Ext M₀ a₀ (State.loadRepair s a b row field) := by
  refine Ext.via hM h₀ ?_
  clear hM h₀ M₀ a₀
  suffices H : ∀ a₀, Ext 4 a₀ s → Ext 4 a₀ (State.loadRepair s a b row field) from H s (Ext.refl _ _)
  intro a₀ h₀
  unfold State.loadRepair
  repeat' first
    | with_reducible assumption
    | (with_reducible intro _; intros; try beta_reduce)
    | ((fail_if_no_progress extract_lets +onlyGivenNames t); refine Ext.cut (M := 4) (a := a₀) (b := t) ?_ (fun ht => ?_); rotate_left; clear_value t)
    | ((fail_if_no_progress extract_lets +onlyGivenNames u); have v : Nat := u; clear v; clear_value u)
    | ((fail_if_no_progress extract_lets +onlyGivenNames u); have v : List _ := u; clear v; clear_value u)
    | ((fail_if_no_progress extract_lets +onlyGivenNames u); have v : Option _ := u; clear v; fail_if_success (have v : Option State := u); clear_value u)
    | (fail_if_no_progress extract_lets +onlyGivenNames u)
    | with_reducible refine State.put_ext (by decide) ?_
    | split
    | (clear_value *; split)
    | (unfold t)
    | (unfold u; try beta_reduce)

theorem State.startParts_ext {s : State} {M₀ : Nat} {a₀ : State} (hM : Within 68 M₀) (h₀ : Ext M₀ a₀ s) :
    Ext M₀ a₀ (State.startParts s) := by
  refine Ext.via hM h₀ ?_
  clear hM h₀ M₀ a₀
  suffices H : ∀ a₀, Ext 68 a₀ s → Ext 68 a₀ (State.startParts s) from H s (Ext.refl _ _)
  intro a₀ h₀
  unfold State.startParts
  repeat' first
    | with_reducible assumption
    | (with_reducible intro _; intros; try beta_reduce)
    | ((fail_if_no_progress extract_lets +onlyGivenNames t); refine Ext.cut (M := 68) (a := a₀) (b := t) ?_ (fun ht => ?_); rotate_left; clear_value t)
    | ((fail_if_no_progress extract_lets +onlyGivenNames u); have v : Nat := u; clear v; clear_value u)
    | ((fail_if_no_progress extract_lets +onlyGivenNames u); have v : List _ := u; clear v; clear_value u)
    | ((fail_if_no_progress extract_lets +onlyGivenNames u); have v : Option _ := u; clear v; fail_if_success (have v : Option State := u); clear_value u)
    | (fail_if_no_progress extract_lets +onlyGivenNames u)
    | with_reducible refine State.setPart_ext (by decide) ?_
    | with_reducible refine State.put_ext (by decide) ?_
    | (with_reducible refine Ext.foldl _ ?_ ?_)
    | (with_reducible refine Ext.foldl_fst _ ?_ ?_)
    | split
    | (clear_value *; split)
    | (unfold t)
    | (unfold u; try beta_reduce)
    | (refine Ext.upd ?_ ?_ ?_ ?_ ?_ ?_ ?_ ?_ ?_ ?_ ?_ ?_ ?_ ?_ ?_ ?_ ?_ ?_ ?_ ?_ <;> first | rfl | exact fun _ => rfl | exact fun h => absurd h (by decide) | skip)

theorem State.trained_ext {s : State} {failed : List Nat} {M₀ : Nat} {a₀ : State} (hM : Within 8196 M₀) (h₀ : Ext M₀ a₀ s) :
    Ext M₀ a₀ (State.trained s failed) := by
  refine Ext.via hM h₀ ?_
  clear hM h₀ M₀ a₀
  suffices H : ∀ a₀, Ext 8196 a₀ s → Ext 8196 a₀ (State.trained s failed) from H s (Ext.refl _ _)
  intro a₀ h₀
  unfold State.trained
  repeat' first
    | with_reducible assumption
    | (with_reducible intro _; intros; try beta_reduce)
    | ((fail_if_no_progress extract_lets +onlyGivenNames t); refine Ext.cut (M := 8196) (a := a₀) (b := t) ?_ (fun ht => ?_); rotate_left; clear_value t)
    | ((fail_if_no_progress extract_lets +onlyGivenNames u); have v : Nat := u; clear v; clear_value u)
    | ((fail_if_no_progress extract_lets +onlyGivenNames u); have v : List _ := u; clear v; clear_value u)
    | ((fail_if_no_progress extract_lets +onlyGivenNames u); have v : Option _ := u; clear v; fail_if_success (have v : Option State := u); clear_value u)
    | (fail_if_no_progress extract_lets +onlyGivenNames u)
    | with_reducible refine State.put_ext (by decide) ?_
    | with_reducible refine State.markTrained_ext (by decide) ?_
    | (with_reducible refine Ext.foldl _ ?_ ?_)
    | (with_reducible refine Ext.foldl_fst _ ?_ ?_)
    | split
    | (clear_value *; split)
    | (unfold t)
    | (unfold u; try beta_reduce)

theorem State.arraysTested_ext {s : State} {failed : List Nat} {M₀ : Nat} {a₀ : State} (hM : Within 132 M₀) (h₀ : Ext M₀ a₀ s) :
    Ext M₀ a₀ (State.arraysTested s failed) := by
  refine Ext.via hM h₀ ?_
  clear hM h₀ M₀ a₀
  suffices H : ∀ a₀, Ext 132 a₀ s → Ext 132 a₀ (State.arraysTested s failed) from H s (Ext.refl _ _)
  intro a₀ h₀
  unfold State.arraysTested
  repeat' first
    | with_reducible assumption
    | (with_reducible intro _; intros; try beta_reduce)
    | ((fail_if_no_progress extract_lets +onlyGivenNames t); refine Ext.cut (M := 132) (a := a₀) (b := t) ?_ (fun ht => ?_); rotate_left; clear_value t)
    | ((fail_if_no_progress extract_lets +onlyGivenNames u); have v : Nat := u; clear v; clear_value u)
    | ((fail_if_no_progress extract_lets +onlyGivenNames u); have v : List _ := u; clear v; clear_value u)
    | ((fail_if_no_progress extract_lets +onlyGivenNames u); have v : Option _ := u; clear v; fail_if_success (have v : Option State := u); clear_value u)
    | (fail_if_no_progress extract_lets +onlyGivenNames u)
    | with_reducible refine State.put_ext (by decide) ?_
    | with_reducible refine State.event_ext (by decide) ?_
    | with_reducible refine State.loadRepair_ext (by decide) ?_
    | (with_reducible refine Ext.foldl _ ?_ ?_)
    | (with_reducible refine Ext.foldl_fst _ ?_ ?_)
    | split
    | (clear_value *; split)
    | (unfold t)
    | (unfold u; try beta_reduce)

theorem State.bootSections_ext {s : State} {d : Dir} {M₀ : Nat} {a₀ : State} (hM : Within 131076 M₀) (h₀ : Ext M₀ a₀ s) : OptExt M₀ a₀ (State.bootSections s d) := by
  unfold State.bootSections
  exact OptExt.foldOpt (fun t x ht => State.bootSection_ext hM ht) h₀

theorem hbmTrainingDone_ext {channels arrays : List Nat} {dies : Nat} {other : Bool} {s : State} {M₀ : Nat} {a₀ : State} (hM : Within 2093558 M₀) (h₀ : Ext M₀ a₀ s) :
    Ext M₀ a₀ (hbmTrainingDone channels arrays dies other s) := by
  refine Ext.via hM h₀ ?_
  clear hM h₀ M₀ a₀
  suffices H : ∀ a₀, Ext 2093558 a₀ s → Ext 2093558 a₀ (hbmTrainingDone channels arrays dies other s) from H s (Ext.refl _ _)
  intro a₀ h₀
  unfold hbmTrainingDone
  repeat' first
    | with_reducible assumption
    | (with_reducible intro _; intros; try beta_reduce)
    | ((fail_if_no_progress extract_lets +onlyGivenNames t); refine Ext.cut (M := 2093558) (a := a₀) (b := t) ?_ (fun ht => ?_); rotate_left; clear_value t)
    | ((fail_if_no_progress extract_lets +onlyGivenNames u); have v : Nat := u; clear v; clear_value u)
    | ((fail_if_no_progress extract_lets +onlyGivenNames u); have v : List _ := u; clear v; clear_value u)
    | ((fail_if_no_progress extract_lets +onlyGivenNames u); have v : Option _ := u; clear v; fail_if_success (have v : Option State := u); clear_value u)
    | (fail_if_no_progress extract_lets +onlyGivenNames u)
    | with_reducible refine State.trained_ext (by decide) ?_
    | with_reducible refine State.arraysTested_ext (by decide) ?_
    | with_reducible refine State.mapoutNow_ext (by decide) ?_
    | with_reducible refine State.selfTestFail_ext (by decide) ?_
    | with_reducible refine State.capacityUpdate_ext (by decide) ?_
    | with_reducible refine State.inventoryUpdate_ext (by decide) ?_
    | with_reducible refine State.startParts_ext (by decide) ?_
    | with_reducible refine State.bootFail_ext (by decide) ?_
    | with_reducible refine State.startTraining_ext (by decide) ?_
    | with_reducible refine State.modesUpdate_ext (by decide) ?_
    | with_reducible refine State.setStage_ext (by decide) ?_
    | (with_reducible refine Ext.foldl _ ?_ ?_)
    | (with_reducible refine Ext.foldl_fst _ ?_ ?_)
    | split
    | (clear_value *; split)
    | (unfold t)
    | with_reducible exact OptExt.out (State.bootSections_ext (M₀ := 2093558) (a₀ := a₀) (by decide) (by assumption)) (by assumption)
    | (unfold u; try beta_reduce)

theorem State.loadSwitch_ext {s : State} {cs e : Nat} {M₀ : Nat} {a₀ : State} (hM : Within 16516 M₀) (h₀ : Ext M₀ a₀ s) :
    Ext M₀ a₀ (State.loadSwitch s cs e) := by
  refine Ext.via hM h₀ ?_
  clear hM h₀ M₀ a₀
  suffices H : ∀ a₀, Ext 16516 a₀ s → Ext 16516 a₀ (State.loadSwitch s cs e) from H s (Ext.refl _ _)
  intro a₀ h₀
  unfold State.loadSwitch
  repeat' first
    | with_reducible assumption
    | (with_reducible intro _; intros; try beta_reduce)
    | ((fail_if_no_progress extract_lets +onlyGivenNames t); refine Ext.cut (M := 16516) (a := a₀) (b := t) ?_ (fun ht => ?_); rotate_left; clear_value t)
    | ((fail_if_no_progress extract_lets +onlyGivenNames u); have v : Nat := u; clear v; clear_value u)
    | ((fail_if_no_progress extract_lets +onlyGivenNames u); have v : List _ := u; clear v; clear_value u)
    | ((fail_if_no_progress extract_lets +onlyGivenNames u); have v : Option _ := u; clear v; fail_if_success (have v : Option State := u); clear_value u)
    | (fail_if_no_progress extract_lets +onlyGivenNames u)
    | with_reducible refine State.put_ext (by decide) ?_
    | with_reducible refine State.setSpare_ext (by decide) ?_
    | with_reducible refine State.event_ext (by decide) ?_
    | split
    | (clear_value *; split)
    | (unfold t)
    | (unfold u; try beta_reduce)

theorem State.applyLedger_ext {s : State} {e : LedgerEntry} {M₀ : Nat} {a₀ : State} (hM : Within 1561078 M₀) (h₀ : Ext M₀ a₀ s) :
    Ext M₀ a₀ (State.applyLedger s e) := by
  refine Ext.via hM h₀ ?_
  clear hM h₀ M₀ a₀
  suffices H : ∀ a₀, Ext 1561078 a₀ s → Ext 1561078 a₀ (State.applyLedger s e) from H s (Ext.refl _ _)
  intro a₀ h₀
  unfold State.applyLedger
  repeat' first
    | with_reducible assumption
    | (with_reducible intro _; intros; try beta_reduce)
    | with_reducible refine State.loadRepair_ext (by decide) ?_
    | with_reducible refine State.loadSwitch_ext (by decide) ?_
    | with_reducible refine State.mapoutNow_ext (by decide) ?_
    | with_reducible refine State.put_ext (by decide) ?_
    | with_reducible refine State.putB_ext (by decide) ?_
    | split

theorem State.restartMigrations_ext {s : State} {b : List Byte} {M₀ : Nat} {a₀ : State} (hM : Within 4 M₀) (h₀ : Ext M₀ a₀ s) :
    Ext M₀ a₀ (State.restartMigrations s b) := by
  refine Ext.via hM h₀ ?_
  clear hM h₀ M₀ a₀
  suffices H : ∀ a₀, Ext 4 a₀ s → Ext 4 a₀ (State.restartMigrations s b) from H s (Ext.refl _ _)
  intro a₀ h₀
  unfold State.restartMigrations
  repeat' first
    | with_reducible assumption
    | (with_reducible intro _; intros; try beta_reduce)
    | ((fail_if_no_progress extract_lets +onlyGivenNames t); refine Ext.cut (M := 4) (a := a₀) (b := t) ?_ (fun ht => ?_); rotate_left; clear_value t)
    | ((fail_if_no_progress extract_lets +onlyGivenNames u); have v : Nat := u; clear v; clear_value u)
    | ((fail_if_no_progress extract_lets +onlyGivenNames u); have v : List _ := u; clear v; clear_value u)
    | ((fail_if_no_progress extract_lets +onlyGivenNames u); have v : Option _ := u; clear v; fail_if_success (have v : Option State := u); clear_value u)
    | (fail_if_no_progress extract_lets +onlyGivenNames u)
    | with_reducible refine State.put_ext (by decide) ?_
    | (with_reducible refine Ext.foldl _ ?_ ?_)
    | (with_reducible refine Ext.foldl_fst _ ?_ ?_)
    | split
    | (clear_value *; split)
    | (unfold t)
    | (unfold u; try beta_reduce)

theorem State.restoreLog_ext {s : State} {r : SaveRec} {M₀ : Nat} {a₀ : State} (hM : Within 454 M₀) (h₀ : Ext M₀ a₀ s) :
    Ext M₀ a₀ (State.restoreLog s r) := by
  refine Ext.via hM h₀ ?_
  clear hM h₀ M₀ a₀
  suffices H : ∀ a₀, Ext 454 a₀ s → Ext 454 a₀ (State.restoreLog s r) from H s (Ext.refl _ _)
  intro a₀ h₀
  unfold State.restoreLog
  repeat' first
    | with_reducible assumption
    | (with_reducible intro _; intros; try beta_reduce)
    | ((fail_if_no_progress extract_lets +onlyGivenNames t); refine Ext.cut (M := 454) (a := a₀) (b := t) ?_ (fun ht => ?_); rotate_left; clear_value t)
    | ((fail_if_no_progress extract_lets +onlyGivenNames u); have v : Nat := u; clear v; clear_value u)
    | ((fail_if_no_progress extract_lets +onlyGivenNames u); have v : List _ := u; clear v; clear_value u)
    | ((fail_if_no_progress extract_lets +onlyGivenNames u); have v : Option _ := u; clear v; fail_if_success (have v : Option State := u); clear_value u)
    | (fail_if_no_progress extract_lets +onlyGivenNames u)
    | with_reducible refine State.setRec_ext (by decide) ?_
    | with_reducible refine State.recShow_ext (by decide) ?_
    | with_reducible refine State.writeRecord_ext (by decide) ?_
    | (with_reducible refine Ext.foldl _ ?_ ?_)
    | (with_reducible refine Ext.foldl_fst _ ?_ ?_)
    | split
    | (clear_value *; split)
    | (unfold t)
    | (unfold u; try beta_reduce)
    | (refine Ext.upd ?_ ?_ ?_ ?_ ?_ ?_ ?_ ?_ ?_ ?_ ?_ ?_ ?_ ?_ ?_ ?_ ?_ ?_ ?_ ?_ <;> first | rfl | exact fun _ => rfl | exact fun h => absurd h (by decide) | skip)

theorem State.reportLoss_ext {s : State} {r : SaveRec} {M₀ : Nat} {a₀ : State} (hM : Within 132 M₀) (h₀ : Ext M₀ a₀ s) :
    Ext M₀ a₀ (State.reportLoss s r) := by
  refine Ext.via hM h₀ ?_
  clear hM h₀ M₀ a₀
  suffices H : ∀ a₀, Ext 132 a₀ s → Ext 132 a₀ (State.reportLoss s r) from H s (Ext.refl _ _)
  intro a₀ h₀
  unfold State.reportLoss
  repeat' first
    | with_reducible assumption
    | (with_reducible intro _; intros; try beta_reduce)
    | ((fail_if_no_progress extract_lets +onlyGivenNames t); refine Ext.cut (M := 132) (a := a₀) (b := t) ?_ (fun ht => ?_); rotate_left; clear_value t)
    | ((fail_if_no_progress extract_lets +onlyGivenNames u); have v : Nat := u; clear v; clear_value u)
    | ((fail_if_no_progress extract_lets +onlyGivenNames u); have v : List _ := u; clear v; clear_value u)
    | ((fail_if_no_progress extract_lets +onlyGivenNames u); have v : Option _ := u; clear v; fail_if_success (have v : Option State := u); clear_value u)
    | (fail_if_no_progress extract_lets +onlyGivenNames u)
    | with_reducible refine State.put_ext (by decide) ?_
    | with_reducible refine State.putB_ext (by decide) ?_
    | with_reducible refine State.event_ext (by decide) ?_
    | (with_reducible refine Ext.foldl _ ?_ ?_)
    | (with_reducible refine Ext.foldl_fst _ ?_ ?_)
    | split
    | (clear_value *; split)
    | (unfold t)
    | (unfold u; try beta_reduce)

theorem State.resumeCounts_ext {s : State} {M₀ : Nat} {a₀ : State} (hM : Within 262144 M₀) (h₀ : Ext M₀ a₀ s) :
    Ext M₀ a₀ (State.resumeCounts s) := by
  refine Ext.via hM h₀ ?_
  clear hM h₀ M₀ a₀
  suffices H : ∀ a₀, Ext 262144 a₀ s → Ext 262144 a₀ (State.resumeCounts s) from H s (Ext.refl _ _)
  intro a₀ h₀
  unfold State.resumeCounts
  repeat' first
    | with_reducible assumption
    | (with_reducible intro _; intros; try beta_reduce)
    | ((fail_if_no_progress extract_lets +onlyGivenNames t); refine Ext.cut (M := 262144) (a := a₀) (b := t) ?_ (fun ht => ?_); rotate_left; clear_value t)
    | ((fail_if_no_progress extract_lets +onlyGivenNames u); have v : Nat := u; clear v; clear_value u)
    | ((fail_if_no_progress extract_lets +onlyGivenNames u); have v : List _ := u; clear v; clear_value u)
    | ((fail_if_no_progress extract_lets +onlyGivenNames u); have v : Option _ := u; clear v; fail_if_success (have v : Option State := u); clear_value u)
    | (fail_if_no_progress extract_lets +onlyGivenNames u)
    | with_reducible refine State.setFlash_ext (by decide) ?_
    | (with_reducible refine Ext.foldl _ ?_ ?_)
    | (with_reducible refine Ext.foldl_fst _ ?_ ?_)
    | split
    | (clear_value *; split)
    | (unfold t)
    | (unfold u; try beta_reduce)
    | (refine Ext.upd ?_ ?_ ?_ ?_ ?_ ?_ ?_ ?_ ?_ ?_ ?_ ?_ ?_ ?_ ?_ ?_ ?_ ?_ ?_ ?_ <;> first | rfl | exact fun _ => rfl | exact fun h => absurd h (by decide) | skip)

theorem keepAreaRestore_ext {channels blockBytes flashBytes : Nat} {s : State} {M₀ : Nat} {a₀ : State} (hM : Within 2085366 M₀) (h₀ : Ext M₀ a₀ s) :
    Ext M₀ a₀ (keepAreaRestore channels blockBytes flashBytes s) := by
  refine Ext.via hM h₀ ?_
  clear hM h₀ M₀ a₀
  suffices H : ∀ a₀, Ext 2085366 a₀ s → Ext 2085366 a₀ (keepAreaRestore channels blockBytes flashBytes s) from H s (Ext.refl _ _)
  intro a₀ h₀
  unfold keepAreaRestore
  repeat' first
    | with_reducible assumption
    | (with_reducible intro _; intros; try beta_reduce)
    | ((fail_if_no_progress extract_lets +onlyGivenNames t); refine Ext.cut (M := 2085366) (a := a₀) (b := t) ?_ (fun ht => ?_); rotate_left; clear_value t)
    | ((fail_if_no_progress extract_lets +onlyGivenNames u); have v : Nat := u; clear v; clear_value u)
    | ((fail_if_no_progress extract_lets +onlyGivenNames u); have v : List _ := u; clear v; clear_value u)
    | ((fail_if_no_progress extract_lets +onlyGivenNames u); have v : Option _ := u; clear v; fail_if_success (have v : Option State := u); clear_value u)
    | (fail_if_no_progress extract_lets +onlyGivenNames u)
    | with_reducible refine State.setStage_ext (by decide) ?_
    | with_reducible refine State.put_ext (by decide) ?_
    | with_reducible refine State.generic_ext (by decide) ?_
    | with_reducible refine State.wr_ext (by decide) ?_
    | with_reducible refine State.flashShow_ext (by decide) ?_
    | with_reducible refine State.resumeCounts_ext (by decide) ?_
    | with_reducible refine State.applyLedger_ext (by decide) ?_
    | with_reducible refine State.reviseVcore_ext (by decide) ?_
    | with_reducible refine State.inventoryUpdate_ext (by decide) ?_
    | with_reducible refine State.startParts_ext (by decide) ?_
    | with_reducible refine State.restartMigrations_ext (by decide) ?_
    | with_reducible refine State.restoreLog_ext (by decide) ?_
    | with_reducible refine State.reportLoss_ext (by decide) ?_
    | with_reducible refine State.setKeep_ext (by decide) ?_
    | with_reducible refine State.enterRun_ext (by decide) ?_
    | (with_reducible refine Ext.foldl _ ?_ ?_)
    | (with_reducible refine Ext.foldl_fst _ ?_ ?_)
    | split
    | (clear_value *; split)
    | (unfold t)
    | (unfold u; try beta_reduce)

theorem State.openEntries_ext {s : State} {M₀ : Nat} {a₀ : State} (hM : Within 4 M₀) (h₀ : Ext M₀ a₀ s) :
    Ext M₀ a₀ (State.openEntries s) := by
  refine Ext.via hM h₀ ?_
  clear hM h₀ M₀ a₀
  suffices H : ∀ a₀, Ext 4 a₀ s → Ext 4 a₀ (State.openEntries s) from H s (Ext.refl _ _)
  intro a₀ h₀
  unfold State.openEntries
  repeat' first
    | with_reducible assumption
    | (with_reducible intro _; intros; try beta_reduce)
    | ((fail_if_no_progress extract_lets +onlyGivenNames t); refine Ext.cut (M := 4) (a := a₀) (b := t) ?_ (fun ht => ?_); rotate_left; clear_value t)
    | ((fail_if_no_progress extract_lets +onlyGivenNames u); have v : Nat := u; clear v; clear_value u)
    | ((fail_if_no_progress extract_lets +onlyGivenNames u); have v : List _ := u; clear v; clear_value u)
    | ((fail_if_no_progress extract_lets +onlyGivenNames u); have v : Option _ := u; clear v; fail_if_success (have v : Option State := u); clear_value u)
    | (fail_if_no_progress extract_lets +onlyGivenNames u)
    | with_reducible refine State.wr_ext (by decide) ?_
    | split
    | (clear_value *; split)
    | (unfold t)
    | (unfold u; try beta_reduce)

theorem startupReady_ext {s : State} {M₀ : Nat} {a₀ : State} (hM : Within 774 M₀) (h₀ : Ext M₀ a₀ s) :
    Ext M₀ a₀ (startupReady s) := by
  refine Ext.via hM h₀ ?_
  clear hM h₀ M₀ a₀
  suffices H : ∀ a₀, Ext 774 a₀ s → Ext 774 a₀ (startupReady s) from H s (Ext.refl _ _)
  intro a₀ h₀
  unfold startupReady
  repeat' first
    | with_reducible assumption
    | (with_reducible intro _; intros; try beta_reduce)
    | ((fail_if_no_progress extract_lets +onlyGivenNames t); refine Ext.cut (M := 774) (a := a₀) (b := t) ?_ (fun ht => ?_); rotate_left; clear_value t)
    | ((fail_if_no_progress extract_lets +onlyGivenNames u); have v : Nat := u; clear v; clear_value u)
    | ((fail_if_no_progress extract_lets +onlyGivenNames u); have v : List _ := u; clear v; clear_value u)
    | ((fail_if_no_progress extract_lets +onlyGivenNames u); have v : Option _ := u; clear v; fail_if_success (have v : Option State := u); clear_value u)
    | (fail_if_no_progress extract_lets +onlyGivenNames u)
    | with_reducible refine State.setStage_ext (by decide) ?_
    | with_reducible refine State.put_ext (by decide) ?_
    | with_reducible refine State.openEntries_ext (by decide) ?_
    | with_reducible refine State.newTag_ext (by decide) ?_
    | with_reducible refine State.raiseSvn_ext (by decide) ?_
    | with_reducible refine State.modesUpdate_ext (by decide) ?_
    | with_reducible refine State.request_ext (by decide) ?_
    | split
    | (clear_value *; split)
    | (unfold t)
    | (unfold u; try beta_reduce)

theorem State.deltaStatus_ext {s : State} {st target r : Nat} {M₀ : Nat} {a₀ : State} (hM : Within 4 M₀) (h₀ : Ext M₀ a₀ s) :
    Ext M₀ a₀ (State.deltaStatus s st target r) := by
  refine Ext.via hM h₀ ?_
  clear hM h₀ M₀ a₀
  suffices H : ∀ a₀, Ext 4 a₀ s → Ext 4 a₀ (State.deltaStatus s st target r) from H s (Ext.refl _ _)
  intro a₀ h₀
  unfold State.deltaStatus
  repeat' first
    | with_reducible assumption
    | (with_reducible intro _; intros; try beta_reduce)
    | with_reducible refine State.put_ext (by decide) ?_
    | split

theorem bootDeltaGo_ext {w : Writer} {go : Bool} {s : State} {M₀ : Nat} {a₀ : State} (hM : Within 132228 M₀) (h₀ : Ext M₀ a₀ s) :
    Ext M₀ a₀ (bootDeltaGo w go s) := by
  refine Ext.via hM h₀ ?_
  clear hM h₀ M₀ a₀
  suffices H : ∀ a₀, Ext 132228 a₀ s → Ext 132228 a₀ (bootDeltaGo w go s) from H s (Ext.refl _ _)
  intro a₀ h₀
  unfold bootDeltaGo
  repeat' first
    | with_reducible assumption
    | (with_reducible intro _; intros; try beta_reduce)
    | with_reducible refine State.regWrite_ext (by decide) ?_ ?_
    | with_reducible refine State.badWrite_ext (by decide) ?_
    | with_reducible refine State.put_ext (by decide) ?_
    | with_reducible refine State.deltaStatus_ext (by decide) ?_
    | with_reducible refine State.setBoot_ext (by decide) ?_
    | split
    | (refine Ext.upd ?_ ?_ ?_ ?_ ?_ ?_ ?_ ?_ ?_ ?_ ?_ ?_ ?_ ?_ ?_ ?_ ?_ ?_ ?_ ?_ <;> first | rfl | exact fun _ => rfl | exact fun h => absurd h (by decide) | skip)

theorem State.deltaEnd_ext {s : State} {st r : Nat} {M₀ : Nat} {a₀ : State} (hM : Within 1028 M₀) (h₀ : Ext M₀ a₀ s) :
    Ext M₀ a₀ (State.deltaEnd s st r) := by
  refine Ext.via hM h₀ ?_
  clear hM h₀ M₀ a₀
  suffices H : ∀ a₀, Ext 1028 a₀ s → Ext 1028 a₀ (State.deltaEnd s st r) from H s (Ext.refl _ _)
  intro a₀ h₀
  unfold State.deltaEnd
  repeat' first
    | with_reducible assumption
    | (with_reducible intro _; intros; try beta_reduce)
    | ((fail_if_no_progress extract_lets +onlyGivenNames t); refine Ext.cut (M := 1028) (a := a₀) (b := t) ?_ (fun ht => ?_); rotate_left; clear_value t)
    | ((fail_if_no_progress extract_lets +onlyGivenNames u); have v : Nat := u; clear v; clear_value u)
    | ((fail_if_no_progress extract_lets +onlyGivenNames u); have v : List _ := u; clear v; clear_value u)
    | ((fail_if_no_progress extract_lets +onlyGivenNames u); have v : Option _ := u; clear v; fail_if_success (have v : Option State := u); clear_value u)
    | (fail_if_no_progress extract_lets +onlyGivenNames u)
    | with_reducible refine State.put_ext (by decide) ?_
    | with_reducible refine State.setBoot_ext (by decide) ?_
    | split
    | (clear_value *; split)
    | (unfold t)
    | (unfold u; try beta_reduce)
    | (refine Ext.upd ?_ ?_ ?_ ?_ ?_ ?_ ?_ ?_ ?_ ?_ ?_ ?_ ?_ ?_ ?_ ?_ ?_ ?_ ?_ ?_ <;> first | rfl | exact fun _ => rfl | exact fun h => absurd h (by decide) | skip)

theorem deltaNorWritten_ext {fault : Nat} {s : State} {M₀ : Nat} {a₀ : State} (hM : Within 1094 M₀) (h₀ : Ext M₀ a₀ s) :
    Ext M₀ a₀ (deltaNorWritten fault s) := by
  refine Ext.via hM h₀ ?_
  clear hM h₀ M₀ a₀
  suffices H : ∀ a₀, Ext 1094 a₀ s → Ext 1094 a₀ (deltaNorWritten fault s) from H s (Ext.refl _ _)
  intro a₀ h₀
  unfold deltaNorWritten
  repeat' first
    | with_reducible assumption
    | (with_reducible intro _; intros; try beta_reduce)
    | ((fail_if_no_progress extract_lets +onlyGivenNames t); refine Ext.cut (M := 1094) (a := a₀) (b := t) ?_ (fun ht => ?_); rotate_left; clear_value t)
    | ((fail_if_no_progress extract_lets +onlyGivenNames u); have v : Nat := u; clear v; clear_value u)
    | ((fail_if_no_progress extract_lets +onlyGivenNames u); have v : List _ := u; clear v; clear_value u)
    | ((fail_if_no_progress extract_lets +onlyGivenNames u); have v : Option _ := u; clear v; fail_if_success (have v : Option State := u); clear_value u)
    | (fail_if_no_progress extract_lets +onlyGivenNames u)
    | with_reducible refine State.norWrite_ext (by decide) ?_
    | with_reducible refine State.useFresh_ext (by decide) ?_
    | with_reducible refine State.deltaEnd_ext (by decide) ?_
    | with_reducible refine State.setBoot_ext (by decide) ?_
    | with_reducible refine State.setPart_ext (by decide) ?_
    | with_reducible refine State.put_ext (by decide) ?_
    | split
    | (clear_value *; split)
    | (unfold t)
    | (unfold u; try beta_reduce)
    | (refine Ext.upd ?_ ?_ ?_ ?_ ?_ ?_ ?_ ?_ ?_ ?_ ?_ ?_ ?_ ?_ ?_ ?_ ?_ ?_ ?_ ?_ <;> first | rfl | exact fun _ => rfl | exact fun h => absurd h (by decide) | skip)

theorem State.deltaRuns_ext {s : State} {d : Dir} {M₀ : Nat} {a₀ : State} (hM : Within 1028 M₀) (h₀ : Ext M₀ a₀ s) :
    Ext M₀ a₀ (State.deltaRuns s d) := by
  refine Ext.via hM h₀ ?_
  clear hM h₀ M₀ a₀
  suffices H : ∀ a₀, Ext 1028 a₀ s → Ext 1028 a₀ (State.deltaRuns s d) from H s (Ext.refl _ _)
  intro a₀ h₀
  unfold State.deltaRuns
  repeat' first
    | with_reducible assumption
    | (with_reducible intro _; intros; try beta_reduce)
    | with_reducible refine State.runImage_ext (by decide) ?_
    | split

theorem State.rejoin_ext {s : State} {M₀ : Nat} {a₀ : State} (hM : Within 262148 M₀) (h₀ : Ext M₀ a₀ s) :
    Ext M₀ a₀ (State.rejoin s) := by
  refine Ext.via hM h₀ ?_
  clear hM h₀ M₀ a₀
  suffices H : ∀ a₀, Ext 262148 a₀ s → Ext 262148 a₀ (State.rejoin s) from H s (Ext.refl _ _)
  intro a₀ h₀
  unfold State.rejoin
  repeat' first
    | with_reducible assumption
    | (with_reducible intro _; intros; try beta_reduce)
    | ((fail_if_no_progress extract_lets +onlyGivenNames t); refine Ext.cut (M := 262148) (a := a₀) (b := t) ?_ (fun ht => ?_); rotate_left; clear_value t)
    | ((fail_if_no_progress extract_lets +onlyGivenNames u); have v : Nat := u; clear v; clear_value u)
    | ((fail_if_no_progress extract_lets +onlyGivenNames u); have v : List _ := u; clear v; clear_value u)
    | ((fail_if_no_progress extract_lets +onlyGivenNames u); have v : Option _ := u; clear v; fail_if_success (have v : Option State := u); clear_value u)
    | (fail_if_no_progress extract_lets +onlyGivenNames u)
    | with_reducible refine State.put_ext (by decide) ?_
    | with_reducible refine State.setTwin_ext (by decide) ?_
    | with_reducible refine State.modesUpdate_ext (by decide) ?_
    | (with_reducible refine Ext.foldl _ ?_ ?_)
    | (with_reducible refine Ext.foldl_fst _ ?_ ?_)
    | split
    | (clear_value *; split)
    | (unfold t)
    | (unfold u; try beta_reduce)
    | (refine Ext.upd ?_ ?_ ?_ ?_ ?_ ?_ ?_ ?_ ?_ ?_ ?_ ?_ ?_ ?_ ?_ ?_ ?_ ?_ ?_ ?_ <;> first | rfl | exact fun _ => rfl | exact fun h => absurd h (by decide) | skip)

theorem deltaApply_ext {s : State} {M₀ : Nat} {a₀ : State} (hM : Within 394436 M₀) (h₀ : Ext M₀ a₀ s) :
    Ext M₀ a₀ (deltaApply s) := by
  refine Ext.via hM h₀ ?_
  clear hM h₀ M₀ a₀
  suffices H : ∀ a₀, Ext 394436 a₀ s → Ext 394436 a₀ (deltaApply s) from H s (Ext.refl _ _)
  intro a₀ h₀
  unfold deltaApply
  repeat' first
    | with_reducible assumption
    | (with_reducible intro _; intros; try beta_reduce)
    | ((fail_if_no_progress extract_lets +onlyGivenNames t); refine Ext.cut (M := 394436) (a := a₀) (b := t) ?_ (fun ht => ?_); rotate_left; clear_value t)
    | ((fail_if_no_progress extract_lets +onlyGivenNames F); refine Ext.cutF (M := 394436) (a := a₀) (F := F) ?_ (fun hF => ?_); rotate_left; clear_value F)
    | with_reducible refine hF _ ?_
    | ((fail_if_no_progress extract_lets +onlyGivenNames G); refine Ext.cutG (M := 394436) (a := a₀) (F := G) ?_ (fun hG => ?_); rotate_left; clear_value G)
    | with_reducible refine hG _ _ ?_
    | ((fail_if_no_progress extract_lets +onlyGivenNames H); refine Ext.cutH (M := 394436) (a := a₀) (F := H) ?_ (fun hH => ?_); rotate_left; clear_value H)
    | with_reducible refine hH _ _ _ ?_
    | ((fail_if_no_progress extract_lets +onlyGivenNames u); have v : Nat := u; clear v; clear_value u)
    | ((fail_if_no_progress extract_lets +onlyGivenNames u); have v : List _ := u; clear v; clear_value u)
    | ((fail_if_no_progress extract_lets +onlyGivenNames u); have v : Option _ := u; clear v; fail_if_success (have v : Option State := u); clear_value u)
    | (fail_if_no_progress extract_lets +onlyGivenNames u)
    | with_reducible refine State.setPart_ext (by decide) ?_
    | with_reducible refine State.generic_ext (by decide) ?_
    | with_reducible refine State.deltaEnd_ext (by decide) ?_
    | with_reducible refine State.extend_ext (by decide) ?_
    | with_reducible refine State.markDiverged_ext (by decide) ?_
    | with_reducible refine State.deltaRuns_ext (by decide) ?_
    | with_reducible refine State.rejoin_ext (by decide) ?_
    | split
    | (clear_value *; split)
    | (unfold t)
    | (unfold u; try beta_reduce)
    | (unfold F; try beta_reduce)
    | (unfold G; try beta_reduce)
    | (unfold H; try beta_reduce)
    | with_reducible exact OptExt.out (State.applySection_ext (M₀ := 394436) (a₀ := a₀) (by decide) (by assumption)) (by assumption)
    | (refine Ext.upd ?_ ?_ ?_ ?_ ?_ ?_ ?_ ?_ ?_ ?_ ?_ ?_ ?_ ?_ ?_ ?_ ?_ ?_ ?_ ?_ <;> first | rfl | exact fun _ => rfl | exact fun h => absurd h (by decide) | skip)

theorem transitDeltaApply_ext {s : State} {M₀ : Nat} {a₀ : State} (hM : Within 132228 M₀) (h₀ : Ext M₀ a₀ s) :
    Ext M₀ a₀ (transitDeltaApply s) := by
  refine Ext.via hM h₀ ?_
  clear hM h₀ M₀ a₀
  suffices H : ∀ a₀, Ext 132228 a₀ s → Ext 132228 a₀ (transitDeltaApply s) from H s (Ext.refl _ _)
  intro a₀ h₀
  unfold transitDeltaApply
  repeat' first
    | with_reducible assumption
    | (with_reducible intro _; intros; try beta_reduce)
    | ((fail_if_no_progress extract_lets +onlyGivenNames t); refine Ext.cut (M := 132228) (a := a₀) (b := t) ?_ (fun ht => ?_); rotate_left; clear_value t)
    | ((fail_if_no_progress extract_lets +onlyGivenNames u); have v : Nat := u; clear v; clear_value u)
    | ((fail_if_no_progress extract_lets +onlyGivenNames u); have v : List _ := u; clear v; clear_value u)
    | ((fail_if_no_progress extract_lets +onlyGivenNames u); have v : Option _ := u; clear v; fail_if_success (have v : Option State := u); clear_value u)
    | (fail_if_no_progress extract_lets +onlyGivenNames u)
    | with_reducible refine State.generic_ext (by decide) ?_
    | with_reducible refine State.deltaEnd_ext (by decide) ?_
    | with_reducible refine State.extend_ext (by decide) ?_
    | with_reducible refine State.deltaRuns_ext (by decide) ?_
    | split
    | (clear_value *; split)
    | (unfold t)
    | with_reducible exact OptExt.out (State.applySection_ext (M₀ := 132228) (a₀ := a₀) (by decide) (by assumption)) (by assumption)
    | (unfold u; try beta_reduce)

theorem State.updateFail_ext {s : State} {r : Nat} {M₀ : Nat} {a₀ : State} (hM : Within 1028 M₀) (h₀ : Ext M₀ a₀ s) :
    Ext M₀ a₀ (State.updateFail s r) := by
  refine Ext.via hM h₀ ?_
  clear hM h₀ M₀ a₀
  suffices H : ∀ a₀, Ext 1028 a₀ s → Ext 1028 a₀ (State.updateFail s r) from H s (Ext.refl _ _)
  intro a₀ h₀
  unfold State.updateFail
  repeat' first
    | with_reducible assumption
    | (with_reducible intro _; intros; try beta_reduce)
    | ((fail_if_no_progress extract_lets +onlyGivenNames t); refine Ext.cut (M := 1028) (a := a₀) (b := t) ?_ (fun ht => ?_); rotate_left; clear_value t)
    | ((fail_if_no_progress extract_lets +onlyGivenNames u); have v : Nat := u; clear v; clear_value u)
    | ((fail_if_no_progress extract_lets +onlyGivenNames u); have v : List _ := u; clear v; clear_value u)
    | ((fail_if_no_progress extract_lets +onlyGivenNames u); have v : Option _ := u; clear v; fail_if_success (have v : Option State := u); clear_value u)
    | (fail_if_no_progress extract_lets +onlyGivenNames u)
    | with_reducible refine State.put_ext (by decide) ?_
    | with_reducible refine State.setBoot_ext (by decide) ?_
    | split
    | (clear_value *; split)
    | (unfold t)
    | (unfold u; try beta_reduce)
    | (refine Ext.upd ?_ ?_ ?_ ?_ ?_ ?_ ?_ ?_ ?_ ?_ ?_ ?_ ?_ ?_ ?_ ?_ ?_ ?_ ?_ ?_ <;> first | rfl | exact fun _ => rfl | exact fun h => absurd h (by decide) | skip)

theorem bootUpdateGo_ext {w : Writer} {go : Bool} {s : State} {M₀ : Nat} {a₀ : State} (hM : Within 1156 M₀) (h₀ : Ext M₀ a₀ s) :
    Ext M₀ a₀ (bootUpdateGo w go s) := by
  refine Ext.via hM h₀ ?_
  clear hM h₀ M₀ a₀
  suffices H : ∀ a₀, Ext 1156 a₀ s → Ext 1156 a₀ (bootUpdateGo w go s) from H s (Ext.refl _ _)
  intro a₀ h₀
  unfold bootUpdateGo
  repeat' first
    | with_reducible assumption
    | (with_reducible intro _; intros; try beta_reduce)
    | ((fail_if_no_progress extract_lets +onlyGivenNames t); refine Ext.cut (M := 1156) (a := a₀) (b := t) ?_ (fun ht => ?_); rotate_left; clear_value t)
    | ((fail_if_no_progress extract_lets +onlyGivenNames u); have v : Nat := u; clear v; clear_value u)
    | ((fail_if_no_progress extract_lets +onlyGivenNames u); have v : List _ := u; clear v; clear_value u)
    | ((fail_if_no_progress extract_lets +onlyGivenNames u); have v : Option _ := u; clear v; fail_if_success (have v : Option State := u); clear_value u)
    | (fail_if_no_progress extract_lets +onlyGivenNames u)
    | with_reducible refine State.regWrite_ext (by decide) ?_ ?_
    | with_reducible refine State.badWrite_ext (by decide) ?_
    | with_reducible refine State.put_ext (by decide) ?_
    | with_reducible refine State.setBoot_ext (by decide) ?_
    | split
    | (clear_value *; split)
    | (unfold t)
    | (unfold u; try beta_reduce)
    | (refine Ext.upd ?_ ?_ ?_ ?_ ?_ ?_ ?_ ?_ ?_ ?_ ?_ ?_ ?_ ?_ ?_ ?_ ?_ ?_ ?_ ?_ <;> first | rfl | exact fun _ => rfl | exact fun h => absurd h (by decide) | skip)

theorem State.updateWrite_ext {s : State} {fault : Nat} {M₀ : Nat} {a₀ : State} (hM : Within 1030 M₀) (h₀ : Ext M₀ a₀ s) :
    Ext M₀ a₀ (State.updateWrite s fault) := by
  refine Ext.via hM h₀ ?_
  clear hM h₀ M₀ a₀
  suffices H : ∀ a₀, Ext 1030 a₀ s → Ext 1030 a₀ (State.updateWrite s fault) from H s (Ext.refl _ _)
  intro a₀ h₀
  unfold State.updateWrite
  repeat' first
    | with_reducible assumption
    | (with_reducible intro _; intros; try beta_reduce)
    | ((fail_if_no_progress extract_lets +onlyGivenNames t); refine Ext.cut (M := 1030) (a := a₀) (b := t) ?_ (fun ht => ?_); rotate_left; clear_value t)
    | ((fail_if_no_progress extract_lets +onlyGivenNames F); refine Ext.cutF (M := 1030) (a := a₀) (F := F) ?_ (fun hF => ?_); rotate_left; clear_value F)
    | with_reducible refine hF _ ?_
    | ((fail_if_no_progress extract_lets +onlyGivenNames G); refine Ext.cutG (M := 1030) (a := a₀) (F := G) ?_ (fun hG => ?_); rotate_left; clear_value G)
    | with_reducible refine hG _ _ ?_
    | ((fail_if_no_progress extract_lets +onlyGivenNames H); refine Ext.cutH (M := 1030) (a := a₀) (F := H) ?_ (fun hH => ?_); rotate_left; clear_value H)
    | with_reducible refine hH _ _ _ ?_
    | ((fail_if_no_progress extract_lets +onlyGivenNames u); have v : Nat := u; clear v; clear_value u)
    | ((fail_if_no_progress extract_lets +onlyGivenNames u); have v : List _ := u; clear v; clear_value u)
    | ((fail_if_no_progress extract_lets +onlyGivenNames u); have v : Option _ := u; clear v; fail_if_success (have v : Option State := u); clear_value u)
    | (fail_if_no_progress extract_lets +onlyGivenNames u)
    | with_reducible refine State.norWrite_ext (by decide) ?_
    | with_reducible refine State.useFresh_ext (by decide) ?_
    | with_reducible refine State.updateFail_ext (by decide) ?_
    | with_reducible refine State.put_ext (by decide) ?_
    | (with_reducible refine Ext.foldl _ ?_ ?_)
    | (with_reducible refine Ext.foldl_fst _ ?_ ?_)
    | split
    | (clear_value *; split)
    | (unfold t)
    | (unfold u; try beta_reduce)
    | (unfold F; try beta_reduce)
    | (unfold G; try beta_reduce)
    | (unfold H; try beta_reduce)

theorem State.updateRevert_ext {s : State} {M₀ : Nat} {a₀ : State} (hM : Within 1028 M₀) (h₀ : Ext M₀ a₀ s) :
    Ext M₀ a₀ (State.updateRevert s) := by
  refine Ext.via hM h₀ ?_
  clear hM h₀ M₀ a₀
  suffices H : ∀ a₀, Ext 1028 a₀ s → Ext 1028 a₀ (State.updateRevert s) from H s (Ext.refl _ _)
  intro a₀ h₀
  unfold State.updateRevert
  repeat' first
    | with_reducible assumption
    | (with_reducible intro _; intros; try beta_reduce)
    | ((fail_if_no_progress extract_lets +onlyGivenNames t); refine Ext.cut (M := 1028) (a := a₀) (b := t) ?_ (fun ht => ?_); rotate_left; clear_value t)
    | ((fail_if_no_progress extract_lets +onlyGivenNames u); have v : Nat := u; clear v; clear_value u)
    | ((fail_if_no_progress extract_lets +onlyGivenNames u); have v : List _ := u; clear v; clear_value u)
    | ((fail_if_no_progress extract_lets +onlyGivenNames u); have v : Option _ := u; clear v; fail_if_success (have v : Option State := u); clear_value u)
    | (fail_if_no_progress extract_lets +onlyGivenNames u)
    | with_reducible refine State.setBoot_ext (by decide) ?_
    | with_reducible refine State.norWrite_ext (by decide) ?_
    | with_reducible refine State.wr_ext (by decide) ?_
    | with_reducible refine State.updateFail_ext (by decide) ?_
    | split
    | (clear_value *; split)
    | (unfold t)
    | (unfold u; try beta_reduce)
    | (refine Ext.upd ?_ ?_ ?_ ?_ ?_ ?_ ?_ ?_ ?_ ?_ ?_ ?_ ?_ ?_ ?_ ?_ ?_ ?_ ?_ ?_ <;> first | rfl | exact fun _ => rfl | exact fun h => absurd h (by decide) | skip)

theorem State.updateDone_ext {s : State} {M₀ : Nat} {a₀ : State} (hM : Within 1050116 M₀) (h₀ : Ext M₀ a₀ s) :
    Ext M₀ a₀ (State.updateDone s) := by
  refine Ext.via hM h₀ ?_
  clear hM h₀ M₀ a₀
  suffices H : ∀ a₀, Ext 1050116 a₀ s → Ext 1050116 a₀ (State.updateDone s) from H s (Ext.refl _ _)
  intro a₀ h₀
  unfold State.updateDone
  repeat' first
    | with_reducible assumption
    | (with_reducible intro _; intros; try beta_reduce)
    | ((fail_if_no_progress extract_lets +onlyGivenNames t); refine Ext.cut (M := 1050116) (a := a₀) (b := t) ?_ (fun ht => ?_); rotate_left; clear_value t)
    | ((fail_if_no_progress extract_lets +onlyGivenNames u); have v : Nat := u; clear v; clear_value u)
    | ((fail_if_no_progress extract_lets +onlyGivenNames u); have v : List _ := u; clear v; clear_value u)
    | ((fail_if_no_progress extract_lets +onlyGivenNames u); have v : Option _ := u; clear v; fail_if_success (have v : Option State := u); clear_value u)
    | (fail_if_no_progress extract_lets +onlyGivenNames u)
    | with_reducible refine State.extend_ext (by decide) ?_
    | with_reducible refine State.raiseSvn_ext (by decide) ?_
    | with_reducible refine State.setKeep_ext (by decide) ?_
    | with_reducible refine State.runImage_ext (by decide) ?_
    | with_reducible refine State.putB_ext (by decide) ?_
    | with_reducible refine State.put_ext (by decide) ?_
    | with_reducible refine State.setBoot_ext (by decide) ?_
    | split
    | (clear_value *; split)
    | (unfold t)
    | (unfold u; try beta_reduce)
    | (refine Ext.upd ?_ ?_ ?_ ?_ ?_ ?_ ?_ ?_ ?_ ?_ ?_ ?_ ?_ ?_ ?_ ?_ ?_ ?_ ?_ ?_ <;> first | rfl | exact fun _ => rfl | exact fun h => absurd h (by decide) | skip)

theorem updatePhaseEnd_ext {outcome : Nat} {s : State} {M₀ : Nat} {a₀ : State} (hM : Within 1050118 M₀) (h₀ : Ext M₀ a₀ s) :
    Ext M₀ a₀ (updatePhaseEnd outcome s) := by
  refine Ext.via hM h₀ ?_
  clear hM h₀ M₀ a₀
  suffices H : ∀ a₀, Ext 1050118 a₀ s → Ext 1050118 a₀ (updatePhaseEnd outcome s) from H s (Ext.refl _ _)
  intro a₀ h₀
  unfold updatePhaseEnd
  repeat' first
    | with_reducible assumption
    | (with_reducible intro _; intros; try beta_reduce)
    | ((fail_if_no_progress extract_lets +onlyGivenNames t); refine Ext.cut (M := 1050118) (a := a₀) (b := t) ?_ (fun ht => ?_); rotate_left; clear_value t)
    | ((fail_if_no_progress extract_lets +onlyGivenNames u); have v : Nat := u; clear v; clear_value u)
    | ((fail_if_no_progress extract_lets +onlyGivenNames u); have v : List _ := u; clear v; clear_value u)
    | ((fail_if_no_progress extract_lets +onlyGivenNames u); have v : Option _ := u; clear v; fail_if_success (have v : Option State := u); clear_value u)
    | (fail_if_no_progress extract_lets +onlyGivenNames u)
    | with_reducible refine State.updateFail_ext (by decide) ?_
    | with_reducible refine State.put_ext (by decide) ?_
    | with_reducible refine State.setBoot_ext (by decide) ?_
    | with_reducible refine State.updateWrite_ext (by decide) ?_
    | with_reducible refine State.updateRevert_ext (by decide) ?_
    | with_reducible refine State.updateDone_ext (by decide) ?_
    | split
    | (clear_value *; split)
    | (unfold t)
    | (unfold u; try beta_reduce)
    | (refine Ext.upd ?_ ?_ ?_ ?_ ?_ ?_ ?_ ?_ ?_ ?_ ?_ ?_ ?_ ?_ ?_ ?_ ?_ ?_ ?_ ?_ <;> first | rfl | exact fun _ => rfl | exact fun h => absurd h (by decide) | skip)

theorem State.recoverySend_ext {s : State} {imm : Option Nat} {data : List Byte} {M₀ : Nat} {a₀ : State} (hM : Within 260 M₀) (h₀ : Ext M₀ a₀ s) :
    Ext M₀ a₀ (State.recoverySend s imm data) := by
  refine Ext.via hM h₀ ?_
  clear hM h₀ M₀ a₀
  suffices H : ∀ a₀, Ext 260 a₀ s → Ext 260 a₀ (State.recoverySend s imm data) from H s (Ext.refl _ _)
  intro a₀ h₀
  unfold State.recoverySend
  repeat' first
    | with_reducible assumption
    | (with_reducible intro _; intros; try beta_reduce)
    | with_reducible refine State.request_ext (by decide) ?_
    | split

theorem recoveryHello_ext {body : List Byte} {s : State} {M₀ : Nat} {a₀ : State} (hM : Within 1286 M₀) (h₀ : Ext M₀ a₀ s) :
    Ext M₀ a₀ (recoveryHello body s) := by
  refine Ext.via hM h₀ ?_
  clear hM h₀ M₀ a₀
  suffices H : ∀ a₀, Ext 1286 a₀ s → Ext 1286 a₀ (recoveryHello body s) from H s (Ext.refl _ _)
  intro a₀ h₀
  unfold recoveryHello
  repeat' first
    | with_reducible assumption
    | (with_reducible intro _; intros; try beta_reduce)
    | ((fail_if_no_progress extract_lets +onlyGivenNames t); refine Ext.cut (M := 1286) (a := a₀) (b := t) ?_ (fun ht => ?_); rotate_left; clear_value t)
    | ((fail_if_no_progress extract_lets +onlyGivenNames u); have v : Nat := u; clear v; clear_value u)
    | ((fail_if_no_progress extract_lets +onlyGivenNames u); have v : List _ := u; clear v; clear_value u)
    | ((fail_if_no_progress extract_lets +onlyGivenNames u); have v : Option _ := u; clear v; fail_if_success (have v : Option State := u); clear_value u)
    | (fail_if_no_progress extract_lets +onlyGivenNames u)
    | with_reducible refine State.random_ext (by decide) ?_
    | with_reducible refine State.setBoot_ext (by decide) ?_
    | with_reducible refine State.put_ext (by decide) ?_
    | with_reducible refine State.emit_ext (by decide) ?_
    | with_reducible refine State.recoverySend_ext (by decide) ?_
    | split
    | (clear_value *; split)
    | (unfold t)
    | (unfold u; try beta_reduce)
    | (refine Ext.upd ?_ ?_ ?_ ?_ ?_ ?_ ?_ ?_ ?_ ?_ ?_ ?_ ?_ ?_ ?_ ?_ ?_ ?_ ?_ ?_ <;> first | rfl | exact fun _ => rfl | exact fun h => absurd h (by decide) | skip)

theorem State.recoveryUnbind_ext {s : State} {M₀ : Nat} {a₀ : State} (hM : Within 1284 M₀) (h₀ : Ext M₀ a₀ s) :
    Ext M₀ a₀ (State.recoveryUnbind s) := by
  refine Ext.via hM h₀ ?_
  clear hM h₀ M₀ a₀
  suffices H : ∀ a₀, Ext 1284 a₀ s → Ext 1284 a₀ (State.recoveryUnbind s) from H s (Ext.refl _ _)
  intro a₀ h₀
  unfold State.recoveryUnbind
  repeat' first
    | with_reducible assumption
    | (with_reducible intro _; intros; try beta_reduce)
    | with_reducible refine State.setBoot_ext (by decide) ?_
    | with_reducible refine State.put_ext (by decide) ?_
    | with_reducible refine State.setQp_ext (by decide) ?_
    | split
    | (refine Ext.upd ?_ ?_ ?_ ?_ ?_ ?_ ?_ ?_ ?_ ?_ ?_ ?_ ?_ ?_ ?_ ?_ ?_ ?_ ?_ ?_ <;> first | rfl | exact fun _ => rfl | exact fun h => absurd h (by decide) | skip)

theorem State.windowToNor_ext {s : State} {n : Nat} {M₀ : Nat} {a₀ : State} (hM : Within 1024 M₀) (h₀ : Ext M₀ a₀ s) :
    Ext M₀ a₀ (State.windowToNor s n) := by
  refine Ext.via hM h₀ ?_
  clear hM h₀ M₀ a₀
  suffices H : ∀ a₀, Ext 1024 a₀ s → Ext 1024 a₀ (State.windowToNor s n) from H s (Ext.refl _ _)
  intro a₀ h₀
  unfold State.windowToNor
  repeat' first
    | with_reducible assumption
    | (with_reducible intro _; intros; try beta_reduce)
    | ((fail_if_no_progress extract_lets +onlyGivenNames t); refine Ext.cut (M := 1024) (a := a₀) (b := t) ?_ (fun ht => ?_); rotate_left; clear_value t)
    | ((fail_if_no_progress extract_lets +onlyGivenNames u); have v : Nat := u; clear v; clear_value u)
    | ((fail_if_no_progress extract_lets +onlyGivenNames u); have v : List _ := u; clear v; clear_value u)
    | ((fail_if_no_progress extract_lets +onlyGivenNames u); have v : Option _ := u; clear v; fail_if_success (have v : Option State := u); clear_value u)
    | (fail_if_no_progress extract_lets +onlyGivenNames u)
    | with_reducible refine State.setBoot_ext (by decide) ?_
    | split
    | (clear_value *; split)
    | (unfold t)
    | (unfold u; try beta_reduce)
    | (refine Ext.upd ?_ ?_ ?_ ?_ ?_ ?_ ?_ ?_ ?_ ?_ ?_ ?_ ?_ ?_ ?_ ?_ ?_ ?_ ?_ ?_ <;> first | rfl | exact fun _ => rfl | exact fun h => absurd h (by decide) | skip)

theorem State.norFree_ext {s : State} {n : Nat} {M₀ : Nat} {a₀ : State} (hM : Within 1026 M₀) (h₀ : Ext M₀ a₀ s) :
    Ext M₀ a₀ (State.norFree s n) := by
  refine Ext.via hM h₀ ?_
  clear hM h₀ M₀ a₀
  suffices H : ∀ a₀, Ext 1026 a₀ s → Ext 1026 a₀ (State.norFree s n) from H s (Ext.refl _ _)
  intro a₀ h₀
  unfold State.norFree
  repeat' first
    | with_reducible assumption
    | (with_reducible intro _; intros; try beta_reduce)
    | ((fail_if_no_progress extract_lets +onlyGivenNames t); refine Ext.cut (M := 1026) (a := a₀) (b := t) ?_ (fun ht => ?_); rotate_left; clear_value t)
    | ((fail_if_no_progress extract_lets +onlyGivenNames u); have v : Nat := u; clear v; clear_value u)
    | ((fail_if_no_progress extract_lets +onlyGivenNames u); have v : List _ := u; clear v; clear_value u)
    | ((fail_if_no_progress extract_lets +onlyGivenNames u); have v : Option _ := u; clear v; fail_if_success (have v : Option State := u); clear_value u)
    | (fail_if_no_progress extract_lets +onlyGivenNames u)
    | with_reducible refine State.setBoot_ext (by decide) ?_
    | with_reducible refine State.useFresh_ext (by decide) ?_
    | split
    | (clear_value *; split)
    | (unfold t)
    | (unfold u; try beta_reduce)
    | (refine Ext.upd ?_ ?_ ?_ ?_ ?_ ?_ ?_ ?_ ?_ ?_ ?_ ?_ ?_ ?_ ?_ ?_ ?_ ?_ ?_ ?_ <;> first | rfl | exact fun _ => rfl | exact fun h => absurd h (by decide) | skip)

theorem recoveryCommit_ext {psn : Nat} {body : List Byte} {norOk : Bool} {s : State} {M₀ : Nat} {a₀ : State} (hM : Within 1286 M₀) (h₀ : Ext M₀ a₀ s) :
    Ext M₀ a₀ (recoveryCommit psn body norOk s) := by
  refine Ext.via hM h₀ ?_
  clear hM h₀ M₀ a₀
  suffices H : ∀ a₀, Ext 1286 a₀ s → Ext 1286 a₀ (recoveryCommit psn body norOk s) from H s (Ext.refl _ _)
  intro a₀ h₀
  unfold recoveryCommit
  repeat' first
    | with_reducible assumption
    | (with_reducible intro _; intros; try beta_reduce)
    | ((fail_if_no_progress extract_lets +onlyGivenNames t); refine Ext.cut (M := 1286) (a := a₀) (b := t) ?_ (fun ht => ?_); rotate_left; clear_value t)
    | ((fail_if_no_progress extract_lets +onlyGivenNames u); have v : Nat := u; clear v; clear_value u)
    | ((fail_if_no_progress extract_lets +onlyGivenNames u); have v : List _ := u; clear v; clear_value u)
    | ((fail_if_no_progress extract_lets +onlyGivenNames u); have v : Option _ := u; clear v; fail_if_success (have v : Option State := u); clear_value u)
    | (fail_if_no_progress extract_lets +onlyGivenNames u)
    | with_reducible refine State.takePsn_ext (by decide) ?_
    | with_reducible refine State.emit_ext (by decide) ?_
    | with_reducible refine State.setBoot_ext (by decide) ?_
    | with_reducible refine State.recoverySend_ext (by decide) ?_
    | with_reducible refine State.windowToNor_ext (by decide) ?_
    | with_reducible refine State.norFree_ext (by decide) ?_
    | split
    | (clear_value *; split)
    | (unfold t)
    | (unfold u; try beta_reduce)
    | (refine Ext.upd ?_ ?_ ?_ ?_ ?_ ?_ ?_ ?_ ?_ ?_ ?_ ?_ ?_ ?_ ?_ ?_ ?_ ?_ ?_ ?_ <;> first | rfl | exact fun _ => rfl | exact fun h => absurd h (by decide) | skip)

theorem recoveryIdle_ext {s : State} {M₀ : Nat} {a₀ : State} (hM : Within 1284 M₀) (h₀ : Ext M₀ a₀ s) :
    Ext M₀ a₀ (recoveryIdle s) := by
  refine Ext.via hM h₀ ?_
  clear hM h₀ M₀ a₀
  suffices H : ∀ a₀, Ext 1284 a₀ s → Ext 1284 a₀ (recoveryIdle s) from H s (Ext.refl _ _)
  intro a₀ h₀
  unfold recoveryIdle
  repeat' first
    | with_reducible assumption
    | (with_reducible intro _; intros; try beta_reduce)
    | with_reducible refine State.recoveryUnbind_ext (by decide) ?_
    | split

theorem recoveryReset_ext {s : State} {M₀ : Nat} {a₀ : State} (hM : Within 4194303 M₀) (h₀ : Ext M₀ a₀ s) :
    Ext M₀ a₀ (recoveryReset s) := by
  refine Ext.via hM h₀ ?_
  clear hM h₀ M₀ a₀
  suffices H : ∀ a₀, Ext 4194303 a₀ s → Ext 4194303 a₀ (recoveryReset s) from H s (Ext.refl _ _)
  intro a₀ h₀
  unfold recoveryReset
  repeat' first
    | with_reducible assumption
    | (with_reducible intro _; intros; try beta_reduce)
    | with_reducible refine State.resetDevice_ext (by decide) ?_
    | split

end Sys2Proof.Machine
end

