-- ==== Sys2Proof/Laws/ExtSec.lean ====
section
/-!
SUPPORT. What each operation of Machine/Sec.lean can change: one lemma each.
-/
namespace Sys2Proof.Machine

theorem testBit_eq (v i : Nat) : testBit v i = v.testBit i := by
  simp [testBit, Nat.testBit_eq_decide_div_mod_eq, Bool.beq_eq_decide_eq]

/-- Blowing a fuse blows no other back. -/
theorem fuseBit_keeps {v k : Nat} (j : Nat) (h : testBit v j = true) : testBit (fuseBit v k) j = true := by
  rw [testBit_eq] at h ⊢
  simp [fuseBit, Nat.testBit_or, h]

theorem State.setFuses_ext {s : State} {f : Fuses} {M₀ : Nat} {a₀ : State} (hM : Within 512 M₀) (h₀ : Ext M₀ a₀ s) (hs : s.fuses.svn ≤ f.svn)
    (hr : ∀ k, testBit s.fuses.ownerRevoked k = true → testBit f.ownerRevoked k = true) : Ext M₀ a₀ (State.setFuses s f) :=
  Ext.via hM h₀ (Ext.blown (Ext.refl _ _) rfl hs hr)

theorem State.secDone_ext {s : State} {r : Nat} {M₀ : Nat} {a₀ : State} (hM : Within 6 M₀) (h₀ : Ext M₀ a₀ s) :
    Ext M₀ a₀ (State.secDone s r) := by
  refine Ext.via hM h₀ ?_
  clear hM h₀ M₀ a₀
  suffices H : ∀ a₀, Ext 6 a₀ s → Ext 6 a₀ (State.secDone s r) from H s (Ext.refl _ _)
  intro a₀ h₀
  unfold State.secDone
  repeat' first
    | with_reducible assumption
    | (with_reducible intro _; intros; try beta_reduce)
    | ((fail_if_no_progress extract_lets +onlyGivenNames t); refine Ext.cut (M := 6) (a := a₀) (b := t) ?_ (fun ht => ?_); rotate_left; clear_value t)
    | ((fail_if_no_progress extract_lets +onlyGivenNames u); have v : Nat := u; clear v; clear_value u)
    | ((fail_if_no_progress extract_lets +onlyGivenNames u); have v : List _ := u; clear v; clear_value u)
    | ((fail_if_no_progress extract_lets +onlyGivenNames u); have v : Option _ := u; clear v; fail_if_success (have v : Option State := u); clear_value u)
    | (fail_if_no_progress extract_lets +onlyGivenNames u)
    | with_reducible refine State.put_ext (by decide) ?_
    | with_reducible refine State.random_ext (by decide) ?_
    | with_reducible refine State.wr_ext (by decide) ?_
    | split
    | (clear_value *; split)
    | (unfold t)
    | (unfold u; try beta_reduce)

theorem State.ownerProgram_ext {s : State} {b : List Byte} {M₀ : Nat} {a₀ : State} (hM : Within 518 M₀) (h₀ : Ext M₀ a₀ s) : Ext M₀ a₀ (State.ownerProgram s b) := by
  unfold State.ownerProgram
  extract_lets k f hashes
  split
  · exact State.secDone_ext (Within.trans (by decide) hM) h₀
  split
  · exact State.secDone_ext (Within.trans (by decide) hM) h₀
  · exact State.secDone_ext (Within.trans (by decide) hM) (State.showFuses_ext (Within.trans (by decide) hM)
      (State.setFuses_ext (Within.trans (by decide) hM) h₀ (Nat.le_refl _) fun _ h => h))

theorem State.ownerRevoke_ext {s : State} {b : List Byte} {M₀ : Nat} {a₀ : State} (hM : Within 518 M₀) (h₀ : Ext M₀ a₀ s) : Ext M₀ a₀ (State.ownerRevoke s b) := by
  unfold State.ownerRevoke
  extract_lets k
  split
  · exact State.secDone_ext (Within.trans (by decide) hM) h₀
  · exact State.secDone_ext (Within.trans (by decide) hM) (State.showFuses_ext (Within.trans (by decide) hM)
      (State.setFuses_ext (Within.trans (by decide) hM) h₀ (Nat.le_refl _) fun j h => fuseBit_keeps j h))

theorem State.setKey_ext {s : State} {k : Nat} {key : List Byte} {M₀ : Nat} {a₀ : State} (hM : Within 2052 M₀) (h₀ : Ext M₀ a₀ s) :
    Ext M₀ a₀ (State.setKey s k key) := by
  refine Ext.via hM h₀ ?_
  clear hM h₀ M₀ a₀
  suffices H : ∀ a₀, Ext 2052 a₀ s → Ext 2052 a₀ (State.setKey s k key) from H s (Ext.refl _ _)
  intro a₀ h₀
  unfold State.setKey
  repeat' first
    | with_reducible assumption
    | (with_reducible intro _; intros; try beta_reduce)
    | ((fail_if_no_progress extract_lets +onlyGivenNames t); refine Ext.cut (M := 2052) (a := a₀) (b := t) ?_ (fun ht => ?_); rotate_left; clear_value t)
    | ((fail_if_no_progress extract_lets +onlyGivenNames u); have v : Nat := u; clear v; clear_value u)
    | ((fail_if_no_progress extract_lets +onlyGivenNames u); have v : List _ := u; clear v; clear_value u)
    | ((fail_if_no_progress extract_lets +onlyGivenNames u); have v : Option _ := u; clear v; fail_if_success (have v : Option State := u); clear_value u)
    | (fail_if_no_progress extract_lets +onlyGivenNames u)
    | with_reducible refine State.setSec_ext (by decide) ?_
    | with_reducible refine State.putB_ext (by decide) ?_
    | split
    | (clear_value *; split)
    | (unfold t)
    | (unfold u; try beta_reduce)
    | (refine Ext.upd ?_ ?_ ?_ ?_ ?_ ?_ ?_ ?_ ?_ ?_ ?_ ?_ ?_ ?_ ?_ ?_ ?_ ?_ ?_ ?_ <;> first | rfl | exact fun _ => rfl | exact fun h => absurd h (by decide) | skip)

theorem State.keyLoad_ext {s : State} {b : List Byte} {M₀ : Nat} {a₀ : State} (hM : Within 2054 M₀) (h₀ : Ext M₀ a₀ s) :
    Ext M₀ a₀ (State.keyLoad s b) := by
  refine Ext.via hM h₀ ?_
  clear hM h₀ M₀ a₀
  suffices H : ∀ a₀, Ext 2054 a₀ s → Ext 2054 a₀ (State.keyLoad s b) from H s (Ext.refl _ _)
  intro a₀ h₀
  unfold State.keyLoad
  repeat' first
    | with_reducible assumption
    | (with_reducible intro _; intros; try beta_reduce)
    | with_reducible refine State.setKey_ext (by decide) ?_
    | with_reducible refine State.secDone_ext (by decide) ?_
    | split

theorem State.secGo_ext {s : State} {w : Writer} {off : Nat} {go : Bool} {eff : State → List Byte → State} {M₀ : Nat} {a₀ : State} (hM : Within 134 M₀) (h₀ : Ext M₀ a₀ s)
    (hf : ∀ t b, Ext M₀ a₀ t → Ext M₀ a₀ (eff t b)) : Ext M₀ a₀ (s.secGo w off go eff) := by
  have hb : Within 132 M₀ := Within.trans (by decide) hM
  have hd : Within 6 M₀ := Within.trans (by decide) hM
  unfold State.secGo
  extract_lets v
  refine State.regWrite_ext (Within.trans (by decide) hM) h₀ (fun t ht => ?_)
  beta_reduce
  split
  · exact ht
  split
  · exact State.badWrite_ext hb ht
  split
  · exact State.secDone_ext hd ht
  split
  · exact State.secDone_ext hd ht
  · exact hf _ _ ht

theorem ownerProgram_ext {w : Writer} {off : Nat} {go : Bool} {s : State} {M₀ : Nat} {a₀ : State} (hM : Within 646 M₀) (h₀ : Ext M₀ a₀ s) :
    Ext M₀ a₀ (ownerProgram w off go s) := by
  refine Ext.via hM h₀ ?_
  clear hM h₀ M₀ a₀
  suffices H : ∀ a₀, Ext 646 a₀ s → Ext 646 a₀ (ownerProgram w off go s) from H s (Ext.refl _ _)
  intro a₀ h₀
  unfold ownerProgram
  repeat' first
    | with_reducible assumption
    | (with_reducible intro _; intros; try beta_reduce)
    | with_reducible refine State.secGo_ext (by decide) ?_ ?_
    | with_reducible refine State.ownerProgram_ext (by decide) ?_
    | split

theorem ownerRevoke_ext {w : Writer} {off : Nat} {go : Bool} {s : State} {M₀ : Nat} {a₀ : State} (hM : Within 646 M₀) (h₀ : Ext M₀ a₀ s) :
    Ext M₀ a₀ (ownerRevoke w off go s) := by
  refine Ext.via hM h₀ ?_
  clear hM h₀ M₀ a₀
  suffices H : ∀ a₀, Ext 646 a₀ s → Ext 646 a₀ (ownerRevoke w off go s) from H s (Ext.refl _ _)
  intro a₀ h₀
  unfold ownerRevoke
  repeat' first
    | with_reducible assumption
    | (with_reducible intro _; intros; try beta_reduce)
    | with_reducible refine State.secGo_ext (by decide) ?_ ?_
    | with_reducible refine State.ownerRevoke_ext (by decide) ?_
    | split

theorem keyLoad_ext {w : Writer} {off : Nat} {go : Bool} {s : State} {M₀ : Nat} {a₀ : State} (hM : Within 2182 M₀) (h₀ : Ext M₀ a₀ s) :
    Ext M₀ a₀ (keyLoad w off go s) := by
  refine Ext.via hM h₀ ?_
  clear hM h₀ M₀ a₀
  suffices H : ∀ a₀, Ext 2182 a₀ s → Ext 2182 a₀ (keyLoad w off go s) from H s (Ext.refl _ _)
  intro a₀ h₀
  unfold keyLoad
  repeat' first
    | with_reducible assumption
    | (with_reducible intro _; intros; try beta_reduce)
    | with_reducible refine State.secGo_ext (by decide) ?_ ?_
    | with_reducible refine State.keyLoad_ext (by decide) ?_
    | split

theorem keyClear_ext {w : Writer} {off : Nat} {go : Bool} {s : State} {M₀ : Nat} {a₀ : State} (hM : Within 2182 M₀) (h₀ : Ext M₀ a₀ s) :
    Ext M₀ a₀ (keyClear w off go s) := by
  refine Ext.via hM h₀ ?_
  clear hM h₀ M₀ a₀
  suffices H : ∀ a₀, Ext 2182 a₀ s → Ext 2182 a₀ (keyClear w off go s) from H s (Ext.refl _ _)
  intro a₀ h₀
  unfold keyClear
  repeat' first
    | with_reducible assumption
    | (with_reducible intro _; intros; try beta_reduce)
    | with_reducible refine State.secGo_ext (by decide) ?_ ?_
    | with_reducible refine State.setKey_ext (by decide) ?_
    | with_reducible refine State.secDone_ext (by decide) ?_
    | split

theorem secCommand_ext {w : Writer} {off : Nat} {go : Bool} {s : State} {M₀ : Nat} {a₀ : State} (hM : Within 2694 M₀) (h₀ : Ext M₀ a₀ s) :
    Ext M₀ a₀ (secCommand w off go s) := by
  refine Ext.via hM h₀ ?_
  clear hM h₀ M₀ a₀
  suffices H : ∀ a₀, Ext 2694 a₀ s → Ext 2694 a₀ (secCommand w off go s) from H s (Ext.refl _ _)
  intro a₀ h₀
  unfold secCommand
  repeat' first
    | with_reducible assumption
    | (with_reducible intro _; intros; try beta_reduce)
    | with_reducible refine State.ownerProgram_ext (by decide) ?_
    | with_reducible refine ownerProgram_ext (by decide) ?_
    | with_reducible refine State.ownerRevoke_ext (by decide) ?_
    | with_reducible refine ownerRevoke_ext (by decide) ?_
    | with_reducible refine State.keyLoad_ext (by decide) ?_
    | with_reducible refine keyLoad_ext (by decide) ?_
    | with_reducible refine keyClear_ext (by decide) ?_
    | with_reducible refine State.regWrite_ext (by decide) ?_ ?_
    | with_reducible refine State.badWrite_ext (by decide) ?_
    | with_reducible refine State.secDone_ext (by decide) ?_
    | split

theorem secAttestGo_ext {w : Writer} {go : Bool} {s : State} {M₀ : Nat} {a₀ : State} (hM : Within 2180 M₀) (h₀ : Ext M₀ a₀ s) :
    Ext M₀ a₀ (secAttestGo w go s) := by
  refine Ext.via hM h₀ ?_
  clear hM h₀ M₀ a₀
  suffices H : ∀ a₀, Ext 2180 a₀ s → Ext 2180 a₀ (secAttestGo w go s) from H s (Ext.refl _ _)
  intro a₀ h₀
  unfold secAttestGo
  repeat' first
    | with_reducible assumption
    | (with_reducible intro _; intros; try beta_reduce)
    | ((fail_if_no_progress extract_lets +onlyGivenNames t); refine Ext.cut (M := 2180) (a := a₀) (b := t) ?_ (fun ht => ?_); rotate_left; clear_value t)
    | ((fail_if_no_progress extract_lets +onlyGivenNames u); have v : Nat := u; clear v; clear_value u)
    | ((fail_if_no_progress extract_lets +onlyGivenNames u); have v : List _ := u; clear v; clear_value u)
    | ((fail_if_no_progress extract_lets +onlyGivenNames u); have v : Option _ := u; clear v; fail_if_success (have v : Option State := u); clear_value u)
    | (fail_if_no_progress extract_lets +onlyGivenNames u)
    | with_reducible refine State.regWrite_ext (by decide) ?_ ?_
    | with_reducible refine State.setSec_ext (by decide) ?_
    | with_reducible refine State.put_ext (by decide) ?_
    | split
    | (clear_value *; split)
    | (unfold t)
    | (unfold u; try beta_reduce)
    | (refine Ext.upd ?_ ?_ ?_ ?_ ?_ ?_ ?_ ?_ ?_ ?_ ?_ ?_ ?_ ?_ ?_ ?_ ?_ ?_ ?_ ?_ <;> first | rfl | exact fun _ => rfl | exact fun h => absurd h (by decide) | skip)

theorem attestReportReady_ext {s : State} {M₀ : Nat} {a₀ : State} (hM : Within 2052 M₀) (h₀ : Ext M₀ a₀ s) :
    Ext M₀ a₀ (attestReportReady s) := by
  refine Ext.via hM h₀ ?_
  clear hM h₀ M₀ a₀
  suffices H : ∀ a₀, Ext 2052 a₀ s → Ext 2052 a₀ (attestReportReady s) from H s (Ext.refl _ _)
  intro a₀ h₀
  unfold attestReportReady
  repeat' first
    | with_reducible assumption
    | (with_reducible intro _; intros; try beta_reduce)
    | ((fail_if_no_progress extract_lets +onlyGivenNames t); refine Ext.cut (M := 2052) (a := a₀) (b := t) ?_ (fun ht => ?_); rotate_left; clear_value t)
    | ((fail_if_no_progress extract_lets +onlyGivenNames u); have v : Nat := u; clear v; clear_value u)
    | ((fail_if_no_progress extract_lets +onlyGivenNames u); have v : List _ := u; clear v; clear_value u)
    | ((fail_if_no_progress extract_lets +onlyGivenNames u); have v : Option _ := u; clear v; fail_if_success (have v : Option State := u); clear_value u)
    | (fail_if_no_progress extract_lets +onlyGivenNames u)
    | with_reducible refine State.wr_ext (by decide) ?_
    | with_reducible refine State.setSec_ext (by decide) ?_
    | with_reducible refine State.put_ext (by decide) ?_
    | (with_reducible refine Ext.foldl _ ?_ ?_)
    | (with_reducible refine Ext.foldl_fst _ ?_ ?_)
    | split
    | (clear_value *; split)
    | (unfold t)
    | (unfold u; try beta_reduce)
    | (refine Ext.upd ?_ ?_ ?_ ?_ ?_ ?_ ?_ ?_ ?_ ?_ ?_ ?_ ?_ ?_ ?_ ?_ ?_ ?_ ?_ ?_ <;> first | rfl | exact fun _ => rfl | exact fun h => absurd h (by decide) | skip)

end Sys2Proof.Machine
end

