-- ==== Sys2Proof/Laws/ExtControlSpace.lean ====
section
/-!
SUPPORT. What each operation of Machine/ControlSpace.lean can change: one lemma each.
-/
namespace Sys2Proof.Machine

theorem State.plainWrite_ext {s : State} {w : Writer} {off v : Nat} {M₀ : Nat} {a₀ : State} (hM : Within 132 M₀) (h₀ : Ext M₀ a₀ s) :
    Ext M₀ a₀ (State.plainWrite s w off v) := by
  refine Ext.via hM h₀ ?_
  clear hM h₀ M₀ a₀
  suffices H : ∀ a₀, Ext 132 a₀ s → Ext 132 a₀ (State.plainWrite s w off v) from H s (Ext.refl _ _)
  intro a₀ h₀
  unfold State.plainWrite
  repeat' first
    | with_reducible assumption
    | (with_reducible intro _; intros; try beta_reduce)
    | with_reducible refine State.regWrite_ext (by decide) ?_ ?_
    | with_reducible refine State.writeFields_ext (by decide) ?_
    | with_reducible refine Ext.ite ?_ ?_
    | split

theorem State.plainWriteIf_ext {s : State} {w : Writer} {off v : Nat} {ok : State → Bool} {M₀ : Nat} {a₀ : State} (hM : Within 132 M₀) (h₀ : Ext M₀ a₀ s) :
    Ext M₀ a₀ (State.plainWriteIf s w off v ok) := by
  refine Ext.via hM h₀ ?_
  clear hM h₀ M₀ a₀
  suffices H : ∀ a₀, Ext 132 a₀ s → Ext 132 a₀ (State.plainWriteIf s w off v ok) from H s (Ext.refl _ _)
  intro a₀ h₀
  unfold State.plainWriteIf
  repeat' first
    | with_reducible assumption
    | (with_reducible intro _; intros; try beta_reduce)
    | with_reducible refine State.regWrite_ext (by decide) ?_ ?_
    | with_reducible refine State.writeFields_ext (by decide) ?_
    | with_reducible refine State.badWrite_ext (by decide) ?_
    | with_reducible refine Ext.ite ?_ ?_
    | split

theorem State.qpCfgWrite_ext {s : State} {w : Writer} {q v : Nat} {M₀ : Nat} {a₀ : State} (hM : Within 300484 M₀) (h₀ : Ext M₀ a₀ s) :
    Ext M₀ a₀ (State.qpCfgWrite s w q v) := by
  refine Ext.via hM h₀ ?_
  clear hM h₀ M₀ a₀
  suffices H : ∀ a₀, Ext 300484 a₀ s → Ext 300484 a₀ (State.qpCfgWrite s w q v) from H s (Ext.refl _ _)
  intro a₀ h₀
  unfold State.qpCfgWrite
  repeat' first
    | with_reducible assumption
    | (with_reducible intro _; intros; try beta_reduce)
    | with_reducible refine qpToReady_ext (by decide) ?_
    | with_reducible refine qpToReset_ext (by decide) ?_
    | with_reducible refine State.regWrite_ext (by decide) ?_ ?_
    | with_reducible refine State.badWrite_ext (by decide) ?_
    | with_reducible refine Ext.ite ?_ ?_
    | split

theorem State.evrecClearWrite_ext {s : State} {w : Writer} {v : Nat} {M₀ : Nat} {a₀ : State} (hM : Within 454 M₀) (h₀ : Ext M₀ a₀ s) :
    Ext M₀ a₀ (State.evrecClearWrite s w v) := by
  refine Ext.via hM h₀ ?_
  clear hM h₀ M₀ a₀
  suffices H : ∀ a₀, Ext 454 a₀ s → Ext 454 a₀ (State.evrecClearWrite s w v) from H s (Ext.refl _ _)
  intro a₀ h₀
  unfold State.evrecClearWrite
  repeat' first
    | with_reducible assumption
    | (with_reducible intro _; intros; try beta_reduce)
    | with_reducible refine evrecClearAll_ext (by decide) ?_
    | with_reducible refine evrecClearPinned_ext (by decide) ?_
    | with_reducible refine State.badWrite_ext (by decide) ?_
    | with_reducible refine Ext.ite ?_ ?_
    | split

theorem State.restoreGoWrite_ext {s : State} {w : Writer} {v : Nat} {M₀ : Nat} {a₀ : State} (hM : Within 263556 M₀) (h₀ : Ext M₀ a₀ s) :
    Ext M₀ a₀ (State.restoreGoWrite s w v) := by
  refine Ext.via hM h₀ ?_
  clear hM h₀ M₀ a₀
  suffices H : ∀ a₀, Ext 263556 a₀ s → Ext 263556 a₀ (State.restoreGoWrite s w v) from H s (Ext.refl _ _)
  intro a₀ h₀
  unfold State.restoreGoWrite
  repeat' first
    | with_reducible assumption
    | (with_reducible intro _; intros; try beta_reduce)
    | ((fail_if_no_progress extract_lets +onlyGivenNames t); refine Ext.cut (M := 263556) (a := a₀) (b := t) ?_ (fun ht => ?_); rotate_left; clear_value t)
    | ((fail_if_no_progress extract_lets +onlyGivenNames u); have v : Nat := u; clear v; clear_value u)
    | ((fail_if_no_progress extract_lets +onlyGivenNames u); have v : List _ := u; clear v; clear_value u)
    | ((fail_if_no_progress extract_lets +onlyGivenNames u); have v : Option _ := u; clear v; fail_if_success (have v : Option State := u); clear_value u)
    | (fail_if_no_progress extract_lets +onlyGivenNames u)
    | with_reducible refine State.regWrite_ext (by decide) ?_ ?_
    | with_reducible refine restoreSaddle_ext (by decide) ?_
    | with_reducible refine restoreFlash_ext (by decide) ?_
    | with_reducible refine restoreRemote_ext (by decide) ?_
    | with_reducible refine restoreTwin_ext (by decide) ?_
    | with_reducible refine Ext.ite ?_ ?_
    | split
    | (clear_value *; split)
    | (unfold t)
    | (unfold u; try beta_reduce)

theorem State.evalwinWrite_ext {s : State} {w : Writer} {n v : Nat} {M₀ : Nat} {a₀ : State} (hM : Within 132 M₀) (h₀ : Ext M₀ a₀ s) :
    Ext M₀ a₀ (State.evalwinWrite s w n v) := by
  refine Ext.via hM h₀ ?_
  clear hM h₀ M₀ a₀
  suffices H : ∀ a₀, Ext 132 a₀ s → Ext 132 a₀ (State.evalwinWrite s w n v) from H s (Ext.refl _ _)
  intro a₀ h₀
  unfold State.evalwinWrite
  repeat' first
    | with_reducible assumption
    | (with_reducible intro _; intros; try beta_reduce)
    | ((fail_if_no_progress extract_lets +onlyGivenNames t); refine Ext.cut (M := 132) (a := a₀) (b := t) ?_ (fun ht => ?_); rotate_left; clear_value t)
    | ((fail_if_no_progress extract_lets +onlyGivenNames u); have v : Nat := u; clear v; clear_value u)
    | ((fail_if_no_progress extract_lets +onlyGivenNames u); have v : List _ := u; clear v; clear_value u)
    | ((fail_if_no_progress extract_lets +onlyGivenNames u); have v : Option _ := u; clear v; fail_if_success (have v : Option State := u); clear_value u)
    | (fail_if_no_progress extract_lets +onlyGivenNames u)
    | with_reducible refine State.regWrite_ext (by decide) ?_ ?_
    | with_reducible refine State.put_ext (by decide) ?_
    | with_reducible refine evalwinEnable_ext (by decide) ?_
    | with_reducible refine evalwinDisable_ext (by decide) ?_
    | with_reducible refine Ext.ite ?_ ?_
    | split
    | (clear_value *; split)
    | (unfold t)
    | (unfold u; try beta_reduce)

theorem State.writeCtl_ext {s : State} {w : Writer} {base i off v : Nat} {M₀ : Nat} {a₀ : State} (hM : Within 168390 M₀) (h₀ : Ext M₀ a₀ s) :
    Ext M₀ a₀ (State.writeCtl s w base i off v) := by
  refine Ext.via hM h₀ ?_
  clear hM h₀ M₀ a₀
  suffices H : ∀ a₀, Ext 168390 a₀ s → Ext 168390 a₀ (State.writeCtl s w base i off v) from H s (Ext.refl _ _)
  intro a₀ h₀
  unfold State.writeCtl
  repeat' first
    | with_reducible assumption
    | (with_reducible intro _; intros; try beta_reduce)
    | with_reducible refine abortReq_ext (by decide) ?_
    | with_reducible refine State.regWrite_ext (by decide) ?_ ?_
    | with_reducible refine rngSeedWrite_ext (by decide) ?_
    | with_reducible refine State.plainWriteIf_ext (by decide) ?_
    | with_reducible refine replayEnable_ext (by decide) ?_
    | with_reducible refine cqEnable_ext (by decide) ?_
    | with_reducible refine cqDisable_ext (by decide) ?_
    | with_reducible refine State.drainNotices_ext (by decide) ?_
    | with_reducible refine State.writeFields_ext (by decide) ?_
    | with_reducible refine wqBaseWrite_ext (by decide) ?_
    | with_reducible refine wqEnable_ext (by decide) ?_
    | with_reducible refine wqDisable_ext (by decide) ?_
    | with_reducible refine wqTailWrite_ext (by decide) ?_
    | with_reducible refine cqHeadWrite_ext (by decide) ?_
    | with_reducible refine depctrWrite_ext (by decide) ?_
    | with_reducible refine State.plainWrite_ext (by decide) ?_
    | with_reducible refine Ext.ite ?_ ?_
    | split

theorem State.writeCompute_ext {s : State} {w : Writer} {base i off v : Nat} {M₀ : Nat} {a₀ : State} (hM : Within 53444 M₀) (h₀ : Ext M₀ a₀ s) :
    Ext M₀ a₀ (State.writeCompute s w base i off v) := by
  refine Ext.via hM h₀ ?_
  clear hM h₀ M₀ a₀
  suffices H : ∀ a₀, Ext 53444 a₀ s → Ext 53444 a₀ (State.writeCompute s w base i off v) from H s (Ext.refl _ _)
  intro a₀ h₀
  unfold State.writeCompute
  repeat' first
    | with_reducible assumption
    | (with_reducible intro _; intros; try beta_reduce)
    | with_reducible refine strmOpen_ext (by decide) ?_
    | with_reducible refine State.badWrite_ext (by decide) ?_
    | with_reducible refine strmClose_ext (by decide) ?_
    | with_reducible refine strmRingTail_ext (by decide) ?_
    | with_reducible refine State.regWrite_ext (by decide) ?_ ?_
    | with_reducible refine strmResync_ext (by decide) ?_
    | with_reducible refine State.writeFields_ext (by decide) ?_
    | with_reducible refine State.arrUpdate_ext (by decide) ?_
    | with_reducible refine aryRepairReq_ext (by decide) ?_
    | with_reducible refine aryInject_ext (by decide) ?_
    | with_reducible refine teSpareCtrl_ext (by decide) ?_
    | with_reducible refine State.plainWrite_ext (by decide) ?_
    | with_reducible refine Ext.ite ?_ ?_
    | split

theorem State.writeMiddle_ext {s : State} {w : Writer} {base i off v : Nat} {M₀ : Nat} {a₀ : State} (hM : Within 2093558 M₀) (h₀ : Ext M₀ a₀ s) :
    Ext M₀ a₀ (State.writeMiddle s w base i off v) := by
  refine Ext.via hM h₀ ?_
  clear hM h₀ M₀ a₀
  suffices H : ∀ a₀, Ext 2093558 a₀ s → Ext 2093558 a₀ (State.writeMiddle s w base i off v) from H s (Ext.refl _ _)
  intro a₀ h₀
  unfold State.writeMiddle
  repeat' first
    | with_reducible assumption
    | (with_reducible intro _; intros; try beta_reduce)
    | with_reducible refine State.regWrite_ext (by decide) ?_ ?_
    | with_reducible refine writeMapoutReq_ext (by decide) ?_
    | with_reducible refine writeMapoutAck_ext (by decide) ?_
    | with_reducible refine writeRetrainReq_ext (by decide) ?_
    | with_reducible refine writeHsmTest_ext (by decide) ?_
    | with_reducible refine State.lnkCtrl_ext (by decide) ?_
    | with_reducible refine reinCapWrite_ext (by decide) ?_
    | with_reducible refine cinchEnable_ext (by decide) ?_
    | with_reducible refine cinchDisable_ext (by decide) ?_
    | with_reducible refine cinchTest_ext (by decide) ?_
    | with_reducible refine thmSaveTest_ext (by decide) ?_
    | with_reducible refine State.evrecClearWrite_ext (by decide) ?_
    | with_reducible refine State.plainWrite_ext (by decide) ?_
    | with_reducible refine Ext.ite ?_ ?_
    | split

theorem State.writeLast_ext {s : State} {w : Writer} {base i off v : Nat} {M₀ : Nat} {a₀ : State} (hM : Within 2596806 M₀) (h₀ : Ext M₀ a₀ s) :
    Ext M₀ a₀ (State.writeLast s w base i off v) := by
  refine Ext.via hM h₀ ?_
  clear hM h₀ M₀ a₀
  suffices H : ∀ a₀, Ext 2596806 a₀ s → Ext 2596806 a₀ (State.writeLast s w base i off v) from H s (Ext.refl _ _)
  intro a₀ h₀
  unfold State.writeLast
  repeat' first
    | with_reducible assumption
    | (with_reducible intro _; intros; try beta_reduce)
    | with_reducible refine bootDeltaGo_ext (by decide) ?_
    | with_reducible refine bootUpdateGo_ext (by decide) ?_
    | with_reducible refine secCommand_ext (by decide) ?_
    | with_reducible refine secAttestGo_ext (by decide) ?_
    | with_reducible refine mrWrite_ext (by decide) ?_
    | with_reducible refine State.qpCfgWrite_ext (by decide) ?_
    | with_reducible refine State.plainWriteIf_ext (by decide) ?_
    | with_reducible refine snapPin_ext (by decide) ?_
    | with_reducible refine snapUnpin_ext (by decide) ?_
    | with_reducible refine State.restoreGoWrite_ext (by decide) ?_
    | with_reducible refine snapCountFloorWrite_ext (by decide) ?_
    | with_reducible refine State.regWrite_ext (by decide) ?_ ?_
    | with_reducible refine State.writeFields_ext (by decide) ?_
    | with_reducible refine State.modeUpdate_ext (by decide) ?_
    | with_reducible refine handbackGoWrite_ext (by decide) ?_
    | with_reducible refine State.evalwinWrite_ext (by decide) ?_
    | with_reducible refine State.plainWrite_ext (by decide) ?_
    | with_reducible refine Ext.ite ?_ ?_
    | split

theorem State.writeReg_ext {s : State} {w : Writer} {off v : Nat} {M₀ : Nat} {a₀ : State} (hM : Within 4194294 M₀) (h₀ : Ext M₀ a₀ s) :
    Ext M₀ a₀ (State.writeReg s w off v) := by
  refine Ext.via hM h₀ ?_
  clear hM h₀ M₀ a₀
  suffices H : ∀ a₀, Ext 4194294 a₀ s → Ext 4194294 a₀ (State.writeReg s w off v) from H s (Ext.refl _ _)
  intro a₀ h₀
  unfold State.writeReg
  repeat' first
    | with_reducible assumption
    | (with_reducible intro _; intros; try beta_reduce)
    | ((fail_if_no_progress extract_lets +onlyGivenNames t); refine Ext.cut (M := 4194294) (a := a₀) (b := t) ?_ (fun ht => ?_); rotate_left; clear_value t)
    | ((fail_if_no_progress extract_lets +onlyGivenNames u); have v : Nat := u; clear v; clear_value u)
    | ((fail_if_no_progress extract_lets +onlyGivenNames u); have v : List _ := u; clear v; clear_value u)
    | ((fail_if_no_progress extract_lets +onlyGivenNames u); have v : Option _ := u; clear v; fail_if_success (have v : Option State := u); clear_value u)
    | (fail_if_no_progress extract_lets +onlyGivenNames u)
    | with_reducible refine State.badWrite_ext (by decide) ?_
    | with_reducible refine State.writeCtl_ext (by decide) ?_
    | with_reducible refine State.writeCompute_ext (by decide) ?_
    | with_reducible refine State.writeMiddle_ext (by decide) ?_
    | with_reducible refine State.writeLast_ext (by decide) ?_
    | with_reducible refine Ext.ite ?_ ?_
    | split
    | (clear_value *; split)
    | (unfold t)
    | (unfold u; try beta_reduce)

theorem registerWrite_ext {w : Writer} {off v : Nat} {s : State} {M₀ : Nat} {a₀ : State} (hM : Within 4194294 M₀) (h₀ : Ext M₀ a₀ s) :
    Ext M₀ a₀ (registerWrite w off v s) := by
  refine Ext.via hM h₀ ?_
  clear hM h₀ M₀ a₀
  suffices H : ∀ a₀, Ext 4194294 a₀ s → Ext 4194294 a₀ (registerWrite w off v s) from H s (Ext.refl _ _)
  intro a₀ h₀
  unfold registerWrite
  repeat' first
    | with_reducible assumption
    | (with_reducible intro _; intros; try beta_reduce)
    | with_reducible refine State.writeReg_ext (by decide) ?_
    | with_reducible refine Ext.ite ?_ ?_
    | split

theorem State.readEffect_ext {s : State} {off : Nat} {M₀ : Nat} {a₀ : State} (hM : Within 132 M₀) (h₀ : Ext M₀ a₀ s) :
    Ext M₀ a₀ (State.readEffect s off) := by
  refine Ext.via hM h₀ ?_
  clear hM h₀ M₀ a₀
  suffices H : ∀ a₀, Ext 132 a₀ s → Ext 132 a₀ (State.readEffect s off) from H s (Ext.refl _ _)
  intro a₀ h₀
  unfold State.readEffect
  repeat' first
    | with_reducible assumption
    | (with_reducible intro _; intros; try beta_reduce)
    | ((fail_if_no_progress extract_lets +onlyGivenNames t); refine Ext.cut (M := 132) (a := a₀) (b := t) ?_ (fun ht => ?_); rotate_left; clear_value t)
    | ((fail_if_no_progress extract_lets +onlyGivenNames u); have v : Nat := u; clear v; clear_value u)
    | ((fail_if_no_progress extract_lets +onlyGivenNames u); have v : List _ := u; clear v; clear_value u)
    | ((fail_if_no_progress extract_lets +onlyGivenNames u); have v : Option _ := u; clear v; fail_if_success (have v : Option State := u); clear_value u)
    | (fail_if_no_progress extract_lets +onlyGivenNames u)
    | with_reducible refine State.setRec_ext (by decide) ?_
    | with_reducible refine State.bumpSat_ext (by decide) ?_
    | with_reducible refine State.put_ext (by decide) ?_
    | (with_reducible refine Ext.foldl _ ?_ ?_)
    | (with_reducible refine Ext.foldl_fst _ ?_ ?_)
    | with_reducible refine Ext.ite ?_ ?_
    | split
    | (clear_value *; split)
    | (unfold t)
    | (unfold u; try beta_reduce)
    | (refine Ext.upd ?_ ?_ ?_ ?_ ?_ ?_ ?_ ?_ ?_ ?_ ?_ ?_ ?_ ?_ ?_ ?_ ?_ ?_ ?_ ?_ <;> first | rfl | exact fun _ => rfl | exact fun h => absurd h (by decide) | skip)

theorem readClear_ext {off : Nat} {s : State} {M₀ : Nat} {a₀ : State} (hM : Within 140 M₀) (h₀ : Ext M₀ a₀ s) :
    Ext M₀ a₀ (readClear off s) := by
  refine Ext.via hM h₀ ?_
  clear hM h₀ M₀ a₀
  suffices H : ∀ a₀, Ext 140 a₀ s → Ext 140 a₀ (readClear off s) from H s (Ext.refl _ _)
  intro a₀ h₀
  unfold readClear
  repeat' first
    | with_reducible assumption
    | (with_reducible intro _; intros; try beta_reduce)
    | ((fail_if_no_progress extract_lets +onlyGivenNames t); refine Ext.cut (M := 140) (a := a₀) (b := t) ?_ (fun ht => ?_); rotate_left; clear_value t)
    | ((fail_if_no_progress extract_lets +onlyGivenNames u); have v : Nat := u; clear v; clear_value u)
    | ((fail_if_no_progress extract_lets +onlyGivenNames u); have v : List _ := u; clear v; clear_value u)
    | ((fail_if_no_progress extract_lets +onlyGivenNames u); have v : Option _ := u; clear v; fail_if_success (have v : Option State := u); clear_value u)
    | (fail_if_no_progress extract_lets +onlyGivenNames u)
    | with_reducible refine State.readEffect_ext (by decide) ?_
    | with_reducible refine State.setReadData_ext (by decide) ?_
    | with_reducible refine Ext.ite ?_ ?_
    | split
    | (clear_value *; split)
    | (unfold t)
    | (unfold u; try beta_reduce)

theorem unassignedAccess_ext {off : Nat} {write : Option Nat} {s : State} {M₀ : Nat} {a₀ : State} (hM : Within 140 M₀) (h₀ : Ext M₀ a₀ s) :
    Ext M₀ a₀ (unassignedAccess off write s) := by
  refine Ext.via hM h₀ ?_
  clear hM h₀ M₀ a₀
  suffices H : ∀ a₀, Ext 140 a₀ s → Ext 140 a₀ (unassignedAccess off write s) from H s (Ext.refl _ _)
  intro a₀ h₀
  unfold unassignedAccess
  repeat' first
    | with_reducible assumption
    | (with_reducible intro _; intros; try beta_reduce)
    | with_reducible refine State.badWrite_ext (by decide) ?_
    | with_reducible refine State.setReadData_ext (by decide) ?_
    | with_reducible refine Ext.ite ?_ ?_
    | split

end Sys2Proof.Machine
end

