-- ==== Sys2Proof/Laws/ExtHostAccess.lean ====
section
/-!
SUPPORT. What each operation of Machine/HostAccess.lean can change: one lemma each.
-/
namespace Sys2Proof.Machine

theorem State.accessNak_ext {s : State} {q psn : Nat} {M₀ : Nat} {a₀ : State} (hM : Within 260 M₀) (h₀ : Ext M₀ a₀ s) :
    Ext M₀ a₀ (State.accessNak s q psn) := by
  refine Ext.via hM h₀ ?_
  clear hM h₀ M₀ a₀
  suffices H : ∀ a₀, Ext 260 a₀ s → Ext 260 a₀ (State.accessNak s q psn) from H s (Ext.refl _ _)
  intro a₀ h₀
  unfold State.accessNak
  repeat' first
    | with_reducible assumption
    | (with_reducible intro _; intros; try beta_reduce)
    | with_reducible refine State.bumpSat_ext (by decide) ?_
    | with_reducible refine State.emit_ext (by decide) ?_
    | split

theorem State.partialAccess_ext {s : State} {off : Nat} {M₀ : Nat} {a₀ : State} (hM : Within 132 M₀) (h₀ : Ext M₀ a₀ s) :
    Ext M₀ a₀ (State.partialAccess s off) := by
  refine Ext.via hM h₀ ?_
  clear hM h₀ M₀ a₀
  suffices H : ∀ a₀, Ext 132 a₀ s → Ext 132 a₀ (State.partialAccess s off) from H s (Ext.refl _ _)
  intro a₀ h₀
  unfold State.partialAccess
  repeat' first
    | with_reducible assumption
    | (with_reducible intro _; intros; try beta_reduce)
    | with_reducible refine State.bumpSat_ext (by decide) ?_
    | with_reducible refine State.generic_ext (by decide) ?_
    | split

theorem State.writeSlot_ext {s : State} {q : Nat} {e : Nat × Nat × Nat} {data : List Byte} {M₀ : Nat} {a₀ : State} (hM : Within 4194294 M₀) (h₀ : Ext M₀ a₀ s) :
    Ext M₀ a₀ (State.writeSlot s q e data) := by
  refine Ext.via hM h₀ ?_
  clear hM h₀ M₀ a₀
  suffices H : ∀ a₀, Ext 4194294 a₀ s → Ext 4194294 a₀ (State.writeSlot s q e data) from H s (Ext.refl _ _)
  intro a₀ h₀
  unfold State.writeSlot
  repeat' first
    | with_reducible assumption
    | (with_reducible intro _; intros; try beta_reduce)
    | ((fail_if_no_progress extract_lets +onlyGivenNames t); refine Ext.cut (M := 4194294) (a := a₀) (b := t) ?_ (fun ht => ?_); rotate_left; clear_value t)
    | ((fail_if_no_progress extract_lets +onlyGivenNames u); have v : Nat := u; clear v; clear_value u)
    | ((fail_if_no_progress extract_lets +onlyGivenNames u); have v : List _ := u; clear v; clear_value u)
    | ((fail_if_no_progress extract_lets +onlyGivenNames u); have v : Option _ := u; clear v; fail_if_success (have v : Option State := u); clear_value u)
    | (fail_if_no_progress extract_lets +onlyGivenNames u)
    | with_reducible refine State.badWrite_ext (by decide) ?_
    | with_reducible refine State.writeReg_ext (by decide) ?_
    | with_reducible refine State.partialAccess_ext (by decide) ?_
    | split
    | (clear_value *; split)
    | (unfold t)
    | (unfold u; try beta_reduce)

theorem State.writeSpace_ext {s : State} {q : Nat} {es : List (Nat × Nat × Nat)} {data : List Byte} {M₀ : Nat} {a₀ : State} (hM : Within 4194294 M₀) (h₀ : Ext M₀ a₀ s) :
    Ext M₀ a₀ (State.writeSpace s q es data) := by
  induction es generalizing s data with
  | nil => exact h₀
  | cons e es ih => exact ih (State.writeSlot_ext hM h₀)

theorem State.readSlot_ext {s : State} {e : Nat × Nat × Nat} {M₀ : Nat} {a₀ : State} (hM : Within 132 M₀) (h₀ : Ext M₀ a₀ s) :
    Ext M₀ a₀ ((State.readSlot s e).1) := by
  refine Ext.via hM h₀ ?_
  clear hM h₀ M₀ a₀
  suffices H : ∀ a₀, Ext 132 a₀ s → Ext 132 a₀ ((State.readSlot s e).1) from H s (Ext.refl _ _)
  intro a₀ h₀
  unfold State.readSlot
  repeat' first
    | with_reducible assumption
    | (with_reducible intro _; intros; try beta_reduce)
    | ((fail_if_no_progress extract_lets +onlyGivenNames t); refine Ext.cut (M := 132) (a := a₀) (b := t) ?_ (fun ht => ?_); rotate_left; clear_value t)
    | ((fail_if_no_progress extract_lets +onlyGivenNames u); have v : Nat := u; clear v; clear_value u)
    | ((fail_if_no_progress extract_lets +onlyGivenNames u); have v : List _ := u; clear v; clear_value u)
    | ((fail_if_no_progress extract_lets +onlyGivenNames u); have v : Option _ := u; clear v; fail_if_success (have v : Option State := u); clear_value u)
    | (fail_if_no_progress extract_lets +onlyGivenNames u)
    | with_reducible refine State.readEffect_ext (by decide) ?_
    | with_reducible refine State.partialAccess_ext (by decide) ?_
    | split
    | (clear_value *; split)
    | (unfold t)
    | (unfold u; try beta_reduce)

theorem State.readSpace_ext {s : State} {es : List (Nat × Nat × Nat)} {M₀ : Nat} {a₀ : State} (hM : Within 132 M₀) (h₀ : Ext M₀ a₀ s) :
    Ext M₀ a₀ (State.readSpace s es).1 := by
  induction es generalizing s with
  | nil => exact h₀
  | cons e es ih => exact ih (State.readSlot_ext hM h₀)

theorem State.hostWrite_ext {s u : State} {q key addr : Nat} {data : List Byte} {M₀ : Nat} {a₀ : State} (hM : Within 4194294 M₀) (h₀ : Ext M₀ a₀ s)
    (hu : State.hostWrite s q key addr data = .ok u) : Ext M₀ a₀ u := by
  have hg : ∀ t, Ext M₀ a₀ t → Ext M₀ a₀ (State.guardRungs s t) := fun t ht => State.guardRungs_ext (Within.trans (by decide) hM) ht
  revert hu
  unfold State.hostWrite
  repeat' first
    | (with_reducible intro hu; cases hu)
    | with_reducible refine State.setBoot_ext (Within.trans (by decide) hM) ?_
    | with_reducible refine State.writeSpace_ext (Within.trans (by decide) hM) ?_
    | with_reducible refine hg _ ?_
    | with_reducible refine State.countRemote_ext (Within.trans (by decide) hM) ?_
    | with_reducible refine State.store_ext (Within.trans (by decide) hM) ?_
    | with_reducible assumption
    | extract_lets n
    | split

theorem State.windowHit_ext {s : State} {q key addr n : Nat} {M₀ : Nat} {a₀ : State} (hM : Within 132 M₀) (h₀ : Ext M₀ a₀ s) :
    Ext M₀ a₀ (State.windowHit s q key addr n) := by
  refine Ext.via hM h₀ ?_
  clear hM h₀ M₀ a₀
  suffices H : ∀ a₀, Ext 132 a₀ s → Ext 132 a₀ (State.windowHit s q key addr n) from H s (Ext.refl _ _)
  intro a₀ h₀
  unfold State.windowHit
  repeat' first
    | with_reducible assumption
    | (with_reducible intro _; intros; try beta_reduce)
    | ((fail_if_no_progress extract_lets +onlyGivenNames t); refine Ext.cut (M := 132) (a := a₀) (b := t) ?_ (fun ht => ?_); rotate_left; clear_value t)
    | ((fail_if_no_progress extract_lets +onlyGivenNames u); have v : Nat := u; clear v; clear_value u)
    | ((fail_if_no_progress extract_lets +onlyGivenNames u); have v : List _ := u; clear v; clear_value u)
    | ((fail_if_no_progress extract_lets +onlyGivenNames u); have v : Option _ := u; clear v; fail_if_success (have v : Option State := u); clear_value u)
    | (fail_if_no_progress extract_lets +onlyGivenNames u)
    | with_reducible refine State.evalWinEvent_ext (by decide) ?_
    | split
    | (clear_value *; split)
    | (unfold t)
    | (unfold u; try beta_reduce)

theorem incomingRdmaWrite_ext {q psn key addr : Nat} {data : List Byte} {icrc ce : Bool} {s : State} {M₀ : Nat} {a₀ : State} (hM : Within 4194294 M₀) (h₀ : Ext M₀ a₀ s) :
    Ext M₀ a₀ (incomingRdmaWrite q psn key addr data icrc ce s) := by
  have ha := State.arrive_ext (q := q) (psn := psn) (ce := ce) (Within.trans (by decide) hM) h₀
  have he : ∀ t r, Ext M₀ a₀ t → Ext M₀ a₀ (State.emit t r) := fun t r ht => State.emit_ext (Within.trans (by decide) hM) ht
  have hp : ∀ t n, Ext M₀ a₀ t → Ext M₀ a₀ (State.takePsn t q n) := fun t r ht => State.takePsn_ext (Within.trans (by decide) hM) ht
  unfold incomingRdmaWrite
  split
  · exact h₀
  split
  · exact State.bumpSat_ext (Within.trans (by decide) hM) h₀
  extract_lets a t
  have ht : Ext M₀ a₀ t := ha
  clear_value t
  split
  · exact ht
  · exact he _ _ ht
  · exact he _ _ ht
  split
  · exact he _ _ (hp _ _ ht)
  split
  · rename_i u hu
    exact he _ _ (hp _ _ (State.hostWrite_ext (Within.trans (by decide) hM) ht hu))
  · exact State.accessNak_ext (Within.trans (by decide) hM) (State.windowHit_ext (Within.trans (by decide) hM) ht)
  · exact ht

theorem State.readHbm_ext {s : State} {q psn addr n : Nat} {M₀ : Nat} {a₀ : State} (hM : Within 388 M₀) (h₀ : Ext M₀ a₀ s) :
    Ext M₀ a₀ (State.readHbm s q psn addr n) := by
  refine Ext.via hM h₀ ?_
  clear hM h₀ M₀ a₀
  suffices H : ∀ a₀, Ext 388 a₀ s → Ext 388 a₀ (State.readHbm s q psn addr n) from H s (Ext.refl _ _)
  intro a₀ h₀
  unfold State.readHbm
  repeat' first
    | with_reducible assumption
    | (with_reducible intro _; intros; try beta_reduce)
    | ((fail_if_no_progress extract_lets +onlyGivenNames t); refine Ext.cut (M := 388) (a := a₀) (b := t) ?_ (fun ht => ?_); rotate_left; clear_value t)
    | ((fail_if_no_progress extract_lets +onlyGivenNames u); have v : Nat := u; clear v; clear_value u)
    | ((fail_if_no_progress extract_lets +onlyGivenNames u); have v : List _ := u; clear v; clear_value u)
    | ((fail_if_no_progress extract_lets +onlyGivenNames u); have v : Option _ := u; clear v; fail_if_success (have v : Option State := u); clear_value u)
    | (fail_if_no_progress extract_lets +onlyGivenNames u)
    | with_reducible refine State.emit_ext (by decide) ?_
    | with_reducible refine State.countRemote_ext (by decide) ?_
    | with_reducible refine State.generic_ext (by decide) ?_
    | split
    | (clear_value *; split)
    | (unfold t)
    | (unfold u; try beta_reduce)

theorem State.hostRead_ext {s : State} {q psn key addr n : Nat} {again : Bool} {M₀ : Nat} {a₀ : State} (hM : Within 388 M₀) (h₀ : Ext M₀ a₀ s) :
    OptExt M₀ a₀ (State.hostRead s q psn key addr n again) := by
  have hr := State.readSpace_ext (es := slotsOf addr n) (Within.trans (by decide) hM) h₀
  have he : ∀ t r, Ext M₀ a₀ t → Ext M₀ a₀ (State.emit t r) := fun t r ht => State.emit_ext (Within.trans (by decide) hM) ht
  have hh := State.readHbm_ext (q := q) (psn := psn) (addr := addr) (n := n) (Within.trans (by decide) hM) h₀
  unfold State.hostRead
  repeat' first
    | exact OptExt.none
    | exact OptExt.some h₀
    | exact OptExt.some hh
    | exact OptExt.some (he _ _ hr)
    | exact OptExt.some (he _ _ h₀)
    | split
    | cases again

theorem incomingRdmaRead_ext {q psn key addr n : Nat} {icrc ce : Bool} {s : State} {M₀ : Nat} {a₀ : State} (hM : Within 388 M₀) (h₀ : Ext M₀ a₀ s) :
    Ext M₀ a₀ (incomingRdmaRead q psn key addr n icrc ce s) := by
  refine Ext.via hM h₀ ?_
  clear hM h₀ M₀ a₀
  suffices H : ∀ a₀, Ext 388 a₀ s → Ext 388 a₀ (incomingRdmaRead q psn key addr n icrc ce s) from H s (Ext.refl _ _)
  intro a₀ h₀
  unfold incomingRdmaRead
  repeat' first
    | with_reducible assumption
    | (with_reducible intro _; intros; try beta_reduce)
    | ((fail_if_no_progress extract_lets +onlyGivenNames t); refine Ext.cut (M := 388) (a := a₀) (b := t) ?_ (fun ht => ?_); rotate_left; clear_value t)
    | ((fail_if_no_progress extract_lets +onlyGivenNames u); have v : Nat := u; clear v; clear_value u)
    | ((fail_if_no_progress extract_lets +onlyGivenNames u); have v : List _ := u; clear v; clear_value u)
    | ((fail_if_no_progress extract_lets +onlyGivenNames u); have v : Option _ := u; clear v; fail_if_success (have v : Option State := u); clear_value u)
    | (fail_if_no_progress extract_lets +onlyGivenNames u)
    | with_reducible refine State.bumpSat_ext (by decide) ?_
    | with_reducible refine State.arrive_ext (by decide) ?_
    | with_reducible refine State.emit_ext (by decide) ?_
    | with_reducible refine State.accessNak_ext (by decide) ?_
    | with_reducible refine State.takePsn_ext (by decide) ?_
    | split
    | (clear_value *; split)
    | (unfold t)
    | with_reducible exact OptExt.out (State.hostRead_ext (M₀ := 388) (a₀ := a₀) (by decide) (by assumption)) (by assumption)
    | (unfold u; try beta_reduce)

end Sys2Proof.Machine
end

