-- ==== Sys2Proof/Laws/State.lean ====
section
/-!
SUPPORT. One law per component of State and update, and what the keyed updates read back.
-/
namespace Sys2Proof.Machine

@[simp] theorem State.wr_pending (s : State) (off v : Nat) : (s.wr off v).pending = s.pending := (rfl)
@[simp] theorem State.wr_now (s : State) (off v : Nat) : (s.wr off v).now = s.now := (rfl)
@[simp] theorem State.wr_fresh (s : State) (off v : Nat) : (s.wr off v).fresh = s.fresh := (rfl)
@[simp] theorem State.wr_readData (s : State) (off v : Nat) : (s.wr off v).readData = s.readData := (rfl)
@[simp] theorem State.wr_mem (s : State) (off v : Nat) : (s.wr off v).mem = s.mem := (rfl)
@[simp] theorem State.wr_poison (s : State) (off v : Nat) : (s.wr off v).poison = s.poison := (rfl)
@[simp] theorem State.wr_ctl (s : State) (off v : Nat) : (s.wr off v).ctl = s.ctl := (rfl)
@[simp] theorem State.wr_recorder (s : State) (off v : Nat) : (s.wr off v).recorder = s.recorder := (rfl)
@[simp] theorem State.wr_hp (s : State) (off v : Nat) : (s.wr off v).hp = s.hp := (rfl)
@[simp] theorem State.wr_fuses (s : State) (off v : Nat) : (s.wr off v).fuses = s.fuses := (rfl)
@[simp] theorem State.wr_boot (s : State) (off v : Nat) : (s.wr off v).boot = s.boot := (rfl)
@[simp] theorem State.wr_sec (s : State) (off v : Nat) : (s.wr off v).sec = s.sec := (rfl)
@[simp] theorem State.wr_strm (s : State) (off v : Nat) : (s.wr off v).strm = s.strm := (rfl)
@[simp] theorem State.wr_hsm (s : State) (off v : Nat) : (s.wr off v).hsm = s.hsm := (rfl)
@[simp] theorem State.wr_comp (s : State) (off v : Nat) : (s.wr off v).comp = s.comp := (rfl)
@[simp] theorem State.wr_health (s : State) (off v : Nat) : (s.wr off v).health = s.health := (rfl)
@[simp] theorem State.wr_links (s : State) (off v : Nat) : (s.wr off v).links = s.links := (rfl)
@[simp] theorem State.wr_red (s : State) (off v : Nat) : (s.wr off v).red = s.red := (rfl)
@[simp] theorem State.wr_snap (s : State) (off v : Nat) : (s.wr off v).snap = s.snap := (rfl)
@[simp] theorem State.wr_power (s : State) (off v : Nat) : (s.wr off v).power = s.power := (rfl)
@[simp] theorem State.wr_keep (s : State) (off v : Nat) : (s.wr off v).keep = s.keep := (rfl)
@[simp] theorem State.wr_pins (s : State) (off v : Nat) : (s.wr off v).pins = s.pins := (rfl)

@[simp] theorem State.setNow_pending (s : State) (n : Nat) : (s.setNow n).pending = s.pending := (rfl)
@[simp] theorem State.setNow_fresh (s : State) (n : Nat) : (s.setNow n).fresh = s.fresh := (rfl)
@[simp] theorem State.setNow_regs (s : State) (n : Nat) : (s.setNow n).regs = s.regs := (rfl)
@[simp] theorem State.setNow_readData (s : State) (n : Nat) : (s.setNow n).readData = s.readData := (rfl)
@[simp] theorem State.setNow_mem (s : State) (n : Nat) : (s.setNow n).mem = s.mem := (rfl)
@[simp] theorem State.setNow_poison (s : State) (n : Nat) : (s.setNow n).poison = s.poison := (rfl)
@[simp] theorem State.setNow_ctl (s : State) (n : Nat) : (s.setNow n).ctl = s.ctl := (rfl)
@[simp] theorem State.setNow_recorder (s : State) (n : Nat) : (s.setNow n).recorder = s.recorder := (rfl)
@[simp] theorem State.setNow_hp (s : State) (n : Nat) : (s.setNow n).hp = s.hp := (rfl)
@[simp] theorem State.setNow_fuses (s : State) (n : Nat) : (s.setNow n).fuses = s.fuses := (rfl)
@[simp] theorem State.setNow_boot (s : State) (n : Nat) : (s.setNow n).boot = s.boot := (rfl)
@[simp] theorem State.setNow_sec (s : State) (n : Nat) : (s.setNow n).sec = s.sec := (rfl)
@[simp] theorem State.setNow_strm (s : State) (n : Nat) : (s.setNow n).strm = s.strm := (rfl)
@[simp] theorem State.setNow_hsm (s : State) (n : Nat) : (s.setNow n).hsm = s.hsm := (rfl)
@[simp] theorem State.setNow_comp (s : State) (n : Nat) : (s.setNow n).comp = s.comp := (rfl)
@[simp] theorem State.setNow_health (s : State) (n : Nat) : (s.setNow n).health = s.health := (rfl)
@[simp] theorem State.setNow_links (s : State) (n : Nat) : (s.setNow n).links = s.links := (rfl)
@[simp] theorem State.setNow_red (s : State) (n : Nat) : (s.setNow n).red = s.red := (rfl)
@[simp] theorem State.setNow_snap (s : State) (n : Nat) : (s.setNow n).snap = s.snap := (rfl)
@[simp] theorem State.setNow_power (s : State) (n : Nat) : (s.setNow n).power = s.power := (rfl)
@[simp] theorem State.setNow_keep (s : State) (n : Nat) : (s.setNow n).keep = s.keep := (rfl)
@[simp] theorem State.setNow_pins (s : State) (n : Nat) : (s.setNow n).pins = s.pins := (rfl)
@[simp] theorem State.setNow_rd (s : State) (n : Nat) (off : Nat) : (s.setNow n).rd off = s.rd off := (rfl)
@[simp] theorem State.setNow_f (s : State) (n : Nat) (fr : FieldRef) : (s.setNow n).f fr = s.f fr := (rfl)
@[simp] theorem State.setNow_now (s : State) (n : Nat) : (s.setNow n).now = n := (rfl)

@[simp] theorem State.setPins_pending (s : State) (x : Pins) : (s.setPins x).pending = s.pending := (rfl)
@[simp] theorem State.setPins_now (s : State) (x : Pins) : (s.setPins x).now = s.now := (rfl)
@[simp] theorem State.setPins_fresh (s : State) (x : Pins) : (s.setPins x).fresh = s.fresh := (rfl)
@[simp] theorem State.setPins_regs (s : State) (x : Pins) : (s.setPins x).regs = s.regs := (rfl)
@[simp] theorem State.setPins_readData (s : State) (x : Pins) : (s.setPins x).readData = s.readData := (rfl)
@[simp] theorem State.setPins_mem (s : State) (x : Pins) : (s.setPins x).mem = s.mem := (rfl)
@[simp] theorem State.setPins_poison (s : State) (x : Pins) : (s.setPins x).poison = s.poison := (rfl)
@[simp] theorem State.setPins_ctl (s : State) (x : Pins) : (s.setPins x).ctl = s.ctl := (rfl)
@[simp] theorem State.setPins_recorder (s : State) (x : Pins) : (s.setPins x).recorder = s.recorder := (rfl)
@[simp] theorem State.setPins_hp (s : State) (x : Pins) : (s.setPins x).hp = s.hp := (rfl)
@[simp] theorem State.setPins_fuses (s : State) (x : Pins) : (s.setPins x).fuses = s.fuses := (rfl)
@[simp] theorem State.setPins_boot (s : State) (x : Pins) : (s.setPins x).boot = s.boot := (rfl)
@[simp] theorem State.setPins_sec (s : State) (x : Pins) : (s.setPins x).sec = s.sec := (rfl)
@[simp] theorem State.setPins_strm (s : State) (x : Pins) : (s.setPins x).strm = s.strm := (rfl)
@[simp] theorem State.setPins_hsm (s : State) (x : Pins) : (s.setPins x).hsm = s.hsm := (rfl)
@[simp] theorem State.setPins_comp (s : State) (x : Pins) : (s.setPins x).comp = s.comp := (rfl)
@[simp] theorem State.setPins_health (s : State) (x : Pins) : (s.setPins x).health = s.health := (rfl)
@[simp] theorem State.setPins_links (s : State) (x : Pins) : (s.setPins x).links = s.links := (rfl)
@[simp] theorem State.setPins_red (s : State) (x : Pins) : (s.setPins x).red = s.red := (rfl)
@[simp] theorem State.setPins_snap (s : State) (x : Pins) : (s.setPins x).snap = s.snap := (rfl)
@[simp] theorem State.setPins_power (s : State) (x : Pins) : (s.setPins x).power = s.power := (rfl)
@[simp] theorem State.setPins_keep (s : State) (x : Pins) : (s.setPins x).keep = s.keep := (rfl)
@[simp] theorem State.setPins_rd (s : State) (x : Pins) (off : Nat) : (s.setPins x).rd off = s.rd off := (rfl)
@[simp] theorem State.setPins_f (s : State) (x : Pins) (fr : FieldRef) : (s.setPins x).f fr = s.f fr := (rfl)
@[simp] theorem State.setPins_pins (s : State) (x : Pins) : (s.setPins x).pins = x := (rfl)

@[simp] theorem State.setHp_pending (s : State) (x : Hp) : (s.setHp x).pending = s.pending := (rfl)
@[simp] theorem State.setHp_now (s : State) (x : Hp) : (s.setHp x).now = s.now := (rfl)
@[simp] theorem State.setHp_fresh (s : State) (x : Hp) : (s.setHp x).fresh = s.fresh := (rfl)
@[simp] theorem State.setHp_regs (s : State) (x : Hp) : (s.setHp x).regs = s.regs := (rfl)
@[simp] theorem State.setHp_readData (s : State) (x : Hp) : (s.setHp x).readData = s.readData := (rfl)
@[simp] theorem State.setHp_mem (s : State) (x : Hp) : (s.setHp x).mem = s.mem := (rfl)
@[simp] theorem State.setHp_poison (s : State) (x : Hp) : (s.setHp x).poison = s.poison := (rfl)
@[simp] theorem State.setHp_ctl (s : State) (x : Hp) : (s.setHp x).ctl = s.ctl := (rfl)
@[simp] theorem State.setHp_recorder (s : State) (x : Hp) : (s.setHp x).recorder = s.recorder := (rfl)
@[simp] theorem State.setHp_fuses (s : State) (x : Hp) : (s.setHp x).fuses = s.fuses := (rfl)
@[simp] theorem State.setHp_boot (s : State) (x : Hp) : (s.setHp x).boot = s.boot := (rfl)
@[simp] theorem State.setHp_sec (s : State) (x : Hp) : (s.setHp x).sec = s.sec := (rfl)
@[simp] theorem State.setHp_strm (s : State) (x : Hp) : (s.setHp x).strm = s.strm := (rfl)
@[simp] theorem State.setHp_hsm (s : State) (x : Hp) : (s.setHp x).hsm = s.hsm := (rfl)
@[simp] theorem State.setHp_comp (s : State) (x : Hp) : (s.setHp x).comp = s.comp := (rfl)
@[simp] theorem State.setHp_health (s : State) (x : Hp) : (s.setHp x).health = s.health := (rfl)
@[simp] theorem State.setHp_links (s : State) (x : Hp) : (s.setHp x).links = s.links := (rfl)
@[simp] theorem State.setHp_red (s : State) (x : Hp) : (s.setHp x).red = s.red := (rfl)
@[simp] theorem State.setHp_snap (s : State) (x : Hp) : (s.setHp x).snap = s.snap := (rfl)
@[simp] theorem State.setHp_power (s : State) (x : Hp) : (s.setHp x).power = s.power := (rfl)
@[simp] theorem State.setHp_keep (s : State) (x : Hp) : (s.setHp x).keep = s.keep := (rfl)
@[simp] theorem State.setHp_pins (s : State) (x : Hp) : (s.setHp x).pins = s.pins := (rfl)
@[simp] theorem State.setHp_rd (s : State) (x : Hp) (off : Nat) : (s.setHp x).rd off = s.rd off := (rfl)
@[simp] theorem State.setHp_f (s : State) (x : Hp) (fr : FieldRef) : (s.setHp x).f fr = s.f fr := (rfl)
@[simp] theorem State.setHp_hp (s : State) (x : Hp) : (s.setHp x).hp = x := (rfl)

@[simp] theorem State.setSec_pending (s : State) (x : Sec) : (s.setSec x).pending = s.pending := (rfl)
@[simp] theorem State.setSec_now (s : State) (x : Sec) : (s.setSec x).now = s.now := (rfl)
@[simp] theorem State.setSec_fresh (s : State) (x : Sec) : (s.setSec x).fresh = s.fresh := (rfl)
@[simp] theorem State.setSec_regs (s : State) (x : Sec) : (s.setSec x).regs = s.regs := (rfl)
@[simp] theorem State.setSec_readData (s : State) (x : Sec) : (s.setSec x).readData = s.readData := (rfl)
@[simp] theorem State.setSec_mem (s : State) (x : Sec) : (s.setSec x).mem = s.mem := (rfl)
@[simp] theorem State.setSec_poison (s : State) (x : Sec) : (s.setSec x).poison = s.poison := (rfl)
@[simp] theorem State.setSec_ctl (s : State) (x : Sec) : (s.setSec x).ctl = s.ctl := (rfl)
@[simp] theorem State.setSec_recorder (s : State) (x : Sec) : (s.setSec x).recorder = s.recorder := (rfl)
@[simp] theorem State.setSec_hp (s : State) (x : Sec) : (s.setSec x).hp = s.hp := (rfl)
@[simp] theorem State.setSec_fuses (s : State) (x : Sec) : (s.setSec x).fuses = s.fuses := (rfl)
@[simp] theorem State.setSec_boot (s : State) (x : Sec) : (s.setSec x).boot = s.boot := (rfl)
@[simp] theorem State.setSec_strm (s : State) (x : Sec) : (s.setSec x).strm = s.strm := (rfl)
@[simp] theorem State.setSec_hsm (s : State) (x : Sec) : (s.setSec x).hsm = s.hsm := (rfl)
@[simp] theorem State.setSec_comp (s : State) (x : Sec) : (s.setSec x).comp = s.comp := (rfl)
@[simp] theorem State.setSec_health (s : State) (x : Sec) : (s.setSec x).health = s.health := (rfl)
@[simp] theorem State.setSec_links (s : State) (x : Sec) : (s.setSec x).links = s.links := (rfl)
@[simp] theorem State.setSec_red (s : State) (x : Sec) : (s.setSec x).red = s.red := (rfl)
@[simp] theorem State.setSec_snap (s : State) (x : Sec) : (s.setSec x).snap = s.snap := (rfl)
@[simp] theorem State.setSec_power (s : State) (x : Sec) : (s.setSec x).power = s.power := (rfl)
@[simp] theorem State.setSec_keep (s : State) (x : Sec) : (s.setSec x).keep = s.keep := (rfl)
@[simp] theorem State.setSec_pins (s : State) (x : Sec) : (s.setSec x).pins = s.pins := (rfl)
@[simp] theorem State.setSec_rd (s : State) (x : Sec) (off : Nat) : (s.setSec x).rd off = s.rd off := (rfl)
@[simp] theorem State.setSec_f (s : State) (x : Sec) (fr : FieldRef) : (s.setSec x).f fr = s.f fr := (rfl)
@[simp] theorem State.setSec_sec (s : State) (x : Sec) : (s.setSec x).sec = x := (rfl)

@[simp] theorem State.setCtl_pending (s : State) (x : Ctl) : (s.setCtl x).pending = s.pending := (rfl)
@[simp] theorem State.setCtl_now (s : State) (x : Ctl) : (s.setCtl x).now = s.now := (rfl)
@[simp] theorem State.setCtl_fresh (s : State) (x : Ctl) : (s.setCtl x).fresh = s.fresh := (rfl)
@[simp] theorem State.setCtl_regs (s : State) (x : Ctl) : (s.setCtl x).regs = s.regs := (rfl)
@[simp] theorem State.setCtl_readData (s : State) (x : Ctl) : (s.setCtl x).readData = s.readData := (rfl)
@[simp] theorem State.setCtl_mem (s : State) (x : Ctl) : (s.setCtl x).mem = s.mem := (rfl)
@[simp] theorem State.setCtl_poison (s : State) (x : Ctl) : (s.setCtl x).poison = s.poison := (rfl)
@[simp] theorem State.setCtl_recorder (s : State) (x : Ctl) : (s.setCtl x).recorder = s.recorder := (rfl)
@[simp] theorem State.setCtl_hp (s : State) (x : Ctl) : (s.setCtl x).hp = s.hp := (rfl)
@[simp] theorem State.setCtl_fuses (s : State) (x : Ctl) : (s.setCtl x).fuses = s.fuses := (rfl)
@[simp] theorem State.setCtl_boot (s : State) (x : Ctl) : (s.setCtl x).boot = s.boot := (rfl)
@[simp] theorem State.setCtl_sec (s : State) (x : Ctl) : (s.setCtl x).sec = s.sec := (rfl)
@[simp] theorem State.setCtl_strm (s : State) (x : Ctl) : (s.setCtl x).strm = s.strm := (rfl)
@[simp] theorem State.setCtl_hsm (s : State) (x : Ctl) : (s.setCtl x).hsm = s.hsm := (rfl)
@[simp] theorem State.setCtl_comp (s : State) (x : Ctl) : (s.setCtl x).comp = s.comp := (rfl)
@[simp] theorem State.setCtl_health (s : State) (x : Ctl) : (s.setCtl x).health = s.health := (rfl)
@[simp] theorem State.setCtl_links (s : State) (x : Ctl) : (s.setCtl x).links = s.links := (rfl)
@[simp] theorem State.setCtl_red (s : State) (x : Ctl) : (s.setCtl x).red = s.red := (rfl)
@[simp] theorem State.setCtl_snap (s : State) (x : Ctl) : (s.setCtl x).snap = s.snap := (rfl)
@[simp] theorem State.setCtl_power (s : State) (x : Ctl) : (s.setCtl x).power = s.power := (rfl)
@[simp] theorem State.setCtl_keep (s : State) (x : Ctl) : (s.setCtl x).keep = s.keep := (rfl)
@[simp] theorem State.setCtl_pins (s : State) (x : Ctl) : (s.setCtl x).pins = s.pins := (rfl)
@[simp] theorem State.setCtl_rd (s : State) (x : Ctl) (off : Nat) : (s.setCtl x).rd off = s.rd off := (rfl)
@[simp] theorem State.setCtl_f (s : State) (x : Ctl) (fr : FieldRef) : (s.setCtl x).f fr = s.f fr := (rfl)
@[simp] theorem State.setCtl_ctl (s : State) (x : Ctl) : (s.setCtl x).ctl = x := (rfl)

@[simp] theorem State.setReadData_pending (s : State) (v : Word64) : (s.setReadData v).pending = s.pending := (rfl)
@[simp] theorem State.setReadData_now (s : State) (v : Word64) : (s.setReadData v).now = s.now := (rfl)
@[simp] theorem State.setReadData_fresh (s : State) (v : Word64) : (s.setReadData v).fresh = s.fresh := (rfl)
@[simp] theorem State.setReadData_regs (s : State) (v : Word64) : (s.setReadData v).regs = s.regs := (rfl)
@[simp] theorem State.setReadData_mem (s : State) (v : Word64) : (s.setReadData v).mem = s.mem := (rfl)
@[simp] theorem State.setReadData_poison (s : State) (v : Word64) : (s.setReadData v).poison = s.poison := (rfl)
@[simp] theorem State.setReadData_ctl (s : State) (v : Word64) : (s.setReadData v).ctl = s.ctl := (rfl)
@[simp] theorem State.setReadData_recorder (s : State) (v : Word64) : (s.setReadData v).recorder = s.recorder := (rfl)
@[simp] theorem State.setReadData_hp (s : State) (v : Word64) : (s.setReadData v).hp = s.hp := (rfl)
@[simp] theorem State.setReadData_fuses (s : State) (v : Word64) : (s.setReadData v).fuses = s.fuses := (rfl)
@[simp] theorem State.setReadData_boot (s : State) (v : Word64) : (s.setReadData v).boot = s.boot := (rfl)
@[simp] theorem State.setReadData_sec (s : State) (v : Word64) : (s.setReadData v).sec = s.sec := (rfl)
@[simp] theorem State.setReadData_strm (s : State) (v : Word64) : (s.setReadData v).strm = s.strm := (rfl)
@[simp] theorem State.setReadData_hsm (s : State) (v : Word64) : (s.setReadData v).hsm = s.hsm := (rfl)
@[simp] theorem State.setReadData_comp (s : State) (v : Word64) : (s.setReadData v).comp = s.comp := (rfl)
@[simp] theorem State.setReadData_health (s : State) (v : Word64) : (s.setReadData v).health = s.health := (rfl)
@[simp] theorem State.setReadData_links (s : State) (v : Word64) : (s.setReadData v).links = s.links := (rfl)
@[simp] theorem State.setReadData_red (s : State) (v : Word64) : (s.setReadData v).red = s.red := (rfl)
@[simp] theorem State.setReadData_snap (s : State) (v : Word64) : (s.setReadData v).snap = s.snap := (rfl)
@[simp] theorem State.setReadData_power (s : State) (v : Word64) : (s.setReadData v).power = s.power := (rfl)
@[simp] theorem State.setReadData_keep (s : State) (v : Word64) : (s.setReadData v).keep = s.keep := (rfl)
@[simp] theorem State.setReadData_pins (s : State) (v : Word64) : (s.setReadData v).pins = s.pins := (rfl)
@[simp] theorem State.setReadData_rd (s : State) (v : Word64) (off : Nat) : (s.setReadData v).rd off = s.rd off := (rfl)
@[simp] theorem State.setReadData_f (s : State) (v : Word64) (fr : FieldRef) : (s.setReadData v).f fr = s.f fr := (rfl)
@[simp] theorem State.setReadData_readData (s : State) (v : Word64) : (s.setReadData v).readData = v := (rfl)

@[simp] theorem State.useFresh_pending (s : State) (n : Nat) : (s.useFresh n).pending = s.pending := (rfl)
@[simp] theorem State.useFresh_now (s : State) (n : Nat) : (s.useFresh n).now = s.now := (rfl)
@[simp] theorem State.useFresh_regs (s : State) (n : Nat) : (s.useFresh n).regs = s.regs := (rfl)
@[simp] theorem State.useFresh_readData (s : State) (n : Nat) : (s.useFresh n).readData = s.readData := (rfl)
@[simp] theorem State.useFresh_mem (s : State) (n : Nat) : (s.useFresh n).mem = s.mem := (rfl)
@[simp] theorem State.useFresh_poison (s : State) (n : Nat) : (s.useFresh n).poison = s.poison := (rfl)
@[simp] theorem State.useFresh_ctl (s : State) (n : Nat) : (s.useFresh n).ctl = s.ctl := (rfl)
@[simp] theorem State.useFresh_recorder (s : State) (n : Nat) : (s.useFresh n).recorder = s.recorder := (rfl)
@[simp] theorem State.useFresh_hp (s : State) (n : Nat) : (s.useFresh n).hp = s.hp := (rfl)
@[simp] theorem State.useFresh_fuses (s : State) (n : Nat) : (s.useFresh n).fuses = s.fuses := (rfl)
@[simp] theorem State.useFresh_boot (s : State) (n : Nat) : (s.useFresh n).boot = s.boot := (rfl)
@[simp] theorem State.useFresh_sec (s : State) (n : Nat) : (s.useFresh n).sec = s.sec := (rfl)
@[simp] theorem State.useFresh_strm (s : State) (n : Nat) : (s.useFresh n).strm = s.strm := (rfl)
@[simp] theorem State.useFresh_hsm (s : State) (n : Nat) : (s.useFresh n).hsm = s.hsm := (rfl)
@[simp] theorem State.useFresh_comp (s : State) (n : Nat) : (s.useFresh n).comp = s.comp := (rfl)
@[simp] theorem State.useFresh_health (s : State) (n : Nat) : (s.useFresh n).health = s.health := (rfl)
@[simp] theorem State.useFresh_links (s : State) (n : Nat) : (s.useFresh n).links = s.links := (rfl)
@[simp] theorem State.useFresh_red (s : State) (n : Nat) : (s.useFresh n).red = s.red := (rfl)
@[simp] theorem State.useFresh_snap (s : State) (n : Nat) : (s.useFresh n).snap = s.snap := (rfl)
@[simp] theorem State.useFresh_power (s : State) (n : Nat) : (s.useFresh n).power = s.power := (rfl)
@[simp] theorem State.useFresh_keep (s : State) (n : Nat) : (s.useFresh n).keep = s.keep := (rfl)
@[simp] theorem State.useFresh_pins (s : State) (n : Nat) : (s.useFresh n).pins = s.pins := (rfl)
@[simp] theorem State.useFresh_rd (s : State) (n : Nat) (off : Nat) : (s.useFresh n).rd off = s.rd off := (rfl)
@[simp] theorem State.useFresh_f (s : State) (n : Nat) (fr : FieldRef) : (s.useFresh n).f fr = s.f fr := (rfl)

@[simp] theorem State.setPart_pending (s : State) (p : Nat) (x : PartState) : (s.setPart p x).pending = s.pending := (rfl)
@[simp] theorem State.setPart_now (s : State) (p : Nat) (x : PartState) : (s.setPart p x).now = s.now := (rfl)
@[simp] theorem State.setPart_fresh (s : State) (p : Nat) (x : PartState) : (s.setPart p x).fresh = s.fresh := (rfl)
@[simp] theorem State.setPart_regs (s : State) (p : Nat) (x : PartState) : (s.setPart p x).regs = s.regs := (rfl)
@[simp] theorem State.setPart_readData (s : State) (p : Nat) (x : PartState) : (s.setPart p x).readData = s.readData := (rfl)
@[simp] theorem State.setPart_mem (s : State) (p : Nat) (x : PartState) : (s.setPart p x).mem = s.mem := (rfl)
@[simp] theorem State.setPart_poison (s : State) (p : Nat) (x : PartState) : (s.setPart p x).poison = s.poison := (rfl)
@[simp] theorem State.setPart_recorder (s : State) (p : Nat) (x : PartState) : (s.setPart p x).recorder = s.recorder := (rfl)
@[simp] theorem State.setPart_hp (s : State) (p : Nat) (x : PartState) : (s.setPart p x).hp = s.hp := (rfl)
@[simp] theorem State.setPart_fuses (s : State) (p : Nat) (x : PartState) : (s.setPart p x).fuses = s.fuses := (rfl)
@[simp] theorem State.setPart_boot (s : State) (p : Nat) (x : PartState) : (s.setPart p x).boot = s.boot := (rfl)
@[simp] theorem State.setPart_sec (s : State) (p : Nat) (x : PartState) : (s.setPart p x).sec = s.sec := (rfl)
@[simp] theorem State.setPart_strm (s : State) (p : Nat) (x : PartState) : (s.setPart p x).strm = s.strm := (rfl)
@[simp] theorem State.setPart_hsm (s : State) (p : Nat) (x : PartState) : (s.setPart p x).hsm = s.hsm := (rfl)
@[simp] theorem State.setPart_comp (s : State) (p : Nat) (x : PartState) : (s.setPart p x).comp = s.comp := (rfl)
@[simp] theorem State.setPart_health (s : State) (p : Nat) (x : PartState) : (s.setPart p x).health = s.health := (rfl)
@[simp] theorem State.setPart_links (s : State) (p : Nat) (x : PartState) : (s.setPart p x).links = s.links := (rfl)
@[simp] theorem State.setPart_red (s : State) (p : Nat) (x : PartState) : (s.setPart p x).red = s.red := (rfl)
@[simp] theorem State.setPart_snap (s : State) (p : Nat) (x : PartState) : (s.setPart p x).snap = s.snap := (rfl)
@[simp] theorem State.setPart_power (s : State) (p : Nat) (x : PartState) : (s.setPart p x).power = s.power := (rfl)
@[simp] theorem State.setPart_keep (s : State) (p : Nat) (x : PartState) : (s.setPart p x).keep = s.keep := (rfl)
@[simp] theorem State.setPart_pins (s : State) (p : Nat) (x : PartState) : (s.setPart p x).pins = s.pins := (rfl)
@[simp] theorem State.setPart_rd (s : State) (p : Nat) (x : PartState) (off : Nat) : (s.setPart p x).rd off = s.rd off := (rfl)
@[simp] theorem State.setPart_f (s : State) (p : Nat) (x : PartState) (fr : FieldRef) : (s.setPart p x).f fr = s.f fr := (rfl)
@[simp] theorem State.setPart_part (s : State) (p : Nat) (x : PartState) : (s.setPart p x).part p = x := Sparse.get_put_self _ _ _ _
theorem State.setPart_part_ne (s : State) (p : Nat) (x : PartState) {j : Nat} (h : j ≠ p) : (s.setPart p x).part j = s.part j :=
  Sparse.get_put_ne _ _ _ h

@[simp] theorem State.setQp_pending (s : State) (q : Nat) (x : QpState) : (s.setQp q x).pending = s.pending := (rfl)
@[simp] theorem State.setQp_now (s : State) (q : Nat) (x : QpState) : (s.setQp q x).now = s.now := (rfl)
@[simp] theorem State.setQp_fresh (s : State) (q : Nat) (x : QpState) : (s.setQp q x).fresh = s.fresh := (rfl)
@[simp] theorem State.setQp_regs (s : State) (q : Nat) (x : QpState) : (s.setQp q x).regs = s.regs := (rfl)
@[simp] theorem State.setQp_readData (s : State) (q : Nat) (x : QpState) : (s.setQp q x).readData = s.readData := (rfl)
@[simp] theorem State.setQp_mem (s : State) (q : Nat) (x : QpState) : (s.setQp q x).mem = s.mem := (rfl)
@[simp] theorem State.setQp_poison (s : State) (q : Nat) (x : QpState) : (s.setQp q x).poison = s.poison := (rfl)
@[simp] theorem State.setQp_ctl (s : State) (q : Nat) (x : QpState) : (s.setQp q x).ctl = s.ctl := (rfl)
@[simp] theorem State.setQp_recorder (s : State) (q : Nat) (x : QpState) : (s.setQp q x).recorder = s.recorder := (rfl)
@[simp] theorem State.setQp_fuses (s : State) (q : Nat) (x : QpState) : (s.setQp q x).fuses = s.fuses := (rfl)
@[simp] theorem State.setQp_boot (s : State) (q : Nat) (x : QpState) : (s.setQp q x).boot = s.boot := (rfl)
@[simp] theorem State.setQp_sec (s : State) (q : Nat) (x : QpState) : (s.setQp q x).sec = s.sec := (rfl)
@[simp] theorem State.setQp_strm (s : State) (q : Nat) (x : QpState) : (s.setQp q x).strm = s.strm := (rfl)
@[simp] theorem State.setQp_hsm (s : State) (q : Nat) (x : QpState) : (s.setQp q x).hsm = s.hsm := (rfl)
@[simp] theorem State.setQp_comp (s : State) (q : Nat) (x : QpState) : (s.setQp q x).comp = s.comp := (rfl)
@[simp] theorem State.setQp_health (s : State) (q : Nat) (x : QpState) : (s.setQp q x).health = s.health := (rfl)
@[simp] theorem State.setQp_links (s : State) (q : Nat) (x : QpState) : (s.setQp q x).links = s.links := (rfl)
@[simp] theorem State.setQp_red (s : State) (q : Nat) (x : QpState) : (s.setQp q x).red = s.red := (rfl)
@[simp] theorem State.setQp_snap (s : State) (q : Nat) (x : QpState) : (s.setQp q x).snap = s.snap := (rfl)
@[simp] theorem State.setQp_power (s : State) (q : Nat) (x : QpState) : (s.setQp q x).power = s.power := (rfl)
@[simp] theorem State.setQp_keep (s : State) (q : Nat) (x : QpState) : (s.setQp q x).keep = s.keep := (rfl)
@[simp] theorem State.setQp_pins (s : State) (q : Nat) (x : QpState) : (s.setQp q x).pins = s.pins := (rfl)
@[simp] theorem State.setQp_rd (s : State) (q : Nat) (x : QpState) (off : Nat) : (s.setQp q x).rd off = s.rd off := (rfl)
@[simp] theorem State.setQp_f (s : State) (q : Nat) (x : QpState) (fr : FieldRef) : (s.setQp q x).f fr = s.f fr := (rfl)
@[simp] theorem State.setQp_qp (s : State) (q : Nat) (x : QpState) : (s.setQp q x).qp q = x := Sparse.get_put_self _ _ _ _
theorem State.setQp_qp_ne (s : State) (q : Nat) (x : QpState) {j : Nat} (h : j ≠ q) : (s.setQp q x).qp j = s.qp j :=
  Sparse.get_put_ne _ _ _ h

@[simp] theorem State.emit_pending (s : State) (m : HpMsg) : (s.emit m).pending = s.pending := (rfl)
@[simp] theorem State.emit_now (s : State) (m : HpMsg) : (s.emit m).now = s.now := (rfl)
@[simp] theorem State.emit_fresh (s : State) (m : HpMsg) : (s.emit m).fresh = s.fresh := (rfl)
@[simp] theorem State.emit_regs (s : State) (m : HpMsg) : (s.emit m).regs = s.regs := (rfl)
@[simp] theorem State.emit_readData (s : State) (m : HpMsg) : (s.emit m).readData = s.readData := (rfl)
@[simp] theorem State.emit_mem (s : State) (m : HpMsg) : (s.emit m).mem = s.mem := (rfl)
@[simp] theorem State.emit_poison (s : State) (m : HpMsg) : (s.emit m).poison = s.poison := (rfl)
@[simp] theorem State.emit_ctl (s : State) (m : HpMsg) : (s.emit m).ctl = s.ctl := (rfl)
@[simp] theorem State.emit_recorder (s : State) (m : HpMsg) : (s.emit m).recorder = s.recorder := (rfl)
@[simp] theorem State.emit_fuses (s : State) (m : HpMsg) : (s.emit m).fuses = s.fuses := (rfl)
@[simp] theorem State.emit_boot (s : State) (m : HpMsg) : (s.emit m).boot = s.boot := (rfl)
@[simp] theorem State.emit_sec (s : State) (m : HpMsg) : (s.emit m).sec = s.sec := (rfl)
@[simp] theorem State.emit_strm (s : State) (m : HpMsg) : (s.emit m).strm = s.strm := (rfl)
@[simp] theorem State.emit_hsm (s : State) (m : HpMsg) : (s.emit m).hsm = s.hsm := (rfl)
@[simp] theorem State.emit_comp (s : State) (m : HpMsg) : (s.emit m).comp = s.comp := (rfl)
@[simp] theorem State.emit_health (s : State) (m : HpMsg) : (s.emit m).health = s.health := (rfl)
@[simp] theorem State.emit_links (s : State) (m : HpMsg) : (s.emit m).links = s.links := (rfl)
@[simp] theorem State.emit_red (s : State) (m : HpMsg) : (s.emit m).red = s.red := (rfl)
@[simp] theorem State.emit_snap (s : State) (m : HpMsg) : (s.emit m).snap = s.snap := (rfl)
@[simp] theorem State.emit_power (s : State) (m : HpMsg) : (s.emit m).power = s.power := (rfl)
@[simp] theorem State.emit_keep (s : State) (m : HpMsg) : (s.emit m).keep = s.keep := (rfl)
@[simp] theorem State.emit_pins (s : State) (m : HpMsg) : (s.emit m).pins = s.pins := (rfl)
@[simp] theorem State.emit_rd (s : State) (m : HpMsg) (off : Nat) : (s.emit m).rd off = s.rd off := (rfl)
@[simp] theorem State.emit_f (s : State) (m : HpMsg) (fr : FieldRef) : (s.emit m).f fr = s.f fr := (rfl)

@[simp] theorem State.setOp_pending (s : State) (slot : Nat) (o : Option Op) : (s.setOp slot o).pending = s.pending := (rfl)
@[simp] theorem State.setOp_now (s : State) (slot : Nat) (o : Option Op) : (s.setOp slot o).now = s.now := (rfl)
@[simp] theorem State.setOp_fresh (s : State) (slot : Nat) (o : Option Op) : (s.setOp slot o).fresh = s.fresh := (rfl)
@[simp] theorem State.setOp_regs (s : State) (slot : Nat) (o : Option Op) : (s.setOp slot o).regs = s.regs := (rfl)
@[simp] theorem State.setOp_readData (s : State) (slot : Nat) (o : Option Op) : (s.setOp slot o).readData = s.readData := (rfl)
@[simp] theorem State.setOp_mem (s : State) (slot : Nat) (o : Option Op) : (s.setOp slot o).mem = s.mem := (rfl)
@[simp] theorem State.setOp_poison (s : State) (slot : Nat) (o : Option Op) : (s.setOp slot o).poison = s.poison := (rfl)
@[simp] theorem State.setOp_recorder (s : State) (slot : Nat) (o : Option Op) : (s.setOp slot o).recorder = s.recorder := (rfl)
@[simp] theorem State.setOp_hp (s : State) (slot : Nat) (o : Option Op) : (s.setOp slot o).hp = s.hp := (rfl)
@[simp] theorem State.setOp_fuses (s : State) (slot : Nat) (o : Option Op) : (s.setOp slot o).fuses = s.fuses := (rfl)
@[simp] theorem State.setOp_boot (s : State) (slot : Nat) (o : Option Op) : (s.setOp slot o).boot = s.boot := (rfl)
@[simp] theorem State.setOp_sec (s : State) (slot : Nat) (o : Option Op) : (s.setOp slot o).sec = s.sec := (rfl)
@[simp] theorem State.setOp_strm (s : State) (slot : Nat) (o : Option Op) : (s.setOp slot o).strm = s.strm := (rfl)
@[simp] theorem State.setOp_hsm (s : State) (slot : Nat) (o : Option Op) : (s.setOp slot o).hsm = s.hsm := (rfl)
@[simp] theorem State.setOp_comp (s : State) (slot : Nat) (o : Option Op) : (s.setOp slot o).comp = s.comp := (rfl)
@[simp] theorem State.setOp_health (s : State) (slot : Nat) (o : Option Op) : (s.setOp slot o).health = s.health := (rfl)
@[simp] theorem State.setOp_links (s : State) (slot : Nat) (o : Option Op) : (s.setOp slot o).links = s.links := (rfl)
@[simp] theorem State.setOp_red (s : State) (slot : Nat) (o : Option Op) : (s.setOp slot o).red = s.red := (rfl)
@[simp] theorem State.setOp_snap (s : State) (slot : Nat) (o : Option Op) : (s.setOp slot o).snap = s.snap := (rfl)
@[simp] theorem State.setOp_power (s : State) (slot : Nat) (o : Option Op) : (s.setOp slot o).power = s.power := (rfl)
@[simp] theorem State.setOp_keep (s : State) (slot : Nat) (o : Option Op) : (s.setOp slot o).keep = s.keep := (rfl)
@[simp] theorem State.setOp_pins (s : State) (slot : Nat) (o : Option Op) : (s.setOp slot o).pins = s.pins := (rfl)
@[simp] theorem State.setOp_rd (s : State) (slot : Nat) (o : Option Op) (off : Nat) : (s.setOp slot o).rd off = s.rd off := (rfl)
@[simp] theorem State.setOp_f (s : State) (slot : Nat) (o : Option Op) (fr : FieldRef) : (s.setOp slot o).f fr = s.f fr := (rfl)
@[simp] theorem State.setOp_op (s : State) (slot : Nat) (o : Option Op) : (s.setOp slot o).op slot = o := Sparse.get_put_self _ _ _ _
theorem State.setOp_op_ne (s : State) (slot : Nat) (o : Option Op) {j : Nat} (h : j ≠ slot) : (s.setOp slot o).op j = s.op j :=
  Sparse.get_put_ne _ _ _ h

@[simp] theorem State.setHealth_pending (s : State) (x : Health) : (s.setHealth x).pending = s.pending := (rfl)
@[simp] theorem State.setHealth_now (s : State) (x : Health) : (s.setHealth x).now = s.now := (rfl)
@[simp] theorem State.setHealth_fresh (s : State) (x : Health) : (s.setHealth x).fresh = s.fresh := (rfl)
@[simp] theorem State.setHealth_regs (s : State) (x : Health) : (s.setHealth x).regs = s.regs := (rfl)
@[simp] theorem State.setHealth_readData (s : State) (x : Health) : (s.setHealth x).readData = s.readData := (rfl)
@[simp] theorem State.setHealth_mem (s : State) (x : Health) : (s.setHealth x).mem = s.mem := (rfl)
@[simp] theorem State.setHealth_poison (s : State) (x : Health) : (s.setHealth x).poison = s.poison := (rfl)
@[simp] theorem State.setHealth_ctl (s : State) (x : Health) : (s.setHealth x).ctl = s.ctl := (rfl)
@[simp] theorem State.setHealth_recorder (s : State) (x : Health) : (s.setHealth x).recorder = s.recorder := (rfl)
@[simp] theorem State.setHealth_hp (s : State) (x : Health) : (s.setHealth x).hp = s.hp := (rfl)
@[simp] theorem State.setHealth_fuses (s : State) (x : Health) : (s.setHealth x).fuses = s.fuses := (rfl)
@[simp] theorem State.setHealth_boot (s : State) (x : Health) : (s.setHealth x).boot = s.boot := (rfl)
@[simp] theorem State.setHealth_sec (s : State) (x : Health) : (s.setHealth x).sec = s.sec := (rfl)
@[simp] theorem State.setHealth_strm (s : State) (x : Health) : (s.setHealth x).strm = s.strm := (rfl)
@[simp] theorem State.setHealth_hsm (s : State) (x : Health) : (s.setHealth x).hsm = s.hsm := (rfl)
@[simp] theorem State.setHealth_comp (s : State) (x : Health) : (s.setHealth x).comp = s.comp := (rfl)
@[simp] theorem State.setHealth_links (s : State) (x : Health) : (s.setHealth x).links = s.links := (rfl)
@[simp] theorem State.setHealth_red (s : State) (x : Health) : (s.setHealth x).red = s.red := (rfl)
@[simp] theorem State.setHealth_snap (s : State) (x : Health) : (s.setHealth x).snap = s.snap := (rfl)
@[simp] theorem State.setHealth_power (s : State) (x : Health) : (s.setHealth x).power = s.power := (rfl)
@[simp] theorem State.setHealth_keep (s : State) (x : Health) : (s.setHealth x).keep = s.keep := (rfl)
@[simp] theorem State.setHealth_pins (s : State) (x : Health) : (s.setHealth x).pins = s.pins := (rfl)
@[simp] theorem State.setHealth_rd (s : State) (x : Health) (off : Nat) : (s.setHealth x).rd off = s.rd off := (rfl)
@[simp] theorem State.setHealth_f (s : State) (x : Health) (fr : FieldRef) : (s.setHealth x).f fr = s.f fr := (rfl)
@[simp] theorem State.setHealth_health (s : State) (x : Health) : (s.setHealth x).health = x := (rfl)

@[simp] theorem State.mapBook_pending (s : State) (p step : Nat) (f : StepBook → StepBook) : (s.mapBook p step f).pending = s.pending := (rfl)
@[simp] theorem State.mapBook_now (s : State) (p step : Nat) (f : StepBook → StepBook) : (s.mapBook p step f).now = s.now := (rfl)
@[simp] theorem State.mapBook_fresh (s : State) (p step : Nat) (f : StepBook → StepBook) : (s.mapBook p step f).fresh = s.fresh := (rfl)
@[simp] theorem State.mapBook_regs (s : State) (p step : Nat) (f : StepBook → StepBook) : (s.mapBook p step f).regs = s.regs := (rfl)
@[simp] theorem State.mapBook_readData (s : State) (p step : Nat) (f : StepBook → StepBook) : (s.mapBook p step f).readData = s.readData := (rfl)
@[simp] theorem State.mapBook_mem (s : State) (p step : Nat) (f : StepBook → StepBook) : (s.mapBook p step f).mem = s.mem := (rfl)
@[simp] theorem State.mapBook_poison (s : State) (p step : Nat) (f : StepBook → StepBook) : (s.mapBook p step f).poison = s.poison := (rfl)
@[simp] theorem State.mapBook_ctl (s : State) (p step : Nat) (f : StepBook → StepBook) : (s.mapBook p step f).ctl = s.ctl := (rfl)
@[simp] theorem State.mapBook_recorder (s : State) (p step : Nat) (f : StepBook → StepBook) : (s.mapBook p step f).recorder = s.recorder := (rfl)
@[simp] theorem State.mapBook_hp (s : State) (p step : Nat) (f : StepBook → StepBook) : (s.mapBook p step f).hp = s.hp := (rfl)
@[simp] theorem State.mapBook_fuses (s : State) (p step : Nat) (f : StepBook → StepBook) : (s.mapBook p step f).fuses = s.fuses := (rfl)
@[simp] theorem State.mapBook_boot (s : State) (p step : Nat) (f : StepBook → StepBook) : (s.mapBook p step f).boot = s.boot := (rfl)
@[simp] theorem State.mapBook_sec (s : State) (p step : Nat) (f : StepBook → StepBook) : (s.mapBook p step f).sec = s.sec := (rfl)
@[simp] theorem State.mapBook_strm (s : State) (p step : Nat) (f : StepBook → StepBook) : (s.mapBook p step f).strm = s.strm := (rfl)
@[simp] theorem State.mapBook_hsm (s : State) (p step : Nat) (f : StepBook → StepBook) : (s.mapBook p step f).hsm = s.hsm := (rfl)
@[simp] theorem State.mapBook_comp (s : State) (p step : Nat) (f : StepBook → StepBook) : (s.mapBook p step f).comp = s.comp := (rfl)
@[simp] theorem State.mapBook_links (s : State) (p step : Nat) (f : StepBook → StepBook) : (s.mapBook p step f).links = s.links := (rfl)
@[simp] theorem State.mapBook_red (s : State) (p step : Nat) (f : StepBook → StepBook) : (s.mapBook p step f).red = s.red := (rfl)
@[simp] theorem State.mapBook_snap (s : State) (p step : Nat) (f : StepBook → StepBook) : (s.mapBook p step f).snap = s.snap := (rfl)
@[simp] theorem State.mapBook_power (s : State) (p step : Nat) (f : StepBook → StepBook) : (s.mapBook p step f).power = s.power := (rfl)
@[simp] theorem State.mapBook_keep (s : State) (p step : Nat) (f : StepBook → StepBook) : (s.mapBook p step f).keep = s.keep := (rfl)
@[simp] theorem State.mapBook_pins (s : State) (p step : Nat) (f : StepBook → StepBook) : (s.mapBook p step f).pins = s.pins := (rfl)
@[simp] theorem State.mapBook_rd (s : State) (p step : Nat) (f : StepBook → StepBook) (off : Nat) : (s.mapBook p step f).rd off = s.rd off := (rfl)
@[simp] theorem State.mapBook_f (s : State) (p step : Nat) (f : StepBook → StepBook) (fr : FieldRef) : (s.mapBook p step f).f fr = s.f fr := (rfl)

@[simp] theorem State.setCq_pending (s : State) (n : Nat) (x : CqState) : (s.setCq n x).pending = s.pending := (rfl)
@[simp] theorem State.setCq_now (s : State) (n : Nat) (x : CqState) : (s.setCq n x).now = s.now := (rfl)
@[simp] theorem State.setCq_fresh (s : State) (n : Nat) (x : CqState) : (s.setCq n x).fresh = s.fresh := (rfl)
@[simp] theorem State.setCq_regs (s : State) (n : Nat) (x : CqState) : (s.setCq n x).regs = s.regs := (rfl)
@[simp] theorem State.setCq_readData (s : State) (n : Nat) (x : CqState) : (s.setCq n x).readData = s.readData := (rfl)
@[simp] theorem State.setCq_mem (s : State) (n : Nat) (x : CqState) : (s.setCq n x).mem = s.mem := (rfl)
@[simp] theorem State.setCq_poison (s : State) (n : Nat) (x : CqState) : (s.setCq n x).poison = s.poison := (rfl)
@[simp] theorem State.setCq_recorder (s : State) (n : Nat) (x : CqState) : (s.setCq n x).recorder = s.recorder := (rfl)
@[simp] theorem State.setCq_hp (s : State) (n : Nat) (x : CqState) : (s.setCq n x).hp = s.hp := (rfl)
@[simp] theorem State.setCq_fuses (s : State) (n : Nat) (x : CqState) : (s.setCq n x).fuses = s.fuses := (rfl)
@[simp] theorem State.setCq_boot (s : State) (n : Nat) (x : CqState) : (s.setCq n x).boot = s.boot := (rfl)
@[simp] theorem State.setCq_sec (s : State) (n : Nat) (x : CqState) : (s.setCq n x).sec = s.sec := (rfl)
@[simp] theorem State.setCq_strm (s : State) (n : Nat) (x : CqState) : (s.setCq n x).strm = s.strm := (rfl)
@[simp] theorem State.setCq_hsm (s : State) (n : Nat) (x : CqState) : (s.setCq n x).hsm = s.hsm := (rfl)
@[simp] theorem State.setCq_comp (s : State) (n : Nat) (x : CqState) : (s.setCq n x).comp = s.comp := (rfl)
@[simp] theorem State.setCq_health (s : State) (n : Nat) (x : CqState) : (s.setCq n x).health = s.health := (rfl)
@[simp] theorem State.setCq_links (s : State) (n : Nat) (x : CqState) : (s.setCq n x).links = s.links := (rfl)
@[simp] theorem State.setCq_red (s : State) (n : Nat) (x : CqState) : (s.setCq n x).red = s.red := (rfl)
@[simp] theorem State.setCq_snap (s : State) (n : Nat) (x : CqState) : (s.setCq n x).snap = s.snap := (rfl)
@[simp] theorem State.setCq_power (s : State) (n : Nat) (x : CqState) : (s.setCq n x).power = s.power := (rfl)
@[simp] theorem State.setCq_keep (s : State) (n : Nat) (x : CqState) : (s.setCq n x).keep = s.keep := (rfl)
@[simp] theorem State.setCq_pins (s : State) (n : Nat) (x : CqState) : (s.setCq n x).pins = s.pins := (rfl)
@[simp] theorem State.setCq_rd (s : State) (n : Nat) (x : CqState) (off : Nat) : (s.setCq n x).rd off = s.rd off := (rfl)
@[simp] theorem State.setCq_f (s : State) (n : Nat) (x : CqState) (fr : FieldRef) : (s.setCq n x).f fr = s.f fr := (rfl)
@[simp] theorem State.setCq_cq (s : State) (n : Nat) (x : CqState) : (s.setCq n x).cq n = x := Sparse.get_put_self _ _ _ _
theorem State.setCq_cq_ne (s : State) (n : Nat) (x : CqState) {j : Nat} (h : j ≠ n) : (s.setCq n x).cq j = s.cq j :=
  Sparse.get_put_ne _ _ _ h

@[simp] theorem State.setRec_pending (s : State) (r : Recorder) : (s.setRec r).pending = s.pending := (rfl)
@[simp] theorem State.setRec_now (s : State) (r : Recorder) : (s.setRec r).now = s.now := (rfl)
@[simp] theorem State.setRec_fresh (s : State) (r : Recorder) : (s.setRec r).fresh = s.fresh := (rfl)
@[simp] theorem State.setRec_regs (s : State) (r : Recorder) : (s.setRec r).regs = s.regs := (rfl)
@[simp] theorem State.setRec_readData (s : State) (r : Recorder) : (s.setRec r).readData = s.readData := (rfl)
@[simp] theorem State.setRec_mem (s : State) (r : Recorder) : (s.setRec r).mem = s.mem := (rfl)
@[simp] theorem State.setRec_poison (s : State) (r : Recorder) : (s.setRec r).poison = s.poison := (rfl)
@[simp] theorem State.setRec_ctl (s : State) (r : Recorder) : (s.setRec r).ctl = s.ctl := (rfl)
@[simp] theorem State.setRec_hp (s : State) (r : Recorder) : (s.setRec r).hp = s.hp := (rfl)
@[simp] theorem State.setRec_fuses (s : State) (r : Recorder) : (s.setRec r).fuses = s.fuses := (rfl)
@[simp] theorem State.setRec_boot (s : State) (r : Recorder) : (s.setRec r).boot = s.boot := (rfl)
@[simp] theorem State.setRec_sec (s : State) (r : Recorder) : (s.setRec r).sec = s.sec := (rfl)
@[simp] theorem State.setRec_strm (s : State) (r : Recorder) : (s.setRec r).strm = s.strm := (rfl)
@[simp] theorem State.setRec_hsm (s : State) (r : Recorder) : (s.setRec r).hsm = s.hsm := (rfl)
@[simp] theorem State.setRec_comp (s : State) (r : Recorder) : (s.setRec r).comp = s.comp := (rfl)
@[simp] theorem State.setRec_health (s : State) (r : Recorder) : (s.setRec r).health = s.health := (rfl)
@[simp] theorem State.setRec_links (s : State) (r : Recorder) : (s.setRec r).links = s.links := (rfl)
@[simp] theorem State.setRec_red (s : State) (r : Recorder) : (s.setRec r).red = s.red := (rfl)
@[simp] theorem State.setRec_snap (s : State) (r : Recorder) : (s.setRec r).snap = s.snap := (rfl)
@[simp] theorem State.setRec_power (s : State) (r : Recorder) : (s.setRec r).power = s.power := (rfl)
@[simp] theorem State.setRec_keep (s : State) (r : Recorder) : (s.setRec r).keep = s.keep := (rfl)
@[simp] theorem State.setRec_pins (s : State) (r : Recorder) : (s.setRec r).pins = s.pins := (rfl)
@[simp] theorem State.setRec_rd (s : State) (r : Recorder) (off : Nat) : (s.setRec r).rd off = s.rd off := (rfl)
@[simp] theorem State.setRec_f (s : State) (r : Recorder) (fr : FieldRef) : (s.setRec r).f fr = s.f fr := (rfl)
@[simp] theorem State.setRec_recorder (s : State) (r : Recorder) : (s.setRec r).recorder = r := (rfl)

@[simp] theorem State.setInst_pending (s : State) (k : Nat) (x : Option LadInst) : (s.setInst k x).pending = s.pending := (rfl)
@[simp] theorem State.setInst_now (s : State) (k : Nat) (x : Option LadInst) : (s.setInst k x).now = s.now := (rfl)
@[simp] theorem State.setInst_fresh (s : State) (k : Nat) (x : Option LadInst) : (s.setInst k x).fresh = s.fresh := (rfl)
@[simp] theorem State.setInst_regs (s : State) (k : Nat) (x : Option LadInst) : (s.setInst k x).regs = s.regs := (rfl)
@[simp] theorem State.setInst_readData (s : State) (k : Nat) (x : Option LadInst) : (s.setInst k x).readData = s.readData := (rfl)
@[simp] theorem State.setInst_mem (s : State) (k : Nat) (x : Option LadInst) : (s.setInst k x).mem = s.mem := (rfl)
@[simp] theorem State.setInst_poison (s : State) (k : Nat) (x : Option LadInst) : (s.setInst k x).poison = s.poison := (rfl)
@[simp] theorem State.setInst_ctl (s : State) (k : Nat) (x : Option LadInst) : (s.setInst k x).ctl = s.ctl := (rfl)
@[simp] theorem State.setInst_recorder (s : State) (k : Nat) (x : Option LadInst) : (s.setInst k x).recorder = s.recorder := (rfl)
@[simp] theorem State.setInst_hp (s : State) (k : Nat) (x : Option LadInst) : (s.setInst k x).hp = s.hp := (rfl)
@[simp] theorem State.setInst_fuses (s : State) (k : Nat) (x : Option LadInst) : (s.setInst k x).fuses = s.fuses := (rfl)
@[simp] theorem State.setInst_boot (s : State) (k : Nat) (x : Option LadInst) : (s.setInst k x).boot = s.boot := (rfl)
@[simp] theorem State.setInst_sec (s : State) (k : Nat) (x : Option LadInst) : (s.setInst k x).sec = s.sec := (rfl)
@[simp] theorem State.setInst_strm (s : State) (k : Nat) (x : Option LadInst) : (s.setInst k x).strm = s.strm := (rfl)
@[simp] theorem State.setInst_hsm (s : State) (k : Nat) (x : Option LadInst) : (s.setInst k x).hsm = s.hsm := (rfl)
@[simp] theorem State.setInst_comp (s : State) (k : Nat) (x : Option LadInst) : (s.setInst k x).comp = s.comp := (rfl)
@[simp] theorem State.setInst_links (s : State) (k : Nat) (x : Option LadInst) : (s.setInst k x).links = s.links := (rfl)
@[simp] theorem State.setInst_red (s : State) (k : Nat) (x : Option LadInst) : (s.setInst k x).red = s.red := (rfl)
@[simp] theorem State.setInst_snap (s : State) (k : Nat) (x : Option LadInst) : (s.setInst k x).snap = s.snap := (rfl)
@[simp] theorem State.setInst_power (s : State) (k : Nat) (x : Option LadInst) : (s.setInst k x).power = s.power := (rfl)
@[simp] theorem State.setInst_keep (s : State) (k : Nat) (x : Option LadInst) : (s.setInst k x).keep = s.keep := (rfl)
@[simp] theorem State.setInst_pins (s : State) (k : Nat) (x : Option LadInst) : (s.setInst k x).pins = s.pins := (rfl)
@[simp] theorem State.setInst_rd (s : State) (k : Nat) (x : Option LadInst) (off : Nat) : (s.setInst k x).rd off = s.rd off := (rfl)
@[simp] theorem State.setInst_f (s : State) (k : Nat) (x : Option LadInst) (fr : FieldRef) : (s.setInst k x).f fr = s.f fr := (rfl)
@[simp] theorem State.setInst_inst (s : State) (k : Nat) (x : Option LadInst) : (s.setInst k x).inst k = x := Sparse.get_put_self _ _ _ _
theorem State.setInst_inst_ne (s : State) (k : Nat) (x : Option LadInst) {j : Nat} (h : j ≠ k) : (s.setInst k x).inst j = s.inst j :=
  Sparse.get_put_ne _ _ _ h

@[simp] theorem State.setCtx_pending (s : State) (i : Nat) (c : Ctx) : (s.setCtx i c).pending = s.pending := (rfl)
@[simp] theorem State.setCtx_now (s : State) (i : Nat) (c : Ctx) : (s.setCtx i c).now = s.now := (rfl)
@[simp] theorem State.setCtx_fresh (s : State) (i : Nat) (c : Ctx) : (s.setCtx i c).fresh = s.fresh := (rfl)
@[simp] theorem State.setCtx_regs (s : State) (i : Nat) (c : Ctx) : (s.setCtx i c).regs = s.regs := (rfl)
@[simp] theorem State.setCtx_readData (s : State) (i : Nat) (c : Ctx) : (s.setCtx i c).readData = s.readData := (rfl)
@[simp] theorem State.setCtx_mem (s : State) (i : Nat) (c : Ctx) : (s.setCtx i c).mem = s.mem := (rfl)
@[simp] theorem State.setCtx_poison (s : State) (i : Nat) (c : Ctx) : (s.setCtx i c).poison = s.poison := (rfl)
@[simp] theorem State.setCtx_ctl (s : State) (i : Nat) (c : Ctx) : (s.setCtx i c).ctl = s.ctl := (rfl)
@[simp] theorem State.setCtx_recorder (s : State) (i : Nat) (c : Ctx) : (s.setCtx i c).recorder = s.recorder := (rfl)
@[simp] theorem State.setCtx_hp (s : State) (i : Nat) (c : Ctx) : (s.setCtx i c).hp = s.hp := (rfl)
@[simp] theorem State.setCtx_fuses (s : State) (i : Nat) (c : Ctx) : (s.setCtx i c).fuses = s.fuses := (rfl)
@[simp] theorem State.setCtx_boot (s : State) (i : Nat) (c : Ctx) : (s.setCtx i c).boot = s.boot := (rfl)
@[simp] theorem State.setCtx_sec (s : State) (i : Nat) (c : Ctx) : (s.setCtx i c).sec = s.sec := (rfl)
@[simp] theorem State.setCtx_hsm (s : State) (i : Nat) (c : Ctx) : (s.setCtx i c).hsm = s.hsm := (rfl)
@[simp] theorem State.setCtx_comp (s : State) (i : Nat) (c : Ctx) : (s.setCtx i c).comp = s.comp := (rfl)
@[simp] theorem State.setCtx_health (s : State) (i : Nat) (c : Ctx) : (s.setCtx i c).health = s.health := (rfl)
@[simp] theorem State.setCtx_links (s : State) (i : Nat) (c : Ctx) : (s.setCtx i c).links = s.links := (rfl)
@[simp] theorem State.setCtx_red (s : State) (i : Nat) (c : Ctx) : (s.setCtx i c).red = s.red := (rfl)
@[simp] theorem State.setCtx_snap (s : State) (i : Nat) (c : Ctx) : (s.setCtx i c).snap = s.snap := (rfl)
@[simp] theorem State.setCtx_power (s : State) (i : Nat) (c : Ctx) : (s.setCtx i c).power = s.power := (rfl)
@[simp] theorem State.setCtx_keep (s : State) (i : Nat) (c : Ctx) : (s.setCtx i c).keep = s.keep := (rfl)
@[simp] theorem State.setCtx_pins (s : State) (i : Nat) (c : Ctx) : (s.setCtx i c).pins = s.pins := (rfl)
@[simp] theorem State.setCtx_rd (s : State) (i : Nat) (c : Ctx) (off : Nat) : (s.setCtx i c).rd off = s.rd off := (rfl)
@[simp] theorem State.setCtx_f (s : State) (i : Nat) (c : Ctx) (fr : FieldRef) : (s.setCtx i c).f fr = s.f fr := (rfl)
@[simp] theorem State.setCtx_ctx (s : State) (i : Nat) (c : Ctx) : (s.setCtx i c).ctx i = c := Sparse.get_put_self _ _ _ _
theorem State.setCtx_ctx_ne (s : State) (i : Nat) (c : Ctx) {j : Nat} (h : j ≠ i) : (s.setCtx i c).ctx j = s.ctx j :=
  Sparse.get_put_ne _ _ _ h

@[simp] theorem State.setComp_pending (s : State) (x : Compute) : (s.setComp x).pending = s.pending := (rfl)
@[simp] theorem State.setComp_now (s : State) (x : Compute) : (s.setComp x).now = s.now := (rfl)
@[simp] theorem State.setComp_fresh (s : State) (x : Compute) : (s.setComp x).fresh = s.fresh := (rfl)
@[simp] theorem State.setComp_regs (s : State) (x : Compute) : (s.setComp x).regs = s.regs := (rfl)
@[simp] theorem State.setComp_readData (s : State) (x : Compute) : (s.setComp x).readData = s.readData := (rfl)
@[simp] theorem State.setComp_mem (s : State) (x : Compute) : (s.setComp x).mem = s.mem := (rfl)
@[simp] theorem State.setComp_poison (s : State) (x : Compute) : (s.setComp x).poison = s.poison := (rfl)
@[simp] theorem State.setComp_ctl (s : State) (x : Compute) : (s.setComp x).ctl = s.ctl := (rfl)
@[simp] theorem State.setComp_recorder (s : State) (x : Compute) : (s.setComp x).recorder = s.recorder := (rfl)
@[simp] theorem State.setComp_hp (s : State) (x : Compute) : (s.setComp x).hp = s.hp := (rfl)
@[simp] theorem State.setComp_fuses (s : State) (x : Compute) : (s.setComp x).fuses = s.fuses := (rfl)
@[simp] theorem State.setComp_boot (s : State) (x : Compute) : (s.setComp x).boot = s.boot := (rfl)
@[simp] theorem State.setComp_sec (s : State) (x : Compute) : (s.setComp x).sec = s.sec := (rfl)
@[simp] theorem State.setComp_strm (s : State) (x : Compute) : (s.setComp x).strm = s.strm := (rfl)
@[simp] theorem State.setComp_hsm (s : State) (x : Compute) : (s.setComp x).hsm = s.hsm := (rfl)
@[simp] theorem State.setComp_health (s : State) (x : Compute) : (s.setComp x).health = s.health := (rfl)
@[simp] theorem State.setComp_links (s : State) (x : Compute) : (s.setComp x).links = s.links := (rfl)
@[simp] theorem State.setComp_red (s : State) (x : Compute) : (s.setComp x).red = s.red := (rfl)
@[simp] theorem State.setComp_snap (s : State) (x : Compute) : (s.setComp x).snap = s.snap := (rfl)
@[simp] theorem State.setComp_power (s : State) (x : Compute) : (s.setComp x).power = s.power := (rfl)
@[simp] theorem State.setComp_keep (s : State) (x : Compute) : (s.setComp x).keep = s.keep := (rfl)
@[simp] theorem State.setComp_pins (s : State) (x : Compute) : (s.setComp x).pins = s.pins := (rfl)
@[simp] theorem State.setComp_rd (s : State) (x : Compute) (off : Nat) : (s.setComp x).rd off = s.rd off := (rfl)
@[simp] theorem State.setComp_f (s : State) (x : Compute) (fr : FieldRef) : (s.setComp x).f fr = s.f fr := (rfl)
@[simp] theorem State.setComp_comp (s : State) (x : Compute) : (s.setComp x).comp = x := (rfl)

@[simp] theorem State.setArr_pending (s : State) (a : Nat) (x : ArrState) : (s.setArr a x).pending = s.pending := (rfl)
@[simp] theorem State.setArr_now (s : State) (a : Nat) (x : ArrState) : (s.setArr a x).now = s.now := (rfl)
@[simp] theorem State.setArr_fresh (s : State) (a : Nat) (x : ArrState) : (s.setArr a x).fresh = s.fresh := (rfl)
@[simp] theorem State.setArr_regs (s : State) (a : Nat) (x : ArrState) : (s.setArr a x).regs = s.regs := (rfl)
@[simp] theorem State.setArr_readData (s : State) (a : Nat) (x : ArrState) : (s.setArr a x).readData = s.readData := (rfl)
@[simp] theorem State.setArr_mem (s : State) (a : Nat) (x : ArrState) : (s.setArr a x).mem = s.mem := (rfl)
@[simp] theorem State.setArr_poison (s : State) (a : Nat) (x : ArrState) : (s.setArr a x).poison = s.poison := (rfl)
@[simp] theorem State.setArr_ctl (s : State) (a : Nat) (x : ArrState) : (s.setArr a x).ctl = s.ctl := (rfl)
@[simp] theorem State.setArr_recorder (s : State) (a : Nat) (x : ArrState) : (s.setArr a x).recorder = s.recorder := (rfl)
@[simp] theorem State.setArr_hp (s : State) (a : Nat) (x : ArrState) : (s.setArr a x).hp = s.hp := (rfl)
@[simp] theorem State.setArr_fuses (s : State) (a : Nat) (x : ArrState) : (s.setArr a x).fuses = s.fuses := (rfl)
@[simp] theorem State.setArr_boot (s : State) (a : Nat) (x : ArrState) : (s.setArr a x).boot = s.boot := (rfl)
@[simp] theorem State.setArr_sec (s : State) (a : Nat) (x : ArrState) : (s.setArr a x).sec = s.sec := (rfl)
@[simp] theorem State.setArr_strm (s : State) (a : Nat) (x : ArrState) : (s.setArr a x).strm = s.strm := (rfl)
@[simp] theorem State.setArr_hsm (s : State) (a : Nat) (x : ArrState) : (s.setArr a x).hsm = s.hsm := (rfl)
@[simp] theorem State.setArr_health (s : State) (a : Nat) (x : ArrState) : (s.setArr a x).health = s.health := (rfl)
@[simp] theorem State.setArr_links (s : State) (a : Nat) (x : ArrState) : (s.setArr a x).links = s.links := (rfl)
@[simp] theorem State.setArr_red (s : State) (a : Nat) (x : ArrState) : (s.setArr a x).red = s.red := (rfl)
@[simp] theorem State.setArr_snap (s : State) (a : Nat) (x : ArrState) : (s.setArr a x).snap = s.snap := (rfl)
@[simp] theorem State.setArr_power (s : State) (a : Nat) (x : ArrState) : (s.setArr a x).power = s.power := (rfl)
@[simp] theorem State.setArr_keep (s : State) (a : Nat) (x : ArrState) : (s.setArr a x).keep = s.keep := (rfl)
@[simp] theorem State.setArr_pins (s : State) (a : Nat) (x : ArrState) : (s.setArr a x).pins = s.pins := (rfl)
@[simp] theorem State.setArr_rd (s : State) (a : Nat) (x : ArrState) (off : Nat) : (s.setArr a x).rd off = s.rd off := (rfl)
@[simp] theorem State.setArr_f (s : State) (a : Nat) (x : ArrState) (fr : FieldRef) : (s.setArr a x).f fr = s.f fr := (rfl)
@[simp] theorem State.setArr_arr (s : State) (a : Nat) (x : ArrState) : (s.setArr a x).arr a = x := Sparse.get_put_self _ _ _ _
theorem State.setArr_arr_ne (s : State) (a : Nat) (x : ArrState) {j : Nat} (h : j ≠ a) : (s.setArr a x).arr j = s.arr j :=
  Sparse.get_put_ne _ _ _ h

@[simp] theorem State.setMm_pending (s : State) (slot : Nat) (x : Option MmRun) : (s.setMm slot x).pending = s.pending := (rfl)
@[simp] theorem State.setMm_now (s : State) (slot : Nat) (x : Option MmRun) : (s.setMm slot x).now = s.now := (rfl)
@[simp] theorem State.setMm_fresh (s : State) (slot : Nat) (x : Option MmRun) : (s.setMm slot x).fresh = s.fresh := (rfl)
@[simp] theorem State.setMm_regs (s : State) (slot : Nat) (x : Option MmRun) : (s.setMm slot x).regs = s.regs := (rfl)
@[simp] theorem State.setMm_readData (s : State) (slot : Nat) (x : Option MmRun) : (s.setMm slot x).readData = s.readData := (rfl)
@[simp] theorem State.setMm_mem (s : State) (slot : Nat) (x : Option MmRun) : (s.setMm slot x).mem = s.mem := (rfl)
@[simp] theorem State.setMm_poison (s : State) (slot : Nat) (x : Option MmRun) : (s.setMm slot x).poison = s.poison := (rfl)
@[simp] theorem State.setMm_ctl (s : State) (slot : Nat) (x : Option MmRun) : (s.setMm slot x).ctl = s.ctl := (rfl)
@[simp] theorem State.setMm_recorder (s : State) (slot : Nat) (x : Option MmRun) : (s.setMm slot x).recorder = s.recorder := (rfl)
@[simp] theorem State.setMm_hp (s : State) (slot : Nat) (x : Option MmRun) : (s.setMm slot x).hp = s.hp := (rfl)
@[simp] theorem State.setMm_fuses (s : State) (slot : Nat) (x : Option MmRun) : (s.setMm slot x).fuses = s.fuses := (rfl)
@[simp] theorem State.setMm_boot (s : State) (slot : Nat) (x : Option MmRun) : (s.setMm slot x).boot = s.boot := (rfl)
@[simp] theorem State.setMm_sec (s : State) (slot : Nat) (x : Option MmRun) : (s.setMm slot x).sec = s.sec := (rfl)
@[simp] theorem State.setMm_strm (s : State) (slot : Nat) (x : Option MmRun) : (s.setMm slot x).strm = s.strm := (rfl)
@[simp] theorem State.setMm_hsm (s : State) (slot : Nat) (x : Option MmRun) : (s.setMm slot x).hsm = s.hsm := (rfl)
@[simp] theorem State.setMm_health (s : State) (slot : Nat) (x : Option MmRun) : (s.setMm slot x).health = s.health := (rfl)
@[simp] theorem State.setMm_links (s : State) (slot : Nat) (x : Option MmRun) : (s.setMm slot x).links = s.links := (rfl)
@[simp] theorem State.setMm_red (s : State) (slot : Nat) (x : Option MmRun) : (s.setMm slot x).red = s.red := (rfl)
@[simp] theorem State.setMm_snap (s : State) (slot : Nat) (x : Option MmRun) : (s.setMm slot x).snap = s.snap := (rfl)
@[simp] theorem State.setMm_power (s : State) (slot : Nat) (x : Option MmRun) : (s.setMm slot x).power = s.power := (rfl)
@[simp] theorem State.setMm_keep (s : State) (slot : Nat) (x : Option MmRun) : (s.setMm slot x).keep = s.keep := (rfl)
@[simp] theorem State.setMm_pins (s : State) (slot : Nat) (x : Option MmRun) : (s.setMm slot x).pins = s.pins := (rfl)
@[simp] theorem State.setMm_rd (s : State) (slot : Nat) (x : Option MmRun) (off : Nat) : (s.setMm slot x).rd off = s.rd off := (rfl)
@[simp] theorem State.setMm_f (s : State) (slot : Nat) (x : Option MmRun) (fr : FieldRef) : (s.setMm slot x).f fr = s.f fr := (rfl)
@[simp] theorem State.setMm_mm (s : State) (slot : Nat) (x : Option MmRun) : (s.setMm slot x).mm slot = x := Sparse.get_put_self _ _ _ _
theorem State.setMm_mm_ne (s : State) (slot : Nat) (x : Option MmRun) {j : Nat} (h : j ≠ slot) : (s.setMm slot x).mm j = s.mm j :=
  Sparse.get_put_ne _ _ _ h

@[simp] theorem State.setKern_pending (s : State) (slot : Nat) (x : Option KernRun) : (s.setKern slot x).pending = s.pending := (rfl)
@[simp] theorem State.setKern_now (s : State) (slot : Nat) (x : Option KernRun) : (s.setKern slot x).now = s.now := (rfl)
@[simp] theorem State.setKern_fresh (s : State) (slot : Nat) (x : Option KernRun) : (s.setKern slot x).fresh = s.fresh := (rfl)
@[simp] theorem State.setKern_regs (s : State) (slot : Nat) (x : Option KernRun) : (s.setKern slot x).regs = s.regs := (rfl)
@[simp] theorem State.setKern_readData (s : State) (slot : Nat) (x : Option KernRun) : (s.setKern slot x).readData = s.readData := (rfl)
@[simp] theorem State.setKern_mem (s : State) (slot : Nat) (x : Option KernRun) : (s.setKern slot x).mem = s.mem := (rfl)
@[simp] theorem State.setKern_poison (s : State) (slot : Nat) (x : Option KernRun) : (s.setKern slot x).poison = s.poison := (rfl)
@[simp] theorem State.setKern_ctl (s : State) (slot : Nat) (x : Option KernRun) : (s.setKern slot x).ctl = s.ctl := (rfl)
@[simp] theorem State.setKern_recorder (s : State) (slot : Nat) (x : Option KernRun) : (s.setKern slot x).recorder = s.recorder := (rfl)
@[simp] theorem State.setKern_hp (s : State) (slot : Nat) (x : Option KernRun) : (s.setKern slot x).hp = s.hp := (rfl)
@[simp] theorem State.setKern_fuses (s : State) (slot : Nat) (x : Option KernRun) : (s.setKern slot x).fuses = s.fuses := (rfl)
@[simp] theorem State.setKern_boot (s : State) (slot : Nat) (x : Option KernRun) : (s.setKern slot x).boot = s.boot := (rfl)
@[simp] theorem State.setKern_sec (s : State) (slot : Nat) (x : Option KernRun) : (s.setKern slot x).sec = s.sec := (rfl)
@[simp] theorem State.setKern_strm (s : State) (slot : Nat) (x : Option KernRun) : (s.setKern slot x).strm = s.strm := (rfl)
@[simp] theorem State.setKern_hsm (s : State) (slot : Nat) (x : Option KernRun) : (s.setKern slot x).hsm = s.hsm := (rfl)
@[simp] theorem State.setKern_health (s : State) (slot : Nat) (x : Option KernRun) : (s.setKern slot x).health = s.health := (rfl)
@[simp] theorem State.setKern_links (s : State) (slot : Nat) (x : Option KernRun) : (s.setKern slot x).links = s.links := (rfl)
@[simp] theorem State.setKern_red (s : State) (slot : Nat) (x : Option KernRun) : (s.setKern slot x).red = s.red := (rfl)
@[simp] theorem State.setKern_snap (s : State) (slot : Nat) (x : Option KernRun) : (s.setKern slot x).snap = s.snap := (rfl)
@[simp] theorem State.setKern_power (s : State) (slot : Nat) (x : Option KernRun) : (s.setKern slot x).power = s.power := (rfl)
@[simp] theorem State.setKern_keep (s : State) (slot : Nat) (x : Option KernRun) : (s.setKern slot x).keep = s.keep := (rfl)
@[simp] theorem State.setKern_pins (s : State) (slot : Nat) (x : Option KernRun) : (s.setKern slot x).pins = s.pins := (rfl)
@[simp] theorem State.setKern_rd (s : State) (slot : Nat) (x : Option KernRun) (off : Nat) : (s.setKern slot x).rd off = s.rd off := (rfl)
@[simp] theorem State.setKern_f (s : State) (slot : Nat) (x : Option KernRun) (fr : FieldRef) : (s.setKern slot x).f fr = s.f fr := (rfl)
@[simp] theorem State.setKern_kern (s : State) (slot : Nat) (x : Option KernRun) : (s.setKern slot x).kern slot = x := Sparse.get_put_self _ _ _ _
theorem State.setKern_kern_ne (s : State) (slot : Nat) (x : Option KernRun) {j : Nat} (h : j ≠ slot) : (s.setKern slot x).kern j = s.kern j :=
  Sparse.get_put_ne _ _ _ h

@[simp] theorem State.setEng_pending (s : State) (e : Nat) (x : Engine) : (s.setEng e x).pending = s.pending := (rfl)
@[simp] theorem State.setEng_now (s : State) (e : Nat) (x : Engine) : (s.setEng e x).now = s.now := (rfl)
@[simp] theorem State.setEng_fresh (s : State) (e : Nat) (x : Engine) : (s.setEng e x).fresh = s.fresh := (rfl)
@[simp] theorem State.setEng_regs (s : State) (e : Nat) (x : Engine) : (s.setEng e x).regs = s.regs := (rfl)
@[simp] theorem State.setEng_readData (s : State) (e : Nat) (x : Engine) : (s.setEng e x).readData = s.readData := (rfl)
@[simp] theorem State.setEng_mem (s : State) (e : Nat) (x : Engine) : (s.setEng e x).mem = s.mem := (rfl)
@[simp] theorem State.setEng_poison (s : State) (e : Nat) (x : Engine) : (s.setEng e x).poison = s.poison := (rfl)
@[simp] theorem State.setEng_ctl (s : State) (e : Nat) (x : Engine) : (s.setEng e x).ctl = s.ctl := (rfl)
@[simp] theorem State.setEng_recorder (s : State) (e : Nat) (x : Engine) : (s.setEng e x).recorder = s.recorder := (rfl)
@[simp] theorem State.setEng_hp (s : State) (e : Nat) (x : Engine) : (s.setEng e x).hp = s.hp := (rfl)
@[simp] theorem State.setEng_fuses (s : State) (e : Nat) (x : Engine) : (s.setEng e x).fuses = s.fuses := (rfl)
@[simp] theorem State.setEng_boot (s : State) (e : Nat) (x : Engine) : (s.setEng e x).boot = s.boot := (rfl)
@[simp] theorem State.setEng_sec (s : State) (e : Nat) (x : Engine) : (s.setEng e x).sec = s.sec := (rfl)
@[simp] theorem State.setEng_strm (s : State) (e : Nat) (x : Engine) : (s.setEng e x).strm = s.strm := (rfl)
@[simp] theorem State.setEng_hsm (s : State) (e : Nat) (x : Engine) : (s.setEng e x).hsm = s.hsm := (rfl)
@[simp] theorem State.setEng_health (s : State) (e : Nat) (x : Engine) : (s.setEng e x).health = s.health := (rfl)
@[simp] theorem State.setEng_links (s : State) (e : Nat) (x : Engine) : (s.setEng e x).links = s.links := (rfl)
@[simp] theorem State.setEng_red (s : State) (e : Nat) (x : Engine) : (s.setEng e x).red = s.red := (rfl)
@[simp] theorem State.setEng_snap (s : State) (e : Nat) (x : Engine) : (s.setEng e x).snap = s.snap := (rfl)
@[simp] theorem State.setEng_power (s : State) (e : Nat) (x : Engine) : (s.setEng e x).power = s.power := (rfl)
@[simp] theorem State.setEng_keep (s : State) (e : Nat) (x : Engine) : (s.setEng e x).keep = s.keep := (rfl)
@[simp] theorem State.setEng_pins (s : State) (e : Nat) (x : Engine) : (s.setEng e x).pins = s.pins := (rfl)
@[simp] theorem State.setEng_rd (s : State) (e : Nat) (x : Engine) (off : Nat) : (s.setEng e x).rd off = s.rd off := (rfl)
@[simp] theorem State.setEng_f (s : State) (e : Nat) (x : Engine) (fr : FieldRef) : (s.setEng e x).f fr = s.f fr := (rfl)
@[simp] theorem State.setEng_eng (s : State) (e : Nat) (x : Engine) : (s.setEng e x).eng e = x := Sparse.get_put_self _ _ _ _
theorem State.setEng_eng_ne (s : State) (e : Nat) (x : Engine) {j : Nat} (h : j ≠ e) : (s.setEng e x).eng j = s.eng j :=
  Sparse.get_put_ne _ _ _ h

@[simp] theorem State.setSpare_pending (s : State) (cs : Nat) (x : Option Spare) : (s.setSpare cs x).pending = s.pending := (rfl)
@[simp] theorem State.setSpare_now (s : State) (cs : Nat) (x : Option Spare) : (s.setSpare cs x).now = s.now := (rfl)
@[simp] theorem State.setSpare_fresh (s : State) (cs : Nat) (x : Option Spare) : (s.setSpare cs x).fresh = s.fresh := (rfl)
@[simp] theorem State.setSpare_regs (s : State) (cs : Nat) (x : Option Spare) : (s.setSpare cs x).regs = s.regs := (rfl)
@[simp] theorem State.setSpare_readData (s : State) (cs : Nat) (x : Option Spare) : (s.setSpare cs x).readData = s.readData := (rfl)
@[simp] theorem State.setSpare_mem (s : State) (cs : Nat) (x : Option Spare) : (s.setSpare cs x).mem = s.mem := (rfl)
@[simp] theorem State.setSpare_poison (s : State) (cs : Nat) (x : Option Spare) : (s.setSpare cs x).poison = s.poison := (rfl)
@[simp] theorem State.setSpare_ctl (s : State) (cs : Nat) (x : Option Spare) : (s.setSpare cs x).ctl = s.ctl := (rfl)
@[simp] theorem State.setSpare_recorder (s : State) (cs : Nat) (x : Option Spare) : (s.setSpare cs x).recorder = s.recorder := (rfl)
@[simp] theorem State.setSpare_hp (s : State) (cs : Nat) (x : Option Spare) : (s.setSpare cs x).hp = s.hp := (rfl)
@[simp] theorem State.setSpare_fuses (s : State) (cs : Nat) (x : Option Spare) : (s.setSpare cs x).fuses = s.fuses := (rfl)
@[simp] theorem State.setSpare_boot (s : State) (cs : Nat) (x : Option Spare) : (s.setSpare cs x).boot = s.boot := (rfl)
@[simp] theorem State.setSpare_sec (s : State) (cs : Nat) (x : Option Spare) : (s.setSpare cs x).sec = s.sec := (rfl)
@[simp] theorem State.setSpare_strm (s : State) (cs : Nat) (x : Option Spare) : (s.setSpare cs x).strm = s.strm := (rfl)
@[simp] theorem State.setSpare_hsm (s : State) (cs : Nat) (x : Option Spare) : (s.setSpare cs x).hsm = s.hsm := (rfl)
@[simp] theorem State.setSpare_health (s : State) (cs : Nat) (x : Option Spare) : (s.setSpare cs x).health = s.health := (rfl)
@[simp] theorem State.setSpare_links (s : State) (cs : Nat) (x : Option Spare) : (s.setSpare cs x).links = s.links := (rfl)
@[simp] theorem State.setSpare_red (s : State) (cs : Nat) (x : Option Spare) : (s.setSpare cs x).red = s.red := (rfl)
@[simp] theorem State.setSpare_snap (s : State) (cs : Nat) (x : Option Spare) : (s.setSpare cs x).snap = s.snap := (rfl)
@[simp] theorem State.setSpare_power (s : State) (cs : Nat) (x : Option Spare) : (s.setSpare cs x).power = s.power := (rfl)
@[simp] theorem State.setSpare_keep (s : State) (cs : Nat) (x : Option Spare) : (s.setSpare cs x).keep = s.keep := (rfl)
@[simp] theorem State.setSpare_pins (s : State) (cs : Nat) (x : Option Spare) : (s.setSpare cs x).pins = s.pins := (rfl)
@[simp] theorem State.setSpare_rd (s : State) (cs : Nat) (x : Option Spare) (off : Nat) : (s.setSpare cs x).rd off = s.rd off := (rfl)
@[simp] theorem State.setSpare_f (s : State) (cs : Nat) (x : Option Spare) (fr : FieldRef) : (s.setSpare cs x).f fr = s.f fr := (rfl)
@[simp] theorem State.setSpare_spare (s : State) (cs : Nat) (x : Option Spare) : (s.setSpare cs x).spare cs = x := Sparse.get_put_self _ _ _ _
theorem State.setSpare_spare_ne (s : State) (cs : Nat) (x : Option Spare) {j : Nat} (h : j ≠ cs) : (s.setSpare cs x).spare j = s.spare j :=
  Sparse.get_put_ne _ _ _ h

@[simp] theorem State.setHsm_pending (s : State) (x : Hsm) : (s.setHsm x).pending = s.pending := (rfl)
@[simp] theorem State.setHsm_now (s : State) (x : Hsm) : (s.setHsm x).now = s.now := (rfl)
@[simp] theorem State.setHsm_fresh (s : State) (x : Hsm) : (s.setHsm x).fresh = s.fresh := (rfl)
@[simp] theorem State.setHsm_regs (s : State) (x : Hsm) : (s.setHsm x).regs = s.regs := (rfl)
@[simp] theorem State.setHsm_readData (s : State) (x : Hsm) : (s.setHsm x).readData = s.readData := (rfl)
@[simp] theorem State.setHsm_mem (s : State) (x : Hsm) : (s.setHsm x).mem = s.mem := (rfl)
@[simp] theorem State.setHsm_poison (s : State) (x : Hsm) : (s.setHsm x).poison = s.poison := (rfl)
@[simp] theorem State.setHsm_ctl (s : State) (x : Hsm) : (s.setHsm x).ctl = s.ctl := (rfl)
@[simp] theorem State.setHsm_recorder (s : State) (x : Hsm) : (s.setHsm x).recorder = s.recorder := (rfl)
@[simp] theorem State.setHsm_hp (s : State) (x : Hsm) : (s.setHsm x).hp = s.hp := (rfl)
@[simp] theorem State.setHsm_fuses (s : State) (x : Hsm) : (s.setHsm x).fuses = s.fuses := (rfl)
@[simp] theorem State.setHsm_boot (s : State) (x : Hsm) : (s.setHsm x).boot = s.boot := (rfl)
@[simp] theorem State.setHsm_sec (s : State) (x : Hsm) : (s.setHsm x).sec = s.sec := (rfl)
@[simp] theorem State.setHsm_strm (s : State) (x : Hsm) : (s.setHsm x).strm = s.strm := (rfl)
@[simp] theorem State.setHsm_comp (s : State) (x : Hsm) : (s.setHsm x).comp = s.comp := (rfl)
@[simp] theorem State.setHsm_health (s : State) (x : Hsm) : (s.setHsm x).health = s.health := (rfl)
@[simp] theorem State.setHsm_links (s : State) (x : Hsm) : (s.setHsm x).links = s.links := (rfl)
@[simp] theorem State.setHsm_red (s : State) (x : Hsm) : (s.setHsm x).red = s.red := (rfl)
@[simp] theorem State.setHsm_snap (s : State) (x : Hsm) : (s.setHsm x).snap = s.snap := (rfl)
@[simp] theorem State.setHsm_power (s : State) (x : Hsm) : (s.setHsm x).power = s.power := (rfl)
@[simp] theorem State.setHsm_keep (s : State) (x : Hsm) : (s.setHsm x).keep = s.keep := (rfl)
@[simp] theorem State.setHsm_pins (s : State) (x : Hsm) : (s.setHsm x).pins = s.pins := (rfl)
@[simp] theorem State.setHsm_rd (s : State) (x : Hsm) (off : Nat) : (s.setHsm x).rd off = s.rd off := (rfl)
@[simp] theorem State.setHsm_f (s : State) (x : Hsm) (fr : FieldRef) : (s.setHsm x).f fr = s.f fr := (rfl)
@[simp] theorem State.setHsm_hsm (s : State) (x : Hsm) : (s.setHsm x).hsm = x := (rfl)

@[simp] theorem State.markSector_pending (s : State) (k : Nat) : (s.markSector k).pending = s.pending := (rfl)
@[simp] theorem State.markSector_now (s : State) (k : Nat) : (s.markSector k).now = s.now := (rfl)
@[simp] theorem State.markSector_fresh (s : State) (k : Nat) : (s.markSector k).fresh = s.fresh := (rfl)
@[simp] theorem State.markSector_regs (s : State) (k : Nat) : (s.markSector k).regs = s.regs := (rfl)
@[simp] theorem State.markSector_readData (s : State) (k : Nat) : (s.markSector k).readData = s.readData := (rfl)
@[simp] theorem State.markSector_mem (s : State) (k : Nat) : (s.markSector k).mem = s.mem := (rfl)
@[simp] theorem State.markSector_ctl (s : State) (k : Nat) : (s.markSector k).ctl = s.ctl := (rfl)
@[simp] theorem State.markSector_recorder (s : State) (k : Nat) : (s.markSector k).recorder = s.recorder := (rfl)
@[simp] theorem State.markSector_hp (s : State) (k : Nat) : (s.markSector k).hp = s.hp := (rfl)
@[simp] theorem State.markSector_fuses (s : State) (k : Nat) : (s.markSector k).fuses = s.fuses := (rfl)
@[simp] theorem State.markSector_boot (s : State) (k : Nat) : (s.markSector k).boot = s.boot := (rfl)
@[simp] theorem State.markSector_sec (s : State) (k : Nat) : (s.markSector k).sec = s.sec := (rfl)
@[simp] theorem State.markSector_strm (s : State) (k : Nat) : (s.markSector k).strm = s.strm := (rfl)
@[simp] theorem State.markSector_hsm (s : State) (k : Nat) : (s.markSector k).hsm = s.hsm := (rfl)
@[simp] theorem State.markSector_comp (s : State) (k : Nat) : (s.markSector k).comp = s.comp := (rfl)
@[simp] theorem State.markSector_health (s : State) (k : Nat) : (s.markSector k).health = s.health := (rfl)
@[simp] theorem State.markSector_links (s : State) (k : Nat) : (s.markSector k).links = s.links := (rfl)
@[simp] theorem State.markSector_red (s : State) (k : Nat) : (s.markSector k).red = s.red := (rfl)
@[simp] theorem State.markSector_snap (s : State) (k : Nat) : (s.markSector k).snap = s.snap := (rfl)
@[simp] theorem State.markSector_power (s : State) (k : Nat) : (s.markSector k).power = s.power := (rfl)
@[simp] theorem State.markSector_keep (s : State) (k : Nat) : (s.markSector k).keep = s.keep := (rfl)
@[simp] theorem State.markSector_pins (s : State) (k : Nat) : (s.markSector k).pins = s.pins := (rfl)
@[simp] theorem State.markSector_rd (s : State) (k : Nat) (off : Nat) : (s.markSector k).rd off = s.rd off := (rfl)
@[simp] theorem State.markSector_f (s : State) (k : Nat) (fr : FieldRef) : (s.markSector k).f fr = s.f fr := (rfl)

@[simp] theorem State.owe_pending (s : State) (e : LedgerEntry) : (s.owe e).pending = s.pending := (rfl)
@[simp] theorem State.owe_now (s : State) (e : LedgerEntry) : (s.owe e).now = s.now := (rfl)
@[simp] theorem State.owe_fresh (s : State) (e : LedgerEntry) : (s.owe e).fresh = s.fresh := (rfl)
@[simp] theorem State.owe_regs (s : State) (e : LedgerEntry) : (s.owe e).regs = s.regs := (rfl)
@[simp] theorem State.owe_readData (s : State) (e : LedgerEntry) : (s.owe e).readData = s.readData := (rfl)
@[simp] theorem State.owe_mem (s : State) (e : LedgerEntry) : (s.owe e).mem = s.mem := (rfl)
@[simp] theorem State.owe_poison (s : State) (e : LedgerEntry) : (s.owe e).poison = s.poison := (rfl)
@[simp] theorem State.owe_ctl (s : State) (e : LedgerEntry) : (s.owe e).ctl = s.ctl := (rfl)
@[simp] theorem State.owe_recorder (s : State) (e : LedgerEntry) : (s.owe e).recorder = s.recorder := (rfl)
@[simp] theorem State.owe_hp (s : State) (e : LedgerEntry) : (s.owe e).hp = s.hp := (rfl)
@[simp] theorem State.owe_fuses (s : State) (e : LedgerEntry) : (s.owe e).fuses = s.fuses := (rfl)
@[simp] theorem State.owe_boot (s : State) (e : LedgerEntry) : (s.owe e).boot = s.boot := (rfl)
@[simp] theorem State.owe_sec (s : State) (e : LedgerEntry) : (s.owe e).sec = s.sec := (rfl)
@[simp] theorem State.owe_strm (s : State) (e : LedgerEntry) : (s.owe e).strm = s.strm := (rfl)
@[simp] theorem State.owe_hsm (s : State) (e : LedgerEntry) : (s.owe e).hsm = s.hsm := (rfl)
@[simp] theorem State.owe_comp (s : State) (e : LedgerEntry) : (s.owe e).comp = s.comp := (rfl)
@[simp] theorem State.owe_health (s : State) (e : LedgerEntry) : (s.owe e).health = s.health := (rfl)
@[simp] theorem State.owe_links (s : State) (e : LedgerEntry) : (s.owe e).links = s.links := (rfl)
@[simp] theorem State.owe_red (s : State) (e : LedgerEntry) : (s.owe e).red = s.red := (rfl)
@[simp] theorem State.owe_snap (s : State) (e : LedgerEntry) : (s.owe e).snap = s.snap := (rfl)
@[simp] theorem State.owe_power (s : State) (e : LedgerEntry) : (s.owe e).power = s.power := (rfl)
@[simp] theorem State.owe_pins (s : State) (e : LedgerEntry) : (s.owe e).pins = s.pins := (rfl)
@[simp] theorem State.owe_rd (s : State) (e : LedgerEntry) (off : Nat) : (s.owe e).rd off = s.rd off := (rfl)
@[simp] theorem State.owe_f (s : State) (e : LedgerEntry) (fr : FieldRef) : (s.owe e).f fr = s.f fr := (rfl)

@[simp] theorem State.wantRetrain_pending (s : State) (n : Nat) (b : Bool) : (s.wantRetrain n b).pending = s.pending := (rfl)
@[simp] theorem State.wantRetrain_now (s : State) (n : Nat) (b : Bool) : (s.wantRetrain n b).now = s.now := (rfl)
@[simp] theorem State.wantRetrain_fresh (s : State) (n : Nat) (b : Bool) : (s.wantRetrain n b).fresh = s.fresh := (rfl)
@[simp] theorem State.wantRetrain_regs (s : State) (n : Nat) (b : Bool) : (s.wantRetrain n b).regs = s.regs := (rfl)
@[simp] theorem State.wantRetrain_readData (s : State) (n : Nat) (b : Bool) : (s.wantRetrain n b).readData = s.readData := (rfl)
@[simp] theorem State.wantRetrain_mem (s : State) (n : Nat) (b : Bool) : (s.wantRetrain n b).mem = s.mem := (rfl)
@[simp] theorem State.wantRetrain_poison (s : State) (n : Nat) (b : Bool) : (s.wantRetrain n b).poison = s.poison := (rfl)
@[simp] theorem State.wantRetrain_ctl (s : State) (n : Nat) (b : Bool) : (s.wantRetrain n b).ctl = s.ctl := (rfl)
@[simp] theorem State.wantRetrain_recorder (s : State) (n : Nat) (b : Bool) : (s.wantRetrain n b).recorder = s.recorder := (rfl)
@[simp] theorem State.wantRetrain_hp (s : State) (n : Nat) (b : Bool) : (s.wantRetrain n b).hp = s.hp := (rfl)
@[simp] theorem State.wantRetrain_fuses (s : State) (n : Nat) (b : Bool) : (s.wantRetrain n b).fuses = s.fuses := (rfl)
@[simp] theorem State.wantRetrain_boot (s : State) (n : Nat) (b : Bool) : (s.wantRetrain n b).boot = s.boot := (rfl)
@[simp] theorem State.wantRetrain_sec (s : State) (n : Nat) (b : Bool) : (s.wantRetrain n b).sec = s.sec := (rfl)
@[simp] theorem State.wantRetrain_strm (s : State) (n : Nat) (b : Bool) : (s.wantRetrain n b).strm = s.strm := (rfl)
@[simp] theorem State.wantRetrain_comp (s : State) (n : Nat) (b : Bool) : (s.wantRetrain n b).comp = s.comp := (rfl)
@[simp] theorem State.wantRetrain_health (s : State) (n : Nat) (b : Bool) : (s.wantRetrain n b).health = s.health := (rfl)
@[simp] theorem State.wantRetrain_links (s : State) (n : Nat) (b : Bool) : (s.wantRetrain n b).links = s.links := (rfl)
@[simp] theorem State.wantRetrain_red (s : State) (n : Nat) (b : Bool) : (s.wantRetrain n b).red = s.red := (rfl)
@[simp] theorem State.wantRetrain_snap (s : State) (n : Nat) (b : Bool) : (s.wantRetrain n b).snap = s.snap := (rfl)
@[simp] theorem State.wantRetrain_power (s : State) (n : Nat) (b : Bool) : (s.wantRetrain n b).power = s.power := (rfl)
@[simp] theorem State.wantRetrain_keep (s : State) (n : Nat) (b : Bool) : (s.wantRetrain n b).keep = s.keep := (rfl)
@[simp] theorem State.wantRetrain_pins (s : State) (n : Nat) (b : Bool) : (s.wantRetrain n b).pins = s.pins := (rfl)
@[simp] theorem State.wantRetrain_rd (s : State) (n : Nat) (b : Bool) (off : Nat) : (s.wantRetrain n b).rd off = s.rd off := (rfl)
@[simp] theorem State.wantRetrain_f (s : State) (n : Nat) (b : Bool) (fr : FieldRef) : (s.wantRetrain n b).f fr = s.f fr := (rfl)
@[simp] theorem State.wantRetrain_retrainWantedAt (s : State) (n : Nat) (b : Bool) : (s.wantRetrain n b).retrainWantedAt n = b := Sparse.get_put_self _ _ _ _
theorem State.wantRetrain_retrainWantedAt_ne (s : State) (n : Nat) (b : Bool) {j : Nat} (h : j ≠ n) : (s.wantRetrain n b).retrainWantedAt j = s.retrainWantedAt j :=
  Sparse.get_put_ne _ _ _ h

@[simp] theorem State.setPort_pending (s : State) (n : Nat) (x : PortState) : (s.setPort n x).pending = s.pending := (rfl)
@[simp] theorem State.setPort_now (s : State) (n : Nat) (x : PortState) : (s.setPort n x).now = s.now := (rfl)
@[simp] theorem State.setPort_fresh (s : State) (n : Nat) (x : PortState) : (s.setPort n x).fresh = s.fresh := (rfl)
@[simp] theorem State.setPort_regs (s : State) (n : Nat) (x : PortState) : (s.setPort n x).regs = s.regs := (rfl)
@[simp] theorem State.setPort_readData (s : State) (n : Nat) (x : PortState) : (s.setPort n x).readData = s.readData := (rfl)
@[simp] theorem State.setPort_mem (s : State) (n : Nat) (x : PortState) : (s.setPort n x).mem = s.mem := (rfl)
@[simp] theorem State.setPort_poison (s : State) (n : Nat) (x : PortState) : (s.setPort n x).poison = s.poison := (rfl)
@[simp] theorem State.setPort_ctl (s : State) (n : Nat) (x : PortState) : (s.setPort n x).ctl = s.ctl := (rfl)
@[simp] theorem State.setPort_recorder (s : State) (n : Nat) (x : PortState) : (s.setPort n x).recorder = s.recorder := (rfl)
@[simp] theorem State.setPort_hp (s : State) (n : Nat) (x : PortState) : (s.setPort n x).hp = s.hp := (rfl)
@[simp] theorem State.setPort_fuses (s : State) (n : Nat) (x : PortState) : (s.setPort n x).fuses = s.fuses := (rfl)
@[simp] theorem State.setPort_boot (s : State) (n : Nat) (x : PortState) : (s.setPort n x).boot = s.boot := (rfl)
@[simp] theorem State.setPort_sec (s : State) (n : Nat) (x : PortState) : (s.setPort n x).sec = s.sec := (rfl)
@[simp] theorem State.setPort_strm (s : State) (n : Nat) (x : PortState) : (s.setPort n x).strm = s.strm := (rfl)
@[simp] theorem State.setPort_hsm (s : State) (n : Nat) (x : PortState) : (s.setPort n x).hsm = s.hsm := (rfl)
@[simp] theorem State.setPort_comp (s : State) (n : Nat) (x : PortState) : (s.setPort n x).comp = s.comp := (rfl)
@[simp] theorem State.setPort_health (s : State) (n : Nat) (x : PortState) : (s.setPort n x).health = s.health := (rfl)
@[simp] theorem State.setPort_red (s : State) (n : Nat) (x : PortState) : (s.setPort n x).red = s.red := (rfl)
@[simp] theorem State.setPort_snap (s : State) (n : Nat) (x : PortState) : (s.setPort n x).snap = s.snap := (rfl)
@[simp] theorem State.setPort_power (s : State) (n : Nat) (x : PortState) : (s.setPort n x).power = s.power := (rfl)
@[simp] theorem State.setPort_keep (s : State) (n : Nat) (x : PortState) : (s.setPort n x).keep = s.keep := (rfl)
@[simp] theorem State.setPort_pins (s : State) (n : Nat) (x : PortState) : (s.setPort n x).pins = s.pins := (rfl)
@[simp] theorem State.setPort_rd (s : State) (n : Nat) (x : PortState) (off : Nat) : (s.setPort n x).rd off = s.rd off := (rfl)
@[simp] theorem State.setPort_f (s : State) (n : Nat) (x : PortState) (fr : FieldRef) : (s.setPort n x).f fr = s.f fr := (rfl)
@[simp] theorem State.setPort_port (s : State) (n : Nat) (x : PortState) : (s.setPort n x).port n = x := Sparse.get_put_self _ _ _ _
theorem State.setPort_port_ne (s : State) (n : Nat) (x : PortState) {j : Nat} (h : j ≠ n) : (s.setPort n x).port j = s.port j :=
  Sparse.get_put_ne _ _ _ h

@[simp] theorem State.setGrp_pending (s : State) (g : Nat) (x : Option Group) : (s.setGrp g x).pending = s.pending := (rfl)
@[simp] theorem State.setGrp_now (s : State) (g : Nat) (x : Option Group) : (s.setGrp g x).now = s.now := (rfl)
@[simp] theorem State.setGrp_fresh (s : State) (g : Nat) (x : Option Group) : (s.setGrp g x).fresh = s.fresh := (rfl)
@[simp] theorem State.setGrp_regs (s : State) (g : Nat) (x : Option Group) : (s.setGrp g x).regs = s.regs := (rfl)
@[simp] theorem State.setGrp_readData (s : State) (g : Nat) (x : Option Group) : (s.setGrp g x).readData = s.readData := (rfl)
@[simp] theorem State.setGrp_mem (s : State) (g : Nat) (x : Option Group) : (s.setGrp g x).mem = s.mem := (rfl)
@[simp] theorem State.setGrp_poison (s : State) (g : Nat) (x : Option Group) : (s.setGrp g x).poison = s.poison := (rfl)
@[simp] theorem State.setGrp_ctl (s : State) (g : Nat) (x : Option Group) : (s.setGrp g x).ctl = s.ctl := (rfl)
@[simp] theorem State.setGrp_recorder (s : State) (g : Nat) (x : Option Group) : (s.setGrp g x).recorder = s.recorder := (rfl)
@[simp] theorem State.setGrp_hp (s : State) (g : Nat) (x : Option Group) : (s.setGrp g x).hp = s.hp := (rfl)
@[simp] theorem State.setGrp_fuses (s : State) (g : Nat) (x : Option Group) : (s.setGrp g x).fuses = s.fuses := (rfl)
@[simp] theorem State.setGrp_boot (s : State) (g : Nat) (x : Option Group) : (s.setGrp g x).boot = s.boot := (rfl)
@[simp] theorem State.setGrp_sec (s : State) (g : Nat) (x : Option Group) : (s.setGrp g x).sec = s.sec := (rfl)
@[simp] theorem State.setGrp_strm (s : State) (g : Nat) (x : Option Group) : (s.setGrp g x).strm = s.strm := (rfl)
@[simp] theorem State.setGrp_hsm (s : State) (g : Nat) (x : Option Group) : (s.setGrp g x).hsm = s.hsm := (rfl)
@[simp] theorem State.setGrp_comp (s : State) (g : Nat) (x : Option Group) : (s.setGrp g x).comp = s.comp := (rfl)
@[simp] theorem State.setGrp_health (s : State) (g : Nat) (x : Option Group) : (s.setGrp g x).health = s.health := (rfl)
@[simp] theorem State.setGrp_links (s : State) (g : Nat) (x : Option Group) : (s.setGrp g x).links = s.links := (rfl)
@[simp] theorem State.setGrp_snap (s : State) (g : Nat) (x : Option Group) : (s.setGrp g x).snap = s.snap := (rfl)
@[simp] theorem State.setGrp_power (s : State) (g : Nat) (x : Option Group) : (s.setGrp g x).power = s.power := (rfl)
@[simp] theorem State.setGrp_keep (s : State) (g : Nat) (x : Option Group) : (s.setGrp g x).keep = s.keep := (rfl)
@[simp] theorem State.setGrp_pins (s : State) (g : Nat) (x : Option Group) : (s.setGrp g x).pins = s.pins := (rfl)
@[simp] theorem State.setGrp_rd (s : State) (g : Nat) (x : Option Group) (off : Nat) : (s.setGrp g x).rd off = s.rd off := (rfl)
@[simp] theorem State.setGrp_f (s : State) (g : Nat) (x : Option Group) (fr : FieldRef) : (s.setGrp g x).f fr = s.f fr := (rfl)
@[simp] theorem State.setGrp_grp (s : State) (g : Nat) (x : Option Group) : (s.setGrp g x).grp g = x := Sparse.get_put_self _ _ _ _
theorem State.setGrp_grp_ne (s : State) (g : Nat) (x : Option Group) {j : Nat} (h : j ≠ g) : (s.setGrp g x).grp j = s.grp j :=
  Sparse.get_put_ne _ _ _ h

@[simp] theorem State.setBucket_pending (s : State) (g : Nat) (x : Option RingBucket) : (s.setBucket g x).pending = s.pending := (rfl)
@[simp] theorem State.setBucket_now (s : State) (g : Nat) (x : Option RingBucket) : (s.setBucket g x).now = s.now := (rfl)
@[simp] theorem State.setBucket_fresh (s : State) (g : Nat) (x : Option RingBucket) : (s.setBucket g x).fresh = s.fresh := (rfl)
@[simp] theorem State.setBucket_regs (s : State) (g : Nat) (x : Option RingBucket) : (s.setBucket g x).regs = s.regs := (rfl)
@[simp] theorem State.setBucket_readData (s : State) (g : Nat) (x : Option RingBucket) : (s.setBucket g x).readData = s.readData := (rfl)
@[simp] theorem State.setBucket_mem (s : State) (g : Nat) (x : Option RingBucket) : (s.setBucket g x).mem = s.mem := (rfl)
@[simp] theorem State.setBucket_poison (s : State) (g : Nat) (x : Option RingBucket) : (s.setBucket g x).poison = s.poison := (rfl)
@[simp] theorem State.setBucket_ctl (s : State) (g : Nat) (x : Option RingBucket) : (s.setBucket g x).ctl = s.ctl := (rfl)
@[simp] theorem State.setBucket_recorder (s : State) (g : Nat) (x : Option RingBucket) : (s.setBucket g x).recorder = s.recorder := (rfl)
@[simp] theorem State.setBucket_hp (s : State) (g : Nat) (x : Option RingBucket) : (s.setBucket g x).hp = s.hp := (rfl)
@[simp] theorem State.setBucket_fuses (s : State) (g : Nat) (x : Option RingBucket) : (s.setBucket g x).fuses = s.fuses := (rfl)
@[simp] theorem State.setBucket_boot (s : State) (g : Nat) (x : Option RingBucket) : (s.setBucket g x).boot = s.boot := (rfl)
@[simp] theorem State.setBucket_sec (s : State) (g : Nat) (x : Option RingBucket) : (s.setBucket g x).sec = s.sec := (rfl)
@[simp] theorem State.setBucket_strm (s : State) (g : Nat) (x : Option RingBucket) : (s.setBucket g x).strm = s.strm := (rfl)
@[simp] theorem State.setBucket_hsm (s : State) (g : Nat) (x : Option RingBucket) : (s.setBucket g x).hsm = s.hsm := (rfl)
@[simp] theorem State.setBucket_comp (s : State) (g : Nat) (x : Option RingBucket) : (s.setBucket g x).comp = s.comp := (rfl)
@[simp] theorem State.setBucket_health (s : State) (g : Nat) (x : Option RingBucket) : (s.setBucket g x).health = s.health := (rfl)
@[simp] theorem State.setBucket_links (s : State) (g : Nat) (x : Option RingBucket) : (s.setBucket g x).links = s.links := (rfl)
@[simp] theorem State.setBucket_snap (s : State) (g : Nat) (x : Option RingBucket) : (s.setBucket g x).snap = s.snap := (rfl)
@[simp] theorem State.setBucket_power (s : State) (g : Nat) (x : Option RingBucket) : (s.setBucket g x).power = s.power := (rfl)
@[simp] theorem State.setBucket_keep (s : State) (g : Nat) (x : Option RingBucket) : (s.setBucket g x).keep = s.keep := (rfl)
@[simp] theorem State.setBucket_pins (s : State) (g : Nat) (x : Option RingBucket) : (s.setBucket g x).pins = s.pins := (rfl)
@[simp] theorem State.setBucket_rd (s : State) (g : Nat) (x : Option RingBucket) (off : Nat) : (s.setBucket g x).rd off = s.rd off := (rfl)
@[simp] theorem State.setBucket_f (s : State) (g : Nat) (x : Option RingBucket) (fr : FieldRef) : (s.setBucket g x).f fr = s.f fr := (rfl)
@[simp] theorem State.setBucket_bucket (s : State) (g : Nat) (x : Option RingBucket) : (s.setBucket g x).bucket g = x := Sparse.get_put_self _ _ _ _
theorem State.setBucket_bucket_ne (s : State) (g : Nat) (x : Option RingBucket) {j : Nat} (h : j ≠ g) : (s.setBucket g x).bucket j = s.bucket j :=
  Sparse.get_put_ne _ _ _ h

@[simp] theorem State.setSnap_pending (s : State) (x : Snap) : (s.setSnap x).pending = s.pending := (rfl)
@[simp] theorem State.setSnap_now (s : State) (x : Snap) : (s.setSnap x).now = s.now := (rfl)
@[simp] theorem State.setSnap_fresh (s : State) (x : Snap) : (s.setSnap x).fresh = s.fresh := (rfl)
@[simp] theorem State.setSnap_regs (s : State) (x : Snap) : (s.setSnap x).regs = s.regs := (rfl)
@[simp] theorem State.setSnap_readData (s : State) (x : Snap) : (s.setSnap x).readData = s.readData := (rfl)
@[simp] theorem State.setSnap_mem (s : State) (x : Snap) : (s.setSnap x).mem = s.mem := (rfl)
@[simp] theorem State.setSnap_poison (s : State) (x : Snap) : (s.setSnap x).poison = s.poison := (rfl)
@[simp] theorem State.setSnap_ctl (s : State) (x : Snap) : (s.setSnap x).ctl = s.ctl := (rfl)
@[simp] theorem State.setSnap_recorder (s : State) (x : Snap) : (s.setSnap x).recorder = s.recorder := (rfl)
@[simp] theorem State.setSnap_hp (s : State) (x : Snap) : (s.setSnap x).hp = s.hp := (rfl)
@[simp] theorem State.setSnap_fuses (s : State) (x : Snap) : (s.setSnap x).fuses = s.fuses := (rfl)
@[simp] theorem State.setSnap_boot (s : State) (x : Snap) : (s.setSnap x).boot = s.boot := (rfl)
@[simp] theorem State.setSnap_sec (s : State) (x : Snap) : (s.setSnap x).sec = s.sec := (rfl)
@[simp] theorem State.setSnap_strm (s : State) (x : Snap) : (s.setSnap x).strm = s.strm := (rfl)
@[simp] theorem State.setSnap_hsm (s : State) (x : Snap) : (s.setSnap x).hsm = s.hsm := (rfl)
@[simp] theorem State.setSnap_comp (s : State) (x : Snap) : (s.setSnap x).comp = s.comp := (rfl)
@[simp] theorem State.setSnap_health (s : State) (x : Snap) : (s.setSnap x).health = s.health := (rfl)
@[simp] theorem State.setSnap_links (s : State) (x : Snap) : (s.setSnap x).links = s.links := (rfl)
@[simp] theorem State.setSnap_red (s : State) (x : Snap) : (s.setSnap x).red = s.red := (rfl)
@[simp] theorem State.setSnap_power (s : State) (x : Snap) : (s.setSnap x).power = s.power := (rfl)
@[simp] theorem State.setSnap_keep (s : State) (x : Snap) : (s.setSnap x).keep = s.keep := (rfl)
@[simp] theorem State.setSnap_pins (s : State) (x : Snap) : (s.setSnap x).pins = s.pins := (rfl)
@[simp] theorem State.setSnap_rd (s : State) (x : Snap) (off : Nat) : (s.setSnap x).rd off = s.rd off := (rfl)
@[simp] theorem State.setSnap_f (s : State) (x : Snap) (fr : FieldRef) : (s.setSnap x).f fr = s.f fr := (rfl)
@[simp] theorem State.setSnap_snap (s : State) (x : Snap) : (s.setSnap x).snap = x := (rfl)

@[simp] theorem State.setTwin_pending (s : State) (x : Twin) : (s.setTwin x).pending = s.pending := (rfl)
@[simp] theorem State.setTwin_now (s : State) (x : Twin) : (s.setTwin x).now = s.now := (rfl)
@[simp] theorem State.setTwin_fresh (s : State) (x : Twin) : (s.setTwin x).fresh = s.fresh := (rfl)
@[simp] theorem State.setTwin_regs (s : State) (x : Twin) : (s.setTwin x).regs = s.regs := (rfl)
@[simp] theorem State.setTwin_readData (s : State) (x : Twin) : (s.setTwin x).readData = s.readData := (rfl)
@[simp] theorem State.setTwin_mem (s : State) (x : Twin) : (s.setTwin x).mem = s.mem := (rfl)
@[simp] theorem State.setTwin_poison (s : State) (x : Twin) : (s.setTwin x).poison = s.poison := (rfl)
@[simp] theorem State.setTwin_ctl (s : State) (x : Twin) : (s.setTwin x).ctl = s.ctl := (rfl)
@[simp] theorem State.setTwin_recorder (s : State) (x : Twin) : (s.setTwin x).recorder = s.recorder := (rfl)
@[simp] theorem State.setTwin_hp (s : State) (x : Twin) : (s.setTwin x).hp = s.hp := (rfl)
@[simp] theorem State.setTwin_fuses (s : State) (x : Twin) : (s.setTwin x).fuses = s.fuses := (rfl)
@[simp] theorem State.setTwin_boot (s : State) (x : Twin) : (s.setTwin x).boot = s.boot := (rfl)
@[simp] theorem State.setTwin_sec (s : State) (x : Twin) : (s.setTwin x).sec = s.sec := (rfl)
@[simp] theorem State.setTwin_strm (s : State) (x : Twin) : (s.setTwin x).strm = s.strm := (rfl)
@[simp] theorem State.setTwin_hsm (s : State) (x : Twin) : (s.setTwin x).hsm = s.hsm := (rfl)
@[simp] theorem State.setTwin_comp (s : State) (x : Twin) : (s.setTwin x).comp = s.comp := (rfl)
@[simp] theorem State.setTwin_health (s : State) (x : Twin) : (s.setTwin x).health = s.health := (rfl)
@[simp] theorem State.setTwin_links (s : State) (x : Twin) : (s.setTwin x).links = s.links := (rfl)
@[simp] theorem State.setTwin_red (s : State) (x : Twin) : (s.setTwin x).red = s.red := (rfl)
@[simp] theorem State.setTwin_power (s : State) (x : Twin) : (s.setTwin x).power = s.power := (rfl)
@[simp] theorem State.setTwin_keep (s : State) (x : Twin) : (s.setTwin x).keep = s.keep := (rfl)
@[simp] theorem State.setTwin_pins (s : State) (x : Twin) : (s.setTwin x).pins = s.pins := (rfl)
@[simp] theorem State.setTwin_rd (s : State) (x : Twin) (off : Nat) : (s.setTwin x).rd off = s.rd off := (rfl)
@[simp] theorem State.setTwin_f (s : State) (x : Twin) (fr : FieldRef) : (s.setTwin x).f fr = s.f fr := (rfl)
@[simp] theorem State.setTwin_snap (s : State) (x : Twin) : (s.setTwin x).snap.twin = x := (rfl)

@[simp] theorem State.setBoot_pending (s : State) (b : Boot) : (s.setBoot b).pending = s.pending := (rfl)
@[simp] theorem State.setBoot_now (s : State) (b : Boot) : (s.setBoot b).now = s.now := (rfl)
@[simp] theorem State.setBoot_fresh (s : State) (b : Boot) : (s.setBoot b).fresh = s.fresh := (rfl)
@[simp] theorem State.setBoot_regs (s : State) (b : Boot) : (s.setBoot b).regs = s.regs := (rfl)
@[simp] theorem State.setBoot_readData (s : State) (b : Boot) : (s.setBoot b).readData = s.readData := (rfl)
@[simp] theorem State.setBoot_mem (s : State) (b : Boot) : (s.setBoot b).mem = s.mem := (rfl)
@[simp] theorem State.setBoot_poison (s : State) (b : Boot) : (s.setBoot b).poison = s.poison := (rfl)
@[simp] theorem State.setBoot_ctl (s : State) (b : Boot) : (s.setBoot b).ctl = s.ctl := (rfl)
@[simp] theorem State.setBoot_recorder (s : State) (b : Boot) : (s.setBoot b).recorder = s.recorder := (rfl)
@[simp] theorem State.setBoot_hp (s : State) (b : Boot) : (s.setBoot b).hp = s.hp := (rfl)
@[simp] theorem State.setBoot_fuses (s : State) (b : Boot) : (s.setBoot b).fuses = s.fuses := (rfl)
@[simp] theorem State.setBoot_sec (s : State) (b : Boot) : (s.setBoot b).sec = s.sec := (rfl)
@[simp] theorem State.setBoot_strm (s : State) (b : Boot) : (s.setBoot b).strm = s.strm := (rfl)
@[simp] theorem State.setBoot_hsm (s : State) (b : Boot) : (s.setBoot b).hsm = s.hsm := (rfl)
@[simp] theorem State.setBoot_comp (s : State) (b : Boot) : (s.setBoot b).comp = s.comp := (rfl)
@[simp] theorem State.setBoot_health (s : State) (b : Boot) : (s.setBoot b).health = s.health := (rfl)
@[simp] theorem State.setBoot_links (s : State) (b : Boot) : (s.setBoot b).links = s.links := (rfl)
@[simp] theorem State.setBoot_red (s : State) (b : Boot) : (s.setBoot b).red = s.red := (rfl)
@[simp] theorem State.setBoot_snap (s : State) (b : Boot) : (s.setBoot b).snap = s.snap := (rfl)
@[simp] theorem State.setBoot_power (s : State) (b : Boot) : (s.setBoot b).power = s.power := (rfl)
@[simp] theorem State.setBoot_keep (s : State) (b : Boot) : (s.setBoot b).keep = s.keep := (rfl)
@[simp] theorem State.setBoot_pins (s : State) (b : Boot) : (s.setBoot b).pins = s.pins := (rfl)
@[simp] theorem State.setBoot_rd (s : State) (b : Boot) (off : Nat) : (s.setBoot b).rd off = s.rd off := (rfl)
@[simp] theorem State.setBoot_f (s : State) (b : Boot) (fr : FieldRef) : (s.setBoot b).f fr = s.f fr := (rfl)
@[simp] theorem State.setBoot_boot (s : State) (b : Boot) : (s.setBoot b).boot = b := (rfl)

@[simp] theorem State.setPower_pending (s : State) (p : Power) : (s.setPower p).pending = s.pending := (rfl)
@[simp] theorem State.setPower_now (s : State) (p : Power) : (s.setPower p).now = s.now := (rfl)
@[simp] theorem State.setPower_fresh (s : State) (p : Power) : (s.setPower p).fresh = s.fresh := (rfl)
@[simp] theorem State.setPower_regs (s : State) (p : Power) : (s.setPower p).regs = s.regs := (rfl)
@[simp] theorem State.setPower_readData (s : State) (p : Power) : (s.setPower p).readData = s.readData := (rfl)
@[simp] theorem State.setPower_mem (s : State) (p : Power) : (s.setPower p).mem = s.mem := (rfl)
@[simp] theorem State.setPower_poison (s : State) (p : Power) : (s.setPower p).poison = s.poison := (rfl)
@[simp] theorem State.setPower_ctl (s : State) (p : Power) : (s.setPower p).ctl = s.ctl := (rfl)
@[simp] theorem State.setPower_recorder (s : State) (p : Power) : (s.setPower p).recorder = s.recorder := (rfl)
@[simp] theorem State.setPower_hp (s : State) (p : Power) : (s.setPower p).hp = s.hp := (rfl)
@[simp] theorem State.setPower_fuses (s : State) (p : Power) : (s.setPower p).fuses = s.fuses := (rfl)
@[simp] theorem State.setPower_boot (s : State) (p : Power) : (s.setPower p).boot = s.boot := (rfl)
@[simp] theorem State.setPower_sec (s : State) (p : Power) : (s.setPower p).sec = s.sec := (rfl)
@[simp] theorem State.setPower_strm (s : State) (p : Power) : (s.setPower p).strm = s.strm := (rfl)
@[simp] theorem State.setPower_hsm (s : State) (p : Power) : (s.setPower p).hsm = s.hsm := (rfl)
@[simp] theorem State.setPower_comp (s : State) (p : Power) : (s.setPower p).comp = s.comp := (rfl)
@[simp] theorem State.setPower_health (s : State) (p : Power) : (s.setPower p).health = s.health := (rfl)
@[simp] theorem State.setPower_links (s : State) (p : Power) : (s.setPower p).links = s.links := (rfl)
@[simp] theorem State.setPower_red (s : State) (p : Power) : (s.setPower p).red = s.red := (rfl)
@[simp] theorem State.setPower_snap (s : State) (p : Power) : (s.setPower p).snap = s.snap := (rfl)
@[simp] theorem State.setPower_keep (s : State) (p : Power) : (s.setPower p).keep = s.keep := (rfl)
@[simp] theorem State.setPower_pins (s : State) (p : Power) : (s.setPower p).pins = s.pins := (rfl)
@[simp] theorem State.setPower_rd (s : State) (p : Power) (off : Nat) : (s.setPower p).rd off = s.rd off := (rfl)
@[simp] theorem State.setPower_f (s : State) (p : Power) (fr : FieldRef) : (s.setPower p).f fr = s.f fr := (rfl)
@[simp] theorem State.setPower_power (s : State) (p : Power) : (s.setPower p).power = p := (rfl)

@[simp] theorem State.setKeep_pending (s : State) (k : Keep) : (s.setKeep k).pending = s.pending := (rfl)
@[simp] theorem State.setKeep_now (s : State) (k : Keep) : (s.setKeep k).now = s.now := (rfl)
@[simp] theorem State.setKeep_fresh (s : State) (k : Keep) : (s.setKeep k).fresh = s.fresh := (rfl)
@[simp] theorem State.setKeep_regs (s : State) (k : Keep) : (s.setKeep k).regs = s.regs := (rfl)
@[simp] theorem State.setKeep_readData (s : State) (k : Keep) : (s.setKeep k).readData = s.readData := (rfl)
@[simp] theorem State.setKeep_mem (s : State) (k : Keep) : (s.setKeep k).mem = s.mem := (rfl)
@[simp] theorem State.setKeep_poison (s : State) (k : Keep) : (s.setKeep k).poison = s.poison := (rfl)
@[simp] theorem State.setKeep_ctl (s : State) (k : Keep) : (s.setKeep k).ctl = s.ctl := (rfl)
@[simp] theorem State.setKeep_recorder (s : State) (k : Keep) : (s.setKeep k).recorder = s.recorder := (rfl)
@[simp] theorem State.setKeep_hp (s : State) (k : Keep) : (s.setKeep k).hp = s.hp := (rfl)
@[simp] theorem State.setKeep_fuses (s : State) (k : Keep) : (s.setKeep k).fuses = s.fuses := (rfl)
@[simp] theorem State.setKeep_boot (s : State) (k : Keep) : (s.setKeep k).boot = s.boot := (rfl)
@[simp] theorem State.setKeep_sec (s : State) (k : Keep) : (s.setKeep k).sec = s.sec := (rfl)
@[simp] theorem State.setKeep_strm (s : State) (k : Keep) : (s.setKeep k).strm = s.strm := (rfl)
@[simp] theorem State.setKeep_hsm (s : State) (k : Keep) : (s.setKeep k).hsm = s.hsm := (rfl)
@[simp] theorem State.setKeep_comp (s : State) (k : Keep) : (s.setKeep k).comp = s.comp := (rfl)
@[simp] theorem State.setKeep_health (s : State) (k : Keep) : (s.setKeep k).health = s.health := (rfl)
@[simp] theorem State.setKeep_links (s : State) (k : Keep) : (s.setKeep k).links = s.links := (rfl)
@[simp] theorem State.setKeep_red (s : State) (k : Keep) : (s.setKeep k).red = s.red := (rfl)
@[simp] theorem State.setKeep_snap (s : State) (k : Keep) : (s.setKeep k).snap = s.snap := (rfl)
@[simp] theorem State.setKeep_power (s : State) (k : Keep) : (s.setKeep k).power = s.power := (rfl)
@[simp] theorem State.setKeep_pins (s : State) (k : Keep) : (s.setKeep k).pins = s.pins := (rfl)
@[simp] theorem State.setKeep_rd (s : State) (k : Keep) (off : Nat) : (s.setKeep k).rd off = s.rd off := (rfl)
@[simp] theorem State.setKeep_f (s : State) (k : Keep) (fr : FieldRef) : (s.setKeep k).f fr = s.f fr := (rfl)
@[simp] theorem State.setKeep_keep (s : State) (k : Keep) : (s.setKeep k).keep = k := (rfl)

@[simp] theorem State.setFuses_pending (s : State) (f : Fuses) : (s.setFuses f).pending = s.pending := (rfl)
@[simp] theorem State.setFuses_now (s : State) (f : Fuses) : (s.setFuses f).now = s.now := (rfl)
@[simp] theorem State.setFuses_fresh (s : State) (f : Fuses) : (s.setFuses f).fresh = s.fresh := (rfl)
@[simp] theorem State.setFuses_regs (s : State) (f : Fuses) : (s.setFuses f).regs = s.regs := (rfl)
@[simp] theorem State.setFuses_readData (s : State) (f : Fuses) : (s.setFuses f).readData = s.readData := (rfl)
@[simp] theorem State.setFuses_mem (s : State) (f : Fuses) : (s.setFuses f).mem = s.mem := (rfl)
@[simp] theorem State.setFuses_poison (s : State) (f : Fuses) : (s.setFuses f).poison = s.poison := (rfl)
@[simp] theorem State.setFuses_ctl (s : State) (f : Fuses) : (s.setFuses f).ctl = s.ctl := (rfl)
@[simp] theorem State.setFuses_recorder (s : State) (f : Fuses) : (s.setFuses f).recorder = s.recorder := (rfl)
@[simp] theorem State.setFuses_hp (s : State) (f : Fuses) : (s.setFuses f).hp = s.hp := (rfl)
@[simp] theorem State.setFuses_boot (s : State) (f : Fuses) : (s.setFuses f).boot = s.boot := (rfl)
@[simp] theorem State.setFuses_sec (s : State) (f : Fuses) : (s.setFuses f).sec = s.sec := (rfl)
@[simp] theorem State.setFuses_strm (s : State) (f : Fuses) : (s.setFuses f).strm = s.strm := (rfl)
@[simp] theorem State.setFuses_hsm (s : State) (f : Fuses) : (s.setFuses f).hsm = s.hsm := (rfl)
@[simp] theorem State.setFuses_comp (s : State) (f : Fuses) : (s.setFuses f).comp = s.comp := (rfl)
@[simp] theorem State.setFuses_health (s : State) (f : Fuses) : (s.setFuses f).health = s.health := (rfl)
@[simp] theorem State.setFuses_links (s : State) (f : Fuses) : (s.setFuses f).links = s.links := (rfl)
@[simp] theorem State.setFuses_red (s : State) (f : Fuses) : (s.setFuses f).red = s.red := (rfl)
@[simp] theorem State.setFuses_snap (s : State) (f : Fuses) : (s.setFuses f).snap = s.snap := (rfl)
@[simp] theorem State.setFuses_power (s : State) (f : Fuses) : (s.setFuses f).power = s.power := (rfl)
@[simp] theorem State.setFuses_keep (s : State) (f : Fuses) : (s.setFuses f).keep = s.keep := (rfl)
@[simp] theorem State.setFuses_pins (s : State) (f : Fuses) : (s.setFuses f).pins = s.pins := (rfl)
@[simp] theorem State.setFuses_rd (s : State) (f : Fuses) (off : Nat) : (s.setFuses f).rd off = s.rd off := (rfl)
@[simp] theorem State.setFuses_f (s : State) (f : Fuses) (fr : FieldRef) : (s.setFuses f).f fr = s.f fr := (rfl)
@[simp] theorem State.setFuses_fuses (s : State) (f : Fuses) : (s.setFuses f).fuses = f := (rfl)

@[simp] theorem State.put_pending (s : State) (r : FieldRef) (v : Nat) : (s.put r v).pending = s.pending := (rfl)
@[simp] theorem State.put_now (s : State) (r : FieldRef) (v : Nat) : (s.put r v).now = s.now := (rfl)
@[simp] theorem State.put_fresh (s : State) (r : FieldRef) (v : Nat) : (s.put r v).fresh = s.fresh := (rfl)
@[simp] theorem State.put_readData (s : State) (r : FieldRef) (v : Nat) : (s.put r v).readData = s.readData := (rfl)
@[simp] theorem State.put_mem (s : State) (r : FieldRef) (v : Nat) : (s.put r v).mem = s.mem := (rfl)
@[simp] theorem State.put_poison (s : State) (r : FieldRef) (v : Nat) : (s.put r v).poison = s.poison := (rfl)
@[simp] theorem State.put_ctl (s : State) (r : FieldRef) (v : Nat) : (s.put r v).ctl = s.ctl := (rfl)
@[simp] theorem State.put_recorder (s : State) (r : FieldRef) (v : Nat) : (s.put r v).recorder = s.recorder := (rfl)
@[simp] theorem State.put_hp (s : State) (r : FieldRef) (v : Nat) : (s.put r v).hp = s.hp := (rfl)
@[simp] theorem State.put_fuses (s : State) (r : FieldRef) (v : Nat) : (s.put r v).fuses = s.fuses := (rfl)
@[simp] theorem State.put_boot (s : State) (r : FieldRef) (v : Nat) : (s.put r v).boot = s.boot := (rfl)
@[simp] theorem State.put_sec (s : State) (r : FieldRef) (v : Nat) : (s.put r v).sec = s.sec := (rfl)
@[simp] theorem State.put_strm (s : State) (r : FieldRef) (v : Nat) : (s.put r v).strm = s.strm := (rfl)
@[simp] theorem State.put_hsm (s : State) (r : FieldRef) (v : Nat) : (s.put r v).hsm = s.hsm := (rfl)
@[simp] theorem State.put_comp (s : State) (r : FieldRef) (v : Nat) : (s.put r v).comp = s.comp := (rfl)
@[simp] theorem State.put_health (s : State) (r : FieldRef) (v : Nat) : (s.put r v).health = s.health := (rfl)
@[simp] theorem State.put_links (s : State) (r : FieldRef) (v : Nat) : (s.put r v).links = s.links := (rfl)
@[simp] theorem State.put_red (s : State) (r : FieldRef) (v : Nat) : (s.put r v).red = s.red := (rfl)
@[simp] theorem State.put_snap (s : State) (r : FieldRef) (v : Nat) : (s.put r v).snap = s.snap := (rfl)
@[simp] theorem State.put_power (s : State) (r : FieldRef) (v : Nat) : (s.put r v).power = s.power := (rfl)
@[simp] theorem State.put_keep (s : State) (r : FieldRef) (v : Nat) : (s.put r v).keep = s.keep := (rfl)
@[simp] theorem State.put_pins (s : State) (r : FieldRef) (v : Nat) : (s.put r v).pins = s.pins := (rfl)

@[simp] theorem State.putB_pending (s : State) (r : FieldRef) (b : Bool) : (s.putB r b).pending = s.pending := (rfl)
@[simp] theorem State.putB_now (s : State) (r : FieldRef) (b : Bool) : (s.putB r b).now = s.now := (rfl)
@[simp] theorem State.putB_fresh (s : State) (r : FieldRef) (b : Bool) : (s.putB r b).fresh = s.fresh := (rfl)
@[simp] theorem State.putB_readData (s : State) (r : FieldRef) (b : Bool) : (s.putB r b).readData = s.readData := (rfl)
@[simp] theorem State.putB_mem (s : State) (r : FieldRef) (b : Bool) : (s.putB r b).mem = s.mem := (rfl)
@[simp] theorem State.putB_poison (s : State) (r : FieldRef) (b : Bool) : (s.putB r b).poison = s.poison := (rfl)
@[simp] theorem State.putB_ctl (s : State) (r : FieldRef) (b : Bool) : (s.putB r b).ctl = s.ctl := (rfl)
@[simp] theorem State.putB_recorder (s : State) (r : FieldRef) (b : Bool) : (s.putB r b).recorder = s.recorder := (rfl)
@[simp] theorem State.putB_hp (s : State) (r : FieldRef) (b : Bool) : (s.putB r b).hp = s.hp := (rfl)
@[simp] theorem State.putB_fuses (s : State) (r : FieldRef) (b : Bool) : (s.putB r b).fuses = s.fuses := (rfl)
@[simp] theorem State.putB_boot (s : State) (r : FieldRef) (b : Bool) : (s.putB r b).boot = s.boot := (rfl)
@[simp] theorem State.putB_sec (s : State) (r : FieldRef) (b : Bool) : (s.putB r b).sec = s.sec := (rfl)
@[simp] theorem State.putB_strm (s : State) (r : FieldRef) (b : Bool) : (s.putB r b).strm = s.strm := (rfl)
@[simp] theorem State.putB_hsm (s : State) (r : FieldRef) (b : Bool) : (s.putB r b).hsm = s.hsm := (rfl)
@[simp] theorem State.putB_comp (s : State) (r : FieldRef) (b : Bool) : (s.putB r b).comp = s.comp := (rfl)
@[simp] theorem State.putB_health (s : State) (r : FieldRef) (b : Bool) : (s.putB r b).health = s.health := (rfl)
@[simp] theorem State.putB_links (s : State) (r : FieldRef) (b : Bool) : (s.putB r b).links = s.links := (rfl)
@[simp] theorem State.putB_red (s : State) (r : FieldRef) (b : Bool) : (s.putB r b).red = s.red := (rfl)
@[simp] theorem State.putB_snap (s : State) (r : FieldRef) (b : Bool) : (s.putB r b).snap = s.snap := (rfl)
@[simp] theorem State.putB_power (s : State) (r : FieldRef) (b : Bool) : (s.putB r b).power = s.power := (rfl)
@[simp] theorem State.putB_keep (s : State) (r : FieldRef) (b : Bool) : (s.putB r b).keep = s.keep := (rfl)
@[simp] theorem State.putB_pins (s : State) (r : FieldRef) (b : Bool) : (s.putB r b).pins = s.pins := (rfl)

@[simp] theorem State.bumpSat_pending (s : State) (r : FieldRef) (k : Nat) : (s.bumpSat r k).pending = s.pending := (rfl)
@[simp] theorem State.bumpSat_now (s : State) (r : FieldRef) (k : Nat) : (s.bumpSat r k).now = s.now := (rfl)
@[simp] theorem State.bumpSat_fresh (s : State) (r : FieldRef) (k : Nat) : (s.bumpSat r k).fresh = s.fresh := (rfl)
@[simp] theorem State.bumpSat_readData (s : State) (r : FieldRef) (k : Nat) : (s.bumpSat r k).readData = s.readData := (rfl)
@[simp] theorem State.bumpSat_mem (s : State) (r : FieldRef) (k : Nat) : (s.bumpSat r k).mem = s.mem := (rfl)
@[simp] theorem State.bumpSat_poison (s : State) (r : FieldRef) (k : Nat) : (s.bumpSat r k).poison = s.poison := (rfl)
@[simp] theorem State.bumpSat_ctl (s : State) (r : FieldRef) (k : Nat) : (s.bumpSat r k).ctl = s.ctl := (rfl)
@[simp] theorem State.bumpSat_recorder (s : State) (r : FieldRef) (k : Nat) : (s.bumpSat r k).recorder = s.recorder := (rfl)
@[simp] theorem State.bumpSat_hp (s : State) (r : FieldRef) (k : Nat) : (s.bumpSat r k).hp = s.hp := (rfl)
@[simp] theorem State.bumpSat_fuses (s : State) (r : FieldRef) (k : Nat) : (s.bumpSat r k).fuses = s.fuses := (rfl)
@[simp] theorem State.bumpSat_boot (s : State) (r : FieldRef) (k : Nat) : (s.bumpSat r k).boot = s.boot := (rfl)
@[simp] theorem State.bumpSat_sec (s : State) (r : FieldRef) (k : Nat) : (s.bumpSat r k).sec = s.sec := (rfl)
@[simp] theorem State.bumpSat_strm (s : State) (r : FieldRef) (k : Nat) : (s.bumpSat r k).strm = s.strm := (rfl)
@[simp] theorem State.bumpSat_hsm (s : State) (r : FieldRef) (k : Nat) : (s.bumpSat r k).hsm = s.hsm := (rfl)
@[simp] theorem State.bumpSat_comp (s : State) (r : FieldRef) (k : Nat) : (s.bumpSat r k).comp = s.comp := (rfl)
@[simp] theorem State.bumpSat_health (s : State) (r : FieldRef) (k : Nat) : (s.bumpSat r k).health = s.health := (rfl)
@[simp] theorem State.bumpSat_links (s : State) (r : FieldRef) (k : Nat) : (s.bumpSat r k).links = s.links := (rfl)
@[simp] theorem State.bumpSat_red (s : State) (r : FieldRef) (k : Nat) : (s.bumpSat r k).red = s.red := (rfl)
@[simp] theorem State.bumpSat_snap (s : State) (r : FieldRef) (k : Nat) : (s.bumpSat r k).snap = s.snap := (rfl)
@[simp] theorem State.bumpSat_power (s : State) (r : FieldRef) (k : Nat) : (s.bumpSat r k).power = s.power := (rfl)
@[simp] theorem State.bumpSat_keep (s : State) (r : FieldRef) (k : Nat) : (s.bumpSat r k).keep = s.keep := (rfl)
@[simp] theorem State.bumpSat_pins (s : State) (r : FieldRef) (k : Nat) : (s.bumpSat r k).pins = s.pins := (rfl)

@[simp] theorem State.bump_pending (s : State) (r : FieldRef) (k : Nat) : (s.bump r k).pending = s.pending := (rfl)
@[simp] theorem State.bump_now (s : State) (r : FieldRef) (k : Nat) : (s.bump r k).now = s.now := (rfl)
@[simp] theorem State.bump_fresh (s : State) (r : FieldRef) (k : Nat) : (s.bump r k).fresh = s.fresh := (rfl)
@[simp] theorem State.bump_readData (s : State) (r : FieldRef) (k : Nat) : (s.bump r k).readData = s.readData := (rfl)
@[simp] theorem State.bump_mem (s : State) (r : FieldRef) (k : Nat) : (s.bump r k).mem = s.mem := (rfl)
@[simp] theorem State.bump_poison (s : State) (r : FieldRef) (k : Nat) : (s.bump r k).poison = s.poison := (rfl)
@[simp] theorem State.bump_ctl (s : State) (r : FieldRef) (k : Nat) : (s.bump r k).ctl = s.ctl := (rfl)
@[simp] theorem State.bump_recorder (s : State) (r : FieldRef) (k : Nat) : (s.bump r k).recorder = s.recorder := (rfl)
@[simp] theorem State.bump_hp (s : State) (r : FieldRef) (k : Nat) : (s.bump r k).hp = s.hp := (rfl)
@[simp] theorem State.bump_fuses (s : State) (r : FieldRef) (k : Nat) : (s.bump r k).fuses = s.fuses := (rfl)
@[simp] theorem State.bump_boot (s : State) (r : FieldRef) (k : Nat) : (s.bump r k).boot = s.boot := (rfl)
@[simp] theorem State.bump_sec (s : State) (r : FieldRef) (k : Nat) : (s.bump r k).sec = s.sec := (rfl)
@[simp] theorem State.bump_strm (s : State) (r : FieldRef) (k : Nat) : (s.bump r k).strm = s.strm := (rfl)
@[simp] theorem State.bump_hsm (s : State) (r : FieldRef) (k : Nat) : (s.bump r k).hsm = s.hsm := (rfl)
@[simp] theorem State.bump_comp (s : State) (r : FieldRef) (k : Nat) : (s.bump r k).comp = s.comp := (rfl)
@[simp] theorem State.bump_health (s : State) (r : FieldRef) (k : Nat) : (s.bump r k).health = s.health := (rfl)
@[simp] theorem State.bump_links (s : State) (r : FieldRef) (k : Nat) : (s.bump r k).links = s.links := (rfl)
@[simp] theorem State.bump_red (s : State) (r : FieldRef) (k : Nat) : (s.bump r k).red = s.red := (rfl)
@[simp] theorem State.bump_snap (s : State) (r : FieldRef) (k : Nat) : (s.bump r k).snap = s.snap := (rfl)
@[simp] theorem State.bump_power (s : State) (r : FieldRef) (k : Nat) : (s.bump r k).power = s.power := (rfl)
@[simp] theorem State.bump_keep (s : State) (r : FieldRef) (k : Nat) : (s.bump r k).keep = s.keep := (rfl)
@[simp] theorem State.bump_pins (s : State) (r : FieldRef) (k : Nat) : (s.bump r k).pins = s.pins := (rfl)

@[simp] theorem State.markSector_poison (s : State) (k : Nat) : (s.markSector k).poison = Sparse.put poisonD s.poison k true := (rfl)
@[simp] theorem State.owe_keep (s : State) (e : LedgerEntry) : (s.owe e).keep = { s.keep with owed := s.keep.owed ++ [e] } := (rfl)

end Sys2Proof.Machine
end

