-- ==== Sys2Proof/Laws/Regs.lean ====
section
/-!
SUPPORT. Laws of the register file: what a field reads after a field is written.
-/
namespace Sys2Proof.Machine

@[simp] theorem State.rd_wr_self (s : State) (off v : Nat) : (s.wr off v).rd off = v % 2 ^ 64 := by
  unfold State.rd State.wr
  rw [Sparse.get_put_self]
  exact BitVec.toNat_ofNat v 64

theorem State.rd_wr_ne (s : State) {off off' : Nat} (v : Nat) (h : off' ≠ off) : (s.wr off v).rd off' = s.rd off' := by
  unfold State.rd State.wr
  rw [Sparse.get_put_ne _ _ _ h]

theorem State.rd_lt (s : State) (off : Nat) : s.rd off < 2 ^ 64 := (Sparse.get regD s.regs off).isLt

/-- A register other than the one written reads as before. -/
theorem State.rd_put_ne (s : State) {r : FieldRef} {off : Nat} (v : Nat) (h : off ≠ r.off) : (s.put r v).rd off = s.rd off :=
  State.rd_wr_ne s _ h

theorem State.f_put_ne (s : State) {r q : FieldRef} (v : Nat) (h : q.off ≠ r.off) : (s.put r v).f q = s.f q := by
  unfold State.f
  rw [State.rd_put_ne s v h]

theorem State.f_wr_ne (s : State) {off : Nat} {q : FieldRef} (v : Nat) (h : q.off ≠ off) : (s.wr off v).f q = s.f q := by
  unfold State.f
  rw [State.rd_wr_ne s v h]

theorem setBits_lt {w lo width : Nat} (v : Nat) (hw : w < 2 ^ 64) (h : lo + width ≤ 64) : setBits w lo width v < 2 ^ 64 := by
  unfold setBits
  obtain ⟨k, hk⟩ := Nat.exists_eq_add_of_le h
  have h1 : w / 2 ^ (lo + width) < 2 ^ k := Nat.div_lt_of_lt_mul (by rw [← Nat.pow_add, ← hk]; exact hw)
  have h2 : v % 2 ^ width < 2 ^ width := Nat.mod_lt _ (Nat.two_pow_pos _)
  have h3 : w % 2 ^ lo < 2 ^ lo := Nat.mod_lt _ (Nat.two_pow_pos _)
  have h4 : (v % 2 ^ width) * 2 ^ lo + w % 2 ^ lo < 2 ^ (lo + width) := by
    rw [Nat.pow_add, Nat.mul_comm (2 ^ lo)]
    calc (v % 2 ^ width) * 2 ^ lo + w % 2 ^ lo < (v % 2 ^ width) * 2 ^ lo + 2 ^ lo := Nat.add_lt_add_left h3 _
      _ = (v % 2 ^ width + 1) * 2 ^ lo := by ring
      _ ≤ 2 ^ width * 2 ^ lo := Nat.mul_le_mul_right _ h2
  calc _ = w / 2 ^ (lo + width) * 2 ^ (lo + width) + ((v % 2 ^ width) * 2 ^ lo + w % 2 ^ lo) := by ring
    _ < w / 2 ^ (lo + width) * 2 ^ (lo + width) + 2 ^ (lo + width) := Nat.add_lt_add_left h4 _
    _ = (w / 2 ^ (lo + width) + 1) * 2 ^ (lo + width) := by ring
    _ ≤ 2 ^ k * 2 ^ (lo + width) := Nat.mul_le_mul_right _ h1
    _ = 2 ^ 64 := by rw [← Nat.pow_add, Nat.add_comm, ← hk]

theorem bits_setBits_self (w lo width v : Nat) : bits (setBits w lo width v) lo width = v % 2 ^ width := by
  unfold bits setBits
  have h3 : w % 2 ^ lo < 2 ^ lo := Nat.mod_lt _ (Nat.two_pow_pos _)
  have e : w / 2 ^ (lo + width) * 2 ^ (lo + width) + (v % 2 ^ width) * 2 ^ lo + w % 2 ^ lo =
      w % 2 ^ lo + 2 ^ lo * (w / 2 ^ (lo + width) * 2 ^ width + v % 2 ^ width) := by
    rw [Nat.pow_add]; ring
  rw [e, Nat.add_mul_div_left _ _ (Nat.two_pow_pos _), Nat.div_eq_of_lt h3, Nat.zero_add, Nat.mul_comm, Nat.mul_add_mod, Nat.mod_mod]

/-- A field below or above the one written keeps its bits. -/
theorem bits_setBits_sep (w lo width v : Nat) {lo' width' : Nat} (h : lo' + width' ≤ lo ∨ lo + width ≤ lo') :
    bits (setBits w lo width v) lo' width' = bits w lo' width' := by
  unfold bits setBits
  have h3 : w % 2 ^ lo < 2 ^ lo := Nat.mod_lt _ (Nat.two_pow_pos _)
  have h2 : v % 2 ^ width < 2 ^ width := Nat.mod_lt _ (Nat.two_pow_pos _)
  rcases h with h | h
  · obtain ⟨k, hk⟩ := Nat.exists_eq_add_of_le h
    have e : w / 2 ^ (lo + width) * 2 ^ (lo + width) + (v % 2 ^ width) * 2 ^ lo + w % 2 ^ lo =
        w % 2 ^ lo + 2 ^ lo * (w / 2 ^ (lo + width) * 2 ^ width + v % 2 ^ width) := by rw [Nat.pow_add]; ring
    have e2 : 2 ^ lo = 2 ^ lo' * (2 ^ width' * 2 ^ k) := by rw [hk, Nat.pow_add, Nat.pow_add]; ring
    have e3 : ∀ x, (w % 2 ^ lo + 2 ^ lo * x) / 2 ^ lo' % 2 ^ width' = w / 2 ^ lo' % 2 ^ width' := by
      intro x
      rw [e2, Nat.mul_assoc, Nat.add_mul_div_left _ _ (Nat.two_pow_pos _), Nat.mul_assoc, Nat.add_mul_mod_self_left,
        ← Nat.mod_mul_right_div_self, Nat.mod_mod_of_dvd _ (Dvd.intro (2 ^ k) (by ring)), Nat.mod_mul_right_div_self]
    rw [e, e3]
  · obtain ⟨k, hk⟩ := Nat.exists_eq_add_of_le h
    have h4 : (v % 2 ^ width) * 2 ^ lo + w % 2 ^ lo < 2 ^ (lo + width) := by
      rw [Nat.pow_add, Nat.mul_comm (2 ^ lo)]
      calc (v % 2 ^ width) * 2 ^ lo + w % 2 ^ lo < (v % 2 ^ width) * 2 ^ lo + 2 ^ lo := Nat.add_lt_add_left h3 _
        _ = (v % 2 ^ width + 1) * 2 ^ lo := by ring
        _ ≤ 2 ^ width * 2 ^ lo := Nat.mul_le_mul_right _ h2
    have e : w / 2 ^ (lo + width) * 2 ^ (lo + width) + (v % 2 ^ width) * 2 ^ lo + w % 2 ^ lo =
        ((v % 2 ^ width) * 2 ^ lo + w % 2 ^ lo) + 2 ^ (lo + width) * (w / 2 ^ (lo + width)) := by ring
    have d : ∀ x, x / 2 ^ lo' = x / 2 ^ (lo + width) / 2 ^ k := by
      intro x; rw [Nat.div_div_eq_div_mul, ← Nat.pow_add, ← hk]
    rw [d, e, Nat.add_mul_div_left _ _ (Nat.two_pow_pos _), Nat.div_eq_of_lt h4, Nat.zero_add, ← d]

theorem State.rd_put_self (s : State) {r : FieldRef} (v : Nat) (h : r.lo + r.width ≤ 64) :
    (s.put r v).rd r.off = setBits (s.rd r.off) r.lo r.width v := by
  unfold State.put
  rw [State.rd_wr_self, Nat.mod_eq_of_lt (setBits_lt v (State.rd_lt _ _) h)]

/-- The field written. -/
theorem State.f_put_self (s : State) {r : FieldRef} (v : Nat) (h : r.lo + r.width ≤ 64) : (s.put r v).f r = v % 2 ^ r.width := by
  unfold State.f
  rw [State.rd_put_self s v h, bits_setBits_self]

/-- Another field of the register written. -/
theorem State.f_put_sep (s : State) {r q : FieldRef} (v : Nat) (h : r.lo + r.width ≤ 64)
    (hs : q.lo + q.width ≤ r.lo ∨ r.lo + r.width ≤ q.lo) : (s.put r v).f q = s.f q := by
  by_cases ho : q.off = r.off
  · unfold State.f
    rw [ho, State.rd_put_self s v h, bits_setBits_sep _ _ _ _ hs]
  · exact State.f_put_ne s v ho

theorem State.f_lt (s : State) (r : FieldRef) : s.f r < 2 ^ r.width := Nat.mod_lt _ (Nat.two_pow_pos _)

theorem State.flag_put_self (s : State) {r : FieldRef} (v : Nat) (h : r.lo + r.width ≤ 64) :
    (s.put r v).flag r = (v % 2 ^ r.width != 0) := by
  unfold State.flag
  rw [State.f_put_self s v h]

/-- A saturating counter after an addition. -/
theorem State.f_bumpSat_self (s : State) {r : FieldRef} (k : Nat) (h : r.lo + r.width ≤ 64) :
    (s.bumpSat r k).f r = min (s.f r + k) (2 ^ r.width - 1) := by
  unfold State.bumpSat satAdd
  rw [State.f_put_self _ _ h]
  refine Nat.mod_eq_of_lt ?_
  have := Nat.two_pow_pos r.width
  omega

/-- A wrapping counter after an addition. -/
theorem State.f_bump_self (s : State) {r : FieldRef} (k : Nat) (h : r.lo + r.width ≤ 64) :
    (s.bump r k).f r = (s.f r + k) % 2 ^ r.width := State.f_put_self _ _ h

theorem State.flag_iff (s : State) (r : FieldRef) : s.flag r = true ↔ s.f r ≠ 0 := by
  unfold State.flag
  simp

theorem State.rd_bumpSat_ne (s : State) {r : FieldRef} {off : Nat} (k : Nat) (h : off ≠ r.off) : (s.bumpSat r k).rd off = s.rd off :=
  State.rd_put_ne _ _ h
theorem State.f_bumpSat_ne (s : State) {r q : FieldRef} (k : Nat) (h : q.off ≠ r.off) : (s.bumpSat r k).f q = s.f q := State.f_put_ne _ _ h
theorem State.f_bumpSat_sep (s : State) {r q : FieldRef} (k : Nat) (h : r.lo + r.width ≤ 64)
    (hs : q.lo + q.width ≤ r.lo ∨ r.lo + r.width ≤ q.lo) : (s.bumpSat r k).f q = s.f q := State.f_put_sep _ _ h hs
theorem State.rd_bump_ne (s : State) {r : FieldRef} {off : Nat} (k : Nat) (h : off ≠ r.off) : (s.bump r k).rd off = s.rd off :=
  State.rd_put_ne _ _ h
theorem State.f_bump_ne (s : State) {r q : FieldRef} (k : Nat) (h : q.off ≠ r.off) : (s.bump r k).f q = s.f q := State.f_put_ne _ _ h
theorem State.f_bump_sep (s : State) {r q : FieldRef} (k : Nat) (h : r.lo + r.width ≤ 64)
    (hs : q.lo + q.width ≤ r.lo ∨ r.lo + r.width ≤ q.lo) : (s.bump r k).f q = s.f q := State.f_put_sep _ _ h hs
theorem State.rd_putB_ne (s : State) {r : FieldRef} {off : Nat} (k : Bool) (h : off ≠ r.off) : (s.putB r k).rd off = s.rd off :=
  State.rd_put_ne _ _ h
theorem State.f_putB_ne (s : State) {r q : FieldRef} (k : Bool) (h : q.off ≠ r.off) : (s.putB r k).f q = s.f q := State.f_put_ne _ _ h
theorem State.f_putB_sep (s : State) {r q : FieldRef} (k : Bool) (h : r.lo + r.width ≤ 64)
    (hs : q.lo + q.width ≤ r.lo ∨ r.lo + r.width ≤ q.lo) : (s.putB r k).f q = s.f q := State.f_put_sep _ _ h hs

theorem bits_lt (w lo width : Nat) : bits w lo width < 2 ^ width := Nat.mod_lt _ (Nat.two_pow_pos _)

end Sys2Proof.Machine
end

