-- ==== Sys2Proof/Laws/Frames.lean ====
section
/-!
SUPPORT. What recording an event leaves alone, and the laws of the frames statements use.
-/
namespace Sys2Proof.Machine

@[simp] theorem State.raise_pending (s : State) (e : Ev) : (s.raise e).pending = s.pending :=
  (State.raise_ext (M₀ := 132) (by decide) (Ext.refl _ s)).pending
@[simp] theorem State.raise_now (s : State) (e : Ev) : (s.raise e).now = s.now :=
  (State.raise_ext (M₀ := 132) (by decide) (Ext.refl _ s)).now rfl
@[simp] theorem State.raise_fresh (s : State) (e : Ev) : (s.raise e).fresh = s.fresh :=
  (State.raise_ext (M₀ := 132) (by decide) (Ext.refl _ s)).fresh rfl
@[simp] theorem State.raise_readData (s : State) (e : Ev) : (s.raise e).readData = s.readData :=
  (State.raise_ext (M₀ := 132) (by decide) (Ext.refl _ s)).readData rfl
@[simp] theorem State.raise_mem (s : State) (e : Ev) : (s.raise e).mem = s.mem :=
  (State.raise_ext (M₀ := 132) (by decide) (Ext.refl _ s)).mem rfl
@[simp] theorem State.raise_poison (s : State) (e : Ev) : (s.raise e).poison = s.poison :=
  (State.raise_ext (M₀ := 132) (by decide) (Ext.refl _ s)).poison rfl
@[simp] theorem State.raise_ctl (s : State) (e : Ev) : (s.raise e).ctl = s.ctl :=
  (State.raise_ext (M₀ := 132) (by decide) (Ext.refl _ s)).ctl rfl
@[simp] theorem State.raise_hp (s : State) (e : Ev) : (s.raise e).hp = s.hp :=
  (State.raise_ext (M₀ := 132) (by decide) (Ext.refl _ s)).hp rfl
@[simp] theorem State.raise_fuses (s : State) (e : Ev) : (s.raise e).fuses = s.fuses :=
  (State.raise_ext (M₀ := 132) (by decide) (Ext.refl _ s)).fuses rfl
@[simp] theorem State.raise_boot (s : State) (e : Ev) : (s.raise e).boot = s.boot :=
  (State.raise_ext (M₀ := 132) (by decide) (Ext.refl _ s)).boot rfl
@[simp] theorem State.raise_sec (s : State) (e : Ev) : (s.raise e).sec = s.sec :=
  (State.raise_ext (M₀ := 132) (by decide) (Ext.refl _ s)).sec rfl
@[simp] theorem State.raise_strm (s : State) (e : Ev) : (s.raise e).strm = s.strm :=
  (State.raise_ext (M₀ := 132) (by decide) (Ext.refl _ s)).strm rfl
@[simp] theorem State.raise_hsm (s : State) (e : Ev) : (s.raise e).hsm = s.hsm :=
  (State.raise_ext (M₀ := 132) (by decide) (Ext.refl _ s)).hsm rfl
@[simp] theorem State.raise_comp (s : State) (e : Ev) : (s.raise e).comp = s.comp :=
  (State.raise_ext (M₀ := 132) (by decide) (Ext.refl _ s)).comp rfl
@[simp] theorem State.raise_health (s : State) (e : Ev) : (s.raise e).health = s.health :=
  (State.raise_ext (M₀ := 132) (by decide) (Ext.refl _ s)).health rfl
@[simp] theorem State.raise_links (s : State) (e : Ev) : (s.raise e).links = s.links :=
  (State.raise_ext (M₀ := 132) (by decide) (Ext.refl _ s)).links rfl
@[simp] theorem State.raise_red (s : State) (e : Ev) : (s.raise e).red = s.red :=
  (State.raise_ext (M₀ := 132) (by decide) (Ext.refl _ s)).red rfl
@[simp] theorem State.raise_snap (s : State) (e : Ev) : (s.raise e).snap = s.snap :=
  (State.raise_ext (M₀ := 132) (by decide) (Ext.refl _ s)).snap rfl
@[simp] theorem State.raise_power (s : State) (e : Ev) : (s.raise e).power = s.power :=
  (State.raise_ext (M₀ := 132) (by decide) (Ext.refl _ s)).power rfl
@[simp] theorem State.raise_keep (s : State) (e : Ev) : (s.raise e).keep = s.keep :=
  (State.raise_ext (M₀ := 132) (by decide) (Ext.refl _ s)).keep rfl
@[simp] theorem State.raise_pins (s : State) (e : Ev) : (s.raise e).pins = s.pins :=
  (State.raise_ext (M₀ := 132) (by decide) (Ext.refl _ s)).pins rfl
@[simp] theorem State.event_pending (s : State) (code : Nat) (part : Option Nat) (c : Bool) (i : Nat) (p : List Byte) : (s.event code part c i p).pending = s.pending :=
  (State.event_ext (M₀ := 132) (by decide) (Ext.refl _ s)).pending
@[simp] theorem State.event_now (s : State) (code : Nat) (part : Option Nat) (c : Bool) (i : Nat) (p : List Byte) : (s.event code part c i p).now = s.now :=
  (State.event_ext (M₀ := 132) (by decide) (Ext.refl _ s)).now rfl
@[simp] theorem State.event_fresh (s : State) (code : Nat) (part : Option Nat) (c : Bool) (i : Nat) (p : List Byte) : (s.event code part c i p).fresh = s.fresh :=
  (State.event_ext (M₀ := 132) (by decide) (Ext.refl _ s)).fresh rfl
@[simp] theorem State.event_readData (s : State) (code : Nat) (part : Option Nat) (c : Bool) (i : Nat) (p : List Byte) : (s.event code part c i p).readData = s.readData :=
  (State.event_ext (M₀ := 132) (by decide) (Ext.refl _ s)).readData rfl
@[simp] theorem State.event_mem (s : State) (code : Nat) (part : Option Nat) (c : Bool) (i : Nat) (p : List Byte) : (s.event code part c i p).mem = s.mem :=
  (State.event_ext (M₀ := 132) (by decide) (Ext.refl _ s)).mem rfl
@[simp] theorem State.event_poison (s : State) (code : Nat) (part : Option Nat) (c : Bool) (i : Nat) (p : List Byte) : (s.event code part c i p).poison = s.poison :=
  (State.event_ext (M₀ := 132) (by decide) (Ext.refl _ s)).poison rfl
@[simp] theorem State.event_ctl (s : State) (code : Nat) (part : Option Nat) (c : Bool) (i : Nat) (p : List Byte) : (s.event code part c i p).ctl = s.ctl :=
  (State.event_ext (M₀ := 132) (by decide) (Ext.refl _ s)).ctl rfl
@[simp] theorem State.event_hp (s : State) (code : Nat) (part : Option Nat) (c : Bool) (i : Nat) (p : List Byte) : (s.event code part c i p).hp = s.hp :=
  (State.event_ext (M₀ := 132) (by decide) (Ext.refl _ s)).hp rfl
@[simp] theorem State.event_fuses (s : State) (code : Nat) (part : Option Nat) (c : Bool) (i : Nat) (p : List Byte) : (s.event code part c i p).fuses = s.fuses :=
  (State.event_ext (M₀ := 132) (by decide) (Ext.refl _ s)).fuses rfl
@[simp] theorem State.event_boot (s : State) (code : Nat) (part : Option Nat) (c : Bool) (i : Nat) (p : List Byte) : (s.event code part c i p).boot = s.boot :=
  (State.event_ext (M₀ := 132) (by decide) (Ext.refl _ s)).boot rfl
@[simp] theorem State.event_sec (s : State) (code : Nat) (part : Option Nat) (c : Bool) (i : Nat) (p : List Byte) : (s.event code part c i p).sec = s.sec :=
  (State.event_ext (M₀ := 132) (by decide) (Ext.refl _ s)).sec rfl
@[simp] theorem State.event_strm (s : State) (code : Nat) (part : Option Nat) (c : Bool) (i : Nat) (p : List Byte) : (s.event code part c i p).strm = s.strm :=
  (State.event_ext (M₀ := 132) (by decide) (Ext.refl _ s)).strm rfl
@[simp] theorem State.event_hsm (s : State) (code : Nat) (part : Option Nat) (c : Bool) (i : Nat) (p : List Byte) : (s.event code part c i p).hsm = s.hsm :=
  (State.event_ext (M₀ := 132) (by decide) (Ext.refl _ s)).hsm rfl
@[simp] theorem State.event_comp (s : State) (code : Nat) (part : Option Nat) (c : Bool) (i : Nat) (p : List Byte) : (s.event code part c i p).comp = s.comp :=
  (State.event_ext (M₀ := 132) (by decide) (Ext.refl _ s)).comp rfl
@[simp] theorem State.event_health (s : State) (code : Nat) (part : Option Nat) (c : Bool) (i : Nat) (p : List Byte) : (s.event code part c i p).health = s.health :=
  (State.event_ext (M₀ := 132) (by decide) (Ext.refl _ s)).health rfl
@[simp] theorem State.event_links (s : State) (code : Nat) (part : Option Nat) (c : Bool) (i : Nat) (p : List Byte) : (s.event code part c i p).links = s.links :=
  (State.event_ext (M₀ := 132) (by decide) (Ext.refl _ s)).links rfl
@[simp] theorem State.event_red (s : State) (code : Nat) (part : Option Nat) (c : Bool) (i : Nat) (p : List Byte) : (s.event code part c i p).red = s.red :=
  (State.event_ext (M₀ := 132) (by decide) (Ext.refl _ s)).red rfl
@[simp] theorem State.event_snap (s : State) (code : Nat) (part : Option Nat) (c : Bool) (i : Nat) (p : List Byte) : (s.event code part c i p).snap = s.snap :=
  (State.event_ext (M₀ := 132) (by decide) (Ext.refl _ s)).snap rfl
@[simp] theorem State.event_power (s : State) (code : Nat) (part : Option Nat) (c : Bool) (i : Nat) (p : List Byte) : (s.event code part c i p).power = s.power :=
  (State.event_ext (M₀ := 132) (by decide) (Ext.refl _ s)).power rfl
@[simp] theorem State.event_keep (s : State) (code : Nat) (part : Option Nat) (c : Bool) (i : Nat) (p : List Byte) : (s.event code part c i p).keep = s.keep :=
  (State.event_ext (M₀ := 132) (by decide) (Ext.refl _ s)).keep rfl
@[simp] theorem State.event_pins (s : State) (code : Nat) (part : Option Nat) (c : Bool) (i : Nat) (p : List Byte) : (s.event code part c i p).pins = s.pins :=
  (State.event_ext (M₀ := 132) (by decide) (Ext.refl _ s)).pins rfl
@[simp] theorem State.generic_pending (s : State) (blk : Nat) (part : Option Nat) (a b r : Nat) : (s.generic blk part a b r).pending = s.pending :=
  (State.generic_ext (M₀ := 132) (by decide) (Ext.refl _ s)).pending
@[simp] theorem State.generic_now (s : State) (blk : Nat) (part : Option Nat) (a b r : Nat) : (s.generic blk part a b r).now = s.now :=
  (State.generic_ext (M₀ := 132) (by decide) (Ext.refl _ s)).now rfl
@[simp] theorem State.generic_fresh (s : State) (blk : Nat) (part : Option Nat) (a b r : Nat) : (s.generic blk part a b r).fresh = s.fresh :=
  (State.generic_ext (M₀ := 132) (by decide) (Ext.refl _ s)).fresh rfl
@[simp] theorem State.generic_readData (s : State) (blk : Nat) (part : Option Nat) (a b r : Nat) : (s.generic blk part a b r).readData = s.readData :=
  (State.generic_ext (M₀ := 132) (by decide) (Ext.refl _ s)).readData rfl
@[simp] theorem State.generic_mem (s : State) (blk : Nat) (part : Option Nat) (a b r : Nat) : (s.generic blk part a b r).mem = s.mem :=
  (State.generic_ext (M₀ := 132) (by decide) (Ext.refl _ s)).mem rfl
@[simp] theorem State.generic_poison (s : State) (blk : Nat) (part : Option Nat) (a b r : Nat) : (s.generic blk part a b r).poison = s.poison :=
  (State.generic_ext (M₀ := 132) (by decide) (Ext.refl _ s)).poison rfl
@[simp] theorem State.generic_ctl (s : State) (blk : Nat) (part : Option Nat) (a b r : Nat) : (s.generic blk part a b r).ctl = s.ctl :=
  (State.generic_ext (M₀ := 132) (by decide) (Ext.refl _ s)).ctl rfl
@[simp] theorem State.generic_hp (s : State) (blk : Nat) (part : Option Nat) (a b r : Nat) : (s.generic blk part a b r).hp = s.hp :=
  (State.generic_ext (M₀ := 132) (by decide) (Ext.refl _ s)).hp rfl
@[simp] theorem State.generic_fuses (s : State) (blk : Nat) (part : Option Nat) (a b r : Nat) : (s.generic blk part a b r).fuses = s.fuses :=
  (State.generic_ext (M₀ := 132) (by decide) (Ext.refl _ s)).fuses rfl
@[simp] theorem State.generic_boot (s : State) (blk : Nat) (part : Option Nat) (a b r : Nat) : (s.generic blk part a b r).boot = s.boot :=
  (State.generic_ext (M₀ := 132) (by decide) (Ext.refl _ s)).boot rfl
@[simp] theorem State.generic_sec (s : State) (blk : Nat) (part : Option Nat) (a b r : Nat) : (s.generic blk part a b r).sec = s.sec :=
  (State.generic_ext (M₀ := 132) (by decide) (Ext.refl _ s)).sec rfl
@[simp] theorem State.generic_strm (s : State) (blk : Nat) (part : Option Nat) (a b r : Nat) : (s.generic blk part a b r).strm = s.strm :=
  (State.generic_ext (M₀ := 132) (by decide) (Ext.refl _ s)).strm rfl
@[simp] theorem State.generic_hsm (s : State) (blk : Nat) (part : Option Nat) (a b r : Nat) : (s.generic blk part a b r).hsm = s.hsm :=
  (State.generic_ext (M₀ := 132) (by decide) (Ext.refl _ s)).hsm rfl
@[simp] theorem State.generic_comp (s : State) (blk : Nat) (part : Option Nat) (a b r : Nat) : (s.generic blk part a b r).comp = s.comp :=
  (State.generic_ext (M₀ := 132) (by decide) (Ext.refl _ s)).comp rfl
@[simp] theorem State.generic_health (s : State) (blk : Nat) (part : Option Nat) (a b r : Nat) : (s.generic blk part a b r).health = s.health :=
  (State.generic_ext (M₀ := 132) (by decide) (Ext.refl _ s)).health rfl
@[simp] theorem State.generic_links (s : State) (blk : Nat) (part : Option Nat) (a b r : Nat) : (s.generic blk part a b r).links = s.links :=
  (State.generic_ext (M₀ := 132) (by decide) (Ext.refl _ s)).links rfl
@[simp] theorem State.generic_red (s : State) (blk : Nat) (part : Option Nat) (a b r : Nat) : (s.generic blk part a b r).red = s.red :=
  (State.generic_ext (M₀ := 132) (by decide) (Ext.refl _ s)).red rfl
@[simp] theorem State.generic_snap (s : State) (blk : Nat) (part : Option Nat) (a b r : Nat) : (s.generic blk part a b r).snap = s.snap :=
  (State.generic_ext (M₀ := 132) (by decide) (Ext.refl _ s)).snap rfl
@[simp] theorem State.generic_power (s : State) (blk : Nat) (part : Option Nat) (a b r : Nat) : (s.generic blk part a b r).power = s.power :=
  (State.generic_ext (M₀ := 132) (by decide) (Ext.refl _ s)).power rfl
@[simp] theorem State.generic_keep (s : State) (blk : Nat) (part : Option Nat) (a b r : Nat) : (s.generic blk part a b r).keep = s.keep :=
  (State.generic_ext (M₀ := 132) (by decide) (Ext.refl _ s)).keep rfl
@[simp] theorem State.generic_pins (s : State) (blk : Nat) (part : Option Nat) (a b r : Nat) : (s.generic blk part a b r).pins = s.pins :=
  (State.generic_ext (M₀ := 132) (by decide) (Ext.refl _ s)).pins rfl
@[simp] theorem State.genericNotice_pending (s : State) (blk p a b r : Nat) : (s.genericNotice blk p a b r).pending = s.pending :=
  (State.genericNotice_ext (M₀ := 132) (by decide) (Ext.refl _ s)).pending
@[simp] theorem State.genericNotice_now (s : State) (blk p a b r : Nat) : (s.genericNotice blk p a b r).now = s.now :=
  (State.genericNotice_ext (M₀ := 132) (by decide) (Ext.refl _ s)).now rfl
@[simp] theorem State.genericNotice_fresh (s : State) (blk p a b r : Nat) : (s.genericNotice blk p a b r).fresh = s.fresh :=
  (State.genericNotice_ext (M₀ := 132) (by decide) (Ext.refl _ s)).fresh rfl
@[simp] theorem State.genericNotice_readData (s : State) (blk p a b r : Nat) : (s.genericNotice blk p a b r).readData = s.readData :=
  (State.genericNotice_ext (M₀ := 132) (by decide) (Ext.refl _ s)).readData rfl
@[simp] theorem State.genericNotice_mem (s : State) (blk p a b r : Nat) : (s.genericNotice blk p a b r).mem = s.mem :=
  (State.genericNotice_ext (M₀ := 132) (by decide) (Ext.refl _ s)).mem rfl
@[simp] theorem State.genericNotice_poison (s : State) (blk p a b r : Nat) : (s.genericNotice blk p a b r).poison = s.poison :=
  (State.genericNotice_ext (M₀ := 132) (by decide) (Ext.refl _ s)).poison rfl
@[simp] theorem State.genericNotice_ctl (s : State) (blk p a b r : Nat) : (s.genericNotice blk p a b r).ctl = s.ctl :=
  (State.genericNotice_ext (M₀ := 132) (by decide) (Ext.refl _ s)).ctl rfl
@[simp] theorem State.genericNotice_hp (s : State) (blk p a b r : Nat) : (s.genericNotice blk p a b r).hp = s.hp :=
  (State.genericNotice_ext (M₀ := 132) (by decide) (Ext.refl _ s)).hp rfl
@[simp] theorem State.genericNotice_fuses (s : State) (blk p a b r : Nat) : (s.genericNotice blk p a b r).fuses = s.fuses :=
  (State.genericNotice_ext (M₀ := 132) (by decide) (Ext.refl _ s)).fuses rfl
@[simp] theorem State.genericNotice_boot (s : State) (blk p a b r : Nat) : (s.genericNotice blk p a b r).boot = s.boot :=
  (State.genericNotice_ext (M₀ := 132) (by decide) (Ext.refl _ s)).boot rfl
@[simp] theorem State.genericNotice_sec (s : State) (blk p a b r : Nat) : (s.genericNotice blk p a b r).sec = s.sec :=
  (State.genericNotice_ext (M₀ := 132) (by decide) (Ext.refl _ s)).sec rfl
@[simp] theorem State.genericNotice_strm (s : State) (blk p a b r : Nat) : (s.genericNotice blk p a b r).strm = s.strm :=
  (State.genericNotice_ext (M₀ := 132) (by decide) (Ext.refl _ s)).strm rfl
@[simp] theorem State.genericNotice_hsm (s : State) (blk p a b r : Nat) : (s.genericNotice blk p a b r).hsm = s.hsm :=
  (State.genericNotice_ext (M₀ := 132) (by decide) (Ext.refl _ s)).hsm rfl
@[simp] theorem State.genericNotice_comp (s : State) (blk p a b r : Nat) : (s.genericNotice blk p a b r).comp = s.comp :=
  (State.genericNotice_ext (M₀ := 132) (by decide) (Ext.refl _ s)).comp rfl
@[simp] theorem State.genericNotice_health (s : State) (blk p a b r : Nat) : (s.genericNotice blk p a b r).health = s.health :=
  (State.genericNotice_ext (M₀ := 132) (by decide) (Ext.refl _ s)).health rfl
@[simp] theorem State.genericNotice_links (s : State) (blk p a b r : Nat) : (s.genericNotice blk p a b r).links = s.links :=
  (State.genericNotice_ext (M₀ := 132) (by decide) (Ext.refl _ s)).links rfl
@[simp] theorem State.genericNotice_red (s : State) (blk p a b r : Nat) : (s.genericNotice blk p a b r).red = s.red :=
  (State.genericNotice_ext (M₀ := 132) (by decide) (Ext.refl _ s)).red rfl
@[simp] theorem State.genericNotice_snap (s : State) (blk p a b r : Nat) : (s.genericNotice blk p a b r).snap = s.snap :=
  (State.genericNotice_ext (M₀ := 132) (by decide) (Ext.refl _ s)).snap rfl
@[simp] theorem State.genericNotice_power (s : State) (blk p a b r : Nat) : (s.genericNotice blk p a b r).power = s.power :=
  (State.genericNotice_ext (M₀ := 132) (by decide) (Ext.refl _ s)).power rfl
@[simp] theorem State.genericNotice_keep (s : State) (blk p a b r : Nat) : (s.genericNotice blk p a b r).keep = s.keep :=
  (State.genericNotice_ext (M₀ := 132) (by decide) (Ext.refl _ s)).keep rfl
@[simp] theorem State.genericNotice_pins (s : State) (blk p a b r : Nat) : (s.genericNotice blk p a b r).pins = s.pins :=
  (State.genericNotice_ext (M₀ := 132) (by decide) (Ext.refl _ s)).pins rfl
@[simp] theorem State.badWrite_pending (s : State) (off v : Nat) : (s.badWrite off v).pending = s.pending :=
  (State.badWrite_ext (M₀ := 132) (by decide) (Ext.refl _ s)).pending
@[simp] theorem State.badWrite_now (s : State) (off v : Nat) : (s.badWrite off v).now = s.now :=
  (State.badWrite_ext (M₀ := 132) (by decide) (Ext.refl _ s)).now rfl
@[simp] theorem State.badWrite_fresh (s : State) (off v : Nat) : (s.badWrite off v).fresh = s.fresh :=
  (State.badWrite_ext (M₀ := 132) (by decide) (Ext.refl _ s)).fresh rfl
@[simp] theorem State.badWrite_readData (s : State) (off v : Nat) : (s.badWrite off v).readData = s.readData :=
  (State.badWrite_ext (M₀ := 132) (by decide) (Ext.refl _ s)).readData rfl
@[simp] theorem State.badWrite_mem (s : State) (off v : Nat) : (s.badWrite off v).mem = s.mem :=
  (State.badWrite_ext (M₀ := 132) (by decide) (Ext.refl _ s)).mem rfl
@[simp] theorem State.badWrite_poison (s : State) (off v : Nat) : (s.badWrite off v).poison = s.poison :=
  (State.badWrite_ext (M₀ := 132) (by decide) (Ext.refl _ s)).poison rfl
@[simp] theorem State.badWrite_ctl (s : State) (off v : Nat) : (s.badWrite off v).ctl = s.ctl :=
  (State.badWrite_ext (M₀ := 132) (by decide) (Ext.refl _ s)).ctl rfl
@[simp] theorem State.badWrite_hp (s : State) (off v : Nat) : (s.badWrite off v).hp = s.hp :=
  (State.badWrite_ext (M₀ := 132) (by decide) (Ext.refl _ s)).hp rfl
@[simp] theorem State.badWrite_fuses (s : State) (off v : Nat) : (s.badWrite off v).fuses = s.fuses :=
  (State.badWrite_ext (M₀ := 132) (by decide) (Ext.refl _ s)).fuses rfl
@[simp] theorem State.badWrite_boot (s : State) (off v : Nat) : (s.badWrite off v).boot = s.boot :=
  (State.badWrite_ext (M₀ := 132) (by decide) (Ext.refl _ s)).boot rfl
@[simp] theorem State.badWrite_sec (s : State) (off v : Nat) : (s.badWrite off v).sec = s.sec :=
  (State.badWrite_ext (M₀ := 132) (by decide) (Ext.refl _ s)).sec rfl
@[simp] theorem State.badWrite_strm (s : State) (off v : Nat) : (s.badWrite off v).strm = s.strm :=
  (State.badWrite_ext (M₀ := 132) (by decide) (Ext.refl _ s)).strm rfl
@[simp] theorem State.badWrite_hsm (s : State) (off v : Nat) : (s.badWrite off v).hsm = s.hsm :=
  (State.badWrite_ext (M₀ := 132) (by decide) (Ext.refl _ s)).hsm rfl
@[simp] theorem State.badWrite_comp (s : State) (off v : Nat) : (s.badWrite off v).comp = s.comp :=
  (State.badWrite_ext (M₀ := 132) (by decide) (Ext.refl _ s)).comp rfl
@[simp] theorem State.badWrite_health (s : State) (off v : Nat) : (s.badWrite off v).health = s.health :=
  (State.badWrite_ext (M₀ := 132) (by decide) (Ext.refl _ s)).health rfl
@[simp] theorem State.badWrite_links (s : State) (off v : Nat) : (s.badWrite off v).links = s.links :=
  (State.badWrite_ext (M₀ := 132) (by decide) (Ext.refl _ s)).links rfl
@[simp] theorem State.badWrite_red (s : State) (off v : Nat) : (s.badWrite off v).red = s.red :=
  (State.badWrite_ext (M₀ := 132) (by decide) (Ext.refl _ s)).red rfl
@[simp] theorem State.badWrite_snap (s : State) (off v : Nat) : (s.badWrite off v).snap = s.snap :=
  (State.badWrite_ext (M₀ := 132) (by decide) (Ext.refl _ s)).snap rfl
@[simp] theorem State.badWrite_power (s : State) (off v : Nat) : (s.badWrite off v).power = s.power :=
  (State.badWrite_ext (M₀ := 132) (by decide) (Ext.refl _ s)).power rfl
@[simp] theorem State.badWrite_keep (s : State) (off v : Nat) : (s.badWrite off v).keep = s.keep :=
  (State.badWrite_ext (M₀ := 132) (by decide) (Ext.refl _ s)).keep rfl
@[simp] theorem State.badWrite_pins (s : State) (off v : Nat) : (s.badWrite off v).pins = s.pins :=
  (State.badWrite_ext (M₀ := 132) (by decide) (Ext.refl _ s)).pins rfl

/-- An event changes no register but the count of lost events. -/
theorem State.raise_rd (s : State) (e : Ev) {off : Nat} (h : off ≠ Reg.evrecLost) : (s.raise e).rd off = s.rd off := by
  unfold State.raise
  split
  · split
    · exact State.rd_put_ne _ _ h
    · exact State.rd_put_ne _ _ h
  · split <;> rfl

theorem State.event_rd (s : State) (code : Nat) (part : Option Nat) (c : Bool) (i : Nat) (p : List Byte) {off : Nat}
    (h : off ≠ Reg.evrecLost) : (s.event code part c i p).rd off = s.rd off := State.raise_rd s _ h

theorem State.generic_rd (s : State) (blk : Nat) (part : Option Nat) (a b r : Nat) {off : Nat} (h : off ≠ Reg.evrecLost) :
    (s.generic blk part a b r).rd off = s.rd off := State.raise_rd s _ h

theorem State.genericNotice_rd (s : State) (blk p a b r : Nat) {off : Nat} (h : off ≠ Reg.evrecLost) :
    (s.genericNotice blk p a b r).rd off = s.rd off := State.raise_rd s _ h

theorem State.badWrite_rd (s : State) (o v : Nat) {off : Nat} (h : off ≠ Reg.evrecLost) : (s.badWrite o v).rd off = s.rd off :=
  State.raise_rd s _ h

theorem State.event_f (s : State) (code : Nat) (part : Option Nat) (c : Bool) (i : Nat) (p : List Byte) {r : FieldRef}
    (h : r.off ≠ Reg.evrecLost) : (s.event code part c i p).f r = s.f r := by
  unfold State.f; rw [State.event_rd _ _ _ _ _ _ h]

theorem State.generic_f (s : State) (blk : Nat) (part : Option Nat) (a b r : Nat) {q : FieldRef} (h : q.off ≠ Reg.evrecLost) :
    (s.generic blk part a b r).f q = s.f q := by
  unfold State.f; rw [State.generic_rd _ _ _ _ _ _ h]

theorem State.genericNotice_f (s : State) (blk p a b r : Nat) {q : FieldRef} (h : q.off ≠ Reg.evrecLost) :
    (s.genericNotice blk p a b r).f q = s.f q := by
  unfold State.f; rw [State.genericNotice_rd _ _ _ _ _ _ h]

theorem State.badWrite_f (s : State) (o v : Nat) {q : FieldRef} (h : q.off ≠ Reg.evrecLost) : (s.badWrite o v).f q = s.f q := by
  unfold State.f; rw [State.badWrite_rd _ _ _ h]

theorem State.OnlyRegs.refl (s : State) (l : List Nat) : s.OnlyRegs s l := ⟨rfl, fun _ _ => rfl⟩

theorem State.OnlyRegs.mono {s t : State} {l m : List Nat} (h : s.OnlyRegs t l) (hm : ∀ x ∈ l, x ∈ m) : s.OnlyRegs t m :=
  ⟨h.1, fun off ho => h.2 off fun hl => ho (hm off hl)⟩

theorem State.OnlyRegs.wr {s t : State} {l : List Nat} {off : Nat} (v : Nat) (h : s.OnlyRegs t l) (ho : off ∈ l) :
    s.OnlyRegs (t.wr off v) l :=
  ⟨by rw [h.1]; rfl, fun x hx => (State.rd_wr_ne t v fun e => hx (by rw [e]; exact ho)).trans (h.2 x hx)⟩

theorem State.OnlyRegs.put {s t : State} {l : List Nat} {r : FieldRef} (v : Nat) (h : s.OnlyRegs t l) (ho : r.off ∈ l) :
    s.OnlyRegs (t.put r v) l := h.wr _ ho

theorem State.OnlyRegs.foldl {α : Type} {f : State → α → State} {s : State} {l : List Nat} (xs : List α) {t : State}
    (hf : ∀ u x, s.OnlyRegs u l → s.OnlyRegs (f u x) l) (h : s.OnlyRegs t l) : s.OnlyRegs (xs.foldl f t) l := by
  induction xs generalizing t with
  | nil => exact h
  | cons x xs ih => exact ih (hf t x h)

/-! ### Shown totals change only their own registers -/

theorem State.inventoryUpdate_f (s : State) {q : FieldRef} (h : q.off ≠ Reg.inventory) : s.inventoryUpdate.f q = s.f q := by
  unfold State.inventoryUpdate
  simp only []
  rw [State.f_put_ne _ _ h, State.f_put_ne _ _ h, State.f_put_ne _ _ h, State.f_put_ne _ _ h, State.f_put_ne _ _ h, State.f_put_ne _ _ h]

theorem State.capacityUpdate_f (s : State) {q : FieldRef} (h : ∀ i < 16, q.off ≠ Reg.hsmLimit i) (h' : q.off ≠ Reg.hsmCapacity) :
    s.capacityUpdate.f q = s.f q := by
  unfold State.capacityUpdate
  simp only []
  rw [State.f_wr_ne _ _ h']
  refine List.foldlRecOn (motive := fun (t : State) => t.f q = s.f q) _ _ rfl (fun b hb a hm => ?_)
  rw [State.f_wr_ne _ _ (h a (by simpa using hm)), hb]

theorem State.poolUpdate_f (s : State) {home : Nat} {q : FieldRef} (h : q.off ≠ Reg.strmPool home) : (s.poolUpdate home).f q = s.f q := by
  unfold State.poolUpdate
  simp only []
  rw [State.f_put_ne _ _ h, State.f_put_ne _ _ h, State.f_put_ne _ _ h, State.f_put_ne _ _ h]

theorem State.engUpdate_f (s : State) {e : Nat} {q : FieldRef} (h : q.off ≠ Reg.teStatus e) : (s.engUpdate e).f q = s.f q := by
  unfold State.engUpdate
  simp only []
  split
  · rw [State.f_put_ne _ _ h]; rfl
  · rw [State.f_put_ne _ _ h, State.f_put_ne _ _ h]; rfl

end Sys2Proof.Machine
end

