-- ==== Sys2Proof/Laws/Items.lean ====
section
/-!
SUPPORT. Laws of the operation table: what waking, issuing and retiring do to its slots.
-/
namespace Sys2Proof.Machine

theorem Sparse.get_map_opt {α : Type} (g : α → α) (m : List (Nat × Option α)) (k : Nat) :
    Sparse.get (fun _ => none) (m.map (fun e => (e.1, e.2.map g))) k = (Sparse.get (fun _ => none) m k).map g := by
  induction m with
  | nil => rfl
  | cons e m ih =>
    by_cases h : e.1 = k
    · simp [Sparse.get, h]
    · simp [Sparse.get, h, ih]

/-- The parts of an operation that do not change while it is in flight. -/
structure Op.Same (a b : Op) : Prop where
  wq : b.wq = a.wq
  index : b.index = a.index
  item : b.item = a.item
  stamp : b.stamp = a.stamp
  admitNo : b.admitNo = a.admitNo
  layer : b.layer = a.layer
  listed : b.listed = a.listed
  skip : b.skip = a.skip

theorem Op.Same.refl (a : Op) : a.Same a := ⟨rfl, rfl, rfl, rfl, rfl, rfl, rfl, rfl⟩

theorem Op.Same.trans {a b c : Op} (h : a.Same b) (g : b.Same c) : a.Same c :=
  ⟨g.wq.trans h.wq, g.index.trans h.index, g.item.trans h.item, g.stamp.trans h.stamp, g.admitNo.trans h.admitNo,
   g.layer.trans h.layer, g.listed.trans h.listed, g.skip.trans h.skip⟩

/-- Slots keep their operations: an empty one stays empty, and an occupied one holds the same item. -/
def KeepsOps (s t : State) : Prop :=
  ∀ k, (s.op k = none → t.op k = none) ∧ ∀ o, s.op k = some o → ∃ o', t.op k = some o' ∧ o.Same o'

theorem KeepsOps.of_ctl {s t : State} (h : t.ctl = s.ctl) : KeepsOps s t := fun k => by
  have e : t.op k = s.op k := by unfold State.op; rw [h]
  exact ⟨fun hn => e.trans hn, fun o ho => ⟨o, e.trans ho, Op.Same.refl o⟩⟩

theorem KeepsOps.refl (s : State) : KeepsOps s s := KeepsOps.of_ctl rfl

theorem KeepsOps.trans {s t u : State} (h : KeepsOps s t) (g : KeepsOps t u) : KeepsOps s u := fun k =>
  ⟨fun hn => (g k).1 ((h k).1 hn), fun o ho => by
    obtain ⟨o', h1, h2⟩ := (h k).2 o ho
    obtain ⟨o'', h3, h4⟩ := (g k).2 o' h1
    exact ⟨o'', h3, h2.trans h4⟩⟩

theorem KeepsOps.setOp {s : State} {k : Nat} {o o' : Op} (h : s.op k = some o) (hs : o.Same o') :
    KeepsOps s (s.setOp k (some o')) := fun j => by
  by_cases hj : j = k
  · subst hj
    exact ⟨fun hn => by rw [h] at hn; (cases hn), fun x hx => ⟨o', State.setOp_op _ _ _, by
      rw [h] at hx; cases hx; exact hs⟩⟩
  · have e := State.setOp_op_ne s k (some o') hj
    exact ⟨fun hn => e.trans hn, fun x hx => ⟨x, e.trans hx, Op.Same.refl x⟩⟩

theorem KeepsOps.foldl {α : Type} {f : State → α → State} (hf : ∀ s x, KeepsOps s (f s x)) (l : List α) (s : State) :
    KeepsOps s (l.foldl f s) := by
  induction l generalizing s with
  | nil => exact KeepsOps.refl s
  | cons x l ih => exact (hf s x).trans (ih (f s x))

/-- A context that an item leaves keeps the operation table. -/
theorem State.unbindCtx_ctl (s : State) (n i : Nat) : (s.unbindCtx n i).ctl = s.ctl := by
  exact (State.unbindCtx_ext (s := s) (admitNo := n) (i := i) (M₀ := 4096) (by decide) (Ext.refl _ s)).ctl rfl

theorem State.unbindAll_ctl (n : Nat) (l : List (Nat × Bool)) (s : State) :
    (l.foldl (fun t e => t.unbindCtx n e.1) s).ctl = s.ctl := by
  induction l generalizing s with
  | nil => rfl
  | cons x l ih => exact (ih _).trans (State.unbindCtx_ctl s n x.1)

theorem State.wakeOne_keepsOps (s : State) (k : Nat) : KeepsOps s (s.wakeOne k) := by
  unfold State.wakeOne
  split
  · exact KeepsOps.refl s
  · rename_i o ho
    split
    · exact KeepsOps.refl s
    · extract_lets o1 t t2
      have h1 : KeepsOps s t := KeepsOps.setOp ho ⟨rfl, rfl, rfl, rfl, rfl, rfl, rfl, rfl⟩
      have h2 : t.op k = some o1 := State.setOp_op _ _ _
      clear_value t
      split
      · exact h1
      · split
        · have h3 : t2.ctl = t.ctl := State.unbindAll_ctl _ _ _
          clear_value t2
          refine h1.trans ((KeepsOps.of_ctl h3).trans ((KeepsOps.of_ctl (t := t2.setStatus k 3 0 false) rfl).trans ?_))
          exact KeepsOps.setOp (o := o1) (by show t2.op k = _; unfold State.op; rw [h3]; exact h2) ⟨rfl, rfl, rfl, rfl, rfl, rfl, rfl, rfl⟩
        · exact h1.trans (KeepsOps.of_ctl rfl)

/-- Waking changes no slot's item. -/
theorem State.wake_keepsOps (s : State) : KeepsOps s s.wake := by
  refine (KeepsOps.foldl (f := fun t (e : Nat × Op) => t.wakeOne e.1) (fun t e => State.wakeOne_keepsOps t e.1) s.inFlight s).trans
    (KeepsOps.of_ctl ?_)
  exact (State.stallShow_ext (M₀ := 4) (by decide) (Ext.refl _ _)).ctl rfl

/-- Settling changes no slot's item. -/
theorem State.settle_keepsOps (s : State) : KeepsOps s s.settle :=
  (State.wake_keepsOps s).trans (KeepsOps.of_ctl ((State.modesUpdate_ext (s := s.wake) (M₀ := 4) (by decide) (Ext.refl _ _)).ctl rfl))

/-- Slots keep their items or lose them: an empty one stays empty, and an occupied one is emptied or holds the same item. -/
def LosesOps (s t : State) : Prop :=
  ∀ k, (s.op k = none → t.op k = none) ∧ ∀ o, s.op k = some o → t.op k = none ∨ ∃ o', t.op k = some o' ∧ o.Same o'

theorem KeepsOps.loses {s t : State} (h : KeepsOps s t) : LosesOps s t := fun k =>
  ⟨(h k).1, fun o ho => .inr ((h k).2 o ho)⟩

theorem LosesOps.trans {s t u : State} (h : LosesOps s t) (g : LosesOps t u) : LosesOps s u := fun k =>
  ⟨fun hn => (g k).1 ((h k).1 hn), fun o ho => by
    obtain h1 | ⟨o', h1, h2⟩ := (h k).2 o ho
    · exact .inl ((g k).1 h1)
    · obtain h3 | ⟨o'', h3, h4⟩ := (g k).2 o' h1
      · exact .inl h3
      · exact .inr ⟨o'', h3, h2.trans h4⟩⟩

theorem State.setOp_none_loses (s : State) (k : Nat) : LosesOps s (s.setOp k none) := fun j => by
  by_cases hj : j = k
  · subst hj
    exact ⟨fun _ => State.setOp_op _ _ _, fun _ _ => .inl (State.setOp_op _ _ _)⟩
  · have e := State.setOp_op_ne s k none hj
    exact ⟨fun hn => e.trans hn, fun x hx => .inr ⟨x, e.trans hx, Op.Same.refl x⟩⟩

/-- Opening the fences of every item to one that has closed keeps the items. -/
theorem State.unfenceAll_keepsOps (s : State) (n : Nat) : KeepsOps s (s.unfenceAll n) := fun k => by
  have e : (s.unfenceAll n).op k = (s.op k).map (Op.unfence n) := Sparse.get_map_opt _ _ _
  exact ⟨fun h => by rw [e, h]; rfl, fun o h => ⟨o.unfence n, by rw [e, h]; rfl, rfl, rfl, rfl, rfl, rfl, rfl, rfl, rfl⟩⟩

/-- What an item that leaves does to the table: its slot is empty, and no other slot's item changes. -/
theorem State.leave_ops (s : State) (slot : Nat) (o : Op) : (s.leave slot o).op slot = none ∧ LosesOps s (s.leave slot o) := by
  have h0 : (s.setOp slot none).op slot = none := State.setOp_op _ _ _
  have h1 := State.setOp_none_loses s slot
  have hk : KeepsOps (s.setOp slot none) (s.leave slot o) := by
    unfold State.leave
    extract_lets p t1 t2
    have h2 : KeepsOps t1 t2 := by
      show KeepsOps t1 (if _ then _ else _)
      split
      · split
        · exact (State.unfenceAll_keepsOps t1 _).trans (fun k => ⟨id, fun o h => ⟨o, h, Op.Same.refl o⟩⟩)
        · exact State.unfenceAll_keepsOps t1 _
      · exact KeepsOps.refl t1
    clear_value t2
    exact h2.trans (KeepsOps.of_ctl ((State.tableShow_ext (s := t2) (wq := o.wq) (M₀ := 4) (by decide) (Ext.refl _ _)).ctl rfl))
  exact ⟨(hk slot).1 h0, h1.trans hk.loses⟩

theorem State.recordWritten_loses (s : State) (r : CplRec) : LosesOps s (s.recordWritten r) := by
  unfold State.recordWritten
  split
  · split
    · exact (State.leave_ops _ _ _).2
    · exact (KeepsOps.refl s).loses
  · exact (KeepsOps.refl s).loses

/-- Registers, queues and the host port keep the operation table. -/
theorem KeepsOps.of_ops {s t : State} (h : t.ctl.ops = s.ctl.ops) : KeepsOps s t := fun k => by
  have e : t.op k = s.op k := by unfold State.op; rw [h]
  exact ⟨fun hn => e.trans hn, fun o ho => ⟨o, e.trans ho, Op.Same.refl o⟩⟩

theorem State.setCq_keepsOps (s : State) (n : Nat) (x : CqState) : KeepsOps s (s.setCq n x) := KeepsOps.of_ops rfl

theorem State.cqWrite_keepsOps (s : State) (n : Nat) (rec : List Byte) : KeepsOps s (s.cqWrite n rec) := by
  unfold State.cqWrite
  extract_lets c a q
  refine (State.setCq_keepsOps s n { c with prod := (c.prod + 1) % 2 ^ 32 }).trans (KeepsOps.of_ctl ?_)
  exact (State.request_ext (M₀ := 260) (by decide) (Ext.refl _ _)).ctl rfl

theorem State.post_loses (s : State) (n : Nat) (r : CplRec) : LosesOps s (s.post n r) := by
  unfold State.post
  split
  · exact (State.cqWrite_keepsOps s n _).loses.trans (State.recordWritten_loses _ _)
  · extract_lets c t
    have h : KeepsOps s t := (State.setCq_keepsOps s n _).trans (KeepsOps.of_ctl (State.put_ctl _ _ _))
    clear_value t
    split
    · exact (h.trans (KeepsOps.of_ctl (State.generic_ctl _ _ _ _ _ _))).loses
    · exact h.loses

/-- An ended item leaves its slot at once where no record of it is to be written. -/
theorem State.report425_op (s : State) (slot : Nat) (o : Op) (r : Nat) (h : o.isPost = false ∧ r = 0 ∨ 64 ≤ o.cqN) :
    (s.report425 slot o r).op slot = none := by
  unfold State.report425
  split
  · exact (State.leave_ops _ _ _).1
  · rename_i h1
    split
    · rename_i h2
      rcases h with ⟨h3, h4⟩ | h3
      · exact absurd ⟨h4, h3⟩ h1
      · omega
    · split <;> exact (State.leave_ops _ _ _).1

theorem State.report425_loses (s : State) (slot : Nat) (o : Op) (r : Nat) : LosesOps s (s.report425 slot o r) := by
  unfold State.report425
  split
  · exact (State.leave_ops _ _ _).2
  · split
    · exact ((KeepsOps.of_ops (t := s.useFresh 2) rfl).loses).trans (State.post_loses _ _ _)
    · split
      · exact (State.leave_ops _ _ _).2
      · exact (KeepsOps.of_ctl (State.genericNotice_ctl _ _ _ _ _ _)).loses.trans (State.leave_ops _ _ _).2

/-- Settling changes nothing of a partition's own state. -/
theorem State.wake_parts (s : State) : s.wake.ctl.parts = s.ctl.parts := by
  have hw : ∀ (u : State) (k : Nat), (u.wakeOne k).ctl.parts = u.ctl.parts := by
    intro u k
    unfold State.wakeOne
    split
    · rfl
    · split
      · rfl
      · extract_lets o1 t t2
        split
        · rfl
        · split
          · have h : t2.ctl = t.ctl := State.unbindAll_ctl _ _ _
            show t2.ctl.parts = u.ctl.parts
            rw [h]; rfl
          · rfl
  have hf : ∀ (l : List (Nat × Op)) (u : State), (l.foldl (fun t e => t.wakeOne e.1) u).ctl.parts = u.ctl.parts := by
    intro l
    induction l with
    | nil => intro u; rfl
    | cons x l ih => intro u; exact (ih _).trans (hw _ _)
  unfold State.wake
  rw [(State.stallShow_ext (M₀ := 4) (by decide) (Ext.refl _ _)).ctl rfl]
  exact hf _ _

theorem State.settle_part (s : State) (p : Nat) : s.settle.part p = s.part p := by
  unfold State.settle State.part
  rw [(State.modesUpdate_ext (M₀ := 4) (by decide) (Ext.refl _ s.wake)).ctl rfl, State.wake_parts]

/-- A step fence that leaves the table OK has closed its step (R36). -/
theorem State.leave_closes (s : State) (slot : Nat) (o : Op) (h5 : o.opcode = 5) (h1 : o.b 0x20 1 = 1) (h8 : s.opState slot = 8) :
    ((s.leave slot o).part (s.opPart o)).closedStep = some o.stamp := by
  unfold State.leave
  extract_lets p t1 t2
  have h2 : t2 = (t1.unfenceAll o.admitNo).stepClosed p o.stamp := by
    show (if _ then _ else _) = _
    rw [if_pos ⟨h5, h8⟩, if_pos h1]
  unfold State.part
  rw [(State.tableShow_ext (M₀ := 4) (by decide) (Ext.refl _ t2)).ctl rfl, h2]
  exact congrArg PartState.closedStep (State.setPart_part _ _ _)

theorem State.issue_op {s : State} {slot : Nat} {o : Op} (h : s.op slot = some o) :
    (s.issue slot).op slot = some { o with tIssue := if o.tIssue = 0 then s.now + 1 else o.tIssue } := by
  unfold State.issue
  rw [h]
  simp only []
  split
  · exact State.setOp_op _ _ _
  · exact Eq.trans (b := ((s.setStatus slot 3 0 false).setOp slot (some { o with tIssue := if o.tIssue = 0 then s.now + 1 else o.tIssue })).op slot)
      rfl (State.setOp_op _ _ _)

theorem State.issue_wqPart (s : State) (slot : Nat) {wq : Nat} (hw : wq < 64) : (s.issue slot).wqPart wq = s.wqPart wq := by
  have h : ∀ u : State, u.regs = (s.setStatus slot 3 0 false).regs → u.wqPart wq = s.wqPart wq := by
    intro u hu
    have : u.wqPart wq = (s.setStatus slot 3 0 false).wqPart wq := by unfold State.wqPart State.f State.rd; rw [hu]
    rw [this]
    exact State.f_wr_ne s _ (by simp only [Fld.wqCfg_partition, Reg.wqCfg, Reg.opstat]; omega)
  unfold State.issue
  split
  · simp only []
    split <;> exact h _ rfl
  · rfl

/-- A step fence without a record to write closes its step as it passes (R36). -/
theorem State.passFence_closes {s : State} {slot : Nat} {o : Op} (ho : s.op slot = some o) (h5 : o.opcode = 5) (h1 : o.b 0x20 1 = 1)
    (hp : o.isPost = false) (hw : o.wq < 64) (hn : slot < 4096) :
    ((s.passFence slot).part (s.opPart o)).closedStep = some o.stamp := by
  have hi := State.issue_op ho
  obtain ⟨o1, h5', h1', hp', hw', hi, hwq, hst⟩ : ∃ o1 : Op, o1.opcode = 5 ∧ o1.b 0x20 1 = 1 ∧ o1.isPost = false ∧ o1.wq < 64 ∧
      (s.issue slot).op slot = some o1 ∧ o1.wq = o.wq ∧ o1.stamp = o.stamp :=
    ⟨{ o with tIssue := if o.tIssue = 0 then s.now + 1 else o.tIssue }, h5, h1, hp, hw, hi, rfl, rfl⟩
  unfold State.passFence State.retire
  rw [hi]
  simp -zeta only []
  extract_lets t1 t2 t3 t4
  have e2 : t2 = t1.applyRetired o1 := if_pos rfl
  have e2' : t2 = t1 := by
    rw [e2]; unfold State.applyRetired
    rw [if_neg (by intro h; omega)]
  have e3 : t3 = t2.signal o1.signalCtr o1.signalInc := if_pos ⟨rfl, trivial⟩
  have e4 : t4 = t3 := if_pos rfl
  have ew : t4.endWork slot o1 = t4 := by
    unfold State.endWork
    have hc : itemCtxs o1.item = [] := by
      unfold itemCtxs
      have : fieldLE o1.item 0 1 = 5 := h5'
      simp only [this]
    rw [hc]
    simp only [List.foldl_nil]
    rw [if_neg (by intro h; omega), if_neg (by intro h; omega)]
  have er : t4.report425 slot o1 Res.ok = t4.leave slot o1 := by
    unfold State.report425
    exact if_pos ⟨rfl, hp'⟩
  have hr : ∀ off, (∀ n, off ≠ Reg.depctr n) → t4.rd off = t1.rd off := by
    intro off hd
    rw [e4, e3, e2']
    unfold State.signal
    split
    · rfl
    · exact State.rd_wr_ne _ _ (hd _)
  have hs : t4.opState slot = 8 := by
    unfold State.opState
    rw [hr _ (by intro n; simp only [Reg.opstat, Reg.depctr]; omega)]
    show bits ((State.setStatus _ slot _ _ _).rd _) 0 4 = 8
    unfold State.setStatus
    rw [State.rd_wr_self]
    decide
  have hq : t4.opPart o1 = s.opPart o := by
    unfold State.opPart State.wqPart State.f
    rw [hr _ (by intro n; simp only [Fld.wqCfg_partition, Reg.wqCfg, Reg.depctr]; omega)]
    have : t1.rd (Fld.wqCfg_partition o1.wq).off = (s.issue slot).rd (Fld.wqCfg_partition o1.wq).off :=
      State.rd_wr_ne _ _ (by simp only [Fld.wqCfg_partition, Reg.wqCfg, Reg.opstat]; omega)
    rw [this, hwq]
    exact State.issue_wqPart s slot hw
  rw [ew, er, State.settle_part, ← hq, ← hst]
  exact State.leave_closes t4 slot o1 h5' h1' hs

/-- An item that ends leaves its slot at once where no record of it is to be written. -/
theorem State.retire_op (s : State) (slot r : Nat) (add : Bool) (o : Op) (ho : s.op slot = some o)
    (h : o.isPost = false ∧ r = 0 ∨ 64 ≤ o.cqN) : (s.retire slot r add).op slot = none := by
  unfold State.retire
  rw [ho]
  extract_lets
  exact (State.settle_keepsOps _ slot).1 (State.report425_op _ _ _ _ h)

/-! ### Open layer instances, beside items that end -/

theorem State.leave_insts (s : State) (slot : Nat) (o : Op) : (s.leave slot o).health.insts = s.health.insts := by
  unfold State.leave
  extract_lets p t1 t2
  rw [(State.tableShow_ext (M₀ := 4) (by decide) (Ext.refl _ t2)).health rfl]
  show (State.health (if _ then _ else _)).insts = _
  split
  · split <;> rfl
  · rfl

theorem State.recordWritten_insts (s : State) (r : CplRec) : (s.recordWritten r).health.insts = s.health.insts := by
  unfold State.recordWritten
  split
  · split
    · exact State.leave_insts _ _ _
    · rfl
  · rfl

theorem State.post_insts (s : State) (n : Nat) (r : CplRec) : (s.post n r).health.insts = s.health.insts := by
  unfold State.post
  split
  · rw [State.recordWritten_insts]
    rw [(State.cqWrite_ext (M₀ := 324) (by decide) (Ext.refl _ s)).health rfl]
  · extract_lets c t
    have h : t.health = s.health := State.put_health _ _ _
    clear_value t
    split
    · rw [State.generic_health, h]
    · rw [h]

theorem State.report425_insts (s : State) (slot : Nat) (o : Op) (r : Nat) : (s.report425 slot o r).health.insts = s.health.insts := by
  unfold State.report425
  split
  · exact State.leave_insts _ _ _
  · split
    · exact State.post_insts _ _ _
    · split
      · exact State.leave_insts _ _ _
      · rw [State.leave_insts, State.genericNotice_health]

/-- An item that ends leaves the open layer instances as they are. -/
theorem State.retire_insts (s : State) (slot r : Nat) (add : Bool) : (s.retire slot r add).health.insts = s.health.insts := by
  unfold State.retire
  split
  · rfl
  · rename_i o ho
    extract_lets t1 t2 t3 t4
    have h1 : t1.health = s.health := (State.setStatus_ext (M₀ := 4) (by decide) (Ext.refl _ _)).health rfl
    clear_value t1
    have h2 : t2.health = t1.health := by
      show State.health (if _ then _ else _) = _
      split
      · exact (State.applyRetired_ext (M₀ := 262276) (by decide) (Ext.refl _ _)).health rfl
      · rfl
    clear_value t2
    have h3 : t3.health = t2.health := by
      show State.health (if _ then _ else _) = _
      split
      · exact (State.signal_ext (M₀ := 4) (by decide) (Ext.refl _ _)).health rfl
      · rfl
    clear_value t3
    have h4 : t4.health = t3.health := by
      show State.health (if _ then _ else _) = _
      split
      · rfl
      · exact (Ext.foldl (M := 4100) _ (fun _ _ hu => State.makeStale_ext (by decide) hu) (Ext.refl _ _)).health rfl
    clear_value t4
    rw [(State.settle_ext (M₀ := 4164) (by decide) (Ext.refl _ _)).health rfl, State.report425_insts,
      (State.endWork_ext (M₀ := 20484) (by decide) (Ext.refl _ _)).health rfl, h4, h3, h2, h1]

/-- Retirement leaves HBM, the layer instances, links, groups, snapshots, power, the keep area, fuses and pins alone. -/
theorem State.retire_ext' (s : State) (slot r : Nat) (add : Bool) : Ext 315846 s (s.retire slot r add) :=
  State.retire_ext (by decide) (Ext.refl _ s)

/-- An item of an open layer instance that ends is noted there, once, and keeps its slot. -/
theorem State.endInLayer_spec {s : State} {k r : Nat} {o : Op} {x : LadInst} (h : s.inst k = some x)
    (he : x.ended.contains o.admitNo = false) :
    (s.endInLayer k o r).inst k = some { x with ended := x.ended ++ [o.admitNo], bad := x.bad || r != 0 } ∧
    KeepsOps s (s.endInLayer k o r) ∧ (s.endInLayer k o r).mem = s.mem := by
  unfold State.endInLayer
  rw [h]
  simp only []
  rw [if_neg (by rw [he]; simp)]
  generalize hu : s.setInst k (some { x with ended := x.ended ++ [o.admitNo], bad := x.bad || r != 0 }) = u
  have hi : u.inst k = some { x with ended := x.ended ++ [o.admitNo], bad := x.bad || r != 0 } := hu ▸ State.setInst_inst _ _ _
  have hk : KeepsOps s u := KeepsOps.of_ctl (hu ▸ rfl)
  have hm : u.mem = s.mem := hu ▸ rfl
  split
  · have hs := State.signal_ext (s := u) (ctr := o.signalCtr) (inc := o.signalInc) (M₀ := 4) (by decide) (Ext.refl _ u)
    have hw := State.wake_ext (s := u.signal o.signalCtr o.signalInc) (M₀ := 4164) (by decide) (Ext.refl _ _)
    refine ⟨?_, (hk.trans (KeepsOps.of_ctl (hs.ctl rfl))).trans (State.wake_keepsOps _), ((hw.mem rfl).trans (hs.mem rfl)).trans hm⟩
    unfold State.inst at *
    rw [hw.health rfl, hs.health rfl]; exact hi
  · exact ⟨hi, hk, hm⟩

theorem State.readyFence_op {s : State} {slot kind : Nat} {o : Op} (h : s.readyFence slot kind = some o) : s.op slot = some o := by
  unfold State.readyFence at h
  split at h
  · split at h
    · cases h; assumption
    · cases h
  · cases h

theorem State.issuable_op {s : State} {slot opcode : Nat} {o : Op} (h : s.issuable slot opcode = some o) : s.op slot = some o := by
  unfold State.issuable at h
  split at h
  · split at h
    · cases h; assumption
    · cases h
  · cases h

end Sys2Proof.Machine
end

