-- ==== Sys2Proof/Laws/Kernel.lean ====
section
/-!
SUPPORT. Laws of the vector registers, and of one kernel instruction.
-/
namespace Sys2Proof.Machine

@[simp] theorem Vec.reg_setReg_self (v : Vec) (i : Nat) (x : List Word32) : (v.setReg i x).reg i = x := by
  simp [Vec.reg, Vec.setReg]

theorem Vec.reg_setReg_ne (v : Vec) {i j : Nat} (x : List Word32) (h : j ≠ i) : (v.setReg i x).reg j = v.reg j := by
  have e : ∀ l : List (Nat × List Word32), (l.filter (fun r => r.1 != i)).find? (fun r => r.1 == j) = l.find? (fun r => r.1 == j) := by
    intro l
    induction l with
    | nil => rfl
    | cons r l ih =>
      by_cases hr : r.1 = i
      · simp [List.filter_cons, hr, ih, List.find?_cons, Ne.symm h]
      · by_cases hj : r.1 = j <;> simp [List.filter_cons, hr, List.find?_cons, hj, ih, h]
  simp [Vec.reg, Vec.setReg, List.find?_cons, Ne.symm h, e]

theorem Vec.setReg_onlyReg (v : Vec) (i : Nat) (x : List Word32) : v.OnlyReg (v.setReg i x) i :=
  ⟨fun _ h => Vec.reg_setReg_ne v x h, rfl, rfl, rfl⟩

theorem Vec.setReg_takesBits (v : Vec) (i : Nat) (x : List Word32) : v.TakesBits (v.setReg i x) i x :=
  ⟨Vec.reg_setReg_self v i x, Vec.setReg_onlyReg v i x, rfl, rfl⟩

theorem Vec.place_takes (v : Vec) (env : KEnv) (d : Nat) (xs : List Val) : Vec.Takes env v (v.place env d xs) d xs := by
  refine ⟨?_, ⟨fun i h => ?_, rfl, rfl, rfl⟩, rfl, rfl⟩
  · exact (Vec.reg_setReg_self v d ((xs.map env.into).map (fun c => BitVec.ofNat 32 c.bits))).trans (List.map_map ..)
  · exact Vec.reg_setReg_ne v (i := d) ((xs.map env.into).map (fun c => BitVec.ofNat 32 c.bits)) h

/-- Values for every lane: as many as there are flags of activity. -/
theorem Vec.placeFrom_converts (v : Vec) (env : KEnv) (d : Nat) (xs : List Val) (hn : xs.length ≤ env.lanes) :
    Vec.Converts env v (v.placeFrom env d xs) d xs := by
  have hm : ((xs.map env.into).zip env.active).map (fun c => BitVec.ofNat 32 c.1.bits) =
      xs.map (fun x => BitVec.ofNat 32 (env.into x).bits) := by
    have h1 : ((xs.map env.into).zip env.active).map Prod.fst = xs.map env.into :=
      List.map_fst_zip (by simpa [KEnv.lanes] using hn)
    calc ((xs.map env.into).zip env.active).map (fun c => BitVec.ofNat 32 c.1.bits)
        = (((xs.map env.into).zip env.active).map Prod.fst).map (fun c => BitVec.ofNat 32 c.bits) := by rw [List.map_map]; rfl
      _ = xs.map (fun x => BitVec.ofNat 32 (env.into x).bits) := by rw [h1, List.map_map]; rfl
  refine ⟨?_, ⟨fun i h => ?_, rfl, rfl, rfl⟩, rfl, rfl⟩
  · exact (Vec.reg_setReg_self v d _).trans hm
  · exact Vec.reg_setReg_ne v (i := d) _ h

theorem laneFill_fills (env : KEnv) (x : Word32) (v : Vec) (w : KWord) : Vec.Fills env v (laneFill env x v w) w.d x := by
  unfold Vec.Fills laneFill
  split
  · exact Vec.setReg_takesBits _ _ _
  · exact Vec.placeFrom_converts _ _ _ _ (by simp)

/-- What keeps the next instruction of an engine from running does not stand at a turn. -/
theorem State.KernelTurn.runs {s : State} {e op : Nat} {t : Task} {k : KernRun} {w : KWord} (h : s.KernelTurn e op t k w) :
    ¬ (t.kind ≠ 0 ∨ w.op ≠ op ∨ s.serving = false ∨ (t.pos = 0 ∧ (s.stopOf (s.partOfCs (e / 16))).isSome) ∨ s.engRuns e t = false ∨
      k.admitNo ≠ t.admitNo) := by
  rintro (h1 | h1 | h1 | h1 | h1 | h1)
  · exact h1 h.share
  · exact h1 h.opcode
  · rw [h.serves] at h1; cases h1
  · rcases h.noStop with h2 | h2
    · exact h2 h1.1
    · rw [h2] at h1; exact absurd h1.2 (by simp)
  · rw [h.engine] at h1; cases h1
  · exact h1 h.same

/-- A kernel instruction that meets no poison does its vector function. -/
theorem State.kernStep_turn {s : State} {e op : Nat} {t : Task} {k : KernRun} {w : KWord} (f : KEnv → KWord → Vec → Vec)
    (h : s.KernelTurn e op t k w) (hp : s.RowsClean k t) :
    s.kernStep e op f = s.vectorStep e t k w (f (s.kernEnv k (s.filled k t)) w t.vector) := by
  have hq : ¬ (t.rowBuf.isNone = true ∧ s.rowPoison k t = true) := by
    rintro ⟨h1, h2⟩
    rw [hp (Option.isNone_iff_eq_none.1 h1)] at h2; cases h2
  unfold State.kernStep
  rw [h.task]; simp only []
  rw [h.run]; simp only []
  rw [h.word]; simp only []
  rw [if_neg h.runs, if_neg hq]
  rfl

/-- A kernel instruction whose rows meet poison as they enter the row buffer fails the operation. -/
theorem State.kernStep_poison {s : State} {e op : Nat} {t : Task} {k : KernRun} {w : KWord} (f : KEnv → KWord → Vec → Vec)
    (h : s.KernelTurn e op t k w) (hb : t.rowBuf = none) (hp : s.rowPoison k t = true) :
    s.kernStep e op f = s.failKernel t.slot Res.hwFault := by
  have hq : t.rowBuf.isNone = true ∧ s.rowPoison k t = true := ⟨Option.isNone_iff_eq_none.2 hb, hp⟩
  unfold State.kernStep
  rw [h.task]; simp only []
  rw [h.run]; simp only []
  rw [h.word]; simp only []
  rw [if_neg h.runs, if_pos hq]

end Sys2Proof.Machine
end

