-- ==== Sys2Proof/Laws/Links.lean ====
section
/-!
SUPPORT. Laws of the Adepin ports: what putting flits on the lanes, sending a packet and coming up do to a port.
-/
namespace Sys2Proof.Machine

@[simp] theorem State.put_port (s : State) (r : FieldRef) (v n : Nat) : (s.put r v).port n = s.port n := by
  unfold State.port; rw [State.put_links]

@[simp] theorem State.putB_port (s : State) (r : FieldRef) (v : Bool) (n : Nat) : (s.putB r v).port n = s.port n := by
  unfold State.port; rw [State.putB_links]

@[simp] theorem State.bump_port (s : State) (r : FieldRef) (v n : Nat) : (s.bump r v).port n = s.port n := by
  unfold State.port; rw [State.bump_links]

@[simp] theorem State.bumpSat_port (s : State) (r : FieldRef) (v n : Nat) : (s.bumpSat r v).port n = s.port n := by
  unfold State.port; rw [State.bumpSat_links]

@[simp] theorem State.event_port (s : State) (a : Nat) (b : Option Nat) (c : Bool) (d : Nat) (e : List Byte) (n : Nat) :
    (s.event a b c d e).port n = s.port n := by
  unfold State.port; rw [State.event_links]

@[simp] theorem State.setPort_out (s : State) (n : Nat) (x : PortState) : (s.setPort n x).links.out = s.links.out := (rfl)

theorem State.sendFlit_out (s : State) (n : Nat) (f : Flit) :
    (s.sendFlit n f).links.out = s.links.out ++ [(n, f.toBytes (s.ackOf n))] := (rfl)

theorem State.sendFlit_port (s : State) (n : Nat) (f : Flit) : (s.sendFlit n f).port n = { s.port n with unacked := 0 } :=
  State.setPort_port _ _ _

theorem State.sendFlit_port_ne (s : State) {n m : Nat} (f : Flit) (h : m ≠ n) : (s.sendFlit n f).port m = s.port m :=
  State.setPort_port_ne _ _ _ h

@[simp] theorem State.sendFlit_expSeq (s : State) (n m : Nat) (f : Flit) : ((s.sendFlit n f).port m).expSeq = (s.port m).expSeq := by
  by_cases h : m = n
  · subst h; rw [State.sendFlit_port]
  · rw [State.sendFlit_port_ne _ _ h]

@[simp] theorem State.sendFlit_ackOf (s : State) (n m : Nat) (f : Flit) : (s.sendFlit n f).ackOf m = s.ackOf m := by
  unfold State.ackOf; rw [State.sendFlit_expSeq]

/-- What putting a run of flits on a port's lanes does: they leave in order, each with the acknowledgement due. -/
theorem State.sendFlits_out {α : Type} (n : Nat) (g : α → Flit) (l : List α) (s : State) :
    (l.foldl (fun t j => t.sendFlit n (g j)) s).links.out = s.links.out ++ l.map (fun j => (n, (g j).toBytes (s.ackOf n))) := by
  induction l generalizing s with
  | nil => simp
  | cons a l ih => rw [List.foldl_cons, ih, State.sendFlit_out, State.sendFlit_ackOf]; simp

theorem State.sendFlits_port {α : Type} (n : Nat) (g : α → Flit) (l : List α) (h : l ≠ []) (s : State) :
    (l.foldl (fun t j => t.sendFlit n (g j)) s).port n = { s.port n with unacked := 0 } := by
  induction l generalizing s with
  | nil => exact absurd rfl h
  | cons a l ih =>
    rw [List.foldl_cons]
    by_cases hl : l = []
    · subst hl; exact State.sendFlit_port _ _ _
    · rw [ih hl, State.sendFlit_port]

theorem Packet.flits_pos (p : Packet) : 0 < p.flits := by
  unfold Packet.flits ceilDiv
  omega

theorem State.sendData_out (s : State) (n : Nat) (p : TxPacket) (q k : Nat) :
    (s.sendData n p q k).links.out = s.links.out ++ dataFlits n p q k (s.ackOf n) := State.sendFlits_out _ _ _ _

theorem State.sendData_port (s : State) (n : Nat) (p : TxPacket) (q k : Nat) (h : k < p.pkt.flits) :
    (s.sendData n p q k).port n = { s.port n with unacked := 0 } := by
  refine State.sendFlits_port n _ _ ?_ s
  intro he
  have := congrArg List.length he
  simp at this
  omega

@[simp] theorem State.sendData_regs (s : State) (n : Nat) (p : TxPacket) (q k : Nat) : (s.sendData n p q k).regs = s.regs :=
  (State.sendData_ext (M₀ := 65536) (by decide) (Ext.refl _ s)).regs rfl

theorem State.f_of_regs {s t : State} (h : t.regs = s.regs) (q : FieldRef) : t.f q = s.f q := by
  unfold State.f State.rd; rw [h]

@[simp] theorem State.sendFlit_f (s : State) (n : Nat) (f : Flit) (q : FieldRef) : (s.sendFlit n f).f q = s.f q := State.f_of_regs rfl q

@[simp] theorem State.sendData_f (s : State) (n : Nat) (p : TxPacket) (q k : Nat) (r : FieldRef) : (s.sendData n p q k).f r = s.f r :=
  State.f_of_regs (State.sendData_regs _ _ _ _ _) r

/-- Runs of flits change no port but the count of flits that wait for an acknowledgement. -/
theorem State.sendData_unacked (s : State) (n m : Nat) (p : TxPacket) (q k : Nat) :
    (s.sendData n p q k).port m = { s.port m with unacked := ((s.sendData n p q k).port m).unacked } := by
  unfold State.sendData
  generalize (List.range (p.pkt.flits - k)).map (· + k) = l
  induction l generalizing s with
  | nil => rfl
  | cons a l ih =>
    rw [List.foldl_cons, ih]
    by_cases h : m = n
    · subst h; rw [State.sendFlit_port]
    · rw [State.sendFlit_port_ne _ _ h]

@[simp] theorem State.sendData_ackOf (s : State) (n m : Nat) (p : TxPacket) (q k : Nat) : (s.sendData n p q k).ackOf m = s.ackOf m := by
  unfold State.ackOf; rw [State.sendData_unacked]

/-- What a replay does: every unacknowledged DATA flit leaves again in order, and no more than the wait for an acknowledgement
changes of a port. -/
theorem State.resend_out (s : State) (n : Nat) :
    (s.resend n).links.out = s.links.out ++ retryFlits n (s.ackOf n) (s.port n).retry := by
  unfold State.resend retryFlits
  generalize (s.port n).retry = l
  induction l generalizing s with
  | nil => simp
  | cons e l ih => rw [List.foldl_cons, ih, State.sendData_out, State.sendData_ackOf]; simp

theorem State.resend_port (s : State) (n m : Nat) :
    (s.resend n).port m = { s.port m with unacked := ((s.resend n).port m).unacked } := by
  unfold State.resend
  generalize (s.port n).retry = l
  induction l generalizing s with
  | nil => rfl
  | cons e l ih => rw [List.foldl_cons, ih, State.sendData_unacked]

theorem State.resend_f (s : State) (n : Nat) (q : FieldRef) : (s.resend n).f q = s.f q :=
  State.f_of_regs ((State.resend_ext (M₀ := 65536) (by decide) (Ext.refl _ s)).regs rfl) q

/-- A forwarded packet that leaves owes credits at most; nothing else of a port changes. -/
theorem State.leftVia_port (s : State) (p : TxPacket) (n : Nat) :
    (s.leftVia p).port n = { s.port n with owed := ((s.leftVia p).port n).owed } := by
  unfold State.leftVia
  split
  · rename_i m _
    unfold State.oweCredits
    by_cases h : n = m
    · subst h; simp only [State.setPort_port]
    · simp only [State.setPort_port_ne _ _ _ h]
  · rfl

@[simp] theorem State.leftVia_regs (s : State) (p : TxPacket) : (s.leftVia p).regs = s.regs :=
  (State.leftVia_ext (M₀ := 65536) (by decide) (Ext.refl _ s)).regs rfl

theorem State.leftVia_out (s : State) (p : TxPacket) : (s.leftVia p).links.out = s.links.out := by
  unfold State.leftVia
  split <;> rfl

theorem creditF_off (n vc : Nat) : (creditF n vc).off = Reg.lnkCredit n := by
  unfold creditF; split <;> rfl

/-- What a packet's start leaves of the port: the packet out of the queue and in the retry buffer, and the sequence numbers on. -/
theorem State.transmit_port (s : State) (n i : Nat) (p : TxPacket) :
    (s.transmit n i p).port n =
      { s.port n with queue := (s.port n).queue.eraseIdx i, retry := (s.port n).retry ++ [((s.port n).txSeq, p.pkt.flits, p)],
                      txSeq := ((s.port n).txSeq + p.pkt.flits) % 65536, unacked := 0,
                      owed := ((s.transmit n i p).port n).owed,
                      alternate := if p.vc = 2 then true else if p.vc = 3 then false else (s.port n).alternate } := by
  have h := p.pkt.flits_pos
  unfold State.transmit
  extract_lets x f t u
  have hu : u.port n = { t.port n with owed := (u.port n).owed } := by
    simp only [u]
    rw [State.leftVia_port, State.bump_port, State.put_port]
  have ht : t.port n = _ := State.setPort_port _ _ _
  clear_value u t
  split <;> rw [State.sendData_port _ _ _ _ _ h] <;> simp only [State.bump_port] <;> rw [hu, ht]

/-- Its DATA flits leave by the port, one after the other. -/
theorem State.transmit_out (s : State) (n i : Nat) (p : TxPacket) :
    (s.transmit n i p).links.out = s.links.out ++ dataFlits n p (s.port n).txSeq 0 (s.ackOf n) := by
  unfold State.transmit
  extract_lets x f t u
  have hu : u.port n = { t.port n with owed := (u.port n).owed } := by
    simp only [u]
    rw [State.leftVia_port, State.bump_port, State.put_port]
  have ht : t.port n = _ := State.setPort_port _ _ _
  have ho : u.links.out = s.links.out := by
    simp only [u]
    rw [State.leftVia_out, State.bump_links, State.put_links]
    rfl
  have ha : u.ackOf n = s.ackOf n := by
    unfold State.ackOf; rw [hu, ht]
  clear_value u t
  split
  · rw [State.sendData_out, State.bump_links, ho]
    have : (u.bump (Fld.lnkTransit_flits n) f).ackOf n = u.ackOf n := by unfold State.ackOf; rw [State.bump_port]
    rw [this, ha]
  · rw [State.sendData_out, ho, ha]

theorem State.transmit_f (s : State) {n i : Nat} {p : TxPacket} {q : FieldRef} (h : q.off ≠ Reg.lnkCredit n)
    (h2 : q.off ≠ (Fld.lnkFlitsTx_flits n).off) (h3 : q.off ≠ (Fld.lnkTransit_flits n).off) : (s.transmit n i p).f q = s.f q := by
  unfold State.transmit
  extract_lets x f t u
  have hu : u.f q = s.f q := by
    simp only [u]
    rw [State.f_of_regs (State.leftVia_regs _ _), State.f_bump_ne _ _ h2, State.f_put_ne _ _ (by rw [creditF_off]; exact h)]
    rfl
  clear_value u
  split
  · rw [State.sendData_f, State.f_bump_ne _ _ h3, hu]
  · rw [State.sendData_f, hu]

/-- Setting credits touches only the port's credit register. -/
theorem creditFold_f (n : Nat) (g : Nat → Nat) {q : FieldRef} (h : q.off ≠ Reg.lnkCredit n) (l : List Nat) (s : State) :
    (l.foldl (fun t vc => t.put (creditF n vc) (g vc)) s).f q = s.f q := by
  induction l generalizing s with
  | nil => rfl
  | cons a l ih => rw [List.foldl_cons, ih, State.f_put_ne _ _ (by rw [creditF_off]; exact h)]

theorem creditFold_ext (n : Nat) (g : Nat → Nat) (l : List Nat) (s : State) :
    Ext 4 s (l.foldl (fun t vc => t.put (creditF n vc) (g vc)) s) :=
  Ext.foldl _ (fun _ _ ht => State.put_ext (by decide) ht) (Ext.refl _ _)

theorem creditFold_port (n m : Nat) (g : Nat → Nat) (l : List Nat) (s : State) :
    (l.foldl (fun t vc => t.put (creditF n vc) (g vc)) s).port m = s.port m := by
  unfold State.port; rw [(creditFold_ext n g l s).links rfl]

/-- What a port that comes UP starts with (R241, R251). -/
theorem State.portComesUp_port (s : State) (n w : Nat) : (s.portComesUp n w).port n =
    { s.port n with expSeq := 0, nakSent := false, unacked := 0, txSeq := 0, retry := [], replayFrom := 0, replayFails := 0, owed := [],
                    part := [], partVc := 0, partFlits := 0, inUse := w, rewiden := false } := by
  unfold State.portComesUp
  simp only [State.putB_port, State.put_port, creditFold_port, State.setPort_port]

theorem State.portComesUp_out (s : State) (n w : Nat) : (s.portComesUp n w).links.out = s.links.out := by
  unfold State.portComesUp
  simp only [State.putB_links, State.put_links]
  rw [(creditFold_ext n _ _ _).links rfl]
  simp only [State.setPort_out]

end Sys2Proof.Machine
end

