-- ==== Sys2Proof/Laws/Memory.lean ====
section
/-!
SUPPORT. What poisoning a sector does, and the channels' pending retrainings.
-/
namespace Sys2Proof.Machine

@[simp] theorem State.setUeTimes_poison (s : State) (n : Nat) (l : List Nat) : (s.setUeTimes n l).poison = s.poison := rfl
@[simp] theorem State.setUeTimes_mem (s : State) (n : Nat) (l : List Nat) : (s.setUeTimes n l).mem = s.mem := rfl
@[simp] theorem State.setUeTimes_f (s : State) (n : Nat) (l : List Nat) (r : FieldRef) : (s.setUeTimes n l).f r = s.f r := rfl

theorem State.poisonSector_poison (s : State) (n k : Nat) :
    (s.poisonSector n k).poison = Sparse.put poisonD s.poison (n * chBytes / 32 + k) true := by
  unfold State.poisonSector
  extract_lets t t1 t2
  have e : t2.poison = t1.poison := State.setUeTimes_poison _ _ _
  clear_value t2
  rw [State.event_poison, e, State.put_poison, State.bumpSat_poison, State.markSector_poison]

theorem State.poisonSector_mem (s : State) (n k : Nat) : (s.poisonSector n k).mem = s.mem := by
  unfold State.poisonSector
  extract_lets t t1 t2
  have e : t2.mem = t1.mem := State.setUeTimes_mem _ _ _
  clear_value t2
  rw [State.event_mem, e, State.put_mem, State.bumpSat_mem, State.markSector_mem]

/-- The count of uncorrectable errors of the channel goes up by one, to its most. -/
theorem State.poisonSector_ue (s : State) (n k : Nat) (h : n < 512) :
    (s.poisonSector n k).f (Fld.hsmEcc_ue n) = min (s.f (Fld.hsmEcc_ue n) + 1) 65535 := by
  unfold State.poisonSector
  extract_lets t t1 t2
  have e : t2.f (Fld.hsmEcc_ue n) = t1.f (Fld.hsmEcc_ue n) := State.setUeTimes_f _ _ _ _
  clear_value t2
  have ho : (Fld.hsmEcc_ue n).off ≠ Reg.evrecLost := by simp only [Fld.hsmEcc_ue, Reg.hsmEcc, Reg.evrecLost]; omega
  rw [State.event_f _ _ _ _ _ _ ho, e, State.f_put_sep _ _ (by simp [Fld.hsmEcc_last_sector]) (by simp [Fld.hsmEcc_last_sector, Fld.hsmEcc_ue]),
    State.f_bumpSat_self _ _ (by simp [Fld.hsmEcc_ue]), State.markSector_f]
  rfl

theorem State.retrainWantedAt_of_hsm {s t : State} {n : Nat} (h : t.hsm.retrainWanted = s.hsm.retrainWanted) :
    t.retrainWantedAt n = s.retrainWantedAt n := by
  unfold State.retrainWantedAt
  rw [h]

end Sys2Proof.Machine
end

