-- ==== Sys2Proof/WellFormed.lean ====
section
/-!
DEFINITION. Which commands are well formed: the lengths and ranges that the operand types leave wider than the spec.
-/
namespace Sys2Proof

/-- A flit is 256 bytes (R237). -/
def flitOk (b : List Byte) : Bool := b.length == 256

/-- An IPv6 address is 16 bytes (R351). -/
def ip6Ok (b : List Byte) : Bool := b.length == 16

/-- Well-formedness of a command. -/
def Instr.wf : Instr → Bool
  | .dataFlit _ f _ => flitOk f
  | .idleFlit _ f _ => flitOk f
  | .linkFlit _ f _ => flitOk f
  | .telemetryWindow rails => rails.length == 14
  | .marginCheck dies => dies.length == 4
  | .temperatureRead dies temps => dies.length == 4 && temps.length == 16
  | .neighbourSolicitation _ fromIp target => ip6Ok fromIp && ip6Ok target
  | .awlRecompute _ l => decide (l.1 < 16384)
  | .tileStoreEcc _ _ _ owner _ l => decide (owner ≠ 2 ∨ l < 16384)
  | .stirrupWrite _ alongM m0 k0 => if alongM then decide (m0 % 64 = 0) else decide (k0 % 64 = 0)
  | .hbmTrainingDone channels arrays _ _ => decide (channels.Nodup ∧ arrays.Nodup)
  | .resume moved => decide moved.Nodup
  | _ => true

end Sys2Proof
end

