-- ==== Sys2Proof/Tests/Slice0.lean ====
section
/-!
SUPPORT. Small tests: what well-formedness refuses, single steps on small states, and a witness for the hypotheses of each
statement.
-/
namespace Sys2Proof.Tests
open Sys2Proof Sys2Proof.Machine
-- One theorem at a time: each elaboration thread reserves its stack, and there are hundreds of theorems.
set_option Elab.async false

/-! ### Well-formedness: one ill-formed command per check -/

theorem test_wf_dataFlit : (Instr.dataFlit 0 [] true).wf = false := by decide
theorem test_wf_idleFlit : (Instr.idleFlit 0 [] true).wf = false := by decide
theorem test_wf_linkFlit : (Instr.linkFlit 0 [] true).wf = false := by decide
theorem test_wf_telemetryWindow : (Instr.telemetryWindow []).wf = false := by decide
theorem test_wf_marginCheck : (Instr.marginCheck [(0, true)]).wf = false := by decide
theorem test_wf_temperatureRead_dies : (Instr.temperatureRead [] (List.replicate 16 0)).wf = false := by decide
theorem test_wf_temperatureRead_temps : (Instr.temperatureRead (List.replicate 4 (0, 0, 0)) []).wf = false := by decide
theorem test_wf_neighbour_from : (Instr.neighbourSolicitation 0 [] (List.replicate 16 0)).wf = false := by decide
theorem test_wf_neighbour_target : (Instr.neighbourSolicitation 0 (List.replicate 16 0) []).wf = false := by decide
theorem test_wf_awlRecompute : (Instr.awlRecompute 0 (16384, 0)).wf = false := by decide
theorem test_wf_tileStoreEcc : (Instr.tileStoreEcc 0 0 false 2 0 16384).wf = false := by decide
theorem test_wf_stirrup_m : (Instr.stirrupWrite 0 true 1 0).wf = false := by decide
theorem test_wf_stirrup_k : (Instr.stirrupWrite 0 false 0 1).wf = false := by decide
theorem test_wf_hbmTraining_channels : (Instr.hbmTrainingDone [0, 0] [] 0 false).wf = false := by decide
theorem test_wf_hbmTraining_arrays : (Instr.hbmTrainingDone [] [1, 1] 0 false).wf = false := by decide
theorem test_wf_resume : (Instr.resume [3, 3]).wf = false := by decide

/-! ### Small states, and what the witnesses below are built from -/

/-- A device out of reset with one partition that has started, the lead's lease held, and registers as listed. -/
def st (l : List (FieldRef × Nat)) : State :=
  { State.reset with
    pins := { State.reset.pins with inReset := false }
    hp := { State.reset.hp with up := true }
    boot := { State.reset.boot with partitions := 1, leadClaimed := true }
    ctl := { State.reset.ctl with parts := [(0, { partD 0 with started := true })] }
    regs := l.foldl (fun m e => Sparse.put (fun _ => 0#64 - 1#64) m e.1.off
      (BitVec.ofNat 64 (setBits (Sparse.get (fun _ => 0#64) m e.1.off).toNat e.1.lo e.1.width e.2))) [] }
theorem some_getD {α : Type} {o : Option α} {d : α} (h : o.isSome = true) : o = some (o.getD d) := by cases o <;> simp_all
theorem none_of {α : Type} {o : Option α} (h : o.isSome = false) : o = none := by cases o <;> simp_all
/-- The descriptors of a take that had all it needs. -/
def takenOf (k : Take) : List DescP := match k with | .ok a _ => a | _ => []
/-- The take had all it needs. -/
def takeHas (k : Take) : Bool := match k with | .ok _ _ => true | _ => false
theorem take_ok {k : Take} {g ss : List DescP} (h : takeHas k = true) (e : ss = g ++ takenOf k) : ∃ a n, k = .ok a n ∧ ss = g ++ a := by
  cases k <;> first | exact ⟨_, _, rfl, e⟩ | cases h
theorem take_at {k : Take} (h : takeHas k = true) : k = .ok (takenOf k) (match k with | .ok _ n => n | _ => 0) := by
  cases k <;> first | rfl | cases h
theorem take_one {k : Take} {w : DescP} (h : (takeHas k && decide (takenOf k = [w])) = true) : ∃ n, k = .ok [w] n := by
  cases k with
  | ok a n => exact ⟨n, by rw [show a = [w] from of_decide_eq_true (Bool.and_eq_true_iff.mp h).2]⟩
  | _ => cases h
theorem some_pair {α β : Type} {o : Option (α × β)} {d : α × β} (h : o.isSome = true) : o = some ((o.getD d).1, (o.getD d).2) := some_getD h
theorem pair_of {α β : Type} {p : α × β} {b : β} (h : p.2 = b) : p = (p.1, b) := by subst h; rfl
/-- The value of a result, or d. -/
def okOr {ε α : Type} (x : Except ε α) (d : α) : α := match x with | .ok v => v | .error _ => d
/-- A result is a value. -/
def isOk {ε α : Type} (x : Except ε α) : Bool := match x with | .ok _ => true | .error _ => false
/-- A result is the error e. -/
def isErr {ε α : Type} [DecidableEq ε] (x : Except ε α) (e : ε) : Bool := match x with | .ok _ => false | .error f => decide (f = e)
theorem ok_okOr {ε α : Type} {x : Except ε α} {d : α} (h : isOk x = true) : x = .ok (okOr x d) := by cases x <;> simp_all [isOk, okOr]
theorem error_of {ε α : Type} [DecidableEq ε] {x : Except ε α} {e : ε} (h : isErr x e = true) : x = .error e := by cases x <;> simp_all [isErr]
/-- A state with packet p received and waiting at port n. -/
def rxs (n : Nat) (p : Packet) : Links := ⟨[(n, { portD n with rx := [(0, p, 1)] })], []⟩
/-- Bytes that are zero but for the fields listed: offset, length, value. -/
def bytesOf (n : Nat) (l : List (Nat × Nat × Nat)) : List Byte :=
  (List.range n).map fun i => match l.find? (fun e => decide (e.1 ≤ i) && decide (i < e.1 + e.2.1)) with
    | some e => BitVec.ofNat 8 (e.2.2 / 256 ^ (i - e.1))
    | none => 0
/-- A good flit with this type byte. -/
def flit (b4 : Nat) : List Byte := bytesOf 252 [(4, 1, b4)] ++ toLE 4 (crc32c (bytesOf 252 [(4, 1, b4)]))
/-- An operation admitted first, of step 1, whose item has the fields listed. -/
def opw (l : List (Nat × Nat × Nat)) : Op :=
  ⟨0, 0, bytesOf 128 l, 1, 1, true, true, [], none, 0, none, 0, 0, none, false, false, false, [], [], [], []⟩
/-- One open layer instance with item 1. -/
def instw : LadInst := ⟨0, 0, 1, 0, 1, [1], [], [], 0, false, false, [], false⟩
/-- A descriptor of one element at an address. -/
def dsc (addr fmt : Nat) : List Byte := bytesOf 64 [(0, 8, addr), (0x35, 1, fmt), (0x36, 1, 1)]
/-- An open context with one descriptor fetched. -/
def ctxw (d : List Byte) : Ctx :=
  { ctxD 0 with ringBase := 0x2000000, ringLog2 := 4, state := 1, minSlots := 2, maxSlots := 4, tail := 1, fetched := [[(0, some d)]] }
/-- A descriptor of dims dimensions with one element. -/
def dsc2 (addr fmt skew : Nat) : List Byte := bytesOf 64 [(0, 8, addr), (0x35, 1, fmt), (0x36, 1, 2), (0x37, 1, skew)]
/-- The first pass of the first unit. -/
def pidw : PassId := ⟨0, 1, 0, 0⟩
/-- A product of one element. -/
def mmw : MmRun :=
  ⟨1, 1, 1, 1, 1, 1, 0, 0, 0, 0, false, false, false, false, Desc.parse (dsc 0x1000000 0), none, Desc.parse (dsc 0x1100000 0), none,
    Desc.parse (dsc 0x1200000 0), none, 2, 0, [], [], [0], [], 1, [], [], []⟩
/-- An array with that product's run. -/
def arrw : ArrState := { arrD 0 with runs := [⟨0, 1, [0], 0⟩] }
/-- A group of n members of partition 0 and job 5, this one the first. -/
def grpw (n : Nat) : Group :=
  ⟨bytesOf 160 [(2, 2, n), (4, 2, 5), (0xC, 4, 1)], none, none, 0, [], [], [], false, false, false, [], [], false, []⟩
/-- A bucket of a kind. -/
def bktw (kind : Nat) : RingBucket :=
  ⟨0, 1, 1, kind, 0x1000000, 32768, 0, 0x1100000, 0, 0, 0, true, false, false, 2, [], 0, 0, 0, false, true, 0, [], [], [], [], [], [],
    false, false, false, false, false, false, []⟩
/-- A ring packet with this header and no elements. -/
def rpk (h : RingHdr) : Packet :=
  ⟨5, 0x10, 0, 0, 1, 0, h.toBytes ++ (List.replicate 32 (bytesOf 8 [(0, 1, 0x7F)])).flatten⟩
/-- The row of the register at an offset. -/
def rowAt (off : Nat) : RegRow := (regAt off).getD ⟨"", 0, 0, 0, 0, .device, false, []⟩

/-! ### Worked examples: the expected values stand in spec/, or are published check values -/

/-- Example under R59: stochastic rounding of -3.7 / 2.25 to E4M3 with the draw 0x1F40. -/
theorem test_stochastic_e4m3 : (Fmt.e4m3.convert (.stoch 0x1F40) (.fin true 148 90)).bits = 0xBE := by decide +kernel
/-- The same element to nearest even. -/
theorem test_nearest_e4m3 : (Fmt.e4m3.convert .rne (.fin true 148 90)).bits = 0xBD := by decide +kernel
/-- R49: E4M3 code 0x7E is 448. -/
theorem test_e4m3_top : (Fmt.e4m3.decode 0x7E).eq (.ofInt 448) = true := by decide +kernel
/-- Example under R67: the three elements of an E2M1 block, already divided by the unit. -/
theorem test_e2m1_block : [(Fmt.e2m1.convert .rne (.fin false 21 4)).bits, (Fmt.e2m1.convert .rne (.fin false 3 4)).bits,
    (Fmt.e2m1.convert .rne (.fin true 11 40)).bits] = [0x7, 0x2, 0x9] := by decide +kernel
/-- Example after R209: one byte in both views. -/
theorem test_place_views : placeOf 0x004812345678 = some ⟨6, 5, 0x246678⟩ ∧ placeOf 0x026C048C5678 = some ⟨6, 5, 0x246678⟩ := by decide +kernel
/-- Example after R229: that byte once HS6.CH5 is mapped out. -/
theorem test_place_mapped : (st [(Fld.hsmStackStatus_mapout_phase 6, 3), (Fld.hsmStackStatus_mapped_ch 6, 5)]).redirect ⟨6, 5, 0x246678⟩ =
    ⟨6, 25, 0x8B812678⟩ := by decide +kernel
/-- The example of three addresses in 17_register_index.md. -/
theorem test_addresses : Reg.wqTail 37 = 0x1950 ∧ Reg.opstat 1000 = 0x9F40 ∧ Reg.hsmEcc (32 * 6 + 5) = 0x728A8 := by decide
/-- CRC-32C of 32 zero bytes, as RFC 3720 publishes it. -/
theorem test_crc32c : crc32c (List.replicate 32 0) = 0x8A9136AA := by decide +kernel
/-- Philox4x32-10 of the zero counter and key, as its authors publish it: word 0 is 6627E8D5, word 3 is 9B00DBD8. -/
theorem test_philox : philox 0 0 0 0 % 2 ^ 32 = 0x6627E8D5 ∧ philox 0 0 0 0 / 2 ^ 96 = 0x9B00DBD8 := by decide +kernel

/-! ### Witnesses: a state and operands that meet the hypotheses of each clause, clause by clause -/

theorem witness_TheStepRunsTheFrontOfTheQueue_0 : ∃ (s : State) (c : Instr) (cs : List Instr), s.pending = c :: cs :=
  ⟨{ (st []) with pending := [.vauxLoss] }, .vauxLoss, [], rfl⟩
theorem witness_TheStepRunsTheFrontOfTheQueue_1 : ∃ (s : State), s.pending = [] ∧ s.Live :=
  by
  refine ⟨(st []), ?_⟩
  and_intros <;> decide +kernel
theorem witness_TheStepRunsTheFrontOfTheQueue_2 : ∃ (s : State), s.pending = [] ∧ s.pins.inReset = true :=
  by
  refine ⟨State.reset, ?_⟩
  and_intros <;> decide +kernel

theorem witness_CommandsWaitOutReset_0 : ∃ (c : Instr) (s : State), s.pins.inReset = true ∧ (∀ a0, c ≠ .resetAssert a0) ∧ (∀ a0 a1 a2, c ≠ .resetRelease a0 a1 a2) ∧ (c ≠ .refclkStop) ∧ (∀ a0, c ≠ .sdrefLoss a0) ∧ (∀ a0, c ≠ .jtagInstruction a0) ∧ (∀ a0 a1, c ≠ .thermalTrip a0 a1) ∧ (c ≠ .holdWarnAssert) ∧ (c ≠ .holdWarnGlitch) ∧ (c ≠ .holdLossAssert) ∧ (c ≠ .vauxLoss) :=
  ⟨.patrolScrub 0 (0, none), State.reset, by decide +kernel, by simp, by simp, by simp, by simp, by simp, by simp, by simp, by simp, by simp, by simp⟩

theorem witness_EveryStepKeepsTheStoresCanonical_0 : ∃ (s : State) (t : State), s.Canon ∧ step s = .next t :=
  ⟨st [], _, ⟨by decide +kernel, by decide +kernel, (by decide +kernel)⟩, rfl⟩

theorem witness_WhatIsBlownOrLatchedStays_0 : ∃ (s : State) (t : State), step s = .next t :=
  ⟨{ st [] with pending := [.holdLossAssert] }, _, rfl⟩
theorem witness_WhatIsBlownOrLatchedStays_1 : ∃ (s : State) (t : State), step s = .next t ∧ s.power.tripWire = true ∧ s.pending.head? ≠ some .vauxLoss :=
  by
  refine ⟨{ st [] with pending := [.holdWarnGlitch], power.tripWire := true }, _, rfl, ?_⟩
  and_intros <;> decide +kernel
theorem witness_WhatIsBlownOrLatchedStays_2 : ∃ (s : State) (t : State), step s = .next t :=
  ⟨{ st [] with pending := [.holdLossAssert] }, _, rfl⟩

theorem witness_QueueDoorbells_0 : ∃ (s : State) (w : Writer) (n : Fin 64) (v : Word32), s.Live ∧ s.Accepts w (Reg.wqTail n) v.toNat ∧ (2 ^ 32 + v.toNat - s.rd (Reg.wqHead n)) % 2 ^ 32 ≤ 2 ^ s.f (Fld.wqCfg_size_log2 n) ∧ (2 ^ 32 + s.rd (Reg.wqTail n) - s.rd (Reg.wqHead n)) % 2 ^ 32 ≤ (2 ^ 32 + v.toNat - s.rd (Reg.wqHead n)) % 2 ^ 32 :=
  by
  refine ⟨(st []), .lead, 0, 0, ?_⟩
  and_intros <;> decide +kernel
theorem witness_QueueDoorbells_1 : ∃ (s : State) (w : Writer) (n : Fin 64) (v : Word32), s.Live ∧ s.Accepts w (Reg.wqTail n) v.toNat ∧ (2 ^ s.f (Fld.wqCfg_size_log2 n) < (2 ^ 32 + v.toNat - s.rd (Reg.wqHead n)) % 2 ^ 32 ∨ (2 ^ 32 + v.toNat - s.rd (Reg.wqHead n)) % 2 ^ 32 < (2 ^ 32 + s.rd (Reg.wqTail n) - s.rd (Reg.wqHead n)) % 2 ^ 32) :=
  ⟨(st [(Fld.wqCfg_size_log2 0, 0), (⟨Reg.wqHead 0, 0, 64⟩, 0), (⟨Reg.wqTail 0, 0, 64⟩, 0)]), .lead, 0, 2, by decide +kernel, by decide +kernel, Or.inl (by decide +kernel)⟩
theorem witness_QueueDoorbells_2 : ∃ (s : State) (w : Writer) (n : Fin 64) (v : Word32), s.Live ∧ s.Accepts w (Reg.cqHead n) v.toNat :=
  by
  refine ⟨(st []), .lead, 0, 0, ?_⟩
  and_intros <;> decide +kernel
theorem witness_QueueDoorbells_3 : ∃ (s : State) (w : Writer) (n : Fin 16384) (v : Word32), s.Live ∧ s.Accepts w (Reg.depctr n) v.toNat :=
  by
  refine ⟨(st []), .lead, 0, 0, ?_⟩
  and_intros <;> decide +kernel

theorem witness_QueueConfigurationWrites_0 : ∃ (s : State) (w : Writer) (n : Fin 64) (v : Word64), s.Live ∧ s.Accepts w (Reg.wqBase n) v.toNat :=
  by
  refine ⟨(st []), .lead, 0, 0, ?_⟩
  and_intros <;> decide +kernel
theorem witness_QueueConfigurationWrites_1 : ∃ (s : State) (w : Writer) (n : Fin 64) (v : Word32), s.Live ∧ s.Accepts w (Reg.wqCfg n) (v.toNat / 2 * 2 + 1) :=
  by
  refine ⟨(st []), .lead, 63, 0x60, ?_⟩
  and_intros <;> decide +kernel
theorem witness_QueueConfigurationWrites_2 : ∃ (s : State) (w : Writer) (n : Fin 64) (v : Word32), s.Live ∧ s.Accepts w (Reg.wqCfg n) (v.toNat / 2 * 2) :=
  by
  refine ⟨(st []), .lead, 63, 0x60, ?_⟩
  and_intros <;> decide +kernel
theorem witness_QueueConfigurationWrites_3 : ∃ (s : State) (w : Writer) (n : Fin 69) (v : Word64), s.Live ∧ s.Accepts w (cqCfgOff n) (setBits v.toNat 24 1 1) ∧ s.flag (cqEnabledF n) = false :=
  by
  refine ⟨(st [(Fld.nqCfg_enable 4, 0)]), .lead, 68, 0x60000, ?_⟩
  and_intros <;> decide +kernel
theorem witness_QueueConfigurationWrites_4 : ∃ (s : State) (w : Writer) (n : Fin 69) (v : Word64), s.Live ∧ s.Accepts w (cqCfgOff n) (setBits v.toNat 24 1 0) :=
  by
  refine ⟨(st []), .lead, 68, 0x60000, ?_⟩
  and_intros <;> decide +kernel
theorem witness_QueueConfigurationWrites_5 : ∃ (s : State) (w : Writer) (n : Fin 4) (v : Word64), s.Live ∧ s.Accepts w (Reg.rngSeed n) v.toNat :=
  by
  refine ⟨(st []), .lead, 0, 0, ?_⟩
  and_intros <;> decide +kernel
theorem witness_QueueConfigurationWrites_6 : ∃ (s : State) (w : Writer) (n : Fin 4) (v : Word64) (r : Replay), s.Live ∧ s.Accepts w (Reg.replay n) v.toNat ∧ s.inFlight.any (fun e => s.opPart e.2 == n.val) = false ∧ bits v.toNat 0 1 = 1 ∧ s.readRecord n (v.toNat / 256 * 256) (bits v.toNat 1 1 == 1) = .ok r :=
  ⟨{ (st [(Fld.hsmStackStatus_state 0, 0), (Fld.hsmStackStatus_mapout_phase 0, 0), (Fld.ladderCfg_entries 0, 0)]) with mem := [(131072, 1), (131324, 52), (131325, 251), (131326, 192), (131327, 115)] }, .lead, 0, 0x1000001, _, by decide +kernel, by decide +kernel, (by decide +kernel), by decide +kernel, ok_okOr (d := ⟨0, 0, 0, 0, false, [], [], [], [], []⟩) (by decide +kernel)⟩

theorem witness_AdmissionTakesTheNextItem_0 : ∃ (s : State) (p : Fin 4) (slot : Fin 4096) (n : Nat), s.Live ∧ s.serving = true ∧ (s.part p).started = true ∧ (s.part p).paused = false ∧ s.op slot = none ∧ s.nextList p = none ∧ (s.stallSlots p).nextQueue p = some n :=
  by refine ⟨(st ([(Fld.bootStatus_stage, 6), (Fld.thmSaveStatus_state, 0), (Fld.snapHeld_held, 0), (Fld.wqCfg_enable 0, 1), (Fld.wqCfg_min_slots 0, 1), (⟨Reg.wqHead 0, 0, 64⟩, 0), (⟨Reg.wqTail 0, 0, 64⟩, 1)] ++ (List.range 64).map (fun k => (Fld.wqCfg_partition k, 0)) ++ (List.range 64).map (fun k => (Fld.wqStat_in_flight k, 0)))), 0, 0, 0, ?_, ?_, ?_, ?_, ?_, rfl, ?_⟩ <;> decide +kernel
theorem witness_AdmissionTakesTheNextItem_1 : ∃ (s : State) (p : Fin 4) (slot : Fin 4096) (k : Nat) (a : Nat) (x : LadInst) (rest : List Nat), s.Live ∧ s.serving = true ∧ (s.part p).started = true ∧ (s.part p).paused = false ∧ s.op slot = none ∧ s.nextList p = some (k, x) ∧ x.toAdmit = a :: rest ∧ s.slotFor x.wq = true :=
  by
  refine ⟨{ (st ([(Fld.bootStatus_stage, 6), (Fld.thmSaveStatus_state, 0), (Fld.snapHeld_held, 0), (Fld.wqCfg_min_slots 0, 1)] ++ (List.range 64).map (fun k => (Fld.wqCfg_partition k, 0)) ++ (List.range 64).map (fun k => (Fld.wqStat_in_flight k, 0)))) with health.insts := [(1, some ({ instw with toAdmit := [5] } : LadInst))] }, 0, 0, 1, 5, ({ instw with toAdmit := [5] } : LadInst), [], ?_⟩
  and_intros <;> decide +kernel
theorem witness_AdmissionTakesTheNextItem_2 : ∃ (s : State) (_p : Nat) (_slot : Nat) (_wq : Nat) (_index : Nat) (addr : Nat), s.poisoned addr 128 = true :=
  ⟨{ (st [(Fld.hsmStackStatus_state 0, 0), (Fld.hsmStackStatus_mapout_phase 0, 0)]) with poison := [(4096, true)] }, 0, 0, 0, 0, 0x1000000, by decide +kernel⟩

theorem witness_AdmittedItemCarriesItsStep_0 : ∃ (s : State) (p : Nat) (_slot : Nat) (wq : Nat) (index : Nat) (addr : Nat), s.poisoned addr 128 = false ∧ (s.part p).replay = none ∧ ((s.openBook p (s.rd (Reg.stepN p))).mapBook p (s.rd (Reg.stepN p)) (fun b => { b with log := b.log ++ [logEntry wq index (s.bytes addr 128)] })).admissionCheck p (s.bytes addr 128) none = 0 :=
  by
  refine ⟨{ (st [(Fld.hsmStackStatus_state 0, 0), (Fld.hsmStackStatus_mapout_phase 0, 0), (Fld.ladderCfg_entries 0, 0), (⟨Reg.stepN 0, 0, 64⟩, 7)]) with mem := [(131072, 5), (131074, 1), (131080, 255), (131081, 255), (131082, 255), (131083, 255), (131092, 255), (131093, 255), (131096, 255)] }, 0, 0, 0, 0, 0x1000000, ?_⟩
  and_intros <;> decide +kernel
theorem witness_AdmittedItemCarriesItsStep_3 : ∃ (_s : State) (r : Restore) (_x : SnapImage), r.part < 4 ∧ r.source ≠ 3 :=
  by
  refine ⟨(st []), (⟨3, 0, 0, true, 0, 0, 0, 0, [], none, false⟩ : Restore), SnapImage.mk [] [] [], ?_⟩
  and_intros <;> decide +kernel
theorem witness_AdmittedItemCarriesItsStep_4 : ∃ (s : State) (r : Restore) (_x : SnapImage) (f : FarPart), r.part < 4 ∧ r.source = 3 ∧ s.snap.twin.far[r.part]? = some f :=
  by
  refine ⟨{ (st []) with snap.twin := { State.reset.snap.twin with far := [⟨0, 0, 5⟩] } }, ⟨0, 3, 0, false, 0, 0, 0, 0, [], none, false⟩, SnapImage.mk [] [] [], ⟨0, 0, 5⟩, ?_⟩
  and_intros <;> decide +kernel

theorem witness_ItemsRetireAndLeaveTheirSlots_0 : ∃ (s : State) (slot : Fin 4096) (o : Op) (r : Nat), s.Live ∧ s.serving = true ∧ s.op slot = some o ∧ o.done = some r ∧ o.layer = none ∧ s.opSettled slot = false :=
  by
  refine ⟨{ (st [(Fld.bootStatus_stage, 6), (Fld.thmSaveStatus_state, 0), (Fld.snapHeld_held, 0), (⟨Reg.opstat 0, 0, 64⟩, 3), (Fld.wqCfg_partition 0, 0)]) with ctl.ops := [(0, some ({ opw [] with done := some 0 } : Op))] }, 0, ({ opw [] with done := some 0 } : Op), 0, ?_⟩
  and_intros <;> decide +kernel
theorem witness_ItemsRetireAndLeaveTheirSlots_1 : ∃ (s : State) (slot : Fin 4096) (o : Op) (r : Nat) (k : Nat) (x : LadInst), s.Live ∧ s.serving = true ∧ s.op slot = some o ∧ o.done = some r ∧ o.layer = some k ∧ s.inst k = some x ∧ x.ended.contains o.admitNo = false ∧ s.opSettled slot = false :=
  by
  refine ⟨{ (st [(Fld.bootStatus_stage, 6), (Fld.thmSaveStatus_state, 0), (Fld.snapHeld_held, 0), (⟨Reg.opstat 0, 0, 64⟩, 3)]) with ctl.ops := [(0, some ({ opw [] with done := some 0, layer := some 1 } : Op))], health.insts := [(1, some instw)] }, 0, ({ opw [] with done := some 0, layer := some 1 } : Op), 0, 1, instw, ?_⟩
  and_intros <;> decide +kernel
theorem witness_ItemsRetireAndLeaveTheirSlots_2 : ∃ (s : State) (slot : Fin 4096) (o : Op), s.Live ∧ s.readyFence slot 0 = some o ∧ s.inFlight.any (fun e => e.2.wq == o.wq && decide (e.2.admitNo < o.admitNo)) = false :=
  by
  refine ⟨{ (st [(⟨Reg.opstat 0, 0, 64⟩, 2), (Fld.bootStatus_stage, 6), (Fld.thmSaveStatus_state, 0), (Fld.snapHeld_held, 0), (Fld.wqCfg_partition 0, 0)]) with ctl.ops := [(0, some (opw [(0, 1, 5), (0x20, 1, 0)]))] }, 0, (opw [(0, 1, 5), (0x20, 1, 0)]), ?_⟩
  and_intros <;> decide +kernel
theorem witness_ItemsRetireAndLeaveTheirSlots_3 : ∃ (s : State) (slot : Fin 4096) (o : Op), s.Live ∧ s.readyFence slot 2 = some o ∧ s.inFlight.any (fun e => s.opPart e.2 == s.opPart o && decide (e.2.admitNo < o.admitNo)) = false :=
  by
  refine ⟨{ (st [(⟨Reg.opstat 0, 0, 64⟩, 2), (Fld.bootStatus_stage, 6), (Fld.thmSaveStatus_state, 0), (Fld.snapHeld_held, 0), (Fld.wqCfg_partition 0, 0)]) with ctl.ops := [(0, some (opw [(0, 1, 5), (0x20, 1, 2)]))] }, 0, (opw [(0, 1, 5), (0x20, 1, 2)]), ?_⟩
  and_intros <;> decide +kernel
theorem witness_ItemsRetireAndLeaveTheirSlots_4 : ∃ (s : State) (slot : Fin 4096) (o : Op), s.Live ∧ s.readyFence slot 1 = some o ∧ s.inFlight.any (fun e => s.opPart e.2 == s.opPart o && ((e.2.phase == 1 && e.2.stamp == o.stamp && e.1 != slot.val) || (e.2.opcode == 5 && e.2.b 0x20 1 == 1 && decide (e.2.admitNo < o.admitNo)))) = false :=
  by
  refine ⟨{ (st [(⟨Reg.opstat 0, 0, 64⟩, 2), (Fld.bootStatus_stage, 6), (Fld.thmSaveStatus_state, 0), (Fld.snapHeld_held, 0), (Fld.wqCfg_partition 0, 0)]) with ctl.ops := [(0, some (opw [(0, 1, 5), (0x20, 1, 1)]))] }, 0, (opw [(0, 1, 5), (0x20, 1, 1)]), ?_⟩
  and_intros <;> decide +kernel
theorem witness_ItemsRetireAndLeaveTheirSlots_5 : ∃ (s : State) (slot : Fin 4096) (o : Op), s.op slot = some o ∧ (o.layer.bind s.inst).isSome = false ∧ o.isPost = false :=
  by
  refine ⟨{ (st []) with ctl.ops := [(0, some (opw []))] }, 0, (opw []), ?_⟩
  and_intros <;> decide +kernel
theorem witness_ItemsRetireAndLeaveTheirSlots_6 : ∃ (s : State) (r : CplRec) (o : Op), r.opcode ≠ 0 ∧ s.op r.slot = some o ∧ s.opSettled r.slot = true :=
  by
  refine ⟨{ (st [(⟨Reg.opstat 0, 0, 64⟩, 2 ^ 31 + 8)]) with ctl.ops := [(0, some (opw [(0, 1, 3)]))] }, ({ tag := 0, wq := 0, opcode := 3, result := 0, flags := 0, slot := 0, step := 0, tIssue := 0, tRetire := 0, detail := 0 } : CplRec), (opw [(0, 1, 3)]), ?_⟩
  and_intros <;> decide +kernel
theorem witness_ItemsRetireAndLeaveTheirSlots_7 : ∃ (s : State) (slot : Fin 4096) (o : Op), s.Live ∧ s.issuable slot 8 = some o :=
  by
  refine ⟨{ (st [(⟨Reg.opstat 0, 0, 64⟩, 2), (Fld.wqCfg_partition 0, 0), (Fld.bootStatus_stage, 6), (Fld.thmSaveStatus_state, 0), (Fld.snapHeld_held, 0)]) with ctl.ops := [(0, some (opw [(0, 1, 8)]))] }, 0, (opw [(0, 1, 8)]), ?_⟩
  and_intros <;> decide +kernel

theorem witness_AbortsAnswerByTheItemsState_0 : ∃ (s : State) (w : Writer) (wq : Fin 64) (cq : Fin 64) (tag : Word32), s.Live ∧ s.Accepts w Reg.abortReq (wq.val + 2 ^ 8 * cq.val + 2 ^ 32 * tag.toNat) ∧ (s.writerPasses w (s.wqPart wq) && s.writerPasses w (s.wqPart cq)) = true ∧ s.isHeld = false ∧ s.named wq tag.toNat = none :=
  by
  refine ⟨(st []), .lead, 0, 0, 0, ?_⟩
  and_intros <;> decide +kernel
theorem witness_AbortsAnswerByTheItemsState_1 : ∃ (s : State) (w : Writer) (wq : Fin 64) (cq : Fin 64) (tag : Word32) (slot : Nat) (o : Op), s.Live ∧ s.Accepts w Reg.abortReq (wq.val + 2 ^ 8 * cq.val + 2 ^ 32 * tag.toNat) ∧ (s.writerPasses w (s.wqPart wq) && s.writerPasses w (s.wqPart cq)) = true ∧ s.isHeld = false ∧ s.named wq tag.toNat = some (slot, o) ∧ s.opSettled slot = true :=
  by
  refine ⟨{ (st [(⟨Reg.opstat 0, 0, 64⟩, 2 ^ 31 + 5), (Fld.wqCfg_partition 0, 0)]) with ctl.ops := [(0, some (opw [(0, 1, 3)]))] }, .lead, 0, 0, 0, 0, (opw [(0, 1, 3)]), ?_⟩
  and_intros <;> decide +kernel
theorem witness_AbortsAnswerByTheItemsState_2 : ∃ (s : State) (w : Writer) (wq : Fin 64) (cq : Fin 64) (tag : Word32) (slot : Nat) (o : Op), s.Live ∧ s.Accepts w Reg.abortReq (wq.val + 2 ^ 8 * cq.val + 2 ^ 32 * tag.toNat) ∧ (s.writerPasses w (s.wqPart wq) && s.writerPasses w (s.wqPart cq)) = true ∧ s.isHeld = false ∧ s.named wq tag.toNat = some (slot, o) ∧ s.opSettled slot = false ∧ o.opcode = 5 ∧ o.b 0x20 1 = 1 :=
  by
  refine ⟨{ (st [(⟨Reg.opstat 0, 0, 64⟩, 2), (Fld.wqCfg_partition 0, 0)]) with ctl.ops := [(0, some (opw [(0, 1, 5), (0x20, 1, 1)]))] }, .lead, 0, 0, 0, 0, (opw [(0, 1, 5), (0x20, 1, 1)]), ?_⟩
  and_intros <;> decide +kernel
theorem witness_AbortsAnswerByTheItemsState_3 : ∃ (s : State) (w : Writer) (wq : Fin 64) (cq : Fin 64) (tag : Word32) (slot : Nat) (o : Op), s.Live ∧ s.Accepts w Reg.abortReq (wq.val + 2 ^ 8 * cq.val + 2 ^ 32 * tag.toNat) ∧ (s.writerPasses w (s.wqPart wq) && s.writerPasses w (s.wqPart cq)) = true ∧ s.isHeld = false ∧ s.named wq tag.toNat = some (slot, o) ∧ s.opSettled slot = false ∧ (¬ (o.opcode = 5 ∧ o.b 0x20 1 = 1)) :=
  by
  refine ⟨{ (st [(⟨Reg.opstat 0, 0, 64⟩, 2), (Fld.wqCfg_partition 0, 0)]) with ctl.ops := [(0, some (opw [(0, 1, 3)]))] }, .lead, 0, 0, 0, 0, (opw [(0, 1, 3)]), ?_⟩
  and_intros <;> decide +kernel
theorem witness_AbortsAnswerByTheItemsState_4 : ∃ (s : State) (slot : Fin 4096) (o : Op), s.Live ∧ s.op slot = some o ∧ s.opState slot = 4 ∧ s.serving = true ∧ s.atSafePoint slot o = true :=
  by
  refine ⟨{ (st [(Fld.bootStatus_stage, 6), (Fld.thmSaveStatus_state, 0), (Fld.snapHeld_held, 0), (⟨Reg.opstat 0, 0, 64⟩, 4), (Fld.wqCfg_partition 0, 0)]) with ctl.ops := [(0, some (opw [(0, 1, 3)]))] }, 0, (opw [(0, 1, 3)]), ?_⟩
  and_intros <;> decide +kernel

theorem witness_LadderInstancesRiseAndClose_0 : ∃ (s : State) (p : Fin 4) (i : Fin 1024) (k : Nat) (x : LadInst) (y : LadInst), s.Live ∧ s.serving = true ∧ s.oldestInst p i = some (k, y) ∧ s.inst k = some x ∧ x.trig = true ∧ s.instBad x = false ∧ s.instComplete x = true ∧ s.ladHasList x.part x.entry (x.rung + 1) = true :=
  by
  refine ⟨{ (st [(Fld.bootStatus_stage, 6), (Fld.thmSaveStatus_state, 0), (Fld.snapHeld_held, 0), (⟨Reg.ladderBase 0, 0, 64⟩, 0x1000000), (Fld.hsmStackStatus_state 0, 0), (Fld.hsmStackStatus_mapout_phase 0, 0)]) with health.insts := [(1, some ({ instw with trig := true } : LadInst))], mem := [(131080, 1), (131088, 1)] }, 0, 0, 1, ({ instw with trig := true } : LadInst), ({ instw with trig := true } : LadInst), ?_⟩
  and_intros <;> decide +kernel
theorem witness_LadderInstancesRiseAndClose_1 : ∃ (s : State) (p : Fin 4) (i : Fin 1024) (k : Nat) (x : LadInst), s.Live ∧ s.oldestInst p i = some (k, x) ∧ s.instComplete x = true ∧ (¬ (x.trig = true ∧ s.instBad x = false)) ∧ s.serving = true :=
  by
  refine ⟨{ (st [(Fld.bootStatus_stage, 6), (Fld.thmSaveStatus_state, 0), (Fld.snapHeld_held, 0), (⟨Reg.ladderBase 0, 0, 64⟩, 0x1000000), (Fld.hsmStackStatus_state 0, 0), (Fld.hsmStackStatus_mapout_phase 0, 0)]) with health.insts := [(1, some instw)] }, 0, 0, 1, instw, ?_⟩
  and_intros <;> decide +kernel
theorem witness_LadderInstancesRiseAndClose_2 : ∃ (s : State) (p : Fin 4) (i : Fin 1024) (_v : Byte), s.Live ∧ s.openInsts.any (fun e => e.2.part == p.val && e.2.entry == i.val) = false :=
  by
  refine ⟨{ (st []) with health.insts := [(1, some instw)] }, 3, 1023, 2, ?_⟩
  and_intros <;> decide +kernel
theorem witness_LadderInstancesRiseAndClose_3 : ∃ (s : State) (p : Fin 4) (i : Fin 1024) (_v : Byte), s.Live ∧ s.openInsts.any (fun e => e.2.part == p.val && e.2.entry == i.val) = true :=
  by
  refine ⟨{ (st []) with health.insts := [(1, some instw)] }, 0, 0, 0, ?_⟩
  and_intros <;> decide +kernel
theorem witness_LadderInstancesRiseAndClose_4 : ∃ (s : State) (p : Fin 4) (b : StepBook), s.Live ∧ s.health.books.find? (fun b => b.part == p.val && b.closed) = some b ∧ s.serving = true ∧ s.inFlight.any (fun e => s.opPart e.2 == p.val && e.2.opcode == 4 && e.2.stamp == b.step) = false :=
  by
  refine ⟨{ (st [(Fld.bootStatus_stage, 6), (Fld.thmSaveStatus_state, 0), (Fld.snapHeld_held, 0)]) with health.books := [⟨0, 1, [], 0, [], false, 0, false, false, false, [], true⟩] }, 0, ⟨0, 1, [], 0, [], false, 0, false, false, false, [], true⟩, ?_⟩
  and_intros <;> decide +kernel

theorem witness_ScrubAndTestFindings_0 : ∃ (s : State) (n : Fin 512), s.Live ∧ s.serving = true ∧ s.chServes n = true :=
  by
  refine ⟨(st [(Fld.bootStatus_stage, 6), (Fld.thmSaveStatus_state, 0), (Fld.snapHeld_held, 0), (Fld.hsmChStatus_state 0, 1)]), 0, ?_⟩
  and_intros <;> decide +kernel
theorem witness_ScrubAndTestFindings_1 : ∃ (s : State) (n : Fin 512), s.Live ∧ s.serving = true ∧ s.chServes n = true :=
  by
  refine ⟨(st [(Fld.bootStatus_stage, 6), (Fld.thmSaveStatus_state, 0), (Fld.snapHeld_held, 0), (Fld.hsmChStatus_state 0, 1)]), 0, ?_⟩
  and_intros <;> decide +kernel
theorem witness_ScrubAndTestFindings_2 : ∃ (s : State) (n : Fin 512), s.Live ∧ s.serving = true ∧ s.chServes n = true :=
  by
  refine ⟨(st [(Fld.bootStatus_stage, 6), (Fld.thmSaveStatus_state, 0), (Fld.snapHeld_held, 0), (Fld.hsmChStatus_state 0, 1)]), 0, ?_⟩
  and_intros <;> decide +kernel
theorem witness_ScrubAndTestFindings_3 : ∃ (s : State) (n : Fin 512) (_k : Fin 75497472), s.Live ∧ s.serving = true ∧ s.chServes n = true :=
  by
  refine ⟨(st [(Fld.bootStatus_stage, 6), (Fld.thmSaveStatus_state, 0), (Fld.snapHeld_held, 0), (Fld.hsmChStatus_state 0, 1)]), 0, 75497471, ?_⟩
  and_intros <;> decide +kernel
theorem witness_ScrubAndTestFindings_4 : ∃ (s : State) (n : Fin 512) (_errors : Word32), s.Live ∧ s.flag (Fld.hsmTest_go n) = true :=
  by
  refine ⟨(st [((Fld.hsmTest_go 0), 1)]), 0, 0, ?_⟩
  and_intros <;> decide +kernel
theorem witness_ScrubAndTestFindings_5 : ∃ (s : State) (w : Writer) (n : Fin 512) (v : Word64), s.Live ∧ s.Accepts w (Reg.hsmTest n) v.toNat ∧ s.writerDevice w = true ∧ bits v.toNat 2 1 = 0 :=
  by
  refine ⟨(st []), .lead, 0, 0, ?_⟩
  and_intros <;> decide +kernel
theorem witness_ScrubAndTestFindings_6 : ∃ (s : State) (n : Fin 512) (v : Word64), s.Live ∧ s.Accepts .lead (Reg.hsmTest n) v.toNat ∧ s.writerDevice .lead = true ∧ bits v.toNat 2 1 = 1 ∧ (s.f (Fld.hsmChStatus_state n) = 0 ∨ s.f (Fld.hsmChStatus_state n) = 5) :=
  by
  refine ⟨(st [(Fld.hsmChStatus_state 0, 5)]), 0, 4, ?_⟩
  and_intros <;> decide +kernel

theorem witness_RetrainingStartsAndEnds_0 : ∃ (s : State) (w : Writer) (v : Word32), s.Live ∧ s.Accepts w Reg.hsmRetrainReq v.toNat ∧ s.writerDevice w = true ∧ bits v.toNat 31 1 = 1 :=
  by
  refine ⟨(st []), .lead, 2147483648, ?_⟩
  and_intros <;> decide +kernel
theorem witness_RetrainingStartsAndEnds_1 : ∃ (s : State) (n : Fin 512) (_k : Nat), s.Live ∧ s.chServes n = true ∧ s.tempMoved n = true :=
  by
  refine ⟨(st [(Fld.hsmChStatus_state 511, 4), (Fld.hsmCfg_retrain_delta, 10), (Fld.hsmStackStatus_temp 15, 10)]), 511, 0, ?_⟩
  and_intros <;> decide +kernel
theorem witness_RetrainingStartsAndEnds_2 : ∃ (s : State) (n : Fin 512) (k : Nat), s.Live ∧ s.chServes n = true ∧ 64 ≤ k :=
  by
  refine ⟨(st [(Fld.hsmChStatus_state 0, 1)]), 0, 64, ?_⟩
  and_intros <;> decide +kernel
theorem witness_RetrainingStartsAndEnds_3 : ∃ (s : State) (n : Fin 512), s.Live ∧ s.serving = true ∧ s.retrainWantedAt n = true ∧ s.chServes n = true ∧ s.anyStop = false ∧ (∀ c < 32, s.f (Fld.hsmChStatus_state (32 * (n / 32) + c)) ≠ 2) :=
  by
  refine ⟨{ (st [(Fld.bootStatus_stage, 6), (Fld.thmSaveStatus_state, 0), (Fld.snapHeld_held, 0), (Fld.hsmChStatus_state 0, 1), (Fld.hsmChStatus_state 1, 1), (Fld.hsmChStatus_state 2, 1), (Fld.hsmChStatus_state 3, 1), (Fld.hsmChStatus_state 4, 1), (Fld.hsmChStatus_state 5, 1), (Fld.hsmChStatus_state 6, 1), (Fld.hsmChStatus_state 7, 1), (Fld.hsmChStatus_state 8, 1), (Fld.hsmChStatus_state 9, 1), (Fld.hsmChStatus_state 10, 1), (Fld.hsmChStatus_state 11, 1), (Fld.hsmChStatus_state 12, 1), (Fld.hsmChStatus_state 13, 1), (Fld.hsmChStatus_state 14, 1), (Fld.hsmChStatus_state 15, 1), (Fld.hsmChStatus_state 16, 1), (Fld.hsmChStatus_state 17, 1), (Fld.hsmChStatus_state 18, 1), (Fld.hsmChStatus_state 19, 1), (Fld.hsmChStatus_state 20, 1), (Fld.hsmChStatus_state 21, 1), (Fld.hsmChStatus_state 22, 1), (Fld.hsmChStatus_state 23, 1), (Fld.hsmChStatus_state 24, 1), (Fld.hsmChStatus_state 25, 1), (Fld.hsmChStatus_state 26, 1), (Fld.hsmChStatus_state 27, 1), (Fld.hsmChStatus_state 28, 1), (Fld.hsmChStatus_state 29, 1), (Fld.hsmChStatus_state 30, 1), (Fld.hsmChStatus_state 31, 1)]) with hsm.retrainWanted := [(0, true)] }, 0, ?_⟩
  and_intros <;> decide +kernel
theorem witness_RetrainingStartsAndEnds_4 : ∃ (s : State) (n : Fin 512), s.Live ∧ s.f (Fld.hsmChStatus_state n) = 2 :=
  by
  refine ⟨(st [((Fld.hsmChStatus_state 0), 2)]), 0, ?_⟩
  and_intros <;> decide +kernel
theorem witness_RetrainingStartsAndEnds_5 : ∃ (s : State) (n : Fin 512), s.Live ∧ s.f (Fld.hsmChStatus_state n) = 2 ∧ s.f (Fld.hsmChStatus_retrain_fails n) < 2 :=
  by
  refine ⟨(st [((Fld.hsmChStatus_state 0), 2)]), 0, ?_⟩
  and_intros <;> decide +kernel
theorem witness_RetrainingStartsAndEnds_6 : ∃ (s : State) (n : Fin 512), s.Live ∧ s.f (Fld.hsmChStatus_state n) = 2 ∧ s.f (Fld.hsmChStatus_retrain_fails n) = 2 :=
  by
  refine ⟨(st [((Fld.hsmChStatus_state 0), 2), ((Fld.hsmChStatus_retrain_fails 0), 2)]), 0, ?_⟩
  and_intros <;> decide +kernel

theorem witness_MapOutsRunInPhases_0 : ∃ (s : State) (h : Nat) (c : Nat), h < 16 ∧ c < 32 ∧ s.f (Fld.hsmStackStatus_state h) ≠ 3 ∧ s.flag (Fld.hsmStackStatus_mapped_valid h) = false :=
  by
  refine ⟨(st []), 0, 0, ?_⟩
  and_intros <;> decide +kernel
theorem witness_MapOutsRunInPhases_1 : ∃ (s : State) (n : Fin 512), s.Live ∧ s.f Fld.hsmCfg_ue_limit ≠ 0 ∧ s.f Fld.hsmCfg_ue_limit < s.ueCount n :=
  by
  refine ⟨{ (st [(Fld.hsmCfg_ue_limit, 1)]) with hsm.ueTimes := [(0, [0, 0])] }, 0, ?_⟩
  and_intros <;> decide +kernel
theorem witness_MapOutsRunInPhases_2 : ∃ (s : State) (w : Writer) (v : Word32), s.Live ∧ s.Accepts w Reg.hsmMapoutReq v.toNat ∧ s.writerDevice w = true ∧ bits v.toNat 31 1 = 1 :=
  by
  refine ⟨(st []), .lead, 2147483648, ?_⟩
  and_intros <;> decide +kernel
theorem witness_MapOutsRunInPhases_3 : ∃ (s : State) (w : Writer) (v : Word32), s.Live ∧ s.Accepts w Reg.hsmMapoutAck v.toNat ∧ s.writerDevice w = true ∧ bits v.toNat 31 1 = 1 ∧ s.f (Fld.hsmStackStatus_mapout_phase (bits v.toNat 0 4)) = 1 :=
  by
  refine ⟨(st [((Fld.hsmStackStatus_mapout_phase (bits 2147483648 0 4)), 1), (Fld.hsmStackStatus_mapout_phase 0, 1)]), .lead, 2147483648, ?_⟩
  and_intros <;> decide +kernel
theorem witness_MapOutsRunInPhases_4 : ∃ (s : State) (h : Fin 16), s.Live ∧ s.f (Fld.hsmStackStatus_mapout_phase h) = 2 ∧ s.f (Fld.hsmStackStatus_state h) ≠ 3 ∧ s.f Fld.thmSaveStatus_state = 0 :=
  by
  refine ⟨(st [((Fld.hsmStackStatus_mapout_phase 0), 2), (Fld.thmSaveStatus_state, 0)]), 0, ?_⟩
  and_intros <;> decide +kernel

theorem witness_StreamsOpenAndClose_0 : ∃ (s : State) (w : Writer) (v : Word64), s.Live ∧ s.mayWriteS w = true ∧ bits v.toNat 63 1 = 1 ∧ s.openResult w v.toNat = 0 :=
  by
  refine ⟨(st [(⟨Reg.strmOpenRing, 0, 64⟩, 0x1000000), (Fld.hsmStackStatus_state 0, 0), (Fld.hsmStackStatus_mapout_phase 0, 0), (Fld.strmSplit_fw_slots_kib, 0)]), .lead, 2 ^ 63 + 4 * 2 ^ 16 + 2 * 2 ^ 24 + 2 * 2 ^ 39, ?_⟩
  and_intros <;> decide +kernel
theorem witness_StreamsOpenAndClose_1 : ∃ (s : State) (w : Writer) (v : Word64), s.Live ∧ s.mayWriteS w = true ∧ bits v.toNat 63 1 = 1 ∧ s.openResult w v.toNat ≠ 0 :=
  by
  refine ⟨(st []), .lead, 2 ^ 63, ?_⟩
  and_intros <;> decide +kernel
theorem witness_StreamsOpenAndClose_2 : ∃ (s : State) (w : Writer) (v : Word32), s.Live ∧ s.mayWriteS w = true ∧ bits v.toNat 31 1 = 1 ∧ s.closeResult w v.toNat = 0 ∧ (s.ctx (bits v.toNat 0 16)).state ≠ 0 :=
  by
  refine ⟨{ (st []) with strm.ctxs := [(0, ctxw [])] }, .lead, 2 ^ 31, ?_⟩
  and_intros <;> decide +kernel
theorem witness_StreamsOpenAndClose_3 : ∃ (s : State) (w : Writer) (v : Word64) (c : Ctx), s.Live ∧ s.Accepts w Reg.strmRingTail v.toNat ∧ s.ctx (bits v.toNat 0 16) = c ∧ c.state ≠ 0 ∧ s.writerPasses w c.partition = true ∧ (2 ^ 32 + bits v.toNat 32 32 - c.head) % 2 ^ 32 ≤ 2 ^ c.ringLog2 ∧ (2 ^ 32 + c.tail - c.head) % 2 ^ 32 ≤ (2 ^ 32 + bits v.toNat 32 32 - c.head) % 2 ^ 32 :=
  by
  refine ⟨{ (st []) with strm.ctxs := [(0, ctxw [])] }, .lead, 2 ^ 36, ctxw [], ?_⟩
  and_intros <;> decide +kernel
theorem witness_StreamsOpenAndClose_4 : ∃ (s : State) (w : Writer) (v : Word64) (c : Ctx), s.Live ∧ s.Accepts w Reg.strmResync v.toNat ∧ s.ctx (bits v.toNat 0 16) = c ∧ c.state = 2 ∧ s.writerPasses w c.partition = true ∧ (2 ^ 32 + c.tail - bits v.toNat 32 32) % 2 ^ 32 ≤ 2 ^ c.ringLog2 :=
  by
  refine ⟨{ (st []) with strm.ctxs := [(0, ({ ctxw [] with state := 2 } : Ctx))] }, .lead, 0, ({ ctxw [] with state := 2 } : Ctx), ?_⟩
  and_intros <;> decide +kernel
theorem witness_StreamsOpenAndClose_5 : ∃ (s : State) (w : Writer) (v : Word64) (c : Ctx), s.Live ∧ s.Accepts w Reg.strmResync v.toNat ∧ s.ctx (bits v.toNat 0 16) = c ∧ c.state ≠ 2 :=
  by
  refine ⟨(st []), .lead, 0xFFFF, ctxD 0, ?_⟩
  and_intros <;> decide +kernel

theorem witness_StreamsFetchAndWait_0 : ∃ (s : State) (i : Fin 65536) (slot : Nat) (o : Op) (c : Ctx) (n : Nat) (burst : List (Nat × Option (List Byte))), s.Live ∧ slot < 4096 ∧ s.ctx i = c ∧ s.ctxTurn i = some (slot, o) ∧ c.state = 1 ∧ s.serving = true ∧ s.opSettled slot = false ∧ s.slotCan i 1 = true ∧ n = min ((2 ^ 32 + c.tail - (c.head + c.fetched.flatten.length) % 2 ^ 32) % 2 ^ 32) (16 - (c.head + c.fetched.flatten.length) % 2 ^ 32 % 16) ∧ 0 < n ∧ (burst = (List.range n).map (fun k => ((((c.head + c.fetched.flatten.length) % 2 ^ 32 + k) % 2 ^ 32), if s.poisoned (c.ringAddr (((c.head + c.fetched.flatten.length) % 2 ^ 32 + k) % 2 ^ 32)) 64 then none else some (s.bytes (c.ringAddr (((c.head + c.fetched.flatten.length) % 2 ^ 32 + k) % 2 ^ 32)) 64)))) :=
  by refine ⟨{ (st [(Fld.bootStatus_stage, 6), (Fld.thmSaveStatus_state, 0), (Fld.snapHeld_held, 0), (⟨Reg.opstat 0, 0, 64⟩, 3), (Fld.hsmStackStatus_state 0, 0), (Fld.hsmStackStatus_mapout_phase 0, 0), (Fld.wqCfg_partition 0, 0)]) with ctl.ops := [(0, some (opw [(0, 1, 3), (0x24, 4, 1)]))], strm.ctxs := [(0, ({ ctxD 0 with ringBase := 0x1000000, ringLog2 := 4, state := 1, minSlots := 2, maxSlots := 4, tail := 1, queue := [1] } : Ctx))], mem := [(131075, 1), (131126, 1)] }, 0, 0, (opw [(0, 1, 3), (0x24, 4, 1)]), ({ ctxD 0 with ringBase := 0x1000000, ringLog2 := 4, state := 1, minSlots := 2, maxSlots := 4, tail := 1, queue := [1] } : Ctx), 1, _, ?_, ?_, ?_, ?_, ?_, ?_, ?_, ?_, rfl, ?_, rfl⟩ <;> decide +kernel
theorem witness_StreamsFetchAndWait_1 : ∃ (s : State) (i : Fin 65536) (slot : Nat) (o : Op) (c : Ctx), s.Live ∧ s.ctx i = c ∧ s.ctxTurn i = some (slot, o) ∧ c.state = 1 ∧ s.serving = true ∧ s.opSettled slot = false ∧ c.tail ≠ (c.head + c.fetched.flatten.length) % 2 ^ 32 ∧ c.tail < 2 ^ 32 ∧ s.slotCan i 1 = false :=
  by
  refine ⟨{ (st [(Fld.bootStatus_stage, 6), (Fld.thmSaveStatus_state, 0), (Fld.snapHeld_held, 0), (⟨Reg.opstat 0, 0, 64⟩, 3), (Fld.hsmStackStatus_state 0, 0), (Fld.hsmStackStatus_mapout_phase 0, 0), (Fld.wqCfg_partition 0, 0)]) with ctl.ops := [(0, some (opw [(0, 1, 3), (0x24, 4, 1)]))], strm.ctxs := [(0, ({ ctxD 0 with ringBase := 0x1000000, ringLog2 := 4, state := 1, minSlots := 1, maxSlots := 1, tail := 1, queue := [1] } : Ctx))] }, 0, 0, (opw [(0, 1, 3), (0x24, 4, 1)]), ({ ctxD 0 with ringBase := 0x1000000, ringLog2 := 4, state := 1, minSlots := 1, maxSlots := 1, tail := 1, queue := [1] } : Ctx), ?_⟩
  and_intros <;> decide +kernel
theorem witness_StreamsFetchAndWait_2 : ∃ (s : State) (i : Fin 65536) (c : Ctx) (_kind : Fin 3), s.Live ∧ s.ctx i = c ∧ s.ctxNamed i = true ∧ c.state = 1 ∧ s.spaceFor i = true ∧ s.slotCan i 0 = true ∧ s.outTile i = none :=
  by
  refine ⟨{ (st []) with ctl.ops := [(0, some (opw [(0, 1, 3), (0x24, 4, 1)]))], strm.ctxs := [(0, ({ ctxD 0 with ringBase := 0x1000000, ringLog2 := 4, state := 1, minSlots := 2, maxSlots := 4, tail := 1, queue := [1] } : Ctx))] }, 0, ({ ctxD 0 with ringBase := 0x1000000, ringLog2 := 4, state := 1, minSlots := 2, maxSlots := 4, tail := 1, queue := [1] } : Ctx), 3, ?_⟩
  and_intros <;> decide +kernel
theorem witness_StreamsFetchAndWait_3 : ∃ (s : State) (i : Fin 65536) (c : Ctx) (_kind : Fin 3) (a : Nat) (o : OutTile), s.Live ∧ s.ctx i = c ∧ s.ctxNamed i = true ∧ c.state = 1 ∧ s.spaceFor i = true ∧ s.slotCan i 0 = true ∧ s.outTile i = some (a, o) ∧ s.serving = true ∧ s.quiet c.partition = false :=
  by
  refine ⟨{ (st [(Fld.bootStatus_stage, 6), (Fld.thmSaveStatus_state, 0), (Fld.snapHeld_held, 0)]) with ctl.ops := [(0, some (opw [(0, 1, 3), (0x24, 4, 1)]))], strm.ctxs := [(0, ({ ctxD 0 with ringBase := 0x1000000, ringLog2 := 4, state := 1, minSlots := 2, maxSlots := 4, tail := 1, queue := [1] } : Ctx))], comp.arrays := [(0, { arrD 0 with outBuf := [({ id := pidw, tile := 0, ctx := 0, bytes := 0, elems := 0, writes := [] } : OutTile)] })] }, 0, ({ ctxD 0 with ringBase := 0x1000000, ringLog2 := 4, state := 1, minSlots := 2, maxSlots := 4, tail := 1, queue := [1] } : Ctx), 2, 0, ({ id := pidw, tile := 0, ctx := 0, bytes := 0, elems := 0, writes := [] } : OutTile), ?_⟩
  and_intros <;> decide +kernel
theorem witness_StreamsFetchAndWait_4 : ∃ (s : State) (i : Fin 65536) (_kind : Fin 3), s.Live ∧ s.ctxNamed i = true ∧ (s.ctx i).state = 1 :=
  by
  refine ⟨{ (st []) with ctl.ops := [(0, some (opw [(0, 1, 3), (0x24, 4, 1)]))], strm.ctxs := [(0, ({ ctxD 0 with ringBase := 0x1000000, ringLog2 := 4, state := 1, minSlots := 2, maxSlots := 4, tail := 1, queue := [1] } : Ctx))] }, 0, 3, ?_⟩
  and_intros <;> decide +kernel
theorem witness_StreamsFetchAndWait_5 : ∃ (s : State) (i : Fin 65536) (c : Ctx), s.Live ∧ s.ctx i = c ∧ c.waitSince ≠ 0 ∧ c.waitTold = false ∧ s.flag Fld.strmWdogCfg_enable = true ∧ s.f Fld.strmWdogCfg_limit_us * 475 < s.waited c :=
  by
  refine ⟨{ (st [(Fld.strmWdogCfg_enable, 1), (Fld.strmWdogCfg_limit_us, 0), (Fld.snapHeld_held, 0)]) with strm.ctxs := [(0, ({ ctxw [] with waitSince := 1 } : Ctx))], now := 2 }, 0, ({ ctxw [] with waitSince := 1 } : Ctx), ?_⟩
  and_intros <;> decide +kernel
theorem witness_StreamsFetchAndWait_6 : ∃ (s : State) (a : Fin 4) (c : PfClaim) (o : Op) (d : Desc) (i : PassId), s.Live ∧ s.serving = true ∧ (s.arr a).due = [] ∧ s.claim a = some c ∧ s.op c.slot = some o ∧ o.admitNo = c.admitNo ∧ (o.met1 = true ∨ o.wait1 = 0xFFFF) ∧ s.peekStat o = some d ∧ (((s.pfRun o d).passesOn a c.slot).take c.tiles).find? (fun i => (s.arr a).pf.all (fun g => g.id != i)) = some i ∧ s.tileWaits (s.pfRun o d) i = false ∧ (s.fetchTile (s.pfRun o d) i).any (fun e => e.2 == .poison || e.2 == .bad) = false :=
  by refine ⟨{ (st [(Fld.bootStatus_stage, 6), (Fld.thmSaveStatus_state, 0), (Fld.snapHeld_held, 0), (Fld.aryStatus_in_service 0, 1), (Fld.aryStatus_in_service 1, 1), (Fld.aryStatus_in_service 2, 1), (Fld.aryStatus_in_service 3, 1), (Fld.aryStatus_state 0, 1), (Fld.aryStatus_state 1, 1), (Fld.aryStatus_state 2, 1), (Fld.aryStatus_state 3, 1), (⟨Reg.numpol 0, 0, 64⟩, 0), (Fld.wqCfg_partition 0, 0), (Fld.hsmStackStatus_state 0, 0), (Fld.hsmStackStatus_mapout_phase 0, 0)]) with ctl.ops := [(0, some (opw [(0, 1, 1), (0x20, 4, 0), (0x24, 4, 1), (0x28, 4, 2), (0x2C, 4, 1), (0x30, 2, 1), (0x32, 2, 1), (0x35, 1, 0x11)]))], strm := ⟨[(0, ctxw (dsc2 0x1000000 1 0))], [(0, some ⟨0, 1, 1⟩)], []⟩ }, 0, ⟨0, 1, 1⟩, (opw [(0, 1, 1), (0x20, 4, 0), (0x24, 4, 1), (0x28, 4, 2), (0x2C, 4, 1), (0x30, 2, 1), (0x32, 2, 1), (0x35, 1, 0x11)]), Desc.parse (dsc2 0x1000000 1 0), pidw, ?_, ?_, ?_, ?_, ?_, ?_, Or.inl rfl, ?_⟩ <;> and_intros <;> decide +kernel
theorem witness_StreamsFetchAndWait_7 : ∃ (s : State) (a : Fin 4) (m : MmRun) (o : Op) (i : PassId) (l : List PassId), s.Live ∧ s.serving = true ∧ (s.arr a).due = i :: l ∧ s.mm i.slot = some m ∧ s.op i.slot = some o ∧ s.tileWaits m i = false ∧ (s.fetchTile m i).any (fun e => e.2 == .poison || e.2 == .bad) = false :=
  by
  refine ⟨{ (st [(Fld.bootStatus_stage, 6), (Fld.thmSaveStatus_state, 0), (Fld.snapHeld_held, 0), (Fld.hsmStackStatus_state 0, 0), (Fld.hsmStackStatus_mapout_phase 0, 0)]) with ctl.ops := [(0, some (opw [(0, 1, 1)]))], comp.arrays := [(0, { arrD 0 with due := [pidw] })], comp.mm := [(0, some mmw)] }, 0, mmw, (opw [(0, 1, 1)]), pidw, [], ?_⟩
  and_intros <;> decide +kernel

theorem witness_MovesAndCopiesCarryTheBytes_1 : ∃ (s : State) (a : Nat) (bs : List Byte) (i : Nat), i < bs.length ∧ (s.keyOf (a + i)).isSome = true ∧ (∀ j, j < bs.length → j ≠ i → s.keyOf (a + j) ≠ s.keyOf (a + i)) :=
  by
  refine ⟨(st [(Fld.hsmStackStatus_state 0, 0), (Fld.hsmStackStatus_mapout_phase 0, 0)]), 0x1000000, [1, 2], 1, ?_⟩
  and_intros <;> decide +kernel
theorem witness_MovesAndCopiesCarryTheBytes_2 : ∃ (s : State) (a : Nat) (b : Nat) (bs : List Byte), (∀ i, i < bs.length → s.keyOf (a + i) ≠ s.keyOf b) :=
  ⟨(st [(Fld.hsmStackStatus_state 0, 0), (Fld.hsmStackStatus_mapout_phase 0, 0)]), 0x1000000, 0x2000000, [1, 2], by decide +kernel⟩
theorem witness_MovesAndCopiesCarryTheBytes_3 : ∃ (s : State) (ws : List (Nat × List Byte)) (b : Nat), (∀ w ∈ ws, ∀ i, i < w.2.length → s.keyOf (w.1 + i) ≠ s.keyOf b) :=
  ⟨(st [(Fld.hsmStackStatus_state 0, 0), (Fld.hsmStackStatus_mapout_phase 0, 0)]), [(0x1000000, [1, 2])], 0x2000000, by decide +kernel⟩
theorem witness_MovesAndCopiesCarryTheBytes_4 : ∃ (s : State) (slot : Fin 4096) (o : Op) (ks : Take) (kd : Take) (ss : List DescP) (ds : List DescP) (u : State), s.StreamDue slot 0 o Desc.bytes (o.b 0x30 8) ks kd ss ds ∧ u = s.streamTaken slot o ks kd ds ∧ sameShape ss ds = true ∧ u.anyPoison (takenUnits ss) (takenUnit ss) = false :=
  by
  refine ⟨{ (st [(Fld.bootStatus_stage, 6), (Fld.thmSaveStatus_state, 0), (Fld.snapHeld_held, 0), (⟨Reg.opstat 0, 0, 64⟩, 2), (Fld.hsmStackStatus_state 0, 0), (Fld.hsmStackStatus_mapout_phase 0, 0), (Fld.wqCfg_partition 0, 0), (Fld.snapEvalwinCtrl_enable 0, 0), (⟨Reg.numpol 0, 0, 64⟩, 0)]) with ctl.ops := [(0, some (opw [(0, 1, 3), (0x20, 4, 0), (0x24, 4, 1), (0x28, 1, 0), (0x30, 8, 4)]))], strm.ctxs := [(0, ctxw (dsc 0x1000000 0)), (1, ctxw (dsc 0x1100000 0))] }, 0, (opw [(0, 1, 3), (0x20, 4, 0), (0x24, 4, 1), (0x28, 1, 0), (0x30, 8, 4)]), _, _, _, _, _, ⟨by decide +kernel, by decide +kernel, rfl, take_ok (by decide +kernel) rfl, take_ok (by decide +kernel) rfl, by decide +kernel⟩, rfl, ?_⟩
  and_intros <;> decide +kernel
theorem witness_MovesAndCopiesCarryTheBytes_5 : ∃ (s : State) (slot : Fin 4096) (o : Op) (ks : Take) (kd : Take) (ss : List DescP) (ds : List DescP) (u : State), s.StreamDue slot 1 o Desc.bytes (o.b 0x30 8) ks kd ss ds ∧ u = s.streamTaken slot o ks kd ds ∧ sameShape ss ds = true ∧ pairsOneStack ss ds = true :=
  by
  refine ⟨{ (st [(Fld.bootStatus_stage, 6), (Fld.thmSaveStatus_state, 0), (Fld.snapHeld_held, 0), (⟨Reg.opstat 0, 0, 64⟩, 2), (Fld.hsmStackStatus_state 0, 0), (Fld.hsmStackStatus_mapout_phase 0, 0), (Fld.wqCfg_partition 0, 0), (Fld.snapEvalwinCtrl_enable 0, 0), (⟨Reg.numpol 0, 0, 64⟩, 0)]) with ctl.ops := [(0, some (opw [(0, 1, 3), (0x20, 4, 0), (0x24, 4, 1), (0x28, 1, 1), (0x30, 8, 4)]))], strm.ctxs := [(0, ctxw (dsc 0x1000000 0)), (1, ctxw (dsc 0x1100000 0))] }, 0, (opw [(0, 1, 3), (0x20, 4, 0), (0x24, 4, 1), (0x28, 1, 1), (0x30, 8, 4)]), _, _, _, _, _, ⟨by decide +kernel, by decide +kernel, rfl, take_ok (by decide +kernel) rfl, take_ok (by decide +kernel) rfl, by decide +kernel⟩, rfl, ?_⟩
  and_intros <;> decide +kernel
theorem witness_MovesAndCopiesCarryTheBytes_7 : ∃ (s : State) (slot : Fin 4096) (o : Op) (ks : Take) (kd : Take) (ss : List DescP) (ds : List DescP) (u : State) (es : List (Option Nat × Bool)), s.StreamDue slot 4 o Desc.elements (o.b 0x30 8 / 528 * 1024) ks kd ss ds ∧ u = s.streamTaken slot o ks kd ds ∧ takenFmt ss = some 5 ∧ takenFmt ds = some 2 ∧ o.b 0x30 8 % 528 = 0 ∧ es = u.expandRead ss ∧ es.all (fun e => e.1.isSome && !e.2) = true :=
  ⟨{ (st [(Fld.bootStatus_stage, 6), (Fld.thmSaveStatus_state, 0), (Fld.snapHeld_held, 0), (⟨Reg.opstat 0, 0, 64⟩, 2), (Fld.hsmStackStatus_state 0, 0), (Fld.hsmStackStatus_mapout_phase 0, 0), (Fld.wqCfg_partition 0, 0), (Fld.snapEvalwinCtrl_enable 0, 0), (⟨Reg.numpol 0, 0, 64⟩, 0)]) with ctl.ops := [(0, some (opw [(0, 1, 3), (0x20, 4, 0), (0x24, 4, 1), (0x28, 1, 4), (0x30, 8, 528)]))], strm.ctxs := [(0, ctxw (bytesOf 64 [(0, 8, 0x1000000), (0x26, 3, 1023), (0x35, 1, 5), (0x36, 1, 1)])), (1, ctxw (bytesOf 64 [(0, 8, 0x1100000), (8, 6, 1), (0x26, 3, 1023), (0x35, 1, 5 - 3), (0x36, 1, 1)]))] }, 0, (opw [(0, 1, 3), (0x20, 4, 0), (0x24, 4, 1), (0x28, 1, 4), (0x30, 8, 528)]), _, _, _, _, _, _, ⟨by decide +kernel, by decide +kernel, rfl, take_ok (by decide +kernel) rfl, take_ok (by decide +kernel) rfl, by decide +kernel⟩, rfl, by decide +kernel, by decide +kernel, (by decide +kernel), rfl, by decide +kernel⟩
theorem witness_MovesAndCopiesCarryTheBytes_8 : ∃ (s : State) (slot : Fin 4096) (o : Op) (ks : Take) (kd : Take) (ss : List DescP) (ds : List DescP) (u : State), s.StreamDue slot 2 o Desc.bytes (o.b 0x30 8) ks kd ss ds ∧ u = s.streamTaken slot o ks kd ds ∧ sameShape ss ds = true ∧ (takenFmt ss = some 0 ∨ takenFmt ss = some 1 ∨ takenFmt ss = some 6) ∧ (o.b 0x29 1 % 2 = 1 → takenFmt ss = some 6 ∧ ss.all (fun d => d.1.elements % 2 == 0) = true ∧ ds.all (fun d => d.1.elements % 2 == 0) = true) ∧ u.anyPoison (takenUnits ss) (takenUnit ss) = false ∧ u.anyPoison (takenUnits ds) (takenUnit ss) = false :=
  by
  refine ⟨{ (st [(Fld.bootStatus_stage, 6), (Fld.thmSaveStatus_state, 0), (Fld.snapHeld_held, 0), (⟨Reg.opstat 0, 0, 64⟩, 2), (Fld.hsmStackStatus_state 0, 0), (Fld.hsmStackStatus_mapout_phase 0, 0), (Fld.wqCfg_partition 0, 0), (Fld.snapEvalwinCtrl_enable 0, 0), (⟨Reg.numpol 0, 0, 64⟩, 0)]) with ctl.ops := [(0, some (opw [(0, 1, 3), (0x20, 4, 0), (0x24, 4, 1), (0x28, 1, 2), (0x30, 8, 8), (0x29, 1, 1)]))], strm.ctxs := [(0, ctxw (bytesOf 64 [(0, 8, 0x1000000), (8, 6, 4), (0x26, 3, 1), (0x35, 1, 6), (0x36, 1, 1)])), (1, ctxw (bytesOf 64 [(0, 8, 0x1100000), (8, 6, 4), (0x26, 3, 1), (0x35, 1, 6), (0x36, 1, 1)]))] }, 0, (opw [(0, 1, 3), (0x20, 4, 0), (0x24, 4, 1), (0x28, 1, 2), (0x30, 8, 8), (0x29, 1, 1)]), _, _, _, _, _, ⟨by decide +kernel, by decide +kernel, rfl, take_ok (by decide +kernel) rfl, take_ok (by decide +kernel) rfl, by decide +kernel⟩, rfl, ?_⟩
  and_intros <;> decide +kernel
theorem witness_MovesAndCopiesCarryTheBytes_9 : ∃ (s : State) (slot : Fin 4096) (o : Op) (k : Take) (as : List DescP) (ds : List DescP) (h : Nat) (_errors : Word64) (_first : Word64) (_pass : Word64) (_actual : Word64) (u : State), s.Live ∧ s.issuableStream slot 7 = some o ∧ s.takeSide o 1 false Desc.bytes (o.b 0x30 8) = k ∧ k = .ok as h ∧ ds = o.gotOf 1 ++ as ∧ (takenUnits ds).any (fun a => s.chanWaits a (takenUnit ds)) = false ∧ s.chanWaits (o.b 0x38 8) 64 = false ∧ u = (((s.issue slot).consumeSide slot o 1 k).advanceRng (o.b 0x24 4) (total Desc.elements ds)).noteOut slot [(o.b 0x38 8 + 0x10, 32)] ∧ u.poisoned (o.b 0x38 8) 64 = false ∧ testBlockOk (u.bytes (o.b 0x38 8) 64) = true :=
  by refine ⟨{ (st [(Fld.bootStatus_stage, 6), (Fld.thmSaveStatus_state, 0), (Fld.snapHeld_held, 0), (⟨Reg.opstat 0, 0, 64⟩, 2), (Fld.hsmStackStatus_state 0, 0), (Fld.hsmStackStatus_mapout_phase 0, 0), (Fld.wqCfg_partition 0, 0), (Fld.snapEvalwinCtrl_enable 0, 0), (⟨Reg.numpol 0, 0, 64⟩, 0)]) with ctl.ops := [(0, some (opw [(0, 1, 3), (0x24, 4, 1), (0x20, 4, 0xFFFFFFFF), (0x28, 1, 7), (0x30, 8, 4), (0x38, 8, 0x1000000)]))], strm.ctxs := [(1, ctxw (dsc 0x1100000 0))], mem := [(131072, 1), (131075, 1)] }, 0, (opw [(0, 1, 3), (0x24, 4, 1), (0x20, 4, 0xFFFFFFFF), (0x28, 1, 7), (0x30, 8, 4), (0x38, 8, 0x1000000)]), _, _, _, _, 0, 0, 0, 0, _, ?_, ?_, rfl, take_at (by decide +kernel), rfl, ?_, ?_, rfl, ?_⟩ <;> and_intros <;> decide +kernel
theorem witness_MovesAndCopiesCarryTheBytes_10 : ∃ (s : State) (slot : Fin 4096) (o : Op) (ks : Take) (kd : Take) (ss : List DescP) (ds : List DescP) (u : State), s.StreamDue slot 6 o Desc.bytes (o.b 0x30 8) ks kd ss ds ∧ u = s.streamTaken slot o ks kd ds ∧ s.applyWaits o = false ∧ takenFmt ss = some 0 ∧ takenFmt ds = some 0 ∧ u.red.discarded.contains (u.opPart o, o.stamp - 1) = true :=
  by
  refine ⟨{ (st [(Fld.bootStatus_stage, 6), (Fld.thmSaveStatus_state, 0), (Fld.snapHeld_held, 0), (⟨Reg.opstat 0, 0, 64⟩, 2), (Fld.hsmStackStatus_state 0, 0), (Fld.hsmStackStatus_mapout_phase 0, 0), (Fld.wqCfg_partition 0, 0), (Fld.snapEvalwinCtrl_enable 0, 0), (⟨Reg.numpol 0, 0, 64⟩, 0)]) with ctl.ops := [(0, some (opw [(0, 1, 3), (0x20, 4, 0), (0x24, 4, 1), (0x28, 1, 6), (0x30, 8, 4)]))], strm.ctxs := [(0, ctxw (dsc 0x1000000 0)), (1, ctxw (dsc 0x1100000 0))], red.discarded := [(0, 0)] }, 0, (opw [(0, 1, 3), (0x20, 4, 0), (0x24, 4, 1), (0x28, 1, 6), (0x30, 8, 4)]), _, _, _, _, _, ⟨by decide +kernel, by decide +kernel, rfl, take_ok (by decide +kernel) rfl, take_ok (by decide +kernel) rfl, by decide +kernel⟩, rfl, ?_⟩
  and_intros <;> decide +kernel
theorem witness_MovesAndCopiesCarryTheBytes_11 : ∃ (s : State) (slot : Fin 4096) (o : Op) (ks : Take) (kd : Take) (ss : List DescP) (ds : List DescP) (u : State) (xs : List ApplyElem), s.StreamDue slot 6 o Desc.bytes (o.b 0x30 8) ks kd ss ds ∧ u = s.streamTaken slot o ks kd ds ∧ s.applyWaits o = false ∧ takenFmt ss = some 0 ∧ takenFmt ds = some 0 ∧ u.red.discarded.contains (u.opPart o, o.stamp - 1) = false ∧ xs = u.applyElems (u.heritage (u.opPart o)) o (s.rngBase (o.b 0x24 4) o.stamp) ss ds ∧ ((xs.zip (takenUnits ss)).all (fun e => !u.elemPoison o e.1 e.2)) = true :=
  by refine ⟨{ (st [(Fld.bootStatus_stage, 6), (Fld.thmSaveStatus_state, 0), (Fld.snapHeld_held, 0), (⟨Reg.opstat 0, 0, 64⟩, 2), (Fld.hsmStackStatus_state 0, 0), (Fld.hsmStackStatus_mapout_phase 0, 0), (Fld.wqCfg_partition 0, 0), (Fld.snapEvalwinCtrl_enable 0, 0), (⟨Reg.numpol 0, 0, 64⟩, 0), (Fld.snapTwinStatus_state, 2)]) with ctl.ops := [(0, some ({ opw [(0, 1, 3), (0x20, 4, 0), (0x24, 4, 1), (0x28, 1, 6), (0x30, 8, 4)] with block := bytesOf 128 [(2, 1, 1)] } : Op))], strm.ctxs := [(0, ctxw (dsc 0x1000000 0)), (1, ctxw (dsc 0x1100000 0))] }, 0, ({ opw [(0, 1, 3), (0x20, 4, 0), (0x24, 4, 1), (0x28, 1, 6), (0x30, 8, 4)] with block := bytesOf 128 [(2, 1, 1)] } : Op), _, _, _, _, _, _, ⟨by decide +kernel, by decide +kernel, rfl, take_ok (by decide +kernel) rfl, take_ok (by decide +kernel) rfl, by decide +kernel⟩, rfl, ?_, ?_, ?_, ?_, rfl, ?_⟩ <;> decide +kernel
theorem witness_MovesAndCopiesCarryTheBytes_12 : ∃ (s : State) (slot : Fin 4096) (o : Op) (ks : Take) (kd : Take) (as : List DescP) (bs : List DescP) (ss : List DescP) (ds : List DescP) (hs : Nat) (hd : Nat) (u : State), s.Live ∧ s.issuableStream slot 5 = some o ∧ testBit (o.b 0x29 1) 1 = false ∧ s.takeSide o 0 true Desc.bytes (o.b 0x30 8) = ks ∧ ks = .ok as hs ∧ ss = o.gotOf 0 ++ as ∧ s.takeSide o 1 false Desc.elements (total Desc.elements ss) = kd ∧ kd = .ok bs hd ∧ ds = o.gotOf 1 ++ bs ∧ s.sidesWait ss ds = false ∧ s.colmaxWaits (o.b 0x38 8) ss (ds.filterMap (fun d => d.2.map (fun pl => (pl, d.1.elements)))) = false ∧ u = (((s.issue slot).consumeSide slot o 0 ks).consumeSide slot o 1 kd).advanceRng (o.b 0x24 4) (total Desc.elements ss) :=
  by refine ⟨{ (st [(Fld.bootStatus_stage, 6), (Fld.thmSaveStatus_state, 0), (Fld.snapHeld_held, 0), (⟨Reg.opstat 0, 0, 64⟩, 2), (Fld.hsmStackStatus_state 0, 0), (Fld.hsmStackStatus_mapout_phase 0, 0), (Fld.wqCfg_partition 0, 0), (Fld.snapEvalwinCtrl_enable 0, 0), (⟨Reg.numpol 0, 0, 64⟩, 0)]) with ctl.ops := [(0, some (opw [(0, 1, 3), (0x20, 4, 0), (0x24, 4, 1), (0x28, 1, 5), (0x30, 8, 4)]))], strm.ctxs := [(0, ctxw (dsc 0x1000000 0)), (1, { ctxw [] with tail := 2, fetched := [[(0, some (bytesOf 64 [(0, 8, 0x1100000), (0x35, 1, 2), (0x36, 1, 1), (0x38, 1, 4)])), (1, some (bytesOf 64 [(0, 8, 0x1200000), (8, 8, 0x1300000), (0x10, 4, 1), (0x38, 1, 1), (0x3C, 4, 1)]))]] })] }, 0, (opw [(0, 1, 3), (0x20, 4, 0), (0x24, 4, 1), (0x28, 1, 5), (0x30, 8, 4)]), _, _, _, _, _, _, _, _, _, ?_, ?_, ?_, rfl, take_at (by decide +kernel), rfl, rfl, take_at (by decide +kernel), rfl, ?_, ?_, rfl⟩ <;> decide +kernel
theorem witness_MovesAndCopiesCarryTheBytes_13 : ∃ (s : State) (slot : Fin 4096) (o : Op) (ks : Take) (as : List DescP) (ss : List DescP) (hs : Nat) (hd : Nat) (pl : Plane) (u : State), s.Live ∧ s.issuableStream slot 5 = some o ∧ testBit (o.b 0x29 1) 1 = true ∧ s.takeSide o 0 true Desc.bytes (o.b 0x30 8) = ks ∧ ks = .ok as hs ∧ ss = o.gotOf 0 ++ as ∧ s.takePlane (o.b 0x24 4) = some (.ok (pl, hd)) ∧ s.sidesWait ss [] = false ∧ s.colmaxWaits (o.b 0x38 8) ss [(pl, total Desc.elements ss)] = false ∧ u = (((s.issue slot).consumeSide slot o 0 ks).consume slot (o.b 0x24 4) hd [] true).useFresh 1 :=
  by refine ⟨{ (st [(Fld.bootStatus_stage, 6), (Fld.thmSaveStatus_state, 0), (Fld.snapHeld_held, 0), (⟨Reg.opstat 0, 0, 64⟩, 2), (Fld.hsmStackStatus_state 0, 0), (Fld.hsmStackStatus_mapout_phase 0, 0), (Fld.wqCfg_partition 0, 0), (Fld.snapEvalwinCtrl_enable 0, 0), (⟨Reg.numpol 0, 0, 64⟩, 0)]) with ctl.ops := [(0, some (opw [(0, 1, 3), (0x20, 4, 0), (0x24, 4, 1), (0x28, 1, 5), (0x29, 1, 2), (0x30, 8, 4)]))], strm.ctxs := [(0, ctxw (dsc 0x1000000 0)), (1, ctxw (bytesOf 64 [(0, 8, 0x1200000), (8, 8, 0x1300000), (0x10, 4, 1), (0x38, 1, 1)]))] }, 0, (opw [(0, 1, 3), (0x20, 4, 0), (0x24, 4, 1), (0x28, 1, 5), (0x29, 1, 2), (0x30, 8, 4)]), _, _, _, _, 1, Plane.parse (bytesOf 64 [(0, 8, 0x1200000), (8, 8, 0x1300000), (0x10, 4, 1), (0x38, 1, 1)]), _, ?_, ?_, ?_, rfl, take_at (by decide +kernel), rfl, ?_, ?_, ?_, rfl⟩ <;> decide +kernel
theorem witness_MovesAndCopiesCarryTheBytes_14 : ∃ (u : State) (_slot : Nat) (o : Op) (ss : List DescP) (ds : List DescP) (one : Option Plane) (_base : Nat) (fmt : Nat) (cols : List Column) (gs : List ColGroup), ss.findSome? (u.colmaxSource (u.opPart o)) = none ∧ cols = u.colmaxRead (u.heritage (u.opPart o)) ss 0 ∧ cols.all (fun c => c.length == (cols.headD []).length) = true ∧ (match one with | some pl => some [ColGroup.mk 0 cols pl none] | none => colGroups fmt ds cols 0 0) = some gs ∧ (fmt = 2 ∨ fmt = 3 ∨ fmt = 4 ∨ fmt = 5) ∧ gs.all (fun g => g.plane.chunks == g.chunks) = true ∧ gs.findSome? (fun g => u.planeAddrFault (u.opPart o) true g.plane g.cols.length) = none ∧ u.ownsRange (u.opPart o) (o.b 0x38 8) (4 * cols.length * ceilDiv (cols.headD []).length 1024) = true ∧ u.inWindow (u.opPart o) (o.b 0x38 8) (4 * cols.length * ceilDiv (cols.headD []).length 1024) = false ∧ ss.any (fun d => u.anyPoison d.1.addrs d.1.unit) = false :=
  by refine ⟨(st [(Fld.bootStatus_stage, 6), (Fld.thmSaveStatus_state, 0), (Fld.snapHeld_held, 0), (⟨Reg.opstat 0, 0, 64⟩, 2), (Fld.hsmStackStatus_state 0, 0), (Fld.hsmStackStatus_mapout_phase 0, 0), (Fld.wqCfg_partition 0, 0), (Fld.snapEvalwinCtrl_enable 0, 0), (⟨Reg.numpol 0, 0, 64⟩, 0)]), 0, (opw [(0, 1, 3), (0x20, 4, 0), (0x24, 4, 1), (0x28, 1, 5), (0x30, 8, 4)]), [(Desc.parse (dsc 0x1000000 0), none)], [(Desc.parse (bytesOf 64 [(0, 8, 0x1100000), (0x35, 1, 2), (0x36, 1, 1), (0x38, 1, 4)]), some (Plane.parse (bytesOf 64 [(0, 8, 0x1200000), (8, 8, 0x1300000), (0x10, 4, 1), (0x38, 1, 1), (0x3C, 4, 1)])))], none, 0, 2, _, _, ?_, rfl, ?_, some_getD (d := []) (by decide +kernel), Or.inl rfl, ?_⟩ <;> and_intros <;> decide +kernel

theorem witness_EngineFaultsAreRetriedThenDeclared_0 : ∃ (s : State) (e : Fin 64) (_parity : Bool) (k : Task), s.Live ∧ s.currentTask e = some k ∧ s.engRuns e k = true ∧ k.attempts < s.f (Fld.teCtrl_reexec_limit e) :=
  by
  refine ⟨{ (st [(Fld.teCtrl_reexec_limit 63, 1), (Fld.teStatus_state 63, 0)]) with comp.engines := [(63, ⟨[⟨0, 0, 1, 0, [0], 0, 0, 1, [], [], [], 0, 0, 0, [], 0, none⟩], [], none, []⟩)] }, 63, true, ⟨0, 0, 1, 0, [0], 0, 0, 1, [], [], [], 0, 0, 0, [], 0, none⟩, ?_⟩
  and_intros <;> decide +kernel
theorem witness_EngineFaultsAreRetriedThenDeclared_1 : ∃ (s : State) (e : Fin 64) (_parity : Bool) (k : Task), s.Live ∧ s.currentTask e = some k ∧ s.engRuns e k = true ∧ s.f (Fld.teCtrl_reexec_limit e) ≤ k.attempts :=
  by
  refine ⟨{ (st [(Fld.teCtrl_reexec_limit 63, 0), (Fld.teStatus_state 63, 0)]) with comp.engines := [(63, ⟨[⟨0, 0, 1, 0, [0], 0, 0, 1, [], [], [], 0, 0, 0, [], 0, none⟩], [], none, []⟩)] }, 63, true, ⟨0, 0, 1, 0, [0], 0, 0, 1, [], [], [], 0, 0, 0, [], 0, none⟩, ?_⟩
  and_intros <;> decide +kernel
theorem witness_EngineFaultsAreRetriedThenDeclared_2 : ∃ (s : State) (_e : Fin 64) (_addr : Fin 8388608) (_owner : Fin 3) (_slot : Fin 4096) (_l : Nat), s.Live :=
  ⟨(st []), 0, 0, 0, 0, 0, by decide +kernel⟩
theorem witness_EngineFaultsAreRetriedThenDeclared_3 : ∃ (s : State) (_e : Fin 64) (_addr : Fin 8388608) (_owner : Fin 3) (_slot : Fin 4096) (_l : Nat), s.Live :=
  ⟨(st []), 0, 0, 0, 0, 0, by decide +kernel⟩

theorem witness_SpareEnginesSwitchIn_0 : ∃ (s : State) (w : Writer) (cs : Fin 4) (v : Word32), s.Live ∧ s.Accepts w (Reg.teSpareCtrl cs) v.toNat ∧ bits v.toNat 8 1 = 1 ∧ s.f (Fld.teSpareStatus_state cs) = 0 :=
  by
  refine ⟨(st [((Fld.teSpareStatus_state 3), 0), (Fld.teSpareStatus_state 3, 0)]), .lead, 3, 256, ?_⟩
  and_intros <;> decide +kernel
theorem witness_SpareEnginesSwitchIn_1 : ∃ (s : State) (e : Fin 64), s.Live ∧ s.f (Fld.teCtrl_ce_limit e) ≠ 0 ∧ s.f (Fld.teCtrl_ce_limit e) < ((s.eng e).ceTimes.filter (fun k => decide (s.now - k < 475000000))).length ∧ s.f (Fld.teSpareStatus_state (e / 16)) = 0 :=
  by
  refine ⟨{ (st [((Fld.teSpareStatus_state (63 / 16)), 0), (Fld.teCtrl_ce_limit 63, 1), (Fld.teSpareStatus_state 3, 0)]) with comp.engines := [(63, ⟨[], [], none, [0, 0]⟩)] }, 63, ?_⟩
  and_intros <;> decide +kernel
theorem witness_SpareEnginesSwitchIn_2 : ∃ (s : State) (e : Nat), s.f (Fld.teSpareStatus_state (e / 16)) = 0 ∧ e < 64 :=
  by
  refine ⟨(st [((Fld.teSpareStatus_state (0 / 16)), 0), (Fld.teSpareStatus_state 0, 0)]), 0, ?_⟩
  and_intros <;> decide +kernel
theorem witness_SpareEnginesSwitchIn_3 : ∃ (s : State) (cs : Fin 4) (x : Spare), s.Live ∧ s.spare cs = some x ∧ s.f (Fld.teSpareStatus_state cs) = 1 :=
  by
  refine ⟨{ (st [((Fld.teSpareStatus_state 3), 1)]) with comp.spares := [(3, some ⟨15, 0⟩)] }, 3, ⟨15, 0⟩, ?_⟩
  and_intros <;> decide +kernel
theorem witness_SpareEnginesSwitchIn_4 : ∃ (s : State) (cs : Fin 4) (x : Spare), s.Live ∧ s.spare cs = some x ∧ s.f (Fld.teSpareStatus_state cs) = 1 ∧ x.trigger ≠ 0 ∧ x.target < 16 :=
  by
  refine ⟨{ (st [((Fld.teSpareStatus_state 3), 1)]) with comp.spares := [(3, some ⟨15, 1⟩)] }, 3, ⟨15, 1⟩, ?_⟩
  and_intros <;> decide +kernel
theorem witness_SpareEnginesSwitchIn_5 : ∃ (s : State) (cs : Fin 4) (x : Spare), s.Live ∧ s.spare cs = some x ∧ s.f (Fld.teSpareStatus_state cs) = 2 ∧ x.target < 16 :=
  by
  refine ⟨{ (st [((Fld.teSpareStatus_state 3), 2)]) with comp.spares := [(3, some ⟨15, 1⟩)] }, 3, ⟨15, 1⟩, ?_⟩
  and_intros <;> decide +kernel
theorem witness_SpareEnginesSwitchIn_6 : ∃ (s : State) (cs : Fin 4) (x : Spare), s.Live ∧ s.spare cs = some x ∧ x.target < 16 ∧ s.f (Fld.teSpareStatus_state cs) = 3 ∧ (s.arr cs).flight = [] ∧ (∀ t ∈ (s.eng (16 * cs + x.target)).tasks, t.pos = 0) :=
  by
  refine ⟨{ (st [((Fld.teSpareStatus_state 3), 3)]) with comp.spares := [(3, some ⟨15, 1⟩)] }, 3, ⟨15, 1⟩, ?_⟩
  and_intros <;> decide +kernel

theorem witness_LinksLoseLanesReplayAndReturnCredit_0 : ∃ (s : State) (n : Fin 12) (l : Fin 16), s.Live ∧ s.portState n = 5 ∧ testBit (s.f (Fld.lnkStatus_lane_good n)) l = true ∧ testBit (s.port n).inUse l = true ∧ s.lanesAfter n (s.f (Fld.lnkStatus_lane_good n) - 2 ^ l.val) ≠ 0 :=
  by
  refine ⟨{ (st [(Fld.lnkStatus_state 11, 5), (Fld.lnkStatus_lane_good 11, 255)]) with links := ⟨[(11, { portD 11 with inUse := 255 })], []⟩ }, 11, 7, ?_⟩
  and_intros <;> decide +kernel
theorem witness_LinksLoseLanesReplayAndReturnCredit_1 : ∃ (s : State) (n : Fin 12) (lanes : Nat), s.Live ∧ s.portState n = 6 ∧ lanes = s.lanesAfter n (s.f (Fld.lnkStatus_lane_good n) &&& (s.port n).farMask) ∧ lanes ≠ 0 :=
  ⟨{ (st [(Fld.lnkStatus_state 11, 6), (Fld.lnkStatus_lane_good 11, 255)]) with links := ⟨[(11, { portD 11 with farMask := 255 })], []⟩ }, 11, _, by decide +kernel, by decide +kernel, rfl, by decide +kernel⟩
theorem witness_LinksLoseLanesReplayAndReturnCredit_2 : ∃ (s : State) (n : Fin 12), s.Live ∧ s.portHears n = true ∧ s.lanesAfter n (s.f (Fld.lnkStatus_lane_good n)) = 0 :=
  by
  refine ⟨(st [(Fld.lnkStatus_state 11, 6), (Fld.lnkStatus_lane_good 11, 31)]), 11, ?_⟩
  and_intros <;> decide +kernel
theorem witness_LinksLoseLanesReplayAndReturnCredit_3 : ∃ (s : State) (n : Fin 12) (fl : List Byte) (ue : Bool) (u : State), s.Live ∧ s.portHears n = true ∧ flitGood fl ue = true ∧ flitType fl = 1 ∧ u = s.readFlit n fl ∧ u.portHears n = true ∧ fieldLE fl 0 2 = (u.port n).expSeq ∧ testBit (fieldLE fl 4 1) 3 = true ∧ testBit (fieldLE fl 4 1) 4 = true :=
  by refine ⟨(st [(Fld.lnkStatus_state 0, 5), (Fld.lnkCfg_split 0, 1)]), 0, flit 0x38, false, _, ?_, ?_, ?_, ?_, rfl, ?_⟩ <;> and_intros <;> decide +kernel
theorem witness_LinksLoseLanesReplayAndReturnCredit_4 : ∃ (s : State) (n : Fin 12) (fl : List Byte), s.Live ∧ s.portHears n = true ∧ flitGood fl false = false ∧ (s.port n).nakSent = false :=
  by
  refine ⟨(st [(Fld.lnkStatus_state 0, 5), (Fld.lnkCfg_split 0, 1)]), 0, [], ?_⟩
  and_intros <;> decide +kernel
theorem witness_LinksLoseLanesReplayAndReturnCredit_5 : ∃ (s : State) (n : Fin 12) (fl : List Byte) (ue : Bool), s.Live ∧ s.portHears n = true ∧ flitGood fl ue = true ∧ (flitType fl = 0 ∨ flitType fl = 3) :=
  by
  refine ⟨(st [(Fld.lnkStatus_state 0, 5), (Fld.lnkCfg_split 0, 1)]), 0, flit 0, false, ?_⟩
  and_intros <;> decide +kernel
theorem witness_LinksLoseLanesReplayAndReturnCredit_6 : ∃ (s : State) (n : Fin 12) (fl : List Byte) (ue : Bool) (u : State), s.Live ∧ s.portHears n = true ∧ flitGood fl ue = true ∧ flitType fl = 2 ∧ u = s.readFlit n fl ∧ u.portState n = 5 ∧ fieldLE fl 10 1 = 0 :=
  by refine ⟨(st [(Fld.lnkStatus_state 0, 5), (Fld.lnkCfg_split 0, 1)]), 0, flit 0x40, false, _, ?_, ?_, ?_, ?_, rfl, ?_⟩ <;> and_intros <;> decide +kernel
theorem witness_LinksLoseLanesReplayAndReturnCredit_7 : ∃ (s : State) (n : Fin 12) (q : Nat), s.Live ∧ s.portState n = 5 ∧ (s.port n).oldest = some q ∧ (s.port n).replayFails < 15 :=
  by
  refine ⟨{ (st [(Fld.lnkStatus_state 0, 5), (Fld.lnkCfg_split 0, 1)]) with links := ⟨[(0, { portD 0 with retry := [(0, 1, ⟨0, ⟨0, 33, 0, 1, 1, 0, []⟩, 0, none, none⟩)], replayFails := 14 })], []⟩ }, 0, 0, ?_⟩
  and_intros <;> decide +kernel
theorem witness_LinksLoseLanesReplayAndReturnCredit_8 : ∃ (s : State) (n : Fin 12), s.Live ∧ s.portHears n = true ∧ 0 < (s.port n).unacked :=
  by
  refine ⟨{ (st [(Fld.lnkStatus_state 0, 5), (Fld.lnkCfg_split 0, 1)]) with links := ⟨[(0, { portD 0 with unacked := 1 })], []⟩ }, 0, ?_⟩
  and_intros <;> decide +kernel
theorem witness_LinksLoseLanesReplayAndReturnCredit_9 : ∃ (s : State) (n : Fin 12) (vc : Fin 8) (e : Nat × Nat), s.Live ∧ s.portUp n = true ∧ (s.port n).owed.find? (fun e => e.1 == vc.val) = some e ∧ 32 ≤ e.2 ∧ s.saving = false :=
  by
  refine ⟨{ (st [(Fld.lnkStatus_state 0, 5), (Fld.lnkCfg_split 0, 1), (Fld.thmSaveStatus_state, 0)]) with links := ⟨[(0, { portD 0 with owed := [(3, 32)] })], []⟩ }, 0, 3, (3, 32), ?_⟩
  and_intros <;> decide +kernel
theorem witness_LinksLoseLanesReplayAndReturnCredit_10 : ∃ (s : State) (n : Fin 12) (i : Nat) (p : TxPacket), s.Live ∧ s.portState n = 5 ∧ s.readyPacket n 0 = some (i, p) :=
  by
  refine ⟨{ (st [(Fld.lnkStatus_state 0, 5), (Fld.lnkCfg_split 0, 1), (Fld.lnkCredit_vc0 0, 1)]) with links := ⟨[(0, { portD 0 with queue := [⟨0, ⟨0, 33, 0, 1, 1, 0, []⟩, 0, none, none⟩] })], []⟩ }, 0, 0, ⟨0, ⟨0, 33, 0, 1, 1, 0, []⟩, 0, none, none⟩, ?_⟩
  and_intros <;> decide +kernel
theorem witness_LinksLoseLanesReplayAndReturnCredit_11 : ∃ (s : State) (n : Fin 12), s.Live ∧ s.portState n = 5 ∧ s.readyPacket n 0 = none ∧ s.readyPacket n 5 = none ∧ s.ownedNext n = none :=
  by
  refine ⟨(st [(Fld.lnkStatus_state 0, 5), (Fld.lnkCfg_split 0, 1)]), 0, ?_⟩
  and_intros <;> decide +kernel

theorem witness_LinksComeUpAndCarryPackets_0 : ∃ (s : State) (n : Fin 12) (lanes : Fin 65536) (u : State), s.Live ∧ s.flag (Fld.lnkCtrl_enable n) = true ∧ (s.portState n = 2 ∨ s.portState n = 3) ∧ s.lanesAfter n lanes ≠ 0 ∧ u = ((((s.refBack n lanes).portComesUp n (s.lanesAfter n lanes)).put (Fld.lnkStatus_state n) 4).put (Fld.lnkStatus_lane_good n) (lanes &&& s.fullMask n)) :=
  ⟨(st [((Fld.lnkCtrl_enable 11), 1), (Fld.lnkStatus_state 11, 3)]), 11, 255, _, by decide +kernel, by decide +kernel, (by decide +kernel), by decide +kernel, rfl⟩
theorem witness_LinksComeUpAndCarryPackets_1 : ∃ (s : State) (n : Fin 12) (i : Nat) (p : Packet), s.Live ∧ s.findRx n (fun p => p.kind == 1 && p.job == 0) = some (i, p) ∧ s.portState n = 4 ∧ s.identOk n (fieldLE p.body 0 4) (fieldLE p.body 4 1) = true :=
  by
  refine ⟨{ (st [(Fld.lnkNodeId_position, 0), (Fld.lnkStatus_state 2, 4)]) with links := rxs 2 ⟨0, 1, 0, 0, 1, 0, bytesOf 5 [(0, 4, 2), (4, 1, 2)]⟩ }, 2, 0, ⟨0, 1, 0, 0, 1, 0, bytesOf 5 [(0, 4, 2), (4, 1, 2)]⟩, ?_⟩
  and_intros <;> decide +kernel
theorem witness_LinksComeUpAndCarryPackets_2 : ∃ (s : State) (n : Fin 12) (i : Nat) (p : Packet), s.Live ∧ s.findRx n (fun p => p.kind == 1 && p.job == 0) = some (i, p) ∧ s.portState n = 4 ∧ s.identOk n (fieldLE p.body 0 4) (fieldLE p.body 4 1) = false :=
  by
  refine ⟨{ (st [(Fld.lnkNodeId_position, 0), (Fld.lnkStatus_state 2, 4)]) with links := rxs 2 ⟨0, 1, 0, 0, 1, 0, bytesOf 5 [(0, 4, 2), (4, 1, 3)]⟩ }, 2, 0, ⟨0, 1, 0, 0, 1, 0, bytesOf 5 [(0, 4, 2), (4, 1, 3)]⟩, ?_⟩
  and_intros <;> decide +kernel
theorem witness_LinksComeUpAndCarryPackets_3 : ∃ (s : State) (n : Fin 12), s.Live ∧ s.halfRestarts (portCantle n) = false ∧ s.flag (Fld.lnkCtrl_enable n) = true ∧ s.portUp n = false ∧ s.portState n ≠ 0 :=
  by
  refine ⟨(st [((Fld.lnkCtrl_enable 11), 1), (Fld.lnkStatus_state 11, 3)]), 11, ?_⟩
  and_intros <;> decide +kernel
theorem witness_LinksComeUpAndCarryPackets_4 : ∃ (s : State) (n : Fin 12), s.Live ∧ s.flag (Fld.lnkCtrl_enable n) = true ∧ s.portUp n = false :=
  by
  refine ⟨(st [((Fld.lnkCtrl_enable 0), 1)]), 0, ?_⟩
  and_intros <;> decide +kernel
theorem witness_LinksComeUpAndCarryPackets_5 : ∃ (s : State) (w : Writer) (n : Fin 12), s.Live ∧ s.Accepts w (Reg.lnkCtrl n) 2 ∧ s.portState n ≠ 0 ∧ s.portState n ≠ 1 :=
  by
  refine ⟨(st [(Fld.lnkStatus_state 0, 5)]), .lead, 0, ?_⟩
  and_intros <;> decide +kernel
theorem witness_LinksComeUpAndCarryPackets_6 : ∃ (s : State) (w : Writer) (n : Fin 12), s.Live ∧ s.Accepts w (Reg.lnkCtrl n) 4 :=
  by
  refine ⟨(st []), .lead, 0, ?_⟩
  and_intros <;> decide +kernel
theorem witness_LinksComeUpAndCarryPackets_7 : ∃ (s : State) (w : Writer) (n : Fin 12), s.Live ∧ s.Accepts w (Reg.lnkCtrl n) 8 ∧ s.portState n = 5 ∧ s.flag (Fld.lnkStatus_degraded n) = true :=
  by
  refine ⟨(st [((Fld.lnkStatus_degraded 0), 1), (Fld.lnkStatus_state 0, 5)]), .lead, 0, ?_⟩
  and_intros <;> decide +kernel
theorem witness_LinksComeUpAndCarryPackets_8 : ∃ (s : State) (n : Fin 12), s.Live ∧ (s.port n).rewiden = true ∧ s.portUp n = true :=
  by
  refine ⟨{ (st [(Fld.lnkStatus_state 1, 5)]) with links := ⟨[(1, { portD 1 with rewiden := true })], []⟩ }, 1, ?_⟩
  and_intros <;> decide +kernel
theorem witness_LinksComeUpAndCarryPackets_9 : ∃ (s : State) (n : Fin 12), s.Live ∧ (s.port n).rewiden = true :=
  by
  refine ⟨{ (st []) with links := ⟨[(1, { portD 1 with rewiden := true })], []⟩ }, 1, ?_⟩
  and_intros <;> decide +kernel
theorem witness_LinksComeUpAndCarryPackets_10 : ∃ (s : State) (n : Fin 12) (i : Nat) (sl : Nat) (out : Nat) (p : Packet) (e : Nat × Nat), s.Live ∧ s.findRx n (fun p => p.job != 0 && p.dest != s.node && packetKinds.contains p.kind && p.kind != 2) = some (i, p) ∧ s.slotOfJob p.job = some sl ∧ (s.slotPairs sl).find? (fun e => e.1 == n.val) = some (e.1, out) ∧ s.portUp out = true :=
  by
  refine ⟨{ (st [(Fld.lnkNodeId_position, 0), (Fld.lnkSlot_kind 0, 1), (Fld.lnkSlot_job_id 0, 5), (Fld.lnkSlot_partition 0, 0), (Fld.lnkSlot_pair0_valid 0, 1), (Fld.lnkSlot_in0 0, 0), (Fld.lnkSlot_out0 0, 3), (Fld.lnkStatus_state 3, 5)]) with links := rxs 0 ⟨5, 33, 0, 1, 1, 0, []⟩ }, 0, 0, 0, 3, ⟨5, 33, 0, 1, 1, 0, []⟩, (0, 0), ?_⟩
  and_intros <;> decide +kernel
theorem witness_LinksComeUpAndCarryPackets_11 : ∃ (s : State) (n : Fin 12) (i : Nat) (sl : Nat) (out : Nat) (p : Packet) (e : Nat × Nat), s.Live ∧ s.findRx n (fun p => p.job != 0 && p.dest != s.node && packetKinds.contains p.kind && p.kind != 2) = some (i, p) ∧ s.slotOfJob p.job = some sl ∧ (s.slotPairs sl).find? (fun e => e.1 == n.val) = some (e.1, out) ∧ s.portUp out = false :=
  by
  refine ⟨{ (st [(Fld.lnkNodeId_position, 0), (Fld.lnkSlot_kind 0, 1), (Fld.lnkSlot_job_id 0, 5), (Fld.lnkSlot_partition 0, 0), (Fld.lnkSlot_pair0_valid 0, 1), (Fld.lnkSlot_in0 0, 0), (Fld.lnkSlot_out0 0, 3), (Fld.lnkStatus_state 3, 1)]) with links := rxs 0 ⟨5, 33, 0, 1, 1, 0, []⟩ }, 0, 0, 0, 3, ⟨5, 33, 0, 1, 1, 0, []⟩, (0, 0), ?_⟩
  and_intros <;> decide +kernel
theorem witness_LinksComeUpAndCarryPackets_12 : ∃ (s : State) (n : Fin 12) (i : Nat) (p : Packet), s.Live ∧ s.findRx n (fun p => p.job != 0 && p.dest != s.node && packetKinds.contains p.kind && p.kind != 2) = some (i, p) ∧ s.slotOfJob p.job = none :=
  by
  refine ⟨{ (st ([(Fld.lnkNodeId_position, 0)] ++ (List.range 64).map (fun k => (Fld.lnkSlot_kind k, 0)))) with links := rxs 0 ⟨5, 33, 0, 1, 1, 0, []⟩ }, 0, 0, ⟨5, 33, 0, 1, 1, 0, []⟩, ?_⟩
  and_intros <;> decide +kernel
theorem witness_LinksComeUpAndCarryPackets_13 : ∃ (s : State) (n : Fin 12) (i : Nat) (p : Packet), s.Live ∧ s.findRx n (fun p => p.job == 0 && p.dest != s.node && packetKinds.contains p.kind) = some (i, p) ∧ p.dest / 8 = s.node / 8 ∧ s.portUp (s.portTo (p.dest % 8)) = true :=
  by
  refine ⟨{ (st [(Fld.lnkNodeId_position, 0), (Fld.lnkStatus_state 0, 5)]) with links := rxs 0 ⟨0, 33, 0, 1, 1, 0, []⟩ }, 0, 0, ⟨0, 33, 0, 1, 1, 0, []⟩, ?_⟩
  and_intros <;> decide +kernel
theorem witness_LinksComeUpAndCarryPackets_14 : ∃ (s : State) (n : Fin 12) (i : Nat) (q : Nat) (p : Packet), s.Live ∧ s.findRx n (fun p => p.kind == 0x21 && p.dest == s.node) = some (i, p) ∧ s.packetPart p = some q ∧ s.ringStands = false ∧ s.ownsRange q (fieldLE p.body 0 8) (p.body.drop 8).length = true ∧ s.inWindow q (fieldLE p.body 0 8) (p.body.drop 8).length = false :=
  by
  refine ⟨{ (st [(Fld.lnkNodeId_position, 0), (Fld.lnkSlot_kind 0, 1), (Fld.lnkSlot_job_id 0, 5), (Fld.lnkSlot_partition 0, 0), (Fld.thmSaveStatus_state, 0), (Fld.snapHeld_held, 0), (Fld.hsmStackStatus_state 0, 0), (Fld.hsmStackStatus_mapout_phase 0, 0), (Fld.snapEvalwinCtrl_enable 0, 0)]) with links := rxs 0 ⟨5, 33, 0, 0, 1, 0, bytesOf 9 [(0, 8, 0x1000000), (8, 1, 7)]⟩ }, 0, 0, 0, ⟨5, 33, 0, 0, 1, 0, bytesOf 9 [(0, 8, 0x1000000), (8, 1, 7)]⟩, ?_⟩
  and_intros <;> decide +kernel
theorem witness_LinksComeUpAndCarryPackets_15 : ∃ (s : State) (n : Fin 12) (i : Nat) (q : Nat) (p : Packet), s.Live ∧ s.findRx n (fun p => p.kind == 0x21 && p.dest == s.node) = some (i, p) ∧ s.packetPart p = some q ∧ s.ringStands = false ∧ s.ownsRange q (fieldLE p.body 0 8) (p.body.drop 8).length = false :=
  by
  refine ⟨{ (st [(Fld.lnkNodeId_position, 0), (Fld.lnkSlot_kind 0, 1), (Fld.lnkSlot_job_id 0, 5), (Fld.lnkSlot_partition 0, 0), (Fld.thmSaveStatus_state, 0), (Fld.snapHeld_held, 0), (Fld.hsmStackStatus_state 0, 0), (Fld.hsmStackStatus_mapout_phase 0, 0), (Fld.snapEvalwinCtrl_enable 0, 0)]) with links := rxs 0 ⟨5, 33, 0, 0, 1, 0, bytesOf 9 [(0, 8, 0x012000000000)]⟩ }, 0, 0, 0, ⟨5, 33, 0, 0, 1, 0, bytesOf 9 [(0, 8, 0x012000000000)]⟩, ?_⟩
  and_intros <;> decide +kernel
theorem witness_LinksComeUpAndCarryPackets_16 : ∃ (s : State) (n : Fin 12) (i : Nat) (p : Packet) (t : State), s.Live ∧ s.findRx n (fun p => p.kind == 2 && p.job != 0) = some (i, p) ∧ (s.slotOfJob p.job).isSome = true ∧ t = (s.consumeRx n i).legNotices p.job n ∧ (t.groupsOf (fun g => g.job == p.job && !g.fatal)) = [] :=
  ⟨{ (st [(Fld.lnkNodeId_position, 0), (Fld.lnkSlot_kind 0, 1), (Fld.lnkSlot_job_id 0, 5), (Fld.lnkSlot_partition 0, 0), (Fld.lnkSlot_pair0_valid 0, 0)]) with links := rxs 0 ⟨5, 2, 0, 0, 1, 0, []⟩ }, 0, 0, ⟨5, 2, 0, 0, 1, 0, []⟩, _, by decide +kernel, by decide +kernel, (by decide +kernel), rfl, by decide +kernel⟩
theorem witness_LinksComeUpAndCarryPackets_17 : ∃ (s : State) (n : Fin 12) (i : Nat) (p : Packet), s.Live ∧ s.findRx n (fun p => !packetKinds.contains p.kind) = some (i, p) :=
  by
  refine ⟨{ (st [(Fld.lnkNodeId_position, 0)]) with links := rxs 0 ⟨0, 153, 0, 0, 1, 0, []⟩ }, 0, 0, ⟨0, 153, 0, 0, 1, 0, []⟩, ?_⟩
  and_intros <;> decide +kernel

theorem witness_MatmulsAndKernelsAreDealtOut_0 : ∃ (s : State) (slot : Fin 4096) (o : Op) (w : DescP) (x : DescP) (od : DescP) (kw : Take) (kx : Take) (ko : Take) (m : MmRun) (t : State), s.MatmulDue slot o w x od kw kx ko m t :=
  ⟨{ (st [(Fld.bootStatus_stage, 6), (Fld.thmSaveStatus_state, 0), (Fld.snapHeld_held, 0), (⟨Reg.opstat 0, 0, 64⟩, 2), (Fld.hsmStackStatus_state 0, 0), (Fld.hsmStackStatus_mapout_phase 0, 0), (Fld.wqCfg_partition 0, 0), (Fld.snapEvalwinCtrl_enable 0, 0), (⟨Reg.numpol 0, 0, 64⟩, 0), (Fld.aryStatus_in_service 0, 1), (Fld.aryStatus_in_service 1, 1), (Fld.aryStatus_in_service 2, 1), (Fld.aryStatus_in_service 3, 1), (Fld.aryStatus_state 0, 1), (Fld.aryStatus_state 1, 1), (Fld.aryStatus_state 2, 1), (Fld.aryStatus_state 3, 1)]) with ctl.ops := [(0, some (opw [(0, 1, 1), (0x20, 4, 0), (0x24, 4, 1), (0x28, 4, 2), (0x2C, 4, 1), (0x30, 2, 1), (0x32, 2, 1), (0x35, 1, 0x11)]))], strm.ctxs := [(0, ctxw (dsc2 0x1000000 1 0)), (1, ctxw (dsc2 0x1100000 1 9)), (2, ctxw (dsc2 0x1200000 0 0))] }, 0, (opw [(0, 1, 1), (0x20, 4, 0), (0x24, 4, 1), (0x28, 4, 2), (0x2C, 4, 1), (0x30, 2, 1), (0x32, 2, 1), (0x35, 1, 0x11)]), (Desc.parse (dsc2 0x1000000 1 0), none), (Desc.parse (dsc2 0x1100000 1 9), none), (Desc.parse (dsc2 0x1200000 0 0), none), _, _, _, _, _, ⟨by decide +kernel, by decide +kernel, ⟨rfl, take_one (by decide +kernel)⟩, ⟨rfl, take_one (by decide +kernel)⟩, ⟨rfl, take_one (by decide +kernel)⟩, by decide +kernel, by decide +kernel, rfl, by decide +kernel, by decide +kernel, rfl, by decide +kernel, (fun h => absurd h (by decide +kernel))⟩⟩
theorem witness_MatmulsAndKernelsAreDealtOut_1 : ∃ (s : State) (slot : Fin 4096) (o : Op) (takes : List ((Nat × Bool) × Take)) (t : State), s.KernelDue slot o takes t :=
  ⟨{ (st [(Fld.bootStatus_stage, 6), (Fld.thmSaveStatus_state, 0), (Fld.snapHeld_held, 0), (⟨Reg.opstat 0, 0, 64⟩, 2), (Fld.teStatus_state 0, 0), (Fld.wqCfg_partition 0, 0)]) with ctl.ops := [(0, some (opw [(0, 1, 2), (0x30, 8, 0xFFFFFFFFFFFFFFFF), (0x38, 8, 0xFFFFFFFFFFFFFFFF), (0x40, 8, 0xFFFFFFFFFFFFFFFF), (0x48, 8, 512), (0x28, 8, 1)]))] }, 0, (opw [(0, 1, 2), (0x30, 8, 0xFFFFFFFFFFFFFFFF), (0x38, 8, 0xFFFFFFFFFFFFFFFF), (0x40, 8, 0xFFFFFFFFFFFFFFFF), (0x48, 8, 512), (0x28, 8, 1)]), [], _, ⟨by decide +kernel, by decide +kernel, (by decide +kernel), (fun e h => nomatch h), (fun e h => nomatch h), by decide +kernel, rfl, by decide +kernel⟩⟩

theorem witness_CollectivesSnapshotsAndShipsStart_0 : ∃ (s : State) (slot : Fin 4096) (o : Op) (g : Group) (t : State) (b : RingBucket), s.Live ∧ s.issuable slot 4 = some o ∧ o.b 0x24 1 = 0 ∧ (∀ r, (s.part (s.opPart o)).replay = some r → r.localScope = false) ∧ s.grp (o.b 0x22 2) = some g ∧ s.ringWaits o (o.b 0x22 2) = false ∧ g.fatal = false ∧ g.jobLost.contains g.self = false ∧ g.stepLost.contains (g.self, o.stamp) = false ∧ g.waitHandback = false ∧ t = (s.issue slot).setGrp (o.b 0x22 2) (some g.taken) ∧ b = t.newBucket slot 0 o g :=
  by refine ⟨{ (st [(Fld.bootStatus_stage, 6), (Fld.thmSaveStatus_state, 0), (Fld.snapHeld_held, 0), (⟨Reg.opstat 0, 0, 64⟩, 2), (Fld.wqCfg_partition 0, 0)]) with ctl.ops := [(0, some (opw [(0, 1, 4), (0x22, 2, 1), (0x24, 1, 0)]))], red.groups := [(1, some (grpw 2))] }, 0, (opw [(0, 1, 4), (0x22, 2, 1), (0x24, 1, 0)]), grpw 2, _, _, ?_, ?_, ?_, (fun r h => nomatch (h.symm.trans (rfl : _ = (none : Option Replay)))), ?_, ?_, ?_, ?_, ?_, ?_, rfl, rfl⟩ <;> decide +kernel
theorem witness_CollectivesSnapshotsAndShipsStart_1 : ∃ (s : State) (slot : Fin 4096) (o : Op) (g : Group) (t : State) (b : RingBucket), s.Live ∧ s.issuable slot 4 = some o ∧ o.b 0x24 1 = 1 ∧ (∀ r, (s.part (s.opPart o)).replay = some r → r.localScope = false) ∧ s.grp (o.b 0x22 2) = some g ∧ s.ringWaits o (o.b 0x22 2) = false ∧ g.fatal = false ∧ g.jobLost.contains g.self = false ∧ g.stepLost.contains (g.self, o.stamp) = false ∧ g.waitHandback = false ∧ t = (s.issue slot).setGrp (o.b 0x22 2) (some g.taken) ∧ b = t.newBucket slot 1 o g :=
  by refine ⟨{ (st [(Fld.bootStatus_stage, 6), (Fld.thmSaveStatus_state, 0), (Fld.snapHeld_held, 0), (⟨Reg.opstat 0, 0, 64⟩, 2), (Fld.wqCfg_partition 0, 0)]) with ctl.ops := [(0, some (opw [(0, 1, 4), (0x22, 2, 1), (0x24, 1, 1)]))], red.groups := [(1, some (grpw 2))] }, 0, (opw [(0, 1, 4), (0x22, 2, 1), (0x24, 1, 1)]), grpw 2, _, _, ?_, ?_, ?_, (fun r h => nomatch (h.symm.trans (rfl : _ = (none : Option Replay)))), ?_, ?_, ?_, ?_, ?_, ?_, rfl, rfl⟩ <;> decide +kernel
theorem witness_CollectivesSnapshotsAndShipsStart_2 : ∃ (s : State) (slot : Fin 4096) (o : Op) (g : Group) (t : State) (b : RingBucket), s.Live ∧ s.issuable slot 4 = some o ∧ o.b 0x24 1 = 2 ∧ (∀ r, (s.part (s.opPart o)).replay = some r → r.localScope = false) ∧ s.grp (o.b 0x22 2) = some g ∧ s.ringWaits o (o.b 0x22 2) = false ∧ g.fatal = false ∧ g.jobLost.contains g.self = false ∧ g.stepLost.contains (g.self, o.stamp) = false ∧ g.waitHandback = false ∧ t = (s.issue slot).setGrp (o.b 0x22 2) (some g.taken) ∧ b = t.newBucket slot 2 o g :=
  by refine ⟨{ (st [(Fld.bootStatus_stage, 6), (Fld.thmSaveStatus_state, 0), (Fld.snapHeld_held, 0), (⟨Reg.opstat 0, 0, 64⟩, 2), (Fld.wqCfg_partition 0, 0)]) with ctl.ops := [(0, some (opw [(0, 1, 4), (0x22, 2, 1), (0x24, 1, 2)]))], red.groups := [(1, some (grpw 2))] }, 0, (opw [(0, 1, 4), (0x22, 2, 1), (0x24, 1, 2)]), grpw 2, _, _, ?_, ?_, ?_, (fun r h => nomatch (h.symm.trans (rfl : _ = (none : Option Replay)))), ?_, ?_, ?_, ?_, ?_, ?_, rfl, rfl⟩ <;> decide +kernel
theorem witness_CollectivesSnapshotsAndShipsStart_3 : ∃ (s : State) (slot : Fin 4096) (o : Op) (rs : List (Nat × Nat)) (places : List Nat), s.Live ∧ s.issuable slot 6 = some o ∧ s.f (Fld.snapSlotState_state (4 * s.opPart o + o.b 0x20 1)) ≠ 4 ∧ s.stopOf (s.opPart o) = none ∧ s.inFlight.any (fun e => s.opPart e.2 == s.opPart o && decide (e.2.admitNo < o.admitNo) && s.writesScope (scopeEntries (s.bytes (o.b 0x28 8) (16 * o.b 0x30 4))) e.2) = false ∧ s.poisoned (o.b 0x28 8) (16 * o.b 0x30 4) = false ∧ s.readScope (s.opPart o) (o.b 0x20 1) (o.b 0x28 8) (o.b 0x30 4) = some (rs, places) ∧ Sparse.get zeroD s.snap.flash.next (s.opPart o) ≤ 0x3FFFFF :=
  by
  refine ⟨{ (st [(Fld.bootStatus_stage, 6), (Fld.thmSaveStatus_state, 0), (Fld.snapHeld_held, 0), (⟨Reg.opstat 0, 0, 64⟩, 2), (Fld.snapSlotState_state 3, 0), (Fld.wqCfg_partition 0, 0)]) with ctl.ops := [(0, some (opw [(0, 1, 6), (0x20, 1, 3)]))] }, 0, (opw [(0, 1, 6), (0x20, 1, 3)]), [], [], ?_⟩
  and_intros <;> decide +kernel
theorem witness_CollectivesSnapshotsAndShipsStart_4 : ∃ (s : State) (slot : Fin 4096) (o : Op) (out : List LogRec), s.Live ∧ s.issuable slot 7 = some o ∧ s.drainingId (o.b 0x20 8) = false ∧ s.snap.flash.sealed (o.b 0x20 8) ≠ [] ∧ s.f (Fld.hostQpCfg_state (o.b 0x28 2)) ≠ 2 ∧ s.qpReady (o.b 0x28 2) = true ∧ mapAll (fun r => s.reseal r (o.b 0x2B 1)) (s.snap.flash.sealed (o.b 0x20 8)) = some out :=
  by
  refine ⟨{ (st [(Fld.bootStatus_stage, 6), (Fld.thmSaveStatus_state, 0), (Fld.snapHeld_held, 0), (⟨Reg.opstat 0, 0, 64⟩, 2), (Fld.hostQpCfg_state 2047, 1), (Fld.wqCfg_partition 0, 0)]) with ctl.ops := [(0, some (opw [(0, 1, 7), (0x28, 2, 2047)]))], snap.flash := { State.reset.snap.flash with log := [⟨3, 0, 0, 0, 0, 0, 0, [], [], 0⟩] } }, 0, (opw [(0, 1, 7), (0x28, 2, 2047)]), [⟨3, 0, 0, 0, 0, 0, 0, [], [], 0⟩], ?_⟩
  and_intros <;> decide +kernel

theorem witness_TileLoadsAndPassStarts_0 : ∃ (s : State) (a : Fin 4) (cyc : Nat) (i : PassId) (m : MmRun) (o : Op) (g : Staged), s.Live ∧ s.nextPass a = some i ∧ s.mm i.slot = some m ∧ s.op i.slot = some o ∧ s.arrayLive a = true ∧ (s.arr a).loading = none ∧ (s.arr a).nextLoad ≤ cyc ∧ (s.arr a).repair = [] ∧ (s.arr a).staged.find? (fun g => g.id == i) = some g :=
  by
  refine ⟨{ (st [(Fld.bootStatus_stage, 6), (Fld.thmSaveStatus_state, 0), (Fld.snapHeld_held, 0), (⟨Reg.opstat 0, 0, 64⟩, 3), (Fld.wqCfg_partition 0, 0), (Fld.aryStatus_in_service 0, 1), (Fld.aryStatus_state 0, 1), (Fld.hsmStackStatus_state 0, 0), (Fld.hsmStackStatus_mapout_phase 0, 0)]) with ctl.ops := [(0, some (opw [(0, 1, 1)]))], comp.arrays := [(0, { arrw with staged := [⟨pidw, []⟩] })], comp.mm := [(0, some mmw)] }, 0, 0, pidw, mmw, (opw [(0, 1, 1)]), ⟨pidw, []⟩, ?_⟩
  and_intros <;> decide +kernel
theorem witness_TileLoadsAndPassStarts_1 : ∃ (s : State) (a : Fin 4) (cyc : Nat) (i : PassId) (m : MmRun) (o : Op) (g : Staged), s.Live ∧ s.nextPass a = some i ∧ s.mm i.slot = some m ∧ s.op i.slot = some o ∧ s.arrayLive a = true ∧ (s.arr a).loading = none ∧ (s.arr a).nextLoad ≤ cyc ∧ (s.arr a).repair = [] ∧ (s.arr a).staged.find? (fun g => g.id == i) = none ∧ (s.arr a).staged.length < 3 ∧ (s.arr a).due.contains i = false ∧ (s.arr a).own.find? (fun g => g.id == i) = some g :=
  by
  refine ⟨{ (st [(Fld.bootStatus_stage, 6), (Fld.thmSaveStatus_state, 0), (Fld.snapHeld_held, 0), (⟨Reg.opstat 0, 0, 64⟩, 3), (Fld.wqCfg_partition 0, 0), (Fld.aryStatus_in_service 0, 1), (Fld.aryStatus_state 0, 1), (Fld.hsmStackStatus_state 0, 0), (Fld.hsmStackStatus_mapout_phase 0, 0)]) with ctl.ops := [(0, some (opw [(0, 1, 1)]))], comp.arrays := [(0, { arrw with own := [⟨pidw, []⟩] })], comp.mm := [(0, some mmw)] }, 0, 0, pidw, mmw, (opw [(0, 1, 1)]), ⟨pidw, []⟩, ?_⟩
  and_intros <;> decide +kernel
theorem witness_TileLoadsAndPassStarts_2 : ∃ (s : State) (a : Fin 4) (cyc : Nat) (i : PassId) (m : MmRun) (o : Op) (g : Staged), s.Live ∧ s.nextPass a = some i ∧ s.mm i.slot = some m ∧ s.op i.slot = some o ∧ s.arrayLive a = true ∧ (s.arr a).loading = none ∧ (s.arr a).nextLoad ≤ cyc ∧ (s.arr a).repair = [] ∧ (s.arr a).staged.find? (fun g => g.id == i) = none ∧ (s.arr a).staged.length < 3 ∧ (s.arr a).due.contains i = false ∧ (s.arr a).own.find? (fun g => g.id == i) = none ∧ s.tileWaits m i = false ∧ (s.fetchTile m i).any (fun e => e.2 == .poison || e.2 == .bad) = false ∧ g = ⟨i, tileBits (s.fetchTile m i)⟩ :=
  by refine ⟨{ (st [(Fld.bootStatus_stage, 6), (Fld.thmSaveStatus_state, 0), (Fld.snapHeld_held, 0), (⟨Reg.opstat 0, 0, 64⟩, 3), (Fld.wqCfg_partition 0, 0), (Fld.aryStatus_in_service 0, 1), (Fld.aryStatus_state 0, 1), (Fld.hsmStackStatus_state 0, 0), (Fld.hsmStackStatus_mapout_phase 0, 0)]) with ctl.ops := [(0, some (opw [(0, 1, 1)]))], comp.arrays := [(0, { arrw with redo := [] })], comp.mm := [(0, some mmw)] }, 0, 0, pidw, mmw, (opw [(0, 1, 1)]), _, ?_, ?_, ?_, ?_, ?_, ?_, ?_, ?_, ?_, ?_, ?_, ?_, ?_, ?_, rfl⟩ <;> decide +kernel
theorem witness_TileLoadsAndPassStarts_3 : ∃ (s : State) (a : Fin 4) (cyc : Nat) (lc : Nat) (_starved : Bool) (_slices : Bool) (i : PassId) (m : MmRun) (o : Op), s.Live ∧ s.nextPass a = some i ∧ s.mm i.slot = some m ∧ s.op i.slot = some o ∧ (s.arr a).segWhole m i = true ∧ (s.arr a).loading = some (i, lc) ∧ lc < cyc ∧ (s.arr a).nextStart ≤ cyc ∧ (s.arr a).flight.length < 3 ∧ s.arrayLive a = true ∧ s.flag (Fld.aryCtrl_hold a) = false ∧ (s.arr a).repair = [] ∧ s.spareHolds a = false ∧ ((s.arr a).redo = [] → s.outranked a = false) ∧ s.opRunning i.slot i.admitNo = true :=
  by refine ⟨{ (st [(Fld.bootStatus_stage, 6), (Fld.thmSaveStatus_state, 0), (Fld.snapHeld_held, 0), (⟨Reg.opstat 0, 0, 64⟩, 3), (Fld.wqCfg_partition 0, 0), (Fld.aryStatus_in_service 0, 1), (Fld.aryStatus_state 0, 1), (Fld.hsmStackStatus_state 0, 0), (Fld.hsmStackStatus_mapout_phase 0, 0), (Fld.aryCtrl_hold 0, 0), (Fld.teSpareStatus_state 0, 0)]) with ctl.ops := [(0, some (opw [(0, 1, 1)]))], comp.arrays := [(0, { arrw with segs := [⟨pidw, [], [0], [], [], [], []⟩], loading := some (pidw, 0) })], comp.mm := [(0, some mmw)] }, 0, 1, 0, false, false, pidw, mmw, (opw [(0, 1, 1)]), ?_, ?_, ?_, ?_, ?_, ?_, ?_, ?_, ?_, ?_, ?_, ?_, ?_, (fun _ => by decide +kernel), ?_⟩ <;> decide +kernel

theorem witness_PassesRetireFaultAndAreRepaired_0 : ∃ (s : State) (a : Fin 4) (f : Flight) (rest : List Flight) (m : MmRun) (g : Seg) (res : List (Nat × Nat × (Val × Bool))) (vals : List (Nat × Nat × Word32)), s.Live ∧ (s.arr a).flight = f :: rest ∧ f.inject = none ∧ s.serving = true ∧ s.mm f.id.slot = some m ∧ s.opRunning f.id.slot f.id.admitNo = true ∧ (s.arr a).segs.find? (fun g => g.id == f.id) = some g ∧ res = m.passResults f g ∧ vals = (s.arr a).foldVals m f.id g res :=
  by refine ⟨{ (st [(Fld.bootStatus_stage, 6), (Fld.thmSaveStatus_state, 0), (Fld.snapHeld_held, 0), (⟨Reg.opstat 0, 0, 64⟩, 3), (Fld.wqCfg_partition 0, 0), (Fld.aryStatus_in_service 0, 1), (Fld.aryStatus_state 0, 1), (Fld.hsmStackStatus_state 0, 0), (Fld.hsmStackStatus_mapout_phase 0, 0)]) with ctl.ops := [(0, some (opw [(0, 1, 1)]))], comp.arrays := [(0, { arrw with flight := [⟨pidw, 0, 1, none, []⟩], segs := [⟨pidw, [], [0], [], [], [], []⟩], staged := [⟨pidw, []⟩] })], comp.mm := [(0, some mmw)] }, 0, ⟨pidw, 0, 1, none, []⟩, [], mmw, ⟨pidw, [], [0], [], [], [], []⟩, _, _, ?_, ?_, ?_, ?_, ?_, ?_, ?_, rfl, rfl⟩ <;> decide +kernel
theorem witness_PassesRetireFaultAndAreRepaired_1 : ∃ (s : State) (a : Fin 4) (f : Flight) (rest : List Flight) (m : MmRun), s.Live ∧ (s.arr a).flight = f :: rest ∧ f.inject = none ∧ s.serving = true ∧ s.mm f.id.slot = some m ∧ s.opRunning f.id.slot f.id.admitNo = false :=
  by
  refine ⟨{ (st [(Fld.bootStatus_stage, 6), (Fld.thmSaveStatus_state, 0), (Fld.snapHeld_held, 0), (⟨Reg.opstat 0, 0, 64⟩, 3), (Fld.wqCfg_partition 0, 0), (Fld.aryStatus_in_service 0, 1), (Fld.aryStatus_state 0, 1), (Fld.hsmStackStatus_state 0, 0), (Fld.hsmStackStatus_mapout_phase 0, 0), (⟨Reg.opstat 0, 0, 64⟩, 9)]) with ctl.ops := [(0, some (opw [(0, 1, 1)]))], comp.arrays := [(0, { arrw with flight := [⟨pidw, 0, 1, none, []⟩] })], comp.mm := [(0, some mmw)] }, 0, ⟨pidw, 0, 1, none, []⟩, [], mmw, ?_⟩
  and_intros <;> decide +kernel
theorem witness_PassesRetireFaultAndAreRepaired_2 : ∃ (s : State) (a : Fin 4), s.Live ∧ s.outranked a = true ∧ (s.arr a).redo = [] ∧ s.arrayLive a = true :=
  by
  refine ⟨{ (st [(Fld.bootStatus_stage, 6), (Fld.thmSaveStatus_state, 0), (Fld.snapHeld_held, 0), (⟨Reg.opstat 0, 0, 64⟩, 3), (⟨Reg.opstat 1, 0, 64⟩, 3), (Fld.wqCfg_queue_prio 0, 0), (Fld.wqCfg_queue_prio 1, 1), (Fld.aryStatus_in_service 0, 1), (Fld.aryStatus_state 0, 1)]) with ctl.ops := [(0, some (opw [(0, 1, 1)])), (1, some ({ opw [(0, 1, 1)] with wq := 1, admitNo := 2 } : Op))], comp.arrays := [(0, { arrD 0 with runs := [⟨0, 1, [0], 0⟩, ⟨1, 2, [0], 0⟩], cur := some 1 })] }, 0, ?_⟩
  and_intros <;> decide +kernel
theorem witness_PassesRetireFaultAndAreRepaired_3 : ∃ (s : State) (a : Fin 4) (idx : Fin 3) (_row : Fin 1024) (_col : Fin 512) (_cyc : Nat) (f : Flight), s.Live ∧ (s.arr a).flight[idx.val]? = some f ∧ s.arrayInService a = true :=
  by
  refine ⟨{ (st [(Fld.bootStatus_stage, 6), (Fld.thmSaveStatus_state, 0), (Fld.snapHeld_held, 0), (⟨Reg.opstat 0, 0, 64⟩, 3), (Fld.wqCfg_partition 0, 0), (Fld.aryStatus_in_service 0, 1), (Fld.aryStatus_state 0, 1), (Fld.hsmStackStatus_state 0, 0), (Fld.hsmStackStatus_mapout_phase 0, 0)]) with ctl.ops := [(0, some (opw [(0, 1, 1)]))], comp.arrays := [(0, { arrw with flight := [⟨pidw, 0, 1, none, []⟩] })], comp.mm := [(0, some mmw)] }, 0, 0, 1023, 511, 0, ⟨pidw, 0, 1, none, []⟩, ?_⟩
  and_intros <;> decide +kernel
theorem witness_PassesRetireFaultAndAreRepaired_4 : ∃ (s : State) (a : Fin 4) (idx : Fin 3) (_row : Fin 1024) (_col : Fin 512) (_cyc : Nat) (f : Flight), s.Live ∧ (s.arr a).flight[idx.val]? = some f ∧ s.arrayInService a = true ∧ f.inject = none :=
  by
  refine ⟨{ (st [(Fld.bootStatus_stage, 6), (Fld.thmSaveStatus_state, 0), (Fld.snapHeld_held, 0), (⟨Reg.opstat 0, 0, 64⟩, 3), (Fld.wqCfg_partition 0, 0), (Fld.aryStatus_in_service 0, 1), (Fld.aryStatus_state 0, 1), (Fld.hsmStackStatus_state 0, 0), (Fld.hsmStackStatus_mapout_phase 0, 0)]) with ctl.ops := [(0, some (opw [(0, 1, 1)]))], comp.arrays := [(0, { arrw with flight := [⟨pidw, 0, 1, none, []⟩] })], comp.mm := [(0, some mmw)] }, 0, 0, 1023, 511, 0, ⟨pidw, 0, 1, none, []⟩, ?_⟩
  and_intros <;> decide +kernel
theorem witness_PassesRetireFaultAndAreRepaired_5 : ∃ (s : State) (a : Fin 4) (_idx : Nat) (f : Flight) (e : PassError), (s.arr a).attempts.find? (fun y => y.id == f.id) = none ∧ 1 ≤ s.f (Fld.aryCtrl_reissue_limit a) ∧ e.col < 512 :=
  by
  refine ⟨{ (st [(Fld.bootStatus_stage, 6), (Fld.thmSaveStatus_state, 0), (Fld.snapHeld_held, 0), (⟨Reg.opstat 0, 0, 64⟩, 3), (Fld.wqCfg_partition 0, 0), (Fld.aryStatus_in_service 0, 1), (Fld.aryStatus_state 0, 1), (Fld.hsmStackStatus_state 0, 0), (Fld.hsmStackStatus_mapout_phase 0, 0), (Fld.aryCtrl_reissue_limit 0, 1)]) with ctl.ops := [(0, some (opw [(0, 1, 1)]))], comp.arrays := [(0, { arrw with flight := [⟨pidw, 0, 1, none, []⟩] })], comp.mm := [(0, some mmw)] }, 0, 0, ⟨pidw, 0, 1, none, []⟩, ⟨4, 0, 511, 0⟩, ?_⟩
  and_intros <;> decide +kernel
theorem witness_PassesRetireFaultAndAreRepaired_6 : ∃ (s : State) (a : Fin 4) (idx : Fin 3) (kind : Fin 8) (_row : Fin 1024) (_col : Fin 512) (_cyc : Nat) (f : Flight), s.Live ∧ (s.arr a).flight[idx.val]? = some f ∧ s.arrayInService a = true ∧ kind ≠ 5 :=
  by
  refine ⟨{ (st [(Fld.bootStatus_stage, 6), (Fld.thmSaveStatus_state, 0), (Fld.snapHeld_held, 0), (⟨Reg.opstat 0, 0, 64⟩, 3), (Fld.wqCfg_partition 0, 0), (Fld.aryStatus_in_service 0, 1), (Fld.aryStatus_state 0, 1), (Fld.hsmStackStatus_state 0, 0), (Fld.hsmStackStatus_mapout_phase 0, 0)]) with ctl.ops := [(0, some (opw [(0, 1, 1)]))], comp.arrays := [(0, { arrw with flight := [⟨pidw, 0, 1, none, []⟩] })], comp.mm := [(0, some mmw)] }, 0, 0, 4, 1023, 511, 0, ⟨pidw, 0, 1, none, []⟩, ?_⟩
  and_intros <;> decide +kernel
theorem witness_PassesRetireFaultAndAreRepaired_7 : ∃ (s : State) (a : Fin 4) (w : Writer) (v : Word32), s.Live ∧ s.Accepts w (Reg.aryRepairReq a) v.toNat ∧ bits v.toNat 31 1 = 1 ∧ s.flag (repairValidF a (bits v.toNat 0 10 / 128)) = false ∧ s.arrayInService a = true ∧ (s.arr a).repairPending (bits v.toNat 0 10 / 128) = false :=
  by
  refine ⟨(st [(Fld.aryStatus_in_service 3, 1), (repairValidF 3 0, 0)]), 3, .lead, 2147483648, ?_⟩
  and_intros <;> decide +kernel
theorem witness_PassesRetireFaultAndAreRepaired_8 : ∃ (s : State) (a : Fin 4) (w : Writer) (v : Word32), s.Live ∧ s.Accepts w (Reg.aryInject a) v.toNat ∧ bits v.toNat 31 1 = 1 ∧ bits v.toNat 19 2 ≠ 3 :=
  by
  refine ⟨(st []), 3, .lead, 2147483648, ?_⟩
  and_intros <;> decide +kernel
theorem witness_PassesRetireFaultAndAreRepaired_9 : ∃ (s : State) (a : Fin 4) (b : Nat) (row : Nat) (src : Nat), s.Live ∧ (s.arr a).repair = [(b, row, src)] ∧ (s.arr a).flight = [] ∧ s.arrayLive a = true ∧ b < 8 ∧ row < 128 :=
  by
  refine ⟨{ (st [(Fld.bootStatus_stage, 6), (Fld.thmSaveStatus_state, 0), (Fld.snapHeld_held, 0), (⟨Reg.opstat 0, 0, 64⟩, 3), (Fld.wqCfg_partition 0, 0), (Fld.aryStatus_in_service 0, 1), (Fld.aryStatus_state 0, 1), (Fld.hsmStackStatus_state 0, 0), (Fld.hsmStackStatus_mapout_phase 0, 0)]) with ctl.ops := [(0, some (opw [(0, 1, 1)]))], comp.arrays := [(0, { arrw with repair := [(7, 127, 0)] })], comp.mm := [(0, some mmw)] }, 0, 7, 127, 0, ?_⟩
  and_intros <;> decide +kernel

theorem witness_TilesAreConvertedAccumulatedAndChecked_0 : ∃ (s : State) (a : Fin 4) (alongM : Bool) (m0 : Nat) (k0 : Nat) (i : PassId) (m : MmRun) (o : Op) (g : Seg) (x : ArrState), s.Live ∧ s.nextPass a = some i ∧ s.mm i.slot = some m ∧ s.op i.slot = some o ∧ s.arrayLive a = true ∧ s.segFor a m i = some (g, x) ∧ (((s.arr a).segs.all (fun y => y.id != i)) = true → s.segPoisoned m i = false) ∧ g.qx.contains 0xFF = false ∧ g.qw.contains 0xFF = false ∧ (m.stirrupRun i g alongM m0 k0).any (fun e => s.chanWaits (m.xd.elemRun 0 (m.xPlace i e).1 (m.xPlace i e).2).1 (m.xd.elemRun 0 (m.xPlace i e).1 (m.xPlace i e).2).2) = false ∧ (s.stirrupVals m i (m.stirrupRun i g alongM m0 k0)).any (fun v => v.2 == .poison) = false ∧ (s.stirrupVals m i (m.stirrupRun i g alongM m0 k0)).any (fun v => v.2 == .bad) = false :=
  by refine ⟨{ (st [(Fld.bootStatus_stage, 6), (Fld.thmSaveStatus_state, 0), (Fld.snapHeld_held, 0), (⟨Reg.opstat 0, 0, 64⟩, 3), (Fld.wqCfg_partition 0, 0), (Fld.aryStatus_in_service 0, 1), (Fld.aryStatus_state 0, 1), (Fld.hsmStackStatus_state 0, 0), (Fld.hsmStackStatus_mapout_phase 0, 0)]) with ctl.ops := [(0, some (opw [(0, 1, 1)]))], comp.arrays := [(0, { arrw with redo := [] })], comp.mm := [(0, some mmw)] }, 0, false, 0, 0, pidw, mmw, (opw [(0, 1, 1)]), _, _, ?_, ?_, ?_, ?_, ?_, some_pair (d := (⟨pidw, [], [], [], [], [], []⟩, arrD 0)) (by decide +kernel), (fun _ => by decide +kernel), ?_⟩ <;> and_intros <;> decide +kernel
theorem witness_TilesAreConvertedAccumulatedAndChecked_1 : ∃ (s : State) (a : Fin 4) (i : PassId) (m : MmRun) (tl : Nat) (x : ArrState), s.Live ∧ s.nextTile a = some (i, m, tl, x) ∧ s.skiveMay a = true ∧ (m.supplied i.unit tl).any (fun r => s.chanWaits r.1 r.2) = false ∧ (m.supplied i.unit tl).any (fun r => s.poisoned r.1 r.2) = false ∧ (s.skive a x m i tl).2.2 = false :=
  by
  refine ⟨{ (st [(Fld.bootStatus_stage, 6), (Fld.thmSaveStatus_state, 0), (Fld.snapHeld_held, 0), (⟨Reg.opstat 0, 0, 64⟩, 3), (Fld.wqCfg_partition 0, 0), (Fld.aryStatus_in_service 0, 1), (Fld.aryStatus_state 0, 1), (Fld.hsmStackStatus_state 0, 0), (Fld.hsmStackStatus_mapout_phase 0, 0)]) with ctl.ops := [(0, some (opw [(0, 1, 1)]))], comp.arrays := [(0, { arrw with finals := [pidw] })], comp.mm := [(0, some mmw)] }, 0, pidw, mmw, 0, { arrw with finals := [pidw] }, ?_⟩
  and_intros <;> decide +kernel
theorem witness_TilesAreConvertedAccumulatedAndChecked_2 : ∃ (s : State) (a : Fin 4) (i : PassId) (m : MmRun) (tl : Nat), s.Live ∧ s.finalTile a true = some (i, m, tl) ∧ s.serving = true ∧ s.quiet (s.partOfCs a) = false ∧ ((s.arr a).finalWords m i tl).any (fun e => s.chanWaits e.1 4) = false ∧ ((s.arr a).finalWords m i tl).any (fun e => s.poisoned e.1 4) = false :=
  by
  refine ⟨{ (st [(Fld.bootStatus_stage, 6), (Fld.thmSaveStatus_state, 0), (Fld.snapHeld_held, 0), (⟨Reg.opstat 0, 0, 64⟩, 3), (Fld.wqCfg_partition 0, 0), (Fld.aryStatus_in_service 0, 1), (Fld.aryStatus_state 0, 1), (Fld.hsmStackStatus_state 0, 0), (Fld.hsmStackStatus_mapout_phase 0, 0)]) with ctl.ops := [(0, some (opw [(0, 1, 1)]))], comp.arrays := [(0, { arrw with finals := [pidw] })], comp.mm := [(0, some ({ mmw with accumulate := true } : MmRun))] }, 0, pidw, ({ mmw with accumulate := true } : MmRun), 0, ?_⟩
  and_intros <;> decide +kernel
theorem witness_TilesAreConvertedAccumulatedAndChecked_3 : ∃ (s : State) (e : Fin 64) (v : Nat) (k : Task) (i : PassId) (m : MmRun), s.Live ∧ s.currentTask e = some k ∧ s.mm k.slot = some m ∧ (s.arr (e.val / 16)).finals.find? (fun i => i.slot == k.slot && i.admitNo == k.admitNo && i.unit == k.unit) = some i ∧ k.kind = 1 ∧ k.rows.contains v = true ∧ s.serving = true ∧ (s.stopOf (s.partOfCs (e.val / 16))).isSome = false ∧ s.engRuns e k = true :=
  by
  refine ⟨{ (st [(Fld.bootStatus_stage, 6), (Fld.thmSaveStatus_state, 0), (Fld.snapHeld_held, 0), (⟨Reg.opstat 0, 0, 64⟩, 3), (Fld.wqCfg_partition 0, 0), (Fld.aryStatus_in_service 0, 1), (Fld.aryStatus_state 0, 1), (Fld.hsmStackStatus_state 0, 0), (Fld.hsmStackStatus_mapout_phase 0, 0), (Fld.teStatus_state 0, 0)]) with ctl.ops := [(0, some (opw [(0, 1, 1)]))], comp.arrays := [(0, { arrw with finals := [pidw] })], comp.mm := [(0, some ({ mmw with epi := [0] } : MmRun))], comp.engines := [(0, ⟨[⟨1, 0, 1, 0, [0], 0, 0, 0, [], [], [], 0, 0, 0, [], 0, none⟩], [], none, []⟩)] }, 0, 0, ⟨1, 0, 1, 0, [0], 0, 0, 0, [], [], [], 0, 0, 0, [], 0, none⟩, pidw, ({ mmw with epi := [0] } : MmRun), ?_⟩
  and_intros <;> decide +kernel
theorem witness_TilesAreConvertedAccumulatedAndChecked_4 : ∃ (s : State) (slot : Fin 4096) (l : Nat) (j : Fin 4) (m : MmRun) (o : Op) (e : Nat) (k : Task), s.Live ∧ s.mm slot = some m ∧ s.op slot = some o ∧ s.awlEngine slot l j = some (e, k) ∧ s.serving = true ∧ (s.stopOf (s.opPart o)).isSome = false ∧ (m.awlRuns l j).any (fun r => s.chanWaits r.1 r.2) = false ∧ (m.awlRuns l j).any (fun r => s.poisoned r.1 r.2) = false ∧ (m.awlShares l).all (fun i => (m.awlParts ++ [(l, j.val, s.awlRatios (s.opPart o) m l j)]).any (fun q => q.1 == l && q.2.1 == i)) = false :=
  by
  refine ⟨{ (st [(Fld.bootStatus_stage, 6), (Fld.thmSaveStatus_state, 0), (Fld.snapHeld_held, 0), (⟨Reg.opstat 0, 0, 64⟩, 3), (Fld.wqCfg_partition 0, 0), (Fld.aryStatus_in_service 0, 1), (Fld.aryStatus_state 0, 1), (Fld.hsmStackStatus_state 0, 0), (Fld.hsmStackStatus_mapout_phase 0, 0), (⟨Reg.numpol 0, 0, 64⟩, 0), (Fld.teStatus_state 0, 0)]) with ctl.ops := [(0, some (opw [(0, 1, 1)]))], comp.arrays := [(0, { arrw with redo := [] })], comp.mm := [(0, some ({ mmw with n := 33, awlTiles := [0], awlSums := [(0, 0)] } : MmRun))], comp.engines := [(0, ⟨[⟨2, 0, 1, 0, [0], 0, 0, 0, [], [], [], 0, 0, 0, [], 0, none⟩], [], none, []⟩)] }, 0, 0, 0, ({ mmw with n := 33, awlTiles := [0], awlSums := [(0, 0)] } : MmRun), (opw [(0, 1, 1)]), 0, ⟨2, 0, 1, 0, [0], 0, 0, 0, [], [], [], 0, 0, 0, [], 0, none⟩, ?_⟩
  and_intros <;> decide +kernel
theorem witness_TilesAreConvertedAccumulatedAndChecked_5 : ∃ (s : State) (slot : Fin 4096) (l : Nat) (j : Fin 4) (m : MmRun) (o : Op) (e : Nat) (k : Task), s.Live ∧ s.mm slot = some m ∧ s.op slot = some o ∧ s.awlEngine slot l j = some (e, k) ∧ s.serving = true ∧ (s.stopOf (s.opPart o)).isSome = false ∧ (m.awlRuns l j).any (fun r => s.chanWaits r.1 r.2) = false ∧ (m.awlRuns l j).any (fun r => s.poisoned r.1 r.2) = false ∧ (m.awlShares l).all (fun i => (m.awlParts ++ [(l, j.val, s.awlRatios (s.opPart o) m l j)]).any (fun q => q.1 == l && q.2.1 == i)) = true ∧ (((m.awlParts ++ [(l, j.val, s.awlRatios (s.opPart o) m l j)]).filter (fun q => q.1 == l)).flatMap (fun q => q.2.2)).isEmpty = true :=
  by
  refine ⟨{ (st [(Fld.bootStatus_stage, 6), (Fld.thmSaveStatus_state, 0), (Fld.snapHeld_held, 0), (⟨Reg.opstat 0, 0, 64⟩, 3), (Fld.wqCfg_partition 0, 0), (Fld.aryStatus_in_service 0, 1), (Fld.aryStatus_state 0, 1), (Fld.hsmStackStatus_state 0, 0), (Fld.hsmStackStatus_mapout_phase 0, 0), (⟨Reg.numpol 0, 0, 64⟩, 0), (Fld.teStatus_state 0, 0)]) with ctl.ops := [(0, some (opw [(0, 1, 1)]))], comp.arrays := [(0, { arrw with redo := [] })], comp.mm := [(0, some ({ mmw with n := 1, awlTiles := [0], awlSums := [(0, 0)] } : MmRun))], comp.engines := [(0, ⟨[⟨2, 0, 1, 0, [0], 0, 0, 0, [], [], [], 0, 0, 0, [], 0, none⟩], [], none, []⟩)] }, 0, 0, 0, ({ mmw with n := 1, awlTiles := [0], awlSums := [(0, 0)] } : MmRun), (opw [(0, 1, 1)]), 0, ⟨2, 0, 1, 0, [0], 0, 0, 0, [], [], [], 0, 0, 0, [], 0, none⟩, ?_⟩
  and_intros <;> decide +kernel
theorem witness_TilesAreConvertedAccumulatedAndChecked_6 : ∃ (s : State) (slot : Fin 4096) (l : Nat) (j : Fin 4) (m : MmRun) (o : Op) (e : Nat) (k : Task), s.Live ∧ s.mm slot = some m ∧ s.op slot = some o ∧ s.awlEngine slot l j = some (e, k) ∧ s.serving = true ∧ (s.stopOf (s.opPart o)).isSome = false ∧ (m.awlRuns l j).any (fun r => s.chanWaits r.1 r.2) = false ∧ (m.awlRuns l j).any (fun r => s.poisoned r.1 r.2) = false ∧ (m.awlShares l).all (fun i => (m.awlParts ++ [(l, j.val, s.awlRatios (s.opPart o) m l j)]).any (fun q => q.1 == l && q.2.1 == i)) = true ∧ (((m.awlParts ++ [(l, j.val, s.awlRatios (s.opPart o) m l j)]).filter (fun q => q.1 == l)).flatMap (fun q => q.2.2)).isEmpty = false :=
  by
  refine ⟨{ (st [(Fld.bootStatus_stage, 6), (Fld.thmSaveStatus_state, 0), (Fld.snapHeld_held, 0), (⟨Reg.opstat 0, 0, 64⟩, 3), (Fld.wqCfg_partition 0, 0), (Fld.aryStatus_in_service 0, 1), (Fld.aryStatus_state 0, 1), (Fld.hsmStackStatus_state 0, 0), (Fld.hsmStackStatus_mapout_phase 0, 0), (⟨Reg.numpol 0, 0, 64⟩, 0), (Fld.teStatus_state 0, 0)]) with ctl.ops := [(0, some (opw [(0, 1, 1)]))], comp.arrays := [(0, { arrw with redo := [] })], comp.mm := [(0, some ({ mmw with n := 1, awlTiles := [0], awlSums := [(0, 0x3F800000)] } : MmRun))], comp.engines := [(0, ⟨[⟨2, 0, 1, 0, [0], 0, 0, 0, [], [], [], 0, 0, 0, [], 0, none⟩], [], none, []⟩)] }, 0, 0, 0, ({ mmw with n := 1, awlTiles := [0], awlSums := [(0, 0x3F800000)] } : MmRun), (opw [(0, 1, 1)]), 0, ⟨2, 0, 1, 0, [0], 0, 0, 0, [], [], [], 0, 0, 0, [], 0, none⟩, ?_⟩
  and_intros <;> decide +kernel
theorem witness_TilesAreConvertedAccumulatedAndChecked_7 : ∃ (s : State) (slot : Fin 4096) (l : Nat) (j : Fin 4) (m : MmRun) (o : Op) (e : Nat) (k : Task), s.Live ∧ s.mm slot = some m ∧ s.op slot = some o ∧ s.awlEngine slot l j = some (e, k) ∧ s.serving = true ∧ (s.stopOf (s.opPart o)).isSome = false ∧ (m.awlRuns l j).any (fun r => s.chanWaits r.1 r.2) = false ∧ (m.awlRuns l j).any (fun r => s.poisoned r.1 r.2) = true :=
  by
  refine ⟨{ (st [(Fld.bootStatus_stage, 6), (Fld.thmSaveStatus_state, 0), (Fld.snapHeld_held, 0), (⟨Reg.opstat 0, 0, 64⟩, 3), (Fld.wqCfg_partition 0, 0), (Fld.aryStatus_in_service 0, 1), (Fld.aryStatus_state 0, 1), (Fld.hsmStackStatus_state 0, 0), (Fld.hsmStackStatus_mapout_phase 0, 0), (⟨Reg.numpol 0, 0, 64⟩, 0), (Fld.teStatus_state 0, 0)]) with ctl.ops := [(0, some (opw [(0, 1, 1)]))], comp.arrays := [(0, { arrw with redo := [] })], comp.mm := [(0, some ({ mmw with n := 1, awlTiles := [0], awlSums := [(0, 0)] } : MmRun))], comp.engines := [(0, ⟨[⟨2, 0, 1, 0, [0], 0, 0, 0, [], [], [], 0, 0, 0, [], 0, none⟩], [], none, []⟩)], poison := [(4096, true)] }, 0, 0, 0, ({ mmw with n := 1, awlTiles := [0], awlSums := [(0, 0)] } : MmRun), (opw [(0, 1, 1)]), 0, ⟨2, 0, 1, 0, [0], 0, 0, 0, [], [], [], 0, 0, 0, [], 0, none⟩, ?_⟩
  and_intros <;> decide +kernel

theorem witness_RingMarkersAreObeyed_0 : ∃ (s : State) (n : Fin 12) (i : Nat) (p : Packet) (h : RingHdr) (g : Group) (b : RingBucket), s.MarkerDue n 4 i p h g ∧ s.bucket h.group = some b ∧ b.bseq = h.bseq ∧ b.epoch = h.epoch :=
  by
  refine ⟨{ (st [(Fld.lnkNodeId_position, 0), (Fld.lnkSlot_kind 0, 1), (Fld.lnkSlot_job_id 0, 5), (Fld.lnkSlot_partition 0, 0), (Fld.thmSaveStatus_state, 0), (Fld.snapHeld_held, 0)]) with links := rxs 0 (rpk ⟨1, 4, 0, 0, 0, 0, 0, 0, 0⟩), red.groups := [(1, some (grpw 2))], red.buckets := [(1, some (bktw 0))] }, 0, 0, rpk ⟨1, 4, 0, 0, 0, 0, 0, 0, 0⟩, ⟨1, 4, 0, 0, 0, 0, 0, 0, 0⟩, (grpw 2), (bktw 0), ⟨by decide +kernel, by decide +kernel, (by decide +kernel), by decide +kernel⟩, ?_⟩
  and_intros <;> decide +kernel
theorem witness_RingMarkersAreObeyed_1 : ∃ (s : State) (n : Fin 12) (i : Nat) (p : Packet) (h : RingHdr) (g : Group) (t : State), s.MarkerDue n 4 i p h g ∧ (s.bucket h.group = none ∧ g.nextBseq ≤ h.bseq ∨ ∃ b, s.bucket h.group = some b ∧ (b.bseq < h.bseq ∨ b.bseq = h.bseq ∧ b.epoch ≠ h.epoch)) ∧ t = (s.consumeRx n i).setGrp h.group (some { g with earlyEntry := g.earlyEntry ++ [(h.bseq, h.epoch)] }) :=
  ⟨{ (st [(Fld.lnkNodeId_position, 0), (Fld.lnkSlot_kind 0, 1), (Fld.lnkSlot_job_id 0, 5), (Fld.lnkSlot_partition 0, 0), (Fld.thmSaveStatus_state, 0), (Fld.snapHeld_held, 0)]) with links := rxs 0 (rpk ⟨1, 4, 0, 0, 0, 0, 0, 0, 0⟩), red.groups := [(1, some (grpw 2))] }, 0, 0, rpk ⟨1, 4, 0, 0, 0, 0, 0, 0, 0⟩, ⟨1, 4, 0, 0, 0, 0, 0, 0, 0⟩, (grpw 2), _, ⟨by decide +kernel, by decide +kernel, (by decide +kernel), by decide +kernel⟩, Or.inl (by decide +kernel), rfl⟩
theorem witness_RingMarkersAreObeyed_2 : ∃ (s : State) (n : Fin 12) (i : Nat) (p : Packet) (h : RingHdr) (g : Group), s.MarkerDue n 5 i p h g ∧ h.chunk = g.self ∧ h.wire = 1 :=
  by
  refine ⟨{ (st [(Fld.lnkNodeId_position, 0), (Fld.lnkSlot_kind 0, 1), (Fld.lnkSlot_job_id 0, 5), (Fld.lnkSlot_partition 0, 0), (Fld.thmSaveStatus_state, 0), (Fld.snapHeld_held, 0)]) with links := rxs 0 (rpk ⟨1, 5, 1, 0, 0, 0, 0, 0, 0⟩), red.groups := [(1, some (grpw 2))] }, 0, 0, rpk ⟨1, 5, 1, 0, 0, 0, 0, 0, 0⟩, ⟨1, 5, 1, 0, 0, 0, 0, 0, 0⟩, (grpw 2), ⟨by decide +kernel, by decide +kernel, (by decide +kernel), by decide +kernel⟩, ?_⟩
  and_intros <;> decide +kernel
theorem witness_RingMarkersAreObeyed_3 : ∃ (s : State) (n : Fin 12) (i : Nat) (p : Packet) (h : RingHdr) (g : Group), s.MarkerDue n 5 i p h g ∧ (h.chunk ≠ g.self ∨ h.wire ≠ 1) :=
  ⟨{ (st [(Fld.lnkNodeId_position, 0), (Fld.lnkSlot_kind 0, 1), (Fld.lnkSlot_job_id 0, 5), (Fld.lnkSlot_partition 0, 0), (Fld.thmSaveStatus_state, 0), (Fld.snapHeld_held, 0)]) with links := rxs 0 (rpk ⟨1, 5, 0, 0, 0, 0, 0, 0, 0⟩), red.groups := [(1, some (grpw 2))] }, 0, 0, rpk ⟨1, 5, 0, 0, 0, 0, 0, 0, 0⟩, ⟨1, 5, 0, 0, 0, 0, 0, 0, 0⟩, (grpw 2), ⟨by decide +kernel, by decide +kernel, (by decide +kernel), by decide +kernel⟩, Or.inr (by decide +kernel)⟩
theorem witness_RingMarkersAreObeyed_4 : ∃ (s : State) (n : Fin 12) (i : Nat) (p : Packet) (h : RingHdr) (g : Group) (b : RingBucket), s.MarkerDue n 6 i p h g ∧ s.bucket h.group = some b ∧ b.bseq = h.bseq ∧ b.epoch ≠ h.epoch ∧ leaderOf ((s.bLive g b).filter (fun p => p != h.chunk)) ≠ g.self :=
  by
  refine ⟨{ (st [(Fld.lnkNodeId_position, 0), (Fld.lnkSlot_kind 0, 1), (Fld.lnkSlot_job_id 0, 5), (Fld.lnkSlot_partition 0, 0), (Fld.thmSaveStatus_state, 0), (Fld.snapHeld_held, 0)]) with links := rxs 0 (rpk ⟨1, 6, 0, 0, 0, 1, 0, 0, 0⟩), red.groups := [(1, some (grpw 2))], red.buckets := [(1, some (bktw 0))] }, 0, 0, rpk ⟨1, 6, 0, 0, 0, 1, 0, 0, 0⟩, ⟨1, 6, 0, 0, 0, 1, 0, 0, 0⟩, (grpw 2), (bktw 0), ⟨by decide +kernel, by decide +kernel, (by decide +kernel), by decide +kernel⟩, ?_⟩
  and_intros <;> decide +kernel
theorem witness_RingMarkersAreObeyed_5 : ∃ (s : State) (n : Fin 12) (i : Nat) (p : Packet) (h : RingHdr) (g : Group) (b : RingBucket), s.MarkerDue n 6 i p h g ∧ s.bucket h.group = some b ∧ b.bseq = h.bseq ∧ b.epoch ≠ h.epoch ∧ leaderOf ((s.bLive g b).filter (fun p => p != h.chunk)) = g.self :=
  by
  refine ⟨{ (st [(Fld.lnkNodeId_position, 0), (Fld.lnkSlot_kind 0, 1), (Fld.lnkSlot_job_id 0, 5), (Fld.lnkSlot_partition 0, 0), (Fld.thmSaveStatus_state, 0), (Fld.snapHeld_held, 0)]) with links := rxs 0 (rpk ⟨1, 6, 0, 1, 0, 1, 0, 0, 0⟩), red.groups := [(1, some (grpw 2))], red.buckets := [(1, some (bktw 0))] }, 0, 0, rpk ⟨1, 6, 0, 1, 0, 1, 0, 0, 0⟩, ⟨1, 6, 0, 1, 0, 1, 0, 0, 0⟩, (grpw 2), (bktw 0), ⟨by decide +kernel, by decide +kernel, (by decide +kernel), by decide +kernel⟩, ?_⟩
  and_intros <;> decide +kernel
theorem witness_RingMarkersAreObeyed_6 : ∃ (s : State) (n : Fin 12) (i : Nat) (p : Packet) (h : RingHdr) (g : Group) (b : RingBucket), s.MarkerDue n 7 i p h g ∧ s.bucket h.group = some b ∧ b.bseq = h.bseq ∧ b.epoch = h.epoch ∧ leaderOf (s.bLive g b) = g.self ∧ b.finSent = true :=
  by
  refine ⟨{ (st [(Fld.lnkNodeId_position, 0), (Fld.lnkSlot_kind 0, 1), (Fld.lnkSlot_job_id 0, 5), (Fld.lnkSlot_partition 0, 0), (Fld.thmSaveStatus_state, 0), (Fld.snapHeld_held, 0)]) with links := rxs 0 (rpk ⟨1, 7, 0, 0, 0, 0, 0, 0, 0⟩), red.groups := [(1, some (grpw 2))], red.buckets := [(1, some ({ bktw 0 with finSent := true } : RingBucket))] }, 0, 0, rpk ⟨1, 7, 0, 0, 0, 0, 0, 0, 0⟩, ⟨1, 7, 0, 0, 0, 0, 0, 0, 0⟩, (grpw 2), ({ bktw 0 with finSent := true } : RingBucket), ⟨by decide +kernel, by decide +kernel, (by decide +kernel), by decide +kernel⟩, ?_⟩
  and_intros <;> decide +kernel
theorem witness_RingMarkersAreObeyed_7 : ∃ (s : State) (n : Fin 12) (i : Nat) (p : Packet) (h : RingHdr) (g : Group) (b : RingBucket), s.MarkerDue n 7 i p h g ∧ s.bucket h.group = some b ∧ b.bseq = h.bseq ∧ b.epoch = h.epoch ∧ (leaderOf (s.bLive g b) ≠ g.self ∨ b.finSent = false) :=
  by
  refine ⟨{ (st [(Fld.lnkNodeId_position, 0), (Fld.lnkSlot_kind 0, 1), (Fld.lnkSlot_job_id 0, 5), (Fld.lnkSlot_partition 0, 0), (Fld.thmSaveStatus_state, 0), (Fld.snapHeld_held, 0)]) with links := rxs 0 (rpk ⟨1, 7, 0, 0, 0, 0, 0, 0, 0⟩), red.groups := [(1, some (grpw 2))], red.buckets := [(1, some (bktw 0))] }, 0, 0, rpk ⟨1, 7, 0, 0, 0, 0, 0, 0, 0⟩, ⟨1, 7, 0, 0, 0, 0, 0, 0, 0⟩, (grpw 2), (bktw 0), ⟨by decide +kernel, by decide +kernel, (by decide +kernel), by decide +kernel⟩, ?_⟩
  and_intros <;> decide +kernel
theorem witness_RingMarkersAreObeyed_8 : ∃ (s : State) (n : Fin 12) (i : Nat) (p : Packet) (h : RingHdr) (g : Group) (b : RingBucket), s.MarkerDue n 8 i p h g ∧ s.bucket h.group = some b ∧ b.bseq = h.bseq ∧ b.epoch = h.epoch :=
  by
  refine ⟨{ (st [(Fld.lnkNodeId_position, 0), (Fld.lnkSlot_kind 0, 1), (Fld.lnkSlot_job_id 0, 5), (Fld.lnkSlot_partition 0, 0), (Fld.thmSaveStatus_state, 0), (Fld.snapHeld_held, 0)]) with links := rxs 0 (rpk ⟨1, 8, 0, 0, 0, 0, 0, 0, 0⟩), red.groups := [(1, some (grpw 2))], red.buckets := [(1, some (bktw 0))] }, 0, 0, rpk ⟨1, 8, 0, 0, 0, 0, 0, 0, 0⟩, ⟨1, 8, 0, 0, 0, 0, 0, 0, 0⟩, (grpw 2), (bktw 0), ⟨by decide +kernel, by decide +kernel, (by decide +kernel), by decide +kernel⟩, ?_⟩
  and_intros <;> decide +kernel
theorem witness_RingMarkersAreObeyed_9 : ∃ (s : State) (n : Fin 12) (i : Nat) (p : Packet) (h : RingHdr) (g : Group) (t : State), s.MarkerDue n 9 i p h g ∧ t = (s.consumeRx n i).ringFatal h.group :=
  ⟨{ (st [(Fld.lnkNodeId_position, 0), (Fld.lnkSlot_kind 0, 1), (Fld.lnkSlot_job_id 0, 5), (Fld.lnkSlot_partition 0, 0), (Fld.thmSaveStatus_state, 0), (Fld.snapHeld_held, 0)]) with links := rxs 0 (rpk ⟨1, 9, 0, 0, 0, 0, 0, 0, 0⟩), red.groups := [(1, some (grpw 2))] }, 0, 0, rpk ⟨1, 9, 0, 0, 0, 0, 0, 0, 0⟩, ⟨1, 9, 0, 0, 0, 0, 0, 0, 0⟩, (grpw 2), _, ⟨by decide +kernel, by decide +kernel, (by decide +kernel), by decide +kernel⟩, rfl⟩

theorem witness_ChunksAreStagedFoldedAndGathered_0 : ∃ (s : State) (n : Fin 12) (gid : Nat) (b : RingBucket) (c : Nat), s.Live ∧ s.ringStands = false ∧ s.adderPick n = some (gid, b, c) :=
  by
  refine ⟨{ (st [(⟨Reg.numpol 0, 0, 64⟩, 0), (Fld.thmSaveStatus_state, 0), (Fld.snapHeld_held, 0)]) with red.groups := [(1, some (grpw 1))], red.buckets := [(1, some (bktw 0))] }, 11, 1, bktw 0, 0, ?_⟩
  and_intros <;> decide +kernel
theorem witness_ChunksAreStagedFoldedAndGathered_1 : ∃ (s : State) (n : Fin 12) (i : Nat) (p : Packet) (h : RingHdr) (g : Group) (b : RingBucket) (x : RChunk) (b1 : RingBucket), s.ChunkDue n 0 i p h g b ∧ b.kind ≠ 1 ∧ b.downEntry = true ∧ (b.tainted = true ∨ b.staged.contains h.chunk = true) ∧ ((chunkPath (s.bLive g b) g.n g.self (s.heritage g.part) h.chunk).2.isSome && !((chunkPath (s.bLive g b) g.n g.self (s.heritage g.part) h.chunk).1.any (fun q => g.node q == p.src))) = false ∧ (h.wire != b.wire || (bodyBlks p.body).map BlkHdr.scale != (b.startBlks h.chunk).map BlkHdr.scale) = false ∧ x = s.foldChunk g b p h false false ∧ b1 = { b with staged := b.staged.filter (fun c => c != h.chunk), started := b.started ++ [h.chunk] } :=
  ⟨{ (st [(Fld.lnkNodeId_position, 0), (Fld.lnkSlot_kind 0, 1), (Fld.lnkSlot_job_id 0, 5), (Fld.lnkSlot_partition 0, 0), (⟨Reg.numpol 0, 0, 64⟩, 0), (Fld.thmSaveStatus_state, 0), (Fld.snapHeld_held, 0)]) with links := rxs 0 (rpk ⟨1, 0, 1, 0, 0, 0, 0, 0, 0⟩), red.groups := [(1, some (grpw 2))], red.buckets := [(1, some ({ bktw 0 with staged := [0] } : RingBucket))] }, 0, 0, rpk ⟨1, 0, 1, 0, 0, 0, 0, 0, 0⟩, ⟨1, 0, 1, 0, 0, 0, 0, 0, 0⟩, (grpw 2), ({ bktw 0 with staged := [0] } : RingBucket), _, _, ⟨⟨by decide +kernel, by decide +kernel, (by decide +kernel), by decide +kernel⟩, by decide +kernel, by decide +kernel⟩, by decide +kernel, by decide +kernel, Or.inr (by decide +kernel), by decide +kernel, by decide +kernel, rfl, rfl⟩
theorem witness_ChunksAreStagedFoldedAndGathered_2 : ∃ (s : State) (n : Fin 12) (i : Nat) (p : Packet) (h : RingHdr) (g : Group) (b : RingBucket), s.ChunkDue n 0 i p h g b ∧ b.kind ≠ 1 ∧ b.downEntry = true ∧ b.tainted = false ∧ b.staged.contains h.chunk = false ∧ ((chunkPath (s.bLive g b) g.n g.self (s.heritage g.part) h.chunk).2.isSome && !((chunkPath (s.bLive g b) g.n g.self (s.heritage g.part) h.chunk).1.any (fun q => g.node q == p.src))) = false :=
  by
  refine ⟨{ (st [(Fld.lnkNodeId_position, 0), (Fld.lnkSlot_kind 0, 1), (Fld.lnkSlot_job_id 0, 5), (Fld.lnkSlot_partition 0, 0), (⟨Reg.numpol 0, 0, 64⟩, 0), (Fld.thmSaveStatus_state, 0), (Fld.snapHeld_held, 0)]) with links := rxs 0 (rpk ⟨1, 0, 1, 0, 0, 0, 0, 0, 0⟩), red.groups := [(1, some (grpw 2))], red.buckets := [(1, some (bktw 0))] }, 0, 0, rpk ⟨1, 0, 1, 0, 0, 0, 0, 0, 0⟩, ⟨1, 0, 1, 0, 0, 0, 0, 0, 0⟩, (grpw 2), (bktw 0), ⟨⟨by decide +kernel, by decide +kernel, (by decide +kernel), by decide +kernel⟩, by decide +kernel, by decide +kernel⟩, ?_⟩
  and_intros <;> decide +kernel
theorem witness_ChunksAreStagedFoldedAndGathered_3 : ∃ (s : State) (n : Fin 12) (i : Nat) (p : Packet) (h : RingHdr) (g : Group), s.MarkerDue n 0 i p h g ∧ s.chunkFate g h = ChunkFate.stale :=
  ⟨{ (st [(Fld.lnkNodeId_position, 0), (Fld.lnkSlot_kind 0, 1), (Fld.lnkSlot_job_id 0, 5), (Fld.lnkSlot_partition 0, 0), (Fld.thmSaveStatus_state, 0), (Fld.snapHeld_held, 0)]) with links := rxs 0 (rpk ⟨1, 0, 1, 0, 0, 1, 0, 0, 0⟩), red.groups := [(1, some (grpw 2))], red.buckets := [(1, some (bktw 0))] }, 0, 0, rpk ⟨1, 0, 1, 0, 0, 1, 0, 0, 0⟩, ⟨1, 0, 1, 0, 0, 1, 0, 0, 0⟩, (grpw 2), ⟨by decide +kernel, by decide +kernel, (by decide +kernel), by decide +kernel⟩, by decide +kernel⟩
theorem witness_ChunksAreStagedFoldedAndGathered_4 : ∃ (s : State) (n : Fin 12) (i : Nat) (p : Packet) (h : RingHdr) (g : Group), s.MarkerDue n 0 i p h g ∧ s.chunkFate g h = ChunkFate.wait :=
  ⟨{ (st [(Fld.lnkNodeId_position, 0), (Fld.lnkSlot_kind 0, 1), (Fld.lnkSlot_job_id 0, 5), (Fld.lnkSlot_partition 0, 0), (Fld.thmSaveStatus_state, 0), (Fld.snapHeld_held, 0)]) with links := rxs 0 (rpk ⟨1, 0, 1, 0, 1, 0, 0, 0, 0⟩), red.groups := [(1, some (grpw 2))] }, 0, 0, rpk ⟨1, 0, 1, 0, 1, 0, 0, 0, 0⟩, ⟨1, 0, 1, 0, 1, 0, 0, 0, 0⟩, (grpw 2), ⟨by decide +kernel, by decide +kernel, (by decide +kernel), by decide +kernel⟩, by decide +kernel⟩
theorem witness_ChunksAreStagedFoldedAndGathered_5 : ∃ (s : State) (n : Fin 12) (i : Nat) (p : Packet) (h : RingHdr) (g : Group) (b : RingBucket) (more : Bool) (u : State), s.ChunkDue n 1 i p h g b ∧ b.kind = 2 ∧ more = (ringNext (s.bLive g b) g.self != (finalMember (s.bLive g b) g.n g.self (s.heritage g.part) h.chunk)) ∧ (more = true → b.downEntry = true) ∧ (u = (if more then ((s.consumeRx n i).noteReined b (orBit h.flags cfReined (more && s.reined g.part))).legSend g (s.bLive g b) (RingHdr.toBytes { h with flags := orBit h.flags cfReined (more && s.reined g.part) } ++ p.body.drop 24) else (s.consumeRx n i).noteReined b (orBit h.flags cfReined (more && s.reined g.part)))) :=
  ⟨{ (st [(Fld.lnkNodeId_position, 0), (Fld.lnkSlot_kind 0, 1), (Fld.lnkSlot_job_id 0, 5), (Fld.lnkSlot_partition 0, 0), (⟨Reg.numpol 0, 0, 64⟩, 0), (Fld.thmSaveStatus_state, 0), (Fld.snapHeld_held, 0)]) with links := rxs 0 (rpk ⟨1, 1, 1, 0, 0, 0, 0, 0, 0⟩), red.groups := [(1, some (grpw 2))], red.buckets := [(1, some (bktw 2))] }, 0, 0, rpk ⟨1, 1, 1, 0, 0, 0, 0, 0, 0⟩, ⟨1, 1, 1, 0, 0, 0, 0, 0, 0⟩, (grpw 2), (bktw 2), _, _, ⟨⟨by decide +kernel, by decide +kernel, (by decide +kernel), by decide +kernel⟩, by decide +kernel, by decide +kernel⟩, by decide +kernel, rfl, by decide +kernel, rfl⟩
theorem witness_ChunksAreStagedFoldedAndGathered_6 : ∃ (s : State) (n : Fin 12) (i : Nat) (p : Packet) (h : RingHdr) (g : Group) (b : RingBucket) (more : Bool) (k : Nat) (d : Int) (u : State), s.ChunkDue n 1 i p h g b ∧ b.kind = 1 ∧ g.keeper (s.bLive g b) h.chunk = some (k, d) ∧ more = (ringNext (s.bLive g b) g.self != k) ∧ (more = true → b.downEntry = true) ∧ (u = (if more then ((s.consumeRx n i).noteReined b (orBit h.flags cfReined (more && s.reined g.part))).legSend g (s.bLive g b) (RingHdr.toBytes { h with flags := orBit h.flags cfReined (more && s.reined g.part) } ++ p.body.drop 24) else (s.consumeRx n i).noteReined b (orBit h.flags cfReined (more && s.reined g.part)))) :=
  ⟨{ (st [(Fld.lnkNodeId_position, 0), (Fld.lnkSlot_kind 0, 1), (Fld.lnkSlot_job_id 0, 5), (Fld.lnkSlot_partition 0, 0), (⟨Reg.numpol 0, 0, 64⟩, 0), (Fld.thmSaveStatus_state, 0), (Fld.snapHeld_held, 0)]) with links := rxs 0 (rpk ⟨1, 1, 1, 0, 0, 0, 0, 0, 0⟩), red.groups := [(1, some (grpw 2))], red.buckets := [(1, some (bktw 1))] }, 0, 0, rpk ⟨1, 1, 1, 0, 0, 0, 0, 0, 0⟩, ⟨1, 1, 1, 0, 0, 0, 0, 0, 0⟩, (grpw 2), (bktw 1), _, 1, 0, _, ⟨⟨by decide +kernel, by decide +kernel, (by decide +kernel), by decide +kernel⟩, by decide +kernel, by decide +kernel⟩, by decide +kernel, by decide +kernel, rfl, by decide +kernel, rfl⟩
theorem witness_ChunksAreStagedFoldedAndGathered_7 : ∃ (s : State) (n : Fin 12) (i : Nat) (p : Packet) (h : RingHdr) (g : Group) (b : RingBucket) (more : Bool) (u : State), s.ChunkDue n 2 i p h g b ∧ b.kind = 0 ∧ more = (ringNext (s.bLive g b) g.self != (finalMember (s.bLive g b) g.n g.self (s.heritage g.part) h.chunk)) ∧ (more = true → b.downEntry = true) ∧ (u = (if more then ((s.consumeRx n i).noteReined b h.flags).legSend g (s.bLive g b) p.body else (s.consumeRx n i).noteReined b h.flags)) :=
  ⟨{ (st [(Fld.lnkNodeId_position, 0), (Fld.lnkSlot_kind 0, 1), (Fld.lnkSlot_job_id 0, 5), (Fld.lnkSlot_partition 0, 0), (⟨Reg.numpol 0, 0, 64⟩, 0), (Fld.thmSaveStatus_state, 0), (Fld.snapHeld_held, 0)]) with links := rxs 0 (rpk ⟨1, 2, 1, 0, 0, 0, 0, 0, 0⟩), red.groups := [(1, some (grpw 2))], red.buckets := [(1, some (bktw 0))] }, 0, 0, rpk ⟨1, 2, 1, 0, 0, 0, 0, 0, 0⟩, ⟨1, 2, 1, 0, 0, 0, 0, 0, 0⟩, (grpw 2), (bktw 0), _, _, ⟨⟨by decide +kernel, by decide +kernel, (by decide +kernel), by decide +kernel⟩, by decide +kernel, by decide +kernel⟩, by decide +kernel, rfl, by decide +kernel, rfl⟩
theorem witness_ChunksAreStagedFoldedAndGathered_8 : ∃ (s : State) (n : Fin 12) (i : Nat) (p : Packet) (h : RingHdr) (g : Group) (b : RingBucket) (a : Nat), s.ChunkDue n 3 i p h g b ∧ b.kind = 0 ∧ s.keepAddr g b (s.bLive g b) h.chunk = some a :=
  by
  refine ⟨{ (st [(Fld.lnkNodeId_position, 0), (Fld.lnkSlot_kind 0, 1), (Fld.lnkSlot_job_id 0, 5), (Fld.lnkSlot_partition 0, 0), (⟨Reg.numpol 0, 0, 64⟩, 0), (Fld.thmSaveStatus_state, 0), (Fld.snapHeld_held, 0)]) with links := rxs 0 (rpk ⟨1, 3, 1, 1, 0, 0, 0, 0, 0⟩), red.groups := [(1, some (grpw 2))], red.buckets := [(1, some (bktw 0))] }, 0, 0, rpk ⟨1, 3, 1, 1, 0, 0, 0, 0, 0⟩, ⟨1, 3, 1, 1, 0, 0, 0, 0, 0⟩, (grpw 2), (bktw 0), 0x1100000, ⟨⟨by decide +kernel, by decide +kernel, (by decide +kernel), by decide +kernel⟩, by decide +kernel, by decide +kernel⟩, ?_⟩
  and_intros <;> decide +kernel
theorem witness_ChunksAreStagedFoldedAndGathered_9 : ∃ (s : State) (gid : Fin 65536) (g : Group) (b : RingBucket), s.Live ∧ s.ringStands = false ∧ s.grp gid = some g ∧ s.bucket gid = some b ∧ g.stragglerUs ≠ 0 ∧ b.downEntry = false ∧ b.suspended = false ∧ alone (s.bLive g b) = false ∧ 475 * g.stragglerUs < s.now - b.waitSince :=
  by
  refine ⟨{ (st [(Fld.thmSaveStatus_state, 0), (Fld.snapHeld_held, 0)]) with red.groups := [(1, some (grpw 2))], red.buckets := [(1, some ({ bktw 0 with downEntry := false } : RingBucket))], now := 476 }, 1, grpw 2, ({ bktw 0 with downEntry := false } : RingBucket), ?_⟩
  and_intros <;> decide +kernel

theorem witness_TwinsPairBeatAndFail_0 : ∃ (s : State) (n : Fin 12) (i : Nat) (p : Packet) (c : Nat) (t : State), s.Live ∧ s.findNotice n 0x10 = some (i, p) ∧ s.twinState ≠ 4 ∧ s.twinState ≠ 5 ∧ s.helloFault p.body = some c ∧ t = ((((((s.consumeRx n i).setTwin { (s.consumeRx n i).snap.twin with heard := (s.consumeRx n i).now }).put Fld.snapTwinStatus_state 3).put Fld.snapTwinStatus_cause 2).event 0x0A01 none false 0 (toLE 4 (fieldLE p.body 2 4) ++ toLE 1 c)).dropMirrors.modesUpdate) :=
  by refine ⟨{ (st [(Fld.lnkNodeId_position, 0), (Fld.snapTwinStatus_state, 6)]) with links := rxs 0 ⟨0, 2, 0, 0, 1, 0, bytesOf 8 [(0, 2, 0x10), (2, 4, 9)]⟩ }, 0, 0, ⟨0, 2, 0, 0, 1, 0, bytesOf 8 [(0, 2, 0x10), (2, 4, 9)]⟩, 0, _, ?_, ?_, ?_, ?_, ?_, rfl⟩ <;> decide +kernel
theorem witness_TwinsPairBeatAndFail_1 : ∃ (s : State) (n : Fin 12) (i : Nat) (p : Packet) (u : State) (v : State) (t : State), s.Live ∧ s.findNotice n 0x10 = some (i, p) ∧ s.twinState ≠ 4 ∧ s.twinState ≠ 5 ∧ s.helloFault p.body = none ∧ (u = if s.twinState = 0 ∨ s.twinState = 1 then ((s.consumeRx n i).setTwin { (s.consumeRx n i).snap.twin with heard := (s.consumeRx n i).now }).sendHello else ((s.consumeRx n i).setTwin { (s.consumeRx n i).snap.twin with heard := (s.consumeRx n i).now })) ∧ v = u.setTwin { u.snap.twin with far := ((List.range s.boot.partitions).map (fun k => FarPart.mk (fieldLE p.body (8 + 32 * k) 8) (fieldLE p.body (8 + 32 * k + 8) 8) (max (fieldLE p.body (8 + 32 * k + 16) 8) (fieldLE p.body (8 + 32 * k + 24) 8)))), rx := [], ahead := [] } ∧ (t = (((v.put Fld.snapTwinStatus_state (if fieldLE p.body 6 1 = 4 ∨ fieldLE p.body 6 1 = 5 then 6 else 2)).sendOwedResets.modesUpdate))) :=
  by refine ⟨{ (st [(Fld.lnkNodeId_position, 0), (Fld.snapTwinStatus_state, 0), (⟨Reg.snapMirrorBufBytes 0, 0, 64⟩, 0), (⟨Reg.snapMirrorShardBytes 0, 0, 64⟩, 0)]) with links := rxs 0 ⟨0, 2, 0, 0, 1, 0, bytesOf 40 [(0, 2, 0x10), (2, 4, 1), (7, 1, 1)]⟩ }, 0, 0, ⟨0, 2, 0, 0, 1, 0, bytesOf 40 [(0, 2, 0x10), (2, 4, 1), (7, 1, 1)]⟩, _, _, _, ?_, ?_, ?_, ?_, ?_, rfl, rfl, rfl⟩ <;> decide +kernel
theorem witness_TwinsPairBeatAndFail_2 : ∃ (s : State) (n : Fin 12) (i : Nat) (p : Packet) (t : State), s.Live ∧ s.findNotice n 0x10 = some (i, p) ∧ (s.twinState = 4 ∨ s.twinState = 5) ∧ t = (((s.consumeRx n i).setTwin { (s.consumeRx n i).snap.twin with heard := (s.consumeRx n i).now }).setTwin { ((s.consumeRx n i).setTwin { (s.consumeRx n i).snap.twin with heard := (s.consumeRx n i).now }).snap.twin with met := (s.helloFault p.body).isNone && [0, 1, 6].contains (fieldLE p.body 6 1) }).sendHello :=
  ⟨{ (st [(Fld.lnkNodeId_position, 0), (Fld.snapTwinStatus_state, 5)]) with links := rxs 0 ⟨0, 2, 0, 0, 1, 0, bytesOf 8 [(0, 2, 0x10), (2, 4, 9)]⟩ }, 0, 0, ⟨0, 2, 0, 0, 1, 0, bytesOf 8 [(0, 2, 0x10), (2, 4, 9)]⟩, _, by decide +kernel, by decide +kernel, (by decide +kernel), rfl⟩
theorem witness_TwinsPairBeatAndFail_3 : ∃ (s : State) (t : State), s.Live ∧ (s.twinState = 0 ∨ s.twinState = 1 ∨ s.twinState = 3) ∧ s.twinPath = true ∧ t = s.sendHello :=
  ⟨(st [(Fld.snapTwinStatus_state, 3), (Fld.lnkStatus_state 0, 5)]), _, by decide +kernel, by decide +kernel, (by decide +kernel), rfl⟩
theorem witness_TwinsPairBeatAndFail_4 : ∃ (s : State) (t : State), s.Live ∧ s.twinPath = true ∧ (t = (s.sendNotice (toLE 2 0x11 ++ toLE 4 s.node ++ toLE 1 s.twinState ++ toLE 1 (if s.isHeld then 1 else 0) ++ (List.range s.boot.partitions).flatMap (fun p => toLE 8 ((s.highCommitted p).getD 0))))) :=
  ⟨(st [(Fld.lnkStatus_state 0, 5)]), _, by decide +kernel, by decide +kernel, rfl⟩
theorem witness_TwinsPairBeatAndFail_5 : ∃ (s : State) (n : Fin 12) (i : Nat) (p : Packet) (t : State), s.Live ∧ s.findNotice n 0x11 = some (i, p) ∧ t = (s.consumeRx n i).setTwin { (s.consumeRx n i).snap.twin with heard := (s.consumeRx n i).now, far := ((s.consumeRx n i).snap.twin.far.zipIdx).map (fun e => { e.1 with high := fieldLE p.body (8 + 8 * e.2) 8 }) } :=
  ⟨{ (st [(Fld.lnkNodeId_position, 0)]) with links := rxs 0 ⟨0, 2, 0, 0, 1, 0, bytesOf 8 [(0, 2, 0x11)]⟩ }, 0, 0, ⟨0, 2, 0, 0, 1, 0, bytesOf 8 [(0, 2, 0x11)]⟩, _, by decide +kernel, by decide +kernel, rfl⟩
theorem witness_TwinsPairBeatAndFail_6 : ∃ (s : State) (t : State), s.Live ∧ (s.twinState = 2 ∨ s.twinState = 6) ∧ 47500 * s.beatLimit ≤ s.now - s.snap.twin.heard ∧ t = s.twinFail 4 :=
  ⟨{ (st [(Fld.snapTwinStatus_state, 6), (Fld.snapCfg_beat_limit 0, 1)]) with now := 47500 }, _, by decide +kernel, by decide +kernel, (by decide +kernel), rfl⟩
theorem witness_TwinsPairBeatAndFail_7 : ∃ (s : State) (t : State), s.Live ∧ s.now - s.snap.twin.heard < 47500 * s.beatLimit ∧ t = s :=
  ⟨(st []), _, by decide +kernel, by decide +kernel, rfl⟩
theorem witness_TwinsPairBeatAndFail_8 : ∃ (s : State) (n : Fin 12) (i : Nat) (p : Packet) (t : State), s.Live ∧ s.findNotice n 0x12 = some (i, p) ∧ t = (s.consumeRx n i).twinFail (min 3 (fieldLE p.body 6 1)) :=
  ⟨{ (st [(Fld.lnkNodeId_position, 0)]) with links := rxs 0 ⟨0, 2, 0, 0, 1, 0, bytesOf 8 [(0, 2, 0x12)]⟩ }, 0, 0, ⟨0, 2, 0, 0, 1, 0, bytesOf 8 [(0, 2, 0x12)]⟩, _, by decide +kernel, by decide +kernel, rfl⟩

theorem witness_TheMirrorTakesCountsAndAcknowledges_0 : ∃ (s : State) (n : Fin 12) (i : Nat) (pk : Packet) (p : Nat) (h : MirrorHdr) (t : State), s.Live ∧ s.findMirror n false = some (i, pk) ∧ s.packetPart pk = some p ∧ s.ringStands = false ∧ h = MirrorHdr.ofBytes pk.body ∧ s.inWindow p h.addr ((pk.body.drop 0x20).take h.bytes).length = true ∧ t = (s.consumeRx n i).evalWinEvent p 0 n h.addr :=
  by refine ⟨{ (st [(Fld.lnkNodeId_position, 0), (Fld.lnkSlot_kind 0, 1), (Fld.lnkSlot_job_id 0, 5), (Fld.lnkSlot_partition 0, 0), (Fld.thmSaveStatus_state, 0), (Fld.snapHeld_held, 0), (Fld.hsmStackStatus_state 0, 0), (Fld.hsmStackStatus_mapout_phase 0, 0), (Fld.snapEvalwinCtrl_enable 0, 1), (⟨Reg.snapEvalwinBase 0, 0, 64⟩, 0), (⟨Reg.snapEvalwinLimit 0, 0, 64⟩, 0x10000000)]) with links := rxs 0 ⟨5, 32, 0, 0, 1, 0, bytesOf 33 [(8, 8, 0x1000000), (0x14, 1, 0), (0x18, 8, 1)]⟩ }, 0, 0, ⟨5, 32, 0, 0, 1, 0, bytesOf 33 [(8, 8, 0x1000000), (0x14, 1, 0), (0x18, 8, 1)]⟩, 0, _, _, ?_, ?_, ?_, ?_, rfl, ?_, rfl⟩ <;> decide +kernel
theorem witness_TheMirrorTakesCountsAndAcknowledges_1 : ∃ (s : State) (n : Fin 12) (i : Nat) (pk : Packet) (p : Nat) (h : MirrorHdr) (t : State), s.Live ∧ s.findMirror n false = some (i, pk) ∧ s.packetPart pk = some p ∧ s.ringStands = false ∧ h = MirrorHdr.ofBytes pk.body ∧ s.inWindow p h.addr ((pk.body.drop 0x20).take h.bytes).length = false ∧ (s.mirrorBuf p h.addr ((pk.body.drop 0x20).take h.bytes).length = none ∨ ∃ b, s.mirrorBuf p h.addr ((pk.body.drop 0x20).take h.bytes).length = some b ∧ s.bufHighest p b = true) ∧ t = (s.consumeRx n i).sendMirrorAck p pk.job h.mseq 1 h.step :=
  by refine ⟨{ (st [(Fld.lnkNodeId_position, 0), (Fld.lnkSlot_kind 0, 1), (Fld.lnkSlot_job_id 0, 5), (Fld.lnkSlot_partition 0, 0), (Fld.thmSaveStatus_state, 0), (Fld.snapHeld_held, 0), (Fld.hsmStackStatus_state 0, 0), (Fld.hsmStackStatus_mapout_phase 0, 0), (Fld.snapEvalwinCtrl_enable 0, 0), (⟨Reg.snapMirrorBase 0, 0, 64⟩, 0x1000000), (⟨Reg.snapMirrorBufBytes 0, 0, 64⟩, 0)]) with links := rxs 0 ⟨5, 32, 0, 0, 1, 0, bytesOf 33 [(8, 8, 0x1000000), (0x14, 1, 0), (0x18, 8, 1)]⟩ }, 0, 0, ⟨5, 32, 0, 0, 1, 0, bytesOf 33 [(8, 8, 0x1000000), (0x14, 1, 0), (0x18, 8, 1)]⟩, 0, _, _, ?_, ?_, ?_, ?_, rfl, ?_, Or.inl (by decide +kernel), rfl⟩ <;> decide +kernel
theorem witness_TheMirrorTakesCountsAndAcknowledges_2 : ∃ (s : State) (n : Fin 12) (i : Nat) (pk : Packet) (p : Nat) (h : MirrorHdr) (b : Nat) (u : State) (t : State), s.Live ∧ s.findMirror n false = some (i, pk) ∧ s.packetPart pk = some p ∧ s.ringStands = false ∧ h = MirrorHdr.ofBytes pk.body ∧ s.inWindow p h.addr ((pk.body.drop 0x20).take h.bytes).length = false ∧ s.mirrorBuf p h.addr ((pk.body.drop 0x20).take h.bytes).length = some b ∧ s.bufHighest p b = false ∧ u = ((((s.consumeRx n i).fillBuf p b h.step).store h.addr ((pk.body.drop 0x20).take h.bytes)).countRemote h.addr ((pk.body.drop 0x20).take h.bytes).length).noteMseq p h.mseq ∧ (t = (if 64 ≤ Sparse.get zeroD u.snap.twin.due p then u.sendMirrorAck p pk.job (u.lastMseq p) 0 h.step else u)) :=
  by refine ⟨{ (st [(Fld.lnkNodeId_position, 0), (Fld.lnkSlot_kind 0, 1), (Fld.lnkSlot_job_id 0, 5), (Fld.lnkSlot_partition 0, 0), (Fld.thmSaveStatus_state, 0), (Fld.snapHeld_held, 0), (Fld.hsmStackStatus_state 0, 0), (Fld.hsmStackStatus_mapout_phase 0, 0), (Fld.snapEvalwinCtrl_enable 0, 0), (⟨Reg.snapMirrorBase 0, 0, 64⟩, 0x1000000), (⟨Reg.snapMirrorBufBytes 0, 0, 64⟩, 4096), (Fld.snapMirrorStep0_state 0, 0)]) with links := rxs 0 ⟨5, 32, 0, 0, 1, 0, bytesOf 33 [(8, 8, 0x1000000), (0x14, 1, 0), (0x18, 8, 1)]⟩ }, 0, 0, ⟨5, 32, 0, 0, 1, 0, bytesOf 33 [(8, 8, 0x1000000), (0x14, 1, 0), (0x18, 8, 1)]⟩, 0, _, 0, _, _, ?_, ?_, ?_, ?_, rfl, ?_, ?_, ?_, rfl, rfl⟩ <;> decide +kernel
theorem witness_TheMirrorTakesCountsAndAcknowledges_3 : ∃ (s : State) (n : Fin 12) (i : Nat) (pk : Packet) (p : Nat) (h : MirrorHdr) (t : State), s.Live ∧ s.findMirror n true = some (i, pk) ∧ s.packetPart pk = some p ∧ s.ringStands = false ∧ h = MirrorHdr.ofBytes pk.body ∧ (s.mirrorBuf p h.addr 1 = none ∨ ∃ b, s.mirrorBuf p h.addr 1 = some b ∧ s.bufHighest p b = true) ∧ t = (s.consumeRx n i).sendMirrorAck p pk.job h.mseq 1 h.step :=
  ⟨{ (st [(Fld.lnkNodeId_position, 0), (Fld.lnkSlot_kind 0, 1), (Fld.lnkSlot_job_id 0, 5), (Fld.lnkSlot_partition 0, 0), (Fld.thmSaveStatus_state, 0), (Fld.snapHeld_held, 0), (Fld.hsmStackStatus_state 0, 0), (Fld.hsmStackStatus_mapout_phase 0, 0), (Fld.snapEvalwinCtrl_enable 0, 0), (⟨Reg.snapMirrorBase 0, 0, 64⟩, 0x1000000), (⟨Reg.snapMirrorBufBytes 0, 0, 64⟩, 0)]) with links := rxs 0 ⟨5, 32, 0, 0, 1, 0, bytesOf 33 [(8, 8, 0x1000000), (0x14, 1, 3), (0x18, 8, 1)]⟩ }, 0, 0, ⟨5, 32, 0, 0, 1, 0, bytesOf 33 [(8, 8, 0x1000000), (0x14, 1, 3), (0x18, 8, 1)]⟩, 0, _, _, by decide +kernel, by decide +kernel, (by decide +kernel), by decide +kernel, rfl, Or.inl (by decide +kernel), rfl⟩
theorem witness_TheMirrorTakesCountsAndAcknowledges_4 : ∃ (s : State) (n : Fin 12) (i : Nat) (pk : Packet) (p : Nat) (h : MirrorHdr) (b : Nat) (u : State) (full : Bool) (t : State), s.Live ∧ s.findMirror n true = some (i, pk) ∧ s.packetPart pk = some p ∧ s.ringStands = false ∧ h = MirrorHdr.ofBytes pk.body ∧ s.mirrorBuf p h.addr 1 = some b ∧ s.bufHighest p b = false ∧ ((s.consumeRx n i).noteMseq p h.mseq).countBuf p b h.step h.bytes = (u, full) ∧ (t = (u.sendMirrorAck p pk.job (u.lastMseq p) (if full then 2 else 0) h.step)) :=
  by refine ⟨{ (st [(Fld.lnkNodeId_position, 0), (Fld.lnkSlot_kind 0, 1), (Fld.lnkSlot_job_id 0, 5), (Fld.lnkSlot_partition 0, 0), (Fld.thmSaveStatus_state, 0), (Fld.snapHeld_held, 0), (Fld.hsmStackStatus_state 0, 0), (Fld.hsmStackStatus_mapout_phase 0, 0), (Fld.snapEvalwinCtrl_enable 0, 0), (⟨Reg.snapMirrorBase 0, 0, 64⟩, 0x1000000), (⟨Reg.snapMirrorBufBytes 0, 0, 64⟩, 4096), (Fld.snapMirrorStep0_state 0, 0)]) with links := rxs 0 ⟨5, 32, 0, 0, 1, 0, bytesOf 33 [(8, 8, 0x1000000), (0x14, 1, 3), (0x18, 8, 1)]⟩ }, 0, 0, ⟨5, 32, 0, 0, 1, 0, bytesOf 33 [(8, 8, 0x1000000), (0x14, 1, 3), (0x18, 8, 1)]⟩, 0, _, 0, _, _, _, ?_, ?_, ?_, ?_, rfl, ?_, ?_, Prod.mk.eta.symm, rfl⟩ <;> decide +kernel
theorem witness_TheMirrorTakesCountsAndAcknowledges_5 : ∃ (s : State) (p : Fin 4) (t : State), s.Live ∧ s.isHeld = false ∧ Sparse.get zeroD s.snap.twin.due p.val ≠ 0 ∧ (t = (s.sendMirrorAck p (s.jobOf p) (s.lastMseq p) 0 (s.f (mirrorStepF p (if s.f (mirrorStateF p 0) = 1 then 0 else 1))))) :=
  ⟨{ (st [(Fld.snapHeld_held, 0)]) with snap.twin.due := [(3, 1)] }, 3, _, by decide +kernel, by decide +kernel, (by decide +kernel), rfl⟩
theorem witness_TheMirrorTakesCountsAndAcknowledges_6 : ∃ (s : State) (n : Fin 12) (i : Nat) (pk : Packet) (p : Nat) (x : ApplyRun) (t : State), s.Live ∧ s.findRx n (fun p => p.kind == 0x20 && testBit p.kflags 0 && p.dest == s.node) = some (i, pk) ∧ s.packetPart pk = some p ∧ s.ringStands = false ∧ testBit (fieldLE pk.body 4 1) 0 = true ∧ s.snap.twin.applies.find? (fun x => x.part == p && (x.unacked.contains (fieldLE pk.body 0 4) || x.commit == some (fieldLE pk.body 0 4))) = some x ∧ t = (s.consumeRx n i).applyEnd x Res.badField :=
  by refine ⟨{ (st [(Fld.lnkNodeId_position, 0), (Fld.lnkSlot_kind 0, 1), (Fld.lnkSlot_job_id 0, 5), (Fld.lnkSlot_partition 0, 0), (Fld.thmSaveStatus_state, 0), (Fld.snapHeld_held, 0), (Fld.hsmStackStatus_state 0, 0), (Fld.hsmStackStatus_mapout_phase 0, 0), (Fld.snapEvalwinCtrl_enable 0, 0)]) with links := rxs 0 ⟨5, 32, 1, 0, 1, 0, bytesOf 16 [(4, 1, 1)]⟩, snap.twin.applies := [⟨0, 0, 0, 0, [0], none, 0, 0⟩] }, 0, 0, ⟨5, 32, 1, 0, 1, 0, bytesOf 16 [(4, 1, 1)]⟩, 0, ⟨0, 0, 0, 0, [0], none, 0, 0⟩, _, ?_, ?_, ?_, ?_, ?_, ?_, rfl⟩ <;> decide +kernel
theorem witness_TheMirrorTakesCountsAndAcknowledges_7 : ∃ (s : State) (n : Fin 12) (i : Nat) (pk : Packet) (p : Nat) (r : State) (u : State) (t : State), s.Live ∧ s.findRx n (fun p => p.kind == 0x20 && testBit p.kflags 0 && p.dest == s.node) = some (i, pk) ∧ s.packetPart pk = some p ∧ s.ringStands = false ∧ testBit (fieldLE pk.body 4 1) 0 = false ∧ (r = (s.consumeRx n i).setTwin { s.snap.twin with applies := s.snap.twin.applies.map (fun x => if x.part = p then { x with unacked := x.unacked.filter (fun a => !seqCovered (fieldLE pk.body 0 4) a) } else x) }) ∧ (u = if testBit (fieldLE pk.body 4 1) 1 then (r.setTwin { r.snap.twin with committed := Sparse.put (fun _ => false) r.snap.twin.committed p true }).wr (Reg.snapOutStep p) (fieldLE pk.body 8 8) else r) ∧ t = (((u.snap.twin.applies.filter (fun x => x.part == p && (match x.commit with | some c => seqCovered (fieldLE pk.body 0 4) c | none => false))).foldl (fun t x => t.applyEnd x Res.ok) u).sendCommits).modeUpdate p :=
  by refine ⟨{ (st [(Fld.lnkNodeId_position, 0), (Fld.lnkSlot_kind 0, 1), (Fld.lnkSlot_job_id 0, 5), (Fld.lnkSlot_partition 0, 0), (Fld.thmSaveStatus_state, 0), (Fld.snapHeld_held, 0), (Fld.hsmStackStatus_state 0, 0), (Fld.hsmStackStatus_mapout_phase 0, 0), (Fld.snapEvalwinCtrl_enable 0, 0)]) with links := rxs 0 ⟨5, 32, 1, 0, 1, 0, bytesOf 16 []⟩ }, 0, 0, ⟨5, 32, 1, 0, 1, 0, bytesOf 16 []⟩, 0, _, _, _, ?_, ?_, ?_, ?_, ?_, rfl, rfl, rfl⟩ <;> decide +kernel
theorem witness_TheMirrorTakesCountsAndAcknowledges_8 : ∃ (s : State) (n : Fin 12) (i : Nat) (pk : Packet) (p : Fin 4) (t : State), s.Live ∧ s.findNotice n 0x15 = some (i, pk) ∧ fieldLE pk.body 2 1 = p.val ∧ t = (((((s.consumeRx n i).put (mirrorStateF p 0) 0).put (mirrorStateF p 1) 0).put (mirrorStepF p 0) 0).put (mirrorStepF p 1) 0) :=
  ⟨{ (st [(Fld.lnkNodeId_position, 0)]) with links := rxs 0 ⟨0, 2, 0, 0, 1, 0, bytesOf 8 [(0, 2, 0x15), (2, 1, 3)]⟩ }, 0, 0, ⟨0, 2, 0, 0, 1, 0, bytesOf 8 [(0, 2, 0x15), (2, 1, 3)]⟩, 3, _, by decide +kernel, by decide +kernel, (by decide +kernel), rfl⟩

theorem witness_HandbacksAreAskedAndAnswered_0 : ∃ (s : State) (n : Fin 12) (i : Nat) (pk : Packet) (p : Nat) (t : State), s.Live ∧ s.findNotice n 0x13 = some (i, pk) ∧ s.isHeld = false ∧ fieldLE pk.body 2 1 = p ∧ (s.boot.partitions ≤ p ∨ s.handbackList (fieldLE pk.body 3 8) = none) ∧ t = (s.consumeRx n i).sendNotice (toLE 2 0x14 ++ toLE 1 p ++ toLE 1 Res.badField) :=
  ⟨{ (st [(Fld.lnkNodeId_position, 0), (Fld.snapHeld_held, 0), (Fld.hsmStackStatus_state 0, 0), (Fld.hsmStackStatus_mapout_phase 0, 0)]) with links := rxs 0 ⟨0, 2, 0, 0, 1, 0, bytesOf 11 [(0, 2, 0x13), (2, 1, 1)]⟩ }, 0, 0, ⟨0, 2, 0, 0, 1, 0, bytesOf 11 [(0, 2, 0x13), (2, 1, 1)]⟩, 1, _, by decide +kernel, by decide +kernel, (by decide +kernel), by decide +kernel, Or.inl (by decide +kernel), rfl⟩
theorem witness_HandbacksAreAskedAndAnswered_1 : ∃ (s : State) (n : Fin 12) (i : Nat) (pk : Packet) (p : Nat) (es : List (Nat × Nat × Nat × Nat)) (t : State), s.Live ∧ s.findNotice n 0x13 = some (i, pk) ∧ s.isHeld = false ∧ fieldLE pk.body 2 1 = p ∧ p < s.boot.partitions ∧ s.handbackList (fieldLE pk.body 3 8) = some es ∧ es.all (fun e => s.ownsRange p e.1 e.2.2.1 && (e.2.2.2 == 1 || (s.mirrorBuf p e.1 e.2.2.1).isSome) && !(s.inFlight.any (fun o => s.opPart o.2 == p && s.writesScope [(e.1, e.2.2.1)] o.2))) = true ∧ t = (es.foldl (fun t e => ((chunks 16384 (t.bytes e.1 e.2.2.1)).zipIdx).foldl (fun t c => (t.sendBoard (t.position ^^^ 1) (t.mkPacket (t.jobOf p) 0x21 t.twinNode (toLE 8 (e.2.1 + 16384 * c.2) ++ c.1)) none).countRemote (e.1 + 16384 * c.2) c.1.length) t) (s.consumeRx n i)).sendNotice (toLE 2 0x14 ++ toLE 1 p ++ toLE 1 Res.ok) :=
  by refine ⟨{ (st [(Fld.lnkNodeId_position, 0), (Fld.snapHeld_held, 0), (Fld.hsmStackStatus_state 0, 0), (Fld.hsmStackStatus_mapout_phase 0, 0), (⟨Reg.snapMirrorBase 0, 0, 64⟩, 0), (⟨Reg.snapMirrorBufBytes 0, 0, 64⟩, 0)]) with links := rxs 0 ⟨0, 2, 0, 0, 1, 0, (bytesOf 11 [(0, 2, 0x13), (3, 8, 0x1000000)])⟩, mem := [(131072, 1), (131074, 1), (131139, 1), (131147, 1), (131153, 16), (131160, 1)] }, 0, 0, ⟨0, 2, 0, 0, 1, 0, (bytesOf 11 [(0, 2, 0x13), (3, 8, 0x1000000)])⟩, 0, [(0x1000000, 0x1000000, 4096, 1)], _, ?_, ?_, ?_, ?_, ?_, ?_, ?_, rfl⟩ <;> decide +kernel
theorem witness_HandbacksAreAskedAndAnswered_2 : ∃ (s : State) (n : Fin 12) (i : Nat) (pk : Packet) (p : Nat) (es : List (Nat × Nat × Nat × Nat)) (t : State), s.Live ∧ s.findNotice n 0x13 = some (i, pk) ∧ s.isHeld = false ∧ fieldLE pk.body 2 1 = p ∧ p < s.boot.partitions ∧ s.handbackList (fieldLE pk.body 3 8) = some es ∧ es.all (fun e => s.ownsRange p e.1 e.2.2.1 && (e.2.2.2 == 1 || (s.mirrorBuf p e.1 e.2.2.1).isSome) && !(s.inFlight.any (fun o => s.opPart o.2 == p && s.writesScope [(e.1, e.2.2.1)] o.2))) = false ∧ t = (s.consumeRx n i).sendNotice (toLE 2 0x14 ++ toLE 1 p ++ toLE 1 Res.badField) :=
  by refine ⟨{ (st [(Fld.lnkNodeId_position, 0), (Fld.snapHeld_held, 0), (Fld.hsmStackStatus_state 0, 0), (Fld.hsmStackStatus_mapout_phase 0, 0), (⟨Reg.snapMirrorBase 0, 0, 64⟩, 0), (⟨Reg.snapMirrorBufBytes 0, 0, 64⟩, 0)]) with links := rxs 0 ⟨0, 2, 0, 0, 1, 0, (bytesOf 11 [(0, 2, 0x13), (3, 8, 0x1000000)])⟩, mem := [(131072, 1), (131074, 1), (131139, 1), (131147, 1), (131153, 16)] }, 0, 0, ⟨0, 2, 0, 0, 1, 0, (bytesOf 11 [(0, 2, 0x13), (3, 8, 0x1000000)])⟩, 0, [(0x1000000, 0x1000000, 4096, 0)], _, ?_, ?_, ?_, ?_, ?_, ?_, ?_, rfl⟩ <;> decide +kernel
theorem witness_HandbacksAreAskedAndAnswered_3 : ∃ (s : State) (n : Fin 12) (i : Nat) (pk : Packet) (p : Fin 4) (t : State), s.Live ∧ s.findNotice n 0x14 = some (i, pk) ∧ fieldLE pk.body 2 1 = p.val ∧ (∀ x, s.snap.restore = some x → x.part ≠ p.val) ∧ s.flag (Fld.snapHandback_go p) = true ∧ fieldLE pk.body 3 1 = 0 ∧ t = (((s.consumeRx n i).put (Fld.snapHandback_go p) 0).groupsOf (fun g => g.part == p.val && g.waitHandback)).foldl (fun t e => t.setGrp e.1 (some { e.2 with waitHandback := false })) (((s.consumeRx n i).put (Fld.snapHandback_go p) 0).put (Fld.snapHandback_done p) 1) :=
  by refine ⟨{ (st [((Fld.snapHandback_go 3), 1), (Fld.lnkNodeId_position, 0), (Fld.snapHeld_held, 0), (Fld.hsmStackStatus_state 0, 0), (Fld.hsmStackStatus_mapout_phase 0, 0)]) with links := rxs 0 ⟨0, 2, 0, 0, 1, 0, bytesOf 11 [(0, 2, 0x14), (2, 1, 3), (3, 1, 0)]⟩ }, 0, 0, ⟨0, 2, 0, 0, 1, 0, bytesOf 11 [(0, 2, 0x14), (2, 1, 3), (3, 1, 0)]⟩, 3, _, ?_, ?_, ?_, (fun x h => nomatch (h.symm.trans (rfl : _ = (none : Option Restore)))), ?_, ?_, rfl⟩ <;> decide +kernel
theorem witness_HandbacksAreAskedAndAnswered_4 : ∃ (s : State) (n : Fin 12) (i : Nat) (pk : Packet) (p : Fin 4) (t : State), s.Live ∧ s.findNotice n 0x14 = some (i, pk) ∧ fieldLE pk.body 2 1 = p.val ∧ (∀ x, s.snap.restore = some x → x.part ≠ p.val) ∧ s.flag (Fld.snapHandback_go p) = true ∧ fieldLE pk.body 3 1 ≠ 0 ∧ t = ((s.consumeRx n i).put (Fld.snapHandback_go p) 0).put (Fld.snapHandback_refused p) 1 :=
  by refine ⟨{ (st [((Fld.snapHandback_go 3), 1), (Fld.lnkNodeId_position, 0), (Fld.snapHeld_held, 0), (Fld.hsmStackStatus_state 0, 0), (Fld.hsmStackStatus_mapout_phase 0, 0)]) with links := rxs 0 ⟨0, 2, 0, 0, 1, 0, bytesOf 11 [(0, 2, 0x14), (2, 1, 3), (3, 1, 1)]⟩ }, 0, 0, ⟨0, 2, 0, 0, 1, 0, bytesOf 11 [(0, 2, 0x14), (2, 1, 3), (3, 1, 1)]⟩, 3, _, ?_, ?_, ?_, (fun x h => nomatch (h.symm.trans (rfl : _ = (none : Option Restore)))), ?_, ?_, rfl⟩ <;> decide +kernel
theorem witness_HandbacksAreAskedAndAnswered_5 : ∃ (s : State) (w : Writer) (n : Fin 4) (v : Word64) (u : State) (t : State), s.Live ∧ s.Accepts w (Reg.snapHandback n) v.toNat ∧ (u = ((if testBit v.toNat 2 then (if testBit v.toNat 1 then s.put (Fld.snapHandback_done n) 0 else s).put (Fld.snapHandback_refused n) 0 else (if testBit v.toNat 1 then s.put (Fld.snapHandback_done n) 0 else s)).put (Fld.snapHandback_list n) (bits v.toNat 6 58))) ∧ (testBit v.toNat 0 = false ∨ u.flag (Fld.snapHandback_go n) = true) ∧ t = u :=
  ⟨(st []), .lead, 0, 0, _, _, by decide +kernel, by decide +kernel, rfl, by decide +kernel, rfl⟩
theorem witness_HandbacksAreAskedAndAnswered_6 : ∃ (s : State) (w : Writer) (n : Fin 4) (v : Word64) (u : State) (x : State) (t : State), s.Live ∧ s.Accepts w (Reg.snapHandback n) v.toNat ∧ (u = ((if testBit v.toNat 2 then (if testBit v.toNat 1 then s.put (Fld.snapHandback_done n) 0 else s).put (Fld.snapHandback_refused n) 0 else (if testBit v.toNat 1 then s.put (Fld.snapHandback_done n) 0 else s)).put (Fld.snapHandback_list n) (bits v.toNat 6 58))) ∧ testBit v.toNat 0 = true ∧ u.flag (Fld.snapHandback_go n) = false ∧ u.askHandback n (u.rd (Reg.snapHandback n) / 64 * 64) = some x ∧ t = x.put (Fld.snapHandback_go n) 1 :=
  ⟨{ (st [(Fld.hsmStackStatus_state 0, 0), (Fld.hsmStackStatus_mapout_phase 0, 0), (Fld.snapHandback_go 0, 0), (Fld.snapEvalwinCtrl_enable 0, 0)]) with mem := [(131072, 1), (131074, 1), (131139, 1), (131147, 1), (131153, 16), (131160, 1)] }, .lead, 0, 0x1000001, _, _, _, by decide +kernel, by decide +kernel, rfl, by decide +kernel, by decide +kernel, some_getD (d := State.reset) (by decide +kernel), rfl⟩
theorem witness_HandbacksAreAskedAndAnswered_7 : ∃ (s : State) (w : Writer) (n : Fin 4) (v : Word64) (u : State) (t : State), s.Live ∧ s.Accepts w (Reg.snapHandback n) v.toNat ∧ (u = ((if testBit v.toNat 2 then (if testBit v.toNat 1 then s.put (Fld.snapHandback_done n) 0 else s).put (Fld.snapHandback_refused n) 0 else (if testBit v.toNat 1 then s.put (Fld.snapHandback_done n) 0 else s)).put (Fld.snapHandback_list n) (bits v.toNat 6 58))) ∧ testBit v.toNat 0 = true ∧ u.flag (Fld.snapHandback_go n) = false ∧ u.askHandback n (u.rd (Reg.snapHandback n) / 64 * 64) = none ∧ t = (u.put (Fld.snapHandback_go n) 0).put (Fld.snapHandback_refused n) 1 :=
  ⟨(st [(Fld.hsmStackStatus_state 0, 0), (Fld.hsmStackStatus_mapout_phase 0, 0), (Fld.snapHandback_go 0, 0)]), .lead, 0, 0x1000001, _, _, by decide +kernel, by decide +kernel, rfl, by decide +kernel, by decide +kernel, none_of (by decide +kernel), rfl⟩

theorem witness_SnapshotsAreCapturedSealedAndDrained_0 : ∃ (s : State) (p : Fin 4) (r : StopRun) (has : Bool) (t : State), s.Live ∧ s.stopOf p = some r ∧ r.captured = false ∧ s.partBusy p = false ∧ s.serving = true ∧ has = (testBit r.options 1 && (s.lastStepRecord p).isSome) ∧ (t = (((((s.store (s.metaArea p r.k) (s.imageHeader p r (if has then 1 else 0) ((s.metaSections p has).length + 16 * r.regions.length) ++ s.metaSections p has)).putB (Fld.snapSlotState_step_record (4 * p.val + r.k)) has).wr (Reg.snapSlotStep (4 * p.val + r.k)) (s.rd (Reg.stepN p))).put (slotStateF (4 * p.val + r.k)) 1).setStop p (some { r with captured := true }))) :=
  by refine ⟨{ (st [(Fld.bootStatus_stage, 6), (Fld.thmSaveStatus_state, 0), (Fld.snapHeld_held, 0)]) with snap.stops := [(0, some ⟨0, 0, 0, 0, [], [], 0, false, 0⟩)] }, 0, ⟨0, 0, 0, 0, [], [], 0, false, 0⟩, _, _, ?_, ?_, ?_, ?_, ?_, rfl, rfl⟩ <;> decide +kernel
theorem witness_SnapshotsAreCapturedSealedAndDrained_1 : ∃ (s : State) (p : Fin 4) (r : StopRun) (t : State), s.Live ∧ s.stopOf p = some r ∧ r.captured = true ∧ s.serving = true ∧ testBit r.options 0 = false ∧ t = ((((s.sealCopy p r).1.sealSlot p r (s.sealCopy p r).2).addDetail r.slot ((r.regions.map Prod.snd).foldl (· + ·) 0)).finish r.slot Res.ok) :=
  by refine ⟨{ (st [(Fld.bootStatus_stage, 6), (Fld.thmSaveStatus_state, 0), (Fld.snapHeld_held, 0)]) with snap.stops := [(0, some ⟨0, 0, 0, 0, [], [], 0, true, 0⟩)] }, 0, ⟨0, 0, 0, 0, [], [], 0, true, 0⟩, _, ?_, ?_, ?_, ?_, ?_, rfl⟩ <;> decide +kernel
theorem witness_SnapshotsAreCapturedSealedAndDrained_2 : ∃ (s : State) (p : Fin 4) (r : StopRun) (u : State) (t : State), s.Live ∧ s.stopOf p = some r ∧ r.captured = true ∧ s.serving = true ∧ testBit r.options 0 = true ∧ u = ((((s.sealCopy p r).1.sealSlot p r (s.sealCopy p r).2).addDetail r.slot ((r.regions.map Prod.snd).foldl (· + ·) 0)).finish r.slot Res.ok) ∧ t = ((u.put (slotStateF (4 * p.val + r.k)) 4).setFlash { u.snap.flash with draining := u.snap.flash.draining ++ [4 * p.val + r.k] }).flashShow :=
  by refine ⟨{ (st [(Fld.bootStatus_stage, 6), (Fld.thmSaveStatus_state, 0), (Fld.snapHeld_held, 0)]) with snap.stops := [(0, some ⟨0, 0, 0, 1, [], [], 0, true, 0⟩)] }, 0, ⟨0, 0, 0, 1, [], [], 0, true, 0⟩, _, _, ?_, ?_, ?_, ?_, ?_, rfl, rfl⟩ <;> decide +kernel
theorem witness_SnapshotsAreCapturedSealedAndDrained_3 : ∃ (s : State) (i : Fin 16) (t : State), s.Live ∧ s.snap.flash.draining.contains i.val = true ∧ s.f Fld.thmSaveStatus_state = 0 ∧ s.isHeld = false ∧ s.key (s.f (Fld.snapCfg_drain_key_slot (i.val / 4))) = none ∧ t = ((s.put (slotStateF i) 2).setFlash { s.snap.flash with draining := s.snap.flash.draining.filter (· != i.val) }).flashShow.generic Blk.snap (some (i.val / 4)) i (s.rd (Reg.snapSlotId i)) Res.badField :=
  by refine ⟨{ (st [(Fld.thmSaveStatus_state, 0), (Fld.snapHeld_held, 0), (Fld.snapCfg_drain_key_slot 3, 1)]) with snap.flash := { State.reset.snap.flash with draining := [15] } }, 15, _, ?_, ?_, ?_, ?_, ?_, rfl⟩ <;> decide +kernel
theorem witness_SnapshotsAreCapturedSealedAndDrained_6 : ∃ (s : State) (slot : Fin 4096) (h : ShipRun) (r : LogRec) (l : List LogRec) (u : State) (t : State), s.Live ∧ s.snap.flash.ships.find? (fun h => h.slot == slot.val) = some h ∧ h.left = r :: l ∧ s.qpReady h.qp = true ∧ s.f Fld.thmSaveStatus_state = 0 ∧ s.isHeld = false ∧ u = (s.request h.qp (.write h.qp h.rkey h.at_ r.toBytes (some (h.id % 2 ^ 32))) r.toBytes.length 0).addDetail slot r.toBytes.length ∧ (t = (u.setFlash { u.snap.flash with ships := u.snap.flash.ships.map (fun x => if x.slot = slot.val then { x with left := [] } else x) })) :=
  by refine ⟨{ (st [(Fld.thmSaveStatus_state, 0), (Fld.snapHeld_held, 0), (Fld.hostQpCfg_state 1, 1)]) with snap.flash := { State.reset.snap.flash with ships := [⟨0, 0, 5, 1, 7, 0, 4096, [⟨1, 0, 0, 0, 0, 0, 0, [], [], 0⟩]⟩] } }, 0, ⟨0, 0, 5, 1, 7, 0, 4096, [⟨1, 0, 0, 0, 0, 0, 0, [], [], 0⟩]⟩, ⟨1, 0, 0, 0, 0, 0, 0, [], [], 0⟩, [], _, _, ?_, ?_, ?_, ?_, ?_, ?_, rfl, rfl⟩ <;> decide +kernel
theorem witness_SnapshotsAreCapturedSealedAndDrained_7 : ∃ (s : State) (w : Writer) (t : State), s.Live ∧ s.mayWriteS w = true ∧ s.writerPasses w (bits (s.rd Reg.snapPinId) 22 2) = true ∧ s.snap.flash.pins.contains (s.rd Reg.snapPinId) = false ∧ s.snap.flash.pins.length < 64 ∧ t = s.setFlash { s.snap.flash with pins := s.snap.flash.pins ++ [s.rd Reg.snapPinId] } :=
  by refine ⟨(st []), .lead, _, ?_, ?_, ?_, ?_, ?_, rfl⟩ <;> decide +kernel
theorem witness_SnapshotsAreCapturedSealedAndDrained_8 : ∃ (s : State) (w : Writer) (t : State), s.Live ∧ s.mayWriteS w = true ∧ s.writerPasses w (bits (s.rd Reg.snapPinId) 22 2) = true ∧ s.snap.flash.pins.contains (s.rd Reg.snapPinId) = true ∧ t = s :=
  ⟨{ (st []) with snap.flash := { State.reset.snap.flash with pins := [0] } }, .lead, _, by decide +kernel, by decide +kernel, (by decide +kernel), by decide +kernel, rfl⟩
theorem witness_SnapshotsAreCapturedSealedAndDrained_9 : ∃ (s : State) (w : Writer) (t : State), s.Live ∧ s.mayWriteS w = true ∧ s.writerPasses w (bits (s.rd Reg.snapPinId) 22 2) = true ∧ s.snap.flash.pins.contains (s.rd Reg.snapPinId) = false ∧ 64 ≤ s.snap.flash.pins.length ∧ t = s.badWrite Reg.snapPinCmd 0x80000001 :=
  by refine ⟨{ (st []) with snap.flash := { State.reset.snap.flash with pins := List.range' 1 64 } }, .lead, _, ?_, ?_, ?_, ?_, ?_, rfl⟩ <;> decide +kernel
theorem witness_SnapshotsAreCapturedSealedAndDrained_10 : ∃ (s : State) (w : Writer) (t : State), s.Live ∧ s.mayWriteS w = true ∧ s.writerPasses w (bits (s.rd Reg.snapPinId) 22 2) = true ∧ t = s.setFlash { s.snap.flash with pins := s.snap.flash.pins.filter (· != s.rd Reg.snapPinId) } :=
  ⟨(st []), .lead, _, by decide +kernel, by decide +kernel, (by decide +kernel), rfl⟩
theorem witness_SnapshotsAreCapturedSealedAndDrained_11 : ∃ (s : State) (w : Writer) (n : Fin 4) (v : Word32) (t : State), s.Live ∧ s.Accepts w (Reg.snapCountFloor n) v.toNat ∧ s.f (Fld.snapCountFloor_floor n) ≤ (bits v.toNat 0 22) ∧ s.inFlight.any (fun e => s.opPart e.2 == n.val && e.2.opcode == 6) = false ∧ t = (s.put (Fld.snapCountFloor_floor n) (bits v.toNat 0 22)).setFlash { s.snap.flash with next := Sparse.put zeroD s.snap.flash.next n (max (bits v.toNat 0 22) (Sparse.get zeroD s.snap.flash.next n)) } :=
  ⟨(st []), .lead, 0, 0, _, by decide +kernel, by decide +kernel, (by decide +kernel), by decide +kernel, rfl⟩
theorem witness_SnapshotsAreCapturedSealedAndDrained_12 : ∃ (s : State) (w : Writer) (n : Fin 4) (v : Word32) (t : State), s.Live ∧ s.Accepts w (Reg.snapCountFloor n) v.toNat ∧ ((bits v.toNat 0 22) < s.f (Fld.snapCountFloor_floor n) ∨ s.inFlight.any (fun e => s.opPart e.2 == n.val && e.2.opcode == 6) = true) ∧ t = s.badWrite (Reg.snapCountFloor n) v.toNat :=
  ⟨(st [(Fld.snapCountFloor_floor 0, 1)]), .lead, 0, 0, _, by decide +kernel, by decide +kernel, (by decide +kernel), rfl⟩

theorem witness_RestoresStartAndMoveThroughTheirPhases_0 : ∃ (s : State) (w : Writer) (p : Fin 4) (ctr : Fin 16384) (r : Restore) (t : State), s.Live ∧ s.mayWriteS w = true ∧ s.writerPasses w p = true ∧ s.snap.restore = none ∧ (s.part p).started = true ∧ s.serving = true ∧ s.boot.seqUse = none ∧ (s.flag Fld.snapRestoreSrc_tensors_only = false → s.idlePart p = true) ∧ s.ctrPart ctr = some p.val ∧ s.f Fld.snapRestoreSrc_source = 0 ∧ r = ⟨p, 0, s.f Fld.snapRestoreSrc_slot, s.flag Fld.snapRestoreSrc_tensors_only, s.f Fld.snapRestoreSrc_qp, s.f Fld.snapRestoreSrc_rkey, s.rd Reg.snapRestoreAddr, ctr, [], none, false⟩ ∧ t = ((((s.put Fld.snapRestoreStatus_phase 1).put Fld.snapRestoreStatus_result 0).setRestore (some r)).setBoot { s.boot with seqUse := some .restore }) :=
  by refine ⟨(st [(Fld.snapRestoreSrc_source, 0), (Fld.bootStatus_stage, 6), (Fld.thmSaveStatus_state, 0), (Fld.snapHeld_held, 0), (Fld.snapRestoreSrc_tensors_only, 1), (Fld.ctrRange_first 0, 0), (Fld.ctrRange_count 0, 16), (Fld.snapRestoreSrc_slot, 0), (Fld.hostQpCfg_state 3, 1), (Fld.snapRestoreSrc_qp, 3)]), .lead, 0, 0, _, _, ?_, ?_, ?_, ?_, ?_, ?_, ?_, ?_, ?_, ?_, rfl, rfl⟩ <;> decide +kernel
theorem witness_RestoresStartAndMoveThroughTheirPhases_1 : ∃ (s : State) (w : Writer) (p : Fin 4) (ctr : Fin 16384) (r : Restore) (t : State), s.Live ∧ s.mayWriteS w = true ∧ s.writerPasses w p = true ∧ s.snap.restore = none ∧ (s.part p).started = true ∧ s.serving = true ∧ s.boot.seqUse = none ∧ (s.flag Fld.snapRestoreSrc_tensors_only = false → s.idlePart p = true) ∧ s.ctrPart ctr = some p.val ∧ s.f Fld.snapRestoreSrc_source = 1 ∧ r = ⟨p, 1, s.f Fld.snapRestoreSrc_slot, s.flag Fld.snapRestoreSrc_tensors_only, s.f Fld.snapRestoreSrc_qp, s.f Fld.snapRestoreSrc_rkey, s.rd Reg.snapRestoreAddr, ctr, [], none, false⟩ ∧ t = ((((s.put Fld.snapRestoreStatus_phase 1).put Fld.snapRestoreStatus_result 0).setRestore (some r)).setBoot { s.boot with seqUse := some .restore }) :=
  by refine ⟨(st [(Fld.snapRestoreSrc_source, 1), (Fld.bootStatus_stage, 6), (Fld.thmSaveStatus_state, 0), (Fld.snapHeld_held, 0), (Fld.snapRestoreSrc_tensors_only, 1), (Fld.ctrRange_first 0, 0), (Fld.ctrRange_count 0, 16), (Fld.snapRestoreSrc_slot, 0), (Fld.hostQpCfg_state 3, 1), (Fld.snapRestoreSrc_qp, 3)]), .lead, 0, 0, _, _, ?_, ?_, ?_, ?_, ?_, ?_, ?_, ?_, ?_, ?_, rfl, rfl⟩ <;> decide +kernel
theorem witness_RestoresStartAndMoveThroughTheirPhases_2 : ∃ (s : State) (w : Writer) (p : Fin 4) (ctr : Fin 16384) (r : Restore) (t : State), s.Live ∧ s.mayWriteS w = true ∧ s.writerPasses w p = true ∧ s.snap.restore = none ∧ (s.part p).started = true ∧ s.serving = true ∧ s.boot.seqUse = none ∧ (s.flag Fld.snapRestoreSrc_tensors_only = false → s.idlePart p = true) ∧ s.ctrPart ctr = some p.val ∧ s.f Fld.snapRestoreSrc_source = 3 ∧ r = ⟨p, 3, s.f Fld.snapRestoreSrc_slot, s.flag Fld.snapRestoreSrc_tensors_only, s.f Fld.snapRestoreSrc_qp, s.f Fld.snapRestoreSrc_rkey, s.rd Reg.snapRestoreAddr, ctr, [], none, false⟩ ∧ t = ((((s.put Fld.snapRestoreStatus_phase 1).put Fld.snapRestoreStatus_result 0).setRestore (some r)).setBoot { s.boot with seqUse := some .restore }) :=
  by refine ⟨(st [(Fld.snapRestoreSrc_source, 3), (Fld.bootStatus_stage, 6), (Fld.thmSaveStatus_state, 0), (Fld.snapHeld_held, 0), (Fld.snapRestoreSrc_tensors_only, 1), (Fld.ctrRange_first 0, 0), (Fld.ctrRange_count 0, 16), (Fld.snapRestoreSrc_slot, 0), (Fld.hostQpCfg_state 3, 1), (Fld.snapRestoreSrc_qp, 3)]), .lead, 0, 0, _, _, ?_, ?_, ?_, ?_, ?_, ?_, ?_, ?_, ?_, ?_, rfl, rfl⟩ <;> decide +kernel
theorem witness_RestoresStartAndMoveThroughTheirPhases_3 : ∃ (s : State) (w : Writer) (p : Fin 4) (ctr : Fin 16384) (r : Restore) (t : State), s.Live ∧ s.mayWriteS w = true ∧ s.writerPasses w p = true ∧ s.snap.restore = none ∧ (s.part p).started = true ∧ s.serving = true ∧ s.boot.seqUse = none ∧ (s.flag Fld.snapRestoreSrc_tensors_only = false → s.idlePart p = true) ∧ s.ctrPart ctr = some p.val ∧ s.f Fld.snapRestoreSrc_source = 2 ∧ r = ⟨p, 2, s.f Fld.snapRestoreSrc_slot, s.flag Fld.snapRestoreSrc_tensors_only, s.f Fld.snapRestoreSrc_qp, s.f Fld.snapRestoreSrc_rkey, s.rd Reg.snapRestoreAddr, ctr, [], none, false⟩ ∧ s.qpReady r.qp = true ∧ t = ((((s.put Fld.snapRestoreStatus_phase 1).put Fld.snapRestoreStatus_result 0).setRestore (some r)).setBoot { s.boot with seqUse := some .restore }).askStore r 0 8192 :=
  by refine ⟨(st [(Fld.snapRestoreSrc_source, 2), (Fld.bootStatus_stage, 6), (Fld.thmSaveStatus_state, 0), (Fld.snapHeld_held, 0), (Fld.snapRestoreSrc_tensors_only, 1), (Fld.ctrRange_first 0, 0), (Fld.ctrRange_count 0, 16), (Fld.snapRestoreSrc_slot, 0), (Fld.hostQpCfg_state 3, 1), (Fld.snapRestoreSrc_qp, 3)]), .lead, 0, 0, _, _, ?_, ?_, ?_, ?_, ?_, ?_, ?_, ?_, ?_, ?_, rfl, ?_, rfl⟩ <;> decide +kernel
theorem witness_RestoresStartAndMoveThroughTheirPhases_4 : ∃ (s : State) (w : Writer) (p : Fin 4) (_ctr : Fin 16384) (t : State), s.Live ∧ s.mayWriteS w = true ∧ s.writerPasses w p = true ∧ s.snap.restore = none ∧ ((s.part p).started = false ∨ s.serving = false ∨ s.boot.seqUse.isSome = true ∨ (s.flag Fld.snapRestoreSrc_tensors_only = false ∧ s.idlePart p = false)) ∧ s.f Fld.snapRestoreSrc_source = 0 ∧ t = (s.put Fld.snapRestoreStatus_phase 6).put Fld.snapRestoreStatus_result Res.badField :=
  by refine ⟨(st [(Fld.snapRestoreSrc_source, 0)]), .lead, 0, 0, _, ?_, ?_, ?_, ?_, ?_, ?_, rfl⟩ <;> decide +kernel
theorem witness_RestoresStartAndMoveThroughTheirPhases_5 : ∃ (s : State) (r : Restore) (t : State), s.Live ∧ s.snap.restore = some r ∧ s.isHeld = false ∧ s.f Fld.thmSaveStatus_state = 0 ∧ s.f Fld.snapRestoreStatus_phase = 1 ∧ t = s.restoreVerify r :=
  by refine ⟨{ (st [(Fld.thmSaveStatus_state, 0), (Fld.snapRestoreStatus_phase, 1), (Fld.snapHeld_held, 0)]) with snap.restore := some ⟨0, 0, 0, true, 0, 0, 0, 0, [], none, false⟩ }, ⟨0, 0, 0, true, 0, 0, 0, 0, [], none, false⟩, _, ?_, ?_, ?_, ?_, ?_, rfl⟩ <;> decide +kernel
theorem witness_RestoresStartAndMoveThroughTheirPhases_6 : ∃ (s : State) (r : Restore) (t : State), s.Live ∧ s.snap.restore = some r ∧ s.isHeld = false ∧ s.f Fld.thmSaveStatus_state = 0 ∧ s.f Fld.snapRestoreStatus_phase = 2 ∧ t = s.restoreRouting r :=
  by refine ⟨{ (st [(Fld.thmSaveStatus_state, 0), (Fld.snapRestoreStatus_phase, 2), (Fld.snapHeld_held, 0)]) with snap.restore := some ⟨0, 0, 0, true, 0, 0, 0, 0, [], none, false⟩ }, ⟨0, 0, 0, true, 0, 0, 0, 0, [], none, false⟩, _, ?_, ?_, ?_, ?_, ?_, rfl⟩ <;> decide +kernel
theorem witness_RestoresStartAndMoveThroughTheirPhases_7 : ∃ (s : State) (r : Restore) (t : State), s.Live ∧ s.snap.restore = some r ∧ s.isHeld = false ∧ s.f Fld.thmSaveStatus_state = 0 ∧ s.f Fld.snapRestoreStatus_phase = 3 ∧ t = s.restoreTensors r :=
  by refine ⟨{ (st [(Fld.thmSaveStatus_state, 0), (Fld.snapRestoreStatus_phase, 3), (Fld.snapHeld_held, 0)]) with snap.restore := some ⟨0, 0, 0, true, 0, 0, 0, 0, [], none, false⟩ }, ⟨0, 0, 0, true, 0, 0, 0, 0, [], none, false⟩, _, ?_, ?_, ?_, ?_, ?_, rfl⟩ <;> decide +kernel
theorem witness_RestoresStartAndMoveThroughTheirPhases_8 : ∃ (s : State) (r : Restore) (t : State), s.Live ∧ s.snap.restore = some r ∧ s.isHeld = false ∧ s.f Fld.thmSaveStatus_state = 0 ∧ s.f Fld.snapRestoreStatus_phase = 4 ∧ t = s.restoreFinish r (s.restoreImage r) :=
  by refine ⟨{ (st [(Fld.thmSaveStatus_state, 0), (Fld.snapRestoreStatus_phase, 4), (Fld.snapHeld_held, 0)]) with snap.restore := some ⟨0, 0, 0, true, 0, 0, 0, 0, [], none, false⟩ }, ⟨0, 0, 0, true, 0, 0, 0, 0, [], none, false⟩, _, ?_, ?_, ?_, ?_, ?_, rfl⟩ <;> decide +kernel

theorem witness_TheWindowAndTheLeaseAreObeyed_0 : ∃ (s : State) (w : Writer) (n : Fin 4) (t : State), s.Live ∧ s.Accepts w (Reg.snapEvalwinCtrl n) 1 ∧ s.inFlight.any (fun o => s.opPart o.2 == n.val && s.writesScope [(s.rd (Reg.snapEvalwinBase n), s.rd (Reg.snapEvalwinLimit n) - s.rd (Reg.snapEvalwinBase n))] o.2) = true ∧ t = s.put (Fld.snapEvalwinCtrl_refused n) 1 :=
  ⟨{ (st [(⟨Reg.snapEvalwinBase 0, 0, 64⟩, 0), (⟨Reg.snapEvalwinLimit 0, 0, 64⟩, 2 ^ 40), (Fld.wqCfg_partition 0, 0)]) with ctl.ops := [(0, some (opw [(0, 1, 1)]))], comp.mm := [(0, some mmw)] }, .lead, 0, _, by decide +kernel, by decide +kernel, (by decide +kernel), rfl⟩
theorem witness_TheWindowAndTheLeaseAreObeyed_1 : ∃ (s : State) (w : Writer) (n : Fin 4) (t : State), s.Live ∧ s.Accepts w (Reg.snapEvalwinCtrl n) 1 ∧ s.inFlight.any (fun o => s.opPart o.2 == n.val && s.writesScope [(s.rd (Reg.snapEvalwinBase n), s.rd (Reg.snapEvalwinLimit n) - s.rd (Reg.snapEvalwinBase n))] o.2) = false ∧ t = s.put (Fld.snapEvalwinCtrl_enable n) 1 :=
  ⟨(st []), .lead, 0, _, by decide +kernel, by decide +kernel, (by decide +kernel), rfl⟩
theorem witness_TheWindowAndTheLeaseAreObeyed_2 : ∃ (s : State) (w : Writer) (n : Fin 4) (t : State), s.Live ∧ s.Accepts w (Reg.snapEvalwinCtrl n) 0 ∧ t = s.put (Fld.snapEvalwinCtrl_enable n) 0 :=
  ⟨(st []), .lead, 0, _, by decide +kernel, by decide +kernel, rfl⟩
theorem witness_TheWindowAndTheLeaseAreObeyed_3 : ∃ (s : State) (t : State), s.Live ∧ s.boot.leadClaimed = true ∧ s.isHeld = false ∧ t = s.setBoot { s.boot with renewedAt := s.now } :=
  ⟨(st []), _, by decide +kernel, by decide +kernel, (by decide +kernel), rfl⟩
theorem witness_TheWindowAndTheLeaseAreObeyed_4 : ∃ (s : State) (cause : Fin 3) (u : State) (t : State), s.Live ∧ s.boot.leadClaimed = true ∧ s.isHeld = false ∧ (cause.val = 0 → s.boot.cppRefused = false) ∧ (u = (((s.put Fld.snapHeld_held 1).put (if cause.val = 0 then Fld.snapHeld_dual_claim else if cause.val = 1 then Fld.snapHeld_lost_pommel else Fld.snapHeld_lost_cantle) 1).put Fld.evrecStatus_held_writer 1).clocks) ∧ t = (u.event 0x0A06 none (cause.val == 2) 0 (toLE 4 (u.rd Reg.snapHeld))).sendTwinFailed 0 :=
  ⟨(st []), 0, _, _, by decide +kernel, by decide +kernel, (by decide +kernel), by decide +kernel, rfl, rfl⟩

theorem witness_TheReinTheTelemetryAndTheFrequencyStep_0 : ∃ (s : State) (t : State), s.Live ∧ (s.saveState = 1 ∨ s.saveState = 2 ∨ s.saveState = 4 ∨ s.power.tripWire = true) ∧ t = ((s.setPower { s.power with ticks := s.power.ticks + 1, winSave := true }).showDuty [0, 0, 0, 0]).countGated [0, 0, 0, 0] :=
  ⟨(st [(Fld.thmSaveStatus_state, 4)]), _, by decide +kernel, by decide +kernel, rfl⟩
theorem witness_TheReinTheTelemetryAndTheFrequencyStep_1 : ∃ (s : State) (g : List Nat) (p : Nat) (t : State), s.Live ∧ s.saveState ≠ 1 ∧ s.saveState ≠ 2 ∧ s.saveState ≠ 4 ∧ s.power.tripWire = false ∧ g = (match s.power.ramp with | some r => s.allocate.g.map (min r) | none => s.allocate.g) ∧ p = ((s.tickEnergy.map Prod.snd).foldl (· + ·) 0) ∧ (t = ((((((((((s.setPower { s.power with ticks := s.power.ticks + 1 }).setPower { s.power with ticks := s.power.ticks + 1, winSum := s.power.winSum + p, winTicks := s.power.winTicks + 1, raw := addEnergy s.power.raw s.tickEnergy, msTicks := s.power.msTicks + 1, msDuty := s.power.msDuty + (((List.range s.allocate.g.length).filter s.arrayInService).map (fun i => g.getD i 0)).foldl (· + ·) 0, msArrays := s.power.msArrays + ((List.range s.allocate.g.length).filter s.arrayInService).length, msFull := s.power.msFull && g.all (· == 64), roomy := s.allocate.roomy, ramp := match s.power.ramp with | some r => if 64 ≤ r then none else some (r + 1) | none => none }).put Fld.reinStatus_p_act ((p + s.power.excess) / 1000)).put Fld.reinStatus_links (s.allocate.links / 1000)).put Fld.reinStatus_mem (s.allocate.mem / 1000)).put Fld.reinStatus_comp (s.allocate.comp / 1000)).put Fld.reinPower_p_est (p / 1000)).putB Fld.reinStatus_thermal (decide (s.effCapW < s.capW))).showDuty g).countGated g)) :=
  by refine ⟨(st [(Fld.thmSaveStatus_state, 0)]), _, _, _, ?_, ?_, ?_, ?_, ?_, rfl, rfl, rfl⟩ <;> decide +kernel
theorem witness_TheReinTheTelemetryAndTheFrequencyStep_2 : ∃ (s : State) (w : Writer) (v : Word32) (t : State), s.Live ∧ s.Accepts w Reg.reinCap v.toNat ∧ s.f Fld.reinCap_img_min ≤ (bits v.toNat 0 9) ∧ (bits v.toNat 0 9) ≤ s.f Fld.reinCap_img_max ∧ t = s.put Fld.reinCap_cap_step (bits v.toNat 0 9) :=
  ⟨(st []), .lead, 0, _, by decide +kernel, by decide +kernel, (by decide +kernel), by decide +kernel, rfl⟩
theorem witness_TheReinTheTelemetryAndTheFrequencyStep_3 : ∃ (s : State) (w : Writer) (v : Word32) (t : State), s.Live ∧ s.Accepts w Reg.reinCap v.toNat ∧ ((bits v.toNat 0 9) < s.f Fld.reinCap_img_min ∨ s.f Fld.reinCap_img_max < (bits v.toNat 0 9)) ∧ t = s.badWrite Reg.reinCap v.toNat :=
  ⟨(st [(Fld.reinCap_img_min, 101), (Fld.reinCap_img_max, 200)]), .lead, 100, _, by decide +kernel, by decide +kernel, (by decide +kernel), rfl⟩
theorem witness_TheReinTheTelemetryAndTheFrequencyStep_4 : ∃ (s : State) (_rails : List (Option (Nat × Nat × Nat))) (t : State), s.Live ∧ s.power.winSave = true ∧ t = ((s.put Fld.reinPower_gap_run 0).commitEnergy 1 1).setPower { ((s.put Fld.reinPower_gap_run 0).commitEnergy 1 1).power with winSum := 0, winTicks := 0, winSave := false } :=
  ⟨{ (st []) with power.winSave := true }, [], _, by decide +kernel, by decide +kernel, rfl⟩
theorem witness_TheReinTheTelemetryAndTheFrequencyStep_5 : ∃ (s : State) (rails : List (Option (Nat × Nat × Nat))), s.Live ∧ s.power.winSave = false ∧ (((List.range 14).map (fun r => if s.halfRestarts (railCantle r) then none else rails.getD r none)).all Option.isSome = true) :=
  by
  refine ⟨(st []), List.replicate 14 (some (0, 0, 0)), ?_⟩
  and_intros <;> decide +kernel
theorem witness_TheReinTheTelemetryAndTheFrequencyStep_6 : ∃ (s : State) (rails : List (Option (Nat × Nat × Nat))), s.Live ∧ s.power.winSave = false ∧ (((List.range 14).map (fun r => if s.halfRestarts (railCantle r) then none else rails.getD r none)).all Option.isSome = false) :=
  by
  refine ⟨(st []), [], ?_⟩
  and_intros <;> decide +kernel
theorem witness_TheReinTheTelemetryAndTheFrequencyStep_7 : ∃ (s : State) (t : State), s.Live ∧ s.saveState = 0 ∧ s.power.msTicks ≠ 0 ∧ (s.flag Fld.reinCfg_freq_steps = false ∨ s.power.acks ≠ []) ∧ t = s.setPower { s.power with msTicks := 0, msDuty := 0, msArrays := 0, msFull := true } :=
  ⟨{ (st [(Fld.thmSaveStatus_state, 0), (Fld.reinCfg_freq_steps, 0)]) with power := { State.reset.power with msTicks := 1 } }, _, by decide +kernel, by decide +kernel, (by decide +kernel), by decide +kernel, rfl⟩
theorem witness_TheReinTheTelemetryAndTheFrequencyStep_8 : ∃ (s : State) (u : State) (t : State), s.Live ∧ s.saveState = 0 ∧ s.power.msTicks ≠ 0 ∧ s.flag Fld.reinCfg_freq_steps = true ∧ s.power.acks = [] ∧ s.power.msDuty < 48 * s.power.msArrays ∧ u = (s.put Fld.reinStatus_fstep (min 32 (s.f Fld.reinStatus_fstep + 4))).requestVcore (min 32 (s.f Fld.reinStatus_fstep + 4)) ∧ t = u.setPower { u.power with msTicks := 0, msDuty := 0, msArrays := 0, msFull := true } :=
  by refine ⟨{ (st [(Fld.thmSaveStatus_state, 0), (Fld.reinCfg_freq_steps, 1)]) with power := { State.reset.power with msTicks := 1, msDuty := 47, msArrays := 1 } }, _, _, ?_, ?_, ?_, ?_, ?_, ?_, rfl, rfl⟩ <;> decide +kernel
theorem witness_TheReinTheTelemetryAndTheFrequencyStep_10 : ∃ (s : State) (t : State), s.Live ∧ s.saveState = 0 ∧ s.power.msTicks ≠ 0 ∧ s.flag Fld.reinCfg_freq_steps = true ∧ s.power.acks = [] ∧ 48 * s.power.msArrays ≤ s.power.msDuty ∧ (s.power.msFull = false ∨ s.power.roomy = false ∨ s.f Fld.reinStatus_fstep = 0) ∧ t = s.setPower { s.power with msTicks := 0, msDuty := 0, msArrays := 0, msFull := true } :=
  by refine ⟨{ (st [(Fld.thmSaveStatus_state, 0), (Fld.reinCfg_freq_steps, 1)]) with power := { State.reset.power with msTicks := 1, msDuty := 48, msArrays := 1, msFull := false } }, _, ?_, ?_, ?_, ?_, ?_, ?_, ?_, rfl⟩ <;> decide +kernel
theorem witness_TheReinTheTelemetryAndTheFrequencyStep_11 : ∃ (s : State) (die : Fin 4) (t : State), s.Live ∧ s.power.acks.contains die.val = true ∧ t = (s.setPower { s.power with acks := s.power.acks.filter (· != die.val) }).vcoreSettled :=
  ⟨{ (st []) with power := { State.reset.power with acks := [3] } }, 3, _, by decide +kernel, by decide +kernel, rfl⟩

theorem witness_TheCinchTheSelfTestAndTheTrim_0 : ∃ (s : State) (die : Fin 4) (det : Fin 256) (t : State), s.Live ∧ s.power.cinchOff = false ∧ t = (((s.bumpSat (Fld.cinchCount_trips die) 1).put (Fld.cinchCount_last_detector die) det).setPower { s.power with tripped := (s.power.tripped ++ [die.val]).dedup }).put Fld.cinchStatus_active 1 :=
  ⟨(st []), 0, 0, _, by decide +kernel, by decide +kernel, rfl⟩
theorem witness_TheCinchTheSelfTestAndTheTrim_1 : ∃ (s : State) (_die : Fin 4) (_det : Fin 256) (t : State), s.Live ∧ s.power.cinchOff = true ∧ t = s :=
  ⟨{ (st []) with power := { State.reset.power with cinchOff := true } }, 0, 0, _, by decide +kernel, by decide +kernel, rfl⟩
theorem witness_TheCinchTheSelfTestAndTheTrim_2 : ∃ (s : State) (_rails : Fin 16) (t : State), s.Live ∧ s.power.cinchOff = true ∧ t = ((List.range 4).foldl (fun t d => t.bumpSat (Fld.cinchCount_trips d) 1) s) :=
  ⟨{ (st []) with power := { State.reset.power with cinchOff := true } }, 0, _, by decide +kernel, by decide +kernel, rfl⟩
theorem witness_TheCinchTheSelfTestAndTheTrim_3 : ∃ (s : State) (rails : Fin 16) (u : State) (t : State), s.Live ∧ s.power.cinchOff = false ∧ (∀ k, s.power.droopTold = some k → 475000 + k ≤ s.now) ∧ u = (((List.range 4).foldl (fun t d => t.bumpSat (Fld.cinchCount_trips d) 1) s).tripDies [0, 1, 2, 3]).setPower { (((List.range 4).foldl (fun t d => t.bumpSat (Fld.cinchCount_trips d) 1) s).tripDies [0, 1, 2, 3]).power with droopLow := true } ∧ t = (u.setPower { u.power with droopTold := some s.now }).event 0x0B0C none false 0 (toLE 1 rails) :=
  ⟨(st []), 0, _, _, by decide +kernel, by decide +kernel, (by decide +kernel), rfl, rfl⟩
theorem witness_TheCinchTheSelfTestAndTheTrim_4 : ∃ (s : State) (t : State), s.Live ∧ s.power.tripped ≠ [] ∧ t = s.setPower { s.power with deep := true } :=
  ⟨{ (st []) with power := { State.reset.power with tripped := [0] } }, _, by decide +kernel, by decide +kernel, rfl⟩
theorem witness_TheCinchTheSelfTestAndTheTrim_5 : ∃ (s : State) (t : State), s.Live ∧ s.power.tripped = [] ∧ t = s :=
  ⟨(st []), _, by decide +kernel, by decide +kernel, rfl⟩
theorem witness_TheCinchTheSelfTestAndTheTrim_6 : ∃ (s : State) (cycles : Nat) (t : State), s.Live ∧ s.power.tripped ≠ [] ∧ t = ((s.setPower { s.power with tripped := [], deep := false, droopLow := false }).bump Fld.cinchStretched_cycles (cycles + 8 * s.f Fld.cinchCtrl_hold_x8 + 8 + 4)).put Fld.cinchStatus_active 0 :=
  ⟨{ (st []) with power := { State.reset.power with tripped := [0] } }, 0, _, by decide +kernel, by decide +kernel, rfl⟩
theorem witness_TheCinchTheSelfTestAndTheTrim_7 : ∃ (s : State) (w : Writer) (fails : Fin 16) (t : State), s.Live ∧ s.Accepts w Reg.cinchTest (2 ^ 31) ∧ t = s.selfTestFail fails :=
  ⟨(st []), .lead, 0, _, by decide +kernel, by decide +kernel, rfl⟩
theorem witness_TheCinchTheSelfTestAndTheTrim_8 : ∃ (s : State) (w : Writer) (v : Word32) (t : State), s.Live ∧ s.Accepts w Reg.cinchCtrl (v.toNat / 2 * 2) ∧ t = ((((s.put Fld.cinchCtrl_enable 0).put Fld.cinchCtrl_hold_x8 (bits v.toNat 8 8)).put Fld.cinchStatus_guard 15).setPower { s.power with cinchStop := !s.power.cinchOff }).reviseVcore :=
  ⟨(st []), .lead, 0xFF00, _, by decide +kernel, by decide +kernel, rfl⟩
theorem witness_TheCinchTheSelfTestAndTheTrim_9 : ∃ (s : State) (w : Writer) (v : Word32) (t : State), s.Live ∧ s.Accepts w Reg.cinchCtrl (v.toNat / 2 * 2 + 1) ∧ t = ((((s.put Fld.cinchCtrl_enable 1).put Fld.cinchCtrl_hold_x8 (bits v.toNat 8 8)).setPower { s.power with cinchStop := false, cinchOff := false }).put Fld.cinchStatus_guard ((((s.put Fld.cinchCtrl_enable 1).put Fld.cinchCtrl_hold_x8 (bits v.toNat 8 8)).setPower { s.power with cinchStop := false, cinchOff := false }).f Fld.cinchStatus_selftest_fail)).reviseVcore :=
  ⟨(st []), .lead, 0xFF00, _, by decide +kernel, by decide +kernel, rfl⟩
theorem witness_TheCinchTheSelfTestAndTheTrim_10 : ∃ (s : State) (dies : List (Nat × Bool)) (t : State), s.Live ∧ (∀ e, e ∈ dies → e.2 = false) ∧ t = ((dies.take 4).zipIdx).foldl (fun t e => t.put (Fld.cinchTrim_margin_ps e.2) e.1.1) s :=
  ⟨(st []), [], _, by decide +kernel, by decide +kernel, rfl⟩
theorem witness_TheCinchTheSelfTestAndTheTrim_11 : ∃ (s : State) (m : Nat) (n : Nat) (u : State) (t : State), s.Live ∧ n = s.f (Fld.cinchTrim_steps 0) ∧ n < 20 ∧ s.dayPast (Sparse.get noneD s.power.trimAt 0) = true ∧ u = (((s.put (Fld.cinchTrim_margin_ps 0) m).put (Fld.cinchTrim_steps 0) (n + 1)).putB (Fld.cinchTrim_at_limit 0) (n + 1 == 20)).setPower { s.power with trimAt := Sparse.put noneD s.power.trimAt 0 (some s.now) } ∧ t = ((u.setKeep { s.keep with owed := s.keep.owed ++ [⟨4, 0, n + 1, s.keep.seq, s.now⟩] }).event 0x0B04 none false 0 (toLE 1 0 ++ toLE 1 (n + 1) ++ toLE 1 0)).reviseVcore :=
  ⟨(st []), 0, 0, _, _, by decide +kernel, by decide +kernel, (by decide +kernel), by decide +kernel, rfl, rfl⟩

theorem witness_HeatThrottlesAndTrips_0 : ∃ (s : State) (_a : Nat × Nat × Nat) (_b : Nat × Nat × Nat) (_c : Nat × Nat × Nat) (_d : Nat × Nat × Nat) (_temps : List Nat), s.Live :=
  ⟨(st []), (0, 0, 0), (0, 0, 0), (0, 0, 0), (0, 0, 0), [], by decide +kernel⟩
theorem witness_HeatThrottlesAndTrips_1 : ∃ (s : State) (hot : Nat) (t : State), s.Live ∧ (hot = ((List.range 4).foldl (fun b d => if s.f (Fld.thmTemp_die b) < s.f (Fld.thmTemp_die d) then d else b) 0)) ∧ s.f Fld.thmCfg_throttle_c ≤ s.f (Fld.thmTemp_die hot) ∧ s.flag Fld.thmStatus_throttling = true ∧ t = ((s.bumpSat Fld.thmThrottleCnt_ms 1).setPower { s.power with throttleMs := s.power.throttleMs + 1 }).put Fld.thmStatus_thermal_cap (max 700 (s.f Fld.thmStatus_thermal_cap - 10)) :=
  ⟨(st [(Fld.thmStatus_throttling, 1), (Fld.thmTemp_die 0, 90), (Fld.thmTemp_die 1, 90), (Fld.thmTemp_die 2, 91), (Fld.thmTemp_die 3, 90), (Fld.thmCfg_throttle_c, 91)]), 2, _, by decide +kernel, by decide +kernel, (by decide +kernel), by decide +kernel, rfl⟩
theorem witness_HeatThrottlesAndTrips_2 : ∃ (s : State) (hot : Nat) (t : State), s.Live ∧ (hot = ((List.range 4).foldl (fun b d => if s.f (Fld.thmTemp_die b) < s.f (Fld.thmTemp_die d) then d else b) 0)) ∧ s.f Fld.thmCfg_throttle_c ≤ s.f (Fld.thmTemp_die hot) ∧ s.flag Fld.thmStatus_throttling = false ∧ t = ((((s.put Fld.thmStatus_throttling 1).put Fld.thmStatus_thermal_cap (max 700 ((s.f Fld.reinStatus_p_act / 5 * 5) - 10))).bumpSat Fld.thmThrottleCnt_episodes 1).setPower { s.power with throttleMs := 0 }).event 0x0B05 none (csCantle hot) 0 (toLE 1 hot ++ toLE 1 (s.f (Fld.thmTemp_sensor hot)) ++ toLE 1 (s.f (Fld.thmTemp_die hot))) :=
  ⟨(st [(Fld.thmTemp_die 0, 90), (Fld.thmTemp_die 1, 90), (Fld.thmTemp_die 2, 91), (Fld.thmTemp_die 3, 90), (Fld.thmCfg_throttle_c, 91), (Fld.thmStatus_throttling, 0)]), 2, _, by decide +kernel, by decide +kernel, (by decide +kernel), by decide +kernel, rfl⟩
theorem witness_HeatThrottlesAndTrips_3 : ∃ (s : State) (hot : Nat) (t : State), s.Live ∧ (hot = ((List.range 4).foldl (fun b d => if s.f (Fld.thmTemp_die b) < s.f (Fld.thmTemp_die d) then d else b) 0)) ∧ s.f (Fld.thmTemp_die hot) < s.f Fld.thmCfg_throttle_c ∧ s.flag Fld.thmStatus_throttling = true ∧ (List.range 4).all (fun d => decide (s.f (Fld.thmTemp_die d) < s.f Fld.thmCfg_release_c) && decide (s.f (Fld.thmTemp_base d) < s.f Fld.thmCfg_release_c)) = true ∧ s.capW ≤ s.f Fld.thmStatus_thermal_cap + 10 ∧ t = ((((s.bumpSat Fld.thmThrottleCnt_ms 1).setPower { s.power with throttleMs := s.power.throttleMs + 1 }).put Fld.thmStatus_throttling 0).put Fld.thmStatus_thermal_cap 0).event 0x0B06 none false 0 (toLE 4 (s.power.throttleMs + 1)) :=
  by refine ⟨(st [(Fld.thmStatus_throttling, 1), (Fld.thmTemp_die 0, 90), (Fld.thmTemp_die 1, 90), (Fld.thmTemp_die 2, 91), (Fld.thmTemp_die 3, 90), (Fld.thmCfg_throttle_c, 95), (Fld.thmCfg_release_c, 92), (Fld.thmStatus_thermal_cap, 1000), (Fld.reinCap_cap_step, 0), (Fld.thmTemp_base 0, 91), (Fld.thmTemp_base 1, 91), (Fld.thmTemp_base 2, 91), (Fld.thmTemp_base 3, 91)]), 2, _, ?_, ?_, ?_, ?_, ?_, ?_, rfl⟩ <;> decide +kernel
theorem witness_HeatThrottlesAndTrips_4 : ∃ (s : State) (hot : Nat) (t : State), s.Live ∧ (hot = ((List.range 4).foldl (fun b d => if s.f (Fld.thmTemp_die b) < s.f (Fld.thmTemp_die d) then d else b) 0)) ∧ s.f (Fld.thmTemp_die hot) < s.f Fld.thmCfg_throttle_c ∧ s.flag Fld.thmStatus_throttling = true ∧ (List.range 4).all (fun d => decide (s.f (Fld.thmTemp_die d) < s.f Fld.thmCfg_release_c) && decide (s.f (Fld.thmTemp_base d) < s.f Fld.thmCfg_release_c)) = true ∧ s.f Fld.thmStatus_thermal_cap + 10 < s.capW ∧ t = ((s.bumpSat Fld.thmThrottleCnt_ms 1).setPower { s.power with throttleMs := s.power.throttleMs + 1 }).put Fld.thmStatus_thermal_cap (s.f Fld.thmStatus_thermal_cap + 10) :=
  by refine ⟨(st [(Fld.thmStatus_throttling, 1)]), 0, _, ?_, ?_, ?_, ?_, ?_, ?_, rfl⟩ <;> decide +kernel
theorem witness_HeatThrottlesAndTrips_5 : ∃ (s : State) (hot : Nat) (t : State), s.Live ∧ (hot = ((List.range 4).foldl (fun b d => if s.f (Fld.thmTemp_die b) < s.f (Fld.thmTemp_die d) then d else b) 0)) ∧ s.f (Fld.thmTemp_die hot) < s.f Fld.thmCfg_throttle_c ∧ s.flag Fld.thmStatus_throttling = false ∧ t = s :=
  ⟨(st []), 0, _, by decide +kernel, by decide +kernel, (by decide +kernel), by decide +kernel, rfl⟩
theorem witness_HeatThrottlesAndTrips_6 : ∃ (s : State) (_monitor : Fin 256) (_die : Fin 8) (t : State), s.pins.inReset = true ∧ t = ((s.setPower { s.power with tripWire := true }).put Fld.thmStatus_trip 1) :=
  ⟨State.reset, 0, 0, _, by decide +kernel, rfl⟩
theorem witness_HeatThrottlesAndTrips_7 : ∃ (s : State) (monitor : Fin 256) (die : Fin 8) (u : State) (v : State) (x : State) (t : State), s.pins.inReset = false ∧ u = (((s.setPower { s.power with tripWire := true }).put Fld.thmStatus_trip 1).showDuty [0, 0, 0, 0]) ∧ (v = (if u.isHeld ∨ u.f Fld.bootStatus_stage ≠ 6 then u else (u.event 0x0B07 none (decide (2 ≤ die.val % 4)) 0 (toLE 1 monitor ++ toLE 1 die)).sendTwinFailed 1)) ∧ x = v.setKeep { v.keep with noResume := true } ∧ (t = (if x.saveState = 2 then x.put Fld.thmSaveStatus_state 4 else x.saveTrigger 1)) :=
  ⟨(st []), 0, 0, _, _, _, _, by decide +kernel, rfl, rfl, rfl, rfl⟩
theorem witness_HeatThrottlesAndTrips_8 : ∃ (s : State), s.Live ∧ s.saveState = 0 ∧ s.power.tripWire = false :=
  by
  refine ⟨(st [(Fld.thmSaveStatus_state, 0)]), ?_⟩
  and_intros <;> decide +kernel
theorem witness_HeatThrottlesAndTrips_9 : ∃ (s : State) (_rails : List (Option (Nat × Nat × Nat))), s.Live :=
  ⟨(st []), [], by decide +kernel⟩
theorem witness_HeatThrottlesAndTrips_10 : ∃ (s : State), s.Live ∧ s.saveState = 0 ∧ s.power.msTicks ≠ 0 :=
  by
  refine ⟨{ (st [(Fld.thmSaveStatus_state, 0)]) with power := { State.reset.power with msTicks := 1 } }, ?_⟩
  and_intros <;> decide +kernel
theorem witness_HeatThrottlesAndTrips_11 : ∃ (s : State) (w : Writer) (v : Word32) (t : State), s.Live ∧ s.Accepts w Reg.reinCap v.toNat ∧ (s.f Fld.reinCap_img_min ≤ bits v.toNat 0 9 ∧ bits v.toNat 0 9 ≤ s.f Fld.reinCap_img_max) ∧ t = s.put Fld.reinCap_cap_step (bits v.toNat 0 9) :=
  ⟨(st []), .lead, 0, _, by decide +kernel, by decide +kernel, (by decide +kernel), rfl⟩
theorem witness_HeatThrottlesAndTrips_12 : ∃ (s : State) (die : Fin 4), s.Live ∧ s.power.acks.contains die.val = true :=
  by
  refine ⟨{ (st []) with power := { State.reset.power with acks := [3] } }, 3, ?_⟩
  and_intros <;> decide +kernel

theorem witness_SavesStartCommitAndResume_0 : ∃ (s : State) (t : State), s.pins.inReset = false ∧ (s.saveState = 0 ∨ s.saveState = 3) ∧ s.isHeld = false ∧ t = (s.put Fld.thmSaveStatus_warn 1).saveStart 0 :=
  ⟨(st [(Fld.thmSaveStatus_state, 3), (Fld.snapHeld_held, 0)]), _, by decide +kernel, by decide +kernel, (by decide +kernel), rfl⟩
theorem witness_SavesStartCommitAndResume_1 : ∃ (s : State) (t : State), s.pins.inReset = false ∧ (s.isHeld = true ∨ s.saveState = 5) ∧ s.saveState ≠ 4 ∧ t = (s.put Fld.thmSaveStatus_warn 1).abandonPasses.goLost :=
  ⟨(st []), _, by decide +kernel, by decide +kernel, (by decide +kernel), rfl⟩
theorem witness_SavesStartCommitAndResume_2 : ∃ (s : State) (t : State), t = s.put Fld.thmSaveStatus_glitch 1 :=
  ⟨(st []), _, rfl⟩
theorem witness_SavesStartCommitAndResume_3 : ∃ (s : State) (a : Nat), s.Live ∧ s.saveState = 1 ∧ s.keep.erased = some a :=
  by
  refine ⟨(st [(Fld.thmSaveStatus_state, 1)]), 0, ?_⟩
  and_intros <;> decide +kernel
theorem witness_SavesStartCommitAndResume_4 : ∃ (s : State) (t : State), s.pins.inReset = false ∧ s.saveState = 1 ∧ t = ((s.event 0x0B0B none false 0 (toLE 8 s.keep.seq)).put Fld.thmSaveStatus_loss_seen 1).abandonPasses.goLost :=
  ⟨(st [(Fld.thmSaveStatus_state, 1)]), _, by decide +kernel, by decide +kernel, rfl⟩
theorem witness_SavesStartCommitAndResume_5 : ∃ (s : State) (t : State), s.pins.inReset = false ∧ (s.saveState = 2 ∨ s.saveState = 3) ∧ t = (s.put Fld.thmSaveStatus_loss_seen 1).abandonPasses.goLost :=
  ⟨(st [(Fld.thmSaveStatus_state, 3)]), _, by decide +kernel, by decide +kernel, rfl⟩
theorem witness_SavesStartCommitAndResume_6 : ∃ (s : State) (_moved : List (Fin 16)), s.Live ∧ s.keep.noResume = false ∧ s.flag Fld.thmSaveStatus_loss_seen = false ∧ s.saveState = 2 :=
  by
  refine ⟨(st [(Fld.thmSaveStatus_state, 2)]), [], ?_⟩
  and_intros <;> decide +kernel
theorem witness_SavesStartCommitAndResume_7 : ∃ (s : State) (_moved : List (Fin 16)), s.Live ∧ s.keep.noResume = false ∧ s.flag Fld.thmSaveStatus_loss_seen = false ∧ s.saveState = 3 ∧ s.keep.erased.isSome = true ∧ (∀ n, n < 512 → s.f (Fld.hsmChStatus_state n) ≠ 2 ∧ s.f (Fld.hsmChStatus_state n) ≠ 3) :=
  by
  refine ⟨(st [(Fld.thmSaveStatus_state, 3)]), [], ?_⟩
  and_intros <;> decide +kernel
theorem witness_SavesStartCommitAndResume_8 : ∃ (s : State) (w : Writer) (t : State), s.Live ∧ s.Accepts w Reg.thmSaveTest (2 ^ 31) ∧ (s.saveState = 0 ∨ s.saveState = 3) ∧ s.isHeld = false ∧ t = s.saveStart 2 :=
  ⟨(st [(Fld.thmSaveStatus_state, 3), (Fld.snapHeld_held, 0)]), .lead, _, by decide +kernel, by decide +kernel, (by decide +kernel), by decide +kernel, rfl⟩
theorem witness_SavesStartCommitAndResume_9 : ∃ (s : State) (a : Nat) (b : Nat) (row : Nat) (l : List (Nat × Nat × Nat)) (t : State), s.Live ∧ s.saveState ≠ 1 ∧ s.saveState ≠ 2 ∧ s.saveState ≠ 4 ∧ s.isHeld = false ∧ s.comp.keepRepairs = (a, b, row) :: l ∧ t = (s.setComp { s.comp with keepRepairs := l }).setKeep (s.keep.write ⟨1, a, b + 256 * row, s.keep.seq, s.now⟩) :=
  by refine ⟨{ (st [(Fld.thmSaveStatus_state, 0), (Fld.snapHeld_held, 0)]) with comp.keepRepairs := [(3, 7, 127)] }, 3, 7, 127, [], _, ?_, ?_, ?_, ?_, ?_, ?_, rfl⟩ <;> decide +kernel
theorem witness_SavesStartCommitAndResume_10 : ∃ (s : State) (c : Nat) (e : Nat) (l : List (Nat × Nat)) (t : State), s.Live ∧ s.saveState ≠ 1 ∧ s.saveState ≠ 2 ∧ s.saveState ≠ 4 ∧ s.isHeld = false ∧ s.comp.keepRepairs = [] ∧ s.comp.keepSwitches = (c, e) :: l ∧ t = (s.setComp { s.comp with keepSwitches := l }).setKeep (s.keep.write ⟨2, c, e, s.keep.seq, s.now⟩) :=
  by refine ⟨{ (st [(Fld.thmSaveStatus_state, 0), (Fld.snapHeld_held, 0)]) with comp.keepSwitches := [(3, 15)] }, 3, 15, [], _, ?_, ?_, ?_, ?_, ?_, ?_, ?_, rfl⟩ <;> decide +kernel
theorem witness_SavesStartCommitAndResume_11 : ∃ (s : State) (e : LedgerEntry) (l : List LedgerEntry) (t : State), s.Live ∧ s.saveState ≠ 1 ∧ s.saveState ≠ 2 ∧ s.saveState ≠ 4 ∧ s.isHeld = false ∧ s.comp.keepRepairs = [] ∧ s.comp.keepSwitches = [] ∧ s.keep.owed = e :: l ∧ t = s.setKeep { (s.keep.write e) with owed := l } :=
  by refine ⟨{ (st [(Fld.thmSaveStatus_state, 0), (Fld.snapHeld_held, 0)]) with keep.owed := [⟨1, 0, 0, 0, 0⟩] }, ⟨1, 0, 0, 0, 0⟩, [], _, ?_, ?_, ?_, ?_, ?_, ?_, ?_, ?_, rfl⟩ <;> decide +kernel
theorem witness_SavesStartCommitAndResume_12 : ∃ (s : State) (t : State), s.Live ∧ s.saveState ≠ 1 ∧ s.saveState ≠ 4 ∧ t = (s.setKeep s.keep.eraseOld).enterRun :=
  ⟨(st []), _, by decide +kernel, by decide +kernel, (by decide +kernel), rfl⟩
theorem witness_SavesStartCommitAndResume_13 : ∃ (s : State) (t : State), (t = (if ((s.setPower { s.power with tripWire := false }).put Fld.thmStatus_trip 0).saveState = 1 then ((s.setPower { s.power with tripWire := false }).put Fld.thmStatus_trip 0).put Fld.thmSaveStatus_state 4 else (s.setPower { s.power with tripWire := false }).put Fld.thmStatus_trip 0)) :=
  ⟨(st []), _, rfl⟩

theorem witness_HostFramesAcknowledgementsAndRetries_0 : ∃ (s : State) (m : BitVec 48) (ip : Word32) (target : Word32) (t : State), s.Live ∧ s.hpUp = true ∧ s.f Fld.hostCfg_ipv6 = 0 ∧ target.toNat = s.f Fld.hostCfg_ipv4 ∧ s.f Fld.bootStatus_stage ≠ 7 ∧ t = s.emit (.arpReply m.toNat ip.toNat) :=
  by refine ⟨(st [(Fld.hostCfg_ipv6, 0)]), 0, 0, 0, _, ?_, ?_, ?_, ?_, ?_, rfl⟩ <;> decide +kernel
theorem witness_HostFramesAcknowledgementsAndRetries_1 : ∃ (s : State) (_m : BitVec 48) (_ip : Word32) (target : Word32) (t : State), s.Live ∧ s.hpUp = true ∧ (s.f Fld.hostCfg_ipv6 ≠ 0 ∨ target.toNat ≠ s.f Fld.hostCfg_ipv4 ∨ s.f Fld.bootStatus_stage = 7) ∧ t = s.bumpSat Fld.hostErr_non_roce 1 :=
  ⟨(st [(Fld.hostCfg_ipv6, 1)]), 0, 0, 0, _, by decide +kernel, by decide +kernel, (by decide +kernel), rfl⟩
theorem witness_HostFramesAcknowledgementsAndRetries_2 : ∃ (s : State) (m : BitVec 48) (ip : List Byte) (target : List Byte) (t : State), s.Live ∧ s.hpUp = true ∧ (s.f Fld.hostCfg_ipv6 = 1 ∨ s.f Fld.bootStatus_stage = 7) ∧ target = s.localGid ∧ t = s.emit (.neighbourAdvert m.toNat ip) :=
  ⟨(st [(Fld.hostCfg_ipv6, 1)]), 0, List.replicate 16 0, _, _, by decide +kernel, by decide +kernel, (by decide +kernel), rfl, rfl⟩
theorem witness_HostFramesAcknowledgementsAndRetries_3 : ∃ (s : State) (_m : BitVec 48) (_ip : List Byte) (target : List Byte) (t : State), s.Live ∧ s.hpUp = true ∧ target ≠ s.localGid ∧ t = s.bumpSat Fld.hostErr_non_roce 1 :=
  ⟨(st []), 0, [], [], _, by decide +kernel, by decide +kernel, (by decide +kernel), rfl⟩
theorem witness_HostFramesAcknowledgementsAndRetries_4 : ∃ (s : State) (t : State), s.Live ∧ s.hpUp = true ∧ t = s.bumpSat Fld.hostErr_non_roce 1 :=
  ⟨(st []), _, by decide +kernel, by decide +kernel, rfl⟩
theorem witness_HostFramesAcknowledgementsAndRetries_5 : ∃ (s : State) (q : BitVec 24) (psn : BitVec 24) (ce : Bool) (u : State) (turn : Turn) (t : State), s.Live ∧ s.f Fld.bootStatus_stage ≠ 7 ∧ s.arrive q.toNat psn.toNat ce = (u, turn) ∧ turn ≠ Turn.dropped ∧ t = (u.emit (.nak q.toNat psn.toNat .invalidRequest)).qpError q.toNat 2 :=
  ⟨(st [(Fld.hostQpCfg_state 1, 1), (Fld.bootStatus_stage, 6), (Fld.hostQpPsn_recv_psn 1, 5), (Fld.thmSaveStatus_state, 0)]), 1, 5, false, _, .next, _, by decide +kernel, by decide +kernel, pair_of (by decide +kernel), by decide +kernel, rfl⟩
theorem witness_HostFramesAcknowledgementsAndRetries_6 : ∃ (s : State) (q : BitVec 24) (psn : BitVec 24) (ce : Bool) (u : State) (t : State), s.Live ∧ s.f Fld.bootStatus_stage ≠ 7 ∧ s.arrive q.toNat psn.toNat ce = (u, Turn.dropped) ∧ t = u :=
  ⟨(st [(Fld.bootStatus_stage, 6)]), 2048, 0, false, _, _, by decide +kernel, by decide +kernel, pair_of (by decide +kernel), rfl⟩
theorem witness_HostFramesAcknowledgementsAndRetries_7 : ∃ (s : State) (q : BitVec 24) (psn : BitVec 24) (t : State), s.Live ∧ s.hpUp = true ∧ q.toNat ≤ 2047 ∧ s.f (Fld.hostQpCfg_state q.toNat) = 1 ∧ t = s.acknowledge q.toNat psn.toNat :=
  ⟨(st [((Fld.hostQpCfg_state 0), 1)]), 0, 0, _, by decide +kernel, by decide +kernel, (by decide +kernel), by decide +kernel, rfl⟩
theorem witness_HostFramesAcknowledgementsAndRetries_8 : ∃ (s : State) (q : BitVec 24) (psn : BitVec 24) (t : State), s.Live ∧ s.hpUp = true ∧ q.toNat ≤ 2047 ∧ s.f (Fld.hostQpCfg_state q.toNat) = 1 ∧ t = (s.acknowledge q.toNat ((2 ^ 24 + psn.toNat - 1) % 2 ^ 24)).goBack q.toNat psn.toNat :=
  ⟨(st [((Fld.hostQpCfg_state 0), 1)]), 0, 0, _, by decide +kernel, by decide +kernel, (by decide +kernel), by decide +kernel, rfl⟩
theorem witness_HostFramesAcknowledgementsAndRetries_9 : ∃ (s : State) (q : BitVec 24) (_psn : BitVec 24) (t : State), s.Live ∧ s.hpUp = true ∧ q.toNat ≤ 2047 ∧ s.f (Fld.hostQpCfg_state q.toNat) = 1 ∧ t = s.qpError q.toNat 2 :=
  ⟨(st [((Fld.hostQpCfg_state 0), 1)]), 0, 0, _, by decide +kernel, by decide +kernel, (by decide +kernel), by decide +kernel, rfl⟩
theorem witness_HostFramesAcknowledgementsAndRetries_10 : ∃ (s : State) (q : BitVec 24) (_psn : BitVec 24) (t : State), s.Live ∧ s.hpUp = true ∧ q.toNat ≤ 2047 ∧ s.f (Fld.hostQpCfg_state q.toNat) = 1 ∧ t = s.qpError q.toNat 3 :=
  ⟨(st [((Fld.hostQpCfg_state 0), 1)]), 0, 0, _, by decide +kernel, by decide +kernel, (by decide +kernel), by decide +kernel, rfl⟩
theorem witness_HostFramesAcknowledgementsAndRetries_11 : ∃ (s : State) (q : BitVec 24) (_psn : BitVec 24) (t : State), s.Live ∧ s.hpUp = true ∧ q.toNat ≤ 2047 ∧ s.f (Fld.hostQpCfg_state q.toNat) = 1 ∧ t = (s.qpError q.toNat ((Config.freeWord s.fresh).toNat % 4)).useFresh 1 :=
  ⟨(st [((Fld.hostQpCfg_state 0), 1)]), 0, 0, _, by decide +kernel, by decide +kernel, (by decide +kernel), by decide +kernel, rfl⟩
theorem witness_HostFramesAcknowledgementsAndRetries_12 : ∃ (s : State) (q : BitVec 24) (_psn : BitVec 24) (_nak : Option NakKind) (t : State), s.Live ∧ s.hpUp = true ∧ q.toNat ≤ 2047 ∧ s.f (Fld.hostQpCfg_state q.toNat) ≠ 1 ∧ t = s.bumpSat (Fld.hostQpStat_dropped q.toNat) 1 :=
  ⟨(st []), 0, 0, none, _, by decide +kernel, by decide +kernel, (by decide +kernel), by decide +kernel, rfl⟩
theorem witness_HostFramesAcknowledgementsAndRetries_13 : ∃ (s : State) (q : BitVec 24) (psn : BitVec 24) (data : List Byte) (r : HpReq) (rq : Nat) (rk : Nat) (ra : Nat) (u : State) (t : State), s.Live ∧ s.hpUp = true ∧ q.toNat ≤ 2047 ∧ s.f (Fld.hostQpCfg_state q.toNat) = 1 ∧ (s.qp q.toNat).tx.find? HpReq.isRead = some r ∧ r.msg = .readReq rq rk ra data.length ∧ r.psn = psn.toNat ∧ s.snap.restore = none ∧ u = s.setQp q.toNat { s.qp q.toNat with tx := (s.qp q.toNat).tx.filter (fun y => psnGe y.psn r.psn && y.psn != r.psn), tries := 0, since := s.now } ∧ t = u.progress q.toNat :=
  by refine ⟨{ (st [((Fld.hostQpCfg_state 1), 1), (Fld.hostQpCfg_state 1, 1)]) with hp.qps := [(1, { qpD 1 with tx := [⟨5, 1, .readReq 1 7 4096 0, 0⟩] })] }, 1, 5, [], ⟨5, 1, .readReq 1 7 4096 0, 0⟩, 1, 7, 4096, _, _, ?_, ?_, ?_, ?_, ?_, ?_, ?_, ?_, rfl, rfl⟩ <;> decide +kernel
theorem witness_HostFramesAcknowledgementsAndRetries_14 : ∃ (s : State) (q : Fin 2048) (r : HpReq) (l : List HpReq) (t : State), s.Live ∧ (s.qp q).tx = r :: l ∧ s.f (Fld.hostQpCfg_state q) = 1 ∧ 19456 * 2 ^ s.f (Fld.hostQpCfg_timeout q) ≤ 10 * (s.now - (s.qp q).since) ∧ (s.qp q).tries < s.f (Fld.hostQpCfg_retry_cnt q) ∧ t = ((s.qp q).tx.filter (fun x => psnGe (x.psn + x.packets - 1) r.psn)).foldl (fun t x => t.emit x.msg) ((s.setQp q { s.qp q with tries := (s.qp q).tries + 1, since := s.now }).bumpSat (Fld.hostQpStat_retransmits q) 1) :=
  by refine ⟨{ (st [((Fld.hostQpCfg_state 1), 1), (Fld.hostQpCfg_state 1, 1), (Fld.hostQpCfg_retry_cnt 1, 1)]) with hp.qps := [(1, { qpD 1 with tx := [⟨5, 1, .readReq 1 7 4096 0, 0⟩] })], now := 1000000000 }, 1, ⟨5, 1, .readReq 1 7 4096 0, 0⟩, [], _, ?_, ?_, ?_, ?_, ?_, rfl⟩ <;> decide +kernel
theorem witness_HostFramesAcknowledgementsAndRetries_15 : ∃ (s : State) (q : Fin 2048) (r : HpReq) (l : List HpReq) (t : State), s.Live ∧ (s.qp q).tx = r :: l ∧ s.f (Fld.hostQpCfg_state q) = 1 ∧ 19456 * 2 ^ s.f (Fld.hostQpCfg_timeout q) ≤ 10 * (s.now - (s.qp q).since) ∧ s.f (Fld.hostQpCfg_retry_cnt q) ≤ (s.qp q).tries ∧ t = s.qpError q 1 :=
  by refine ⟨{ (st [((Fld.hostQpCfg_state 1), 1), (Fld.hostQpCfg_state 1, 1), (Fld.hostQpCfg_retry_cnt 1, 0)]) with hp.qps := [(1, { qpD 1 with tx := [⟨5, 1, .readReq 1 7 4096 0, 0⟩] })], now := 1000000000 }, 1, ⟨5, 1, .readReq 1 7 4096 0, 0⟩, [], _, ?_, ?_, ?_, ?_, ?_, rfl⟩ <;> decide +kernel

theorem witness_QueuePairsMemoryEntriesAndThePort_0 : ∃ (s : State) (q : BitVec 24) (num : Nat) (den : Nat) (t : State), s.Live ∧ s.hpUp = true ∧ q.toNat ≤ 2047 ∧ s.f (Fld.hostQpCfg_state q.toNat) = 1 ∧ num = ((s.qp q.toNat).rateNum * (2 ^ ((s.qp q.toNat).alphaExp + 1) - (s.qp q.toNat).alphaNum)) ∧ den = ((s.qp q.toNat).rateDen * 2 ^ ((s.qp q.toNat).alphaExp + 1)) ∧ (t = (((s.setQp q.toNat { s.qp q.toNat with rateNum := if num < s.f Fld.hostCcCfg_min_rate * den then s.f Fld.hostCcCfg_min_rate else num, rateDen := if num < s.f Fld.hostCcCfg_min_rate * den then 1 else den, alphaNum := (s.qp q.toNat).alphaNum * 2 ^ s.f Fld.hostCcCfg_g_log2 + (2 ^ (s.qp q.toNat).alphaExp - (s.qp q.toNat).alphaNum), alphaExp := (s.qp q.toNat).alphaExp + s.f Fld.hostCcCfg_g_log2, rateAt := s.now }).bumpSat (Fld.hostQpStat_cnps q.toNat) 1).showRate q.toNat)) :=
  ⟨(st [((Fld.hostQpCfg_state 2047), 1), (Fld.hostQpCfg_state 2047, 1)]), 2047, _, _, _, by decide +kernel, by decide +kernel, (by decide +kernel), by decide +kernel, rfl, rfl, rfl⟩
theorem witness_QueuePairsMemoryEntriesAndThePort_1 : ∃ (s : State) (q : Fin 2048) (num : Nat) (t : State), s.Live ∧ s.f (Fld.hostQpCfg_state q) = 1 ∧ 26125 ≤ s.now - (s.qp q).rateAt ∧ num = (s.qp q).rateNum + s.f Fld.hostCcCfg_rai * (s.qp q).rateDen ∧ (t = ((s.setQp q { s.qp q with rateNum := if lineRate * (s.qp q).rateDen < num then lineRate else num, rateDen := if lineRate * (s.qp q).rateDen < num then 1 else (s.qp q).rateDen, alphaNum := (s.qp q).alphaNum * (2 ^ s.f Fld.hostCcCfg_g_log2 - 1), alphaExp := (s.qp q).alphaExp + s.f Fld.hostCcCfg_g_log2, rateAt := s.now }).showRate q)) :=
  ⟨{ (st [((Fld.hostQpCfg_state 2047), 1)]) with now := 26125 }, 2047, _, _, by decide +kernel, by decide +kernel, (by decide +kernel), rfl, rfl⟩
theorem witness_QueuePairsMemoryEntriesAndThePort_2 : ∃ (s : State) (w : Writer) (q : Fin 2048) (v : Word64) (t : State), s.Live ∧ s.Accepts w (Reg.hostQpCfg q) (setBits v.toNat 0 2 1) ∧ q.val ≠ 0 ∧ s.f (Fld.hostQpCfg_state q) = 0 ∧ t = ((s.writeFields (Reg.hostQpCfg q) (setBits v.toNat 0 2 1)).put (Fld.hostQpStat_error q) 0).qpStart q :=
  ⟨(st [((Fld.hostQpCfg_state 2047), 0), (Fld.hostQpCfg_state 2047, 0)]), .lead, 2047, 8192, _, by decide +kernel, by decide +kernel, (by decide +kernel), by decide +kernel, rfl⟩
theorem witness_QueuePairsMemoryEntriesAndThePort_3 : ∃ (s : State) (w : Writer) (q : Fin 2048) (v : Word64) (t : State), s.Live ∧ s.Accepts w (Reg.hostQpCfg q) (setBits v.toNat 0 2 1) ∧ (q.val = 0 ∨ s.f (Fld.hostQpCfg_state q) ≠ 0) ∧ t = s.badWrite (Reg.hostQpCfg q) (setBits v.toNat 0 2 1) :=
  ⟨(st []), .lead, 0, 8192, _, by decide +kernel, by decide +kernel, Or.inl rfl, rfl⟩
theorem witness_QueuePairsMemoryEntriesAndThePort_4 : ∃ (s : State) (w : Writer) (q : Fin 2048) (v : Word64) (t : State), s.Live ∧ s.Accepts w (Reg.hostQpCfg q) (setBits v.toNat 0 2 0) ∧ q.val ≠ 0 ∧ s.snap.restore = none ∧ t = ((s.writeFields (Reg.hostQpCfg q) (setBits v.toNat 0 2 0)).setQp q { s.qp q with tx := ((s.qp q).tx.filter HpReq.isRecord), tries := 0 }).endShips q Res.hwFault true :=
  ⟨(st []), .lead, 2047, 8192, _, by decide +kernel, by decide +kernel, (by decide +kernel), by decide +kernel, rfl⟩
theorem witness_QueuePairsMemoryEntriesAndThePort_5 : ∃ (s : State) (w : Writer) (k : Fin 256) (v : Word64) (t : State), s.Live ∧ s.Accepts w (Reg.hostMr0 k) v.toNat ∧ 2 ≤ k.val ∧ t = ((s.writeFields (Reg.hostMr0 k) v.toNat).put (Fld.hostMr2_tag k) (Config.randomWord s.fresh).toNat).useFresh 1 :=
  ⟨(st []), .lead, 255, 0, _, by decide +kernel, by decide +kernel, (by decide +kernel), rfl⟩
theorem witness_QueuePairsMemoryEntriesAndThePort_6 : ∃ (s : State) (w : Writer) (k : Fin 256) (v : Word64) (t : State), s.Live ∧ s.Accepts w (Reg.hostMr1 k) v.toNat ∧ 2 ≤ k.val ∧ t = ((s.writeFields (Reg.hostMr1 k) v.toNat).put (Fld.hostMr2_tag k) (Config.randomWord s.fresh).toNat).useFresh 1 :=
  ⟨(st []), .lead, 2, 0, _, by decide +kernel, by decide +kernel, (by decide +kernel), rfl⟩
theorem witness_QueuePairsMemoryEntriesAndThePort_7 : ∃ (s : State) (w : Writer) (k : Fin 256) (half : Fin 2) (v : Word64) (off : Nat) (t : State), s.Live ∧ (off = if half.val = 0 then Reg.hostMr0 k else Reg.hostMr1 k) ∧ s.Accepts w off v.toNat ∧ k.val < 2 ∧ t = s.badWrite off v.toNat :=
  ⟨(st []), .lead, 1, 1, 0, Reg.hostMr1 1, _, by decide +kernel, by decide +kernel, (by decide +kernel), by decide +kernel, rfl⟩
theorem witness_QueuePairsMemoryEntriesAndThePort_8 : ∃ (s : State) (t : State), s.Live ∧ t = s.setHp { s.hp with up := false } :=
  ⟨(st []), _, by decide +kernel, rfl⟩
theorem witness_QueuePairsMemoryEntriesAndThePort_9 : ∃ (s : State) (u : State) (v : State) (t : State), s.Live ∧ s.hp.up = false ∧ s.halfRestarts false = false ∧ 2 ≤ s.f Fld.bootStatus_stage ∧ s.f Fld.bootStatus_stage ≠ 8 ∧ u = (s.setHp { s.hp with up := true }).setPins { s.pins with sdrefP := true } ∧ (v = if u.f (Fld.hostQpCfg_state 0) = 0 ∧ s.f Fld.bootStatus_stage ≠ 7 then (u.put (Fld.hostQpCfg_state 0) 1).qpStart 0 else u) ∧ (t = (if v.isHeld then v else v.flushQueues.settle)) :=
  by refine ⟨{ (st [(Fld.bootStatus_stage, 2)]) with hp.up := false }, _, _, _, ?_, ?_, ?_, ?_, ?_, rfl, rfl, rfl⟩ <;> decide +kernel
theorem witness_QueuePairsMemoryEntriesAndThePort_10 : ∃ (s : State) (t : State), s.Live ∧ (s.hp.up = true ∨ s.halfRestarts false = true) ∧ t = s :=
  ⟨(st []), _, by decide +kernel, by decide +kernel, rfl⟩
theorem witness_QueuePairsMemoryEntriesAndThePort_11 : ∃ (s : State) (t : State), s.Live ∧ t = s :=
  ⟨(st []), _, by decide +kernel, rfl⟩

theorem witness_RdmaReachesMemoryThroughEntries_0 : ∃ (s : State) (_q : BitVec 24) (_psn : BitVec 24) (_key : Word32) (_addr : Word64) (_data : List Byte) (_ce : Bool) (t : State), s.Live ∧ s.hpUp = true ∧ t = s.bumpSat Fld.hostErr_bad_icrc 1 :=
  ⟨(st []), 0, 0, 0, 0, [], true, _, by decide +kernel, by decide +kernel, rfl⟩
theorem witness_RdmaReachesMemoryThroughEntries_1 : ∃ (s : State) (q : BitVec 24) (psn : BitVec 24) (_key : Word32) (_addr : Word64) (_data : List Byte) (ce : Bool) (u : State) (t : State), s.Live ∧ s.hpUp = true ∧ s.arrive q.toNat psn.toNat ce = (u, Turn.ahead) ∧ t = u.emit (.nak q.toNat (u.f (Fld.hostQpPsn_recv_psn q.toNat)) .sequence) :=
  ⟨(st [(Fld.hostQpCfg_state 1, 1), (Fld.bootStatus_stage, 6), (Fld.hostQpPsn_recv_psn 1, 5), (Fld.thmSaveStatus_state, 0)]), 1, 6, 0, 0, [], false, _, _, by decide +kernel, by decide +kernel, pair_of (by decide +kernel), rfl⟩
theorem witness_RdmaReachesMemoryThroughEntries_2 : ∃ (s : State) (q : BitVec 24) (psn : BitVec 24) (_key : Word32) (_addr : Word64) (data : List Byte) (ce : Bool) (u : State) (t : State), s.Live ∧ s.hpUp = true ∧ s.arrive q.toNat psn.toNat ce = (u, Turn.again) ∧ t = u.emit (.ack q.toNat (u.lastPsn psn.toNat data.length)) :=
  ⟨(st [(Fld.hostQpCfg_state 1, 1), (Fld.bootStatus_stage, 6), (Fld.hostQpPsn_recv_psn 1, 5), (Fld.thmSaveStatus_state, 0)]), 1, 4, 0, 0, [], false, _, _, by decide +kernel, by decide +kernel, pair_of (by decide +kernel), rfl⟩
theorem witness_RdmaReachesMemoryThroughEntries_3 : ∃ (s : State) (q : BitVec 24) (psn : BitVec 24) (_key : Word32) (_addr : Word64) (_data : List Byte) (ce : Bool) (u : State) (t : State), s.Live ∧ s.hpUp = true ∧ s.arrive q.toNat psn.toNat ce = (u, Turn.dropped) ∧ t = u :=
  ⟨(st []), 2048, 4, 0, 0, [], false, _, _, by decide +kernel, by decide +kernel, pair_of (by decide +kernel), rfl⟩
theorem witness_RdmaReachesMemoryThroughEntries_4 : ∃ (s : State) (q : BitVec 24) (psn : BitVec 24) (key : Word32) (addr : Word64) (data : List Byte) (ce : Bool) (u : State) (v : State) (t : State), s.Live ∧ s.hpUp = true ∧ s.arrive q.toNat psn.toNat ce = (u, Turn.next) ∧ data ≠ [] ∧ u.hostWrite q.toNat key.toNat addr.toNat data = .ok v ∧ t = (v.takePsn q.toNat (u.packetsOf data.length)).emit (.ack q.toNat (u.lastPsn psn.toNat data.length)) :=
  ⟨(st [(Fld.hostQpCfg_state 1, 1), (Fld.bootStatus_stage, 6), (Fld.hostQpPsn_recv_psn 1, 5), (Fld.thmSaveStatus_state, 0), (Fld.hostMr2_tag 2, 7), (Fld.hostMr0_valid 2, 1), (Fld.hostMr0_write 2, 1), (Fld.hostMr0_read 2, 1), (⟨Reg.hostMr0 2, 12, 52⟩, 4096), (⟨Reg.hostMr1 2, 12, 52⟩, 8192), (Fld.hostQpCfg_device 1, 1), (Fld.snapEvalwinCtrl_enable 0, 0), (Fld.hsmStackStatus_state 0, 0), (Fld.hsmStackStatus_mapout_phase 0, 0)]), 1, 5, 1794, 0x1000000, [1], false, _, _, _, by decide +kernel, by decide +kernel, pair_of (by decide +kernel), by decide +kernel, ok_okOr (d := State.reset) (by decide +kernel), rfl⟩
theorem witness_RdmaReachesMemoryThroughEntries_5 : ∃ (s : State) (q : BitVec 24) (psn : BitVec 24) (key : Word32) (addr : Word64) (data : List Byte) (ce : Bool) (u : State) (t : State), s.Live ∧ s.hpUp = true ∧ s.arrive q.toNat psn.toNat ce = (u, Turn.next) ∧ data ≠ [] ∧ u.hostWrite q.toNat key.toNat addr.toNat data = .error true ∧ t = (u.windowHit q.toNat key.toNat addr.toNat data.length).accessNak q.toNat psn.toNat :=
  ⟨(st [(Fld.hostQpCfg_state 1, 1), (Fld.bootStatus_stage, 6), (Fld.hostQpPsn_recv_psn 1, 5), (Fld.thmSaveStatus_state, 0), (Fld.hostMr2_tag 0, 1)]), 1, 5, 0, 0, [1], false, _, _, by decide +kernel, by decide +kernel, pair_of (by decide +kernel), by decide +kernel, error_of (by decide +kernel), rfl⟩
theorem witness_RdmaReachesMemoryThroughEntries_6 : ∃ (s : State) (q : BitVec 24) (psn : BitVec 24) (key : Word32) (addr : Word64) (data : List Byte) (ce : Bool) (u : State) (t : State), s.Live ∧ s.hpUp = true ∧ s.arrive q.toNat psn.toNat ce = (u, Turn.next) ∧ data ≠ [] ∧ u.hostWrite q.toNat key.toNat addr.toNat data = .error false ∧ t = u :=
  ⟨(st [(Fld.hostQpCfg_state 1, 1), (Fld.bootStatus_stage, 6), (Fld.hostQpPsn_recv_psn 1, 5), (Fld.hostMr2_tag 2, 7), (Fld.hostMr0_valid 2, 1), (Fld.hostMr0_write 2, 1), (Fld.hostMr0_read 2, 1), (⟨Reg.hostMr0 2, 12, 52⟩, 4096), (⟨Reg.hostMr1 2, 12, 52⟩, 8192), (Fld.hostQpCfg_device 1, 1), (Fld.snapEvalwinCtrl_enable 0, 0), (Fld.hsmStackStatus_state 0, 0), (Fld.hsmStackStatus_mapout_phase 0, 0), (Fld.thmSaveStatus_state, 1)]), 1, 5, 1794, 0x1000000, [1], false, _, _, by decide +kernel, by decide +kernel, pair_of (by decide +kernel), by decide +kernel, error_of (by decide +kernel), rfl⟩
theorem witness_RdmaReachesMemoryThroughEntries_7 : ∃ (s : State) (q : Nat) (key : Nat) (addr : Nat) (k : Nat) (data : List Byte), s.stage ≠ 7 ∧ s.entryOf key = some k ∧ s.entryAllows q k addr data.length true = true ∧ 2 ≤ k ∧ s.saveState = 0 ∧ s.entryOwns k addr data.length = true ∧ s.inWindow (s.f (Fld.hostMr0_partition k)) addr data.length = false :=
  by
  refine ⟨(st [(Fld.thmSaveStatus_state, 0), (Fld.hostQpCfg_state 1, 1), (Fld.bootStatus_stage, 6), (Fld.hostQpPsn_recv_psn 1, 5), (Fld.hostMr2_tag 2, 7), (Fld.hostMr0_valid 2, 1), (Fld.hostMr0_write 2, 1), (Fld.hostMr0_read 2, 1), (⟨Reg.hostMr0 2, 12, 52⟩, 4096), (⟨Reg.hostMr1 2, 12, 52⟩, 8192), (Fld.hostQpCfg_device 1, 1), (Fld.snapEvalwinCtrl_enable 0, 0), (Fld.hsmStackStatus_state 0, 0), (Fld.hsmStackStatus_mapout_phase 0, 0), (Fld.hostMr0_partition 2, 0)]), 1, 1794, 0x1000000, 2, [1], ?_⟩
  and_intros <;> decide +kernel
theorem witness_RdmaReachesMemoryThroughEntries_8 : ∃ (s : State) (q : Nat) (key : Nat) (addr : Nat) (data : List Byte), s.stage ≠ 7 ∧ (s.entryOf key = none ∨ ∃ k, s.entryOf key = some k ∧ s.entryAllows q k addr data.length true = false) :=
  by
  refine ⟨(st []), 0, 0, 0, [], ?_⟩
  and_intros <;> decide +kernel
theorem witness_RdmaReachesMemoryThroughEntries_9 : ∃ (s : State) (q : Nat) (key : Nat) (addr : Nat) (k : Nat) (data : List Byte), s.stage ≠ 7 ∧ s.entryOf key = some k ∧ s.entryAllows q k addr data.length true = true ∧ 2 ≤ k ∧ s.saveState = 0 ∧ (s.entryOwns k addr data.length = false ∨ s.inWindow (s.f (Fld.hostMr0_partition k)) addr data.length = true) :=
  by refine ⟨(st [(Fld.thmSaveStatus_state, 0), (Fld.hostQpCfg_state 1, 1), (Fld.bootStatus_stage, 6), (Fld.hostQpPsn_recv_psn 1, 5), (Fld.hostMr2_tag 2, 7), (Fld.hostMr0_valid 2, 1), (Fld.hostMr0_write 2, 1), (Fld.hostMr0_read 2, 1), (⟨Reg.hostMr0 2, 12, 52⟩, 4096), (⟨Reg.hostMr1 2, 12, 52⟩, 8192), (Fld.hostQpCfg_device 1, 1), (Fld.snapEvalwinCtrl_enable 0, 0), (Fld.hsmStackStatus_state 0, 0), (Fld.hsmStackStatus_mapout_phase 0, 0), (Fld.hostMr0_partition 2, 1)]), 1, 1794, 0x1000000, 2, [1], ?_, ?_, ?_, ?_, ?_, Or.inl (by decide +kernel)⟩ <;> decide +kernel
theorem witness_RdmaReachesMemoryThroughEntries_10 : ∃ (s : State) (_q : BitVec 24) (_psn : BitVec 24) (_key : Word32) (_addr : Word64) (_n : Word32) (_ce : Bool) (t : State), s.Live ∧ s.hpUp = true ∧ t = s.bumpSat Fld.hostErr_bad_icrc 1 :=
  ⟨(st []), 0, 0, 0, 0, 0, true, _, by decide +kernel, by decide +kernel, rfl⟩
theorem witness_RdmaReachesMemoryThroughEntries_11 : ∃ (s : State) (q : BitVec 24) (psn : BitVec 24) (_key : Word32) (_addr : Word64) (_n : Word32) (ce : Bool) (u : State) (t : State), s.Live ∧ s.hpUp = true ∧ s.arrive q.toNat psn.toNat ce = (u, Turn.ahead) ∧ t = u.emit (.nak q.toNat (u.f (Fld.hostQpPsn_recv_psn q.toNat)) .sequence) :=
  ⟨(st [(Fld.hostQpCfg_state 1, 1), (Fld.bootStatus_stage, 6), (Fld.hostQpPsn_recv_psn 1, 5), (Fld.thmSaveStatus_state, 0)]), 1, 6, 0, 0, 0, false, _, _, by decide +kernel, by decide +kernel, pair_of (by decide +kernel), rfl⟩
theorem witness_RdmaReachesMemoryThroughEntries_12 : ∃ (s : State) (q : BitVec 24) (psn : BitVec 24) (key : Word32) (addr : Word64) (n : Word32) (ce : Bool) (u : State) (v : State) (t : State), s.Live ∧ s.hpUp = true ∧ s.arrive q.toNat psn.toNat ce = (u, Turn.again) ∧ n.toNat ≠ 0 ∧ u.hostRead q.toNat psn.toNat key.toNat addr.toNat n.toNat true = some v ∧ t = v :=
  ⟨(st [(Fld.hostQpCfg_state 1, 1), (Fld.bootStatus_stage, 6), (Fld.hostQpPsn_recv_psn 1, 5), (Fld.thmSaveStatus_state, 0), (Fld.hostMr2_tag 2, 7), (Fld.hostMr0_valid 2, 1), (Fld.hostMr0_write 2, 1), (Fld.hostMr0_read 2, 1), (⟨Reg.hostMr0 2, 12, 52⟩, 4096), (⟨Reg.hostMr1 2, 12, 52⟩, 8192), (Fld.hostQpCfg_device 1, 1), (Fld.snapEvalwinCtrl_enable 0, 0), (Fld.hsmStackStatus_state 0, 0), (Fld.hsmStackStatus_mapout_phase 0, 0)]), 1, 4, 1794, 0x1000000, 4, false, _, _, _, by decide +kernel, by decide +kernel, pair_of (by decide +kernel), by decide +kernel, some_getD (d := State.reset) (by decide +kernel), rfl⟩
theorem witness_RdmaReachesMemoryThroughEntries_13 : ∃ (s : State) (q : BitVec 24) (psn : BitVec 24) (key : Word32) (addr : Word64) (n : Word32) (ce : Bool) (u : State) (v : State) (t : State), s.Live ∧ s.hpUp = true ∧ s.arrive q.toNat psn.toNat ce = (u, Turn.next) ∧ n.toNat ≠ 0 ∧ (∀ k, u.entryOf key.toNat = some k → 1 ≤ k → u.saveState = 0) ∧ u.hostRead q.toNat psn.toNat key.toNat addr.toNat n.toNat false = some v ∧ t = v.takePsn q.toNat (u.packetsOf n.toNat) :=
  ⟨(st [(Fld.hostQpCfg_state 1, 1), (Fld.bootStatus_stage, 6), (Fld.hostQpPsn_recv_psn 1, 5), (Fld.thmSaveStatus_state, 0), (Fld.hostMr2_tag 2, 7), (Fld.hostMr0_valid 2, 1), (Fld.hostMr0_write 2, 1), (Fld.hostMr0_read 2, 1), (⟨Reg.hostMr0 2, 12, 52⟩, 4096), (⟨Reg.hostMr1 2, 12, 52⟩, 8192), (Fld.hostQpCfg_device 1, 1), (Fld.snapEvalwinCtrl_enable 0, 0), (Fld.hsmStackStatus_state 0, 0), (Fld.hsmStackStatus_mapout_phase 0, 0)]), 1, 5, 1794, 0x1000000, 4, false, _, _, _, by decide +kernel, by decide +kernel, pair_of (by decide +kernel), by decide +kernel, fun _ _ _ => by decide +kernel, some_getD (d := State.reset) (by decide +kernel), rfl⟩
theorem witness_RdmaReachesMemoryThroughEntries_14 : ∃ (s : State) (q : BitVec 24) (psn : BitVec 24) (key : Word32) (addr : Word64) (n : Word32) (ce : Bool) (u : State) (t : State), s.Live ∧ s.hpUp = true ∧ s.arrive q.toNat psn.toNat ce = (u, Turn.next) ∧ n.toNat ≠ 0 ∧ (∀ k, u.entryOf key.toNat = some k → 1 ≤ k → u.saveState = 0) ∧ u.hostRead q.toNat psn.toNat key.toNat addr.toNat n.toNat false = none ∧ t = u.accessNak q.toNat psn.toNat :=
  ⟨(st [(Fld.hostQpCfg_state 1, 1), (Fld.bootStatus_stage, 6), (Fld.hostQpPsn_recv_psn 1, 5), (Fld.thmSaveStatus_state, 0), (Fld.hostMr2_tag 0, 1)]), 1, 5, 0, 0, 4, false, _, _, by decide +kernel, by decide +kernel, pair_of (by decide +kernel), by decide +kernel, fun _ _ _ => by decide +kernel, none_of (by decide +kernel), rfl⟩
theorem witness_RdmaReachesMemoryThroughEntries_15 : ∃ (s : State) (q : Nat) (_psn : Nat) (key : Nat) (addr : Nat) (n : Nat) (k : Nat) (_again : Bool), s.entryOf key = some k ∧ s.entryAllows q k addr n false = true ∧ 1 ≤ k ∧ s.saveState = 0 ∧ s.entryOwns k addr n = true ∧ (∀ i, i < ceilDiv (addr + n) 32 - addr / 32 → s.poisonedAt ((addr / 32 + i) * 32) = false) :=
  by
  refine ⟨(st [(Fld.thmSaveStatus_state, 0), (Fld.hostQpCfg_state 1, 1), (Fld.bootStatus_stage, 6), (Fld.hostQpPsn_recv_psn 1, 5), (Fld.hostMr2_tag 2, 7), (Fld.hostMr0_valid 2, 1), (Fld.hostMr0_write 2, 1), (Fld.hostMr0_read 2, 1), (⟨Reg.hostMr0 2, 12, 52⟩, 4096), (⟨Reg.hostMr1 2, 12, 52⟩, 8192), (Fld.hostQpCfg_device 1, 1), (Fld.snapEvalwinCtrl_enable 0, 0), (Fld.hsmStackStatus_state 0, 0), (Fld.hsmStackStatus_mapout_phase 0, 0)]), 1, 0, 1794, 0x1000000, 4, 2, true, ?_⟩
  and_intros <;> decide +kernel
theorem witness_RdmaReachesMemoryThroughEntries_16 : ∃ (s : State) (q : Nat) (_psn : Nat) (key : Nat) (addr : Nat) (n : Nat) (k : Nat) (i : Nat) (j : Nat) (_again : Bool), s.entryOf key = some k ∧ s.entryAllows q k addr n false = true ∧ 1 ≤ k ∧ s.saveState = 0 ∧ s.entryOwns k addr n = true ∧ (List.range (ceilDiv (addr + n) 32 - addr / 32)).find? (fun i => s.poisonedAt ((addr / 32 + i) * 32)) = some i ∧ j = (max addr ((addr / 32 + i) * 32) - addr) / s.mtu :=
  by
  refine ⟨{ (st [(Fld.thmSaveStatus_state, 0), (Fld.hostQpCfg_state 1, 1), (Fld.bootStatus_stage, 6), (Fld.hostQpPsn_recv_psn 1, 5), (Fld.hostMr2_tag 2, 7), (Fld.hostMr0_valid 2, 1), (Fld.hostMr0_write 2, 1), (Fld.hostMr0_read 2, 1), (⟨Reg.hostMr0 2, 12, 52⟩, 4096), (⟨Reg.hostMr1 2, 12, 52⟩, 8192), (Fld.hostQpCfg_device 1, 1), (Fld.snapEvalwinCtrl_enable 0, 0), (Fld.hsmStackStatus_state 0, 0), (Fld.hsmStackStatus_mapout_phase 0, 0)]) with poison := [(4096, true)] }, 1, 5, 1794, 0x1000000, 4, 2, 0, 0, false, ?_⟩
  and_intros <;> decide +kernel

theorem witness_ResetReleasePinsAndTheLease_0 : ∃ (s : State) (t : State), t = s.resetDevice :=
  ⟨(st []), _, rfl⟩
theorem witness_ResetReleasePinsAndTheLease_1 : ∃ (s : State) (t : State), t = s.resetDevice.setPins { s.resetDevice.pins with resetLow := true, refclk := true } :=
  ⟨(st []), _, rfl⟩
theorem witness_ResetReleasePinsAndTheLease_2 : ∃ (s : State) (t : State), s.pins.inReset = false ∧ t = s.resetDevice.setPins { s.resetDevice.pins with refclk := false } :=
  ⟨(st []), _, by decide +kernel, rfl⟩
theorem witness_ResetReleasePinsAndTheLease_3 : ∃ (s : State) (straps : Fin 32) (_claims : Bool) (u : State) (t : State), s.pins.inReset = true ∧ s.power.tripWire = false ∧ s.pins.refclk = true ∧ u = (((((((s.setNow 0).setPins { s.pins with inReset := false, resetLow := false, jtag := jtagEffect false s.pins.jtag }).wr Reg.bootStraps (straps.val % 32)).put Fld.lnkNodeId_position (straps.val % 8))).showFuses).extend 0 s.fuses.romDigest) ∧ testBit straps.val 4 = true ∧ t = (u.random.1.wr Reg.secCmdNonce u.random.2) :=
  ⟨State.reset, 31, true, _, _, by decide +kernel, by decide +kernel, (by decide +kernel), rfl, by decide +kernel, rfl⟩
theorem witness_ResetReleasePinsAndTheLease_4 : ∃ (s : State) (straps : Fin 32) (u : State) (t : State), s.pins.inReset = true ∧ s.power.tripWire = false ∧ s.pins.refclk = true ∧ u = (((((((s.setNow 0).setPins { s.pins with inReset := false, resetLow := false, jtag := jtagEffect false s.pins.jtag }).wr Reg.bootStraps (straps.val % 32)).put Fld.lnkNodeId_position (straps.val % 8))).showFuses).extend 0 s.fuses.romDigest) ∧ testBit straps.val 4 = false ∧ t = (u.random.1.wr Reg.secCmdNonce u.random.2).setStage 1 :=
  ⟨State.reset, 0, _, _, by decide +kernel, by decide +kernel, (by decide +kernel), rfl, by decide +kernel, rfl⟩
theorem witness_ResetReleasePinsAndTheLease_5 : ∃ (s : State) (straps : Fin 32) (u : State) (t : State), s.pins.inReset = true ∧ s.power.tripWire = false ∧ s.pins.refclk = true ∧ u = (((((((s.setNow 0).setPins { s.pins with inReset := false, resetLow := false, jtag := jtagEffect false s.pins.jtag }).wr Reg.bootStraps (straps.val % 32)).put Fld.lnkNodeId_position (straps.val % 8))).showFuses).extend 0 s.fuses.romDigest) ∧ testBit straps.val 4 = false ∧ t = ((u.random.1.wr Reg.secCmdNonce u.random.2).setStage 1).leadStarts 0 :=
  ⟨State.reset, 15, _, _, by decide +kernel, by decide +kernel, (by decide +kernel), rfl, by decide +kernel, rfl⟩
theorem witness_ResetReleasePinsAndTheLease_6 : ∃ (s : State) (_straps : Fin 32) (ready : Bool) (_claims : Bool) (t : State), (s.pins.inReset = false ∨ ready = false ∨ s.power.tripWire = true ∨ s.pins.refclk = false) ∧ t = s :=
  ⟨(st []), 0, true, true, _, by decide +kernel, rfl⟩
theorem witness_ResetReleasePinsAndTheLease_7 : ∃ (s : State) (cantle : Bool) (u : State) (t : State), (u = if cantle then s.setPins { s.pins with sdrefP := s.pins.sdrefP && cantle, sdrefC := s.pins.sdrefC && !cantle } else hpLaneLoss (s.setPins { s.pins with sdrefP := s.pins.sdrefP && cantle, sdrefC := s.pins.sdrefC && !cantle })) ∧ (t = ((List.range 12).foldl (fun t n => if ((List.range 16).filter (fun l => testBit (if cantle then t.fullMask n - (t.fullMask n &&& pommelLanes n) else pommelLanes n) l)).isEmpty then t else lockTimeout n (((List.range 16).filter (fun l => testBit (if cantle then t.fullMask n - (t.fullMask n &&& pommelLanes n) else pommelLanes n) l)).foldl (fun t l => laneBad n l t) t)) u)) :=
  ⟨(st []), true, _, _, rfl, rfl⟩
theorem witness_ResetReleasePinsAndTheLease_8 : ∃ (s : State) (i : Fin 6) (t : State), t = s.setPins { s.pins with jtag := jtagEffect s.pins.resetLow i } :=
  ⟨(st []), 0, _, rfl⟩
theorem witness_ResetReleasePinsAndTheLease_9 : ∃ (s : State) (t : State), s.Live ∧ s.stage = 1 ∧ s.boot.leadClaimed = false ∧ 4750000 ≤ s.now ∧ t = (s.setBoot { s.boot with cppRefused := true }).leadStarts 1 :=
  ⟨{ (st [(Fld.bootStatus_stage, 1)]) with boot.leadClaimed := false, now := 4750000 }, _, by decide +kernel, by decide +kernel, (by decide +kernel), by decide +kernel, rfl⟩

theorem witness_StartUpRunsStageByStage_0 : ∃ (s : State) (t : State), s.Live ∧ s.startingAt 1 = true ∧ s.xspiCsHigh = false ∧ (chooseDir s.fuses s.norRead = none ∨ ∃ c d, chooseDir s.fuses s.norRead = some (c, d) ∧ (d.checkSections s.fuses s.norRead).isSome = true) ∧ t = s.enterRecovery :=
  ⟨{ (st [(Fld.bootStatus_stage, 1), (Fld.thmSaveStatus_state, 5)]) with now := 47500, pins := { State.reset.pins with resetLow := false, inReset := false } }, _, by decide +kernel, by decide +kernel, (by decide +kernel), Or.inl (none_of (by decide +kernel)), rfl⟩
theorem witness_StartUpRunsStageByStage_3 : ∃ (s : State) (channels : List (Fin 512)) (arrays : List (Fin 4)) (dies : Fin 16) (u : State) (t : State), s.Live ∧ s.startingAt 3 = true ∧ u = (((((channels.map Fin.val).foldl (fun t n => t.mapoutNow (n / 32) (n % 32) true) ((s.trained (channels.map Fin.val)).arraysTested (arrays.map Fin.val))).selfTestFail dies).capacityUpdate).inventoryUpdate.startParts) ∧ t = u.bootFail 0 :=
  ⟨{ (st [(Fld.bootStatus_stage, 3), (Fld.thmSaveStatus_state, 5)]) with boot := { State.reset.boot with leadClaimed := true } }, [], [], 0, _, _, by decide +kernel, by decide +kernel, rfl, rfl⟩
theorem witness_StartUpRunsStageByStage_4 : ∃ (s : State) (channels : List (Fin 512)) (arrays : List (Fin 4)) (dies : Fin 16) (u : State) (v : State) (t : State), s.Live ∧ s.startingAt 3 = true ∧ u = (((((channels.map Fin.val).foldl (fun t n => t.mapoutNow (n / 32) (n % 32) true) ((s.trained (channels.map Fin.val)).arraysTested (arrays.map Fin.val))).selfTestFail dies).capacityUpdate).inventoryUpdate.startParts) ∧ u.bootSections s.boot.runDir = some v ∧ t = (List.range 12).foldl (fun t n => t.startTraining n) (v.modesUpdate.setStage 4) :=
  ⟨{ (st [(Fld.bootStatus_stage, 3), (Fld.thmSaveStatus_state, 5)]) with boot := { State.reset.boot with leadClaimed := true } }, [], [], 0, _, _, _, by decide +kernel, by decide +kernel, rfl, some_getD (d := State.reset) (by decide +kernel), rfl⟩
theorem witness_StartUpRunsStageByStage_5 : ∃ (s : State) (channels : List (Fin 512)) (arrays : List (Fin 4)) (dies : Fin 16) (u : State) (t : State), s.Live ∧ s.startingAt 3 = true ∧ u = (((((channels.map Fin.val).foldl (fun t n => t.mapoutNow (n / 32) (n % 32) true) ((s.trained (channels.map Fin.val)).arraysTested (arrays.map Fin.val))).selfTestFail dies).capacityUpdate).inventoryUpdate.startParts) ∧ u.bootSections s.boot.runDir = none ∧ t = u.bootFail BRes.badFormat :=
  ⟨{ (st [(Fld.bootStatus_stage, 3), (Fld.thmSaveStatus_state, 5)]) with boot.runDir := (bytesOf 320 [(6, 2, 1), (0x100, 2, 3)]) }, [], [], 0, _, _, by decide +kernel, by decide +kernel, rfl, none_of (by decide +kernel), rfl⟩
theorem witness_StartUpRunsStageByStage_6 : ∃ (s : State) (channels : Fin 256) (blockBytes : Nat) (_flashBytes : Nat) (t : State), s.Live ∧ s.startingAt 4 = true ∧ (channels.val ≠ 255 ∨ 8 * s.f Fld.snapFlashCfg_keep_blocks * blockBytes < 20 * 2 ^ 20) ∧ t = ((s.setStage 5).put Fld.snapFlashCfg_keep_ok 0).generic Blk.snap none Reg.snapFlashCfg (s.f Fld.snapFlashCfg_keep_blocks) 0 :=
  ⟨{ (st [(Fld.bootStatus_stage, 4), (Fld.thmSaveStatus_state, 5)]) with boot := { State.reset.boot with leadClaimed := true } }, 0, 0, 0, _, by decide +kernel, by decide +kernel, (by decide +kernel), rfl⟩
theorem witness_StartUpRunsStageByStage_7 : ∃ (s : State) (channels : Fin 256) (blockBytes : Nat) (flashBytes : Nat) (u : State) (t : State), s.Live ∧ s.startingAt 4 = true ∧ channels.val = 255 ∧ 20 * 2 ^ 20 ≤ 8 * s.f Fld.snapFlashCfg_keep_blocks * blockBytes ∧ u = (((((liveLedger s.keep.ledger).foldl (fun t e => t.applyLedger e) (((((s.setStage 5).put Fld.snapFlashCfg_keep_ok 1).wr Reg.snapFlashCap flashBytes).put Fld.snapFlashStatus_state 1).flashShow.resumeCounts)).reviseVcore).inventoryUpdate.startParts)) ∧ s.keep.newest = none ∧ t = (u.setKeep u.keep.eraseOld).enterRun :=
  by refine ⟨{ (st [(Fld.bootStatus_stage, 4), (Fld.thmSaveStatus_state, 5), (Fld.snapFlashCfg_keep_blocks, 3)]) with boot := { State.reset.boot with leadClaimed := true } }, 255, 1048576, 0, _, _, ?_, ?_, ?_, ?_, rfl, ?_, rfl⟩ <;> decide +kernel
theorem witness_StartUpRunsStageByStage_8 : ∃ (s : State) (channels : Fin 256) (blockBytes : Nat) (flashBytes : Nat) (u : State) (v : State) (a : Nat) (r : SaveRec) (t : State), s.Live ∧ s.startingAt 4 = true ∧ channels.val = 255 ∧ 20 * 2 ^ 20 ≤ 8 * s.f Fld.snapFlashCfg_keep_blocks * blockBytes ∧ u = (((((liveLedger s.keep.ledger).foldl (fun t e => t.applyLedger e) (((((s.setStage 5).put Fld.snapFlashCfg_keep_ok 1).wr Reg.snapFlashCap flashBytes).put Fld.snapFlashStatus_state 1).flashShow.resumeCounts)).reviseVcore).inventoryUpdate.startParts)) ∧ s.keep.newest = some (a, r) ∧ v = ((u.restartMigrations (r.section_ 4)).restoreLog r).reportLoss r ∧ t = (v.setKeep v.keep.eraseOld).enterRun :=
  by refine ⟨{ (st [(Fld.bootStatus_stage, 4), (Fld.thmSaveStatus_state, 5), (Fld.snapFlashCfg_keep_blocks, 3)]) with keep.areas := [(2, some ⟨1, 0, [], [], true, none⟩)] }, 255, 1048576, 0, _, _, 2, ⟨1, 0, [], [], true, none⟩, _, ?_, ?_, ?_, ?_, rfl, ?_, rfl, rfl⟩ <;> decide +kernel
theorem witness_StartUpRunsStageByStage_9 : ∃ (s : State) (u : State) (v : State) (t : State), s.Live ∧ s.stage = 5 ∧ s.saveState = 0 ∧ s.isHeld = false ∧ u = ((((s.setStage 6).put Fld.bootStatus_ready_ms (s.now / 475000)).openEntries.newTag 0).newTag 1) ∧ (v = (if Dir.commitSvn s.boot.runDir then u.raiseSvn (Dir.svn s.boot.runDir) else u).modesUpdate) ∧ (t = (if v.qpReady 0 then v.request 0 (.send 0 (some v.node) (toLE 8 v.fuses.serial ++ toLE 8 (Dir.generation v.boot.runDir) ++ toLE 8 (Dir.fwVersion v.boot.runDir) ++ toLE 4 (s.now / 475000) ++ toLE 36 0)) 64 0 else v)) :=
  ⟨(st [(Fld.bootStatus_stage, 5), (Fld.thmSaveStatus_state, 0)]), _, _, _, by decide +kernel, by decide +kernel, (by decide +kernel), by decide +kernel, rfl, rfl, rfl⟩

theorem witness_DeltasAreCheckedWrittenAndApplied_0 : ∃ (s : State) (w : Writer) (r : Nat) (t : State), s.Live ∧ s.Accepts w Reg.bootDeltaGo (2 ^ 31) ∧ s.serving = true ∧ s.boot.seqUse = none ∧ s.deltaCheck = .error r ∧ t = s.deltaStatus 5 0 r :=
  ⟨(st [(Fld.bootStatus_stage, 6), (Fld.thmSaveStatus_state, 0), (Fld.snapHeld_held, 0), (⟨Reg.bootStageBase, 0, 64⟩, 0x1000000), (Fld.hsmStackStatus_state 0, 0), (Fld.hsmStackStatus_mapout_phase 0, 0)]), .lead, BRes.badFormat, _, by decide +kernel, by decide +kernel, (by decide +kernel), by decide +kernel, error_of (by decide +kernel), rfl⟩
theorem witness_DeltasAreCheckedWrittenAndApplied_2 : ∃ (s : State) (w : Writer) (t : State), s.Live ∧ s.Accepts w Reg.bootDeltaGo (2 ^ 31) ∧ s.serving = true ∧ s.boot.seqUse = some .delta ∧ t = s.put Fld.bootDeltaStatus_result BRes.busy :=
  ⟨{ (st [(Fld.bootStatus_stage, 6), (Fld.thmSaveStatus_state, 0), (Fld.snapHeld_held, 0)]) with boot.seqUse := some .delta }, .lead, _, by decide +kernel, by decide +kernel, (by decide +kernel), by decide +kernel, rfl⟩
theorem witness_DeltasAreCheckedWrittenAndApplied_3 : ∃ (s : State) (w : Writer) (u : SeqUse) (t : State), s.Live ∧ s.Accepts w Reg.bootDeltaGo (2 ^ 31) ∧ s.serving = true ∧ s.boot.seqUse = some u ∧ u ≠ .delta ∧ t = s.deltaStatus 5 0 BRes.busy :=
  by refine ⟨{ (st [(Fld.bootStatus_stage, 6), (Fld.thmSaveStatus_state, 0), (Fld.snapHeld_held, 0)]) with boot.seqUse := some .update }, .lead, .update, _, ?_, ?_, ?_, ?_, ?_, rfl⟩ <;> decide +kernel
theorem witness_DeltasAreCheckedWrittenAndApplied_4 : ∃ (s : State) (w : Writer) (t : State), s.Live ∧ s.Accepts w Reg.bootDeltaGo (2 ^ 31) ∧ s.serving = false ∧ t = s.badWrite Reg.bootDeltaGo (2 ^ 31) :=
  ⟨(st []), .lead, _, by decide +kernel, by decide +kernel, (by decide +kernel), rfl⟩
theorem witness_DeltasAreCheckedWrittenAndApplied_5 : ∃ (s : State) (e : List Byte) (x : State) (t : State), s.Live ∧ s.f Fld.bootDeltaStatus_state = 2 ∧ s.serving = true ∧ s.boot.newDir = [] ∧ Dir.find s.boot.deltaDir (3 + s.f Fld.bootDeltaStatus_target) = some e ∧ s.f Fld.bootDeltaStatus_target < 4 ∧ x = (s.norWrite (slotOffset (s.f Fld.bootDeltaStatus_target) (entSlot e)) s.boot.deltaSection).norWrite (65536 * (1 - s.boot.runCopy)) s.boot.deltaDir ∧ t = ((x.setBoot { x.boot with newDir := s.boot.deltaDir }).setPart (s.f Fld.bootDeltaStatus_target) { (x.part (s.f Fld.bootDeltaStatus_target)) with paused := true }).put Fld.bootDeltaStatus_state 3 :=
  by refine ⟨{ (st [(Fld.bootDeltaStatus_state, 2), (Fld.bootStatus_stage, 6), (Fld.thmSaveStatus_state, 0), (Fld.snapHeld_held, 0), (Fld.bootDeltaStatus_target, 3)]) with boot.deltaDir := (bytesOf 320 [(6, 2, 1), (0x100, 2, 6)]) }, _, _, _, ?_, ?_, ?_, ?_, some_getD (d := []) (by decide +kernel), ?_, rfl, rfl⟩ <;> decide +kernel
theorem witness_DeltasAreCheckedWrittenAndApplied_6 : ∃ (s : State) (e : List Byte) (x : State) (t : State), s.Live ∧ s.f Fld.bootDeltaStatus_state = 2 ∧ s.serving = true ∧ s.boot.newDir = [] ∧ Dir.find s.boot.deltaDir (3 + s.f Fld.bootDeltaStatus_target) = some e ∧ 4 ≤ s.f Fld.bootDeltaStatus_target ∧ x = (s.norWrite (slotOffset (s.f Fld.bootDeltaStatus_target) (entSlot e)) s.boot.deltaSection).norWrite (65536 * (1 - s.boot.runCopy)) s.boot.deltaDir ∧ t = x.setBoot { x.boot with newDir := s.boot.deltaDir } :=
  by refine ⟨{ (st [(Fld.bootDeltaStatus_state, 2), (Fld.bootStatus_stage, 6), (Fld.thmSaveStatus_state, 0), (Fld.snapHeld_held, 0), (Fld.bootDeltaStatus_target, 4)]) with boot.deltaDir := (bytesOf 320 [(6, 2, 1), (0x100, 2, 7)]) }, _, _, _, ?_, ?_, ?_, ?_, some_getD (d := []) (by decide +kernel), ?_, rfl, rfl⟩ <;> decide +kernel
theorem witness_DeltasAreCheckedWrittenAndApplied_7 : ∃ (s : State) (e : List Byte) (t : State), s.Live ∧ s.f Fld.bootDeltaStatus_state = 2 ∧ s.serving = true ∧ s.boot.newDir = [] ∧ Dir.find s.boot.deltaDir (3 + s.f Fld.bootDeltaStatus_target) = some e ∧ t = ((s.norWrite (slotOffset (s.f Fld.bootDeltaStatus_target) (entSlot e)) (freeBytes s s.boot.deltaSection.length)).useFresh s.boot.deltaSection.length).deltaEnd 5 BRes.norError :=
  ⟨{ (st [(Fld.bootDeltaStatus_state, 2), (Fld.bootStatus_stage, 6), (Fld.thmSaveStatus_state, 0), (Fld.snapHeld_held, 0), (Fld.bootDeltaStatus_target, 3)]) with boot.deltaDir := (bytesOf 320 [(6, 2, 1), (0x100, 2, 6)]) }, _, _, by decide +kernel, by decide +kernel, (by decide +kernel), by decide +kernel, some_getD (d := []) (by decide +kernel), rfl⟩
theorem witness_DeltasAreCheckedWrittenAndApplied_8 : ∃ (s : State) (e : List Byte) (t : State), s.Live ∧ s.f Fld.bootDeltaStatus_state = 2 ∧ s.serving = true ∧ s.boot.newDir = [] ∧ Dir.find s.boot.deltaDir (3 + s.f Fld.bootDeltaStatus_target) = some e ∧ t = (((s.norWrite (slotOffset (s.f Fld.bootDeltaStatus_target) (entSlot e)) s.boot.deltaSection).norWrite (65536 * (1 - s.boot.runCopy)) (freeBytes s s.boot.deltaDir.length)).useFresh (s.boot.deltaSection.length + s.boot.deltaDir.length)).deltaEnd 5 BRes.norError :=
  ⟨{ (st [(Fld.bootDeltaStatus_state, 2), (Fld.bootStatus_stage, 6), (Fld.thmSaveStatus_state, 0), (Fld.snapHeld_held, 0), (Fld.bootDeltaStatus_target, 3)]) with boot.deltaDir := (bytesOf 320 [(6, 2, 1), (0x100, 2, 6)]) }, _, _, by decide +kernel, by decide +kernel, (by decide +kernel), by decide +kernel, some_getD (d := []) (by decide +kernel), rfl⟩
theorem witness_DeltasAreCheckedWrittenAndApplied_9 : ∃ (s : State) (e : List Byte) (t : State), s.Live ∧ s.f Fld.bootDeltaStatus_state = 2 ∧ s.serving = true ∧ s.boot.newDir = [] ∧ Dir.find s.boot.deltaDir (3 + s.f Fld.bootDeltaStatus_target) = some e ∧ t = (((s.norWrite (slotOffset (s.f Fld.bootDeltaStatus_target) (entSlot e)) (freeBytes s s.boot.deltaSection.length)).norWrite (65536 * (1 - s.boot.runCopy)) s.boot.deltaDir).useFresh (s.boot.deltaSection.length + s.boot.deltaDir.length)).deltaEnd 5 BRes.norError :=
  ⟨{ (st [(Fld.bootDeltaStatus_state, 2), (Fld.bootStatus_stage, 6), (Fld.thmSaveStatus_state, 0), (Fld.snapHeld_held, 0), (Fld.bootDeltaStatus_target, 3)]) with boot.deltaDir := (bytesOf 320 [(6, 2, 1), (0x100, 2, 6)]) }, _, _, by decide +kernel, by decide +kernel, (by decide +kernel), by decide +kernel, some_getD (d := []) (by decide +kernel), rfl⟩
theorem witness_DeltasAreCheckedWrittenAndApplied_10 : ∃ (s : State) (p : Nat) (t : State), s.Live ∧ s.f Fld.bootDeltaStatus_state = 3 ∧ s.isHeld = false ∧ s.saveState = 0 ∧ p = s.f Fld.bootDeltaStatus_target ∧ s.idlePart p = true ∧ s.applySection (.part p) (3 + p) s.boot.deltaSection = none ∧ t = ((s.setPart p { (s.part p) with paused := false }).generic Blk.boot (some p) Reg.bootDeltaStatus p BRes.badFormat).deltaEnd 5 BRes.badFormat :=
  by refine ⟨(st [(Fld.bootDeltaStatus_state, 3), (Fld.thmSaveStatus_state, 0)]), 0, _, ?_, ?_, ?_, ?_, ?_, ?_, ?_, rfl⟩ <;> decide +kernel
theorem witness_DeltasAreCheckedWrittenAndApplied_11 : ∃ (s : State) (p : Nat) (u : State) (v : State) (t : State), s.Live ∧ s.f Fld.bootDeltaStatus_state = 3 ∧ s.isHeld = false ∧ s.saveState = 0 ∧ p = s.f Fld.bootDeltaStatus_target ∧ s.idlePart p = true ∧ s.applySection (.part p) (3 + p) s.boot.deltaSection = some u ∧ v = (u.extend (3 + p) (Dir.digest s.boot.deltaDir (3 + p))).markDiverged p false ∧ t = (((v.deltaRuns s.boot.deltaDir).setPart p { ((v.deltaRuns s.boot.deltaDir).part p) with paused := false }).rejoin).deltaEnd 4 BRes.ok :=
  by refine ⟨{ (st [(Fld.bootDeltaStatus_state, 3), (Fld.thmSaveStatus_state, 0), (Fld.snapHeld_held, 0), (Fld.bootDeltaStatus_target, 0)]) with boot.deltaSection := bytesOf 64 [(0, 2, 3), (2, 2, 1)] }, 0, _, _, _, ?_, ?_, ?_, ?_, ?_, ?_, some_getD (d := State.reset) (by decide +kernel), rfl, rfl⟩ <;> decide +kernel
theorem witness_DeltasAreCheckedWrittenAndApplied_12 : ∃ (s : State) (t : State), s.Live ∧ s.f Fld.bootDeltaStatus_state = 2 ∧ s.f Fld.bootDeltaStatus_target = 4 ∧ s.boot.newDir ≠ [] ∧ s.isHeld = false ∧ s.saveState = 0 ∧ s.applySection .transit 7 s.boot.deltaSection = none ∧ t = (s.generic Blk.boot none Reg.bootDeltaStatus 4 BRes.badFormat).deltaEnd 5 BRes.badFormat :=
  by refine ⟨{ (st [(Fld.bootDeltaStatus_state, 2), (Fld.bootDeltaStatus_target, 4), (Fld.thmSaveStatus_state, 0), (Fld.snapHeld_held, 0)]) with boot.newDir := [1] }, _, ?_, ?_, ?_, ?_, ?_, ?_, none_of (by decide +kernel), rfl⟩ <;> decide +kernel
theorem witness_DeltasAreCheckedWrittenAndApplied_13 : ∃ (s : State) (u : State) (t : State), s.Live ∧ s.f Fld.bootDeltaStatus_state = 2 ∧ s.f Fld.bootDeltaStatus_target = 4 ∧ s.boot.newDir ≠ [] ∧ s.isHeld = false ∧ s.saveState = 0 ∧ s.applySection .transit 7 s.boot.deltaSection = some u ∧ t = ((u.extend 7 (Dir.digest s.boot.deltaDir 7)).deltaRuns s.boot.deltaDir).deltaEnd 4 BRes.ok :=
  by refine ⟨{ (st [(Fld.bootDeltaStatus_state, 2), (Fld.bootDeltaStatus_target, 4), (Fld.thmSaveStatus_state, 0), (Fld.snapHeld_held, 0)]) with boot.newDir := [1], boot.deltaSection := bytesOf 64 [(0, 2, 7), (2, 2, 1)] }, _, _, ?_, ?_, ?_, ?_, ?_, ?_, some_getD (d := State.reset) (by decide +kernel), rfl⟩ <;> decide +kernel

theorem witness_UpdatesRunPhaseByPhase_0 : ∃ (s : State) (w : Writer) (t : State), s.Live ∧ s.Accepts w Reg.bootUpdateGo (2 ^ 31) ∧ s.serving = true ∧ s.boot.seqUse = none ∧ t = (((s.put Fld.bootUpdateStatus_phase 1).put Fld.bootUpdateStatus_result 0).put Fld.bootUpdateStatus_written_kib 0).setBoot { s.boot with seqUse := some .update } :=
  ⟨(st [(Fld.bootStatus_stage, 6), (Fld.thmSaveStatus_state, 0), (Fld.snapHeld_held, 0)]), .lead, _, by decide +kernel, by decide +kernel, (by decide +kernel), by decide +kernel, rfl⟩
theorem witness_UpdatesRunPhaseByPhase_1 : ∃ (s : State) (w : Writer) (t : State), s.Live ∧ s.Accepts w Reg.bootUpdateGo (2 ^ 31) ∧ s.serving = true ∧ s.boot.seqUse = some .update ∧ t = s.put Fld.bootUpdateStatus_result BRes.busy :=
  ⟨{ (st [(Fld.bootStatus_stage, 6), (Fld.thmSaveStatus_state, 0), (Fld.snapHeld_held, 0)]) with boot.seqUse := some .update }, .lead, _, by decide +kernel, by decide +kernel, (by decide +kernel), by decide +kernel, rfl⟩
theorem witness_UpdatesRunPhaseByPhase_2 : ∃ (s : State) (w : Writer) (u : SeqUse) (t : State), s.Live ∧ s.Accepts w Reg.bootUpdateGo (2 ^ 31) ∧ s.serving = true ∧ s.boot.seqUse = some u ∧ u ≠ .update ∧ t = (s.put Fld.bootUpdateStatus_phase 7).put Fld.bootUpdateStatus_result BRes.busy :=
  by refine ⟨{ (st [(Fld.bootStatus_stage, 6), (Fld.thmSaveStatus_state, 0), (Fld.snapHeld_held, 0)]) with boot.seqUse := some .delta }, .lead, .delta, _, ?_, ?_, ?_, ?_, ?_, rfl⟩ <;> decide +kernel
theorem witness_UpdatesRunPhaseByPhase_3 : ∃ (s : State) (w : Writer) (t : State), s.Live ∧ s.Accepts w Reg.bootUpdateGo (2 ^ 31) ∧ s.serving = false ∧ t = s.badWrite Reg.bootUpdateGo (2 ^ 31) :=
  ⟨(st []), .lead, _, by decide +kernel, by decide +kernel, (by decide +kernel), rfl⟩
theorem witness_UpdatesRunPhaseByPhase_4 : ∃ (s : State) (_outcome : Fin 3) (r : Nat) (t : State), s.Live ∧ s.boot.seqUse = some .update ∧ s.isHeld = false ∧ s.saveState = 0 ∧ s.f Fld.bootUpdateStatus_phase = 1 ∧ s.updateCheck = .error r ∧ t = ((s.put Fld.bootUpdateStatus_phase 7).put Fld.bootUpdateStatus_result r).setBoot { s.boot with seqUse := none, keptImage := [], updateStaged := [] } :=
  by refine ⟨{ (st [(Fld.thmSaveStatus_state, 0), (Fld.bootUpdateStatus_phase, 1), (⟨Reg.bootStageBase, 0, 64⟩, 0x1000000), (Fld.hsmStackStatus_state 0, 0), (Fld.hsmStackStatus_mapout_phase 0, 0), (Fld.snapHeld_held, 0)]) with boot.seqUse := some .update }, 0, BRes.badFormat, _, ?_, ?_, ?_, ?_, ?_, error_of (by decide +kernel), rfl⟩ <;> decide +kernel
theorem witness_UpdatesRunPhaseByPhase_6 : ∃ (s : State) (secs : List (Nat × List Byte)) (x : State) (t : State), s.Live ∧ s.boot.seqUse = some .update ∧ s.isHeld = false ∧ s.saveState = 0 ∧ s.f Fld.bootUpdateStatus_phase = 2 ∧ secs = sectionBytes (fun a n => Sparse.getAll norD s.boot.updateStaged a n) s.boot.newDir ∧ x = secs.foldl (fun t e => t.norWrite e.1 e.2) s ∧ t = ((x.norWrite (65536 * (1 - s.boot.runCopy)) s.boot.newDir).put Fld.bootUpdateStatus_written_kib (ceilDiv ((secs.map (fun e => e.2.length)).foldl (· + ·) 0 + s.boot.newDir.length) 1024)).put Fld.bootUpdateStatus_phase 3 :=
  by refine ⟨{ (st [(Fld.thmSaveStatus_state, 0), (Fld.bootUpdateStatus_phase, 2), (Fld.snapHeld_held, 0)]) with boot.seqUse := some .update }, _, _, _, ?_, ?_, ?_, ?_, ?_, rfl, rfl, rfl⟩ <;> decide +kernel
theorem witness_UpdatesRunPhaseByPhase_7 : ∃ (s : State) (secs : List (Nat × List Byte)) (x : State) (t : State), s.Live ∧ s.boot.seqUse = some .update ∧ s.isHeld = false ∧ s.saveState = 0 ∧ s.f Fld.bootUpdateStatus_phase = 2 ∧ secs = sectionBytes (fun a n => Sparse.getAll norD s.boot.updateStaged a n) s.boot.newDir ∧ x = secs.foldl (fun t e => t.norWrite e.1 e.2) s ∧ t = ((x.norWrite (65536 * (1 - s.boot.runCopy)) (freeBytes x s.boot.newDir.length)).useFresh s.boot.newDir.length).updateFail BRes.norError :=
  by refine ⟨{ (st [(Fld.thmSaveStatus_state, 0), (Fld.bootUpdateStatus_phase, 2), (Fld.snapHeld_held, 0)]) with boot.seqUse := some .update }, _, _, _, ?_, ?_, ?_, ?_, ?_, rfl, rfl, rfl⟩ <;> decide +kernel
theorem witness_UpdatesRunPhaseByPhase_8 : ∃ (s : State) (secs : List (Nat × List Byte)) (x : State) (t : State), s.Live ∧ s.boot.seqUse = some .update ∧ s.isHeld = false ∧ s.saveState = 0 ∧ s.f Fld.bootUpdateStatus_phase = 2 ∧ secs = sectionBytes (fun a n => Sparse.getAll norD s.boot.updateStaged a n) s.boot.newDir ∧ x = secs.foldl (fun t e => (t.norWrite e.1 (freeBytes t e.2.length)).useFresh e.2.length) s ∧ t = x.updateFail BRes.norError :=
  by refine ⟨{ (st [(Fld.thmSaveStatus_state, 0), (Fld.bootUpdateStatus_phase, 2), (Fld.snapHeld_held, 0)]) with boot.seqUse := some .update }, _, _, _, ?_, ?_, ?_, ?_, ?_, rfl, rfl, rfl⟩ <;> decide +kernel
theorem witness_UpdatesRunPhaseByPhase_9 : ∃ (s : State) (t : State), s.Live ∧ s.boot.seqUse = some .update ∧ s.isHeld = false ∧ s.saveState = 0 ∧ s.f Fld.bootUpdateStatus_phase = 3 ∧ t = s.put Fld.bootUpdateStatus_phase 4 :=
  by refine ⟨{ (st [(Fld.thmSaveStatus_state, 0), (Fld.bootUpdateStatus_phase, 3), (Fld.snapHeld_held, 0)]) with boot.seqUse := some .update }, _, ?_, ?_, ?_, ?_, ?_, rfl⟩ <;> decide +kernel
theorem witness_UpdatesRunPhaseByPhase_10 : ∃ (s : State) (t : State), s.Live ∧ s.boot.seqUse = some .update ∧ s.isHeld = false ∧ s.saveState = 0 ∧ s.f Fld.bootUpdateStatus_phase = 4 ∧ t = ((s.put Fld.bootStatus_lead 1).put Fld.bootUpdateStatus_phase 5).setBoot { s.boot with renewedAt := s.now } :=
  by refine ⟨{ (st [(Fld.thmSaveStatus_state, 0), (Fld.bootUpdateStatus_phase, 4), (Fld.snapHeld_held, 0)]) with boot.seqUse := some .update }, _, ?_, ?_, ?_, ?_, ?_, rfl⟩ <;> decide +kernel
theorem witness_UpdatesRunPhaseByPhase_11 : ∃ (s : State) (outcome : Fin 3) (ph : Nat) (t : State), s.Live ∧ s.boot.seqUse = some .update ∧ s.isHeld = false ∧ s.saveState = 0 ∧ s.f Fld.bootUpdateStatus_phase = ph ∧ (ph = 3 ∨ ph = 5) ∧ outcome ≠ 0 ∧ t = s.updateRevert :=
  by refine ⟨{ (st [(Fld.thmSaveStatus_state, 0), (Fld.bootUpdateStatus_phase, 5), (Fld.snapHeld_held, 0)]) with boot.seqUse := some .update }, 2, 5, _, ?_, ?_, ?_, ?_, ?_, ?_, ?_, rfl⟩ <;> decide +kernel
theorem witness_UpdatesRunPhaseByPhase_12 : ∃ (s : State) (u : State) (v : State) (t : State), s.Live ∧ s.boot.seqUse = some .update ∧ s.isHeld = false ∧ s.saveState = 0 ∧ s.f Fld.bootUpdateStatus_phase = 5 ∧ (u = if Dir.commitSvn s.boot.newDir then (s.extend 1 (Dir.digest s.boot.newDir 1)).raiseSvn (Dir.svn s.boot.newDir) else s.extend 1 (Dir.digest s.boot.newDir 1)) ∧ (v = if Dir.clearLedger s.boot.newDir then u.setKeep (u.keep.write ⟨5, 0, 0, u.keep.seq, u.now⟩) else u) ∧ t = s.updateDone :=
  by refine ⟨{ (st [(Fld.thmSaveStatus_state, 0), (Fld.bootUpdateStatus_phase, 5), (Fld.snapHeld_held, 0)]) with boot.seqUse := some .update }, _, _, _, ?_, ?_, ?_, ?_, ?_, rfl, rfl, rfl⟩ <;> decide +kernel

theorem witness_RecoveryLoadsAnImageOverHp_0 : ∃ (s : State) (body : List Byte) (u : State) (v : State) (t : State), s.Live ∧ s.stage = 7 ∧ s.hpUp = true ∧ s.boot.recovery = none ∧ body.length = 32 ∧ fieldLE body 0 4 = 0x52435652 ∧ u = s.random.1.setBoot { s.random.1.boot with recovery := some ⟨fieldLE body 4 4 % 2 ^ 24, fieldLE body 8 4 % 2 ^ 24, (body.drop 12).take 8, s.now⟩, windowKey := s.random.2 % 2 ^ 32 } ∧ v = ((u.put (Fld.hostQpCfg_state 2) 1).put (Fld.hostQpCfg_remote_qpn 2) (fieldLE body 4 4 % 2 ^ 24)).put (Fld.hostQpPsn_recv_psn 2) (fieldLE body 8 4 % 2 ^ 24) ∧ t = (v.emit (.ack 2 0)).recoverySend none ((body.drop 12).take 8 ++ toLE 8 s.fuses.serial ++ toLE 1 s.fuses.svn ++ toLE 1 s.fuses.ownerValid ++ toLE 1 s.fuses.ownerRevoked ++ toLE 1 0 ++ toLE 4 (s.random.2 % 2 ^ 32) ++ toLE 8 0x4000000) :=
  by refine ⟨{ (st [(Fld.bootStatus_stage, 7)]) with boot.recovery := none }, [0x52, 0x56, 0x43, 0x52] ++ List.replicate 28 0, _, _, _, ?_, ?_, ?_, ?_, ?_, ?_, rfl, rfl, rfl⟩ <;> decide +kernel
theorem witness_RecoveryLoadsAnImageOverHp_1 : ∃ (s : State) (psn : BitVec 24) (body : List Byte) (_norOk : Bool) (b : RecoveryBind) (u : State) (t : State), s.Live ∧ s.boot.recovery = some b ∧ s.stage = 7 ∧ s.hpUp = true ∧ body.length = 16 ∧ psn.toNat = s.f (Fld.hostQpPsn_recv_psn 2) ∧ s.boot.recoveryAt = none ∧ u = ((s.takePsn 2 1).emit (.ack 2 psn.toNat)).setBoot { s.boot with recovery := some { b with lastUsed := s.now } } ∧ body.take 8 ≠ b.nonce ∧ t = u.recoverySend (some BRes.nonce) [] :=
  by refine ⟨{ (st [(Fld.bootStatus_stage, 7), (Fld.hostQpPsn_recv_psn 2, 3)]) with boot.recovery := some ⟨0, 0, List.replicate 8 1, 0⟩ }, 3, List.replicate 16 0, true, ⟨0, 0, List.replicate 8 1, 0⟩, _, _, ?_, ?_, ?_, ?_, ?_, ?_, ?_, rfl, ?_, rfl⟩ <;> decide +kernel
theorem witness_RecoveryLoadsAnImageOverHp_2 : ∃ (s : State) (psn : BitVec 24) (body : List Byte) (_norOk : Bool) (b : RecoveryBind) (u : State) (r : Nat) (t : State), s.Live ∧ s.boot.recovery = some b ∧ s.stage = 7 ∧ s.hpUp = true ∧ body.length = 16 ∧ psn.toNat = s.f (Fld.hostQpPsn_recv_psn 2) ∧ s.boot.recoveryAt = none ∧ u = ((s.takePsn 2 1).emit (.ack 2 psn.toNat)).setBoot { s.boot with recovery := some { b with lastUsed := s.now } } ∧ body.take 8 = b.nonce ∧ s.recoveryCheck (min (fieldLE body 8 8) 0x4000000) = some r ∧ t = u.recoverySend (some r) [] :=
  by refine ⟨{ (st [(Fld.bootStatus_stage, 7), (Fld.hostQpPsn_recv_psn 2, 3)]) with boot.recovery := some ⟨0, 0, List.replicate 8 0, 0⟩ }, 3, List.replicate 16 0, true, ⟨0, 0, List.replicate 8 0, 0⟩, _, BRes.badFormat, _, ?_, ?_, ?_, ?_, ?_, ?_, ?_, rfl, ?_, ?_, rfl⟩ <;> decide +kernel
theorem witness_RecoveryLoadsAnImageOverHp_5 : ∃ (s : State) (b : RecoveryBind) (t : State), s.Live ∧ s.boot.recovery = some b ∧ s.stage = 7 ∧ 4750000000 + b.lastUsed ≤ s.now ∧ t = ((s.setBoot { s.boot with recovery := none }).put (Fld.hostQpCfg_state 2) 0).setQp 2 (qpD 2) :=
  ⟨{ (st [(Fld.bootStatus_stage, 7)]) with boot.recovery := some ⟨0, 0, [], 0⟩, now := 4750000000 }, ⟨0, 0, [], 0⟩, _, by decide +kernel, by decide +kernel, (by decide +kernel), by decide +kernel, rfl⟩
theorem witness_RecoveryLoadsAnImageOverHp_6 : ∃ (s : State) (a : Nat) (t : State), s.Live ∧ s.boot.recoveryAt = some a ∧ 4750000 + a ≤ s.now ∧ t = s.resetDevice :=
  ⟨{ (st []) with boot.recoveryAt := some 0, now := 4750000 }, 0, _, by decide +kernel, by decide +kernel, (by decide +kernel), rfl⟩

theorem witness_SecurityCommandsAndReports_0 : ∃ (s : State) (w : Writer) (off : Fin 16384) (t : State), s.Live ∧ blkCommand (s.secBlock (off.val % 2 ^ 14)) = 1 ∧ s.Accepts w Reg.secCmdGo (off.val % 2 ^ 14 + 2 ^ 31) ∧ s.serving = true ∧ s.boot.seqUse.isSome = true ∧ t = s.secDone BRes.busy :=
  by refine ⟨{ (st [(Fld.bootStatus_stage, 6), (Fld.thmSaveStatus_state, 0), (Fld.snapHeld_held, 0), (⟨Reg.bootStageBase, 0, 64⟩, 0x1000000), (Fld.hsmStackStatus_state 0, 0), (Fld.hsmStackStatus_mapout_phase 0, 0)]) with mem := [(131074, 1)], boot.seqUse := some .command }, .lead, 0, _, ?_, ?_, ?_, ?_, ?_, rfl⟩ <;> decide +kernel
theorem witness_SecurityCommandsAndReports_1 : ∃ (s : State) (w : Writer) (off : Fin 16384) (t : State), s.Live ∧ blkCommand (s.secBlock (off.val % 2 ^ 14)) = 2 ∧ s.Accepts w Reg.secCmdGo (off.val % 2 ^ 14 + 2 ^ 31) ∧ s.serving = true ∧ s.boot.seqUse.isSome = true ∧ t = s.secDone BRes.busy :=
  by refine ⟨{ (st [(Fld.bootStatus_stage, 6), (Fld.thmSaveStatus_state, 0), (Fld.snapHeld_held, 0), (⟨Reg.bootStageBase, 0, 64⟩, 0x1000000), (Fld.hsmStackStatus_state 0, 0), (Fld.hsmStackStatus_mapout_phase 0, 0)]) with mem := [(131074, 2)], boot.seqUse := some .command }, .lead, 0, _, ?_, ?_, ?_, ?_, ?_, rfl⟩ <;> decide +kernel
theorem witness_SecurityCommandsAndReports_2 : ∃ (s : State) (w : Writer) (off : Fin 16384) (t : State), s.Live ∧ blkCommand (s.secBlock (off.val % 2 ^ 14)) = 3 ∧ s.Accepts w Reg.secCmdGo (off.val % 2 ^ 14 + 2 ^ 31) ∧ s.serving = true ∧ s.boot.seqUse.isSome = true ∧ t = s.secDone BRes.busy :=
  by refine ⟨{ (st [(Fld.bootStatus_stage, 6), (Fld.thmSaveStatus_state, 0), (Fld.snapHeld_held, 0), (⟨Reg.bootStageBase, 0, 64⟩, 0x1000000), (Fld.hsmStackStatus_state 0, 0), (Fld.hsmStackStatus_mapout_phase 0, 0)]) with mem := [(131074, 3)], boot.seqUse := some .command }, .lead, 0, _, ?_, ?_, ?_, ?_, ?_, rfl⟩ <;> decide +kernel
theorem witness_SecurityCommandsAndReports_3 : ∃ (s : State) (w : Writer) (off : Fin 16384) (t : State), s.Live ∧ blkCommand (s.secBlock (off.val % 2 ^ 14)) = 4 ∧ s.Accepts w Reg.secCmdGo (off.val % 2 ^ 14 + 2 ^ 31) ∧ s.serving = true ∧ s.boot.seqUse.isSome = true ∧ t = s.secDone BRes.busy :=
  by refine ⟨{ (st [(Fld.bootStatus_stage, 6), (Fld.thmSaveStatus_state, 0), (Fld.snapHeld_held, 0), (⟨Reg.bootStageBase, 0, 64⟩, 0x1000000), (Fld.hsmStackStatus_state 0, 0), (Fld.hsmStackStatus_mapout_phase 0, 0)]) with mem := [(131074, 4)], boot.seqUse := some .command }, .lead, 0, _, ?_, ?_, ?_, ?_, ?_, rfl⟩ <;> decide +kernel
theorem witness_SecurityCommandsAndReports_4 : ∃ (s : State) (w : Writer) (off : Fin 16384) (r : Nat) (t : State), s.Live ∧ blkCommand (s.secBlock (off.val % 2 ^ 14)) = 1 ∧ s.Accepts w Reg.secCmdGo (off.val % 2 ^ 14 + 2 ^ 31) ∧ s.serving = true ∧ s.boot.seqUse = none ∧ s.secCheck (s.secBlock (off.val % 2 ^ 14)) = some r ∧ r < 256 ∧ t = s.secDone r :=
  by refine ⟨{ (st [(Fld.bootStatus_stage, 6), (Fld.thmSaveStatus_state, 0), (Fld.snapHeld_held, 0), (⟨Reg.bootStageBase, 0, 64⟩, 0x1000000), (Fld.hsmStackStatus_state 0, 0), (Fld.hsmStackStatus_mapout_phase 0, 0)]) with mem := [(131074, 1)] }, .lead, 0, BRes.badFormat, _, ?_, ?_, ?_, ?_, ?_, ?_, ?_, rfl⟩ <;> decide +kernel
theorem witness_SecurityCommandsAndReports_5 : ∃ (s : State) (w : Writer) (off : Fin 16384) (r : Nat) (t : State), s.Live ∧ blkCommand (s.secBlock (off.val % 2 ^ 14)) = 2 ∧ s.Accepts w Reg.secCmdGo (off.val % 2 ^ 14 + 2 ^ 31) ∧ s.serving = true ∧ s.boot.seqUse = none ∧ s.secCheck (s.secBlock (off.val % 2 ^ 14)) = some r ∧ r < 256 ∧ t = s.secDone r :=
  by refine ⟨{ (st [(Fld.bootStatus_stage, 6), (Fld.thmSaveStatus_state, 0), (Fld.snapHeld_held, 0), (⟨Reg.bootStageBase, 0, 64⟩, 0x1000000), (Fld.hsmStackStatus_state 0, 0), (Fld.hsmStackStatus_mapout_phase 0, 0)]) with mem := [(131074, 2)] }, .lead, 0, BRes.badFormat, _, ?_, ?_, ?_, ?_, ?_, ?_, ?_, rfl⟩ <;> decide +kernel
theorem witness_SecurityCommandsAndReports_6 : ∃ (s : State) (w : Writer) (off : Fin 16384) (r : Nat) (t : State), s.Live ∧ blkCommand (s.secBlock (off.val % 2 ^ 14)) = 3 ∧ s.Accepts w Reg.secCmdGo (off.val % 2 ^ 14 + 2 ^ 31) ∧ s.serving = true ∧ s.boot.seqUse = none ∧ s.secCheck (s.secBlock (off.val % 2 ^ 14)) = some r ∧ r < 256 ∧ t = s.secDone r :=
  by refine ⟨{ (st [(Fld.bootStatus_stage, 6), (Fld.thmSaveStatus_state, 0), (Fld.snapHeld_held, 0), (⟨Reg.bootStageBase, 0, 64⟩, 0x1000000), (Fld.hsmStackStatus_state 0, 0), (Fld.hsmStackStatus_mapout_phase 0, 0)]) with mem := [(131074, 3)] }, .lead, 0, BRes.badFormat, _, ?_, ?_, ?_, ?_, ?_, ?_, ?_, rfl⟩ <;> decide +kernel
theorem witness_SecurityCommandsAndReports_7 : ∃ (s : State) (w : Writer) (off : Fin 16384) (r : Nat) (t : State), s.Live ∧ blkCommand (s.secBlock (off.val % 2 ^ 14)) = 4 ∧ s.Accepts w Reg.secCmdGo (off.val % 2 ^ 14 + 2 ^ 31) ∧ s.serving = true ∧ s.boot.seqUse = none ∧ s.secCheck (s.secBlock (off.val % 2 ^ 14)) = some r ∧ r < 256 ∧ t = s.secDone r :=
  by refine ⟨{ (st [(Fld.bootStatus_stage, 6), (Fld.thmSaveStatus_state, 0), (Fld.snapHeld_held, 0), (⟨Reg.bootStageBase, 0, 64⟩, 0x1000000), (Fld.hsmStackStatus_state 0, 0), (Fld.hsmStackStatus_mapout_phase 0, 0)]) with mem := [(131074, 4)] }, .lead, 0, BRes.badFormat, _, ?_, ?_, ?_, ?_, ?_, ?_, ?_, rfl⟩ <;> decide +kernel
theorem witness_SecurityCommandsAndReports_17 : ∃ (s : State) (r : List Byte) (u : State) (t : State), s.Live ∧ s.flag Fld.secAttestStatus_busy = true ∧ s.isHeld = false ∧ s.saveState = 0 ∧ r = s.reportBody ++ padTo 64 (Config.sm2Sign s.reportBody) ∧ u = (List.range 64).foldl (fun t j => t.wr (Reg.secReportWord j) (fieldLE r (8 * j) 8)) s ∧ t = ((u.setSec { u.sec with reports := u.sec.reports + 1 }).put Fld.secAttestStatus_busy 0).put Fld.secAttestStatus_valid 1 :=
  ⟨(st [(Fld.secAttestStatus_busy, 1), (Fld.thmSaveStatus_state, 0)]), _, _, _, by decide +kernel, by decide +kernel, (by decide +kernel), by decide +kernel, rfl, rfl, rfl⟩

theorem witness_EventsAreTakenFromTheIntakesInOrder_0 : ∃ (s : State) (bridge : Bool) (u : State) (t : State), s.Live ∧ (u = if s.isHeld && !bridge then s.loseCantle else s) ∧ u.recording = false ∧ t = u :=
  ⟨(st []), true, _, _, by decide +kernel, rfl, by decide +kernel, rfl⟩
theorem witness_EventsAreTakenFromTheIntakesInOrder_1 : ∃ (s : State) (bridge : Bool) (u : State) (t : State), s.Live ∧ (u = if s.isHeld && !bridge then s.loseCantle else s) ∧ u.recording = true ∧ u.forwarded false = [] ∧ u.forwarded true = [] ∧ t = u :=
  by refine ⟨(st [(Fld.snapHeld_held, 0), (Fld.bootStatus_stage, 6)]), false, ((st [(Fld.snapHeld_held, 0), (Fld.bootStatus_stage, 6)])), _, ?_, ?_, ?_, ?_, ?_, rfl⟩ <;> decide +kernel
theorem witness_EventsAreTakenFromTheIntakesInOrder_2 : ∃ (s : State) (bridge : Bool) (u : State) (e : Ev) (es : List Ev) (t : State), s.Live ∧ (u = if s.isHeld && !bridge then s.loseCantle else s) ∧ u.recording = true ∧ u.forwarded false = e :: es ∧ u.forwarded true = [] ∧ t = (u.setRec { u.recorder with intake0 := es }).takeEvent e :=
  by refine ⟨{ (st [(Fld.snapHeld_held, 0), (Fld.bootStatus_stage, 6)]) with recorder := { State.reset.recorder with intake0 := [(⟨513, none, false, 0, [], 5, []⟩ : Ev)] } }, false, ({ (st [(Fld.snapHeld_held, 0), (Fld.bootStatus_stage, 6)]) with recorder := { State.reset.recorder with intake0 := [(⟨513, none, false, 0, [], 5, []⟩ : Ev)] } }), (⟨513, none, false, 0, [], 5, []⟩ : Ev), [], _, ?_, ?_, ?_, ?_, ?_, rfl⟩ <;> decide +kernel
theorem witness_EventsAreTakenFromTheIntakesInOrder_3 : ∃ (s : State) (bridge : Bool) (u : State) (e : Ev) (es : List Ev) (t : State), s.Live ∧ (u = if s.isHeld && !bridge then s.loseCantle else s) ∧ u.recording = true ∧ u.forwarded false = [] ∧ u.forwarded true = e :: es ∧ t = (u.setRec { u.recorder with intake1 := es }).takeEvent e :=
  by refine ⟨{ (st [(Fld.snapHeld_held, 0), (Fld.bootStatus_stage, 6)]) with recorder := { State.reset.recorder with intake1 := [(⟨513, none, false, 0, [], 5, []⟩ : Ev)] } }, false, ({ (st [(Fld.snapHeld_held, 0), (Fld.bootStatus_stage, 6)]) with recorder := { State.reset.recorder with intake1 := [(⟨513, none, false, 0, [], 5, []⟩ : Ev)] } }), (⟨513, none, false, 0, [], 5, []⟩ : Ev), [], _, ?_, ?_, ?_, ?_, ?_, rfl⟩ <;> decide +kernel
theorem witness_EventsAreTakenFromTheIntakesInOrder_4 : ∃ (s : State) (bridge : Bool) (u : State) (e : Ev) (es : List Ev) (f : Ev) (fs : List Ev) (t : State), s.Live ∧ (u = if s.isHeld && !bridge then s.loseCantle else s) ∧ u.recording = true ∧ u.forwarded false = e :: es ∧ u.forwarded true = f :: fs ∧ f.time < e.time ∧ t = (u.setRec { u.recorder with intake1 := fs }).takeEvent f :=
  by refine ⟨{ (st [(Fld.snapHeld_held, 0), (Fld.bootStatus_stage, 6)]) with recorder := { State.reset.recorder with intake0 := [(⟨513, none, false, 0, [], 5, []⟩ : Ev)], intake1 := [(⟨513, none, true, 0, [], 4, []⟩ : Ev)] } }, false, ({ (st [(Fld.snapHeld_held, 0), (Fld.bootStatus_stage, 6)]) with recorder := { State.reset.recorder with intake0 := [(⟨513, none, false, 0, [], 5, []⟩ : Ev)], intake1 := [(⟨513, none, true, 0, [], 4, []⟩ : Ev)] } }), (⟨513, none, false, 0, [], 5, []⟩ : Ev), [], (⟨513, none, true, 0, [], 4, []⟩ : Ev), [], _, ?_, ?_, ?_, ?_, ?_, ?_, rfl⟩ <;> decide +kernel
theorem witness_EventsAreTakenFromTheIntakesInOrder_5 : ∃ (s : State) (bridge : Bool) (u : State) (e : Ev) (es : List Ev) (f : Ev) (fs : List Ev) (t : State), s.Live ∧ (u = if s.isHeld && !bridge then s.loseCantle else s) ∧ u.recording = true ∧ u.forwarded false = e :: es ∧ u.forwarded true = f :: fs ∧ e.time ≤ f.time ∧ t = (u.setRec { u.recorder with intake0 := es }).takeEvent e :=
  by refine ⟨{ (st [(Fld.snapHeld_held, 0), (Fld.bootStatus_stage, 6)]) with recorder := { State.reset.recorder with intake0 := [(⟨513, none, true, 0, [], 4, []⟩ : Ev)], intake1 := [(⟨513, none, false, 0, [], 5, []⟩ : Ev)] } }, false, ({ (st [(Fld.snapHeld_held, 0), (Fld.bootStatus_stage, 6)]) with recorder := { State.reset.recorder with intake0 := [(⟨513, none, true, 0, [], 4, []⟩ : Ev)], intake1 := [(⟨513, none, false, 0, [], 5, []⟩ : Ev)] } }), (⟨513, none, true, 0, [], 4, []⟩ : Ev), [], (⟨513, none, false, 0, [], 5, []⟩ : Ev), [], _, ?_, ?_, ?_, ?_, ?_, ?_, rfl⟩ <;> decide +kernel
theorem witness_EventsAreTakenFromTheIntakesInOrder_6 : ∃ (s : State) (code : Fin 65536) (b : Bucket) (t : State), s.Live ∧ b = s.bucketOf code ∧ 0 < b.suppressed ∧ (s.rateOf code).2 * tokenUnits ≤ s.levelOf code ∧ (t = ((s.setBucketOf code { b with suppressed := 0, maxSev := 0 }).writeRecord 0x0C01 b.maxSev b.lastFlags b.lastInst (s.stepFor (if testBit b.lastFlags 0 then some (bits b.lastFlags 1 2) else none)) s.now (toLE 2 code ++ toLE 2 0 ++ toLE 4 b.suppressed ++ toLE 8 b.tFirst ++ toLE 8 b.tLast) (noticeQueues (evInfo code).2 (if testBit b.lastFlags 0 then some (bits b.lastFlags 1 2) else none) []))) :=
  ⟨{ (st ([(Fld.evrecCfg_burst, 1)]++ (List.range 64).map (fun k => (Fld.evrecRate_code k, 0)))) with recorder := { State.reset.recorder with buckets := [(0x201, ⟨475000, 0, 1, 0, 0, 0, 0, 0, false⟩)] } }, 0x201, _, _, by decide +kernel, rfl, by decide +kernel, by decide +kernel, rfl⟩

theorem witness_AnOverflowingIntakeIsCountedAndReported_0 : ∃ (s : State) (e : Ev), e.cantle = false ∧ 512 ≤ (s.intake false).length :=
  by
  refine ⟨{ (st []) with recorder := { State.reset.recorder with intake0 := List.replicate 512 (⟨513, none, false, 0, [], 5, []⟩ : Ev) } }, (⟨513, none, false, 0, [], 5, []⟩ : Ev), ?_⟩
  and_intros <;> decide +kernel
theorem witness_AnOverflowingIntakeIsCountedAndReported_1 : ∃ (s : State) (e : Ev), e.cantle = true ∧ 512 ≤ (s.intake true).length :=
  by
  refine ⟨{ (st []) with recorder := { State.reset.recorder with intake1 := List.replicate 512 (⟨513, none, true, 0, [], 4, []⟩ : Ev) } }, (⟨513, none, true, 0, [], 4, []⟩ : Ev), ?_⟩
  and_intros <;> decide +kernel
theorem witness_AnOverflowingIntakeIsCountedAndReported_2 : ∃ (s : State) (t : State), s.Live ∧ 0 < s.recorder.lost0 ∧ (s.intake false).length ≤ 256 ∧ s.recording = true ∧ t = (s.setRec { s.recorder with lost0 := 0 }).writeRecord 0x0C02 1 0 0 (s.stepFor none) s.now (toLE 1 0 ++ toLE 3 0 ++ toLE 4 s.recorder.lost0) [4] :=
  ⟨{ (st [(Fld.snapHeld_held, 0), (Fld.bootStatus_stage, 6)]) with recorder := { State.reset.recorder with lost0 := 1 } }, _, by decide +kernel, by decide +kernel, (by decide +kernel), by decide +kernel, rfl⟩
theorem witness_AnOverflowingIntakeIsCountedAndReported_3 : ∃ (s : State) (t : State), s.Live ∧ 0 < s.recorder.lost1 ∧ (s.intake true).length ≤ 256 ∧ s.recording = true ∧ t = (s.setRec { s.recorder with lost1 := 0 }).writeRecord 0x0C02 1 16 0 (s.stepFor none) s.now (toLE 1 1 ++ toLE 3 0 ++ toLE 4 s.recorder.lost1) [4] :=
  ⟨{ (st [(Fld.snapHeld_held, 0), (Fld.bootStatus_stage, 6)]) with recorder := { State.reset.recorder with lost1 := 1, intake1 := List.replicate 256 (⟨513, none, true, 0, [], 4, []⟩ : Ev) } }, _, by decide +kernel, by decide +kernel, (by decide +kernel), by decide +kernel, rfl⟩

theorem witness_RecordsAreNumberedPlacedAndLimited_1 : ∃ (s : State) (_code : Nat) (sev : Nat) (_flags : Nat) (_inst : Nat) (_step : Nat) (_time : Nat) (_payload : List Byte) (_queues : List Nat) (k : Nat), s.place sev = some k :=
  ⟨(st []), 0, 0, 0, 0, 0, 0, [], [], 0, by decide +kernel⟩
theorem witness_RecordsAreNumberedPlacedAndLimited_2 : ∃ (_s : State) (e : Ev), neverSuppressed e.code (evInfo e.code).1 = true :=
  ⟨(st []), (⟨0x0C02, none, false, 0, [], 0, []⟩ : Ev), by decide +kernel⟩
theorem witness_RecordsAreNumberedPlacedAndLimited_3 : ∃ (s : State) (e : Ev) (b : Bucket) (l : Nat) (t : State), neverSuppressed e.code (evInfo e.code).1 = false ∧ b = s.bucketOf e.code ∧ l = s.levelOf e.code ∧ tokenUnits ≤ l ∧ t = (s.setBucketOf e.code { b with level := l - tokenUnits, at_ := s.now, used := true }).writeRecord e.code (evInfo e.code).1 e.flags e.instNo (s.stepFor e.part) e.time e.payload (noticeQueues (evInfo e.code).2 e.part e.notice) :=
  ⟨(st []), ⟨0x201, none, false, 0, [], 0, []⟩, _, _, _, by decide +kernel, rfl, rfl, by decide +kernel, rfl⟩
theorem witness_RecordsAreNumberedPlacedAndLimited_4 : ∃ (s : State) (e : Ev) (b : Bucket) (l : Nat), neverSuppressed e.code (evInfo e.code).1 = false ∧ b = s.bucketOf e.code ∧ l = s.levelOf e.code ∧ l < tokenUnits :=
  ⟨(st ([(Fld.evrecCfg_burst, 0)]++ (List.range 64).map (fun k => (Fld.evrecRate_code k, 0)))), (⟨0x201, none, false, 0, [], 0, []⟩ : Ev), _, _, by decide +kernel, rfl, rfl, by decide +kernel⟩
theorem witness_RecordsAreNumberedPlacedAndLimited_5 : ∃ (s : State) (code : Nat), (s.bucketOf code).used = false :=
  ⟨(st []), 0, by decide +kernel⟩
theorem witness_RecordsAreNumberedPlacedAndLimited_6 : ∃ (s : State) (_sev : Nat) (k : Nat), s.split = true ∧ firstEmpty (s.held.map Prod.fst) 0 4096 = some k :=
  by
  refine ⟨(st [(Fld.evrecCfg_policy, 1)]), 0, 0, ?_⟩
  and_intros <;> decide +kernel
theorem witness_RecordsAreNumberedPlacedAndLimited_8 : ∃ (s : State) (_sev : Nat) (k : Nat), s.split = false ∧ firstEmpty (s.held.map Prod.fst) 0 32768 = some k :=
  by
  refine ⟨(st []), 0, 0, ?_⟩
  and_intros <;> decide +kernel

theorem witness_OnlyTheDeviceClearsTheLog_0 : ∃ (s : State) (w : Writer) (p : Bool) (t : State), s.Live ∧ s.mayClear w = false ∧ (t = (s.badWrite Reg.evrecClear (2147483650 + (if p then 1 else 0)))) :=
  ⟨(st []), .other, true, _, by decide +kernel, by decide +kernel, rfl⟩
theorem witness_OnlyTheDeviceClearsTheLog_1 : ∃ (s : State) (w : Writer) (p : Bool) (v : State) (t : State), s.Live ∧ s.mayClear w = true ∧ v = ((s.setRec { s.recorder with slots := s.recorder.slots.filter (fun e => decide (32768 ≤ e.1)), ring := 4096 }).put Fld.evrecStatus_wrapped 0).recShow ∧ (t = (v.writeRecord 0x0C04 0 0 0 (v.stepFor none) v.now (toLE 1 (if p && s.split then 3 else 2) ++ toLE 7 0 ++ toLE 8 (((s.held.filter (fun e => decide (e.1 < 32768))).map (fun e => e.2.seq)).foldl max 0)) [])) :=
  ⟨(st []), .lead, true, _, _, by decide +kernel, by decide +kernel, rfl, rfl⟩
theorem witness_OnlyTheDeviceClearsTheLog_2 : ∃ (s : State) (w : Writer) (v : State) (t : State), s.Live ∧ s.mayClear w = true ∧ s.split = true ∧ v = ((s.setRec { s.recorder with slots := s.recorder.slots.filter (fun e => decide (4096 ≤ e.1)), ring := s.recorder.ring }).put Fld.evrecStatus_wrapped 0).recShow ∧ t = v.writeRecord 0x0C04 0 0 0 (v.stepFor none) v.now (toLE 1 1 ++ toLE 7 0 ++ toLE 8 (((s.held.filter (fun e => decide (e.1 < 4096))).map (fun e => e.2.seq)).foldl max 0)) [] :=
  ⟨(st [(Fld.evrecCfg_policy, 1)]), .lead, _, _, by decide +kernel, by decide +kernel, (by decide +kernel), rfl, rfl⟩
theorem witness_OnlyTheDeviceClearsTheLog_3 : ∃ (s : State) (w : Writer) (t : State), s.Live ∧ s.mayClear w = true ∧ s.split = false ∧ t = s :=
  ⟨(st []), .lead, _, by decide +kernel, by decide +kernel, (by decide +kernel), rfl⟩
theorem witness_OnlyTheDeviceClearsTheLog_4 : ∃ (s : State) (w : Writer) (t : State), s.Live ∧ s.mayClear w = false ∧ t = s.badWrite Reg.evrecClear 0x80000001 :=
  ⟨(st []), .other, _, by decide +kernel, by decide +kernel, rfl⟩

theorem witness_AReadReturnsAndClearsOnlyItsRegister_0 : ∃ (s : State) (off : BitVec 24) (t : State), s.Live ∧ isLog off.toNat = false ∧ regAt off.toNat = none ∧ t = s.setReadData 0 :=
  ⟨(st []), 0xFFFFF8, _, by decide +kernel, by decide +kernel, (by decide +kernel), rfl⟩
theorem witness_AReadReturnsAndClearsOnlyItsRegister_1 : ∃ (s : State) (off : BitVec 24) (r : RegRow) (t : State), s.Live ∧ isLog off.toNat = false ∧ regAt off.toNat = some r ∧ r.base ≠ Reg.strmCtxWord 0 ∧ off.toNat ≠ Reg.redGroupInfo ∧ s.deadRead off.toNat = false ∧ (t = ((r.fields.foldl (fun u f => if f.acc == .rc then u.put ⟨off.toNat, f.lo, f.width⟩ 0 else u) s).setReadData (BitVec.ofNat 64 (s.rd off.toNat)))) :=
  by refine ⟨(st []), 0x8, rowAt 8, _, ?_, ?_, ?_, ?_, ?_, ?_, rfl⟩ <;> decide +kernel
theorem witness_AReadReturnsAndClearsOnlyItsRegister_2 : ∃ (s : State) (off : BitVec 24) (r : RegRow) (t : State), s.Live ∧ isLog off.toNat = false ∧ regAt off.toNat = some r ∧ r.base ≠ Reg.strmCtxWord 0 ∧ off.toNat ≠ Reg.redGroupInfo ∧ s.deadRead off.toNat = true ∧ t = s.setReadData (BitVec.ofNat 64 (regDefault off.toNat)) :=
  by refine ⟨(st [(Fld.bootStatus_stage, 6)]), 0x200, rowAt 0x200, _, ?_, ?_, ?_, ?_, ?_, ?_, rfl⟩ <;> decide +kernel
theorem witness_AReadReturnsAndClearsOnlyItsRegister_3 : ∃ (s : State) (off : BitVec 24) (k : Nat) (j : Nat) (t : State), s.Live ∧ isLog off.toNat = true ∧ k = (off.toNat - 0x400000) / 64 ∧ j = (off.toNat - 0x400000) / 8 % 8 ∧ s.recSlot k = none ∧ t = s.setReadData 0 :=
  by refine ⟨(st []), 0x400000, 0, 0, _, ?_, ?_, ?_, ?_, ?_, rfl⟩ <;> decide +kernel
theorem witness_AReadReturnsAndClearsOnlyItsRegister_4 : ∃ (s : State) (off : BitVec 24) (k : Nat) (j : Nat) (r : EvRec) (t : State), s.Live ∧ isLog off.toNat = true ∧ k = (off.toNat - 0x400000) / 64 ∧ j = (off.toNat - 0x400000) / 8 % 8 ∧ s.recSlot k = some r ∧ r.sramBad = false ∧ t = s.setReadData (BitVec.ofNat 64 (fieldLE r.toBytes (8 * j) 8)) :=
  by refine ⟨{ (st []) with recorder := { State.reset.recorder with slots := [(1, some ⟨1, 0x201, 0, 0, 0, 0, 0, [], false, false⟩)] } }, 0x400040, 1, 0, ⟨1, 0x201, 0, 0, 0, 0, 0, [], false, false⟩, _, ?_, ?_, ?_, ?_, ?_, ?_, rfl⟩ <;> decide +kernel

theorem witness_ARegisterWriteGoesByScopeAndAccessCode_0 : ∃ (s : State) (_w : Writer) (off : BitVec 24) (v : Word64) (t : State), s.Live ∧ regAt off.toNat = none ∧ isLog off.toNat = false ∧ t = s.badWrite off.toNat v.toNat :=
  ⟨(st []), .lead, 0xFFFFF8, 0, _, by decide +kernel, by decide +kernel, (by decide +kernel), rfl⟩
theorem witness_ARegisterWriteGoesByScopeAndAccessCode_1 : ∃ (s : State) (w : Writer) (off : BitVec 24) (v : Word64) (r : RegRow) (x : Nat) (t : State), s.Live ∧ regAt off.toNat = some r ∧ r.base ∉ rowRegs ∧ x = v.toNat % 2 ^ r.width ∧ s.Accepts w off.toNat x ∧ t = s.writeFields off.toNat x :=
  ⟨(st []), .lead, 0x70000, 0, rowAt 0x70000, _, _, by decide +kernel, by decide +kernel, (by decide +kernel), rfl, by decide +kernel, rfl⟩
theorem witness_ARegisterWriteGoesByScopeAndAccessCode_2 : ∃ (s : State) (w : Writer) (off : BitVec 24) (v : Word64) (r : RegRow) (x : Nat) (t : State), s.Live ∧ regAt off.toNat = some r ∧ r.base ∉ rowRegs ∧ x = v.toNat % 2 ^ r.width ∧ ¬ s.Accepts w off.toNat x ∧ t = s.badWrite off.toNat x :=
  ⟨(st [(Fld.hostQpCfg_control 5, 0)]), .qp 5, 0x70000, 0, rowAt 0x70000, _, _, by decide +kernel, by decide +kernel, (by decide +kernel), rfl, by decide +kernel, rfl⟩
theorem witness_ARegisterWriteGoesByScopeAndAccessCode_3 : ∃ (s : State) (w : Writer) (off : BitVec 24) (v : Word64) (r : RegRow) (t : State), s.Live ∧ regAt off.toNat = some r ∧ r.base = Reg.wqTail 0 ∧ off.toNat < 0x30000 ∧ t = wqTailWrite w (r.index off.toNat) (v.toNat % 2 ^ r.width) s :=
  ⟨(st []), .lead, 0x1FD0, 0, rowAt 0x1FD0, _, by decide +kernel, by decide +kernel, (by decide +kernel), by decide +kernel, rfl⟩
theorem witness_ARegisterWriteGoesByScopeAndAccessCode_4 : ∃ (s : State) (w : Writer) (off : BitVec 24) (v : Word64) (r : RegRow) (t : State), s.Live ∧ regAt off.toNat = some r ∧ r.base = Reg.depctr 0 ∧ off.toNat < 0x30000 ∧ t = depctrWrite w (r.index off.toNat) (v.toNat % 2 ^ r.width) s :=
  ⟨(st []), .lead, 0x10000, 0, rowAt 0x10000, _, by decide +kernel, by decide +kernel, (by decide +kernel), by decide +kernel, rfl⟩
theorem witness_ARegisterWriteGoesByScopeAndAccessCode_5 : ∃ (s : State) (w : Writer) (off : BitVec 24) (v : Word64) (r : RegRow) (t : State), s.Live ∧ regAt off.toNat = some r ∧ r.base = Reg.cqHead 0 ∧ off.toNat < 0x30000 ∧ t = cqHeadWrite w (r.index off.toNat) (v.toNat % 2 ^ r.width) s :=
  ⟨(st []), .lead, 0x27F0, 0, rowAt 0x27F0, _, by decide +kernel, by decide +kernel, (by decide +kernel), by decide +kernel, rfl⟩
theorem witness_ARegisterWriteGoesByScopeAndAccessCode_6 : ∃ (s : State) (w : Writer) (off : BitVec 24) (v : Word64) (r : RegRow) (t : State), s.Live ∧ regAt off.toNat = some r ∧ r.base = Reg.bootDeltaGo ∧ 0xF0000 ≤ off.toNat ∧ t = bootDeltaGo w (testBit (v.toNat % 2 ^ r.width) 31) s :=
  ⟨(st []), .lead, 0xF0028, 0, rowAt 0xF0028, _, by decide +kernel, by decide +kernel, (by decide +kernel), by decide +kernel, rfl⟩
theorem witness_ARegisterWriteGoesByScopeAndAccessCode_7 : ∃ (s : State) (off : BitVec 24) (v : Word64) (t : State), s.Live ∧ regAt off.toNat = none ∧ isLog off.toNat = false ∧ t = s.badWrite off.toNat v.toNat :=
  ⟨(st []), 0xFFFFFC, 0, _, by decide +kernel, by decide +kernel, (by decide +kernel), rfl⟩
theorem witness_ARegisterWriteGoesByScopeAndAccessCode_8 : ∃ (s : State) (off : BitVec 24) (t : State), s.Live ∧ regAt off.toNat = none ∧ isLog off.toNat = false ∧ t = s.setReadData 0 :=
  ⟨(st []), 0xFFFFFC, _, by decide +kernel, by decide +kernel, (by decide +kernel), rfl⟩

/-! ### Witnesses that need more than evaluation -/

/-- A record of severity 2. -/
def recw : EvRec := ⟨1, 0x201, 2, 0, 0, 0, 0, [], false, false⟩
/-- A log whose first n slots are full, under a policy. -/
def fullLog (policy n : Nat) : State :=
  { st [(Fld.evrecCfg_policy, policy)] with
    recorder := { State.reset.recorder with slots := (List.range n).map (fun k => (k, some recw)) } }

theorem fullLog_held (policy n : Nat) : (fullLog policy n).held = (List.range n).map (fun k => (k, recw)) := by
  simp [fullLog, State.held, List.filterMap_map]

theorem firstEmpty_range (n : Nat) : firstEmpty (List.range n) 0 n = none := by
  have h : (List.range n).foldl (fun k x => if x = k then k + 1 else k) 0 = n := by
    induction n with
    | zero => rfl
    | succ n ih => rw [List.range_succ, List.foldl_append, ih]; simp
  simp [firstEmpty, h]

theorem fullLog_full (policy n : Nat) : firstEmpty ((fullLog policy n).held.map Prod.fst) 0 n = none := by
  rw [fullLog_held, List.map_map]
  have : (List.range n).map (Prod.fst ∘ fun k => (k, recw)) = List.range n := by simp [Function.comp_def]
  rw [this, firstEmpty_range]

theorem fullLog_split (policy n : Nat) : (fullLog policy n).split = (fullLog policy 0).split := rfl

theorem witness_RecordsAreNumberedPlacedAndLimited_0 : ∃ (s : State) (sev : Nat), s.place sev = none := by
  refine ⟨fullLog 0 32768, 1, ?_⟩
  have h0 : (fullLog 0 32768).split = false := (fullLog_split 0 32768).trans (by decide +kernel)
  have h1 : ((fullLog 0 32768).held.filter (fun e => decide (e.2.severity ≤ 1))) = [] := by
    rw [fullLog_held]; simp [recw]
  simp [State.place, h0, fullLog_full, h1]

theorem witness_RecordsAreNumberedPlacedAndLimited_7 : ∃ (s : State) (_ : Nat), s.split = true ∧
    firstEmpty (s.held.map Prod.fst) 0 4096 = none :=
  ⟨fullLog 1 4096, 0, (fullLog_split 1 4096).trans (by decide +kernel), fullLog_full 1 4096⟩

theorem witness_RecordsAreNumberedPlacedAndLimited_9 : ∃ (s : State) (sev : Nat), s.split = false ∧
    firstEmpty (s.held.map Prod.fst) 0 32768 = none ∧ (∀ e ∈ s.held, sev < e.2.severity) := by
  refine ⟨fullLog 0 32768, 1, (fullLog_split 0 32768).trans (by decide +kernel), fullLog_full 0 32768, ?_⟩
  rw [fullLog_held]
  intro e he
  obtain ⟨k, -, rfl⟩ := List.mem_map.1 he
  exact (by decide : (1 : Nat) < 2)

/-- A running KERNEL of one instruction word. -/
def kernw (word : Nat) (ins : List (Option KCtx)) : KernRun := ⟨1, [word], [], [], 0, 1, 0, 1, false, false, ins, []⟩
/-- Its share of an engine. -/
def taskw : Task := ⟨0, 0, 1, 0, [0], 0, 0, 0, [], [], [], 0, 0, 0, [], 0, none⟩
/-- Engine 0 about to run that word. -/
def kernSt (word : Nat) (ins : List (Option KCtx)) (bad : List (Nat × Bool)) : State :=
  { st [(Fld.bootStatus_stage, 6), (Fld.thmSaveStatus_state, 0), (Fld.snapHeld_held, 0), (⟨Reg.opstat 0, 0, 64⟩, 3),
      (Fld.teStatus_state 0, 1), (Fld.hsmStackStatus_state 0, 0), (Fld.hsmStackStatus_mapout_phase 0, 0)] with
    ctl.ops := [(0, some (opw [(0, 1, 2)]))], comp.engines := [(0, ⟨[taskw], [], none, []⟩)],
    comp.kern := [(0, some (kernw word ins))], poison := bad }

theorem kernSt_turn (word : Nat) (ins : List (Option KCtx)) (bad : List (Nat × Bool))
    (h : ((kernw word ins).sweepInstrs 0)[0]? = some (KWord.parse word))
    (hc : (kernSt word ins bad).currentTask 0 = some taskw) :
    (kernSt word ins bad).KernelTurn 0 (KWord.parse word).op taskw (kernw word ins) (KWord.parse word) :=
  ⟨rfl, by
    have : (kernSt word ins bad).serving = (kernSt 0 [] []).serving := rfl
    rw [this]; decide +kernel, hc, rfl, rfl, rfl, h, rfl, by
    have : (kernSt word ins bad).engRuns 0 taskw = (kernSt 0 [] []).engRuns 0 taskw := rfl
    rw [this]; decide +kernel, by
    have : (kernSt word ins bad).stopOf ((kernSt word ins bad).partOfCs (0 / 16)) = (kernSt 0 [] []).stopOf ((kernSt 0 [] []).partOfCs (0 / 16)) := rfl
    rw [this]; decide +kernel⟩

/-- An input of one FP32 element. -/
def inw : Option KCtx := some ⟨0, 0, false, 1, [0x1000000], 0⟩

theorem word_of_op : ∀ op ∈ List.range 64, ((kernw op []).sweepInstrs 0)[0]? = some (KWord.parse op) ∧
    ((kernw op [inw]).sweepInstrs 0)[0]? = some (KWord.parse op) ∧ (KWord.parse op).op = op ∧
    (kernSt op [] []).currentTask 0 = some taskw ∧ (kernSt op [inw] [(4096, true)]).currentTask 0 = some taskw := by decide +kernel

theorem witness_turn (op : Nat) (h : op ∈ List.range 64) :
    ∃ (s : State) (e : Fin 64) (t : Task) (k : KernRun) (w : KWord), s.KernelTurn e op t k w ∧ s.RowsClean k t := by
  have h1 := word_of_op op h
  have := kernSt_turn op [] [] h1.1 h1.2.2.2.1
  rw [h1.2.2.1] at this
  exact ⟨_, 0, _, _, _, this, fun _ => rfl⟩

theorem witness_poison (op : Nat) (h : op ∈ List.range 64) : ∃ (s : State) (e : Fin 64) (t : Task) (k : KernRun) (w : KWord),
    s.KernelTurn e op t k w ∧ t.rowBuf = none ∧ s.rowPoison k t = true := by
  have h1 := word_of_op op h
  have := kernSt_turn op [inw] [(4096, true)] h1.2.1 h1.2.2.2.2
  rw [h1.2.2.1] at this
  have hp : (kernSt op [inw] [(4096, true)]).rowPoison (kernw op [inw]) taskw = (kernSt 0 [inw] [(4096, true)]).rowPoison (kernw 0 [inw]) taskw := rfl
  exact ⟨_, 0, _, _, _, this, rfl, hp.trans (by decide +kernel)⟩

theorem witness_KernelArithmeticRoundsOnce : ∀ op ∈ [0x08, 0x09, 0x0A, 0x0B, 0x0C, 0x0D, 0x0E, 0x0F],
    (∃ (s : State) (e : Fin 64) (t : Task) (k : KernRun) (w : KWord), s.KernelTurn e op t k w ∧ s.RowsClean k t) ∧
    ∃ (s : State) (e : Fin 64) (t : Task) (k : KernRun) (w : KWord), s.KernelTurn e op t k w ∧ t.rowBuf = none ∧ s.rowPoison k t = true :=
  fun op h => have h1 : op ∈ List.range 64 := by revert op; decide
    ⟨witness_turn op h1, witness_poison op h1⟩

theorem witness_KernelComparesGiveMasks : ∀ op ∈ [0x10, 0x11, 0x12, 0x13, 0x14, 0x15, 0x16, 0x17, 0x18],
    (∃ (s : State) (e : Fin 64) (t : Task) (k : KernRun) (w : KWord), s.KernelTurn e op t k w ∧ s.RowsClean k t) ∧
    ∃ (s : State) (e : Fin 64) (t : Task) (k : KernRun) (w : KWord), s.KernelTurn e op t k w ∧ t.rowBuf = none ∧ s.rowPoison k t = true :=
  fun op h => have h1 : op ∈ List.range 64 := by revert op; decide
    ⟨witness_turn op h1, witness_poison op h1⟩

theorem witness_KernelMovesFillLanes : ∀ op ∈ [0x00, 0x01, 0x02, 0x03, 0x04, 0x05, 0x06, 0x07, 0x30],
    (∃ (s : State) (e : Fin 64) (t : Task) (k : KernRun) (w : KWord), s.KernelTurn e op t k w ∧ s.RowsClean k t) ∧
    ∃ (s : State) (e : Fin 64) (t : Task) (k : KernRun) (w : KWord), s.KernelTurn e op t k w ∧ t.rowBuf = none ∧ s.rowPoison k t = true :=
  fun op h => have h1 : op ∈ List.range 64 := by revert op; decide
    ⟨witness_turn op h1, witness_poison op h1⟩

theorem witness_KernelFunctionsAndReductions : ∀ op ∈ [0x20, 0x21, 0x22, 0x23, 0x24, 0x28, 0x29, 0x2A],
    (∃ (s : State) (e : Fin 64) (t : Task) (k : KernRun) (w : KWord), s.KernelTurn e op t k w ∧ s.RowsClean k t) ∧
    ∃ (s : State) (e : Fin 64) (t : Task) (k : KernRun) (w : KWord), s.KernelTurn e op t k w ∧ t.rowBuf = none ∧ s.rowPoison k t = true :=
  fun op h => have h1 : op ∈ List.range 64 := by revert op; decide
    ⟨witness_turn op h1, witness_poison op h1⟩

theorem witness_KernelStoresAndConversions : ∀ op ∈ [0x02, 0x30],
    (∃ (s : State) (e : Fin 64) (t : Task) (k : KernRun) (w : KWord), s.KernelTurn e op t k w ∧ s.RowsClean k t) ∧
    ∃ (s : State) (e : Fin 64) (t : Task) (k : KernRun) (w : KWord), s.KernelTurn e op t k w ∧ t.rowBuf = none ∧ s.rowPoison k t = true :=
  fun op h => have h1 : op ∈ List.range 64 := by revert op; decide
    ⟨witness_turn op h1, witness_poison op h1⟩

/-- A command block of the SEC engine for slot k, signed by owner slot 0. -/
def secBytes (c k : Nat) : List Byte := bytesOf 272 [(0, 2, 1), (2, 1, c), (3, 1, k)]
/-- A serving device with that block staged, whose first owner slot holds the block's key. -/
def secSt (c k valid revoked : Nat) : State :=
  { st [(Fld.bootStatus_stage, 6), (Fld.thmSaveStatus_state, 0), (Fld.snapHeld_held, 0), (⟨Reg.bootStageBase, 0, 64⟩, 0x1000000),
      (Fld.hsmStackStatus_mapout_phase 0, 0), (⟨Reg.secCmdNonce, 0, 64⟩, 0)] with
    mem := [(131072, 1), (131074, BitVec.ofNat 8 c)] ++ (if k = 0 then [] else [(131075, BitVec.ofNat 8 k)])
    fuses := { State.reset.fuses with
      ownerHash := [Config.sm3 (List.replicate 64 0)], ownerValid := valid, ownerRevoked := revoked } }

/-- Whether a signature verifies is left to SM2, so the witnesses of the clauses whose block passes every check of R384 have
a premise: that signatures verify. -/
theorem secSt_check (hv : ∀ a b c, Config.sm2Verify a b c = true) (c k valid revoked : Nat)
    (hb : (secSt c k valid revoked).secBlock 0 = secBytes c k ∧ fieldLE (secBytes c k) 0 2 = 1 ∧
      ¬ (if blkCommand (secBytes c k) ≤ 2 then 3 else 15) < blkTarget (secBytes c k) ∧
      fieldLE (secBytes c k) 8 8 = 0 ∧ fieldLE (secBytes c k) 0x10 8 = 0 ∧ blkSigner (secBytes c k) = 0 ∧
      blkPub (secBytes c k) = List.replicate 64 0 ∧ (secSt c k valid revoked).rd Reg.secCmdNonce = 0 ∧
      (secSt c k valid revoked).fuses.slotGood 0 = true) :
    (secSt c k valid revoked).secCheck ((secSt c k valid revoked).secBlock (0 % 2 ^ 14)) = none := by
  obtain ⟨h1, h2, h3, h4, h5, h6, h7, h8, h9⟩ := hb
  have hs : (secSt c k valid revoked).fuses.serial = 0 := rfl
  have ho : (secSt c k valid revoked).fuses.ownerHash.getD 0 [] = Config.sm3 (List.replicate 64 0) := rfl
  rw [Nat.zero_mod, h1]
  simp only [State.secCheck, h2, h4, h5, h6, h7, h8, h9, hs, ho, hv]
  simp [h3]

theorem witness_SecurityCommandsAndReports_8 (hv : ∀ a b c, Config.sm2Verify a b c = true) :
    ∃ (s : State) (w : Writer) (off : Fin 16384) (b : List Byte) (k : Nat) (t : State), s.Live ∧ b = s.secBlock (off.val % 2 ^ 14) ∧ k = blkTarget b ∧ blkCommand b = 1 ∧ s.Accepts w Reg.secCmdGo (off.val % 2 ^ 14 + 2 ^ 31) ∧ s.serving = true ∧ s.boot.seqUse = none ∧ s.secCheck b = none ∧ testBit s.fuses.ownerRevoked k = true ∧ t = s.secDone BRes.keyRevoked :=
  ⟨(secSt 1 1 1 2), .lead, 0, _, _, _, by decide +kernel, rfl, rfl, by decide +kernel, by decide +kernel, (by decide +kernel), by decide +kernel, secSt_check hv 1 1 1 2 (by decide +kernel), by decide +kernel, rfl⟩
theorem witness_SecurityCommandsAndReports_9 (hv : ∀ a b c, Config.sm2Verify a b c = true) :
    ∃ (s : State) (w : Writer) (off : Fin 16384) (b : List Byte) (k : Nat) (t : State), s.Live ∧ b = s.secBlock (off.val % 2 ^ 14) ∧ k = blkTarget b ∧ blkCommand b = 1 ∧ s.Accepts w Reg.secCmdGo (off.val % 2 ^ 14 + 2 ^ 31) ∧ s.serving = true ∧ s.boot.seqUse = none ∧ s.secCheck b = none ∧ testBit s.fuses.ownerRevoked k = false ∧ testBit s.fuses.ownerValid k = true ∧ t = s.secDone BRes.badFormat :=
  ⟨(secSt 1 1 3 0), .lead, 0, _, _, _, by decide +kernel, rfl, rfl, by decide +kernel, by decide +kernel, (by decide +kernel), by decide +kernel, secSt_check hv 1 1 3 0 (by decide +kernel), by decide +kernel, by decide +kernel, rfl⟩
theorem witness_SecurityCommandsAndReports_10 (hv : ∀ a b c, Config.sm2Verify a b c = true) :
    ∃ (s : State) (w : Writer) (off : Fin 16384) (b : List Byte) (k : Nat) (u : State) (t : State), s.Live ∧ b = s.secBlock (off.val % 2 ^ 14) ∧ k = blkTarget b ∧ blkCommand b = 1 ∧ s.Accepts w Reg.secCmdGo (off.val % 2 ^ 14 + 2 ^ 31) ∧ s.serving = true ∧ s.boot.seqUse = none ∧ s.secCheck b = none ∧ testBit s.fuses.ownerRevoked k = false ∧ testBit s.fuses.ownerValid k = false ∧ (u = s.setFuses { s.fuses with ownerHash := (List.range 4).map (fun i => if i = k then (blkPayload b).take 32 else s.fuses.ownerHash.getD i []), ownerValid := fuseBit s.fuses.ownerValid k }) ∧ t = u.showFuses.secDone BRes.ok :=
  ⟨(secSt 1 1 1 0), .lead, 0, _, _, _, _, by decide +kernel, rfl, rfl, by decide +kernel, by decide +kernel, (by decide +kernel), by decide +kernel, secSt_check hv 1 1 1 0 (by decide +kernel), by decide +kernel, by decide +kernel, rfl, rfl⟩
theorem witness_SecurityCommandsAndReports_11 (hv : ∀ a b c, Config.sm2Verify a b c = true) :
    ∃ (s : State) (w : Writer) (off : Fin 16384) (b : List Byte) (k : Nat) (t : State), s.Live ∧ b = s.secBlock (off.val % 2 ^ 14) ∧ k = blkTarget b ∧ blkCommand b = 2 ∧ s.Accepts w Reg.secCmdGo (off.val % 2 ^ 14 + 2 ^ 31) ∧ s.serving = true ∧ s.boot.seqUse = none ∧ s.secCheck b = none ∧ (∀ i, i < 4 → i ≠ k → s.fuses.slotGood i = false) ∧ t = s.secDone BRes.lastKey :=
  ⟨(secSt 2 0 1 0), .lead, 0, _, _, _, by decide +kernel, rfl, rfl, by decide +kernel, by decide +kernel, (by decide +kernel), by decide +kernel, secSt_check hv 2 0 1 0 (by decide +kernel), by decide +kernel, rfl⟩
theorem witness_SecurityCommandsAndReports_12 (hv : ∀ a b c, Config.sm2Verify a b c = true) :
    ∃ (s : State) (w : Writer) (off : Fin 16384) (b : List Byte) (k : Nat) (i : Nat) (t : State), s.Live ∧ b = s.secBlock (off.val % 2 ^ 14) ∧ k = blkTarget b ∧ blkCommand b = 2 ∧ s.Accepts w Reg.secCmdGo (off.val % 2 ^ 14 + 2 ^ 31) ∧ s.serving = true ∧ s.boot.seqUse = none ∧ s.secCheck b = none ∧ i < 4 ∧ i ≠ k ∧ s.fuses.slotGood i = true ∧ t = (s.setFuses { s.fuses with ownerRevoked := fuseBit s.fuses.ownerRevoked k }).showFuses.secDone BRes.ok :=
  ⟨(secSt 2 1 1 0), .lead, 0, _, _, 0, _, by decide +kernel, rfl, rfl, by decide +kernel, by decide +kernel, (by decide +kernel), by decide +kernel, secSt_check hv 2 1 1 0 (by decide +kernel), by decide +kernel, by decide +kernel, (by decide +kernel), rfl⟩
theorem witness_SecurityCommandsAndReports_13 (hv : ∀ a b c, Config.sm2Verify a b c = true) (hd : ∀ b, Config.sm2Decrypt b = some (List.replicate 16 0)) :
    ∃ (s : State) (w : Writer) (off : Fin 16384) (b : List Byte) (k : Nat) (key : List Byte) (t : State), s.Live ∧ b = s.secBlock (off.val % 2 ^ 14) ∧ k = blkTarget b ∧ blkCommand b = 3 ∧ s.Accepts w Reg.secCmdGo (off.val % 2 ^ 14 + 2 ^ 31) ∧ s.serving = true ∧ s.boot.seqUse = none ∧ s.secCheck b = none ∧ Config.sm2Decrypt (blkPayload b) = some key ∧ key.length = 16 ∧ t = (s.setKey k key).secDone BRes.ok :=
  ⟨(secSt 3 0 1 0), .lead, 0, _, _, List.replicate 16 0, _, by decide +kernel, rfl, rfl, by decide +kernel, by decide +kernel, (by decide +kernel), by decide +kernel, secSt_check hv 3 0 1 0 (by decide +kernel), hd _, by decide +kernel, rfl⟩
theorem witness_SecurityCommandsAndReports_14 (hv : ∀ a b c, Config.sm2Verify a b c = true) (hd : ∀ b, Config.sm2Decrypt b = none) :
    ∃ (s : State) (w : Writer) (off : Fin 16384) (b : List Byte) (k : Nat) (t : State), s.Live ∧ b = s.secBlock (off.val % 2 ^ 14) ∧ k = blkTarget b ∧ blkCommand b = 3 ∧ s.Accepts w Reg.secCmdGo (off.val % 2 ^ 14 + 2 ^ 31) ∧ s.serving = true ∧ s.boot.seqUse = none ∧ s.secCheck b = none ∧ (∀ key, Config.sm2Decrypt (blkPayload b) = some key → key.length ≠ 16) ∧ t = s.secDone BRes.badFormat :=
  ⟨(secSt 3 0 1 0), .lead, 0, _, _, _, by decide +kernel, rfl, rfl, by decide +kernel, by decide +kernel, (by decide +kernel), by decide +kernel, secSt_check hv 3 0 1 0 (by decide +kernel), (by intro key h; rw [hd] at h; cases h), rfl⟩
theorem witness_SecurityCommandsAndReports_15 (hv : ∀ a b c, Config.sm2Verify a b c = true) :
    ∃ (s : State) (w : Writer) (off : Fin 16384) (b : List Byte) (k : Nat) (t : State), s.Live ∧ b = s.secBlock (off.val % 2 ^ 14) ∧ k = blkTarget b ∧ blkCommand b = 4 ∧ s.Accepts w Reg.secCmdGo (off.val % 2 ^ 14 + 2 ^ 31) ∧ s.serving = true ∧ s.boot.seqUse = none ∧ s.secCheck b = none ∧ t = (s.setKey k []).secDone BRes.ok :=
  ⟨(secSt 4 0 1 0), .lead, 0, _, _, _, by decide +kernel, rfl, rfl, by decide +kernel, by decide +kernel, (by decide +kernel), by decide +kernel, secSt_check hv 4 0 1 0 (by decide +kernel), rfl⟩
theorem witness_SecurityCommandsAndReports_16 :
    ∃ (s : State) (w : Writer) (t : State), s.Live ∧ s.Accepts w Reg.secAttestGo (2 ^ 31) ∧ t = ((s.setSec { s.sec with attestNonce := (List.range 4).flatMap (fun i => toLE 8 (s.rd (Reg.secAttestNonce i))) }).put Fld.secAttestStatus_valid 0).put Fld.secAttestStatus_busy 1 :=
  ⟨st [], .lead, _, by decide +kernel, by decide +kernel, rfl⟩

theorem place_bounds (a : Nat) (pl : Place) (hp : placeOf a = some pl) : pl.stack < 16 ∧ pl.ch < 32 := by
  unfold placeOf at hp
  split at hp
  · injection hp with hp; subst hp; constructor <;> dsimp only <;> omega
  · split at hp
    · injection hp with hp; subst hp; constructor <;> dsimp only <;> omega
    · cases hp
/-- No access waits for a channel where none of the 512 is retraining. -/
theorem chanWaits_none (s : State) (h : ∀ k ∈ List.range 512, s.f (Fld.hsmChStatus_state k) ≠ 2) (a n : Nat) : s.chanWaits a n = false := by
  unfold State.chanWaits
  rw [List.any_eq_false]
  intro i _
  generalize (if i = 0 then a else (a / 4096 + i) * 4096) = b
  cases hp : placeOf b with
  | none => simp
  | some pl =>
    have h1 := place_bounds b pl hp
    have h2 : (s.redirect pl).stack = pl.stack ∧ (s.redirect pl).ch < 32 := by
      unfold State.redirect
      split
      · refine ⟨rfl, ?_⟩; dsimp only; split <;> omega
      · exact ⟨rfl, h1.2⟩
    simpa using h (32 * (s.redirect pl).stack + (s.redirect pl).ch) (List.mem_range.2 (by omega))
theorem anyPoison_none (s : State) (h : s.poison = []) (us : List Nat) (n : Nat) : s.anyPoison us n = false := by
  have h1 : ∀ a, s.poisonedAt a = false := by
    intro a; unfold State.poisonedAt; rw [h]; cases s.keyOf a <;> rfl
  simp [State.anyPoison, State.poisoned, h1]
/-- A turned block of bytes and where it goes. -/
def turnw (a xp : Nat) : DescP :=
  (Desc.parse (bytesOf 64 [(0, 8, a), (8, 6, 1), (14, 6, 64), (0x26, 3, 63), (0x29, 3, 63), (0x35, 1, 2), (0x36, 1, 2), (0x38, 1, xp)]), none)
/-- A TRANSPOSE whose descriptors have been taken. -/
def trw : Op := { opw [(0, 1, 3), (0x20, 4, 0), (0x24, 4, 1), (0x28, 1, 3), (0x30, 8, 4096)] with got := [(0, [turnw 0x1000000 8]), (1, [turnw 0x1100000 0])] }
/-- It is about to run. -/
def trSt : State :=
  { st [(Fld.bootStatus_stage, 6), (Fld.thmSaveStatus_state, 0), (Fld.snapHeld_held, 0), (⟨Reg.opstat 0, 0, 64⟩, 2), (Fld.hsmStackStatus_state 0, 0), (Fld.hsmStackStatus_mapout_phase 0, 0), (Fld.wqCfg_partition 0, 0), (Fld.snapEvalwinCtrl_enable 0, 0), (⟨Reg.numpol 0, 0, 64⟩, 0)] with
    ctl.ops := [(0, some trw)] }
theorem trw_total : Desc.bytes (turnw 0x1000000 8).1 = 4096 ∧ Desc.bytes (turnw 0x1100000 0).1 = 4096 := by decide +kernel
theorem trw_have (side : Nat) (x : DescP) (h : trw.gotOf side = [x]) (hx : Desc.bytes x.1 = 4096) (xp : Bool) :
    ∃ n, trSt.takeSide trw side xp Desc.bytes 4096 = .ok [] n := by
  refine ⟨_, if_pos ?_⟩
  rw [h]; exact Nat.le_of_eq (by simp [total, hx])
theorem trw_shape : sameShape [turnw 0x1000000 8] [turnw 0x1100000 0] = true := by decide +kernel
theorem witness_MovesAndCopiesCarryTheBytes_6 :
    ∃ (s : State) (slot : Fin 4096) (o : Op) (ks : Take) (kd : Take) (ss : List DescP) (ds : List DescP) (u : State), s.StreamDue slot 3 o Desc.bytes (o.b 0x30 8) ks kd ss ds ∧ u = s.streamTaken slot o ks kd ds ∧ sameShape ss ds = true ∧ ss.all (fun d => d.1.xpose && [0, 1, 2, 3, 4].contains d.1.fmtCode) = true ∧ u.anyPoison (takenUnits ss) (takenUnit ss) = false := by
  obtain ⟨n, h0⟩ := trw_have 0 (turnw 0x1000000 8) rfl trw_total.1 true
  obtain ⟨m, h1⟩ := trw_have 1 (turnw 0x1100000 0) rfl trw_total.2 false
  have hc : ∀ k ∈ List.range 512, trSt.f (Fld.hsmChStatus_state k) ≠ 2 := by decide +kernel
  refine ⟨trSt, 0, trw, .ok [] n, .ok [] m, [turnw 0x1000000 8], [turnw 0x1100000 0], _, ⟨by decide +kernel, by decide +kernel,
    congrArg₂ Prod.mk h0 h1, ⟨[], n, rfl, rfl⟩, ⟨[], m, rfl, rfl⟩, ?_⟩, rfl, trw_shape, by decide +kernel, anyPoison_none _ rfl _ _⟩
  simp [State.sidesWait, chanWaits_none _ hc]

/-! ### Clauses whose conditions rest on what SM2 and SM3 answer: witnesses under a premise on those functions -/

/-- Bytes of the fields listed (offset, length, value) from an address, but for those that read as d unlisted. -/
def listed (base : Nat) (d : Byte) (l : List (Nat × Nat × Nat)) : List (Nat × Byte) :=
  (l.flatMap fun e => (List.range e.2.1).map fun i => (base + e.1 + i, BitVec.ofNat 8 (e.2.2 / 256 ^ i))).filter (fun e => e.2 != d)
/-- A directory of one partition with three sections: its generation, the device section's length, the partition section's slot
and length. -/
def dirw (gen len2 slot3 len3 : Nat) : List (Nat × Nat × Nat) :=
  [(0, 4, 0x49584256), (4, 2, 1), (6, 2, 3), (8, 8, gen), (0x10, 4, 0), (0x60, 1, 1), (0x100, 2, 1), (0x102, 1, 0), (0x104, 4, 0),
   (0x140, 2, 2), (0x142, 1, 0), (0x144, 4, len2), (0x180, 2, 3), (0x182, 1, slot3), (0x184, 4, len3)]
/-- The head of an empty section. -/
def secw (typ : Nat) : List (Nat × Nat × Nat) := [(0, 2, typ), (2, 2, 1), (4, 4, 0)]
/-- Fuses whose first owner slot holds the hash x. -/
def fusew (x : Byte) : Fuses := { State.reset.fuses with ownerHash := [List.replicate 32 x], ownerValid := 1 }
/-- Starting up with an image in NOR whose device section has a length. -/
def bootw (len2 : Nat) : State :=
  { st [(Fld.bootStatus_stage, 1), (Fld.thmSaveStatus_state, 5), (Fld.snapHeld_held, 0)] with
    now := 47500
    pins := { State.reset.pins with resetLow := false, inReset := false }
    fuses := fusew 0xFF
    boot := { State.reset.boot with leadClaimed := true, nor := listed 0 0xFF (dirw 1 len2 0 0) ++ listed devOffset 0xFF (secw 2) } }

theorem bootw_choose (hv : ∀ a b c, Config.sm2Verify a b c = true) (h3 : ∀ a, Config.sm3 a = List.replicate 32 0xFF) (len2 : Nat)
    (h : len2 = 0 ∨ len2 = 64) : chooseDir (bootw len2).fuses (bootw len2).norRead = some (0, dirAt (bootw len2).norRead 0) ∧
      Dir.checkSections (dirAt (bootw len2).norRead 0) (bootw len2).fuses (bootw len2).norRead = none := by
  simp only [chooseDir, Dir.check, Dir.signer, Dir.checkSections, h3, hv]
  rcases h with rfl | rfl <;> decide +kernel

theorem witness_StartUpRunsStageByStage_1 (hv : ∀ a b c, Config.sm2Verify a b c = true) (h3 : ∀ a, Config.sm3 a = List.replicate 32 0xFF) :
    ∃ (s : State) (c : Nat) (d : Dir) (u : State) (v : State) (t : State), s.Live ∧ s.startingAt 1 = true ∧ s.xspiCsHigh = false ∧ chooseDir s.fuses s.norRead = some (c, d) ∧ d.checkSections s.fuses s.norRead = none ∧ u = (s.runImage c d).extend 1 (d.digest 1) ∧ u.bootSection d 2 2 = some v ∧ t = v.setStage 3 :=
  ⟨bootw 64, 0, _, _, _, _, by decide +kernel, by decide +kernel, (by decide +kernel), (bootw_choose hv h3 64 (.inr rfl)).1, (bootw_choose hv h3 64 (.inr rfl)).2, rfl, some_getD (d := State.reset) (by simp only [State.extend, State.runImage, Dir.signer, h3]; decide +kernel), rfl⟩
theorem witness_StartUpRunsStageByStage_2 (hv : ∀ a b c, Config.sm2Verify a b c = true) (h3 : ∀ a, Config.sm3 a = List.replicate 32 0xFF) :
    ∃ (s : State) (c : Nat) (d : Dir) (u : State) (t : State), s.Live ∧ s.startingAt 1 = true ∧ s.xspiCsHigh = false ∧ chooseDir s.fuses s.norRead = some (c, d) ∧ d.checkSections s.fuses s.norRead = none ∧ u = (s.runImage c d).extend 1 (d.digest 1) ∧ u.bootSection d 2 2 = none ∧ t = (u.extend 2 (d.digest 2)).bootFail BRes.badFormat :=
  ⟨bootw 0, 0, _, _, _, by decide +kernel, by decide +kernel, (by decide +kernel), (bootw_choose hv h3 0 (.inl rfl)).1, (bootw_choose hv h3 0 (.inl rfl)).2, rfl, none_of (by simp only [State.extend, State.runImage, Dir.signer, h3]; decide +kernel), rfl⟩

/-- An update whose staged image has the next generation. -/
def updw : State :=
  { st [(Fld.bootStatus_stage, 6), (Fld.thmSaveStatus_state, 0), (Fld.snapHeld_held, 0), (⟨Reg.bootStageBase, 0, 64⟩, 0x1000000),
      (Fld.hsmStackStatus_mapout_phase 0, 0), (Fld.bootUpdateStatus_phase, 1)] with
    fuses := fusew 0
    boot := { State.reset.boot with partitions := 1, leadClaimed := true, seqUse := some .update }
    mem := listed 131072 0 (dirw 1 0 0 0) }
theorem updateCheck_of (s : State) {c : Nat} {d : Dir} (h : chooseDir s.fuses s.stageRead = some (c, d))
    (h2 : d.checkSections s.fuses s.stageRead = none) (h4 : ¬ d.generation ≤ Dir.generation s.boot.runDir) : s.updateCheck = .ok d := by
  unfold State.updateCheck
  split
  · next h' => rw [h] at h'; cases h'
  · next h' =>
    rw [h] at h'; cases h'
    split
    · next h' => rw [h2] at h'; cases h'
    · exact if_neg h4
theorem updw_choose (hv : ∀ a b c, Config.sm2Verify a b c = true) (h3 : ∀ a, Config.sm3 a = List.replicate 32 0) :
    chooseDir updw.fuses updw.stageRead = some (0, dirAt updw.stageRead 0) ∧
      Dir.checkSections (dirAt updw.stageRead 0) updw.fuses updw.stageRead = none := by
  simp only [chooseDir, Dir.check, Dir.signer, Dir.checkSections, h3, hv]; decide +kernel
theorem updw_newer : ¬ Dir.generation (dirAt updw.stageRead 0) ≤ Dir.generation updw.boot.runDir := by decide +kernel
theorem witness_UpdatesRunPhaseByPhase_5 (hv : ∀ a b c, Config.sm2Verify a b c = true) (h3 : ∀ a, Config.sm3 a = List.replicate 32 0) :
    ∃ (s : State) (_outcome : Fin 3) (d : Dir) (t : State), s.Live ∧ s.boot.seqUse = some .update ∧ s.isHeld = false ∧ s.saveState = 0 ∧ s.f Fld.bootUpdateStatus_phase = 1 ∧ s.updateCheck = .ok d ∧ t = (s.put Fld.bootUpdateStatus_phase 2).setBoot { s.boot with newDir := d, updateStaged := stagedImage s.stageRead d, keptImage := s.boot.nor } :=
  ⟨updw, 0, _, _, by decide +kernel, by decide +kernel, (by decide +kernel), by decide +kernel, by decide +kernel, updateCheck_of _ (updw_choose hv h3).1 (updw_choose hv h3).2 updw_newer, rfl⟩

/-- A delta that carries partition 0's section into its other slot. -/
def deltaw : State :=
  { st [(Fld.bootStatus_stage, 6), (Fld.thmSaveStatus_state, 0), (Fld.snapHeld_held, 0), (⟨Reg.bootStageBase, 0, 64⟩, 0x1000000),
      (Fld.hsmStackStatus_mapout_phase 0, 0)] with
    fuses := fusew 0
    boot := { State.reset.boot with partitions := 1, leadClaimed := true, runDir := bytesOf 0x850 (dirw 1 0 0 64) }
    mem := listed 131072 0 (dirw 2 0 1 64) ++ listed 352256 0 (secw 3) }
theorem deltaCheck_of (s : State) {typ : Nat} {e o sec : List Byte} (h : Dir.check (dirAt s.stageRead 0) s.fuses = none)
    (h6 : ¬ Dir.generation (dirAt s.stageRead 0) ≤ Dir.generation s.boot.runDir) (h7 : ¬ (Dir.svn (dirAt s.stageRead 0) ≠ Dir.svn s.boot.runDir ∨
      Dir.partitions (dirAt s.stageRead 0) ≠ Dir.partitions s.boot.runDir ∨ Dir.entries (dirAt s.stageRead 0) ≠ Dir.entries s.boot.runDir)) (h2 : deltaType s.boot.runDir (dirAt s.stageRead 0) = some typ)
    (h4 : Dir.find (dirAt s.stageRead 0) typ = some e) (h5 : Dir.find s.boot.runDir typ = some o) (hs : entSlot e ≠ entSlot o) (h8 : sectionOf s.stageRead e = sec)
    (h3 : Config.sm3 sec = entDigest e) (h9 : (s.applySection (targetOf typ) typ sec).isNone = false) : s.deltaCheck = .ok (typ, sec) := by
  unfold State.deltaCheck
  generalize dirAt s.stageRead 0 = d at *
  dsimp only
  split
  · next h' => rw [h] at h'; cases h'
  · rw [if_neg h6, if_neg h7]
    split
    · next h' => rw [h2] at h'; cases h'
    · next h' =>
      rw [h2] at h'; cases h'
      split
      · next e' o' he ho =>
        rw [h4] at he; rw [h5] at ho; cases he; cases ho
        subst h8
        rw [if_neg (by rintro (h | h); exacts [hs h, h h3]), if_neg (by rw [h9]; decide)]
      · next h' => exact absurd h5 (by intro h5; exact h' _ _ h4 h5)
theorem deltaw_dir (hv : ∀ a b c, Config.sm2Verify a b c = true) (h3 : ∀ a, Config.sm3 a = List.replicate 32 0) :
    Dir.check (dirAt deltaw.stageRead 0) deltaw.fuses = none := by
  simp only [Dir.check, Dir.signer, h3, hv]; decide +kernel
theorem deltaw_facts : deltaType deltaw.boot.runDir (dirAt deltaw.stageRead 0) = some 3 ∧
      Dir.find (dirAt deltaw.stageRead 0) 3 = some (bytesOf 64 [(0, 2, 3), (2, 1, 1), (4, 4, 64)]) ∧
      Dir.find deltaw.boot.runDir 3 = some (bytesOf 64 [(0, 2, 3), (2, 1, 0), (4, 4, 64)]) ∧
      ¬ Dir.generation (dirAt deltaw.stageRead 0) ≤ Dir.generation deltaw.boot.runDir ∧
      ¬ (Dir.svn (dirAt deltaw.stageRead 0) ≠ Dir.svn deltaw.boot.runDir ∨
        Dir.partitions (dirAt deltaw.stageRead 0) ≠ Dir.partitions deltaw.boot.runDir ∨
        Dir.entries (dirAt deltaw.stageRead 0) ≠ Dir.entries deltaw.boot.runDir) ∧
      sectionOf deltaw.stageRead (bytesOf 64 [(0, 2, 3), (2, 1, 1), (4, 4, 64)]) = bytesOf 64 (secw 3) ∧
      (deltaw.applySection (targetOf 3) 3 (bytesOf 64 (secw 3))).isNone = false := by decide +kernel
theorem deltaw_slots : entSlot (bytesOf 64 [(0, 2, 3), (2, 1, 1), (4, 4, 64)]) ≠ entSlot (bytesOf 64 [(0, 2, 3), (2, 1, 0), (4, 4, 64)]) := by decide +kernel
theorem deltaw_digest : entDigest (bytesOf 64 [(0, 2, 3), (2, 1, 1), (4, 4, 64)]) = List.replicate 32 0 := by decide +kernel
theorem deltaw_check (hv : ∀ a b c, Config.sm2Verify a b c = true) (h3 : ∀ a, Config.sm3 a = List.replicate 32 0) :
    deltaw.deltaCheck = .ok (3, bytesOf 64 (secw 3)) :=
  let ⟨h2, h4, h5, h6, h7, h8, h9⟩ := deltaw_facts
  deltaCheck_of _ (deltaw_dir hv h3) h6 h7 h2 h4 h5 deltaw_slots h8 ((h3 _).trans deltaw_digest.symm) h9
theorem witness_DeltasAreCheckedWrittenAndApplied_1 (hv : ∀ a b c, Config.sm2Verify a b c = true) (h3 : ∀ a, Config.sm3 a = List.replicate 32 0) :
    ∃ (s : State) (w : Writer) (typ : Nat) (sec : List Byte) (t : State), s.Live ∧ s.Accepts w Reg.bootDeltaGo (2 ^ 31) ∧ s.serving = true ∧ s.boot.seqUse = none ∧ s.deltaCheck = .ok (typ, sec) ∧ t = (s.deltaStatus 2 (typ - 3) 0).setBoot { s.boot with seqUse := some .delta, deltaSection := sec, deltaDir := dirAt s.stageRead 0, newDir := [] } :=
  ⟨deltaw, .lead, 3, _, _, by decide +kernel, by decide +kernel, (by decide +kernel), by decide +kernel, deltaw_check hv h3, rfl⟩

/-- Recovery with an image of 0x30000 bytes in the window. -/
def recovw : State :=
  { st [(Fld.bootStatus_stage, 7), (Fld.hostQpPsn_recv_psn 2, 3), (Fld.snapHeld_held, 0)] with
    fuses := fusew 0
    boot := { State.reset.boot with leadClaimed := true, recovery := some ⟨0, 0, List.replicate 8 0, 0⟩, window := listed 0 0 (dirw 1 0 0 0) } }
/-- The body of its RECOVERY_COMMIT: the nonce and the image's bytes. -/
def bodyw : List Byte := bytesOf 16 [(8, 8, 0x30000)]
/-- The window's first n bytes, as RECOVERY_COMMIT reads them. -/
def windowRd (s : State) (n : Nat) : ImgReader :=
  fun a k => Sparse.getAll (fun _ => 0#8) (s.boot.window.filter (fun e => decide (e.1 < n))) a k
theorem recoveryCheck_of (s : State) {n c : Nat} {d : Dir} (h : chooseDir s.fuses (windowRd s n) = some (c, d))
    (h2 : d.checkSections s.fuses (windowRd s n) = none) : s.recoveryCheck n = none := by
  have e : s.recoveryCheck n = match chooseDir s.fuses (windowRd s n) with
    | none => some ((Dir.check (dirAt (windowRd s n) 0) s.fuses).getD BRes.badFormat)
    | some (_, d) => d.checkSections s.fuses (windowRd s n) := rfl
  rw [e, h]; exact h2
theorem recovw_choose (hv : ∀ a b c, Config.sm2Verify a b c = true) (h3 : ∀ a, Config.sm3 a = List.replicate 32 0) :
    chooseDir recovw.fuses (windowRd recovw 0x30000) = some (0, dirAt (windowRd recovw 0x30000) 0) ∧
      Dir.checkSections (dirAt (windowRd recovw 0x30000) 0) recovw.fuses (windowRd recovw 0x30000) = none := by
  simp only [chooseDir, Dir.check, Dir.signer, Dir.checkSections, h3, hv]; decide +kernel
theorem bodyw_len : min (fieldLE bodyw 8 8) 0x4000000 = 0x30000 := by decide +kernel
theorem witness_RecoveryLoadsAnImageOverHp_3 (hv : ∀ a b c, Config.sm2Verify a b c = true) (h3 : ∀ a, Config.sm3 a = List.replicate 32 0) :
    ∃ (s : State) (psn : BitVec 24) (body : List Byte) (b : RecoveryBind) (u : State) (v : State) (t : State), s.Live ∧ s.boot.recovery = some b ∧ s.stage = 7 ∧ s.hpUp = true ∧ body.length = 16 ∧ psn.toNat = s.f (Fld.hostQpPsn_recv_psn 2) ∧ s.boot.recoveryAt = none ∧ u = ((s.takePsn 2 1).emit (.ack 2 psn.toNat)).setBoot { s.boot with recovery := some { b with lastUsed := s.now } } ∧ body.take 8 = b.nonce ∧ s.recoveryCheck (min (fieldLE body 8 8) 0x4000000) = none ∧ v = u.windowToNor (min (fieldLE body 8 8) 0x4000000) ∧ t = (v.setBoot { v.boot with recoveryAt := some s.now }).recoverySend (some BRes.ok) [] :=
  ⟨recovw, 3, bodyw, ⟨0, 0, List.replicate 8 0, 0⟩, _, _, _, by decide +kernel, by decide +kernel, (by decide +kernel), by decide +kernel, by decide +kernel, (by decide +kernel), by decide +kernel, rfl, by decide +kernel, by rw [bodyw_len]; exact recoveryCheck_of _ (recovw_choose hv h3).1 (recovw_choose hv h3).2, rfl, rfl⟩
theorem witness_RecoveryLoadsAnImageOverHp_4 (hv : ∀ a b c, Config.sm2Verify a b c = true) (h3 : ∀ a, Config.sm3 a = List.replicate 32 0) :
    ∃ (s : State) (psn : BitVec 24) (body : List Byte) (b : RecoveryBind) (u : State) (t : State), s.Live ∧ s.boot.recovery = some b ∧ s.stage = 7 ∧ s.hpUp = true ∧ body.length = 16 ∧ psn.toNat = s.f (Fld.hostQpPsn_recv_psn 2) ∧ s.boot.recoveryAt = none ∧ u = ((s.takePsn 2 1).emit (.ack 2 psn.toNat)).setBoot { s.boot with recovery := some { b with lastUsed := s.now } } ∧ body.take 8 = b.nonce ∧ s.recoveryCheck (min (fieldLE body 8 8) 0x4000000) = none ∧ t = (u.norFree (min (fieldLE body 8 8) 0x4000000)).recoverySend (some BRes.norError) [] :=
  ⟨recovw, 3, bodyw, ⟨0, 0, List.replicate 8 0, 0⟩, _, _, by decide +kernel, by decide +kernel, (by decide +kernel), by decide +kernel, by decide +kernel, (by decide +kernel), by decide +kernel, rfl, by decide +kernel, by rw [bodyw_len]; exact recoveryCheck_of _ (recovw_choose hv h3).1 (recovw_choose hv h3).2, rfl⟩

/-- A frequency step beyond what any table needs, so a lower one is found whatever the table holds. -/
def stepw : State :=
  { st [(Fld.thmSaveStatus_state, 0), (Fld.reinCfg_freq_steps, 1), (Fld.reinStatus_fstep, 40)] with
    power := { State.reset.power with msTicks := 1, msDuty := 0, msArrays := 0, msFull := true, acks := [], roomy := true } }
theorem fitStep_le (s : State) (f : Nat) : s.fitStep f ≤ 32 := by
  unfold State.fitStep
  split
  · next k h => have := List.mem_of_find?_eq_some h; simp at this; omega
  · exact Nat.le_refl _
theorem witness_TheReinTheTelemetryAndTheFrequencyStep_9 :
    ∃ (s : State) (u : State) (t : State), s.Live ∧ s.saveState = 0 ∧ s.power.msTicks ≠ 0 ∧ s.flag Fld.reinCfg_freq_steps = true ∧ s.power.acks = [] ∧ 48 * s.power.msArrays ≤ s.power.msDuty ∧ s.power.msFull = true ∧ s.power.roomy = true ∧ 0 < s.f Fld.reinStatus_fstep ∧ (s.fitStep (s.f Fld.reinStatus_fstep - 4)) < s.f Fld.reinStatus_fstep ∧ u = ((s.setPower { s.power with nextF := some (s.fitStep (s.f Fld.reinStatus_fstep - 4)) }).requestVcore (s.fitStep (s.f Fld.reinStatus_fstep - 4))).vcoreSettled ∧ t = u.setPower { u.power with msTicks := 0, msDuty := 0, msArrays := 0, msFull := true } :=
  ⟨stepw, _, _, by decide +kernel, by decide +kernel, (by decide +kernel), by decide +kernel, by decide +kernel, (by decide +kernel), by decide +kernel, by decide +kernel, (by decide +kernel), Nat.lt_of_le_of_lt (fitStep_le _ _) (by decide +kernel), rfl, rfl⟩

/-- Slot 0 draining under key slot 1, with a flash capacity. -/
def drainw (cap : Nat) : State :=
  { st [(Fld.snapHeld_held, 0), (Fld.thmSaveStatus_state, 0), (Fld.snapCfg_drain_key_slot 0, 1), (Fld.hsmStackStatus_state 0, 0),
      (Fld.hsmStackStatus_mapout_phase 0, 0), (⟨Reg.snapFlashCap, 0, 64⟩, cap)] with
    snap := { State.reset.snap with flash := { State.reset.snap.flash with draining := [0] } }
    sec := { State.reset.sec with keys := [(1, [1])] } }
theorem foldl_add_le (l : List Nat) (a : Nat) : a ≤ l.foldl (· + ·) a := by
  induction l generalizing a with
  | nil => exact Nat.le_refl _
  | cons x l ih => exact Nat.le_trans (Nat.le_add_right a x) (ih (a + x))
theorem le_foldl_add (l : List Nat) (a x : Nat) (h : x ∈ l) : x ≤ l.foldl (· + ·) a := by
  induction l generalizing a with
  | nil => cases h
  | cons y l ih =>
    rcases List.mem_cons.1 h with rfl | h
    · exact Nat.le_trans (Nat.le_add_left _ a) (foldl_add_le l (a + _))
    · exact ih _ h
theorem logBytes_pos (cap : Nat) (l : List LogRec) (r : LogRec) (h : r ∈ l) (ht : r.typ ≠ 4) : 1 ≤ logBytes cap l := by
  refine Nat.le_trans ?_ (le_foldl_add _ 0 _ (List.mem_map_of_mem h))
  rw [if_neg ht]; unfold ceilDiv; omega
theorem placeLog_first (cap t q : Nat) (r : LogRec) (b : List Byte) (rs : List (LogRec × List Byte)) (f : LogRec × List Byte → LogRec)
    (ht : r.typ ≠ 4) (hf : ∀ e, (f e).typ = e.1.typ) : 1 ≤ logBytes cap ((placeLog cap t q ((r, b) :: rs)).1.map f) := by
  unfold placeLog; dsimp only
  split
  · exact logBytes_pos _ _ (f ({ r with seq := q + 1, at_ := 0 }, b)) (by simp) (by rw [hf]; exact ht)
  · exact logBytes_pos _ _ (f ({ r with seq := q, at_ := t }, b)) (by simp) (by rw [hf]; exact ht)
theorem seal_typ (key : List Byte) (e : LogRec × List Byte) : (if e.1.typ = 4 then e.1 else e.1.seal key e.2).typ = e.1.typ := by
  split <;> rfl
theorem image_first (cap t q id keySlot flags seq : Nat) (key img : List Byte) :
    1 ≤ logBytes cap ((placeLog cap t q (imageRecords id keySlot flags img seq)).1.map
      (fun e => if e.1.typ = 4 then e.1 else e.1.seal key e.2)) := by
  have h : ∃ r b rs, imageRecords id keySlot flags img seq = (r, b) :: rs ∧ r.typ ≠ 4 := ⟨_, _, _, rfl, by simp⟩
  obtain ⟨r, b, rs, h1, h2⟩ := h
  rw [h1]; exact placeLog_first _ _ _ _ _ _ _ h2 (seal_typ _)
theorem witness_SnapshotsAreCapturedSealedAndDrained_5 :
    ∃ (s : State) (i : Fin 16) (key : List Byte) (pl : List (LogRec × List Byte) × Nat) (rs : List LogRec) (log : List LogRec) (t : State), s.Live ∧ s.snap.flash.draining.contains i.val = true ∧ s.f Fld.thmSaveStatus_state = 0 ∧ s.isHeld = false ∧ s.key (s.f (Fld.snapCfg_drain_key_slot (i.val / 4))) = some key ∧ pl = placeLog (s.rd Reg.snapFlashCap) s.snap.flash.tail s.snap.flash.nextSeq (imageRecords (s.rd (Reg.snapSlotId i)) (s.f (Fld.snapCfg_drain_key_slot (i.val / 4))) (fieldLE (s.saddleImage (i.val / 4) (i.val % 4)) 2 1) (s.saddleImage (i.val / 4) (i.val % 4)) s.snap.flash.nextSeq) ∧ (rs = pl.1.map (fun e => if e.1.typ = 4 then e.1 else e.1.seal key e.2)) ∧ log = trimLog (logBytes (s.rd Reg.snapFlashCap) rs) (s.rd Reg.snapFlashCap) (fun x => s.snap.flash.pins.contains x || s.snap.flash.ships.any (fun h => h.id == x)) s.snap.flash.log.length s.snap.flash.log ∧ s.rd Reg.snapFlashCap < logBytes (s.rd Reg.snapFlashCap) rs + logBytes (s.rd Reg.snapFlashCap) log ∧ t = ((((s.setFlash { s.snap.flash with log := log }).put (slotStateF i) 2).put Fld.snapFlashStatus_full 1).setFlash { s.snap.flash with log := log, draining := s.snap.flash.draining.filter (· != i.val) }).flashShow.event 0x0A04 (some (i.val / 4)) (s.partCantle (i.val / 4)) 0 (toLE 8 (s.rd (Reg.snapSlotId i))) :=
  ⟨drainw 0, 0, [1], _, _, _, _, by decide +kernel, by decide +kernel, (by decide +kernel), by decide +kernel, by decide +kernel, rfl, rfl, rfl, by
    have h : (drainw 0).rd Reg.snapFlashCap = 0 := by decide +kernel
    rw [h]
    exact Nat.lt_of_lt_of_le (image_first _ _ _ _ _ _ _ _ _) (Nat.le_add_right _ _), rfl⟩

theorem seal_len (key : List Byte) (e : LogRec × List Byte) (h4 : e.1.typ ≠ 4) :
    (if e.1.typ = 4 then e.1 else e.1.seal key e.2).payload.length ≤ e.2.length := by
  rw [if_neg h4]; simp only [LogRec.seal, List.length_take]; exact Nat.min_le_left _ _
theorem logBytes_two (cap : Nat) (a b : LogRec) (ha : a.payload.length ≤ 4096) (hb : b.payload.length ≤ 64) (h4 : a.typ ≠ 4) (h5 : b.typ ≠ 4) :
    logBytes cap [a, b] ≤ 12288 := by
  simp only [logBytes, ceilDiv, List.map_cons, List.map_nil, List.foldl_cons, List.foldl_nil, if_neg h4, if_neg h5]; omega
theorem placeLog_two (q : Nat) (a b : LogRec) (x y : List Byte) (hx : x.length ≤ 4096) (hy : y.length ≤ 64) :
    (placeLog (2 ^ 40) 0 q [(a, x), (b, y)]).1 =
      [({ a with seq := q, at_ := 0 }, x), ({ b with seq := q + 1, at_ := 4096 * ceilDiv (64 + x.length) 4096 }, y)] := by
  have h1 : ¬ 2 ^ 40 < 4096 * ceilDiv (64 + x.length) 4096 := by unfold ceilDiv; omega
  have h2 : ¬ 2 ^ 40 < 4096 * ceilDiv (64 + x.length) 4096 + 4096 * ceilDiv (64 + y.length) 4096 := by unfold ceilDiv; omega
  simp only [placeLog, Nat.zero_add, if_neg h1, if_neg h2]
theorem sealed_len (id keySlot flags seq : Nat) (key img : List Byte) (h : img.length ≤ 4096) :
    logBytes (2 ^ 40) ((placeLog (2 ^ 40) 0 seq (imageRecords id keySlot flags img seq)).1.map
      (fun e => if e.1.typ = 4 then e.1 else e.1.seal key e.2)) ≤ 12288 := by
  have hd : chunks 0x100000 (img.drop 4096) = [] := by rw [List.drop_eq_nil_of_le h]; rfl
  have hx : (img.take 4096).length ≤ 4096 := by rw [List.length_take]; exact Nat.min_le_left _ _
  have h2 : ∃ a b y, imageRecords id keySlot flags img seq = [(a, img.take 4096), (b, y)] ∧ y.length ≤ 64 ∧ a.typ ≠ 4 ∧ b.typ ≠ 4 := by
    unfold imageRecords
    rw [hd]
    exact ⟨_, _, _, rfl, by simp [padTo, toLE]; omega, by simp, by simp⟩
  obtain ⟨a, b, y, he, hy, ha, hb⟩ := h2
  rw [he, placeLog_two seq a b _ _ hx hy]
  exact logBytes_two _ _ _ (Nat.le_trans (seal_len _ ({ a with seq := seq, at_ := 0 }, _) ha) hx) (Nat.le_trans (seal_len _ ({ b with seq := seq + 1, at_ := 4096 * ceilDiv (64 + (img.take 4096).length) 4096 }, _) hb) hy)
    (fun h4 => ha ((seal_typ key ({ a with seq := seq, at_ := 0 }, _)).symm.trans h4))
    (fun h4 => hb ((seal_typ key ({ b with seq := seq + 1, at_ := 4096 * ceilDiv (64 + (img.take 4096).length) 4096 }, _)).symm.trans h4))
theorem witness_SnapshotsAreCapturedSealedAndDrained_4 :
    ∃ (s : State) (i : Fin 16) (key : List Byte) (pl : List (LogRec × List Byte) × Nat) (rs : List LogRec) (log : List LogRec) (f : Flash) (t : State), s.Live ∧ s.snap.flash.draining.contains i.val = true ∧ s.f Fld.thmSaveStatus_state = 0 ∧ s.isHeld = false ∧ s.key (s.f (Fld.snapCfg_drain_key_slot (i.val / 4))) = some key ∧ pl = placeLog (s.rd Reg.snapFlashCap) s.snap.flash.tail s.snap.flash.nextSeq (imageRecords (s.rd (Reg.snapSlotId i)) (s.f (Fld.snapCfg_drain_key_slot (i.val / 4))) (fieldLE (s.saddleImage (i.val / 4) (i.val % 4)) 2 1) (s.saddleImage (i.val / 4) (i.val % 4)) s.snap.flash.nextSeq) ∧ (rs = pl.1.map (fun e => if e.1.typ = 4 then e.1 else e.1.seal key e.2)) ∧ log = trimLog (logBytes (s.rd Reg.snapFlashCap) rs) (s.rd Reg.snapFlashCap) (fun x => s.snap.flash.pins.contains x || s.snap.flash.ships.any (fun h => h.id == x)) s.snap.flash.log.length s.snap.flash.log ∧ logBytes (s.rd Reg.snapFlashCap) rs + logBytes (s.rd Reg.snapFlashCap) log ≤ s.rd Reg.snapFlashCap ∧ f = { s.snap.flash with log := log ++ rs, nextSeq := s.snap.flash.nextSeq + rs.length, tail := pl.2, ends := ((log ++ rs).head?.elim 0 LogRec.at_, pl.2), anchor := Sparse.put zeroD s.snap.flash.anchor (i.val / 4) (Sparse.get zeroD s.snap.flash.next (i.val / 4)) } ∧ t = ((((s.setFlash f).put (slotStateF i) 5).setFlash { f with draining := f.draining.filter (· != i.val) }).flashShow) :=
  ⟨drainw (2 ^ 40), 0, [1], _, _, _, _, _, by decide +kernel, by decide +kernel, (by decide +kernel), by decide +kernel, by decide +kernel, rfl, rfl, rfl, by
    have h : (drainw (2 ^ 40)).rd Reg.snapFlashCap = 2 ^ 40 := by decide +kernel
    rw [h]
    exact Nat.le_trans (Nat.add_le_add (sealed_len _ _ _ _ _ _ (by decide +kernel)) (Nat.le_refl 0)) (by decide), rfl, rfl⟩

end Sys2Proof.Tests
end

section
/-!
What a command can do at most: every command answers a next state, and `touches` bounds the components in which that state
differs. The queue and the canonical form of the three stores follow for every step.
-/
namespace Sys2Proof.Machine

/-- The outcome is a next state that differs from s in components of M only. -/
def Answers (M : Nat) (s : State) (o : Out) : Prop := ∃ t, o = .next t ∧ Ext M s t

theorem Answers.next {M : Nat} {s t : State} (h : Ext M s t) : Answers M s (.next t) := ⟨t, rfl, h⟩

/-- The gate of reset adds only the outcome that nothing changes. -/
theorem Answers.unlessReset {M : Nat} {s : State} {f : State → State} (h : Ext M s (f s)) :
    Answers M s (State.unlessReset s f) := by
  obtain ⟨t, ht, rfl | rfl⟩ := State.unlessReset_next s f
  · exact ⟨t, ht, .refl M t⟩
  · exact ⟨f s, ht, h⟩

/-- Any component but the fuses (bit 9) and the release of THERMTRIP_N (bit 22). -/
abbrev Touch.ordinary : Nat := 0x3FFDFF

/-- Any component, the fuses among them, but the release of THERMTRIP_N. -/
abbrev Touch.fuses : Nat := 0x3FFFFF

/-- Any component and the release of THERMTRIP_N, but the fuses. -/
abbrev Touch.trip : Nat := 0x7FFDFF

/-- The components a command may change, as a mask of Ext: the fuses are left to the commands that program them or reset the
device around them, the release of THERMTRIP_N to the loss of VAUX. -/
def touches : Instr → Nat
  | .vauxLoss => Touch.trip
  | .ownerProgram .. | .ownerRevoke .. | .startupReady | .updatePhaseEnd .. | .registerWrite .. | .incomingRdmaWrite ..
  | .resetAssert .. | .refclkStop | .recoveryReset => Touch.fuses
  | _ => Touch.ordinary

/-- The usual case: behind the gate of reset, and neither fuses nor THERMTRIP_N. -/
theorem Answers.gated {s : State} {f : State → State} (h : Ext Touch.ordinary s (f s)) :
    Answers Touch.ordinary s (State.unlessReset s f) := .unlessReset h

/-- Behind the gate of reset, a write of one register: refused with an event, or what the register does with it. -/
theorem Answers.gatedWrite {s : State} {w : Writer} {off v : Nat} {f : State → State} (h : Ext Touch.ordinary s (f s)) :
    Answers Touch.ordinary s (State.unlessReset s fun s => s.regWrite w off v f) := by
  refine .gated ?_
  unfold State.regWrite
  exact .ite h (State.badWrite_ext rfl (.refl _ s))

/-- Behind the gate of reset, a write that any writer of a shared register may make. -/
theorem Answers.gatedShared {s : State} {w : Writer} {off v : Nat} {f : State → State} (h : Ext Touch.ordinary s (f s)) :
    Answers Touch.ordinary s (State.unlessReset s fun s => if s.mayWriteS w then f s else s.badWrite off v) :=
  .gated (.ite h (State.badWrite_ext rfl (.refl _ s)))

/-- Every command answers a next state, within the components it may change: one arm per command, by the bound of the function
that gives the command its meaning. -/
theorem exec_answers (c : Instr) (s : State) : Answers (touches c) s (exec c s) := by
  cases c with
  | wqTailWrite _ _ _ => exact .gated (wqTailWrite_ext rfl (.refl _ s))
  | wqBaseWrite _ _ _ => exact .gated (wqBaseWrite_ext rfl (.refl _ s))
  | wqEnable _ _ _ => exact .gated (wqEnable_ext rfl (.refl _ s))
  | wqDisable _ _ _ => exact .gated (wqDisable_ext rfl (.refl _ s))
  | cqEnable _ _ _ => exact .gated (cqEnable_ext rfl (.refl _ s))
  | cqDisable _ _ _ => exact .gated (cqDisable_ext rfl (.refl _ s))
  | cqHeadWrite _ _ _ => exact .gated (cqHeadWrite_ext rfl (.refl _ s))
  | depctrWrite _ _ _ => exact .gated (depctrWrite_ext rfl (.refl _ s))
  | abortReq _ _ _ _ => exact .gated (abortReq_ext rfl (.refl _ s))
  | abortSafePoint _ => exact .gated (abortSafePoint_ext rfl (.refl _ s))
  | admitItem _ _ => exact .gated (admitItem_ext rfl (.refl _ s))
  | matmul _ => exact .gated (opMatmul_ext rfl (.refl _ s))
  | kernel _ => exact .gated (opKernel_ext rfl (.refl _ s))
  | move _ => exact .gated (opMove_ext rfl (.refl _ s))
  | copy _ => exact .gated (opCopy_ext rfl (.refl _ s))
  | reduceAdd _ => exact .gated (opReduceAdd_ext rfl (.refl _ s))
  | transpose _ => exact .gated (opTranspose_ext rfl (.refl _ s))
  | expandE2m1 _ => exact .gated (opExpand_ext rfl (.refl _ s))
  | colmax _ => exact .gated (opColmax_ext rfl (.refl _ s))
  | apply _ => exact .gated (opApply_ext rfl (.refl _ s))
  | trafficTest _ _ _ _ _ => exact .gated (opTrafficTest_ext rfl (.refl _ s))
  | reduceScatter _ => exact .gated (opReduceScatter_ext rfl (.refl _ s))
  | allGather _ => exact .gated (opAllGather_ext rfl (.refl _ s))
  | allReduce _ => exact .gated (opAllReduce_ext rfl (.refl _ s))
  | fenceQueue _ => exact .gated (fenceQueue_ext rfl (.refl _ s))
  | fencePartition _ => exact .gated (fencePartition_ext rfl (.refl _ s))
  | fenceStepClose _ => exact .gated (fenceStepClose_ext rfl (.refl _ s))
  | snapshot _ => exact .gated (opSnapshot_ext rfl (.refl _ s))
  | ship _ => exact .gated (opShip_ext rfl (.refl _ s))
  | mark _ => exact .gated (opMark_ext rfl (.refl _ s))
  | itemRetire _ => exact .gated (itemRetire_ext rfl (.refl _ s))
  | tileLoadStart _ _ => exact .gated (tileLoadStart_ext rfl (.refl _ s))
  | passStart _ _ _ _ => exact .gated (passStart_ext rfl (.refl _ s))
  | passRetire _ => exact .gated (passRetire_ext rfl (.refl _ s))
  | preemption _ => exact .gated (preemption_ext rfl (.refl _ s))
  | passFault _ _ _ _ _ _ => exact .gated (passFault_ext rfl (.refl _ s))
  | aryRepairReq _ _ _ => exact .gatedWrite (aryRepairReq_ext rfl (.refl _ s))
  | fieldRepair _ => exact .gated (fieldRepair_ext rfl (.refl _ s))
  | aryInject _ _ _ => exact .gatedWrite (aryInject_ext rfl (.refl _ s))
  | stirrupWrite _ _ _ _ => exact .gated (stirrupWrite_ext rfl (.refl _ s))
  | skiverTileConvert _ => exact .gated (skiverTileConvert_ext rfl (.refl _ s))
  | epilogueRun _ _ => exact .gated (epilogueRun_ext rfl (.refl _ s))
  | kNop _ => exact .gated (insNop_ext rfl (.refl _ s))
  | kLd _ => exact .gated (insLd_ext rfl (.refl _ s))
  | kSt _ => exact .gated (insSt_ext rfl (.refl _ s))
  | kLdi _ => exact .gated (insLdi_ext rfl (.refl _ s))
  | kLdp _ => exact .gated (insLdp_ext rfl (.refl _ s))
  | kLds _ => exact .gated (insLds_ext rfl (.refl _ s))
  | kIdx _ => exact .gated (insIdx_ext rfl (.refl _ s))
  | kLdk _ => exact .gated (insLdk_ext rfl (.refl _ s))
  | kAdd _ => exact .gated (insAdd_ext rfl (.refl _ s))
  | kSub _ => exact .gated (insSub_ext rfl (.refl _ s))
  | kMul _ => exact .gated (insMul_ext rfl (.refl _ s))
  | kFma _ => exact .gated (insFma_ext rfl (.refl _ s))
  | kMin _ => exact .gated (insMin_ext rfl (.refl _ s))
  | kMax _ => exact .gated (insMax_ext rfl (.refl _ s))
  | kAbs _ => exact .gated (insAbs_ext rfl (.refl _ s))
  | kNeg _ => exact .gated (insNeg_ext rfl (.refl _ s))
  | kClt _ => exact .gated (insClt_ext rfl (.refl _ s))
  | kCle _ => exact .gated (insCle_ext rfl (.refl _ s))
  | kCeq _ => exact .gated (insCeq_ext rfl (.refl _ s))
  | kCne _ => exact .gated (insCne_ext rfl (.refl _ s))
  | kSel _ => exact .gated (insSel_ext rfl (.refl _ s))
  | kAnd _ => exact .gated (insAnd_ext rfl (.refl _ s))
  | kOr _ => exact .gated (insOr_ext rfl (.refl _ s))
  | kXor _ => exact .gated (insXor_ext rfl (.refl _ s))
  | kFin _ => exact .gated (insFin_ext rfl (.refl _ s))
  | kExp _ => exact .gated (insExp_ext rfl (.refl _ s))
  | kLog _ => exact .gated (insLog_ext rfl (.refl _ s))
  | kRcp _ => exact .gated (insRcp_ext rfl (.refl _ s))
  | kRsq _ => exact .gated (insRsq_ext rfl (.refl _ s))
  | kTanh _ => exact .gated (insTanh_ext rfl (.refl _ s))
  | kRsum _ => exact .gated (insRsum_ext rfl (.refl _ s))
  | kRmax _ => exact .gated (insRmax_ext rfl (.refl _ s))
  | kRmin _ => exact .gated (insRmin_ext rfl (.refl _ s))
  | kCvt _ => exact .gated (insCvt_ext rfl (.refl _ s))
  | vectorFault _ _ => exact .gated (vectorFault_ext rfl (.refl _ s))
  | tileStoreEcc _ _ _ _ _ _ => exact .gated (tileStoreEcc_ext rfl (.refl _ s))
  | teSpareCtrl _ _ _ => exact .gatedWrite (teSpareCtrl_ext rfl (.refl _ s))
  | ceLimitExceeded _ => exact .gated (ceLimitExceeded_ext rfl (.refl _ s))
  | spareSelfTestDone _ _ => exact .gated (spareSelfTestDone_ext rfl (.refl _ s))
  | spareCopyDone _ => exact .gated (spareCopyDone_ext rfl (.refl _ s))
  | spareCutover _ => exact .gated (spareCutover_ext rfl (.refl _ s))
  | awlRecompute _ _ => exact .gated (awlRecompute_ext rfl (.refl _ s))
  | strmOpen _ _ => exact .gatedShared (strmOpen_ext rfl (.refl _ s))
  | strmClose _ _ => exact .gatedShared (strmClose_ext rfl (.refl _ s))
  | strmRingTail _ _ => exact .gatedWrite (strmRingTail_ext rfl (.refl _ s))
  | strmResync _ _ => exact .gatedWrite (strmResync_ext rfl (.refl _ s))
  | burstFetch _ => exact .gated (burstFetch_ext rfl (.refl _ s))
  | slotGrant _ _ _ => exact .gated (slotGrant_ext rfl (.refl _ s))
  | waitLimit _ => exact .gated (waitLimit_ext rfl (.refl _ s))
  | prefetchFill _ => exact .gated (prefetchFill_ext rfl (.refl _ s))
  | accumulateAdd _ => exact .gated (accumulateAdd_ext rfl (.refl _ s))
  | ladderRise _ _ => exact .gated (ladderRiseAt_ext rfl (.refl _ s))
  | ladderInstanceClose _ _ => exact .gated (ladderInstanceClose_ext rfl (.refl _ s))
  | ladderRungWrite _ _ _ => exact .gated (ladderRungWrite_ext rfl (.refl _ s))
  | stepRecordWrite _ => exact .gated (stepRecordWrite_ext rfl (.refl _ s))
  | replayEnable _ _ _ => exact .gated (replayEnable_ext rfl (.refl _ s))
  | rngSeedWrite _ _ _ => exact .gated (rngSeedWrite_ext rfl (.refl _ s))
  | patrolScrub _ _ => exact .gated (patrolScrub_ext rfl (.refl _ s))
  | ueLimitExceeded _ => exact .gated (ueLimit_ext rfl (.refl _ s))
  | hsmRetrainReq _ _ => exact .gatedWrite (writeRetrainReq_ext rfl (.refl _ s))
  | retrainTrigger _ _ _ => exact .gated (retrainTrigger_ext rfl (.refl _ s))
  | channelRetrain _ => exact .gated (channelRetrain_ext rfl (.refl _ s))
  | retrainEnd _ _ => exact .gated (retrainEnd_ext rfl (.refl _ s))
  | hsmMapoutReq _ _ => exact .gatedWrite (writeMapoutReq_ext rfl (.refl _ s))
  | hsmMapoutAck _ _ => exact .gatedWrite (writeMapoutAck_ext rfl (.refl _ s))
  | mapoutCutover _ => exact .gated (mapoutCutover_ext rfl (.refl _ s))
  | hsmTest _ _ _ => exact .gatedWrite (writeHsmTest_ext rfl (.refl _ s))
  | hsmTestDone _ _ => exact .gated (hsmTestDone_ext rfl (.refl _ s))
  | laneBad _ _ => exact .gated (laneBad_ext rfl (.refl _ s))
  | relaneDone _ => exact .gated (relaneDone_ext rfl (.refl _ s))
  | lockTimeout _ => exact .gated (lockTimeout_ext rfl (.refl _ s))
  | dataFlit _ _ _ => exact .gated (dataFlit_ext rfl (.refl _ s))
  | idleFlit _ _ _ => exact .gated (idleFlit_ext rfl (.refl _ s))
  | linkFlit _ _ _ => exact .gated (linkFlit_ext rfl (.refl _ s))
  | replayTimeout _ => exact .gated (replayTimeout_ext rfl (.refl _ s))
  | ackTimer _ => exact .gated (ackTimer_ext rfl (.refl _ s))
  | creditReturn _ _ => exact .gated (creditReturn_ext rfl (.refl _ s))
  | packetStart _ => exact .gated (packetStart_ext rfl (.refl _ s))
  | linkTrainingDone _ _ => exact .gated (linkTrainingDone_ext rfl (.refl _ s))
  | ident _ => exact .gated (identUp_ext rfl (.refl _ s))
  | bringupRetry _ => exact .gated (bringupRetry_ext rfl (.refl _ s))
  | bringupDeadline _ => exact .gated (bringupDeadline_ext rfl (.refl _ s))
  | lnkForceDown _ _ => exact .gated (lnkForceDown_ext rfl (.refl _ s))
  | lnkRestoreLegs _ _ => exact .gated (lnkRestoreLegs_ext rfl (.refl _ s))
  | lnkRewiden _ _ => exact .gated (lnkRewiden_ext rfl (.refl _ s))
  | rewidenLock _ => exact .gated (rewidenLock_ext rfl (.refl _ s))
  | rewidenTimeout _ => exact .gated (rewidenTimeout_ext rfl (.refl _ s))
  | transitPacket _ => exact .gated (transitPacket_ext rfl (.refl _ s))
  | job0Relay _ => exact .gated (job0Relay_ext rfl (.refl _ s))
  | write _ => exact .gated (writePacket_ext rfl (.refl _ s))
  | legDownNotice _ => exact .gated (legDownNotice_ext rfl (.refl _ s))
  | adderStage _ => exact .gated (adderStage_ext rfl (.refl _ s))
  | entry _ => exact .gated (ringEntryMarker_ext rfl (.refl _ s))
  | fold _ => exact .gated (ringFold_ext rfl (.refl _ s))
  | gather _ => exact .gated (ringGather_ext rfl (.refl _ s))
  | headers _ => exact .gated (ringHeaders_ext rfl (.refl _ s))
  | deliver _ => exact .gated (ringDeliver_ext rfl (.refl _ s))
  | report _ => exact .gated (ringReport_ext rfl (.refl _ s))
  | restart _ => exact .gated (ringRestart_ext rfl (.refl _ s))
  | finMarker _ => exact .gated (ringFin_ext rfl (.refl _ s))
  | retire _ => exact .gated (ringRetire_ext rfl (.refl _ s))
  | fatal _ => exact .gated (ringFatalMarker_ext rfl (.refl _ s))
  | stragglerDeadline _ => exact .gated (stragglerDeadline_ext rfl (.refl _ s))
  | twinHello _ => exact .gated (twinHello_ext rfl (.refl _ s))
  | twinHelloRetry => exact .gated (twinHelloRetry_ext rfl (.refl _ s))
  | twinBeatSend => exact .gated (twinBeatSend_ext rfl (.refl _ s))
  | twinBeat _ => exact .gated (twinBeat_ext rfl (.refl _ s))
  | beatLimit => exact .gated (beatLimit_ext rfl (.refl _ s))
  | twinFailed _ => exact .gated (twinFailedNotice_ext rfl (.refl _ s))
  | mirrorData _ => exact .gated (mirrorData_ext rfl (.refl _ s))
  | mirrorCommit _ => exact .gated (mirrorCommit_ext rfl (.refl _ s))
  | mirrorAck _ => exact .gated (mirrorAck_ext rfl (.refl _ s))
  | mirrorAckTimer _ => exact .gated (mirrorAckTimer_ext rfl (.refl _ s))
  | handbackGo _ _ _ => exact .gated (handbackGoWrite_ext rfl (.refl _ s))
  | handbackReq _ => exact .gated (handbackReq_ext rfl (.refl _ s))
  | handbackDone _ => exact .gated (handbackDone_ext rfl (.refl _ s))
  | mirrorReset _ => exact .gated (mirrorReset_ext rfl (.refl _ s))
  | snapshotQuiesced _ => exact .gated (snapshotQuiesced_ext rfl (.refl _ s))
  | snapshotSeal _ => exact .gated (snapshotSeal_ext rfl (.refl _ s))
  | drainComplete _ => exact .gated (drainComplete_ext rfl (.refl _ s))
  | shipEnd _ => exact .gated (shipEnd_ext rfl (.refl _ s))
  | restoreSaddle _ _ _ => exact .gated (restoreSaddle_ext rfl (.refl _ s))
  | restoreFlash _ _ _ => exact .gated (restoreFlash_ext rfl (.refl _ s))
  | restoreRemote _ _ _ => exact .gated (restoreRemote_ext rfl (.refl _ s))
  | restoreTwin _ _ _ => exact .gated (restoreTwin_ext rfl (.refl _ s))
  | restorePhaseEnd => exact .gated (restorePhaseEnd_ext rfl (.refl _ s))
  | snapPin _ _ => exact .gated (snapPin_ext rfl (.refl _ s))
  | snapUnpin _ _ => exact .gated (snapUnpin_ext rfl (.refl _ s))
  | snapCountFloorWrite _ _ _ => exact .gated (snapCountFloorWrite_ext rfl (.refl _ s))
  | evalwinEnable _ _ => exact .gated (evalwinEnable_ext rfl (.refl _ s))
  | evalwinDisable _ _ => exact .gated (evalwinDisable_ext rfl (.refl _ s))
  | leaseRenewal => exact .gated (leaseRenewal_ext rfl (.refl _ s))
  | leaseRenewalMissed _ => exact .gated (leaseRenewalMissed_ext rfl (.refl _ s))
  | reinTick => exact .gated (reinTick_ext rfl (.refl _ s))
  | telemetryWindow _ => exact .gated (telemetryWindow_ext rfl (.refl _ s))
  | frequencyStep => exact .gated (frequencyStep_ext rfl (.refl _ s))
  | reinCapWrite _ _ => exact .gated (reinCapWrite_ext rfl (.refl _ s))
  | cinchTrip _ _ => exact .gated (cinchTrip_ext rfl (.refl _ s))
  | droopNAssert _ => exact .gated (droopNAssert_ext rfl (.refl _ s))
  | cinchEscalate => exact .gated (cinchEscalate_ext rfl (.refl _ s))
  | cinchClear _ => exact .gated (cinchClear_ext rfl (.refl _ s))
  | cinchTest _ _ _ => exact .gated (cinchTest_ext rfl (.refl _ s))
  | cinchDisable _ _ => exact .gated (cinchDisable_ext rfl (.refl _ s))
  | cinchEnable _ _ => exact .gated (cinchEnable_ext rfl (.refl _ s))
  | marginCheck _ => exact .gated (marginCheck_ext rfl (.refl _ s))
  | temperatureRead _ _ => exact .gated (temperatureRead_ext rfl (.refl _ s))
  | thermalCapUpdate => exact .gated (thermalCapUpdate_ext rfl (.refl _ s))
  | thermalTrip _ _ => exact .next (M := Touch.ordinary) (thermalTrip_ext rfl (.refl _ s))
  | holdWarnAssert => exact .next (M := Touch.ordinary) (holdWarnAssert_ext rfl (.refl _ s))
  | holdWarnGlitch => exact .next (M := Touch.ordinary) (holdWarnGlitch_ext rfl (.refl _ s))
  | saveCommit => exact .gated (saveCommit_ext rfl (.refl _ s))
  | holdLossAssert => exact .next (M := Touch.ordinary) (holdLossAssert_ext rfl (.refl _ s))
  | resume _ => exact .gated (resume_ext rfl (.refl _ s))
  | thmSaveTest _ _ => exact .gated (thmSaveTest_ext rfl (.refl _ s))
  | ledgerWrite => exact .gated (ledgerWrite_ext rfl (.refl _ s))
  | saveAreaErase => exact .gated (saveAreaErase_ext rfl (.refl _ s))
  | keepAreaRestore _ _ _ => exact .gated (keepAreaRestore_ext rfl (.refl _ s))
  | arpRequest _ _ _ => exact .gated (arpRequest_ext rfl (.refl _ s))
  | neighbourSolicitation _ _ _ => exact .gated (neighbourSolicitation_ext rfl (.refl _ s))
  | nonRoceFrame => exact .gated (nonRoceFrame_ext rfl (.refl _ s))
  | incomingSend _ _ _ => exact .gated (incomingSend_ext rfl (.refl _ s))
  | incomingRdmaWrite _ _ _ _ _ _ _ => exact .unlessReset (M := Touch.fuses) (incomingRdmaWrite_ext rfl (.refl _ s))
  | incomingRdmaRead _ _ _ _ _ _ _ => exact .gated (incomingRdmaRead_ext rfl (.refl _ s))
  | readResponse _ _ _ => exact .gated (readResponse_ext rfl (.refl _ s))
  | acknowledge _ _ _ => exact .gated (acknowledgeCmd_ext rfl (.refl _ s))
  | retransmitTimeout _ => exact .gated (retransmitTimeout_ext rfl (.refl _ s))
  | cnpReceive _ => exact .gated (cnpReceive_ext rfl (.refl _ s))
  | rateIncrease _ => exact .gated (rateIncrease_ext rfl (.refl _ s))
  | qpToReady _ _ _ => exact .gated (qpToReady_ext rfl (.refl _ s))
  | qpToReset _ _ _ => exact .gated (qpToReset_ext rfl (.refl _ s))
  | mrWrite _ _ _ _ => exact .gated (mrWrite_ext rfl (.refl _ s))
  | hpLaneLoss => exact .gated (hpLaneLoss_ext rfl (.refl _ s))
  | resetAssert _ => exact .next (M := Touch.fuses) (resetAssert_ext rfl (.refl _ s))
  | resetRelease _ _ _ => exact .next (M := Touch.ordinary) (resetRelease_ext rfl (.refl _ s))
  | refclkStop => exact .next (M := Touch.fuses) (refclkStop_ext rfl (.refl _ s))
  | sdrefLoss _ => exact .next (M := Touch.ordinary) (sdrefLoss_ext rfl (.refl _ s))
  | leaseGrantTimeout => exact .gated (leaseGrantTimeout_ext rfl (.refl _ s))
  | norReadDone => exact .gated (norReadDone_ext rfl (.refl _ s))
  | hbmTrainingDone _ _ _ _ => exact .gated (hbmTrainingDone_ext rfl (.refl _ s))
  | startupReady => exact .unlessReset (M := Touch.fuses) (startupReady_ext rfl (.refl _ s))
  | bootDeltaGo _ _ => exact .gated (bootDeltaGo_ext rfl (.refl _ s))
  | deltaApply => exact .gated (deltaApply_ext rfl (.refl _ s))
  | transitDeltaApply => exact .gated (transitDeltaApply_ext rfl (.refl _ s))
  | bootUpdateGo _ _ => exact .gated (bootUpdateGo_ext rfl (.refl _ s))
  | updatePhaseEnd _ => exact .unlessReset (M := Touch.fuses) (updatePhaseEnd_ext rfl (.refl _ s))
  | recoveryHello _ => exact .gated (recoveryHello_ext rfl (.refl _ s))
  | recoveryCommit _ _ _ => exact .gated (recoveryCommit_ext rfl (.refl _ s))
  | recoveryIdle => exact .gated (recoveryIdle_ext rfl (.refl _ s))
  | recoveryReset => exact .unlessReset (M := Touch.fuses) (recoveryReset_ext rfl (.refl _ s))
  | ownerProgram _ _ _ => exact .unlessReset (M := Touch.fuses) (ownerProgram_ext rfl (.refl _ s))
  | ownerRevoke _ _ _ => exact .unlessReset (M := Touch.fuses) (ownerRevoke_ext rfl (.refl _ s))
  | keyLoad _ _ _ => exact .gated (keyLoad_ext rfl (.refl _ s))
  | keyClear _ _ _ => exact .gated (keyClear_ext rfl (.refl _ s))
  | secAttestGo _ _ => exact .gated (secAttestGo_ext rfl (.refl _ s))
  | attestReportReady => exact .gated (attestReportReady_ext rfl (.refl _ s))
  | eventRecordWrite _ => exact .gated (eventRecordWrite_ext rfl (.refl _ s))
  | intakeLost _ => exact .gated (intakeLost_ext rfl (.refl _ s))
  | suppressed _ => exact .gated (suppressed_ext rfl (.refl _ s))
  | evrecClearPinned _ _ => exact .gated (evrecClearPinned_ext rfl (.refl _ s))
  | evrecClearAll _ _ _ => exact .gated (evrecClearAll_ext rfl (.refl _ s))
  | readClear _ => exact .gated (readClear_ext rfl (.refl _ s))
  | registerWrite _ _ _ => exact .unlessReset (M := Touch.fuses) (registerWrite_ext rfl (.refl _ s))
  | unassignedAccess _ _ => exact .gated (unassignedAccess_ext rfl (.refl _ s))
  | vauxLoss => exact .next (M := Touch.trip) (vauxLoss_ext rfl (.refl _ s))
  | hpBringupRetry _ => exact .gated (hpBringupRetry_ext rfl (.refl _ s))
  | targetRailVoltageAck _ => exact .gated (targetRailVoltageAck_ext rfl (.refl _ s))
  | reservedKindPacket _ => exact .gated (reservedKindPacket_ext rfl (.refl _ s))
  | deltaNorWritten _ => exact .gated (deltaNorWritten_ext rfl (.refl _ s))
  | jtagInstruction _ => exact .next (M := Touch.ordinary) (jtagInstruction_ext rfl (.refl _ s))

theorem step_of_idle {s : State} (h : s.pending = []) : step s = .next s.tick := by
  unfold step
  rw [h]

theorem step_of_front {s : State} {c : Instr} {cs : List Instr} (h : s.pending = c :: cs) :
    step s = exec c { s with pending := cs } := by
  unfold step
  rw [h]

/-- A tick changes nothing but the count of CTLCLK cycles. -/
theorem State.tick_ext (s : State) : Ext 1 s s.tick := by
  unfold State.tick
  split
  · exact .refl 1 s
  · exact State.setNow_ext rfl (.refl 1 s)

/-- A step answers a next state that has taken the front of the queue and changed what that command may change. -/
theorem step_answers (s : State) :
    Answers (s.pending.head?.elim 1 touches) { s with pending := s.pending.tail } (step s) := by
  cases h : s.pending with
  | nil =>
    have hs : { s with pending := ([] : List Instr).tail } = s := by rw [List.tail_nil, ← h]
    rw [step_of_idle h, hs]
    exact .next s.tick_ext
  | cons c cs =>
    rw [step_of_front h]
    exact exec_answers c { s with pending := cs }

/-- A change within any mask keeps the stores canonical. -/
theorem Ext.canon {M : Nat} {s t : State} (h : Ext M s t) (hs : s.Canon) : t.Canon := by
  obtain ⟨hregs, hmem, hpoison⟩ := hs
  exact ⟨h.regsWf hregs, h.memWf hmem, h.poisonWf hpoison⟩

theorem State.Canon.of_stores_nil {s : State} (hr : s.regs = []) (hm : s.mem = []) (hp : s.poison = []) : s.Canon := by
  unfold State.Canon
  rw [hr, hm, hp]
  exact ⟨Sparse.wf_nil regD, Sparse.wf_nil memD, Sparse.wf_nil poisonD⟩

/-- A register that the store does not list reads its Reset column. -/
theorem State.rd_of_regs_nil {s : State} (h : s.regs = []) (off : Nat) : s.rd off = regDefault off % 2 ^ 64 := by
  unfold State.rd
  rw [h]
  exact BitVec.toNat_ofNat (regDefault off) 64

/-- Settles O5: a step is a change within some mask, and every such change keeps the canonical forms. -/
theorem everyStepKeepsTheStoresCanonical : Obligations.EveryStepKeepsTheStoresCanonical := by
  unfold Obligations.EveryStepKeepsTheStoresCanonical
  intro s t hs ht
  obtain ⟨u, hu, hext⟩ := step_answers s
  obtain rfl : u = t := by simpa using hu.symm.trans ht
  exact hext.canon hs

/-- Settles O4: exec and step answer a next state for every command and state, and no mask reaches the queue. -/
theorem everyStepAnswersAndTakesOnlyTheFront : Obligations.EveryStepAnswersAndTakesOnlyTheFront := by
  unfold Obligations.EveryStepAnswersAndTakesOnlyTheFront
  constructor
  · intro c s
    obtain ⟨t, ht, hext⟩ := exec_answers c s
    exact ⟨t, ht, hext.pending⟩
  · intro s
    obtain ⟨t, ht, hext⟩ := step_answers s
    exact ⟨t, ht, hext.pending⟩

/-- Settles O2: reset lists nothing in any store, so every register reads its default. -/
theorem resetLeavesTheRegistersAtTheirColumn : Obligations.ResetLeavesTheRegistersAtTheirColumn := by
  unfold Obligations.ResetLeavesTheRegistersAtTheirColumn
  exact ⟨.of_stores_nil rfl rfl rfl, ⟨rfl, rfl, rfl, rfl⟩, State.rd_of_regs_nil rfl⟩

end Sys2Proof.Machine
end

section
/-!
Reads and writes of control space: what a read returns and clears, and the route of a write through the register families.
-/
namespace Sys2Proof.Machine

/-! ### Clearing a field -/

/-- A field is zero when the register has none of its bits. -/
theorem bits_eq_zero_iff (w lo width : Nat) :
    bits w lo width = 0 ↔ ∀ i, lo ≤ i → i < lo + width → w.testBit i = false := by
  constructor
  · intro h i hlo hi
    have hbit : (bits w lo width).testBit (i - lo) = w.testBit i := by
      unfold bits
      rw [Nat.testBit_mod_two_pow, Nat.testBit_div_two_pow, Nat.sub_add_cancel hlo,
        decide_eq_true (by omega : i - lo < width), Bool.true_and]
    rw [← hbit, h, Nat.zero_testBit]
  · intro h
    refine Nat.eq_of_testBit_eq fun i => ?_
    unfold bits
    rw [Nat.testBit_mod_two_pow, Nat.testBit_div_two_pow, Nat.zero_testBit]
    by_cases hi : i < width
    · rw [h (i + lo) (Nat.le_add_left lo i) (by omega), Bool.and_false]
    · rw [decide_eq_false hi, Bool.false_and]

/-- Clearing a field drops its bits and no other. -/
theorem testBit_setBits_zero (w lo width i : Nat) :
    (setBits w lo width 0).testBit i = (w.testBit i && !(decide (lo ≤ i) && decide (i < lo + width))) := by
  have hlow : w % 2 ^ lo < 2 ^ (lo + width) :=
    Nat.lt_of_lt_of_le (Nat.mod_lt _ (Nat.two_pow_pos _)) (Nat.pow_le_pow_right Nat.two_pos (Nat.le_add_right _ _))
  unfold setBits
  rw [Nat.zero_mod, Nat.zero_mul, Nat.add_zero, Nat.mul_comm, Nat.testBit_two_pow_mul_add _ hlow]
  by_cases h : i < lo + width
  · rw [if_pos h, Nat.testBit_mod_two_pow]
    by_cases h' : lo ≤ i
    · simp [h, h', Nat.not_lt.2 h']
    · simp [h', Nat.lt_of_not_le h']
  · rw [if_neg h, Nat.testBit_div_two_pow, Nat.sub_add_cancel (Nat.le_of_not_lt h)]
    simp [h]

/-- Of a register with a field cleared, a bit is set only if it was and lies outside the field. -/
theorem State.testBit_rd_put_zero {s : State} {r : FieldRef} {i : Nat} (h : ((s.put r 0).rd r.off).testBit i = true) :
    (s.rd r.off).testBit i = true ∧ ¬ (r.lo ≤ i ∧ i < r.lo + r.width) := by
  unfold State.put at h
  rw [State.rd_wr_self, Nat.testBit_mod_two_pow, testBit_setBits_zero] at h
  simpa [-not_and, not_and_or] using (Bool.and_eq_true_iff.1 h).2

/-- A cleared field reads zero, whatever its width. -/
theorem State.f_put_zero_self (s : State) (r : FieldRef) : (s.put r 0).f r = 0 := by
  refine (bits_eq_zero_iff _ _ _).2 fun i hlo hi => Bool.eq_false_iff.2 fun hbit => ?_
  exact (State.testBit_rd_put_zero hbit).2 ⟨hlo, hi⟩

/-- A field that reads zero still does once another is cleared. -/
theorem State.f_put_zero_of_f_zero {s : State} (r : FieldRef) {q : FieldRef} (h : s.f q = 0) : (s.put r 0).f q = 0 := by
  by_cases ho : q.off = r.off
  · refine (bits_eq_zero_iff _ _ _).2 fun i hlo hi => Bool.eq_false_iff.2 fun hbit => ?_
    rw [ho] at hbit
    have hset := (State.testBit_rd_put_zero hbit).1
    rw [← ho, (bits_eq_zero_iff _ _ _).1 h i hlo hi] at hset
    cases hset
  · exact (State.f_put_ne s 0 ho).trans h

/-! ### The RC fields of a register -/

/-- The state with the RC fields among fs of the register at an offset cleared (R5). -/
def State.clearRc (s : State) (off : Nat) (fs : List FieldRow) : State :=
  fs.foldl (fun u f => if f.acc == .rc then u.put ⟨off, f.lo, f.width⟩ 0 else u) s

theorem State.clearRc_cons_rc {s : State} {off : Nat} {f : FieldRow} {fs : List FieldRow} (h : f.acc = .rc) :
    s.clearRc off (f :: fs) = (s.put ⟨off, f.lo, f.width⟩ 0).clearRc off fs := by
  unfold State.clearRc
  rw [List.foldl_cons, if_pos (by rw [h]; rfl)]

theorem State.clearRc_cons_ne {s : State} {off : Nat} {f : FieldRow} {fs : List FieldRow} (h : f.acc ≠ .rc) :
    s.clearRc off (f :: fs) = s.clearRc off fs := by
  unfold State.clearRc
  rw [List.foldl_cons, if_neg (by simpa using h)]

theorem State.clearRc_onlyRegs (s : State) (off : Nat) (fs : List FieldRow) : s.OnlyRegs (s.clearRc off fs) [off] := by
  refine .foldl fs (fun u f hu => ?_) (.refl s _)
  split
  · exact hu.put 0 (List.mem_singleton_self off)
  · exact hu

/-- A register with no RC field is not changed. -/
theorem State.clearRc_of_no_rc (s : State) (off : Nat) {fs : List FieldRow} (h : ∀ f ∈ fs, f.acc ≠ .rc) :
    s.clearRc off fs = s := by
  induction fs with
  | nil => rfl
  | cons f fs ih =>
    rw [State.clearRc_cons_ne (h f (.head _))]
    exact ih fun g hg => h g (.tail _ hg)

/-- A field that reads zero still does once RC fields are cleared. -/
theorem State.clearRc_f_of_f_zero {s : State} (off : Nat) (fs : List FieldRow) {q : FieldRef} (h : s.f q = 0) :
    (s.clearRc off fs).f q = 0 := by
  induction fs generalizing s with
  | nil => exact h
  | cons f fs ih =>
    by_cases hf : f.acc = .rc
    · rw [State.clearRc_cons_rc hf]
      exact ih (State.f_put_zero_of_f_zero _ h)
    · rw [State.clearRc_cons_ne hf]
      exact ih h

/-- Every RC field cleared reads zero. -/
theorem State.clearRc_f_rc (s : State) (off : Nat) {fs : List FieldRow} {f : FieldRow} (hm : f ∈ fs) (hf : f.acc = .rc) :
    (s.clearRc off fs).f ⟨off, f.lo, f.width⟩ = 0 := by
  induction hm generalizing s with
  | head fs =>
    rw [State.clearRc_cons_rc hf]
    exact State.clearRc_f_of_f_zero off fs (State.f_put_zero_self _ _)
  | @tail g fs _ ih =>
    by_cases hg : g.acc = .rc
    · rw [State.clearRc_cons_rc hg]
      exact ih _
    · rw [State.clearRc_cons_ne hg]
      exact ih _

/-! ### Reads -/

theorem exec_readClear {s : State} (h : s.Live) (off : BitVec 24) : exec (.readClear off) s = .next (readClear off.toNat s) :=
  State.unlessReset_live _ h

/-- Returning a value changes nothing but the model's own readData. -/
theorem State.setReadData_frame (s : State) (v : Word64) :
    s.SameHbm (s.setReadData v) ∧ (s.setReadData v).comp = s.comp ∧ (s.setReadData v).ctl = s.ctl ∧
      (s.setReadData v).fuses = s.fuses ∧ (s.setReadData v).regs = s.regs := ⟨⟨rfl, rfl⟩, rfl, rfl, rfl, rfl⟩

theorem readClear_unassigned {s : State} {off : Nat} (hl : isLog off = false) (hr : regAt off = none) :
    readClear off s = s.setReadData 0 := by
  simp [readClear, State.readValue, State.readEffect, hl, hr]

theorem readClear_register {s : State} {off : Nat} {r : RegRow} (hl : isLog off = false) (hr : regAt off = some r)
    (hc : r.base ≠ Reg.strmCtxWord 0) (hg : off ≠ Reg.redGroupInfo) (hd : s.deadRead off = false) :
    readClear off s = (s.clearRc off r.fields).setReadData (BitVec.ofNat 64 (s.rd off)) := by
  simp [readClear, State.readValue, State.readEffect, State.clearRc, hl, hr, hc, hg, hd]

theorem readClear_dead {s : State} {off : Nat} {r : RegRow} (hl : isLog off = false) (hr : regAt off = some r)
    (hc : r.base ≠ Reg.strmCtxWord 0) (hg : off ≠ Reg.redGroupInfo) (hd : s.deadRead off = true) :
    readClear off s = s.setReadData (BitVec.ofNat 64 (regDefault off)) := by
  simp [readClear, State.readValue, State.readEffect, hl, hr, hc, hg, hd]

theorem readClear_emptySlot {s : State} {off : Nat} (hl : isLog off = true) (hs : s.recSlot ((off - 0x400000) / 64) = none) :
    readClear off s = s.setReadData 0 := by
  simp [readClear, State.readValue, State.readEffect, State.logWord, hl, hs]

theorem readClear_heldSlot {s : State} {off : Nat} {r : EvRec} (hl : isLog off = true)
    (hs : s.recSlot ((off - 0x400000) / 64) = some r) (hb : r.sramBad = false) :
    readClear off s = s.setReadData (BitVec.ofNat 64 (fieldLE r.toBytes (8 * ((off - 0x400000) / 8 % 8)) 8)) := by
  simp [readClear, State.readValue, State.readEffect, State.logWord, hl, hs, hb]

/-- Settles O59, by the five kinds of offset a read can meet: none, a register, a register of a slot that did not start, an
empty log slot and a held one. -/
theorem aReadReturnsAndClearsOnlyItsRegister : Obligations.AReadReturnsAndClearsOnlyItsRegister := by
  unfold Obligations.AReadReturnsAndClearsOnlyItsRegister
  refine ⟨?unassigned, ?register, ?dead, ?emptySlot, ?heldSlot⟩
  case unassigned =>
    rintro s off t hlive hl hr rfl
    exact ⟨by rw [exec_readClear hlive, readClear_unassigned hl hr], s.setReadData_frame _⟩
  case register =>
    intro s off r t hlive hl hr hc hg hd ht
    replace ht : t = (s.clearRc off.toNat r.fields).setReadData (BitVec.ofNat 64 (s.rd off.toNat)) := ht
    subst ht
    obtain ⟨honly, hrest⟩ := s.clearRc_onlyRegs off.toNat r.fields
    refine ⟨by rw [exec_readClear hlive, readClear_register hl hr hc hg hd], ?_⟩
    generalize BitVec.ofNat 64 (s.rd off.toNat) = v
    refine ⟨fun f hm hf => s.clearRc_f_rc off.toNat hm hf, fun o ho => hrest o (by simpa using ho), fun h => ?_,
      ⟨(congrArg State.mem honly :), (congrArg State.poison honly :)⟩, (congrArg State.comp honly :),
      (congrArg State.ctl honly :), (congrArg State.fuses honly :)⟩
    rw [State.setReadData_regs, s.clearRc_of_no_rc off.toNat h]
  case dead =>
    rintro s off r t hlive hl hr hc hg hd rfl
    exact ⟨by rw [exec_readClear hlive, readClear_dead hl hr hc hg hd], s.setReadData_frame _⟩
  case emptySlot =>
    rintro s off k j t hlive hl rfl rfl hs rfl
    exact ⟨by rw [exec_readClear hlive, readClear_emptySlot hl hs], s.setReadData_frame _⟩
  case heldSlot =>
    rintro s off k j r t hlive hl rfl rfl hs hb rfl
    exact ⟨by rw [exec_readClear hlive, readClear_heldSlot hl hs hb], s.setReadData_frame _⟩

/-! ### Writes -/

theorem exec_registerWrite {s : State} (h : s.Live) (w : Writer) (off : BitVec 24) (v : Word64) :
    exec (.registerWrite w off v) s = .next (s.writeReg w off.toNat v.toNat) :=
  State.unlessReset_live _ h

theorem exec_unassignedAccess {s : State} (h : s.Live) (off : BitVec 24) (v : Option Word64) :
    exec (.unassignedAccess off v) s = .next (unassignedAccess off.toNat (v.map BitVec.toNat) s) :=
  State.unlessReset_live _ h

/-- A write by access codes changes that register alone. -/
theorem State.writeFields_onlyRegs (s : State) (off v : Nat) : s.OnlyRegs (s.writeFields off v) [off] := by
  unfold State.writeFields
  split
  · exact .refl s _
  · refine .foldl _ (fun u f hu => ?_) (.refl s _)
    have hput (x : Nat) : s.OnlyRegs (u.put ⟨off, f.lo, f.width⟩ x) [off] := hu.put x (List.mem_singleton_self off)
    cases hf : f.acc with
    | rw => exact hput _
    | w1c => exact hput _
    | w1s => exact hput _
    | ro => exact hu
    | wo => exact hu
    | rc => exact hu

/-- No block's route names a family outside the rows: its write is a plain one. -/
theorem State.writeReg_plain {s : State} (w : Writer) {off : Nat} (v : Nat) {r : RegRow} (hr : regAt off = some r)
    (hb : r.base ∉ rowRegs) : s.writeReg w off v = s.plainWrite w off (v % 2 ^ r.width) := by
  simp only [rowRegs, List.mem_cons, List.not_mem_nil, or_false, not_or] at hb
  unfold State.writeReg
  rw [hr]
  simp only [State.writeCtl, State.writeCompute, State.writeMiddle, State.writeLast, hb, if_false, ite_self]

theorem State.writeReg_unassigned {s : State} (w : Writer) {off : Nat} (v : Nat) (hr : regAt off = none)
    (hl : isLog off = false) : s.writeReg w off v = s.badWrite off v := by
  unfold State.writeReg
  rw [hr]
  simp [hl]

/-- A register of blocks 0x00 to 0x02 goes by their route. -/
theorem State.writeReg_ctl {s : State} (w : Writer) {off : Nat} (v : Nat) {r : RegRow} (hr : regAt off = some r)
    (ho : off < 0x30000) : s.writeReg w off v = s.writeCtl w r.base (r.index off) off (v % 2 ^ r.width) := by
  unfold State.writeReg
  rw [hr]
  exact if_pos ho

/-- A register of blocks 0x0F to 0x13 goes by their route. -/
theorem State.writeReg_last {s : State} (w : Writer) {off : Nat} (v : Nat) {r : RegRow} (hr : regAt off = some r)
    (ho : 0xF0000 ≤ off) : s.writeReg w off v = s.writeLast w r.base (r.index off) off (v % 2 ^ r.width) := by
  unfold State.writeReg
  rw [hr]
  simp only
  rw [if_neg (by omega), if_neg (by omega), if_neg (by omega)]

theorem State.writeCtl_wqTail (s : State) (w : Writer) (i off v : Nat) :
    s.writeCtl w (Reg.wqTail 0) i off v = wqTailWrite w i v s := rfl

theorem State.writeCtl_depctr (s : State) (w : Writer) (i off v : Nat) :
    s.writeCtl w (Reg.depctr 0) i off v = depctrWrite w i v s := rfl

theorem State.writeCtl_cqHead (s : State) (w : Writer) (i off v : Nat) :
    s.writeCtl w (Reg.cqHead 0) i off v = cqHeadWrite w i v s := rfl

theorem State.writeLast_bootDeltaGo (s : State) (w : Writer) (i off v : Nat) :
    s.writeLast w Reg.bootDeltaGo i off v = bootDeltaGo w (testBit v 31) s := rfl

theorem unassignedAccess_write {s : State} {off : Nat} (v : Nat) (hr : regAt off = none) (hl : isLog off = false) :
    unassignedAccess off (some v) s = s.badWrite off v := by
  simp [unassignedAccess, hr, hl]

theorem unassignedAccess_read {s : State} {off : Nat} (hr : regAt off = none) (hl : isLog off = false) :
    unassignedAccess off none s = s.setReadData 0 := by
  simp [unassignedAccess, hr, hl]

/-- Settles O60, by where the offset lies: no register, a register without a row taken or refused, the four registers whose
write is a row's, and the accesses of UNASSIGNED_OFFSET_ACCESS. -/
theorem aRegisterWriteGoesByScopeAndAccessCode : Obligations.ARegisterWriteGoesByScopeAndAccessCode := by
  unfold Obligations.ARegisterWriteGoesByScopeAndAccessCode
  refine ⟨?unassigned, ?taken, ?refused, ?wqTail, ?depctr, ?cqHead, ?deltaGo, ?accessWrite, ?accessRead⟩
  case unassigned =>
    rintro s w off v t hlive hr hl rfl
    rw [exec_registerWrite hlive, State.writeReg_unassigned w _ hr hl]
  case taken =>
    rintro s w off v r x t hlive hr hb rfl hok rfl
    obtain ⟨honly, hrest⟩ := s.writeFields_onlyRegs off.toNat (v.toNat % 2 ^ r.width)
    refine ⟨?_, fun o ho => hrest o (by simpa using ho), honly⟩
    rw [exec_registerWrite hlive, State.writeReg_plain w _ hr hb]
    exact congrArg _ (State.regWrite_ok _ hok)
  case refused =>
    rintro s w off v r x t hlive hr hb rfl hno rfl
    refine ⟨?_, fun o ho => State.badWrite_rd s _ _ ho⟩
    rw [exec_registerWrite hlive, State.writeReg_plain w _ hr hb]
    exact congrArg _ (State.regWrite_refused _ hno)
  case wqTail =>
    rintro s w off v r t hlive hr hb ho rfl
    rw [exec_registerWrite hlive, State.writeReg_ctl w _ hr ho, hb, State.writeCtl_wqTail]
  case depctr =>
    rintro s w off v r t hlive hr hb ho rfl
    rw [exec_registerWrite hlive, State.writeReg_ctl w _ hr ho, hb, State.writeCtl_depctr]
  case cqHead =>
    rintro s w off v r t hlive hr hb ho rfl
    rw [exec_registerWrite hlive, State.writeReg_ctl w _ hr ho, hb, State.writeCtl_cqHead]
  case deltaGo =>
    rintro s w off v r t hlive hr hb ho rfl
    rw [exec_registerWrite hlive, State.writeReg_last w _ hr ho, hb, State.writeLast_bootDeltaGo]
  case accessWrite =>
    rintro s off v t hlive hr hl rfl
    refine ⟨?_, State.badWrite_mem s _ _, State.badWrite_poison s _ _⟩
    rw [exec_unassignedAccess hlive]
    exact congrArg _ (unassignedAccess_write v.toNat hr hl)
  case accessRead =>
    rintro s off t hlive hr hl rfl
    refine ⟨?_, ⟨rfl, rfl⟩, rfl, rfl⟩
    rw [exec_unassignedAccess hlive]
    exact congrArg _ (unassignedAccess_read hr hl)

end Sys2Proof.Machine
end

section
/-!
Reset, release, the pins and the lead lease: what RESET_ASSERT and REFCLK_STOP leave, what a release samples and starts, and
what the pins and an unclaimed lease change.
-/
namespace Sys2Proof.Machine

/-! ### The commands that reset does not gate, and the lease -/

theorem exec_resetAssert (resetN : Bool) (s : State) : exec (.resetAssert resetN) s = .next (resetAssert resetN s) := rfl

theorem exec_refclkStop (s : State) : exec .refclkStop s = .next (refclkStop s) := rfl

theorem exec_resetRelease (straps : Fin 32) (ready claims : Bool) (s : State) :
    exec (.resetRelease straps ready claims) s = .next (resetRelease straps ready claims s) := rfl

theorem exec_sdrefLoss (cantle : Bool) (s : State) : exec (.sdrefLoss cantle) s = .next (sdrefLoss cantle s) := rfl

theorem exec_jtagInstruction (i : Fin 6) (s : State) : exec (.jtagInstruction i) s = .next (jtagInstruction i s) := rfl

theorem exec_leaseGrantTimeout {s : State} (h : s.Live) : exec .leaseGrantTimeout s = .next (leaseGrantTimeout s) :=
  State.unlessReset_live _ h

/-- Any component but HBM and its poison, the contract's state and the compute units: what release and the lease stay within. -/
abbrev Touch.aroundTheWork : Nat := 0x7FBF8F

theorem Ext.sparesTheWork {M : Nat} {s t : State} (h : Ext M s t) (hM : Within M Touch.aroundTheWork) :
    s.SameHbm t ∧ t.ctl = s.ctl ∧ t.comp = s.comp := by
  have g : Ext Touch.aroundTheWork s t := h.mono hM
  exact ⟨⟨g.mem rfl, g.poison rfl⟩, g.ctl rfl, g.comp rfl⟩

/-! ### What a reset leaves (R408) -/

/-- t is s after a reset: units, memory, clock and registers as State.reset has them, and of s only what outlives a reset. -/
structure State.ResetTo (s t : State) : Prop where
  units : t.mem = [] ∧ t.poison = [] ∧ t.comp = State.reset.comp ∧ t.ctl = State.reset.ctl ∧ t.strm = State.reset.strm ∧
    t.red = State.reset.red ∧ t.health = State.reset.health ∧ t.recorder = State.reset.recorder ∧ t.sec = State.reset.sec ∧
    t.hsm = State.reset.hsm
  clock : t.now = 0 ∧ t.readData = 0
  regs : ∀ off, off ≠ Reg.thmStatus → t.rd off = State.reset.rd off
  outlives : t.fuses = s.fuses ∧ t.boot.nor = s.cutNor.boot.nor ∧ t.snap.flash.log = s.snap.flash.log ∧
    t.keep.areas = s.keep.areas ∧ t.keep.ledger = s.keep.ledger ∧ t.power.tripWire = s.power.tripWire ∧ t.pins.inReset = true

/-- Cutting the programming of the NOR touches only the NOR and the count of free values; the rest starts from State.reset, and
only the shown trip bit is written back. -/
theorem State.resetDevice_resetTo (s : State) : s.ResetTo s.resetDevice := by
  have hcut : Ext 1026 s s.cutNor := State.cutNor_ext (by decide) (.refl _ s)
  have hsnap : s.cutNor.snap = s.snap := hcut.snap rfl
  have hkeep : s.cutNor.keep = s.keep := hcut.keep rfl
  have hpower : s.cutNor.power = s.power := hcut.power rfl
  exact
    { units := ⟨rfl, rfl, rfl, rfl, rfl, rfl, rfl, rfl, rfl, rfl⟩
      clock := ⟨rfl, rfl⟩
      regs := fun off h => State.rd_putB_ne _ _ h
      outlives := ⟨hcut.fuses rfl, rfl, congrArg (·.flash.log) hsnap, (congrArg Keep.areas hkeep :),
        (congrArg Keep.ledger hkeep :), (congrArg Power.tripWire hpower :), rfl⟩ }

/-- Of a device in reset the other pins may read anything. -/
theorem State.ResetTo.setPins {s t : State} (h : s.ResetTo t) {x : Pins} (hx : x.inReset = true) : s.ResetTo (t.setPins x) := by
  obtain ⟨hfuses, hnor, hlog, hareas, hledger, htrip, -⟩ := h.outlives
  exact ⟨h.units, h.clock, h.regs, hfuses, hnor, hlog, hareas, hledger, htrip, hx⟩

theorem State.resetDevice_inReset (s : State) : s.resetDevice.pins.inReset = true := rfl

theorem refclkStop_running {s : State} (h : s.pins.inReset = false) :
    refclkStop s = s.resetDevice.setPins { s.resetDevice.pins with refclk := false } := by
  simp [refclkStop, h]

/-! ### Release (R408, R367, R380) -/

/-- Out of reset: the clock at 0, the straps and the fuses shown, and the ROM's digest in measurement 0. -/
def State.sampled (s : State) (straps : Nat) : State :=
  (((((s.setNow 0).setPins { s.pins with inReset := false, resetLow := false, jtag := jtagEffect false s.pins.jtag }).wr
    Reg.bootStraps (straps % 32)).put Fld.lnkNodeId_position (straps % 8)).showFuses).extend 0 s.fuses.romDigest

/-- A fresh command nonce. -/
def State.drawNonce (u : State) : State := u.random.1.wr Reg.secCmdNonce u.random.2

/-- What follows the setting of the pins writes registers and draws a free value. -/
theorem State.sampled_drawNonce_inReset (s : State) (straps : Nat) : (s.sampled straps).drawNonce.pins.inReset = false := by
  have hext : Ext 6 ((s.setNow 0).setPins { s.pins with inReset := false, resetLow := false, jtag := jtagEffect false s.pins.jtag })
      (s.sampled straps).drawNonce :=
    State.wr_ext (by decide) (State.random_ext (by decide) (State.extend_ext (by decide) (State.showFuses_ext (by decide)
      (State.put_ext (by decide) (State.wr_ext (by decide) (.refl _ _))))))
  exact congrArg Pins.inReset (hext.pins rfl)

theorem State.setStage_pins (s : State) (n : Nat) : (s.setStage n).pins = s.pins := State.put_pins _ _ _

theorem State.setStage_stage (s : State) {n : Nat} (h : n < 16) : (s.setStage n).stage = n :=
  (State.f_put_self s n (by decide)).trans (Nat.mod_eq_of_lt h)

theorem State.leadStarts_pins (s : State) (lead : Nat) : (s.leadStarts lead).pins = s.pins :=
  (State.leadStarts_ext (M₀ := 1028) (by decide) (.refl _ s)).pins rfl

/-- The lead holds the lease whether its ROM starts in recovery or not. -/
theorem State.leadStarts_leadClaimed (s : State) (lead : Nat) : (s.leadStarts lead).boot.leadClaimed = true := by
  unfold State.leadStarts
  extract_lets t
  split
  · rfl
  · rfl

/-- Outside its conditions a release does nothing (R408, R409, R412). -/
theorem resetRelease_of_not_ready {s : State} (straps : Nat) {ready : Bool} (claims : Bool)
    (h : s.pins.inReset = false ∨ ready = false ∨ s.power.tripWire = true ∨ s.pins.refclk = false) :
    resetRelease straps ready claims s = s := if_pos h

section
variable {s : State} (hheld : s.pins.inReset = true) (htrip : s.power.tripWire = false) (hclk : s.pins.refclk = true)
include hheld htrip hclk

/-- Under its conditions it samples, draws a nonce, and starts the boot ROM unless the test strap is set. -/
theorem resetRelease_of_ready (straps : Nat) (claims : Bool) :
    resetRelease straps true claims s =
      if testBit straps 4 then (s.sampled straps).drawNonce
      else if claims then ((s.sampled straps).drawNonce.setStage 1).leadStarts 0 else (s.sampled straps).drawNonce.setStage 1 :=
  if_neg (by simp [hheld, htrip, hclk])

theorem resetRelease_testStrap {straps : Nat} (claims : Bool) (h : testBit straps 4 = true) :
    resetRelease straps true claims s = (s.sampled straps).drawNonce := by
  rw [resetRelease_of_ready hheld htrip hclk, if_pos h]

theorem resetRelease_unclaimed {straps : Nat} (h : testBit straps 4 = false) :
    resetRelease straps true false s = (s.sampled straps).drawNonce.setStage 1 := by
  rw [resetRelease_of_ready hheld htrip hclk, if_neg (by simp [h]), if_neg Bool.false_ne_true]

theorem resetRelease_claimed {straps : Nat} (h : testBit straps 4 = false) :
    resetRelease straps true true s = ((s.sampled straps).drawNonce.setStage 1).leadStarts 0 := by
  rw [resetRelease_of_ready hheld htrip hclk, if_neg (by simp [h]), if_pos rfl]

end

theorem resetRelease_sparesTheWork (straps : Nat) (ready claims : Bool) (s : State) :
    s.SameHbm (resetRelease straps ready claims s) ∧ (resetRelease straps ready claims s).ctl = s.ctl ∧
      (resetRelease straps ready claims s).comp = s.comp :=
  (resetRelease_ext (M₀ := 2098183) (by decide) (.refl _ s)).sparesTheWork (by decide)

/-! ### The test access port and the lease (R415, R367) -/

/-- EXTEST and its kin are BYPASS unless RESET_N is low. -/
theorem jtagEffect_bypass {i : Nat} (h : 3 ≤ i) : jtagEffect false i = 0 := if_pos ⟨h, rfl⟩

theorem jtagEffect_self {resetLow : Bool} {i : Nat} (h : i < 3 ∨ resetLow = true) : jtagEffect resetLow i = i :=
  if_neg fun ⟨hi, hlow⟩ => h.elim (Nat.not_lt.2 hi) (by simp [hlow])

theorem leaseGrantTimeout_lapsed {s : State} (hstage : s.stage = 1) (hlead : s.boot.leadClaimed = false) (hnow : 4750000 ≤ s.now) :
    leaseGrantTimeout s = (s.setBoot { s.boot with cppRefused := true }).leadStarts 1 :=
  if_neg (by simp [hstage, hlead, hnow])

theorem leaseGrantTimeout_sparesTheWork (s : State) :
    s.SameHbm (leaseGrantTimeout s) ∧ (leaseGrantTimeout s).ctl = s.ctl ∧ (leaseGrantTimeout s).comp = s.comp :=
  (leaseGrantTimeout_ext (M₀ := 1028) (by decide) (.refl _ s)).sparesTheWork (by decide)

/-- Lanes that lose their reference stop no work (R412). -/
theorem sdrefLoss_comp (cantle : Bool) (s : State) : (sdrefLoss cantle s).comp = s.comp :=
  (sdrefLoss_ext (M₀ := 2327030) (by decide) (.refl _ s)).comp rfl

/-- Settles O49, by its clauses: the three resets leave State.resetDevice but for pins, a release runs as far as the straps and
the claim take it, and the pins and the lease change what their rows name. -/
theorem resetReleasePinsAndTheLease : Obligations.ResetReleasePinsAndTheLease := by
  unfold Obligations.ResetReleasePinsAndTheLease
  refine ⟨?pwrgood, ?resetN, ?refclk, ?testStrap, ?unclaimed, ?claimed, ?notReady, ?sdref, ?jtag, ?lease⟩
  case pwrgood =>
    rintro s t rfl
    obtain ⟨hunits, hclock, hregs, houtlives⟩ := s.resetDevice_resetTo
    exact ⟨exec_resetAssert false s, hunits, hclock, hregs, houtlives⟩
  case resetN =>
    rintro s t rfl
    obtain ⟨hunits, hclock, hregs, houtlives⟩ := s.resetDevice_resetTo.setPins
      (x := { s.resetDevice.pins with resetLow := true, refclk := true }) s.resetDevice_inReset
    exact ⟨exec_resetAssert true s, hunits, hclock, hregs, houtlives, rfl⟩
  case refclk =>
    rintro s t hrun rfl
    obtain ⟨hunits, hclock, hregs, houtlives⟩ := s.resetDevice_resetTo.setPins
      (x := { s.resetDevice.pins with refclk := false }) s.resetDevice_inReset
    exact ⟨by rw [exec_refclkStop, refclkStop_running hrun], hunits, hclock, hregs, houtlives, rfl⟩
  case testStrap =>
    intro s straps claims u t hheld htrip hclk hu hstrap ht
    obtain rfl : u = s.sampled straps := hu
    obtain rfl : t = (s.sampled straps).drawNonce := ht
    have hrel := resetRelease_testStrap hheld htrip hclk claims hstrap
    exact ⟨by rw [exec_resetRelease, hrel], s.sampled_drawNonce_inReset straps, hrel ▸ resetRelease_sparesTheWork _ _ _ s⟩
  case unclaimed =>
    intro s straps u t hheld htrip hclk hu hstrap ht
    obtain rfl : u = s.sampled straps := hu
    obtain rfl : t = (s.sampled straps).drawNonce.setStage 1 := ht
    have hrel := resetRelease_unclaimed hheld htrip hclk hstrap
    refine ⟨by rw [exec_resetRelease, hrel], State.setStage_stage _ (by decide), ?_, hrel ▸ resetRelease_sparesTheWork _ _ _ s⟩
    rw [State.setStage_pins]
    exact s.sampled_drawNonce_inReset straps
  case claimed =>
    intro s straps u t hheld htrip hclk hu hstrap ht
    obtain rfl : u = s.sampled straps := hu
    obtain rfl : t = ((s.sampled straps).drawNonce.setStage 1).leadStarts 0 := ht
    have hrel := resetRelease_claimed hheld htrip hclk hstrap
    refine ⟨by rw [exec_resetRelease, hrel], ?_, State.leadStarts_leadClaimed _ 0, hrel ▸ resetRelease_sparesTheWork _ _ _ s⟩
    rw [State.leadStarts_pins, State.setStage_pins]
    exact s.sampled_drawNonce_inReset straps
  case notReady =>
    rintro s straps ready claims t h rfl
    rw [exec_resetRelease, resetRelease_of_not_ready _ _ h]
  case sdref =>
    rintro s cantle u t rfl ht
    have hloss : sdrefLoss cantle s = t := ht.symm
    exact ⟨by rw [exec_sdrefLoss, hloss], hloss ▸ sdrefLoss_comp cantle s⟩
  case jtag =>
    rintro s i t rfl
    refine ⟨exec_jtagInstruction i s, fun hi hhigh => ?_, fun h => jtagEffect_self h, ⟨rfl, rfl⟩, rfl, rfl, rfl⟩
    rw [State.setPins_pins, hhigh]
    exact jtagEffect_bypass hi
  case lease =>
    rintro s t hlive hstage hlead hnow rfl
    rw [exec_leaseGrantTimeout hlive, ← leaseGrantTimeout_lapsed hstage hlead hnow]
    exact ⟨rfl, leaseGrantTimeout_sparesTheWork s⟩

end Sys2Proof.Machine
end

section
/-!
The queue registers, the counters, the seed and replay: what each write does once its register accepts it.
-/
namespace Sys2Proof.Machine

/-! ### Doorbells (R20, R29, R41) -/

/-- Out of reset a gated command answers what its meaning gives. -/
theorem State.Live.runs {s t : State} {f : State → State} (h : s.Live) (hf : f s = t) : State.unlessReset s f = .next t :=
  (State.unlessReset_live f h).trans (congrArg _ hf)

section
variable {s : State} {w : Writer} {n v : Nat}

/-- A tail within the ring's size of the head and not behind the old tail is taken (R20). -/
theorem wqTailWrite_within (h : s.Accepts w (Reg.wqTail n) v)
    (hsize : (2 ^ 32 + v - s.rd (Reg.wqHead n)) % 2 ^ 32 ≤ 2 ^ s.f (Fld.wqCfg_size_log2 n))
    (hold : (2 ^ 32 + s.rd (Reg.wqTail n) - s.rd (Reg.wqHead n)) % 2 ^ 32 ≤ (2 ^ 32 + v - s.rd (Reg.wqHead n)) % 2 ^ 32) :
    wqTailWrite w n v s = s.wr (Reg.wqTail n) (v % 2 ^ 32) :=
  (State.regWrite_ok _ h).trans (if_neg (not_or.2 ⟨Nat.not_lt.2 hsize, Nat.not_lt.2 hold⟩))

/-- Any other tail is ignored, with tail_bad and the event (R20). -/
theorem wqTailWrite_outside (h : s.Accepts w (Reg.wqTail n) v)
    (hout : 2 ^ s.f (Fld.wqCfg_size_log2 n) < (2 ^ 32 + v - s.rd (Reg.wqHead n)) % 2 ^ 32 ∨
      (2 ^ 32 + v - s.rd (Reg.wqHead n)) % 2 ^ 32 < (2 ^ 32 + s.rd (Reg.wqTail n) - s.rd (Reg.wqHead n)) % 2 ^ 32) :
    wqTailWrite w n v s = (s.put (Fld.wqStat_tail_bad n) 1).badWrite (Reg.wqTail n) v :=
  (State.regWrite_ok _ h).trans (if_pos hout)

theorem cqHeadWrite_accepted (h : s.Accepts w (Reg.cqHead n) v) :
    cqHeadWrite w n v s = (State.drainCq (s.cq n).held.length (s.wr (Reg.cqHead n) (v % 2 ^ 32)) n).settle :=
  State.regWrite_ok _ h

theorem depctrWrite_accepted (h : s.Accepts w (Reg.depctr n) v) :
    depctrWrite w n v s = (s.wr (Reg.depctr n) (v % 2 ^ 32)).wake :=
  State.regWrite_ok _ h

end

/-- A 32-bit value written to a register is what it then reads. -/
theorem State.rd_wr_word32 (s : State) (off : Nat) (v : Word32) : (s.wr off (v.toNat % 2 ^ 32)).rd off = v.toNat := by
  have hv := v.isLt
  rw [State.rd_wr_self]
  omega

theorem State.wr_onlyRegs (s : State) (off v : Nat) : s.OnlyRegs (s.wr off v) [off] :=
  (State.OnlyRegs.refl s [off]).wr v (List.mem_singleton_self off)

/-- Settles O12: an accepted doorbell writes its register, and only a tail outside the ring leaves it for tail_bad. -/
theorem queueDoorbells : Obligations.QueueDoorbells := by
  unfold Obligations.QueueDoorbells
  refine ⟨?tailWithin, ?tailOutside, ?head, ?counter⟩
  case tailWithin =>
    intro s w n v hl ha hsize hold
    exact ⟨_, hl.runs (wqTailWrite_within ha hsize hold), s.rd_wr_word32 _ v, s.wr_onlyRegs _ _⟩
  case tailOutside =>
    intro s w n v hl ha hout
    refine ⟨_, hl.runs (wqTailWrite_outside ha hout), ?_, ?_, rfl⟩
    · have hn := n.isLt
      rw [State.badWrite_rd _ _ _ (by simp only [Reg.wqTail, Reg.evrecLost]; omega)]
      exact State.rd_put_ne _ _ (by simp only [Reg.wqTail, Fld.wqStat_tail_bad, Reg.wqStat]; omega)
    · have hn := n.isLt
      rw [State.badWrite_f _ _ _ (by simp only [Fld.wqStat_tail_bad, Reg.wqStat, Reg.evrecLost]; omega)]
      exact State.f_put_self s 1 (by simp only [Fld.wqStat_tail_bad]; decide)
  case head =>
    intro s w n v hl ha
    exact ⟨s.wr (Reg.cqHead n) (v.toNat % 2 ^ 32), s.rd_wr_word32 _ v, s.wr_onlyRegs _ _, rfl,
      hl.runs (cqHeadWrite_accepted ha)⟩
  case counter =>
    intro s w n v hl ha
    exact ⟨s.wr (Reg.depctr n) (v.toNat % 2 ^ 32), s.rd_wr_word32 _ v, s.wr_onlyRegs _ _, hl.runs (depctrWrite_accepted ha)⟩

/-! ### Queue configuration, the seed and replay (R40, R41, R45, R202, R205) -/

section
variable {s : State} {w : Writer} {n v : Nat}

theorem wqBaseWrite_accepted (h : s.Accepts w (Reg.wqBase n) v) :
    wqBaseWrite w n v s =
      if s.flag (Fld.wqCfg_enable n) then s.badWrite (Reg.wqBase n) v else s.writeFields (Reg.wqBase n) v :=
  State.regWrite_ok _ h

/-- A work queue is enabled from disabled, in a partition that has started, over a ring that the partition owns (R45). -/
theorem wqEnable_accepted (h : s.Accepts w (Reg.wqCfg n) (v / 2 * 2 + 1)) :
    wqEnable w n v s =
      if s.flag (Fld.wqCfg_enable n) = false ∧ (s.part (s.wqPart n)).started = true ∧
          s.ownsRange (s.wqPart n) (s.rd (Reg.wqBase n)) (128 * 2 ^ bits (v / 2 * 2 + 1) 4 5) = true then
        s.writeFields (Reg.wqCfg n) (v / 2 * 2 + 1)
      else s.badWrite (Reg.wqCfg n) (v / 2 * 2 + 1) := by
  unfold wqEnable
  rw [State.regWrite_ok _ h]
  cases s.flag (Fld.wqCfg_enable n)
  · cases (s.part (s.wqPart n)).started
    · rfl
    · cases s.ownsRange (s.wqPart n) (s.rd (Reg.wqBase n)) (128 * 2 ^ bits (v / 2 * 2 + 1) 4 5)
      · rfl
      · rfl
  · rfl

theorem wqDisable_accepted (h : s.Accepts w (Reg.wqCfg n) (v / 2 * 2)) :
    wqDisable w n v s = s.writeFields (Reg.wqCfg n) (v / 2 * 2) := by
  unfold wqDisable
  exact State.regWrite_ok _ h

/-- The queue a completion or notice queue becomes once enabled: its fields written, producer index and head at 0 (R40, R41). -/
def State.cqRestarted (s : State) (n v : Nat) : State :=
  ((s.writeFields (cqCfgOff n) v).setCq n { s.cq n with prod := 0 }).put (cqHeadF n) 0

theorem cqEnable_disabled (h : s.Accepts w (cqCfgOff n) (setBits v 24 1 1)) (hd : s.flag (cqEnabledF n) = false)
    {t : State} (ht : t = s.cqRestarted n (setBits v 24 1 1)) :
    cqEnable w n v s =
      (State.drainNotices (t.cq n).notices.length (State.drainCq (t.cq n).held.length t n) n).settle := by
  subst ht
  unfold cqEnable
  rw [State.regWrite_ok _ h, hd]
  rfl

theorem cqDisable_accepted (h : s.Accepts w (cqCfgOff n) (setBits v 24 1 0)) :
    cqDisable w n v s = s.writeFields (cqCfgOff n) (setBits v 24 1 0) := by
  unfold cqDisable
  exact State.regWrite_ok _ h

theorem rngSeedWrite_accepted (h : s.Accepts w (Reg.rngSeed n) v) :
    rngSeedWrite w n v s =
      if s.inFlight.any (fun e => s.opPart e.2 == n) then s.badWrite (Reg.rngSeed n) v else s.wr (Reg.rngSeed n) v :=
  State.regWrite_ok _ h

/-- The state in which a partition replays a record (R202, R203). -/
def State.replaying (s : State) (n v : Nat) (r : Replay) : State :=
  (((s.freshStep n r.step).setPart n { s.part n with replay := some r }).ringReplay n (some r)).writeFields (Reg.replay n) v

theorem replayEnable_recordRead {r : Replay} (h : s.Accepts w (Reg.replay n) v)
    (hidle : s.inFlight.any (fun e => s.opPart e.2 == n) = false) (hset : bits v 0 1 = 1)
    (hread : s.readRecord n (v / 256 * 256) (bits v 1 1 == 1) = .ok r) :
    replayEnable w n v s = s.replaying n v r := by
  refine (State.regWrite_ok _ h).trans ?_
  simp [hidle, hset, hread, State.replaying]

end

theorem State.writeFields_ctl (s : State) (off v : Nat) : (s.writeFields off v).ctl = s.ctl :=
  (State.writeFields_ext (M₀ := 4) (by decide) (.refl _ s)).ctl rfl

theorem State.writeFields_mem (s : State) (off v : Nat) : (s.writeFields off v).mem = s.mem :=
  (State.writeFields_ext (M₀ := 4) (by decide) (.refl _ s)).mem rfl

theorem State.writeFields_cq (s : State) (off v k : Nat) : (s.writeFields off v).cq k = s.cq k := by
  unfold State.cq
  rw [State.writeFields_ctl]

theorem State.cqRestarted_head (s : State) (n v : Nat) : (s.cqRestarted n v).f (cqHeadF n) = 0 :=
  State.f_put_zero_self _ _

theorem State.cqRestarted_cq (s : State) (n v : Nat) : (s.cqRestarted n v).cq n = { s.cq n with prod := 0 } :=
  State.setCq_cq _ _ _

theorem State.cqRestarted_mem (s : State) (n v : Nat) : (s.cqRestarted n v).mem = s.mem :=
  s.writeFields_mem _ _

/-- Replay sets up the partition's own state and the groups' recorded tables; the operation table stays. -/
theorem State.replaying_ctl (s : State) (n v : Nat) (r : Replay) :
    (s.replaying n v r).ctl = (s.setPart n { s.part n with replay := some r }).ctl := by
  have hfresh : (s.freshStep n r.step).ctl = s.ctl := (State.freshStep_ext (M₀ := 167936) (by decide) (.refl _ s)).ctl rfl
  unfold State.replaying
  rw [State.writeFields_ctl, (State.ringReplay_ext (M₀ := 131072) (by decide) (.refl _ _)).ctl rfl]
  unfold State.setPart
  rw [hfresh]

theorem State.replaying_part (s : State) (n v : Nat) (r : Replay) : ((s.replaying n v r).part n).replay = some r := by
  unfold State.part
  rw [State.replaying_ctl]
  exact congrArg PartState.replay (State.setPart_part s n _)

/-- Replay touches the contract's state, streams, step notes, groups and registers, and nothing else of the device. -/
theorem State.replaying_ext (s : State) (n v : Nat) (r : Replay) : Ext 168004 s (s.replaying n v r) :=
  State.writeFields_ext (by decide) (State.ringReplay_ext (by decide) (State.setPart_ext (by decide)
    (State.freshStep_ext (by decide) (.refl _ s))))

/-- Settles O13: each guard that holds takes the write, and each that fails leaves its event. -/
theorem queueConfigurationWrites : Obligations.QueueConfigurationWrites := by
  unfold Obligations.QueueConfigurationWrites
  refine ⟨?base, ?wqEnable, ?wqDisable, ?cqEnable, ?cqDisable, ?seed, ?replay⟩
  case base =>
    intro s w n v hl ha
    exact hl.runs (wqBaseWrite_accepted ha)
  case wqEnable =>
    intro s w n v hl ha
    exact hl.runs (wqEnable_accepted ha)
  case wqDisable =>
    intro s w n v hl ha
    exact hl.runs (wqDisable_accepted ha)
  case cqEnable =>
    intro s w n v hl ha hd
    refine ⟨s.cqRestarted n (setBits v.toNat 24 1 1), State.cqRestarted_head s _ _, ?_, ?_, State.cqRestarted_mem s _ _, ?_⟩
    · rw [State.cqRestarted_cq]
    · rw [State.cqRestarted_cq, State.writeFields_cq]
    · exact hl.runs (cqEnable_disabled ha hd rfl)
  case cqDisable =>
    intro s w n v hl ha
    exact hl.runs (cqDisable_accepted ha)
  case seed =>
    intro s w n v hl ha
    exact hl.runs (rngSeedWrite_accepted ha)
  case replay =>
    intro s w n v r hl ha hidle hset hread
    have hext := s.replaying_ext n v.toNat r
    refine ⟨s.replaying n v.toNat r, hl.runs (replayEnable_recordRead ha hidle hset hread), s.replaying_part _ _ r, hext.mem rfl, ?_, hext.fuses rfl, hext.pins rfl⟩
    rw [State.replaying_ctl]
    rfl

end Sys2Proof.Machine
end

section
/-!
Admission: where the next item comes from, what entering the operation table leaves in the slot, and the step an item is
stamped with.
-/
namespace Sys2Proof.Machine

/-! ### The next item (R20, R21, R195, R427) -/

/-- Where the item at the head of a work queue lies (R20). -/
def State.headAddr (s : State) (n : Nat) : Nat :=
  s.rd (Reg.wqBase n) + 128 * (s.rd (Reg.wqHead n) % 2 ^ s.f (Fld.wqCfg_size_log2 n))

/-- The head of queue n one further, and the turn of partition p with it (R20, R21). -/
def State.headTaken (s : State) (p n : Nat) : State :=
  (s.wr (Reg.wqHead n) ((s.rd (Reg.wqHead n) + 1) % 2 ^ 32)).setPart p { s.part p with rr := n }

theorem State.headTaken_head (s : State) (p n : Nat) :
    (s.headTaken p n).rd (Reg.wqHead n) = (s.rd (Reg.wqHead n) + 1) % 2 ^ 32 := by
  unfold State.headTaken
  rw [State.setPart_rd, State.rd_wr_self]
  omega

theorem State.headTaken_turn (s : State) (p n : Nat) : ((s.headTaken p n).part p).rr = n :=
  congrArg PartState.rr (State.setPart_part _ p _)

theorem State.headTaken_mem (s : State) (p n : Nat) : (s.headTaken p n).mem = s.mem := rfl

theorem State.headTaken_ops (s : State) (p n : Nat) : (s.headTaken p n).ctl.ops = s.ctl.ops := rfl

section
variable {s : State} {p slot : Nat} (hserves : s.serving = true) (hstarted : (s.part p).started = true)
  (hruns : (s.part p).paused = false) (hfree : s.op slot = none)
include hserves hstarted hruns hfree

/-- With no widen list waiting, the head of the next queue in turn is taken (R21). -/
theorem admitItem_head {n : Nat} (hlist : s.nextList p = none) (hq : (s.stallSlots p).nextQueue p = some n) :
    admitItem p slot s = ((s.stallSlots p).headTaken p n).admitNo p slot n ((s.stallSlots p).rd (Reg.wqHead n))
      ((s.stallSlots p).headAddr n) none := by
  unfold admitItem
  rw [if_neg (by simp [hserves, hstarted, hruns, hfree]), hlist]
  simp only [hq]
  rfl

/-- A widen list that waits goes first, in a slot that its queue may use (R195). -/
theorem admitItem_list {k a : Nat} {x : LadInst} {rest : List Nat} (hlist : s.nextList p = some (k, x))
    (hx : x.toAdmit = a :: rest) (hslot : s.slotFor x.wq = true) :
    admitItem p slot s = ((s.setInst k (some { x with toAdmit := rest })).useFresh 1).admitNo p slot x.wq
      ((Config.freeWord s.fresh).toNat % 2 ^ 32) a (some k) := by
  unfold admitItem
  rw [if_neg (by simp [hserves, hstarted, hruns, hfree]), hlist]
  simp only [hx]
  rw [if_neg (by simp [hslot])]

end

/-- A ring item that reads poisoned is refused with HW_FAULT and the generic CTL notice (R427). -/
theorem State.admitNo_poisoned {s : State} (p slot wq index : Nat) {addr : Nat} (h : s.poisoned addr 128 = true) :
    s.admitNo p slot wq index addr none =
      (s.put (Fld.wqStat_refused wq) 1).genericNotice Blk.ctl p addr index Res.hwFault :=
  if_pos h

/-- Settles O14: the guards of ADMIT_ITEM hold, so it takes the head of the next queue or the front of the waiting list. -/
theorem admissionTakesTheNextItem : Obligations.AdmissionTakesTheNextItem := by
  unfold Obligations.AdmissionTakesTheNextItem
  refine ⟨?head, ?list, ?poisoned⟩
  case head =>
    intro s p slot n hl hserves hstarted hruns hfree hlist hq
    have hstall : Ext 4 s (s.stallSlots p) := State.stallSlots_ext (by decide) (.refl _ s)
    refine ⟨(s.stallSlots p).headTaken p n, State.headTaken_head _ _ _, State.headTaken_turn _ _ _, ?_, ?_, ?_⟩
    · rw [State.headTaken_mem, hstall.mem rfl]
    · rw [State.headTaken_ops, hstall.ctl rfl]
    · exact hl.runs (admitItem_head hserves hstarted hruns hfree hlist hq)
  case list =>
    intro s p slot k a x rest hl hserves hstarted hruns hfree hlist hx hslot
    exact hl.runs (admitItem_list hserves hstarted hruns hfree hlist hx hslot)
  case poisoned =>
    intro s p slot wq index addr h
    exact State.admitNo_poisoned p slot wq index h

/-! ### Entering the operation table (R30, R35, R133) -/

/-- A step fence that enters moves the partition's step and touches no item. -/
theorem State.enterStep_keepsOps (s : State) (p n stamp : Nat) (it : List Byte) : KeepsOps s (s.enterStep p n stamp it) := by
  unfold State.enterStep
  split
  · extract_lets turn u
    have hu : u.ctl.ops = s.ctl.ops := rfl
    split
    · exact .of_ops hu
    · exact .of_ops hu
  · exact .refl s

theorem State.bindCtxs_ctl (s : State) (n : Nat) (l : List (Nat × Bool)) :
    (l.foldl (fun t e => t.bindCtx n e.1) s).ctl = s.ctl :=
  (Ext.foldl (M := 4096) l (fun _ _ ht => State.bindCtx_ext (by decide) ht) (.refl _ s)).ctl rfl

/-- The operation that an item becomes as it enters, in the layer it joins. -/
def State.enterOp (s : State) (p wq index stamp : Nat) (it : List Byte) (list : Option Nat) : Op :=
  let joined := s.countAdmit.enterLayer p wq s.ctl.nextAdmit stamp it list
  s.newOp p wq index stamp it list joined.2.1 joined.2.2

/-- What enters is in its slot, and all that happens after its slot is written leaves it there. -/
theorem State.enter_op (s : State) (p slot wq index stamp : Nat) (it : List Byte) (list : Option Nat) :
    ∃ o, (s.enter p slot wq index stamp it list).op slot = some o ∧ (s.enterOp p wq index stamp it list).Same o := by
  unfold State.enter
  extract_lets n joined o placed bound counted claimed
  have hplaced : placed.op slot = some o := by
    have hctl : placed.ctl = (joined.1.setOp slot (some o)).ctl :=
      (State.tableShow_ext (M₀ := 4) (by decide) (.refl _ _)).ctl rfl
    unfold State.op
    rw [hctl]
    exact State.setOp_op joined.1 slot (some o)
  have hclaimed : claimed.ctl = counted.ctl := by
    show State.ctl (if _ then _ else _) = _
    split
    · exact (State.claimPrefetch_ext (M₀ := 4100) (by decide) (.refl _ _)).ctl rfl
    · rfl
  have hcounted : counted.ctl = bound.ctl := (State.enterAwl_ext (M₀ := 32768) (by decide) (.refl _ _)).ctl rfl
  have hbound : bound.ctl = placed.ctl := State.bindCtxs_ctl _ _ _
  have hkeeps : KeepsOps placed (claimed.enterStep p n stamp it).wake :=
    ((KeepsOps.of_ctl (hclaimed.trans (hcounted.trans hbound))).trans (State.enterStep_keepsOps _ _ _ _ _)).trans
      (State.wake_keepsOps _)
  exact (hkeeps slot).2 o hplaced

/-! ### The stamp (R35) -/

/-- An item noted in the admission log of a step, whose notes the first such item opens (R201). -/
def State.logItem (s : State) (p step wq index : Nat) (it : List Byte) : State :=
  (s.openBook p step).mapBook p step (fun b => { b with log := b.log ++ [logEntry wq index it] })

theorem State.logItem_ctl (s : State) (p step wq index : Nat) (it : List Byte) : (s.logItem p step wq index it).ctl = s.ctl :=
  (State.openBook_ext (M₀ := 32768) (by decide) (.refl _ s)).ctl rfl

/-- A ring item whose checks pass, outside replay, enters with the open step as its stamp (R35). -/
theorem State.admitNo_passes {s : State} {p wq index addr : Nat} (slot : Nat) (hclean : s.poisoned addr 128 = false)
    (hreplay : (s.part p).replay = none)
    (hcheck : (s.logItem p (s.rd (Reg.stepN p)) wq index (s.bytes addr 128)).admissionCheck p (s.bytes addr 128) none = 0) :
    s.admitNo p slot wq index addr none =
      (s.logItem p (s.rd (Reg.stepN p)) wq index (s.bytes addr 128)).enter p slot wq index (s.rd (Reg.stepN p))
        (s.bytes addr 128) none := by
  unfold State.logItem at *
  simp [State.admitNo, State.replayCheck, hclean, hreplay, hcheck]

theorem isLog_stepN (p : Fin 4) : isLog (Reg.stepN p) = false := by
  revert p
  decide

/-- CTL_STEP_n is no register of context words, and a read clears none of its fields. -/
theorem regAt_stepN (p : Fin 4) : ∃ r, regAt (Reg.stepN p) = some r ∧ r.base ≠ Reg.strmCtxWord 0 ∧ ∀ f ∈ r.fields, f.acc ≠ .rc :=
  ⟨(regAt (Reg.stepN p)).get (by revert p; decide +kernel), by simp, by revert p; decide +kernel, by revert p; decide +kernel⟩

theorem readClear_stepN {s : State} {p : Fin 4} (h : s.deadRead (Reg.stepN p) = false) :
    readClear (Reg.stepN p) s = s.setReadData (BitVec.ofNat 64 (s.rd (Reg.stepN p))) := by
  obtain ⟨r, hr, hbase, hrc⟩ := regAt_stepN p
  have hp := p.isLt
  rw [readClear_register (isLog_stepN p) hr hbase (by simp only [Reg.stepN, Reg.redGroupInfo]; omega) h,
    s.clearRc_of_no_rc _ hrc]

/-- The seed and the data position that a restore also writes are other registers than the step. -/
theorem State.rd_stepN_under_seed_and_dataPos {u : State} {p : Nat} (v seed pos : Nat) :
    (((u.wr (Reg.stepN p) v).wr (Reg.rngSeed p) seed).wr (Reg.dataPos p) pos).rd (Reg.stepN p) = v % 2 ^ 64 := by
  rw [State.rd_wr_ne _ _ (by simp only [Reg.stepN, Reg.dataPos]; omega),
    State.rd_wr_ne _ _ (by simp only [Reg.stepN, Reg.rngSeed]; omega), State.rd_wr_self]

/-- Settles O15: admission enters the item with the open step, and reads and restores go to that step's register. -/
theorem admittedItemCarriesItsStep : Obligations.AdmittedItemCarriesItsStep := by
  unfold Obligations.AdmittedItemCarriesItsStep
  refine ⟨?admitted, ?record, ?read, ?image, ?twin⟩
  case admitted =>
    intro s p slot wq index addr hclean hreplay hcheck
    rw [State.admitNo_passes slot hclean hreplay hcheck]
    obtain ⟨o, ho, hsame⟩ := State.enter_op (s.logItem p (s.rd (Reg.stepN p)) wq index (s.bytes addr 128)) p slot wq index
      (s.rd (Reg.stepN p)) (s.bytes addr 128) none
    refine ⟨o, ho, hsame.item, hsame.wq, hsame.index, hsame.stamp, ?_, hsame.listed⟩
    exact hsame.admitNo.trans (congrArg Ctl.nextAdmit (s.logItem_ctl _ _ _ _ _))
  case record => exact fun s slot o result => rfl
  case read =>
    intro s p hl hd
    have hoff : (BitVec.ofNat 24 (Reg.stepN p)).toNat = Reg.stepN p := by
      have hp := p.isLt
      rw [BitVec.toNat_ofNat]
      simp only [Reg.stepN]
      omega
    refine ⟨_, hl.runs ((congrArg (readClear · s) hoff).trans (readClear_stepN hd)), rfl, rfl⟩
  case image =>
    intro s r x hp hsource
    unfold State.restoreScalars
    rw [if_neg hsource]
    exact State.rd_stepN_under_seed_and_dataPos _ _ _
  case twin =>
    intro s r x f hp hsource hfar
    unfold State.restoreScalars
    rw [if_pos hsource, hfar]
    exact State.rd_stepN_under_seed_and_dataPos _ _ _

end Sys2Proof.Machine
end

section
/-!
The ends of items: retirement, fences and MARK, the record that frees a slot, and abort requests with their safe point.
-/
namespace Sys2Proof.Machine

/-! ### Ending an item (R28, R30, R32, R194) -/

/-- Retirement changes neither HBM nor its poison marks. -/
theorem State.retire_sameHbm (s : State) (slot r : Nat) (add : Bool) : s.SameHbm (s.retire slot r add) :=
  ⟨(s.retire_ext' slot r add).mem rfl, (s.retire_ext' slot r add).poison rfl⟩

section
variable {s : State} {slot r : Nat} {o : Op} (ho : s.op slot = some o) (hdone : o.done = some r)
  (hopen : s.opSettled slot = false) (hserves : s.serving = true)
include ho hdone hopen hserves

/-- An item of no layer whose work is done retires (R32). -/
theorem itemRetire_free (hlayer : o.layer = none) : itemRetire slot s = s.retire slot r true := by
  simp [itemRetire, ho, hdone, hopen, hserves, hlayer]

/-- One of an open layer is noted there as ended (R194). -/
theorem itemRetire_inLayer {k : Nat} {x : LadInst} (hlayer : o.layer = some k) (hx : s.inst k = some x) :
    itemRetire slot s = s.endInLayer k o r := by
  simp [itemRetire, ho, hdone, hopen, hserves, hlayer, hx]

end

/-- A fence that passes leaves its slot at once where it writes no record. -/
theorem State.passFence_op {s : State} {slot : Nat} {o : Op} (ho : s.op slot = some o) (hpost : o.isPost = false) :
    (s.passFence slot).op slot = none :=
  State.retire_op _ slot Res.ok true _ (State.issue_op ho) (.inl ⟨hpost, rfl⟩)

theorem State.passFence_mem (s : State) (slot : Nat) : (s.passFence slot).mem = s.mem :=
  (State.passFence_ext (M₀ := 315846) (by decide) (.refl _ s)).mem rfl

/-- An item of no open layer ends as a fence passes. -/
theorem State.endItem_free {s : State} {slot : Nat} {o : Op} (ho : s.op slot = some o)
    (hlayer : (o.layer.bind s.inst).isSome = false) : s.endItem slot = s.passFence slot := by
  simp [State.endItem, ho, hlayer]

/-! ### Fences and MARK (R24, R27, R36) -/

section
variable {s : State} {slot : Nat} {o : Op}

theorem fenceQueue_clear (h : s.readyFence slot 0 = some o)
    (hclear : s.inFlight.any (fun e => e.2.wq == o.wq && decide (e.2.admitNo < o.admitNo)) = false) :
    fenceQueue slot s = s.endItem slot := by
  unfold fenceQueue
  rw [h]
  exact if_neg (Bool.eq_false_iff.1 hclear)

theorem fencePartition_clear (h : s.readyFence slot 2 = some o)
    (hclear : s.inFlight.any (fun e => s.opPart e.2 == s.opPart o && decide (e.2.admitNo < o.admitNo)) = false) :
    fencePartition slot s = s.endItem slot := by
  unfold fencePartition
  rw [h]
  exact if_neg (Bool.eq_false_iff.1 hclear)

theorem fenceStepClose_clear (h : s.readyFence slot 1 = some o)
    (hclear : s.inFlight.any (fun e => s.opPart e.2 == s.opPart o &&
      ((e.2.phase == 1 && e.2.stamp == o.stamp && e.1 != slot) ||
        (e.2.opcode == 5 && e.2.b 0x20 1 == 1 && decide (e.2.admitNo < o.admitNo)))) = false) :
    fenceStepClose slot s = s.passFence slot := by
  unfold fenceStepClose
  rw [h]
  exact if_neg (Bool.eq_false_iff.1 hclear)

/-- A READY fence of a kind is a FENCE item of that kind. -/
theorem State.readyFence_kind {kind : Nat} (h : s.readyFence slot kind = some o) : o.opcode = 5 ∧ o.b 0x20 1 = kind := by
  simp only [State.readyFence, State.readyFence_op h] at h
  split at h
  · rename_i hready
    exact ⟨hready.1, hready.2.1⟩
  · cases h

end

/-- The event or notice that a MARK's options ask for (R24). -/
def State.markTold (s : State) (slot : Nat) (o : Op) : State :=
  if testBit (o.b 0x28 1) 1 then s.genericNotice Blk.ctl (s.opPart o) slot o.tag Res.ok
  else if testBit (o.b 0x28 1) 0 then s.generic Blk.ctl (some (s.opPart o)) slot o.tag Res.ok else s

theorem State.markTold_mem (s : State) (slot : Nat) (o : Op) : (s.markTold slot o).mem = s.mem := by
  unfold State.markTold
  split
  · exact State.genericNotice_mem _ _ _ _ _ _
  · split
    · exact State.generic_mem _ _ _ _ _ _
    · rfl

/-- A MARK tells what its options ask, takes its payload as detail, and ends. -/
theorem opMark_issuable {s : State} {slot : Nat} {o : Op} (h : s.issuable slot 8 = some o) :
    opMark slot s = ((s.markTold slot o).setOp slot (some { o with detail := o.b 0x20 8 })).endItem slot := by
  unfold opMark
  rw [h]
  rfl

/-! ### The record that frees a slot (R30, R36) -/

theorem State.recordWritten_leaves {s : State} {r : CplRec} {o : Op} (hcode : r.opcode ≠ 0) (ho : s.op r.slot = some o)
    (hset : s.opSettled r.slot = true) : s.recordWritten r = s.leave r.slot o := by
  simp [State.recordWritten, hcode, ho, hset]

theorem State.leave_mem (s : State) (slot : Nat) (o : Op) : (s.leave slot o).mem = s.mem :=
  (State.leave_ext (M₀ := 32836) (by decide) (.refl _ s)).mem rfl

/-- Settles O16: each row's guard holds, so the item retires, is noted, passes or leaves as its row says. -/
theorem itemsRetireAndLeaveTheirSlots : Obligations.ItemsRetireAndLeaveTheirSlots := by
  unfold Obligations.ItemsRetireAndLeaveTheirSlots
  refine ⟨?free, ?inLayer, ?queue, ?partition, ?step, ?ended, ?written, ?mark⟩
  case free =>
    intro s slot o r hl hserves ho hdone hlayer hopen
    obtain ⟨hmem, hpoison⟩ := s.retire_sameHbm slot r true
    exact ⟨_, hl.runs (itemRetire_free ho hdone hopen hserves hlayer), rfl, State.retire_op s slot r true o ho, hmem, hpoison⟩
  case inLayer =>
    intro s slot o r k x hl hserves ho hdone hlayer hx hended hopen
    obtain ⟨hinst, hkeeps, hmem⟩ := State.endInLayer_spec (r := r) hx hended
    obtain ⟨o', ho', -⟩ := (hkeeps slot).2 o ho
    exact ⟨_, _, hl.runs (itemRetire_inLayer ho hdone hopen hserves hlayer hx), hinst, rfl, by rw [ho']; rfl, hmem⟩
  case queue =>
    intro s slot o hl h hclear
    exact hl.runs (fenceQueue_clear h hclear)
  case partition =>
    intro s slot o hl h hclear
    exact hl.runs (fencePartition_clear h hclear)
  case step =>
    intro s slot o hl h hclear
    have ho := State.readyFence_op h
    obtain ⟨hfence, hkind⟩ := State.readyFence_kind h
    exact ⟨_, hl.runs (fenceStepClose_clear h hclear), rfl, s.passFence_mem slot, fun hwq hpost =>
      ⟨State.passFence_op ho hpost, State.passFence_closes ho hfence hkind hpost hwq slot.isLt⟩⟩
  case ended =>
    intro s slot o ho hlayer hpost
    rw [State.endItem_free ho hlayer]
    exact State.passFence_op ho hpost
  case written =>
    intro s r o hcode ho hset
    rw [State.recordWritten_leaves hcode ho hset]
    exact ⟨(s.leave_ops r.slot o).1, s.leave_mem r.slot o, fun hfence hkind hok => s.leave_closes r.slot o hfence hkind hok⟩
  case mark =>
    intro s slot o hl h
    exact ⟨_, _, hl.runs (opMark_issuable h), State.setOp_op _ _ _, rfl, rfl, s.markTold_mem slot o⟩

/-! ### Abort (R33, R34, R422) -/

/-- The open layer that an item belongs to can no longer rise (R195). -/
def State.spoilLayer (s : State) (o : Op) : State :=
  match o.layer with
  | some k => (match s.inst k with | some x => s.setInst k (some { x with bad := true }) | none => s)
  | none => s

/-- Spoiling a layer writes the table of open layers only. -/
theorem State.spoilLayer_frame (s : State) (o : Op) :
    (s.spoilLayer o).regs = s.regs ∧ (s.spoilLayer o).ctl = s.ctl ∧ (s.spoilLayer o).mem = s.mem := by
  unfold State.spoilLayer
  split
  · split
    · exact ⟨rfl, rfl, rfl⟩
    · exact ⟨rfl, rfl, rfl⟩
  · exact ⟨rfl, rfl, rfl⟩

section
variable {s : State} {w : Writer} {wq tag cq : Nat} (ha : s.Accepts w Reg.abortReq (wq + 2 ^ 8 * cq + 2 ^ 32 * tag))
  (hpass : (s.writerPasses w (s.wqPart wq) && s.writerPasses w (s.wqPart cq)) = true) (hheld : s.isHeld = false)
include ha hpass hheld

theorem abortReq_notFound (h : s.named wq tag = none) : abortReq w wq tag cq s = s.abortRecord wq tag cq Res.notFound := by
  unfold abortReq
  rw [State.regWrite_ok _ ha]
  simp [hpass, hheld, h]

variable {slot : Nat} {o : Op} (hnamed : s.named wq tag = some (slot, o))
include hnamed

theorem abortReq_tooLate (hset : s.opSettled slot = true) : abortReq w wq tag cq s = s.abortRecord wq tag cq Res.tooLate := by
  unfold abortReq
  rw [State.regWrite_ok _ ha]
  simp [hpass, hheld, hnamed, hset]

theorem abortReq_notAbortable (hopen : s.opSettled slot = false) (hfence : o.opcode = 5 ∧ o.b 0x20 1 = 1) :
    abortReq w wq tag cq s = s.abortRecord wq tag cq Res.notAbortable := by
  unfold abortReq
  rw [State.regWrite_ok _ ha]
  simp [hpass, hheld, hnamed, hopen, hfence]

/-- An item that may be aborted drains, settled as ABORTED, and the request is answered OK (R33). -/
theorem abortReq_drains (hopen : s.opSettled slot = false) (hother : ¬ (o.opcode = 5 ∧ o.b 0x20 1 = 1)) :
    abortReq w wq tag cq s = ((s.setStatus slot 4 Res.aborted true).spoilLayer o).abortRecord wq tag cq Res.ok := by
  unfold abortReq
  rw [State.regWrite_ok _ ha]
  simp only [hpass, hheld, hnamed, hopen, hother, Bool.not_true, Bool.or_false, Bool.false_eq_true, if_false]
  rfl

end

/-- What a DRAINING item leaves once it has stopped: its output regions hold free bytes (R34). -/
def State.drained (s : State) (slot : Nat) (o : Op) : State := o.outs.foldl (fun t r => t.storeFree r.1 r.2) (s.stopWork slot o)

theorem abortSafePoint_reached {s : State} {slot : Nat} {o : Op} (ho : s.op slot = some o) (hdraining : s.opState slot = 4)
    (hserves : s.serving = true) (hsafe : s.atSafePoint slot o = true) :
    abortSafePoint slot s = (s.drained slot o).retire slot Res.aborted false := by
  simp [abortSafePoint, State.drained, ho, hdraining, hserves, hsafe]

/-- Settles O17, by what the request finds: no item, a settled one, a step fence, or one to drain; and by the safe point. -/
theorem abortsAnswerByTheItemsState : Obligations.AbortsAnswerByTheItemsState := by
  unfold Obligations.AbortsAnswerByTheItemsState
  refine ⟨?notFound, ?tooLate, ?notAbortable, ?drains, ?safePoint⟩
  case notFound =>
    intro s w wq cq tag hl ha hpass hheld hnamed
    exact hl.runs (abortReq_notFound ha hpass hheld hnamed)
  case tooLate =>
    intro s w wq cq tag slot o hl ha hpass hheld hnamed hset
    exact hl.runs (abortReq_tooLate ha hpass hheld hnamed hset)
  case notAbortable =>
    intro s w wq cq tag slot o hl ha hpass hheld hnamed hopen hfence hkind
    exact hl.runs (abortReq_notAbortable ha hpass hheld hnamed hopen ⟨hfence, hkind⟩)
  case drains =>
    intro s w wq cq tag slot o hl ha hpass hheld hnamed hopen hother
    obtain ⟨hregs, hctl, hmem⟩ := (s.setStatus slot 4 Res.aborted true).spoilLayer_frame o
    refine ⟨_, hl.runs (abortReq_drains ha hpass hheld hnamed hopen hother), ?_, hctl, hmem⟩
    unfold State.rd
    rw [hregs]
    exact State.rd_wr_self s (Reg.opstat slot) _
  case safePoint =>
    intro s slot o hl ho hdraining hserves hsafe
    exact ⟨s.drained slot o, hl.runs (abortSafePoint_reached ho hdraining hserves hsafe),
      fun o' ho' hcq => State.retire_op _ slot Res.aborted false o' ho' (.inr hcq), rfl⟩

end Sys2Proof.Machine
end

section
/-!
The issue of a MATMUL and of a KERNEL: passes and rows dealt in turn, and no later deal taking an earlier one away.
-/
namespace Sys2Proof.Machine

/-! ### Dealing in turn -/

/-- What one step of a fold gains, and no step loses, stands at its end. -/
theorem foldl_gains {α β : Type} {P : β → Prop} {f : β → α → β} {l : List α} {x : α} (hx : x ∈ l) (hgain : ∀ t, P (f t x))
    (hkeep : ∀ t y, P t → P (f t y)) (s : β) : P (l.foldl f s) := by
  obtain ⟨before, after, rfl⟩ := List.append_of_mem hx
  rw [List.foldl_append, List.foldl_cons]
  exact List.foldlRecOn after f (hgain _) (fun t ht y _ => hkeep t y ht)

/-! ### A MATMUL's passes (R88, R154) -/

theorem State.arrUpdate_comp (s : State) (a : Nat) : (s.arrUpdate a).comp = s.comp :=
  (State.arrUpdate_ext (M₀ := 4) (by decide) (Ext.refl _ s)).comp rfl

theorem State.arrUpdate_arr (s : State) (a b : Nat) : (s.arrUpdate a).arr b = s.arr b :=
  congrArg (fun c : Compute => Sparse.get arrD c.arrays b) (s.arrUpdate_comp a)

theorem State.noteOut_comp (s : State) (slot : Nat) (rs : List (Nat × Nat)) : (s.noteOut slot rs).comp = s.comp :=
  (State.noteOut_ext (M₀ := 64) (by decide) (Ext.refl _ s)).comp rfl

theorem State.setClaim_comp (s : State) (a : Nat) (x : Option PfClaim) : (s.setClaim a x).comp = s.comp :=
  (State.setClaim_ext (M₀ := 4100) (by decide) (Ext.refl _ s)).comp rfl

/-- One array's turn in the deal of a MATMUL: its share, if it has one, joins its runs. -/
def State.dealShare (slot : Nat) (m : MmRun) (t : State) (z : Nat × Nat) : State :=
  if (m.share z.2).isEmpty then t
  else (t.setArr z.1 { t.arr z.1 with runs := (t.arr z.1).runs ++ [⟨slot, m.admitNo, m.share z.2, 0⟩] }).arrUpdate z.1

theorem State.mmDeal_eq (s : State) (slot : Nat) (m : MmRun) :
    s.mmDeal slot m = m.eligible.zipIdx.foldl (State.dealShare slot m) s := rfl

/-- The runs of an array after a turn: those before, and after them the share when the turn is that array's. -/
theorem State.dealShare_runs {m : MmRun} {z : Nat × Nat} (h : m.share z.2 ≠ []) (t : State) (slot a : Nat) :
    ((t.dealShare slot m z).arr a).runs =
      (t.arr a).runs ++ if a = z.1 then [⟨slot, m.admitNo, m.share z.2, 0⟩] else [] := by
  unfold State.dealShare
  rw [if_neg (mt List.isEmpty_iff.1 h), State.arrUpdate_arr]
  by_cases ha : a = z.1
  · subst ha
    rw [State.setArr_arr, if_pos rfl]
  · rw [State.setArr_arr_ne _ _ _ ha, if_neg ha, List.append_nil]

theorem State.dealShare_empty {m : MmRun} {z : Nat × Nat} (h : m.share z.2 = []) (t : State) (slot : Nat) :
    t.dealShare slot m z = t := if_pos (List.isEmpty_iff.2 h)

theorem State.dealShare_keeps_runs {t : State} {a : Nat} {r : ArrRun} (hr : r ∈ (t.arr a).runs) (slot : Nat) (m : MmRun)
    (z : Nat × Nat) : r ∈ ((t.dealShare slot m z).arr a).runs := by
  by_cases h : m.share z.2 = []
  · rwa [State.dealShare_empty h]
  · rw [State.dealShare_runs h]
    exact List.mem_append_left _ hr

theorem State.dealShare_mms (slot : Nat) (m : MmRun) (t : State) (z : Nat × Nat) :
    (t.dealShare slot m z).comp.mm = t.comp.mm := by
  unfold State.dealShare
  split
  · rfl
  · rw [State.arrUpdate_comp]
    rfl

/-- Every eligible array with a share has it among its runs once a MATMUL is dealt (R88). -/
theorem State.mmDeal_runs {m : MmRun} {k a : Nat} (ha : m.eligible[k]? = some a) (h : m.share k ≠ []) (s : State) (slot : Nat) :
    (⟨slot, m.admitNo, m.share k, 0⟩ : ArrRun) ∈ ((s.mmDeal slot m).arr a).runs := by
  have hturn : (a, k) ∈ m.eligible.zipIdx := List.mem_zipIdx_iff_getElem?.2 ha
  rw [State.mmDeal_eq]
  refine foldl_gains (P := fun t : State => _ ∈ (t.arr a).runs) hturn (fun t => ?_) (fun t z hr => t.dealShare_keeps_runs hr slot m z) s
  rw [State.dealShare_runs h, if_pos rfl]
  exact List.mem_append_right _ (List.mem_singleton_self _)

theorem State.mmDeal_mms (s : State) (slot : Nat) (m : MmRun) : (s.mmDeal slot m).comp.mm = s.comp.mm := by
  rw [State.mmDeal_eq]
  exact List.foldlRecOn (motive := fun t : State => t.comp.mm = s.comp.mm) _ _ rfl
    (fun t ht z _ => (State.dealShare_mms slot m t z).trans ht)

theorem State.swapHalves_mms (s : State) (slot : Nat) (m : MmRun) (a : Nat) : (s.swapHalves slot m a).comp.mm = s.comp.mm := by
  unfold State.swapHalves
  refine List.foldlRecOn (motive := fun t : State => t.comp.mm = s.comp.mm) _ _ ?_ (fun t ht i _ => ?_)
  · rw [State.setClaim_comp]
    rfl
  · rwa [State.put_comp]

/-- Placing a MATMUL on its arrays records its work in its slot. -/
theorem State.mmPlace_mm (s : State) (slot : Nat) (m : MmRun) (claimed : List Nat) : (s.mmPlace slot m claimed).mm slot = some m := by
  unfold State.mmPlace
  extract_lets recorded noted health counted
  have hnoted : noted.comp = recorded.comp := by
    unfold noted
    split
    · split
      · rfl
      · exact State.noteOut_comp _ _ _
    · rfl
  have hswapped : (claimed.foldl (fun t a => t.swapHalves slot m a) counted).comp.mm = counted.comp.mm :=
    List.foldlRecOn (motive := fun t : State => t.comp.mm = counted.comp.mm) _ _ rfl
      (fun t ht a _ => (t.swapHalves_mms slot m a).trans ht)
  have hmm : ((claimed.foldl (fun t a => t.swapHalves slot m a) counted).mmDeal slot m).comp.mm = recorded.comp.mm := by
    rw [State.mmDeal_mms, hswapped, State.setHealth_comp, hnoted]
  exact (congrArg (fun c => Sparse.get (fun _ => none) c slot) hmm).trans (s.setMm_mm slot (some m))

/-- A MATMUL whose arrays and supplied scales are in order is placed at the end of its issue (R70, R88). -/
theorem State.mmBegin_places {t : State} {m : MmRun} (harrays : m.eligible ≠ [])
    (hscales : m.fixed = true → ∀ pl, m.outp = some pl → t.fixedPoison pl m.m = false ∧
      t.fixedOk m.heritage pl m.m (ceilDiv m.n 1024) = true) (slot : Nat) (o : Op) (claimed : List Nat) :
    t.mmBegin slot o m claimed = t.mmPlace slot m claimed := by
  unfold State.mmBegin
  rw [if_neg (mt List.isEmpty_iff.1 harrays)]
  split
  next pl hpl =>
    have hfixed : m.fixed = true ∧ m.outp = some pl := by simpa using hpl
    obtain ⟨hclean, hfit⟩ := hscales hfixed.1 pl hfixed.2
    simp [hclean, hfit]
  next => rfl

section
variable {s : State} {slot : Nat} {o : Op} {w x od : DescP} {kw kx ko : Take} {m : MmRun} {t : State}
  (h : s.MatmulDue slot o w x od kw kx ko m t)
include h

theorem opMatmul_due : opMatmul slot s = t.mmPlace slot m (s.mmClaimed o) := by
  obtain ⟨-, hitem, ⟨hkw, hw, rfl⟩, ⟨hkx, hx, rfl⟩, ⟨hko, ho, rfl⟩, hplanes, hchecks, rfl, hfree, hdrained, rfl, harrays, hscales⟩ := h
  simp only [opMatmul, hitem, hkw, hkx, hko, hplanes, hchecks, hfree, hdrained, Bool.false_eq_true, if_false]
  exact State.mmBegin_places harrays hscales slot o _

/-- Taking descriptors and placing the work move no byte of HBM. -/
theorem State.MatmulDue.sameHbm : s.SameHbm (t.mmPlace slot m (s.mmClaimed o)) := by
  rw [h.taken]
  have hext : Ext 53316 s (((s.mmTaken slot o kw kx ko).advanceRng (o.b 0x28 4) (m.m * m.n)).mmPlace slot m (s.mmClaimed o)) :=
    State.mmPlace_ext (by decide) (State.advanceRng_ext (by decide) (State.mmTaken_ext (by decide) (Ext.refl _ s)))
  exact ⟨hext.mem rfl, hext.poison rfl⟩

end

/-! ### A KERNEL's rows (R113, R115) -/

/-- Refreshing an engine may let waiting tasks in, and drops none. -/
theorem State.engUpdate_tasks (s : State) (e i : Nat) :
    ((s.engUpdate e).eng i).tasks ++ ((s.engUpdate e).eng i).waiting = (s.eng i).tasks ++ (s.eng i).waiting := by
  unfold State.engUpdate
  extract_lets x all t
  have ht : t.comp = (s.setEng e { x with tasks := all.take 8, waiting := all.drop 8 }).comp := State.put_comp _ _ _
  have heng : (if 2 ≤ t.f (Fld.teStatus_state e) then t else t.put (Fld.teStatus_state e) (if all.isEmpty then 0 else 1)).eng i =
      (s.setEng e { x with tasks := all.take 8, waiting := all.drop 8 }).eng i := by
    refine congrArg (fun c : Compute => Sparse.get engD c.engines i) (Eq.trans ?_ ht)
    split
    · rfl
    · exact State.put_comp _ _ _
  rw [heng]
  by_cases hi : i = e
  · subst hi
    rw [State.setEng_eng]
    exact List.take_append_drop 8 all
  · rw [State.setEng_eng_ne _ _ _ hi]

/-- The tasks of an engine after one joins: those before, and after them the new one when the engine is its own. -/
theorem State.addTask_tasks (s : State) (e i : Nat) (k : Task) :
    ((s.addTask e k).eng i).tasks ++ ((s.addTask e k).eng i).waiting =
      (s.eng i).tasks ++ (s.eng i).waiting ++ if i = e then [k] else [] := by
  unfold State.addTask
  rw [State.engUpdate_tasks]
  by_cases hi : i = e
  · subst hi
    rw [State.setEng_eng, if_pos rfl, List.append_assoc]
  · rw [State.setEng_eng_ne _ _ _ hi, if_neg hi, List.append_nil]

/-- The rows that fall to the engine at place k of n (R113). -/
def kernShare (o : Op) (n k : Nat) : List Nat := (List.range (kernRows o)).filter (fun r => r % n == k)

/-- The task of an engine for a share of a KERNEL's rows, at the start of its first sweep. -/
def KernRun.task (run : KernRun) (slot : Nat) (o : Op) (rows : List Nat) : Task :=
  ⟨0, slot, o.admitNo, 0, rows, (run.sweepFrom 0).getD 0, 0, 0, [], [], [], 0, 0, 0, [], 0, none⟩

/-- One engine's turn in the deal of a KERNEL over n engines: a task for its share, if it has one. -/
def State.dealTask (slot : Nat) (o : Op) (run : KernRun) (n : Nat) (t : State) (z : Nat × Nat) : State :=
  if (kernShare o n z.2).isEmpty then t else t.addTask z.1 (run.task slot o (kernShare o n z.2))

theorem State.kernDeal_eq (s : State) (slot : Nat) (o : Op) (run : KernRun) (engines : List Nat) :
    s.kernDeal slot o run engines = engines.zipIdx.foldl (State.dealTask slot o run engines.length) s := rfl

theorem State.dealTask_keeps_tasks {t : State} {e : Nat} {k : Task} (hk : k ∈ (t.eng e).tasks ++ (t.eng e).waiting) (slot : Nat)
    (o : Op) (run : KernRun) (n : Nat) (z : Nat × Nat) :
    k ∈ ((t.dealTask slot o run n z).eng e).tasks ++ ((t.dealTask slot o run n z).eng e).waiting := by
  unfold State.dealTask
  split
  · exact hk
  · rw [State.addTask_tasks]
    exact List.mem_append_left _ hk

/-- Every engine with a share has a task for it once a KERNEL is dealt (R113). -/
theorem State.kernDeal_tasks {engines : List Nat} {k e : Nat} (he : engines[k]? = some e) {o : Op}
    (h : kernShare o engines.length k ≠ []) (s : State) (slot : Nat) (run : KernRun) :
    run.task slot o (kernShare o engines.length k) ∈
      ((s.kernDeal slot o run engines).eng e).tasks ++ ((s.kernDeal slot o run engines).eng e).waiting := by
  have hturn : (e, k) ∈ engines.zipIdx := List.mem_zipIdx_iff_getElem?.2 he
  rw [State.kernDeal_eq]
  refine foldl_gains (P := fun t : State => _ ∈ (t.eng e).tasks ++ (t.eng e).waiting) hturn (fun t => ?_)
    (fun t z hk => t.dealTask_keeps_tasks hk slot o run _ z) s
  unfold State.dealTask
  rw [if_neg (mt List.isEmpty_iff.1 h), State.addTask_tasks, if_pos rfl]
  exact List.mem_append_right _ (List.mem_singleton_self _)

theorem opKernel_due {s : State} {slot : Nat} {o : Op} {takes : List ((Nat × Bool) × Take)} {t : State}
    (h : s.KernelDue slot o takes t) :
    opKernel slot s = ((t.setKern slot (some (s.kernRunOf o takes))).kernDeal slot o (s.kernRunOf o takes)
      (t.kernEngines o)).kernFeed slot o := by
  obtain ⟨-, hitem, rfl, hwhole, hfit, hrows, rfl, hengines⟩ := h
  unfold opKernel
  simp only [hitem]
  rw [List.find?_eq_none.2 (fun e he => ?_)]
  · rw [List.find?_eq_none.2 (fun e he => Bool.eq_false_iff.1 (hfit e he))]
    simp only [if_neg (Nat.not_lt.2 hrows), if_neg (mt List.isEmpty_iff.1 hengines)]
  · obtain ⟨ds, head, hok⟩ := hwhole e he
    simp [hok]

/-- Settles O29: what is due issues without a refusal, and each turn of the deal leaves the earlier shares in place. -/
theorem matmulsAndKernelsAreDealtOut : Obligations.MatmulsAndKernelsAreDealtOut := by
  unfold Obligations.MatmulsAndKernelsAreDealtOut
  refine ⟨?matmul, ?kernel⟩
  case matmul =>
    intro s slot o w x od kw kx ko m t h
    exact ⟨_, h.live.runs (opMatmul_due h), rfl, t.mmPlace_mm slot m _,
      fun k a ha hshare => State.mmDeal_runs ha hshare _ slot, h.sameHbm⟩
  case kernel =>
    intro s slot o takes t h
    exact ⟨_, h.live.runs (opKernel_due h), rfl, fun k e he hshare => State.kernDeal_tasks he hshare _ slot _⟩

end Sys2Proof.Machine
end

section
/-!
The matrix arrays: what an array and its registers read after the state operations of its commands, and the commands that load
a tile and start a pass.
-/
namespace Sys2Proof.Machine

/-! ### Frames of the array commands -/

/-- Any component but HBM and its poison marks. -/
abbrev Touch.besideHbm : Nat := 0x7FFFCF

/-- Any component but HBM, its poison marks and the contract's state. -/
abbrev Touch.besideHbmAndCtl : Nat := 0x7FFF8F

theorem Ext.sameHbm {M : Nat} {s t : State} (h : Ext M s t) (hM : Within M Touch.besideHbm) : s.SameHbm t := by
  have g : Ext Touch.besideHbm s t := h.mono hM
  exact ⟨g.mem rfl, g.poison rfl⟩

theorem Ext.sparesHbmAndCtl {M : Nat} {s t : State} (h : Ext M s t) (hM : Within M Touch.besideHbmAndCtl) :
    s.SameHbm t ∧ t.ctl = s.ctl := by
  have g : Ext Touch.besideHbmAndCtl s t := h.mono hM
  exact ⟨⟨g.mem rfl, g.poison rfl⟩, g.ctl rfl⟩

/-! ### What an array reads after a state operation -/

theorem State.arr_of_comp {s t : State} (h : t.comp = s.comp) (a : Nat) : t.arr a = s.arr a := by
  unfold State.arr
  rw [h]

theorem State.countBytes_comp (s : State) (i cls n : Nat) : (s.countBytes i cls n).comp = s.comp :=
  (State.countBytes_ext (M₀ := 4100) rfl (Ext.refl _ s)).comp rfl

theorem State.setArr_arrUpdate_arr (s : State) (a : Nat) (x : ArrState) : ((s.setArr a x).arrUpdate a).arr a = x := by
  rw [State.arrUpdate_arr, State.setArr_arr]

/-- A tile that is read from HBM is counted in its context, beside the array that takes it. -/
theorem State.setArr_countBytes_arrUpdate_arr (s : State) (a i cls n : Nat) (x : ArrState) :
    (((s.setArr a x).countBytes i cls n).arrUpdate a).arr a = x := by
  rw [State.arrUpdate_arr, State.arr_of_comp (State.countBytes_comp _ i cls n), State.setArr_arr]

theorem State.setArr_arrUpdate_ext (s : State) (a : Nat) (x : ArrState) : Ext 16388 s ((s.setArr a x).arrUpdate a) :=
  State.arrUpdate_ext rfl (State.setArr_ext rfl (Ext.refl _ s))

/-! ### A tile load (R76, R78) -/

section
variable {s : State} {a cyc : Nat} {i : PassId} {m : MmRun} {o : Op} {g : Staged}
  (hnext : s.nextPass a = some i) (hm : s.mm i.slot = some m) (ho : s.op i.slot = some o) (hlive : s.arrayLive a = true)
  (hload : (s.arr a).loading = none) (hcyc : (s.arr a).nextLoad ≤ cyc) (hrepair : (s.arr a).repair = [])

include hlive hload hcyc hrepair in
theorem State.loadPath_free : ¬ (s.arrayLive a = false ∨ ((s.arr a).loading.isSome : Prop) ∨ cyc < (s.arr a).nextLoad ∨
    (s.arr a).repair.isEmpty = false) := by
  simp [hlive, hload, hrepair, Nat.not_lt.2 hcyc]

include hnext hm ho hlive hload hcyc hrepair

/-- The next pass's tile is staged already. -/
theorem tileLoadStart_staged (hstaged : (s.arr a).staged.find? (fun g => g.id == i) = some g) :
    tileLoadStart a cyc s = (s.setArr a ((s.arr a).load i cyc g)).arrUpdate a := by
  unfold tileLoadStart
  simp only [hnext, hm, ho, hstaged, if_neg (State.loadPath_free hlive hload hcyc hrepair)]

variable (hnone : (s.arr a).staged.find? (fun g => g.id == i) = none) (hroom : (s.arr a).staged.length < 3)
  (hdue : (s.arr a).due.contains i = false)
include hnone hroom hdue

/-- The next pass's tile is among the prefetched weights, and leaves them for a place in staging. -/
theorem tileLoadStart_prefetched (hown : (s.arr a).own.find? (fun g => g.id == i) = some g) :
    tileLoadStart a cyc s = (s.setArr a { (s.arr a).load i cyc g with
      staged := (s.arr a).staged ++ [g], own := (s.arr a).own.filter (fun z => z.id != i) }).arrUpdate a := by
  unfold tileLoadStart
  simp only [hnext, hm, ho, hnone, hown, hdue, if_neg (State.loadPath_free hlive hload hcyc hrepair), Nat.not_le.2 hroom,
    Bool.false_eq_true, or_self, if_false]

/-- The next pass's tile is read from HBM, all of it clean, and takes a place in staging. -/
theorem tileLoadStart_fetched (hown : (s.arr a).own.find? (fun g => g.id == i) = none) (hfree : s.tileWaits m i = false)
    (hclean : (s.fetchTile m i).any (fun e => e.2 == .poison || e.2 == .bad) = false) :
    tileLoadStart a cyc s = ((s.setArr a { (s.arr a).load i cyc ⟨i, tileBits (s.fetchTile m i)⟩ with
      staged := (s.arr a).staged ++ [⟨i, tileBits (s.fetchTile m i)⟩] }).countBytes (o.b 0x20 4) 0
        (m.wd.sizeOf (s.fetchTile m i).length)).arrUpdate a := by
  have hparts : (s.fetchTile m i).any (fun e => e.2 == .poison) = false ∧
      (s.fetchTile m i).any (fun e => e.2 == .bad) = false := by
    simp only [List.any_eq_false, Bool.or_eq_true, not_or] at hclean ⊢
    exact ⟨fun e he => (hclean e he).1, fun e he => (hclean e he).2⟩
  unfold tileLoadStart
  simp only [hnext, hm, ho, hnone, hown, hdue, hfree, hparts.1, hparts.2, if_neg (State.loadPath_free hlive hload hcyc hrepair),
    Nat.not_le.2 hroom, Bool.false_eq_true, or_self, if_false]

end

/-! ### A pass start (R77, R78, R81) -/

/-- The wait of a late start, in the array's counter and, where slices were short, in its engines'. -/
def State.countWait (t : State) (a late : Nat) (starved slices : Bool) : State :=
  let counted := if starved || slices then t.bump (Fld.aryWait_wait a) late else t
  if slices then (List.range 16).foldl (fun u e => u.bump (Fld.teAccWait_acc_wait (16 * a + e)) late) counted else counted

theorem State.countWait_comp (t : State) (a late : Nat) (starved slices : Bool) :
    (t.countWait a late starved slices).comp = t.comp := by
  unfold State.countWait
  extract_lets counted
  have hcounted : counted.comp = t.comp := by
    unfold counted
    split
    · exact State.bump_comp t _ _
    · rfl
  split
  · exact List.foldlRecOn (motive := fun u : State => u.comp = t.comp) _ _ hcounted
      (fun u hu e _ => (State.bump_comp u _ _).trans hu)
  · exact hcounted

/-- A pass that is ready starts. -/
theorem passStart_ready {s : State} {a cyc : Nat} {i : PassId} {m : MmRun} {o : Op} (hnext : s.nextPass a = some i)
    (hm : s.mm i.slot = some m) (ho : s.op i.slot = some o) (hready : s.passReady a cyc i m = true) (starved slices : Bool) :
    passStart a cyc starved slices s = ((s.setArr a ((s.arr a).started i m cyc o.wq)).countWait a
      (if (s.arr a).nextStart = 0 then 0 else cyc - (s.arr a).nextStart) starved slices).arrUpdate a := by
  unfold passStart
  simp only [hnext, hm, ho, hready, Bool.true_eq_false, if_false]
  rfl

/-- The array then holds the pass in flight, with the swap of its registers and the next boundaries. -/
theorem passStart_ready_arr {s : State} {a cyc : Nat} {i : PassId} {m : MmRun} {o : Op} (hnext : s.nextPass a = some i)
    (hm : s.mm i.slot = some m) (ho : s.op i.slot = some o) (hready : s.passReady a cyc i m = true) (starved slices : Bool) :
    (passStart a cyc starved slices s).arr a = (s.arr a).started i m cyc o.wq := by
  rw [passStart_ready hnext hm ho hready, State.arrUpdate_arr, State.arr_of_comp (State.countWait_comp _ a _ _ _), State.setArr_arr]

/-- Settles O31: each source of the tile by its own equation of TILE_LOAD_START, and a ready pass by the array it leaves. -/
theorem tileLoadsAndPassStarts : Obligations.TileLoadsAndPassStarts := by
  unfold Obligations.TileLoadsAndPassStarts
  refine ⟨?staged, ?prefetched, ?fetched, ?start⟩
  case staged =>
    intro s a cyc i m o g hl hnext hm ho hlive hload hcyc hrepair hstaged
    exact ⟨_, hl.runs (tileLoadStart_staged hnext hm ho hlive hload hcyc hrepair hstaged), State.setArr_arrUpdate_arr s a _,
      (State.setArr_arrUpdate_ext s a _).sameHbm rfl⟩
  case prefetched =>
    intro s a cyc i m o g hl hnext hm ho hlive hload hcyc hrepair hnone hroom hdue hown
    exact ⟨_, hl.runs (tileLoadStart_prefetched hnext hm ho hlive hload hcyc hrepair hnone hroom hdue hown),
      State.setArr_arrUpdate_arr s a _, (State.setArr_arrUpdate_ext s a _).sameHbm rfl⟩
  case fetched =>
    rintro s a cyc i m o g hl hnext hm ho hlive hload hcyc hrepair hnone hroom hdue hown hfree hclean rfl
    exact ⟨_, hl.runs (tileLoadStart_fetched hnext hm ho hlive hload hcyc hrepair hnone hroom hdue hown hfree hclean),
      State.setArr_countBytes_arrUpdate_arr s a _ _ _ _,
      (State.arrUpdate_ext (M₀ := 20484) rfl (State.countBytes_ext rfl (State.setArr_ext rfl (Ext.refl _ s)))).sameHbm rfl⟩
  case start =>
    intro s a cyc lc starved slices i m o hl hnext hm ho hseg hload hlc hstart hflight hlive hhold hrepair hspare hrank hrun
    have hready : s.passReady a cyc i m = true := by
      have hturn : ((s.arr a).redo.isEmpty && s.outranked a) = false := by
        cases hredo : (s.arr a).redo with
        | nil => rw [hrank hredo, Bool.and_false]
        | cons => rfl
      simp [State.passReady, hload, hlc, hstart, hseg, hflight, hlive, hhold, hrepair, hspare, hturn, hrun]
    have harr := passStart_ready_arr hnext hm ho hready starved slices
    obtain ⟨hhbm, hctl⟩ := (passStart_ext (a := a) (cyc := cyc) (starved := starved) (slices := slices) rfl
      (Ext.refl 16388 s)).sparesHbmAndCtl rfl
    refine ⟨_, hl.runs rfl, ?_, ?_, ?_, hhbm, hctl⟩
    · rw [harr]
      exact ⟨rfl, rfl⟩
    · rw [harr]
      exact ⟨rfl, rfl⟩
    · rw [harr]
      exact ⟨rfl, rfl, rfl, rfl, rfl⟩

end Sys2Proof.Machine
end

section
/-!
What stops or ends a pass: retirement, pre-emption, faults with their reissue, injected errors and field repairs.
-/
namespace Sys2Proof.Machine

/-! ### Registers of an array beside those that its commands show -/

/-- Refreshing what an array shows changes ARY_STATUS_n and registers of its engines only. -/
theorem State.arrUpdate_f (s : State) {a : Nat} {q : FieldRef} (hstatus : q.off ≠ Reg.aryStatus a) (hengines : q.off < 0x50000) :
    (s.arrUpdate a).f q = s.f q := by
  have hte : ∀ e, q.off ≠ Reg.teStatus e := fun e h => by rw [h] at hengines; unfold Reg.teStatus at hengines; omega
  have hhwm : ∀ e, q.off ≠ Reg.teAccHwm e := fun e h => by rw [h] at hengines; unfold Reg.teAccHwm at hengines; omega
  unfold State.arrUpdate
  extract_lets x n t u
  have ht : t.f q = s.f q := (State.f_putB_ne _ _ hstatus).trans (State.f_put_ne _ _ hstatus)
  have hu : u.f q = s.f q := by
    refine List.foldlRecOn (motive := fun v : State => v.f q = s.f q) _ _ ht (fun v hv i _ => ?_)
    have hslices : (v.put (Fld.teStatus_slices (16 * a + i)) n).f q = s.f q := (State.f_put_ne _ _ (hte _)).trans hv
    dsimp only
    split
    · exact (State.f_put_ne _ _ (hhwm _)).trans hslices
    · exact hslices
  split
  · exact hu
  · exact (State.f_put_ne _ _ hstatus).trans hu

/-- An array's own registers lie below the engines' and the recorder's. -/
theorem aryOff_lt {a k : Nat} (ha : a < 4) (hk : k < 256) : 0x40000 + k + 256 * a < 0x50000 := by omega

/-! ### Retirement (R83, R105, R34) -/

/-- The cycle after the last one of a pass in flight (R83). -/
def State.passEnd (s : State) (a : Nat) (f : Flight) (m : MmRun) : Nat :=
  f.start + m.r * (f.rows - 1) + 1536 + s.f (Fld.aryStatus_repairs a) + 1

/-- The pass is counted, and the cycles of it that no earlier pass has counted as busy. -/
def State.passCounted (s : State) (a : Nat) (f : Flight) (m : MmRun) : State :=
  (s.bump (Fld.aryPasses_passes a) 1).bump (Fld.aryBusy_busy a) (s.passEnd a f m - max f.start (s.arr a).busyEnd)

/-- The array once the pass's sums are folded and only what is still needed of its slices is kept. -/
def ArrState.folded (x : ArrState) (f : Flight) (rest : List Flight) (endC : Nat) (m : MmRun) (vals : List (Nat × Nat × Word32)) :
    ArrState := (((x.popFlight f rest endC).foldPass m f.id vals).keepFinal m f.id).shed

section
variable {s : State} {a : Nat} {f : Flight} {rest : List Flight} {m : MmRun} (hflight : (s.arr a).flight = f :: rest)
  (hclean : f.inject = none) (hserves : s.serving = true) (hm : s.mm f.id.slot = some m)
include hflight hclean hserves hm

theorem passRetire_running {g : Seg} (hrun : s.opRunning f.id.slot f.id.admitNo = true)
    (hseg : (s.arr a).segs.find? (fun g => g.id == f.id) = some g) :
    passRetire a s = (((((s.passCounted a f m).setArr a ((s.arr a).folded f rest (s.passEnd a f m) m
      ((s.arr a).foldVals m f.id g (m.passResults f g)))).addDetail f.id.slot 1).passEffects a (s.arr a) m f.id (m.passResults f g)
        ((s.arr a).foldVals m f.id g (m.passResults f g))).arrUpdate a) := by
  unfold passRetire
  simp only [hflight, Flight.pending, hclean, hserves, hm, hrun, hseg, Option.isSome_none, Bool.false_eq_true, Bool.true_eq_false,
    or_self, if_false, if_true]
  rfl

theorem passRetire_gone (hrun : s.opRunning f.id.slot f.id.admitNo = false) :
    passRetire a s = ((s.passCounted a f m).setArr a ((s.arr a).popFlight f rest (s.passEnd a f m)).shed).arrUpdate a := by
  unfold passRetire
  simp only [hflight, Flight.pending, hclean, hserves, hm, hrun, Option.isSome_none, Bool.false_eq_true, Bool.true_eq_false,
    or_self, if_false]
  rfl

end

theorem State.passCounted_passes (s : State) (a : Nat) (f : Flight) (m : MmRun) :
    (s.passCounted a f m).f (Fld.aryPasses_passes a) = (s.f (Fld.aryPasses_passes a) + 1) % 2 ^ 64 := by
  unfold State.passCounted
  rw [State.f_bump_ne _ _ (by simp [Fld.aryPasses_passes, Fld.aryBusy_busy, Reg.aryPasses, Reg.aryBusy])]
  exact State.f_bump_self s 1 (Nat.le_refl 64)

theorem State.passCounted_busy (s : State) (a : Nat) (f : Flight) (m : MmRun) :
    (s.passCounted a f m).f (Fld.aryBusy_busy a) =
      (s.f (Fld.aryBusy_busy a) + (s.passEnd a f m - max f.start (s.arr a).busyEnd)) % 2 ^ 64 := by
  unfold State.passCounted
  rw [State.f_bump_self (r := Fld.aryBusy_busy a) _ _ (Nat.le_refl 64),
    State.f_bump_ne s 1 (by simp [Fld.aryPasses_passes, Fld.aryBusy_busy, Reg.aryPasses, Reg.aryBusy])]
  rfl

theorem State.addDetail_comp (s : State) (slot k : Nat) : (s.addDetail slot k).comp = s.comp :=
  (State.addDetail_ext (M₀ := 64) rfl (Ext.refl _ s)).comp rfl

theorem State.addDetail_f (s : State) (slot k : Nat) (q : FieldRef) : (s.addDetail slot k).f q = s.f q :=
  State.f_of_regs ((State.addDetail_ext (M₀ := 64) rfl (Ext.refl _ s)).regs rfl) q

theorem State.passCounted_ext (s : State) (a : Nat) (f : Flight) (m : MmRun) : Ext 4 s (s.passCounted a f m) :=
  State.bump_ext rfl (State.bump_ext rfl (Ext.refl _ s))

/-! ### Pre-emption (R38, R95) -/

/-- The array as a pre-emption leaves it: granted to the run of its choice, with nothing written ahead but for passes in flight. -/
def ArrState.preempted (x : ArrState) (best : Option ArrRun) : ArrState :=
  ArrState.shed { x with
    cur := best.map ArrRun.admitNo, loading := none,
    segs := x.segs.filter (fun g => x.flight.any (fun f => f.id == g.id)),
    staged := x.staged.filter (fun g => x.flight.any (fun f => f.id == g.id)) }

theorem preemption_due {s : State} {a : Nat} (hrank : s.outranked a = true) (hredo : (s.arr a).redo = [])
    (hlive : s.arrayLive a = true) :
    preemption a s = ((s.setArr a ((s.arr a).preempted ((s.setArr a { s.arr a with cur := none }).pickRun a))).bumpSat
      (Fld.aryPreempt_preempts a) 1).arrUpdate a := by
  unfold preemption
  exact if_pos ⟨hrank, List.isEmpty_iff.2 hredo, hlive⟩

/-! ### Faults (R96, R97, R100, R125, R426) -/

section
variable {s : State} {a idx kind row col cyc : Nat} {f : Flight} (hf : (s.arr a).flight[idx]? = some f)
  (hservice : s.arrayInService a = true)
include hf hservice

theorem passFault_corrected : passFault a idx 5 row col cyc s = s.bumpSat (Fld.aryFault_corrected a) 1 := by
  unfold passFault
  simp only [hf, hservice, Bool.true_eq_false, if_false, if_true]

theorem passFault_injected (hkind : kind ≠ 5) {j : Nat × Nat × Nat} (hinject : f.inject = some j) :
    passFault a idx kind row col cyc s = s.faultPass a idx f (s.injected a f j) := by
  unfold passFault
  simp only [hf, hservice, hinject, hkind, Bool.true_eq_false, if_false]

theorem passFault_drainPath (hinject : f.inject = none) : passFault a idx 6 row col cyc s = s.arrayFail a 3 := by
  unfold passFault
  simp only [hf, hservice, hinject, Bool.true_eq_false, if_false, if_true, Nat.reduceEqDiff]

theorem passFault_detected (hinject : f.inject = none) (hkind : kind ≠ 5) (hstage : kind ≠ 6) :
    passFault a idx kind row col cyc s = s.faultPass a idx f ⟨kind, row, col, max cyc f.start⟩ := by
  unfold passFault
  simp only [hf, hservice, hinject, hkind, hstage, Bool.true_eq_false, if_false]

end

/-- A mark of a fault in the lower fields of ARY_FAULT_n leaves its counts, and other registers, alone. -/
theorem State.f_put_aryFault (s : State) {a v : Nat} {r q : FieldRef} (hr : r.off = Reg.aryFault a) (hlow : r.lo + r.width ≤ 28)
    (hq : q.off ≠ Reg.aryFault a ∨ 28 ≤ q.lo) : (s.put r v).f q = s.f q := by
  rcases hq with hoff | hlo
  · exact State.f_put_ne s v (by rwa [hr])
  · exact State.f_put_sep s v (by omega) (.inr (by omega))

theorem State.passMark_f (s : State) {a : Nat} {e : PassError} {q : FieldRef} (hq : q.off ≠ Reg.aryFault a ∨ 28 ≤ q.lo)
    (hengines : q.off < 0x50000) : (s.passMark a e).f q = s.f q := by
  have hte : ∀ n, q.off ≠ Reg.teFault n := fun n h => by rw [h] at hengines; unfold Reg.teFault at hengines; omega
  unfold State.passMark
  extract_lets t
  have ht : t.f q = s.f q := by
    unfold t
    split_ifs
    · exact State.f_put_aryFault s rfl (by decide : 0 + 1 ≤ 28) hq
    · exact State.f_put_aryFault s rfl (by decide : 1 + 1 ≤ 28) hq
    · exact State.f_put_aryFault s rfl (by decide : 2 + 1 ≤ 28) hq
    · exact State.f_put_aryFault s rfl (by decide : 3 + 1 ≤ 28) hq
    · exact State.f_put_ne s _ (hte _)
    · rfl
  split_ifs
  · rw [State.f_put_aryFault _ rfl (by decide : 27 + 1 ≤ 28) hq, State.f_put_aryFault _ rfl (by decide : 8 + 10 ≤ 28) hq, ht]
  · rw [State.f_put_aryFault _ rfl (by decide : 27 + 1 ≤ 28) hq, State.f_put_aryFault _ rfl (by decide : 18 + 9 ≤ 28) hq, ht]
  · exact ht

theorem State.passEvent_f (s : State) (a n : Nat) (e : PassError) (f : Flight) {q : FieldRef} (hq : q.off ≠ Reg.evrecLost) :
    (s.passEvent a n e f).f q = s.f q := by
  unfold State.passEvent
  exact (State.useFresh_f _ _ q).trans (State.event_f _ _ _ _ _ _ hq)

/-- A first fault repeats none before it, so within the limit it has no further consequence (R97). -/
theorem State.passRepeat_first {s : State} {a : Nat} (hlimit : 1 ≤ s.f (Fld.aryCtrl_reissue_limit a)) (e : PassError) (f : Flight)
    (i : PassId) : s.passRepeat a e f ⟨i, 0, none, none⟩ = s := by
  unfold State.passRepeat
  simp [Nat.not_lt.2 hlimit]

/-- Where every pass that is to go again is queued, all are counted. -/
theorem State.reissued_all {s : State} {a : Nat} {back : List PassId} (h : ∀ i ∈ back, i ∈ (s.arr a).redo) :
    s.reissued a back = back.foldl (fun t i => t.orFlags i.slot 7) (s.bumpSat (Fld.aryFault_reissues a) back.length) := by
  have hall : back.filter (fun i => (s.arr a).redo.contains i) = back :=
    List.filter_eq_self.2 fun i hi => by simpa using h i hi
  unfold State.reissued
  simp only [hall]

theorem State.reissued_all_reissues {s : State} {a : Nat} {back : List PassId} (h : ∀ i ∈ back, i ∈ (s.arr a).redo) :
    (s.reissued a back).f (Fld.aryFault_reissues a) = min (s.f (Fld.aryFault_reissues a) + back.length) 65535 := by
  have hflags : Ext 64 (s.bumpSat (Fld.aryFault_reissues a) back.length) (s.reissued a back) := by
    rw [State.reissued_all h]
    exact Ext.foldl _ (fun t i ht => State.orFlags_ext rfl ht) (Ext.refl _ _)
  rw [State.f_of_regs (hflags.regs rfl)]
  exact State.f_bumpSat_self (r := Fld.aryFault_reissues a) s _ (by decide : 32 + 16 ≤ 64)

/-- Passes from the faulted one on whose operations still run (R96). -/
def State.passesBack (s : State) (a idx : Nat) : List PassId :=
  (((s.arr a).flight.drop idx).map Flight.id).filter (fun i => s.opRunning i.slot i.admitNo)

/-- What is noted of the first attempt of a pass that faults. -/
def PassError.firstAttempt (e : PassError) (i : PassId) : Attempt :=
  ⟨i, 1, if e.kind ≤ 2 then some e.row else none, if e.kind = 3 then some e.col else none⟩

/-- The state in which a first fault is marked and told, with some cycles counted as busy and the passes queued again, and those
not yet counted. -/
def State.firstFault (s : State) (a idx : Nat) (f : Flight) (e : PassError) (busy : Nat) : State :=
  (((s.setArr a ((s.arr a).faulted idx e (s.passesBack a idx) (e.firstAttempt f.id))).bump (Fld.aryBusy_busy a) busy).passMark a
    e).passEvent a 1 e f

theorem State.firstFault_arr (s : State) (a idx : Nat) (f : Flight) (e : PassError) (busy : Nat) :
    (s.firstFault a idx f e busy).arr a = (s.arr a).faulted idx e (s.passesBack a idx) (e.firstAttempt f.id) := by
  have h : Ext 134 (s.setArr a ((s.arr a).faulted idx e (s.passesBack a idx) (e.firstAttempt f.id)))
      (s.firstFault a idx f e busy) :=
    State.passEvent_ext rfl (State.passMark_ext rfl (State.bump_ext rfl (Ext.refl _ _)))
  rw [State.arr_of_comp (h.comp rfl), State.setArr_arr]

/-- A first fault leaves the limit on reissues, and the count of them, as they are. -/
theorem State.firstFault_f (s : State) {a idx : Nat} (f : Flight) (e : PassError) (busy : Nat) {q : FieldRef}
    (hbusy : q.off ≠ Reg.aryBusy a) (hfault : q.off ≠ Reg.aryFault a ∨ 28 ≤ q.lo) (hengines : q.off < 0x50000) :
    (s.firstFault a idx f e busy).f q = s.f q := by
  unfold State.firstFault
  rw [State.passEvent_f _ _ _ _ _ (by unfold Reg.evrecLost; omega), State.passMark_f _ hfault hengines,
    State.f_bump_ne _ _ hbusy, State.setArr_f]

/-- The fault of a pass that has not faulted before, with a reissue left to it. -/
theorem State.faultPass_first {s : State} {a idx : Nat} {f : Flight} {e : PassError} (ha : a < 4)
    (hfirst : (s.arr a).attempts.find? (fun y => y.id == f.id) = none) (hlimit : 1 ≤ s.f (Fld.aryCtrl_reissue_limit a)) :
    ∃ busy, s.faultPass a idx f e = ((s.firstFault a idx f e busy).reissued a (s.passesBack a idx)).arrUpdate a := by
  unfold State.faultPass
  extract_lets x old att back start t
  have hold : old = ⟨f.id, 0, none, none⟩ := congrArg (fun o => Option.getD o _) hfirst
  have hatt : att = e.firstAttempt f.id := by
    unfold att PassError.firstAttempt PassError.ofRow
    simp only [hold, decide_eq_true_eq, Nat.zero_add]
  refine ⟨e.cyc + 1 - max start x.busyEnd, ?_⟩
  have htold : (t.passMark a e).passEvent a 1 e f = s.firstFault a idx f e (e.cyc + 1 - max start x.busyEnd) := by
    unfold t
    rw [hatt]
    rfl
  have hkept : 1 ≤ (s.firstFault a idx f e (e.cyc + 1 - max start x.busyEnd)).f (Fld.aryCtrl_reissue_limit a) := by
    rw [State.firstFault_f]
    · exact hlimit
    · simp [Fld.aryCtrl_reissue_limit, Reg.aryCtrl, Reg.aryBusy]
    · exact .inl (by simp [Fld.aryCtrl_reissue_limit, Reg.aryCtrl, Reg.aryFault])
    · exact aryOff_lt (k := 0) ha (by decide)
  rw [hold, htold, State.passRepeat_first hkept]
  rfl

/-! ### Repairs (R89 to R92) and injected errors (R426) -/

theorem aryRepairReq_noted {s : State} {a v : Nat} (hgo : bits v 31 1 = 1)
    (hspare : s.flag (repairValidF a (bits v 0 10 / 128)) = false) (hservice : s.arrayInService a = true)
    (hpending : (s.arr a).repairPending (bits v 0 10 / 128) = false) :
    aryRepairReq a v s =
      s.setArr a { s.arr a with repair := (s.arr a).repair ++ [(bits v 0 10 / 128, bits v 0 10 % 128, 1)] } := by
  unfold aryRepairReq
  simp only [hgo, hspare, hservice, hpending, Nat.one_ne_zero, Bool.false_eq_true, Bool.true_eq_false, or_self, if_false]

theorem aryInject_armed {s : State} {a v : Nat} (hgo : bits v 31 1 = 1) (hkind : bits v 19 2 ≠ 3) :
    aryInject a v s = s.setArr a { s.arr a with inject := some (bits v 19 2, bits v 0 10, bits v 10 9) } := by
  unfold aryInject
  simp only [hgo, hkind, Nat.one_ne_zero, or_self, if_false]

/-- A map entry is written in ARY_REPAIR_n, whatever is then counted, recorded and told of it. -/
theorem State.mapEntry_f (s : State) {a : Nat} (e : Nat × Nat × Nat) (ha : a < 4) {q : FieldRef} (hq : q.off = Reg.aryRepair a) :
    (s.mapEntry a e).f q = ((s.put (repairRowF a e.1) e.2.1).put (repairValidF a e.1) 1).f q := by
  have hsrc : q.off ≠ Reg.aryRepairSrc a := by rw [hq]; simp [Reg.aryRepair, Reg.aryRepairSrc]
  have hstatus : q.off ≠ Reg.aryStatus a := by rw [hq]; simp [Reg.aryRepair, Reg.aryStatus]
  have hlost : q.off ≠ Reg.evrecLost := by rw [hq]; unfold Reg.aryRepair Reg.evrecLost; omega
  unfold State.mapEntry
  extract_lets mapped sourced counted comp recorded
  calc _ = recorded.f q := State.event_f _ _ _ _ _ _ hlost
    _ = counted.f q := State.setComp_f _ _ q
    _ = sourced.f q := (State.f_put_ne _ _ hstatus).trans (State.f_put_ne _ _ hstatus)
    _ = mapped.f q := State.f_put_ne _ _ hsrc

theorem State.mapEntry_valid (s : State) {a : Nat} (e : Nat × Nat × Nat) (ha : a < 4) (hb : e.1 < 8) :
    (s.mapEntry a e).flag (repairValidF a e.1) = true := by
  rw [State.flag_iff, State.mapEntry_f s e ha rfl, State.f_put_self _ _ (by unfold repairValidF; dsimp only; omega)]
  exact Nat.one_ne_zero

theorem State.mapEntry_row (s : State) {a : Nat} (e : Nat × Nat × Nat) (ha : a < 4) (hb : e.1 < 8) (hrow : e.2.1 < 128) :
    (s.mapEntry a e).f (repairRowF a e.1) = e.2.1 := by
  rw [State.mapEntry_f s e ha rfl, State.f_put_sep _ _ (by unfold repairValidF; dsimp only; omega) (.inl (Nat.le_refl _)),
    State.f_put_self _ _ (by unfold repairRowF; dsimp only; omega)]
  exact Nat.mod_eq_of_lt hrow

theorem State.mapEntry_comp (s : State) (a : Nat) (e : Nat × Nat × Nat) :
    (s.mapEntry a e).comp = { s.comp with keepRepairs := s.comp.keepRepairs ++ [(a, e.1, e.2.1)] } := by
  unfold State.mapEntry
  extract_lets mapped sourced counted comp recorded
  rw [State.event_comp]
  have hcounted : counted.comp = s.comp := by
    unfold counted sourced mapped
    simp only [State.put_comp]
  unfold recorded
  rw [State.setComp_comp]
  unfold comp
  rw [hcounted]

/-- The array as a field repair leaves it (R91). -/
def ArrState.repaired (x : ArrState) : ArrState :=
  { x with repair := [], loading := none, nextLoad := x.busyEnd + 1, nextStart := max x.nextStart (x.busyEnd + 2) }

theorem fieldRepair_due {s : State} {a : Nat} {e : Nat × Nat × Nat} (hrepair : (s.arr a).repair = [e])
    (hflight : (s.arr a).flight = []) (hlive : s.arrayLive a = true) :
    fieldRepair a s = ((s.setArr a (s.arr a).repaired).mapEntry a e).arrUpdate a := by
  unfold fieldRepair
  extract_lets x y
  have hdue : ¬ ((x.repair.isEmpty : Prop) ∨ x.flight.isEmpty = false ∨ s.arrayLive a = false) := by
    simp [x, hrepair, hflight, hlive]
  rw [if_neg hdue, show x.repair = [e] from hrepair]
  rfl

/-- Settles O32: each command by its equation in the case at hand, read off the array and the registers it leaves. -/
theorem passesRetireFaultAndAreRepaired : Obligations.PassesRetireFaultAndAreRepaired := by
  unfold Obligations.PassesRetireFaultAndAreRepaired
  refine ⟨?retires, ?gone, ?preempts, ?corrected, ?drainPath, ?reissues, ?faults, ?requests, ?injects, ?repairs⟩
  case retires =>
    rintro s a f rest m g res vals hl hflight hclean hserves hm hrun hseg rfl rfl
    refine ⟨_, hl.runs (passRetire_running hflight hclean hserves hm hrun hseg), ?_, ?_, ?_, ?_⟩
    · rw [State.arr_of_comp (State.addDetail_comp _ _ _), State.setArr_arr]
      rfl
    · rw [State.addDetail_f, State.setArr_f, State.passCounted_passes]
    · rw [State.addDetail_f, State.setArr_f, State.passCounted_busy]
      rfl
    · exact (State.addDetail_ext (M₀ := 16452) rfl (State.setArr_ext rfl ((s.passCounted_ext a f m).mono rfl))).sameHbm rfl
  case gone =>
    intro s a f rest m hl hflight hclean hserves hm hrun
    obtain ⟨hhbm, hctl⟩ := (State.arrUpdate_ext (M₀ := 16388) rfl
      (State.setArr_ext (a := a) (x := ((s.arr a).popFlight f rest (s.passEnd a f m)).shed) rfl
        ((s.passCounted_ext a f m).mono rfl))).sparesHbmAndCtl rfl
    exact ⟨_, hl.runs (passRetire_gone hflight hclean hserves hm hrun), State.setArr_arrUpdate_arr _ _ _, hhbm, hctl⟩
  case preempts =>
    intro s a hl hrank hredo hlive
    obtain ⟨hhbm, hctl⟩ := (preemption_ext (a := a) rfl (Ext.refl 16388 s)).sparesHbmAndCtl rfl
    refine ⟨_, hl.runs rfl, ?_, ?_, hhbm, hctl⟩
    · rw [preemption_due hrank hredo hlive, State.arrUpdate_arr, State.arr_of_comp (State.bumpSat_comp _ _ _), State.setArr_arr]
      rfl
    · rw [preemption_due hrank hredo hlive, State.arrUpdate_f]
      · exact State.f_bumpSat_self (r := Fld.aryPreempt_preempts a) _ 1 (by decide : 0 + 32 ≤ 64)
      · simp [Fld.aryPreempt_preempts, Reg.aryPreempt, Reg.aryStatus]
      · exact aryOff_lt (k := 0x60) a.isLt (by decide)
  case corrected =>
    intro s a idx row col cyc f hl hf hservice
    refine ⟨_, hl.runs (passFault_corrected hf hservice),
      State.f_bumpSat_self (r := Fld.aryFault_corrected a) s 1 (by decide : 48 + 16 ≤ 64),
      ⟨fun off hoff => State.rd_bumpSat_ne s 1 (List.ne_of_not_mem_cons hoff), State.bumpSat_comp _ _ _⟩,
      ⟨State.bumpSat_mem _ _ _, State.bumpSat_poison _ _ _⟩, State.bumpSat_ctl _ _ _⟩
  case drainPath =>
    intro s a idx row col cyc f hl hf hservice hinject
    exact hl.runs (passFault_drainPath hf hservice hinject)
  case reissues =>
    intro s a idx f e hfirst hlimit _
    obtain ⟨busy, hfault⟩ := State.faultPass_first (idx := idx) (e := e) a.isLt hfirst hlimit
    rw [hfault]
    have hqueued : ∀ i ∈ s.passesBack a idx, i ∈ ((s.firstFault a idx f e busy).arr a).redo := fun i hi => by
      rw [State.firstFault_arr]
      exact List.mem_append_left _ hi
    constructor
    · rw [State.arrUpdate_arr, State.arr_of_comp ((State.reissued_ext (M₀ := 68) rfl (Ext.refl _ _)).comp rfl),
        State.firstFault_arr]
      rfl
    · have hbelow : (Fld.aryFault_reissues a).off < 0x50000 := aryOff_lt (k := 0x28) a.isLt (by decide)
      rw [State.arrUpdate_f _ (by simp [Fld.aryFault_reissues, Reg.aryFault, Reg.aryStatus]) hbelow,
        State.reissued_all_reissues hqueued,
        State.firstFault_f s f e busy (by simp [Fld.aryFault_reissues, Reg.aryFault, Reg.aryBusy]) (.inr (by decide : 28 ≤ 32)) hbelow]
      rfl
  case faults =>
    intro s a idx kind row col cyc f hl hf hservice hkind
    have hkind' : kind.val ≠ 5 := fun h => hkind (Fin.ext h)
    exact ⟨fun hinject hstage => hl.runs (passFault_detected hf hservice hinject hkind' fun h => hstage (Fin.ext h)),
      fun j hinject => hl.runs (passFault_injected hf hservice hkind' hinject)⟩
  case requests =>
    intro s a w v hl haccepts hgo hspare hservice hpending
    refine ⟨_, (State.unlessReset_regWrite hl haccepts).trans (congrArg _ (aryRepairReq_noted hgo hspare hservice hpending)),
      ?_, rfl, ⟨rfl, rfl⟩, rfl⟩
    rw [State.setArr_arr]
  case injects =>
    intro s a w v hl haccepts hgo hkind
    refine ⟨_, (State.unlessReset_regWrite hl haccepts).trans (congrArg _ (aryInject_armed hgo hkind)), ?_, rfl, ⟨rfl, rfl⟩, rfl⟩
    rw [State.setArr_arr]
  case repairs =>
    intro s a b row src hl hrepair hflight hlive hb hrow
    have hhbm := (fieldRepair_ext (a := a) rfl (Ext.refl 16516 s)).sameHbm rfl
    refine ⟨_, hl.runs rfl, ⟨?_, ?_⟩, ?_, ?_, hhbm⟩ <;> rw [fieldRepair_due hrepair hflight hlive]
    · unfold State.flag
      rw [State.arrUpdate_f _ (by simp [repairValidF, Reg.aryRepair, Reg.aryStatus])
        (aryOff_lt (k := 0x10) a.isLt (by decide))]
      exact State.mapEntry_valid _ (b, row, src) a.isLt hb
    · rw [State.arrUpdate_f _ (by simp [repairRowF, Reg.aryRepair, Reg.aryStatus])
        (aryOff_lt (k := 0x10) a.isLt (by decide))]
      exact State.mapEntry_row _ (b, row, src) a.isLt hb hrow
    · rw [State.arrUpdate_arr]
      unfold State.arr
      rw [State.mapEntry_comp]
      exact congrArg ArrState.repair (s.setArr_arr a _)
    · rw [State.arrUpdate_comp, State.mapEntry_comp]
      rfl

end Sys2Proof.Machine
end

section
/-!
The KERNEL instructions of the tile engines: each command runs one vector function at its engine's turn, or fails the KERNEL whose
rows are poisoned.
-/
namespace Sys2Proof.Machine

/-! ### One instruction at its turn (R112, R117, R212) -/

/-- Out of reset, command c on engine e runs the vector function f where the next instruction has opcode op. -/
def RunsKernelOp (c : Instr) (e op : Nat) (f : KEnv → KWord → Vec → Vec) : Prop :=
  ∀ s : State, exec c s = State.unlessReset s (fun s => s.kernStep e op f)

section
variable {c : Instr} {e op : Nat} {f : KEnv → KWord → Vec → Vec} (hc : RunsKernelOp c e op f)
include hc

theorem RunsKernelOp.poisons (s : State) : s.KernelPoisons c e op := fun _ _ _ hturn hbuf hpoison => by
  rw [hc s, State.unlessReset_live _ hturn.live, State.kernStep_poison f hturn hbuf hpoison]

/-- A command has the effect of its function on the contexts that the state gives a KERNEL's vectors. -/
theorem RunsKernelOp.does_in {eff : KEnv → KWord → Vec → Vec → Prop} (s : State)
    (heff : ∀ (k : KernRun) (t : Task) (w : KWord) (v : Vec), eff (s.kernEnv k t) w v (f (s.kernEnv k t) w v)) :
    s.KernelDoes c e op eff := fun t k w hturn hclean =>
  ⟨_, heff k (s.filled k t) w t.vector, by
    rw [hc s, State.unlessReset_live _ hturn.live, State.kernStep_turn f hturn hclean]⟩

theorem RunsKernelOp.does {eff : KEnv → KWord → Vec → Vec → Prop} (s : State) (heff : ∀ env w v, eff env w v (f env w v)) :
    s.KernelDoes c e op eff := hc.does_in s fun _ _ _ _ => heff _ _ _

end

/-! ### Arithmetic (R118, R123) -/

theorem laneMap1_takes (f : Val → Val) (env : KEnv) (w : KWord) (v : Vec) :
    Vec.Takes env v (laneMap1 env f v w) w.d ((v.reg w.a).map (fun x => f (env.val x))) := Vec.place_takes _ _ _ _

theorem laneMap2_takes (f : Val → Val → Val) (env : KEnv) (w : KWord) (v : Vec) :
    Vec.Takes env v (laneMap2 env f v w) w.d (List.zipWith (fun x y => f (env.val x) (env.val y)) (v.reg w.a) (v.reg w.b)) :=
  Vec.place_takes _ _ _ _

theorem kAdd_runs (e : Fin 64) : RunsKernelOp (.kAdd e) e 0x08 kAdd := fun _ => rfl
theorem kSub_runs (e : Fin 64) : RunsKernelOp (.kSub e) e 0x09 kSub := fun _ => rfl
theorem kMul_runs (e : Fin 64) : RunsKernelOp (.kMul e) e 0x0A kMul := fun _ => rfl
theorem kFma_runs (e : Fin 64) : RunsKernelOp (.kFma e) e 0x0B kFma := fun _ => rfl
theorem kMin_runs (e : Fin 64) : RunsKernelOp (.kMin e) e 0x0C kMin := fun _ => rfl
theorem kMax_runs (e : Fin 64) : RunsKernelOp (.kMax e) e 0x0D kMax := fun _ => rfl
theorem kAbs_runs (e : Fin 64) : RunsKernelOp (.kAbs e) e 0x0E kAbs := fun _ => rfl
theorem kNeg_runs (e : Fin 64) : RunsKernelOp (.kNeg e) e 0x0F kNeg := fun _ => rfl

/-- Settles O7: each function places its exact results in register d, and Vec.place rounds each lane once. -/
theorem kernelArithmeticRoundsOnce : Obligations.KernelArithmeticRoundsOnce := by
  unfold Obligations.KernelArithmeticRoundsOnce
  refine ⟨?add, ?sub, ?mul, ?fma, ?min, ?max, ?abs, ?neg, ?poison⟩
  case add => exact fun s e => (kAdd_runs e).does s (laneMap2_takes Val.add)
  case sub => exact fun s e => (kSub_runs e).does s (laneMap2_takes Val.sub)
  case mul => exact fun s e => (kMul_runs e).does s (laneMap2_takes Val.mul)
  case fma => exact fun s e => (kFma_runs e).does s fun env w v => Vec.place_takes v env w.d _
  case min => exact fun s e => (kMin_runs e).does s (laneMap2_takes valMin)
  case max => exact fun s e => (kMax_runs e).does s (laneMap2_takes valMax)
  case abs => exact fun s e => (kAbs_runs e).does s (laneMap1_takes Val.abs)
  case neg => exact fun s e => (kNeg_runs e).does s (laneMap1_takes Val.neg)
  case poison =>
    exact fun s e => ⟨(kAdd_runs e).poisons s, (kSub_runs e).poisons s, (kMul_runs e).poisons s, (kFma_runs e).poisons s,
      (kMin_runs e).poisons s, (kMax_runs e).poisons s, (kAbs_runs e).poisons s, (kNeg_runs e).poisons s⟩

/-! ### Masks and bits (R118, R123) -/

theorem laneCmp_takesBits (f : Val → Val → Bool) (env : KEnv) (w : KWord) (v : Vec) :
    v.TakesBits (laneCmp env f v w) w.d
      (List.zipWith (fun x y => if f (env.val x) (env.val y) then env.ones else 0#32) (v.reg w.a) (v.reg w.b)) :=
  Vec.setReg_takesBits _ _ _

theorem laneBits_takesBits (f : Word32 → Word32 → Word32) (w : KWord) (v : Vec) :
    v.TakesBits (laneBits f v w) w.d (List.zipWith f (v.reg w.a) (v.reg w.b)) := Vec.setReg_takesBits _ _ _

/-- CNE gives its mask where CEQ gives none. -/
theorem kCne_takesBits (env : KEnv) (w : KWord) (v : Vec) :
    v.TakesBits (kCne env w v) w.d
      (List.zipWith (fun x y => if Val.eq (env.val x) (env.val y) then 0#32 else env.ones) (v.reg w.a) (v.reg w.b)) := by
  have hmask : ∀ x y, (if (!Val.eq (env.val x) (env.val y)) = true then env.ones else 0#32) =
      if Val.eq (env.val x) (env.val y) = true then 0#32 else env.ones := fun x y => by
    cases Val.eq (env.val x) (env.val y) <;> rfl
  simp only [← hmask]
  exact laneCmp_takesBits (fun a b => !a.eq b) env w v

theorem kClt_runs (e : Fin 64) : RunsKernelOp (.kClt e) e 0x10 kClt := fun _ => rfl
theorem kCle_runs (e : Fin 64) : RunsKernelOp (.kCle e) e 0x11 kCle := fun _ => rfl
theorem kCeq_runs (e : Fin 64) : RunsKernelOp (.kCeq e) e 0x12 kCeq := fun _ => rfl
theorem kCne_runs (e : Fin 64) : RunsKernelOp (.kCne e) e 0x13 kCne := fun _ => rfl
theorem kSel_runs (e : Fin 64) : RunsKernelOp (.kSel e) e 0x14 kSel := fun _ => rfl
theorem kAnd_runs (e : Fin 64) : RunsKernelOp (.kAnd e) e 0x15 kAnd := fun _ => rfl
theorem kOr_runs (e : Fin 64) : RunsKernelOp (.kOr e) e 0x16 kOr := fun _ => rfl
theorem kXor_runs (e : Fin 64) : RunsKernelOp (.kXor e) e 0x17 kXor := fun _ => rfl
theorem kFin_runs (e : Fin 64) : RunsKernelOp (.kFin e) e 0x18 kFin := fun _ => rfl

/-- Settles O8: each function writes its masks or bits to register d as they are. -/
theorem kernelComparesGiveMasks : Obligations.KernelComparesGiveMasks := by
  unfold Obligations.KernelComparesGiveMasks
  refine ⟨?clt, ?cle, ?ceq, ?cne, ?sel, ?and, ?or, ?xor, ?fin, ?poison⟩
  case clt => exact fun s e => (kClt_runs e).does s (laneCmp_takesBits Val.lt)
  case cle => exact fun s e => (kCle_runs e).does s (laneCmp_takesBits Val.le)
  case ceq => exact fun s e => (kCeq_runs e).does s (laneCmp_takesBits Val.eq)
  case cne => exact fun s e => (kCne_runs e).does s kCne_takesBits
  case sel => exact fun s e => (kSel_runs e).does s fun _ w v => Vec.setReg_takesBits v w.d _
  case and => exact fun s e => (kAnd_runs e).does s fun _ => laneBits_takesBits (fun x y => x &&& y)
  case or => exact fun s e => (kOr_runs e).does s fun _ => laneBits_takesBits (fun x y => x ||| y)
  case xor => exact fun s e => (kXor_runs e).does s fun _ => laneBits_takesBits (fun x y => x ^^^ y)
  case fin => exact fun s e => (kFin_runs e).does s fun _ w v => Vec.setReg_takesBits v w.d _
  case poison =>
    exact fun s e => ⟨(kClt_runs e).poisons s, (kCle_runs e).poisons s, (kCeq_runs e).poisons s, (kCne_runs e).poisons s,
      (kSel_runs e).poisons s, (kAnd_runs e).poisons s, (kOr_runs e).poisons s, (kXor_runs e).poisons s,
      (kFin_runs e).poisons s⟩

/-! ### Functions and reductions (R120, R121) -/

theorem kSfu_takes (f : Word32 → Word32) (env : KEnv) (w : KWord) (v : Vec) :
    Vec.Takes env v (kSfu f env w v) w.d ((v.reg w.a).map (fun x => val32 env.heritage (f (fp32 env.heritage (env.val x))))) :=
  Vec.place_takes _ _ _ _

theorem kExp_runs (e : Fin 64) : RunsKernelOp (.kExp e) e 0x20 kExp := fun _ => rfl
theorem kLog_runs (e : Fin 64) : RunsKernelOp (.kLog e) e 0x21 kLog := fun _ => rfl
theorem kRcp_runs (e : Fin 64) : RunsKernelOp (.kRcp e) e 0x22 kRcp := fun _ => rfl
theorem kRsq_runs (e : Fin 64) : RunsKernelOp (.kRsq e) e 0x23 kRsq := fun _ => rfl
theorem kTanh_runs (e : Fin 64) : RunsKernelOp (.kTanh e) e 0x24 kTanh := fun _ => rfl
theorem kRsum_runs (e : Fin 64) : RunsKernelOp (.kRsum e) e 0x28 kRsum := fun _ => rfl
theorem kRmax_runs (e : Fin 64) : RunsKernelOp (.kRmax e) e 0x29 kRmax := fun _ => rfl
theorem kRmin_runs (e : Fin 64) : RunsKernelOp (.kRmin e) e 0x2A kRmin := fun _ => rfl

/-- Settles O10: an SFU instruction places its function's values as arithmetic does, and a reduction adds to the contributions
alone. -/
theorem kernelFunctionsAndReductions : Obligations.KernelFunctionsAndReductions := by
  unfold Obligations.KernelFunctionsAndReductions
  refine ⟨?exp, ?log, ?rcp, ?rsq, ?tanh, ?rsum, ?rmax, ?rmin, ?poison⟩
  case exp => exact fun s e => (kExp_runs e).does s (kSfu_takes sfuExp)
  case log => exact fun s e => (kLog_runs e).does s (kSfu_takes sfuLog)
  case rcp => exact fun s e => (kRcp_runs e).does s (kSfu_takes sfuRcp)
  case rsq => exact fun s e => (kRsq_runs e).does s (kSfu_takes sfuRsq)
  case tanh => exact fun s e => (kTanh_runs e).does s (kSfu_takes sfuTanh)
  case rsum => exact fun s e => (kRsum_runs e).does s fun _ _ _ => rfl
  case rmax => exact fun s e => (kRmax_runs e).does s fun _ _ _ => rfl
  case rmin => exact fun s e => (kRmin_runs e).does s fun _ _ _ => rfl
  case poison =>
    exact fun s e => ⟨(kExp_runs e).poisons s, (kLog_runs e).poisons s, (kRcp_runs e).poisons s, (kRsq_runs e).poisons s,
      (kTanh_runs e).poisons s, (kRsum_runs e).poisons s, (kRmax_runs e).poisons s, (kRmin_runs e).poisons s⟩

/-! ### Stores and conversions (R117, R122, R183) -/

/-- What ST leaves of the vector for an output of format f: the stores queued and counted. -/
theorem kSt_of_format {env : KEnv} {w : KWord} {f : Fmt} (hf : env.outFmt.getD (bits w.imm 0 1) none = some f) (v : Vec) :
    kSt env w v = { v with
      stores := v.stores ++ (env.storing v w f).map (fun p => (bits w.imm 0 1, p.2, p.1.bits))
      sat := v.sat + ((env.storing v w f).filter (fun p => p.1.sat)).length
      nonfin := v.nonfin + ((env.storing v w f).filter (fun p => p.1.nonfin)).length
      conv := v.conv + if f.scaled || f == .bf16 then (env.storing v w f).length else 0 } := by
  unfold kSt KEnv.storing
  simp only [hf, List.filter_map, List.map_map, List.length_map]
  rfl

theorem kSt_of_no_format {env : KEnv} {w : KWord} (hf : env.outFmt.getD (bits w.imm 0 1) none = none) (v : Vec) :
    kSt env w v = v := by
  unfold kSt
  simp only [hf]

/-- ST changes no register and no contribution. -/
theorem kSt_keeps (env : KEnv) (w : KWord) (v : Vec) : (kSt env w v).regs = v.regs ∧ (kSt env w v).sums = v.sums := by
  cases hf : env.outFmt.getD (bits w.imm 0 1) none with
  | none => rw [kSt_of_no_format hf]; exact ⟨rfl, rfl⟩
  | some f => rw [kSt_of_format hf]; exact ⟨rfl, rfl⟩

/-- The lanes of register a, each rounded to the format that CVT names (R122, R183). -/
def KEnv.narrowed (env : KEnv) (v : Vec) (w : KWord) (f : Fmt) : List Conv :=
  ((v.reg w.a).zip env.elem).map (fun p => f.convert (if bits w.imm 4 1 = 1 then .stoch (env.draw 2 p.2) else .rne) (env.val p.1))

/-- The exact values of the lanes so rounded. -/
def KEnv.held (env : KEnv) (f : Fmt) (cs : List Conv) : List Val := cs.map (fun c => (f.decode c.bits).flush env.heritage f)

theorem kCvt_of_format {w : KWord} {f : Fmt} (hf : Fmt.ofCode (bits w.imm 0 4) = some f) (env : KEnv) (v : Vec) :
    kCvt env w v = { v.place env w.d (env.held f (env.narrowed v w f)) with
      sat := (v.place env w.d (env.held f (env.narrowed v w f))).sat + env.saturated (env.narrowed v w f)
      nonfin := v.nonfin + env.nonfinite (env.narrowed v w f) } := by
  unfold kCvt
  simp only [hf]
  rfl

theorem kCvt_of_no_format {w : KWord} (hf : Fmt.ofCode (bits w.imm 0 4) = none) (env : KEnv) (v : Vec) : kCvt env w v = v := by
  unfold kCvt
  simp only [hf]

/-- CVT changes no register but d, no store and no contribution. -/
theorem kCvt_onlyReg (env : KEnv) (w : KWord) (v : Vec) : v.OnlyReg (kCvt env w v) w.d := by
  cases hf : Fmt.ofCode (bits w.imm 0 4) with
  | none =>
    rw [kCvt_of_no_format hf]
    exact ⟨fun _ _ => rfl, rfl, rfl, rfl⟩
  | some f =>
    rw [kCvt_of_format hf]
    obtain ⟨-, hregs, -⟩ := Vec.place_takes v env w.d (env.held f (env.narrowed v w f))
    exact hregs

theorem kSt_runs (e : Fin 64) : RunsKernelOp (.kSt e) e 0x02 kSt := fun _ => rfl
theorem kCvt_runs (e : Fin 64) : RunsKernelOp (.kCvt e) e 0x30 kCvt := fun _ => rfl

/-- Settles O11, by whether the output or the format that the instruction names is there. -/
theorem kernelStoresAndConversions : Obligations.KernelStoresAndConversions := by
  unfold Obligations.KernelStoresAndConversions
  refine ⟨fun s e => (kSt_runs e).does s fun env w v => ?store, fun s e => (kCvt_runs e).does s fun env w v => ?convert,
    fun s e => ⟨(kSt_runs e).poisons s, (kCvt_runs e).poisons s⟩⟩
  case store =>
    cases hf : env.outFmt.getD (bits w.imm 0 1) none with
    | none => exact kSt_of_no_format hf v
    | some f => exact kSt_of_format hf v
  case convert =>
    cases hf : Fmt.ofCode (bits w.imm 0 4) with
    | none => exact kCvt_of_no_format hf env v
    | some f =>
      obtain ⟨hregs, hstores, hsums, hconv⟩ := kCvt_onlyReg env w v
      obtain ⟨hd, -, -, hsat⟩ := Vec.place_takes v env w.d (env.held f (env.narrowed v w f))
      refine ⟨env.narrowed v w f, rfl, ?_, hregs, hstores, hsums, hconv, ?_, ?_⟩ <;> rw [kCvt_of_format hf]
      · exact hd.trans (List.map_map ..)
      · rw [hsat, KEnv.held, List.map_map]
        rfl

/-! ### Moves (R116, R119, R122) -/

/-- A vector has a value of each input, a column and a row for every lane. -/
theorem State.kernEnv_input_length (s : State) (k : KernRun) (t : Task) (i : Nat) :
    ((s.kernEnv k t).input.getD i []).length ≤ (s.kernEnv k t).lanes := by
  by_cases hi : i < (s.kernEnv k t).input.length
  · rw [List.getD_eq_getElem _ _ hi]
    simp only [State.kernEnv, KEnv.lanes, List.getElem_map]
    split <;> simp
  · rw [List.getD_eq_default _ _ (Nat.not_lt.1 hi)]
    exact Nat.zero_le _

theorem State.kernEnv_index_length (s : State) (k : KernRun) (t : Task) (rows : Prop) [Decidable rows] :
    (if rows then (s.kernEnv k t).row else (s.kernEnv k t).col).length = (s.kernEnv k t).lanes := by
  split <;> simp [State.kernEnv, KEnv.lanes]

theorem kLd_of_wide {env : KEnv} {w : KWord} (h : env.lane.bits ≤ env.inBits.getD (bits w.imm 0 2) 0) (v : Vec) :
    kLd env w v = v.placeFrom env w.d (env.input.getD (bits w.imm 0 2) []) := if_pos h

theorem kLd_of_narrower {env : KEnv} {w : KWord} (h : ¬ env.lane.bits ≤ env.inBits.getD (bits w.imm 0 2) 0) (v : Vec) :
    kLd env w v = v.place env w.d (env.input.getD (bits w.imm 0 2) []) := if_neg h

theorem kNop_runs (e : Fin 64) : RunsKernelOp (.kNop e) e 0x00 kNop := fun _ => rfl
theorem kLd_runs (e : Fin 64) : RunsKernelOp (.kLd e) e 0x01 kLd := fun _ => rfl
theorem kLdi_runs (e : Fin 64) : RunsKernelOp (.kLdi e) e 0x03 kLdi := fun _ => rfl
theorem kLdp_runs (e : Fin 64) : RunsKernelOp (.kLdp e) e 0x04 kLdp := fun _ => rfl
theorem kLds_runs (e : Fin 64) : RunsKernelOp (.kLds e) e 0x05 kLds := fun _ => rfl
theorem kIdx_runs (e : Fin 64) : RunsKernelOp (.kIdx e) e 0x06 kIdx := fun _ => rfl
theorem kLdk_runs (e : Fin 64) : RunsKernelOp (.kLdk e) e 0x07 kLdk := fun _ => rfl

/-- Settles O9: LDI, LDP, LDS and LDK fill lanes with one value; LD and IDX place one value a lane, which the lanes of the
KERNEL's vector hold in full. -/
theorem kernelMovesFillLanes : Obligations.KernelMovesFillLanes := by
  unfold Obligations.KernelMovesFillLanes
  refine ⟨?nop, ?ld, ?ldi, ?ldp, ?lds, ?idx, ?ldk, ?poison, ?st, ?cvt⟩
  case nop => exact fun s e => (kNop_runs e).does s fun _ _ _ => rfl
  case ld =>
    refine fun s e => (kLd_runs e).does_in s fun k t w v => ?_
    split
    next hwide =>
      rw [kLd_of_wide hwide]
      exact Vec.placeFrom_converts v _ w.d _ (s.kernEnv_input_length k t _)
    next hnarrow =>
      rw [kLd_of_narrower hnarrow]
      exact Vec.place_takes v _ w.d _
  case ldi => exact fun s e => (kLdi_runs e).does s fun env w v => laneFill_fills env _ v w
  case ldp => exact fun s e => (kLdp_runs e).does s fun env w v => laneFill_fills env _ v w
  case lds => exact fun s e => (kLds_runs e).does s fun env w v => laneFill_fills env _ v w
  case idx =>
    refine fun s e => (kIdx_runs e).does_in s fun k t w v => Vec.placeFrom_converts v _ w.d _ ?_
    rw [List.length_map, s.kernEnv_index_length]
  case ldk => exact fun s e => (kLdk_runs e).does s fun env w v => laneFill_fills env _ v w
  case poison =>
    exact fun s e => ⟨(kNop_runs e).poisons s, (kLd_runs e).poisons s, (kLdi_runs e).poisons s, (kLdp_runs e).poisons s,
      (kLds_runs e).poisons s, (kIdx_runs e).poisons s, (kLdk_runs e).poisons s⟩
  case st => exact fun s e => (kSt_runs e).does s kSt_keeps
  case cvt =>
    refine fun s e => (kCvt_runs e).does s fun env w v => ?_
    obtain ⟨hregs, hstores, hsums, -⟩ := kCvt_onlyReg env w v
    exact ⟨hregs, hstores, hsums⟩

end Sys2Proof.Machine
end

section
/-!
The tile engines' faults and the switch-in of a stack's spare: what each command's equation is in the case at hand, and what the
registers and the compute state read after it.
-/
namespace Sys2Proof.Machine

/-! ### Frames of the engine commands -/

/-- Registers, the recorder and the compute state. -/
abbrev Touch.registersRecorderCompute : Nat := 16516

theorem State.eng_of_comp {s t : State} (h : t.comp = s.comp) (e : Nat) : t.eng e = s.eng e := by
  unfold State.eng
  rw [h]

theorem State.spare_of_comp {s t : State} (h : t.comp = s.comp) (cs : Nat) : t.spare cs = s.spare cs := by
  unfold State.spare
  rw [h]

theorem State.inventoryUpdate_comp (s : State) : s.inventoryUpdate.comp = s.comp :=
  (State.inventoryUpdate_ext (M₀ := 4) rfl (Ext.refl _ s)).comp rfl

theorem State.SameRegsBut.event {s t : State} {l : List Nat} (h : s.SameRegsBut t l) (hl : Reg.evrecLost ∈ l) (code : Nat)
    (part : Option Nat) (c : Bool) (i : Nat) (p : List Byte) : s.SameRegsBut (t.event code part c i p) l := fun off hoff =>
  (State.event_rd t _ _ _ _ _ (ne_of_mem_of_not_mem hl hoff).symm).trans (h off hoff)

/-! ### Vector faults (R126) -/

/-- The field of TE_FAULT_e that shows the kind of a vector fault. -/
def vectorFaultF (e : Nat) (parity : Bool) : FieldRef := if parity then Fld.teFault_reg_parity e else Fld.teFault_dp_residue e

theorem vectorFaultF_off (e : Nat) (parity : Bool) : (vectorFaultF e parity).off = Reg.teFault e := by cases parity <;> rfl
theorem vectorFaultF_width (e : Nat) (parity : Bool) : (vectorFaultF e parity).width = 1 := by cases parity <;> rfl
theorem vectorFaultF_low (e : Nat) (parity : Bool) : (vectorFaultF e parity).lo + (vectorFaultF e parity).width ≤ 32 := by
  cases parity
  · exact (by decide : 0 + 1 ≤ 32)
  · exact (by decide : 1 + 1 ≤ 32)

theorem vectorFaultF_onlyRegs (s : State) (e : Nat) (parity : Bool) :
    s.OnlyRegs (s.put (vectorFaultF e parity) 1) [Reg.teFault e] :=
  (State.OnlyRegs.refl s _).put 1 (List.mem_singleton.2 (vectorFaultF_off e parity))

section
variable {s : State} {e : Nat} {k : Task} (hk : s.currentTask e = some k) (hruns : s.engRuns e k = true) (parity : Bool)
include hk hruns

theorem vectorFault_retried (hlimit : k.attempts < s.f (Fld.teCtrl_reexec_limit e)) :
    vectorFault e parity s = ((s.put (vectorFaultF e parity) 1).bumpSat (Fld.teFault_reexecs e) 1).putTask e
      { k.restart with attempts := k.attempts + 1 } := by
  unfold vectorFault vectorFaultF
  simp only [hk, hruns, Nat.not_le.2 hlimit, Bool.true_eq_false, if_false]
  cases parity <;> rfl

theorem vectorFault_exhausted (hlimit : s.f (Fld.teCtrl_reexec_limit e) ≤ k.attempts) {u : State}
    (hu : u = ((s.put (vectorFaultF e parity) 1).put (Fld.teFault_reexec_exhausted e) 1).failTask k) :
    vectorFault e parity s = if u.flag (Fld.teCtrl_auto_spare e) then u.engineFailed e else u := by
  subst hu
  unfold vectorFault vectorFaultF
  simp only [hk, hruns, hlimit, Bool.true_eq_false, if_false, if_true]
  cases parity <;> rfl

end

/-! ### Errors of the tile store (R104, R127) -/

/-- The event of a tile-store error of an engine of partition p. -/
def State.storeEvent (s : State) (p e addr : Nat) : State :=
  s.event Blk.te (some p) (csCantle (e / 16)) e (genericPayload e addr 0)

theorem State.storeEvent_ext (s : State) (p e addr : Nat) : Ext 132 s (s.storeEvent p e addr) := State.event_ext rfl (Ext.refl _ s)

theorem teFault_ne_evrecLost {e : Nat} (he : e < 64) : Reg.teFault e ≠ Reg.evrecLost := by
  unfold Reg.teFault Reg.evrecLost
  omega

theorem State.storeEvent_teFault (s : State) (p addr : Nat) {e : Nat} (he : e < 64) {q : FieldRef} (hq : q.off = Reg.teFault e) :
    (s.storeEvent p e addr).f q = s.f q := State.event_f s _ _ _ _ _ (hq ▸ teFault_ne_evrecLost he)

/-- An engine with one corrected error more, and those of more than a second ago forgotten. -/
def Engine.corrected (x : Engine) (now : Nat) : Engine :=
  { x with ceTimes := x.ceTimes.filter (fun t => decide (now - t < 475000000)) ++ [now] }

/-- A corrected error is counted, kept for a second and told. -/
def State.errorCorrected (s : State) (e addr : Nat) : State :=
  ((s.bumpSat (Fld.teFault_store_ce e) 1).setEng e ((s.eng e).corrected s.now)).storeEvent (s.partOfCs (e / 16)) e addr

/-- An uncorrectable error is shown with its address, and told. -/
def State.errorShown (s : State) (e addr : Nat) : State :=
  ((s.put (Fld.teFault_store_ue e) 1).put (Fld.teFault_last_addr e) addr).storeEvent (s.partOfCs (e / 16)) e addr

theorem tileStoreEcc_corrected (e addr owner slot l : Nat) (s : State) :
    tileStoreEcc e addr true owner slot l s = s.errorCorrected e addr := rfl

theorem tileStoreEcc_uncorrectable (e addr owner slot l : Nat) (s : State) :
    tileStoreEcc e addr false owner slot l s = (s.errorShown e addr).storeError e addr owner slot l := rfl

theorem State.errorCorrected_ext (s : State) (e addr : Nat) : Ext Touch.registersRecorderCompute s (s.errorCorrected e addr) :=
  Ext.via rfl (State.setEng_ext rfl (State.bumpSat_ext rfl (Ext.refl _ s))) (State.storeEvent_ext _ _ e addr)

theorem State.errorShown_ext (s : State) (e addr : Nat) : Ext 132 s (s.errorShown e addr) :=
  Ext.via rfl (State.put_ext rfl (State.put_ext rfl (Ext.refl _ s))) (State.storeEvent_ext _ _ e addr)

theorem State.errorCorrected_eng (s : State) (e addr : Nat) : (s.errorCorrected e addr).eng e = (s.eng e).corrected s.now := by
  unfold State.errorCorrected
  rw [State.eng_of_comp ((State.storeEvent_ext _ _ e addr).comp rfl), State.setEng_eng]

theorem State.errorCorrected_count (s : State) {e : Nat} (he : e < 64) (addr : Nat) :
    (s.errorCorrected e addr).f (Fld.teFault_store_ce e) = min (s.f (Fld.teFault_store_ce e) + 1) 65535 := by
  unfold State.errorCorrected
  rw [State.storeEvent_teFault _ _ _ he rfl, State.setEng_f]
  exact State.f_bumpSat_self (r := Fld.teFault_store_ce e) s 1 (by decide : 48 + 16 ≤ 64)

theorem State.errorShown_flag (s : State) {e : Nat} (he : e < 64) (addr : Nat) :
    (s.errorShown e addr).flag (Fld.teFault_store_ue e) = true := by
  unfold State.errorShown
  rw [State.flag_iff, State.storeEvent_teFault _ _ _ he rfl,
    State.f_put_sep (r := Fld.teFault_last_addr e) _ _ (by decide : 8 + 23 ≤ 64) (.inl (by decide : 2 + 1 ≤ 8)),
    State.f_put_self (r := Fld.teFault_store_ue e) _ _ (by decide : 2 + 1 ≤ 64)]
  exact Nat.one_ne_zero

theorem State.errorShown_addr (s : State) {e : Nat} (he : e < 64) {addr : Nat} (haddr : addr < 2 ^ 23) :
    (s.errorShown e addr).f (Fld.teFault_last_addr e) = addr := by
  unfold State.errorShown
  rw [State.storeEvent_teFault _ _ _ he rfl, State.f_put_self (r := Fld.teFault_last_addr e) _ _ (by decide : 8 + 23 ≤ 64)]
  exact Nat.mod_eq_of_lt haddr

theorem State.errorCorrected_sameRegsBut (s : State) (e addr : Nat) :
    s.SameRegsBut (s.errorCorrected e addr) [Reg.teFault e, Reg.evrecLost] := by
  refine State.SameRegsBut.event (fun off hoff => ?_) (by simp) _ _ _ _ _
  rw [State.setEng_rd]
  exact State.rd_bumpSat_ne s 1 (List.ne_of_not_mem_cons hoff)

theorem State.errorShown_sameRegsBut (s : State) (e addr : Nat) :
    s.SameRegsBut (s.errorShown e addr) [Reg.teFault e, Reg.evrecLost] := by
  refine State.SameRegsBut.event (fun off hoff => ?_) (by simp) _ _ _ _ _
  rw [State.rd_put_ne _ _ (List.ne_of_not_mem_cons hoff), State.rd_put_ne _ _ (List.ne_of_not_mem_cons hoff)]

/-- Settles O25, by the count of attempts against the limit and by the kind of the store's error. -/
theorem engineFaultsAreRetriedThenDeclared : Obligations.EngineFaultsAreRetriedThenDeclared := by
  unfold Obligations.EngineFaultsAreRetriedThenDeclared
  refine ⟨?retried, ?exhausted, ?corrected, ?uncorrectable⟩
  case retried =>
    intro s e parity k hl hk hruns hlimit
    refine ⟨_, hl.runs (vectorFault_retried hk hruns parity hlimit), ?_, ?_,
      (vectorFaultF_onlyRegs s e parity).put _ (List.mem_singleton_self _)⟩
    · have hshown : ((s.put (vectorFaultF e parity) 1).bumpSat (Fld.teFault_reexecs e) 1).f (vectorFaultF e parity) = 1 := by
        rw [State.f_bumpSat_sep (r := Fld.teFault_reexecs e) _ _ (by decide : 32 + 16 ≤ 64) (.inl (vectorFaultF_low e parity)),
          State.f_put_self _ _ ((vectorFaultF_low e parity).trans (by decide)), vectorFaultF_width]
        rfl
      rw [State.flag_iff]
      exact ne_of_eq_of_ne hshown Nat.one_ne_zero
    · rw [State.f_bumpSat_self (r := Fld.teFault_reexecs e) _ 1 (by decide : 32 + 16 ≤ 64),
        State.f_put_sep _ _ ((vectorFaultF_low e parity).trans (by decide)) (.inr (vectorFaultF_low e parity))]
      rfl
  case exhausted =>
    intro s e parity k hl hk hruns hlimit
    refine ⟨_, _, rfl, hl.runs (vectorFault_exhausted hk hruns parity hlimit rfl), ?_,
      (vectorFaultF_onlyRegs s e parity).put 1 (List.mem_singleton_self _)⟩
    rw [State.flag_put_self (r := Fld.teFault_reexec_exhausted e) _ 1 (by decide : 3 + 1 ≤ 64)]
    rfl
  case corrected =>
    intro s e addr owner slot l hl
    obtain ⟨hhbm, hctl⟩ := (s.errorCorrected_ext e addr).sparesHbmAndCtl rfl
    exact ⟨_, hl.runs (tileStoreEcc_corrected e addr owner slot l s), s.errorCorrected_count e.isLt addr,
      congrArg Engine.ceTimes (s.errorCorrected_eng e addr), s.errorCorrected_sameRegsBut e addr, hhbm, hctl⟩
  case uncorrectable =>
    intro s e addr owner slot l hl
    obtain ⟨hhbm, hctl⟩ := (s.errorShown_ext e addr).sparesHbmAndCtl rfl
    exact ⟨_, hl.runs (tileStoreEcc_uncorrectable e addr owner slot l s), s.errorShown_flag e.isLt addr,
      s.errorShown_addr e.isLt addr.isLt, s.errorShown_sameRegsBut e addr, hctl, (s.errorShown_ext e addr).comp rfl, hhbm⟩

/-! ### A switch-in starts (R127, R128) -/

/-- A spare's status lies above the status of every engine. -/
theorem teSpareStatus_ne_teStatus (cs : Nat) {e : Nat} (he : e < 64) : Reg.teSpareStatus cs ≠ Reg.teStatus e := by
  unfold Reg.teSpareStatus Reg.teStatus
  omega

theorem teFault_ne_teSpareStatus (e cs : Nat) : Reg.teFault e ≠ Reg.teSpareStatus cs := by
  unfold Reg.teFault Reg.teSpareStatus
  omega

theorem teFault_ne_teStatus (e i : Nat) : Reg.teFault e ≠ Reg.teStatus i := by
  unfold Reg.teFault Reg.teStatus
  omega

theorem teFault_ne_inventory (e : Nat) : Reg.teFault e ≠ Reg.inventory := by
  unfold Reg.teFault Reg.inventory
  omega

theorem teStatus_ne_evrecLost {e : Nat} (he : e < 64) : Reg.teStatus e ≠ Reg.evrecLost := by
  unfold Reg.teStatus Reg.evrecLost
  omega

theorem teSpareStatus_ne_evrecLost {cs : Nat} (hcs : cs < 4) : Reg.teSpareStatus cs ≠ Reg.evrecLost := by
  unfold Reg.teSpareStatus Reg.evrecLost
  omega

theorem teSpareStatus_ne_inventory (cs : Nat) : Reg.teSpareStatus cs ≠ Reg.inventory := by
  unfold Reg.teSpareStatus Reg.inventory
  omega

theorem teStatus_ne_inventory (e : Nat) : Reg.teStatus e ≠ Reg.inventory := by
  unfold Reg.teStatus Reg.inventory
  omega

theorem State.f_inventoryUpdate_teStatus (s : State) (e : Nat) {q : FieldRef} (hq : q.off = Reg.teStatus e) :
    s.inventoryUpdate.f q = s.f q := State.inventoryUpdate_f s (hq ▸ teStatus_ne_inventory e)

theorem State.f_inventoryUpdate_teSpareStatus (s : State) (cs : Nat) {q : FieldRef} (hq : q.off = Reg.teSpareStatus cs) :
    s.inventoryUpdate.f q = s.f q := State.inventoryUpdate_f s (hq ▸ teSpareStatus_ne_inventory cs)

/-- The spare of a stack is to be tested for a target and a trigger. -/
def State.spareAsked (s : State) (cs target trigger : Nat) : State :=
  (s.setSpare cs (some ⟨target, trigger⟩)).put (Fld.teSpareStatus_state cs) 1

/-- A failed engine runs nothing more, and its vector in progress starts over. -/
def State.engineStopped (s : State) (e : Nat) : State :=
  (s.setEng e { s.eng e with tasks := (s.eng e).tasks.map (fun k => if k.pos = 0 then k else k.restart) }).put
    (Fld.teStatus_state e) 2

theorem State.startSpare_serving (s : State) (cs target : Nat) {trigger : Nat} (h : trigger ≠ 0) :
    s.startSpare cs target trigger = (s.spareAsked cs target trigger).inventoryUpdate := if_neg h

theorem State.startSpare_failed (s : State) (cs target : Nat) :
    s.startSpare cs target 0 = ((s.spareAsked cs target 0).engineStopped (16 * cs + target)).inventoryUpdate := rfl

theorem State.spareAsked_spare (s : State) (cs target trigger : Nat) :
    (s.spareAsked cs target trigger).spare cs = some ⟨target, trigger⟩ :=
  (State.spare_of_comp (State.put_comp _ _ _) cs).trans (State.setSpare_spare s cs _)

theorem State.spareAsked_state (s : State) (cs target trigger : Nat) :
    (s.spareAsked cs target trigger).f (Fld.teSpareStatus_state cs) = 1 :=
  State.f_put_self (r := Fld.teSpareStatus_state cs) _ _ (by decide : 0 + 3 ≤ 64)

theorem State.spareAsked_f (s : State) {cs : Nat} (target trigger : Nat) {q : FieldRef} (h : q.off ≠ Reg.teSpareStatus cs) :
    (s.spareAsked cs target trigger).f q = s.f q := (State.f_put_ne _ _ h).trans (State.setSpare_f _ _ _ _)

theorem State.spareAsked_eng (s : State) (cs target trigger e : Nat) : (s.spareAsked cs target trigger).eng e = s.eng e :=
  (State.eng_of_comp (State.put_comp _ _ _) e).trans rfl

theorem State.spareAsked_ext (s : State) (cs target trigger : Nat) : Ext 16388 s (s.spareAsked cs target trigger) :=
  State.put_ext rfl (State.setSpare_ext rfl (Ext.refl _ s))

theorem teSpareCtrl_idle {s : State} {cs v : Nat} (hgo : bits v 8 1 = 1) (hidle : s.f (Fld.teSpareStatus_state cs) = 0) :
    teSpareCtrl cs v s = (s.spareAsked cs (bits v 0 4) 2).inventoryUpdate := by
  unfold teSpareCtrl
  rw [if_neg (by rw [hgo]; decide), if_neg (not_not_intro hidle)]
  exact State.startSpare_serving s cs _ (by decide)

/-- An engine whose corrected errors have asked for its spare. -/
def State.errorsForgotten (s : State) (e : Nat) : State := s.setEng e { s.eng e with ceTimes := [] }

theorem ceLimitExceeded_idle {s : State} {e : Nat} (hlimit : s.f (Fld.teCtrl_ce_limit e) ≠ 0)
    (hpassed : s.f (Fld.teCtrl_ce_limit e) < ((s.eng e).ceTimes.filter (fun k => decide (s.now - k < 475000000))).length)
    (hidle : s.f (Fld.teSpareStatus_state (e / 16)) = 0) :
    ceLimitExceeded e s = ((s.errorsForgotten e).spareAsked (e / 16) (e % 16) 1).inventoryUpdate := by
  have hidle' : (s.errorsForgotten e).f (Fld.teSpareStatus_state (e / 16)) = 0 := hidle
  unfold ceLimitExceeded
  rw [if_pos ⟨hlimit, hpassed⟩]
  exact (if_pos hidle').trans (State.startSpare_serving _ _ _ (by decide))

theorem State.engineStopped_f (s : State) (e : Nat) {q : FieldRef} (h : q.off ≠ Reg.teStatus e) : (s.engineStopped e).f q = s.f q :=
  (State.f_put_ne _ _ h).trans (State.setEng_f _ _ _ _)

theorem State.engineStopped_state (s : State) (e : Nat) : (s.engineStopped e).f (Fld.teStatus_state e) = 2 :=
  State.f_put_self (r := Fld.teStatus_state e) _ _ (by decide : 0 + 3 ≤ 64)

theorem State.engineStopped_spare (s : State) (e cs : Nat) : (s.engineStopped e).spare cs = s.spare cs :=
  State.spare_of_comp (State.put_comp _ _ _) cs

/-- A failed engine whose spare is free is shown, stopped and given the spare. -/
theorem State.engineFailed_idle {s : State} {e : Nat} (hidle : s.f (Fld.teSpareStatus_state (e / 16)) = 0) :
    s.engineFailed e = (((s.put (Fld.teFault_failed e) 1).spareAsked (e / 16) (e % 16) 0).engineStopped e).inventoryUpdate := by
  have hidle' : (s.put (Fld.teFault_failed e) 1).f (Fld.teSpareStatus_state (e / 16)) = 0 := by
    rwa [State.f_put_ne s 1 (teFault_ne_teSpareStatus e (e / 16)).symm]
  unfold State.engineFailed
  rw [if_pos hidle', State.startSpare_failed, Nat.div_add_mod]

/-! ### A switch-in moves on (R127) -/

section
variable {s : State} {cs : Nat} {x : Spare} (hx : s.spare cs = some x)
include hx

theorem spareSelfTestDone_passed (hstate : s.f (Fld.teSpareStatus_state cs) = 1) :
    spareSelfTestDone cs true s = (s.put (Fld.teSpareStatus_state cs) 2).put (Fld.teSpareStatus_serving cs) x.target := by
  unfold spareSelfTestDone
  simp only [hx, hstate, ne_eq, not_true_eq_false, if_false, if_true]

theorem spareSelfTestDone_refused (hstate : s.f (Fld.teSpareStatus_state cs) = 1) (htrigger : x.trigger ≠ 0) :
    spareSelfTestDone cs false s = ((s.put (Fld.teSpareStatus_state cs) 5).setSpare cs none).inventoryUpdate := by
  unfold spareSelfTestDone
  simp only [hx, hstate, htrigger, ne_eq, not_true_eq_false, Bool.false_eq_true, if_false]

theorem spareCopyDone_copying (hstate : s.f (Fld.teSpareStatus_state cs) = 2) :
    spareCopyDone cs s = (s.put (Fld.teSpareStatus_state cs) 3).put (Fld.teStatus_state (16 * cs + x.target)) 2 := by
  unfold spareCopyDone
  simp only [hx, hstate, if_true]

end

/-- The spare serves for an engine of its stack, and the switch is owed to the keep ledger. -/
def State.spareServes (s : State) (cs target : Nat) : State :=
  let t := ((s.put (Fld.teSpareStatus_state cs) 4).put (Fld.teStatus_on_spare (16 * cs + target)) 1).put
    (Fld.teStatus_state (16 * cs + target)) 0
  t.setComp { t.comp with keepSwitches := t.comp.keepSwitches ++ [(cs, target)] }

/-- An array that goes on at the cycles after the last one it has counted as busy. -/
def ArrState.resumed (y : ArrState) : ArrState :=
  { y with nextLoad := max y.nextLoad (y.busyEnd + 1), nextStart := max y.nextStart (y.busyEnd + 2) }

/-- What the cut-over leaves before it is told: the spare serving, the array resumed, the engine's tasks let in. -/
def State.cutOver (s : State) (cs target : Nat) : State :=
  ((s.spareServes cs target).setArr cs ((s.spareServes cs target).arr cs).resumed).engUpdate (16 * cs + target)

theorem spareCutover_due {s : State} {cs : Nat} {x : Spare} (hx : s.spare cs = some x)
    (hstate : s.f (Fld.teSpareStatus_state cs) = 3) (hflight : (s.arr cs).flight = [])
    (hvectors : ∀ t ∈ (s.eng (16 * cs + x.target)).tasks, t.pos = 0) :
    ∃ p, spareCutover cs s = ((s.cutOver cs x.target).event 0x0303 (some p) (csCantle cs) cs
      (toLE 1 cs ++ toLE 1 x.target ++ toLE 1 x.trigger)).inventoryUpdate := by
  have hdue : ¬ (s.f (Fld.teSpareStatus_state cs) ≠ 3 ∨ (s.arr cs).flight.isEmpty = false ∨
      (s.eng (16 * cs + x.target)).tasks.any (fun t => t.pos != 0) = true) := by
    simpa [hstate, hflight] using hvectors
  unfold spareCutover
  simp only [hx, if_neg hdue]
  exact ⟨_, rfl⟩

theorem State.engUpdate_onSpare (s : State) (e : Nat) :
    (s.engUpdate e).f (Fld.teStatus_on_spare e) = s.f (Fld.teStatus_on_spare e) := by
  unfold State.engUpdate
  extract_lets x all t
  have ht : t.f (Fld.teStatus_on_spare e) = s.f (Fld.teStatus_on_spare e) :=
    (State.f_put_sep _ _ (by decide : 4 + 4 ≤ 64) (.inl (by decide : 3 + 1 ≤ 4))).trans (State.setEng_f _ _ _ _)
  split
  · exact ht
  · exact (State.f_put_sep _ _ (by decide : 0 + 3 ≤ 64) (.inr (by decide : 0 + 3 ≤ 3))).trans ht

/-- An engine that is not switching or failed is IDLE or BUSY after its tasks are let in. -/
theorem State.engUpdate_serves {s : State} {e : Nat} (h : s.f (Fld.teStatus_state e) < 2) :
    (s.engUpdate e).f (Fld.teStatus_state e) < 2 := by
  unfold State.engUpdate
  extract_lets x all t
  have ht : t.f (Fld.teStatus_state e) = s.f (Fld.teStatus_state e) :=
    (State.f_put_sep _ _ (by decide : 4 + 4 ≤ 64) (.inl (by decide : 0 + 3 ≤ 4))).trans (State.setEng_f _ _ _ _)
  rw [if_neg (by rw [ht]; exact Nat.not_le.2 h), State.f_put_self (r := Fld.teStatus_state e) _ _ (by decide : 0 + 3 ≤ 64)]
  split
  · exact (by decide : 0 % 2 ^ 3 < 2)
  · exact (by decide : 1 % 2 ^ 3 < 2)

theorem State.engUpdate_keepSwitches (s : State) (e : Nat) : (s.engUpdate e).comp.keepSwitches = s.comp.keepSwitches := by
  unfold State.engUpdate
  extract_lets x all t
  have ht : t.comp.keepSwitches = s.comp.keepSwitches := by
    unfold t
    rw [State.put_comp]
    rfl
  split
  · exact ht
  · rwa [State.put_comp]

section
variable (s : State) (cs target : Nat)

theorem State.spareServes_serves : (s.spareServes cs target).f (Fld.teStatus_state (16 * cs + target)) = 0 := by
  unfold State.spareServes
  rw [State.setComp_f]
  exact State.f_put_self (r := Fld.teStatus_state (16 * cs + target)) _ _ (by decide : 0 + 3 ≤ 64)

theorem State.cutOver_state (he : 16 * cs + target < 64) : (s.cutOver cs target).f (Fld.teSpareStatus_state cs) = 4 := by
  have hne : (Fld.teSpareStatus_state cs).off ≠ Reg.teStatus (16 * cs + target) := teSpareStatus_ne_teStatus cs he
  unfold State.cutOver State.spareServes
  rw [State.engUpdate_f _ hne, State.setArr_f, State.setComp_f, State.f_put_ne _ _ hne, State.f_put_ne _ _ hne,
    State.f_put_self (r := Fld.teSpareStatus_state cs) _ _ (by decide : 0 + 3 ≤ 64)]
  rfl

theorem State.cutOver_onSpare : (s.cutOver cs target).f (Fld.teStatus_on_spare (16 * cs + target)) = 1 := by
  unfold State.cutOver State.spareServes
  rw [State.engUpdate_onSpare, State.setArr_f, State.setComp_f,
    State.f_put_sep (r := Fld.teStatus_state (16 * cs + target)) (q := Fld.teStatus_on_spare (16 * cs + target)) _ _
      (by decide : 0 + 3 ≤ 64) (.inr (by decide : 0 + 3 ≤ 3)),
    State.f_put_self (r := Fld.teStatus_on_spare (16 * cs + target)) _ _ (by decide : 3 + 1 ≤ 64)]
  rfl

theorem State.cutOver_serves : (s.cutOver cs target).f (Fld.teStatus_state (16 * cs + target)) < 2 := by
  refine State.engUpdate_serves ?_
  rw [State.setArr_f, State.spareServes_serves]
  decide

theorem State.cutOver_keepSwitches : (s.cutOver cs target).comp.keepSwitches = s.comp.keepSwitches ++ [(cs, target)] :=
  (State.engUpdate_keepSwitches _ _).trans rfl

theorem State.cutOver_ext : Ext 16388 s (s.cutOver cs target) :=
  State.engUpdate_ext rfl (State.setArr_ext rfl (State.setComp_ext rfl (State.put_ext rfl (State.put_ext rfl (State.put_ext rfl
    (Ext.refl _ s))))))

end

/-- Settles O26: each command starts the switch or moves it on by its equation in the case at hand, read off the spare and the
registers it leaves. -/
theorem spareEnginesSwitchIn : Obligations.SpareEnginesSwitchIn := by
  unfold Obligations.SpareEnginesSwitchIn
  refine ⟨?requested, ?limit, ?failed, ?tested, ?refused, ?copied, ?cutover⟩
  case requested =>
    intro s w cs v hl haccepts hgo hidle
    obtain ⟨hhbm, hctl⟩ := (State.inventoryUpdate_ext (M₀ := 16388) rfl
      (s.spareAsked_ext cs (bits v.toNat 0 4) 2)).sparesHbmAndCtl rfl
    refine ⟨_, (State.unlessReset_regWrite hl haccepts).trans (congrArg _ (teSpareCtrl_idle hgo hidle)), ?_, ?_, fun e he => ?_,
      hhbm, hctl⟩
    · rw [State.f_inventoryUpdate_teSpareStatus _ cs rfl, State.spareAsked_state]
    · rw [State.spare_of_comp (State.inventoryUpdate_comp _), State.spareAsked_spare]
    · rw [State.f_inventoryUpdate_teStatus _ e rfl, State.spareAsked_f _ _ _ (teSpareStatus_ne_teStatus cs he).symm]
  case limit =>
    intro s e hl hlimit hpassed hidle
    obtain ⟨hhbm, hctl⟩ := (State.inventoryUpdate_ext (M₀ := 16388) rfl
      (Ext.via rfl (State.setEng_ext rfl (Ext.refl _ s))
        ((s.errorsForgotten e).spareAsked_ext (e / 16) (e % 16) 1))).sparesHbmAndCtl rfl
    refine ⟨_, hl.runs (ceLimitExceeded_idle hlimit hpassed hidle), ?_, ?_, ?_, ?_, hhbm, hctl⟩
    · rw [State.f_inventoryUpdate_teSpareStatus _ _ rfl, State.spareAsked_state]
    · rw [State.f_inventoryUpdate_teStatus _ _ rfl, State.spareAsked_f _ _ _ (teSpareStatus_ne_teStatus _ e.isLt).symm]
      exact State.setEng_f _ _ _ _
    · rw [State.spare_of_comp (State.inventoryUpdate_comp _), State.spareAsked_spare]
    · rw [State.eng_of_comp (State.inventoryUpdate_comp _), State.spareAsked_eng]
      exact congrArg Engine.ceTimes (s.setEng_eng e _)
  case failed =>
    intro s e hidle he
    have hstatus := teSpareStatus_ne_teStatus (e / 16) he
    rw [State.engineFailed_idle hidle]
    refine ⟨?_, ?_, ?_, ?_⟩
    · rw [State.flag_iff, State.inventoryUpdate_f _ (teFault_ne_inventory e), State.engineStopped_f _ _ (teFault_ne_teStatus e e),
        State.spareAsked_f _ _ _ (teFault_ne_teSpareStatus e _),
        State.f_put_self (r := Fld.teFault_failed e) _ _ (by decide : 4 + 1 ≤ 64)]
      exact Nat.one_ne_zero
    · rw [State.f_inventoryUpdate_teSpareStatus _ _ rfl, State.engineStopped_f _ _ hstatus, State.spareAsked_state]
    · rw [State.f_inventoryUpdate_teStatus _ _ rfl, State.engineStopped_state]
    · rw [State.spare_of_comp (State.inventoryUpdate_comp _), State.engineStopped_spare, State.spareAsked_spare]
  case tested =>
    intro s cs x hl hx hstate
    refine ⟨_, hl.runs (spareSelfTestDone_passed hx hstate), ?_, ?_,
      ((State.OnlyRegs.refl s _).put 2 (List.mem_singleton_self _)).put x.target (List.mem_singleton_self _)⟩
    · rw [State.f_put_sep (r := Fld.teSpareStatus_serving cs) _ _ (by decide : 4 + 4 ≤ 64) (.inl (by decide : 0 + 3 ≤ 4)),
        State.f_put_self (r := Fld.teSpareStatus_state cs) _ _ (by decide : 0 + 3 ≤ 64)]
      rfl
    · exact State.f_put_self (r := Fld.teSpareStatus_serving cs) _ _ (by decide : 4 + 4 ≤ 64)
  case refused =>
    intro s cs x hl hx hstate htrigger _
    obtain ⟨hhbm, hctl⟩ := (State.inventoryUpdate_ext (M₀ := 16388) rfl (State.setSpare_ext (cs := cs) (x := none) rfl
      (State.put_ext (r := Fld.teSpareStatus_state cs) (v := 5) rfl (Ext.refl _ s)))).sparesHbmAndCtl rfl
    refine ⟨_, hl.runs (spareSelfTestDone_refused hx hstate htrigger), ?_, ?_, hhbm, hctl⟩
    · rw [State.f_inventoryUpdate_teSpareStatus _ cs rfl, State.setSpare_f,
        State.f_put_self (r := Fld.teSpareStatus_state cs) _ _ (by decide : 0 + 3 ≤ 64)]
      rfl
    · rw [State.spare_of_comp (State.inventoryUpdate_comp _), State.setSpare_spare]
  case copied =>
    intro s cs x hl hx hstate htarget
    have he : 16 * cs.val + x.target < 64 := by omega
    refine ⟨_, hl.runs (spareCopyDone_copying hx hstate), ?_, ?_,
      ((State.OnlyRegs.refl s _).put 3 (List.mem_cons_self ..)).put 2 (List.mem_cons_of_mem _ (List.mem_singleton_self _))⟩
    · rw [State.f_put_ne _ _ (teSpareStatus_ne_teStatus cs he),
        State.f_put_self (r := Fld.teSpareStatus_state cs) _ _ (by decide : 0 + 3 ≤ 64)]
      rfl
    · exact State.f_put_self (r := Fld.teStatus_state (16 * cs + x.target)) _ _ (by decide : 0 + 3 ≤ 64)
  case cutover =>
    intro s cs x hl hx htarget hstate hflight hvectors
    have he : 16 * cs.val + x.target < 64 := by omega
    obtain ⟨p, hcut⟩ := spareCutover_due hx hstate hflight hvectors
    obtain ⟨hhbm, hctl⟩ := (State.inventoryUpdate_ext (M₀ := Touch.registersRecorderCompute) rfl
      (State.event_ext rfl ((s.cutOver_ext cs x.target).mono rfl))).sparesHbmAndCtl rfl
    refine ⟨_, hl.runs hcut, ?_, ?_, ?_, ?_, hhbm, hctl⟩
    · rw [State.f_inventoryUpdate_teSpareStatus _ cs rfl, State.event_f _ _ _ _ _ _ (teSpareStatus_ne_evrecLost cs.isLt),
        State.cutOver_state _ _ _ he]
    · rw [State.flag_iff, State.f_inventoryUpdate_teStatus _ _ rfl, State.event_f _ _ _ _ _ _ (teStatus_ne_evrecLost he),
        State.cutOver_onSpare]
      exact Nat.one_ne_zero
    · rw [State.f_inventoryUpdate_teStatus _ _ rfl, State.event_f _ _ _ _ _ _ (teStatus_ne_evrecLost he)]
      exact State.cutOver_serves s cs x.target
    · rw [State.inventoryUpdate_comp, State.event_comp, State.cutOver_keepSwitches]

end Sys2Proof.Machine
end

section
/-!
What is done with operands and sums around the passes of a MATMUL: stirrup writes, the skiver, the accumulate add, epilogues and
the awl's shadow check.
-/
namespace Sys2Proof.Machine

/-- Any component but the compute state. -/
abbrev Touch.besideCompute : Nat := 0x7FBFFF

/-! ### Stirrup writes (R141, R142) -/

/-- The array with a run written into the segment of its pass. -/
def ArrState.stirred (x : ArrState) (g : Seg) (m : MmRun) (i : PassId) (vs : List ((Nat × Nat) × Elem)) : ArrState :=
  { x with segs := x.segs.filter (fun y => y.id != i) ++ [g.writeRun m vs] }

/-- The bytes of a run, and of the scales that a new segment takes with it, counted in both operands' contexts. -/
def State.stirrupCounted (s : State) (m : MmRun) (o : Op) (n : Nat) (sb : Nat × Nat) : State :=
  (s.countBytes (o.b 0x24 4) 0 (m.xd.sizeOf n + sb.1)).countBytes (o.b 0x20 4) 0 sb.2

theorem stirrupWrite_clean {s : State} {a : Nat} {alongM : Bool} {m0 k0 : Nat} {i : PassId} {m : MmRun} {o : Op} {g : Seg}
    {x : ArrState} (hnext : s.nextPass a = some i) (hm : s.mm i.slot = some m) (ho : s.op i.slot = some o)
    (hlive : s.arrayLive a = true) (hseg : s.segFor a m i = some (g, x))
    (hscales : (s.arr a).segs.all (fun y => y.id != i) = true → s.segPoisoned m i = false)
    (hqx : g.qx.contains 0xFF = false) (hqw : g.qw.contains 0xFF = false)
    (hfree : (m.stirrupRun i g alongM m0 k0).any (fun e => s.chanWaits (m.xd.elemRun 0 (m.xPlace i e).1 (m.xPlace i e).2).1
      (m.xd.elemRun 0 (m.xPlace i e).1 (m.xPlace i e).2).2) = false)
    (hpoison : (s.stirrupVals m i (m.stirrupRun i g alongM m0 k0)).any (fun v => v.2 == .poison) = false)
    (hbad : (s.stirrupVals m i (m.stirrupRun i g alongM m0 k0)).any (fun v => v.2 == .bad) = false) :
    ∃ n sb, stirrupWrite a alongM m0 k0 s =
      ((s.setArr a (x.stirred g m i (s.stirrupVals m i (m.stirrupRun i g alongM m0 k0)))).stirrupCounted m o n sb).arrUpdate a := by
  have hscales' : ¬ ((s.arr a).segs.all (fun y => y.id != i) = true ∧ s.segPoisoned m i = true) := fun h =>
    Bool.false_ne_true ((hscales h.1).symm.trans h.2)
  unfold stirrupWrite
  simp only [hnext, hm, ho, hlive, hseg, hqx, hqw, hfree, hpoison, hbad, if_neg hscales', Bool.or_self, Bool.true_eq_false,
    Bool.false_eq_true, if_false]
  exact ⟨_, _, rfl⟩

theorem State.stirrupCounted_ext (s : State) (m : MmRun) (o : Op) (n : Nat) (sb : Nat × Nat) :
    Ext 4100 s (s.stirrupCounted m o n sb) := State.countBytes_ext rfl (State.countBytes_ext rfl (Ext.refl _ s))

/-! ### The skiver (R110, R111) -/

/-- A converted tile as it stands in the output buffer. -/
def MmRun.outTile (m : MmRun) (i : PassId) (tl : Nat) (els : List Skived) (planes : List (Nat × List Byte)) : OutTile :=
  ⟨i, tl, m.outCtx, ((els.map (fun e => (e.addr, e.bytes)) ++ planes).map (fun e => e.2.length)).foldl (· + ·) 0, els.length,
    els.map (fun e => (e.addr, e.bytes)) ++ planes⟩

/-- The tile's slices are freed, and the tile is in the output buffer. -/
def State.tileBuffered (s : State) (a : Nat) (m : MmRun) (i : PassId) (tl : Nat) (o : OutTile) : State :=
  (s.setArr a { (s.arr a).freeBlock m i tl with outBuf := ((s.arr a).freeBlock m i tl).outBuf ++ [o] }).arrUpdate a

/-- What is counted, triggered and tainted once a tile is in the output buffer changes no array. -/
theorem State.tileConverted_ext_buffered (s : State) (a : Nat) (i : PassId) (m : MmRun) (tl : Nat) (els : List Skived)
    (planes : List (Nat × List Byte)) :
    Ext Touch.besideCompute (s.tileBuffered a m i tl (m.outTile i tl els planes)) (s.tileConverted a i m tl els planes) := by
  unfold State.tileConverted
  extract_lets ws y buffered counted told
  have hcounted : Ext Touch.besideCompute buffered counted := by
    unfold counted
    split
    · exact Ext.refl _ _
    · exact State.skiveCount_ext rfl (Ext.refl _ _)
  have htold : Ext Touch.besideCompute buffered told := by
    unfold told
    split
    · exact State.trigger_ext rfl hcounted
    · exact hcounted
  split
  · split
    · exact State.taintWrites_ext rfl htold
    · exact htold
  · exact htold

theorem State.tileConverted_outBuf (s : State) (a : Nat) (i : PassId) (m : MmRun) (tl : Nat) (els : List Skived)
    (planes : List (Nat × List Byte)) :
    ((s.tileConverted a i m tl els planes).arr a).outBuf = (s.arr a).outBuf ++ [m.outTile i tl els planes] := by
  rw [State.arr_of_comp ((s.tileConverted_ext_buffered a i m tl els planes).comp rfl), State.tileBuffered,
    State.setArr_arrUpdate_arr]
  rfl

theorem skiverTileConvert_clean {s : State} {a : Nat} {i : PassId} {m : MmRun} {tl : Nat} {x : ArrState}
    (hnext : s.nextTile a = some (i, m, tl, x)) (hmay : s.skiveMay a = true)
    (hfree : (m.supplied i.unit tl).any (fun r => s.chanWaits r.1 r.2) = false)
    (hclean : (m.supplied i.unit tl).any (fun r => s.poisoned r.1 r.2) = false) (hscales : (s.skive a x m i tl).2.2 = false) :
    ∃ n, skiverTileConvert a s =
      (s.countBytes m.outCtx 0 n).tileConverted a i m tl (s.skive a x m i tl).1 (s.skive a x m i tl).2.1 := by
  unfold skiverTileConvert
  simp only [hnext, hmay, hfree, hclean, hscales, Bool.true_eq_false, Bool.false_eq_true, or_self, if_false]
  exact ⟨_, rfl⟩

/-! ### The accumulate add (R106, R165, R166) -/

/-- A MATMUL with tile tl of a unit among those in memory. -/
def MmRun.tileDone (m : MmRun) (i : PassId) (tl : Nat) : MmRun :=
  { m with written := if m.written.contains (64 * i.unit + tl) then m.written else m.written ++ [64 * i.unit + tl] }

theorem State.tileWritten_mm (s : State) (a : Nat) (i : PassId) (m : MmRun) (tl : Nat) :
    (s.tileWritten a i m tl).mm i.slot = some (m.tileDone i tl) := by
  unfold State.tileWritten
  extract_lets m2 x y
  have hcomp : (((((s.setArr a y).setMm i.slot (some m2)).arrUpdate a)).matmulDone i.slot).comp =
      ((s.setArr a y).setMm i.slot (some m2)).comp :=
    ((State.matmulDone_ext (M₀ := 64) rfl (Ext.refl _ _)).comp rfl).trans (State.arrUpdate_comp _ a)
  exact (congrArg (fun c : Compute => Sparse.get (fun _ => none) c.mm i.slot) hcomp).trans (State.setMm_mm _ i.slot _)

theorem accumulateAdd_clean {s : State} {a : Nat} {i : PassId} {m : MmRun} {tl : Nat}
    (hfinal : s.finalTile a true = some (i, m, tl)) (hserves : s.serving = true) (hquiet : s.quiet (s.partOfCs a) = false)
    (hfree : ((s.arr a).finalWords m i tl).any (fun e => s.chanWaits e.1 4) = false)
    (hclean : ((s.arr a).finalWords m i tl).any (fun e => s.poisoned e.1 4) = false) :
    ∃ u, Ext Touch.besideHbm (s.accumulate m ((s.arr a).finalWords m i tl)) u ∧ accumulateAdd a s = u.tileWritten a i m tl := by
  unfold accumulateAdd
  simp only [hfinal, hserves, hquiet, hfree, hclean, Bool.true_eq_false, Bool.false_eq_true, or_self, if_false]
  refine ⟨_, ?_, rfl⟩
  have hadded : Ext Touch.besideHbm (s.accumulate m ((s.arr a).finalWords m i tl))
      (((s.accumulate m ((s.arr a).finalWords m i tl)).accumulated i m ((s.arr a).finalWords m i tl)).setArr a
        ((s.arr a).freeBlock m i tl)) := State.setArr_ext rfl (State.accumulated_ext rfl (Ext.refl _ _))
  split
  · exact State.trigger_ext rfl hadded
  · exact hadded

/-! ### Epilogues (R109, R112) -/

theorem State.engUpdate_arr (s : State) (e a : Nat) : (s.engUpdate e).arr a = s.arr a := by
  unfold State.engUpdate
  extract_lets x all t
  have ht : t.arr a = s.arr a := State.arr_of_comp (State.put_comp _ _ _) a
  split
  · exact ht
  · exact (State.arr_of_comp (State.put_comp _ _ _) a).trans ht

theorem State.taskDone_arr (s : State) (e : Nat) (k : Task) (v a : Nat) : (s.taskDone e k v).arr a = s.arr a := by
  unfold State.taskDone
  extract_lets k2
  split
  · exact (State.engUpdate_arr _ e a).trans rfl
  · rfl

theorem epilogueRun_due {s : State} {e v : Nat} {k : Task} {i : PassId} {m : MmRun} (hk : s.currentTask e = some k)
    (hm : s.mm k.slot = some m)
    (hi : (s.arr (e / 16)).finals.find? (fun i => i.slot == k.slot && i.admitNo == k.admitNo && i.unit == k.unit) = some i)
    (hkind : k.kind = 1) (hv : k.rows.contains v = true) (hserves : s.serving = true)
    (hstop : (s.stopOf (s.partOfCs (e / 16))).isSome = false) (hruns : s.engRuns e k = true) :
    ∃ n, epilogueRun e v s = (((((s.tookTurn e k).bump ⟨Reg.teIssue e, 0, 64⟩ n).setArr (e / 16)
      ((s.arr (e / 16)).epiStore m i e v (s.epiVec (s.arr (e / 16)) m i e v))).taskDone e k v).vecFlags e k.slot
        (s.epiVec (s.arr (e / 16)) m i e v)) := by
  unfold epilogueRun
  simp only [hk, hm, hi, hkind, hv, hserves, hstop, hruns, ne_eq, not_true_eq_false, Bool.true_eq_false, Bool.false_eq_true,
    or_self, if_false]
  exact ⟨_, rfl⟩

/-! ### The awl's shadow check (R124, R188 to R191) -/

/-- The engine takes its turn, and what the share reads again is counted. -/
def State.awlFetched (s : State) (e : Nat) (k : Task) (m : MmRun) (l j : Nat) : State :=
  (s.tookTurn e k).bump (Fld.strmBytesRd_bytes (e / 16)) (((m.awlRuns l j).map Prod.snd).foldl (· + ·) 0)

/-- The share is recomputed, and its task leaves the engine. -/
def State.awlShareRun (s : State) (e : Nat) (k : Task) (m : MmRun) (l j : Nat) : State :=
  ((s.awlFetched e k m l j).bump ⟨Reg.teIssue e, 0, 64⟩
    (ceilDiv ((m.awlRows l).length * (m.awlShare l j).length * m.kLen) 512)).endTask e k

/-- What is noted of a tile's shares with share j done. -/
def MmRun.awlNoted (m : MmRun) (l j : Nat) (ratios : List Val) : List (Nat × Nat × List Val) := m.awlParts ++ [(l, j, ratios)]

section
variable {s : State} {slot l j : Nat} {m : MmRun} {o : Op} {e : Nat} {k : Task} (hm : s.mm slot = some m) (ho : s.op slot = some o)
  (he : s.awlEngine slot l j = some (e, k)) (hserves : s.serving = true) (hstop : (s.stopOf (s.opPart o)).isSome = false)
  (hfree : (m.awlRuns l j).any (fun r => s.chanWaits r.1 r.2) = false)
include hm ho he hserves hstop hfree

theorem awlRecompute_poisoned (hpoison : (m.awlRuns l j).any (fun r => s.poisoned r.1 r.2) = true) :
    awlRecompute slot l j s =
      (((s.awlFetched e k m l j).awlEnd slot l m).generic Blk.num (some (s.opPart o)) slot o.tag 0).matmulDone slot := by
  unfold awlRecompute
  simp only [hm, ho, he, hserves, hstop, hfree, hpoison, Bool.true_eq_false, Bool.false_eq_true, or_self, if_false, if_true]
  rfl

theorem awlRecompute_clean (hclean : (m.awlRuns l j).any (fun r => s.poisoned r.1 r.2) = false) :
    awlRecompute slot l j s =
      (s.awlShareRun e k m l j).awlVerdict (s.opPart o) slot l j o m (s.awlRatios (s.opPart o) m l j) := by
  unfold awlRecompute
  simp only [hm, ho, he, hserves, hstop, hfree, hclean, Bool.true_eq_false, Bool.false_eq_true, or_self, if_false]
  rfl

end

section
variable {m : MmRun} {l j : Nat} {ratios : List Val}

theorem State.awlVerdict_open
    (hopen : (m.awlShares l).all (fun i => (m.awlNoted l j ratios).any (fun q => q.1 == l && q.2.1 == i)) = false)
    (s : State) (p slot : Nat) (o : Op) :
    s.awlVerdict p slot l j o m ratios = s.setMm slot (some { m with awlParts := m.awlNoted l j ratios }) := by
  unfold State.awlVerdict
  exact if_neg (Bool.eq_false_iff.1 hopen)

variable (hdone : (m.awlShares l).all (fun i => (m.awlNoted l j ratios).any (fun q => q.1 == l && q.2.1 == i)) = true)
include hdone

theorem State.awlVerdict_passed
    (hpass : (((m.awlNoted l j ratios).filter (fun q => q.1 == l)).flatMap (fun q => q.2.2)).isEmpty = true)
    (s : State) (p slot : Nat) (o : Op) :
    s.awlVerdict p slot l j o m ratios = ((s.awlEnd slot l m).bump (Fld.awlSamples_sampled p) 1).matmulDone slot := by
  unfold State.awlVerdict
  exact (if_pos hdone).trans (congrArg (fun t : State => t.matmulDone slot) (if_pos hpass))

theorem State.awlVerdict_breached
    (hbreach : (((m.awlNoted l j ratios).filter (fun q => q.1 == l)).flatMap (fun q => q.2.2)).isEmpty = false)
    (s : State) (p slot : Nat) (o : Op) :
    s.awlVerdict p slot l j o m ratios = (((s.awlEnd slot l m).bump (Fld.awlSamples_sampled p) 1).awlBreach p slot l o
      (((m.awlNoted l j ratios).filter (fun q => q.1 == l)).flatMap (fun q => q.2.2))).matmulDone slot := by
  unfold State.awlVerdict
  exact (if_pos hdone).trans (congrArg (fun t : State => t.matmulDone slot) (if_neg (Bool.eq_false_iff.1 hbreach)))

end

theorem State.mm_of_comp {s t : State} (h : t.comp = s.comp) (slot : Nat) : t.mm slot = s.mm slot := by
  unfold State.mm
  rw [h]

theorem State.awlEnd_mm (s : State) (slot l : Nat) (m : MmRun) : (s.awlEnd slot l m).mm slot = some (m.awlChecked l) :=
  State.setMm_mm _ _ _

theorem State.awlFetched_ext (s : State) (e : Nat) (k : Task) (m : MmRun) (l j : Nat) : Ext 16388 s (s.awlFetched e k m l j) :=
  State.bump_ext rfl (State.tookTurn_ext rfl (Ext.refl _ s))

theorem State.awlShareRun_ext (s : State) (e : Nat) (k : Task) (m : MmRun) (l j : Nat) : Ext 16388 s (s.awlShareRun e k m l j) :=
  State.endTask_ext rfl (State.bump_ext rfl (s.awlFetched_ext e k m l j))

/-! ### What an engine's tasks leave of other registers -/

theorem State.dropTasksIf_f (s : State) (p : Nat → Task → Bool) {q : FieldRef} (h : ∀ e, q.off ≠ Reg.teStatus e) :
    (s.dropTasksIf p).f q = s.f q := by
  unfold State.dropTasksIf
  refine List.foldlRecOn (motive := fun t : State => t.f q = s.f q) _ _ rfl (fun t ht e _ => ?_)
  dsimp only
  split
  · rwa [State.engUpdate_f _ (h e), State.setEng_f]
  · exact ht

theorem State.endTask_f (s : State) {e : Nat} (k : Task) {q : FieldRef} (h : q.off ≠ Reg.teStatus e) :
    (s.endTask e k).f q = s.f q := (State.engUpdate_f _ h).trans (State.setEng_f _ _ _ _)

theorem State.tookTurn_f (s : State) {e : Nat} (k : Task) {q : FieldRef} (h : q.off ≠ Reg.teSwitch e) :
    (s.tookTurn e k).f q = s.f q := by
  unfold State.tookTurn
  extract_lets x me u
  split
  · exact (State.f_bumpSat_ne _ _ h).trans (State.setEng_f _ _ _ _)
  · exact State.setEng_f _ _ _ _

/-- The samples counter of a partition is none of the registers of an engine, nor of its stack's stream counters. -/
theorem State.awlShareRun_samples (s : State) (e : Nat) (k : Task) (m : MmRun) (l j p : Nat) :
    (s.awlShareRun e k m l j).f (Fld.awlSamples_sampled p) = s.f (Fld.awlSamples_sampled p) := by
  have hsamples : (Fld.awlSamples_sampled p).off = 0x138 + 256 * p := rfl
  unfold State.awlShareRun State.awlFetched
  rw [State.endTask_f, State.f_bump_ne, State.f_bump_ne, State.tookTurn_f]
  · rw [hsamples]; unfold Reg.teSwitch; omega
  · rw [hsamples]; unfold Fld.strmBytesRd_bytes Reg.strmBytesRd; dsimp only; omega
  · rw [hsamples]; unfold Reg.teIssue; dsimp only; omega
  · rw [hsamples]; unfold Reg.teStatus; omega

theorem State.awlEnd_samples (s : State) (slot l : Nat) (m : MmRun) (p : Nat) :
    (s.awlEnd slot l m).f (Fld.awlSamples_sampled p) = s.f (Fld.awlSamples_sampled p) := by
  have hsamples : (Fld.awlSamples_sampled p).off = 0x138 + 256 * p := rfl
  refine (State.setMm_f _ _ _ _).trans (s.dropTasksIf_f _ fun e => ?_)
  rw [hsamples]
  unfold Reg.teStatus
  omega

/-- Settles O33: each command by its equation in the case at hand, read off the array, the MATMUL's run and the frames. -/
theorem tilesAreConvertedAccumulatedAndChecked : Obligations.TilesAreConvertedAccumulatedAndChecked := by
  unfold Obligations.TilesAreConvertedAccumulatedAndChecked
  refine ⟨?stirrup, ?skiver, ?accumulate, ?epilogue, ?noted, ?passed, ?breached, ?poisoned⟩
  case stirrup =>
    intro s a alongM m0 k0 i m o g x hl hnext hm ho hlive hseg hscales hqx hqw hfree hpoison hbad
    obtain ⟨n, sb, hwrite⟩ := stirrupWrite_clean hnext hm ho hlive hseg hscales hqx hqw hfree hpoison hbad
    refine ⟨_, hl.runs hwrite, ?_, ?_⟩
    · rw [State.arrUpdate_arr, State.arr_of_comp ((State.stirrupCounted_ext _ m o n sb).comp rfl), State.setArr_arr]
      rfl
    · exact (State.arrUpdate_ext (M₀ := Touch.besideHbm) rfl
        (Ext.via rfl (State.setArr_ext rfl (Ext.refl _ s)) (State.stirrupCounted_ext _ m o n sb))).sameHbm rfl
  case skiver =>
    intro s a i m tl x hl hnext hmay hfree hclean hscales
    obtain ⟨n, hconvert⟩ := skiverTileConvert_clean hnext hmay hfree hclean hscales
    refine ⟨_, hl.runs hconvert, ?_, ?_⟩
    · rw [State.tileConverted_outBuf, State.arr_of_comp (State.countBytes_comp s _ _ _)]
      rfl
    · exact (State.tileConverted_ext (M₀ := Touch.besideHbm) rfl (State.countBytes_ext rfl (Ext.refl _ s))).sameHbm rfl
  case accumulate =>
    intro s a i m tl hl hfinal hserves hquiet hfree hclean
    obtain ⟨u, hu, hadd⟩ := accumulateAdd_clean hfinal hserves hquiet hfree hclean
    refine ⟨_, hl.runs hadd, ?_, u.tileWritten_mm a i m tl⟩
    exact (State.tileWritten_ext (M₀ := Touch.besideHbm) rfl hu).mem rfl
  case epilogue =>
    intro s e v k i m hl hk hm hi hkind hv hserves hstop hruns
    obtain ⟨n, hrun⟩ := epilogueRun_due hk hm hi hkind hv hserves hstop hruns
    refine ⟨_, hl.runs hrun, ?_, ?_⟩
    · rw [State.arr_of_comp ((State.vecFlags_ext (M₀ := 32964) rfl (Ext.refl _ _)).comp rfl), State.taskDone_arr, State.setArr_arr]
    · exact (State.vecFlags_ext (M₀ := Touch.besideHbm) rfl (State.taskDone_ext rfl (State.setArr_ext rfl (State.bump_ext rfl
        (State.tookTurn_ext rfl (Ext.refl _ s)))))).sameHbm rfl
  case noted =>
    intro s slot l j m o e k hl hm ho he hserves hstop hfree hclean hopen
    have hframe : Ext 16388 s ((s.awlShareRun e k m l j).setMm slot
        (some { m with awlParts := m.awlNoted l j (s.awlRatios (s.opPart o) m l j) })) :=
      State.setMm_ext rfl (s.awlShareRun_ext e k m l j)
    exact ⟨_, hl.runs ((awlRecompute_clean hm ho he hserves hstop hfree hclean).trans (State.awlVerdict_open hopen _ _ _ _)),
      State.setMm_mm _ _ _, hframe.sameHbm rfl, hframe.recorder rfl⟩
  case passed =>
    intro s slot l j m o e k hl hm ho he hserves hstop hfree hclean hdone hpass
    have hend : Ext 16388 s ((s.awlShareRun e k m l j).awlEnd slot l m) := State.awlEnd_ext rfl (s.awlShareRun_ext e k m l j)
    have hlast : Ext 64 (((s.awlShareRun e k m l j).awlEnd slot l m).bump (Fld.awlSamples_sampled (s.opPart o)) 1) _ :=
      State.matmulDone_ext (slot := slot) rfl (Ext.refl _ _)
    have hframe := State.matmulDone_ext (M₀ := 16452) (slot := slot) rfl
      (State.bump_ext (r := Fld.awlSamples_sampled (s.opPart o)) (k := 1) rfl (hend.mono rfl))
    refine ⟨_, hl.runs ((awlRecompute_clean hm ho he hserves hstop hfree hclean).trans
      (State.awlVerdict_passed hdone hpass _ _ _ _)), ?_, ?_, hframe.sameHbm rfl, hframe.recorder rfl⟩
    · rw [State.mm_of_comp (hlast.comp rfl), State.mm_of_comp (State.bump_comp _ _ _), State.awlEnd_mm]
    · rw [State.f_of_regs (hlast.regs rfl), State.f_bump_self (r := Fld.awlSamples_sampled (s.opPart o)) _ 1 (Nat.le_refl 64),
        State.awlEnd_samples, State.awlShareRun_samples]
      rfl
  case breached =>
    intro s slot l j m o e k hl hm ho he hserves hstop hfree hclean hdone hbreach
    refine ⟨_, hl.runs ((awlRecompute_clean hm ho he hserves hstop hfree hclean).trans
      (State.awlVerdict_breached hdone hbreach _ _ _ _)), rfl, ?_⟩
    exact (State.matmulDone_ext (M₀ := Touch.besideHbm) rfl (State.awlBreach_ext rfl (State.bump_ext rfl (State.awlEnd_ext rfl
      ((s.awlShareRun_ext e k m l j).mono rfl))))).sameHbm rfl
  case poisoned =>
    intro s slot l j m o e k hl hm ho he hserves hstop hfree hpoison
    refine ⟨_, hl.runs (awlRecompute_poisoned hm ho he hserves hstop hfree hpoison), rfl, ?_⟩
    exact (State.matmulDone_ext (M₀ := Touch.besideHbm) rfl (State.generic_ext rfl (State.awlEnd_ext rfl
      ((s.awlFetched_ext e k m l j).mono rfl)))).sameHbm rfl

end Sys2Proof.Machine
end

section
/-!
Stream contexts: what opens, closes, tails and resyncs do to a context and show in the stream registers.
-/
namespace Sys2Proof.Machine

/-! ### Contexts and registers beside one another -/

theorem State.ctx_of_strm {s t : State} (h : t.strm = s.strm) (i : Nat) : t.ctx i = s.ctx i := by
  unfold State.ctx
  rw [h]

theorem State.flag_of_f {s t : State} {q : FieldRef} (h : t.f q = s.f q) : t.flag q = s.flag q := by
  unfold State.flag
  rw [h]

theorem State.setCtx_poolUpdate_ctx (s : State) (i : Nat) (c : Ctx) (home : Nat) :
    ((s.setCtx i c).poolUpdate home).ctx i = c := by
  rw [State.ctx_of_strm ((State.poolUpdate_ext (M₀ := 4) rfl (.refl _ _)).strm rfl), State.setCtx_ctx]

theorem State.setCtx_poolUpdate_f (s : State) (i : Nat) (c : Ctx) {home : Nat} {q : FieldRef} (h : q.off ≠ Reg.strmPool home) :
    ((s.setCtx i c).poolUpdate home).f q = s.f q := (State.poolUpdate_f _ h).trans (State.setCtx_f _ _ _ _)

theorem State.setCtx_poolUpdate_ext (s : State) (i : Nat) (c : Ctx) (home : Nat) : Ext 4100 s ((s.setCtx i c).poolUpdate home) :=
  State.poolUpdate_ext rfl (State.setCtx_ext rfl (.refl _ s))

/-! ### The answer in STRM_OPEN_STATUS (R131) -/

theorem strmOpenStatus_ne_strmPool (home : Nat) : Reg.strmOpenStatus ≠ Reg.strmPool home := by
  simp only [Reg.strmOpenStatus, Reg.strmPool]
  omega

section
variable (s : State) (i res : Nat) (close : Bool)

theorem State.strmAnswer_onlyRegs : s.OnlyRegs (s.strmAnswer i res close) [Reg.strmOpenStatus] := by
  have hmem : Reg.strmOpenStatus ∈ [Reg.strmOpenStatus] := List.mem_singleton_self _
  exact ((((State.OnlyRegs.refl s _).put _ hmem).put _ hmem).put _ hmem).put _ hmem

theorem State.strmAnswer_valid : (s.strmAnswer i res close).flag Fld.strmOpenStatus_valid = true :=
  State.flag_put_self _ 1 (by decide)

theorem State.strmAnswer_wasClose : (s.strmAnswer i res close).flag Fld.strmOpenStatus_was_close = close := by
  unfold State.strmAnswer
  rw [State.flag_of_f (State.f_put_sep _ _ (by decide) (by decide))]
  refine (State.flag_put_self _ _ (by decide)).trans ?_
  cases close
  · rfl
  · rfl

theorem State.strmAnswer_result : (s.strmAnswer i res close).f Fld.strmOpenStatus_result = res % 8 := by
  unfold State.strmAnswer
  rw [State.f_put_sep _ _ (by decide) (by decide), State.f_putB_sep _ _ (by decide) (by decide)]
  exact State.f_put_self _ _ (by decide)

theorem State.strmAnswer_ctx : (s.strmAnswer i res close).f Fld.strmOpenStatus_ctx = i % 2 ^ 16 := by
  unfold State.strmAnswer
  rw [State.f_put_sep _ _ (by decide) (by decide), State.f_putB_sep _ _ (by decide) (by decide),
    State.f_put_sep _ _ (by decide) (by decide)]
  exact State.f_put_self _ _ (by decide)

end

/-- A context replaced under an answer keeps the answer shown. -/
theorem State.strmAnswer_setCtx_f (s : State) (i res : Nat) (close : Bool) (c : Ctx) (home : Nat) {q : FieldRef}
    (h : q.off = Reg.strmOpenStatus) :
    (((s.strmAnswer i res close).setCtx i c).poolUpdate home).f q = (s.strmAnswer i res close).f q :=
  State.setCtx_poolUpdate_f _ _ _ (by rw [h]; exact strmOpenStatus_ne_strmPool home)

theorem State.strmAnswer_setCtx_ext (s : State) (i res : Nat) (close : Bool) (c : Ctx) (home : Nat) :
    Ext 4100 s (((s.strmAnswer i res close).setCtx i c).poolUpdate home) :=
  State.poolUpdate_ext rfl (State.setCtx_ext rfl (State.strmAnswer_ext rfl (.refl _ s)))

/-! ### The commands -/

/-- The context that an accepted open fills (R130, R131). -/
def State.openedCtx (s : State) (v : Nat) : Ctx :=
  { ctxD 0 with ringBase := s.rd Reg.strmOpenRing / 1024 * 1024, ringLog2 := bits v 16 5, state := 1, partition := bits v 22 2,
                dir := bits v 21 1, minSlots := bits v 24 15, maxSlots := bits v 39 15 }

/-- A context after an accepted close: its pool slots, bursts and binding are gone (R131). -/
def Ctx.closed (c : Ctx) : Ctx :=
  { c with state := 0, held := 0, fetched := [], granted := 0, waitSince := 0, boundSlot := 0xFFFF }

/-- A context after a resync that is honoured: OPEN at head h, with nothing fetched (R135). -/
def Ctx.resynced (c : Ctx) (h : Nat) : Ctx :=
  { c with state := 1, head := h, position := 0, fetched := [], held := c.granted }

theorem Ctx.resynced_recount (c : Ctx) (h : Nat) :
    ({ c with state := 1, head := h, position := 0, fetched := [] } : Ctx).recount = c.resynced h := by
  simp [Ctx.recount, Ctx.slots, Ctx.resynced]

theorem exec_strmOpen {s : State} {w : Writer} (hl : s.Live) (hmay : s.mayWriteS w = true) (v : Word64) :
    exec (.strmOpen w v) s = .next (strmOpen w v.toNat s) :=
  State.unlessReset_shared (f := strmOpen w v.toNat) (g := fun s => s.badWrite Reg.strmOpenCfg v.toNat) hl hmay

theorem exec_strmClose {s : State} {w : Writer} (hl : s.Live) (hmay : s.mayWriteS w = true) (v : Word32) :
    exec (.strmClose w v) s = .next (strmClose w v.toNat s) :=
  State.unlessReset_shared (f := strmClose w v.toNat) (g := fun s => s.badWrite Reg.strmClose v.toNat) hl hmay

theorem exec_strmRingTail {s : State} {w : Writer} {v : Word64} (hl : s.Live) (ha : s.Accepts w Reg.strmRingTail v.toNat) :
    exec (.strmRingTail w v) s = .next (strmRingTail w v.toNat s) := State.unlessReset_regWrite hl ha

theorem exec_strmResync {s : State} {w : Writer} {v : Word64} (hl : s.Live) (ha : s.Accepts w Reg.strmResync v.toNat) :
    exec (.strmResync w v) s = .next (strmResync w v.toNat s) := State.unlessReset_regWrite hl ha

section
variable {s : State} {w : Writer} {v : Nat}

theorem strmOpen_accepted (hgo : bits v 63 1 = 1) (hres : s.openResult w v = 0) :
    strmOpen w v s = ((s.strmAnswer (bits v 0 16) 0 false).setCtx (bits v 0 16) (s.openedCtx v)).poolUpdate
      (ctxHome (bits v 0 16)) := by
  unfold strmOpen
  rw [if_neg (by rw [hgo]; decide), hres]
  exact if_pos rfl

theorem strmOpen_refused (hgo : bits v 63 1 = 1) (hres : s.openResult w v ≠ 0) :
    strmOpen w v s = s.strmAnswer (bits v 0 16) (s.openResult w v) false := by
  unfold strmOpen
  rw [if_neg (by rw [hgo]; decide)]
  exact if_neg hres

theorem strmClose_accepted (hgo : bits v 31 1 = 1) (hres : s.closeResult w v = 0) (hopen : (s.ctx (bits v 0 16)).state ≠ 0) :
    strmClose w v s = ((s.strmAnswer (bits v 0 16) 0 true).setCtx (bits v 0 16) (s.ctx (bits v 0 16)).closed).poolUpdate
      (ctxHome (bits v 0 16)) := by
  unfold strmClose
  rw [if_neg (by rw [hgo]; decide), hres]
  exact if_pos ⟨rfl, hopen⟩

theorem strmRingTail_within {c : Ctx} (hc : s.ctx (bits v 0 16) = c) (hopen : c.state ≠ 0)
    (hpass : s.writerPasses w c.partition = true) (hsize : (2 ^ 32 + bits v 32 32 - c.head) % 2 ^ 32 ≤ 2 ^ c.ringLog2)
    (hold : (2 ^ 32 + c.tail - c.head) % 2 ^ 32 ≤ (2 ^ 32 + bits v 32 32 - c.head) % 2 ^ 32) :
    strmRingTail w v s = s.setCtx (bits v 0 16) { c with tail := bits v 32 32 } := by
  subst hc
  unfold strmRingTail
  dsimp only
  rw [if_neg (by simp only [not_or, Nat.not_lt]; exact ⟨hsize, hold, hopen, by rw [hpass]; decide⟩)]

theorem strmResync_resumed {c : Ctx} (hc : s.ctx (bits v 0 16) = c) (hstale : c.state = 2)
    (hpass : s.writerPasses w c.partition = true) (hsize : (2 ^ 32 + c.tail - bits v 32 32) % 2 ^ 32 ≤ 2 ^ c.ringLog2) :
    strmResync w v s = (s.setCtx (bits v 0 16) (c.resynced (bits v 32 32))).poolUpdate (ctxHome (bits v 0 16)) := by
  subst hc
  unfold strmResync
  dsimp only
  rw [if_pos ⟨hstale, hsize, hpass⟩, Ctx.resynced_recount]

/-- A resync that is not honoured is noted with its context, and then with the event of a bad write (R135). -/
def State.resyncBad (s : State) (v : Nat) : State :=
  ((s.put Fld.strmErr_resync_bad 1).put Fld.strmErr_last_ctx (bits v 0 16)).badWrite Reg.strmResync v

theorem strmResync_bad (h : (s.ctx (bits v 0 16)).state ≠ 2) : strmResync w v s = s.resyncBad v := by
  unfold strmResync State.resyncBad
  simp only [h, false_and, if_false]

end

theorem State.resyncBad_flag (s : State) (v : Nat) : (s.resyncBad v).flag Fld.strmErr_resync_bad = true := by
  unfold State.resyncBad
  rw [State.flag_of_f ((State.badWrite_f _ _ _ (by decide)).trans (State.f_put_sep _ _ (by decide) (by decide)))]
  exact State.flag_put_self _ 1 (by decide)

theorem State.resyncBad_lastCtx (s : State) (v : Nat) : (s.resyncBad v).f Fld.strmErr_last_ctx = bits v 0 16 := by
  refine (State.badWrite_f _ _ _ (by decide)).trans ((State.f_put_self _ _ (by decide)).trans ?_)
  exact Nat.mod_eq_of_lt (bits_lt v 0 16)

theorem State.resyncBad_ext (s : State) (v : Nat) : Ext 132 s (s.resyncBad v) :=
  State.badWrite_ext rfl (State.put_ext rfl (State.put_ext rfl (.refl _ s)))

theorem State.resyncBad_strm (s : State) (v : Nat) : (s.resyncBad v).strm = s.strm := (s.resyncBad_ext v).strm rfl

/-- Settles O22: each command takes effect by its equation in the case at hand, and the answer or the error it shows is read off
that equation. -/
theorem streamsOpenAndClose : Obligations.StreamsOpenAndClose := by
  unfold Obligations.StreamsOpenAndClose
  refine ⟨?opened, ?refused, ?closed, ?tail, ?resync, ?resyncBad⟩
  case opened =>
    intro s w v hl hmay hgo hres
    have hframe := s.strmAnswer_setCtx_ext (bits v.toNat 0 16) 0 false (s.openedCtx v.toNat) (ctxHome (bits v.toNat 0 16))
    refine ⟨_, (exec_strmOpen hl hmay v).trans (congrArg _ (strmOpen_accepted hgo hres)),
      State.setCtx_poolUpdate_ctx _ _ _ _, ?_, ?_, ?_, ?_, hframe.sparesHbmAndCtl rfl⟩
    · exact (State.strmAnswer_setCtx_f _ _ _ _ _ _ rfl).trans (State.strmAnswer_result _ _ _ _)
    · exact ((State.strmAnswer_setCtx_f _ _ _ _ _ _ rfl).trans (State.strmAnswer_ctx _ _ _ _)).trans
        (Nat.mod_eq_of_lt (bits_lt _ 0 16))
    · exact (State.flag_of_f (State.strmAnswer_setCtx_f _ _ _ _ _ _ rfl)).trans (State.strmAnswer_valid _ _ _ _)
    · exact (State.flag_of_f (State.strmAnswer_setCtx_f _ _ _ _ _ _ rfl)).trans (State.strmAnswer_wasClose _ _ _ _)
  case refused =>
    intro s w v hl hmay hgo hres
    exact ⟨_, (exec_strmOpen hl hmay v).trans (congrArg _ (strmOpen_refused hgo hres)),
      State.strmAnswer_result _ _ _ _, State.strmAnswer_valid _ _ _ _, State.strmAnswer_onlyRegs _ _ _ _⟩
  case closed =>
    intro s w v hl hmay hgo hres hopen
    have hctx := State.setCtx_poolUpdate_ctx (s.strmAnswer (bits v.toNat 0 16) 0 true) (bits v.toNat 0 16)
      (s.ctx (bits v.toNat 0 16)).closed (ctxHome (bits v.toNat 0 16))
    have hframe := s.strmAnswer_setCtx_ext (bits v.toNat 0 16) 0 true (s.ctx (bits v.toNat 0 16)).closed
      (ctxHome (bits v.toNat 0 16))
    refine ⟨_, (exec_strmClose hl hmay v).trans (congrArg _ (strmClose_accepted hgo hres hopen)),
      congrArg Ctx.state hctx, congrArg Ctx.held hctx, ?_, ?_, hframe.sparesHbmAndCtl rfl⟩
    · exact (State.strmAnswer_setCtx_f _ _ _ _ _ _ rfl).trans (State.strmAnswer_result _ _ _ _)
    · exact (State.flag_of_f (State.strmAnswer_setCtx_f _ _ _ _ _ _ rfl)).trans (State.strmAnswer_wasClose _ _ _ _)
  case tail =>
    intro s w v c hl ha hc hopen hpass hsize hold
    exact (exec_strmRingTail hl ha).trans (congrArg _ (strmRingTail_within hc hopen hpass hsize hold))
  case resync =>
    intro s w v c hl ha hc hstale hpass hsize
    exact (exec_strmResync hl ha).trans (congrArg _ (strmResync_resumed hc hstale hpass hsize))
  case resyncBad =>
    intro s w v c hl ha hc hstale
    exact ⟨_, (exec_strmResync hl ha).trans (congrArg _ (strmResync_bad (by rw [hc]; exact hstale))),
      s.resyncBad_strm _, s.resyncBad_flag _, s.resyncBad_lastCtx _, (s.resyncBad_ext _).sameHbm rfl⟩

end Sys2Proof.Machine
end

section
/-!
What a descriptor burst, a slot grant, the wait limit and a tile fetch do to a context or to an array's weight area.
-/
namespace Sys2Proof.Machine

/-! ### What the stream commands ask of a state -/

theorem State.ctxTurn_of_queue {s t : State} {i : Nat} (hctl : t.ctl = s.ctl) (hqueue : (t.ctx i).queue = (s.ctx i).queue) :
    t.ctxTurn i = s.ctxTurn i := by
  unfold State.ctxTurn State.inFlight
  rw [hctl, hqueue]

theorem State.serving_of_f {s t : State} (hstage : t.f Fld.bootStatus_stage = s.f Fld.bootStatus_stage)
    (hheld : t.f Fld.snapHeld_held = s.f Fld.snapHeld_held) (hsave : t.f Fld.thmSaveStatus_state = s.f Fld.thmSaveStatus_state) :
    t.serving = s.serving := by
  unfold State.serving State.isHeld State.flag
  rw [hstage, hheld, hsave]

theorem State.opRunning_of_f {s t : State} {slot : Nat} (hctl : t.ctl = s.ctl)
    (hstate : t.f ⟨Reg.opstat slot, 0, 4⟩ = s.f ⟨Reg.opstat slot, 0, 4⟩)
    (hsettled : t.f ⟨Reg.opstat slot, 31, 1⟩ = s.f ⟨Reg.opstat slot, 31, 1⟩) (n : Nat) :
    t.opRunning slot n = s.opRunning slot n := by
  have hop : t.op slot = s.op slot := by
    unfold State.op
    rw [hctl]
  have hst : t.opState slot = s.opState slot := hstate
  have hse : t.opSettled slot = s.opSettled slot := congrArg (· == 1) hsettled
  unfold State.opRunning
  rw [hop, hst, hse]

theorem State.outTile_of_comp {s t : State} (h : t.comp = s.comp) (i : Nat) : t.outTile i = s.outTile i := by
  unfold State.outTile State.arr
  rw [h]

theorem State.quiet_of_snap {s t : State} (h : t.snap = s.snap) (p : Nat) : t.quiet p = s.quiet p := by
  unfold State.quiet State.stopOf
  rw [h]

/-! ### Descriptor bursts (R134) -/

/-- The first ring index of a context that is not fetched. -/
def Ctx.nextIndex (c : Ctx) : Nat := (c.head + c.fetched.flatten.length) % 2 ^ 32

/-- Entries of the next burst: up to the tail, and no further than the end of their 16-entry block. -/
def Ctx.burstLen (c : Ctx) : Nat := min ((2 ^ 32 + c.tail - c.nextIndex) % 2 ^ 32) (16 - c.nextIndex % 16)

/-- The next burst as the ring holds it. -/
def State.burstOf (s : State) (c : Ctx) : List (Nat × Option (List Byte)) :=
  (List.range c.burstLen).map (fun k => ((c.nextIndex + k) % 2 ^ 32, s.ringRead c ((c.nextIndex + k) % 2 ^ 32)))

/-- A context with one more burst, bound to the slot it was fetched for, its wait over. -/
def Ctx.withBurst (c : Ctx) (slot : Nat) (burst : List (Nat × Option (List Byte))) : Ctx :=
  { c with fetched := c.fetched ++ [burst], held := c.fetched.length + 1 + c.granted, boundSlot := slot, waitSince := 0,
           waitTold := false }

theorem Ctx.withBurst_recount (c : Ctx) (slot : Nat) (burst : List (Nat × Option (List Byte))) :
    ({ c with fetched := c.fetched ++ [burst], boundSlot := slot, waitSince := 0, waitTold := false } : Ctx).recount =
      c.withBurst slot burst := by
  simp [Ctx.recount, Ctx.slots, Ctx.withBurst]

theorem Ctx.burstLen_pos {c : Ctx} (htail : c.tail < 2 ^ 32) (h : c.tail ≠ c.nextIndex) : 0 < c.burstLen := by
  have hnext : c.nextIndex < 2 ^ 32 := Nat.mod_lt _ (Nat.two_pow_pos 32)
  unfold Ctx.burstLen
  omega

/-- The state in which context i has taken a burst: a turn taken, the burst counted, the pool shown. -/
def State.burstTaken (s : State) (i : Nat) (c : Ctx) : State :=
  (((s.poolTurn i).setCtx i c).countBursts (ctxHome i) 1).poolUpdate (ctxHome i)

section
variable (s : State) (i : Nat) (c : Ctx)

theorem State.burstTaken_ext : Ext 4100 s (s.burstTaken i c) :=
  State.poolUpdate_ext rfl (State.countBursts_ext rfl (State.setCtx_ext rfl (State.poolTurn_ext rfl (.refl _ s))))

theorem State.poolTurn_f (q : FieldRef) : (s.poolTurn i).f q = s.f q :=
  State.f_of_regs ((State.poolTurn_ext (M₀ := 4096) rfl (.refl _ s)).regs rfl) q

theorem State.burstTaken_ctx : (s.burstTaken i c).ctx i = c := by
  have hcount : Ext 4 ((s.poolTurn i).setCtx i c) (s.burstTaken i c) :=
    State.poolUpdate_ext rfl (State.countBursts_ext rfl (.refl _ _))
  rw [State.ctx_of_strm (hcount.strm rfl), State.setCtx_ctx]

/-- The burst's count and its bytes, one register each, beside the pool's. -/
theorem State.burstTaken_bursts : (s.burstTaken i c).f (Fld.strmBursts_bursts (ctxHome i)) =
    (s.f (Fld.strmBursts_bursts (ctxHome i)) + 1) % 2 ^ 64 := by
  unfold State.burstTaken State.countBursts
  rw [State.poolUpdate_f _ (by simp only [Fld.strmBursts_bursts, Reg.strmBursts, Reg.strmPool]; omega),
    State.f_bump_ne _ _ (by simp only [Fld.strmBursts_bursts, Fld.strmBytesRd_bytes, Reg.strmBursts, Reg.strmBytesRd]; omega),
    State.f_bump_self (r := Fld.strmBursts_bursts (ctxHome i)) _ _ (Nat.le_refl 64), State.setCtx_f, State.poolTurn_f]
  rfl

theorem State.burstTaken_bytesRd : (s.burstTaken i c).f (Fld.strmBytesRd_bytes (ctxHome i)) =
    (s.f (Fld.strmBytesRd_bytes (ctxHome i)) + 1024) % 2 ^ 64 := by
  unfold State.burstTaken State.countBursts
  rw [State.poolUpdate_f _ (by simp only [Fld.strmBytesRd_bytes, Reg.strmBytesRd, Reg.strmPool]; omega),
    State.f_bump_self (r := Fld.strmBytesRd_bytes (ctxHome i)) _ _ (Nat.le_refl 64),
    State.f_bump_ne _ _ (by simp only [Fld.strmBursts_bursts, Fld.strmBytesRd_bytes, Reg.strmBursts, Reg.strmBytesRd]; omega),
    State.setCtx_f, State.poolTurn_f]
  rfl

/-- A register outside the stream pools' block of control space. -/
theorem State.burstTaken_f (hi : i < 65536) {q : FieldRef} (hq : q.off < 0x30100 ∨ 0x30200 ≤ q.off) :
    (s.burstTaken i c).f q = s.f q := by
  have hhome : ctxHome i < 4 := by unfold ctxHome; omega
  unfold State.burstTaken State.countBursts
  rw [State.poolUpdate_f _ (by simp only [Reg.strmPool]; omega),
    State.f_bump_ne _ _ (by simp only [Fld.strmBytesRd_bytes, Reg.strmBytesRd]; omega),
    State.f_bump_ne _ _ (by simp only [Fld.strmBursts_bursts, Reg.strmBursts]; omega), State.setCtx_f, State.poolTurn_f]

theorem State.burstTaken_serving (hi : i < 65536) : (s.burstTaken i c).serving = s.serving :=
  State.serving_of_f (s.burstTaken_f i c hi (by decide)) (s.burstTaken_f i c hi (by decide)) (s.burstTaken_f i c hi (by decide))

theorem State.burstTaken_opRunning (hi : i < 65536) {slot : Nat} (hslot : slot < 4096) (n : Nat) :
    (s.burstTaken i c).opRunning slot n = s.opRunning slot n := by
  have hoff : Reg.opstat slot < 0x30100 := by unfold Reg.opstat; omega
  exact State.opRunning_of_f ((s.burstTaken_ext i c).ctl rfl) (s.burstTaken_f i c hi (.inl hoff))
    (s.burstTaken_f i c hi (.inl hoff)) n

end

section
variable {s : State} {i slot : Nat} {o : Op} {c : Ctx} (hc : s.ctx i = c) (hturn : s.ctxTurn i = some (slot, o))
  (hopen : c.state = 1) (hserves : s.serving = true) (hfree : s.opSettled slot = false)
include hc hturn hopen hserves hfree

theorem State.fetchBurst_slot (hcan : s.slotCan i 1 = true) (hsome : 0 < c.burstLen) :
    s.fetchBurst i = s.burstTaken i (c.withBurst slot (s.burstOf c)) := by
  subst hc
  have hmay : ¬ ((s.ctx i).state ≠ 1 ∨ (s.ctx i).burstLen = 0 ∨ s.serving = false ∨ s.opSettled slot = true) := by
    simp [hopen, hserves, hfree, Nat.pos_iff_ne_zero.1 hsome]
  unfold State.fetchBurst
  rw [hturn]
  refine (if_neg hmay).trans ((if_neg (by rw [hcan]; decide)).trans ?_)
  rw [← Ctx.withBurst_recount]
  rfl

theorem State.fetchBurst_noSlot (hcan : s.slotCan i 1 = false) (hsome : 0 < c.burstLen) : s.fetchBurst i = s.waitFor i 0 := by
  subst hc
  have hmay : ¬ ((s.ctx i).state ≠ 1 ∨ (s.ctx i).burstLen = 0 ∨ s.serving = false ∨ s.opSettled slot = true) := by
    simp [hopen, hserves, hfree, Nat.pos_iff_ne_zero.1 hsome]
  unfold State.fetchBurst
  rw [hturn]
  exact (if_neg hmay).trans (if_pos hcan)

end

/-- After the burst, a KERNEL that runs takes what it brought. -/
theorem burstFetch_fetched {s t : State} {i slot : Nat} {o : Op} (ht : s.fetchBurst i = t) (hturn : t.ctxTurn i = some (slot, o))
    (hserves : t.serving = true) (hrun : t.opRunning slot o.admitNo = s.opRunning slot o.admitNo) :
    burstFetch i s = if s.opRunning slot o.admitNo then t.kernFeed slot o else t := by
  unfold burstFetch
  rw [ht]
  dsimp only
  rw [hturn, ← hrun]
  simp only [hserves, Bool.true_and]

/-! ### Waits (R150) -/

/-- A context that waits: from the present on, or from when it began to wait. -/
theorem State.waitFor_ctx (s : State) (i kind : Nat) : (s.waitFor i kind).ctx i =
    if (s.ctx i).waitSince ≠ 0 then { s.ctx i with waitKind := kind }
    else { s.ctx i with waitSince := max s.now 1, waitKind := kind, waitTold := false, waitPaused := 0,
                        waitStopped := if s.clockStopped (s.ctx i).partition then some s.now else none } := by
  by_cases h : (s.ctx i).waitSince ≠ 0
  · simp only [State.waitFor, if_pos h, State.setCtx_ctx]
  · simp only [State.waitFor, if_neg h, State.setCtx_ctx]

theorem State.waitFor_queue (s : State) (i kind : Nat) : ((s.waitFor i kind).ctx i).queue = (s.ctx i).queue := by
  rw [State.waitFor_ctx]
  split
  · rfl
  · rfl

/-- The slot whose turn it is on a context; 0xFFF where there is none. -/
def State.turnSlot (s : State) (i : Nat) : Nat := match s.ctxTurn i with | some e => e.1 | none => 0xFFF

/-- A context whose wait past the limit has been told, with the registers and the event that tell it (R150). -/
def State.waitReported (s : State) (i slot : Nat) (c : Ctx) : State :=
  ((((((s.setCtx i { c with waitTold := true }).bumpSat Fld.strmWdogStat_waits 1).put Fld.strmWdogStat_last_ctx i).put
    Fld.strmWdogStat_last_kind c.waitKind).put Fld.strmErr_wdog 1).put Fld.strmErr_last_ctx i).event 0x0412 (some c.partition)
      (csCantle (ctxHome i)) i (toLE 2 i ++ toLE 2 slot ++ toLE 1 c.waitKind)

theorem waitLimit_past {s : State} {i : Nat} {c : Ctx} (hc : s.ctx i = c) (hwaits : c.waitSince ≠ 0) (htold : c.waitTold = false)
    (henable : s.flag Fld.strmWdogCfg_enable = true) (hlimit : s.f Fld.strmWdogCfg_limit_us * 475 < s.waited c) :
    waitLimit i s = s.waitReported i (s.turnSlot i) c := by
  subst hc
  exact if_pos ⟨hwaits, htold, henable, hlimit⟩

section
variable (s : State) (i slot : Nat) (c : Ctx)

theorem State.waitReported_ext : Ext 4228 s (s.waitReported i slot c) :=
  State.event_ext rfl (State.put_ext rfl (State.put_ext rfl (State.put_ext rfl (State.put_ext rfl (State.bumpSat_ext rfl
    (State.setCtx_ext rfl (.refl _ s)))))))

theorem State.waitReported_ctx : (s.waitReported i slot c).ctx i = { c with waitTold := true } := by
  have hshown : Ext 132 (s.setCtx i { c with waitTold := true }) (s.waitReported i slot c) :=
    State.event_ext rfl (State.put_ext rfl (State.put_ext rfl (State.put_ext rfl (State.put_ext rfl (State.bumpSat_ext rfl
      (.refl _ _))))))
  rw [State.ctx_of_strm (hshown.strm rfl), State.setCtx_ctx]

theorem State.waitReported_waits :
    (s.waitReported i slot c).f Fld.strmWdogStat_waits = min (s.f Fld.strmWdogStat_waits + 1) (2 ^ 32 - 1) := by
  unfold State.waitReported
  rw [State.event_f _ _ _ _ _ _ (by decide), State.f_put_ne _ _ (by decide), State.f_put_ne _ _ (by decide),
    State.f_put_sep _ _ (by decide) (by decide), State.f_put_sep _ _ (by decide) (by decide),
    State.f_bumpSat_self _ _ (by decide), State.setCtx_f]
  rfl

theorem State.waitReported_lastCtx (hi : i < 65536) : (s.waitReported i slot c).f Fld.strmWdogStat_last_ctx = i := by
  unfold State.waitReported
  rw [State.event_f _ _ _ _ _ _ (by decide), State.f_put_ne _ _ (by decide), State.f_put_ne _ _ (by decide),
    State.f_put_sep _ _ (by decide) (by decide), State.f_put_self _ _ (by decide)]
  exact Nat.mod_eq_of_lt hi

theorem State.waitReported_wdog : (s.waitReported i slot c).flag Fld.strmErr_wdog = true := by
  unfold State.waitReported
  rw [State.flag_of_f (State.event_f _ _ _ _ _ _ (by decide)), State.flag_of_f (State.f_put_sep _ _ (by decide) (by decide))]
  exact State.flag_put_self _ 1 (by decide)

theorem State.waitReported_errCtx (hi : i < 65536) : (s.waitReported i slot c).f Fld.strmErr_last_ctx = i := by
  unfold State.waitReported
  rw [State.event_f _ _ _ _ _ _ (by decide), State.f_put_self _ _ (by decide)]
  exact Nat.mod_eq_of_lt hi

end

/-! ### Slot grants (R148, R149) -/

/-- A context with one more slot granted, its wait over. -/
def Ctx.withGrant (c : Ctx) : Ctx :=
  { c with granted := c.granted + 1, held := c.fetched.length + (c.granted + 1), waitSince := 0, waitTold := false }

/-- The state in which context i has taken a granted slot. -/
def State.slotGranted (s : State) (i : Nat) : State :=
  ((s.poolTurn i).setCtx i (s.ctx i).withGrant).poolUpdate (ctxHome i)

theorem State.slotGranted_ext (s : State) (i : Nat) : Ext 4100 s (s.slotGranted i) :=
  State.poolUpdate_ext rfl (State.setCtx_ext rfl (State.poolTurn_ext rfl (.refl _ s)))

theorem State.slotGranted_ctx (s : State) (i : Nat) : (s.slotGranted i).ctx i = (s.ctx i).withGrant :=
  State.setCtx_poolUpdate_ctx _ _ _ _

theorem State.slotGranted_serving (s : State) {i : Nat} (hi : i < 65536) : (s.slotGranted i).serving = s.serving := by
  have hf : ∀ q : FieldRef, 0x30200 ≤ q.off → (s.slotGranted i).f q = s.f q := fun q hq => by
    have hhome : ctxHome i < 4 := by unfold ctxHome; omega
    exact (State.setCtx_poolUpdate_f _ _ _ (by simp only [Reg.strmPool]; omega)).trans (s.poolTurn_f i q)
  exact State.serving_of_f (hf _ (by decide)) (hf _ (by decide)) (hf _ (by decide))

section
variable {s : State} {i : Nat} (hnamed : s.ctxNamed i = true) (hopen : (s.ctx i).state = 1)
include hnamed hopen

theorem slotGrant_noSpace (kind : Nat) : slotGrant i false kind s = s.waitFor i kind :=
  (if_neg (by simp [hnamed, hopen])).trans (if_pos rfl)

variable (hspace : s.spaceFor i = true) (hcan : s.slotCan i 0 = true)
include hspace hcan

theorem slotGrant_granted (kind : Nat) : slotGrant i true kind s =
    match s.outTile i with
    | some (a, o) => if (s.slotGranted i).serving && !(s.slotGranted i).quiet (s.ctx i).partition then
        (s.slotGranted i).drainTile a o else s.slotGranted i
    | none => s.slotGranted i := by
  rw [← State.outTile_of_comp ((s.slotGranted_ext i).comp rfl)]
  refine (if_neg (by simp [hnamed, hopen])).trans ((if_neg (by simp [hspace])).trans (if_neg (by simp [hcan])))

theorem slotGrant_idle (kind : Nat) (hnone : s.outTile i = none) : slotGrant i true kind s = s.slotGranted i := by
  rw [slotGrant_granted hnamed hopen hspace hcan, hnone]

theorem slotGrant_drains (kind : Nat) {a : Nat} {o : OutTile} (htile : s.outTile i = some (a, o)) (hi : i < 65536)
    (hserves : s.serving = true) (hquiet : s.quiet (s.ctx i).partition = false) :
    slotGrant i true kind s = (s.slotGranted i).drainTile a o := by
  rw [slotGrant_granted hnamed hopen hspace hcan, htile]
  dsimp only
  rw [s.slotGranted_serving hi, hserves, State.quiet_of_snap ((s.slotGranted_ext i).snap rfl), hquiet]
  rfl

end

/-! ### Writes of units in states that read alike -/

/-- HBM, its poison marks and the registers that place its bytes are the same. -/
def State.MemLike (s t : State) : Prop := t.regs = s.regs ∧ t.mem = s.mem ∧ t.poison = s.poison

theorem State.keyOf_of_regs {s t : State} (h : t.regs = s.regs) (a : Nat) : t.keyOf a = s.keyOf a := by
  unfold State.keyOf State.redirect
  simp only [State.f_of_regs h]

section
variable {s t : State}

theorem State.MemLike.poke (h : s.MemLike t) (a : Nat) (b : Byte) : (s.poke a b).MemLike (t.poke a b) := by
  obtain ⟨hregs, hmem, hpoison⟩ := h
  unfold State.poke
  rw [State.keyOf_of_regs hregs]
  cases s.keyOf a with
  | none => exact ⟨hregs, hmem, hpoison⟩
  | some k => exact ⟨hregs, congrArg (Sparse.put memD · k b) hmem, hpoison⟩

theorem State.MemLike.pokes (h : s.MemLike t) (a : Nat) (bs : List Byte) : (s.pokes a bs).MemLike (t.pokes a bs) := by
  induction bs generalizing s t a with
  | nil => exact h
  | cons b bs ih => exact ih (h.poke a b) (a + 1)

theorem State.MemLike.setPoison (h : s.MemLike t) (a : Nat) (b : Bool) : (s.setPoison a b).MemLike (t.setPoison a b) := by
  obtain ⟨hregs, hmem, hpoison⟩ := h
  unfold State.setPoison
  rw [State.keyOf_of_regs hregs]
  cases s.keyOf a with
  | none => exact ⟨hregs, hmem, hpoison⟩
  | some k => exact ⟨hregs, hmem, congrArg (Sparse.put poisonD · (k / 32) b) hpoison⟩

theorem State.MemLike.foldl {α : Type} {f : State → α → State} (hf : ∀ u v x, u.MemLike v → (f u x).MemLike (f v x))
    (l : List α) (h : s.MemLike t) : (l.foldl f s).MemLike (l.foldl f t) := by
  induction l generalizing s t with
  | nil => exact h
  | cons x xs ih => exact ih (hf s t x h)

theorem State.MemLike.writeUnits (h : s.MemLike t) (ws : List (Nat × List Byte)) :
    (s.writeUnits ws).MemLike (t.writeUnits ws) := by
  refine .foldl (fun u v k huv => ?_) _ (.foldl (fun u v w huv => huv.pokes w.1 w.2) ws h)
  split
  · exact huv.setPoison _ _
  · exact huv

end

/-- The state in which an array's output buffer has let a tile go. -/
def State.withoutTile (s : State) (a : Nat) (o : OutTile) : State :=
  s.setArr a { s.arr a with outBuf := (s.arr a).outBuf.erase o }

/-- Beside its writes a drained tile is counted, and noted with its MATMUL. -/
theorem State.drainTile_ext_written (s : State) (a : Nat) (o : OutTile) :
    Ext Touch.besideHbm ((s.withoutTile a o).writeUnits o.writes) (s.drainTile a o) := by
  have hmoved := State.advancePos_ext (M₀ := Touch.besideHbm) (i := o.ctx) (n := o.elems) rfl
    (State.countBytes_ext (i := o.ctx) (cls := 1) (n := o.bytes) rfl (.refl _ ((s.withoutTile a o).writeUnits o.writes)))
  unfold State.drainTile
  dsimp only
  split
  · exact State.tileWritten_ext rfl hmoved
  · exact hmoved

/-- A drained tile leaves HBM as its writes do. -/
theorem State.drainTile_hbm (s : State) (a : Nat) (o : OutTile) : (s.writeUnits o.writes).SameHbm (s.drainTile a o) := by
  have hlike : s.MemLike (s.withoutTile a o) := ⟨rfl, rfl, rfl⟩
  obtain ⟨-, hmem, hpoison⟩ := hlike.writeUnits o.writes
  have hcounted := s.drainTile_ext_written a o
  exact ⟨(hcounted.mem rfl).trans hmem, (hcounted.poison rfl).trans hpoison⟩

/-! ### Tile fetches (R151, R153, R154) -/

/-- The array takes a tile of its own weights, and the fetch is counted. -/
theorem prefetchFill_due {s : State} {a : Nat} {m : MmRun} {o : Op} {i : PassId} {l : List PassId} (hserves : s.serving = true)
    (hdue : (s.arr a).due = i :: l) (hm : s.mm i.slot = some m) (ho : s.op i.slot = some o) (hfree : s.tileWaits m i = false)
    (hclean : (s.fetchTile m i).any (fun e => e.2 == .poison || e.2 == .bad) = false) :
    prefetchFill a s = (s.setArr a { s.arr a with own := (s.arr a).own ++ [⟨i, tileBits (s.fetchTile m i)⟩], due := l }).countBytes
      (o.b 0x20 4) 0 (m.wd.sizeOf (s.fetchTile m i).length) := by
  have hgood : ∀ e ∈ s.fetchTile m i, (e.2 == .poison || e.2 == .bad) = false := by simpa using hclean
  have hpoison : (s.fetchTile m i).any (fun e => e.2 == .poison) = false :=
    List.any_eq_false.2 fun e he => by simpa using (Bool.or_eq_false_iff.1 (hgood e he)).1
  have hbad : (s.fetchTile m i).any (fun e => e.2 == .bad) = false :=
    List.any_eq_false.2 fun e he => by simpa using (Bool.or_eq_false_iff.1 (hgood e he)).2
  simp only [prefetchFill, State.fillDue, hserves, hdue, hm, ho, hfree, hpoison, hbad, Bool.true_eq_false, Bool.false_eq_true,
    if_false]

/-- The array's prefetch half takes the next tile of its claim, and the fetch is counted. -/
theorem prefetchFill_claimed {s : State} {a : Nat} {c : PfClaim} {o : Op} {d : Desc} {i : PassId} (hserves : s.serving = true)
    (hdue : (s.arr a).due = []) (hclaim : s.claim a = some c) (ho : s.op c.slot = some o) (hsame : o.admitNo = c.admitNo)
    (hmet : o.met1 = true ∨ o.wait1 = 0xFFFF) (hd : s.peekStat o = some d)
    (hnext : (((s.pfRun o d).passesOn a c.slot).take c.tiles).find? (fun i => (s.arr a).pf.all (fun g => g.id != i)) = some i)
    (hfree : s.tileWaits (s.pfRun o d) i = false)
    (hclean : (s.fetchTile (s.pfRun o d) i).any (fun e => e.2 == .poison || e.2 == .bad) = false) :
    prefetchFill a s =
      ((s.setArr a { s.arr a with pf := (s.arr a).pf ++ [⟨i, tileBits (s.fetchTile (s.pfRun o d) i)⟩] }).pfShow a).countBytes
        (o.b 0x20 4) 0 ((s.pfRun o d).wd.sizeOf (s.fetchTile (s.pfRun o d) i).length) := by
  have hgo : ¬ (o.admitNo ≠ c.admitNo ∨ o.met1 = false ∧ o.wait1 ≠ 0xFFFF) := by
    rcases hmet with h | h
    · simp [hsame, h]
    · simp [hsame, h]
  have hfill : prefetchFill a s = s.fillClaim a c o d := by
    simp only [prefetchFill, hserves, hdue, hclaim, ho, hd, Bool.true_eq_false, if_false]
  rw [hfill]
  unfold State.fillClaim
  dsimp only
  rw [if_neg hgo, hnext]
  simp only [hfree, hclean, Bool.false_eq_true, or_self, if_false]

theorem State.pfShow_arr (s : State) (a b : Nat) : (s.pfShow a).arr b = s.arr b :=
  State.arr_of_comp ((State.pfShow_ext (M₀ := 4) rfl (.refl _ s)).comp rfl) b

theorem exec_burstFetch {s : State} (h : s.Live) (i : Fin 65536) : exec (.burstFetch i) s = .next (burstFetch i s) :=
  State.unlessReset_live _ h

/-- Settles O23: in each clause the command's equation gives the state, and what the context, the array or the registers then
read is a law of that state. -/
theorem streamsFetchAndWait : Obligations.StreamsFetchAndWait := by
  unfold Obligations.StreamsFetchAndWait
  refine ⟨?burst, ?noSlot, ?granted, ?drained, ?noSpace, ?limit, ?claimed, ?due⟩
  case burst =>
    intro s i slot o c n burst hl hslot hc hturn hopen hserves hfree hcan hn hsome hburst
    have hlen : n = c.burstLen := hn
    have hof : burst = s.burstOf c := by rw [hburst, hlen]; rfl
    have hfetch := State.fetchBurst_slot hc hturn hopen hserves hfree hcan (hlen ▸ hsome)
    rw [← hof] at hfetch
    have hctx := s.burstTaken_ctx i (c.withBurst slot burst)
    have hframe := s.burstTaken_ext i (c.withBurst slot burst)
    have hturn' : (s.burstTaken i (c.withBurst slot burst)).ctxTurn i = some (slot, o) :=
      (State.ctxTurn_of_queue (hframe.ctl rfl) (by rw [hctx, hc]; rfl)).trans hturn
    refine ⟨_, hl.runs (burstFetch_fetched hfetch hturn' ((s.burstTaken_serving i _ i.isLt).trans hserves)
      (s.burstTaken_opRunning i _ i.isLt hslot _)), hctx, s.burstTaken_bursts i _, s.burstTaken_bytesRd i _,
      hframe.sparesHbmAndCtl rfl⟩
  case noSlot =>
    intro s i slot o c hl hc hturn hopen hserves hfree htail hlt hcan
    have hfetch := State.fetchBurst_noSlot hc hturn hopen hserves hfree hcan (Ctx.burstLen_pos hlt htail)
    have hframe : Ext 4096 s (s.waitFor i 0) := State.waitFor_ext rfl (.refl _ s)
    have hf : ∀ q, (s.waitFor i 0).f q = s.f q := State.f_of_regs (hframe.regs rfl)
    have hturn' : (s.waitFor i 0).ctxTurn i = some (slot, o) :=
      (State.ctxTurn_of_queue (hframe.ctl rfl) (s.waitFor_queue i 0)).trans hturn
    refine ⟨hl.runs (burstFetch_fetched hfetch hturn' ((State.serving_of_f (hf _) (hf _) (hf _)).trans hserves)
      (State.opRunning_of_f (hframe.ctl rfl) (hf _) (hf _) _)), ?_⟩
    rw [State.waitFor_ctx, hc]
  case granted =>
    rintro s i c kind hl rfl hnamed hopen hspace hcan hnone
    exact ⟨_, hl.runs (slotGrant_idle hnamed hopen hspace hcan kind hnone), s.slotGranted_ctx i,
      (s.slotGranted_ext i).sparesHbmAndCtl rfl⟩
  case drained =>
    rintro s i c kind a o hl rfl hnamed hopen hspace hcan htile hserves hquiet
    obtain ⟨hmem, hpoison⟩ := (s.slotGranted i).drainTile_hbm a o
    exact ⟨s.slotGranted i, _, hl.runs (slotGrant_drains hnamed hopen hspace hcan kind htile i.isLt hserves hquiet),
      s.slotGranted_ctx i, (s.slotGranted_ext i).comp rfl, (s.slotGranted_ext i).ctl rfl, (s.slotGranted_ext i).sameHbm rfl,
      rfl, hmem, hpoison⟩
  case noSpace =>
    intro s i kind hl hnamed hopen
    exact hl.runs (slotGrant_noSpace hnamed hopen kind)
  case limit =>
    intro s i c hl hc hwaits htold henable hlimit
    exact ⟨_, hl.runs (waitLimit_past hc hwaits htold henable hlimit), s.waitReported_ctx i _ c, s.waitReported_waits i _ c,
      s.waitReported_lastCtx i _ c i.isLt, s.waitReported_wdog i _ c, s.waitReported_errCtx i _ c i.isLt,
      (s.waitReported_ext i _ c).sparesHbmAndCtl rfl⟩
  case claimed =>
    intro s a c o d i hl hserves hdue hclaim ho hsame hmet hd hnext hfree hclean
    refine ⟨_, hl.runs (prefetchFill_claimed hserves hdue hclaim ho hsame hmet hd hnext hfree hclean), ?_, ?_⟩
    · rw [State.arr_of_comp (State.countBytes_comp _ _ _ _), State.pfShow_arr, State.setArr_arr]
    · exact (State.countBytes_ext (M₀ := Touch.besideHbmAndCtl) rfl (State.pfShow_ext rfl (State.setArr_ext rfl
        (.refl _ s)))).sparesHbmAndCtl rfl
  case due =>
    intro s a m o i l hl hserves hdue hm ho hfree hclean
    refine ⟨_, hl.runs (prefetchFill_due hserves hdue hm ho hfree hclean), ?_, ?_⟩
    · rw [State.arr_of_comp (State.countBytes_comp _ _ _ _), State.setArr_arr]
    · exact (State.countBytes_ext (M₀ := Touch.besideHbmAndCtl) rfl (State.setArr_ext rfl (.refl _ s))).sparesHbmAndCtl rfl

end Sys2Proof.Machine
end

section
/-!
What the stream and stack-engine operations write: bytes after stores, and each operation as the write of its units.
-/
namespace Sys2Proof.Machine

/-! ### Bytes after stores -/

theorem State.byte_of_mem {s t : State} (hregs : t.regs = s.regs) (hmem : t.mem = s.mem) (b : Nat) : t.byte b = s.byte b := by
  unfold State.byte
  rw [State.keyOf_of_regs hregs, hmem]

theorem State.poke_keyOf (s : State) (a b : Nat) (x : Byte) : (s.poke a x).keyOf b = s.keyOf b := by
  unfold State.poke
  split
  · exact State.keyOf_of_regs rfl b
  · rfl

theorem State.byte_poke_self {s : State} {a : Nat} (h : (s.keyOf a).isSome = true) (x : Byte) : (s.poke a x).byte a = x := by
  obtain ⟨k, hk⟩ := Option.isSome_iff_exists.1 h
  unfold State.byte
  rw [State.poke_keyOf, hk]
  simp only [State.poke, hk, Sparse.get_put_self]

theorem State.byte_poke_ne {s : State} {a b : Nat} (h : s.keyOf a ≠ s.keyOf b) (x : Byte) : (s.poke a x).byte b = s.byte b := by
  unfold State.byte
  rw [State.poke_keyOf]
  cases hb : s.keyOf b with
  | none => rfl
  | some j =>
    cases ha : s.keyOf a with
    | none => simp only [State.poke, ha]
    | some k =>
      have hne : j ≠ k := fun e => h (by rw [ha, hb, e])
      simp only [State.poke, ha, Sparse.get_put_ne _ _ _ hne]

/-- A byte at none of the places written reads as before. -/
theorem State.byte_pokes_ne {s : State} {a b : Nat} {bs : List Byte} (h : ∀ i, i < bs.length → s.keyOf (a + i) ≠ s.keyOf b) :
    (s.pokes a bs).byte b = s.byte b := by
  induction bs generalizing s a with
  | nil => rfl
  | cons x xs ih =>
    have hrest : ∀ i, i < xs.length → (s.poke a x).keyOf (a + 1 + i) ≠ (s.poke a x).keyOf b := fun i hi => by
      rw [State.poke_keyOf, State.poke_keyOf, show a + 1 + i = a + (i + 1) by omega]
      exact h (i + 1) (Nat.succ_lt_succ hi)
    exact (ih hrest).trans (State.byte_poke_ne (h 0 (Nat.succ_pos _)) x)

/-- A byte written once reads back. -/
theorem State.byte_pokes {s : State} {a i : Nat} {bs : List Byte} (hi : i < bs.length) (hk : (s.keyOf (a + i)).isSome = true)
    (honce : ∀ j, j < bs.length → j ≠ i → s.keyOf (a + j) ≠ s.keyOf (a + i)) : (s.pokes a bs).byte (a + i) = bs.getD i 0#8 := by
  induction bs generalizing s a i with
  | nil => exact absurd hi (Nat.not_lt_zero i)
  | cons x xs ih =>
    cases i with
    | zero =>
      have hlater : ∀ j, j < xs.length → (s.poke a x).keyOf (a + 1 + j) ≠ (s.poke a x).keyOf a := fun j hj => by
        rw [State.poke_keyOf, State.poke_keyOf, show a + 1 + j = a + (j + 1) by omega]
        exact honce (j + 1) (Nat.succ_lt_succ hj) (Nat.succ_ne_zero j)
      exact (State.byte_pokes_ne hlater).trans (State.byte_poke_self hk x)
    | succ i =>
      have hplace : a + (i + 1) = a + 1 + i := by omega
      rw [hplace] at hk honce ⊢
      refine ih (Nat.lt_of_succ_lt_succ hi) (by rwa [State.poke_keyOf]) fun j hj hne => ?_
      rw [State.poke_keyOf, State.poke_keyOf, show a + 1 + j = a + (j + 1) by omega]
      exact honce (j + 1) (Nat.succ_lt_succ hj) fun e => hne (Nat.succ.inj e)

/-- A store's bytes are those of its pokes: clearing poison marks changes no byte. -/
theorem State.byte_store (s : State) (a b : Nat) (bs : List Byte) : (s.store a bs).byte b = (s.pokes a bs).byte b := by
  have hmarks : Ext 32 (s.pokes a bs) (s.store a bs) := State.clearWhole_ext rfl (.refl _ _)
  exact State.byte_of_mem (hmarks.regs rfl) (hmarks.mem rfl) b

theorem State.pokes_regs (s : State) (a : Nat) (bs : List Byte) : (s.pokes a bs).regs = s.regs :=
  (State.pokes_ext (M₀ := 16) rfl (.refl _ s)).regs rfl

theorem State.byte_pokeAll_ne {s : State} {b : Nat} {ws : List (Nat × List Byte)}
    (h : ∀ w ∈ ws, ∀ i, i < w.2.length → s.keyOf (w.1 + i) ≠ s.keyOf b) :
    (ws.foldl (fun t w => t.pokes w.1 w.2) s).byte b = s.byte b := by
  induction ws generalizing s with
  | nil => rfl
  | cons w ws ih =>
    have hkey : ∀ c, (s.pokes w.1 w.2).keyOf c = s.keyOf c := State.keyOf_of_regs (s.pokes_regs _ _)
    have hrest : ∀ w' ∈ ws, ∀ i, i < w'.2.length → (s.pokes w.1 w.2).keyOf (w'.1 + i) ≠ (s.pokes w.1 w.2).keyOf b :=
      fun w' hw' i hi => by
        rw [hkey, hkey]
        exact h w' (List.mem_cons_of_mem _ hw') i hi
    exact (ih hrest).trans (State.byte_pokes_ne (h w (List.mem_cons_self ..)))

/-- A byte outside every unit written reads as before. -/
theorem State.byte_writeUnits_ne {s : State} {b : Nat} {ws : List (Nat × List Byte)}
    (h : ∀ w ∈ ws, ∀ i, i < w.2.length → s.keyOf (w.1 + i) ≠ s.keyOf b) : (s.writeUnits ws).byte b = s.byte b := by
  have hmarks : Ext 32 (ws.foldl (fun t w => t.pokes w.1 w.2) s) (s.writeUnits ws) :=
    .foldl _ (fun t k ht => .ite (State.setPoison_ext rfl ht) ht) (.refl _ _)
  exact (State.byte_of_mem (hmarks.regs rfl) (hmarks.mem rfl) b).trans (State.byte_pokeAll_ne h)

/-! ### A STREAM that is due (R133, R134, R214) -/

theorem State.streamTaken_ext (s : State) (slot : Nat) (o : Op) (ks kd : Take) (ds : List DescP) :
    Ext 4164 s (s.streamTaken slot o ks kd ds) :=
  State.advanceRng_ext rfl (State.consumeSide_ext rfl (State.consumeSide_ext rfl (State.issue_ext rfl (.refl _ s))))

/-- r is a state in which the operation of a slot ends OK, with HBM and its poison marks as v has them. -/
def State.EndsOk (r : State) (slot : Nat) (v : State) : Prop := ∃ t, Ext Touch.besideHbm v t ∧ r = t.finish slot Res.ok

theorem State.EndsOk.finish {t v : State} (slot : Nat) (h : Ext Touch.besideHbm v t) :
    (t.finish slot Res.ok).EndsOk slot v := ⟨t, h, rfl⟩

/-- Out of reset a command whose operation ends OK answers such a state. -/
theorem State.EndsOk.runs {s v : State} {slot : Nat} {f : State → State} (h : (f s).EndsOk slot v) (hl : s.Live) :
    ∃ t : State, State.unlessReset s f = .next (t.finish slot Res.ok) ∧ t.mem = v.mem ∧ t.poison = v.poison := by
  obtain ⟨t, hframe, hend⟩ := h
  exact ⟨t, hl.runs hend, hframe.mem rfl, hframe.poison rfl⟩

section
variable {s u : State} {slot : Nat} {o : Op} {ks kd : Take} {ss ds : List DescP}

/-- Both sides covered and no channel in the way: it takes them, and acts on them where they pass its check. -/
theorem State.StreamDue.acts {sop : Nat} {mD : Desc → Nat} {nD : Nat}
    {check : State → List DescP → List DescP → Option (Nat × Bool)}
    (h : s.StreamDue slot sop o mD nD ks kd ss ds) (hu : u = s.streamTaken slot o ks kd ds) (hcheck : check u ss ds = none)
    (act : State → List DescP → List DescP → State) :
    s.runStream slot o Desc.bytes mD (o.b 0x30 8) nD check act = act u ss ds := by
  obtain ⟨-, -, htaken, ⟨as, hs, rfl, rfl⟩, ⟨bs, hd, rfl, rfl⟩, hfree⟩ := h
  subst hu
  unfold State.runStream
  rw [htaken]
  dsimp only
  rw [hfree]
  unfold State.streamTaken at hcheck ⊢
  simp only [hcheck, Bool.false_eq_true, if_false]

theorem State.StreamDue.endsOk {sop : Nat} {mD : Desc → Nat} {nD : Nat}
    {check : State → List DescP → List DescP → Option (Nat × Bool)}
    {act : State → List DescP → List DescP → State} {v : State} (h : s.StreamDue slot sop o mD nD ks kd ss ds)
    (hu : u = s.streamTaken slot o ks kd ds) (hcheck : check u ss ds = none) (hact : (act u ss ds).EndsOk slot v) :
    (s.runStream slot o Desc.bytes mD (o.b 0x30 8) nD check act).EndsOk slot v := by
  rw [h.acts hu hcheck]
  exact hact

/-- MOVE (R137, R214). -/
theorem opMove_due (h : s.StreamDue slot 0 o Desc.bytes (o.b 0x30 8) ks kd ss ds) (hu : u = s.streamTaken slot o ks kd ds)
    (hshape : sameShape ss ds = true) (hclean : u.anyPoison (takenUnits ss) (takenUnit ss) = false) :
    (opMove slot s).EndsOk slot (u.writeUnits (u.copyWrites ss ds)) := by
  unfold opMove
  rw [h.item]
  refine h.endsOk hu (if_pos hshape) ?_
  unfold State.copyUnits
  dsimp only
  rw [if_neg (ne_true_of_eq_false hclean)]
  exact .finish _ (State.moved_ext rfl (.refl _ _))

/-- COPY (R212, R216): poison travels with the bytes. -/
theorem opCopy_due (h : s.StreamDue slot 1 o Desc.bytes (o.b 0x30 8) ks kd ss ds) (hu : u = s.streamTaken slot o ks kd ds)
    (hshape : sameShape ss ds = true) (hstack : pairsOneStack ss ds = true) :
    (opCopy slot s).EndsOk slot
      ((u.poisonedDest ss ds).foldl (fun x k => x.setPoison (32 * k) true) (u.writeUnits (u.copyWrites ss ds))) := by
  unfold opCopy
  rw [h.item]
  refine h.endsOk hu (if_pos (Bool.and_eq_true_iff.2 ⟨hshape, hstack⟩)) (.finish _ (State.moved_ext rfl ?_))
  exact .foldl _ (fun x k hx => State.put_ext rfl hx) (.foldl _ (fun x k hx => State.bump_ext rfl hx) (.refl _ _))

/-- TRANSPOSE (R143, R214). -/
theorem opTranspose_due (h : s.StreamDue slot 3 o Desc.bytes (o.b 0x30 8) ks kd ss ds) (hu : u = s.streamTaken slot o ks kd ds)
    (hshape : sameShape ss ds = true)
    (hturned : ss.all (fun d => d.1.xpose && [0, 1, 2, 3, 4].contains d.1.fmtCode) = true)
    (hclean : u.anyPoison (takenUnits ss) (takenUnit ss) = false) :
    (opTranspose slot s).EndsOk slot (u.writeUnits (u.copyWrites ss ds)) := by
  unfold opTranspose
  rw [h.item]
  refine h.endsOk hu (if_pos (Bool.and_eq_true_iff.2 ⟨hshape, hturned⟩)) ?_
  dsimp only
  rw [if_neg (ne_true_of_eq_false hclean)]
  exact .finish _ (State.moved_ext rfl (.foldl _ (fun x k hx => State.bump_ext rfl hx) (.refl _ _)))

/-- EXPAND_E2M1 (R218): no segment with a reserved microscale, and none in poison. -/
theorem opExpand_due (h : s.StreamDue slot 4 o Desc.elements (o.b 0x30 8 / 528 * 1024) ks kd ss ds)
    (hu : u = s.streamTaken slot o ks kd ds) (hsrc : takenFmt ss = some 5) (hdst : takenFmt ds = some 2)
    (hwhole : o.b 0x30 8 % 528 = 0) (hgood : (u.expandRead ss).all (fun e => e.1.isSome && !e.2) = true) :
    (opExpand slot s).EndsOk slot
      (u.writeUnits ((takenUnits ds).zip ((u.expandRead ss).map (fun e => toLE 1 (e.1.getD 0))))) := by
  have hall : ∀ e ∈ u.expandRead ss, e.1.isSome = true ∧ e.2 = false := by simpa using hgood
  have hclean : ¬ (u.expandRead ss).any Prod.snd = true := by
    rw [List.any_eq_true]
    rintro ⟨e, he, hpoison⟩
    exact absurd hpoison (by rw [(hall e he).2]; decide)
  have hscaled : ¬ (u.expandRead ss).any (fun e => e.1.isNone) = true := by
    rw [List.any_eq_true]
    rintro ⟨e, he, hnone⟩
    exact absurd (hall e he).1 (by simpa using hnone)
  unfold opExpand
  rw [h.item]
  refine h.endsOk hu (by simp [hsrc, hdst, hwhole]) ?_
  dsimp only
  rw [if_neg hclean, if_neg hscaled]
  exact .finish _ (State.moved_ext rfl (.refl _ _))

/-- The formats that REDUCE_ADD adds, and the pairs that a wide one needs (R215). -/
theorem reduceAdd_checks (hshape : sameShape ss ds = true)
    (hfmt : takenFmt ss = some 0 ∨ takenFmt ss = some 1 ∨ takenFmt ss = some 6)
    (hwide : o.b 0x29 1 % 2 = 1 → takenFmt ss = some 6 ∧ ss.all (fun d => d.1.elements % 2 == 0) = true ∧
      ds.all (fun d => d.1.elements % 2 == 0) = true) :
    (sameShape ss ds && ((takenFmt ss).getD 15 == 0 || (takenFmt ss).getD 15 == 1 || (takenFmt ss).getD 15 == 6) &&
      (!(o.b 0x29 1 % 2 == 1) || ((takenFmt ss).getD 15 == 6 &&
        ss.all (fun d => d.1.elements % 2 == 0) && ds.all (fun d => d.1.elements % 2 == 0)))) = true := by
  have hcode : ((takenFmt ss).getD 15 == 0 || (takenFmt ss).getD 15 == 1 || (takenFmt ss).getD 15 == 6) = true := by
    rcases hfmt with h | h | h
    · rw [h]; rfl
    · rw [h]; rfl
    · rw [h]; rfl
  rw [hshape, hcode, Bool.and_self, Bool.true_and]
  by_cases hw : o.b 0x29 1 % 2 = 1
  · obtain ⟨hsix, hsource, hdest⟩ := hwide hw
    rw [hsix, hsource, hdest]
    exact Bool.or_true _
  · rw [beq_false_of_ne hw]
    rfl

/-- REDUCE_ADD (R214, R215): what follows the adds counts and notes them. -/
theorem opReduceAdd_due (h : s.StreamDue slot 2 o Desc.bytes (o.b 0x30 8) ks kd ss ds) (hu : u = s.streamTaken slot o ks kd ds)
    (hshape : sameShape ss ds = true) (hfmt : takenFmt ss = some 0 ∨ takenFmt ss = some 1 ∨ takenFmt ss = some 6)
    (hwide : o.b 0x29 1 % 2 = 1 → takenFmt ss = some 6 ∧ ss.all (fun d => d.1.elements % 2 == 0) = true ∧
      ds.all (fun d => d.1.elements % 2 == 0) = true)
    (hsrc : u.anyPoison (takenUnits ss) (takenUnit ss) = false) (hdst : u.anyPoison (takenUnits ds) (takenUnit ss) = false) :
    (opReduceAdd slot s).EndsOk slot (u.addAll (u.heritage (u.opPart o)) (o.b 0x29 1 % 2 == 1) ((takenFmt ss).getD 0)
      (takenUnit ss) (fun _ => true) (takenUnits ds) ((takenUnits ss).map (fun a => u.word a (takenUnit ss)))) := by
  unfold opReduceAdd
  rw [h.item]
  refine h.endsOk hu (if_pos (reduceAdd_checks hshape hfmt hwide)) ?_
  dsimp only
  rw [if_neg (ne_true_of_eq_false (Bool.or_eq_false_iff.2 ⟨hsrc, hdst⟩))]
  refine .finish _ (State.moved_ext rfl ?_)
  refine .ite (State.taintWrites_ext rfl ?counted) (.ite (State.taintWrites_ext rfl ?counted) ?counted)
  exact .foldl _ (fun x k hx => State.bump_ext rfl hx) (.ite (State.trigger_ext rfl (.refl _ _)) (.refl _ _))

/-! ### APPLY (R221 to R224) -/

/-- An APPLY that is due, its moments in no channel that retrains, of two FP32 sides, acts on them. -/
theorem opApply_due (h : s.StreamDue slot 6 o Desc.bytes (o.b 0x30 8) ks kd ss ds) (hu : u = s.streamTaken slot o ks kd ds)
    (hfree : s.applyWaits o = false) (hsrc : takenFmt ss = some 0) (hdst : takenFmt ds = some 0) :
    opApply slot s = if u.red.discarded.contains (u.opPart o, o.stamp - 1) then u.finish slot Res.stepDiscarded
      else u.applyRun slot o (s.rngBase (o.b 0x24 4) o.stamp) ss ds := by
  unfold opApply
  rw [h.item]
  dsimp only
  rw [if_neg (ne_true_of_eq_false hfree), h.acts hu (by rw [hsrc, hdst]; rfl)]

end

/-- With no poison under what it reads, an APPLY writes its elements, and then ends or mirrors them (R221 to R224). -/
theorem State.applyRun_clean {u : State} {slot : Nat} {o : Op} {base : Nat} {ss ds : List DescP} {xs : List ApplyElem}
    (hxs : xs = u.applyElems (u.heritage (u.opPart o)) o base ss ds)
    (hclean : (xs.zip (takenUnits ss)).all (fun e => !u.elemPoison o e.1 e.2) = true) :
    ∃ t : State, Ext Touch.besideHbm (u.writeUnits (xs.flatMap (fun x => x.writes (o.b 0x29 1)))) t ∧
      u.applyRun slot o base ss ds =
        if testBit (hyperFlags o.block) 0 && u.twinState == 2 then t.sendApplyMirror slot o xs else t.finish slot Res.ok := by
  subst hxs
  have hnone : ((u.applyElems (u.heritage (u.opPart o)) o base ss ds).zip (takenUnits ss)).filter
      (fun e => u.elemPoison o e.1 e.2) = [] :=
    List.filter_eq_nil_iff.2 fun e he => by simpa using List.all_eq_true.1 hclean e he
  unfold State.applyRun
  dsimp only
  rw [hnone]
  refine ⟨_, ?_, rfl⟩
  exact State.moved_ext rfl (State.applyFlags_ext rfl (.foldl _ (fun x k hx => State.bump_ext rfl hx)
    (State.noteOut_ext rfl (.refl _ _))))

/-! ### The traffic test (R225) -/

section
variable {s u : State} {slot : Nat} {o : Op}

theorem opTrafficTest_due {k : Take} {as ds : List DescP} {h : Nat} {errors first pass actual : Nat}
    (hitem : s.issuableStream slot 7 = some o) (htake : s.takeSide o 1 false Desc.bytes (o.b 0x30 8) = k) (hk : k = .ok as h)
    (hds : ds = o.gotOf 1 ++ as) (hfree : (takenUnits ds).any (fun a => s.chanWaits a (takenUnit ds)) = false)
    (haux : s.chanWaits (o.b 0x38 8) 64 = false)
    (hu : u = (((s.issue slot).consumeSide slot o 1 k).advanceRng (o.b 0x24 4) (total Desc.elements ds)).noteOut slot
      [(o.b 0x38 8 + 0x10, 32)])
    (hclean : u.poisoned (o.b 0x38 8) 64 = false) (hblock : testBlockOk (u.bytes (o.b 0x38 8) 64) = true) :
    (opTrafficTest slot errors first pass actual s).EndsOk slot
      (((takenUnits ds).foldl (fun x a => x.storeFree a (takenUnit ds)) (u.useFresh 3)).store (o.b 0x38 8 + 0x10)
        (u.testFields (o.b 0x38 8) errors first pass actual
          (sectorsOf ((takenUnits ds).map (fun a => (a, List.replicate (takenUnit ds) 0#8)))))) := by
  subst hk hds
  unfold opTrafficTest
  rw [hitem]
  dsimp only
  rw [htake]
  dsimp only
  rw [if_neg (ne_true_of_eq_false (Bool.or_eq_false_iff.2 ⟨hfree, haux⟩)), ← hu, if_neg (ne_true_of_eq_false hclean),
    if_neg (by rw [hblock]; decide)]
  exact .finish _ (State.addDetail_ext rfl (.refl _ _))

/-! ### COLMAX (R219, R220) -/

/-- A COLMAX that names a destination format, both its sides taken. -/
theorem opColmax_narrow {ks kd : Take} {as bs ss ds : List DescP} {hs hd : Nat} (hitem : s.issuableStream slot 5 = some o)
    (hnarrow : testBit (o.b 0x29 1) 1 = false) (htake : s.takeSide o 0 true Desc.bytes (o.b 0x30 8) = ks) (hks : ks = .ok as hs)
    (hss : ss = o.gotOf 0 ++ as) (htaked : s.takeSide o 1 false Desc.elements (total Desc.elements ss) = kd)
    (hkd : kd = .ok bs hd)
    (hds : ds = o.gotOf 1 ++ bs) (hfree : s.sidesWait ss ds = false)
    (hplanes : s.colmaxWaits (o.b 0x38 8) ss (ds.filterMap (fun d => d.2.map (fun pl => (pl, d.1.elements)))) = false)
    (hu : u = (((s.issue slot).consumeSide slot o 0 ks).consumeSide slot o 1 kd).advanceRng (o.b 0x24 4)
      (total Desc.elements ss)) :
    opColmax slot s = u.colmaxChecked slot o ss ds none (s.rngBase (o.b 0x24 4) o.stamp) ((takenFmt ds).getD 15) := by
  subst hks hkd hss hds hu
  unfold opColmax
  rw [hitem]
  dsimp only
  rw [htake]
  dsimp only [Take.got]
  rw [if_neg (ne_true_of_eq_false hnarrow)]
  unfold State.colmaxNarrow
  dsimp only [Take.got]
  rw [htaked]
  dsimp only
  rw [if_neg (ne_true_of_eq_false (Bool.or_eq_false_iff.2 ⟨hfree, hplanes⟩))]

/-- A planes_only COLMAX, its source and its plane descriptor taken. -/
theorem opColmax_planes {ks : Take} {as ss : List DescP} {hs hd : Nat} {pl : Plane} (hitem : s.issuableStream slot 5 = some o)
    (honly : testBit (o.b 0x29 1) 1 = true) (htake : s.takeSide o 0 true Desc.bytes (o.b 0x30 8) = ks) (hks : ks = .ok as hs)
    (hss : ss = o.gotOf 0 ++ as) (hplane : s.takePlane (o.b 0x24 4) = some (.ok (pl, hd))) (hfree : s.sidesWait ss [] = false)
    (hplanes : s.colmaxWaits (o.b 0x38 8) ss [(pl, total Desc.elements ss)] = false)
    (hu : u = (((s.issue slot).consumeSide slot o 0 ks).consume slot (o.b 0x24 4) hd [] true).useFresh 1) :
    opColmax slot s = u.colmaxChecked slot o ss [] (some pl) 0 (2 + (Config.freeWord s.fresh).toNat % 4) := by
  subst hks hss hu
  unfold opColmax
  rw [hitem]
  dsimp only
  rw [htake]
  dsimp only [Take.got]
  rw [if_pos honly]
  unfold State.colmaxPlanes
  dsimp only [Take.got]
  rw [hplane]
  dsimp only
  rw [if_neg (ne_true_of_eq_false (Bool.or_eq_false_iff.2 ⟨hfree, hplanes⟩))]

end

/-- How a COLMAX rounds the element of a delivered index (R56, R67, R219). -/
def State.colmaxMode (u : State) (o : Op) (base e : Nat) : Rnd :=
  if o.b 0x29 1 % 2 = 1 then Rnd.stoch (drawElem (u.seed (u.opPart o)) (u.rngStep (u.opPart o) o.stamp) (o.b 0x24 4) base e)
  else Rnd.rne

/-- What a COLMAX of column groups writes: the entries, then the planes, then the narrowed elements (R219, R220). -/
def State.colmaxWrites (u : State) (o : Op) (gs : List ColGroup) (fmt base : Nat) : List (Nat × List Byte) :=
  gs.flatMap (fun g => g.entries (o.b 0x38 8)) ++
  gs.flatMap (fun g => g.planes (g.scales (u.heritage (u.opPart o)) (fmtD fmt))) ++
  (gs.flatMap (fun g => g.narrow (u.heritage (u.opPart o)) fmt (g.scales (u.heritage (u.opPart o)) (fmtD fmt))
    (u.colmaxMode o base))).map (fun w => (w.addr, w.bytes))

/-- Pairing each entry of a list with its image, and then joining what they give, is joining over the list. -/
theorem flatMap_zip_map {α β γ : Type} (l : List α) (f : α → β) (g : α × β → List γ) :
    (l.zip (l.map f)).flatMap g = l.flatMap (fun x => g (x, f x)) := by
  induction l with
  | nil => rfl
  | cons x xs ih => exact congrArg (g (x, f x) ++ ·) ih

theorem State.colmaxRun_clean (u : State) (slot : Nat) (o : Op) (gs : List ColGroup) (fmt base : Nat) (ss ds : List DescP) :
    (u.colmaxRun slot o gs fmt base false ss ds).EndsOk slot (u.writeUnits (u.colmaxWrites o gs fmt base)) := by
  unfold State.colmaxRun
  dsimp only
  rw [if_neg Bool.false_ne_true, flatMap_zip_map, flatMap_zip_map]
  refine .finish _ (State.moved_ext rfl ?_)
  refine .ite (State.trigger_ext rfl ?flagged) ?flagged
  exact State.senFlag_ext rfl (State.senFlag_ext rfl (State.senFlag_ext rfl (State.noteOut_ext rfl (.refl _ _))))

/-- The column groups of a COLMAX: one under the plane of a planes_only one, else one a destination descriptor. -/
def colmaxGroups (one : Option Plane) (fmt : Nat) (ds : List DescP) (cols : List Column) : Option (List ColGroup) :=
  match one with
  | some pl => some [ColGroup.mk 0 cols pl none]
  | none => colGroups fmt ds cols 0 0

/-- A COLMAX that passes its checks writes its groups (R219, R220). -/
theorem State.colmaxChecked_clean {u : State} {slot : Nat} {o : Op} {ss ds : List DescP} {one : Option Plane} {base fmt : Nat}
    {cols : List Column} {gs : List ColGroup} (hsource : ss.findSome? (u.colmaxSource (u.opPart o)) = none)
    (hcols : cols = u.colmaxRead (u.heritage (u.opPart o)) ss 0)
    (heven : cols.all (fun c => c.length == (cols.headD []).length) = true)
    (hgroups : colmaxGroups one fmt ds cols = some gs)
    (hfmt : fmt = 2 ∨ fmt = 3 ∨ fmt = 4 ∨ fmt = 5) (hchunks : gs.all (fun g => g.plane.chunks == g.chunks) = true)
    (hplaces : gs.findSome? (fun g => u.planeAddrFault (u.opPart o) true g.plane g.cols.length) = none)
    (howns : u.ownsRange (u.opPart o) (o.b 0x38 8) (4 * cols.length * ceilDiv (cols.headD []).length 1024) = true)
    (hwindow : u.inWindow (u.opPart o) (o.b 0x38 8) (4 * cols.length * ceilDiv (cols.headD []).length 1024) = false)
    (hclean : ss.any (fun d => u.anyPoison d.1.addrs d.1.unit) = false) :
    (u.colmaxChecked slot o ss ds one base fmt).EndsOk slot (u.writeUnits (u.colmaxWrites o gs fmt base)) := by
  subst hcols
  have huneven : ¬ (u.colmaxRead (u.heritage (u.opPart o)) ss 0).any
      (fun c => c.length != ((u.colmaxRead (u.heritage (u.opPart o)) ss 0).headD []).length) = true := by
    simpa [List.all_eq_true] using heven
  have hcodes : ¬ (!(fmt == 2 || fmt == 3 || fmt == 4 || fmt == 5) || gs.any (fun g => g.plane.chunks != g.chunks)) = true := by
    have hall : gs.any (fun g => g.plane.chunks != g.chunks) = false := by simpa [List.all_eq_true] using hchunks
    rw [hall]
    rcases hfmt with rfl | rfl | rfl | rfl
    all_goals decide
  unfold State.colmaxChecked
  dsimp only
  rw [hsource]
  dsimp only
  rw [if_neg huneven]
  cases one
  case' none =>
    dsimp only [colmaxGroups] at hgroups ⊢
    rw [hgroups]
  case' some pl => obtain rfl := Option.some.inj hgroups
  all_goals
    dsimp only
    rw [if_neg hcodes, hplaces]
    dsimp only
    rw [if_neg (by rw [howns]; decide), if_neg (ne_true_of_eq_false hwindow), hclean]
    exact State.colmaxRun_clean u slot o _ fmt base ss ds

/-- Settles O24: each operation's equation ends in the write of its units and in changes beside HBM, and a store is read byte by
byte. -/
theorem movesAndCopiesCarryTheBytes : Obligations.MovesAndCopiesCarryTheBytes := by
  unfold Obligations.MovesAndCopiesCarryTheBytes
  refine ⟨?taken, ?stored, ?storeKeeps, ?unitsKeep, ?move, ?copy, ?transpose, ?expand, ?reduceAdd, ?traffic, ?discarded, ?apply,
    ?narrow, ?planes, ?checked⟩
  case taken =>
    intro s slot o ks kd ds
    have hframe := s.streamTaken_ext slot o ks kd ds
    exact ⟨hframe.mem rfl, hframe.poison rfl, hframe.fresh rfl⟩
  case stored =>
    intro s a bs i hi hk honce
    exact (s.byte_store _ _ _).trans (State.byte_pokes hi hk honce)
  case storeKeeps =>
    intro s a b bs h
    exact (s.byte_store _ _ _).trans (State.byte_pokes_ne h)
  case unitsKeep =>
    intro s ws b h
    exact State.byte_writeUnits_ne h
  case move =>
    intro s slot o ks kd ss ds u h hu hshape hclean
    exact (opMove_due h hu hshape hclean).runs h.live
  case copy =>
    intro s slot o ks kd ss ds u h hu hshape hstack
    obtain ⟨t, hexec, hmem, hpoison⟩ := (opCopy_due h hu hshape hstack).runs h.live
    have hmarks : Ext 32 (u.writeUnits (u.copyWrites ss ds))
        ((u.poisonedDest ss ds).foldl (fun x k => x.setPoison (32 * k) true) (u.writeUnits (u.copyWrites ss ds))) :=
      .foldl _ (fun x k hx => State.setPoison_ext rfl hx) (.refl _ _)
    exact ⟨t, hexec, hmem.trans (hmarks.mem rfl), hpoison⟩
  case transpose =>
    intro s slot o ks kd ss ds u h hu hshape hturned hclean
    exact (opTranspose_due h hu hshape hturned hclean).runs h.live
  case expand =>
    rintro s slot o ks kd ss ds u _ h hu hsrc hdst hwhole rfl hgood
    obtain ⟨t, hexec, hmem, -⟩ := (opExpand_due h hu hsrc hdst hwhole hgood).runs h.live
    exact ⟨t, hexec, hmem⟩
  case reduceAdd =>
    intro s slot o ks kd ss ds u h hu hshape hfmt hwide hsrc hdst
    obtain ⟨t, hexec, hmem, -⟩ := (opReduceAdd_due h hu hshape hfmt hwide hsrc hdst).runs h.live
    exact ⟨t, hexec, hmem⟩
  case traffic =>
    intro s slot o k as ds h errors first pass actual u hl hitem htake hk hds hfree haux hu hclean hblock
    obtain ⟨t, hexec, hmem, -⟩ := (opTrafficTest_due hitem htake hk hds hfree haux hu hclean hblock).runs hl
    exact ⟨t, hexec, hmem⟩
  case discarded =>
    intro s slot o ks kd ss ds u h hu hfree hsrc hdst hdiscarded
    exact h.live.runs ((opApply_due h hu hfree hsrc hdst).trans (if_pos hdiscarded))
  case apply =>
    intro s slot o ks kd ss ds u xs h hu hfree hsrc hdst hopen hxs hclean
    obtain ⟨t, hframe, hrun⟩ := State.applyRun_clean (slot := slot) hxs hclean
    exact ⟨t, h.live.runs ((opApply_due h hu hfree hsrc hdst).trans ((if_neg (ne_true_of_eq_false hopen)).trans hrun)),
      hframe.mem rfl⟩
  case narrow =>
    intro s slot o ks kd as bs ss ds hs hd u hl hitem hnarrow htake hks hss htaked hkd hds hfree hplanes hu
    exact hl.runs (opColmax_narrow hitem hnarrow htake hks hss htaked hkd hds hfree hplanes hu)
  case planes =>
    intro s slot o ks as ss hs hd pl u hl hitem honly htake hks hss hplane hfree hplanes hu
    exact hl.runs (opColmax_planes hitem honly htake hks hss hplane hfree hplanes hu)
  case checked =>
    intro u slot o ss ds one base fmt cols gs hsource hcols heven hgroups hfmt hchunks hplaces howns hwindow hclean
    obtain ⟨t, hframe, hend⟩ := State.colmaxChecked_clean (slot := slot) (base := base) hsource hcols heven hgroups hfmt hchunks
      hplaces howns hwindow hclean
    exact ⟨t, hend, hframe.mem rfl⟩

end Sys2Proof.Machine
end

section
/-!
Layer instances and step records: a rise, a close, a rung written by the runtime, and the notes of a closed step.
-/
namespace Sys2Proof.Machine

/-! ### A rise (R195) -/

/-- What stands under a name depends on the open layer instances only. -/
theorem State.inst_of_insts {s t : State} (h : t.health.insts = s.health.insts) (k : Nat) : t.inst k = s.inst k :=
  congrArg (fun m => Sparse.get (fun _ => none) m k) h

/-- The notes of steps are kept apart from the open layer instances. -/
theorem State.mapBook_inst (s : State) (p step k : Nat) (f : StepBook → StepBook) : (s.mapBook p step f).inst k = s.inst k :=
  State.inst_of_insts rfl k

theorem State.event_inst (s : State) (code : Nat) (part : Option Nat) (cantle : Bool) (n k : Nat) (payload : List Byte) :
    (s.event code part cantle n payload).inst k = s.inst k :=
  State.inst_of_insts (congrArg Health.insts ((State.event_ext (M₀ := 132) rfl (.refl _ s)).health rfl)) k

/-- A layer one rung up, with that rung's list still to be admitted. -/
def LadInst.raised (x : LadInst) (list : List Nat) : LadInst :=
  { x with toAdmit := list, rung := x.rung + 1, trig := false, rose := true }

/-- The completion-record flag of an item whose layer is repeated. -/
def State.flagRepeated (s : State) (admitNo : Nat) : State :=
  match s.inFlight.find? (fun e => e.2.admitNo == admitNo) with
  | some (slot, _) => s.orFlags slot 1
  | none => s

theorem State.flagRepeated_ext (s : State) (admitNo : Nat) {M : Nat} {a : State} (hM : Within 64 M) (h : Ext M a s) :
    Ext M a (s.flagRepeated admitNo) := by
  unfold State.flagRepeated
  split
  · exact State.orFlags_ext hM h
  · exact h

/-- What a rise of x writes before the step's notes and the event: x itself, its entry in HBM, the registers of the ladder and the
flags of its items. -/
def State.raiseInst (s : State) (k : Nat) (x : LadInst) : State :=
  let p := x.part
  let r := x.rung + 1
  let a := s.ladAddr p x.entry
  let t := s.setInst k (some (x.raised (s.ladListAddrs p x.entry r)))
  let t := ((t.setLadRung p x.entry r).storeLE (a + 0x28) 8 x.step).storeLE (a + 0x30) 4 (s.word (a + 0x30) 4 + 1)
  let t := (t.bumpSat (Fld.ladderStat_rises p) 1).put (Fld.ladderStat_last_ctr p) (s.ladCtr p x.entry)
  (x.items ++ x.listItems).foldl State.flagRepeated t

/-- After a rise x stands one rung up under its name: what is written after it touches no open layer. -/
theorem State.raiseInst_inst (s : State) (k : Nat) (x : LadInst) :
    (s.raiseInst k x).inst k = some (x.raised (s.ladListAddrs x.part x.entry (x.rung + 1))) := by
  have hframe : Ext 116 (s.setInst k (some (x.raised (s.ladListAddrs x.part x.entry (x.rung + 1))))) (s.raiseInst k x) :=
    .foldl _ (fun t n ht => t.flagRepeated_ext n rfl ht) (State.put_ext rfl (State.bumpSat_ext rfl (State.storeLE_ext rfl
      (State.storeLE_ext rfl (State.setLadRung_ext rfl (.refl _ _))))))
  exact (State.inst_of_insts (congrArg Health.insts (hframe.health rfl)) k).trans (State.setInst_inst s k _)

/-- A triggered, complete, good layer whose next list is present rises (R195). -/
theorem ladderRise_due {s : State} {k : Nat} {x : LadInst} (hx : s.inst k = some x) (htrig : x.trig = true)
    (hgood : s.instBad x = false) (hcomplete : s.instComplete x = true)
    (hlist : s.ladHasList x.part x.entry (x.rung + 1) = true) :
    ladderRise k s = ((s.raiseInst k x).mapBook x.part x.step (fun b => { b with rise := true })).event 0x0802 (some x.part)
      (s.partCantle x.part) 0 (toLE 2 (s.ladCtr x.part x.entry) ++ toLE 1 (x.rung + 1)) := by
  have hguard : ¬ (x.trig = false ∨ s.instBad x = true ∨ s.instComplete x = false ∨
      s.ladHasList x.part x.entry (x.rung + 1) = false) := by
    simp [htrig, hgood, hcomplete, hlist]
  unfold ladderRise
  rw [hx]
  exact if_neg hguard

theorem ladderRiseAt_oldest {s : State} {p i k : Nat} {y : LadInst} (hserves : s.serving = true)
    (hold : s.oldestInst p i = some (k, y)) : ladderRiseAt p i s = ladderRise k s := by
  unfold ladderRiseAt
  rw [hold]
  exact if_pos hserves

/-! ### A close (R194, R197) -/

/-- An item of a closing layer leaves: with its last state, its record, and its add unless that was made when it ended. -/
def State.retireMember (s : State) (x : LadInst) (layerCtr admitNo : Nat) : State :=
  match s.inFlight.find? (fun e => e.2.admitNo == admitNo) with
  | some (slot, o) => s.retire slot (o.done.getD Res.ok) (!x.ended.contains admitNo || o.signalCtr == layerCtr)
  | none => s

theorem State.retireMember_insts (s : State) (x : LadInst) (layerCtr admitNo : Nat) :
    (s.retireMember x layerCtr admitNo).health.insts = s.health.insts := by
  unfold State.retireMember
  split
  · exact s.retire_insts _ _ _
  · rfl

/-- The state in which x is closed and its items have left. -/
def State.retireMembers (s : State) (k : Nat) (x : LadInst) (layerCtr : Nat) : State :=
  (x.items ++ x.listItems).foldl (fun t n => t.retireMember x layerCtr n) (s.setInst k none)

theorem State.retireMembers_inst (s : State) (k : Nat) (x : LadInst) (layerCtr : Nat) :
    (s.retireMembers k x layerCtr).inst k = none := by
  have hkeep : (s.retireMembers k x layerCtr).health.insts = (s.setInst k none).health.insts :=
    List.foldlRecOn (motive := fun t : State => t.health.insts = (s.setInst k none).health.insts) _ _ rfl
      (fun t ht n _ => (t.retireMember_insts x layerCtr n).trans ht)
  exact (State.inst_of_insts hkeep k).trans (State.setInst_inst s k none)

/-- An unsticky entry whose layer rose goes back to its base rung. -/
def State.restoreRung (s t : State) (p i : Nat) (x : LadInst) : State :=
  if x.rose ∧ s.ladSticky p i = false then t.setLadRung p i (s.ladBaseRung p i) else t

theorem State.restoreRung_health (s t : State) (p i : Nat) (x : LadInst) : (s.restoreRung t p i x).health = t.health := by
  unfold State.restoreRung
  split
  · exact (State.setLadRung_ext (M₀ := 112) rfl (.refl _ t)).health rfl
  · rfl

/-- A complete layer that will not rise closes (R194). -/
theorem ladderInstanceClose_due {s : State} {p i k : Nat} {x : LadInst} (hold : s.oldestInst p i = some (k, x))
    (hcomplete : s.instComplete x = true) (hstays : ¬ (x.trig = true ∧ s.instBad x = false)) (hserves : s.serving = true) :
    ladderInstanceClose p i s = (s.restoreRung (s.retireMembers k x (s.ladCtr p i)) p i x).ladOpenUpdate p := by
  have hguard : ¬ (s.instComplete x = false ∨ (x.trig && !s.instBad x) = true ∨ s.serving = false) := by
    simpa [hcomplete, hserves] using hstays
  unfold ladderInstanceClose
  rw [hold]
  exact if_neg hguard

/-- What has closed is gone from the open layers: neither its items' ends nor its rung bring it back. -/
theorem ladderInstanceClose_inst {s : State} {p i k : Nat} {x : LadInst} (hold : s.oldestInst p i = some (k, x))
    (hcomplete : s.instComplete x = true) (hstays : ¬ (x.trig = true ∧ s.instBad x = false)) (hserves : s.serving = true) :
    (ladderInstanceClose p i s).inst k = none := by
  rw [ladderInstanceClose_due hold hcomplete hstays hserves]
  have hshown := (State.ladOpenUpdate_ext (M₀ := 4) (p := p) rfl
    (.refl _ (s.restoreRung (s.retireMembers k x (s.ladCtr p i)) p i x))).health rfl
  rw [State.inst_of_insts (congrArg Health.insts (hshown.trans (s.restoreRung_health _ p i x))), State.retireMembers_inst]

/-! ### A rung written by the runtime (R197) -/

theorem ladderRungWrite_closed {s : State} {p i : Nat} (v : Nat)
    (hnone : s.openInsts.any (fun e => e.2.part == p && e.2.entry == i) = false) :
    ladderRungWrite p i v s = s.storeLE (s.ladAddr p i + 4) 1 v :=
  if_neg (ne_true_of_eq_false hnone)

theorem ladderRungWrite_open {s : State} {p i : Nat} (v : Nat)
    (hopen : s.openInsts.any (fun e => e.2.part == p && e.2.entry == i) = true) :
    ladderRungWrite p i v s =
      s.event Blk.num (some p) (s.partCantle p) 0 (genericPayload (s.ladAddr p i + 4) v 0) :=
  if_pos hopen

/-! ### The record of a closed step (R201) -/

/-- The notes of a step are dropped. -/
def State.dropBook (s : State) (p step : Nat) : State :=
  s.setHealth { s.health with books := s.health.books.filter (fun x => !(x.part == p && x.step == step)) }

section
variable {s : State} {p : Nat} {b : StepBook} (hbook : s.health.books.find? (fun b => b.part == p && b.closed) = some b)
  (hserves : s.serving = true)
  (hretired : s.inFlight.any (fun e => s.opPart e.2 == p && e.2.opcode == 4 && e.2.stamp == b.step) = false)
include hbook hserves hretired

/-- Without step records nothing else is done. -/
theorem stepRecordWrite_disabled (hoff : s.flag (Fld.steprecCfg_enable p) = false) :
    stepRecordWrite p s = s.dropBook p b.step := by
  simp only [stepRecordWrite, hbook, hretired, hserves, hoff, Bool.true_eq_false, Bool.false_eq_true, or_self, if_false, if_true]
  rfl

/-- A record is written with the notes dropped already, to HBM and the registers of its ring. -/
theorem stepRecordWrite_ext_dropped : Ext 180 (s.dropBook p b.step) (stepRecordWrite p s) := by
  simp only [stepRecordWrite, hbook, hretired, hserves, Bool.true_eq_false, Bool.false_eq_true, or_self, if_false]
  split
  · exact .refl _ _
  · exact State.wr_ext rfl (State.tableWrite_ext rfl (State.tableWrite_ext rfl (.refl _ _)))

end

/-- Settles O18: each command's guard holds, and the states of a rise, a close, a rung write and a record are read off by what
they leave of the instances and the notes. -/
theorem ladderInstancesRiseAndClose : Obligations.LadderInstancesRiseAndClose := by
  unfold Obligations.LadderInstancesRiseAndClose
  refine ⟨?rise, ?close, ?closed, ?opened, ?record⟩
  case rise =>
    intro s p i k x y hl hserves hold hx htrig hgood hcomplete hlist
    have hframe := ladderRise_ext (k := k) (M₀ := 33012) rfl (.refl _ s)
    refine ⟨_, hl.runs (ladderRiseAt_oldest hserves hold), ?_, hframe.fuses rfl, hframe.links rfl⟩
    rw [ladderRise_due hx htrig hgood hcomplete hlist, State.event_inst, State.mapBook_inst]
    exact s.raiseInst_inst k x
  case close =>
    intro s p i k x hl hold hcomplete hstays hserves
    have hframe := ladderInstanceClose_ext (p := p) (i := i) (M₀ := 446966) rfl (.refl _ s)
    exact ⟨_, hl.runs rfl, ladderInstanceClose_inst hold hcomplete hstays hserves, hframe.links rfl, hframe.power rfl⟩
  case closed =>
    intro s p i v hl hnone
    exact hl.runs (ladderRungWrite_closed v.toNat hnone)
  case opened =>
    intro s p i v hl hopen
    have hframe := State.event_ext (code := Blk.num) (part := some p.val) (cantle := s.partCantle p) (inst := 0)
      (payload := genericPayload (s.ladAddr p i + 4) v.toNat 0) (M₀ := 132) rfl (.refl _ s)
    exact ⟨_, hl.runs (ladderRungWrite_open v.toNat hopen), hframe.mem rfl, hframe.poison rfl, hframe.ctl rfl, hframe.health rfl⟩
  case record =>
    intro s p b hl hbook hserves hretired
    have hframe := stepRecordWrite_ext_dropped hbook hserves hretired
    refine ⟨_, hl.runs rfl, congrArg Health.books (hframe.health rfl), hframe.ctl rfl, fun hoff => ?_⟩
    rw [stepRecordWrite_disabled hbook hserves hretired hoff]
    exact ⟨rfl, rfl⟩

end Sys2Proof.Machine
end

section
/-!
The stacked memory's commands: what each command's equation is in the case at hand, and what the channel's and the stack's
registers read after it.
-/
namespace Sys2Proof.Machine

/-! ### Registers of the stacked memory beside one another -/

/-- The stacks' registers lie below the channels'. -/
theorem hsmChStatus_ne_hsmStackStatus (n : Nat) {h : Nat} (hh : h < 16) : Reg.hsmChStatus n ≠ Reg.hsmStackStatus h := by
  unfold Reg.hsmChStatus Reg.hsmStackStatus
  omega

theorem hsmChStatus_ne_hsmIferr (n : Nat) : Reg.hsmChStatus n ≠ Reg.hsmIferr n := by
  unfold Reg.hsmChStatus Reg.hsmIferr
  omega

theorem hsmStackStatus_ne_evrecLost {h : Nat} (hh : h < 16) : Reg.hsmStackStatus h ≠ Reg.evrecLost := by
  unfold Reg.hsmStackStatus Reg.evrecLost
  omega

theorem hsmChStatus_ne_evrecLost {n : Nat} (hn : n < 512) : Reg.hsmChStatus n ≠ Reg.evrecLost := by
  unfold Reg.hsmChStatus Reg.evrecLost
  omega

theorem hsmStackStatus_ne_inventory (h : Nat) : Reg.hsmStackStatus h ≠ Reg.inventory := by
  unfold Reg.hsmStackStatus Reg.inventory
  omega

theorem hsmChStatus_ne_inventory (n : Nat) : Reg.hsmChStatus n ≠ Reg.inventory := by
  unfold Reg.hsmChStatus Reg.inventory
  omega

/-- The capacity shown is no part of a stack's status. -/
theorem State.f_capacityUpdate_hsmStackStatus (s : State) (h : Nat) {q : FieldRef} (hq : q.off = Reg.hsmStackStatus h) :
    s.capacityUpdate.f q = s.f q :=
  State.capacityUpdate_f s (fun i _ => by rw [hq]; unfold Reg.hsmStackStatus Reg.hsmLimit; omega)
    (by rw [hq]; unfold Reg.hsmStackStatus Reg.hsmCapacity; omega)

/-- The capacity shown is no part of a channel's status. -/
theorem State.f_capacityUpdate_hsmChStatus (s : State) (n : Nat) {q : FieldRef} (hq : q.off = Reg.hsmChStatus n) :
    s.capacityUpdate.f q = s.f q :=
  State.capacityUpdate_f s (fun i hi => by rw [hq]; unfold Reg.hsmChStatus Reg.hsmLimit; omega)
    (by rw [hq]; unfold Reg.hsmChStatus Reg.hsmCapacity; omega)

/-- Out of reset a write that its register accepts answers what the register does with it. -/
theorem State.Live.writes {s t : State} {w : Writer} {off v : Nat} {f : State → State} (h : s.Live) (haccepts : s.Accepts w off v)
    (hf : f s = t) : State.unlessReset s (fun s => s.regWrite w off v f) = .next t :=
  (State.unlessReset_regWrite h haccepts).trans (congrArg _ hf)

/-! ### The patrol scrub (R211) -/

/-- The patrol moves on to the next sector of channel n. -/
def State.scrubOn (s : State) (n : Nat) : State :=
  s.setHsm { s.hsm with
    scrubAt := Sparse.put (fun _ => 0) s.hsm.scrubAt n ((Sparse.get (fun _ => 0) s.hsm.scrubAt n + 1) % (chBytes / 32)) }

theorem State.scrubOn_scrubAt (s : State) (n : Nat) : Sparse.get (fun _ => 0) (s.scrubOn n).hsm.scrubAt n =
    (Sparse.get (fun _ => 0) s.hsm.scrubAt n + 1) % (chBytes / 32) :=
  Sparse.get_put_self _ _ _ _

theorem State.scrubOn_ext (s : State) (n : Nat) : Ext 8196 s (s.scrubOn n) := State.setHsm_ext rfl (.refl _ s)

section
variable {s : State} {n : Nat} (hserves : s.serving = true) (hchannel : s.chServes n = true)
include hserves hchannel

theorem State.scrub_inService : ¬ (s.chServes n = false ∨ s.serving = false) := by
  simp [hserves, hchannel]

theorem patrolScrub_clean : patrolScrub n 0 none s = s.scrubOn n :=
  if_neg (State.scrub_inService hserves hchannel)

theorem patrolScrub_corrected : patrolScrub n 1 none s = (s.scrubOn n).bumpSat (Fld.hsmEcc_ce n) 1 :=
  if_neg (State.scrub_inService hserves hchannel)

theorem patrolScrub_uncorrectable :
    patrolScrub n 2 none s = (s.scrubOn n).poisonSector n (Sparse.get (fun _ => 0) s.hsm.scrubAt n) :=
  (if_neg (State.scrub_inService hserves hchannel)).trans ((if_neg (by decide)).trans (if_pos rfl))

/-- A demand read poisons the sector it met and leaves the patrol where it was. -/
theorem patrolScrub_uncorrectable_demand (k : Nat) : patrolScrub n 2 (some k) s = s.poisonSector n k :=
  (if_neg (State.scrub_inService hserves hchannel)).trans ((if_neg (by decide)).trans (if_pos rfl))

end

/-! ### The channel test (R225) -/

/-- A test that ends shows the errors it found. -/
theorem hsmTestDone_running {s : State} {n : Nat} (errors : Nat) (hgo : s.flag (Fld.hsmTest_go n) = true) :
    hsmTestDone n errors s = (s.put (Fld.hsmTest_errors n) errors).put (Fld.hsmTest_go n) 0 :=
  if_pos hgo

theorem writeHsmTest_noGo {s : State} {w : Writer} {n v : Nat} (hwriter : s.writerDevice w = true) (hgo : bits v 2 1 = 0) :
    writeHsmTest w n v s = s.put (Fld.hsmTest_pattern n) (bits v 0 2) :=
  (if_neg (by simp [hwriter])).trans (if_pos hgo)

/-- The lead starts a test on a channel that is OFF or MAPPED_OUT. -/
theorem writeHsmTest_go {s : State} {n v : Nat} (hgo : bits v 2 1 = 1)
    (hout : s.f (Fld.hsmChStatus_state n) = 0 ∨ s.f (Fld.hsmChStatus_state n) = 5) :
    writeHsmTest .lead n v s = (s.put (Fld.hsmTest_pattern n) (bits v 0 2)).put (Fld.hsmTest_go n) 1 :=
  (if_neg (by simp [State.writerDevice])).trans ((if_neg (by rw [hgo]; decide)).trans (if_pos ⟨rfl, hout⟩))

theorem State.f_put_hsmTest_pattern (s : State) (n v : Nat) :
    (s.put (Fld.hsmTest_pattern n) (bits v 0 2)).f (Fld.hsmTest_pattern n) = bits v 0 2 :=
  (State.f_put_self (r := Fld.hsmTest_pattern n) _ _ (by decide : 0 + 2 ≤ 64)).trans (Nat.mod_eq_of_lt (bits_lt v 0 2))

/-- Settles O19: a serving channel's scrub by what the check finds, and each write of HSM_TEST_n field by field. -/
theorem scrubAndTestFindings : Obligations.ScrubAndTestFindings := by
  unfold Obligations.ScrubAndTestFindings
  refine ⟨?clean, ?corrected, ?uncorrectable, ?demand, ?done, ?pattern, ?go⟩
  case clean =>
    intro s n hl hserves hchannel
    exact ⟨_, hl.runs (patrolScrub_clean hserves hchannel), s.scrubOn_scrubAt n, rfl, rfl, rfl⟩
  case corrected =>
    intro s n hl hserves hchannel
    exact ⟨_, hl.runs (patrolScrub_corrected hserves hchannel),
      State.f_bumpSat_self (r := Fld.hsmEcc_ce n) (s.scrubOn n) 1 (by decide : 0 + 16 ≤ 64),
      fun off hoff => State.rd_bumpSat_ne (s.scrubOn n) 1 (List.ne_of_not_mem_cons hoff),
      State.f_bumpSat_sep (r := Fld.hsmEcc_ce n) (s.scrubOn n) 1 (by decide : 0 + 16 ≤ 64) (.inr (by decide : 0 + 16 ≤ 16)),
      (State.bumpSat_ext rfl (s.scrubOn_ext n)).sameHbm rfl⟩
  case uncorrectable =>
    intro s n hl hserves hchannel
    exact ⟨_, hl.runs (patrolScrub_uncorrectable hserves hchannel), State.poisonSector_poison _ _ _,
      State.poisonSector_ue _ _ _ n.isLt, State.poisonSector_mem _ _ _⟩
  case demand =>
    intro s n k hl hserves hchannel
    exact ⟨_, hl.runs (patrolScrub_uncorrectable_demand hserves hchannel k), State.poisonSector_poison _ _ _,
      State.poisonSector_ue _ _ _ n.isLt, State.poisonSector_mem _ _ _⟩
  case done =>
    intro s n errors hl hgo
    refine ⟨_, hl.runs (hsmTestDone_running errors.toNat hgo), ?_,
      State.f_put_self (r := Fld.hsmTest_go n) _ 0 (by decide : 2 + 1 ≤ 64),
      (s.wr_onlyRegs (Reg.hsmTest n) _).put 0 (List.mem_singleton_self _)⟩
    rw [State.f_put_sep (r := Fld.hsmTest_go n) (q := Fld.hsmTest_errors n) _ _ (by decide : 2 + 1 ≤ 64)
        (.inr (by decide : 2 + 1 ≤ 32)),
      State.f_put_self (r := Fld.hsmTest_errors n) _ _ (by decide : 32 + 32 ≤ 64)]
    exact Nat.mod_eq_of_lt errors.isLt
  case pattern =>
    intro s w n v hl haccepts hwriter hgo
    exact ⟨_, hl.writes haccepts (writeHsmTest_noGo hwriter hgo), s.f_put_hsmTest_pattern n v.toNat,
      State.f_put_sep (r := Fld.hsmTest_pattern n) _ _ (by decide : 0 + 2 ≤ 64) (.inr (by decide : 0 + 2 ≤ 2)),
      s.wr_onlyRegs (Reg.hsmTest n) _⟩
  case go =>
    intro s n v hl haccepts _ hgo hout
    exact ⟨_, hl.writes haccepts (writeHsmTest_go hgo hout),
      State.flag_put_self (r := Fld.hsmTest_go n) _ 1 (by decide : 2 + 1 ≤ 64),
      (State.f_put_sep (r := Fld.hsmTest_go n) _ 1 (by decide : 2 + 1 ≤ 64) (.inl (by decide : 0 + 2 ≤ 2))).trans
        (s.f_put_hsmTest_pattern n v.toNat),
      (s.wr_onlyRegs (Reg.hsmTest n) _).put 1 (List.mem_singleton_self _)⟩

/-! ### A retraining is wanted and starts (R226) -/

theorem writeRetrainReq_go {s : State} {w : Writer} {v : Nat} (hwriter : s.writerDevice w = true) (hgo : bits v 31 1 = 1) :
    writeRetrainReq w v s = s.wantRetrain (bits v 0 9) true :=
  (if_neg (by simp [hwriter])).trans (if_pos hgo)

section
variable {s : State} {n : Nat} (hchannel : s.chServes n = true)
include hchannel

theorem retrainTrigger_byTemp (k : Nat) (hmoved : s.tempMoved n = true) :
    retrainTrigger n true k none s = s.wantRetrain n true :=
  (if_neg (by simp [hchannel])).trans (if_pos hmoved)

theorem retrainTrigger_byRetries {k : Nat} (hmany : 64 ≤ k) :
    retrainTrigger n false k none s = (s.bumpSat (Fld.hsmIferr_retries n) k).wantRetrain n true :=
  (if_neg (by simp [hchannel])).trans (if_pos hmany)

end

/-- Channel n retrains: no longer wanted, and counted. -/
def State.retrainCounted (s : State) (n : Nat) : State :=
  ((s.wantRetrain n false).put (Fld.hsmChStatus_state n) 2).bumpSat (Fld.hsmIferr_retrains n) 1

/-- The retraining of channel n is also timed. -/
def State.retraining (s : State) (n : Nat) : State :=
  (s.retrainCounted n).setHsm { (s.retrainCounted n).hsm with
    retrainSince := Sparse.put (fun _ => 0) (s.retrainCounted n).hsm.retrainSince n (s.retrainCounted n).now }

theorem channelRetrain_due {s : State} {n : Nat} (hwanted : s.retrainWantedAt n = true) (hchannel : s.chServes n = true)
    (hserves : s.serving = true) (hstop : s.anyStop = false)
    (halone : ∀ c < 32, s.f (Fld.hsmChStatus_state (32 * (n / 32) + c)) ≠ 2) : channelRetrain n s = s.retraining n :=
  if_pos ⟨hwanted, .inl ⟨hchannel, hserves, hstop⟩, by simpa using halone⟩

theorem State.retraining_state (s : State) (n : Nat) : (s.retraining n).f (Fld.hsmChStatus_state n) = 2 := by
  unfold State.retraining State.retrainCounted
  rw [State.setHsm_f, State.f_bumpSat_ne _ 1 (hsmChStatus_ne_hsmIferr n)]
  exact State.f_put_self (r := Fld.hsmChStatus_state n) _ 2 (by decide : 0 + 3 ≤ 64)

theorem State.retraining_notWanted (s : State) (n : Nat) : (s.retraining n).retrainWantedAt n = false :=
  (State.retrainWantedAt_of_hsm (s := s.wantRetrain n false) (t := s.retraining n) rfl).trans
    (s.wantRetrain_retrainWantedAt n false)

theorem State.retraining_count (s : State) (n : Nat) :
    (s.retraining n).f (Fld.hsmIferr_retrains n) = min (s.f (Fld.hsmIferr_retrains n) + 1) 65535 := by
  unfold State.retraining State.retrainCounted
  rw [State.setHsm_f, State.f_bumpSat_self (r := Fld.hsmIferr_retrains n) _ 1 (by decide : 16 + 16 ≤ 64),
    State.f_put_ne _ 2 (hsmChStatus_ne_hsmIferr n).symm, State.wantRetrain_f]
  rfl

theorem State.retraining_sameRegsBut (s : State) (n : Nat) :
    s.SameRegsBut (s.retraining n) [Reg.hsmChStatus n, Reg.hsmIferr n] := fun off hoff => by
  obtain ⟨hstatus, herrors⟩ : off ≠ Reg.hsmChStatus n ∧ off ≠ Reg.hsmIferr n := by simpa using hoff
  unfold State.retraining State.retrainCounted
  rw [State.setHsm_rd, State.rd_bumpSat_ne _ 1 herrors, State.rd_put_ne _ 2 hstatus, State.wantRetrain_rd]

theorem State.retraining_sameHbm (s : State) (n : Nat) : s.SameHbm (s.retraining n) :=
  (State.setHsm_ext rfl (State.bumpSat_ext rfl (State.put_ext rfl
    (State.wantRetrain_ext (M₀ := 8196) rfl (.refl _ s))))).sameHbm rfl

/-! ### A retraining ends (R226, R227) -/

/-- A retrained channel serves again and shows its failures in a row. -/
def State.retrained (s : State) (n fails : Nat) : State :=
  (s.put (Fld.hsmChStatus_state n) (s.servingCode n)).put (Fld.hsmChStatus_retrain_fails n) fails

theorem State.markTrained_f (s : State) (n : Nat) (q : FieldRef) : (s.markTrained n).f q = s.f q := State.setHsm_f _ _ _

theorem State.servingCode_lt (s : State) (n : Nat) : s.servingCode n < 8 := by
  unfold State.servingCode
  split <;> decide

theorem State.retrained_state (s : State) (n fails : Nat) :
    (s.retrained n fails).f (Fld.hsmChStatus_state n) = s.servingCode n := by
  unfold State.retrained
  rw [State.f_put_sep (r := Fld.hsmChStatus_retrain_fails n) _ _ (by decide : 4 + 2 ≤ 64) (.inl (by decide : 0 + 3 ≤ 4)),
    State.f_put_self (r := Fld.hsmChStatus_state n) _ _ (by decide : 0 + 3 ≤ 64)]
  exact Nat.mod_eq_of_lt (s.servingCode_lt n)

theorem State.retrained_fails (s : State) (n : Nat) {fails : Nat} (h : fails < 4) :
    (s.retrained n fails).f (Fld.hsmChStatus_retrain_fails n) = fails :=
  (State.f_put_self (r := Fld.hsmChStatus_retrain_fails n) _ fails (by decide : 4 + 2 ≤ 64)).trans (Nat.mod_eq_of_lt h)

theorem State.retrained_ext (s : State) (n fails : Nat) : Ext 8196 s (s.retrained n fails) :=
  State.put_ext rfl (State.put_ext rfl (.refl _ s))

theorem State.retrained_onlyRegs (s : State) (n fails : Nat) : s.OnlyRegs (s.retrained n fails) [Reg.hsmChStatus n] :=
  (s.wr_onlyRegs (Reg.hsmChStatus n) _).put _ (List.mem_singleton_self _)

section
variable {s : State} {n : Nat} (hretrains : s.f (Fld.hsmChStatus_state n) = 2)
include hretrains

theorem retrainEnd_succeeded : retrainEnd n true s = (s.retrained n 0).markTrained n :=
  if_neg (not_not_intro hretrains)

/-- A failure is counted; at the third in a row the channel is mapped out, before it another retraining is wanted. -/
theorem retrainEnd_failed {k : Nat} (hk : s.f (Fld.hsmChStatus_retrain_fails n) + 1 = k) : retrainEnd n false s =
    if 3 ≤ k then (s.retrained n k).startMapout (n / 32) (n % 32) else (s.retrained n k).wantRetrain n true := by
  have hfails : (s.put (Fld.hsmChStatus_state n) (s.servingCode n)).f (Fld.hsmChStatus_retrain_fails n) =
      s.f (Fld.hsmChStatus_retrain_fails n) :=
    State.f_put_sep (r := Fld.hsmChStatus_state n) _ _ (by decide : 0 + 3 ≤ 64) (.inr (by decide : 0 + 3 ≤ 4))
  rw [← hk, ← hfails]
  exact if_neg (not_not_intro hretrains)

end

/-- Settles O20: the three causes, the start with its guard, and the end by the count of failures. -/
theorem retrainingStartsAndEnds : Obligations.RetrainingStartsAndEnds := by
  unfold Obligations.RetrainingStartsAndEnds
  refine ⟨?request, ?temperature, ?retries, ?starts, ?succeeded, ?again, ?third⟩
  case request =>
    intro s w v hl haccepts hwriter hgo
    exact ⟨_, hl.writes haccepts (writeRetrainReq_go hwriter hgo),
      s.wantRetrain_retrainWantedAt _ true, rfl, rfl, rfl⟩
  case temperature =>
    intro s n k hl hchannel hmoved
    exact ⟨_, hl.runs (retrainTrigger_byTemp hchannel k hmoved), s.wantRetrain_retrainWantedAt n true, rfl, rfl, rfl⟩
  case retries =>
    intro s n k hl hchannel hmany
    exact ⟨_, hl.runs (retrainTrigger_byRetries hchannel hmany), State.wantRetrain_retrainWantedAt _ n true,
      (State.wantRetrain_f _ n true _).trans (State.f_bumpSat_self (r := Fld.hsmIferr_retries n) s k (by decide : 0 + 16 ≤ 64)),
      fun off hoff => (State.wantRetrain_rd _ n true off).trans (State.rd_bumpSat_ne s k (List.ne_of_not_mem_cons hoff)),
      (State.wantRetrain_ext rfl (State.bumpSat_ext (M₀ := 8196) rfl (.refl _ s))).sameHbm rfl⟩
  case starts =>
    intro s n hl hserves hwanted hchannel hstop halone
    exact ⟨_, hl.runs (channelRetrain_due hwanted hchannel hserves hstop halone), s.retraining_state n, s.retraining_notWanted n,
      s.retraining_count n, s.retraining_sameRegsBut n, s.retraining_sameHbm n⟩
  case succeeded =>
    intro s n hl hretrains
    have htemp : (s.retrained n 0).f (Fld.hsmStackStatus_temp (n / 32)) = s.f (Fld.hsmStackStatus_temp (n / 32)) := by
      have hother : Reg.hsmStackStatus (n / 32) ≠ Reg.hsmChStatus n := (hsmChStatus_ne_hsmStackStatus n (by omega)).symm
      exact (State.f_put_ne _ _ hother).trans (State.f_put_ne _ _ hother)
    exact ⟨_, hl.runs (retrainEnd_succeeded hretrains), (State.markTrained_f _ n _).trans (s.retrained_state n 0),
      (State.markTrained_f _ n _).trans (s.retrained_fails n (by decide)), (Sparse.get_put_self _ _ _ _).trans htemp,
      (State.markTrained_ext rfl (s.retrained_ext n 0)).sameHbm rfl⟩
  case again =>
    intro s n hl hretrains hfew
    exact ⟨_, hl.runs ((retrainEnd_failed hretrains rfl).trans (if_neg (by omega))),
      (State.wantRetrain_f _ n true _).trans (s.retrained_state n _),
      (State.wantRetrain_f _ n true _).trans (s.retrained_fails n (by omega)),
      State.wantRetrain_retrainWantedAt _ n true, (State.wantRetrain_ext rfl (s.retrained_ext n _)).sameHbm rfl⟩
  case third =>
    intro s n hl hretrains htwo
    exact ⟨_, hl.runs ((retrainEnd_failed hretrains (congrArg (· + 1) htwo)).trans (if_pos (by decide))), s.retrained_state n 3,
      s.retrained_onlyRegs n 3⟩

/-! ### A map-out starts (R227, R228) -/

/-- The status of stack h names the channel it loses, in the first phase. -/
def State.mapoutNamed (s : State) (h c : Nat) : State :=
  ((s.put (Fld.hsmStackStatus_mapped_ch h) c).put (Fld.hsmStackStatus_mapped_valid h) 1).put (Fld.hsmStackStatus_mapout_phase h) 1

/-- What a map-out that starts leaves, but for the telling of it. -/
def State.mapoutOwed (s : State) (h c : Nat) : State := (s.mapoutNamed h c).owe ⟨3, h, c, s.keep.seq, s.now⟩

theorem State.startMapout_first {s : State} {h : Nat} (c : Nat) (hstate : s.f (Fld.hsmStackStatus_state h) ≠ 3)
    (hnone : s.flag (Fld.hsmStackStatus_mapped_valid h) = false) :
    s.startMapout h c = (s.mapoutOwed h c).event 0x0503 none (csCantle (h / 4)) h
      (toLE 1 h ++ toLE 1 c ++ toLE 6 0 ++ toLE 8 (s.rd Reg.hsmCapacity - chBytes)) := by
  unfold State.startMapout State.mapoutOwed State.mapoutNamed
  rw [if_neg hstate, if_neg (ne_true_of_eq_false hnone)]
  simp only [State.put_keep, State.put_now]

theorem State.startMapout_first_f {s : State} {h : Nat} (hh : h < 16) (c : Nat) (hstate : s.f (Fld.hsmStackStatus_state h) ≠ 3)
    (hnone : s.flag (Fld.hsmStackStatus_mapped_valid h) = false) {q : FieldRef} (hq : q.off = Reg.hsmStackStatus h) :
    (s.startMapout h c).f q = (s.mapoutOwed h c).f q := by
  rw [State.startMapout_first c hstate hnone, State.event_f _ _ _ _ _ _ (hq ▸ hsmStackStatus_ne_evrecLost hh)]

section
variable (s : State) (h : Nat)

theorem State.mapoutOwed_channel {c : Nat} (hc : c < 32) : (s.mapoutOwed h c).f (Fld.hsmStackStatus_mapped_ch h) = c := by
  unfold State.mapoutOwed State.mapoutNamed
  rw [State.owe_f,
    State.f_put_sep (r := Fld.hsmStackStatus_mapout_phase h) _ _ (by decide : 14 + 2 ≤ 64) (.inl (by decide : 8 + 5 ≤ 14)),
    State.f_put_sep (r := Fld.hsmStackStatus_mapped_valid h) _ _ (by decide : 13 + 1 ≤ 64) (.inl (by decide : 8 + 5 ≤ 13)),
    State.f_put_self (r := Fld.hsmStackStatus_mapped_ch h) _ _ (by decide : 8 + 5 ≤ 64)]
  exact Nat.mod_eq_of_lt hc

theorem State.mapoutOwed_valid (c : Nat) : (s.mapoutOwed h c).f (Fld.hsmStackStatus_mapped_valid h) = 1 := by
  unfold State.mapoutOwed State.mapoutNamed
  rw [State.owe_f,
    State.f_put_sep (r := Fld.hsmStackStatus_mapout_phase h) _ _ (by decide : 14 + 2 ≤ 64) (.inl (by decide : 13 + 1 ≤ 14))]
  exact State.f_put_self (r := Fld.hsmStackStatus_mapped_valid h) _ 1 (by decide : 13 + 1 ≤ 64)

theorem State.mapoutOwed_phase (c : Nat) : (s.mapoutOwed h c).f (Fld.hsmStackStatus_mapout_phase h) = 1 := by
  unfold State.mapoutOwed State.mapoutNamed
  rw [State.owe_f]
  exact State.f_put_self (r := Fld.hsmStackStatus_mapout_phase h) _ 1 (by decide : 14 + 2 ≤ 64)

theorem State.mapoutOwed_owed (c : Nat) :
    (s.mapoutOwed h c).keep.owed = s.keep.owed ++ [⟨3, h, c, s.keep.seq, s.now⟩] := by
  unfold State.mapoutOwed State.mapoutNamed
  simp only [State.owe_keep, State.put_keep]

/-- Beside the status a map-out that starts touches the keep area's debts. -/
theorem State.mapoutOwed_ext (c : Nat) : Ext 1048580 s (s.mapoutOwed h c) :=
  State.owe_ext rfl (State.put_ext rfl (State.put_ext rfl (State.put_ext rfl (.refl _ s))))

theorem State.mapoutOwed_onlyStatus (c : Nat) {off : Nat} (hoff : off ≠ Reg.hsmStackStatus h) :
    (s.mapoutOwed h c).rd off = s.rd off := by
  unfold State.mapoutOwed State.mapoutNamed
  rw [State.owe_rd, State.rd_put_ne _ _ hoff, State.rd_put_ne _ _ hoff, State.rd_put_ne _ _ hoff]

end

theorem ueLimit_passed {s : State} {n : Nat} (hlimit : s.f Fld.hsmCfg_ue_limit ≠ 0)
    (hpassed : s.f Fld.hsmCfg_ue_limit < s.ueCount n) : ueLimit n s = (s.setUeTimes n []).startMapout (n / 32) (n % 32) :=
  if_pos ⟨hlimit, hpassed⟩

theorem State.setUeTimes_nil_ueCount (s : State) (n : Nat) : (s.setUeTimes n []).ueCount n = 0 := by
  unfold State.ueCount State.setUeTimes
  rw [State.setHsm_hsm, Sparse.get_put_self]
  rfl

theorem writeMapoutReq_go {s : State} {w : Writer} {v : Nat} (hwriter : s.writerDevice w = true) (hgo : bits v 31 1 = 1) :
    writeMapoutReq w v s = s.startMapout (bits v 0 4) (bits v 4 5) :=
  (if_neg (by simp [hwriter])).trans (if_pos hgo)

/-! ### An acknowledged map-out migrates and cuts over (R229, R230) -/

/-- Stack h drains for its map-out: the channel migrates, and the capacity shown is without it. -/
def State.mapoutAcked (s : State) (h : Nat) : State :=
  ((s.put (Fld.hsmStackStatus_mapout_phase h) 2).put
    (Fld.hsmChStatus_state (32 * h + s.f (Fld.hsmStackStatus_mapped_ch h))) 4).capacityUpdate

theorem writeMapoutAck_first {s : State} {w : Writer} {v : Nat} (hwriter : s.writerDevice w = true) (hgo : bits v 31 1 = 1)
    (hphase : s.f (Fld.hsmStackStatus_mapout_phase (bits v 0 4)) = 1) :
    writeMapoutAck w v s = (s.mapoutAcked (bits v 0 4)).failLost :=
  (if_neg (by simp [hwriter])).trans ((if_neg (by rw [hgo]; decide)).trans (if_neg (not_not_intro hphase)))

theorem State.mapoutAcked_phase (s : State) {h : Nat} (hh : h < 16) :
    (s.mapoutAcked h).f (Fld.hsmStackStatus_mapout_phase h) = 2 := by
  unfold State.mapoutAcked
  rw [State.f_capacityUpdate_hsmStackStatus _ h rfl, State.f_put_ne _ _ (hsmChStatus_ne_hsmStackStatus _ hh).symm]
  exact State.f_put_self (r := Fld.hsmStackStatus_mapout_phase h) s 2 (by decide : 14 + 2 ≤ 64)

theorem State.mapoutAcked_migrating (s : State) (h : Nat) :
    (s.mapoutAcked h).f (Fld.hsmChStatus_state (32 * h + s.f (Fld.hsmStackStatus_mapped_ch h))) = 4 :=
  (State.f_capacityUpdate_hsmChStatus _ _ rfl).trans
    (State.f_put_self (r := Fld.hsmChStatus_state (32 * h + s.f (Fld.hsmStackStatus_mapped_ch h))) _ 4 (by decide : 0 + 3 ≤ 64))

/-- The registers that show the cut-over of channel x of stack h. -/
def State.mapoutCut (s : State) (h x : Nat) : State :=
  ((s.put (Fld.hsmStackStatus_mapout_phase h) 3).put (Fld.hsmChStatus_state (32 * h + x)) 5).put
    (Fld.hsmStackStatus_in_service h) 31

/-- What the cut-over leaves: HBM migrated and counted, the registers, the inventory and the event. -/
def State.mapoutMigrated (s : State) (h x : Nat) : State :=
  ((((s.migrate h x).bump (Fld.senBytesCopy_bytes h) (rowLimit * 4096)).mapoutCut h x).inventoryUpdate).event 0x0504 none
    (csCantle (h / 4)) h (toLE 1 h ++ toLE 1 x)

theorem mapoutCutover_due {s : State} {h : Nat} (hphase : s.f (Fld.hsmStackStatus_mapout_phase h) = 2)
    (hstate : s.f (Fld.hsmStackStatus_state h) ≠ 3) (hsave : s.f Fld.thmSaveStatus_state = 0) :
    mapoutCutover h s = s.mapoutMigrated h (s.f (Fld.hsmStackStatus_mapped_ch h)) :=
  if_neg (by simp [hphase, hstate, hsave])

section
variable (s : State) {h : Nat} (x : Nat)

theorem State.mapoutCut_phase (hh : h < 16) : (s.mapoutCut h x).f (Fld.hsmStackStatus_mapout_phase h) = 3 := by
  unfold State.mapoutCut
  rw [State.f_put_sep (r := Fld.hsmStackStatus_in_service h) (q := Fld.hsmStackStatus_mapout_phase h) _ _
      (by decide : 2 + 6 ≤ 64) (.inr (by decide : 2 + 6 ≤ 14)),
    State.f_put_ne _ _ (hsmChStatus_ne_hsmStackStatus _ hh).symm]
  exact State.f_put_self (r := Fld.hsmStackStatus_mapout_phase h) s 3 (by decide : 14 + 2 ≤ 64)

theorem State.mapoutCut_mappedOut (hh : h < 16) : (s.mapoutCut h x).f (Fld.hsmChStatus_state (32 * h + x)) = 5 :=
  (State.f_put_ne _ _ (hsmChStatus_ne_hsmStackStatus _ hh)).trans
    (State.f_put_self (r := Fld.hsmChStatus_state (32 * h + x)) _ 5 (by decide : 0 + 3 ≤ 64))

theorem State.mapoutCut_inService : (s.mapoutCut h x).f (Fld.hsmStackStatus_in_service h) = 31 :=
  State.f_put_self (r := Fld.hsmStackStatus_in_service h) _ 31 (by decide : 2 + 6 ≤ 64)

/-- Neither the inventory nor the event touches what the cut-over shows. -/
theorem State.mapoutMigrated_f {q : FieldRef} (hinventory : q.off ≠ Reg.inventory) (hlost : q.off ≠ Reg.evrecLost) :
    (s.mapoutMigrated h x).f q =
      (((s.migrate h x).bump (Fld.senBytesCopy_bytes h) (rowLimit * 4096)).mapoutCut h x).f q :=
  (State.event_f _ _ _ _ _ _ hlost).trans (State.inventoryUpdate_f _ hinventory)

/-- Beside the migration the cut-over changes registers and the recorder only. -/
theorem State.mapoutMigrated_ext : Ext 132 (s.migrate h x) (s.mapoutMigrated h x) :=
  State.event_ext rfl (State.inventoryUpdate_ext rfl (State.put_ext rfl (State.put_ext rfl (State.put_ext rfl
    (State.bump_ext rfl (.refl _ _))))))

end

/-- Settles O21: the start, its two causes, the acknowledgement and the cut-over, each by the registers that show its phase. -/
theorem mapOutsRunInPhases : Obligations.MapOutsRunInPhases := by
  unfold Obligations.MapOutsRunInPhases
  refine ⟨?starts, ?limit, ?request, ?ack, ?cutover⟩
  case starts =>
    intro s h c hh hc hstate hnone
    have hreads {q : FieldRef} := State.startMapout_first_f hh c hstate hnone (q := q)
    have hvalid := (hreads rfl).trans (s.mapoutOwed_valid h c)
    refine ⟨_, rfl, (hreads rfl).trans (s.mapoutOwed_channel h hc), ?_, (hreads rfl).trans (s.mapoutOwed_phase h c), ?_⟩
    · exact (State.flag_iff _ _).2 (ne_of_eq_of_ne hvalid Nat.one_ne_zero)
    rw [State.startMapout_first c hstate hnone]
    refine ⟨?_, ?_, ?_⟩
    · exact (State.event_ext (M₀ := 1048708) rfl ((s.mapoutOwed_ext h c).mono rfl)).sameHbm rfl
    · exact State.SameRegsBut.event (fun off hoff => s.mapoutOwed_onlyStatus h c (List.ne_of_not_mem_cons hoff))
        (List.mem_cons_of_mem _ (List.mem_singleton_self _)) _ _ _ _ _
    · exact (congrArg Keep.owed (State.event_keep ..)).trans (s.mapoutOwed_owed h c)
  case limit =>
    intro s n hl hlimit hpassed
    exact ⟨_, hl.runs (ueLimit_passed hlimit hpassed), s.setUeTimes_nil_ueCount n, rfl, rfl, rfl, rfl⟩
  case request =>
    intro s w v hl haccepts hwriter hgo
    exact hl.writes haccepts (writeMapoutReq_go hwriter hgo)
  case ack =>
    intro s w v hl haccepts hwriter hgo hphase
    exact ⟨_, hl.writes haccepts (writeMapoutAck_first hwriter hgo hphase),
      s.mapoutAcked_phase (bits_lt v.toNat 0 4), s.mapoutAcked_migrating _,
      (State.capacityUpdate_ext rfl (State.put_ext rfl (State.put_ext (M₀ := 4) rfl (.refl _ s)))).sameHbm rfl⟩
  case cutover =>
    intro s h hl hphase hstate hsave
    have hch : 32 * h.val + s.f (Fld.hsmStackStatus_mapped_ch h) < 512 := by
      have hx : s.f (Fld.hsmStackStatus_mapped_ch h) < 32 := s.f_lt _
      omega
    have hstack := hsmStackStatus_ne_evrecLost h.isLt
    have hframe := s.mapoutMigrated_ext (h := h) (s.f (Fld.hsmStackStatus_mapped_ch h))
    exact ⟨_, hl.runs (mapoutCutover_due hphase hstate hsave),
      (s.mapoutMigrated_f _ (hsmStackStatus_ne_inventory h) hstack).trans (State.mapoutCut_phase _ _ h.isLt),
      (s.mapoutMigrated_f _ (hsmChStatus_ne_inventory _) (hsmChStatus_ne_evrecLost hch)).trans
        (State.mapoutCut_mappedOut _ _ h.isLt),
      (s.mapoutMigrated_f _ (hsmStackStatus_ne_inventory h) hstack).trans (State.mapoutCut_inService _ _),
      hframe.mem rfl, hframe.poison rfl⟩

end Sys2Proof.Machine
end

section
/-!
The Adepin ports' commands (chapter 10): what a port and its registers read after the state operations of lanes, flits and
replays, and each command's equation in the case at hand.
-/
namespace Sys2Proof.Machine

/-! ### Registers of a port beside one another -/

/-- Two registers of one port, each given as its place in port 0 plus the ports' stride. -/
theorem portReg_ne (n : Nat) {a b : Nat} (h : a ≠ b) : a + 128 * n ≠ b + 128 * n := by
  omega

/-- The ports' registers lie below the count of lost events. -/
theorem portReg_ne_evrecLost {n : Nat} (hn : n < 12) {a : Nat} (ha : a < 0x90180) : a + 128 * n ≠ Reg.evrecLost := by
  unfold Reg.evrecLost
  omega

theorem lnkStatus_ne_lnkErr (n : Nat) : Reg.lnkStatus n ≠ Reg.lnkErr n := portReg_ne n (by decide)

theorem lnkStatus_ne_lnkFlitsTx (n : Nat) : Reg.lnkStatus n ≠ Reg.lnkFlitsTx n := portReg_ne n (by decide)

theorem State.f_put_portState (s : State) (n : Nat) {v : Nat} (hv : v < 16) :
    (s.put (Fld.lnkStatus_state n) v).portState n = v :=
  (State.f_put_self (r := Fld.lnkStatus_state n) s v (by decide : 0 + 4 ≤ 64)).trans (Nat.mod_eq_of_lt hv)

theorem State.f_put_laneGood (s : State) (n : Nat) {v : Nat} (hv : v < 65536) :
    (s.put (Fld.lnkStatus_lane_good n) v).f (Fld.lnkStatus_lane_good n) = v :=
  (State.f_put_self (r := Fld.lnkStatus_lane_good n) s v (by decide : 9 + 16 ≤ 64)).trans (Nat.mod_eq_of_lt hv)

/-- The state and the good lanes stand beside each other in one register. -/
theorem State.portState_put_laneGood (s : State) (n v : Nat) : (s.put (Fld.lnkStatus_lane_good n) v).portState n = s.portState n :=
  State.f_put_sep (r := Fld.lnkStatus_lane_good n) s v (by decide : 9 + 16 ≤ 64) (.inl (by decide : 0 + 4 ≤ 9))

theorem lnkStatus_ne_lnkTransit (n : Nat) : Reg.lnkStatus n ≠ Reg.lnkTransit n := portReg_ne n (by decide)

theorem lnkStatus_ne_lnkCredit (n : Nat) : Reg.lnkStatus n ≠ Reg.lnkCredit n := portReg_ne n (by decide)

theorem lnkStatus_ne_lnkCtrl (n : Nat) : Reg.lnkStatus n ≠ Reg.lnkCtrl n := portReg_ne n (by decide)

theorem lnkStatus_ne_lnkEvent (n : Nat) : Reg.lnkStatus n ≠ Reg.lnkEvent n := portReg_ne n (by decide)

theorem lnkErr_ne_lnkFlitsTx (n : Nat) : Reg.lnkErr n ≠ Reg.lnkFlitsTx n := portReg_ne n (by decide)

theorem lnkFar_ne_lnkCredit (n : Nat) : Reg.lnkFar n ≠ Reg.lnkCredit n := portReg_ne n (by decide)

theorem lnkFar_ne_lnkStatus (n : Nat) : Reg.lnkFar n ≠ Reg.lnkStatus n := portReg_ne n (by decide)

theorem lnkStatus_ne_evrecLost {n : Nat} (hn : n < 12) : Reg.lnkStatus n ≠ Reg.evrecLost := portReg_ne_evrecLost hn (by decide)

theorem lnkEvent_ne_evrecLost {n : Nat} (hn : n < 12) : Reg.lnkEvent n ≠ Reg.evrecLost := portReg_ne_evrecLost hn (by decide)

/-! ### A port that carries or hears flits -/

theorem State.portUp_of_up {s : State} {n : Nat} (h : s.portState n = 5) : s.portUp n = true := by
  simp [State.portUp, h]

theorem State.portHears_of_up {s : State} {n : Nat} (h : s.portState n = 5) : s.portHears n = true := by
  simp [State.portHears, State.portUp_of_up h]

/-- The acknowledgement due depends on the expected sequence number alone. -/
theorem State.setPort_ackOf {s : State} {n : Nat} {x : PortState} (h : x.expSeq = (s.port n).expSeq) :
    (s.setPort n x).ackOf n = s.ackOf n := by
  unfold State.ackOf
  rw [State.setPort_port, h]

@[simp] theorem State.put_ackOf (s : State) (r : FieldRef) (v n : Nat) : (s.put r v).ackOf n = s.ackOf n := by
  unfold State.ackOf
  rw [State.put_port]

@[simp] theorem State.bumpSat_ackOf (s : State) (r : FieldRef) (k n : Nat) : (s.bumpSat r k).ackOf n = s.ackOf n := by
  unfold State.ackOf
  rw [State.bumpSat_port]

@[simp] theorem State.bump_ackOf (s : State) (r : FieldRef) (k n : Nat) : (s.bump r k).ackOf n = s.ackOf n := by
  unfold State.ackOf
  rw [State.bump_port]

/-- A counter does not see the lanes. -/
theorem State.bumpSat_sendFlit (s : State) (r : FieldRef) (k n : Nat) (f : Flit) :
    (s.sendFlit n f).bumpSat r k = (s.bumpSat r k).sendFlit n f := by
  unfold State.sendFlit
  rw [State.bumpSat_port]
  generalize s.port n = x
  rfl

/-! ### A relane starts (R245) -/

/-- A relane starts: the port is RELANING, counted, and tells the far end its good lanes. -/
def State.relaneStarts (s : State) (n mask : Nat) : State :=
  ((s.put (Fld.lnkStatus_state n) 6).bumpSat (Fld.lnkErr_relanes n) 1).sendFlit n (Flit.link 0 mask)

section
variable (s : State) (n mask : Nat)

/-- The flit sent touches no register. -/
theorem State.relaneStarts_f (q : FieldRef) : (s.relaneStarts n mask).f q =
    ((s.put (Fld.lnkStatus_state n) 6).bumpSat (Fld.lnkErr_relanes n) 1).f q := State.sendFlit_f _ _ _ _

theorem State.relaneStarts_portState : (s.relaneStarts n mask).portState n = 6 := by
  unfold State.portState
  rw [State.relaneStarts_f, State.f_bumpSat_ne _ 1 (lnkStatus_ne_lnkErr n)]
  exact s.f_put_portState n (by decide)

theorem State.relaneStarts_laneGood :
    (s.relaneStarts n mask).f (Fld.lnkStatus_lane_good n) = s.f (Fld.lnkStatus_lane_good n) := by
  rw [State.relaneStarts_f, State.f_bumpSat_ne _ 1 (lnkStatus_ne_lnkErr n)]
  exact State.f_put_sep (r := Fld.lnkStatus_state n) s 6 (by decide : 0 + 4 ≤ 64) (.inr (by decide : 0 + 4 ≤ 9))

theorem State.relaneStarts_relanes :
    (s.relaneStarts n mask).f (Fld.lnkErr_relanes n) = min (s.f (Fld.lnkErr_relanes n) + 1) 255 := by
  rw [State.relaneStarts_f, State.f_bumpSat_self (r := Fld.lnkErr_relanes n) _ 1 (by decide : 48 + 8 ≤ 64),
    State.f_put_ne s 6 (lnkStatus_ne_lnkErr n).symm]
  rfl

theorem State.relaneStarts_out :
    (s.relaneStarts n mask).links.out = s.links.out ++ [(n, (Flit.link 0 mask).toBytes (s.ackOf n))] := by
  unfold State.relaneStarts
  rw [State.sendFlit_out, State.bumpSat_ackOf, State.put_ackOf, State.bumpSat_links, State.put_links]

theorem State.relaneStarts_port : (s.relaneStarts n mask).port n = { s.port n with unacked := 0 } := by
  unfold State.relaneStarts
  rw [State.sendFlit_port, State.bumpSat_port, State.put_port]

theorem State.relaneStarts_ext : Ext 65540 s (s.relaneStarts n mask) :=
  State.sendFlit_ext rfl (State.bumpSat_ext rfl (State.put_ext rfl (.refl _ s)))

end

/-- A lane in use turns bad on a port that is UP: with lanes enough left the port relanes. -/
theorem laneBad_relanes {s : State} {n l : Nat} (hup : s.portState n = 5)
    (hgood : testBit (s.f (Fld.lnkStatus_lane_good n)) l = true) (huse : testBit (s.port n).inUse l = true)
    (hlanes : s.lanesAfter n (s.f (Fld.lnkStatus_lane_good n) - 2 ^ l) ≠ 0) :
    laneBad n l s = (s.put (Fld.lnkStatus_lane_good n) (s.f (Fld.lnkStatus_lane_good n) - 2 ^ l)).relaneStarts n
      (s.f (Fld.lnkStatus_lane_good n) - 2 ^ l) := by
  have hears : ¬(s.portHears n = false ∨ testBit (s.f (Fld.lnkStatus_lane_good n)) l = false) := by
    simp [State.portHears_of_up hup, hgood]
  unfold laneBad State.relaneStarts
  simp only [hears, huse, hup, hlanes, Bool.true_eq_false, Nat.reduceEqDiff, or_self, if_false, ne_eq,
    not_false_eq_true, and_self, if_true, State.bumpSat_sendFlit]

/-- The far end began a relane: it begins here too. -/
theorem linkFlit_relanes {s : State} {n : Nat} {fl : List Byte} {ue : Bool} (hears : s.portHears n = true)
    (hgood : flitGood fl ue = true) (htype : flitType fl = 2) (hup : (s.readFlit n fl).portState n = 5)
    (hrelane : fieldLE fl 10 1 = 0) :
    linkFlit n fl ue s =
      ((s.readFlit n fl).setPort n { (s.readFlit n fl).port n with farMask := fieldLE fl 8 2 }).relaneStarts n
        ((s.readFlit n fl).f (Fld.lnkStatus_lane_good n)) := by
  have hstill : ¬((s.readFlit n fl).portHears n = false) := by simp [State.portHears_of_up hup]
  exact (if_neg (by simp [hears])).trans ((if_neg (by simp [hgood])).trans ((if_neg (not_not_intro htype)).trans
    ((if_neg hstill).trans (if_pos ⟨hrelane, hup⟩))))

/-! ### Replays (R243, R244) -/

/-- A replay from flit `start` on, after so many failures: counted, and every unacknowledged flit sent again. -/
def State.replays (s : State) (n start fails : Nat) : State :=
  (((s.setPort n { s.port n with replayFrom := start, replayFails := fails }).bumpSat (Fld.lnkErr_replays n) 1).bump
    (Fld.lnkFlitsTx_flits n) (s.port n).unackedTx).resend n

section
variable (s : State) (n start fails : Nat)

theorem State.replays_port : (s.replays n start fails).port n =
    { s.port n with replayFrom := start, replayFails := fails, unacked := ((s.replays n start fails).port n).unacked } := by
  unfold State.replays
  rw [State.resend_port, State.bump_port, State.bumpSat_port, State.setPort_port]

theorem State.replays_out :
    (s.replays n start fails).links.out = s.links.out ++ retryFlits n (s.ackOf n) (s.port n).retry := by
  unfold State.replays
  rw [State.resend_out, State.bump_ackOf, State.bumpSat_ackOf, State.setPort_ackOf (by rfl), State.bump_port,
    State.bumpSat_port, State.setPort_port, State.bump_links, State.bumpSat_links, State.setPort_out]

/-- The flits sent again touch no register. -/
theorem State.replays_f (q : FieldRef) : (s.replays n start fails).f q =
    ((s.bumpSat (Fld.lnkErr_replays n) 1).bump (Fld.lnkFlitsTx_flits n) (s.port n).unackedTx).f q := State.resend_f _ n q

theorem State.replays_count : (s.replays n start fails).f (Fld.lnkErr_replays n) = min (s.f (Fld.lnkErr_replays n) + 1) 65535 := by
  rw [State.replays_f, State.f_bump_ne _ _ (lnkErr_ne_lnkFlitsTx n),
    State.f_bumpSat_self (r := Fld.lnkErr_replays n) _ 1 (by decide : 32 + 16 ≤ 64)]
  rfl

theorem State.replays_flitsTx : (s.replays n start fails).f (Fld.lnkFlitsTx_flits n) =
    (s.f (Fld.lnkFlitsTx_flits n) + (s.port n).unackedTx) % 2 ^ 64 := by
  rw [State.replays_f, State.f_bump_self (r := Fld.lnkFlitsTx_flits n) _ _ (by decide : 0 + 64 ≤ 64),
    State.f_bumpSat_ne _ 1 (lnkErr_ne_lnkFlitsTx n).symm]
  rfl

theorem State.replays_portState : (s.replays n start fails).portState n = s.portState n := by
  unfold State.portState
  rw [State.replays_f, State.f_bump_ne _ _ (lnkStatus_ne_lnkFlitsTx n), State.f_bumpSat_ne _ 1 (lnkStatus_ne_lnkErr n)]

theorem State.replays_ext : Ext 65540 s (s.replays n start fails) :=
  State.resend_ext rfl (State.bump_ext rfl (State.bumpSat_ext rfl (State.setPort_ext rfl (.refl _ s))))

end

/-- The replay that follows a relane counts no failure. -/
theorem State.startReplay_uncounted (s : State) (n : Nat) :
    (s.startReplay n false).1 = s ∨ ∃ start fails, (s.startReplay n false).1 = s.replays n start fails := by
  unfold State.startReplay
  cases hold : (s.port n).oldest with
  | none => exact .inl (by simp only [hold])
  | some q =>
    refine .inr ⟨(s.port n).replayFrom, (s.port n).replayFails, ?_⟩
    simp only [hold]
    rfl

theorem State.startReplay_uncounted_inUse (s : State) (n : Nat) :
    ((s.startReplay n false).1.port n).inUse = (s.port n).inUse := by
  obtain h | ⟨start, fails, h⟩ := s.startReplay_uncounted n
  · rw [h]
  · rw [h, State.replays_port]

theorem State.startReplay_uncounted_portState (s : State) (n : Nat) : (s.startReplay n false).1.portState n = s.portState n := by
  obtain h | ⟨start, fails, h⟩ := s.startReplay_uncounted n
  · rw [h]
  · rw [h, State.replays_portState]

/-- The failures in a row once a replay starts from flit q: one more when the last started there too. -/
def PortState.failsAt (x : PortState) (q : Nat) : Nat := if x.replayFrom = q + 1 then x.replayFails + 1 else 0

theorem PortState.failsAt_le (x : PortState) (q : Nat) : x.failsAt q ≤ x.replayFails + 1 := by
  unfold PortState.failsAt
  split <;> omega

theorem State.startReplay_counted {s : State} {n q : Nat} (hold : (s.port n).oldest = some q) :
    s.startReplay n true = (s.replays n (q + 1) ((s.port n).failsAt q), decide (16 ≤ (s.port n).failsAt q)) := by
  unfold State.startReplay
  simp only [hold, Bool.true_and, beq_iff_eq, if_true]
  rfl

theorem PortState.retry_of_oldest {x : PortState} {q : Nat} (hold : x.oldest = some q) : x.retry.isEmpty = false := by
  unfold PortState.oldest at hold
  cases hr : x.retry with
  | nil => simp [hr] at hold
  | cons e es => rfl

/-- Up to its fifteenth failure in a row a replay on a port that is UP leaves the port there. -/
theorem replayTimeout_replays {s : State} {n q : Nat} (hup : s.portState n = 5) (hold : (s.port n).oldest = some q)
    (hfails : (s.port n).replayFails < 15) : replayTimeout n s = s.replays n (q + 1) ((s.port n).failsAt q) := by
  have hfew : ¬16 ≤ (s.port n).failsAt q := by
    have hle := (s.port n).failsAt_le q
    omega
  unfold replayTimeout State.replayFlits
  rw [if_pos ⟨State.portHears_of_up hup, PortState.retry_of_oldest hold⟩, if_neg (by omega), State.startReplay_counted hold]
  exact if_neg (by simp [hfew])

/-! ### The lanes after a relane, and a lost lock (R245) -/

section
variable (s : State) (n lanes : Nat)

theorem State.useLanes_portState : (s.useLanes n lanes).portState n = s.portState n :=
  (State.f_putB_sep (r := Fld.lnkStatus_degraded n) _ _ (by decide : 25 + 1 ≤ 64) (.inl (by decide : 0 + 4 ≤ 25))).trans
    (State.f_put_sep (r := Fld.lnkStatus_width n) _ _ (by decide : 4 + 5 ≤ 64) (.inl (by decide : 0 + 4 ≤ 4)))

theorem State.useLanes_inUse : ((s.useLanes n lanes).port n).inUse = lanes := by
  unfold State.useLanes
  rw [State.putB_port, State.put_port, State.setPort_port]

/-- The port is UP on its lanes, and told when they are not all. -/
def State.relaned : State :=
  let t := (s.put (Fld.lnkStatus_state n) 5).useLanes n lanes
  if lanes ≠ s.fullMask n then t.put (Fld.lnkEvent_degraded n) 1 else t

theorem State.relaned_portState : (s.relaned n lanes).portState n = 5 := by
  have hup : ((s.put (Fld.lnkStatus_state n) 5).useLanes n lanes).portState n = 5 :=
    (State.useLanes_portState _ n lanes).trans (s.f_put_portState n (by decide))
  unfold State.relaned
  dsimp only
  split
  · exact (State.f_put_ne _ 1 (lnkStatus_ne_lnkEvent n)).trans hup
  · exact hup

theorem State.relaned_inUse : ((s.relaned n lanes).port n).inUse = lanes := by
  unfold State.relaned
  dsimp only
  split
  · rw [State.put_port, State.useLanes_inUse]
  · exact State.useLanes_inUse _ n lanes

end

/-- With lanes enough good at both ends the relane ends in a replay. -/
theorem relaneDone_relaned {s : State} {n : Nat} (hrelanes : s.portState n = 6)
    (hlanes : s.lanesAfter n (s.f (Fld.lnkStatus_lane_good n) &&& (s.port n).farMask) ≠ 0) :
    relaneDone n s =
      ((s.relaned n (s.lanesAfter n (s.f (Fld.lnkStatus_lane_good n) &&& (s.port n).farMask))).startReplay n false).1 :=
  if_neg (by simp [hrelanes, hlanes])

theorem lockTimeout_lost {s : State} {n : Nat} (hears : s.portHears n = true)
    (hlanes : s.lanesAfter n (s.f (Fld.lnkStatus_lane_good n)) = 0) :
    lockTimeout n s = (s.put (Fld.lnkEvent_lock_timeout n) 1).portDown n :=
  if_pos ⟨hears, hlanes⟩

/-! ### DATA and IDLE flits (R237, R243) -/

/-- The port has taken a flit that holds a whole packet: in its buffers, the next flit expected. -/
def PortState.takesPacket (x : PortState) (fl : List Byte) : PortState :=
  { x with expSeq := (x.expSeq + 1) % 65536, nakSent := false,
           unacked := if 64 ≤ x.unacked + 1 then 0 else x.unacked + 1,
           part := [], partVc := bits (fieldLE fl 4 1) 0 3, partFlits := 0,
           rx := x.rx ++ [(bits (fieldLE fl 4 1) 0 3, Packet.ofBytes ((fl.drop 8).take 244), 1)] }

/-- That flit is counted. -/
def State.tookPacket (s : State) (n : Nat) (fl : List Byte) : State :=
  (s.setPort n ((s.port n).takesPacket fl)).bump (Fld.lnkFlitsRx_flits n) 1

theorem State.tookPacket_port (s : State) (n : Nat) (fl : List Byte) : (s.tookPacket n fl).port n = (s.port n).takesPacket fl :=
  (State.bump_port _ _ _ _).trans (State.setPort_port _ _ _)

theorem State.tookPacket_flitsRx (s : State) (n : Nat) (fl : List Byte) :
    (s.tookPacket n fl).f (Fld.lnkFlitsRx_flits n) = (s.f (Fld.lnkFlitsRx_flits n) + 1) % 2 ^ 64 :=
  State.f_bump_self (r := Fld.lnkFlitsRx_flits n) _ 1 (by decide : 0 + 64 ≤ 64)

/-- A good DATA flit that is expected and holds a whole packet is taken; the sixty-fourth in a row is acknowledged at once. -/
theorem dataFlit_packet {s u : State} {n : Nat} {fl : List Byte} {ue : Bool} (hears : s.portHears n = true)
    (hgood : flitGood fl ue = true) (htype : flitType fl = 1) (hread : u = s.readFlit n fl) (hstill : u.portHears n = true)
    (hseq : fieldLE fl 0 2 = (u.port n).expSeq) (hsop : testBit (fieldLE fl 4 1) 3 = true)
    (heop : testBit (fieldLE fl 4 1) 4 = true) :
    dataFlit n fl ue s = if 64 ≤ (u.port n).unacked + 1 then (u.tookPacket n fl).sendFlit n Flit.idle
      else u.tookPacket n fl := by
  unfold dataFlit
  simp only [hears, hgood, htype, ← hread, hstill, hseq, hsop, heop, ne_eq, not_true_eq_false, Bool.true_eq_false,
    OfNat.one_ne_ofNat, if_false, if_true, decide_eq_true_eq]
  rfl

/-- A flit with a bad CRC is counted and answered with a nak when none is out. -/
theorem dataFlit_badCrc {s : State} {n : Nat} {fl : List Byte} (hears : s.portHears n = true)
    (hbad : flitGood fl false = false) (hnak : (s.port n).nakSent = false) :
    dataFlit n fl false s =
      ((s.bumpSat (Fld.lnkErr_crc_bad n) 1).setPort n { s.port n with nakSent := true }).sendFlit n
        { Flit.idle with nak := true } := by
  unfold dataFlit State.badFlit State.sendNak
  simp only [hears, hbad, hnak, State.bumpSat_port, Bool.true_eq_false, Bool.false_eq_true, if_false, if_true]

theorem idleFlit_read {s : State} {n : Nat} {fl : List Byte} {ue : Bool} (hears : s.portHears n = true)
    (hgood : flitGood fl ue = true) (htype : flitType fl = 0 ∨ flitType fl = 3) : idleFlit n fl ue s = s.readFlit n fl :=
  (if_neg (by simp [hears])).trans ((if_neg (by simp [hgood])).trans (if_pos htype))

theorem ackTimer_due {s : State} {n : Nat} (hears : s.portHears n = true) (hwait : 0 < (s.port n).unacked) :
    ackTimer n s = s.sendFlit n Flit.idle :=
  if_pos ⟨hears, hwait⟩

/-! ### Credits and the next packet (R241, R242) -/

theorem creditReturn_due {s : State} {n vc : Nat} {e : Nat × Nat} (hup : s.portUp n = true)
    (howed : (s.port n).owed.find? (fun e => e.1 == vc) = some e) (hmany : 32 ≤ e.2) (hsave : s.saving = false) :
    creditReturn n vc s = (s.setPort n { s.port n with owed := (s.port n).owed.filter (fun e => e.1 != vc) }).sendFlit n
      { Flit.idle with creditVc := vc, credits := e.2 } := by
  have hreturns : ¬(s.portUp n = false ∨ e.2 < 32 ∨ (s.saving = true ∧ (vc = 1 ∨ vc = 2 ∨ vc = 3))) := by
    simp [hup, hsave, hmany]
  unfold creditReturn
  simp only [howed]
  exact if_neg hreturns

theorem packetStart_first {s : State} {n i : Nat} {p : TxPacket} (hup : s.portState n = 5)
    (hready : s.readyPacket n 0 = some (i, p)) : packetStart n s = s.transmit n i p := by
  unfold packetStart
  simp only [hup, hready, ne_eq, not_true_eq_false, if_false]

/-- With nothing ready an IDLE flit leaves, and the round-robin stands where it stood. -/
theorem packetStart_idle {s : State} {n : Nat} (hup : s.portState n = 5) (hfirst : s.readyPacket n 0 = none)
    (htransit : s.readyPacket n 5 = none) (howned : s.ownedNext n = none) :
    packetStart n s = (s.setPort n (s.port n)).sendFlit n Flit.idle := by
  unfold packetStart
  simp only [hup, hfirst, htransit, howned, ne_eq, not_true_eq_false, if_false]
  rfl

/-- Settles O27: each command by its equation, and what the port, its registers and its lanes read after it. -/
theorem linksLoseLanesReplayAndReturnCredit : Obligations.LinksLoseLanesReplayAndReturnCredit := by
  unfold Obligations.LinksLoseLanesReplayAndReturnCredit
  refine ⟨?laneBad, ?relaned, ?lockLost, ?dataTaken, ?dataBad, ?idle, ?link, ?replay, ?ack, ?credit, ?start, ?startIdle⟩
  case laneBad =>
    intro s n l hl hup hgood huse hlanes
    have hfits : s.f (Fld.lnkStatus_lane_good n) - 2 ^ l.val < 65536 := by
      have hlt : s.f (Fld.lnkStatus_lane_good n) < 65536 := s.f_lt _
      exact lt_of_le_of_lt (Nat.sub_le _ _) hlt
    refine ⟨_, hl.runs (laneBad_relanes hup hgood huse hlanes), State.relaneStarts_portState _ n _,
      (State.relaneStarts_laneGood _ n _).trans (s.f_put_laneGood n hfits), ?_, ?_,
      ((State.put_ext rfl (.refl _ s)).trans (State.relaneStarts_ext _ n _)).sparesHbmAndCtl rfl⟩
    · rw [State.relaneStarts_relanes, State.f_put_ne s _ (lnkStatus_ne_lnkErr n).symm]
    · rw [State.relaneStarts_out, State.put_ackOf, State.put_links]
  case relaned =>
    intro s n lanes hl hrelanes hboth hlanes
    subst hboth
    exact ⟨_, hl.runs (relaneDone_relaned hrelanes hlanes),
      (State.startReplay_uncounted_portState _ n).trans (s.relaned_portState n _),
      (State.startReplay_uncounted_inUse _ n).trans (s.relaned_inUse n _),
      ((relaneDone_relaned hrelanes hlanes) ▸ relaneDone_ext (M₀ := 65540) rfl (.refl _ s)).sparesHbmAndCtl rfl⟩
  case lockLost =>
    intro s n hl hears hlanes
    exact ⟨_, hl.runs (lockTimeout_lost hears hlanes),
      State.flag_put_self (r := Fld.lnkEvent_lock_timeout n) s 1 (by decide : 4 + 1 ≤ 64), s.wr_onlyRegs (Reg.lnkEvent n) _⟩
  case dataTaken =>
    intro s n fl ue u hl hears hgood htype hread hstill hseq hsop heop
    refine ⟨_, hl.runs (dataFlit_packet hears hgood htype hread hstill hseq hsop heop), ?_⟩
    split
    · rw [State.sendFlit_port, State.tookPacket_port, State.sendFlit_f]
      exact ⟨rfl, rfl, u.tookPacket_flitsRx n fl⟩
    · rw [State.tookPacket_port]
      exact ⟨rfl, rfl, u.tookPacket_flitsRx n fl⟩
  case dataBad =>
    intro s n fl hl hears hbad hnak
    refine ⟨_, hl.runs (dataFlit_badCrc hears hbad hnak), ?_, ?_, ?_, ?_,
      (State.sendFlit_ext (M₀ := 65540) rfl (State.setPort_ext rfl (State.bumpSat_ext rfl (.refl _ s)))).sparesHbmAndCtl rfl⟩
    · rw [State.sendFlit_f, State.setPort_f]
      exact State.f_bumpSat_self (r := Fld.lnkErr_crc_bad n) s 1 (by decide : 16 + 16 ≤ 64)
    · rw [State.sendFlit_port, State.setPort_port]
    · rw [State.sendFlit_port, State.setPort_port]
    · rw [State.sendFlit_out, State.setPort_out, State.setPort_ackOf (by rw [State.bumpSat_port]), State.bumpSat_ackOf,
        State.bumpSat_links]
  case idle =>
    intro s n fl ue hl hears hgood htype
    exact hl.runs (idleFlit_read hears hgood htype)
  case link =>
    intro s n fl ue u hl hears hgood htype hread hup hrelane
    subst hread
    refine ⟨_, hl.runs (linkFlit_relanes hears hgood htype hup hrelane), State.relaneStarts_portState _ n _, ?_, ?_⟩
    · rw [State.relaneStarts_port, State.setPort_port]
    · rw [State.relaneStarts_out, State.setPort_out, State.setPort_ackOf (by rfl)]
  case replay =>
    intro s n q hl hup hold hfails
    refine ⟨_, hl.runs (replayTimeout_replays hup hold hfails), s.replays_count n _ _, s.replays_out n _ _,
      s.replays_flitsTx n _ _, ?_, (s.replays_ext n _ _).sparesHbmAndCtl rfl⟩
    rw [State.replays_port]
  case ack =>
    intro s n hl hears hwait
    refine ⟨hl.runs (ackTimer_due hears hwait), s.sendFlit_out n Flit.idle, ?_⟩
    rw [State.sendFlit_port]
  case credit =>
    intro s n vc e hl hup howed hmany hsave
    exact hl.runs (creditReturn_due hup howed hmany hsave)
  case start =>
    intro s n i p hl hup hready
    refine ⟨_, hl.runs (packetStart_first hup hready), rfl, s.transmit_out n i p, ?_, ?_,
      (State.transmit_ext (M₀ := 65540) rfl (.refl _ s)).sparesHbmAndCtl rfl⟩
    · rw [State.transmit_port]
    · rw [State.transmit_port]
  case startIdle =>
    intro s n hl hup hfirst htransit howned
    refine ⟨_, hl.runs (packetStart_idle hup hfirst htransit howned), ?_, ?_, rfl,
      (State.sendFlit_ext (M₀ := 65540) rfl (State.setPort_ext rfl (.refl _ s))).sparesHbmAndCtl rfl⟩
    · rw [State.sendFlit_out, State.setPort_out, State.setPort_ackOf rfl]
    · rw [State.sendFlit_port, State.setPort_port]

end Sys2Proof.Machine
end

section
/-!
How Adepin ports come up and carry packets (chapter 10): what training, identification and the port controls leave, and where
each kind of packet goes.
-/
namespace Sys2Proof.Machine

/-! ### Training and identification (R251) -/

/-- Port n has locked on a set of lanes and waits to be identified. -/
def State.locked (s : State) (n lanes : Nat) : State :=
  (((s.refBack n lanes).portComesUp n (s.lanesAfter n lanes)).put (Fld.lnkStatus_state n) 4).put (Fld.lnkStatus_lane_good n)
    (lanes &&& s.fullMask n)

/-- The identification that port n sends in state s. -/
def State.identTx (s : State) (n width : Nat) : TxPacket :=
  ⟨0, s.mkPacket 0 1 ((s.farNode n).getD 0) (toLE 4 s.node ++ toLE 1 n ++ toLE 1 width), s.now, none, none⟩

section
variable (s : State) (n lanes : Nat)

theorem State.locked_portState : (s.locked n lanes).portState n = 4 :=
  (State.portState_put_laneGood _ n _).trans (State.f_put_portState _ n (by decide))

theorem State.locked_port : (s.locked n lanes).port n =
    { s.port n with expSeq := 0, nakSent := false, unacked := 0, txSeq := 0, retry := [], replayFrom := 0, replayFails := 0,
                    owed := [], part := [], partVc := 0, partFlits := 0, inUse := s.lanesAfter n lanes, rewiden := false } := by
  unfold State.locked
  rw [State.put_port, State.put_port, State.portComesUp_port]
  rfl

theorem State.locked_out : (s.locked n lanes).links.out = s.links.out := by
  unfold State.locked
  rw [State.put_links, State.put_links, State.portComesUp_out]
  rfl

theorem State.locked_ackOf : (s.locked n lanes).ackOf n = 65535 := by
  unfold State.ackOf
  rw [State.locked_port]
  rfl

theorem State.locked_ext : Ext 2162692 s (s.locked n lanes) :=
  State.put_ext rfl (State.put_ext rfl (State.portComesUp_ext rfl (State.refBack_ext rfl (.refl _ s))))

end

/-- An enabled port that trains locks on lanes enough and identifies itself. -/
theorem linkTrainingDone_locks {s : State} {n lanes : Nat} (henable : s.flag (Fld.lnkCtrl_enable n) = true)
    (htrains : s.portState n = 2 ∨ s.portState n = 3) (hlanes : s.lanesAfter n lanes ≠ 0) :
    linkTrainingDone n lanes s = (s.locked n lanes).transmit n ((s.locked n lanes).port n).queue.length
      (s.identTx n ((s.locked n lanes).f (Fld.lnkStatus_width n))) := by
  have hlocks : ¬(s.flag (Fld.lnkCtrl_enable n) = false ∨ (s.portState n ≠ 2 ∧ s.portState n ≠ 3) ∨
      s.lanesAfter n lanes = 0) := by
    rintro (hoff | ⟨h2, h3⟩ | hnone)
    · simp [henable] at hoff
    · omega
    · exact hlanes hnone
  exact if_neg hlocks

/-- A packet sent leaves the state of its port. -/
theorem State.transmit_portState (s : State) (n i : Nat) (p : TxPacket) : (s.transmit n i p).portState n = s.portState n :=
  State.transmit_f s (lnkStatus_ne_lnkCredit n) (lnkStatus_ne_lnkFlitsTx n)
    (lnkStatus_ne_lnkTransit n)

/-- The identification is out of the buffers of port n, and the far end it names is shown. -/
def State.farShown (s : State) (n i node port : Nat) : State :=
  (((s.setPort n { s.port n with rx := (s.port n).rx.eraseIdx i }).put (Fld.lnkFar_far_node n) node).put (Fld.lnkFar_far_port n)
    port).put (Fld.lnkFar_valid n) 1

/-- Port n is UP with full credits. -/
def State.identUpAt (s : State) (n i node port : Nat) : State :=
  (vcs.foldl (fun t vc => t.put (creditF n vc) (s.vcDepth n vc)) (s.farShown n i node port)).put (Fld.lnkStatus_state n) 5

/-- Port n is in FAULT for its miswired far end. -/
def State.identFaultAt (s : State) (n i node port : Nat) : State :=
  ((s.farShown n i node port).put (Fld.lnkStatus_state n) 7).put (Fld.lnkEvent_miswired n) 1

section
variable (s : State) (n i node port : Nat)

theorem State.farShown_farNode : (s.farShown n i node port).f (Fld.lnkFar_far_node n) = node % 2 ^ 32 := by
  unfold State.farShown
  rw [State.f_put_sep (r := Fld.lnkFar_valid n) _ _ (by decide : 36 + 1 ≤ 64) (.inl (by decide : 0 + 32 ≤ 36)),
    State.f_put_sep (r := Fld.lnkFar_far_port n) _ _ (by decide : 32 + 4 ≤ 64) (.inl (by decide : 0 + 32 ≤ 32)),
    State.f_put_self (r := Fld.lnkFar_far_node n) _ _ (by decide : 0 + 32 ≤ 64)]
  rfl

theorem State.farShown_valid : (s.farShown n i node port).f (Fld.lnkFar_valid n) = 1 :=
  State.f_put_self (r := Fld.lnkFar_valid n) _ 1 (by decide : 36 + 1 ≤ 64)

theorem State.farShown_rx : ((s.farShown n i node port).port n).rx = (s.port n).rx.eraseIdx i := by
  unfold State.farShown
  rw [State.put_port, State.put_port, State.put_port, State.setPort_port]

theorem State.farShown_ext : Ext 65540 s (s.farShown n i node port) :=
  State.put_ext rfl (State.put_ext rfl (State.put_ext rfl (State.setPort_ext rfl (.refl _ s))))

theorem State.identUpAt_portState : (s.identUpAt n i node port).portState n = 5 := State.f_put_portState _ n (by decide)

/-- Coming UP leaves what is shown of the far end. -/
theorem State.identUpAt_far {q : FieldRef} (hq : q.off = Reg.lnkFar n) :
    (s.identUpAt n i node port).f q = (s.farShown n i node port).f q :=
  (State.f_put_ne _ 5 (ne_of_eq_of_ne hq (lnkFar_ne_lnkStatus n))).trans
    (creditFold_f n _ (ne_of_eq_of_ne hq (lnkFar_ne_lnkCredit n)) vcs _)

theorem State.identUpAt_rx : ((s.identUpAt n i node port).port n).rx = (s.port n).rx.eraseIdx i := by
  unfold State.identUpAt
  rw [State.put_port, creditFold_port, State.farShown_rx]

theorem State.identUpAt_ext : Ext 65540 s (s.identUpAt n i node port) :=
  State.put_ext rfl ((s.farShown_ext n i node port).trans ((creditFold_ext n _ vcs _).mono rfl))

theorem State.identFaultAt_portState : (s.identFaultAt n i node port).portState n = 7 :=
  (State.f_put_ne _ 1 (lnkStatus_ne_lnkEvent n)).trans (State.f_put_portState _ n (by decide))

theorem State.identFaultAt_miswired : (s.identFaultAt n i node port).f (Fld.lnkEvent_miswired n) = 1 :=
  State.f_put_self (r := Fld.lnkEvent_miswired n) _ 1 (by decide : 2 + 1 ≤ 64)

theorem State.identFaultAt_ext : Ext 65540 s (s.identFaultAt n i node port) :=
  State.put_ext rfl (State.put_ext rfl (s.farShown_ext n i node port))

end

section
variable {s : State} {n i : Nat} {p : Packet} (hfind : s.findRx n (fun p => p.kind == 1 && p.job == 0) = some (i, p))
  (hstate : s.portState n = 4)
include hfind hstate

/-- The far end is the one expected: the port is UP, and a TW says hello. -/
theorem identUp_expected (hok : s.identOk n (fieldLE p.body 0 4) (fieldLE p.body 4 1) = true) :
    identUp n s = if n ≤ 1 then (s.identUpAt n i (fieldLE p.body 0 4) (fieldLE p.body 4 1)).sendHello
      else s.identUpAt n i (fieldLE p.body 0 4) (fieldLE p.body 4 1) := by
  have hident : identPacket n s = s.identUpAt n i (fieldLE p.body 0 4) (fieldLE p.body 4 1) := by
    unfold identPacket
    simp only [hfind, hstate, hok, ne_eq, not_true_eq_false, if_false, if_true]
    rfl
  have hnew : s.portState n ≠ 5 := by omega
  unfold identUp
  simp only [hident, State.identUpAt_portState, hnew, ne_eq, not_false_eq_true, and_true]

/-- Any other far end puts the port in FAULT, and is told. -/
theorem identUp_miswired (hbad : s.identOk n (fieldLE p.body 0 4) (fieldLE p.body 4 1) = false) (hn : n < 12) :
    identUp n s = (s.identFaultAt n i (fieldLE p.body 0 4) (fieldLE p.body 4 1)).event 0x0603 none (portCantle n) n
      (toLE 1 n ++ toLE 1 (fieldLE p.body 4 1) ++ toLE 2 0 ++ toLE 4 (fieldLE p.body 0 4)) := by
  have hident : identPacket n s = (s.identFaultAt n i (fieldLE p.body 0 4) (fieldLE p.body 4 1)).event 0x0603 none (portCantle n) n
      (toLE 1 n ++ toLE 1 (fieldLE p.body 4 1) ++ toLE 2 0 ++ toLE 4 (fieldLE p.body 0 4)) := by
    unfold identPacket
    simp only [hfind, hstate, hbad, ne_eq, not_true_eq_false, Bool.false_eq_true, if_false]
    rfl
  have hfault : (identPacket n s).portState n = 7 := by
    rw [hident]
    exact (State.event_f _ _ _ _ _ _ (lnkStatus_ne_evrecLost hn)).trans
      (s.identFaultAt_portState n i _ _)
  have hnoHello : ¬(n ≤ 1 ∧ s.portState n ≠ 5 ∧ (identPacket n s).portState n = 5) := by omega
  exact (if_neg hnoHello).trans hident

end

/-! ### Bring-up and the port controls (R247, R251, R257, R260) -/

theorem bringupRetry_due {s : State} {n : Nat} (hhalf : s.halfRestarts (portCantle n) = false)
    (henable : s.flag (Fld.lnkCtrl_enable n) = true) (hdown : s.portUp n = false) (hon : s.portState n ≠ 0) :
    bringupRetry n s = s.put (Fld.lnkStatus_state n) 2 :=
  (if_pos ⟨hhalf, henable, hdown, hon⟩).trans (if_pos henable)

theorem bringupDeadline_due {s : State} {n : Nat} (henable : s.flag (Fld.lnkCtrl_enable n) = true) (hdown : s.portUp n = false) :
    bringupDeadline n s =
      s.raise ⟨Blk.lnk, none, portCantle n, n, padTo 28 (genericPayload n (s.portState n) 0), s.now, [4]⟩ :=
  if_pos ⟨henable, hdown⟩

theorem State.lnkCtrl_forceDown {s : State} {n : Nat} (hon : s.portState n ≠ 0) (hup : s.portState n ≠ 1) :
    s.lnkCtrl n 2 = s.portDown n := by
  have hbits : testBit 2 1 = true ∧ testBit 2 2 = false ∧ testBit 2 3 = false := by decide
  unfold State.lnkCtrl
  simp only [hbits, Bool.false_eq_true, if_false]
  exact if_pos ⟨trivial, hon, hup⟩

theorem State.lnkCtrl_restoreLegs (s : State) (n : Nat) : s.lnkCtrl n 4 = s.askRestore n := by
  have hbits : testBit 4 1 = false ∧ testBit 4 2 = true ∧ testBit 4 3 = false := by decide
  unfold State.lnkCtrl
  simp only [hbits, Bool.false_eq_true, false_and, if_false, if_true]

/-- A degraded port asks its far end for full width. -/
def State.rewidens (s : State) (n : Nat) : State :=
  ((s.setPort n { s.port n with rewiden := true }).put (Fld.lnkCtrl_rewiden n) 1).sendFlit n
    (Flit.link 1 (s.f (Fld.lnkStatus_lane_good n)))

theorem State.lnkCtrl_rewiden {s : State} {n : Nat} (hup : s.portState n = 5)
    (hdegraded : s.flag (Fld.lnkStatus_degraded n) = true) : s.lnkCtrl n 8 = s.rewidens n := by
  have hbits : testBit 8 1 = false ∧ testBit 8 2 = false ∧ testBit 8 3 = true := by decide
  unfold State.lnkCtrl
  simp only [hbits, Bool.false_eq_true, false_and, if_false, if_true]
  exact if_pos ⟨hup, hdegraded⟩

theorem State.rewidens_flag (s : State) (n : Nat) : (s.rewidens n).flag (Fld.lnkCtrl_rewiden n) = true := by
  rw [State.flag_iff]
  unfold State.rewidens
  rw [State.sendFlit_f, State.f_put_self (r := Fld.lnkCtrl_rewiden n) _ 1 (by decide : 3 + 1 ≤ 64)]
  exact Nat.one_ne_zero

theorem State.rewidens_port (s : State) (n : Nat) : (s.rewidens n).port n = { s.port n with rewiden := true, unacked := 0 } := by
  unfold State.rewidens
  rw [State.sendFlit_port, State.put_port, State.setPort_port]

theorem State.rewidens_out (s : State) (n : Nat) : (s.rewidens n).links.out =
    s.links.out ++ [(n, (Flit.link 1 (s.f (Fld.lnkStatus_lane_good n))).toBytes (s.ackOf n))] := by
  unfold State.rewidens
  rw [State.sendFlit_out, State.put_ackOf, State.setPort_ackOf (by rfl), State.put_links, State.setPort_out]

theorem State.rewidens_ext (s : State) (n : Nat) : Ext 65540 s (s.rewidens n) :=
  State.sendFlit_ext rfl (State.put_ext rfl (State.setPort_ext rfl (.refl _ s)))

theorem State.fullMask_lt (s : State) (n : Nat) : s.fullMask n < 65536 := by
  unfold State.fullMask State.fullWidth
  split <;> decide

/-- The attempt at full width is over. -/
def State.rewidenEnds (s : State) (n : Nat) : State :=
  (s.setPort n { s.port n with rewiden := false }).put (Fld.lnkCtrl_rewiden n) 0

/-- The attempt at full width has locked: all lanes are good. -/
def State.rewidened (s : State) (n : Nat) : State :=
  ((s.setPort n { s.port n with rewiden := false }).put (Fld.lnkStatus_lane_good n) (s.fullMask n)).put (Fld.lnkCtrl_rewiden n) 0

section
variable (s : State) (n : Nat)

theorem State.rewidened_laneGood : (s.rewidened n).f (Fld.lnkStatus_lane_good n) = s.fullMask n :=
  (State.f_put_ne _ 0 (lnkStatus_ne_lnkCtrl n)).trans (State.f_put_laneGood _ n (s.fullMask_lt n))

theorem State.rewidened_relanes : (s.rewidened n).f (Fld.lnkErr_relanes n) = s.f (Fld.lnkErr_relanes n) :=
  (State.f_put_ne _ 0 (portReg_ne n (by decide) : Reg.lnkErr n ≠ Reg.lnkCtrl n)).trans
    (State.f_put_ne _ _ (lnkStatus_ne_lnkErr n).symm)

theorem State.rewidened_port : (s.rewidened n).port n = { s.port n with rewiden := false } := by
  unfold State.rewidened
  rw [State.put_port, State.put_port, State.setPort_port]

theorem State.rewidened_ackOf : (s.rewidened n).ackOf n = s.ackOf n := by
  unfold State.rewidened
  rw [State.put_ackOf, State.put_ackOf, State.setPort_ackOf (by rfl)]

theorem State.rewidened_out : (s.rewidened n).links.out = s.links.out := by
  unfold State.rewidened
  rw [State.put_links, State.put_links, State.setPort_out]

theorem State.rewidened_ext : Ext 65540 s (s.rewidened n) :=
  State.put_ext rfl (State.put_ext rfl (State.setPort_ext rfl (.refl _ s)))

theorem State.rewidenEnds_sameRegsBut : s.SameRegsBut (s.rewidenEnds n) [Reg.lnkCtrl n, Reg.evrecLost] := fun _ hoff =>
  State.rd_put_ne (s.setPort n _) 0 (List.ne_of_not_mem_cons hoff)

end

/-- The unused lanes lock: the port relanes onto all of them. -/
theorem rewidenLock_locks {s : State} {n : Nat} (hrewiden : (s.port n).rewiden = true) (hup : s.portUp n = true) :
    rewidenLock n s = (s.rewidened n).relaneStarts n (s.fullMask n) :=
  if_neg (by simp [hrewiden, hup])

theorem rewidenTimeout_due {s : State} {n : Nat} (hrewiden : (s.port n).rewiden = true) :
    rewidenTimeout n s = (s.rewidenEnds n).event Blk.lnk none (portCantle n) n
      (genericPayload n (s.f (Fld.lnkStatus_lane_good n)) 0) :=
  if_pos hrewiden

/-! ### Discarded packets (R238, R254) -/

theorem State.consumeRx_f (s : State) (n i : Nat) (q : FieldRef) : (s.consumeRx n i).f q = s.f q :=
  State.f_of_regs ((State.consumeRx_ext (M₀ := 65536) rfl (.refl _ s)).regs rfl) q

theorem State.dropPacket_count (s : State) {n : Nat} (hn : n < 12) (i : Nat) (p : Packet) (reason : Nat) :
    (s.dropPacket n i p reason).f (Fld.lnkDrop_packets n) = min (s.f (Fld.lnkDrop_packets n) + 1) (2 ^ 32 - 1) := by
  have hevent : Reg.lnkDrop n ≠ Reg.lnkEvent n := portReg_ne n (by decide)
  have hcount : ((s.consumeRx n i).bumpSat (Fld.lnkDrop_packets n) 1).f (Fld.lnkDrop_packets n) =
      min (s.f (Fld.lnkDrop_packets n) + 1) (2 ^ 32 - 1) := by
    rw [State.f_bumpSat_self (r := Fld.lnkDrop_packets n) _ 1 (by decide : 0 + 32 ≤ 64), State.consumeRx_f]
    rfl
  unfold State.dropPacket
  dsimp only
  rw [State.event_f _ _ _ _ _ _ (portReg_ne_evrecLost hn (by decide) : Reg.lnkDrop n ≠ Reg.evrecLost)]
  split
  · rw [State.f_put_ne _ 1 hevent, hcount]
  · split
    · rw [State.f_put_ne _ 1 hevent, hcount]
    · exact hcount

/-- A packet of a job that no slot holds sets its event bit. -/
theorem State.dropPacket_noSlot (s : State) {n : Nat} (hn : n < 12) (i : Nat) (p : Packet) :
    (s.dropPacket n i p 1).flag (Fld.lnkEvent_no_slot n) = true := by
  rw [State.flag_iff]
  unfold State.dropPacket
  dsimp only
  rw [State.event_f _ _ _ _ _ _ (lnkEvent_ne_evrecLost hn), if_pos rfl,
    State.f_put_self (r := Fld.lnkEvent_no_slot n) _ 1 (by decide : 6 + 1 ≤ 64)]
  exact Nat.one_ne_zero

theorem State.dropPacket_sameHbm (s : State) (n i : Nat) (p : Packet) (reason : Nat) : s.SameHbm (s.dropPacket n i p reason) :=
  (State.dropPacket_ext (M₀ := 65668) rfl (.refl _ s)).sameHbm rfl

theorem reservedKindPacket_drops {s : State} {n i : Nat} {p : Packet}
    (hfind : s.findRx n (fun p => !packetKinds.contains p.kind) = some (i, p)) :
    reservedKindPacket n s = s.dropPacket n i p 0 := by
  unfold reservedKindPacket
  rw [hfind]

/-! ### Packets for other devices (R254, R256, R258) -/

section
variable {s : State} {n i sl out : Nat} {p : Packet} {e : Nat × Nat}
  (hfind : s.findRx n (fun p => p.job != 0 && p.dest != s.node && packetKinds.contains p.kind && p.kind != 2) = some (i, p))
include hfind

theorem transitPacket_noSlot (hslot : s.slotOfJob p.job = none) : transitPacket n s = s.dropPacket n i p 1 := by
  unfold transitPacket
  simp only [hfind, hslot]

variable (hslot : s.slotOfJob p.job = some sl) (hpair : (s.slotPairs sl).find? (fun e => e.1 == n) = some (e.1, out))
include hslot hpair

theorem transitPacket_forwards (hup : s.portUp out = true) : transitPacket n s = s.moveRx n i out p := by
  unfold transitPacket
  simp only [hfind, hslot, hpair, hup, if_true]

theorem transitPacket_outDown (hdown : s.portUp out = false) : transitPacket n s = (s.consumeRx n i).legNotices p.job out := by
  unfold transitPacket
  simp only [hfind, hslot, hpair, hdown, Bool.false_eq_true, if_false]

end

theorem job0Relay_relays {s : State} {n i : Nat} {p : Packet}
    (hfind : s.findRx n (fun p => p.job == 0 && p.dest != s.node && packetKinds.contains p.kind) = some (i, p))
    (hboard : p.dest / 8 = s.node / 8) (hup : s.portUp (s.portTo (p.dest % 8)) = true) :
    job0Relay n s = s.moveRx n i (s.portTo (p.dest % 8)) p := by
  unfold job0Relay
  simp only [hfind, hboard, hup, ne_eq, not_true_eq_false, if_false, if_true]

/-- A notice that no group of its job waits for only goes on along the job's pairs. -/
theorem legDownNotice_passes {s : State} {n i : Nat} {p : Packet}
    (hfind : s.findRx n (fun p => p.kind == 2 && p.job != 0) = some (i, p)) (hslot : (s.slotOfJob p.job).isSome = true)
    (hgroups : ((s.consumeRx n i).legNotices p.job n).groupsOf (fun g => g.job == p.job && !g.fatal) = []) :
    legDownNotice n s = (s.consumeRx n i).legNotices p.job n := by
  have hheld : (s.slotOfJob p.job).isNone = false := by simp [hslot]
  unfold legDownNotice
  simp only [hfind, hheld, hgroups, Bool.false_eq_true, if_false, List.foldl_nil]

/-! ### WRITE packets (R238) -/

section
variable {s : State} {n i q : Nat} {p : Packet}
  (hfind : s.findRx n (fun p => p.kind == 0x21 && p.dest == s.node) = some (i, p)) (hpart : s.packetPart p = some q)
  (hruns : s.ringStands = false)
include hfind hpart hruns

theorem writePacket_stores (howns : s.ownsRange q (fieldLE p.body 0 8) (p.body.drop 8).length = true)
    (hwindow : s.inWindow q (fieldLE p.body 0 8) (p.body.drop 8).length = false) :
    writePacket n s = State.guardRungs s (((s.consumeRx n i).store (fieldLE p.body 0 8) (p.body.drop 8)).countRemote
      (fieldLE p.body 0 8) (p.body.drop 8).length) := by
  unfold writePacket
  simp only [hfind, hpart, hruns, howns, hwindow, Bool.true_eq_false, Bool.false_eq_true, if_false]

theorem writePacket_foreign (hforeign : s.ownsRange q (fieldLE p.body 0 8) (p.body.drop 8).length = false) :
    writePacket n s = s.dropPacket n i p 3 := by
  unfold writePacket
  simp only [hfind, hpart, hruns, hforeign, Bool.false_eq_true, if_false, if_true]

end

/-- Settles O28: each command by its equation, and what the port and its registers read after it. -/
theorem linksComeUpAndCarryPackets : Obligations.LinksComeUpAndCarryPackets := by
  unfold Obligations.LinksComeUpAndCarryPackets
  refine ⟨?trained, ?identified, ?miswired, ?retry, ?deadline, ?forceDown, ?restoreLegs, ?rewiden, ?rewidenLock, ?rewidenTimeout,
    ?forwarded, ?outDown, ?noSlot, ?relayed, ?written, ?foreign, ?notice, ?reserved⟩
  case trained =>
    intro s n lanes u hl henable htrains hlanes hu
    obtain rfl : u = s.locked n lanes := hu
    refine ⟨_, hl.runs (linkTrainingDone_locks henable htrains hlanes),
      (State.transmit_portState _ n _ _).trans (s.locked_portState n lanes), ?_, ?_, ?_,
      ((s.locked_ext n lanes).trans (State.transmit_ext rfl (.refl _ _))).sparesHbmAndCtl rfl⟩
    · rw [State.transmit_port, State.locked_port]
    · rw [State.transmit_port, State.locked_port]
    · rw [State.transmit_out, State.locked_out, State.locked_ackOf, State.locked_port]
      rfl
  case identified =>
    intro s n i p hl hfind hstate hok
    exact ⟨s.identUpAt n i (fieldLE p.body 0 4) (fieldLE p.body 4 1), hl.runs (identUp_expected hfind hstate hok),
      s.identUpAt_portState n i _ _, (s.identUpAt_far n i _ _ rfl).trans (s.farShown_farNode n i _ _),
      (State.flag_iff _ _).2 (ne_of_eq_of_ne ((s.identUpAt_far n i _ _ rfl).trans (s.farShown_valid n i _ _)) Nat.one_ne_zero),
      s.identUpAt_rx n i _ _, (s.identUpAt_ext n i _ _).sparesHbmAndCtl rfl⟩
  case miswired =>
    intro s n i p hl hfind hstate hbad
    refine ⟨_, hl.runs (identUp_miswired hfind hstate hbad n.isLt), ?_, ?_,
      (State.event_ext (M₀ := 65668) rfl ((s.identFaultAt_ext n i _ _).mono rfl)).sparesHbmAndCtl rfl⟩
    · exact (State.event_f _ _ _ _ _ _ (lnkStatus_ne_evrecLost n.isLt)).trans
        (s.identFaultAt_portState n i _ _)
    · rw [State.flag_iff,
        State.event_f _ _ _ _ _ _ (lnkEvent_ne_evrecLost n.isLt),
        State.identFaultAt_miswired]
      exact Nat.one_ne_zero
  case retry =>
    intro s n hl hhalf henable hdown hon
    exact ⟨_, hl.runs (bringupRetry_due hhalf henable hdown hon), s.f_put_portState n (by decide),
      (State.put_ext (M₀ := 4) rfl (.refl _ s)).sparesHbmAndCtl rfl⟩
  case deadline =>
    intro s n hl henable hdown
    exact hl.runs (bringupDeadline_due henable hdown)
  case forceDown =>
    intro s w n hl haccepts hon hup
    exact hl.writes haccepts (State.lnkCtrl_forceDown hon hup)
  case restoreLegs =>
    intro s w n hl haccepts
    exact hl.writes haccepts (s.lnkCtrl_restoreLegs n)
  case rewiden =>
    intro s w n hl haccepts hup hdegraded
    refine ⟨_, hl.writes haccepts (State.lnkCtrl_rewiden hup hdegraded), ?_, s.rewidens_flag n, s.rewidens_out n,
      (s.rewidens_ext n).sparesHbmAndCtl rfl⟩
    rw [State.rewidens_port]
  case rewidenLock =>
    intro s n hl hrewiden hup
    refine ⟨_, hl.runs (rewidenLock_locks hrewiden hup), State.relaneStarts_portState _ n _,
      (State.relaneStarts_laneGood _ n _).trans (s.rewidened_laneGood n), ?_, ?_, ?_,
      ((s.rewidened_ext n).trans (State.relaneStarts_ext _ n _)).sparesHbmAndCtl rfl⟩
    · rw [State.relaneStarts_port, State.rewidened_port]
    · rw [State.relaneStarts_relanes, State.rewidened_relanes]
    · rw [State.relaneStarts_out, State.rewidened_out, State.rewidened_ackOf]
  case rewidenTimeout =>
    intro s n hl hrewiden
    refine ⟨_, hl.runs (rewidenTimeout_due hrewiden), ?_, ?_, ?_,
      (s.rewidenEnds_sameRegsBut n).event (List.mem_cons_of_mem _ (List.mem_singleton_self _)) _ _ _ _ _,
      (State.event_ext (M₀ := 65668) rfl (State.put_ext rfl (State.setPort_ext rfl (.refl _ s)))).sparesHbmAndCtl rfl⟩
    · rw [State.event_port]
      unfold State.rewidenEnds
      rw [State.put_port, State.setPort_port]
    · exact (State.event_f _ _ _ _ _ _ (portReg_ne_evrecLost n.isLt (by decide) : Reg.lnkCtrl n ≠ Reg.evrecLost)).trans
        (State.f_put_zero_self _ _)
    · exact (State.event_f _ _ _ _ _ _ (lnkStatus_ne_evrecLost n.isLt)).trans
        (State.f_put_ne _ 0 (lnkStatus_ne_lnkCtrl n))
  case forwarded =>
    intro s n i sl out p e hl hfind hslot hpair hup
    exact ⟨_, hl.runs (transitPacket_forwards hfind hslot hpair hup), rfl⟩
  case outDown =>
    intro s n i sl out p e hl hfind hslot hpair hdown
    exact hl.runs (transitPacket_outDown hfind hslot hpair hdown)
  case noSlot =>
    intro s n i p hl hfind hslot
    exact ⟨_, hl.runs (transitPacket_noSlot hfind hslot), s.dropPacket_count n.isLt i p 1, s.dropPacket_noSlot n.isLt i p,
      s.dropPacket_sameHbm n i p 1⟩
  case relayed =>
    intro s n i p hl hfind hboard hup
    exact hl.runs (job0Relay_relays hfind hboard hup)
  case written =>
    intro s n i q p hl hfind hpart hruns howns hwindow
    exact hl.runs (writePacket_stores hfind hpart hruns howns hwindow)
  case foreign =>
    intro s n i q p hl hfind hpart hruns hforeign
    exact ⟨_, hl.runs (writePacket_foreign hfind hpart hruns hforeign), s.dropPacket_count n.isLt i p 3,
      s.dropPacket_sameHbm n i p 3⟩
  case notice =>
    intro s n i p t hl hfind hslot ht hgroups
    subst ht
    exact hl.runs (legDownNotice_passes hfind hslot hgroups)
  case reserved =>
    intro s n i p hl hfind
    exact ⟨_, hl.runs (reservedKindPacket_drops hfind), s.dropPacket_count n.isLt i p 0, s.dropPacket_sameHbm n i p 0⟩

end Sys2Proof.Machine
end

section
/-!
How a COLLECTIVE, a SNAPSHOT and a SHIP start once their checks have passed (chapters 11 and 12).
-/
namespace Sys2Proof.Machine

/-! ### A COLLECTIVE enters its bucket (R266, R267) -/

/-- The COLLECTIVE in a slot is of a kind, and its group lets it take its next bucket (R267, R283). -/
structure State.CollectiveDue (s : State) (slot kind : Nat) (o : Op) (g : Group) : Prop where
  live : s.Live
  item : s.issuable slot 4 = some o
  kind : o.b 0x24 1 = kind
  onRing : ∀ r, (s.part (s.opPart o)).replay = some r → r.localScope = false
  group : s.grp (o.b 0x22 2) = some g
  turn : s.ringWaits o (o.b 0x22 2) = false
  runs : g.fatal = false
  inJob : g.jobLost.contains g.self = false
  inStep : g.stepLost.contains (g.self, o.stamp) = false
  handedBack : g.waitHandback = false

section
variable {s t : State} {slot kind : Nat} {o : Op} {g : Group} {b : RingBucket} (h : s.CollectiveDue slot kind o g)
  (ht : t = (s.issue slot).setGrp (o.b 0x22 2) (some g.taken)) (hb : b = t.newBucket slot kind o g)
include h ht hb

theorem State.issueCollective_due :
    s.issueCollective slot kind = ((t.enterBucket (o.b 0x22 2) o g.taken b).slotUpdate g.job).startAll (o.b 0x22 2) := by
  obtain ⟨-, hitem, hkind, hring, hgroup, hturn, hruns, hjob, hstep, hback⟩ := h
  subst ht hb
  unfold State.issueCollective
  cases hreplay : (s.part (s.opPart o)).replay <;>
    simp only [hitem, hkind, hgroup, hreplay, hring, hturn, hruns, hjob, hstep, hback, ne_eq, not_true_eq_false,
      Bool.false_eq_true, or_self, if_false]

/-- A COLLECTIVE that is due starts, whatever its kind, with the bucket its fields name. -/
theorem State.CollectiveDue.starts :
    State.unlessReset s (fun s => s.issueCollective slot kind) =
        .next (((t.enterBucket (o.b 0x22 2) o g.taken b).slotUpdate g.job).startAll (o.b 0x22 2)) ∧
      t.grp (o.b 0x22 2) = some g.taken ∧ g.taken.nextBseq = g.nextBseq + 1 ∧ b.slot = slot ∧ b.kind = kind ∧
      b.bseq = g.nextBseq ∧ b.step = o.stamp ∧ b.addr = o.b 0x28 8 ∧ b.bytes = o.b 0x30 8 ∧ s.SameHbm t := by
  refine ⟨h.live.runs (State.issueCollective_due h ht hb), ?_⟩
  subst ht hb
  exact ⟨State.setGrp_grp _ _ _, rfl, rfl, rfl, rfl, rfl, rfl, rfl,
    Ext.sameHbm (State.setGrp_ext (M₀ := 131140) rfl (State.issue_ext rfl (.refl _ s))) rfl⟩

end

/-! ### A SNAPSHOT asks for a stop (R302) -/

theorem State.setStop_stopOf (s : State) (p : Nat) (r : Option StopRun) : (s.setStop p r).stopOf p = r :=
  Sparse.get_put_self _ _ _ _

theorem State.setStop_f (s : State) (p : Nat) (r : Option StopRun) (q : FieldRef) : (s.setStop p r).f q = s.f q :=
  State.f_of_regs ((State.setStop_ext (M₀ := 266240) rfl (.refl _ s)).regs rfl) q

/-- The stop a SNAPSHOT asks for: its slot, its kind, its regions with their places, and the partition's next identity. -/
def State.stopFor (s : State) (slot : Nat) (o : Op) (rs : List (Nat × Nat)) (places : List Nat) : StopRun :=
  ⟨slot, o.admitNo, o.b 0x20 1, o.b 0x21 1, rs, places, s.now, false,
    s.fuses.serial % 2 ^ 40 * 2 ^ 24 + s.opPart o * 2 ^ 22 + Sparse.get zeroD s.snap.flash.next (s.opPart o)⟩

/-- The SNAPSHOT has issued, its slot is COPYING, and its stop runs. -/
def State.stopAsked (s : State) (slot : Nat) (o : Op) (rs : List (Nat × Nat)) (places : List Nat) : State :=
  ((s.issue slot).put (Fld.snapSlotState_state (4 * s.opPart o + o.b 0x20 1)) 1).setStop (s.opPart o)
    (some (s.stopFor slot o rs places))

theorem opSnapshot_stops {s : State} {slot : Nat} {o : Op} {rs : List (Nat × Nat)} {places : List Nat}
    (hitem : s.issuable slot 6 = some o) (hslot : s.f (Fld.snapSlotState_state (4 * s.opPart o + o.b 0x20 1)) ≠ 4)
    (hidle : s.stopOf (s.opPart o) = none)
    (hwritten : s.inFlight.any (fun e => s.opPart e.2 == s.opPart o && decide (e.2.admitNo < o.admitNo) &&
      s.writesScope (scopeEntries (s.bytes (o.b 0x28 8) (16 * o.b 0x30 4))) e.2) = false)
    (hclean : s.poisoned (o.b 0x28 8) (16 * o.b 0x30 4) = false)
    (hscope : s.readScope (s.opPart o) (o.b 0x20 1) (o.b 0x28 8) (o.b 0x30 4) = some (rs, places))
    (hcount : Sparse.get zeroD s.snap.flash.next (s.opPart o) ≤ 0x3FFFFF) :
    opSnapshot slot s = s.stopAsked slot o rs places := by
  unfold opSnapshot slotStateF
  simp only [hitem, hslot, hidle, hwritten, hclean, hscope, Nat.not_lt.2 hcount, Option.isSome_none, Bool.false_eq_true,
    or_self, if_false]
  rfl

section
variable (s : State) (slot : Nat) (o : Op) (rs : List (Nat × Nat)) (places : List Nat)

theorem State.stopAsked_stopOf : (s.stopAsked slot o rs places).stopOf (s.opPart o) = some (s.stopFor slot o rs places) :=
  State.setStop_stopOf _ _ _

theorem State.stopAsked_slotState :
    (s.stopAsked slot o rs places).f (Fld.snapSlotState_state (4 * s.opPart o + o.b 0x20 1)) = 1 :=
  (State.setStop_f _ _ _ _).trans (State.f_put_self (r := Fld.snapSlotState_state _) _ 1 (by decide : 0 + 3 ≤ 64))

theorem State.stopAsked_sameHbm : s.SameHbm (s.stopAsked slot o rs places) :=
  Ext.sameHbm (State.setStop_ext (M₀ := 266308) rfl (State.put_ext rfl (State.issue_ext rfl (.refl _ s)))) rfl

end

/-! ### A SHIP sends its records (R310) -/

/-- A record goes out by RDMA WRITE to the next remote address. -/
def sendRecord (q rkey : Nat) (x : State × Nat) (r : LogRec) : State × Nat :=
  (x.1.request q (.write q rkey x.2 r.toBytes none) r.toBytes.length 0, x.2 + r.toBytes.length)

/-- The address after records sent is that before them, moved on by their bytes. -/
theorem sendRecords_address (q rkey : Nat) (l : List LogRec) (x : State × Nat) :
    (l.foldl (sendRecord q rkey) x).2 = x.2 + (l.map (fun r => r.toBytes.length)).sum := by
  induction l generalizing x with
  | nil => rfl
  | cons r l ih =>
    rw [List.foldl_cons, ih, List.map_cons, List.sum_cons]
    exact Nat.add_assoc _ _ _

theorem sendRecords_ext (q rkey : Nat) (l : List LogRec) (x : State × Nat) : Ext 260 x.1 (l.foldl (sendRecord q rkey) x).1 :=
  Ext.foldl_fst l (fun _ _ h => State.request_ext rfl h) (.refl _ x.1)

/-- A SHIP has issued and sent the records but END of those it ships. -/
def State.shipSent (s : State) (slot : Nat) (o : Op) (out : List LogRec) : State × Nat :=
  (out.filter (fun r => r.typ != 3)).foldl (sendRecord (o.b 0x28 2) (o.b 0x38 4)) (s.issue slot, o.b 0x30 8)

/-- The SHIP that has sent them and still owes END. -/
def State.shipOwing (s : State) (slot : Nat) (o : Op) (out : List LogRec) : ShipRun :=
  ⟨slot, o.admitNo, o.b 0x20 8, o.b 0x28 2, o.b 0x38 4, o.b 0x2B 1, (s.shipSent slot o out).2, out.filter (fun r => r.typ == 3)⟩

/-- The SHIP is under way: its bytes are counted and what it owes is noted. -/
def State.shipping (s : State) (slot : Nat) (o : Op) (out : List LogRec) : State :=
  let u := s.shipSent slot o out
  ((u.1.addDetail slot (u.2 - o.b 0x30 8)).setFlash
    { u.1.snap.flash with ships := u.1.snap.flash.ships ++ [s.shipOwing slot o out] }).flashShow

theorem opShip_ships {s : State} {slot : Nat} {o : Op} {out : List LogRec} (hitem : s.issuable slot 7 = some o)
    (hdrained : s.drainingId (o.b 0x20 8) = false) (hsealed : s.snap.flash.sealed (o.b 0x20 8) ≠ [])
    (hfailed : s.f (Fld.hostQpCfg_state (o.b 0x28 2)) ≠ 2) (hready : s.qpReady (o.b 0x28 2) = true)
    (hkeyed : mapAll (fun r => s.reseal r (o.b 0x2B 1)) (s.snap.flash.sealed (o.b 0x20 8)) = some out) :
    opShip slot s = s.shipping slot o out := by
  unfold opShip
  simp only [hitem, hdrained, List.isEmpty_eq_false_iff.2 hsealed, hfailed, hready, hkeyed, Bool.false_eq_true,
    Bool.true_eq_false, if_false]
  rfl

section
variable (s : State) (slot : Nat) (o : Op) (out : List LogRec)

theorem State.shipSent_ext : Ext 324 s (s.shipSent slot o out).1 :=
  (State.issue_ext rfl (.refl _ s)).trans ((sendRecords_ext (o.b 0x28 2) (o.b 0x38 4) _ (s.issue slot, o.b 0x30 8)).mono rfl)

theorem State.shipping_ships : (s.shipping slot o out).snap.flash.ships = s.snap.flash.ships ++ [s.shipOwing slot o out] := by
  have hshown : ∀ t : State, t.flashShow.snap = t.snap := fun t => (State.flashShow_ext (M₀ := 4) rfl (.refl _ t)).snap rfl
  unfold State.shipping
  rw [hshown]
  exact congrArg (fun x : Snap => x.flash.ships ++ _) ((s.shipSent_ext slot o out).snap rfl)

theorem State.shipOwing_eq : s.shipOwing slot o out =
    ⟨slot, o.admitNo, o.b 0x20 8, o.b 0x28 2, o.b 0x38 4, o.b 0x2B 1,
      o.b 0x30 8 + ((out.filter (fun r => r.typ != 3)).map (fun r => r.toBytes.length)).sum, out.filter (fun r => r.typ == 3)⟩ := by
  unfold State.shipOwing State.shipSent
  rw [sendRecords_address]

theorem State.shipping_sameHbm : s.SameHbm (s.shipping slot o out) :=
  Ext.sameHbm (State.flashShow_ext (M₀ := 262468) rfl (State.setFlash_ext rfl (State.addDetail_ext rfl
    ((s.shipSent_ext slot o out).mono rfl)))) rfl

end

/-- Settles O30: the three kinds of COLLECTIVE by one lemma over the kind, SNAPSHOT and SHIP by what their new state reads. -/
theorem collectivesSnapshotsAndShipsStart : Obligations.CollectivesSnapshotsAndShipsStart := by
  unfold Obligations.CollectivesSnapshotsAndShipsStart
  refine ⟨?reduceScatter, ?allGather, ?allReduce, ?snapshot, ?ship⟩
  case reduceScatter | allGather | allReduce =>
    intro s slot o g t b hl hitem hkind hring hgroup hturn hruns hjob hstep hback ht hb
    exact State.CollectiveDue.starts ⟨hl, hitem, hkind, hring, hgroup, hturn, hruns, hjob, hstep, hback⟩ ht hb
  case snapshot =>
    intro s slot o rs places hl hitem hslot hidle hwritten hclean hscope hcount
    exact ⟨_, hl.runs (opSnapshot_stops hitem hslot hidle hwritten hclean hscope hcount), s.stopAsked_stopOf slot o rs places,
      s.stopAsked_slotState slot o rs places, s.stopAsked_sameHbm slot o rs places⟩
  case ship =>
    intro s slot o out hl hitem hdrained hsealed hfailed hready hkeyed
    exact ⟨_, hl.runs (opShip_ships hitem hdrained hsealed hfailed hready hkeyed),
      s.shipOwing_eq slot o out ▸ s.shipping_ships slot o out, s.shipping_sameHbm slot o out⟩

end Sys2Proof.Machine
end

section
/-!
What arrives on the ring (chapter 11): the packet a command takes, and what each marker does to its group.
-/
namespace Sys2Proof.Machine

/-! ### The packet that is due (R270) -/

section
variable {s : State} {n phase i : Nat} {p : Packet} {h : RingHdr} {g : Group}

theorem State.grp_of_groupOf (hgroup : s.groupOf p h = some g) : s.grp h.group = some g ∧ g.fatal = false := by
  unfold State.groupOf at hgroup
  split at hgroup
  next g' hloaded =>
    obtain ⟨⟨-, hruns⟩, ⟨⟩⟩ := Option.ite_none_right_eq_some.1 hgroup
    exact ⟨hloaded, hruns⟩
  next => cases hgroup

section
variable (due : s.MarkerDue n phase i p h g)
include due

theorem State.MarkerDue.obeyed (f : State → RingHdr → Group → State) : s.onMarker n phase f = f (s.consumeRx n i) h g := by
  unfold State.onMarker
  simp only [due.runs, due.found, due.group, Bool.false_eq_true, if_false]

theorem State.MarkerDue.stale (hfate : s.chunkFate g h = .stale) (f : Nat → Packet → RingHdr → Group → RingBucket → State) :
    s.onChunk n phase f = s.dropStale n i g := by
  unfold State.onChunk
  simp only [due.runs, due.found, due.group, hfate, Bool.false_eq_true, if_false]

theorem State.MarkerDue.waits (hfate : s.chunkFate g h = .wait) (f : Nat → Packet → RingHdr → Group → RingBucket → State) :
    s.onChunk n phase f = s := by
  unfold State.onChunk
  simp only [due.runs, due.found, due.group, hfate, Bool.false_eq_true, if_false]

end

theorem State.ChunkDue.taken {b : RingBucket} (due : s.ChunkDue n phase i p h g b)
    (f : Nat → Packet → RingHdr → Group → RingBucket → State) : s.onChunk n phase f = f i p h g b := by
  unfold State.onChunk
  simp only [due.runs, due.found, due.group, due.fate, due.bucket, Bool.false_eq_true, if_false]

end

/-! ### Taking a packet leaves the groups and their buckets -/

theorem State.consumeRx_red (s : State) (n i : Nat) : (s.consumeRx n i).red = s.red :=
  (State.consumeRx_ext (M₀ := 65536) rfl (.refl _ s)).red rfl

theorem State.bucket_of_red {s t : State} (h : t.red = s.red) (gid : Nat) : t.bucket gid = s.bucket gid := by
  unfold State.bucket
  rw [h]

theorem State.grp_of_red {s t : State} (h : t.red = s.red) (gid : Nat) : t.grp gid = s.grp gid := by
  unfold State.grp
  rw [h]

theorem State.consumeRx_bucket (s : State) (n i gid : Nat) : (s.consumeRx n i).bucket gid = s.bucket gid :=
  State.bucket_of_red (s.consumeRx_red n i) gid

theorem State.consumeRx_grp (s : State) (n i gid : Nat) : (s.consumeRx n i).grp gid = s.grp gid :=
  State.grp_of_red (s.consumeRx_red n i) gid

/-! ### ENTRY, REPORT, RESTART, FIN and RETIRE (R267, R268, R282, R284) -/

section
variable {s : State} {n i : Nat} {p : Packet} {h : RingHdr} {g : Group} {b : RingBucket}

/-- The entry of the bucket under way opens its downstream. -/
theorem ringEntryMarker_opens (due : s.MarkerDue n 4 i p h g) (hb : s.bucket h.group = some b) (hbseq : b.bseq = h.bseq)
    (hepoch : b.epoch = h.epoch) :
    ringEntryMarker n s = ((s.consumeRx n i).setBucket h.group (some { b with downEntry := true })).startAll h.group := by
  unfold ringEntryMarker
  rw [due.obeyed]
  simp only [s.consumeRx_bucket, hb]
  exact if_pos ⟨hbseq, hepoch⟩

/-- An entry marker is for a bucket or an epoch that this member has yet to come to. -/
def State.entryAhead (s : State) (g : Group) (h : RingHdr) : Prop :=
  s.bucket h.group = none ∧ g.nextBseq ≤ h.bseq ∨
    ∃ b, s.bucket h.group = some b ∧ (b.bseq < h.bseq ∨ b.bseq = h.bseq ∧ b.epoch ≠ h.epoch)

theorem ringEntryMarker_ahead (due : s.MarkerDue n 4 i p h g) (hahead : s.entryAhead g h) :
    ringEntryMarker n s = (s.consumeRx n i).setGrp h.group (some { g with earlyEntry := g.earlyEntry ++ [(h.bseq, h.epoch)] }) := by
  unfold ringEntryMarker
  rw [due.obeyed]
  obtain ⟨hb, hnext⟩ | ⟨b, hb, hlater⟩ := hahead
  · simp only [s.consumeRx_bucket, hb]
    exact if_pos hnext
  · have hother : ¬(b.bseq = h.bseq ∧ b.epoch = h.epoch) := by
      rintro ⟨hbseq, hepoch⟩
      omega
    simp only [s.consumeRx_bucket, hb]
    exact (if_neg hother).trans (if_pos hlater)

theorem ringReport_dropsSelf (due : s.MarkerDue n 5 i p h g) (hself : h.chunk = g.self) (hscope : h.wire = 1) :
    ringReport n s = (s.consumeRx n i).dropSelf h.group ((s.consumeRx n i).ringStep h.group g) := by
  unfold ringReport
  rw [due.obeyed]
  exact if_pos ⟨hself, hscope⟩

theorem ringReport_reports (due : s.MarkerDue n 5 i p h g) (hother : h.chunk ≠ g.self ∨ h.wire ≠ 1) :
    ringReport n s = (s.consumeRx n i).report h.group h.chunk h.wire := by
  unfold ringReport
  rw [due.obeyed]
  exact if_neg (not_and_or.2 hother)

/-- A restart of the bucket under way in a new epoch ends its lap at the leader, and begins the bucket again elsewhere. -/
theorem ringRestart_newEpoch (due : s.MarkerDue n 6 i p h g) (hb : s.bucket h.group = some b) (hbseq : b.bseq = h.bseq)
    (hepoch : b.epoch ≠ h.epoch) :
    ringRestart n s =
      if leaderOf ((s.bLive g b).filter (fun p => p != h.chunk)) = g.self then s.consumeRx n i
      else (if alone ((s.bLive g b).filter (fun p => p != h.chunk)) then s.consumeRx n i
        else (s.consumeRx n i).legSend g ((s.bLive g b).filter (fun p => p != h.chunk))
          (markerBody h.group 6 h.wire h.chunk h.bseq h.epoch)).restart h.group h.chunk h.wire h.epoch := by
  unfold ringRestart
  rw [due.obeyed]
  simp only [s.consumeRx_bucket, hb]
  exact if_neg (not_or.2 ⟨not_not.2 hbseq, hepoch⟩)

/-- The final marker of the bucket under way: RETIRE goes round from a leader that has sent its own, elsewhere it is noted. -/
theorem ringFin_current (due : s.MarkerDue n 7 i p h g) (hb : s.bucket h.group = some b) (hbseq : b.bseq = h.bseq)
    (hepoch : b.epoch = h.epoch) :
    ringFin n s =
      if leaderOf (s.bLive g b) = g.self ∧ b.finSent then
        (((s.consumeRx n i).setBucket h.group (some { b with finUp := true, retireSent := true, phase := 8 })).legSend g (s.bLive g b)
          (markerBody h.group 8 0 0 b.bseq b.epoch)).slotUpdate g.job
      else ((s.consumeRx n i).setBucket h.group (some { b with finUp := true })).fin h.group := by
  unfold ringFin
  rw [due.obeyed]
  simp only [s.consumeRx_bucket, hb]
  exact if_neg (not_or.2 ⟨not_not.2 hbseq, not_not.2 hepoch⟩)

theorem ringRetire_current (due : s.MarkerDue n 8 i p h g) (hb : s.bucket h.group = some b) (hbseq : b.bseq = h.bseq)
    (hepoch : b.epoch = h.epoch) :
    ringRetire n s =
      (if leaderOf (s.bLive g b) = g.self then s.consumeRx n i
        else (s.consumeRx n i).legSend g (s.bLive g b) (markerBody h.group 8 0 0 b.bseq b.epoch)).retireBucket h.group g b := by
  unfold ringRetire
  rw [due.obeyed]
  simp only [s.consumeRx_bucket, hb]
  exact if_neg (not_or.2 ⟨not_not.2 hbseq, not_not.2 hepoch⟩)

end

/-! ### FATAL (R285) -/

/-- A group that has stopped shows it, raises its event and sends FATAL back. -/
def State.tellFatal (s : State) (gid : Nat) (g : Group) (l : List Nat) (bseq epoch : Nat) : State :=
  (((s.slotUpdate g.job).put (Fld.redEvent_fatal g.part) 1).redEvent g 0x090A gid []).backSend g l
    (markerBody gid 9 0 0xFFFFFFFF bseq epoch)

theorem State.tellFatal_red (s : State) (gid : Nat) (g : Group) (l : List Nat) (bseq epoch : Nat) :
    (s.tellFatal gid g l bseq epoch).red = s.red :=
  (State.backSend_ext (M₀ := 65668) rfl (State.redEvent_ext rfl (State.put_ext rfl (State.slotUpdate_ext rfl (.refl _ s))))).red rfl

theorem State.endCollective_red (s : State) (slot result members : Nat) : (s.endCollective slot result members).red = s.red :=
  (State.endCollective_ext (M₀ := 64) rfl (.refl _ s)).red rfl

section
variable {s : State} {gid : Nat} {g : Group} (hgroup : s.grp gid = some g) (hruns : g.fatal = false)
include hgroup hruns

theorem State.ringFatal_idle (hb : s.bucket gid = none) :
    s.ringFatal gid = (s.setGrp gid (some { g with fatal := true })).tellFatal gid g (s.live g (s.rd (Reg.stepN g.part)) g.nextBseq)
      g.nextBseq 0 := by
  unfold State.ringFatal
  simp only [hgroup, hruns, hb, Bool.false_eq_true, if_false]
  rfl

theorem State.ringFatal_active {b : RingBucket} (hb : s.bucket gid = some b) :
    s.ringFatal gid = (((s.setBucket gid none).endCollective b.slot Res.hwFault (s.bLive g b).length).setGrp gid
      (some { g with fatal := true })).tellFatal gid g (s.bLive g b) b.bseq b.epoch := by
  unfold State.ringFatal
  simp only [hgroup, hruns, hb, Bool.false_eq_true, if_false]
  rfl

/-- A group that stops has no bucket under way, and is marked. -/
theorem State.ringFatal_stops : (s.ringFatal gid).bucket gid = none ∧ (s.ringFatal gid).grp gid = some { g with fatal := true } := by
  cases hb : s.bucket gid with
  | none =>
    rw [State.ringFatal_idle hgroup hruns hb, State.bucket_of_red (State.tellFatal_red ..), State.grp_of_red (State.tellFatal_red ..)]
    exact ⟨hb, State.setGrp_grp _ _ _⟩
  | some b =>
    rw [State.ringFatal_active hgroup hruns hb, State.bucket_of_red (State.tellFatal_red ..), State.grp_of_red (State.tellFatal_red ..)]
    refine ⟨?_, State.setGrp_grp _ _ _⟩
    calc (((s.setBucket gid none).endCollective b.slot Res.hwFault (s.bLive g b).length).setGrp gid _).bucket gid
        = ((s.setBucket gid none).endCollective b.slot Res.hwFault (s.bLive g b).length).bucket gid := rfl
      _ = (s.setBucket gid none).bucket gid := State.bucket_of_red (State.endCollective_red ..) gid
      _ = none := State.setBucket_bucket _ _ _

end

theorem ringFatalMarker_stops {s : State} {n i : Nat} {p : Packet} {h : RingHdr} {g : Group} (due : s.MarkerDue n 9 i p h g) :
    ringFatalMarker n s = (s.consumeRx n i).ringFatal h.group := due.obeyed _

/-- Settles O34: the marker due is taken once, and each kind's meaning is read off the bucket that the taking left. -/
theorem ringMarkersAreObeyed : Obligations.RingMarkersAreObeyed := by
  unfold Obligations.RingMarkersAreObeyed
  refine ⟨?opens, ?ahead, ?dropsSelf, ?reports, ?restarts, ?lapEnds, ?finReturns, ?finNoted, ?retires, ?fatal⟩
  case opens =>
    intro s n i p h g b due hb hbseq hepoch
    exact due.live.runs (ringEntryMarker_opens due hb hbseq hepoch)
  case ahead =>
    intro s n i p h g t due hahead ht
    subst ht
    exact ⟨due.live.runs (ringEntryMarker_ahead due hahead), s.consumeRx_bucket n i h.group,
      Ext.sparesHbmAndCtl (State.setGrp_ext (M₀ := 196608) rfl (State.consumeRx_ext rfl (.refl _ s))) rfl⟩
  case dropsSelf =>
    intro s n i p h g due hself hscope
    exact due.live.runs (ringReport_dropsSelf due hself hscope)
  case reports =>
    intro s n i p h g due hother
    exact due.live.runs (ringReport_reports due hother)
  case restarts =>
    intro s n i p h g b due hb hbseq hepoch hled
    exact due.live.runs ((ringRestart_newEpoch due hb hbseq hepoch).trans (if_neg hled))
  case lapEnds =>
    intro s n i p h g b due hb hbseq hepoch hleads
    exact due.live.runs ((ringRestart_newEpoch due hb hbseq hepoch).trans (if_pos hleads))
  case finReturns =>
    intro s n i p h g b due hb hbseq hepoch hleads hsent
    exact due.live.runs ((ringFin_current due hb hbseq hepoch).trans (if_pos ⟨hleads, hsent⟩))
  case finNoted =>
    intro s n i p h g b due hb hbseq hepoch hnot
    exact due.live.runs ((ringFin_current due hb hbseq hepoch).trans
      (if_neg (not_and_or.2 (hnot.imp_right Bool.eq_false_iff.1))))
  case retires =>
    intro s n i p h g b due hb hbseq hepoch
    exact due.live.runs (ringRetire_current due hb hbseq hepoch)
  case fatal =>
    intro s n i p h g t due ht
    subst ht
    obtain ⟨hgroup, hruns⟩ := State.grp_of_groupOf due.group
    exact ⟨due.live.runs (ringFatalMarker_stops due), State.ringFatal_stops ((s.consumeRx_grp n i _).trans hgroup) hruns⟩

end Sys2Proof.Machine
end

section
/-!
The chunks of a bucket (chapter 11): how one is staged, folded, gathered and delivered, and how a straggler is told.
-/
namespace Sys2Proof.Machine

/-! ### Staging (R272) -/

theorem adderStage_stages {s : State} {n gid c : Nat} {b : RingBucket} (hruns : s.ringStands = false)
    (hpick : s.adderPick n = some (gid, b, c)) :
    adderStage n s = s.activeBuckets.foldl (fun t e => t.startAll e.1)
      ((s.setBucket gid (some { b with staged := b.staged ++ [c] })).countRemote (b.addr + 16384 * c) 16384) := by
  unfold adderStage
  simp only [hruns, hpick, Bool.false_eq_true, if_false]

/-! ### One hop (R271, R281) -/

section
variable (s : State) (g : Group) (b : RingBucket) (p : Packet) (h : RingHdr) (mism : Bool)

/-- In the first stage every member counts one hop, and the wire format stays. -/
theorem State.foldChunk_hop : (s.foldChunk g b p h false mism).hops = h.hops + 1 ∧ (s.foldChunk g b p h false mism).wire = h.wire := by
  unfold State.foldChunk
  cases b.tainted <;> exact ⟨rfl, rfl⟩

/-- A clean member adds its contribution to what it received, with one rounding, and voids nothing. -/
theorem State.foldChunk_adds (hclean : b.tainted = false) (hfull : testBit h.flags cfEmpty = false) :
    (s.foldChunk g b p h false mism).xs = List.zipWith (hopAdd (s.heritage g.part))
        (((bodyElems h.wire p.body).zipIdx).map (fun e => wireDec (s.heritage g.part) h.wire
          (((bodyBlks p.body).getD (e.2 / 128) ⟨127, 0, 0#32⟩).scale) e.1)) (s.contribution b h.chunk) ∧
      (s.foldChunk g b p h false mism).voids = h.voids := by
  unfold State.foldChunk
  simp only [hclean, hfull, Bool.false_eq_true, if_false, and_self]

theorem State.foldChunk_voids (htainted : b.tainted = true) : (s.foldChunk g b p h false mism).voids = h.voids + 1 := by
  unfold State.foldChunk
  simp only [htainted, Bool.false_eq_true, if_false, if_true]

end

/-! ### FOLD (R270, R271, R272) -/

/-- A chunk is in its second stage where it comes from none of the members of the first (R181). -/
def State.secondStage (s : State) (g : Group) (b : RingBucket) (p : Packet) (c : Nat) : Bool :=
  (chunkPath (s.bLive g b) g.n g.self (s.heritage g.part) c).2.isSome &&
    !((chunkPath (s.bLive g b) g.n g.self (s.heritage g.part) c).1.any (fun q => g.node q == p.src))

/-- A chunk's wire or one of its scales differs from this member's own (R277). -/
def RingBucket.mismatched (b : RingBucket) (p : Packet) (h : RingHdr) : Bool :=
  h.wire != b.wire || (bodyBlks p.body).map BlkHdr.scale != (b.startBlks h.chunk).map BlkHdr.scale

section
variable {s : State} {n i : Nat} {p : Packet} {h : RingHdr} {g : Group} {b : RingBucket} (due : s.ChunkDue n 0 i p h g b)
  (hkind : b.kind ≠ 1) (hentered : b.downEntry = true) (hfirst : s.secondStage g b p h.chunk = false)
include due hkind hentered hfirst

/-- A chunk that a member may fold, and whose scales agree, is folded and goes onward. -/
theorem ringFold_folds (hready : b.tainted = true ∨ b.staged.contains h.chunk = true) (hagrees : b.mismatched p h = false)
    {b1 : RingBucket}
    (hb1 : b1 = { b with staged := b.staged.filter (fun c => c != h.chunk), started := b.started ++ [h.chunk] }) :
    ringFold n s = ((((s.consumeRx n i).setBucket h.group (some b1)).adderRan n).noteReined b h.flags).onward h.group g b1 h.chunk
      false (s.foldChunk g b p h false false) := by
  subst hb1
  unfold State.secondStage at hfirst
  unfold RingBucket.mismatched at hagrees
  unfold ringFold
  rw [due.taken]
  simp only [hkind, hentered, hfirst, Bool.or_eq_true_iff.2 hready, hagrees, Bool.true_eq_false, Bool.false_eq_true, or_self,
    false_and, if_false, Bool.or_false]

/-- A chunk whose contribution is not yet staged waits, and the wait is counted. -/
theorem ringFold_awaitsStaging (hclean : b.tainted = false) (hunstaged : b.staged.contains h.chunk = false) :
    ringFold n s = s.bump (Fld.redAdderWait_wait n) 1 := by
  unfold State.secondStage at hfirst
  unfold ringFold
  rw [due.taken]
  simp only [hkind, hentered, hfirst, hclean, hunstaged, Bool.true_eq_false, Bool.false_eq_true, or_self, Bool.or_self,
    if_false, if_true]

end

/-! ### GATHER, HEADERS and DELIVER (R265, R266, R282, R293) -/

/-- The words of a received chunk, each element decoded by the scale of its block (R68). -/
def State.wireWords (s : State) (g : Group) (p : Packet) (h : RingHdr) : List Word32 :=
  ((bodyElems h.wire p.body).zipIdx).map (fun e => wireDec (s.heritage g.part) h.wire
    (((bodyBlks p.body).getD (e.2 / 128) ⟨127, 0, 0#32⟩).scale) e.1)

/-- The flags of a gathered chunk: a reined member that sends it on marks it. -/
def State.gatherFlags (s : State) (g : Group) (h : RingHdr) (more : Bool) : Nat :=
  orBit h.flags cfReined (more && s.reined g.part)

/-- A gathered chunk is taken and noted, and goes on where more members need it. -/
def State.gatherPassed (s : State) (n i : Nat) (p : Packet) (h : RingHdr) (g : Group) (b : RingBucket) (more : Bool) : State :=
  if more then ((s.consumeRx n i).noteReined b (s.gatherFlags g h more)).legSend g (s.bLive g b)
    (RingHdr.toBytes { h with flags := s.gatherFlags g h more } ++ p.body.drop 24)
  else (s.consumeRx n i).noteReined b (s.gatherFlags g h more)

/-- Final headers are taken and noted, and go on where more members need them. -/
def State.headersPassed (s : State) (n i : Nat) (p : Packet) (h : RingHdr) (g : Group) (b : RingBucket) (more : Bool) : State :=
  if more then ((s.consumeRx n i).noteReined b h.flags).legSend g (s.bLive g b) p.body
  else (s.consumeRx n i).noteReined b h.flags

/-- What is not passed on, or may be, is not withheld for want of the downstream's entry. -/
theorem RingBucket.not_withheld {b : RingBucket} {more : Bool} (hentry : more = true → b.downEntry = true) :
    ¬(more = true ∧ b.downEntry = false) := fun ⟨hmore, hclosed⟩ => Bool.false_ne_true (hclosed.symm.trans (hentry hmore))

section
variable {s : State} {n i : Nat} {p : Packet} {h : RingHdr} {g : Group} {b : RingBucket} {more : Bool}
  (hentry : more = true → b.downEntry = true)
include hentry

/-- A member of an ALL_REDUCE writes the decoded words and keeps the chunk's final headers. -/
theorem ringGather_allReduce (due : s.ChunkDue n 1 i p h g b) (hkind : b.kind = 2)
    (hmore : more = (ringNext (s.bLive g b) g.self != finalMember (s.bLive g b) g.n g.self (s.heritage g.part) h.chunk)) :
    ringGather n s = ((((s.gatherPassed n i p h g b more).storeWords (b.result + 16384 * h.chunk) (s.wireWords g p h)).addWritten
      h.group h.chunk).addHeader h.group ⟨h.chunk, h.flags, h.voids, bodyBlks p.body⟩).headersHeld h.group := by
  have hraw : b.kind ≠ 1 := by omega
  have hgathers : b.kind ≠ 0 := by omega
  unfold ringGather
  rw [due.taken]
  simp only [hraw, if_false, ← hmore]
  exact if_neg (not_or.2 ⟨hgathers, RingBucket.not_withheld hentry⟩)

/-- A member of an ALL_GATHER writes the raw chunk. -/
theorem ringGather_allGather (due : s.ChunkDue n 1 i p h g b) (hkind : b.kind = 1) {k : Nat} {d : Int}
    (hkeeper : g.keeper (s.bLive g b) h.chunk = some (k, d)) (hmore : more = (ringNext (s.bLive g b) g.self != k)) :
    ringGather n s = (((s.gatherPassed n i p h g b more).storeChunk (b.result + 16384 * h.chunk)
      ((p.body.drop 24).take 16384)).addWritten h.group h.chunk).fin h.group := by
  unfold ringGather
  rw [due.taken]
  simp only [hkind, hkeeper, if_true, ← hmore]
  exact if_neg (not_or.2 ⟨Nat.one_ne_zero, RingBucket.not_withheld hentry⟩)

theorem ringHeaders_keeps (due : s.ChunkDue n 2 i p h g b) (hkind : b.kind = 0)
    (hmore : more = (ringNext (s.bLive g b) g.self != finalMember (s.bLive g b) g.n g.self (s.heritage g.part) h.chunk)) :
    ringHeaders n s = ((s.headersPassed n i p h g b more).addHeader h.group ⟨h.chunk, h.flags, h.voids, bodyBlks p.body⟩).headersHeld
      h.group := by
  unfold ringHeaders
  rw [due.taken]
  simp only [← hmore]
  exact if_neg (not_or.2 ⟨not_not.2 hkind, RingBucket.not_withheld hentry⟩)

end

theorem ringDeliver_stores {s : State} {n i a : Nat} {p : Packet} {h : RingHdr} {g : Group} {b : RingBucket}
    (due : s.ChunkDue n 3 i p h g b) (hkind : b.kind = 0) (hkept : s.keepAddr g b (s.bLive g b) h.chunk = some a) :
    ringDeliver n s = ((((s.consumeRx n i).noteReined b h.flags).storeWords a ((bodyElems 0 p.body).map (BitVec.ofNat 32))).addWritten
      h.group h.chunk).fin h.group := by
  unfold ringDeliver
  rw [due.taken]
  simp only [hkept]
  exact if_pos hkind

/-! ### The straggler deadline (R282) -/

theorem stragglerDeadline_reports {s : State} {gid : Nat} {g : Group} {b : RingBucket} (hruns : s.ringStands = false)
    (hgroup : s.grp gid = some g) (hb : s.bucket gid = some b) (hon : g.stragglerUs ≠ 0) (hwaits : b.downEntry = false)
    (hactive : b.suspended = false) (hothers : alone (s.bLive g b) = false)
    (hlate : 475 * g.stragglerUs < s.now - b.waitSince) :
    stragglerDeadline gid s = ((((s.put (Fld.redEvent_straggler g.part) 1).redEvent g 0x0907 gid
      (toLE 2 (ringNext (s.bLive g b) g.self) ++ toLE 4 0 ++ toLE 8 b.step)).legSend g (s.bLive g b)
      (markerBody gid 5 1 (ringNext (s.bLive g b) g.self) b.bseq b.epoch)).report gid (ringNext (s.bLive g b) g.self) 1) := by
  have hpast : ¬ s.now - b.waitSince ≤ 475 * g.stragglerUs := Nat.not_le.2 hlate
  unfold stragglerDeadline
  simp only [hgroup, hb, hruns, hon, hwaits, hactive, hothers, hpast, Bool.false_eq_true, or_self, if_false]

/-- Settles O35: each command by the packet that is due to it, and a hop by what folding gives. -/
theorem chunksAreStagedFoldedAndGathered : Obligations.ChunksAreStagedFoldedAndGathered := by
  unfold Obligations.ChunksAreStagedFoldedAndGathered
  refine ⟨?staged, ?folded, ?unstaged, ?stale, ?waits, ?reduced, ?gathered, ?headers, ?delivered, ?straggler⟩
  case staged =>
    intro s n gid b c hl hruns hpick
    exact hl.runs (adderStage_stages hruns hpick)
  case folded =>
    intro s n i p h g b x b1 due hkind hentered hready hfirst hagrees hx hb1
    subst hx
    obtain ⟨hhops, hwire⟩ := s.foldChunk_hop g b p h false
    exact ⟨due.live.runs (ringFold_folds due hkind hentered hfirst hready hagrees hb1), s.foldChunk_adds g b p h false,
      s.foldChunk_voids g b p h false, hhops, hwire⟩
  case unstaged =>
    intro s n i p h g b due hkind hentered hclean hunstaged hfirst
    exact due.live.runs (ringFold_awaitsStaging due hkind hentered hfirst hclean hunstaged)
  case stale =>
    intro s n i p h g due hfate
    exact due.live.runs (due.stale hfate _)
  case waits =>
    intro s n i p h g due hfate
    exact due.live.runs (due.waits hfate _)
  case reduced =>
    intro s n i p h g b more u due hkind hmore hentry hu
    subst hu
    exact due.live.runs (ringGather_allReduce hentry due hkind hmore)
  case gathered =>
    intro s n i p h g b more k d u due hkind hkeeper hmore hentry hu
    subst hu
    exact due.live.runs (ringGather_allGather hentry due hkind hkeeper hmore)
  case headers =>
    intro s n i p h g b more u due hkind hmore hentry hu
    subst hu
    exact due.live.runs (ringHeaders_keeps hentry due hkind hmore)
  case delivered =>
    intro s n i p h g b a due hkind hkept
    exact due.live.runs (ringDeliver_stores due hkind hkept)
  case straggler =>
    intro s gid g b hl hruns hgroup hb hon hwaits hactive hothers hlate
    exact hl.runs (stragglerDeadline_reports hruns hgroup hb hon hwaits hactive hothers hlate)

end Sys2Proof.Machine
end

section
/-!
Steps of the queue, the gate of reset, and what no step undoes: the fuses that only some commands blow and the thermal-trip
latch.
-/
namespace Sys2Proof.Machine

/-! ### One step (R392, R408) -/

theorem State.tick_of_live {s : State} (h : s.Live) : s.tick = { s with now := s.now + 1 } := by
  unfold State.tick
  rw [h]
  rfl

theorem State.tick_of_held {s : State} (h : s.pins.inReset = true) : s.tick = s := if_pos h

/-- Settles O1: a step is exec of the front, and a tick counts one cycle out of reset. -/
theorem theStepRunsTheFrontOfTheQueue : Obligations.TheStepRunsTheFrontOfTheQueue := by
  unfold Obligations.TheStepRunsTheFrontOfTheQueue
  exact ⟨fun _ _ _ hfront => step_of_front hfront,
    fun _ hidle hl => (step_of_idle hidle).trans (congrArg _ (State.tick_of_live hl)),
    fun _ hidle hheld => (step_of_idle hidle).trans (congrArg _ (State.tick_of_held hheld))⟩

/-- In reset a register's write does not reach the register. -/
theorem State.unlessReset_regWrite_held {s : State} {w : Writer} {off v : Nat} {f : State → State} (h : s.pins.inReset = true) :
    State.unlessReset s (fun s => s.regWrite w off v f) = .next s := State.unlessReset_held _ h

theorem State.unlessReset_shared_held {s : State} {w : Writer} {off v : Nat} {f : State → State} (h : s.pins.inReset = true) :
    State.unlessReset s (fun s => if s.mayWriteS w then f s else s.badWrite off v) = .next s := State.unlessReset_held _ h

/-- Settles O3: every command but the ten is behind the gate of reset. -/
theorem commandsWaitOutReset : Obligations.CommandsWaitOutReset := by
  unfold Obligations.CommandsWaitOutReset
  intro c s hheld hassert hrelease hrefclk hsdref hjtag htrip hwarn hglitch hloss hvaux
  cases c with
  | resetAssert resetN => exact absurd rfl (hassert resetN)
  | resetRelease straps ready claims => exact absurd rfl (hrelease straps ready claims)
  | refclkStop => exact absurd rfl hrefclk
  | sdrefLoss cantle => exact absurd rfl (hsdref cantle)
  | jtagInstruction i => exact absurd rfl (hjtag i)
  | thermalTrip die sensor => exact absurd rfl (htrip die sensor)
  | holdWarnAssert => exact absurd rfl hwarn
  | holdWarnGlitch => exact absurd rfl hglitch
  | holdLossAssert => exact absurd rfl hloss
  | vauxLoss => exact absurd rfl hvaux
  | aryRepairReq | aryInject | teSpareCtrl | hsmRetrainReq | hsmMapoutReq | hsmMapoutAck | hsmTest | strmRingTail | strmResync =>
    exact State.unlessReset_regWrite_held hheld
  | strmOpen | strmClose => exact State.unlessReset_shared_held hheld
  | _ => exact State.unlessReset_held _ hheld

/-! ### What no step undoes (R339, R366, R382, R384, R409) -/

theorem State.resetDevice_fuses (s : State) : s.resetDevice.fuses = s.fuses := by
  obtain ⟨hfuses, -⟩ := s.resetDevice_resetTo.outlives
  exact hfuses

theorem resetAssert_fuses (resetN : Bool) (s : State) : (resetAssert resetN s).fuses = s.fuses := by
  unfold resetAssert
  split
  · exact s.resetDevice_fuses
  · exact s.resetDevice_fuses

theorem refclkStop_fuses (s : State) : (refclkStop s).fuses = s.fuses := by
  unfold refclkStop
  split
  · rfl
  · exact s.resetDevice_fuses

theorem recoveryReset_fuses (s : State) : (recoveryReset s).fuses = s.fuses := by
  unfold recoveryReset
  split
  · split
    · exact s.resetDevice_fuses
    · rfl
  · rfl

/-- The commands that program a fuse, and the two writes that may reach one of them. -/
def MayBlow (c : Instr) : Prop :=
  (∃ o, c = .updatePhaseEnd o) ∨ c = .startupReady ∨ (∃ w a g, c = .ownerProgram w a g) ∨ (∃ w a g, c = .ownerRevoke w a g) ∨
    (∃ w a v, c = .registerWrite w a v) ∨ (∃ a0 a1 a2 a3 a4 a5 a6, c = .incomingRdmaWrite a0 a1 a2 a3 a4 a5 a6)

/-- The other commands keep the fuses: the three resets by what a reset keeps, the rest by their masks. -/
theorem exec_fuses {c : Instr} {s t : State} (h : exec c s = .next t) : s.fuses = t.fuses ∨ MayBlow c := by
  obtain ⟨u, hu, hext⟩ := exec_answers c s
  obtain rfl : u = t := by simpa using hu.symm.trans h
  unfold touches at hext
  unfold MayBlow
  split at hext
  case h_1 => exact .inl (hext.fuses rfl).symm
  case h_2 => simp
  case h_3 => simp
  case h_4 => simp
  case h_5 => simp
  case h_6 => simp
  case h_7 => simp
  case h_8 resetN =>
    obtain rfl : resetAssert resetN s = u := by simpa using (exec_resetAssert resetN s).symm.trans h
    exact .inl (resetAssert_fuses resetN s).symm
  case h_9 =>
    obtain rfl : refclkStop s = u := by simpa using (exec_refclkStop s).symm.trans h
    exact .inl (refclkStop_fuses s).symm
  case h_10 =>
    obtain ⟨x, hx, hsame⟩ := State.unlessReset_next s recoveryReset
    obtain rfl : x = u := by simpa using hx.symm.trans h
    obtain rfl | rfl := hsame
    · exact .inl rfl
    · exact .inl (recoveryReset_fuses s).symm
  case h_11 => exact .inl (hext.fuses rfl).symm

/-- Only the loss of VAUX may release THERMTRIP_N. -/
theorem touches_trip {c : Instr} (h : c ≠ .vauxLoss) : (touches c).testBit 22 = false := by
  unfold touches
  split
  case h_1 => exact absurd rfl h
  all_goals rfl

/-- Settles O6: no mask lets the version fall or a revocation go, only VAUX_LOSS has the latch's bit, and only the commands that
blow a fuse have the fuses'. -/
theorem whatIsBlownOrLatchedStays : Obligations.WhatIsBlownOrLatchedStays := by
  unfold Obligations.WhatIsBlownOrLatchedStays
  refine ⟨?blown, ?latched, ?fuses⟩
  case blown =>
    intro s t h
    obtain ⟨u, hu, hext⟩ := step_answers s
    obtain rfl : u = t := by simpa using hu.symm.trans h
    exact ⟨hext.svn, hext.revoked⟩
  case latched =>
    intro s t h htrip hvaux
    obtain ⟨u, hu, hext⟩ := step_answers s
    obtain rfl : u = t := by simpa using hu.symm.trans h
    refine hext.trip ?_ htrip
    cases hfront : s.pending.head? with
    | none => rfl
    | some c => exact touches_trip fun hc => hvaux (by rw [hfront, hc])
  case fuses =>
    intro s t h
    cases hpending : s.pending with
    | nil =>
      rw [step_of_idle hpending] at h
      obtain rfl : s.tick = t := by simpa using h
      exact .inl (s.tick_ext.fuses rfl).symm
    | cons c cs =>
      rw [step_of_front hpending] at h
      exact (exec_fuses h).imp_right fun hc => ⟨c, rfl, hc⟩

end Sys2Proof.Machine
end

section
/-!
The twin's commands: pairing and beats, the mirror that is taken, counted and acknowledged, and handbacks.
-/
namespace Sys2Proof.Machine

/-- Out of reset a gated command answers what its meaning gives, within what its meaning may change. -/
theorem State.Live.answers {M : Nat} {s t : State} {f : State → State} (h : s.Live) (hf : f s = t) (hext : Ext M s (f s)) :
    State.unlessReset s f = .next t ∧ Ext M s t :=
  ⟨h.runs hf, hf ▸ hext⟩

/-- Taking a packet from a port's buffers touches the links only. -/
@[simp] theorem State.consumeRx_snap (s : State) (n i : Nat) : (s.consumeRx n i).snap = s.snap :=
  (State.consumeRx_ext (M₀ := 65536) rfl (.refl _ s)).snap rfl

@[simp] theorem State.consumeRx_now (s : State) (n i : Nat) : (s.consumeRx n i).now = s.now :=
  (State.consumeRx_ext (M₀ := 65536) rfl (.refl _ s)).now rfl

/-! ### Pairing and beats (R287, R288) -/

/-- A notice of port n is taken, and the twin counts as heard. -/
def State.hearNotice (s : State) (n i : Nat) : State :=
  (s.consumeRx n i).setTwin { (s.consumeRx n i).snap.twin with heard := (s.consumeRx n i).now }

theorem State.hearNotice_ext (s : State) (n i : Nat) : Ext 327680 s (s.hearNotice n i) :=
  State.setTwin_ext rfl (State.consumeRx_ext rfl (.refl _ s))

/-- What a HELLO tells of the twin's partitions. -/
def helloParts (k : Nat) (b : List Byte) : List FarPart :=
  (List.range k).map fun k => FarPart.mk (fieldLE b (8 + 32 * k) 8) (fieldLE b (8 + 32 * k + 8) 8)
    (max (fieldLE b (8 + 32 * k + 16) 8) (fieldLE b (8 + 32 * k + 24) 8))

section
variable {s : State} {n i : Nat} {p : Packet}

section
variable (hfind : s.findNotice n 0x10 = some (i, p))
include hfind

theorem twinHello_met (h : s.twinState = 4 ∨ s.twinState = 5) :
    twinHello n s = ((s.hearNotice n i).setTwin { (s.hearNotice n i).snap.twin with
      met := (s.helloFault p.body).isNone && [0, 1, 6].contains (fieldLE p.body 6 1) }).sendHello := by
  unfold twinHello
  simp only [hfind, h, if_true]
  rfl

section
variable (h4 : s.twinState ≠ 4) (h5 : s.twinState ≠ 5)
include h4 h5

theorem twinHello_mismatch {c : Nat} (hfault : s.helloFault p.body = some c) :
    twinHello n s = ((((s.hearNotice n i).put Fld.snapTwinStatus_state 3).put Fld.snapTwinStatus_cause 2).event 0x0A01 none false 0
      (toLE 4 (fieldLE p.body 2 4) ++ toLE 1 c)).dropMirrors.modesUpdate := by
  unfold twinHello
  simp only [hfind, hfault, h4, h5, or_self, if_false]
  rfl

theorem twinHello_pairs (hfault : s.helloFault p.body = none) {u v : State}
    (hu : u = if s.twinState = 0 ∨ s.twinState = 1 then (s.hearNotice n i).sendHello else s.hearNotice n i)
    (hv : v = u.setTwin { u.snap.twin with far := helloParts s.boot.partitions p.body, rx := [], ahead := [] }) :
    twinHello n s =
      (v.put Fld.snapTwinStatus_state
        (if fieldLE p.body 6 1 = 4 ∨ fieldLE p.body 6 1 = 5 then 6 else 2)).sendOwedResets.modesUpdate := by
  subst hu hv
  unfold twinHello
  simp only [hfind, hfault, h4, h5, or_self, if_false]
  rfl

end
end

/-- Meeting or pairing changes registers, what is sent and the twin's record only: no APPLY ends. -/
theorem twinHello_ext_met {t : State} (ht : t = ((s.hearNotice n i).setTwin { (s.hearNotice n i).snap.twin with
      met := (s.helloFault p.body).isNone && [0, 1, 6].contains (fieldLE p.body 6 1) }).sendHello) : Ext 327684 s t := by
  subst ht
  exact State.sendHello_ext rfl (State.setTwin_ext rfl ((s.hearNotice_ext n i).mono rfl))

theorem twinHelloRetry_unpaired (h : s.twinState = 0 ∨ s.twinState = 1 ∨ s.twinState = 3) (hpath : s.twinPath = true) :
    twinHelloRetry s = s.sendHello := if_pos ⟨h, hpath⟩

theorem twinBeatSend_path (hpath : s.twinPath = true) : twinBeatSend s =
    s.sendNotice (toLE 2 0x11 ++ toLE 4 s.node ++ toLE 1 s.twinState ++ toLE 1 (if s.isHeld then 1 else 0) ++
      (List.range s.boot.partitions).flatMap (fun p => toLE 8 ((s.highCommitted p).getD 0))) := if_pos hpath

theorem twinBeat_taken (hfind : s.findNotice n 0x11 = some (i, p)) : twinBeat n s =
    (s.consumeRx n i).setTwin { (s.consumeRx n i).snap.twin with
      heard := (s.consumeRx n i).now
      far := ((s.consumeRx n i).snap.twin.far.zipIdx).map (fun e => { e.1 with high := fieldLE p.body (8 + 8 * e.2) 8 }) } := by
  unfold twinBeat
  simp only [hfind]

theorem beatLimit_passed (hstate : s.twinState = 2 ∨ s.twinState = 6) (hpast : 47500 * s.beatLimit ≤ s.now - s.snap.twin.heard) :
    beatLimit s = s.twinFail 4 := if_pos ⟨hstate, hpast⟩

theorem beatLimit_within (hnow : s.now - s.snap.twin.heard < 47500 * s.beatLimit) : beatLimit s = s :=
  if_neg fun h => absurd h.2 (Nat.not_le.2 hnow)

theorem twinFailedNotice_taken (hfind : s.findNotice n 0x12 = some (i, p)) :
    twinFailedNotice n s = (s.consumeRx n i).twinFail (min 3 (fieldLE p.body 6 1)) := by
  unfold twinFailedNotice
  simp only [hfind]

end

/-- Settles O36: each command by its equation in the case at hand, with what that case may change. -/
theorem twinsPairBeatAndFail : Obligations.TwinsPairBeatAndFail := by
  unfold Obligations.TwinsPairBeatAndFail
  refine ⟨?mismatch, ?pairs, ?met, ?retry, ?beatSend, ?beat, ?limit, ?within, ?failed⟩
  case mismatch =>
    intro s n i p c t hl hfind h4 h5 hfault ht
    obtain ⟨hrun, hext⟩ := hl.answers (M := 327876) ((twinHello_mismatch hfind h4 h5 hfault).trans ht.symm)
      (twinHello_ext rfl (.refl _ s))
    exact ⟨hrun, hext.sameHbm rfl, hext.red rfl⟩
  case pairs =>
    intro s n i p u v t hl hfind h4 h5 hfault hu hv ht
    have hrun := hl.runs ((twinHello_pairs hfind h4 h5 hfault hu hv).trans ht.symm)
    have hextu : Ext 327684 s u := by
      rw [hu]
      exact .ite (State.sendHello_ext rfl ((s.hearNotice_ext n i).mono rfl)) ((s.hearNotice_ext n i).mono rfl)
    have hext : Ext 327684 s t := by
      rw [ht, hv]
      exact State.modesUpdate_ext rfl (State.sendOwedResets_ext rfl (State.put_ext rfl (State.setTwin_ext rfl hextu)))
    obtain ⟨hhbm, hctl⟩ := hext.sparesHbmAndCtl rfl
    exact ⟨hrun, hhbm, hctl, hext.red rfl⟩
  case met =>
    intro s n i p t hl hfind hstate ht
    have hrun := hl.runs ((twinHello_met hfind hstate).trans ht.symm)
    obtain ⟨hhbm, hctl⟩ := (twinHello_ext_met ht).sparesHbmAndCtl rfl
    exact ⟨hrun, hhbm, hctl, (twinHello_ext_met ht).red rfl⟩
  case retry =>
    intro s t hl hstate hpath ht
    obtain ⟨hrun, hext⟩ := hl.answers (M := 65540) ((twinHelloRetry_unpaired hstate hpath).trans ht.symm)
      (twinHelloRetry_ext rfl (.refl _ s))
    exact ⟨hrun, hext.sameHbm rfl, hext.ctl rfl, hext.snap rfl⟩
  case beatSend =>
    intro s t hl hpath ht
    obtain ⟨hrun, hext⟩ := hl.answers (M := 65536) ((twinBeatSend_path hpath).trans ht.symm) (twinBeatSend_ext rfl (.refl _ s))
    exact ⟨hrun, hext.sameHbm rfl, hext.ctl rfl, hext.regs rfl, hext.snap rfl⟩
  case beat =>
    intro s n i p t hl hfind ht
    obtain ⟨hrun, hext⟩ := hl.answers (M := 327680) ((twinBeat_taken hfind).trans ht.symm) (twinBeat_ext rfl (.refl _ s))
    refine ⟨hrun, ?_, hext.sameHbm rfl, hext.ctl rfl, hext.regs rfl⟩
    rw [ht]
    exact s.consumeRx_now n i
  case limit =>
    intro s t hl hstate hpast ht
    exact hl.runs ((beatLimit_passed hstate hpast).trans ht.symm)
  case within =>
    intro s t hl hnow ht
    exact hl.runs ((beatLimit_within hnow).trans ht.symm)
  case failed =>
    intro s n i p t hl hfind ht
    exact hl.runs ((twinFailedNotice_taken hfind).trans ht.symm)

/-! ### The mirror, receiving (R291, R292, R317) -/

section
variable {s : State} {n i p : Nat} {pk : Packet} {h : MirrorHdr}

section
variable (hfind : s.findMirror n false = some (i, pk)) (hpart : s.packetPart pk = some p) (hstands : s.ringStands = false)
  (hh : h = MirrorHdr.ofBytes pk.body)
include hfind hpart hstands hh

/-- A run in the evaluation window is discarded with its event. -/
theorem mirrorData_inWindow (hwindow : s.inWindow p h.addr ((pk.body.drop 0x20).take h.bytes).length = true) :
    mirrorData n s = (s.consumeRx n i).evalWinEvent p 0 n h.addr := by
  subst hh
  unfold mirrorData
  simp only [hfind, hpart, hstands, hwindow, Bool.false_eq_true, if_false, if_true]

section
variable (hwindow : s.inWindow p h.addr ((pk.body.drop 0x20).take h.bytes).length = false)
include hwindow

theorem mirrorData_refused (hbuf : s.mirrorBuf p h.addr ((pk.body.drop 0x20).take h.bytes).length = none ∨
      ∃ b, s.mirrorBuf p h.addr ((pk.body.drop 0x20).take h.bytes).length = some b ∧ s.bufHighest p b = true) :
    mirrorData n s = (s.consumeRx n i).sendMirrorAck p pk.job h.mseq 1 h.step := by
  subst hh
  unfold mirrorData
  obtain hnone | ⟨b, hb, hhighest⟩ := hbuf
  · simp only [hfind, hpart, hstands, hwindow, hnone, Bool.false_eq_true, if_false]
  · simp only [hfind, hpart, hstands, hwindow, hb, hhighest, Bool.false_eq_true, if_false, if_true]

theorem mirrorData_stored {b : Nat} {u : State} (hb : s.mirrorBuf p h.addr ((pk.body.drop 0x20).take h.bytes).length = some b)
    (hbuf : s.bufHighest p b = false)
    (hu : u = ((((s.consumeRx n i).fillBuf p b h.step).store h.addr ((pk.body.drop 0x20).take h.bytes)).countRemote h.addr
      ((pk.body.drop 0x20).take h.bytes).length).noteMseq p h.mseq) :
    mirrorData n s = if 64 ≤ Sparse.get zeroD u.snap.twin.due p then u.sendMirrorAck p pk.job (u.lastMseq p) 0 h.step else u := by
  subst hh hu
  unfold mirrorData
  simp only [hfind, hpart, hstands, hwindow, hb, hbuf, Bool.false_eq_true, if_false]

end
end

section
variable (hfind : s.findMirror n true = some (i, pk)) (hpart : s.packetPart pk = some p) (hstands : s.ringStands = false)
  (hh : h = MirrorHdr.ofBytes pk.body)
include hfind hpart hstands hh

theorem mirrorCommit_refused
    (hbuf : s.mirrorBuf p h.addr 1 = none ∨ ∃ b, s.mirrorBuf p h.addr 1 = some b ∧ s.bufHighest p b = true) :
    mirrorCommit n s = (s.consumeRx n i).sendMirrorAck p pk.job h.mseq 1 h.step := by
  subst hh
  unfold mirrorCommit
  obtain hnone | ⟨b, hb, hhighest⟩ := hbuf
  · simp only [hfind, hpart, hstands, hnone, Bool.false_eq_true, if_false]
  · simp only [hfind, hpart, hstands, hb, hhighest, Bool.false_eq_true, if_false, if_true]

theorem mirrorCommit_counted {b : Nat} {u : State} {full : Bool} (hb : s.mirrorBuf p h.addr 1 = some b)
    (hbuf : s.bufHighest p b = false) (hcount : ((s.consumeRx n i).noteMseq p h.mseq).countBuf p b h.step h.bytes = (u, full)) :
    mirrorCommit n s = u.sendMirrorAck p pk.job (u.lastMseq p) (if full then 2 else 0) h.step := by
  subst hh
  unfold mirrorCommit
  simp only [hfind, hpart, hstands, hb, hbuf, hcount, Bool.false_eq_true, if_false]

end

theorem mirrorAckTimer_due (hheld : s.isHeld = false) (hdue : Sparse.get zeroD s.snap.twin.due p ≠ 0) : mirrorAckTimer p s =
    s.sendMirrorAck p (s.jobOf p) (s.lastMseq p) 0 (s.f (mirrorStepF p (if s.f (mirrorStateF p 0) = 1 then 0 else 1))) :=
  if_neg (by simp [hheld, hdue])

/-- An acknowledgement sent leaves none due. -/
theorem State.sendMirrorAck_due (s : State) (p job m flags step : Nat) :
    Sparse.get zeroD (s.sendMirrorAck p job m flags step).snap.twin.due p = 0 := by
  have hsnap : (s.sendMirrorAck p job m flags step).snap =
      (s.setTwin { s.snap.twin with due := Sparse.put zeroD s.snap.twin.due p 0 }).snap :=
    (State.sendBoard_ext (M₀ := 65536) rfl (.refl _ _)).snap rfl
  rw [hsnap]
  exact Sparse.get_put_self zeroD s.snap.twin.due p 0

/-! ### The mirror, sending (R291, R292) -/

/-- An APPLY of partition p whose COMMIT the acknowledgement m covers. -/
def ApplyRun.committedBy (x : ApplyRun) (p m : Nat) : Bool :=
  x.part == p && (match x.commit with | some c => seqCovered m c | none => false)

section
variable (hfind : s.findRx n (fun p => p.kind == 0x20 && testBit p.kflags 0 && p.dest == s.node) = some (i, pk))
  (hpart : s.packetPart pk = some p) (hstands : s.ringStands = false)
include hfind hpart hstands

theorem mirrorAck_refuses (hflag : testBit (fieldLE pk.body 4 1) 0 = true) {x : ApplyRun}
    (hx : s.snap.twin.applies.find? (fun x => x.part == p && (x.unacked.contains (fieldLE pk.body 0 4) ||
      x.commit == some (fieldLE pk.body 0 4))) = some x) : mirrorAck n s = (s.consumeRx n i).applyEnd x Res.badField := by
  unfold mirrorAck
  simp only [hfind, hpart, hstands, hflag, State.consumeRx_snap, hx, Bool.false_eq_true, if_false, if_true]

theorem mirrorAck_covers (hflag : testBit (fieldLE pk.body 4 1) 0 = false) {r u : State}
    (hr : r = (s.consumeRx n i).setTwin { s.snap.twin with applies := s.snap.twin.applies.map (fun x =>
      if x.part = p then { x with unacked := x.unacked.filter (fun a => !seqCovered (fieldLE pk.body 0 4) a) } else x) })
    (hu : u = if testBit (fieldLE pk.body 4 1) 1 then
        (r.setTwin { r.snap.twin with committed := Sparse.put (fun _ => false) r.snap.twin.committed p true }).wr
          (Reg.snapOutStep p)
          (fieldLE pk.body 8 8) else r) :
    mirrorAck n s = (((u.snap.twin.applies.filter (fun x => x.committedBy p (fieldLE pk.body 0 4))).foldl
      (fun t x => t.applyEnd x Res.ok) u).sendCommits).modeUpdate p := by
  subst hr hu
  unfold mirrorAck
  simp only [hfind, hpart, hstands, hflag, State.consumeRx_snap, Bool.false_eq_true, if_false]
  rfl

end
end

/-! ### A reset of the mirror (R315) -/

/-- Both buffers of partition p are empty. -/
def State.emptyBufs (s : State) (p : Nat) : State :=
  (((s.put (mirrorStateF p 0) 0).put (mirrorStateF p 1) 0).put (mirrorStepF p 0) 0).put (mirrorStepF p 1) 0

theorem mirrorReset_partition {s : State} {n i : Nat} {pk : Packet} {p : Nat} (hfind : s.findNotice n 0x15 = some (i, pk))
    (hp : fieldLE pk.body 2 1 = p) (hlt : p < 4) : mirrorReset n s = (s.consumeRx n i).emptyBufs p := by
  subst hp
  unfold mirrorReset
  simp only [hfind, Nat.not_le.2 hlt, if_false]
  rfl

theorem snapMirrorStep0_ne_snapMirrorStep1 (p : Nat) : Reg.snapMirrorStep0 p ≠ Reg.snapMirrorStep1 p := by
  unfold Reg.snapMirrorStep0 Reg.snapMirrorStep1
  omega

theorem State.emptyBufs_bufCommitted (s : State) (p : Nat) :
    (s.emptyBufs p).bufCommitted p 0 = none ∧ (s.emptyBufs p).bufCommitted p 1 = none := by
  have hne := snapMirrorStep0_ne_snapMirrorStep1 p
  have h0 : (s.emptyBufs p).f (Fld.snapMirrorStep0_state p) = 0 := by
    refine (State.f_put_ne _ _ hne).trans ?_
    refine (State.f_put_sep (r := Fld.snapMirrorStep0_step p) (q := Fld.snapMirrorStep0_state p) _ _ (by decide : 0 + 62 ≤ 64)
      (.inr (by decide : 0 + 62 ≤ 62))).trans ?_
    refine (State.f_put_ne _ _ hne).trans ?_
    exact State.f_put_self (r := Fld.snapMirrorStep0_state p) _ 0 (by decide : 62 + 2 ≤ 64)
  have h1 : (s.emptyBufs p).f (Fld.snapMirrorStep1_state p) = 0 := by
    refine (State.f_put_sep (r := Fld.snapMirrorStep1_step p) (q := Fld.snapMirrorStep1_state p) _ _ (by decide : 0 + 62 ≤ 64)
      (.inr (by decide : 0 + 62 ≤ 62))).trans ?_
    refine (State.f_put_ne _ _ hne.symm).trans ?_
    exact State.f_put_self (r := Fld.snapMirrorStep1_state p) _ 0 (by decide : 62 + 2 ≤ 64)
  exact ⟨if_neg (by rw [show mirrorStateF p 0 = Fld.snapMirrorStep0_state p from rfl, h0]; decide),
    if_neg (by rw [show mirrorStateF p 1 = Fld.snapMirrorStep1_state p from rfl, h1]; decide)⟩

/-- Settles O37: each command by its equation in the case at hand, with what that case may change. -/
theorem theMirrorTakesCountsAndAcknowledges : Obligations.TheMirrorTakesCountsAndAcknowledges := by
  unfold Obligations.TheMirrorTakesCountsAndAcknowledges
  refine ⟨?window, ?refused, ?stored, ?commitRefused, ?counted, ?timer, ?ackRefuses, ?ackCovers, ?reset⟩
  case window =>
    intro s n i pk p h t hl hfind hpart hstands hh hwindow ht
    have hrun := hl.runs ((mirrorData_inWindow hfind hpart hstands hh hwindow).trans ht.symm)
    have hext : Ext 65668 s t := ht ▸ State.evalWinEvent_ext rfl (State.consumeRx_ext rfl (.refl _ s))
    exact ⟨hrun, hext.sameHbm rfl, hext.ctl rfl, hext.red rfl⟩
  case refused =>
    intro s n i pk p h t hl hfind hpart hstands hh hwindow hbuf ht
    have hrun := hl.runs ((mirrorData_refused hfind hpart hstands hh hwindow hbuf).trans ht.symm)
    have hext : Ext 327680 s t := ht ▸ State.sendMirrorAck_ext rfl (State.consumeRx_ext rfl (.refl _ s))
    exact ⟨hrun, hext.sameHbm rfl, hext.ctl rfl, hext.regs rfl, hext.red rfl⟩
  case stored =>
    intro s n i pk p h b u t hl hfind hpart hstands hh hwindow hb hbuf hu ht
    obtain ⟨hrun, hext⟩ := hl.answers (M := 327860) ((mirrorData_stored hfind hpart hstands hh hwindow hb hbuf hu).trans ht.symm)
      (mirrorData_ext rfl (.refl _ s))
    exact ⟨hrun, hext.ctl rfl, hext.red rfl⟩
  case commitRefused =>
    intro s n i pk p h t hl hfind hpart hstands hh hbuf ht
    obtain ⟨hrun, hext⟩ := hl.answers (M := 327812) ((mirrorCommit_refused hfind hpart hstands hh hbuf).trans ht.symm)
      (mirrorCommit_ext rfl (.refl _ s))
    exact ⟨hrun, hext.ctl rfl, hext.red rfl, hext.mem rfl⟩
  case counted =>
    intro s n i pk p h b u full t hl hfind hpart hstands hh hb hbuf hcount ht
    obtain ⟨hrun, hext⟩ := hl.answers (M := 327812) ((mirrorCommit_counted hfind hpart hstands hh hb hbuf hcount).trans ht.symm)
      (mirrorCommit_ext rfl (.refl _ s))
    exact ⟨hrun, hext.ctl rfl, hext.red rfl, hext.mem rfl⟩
  case timer =>
    intro s p t hl hheld hdue ht
    obtain ⟨hrun, hext⟩ := hl.answers (M := 327680) ((mirrorAckTimer_due hheld hdue).trans ht.symm)
      (mirrorAckTimer_ext rfl (.refl _ s))
    exact ⟨hrun, ht ▸ s.sendMirrorAck_due _ _ _ _ _, hext.ctl rfl, hext.red rfl, hext.mem rfl, hext.regs rfl⟩
  case ackRefuses =>
    intro s n i pk p x t hl hfind hpart hstands hflag hx ht
    obtain ⟨hrun, hext⟩ := hl.answers (M := 327876) ((mirrorAck_refuses hfind hpart hstands hflag hx).trans ht.symm)
      (mirrorAck_ext rfl (.refl _ s))
    exact ⟨hrun, hext.mem rfl, hext.red rfl⟩
  case ackCovers =>
    intro s n i pk p r u t hl hfind hpart hstands hflag hr hu ht
    obtain ⟨hrun, hext⟩ := hl.answers (M := 327876) ((mirrorAck_covers hfind hpart hstands hflag hr hu).trans ht.symm)
      (mirrorAck_ext rfl (.refl _ s))
    exact ⟨hrun, hext.mem rfl, hext.red rfl⟩
  case reset =>
    intro s n i pk p t hl hfind hp ht
    obtain ⟨hrun, hext⟩ := hl.answers (M := 65540) ((mirrorReset_partition hfind hp p.isLt).trans ht.symm)
      (mirrorReset_ext rfl (.refl _ s))
    obtain ⟨hnone0, hnone1⟩ := (s.consumeRx n i).emptyBufs_bufCommitted p
    exact ⟨hrun, ht ▸ hnone0, ht ▸ hnone1, hext.mem rfl, hext.ctl rfl, hext.red rfl, hext.snap rfl⟩

/-! ### Handbacks are asked for (R298) -/

section
variable {s : State} {n i p : Nat} {pk : Packet}

section
variable (hfind : s.findNotice n 0x13 = some (i, pk)) (hheld : s.isHeld = false) (hp : fieldLE pk.body 2 1 = p)
include hfind hheld hp

theorem handbackReq_badList (hlist : s.boot.partitions ≤ p ∨ s.handbackList (fieldLE pk.body 3 8) = none) :
    handbackReq n s = (s.consumeRx n i).sendNotice (toLE 2 0x14 ++ toLE 1 p ++ toLE 1 Res.badField) := by
  have hnone : (if p < s.boot.partitions then s.handbackList (fieldLE pk.body 3 8) else none) = none := by
    obtain hout | hnone := hlist
    · exact if_neg (Nat.not_lt.2 hout)
    · rw [hnone, ite_self]
  unfold handbackReq
  simp only [hfind, hheld, hp, hnone, Bool.false_eq_true, if_false]

/-- Every range listed is the partition's, and no operation in flight writes it. -/
def State.handbackOk (s : State) (p : Nat) (es : List (Nat × Nat × Nat × Nat)) : Bool :=
  es.all (fun e => s.ownsRange p e.1 e.2.2.1 && (e.2.2.2 == 1 || (s.mirrorBuf p e.1 e.2.2.1).isSome) &&
    !(s.inFlight.any (fun o => s.opPart o.2 == p && s.writesScope [(e.1, e.2.2.1)] o.2)))

variable {es : List (Nat × Nat × Nat × Nat)} (hlt : p < s.boot.partitions) (hlist : s.handbackList (fieldLE pk.body 3 8) = some es)
include hlt hlist

theorem handbackReq_sends (hok : s.handbackOk p es = true) :
    handbackReq n s = (es.foldl (fun t e => ((chunks 16384 (t.bytes e.1 e.2.2.1)).zipIdx).foldl (fun t c =>
      (t.sendBoard (t.position ^^^ 1)
        (t.mkPacket (t.jobOf p) 0x21 t.twinNode (toLE 8 (e.2.1 + 16384 * c.2) ++ c.1)) none).countRemote
        (e.1 + 16384 * c.2) c.1.length) t) (s.consumeRx n i)).sendNotice (toLE 2 0x14 ++ toLE 1 p ++ toLE 1 Res.ok) := by
  unfold handbackReq
  unfold State.handbackOk at hok
  simp only [hfind, hheld, hp, hlt, hlist, hok, Bool.false_eq_true, if_false, if_true]

theorem handbackReq_refuses (hok : s.handbackOk p es = false) :
    handbackReq n s = (s.consumeRx n i).sendNotice (toLE 2 0x14 ++ toLE 1 p ++ toLE 1 Res.badField) := by
  unfold handbackReq
  unfold State.handbackOk at hok
  simp only [hfind, hheld, hp, hlt, hlist, hok, Bool.false_eq_true, if_false, if_true]

end

/-! ### A request ends (R297, R298) -/

section
variable (hfind : s.findNotice n 0x14 = some (i, pk)) (hp : fieldLE pk.body 2 1 = p) (hlt : p < 4)
  (hrestore : ∀ x, s.snap.restore = some x → x.part ≠ p) (hgo : s.flag (Fld.snapHandback_go p) = true)
include hfind hp hlt hrestore hgo

theorem handbackDone_ends : handbackDone n s =
    if fieldLE pk.body 3 1 = 0 then
      (((s.consumeRx n i).put (Fld.snapHandback_go p) 0).groupsOf (fun g => g.part == p && g.waitHandback)).foldl
        (fun t e => t.setGrp e.1 (some { e.2 with waitHandback := false }))
        (((s.consumeRx n i).put (Fld.snapHandback_go p) 0).put (Fld.snapHandback_done p) 1)
    else ((s.consumeRx n i).put (Fld.snapHandback_go p) 0).put (Fld.snapHandback_refused p) 1 := by
  have hgo' : (s.consumeRx n i).flag (Fld.snapHandback_go p) = true := by
    unfold State.flag at hgo ⊢
    rw [State.consumeRx_f, hgo]
  unfold handbackDone
  simp only [hfind, hp, Nat.not_le.2 hlt, if_false, State.consumeRx_snap]
  cases hr : s.snap.restore with
  | none => simp only [hgo', Bool.true_eq_false, if_false]
  | some x => simp only [hrestore x hr, false_and, hgo', Bool.true_eq_false, if_false]

end
end

/-! ### A write of SNAP_HANDBACK_n (R298) -/

/-- What a write of SNAP_HANDBACK_n clears, and the list it takes. -/
def State.handbackTaken (s : State) (n v : Nat) : State :=
  (if testBit v 2 then (if testBit v 1 then s.put (Fld.snapHandback_done n) 0 else s).put (Fld.snapHandback_refused n) 0
    else if testBit v 1 then s.put (Fld.snapHandback_done n) 0 else s).put (Fld.snapHandback_list n) (bits v 6 58)

section
variable {s u : State} {w : Writer} {n v : Nat} (haccepts : s.Accepts w (Reg.snapHandback n) v) (hu : u = s.handbackTaken n v)
include haccepts hu

theorem handbackGoWrite_taken : handbackGoWrite w n v s =
    if testBit v 0 ∧ u.flag (Fld.snapHandback_go n) = false then u.handbackGo n else u := by
  subst hu
  exact State.regWrite_ok _ haccepts

theorem handbackGoWrite_noGo (hgo : testBit v 0 = false ∨ u.flag (Fld.snapHandback_go n) = true) : handbackGoWrite w n v s = u :=
  (handbackGoWrite_taken haccepts hu).trans (if_neg (by simpa [imp_iff_not_or] using hgo))

section
variable (hbit : testBit v 0 = true) (hgo : u.flag (Fld.snapHandback_go n) = false)
include hbit hgo

theorem handbackGoWrite_asks {x : State} (hx : u.askHandback n (u.rd (Reg.snapHandback n) / 64 * 64) = some x) :
    handbackGoWrite w n v s = x.put (Fld.snapHandback_go n) 1 := by
  rw [handbackGoWrite_taken haccepts hu, if_pos ⟨hbit, hgo⟩]
  unfold State.handbackGo
  rw [hx]

theorem handbackGoWrite_refused (hx : u.askHandback n (u.rd (Reg.snapHandback n) / 64 * 64) = none) :
    handbackGoWrite w n v s = (u.put (Fld.snapHandback_go n) 0).put (Fld.snapHandback_refused n) 1 := by
  rw [handbackGoWrite_taken haccepts hu, if_pos ⟨hbit, hgo⟩]
  unfold State.handbackGo
  rw [hx]

end
end

/-- Settles O38: each command by its equation in the case at hand, with what that case may change. -/
theorem handbacksAreAskedAndAnswered : Obligations.HandbacksAreAskedAndAnswered := by
  unfold Obligations.HandbacksAreAskedAndAnswered
  refine ⟨?badList, ?sends, ?refuses, ?done, ?refused, ?noGo, ?asks, ?goRefused⟩
  case badList =>
    intro s n i pk p t hl hfind hheld hp hlist ht
    have hrun := hl.runs ((handbackReq_badList hfind hheld hp hlist).trans ht.symm)
    have hext : Ext 65536 s t := ht ▸ State.sendNotice_ext rfl (State.consumeRx_ext rfl (.refl _ s))
    exact ⟨hrun, hext.sameHbm rfl, hext.regs rfl, hext.ctl rfl, hext.snap rfl⟩
  case sends =>
    intro s n i pk p es t hl hfind hheld hp hlt hlist hok ht
    obtain ⟨hrun, hext⟩ := hl.answers (M := 65540) ((handbackReq_sends hfind hheld hp hlt hlist hok).trans ht.symm)
      (handbackReq_ext rfl (.refl _ s))
    exact ⟨hrun, hext.sameHbm rfl, hext.ctl rfl, hext.snap rfl⟩
  case refuses =>
    intro s n i pk p es t hl hfind hheld hp hlt hlist hok ht
    have hrun := hl.runs ((handbackReq_refuses hfind hheld hp hlt hlist hok).trans ht.symm)
    have hext : Ext 65536 s t := ht ▸ State.sendNotice_ext rfl (State.consumeRx_ext rfl (.refl _ s))
    exact ⟨hrun, hext.sameHbm rfl, hext.regs rfl, hext.ctl rfl, hext.snap rfl⟩
  case done =>
    intro s n i pk p t hl hfind hp hrestore hgo hok ht
    obtain ⟨hrun, hext⟩ := hl.answers (M := 458756)
      (((handbackDone_ends hfind hp p.isLt hrestore hgo).trans (if_pos hok)).trans ht.symm) (handbackDone_ext rfl (.refl _ s))
    exact ⟨hrun, hext.sameHbm rfl, hext.ctl rfl⟩
  case refused =>
    intro s n i pk p t hl hfind hp hrestore hgo hbad ht
    have hrun := hl.runs (((handbackDone_ends hfind hp p.isLt hrestore hgo).trans (if_neg hbad)).trans ht.symm)
    have hext : Ext 65540 s t := ht ▸ State.put_ext rfl (State.put_ext rfl (State.consumeRx_ext rfl (.refl _ s)))
    exact ⟨hrun, hext.red rfl, hext.sameHbm rfl, hext.ctl rfl⟩
  case noGo =>
    intro s w n v u t hl haccepts hu hgo ht
    obtain ⟨hrun, hext⟩ := hl.answers (M := 65668) ((handbackGoWrite_noGo haccepts hu hgo).trans ht.symm)
      (handbackGoWrite_ext rfl (.refl _ s))
    exact ⟨hrun, hext.sameHbm rfl, hext.ctl rfl⟩
  case asks =>
    intro s w n v u x t hl haccepts hu hbit hgo hx ht
    obtain ⟨hrun, hext⟩ := hl.answers (M := 65668) ((handbackGoWrite_asks haccepts hu hbit hgo hx).trans ht.symm)
      (handbackGoWrite_ext rfl (.refl _ s))
    exact ⟨hrun, hext.sameHbm rfl, hext.ctl rfl⟩
  case goRefused =>
    intro s w n v u t hl haccepts hu hbit hgo hx ht
    obtain ⟨hrun, hext⟩ := hl.answers (M := 65668) ((handbackGoWrite_refused haccepts hu hbit hgo hx).trans ht.symm)
      (handbackGoWrite_ext rfl (.refl _ s))
    exact ⟨hrun, hext.sameHbm rfl, hext.ctl rfl⟩

end Sys2Proof.Machine
end

section
/-!
Snapshots, the flash log, restores, the evaluation window and the lease: what each command's equation is in the case at hand.
-/
namespace Sys2Proof.Machine

/-! ### A stop is captured and sealed (R303) -/

/-- Partition p's stop with its metadata written. -/
def State.captured (s : State) (p : Nat) (r : StopRun) (has : Bool) : State :=
  ((((s.store (s.metaArea p r.k)
    (s.imageHeader p r (if has then 1 else 0) ((s.metaSections p has).length + 16 * r.regions.length) ++
    s.metaSections p has)).putB (Fld.snapSlotState_step_record (4 * p + r.k)) has).wr (Reg.snapSlotStep (4 * p + r.k))
    (s.rd (Reg.stepN p))).put (slotStateF (4 * p + r.k)) 1).setStop p (some { r with captured := true })

/-- Partition p's slot sealed and its SNAPSHOT ended. -/
def State.sealed (s : State) (p : Nat) (r : StopRun) : State :=
  (((s.sealCopy p r).1.sealSlot p r (s.sealCopy p r).2).addDetail r.slot
    ((r.regions.map Prod.snd).foldl (· + ·) 0)).finish r.slot Res.ok

section
variable {s : State} {p : Nat} {r : StopRun} (hstop : s.stopOf p = some r)
include hstop

theorem snapshotQuiesced_captures {has : Bool} (hnew : r.captured = false) (hidle : s.partBusy p = false)
    (hserves : s.serving = true)
    (hhas : has = (testBit r.options 1 && (s.lastStepRecord p).isSome)) : snapshotQuiesced p s = s.captured p r has := by
  subst hhas
  unfold snapshotQuiesced
  simp only [hstop, hnew, hidle, hserves, Bool.false_eq_true, Bool.true_eq_false, or_self, if_false]
  rfl

theorem snapshotSeal_captured (hcaptured : r.captured = true) (hserves : s.serving = true) : snapshotSeal p s =
    if testBit r.options 0 then
      (((s.sealed p r).put (slotStateF (4 * p + r.k)) 4).setFlash { (s.sealed p r).snap.flash with
        draining := (s.sealed p r).snap.flash.draining ++ [4 * p + r.k] }).flashShow
    else s.sealed p r := by
  unfold snapshotSeal
  simp only [hstop, hcaptured, hserves, Bool.true_eq_false, or_self, if_false]
  rfl

end

/-! ### The flash log (R305 to R308) -/

@[simp] theorem State.setFlash_f (s : State) (f : Flash) (q : FieldRef) : (s.setFlash f).f q = s.f q := State.setSnap_f _ _ _

@[simp] theorem State.flashShow_snap (s : State) : s.flashShow.snap = s.snap :=
  (State.flashShow_ext (M₀ := 4) rfl (.refl _ s)).snap rfl

section
variable {s : State} {i : Nat} (hdrains : s.snap.flash.draining.contains i = true) (hsave : s.f Fld.thmSaveStatus_state = 0)
  (hheld : s.isHeld = false)
include hdrains hsave hheld

theorem State.drainRuns : ¬ (s.snap.flash.draining.contains i = false ∨ s.f Fld.thmSaveStatus_state ≠ 0 ∨ s.isHeld = true) := by
  rw [hdrains, hsave, hheld]
  decide

theorem drainComplete_noKey (hkey : s.key (s.f (Fld.snapCfg_drain_key_slot (i / 4))) = none) : drainComplete i s =
    (((s.put (slotStateF i) 2).setFlash { s.snap.flash with draining := s.snap.flash.draining.filter (· != i) }).flashShow).generic
      Blk.snap (some (i / 4)) i (s.rd (Reg.snapSlotId i)) Res.badField := by
  unfold drainComplete
  simp only [if_neg (State.drainRuns hdrains hsave hheld), hkey]
  rfl

section
variable {key : List Byte} {pl : List (LogRec × List Byte) × Nat} {rs log : List LogRec}
  (hkey : s.key (s.f (Fld.snapCfg_drain_key_slot (i / 4))) = some key)
  (hpl : pl = placeLog (s.rd Reg.snapFlashCap) s.snap.flash.tail s.snap.flash.nextSeq (imageRecords (s.rd (Reg.snapSlotId i))
    (s.f (Fld.snapCfg_drain_key_slot (i / 4))) (fieldLE (s.saddleImage (i / 4) (i % 4)) 2 1) (s.saddleImage (i / 4) (i % 4))
    s.snap.flash.nextSeq))
  (hrs : rs = pl.1.map (fun e => if e.1.typ = 4 then e.1 else e.1.seal key e.2))
  (hlog : log = trimLog (logBytes (s.rd Reg.snapFlashCap) rs) (s.rd Reg.snapFlashCap)
    (fun x => s.snap.flash.pins.contains x || s.snap.flash.ships.any (fun h => h.id == x)) s.snap.flash.log.length s.snap.flash.log)
include hkey hpl hrs hlog

theorem drainComplete_written
    (hroom : logBytes (s.rd Reg.snapFlashCap) rs + logBytes (s.rd Reg.snapFlashCap) log ≤ s.rd Reg.snapFlashCap)
    {f : Flash} (hf : f = { s.snap.flash with
      log := log ++ rs
      nextSeq := s.snap.flash.nextSeq + rs.length
      tail := pl.2
      ends := ((log ++ rs).head?.elim 0 LogRec.at_, pl.2)
      anchor := Sparse.put zeroD s.snap.flash.anchor (i / 4) (Sparse.get zeroD s.snap.flash.next (i / 4)) }) :
    drainComplete i s =
      (((s.setFlash f).put (slotStateF i) 5).setFlash { f with draining := f.draining.filter (· != i) }).flashShow := by
  unfold drainComplete
  simp only [if_neg (State.drainRuns hdrains hsave hheld), hkey, ← hpl, ← hrs, ← hlog, if_pos hroom]
  subst hf
  rfl

theorem drainComplete_noRoom
    (hfull : s.rd Reg.snapFlashCap < logBytes (s.rd Reg.snapFlashCap) rs + logBytes (s.rd Reg.snapFlashCap) log) :
    drainComplete i s =
      (((((s.setFlash { s.snap.flash with log := log }).put (slotStateF i) 2).put Fld.snapFlashStatus_full 1).setFlash
        { s.snap.flash with log := log, draining := s.snap.flash.draining.filter (· != i) }).flashShow).event
        0x0A04 (some (i / 4)) (s.partCantle (i / 4)) 0 (toLE 8 (s.rd (Reg.snapSlotId i))) := by
  unfold drainComplete
  simp only [if_neg (State.drainRuns hdrains hsave hheld), hkey, ← hpl, ← hrs, ← hlog, if_neg (Nat.not_le.2 hfull)]
  rfl

end
end

/-! ### Shipping, pins and count floors (R307, R309, R310) -/

theorem shipEnd_sends {s u : State} {slot : Nat} {h : ShipRun} {r : LogRec} {l : List LogRec}
    (hfind : s.snap.flash.ships.find? (fun h => h.slot == slot) = some h) (hleft : h.left = r :: l) (hready : s.qpReady h.qp = true)
    (hsave : s.f Fld.thmSaveStatus_state = 0) (hheld : s.isHeld = false)
    (hu : u = (s.request h.qp (.write h.qp h.rkey h.at_ r.toBytes (some (h.id % 2 ^ 32))) r.toBytes.length
      0).addDetail slot r.toBytes.length) :
    shipEnd slot s = u.setFlash { u.snap.flash with
      ships := u.snap.flash.ships.map (fun x => if x.slot = slot then { x with left := [] } else x) } := by
  subst hu
  unfold shipEnd
  simp only [hfind, hleft, hready, hsave, hheld, Bool.true_eq_false, Bool.false_eq_true, ne_eq, not_true_eq_false, or_self,
    if_false]

section
variable {s : State} {w : Writer} (hmay : s.mayWriteS w = true)
  (hpasses : s.writerPasses w (bits (s.rd Reg.snapPinId) 22 2) = true)
include hmay hpasses

theorem snapPin_permitted : snapPin w true s =
    if s.snap.flash.pins.contains (s.rd Reg.snapPinId) then s
    else if 64 ≤ s.snap.flash.pins.length then s.badWrite Reg.snapPinCmd 0x80000001
    else s.setFlash { s.snap.flash with pins := s.snap.flash.pins ++ [s.rd Reg.snapPinId] } := by
  unfold snapPin
  simp only [hmay, hpasses, Bool.not_true, Bool.or_self, Bool.false_eq_true, false_or, if_false, if_true]

theorem snapUnpin_permitted : snapUnpin w true s =
    s.setFlash { s.snap.flash with pins := s.snap.flash.pins.filter (· != s.rd Reg.snapPinId) } := by
  unfold snapUnpin
  simp only [hmay, hpasses, Bool.not_true, Bool.or_self, Bool.false_eq_true, if_false, if_true]

end

section
variable {s : State} {w : Writer} {n v : Nat} (haccepts : s.Accepts w (Reg.snapCountFloor n) v)
include haccepts

theorem snapCountFloorWrite_accepted : snapCountFloorWrite w n v s =
    if bits v 0 22 < s.f (Fld.snapCountFloor_floor n) ∨ s.inFlight.any (fun e => s.opPart e.2 == n && e.2.opcode == 6) = true then
      s.badWrite (Reg.snapCountFloor n) v
    else (s.put (Fld.snapCountFloor_floor n) (bits v 0 22)).setFlash { s.snap.flash with
      next := Sparse.put zeroD s.snap.flash.next n (max (bits v 0 22) (Sparse.get zeroD s.snap.flash.next n)) } :=
  State.regWrite_ok _ haccepts

end

/-- Settles O39: each command by its equation in the case at hand, with what that case may change. -/
theorem snapshotsAreCapturedSealedAndDrained : Obligations.SnapshotsAreCapturedSealedAndDrained := by
  unfold Obligations.SnapshotsAreCapturedSealedAndDrained
  refine ⟨?quiesced, ?sealed, ?sealDrains, ?noKey, ?written, ?noRoom, ?ship, ?pin, ?pinned, ?pinsFull, ?unpin, ?floor,
    ?floorRefused⟩
  case quiesced =>
    intro s p r has t hl hstop hnew hidle hserves hhas ht
    obtain ⟨hrun, hext⟩ := hl.answers (M := 266292) ((snapshotQuiesced_captures hstop hnew hidle hserves hhas).trans ht.symm)
      (snapshotQuiesced_ext rfl (.refl _ s))
    exact ⟨hrun, ht ▸ State.setStop_stopOf _ _ _, hext.ctl rfl, hext.comp rfl, hext.recorder rfl⟩
  case sealed =>
    intro s p r t hl hstop hcaptured hserves hstays ht
    obtain ⟨hrun, hext⟩ := hl.answers (M := 266356)
      (((snapshotSeal_captured hstop hcaptured hserves).trans (if_neg (by simp [hstays]))).trans ht.symm)
      (snapshotSeal_ext rfl (.refl _ s))
    exact ⟨hrun, hext.comp rfl, hext.recorder rfl, hext.pins rfl⟩
  case sealDrains =>
    intro s p r u t hl hstop hcaptured hserves hdrains hu ht
    subst hu
    obtain ⟨hrun, hext⟩ := hl.answers (M := 266356)
      (((snapshotSeal_captured hstop hcaptured hserves).trans (if_pos hdrains)).trans ht.symm) (snapshotSeal_ext rfl (.refl _ s))
    refine ⟨hrun, ?_, hext.comp rfl, hext.recorder rfl, hext.pins rfl⟩
    rw [ht, State.flashShow_snap]
    rfl
  case noKey =>
    intro s i t hl hdrains hsave hheld hkey ht
    obtain ⟨hrun, hext⟩ := hl.answers (M := 262276) ((drainComplete_noKey hdrains hsave hheld hkey).trans ht.symm)
      (drainComplete_ext rfl (.refl _ s))
    exact ⟨hrun, hext.sameHbm rfl, hext.ctl rfl, hext.comp rfl⟩
  case written =>
    intro s i key pl rs log f t hl hdrains hsave hheld hkey hpl hrs hlog hroom hf ht
    obtain ⟨hrun, hext⟩ := hl.answers (M := 262276)
      ((drainComplete_written hdrains hsave hheld hkey hpl hrs hlog hroom hf).trans ht.symm) (drainComplete_ext rfl (.refl _ s))
    refine ⟨hrun, ?_, hext.sameHbm rfl, hext.ctl rfl, hext.comp rfl⟩
    rw [ht, State.flashShow_snap, hf]
    rfl
  case noRoom =>
    intro s i key pl rs log t hl hdrains hsave hheld hkey hpl hrs hlog hfull ht
    obtain ⟨hrun, hext⟩ := hl.answers (M := 262276)
      ((drainComplete_noRoom hdrains hsave hheld hkey hpl hrs hlog hfull).trans ht.symm) (drainComplete_ext rfl (.refl _ s))
    exact ⟨hrun, hext.sameHbm rfl, hext.ctl rfl, hext.comp rfl⟩
  case ship =>
    intro s slot h r l u t hl hfind hleft hready hsave hheld hu ht
    obtain ⟨hrun, hext⟩ := hl.answers (M := 262468) ((shipEnd_sends hfind hleft hready hsave hheld hu).trans ht.symm)
      (shipEnd_ext rfl (.refl _ s))
    exact ⟨hrun, hext.sameHbm rfl, hext.comp rfl, hext.recorder rfl⟩
  case pin =>
    intro s w t hl hmay hpasses hnew hroom ht
    refine ⟨hl.runs ((snapPin_permitted hmay hpasses).trans ?_), ?_⟩
    · rw [if_neg (ne_true_of_eq_false hnew), if_neg (Nat.not_le.2 hroom), ht]
    · subst ht
      exact ⟨⟨rfl, rfl⟩, rfl, rfl⟩
  case pinned =>
    intro s w t hl hmay hpasses hheld ht
    exact hl.runs ((snapPin_permitted hmay hpasses).trans ((if_pos hheld).trans ht.symm))
  case pinsFull =>
    intro s w t hl hmay hpasses hnew hfull ht
    refine ⟨hl.runs ((snapPin_permitted hmay hpasses).trans ?_), ht ▸ State.badWrite_snap _ _ _⟩
    rw [if_neg (ne_true_of_eq_false hnew), if_pos hfull, ht]
  case unpin =>
    intro s w t hl hmay hpasses ht
    refine ⟨hl.runs ((snapUnpin_permitted hmay hpasses).trans ht.symm), ?_⟩
    subst ht
    exact ⟨⟨rfl, rfl⟩, rfl, rfl⟩
  case floor =>
    intro s w n v t hl haccepts hrises hnone ht
    have hext : Ext 262148 s t := ht ▸ State.setFlash_ext rfl (State.put_ext rfl (.refl _ s))
    refine ⟨hl.runs ((snapCountFloorWrite_accepted haccepts).trans ?_), ?_, hext.sameHbm rfl, hext.ctl rfl⟩
    · rw [if_neg (not_or.2 ⟨Nat.not_lt.2 hrises, ne_true_of_eq_false hnone⟩), ht]
    · rw [ht, State.setFlash_f, State.f_put_self (r := Fld.snapCountFloor_floor n) s _ (by decide : 0 + 22 ≤ 64)]
      exact Nat.mod_eq_of_lt (bits_lt _ _ _)
  case floorRefused =>
    intro s w n v t hl haccepts hrefused ht
    refine ⟨hl.runs ((snapCountFloorWrite_accepted haccepts).trans ((if_pos hrefused).trans ht.symm)), ?_⟩
    subst ht
    exact ⟨⟨State.badWrite_mem _ _ _, State.badWrite_poison _ _ _⟩, State.badWrite_ctl _ _ _, State.badWrite_snap _ _ _⟩

/-! ### A restore starts (R311, R314, R315) -/

/-- The restore that SNAP_RESTORE_SRC and SNAP_RESTORE_ADDR describe. -/
def State.restoreFor (s : State) (p ctr : Nat) : Restore :=
  ⟨p, s.f Fld.snapRestoreSrc_source, s.f Fld.snapRestoreSrc_slot, s.flag Fld.snapRestoreSrc_tensors_only, s.f Fld.snapRestoreSrc_qp,
    s.f Fld.snapRestoreSrc_rkey, s.rd Reg.snapRestoreAddr, ctr, [], none, false⟩

/-- A restore in phase VERIFY that holds the sequencer. -/
def State.restoring (s : State) (r : Restore) : State :=
  (((s.put Fld.snapRestoreStatus_phase 1).put Fld.snapRestoreStatus_result 0).setRestore (some r)).setBoot
    { s.boot with seqUse := some .restore }

theorem State.restoring_f (s : State) (r : Restore) (q : FieldRef) :
    (s.restoring r).f q = ((s.put Fld.snapRestoreStatus_phase 1).put Fld.snapRestoreStatus_result 0).f q := by
  unfold State.restoring State.setRestore
  rw [State.setBoot_f, State.setSnap_f]

theorem State.restoring_phase (s : State) (r : Restore) : (s.restoring r).f Fld.snapRestoreStatus_phase = 1 := by
  rw [State.restoring_f, State.f_put_sep (r := Fld.snapRestoreStatus_result) _ 0 (by decide) (.inl (by decide)),
    State.f_put_self (r := Fld.snapRestoreStatus_phase) s 1 (by decide)]
  rfl

theorem State.restoring_ext (s : State) (r : Restore) : Ext 263172 s (s.restoring r) :=
  State.setBoot_ext rfl (State.setRestore_ext rfl (State.put_ext rfl (State.put_ext rfl (.refl _ s))))

/-- Queue pairs keep their states: the restore's status is none of theirs. -/
theorem State.restoring_qpReady (s : State) (r : Restore) {q : Nat} (hq : q < 2048) : (s.restoring r).qpReady q = s.qpReady q := by
  have hne : Reg.hostQpCfg q ≠ Reg.snapRestoreStatus := by
    unfold Reg.hostQpCfg Reg.snapRestoreStatus
    omega
  have hstate : (s.restoring r).f (Fld.hostQpCfg_state q) = s.f (Fld.hostQpCfg_state q) := by
    rw [State.restoring_f, State.f_put_ne _ _ hne, State.f_put_ne _ _ hne]
  unfold State.qpReady
  rw [hstate, (s.restoring_ext r).hp rfl]

section
variable {s : State} {w : Writer} {p ctr : Nat} (hmay : s.mayWriteS w = true) (hpasses : s.writerPasses w p = true)
  (hnone : s.snap.restore = none)
include hmay hpasses hnone

theorem State.restoreGo_starts (hstarted : (s.part p).started = true) (hserves : s.serving = true) (hfree : s.boot.seqUse = none)
    (hidle : s.flag Fld.snapRestoreSrc_tensors_only = false → s.idlePart p = true) (hctr : s.ctrPart ctr = some p) :
    s.restoreGo w p ctr = s.restoring (s.restoreFor p ctr) := by
  have hidle' : (!s.flag Fld.snapRestoreSrc_tensors_only && !s.idlePart p) = false := by
    cases htensors : s.flag Fld.snapRestoreSrc_tensors_only with
    | true => rfl
    | false => simp [hidle htensors]
  unfold State.restoreGo
  simp only [hmay, hpasses, hnone, hstarted, hserves, hfree, hidle', hctr, Option.isSome_none, Bool.not_true, Bool.or_self,
    Bool.false_eq_true, ne_eq, not_true_eq_false, if_false]
  rfl

theorem State.restoreGo_refused (hbusy : (s.part p).started = false ∨ s.serving = false ∨ s.boot.seqUse.isSome = true ∨
      (s.flag Fld.snapRestoreSrc_tensors_only = false ∧ s.idlePart p = false)) :
    s.restoreGo w p ctr = (s.put Fld.snapRestoreStatus_phase 6).put Fld.snapRestoreStatus_result Res.badField := by
  have hbusy' : (!(s.part p).started || !s.serving || s.boot.seqUse.isSome ||
      (!s.flag Fld.snapRestoreSrc_tensors_only && !s.idlePart p)) = true := by
    simpa [or_assoc] using hbusy
  unfold State.restoreGo
  simp only [hmay, hpasses, hnone, hbusy', Option.isSome_none, Bool.not_true, Bool.or_self, Bool.false_eq_true, if_false, if_true]

end

theorem restoreSaddle_source {s : State} (w : Writer) (p ctr : Nat) (h : s.f Fld.snapRestoreSrc_source = 0) :
    restoreSaddle w p ctr s = s.restoreGo w p ctr := if_pos h

theorem restoreFlash_source {s : State} (w : Writer) (p ctr : Nat) (h : s.f Fld.snapRestoreSrc_source = 1) :
    restoreFlash w p ctr s = s.restoreGo w p ctr := if_pos h

theorem restoreTwin_source {s : State} (w : Writer) (p ctr : Nat) (h : s.f Fld.snapRestoreSrc_source = 3) :
    restoreTwin w p ctr s = s.restoreGo w p ctr := if_pos h

/-- A restore from REMOTE that starts on a queue pair that is ready asks for the BEGIN record. -/
theorem restoreRemote_asks {s : State} {w : Writer} {p ctr : Nat} {r : Restore} (hsource : s.f Fld.snapRestoreSrc_source = 2)
    (hnone : s.snap.restore = none) (hgo : s.restoreGo w p ctr = s.restoring r) (hq : r.qp < 2048)
    (hready : s.qpReady r.qp = true) :
    restoreRemote w p ctr s = (s.restoring r).askStore r 0 8192 := by
  have hrestore : (s.restoring r).snap.restore = some r := rfl
  unfold restoreRemote
  simp only [hsource, hnone, hgo, hrestore, State.restoring_qpReady s r hq, hready, if_true]

theorem restorePhaseEnd_running {s : State} {r : Restore} (hrestore : s.snap.restore = some r) (hheld : s.isHeld = false)
    (hsave : s.f Fld.thmSaveStatus_state = 0) : restorePhaseEnd s =
    if s.f Fld.snapRestoreStatus_phase = 1 then s.restoreVerify r
    else if s.f Fld.snapRestoreStatus_phase = 2 then s.restoreRouting r
    else if s.f Fld.snapRestoreStatus_phase = 3 then s.restoreTensors r
    else if s.f Fld.snapRestoreStatus_phase = 4 then s.restoreFinish r (s.restoreImage r)
    else s := by
  unfold restorePhaseEnd
  simp only [hrestore, hheld, hsave, Bool.false_eq_true, ne_eq, not_true_eq_false, or_self, if_false]

/-- What a restore that has started shows, whatever its source. -/
theorem State.Live.restoreStarts {s t : State} {r : Restore} {f : State → State} (hl : s.Live) (hf : f s = s.restoring r)
    (ht : t = s.restoring r) : State.unlessReset s f = .next t ∧ t.snap.restore = some r ∧ t.boot.seqUse = some .restore ∧
      t.f Fld.snapRestoreStatus_phase = 1 ∧ s.SameHbm t ∧ t.ctl = s.ctl ∧ t.red = s.red := by
  subst ht
  have hext := s.restoring_ext r
  exact ⟨hl.runs hf, rfl, rfl, s.restoring_phase r, hext.sameHbm rfl, hext.ctl rfl, hext.red rfl⟩

/-- Settles O40: a start by the guard of SNAP_RESTORE_GO, and each phase end by the phase shown. -/
theorem restoresStartAndMoveThroughTheirPhases : Obligations.RestoresStartAndMoveThroughTheirPhases := by
  unfold Obligations.RestoresStartAndMoveThroughTheirPhases
  refine ⟨?saddle, ?flash, ?twin, ?remote, ?refused, ?verify, ?routing, ?tensors, ?finish⟩
  case saddle =>
    intro s w p ctr r t hl hmay hpasses hnone hstarted hserves hfree hidle hctr hsource hr ht
    obtain rfl : r = s.restoreFor p ctr := by rw [hr, ← hsource]; rfl
    exact hl.restoreStarts ((restoreSaddle_source w p ctr hsource).trans
      (State.restoreGo_starts hmay hpasses hnone hstarted hserves hfree hidle hctr)) ht
  case flash =>
    intro s w p ctr r t hl hmay hpasses hnone hstarted hserves hfree hidle hctr hsource hr ht
    obtain rfl : r = s.restoreFor p ctr := by rw [hr, ← hsource]; rfl
    exact hl.restoreStarts ((restoreFlash_source w p ctr hsource).trans
      (State.restoreGo_starts hmay hpasses hnone hstarted hserves hfree hidle hctr)) ht
  case twin =>
    intro s w p ctr r t hl hmay hpasses hnone hstarted hserves hfree hidle hctr hsource hr ht
    obtain rfl : r = s.restoreFor p ctr := by rw [hr, ← hsource]; rfl
    exact hl.restoreStarts ((restoreTwin_source w p ctr hsource).trans
      (State.restoreGo_starts hmay hpasses hnone hstarted hserves hfree hidle hctr)) ht
  case remote =>
    intro s w p ctr r t hl hmay hpasses hnone hstarted hserves hfree hidle hctr hsource hr hready ht
    obtain rfl : r = s.restoreFor p ctr := by rw [hr, ← hsource]; rfl
    have hq : (s.restoreFor p ctr).qp < 2048 := State.f_lt s Fld.snapRestoreSrc_qp
    have hgo := State.restoreGo_starts hmay hpasses hnone hstarted hserves hfree hidle hctr
    obtain ⟨hrun, hext⟩ := hl.answers (M := 263556) ((restoreRemote_asks hsource hnone hgo hq hready).trans ht.symm)
      (restoreRemote_ext rfl (.refl _ s))
    exact ⟨hrun, hext.sameHbm rfl, hext.ctl rfl, hext.red rfl⟩
  case refused =>
    intro s w p ctr t hl hmay hpasses hnone hbusy hsource ht
    have hrun := hl.runs (((restoreSaddle_source w p ctr hsource).trans
      (State.restoreGo_refused hmay hpasses hnone hbusy)).trans ht.symm)
    have hext : Ext 4 s t := ht ▸ State.put_ext rfl (State.put_ext rfl (.refl _ s))
    exact ⟨hrun, hext.sameHbm rfl, hext.ctl rfl, hext.snap rfl, hext.boot rfl⟩
  case verify =>
    intro s r t hl hrestore hheld hsave hphase ht
    have hrun := hl.runs (((restorePhaseEnd_running hrestore hheld hsave).trans (by simp [hphase])).trans ht.symm)
    have hext : Ext 263300 s t := ht ▸ State.restoreVerify_ext rfl (.refl _ s)
    exact ⟨hrun, hext.sameHbm rfl, hext.ctl rfl, hext.red rfl⟩
  case routing =>
    intro s r t hl hrestore hheld hsave hphase ht
    have hrun := hl.runs (((restorePhaseEnd_running hrestore hheld hsave).trans (by simp [hphase])).trans ht.symm)
    have hext : Ext 459908 s t := ht ▸ State.restoreRouting_ext rfl (.refl _ s)
    exact ⟨hrun, hext.sameHbm rfl, hext.ctl rfl⟩
  case tensors =>
    intro s r t hl hrestore hheld hsave hphase ht
    have hrun := hl.runs (((restorePhaseEnd_running hrestore hheld hsave).trans (by simp [hphase])).trans ht.symm)
    have hext : Ext 263222 s t := ht ▸ State.restoreTensors_ext rfl (.refl _ s)
    exact ⟨hrun, hext.ctl rfl, hext.red rfl⟩
  case finish =>
    intro s r t hl hrestore hheld hsave hphase ht
    have hrun := hl.runs (((restorePhaseEnd_running hrestore hheld hsave).trans (by simp [hphase])).trans ht.symm)
    have hext : Ext 496838 s t := ht ▸ State.restoreFinish_ext rfl (.refl _ s)
    exact ⟨hrun, hext.sameHbm rfl⟩

/-! ### The evaluation window (R318) -/

section
variable {s : State} {w : Writer} {n : Nat}

/-- An operation in flight of partition n writes inside its window. -/
def State.windowBusy (s : State) (n : Nat) : Bool :=
  s.inFlight.any (fun o => s.opPart o.2 == n &&
    s.writesScope [(s.rd (Reg.snapEvalwinBase n), s.rd (Reg.snapEvalwinLimit n) - s.rd (Reg.snapEvalwinBase n))] o.2)

theorem evalwinEnable_accepted (haccepts : s.Accepts w (Reg.snapEvalwinCtrl n) 1) : evalwinEnable w n s =
    if s.windowBusy n then s.put (Fld.snapEvalwinCtrl_refused n) 1 else s.put (Fld.snapEvalwinCtrl_enable n) 1 :=
  State.regWrite_ok _ haccepts

theorem evalwinDisable_accepted (haccepts : s.Accepts w (Reg.snapEvalwinCtrl n) 0) :
    evalwinDisable w n s = s.put (Fld.snapEvalwinCtrl_enable n) 0 :=
  State.regWrite_ok _ haccepts

end

/-! ### The lead lease and HELD (R319, R320) -/

theorem leaseRenewal_kept {s : State} (hclaimed : s.boot.leadClaimed = true) (hheld : s.isHeld = false) :
    leaseRenewal s = s.setBoot { s.boot with renewedAt := s.now } := if_pos ⟨hclaimed, hheld⟩

/-- The bit of SNAP_HELD that names a cause. -/
def heldCause (cause : Nat) : FieldRef :=
  if cause = 0 then Fld.snapHeld_dual_claim else if cause = 1 then Fld.snapHeld_lost_pommel else Fld.snapHeld_lost_cantle

/-- HELD with its cause; the recorder's writer is held and the clocks of waiting streams stop. -/
def State.holds (s : State) (cause : Nat) : State :=
  (((s.put Fld.snapHeld_held 1).put (heldCause cause) 1).put Fld.evrecStatus_held_writer 1).clocks

theorem leaseRenewalMissed_holds {s : State} {cause : Nat} (hclaimed : s.boot.leadClaimed = true) (hheld : s.isHeld = false)
    (hrefused : cause = 0 → s.boot.cppRefused = false) : leaseRenewalMissed cause s =
      ((s.holds cause).event 0x0A06 none (cause == 2) 0 (toLE 4 ((s.holds cause).rd Reg.snapHeld))).sendTwinFailed 0 :=
  if_neg (by
    rw [hclaimed, hheld]
    rintro (h | ⟨hcause, h⟩ | h)
    · exact absurd h (by decide)
    · exact absurd h (ne_true_of_eq_false (hrefused hcause))
    · exact absurd h (by decide))

theorem State.holds_held (s : State) (cause : Nat) : (s.holds cause).f Fld.snapHeld_held = 1 := by
  have hregs : (s.holds cause).regs =
      (((s.put Fld.snapHeld_held 1).put (heldCause cause) 1).put Fld.evrecStatus_held_writer 1).regs :=
    (State.clocks_ext (M₀ := 4096) rfl (.refl _ _)).regs rfl
  rw [State.f_of_regs hregs, State.f_put_ne (r := Fld.evrecStatus_held_writer) _ _ (by decide)]
  have hself : (s.put Fld.snapHeld_held 1).f Fld.snapHeld_held = 1 := State.f_put_self (r := Fld.snapHeld_held) s 1 (by decide)
  unfold heldCause
  split
  · rw [State.f_put_sep (r := Fld.snapHeld_dual_claim) _ _ (by decide) (.inl (by decide)), hself]
  · split
    · rw [State.f_put_sep (r := Fld.snapHeld_lost_pommel) _ _ (by decide) (.inl (by decide)), hself]
    · rw [State.f_put_sep (r := Fld.snapHeld_lost_cantle) _ _ (by decide) (.inl (by decide)), hself]

theorem State.sendTwinFailed_f (s : State) (cause : Nat) (q : FieldRef) : (s.sendTwinFailed cause).f q = s.f q :=
  State.f_of_regs ((State.sendNotice_ext (M₀ := 65536) rfl (.refl _ s)).regs rfl) q

/-- Settles O41: each write by what its register does, and the lease by its guard. -/
theorem theWindowAndTheLeaseAreObeyed : Obligations.TheWindowAndTheLeaseAreObeyed := by
  unfold Obligations.TheWindowAndTheLeaseAreObeyed
  refine ⟨?refused, ?opened, ?closed, ?renewed, ?missed⟩
  case refused =>
    intro s w n t hl haccepts hbusy ht
    have hrun := hl.runs (((evalwinEnable_accepted haccepts).trans (if_pos hbusy)).trans ht.symm)
    have hext : Ext 4 s t := ht ▸ State.put_ext rfl (.refl _ s)
    exact ⟨hrun, ht ▸ State.flag_put_self (r := Fld.snapEvalwinCtrl_refused n) s 1 (by decide : 1 + 1 ≤ 64), hext.sameHbm rfl,
      hext.ctl rfl, hext.snap rfl⟩
  case opened =>
    intro s w n t hl haccepts hfree ht
    have hrun := hl.runs (((evalwinEnable_accepted haccepts).trans (if_neg (ne_true_of_eq_false hfree))).trans ht.symm)
    have hext : Ext 4 s t := ht ▸ State.put_ext rfl (.refl _ s)
    exact ⟨hrun, ht ▸ State.flag_put_self (r := Fld.snapEvalwinCtrl_enable n) s 1 (by decide : 0 + 1 ≤ 64), hext.sameHbm rfl,
      hext.ctl rfl, hext.snap rfl⟩
  case closed =>
    intro s w n t hl haccepts ht
    have hrun := hl.runs ((evalwinDisable_accepted haccepts).trans ht.symm)
    have hext : Ext 4 s t := ht ▸ State.put_ext rfl (.refl _ s)
    exact ⟨hrun, ht ▸ State.flag_put_self (r := Fld.snapEvalwinCtrl_enable n) s 0 (by decide : 0 + 1 ≤ 64), hext.sameHbm rfl,
      hext.ctl rfl, hext.snap rfl⟩
  case renewed =>
    intro s t hl hclaimed hheld ht
    obtain ⟨hrun, hext⟩ := hl.answers (M := 1024) ((leaseRenewal_kept hclaimed hheld).trans ht.symm)
      (leaseRenewal_ext rfl (.refl _ s))
    exact ⟨hrun, hext.sameHbm rfl, hext.ctl rfl, hext.regs rfl⟩
  case missed =>
    intro s cause u t hl hclaimed hheld hrefused hu ht
    obtain rfl : u = s.holds cause := hu
    obtain ⟨hrun, hext⟩ := hl.answers (M := 69764) ((leaseRenewalMissed_holds hclaimed hheld hrefused).trans ht.symm)
      (leaseRenewalMissed_ext rfl (.refl _ s))
    refine ⟨hrun, ?_, hext.sameHbm rfl, hext.ctl rfl, hext.comp rfl⟩
    rw [State.isHeld, State.flag_iff, ht, State.sendTwinFailed_f, State.event_f _ _ _ _ _ _ (by decide), State.holds_held]
    decide

end Sys2Proof.Machine
end

section
/-!
The rein, its telemetry and its frequency steps: what each command's equation is in the case at hand.
-/
namespace Sys2Proof.Machine

/-- A field that every step of a fold keeps is kept by the fold. -/
theorem State.f_foldl {α : Type} {f : State → α → State} {q : FieldRef} {l : List α}
    (h : ∀ t, ∀ x ∈ l, (f t x).f q = t.f q) (s : State) : (l.foldl f s).f q = s.f q :=
  List.foldlRecOn l f (motive := fun t => t.f q = s.f q) rfl (fun t ht x hx => (h t x hx).trans ht)

/-! ### The tick (R326 to R331) -/

/-- REIN_ARRAY shows the duty of each array. -/
theorem State.showDuty_duty (s : State) (g : List Nat) {a : Nat} (ha : a < 4) :
    (s.showDuty g).f (Fld.reinArray_duty a) = g.getD a 0 % 128 := by
  have hreined : Reg.reinArray a ≠ Reg.reinStatus := by
    unfold Reg.reinArray Reg.reinStatus
    omega
  have hself (t : State) (v : Nat) : (t.put (Fld.reinArray_duty a) v).f (Fld.reinArray_duty a) = v % 128 :=
    State.f_put_self (r := Fld.reinArray_duty a) t v (by decide : 0 + 7 ≤ 64)
  unfold State.showDuty
  rw [State.f_put_ne (r := Fld.reinStatus_reined) _ _ hreined]
  refine foldl_gains (P := fun t => t.f (Fld.reinArray_duty a) = g.getD a 0 % 128) (List.mem_range.2 ha)
    ?_ (fun t b ht => ?_) s
  · exact fun t => hself t _
  by_cases hb : b = a
  · subst hb
    exact hself t _
  · have hne : Reg.reinArray a ≠ Reg.reinArray b := by
      unfold Reg.reinArray
      omega
    exact (State.f_put_ne (r := Fld.reinArray_duty b) t _ hne).trans ht

/-- Counting gated cycles writes ARY_GATED alone. -/
theorem State.countGated_f (s : State) (g : List Nat) {q : FieldRef} (h : ∀ a, a < 4 → q.off ≠ Reg.aryGated a) :
    (s.countGated g).f q = s.f q := by
  unfold State.countGated
  rw [State.useFresh_f]
  refine State.f_foldl (fun t a ha => ?_) s
  dsimp only
  split
  · exact State.f_bump_ne (r := Fld.aryGated_gated a) t _ (h a (List.mem_range.1 ha))
  · rfl

theorem State.shownAndCounted_duty (s : State) (g : List Nat) {a : Nat} (ha : a < 4) :
    ((s.showDuty g).countGated g).f (Fld.reinArray_duty a) = g.getD a 0 % 128 := by
  refine (State.countGated_f _ g (fun b hb => ?_)).trans (s.showDuty_duty g ha)
  change Reg.reinArray a ≠ Reg.aryGated b
  unfold Reg.reinArray Reg.aryGated
  omega

/-- The duty of an array is at most 64 of 64. -/
theorem State.allocate_duty_le (s : State) {x : Nat} (hx : x ∈ s.allocate.g) : x ≤ 64 := by
  unfold State.allocate at hx
  obtain ⟨a, -, rfl⟩ := List.mem_map.1 hx
  dsimp only
  split
  · exact le_rfl
  · exact Nat.min_le_left _ _

/-- The duty that the arrays get: the allocation's, under the ramp after a save. -/
def State.rampedDuty (s : State) : List Nat :=
  match s.power.ramp with | some r => s.allocate.g.map (min r) | none => s.allocate.g

/-- The estimated power of the present tick. -/
def State.tickPower (s : State) : Nat := (s.tickEnergy.map Prod.snd).foldl (· + ·) 0

theorem reinTick_saving {s : State} (hl : s.Live)
    (h : s.saveState = 1 ∨ s.saveState = 2 ∨ s.saveState = 4 ∨ s.power.tripWire = true) :
    reinTick s = ((s.setPower { s.power with ticks := s.power.ticks + 1, winSave := true }).showDuty [0, 0, 0, 0]).countGated
      [0, 0, 0, 0] := by
  unfold reinTick
  rw [if_neg (ne_true_of_eq_false hl), if_pos h]
  rfl

/-- A tick accounted for: its energy, the sums of the window and the millisecond, and the allocation shown. -/
def State.tickTaken (s : State) : State :=
  let t := (s.setPower { s.power with ticks := s.power.ticks + 1 }).setPower { s.power with
    ticks := s.power.ticks + 1, winSum := s.power.winSum + s.tickPower, winTicks := s.power.winTicks + 1,
    raw := addEnergy s.power.raw s.tickEnergy, msTicks := s.power.msTicks + 1,
    msDuty := s.power.msDuty +
      (((List.range s.allocate.g.length).filter s.arrayInService).map (fun i => s.rampedDuty.getD i 0)).foldl (· + ·) 0,
    msArrays := s.power.msArrays + ((List.range s.allocate.g.length).filter s.arrayInService).length,
    msFull := s.power.msFull && s.rampedDuty.all (· == 64), roomy := s.allocate.roomy,
    ramp := match s.power.ramp with | some r => if 64 ≤ r then none else some (r + 1) | none => none }
  let t := (t.put Fld.reinStatus_p_act ((s.tickPower + s.power.excess) / 1000)).put Fld.reinStatus_links (s.allocate.links / 1000)
  let t := (t.put Fld.reinStatus_mem (s.allocate.mem / 1000)).put Fld.reinStatus_comp (s.allocate.comp / 1000)
  (t.put Fld.reinPower_p_est (s.tickPower / 1000)).putB Fld.reinStatus_thermal (decide (s.effCapW < s.capW))

theorem reinTick_allocates {s : State} (hl : s.Live) (h1 : s.saveState ≠ 1) (h2 : s.saveState ≠ 2) (h4 : s.saveState ≠ 4)
    (htrip : s.power.tripWire = false) : reinTick s = (s.tickTaken.showDuty s.rampedDuty).countGated s.rampedDuty := by
  unfold reinTick
  rw [if_neg (ne_true_of_eq_false hl), if_neg (by simp [h1, h2, h4, htrip])]
  rfl

theorem State.shownAndCounted_power (s : State) (g h : List Nat) : ((s.showDuty g).countGated h).power = s.power :=
  (State.countGated_ext (M₀ := 6) rfl (State.showDuty_ext rfl (.refl _ s))).power rfl

/-! ### The cap (R326) -/

section
variable {s : State} {w : Writer} {v : Nat} (haccepts : s.Accepts w Reg.reinCap v)
include haccepts

theorem reinCapWrite_within (hmin : s.f Fld.reinCap_img_min ≤ bits v 0 9) (hmax : bits v 0 9 ≤ s.f Fld.reinCap_img_max) :
    reinCapWrite w v s = s.put Fld.reinCap_cap_step (bits v 0 9) :=
  (State.regWrite_ok _ haccepts).trans (if_neg (not_or.2 ⟨Nat.not_lt.2 hmin, Nat.not_lt.2 hmax⟩))

theorem reinCapWrite_outside (h : bits v 0 9 < s.f Fld.reinCap_img_min ∨ s.f Fld.reinCap_img_max < bits v 0 9) :
    reinCapWrite w v s = s.badWrite Reg.reinCap v :=
  (State.regWrite_ok _ haccepts).trans (if_pos h)

end

theorem State.putCapStep_f (s : State) (v : Nat) :
    (s.put Fld.reinCap_cap_step (bits v 0 9)).f Fld.reinCap_cap_step = bits v 0 9 :=
  (State.f_put_self (r := Fld.reinCap_cap_step) s _ (by decide)).trans (Nat.mod_eq_of_lt (bits_lt v 0 9))

/-! ### Telemetry (R327, R332, R340) -/

/-- The telemetry window starts again. -/
def State.windowOver (s : State) : State := s.setPower { s.power with winSum := 0, winTicks := 0, winSave := false }

/-- The counters of energy are registers: what is committed is kept in the registers, and what is left of it is carried. -/
theorem State.commitEnergy_counts (s : State) (num den : Nat) : ∃ (u : State) (carry : List (Nat × Nat)),
    s.commitEnergy num den = u.setPower { u.power with raw := [], carry := carry } ∧ u.power = s.power := by
  unfold State.commitEnergy
  refine ⟨_, _, rfl, List.foldlRecOn _ _ (motive := fun x : State × List (Nat × Nat) => x.1.power = s.power) rfl
    (fun x hx k _ => ?_)⟩
  dsimp only
  rw [State.bump_power, State.bump_power]
  split <;> rw [State.bump_power, hx]

theorem State.commitEnergy_power (s : State) (num den : Nat) :
    ∃ carry, (s.commitEnergy num den).power = { s.power with raw := [], carry := carry } := by
  obtain ⟨u, carry, heq, hpower⟩ := s.commitEnergy_counts num den
  exact ⟨carry, by rw [heq, State.setPower_power, hpower]⟩

theorem State.committed_power (s : State) (num den : Nat) : ∃ carry, ((s.commitEnergy num den).windowOver).power =
    { s.power with raw := [], carry := carry, winSum := 0, winTicks := 0, winSave := false } := by
  obtain ⟨carry, hpower⟩ := s.commitEnergy_power num den
  unfold State.windowOver
  exact ⟨carry, by rw [State.setPower_power, hpower]⟩

/-- The readings of rails 0 to 13 that count: those of a half whose firmware restarts do not. -/
def State.railsRead (s : State) (rails : List (Option (Nat × Nat × Nat))) : List (Option (Nat × Nat × Nat)) :=
  (List.range 14).map (fun r => if s.halfRestarts (railCantle r) then none else rails.getD r none)

/-- The mean estimate of the window. -/
def State.meanEstimate (s : State) : Nat := s.power.winSum / max 1 s.power.winTicks

theorem telemetryWindow_afterSave {s : State} (rails : List (Option (Nat × Nat × Nat))) (h : s.power.winSave = true) :
    telemetryWindow rails s = ((s.put Fld.reinPower_gap_run 0).commitEnergy 1 1).windowOver := by
  unfold telemetryWindow
  exact if_pos h

/-- REIN_RAIL shows the readings, and REIN_TELEM_ERR the rails that gave none. -/
def State.showRails (s : State) (read : List (Option (Nat × Nat × Nat))) : State :=
  (List.range 14).foldl (fun t r =>
    match read.getD r none with
    | some x => ((((t.put (Fld.reinRail_mv r) x.1).put (Fld.reinRail_current r) x.2.1).put (Fld.reinRail_temp r) x.2.2).put
        (Fld.reinRail_valid r) 1)
    | none => ((t.put (Fld.reinRail_valid r) 0).bumpSat Fld.reinTelemErr_failed 1).put Fld.reinTelemErr_last_rail r) s

theorem State.showRails_power (s : State) (read : List (Option (Nat × Nat × Nat))) : (s.showRails read).power = s.power := by
  unfold State.showRails
  refine List.foldlRecOn _ _ (motive := fun t : State => t.power = s.power) rfl (fun t ht r _ => ?_)
  split
  · rw [State.put_power, State.put_power, State.put_power, State.put_power, ht]
  · rw [State.put_power, State.bumpSat_power, State.put_power, ht]

/-- A window with a rail unread: t with the run of such windows one longer, the fourth of which invalidates the measurement. -/
def State.windowUnread (s t : State) : State :=
  let u := (t.put Fld.reinPower_gap_run 0).setPower { t.power with badRun := s.power.badRun + 1, goodRun := 0 }
  if s.power.badRun + 1 = 4 then
    ((u.put Fld.reinStatus_meas_valid 0).put Fld.reinTelemErr_invalid 1).event 0x0B02 none false 0
      (toLE 1 (t.f Fld.reinTelemErr_last_rail))
  else u

/-- From the fourth window of a run the excess is the margin of 15 percent (R332). -/
def State.windowMargin (s t : State) : State :=
  if 4 ≤ s.power.badRun + 1 then t.setPower { t.power with excess := 15 * s.meanEstimate / 100 } else t

theorem State.windowUnread_power (s t : State) :
    (s.windowUnread t).power = { t.power with badRun := s.power.badRun + 1, goodRun := 0 } := by
  unfold State.windowUnread
  dsimp only
  split
  · rw [State.event_power, State.put_power, State.put_power, State.setPower_power]
  · rw [State.setPower_power]

theorem State.windowMargin_power (s : State) {t : State} (ht : t.power = s.power) :
    (s.windowMargin (s.windowUnread t)).power.badRun = s.power.badRun + 1 ∧ (s.windowMargin (s.windowUnread t)).power.goodRun = 0 ∧
    (4 ≤ s.power.badRun + 1 → (s.windowMargin (s.windowUnread t)).power.excess = 15 * s.meanEstimate / 100) ∧
    (s.power.badRun + 1 < 4 → (s.windowMargin (s.windowUnread t)).power.excess = s.power.excess) := by
  have hunread := s.windowUnread_power t
  rw [ht] at hunread
  unfold State.windowMargin
  by_cases hfour : 4 ≤ s.power.badRun + 1
  · rw [if_pos hfour, State.setPower_power, hunread]
    exact ⟨rfl, rfl, fun _ => rfl, fun h => absurd hfour (Nat.not_le.2 h)⟩
  · rw [if_neg hfour, hunread]
    exact ⟨rfl, rfl, fun h => absurd h hfour, fun _ => rfl⟩

section
variable {s : State} {rails : List (Option (Nat × Nat × Nat))} (hrun : s.power.winSave = false)
include hrun

theorem telemetryWindow_valid (hall : (s.railsRead rails).all Option.isSome = true) {measured : Nat}
    (hmeasured : measured =
      ((s.railsRead rails).map (fun x => match x with | some y => y.1 * y.2.1 | none => 0)).foldl (· + ·) 0 / 4) :
    ∃ u : State, telemetryWindow rails s = ((u.setPower { u.power with
      excess := measured - s.meanEstimate, badRun := 0, goodRun := s.power.goodRun + 1 }).commitEnergy
        measured s.meanEstimate).windowOver := by
  subst hmeasured
  unfold telemetryWindow
  exact ⟨_, (if_neg (ne_true_of_eq_false hrun)).trans (if_pos hall)⟩

theorem telemetryWindow_invalid (hnot : (s.railsRead rails).all Option.isSome = false) : telemetryWindow rails s =
    ((s.windowMargin (s.windowUnread (s.showRails (s.railsRead rails)))).commitEnergy 1 1).windowOver := by
  unfold telemetryWindow
  exact (if_neg (ne_true_of_eq_false hrun)).trans (if_neg (ne_true_of_eq_false hnot))

theorem telemetryWindow_ends : ∃ u : State, telemetryWindow rails s = u.windowOver := by
  cases hall : (s.railsRead rails).all Option.isSome with
  | true =>
    obtain ⟨u, hu⟩ := telemetryWindow_valid hrun hall rfl
    exact ⟨_, hu⟩
  | false =>
    exact ⟨_, telemetryWindow_invalid hrun hall⟩

end

theorem telemetryWindow_over (rails : List (Option (Nat × Nat × Nat))) (s : State) :
    ∃ u : State, telemetryWindow rails s = u.windowOver := by
  cases hsave : s.power.winSave with
  | true => exact ⟨_, telemetryWindow_afterSave rails hsave⟩
  | false => exact telemetryWindow_ends hsave

/-! ### Frequency steps (R330, R336) -/

/-- The millisecond starts again. -/
def State.msOver (s : State) : State :=
  s.setPower { s.power with msTicks := 0, msDuty := 0, msArrays := 0, msFull := true }

theorem State.msOver_ext (s : State) : Ext 524288 s s.msOver := State.setPower_ext rfl (.refl _ s) id

/-- The VCORE requests of the step that is next, with the frequency changed at once where no rail waits. -/
def State.stepUp (s : State) (k : Nat) : State :=
  ((s.setPower { s.power with nextF := some k }).requestVcore k).vcoreSettled

theorem State.msRuns {s : State} (hsave : s.saveState = 0) (hms : s.power.msTicks ≠ 0) :
    ¬ (s.saveState ≠ 0 ∨ s.power.msTicks = 0) := by
  rw [not_or, not_not]
  exact ⟨hsave, hms⟩

theorem State.stepsRun {s : State} (hsteps : s.flag Fld.reinCfg_freq_steps = true) (hacks : s.power.acks = []) :
    ¬ (s.flag Fld.reinCfg_freq_steps = false ∨ (!s.power.acks.isEmpty) = true) := by
  rw [hsteps, hacks]
  decide

section
variable {s : State} (hsave : s.saveState = 0) (hms : s.power.msTicks ≠ 0)
include hsave hms

theorem frequencyStep_still (h : s.flag Fld.reinCfg_freq_steps = false ∨ s.power.acks ≠ []) : frequencyStep s = s.msOver := by
  unfold frequencyStep
  exact (if_neg (State.msRuns hsave hms)).trans (if_pos (by simpa using h))

section
variable (hsteps : s.flag Fld.reinCfg_freq_steps = true) (hacks : s.power.acks = [])
include hsteps hacks

theorem frequencyStep_lower (hlow : s.power.msDuty < 48 * s.power.msArrays) : frequencyStep s =
    ((s.put Fld.reinStatus_fstep (min 32 (s.f Fld.reinStatus_fstep + 4))).requestVcore
      (min 32 (s.f Fld.reinStatus_fstep + 4))).msOver := by
  unfold frequencyStep
  exact (if_neg (State.msRuns hsave hms)).trans ((if_neg (State.stepsRun hsteps hacks)).trans (if_pos hlow))

section
variable (hbusy : 48 * s.power.msArrays ≤ s.power.msDuty)
include hbusy

theorem frequencyStep_busy : frequencyStep s =
    if s.power.msFull && s.power.roomy && decide (0 < s.f Fld.reinStatus_fstep) then
      if s.fitStep (s.f Fld.reinStatus_fstep - 4) < s.f Fld.reinStatus_fstep then
        (s.stepUp (s.fitStep (s.f Fld.reinStatus_fstep - 4))).msOver
      else s.msOver
    else s.msOver := by
  unfold frequencyStep
  exact (if_neg (State.msRuns hsave hms)).trans ((if_neg (State.stepsRun hsteps hacks)).trans (if_neg (Nat.not_lt.2 hbusy)))

theorem frequencyStep_raise (hfull : s.power.msFull = true) (hroomy : s.power.roomy = true) (hf : 0 < s.f Fld.reinStatus_fstep)
    (hfits : s.fitStep (s.f Fld.reinStatus_fstep - 4) < s.f Fld.reinStatus_fstep) :
    frequencyStep s = (s.stepUp (s.fitStep (s.f Fld.reinStatus_fstep - 4))).msOver :=
  (frequencyStep_busy hsave hms hsteps hacks hbusy).trans ((if_pos (by simp [hfull, hroomy, hf])).trans (if_pos hfits))

theorem frequencyStep_stays (h : s.power.msFull = false ∨ s.power.roomy = false ∨ s.f Fld.reinStatus_fstep = 0) :
    frequencyStep s = s.msOver :=
  (frequencyStep_busy hsave hms hsteps hacks hbusy).trans (if_neg (by rcases h with h | h | h <;> simp [h]))

end
end

/-- Whatever the step, the millisecond is over. -/
theorem frequencyStep_ends : ∃ u : State, frequencyStep s = u.msOver := by
  by_cases hstill : s.flag Fld.reinCfg_freq_steps = false ∨ s.power.acks ≠ []
  · exact ⟨_, frequencyStep_still hsave hms hstill⟩
  · obtain ⟨hsteps, hacks⟩ := not_or.1 hstill
    rw [Bool.not_eq_false] at hsteps
    rw [not_not] at hacks
    by_cases hlow : s.power.msDuty < 48 * s.power.msArrays
    · exact ⟨_, frequencyStep_lower hsave hms hsteps hacks hlow⟩
    · rw [frequencyStep_busy hsave hms hsteps hacks (Nat.not_lt.1 hlow)]
      split
      · split
        · exact ⟨_, rfl⟩
        · exact ⟨_, rfl⟩
      · exact ⟨_, rfl⟩

end

/-! ### Acknowledgements of the rails (R323, R330) -/

theorem targetRailVoltageAck_owed {s : State} {die : Nat} (h : s.power.acks.contains die = true) : targetRailVoltageAck die s =
    (s.setPower { s.power with acks := s.power.acks.filter (· != die) }).vcoreSettled := if_pos h

theorem State.vcoreSettled_acks (s : State) : s.vcoreSettled.power.acks = s.power.acks := by
  have hnext : (match s.power.nextF with | some f => s.put Fld.reinStatus_fstep f | none => s).power = s.power := by
    split
    · rw [State.put_power]
    · rfl
  unfold State.vcoreSettled
  split
  · rw [State.setPower_power]
    dsimp only
    split
    · rw [State.put_power]
      exact congrArg Power.acks hnext
    · exact congrArg Power.acks hnext
  · rfl

/-- With no rail waiting, the step that is next is taken. -/
theorem State.vcoreSettled_fstep {s : State} {f : Nat} (hacks : s.power.acks = []) (hnext : s.power.nextF = some f) :
    s.vcoreSettled.f Fld.reinStatus_fstep = f % 64 := by
  unfold State.vcoreSettled
  rw [if_pos (by rw [hacks]; rfl), hnext]
  dsimp only
  rw [State.setPower_f]
  split
  · rw [State.f_put_ne (r := Fld.cinchStatus_active) _ _ (by decide), State.f_put_self (r := Fld.reinStatus_fstep) s f (by decide)]
    rfl
  · rw [State.f_put_self (r := Fld.reinStatus_fstep) s f (by decide)]
    rfl

/-- Settles O42: each command by its equation in the case at hand; the power state is followed through each. -/
theorem theReinTheTelemetryAndTheFrequencyStep : Obligations.TheReinTheTelemetryAndTheFrequencyStep := by
  unfold Obligations.TheReinTheTelemetryAndTheFrequencyStep
  refine ⟨?saving, ?allocates, ?cap, ?capRefused, ?afterSave, ?valid, ?invalid, ?still, ?lower, ?raise, ?stays, ?ack⟩
  case saving =>
    intro s t hl hsaving ht
    obtain ⟨hrun, hext⟩ := hl.answers (M := 524294) ((reinTick_saving hl hsaving).trans ht.symm) (reinTick_ext rfl (.refl _ s))
    refine ⟨hrun, fun a ha => ?_, hext.sameHbm rfl, hext.ctl rfl, hext.comp rfl⟩
    have hzero : [0, 0, 0, 0].getD a 0 = 0 := by
      interval_cases a <;> rfl
    rw [ht, State.shownAndCounted_duty _ _ ha, hzero]
  case allocates =>
    intro s g p t hl h1 h2 h4 htrip hg hp ht
    obtain rfl : g = s.rampedDuty := hg
    obtain rfl : p = s.tickPower := hp
    obtain ⟨hrun, hext⟩ := hl.answers (M := 524294) ((reinTick_allocates hl h1 h2 h4 htrip).trans ht.symm)
      (reinTick_ext rfl (.refl _ s))
    exact ⟨hrun, fun a ha => ht ▸ State.shownAndCounted_duty _ _ ha, fun x hx => s.allocate_duty_le hx, hext.sameHbm rfl,
      hext.ctl rfl, hext.comp rfl⟩
  case cap =>
    intro s w v t hl haccepts hmin hmax ht
    obtain ⟨hrun, hext⟩ := hl.answers (M := 132) ((reinCapWrite_within haccepts hmin hmax).trans ht.symm)
      (reinCapWrite_ext rfl (.refl _ s))
    refine ⟨hrun, ?_, hext.sameHbm rfl, hext.ctl rfl, hext.power rfl⟩
    unfold State.capW
    rw [ht, State.putCapStep_f]
  case capRefused =>
    intro s w v t hl haccepts houtside ht
    obtain ⟨hrun, hext⟩ := hl.answers (M := 132) ((reinCapWrite_outside haccepts houtside).trans ht.symm)
      (reinCapWrite_ext rfl (.refl _ s))
    exact ⟨hrun, hext.sameHbm rfl, hext.ctl rfl, hext.power rfl⟩
  case afterSave =>
    intro s rails t hl hsave ht
    obtain ⟨hrun, hext⟩ := hl.answers (M := 524420) ((telemetryWindow_afterSave rails hsave).trans ht.symm)
      (telemetryWindow_ext rfl (.refl _ s))
    exact ⟨hrun, hext.sameHbm rfl, hext.ctl rfl, hext.comp rfl⟩
  case valid =>
    intro s rails hl hsave hall
    obtain ⟨u, hu⟩ := telemetryWindow_valid hsave hall rfl
    obtain ⟨hrun, hext⟩ := hl.answers (M := 524420) hu (telemetryWindow_ext rfl (.refl _ s))
    obtain ⟨carry, hpower⟩ := State.committed_power (u.setPower { u.power with
      excess := _ - s.meanEstimate, badRun := 0, goodRun := s.power.goodRun + 1 }) _ s.meanEstimate
    refine ⟨_, hrun, ?_⟩
    rw [hpower]
    exact ⟨rfl, rfl, rfl, rfl, rfl, rfl, hext.sameHbm rfl, hext.ctl rfl, hext.comp rfl⟩
  case invalid =>
    intro s rails hl hsave hnot
    obtain ⟨hrun, hext⟩ := hl.answers (M := 524420) (telemetryWindow_invalid hsave hnot) (telemetryWindow_ext rfl (.refl _ s))
    obtain ⟨carry, hpower⟩ := (s.windowMargin (s.windowUnread (s.showRails (s.railsRead rails)))).committed_power 1 1
    refine ⟨_, hrun, ?_⟩
    rw [hpower]
    obtain ⟨hbad, hgood, hmargin, hlast⟩ := s.windowMargin_power (s.showRails_power (s.railsRead rails))
    exact ⟨hbad, hgood, hmargin, hlast, hext.sameHbm rfl, hext.ctl rfl, hext.comp rfl⟩
  case still =>
    intro s t hl hsave hms hstill ht
    have hext : Ext 524288 s t := ht ▸ s.msOver_ext
    exact ⟨hl.runs ((frequencyStep_still hsave hms hstill).trans ht.symm), hext.regs rfl, hext.sameHbm rfl, hext.ctl rfl⟩
  case lower =>
    intro s u t hl hsave hms hsteps hacks hlow hu ht
    subst hu
    obtain ⟨hrun, hext⟩ := hl.answers (M := 524292) ((frequencyStep_lower hsave hms hsteps hacks hlow).trans ht.symm)
      (frequencyStep_ext rfl (.refl _ s))
    refine ⟨hrun, ?_, hext.sameHbm rfl, hext.ctl rfl⟩
    rw [ht, State.setPower_f]
    unfold State.requestVcore
    rw [State.setPower_f, State.f_put_self (r := Fld.reinStatus_fstep) s _ (by decide)]
    exact Nat.mod_eq_of_lt (Nat.lt_of_le_of_lt (Nat.min_le_left _ _) (by decide))
  case raise =>
    intro s u t hl hsave hms hsteps hacks hbusy hfull hroomy hf hfits hu ht
    subst hu
    obtain ⟨hrun, hext⟩ := hl.answers (M := 524292)
      ((frequencyStep_raise hsave hms hsteps hacks hbusy hfull hroomy hf hfits).trans ht.symm) (frequencyStep_ext rfl (.refl _ s))
    exact ⟨hrun, hext.sameHbm rfl, hext.ctl rfl⟩
  case stays =>
    intro s t hl hsave hms hsteps hacks hbusy hstays ht
    have hext : Ext 524288 s t := ht ▸ s.msOver_ext
    exact ⟨hl.runs ((frequencyStep_stays hsave hms hsteps hacks hbusy hstays).trans ht.symm), hext.regs rfl, hext.sameHbm rfl,
      hext.ctl rfl⟩
  case ack =>
    intro s die t hl howed ht
    obtain ⟨hrun, hext⟩ := hl.answers (M := 524292) ((targetRailVoltageAck_owed howed).trans ht.symm)
      (targetRailVoltageAck_ext rfl (.refl _ s))
    refine ⟨hrun, fun hacks f hnext => ?_, hext.sameHbm rfl, hext.ctl rfl, hext.comp rfl⟩
    rw [ht]
    refine State.vcoreSettled_fstep ?_ hnext
    rw [State.setPower_power, hacks]
    simp

end Sys2Proof.Machine
end

section
/-!
The cinch, its test and the trim of the rails; heat: what each command's equation is in the case at hand.
-/
namespace Sys2Proof.Machine

/-! ### The cinch (R324, R333 to R335) -/

/-- Every die counts a trip. -/
def State.droopCounted (s : State) : State := (List.range 4).foldl (fun t d => t.bumpSat (Fld.cinchCount_trips d) 1) s

theorem State.droopCounted_ext (s : State) : Ext 4 s s.droopCounted :=
  Ext.foldl _ (fun _ _ ht => State.bumpSat_ext rfl ht) (.refl _ s)

section
variable {s : State}

theorem cinchTrip_enabled (die det : Nat) (h : s.power.cinchOff = false) : cinchTrip die det s =
    (((s.bumpSat (Fld.cinchCount_trips die) 1).put (Fld.cinchCount_last_detector die) det).setPower
      { s.power with tripped := (s.power.tripped ++ [die]).dedup }).put Fld.cinchStatus_active 1 := by
  unfold cinchTrip State.tripDies
  rw [if_neg (ne_true_of_eq_false h), State.put_power, State.bumpSat_power, if_neg (ne_true_of_eq_false h)]

theorem cinchTrip_disabled (die det : Nat) (h : s.power.cinchOff = true) : cinchTrip die det s = s := if_pos h

theorem droopNAssert_disabled (rails : Nat) (h : s.power.cinchOff = true) : droopNAssert rails s = s.droopCounted := if_pos h

/-- All four dies tripped by a droop. -/
def State.droopTripped (s : State) : State :=
  (s.droopCounted.tripDies [0, 1, 2, 3]).setPower { (s.droopCounted.tripDies [0, 1, 2, 3]).power with droopLow := true }

theorem droopNAssert_tells (rails : Nat) (h : s.power.cinchOff = false)
    (htold : ∀ k, s.power.droopTold = some k → 475000 + k ≤ s.now) :
    droopNAssert rails s = (s.droopTripped.setPower { s.droopTripped.power with droopTold := some s.now }).event 0x0B0C none false 0
      (toLE 1 rails) := by
  unfold droopNAssert
  rw [if_neg (ne_true_of_eq_false h)]
  cases hk : s.power.droopTold with
  | none => rfl
  | some k => exact if_neg (Nat.not_lt.2 (htold k hk))

theorem cinchEscalate_tripped (h : s.power.tripped ≠ []) : cinchEscalate s = s.setPower { s.power with deep := true } :=
  if_neg (mt List.isEmpty_iff.1 h)

theorem cinchEscalate_clear (h : s.power.tripped = []) : cinchEscalate s = s := if_pos (List.isEmpty_iff.2 h)

theorem cinchClear_tripped (cycles : Nat) (h : s.power.tripped ≠ []) : cinchClear cycles s =
    ((s.setPower { s.power with tripped := [], deep := false, droopLow := false }).bump Fld.cinchStretched_cycles
      (cycles + 8 * s.f Fld.cinchCtrl_hold_x8 + 8 + 4)).put Fld.cinchStatus_active 0 :=
  if_neg (mt List.isEmpty_iff.1 h)

theorem cinchTest_go {w : Writer} (fails : Nat) (haccepts : s.Accepts w Reg.cinchTest (2 ^ 31)) :
    cinchTest w true fails s = s.selfTestFail fails := State.regWrite_ok _ haccepts

theorem cinchDisable_accepted {w : Writer} {v : Nat} (haccepts : s.Accepts w Reg.cinchCtrl (v / 2 * 2)) : cinchDisable w v s =
    ((((s.put Fld.cinchCtrl_enable 0).put Fld.cinchCtrl_hold_x8 (bits v 8 8)).put Fld.cinchStatus_guard 15).setPower
      { s.power with cinchStop := !s.power.cinchOff }).reviseVcore := State.regWrite_ok _ haccepts

/-- The cinch enabled again, its guard band for the dies that failed the test alone. -/
def State.cinchOn (s : State) (v : Nat) : State :=
  let t := ((s.put Fld.cinchCtrl_enable 1).put Fld.cinchCtrl_hold_x8 (bits v 8 8)).setPower
    { s.power with cinchStop := false, cinchOff := false }
  (t.put Fld.cinchStatus_guard (t.f Fld.cinchStatus_selftest_fail)).reviseVcore

theorem cinchEnable_accepted {w : Writer} {v : Nat} (haccepts : s.Accepts w Reg.cinchCtrl (v / 2 * 2 + 1)) :
    cinchEnable w v s = s.cinchOn v := State.regWrite_ok _ haccepts

end

/-! ### Margin trim (R336) -/

/-- Dies that keep their margin only show it. -/
theorem marginCheck_kept {s : State} {dies : List (Nat × Bool)} (h : ∀ e, e ∈ dies → e.2 = false) : marginCheck dies s =
    ((dies.take 4).zipIdx).foldl (fun t e => t.put (Fld.cinchTrim_margin_ps e.2) e.1.1) s := by
  unfold marginCheck
  refine List.foldl_ext _ _ s (fun t e he => ?_)
  have hkept : e.1.2 = false := h _ (List.mem_of_mem_take (List.fst_mem_of_mem_zipIdx he))
  exact if_pos (by rw [hkept]; rfl)

theorem marginCheck_short {s : State} {m n : Nat} {u : State} (hn : n = s.f (Fld.cinchTrim_steps 0)) (hlimit : n < 20)
    (hday : s.dayPast (Sparse.get noneD s.power.trimAt 0) = true)
    (hu : u = (((s.put (Fld.cinchTrim_margin_ps 0) m).put (Fld.cinchTrim_steps 0) (n + 1)).putB (Fld.cinchTrim_at_limit 0)
      (n + 1 == 20)).setPower { s.power with trimAt := Sparse.put noneD s.power.trimAt 0 (some s.now) }) :
    marginCheck [(m, true)] s = ((u.setKeep { s.keep with owed := s.keep.owed ++ [⟨4, 0, n + 1, s.keep.seq, s.now⟩] }).event 0x0B04
      none false 0 (toLE 1 0 ++ toLE 1 (n + 1) ++ toLE 1 0)).reviseVcore := by
  subst hu
  have hsteps : (s.put (Fld.cinchTrim_margin_ps 0) m).f (Fld.cinchTrim_steps 0) = n :=
    (State.f_put_sep (r := Fld.cinchTrim_margin_ps 0) s m (by decide : 5 + 8 ≤ 64) (.inl (by decide : 0 + 5 ≤ 5))).trans hn.symm
  unfold marginCheck
  simp only [List.take_succ_cons, List.take_nil, List.zipIdx_cons, List.zipIdx_nil, List.foldl_cons, List.foldl_nil, hsteps,
    State.put_power, Bool.not_true, Bool.false_eq_true, if_false, if_pos hlimit]
  exact if_pos hday

/-- Settles O43: each command by its equation in the case at hand. -/
theorem theCinchTheSelfTestAndTheTrim : Obligations.TheCinchTheSelfTestAndTheTrim := by
  unfold Obligations.TheCinchTheSelfTestAndTheTrim
  refine ⟨?trip, ?tripOff, ?droopOff, ?droop, ?escalate, ?escalateClear, ?clear, ?test, ?disable, ?enable, ?margins, ?short⟩
  case trip =>
    intro s die det t hl hon ht
    obtain ⟨hrun, hext⟩ := hl.answers (M := 524292) ((cinchTrip_enabled _ _ hon).trans ht.symm) (cinchTrip_ext rfl (.refl _ s))
    refine ⟨hrun, ?_, ?_, hext.sameHbm rfl, hext.ctl rfl, hext.comp rfl⟩
    · rw [ht, State.flag_put_self _ _ (by decide)]
      rfl
    · have hne : Reg.cinchCount die ≠ Reg.cinchStatus := by
        unfold Reg.cinchCount Reg.cinchStatus
        omega
      rw [ht, State.f_put_ne (r := Fld.cinchStatus_active) _ _ hne, State.setPower_f,
        State.f_put_self (r := Fld.cinchCount_last_detector die) _ _ (by decide : 32 + 6 ≤ 64)]
      rfl
  case tripOff =>
    intro s die det t hl hoff ht
    exact hl.runs ((cinchTrip_disabled _ _ hoff).trans ht.symm)
  case droopOff =>
    intro s rails t hl hoff ht
    have hext : Ext 4 s t := ht ▸ s.droopCounted_ext
    exact ⟨hl.runs ((droopNAssert_disabled _ hoff).trans ht.symm), hext.power rfl, hext.sameHbm rfl, hext.ctl rfl⟩
  case droop =>
    intro s rails u t hl hon htold hu ht
    subst hu
    obtain ⟨hrun, hext⟩ := hl.answers (M := 524420) ((droopNAssert_tells _ hon htold).trans ht.symm)
      (droopNAssert_ext rfl (.refl _ s))
    refine ⟨hrun, ?_, hext.sameHbm rfl, hext.ctl rfl, hext.comp rfl⟩
    rw [ht, State.event_power, State.setPower_power]
  case escalate =>
    intro s t hl htripped ht
    obtain ⟨hrun, hext⟩ := hl.answers (M := 524288) ((cinchEscalate_tripped htripped).trans ht.symm)
      (cinchEscalate_ext rfl (.refl _ s))
    exact ⟨hrun, hext.regs rfl, hext.sameHbm rfl, hext.ctl rfl⟩
  case escalateClear =>
    intro s t hl hclear ht
    exact hl.runs ((cinchEscalate_clear hclear).trans ht.symm)
  case clear =>
    intro s cycles t hl htripped ht
    obtain ⟨hrun, hext⟩ := hl.answers (M := 524292) ((cinchClear_tripped _ htripped).trans ht.symm) (cinchClear_ext rfl (.refl _ s))
    refine ⟨hrun, ?_, ?_, hext.sameHbm rfl, hext.ctl rfl⟩
    · rw [ht, State.flag_put_self _ _ (by decide)]
      rfl
    · rw [ht, State.put_power, State.bump_power, State.setPower_power]
  case test =>
    intro s w fails t hl haccepts ht
    obtain ⟨hrun, hext⟩ := hl.answers (M := 524420) ((cinchTest_go _ haccepts).trans ht.symm) (cinchTest_ext rfl (.refl _ s))
    exact ⟨hrun, hext.sameHbm rfl, hext.ctl rfl⟩
  case disable =>
    intro s w v t hl haccepts ht
    obtain ⟨hrun, hext⟩ := hl.answers (M := 524420) ((cinchDisable_accepted haccepts).trans ht.symm)
      (cinchDisable_ext rfl (.refl _ s))
    exact ⟨hrun, hext.sameHbm rfl, hext.ctl rfl⟩
  case enable =>
    intro s w v t hl haccepts ht
    obtain ⟨hrun, hext⟩ := hl.answers (M := 524420) ((cinchEnable_accepted haccepts).trans ht.symm)
      (cinchEnable_ext rfl (.refl _ s))
    exact ⟨hrun, hext.sameHbm rfl, hext.ctl rfl⟩
  case margins =>
    intro s dies t hl hkept ht
    have hext : Ext 4 s t := ht ▸ Ext.foldl _ (fun _ _ h => State.put_ext rfl h) (.refl _ s)
    exact ⟨hl.runs ((marginCheck_kept hkept).trans ht.symm), hext.power rfl, hext.keep rfl, hext.sameHbm rfl, hext.ctl rfl⟩
  case short =>
    intro s m n u t hl hn hlimit hday hu ht
    obtain ⟨hrun, hext⟩ := hl.answers (M := 1572996) ((marginCheck_short hn hlimit hday hu).trans ht.symm)
      (marginCheck_ext rfl (.refl _ s))
    exact ⟨hrun, hext.sameHbm rfl, hext.ctl rfl⟩

end Sys2Proof.Machine
end

section
/-!
Heat (R337 to R339): what the temperature reading, the thermal cap and the trip do in the case at hand.
-/
namespace Sys2Proof.Machine

/-! ### Temperatures (R337) -/

/-- What THM_TEMP shows of a compute stack: its hottest die, the sensor, and the hottest base die. -/
def State.dieTemps (s : State) (n : Nat) : Nat × Nat × Nat :=
  (s.f (Fld.thmTemp_die n), s.f (Fld.thmTemp_sensor n), s.f (Fld.thmTemp_base n))

def State.showDie (s : State) (n : Nat) (x : Nat × Nat × Nat) : State :=
  ((s.put (Fld.thmTemp_die n) x.1).put (Fld.thmTemp_sensor n) x.2.1).put (Fld.thmTemp_base n) x.2.2

theorem State.dieTemps_congr {s t : State} {n : Nat} (h : ∀ q : FieldRef, q.off = Reg.thmTemp n → t.f q = s.f q) :
    t.dieTemps n = s.dieTemps n := by
  unfold State.dieTemps
  rw [h (Fld.thmTemp_die n) rfl, h (Fld.thmTemp_sensor n) rfl, h (Fld.thmTemp_base n) rfl]

theorem State.showDie_self (s : State) (n : Nat) (x : Nat × Nat × Nat) :
    (s.showDie n x).dieTemps n = (x.1 % 256, x.2.1 % 16, x.2.2 % 256) := by
  have hdie : 0 + 8 ≤ 64 := by decide
  have hsensor : 8 + 4 ≤ 64 := by decide
  have hbase : 12 + 8 ≤ 64 := by decide
  unfold State.dieTemps State.showDie
  rw [State.f_put_sep (r := Fld.thmTemp_base n) _ _ hbase (.inl (by decide : 0 + 8 ≤ 12)),
    State.f_put_sep (r := Fld.thmTemp_sensor n) _ _ hsensor (.inl (by decide : 0 + 8 ≤ 8)),
    State.f_put_sep (r := Fld.thmTemp_base n) _ _ hbase (.inl (by decide : 8 + 4 ≤ 12)),
    State.f_put_self (r := Fld.thmTemp_die n) _ _ hdie, State.f_put_self (r := Fld.thmTemp_sensor n) _ _ hsensor,
    State.f_put_self (r := Fld.thmTemp_base n) _ _ hbase]
  rfl

theorem State.showDie_other (s : State) {m n : Nat} (x : Nat × Nat × Nat) (h : m ≠ n) :
    (s.showDie n x).dieTemps m = s.dieTemps m := by
  refine State.dieTemps_congr (fun q hq => ?_)
  have hne : q.off ≠ Reg.thmTemp n := by
    unfold Reg.thmTemp at hq ⊢
    omega
  unfold State.showDie
  rw [State.f_put_ne (r := Fld.thmTemp_base n) _ _ hne, State.f_put_ne (r := Fld.thmTemp_sensor n) _ _ hne,
    State.f_put_ne (r := Fld.thmTemp_die n) _ _ hne]

/-- An HBM stack's temperature shown, and its throttling begun or ended (R338). -/
def State.heatStack (lim : Nat) (s : State) (e : Nat × Nat) : State :=
  let t := s.put (Fld.hsmStackStatus_temp e.2) e.1
  if t.power.halved.contains e.2 then
    (if e.1 + 3 < lim then t.setPower { t.power with halved := t.power.halved.filter (· != e.2) } else t)
  else if lim ≤ e.1 then
    (t.setPower { t.power with halved := t.power.halved ++ [e.2] }).event 0x0B0E none (csCantle (e.2 / 4)) e.2
      (toLE 1 e.2 ++ toLE 1 e.1)
  else t

theorem State.heatStack_f (s : State) (lim : Nat) (e : Nat × Nat) {q : FieldRef} (hstack : q.off ≠ Reg.hsmStackStatus e.2)
    (hlost : q.off ≠ Reg.evrecLost) : (s.heatStack lim e).f q = s.f q := by
  have hshown : (s.put (Fld.hsmStackStatus_temp e.2) e.1).f q = s.f q :=
    State.f_put_ne (r := Fld.hsmStackStatus_temp e.2) s _ hstack
  unfold State.heatStack
  dsimp only
  split
  · split
    · rw [State.setPower_f, hshown]
    · exact hshown
  · split
    · rw [State.event_f _ _ _ _ _ _ hlost, State.setPower_f, hshown]
    · exact hshown

/-- The stacks and the throttling flag after them leave THM_TEMP alone. -/
theorem temperatureRead_dieTemps (s : State) (a b c d : Nat × Nat × Nat) (temps : List Nat) {n : Nat} (hn : n < 4) :
    (temperatureRead [a, b, c, d] temps s).dieTemps n =
      ((((s.showDie 0 a).showDie 1 b).showDie 2 c).showDie 3 d).dieTemps n := by
  refine State.dieTemps_congr (fun q hq => ?_)
  unfold Reg.thmTemp at hq
  have hstatus : q.off ≠ Reg.thmStatus := by
    unfold Reg.thmStatus
    omega
  have hlost : q.off ≠ Reg.evrecLost := by
    unfold Reg.evrecLost
    omega
  unfold temperatureRead
  refine (State.f_putB_ne (r := Fld.thmStatus_hbm_throttle) _ _ hstatus).trans ?_
  refine State.f_foldl (f := State.heatStack _) (fun t e he => State.heatStack_f t _ e ?_ hlost) _
  have hk : e.2 < 16 := by
    have := List.snd_lt_of_mem_zipIdx he
    rw [List.length_take] at this
    omega
  unfold Reg.hsmStackStatus
  omega

theorem temperatureRead_shows (s : State) (a b c d : Nat × Nat × Nat) (temps : List Nat) {t : State}
    (ht : t = temperatureRead [a, b, c, d] temps s) :
    t.dieTemps 0 = (a.1 % 256, a.2.1 % 16, a.2.2 % 256) ∧ t.dieTemps 1 = (b.1 % 256, b.2.1 % 16, b.2.2 % 256) ∧
    t.dieTemps 2 = (c.1 % 256, c.2.1 % 16, c.2.2 % 256) ∧ t.dieTemps 3 = (d.1 % 256, d.2.1 % 16, d.2.2 % 256) := by
  subst ht
  refine ⟨?_, ?_, ?_, ?_⟩
  · rw [temperatureRead_dieTemps s a b c d temps (by decide), State.showDie_other _ _ (by decide),
    State.showDie_other _ _ (by decide), State.showDie_other _ _ (by decide), State.showDie_self]
  · rw [temperatureRead_dieTemps s a b c d temps (by decide), State.showDie_other _ _ (by decide),
    State.showDie_other _ _ (by decide), State.showDie_self]
  · rw [temperatureRead_dieTemps s a b c d temps (by decide), State.showDie_other _ _ (by decide), State.showDie_self]
  · rw [temperatureRead_dieTemps s a b c d temps (by decide), State.showDie_self]

theorem State.tickTaken_ticks (s : State) : s.tickTaken.power.ticks = s.power.ticks + 1 ∧
    s.tickTaken.power.winTicks = s.power.winTicks + 1 := by
  unfold State.tickTaken
  dsimp only
  rw [State.putB_power, State.put_power, State.put_power, State.put_power, State.put_power, State.put_power, State.setPower_power]
  exact ⟨rfl, rfl⟩

/-! ### The thermal cap (R337) -/

/-- The compute stack with the hottest die. -/
def State.hottest (s : State) : Nat :=
  (List.range 4).foldl (fun b d => if s.f (Fld.thmTemp_die b) < s.f (Fld.thmTemp_die d) then d else b) 0

/-- Every die, compute and base, is below the temperature of release. -/
def State.cool (s : State) : Bool :=
  (List.range 4).all (fun d => decide (s.f (Fld.thmTemp_die d) < s.f Fld.thmCfg_release_c) &&
    decide (s.f (Fld.thmTemp_base d) < s.f Fld.thmCfg_release_c))

/-- A millisecond of throttling counted. -/
def State.throttled (s : State) : State :=
  (s.bumpSat Fld.thmThrottleCnt_ms 1).setPower { s.power with throttleMs := s.power.throttleMs + 1 }

section
variable {s : State}

section
variable (hhot : s.f Fld.thmCfg_throttle_c ≤ s.f (Fld.thmTemp_die s.hottest))
include hhot

theorem thermalCapUpdate_falls (hon : s.flag Fld.thmStatus_throttling = true) : thermalCapUpdate s =
    s.throttled.put Fld.thmStatus_thermal_cap (max 700 (s.f Fld.thmStatus_thermal_cap - 10)) := by
  unfold thermalCapUpdate
  refine (if_pos hhot).trans ?_
  simp only [hon, if_true]
  rfl

theorem thermalCapUpdate_starts (hoff : s.flag Fld.thmStatus_throttling = false) : thermalCapUpdate s =
    ((((s.put Fld.thmStatus_throttling 1).put Fld.thmStatus_thermal_cap (max 700 ((s.f Fld.reinStatus_p_act / 5 * 5) - 10))).bumpSat
      Fld.thmThrottleCnt_episodes 1).setPower { s.power with throttleMs := 0 }).event 0x0B05 none (csCantle s.hottest) 0
        (toLE 1 s.hottest ++ toLE 1 (s.f (Fld.thmTemp_sensor s.hottest)) ++ toLE 1 (s.f (Fld.thmTemp_die s.hottest))) := by
  unfold thermalCapUpdate
  refine (if_pos hhot).trans ?_
  simp only [hoff, Bool.false_eq_true, if_false, State.bumpSat_power, State.put_power]
  rfl

end

section
variable (hwarm : s.f (Fld.thmTemp_die s.hottest) < s.f Fld.thmCfg_throttle_c)
include hwarm

theorem thermalCapUpdate_cools (hon : s.flag Fld.thmStatus_throttling = true) (hcool : s.cool = true) : thermalCapUpdate s =
    if s.capW ≤ s.f Fld.thmStatus_thermal_cap + 10 then
      ((s.throttled.put Fld.thmStatus_throttling 0).put Fld.thmStatus_thermal_cap 0).event 0x0B06 none false 0
        (toLE 4 (s.power.throttleMs + 1))
    else s.throttled.put Fld.thmStatus_thermal_cap (s.f Fld.thmStatus_thermal_cap + 10) := by
  unfold thermalCapUpdate
  refine (if_neg (Nat.not_le.2 hwarm)).trans ((if_pos ?_).trans ?_)
  · rw [hon]
    exact hcool
  · simp only [hon, if_true]
    rfl

theorem thermalCapUpdate_idle (hoff : s.flag Fld.thmStatus_throttling = false) : thermalCapUpdate s = s := by
  unfold thermalCapUpdate
  refine (if_neg (Nat.not_le.2 hwarm)).trans ?_
  simp only [hoff, Bool.false_and, Bool.false_eq_true, if_false]

end
end

/-! ### The trip (R339) -/

/-- THERMTRIP_N latched. -/
def State.tripLatched (s : State) : State := (s.setPower { s.power with tripWire := true }).put Fld.thmStatus_trip 1

theorem State.tripLatched_wire (s : State) : s.tripLatched.power.tripWire = true := by
  unfold State.tripLatched
  rw [State.put_power, State.setPower_power]

theorem thermalTrip_inReset {s : State} (monitor die : Nat) (h : s.pins.inReset = true) :
    thermalTrip monitor die s = s.tripLatched :=
  if_pos h

theorem thermalTrip_live {s u v x : State} {monitor die : Nat} (h : s.pins.inReset = false)
    (hu : u = s.tripLatched.showDuty [0, 0, 0, 0])
    (hv : v = if u.isHeld ∨ u.f Fld.bootStatus_stage ≠ 6 then u
      else (u.event 0x0B07 none (decide (2 ≤ die % 4)) 0 (toLE 1 monitor ++ toLE 1 die)).sendTwinFailed 1)
    (hx : x = v.setKeep { v.keep with noResume := true }) :
    thermalTrip monitor die s = if x.saveState = 2 then x.put Fld.thmSaveStatus_state 4 else x.saveTrigger 1 := by
  subst hx hv hu
  unfold thermalTrip
  exact if_neg (ne_true_of_eq_false h)

/-- Telling of the trip, on the recorder and to the twin, leaves what is latched. -/
theorem State.tripTold_ext {u v : State} {monitor die : Nat}
    (hv : v = if u.isHeld ∨ u.f Fld.bootStatus_stage ≠ 6 then u
      else (u.event 0x0B07 none (decide (2 ≤ die % 4)) 0 (toLE 1 monitor ++ toLE 1 die)).sendTwinFailed 1) : Ext 65668 u v := by
  subst hv
  exact .ite (.refl _ u) (State.sendTwinFailed_ext rfl (State.event_ext rfl (.refl _ u)))

/-- A save that starts keeps the note that no resume may follow. -/
theorem State.saveTrigger_noResume (s : State) (cause : Nat) : (s.saveTrigger cause).keep.noResume = s.keep.noResume := by
  have hlost : (s.abandonPasses.goLost).keep = s.keep :=
    (State.goLost_ext (M₀ := 24580) rfl (State.abandonPasses_ext rfl (.refl _ s))).keep rfl
  have hquiet (t : State) : t.saveQuiet.keep = t.keep := (State.saveQuiet_ext (M₀ := 815108) rfl (.refl _ t)).keep rfl
  have hclocks (t : State) : t.clocks.keep = t.keep := (State.clocks_ext (M₀ := 4096) rfl (.refl _ t)).keep rfl
  unfold State.saveTrigger
  dsimp only
  split
  · rfl
  · split
    · rw [hlost]
    · split
      · unfold State.saveStart State.saveNumber
        rw [State.event_keep, hquiet, hclocks, State.put_keep, State.put_keep, State.setKeep_keep]
      · rfl

/-- Settles O44: each command by its equation in the case at hand; the rein's commands by what each of them ends with. -/
theorem heatThrottlesAndTrips : Obligations.HeatThrottlesAndTrips := by
  unfold Obligations.HeatThrottlesAndTrips
  refine ⟨?temps, ?falls, ?starts, ?ends, ?rises, ?idle, ?tripHeld, ?trip, ?tick, ?window, ?step, ?cap, ?ack⟩
  case temps =>
    intro s a b c d temps hl
    obtain ⟨hrun, hext⟩ := hl.answers (M := 524420) (f := temperatureRead [a, b, c, d] temps) rfl
      (temperatureRead_ext rfl (.refl _ s))
    obtain ⟨h0, h1, h2, h3⟩ := temperatureRead_shows s a b c d temps rfl
    unfold State.dieTemps at h0 h1 h2 h3
    simp only [Prod.mk.injEq] at h0 h1 h2 h3
    obtain ⟨hdie0, hsensor0, hbase0⟩ := h0
    obtain ⟨hdie1, hsensor1, hbase1⟩ := h1
    obtain ⟨hdie2, hsensor2, hbase2⟩ := h2
    obtain ⟨hdie3, hsensor3, hbase3⟩ := h3
    exact ⟨_, hrun, hdie0, hsensor0, hbase0, hdie1, hsensor1, hbase1, hdie2, hsensor2, hbase2, hdie3, hsensor3, hbase3,
      hext.sameHbm rfl, hext.ctl rfl⟩
  case falls =>
    intro s hot t hl hhot hover hon ht
    obtain rfl : hot = s.hottest := hhot
    obtain ⟨hrun, hext⟩ := hl.answers (M := 524420) ((thermalCapUpdate_falls hover hon).trans ht.symm)
      (thermalCapUpdate_ext rfl (.refl _ s))
    exact ⟨hrun, hext.sameHbm rfl, hext.ctl rfl⟩
  case starts =>
    intro s hot t hl hhot hover hoff ht
    obtain rfl : hot = s.hottest := hhot
    obtain ⟨hrun, hext⟩ := hl.answers (M := 524420) ((thermalCapUpdate_starts hover hoff).trans ht.symm)
      (thermalCapUpdate_ext rfl (.refl _ s))
    refine ⟨hrun, ?_, hext.sameHbm rfl, hext.ctl rfl⟩
    rw [State.flag_iff, ht, State.event_f _ _ _ _ _ _ (by decide), State.setPower_f,
      State.f_bumpSat_ne (r := Fld.thmThrottleCnt_episodes) _ _ (by decide),
      State.f_put_sep (r := Fld.thmStatus_thermal_cap) _ _ (by decide) (.inl (by decide)),
      State.f_put_self (r := Fld.thmStatus_throttling) s 1 (by decide)]
    decide
  case ends =>
    intro s hot t hl hhot hunder hon hcool hcap ht
    obtain rfl : hot = s.hottest := hhot
    obtain ⟨hrun, hext⟩ := hl.answers (M := 524420) (((thermalCapUpdate_cools hunder hon hcool).trans (if_pos hcap)).trans ht.symm)
      (thermalCapUpdate_ext rfl (.refl _ s))
    refine ⟨hrun, ?_, hext.sameHbm rfl, hext.ctl rfl⟩
    unfold State.flag
    rw [ht, State.event_f _ _ _ _ _ _ (by decide),
      State.f_put_sep (r := Fld.thmStatus_thermal_cap) _ _ (by decide) (.inl (by decide)), State.f_put_zero_self]
    rfl
  case rises =>
    intro s hot t hl hhot hunder hon hcool hcap ht
    obtain rfl : hot = s.hottest := hhot
    obtain ⟨hrun, hext⟩ := hl.answers (M := 524420)
      (((thermalCapUpdate_cools hunder hon hcool).trans (if_neg (Nat.not_le.2 hcap))).trans ht.symm)
      (thermalCapUpdate_ext rfl (.refl _ s))
    exact ⟨hrun, hext.sameHbm rfl, hext.ctl rfl⟩
  case idle =>
    intro s hot t hl hhot hunder hoff ht
    obtain rfl : hot = s.hottest := hhot
    exact hl.runs ((thermalCapUpdate_idle hunder hoff).trans ht.symm)
  case tripHeld =>
    intro s monitor die t hheld ht
    have hext : Ext 524292 s t := ht ▸ State.put_ext rfl (State.setPower_ext rfl (.refl _ s) (fun _ => rfl))
    exact ⟨congrArg Host.Outcome.next ((thermalTrip_inReset _ _ hheld).trans ht.symm), ht ▸ s.tripLatched_wire, hext.sameHbm rfl,
      hext.ctl rfl⟩
  case trip =>
    intro s monitor die u v x t hlive hu hv hx ht
    have heq := (thermalTrip_live hlive hu hv hx).trans ht.symm
    have hext : Ext 1929348 s t := heq ▸ thermalTrip_ext rfl (.refl _ s)
    refine ⟨congrArg Host.Outcome.next heq, ?_, ?_, hext.sameHbm rfl, hext.ctl rfl⟩
    · rw [ht]
      split
      · rw [State.put_keep, hx, State.setKeep_keep]
      · rw [State.saveTrigger_noResume, hx, State.setKeep_keep]
    · have hwire : x.power.tripWire = true := by
        have hshown : u.power = s.tripLatched.power := hu ▸ (State.showDuty_ext (M₀ := 4) rfl (.refl _ _)).power rfl
        rw [hx, State.setKeep_power, (State.tripTold_ext hv).power rfl, hshown, State.tripLatched_wire]
      rw [ht]
      split
      · rw [State.put_power, hwire]
      · exact (State.saveTrigger_ext (M₀ := 1863812) rfl (.refl _ x)).trip rfl hwire
  case tick =>
    intro s hl hsave htrip
    obtain ⟨hrun, hext⟩ := hl.answers (M := 524294)
      (reinTick_allocates hl (by omega) (by omega) (by omega) htrip) (reinTick_ext rfl (.refl _ s))
    obtain ⟨hticks, hwin⟩ := s.tickTaken_ticks
    refine ⟨_, hrun, ?_, ?_, hext.sameHbm rfl, hext.ctl rfl, hext.comp rfl⟩
    · rw [State.shownAndCounted_power, hticks]
    · rw [State.shownAndCounted_power, hwin]
  case window =>
    intro s rails hl
    obtain ⟨u, hu⟩ := telemetryWindow_over rails s
    obtain ⟨hrun, hext⟩ := hl.answers (M := 524420) hu (telemetryWindow_ext rfl (.refl _ s))
    exact ⟨_, hrun, ⟨rfl, rfl, rfl⟩, hext.sameHbm rfl, hext.ctl rfl, hext.comp rfl⟩
  case step =>
    intro s hl hsave hms
    obtain ⟨u, hu⟩ := frequencyStep_ends hsave hms
    obtain ⟨hrun, hext⟩ := hl.answers (M := 524292) hu (frequencyStep_ext rfl (.refl _ s))
    exact ⟨_, hrun, ⟨rfl, rfl, rfl, rfl⟩, hext.sameHbm rfl, hext.ctl rfl, hext.comp rfl⟩
  case cap =>
    intro s w v t hl haccepts hwithin ht
    obtain ⟨hmin, hmax⟩ := hwithin
    obtain ⟨hrun, hext⟩ := hl.answers (M := 132) ((reinCapWrite_within haccepts hmin hmax).trans ht.symm)
      (reinCapWrite_ext rfl (.refl _ s))
    exact ⟨hrun, ht ▸ State.putCapStep_f _ _, hext.sameHbm rfl, hext.ctl rfl, hext.power rfl⟩
  case ack =>
    intro s die hl howed
    obtain ⟨hrun, hext⟩ := hl.answers (M := 524292) (targetRailVoltageAck_owed howed) (targetRailVoltageAck_ext rfl (.refl _ s))
    exact ⟨_, hrun, State.vcoreSettled_acks _, hext.sameHbm rfl, hext.ctl rfl, hext.comp rfl⟩

end Sys2Proof.Machine
end

section
/-!
The hold-up save (R341 to R347): how it starts, commits and is undone, and what stays in THM_SAVE_STATUS meanwhile.
-/
namespace Sys2Proof.Machine

/-! ### THM_SAVE_STATUS beside what a save does to the units (R342) -/

/-- Refreshing what an array shows leaves every register above the engines'. -/
theorem State.arrUpdate_keeps (s : State) {a : Nat} {q : FieldRef} (ha : a < 4) (hoff : 0x60000 ≤ q.off) :
    (s.arrUpdate a).f q = s.f q := by
  have hstatus : q.off ≠ Reg.aryStatus a := by unfold Reg.aryStatus; omega
  have hte : ∀ i, i < 16 → q.off ≠ Reg.teStatus (16 * a + i) := fun i hi => by unfold Reg.teStatus; omega
  have hhwm : ∀ i, i < 16 → q.off ≠ Reg.teAccHwm (16 * a + i) := fun i hi => by unfold Reg.teAccHwm; omega
  unfold State.arrUpdate
  extract_lets x n t u
  have ht : t.f q = s.f q := (State.f_putB_ne _ _ hstatus).trans (State.f_put_ne _ _ hstatus)
  have hu : u.f q = s.f q := by
    refine (State.f_foldl (fun v i hi => ?_) t).trans ht
    have hlt := List.mem_range.1 hi
    have hslices : (v.put (Fld.teStatus_slices (16 * a + i)) n).f q = v.f q := State.f_put_ne _ _ (hte i hlt)
    dsimp only
    split
    · exact (State.f_put_ne _ _ (hhwm i hlt)).trans hslices
    · exact hslices
  split
  · exact hu
  · exact (State.f_put_ne _ _ hstatus).trans hu

theorem State.clocks_f (s : State) (q : FieldRef) : s.clocks.f q = s.f q :=
  State.f_of_regs ((State.clocks_ext (M₀ := 4096) rfl (.refl _ s)).regs rfl) q

section
variable (s : State) {q : FieldRef} (hq : q.off = Reg.thmSaveStatus)
include hq

theorem State.f_putAryStatus_save {a : Nat} (ha : a < 4) (v : Nat) : (s.put (Fld.aryStatus_state a) v).f q = s.f q :=
  State.f_put_ne (r := Fld.aryStatus_state a) s v
    (by rw [hq]; unfold Reg.thmSaveStatus; change _ ≠ Reg.aryStatus a; unfold Reg.aryStatus; omega)

theorem State.arrUpdate_save {a : Nat} (ha : a < 4) : (s.arrUpdate a).f q = s.f q :=
  s.arrUpdate_keeps ha (by rw [hq]; decide)

theorem State.abandonPasses_save : s.abandonPasses.f q = s.f q := by
  unfold State.abandonPasses
  refine State.f_foldl (fun t a ha => ?_) s
  have hlt := List.mem_range.1 ha
  dsimp only
  split
  · rw [State.f_putAryStatus_save _ hq hlt, State.arrUpdate_save _ hq hlt, State.setArr_f]
  · rw [State.arrUpdate_save _ hq hlt, State.setArr_f]

theorem State.unstopArrays_save : s.unstopArrays.f q = s.f q := by
  unfold State.unstopArrays
  refine State.f_foldl (fun t a ha => ?_) s
  have hlt := List.mem_range.1 ha
  split
  · rw [State.arrUpdate_save _ hq hlt, State.f_putAryStatus_save _ hq hlt]
  · rfl

theorem State.breakStops_save : s.breakStops.f q = s.f q := by
  unfold State.breakStops
  refine State.f_foldl (fun t p _ => ?_) s
  split
  · next r _ =>
      rw [State.setStop_f]
      exact State.f_put_ne (r := slotStateF (4 * p + r.k)) t 3 (by
        rw [hq]
        change _ ≠ Reg.snapSlotState _
        unfold Reg.thmSaveStatus Reg.snapSlotState
        omega)
  · rfl

theorem State.f_putChannel_save {n : Nat} (hn : n < 512) (v : Nat) : (s.put (Fld.hsmChStatus_state n) v).f q = s.f q :=
  State.f_put_ne (r := Fld.hsmChStatus_state n) s v (by
    rw [hq]
    change _ ≠ Reg.hsmChStatus n
    unfold Reg.thmSaveStatus Reg.hsmChStatus
    omega)

theorem State.selfRefresh_save (keepPaths : Bool) : (s.selfRefresh keepPaths).f q = s.f q := by
  unfold State.selfRefresh
  refine State.f_foldl (fun t n hn => ?_) s
  have hlt := List.mem_range.1 hn
  split
  · split
    · exact State.f_putChannel_save t hq hlt _
    · split
      · rw [State.wantRetrain_f, State.f_putChannel_save t hq hlt]
      · rfl
  · rfl

theorem State.showDuty_save (g : List Nat) : (s.showDuty g).f q = s.f q := by
  unfold State.showDuty
  rw [State.f_put_ne (r := Fld.reinStatus_reined) _ _ (by rw [hq]; decide)]
  refine State.f_foldl (fun t a ha => ?_) s
  have hlt := List.mem_range.1 ha
  refine State.f_put_ne (r := Fld.reinArray_duty a) t _ ?_
  rw [hq]
  change _ ≠ Reg.reinArray a
  unfold Reg.thmSaveStatus Reg.reinArray
  omega

theorem State.saveQuiet_save : s.saveQuiet.f q = s.f q := by
  unfold State.saveQuiet State.still
  rw [State.f_put_ne (r := Fld.reinPower_gap_run) _ _ (by rw [hq]; decide), State.showDuty_save _ hq, State.setPower_f,
    State.selfRefresh_save _ hq, State.breakStops_save _ hq, State.abandonPasses_save _ hq]

end

/-! ### A save starts, or the device is lost (R342, R345, R347) -/

theorem State.saveStart_keep (s : State) (cause : Nat) :
    (s.saveStart cause).keep = { s.keep with seq := s.keep.seq + 1, cause := cause, tAssert := s.now } := by
  have hquiet (t : State) : t.saveQuiet.keep = t.keep := (State.saveQuiet_ext (M₀ := 815108) rfl (.refl _ t)).keep rfl
  have hclocks (t : State) : t.clocks.keep = t.keep := (State.clocks_ext (M₀ := 4096) rfl (.refl _ t)).keep rfl
  unfold State.saveStart State.saveNumber
  rw [State.event_keep, hquiet, hclocks, State.put_keep, State.put_keep, State.setKeep_keep]

theorem State.saveStart_saveState (s : State) (cause : Nat) : (s.saveStart cause).saveState = 1 := by
  unfold State.saveState State.saveStart State.saveNumber
  rw [State.event_f _ _ _ _ _ _ (by decide), State.saveQuiet_save _ rfl, State.clocks_f,
    State.f_put_sep (r := Fld.thmSaveStatus_loss_seen) _ _ (by decide) (.inl (by decide)),
    State.f_put_self (r := Fld.thmSaveStatus_state) _ _ (by decide)]
  rfl

theorem State.goLost_saveState (s : State) : s.goLost.saveState = 4 :=
  State.f_put_self (r := Fld.thmSaveStatus_state) _ 4 (by decide)

section
variable {s : State} (hlive : s.pins.inReset = false)
include hlive

theorem State.saveTrigger_starts (cause : Nat) (hstate : s.saveState = 0 ∨ s.saveState = 3) (hheld : s.isHeld = false) :
    s.saveTrigger cause = s.saveStart cause := by
  unfold State.saveTrigger
  refine (if_neg ?_).trans ((if_neg ?_).trans (if_pos hstate))
  · rw [hlive]
    simp only [Bool.false_eq_true, false_or]
    omega
  · rw [hheld]
    simp only [Bool.false_eq_true, false_or]
    omega

theorem State.saveTrigger_lost (cause : Nat) (hlost : s.isHeld = true ∨ s.saveState = 5) (hnot : s.saveState ≠ 4) :
    s.saveTrigger cause = s.abandonPasses.goLost := by
  unfold State.saveTrigger
  refine (if_neg ?_).trans (if_pos hlost)
  rw [hlive]
  simpa using hnot

end

/-- The warning itself shows on THM_SAVE_STATUS beside the sequencer's state. -/
theorem State.warned_saveState (s : State) : (s.put Fld.thmSaveStatus_warn 1).saveState = s.saveState :=
  State.f_put_sep (r := Fld.thmSaveStatus_warn) s 1 (by decide) (.inl (by decide))

theorem State.warned_isHeld (s : State) : (s.put Fld.thmSaveStatus_warn 1).isHeld = s.isHeld :=
  congrArg (· != 0) (State.f_put_ne (r := Fld.thmSaveStatus_warn) s 1 (by decide))

section
variable {s : State} (hlive : s.pins.inReset = false)
include hlive

theorem holdWarnAssert_starts (hstate : s.saveState = 0 ∨ s.saveState = 3) (hheld : s.isHeld = false) :
    holdWarnAssert s = (s.put Fld.thmSaveStatus_warn 1).saveStart 0 :=
  State.saveTrigger_starts (s := s.put Fld.thmSaveStatus_warn 1) hlive 0 (by rwa [State.warned_saveState])
    (by rwa [State.warned_isHeld])

theorem holdWarnAssert_lost (hlost : s.isHeld = true ∨ s.saveState = 5) (hnot : s.saveState ≠ 4) :
    holdWarnAssert s = (s.put Fld.thmSaveStatus_warn 1).abandonPasses.goLost :=
  State.saveTrigger_lost (s := s.put Fld.thmSaveStatus_warn 1) hlive 0 (by rwa [State.warned_saveState, State.warned_isHeld])
    (by rwa [State.warned_saveState])

theorem holdLossAssert_saving (hstate : s.saveState = 1) : holdLossAssert s =
    ((s.event 0x0B0B none false 0 (toLE 8 s.keep.seq)).put Fld.thmSaveStatus_loss_seen 1).abandonPasses.goLost := by
  unfold holdLossAssert
  simp only [hlive, hstate, Bool.false_eq_true, false_or, true_or, if_true, if_neg (by decide : ¬ 1 = 4)]

theorem holdLossAssert_saved (hstate : s.saveState = 2 ∨ s.saveState = 3) : holdLossAssert s =
    (s.put Fld.thmSaveStatus_loss_seen 1).abandonPasses.goLost := by
  unfold holdLossAssert
  rcases hstate with h | h <;> simp [hlive, h]

end

theorem thmSaveTest_go {s : State} {w : Writer} (haccepts : s.Accepts w Reg.thmSaveTest (2 ^ 31)) :
    thmSaveTest w true s = s.saveTrigger 2 := State.regWrite_ok _ haccepts

theorem State.lost_ext (s : State) : Ext 24580 s s.abandonPasses.goLost :=
  State.goLost_ext rfl (State.abandonPasses_ext rfl (.refl _ s))

/-! ### A save commits (R342, R343) -/

/-- The record of the save under way. -/
def State.saveRecord (s : State) : SaveRec := ⟨s.keep.seq, s.keep.cause, s.saveHeader s.saveSections, s.saveSections, true, none⟩

/-- The record programmed into area a and the last stacks in self-refresh. -/
def State.saveProgrammed (s : State) (a : Nat) : State :=
  let t := ((s.useFresh 128).setKeep
    { s.keep with areas := Sparse.put (fun _ => none) s.keep.areas a (some s.saveRecord) }).selfRefresh true
  let t := (List.range 16).foldl (fun t h =>
    if t.f (Fld.hsmStackStatus_state h) = 1 then t.put (Fld.hsmStackStatus_state h) 2 else t) t
  (t.wr Reg.thmSaveLast 0).put Fld.thmSaveLast_save_us ((s.now - s.keep.tAssert) / 475)

/-- What the recorder and THM_SAVE_LAST tell of the save, and SAVED or, where no resume may follow, LOST. -/
def State.saveCommitted (s : State) (t : State) : State :=
  let t := (t.put Fld.thmSaveLast_cause s.keep.cause).bumpSat Fld.thmSaveCount_saves 1
  let t := t.event 0x0B09 none false 0 (toLE 8 s.keep.seq ++ toLE 4 ((s.now - s.keep.tAssert) / 475))
  t.put Fld.thmSaveStatus_state (if s.keep.noResume ∧ s.keep.cause ≠ 1 then 4 else 2)

theorem saveCommit_saving {s : State} {a : Nat} (hstate : s.saveState = 1) (harea : s.keep.erased = some a) :
    saveCommit s = s.saveCommitted (s.saveProgrammed a) := by
  unfold saveCommit
  refine (if_neg (not_not.2 hstate)).trans ?_
  rw [harea]
  rfl

theorem State.saveCommitted_saveState (s t : State) :
    (s.saveCommitted t).saveState = if s.keep.noResume ∧ s.keep.cause ≠ 1 then 4 else 2 := by
  refine (State.f_put_self (r := Fld.thmSaveStatus_state) _ _ (by decide)).trans ?_
  split <;> rfl

theorem State.saveCommitted_cause (s t : State) : (s.saveCommitted t).f Fld.thmSaveLast_cause = s.keep.cause % 4 := by
  unfold State.saveCommitted
  rw [State.f_put_ne (r := Fld.thmSaveStatus_state) _ _ (by decide), State.event_f _ _ _ _ _ _ (by decide),
    State.f_bumpSat_ne (r := Fld.thmSaveCount_saves) _ _ (by decide), State.f_put_self (r := Fld.thmSaveLast_cause) t _ (by decide)]
  rfl

theorem State.saveCommitted_keep (s t : State) : (s.saveCommitted t).keep = t.keep := by
  unfold State.saveCommitted
  rw [State.put_keep, State.event_keep, State.bumpSat_keep, State.put_keep]

theorem State.saveProgrammed_area (s : State) (a : Nat) :
    Sparse.get (fun _ => none) (s.saveProgrammed a).keep.areas a = some s.saveRecord := by
  have hstacks (t : State) : Ext 8196 t ((List.range 16).foldl (fun t h =>
      if t.f (Fld.hsmStackStatus_state h) = 1 then t.put (Fld.hsmStackStatus_state h) 2 else t) (t.selfRefresh true)) :=
    Ext.foldl _ (fun _ _ ht => .ite (State.put_ext rfl ht) ht) (State.selfRefresh_ext rfl (.refl _ t))
  unfold State.saveProgrammed
  rw [State.put_keep, State.wr_keep, (hstacks _).keep rfl, State.setKeep_keep]
  exact Sparse.get_put_self (fun _ => none) s.keep.areas a (some s.saveRecord)

/-! ### A resume (R344) -/

/-- Channels out of self-refresh and the marker page of the record programmed. -/
def State.resumeMarked (s : State) (moved : List Nat) : State :=
  let t := s.leaveRefresh moved
  let t := (List.range 16).foldl (fun t h =>
    if t.f (Fld.hsmStackStatus_state h) = 2 then t.put (Fld.hsmStackStatus_state h) 1 else t) t
  let t := t.setKeep { t.keep with areas := t.keep.areas.map (fun e => match e.2 with
    | some r => if r.keepSeq = t.keep.seq then (e.1, some { r with marker := some (t.now, (s.now - s.keep.tAssert) / 475) }) else e
    | none => e) }
  let t := (t.put Fld.thmSaveLast_precautionary 1).bumpSat Fld.thmSaveCount_resumes 1
  t.event 0x0B0A none false 0 (toLE 8 t.keep.seq ++ toLE 4 ((s.now - s.keep.tAssert) / 475))

def State.resuming (s : State) (moved : List Nat) : State :=
  ((s.resumeMarked moved).put Fld.thmSaveStatus_state 3).put Fld.thmSaveStatus_warn 0

theorem State.resuming_ext (s : State) (moved : List Nat) : Ext 1061060 s (s.resuming moved) :=
  State.put_ext rfl (State.put_ext rfl (State.event_ext rfl (State.bumpSat_ext rfl (State.put_ext rfl (State.setKeep_ext rfl
    (Ext.foldl _ (fun _ _ ht => .ite (State.put_ext rfl ht) ht) (State.leaveRefresh_ext rfl (.refl _ s))))))))

theorem State.resuming_saveState (s : State) (moved : List Nat) : (s.resuming moved).saveState = 3 := by
  unfold State.saveState State.resuming
  rw [State.f_put_sep (r := Fld.thmSaveStatus_warn) _ _ (by decide) (.inl (by decide)),
    State.f_put_self (r := Fld.thmSaveStatus_state) _ _ (by decide)]
  rfl

/-- In RUN, with the stops that the save broke started over and g to ramp from 0, but for the rings. -/
def State.runAgain (s : State) : State :=
  let t := (List.range 4).foldl (fun t p => match t.stopOf p with
    | some r => (t.put (slotStateF (4 * p + r.k)) 1).setStop p (some { r with since := t.now })
    | none => t) s
  let t := (t.put Fld.thmSaveLast_pause_us ((s.now - s.keep.tAssert) / 475)).put Fld.thmSaveStatus_state 0
  (t.setPower { t.power with ramp := some 0 }).unstopArrays.clocks

theorem State.runAgain_saveState (s : State) : s.runAgain.saveState = 0 := by
  unfold State.saveState State.runAgain
  rw [State.clocks_f, State.unstopArrays_save _ rfl, State.setPower_f, State.f_put_zero_self]

theorem State.runAgain_ramp (s : State) : s.runAgain.power.ramp = some 0 := by
  have hpower (t : State) : t.unstopArrays.clocks.power = t.power :=
    (State.clocks_ext (M₀ := 4100) rfl (State.unstopArrays_ext rfl (.refl _ t))).power rfl
  unfold State.runAgain
  rw [hpower, State.setPower_power]

theorem State.runAgain_ext (s : State) : Ext 790532 s s.runAgain := by
  unfold State.runAgain
  refine State.clocks_ext rfl (State.unstopArrays_ext rfl (State.setPower_ext rfl (State.put_ext rfl (State.put_ext rfl
    (Ext.foldl _ (fun t p ht => ?_) (.refl _ s)))) id))
  split
  · exact State.setStop_ext rfl (State.put_ext rfl ht)
  · exact ht

section
variable {s : State} (hmay : s.keep.noResume = false) (hloss : s.flag Fld.thmSaveStatus_loss_seen = false)
include hmay hloss

theorem State.resumes : ¬ (s.keep.noResume = true ∨ s.flag Fld.thmSaveStatus_loss_seen = true) := by
  rw [hmay, hloss]
  decide

theorem resume_saved (moved : List Nat) (hstate : s.saveState = 2) : resume moved s = s.resuming moved := by
  unfold resume
  exact (if_neg (State.resumes hmay hloss)).trans (if_pos hstate)

theorem resume_trained (moved : List Nat) (hstate : s.saveState = 3) (harea : s.keep.erased.isSome = true)
    (htrained : ∀ n, n < 512 → s.f (Fld.hsmChStatus_state n) ≠ 2 ∧ s.f (Fld.hsmChStatus_state n) ≠ 3) :
    resume moved s = s.runAgain.ringResume := by
  have hall : (List.range 512).all (fun n => s.f (Fld.hsmChStatus_state n) != 3 && s.f (Fld.hsmChStatus_state n) != 2) = true := by
    refine List.all_eq_true.2 (fun n hn => ?_)
    obtain ⟨htwo, hthree⟩ := htrained n (List.mem_range.1 hn)
    simp [htwo, hthree]
  unfold resume
  exact (if_neg (State.resumes hmay hloss)).trans ((if_neg (by omega)).trans (if_pos ⟨hstate, harea, hall⟩))

end

/-! ### Ledger, save areas and VAUX (R339, R343, R347) -/

section
variable {s : State} (h1 : s.saveState ≠ 1) (h2 : s.saveState ≠ 2) (h4 : s.saveState ≠ 4) (hheld : s.isHeld = false)
include h1 h2 h4 hheld

theorem State.ledgerRuns : ¬ (s.saveState = 1 ∨ s.saveState = 2 ∨ s.saveState = 4 ∨ s.isHeld = true) := by
  simp [h1, h2, h4, hheld]

theorem ledgerWrite_repair {a b row : Nat} {l : List (Nat × Nat × Nat)} (hnext : s.comp.keepRepairs = (a, b, row) :: l) :
    ledgerWrite s = (s.setComp { s.comp with keepRepairs := l }).setKeep
      (s.keep.write ⟨1, a, b + 256 * row, s.keep.seq, s.now⟩) := by
  unfold ledgerWrite
  rw [if_neg (State.ledgerRuns h1 h2 h4 hheld), hnext]

section
variable (hrepairs : s.comp.keepRepairs = [])
include hrepairs

theorem ledgerWrite_switch {c e : Nat} {l : List (Nat × Nat)} (hnext : s.comp.keepSwitches = (c, e) :: l) :
    ledgerWrite s = (s.setComp { s.comp with keepSwitches := l }).setKeep (s.keep.write ⟨2, c, e, s.keep.seq, s.now⟩) := by
  unfold ledgerWrite
  rw [if_neg (State.ledgerRuns h1 h2 h4 hheld), hrepairs, hnext]

theorem ledgerWrite_owed {e : LedgerEntry} {l : List LedgerEntry} (hswitches : s.comp.keepSwitches = [])
    (hnext : s.keep.owed = e :: l) :
    ledgerWrite s = s.setKeep { (s.keep.write e) with owed := l } := by
  unfold ledgerWrite
  rw [if_neg (State.ledgerRuns h1 h2 h4 hheld), hrepairs, hswitches, hnext]

end
end

theorem saveAreaErase_runs {s : State} (h1 : s.saveState ≠ 1) (h4 : s.saveState ≠ 4) :
    saveAreaErase s = (s.setKeep s.keep.eraseOld).enterRun := if_neg (by simp [h1, h4])

/-- THERMTRIP_N released. -/
def State.tripReleased (s : State) : State := (s.setPower { s.power with tripWire := false }).put Fld.thmStatus_trip 0

theorem vauxLoss_eq (s : State) :
    vauxLoss s = if s.tripReleased.saveState = 1 then s.tripReleased.put Fld.thmSaveStatus_state 4 else s.tripReleased := rfl

/-- Settles O45: each command by its equation in the case at hand; THM_SAVE_STATUS is followed through what a save does. -/
theorem savesStartCommitAndResume : Obligations.SavesStartCommitAndResume := by
  unfold Obligations.SavesStartCommitAndResume
  refine ⟨?warn, ?warnLost, ?glitch, ?commit, ?lossSaving, ?lossSaved, ?resumes, ?runs, ?test, ?repair, ?switch, ?owed, ?erase,
    ?vaux⟩
  case warn =>
    intro s t hlive hstate hheld ht
    have heq := (holdWarnAssert_starts hlive hstate hheld).trans ht.symm
    have hext : Ext 1863812 s t := heq ▸ holdWarnAssert_ext rfl (.refl _ s)
    have hkeep := (s.put Fld.thmSaveStatus_warn 1).saveStart_keep 0
    rw [State.put_keep] at hkeep
    refine ⟨congrArg Host.Outcome.next heq, ht ▸ State.saveStart_saveState _ _, ?_, ?_, ?_, hext.sameHbm rfl, hext.ctl rfl⟩
    · rw [ht, hkeep]
    · rw [ht, hkeep]
    · rw [ht, hkeep]
      rfl
  case warnLost =>
    intro s t hlive hlost hnot ht
    have hext : Ext 24580 s t := ht ▸ (State.put_ext rfl (.refl _ s)).trans (State.lost_ext _)
    exact ⟨congrArg Host.Outcome.next ((holdWarnAssert_lost hlive hlost hnot).trans ht.symm), ht ▸ State.goLost_saveState _,
      hext.sameHbm rfl, hext.ctl rfl, hext.keep rfl⟩
  case glitch =>
    intro s t ht
    have hext : Ext 4 s t := ht ▸ State.put_ext rfl (.refl _ s)
    exact ⟨congrArg Host.Outcome.next ht.symm, hext.sameHbm rfl, hext.ctl rfl, hext.keep rfl, hext.power rfl⟩
  case commit =>
    intro s a hl hstate harea
    obtain ⟨hrun, hext⟩ := hl.answers (M := 1056902) (saveCommit_saving hstate harea) (saveCommit_ext rfl (.refl _ s))
    refine ⟨_, hrun, State.saveCommitted_saveState _ _, ?_, State.saveCommitted_cause _ _, hext.sameHbm rfl, hext.ctl rfl⟩
    rw [State.saveCommitted_keep]
    exact State.saveProgrammed_area s a
  case lossSaving =>
    intro s t hlive hstate ht
    have hext : Ext 24708 s t := ht ▸ (State.put_ext rfl (State.event_ext rfl (.refl _ s))).trans ((State.lost_ext _).mono rfl)
    exact ⟨congrArg Host.Outcome.next ((holdLossAssert_saving hlive hstate).trans ht.symm), ht ▸ State.goLost_saveState _,
      hext.sameHbm rfl, hext.ctl rfl, hext.keep rfl⟩
  case lossSaved =>
    intro s t hlive hstate ht
    have hext : Ext 24580 s t := ht ▸ (State.put_ext rfl (.refl _ s)).trans (State.lost_ext _)
    exact ⟨congrArg Host.Outcome.next ((holdLossAssert_saved hlive hstate).trans ht.symm), ht ▸ State.goLost_saveState _,
      hext.sameHbm rfl, hext.ctl rfl, hext.keep rfl⟩
  case resumes =>
    intro s moved hl hmay hloss hstate
    have hext := s.resuming_ext (moved.map Fin.val)
    refine ⟨_, hl.runs (resume_saved hmay hloss _ hstate), State.resuming_saveState _ _, ?_, hext.power rfl, hext.mem rfl⟩
    exact congrArg (· != 0) (State.f_put_zero_self _ _)
  case runs =>
    intro s moved hl hmay hloss hstate harea htrained
    have hext := s.runAgain_ext
    refine ⟨s.runAgain, _, hl.runs (resume_trained hmay hloss _ hstate harea htrained), rfl, s.runAgain_saveState,
      s.runAgain_ramp, ?_, hext.sameHbm rfl⟩
    rw [(State.ringResume_ext (M₀ := 229622) rfl (.refl _ s.runAgain)).power rfl, s.runAgain_ramp]
  case test =>
    intro s w t hl haccepts hstate hheld ht
    obtain ⟨hrun, hext⟩ := hl.answers (M := 1863812)
      (((thmSaveTest_go haccepts).trans (State.saveTrigger_starts hl 2 hstate hheld)).trans ht.symm)
        (thmSaveTest_ext rfl (.refl _ s))
    refine ⟨hrun, ht ▸ State.saveStart_saveState _ _, ?_, hext.sameHbm rfl, hext.ctl rfl⟩
    rw [ht, State.saveStart_keep]
  case repair =>
    intro s a b row l t hl h1 h2 h4 hheld hnext ht
    obtain ⟨hrun, hext⟩ := hl.answers (M := 1064960) ((ledgerWrite_repair h1 h2 h4 hheld hnext).trans ht.symm)
      (ledgerWrite_ext rfl (.refl _ s))
    exact ⟨hrun, hext.sameHbm rfl, hext.ctl rfl, hext.regs rfl⟩
  case switch =>
    intro s c e l t hl h1 h2 h4 hheld hrepairs hnext ht
    obtain ⟨hrun, hext⟩ := hl.answers (M := 1064960) ((ledgerWrite_switch h1 h2 h4 hheld hrepairs hnext).trans ht.symm)
      (ledgerWrite_ext rfl (.refl _ s))
    exact ⟨hrun, hext.sameHbm rfl, hext.ctl rfl, hext.regs rfl⟩
  case owed =>
    intro s e l t hl h1 h2 h4 hheld hrepairs hswitches hnext ht
    have hext : Ext 1048576 s t := ht ▸ State.setKeep_ext rfl (.refl _ s)
    exact ⟨hl.runs ((ledgerWrite_owed h1 h2 h4 hheld hrepairs hswitches hnext).trans ht.symm), hext.sameHbm rfl, hext.ctl rfl,
      hext.regs rfl, hext.comp rfl⟩
  case erase =>
    intro s t hl h1 h4 ht
    obtain ⟨hrun, hext⟩ := hl.answers (M := 1048580) ((saveAreaErase_runs h1 h4).trans ht.symm) (saveAreaErase_ext rfl (.refl _ s))
    exact ⟨hrun, hext.sameHbm rfl, hext.ctl rfl, hext.power rfl⟩
  case vaux =>
    intro s t ht
    have heq := (vauxLoss_eq s).trans ht.symm
    have hext : Ext 4718596 s t := heq ▸ vauxLoss_ext rfl (.refl _ s)
    have hsaved (u : State) : (u.put Fld.thmSaveStatus_state 4).f Fld.thmStatus_trip = u.f Fld.thmStatus_trip :=
      State.f_put_ne (r := Fld.thmSaveStatus_state) u 4 (by decide)
    have hreleased : s.tripReleased.power.tripWire = false ∧ s.tripReleased.f Fld.thmStatus_trip = 0 := by
      unfold State.tripReleased
      exact ⟨by rw [State.put_power, State.setPower_power], State.f_put_zero_self _ _⟩
    obtain ⟨hwire, htrip⟩ := hreleased
    refine ⟨congrArg Host.Outcome.next heq, ?_, ?_, hext.sameHbm rfl, hext.ctl rfl, hext.keep rfl, hext.comp rfl⟩
    · rw [← heq, vauxLoss_eq]
      split
      · rw [State.put_power, hwire]
      · exact hwire
    · rw [← heq, vauxLoss_eq]
      unfold State.flag
      split
      · rw [hsaved, htrip]
        rfl
      · rw [htrip]
        rfl

end Sys2Proof.Machine
end

section
/-!
Start-up (R365 to R369, R348): each stage's command by its equation in the case at hand.
-/
namespace Sys2Proof.Machine

/-! ### The NOR is read (R365, R368) -/

section
variable {s : State} (hstage : s.startingAt 1 = true) (hcs : s.xspiCsHigh = false)
include hstage hcs

theorem State.norRuns : ¬ (s.startingAt 1 = false ∨ s.xspiCsHigh = true) := by
  rw [hstage, hcs]
  decide

theorem norReadDone_noImage (hnone : chooseDir s.fuses s.norRead = none ∨
      ∃ c d, chooseDir s.fuses s.norRead = some (c, d) ∧ (d.checkSections s.fuses s.norRead).isSome = true) :
    norReadDone s = s.enterRecovery := by
  unfold norReadDone
  rw [if_neg (State.norRuns hstage hcs)]
  obtain h | ⟨c, d, h, hbad⟩ := hnone
  · rw [h]
  · rw [h]
    exact if_pos hbad

section
variable {c : Nat} {d : Dir} (hdir : chooseDir s.fuses s.norRead = some (c, d)) (hgood : d.checkSections s.fuses s.norRead = none)
  {u : State} (hu : u = (s.runImage c d).extend 1 (d.digest 1))
include hdir hgood hu

theorem norReadDone_trains {v : State} (hsection : u.bootSection d 2 2 = some v) : norReadDone s = v.setStage 3 := by
  subst hu
  unfold norReadDone
  simp only [if_neg (State.norRuns hstage hcs), hdir, hgood, Option.isSome_none, Bool.false_eq_true, if_false, hsection]

theorem norReadDone_badSection (hsection : u.bootSection d 2 2 = none) :
    norReadDone s = (u.extend 2 (d.digest 2)).bootFail BRes.badFormat := by
  subst hu
  unfold norReadDone
  simp only [if_neg (State.norRuns hstage hcs), hdir, hgood, Option.isSome_none, Bool.false_eq_true, if_false, hsection]

end
end

/-! ### HBM training and self-tests (R369) -/

/-- Channels, arrays and dies in service or not, by their training and tests, and the partitions that can start started. -/
def State.tested (s : State) (channels arrays : List Nat) (dies : Nat) : State :=
  (((channels.foldl (fun t n => t.mapoutNow (n / 32) (n % 32) true) ((s.trained channels).arraysTested arrays)).selfTestFail
    dies).capacityUpdate).inventoryUpdate.startParts

section
variable {s : State} (hstage : s.startingAt 3 = true) {channels arrays : List Nat} {dies : Nat}
include hstage

theorem hbmTrainingDone_other : hbmTrainingDone channels arrays dies true s = (s.tested channels arrays dies).bootFail 0 := by
  unfold hbmTrainingDone
  exact if_neg (by simp [hstage])

theorem hbmTrainingDone_good {v : State} (hsections : (s.tested channels arrays dies).bootSections s.boot.runDir = some v) :
    hbmTrainingDone channels arrays dies false s =
      (List.range 12).foldl (fun t n => t.startTraining n) (v.modesUpdate.setStage 4) := by
  unfold State.tested at hsections
  unfold hbmTrainingDone
  simp only [hstage, Bool.true_eq_false, Bool.false_eq_true, if_false, hsections]

theorem hbmTrainingDone_badSection (hsections : (s.tested channels arrays dies).bootSections s.boot.runDir = none) :
    hbmTrainingDone channels arrays dies false s = (s.tested channels arrays dies).bootFail BRes.badFormat := by
  have hsections' := hsections
  unfold State.tested at hsections'
  unfold hbmTrainingDone
  simp only [hstage, Bool.true_eq_false, Bool.false_eq_true, if_false, hsections']
  rfl

end

/-! ### The keep-area restore (R348) -/

/-- The flash shown and the ledger of the keep area applied. -/
def State.ledgerApplied (s : State) (flashBytes : Nat) : State :=
  ((((liveLedger s.keep.ledger).foldl (fun t e => t.applyLedger e)
    (((((s.setStage 5).put Fld.snapFlashCfg_keep_ok 1).wr Reg.snapFlashCap flashBytes).put
      Fld.snapFlashStatus_state 1).flashShow.resumeCounts)).reviseVcore).inventoryUpdate.startParts)

section
variable {s : State} (hstage : s.startingAt 4 = true) {channels blockBytes flashBytes : Nat}
include hstage

theorem keepAreaRestore_short (hshort : channels % 256 ≠ 255 ∨ 8 * s.f Fld.snapFlashCfg_keep_blocks * blockBytes < 20 * 2 ^ 20) :
    keepAreaRestore channels blockBytes flashBytes s = ((s.setStage 5).put Fld.snapFlashCfg_keep_ok 0).generic Blk.snap none
      Reg.snapFlashCfg (s.f Fld.snapFlashCfg_keep_blocks) 0 := by
  unfold keepAreaRestore
  exact (if_neg (by simp [hstage])).trans (if_pos hshort)

section
variable (hchannels : channels % 256 = 255) (hroom : 20 * 2 ^ 20 ≤ 8 * s.f Fld.snapFlashCfg_keep_blocks * blockBytes)
include hchannels hroom

omit hstage in
theorem State.keepArea_whole : ¬ (channels % 256 ≠ 255 ∨ 8 * s.f Fld.snapFlashCfg_keep_blocks * blockBytes < 20 * 2 ^ 20) := by
  omega

theorem keepAreaRestore_noRecord (hnewest : s.keep.newest = none) {u : State} (hu : u = s.ledgerApplied flashBytes) :
    keepAreaRestore channels blockBytes flashBytes s = (u.setKeep u.keep.eraseOld).enterRun := by
  subst hu
  unfold keepAreaRestore
  refine (if_neg (by simp [hstage])).trans ((if_neg (State.keepArea_whole hchannels hroom)).trans ?_)
  rw [hnewest]
  rfl

theorem keepAreaRestore_record {a : Nat} {r : SaveRec} (hnewest : s.keep.newest = some (a, r)) {v : State}
    (hv : v = (((s.ledgerApplied flashBytes).restartMigrations (r.section_ 4)).restoreLog r).reportLoss r) :
    keepAreaRestore channels blockBytes flashBytes s = (v.setKeep v.keep.eraseOld).enterRun := by
  subst hv
  unfold keepAreaRestore
  refine (if_neg (by simp [hstage])).trans ((if_neg (State.keepArea_whole hchannels hroom)).trans ?_)
  rw [hnewest]
  rfl

end
end

/-! ### READY (R357, R366, R368) -/

theorem startupReady_ready {s u v : State} (hl : s.Live) (hstage : s.stage = 5) (hsave : s.saveState = 0) (hheld : s.isHeld = false)
    (hu : u = ((((s.setStage 6).put Fld.bootStatus_ready_ms (s.now / 475000)).openEntries.newTag 0).newTag 1))
    (hv : v = (if Dir.commitSvn s.boot.runDir then u.raiseSvn (Dir.svn s.boot.runDir) else u).modesUpdate) :
    startupReady s = if v.qpReady 0 then v.request 0 (.send 0 (some v.node) (toLE 8 v.fuses.serial ++
        toLE 8 (Dir.generation v.boot.runDir) ++ toLE 8 (Dir.fwVersion v.boot.runDir) ++ toLE 4 (s.now / 475000) ++ toLE 36 0)) 64 0
      else v := by
  subst hv hu
  unfold startupReady
  refine if_neg ?_
  rw [hstage, hsave, hheld, hl]
  decide

/-- Settles O50: each stage's command by its equation in the case at hand. -/
theorem startUpRunsStageByStage : Obligations.StartUpRunsStageByStage := by
  unfold Obligations.StartUpRunsStageByStage
  refine ⟨?recovery, ?trains, ?badSection, ?other, ?good, ?bad, ?short, ?noRecord, ?record, ?ready⟩
  case recovery =>
    intro s t hl hstage hcs hnone ht
    obtain ⟨hrun, hext⟩ := hl.answers (M := 132228) ((norReadDone_noImage hstage hcs hnone).trans ht.symm)
      (norReadDone_ext rfl (.refl _ s))
    exact ⟨hrun, ht ▸ State.setStage_stage _ (by decide), hext.sameHbm rfl, hext.ctl rfl, hext.comp rfl⟩
  case trains =>
    intro s c d u v t hl hstage hcs hdir hgood hu hsection ht
    obtain ⟨hrun, hext⟩ := hl.answers (M := 132228) ((norReadDone_trains hstage hcs hdir hgood hu hsection).trans ht.symm)
      (norReadDone_ext rfl (.refl _ s))
    exact ⟨hrun, ht ▸ State.setStage_stage _ (by decide), hext.sameHbm rfl, hext.ctl rfl, hext.comp rfl⟩
  case badSection =>
    intro s c d u t hl hstage hcs hdir hgood hu hsection ht
    obtain ⟨hrun, hext⟩ := hl.answers (M := 132228) ((norReadDone_badSection hstage hcs hdir hgood hu hsection).trans ht.symm)
      (norReadDone_ext rfl (.refl _ s))
    exact ⟨hrun, hext.sameHbm rfl, hext.ctl rfl, hext.comp rfl⟩
  case other =>
    intro s channels arrays dies u t hl hstage hu ht
    subst hu
    exact hl.runs ((hbmTrainingDone_other hstage).trans ht.symm)
  case good =>
    intro s channels arrays dies u v t hl hstage hu hsections ht
    subst hu
    exact hl.runs ((hbmTrainingDone_good hstage hsections).trans ht.symm)
  case bad =>
    intro s channels arrays dies u t hl hstage hu hsections ht
    subst hu
    exact hl.runs ((hbmTrainingDone_badSection hstage hsections).trans ht.symm)
  case short =>
    intro s channels blockBytes flashBytes t hl hstage hshort ht
    have hext : Ext 132 s t := ht ▸ State.generic_ext rfl (State.put_ext rfl (State.setStage_ext rfl (.refl _ s)))
    refine ⟨hl.runs ((keepAreaRestore_short hstage ?_).trans ht.symm), hext.sameHbm rfl, hext.keep rfl⟩
    rwa [Nat.mod_eq_of_lt channels.isLt]
  case noRecord =>
    intro s channels blockBytes flashBytes u t hl hstage hchannels hroom hu hnewest ht
    have hmod : channels.val % 256 = 255 := (Nat.mod_eq_of_lt channels.isLt).trans hchannels
    exact hl.runs ((keepAreaRestore_noRecord hstage hmod hroom hnewest hu).trans ht.symm)
  case record =>
    intro s channels blockBytes flashBytes u v a r t hl hstage hchannels hroom hu hnewest hv ht
    subst hu
    have hmod : channels.val % 256 = 255 := (Nat.mod_eq_of_lt channels.isLt).trans hchannels
    exact hl.runs ((keepAreaRestore_record hstage hmod hroom hnewest hv).trans ht.symm)
  case ready =>
    intro s u v t hl hstage hsave hheld hu hv ht
    obtain ⟨hrun, hext⟩ := hl.answers (M := 774) ((startupReady_ready hl hstage hsave hheld hu hv).trans ht.symm)
      (startupReady_ext rfl (.refl _ s))
    exact ⟨hrun, hext.sameHbm rfl, hext.ctl rfl⟩

end Sys2Proof.Machine
end

section
/-!
The host port (R350 to R360): frames, acknowledgements and retries, queue pairs and memory entries, and RDMA accesses.
-/
namespace Sys2Proof.Machine

/-! ### Frames that are not RoCEv2 (R351) -/

section
variable {s : State} (hup : s.hpUp = true)
include hup

theorem arpRequest_answered (mac ip : Nat) {target : Nat} (h : s.f Fld.hostCfg_ipv6 = 0 ∧ target = s.f Fld.hostCfg_ipv4 ∧
    s.f Fld.bootStatus_stage ≠ 7) : arpRequest mac ip target s = s.emit (.arpReply mac ip) :=
  (if_neg (ne_false_of_eq_true hup)).trans (if_pos h)

theorem arpRequest_dropped (mac ip : Nat) {target : Nat} (h : s.f Fld.hostCfg_ipv6 ≠ 0 ∨ target ≠ s.f Fld.hostCfg_ipv4 ∨
    s.f Fld.bootStatus_stage = 7) : arpRequest mac ip target s = s.bumpSat Fld.hostErr_non_roce 1 := by
  refine (if_neg (ne_false_of_eq_true hup)).trans (if_neg ?_)
  rintro ⟨h4, htarget, hstage⟩
  obtain h | h | h := h
  · exact h h4
  · exact h htarget
  · exact hstage h

theorem neighbourSolicitation_answered (mac : Nat) (ip : List Byte) {target : List Byte}
    (h6 : s.f Fld.hostCfg_ipv6 = 1 ∨ s.f Fld.bootStatus_stage = 7) (htarget : target = s.localGid) :
    neighbourSolicitation mac ip target s = s.emit (.neighbourAdvert mac ip) :=
  (if_neg (ne_false_of_eq_true hup)).trans (if_pos ⟨h6, htarget⟩)

theorem neighbourSolicitation_dropped (mac : Nat) (ip : List Byte) {target : List Byte} (htarget : target ≠ s.localGid) :
    neighbourSolicitation mac ip target s = s.bumpSat Fld.hostErr_non_roce 1 :=
  (if_neg (ne_false_of_eq_true hup)).trans (if_neg fun h => htarget h.2)

theorem nonRoceFrame_counted : nonRoceFrame s = s.bumpSat Fld.hostErr_non_roce 1 := if_pos hup

/-! ### Acknowledgements and responses (R353) -/

section
variable {q : Nat} (hq : q ≤ 2047)
include hq

theorem State.qpTakes : ¬ (s.hpUp = false ∨ 2047 < q) := by
  rw [hup]
  simpa using hq

theorem acknowledgeCmd_notReady (psn : Nat) (nak : Option NakKind) (hstate : s.f (Fld.hostQpCfg_state q) ≠ 1) :
    acknowledgeCmd q psn nak s = s.bumpSat (Fld.hostQpStat_dropped q) 1 :=
  (if_neg (State.qpTakes hup hq)).trans (if_pos hstate)

section
variable (hready : s.f (Fld.hostQpCfg_state q) = 1)
include hready

/-- What an acknowledgement, or a refusal, does to a queue pair that is READY. -/
def State.acknowledged (s : State) (q psn : Nat) : Option NakKind → State
  | none => s.acknowledge q psn
  | some .sequence => (s.acknowledge q ((2 ^ 24 + psn - 1) % 2 ^ 24)).goBack q psn
  | some .invalidRequest => s.qpError q 2
  | some .remoteAccess => s.qpError q 3
  | some .remoteOperational => (s.qpError q ((Config.freeWord s.fresh).toNat % 4)).useFresh 1

theorem acknowledgeCmd_ready (psn : Nat) (nak : Option NakKind) : acknowledgeCmd q psn nak s = s.acknowledged q psn nak := by
  unfold acknowledgeCmd
  refine (if_neg (State.qpTakes hup hq)).trans ((if_neg (not_not.2 hready)).trans ?_)
  cases nak with
  | none => rfl
  | some kind => cases kind <;> rfl

theorem readResponse_oldest {psn : Nat} {data : List Byte} {r : HpReq} {rq rk ra : Nat}
    (hfind : (s.qp q).tx.find? HpReq.isRead = some r) (hmsg : r.msg = .readReq rq rk ra data.length) (hpsn : r.psn = psn)
    (hnone : s.snap.restore = none) : readResponse q psn data s = (s.setQp q { s.qp q with
      tx := (s.qp q).tx.filter (fun y => psnGe y.psn r.psn && y.psn != r.psn), tries := 0, since := s.now }).progress q := by
  unfold readResponse
  refine (if_neg (State.qpTakes hup hq)).trans ((if_neg (not_not.2 hready)).trans ?_)
  simp only [hfind, hmsg, hpsn, ne_eq, not_true_eq_false, or_self, if_false]
  have hsnap (x : QpState) : (s.setQp q x).snap.restore = none := hnone
  simp only [hsnap]

end
end
end

/-! ### Requests that arrive, and time-outs (R352, R353) -/

theorem incomingSend_refused {s u : State} {q psn : Nat} {ce : Bool} {turn : Turn} (hstage : s.f Fld.bootStatus_stage ≠ 7)
    (harrive : s.arrive q psn ce = (u, turn)) (hturn : turn ≠ Turn.dropped) :
    incomingSend q psn ce s = (u.emit (.nak q psn .invalidRequest)).qpError q 2 := by
  unfold incomingSend
  rw [if_neg hstage, harrive]
  cases turn with
  | dropped => exact absurd rfl hturn
  | again => rfl
  | ahead => rfl
  | next => rfl

theorem incomingSend_dropped {s u : State} {q psn : Nat} {ce : Bool} (hstage : s.f Fld.bootStatus_stage ≠ 7)
    (harrive : s.arrive q psn ce = (u, Turn.dropped)) : incomingSend q psn ce s = u := by
  unfold incomingSend
  rw [if_neg hstage, harrive]

section
variable {s : State} {q : Nat} {r : HpReq} {l : List HpReq} (htx : (s.qp q).tx = r :: l) (hready : s.f (Fld.hostQpCfg_state q) = 1)
  (hlate : 19456 * 2 ^ s.f (Fld.hostQpCfg_timeout q) ≤ 10 * (s.now - (s.qp q).since))
include htx hready hlate

theorem retransmitTimeout_due : retransmitTimeout q s = s.goBack q r.psn := by
  unfold retransmitTimeout
  simp only [htx]
  exact if_pos ⟨hready, hlate⟩

end

theorem State.goBack_retries {s : State} {q : Nat} (psn : Nat) (htries : (s.qp q).tries < s.f (Fld.hostQpCfg_retry_cnt q)) :
    s.goBack q psn = ((s.qp q).tx.filter (fun x => psnGe (x.psn + x.packets - 1) psn)).foldl (fun t x => t.emit x.msg)
      ((s.setQp q { s.qp q with tries := (s.qp q).tries + 1, since := s.now }).bumpSat (Fld.hostQpStat_retransmits q) 1) :=
  if_neg (Nat.not_le.2 htries)

theorem State.goBack_gives {s : State} {q : Nat} (psn : Nat) (htries : s.f (Fld.hostQpCfg_retry_cnt q) ≤ (s.qp q).tries) :
    s.goBack q psn = s.qpError q 1 := if_pos htries

/-- An acknowledgement or a refusal that a queue pair takes leaves the memory and the engines. -/
theorem State.Live.acknowledges {s t : State} {q psn : BitVec 24} {nak : Option NakKind} (hl : s.Live) (hup : s.hpUp = true)
    (hq : q.toNat ≤ 2047) (hready : s.f (Fld.hostQpCfg_state q.toNat) = 1) (ht : t = s.acknowledged q.toNat psn.toNat nak) :
    exec (.acknowledge q psn nak) s = .next t ∧ s.SameHbm t ∧ t.comp = s.comp := by
  obtain ⟨hrun, hext⟩ := hl.answers (M := 263622) ((acknowledgeCmd_ready hup hq hready _ nak).trans ht.symm)
    (acknowledgeCmd_ext rfl (.refl _ s))
  exact ⟨hrun, hext.sameHbm rfl, hext.comp rfl⟩

/-- Settles O46: each command by its equation in the case at hand. -/
theorem hostFramesAcknowledgementsAndRetries : Obligations.HostFramesAcknowledgementsAndRetries := by
  unfold Obligations.HostFramesAcknowledgementsAndRetries
  refine ⟨?arp, ?arpDropped, ?neighbour, ?neighbourDropped, ?nonRoce, ?send, ?sendDropped, ?ack, ?sequence, ?invalid, ?access,
    ?operational, ?notReady, ?response, ?retries, ?gives⟩
  case arp =>
    intro s m ip target t hl hup h6 htarget hstage ht
    have hext : Ext 256 s t := ht ▸ State.emit_ext rfl (.refl _ s)
    exact ⟨hl.runs ((arpRequest_answered hup _ _ ⟨h6, htarget, hstage⟩).trans ht.symm), hext.sameHbm rfl, hext.ctl rfl,
      hext.comp rfl, hext.regs rfl⟩
  case arpDropped =>
    intro s m ip target t hl hup hnot ht
    have hext : Ext 4 s t := ht ▸ State.bumpSat_ext rfl (.refl _ s)
    exact ⟨hl.runs ((arpRequest_dropped hup _ _ hnot).trans ht.symm), hext.sameHbm rfl, hext.ctl rfl, hext.comp rfl, hext.hp rfl⟩
  case neighbour =>
    intro s m ip target t hl hup h6 htarget ht
    have hext : Ext 256 s t := ht ▸ State.emit_ext rfl (.refl _ s)
    exact ⟨hl.runs ((neighbourSolicitation_answered hup _ _ h6 htarget).trans ht.symm), hext.sameHbm rfl, hext.ctl rfl,
      hext.comp rfl, hext.regs rfl⟩
  case neighbourDropped =>
    intro s m ip target t hl hup htarget ht
    have hext : Ext 4 s t := ht ▸ State.bumpSat_ext rfl (.refl _ s)
    exact ⟨hl.runs ((neighbourSolicitation_dropped hup _ _ htarget).trans ht.symm), hext.sameHbm rfl, hext.ctl rfl, hext.comp rfl,
      hext.hp rfl⟩
  case nonRoce =>
    intro s t hl hup ht
    have hext : Ext 4 s t := ht ▸ State.bumpSat_ext rfl (.refl _ s)
    exact ⟨hl.runs ((nonRoceFrame_counted hup).trans ht.symm), hext.sameHbm rfl, hext.ctl rfl, hext.comp rfl, hext.hp rfl⟩
  case send =>
    intro s q psn ce u turn t hl hstage harrive hturn ht
    obtain ⟨hrun, hext⟩ := hl.answers (M := 263620) ((incomingSend_refused hstage harrive hturn).trans ht.symm)
      (incomingSend_ext rfl (.refl _ s))
    exact ⟨hrun, hext.sameHbm rfl, hext.comp rfl⟩
  case sendDropped =>
    intro s q psn ce u t hl hstage harrive ht
    obtain ⟨hrun, hext⟩ := hl.answers (M := 263620) ((incomingSend_dropped hstage harrive).trans ht.symm)
      (incomingSend_ext rfl (.refl _ s))
    exact ⟨hrun, hext.sameHbm rfl, hext.comp rfl⟩
  case ack =>
    intro s q psn t hl hup hq hready ht
    exact hl.acknowledges (nak := none) hup hq hready ht
  case sequence =>
    intro s q psn t hl hup hq hready ht
    exact hl.acknowledges (nak := some .sequence) hup hq hready ht
  case invalid =>
    intro s q psn t hl hup hq hready ht
    exact hl.acknowledges (nak := some .invalidRequest) hup hq hready ht
  case access =>
    intro s q psn t hl hup hq hready ht
    exact hl.acknowledges (nak := some .remoteAccess) hup hq hready ht
  case operational =>
    intro s q psn t hl hup hq hready ht
    exact hl.acknowledges (nak := some .remoteOperational) hup hq hready ht
  case notReady =>
    intro s q psn nak t hl hup hq hstate ht
    have hext : Ext 4 s t := ht ▸ State.bumpSat_ext rfl (.refl _ s)
    exact ⟨hl.runs ((acknowledgeCmd_notReady hup hq _ nak hstate).trans ht.symm), hext.sameHbm rfl, hext.comp rfl, hext.ctl rfl⟩
  case response =>
    intro s q psn data r rq rk ra u t hl hup hq hready hfind hmsg hpsn hnone hu ht
    subst hu
    obtain ⟨hrun, hext⟩ := hl.answers (M := 262468) ((readResponse_oldest hup hq hready hfind hmsg hpsn hnone).trans ht.symm)
      (readResponse_ext rfl (.refl _ s))
    exact ⟨hrun, hext.sameHbm rfl, hext.comp rfl⟩
  case retries =>
    intro s q r l t hl htx hready hlate htries ht
    obtain ⟨hrun, hext⟩ := hl.answers (M := 263620)
      (((retransmitTimeout_due htx hready hlate).trans (State.goBack_retries _ htries)).trans ht.symm)
        (retransmitTimeout_ext rfl (.refl _ s))
    exact ⟨hrun, hext.sameHbm rfl, hext.comp rfl⟩
  case gives =>
    intro s q r l t hl htx hready hlate htries ht
    obtain ⟨hrun, hext⟩ := hl.answers (M := 263620)
      (((retransmitTimeout_due htx hready hlate).trans (State.goBack_gives _ htries)).trans ht.symm)
        (retransmitTimeout_ext rfl (.refl _ s))
    exact ⟨hrun, hext.sameHbm rfl, hext.comp rfl⟩

end Sys2Proof.Machine
end

section
/-!
Queue pairs, memory entries and the host port (R350, R353 to R357).
-/
namespace Sys2Proof.Machine

/-! ### Congestion control (R354) -/

theorem cnpReceive_cuts {s : State} {q num den : Nat} (hup : s.hpUp = true) (hq : q ≤ 2047)
    (hready : s.f (Fld.hostQpCfg_state q) = 1)
    (hnum : num = (s.qp q).rateNum * (2 ^ ((s.qp q).alphaExp + 1) - (s.qp q).alphaNum))
    (hden : den = (s.qp q).rateDen * 2 ^ ((s.qp q).alphaExp + 1)) :
    cnpReceive q s = ((s.setQp q { s.qp q with
      rateNum := if num < s.f Fld.hostCcCfg_min_rate * den then s.f Fld.hostCcCfg_min_rate else num
      rateDen := if num < s.f Fld.hostCcCfg_min_rate * den then 1 else den
      alphaNum := (s.qp q).alphaNum * 2 ^ s.f Fld.hostCcCfg_g_log2 + (2 ^ (s.qp q).alphaExp - (s.qp q).alphaNum)
      alphaExp := (s.qp q).alphaExp + s.f Fld.hostCcCfg_g_log2
      rateAt := s.now }).bumpSat (Fld.hostQpStat_cnps q) 1).showRate q := by
  subst hnum hden
  unfold cnpReceive
  exact (if_neg (State.qpTakes hup hq)).trans (if_neg (not_not.2 hready))

theorem rateIncrease_due {s : State} {q num : Nat} (hready : s.f (Fld.hostQpCfg_state q) = 1)
    (hquiet : 26125 ≤ s.now - (s.qp q).rateAt)
    (hnum : num = (s.qp q).rateNum + s.f Fld.hostCcCfg_rai * (s.qp q).rateDen) :
    rateIncrease q s = (s.setQp q { s.qp q with
      rateNum := if lineRate * (s.qp q).rateDen < num then lineRate else num
      rateDen := if lineRate * (s.qp q).rateDen < num then 1 else (s.qp q).rateDen
      alphaNum := (s.qp q).alphaNum * (2 ^ s.f Fld.hostCcCfg_g_log2 - 1)
      alphaExp := (s.qp q).alphaExp + s.f Fld.hostCcCfg_g_log2
      rateAt := s.now }).showRate q := by
  subst hnum
  unfold rateIncrease
  exact if_neg (not_or.2 ⟨not_not.2 hready, Nat.not_lt.2 hquiet⟩)

/-! ### Queue pairs and memory entries (R353, R355, R357) -/

section
variable {s : State} {w : Writer} {q v : Nat}

theorem qpToReady_accepted (haccepts : s.Accepts w (Reg.hostQpCfg q) (setBits v 0 2 1)) : qpToReady w q v s =
    if q = 0 ∨ s.f (Fld.hostQpCfg_state q) ≠ 0 then s.badWrite (Reg.hostQpCfg q) (setBits v 0 2 1)
    else ((s.writeFields (Reg.hostQpCfg q) (setBits v 0 2 1)).put (Fld.hostQpStat_error q) 0).qpStart q := by
  unfold qpToReady
  exact State.regWrite_ok _ haccepts

/-- Ending SHIPs leaves a restore under way. -/
theorem State.endShips_restore (s : State) (q result : Nat) (all : Bool) :
    (s.endShips q result all).snap.restore = s.snap.restore := by
  have hfinish (t : State) (h : ShipRun) : (t.finish h.slot result).snap = t.snap :=
    (State.finish_ext (M₀ := 64) rfl (.refl _ t)).snap rfl
  unfold State.endShips
  rw [State.flashShow_snap]
  exact List.foldlRecOn _ _ (motive := fun t : State => t.snap.restore = s.snap.restore) rfl
    (fun t ht h _ => by rw [hfinish, ht])

/-- Queue pair q in RESET: its requests gone but the records held for it, and the SHIPs that were on it ended. -/
def State.qpReset (s : State) (q v : Nat) : State :=
  ((s.writeFields (Reg.hostQpCfg q) (setBits v 0 2 0)).setQp q
    { s.qp q with tx := (s.qp q).tx.filter HpReq.isRecord, tries := 0 }).endShips
    q Res.hwFault true

theorem qpToReset_accepted (haccepts : s.Accepts w (Reg.hostQpCfg q) (setBits v 0 2 0)) (hq : q ≠ 0)
    (hnone : s.snap.restore = none) :
    qpToReset w q v s = s.qpReset q v := by
  unfold qpToReset
  refine (State.regWrite_ok _ haccepts).trans ((if_neg hq).trans ?_)
  have hrestore : (s.qpReset q v).snap.restore = none := by
    have hfields : (s.writeFields (Reg.hostQpCfg q) (setBits v 0 2 0)).snap = s.snap :=
      (State.writeFields_ext (M₀ := 4) rfl (.refl _ s)).snap rfl
    unfold State.qpReset
    rw [State.endShips_restore, State.setQp_snap, hfields, hnone]
  unfold State.qpReset at hrestore ⊢
  simp only [hrestore]

/-- A register of entry k written, and the entry's tag drawn anew. -/
def State.entryWritten (s : State) (k off v : Nat) : State :=
  ((s.writeFields off v).put (Fld.hostMr2_tag k) (Config.randomWord s.fresh).toNat).useFresh 1

theorem State.writeFields_newTag (s : State) (k off v : Nat) : (s.writeFields off v).newTag k = s.entryWritten k off v := by
  unfold State.newTag State.entryWritten
  rw [(State.writeFields_ext (off := off) (v := v) (M₀ := 4) rfl (.refl _ s)).fresh rfl]

section
variable {k : Nat} (hk : 2 ≤ k)
include hk

theorem mrWrite_low (haccepts : s.Accepts w (Reg.hostMr0 k) v) : mrWrite w k 0 v s = s.entryWritten k (Reg.hostMr0 k) v := by
  unfold mrWrite
  exact (State.regWrite_ok _ haccepts).trans ((if_neg (Nat.not_lt.2 hk)).trans (s.writeFields_newTag _ _ _))

theorem mrWrite_high (haccepts : s.Accepts w (Reg.hostMr1 k) v) : mrWrite w k 1 v s = s.entryWritten k (Reg.hostMr1 k) v := by
  unfold mrWrite
  exact (State.regWrite_ok _ haccepts).trans ((if_neg (Nat.not_lt.2 hk)).trans (s.writeFields_newTag _ _ _))

end

theorem mrWrite_fixed {k half off : Nat} (hoff : off = if half = 0 then Reg.hostMr0 k else Reg.hostMr1 k)
    (haccepts : s.Accepts w off v)
    (hk : k < 2) : mrWrite w k half v s = s.badWrite off v := by
  subst hoff
  unfold mrWrite
  exact (State.regWrite_ok _ haccepts).trans (if_pos hk)

theorem State.entryWritten_tag (s : State) (k off v : Nat) :
    (s.entryWritten k off v).f (Fld.hostMr2_tag k) = (Config.randomWord s.fresh).toNat % 16777216 := by
  unfold State.entryWritten
  rw [State.useFresh_f, State.f_put_self (r := Fld.hostMr2_tag k) _ _ (by decide : 8 + 24 ≤ 64)]
  rfl

end

/-! ### The port (R350, R375) -/

section
variable {s : State}

theorem hpBringupRetry_locks {u v : State} (hl : s.Live) (hdown : s.hp.up = false) (hhalf : s.halfRestarts false = false)
    (htwo : 2 ≤ s.f Fld.bootStatus_stage) (height : s.f Fld.bootStatus_stage ≠ 8)
    (hu : u = (s.setHp { s.hp with up := true }).setPins { s.pins with sdrefP := true })
    (hv : v = if u.f (Fld.hostQpCfg_state 0) = 0 ∧ s.f Fld.bootStatus_stage ≠ 7
      then (u.put (Fld.hostQpCfg_state 0) 1).qpStart 0 else u) :
    hpBringupRetry true s = if v.isHeld then v else v.flushQueues.settle := by
  subst hv hu
  unfold hpBringupRetry
  refine if_neg ?_
  rw [hdown, hhalf, hl]
  simp only [Bool.false_eq_true, Bool.true_eq_false, false_or]
  omega

theorem hpBringupRetry_upOrRestarting (h : s.hp.up = true ∨ s.halfRestarts false = true) : hpBringupRetry true s = s := by
  unfold hpBringupRetry
  refine if_pos ?_
  obtain h | h := h
  · exact .inl h
  · exact .inr (.inr (.inl h))

theorem hpBringupRetry_noLock : hpBringupRetry false s = s := by
  unfold hpBringupRetry
  exact if_pos (.inr (.inl rfl))

end

/-- Settles O47: each command by its equation in the case at hand. -/
theorem queuePairsMemoryEntriesAndThePort : Obligations.QueuePairsMemoryEntriesAndThePort := by
  unfold Obligations.QueuePairsMemoryEntriesAndThePort
  refine ⟨?cnp, ?rate, ?ready, ?notReady, ?reset, ?low, ?high, ?fixed, ?lanes, ?locks, ?stays, ?noLock⟩
  case cnp =>
    intro s q num den t hl hup hq hready hnum hden ht
    obtain ⟨hrun, hext⟩ := hl.answers (M := 260) ((cnpReceive_cuts hup hq hready hnum hden).trans ht.symm)
      (cnpReceive_ext rfl (.refl _ s))
    exact ⟨hrun, hext.sameHbm rfl, hext.comp rfl, hext.ctl rfl⟩
  case rate =>
    intro s q num t hl hready hquiet hnum ht
    obtain ⟨hrun, hext⟩ := hl.answers (M := 260) ((rateIncrease_due hready hquiet hnum).trans ht.symm)
      (rateIncrease_ext rfl (.refl _ s))
    exact ⟨hrun, hext.sameHbm rfl, hext.comp rfl, hext.ctl rfl⟩
  case ready =>
    intro s w q v t hl haccepts hq hstate ht
    obtain ⟨hrun, hext⟩ := hl.answers (M := 37316)
      (((qpToReady_accepted haccepts).trans (if_neg (not_or.2 ⟨hq, not_not.2 hstate⟩))).trans ht.symm)
        (qpToReady_ext rfl (.refl _ s))
    exact ⟨hrun, hext.sameHbm rfl, hext.comp rfl⟩
  case notReady =>
    intro s w q v t hl haccepts hrefused ht
    have hext : Ext 132 s t := ht ▸ State.badWrite_ext rfl (.refl _ s)
    exact ⟨hl.runs (((qpToReady_accepted haccepts).trans (if_pos hrefused)).trans ht.symm), hext.sameHbm rfl, hext.comp rfl,
      hext.hp rfl⟩
  case reset =>
    intro s w q v t hl haccepts hq hnone ht
    obtain ⟨hrun, hext⟩ := hl.answers (M := 263620) ((qpToReset_accepted haccepts hq hnone).trans ht.symm)
      (qpToReset_ext rfl (.refl _ s))
    exact ⟨hrun, hext.sameHbm rfl, hext.comp rfl⟩
  case low =>
    intro s w k v t hl haccepts hk ht
    obtain ⟨hrun, hext⟩ := hl.answers (M := 134) ((mrWrite_low hk haccepts).trans ht.symm) (mrWrite_ext rfl (.refl _ s))
    exact ⟨hrun, ht ▸ s.entryWritten_tag _ _ _, hext.sameHbm rfl, hext.comp rfl, hext.ctl rfl⟩
  case high =>
    intro s w k v t hl haccepts hk ht
    obtain ⟨hrun, hext⟩ := hl.answers (M := 134) ((mrWrite_high hk haccepts).trans ht.symm) (mrWrite_ext rfl (.refl _ s))
    exact ⟨hrun, ht ▸ s.entryWritten_tag _ _ _, hext.sameHbm rfl, hext.comp rfl, hext.ctl rfl⟩
  case fixed =>
    intro s w k half v off t hl hoff haccepts hk ht
    have hext : Ext 132 s t := ht ▸ State.badWrite_ext rfl (.refl _ s)
    exact ⟨hl.runs ((mrWrite_fixed hoff haccepts hk).trans ht.symm), hext.sameHbm rfl, hext.comp rfl, hext.ctl rfl⟩
  case lanes =>
    intro s t hl ht
    have hext : Ext 256 s t := ht ▸ hpLaneLoss_ext rfl (.refl _ s)
    exact ⟨hl.runs ht.symm, by rw [ht]; rfl, hext.sameHbm rfl, hext.comp rfl, hext.ctl rfl, hext.regs rfl⟩
  case locks =>
    intro s u v t hl hdown hhalf htwo height hu hv ht
    obtain ⟨hrun, hext⟩ := hl.answers (M := 2134340) ((hpBringupRetry_locks hl hdown hhalf htwo height hu hv).trans ht.symm)
      (hpBringupRetry_ext rfl (.refl _ s))
    exact ⟨hrun, hext.sameHbm rfl, hext.comp rfl⟩
  case stays =>
    intro s t hl h ht
    exact hl.runs ((hpBringupRetry_upOrRestarting h).trans ht.symm)
  case noLock =>
    intro s t hl ht
    exact hl.runs (hpBringupRetry_noLock.trans ht.symm)

end Sys2Proof.Machine
end

section
/-!
RDMA accesses of the host (R352, R358 to R360): what an arriving request does by its turn, and what a memory key lets it reach.
-/
namespace Sys2Proof.Machine

/-! ### Writes -/

section
variable {s u : State} {q psn key addr : Nat} {data : List Byte} {ce : Bool} (hup : s.hpUp = true)
include hup

theorem incomingRdmaWrite_badIcrc : incomingRdmaWrite q psn key addr data false ce s = s.bumpSat Fld.hostErr_bad_icrc 1 :=
  (if_neg (ne_false_of_eq_true hup)).trans (if_pos rfl)

theorem incomingRdmaWrite_ahead (harrive : s.arrive q psn ce = (u, Turn.ahead)) : incomingRdmaWrite q psn key addr data true ce s =
    u.emit (.nak q (u.f (Fld.hostQpPsn_recv_psn q)) .sequence) := by
  unfold incomingRdmaWrite
  rw [if_neg (ne_false_of_eq_true hup), if_neg (by decide), harrive]

theorem incomingRdmaWrite_again (harrive : s.arrive q psn ce = (u, Turn.again)) : incomingRdmaWrite q psn key addr data true ce s =
    u.emit (.ack q (u.lastPsn psn data.length)) := by
  unfold incomingRdmaWrite
  rw [if_neg (ne_false_of_eq_true hup), if_neg (by decide), harrive]

theorem incomingRdmaWrite_dropped (harrive : s.arrive q psn ce = (u, Turn.dropped)) :
    incomingRdmaWrite q psn key addr data true ce s = u := by
  unfold incomingRdmaWrite
  rw [if_neg (ne_false_of_eq_true hup), if_neg (by decide), harrive]

section
variable (harrive : s.arrive q psn ce = (u, Turn.next)) (hdata : data ≠ [])
include harrive hdata

/-- A WRITE in its turn, by what the memory key makes of it. -/
theorem incomingRdmaWrite_next : incomingRdmaWrite q psn key addr data true ce s =
    match u.hostWrite q key addr data with
    | .ok v => (v.takePsn q (u.packetsOf data.length)).emit (.ack q (u.lastPsn psn data.length))
    | .error true => (u.windowHit q key addr data.length).accessNak q psn
    | .error false => u := by
  unfold incomingRdmaWrite
  rw [if_neg (ne_false_of_eq_true hup), if_neg (by decide), harrive]
  exact if_neg (mt List.isEmpty_iff.1 hdata)

theorem incomingRdmaWrite_stored {v : State} (hwrite : u.hostWrite q key addr data = .ok v) :
    incomingRdmaWrite q psn key addr data true ce s =
      (v.takePsn q (u.packetsOf data.length)).emit (.ack q (u.lastPsn psn data.length)) := by
  rw [incomingRdmaWrite_next hup harrive hdata, hwrite]

theorem incomingRdmaWrite_refused (hwrite : u.hostWrite q key addr data = .error true) :
    incomingRdmaWrite q psn key addr data true ce s = (u.windowHit q key addr data.length).accessNak q psn := by
  rw [incomingRdmaWrite_next hup harrive hdata, hwrite]

theorem incomingRdmaWrite_unanswered (hwrite : u.hostWrite q key addr data = .error false) :
    incomingRdmaWrite q psn key addr data true ce s = u := by
  rw [incomingRdmaWrite_next hup harrive hdata, hwrite]

end
end

/-! ### What a memory key lets a WRITE reach (R357, R358) -/

section
variable {s : State} {q key addr k : Nat} {data : List Byte} (hstage : s.stage ≠ 7)
include hstage

theorem State.hostWrite_noEntry (hentry : s.entryOf key = none) : s.hostWrite q key addr data = .error true := by
  unfold State.hostWrite
  rw [if_neg hstage, hentry]

section
variable (hentry : s.entryOf key = some k)
include hentry

theorem State.hostWrite_notAllowed (hallows : s.entryAllows q k addr data.length true = false) :
    s.hostWrite q key addr data = .error true := by
  unfold State.hostWrite
  rw [if_neg hstage, hentry]
  exact if_pos hallows

section
variable (hallows : s.entryAllows q k addr data.length true = true) (hk : 2 ≤ k) (hsave : s.saveState = 0)
include hallows hk hsave

/-- HBM through an entry of its own, outside a save. -/
theorem State.hostWrite_hbm : s.hostWrite q key addr data =
    if s.entryOwns k addr data.length = false then .error true
    else if s.inWindow (s.f (Fld.hostMr0_partition k)) addr data.length then .error true
    else .ok (State.guardRungs s ((s.store addr data).countRemote addr data.length)) := by
  unfold State.hostWrite
  rw [if_neg hstage, hentry]
  refine (if_neg (ne_false_of_eq_true hallows)).trans ?_
  rw [if_neg (by omega), if_neg (not_not.2 hsave), if_neg (by omega)]

theorem State.hostWrite_stores (howns : s.entryOwns k addr data.length = true)
    (hwindow : s.inWindow (s.f (Fld.hostMr0_partition k)) addr data.length = false) :
    s.hostWrite q key addr data = .ok (State.guardRungs s ((s.store addr data).countRemote addr data.length)) :=
  (State.hostWrite_hbm hstage hentry hallows hk hsave).trans
    ((if_neg (ne_false_of_eq_true howns)).trans (if_neg (ne_true_of_eq_false hwindow)))

theorem State.hostWrite_notOwned (h : s.entryOwns k addr data.length = false ∨
      s.inWindow (s.f (Fld.hostMr0_partition k)) addr data.length = true) : s.hostWrite q key addr data = .error true := by
  rw [State.hostWrite_hbm hstage hentry hallows hk hsave]
  split
  · rfl
  · next howns => exact if_pos (h.resolve_left howns)

end
end
end

/-! ### Reads -/

/-- A READ meets a save that keeps it waiting: its entry is no control space. -/
def State.readWaits (s : State) (key : Nat) : Bool :=
  match s.entryOf key with | some k => decide (1 ≤ k) && decide (s.saveState ≠ 0) | none => false

theorem State.readWaits_not {s : State} {key : Nat} (h : ∀ k, s.entryOf key = some k → 1 ≤ k → s.saveState = 0) :
    s.readWaits key = false := by
  unfold State.readWaits
  split
  · next k hentry =>
      by_cases hk : 1 ≤ k
      · simp [h k hentry hk]
      · simp [hk]
  · rfl

section
variable {s u : State} {q psn key addr n : Nat} {ce : Bool} (hup : s.hpUp = true)
include hup

theorem incomingRdmaRead_badIcrc : incomingRdmaRead q psn key addr n false ce s = s.bumpSat Fld.hostErr_bad_icrc 1 :=
  (if_neg (ne_false_of_eq_true hup)).trans (if_pos rfl)

theorem incomingRdmaRead_ahead (harrive : s.arrive q psn ce = (u, Turn.ahead)) : incomingRdmaRead q psn key addr n true ce s =
    u.emit (.nak q (u.f (Fld.hostQpPsn_recv_psn q)) .sequence) := by
  unfold incomingRdmaRead
  rw [if_neg (ne_false_of_eq_true hup), if_neg (by decide), harrive]

section
variable (hn : n ≠ 0)
include hn

theorem incomingRdmaRead_again {v : State} (harrive : s.arrive q psn ce = (u, Turn.again))
    (hread : u.hostRead q psn key addr n true = some v) : incomingRdmaRead q psn key addr n true ce s = v := by
  unfold incomingRdmaRead
  rw [if_neg (ne_false_of_eq_true hup), if_neg (by decide), harrive]
  refine (if_neg hn).trans ?_
  rw [hread]

section
variable (harrive : s.arrive q psn ce = (u, Turn.next))
  (hruns : ∀ k, u.entryOf key = some k → 1 ≤ k → u.saveState = 0)
include harrive hruns

/-- A READ in its turn, by what the memory key makes of it. -/
theorem incomingRdmaRead_next : incomingRdmaRead q psn key addr n true ce s =
    match u.hostRead q psn key addr n false with
    | some v => v.takePsn q (u.packetsOf n)
    | none => u.accessNak q psn := by
  unfold incomingRdmaRead
  rw [if_neg (ne_false_of_eq_true hup), if_neg (by decide), harrive]
  exact (if_neg hn).trans (if_neg (ne_true_of_eq_false (State.readWaits_not hruns)))

theorem incomingRdmaRead_answered {v : State} (hread : u.hostRead q psn key addr n false = some v) :
    incomingRdmaRead q psn key addr n true ce s = v.takePsn q (u.packetsOf n) := by
  rw [incomingRdmaRead_next hup hn harrive hruns, hread]

theorem incomingRdmaRead_refused (hread : u.hostRead q psn key addr n false = none) :
    incomingRdmaRead q psn key addr n true ce s = u.accessNak q psn := by
  rw [incomingRdmaRead_next hup hn harrive hruns, hread]

end
end
end

section
variable {s : State} {q psn key addr n k : Nat} {again : Bool} (hentry : s.entryOf key = some k)
  (hallows : s.entryAllows q k addr n false = true) (hk : 1 ≤ k) (hsave : s.saveState = 0) (howns : s.entryOwns k addr n = true)
include hentry hallows hk hsave howns

theorem State.hostRead_hbm : s.hostRead q psn key addr n again = some (s.readHbm q psn addr n) := by
  unfold State.hostRead
  rw [hentry]
  refine (if_neg (ne_false_of_eq_true hallows)).trans ?_
  rw [if_neg (by omega), if_neg (not_not.2 hsave), if_pos howns]

theorem State.hostRead_whole (hgood : ∀ i, i < ceilDiv (addr + n) 32 - addr / 32 → s.poisonedAt ((addr / 32 + i) * 32) = false) :
    s.hostRead q psn key addr n again = some ((s.emit (.readResp q psn (s.bytes addr n))).countRemote addr n) := by
  have hnone : (List.range (ceilDiv (addr + n) 32 - addr / 32)).find? (fun i => s.poisonedAt ((addr / 32 + i) * 32)) = none :=
    List.find?_eq_none.2 (fun i hi => ne_true_of_eq_false (hgood i (List.mem_range.1 hi)))
  rw [State.hostRead_hbm hentry hallows hk hsave howns]
  unfold State.readHbm
  rw [hnone]

theorem State.hostRead_poisoned {i j : Nat}
    (hfind : (List.range (ceilDiv (addr + n) 32 - addr / 32)).find? (fun i => s.poisonedAt ((addr / 32 + i) * 32)) = some i)
    (hj : j = (max addr ((addr / 32 + i) * 32) - addr) / s.mtu) :
    s.hostRead q psn key addr n again = some (((if j = 0 then s else
      (s.emit (.readResp q psn (s.bytes addr (j * s.mtu)))).countRemote addr (j * s.mtu)).emit
        (.nak q ((psn + j) % 2 ^ 24) .remoteOperational)).generic Blk.host none ((addr / 32 + i) * 32) 0 0) := by
  subst hj
  rw [State.hostRead_hbm hentry hallows hk hsave howns]
  unfold State.readHbm
  rw [hfind]

end

/-- Settles O48: each arriving request by its turn, and each access by its memory key. -/
theorem rdmaReachesMemoryThroughEntries : Obligations.RdmaReachesMemoryThroughEntries := by
  unfold Obligations.RdmaReachesMemoryThroughEntries
  refine ⟨?badIcrc, ?ahead, ?again, ?dropped, ?stored, ?refused, ?unanswered, ?stores, ?noKey, ?notOwned, ?readBadIcrc, ?readAhead,
    ?readAgain, ?readNext, ?readRefused, ?readWhole, ?readPoisoned⟩
  case badIcrc =>
    intro s q psn key addr data ce t hl hup ht
    have hext : Ext 4 s t := ht ▸ State.bumpSat_ext rfl (.refl _ s)
    exact ⟨hl.runs ((incomingRdmaWrite_badIcrc hup).trans ht.symm), hext.sameHbm rfl, hext.ctl rfl, hext.hp rfl⟩
  case ahead =>
    intro s q psn key addr data ce u t hl hup harrive ht
    exact hl.runs ((incomingRdmaWrite_ahead hup harrive).trans ht.symm)
  case again =>
    intro s q psn key addr data ce u t hl hup harrive ht
    exact hl.runs ((incomingRdmaWrite_again hup harrive).trans ht.symm)
  case dropped =>
    intro s q psn key addr data ce u t hl hup harrive ht
    exact hl.runs ((incomingRdmaWrite_dropped hup harrive).trans ht.symm)
  case stored =>
    intro s q psn key addr data ce u v t hl hup harrive hdata hwrite ht
    exact hl.runs ((incomingRdmaWrite_stored hup harrive hdata hwrite).trans ht.symm)
  case refused =>
    intro s q psn key addr data ce u t hl hup harrive hdata hwrite ht
    exact hl.runs ((incomingRdmaWrite_refused hup harrive hdata hwrite).trans ht.symm)
  case unanswered =>
    intro s q psn key addr data ce u t hl hup harrive hdata hwrite ht
    exact hl.runs ((incomingRdmaWrite_unanswered hup harrive hdata hwrite).trans ht.symm)
  case stores =>
    intro s q key addr k data hstage hentry hallows hk hsave howns hwindow
    exact State.hostWrite_stores hstage hentry hallows hk hsave howns hwindow
  case noKey =>
    intro s q key addr data hstage h
    obtain hnone | ⟨k, hentry, hallows⟩ := h
    · exact State.hostWrite_noEntry hstage hnone
    · exact State.hostWrite_notAllowed hstage hentry hallows
  case notOwned =>
    intro s q key addr k data hstage hentry hallows hk hsave h
    exact State.hostWrite_notOwned hstage hentry hallows hk hsave h
  case readBadIcrc =>
    intro s q psn key addr n ce t hl hup ht
    have hext : Ext 4 s t := ht ▸ State.bumpSat_ext rfl (.refl _ s)
    exact ⟨hl.runs ((incomingRdmaRead_badIcrc hup).trans ht.symm), hext.sameHbm rfl, hext.ctl rfl, hext.hp rfl⟩
  case readAhead =>
    intro s q psn key addr n ce u t hl hup harrive ht
    exact hl.runs ((incomingRdmaRead_ahead hup harrive).trans ht.symm)
  case readAgain =>
    intro s q psn key addr n ce u v t hl hup harrive hn hread ht
    obtain ⟨hrun, hext⟩ := hl.answers (M := 388) ((incomingRdmaRead_again hup hn harrive hread).trans ht.symm)
      (incomingRdmaRead_ext rfl (.refl _ s))
    exact ⟨hrun, hext.sameHbm rfl⟩
  case readNext =>
    intro s q psn key addr n ce u v t hl hup harrive hn hruns hread ht
    obtain ⟨hrun, hext⟩ := hl.answers (M := 388) ((incomingRdmaRead_answered hup hn harrive hruns hread).trans ht.symm)
      (incomingRdmaRead_ext rfl (.refl _ s))
    exact ⟨hrun, hext.sameHbm rfl⟩
  case readRefused =>
    intro s q psn key addr n ce u t hl hup harrive hn hruns hread ht
    obtain ⟨hrun, hext⟩ := hl.answers (M := 388) ((incomingRdmaRead_refused hup hn harrive hruns hread).trans ht.symm)
      (incomingRdmaRead_ext rfl (.refl _ s))
    exact ⟨hrun, hext.sameHbm rfl⟩
  case readWhole =>
    intro s q psn key addr n k again hentry hallows hk hsave howns hgood
    exact State.hostRead_whole hentry hallows hk hsave howns hgood
  case readPoisoned =>
    intro s q psn key addr n k i j again hentry hallows hk hsave howns hfind hj
    exact State.hostRead_poisoned hentry hallows hk hsave howns hfind hj

end Sys2Proof.Machine
end

section
/-!
Deltas (R371 to R373): what each command's equation is in the case at hand.
-/
namespace Sys2Proof.Machine

/-! ### What BOOT_DELTA_STATUS shows -/

theorem State.deltaStatus_state (s : State) {st : Nat} (target r : Nat) (hst : st < 8) :
    (s.deltaStatus st target r).f Fld.bootDeltaStatus_state = st := by
  unfold State.deltaStatus
  rw [State.f_put_sep (r := Fld.bootDeltaStatus_result) _ _ (by decide) (.inl (by decide)),
    State.f_put_sep (r := Fld.bootDeltaStatus_target) _ _ (by decide) (.inl (by decide)),
    State.f_put_self (r := Fld.bootDeltaStatus_state) s _ (by decide)]
  exact Nat.mod_eq_of_lt hst

theorem State.deltaEnd_result (s : State) (st : Nat) {r : Nat} (hr : r < 256) :
    (s.deltaEnd st r).f Fld.bootDeltaStatus_result = r := by
  unfold State.deltaEnd
  rw [State.setBoot_f, State.f_put_self (r := Fld.bootDeltaStatus_result) _ _ (by decide)]
  exact Nat.mod_eq_of_lt hr

theorem State.deltaEnd_seqUse (s : State) (st r : Nat) : (s.deltaEnd st r).boot.seqUse = none := rfl

/-! ### A delta is asked for (R371) -/

/-- A delta taken, or refused, by its check. -/
def State.deltaChecked (s : State) : Except Nat (Nat × List Byte) → State
  | .error r => s.deltaStatus 5 0 r
  | .ok (typ, sec) => (s.deltaStatus 2 (typ - 3) 0).setBoot { s.boot with
      seqUse := some .delta, deltaSection := sec, deltaDir := dirAt s.stageRead 0, newDir := [] }

section
variable {s : State} {w : Writer} (haccepts : s.Accepts w Reg.bootDeltaGo (2 ^ 31))
include haccepts

theorem bootDeltaGo_notServing (hserves : s.serving = false) : bootDeltaGo w true s = s.badWrite Reg.bootDeltaGo (2 ^ 31) := by
  unfold bootDeltaGo
  exact (State.regWrite_ok _ haccepts).trans ((if_neg (by decide)).trans (if_pos hserves))

section
variable (hserves : s.serving = true)
include hserves

theorem bootDeltaGo_serving : bootDeltaGo w true s =
    if s.boot.seqUse = some .delta then s.put Fld.bootDeltaStatus_result BRes.busy
    else if s.boot.seqUse.isSome then s.deltaStatus 5 0 BRes.busy
    else s.deltaChecked s.deltaCheck := by
  unfold bootDeltaGo
  refine (State.regWrite_ok _ haccepts).trans ?_
  simp only [hserves, Bool.true_eq_false, if_false]
  obtain r | ⟨typ, sec⟩ := s.deltaCheck
  · rfl
  · rfl

theorem bootDeltaGo_refused {r : Nat} (hfree : s.boot.seqUse = none) (hcheck : s.deltaCheck = .error r) :
    bootDeltaGo w true s = s.deltaStatus 5 0 r := by
  rw [bootDeltaGo_serving haccepts hserves, hfree, hcheck]
  rfl

theorem bootDeltaGo_taken {typ : Nat} {sec : List Byte} (hfree : s.boot.seqUse = none) (hcheck : s.deltaCheck = .ok (typ, sec)) :
    bootDeltaGo w true s = (s.deltaStatus 2 (typ - 3) 0).setBoot { s.boot with
      seqUse := some .delta, deltaSection := sec, deltaDir := dirAt s.stageRead 0, newDir := [] } := by
  rw [bootDeltaGo_serving haccepts hserves, hcheck, if_neg (by rw [hfree]; decide), if_neg (by rw [hfree]; decide)]
  rfl

theorem bootDeltaGo_again (huse : s.boot.seqUse = some .delta) :
    bootDeltaGo w true s = s.put Fld.bootDeltaStatus_result BRes.busy :=
  (bootDeltaGo_serving haccepts hserves).trans (if_pos huse)

theorem bootDeltaGo_busy {u : SeqUse} (huse : s.boot.seqUse = some u) (hu : u ≠ .delta) :
    bootDeltaGo w true s = s.deltaStatus 5 0 BRes.busy :=
  (bootDeltaGo_serving haccepts hserves).trans
    ((if_neg (by rw [huse]; exact fun h => hu (Option.some.inj h))).trans (if_pos (by rw [huse]; rfl)))

end
end

/-! ### A delta is programmed (R372) -/

/-- Section bytes and a directory programmed: the section in its target's slot, the directory in the other copy. -/
def State.deltaProgrammed (s : State) (e sec dir : List Byte) : State :=
  (s.norWrite (slotOffset (s.f Fld.bootDeltaStatus_target) (entSlot e)) sec).norWrite (65536 * (1 - s.boot.runCopy)) dir

section
variable {s : State} {e : List Byte} (hstate : s.f Fld.bootDeltaStatus_state = 2) (hserves : s.serving = true)
  (hnew : s.boot.newDir = [])
  (hfind : Dir.find s.boot.deltaDir (3 + s.f Fld.bootDeltaStatus_target) = some e)
include hstate hserves hnew

theorem State.deltaProgramming : ¬ (s.f Fld.bootDeltaStatus_state ≠ 2 ∨ s.serving = false ∨ s.boot.newDir ≠ []) := by
  rw [hstate, hserves, hnew]
  decide

include hfind

theorem deltaNorWritten_good {x : State} (hx : x = s.deltaProgrammed e s.boot.deltaSection s.boot.deltaDir) : deltaNorWritten 0 s =
    if s.f Fld.bootDeltaStatus_target < 4 then
      ((x.setBoot { x.boot with newDir := s.boot.deltaDir }).setPart (s.f Fld.bootDeltaStatus_target)
        { x.part (s.f Fld.bootDeltaStatus_target) with paused := true }).put Fld.bootDeltaStatus_state 3
    else x.setBoot { x.boot with newDir := s.boot.deltaDir } := by
  subst hx
  unfold deltaNorWritten
  refine (if_neg (State.deltaProgramming hstate hserves hnew)).trans ?_
  dsimp only
  rw [hfind]
  rfl

theorem deltaNorWritten_sectionFails : deltaNorWritten 1 s = ((s.norWrite (slotOffset (s.f Fld.bootDeltaStatus_target) (entSlot e))
    (freeBytes s s.boot.deltaSection.length)).useFresh s.boot.deltaSection.length).deltaEnd 5 BRes.norError := by
  unfold deltaNorWritten
  refine (if_neg (State.deltaProgramming hstate hserves hnew)).trans ?_
  dsimp only
  rw [hfind]
  rfl

theorem deltaNorWritten_dirFails : deltaNorWritten 2 s =
    ((s.deltaProgrammed e s.boot.deltaSection (freeBytes s s.boot.deltaDir.length)).useFresh
      (s.boot.deltaSection.length + s.boot.deltaDir.length)).deltaEnd 5 BRes.norError := by
  unfold deltaNorWritten
  refine (if_neg (State.deltaProgramming hstate hserves hnew)).trans ?_
  dsimp only
  rw [hfind]
  rfl

theorem deltaNorWritten_readBackFails : deltaNorWritten 3 s =
    ((s.deltaProgrammed e (freeBytes s s.boot.deltaSection.length) s.boot.deltaDir).useFresh
      (s.boot.deltaSection.length + s.boot.deltaDir.length)).deltaEnd 5 BRes.norError := by
  unfold deltaNorWritten
  refine (if_neg (State.deltaProgramming hstate hserves hnew)).trans ?_
  dsimp only
  rw [hfind]
  rfl

end

/-- Programming that fails leaves all but the NOR, its status and the free bytes drawn. -/
theorem State.deltaFailed_ext {s u : State} (hu : Ext 1024 s u) (n : Nat) : Ext 1030 s ((u.useFresh n).deltaEnd 5 BRes.norError) :=
  State.deltaEnd_ext rfl (State.useFresh_ext rfl (hu.mono rfl))

theorem State.deltaProgrammed_ext (s : State) (e sec dir : List Byte) : Ext 1024 s (s.deltaProgrammed e sec dir) :=
  State.norWrite_ext rfl (State.norWrite_ext rfl (.refl _ s))

/-! ### A delta is applied (R372, R373) -/

section
variable {s : State} {p : Nat} (hstate : s.f Fld.bootDeltaStatus_state = 3) (hheld : s.isHeld = false) (hsave : s.saveState = 0)
  (hp : p = s.f Fld.bootDeltaStatus_target) (hidle : s.idlePart p = true)
include hstate hheld hsave hp hidle

theorem State.deltaApplies : ¬ (s.f Fld.bootDeltaStatus_state ≠ 3 ∨ s.isHeld = true ∨ s.saveState ≠ 0 ∨
    s.idlePart (s.f Fld.bootDeltaStatus_target) = false) := by
  rw [← hp, hstate, hheld, hsave, hidle]
  decide

theorem deltaApply_bad (hsection : s.applySection (.part p) (3 + p) s.boot.deltaSection = none) : deltaApply s =
    ((s.setPart p { s.part p with paused := false }).generic Blk.boot (some p) Reg.bootDeltaStatus p BRes.badFormat).deltaEnd 5
      BRes.badFormat := by
  have hruns := State.deltaApplies hstate hheld hsave hp hidle
  subst hp
  unfold deltaApply
  refine (if_neg hruns).trans ?_
  rw [hsection]

theorem deltaApply_good {u v : State} (hsection : s.applySection (.part p) (3 + p) s.boot.deltaSection = some u)
    (hv : v = (u.extend (3 + p) (Dir.digest s.boot.deltaDir (3 + p))).markDiverged p false) : deltaApply s =
    (((v.deltaRuns s.boot.deltaDir).setPart p { (v.deltaRuns s.boot.deltaDir).part p with paused := false }).rejoin).deltaEnd 4
      BRes.ok := by
  have hruns := State.deltaApplies hstate hheld hsave hp hidle
  subst hp hv
  unfold deltaApply
  refine (if_neg hruns).trans ?_
  rw [hsection]

end

section
variable {s : State} (hstate : s.f Fld.bootDeltaStatus_state = 2) (htarget : s.f Fld.bootDeltaStatus_target = 4)
  (hnew : s.boot.newDir ≠ []) (hheld : s.isHeld = false) (hsave : s.saveState = 0)
include hstate htarget hnew hheld hsave

theorem State.transitApplies : ¬ (s.f Fld.bootDeltaStatus_state ≠ 2 ∨ s.f Fld.bootDeltaStatus_target ≠ 4 ∨ s.boot.newDir = [] ∨
    s.isHeld = true ∨ s.saveState ≠ 0) := by
  simp [hstate, htarget, hnew, hheld, hsave]

theorem transitDeltaApply_bad (hsection : s.applySection .transit 7 s.boot.deltaSection = none) : transitDeltaApply s =
    (s.generic Blk.boot none Reg.bootDeltaStatus 4 BRes.badFormat).deltaEnd 5 BRes.badFormat := by
  unfold transitDeltaApply
  refine (if_neg (State.transitApplies hstate htarget hnew hheld hsave)).trans ?_
  rw [hsection]

theorem transitDeltaApply_good {u : State} (hsection : s.applySection .transit 7 s.boot.deltaSection = some u) :
    transitDeltaApply s =
    ((u.extend 7 (Dir.digest s.boot.deltaDir 7)).deltaRuns s.boot.deltaDir).deltaEnd 4 BRes.ok := by
  unfold transitDeltaApply
  refine (if_neg (State.transitApplies hstate htarget hnew hheld hsave)).trans ?_
  rw [hsection]

end

/-- Settles O51: each command by its equation in the case at hand. -/
theorem deltasAreCheckedWrittenAndApplied : Obligations.DeltasAreCheckedWrittenAndApplied := by
  unfold Obligations.DeltasAreCheckedWrittenAndApplied
  refine ⟨?refused, ?taken, ?again, ?busy, ?notServing, ?pauses, ?transit, ?sectionFails, ?dirFails, ?readBackFails, ?badPart,
    ?goodPart, ?badTransit, ?goodTransit⟩
  case refused =>
    intro s w r t hl haccepts hserves hfree hcheck ht
    have hext : Ext 4 s t := ht ▸ State.deltaStatus_ext rfl (.refl _ s)
    exact ⟨hl.runs ((bootDeltaGo_refused haccepts hserves hfree hcheck).trans ht.symm), ht ▸ s.deltaStatus_state _ _ (by decide),
      hext.sameHbm rfl, hext.comp rfl, hext.boot rfl, hext.ctl rfl⟩
  case taken =>
    intro s w typ sec t hl haccepts hserves hfree hcheck ht
    have hext : Ext 1028 s t := ht ▸ State.setBoot_ext rfl (State.deltaStatus_ext rfl (.refl _ s))
    refine ⟨hl.runs ((bootDeltaGo_taken haccepts hserves hfree hcheck).trans ht.symm), ?_, ?_, hext.sameHbm rfl, hext.comp rfl,
      hext.ctl rfl⟩
    · rw [ht, State.setBoot_f, State.deltaStatus_state _ _ _ (by decide)]
    · rw [ht, State.setBoot_boot]
  case again =>
    intro s w t hl haccepts hserves huse ht
    have hext : Ext 4 s t := ht ▸ State.put_ext rfl (.refl _ s)
    exact ⟨hl.runs ((bootDeltaGo_again haccepts hserves huse).trans ht.symm), hext.sameHbm rfl, hext.comp rfl, hext.boot rfl,
      hext.ctl rfl⟩
  case busy =>
    intro s w u t hl haccepts hserves huse hu ht
    have hext : Ext 4 s t := ht ▸ State.deltaStatus_ext rfl (.refl _ s)
    exact ⟨hl.runs ((bootDeltaGo_busy haccepts hserves huse hu).trans ht.symm), hext.sameHbm rfl, hext.comp rfl, hext.boot rfl,
      hext.ctl rfl⟩
  case notServing =>
    intro s w t hl haccepts hserves ht
    have hext : Ext 132 s t := ht ▸ State.badWrite_ext rfl (.refl _ s)
    exact ⟨hl.runs ((bootDeltaGo_notServing haccepts hserves).trans ht.symm), hext.sameHbm rfl, hext.comp rfl, hext.boot rfl,
      hext.ctl rfl⟩
  case pauses =>
    intro s e x t hl hstate hserves hnew hfind htarget hx ht
    obtain ⟨hrun, hext⟩ := hl.answers (M := 1094)
      (((deltaNorWritten_good hstate hserves hnew hfind hx).trans (if_pos htarget)).trans ht.symm)
        (deltaNorWritten_ext rfl (.refl _ s))
    refine ⟨hrun, ?_, ?_, hext.sameHbm rfl, hext.comp rfl⟩
    · rw [ht, State.f_put_self (r := Fld.bootDeltaStatus_state) _ _ (by decide)]
      rfl
    · have hput (u : State) (p : Nat) : (u.put Fld.bootDeltaStatus_state 3).part p = u.part p :=
        congrArg (fun c : Ctl => Sparse.get partD c.parts p) (State.put_ctl u Fld.bootDeltaStatus_state 3)
      rw [ht, hput, State.setPart_part]
  case transit =>
    intro s e x t hl hstate hserves hnew hfind htarget hx ht
    have hext : Ext 1024 s t := ht ▸ State.setBoot_ext rfl (hx ▸ s.deltaProgrammed_ext e _ _)
    exact ⟨hl.runs (((deltaNorWritten_good hstate hserves hnew hfind hx).trans (if_neg (Nat.not_lt.2 htarget))).trans ht.symm),
      hext.ctl rfl, hext.regs rfl, hext.sameHbm rfl, hext.comp rfl⟩
  case sectionFails =>
    intro s e t hl hstate hserves hnew hfind ht
    have hext : Ext 1030 s t := ht ▸ State.deltaFailed_ext (State.norWrite_ext rfl (.refl _ s)) _
    exact ⟨hl.runs ((deltaNorWritten_sectionFails hstate hserves hnew hfind).trans ht.symm),
      ht ▸ State.deltaEnd_result _ _ (by decide),
      ht ▸ State.deltaEnd_seqUse _ _ _, hext.sameHbm rfl, hext.comp rfl, hext.ctl rfl⟩
  case dirFails =>
    intro s e t hl hstate hserves hnew hfind ht
    have hext : Ext 1030 s t := ht ▸ State.deltaFailed_ext (s.deltaProgrammed_ext e _ _) _
    exact ⟨hl.runs ((deltaNorWritten_dirFails hstate hserves hnew hfind).trans ht.symm), ht ▸ State.deltaEnd_result _ _ (by decide),
      ht ▸ State.deltaEnd_seqUse _ _ _, hext.sameHbm rfl, hext.comp rfl, hext.ctl rfl⟩
  case readBackFails =>
    intro s e t hl hstate hserves hnew hfind ht
    have hext : Ext 1030 s t := ht ▸ State.deltaFailed_ext (s.deltaProgrammed_ext e _ _) _
    exact ⟨hl.runs ((deltaNorWritten_readBackFails hstate hserves hnew hfind).trans ht.symm),
      ht ▸ State.deltaEnd_result _ _ (by decide),
      ht ▸ State.deltaEnd_seqUse _ _ _, hext.sameHbm rfl, hext.comp rfl, hext.ctl rfl⟩
  case badPart =>
    intro s p t hl hstate hheld hsave hp hidle hsection ht
    obtain ⟨hrun, hext⟩ := hl.answers (M := 394436) ((deltaApply_bad hstate hheld hsave hp hidle hsection).trans ht.symm)
      (deltaApply_ext rfl (.refl _ s))
    exact ⟨hrun, ht ▸ State.deltaEnd_result _ _ (by decide), ht ▸ State.deltaEnd_seqUse _ _ _, hext.sameHbm rfl, hext.comp rfl⟩
  case goodPart =>
    intro s p u v t hl hstate hheld hsave hp hidle hsection hv ht
    obtain ⟨hrun, hext⟩ := hl.answers (M := 394436) ((deltaApply_good hstate hheld hsave hp hidle hsection hv).trans ht.symm)
      (deltaApply_ext rfl (.refl _ s))
    exact ⟨hrun, ht ▸ State.deltaEnd_result _ _ (by decide), ht ▸ State.deltaEnd_seqUse _ _ _, hext.sameHbm rfl⟩
  case badTransit =>
    intro s t hl hstate htarget hnew hheld hsave hsection ht
    obtain ⟨hrun, hext⟩ := hl.answers (M := 132228) ((transitDeltaApply_bad hstate htarget hnew hheld hsave hsection).trans ht.symm)
      (transitDeltaApply_ext rfl (.refl _ s))
    exact ⟨hrun, ht ▸ State.deltaEnd_result _ _ (by decide), hext.sameHbm rfl⟩
  case goodTransit =>
    intro s u t hl hstate htarget hnew hheld hsave hsection ht
    obtain ⟨hrun, hext⟩ := hl.answers (M := 132228)
      ((transitDeltaApply_good hstate htarget hnew hheld hsave hsection).trans ht.symm)
      (transitDeltaApply_ext rfl (.refl _ s))
    exact ⟨hrun, ht ▸ State.deltaEnd_result _ _ (by decide), hext.sameHbm rfl⟩

end Sys2Proof.Machine
end

section
/-!
Firmware updates and recovery (R366, R374 to R378): what each command's equation is in the case at hand.
-/
namespace Sys2Proof.Machine

/-! ### What BOOT_UPDATE_STATUS shows -/

/-- The phase shown with the result of the update. -/
def State.updateShown (s : State) (phase r : Nat) : State :=
  (s.put Fld.bootUpdateStatus_phase phase).put Fld.bootUpdateStatus_result r

theorem State.updateShown_phase (s : State) {phase : Nat} (r : Nat) (h : phase < 8) :
    (s.updateShown phase r).f Fld.bootUpdateStatus_phase = phase := by
  unfold State.updateShown
  rw [State.f_put_sep (r := Fld.bootUpdateStatus_result) _ _ (by decide) (.inl (by decide)),
    State.f_put_self (r := Fld.bootUpdateStatus_phase) s _ (by decide)]
  exact Nat.mod_eq_of_lt h

theorem State.updateShown_result (s : State) (phase : Nat) {r : Nat} (h : r < 256) :
    (s.updateShown phase r).f Fld.bootUpdateStatus_result = r :=
  (State.f_put_self (r := Fld.bootUpdateStatus_result) _ r (by decide)).trans (Nat.mod_eq_of_lt h)

theorem State.updateFail_phase (s : State) (r : Nat) : (s.updateFail r).f Fld.bootUpdateStatus_phase = 7 :=
  (State.setBoot_f _ _ _).trans (s.updateShown_phase r (by decide))

theorem State.updateFail_result (s : State) {r : Nat} (h : r < 256) : (s.updateFail r).f Fld.bootUpdateStatus_result = r :=
  (State.setBoot_f _ _ _).trans (s.updateShown_result 7 h)

/-! ### An update is asked for (R374) -/

/-- VERIFY begins, with the sequencer taken. -/
def State.updateBegun (s : State) : State :=
  (((s.put Fld.bootUpdateStatus_phase 1).put Fld.bootUpdateStatus_result 0).put Fld.bootUpdateStatus_written_kib 0).setBoot
    { s.boot with seqUse := some .update }

theorem State.updateBegun_phase (s : State) : s.updateBegun.f Fld.bootUpdateStatus_phase = 1 := by
  refine (State.setBoot_f _ _ _).trans ?_
  rw [State.f_put_sep (r := Fld.bootUpdateStatus_written_kib) _ _ (by decide) (.inl (by decide))]
  exact s.updateShown_phase 0 (by decide)

section
variable {s : State} {w : Writer} (haccepts : s.Accepts w Reg.bootUpdateGo (2 ^ 31))
include haccepts

theorem bootUpdateGo_notServing (hserves : s.serving = false) : bootUpdateGo w true s = s.badWrite Reg.bootUpdateGo (2 ^ 31) := by
  unfold bootUpdateGo
  exact (State.regWrite_ok _ haccepts).trans ((if_neg (by decide)).trans (if_pos hserves))

theorem bootUpdateGo_serving (hserves : s.serving = true) : bootUpdateGo w true s =
    if s.boot.seqUse = some .update then s.put Fld.bootUpdateStatus_result BRes.busy
    else if s.boot.seqUse.isSome then s.updateShown 7 BRes.busy
    else s.updateBegun := by
  unfold bootUpdateGo
  refine (State.regWrite_ok _ haccepts).trans ?_
  simp only [hserves, Bool.true_eq_false, if_false, State.put_boot]
  rfl

end

/-! ### The phases (R375, R376) -/

/-- The bytes of the sections that WRITE programs. -/
def State.updateSections (s : State) : List (Nat × List Byte) :=
  sectionBytes (fun a n => Sparse.getAll norD s.boot.updateStaged a n) s.boot.newDir

/-- The end of VERIFY, by its check. -/
def State.updateVerified (s : State) : Except Nat Dir → State
  | .error r => s.updateFail r
  | .ok d => (s.put Fld.bootUpdateStatus_phase 2).setBoot
      { s.boot with newDir := d, updateStaged := stagedImage s.stageRead d, keptImage := s.boot.nor }

section
variable {s : State} (huse : s.boot.seqUse = some .update) (hheld : s.isHeld = false) (hsave : s.saveState = 0)
include huse hheld hsave

theorem updatePhaseEnd_running (outcome : Nat) : updatePhaseEnd outcome s =
    if s.f Fld.bootUpdateStatus_phase = 1 then s.updateVerified s.updateCheck
    else if s.f Fld.bootUpdateStatus_phase = 2 then s.updateWrite outcome
    else if s.f Fld.bootUpdateStatus_phase = 3 then (if outcome = 0 then s.put Fld.bootUpdateStatus_phase 4 else s.updateRevert)
    else if s.f Fld.bootUpdateStatus_phase = 4 then
      ((s.put Fld.bootStatus_lead 1).put Fld.bootUpdateStatus_phase 5).setBoot { s.boot with renewedAt := s.now }
    else if s.f Fld.bootUpdateStatus_phase = 5 then (if outcome = 0 then s.updateDone else s.updateRevert)
    else s := by
  unfold updatePhaseEnd
  refine (if_neg (by simp [huse, hheld, hsave])).trans ?_
  obtain r | d := s.updateCheck
  · rfl
  · rfl

theorem updatePhaseEnd_verify (outcome : Nat) (hphase : s.f Fld.bootUpdateStatus_phase = 1) :
    updatePhaseEnd outcome s = s.updateVerified s.updateCheck :=
  (updatePhaseEnd_running huse hheld hsave outcome).trans (if_pos hphase)

theorem updatePhaseEnd_write (outcome : Nat) (hphase : s.f Fld.bootUpdateStatus_phase = 2) :
    updatePhaseEnd outcome s = s.updateWrite outcome := by
  rw [updatePhaseEnd_running huse hheld hsave outcome, hphase]
  rfl

theorem updatePhaseEnd_halves (hphase : s.f Fld.bootUpdateStatus_phase = 3) :
    updatePhaseEnd 0 s = s.put Fld.bootUpdateStatus_phase 4 := by
  rw [updatePhaseEnd_running huse hheld hsave 0, hphase]
  rfl

theorem updatePhaseEnd_lead (outcome : Nat) (hphase : s.f Fld.bootUpdateStatus_phase = 4) : updatePhaseEnd outcome s =
    ((s.put Fld.bootStatus_lead 1).put Fld.bootUpdateStatus_phase 5).setBoot { s.boot with renewedAt := s.now } := by
  rw [updatePhaseEnd_running huse hheld hsave outcome, hphase]
  rfl

theorem updatePhaseEnd_reverts {outcome : Nat} (hphase : s.f Fld.bootUpdateStatus_phase = 3 ∨ s.f Fld.bootUpdateStatus_phase = 5)
    (hfails : outcome ≠ 0) : updatePhaseEnd outcome s = s.updateRevert := by
  rw [updatePhaseEnd_running huse hheld hsave outcome]
  obtain h | h := hphase
  · simp [h, hfails]
  · simp [h, hfails]

theorem updatePhaseEnd_done (hphase : s.f Fld.bootUpdateStatus_phase = 5) : updatePhaseEnd 0 s = s.updateDone := by
  rw [updatePhaseEnd_running huse hheld hsave 0, hphase]
  rfl

end

/-! ### What WRITE, a revert and DONE leave -/

theorem State.updateRevert_nor (s : State) : s.updateRevert.boot.nor = Sparse.putAll norD s.boot.keptImage
    (65536 * (1 - s.boot.runCopy))
      (s.boot.runDir.take 8 ++ toLE 8 (Dir.generation s.boot.newDir + 1) ++ s.boot.runDir.drop 16) := by
  unfold State.updateRevert State.updateFail
  rw [State.setBoot_boot, State.put_boot, State.put_boot, State.wr_boot, State.setBoot_boot]
  rfl

/-- DONE's fuses: measurement 1 extended, and the fused version raised where the directory asks for it. -/
def State.updateRaised (s : State) : State :=
  if Dir.commitSvn s.boot.newDir then (s.extend 1 (Dir.digest s.boot.newDir 1)).raiseSvn (Dir.svn s.boot.newDir)
  else s.extend 1 (Dir.digest s.boot.newDir 1)

/-- DONE's ledger: cleared where the directory asks for it. -/
def State.updateCleared (s : State) : State :=
  if Dir.clearLedger s.boot.newDir then
    s.updateRaised.setKeep (s.updateRaised.keep.write ⟨5, 0, 0, s.updateRaised.keep.seq, s.updateRaised.now⟩)
  else s.updateRaised

/-- The new directory runs, in the other copy, and what takes effect only at the next reset is shown. -/
def State.updateRuns (s : State) : State :=
  (s.updateCleared.runImage (1 - s.boot.runCopy) s.boot.newDir).putB Fld.bootStatus_reset_pending
    (s.flag Fld.bootStatus_reset_pending ||
      [2, 3, 4, 5, 6].any (fun t => Dir.digest s.boot.newDir t != Dir.digest s.boot.runDir t))

theorem State.updateDone_eq (s : State) : s.updateDone = (s.updateRuns.updateShown 6 BRes.ok).setBoot
    { (s.updateRuns.updateShown 6 BRes.ok).boot with
      partitions := s.boot.partitions, seqUse := none, keptImage := [], updateStaged := [], newDir := [] } := rfl

theorem State.updateRuns_runDir (s : State) : s.updateRuns.boot.runDir = s.boot.newDir := by
  unfold State.updateRuns State.runImage
  rw [State.putB_boot, State.put_boot, State.wr_boot, State.wr_boot, State.setBoot_boot]

theorem State.updateRuns_ext (s : State) : Ext 1028 s.updateCleared s.updateRuns :=
  State.putB_ext rfl (State.runImage_ext rfl (.refl _ _))

theorem State.updateCleared_fuses (s : State) : s.updateCleared.fuses = s.updateRaised.fuses := by
  unfold State.updateCleared
  split
  · rw [State.setKeep_fuses]
  · rfl

theorem State.updateFail_eq (s : State) (r : Nat) : s.updateFail r =
    (s.updateShown 7 r).setBoot { s.boot with seqUse := none, keptImage := [], updateStaged := [] } := by
  unfold State.updateFail
  simp only [State.put_boot]
  rfl

theorem State.updateShown_ext (s : State) (phase r : Nat) : Ext 4 s (s.updateShown phase r) :=
  State.put_ext rfl (State.put_ext rfl (.refl _ s))

/-- Settles O52: each phase by its equation in the case at hand. -/
theorem updatesRunPhaseByPhase : Obligations.UpdatesRunPhaseByPhase := by
  unfold Obligations.UpdatesRunPhaseByPhase
  refine ⟨?begins, ?again, ?busy, ?notServing, ?checkFails, ?verified, ?written, ?dirFails, ?sectionFails, ?halves, ?lead,
    ?reverts, ?done⟩
  case begins =>
    intro s w t hl haccepts hserves hfree ht
    obtain rfl : t = s.updateBegun := ht
    have hext : Ext 1028 s s.updateBegun :=
      State.setBoot_ext rfl (State.put_ext rfl (State.put_ext rfl (State.put_ext rfl (.refl _ s))))
    refine ⟨hl.runs ((bootUpdateGo_serving haccepts hserves).trans ((if_neg ?_).trans (if_neg ?_))), s.updateBegun_phase, ?_,
      hext.sameHbm rfl, hext.comp rfl, hext.ctl rfl⟩
    · rw [hfree]
      decide
    · rw [hfree]
      decide
    · unfold State.updateBegun
      rw [State.setBoot_boot]
  case again =>
    intro s w t hl haccepts hserves huse ht
    have hext : Ext 4 s t := ht ▸ State.put_ext rfl (.refl _ s)
    exact ⟨hl.runs (((bootUpdateGo_serving haccepts hserves).trans (if_pos huse)).trans ht.symm), hext.sameHbm rfl, hext.comp rfl,
      hext.boot rfl, hext.ctl rfl⟩
  case busy =>
    intro s w u t hl haccepts hserves huse hu ht
    have hext : Ext 4 s t := ht ▸ s.updateShown_ext 7 BRes.busy
    refine ⟨hl.runs (((bootUpdateGo_serving haccepts hserves).trans ((if_neg ?_).trans (if_pos ?_))).trans ht.symm),
      hext.sameHbm rfl, hext.comp rfl, hext.boot rfl, hext.ctl rfl⟩
    · rw [huse]
      exact fun h => hu (Option.some.inj h)
    · rw [huse]
      rfl
  case notServing =>
    intro s w t hl haccepts hserves ht
    have hext : Ext 132 s t := ht ▸ State.badWrite_ext rfl (.refl _ s)
    exact ⟨hl.runs ((bootUpdateGo_notServing haccepts hserves).trans ht.symm), hext.sameHbm rfl, hext.comp rfl, hext.boot rfl,
      hext.ctl rfl⟩
  case checkFails =>
    intro s outcome r t hl huse hheld hsave hphase hcheck ht
    have heq : updatePhaseEnd outcome s = t := by
      rw [updatePhaseEnd_verify huse hheld hsave _ hphase, hcheck, ht]
      exact s.updateFail_eq r
    have hext : Ext 1028 s t := ht ▸ State.setBoot_ext rfl ((s.updateShown_ext 7 r).mono rfl)
    exact ⟨hl.runs heq, by rw [ht, State.setBoot_boot], hext.sameHbm rfl⟩
  case verified =>
    intro s outcome d t hl huse hheld hsave hphase hcheck ht
    have hext : Ext 1028 s t := ht ▸ State.setBoot_ext rfl (State.put_ext rfl (.refl _ s))
    refine ⟨hl.runs ((updatePhaseEnd_verify huse hheld hsave _ hphase).trans ?_), by rw [ht, State.setBoot_boot], hext.sameHbm rfl⟩
    rw [hcheck, ht]
    rfl
  case written =>
    intro s secs x t hl huse hheld hsave hphase hsecs hx ht
    subst hsecs hx
    obtain ⟨hrun, hext⟩ := hl.answers (M := 1050118) ((updatePhaseEnd_write huse hheld hsave 0 hphase).trans ht.symm)
      (updatePhaseEnd_ext rfl (.refl _ s))
    refine ⟨hrun, ?_, hext.sameHbm rfl⟩
    rw [ht, State.f_put_self (r := Fld.bootUpdateStatus_phase) _ _ (by decide)]
    rfl
  case dirFails =>
    intro s secs x t hl huse hheld hsave hphase hsecs hx ht
    subst hsecs hx
    obtain ⟨hrun, hext⟩ := hl.answers (M := 1050118) ((updatePhaseEnd_write huse hheld hsave 2 hphase).trans ht.symm)
      (updatePhaseEnd_ext rfl (.refl _ s))
    exact ⟨hrun, ht ▸ State.updateFail_phase _ _, ht ▸ State.updateFail_result _ (by decide), hext.sameHbm rfl⟩
  case sectionFails =>
    intro s secs x t hl huse hheld hsave hphase hsecs hx ht
    subst hsecs hx
    obtain ⟨hrun, hext⟩ := hl.answers (M := 1050118) ((updatePhaseEnd_write huse hheld hsave 1 hphase).trans ht.symm)
      (updatePhaseEnd_ext rfl (.refl _ s))
    exact ⟨hrun, ht ▸ State.updateFail_phase _ _, ht ▸ State.updateFail_result _ (by decide), hext.sameHbm rfl⟩
  case halves =>
    intro s t hl huse hheld hsave hphase ht
    have hext : Ext 4 s t := ht ▸ State.put_ext rfl (.refl _ s)
    exact ⟨hl.runs ((updatePhaseEnd_halves huse hheld hsave hphase).trans ht.symm), hext.sameHbm rfl, hext.boot rfl⟩
  case lead =>
    intro s t hl huse hheld hsave hphase ht
    have hext : Ext 1028 s t := ht ▸ State.setBoot_ext rfl (State.put_ext rfl (State.put_ext rfl (.refl _ s)))
    refine ⟨hl.runs ((updatePhaseEnd_lead huse hheld hsave 0 hphase).trans ht.symm), ?_, hext.sameHbm rfl⟩
    rw [ht, State.setBoot_f, State.f_put_ne (r := Fld.bootUpdateStatus_phase) _ _ (by decide),
      State.f_put_self (r := Fld.bootStatus_lead) s 1 (by decide)]
    rfl
  case reverts =>
    intro s outcome ph t hl huse hheld hsave hphase hph hfails ht
    subst hphase
    have hnot : outcome.val ≠ 0 := fun h => hfails (Fin.ext h)
    obtain ⟨hrun, hext⟩ := hl.answers (M := 1050118) ((updatePhaseEnd_reverts huse hheld hsave hph hnot).trans ht.symm)
      (updatePhaseEnd_ext rfl (.refl _ s))
    exact ⟨hrun, ht ▸ State.updateFail_phase _ _, ht ▸ State.updateFail_result _ (by decide), ht ▸ s.updateRevert_nor,
      hext.sameHbm rfl⟩
  case done =>
    intro s u v t hl huse hheld hsave hphase hu hv ht
    obtain rfl : u = s.updateRaised := hu
    obtain rfl : v = s.updateCleared := hv
    have hshown := s.updateRuns_ext.trans ((s.updateRuns.updateShown_ext 6 BRes.ok).mono rfl)
    obtain ⟨hrun, hext⟩ := hl.answers (M := 1050118) ((updatePhaseEnd_done huse hheld hsave hphase).trans ht.symm)
      (updatePhaseEnd_ext rfl (.refl _ s))
    rw [State.updateDone_eq] at ht
    refine ⟨hrun, ?_, ?_, ⟨?_, ?_, ?_⟩, ?_, ?_, hext.sameHbm rfl⟩
    · rw [ht, State.setBoot_f, State.updateShown_phase _ _ (by decide)]
    · rw [ht, State.setBoot_f, State.updateShown_result _ _ (by decide)]
    · rw [ht, State.setBoot_boot]
    · rw [ht, State.setBoot_boot]
      exact (congrArg Boot.runDir ((s.updateRuns.updateShown_ext 6 BRes.ok).boot rfl)).trans s.updateRuns_runDir
    · rw [ht, State.setBoot_boot]
    · rw [ht, State.setBoot_keep, hshown.keep rfl]
    · rw [ht, State.setBoot_fuses, hshown.fuses rfl, State.updateCleared_fuses]

end Sys2Proof.Machine
end

section
/-!
Recovery over HP (R377, R378): what each command's equation is in the case at hand.
-/
namespace Sys2Proof.Machine

/-- QP2 bound to the host that sent HELLO. -/
def State.recoveryBound (s : State) (body : List Byte) : State :=
  let u := s.random.1.setBoot { s.random.1.boot with
    recovery := some ⟨fieldLE body 4 4 % 2 ^ 24, fieldLE body 8 4 % 2 ^ 24, (body.drop 12).take 8, s.now⟩
    windowKey := s.random.2 % 2 ^ 32 }
  ((u.put (Fld.hostQpCfg_state 2) 1).put (Fld.hostQpCfg_remote_qpn 2) (fieldLE body 4 4 % 2 ^ 24)).put (Fld.hostQpPsn_recv_psn 2)
    (fieldLE body 8 4 % 2 ^ 24)

theorem recoveryHello_binds {s : State} {body : List Byte} (hstage : s.stage = 7) (hup : s.hpUp = true)
    (hfree : s.boot.recovery = none) (hlength : body.length = 32) (hmagic : fieldLE body 0 4 = 0x52435652) : recoveryHello body s =
    ((s.recoveryBound body).emit (.ack 2 0)).recoverySend none
      ((body.drop 12).take 8 ++ toLE 8 s.fuses.serial ++ toLE 1 s.fuses.svn ++
      toLE 1 s.fuses.ownerValid ++ toLE 1 s.fuses.ownerRevoked ++ toLE 1 0 ++ toLE 4 (s.random.2 % 2 ^ 32) ++
      toLE 8 0x4000000) := by
  unfold recoveryHello
  refine if_neg ?_
  rw [hstage, hup, hfree, hlength, hmagic]
  decide

/-- A COMMIT taken: its packet acknowledged, and QP2's last use noted. -/
def State.commitTaken (s : State) (psn : Nat) (b : RecoveryBind) : State :=
  ((s.takePsn 2 1).emit (.ack 2 psn)).setBoot { s.boot with recovery := some { b with lastUsed := s.now } }

/-- How many bytes of the window a COMMIT means. -/
def commitBytes (body : List Byte) : Nat := min (fieldLE body 8 8) 0x4000000

section
variable {s u : State} {psn : Nat} {body : List Byte} {b : RecoveryBind} (hbound : s.boot.recovery = some b) (hstage : s.stage = 7)
  (hup : s.hpUp = true) (hlength : body.length = 16) (hpsn : psn = s.f (Fld.hostQpPsn_recv_psn 2))
  (hfresh : s.boot.recoveryAt = none)
  (hu : u = s.commitTaken psn b)
include hbound hstage hup hlength hpsn hfresh hu

/-- A COMMIT that QP2 takes, by its nonce and the check of the image. -/
theorem recoveryCommit_taken (norOk : Bool) : recoveryCommit psn body norOk s =
    if body.take 8 ≠ b.nonce then u.recoverySend (some BRes.nonce) []
    else
      match s.recoveryCheck (commitBytes body) with
      | some r => u.recoverySend (some r) []
      | none =>
        if norOk then ((u.windowToNor (commitBytes body)).setBoot { (u.windowToNor (commitBytes body)).boot with
          recoveryAt := some s.now }).recoverySend (some BRes.ok) []
        else (u.norFree (commitBytes body)).recoverySend (some BRes.norError) [] := by
  have htakes : ¬ (s.stage ≠ 7 ∨ s.hpUp = false ∨ body.length ≠ 16 ∨ psn ≠ s.f (Fld.hostQpPsn_recv_psn 2) ∨
      s.boot.recoveryAt.isSome = true) := by
    rw [hstage, hup, hlength, ← hpsn, hfresh]
    simp
  subst hu
  unfold recoveryCommit
  rw [hbound]
  refine (if_neg htakes).trans ?_
  unfold commitBytes
  dsimp only
  cases s.recoveryCheck (min (fieldLE body 8 8) 0x4000000) with
  | none => rfl
  | some r => rfl

theorem recoveryCommit_otherNonce (norOk : Bool) (hnonce : body.take 8 ≠ b.nonce) :
    recoveryCommit psn body norOk s = u.recoverySend (some BRes.nonce) [] :=
  (recoveryCommit_taken hbound hstage hup hlength hpsn hfresh hu norOk).trans (if_pos hnonce)

section
variable (hnonce : body.take 8 = b.nonce)
include hnonce

theorem recoveryCommit_badImage (norOk : Bool) {r : Nat} (hcheck : s.recoveryCheck (commitBytes body) = some r) :
    recoveryCommit psn body norOk s = u.recoverySend (some r) [] := by
  refine (recoveryCommit_taken hbound hstage hup hlength hpsn hfresh hu norOk).trans ((if_neg (not_not.2 hnonce)).trans ?_)
  rw [hcheck]

theorem recoveryCommit_written {v : State} (hcheck : s.recoveryCheck (commitBytes body) = none)
    (hv : v = u.windowToNor (commitBytes body)) :
    recoveryCommit psn body true s = (v.setBoot { v.boot with recoveryAt := some s.now }).recoverySend (some BRes.ok) [] := by
  subst hv
  refine (recoveryCommit_taken hbound hstage hup hlength hpsn hfresh hu true).trans ((if_neg (not_not.2 hnonce)).trans ?_)
  rw [hcheck]
  exact if_pos rfl

theorem recoveryCommit_notWritten (hcheck : s.recoveryCheck (commitBytes body) = none) :
    recoveryCommit psn body false s = (u.norFree (commitBytes body)).recoverySend (some BRes.norError) [] := by
  refine (recoveryCommit_taken hbound hstage hup hlength hpsn hfresh hu false).trans ((if_neg (not_not.2 hnonce)).trans ?_)
  rw [hcheck]
  exact if_neg (by decide)

end
end

/-- An answer on QP2 leaves the NOR that the COMMIT found. -/
theorem State.commitAnswered_nor (s : State) (psn : Nat) (b : RecoveryBind) (imm : Option Nat) (data : List Byte) :
    ((s.commitTaken psn b).recoverySend imm data).boot.nor = s.boot.nor := by
  rw [(State.recoverySend_ext (M₀ := 260) rfl (.refl _ (s.commitTaken psn b))).boot rfl]
  unfold State.commitTaken
  rw [State.setBoot_boot]

theorem recoveryIdle_unbinds {s : State} {b : RecoveryBind} (hbound : s.boot.recovery = some b) (hstage : s.stage = 7)
    (hidle : 4750000000 + b.lastUsed ≤ s.now) : recoveryIdle s = s.recoveryUnbind := by
  unfold recoveryIdle
  rw [hbound]
  exact if_pos ⟨hstage, hidle⟩

theorem State.recoveryUnbind_recovery (s : State) : s.recoveryUnbind.boot.recovery = none := by
  unfold State.recoveryUnbind
  rw [State.setQp_boot, State.put_boot, State.setBoot_boot]

theorem recoveryReset_due {s : State} {a : Nat} (hdone : s.boot.recoveryAt = some a) (hdue : 4750000 + a ≤ s.now) :
    recoveryReset s = s.resetDevice := by
  unfold recoveryReset
  rw [hdone]
  exact if_pos hdue

/-- Settles O53: each command by its equation in the case at hand. -/
theorem recoveryLoadsAnImageOverHp : Obligations.RecoveryLoadsAnImageOverHp := by
  unfold Obligations.RecoveryLoadsAnImageOverHp
  refine ⟨?hello, ?otherNonce, ?badImage, ?written, ?notWritten, ?idle, ?reset⟩
  case hello =>
    intro s body u v t hl hstage hup hfree hlength hmagic hu hv ht
    subst hu
    obtain rfl : v = s.recoveryBound body := hv
    obtain ⟨hrun, hext⟩ := hl.answers (M := 1286) ((recoveryHello_binds hstage hup hfree hlength hmagic).trans ht.symm)
      (recoveryHello_ext rfl (.refl _ s))
    exact ⟨hrun, hext.sameHbm rfl, hext.comp rfl, hext.ctl rfl, hext.fuses rfl⟩
  case otherNonce =>
    intro s psn body norOk b u t hl hbound hstage hup hlength hpsn hfresh hu hnonce ht
    obtain rfl : u = s.commitTaken psn.toNat b := hu
    obtain ⟨hrun, hext⟩ := hl.answers (M := 1286)
      ((recoveryCommit_otherNonce hbound hstage hup hlength hpsn hfresh rfl norOk hnonce).trans ht.symm)
        (recoveryCommit_ext rfl (.refl _ s))
    exact ⟨hrun, ht ▸ s.commitAnswered_nor _ _ _ _, hext.sameHbm rfl, hext.comp rfl, hext.ctl rfl⟩
  case badImage =>
    intro s psn body norOk b u r t hl hbound hstage hup hlength hpsn hfresh hu hnonce hcheck ht
    obtain rfl : u = s.commitTaken psn.toNat b := hu
    obtain ⟨hrun, hext⟩ := hl.answers (M := 1286)
      ((recoveryCommit_badImage hbound hstage hup hlength hpsn hfresh rfl hnonce norOk hcheck).trans ht.symm)
      (recoveryCommit_ext rfl (.refl _ s))
    exact ⟨hrun, ht ▸ s.commitAnswered_nor _ _ _ _, hext.sameHbm rfl, hext.comp rfl, hext.ctl rfl⟩
  case written =>
    intro s psn body b u v t hl hbound hstage hup hlength hpsn hfresh hu hnonce hcheck hv ht
    obtain ⟨hrun, hext⟩ := hl.answers (M := 1286)
      ((recoveryCommit_written hbound hstage hup hlength hpsn hfresh hu hnonce hcheck hv).trans ht.symm)
        (recoveryCommit_ext rfl (.refl _ s))
    exact ⟨hrun, hext.sameHbm rfl, hext.comp rfl, hext.ctl rfl⟩
  case notWritten =>
    intro s psn body b u t hl hbound hstage hup hlength hpsn hfresh hu hnonce hcheck ht
    obtain ⟨hrun, hext⟩ := hl.answers (M := 1286)
      ((recoveryCommit_notWritten hbound hstage hup hlength hpsn hfresh hu hnonce hcheck).trans ht.symm)
        (recoveryCommit_ext rfl (.refl _ s))
    exact ⟨hrun, hext.sameHbm rfl, hext.comp rfl, hext.ctl rfl⟩
  case idle =>
    intro s b t hl hbound hstage hidle ht
    obtain ⟨hrun, hext⟩ := hl.answers (M := 1284) ((recoveryIdle_unbinds hbound hstage hidle).trans ht.symm)
      (recoveryIdle_ext rfl (.refl _ s))
    exact ⟨hrun, ht ▸ s.recoveryUnbind_recovery, hext.sameHbm rfl, hext.comp rfl, hext.ctl rfl⟩
  case reset =>
    intro s a t hl hdone hdue ht
    obtain ⟨-, hnor, -, -, -, -, hheld⟩ := s.resetDevice_resetTo.outlives
    exact ⟨hl.runs ((recoveryReset_due hdone hdue).trans ht.symm), ht ▸ hnor, ht ▸ hheld⟩

end Sys2Proof.Machine
end

section
/-!
Security commands and attestation (R381 to R385): what each command's equation is in the case at hand.
-/
namespace Sys2Proof.Machine

/-! ### The end of a security command (R383, R384) -/

theorem State.secDone_shown (s : State) (r : Nat) {q : FieldRef} (hq : q.off = Reg.secCmdStatus) :
    (s.secDone r).f q = ((s.put Fld.secCmdStatus_state 2).put Fld.secCmdStatus_result r).f q := by
  unfold State.secDone State.random
  dsimp only
  rw [State.f_wr_ne _ _ (by rw [hq]; decide), State.useFresh_f]

theorem State.secDone_state (s : State) (r : Nat) : (s.secDone r).f Fld.secCmdStatus_state = 2 := by
  rw [State.secDone_shown s r rfl, State.f_put_sep (r := Fld.secCmdStatus_result) _ _ (by decide) (.inl (by decide)),
    State.f_put_self (r := Fld.secCmdStatus_state) s 2 (by decide)]
  rfl

theorem State.secDone_result (s : State) {r : Nat} (hr : r < 256) : (s.secDone r).f Fld.secCmdStatus_result = r := by
  rw [State.secDone_shown s r rfl, State.f_put_self (r := Fld.secCmdStatus_result) _ _ (by decide)]
  exact Nat.mod_eq_of_lt hr

/-- A command that ends with a result alone shows it, and touches no fuse, no key and no memory. -/
theorem State.Live.secEnds {s t : State} {r : Nat} {f : State → State} (hl : s.Live) (hf : f s = s.secDone r) (hr : r < 256)
    (ht : t = s.secDone r) : State.unlessReset s f = .next t ∧ (t.fuses = s.fuses ∧ t.sec = s.sec) ∧
      t.f Fld.secCmdStatus_state = 2 ∧ t.f Fld.secCmdStatus_result = r ∧ s.SameHbm t := by
  have hext : Ext 6 s t := ht ▸ State.secDone_ext rfl (.refl _ s)
  exact ⟨hl.runs (hf.trans ht.symm), ⟨hext.fuses rfl, hext.sec rfl⟩, ht ▸ s.secDone_state r, ht ▸ s.secDone_result hr,
    hext.sameHbm rfl⟩

/-! ### A block is taken (R383 to R386) -/

section
variable {s : State} {w : Writer} {off : Nat}

theorem State.secRow_iff (code : Nat) : s.secRow code off = true ↔ blkCommand (s.secBlock (off % 2 ^ 14)) = code := beq_iff_eq

section
variable (haccepts : s.Accepts w Reg.secCmdGo (off % 2 ^ 14 + 2 ^ 31)) (hserves : s.serving = true)
  (eff : State → List Byte → State)
include haccepts hserves

theorem State.secGo_busy (hbusy : s.boot.seqUse.isSome = true) : s.secGo w off true eff = s.secDone BRes.busy := by
  unfold State.secGo
  refine (State.regWrite_ok _ haccepts).trans ?_
  simp only [hserves, hbusy, Bool.true_eq_false, if_false, if_true]

section
variable (hfree : s.boot.seqUse = none)
include hfree

theorem State.secGo_refused {r : Nat} (hcheck : s.secCheck (s.secBlock (off % 2 ^ 14)) = some r) :
    s.secGo w off true eff = s.secDone r := by
  unfold State.secGo
  refine (State.regWrite_ok _ haccepts).trans ?_
  simp only [hserves, hfree, hcheck, Option.isSome_none, Bool.true_eq_false, Bool.false_eq_true, if_false]

theorem State.secGo_effect (hcheck : s.secCheck (s.secBlock (off % 2 ^ 14)) = none) :
    s.secGo w off true eff = eff s (s.secBlock (off % 2 ^ 14)) := by
  unfold State.secGo
  refine (State.regWrite_ok _ haccepts).trans ?_
  simp only [hserves, hfree, hcheck, Option.isSome_none, Bool.true_eq_false, Bool.false_eq_true, if_false]

end
end

theorem ownerProgram_row (hcode : blkCommand (s.secBlock (off % 2 ^ 14)) = 1) :
    ownerProgram w off true s = s.secGo w off true State.ownerProgram := if_pos ((State.secRow_iff 1).2 hcode)

theorem ownerRevoke_row (hcode : blkCommand (s.secBlock (off % 2 ^ 14)) = 2) :
    ownerRevoke w off true s = s.secGo w off true State.ownerRevoke := if_pos ((State.secRow_iff 2).2 hcode)

theorem keyLoad_row (hcode : blkCommand (s.secBlock (off % 2 ^ 14)) = 3) :
    keyLoad w off true s = s.secGo w off true State.keyLoad := if_pos ((State.secRow_iff 3).2 hcode)

/-- KEY_CLEAR's effect: the target's slot emptied. -/
def State.keyCleared (s : State) (b : List Byte) : State := (s.setKey (blkTarget b) []).secDone BRes.ok

theorem keyClear_row (hcode : blkCommand (s.secBlock (off % 2 ^ 14)) = 4) :
    keyClear w off true s = s.secGo w off true State.keyCleared := if_pos ((State.secRow_iff 4).2 hcode)

end

/-! ### The effects of the four commands (R382, R384, R385) -/

section
variable {s : State} {b : List Byte}

theorem State.ownerProgram_revoked (h : testBit s.fuses.ownerRevoked (blkTarget b) = true) :
    s.ownerProgram b = s.secDone BRes.keyRevoked := if_pos h

section
variable (hrevoked : testBit s.fuses.ownerRevoked (blkTarget b) = false)
include hrevoked

theorem State.ownerProgram_valid (h : testBit s.fuses.ownerValid (blkTarget b) = true) :
    s.ownerProgram b = s.secDone BRes.badFormat :=
  (if_neg (ne_true_of_eq_false hrevoked)).trans (if_pos h)

/-- The fuses with a hash blown into slot k. -/
def Fuses.programmed (f : Fuses) (k : Nat) (hash : List Byte) : Fuses :=
  { f with ownerHash := (List.range 4).map (fun i => if i = k then hash else f.ownerHash.getD i []),
           ownerValid := fuseBit f.ownerValid k }

theorem State.ownerProgram_blown (h : testBit s.fuses.ownerValid (blkTarget b) = false) : s.ownerProgram b =
    (s.setFuses (s.fuses.programmed (blkTarget b) ((blkPayload b).take 32))).showFuses.secDone BRes.ok :=
  (if_neg (ne_true_of_eq_false hrevoked)).trans (if_neg (ne_true_of_eq_false h))

end

theorem Fuses.programmed_hash (f : Fuses) {k : Nat} (hash : List Byte) (hk : k < 4) :
    (f.programmed k hash).ownerHash.getD k [] = hash := by
  unfold Fuses.programmed
  simp [List.getD_eq_getElem?_getD, hk]

theorem State.ownerRevoke_last (h : ∀ i, i < 4 → i ≠ blkTarget b → s.fuses.slotGood i = false) :
    s.ownerRevoke b = s.secDone BRes.lastKey := by
  refine if_pos (List.all_eq_true.2 (fun i hi => ?_))
  by_cases hk : i = blkTarget b
  · simp [hk]
  · simp [h i (List.mem_range.1 hi) hk]

theorem State.ownerRevoke_revoked {i : Nat} (hi : i < 4) (hk : i ≠ blkTarget b)
    (hgood : s.fuses.slotGood i = true) :
    s.ownerRevoke b =
    (s.setFuses { s.fuses with ownerRevoked := fuseBit s.fuses.ownerRevoked (blkTarget b) }).showFuses.secDone BRes.ok := by
  refine if_neg (fun hall => ?_)
  have hlast := List.all_eq_true.1 hall i (List.mem_range.2 hi)
  simp [hk, hgood] at hlast

theorem State.keyLoad_opened {key : List Byte} (hkey : Config.sm2Decrypt (blkPayload b) = some key) (hlength : key.length = 16) :
    s.keyLoad b = (s.setKey (blkTarget b) key).secDone BRes.ok := by
  unfold State.keyLoad
  rw [hkey]
  exact if_pos hlength

theorem State.keyLoad_unopened (h : ∀ key, Config.sm2Decrypt (blkPayload b) = some key → key.length ≠ 16) :
    s.keyLoad b = s.secDone BRes.badFormat := by
  unfold State.keyLoad
  split
  · next key hkey => exact if_neg (h key hkey)
  · rfl

end

/-- Fuses blown and shown, and the command ended: the keys stay. -/
theorem State.fusesBlown (s : State) (f : Fuses) (r : Nat) :
    ((s.setFuses f).showFuses.secDone r).fuses = f ∧ ((s.setFuses f).showFuses.secDone r).sec = s.sec := by
  have hext : Ext 6 (s.setFuses f) ((s.setFuses f).showFuses.secDone r) :=
    State.secDone_ext rfl (State.showFuses_ext rfl (.refl _ _))
  exact ⟨hext.fuses rfl, hext.sec rfl⟩

/-- A key slot filled or emptied, and the command ended: the fuses stay. -/
theorem State.keySet (s : State) (k r : Nat) (key : List Byte) : ((s.setKey k key).secDone r).fuses = s.fuses ∧
    ((s.setKey k key).secDone r).sec.keys = Sparse.put (fun _ => []) s.sec.keys k key := by
  have hext : Ext 6 (s.setKey k key) ((s.setKey k key).secDone r) := State.secDone_ext rfl (.refl _ _)
  have hset : Ext 2052 s (s.setKey k key) := State.setKey_ext rfl (.refl _ s)
  refine ⟨(hext.fuses rfl).trans (hset.fuses rfl), ?_⟩
  rw [hext.sec rfl]
  unfold State.setKey
  rw [State.putB_sec]
  rfl

/-! ### Attestation (R381) -/

theorem secAttestGo_asks {s : State} {w : Writer} (haccepts : s.Accepts w Reg.secAttestGo (2 ^ 31)) : secAttestGo w true s =
    ((s.setSec { s.sec with attestNonce := (List.range 4).flatMap (fun i => toLE 8 (s.rd (Reg.secAttestNonce i))) }).put
      Fld.secAttestStatus_valid 0).put Fld.secAttestStatus_busy 1 := State.regWrite_ok _ haccepts

/-- The words of a report in SEC_REPORT_WORD. -/
def State.reportWords (s : State) (r : List Byte) : State :=
  (List.range 64).foldl (fun t j => t.wr (Reg.secReportWord j) (fieldLE r (8 * j) 8)) s

theorem State.reportWords_rd (s : State) (r : List Byte) {j : Nat} (hj : j < 64) :
    (s.reportWords r).rd (Reg.secReportWord j) = fieldLE r (8 * j) 8 % 2 ^ 64 := by
  have hself (t : State) (v : Nat) : (t.wr (Reg.secReportWord j) v).rd (Reg.secReportWord j) = v % 2 ^ 64 := State.rd_wr_self t _ v
  unfold State.reportWords
  refine foldl_gains (P := fun t : State => t.rd (Reg.secReportWord j) = fieldLE r (8 * j) 8 % 2 ^ 64) (List.mem_range.2 hj)
    ?_ (fun t i ht => ?_) s
  · exact fun t => hself t _
  · by_cases hi : i = j
    · subst hi
      exact hself t _
    · have hne : Reg.secReportWord j ≠ Reg.secReportWord i := by
        unfold Reg.secReportWord
        omega
      exact (State.rd_wr_ne t _ hne).trans ht

/-- A report that stands, valid. -/
def State.reported (s : State) (r : List Byte) : State :=
  (((s.reportWords r).setSec { (s.reportWords r).sec with reports := (s.reportWords r).sec.reports + 1 }).put
    Fld.secAttestStatus_busy 0).put Fld.secAttestStatus_valid 1

theorem attestReportReady_reports {s : State} (hbusy : s.flag Fld.secAttestStatus_busy = true) (hheld : s.isHeld = false)
    (hsave : s.saveState = 0) : attestReportReady s = s.reported (s.reportBody ++ padTo 64 (Config.sm2Sign s.reportBody)) :=
  if_neg (by simp [hbusy, hheld, hsave])

theorem State.reported_status (s : State) (r : List Byte) :
    (s.reported r).f Fld.secAttestStatus_busy = 0 ∧ (s.reported r).f Fld.secAttestStatus_valid = 1 := by
  unfold State.reported
  rw [State.f_put_sep (r := Fld.secAttestStatus_valid) _ _ (by decide) (.inr (by decide)), State.f_put_zero_self,
    State.f_put_self (r := Fld.secAttestStatus_valid) _ 1 (by decide)]
  exact ⟨rfl, rfl⟩

theorem State.reported_word (s : State) (r : List Byte) {j : Nat} (hj : j < 64) :
    (s.reported r).rd (Reg.secReportWord j) = fieldLE r (8 * j) 8 % 2 ^ 64 := by
  have hne : Reg.secReportWord j ≠ Reg.secAttestStatus := by
    unfold Reg.secReportWord Reg.secAttestStatus
    omega
  unfold State.reported
  rw [State.rd_put_ne (r := Fld.secAttestStatus_valid) _ _ hne, State.rd_put_ne (r := Fld.secAttestStatus_busy) _ _ hne,
    State.setSec_rd, State.reportWords_rd s r hj]

theorem State.reported_reports (s : State) (r : List Byte) : (s.reported r).sec.reports = s.sec.reports + 1 := by
  have hwords : (s.reportWords r).sec = s.sec :=
    (Ext.foldl (M := 4) _ (fun _ _ ht => State.wr_ext rfl ht) (.refl _ s)).sec rfl
  unfold State.reported
  rw [State.put_sec, State.put_sec, State.setSec_sec, hwords]

/-- Settles O54: each command by how far its block gets, and the reports by what they leave. -/
theorem securityCommandsAndReports : Obligations.SecurityCommandsAndReports := by
  unfold Obligations.SecurityCommandsAndReports
  refine ⟨?programBusy, ?revokeBusy, ?loadBusy, ?clearBusy, ?programRefused, ?revokeRefused, ?loadRefused, ?clearRefused,
    ?slotRevoked, ?slotValid, ?programmed, ?lastKey, ?revoked, ?loaded, ?unopened, ?cleared, ?attest, ?report⟩
  case programBusy =>
    intro s w off t hl hcode haccepts hserves hbusy ht
    obtain ⟨hrun, hkept, hstate, hresult, -⟩ :=
      hl.secEnds ((ownerProgram_row hcode).trans (State.secGo_busy haccepts hserves _ hbusy))
      (by decide) ht
    exact ⟨hrun, hkept, hstate, hresult⟩
  case revokeBusy =>
    intro s w off t hl hcode haccepts hserves hbusy ht
    obtain ⟨hrun, hkept, hstate, hresult, -⟩ :=
      hl.secEnds ((ownerRevoke_row hcode).trans (State.secGo_busy haccepts hserves _ hbusy))
      (by decide) ht
    exact ⟨hrun, hkept, hstate, hresult⟩
  case loadBusy =>
    intro s w off t hl hcode haccepts hserves hbusy ht
    obtain ⟨hrun, hkept, hstate, hresult, -⟩ := hl.secEnds ((keyLoad_row hcode).trans (State.secGo_busy haccepts hserves _ hbusy))
      (by decide) ht
    exact ⟨hrun, hkept, hstate, hresult⟩
  case clearBusy =>
    intro s w off t hl hcode haccepts hserves hbusy ht
    obtain ⟨hrun, hkept, hstate, hresult, -⟩ := hl.secEnds ((keyClear_row hcode).trans (State.secGo_busy haccepts hserves _ hbusy))
      (by decide) ht
    exact ⟨hrun, hkept, hstate, hresult⟩
  case programRefused =>
    intro s w off r t hl hcode haccepts hserves hfree hcheck hr ht
    obtain ⟨hrun, hkept, hstate, hresult, -⟩ := hl.secEnds
      ((ownerProgram_row hcode).trans (State.secGo_refused haccepts hserves _ hfree hcheck)) hr ht
    exact ⟨hrun, hkept, hstate, hresult⟩
  case revokeRefused =>
    intro s w off r t hl hcode haccepts hserves hfree hcheck hr ht
    obtain ⟨hrun, hkept, hstate, hresult, -⟩ := hl.secEnds
      ((ownerRevoke_row hcode).trans (State.secGo_refused haccepts hserves _ hfree hcheck)) hr ht
    exact ⟨hrun, hkept, hstate, hresult⟩
  case loadRefused =>
    intro s w off r t hl hcode haccepts hserves hfree hcheck hr ht
    obtain ⟨hrun, hkept, hstate, hresult, -⟩ := hl.secEnds
      ((keyLoad_row hcode).trans (State.secGo_refused haccepts hserves _ hfree hcheck)) hr ht
    exact ⟨hrun, hkept, hstate, hresult⟩
  case clearRefused =>
    intro s w off r t hl hcode haccepts hserves hfree hcheck hr ht
    obtain ⟨hrun, hkept, hstate, hresult, -⟩ := hl.secEnds
      ((keyClear_row hcode).trans (State.secGo_refused haccepts hserves _ hfree hcheck)) hr ht
    exact ⟨hrun, hkept, hstate, hresult⟩
  case slotRevoked =>
    intro s w off b k t hl hb hk hcode haccepts hserves hfree hcheck hrevoked ht
    subst hk hb
    exact hl.secEnds (((ownerProgram_row hcode).trans (State.secGo_effect haccepts hserves _ hfree hcheck)).trans
      (State.ownerProgram_revoked hrevoked)) (by decide) ht
  case slotValid =>
    intro s w off b k t hl hb hk hcode haccepts hserves hfree hcheck hrevoked hvalid ht
    subst hk hb
    exact hl.secEnds (((ownerProgram_row hcode).trans (State.secGo_effect haccepts hserves _ hfree hcheck)).trans
      (State.ownerProgram_valid hrevoked hvalid)) (by decide) ht
  case programmed =>
    intro s w off b k u t hl hb hk hcode haccepts hserves hfree hcheck hrevoked hvalid hu ht
    subst hk hb
    obtain rfl : u = s.setFuses (s.fuses.programmed _ _) := hu
    obtain ⟨hrun, hext⟩ := hl.answers (M := 646) (((ownerProgram_row hcode).trans
      ((State.secGo_effect haccepts hserves _ hfree hcheck).trans (State.ownerProgram_blown hrevoked hvalid))).trans ht.symm)
      (ownerProgram_ext rfl (.refl _ s))
    obtain ⟨hfuses, hsec⟩ := s.fusesBlown (s.fuses.programmed (blkTarget (s.secBlock (off.val % 2 ^ 14)))
      ((blkPayload (s.secBlock (off.val % 2 ^ 14))).take 32)) BRes.ok
    refine ⟨hrun, ht ▸ hsec, ht ▸ hfuses, fun hk => ?_, ht ▸ State.secDone_result _ (by decide), hext.sameHbm rfl⟩
    rw [ht, hfuses]
    exact s.fuses.programmed_hash _ hk
  case lastKey =>
    intro s w off b k t hl hb hk hcode haccepts hserves hfree hcheck hlast ht
    subst hk hb
    exact hl.secEnds (((ownerRevoke_row hcode).trans (State.secGo_effect haccepts hserves _ hfree hcheck)).trans
      (State.ownerRevoke_last hlast)) (by decide) ht
  case revoked =>
    intro s w off b k i t hl hb hk hcode haccepts hserves hfree hcheck hi hne hgood ht
    subst hk hb
    obtain ⟨hrun, hext⟩ := hl.answers (M := 646) (((ownerRevoke_row hcode).trans
      ((State.secGo_effect haccepts hserves _ hfree hcheck).trans (State.ownerRevoke_revoked hi hne hgood))).trans ht.symm)
      (ownerRevoke_ext rfl (.refl _ s))
    obtain ⟨hfuses, hsec⟩ := s.fusesBlown { s.fuses with
      ownerRevoked := fuseBit s.fuses.ownerRevoked (blkTarget (s.secBlock (off.val % 2 ^ 14))) } BRes.ok
    exact ⟨hrun, ht ▸ hsec, ht ▸ hfuses, ht ▸ State.secDone_result _ (by decide), hext.sameHbm rfl⟩
  case loaded =>
    intro s w off b k key t hl hb hk hcode haccepts hserves hfree hcheck hkey hlength ht
    subst hk hb
    obtain ⟨hrun, hext⟩ := hl.answers (M := 2182) (((keyLoad_row hcode).trans
      ((State.secGo_effect haccepts hserves _ hfree hcheck).trans (State.keyLoad_opened hkey hlength))).trans ht.symm)
      (keyLoad_ext rfl (.refl _ s))
    obtain ⟨hfuses, hkeys⟩ := s.keySet (blkTarget (s.secBlock (off.val % 2 ^ 14))) BRes.ok key
    exact ⟨hrun, ht ▸ hfuses, ht ▸ hkeys, ht ▸ State.secDone_result _ (by decide), hext.sameHbm rfl⟩
  case unopened =>
    intro s w off b k t hl hb hk hcode haccepts hserves hfree hcheck hkey ht
    subst hk hb
    exact hl.secEnds (((keyLoad_row hcode).trans (State.secGo_effect haccepts hserves _ hfree hcheck)).trans
      (State.keyLoad_unopened hkey)) (by decide) ht
  case cleared =>
    intro s w off b k t hl hb hk hcode haccepts hserves hfree hcheck ht
    subst hk hb
    obtain ⟨hrun, hext⟩ := hl.answers (M := 2182) (((keyClear_row hcode).trans
      (State.secGo_effect haccepts hserves _ hfree hcheck)).trans ht.symm) (keyClear_ext rfl (.refl _ s))
    obtain ⟨hfuses, hkeys⟩ := s.keySet (blkTarget (s.secBlock (off.val % 2 ^ 14))) BRes.ok []
    exact ⟨hrun, ht ▸ hfuses, ht ▸ hkeys, ht ▸ State.secDone_result _ (by decide), hext.sameHbm rfl⟩
  case attest =>
    intro s w t hl haccepts ht
    obtain ⟨hrun, hext⟩ := hl.answers (M := 2180) ((secAttestGo_asks haccepts).trans ht.symm) (secAttestGo_ext rfl (.refl _ s))
    refine ⟨hrun, ⟨?_, ?_⟩, hext.sameHbm rfl, hext.comp rfl, hext.ctl rfl, hext.keep rfl⟩
    · rw [ht, State.f_put_self (r := Fld.secAttestStatus_busy) _ _ (by decide)]
      rfl
    · rw [ht, State.f_put_sep (r := Fld.secAttestStatus_busy) _ _ (by decide) (.inl (by decide)), State.f_put_zero_self]
  case report =>
    intro s r u t hl hbusy hheld hsave hr hu ht
    obtain rfl : u = s.reportWords r := hu
    obtain rfl : t = s.reported r := ht
    subst hr
    obtain ⟨hrun, hext⟩ := hl.answers (M := 2052) (attestReportReady_reports hbusy hheld hsave)
      (attestReportReady_ext rfl (.refl _ s))
    exact ⟨hrun, s.reported_status _, fun j hj => s.reported_word _ hj, s.reported_reports _, hext.sameHbm rfl, hext.comp rfl,
      hext.ctl rfl, hext.keep rfl⟩

end Sys2Proof.Machine
end

section
/-!
The event recorder (chapter 15): what an intake, the write engine, a bucket and a clear do in the case at hand.
-/
namespace Sys2Proof.Machine

/-! ### Intakes (R388, R389) -/

/-- An event waits in an intake or is counted as lost; it reaches no slot of the log. -/
@[simp] theorem State.raise_slots (s : State) (e : Ev) : (s.raise e).recorder.slots = s.recorder.slots := by
  unfold State.raise
  split
  · split <;> rw [State.bumpSat_recorder]
  · split <;> rfl

@[simp] theorem State.badWrite_slots (s : State) (off v : Nat) : (s.badWrite off v).recorder.slots = s.recorder.slots :=
  s.raise_slots _

theorem State.raise_pommel_full {s : State} {e : Ev} (hhalf : e.cantle = false) (hfull : 512 ≤ (s.intake false).length) :
    s.raise e = (s.setRec { s.recorder with lost0 := s.recorder.lost0 + 1 }).bumpSat Fld.evrecLost_pommel 1 := by
  unfold State.raise
  simp only [hhalf, hfull, if_true, Bool.false_eq_true, if_false]
  rfl

theorem State.raise_cantle_full {s : State} {e : Ev} (hhalf : e.cantle = true) (hfull : 512 ≤ (s.intake true).length) :
    s.raise e = (s.setRec { s.recorder with lost1 := s.recorder.lost1 + 1 }).bumpSat Fld.evrecLost_cantle 1 := by
  unfold State.raise
  simp only [hhalf, hfull, if_true]
  rfl

/-- The count of one half lost since the previous report, taken as EV-0x0C02. -/
theorem intakeLost_pommel {s : State} (hlost : 0 < s.recorder.lost0) (hroom : (s.intake false).length ≤ 256)
    (hrec : s.recording = true) :
    intakeLost false s = (s.setRec { s.recorder with lost0 := 0 }).writeRecord 0x0C02 1 0 0 (s.stepFor none) s.now
      (toLE 1 0 ++ toLE 3 0 ++ toLE 4 s.recorder.lost0) [4] := by
  have hreports : ¬ (s.recorder.lost0 = 0 ∨ 256 < (s.intake false).length ∨ s.recording = false) := by
    rw [hrec]; simp; omega
  exact if_neg hreports

theorem intakeLost_cantle {s : State} (hlost : 0 < s.recorder.lost1) (hroom : (s.intake true).length ≤ 256)
    (hrec : s.recording = true) :
    intakeLost true s = (s.setRec { s.recorder with lost1 := 0 }).writeRecord 0x0C02 1 16 0 (s.stepFor none) s.now
      (toLE 1 1 ++ toLE 3 0 ++ toLE 4 s.recorder.lost1) [4] := by
  have hreports : ¬ (s.recorder.lost1 = 0 ∨ 256 < (s.intake true).length ∨ s.recording = false) := by
    rw [hrec]; simp; omega
  exact if_neg hreports

/-! ### The write engine (R388, R391, R401) -/

/-- The state the engine begins from: in HELD without the bridge, Cantle's events are lost first. -/
def State.unbridged (s : State) (bridge : Bool) : State := if s.isHeld && !bridge then s.loseCantle else s

/-- The oldest of the waiting events is taken, Pommel's before Cantle's of the same cycle. -/
def State.takeOldest (s : State) : State :=
  match s.forwarded false, s.forwarded true with
  | [], [] => s
  | e :: es, [] => (s.setRec { s.recorder with intake0 := es }).takeEvent e
  | [], e :: es => (s.setRec { s.recorder with intake1 := es }).takeEvent e
  | e :: es, f :: fs =>
    if f.time < e.time then (s.setRec { s.recorder with intake1 := fs }).takeEvent f
    else (s.setRec { s.recorder with intake0 := es }).takeEvent e

theorem eventRecordWrite_eq (s : State) (bridge : Bool) : eventRecordWrite bridge s =
    if (s.unbridged bridge).recording = false then s.unbridged bridge else (s.unbridged bridge).takeOldest := rfl

section
variable {s u : State} {bridge : Bool} (hu : u = s.unbridged bridge)
include hu

theorem eventRecordWrite_stopped (hrec : u.recording = false) : eventRecordWrite bridge s = u := by
  subst hu
  exact (eventRecordWrite_eq s bridge).trans (if_pos hrec)

theorem eventRecordWrite_started (hrec : u.recording = true) : eventRecordWrite bridge s = u.takeOldest := by
  subst hu
  exact (eventRecordWrite_eq s bridge).trans (if_neg (Bool.not_eq_false _ ▸ hrec))

end

section
variable {s : State} {e f : Ev} {es fs : List Ev}

theorem State.takeOldest_none (h0 : s.forwarded false = []) (h1 : s.forwarded true = []) : s.takeOldest = s := by
  unfold State.takeOldest
  rw [h0, h1]

theorem State.takeOldest_pommel (h0 : s.forwarded false = e :: es) (h1 : s.forwarded true = []) :
    s.takeOldest = (s.setRec { s.recorder with intake0 := es }).takeEvent e := by
  unfold State.takeOldest
  rw [h0, h1]

theorem State.takeOldest_cantle (h0 : s.forwarded false = []) (h1 : s.forwarded true = e :: es) :
    s.takeOldest = (s.setRec { s.recorder with intake1 := es }).takeEvent e := by
  unfold State.takeOldest
  rw [h0, h1]

theorem State.takeOldest_both (h0 : s.forwarded false = e :: es) (h1 : s.forwarded true = f :: fs) : s.takeOldest =
    if f.time < e.time then (s.setRec { s.recorder with intake1 := fs }).takeEvent f
    else (s.setRec { s.recorder with intake0 := es }).takeEvent e := by
  unfold State.takeOldest
  rw [h0, h1]

end

/-! ### Reports of what a bucket suppressed (R395) -/

theorem suppressed_full {s : State} {code : Nat} {b : Bucket} (hb : b = s.bucketOf code) (hcount : 0 < b.suppressed)
    (hfull : (s.rateOf code).2 * tokenUnits ≤ s.levelOf code) : suppressed code s = s.writeSuppressed code := by
  subst hb
  refine if_neg ?_
  unfold State.bucketFull
  rw [decide_eq_true hfull]
  simp
  omega

/-- A step of the recorder writes its log, registers, completion queues and the host port: no memory, compute,
keep area or stream. -/
theorem State.Live.records {s t : State} {f : State → State} (hl : s.Live) (hf : f s = t) (hext : Ext 454 s (f s)) :
    State.unlessReset s f = .next t ∧ s.SameHbm t ∧ t.comp = s.comp ∧ t.keep = s.keep ∧ t.strm = s.strm := by
  obtain ⟨hrun, hext⟩ := hl.answers hf hext
  exact ⟨hrun, hext.sameHbm rfl, hext.comp rfl, hext.keep rfl, hext.strm rfl⟩

/-- Settles O55, by which intakes have a waiting event and which of the two is earlier. -/
theorem eventsAreTakenFromTheIntakesInOrder : Obligations.EventsAreTakenFromTheIntakesInOrder := by
  refine ⟨?stopped, ?nothing, ?pommel, ?cantle, ?cantleFirst, ?pommelFirst, ?refilled⟩
  case stopped =>
    intro s bridge u t hl hu hrec ht
    exact hl.records ((eventRecordWrite_stopped hu hrec).trans ht.symm) (eventRecordWrite_ext rfl (.refl _ s))
  case nothing =>
    intro s bridge u t hl hu hrec h0 h1 ht
    have htake := (eventRecordWrite_started hu hrec).trans (State.takeOldest_none h0 h1)
    exact hl.records (htake.trans ht.symm) (eventRecordWrite_ext rfl (.refl _ s))
  case pommel =>
    intro s bridge u e es t hl hu hrec h0 h1 ht
    have htake := (eventRecordWrite_started hu hrec).trans (State.takeOldest_pommel h0 h1)
    exact hl.records (htake.trans ht.symm) (eventRecordWrite_ext rfl (.refl _ s))
  case cantle =>
    intro s bridge u e es t hl hu hrec h0 h1 ht
    have htake := (eventRecordWrite_started hu hrec).trans (State.takeOldest_cantle h0 h1)
    exact hl.records (htake.trans ht.symm) (eventRecordWrite_ext rfl (.refl _ s))
  case cantleFirst =>
    intro s bridge u e es f fs t hl hu hrec h0 h1 hfirst ht
    have htake := ((eventRecordWrite_started hu hrec).trans (State.takeOldest_both h0 h1)).trans (if_pos hfirst)
    exact hl.records (htake.trans ht.symm) (eventRecordWrite_ext rfl (.refl _ s))
  case pommelFirst =>
    intro s bridge u e es f fs t hl hu hrec h0 h1 hfirst ht
    have htake := ((eventRecordWrite_started hu hrec).trans (State.takeOldest_both h0 h1)).trans
      (if_neg (Nat.not_lt.mpr hfirst))
    exact hl.records (htake.trans ht.symm) (eventRecordWrite_ext rfl (.refl _ s))
  case refilled =>
    intro s code b t hl hb hcount hfull ht
    have hwrite : suppressed code s = t := by
      subst hb
      exact (suppressed_full rfl hcount hfull).trans ht.symm
    exact hl.records hwrite (suppressed_ext rfl (.refl _ s))

/-- Settles O56: a full intake loses the event by `raise`, and the count is reported by `intakeLost`. -/
theorem anOverflowingIntakeIsCountedAndReported : Obligations.AnOverflowingIntakeIsCountedAndReported := by
  refine ⟨?pommelFull, ?cantleFull, ?pommelReport, ?cantleReport⟩
  case pommelFull =>
    intro s e hhalf hfull
    exact ⟨_, s.raise_pommel_full hhalf hfull, rfl, State.f_bumpSat_self _ 1 (by decide)⟩
  case cantleFull =>
    intro s e hhalf hfull
    exact ⟨_, s.raise_cantle_full hhalf hfull, rfl, State.f_bumpSat_self _ 1 (by decide)⟩
  case pommelReport =>
    intro s t hl hlost hroom hrec ht
    exact hl.records ((intakeLost_pommel hlost hroom hrec).trans ht.symm) (intakeLost_ext rfl (.refl _ s))
  case cantleReport =>
    intro s t hl hlost hroom hrec ht
    exact hl.records ((intakeLost_cantle hlost hroom hrec).trans ht.symm) (intakeLost_ext rfl (.refl _ s))

end Sys2Proof.Machine
end

section
/-!
Records and clears (R391 to R397): the slot a record takes, what stands in it, and what a bucket does to a code.
-/
namespace Sys2Proof.Machine

/-! ### Placing (R396) -/

section
variable {s : State} (sev : Nat)

theorem State.place_pinned {k : Nat} (hsplit : s.split = true) (hempty : firstEmpty (s.held.map Prod.fst) 0 4096 = some k) :
    s.place sev = some k := by
  unfold State.place
  simp only [hsplit, hempty, if_true]

theorem State.place_ring (hsplit : s.split = true) (hfull : firstEmpty (s.held.map Prod.fst) 0 4096 = none) :
    s.place sev = some s.recorder.ring := by
  unfold State.place
  simp only [hsplit, hfull, if_true]

theorem State.place_lowest {k : Nat} (hsev : s.split = false) (hempty : firstEmpty (s.held.map Prod.fst) 0 32768 = some k) :
    s.place sev = some k := by
  unfold State.place
  simp only [hsev, hempty, Bool.false_eq_true, if_false]

/-- With no empty slot and no record of the severity or below, no record is replaced. -/
theorem State.place_none (hsev : s.split = false) (hfull : firstEmpty (s.held.map Prod.fst) 0 32768 = none)
    (hhigher : ∀ e ∈ s.held, sev < e.2.severity) : s.place sev = none := by
  have hreplaceable : s.held.filter (fun e => decide (e.2.severity ≤ sev)) = [] :=
    List.filter_eq_nil_iff.mpr fun e he => by simpa using hhigher e he
  unfold State.place
  simp only [hsev, hfull, hreplaceable, Bool.false_eq_true, if_false, List.foldl_nil]

end

/-! ### A record in its slot (R391, R394) -/

@[simp] theorem State.recShow_recorder (s : State) : s.recShow.recorder = s.recorder := by
  unfold State.recShow
  simp only [State.putB_recorder, State.wr_recorder]

/-- Refreshing the log's registers writes the lowest number and the status only. -/
theorem State.recShow_rd (s : State) {off : Nat} (hlo : off ≠ Reg.evrecSeqLo) (hstatus : off ≠ Reg.evrecStatus) :
    s.recShow.rd off = s.rd off := by
  unfold State.recShow
  dsimp only
  rw [State.rd_putB_ne _ _ hstatus, State.rd_wr_ne _ _ hlo]

/-- The state with a record in slot k, before its registers are shown. -/
def State.slotted (s : State) (k : Nat) (r : EvRec) : State :=
  (s.useFresh 1).setRec { s.recorder with
    slots := Sparse.put recD s.recorder.slots k (some r), nextSeq := r.seq + 1,
    ring := if s.split && decide (4096 ≤ k) then (if k = 32767 then 4096 else k + 1) else s.recorder.ring }

/-- The state with a record in slot k and its registers shown, before its notices. -/
def State.stored (s : State) (k : Nat) (r : EvRec) : State :=
  let t := ((s.slotted k r).wr Reg.evrecSeqHi r.seq).recShow
  if (s.recSlot k).isSome then t.put Fld.evrecStatus_wrapped 1 else t

theorem State.stored_recorder (s : State) (k : Nat) (r : EvRec) : (s.stored k r).recorder = (s.slotted k r).recorder := by
  unfold State.stored
  dsimp only
  split <;> simp only [State.put_recorder, State.recShow_recorder, State.wr_recorder]

theorem State.stored_recSlot_self (s : State) (k : Nat) (r : EvRec) : (s.stored k r).recSlot k = some r := by
  unfold State.recSlot
  rw [State.stored_recorder]
  exact Sparse.get_put_self recD s.recorder.slots k (some r)

theorem State.stored_recSlot_ne (s : State) {k j : Nat} (r : EvRec) (hj : j ≠ k) : (s.stored k r).recSlot j = s.recSlot j := by
  unfold State.recSlot
  rw [State.stored_recorder]
  exact Sparse.get_put_ne recD s.recorder.slots (some r) hj

theorem State.stored_seqHi (s : State) (k : Nat) (r : EvRec) : (s.stored k r).rd Reg.evrecSeqHi = r.seq % 2 ^ 64 := by
  have hshown : (((s.slotted k r).wr Reg.evrecSeqHi r.seq).recShow).rd Reg.evrecSeqHi = r.seq % 2 ^ 64 := by
    rw [State.recShow_rd _ (by decide) (by decide), State.rd_wr_self]
  unfold State.stored
  dsimp only
  split
  · rw [State.rd_put_ne _ _ (by decide), hshown]
  · exact hshown

theorem State.stored_wrapped {s : State} {k : Nat} (r : EvRec) (htaken : (s.recSlot k).isSome = true) :
    (s.stored k r).f Fld.evrecStatus_wrapped = 1 := by
  unfold State.stored
  dsimp only
  rw [if_pos htaken, State.f_put_self (r := Fld.evrecStatus_wrapped) _ 1 (by decide)]
  rfl

section
variable {s : State} {sev : Nat} (code flags inst step time : Nat) (payload : List Byte) (queues : List Nat)

theorem State.writeRecord_dropped (hplace : s.place sev = none) :
    s.writeRecord code sev flags inst step time payload queues = s.bumpSat Fld.evrecDropped_count 1 := by
  unfold State.writeRecord
  rw [hplace]

/-- A record with a slot is stored there under the next sequence number, and then noticed to its queues. -/
theorem State.writeRecord_placed {k : Nat} {r : EvRec} (hplace : s.place sev = some k)
    (hr : r = ⟨s.recorder.nextSeq, code, sev, flags, inst, step, time, padTo 28 payload, Config.freeBit s.fresh, false⟩) :
    s.writeRecord code sev flags inst step time payload queues = queues.foldl (fun t q => t.notice q r.notice) (s.stored k r) := by
  subst hr
  unfold State.writeRecord
  rw [hplace]
  rfl

end

/-! ### Buckets (R395, R402) -/

/-- The bucket that an event with no whole token leaves: the event is counted as suppressed. -/
def State.suppressing (s : State) (e : Ev) : Bucket :=
  let b := s.bucketOf e.code
  { b with
    level := s.levelOf e.code, at_ := s.now, used := true, suppressed := b.suppressed + 1,
    tFirst := if b.suppressed = 0 then e.time else b.tFirst, tLast := e.time, maxSev := max b.maxSev (evInfo e.code).1,
    lastFlags := e.flags, lastInst := e.instNo }

@[simp] theorem State.setRec_part (s : State) (r : Recorder) (p : Nat) : (s.setRec r).part p = s.part p := (rfl)

/-- The step of a record is read from the partitions, which the buckets do not touch. -/
@[simp] theorem State.setBucketOf_stepFor (s : State) (code : Nat) (b : Bucket) (part : Option Nat) :
    (s.setBucketOf code b).stepFor part = s.stepFor part := by
  unfold State.setBucketOf State.stepFor State.firstStarted
  simp only [State.setRec_part, State.setRec_rd]

section
variable {s : State} {e : Ev}

theorem State.takeEvent_never (hfree : neverSuppressed e.code (evInfo e.code).1 = true) :
    s.takeEvent e = s.writeRecord e.code (evInfo e.code).1 e.flags e.instNo (s.stepFor e.part) e.time e.payload
      (noticeQueues (evInfo e.code).2 e.part e.notice) :=
  if_pos hfree

variable (hlimited : neverSuppressed e.code (evInfo e.code).1 = false)
include hlimited

theorem State.takeEvent_token {b : Bucket} {l : Nat} {t : State} (hb : b = s.bucketOf e.code) (hl : l = s.levelOf e.code)
    (htoken : tokenUnits ≤ l)
    (ht : t = (s.setBucketOf e.code { b with level := l - tokenUnits, at_ := s.now, used := true }).writeRecord e.code
      (evInfo e.code).1 e.flags e.instNo (s.stepFor e.part) e.time e.payload (noticeQueues (evInfo e.code).2 e.part e.notice)) :
    s.takeEvent e = if b.suppressed ≠ 0 ∧ s.bucketFull e.code then t.writeSuppressed e.code else t := by
  subst hb hl ht
  refine (if_neg ((Bool.not_eq_true _).mpr hlimited)).trans ?_
  refine (if_pos htoken).trans ?_
  simp only [State.setBucketOf_stepFor]

theorem State.takeEvent_suppressed (hempty : s.levelOf e.code < tokenUnits) :
    s.takeEvent e = (s.setBucketOf e.code (s.suppressing e)).bumpSat Fld.evrecSuppressed_count 1 := by
  refine (if_neg ((Bool.not_eq_true _).mpr hlimited)).trans ?_
  exact if_neg (Nat.not_le.mpr hempty)

end

@[simp] theorem State.setBucketOf_bucketOf (s : State) (code : Nat) (b : Bucket) : (s.setBucketOf code b).bucketOf code = b :=
  Sparse.get_put_self bucketD s.recorder.buckets code b

@[simp] theorem State.bumpSat_bucketOf (s : State) (r : FieldRef) (k code : Nat) :
    (s.bumpSat r k).bucketOf code = s.bucketOf code := by
  unfold State.bucketOf
  rw [State.bumpSat_recorder]

theorem State.levelOf_unused {s : State} {code : Nat} (hunused : (s.bucketOf code).used = false) :
    s.levelOf code = (s.rateOf code).2 * tokenUnits := by
  unfold State.levelOf
  simp only [hunused, Bool.false_eq_true, if_false]

/-- Settles O57, by where the policy places a record and what its code's bucket holds. -/
theorem recordsAreNumberedPlacedAndLimited : Obligations.RecordsAreNumberedPlacedAndLimited := by
  refine ⟨?dropped, ?placed, ?never, ?token, ?noToken, ?unused, ?pinned, ?ring, ?lowest, ?allHigher⟩
  case dropped =>
    intro s code sev flags inst step time payload queues hplace
    exact State.writeRecord_dropped _ _ _ _ _ _ _ hplace
  case placed =>
    intro s code sev flags inst step time payload queues k hplace
    refine ⟨_, State.writeRecord_placed _ _ _ _ _ _ _ hplace rfl, ?_, State.stored_recSlot_self .., ?_,
      State.stored_seqHi .., State.stored_wrapped _, ?_, ?_⟩
    · rw [State.stored_recorder]; rfl
    · intro j hj
      exact State.stored_recSlot_ne s _ hj
    · rw [State.stored_recorder]; rfl
    · rw [State.stored_recorder]; rfl
  case never =>
    intro s e hfree
    exact State.takeEvent_never hfree
  case token =>
    intro s e b l t hlimited hb hl htoken ht
    exact State.takeEvent_token hlimited hb hl htoken ht
  case noToken =>
    intro s e b l hlimited hb hl hempty
    subst hb hl
    rw [State.takeEvent_suppressed hlimited hempty, State.bumpSat_recorder, State.bumpSat_bucketOf, State.setBucketOf_bucketOf]
    exact ⟨rfl, rfl, rfl, State.f_bumpSat_self _ 1 (by decide)⟩
  case unused =>
    intro s code hunused
    exact State.levelOf_unused hunused
  case pinned =>
    intro s sev k hsplit hempty
    exact State.place_pinned sev hsplit hempty
  case ring =>
    intro s sev hsplit hfull
    exact State.place_ring sev hsplit hfull
  case lowest =>
    intro s sev k hsev hempty
    exact State.place_lowest sev hsev hempty
  case allHigher =>
    intro s sev hsev hfull hhigher
    exact State.place_none sev hsev hfull hhigher

/-! ### Clears (R397) -/

section
variable {s : State} {w : Writer}

theorem evrecClearAll_denied (hw : s.mayClear w = false) (pinned : Bool) :
    evrecClearAll w pinned true s = s.badWrite Reg.evrecClear (0x80000002 + (if pinned then 1 else 0)) := by
  unfold evrecClearAll
  simp only [hw, Bool.not_false, if_true]

theorem evrecClearAll_allowed (hw : s.mayClear w = true) (pinned : Bool) :
    evrecClearAll w pinned true s = s.clearLog 32768 (if pinned && s.split then 3 else 2) := by
  unfold evrecClearAll
  simp only [hw, Bool.not_true, Bool.false_eq_true, if_false, if_true]

theorem evrecClearPinned_denied (hw : s.mayClear w = false) :
    evrecClearPinned w true s = s.badWrite Reg.evrecClear 0x80000001 := by
  unfold evrecClearPinned
  simp only [hw, Bool.not_false, if_true]

theorem evrecClearPinned_split (hw : s.mayClear w = true) (hsplit : s.split = true) :
    evrecClearPinned w true s = s.clearLog 4096 1 := by
  unfold evrecClearPinned
  simp only [hw, hsplit, Bool.not_true, Bool.and_self, Bool.false_eq_true, if_false, if_true]

theorem evrecClearPinned_severity (hw : s.mayClear w = true) (hsev : s.split = false) : evrecClearPinned w true s = s := by
  unfold evrecClearPinned
  simp only [hw, hsev, Bool.not_true, Bool.and_false, Bool.false_eq_true, if_false]

end

/-- Settles O58, by who writes and under which policy. -/
theorem onlyTheDeviceClearsTheLog : Obligations.OnlyTheDeviceClearsTheLog := by
  refine ⟨?allDenied, ?all, ?pinned, ?pinnedSeverity, ?pinnedDenied⟩
  case allDenied =>
    intro s w p t hl hw ht
    obtain ⟨hrun, hkeeps⟩ := hl.records ((evrecClearAll_denied hw p).trans ht.symm) (evrecClearAll_ext rfl (.refl _ s))
    exact ⟨hrun, ht ▸ s.badWrite_slots _ _, hkeeps⟩
  case all =>
    intro s w p v t hl hw hv ht
    subst hv
    exact hl.records ((evrecClearAll_allowed hw p).trans ht.symm) (evrecClearAll_ext rfl (.refl _ s))
  case pinned =>
    intro s w v t hl hw hsplit hv ht
    subst hv
    exact hl.records ((evrecClearPinned_split hw hsplit).trans ht.symm) (evrecClearPinned_ext rfl (.refl _ s))
  case pinnedSeverity =>
    intro s w t hl hw hsev ht
    exact hl.records ((evrecClearPinned_severity hw hsev).trans ht.symm) (evrecClearPinned_ext rfl (.refl _ s))
  case pinnedDenied =>
    intro s w t hl hw ht
    obtain ⟨hrun, hkeeps⟩ := hl.records ((evrecClearPinned_denied hw).trans ht.symm) (evrecClearPinned_ext rfl (.refl _ s))
    exact ⟨hrun, ht ▸ s.badWrite_slots _ _, hkeeps⟩

end Sys2Proof.Machine
end
